-- ==== Sys2Proof/Word.lean ====
section
/-! DEFINITION. The data kinds the whole model is written with: sparse tables, bytes, and the vocabulary in which a
dictionary entry is described (types, access kinds, apply points and limits: R29 to R33). -/

namespace Sys2Proof

/-- A sparse table: key and value pairs. An instance number, an entry key or an offset is the key. -/
abbrev Tab (α : Type) := List (Nat × α)

/-- One byte of memory. -/
abbrev Byte := BitVec 8

/-- The types of R30. `bits w m` is a BITSET of `w` bits of which `m` are defined (the others are reserved, R10);
`domain n` is a DOMAIN of at most `n` bytes. -/
inductive Ty where
  | bool
  | u (w : Nat)
  | i (w : Nat)
  | q (m n : Nat)
  | enum
  | bits (w m : Nat)
  | time
  | pos
  | domain (max : Nat)
deriving DecidableEq, Repr

/-- The access kinds of R31. -/
inductive AccKind where
  | ro | rw | wo | rws | staged | w1c
deriving DecidableEq, Repr

/-- The apply points of R33; `none` is an entry without one. -/
inductive Apply where
  | none | immediate | band | line | repeat | commit
deriving DecidableEq, Repr

/-- The limits a row of an entry table sets for the entry's value alone (R39, check 8). -/
inductive Lim where
  /-- any value of the type -/
  | any
  /-- from `lo` to `hi` -/
  | rng (lo hi : Int)
  /-- one of the listed codes -/
  | vals (l : List Nat)
  /-- a multiple of `m` -/
  | mult (m : Nat)
  /-- a multiple of `m` from `lo` to `hi` -/
  | multRng (m lo hi : Nat)
  /-- from `lo` to `hi`, or the value `v` -/
  | rngOr (lo hi v : Nat)
deriving DecidableEq, Repr

/-- One row of an entry table: the indices `base` to `base + count - 1`, the subindices `lo` to `hi`, and what R29 says
every entry has. `dflt` is the raw value at reset, for a DOMAIN the length at reset. `len` marks a length, count or size
field, in which zero is refused with ERR_ZERO (R48); `zmo` marks a field that the descriptor flags zero-means-off. -/
structure Row where
  base : Nat
  count : Nat
  lo : Nat
  hi : Nat
  ty : Ty
  acc : AccKind
  dflt : Nat
  app : Apply
  len : Bool
  zmo : Bool
  lim : Lim
deriving DecidableEq, Repr

end Sys2Proof
end

