-- ==== Sys2Proof/Syntax.lean ====
section
/-! DEFINITION. The commands of the block: one constructor per row of spec/opcode_table.json, with the operands a row's
rules give it. A command is an access of the object dictionary (`Acc`), a message or frame that arrives, a change at a
ball, or the moment at which something the device has begun ends. -/

namespace Sys2Proof

/-- One access of the dictionary (R34 to R39): the path number (0 HOST, 1 to 4 SC0 to SC3, 5 NET, 6 LINK), whether the
access is made secure on its path, its size in bytes, its byte offset within the entry's slot, and for a write the bytes
written as a little-endian number. -/
structure Acc where
  path : Nat
  secure : Bool
  size : Nat
  offset : Nat
  value : Nat
deriving DecidableEq, Repr

/-- A UDP datagram to the dictionary port: the Ethernet port it came in on, its source, and its payload (R56). -/
structure Datagram where
  eth : Nat
  addr : Nat
  udpPort : Nat
  bytes : List Nat
deriving DecidableEq, Repr

/-- The three inputs of an encoder channel (R64). -/
inductive EncIn where
  | a | b | z
deriving DecidableEq, Repr

/-- A serial encoder frame as it completes (R67): whether Start came within AckTimeout, the position bits as a number (first
bit most significant), nE and nW, the six CRC bits as sent, and the parity bit. -/
structure SerialFrame where
  acked : Bool
  position : Nat
  nE : Bool
  nW : Bool
  crc : Nat
  parity : Bool
deriving DecidableEq, Repr

/-- A message of the Skobaty link as it is received (R453 to R455): Class, Flags, the header's fields, the payload, whether its CRC
holds, whether its blocks and reserved fields are sound, and for TIME the raw receive stamp in 2^−16 ns (R491). -/
structure Msg where
  cls : Nat
  flags : Nat
  source : Nat
  dest : Nat
  epoch : Nat
  role : Nat
  hops : Nat
  lineage : Nat
  seq : Nat
  payload : List Nat
  crcOk : Bool
  sound : Bool
  stamp : Nat
deriving DecidableEq, Repr

/-- What discovery's bootstrap reads find (R111): version code (1 version 1.1, 2 version 2.0), links and speed codes
offered. -/
structure CamQuery where
  ok : Bool
  version : Nat
  links : Nat
  speeds : List Nat
deriving DecidableEq, Repr

/-- What the links show when they lock at the chosen speed (R111, R515): each link's connection identity, eye width in phase
steps and equaliser setting. -/
structure CamTrain where
  identities : List Nat
  eyes : List Nat
  equalisers : List Nat
deriving DecidableEq, Repr

/-- A camera line as it is reassembled (R116): its samples, the packets of it with a bad CRC, and what its header says: stream
identifier, pixel format, line width, and line count in the stream. -/
structure CamLine where
  samples : List Nat
  badCrc : Nat
  stream : Nat
  format : Nat
  width : Nat
  count : Nat
deriving DecidableEq, Repr

/-- What an ECC read finds (R361). -/
inductive EccRead where
  | clean | corrected | uncorrectable
deriving DecidableEq, Repr

/-- The capabilities a peer sends (R443, R444). -/
structure SklCap where
  speeds : Nat
  lanes : Nat
  node : Nat
deriving DecidableEq, Repr

/-- A TRAIN block at TUNE (R444, R445): the peer's requests for this transmitter (PreReq, MainReq and PostReq in bits 1:0, 3:2 and 5:4,
Preset in bit 6), its answers to this receiver's (PreStat, MainStat, PostStat the same way) and its RxReady; and what this receiver's
own adaptation does next: a request of its own, or the end of its tuning with the eye width it found. -/
structure TrainBlock where
  request : Nat
  answer : Nat
  ready : Bool
  own : Nat
  eye : Option Nat
deriving DecidableEq, Repr

/-- What resets the PCIe endpoint (R482). -/
inductive PcieReset where
  | perst | hot | flr
deriving DecidableEq, Repr

/-- What a calibration measures (R514, R515): the smallest window, the skew spread and the residual. -/
structure CalMeasure where
  margin : Nat
  spread : Nat
  residual : Nat
  timedOut : Bool
deriving DecidableEq, Repr

/-- What the host does to its MSI-X function (R432). -/
inductive MsixOp where
  | unmaskVector (v : Nat)
  | unmaskFunction
  | enable
deriving DecidableEq, Repr

/-- The commands, one constructor per row of the table; each row's summary is its docstring. -/
inductive Instr where
  /-- POWER_ON_RESET: PORST_N is asserted, or the on-die detector asserts power-on reset; the device enters RESET and every entry is reloaded. (R537) -/
  | powerOnReset
  /-- WARM_RESET: WRST_N is held low for 160 ns; DRAM enters self-refresh and the device resets, keeping the listed state. (R538) -/
  | warmReset
  /-- RESET_REQUEST: A write of 0x0000_5752 to ResetRequest causes a warm reset; this is accepted even in FAULT and FENCED. (R537) -/
  | resetRequest (a : Acc)
  /-- SUPPLY_DETECT: VDD_CORE or VDD_IO18 falls below its threshold; the detector asserts power-on reset and releases it 100 µs after both supplies recover. (R579) -/
  | supplyDetect
  /-- RESET_RELEASE: Reset is released; BOOT_SEL is sampled, the device enters BOOT, the PLL locks and the fuses are loaded. (R538) -/
  | resetRelease (straps : Nat)
  /-- BOOT_HEADER_READ: The sequencer has read the image header and the boot configuration and checks them. (R541) -/
  | bootHeaderRead (image : List Nat) (complete : Bool)
  /-- DRAM_TRAIN_DONE: DRAM training or verification of the used channels completes; a failure on a channel in use is DRAM_TRAIN. (R540) -/
  | dramTrainDone (failed : Nat)
  /-- DRAM_ZERO_DONE: Zeroing of all populated DRAM with valid ECC completes at power-on boot. (R359) -/
  | dramZeroDone
  /-- PAYLOAD_LOADED: The payload has been loaded and hashed; the key and signature are checked, and SC0 is released or the next copy is tried. (R540) -/
  | payloadLoaded (payload sig : List Nat) (complete : Bool)
  /-- BOOT_GO: The host writes BootGo; the sequencer fetches the image from host memory by DMA. (R544) -/
  | bootGo (a : Acc)
  /-- BOOT_COMPLETE: Firmware writes BootComplete; every range is served to every path and the device enters STOPPED. (R545) -/
  | bootComplete (a : Acc)
  /-- ADVANCE_SECURITY_VERSION: A write starts burning the thermometer fuses up to the written value. (R546) -/
  | advanceSecurityVersion (a : Acc)
  /-- REVOKE_KEY: A write starts burning the revocation fuse of a key slot. (R546) -/
  | revokeKey (a : Acc)
  /-- FUSE_BURN_DONE: A fuse burn completes, within 10 ms. (R546) -/
  | fuseBurnDone
  /-- CORE_RELEASE: SC0 writes CoreRelease; each named core leaves reset at CoreEntry in machine mode. (R557) -/
  | coreRelease (a : Acc)
  /-- ARM: StateRequest ARM checks the preconditions and enters ARMED; Slip fills the first bar lines and engines are reserved. (R25) -/
  | arm (a : Acc) (acks : Nat)
  /-- RUN: StateRequest RUN, with StartSource COMMAND, enters RUNNING and fixes Origin. (R94) -/
  | run (a : Acc)
  /-- STOP: StateRequest STOP leaves ARMED, starts draining from RUNNING, or aborts the drain in DRAINING. (R27) -/
  | stop (a : Acc)
  /-- DISARM: StateRequest DISARM returns the device from ARMED to STOPPED. (R25) -/
  | disarm (a : Acc)
  /-- SLEEP: StateRequest SLEEP ends scans and calibrations and enters STANDBY, or is refused when a wake condition holds. (R548) -/
  | sleep (a : Acc) (acks : Nat)
  /-- WAKE: StateRequest WAKE starts waking from STANDBY, or is latched while domains power down. (R549) -/
  | wake (a : Acc)
  /-- DEV_STOP: A delivery to task input DEV_STOP in RUNNING acts as a stop input with StopCause STOP_INPUT. (R415) -/
  | devStop
  /-- DRAIN_COMPLETE: Every drain condition for the units in RunMask holds; the device enters STOPPED. (R27) -/
  | drainComplete
  /-- DRAIN_TIMEOUT: DrainTimeout expires in DRAINING; the device enters STOPPED, discarding unfired and uninspected data. (R27) -/
  | drainTimeout
  /-- DICT_WRITE: A write to an entry with no row of its own is checked in order, then stored (live or Shadow bank) and applied. (R39) -/
  | dictWrite (a : Acc) (k : Nat)
  /-- READ_CLEAR_EXTREME: A read of a 'reading clears' entry returns the extreme and resets it afresh. (R582) -/
  | readClearExtreme (a : Acc) (k : Nat)
  /-- TIME_READ: A flat-window read of a TIME entry returns nanoseconds and latches the fraction into TimeFraction. (R37) -/
  | timeRead (a : Acc) (k : Nat)
  /-- COMMIT: Writing COMMIT checks zero and cross-field rules, reserves sherds, and makes the group PENDING or refuses it. (R49) -/
  | commit (a : Acc) (idx : Nat)
  /-- DISCARD: Writing DISCARD reloads the Shadow bank from the live set. (R50) -/
  | discard (a : Acc) (idx : Nat)
  /-- COMMIT_APPLY: A pending group's apply point arrives; the Shadow bank becomes live in one FABCLK and Generation increments. (R49) -/
  | commitApply (idx : Nat)
  /-- GIVE: The OwnCommand op GIVE hands the target index to a new owner class. (R43) -/
  | give (a : Acc) (target newOwner : Nat)
  /-- LOCK: The OwnCommand op LOCK locks the target index until reset. (R44) -/
  | lock (a : Acc) (target : Nat)
  /-- SET_SECURE: The OwnCommand op SET_SECURE makes the target index SECURE. (R43) -/
  | setSecure (a : Acc) (target : Nat)
  /-- SET_OPEN: The OwnCommand op SET_OPEN makes the target index OPEN. (R43) -/
  | setOpen (a : Acc) (target : Nat)
  /-- CHALLENGE: A read of Challenge returns a new random value and voids the previous one. (R45) -/
  | challenge (a : Acc)
  /-- PROOF_GO: Writing ProofGo checks the HMAC proof and makes the HOST path secure, or counts a failure. (R45) -/
  | proofGo (a : Acc)
  /-- PROOF_LOCKOUT_END: The 1 s ProofGo lockout after three failures ends. (R45) -/
  | proofLockoutEnd
  /-- DROP: Writing Drop ends the path's secure status. (R63) -/
  | drop (a : Acc) (p : Nat)
  /-- DOM_GO: Writing DomGo checks and starts a domain transfer between a DOMAIN and memory. (R54) -/
  | domGo (a : Acc) (p : Nat)
  /-- DOMAIN_TRANSFER_DONE: A domain transfer ends DONE or ERROR and raises DICT_DOMAIN_DONE. (R54) -/
  | domainTransferDone (p : Nat) (host : List Nat) (failAt : Option Nat)
  /-- OPEN_REQ: A UDP OPEN_REQ is answered with OPEN_CHAL, or with ERROR when sessions are full or the policy forbids it. (R58) -/
  | openReq (g : Datagram)
  /-- OPEN_PROOF: A UDP OPEN_PROOF is checked; the device answers OPEN_OK and derives the session key. (R58) -/
  | openProof (g : Datagram)
  /-- REQUEST: A UDP REQUEST is sequence-checked, then executed record by record or forwarded, and a RESPONSE is sent. (R59) -/
  | request (g : Datagram)
  /-- CLOSE: A UDP CLOSE closes the session. (R59) -/
  | close (g : Datagram)
  /-- SESSION_TIMEOUT: A session is silent for SessionTimeout and closes. (R59) -/
  | sessionTimeout (n : Nat)
  /-- ENCODER_TRANSITION: An encoder input changes level at its ball and starts its filter. (R65) -/
  | encoderTransition (n : Nat) (input : EncIn) (level : Bool)
  /-- COUNT_ACCEPTED: A transition is accepted after FilterLength, decoded into a count that updates rotary, linear position, direction and index checks. (R66) -/
  | countAccepted (n : Nat) (input : EncIn)
  /-- SERIAL_FRAME_START: The SerialPeriod timer starts a BiSS-C or SSI frame on WHL_CLK. (R67) -/
  | serialFrameStart (n : Nat)
  /-- SERIAL_FRAME: A serial frame completes; it is checked and its position delta counts. (R68) -/
  | serialFrame (n : Nat) (f : SerialFrame)
  /-- INDEX_PULSE: An accepted index pulse forms D and corrects the rotary counter or counts a mismatch. (R78) -/
  | indexPulse (n : Nat)
  /-- STALL_TIMEOUT: No count for StallTime sets the period estimate to zero. (R71) -/
  | stallTimeout (n : Nat)
  /-- TRIGGER_EMIT: The position passes a generator's grid point; a camera or raster trigger is raised 7 FABCLK after the crossing. (R95) -/
  | triggerEmit (g : Nat)
  /-- COMPARE_FIRE: A compare unit's position reaches its value; it fires, steps Value or pops its queue, and pulses its pin. (R89) -/
  | compareFire (m : Nat)
  /-- COMPARE_PULSE_END: A compare's PulseLength ends and its pin returns inactive. (R92) -/
  | comparePulseEnd (m : Nat)
  /-- PROBE_EDGE: A probe edge is accepted; position, rotary count and time are latched into its FIFO. (R88) -/
  | probeEdge (p : Nat) (rising : Bool)
  /-- POP: Writing Pop removes the oldest probe entry. (R88) -/
  | pop (a : Acc) (p : Nat)
  /-- PROBE_FLUSH: Writing Flush empties the probe FIFO. (R102) -/
  | probeFlush (a : Acc) (p : Nat)
  /-- LINEAR_PRESET: Writing LinearPreset sets the accumulator and the high-water mark. (R101) -/
  | linearPreset (a : Acc) (n : Nat)
  /-- ROTARY_PRESET: Writing RotaryPreset sets the rotary counter. (R101) -/
  | rotaryPreset (a : Acc) (n : Nat)
  /-- WHEEL_READMIT: Writing Readmit restarts a retired encoder channel from its last counted position. (R82) -/
  | wheelReadmit (a : Acc) (n : Nat)
  /-- POS_BROADCAST: The BroadcastPeriod timer sends a POS message with the web position. (R86) -/
  | posBroadcast
  /-- POS_MESSAGE: A received POS message updates the remote position, or starts the run on LINE_START. (R87) -/
  | posMessage (m : Msg)
  /-- REMOTE_TIMEOUT: No POS message for RemoteTimeout sets REMOTE_LOST and switches or freezes. (R87) -/
  | remoteTimeout
  /-- EMU_LAG_RELEASE: The EmuMaxRate limit allows a held-back emulated step to be output. (R98) -/
  | emuLagRelease (m : Nat)
  /-- CXP_LOCK: Character lock is found on a channel's master link; with AUTO it starts discovery. (R111) -/
  | cxpLock (n : Nat)
  /-- HUNT_LOCK: Comma lock holds for 1,024 characters at the tried speed; discovery enters Query. (R111) -/
  | huntLock (n : Nat)
  /-- HUNT_TIMEOUT: Hunt tries for 1 s at the highest speed without lock; the channel returns to ABSENT. (R111) -/
  | huntTimeout (n : Nat)
  /-- QUERY_DONE: Bootstrap register reads end; Configure chooses link count and speed or fails. (R111) -/
  | queryDone (n : Nat) (r : CamQuery)
  /-- TRAIN_DONE: All links lock at the chosen speed with one connection identity; the channel becomes ACTIVE. (R111) -/
  | trainDone (n : Nat) (t : CamTrain)
  /-- TRAIN_TIMEOUT: Links do not all lock within 200 ms; DISC_FAIL. (R111) -/
  | trainTimeout (n : Nat)
  /-- REDISCOVER: Writing Rediscover starts discovery from ABSENT. (R128) -/
  | rediscover (a : Acc) (n : Nat)
  /-- CAM_READMIT: Writing Readmit returns a retired camera channel to ABSENT. (R122) -/
  | camReadmit (a : Acc) (n : Nat)
  /-- CAM_TRIGGER: A camera trigger reaches its channel and is sent, held or lost. (R113) -/
  | camTrigger (n : Nat)
  /-- TRIGGER_PACKET_START: A trigger packet starts at the next uplink character boundary with its delay field. (R113) -/
  | triggerPacketStart (n : Nat)
  /-- TRIGGER_PACKET_END: A trigger packet ends; a held trigger may then be sent. (R114) -/
  | triggerPacketEnd (n : Nat)
  /-- LINE_RECEIVED: A camera line is reassembled, checked, paired with a trigger and written to the FIFO, or discarded as owed or failed. (R116) -/
  | lineReceived (n : Nat) (l : CamLine)
  /-- SKEW_TIMEOUT: A missing packet tag waits LinkSkewMax; the line is MALFORMED. (R116) -/
  | skewTimeout (n : Nat)
  /-- LATE_LINE: A listed trigger waits LineTimeout without a line; its band is dropped. (R118) -/
  | lateLine (n : Nat)
  /-- OWED_LINE_LAPSE: An owed line lapses LineTimeout after it became owed. (R583) -/
  | owedLineLapse (n : Nat)
  /-- BAND_END: A band has all its triggers and every line accepted or dropped; CAMn_BAND_END is raised. (R119) -/
  | bandEnd (n : Nat)
  /-- CXP_LINK_LOST: A camera link loses lock; the channel enters RELOCK, drops bands and counts a fault, possibly retiring. (R120) -/
  | cxpLinkLost (n link : Nat)
  /-- CXP_RELOCKED: Every lost link relocks; the channel accepts lines from the next band. (R120) -/
  | cxpRelocked (n : Nat) (eyes : List Nat)
  /-- RELOCK_TIMEOUT: The channel stays in RELOCK for RetryWindow and is retired. (R121) -/
  | relockTimeout (n : Nat)
  /-- CXP_HEARTBEAT: A camera heartbeat packet is counted. (R110) -/
  | cxpHeartbeat (n : Nat)
  /-- CXP_EVENT: A camera event or GPIO packet is counted and discarded. (R110) -/
  | cxpEvent (n : Nat)
  /-- CXP_TRIGGER_ACK: A trigger acknowledge packet is counted. (R110) -/
  | cxpTriggerAck (n : Nat)
  /-- TUNNEL_GO: Writing TunnelGo starts a control tunnel transfer to camera registers. (R124) -/
  | tunnelGo (a : Acc) (n : Nat)
  /-- TUNNEL_ACK: A control acknowledge arrives; the next command is sent or the tunnel ends. (R124) -/
  | tunnelAck (n code : Nat) (data : List Nat) (wait : Bool)
  /-- TUNNEL_TIMEOUT: No acknowledge within Timeout ends the tunnel TIMEOUT. (R124) -/
  | tunnelTimeout (n : Nat)
  /-- ROUND_OPEN: A pipe's input is free with complete lines waiting; the arbiter snapshots contexts and reads one line of each. (R133) -/
  | roundOpen (p : Nat)
  /-- PIPE_LINE_DONE: A corrected line leaves the pipe into the resampler and is measured for band statistics. (R134) -/
  | pipeLineDone (n : Nat)
  /-- FLUSH_PASS: The last line of an ALTERNATE band is merged from the line store once the band has ended. (R137) -/
  | flushPass (n : Nat)
  /-- PRISM_BAND_DONE: A band's Prism part closes; PRSn_BAND_DONE is raised. (R147) -/
  | prismBandDone (n : Nat)
  /-- REPLAY_LINE: The replay reader reads a line from DRAM into the FIFO at the paced moment. (R149) -/
  | replayLine (n : Nat)
  /-- LOAD_INTERVAL_END: A 1 ms interval ends; LoadPercent updates. (R151) -/
  | loadIntervalEnd (p : Nat)
  /-- SEAM_MEMBER_LINE: A member's resampled line completes in its wait buffer; it opens or readies a stitched line, or forces one out. (R163) -/
  | seamMemberLine (n : Nat)
  /-- SEAM_DEADLINE: SeamWait passes for an open line; it becomes ready without its missing members. (R163) -/
  | seamDeadline
  /-- LINE_EMIT: A ready stitched line is emitted to Umbra, coding, windows and views. (R169) -/
  | lineEmit (refLate : Nat)
  /-- WIN_START: Task input WINw_START starts a capture. (R174) -/
  | winStart (w : Nat)
  /-- BAND_RECORD: A band's Prism part and seam lines are done; a band record is written to RecordQueue. (R181) -/
  | bandRecord (n : Nat)
  /-- TAG_WRITE: A closed component's tag is written to the tag queue once a credit is held; reject and mark positions are pushed. (R210) -/
  | tagWrite
  /-- JOIN_HOLD_END: A fragment group's holds end; a MERGED tag and JOIN record are written. (R215) -/
  | joinHoldEnd
  /-- CROP_DONE: A kept crop is complete, compressed or raw; its offset goes to CropQueue. (R219) -/
  | cropDone
  /-- CRAZE_WINDOW_END: A Crazing window ends; candidates are confirmed, reported and masked. (R221) -/
  | crazeWindowEnd
  /-- BAR_LINE_START: Every port of a bar holds a credit and input is ready; pending Glaze changes apply and the bar line starts screening. (R256) -/
  | barLineStart (b : Nat)
  /-- BAR_LINE_DONE: A bar line's banks are complete and its ring plane is written. (R256) -/
  | barLineDone (b : Nat)
  /-- SEGMENT_FETCH: Slip gives a plate segment's decompression to an idle reserved engine. (R239) -/
  | segmentFetch (e : Nat)
  /-- MASK_CLEAR: Writing MaskClear queues a request to clear DEAD_CRAZE and DEAD_SCAN. (R246) -/
  | maskClear (a : Acc)
  /-- MASK_REQUEST_APPLY: A queued mask request applies to a bar that is not screening. (R246) -/
  | maskRequestApply
  /-- RASTER_TRIGGER: A raster trigger reaches a bar's ports; the line is fired with its latch or skipped. (R273) -/
  | rasterTrigger (b : Nat)
  /-- SHIFT_START: The next complete bar line starts shifting into the heads after latch and hold. (R274) -/
  | shiftStart (p : Nat)
  /-- SHIFT_DONE: A bank's last bit leaves the balls; its credit returns to Slip. (R272) -/
  | shiftDone (p : Nat)
  /-- STROBE_START: A head's alignment delay elapses; its strobe window begins. (R275) -/
  | strobeStart (h : Nat)
  /-- STROBE_SEGMENT_END: A strobe window segment ends and the next begins, or the window ends. (R277) -/
  | strobeSegmentEnd (h : Nat)
  /-- STROBE_CUT: The watchdog finds a strobe active beyond StrobeMax; it forces it off and retires the head. (R283) -/
  | strobeCut (h : Nat)
  /-- PORT_POWER_ON: PortPower ON asserts KP_PWREN on an OFF port. (R284) -/
  | portPowerOn (a : Acc) (p : Nat)
  /-- POWER_ON_DELAY_END: PowerOnDelay ends; lane deskew starts. (R284) -/
  | powerOnDelayEnd (p : Nat)
  /-- DESKEW_DONE: A Kiln deskew completes, passed or failed; identification follows or the port retries. (R517) -/
  | deskewDone (p : Nat) (spread residual : Nat)
  /-- HEAD_IDENTIFIED: A head identification read completes and sets HeadState. (R286) -/
  | headIdentified (h : Nat) (id : Option (List Nat))
  /-- PORT_POWER_OFF: PortPower OFF is requested for a port. (R285) -/
  | portPowerOff (a : Acc) (p : Nat)
  /-- POWER_DOWN_BEGIN: The last strobe window has ended at a bar-line boundary; the port enters POWERING_DOWN. (R285) -/
  | powerDownBegin (p : Nat)
  /-- POWER_OFF_DELAY_END: PowerOffDelay ends; KP_PWREN falls and the port enters OFF. (R285) -/
  | powerOffDelayEnd (p : Nat)
  /-- TEMP_POLL: The TempPoll timer starts temperature reads of the port's heads. (R287) -/
  | tempPoll (p : Nat)
  /-- TEMP_READING: A temperature read completes; the value is stored or a transient head fault is counted. (R287) -/
  | tempReading (h : Nat) (t : Option Nat)
  /-- HEAD_READMIT: Writing head Readmit clears its faults and identifies it again. (R288) -/
  | headReadmit (a : Acc) (h : Nat)
  /-- PORT_READMIT: Writing port Readmit repeats deskew and identification. (R290) -/
  | portReadmit (a : Acc) (p : Nat)
  /-- SCAN_GO: Writing ScanGo in STOPPED starts a resistance scan of the selected heads. (R292) -/
  | scanGo (a : Acc) (acks : Nat)
  /-- SCAN_ABORT: Writing ScanAbort ends the scan at the current element. (R294) -/
  | scanAbort (a : Acc) (acks : Nat)
  /-- SCAN_SETTLE_END: SenseSettle passes after an element select; its conversion may start. (R293) -/
  | scanSettleEnd
  /-- SCAN_ELEMENT: An element's Gauge word is taken, compared with limits and stored; a scan end writes MeasureReg 0. (R293) -/
  | scanElement
  /-- GAUGE_OUTPUT: A Gauge channel produces an output word after decimation or a single-cycle conversion. (R309) -/
  | gaugeOutput (c : Nat) (bits : List Bool)
  /-- GSYNC_EDGE: A GSYNC edge restarts all sixteen chains together. (R315) -/
  | gsyncEdge (rising : Bool)
  /-- SYNC_NOW: Writing SyncNow requests a synchronising reset. (R315) -/
  | syncNow (a : Acc)
  /-- GA_SYNC_REQ: Task input GA_SYNC_REQ requests a synchronising reset. (R315) -/
  | gaSyncReq
  /-- SWAP_TARGET: Writing SwapTarget requests a cross-fade to a coefficient bank. (R318) -/
  | swapTarget (a : Acc) (c : Nat)
  /-- CAL_GO: Writing CalGo in STOPPED starts an offset and gain calibration. (R321) -/
  | calGo (a : Acc) (c : Nat)
  /-- MOD_STUCK: A modulator stream has no transition for 2^20 clocks; a transient Gauge fault is counted. (R504) -/
  | modStuck (c : Nat)
  /-- GAUGE_READMIT: Writing Readmit re-admits a retired Gauge channel. (R506) -/
  | gaugeReadmit (a : Acc) (c : Nat)
  /-- LOOP_WINDOW_END: A colour-loop window ends; lamp ratios are formed and the fold of the slot begins. (R329) -/
  | loopWindowEnd
  /-- LOOP_FOLD_DONE: A fold finishes applying the update law and queues knot updates. (R338) -/
  | loopFoldDone
  /-- APPROVE: ApproveCommand APPROVE clears references and enters CAPTURING. (R341) -/
  | approve (a : Acc)
  /-- UNLOCK: ApproveCommand UNLOCK clears references and enters UNAPPROVED. (R341) -/
  | unlock (a : Acc)
  /-- HOLD: ApproveCommand HOLD enters HELD. (R341) -/
  | hold (a : Acc)
  /-- RESUME: ApproveCommand RESUME returns from HELD to LOCKED. (R341) -/
  | resume (a : Acc)
  /-- RESTORE: ApproveCommand RESTORE takes the saved loop store and ApprovalSet and enters LOCKED. (R341) -/
  | restore (a : Acc)
  /-- DRAM_REFRESH: tREFI expires and a channel issues an all-bank refresh. (R360) -/
  | dramRefresh (ch : Nat)
  /-- DRAM_TEMP_READ: The 32 ms case temperature read sets or clears DOUBLE_REFRESH. (R360) -/
  | dramTempRead (ch : Nat) (temp : Option Int)
  /-- DRAM_GRANT: A channel grants the highest-priority waiting request and completes it. (R363) -/
  | dramGrant (ch : Nat)
  /-- PATROL_READ: The patrol scrub reads and corrects a block in an idle channel cycle. (R361) -/
  | patrolRead (ch : Nat) (a : Nat) (e : EccRead) (lastBlock : Bool)
  /-- SELF_REFRESH_ENTRY: A channel idle for SelfRefreshIdle in STANDBY enters self-refresh. (R551) -/
  | selfRefreshEntry (ch : Nat)
  /-- DDR_TRACK: DdrTrackPeriod expires; read DQS delays move one tap in a refresh stall. (R516) -/
  | ddrTrack (ch : Nat) (moves : List Int)
  /-- QUEUE_ITEM_WRITE: A producer takes a credit and writes an item whole into a hardware queue. (R370) -/
  | queueItemWrite (q : Nat) (item : List Nat)
  /-- QUEUE_FLUSH: Writing Flush empties both banks of a queue. (R372) -/
  | queueFlush (a : Acc) (q : Nat)
  /-- PORT_QUEUE_FLUSH: Writing PortQueueFlush flushes Kiln port queues. (R372) -/
  | portQueueFlush (a : Acc)
  /-- DMA_GO: Writing Go starts an idle or halted DMA channel at Start. (R380) -/
  | dmaGo (a : Acc) (c : Nat)
  /-- DOORBELL: Writing Doorbell makes a waiting channel fetch its descriptor again. (R375) -/
  | doorbell (a : Acc) (c : Nat)
  /-- DMA_ABORT: Writing Abort stops the channel at the next beat boundary. (R380) -/
  | dmaAbort (a : Acc) (c : Nat)
  /-- DESC_FETCH: A descriptor fetch completes and the descriptor is checked. (R375) -/
  | descFetch (c : Nat)
  /-- DMA_PACE_START: A queue reaches HighMark; a paced channel starts moving items. (R376) -/
  | dmaPaceStart (c : Nat)
  /-- DMA_MAXWAIT: The oldest queued item has waited MaxWait; the channel moves items until empty. (R376) -/
  | dmaMaxwait (c : Nat)
  /-- DESC_COMPLETE: A descriptor completes after all beats and writeback; Next is fetched. (R378) -/
  | descComplete (c : Nat) (host : List Nat)
  /-- DMA_ERROR_RESPONSE: A beat gets an error response; the descriptor ends BUS_ERROR or TAIL_ERROR and the channel halts. (R379) -/
  | dmaErrorResponse (c beats : Nat) (host : List Nat)
  /-- JOB_TAIL: Writing JobTail submits jobs to an engine ring. (R402) -/
  | jobTail (a : Acc) (e : Nat)
  /-- ZE_JOB_START: A free engine takes up a crop, Slip or ring job and checks its descriptor. (R406) -/
  | zeJobStart (e : Nat)
  /-- ZE_JOB_DONE: A compression job completes; status and results are written back. (R402) -/
  | zeJobDone (e : Nat)
  /-- ZE_ABORT: Writing Abort ends the engine's software job ABORTED. (R405) -/
  | zeAbort (a : Acc) (e : Nat)
  /-- EVENT_DELIVERY: A raised event is delivered one hop later to task inputs, interrupt source and Witness. (R417) -/
  | eventDelivery
  /-- TASK_ROUTE: Writing TaskRoute checks the channels and changes a task input's routes. (R418) -/
  | taskRoute (a : Acc) (n : Nat)
  /-- TASK_COINCIDE: Writing TaskCoincide stores a value. (R421) -/
  | taskCoincide (a : Acc) (n : Nat)
  /-- CLAIM: A read of Claim returns and takes the highest eligible source. (R427) -/
  | claim (a : Acc) (t : Nat)
  /-- COMPLETE: Writing Complete ends service of the claimed source. (R429) -/
  | complete (a : Acc) (t : Nat)
  /-- MASK_SET: Writing MaskSet masks sources. (R431) -/
  | maskSet (a : Acc) (w : Nat)
  /-- MASK_CLEAR_WORD: Writing MaskClear unmasks sources. (R431) -/
  | maskClearWord (a : Acc) (w : Nat)
  /-- PENDING_SET: Writing PendingSet makes sources pending without an arrival. (R431) -/
  | pendingSet (a : Acc) (w : Nat)
  /-- PENDING_CLEAR: Writing PendingClear clears pending bits. (R431) -/
  | pendingClear (a : Acc) (w : Nat)
  /-- MASK_SYNC: A read of MaskSync returns 0 once earlier MaskSet writes have taken effect. (R431) -/
  | maskSync (a : Acc)
  /-- HOLD_OFF_END: A hold-off group's timer ends and its pending sources become eligible. (R430) -/
  | holdOffEnd (g : Nat)
  /-- LANE_LOCK: A Skobaty lane gains block lock after 64 valid headers. (R442) -/
  | laneLock (l : Nat)
  /-- LANE_LOCK_LOST: A receiving lane loses lock and is retired; LANE_MAP is sent or the port goes DOWN. (R448) -/
  | laneLockLost (l : Nat)
  /-- LANE_FAULT: A run of invalid headers counts as a transient lane fault, possibly retiring the lane. (R448) -/
  | laneFault (l headers : Nat)
  /-- RETRAIN: Writing Retrain restarts training from HUNT. (R443) -/
  | retrain (a : Acc) (p : Nat)
  /-- SKL_HUNT_DONE: 10 ms pass after the first lane locks; training enters CAP. (R443) -/
  | sklHuntDone (p : Nat)
  /-- SKL_CAP_DONE: Capabilities are exchanged; the port switches speed or aligns. (R443) -/
  | sklCapDone (p : Nat) (c : SklCap)
  /-- SKL_SWITCH_DONE: Lanes lock at the new speed, or the step fails and falls back. (R443) -/
  | sklSwitchDone (p : Nat) (locked : Bool)
  /-- TRAIN_BLOCK: A TRAIN block carries tap requests and answers of the handshake. (R445) -/
  | trainBlock (l : Nat) (b : TrainBlock)
  /-- TAP_REQUEST_TIMEOUT: A tap request unanswered for 2 ms fails the lane. (R445) -/
  | tapRequestTimeout (l : Nat)
  /-- TUNE_TIMEOUT: A lane without RxReady at TuneTimeout fails. (R445) -/
  | tuneTimeout (l : Nat)
  /-- SKL_CHECK_DONE: 2^20 blocks per lane are counted; the step succeeds or falls back. (R443) -/
  | sklCheckDone (p : Nat) (errors : List Nat)
  /-- SKL_ALIGN_DONE: Lanes deskew on markers; the port is UP, or returns to HUNT. (R443) -/
  | sklAlignDone (p : Nat) (skews : List Nat) (peerFailed : Bool)
  /-- MARKER: A MARKER block aligns lanes and may take up a new lane map. (R447) -/
  | marker (p : Nat)
  /-- LANE_MAP: A LANE_MAP block requests a striping change, waking a sleeping direction. (R448) -/
  | laneMap (p mask : Nat)
  /-- LANE_READMIT: Writing LaneReadmit restarts the hunt of a retired lane. (R449) -/
  | laneReadmit (a : Acc) (p : Nat)
  /-- SLEEP_IDLE: A direction idle for SleepIdle sends SLEEP blocks and idles its drivers. (R451) -/
  | sleepIdle (p : Nat)
  /-- SLEEP_BLOCK: A receiver sees SLEEP blocks and reads ASLEEP. (R451) -/
  | sleepBlock (p : Nat)
  /-- DIRECTION_WAKE: A message ready for a sleeping direction wakes it. (R452) -/
  | directionWake (p : Nat)
  /-- MSG_TRANSMIT: A queued message is sent by class priority on a port. (R457) -/
  | msgTransmit (p : Nat)
  /-- EVT: A received EVT message raises LNK_RECVslot with its lineage. (R460) -/
  | evt (m : Msg)
  /-- LNK_SEND: A delivery to LNK_SENDk sends an EVT message. (R460) -/
  | lnkSend (k : Nat)
  /-- SYNC: A received TIME SYNC is stamped, and a DELAY_REQ is sent. (R493) -/
  | sync (p : Nat) (m : Msg)
  /-- DELAY_REQ: A received DELAY_REQ is answered with DELAY_RESP. (R461) -/
  | delayReq (p : Nat) (m : Msg)
  /-- DELAY_RESP: A DELAY_RESP completes an exchange; the time law steps or steers. (R493) -/
  | delayResp (p : Nat) (m : Msg)
  /-- DICT: A DICT message executes its records as LINK-path accesses, or delivers a response to the mailbox. (R462) -/
  | dict (m : Msg)
  /-- BULK: A BULK boundary record is taken for joining fragments. (R463) -/
  | bulk (m : Msg)
  /-- HEARTBEAT: A received HEARTBEAT refreshes routes and role liveness and is checked against RoleTable. (R466) -/
  | heartbeat (p : Nat) (m : Msg)
  /-- EPOCH: A received EPOCH raises the epoch and may promote this device. (R466) -/
  | epoch (m : Msg)
  /-- LINE_STALE: A received STALE message may teach the device that it is stale. (R468) -/
  | lineStale (m : Msg)
  /-- MSG_RECEIVED: A message is checked for staleness and duplicates, then delivered or forwarded. (R455) -/
  | msgReceived (p : Nat) (m : Msg)
  /-- HEARTBEAT_SEND: HeartbeatPeriod expires and a HEARTBEAT is broadcast. (R466) -/
  | heartbeatSend
  /-- ROLE_DEAD: A monitored role misses heartbeats; the master promotes a spare under a new epoch. (R466) -/
  | roleDead (r : Nat)
  /-- SPARE_PROMOTE: A spare of role 0 times out on the master and promotes itself. (R467) -/
  | sparePromote
  /-- ROUTE_EXPIRY: A route not refreshed for three heartbeat periods is forgotten. (R456) -/
  | routeExpiry (node : Nat)
  /-- SEQ_EXPIRY: A Last sequence entry not refreshed for SeqExpiry is forgotten. (R455) -/
  | seqExpiry (n : Nat)
  /-- BULK_WAIT_TIMEOUT: A local BULK message waits 1 ms for room and is dropped. (R457) -/
  | bulkWaitTimeout
  /-- DICT_GO: Writing DictGo sends the mailbox request to DictTarget. (R474) -/
  | dictGo (a : Acc)
  /-- DICT_TIMEOUT: No response within DictTimeout ends the mailbox TIMEOUT. (R462) -/
  | dictTimeout
  /-- PCIE_RESET: PERST, a hot reset or an FLR resets the endpoint only. (R482) -/
  | pcieReset (kind : PcieReset)
  /-- PCIE_LINK_UP: The PCIe link trains. (R477) -/
  | pcieLinkUp (speed width payload : Nat) (busMaster : Bool)
  /-- PCIE_LINK_DOWN: The PCIe link is lost. (R499) -/
  | pcieLinkDown
  /-- BAR2_BASE: Writing Bar2Base moves the DRAM aperture for later requests. (R479) -/
  | bar2Base (a : Acc)
  /-- ETH_FRAME_RECEIVE: A received Ethernet frame is sorted to the dictionary, core queue or hardware answer, or dropped. (R484) -/
  | ethFrameReceive (p : Nat) (frame : List Nat) (fcsOk : Bool)
  /-- ETH_LINK_UP: An Ethernet port's link comes up. (R499) -/
  | ethLinkUp (p eye : Nat)
  /-- ETH_LINK_FAULT: Loss of block lock or ETH_LOS counts a transient link fault, possibly retiring the port. (R487) -/
  | ethLinkFault (p : Nat)
  /-- ETH_READMIT: Writing Readmit brings a retired Ethernet port up again. (R487) -/
  | ethReadmit (a : Acc) (p : Nat)
  /-- CORE_TX_FRAME: A core transmit item is sent, with a stamp record if requested. (R486) -/
  | coreTxFrame (p : Nat)
  /-- TIME_SET: Writing TimeSet steps device time absolutely in UNSYNCED. (R490) -/
  | timeSet (a : Acc)
  /-- TIME_STEP: Writing TimeStep steps device time relatively in UNSYNCED. (R490) -/
  | timeStep (a : Acc)
  /-- RESYNC: Writing Resync returns SyncState to UNSYNCED. (R490) -/
  | resync (a : Acc)
  /-- RATE_ADJ: Writing RateAdj under SOFTWARE changes the time rate continuously. (R489) -/
  | rateAdj (a : Acc)
  /-- SYNC_PERIOD: SyncPeriod expires and SYNC is sent on the output ports. (R493) -/
  | syncPeriod
  /-- HOLDOVER_TIMEOUT: No valid exchange for HoldoverAfter periods; SyncState becomes HOLDOVER. (R493) -/
  | holdoverTimeout
  /-- ALARM_FIRE: Device time reaches AlarmTime; the alarm fires. (R494) -/
  | alarmFire (n : Nat)
  /-- TIME_CAPTURE: Task input TIME_CAPTUREk stores the device time. (R494) -/
  | timeCapture (k : Nat)
  /-- PPS_PULSE: Device time crosses a whole second; the PPS pin pulses. (R494) -/
  | ppsPulse
  /-- PPS_END: PpsWidth ends the PPS pulse. (R494) -/
  | ppsEnd
  /-- WATCHDOG_KICK: Writing WatchdogKick restarts the watchdog. (R511) -/
  | watchdogKick (a : Acc)
  /-- WDOG_WARN: Half the watchdog period passes without a kick. (R511) -/
  | wdogWarn
  /-- WDOG_EXPIRE: The watchdog period expires; fatal fault WDOG. (R511) -/
  | wdogExpire
  /-- JUNCTION_READ: The 1 ms junction reading sets THERMAL_WARN or raises THERMAL. (R512) -/
  | junctionRead (t : Int)
  /-- FATAL_REQUEST: A secure write of FatalRequest raises SW_FATAL. (R513) -/
  | fatalRequest (a : Acc)
  /-- PLL_LOCK_LOSS: The root PLL loses lock; fatal fault PLL_LOCK. (R536) -/
  | pllLockLoss
  /-- REFCLK_BAD: The monitor finds REFCLK missing or out of range. (R535) -/
  | refclkBad (kHz : Option Nat)
  /-- CAL_RUN: Writing CalRun starts a DDR4 or Kiln deskew calibration. (R518) -/
  | calRun (a : Acc)
  /-- CAL_RUN_DONE: A requested calibration completes; a plausible result applies. (R514) -/
  | calRunDone (result : CalMeasure)
  /-- WITNESS_WRITE: The Witness writes the next buffered entry into the ring, then freezes if it is the FAULT STATE entry. (R524) -/
  | witnessWrite
  /-- FREEZE: Writing Freeze freezes the Witness ring. (R525) -/
  | freeze (a : Acc)
  /-- RELEASE: Writing Release unfreezes the ring and writes a RELEASE entry. (R525) -/
  | release (a : Acc)
  /-- MARK: Writing Mark queues an SW_MARK entry. (R523) -/
  | mark (a : Acc)
  /-- READ_SEQUENCE: Writing ReadSequence records the host's read position and sets HIGH as needed. (R526) -/
  | readSequence (a : Acc)
  /-- DOMAIN_DOWN: A masked domain finishes powering down; the next goes down or ASLEEP is reached. (R547) -/
  | domainDown
  /-- DOMAIN_UP: A domain finishes powering up; when the last is up the device enters STOPPED. (R549) -/
  | domainUp
  /-- WAKE_PIN: WakePin reaches WakeLevel and wakes the device. (R549) -/
  | wakePin (level : Bool)
  /-- MSIX_UNMASK: The host unmasks an MSI-X vector or the function, or enables MSI-X, and a message held in the pending bit array is sent once. (R432) -/
  | msixUnmask (u : MsixOp)
  /-- CORE_ACCESS: A supervisor core access outside the dictionary window goes to DRAM, to the PCIe outbound window as a host request, or faults on an unmapped address and sets MAP_ERROR. (R554) -/
  | coreAccess (hart : Nat) (machine atomic write : Bool) (addr len : Nat) (bytes : List Nat)
  /-- BAR2_ACCESS: A host access through PCIe BAR2 reaches Bar2Base plus its offset, or beyond populated DRAM is dropped or reads zeros and sets MAP_ERROR. (R479) -/
  | bar2Access (write : Bool) (off len : Nat) (bytes : List Nat)
deriving DecidableEq, Repr

end Sys2Proof
end

