-- ==== Sys2Proof/Machine/Tables.lean ====
section
/-! DEFINITION. The plainest operations of the model: sparse tables, bits and fields of a word, signed readings, and
little-endian bytes (R9 to R11, R30). -/

namespace Sys2Proof.Machine

/-! ### Sparse tables -/

/-- The value a table lists for a key. -/
def tfind {α : Type} : Tab α → Nat → Option α
  | [], _ => none
  | (a, v) :: t, k => if k = a then some v else tfind t k

/-- The value of a key, `d` where the table lists none. -/
def tget {α : Type} (d : α) (t : Tab α) (k : Nat) : α := (tfind t k).getD d

/-- Set the value of a key; a table built from the empty one by `tput` has strictly rising keys. -/
def tput {α : Type} : Tab α → Nat → α → Tab α
  | [], k, v => [(k, v)]
  | (a, w) :: t, k, v => if k = a then (a, v) :: t else if k < a then (k, v) :: (a, w) :: t else (a, w) :: tput t k v

/-- Remove a key. -/
def terase {α : Type} : Tab α → Nat → Tab α
  | [], _ => []
  | (a, w) :: t, k => if k = a then terase t k else (a, w) :: terase t k

/-- Change the value of a key, taking `d` where the table lists none. -/
def tupd {α : Type} (d : α) (t : Tab α) (k : Nat) (f : α → α) : Tab α := tput t k (f (tget d t k))

/-- Keep the entries whose key passes. -/
def tkeep {α : Type} (p : Nat → Bool) (t : Tab α) : Tab α := t.filter fun e => p e.1

/-- Put an element among others in ascending key, after equal keys. -/
def insertBy {α : Type} (f : α → Int) (x : α) : List α → List α
  | [] => [x]
  | y :: l => if f x < f y then x :: y :: l else y :: insertBy f x l

/-- Order a list by ascending key; equal keys keep their order. -/
def sortBy {α : Type} (f : α → Int) (l : List α) : List α := l.foldl (fun acc x => insertBy f x acc) []

/-! ### Bits, fields and readings of a word (R9, R30) -/

/-- Field [hi:lo] of a word. -/
def field (v hi lo : Nat) : Nat := (v / 2 ^ lo) % 2 ^ (hi + 1 - lo)

/-- Bit `i` of a word. -/
def bitOf (v i : Nat) : Bool := (v / 2 ^ i) % 2 == 1

/-- A word with the bits of `m` set. -/
def setBits (v m : Nat) : Nat := v ||| m

/-- A word with the bits of `m` cleared. -/
def clearBits (v m : Nat) : Nat := v - (v &&& m)

/-- A Boolean as the number an entry holds. -/
def b2n (b : Bool) : Nat := if b then 1 else 0

/-- The two's-complement reading of a `w`-bit word. -/
def toI (w v : Nat) : Int := if 2 * (v % 2 ^ w) < 2 ^ w then ((v % 2 ^ w : Nat) : Int) else ((v % 2 ^ w : Nat) : Int) - (2 ^ w : Nat)

/-- The `w`-bit word of an integer, wrapped. -/
def ofI (w : Nat) (i : Int) : Nat := (i % ((2 ^ w : Nat) : Int)).toNat

/-- An integer limited to `lo … hi`. -/
def clampI (lo hi i : Int) : Int := if i < lo then lo else if hi < i then hi else i

/-- A natural number limited to at most `hi`. -/
def sat (hi n : Nat) : Nat := if hi < n then hi else n

/-- ceil(a / b). -/
def ceilDiv (a b : Nat) : Nat := (a + b - 1) / b

/-- round(a / b) for positive `b`, halves away from zero. -/
def roundDiv (a : Int) (b : Nat) : Int :=
  if 0 ≤ a then ((2 * a.toNat + b) / (2 * b) : Nat) else -(((2 * (-a).toNat + b) / (2 * b) : Nat) : Int)

/-- a / b toward zero. -/
def truncDiv (a b : Int) : Int := Int.tdiv a b

/-- floor(a / b) for positive `b`. -/
def floorDiv (a : Int) (b : Nat) : Int := Int.fdiv a b

/-! ### Bytes (R11) -/

/-- `n` little-endian bytes of a number. -/
def leBytes : Nat → Nat → List Nat
  | 0, _ => []
  | n + 1, v => v % 256 :: leBytes n (v / 256)

/-- The number of little-endian bytes. -/
def ofLe : List Nat → Nat
  | [] => 0
  | b :: t => b % 256 + 256 * ofLe t

/-- `n` big-endian bytes of a number. -/
def beBytes (n v : Nat) : List Nat := (leBytes n v).reverse

/-- The number of big-endian bytes. -/
def ofBe (l : List Nat) : Nat := ofLe l.reverse

/-- The `n`-byte little-endian field at offset `o` of a byte string; bytes beyond its end read as 0. -/
def leAt (l : List Nat) (o n : Nat) : Nat := ofLe ((l.drop o).take n)

/-- A byte string padded with zeros to `n` bytes. -/
def padTo (n : Nat) (l : List Nat) : List Nat := l ++ List.replicate (n - l.length) 0

/-- Replace element `i` of a list. -/
def lset {α : Type} (l : List α) (i : Nat) (v : α) : List α := l.set i v

/-- Element `i` of a list of numbers, 0 beyond its end. -/
def nth (l : List Nat) (i : Nat) : Nat := l.getD i 0

/-- Element `i` of a list of integers, 0 beyond its end. -/
def nthI (l : List Int) (i : Nat) : Int := l.getD i 0

/-- The sum of f over 0 … n − 1. -/
def sumTo (n : Nat) (f : Nat → Int) : Int := ((List.range n).map f).foldl (· + ·) 0

/-- The least of a list of integers, `d` for the empty list. -/
def minI (d : Int) (l : List Int) : Int := l.foldl min d

/-- floor(sqrt(n)), by halving steps on `n`'s bits from bit `k` down. -/
def isqrtFrom : Nat → Nat → Nat → Nat
  | 0, _, r => r
  | k + 1, n, r => if (r + 2 ^ k) * (r + 2 ^ k) ≤ n then isqrtFrom k n (r + 2 ^ k) else isqrtFrom k n r

/-- floor(sqrt(n)) for n < 2^128. -/
def isqrt (n : Nat) : Nat := isqrtFrom 64 n 0

end Sys2Proof.Machine
end

