-- ==== Sys2Proof/Machine/Hash.lean ====
section
/-! DEFINITION. The published algorithms the spec names: SHA-256 and SHA-384 (FIPS 180-4), HMAC-SHA-256 (RFC 2104; R45, R56,
R58), ECDSA over P-384 (FIPS 186-4; R541, R543) and CRC-32C (R55). A byte string is a list of numbers below 256. -/

namespace Sys2Proof.Machine

/-- Rotate a `w`-bit word right by `n`. -/
def rotr (w x n : Nat) : Nat := (x / 2 ^ n) ||| (x * 2 ^ (w - n) % 2 ^ w)

/-- The parameters in which the two hashes differ: word width, round constants, and the rotation amounts. -/
structure Sha where
  w : Nat
  k : List Nat
  h0 : List Nat
  big0 : Nat × Nat × Nat
  big1 : Nat × Nat × Nat
  small0 : Nat × Nat × Nat
  small1 : Nat × Nat × Nat
deriving DecidableEq, Repr

/-- SHA-256 round constants. -/
def k256 : List Nat := [
   0x428A2F98, 0x71374491, 0xB5C0FBCF, 0xE9B5DBA5, 0x3956C25B, 0x59F111F1, 0x923F82A4, 0xAB1C5ED5,
   0xD807AA98, 0x12835B01, 0x243185BE, 0x550C7DC3, 0x72BE5D74, 0x80DEB1FE, 0x9BDC06A7, 0xC19BF174,
   0xE49B69C1, 0xEFBE4786, 0x0FC19DC6, 0x240CA1CC, 0x2DE92C6F, 0x4A7484AA, 0x5CB0A9DC, 0x76F988DA,
   0x983E5152, 0xA831C66D, 0xB00327C8, 0xBF597FC7, 0xC6E00BF3, 0xD5A79147, 0x06CA6351, 0x14292967,
   0x27B70A85, 0x2E1B2138, 0x4D2C6DFC, 0x53380D13, 0x650A7354, 0x766A0ABB, 0x81C2C92E, 0x92722C85,
   0xA2BFE8A1, 0xA81A664B, 0xC24B8B70, 0xC76C51A3, 0xD192E819, 0xD6990624, 0xF40E3585, 0x106AA070,
   0x19A4C116, 0x1E376C08, 0x2748774C, 0x34B0BCB5, 0x391C0CB3, 0x4ED8AA4A, 0x5B9CCA4F, 0x682E6FF3,
   0x748F82EE, 0x78A5636F, 0x84C87814, 0x8CC70208, 0x90BEFFFA, 0xA4506CEB, 0xBEF9A3F7, 0xC67178F2]

/-- SHA-512 round constants, first half. -/
def k512a : List Nat := [
   0x428A2F98D728AE22, 0x7137449123EF65CD, 0xB5C0FBCFEC4D3B2F, 0xE9B5DBA58189DBBC,
   0x3956C25BF348B538, 0x59F111F1B605D019, 0x923F82A4AF194F9B, 0xAB1C5ED5DA6D8118,
   0xD807AA98A3030242, 0x12835B0145706FBE, 0x243185BE4EE4B28C, 0x550C7DC3D5FFB4E2,
   0x72BE5D74F27B896F, 0x80DEB1FE3B1696B1, 0x9BDC06A725C71235, 0xC19BF174CF692694,
   0xE49B69C19EF14AD2, 0xEFBE4786384F25E3, 0x0FC19DC68B8CD5B5, 0x240CA1CC77AC9C65,
   0x2DE92C6F592B0275, 0x4A7484AA6EA6E483, 0x5CB0A9DCBD41FBD4, 0x76F988DA831153B5,
   0x983E5152EE66DFAB, 0xA831C66D2DB43210, 0xB00327C898FB213F, 0xBF597FC7BEEF0EE4,
   0xC6E00BF33DA88FC2, 0xD5A79147930AA725, 0x06CA6351E003826F, 0x142929670A0E6E70,
   0x27B70A8546D22FFC, 0x2E1B21385C26C926, 0x4D2C6DFC5AC42AED, 0x53380D139D95B3DF,
   0x650A73548BAF63DE, 0x766A0ABB3C77B2A8, 0x81C2C92E47EDAEE6, 0x92722C851482353B]

/-- SHA-512 round constants, second half. -/
def k512b : List Nat := [
   0xA2BFE8A14CF10364, 0xA81A664BBC423001, 0xC24B8B70D0F89791, 0xC76C51A30654BE30,
   0xD192E819D6EF5218, 0xD69906245565A910, 0xF40E35855771202A, 0x106AA07032BBD1B8,
   0x19A4C116B8D2D0C8, 0x1E376C085141AB53, 0x2748774CDF8EEB99, 0x34B0BCB5E19B48A8,
   0x391C0CB3C5C95A63, 0x4ED8AA4AE3418ACB, 0x5B9CCA4F7763E373, 0x682E6FF3D6B2B8A3,
   0x748F82EE5DEFB2FC, 0x78A5636F43172F60, 0x84C87814A1F0AB72, 0x8CC702081A6439EC,
   0x90BEFFFA23631E28, 0xA4506CEBDE82BDE9, 0xBEF9A3F7B2C67915, 0xC67178F2E372532B,
   0xCA273ECEEA26619C, 0xD186B8C721C0C207, 0xEADA7DD6CDE0EB1E, 0xF57D4F7FEE6ED178,
   0x06F067AA72176FBA, 0x0A637DC5A2C898A6, 0x113F9804BEF90DAE, 0x1B710B35131C471B,
   0x28DB77F523047D84, 0x32CAAB7B40C72493, 0x3C9EBE0A15C9BEBC, 0x431D67C49C100D4C,
   0x4CC5D4BECB3E42B6, 0x597F299CFC657E2A, 0x5FCB6FAB3AD6FAEC, 0x6C44198C4A475817]

/-- SHA-256 initial words. -/
def h256 : List Nat := [
   0x6A09E667, 0xBB67AE85, 0x3C6EF372, 0xA54FF53A, 0x510E527F, 0x9B05688C, 0x1F83D9AB, 0x5BE0CD19]

/-- The parameters of SHA-256. -/
def sha256P : Sha :=
  { w := 32, k := k256, h0 := h256,
    big0 := (2, 13, 22), big1 := (6, 11, 25), small0 := (7, 18, 3), small1 := (17, 19, 10) }

/-- SHA-384 initial words. -/
def h384 : List Nat := [
   0xCBBB9D5DC1059ED8, 0x629A292A367CD507, 0x9159015A3070DD17, 0x152FECD8F70E5939,
   0x67332667FFC00B31, 0x8EB44A8768581511, 0xDB0C2E0D64F98FA7, 0x47B5481DBEFA4FA4]

/-- The parameters of SHA-384. -/
def sha384P : Sha :=
  { w := 64, k := k512a ++ k512b, h0 := h384,
    big0 := (28, 34, 39), big1 := (14, 18, 41), small0 := (1, 8, 7), small1 := (19, 61, 6) }

/-- The message schedule, newest word first: `n` words are still to be made from the last sixteen. -/
def shaSchedule (p : Sha) : Nat → List Nat → List Nat
  | 0, ws => ws
  | n + 1, ws =>
    let a := nth ws 14
    let b := nth ws 1
    let g0 := rotr p.w a p.small0.1 ^^^ rotr p.w a p.small0.2.1 ^^^ (a / 2 ^ p.small0.2.2)
    let g1 := rotr p.w b p.small1.1 ^^^ rotr p.w b p.small1.2.1 ^^^ (b / 2 ^ p.small1.2.2)
    shaSchedule p n ((nth ws 15 + g0 + nth ws 6 + g1) % 2 ^ p.w :: ws)

/-- One round on the working words a to h. -/
def shaRound (p : Sha) (v : List Nat) (kw : Nat × Nat) : List Nat :=
  match v with
  | [a, b, c, d, e, f, g, h] =>
    let m := 2 ^ p.w
    let s1 := rotr p.w e p.big1.1 ^^^ rotr p.w e p.big1.2.1 ^^^ rotr p.w e p.big1.2.2
    let ch := (e &&& f) ^^^ ((m - 1 - e) &&& g)
    let t1 := h + s1 + ch + kw.1 + kw.2
    let s0 := rotr p.w a p.big0.1 ^^^ rotr p.w a p.big0.2.1 ^^^ rotr p.w a p.big0.2.2
    let maj := (a &&& b) ^^^ (a &&& c) ^^^ (b &&& c)
    [(t1 + s0 + maj) % m, a, b, c, (d + t1) % m, e, f, g]
  | v => v

/-- The big-endian words of a block. -/
def shaWords (p : Sha) : Nat → List Nat → List Nat
  | 0, _ => []
  | n + 1, l => ofBe (l.take (p.w / 8)) :: shaWords p n (l.drop (p.w / 8))

/-- Compress one block. -/
def shaBlock (p : Sha) (h : List Nat) (blk : List Nat) : List Nat :=
  let ws := (shaSchedule p (p.k.length - 16) (shaWords p 16 blk).reverse).reverse
  let v := (p.k.zip ws).foldl (shaRound p) h
  (h.zip v).map fun x => (x.1 + x.2) % 2 ^ p.w

/-- Compress `n` blocks. -/
def shaBlocks (p : Sha) : Nat → List Nat → List Nat → List Nat
  | 0, h, _ => h
  | n + 1, h, l => shaBlocks p n (shaBlock p h (l.take (2 * p.w))) (l.drop (2 * p.w))

/-- The padded message. -/
def shaPad (p : Sha) (l : List Nat) : List Nat :=
  let blk := 2 * p.w
  let z := (2 * blk - (l.length + 1 + blk / 8) % blk) % blk
  l ++ [0x80] ++ List.replicate z 0 ++ beBytes (blk / 8) (8 * l.length)

/-- The hash of a byte string, `n` bytes of it. -/
def sha (p : Sha) (n : Nat) (l : List Nat) : List Nat :=
  let m := shaPad p l
  ((shaBlocks p (m.length / (2 * p.w)) p.h0 m).flatMap (beBytes (p.w / 8))).take n

/-- SHA-256 of a byte string. -/
def sha256 (l : List Nat) : List Nat := sha sha256P 32 l

/-- SHA-384 of a byte string. -/
def sha384 (l : List Nat) : List Nat := sha sha384P 48 l

/-- HMAC-SHA-256 under a key. -/
def hmac (k m : List Nat) : List Nat :=
  let k := padTo 64 (if 64 < k.length then sha256 k else k)
  sha256 (k.map (0x5C ^^^ ·) ++ sha256 (k.map (0x36 ^^^ ·) ++ m))

/-! ### P-384 -/

/-- The field prime. -/
def ecP : Nat := 2 ^ 384 - 2 ^ 128 - 2 ^ 96 + 2 ^ 32 - 1
/-- The curve coefficient b. -/
def ecB : Nat := 0xB3312FA7E23EE7E4988E056BE3F82D19181D9C6EFE8141120314088F5013875AC656398D8A2ED19D2A85C8EDD3EC2AEF
/-- The order of the base point. -/
def ecN : Nat := 0xFFFFFFFFFFFFFFFFFFFFFFFFFFFFFFFFFFFFFFFFFFFFFFFFC7634D81F4372DDF581A0DB248B0A77AECEC196ACCC52973
/-- The base point. -/
def ecGx : Nat := 0xAA87CA22BE8B05378EB1C71EF320AD746E1D3B628BA79B9859F741E082542A385502F25DBF55296C3A545E3872760AB7
def ecGy : Nat := 0x3617DE4A96262C6F5D9E98BF9292DC29F8F41DBD289A147CE9DA3113B5F0B8C00A60B1CE1D7E819D7A431D7C90EA0E5F

/-- x^e mod m by squaring over the `n` low bits of e. -/
def powMod (m : Nat) : Nat → Nat → Nat → Nat → Nat
  | 0, _, _, r => r
  | n + 1, x, e, r => powMod m n (x * x % m) (e / 2) (if e % 2 = 1 then r * x % m else r)

/-- The inverse modulo a 384-bit prime. -/
def invMod (m x : Nat) : Nat := powMod m 384 (x % m) (m - 2) 1

/-- Point addition; `none` is the point at infinity. -/
def ecAdd (a b : Option (Nat × Nat)) : Option (Nat × Nat) :=
  match a, b with
  | none, q => q
  | q, none => q
  | some (x1, y1), some (x2, y2) =>
    if x1 = x2 ∧ (y1 + y2) % ecP = 0 then none
    else
      let l := if x1 = x2 then (3 * x1 * x1 + ecP - 3) * invMod ecP (2 * y1) % ecP
        else (y2 + ecP - y1) * invMod ecP (x2 + ecP - x1) % ecP
      let x := (l * l + 2 * ecP - x1 - x2) % ecP
      some (x, (l * (x1 + ecP - x) + ecP - y1) % ecP)

/-- k times a point, over the `n` low bits of k. -/
def ecMul : Nat → Nat → Option (Nat × Nat) → Option (Nat × Nat) → Option (Nat × Nat)
  | 0, _, _, r => r
  | n + 1, k, q, r => ecMul n (k / 2) (ecAdd q q) (if k % 2 = 1 then ecAdd r q else r)

/-- Whether the 96-byte signature r, s verifies over a hash under the 96-byte key X, Y (R541, R543). -/
def ecdsaVerify (key hash sig : List Nat) : Bool :=
  let x := ofBe (key.take 48)
  let y := ofBe (key.drop 48)
  let r := ofBe (sig.take 48)
  let s := ofBe (sig.drop 48)
  let z := ofBe (hash.take 48)
  let w := invMod ecN s
  let pt := ecAdd (ecMul 384 (z * w % ecN) (some (ecGx, ecGy)) none) (ecMul 384 (r * w % ecN) (some (x, y)) none)
  Nat.blt x ecP && Nat.blt y ecP && (y * y) % ecP == (x * x * x + 3 * (ecP - x) + ecB) % ecP &&
  Nat.blt 0 r && Nat.blt r ecN && Nat.blt 0 s && Nat.blt s ecN &&
  (match pt with | some (vx, _) => vx % ecN == r | none => false)

/-! ### CRC-32C -/

/-- Shift `n` bits through the reflected polynomial 0x82F6_3B78. -/
def crcShift : Nat → Nat → Nat
  | 0, c => c
  | n + 1, c => crcShift n (if c % 2 = 1 then (c / 2) ^^^ 0x82F63B78 else c / 2)

/-- CRC-32C over bytes from a running remainder. -/
def crcRun : Nat → List Nat → Nat
  | c, [] => c
  | c, b :: l => crcRun (crcShift 8 (c ^^^ (b % 256))) l

/-- CRC-32C of a byte string. -/
def crc32c (l : List Nat) : Nat := crcRun 0xFFFFFFFF l ^^^ 0xFFFFFFFF

end Sys2Proof.Machine
end

