-- ==== Sys2Proof/Config.lean ====
section
/-! DEFINITION. What one part or one installation fixes, and the values the spec leaves open. A constant declared `opaque`
has no body: nothing can be proved of its value, so a statement that holds, holds whatever it is. -/

namespace Sys2Proof.Config

/-- The n-th free value: a value the spec leaves open, taken afresh each time (a challenge, a nonce, an unspecified
result). -/
opaque freeValue : Nat → Nat

/-- The byte a read of the Sherd pool window returns at an address at a moment: the spec does not say which sherds a user
holds (R355, R367). -/
opaque sherdByte : Nat → Nat → Nat

/-- The hash of the Felval reference firmware key that parts leave Felval with in slot 0 (R543). -/
opaque felvalKeyHash : Nat

/-- The descriptor's bytes that the spec does not fix entry by entry: names, units, Min and Max (R55). -/
opaque descriptorByte : Nat → Nat

/-- The size of the descriptor's string table (R55). -/
opaque descriptorStrings : Nat

/-- Attr_i of a peer's fragment, from its AttrShare_i and its Area: the boundary record carries the shares only (R216, R217). -/
opaque peerAttr : Nat → Nat → Nat

/-- The byte at an offset of an engine's destination that a job has touched and the spec does not give: the output of a job that
ends NOT_SMALLER or DEST_FULL (R400, R405, R407), by a free number of its own. -/
opaque scratchByte : Nat → Nat → Nat

end Sys2Proof.Config
end

