-- ==== Sys2Proof/Machine/Entries.lean ====
section
/-! DEFINITION. The object dictionary's entries: one row per line of the spec's entry tables (R24, R62, R63, R99 to R105,
R126 to R129, R152 to R155, R184 to R190, R223 to R229, R260 to R267, R295 to R300, R323 to R326, R348 to R351, R383 to
R387, R410, R411, R433 to R438, R469 to R474, R495 to R498, R528 to R531, R558 to R561) with the subindices 0xFC to 0xFF
of every STAGED group (R47), and the lookup of one entry's row. -/

namespace Sys2Proof.Machine

/-- Entry rows of the index range 0x10xx, part 1. -/
def rows10_1 : List Row := [
  ⟨0x1000, 1, 0x01, 0x01, (.u 32), .ro, 62369, .none, false, false, .any⟩,
  ⟨0x1000, 1, 0x02, 0x02, (.u 32), .ro, 18450, .none, false, false, .any⟩,
  ⟨0x1000, 1, 0x03, 0x03, (.u 16), .ro, 0, .none, false, false, .any⟩,
  ⟨0x1000, 1, 0x04, 0x04, .enum, .ro, 1, .none, false, false, .any⟩,
  ⟨0x1000, 1, 0x05, 0x05, (.u 64), .ro, 0, .none, false, false, .any⟩,
  ⟨0x1000, 1, 0x06, 0x06, (.u 16), .ro, 1, .none, false, false, .any⟩,
  ⟨0x1000, 1, 0x07, 0x07, (.u 16), .ro, 0, .none, false, false, .any⟩,
  ⟨0x1001, 1, 0x01, 0x01, (.domain 1048576), .ro, 1048576, .none, false, false, .any⟩,
  ⟨0x1001, 1, 0x02, 0x02, (.u 32), .ro, 0, .none, false, false, .any⟩,
  ⟨0x1001, 1, 0x03, 0x03, (.u 32), .ro, 0, .none, false, false, .any⟩,
  ⟨0x1010, 1, 0x01, 0x01, .enum, .ro, 0, .none, false, false, .any⟩,
  ⟨0x1010, 1, 0x02, 0x02, .enum, .wo, 0, .immediate, false, false, (.vals [1, 2, 3, 4, 5, 6])⟩,
  ⟨0x1010, 1, 0x03, 0x03, .enum, .ro, 0, .none, false, false, .any⟩,
  ⟨0x1010, 1, 0x04, 0x04, .enum, .ro, 0, .none, false, false, .any⟩,
  ⟨0x1010, 1, 0x05, 0x05, (.bits 8 3), .rws, 3, .immediate, false, false, .any⟩,
  ⟨0x1010, 1, 0x06, 0x06, .enum, .rws, 1, .immediate, false, false, (.rng 0 2)⟩,
  ⟨0x1010, 1, 0x07, 0x07, (.u 8), .rws, 0, .immediate, false, false, (.rng 0 15)⟩,
  ⟨0x1010, 1, 0x08, 0x08, .enum, .rws, 1, .immediate, false, false, (.rng 0 2)⟩,
  ⟨0x1010, 1, 0x09, 0x09, (.u 32), .rws, 10000000, .immediate, false, true, .any⟩,
  ⟨0x1010, 1, 0x0A, 0x0A, .enum, .ro, 0, .none, false, false, .any⟩,
  ⟨0x1010, 1, 0x0B, 0x0B, (.u 32), .ro, 0, .none, false, false, .any⟩,
  ⟨0x1010, 1, 0x0C, 0x0C, .time, .ro, 0, .none, false, false, .any⟩]

/-- Entry rows of the index range 0x10xx, in ascending index and subindex. -/
def rows10 : List Row := rows10_1

/-- Entry rows of the index range 0x11xx, part 1. -/
def rows11_1 : List Row := [
  ⟨0x1100, 1, 0x01, 0x01, (.u 64), .ro, 0, .none, false, false, .any⟩,
  ⟨0x1100, 1, 0x02, 0x02, (.u 32), .ro, 0, .none, false, false, .any⟩,
  ⟨0x1100, 1, 0x03, 0x03, .enum, .ro, 0, .none, false, false, .any⟩,
  ⟨0x1100, 1, 0x04, 0x04, .enum, .ro, 0, .none, false, false, .any⟩,
  ⟨0x1100, 1, 0x05, 0x05, (.u 32), .ro, 0, .none, false, false, .any⟩,
  ⟨0x1110, 7, 0x01, 0x01, .enum, .ro, 0, .none, false, false, .any⟩,
  ⟨0x1110, 7, 0x02, 0x02, (.u 32), .ro, 0, .none, false, false, .any⟩,
  ⟨0x1110, 7, 0x03, 0x03, (.u 32), .ro, 0, .none, false, false, .any⟩,
  ⟨0x1110, 7, 0x04, 0x04, .enum, .rw, 0, .immediate, false, false, (.rng 0 1)⟩,
  ⟨0x1110, 7, 0x05, 0x05, (.u 16), .ro, 0, .none, false, false, .any⟩,
  ⟨0x1110, 7, 0x06, 0x06, .bool, .ro, 0, .none, false, false, .any⟩,
  ⟨0x1110, 5, 0x07, 0x07, .bool, .wo, 0, .immediate, false, false, .any⟩,
  ⟨0x1110, 5, 0x08, 0x08, (.u 32), .rw, 0, .immediate, false, false, .any⟩,
  ⟨0x1110, 5, 0x09, 0x09, (.u 32), .rw, 0, .immediate, false, false, .any⟩,
  ⟨0x1110, 5, 0x0A, 0x0A, (.u 32), .rw, 64, .immediate, true, false, .any⟩,
  ⟨0x1110, 5, 0x0B, 0x0B, (.u 64), .rw, 0, .immediate, false, false, .any⟩,
  ⟨0x1110, 5, 0x0C, 0x0C, .enum, .rw, 0, .immediate, false, false, (.rng 0 1)⟩,
  ⟨0x1110, 5, 0x0D, 0x0D, .bool, .wo, 0, .immediate, false, false, .any⟩,
  ⟨0x1110, 5, 0x0E, 0x0E, .enum, .ro, 0, .none, false, false, .any⟩,
  ⟨0x1120, 1, 0x01, 0x01, (.u 64), .wo, 0, .immediate, false, false, .any⟩,
  ⟨0x1120, 1, 0x02, 0x02, (.domain 65536), .ro, 65536, .none, false, false, .any⟩,
  ⟨0x1130, 1, 0x01, 0x01, (.domain 32), .wo, 0, .immediate, false, false, .any⟩,
  ⟨0x1130, 1, 0x02, 0x02, .bool, .ro, 0, .none, false, false, .any⟩,
  ⟨0x1131, 1, 0x01, 0x01, (.u 64), .ro, 0, .none, false, false, .any⟩,
  ⟨0x1131, 1, 0x02, 0x05, (.u 64), .wo, 0, .immediate, false, false, .any⟩,
  ⟨0x1131, 1, 0x06, 0x06, .bool, .wo, 0, .immediate, false, false, .any⟩,
  ⟨0x1140, 1, 0x01, 0x01, .bool, .rws, 1, .immediate, false, false, .any⟩,
  ⟨0x1140, 1, 0x02, 0x02, .enum, .rw, 1, .immediate, false, false, (.rng 0 2)⟩,
  ⟨0x1140, 1, 0x03, 0x03, (.u 32), .rw, 30000, .immediate, false, true, .any⟩,
  ⟨0x1140, 1, 0x04, 0x04, (.u 8), .ro, 0, .none, false, false, .any⟩,
  ⟨0x1140, 1, 0x05, 0x05, (.u 32), .ro, 0, .none, false, false, .any⟩,
  ⟨0x1140, 1, 0x06, 0x06, (.u 32), .ro, 0, .none, false, false, .any⟩,
  ⟨0x1140, 1, 0x07, 0x07, (.u 32), .ro, 0, .none, false, false, .any⟩,
  ⟨0x1140, 1, 0x08, 0x08, .bool, .rw, 0, .immediate, false, false, .any⟩]

/-- Entry rows of the index range 0x11xx, in ascending index and subindex. -/
def rows11 : List Row := rows11_1

/-- Entry rows of the index range 0x12xx, part 1. -/
def rows12_1 : List Row := [
  ⟨0x1200, 1, 0x01, 0x01, .bool, .ro, 0, .none, false, false, .any⟩,
  ⟨0x1200, 1, 0x02, 0x02, (.u 32), .ro, 0, .none, false, false, .any⟩,
  ⟨0x1200, 1, 0x03, 0x03, (.bits 8 1), .w1c, 0, .none, false, false, .any⟩,
  ⟨0x1200, 1, 0x04, 0x04, (.u 32), .ro, 1600000000, .none, false, false, .any⟩,
  ⟨0x1200, 1, 0x05, 0x05, (.u 32), .ro, 1600000000, .none, false, false, .any⟩,
  ⟨0x1200, 1, 0x06, 0x06, (.u 32), .ro, 1200000000, .none, false, false, .any⟩,
  ⟨0x1200, 1, 0x07, 0x07, (.u 32), .ro, 800000000, .none, false, false, .any⟩,
  ⟨0x1200, 1, 0x08, 0x08, (.u 32), .ro, 200000000, .none, false, false, .any⟩,
  ⟨0x1210, 1, 0x01, 0x01, .enum, .ro, 1, .none, false, false, .any⟩,
  ⟨0x1210, 1, 0x02, 0x02, (.u 32), .ro, 0, .none, false, false, .any⟩,
  ⟨0x1210, 1, 0x03, 0x03, (.u 32), .wo, 0, .immediate, false, false, .any⟩,
  ⟨0x1210, 1, 0x04, 0x04, .enum, .ro, 0, .none, false, false, .any⟩,
  ⟨0x1220, 1, 0x01, 0x01, (.bits 8 127), .rws, 127, .immediate, false, false, .any⟩,
  ⟨0x1220, 1, 0x02, 0x02, (.bits 8 7), .rw, 0, .immediate, false, false, .any⟩,
  ⟨0x1220, 1, 0x03, 0x03, (.u 8), .rw, 255, .immediate, false, false, (.rngOr 0 31 255)⟩,
  ⟨0x1220, 1, 0x04, 0x04, .bool, .rw, 1, .immediate, false, false, .any⟩,
  ⟨0x1220, 1, 0x05, 0x05, (.u 32), .rw, 10000, .immediate, false, false, .any⟩,
  ⟨0x1220, 1, 0x06, 0x06, .enum, .ro, 0, .none, false, false, .any⟩,
  ⟨0x1220, 1, 0x07, 0x07, .enum, .ro, 0, .none, false, false, .any⟩,
  ⟨0x1220, 1, 0x08, 0x08, (.u 32), .ro, 0, .none, false, false, .any⟩,
  ⟨0x1220, 1, 0x09, 0x09, (.u 32), .ro, 0, .none, false, false, .any⟩,
  ⟨0x1220, 1, 0x0A, 0x0A, (.u 16), .rw, 100, .immediate, false, true, .any⟩,
  ⟨0x1230, 1, 0x01, 0x01, .enum, .ro, 0, .none, false, false, .any⟩,
  ⟨0x1230, 1, 0x02, 0x02, .enum, .ro, 0, .none, false, false, .any⟩,
  ⟨0x1230, 1, 0x03, 0x03, (.u 8), .ro, 0, .none, false, false, .any⟩,
  ⟨0x1230, 1, 0x04, 0x04, (.u 16), .ro, 0, .none, false, false, .any⟩,
  ⟨0x1230, 1, 0x05, 0x05, (.u 8), .ro, 0, .none, false, false, .any⟩,
  ⟨0x1230, 1, 0x06, 0x06, (.bits 8 15), .ro, 0, .none, false, false, .any⟩,
  ⟨0x1230, 1, 0x07, 0x07, .bool, .wo, 0, .immediate, false, false, .any⟩,
  ⟨0x1230, 1, 0x08, 0x08, .time, .ro, 0, .none, false, false, .any⟩,
  ⟨0x1231, 1, 0x01, 0x01, (.u 64), .rw, 0, .immediate, false, false, .any⟩,
  ⟨0x1231, 1, 0x02, 0x02, (.u 32), .rw, 0, .immediate, false, false, .any⟩,
  ⟨0x1231, 1, 0x03, 0x03, .bool, .wo, 0, .immediate, false, false, .any⟩,
  ⟨0x1232, 1, 0x01, 0x01, (.u 8), .wo, 0, .immediate, false, false, .any⟩,
  ⟨0x1232, 1, 0x02, 0x02, (.u 8), .wo, 0, .immediate, false, false, .any⟩,
  ⟨0x1240, 1, 0x01, 0x01, (.bits 8 14), .wo, 0, .immediate, false, false, .any⟩,
  ⟨0x1240, 1, 0x02, 0x02, (.u 64), .rw, 0, .immediate, false, false, (.mult 4)⟩,
  ⟨0x1240, 1, 0x03, 0x03, (.bits 8 15), .ro, 0, .none, false, false, .any⟩]

/-- Entry rows of the index range 0x12xx, in ascending index and subindex. -/
def rows12 : List Row := rows12_1

/-- Entry rows of the index range 0x14xx, part 1. -/
def rows14_1 : List Row := [
  ⟨0x1400, 1, 0x01, 0x01, (.u 64), .ro, 0, .none, false, false, .any⟩,
  ⟨0x1400, 1, 0x02, 0x02, .time, .ro, 0, .none, false, false, .any⟩,
  ⟨0x1400, 1, 0x03, 0x03, .enum, .ro, 0, .none, false, false, .any⟩,
  ⟨0x1400, 1, 0x04, 0x04, (.i 64), .rw, 0, .immediate, false, false, .any⟩,
  ⟨0x1400, 1, 0x05, 0x05, .time, .wo, 0, .immediate, false, false, .any⟩,
  ⟨0x1400, 1, 0x06, 0x06, (.i 64), .wo, 0, .immediate, false, false, .any⟩,
  ⟨0x1400, 1, 0x07, 0x07, .bool, .wo, 0, .immediate, false, false, .any⟩,
  ⟨0x1400, 1, 0x08, 0x08, .bool, .rw, 0, .immediate, false, false, .any⟩,
  ⟨0x1400, 1, 0x09, 0x09, (.i 64), .ro, 0, .none, false, false, .any⟩,
  ⟨0x1400, 1, 0x0A, 0x0A, (.i 64), .ro, 0, .none, false, false, .any⟩,
  ⟨0x1400, 1, 0x0B, 0x0B, (.i 64), .ro, 0, .none, false, false, .any⟩,
  ⟨0x1400, 1, 0x0C, 0x0C, (.u 32), .ro, 0, .none, false, false, .any⟩,
  ⟨0x1400, 1, 0x0D, 0x0D, (.u 32), .ro, 0, .none, false, false, .any⟩,
  ⟨0x1400, 1, 0x0E, 0x0E, (.bits 8 31), .w1c, 0, .none, false, false, .any⟩,
  ⟨0x1401, 1, 0x01, 0x01, .enum, .staged, 0, .commit, false, false, (.rng 0 3)⟩,
  ⟨0x1401, 1, 0x02, 0x02, (.bits 8 3), .staged, 0, .commit, false, false, .any⟩,
  ⟨0x1401, 1, 0x03, 0x03, (.u 32), .staged, 1000, .commit, false, false, (.rng 100 1000000)⟩,
  ⟨0x1401, 1, 0x04, 0x04, (.u 8), .staged, 1, .commit, false, false, (.rng 0 16)⟩,
  ⟨0x1401, 1, 0x05, 0x05, (.u 8), .staged, 3, .commit, false, false, (.rng 0 16)⟩,
  ⟨0x1401, 1, 0x06, 0x06, (.u 32), .staged, 655360, .commit, false, false, .any⟩,
  ⟨0x1401, 1, 0x07, 0x07, (.u 8), .staged, 8, .commit, true, false, .any⟩,
  ⟨0x1401, 1, 0x08, 0x08, (.u 32), .staged, 65536000, .commit, false, false, .any⟩,
  ⟨0x1401, 1, 0x09, 0x09, (.u 8), .staged, 4, .commit, false, false, .any⟩,
  ⟨0x1401, 1, 0xFC, 0xFC, .time, .ro, 0, .none, false, false, .any⟩,
  ⟨0x1401, 1, 0xFD, 0xFD, (.u 32), .ro, 0, .none, false, false, .any⟩,
  ⟨0x1401, 1, 0xFE, 0xFE, (.u 8), .ro, 0, .none, false, false, .any⟩,
  ⟨0x1401, 1, 0xFF, 0xFF, .enum, .rw, 0, .immediate, false, false, (.rng 1 2)⟩,
  ⟨0x1410, 1, 0x01, 0x04, (.i 32), .rw, 0, .immediate, false, false, .any⟩,
  ⟨0x1420, 1, 0x01, 0x01, (.u 8), .rw, 255, .immediate, false, false, (.rngOr 0 31 255)⟩,
  ⟨0x1420, 1, 0x02, 0x02, (.u 16), .rw, 100, .immediate, false, false, (.rng 1 500000)⟩,
  ⟨0x1420, 1, 0x03, 0x03, .bool, .rw, 1, .immediate, false, false, .any⟩,
  ⟨0x1430, 4, 0x01, 0x01, .time, .rw, 0, .immediate, false, false, .any⟩,
  ⟨0x1430, 4, 0x02, 0x02, .bool, .rw, 0, .immediate, false, false, .any⟩,
  ⟨0x1430, 4, 0x03, 0x03, (.bits 8 3), .w1c, 0, .none, false, false, .any⟩,
  ⟨0x1440, 4, 0x01, 0x01, .time, .ro, 0, .none, false, false, .any⟩,
  ⟨0x1440, 4, 0x02, 0x02, (.u 32), .ro, 0, .none, false, false, .any⟩]

/-- Entry rows of the index range 0x14xx, in ascending index and subindex. -/
def rows14 : List Row := rows14_1

/-- Entry rows of the index range 0x16xx, part 1. -/
def rows16_1 : List Row := [
  ⟨0x1600, 1, 0x01, 0x01, .enum, .ro, 0, .none, false, false, .any⟩,
  ⟨0x1600, 1, 0x02, 0x02, .time, .ro, 0, .none, false, false, .any⟩,
  ⟨0x1600, 1, 0x03, 0x03, (.u 16), .ro, 0, .none, false, false, .any⟩,
  ⟨0x1600, 1, 0x04, 0x04, (.u 64), .ro, 0, .none, false, false, .any⟩,
  ⟨0x1600, 1, 0x05, 0x05, (.u 32), .ro, 0, .none, false, false, .any⟩,
  ⟨0x1600, 1, 0x06, 0x06, (.u 16), .ro, 0, .none, false, false, .any⟩,
  ⟨0x1600, 1, 0x07, 0x07, (.u 16), .ro, 0, .none, false, false, .any⟩,
  ⟨0x1600, 1, 0x08, 0x08, (.u 32), .ro, 0, .none, false, false, .any⟩,
  ⟨0x1600, 1, 0x09, 0x09, (.bits 8 31), .w1c, 0, .none, false, false, .any⟩,
  ⟨0x1600, 1, 0x0A, 0x0A, (.u 32), .ro, 0, .none, false, false, .any⟩,
  ⟨0x1600, 1, 0x0B, 0x0B, (.u 64), .ro, 0, .none, false, false, .any⟩,
  ⟨0x1600, 1, 0x0C, 0x0C, (.i 32), .ro, 0, .none, false, false, .any⟩,
  ⟨0x1600, 1, 0x0D, 0x0D, (.i 32), .rw, 90000, .immediate, false, false, .any⟩,
  ⟨0x1600, 1, 0x0E, 0x0E, (.i 32), .ro, 105000, .none, false, false, .any⟩,
  ⟨0x1602, 1, 0x01, 0x01, (.u 32), .rw, 0, .immediate, false, true, .any⟩,
  ⟨0x1602, 1, 0x02, 0x02, .bool, .wo, 0, .immediate, false, false, .any⟩,
  ⟨0x1603, 1, 0x01, 0x01, (.u 32), .wo, 0, .immediate, false, false, .any⟩,
  ⟨0x1610, 1, 0x01, 0x01, (.domain 262144), .ro, 262144, .none, false, false, .any⟩,
  ⟨0x1610, 1, 0x02, 0x02, (.u 32), .ro, 0, .none, false, false, .any⟩,
  ⟨0x1610, 1, 0x03, 0x03, .bool, .ro, 0, .none, false, false, .any⟩,
  ⟨0x1610, 1, 0x04, 0x04, .enum, .ro, 0, .none, false, false, .any⟩,
  ⟨0x1610, 1, 0x05, 0x05, .bool, .wo, 0, .immediate, false, false, .any⟩,
  ⟨0x1610, 1, 0x06, 0x06, .bool, .wo, 0, .immediate, false, false, .any⟩,
  ⟨0x1610, 1, 0x07, 0x07, (.u 32), .ro, 0, .none, false, false, .any⟩,
  ⟨0x1610, 1, 0x08, 0x08, (.u 32), .ro, 0, .none, false, false, .any⟩,
  ⟨0x1610, 1, 0x09, 0x09, (.u 32), .wo, 0, .immediate, false, false, .any⟩,
  ⟨0x1610, 1, 0x0A, 0x0A, (.u 32), .rw, 0, .immediate, false, false, .any⟩,
  ⟨0x1610, 1, 0x0B, 0x0B, (.u 16), .rw, 6144, .immediate, false, true, .any⟩,
  ⟨0x1610, 1, 0x0C, 0x0C, (.bits 8 3), .w1c, 0, .none, false, false, .any⟩,
  ⟨0x1640, 16, 0x01, 0x01, (.u 8), .rw, 3, .immediate, true, false, .any⟩,
  ⟨0x1640, 16, 0x02, 0x02, (.u 32), .rw, 1000, .immediate, true, false, .any⟩,
  ⟨0x1640, 16, 0x03, 0x03, .enum, .ro, 0, .none, false, false, .any⟩,
  ⟨0x1640, 16, 0x04, 0x04, (.u 32), .ro, 0, .none, false, false, .any⟩,
  ⟨0x1640, 16, 0x05, 0x05, .time, .ro, 0, .none, false, false, .any⟩,
  ⟨0x1640, 16, 0x06, 0x06, .bool, .wo, 0, .immediate, false, false, .any⟩,
  ⟨0x1640, 16, 0x07, 0x07, (.bits 8 3), .w1c, 0, .none, false, false, .any⟩]

/-- Entry rows of the index range 0x16xx, in ascending index and subindex. -/
def rows16 : List Row := rows16_1

/-- Entry rows of the index range 0x18xx, part 1. -/
def rows18_1 : List Row := [
  ⟨0x1800, 1, 0x01, 0x01, (.domain 3520), .ro, 3520, .none, false, false, .any⟩,
  ⟨0x1800, 1, 0x02, 0x02, (.u 16), .rws, 0, .immediate, false, false, .any⟩,
  ⟨0x1800, 1, 0x03, 0x03, .enum, .ro, 0, .none, false, false, .any⟩,
  ⟨0x1800, 1, 0x04, 0x04, (.u 16), .rw, 100, .immediate, false, true, .any⟩,
  ⟨0x1800, 1, 0x05, 0x05, (.u 16), .rw, 10, .immediate, false, false, (.rng 4 64)⟩,
  ⟨0x1800, 1, 0x06, 0x06, (.u 32), .ro, 0, .none, false, false, .any⟩,
  ⟨0x1800, 1, 0x07, 0x07, (.bits 8 3), .w1c, 0, .none, false, false, .any⟩]

/-- Entry rows of the index range 0x18xx, in ascending index and subindex. -/
def rows18 : List Row := rows18_1

/-- Entry rows of the index range 0x20xx, part 1. -/
def rows20_1 : List Row := [
  ⟨0x2000, 1, 0x01, 0x01, .enum, .rws, 0, .immediate, false, false, (.rng 0 4)⟩,
  ⟨0x2000, 1, 0x02, 0x02, .enum, .rws, 15, .immediate, false, false, (.vals [0, 1, 2, 3, 4, 15])⟩,
  ⟨0x2000, 1, 0x03, 0x03, (.u 32), .rw, 0, .immediate, false, true, .any⟩,
  ⟨0x2000, 1, 0x04, 0x04, .pos, .ro, 0, .none, false, false, .any⟩,
  ⟨0x2000, 1, 0x05, 0x05, (.q 32 32), .ro, 0, .none, false, false, .any⟩,
  ⟨0x2000, 1, 0x06, 0x06, .pos, .ro, 0, .none, false, false, .any⟩,
  ⟨0x2000, 1, 0x07, 0x07, .enum, .ro, 0, .none, false, false, .any⟩,
  ⟨0x2000, 1, 0x08, 0x08, (.u 32), .ro, 0, .none, false, false, .any⟩,
  ⟨0x2000, 1, 0x09, 0x09, (.bits 8 15), .w1c, 0, .none, false, false, .any⟩,
  ⟨0x2010, 4, 0x01, 0x01, .enum, .staged, 0, .commit, false, false, (.rng 0 5)⟩,
  ⟨0x2010, 4, 0x02, 0x02, .bool, .staged, 0, .commit, false, false, .any⟩,
  ⟨0x2010, 4, 0x03, 0x03, (.u 16), .staged, 0, .commit, false, true, .any⟩,
  ⟨0x2010, 4, 0x04, 0x04, (.u 16), .staged, 0, .commit, false, true, .any⟩,
  ⟨0x2010, 4, 0x05, 0x05, .bool, .staged, 0, .commit, false, false, .any⟩,
  ⟨0x2010, 4, 0x06, 0x06, (.u 64), .staged, 1048576, .commit, true, false, (.rng 1 4294967296)⟩,
  ⟨0x2010, 4, 0x07, 0x07, (.q 32 32), .staged, 4294967296, .commit, false, false, .any⟩,
  ⟨0x2010, 4, 0x08, 0x08, (.u 16), .staged, 4, .commit, false, true, .any⟩,
  ⟨0x2010, 4, 0x09, 0x09, .bool, .staged, 1, .commit, false, false, .any⟩,
  ⟨0x2010, 4, 0x0A, 0x0A, (.u 32), .staged, 80000, .commit, false, false, (.rng 800 8000000)⟩,
  ⟨0x2010, 4, 0x0B, 0x0B, (.u 16), .staged, 8, .commit, false, false, .any⟩,
  ⟨0x2010, 4, 0x0C, 0x0C, (.u 16), .staged, 64, .commit, false, false, .any⟩,
  ⟨0x2010, 4, 0x0D, 0x0D, (.u 32), .staged, 10000, .commit, false, false, .any⟩,
  ⟨0x2010, 4, 0x0E, 0x0E, (.u 8), .staged, 0, .commit, false, false, (.rng 0 8)⟩,
  ⟨0x2010, 4, 0x0F, 0x0F, .enum, .staged, 0, .commit, false, false, (.rng 0 2)⟩,
  ⟨0x2010, 4, 0x10, 0x10, (.u 32), .staged, 0, .commit, false, false, .any⟩,
  ⟨0x2010, 4, 0x11, 0x11, (.u 32), .staged, 16, .commit, false, false, .any⟩,
  ⟨0x2010, 4, 0x12, 0x12, (.u 8), .staged, 3, .commit, false, true, .any⟩,
  ⟨0x2010, 4, 0x13, 0x13, (.u 8), .staged, 3, .commit, true, false, .any⟩,
  ⟨0x2010, 4, 0x14, 0x14, (.u 32), .staged, 100, .commit, true, false, .any⟩,
  ⟨0x2010, 4, 0x15, 0x15, (.u 32), .staged, 1000000, .commit, false, false, .any⟩,
  ⟨0x2010, 4, 0x16, 0x16, (.u 8), .staged, 26, .commit, true, false, (.rng 8 48)⟩,
  ⟨0x2010, 4, 0x17, 0x17, .enum, .staged, 0, .commit, false, false, (.rng 0 1)⟩,
  ⟨0x2010, 4, 0x18, 0x18, .enum, .staged, 0, .commit, false, false, (.rng 0 2)⟩,
  ⟨0x2010, 4, 0x19, 0x19, (.u 8), .staged, 0, .commit, false, false, (.rng 0 7)⟩,
  ⟨0x2010, 4, 0x1A, 0x1A, (.u 32), .staged, 125, .commit, false, false, .any⟩,
  ⟨0x2010, 4, 0x1B, 0x1B, (.u 8), .staged, 20, .commit, false, false, (.rng 1 64)⟩,
  ⟨0x2010, 4, 0x1C, 0x1C, (.u 32), .staged, 0, .commit, false, false, .any⟩,
  ⟨0x2010, 4, 0x1D, 0x1D, (.u 8), .staged, 64, .commit, false, false, .any⟩,
  ⟨0x2010, 4, 0xFC, 0xFC, .time, .ro, 0, .none, false, false, .any⟩,
  ⟨0x2010, 4, 0xFD, 0xFD, (.u 32), .ro, 0, .none, false, false, .any⟩]

/-- Entry rows of the index range 0x20xx, part 2. -/
def rows20_2 : List Row := [
  ⟨0x2010, 4, 0xFE, 0xFE, (.u 8), .ro, 0, .none, false, false, .any⟩,
  ⟨0x2010, 4, 0xFF, 0xFF, .enum, .rw, 0, .immediate, false, false, (.rng 1 2)⟩,
  ⟨0x2020, 4, 0x01, 0x01, .pos, .ro, 0, .none, false, false, .any⟩,
  ⟨0x2020, 4, 0x02, 0x02, .pos, .ro, 0, .none, false, false, .any⟩,
  ⟨0x2020, 4, 0x03, 0x03, (.u 32), .ro, 0, .none, false, false, .any⟩,
  ⟨0x2020, 4, 0x04, 0x04, (.q 32 32), .ro, 0, .none, false, false, .any⟩,
  ⟨0x2020, 4, 0x05, 0x05, .enum, .ro, 0, .none, false, false, .any⟩,
  ⟨0x2020, 4, 0x06, 0x06, .pos, .ro, 0, .none, false, false, .any⟩,
  ⟨0x2020, 4, 0x07, 0x07, .enum, .ro, 0, .none, false, false, .any⟩,
  ⟨0x2020, 4, 0x08, 0x08, (.bits 8 255), .w1c, 0, .none, false, false, .any⟩,
  ⟨0x2020, 4, 0x09, 0x09, (.u 32), .ro, 0, .none, false, false, .any⟩,
  ⟨0x2020, 4, 0x0A, 0x0A, (.u 32), .ro, 0, .none, false, false, .any⟩,
  ⟨0x2020, 4, 0x0B, 0x0B, (.i 32), .ro, 0, .none, false, false, .any⟩,
  ⟨0x2020, 4, 0x0C, 0x0C, (.u 32), .ro, 0, .none, false, false, .any⟩,
  ⟨0x2020, 4, 0x0D, 0x0D, .pos, .rws, 0, .immediate, false, false, .any⟩,
  ⟨0x2020, 4, 0x0E, 0x0E, (.u 32), .rws, 0, .immediate, false, false, .any⟩,
  ⟨0x2020, 4, 0x0F, 0x0F, .bool, .wo, 0, .immediate, false, false, .any⟩,
  ⟨0x2030, 8, 0x01, 0x01, .bool, .rw, 0, .immediate, false, false, .any⟩,
  ⟨0x2030, 8, 0x02, 0x02, .enum, .rw, 1, .immediate, false, false, (.rng 1 3)⟩,
  ⟨0x2030, 8, 0x03, 0x03, .enum, .rw, 8, .immediate, false, false, (.vals [0, 1, 2, 3, 8])⟩,
  ⟨0x2030, 8, 0x04, 0x04, (.u 16), .rw, 0, .immediate, false, true, .any⟩,
  ⟨0x2030, 8, 0x05, 0x05, (.u 8), .ro, 0, .none, false, false, .any⟩,
  ⟨0x2030, 8, 0x06, 0x06, .pos, .ro, 0, .none, false, false, .any⟩,
  ⟨0x2030, 8, 0x07, 0x07, (.u 32), .ro, 0, .none, false, false, .any⟩,
  ⟨0x2030, 8, 0x08, 0x08, .time, .ro, 0, .none, false, false, .any⟩,
  ⟨0x2030, 8, 0x09, 0x09, .enum, .ro, 0, .none, false, false, .any⟩,
  ⟨0x2030, 8, 0x0A, 0x0A, .bool, .wo, 0, .immediate, false, false, .any⟩,
  ⟨0x2030, 8, 0x0B, 0x0B, (.u 32), .ro, 0, .none, false, false, .any⟩,
  ⟨0x2030, 8, 0x0C, 0x0C, .bool, .wo, 0, .immediate, false, false, .any⟩,
  ⟨0x2040, 16, 0x01, 0x01, .enum, .staged, 0, .commit, false, false, (.rng 0 2)⟩,
  ⟨0x2040, 16, 0x02, 0x02, .enum, .staged, 8, .commit, false, false, (.rng 0 8)⟩,
  ⟨0x2040, 16, 0x03, 0x03, .enum, .staged, 0, .commit, false, false, (.rng 0 1)⟩,
  ⟨0x2040, 16, 0x04, 0x04, .pos, .staged, 0, .commit, false, false, .any⟩,
  ⟨0x2040, 16, 0x05, 0x05, (.u 64), .staged, 0, .commit, false, true, .any⟩,
  ⟨0x2040, 16, 0x06, 0x06, .bool, .staged, 0, .commit, false, false, .any⟩,
  ⟨0x2040, 16, 0x07, 0x07, (.i 64), .staged, 0, .commit, false, false, .any⟩,
  ⟨0x2040, 16, 0x08, 0x08, (.u 8), .staged, 255, .commit, false, false, (.rngOr 0 31 255)⟩,
  ⟨0x2040, 16, 0x09, 0x09, .bool, .staged, 1, .commit, false, false, .any⟩,
  ⟨0x2040, 16, 0x0A, 0x0A, .bool, .staged, 0, .commit, false, false, .any⟩,
  ⟨0x2040, 16, 0x0B, 0x0B, (.u 32), .staged, 800, .commit, false, true, .any⟩]

/-- Entry rows of the index range 0x20xx, part 3. -/
def rows20_3 : List Row := [
  ⟨0x2040, 16, 0x10, 0x10, (.u 32), .ro, 0, .none, false, false, .any⟩,
  ⟨0x2040, 16, 0x11, 0x11, (.bits 8 7), .w1c, 0, .none, false, false, .any⟩,
  ⟨0x2040, 16, 0x12, 0x12, (.u 8), .ro, 0, .none, false, false, .any⟩,
  ⟨0x2040, 16, 0x13, 0x13, .pos, .ro, 0, .none, false, false, .any⟩,
  ⟨0x2040, 16, 0xFC, 0xFC, .time, .ro, 0, .none, false, false, .any⟩,
  ⟨0x2040, 16, 0xFD, 0xFD, (.u 32), .ro, 0, .none, false, false, .any⟩,
  ⟨0x2040, 16, 0xFE, 0xFE, (.u 8), .ro, 0, .none, false, false, .any⟩,
  ⟨0x2040, 16, 0xFF, 0xFF, .enum, .rw, 0, .immediate, false, false, (.rng 1 2)⟩,
  ⟨0x2060, 12, 0x01, 0x01, .bool, .staged, 0, .band, false, false, .any⟩,
  ⟨0x2060, 12, 0x02, 0x02, .pos, .staged, 0, .band, false, false, .any⟩,
  ⟨0x2060, 12, 0x03, 0x03, (.u 32), .staged, 65536, .band, false, false, .any⟩,
  ⟨0x2060, 12, 0x04, 0x04, (.u 32), .staged, 0, .band, false, false, .any⟩,
  ⟨0x2060, 12, 0x05, 0x05, .pos, .staged, 0, .band, false, false, .any⟩,
  ⟨0x2060, 12, 0x06, 0x06, (.u 32), .staged, 0, .band, false, true, .any⟩,
  ⟨0x2060, 12, 0x07, 0x07, (.i 64), .ro, 0, .none, false, false, .any⟩,
  ⟨0x2060, 12, 0x08, 0x08, .pos, .ro, 0, .none, false, false, .any⟩,
  ⟨0x2060, 12, 0x09, 0x09, (.u 64), .ro, 0, .none, false, false, .any⟩,
  ⟨0x2060, 12, 0x0A, 0x0A, (.u 32), .ro, 0, .none, false, false, .any⟩,
  ⟨0x2060, 12, 0x0B, 0x0B, (.u 32), .ro, 0, .none, false, false, .any⟩,
  ⟨0x2060, 12, 0x0C, 0x0C, (.u 32), .ro, 0, .none, false, false, .any⟩,
  ⟨0x2060, 12, 0xFC, 0xFC, .time, .ro, 0, .none, false, false, .any⟩,
  ⟨0x2060, 12, 0xFD, 0xFD, (.u 32), .ro, 0, .none, false, false, .any⟩,
  ⟨0x2060, 12, 0xFE, 0xFE, (.u 8), .ro, 0, .none, false, false, .any⟩,
  ⟨0x2060, 12, 0xFF, 0xFF, .enum, .rw, 0, .immediate, false, false, (.rng 1 2)⟩,
  ⟨0x2070, 16, 0x01, 0x01, .bool, .staged, 0, .repeat, false, false, .any⟩,
  ⟨0x2070, 16, 0x02, 0x02, .pos, .staged, 0, .repeat, false, false, .any⟩,
  ⟨0x2070, 16, 0x03, 0x03, (.u 32), .staged, 65536, .repeat, false, false, .any⟩,
  ⟨0x2070, 16, 0x04, 0x04, (.u 32), .staged, 0, .repeat, false, false, .any⟩,
  ⟨0x2070, 16, 0x05, 0x05, .pos, .staged, 0, .repeat, false, false, .any⟩,
  ⟨0x2070, 16, 0x07, 0x07, (.i 64), .ro, 0, .none, false, false, .any⟩,
  ⟨0x2070, 16, 0x08, 0x08, .pos, .ro, 0, .none, false, false, .any⟩,
  ⟨0x2070, 16, 0x09, 0x09, (.u 64), .ro, 0, .none, false, false, .any⟩,
  ⟨0x2070, 16, 0x0A, 0x0A, (.u 32), .ro, 0, .none, false, false, .any⟩,
  ⟨0x2070, 16, 0x0B, 0x0B, (.u 32), .ro, 0, .none, false, false, .any⟩,
  ⟨0x2070, 16, 0x0C, 0x0C, (.u 32), .ro, 0, .none, false, false, .any⟩,
  ⟨0x2070, 16, 0xFC, 0xFC, .time, .ro, 0, .none, false, false, .any⟩,
  ⟨0x2070, 16, 0xFD, 0xFD, (.u 32), .ro, 0, .none, false, false, .any⟩,
  ⟨0x2070, 16, 0xFE, 0xFE, (.u 8), .ro, 0, .none, false, false, .any⟩,
  ⟨0x2070, 16, 0xFF, 0xFF, .enum, .rw, 0, .immediate, false, false, (.rng 1 2)⟩,
  ⟨0x2080, 4, 0x01, 0x01, .enum, .staged, 0, .commit, false, false, (.rng 0 3)⟩]

/-- Entry rows of the index range 0x20xx, part 4. -/
def rows20_4 : List Row := [
  ⟨0x2080, 4, 0x02, 0x02, (.u 8), .staged, 0, .commit, false, false, (.rng 0 3)⟩,
  ⟨0x2080, 4, 0x03, 0x03, (.u 32), .staged, 1, .commit, false, false, (.rng 1 65536)⟩,
  ⟨0x2080, 4, 0x04, 0x04, (.q 32 32), .staged, 107374182400000, .commit, false, false, .any⟩,
  ⟨0x2080, 4, 0x05, 0x05, (.u 32), .staged, 25000000, .commit, false, false, .any⟩,
  ⟨0x2080, 4, 0x06, 0x06, .bool, .staged, 1, .commit, false, false, .any⟩,
  ⟨0x2080, 4, 0x07, 0x07, (.u 32), .ro, 0, .none, false, false, .any⟩,
  ⟨0x2080, 4, 0x08, 0x08, (.bits 8 1), .w1c, 0, .none, false, false, .any⟩,
  ⟨0x2080, 4, 0xFC, 0xFC, .time, .ro, 0, .none, false, false, .any⟩,
  ⟨0x2080, 4, 0xFD, 0xFD, (.u 32), .ro, 0, .none, false, false, .any⟩,
  ⟨0x2080, 4, 0xFE, 0xFE, (.u 8), .ro, 0, .none, false, false, .any⟩,
  ⟨0x2080, 4, 0xFF, 0xFF, .enum, .rw, 0, .immediate, false, false, (.rng 1 2)⟩,
  ⟨0x2090, 1, 0x01, 0x01, .bool, .rw, 0, .immediate, false, false, .any⟩,
  ⟨0x2090, 1, 0x02, 0x02, (.u 32), .rw, 10, .immediate, false, false, (.rng 1 1000)⟩,
  ⟨0x2090, 1, 0x03, 0x03, (.u 32), .rw, 1000, .immediate, false, false, .any⟩,
  ⟨0x2090, 1, 0x04, 0x04, (.u 16), .ro, 0, .none, false, false, .any⟩,
  ⟨0x2090, 1, 0x05, 0x05, (.u 32), .ro, 0, .none, false, false, .any⟩,
  ⟨0x2090, 1, 0x06, 0x06, (.u 32), .ro, 0, .none, false, false, .any⟩]

/-- Entry rows of the index range 0x20xx, in ascending index and subindex. -/
def rows20 : List Row := rows20_1 ++ rows20_2 ++ rows20_3 ++ rows20_4

/-- Entry rows of the index range 0x22xx, part 1. -/
def rows22_1 : List Row := [
  ⟨0x2200, 12, 0x01, 0x01, (.u 16), .staged, 0, .band, false, true, (.rng 0 32768)⟩,
  ⟨0x2200, 12, 0x02, 0x02, .enum, .staged, 4, .band, true, false, (.vals [1, 2, 4])⟩,
  ⟨0x2200, 12, 0x03, 0x03, .enum, .staged, 7, .band, false, false, (.rng 1 7)⟩,
  ⟨0x2200, 12, 0x04, 0x04, .enum, .staged, 1, .band, false, false, (.rng 1 7)⟩,
  ⟨0x2200, 12, 0x05, 0x05, .enum, .staged, 0, .band, false, false, (.rng 0 1)⟩,
  ⟨0x2200, 12, 0x06, 0x06, (.u 8), .staged, 10, .band, true, false, (.vals [8, 10, 12, 14, 16])⟩,
  ⟨0x2200, 12, 0x07, 0x07, (.u 32), .staged, 0, .band, false, true, .any⟩,
  ⟨0x2200, 12, 0x08, 0x08, (.u 8), .staged, 0, .band, false, false, .any⟩,
  ⟨0x2200, 12, 0x09, 0x09, (.u 8), .staged, 2, .band, true, false, (.rng 1 2)⟩,
  ⟨0x2200, 12, 0x0A, 0x0A, .enum, .staged, 0, .band, false, false, (.rng 0 1)⟩,
  ⟨0x2200, 12, 0x0B, 0x0B, (.u 16), .staged, 16, .band, true, false, (.rng 2 256)⟩,
  ⟨0x2200, 12, 0x0C, 0x0C, (.u 32), .staged, 1024, .band, true, false, (.rng 64 65536)⟩,
  ⟨0x2200, 12, 0x0D, 0x0D, (.u 16), .staged, 2000, .band, false, false, .any⟩,
  ⟨0x2200, 12, 0x0E, 0x0E, (.u 32), .staged, 100, .band, false, false, .any⟩,
  ⟨0x2200, 12, 0x0F, 0x0F, (.u 8), .staged, 3, .band, true, false, .any⟩,
  ⟨0x2200, 12, 0x10, 0x10, (.u 32), .staged, 100, .band, true, false, .any⟩,
  ⟨0x2200, 12, 0x11, 0x11, .enum, .staged, 1, .band, false, false, (.rng 0 1)⟩,
  ⟨0x2200, 12, 0x12, 0x12, (.u 16), .staged, 64, .band, true, false, (.multRng 4 4 256)⟩,
  ⟨0x2200, 12, 0xFC, 0xFC, .time, .ro, 0, .none, false, false, .any⟩,
  ⟨0x2200, 12, 0xFD, 0xFD, (.u 32), .ro, 0, .none, false, false, .any⟩,
  ⟨0x2200, 12, 0xFE, 0xFE, (.u 8), .ro, 0, .none, false, false, .any⟩,
  ⟨0x2200, 12, 0xFF, 0xFF, .enum, .rw, 0, .immediate, false, false, (.rng 1 2)⟩,
  ⟨0x2210, 1, 0x01, 0x01, (.bits 16 4095), .ro, 0, .none, false, false, .any⟩,
  ⟨0x2210, 1, 0x02, 0x02, (.bits 16 4095), .ro, 0, .none, false, false, .any⟩,
  ⟨0x2210, 1, 0x03, 0x03, (.u 8), .ro, 0, .none, false, false, .any⟩,
  ⟨0x2220, 12, 0x01, 0x01, .enum, .ro, 0, .none, false, false, .any⟩,
  ⟨0x2220, 12, 0x02, 0x02, (.bits 8 15), .ro, 0, .none, false, false, .any⟩,
  ⟨0x2220, 12, 0x03, 0x03, .enum, .ro, 0, .none, false, false, .any⟩,
  ⟨0x2220, 12, 0x04, 0x04, .enum, .ro, 0, .none, false, false, .any⟩,
  ⟨0x2220, 12, 0x05, 0x05, (.bits 16 2047), .w1c, 0, .none, false, false, .any⟩,
  ⟨0x2220, 12, 0x06, 0x06, .enum, .ro, 0, .none, false, false, .any⟩,
  ⟨0x2220, 12, 0x07, 0x07, (.u 64), .ro, 0, .none, false, false, .any⟩,
  ⟨0x2220, 12, 0x08, 0x08, (.u 32), .ro, 0, .none, false, false, .any⟩,
  ⟨0x2220, 12, 0x09, 0x09, (.u 32), .ro, 0, .none, false, false, .any⟩,
  ⟨0x2220, 12, 0x0A, 0x0A, (.u 32), .ro, 0, .none, false, false, .any⟩,
  ⟨0x2220, 12, 0x0B, 0x0B, (.u 32), .ro, 0, .none, false, false, .any⟩,
  ⟨0x2220, 12, 0x0C, 0x0C, .time, .ro, 0, .none, false, false, .any⟩,
  ⟨0x2220, 12, 0x0D, 0x0D, (.u 32), .ro, 0, .none, false, false, .any⟩,
  ⟨0x2220, 12, 0x0E, 0x0E, (.u 32), .ro, 0, .none, false, false, .any⟩,
  ⟨0x2220, 12, 0x0F, 0x0F, (.u 32), .ro, 0, .none, false, false, .any⟩]

/-- Entry rows of the index range 0x22xx, part 2. -/
def rows22_2 : List Row := [
  ⟨0x2220, 12, 0x10, 0x10, (.u 32), .ro, 0, .none, false, false, .any⟩,
  ⟨0x2220, 12, 0x11, 0x11, (.u 32), .ro, 0, .none, false, false, .any⟩,
  ⟨0x2220, 12, 0x12, 0x12, (.u 16), .ro, 0, .none, false, false, .any⟩,
  ⟨0x2220, 12, 0x13, 0x13, (.u 16), .ro, 0, .none, false, false, .any⟩,
  ⟨0x2220, 12, 0x14, 0x14, (.i 64), .ro, 0, .none, false, false, .any⟩,
  ⟨0x2220, 12, 0x15, 0x15, (.u 32), .ro, 0, .none, false, false, .any⟩,
  ⟨0x2220, 12, 0x16, 0x16, .bool, .wo, 0, .immediate, false, false, .any⟩,
  ⟨0x2220, 12, 0x17, 0x17, .bool, .wo, 0, .immediate, false, false, .any⟩,
  ⟨0x2240, 12, 0x01, 0x01, (.u 32), .rw, 0, .immediate, false, false, (.mult 4)⟩,
  ⟨0x2240, 12, 0x02, 0x02, (.u 16), .rw, 4, .immediate, true, false, (.multRng 4 4 1024)⟩,
  ⟨0x2240, 12, 0x03, 0x03, .enum, .rw, 0, .immediate, false, false, (.rng 0 1)⟩,
  ⟨0x2240, 12, 0x04, 0x04, .bool, .rw, 0, .immediate, false, false, .any⟩,
  ⟨0x2240, 12, 0x05, 0x05, (.domain 1024), .rw, 0, .immediate, false, false, .any⟩,
  ⟨0x2240, 12, 0x06, 0x06, .bool, .wo, 0, .immediate, false, false, .any⟩,
  ⟨0x2240, 12, 0x07, 0x07, .enum, .ro, 0, .none, false, false, .any⟩,
  ⟨0x2240, 12, 0x08, 0x08, (.u 8), .ro, 0, .none, false, false, .any⟩,
  ⟨0x2240, 12, 0x09, 0x09, (.u 32), .rw, 200, .immediate, false, false, .any⟩]

/-- Entry rows of the index range 0x22xx, in ascending index and subindex. -/
def rows22 : List Row := rows22_1 ++ rows22_2

/-- Entry rows of the index range 0x24xx, part 1. -/
def rows24_1 : List Row := [
  ⟨0x2400, 3, 0x01, 0x01, (.u 8), .ro, 0, .none, false, false, .any⟩,
  ⟨0x2400, 3, 0x02, 0x02, (.u 8), .ro, 0, .none, false, false, .any⟩,
  ⟨0x2400, 3, 0x03, 0x03, (.u 64), .ro, 0, .none, false, false, .any⟩,
  ⟨0x2400, 3, 0x04, 0x04, (.u 64), .ro, 0, .none, false, false, .any⟩,
  ⟨0x2400, 3, 0x05, 0x05, (.u 32), .ro, 0, .none, false, false, .any⟩,
  ⟨0x2410, 12, 0x01, 0x01, .bool, .staged, 0, .band, false, false, .any⟩,
  ⟨0x2410, 12, 0x02, 0x02, (.domain 8192), .staged, 0, .band, false, false, .any⟩,
  ⟨0x2410, 12, 0x03, 0x03, .enum, .staged, 0, .band, false, false, (.rng 0 2)⟩,
  ⟨0x2410, 12, 0x04, 0x04, .enum, .staged, 0, .band, false, false, (.rng 0 1)⟩,
  ⟨0x2410, 12, 0x05, 0x05, (.u 8), .staged, 0, .band, false, false, (.rng 0 1)⟩,
  ⟨0x2410, 12, 0x06, 0x06, (.q 8 8), .staged, 1024, .band, false, false, (.rng 256 4096)⟩,
  ⟨0x2410, 12, 0x07, 0x07, (.u 16), .staged, 52000, .band, false, false, .any⟩,
  ⟨0x2410, 12, 0x08, 0x08, (.u 16), .staged, 60000, .band, false, false, .any⟩,
  ⟨0x2410, 12, 0x09, 0x09, .bool, .staged, 0, .band, false, false, .any⟩,
  ⟨0x2410, 12, 0x0A, 0x0A, (.domain 131072), .staged, 0, .band, false, false, .any⟩,
  ⟨0x2410, 12, 0x0B, 0x0B, (.u 16), .staged, 0, .band, false, true, (.rng 0 1024)⟩,
  ⟨0x2410, 12, 0x0C, 0x0C, (.domain 4096), .staged, 0, .band, false, false, .any⟩,
  ⟨0x2410, 12, 0x0D, 0x0D, .enum, .staged, 0, .band, false, false, (.rng 0 3)⟩,
  ⟨0x2410, 12, 0x0E, 0x0E, .enum, .staged, 0, .band, false, false, (.rng 0 2)⟩,
  ⟨0x2410, 12, 0x0F, 0x0F, (.u 32), .staged, 4096, .band, false, false, (.rng 0 1048575)⟩,
  ⟨0x2410, 12, 0x10, 0x10, (.q 4 12), .staged, 4096, .band, false, false, .any⟩,
  ⟨0x2410, 12, 0x11, 0x11, (.q 4 12), .staged, 0, .band, false, false, .any⟩,
  ⟨0x2410, 12, 0x12, 0x12, (.q 4 12), .staged, 0, .band, false, false, .any⟩,
  ⟨0x2410, 12, 0x13, 0x13, (.q 4 12), .staged, 0, .band, false, false, .any⟩,
  ⟨0x2410, 12, 0x14, 0x14, (.q 4 12), .staged, 4096, .band, false, false, .any⟩,
  ⟨0x2410, 12, 0x15, 0x15, (.q 4 12), .staged, 0, .band, false, false, .any⟩,
  ⟨0x2410, 12, 0x16, 0x16, (.q 4 12), .staged, 0, .band, false, false, .any⟩,
  ⟨0x2410, 12, 0x17, 0x17, (.q 4 12), .staged, 0, .band, false, false, .any⟩,
  ⟨0x2410, 12, 0x18, 0x18, (.q 4 12), .staged, 4096, .band, false, false, .any⟩,
  ⟨0x2410, 12, 0x19, 0x1B, (.i 32), .staged, 0, .band, false, false, (.rng (-1048576) (1048576))⟩,
  ⟨0x2410, 12, 0xFC, 0xFC, .time, .ro, 0, .none, false, false, .any⟩,
  ⟨0x2410, 12, 0xFD, 0xFD, (.u 32), .ro, 0, .none, false, false, .any⟩,
  ⟨0x2410, 12, 0xFE, 0xFE, (.u 8), .ro, 0, .none, false, false, .any⟩,
  ⟨0x2410, 12, 0xFF, 0xFF, .enum, .rw, 0, .immediate, false, false, (.rng 1 2)⟩,
  ⟨0x2430, 12, 0x01, 0x01, (.q 2 14), .staged, 16384, .band, false, false, (.rng 8192 32767)⟩,
  ⟨0x2430, 12, 0x02, 0x02, (.q 2 14), .staged, 16384, .band, false, false, (.rng 8192 32767)⟩,
  ⟨0x2430, 12, 0x03, 0x03, (.q 2 14), .staged, 16384, .band, false, false, (.rng 8192 32767)⟩,
  ⟨0x2430, 12, 0xFC, 0xFC, .time, .ro, 0, .none, false, false, .any⟩,
  ⟨0x2430, 12, 0xFD, 0xFD, (.u 32), .ro, 0, .none, false, false, .any⟩,
  ⟨0x2430, 12, 0xFE, 0xFE, (.u 8), .ro, 0, .none, false, false, .any⟩]

/-- Entry rows of the index range 0x24xx, part 2. -/
def rows24_2 : List Row := [
  ⟨0x2430, 12, 0xFF, 0xFF, .enum, .rw, 0, .immediate, false, false, (.rng 1 2)⟩,
  ⟨0x2440, 12, 0x01, 0x01, .bool, .staged, 0, .band, false, false, .any⟩,
  ⟨0x2440, 12, 0x02, 0x02, (.u 64), .staged, 0, .band, false, false, (.rng 0 1099511627775)⟩,
  ⟨0x2440, 12, 0x03, 0x03, (.u 32), .staged, 1, .band, true, false, .any⟩,
  ⟨0x2440, 12, 0x04, 0x04, (.u 32), .staged, 49152, .band, false, false, .any⟩,
  ⟨0x2440, 12, 0x05, 0x05, .bool, .staged, 0, .band, false, false, .any⟩,
  ⟨0x2440, 12, 0x06, 0x06, .enum, .staged, 0, .band, false, false, (.rng 0 2)⟩,
  ⟨0x2440, 12, 0x07, 0x07, (.u 32), .staged, 6774, .band, false, false, (.rng 800 4294967295)⟩,
  ⟨0x2440, 12, 0x08, 0x08, (.i 64), .staged, 0, .band, false, false, .any⟩,
  ⟨0x2440, 12, 0xFC, 0xFC, .time, .ro, 0, .none, false, false, .any⟩,
  ⟨0x2440, 12, 0xFD, 0xFD, (.u 32), .ro, 0, .none, false, false, .any⟩,
  ⟨0x2440, 12, 0xFE, 0xFE, (.u 8), .ro, 0, .none, false, false, .any⟩,
  ⟨0x2440, 12, 0xFF, 0xFF, .enum, .rw, 0, .immediate, false, false, (.rng 1 2)⟩,
  ⟨0x2450, 12, 0x01, 0x01, .enum, .ro, 0, .none, false, false, .any⟩,
  ⟨0x2450, 12, 0x02, 0x02, (.i 64), .ro, 0, .none, false, false, .any⟩,
  ⟨0x2450, 12, 0x03, 0x03, (.u 32), .ro, 0, .none, false, false, .any⟩,
  ⟨0x2450, 12, 0x04, 0x04, (.u 64), .ro, 0, .none, false, false, .any⟩,
  ⟨0x2450, 12, 0x05, 0x05, (.u 32), .ro, 0, .none, false, false, .any⟩,
  ⟨0x2450, 12, 0x06, 0x06, (.bits 8 31), .w1c, 0, .none, false, false, .any⟩,
  ⟨0x2450, 12, 0x07, 0x07, (.u 32), .ro, 0, .none, false, false, .any⟩,
  ⟨0x2450, 12, 0x08, 0x08, (.u 32), .ro, 0, .none, false, false, .any⟩]

/-- Entry rows of the index range 0x24xx, in ascending index and subindex. -/
def rows24 : List Row := rows24_1 ++ rows24_2

/-- Entry rows of the index range 0x26xx, part 1. -/
def rows26_1 : List Row := [
  ⟨0x2600, 1, 0x01, 0x01, (.bits 16 4095), .staged, 0, .commit, false, false, .any⟩,
  ⟨0x2600, 1, 0x02, 0x02, (.u 32), .staged, 0, .commit, false, true, (.rng 0 160000)⟩,
  ⟨0x2600, 1, 0x03, 0x03, (.u 32), .staged, 8000, .commit, false, false, (.rng 1 800000)⟩,
  ⟨0x2600, 1, 0x04, 0x04, (.u 8), .staged, 4, .commit, true, false, (.rng 2 16)⟩,
  ⟨0x2600, 1, 0x05, 0x05, .enum, .staged, 0, .commit, false, false, (.rng 0 1)⟩,
  ⟨0x2600, 1, 0x06, 0x06, (.u 16), .staged, 13933, .commit, false, false, .any⟩,
  ⟨0x2600, 1, 0x07, 0x07, (.u 16), .staged, 46871, .commit, false, false, .any⟩,
  ⟨0x2600, 1, 0x08, 0x08, (.u 16), .staged, 4732, .commit, false, false, .any⟩,
  ⟨0x2600, 1, 0x09, 0x09, (.u 16), .staged, 0, .commit, false, false, .any⟩,
  ⟨0x2600, 1, 0x0A, 0x0A, (.u 8), .staged, 255, .commit, false, false, (.rngOr 0 63 255)⟩,
  ⟨0x2600, 1, 0x0B, 0x0B, (.bits 16 4095), .staged, 4095, .commit, false, false, .any⟩,
  ⟨0x2600, 1, 0xFC, 0xFC, .time, .ro, 0, .none, false, false, .any⟩,
  ⟨0x2600, 1, 0xFD, 0xFD, (.u 32), .ro, 0, .none, false, false, .any⟩,
  ⟨0x2600, 1, 0xFE, 0xFE, (.u 8), .ro, 0, .none, false, false, .any⟩,
  ⟨0x2600, 1, 0xFF, 0xFF, .enum, .rw, 0, .immediate, false, false, (.rng 1 2)⟩,
  ⟨0x2601, 1, 0x01, 0x01, (.u 64), .ro, 0, .none, false, false, .any⟩,
  ⟨0x2601, 1, 0x02, 0x02, (.u 64), .ro, 0, .none, false, false, .any⟩,
  ⟨0x2601, 1, 0x03, 0x03, (.i 64), .ro, 0, .none, false, false, .any⟩,
  ⟨0x2601, 1, 0x04, 0x04, (.u 32), .ro, 0, .none, false, false, .any⟩,
  ⟨0x2601, 1, 0x05, 0x05, (.u 32), .ro, 0, .none, false, false, .any⟩,
  ⟨0x2601, 1, 0x06, 0x06, (.bits 8 15), .w1c, 0, .none, false, false, .any⟩,
  ⟨0x2610, 12, 0x01, 0x01, (.u 32), .staged, 0, .band, false, false, .any⟩,
  ⟨0x2610, 12, 0x02, 0x02, (.u 16), .staged, 12288, .band, true, false, (.rng 1 32768)⟩,
  ⟨0x2610, 12, 0x03, 0x03, (.i 32), .staged, 0, .band, false, false, .any⟩,
  ⟨0x2610, 12, 0x04, 0x04, .enum, .staged, 0, .band, false, false, (.rng 0 1)⟩,
  ⟨0x2610, 12, 0x05, 0x05, (.i 32), .staged, 0, .band, false, false, .any⟩,
  ⟨0x2610, 12, 0x06, 0x06, (.i 32), .staged, 16777216, .band, false, false, .any⟩,
  ⟨0x2610, 12, 0x07, 0x07, (.i 32), .staged, 0, .band, false, false, .any⟩,
  ⟨0x2610, 12, 0x08, 0x08, (.i 32), .staged, 0, .band, false, false, .any⟩,
  ⟨0x2610, 12, 0xFC, 0xFC, .time, .ro, 0, .none, false, false, .any⟩,
  ⟨0x2610, 12, 0xFD, 0xFD, (.u 32), .ro, 0, .none, false, false, .any⟩,
  ⟨0x2610, 12, 0xFE, 0xFE, (.u 8), .ro, 0, .none, false, false, .any⟩,
  ⟨0x2610, 12, 0xFF, 0xFF, .enum, .rw, 0, .immediate, false, false, (.rng 1 2)⟩,
  ⟨0x2620, 12, 0x01, 0x01, .enum, .ro, 0, .none, false, false, .any⟩,
  ⟨0x2620, 12, 0x02, 0x02, (.u 32), .ro, 0, .none, false, false, .any⟩,
  ⟨0x2620, 12, 0x03, 0x03, (.u 32), .ro, 0, .none, false, false, .any⟩,
  ⟨0x2620, 12, 0x04, 0x04, (.u 32), .ro, 0, .none, false, false, .any⟩,
  ⟨0x2630, 11, 0x01, 0x01, .enum, .staged, 1, .commit, false, false, (.rng 0 1)⟩,
  ⟨0x2630, 11, 0x02, 0x02, (.u 16), .staged, 64, .commit, false, false, .any⟩,
  ⟨0x2630, 11, 0x03, 0x03, (.u 16), .staged, 32, .commit, true, false, (.multRng 2 2 65534)⟩]

/-- Entry rows of the index range 0x26xx, part 2. -/
def rows26_2 : List Row := [
  ⟨0x2630, 11, 0xFC, 0xFC, .time, .ro, 0, .none, false, false, .any⟩,
  ⟨0x2630, 11, 0xFD, 0xFD, (.u 32), .ro, 0, .none, false, false, .any⟩,
  ⟨0x2630, 11, 0xFE, 0xFE, (.u 8), .ro, 0, .none, false, false, .any⟩,
  ⟨0x2630, 11, 0xFF, 0xFF, .enum, .rw, 0, .immediate, false, false, (.rng 1 2)⟩,
  ⟨0x2640, 1, 0x01, 0x01, .bool, .staged, 0, .commit, false, false, .any⟩,
  ⟨0x2640, 1, 0x02, 0x02, (.u 8), .staged, 4, .commit, false, false, (.rng 1 16)⟩,
  ⟨0x2640, 1, 0x03, 0x03, .enum, .staged, 0, .commit, false, false, (.rng 0 1)⟩,
  ⟨0x2640, 1, 0x04, 0x04, (.domain 8192), .staged, 8192, .commit, false, false, .any⟩,
  ⟨0x2640, 1, 0x05, 0x05, (.u 64), .staged, 0, .commit, false, false, (.rng 0 1099511627775)⟩,
  ⟨0x2640, 1, 0x06, 0x06, (.u 32), .staged, 36544, .commit, false, false, .any⟩,
  ⟨0x2640, 1, 0x07, 0x07, (.u 32), .staged, 4096, .commit, true, false, .any⟩,
  ⟨0x2640, 1, 0x08, 0x08, (.u 16), .staged, 64, .commit, true, false, (.multRng 2 2 1024)⟩,
  ⟨0x2640, 1, 0x09, 0x09, (.u 8), .staged, 255, .commit, false, false, (.rngOr 0 63 255)⟩,
  ⟨0x2640, 1, 0xFC, 0xFC, .time, .ro, 0, .none, false, false, .any⟩,
  ⟨0x2640, 1, 0xFD, 0xFD, (.u 32), .ro, 0, .none, false, false, .any⟩,
  ⟨0x2640, 1, 0xFE, 0xFE, (.u 8), .ro, 0, .none, false, false, .any⟩,
  ⟨0x2640, 1, 0xFF, 0xFF, .enum, .rw, 0, .immediate, false, false, (.rng 1 2)⟩,
  ⟨0x2641, 1, 0x01, 0x01, (.u 64), .rw, 0, .immediate, false, false, .any⟩,
  ⟨0x2641, 1, 0x02, 0x02, (.u 64), .ro, 0, .none, false, false, .any⟩,
  ⟨0x2641, 1, 0x03, 0x03, (.u 32), .ro, 0, .none, false, false, .any⟩,
  ⟨0x2641, 1, 0x04, 0x04, (.bits 8 3), .w1c, 0, .none, false, false, .any⟩,
  ⟨0x2650, 2, 0x01, 0x01, .enum, .staged, 0, .commit, false, false, (.rng 0 2)⟩,
  ⟨0x2650, 2, 0x02, 0x02, (.u 32), .staged, 0, .commit, false, false, .any⟩,
  ⟨0x2650, 2, 0x03, 0x03, (.u 32), .staged, 1024, .commit, true, false, .any⟩,
  ⟨0x2650, 2, 0x04, 0x04, (.u 16), .staged, 1, .commit, false, false, .any⟩,
  ⟨0x2650, 2, 0x05, 0x05, (.u 64), .staged, 0, .commit, false, false, (.rng 0 1099511627775)⟩,
  ⟨0x2650, 2, 0x06, 0x06, (.u 32), .staged, 6144, .commit, false, false, .any⟩,
  ⟨0x2650, 2, 0x07, 0x07, (.u 32), .staged, 1024, .commit, true, false, .any⟩,
  ⟨0x2650, 2, 0x08, 0x08, (.u 32), .staged, 256, .commit, true, false, .any⟩,
  ⟨0x2650, 2, 0x09, 0x09, (.u 8), .staged, 255, .commit, false, false, (.rngOr 0 63 255)⟩,
  ⟨0x2650, 2, 0xFC, 0xFC, .time, .ro, 0, .none, false, false, .any⟩,
  ⟨0x2650, 2, 0xFD, 0xFD, (.u 32), .ro, 0, .none, false, false, .any⟩,
  ⟨0x2650, 2, 0xFE, 0xFE, (.u 8), .ro, 0, .none, false, false, .any⟩,
  ⟨0x2650, 2, 0xFF, 0xFF, .enum, .rw, 0, .immediate, false, false, (.rng 1 2)⟩,
  ⟨0x2658, 2, 0x01, 0x01, (.u 64), .ro, 0, .none, false, false, .any⟩,
  ⟨0x2658, 2, 0x02, 0x02, (.bits 8 3), .w1c, 0, .none, false, false, .any⟩,
  ⟨0x2660, 8, 0x01, 0x01, .bool, .staged, 0, .commit, false, false, .any⟩,
  ⟨0x2660, 8, 0x02, 0x02, .enum, .staged, 1, .commit, false, false, (.rng 1 3)⟩,
  ⟨0x2660, 8, 0x03, 0x03, (.u 32), .staged, 0, .commit, false, false, .any⟩,
  ⟨0x2660, 8, 0x04, 0x04, (.u 16), .staged, 1920, .commit, true, false, (.rng 1 4096)⟩]

/-- Entry rows of the index range 0x26xx, part 3. -/
def rows26_3 : List Row := [
  ⟨0x2660, 8, 0x05, 0x05, (.q 8 8), .staged, 256, .commit, false, false, (.rng 256 16384)⟩,
  ⟨0x2660, 8, 0x06, 0x06, (.q 8 8), .staged, 256, .commit, false, false, (.rng 256 16384)⟩,
  ⟨0x2660, 8, 0x07, 0x07, (.u 16), .staged, 1080, .commit, true, false, (.rng 1 4096)⟩,
  ⟨0x2660, 8, 0x08, 0x08, (.u 16), .staged, 65535, .commit, false, false, .any⟩,
  ⟨0x2660, 8, 0x09, 0x09, .bool, .staged, 1, .commit, false, false, .any⟩,
  ⟨0x2660, 8, 0x0A, 0x0A, (.u 8), .staged, 0, .commit, false, true, (.rng 0 64)⟩,
  ⟨0x2660, 8, 0x0B, 0x0B, (.u 8), .staged, 2, .commit, false, false, (.rng 1 8)⟩,
  ⟨0x2660, 8, 0x0C, 0x0C, (.u 64), .staged, 0, .commit, false, false, (.mult 64)⟩,
  ⟨0x2660, 8, 0x0D, 0x0D, (.u 32), .staged, 5760, .commit, false, false, (.mult 64)⟩,
  ⟨0x2660, 8, 0x0E, 0x0E, (.u 16), .staged, 4, .commit, true, false, .any⟩,
  ⟨0x2660, 8, 0x0F, 0x0F, (.u 8), .staged, 255, .commit, false, false, (.rngOr 0 63 255)⟩,
  ⟨0x2660, 8, 0x10, 0x10, .enum, .staged, 0, .commit, false, false, (.rng 0 1)⟩,
  ⟨0x2660, 8, 0x11, 0x11, (.u 32), .staged, 0, .commit, false, false, .any⟩,
  ⟨0x2660, 8, 0x12, 0x12, (.u 16), .staged, 5004, .commit, false, false, .any⟩,
  ⟨0x2660, 8, 0x13, 0x13, (.u 16), .staged, 5004, .commit, false, false, .any⟩,
  ⟨0x2660, 8, 0x14, 0x14, (.u 8), .staged, 96, .commit, false, false, (.rng 96 127)⟩,
  ⟨0x2660, 8, 0x15, 0x15, (.u 32), .staged, 0, .commit, false, false, .any⟩,
  ⟨0x2660, 8, 0xFC, 0xFC, .time, .ro, 0, .none, false, false, .any⟩,
  ⟨0x2660, 8, 0xFD, 0xFD, (.u 32), .ro, 0, .none, false, false, .any⟩,
  ⟨0x2660, 8, 0xFE, 0xFE, (.u 8), .ro, 0, .none, false, false, .any⟩,
  ⟨0x2660, 8, 0xFF, 0xFF, .enum, .rw, 0, .immediate, false, false, (.rng 1 2)⟩,
  ⟨0x2670, 8, 0x01, 0x01, (.u 64), .ro, 0, .none, false, false, .any⟩,
  ⟨0x2670, 8, 0x02, 0x02, (.u 64), .ro, 0, .none, false, false, .any⟩,
  ⟨0x2670, 8, 0x03, 0x03, (.u 32), .ro, 0, .none, false, false, .any⟩,
  ⟨0x2670, 8, 0x04, 0x04, (.u 32), .ro, 0, .none, false, false, .any⟩,
  ⟨0x2670, 8, 0x05, 0x05, (.bits 8 15), .w1c, 0, .none, false, false, .any⟩,
  ⟨0x2680, 1, 0x01, 0x01, (.domain 256), .rw, 256, .immediate, false, false, .any⟩]

/-- Entry rows of the index range 0x26xx, in ascending index and subindex. -/
def rows26 : List Row := rows26_1 ++ rows26_2 ++ rows26_3

/-- Entry rows of the index range 0x28xx, part 1. -/
def rows28_1 : List Row := [
  ⟨0x2800, 1, 0x01, 0x01, .enum, .staged, 0, .commit, false, false, (.rng 0 2)⟩,
  ⟨0x2800, 1, 0x02, 0x02, (.u 32), .staged, 0, .commit, false, false, .any⟩,
  ⟨0x2800, 1, 0x03, 0x03, (.u 32), .staged, 146047, .commit, false, false, .any⟩,
  ⟨0x2800, 1, 0x04, 0x04, (.u 16), .staged, 16, .commit, false, true, .any⟩,
  ⟨0x2800, 1, 0x05, 0x05, (.i 64), .staged, 0, .commit, false, false, .any⟩,
  ⟨0x2800, 1, 0x06, 0x06, (.u 32), .staged, 236726518, .commit, false, false, .any⟩,
  ⟨0x2800, 1, 0x07, 0x07, (.u 8), .staged, 0, .commit, false, false, (.rng 0 11)⟩,
  ⟨0x2800, 1, 0x08, 0x08, (.u 16), .staged, 8192, .commit, true, false, (.rng 64 65535)⟩,
  ⟨0x2800, 1, 0x09, 0x09, (.u 8), .staged, 255, .commit, false, false, (.rngOr 0 63 255)⟩,
  ⟨0x2800, 1, 0x0A, 0x0A, (.u 8), .staged, 255, .commit, false, false, (.rngOr 0 15 255)⟩,
  ⟨0x2800, 1, 0x0B, 0x0B, (.u 8), .staged, 255, .commit, false, false, (.rngOr 0 15 255)⟩,
  ⟨0x2800, 1, 0x0C, 0x0C, .enum, .staged, 0, .commit, false, false, (.rng 0 2)⟩,
  ⟨0x2800, 1, 0x0D, 0x0D, (.u 16), .staged, 4, .commit, false, false, .any⟩,
  ⟨0x2800, 1, 0x0E, 0x0E, .bool, .staged, 0, .commit, false, false, .any⟩,
  ⟨0x2800, 1, 0x0F, 0x0F, .bool, .staged, 0, .commit, false, false, .any⟩,
  ⟨0x2800, 1, 0x10, 0x10, (.u 32), .staged, 7224, .commit, false, false, .any⟩,
  ⟨0x2800, 1, 0x11, 0x11, (.u 32), .staged, 1000, .commit, false, false, .any⟩,
  ⟨0x2800, 1, 0xFC, 0xFC, .time, .ro, 0, .none, false, false, .any⟩,
  ⟨0x2800, 1, 0xFD, 0xFD, (.u 32), .ro, 0, .none, false, false, .any⟩,
  ⟨0x2800, 1, 0xFE, 0xFE, (.u 8), .ro, 0, .none, false, false, .any⟩,
  ⟨0x2800, 1, 0xFF, 0xFF, .enum, .rw, 0, .immediate, false, false, (.rng 1 2)⟩,
  ⟨0x2801, 1, 0x01, 0x01, (.u 64), .ro, 0, .none, false, false, .any⟩,
  ⟨0x2801, 1, 0x02, 0x02, (.u 32), .ro, 0, .none, false, false, .any⟩,
  ⟨0x2801, 1, 0x03, 0x03, (.u 16), .ro, 0, .none, false, false, .any⟩,
  ⟨0x2801, 1, 0x04, 0x04, (.u 16), .ro, 0, .none, false, false, .any⟩,
  ⟨0x2801, 1, 0x05, 0x05, (.u 32), .ro, 0, .none, false, false, .any⟩,
  ⟨0x2801, 1, 0x06, 0x06, (.u 32), .ro, 0, .none, false, false, .any⟩,
  ⟨0x2801, 1, 0x07, 0x07, (.u 32), .ro, 0, .none, false, false, .any⟩,
  ⟨0x2801, 1, 0x08, 0x08, (.u 32), .ro, 0, .none, false, false, .any⟩,
  ⟨0x2801, 1, 0x09, 0x09, (.u 32), .ro, 0, .none, false, false, .any⟩,
  ⟨0x2801, 1, 0x0A, 0x0A, (.u 32), .ro, 0, .none, false, false, .any⟩,
  ⟨0x2801, 1, 0x0B, 0x0B, (.u 32), .ro, 0, .none, false, false, .any⟩,
  ⟨0x2801, 1, 0x0C, 0x0C, (.u 32), .ro, 0, .none, false, false, .any⟩,
  ⟨0x2801, 1, 0x0D, 0x0D, .bool, .ro, 0, .none, false, false, .any⟩,
  ⟨0x2801, 1, 0x0E, 0x0E, (.u 32), .ro, 0, .none, false, false, .any⟩,
  ⟨0x2801, 1, 0x0F, 0x0F, (.bits 8 127), .w1c, 0, .none, false, false, .any⟩,
  ⟨0x2810, 1, 0x01, 0x01, (.u 16), .staged, 2000, .band, false, false, (.rng 1 65535)⟩,
  ⟨0x2810, 1, 0x02, 0x02, (.u 16), .staged, 4000, .band, false, false, .any⟩,
  ⟨0x2810, 1, 0x03, 0x03, (.u 16), .staged, 21845, .band, false, false, .any⟩,
  ⟨0x2810, 1, 0x04, 0x04, (.u 16), .staged, 21846, .band, false, false, .any⟩]

/-- Entry rows of the index range 0x28xx, part 2. -/
def rows28_2 : List Row := [
  ⟨0x2810, 1, 0x05, 0x05, (.u 16), .staged, 21845, .band, false, false, .any⟩,
  ⟨0x2810, 1, 0x06, 0x06, .enum, .staged, 0, .band, false, false, (.rng 0 1)⟩,
  ⟨0x2810, 1, 0x07, 0x07, (.u 16), .staged, 1024, .band, false, false, (.rng 1 65535)⟩,
  ⟨0x2810, 1, 0x08, 0x08, .bool, .staged, 1, .band, false, false, .any⟩,
  ⟨0x2810, 1, 0x09, 0x09, (.u 8), .staged, 6, .band, false, false, (.rng 1 16)⟩,
  ⟨0x2810, 1, 0x0A, 0x0A, .bool, .staged, 1, .band, false, false, .any⟩,
  ⟨0x2810, 1, 0x0B, 0x0B, (.u 16), .staged, 1024, .band, true, false, (.rng 1 65535)⟩,
  ⟨0x2810, 1, 0x0C, 0x0C, (.u 8), .staged, 63, .band, false, false, (.rng 0 63)⟩,
  ⟨0x2810, 1, 0x0D, 0x0D, (.domain 2048), .staged, 2048, .band, false, false, .any⟩,
  ⟨0x2810, 1, 0xFC, 0xFC, .time, .ro, 0, .none, false, false, .any⟩,
  ⟨0x2810, 1, 0xFD, 0xFD, (.u 32), .ro, 0, .none, false, false, .any⟩,
  ⟨0x2810, 1, 0xFE, 0xFE, (.u 8), .ro, 0, .none, false, false, .any⟩,
  ⟨0x2810, 1, 0xFF, 0xFF, .enum, .rw, 0, .immediate, false, false, (.rng 1 2)⟩,
  ⟨0x2830, 1, 0x01, 0x01, (.u 16), .staged, 60000, .band, false, false, .any⟩,
  ⟨0x2830, 1, 0x02, 0x02, (.u 16), .staged, 60000, .band, false, false, .any⟩,
  ⟨0x2830, 1, 0x03, 0x03, (.u 16), .staged, 60000, .band, false, false, .any⟩,
  ⟨0x2830, 1, 0x04, 0x04, (.domain 48), .staged, 48, .band, false, false, .any⟩,
  ⟨0x2830, 1, 0x05, 0x05, (.domain 1542), .staged, 1542, .band, false, false, .any⟩,
  ⟨0x2830, 1, 0x06, 0x06, (.domain 64), .staged, 64, .band, false, false, .any⟩,
  ⟨0x2830, 1, 0x07, 0x07, (.i 64), .staged, 0, .band, false, false, .any⟩,
  ⟨0x2830, 1, 0x08, 0x08, (.u 32), .staged, 710232747, .band, false, false, .any⟩,
  ⟨0x2830, 1, 0x09, 0x09, (.bits 8 255), .staged, 255, .band, false, false, .any⟩,
  ⟨0x2830, 1, 0xFC, 0xFC, .time, .ro, 0, .none, false, false, .any⟩,
  ⟨0x2830, 1, 0xFD, 0xFD, (.u 32), .ro, 0, .none, false, false, .any⟩,
  ⟨0x2830, 1, 0xFE, 0xFE, (.u 8), .ro, 0, .none, false, false, .any⟩,
  ⟨0x2830, 1, 0xFF, 0xFF, .enum, .rw, 0, .immediate, false, false, (.rng 1 2)⟩,
  ⟨0x2840, 16, 0x01, 0x01, (.u 8), .staged, 255, .commit, false, false, (.rngOr 0 7 255)⟩,
  ⟨0x2840, 16, 0x02, 0x02, (.i 64), .staged, 0, .commit, false, false, .any⟩,
  ⟨0x2840, 16, 0x03, 0x03, (.u 32), .staged, 355116373, .commit, false, false, .any⟩,
  ⟨0x2840, 16, 0x04, 0x04, (.u 8), .staged, 0, .commit, false, false, (.rng 0 127)⟩,
  ⟨0x2840, 16, 0x05, 0x05, (.u 8), .staged, 16, .commit, true, false, .any⟩,
  ⟨0x2840, 16, 0x06, 0x06, (.u 16), .staged, 6144, .commit, true, false, (.rng 1 8192)⟩,
  ⟨0x2840, 16, 0xFC, 0xFC, .time, .ro, 0, .none, false, false, .any⟩,
  ⟨0x2840, 16, 0xFD, 0xFD, (.u 32), .ro, 0, .none, false, false, .any⟩,
  ⟨0x2840, 16, 0xFE, 0xFE, (.u 8), .ro, 0, .none, false, false, .any⟩,
  ⟨0x2840, 16, 0xFF, 0xFF, .enum, .rw, 0, .immediate, false, false, (.rng 1 2)⟩,
  ⟨0x2850, 1, 0x01, 0x01, .bool, .staged, 0, .band, false, false, .any⟩,
  ⟨0x2850, 1, 0x02, 0x02, (.u 16), .staged, 1500, .band, false, false, .any⟩,
  ⟨0x2850, 1, 0x03, 0x03, (.u 8), .staged, 4, .band, true, false, .any⟩,
  ⟨0x2850, 1, 0x04, 0x04, (.u 16), .staged, 256, .band, true, false, .any⟩]

/-- Entry rows of the index range 0x28xx, part 3. -/
def rows28_3 : List Row := [
  ⟨0x2850, 1, 0x05, 0x05, (.u 8), .staged, 64, .band, false, false, .any⟩,
  ⟨0x2850, 1, 0x06, 0x06, (.u 8), .staged, 3, .band, false, false, (.rng 1 255)⟩,
  ⟨0x2850, 1, 0x07, 0x07, .bool, .staged, 0, .band, false, false, .any⟩,
  ⟨0x2850, 1, 0x08, 0x08, (.u 8), .staged, 255, .band, false, false, (.rngOr 0 63 255)⟩,
  ⟨0x2850, 1, 0xFC, 0xFC, .time, .ro, 0, .none, false, false, .any⟩,
  ⟨0x2850, 1, 0xFD, 0xFD, (.u 32), .ro, 0, .none, false, false, .any⟩,
  ⟨0x2850, 1, 0xFE, 0xFE, (.u 8), .ro, 0, .none, false, false, .any⟩,
  ⟨0x2850, 1, 0xFF, 0xFF, .enum, .rw, 0, .immediate, false, false, (.rng 1 2)⟩,
  ⟨0x2860, 1, 0x01, 0x01, .bool, .staged, 0, .commit, false, false, .any⟩,
  ⟨0x2860, 1, 0x02, 0x02, (.u 16), .staged, 512, .commit, true, false, (.rng 16 4096)⟩,
  ⟨0x2860, 1, 0x03, 0x03, (.u 16), .staged, 1024, .commit, true, false, .any⟩,
  ⟨0x2860, 1, 0x04, 0x04, (.u 16), .staged, 32, .commit, false, true, .any⟩,
  ⟨0x2860, 1, 0x05, 0x05, (.u 8), .staged, 8, .commit, true, false, (.rng 1 16)⟩,
  ⟨0x2860, 1, 0x06, 0x06, (.u 64), .staged, 0, .commit, false, false, (.rng 0 1099511627775)⟩,
  ⟨0x2860, 1, 0x07, 0x07, (.u 32), .staged, 268435456, .commit, true, false, .any⟩,
  ⟨0x2860, 1, 0x08, 0x08, .bool, .staged, 0, .commit, false, false, .any⟩,
  ⟨0x2860, 1, 0x09, 0x09, (.u 8), .staged, 1, .commit, false, false, (.rng 1 9)⟩,
  ⟨0x2860, 1, 0x0A, 0x0A, (.u 8), .staged, 255, .commit, false, false, (.rngOr 0 63 255)⟩,
  ⟨0x2860, 1, 0xFC, 0xFC, .time, .ro, 0, .none, false, false, .any⟩,
  ⟨0x2860, 1, 0xFD, 0xFD, (.u 32), .ro, 0, .none, false, false, .any⟩,
  ⟨0x2860, 1, 0xFE, 0xFE, (.u 8), .ro, 0, .none, false, false, .any⟩,
  ⟨0x2860, 1, 0xFF, 0xFF, .enum, .rw, 0, .immediate, false, false, (.rng 1 2)⟩,
  ⟨0x2861, 1, 0x01, 0x01, (.u 32), .rw, 0, .immediate, false, false, .any⟩,
  ⟨0x2861, 1, 0x02, 0x02, (.u 32), .ro, 0, .none, false, false, .any⟩]

/-- Entry rows of the index range 0x28xx, in ascending index and subindex. -/
def rows28 : List Row := rows28_1 ++ rows28_2 ++ rows28_3

/-- Entry rows of the index range 0x30xx, part 1. -/
def rows30_1 : List Row := [
  ⟨0x3000, 1, 0x01, 0x01, (.domain 24576), .staged, 0, .commit, false, false, .any⟩,
  ⟨0x3000, 1, 0x02, 0x02, (.u 16), .staged, 0, .commit, false, true, (.rng 0 256)⟩,
  ⟨0x3000, 1, 0x03, 0x03, .bool, .staged, 0, .commit, false, false, .any⟩,
  ⟨0x3000, 1, 0x04, 0x04, (.u 8), .staged, 2, .commit, false, false, (.rng 1 2)⟩,
  ⟨0x3000, 1, 0x05, 0x05, (.u 8), .staged, 2, .commit, false, false, (.rng 1 2)⟩,
  ⟨0x3000, 1, 0x06, 0x06, .enum, .staged, 1, .commit, false, false, (.rng 0 1)⟩,
  ⟨0x3000, 1, 0x07, 0x07, .enum, .staged, 0, .commit, false, false, (.rng 0 1)⟩,
  ⟨0x3000, 1, 0x08, 0x08, (.bits 8 63), .staged, 15, .commit, false, false, .any⟩,
  ⟨0x3000, 1, 0x09, 0x09, (.u 64), .staged, 0, .commit, false, false, (.mult 64)⟩,
  ⟨0x3000, 1, 0x0A, 0x0A, (.u 32), .staged, 0, .commit, false, true, .any⟩,
  ⟨0x3000, 1, 0x0B, 0x0B, .enum, .staged, 0, .commit, false, false, (.rng 0 1)⟩,
  ⟨0x3000, 1, 0xFC, 0xFC, .time, .ro, 0, .none, false, false, .any⟩,
  ⟨0x3000, 1, 0xFD, 0xFD, (.u 32), .ro, 0, .none, false, false, .any⟩,
  ⟨0x3000, 1, 0xFE, 0xFE, (.u 8), .ro, 0, .none, false, false, .any⟩,
  ⟨0x3000, 1, 0xFF, 0xFF, .enum, .rw, 0, .immediate, false, false, (.rng 1 2)⟩,
  ⟨0x3001, 1, 0x01, 0x01, .bool, .staged, 0, .commit, false, false, .any⟩,
  ⟨0x3001, 1, 0x02, 0x02, (.u 64), .staged, 0, .commit, false, false, (.rng 0 1099511627775)⟩,
  ⟨0x3001, 1, 0x03, 0x03, (.u 32), .staged, 65536, .commit, true, false, (.rng 1 131072)⟩,
  ⟨0x3001, 1, 0x04, 0x04, (.u 32), .staged, 49152, .commit, true, false, (.rng 0 65536)⟩,
  ⟨0x3001, 1, 0x05, 0x05, (.q 32 32), .staged, 11915774012652782, .commit, false, false, .any⟩,
  ⟨0x3001, 1, 0xFC, 0xFC, .time, .ro, 0, .none, false, false, .any⟩,
  ⟨0x3001, 1, 0xFD, 0xFD, (.u 32), .ro, 0, .none, false, false, .any⟩,
  ⟨0x3001, 1, 0xFE, 0xFE, (.u 8), .ro, 0, .none, false, false, .any⟩,
  ⟨0x3001, 1, 0xFF, 0xFF, .enum, .rw, 0, .immediate, false, false, (.rng 1 2)⟩,
  ⟨0x3002, 1, 0x01, 0x01, .enum, .ro, 0, .none, false, false, .any⟩,
  ⟨0x3002, 1, 0x02, 0x02, (.u 8), .ro, 255, .none, false, false, .any⟩,
  ⟨0x3002, 1, 0x03, 0x03, (.i 64), .ro, 0, .none, false, false, .any⟩,
  ⟨0x3002, 1, 0x04, 0x04, (.u 16), .ro, 0, .none, false, false, .any⟩,
  ⟨0x3002, 1, 0x05, 0x05, (.u 32), .ro, 0, .none, false, false, .any⟩,
  ⟨0x3002, 1, 0x06, 0x06, (.u 64), .ro, 0, .none, false, false, .any⟩,
  ⟨0x3002, 1, 0x07, 0x07, (.i 64), .ro, 0, .none, false, false, .any⟩,
  ⟨0x3002, 1, 0x08, 0x08, (.u 32), .rw, 0, .immediate, false, false, .any⟩,
  ⟨0x3002, 1, 0x09, 0x09, (.u 32), .ro, 0, .none, false, false, .any⟩,
  ⟨0x3002, 1, 0x0A, 0x0A, (.u 32), .ro, 0, .none, false, false, .any⟩,
  ⟨0x3002, 1, 0x0B, 0x0B, (.i 64), .ro, 0, .none, false, false, .any⟩,
  ⟨0x3002, 1, 0x0C, 0x0C, (.bits 8 63), .w1c, 0, .none, false, false, .any⟩,
  ⟨0x3003, 1, 0x01, 0x01, (.domain 65536), .rws, 65536, .immediate, false, false, .any⟩,
  ⟨0x3010, 16, 0x01, 0x01, .bool, .staged, 0, .commit, false, false, .any⟩,
  ⟨0x3010, 16, 0x02, 0x02, (.u 8), .staged, 0, .commit, false, false, (.rng 0 7)⟩,
  ⟨0x3010, 16, 0x03, 0x03, (.u 8), .staged, 0, .commit, false, false, (.rng 0 127)⟩]

/-- Entry rows of the index range 0x30xx, part 2. -/
def rows30_2 : List Row := [
  ⟨0x3010, 16, 0x04, 0x04, (.u 8), .staged, 16, .commit, true, false, .any⟩,
  ⟨0x3010, 16, 0x05, 0x05, (.u 16), .staged, 6144, .commit, true, false, (.rng 1 8192)⟩,
  ⟨0x3010, 16, 0x06, 0x06, (.u 8), .staged, 1, .commit, false, false, (.rng 1 2)⟩,
  ⟨0x3010, 16, 0x07, 0x07, (.u 8), .staged, 0, .commit, false, false, (.rng 0 1)⟩,
  ⟨0x3010, 16, 0x08, 0x08, (.u 8), .staged, 255, .commit, false, false, (.rngOr 0 15 255)⟩,
  ⟨0x3010, 16, 0x09, 0x09, (.u 16), .staged, 16, .commit, true, false, (.rng 2 256)⟩,
  ⟨0x3010, 16, 0x0A, 0x0A, (.u 32), .staged, 80000, .commit, false, false, .any⟩,
  ⟨0x3010, 16, 0xFC, 0xFC, .time, .ro, 0, .none, false, false, .any⟩,
  ⟨0x3010, 16, 0xFD, 0xFD, (.u 32), .ro, 0, .none, false, false, .any⟩,
  ⟨0x3010, 16, 0xFE, 0xFE, (.u 8), .ro, 0, .none, false, false, .any⟩,
  ⟨0x3010, 16, 0xFF, 0xFF, .enum, .rw, 0, .immediate, false, false, (.rng 1 2)⟩,
  ⟨0x3030, 16, 0x01, 0x01, .enum, .staged, 0, .line, false, false, (.rng 0 1)⟩,
  ⟨0x3030, 16, 0x02, 0x02, (.u 16), .staged, 1365, .line, false, false, (.rng 1 4095)⟩,
  ⟨0x3030, 16, 0x03, 0x03, (.u 16), .staged, 2730, .line, false, false, (.rng 1 4095)⟩,
  ⟨0x3030, 16, 0x04, 0x04, (.u 16), .staged, 4095, .line, false, false, (.rng 1 4095)⟩,
  ⟨0x3030, 16, 0x05, 0x05, (.u 16), .staged, 256, .line, false, false, (.rng 0 1024)⟩,
  ⟨0x3030, 16, 0x06, 0x06, (.u 8), .staged, 0, .line, false, false, .any⟩,
  ⟨0x3030, 16, 0x07, 0x07, (.u 8), .staged, 0, .line, false, false, .any⟩,
  ⟨0x3030, 16, 0x08, 0x08, (.u 16), .staged, 2047, .line, false, false, (.rng 1 2047)⟩,
  ⟨0x3030, 16, 0x09, 0x09, .bool, .staged, 1, .line, false, false, .any⟩,
  ⟨0x3030, 16, 0x0A, 0x0A, (.u 32), .staged, 1, .line, false, false, .any⟩,
  ⟨0x3030, 16, 0x0B, 0x0B, (.u 16), .staged, 256, .line, false, false, (.rng 0 2047)⟩,
  ⟨0x3030, 16, 0xFC, 0xFC, .time, .ro, 0, .none, false, false, .any⟩,
  ⟨0x3030, 16, 0xFD, 0xFD, (.u 32), .ro, 0, .none, false, false, .any⟩,
  ⟨0x3030, 16, 0xFE, 0xFE, (.u 8), .ro, 0, .none, false, false, .any⟩,
  ⟨0x3030, 16, 0xFF, 0xFF, .enum, .rw, 0, .immediate, false, false, (.rng 1 2)⟩,
  ⟨0x3050, 16, 0x01, 0x01, (.i 16), .staged, 0, .repeat, false, false, (.rng (-4096) (4096))⟩,
  ⟨0x3050, 16, 0xFC, 0xFC, .time, .ro, 0, .none, false, false, .any⟩,
  ⟨0x3050, 16, 0xFD, 0xFD, (.u 32), .ro, 0, .none, false, false, .any⟩,
  ⟨0x3050, 16, 0xFE, 0xFE, (.u 8), .ro, 0, .none, false, false, .any⟩,
  ⟨0x3050, 16, 0xFF, 0xFF, .enum, .rw, 0, .immediate, false, false, (.rng 1 2)⟩,
  ⟨0x3060, 16, 0x01, 0x01, (.u 64), .ro, 0, .none, false, false, .any⟩,
  ⟨0x3060, 16, 0x02, 0x02, (.i 64), .ro, 0, .none, false, false, .any⟩,
  ⟨0x3060, 16, 0x03, 0x03, (.u 32), .ro, 0, .none, false, false, .any⟩,
  ⟨0x3060, 16, 0x04, 0x04, (.u 32), .ro, 0, .none, false, false, .any⟩,
  ⟨0x3060, 16, 0x05, 0x05, (.u 16), .ro, 0, .none, false, false, .any⟩,
  ⟨0x3060, 16, 0x06, 0x06, (.u 32), .ro, 4294967295, .none, false, false, .any⟩]

/-- Entry rows of the index range 0x30xx, in ascending index and subindex. -/
def rows30 : List Row := rows30_1 ++ rows30_2

/-- Entry rows of the index range 0x32xx, part 1. -/
def rows32_1 : List Row := [
  ⟨0x3200, 1, 0x01, 0x01, (.domain 8388608), .rws, 8388608, .immediate, false, false, .any⟩,
  ⟨0x3200, 1, 0x02, 0x02, (.u 32), .wo, 0, .immediate, false, false, .any⟩,
  ⟨0x3200, 1, 0x03, 0x03, (.u 32), .ro, 0, .none, false, false, .any⟩,
  ⟨0x3200, 1, 0x04, 0x04, (.u 32), .ro, 0, .none, false, false, .any⟩,
  ⟨0x3200, 1, 0x05, 0x05, (.u 32), .ro, 0, .none, false, false, .any⟩,
  ⟨0x3200, 1, 0x06, 0x06, (.bits 8 1), .w1c, 0, .none, false, false, .any⟩,
  ⟨0x3210, 16, 0x01, 0x01, (.domain 8192), .staged, 8192, .line, false, false, .any⟩,
  ⟨0x3210, 16, 0x02, 0x02, .enum, .staged, 1, .line, false, false, (.rng 0 2)⟩,
  ⟨0x3210, 16, 0x03, 0x03, (.u 8), .staged, 90, .line, false, false, .any⟩,
  ⟨0x3210, 16, 0x04, 0x04, (.u 8), .staged, 38, .line, false, false, .any⟩,
  ⟨0x3210, 16, 0xFC, 0xFC, .time, .ro, 0, .none, false, false, .any⟩,
  ⟨0x3210, 16, 0xFD, 0xFD, (.u 32), .ro, 0, .none, false, false, .any⟩,
  ⟨0x3210, 16, 0xFE, 0xFE, (.u 8), .ro, 0, .none, false, false, .any⟩,
  ⟨0x3210, 16, 0xFF, 0xFF, .enum, .rw, 0, .immediate, false, false, (.rng 1 2)⟩,
  ⟨0x3230, 16, 0x01, 0x01, (.u 16), .staged, 0, .line, false, true, (.rng 0 4096)⟩,
  ⟨0x3230, 16, 0x02, 0x02, (.domain 65536), .staged, 0, .line, false, false, .any⟩,
  ⟨0x3230, 16, 0xFC, 0xFC, .time, .ro, 0, .none, false, false, .any⟩,
  ⟨0x3230, 16, 0xFD, 0xFD, (.u 32), .ro, 0, .none, false, false, .any⟩,
  ⟨0x3230, 16, 0xFE, 0xFE, (.u 8), .ro, 0, .none, false, false, .any⟩,
  ⟨0x3230, 16, 0xFF, 0xFF, .enum, .rw, 0, .immediate, false, false, (.rng 1 2)⟩,
  ⟨0x3250, 16, 0x01, 0x01, (.u 32), .ro, 0, .none, false, false, .any⟩,
  ⟨0x3250, 16, 0x02, 0x02, (.u 64), .ro, 0, .none, false, false, .any⟩,
  ⟨0x3250, 16, 0x03, 0x03, (.u 32), .ro, 0, .none, false, false, .any⟩]

/-- Entry rows of the index range 0x32xx, in ascending index and subindex. -/
def rows32 : List Row := rows32_1

/-- Entry rows of the index range 0x34xx, part 1. -/
def rows34_1 : List Row := [
  ⟨0x3400, 32, 0x01, 0x01, .enum, .staged, 1, .commit, false, false, (.rng 1 4)⟩,
  ⟨0x3400, 32, 0x02, 0x02, (.bits 8 15), .staged, 0, .commit, false, false, .any⟩,
  ⟨0x3400, 32, 0x03, 0x03, (.u 32), .staged, 50000, .commit, false, false, .any⟩,
  ⟨0x3400, 32, 0x04, 0x04, (.u 32), .staged, 1000, .commit, false, true, .any⟩,
  ⟨0x3400, 32, 0x05, 0x05, (.u 8), .staged, 2, .commit, true, false, .any⟩,
  ⟨0x3400, 32, 0x06, 0x06, (.u 32), .staged, 1000, .commit, true, false, .any⟩,
  ⟨0x3400, 32, 0x07, 0x07, (.i 32), .staged, 4000000, .commit, false, false, .any⟩,
  ⟨0x3400, 32, 0x08, 0x08, .bool, .staged, 1, .commit, false, false, .any⟩,
  ⟨0x3400, 32, 0x10, 0x10, .enum, .rw, 0, .immediate, false, false, (.rng 0 1)⟩,
  ⟨0x3400, 32, 0x11, 0x11, .enum, .ro, 0, .none, false, false, .any⟩,
  ⟨0x3400, 32, 0x12, 0x12, (.bits 8 7), .w1c, 0, .none, false, false, .any⟩,
  ⟨0x3400, 32, 0x13, 0x13, (.u 64), .ro, 0, .none, false, false, .any⟩,
  ⟨0x3400, 32, 0x14, 0x14, (.u 32), .ro, 0, .none, false, false, .any⟩,
  ⟨0x3400, 32, 0x15, 0x15, .time, .ro, 0, .none, false, false, .any⟩,
  ⟨0x3400, 32, 0x16, 0x16, .bool, .wo, 0, .immediate, false, false, .any⟩,
  ⟨0x3400, 32, 0xFC, 0xFC, .time, .ro, 0, .none, false, false, .any⟩,
  ⟨0x3400, 32, 0xFD, 0xFD, (.u 32), .ro, 0, .none, false, false, .any⟩,
  ⟨0x3400, 32, 0xFE, 0xFE, (.u 8), .ro, 0, .none, false, false, .any⟩,
  ⟨0x3400, 32, 0xFF, 0xFF, .enum, .rw, 0, .immediate, false, false, (.rng 1 2)⟩,
  ⟨0x3420, 1, 0x01, 0x01, .enum, .staged, 3, .commit, false, false, (.rng 0 3)⟩,
  ⟨0x3420, 1, 0x02, 0x02, .enum, .staged, 1, .commit, true, false, (.vals [1, 2, 4])⟩,
  ⟨0x3420, 1, 0x03, 0x03, (.u 8), .staged, 2, .commit, true, false, (.rng 1 2)⟩,
  ⟨0x3420, 1, 0x04, 0x04, (.u 16), .staged, 6144, .commit, true, false, (.rng 1 8192)⟩,
  ⟨0x3420, 1, 0x05, 0x05, .enum, .staged, 1, .commit, false, false, (.rng 0 3)⟩,
  ⟨0x3420, 4, 0x06, 0x06, (.domain 16384), .staged, 0, .commit, false, false, .any⟩,
  ⟨0x3420, 1, 0x07, 0x07, .enum, .staged, 0, .commit, false, false, (.rng 0 1)⟩,
  ⟨0x3420, 1, 0x08, 0x08, (.u 8), .staged, 228, .commit, false, false, .any⟩,
  ⟨0x3420, 1, 0x09, 0x09, (.u 8), .staged, 32, .commit, false, true, (.rng 0 64)⟩,
  ⟨0x3420, 1, 0x0A, 0x0A, (.u 64), .staged, 4042322160, .commit, false, false, .any⟩,
  ⟨0x3420, 1, 0x0B, 0x0B, (.u 8), .staged, 0, .commit, false, true, (.rng 0 64)⟩,
  ⟨0x3420, 1, 0x0C, 0x0C, .enum, .staged, 0, .commit, false, false, (.rng 0 1)⟩,
  ⟨0x3420, 1, 0x0D, 0x0D, .enum, .staged, 0, .commit, false, false, (.rng 0 1)⟩,
  ⟨0x3420, 1, 0x0E, 0x0E, (.u 16), .staged, 40, .commit, false, false, (.rng 4 4000)⟩,
  ⟨0x3420, 1, 0x0F, 0x0F, (.u 16), .staged, 16, .commit, false, false, (.rng 4 4000)⟩,
  ⟨0x3420, 1, 0x10, 0x10, (.u 16), .staged, 16, .commit, false, false, (.rng 4 4000)⟩,
  ⟨0x3420, 1, 0x11, 0x11, .enum, .staged, 0, .commit, false, false, (.rng 0 1)⟩,
  ⟨0x3420, 1, 0x12, 0x12, (.u 16), .staged, 360, .commit, false, false, .any⟩,
  ⟨0x3420, 1, 0x13, 0x13, (.u 16), .staged, 640, .commit, false, false, .any⟩,
  ⟨0x3420, 1, 0x14, 0x14, (.u 16), .staged, 1600, .commit, false, false, .any⟩,
  ⟨0x3420, 1, 0x15, 0x15, (.u 16), .staged, 800, .commit, false, false, .any⟩]

/-- Entry rows of the index range 0x34xx, part 2. -/
def rows34_2 : List Row := [
  ⟨0x3420, 1, 0x16, 0x16, (.u 16), .staged, 2000, .commit, false, false, (.rng 1 7999)⟩,
  ⟨0x3420, 1, 0x17, 0x17, (.u 32), .staged, 96000, .commit, false, false, (.rng 1000 200000)⟩,
  ⟨0x3420, 4, 0x18, 0x18, (.domain 68), .staged, 68, .commit, false, false, .any⟩,
  ⟨0x3420, 4, 0x19, 0x19, (.i 32), .staged, 20000, .commit, false, false, .any⟩,
  ⟨0x3420, 4, 0x1A, 0x1A, (.u 32), .staged, 5000, .commit, false, false, (.rng 100 100000)⟩,
  ⟨0x3420, 4, 0x1B, 0x1B, (.i 32), .staged, 70000, .commit, false, false, .any⟩,
  ⟨0x3420, 4, 0x1C, 0x1C, (.u 8), .staged, 80, .commit, false, false, (.rng 0 127)⟩,
  ⟨0x3420, 4, 0x1D, 0x1D, (.u 8), .staged, 64, .commit, true, false, (.rng 4 255)⟩,
  ⟨0x3420, 4, 0x1E, 0x1E, (.u 32), .staged, 0, .commit, false, false, .any⟩,
  ⟨0x3420, 4, 0x1F, 0x1F, (.u 32), .staged, 0, .commit, false, false, .any⟩,
  ⟨0x3420, 4, 0x20, 0x20, (.u 8), .staged, 72, .commit, false, true, (.rng 0 127)⟩,
  ⟨0x3420, 4, 0x21, 0x21, (.u 8), .staged, 0, .commit, false, false, .any⟩,
  ⟨0x3420, 4, 0x22, 0x22, (.u 8), .staged, 64, .commit, false, false, .any⟩,
  ⟨0x3420, 4, 0x23, 0x23, (.i 32), .staged, 2000000, .commit, false, false, .any⟩,
  ⟨0x3420, 4, 0x24, 0x24, (.i 32), .staged, 3000000, .commit, false, false, .any⟩,
  ⟨0x3420, 4, 0x25, 0x25, (.u 16), .staged, 8, .commit, false, false, .any⟩,
  ⟨0x3420, 4, 0x26, 0x26, (.u 8), .staged, 2, .commit, true, false, .any⟩,
  ⟨0x3420, 4, 0x27, 0x27, (.u 32), .staged, 1000, .commit, true, false, .any⟩,
  ⟨0x3420, 4, 0x28, 0x28, (.u 16), .staged, 10, .commit, false, false, (.rng 1 10000)⟩,
  ⟨0x3420, 4, 0x29, 0x29, .enum, .staged, 1, .commit, false, false, (.rng 0 1)⟩,
  ⟨0x3420, 4, 0x30, 0x30, (.u 32), .ro, 0, .none, false, false, .any⟩,
  ⟨0x3420, 4, 0xFC, 0xFC, .time, .ro, 0, .none, false, false, .any⟩,
  ⟨0x3420, 4, 0xFD, 0xFD, (.u 32), .ro, 0, .none, false, false, .any⟩,
  ⟨0x3420, 4, 0xFE, 0xFE, (.u 8), .ro, 0, .none, false, false, .any⟩,
  ⟨0x3420, 4, 0xFF, 0xFF, .enum, .rw, 0, .immediate, false, false, (.rng 1 2)⟩,
  ⟨0x3421, 1, 0x01, 0x01, .enum, .staged, 3, .commit, false, false, (.rng 0 3)⟩,
  ⟨0x3421, 1, 0x02, 0x02, .enum, .staged, 1, .commit, true, false, (.vals [1, 2, 4])⟩,
  ⟨0x3421, 1, 0x03, 0x03, (.u 8), .staged, 2, .commit, true, false, (.rng 1 2)⟩,
  ⟨0x3421, 1, 0x04, 0x04, (.u 16), .staged, 8192, .commit, true, false, (.rng 1 8192)⟩,
  ⟨0x3421, 1, 0x05, 0x05, .enum, .staged, 1, .commit, false, false, (.rng 0 3)⟩,
  ⟨0x3421, 1, 0x07, 0x07, .enum, .staged, 0, .commit, false, false, (.rng 0 1)⟩,
  ⟨0x3421, 1, 0x08, 0x08, (.u 8), .staged, 228, .commit, false, false, .any⟩,
  ⟨0x3421, 1, 0x09, 0x09, (.u 8), .staged, 32, .commit, false, true, (.rng 0 64)⟩,
  ⟨0x3421, 1, 0x0A, 0x0A, (.u 64), .staged, 4042322160, .commit, false, false, .any⟩,
  ⟨0x3421, 1, 0x0B, 0x0B, (.u 8), .staged, 16, .commit, false, true, (.rng 0 64)⟩,
  ⟨0x3421, 1, 0x0C, 0x0C, .enum, .staged, 0, .commit, false, false, (.rng 0 1)⟩,
  ⟨0x3421, 1, 0x0D, 0x0D, .enum, .staged, 0, .commit, false, false, (.rng 0 1)⟩,
  ⟨0x3421, 1, 0x0E, 0x0E, (.u 16), .staged, 80, .commit, false, false, (.rng 4 4000)⟩,
  ⟨0x3421, 1, 0x0F, 0x0F, (.u 16), .staged, 24, .commit, false, false, (.rng 4 4000)⟩,
  ⟨0x3421, 1, 0x10, 0x10, (.u 16), .staged, 24, .commit, false, false, (.rng 4 4000)⟩]

/-- Entry rows of the index range 0x34xx, part 3. -/
def rows34_3 : List Row := [
  ⟨0x3421, 1, 0x11, 0x11, .enum, .staged, 0, .commit, false, false, (.rng 0 1)⟩,
  ⟨0x3421, 1, 0x12, 0x12, (.u 16), .staged, 320, .commit, false, false, .any⟩,
  ⟨0x3421, 1, 0x13, 0x13, (.u 16), .staged, 560, .commit, false, false, .any⟩,
  ⟨0x3421, 1, 0x14, 0x14, (.u 16), .staged, 1440, .commit, false, false, .any⟩,
  ⟨0x3421, 1, 0x15, 0x15, (.u 16), .staged, 720, .commit, false, false, .any⟩,
  ⟨0x3421, 1, 0x16, 0x16, (.u 16), .staged, 1800, .commit, false, false, (.rng 1 7999)⟩,
  ⟨0x3421, 1, 0x17, 0x17, (.u 32), .staged, 90000, .commit, false, false, (.rng 1000 200000)⟩,
  ⟨0x3422, 1, 0x01, 0x01, .enum, .staged, 1, .commit, false, false, (.rng 0 3)⟩,
  ⟨0x3422, 1, 0x02, 0x02, .enum, .staged, 2, .commit, true, false, (.vals [1, 2, 4])⟩,
  ⟨0x3422, 1, 0x03, 0x03, (.u 8), .staged, 2, .commit, true, false, (.rng 1 2)⟩,
  ⟨0x3422, 1, 0x04, 0x04, (.u 16), .staged, 2048, .commit, true, false, (.rng 1 8192)⟩,
  ⟨0x3422, 1, 0x05, 0x05, .enum, .staged, 0, .commit, false, false, (.rng 0 3)⟩,
  ⟨0x3422, 1, 0x07, 0x07, .enum, .staged, 0, .commit, false, false, (.rng 0 1)⟩,
  ⟨0x3422, 1, 0x08, 0x08, (.u 8), .staged, 228, .commit, false, false, .any⟩,
  ⟨0x3422, 1, 0x09, 0x09, (.u 8), .staged, 16, .commit, false, true, (.rng 0 64)⟩,
  ⟨0x3422, 1, 0x0A, 0x0A, (.u 64), .staged, 21930, .commit, false, false, .any⟩,
  ⟨0x3422, 1, 0x0B, 0x0B, (.u 8), .staged, 0, .commit, false, true, (.rng 0 64)⟩,
  ⟨0x3422, 1, 0x0C, 0x0C, .enum, .staged, 1, .commit, false, false, (.rng 0 1)⟩,
  ⟨0x3422, 1, 0x0D, 0x0D, .enum, .staged, 1, .commit, false, false, (.rng 0 1)⟩,
  ⟨0x3422, 1, 0x0E, 0x0E, (.u 16), .staged, 160, .commit, false, false, (.rng 4 4000)⟩,
  ⟨0x3422, 1, 0x0F, 0x0F, (.u 16), .staged, 40, .commit, false, false, (.rng 4 4000)⟩,
  ⟨0x3422, 1, 0x10, 0x10, (.u 16), .staged, 40, .commit, false, false, (.rng 4 4000)⟩,
  ⟨0x3422, 1, 0x11, 0x11, .enum, .staged, 1, .commit, false, false, (.rng 0 1)⟩,
  ⟨0x3422, 1, 0x12, 0x12, (.u 16), .staged, 0, .commit, false, false, .any⟩,
  ⟨0x3422, 1, 0x13, 0x13, (.u 16), .staged, 0, .commit, false, false, .any⟩,
  ⟨0x3422, 1, 0x14, 0x14, (.u 16), .staged, 2400, .commit, false, false, .any⟩,
  ⟨0x3422, 1, 0x15, 0x15, (.u 16), .staged, 1600, .commit, false, false, .any⟩,
  ⟨0x3422, 1, 0x16, 0x16, (.u 16), .staged, 3000, .commit, false, false, (.rng 1 7999)⟩,
  ⟨0x3422, 1, 0x17, 0x17, (.u 32), .staged, 60000, .commit, false, false, (.rng 1000 200000)⟩,
  ⟨0x3423, 1, 0x01, 0x01, .enum, .staged, 0, .commit, false, false, (.rng 0 3)⟩,
  ⟨0x3423, 1, 0x02, 0x02, .enum, .staged, 4, .commit, true, false, (.vals [1, 2, 4])⟩,
  ⟨0x3423, 1, 0x03, 0x03, (.u 8), .staged, 1, .commit, true, false, (.rng 1 2)⟩,
  ⟨0x3423, 1, 0x04, 0x04, (.u 16), .staged, 1280, .commit, true, false, (.rng 1 8192)⟩,
  ⟨0x3423, 1, 0x05, 0x05, .enum, .staged, 2, .commit, false, false, (.rng 0 3)⟩,
  ⟨0x3423, 1, 0x07, 0x07, .enum, .staged, 1, .commit, false, false, (.rng 0 1)⟩,
  ⟨0x3423, 1, 0x08, 0x08, (.u 8), .staged, 84, .commit, false, false, .any⟩,
  ⟨0x3423, 1, 0x09, 0x09, (.u 8), .staged, 0, .commit, false, true, (.rng 0 64)⟩,
  ⟨0x3423, 1, 0x0A, 0x0A, (.u 64), .staged, 0, .commit, false, false, .any⟩,
  ⟨0x3423, 1, 0x0B, 0x0B, (.u 8), .staged, 8, .commit, false, true, (.rng 0 64)⟩,
  ⟨0x3423, 1, 0x0C, 0x0C, .enum, .staged, 1, .commit, false, false, (.rng 0 1)⟩]

/-- Entry rows of the index range 0x34xx, part 4. -/
def rows34_4 : List Row := [
  ⟨0x3423, 1, 0x0D, 0x0D, .enum, .staged, 0, .commit, false, false, (.rng 0 1)⟩,
  ⟨0x3423, 1, 0x0E, 0x0E, (.u 16), .staged, 400, .commit, false, false, (.rng 4 4000)⟩,
  ⟨0x3423, 1, 0x0F, 0x0F, (.u 16), .staged, 80, .commit, false, false, (.rng 4 4000)⟩,
  ⟨0x3423, 1, 0x10, 0x10, (.u 16), .staged, 80, .commit, false, false, (.rng 4 4000)⟩,
  ⟨0x3423, 1, 0x11, 0x11, .enum, .staged, 0, .commit, false, false, (.rng 0 1)⟩,
  ⟨0x3423, 1, 0x12, 0x12, (.u 16), .staged, 800, .commit, false, false, .any⟩,
  ⟨0x3423, 1, 0x13, 0x13, (.u 16), .staged, 800, .commit, false, false, .any⟩,
  ⟨0x3423, 1, 0x14, 0x14, (.u 16), .staged, 3200, .commit, false, false, .any⟩,
  ⟨0x3423, 1, 0x15, 0x15, (.u 16), .staged, 1600, .commit, false, false, .any⟩,
  ⟨0x3423, 1, 0x16, 0x16, (.u 16), .staged, 4000, .commit, false, false, (.rng 1 7999)⟩,
  ⟨0x3423, 1, 0x17, 0x17, (.u 32), .staged, 40000, .commit, false, false, (.rng 1000 200000)⟩,
  ⟨0x3440, 128, 0x01, 0x01, (.u 32), .staged, 0, .repeat, false, false, (.rng 0 20000)⟩,
  ⟨0x3440, 128, 0x02, 0x02, .bool, .wo, 0, .immediate, false, false, .any⟩,
  ⟨0x3440, 128, 0x03, 0x03, .enum, .ro, 0, .none, false, false, .any⟩,
  ⟨0x3440, 128, 0x04, 0x04, (.i 32), .ro, 0, .none, false, false, .any⟩,
  ⟨0x3440, 128, 0x05, 0x05, (.u 16), .ro, 0, .none, false, false, .any⟩,
  ⟨0x3440, 128, 0x06, 0x06, (.u 16), .ro, 0, .none, false, false, .any⟩,
  ⟨0x3440, 128, 0x07, 0x07, (.bits 8 63), .w1c, 0, .none, false, false, .any⟩,
  ⟨0x3440, 128, 0x08, 0x08, (.domain 255), .ro, 0, .none, false, false, .any⟩,
  ⟨0x3440, 128, 0x09, 0x09, (.u 32), .ro, 0, .none, false, false, .any⟩,
  ⟨0x3440, 128, 0x0A, 0x0A, (.u 64), .ro, 0, .none, false, false, .any⟩,
  ⟨0x3440, 128, 0x0B, 0x0B, .time, .ro, 0, .none, false, false, .any⟩,
  ⟨0x3440, 128, 0xFC, 0xFC, .time, .ro, 0, .none, false, false, .any⟩,
  ⟨0x3440, 128, 0xFD, 0xFD, (.u 32), .ro, 0, .none, false, false, .any⟩,
  ⟨0x3440, 128, 0xFE, 0xFE, (.u 8), .ro, 0, .none, false, false, .any⟩,
  ⟨0x3440, 128, 0xFF, 0xFF, .enum, .rw, 0, .immediate, false, false, (.rng 1 2)⟩,
  ⟨0x34C0, 1, 0x01, 0x01, (.u 8), .rw, 255, .immediate, false, false, (.rngOr 0 31 255)⟩,
  ⟨0x34C0, 1, 0x02, 0x02, .bool, .rw, 1, .immediate, false, false, .any⟩,
  ⟨0x34C0, 1, 0x03, 0x03, .bool, .ro, 0, .none, false, false, .any⟩,
  ⟨0x34C0, 1, 0x04, 0x04, (.u 8), .ro, 0, .none, false, false, .any⟩,
  ⟨0x34C0, 1, 0x05, 0x05, (.bits 8 63), .w1c, 0, .none, false, false, .any⟩,
  ⟨0x34C1, 1, 0x01, 0x01, (.u 64), .rws, 0, .immediate, false, false, .any⟩,
  ⟨0x34C1, 1, 0x02, 0x02, (.u 64), .rws, 0, .immediate, false, false, .any⟩,
  ⟨0x34C1, 1, 0x03, 0x03, (.u 64), .rws, 0, .immediate, false, true, (.mult 64)⟩,
  ⟨0x34C1, 1, 0x04, 0x04, .bool, .rws, 0, .immediate, false, false, .any⟩,
  ⟨0x34C1, 1, 0x05, 0x05, .bool, .wo, 0, .immediate, false, false, .any⟩,
  ⟨0x34C1, 1, 0x06, 0x06, .enum, .ro, 0, .none, false, false, .any⟩,
  ⟨0x34C1, 1, 0x07, 0x07, (.u 32), .ro, 0, .none, false, false, .any⟩,
  ⟨0x34C1, 1, 0x08, 0x08, (.u 32), .ro, 0, .none, false, false, .any⟩,
  ⟨0x34C1, 1, 0x09, 0x09, (.u 32), .ro, 0, .none, false, false, .any⟩]

/-- Entry rows of the index range 0x34xx, part 5. -/
def rows34_5 : List Row := [
  ⟨0x34D0, 16, 0x01, 0x01, (.u 32), .ro, 0, .none, false, false, .any⟩,
  ⟨0x34D0, 16, 0x02, 0x02, (.u 64), .ro, 0, .none, false, false, .any⟩,
  ⟨0x34D0, 16, 0x03, 0x03, (.u 32), .ro, 0, .none, false, false, .any⟩,
  ⟨0x34D0, 16, 0x04, 0x04, (.u 32), .ro, 0, .none, false, false, .any⟩,
  ⟨0x34D0, 16, 0x05, 0x05, .pos, .ro, 0, .none, false, false, .any⟩,
  ⟨0x34D0, 16, 0x06, 0x06, (.u 32), .ro, 0, .none, false, false, .any⟩,
  ⟨0x34D0, 16, 0x07, 0x07, .bool, .ro, 0, .none, false, false, .any⟩,
  ⟨0x34D0, 16, 0x08, 0x08, (.bits 8 1), .w1c, 0, .none, false, false, .any⟩]

/-- Entry rows of the index range 0x34xx, in ascending index and subindex. -/
def rows34 : List Row := rows34_1 ++ rows34_2 ++ rows34_3 ++ rows34_4 ++ rows34_5

/-- Entry rows of the index range 0x36xx, part 1. -/
def rows36_1 : List Row := [
  ⟨0x3600, 1, 0x01, 0x01, .bool, .staged, 0, .commit, false, false, .any⟩,
  ⟨0x3600, 1, 0x02, 0x02, (.u 64), .staged, 0, .commit, false, false, (.rng 0 1099511627775)⟩,
  ⟨0x3600, 1, 0x03, 0x03, (.bits 8 255), .staged, 255, .commit, false, false, .any⟩,
  ⟨0x3600, 1, 0x04, 0x04, (.u 16), .staged, 4, .commit, true, false, (.rng 1 256)⟩,
  ⟨0x3600, 1, 0x05, 0x05, (.u 16), .staged, 256, .commit, true, false, (.rng 16 4096)⟩,
  ⟨0x3600, 1, 0x06, 0x06, (.u 8), .staged, 255, .commit, false, false, (.rngOr 0 63 255)⟩,
  ⟨0x3600, 1, 0x07, 0x07, (.u 16), .staged, 0, .commit, false, true, (.rng 0 256)⟩,
  ⟨0x3600, 1, 0x08, 0x08, (.domain 4096), .staged, 0, .commit, false, false, .any⟩,
  ⟨0x3600, 1, 0x09, 0x09, (.u 8), .staged, 0, .commit, false, true, (.rng 0 16)⟩,
  ⟨0x3600, 1, 0x0A, 0x0A, (.domain 256), .staged, 0, .commit, false, false, .any⟩,
  ⟨0x3600, 1, 0xFC, 0xFC, .time, .ro, 0, .none, false, false, .any⟩,
  ⟨0x3600, 1, 0xFD, 0xFD, (.u 32), .ro, 0, .none, false, false, .any⟩,
  ⟨0x3600, 1, 0xFE, 0xFE, (.u 8), .ro, 0, .none, false, false, .any⟩,
  ⟨0x3600, 1, 0xFF, 0xFF, .enum, .rw, 0, .immediate, false, false, (.rng 1 2)⟩,
  ⟨0x3610, 1, 0x01, 0x01, (.u 16), .staged, 32768, .commit, false, false, .any⟩,
  ⟨0x3610, 1, 0x02, 0x02, (.u 16), .staged, 41, .commit, false, false, .any⟩,
  ⟨0x3610, 1, 0x03, 0x03, (.u 16), .staged, 16, .commit, false, false, (.rng 1 256)⟩,
  ⟨0x3610, 1, 0x04, 0x04, (.u 16), .staged, 410, .commit, false, false, .any⟩,
  ⟨0x3610, 1, 0x05, 0x05, (.u 16), .staged, 819, .commit, false, false, .any⟩,
  ⟨0x3610, 1, 0x06, 0x06, (.u 8), .staged, 4, .commit, false, false, (.rng 1 255)⟩,
  ⟨0x3610, 1, 0x07, 0x07, (.u 16), .staged, 256, .commit, true, false, .any⟩,
  ⟨0x3610, 1, 0x08, 0x08, (.u 8), .staged, 32, .commit, false, false, .any⟩,
  ⟨0x3610, 1, 0x09, 0x09, (.u 8), .staged, 0, .commit, false, false, .any⟩,
  ⟨0x3610, 1, 0x0A, 0x0A, (.u 16), .staged, 205, .commit, false, false, .any⟩,
  ⟨0x3610, 1, 0x0B, 0x0B, (.u 8), .staged, 4, .commit, false, false, (.rng 1 64)⟩,
  ⟨0x3610, 1, 0x10, 0x17, .enum, .staged, 1, .commit, false, false, (.rng 0 2)⟩,
  ⟨0x3610, 1, 0xFC, 0xFC, .time, .ro, 0, .none, false, false, .any⟩,
  ⟨0x3610, 1, 0xFD, 0xFD, (.u 32), .ro, 0, .none, false, false, .any⟩,
  ⟨0x3610, 1, 0xFE, 0xFE, (.u 8), .ro, 0, .none, false, false, .any⟩,
  ⟨0x3610, 1, 0xFF, 0xFF, .enum, .rw, 0, .immediate, false, false, (.rng 1 2)⟩,
  ⟨0x3620, 1, 0x01, 0x0C, .enum, .staged, 0, .commit, false, false, (.rng 0 2)⟩,
  ⟨0x3620, 1, 0x10, 0x1B, (.u 8), .staged, 255, .commit, false, false, (.rngOr 0 7 255)⟩,
  ⟨0x3620, 1, 0x20, 0x20, (.u 32), .staged, 4096, .commit, true, false, .any⟩,
  ⟨0x3620, 1, 0x21, 0x21, (.u 16), .staged, 16, .commit, false, false, .any⟩,
  ⟨0x3620, 1, 0xFC, 0xFC, .time, .ro, 0, .none, false, false, .any⟩,
  ⟨0x3620, 1, 0xFD, 0xFD, (.u 32), .ro, 0, .none, false, false, .any⟩,
  ⟨0x3620, 1, 0xFE, 0xFE, (.u 8), .ro, 0, .none, false, false, .any⟩,
  ⟨0x3620, 1, 0xFF, 0xFF, .enum, .rw, 0, .immediate, false, false, (.rng 1 2)⟩,
  ⟨0x3630, 1, 0x01, 0x01, .bool, .staged, 0, .commit, false, false, .any⟩,
  ⟨0x3630, 1, 0x02, 0x02, (.u 8), .staged, 8, .commit, false, false, (.rng 1 64)⟩]

/-- Entry rows of the index range 0x36xx, part 2. -/
def rows36_2 : List Row := [
  ⟨0x3630, 1, 0x03, 0x03, (.u 32), .staged, 32768, .commit, false, false, .any⟩,
  ⟨0x3630, 1, 0x04, 0x04, (.u 16), .staged, 240, .commit, false, false, .any⟩,
  ⟨0x3630, 1, 0x05, 0x05, (.u 8), .staged, 32, .commit, false, false, .any⟩,
  ⟨0x3630, 1, 0x06, 0x06, (.u 32), .staged, 65536, .commit, false, false, .any⟩,
  ⟨0x3630, 1, 0xFC, 0xFC, .time, .ro, 0, .none, false, false, .any⟩,
  ⟨0x3630, 1, 0xFD, 0xFD, (.u 32), .ro, 0, .none, false, false, .any⟩,
  ⟨0x3630, 1, 0xFE, 0xFE, (.u 8), .ro, 0, .none, false, false, .any⟩,
  ⟨0x3630, 1, 0xFF, 0xFF, .enum, .rw, 0, .immediate, false, false, (.rng 1 2)⟩,
  ⟨0x3640, 1, 0x01, 0x01, .enum, .wo, 0, .immediate, false, false, (.rng 1 5)⟩,
  ⟨0x3640, 1, 0x02, 0x02, .enum, .ro, 0, .none, false, false, .any⟩,
  ⟨0x3640, 1, 0x03, 0x03, .time, .ro, 0, .none, false, false, .any⟩,
  ⟨0x3640, 1, 0x04, 0x04, (.i 64), .ro, 0, .none, false, false, .any⟩,
  ⟨0x3640, 1, 0x05, 0x05, (.bits 16 8191), .w1c, 0, .none, false, false, .any⟩,
  ⟨0x3640, 1, 0x06, 0x06, (.u 64), .ro, 0, .none, false, false, .any⟩,
  ⟨0x3640, 1, 0x07, 0x07, (.u 32), .ro, 0, .none, false, false, .any⟩,
  ⟨0x3640, 1, 0x08, 0x08, (.u 32), .ro, 0, .none, false, false, .any⟩,
  ⟨0x3640, 1, 0x09, 0x09, (.u 32), .ro, 0, .none, false, false, .any⟩,
  ⟨0x3640, 1, 0x0A, 0x0A, (.u 32), .ro, 0, .none, false, false, .any⟩,
  ⟨0x3640, 1, 0x0B, 0x0B, (.domain 256), .rws, 256, .immediate, false, false, .any⟩,
  ⟨0x3650, 8, 0x01, 0x01, (.i 32), .ro, 0, .none, false, false, .any⟩,
  ⟨0x3650, 8, 0x02, 0x02, (.u 8), .ro, 255, .none, false, false, .any⟩,
  ⟨0x3650, 8, 0x03, 0x03, .pos, .ro, 0, .none, false, false, .any⟩,
  ⟨0x3650, 8, 0x04, 0x04, (.bits 8 7), .ro, 0, .none, false, false, .any⟩,
  ⟨0x3650, 8, 0x05, 0x05, (.u 32), .ro, 0, .none, false, false, .any⟩,
  ⟨0x3650, 8, 0x06, 0x06, .time, .ro, 0, .none, false, false, .any⟩,
  ⟨0x3660, 128, 0x01, 0x01, (.i 64), .ro, 0, .none, false, false, .any⟩,
  ⟨0x3660, 128, 0x02, 0x02, (.i 32), .ro, 0, .none, false, false, .any⟩,
  ⟨0x3660, 128, 0x03, 0x03, .pos, .ro, 0, .none, false, false, .any⟩,
  ⟨0x36E0, 16, 0x01, 0x01, (.i 32), .ro, 0, .none, false, false, .any⟩,
  ⟨0x36E0, 16, 0x02, 0x02, (.i 32), .ro, 0, .none, false, false, .any⟩,
  ⟨0x36E0, 16, 0x03, 0x03, (.i 32), .ro, 0, .none, false, false, .any⟩]

/-- Entry rows of the index range 0x36xx, in ascending index and subindex. -/
def rows36 : List Row := rows36_1 ++ rows36_2

/-- Entry rows of the index range 0x38xx, part 1. -/
def rows38_1 : List Row := [
  ⟨0x3800, 1, 0x01, 0x01, .enum, .rw, 1, .immediate, false, false, (.rng 0 2)⟩,
  ⟨0x3800, 1, 0x02, 0x02, .bool, .wo, 0, .immediate, false, false, .any⟩,
  ⟨0x3800, 1, 0x03, 0x03, (.u 32), .ro, 0, .none, false, false, .any⟩,
  ⟨0x3800, 1, 0x04, 0x04, .time, .ro, 0, .none, false, false, .any⟩,
  ⟨0x3800, 1, 0x05, 0x05, (.u 32), .ro, 6990507, .none, false, false, .any⟩,
  ⟨0x3800, 1, 0x06, 0x06, (.bits 8 255), .ro, 0, .none, false, false, .any⟩,
  ⟨0x3810, 16, 0x01, 0x01, .enum, .staged, 0, .commit, false, false, (.rng 0 3)⟩,
  ⟨0x3810, 16, 0x02, 0x02, (.u 16), .staged, 64, .commit, false, false, (.rng 16 512)⟩,
  ⟨0x3810, 16, 0x03, 0x03, .bool, .staged, 1, .commit, false, false, .any⟩,
  ⟨0x3810, 16, 0x04, 0x04, (.u 8), .staged, 128, .commit, true, false, (.rng 1 128)⟩,
  ⟨0x3810, 16, 0x05, 0x05, .enum, .staged, 4, .commit, false, false, (.vals [1, 2, 4, 8])⟩,
  ⟨0x3810, 16, 0x06, 0x06, (.u 8), .staged, 6, .commit, false, false, (.rng 0 12)⟩,
  ⟨0x3810, 16, 0x07, 0x07, (.u 16), .staged, 120, .commit, false, false, (.rng 16 512)⟩,
  ⟨0x3810, 16, 0x08, 0x08, (.u 16), .staged, 20, .commit, false, true, (.rng 0 4096)⟩,
  ⟨0x3810, 16, 0x09, 0x09, (.u 8), .staged, 0, .commit, false, false, (.rng 0 3)⟩,
  ⟨0x3810, 16, 0x0A, 0x0A, (.i 32), .staged, 0, .commit, false, false, (.rng (-8388608) (8388607))⟩,
  ⟨0x3810, 16, 0x0B, 0x0B, (.q 2 30), .staged, 1073741824, .commit, false, false, (.rng 536870912 2136746229)⟩,
  ⟨0x3810, 16, 0x0C, 0x0C, (.u 8), .staged, 255, .commit, false, false, (.rngOr 0 63 255)⟩,
  ⟨0x3810, 16, 0x0D, 0x0D, (.u 16), .staged, 256, .commit, true, false, (.rng 16 4096)⟩,
  ⟨0x3810, 16, 0xFC, 0xFC, .time, .ro, 0, .none, false, false, .any⟩,
  ⟨0x3810, 16, 0xFD, 0xFD, (.u 32), .ro, 0, .none, false, false, .any⟩,
  ⟨0x3810, 16, 0xFE, 0xFE, (.u 8), .ro, 0, .none, false, false, .any⟩,
  ⟨0x3810, 16, 0xFF, 0xFF, .enum, .rw, 0, .immediate, false, false, (.rng 1 2)⟩,
  ⟨0x3820, 16, 0x01, 0x01, (.u 32), .ro, 0, .none, false, false, .any⟩,
  ⟨0x3820, 16, 0x02, 0x02, (.u 64), .ro, 0, .none, false, false, .any⟩,
  ⟨0x3820, 16, 0x03, 0x03, (.bits 8 15), .w1c, 0, .none, false, false, .any⟩,
  ⟨0x3820, 16, 0x04, 0x04, (.u 32), .ro, 0, .none, false, false, .any⟩,
  ⟨0x3820, 16, 0x05, 0x05, (.u 16), .ro, 0, .none, false, false, .any⟩,
  ⟨0x3820, 16, 0x06, 0x06, .enum, .ro, 0, .none, false, false, .any⟩,
  ⟨0x3820, 16, 0x07, 0x07, .enum, .ro, 0, .none, false, false, .any⟩,
  ⟨0x3820, 16, 0x08, 0x08, .enum, .ro, 0, .none, false, false, .any⟩,
  ⟨0x3820, 16, 0x09, 0x09, .enum, .wo, 0, .immediate, false, false, (.rng 0 1)⟩,
  ⟨0x3820, 16, 0x0A, 0x0A, .bool, .rws, 0, .immediate, false, false, .any⟩,
  ⟨0x3820, 16, 0x0B, 0x0B, .enum, .ro, 0, .none, false, false, .any⟩,
  ⟨0x3820, 16, 0x0C, 0x0C, (.u 32), .ro, 0, .none, false, false, .any⟩,
  ⟨0x3820, 16, 0x0D, 0x0D, .time, .ro, 0, .none, false, false, .any⟩,
  ⟨0x3820, 16, 0x0E, 0x0E, (.i 32), .ro, 0, .none, false, false, .any⟩,
  ⟨0x3820, 16, 0x0F, 0x0F, (.i 32), .ro, 0, .none, false, false, .any⟩,
  ⟨0x3830, 16, 0x01, 0x01, (.domain 512), .rw, 512, .immediate, false, false, .any⟩,
  ⟨0x3830, 16, 0x02, 0x02, (.domain 512), .rw, 512, .immediate, false, false, .any⟩]

/-- Entry rows of the index range 0x38xx, in ascending index and subindex. -/
def rows38 : List Row := rows38_1

/-- Entry rows of the index range 0x40xx, part 1. -/
def rows40_1 : List Row := [
  ⟨0x4000, 1, 0x01, 0x01, (.u 64), .ro, 0, .none, false, false, .any⟩,
  ⟨0x4000, 1, 0x02, 0x02, .enum, .ro, 0, .none, false, false, .any⟩,
  ⟨0x4000, 1, 0x03, 0x03, (.bits 8 15), .ro, 0, .none, false, false, .any⟩,
  ⟨0x4000, 1, 0x04, 0x04, (.u 32), .ro, 0, .none, false, false, .any⟩,
  ⟨0x4000, 1, 0x05, 0x05, (.u 64), .ro, 0, .none, false, false, .any⟩,
  ⟨0x4000, 1, 0x06, 0x06, .bool, .rw, 1, .immediate, false, false, .any⟩,
  ⟨0x4000, 1, 0x07, 0x07, (.u 16), .rw, 24, .immediate, false, true, .any⟩,
  ⟨0x4000, 1, 0x08, 0x08, (.bits 8 1), .w1c, 0, .none, false, false, .any⟩,
  ⟨0x4001, 1, 0x01, 0x01, (.u 16), .ro, 10240, .none, false, false, .any⟩,
  ⟨0x4001, 1, 0x02, 0x02, (.u 16), .ro, 10240, .none, false, false, .any⟩,
  ⟨0x4001, 1, 0x03, 0x03, (.u 16), .rw, 512, .immediate, false, false, .any⟩,
  ⟨0x4001, 1, 0x04, 0x04, (.u 32), .ro, 0, .none, false, false, .any⟩,
  ⟨0x4001, 1, 0x05, 0x05, (.u 16), .ro, 0, .none, false, false, .any⟩,
  ⟨0x4001, 1, 0x06, 0x06, (.bits 8 3), .w1c, 0, .none, false, false, .any⟩,
  ⟨0x4010, 4, 0x01, 0x01, (.u 16), .ro, 0, .none, false, false, .any⟩,
  ⟨0x4010, 4, 0x02, 0x02, .enum, .ro, 0, .none, false, false, .any⟩,
  ⟨0x4010, 4, 0x03, 0x03, (.u 8), .ro, 0, .none, false, false, .any⟩,
  ⟨0x4010, 4, 0x04, 0x04, .enum, .ro, 0, .none, false, false, .any⟩,
  ⟨0x4010, 4, 0x05, 0x05, .enum, .ro, 0, .none, false, false, .any⟩,
  ⟨0x4010, 4, 0x06, 0x06, (.u 64), .ro, 0, .none, false, false, .any⟩,
  ⟨0x4010, 4, 0x07, 0x07, (.u 16), .ro, 0, .none, false, false, .any⟩,
  ⟨0x4020, 4, 0x01, 0x01, .enum, .ro, 0, .none, false, false, .any⟩,
  ⟨0x4020, 4, 0x02, 0x02, (.i 32), .ro, 0, .none, false, false, .any⟩,
  ⟨0x4020, 4, 0x03, 0x03, (.u 64), .ro, 0, .none, false, false, .any⟩,
  ⟨0x4020, 4, 0x04, 0x04, (.u 32), .ro, 0, .none, false, false, .any⟩,
  ⟨0x4020, 4, 0x05, 0x05, (.u 64), .ro, 0, .none, false, false, .any⟩,
  ⟨0x4020, 4, 0x06, 0x06, (.u 32), .ro, 0, .none, false, false, .any⟩,
  ⟨0x4020, 4, 0x07, 0x07, (.bits 8 7), .w1c, 0, .none, false, false, .any⟩,
  ⟨0x4030, 1, 0x01, 0x01, (.u 8), .staged, 0, .commit, false, false, (.rng 0 7)⟩,
  ⟨0x4030, 1, 0x02, 0x02, (.u 8), .staged, 1, .commit, false, false, (.rng 0 7)⟩,
  ⟨0x4030, 1, 0x03, 0x03, (.u 8), .staged, 1, .commit, false, false, (.rng 0 7)⟩,
  ⟨0x4030, 1, 0x04, 0x04, (.u 8), .staged, 2, .commit, false, false, (.rng 0 7)⟩,
  ⟨0x4030, 1, 0x05, 0x05, (.u 8), .staged, 3, .commit, false, false, (.rng 0 7)⟩,
  ⟨0x4030, 1, 0x06, 0x06, (.u 8), .staged, 3, .commit, false, false, (.rng 0 7)⟩,
  ⟨0x4030, 1, 0x07, 0x07, (.u 8), .staged, 4, .commit, false, false, (.rng 0 7)⟩,
  ⟨0x4030, 1, 0x08, 0x08, (.u 8), .staged, 4, .commit, false, false, (.rng 0 7)⟩,
  ⟨0x4030, 1, 0x09, 0x09, (.u 8), .staged, 5, .commit, false, false, (.rng 0 7)⟩,
  ⟨0x4030, 1, 0x0A, 0x0A, (.u 8), .staged, 5, .commit, false, false, (.rng 0 7)⟩,
  ⟨0x4030, 1, 0x0B, 0x0B, (.u 8), .staged, 6, .commit, false, false, (.rng 0 7)⟩,
  ⟨0x4030, 1, 0x0C, 0x0C, (.u 8), .staged, 7, .commit, false, false, (.rng 0 7)⟩]

/-- Entry rows of the index range 0x40xx, part 2. -/
def rows40_2 : List Row := [
  ⟨0x4030, 1, 0xFC, 0xFC, .time, .ro, 0, .none, false, false, .any⟩,
  ⟨0x4030, 1, 0xFD, 0xFD, (.u 32), .ro, 0, .none, false, false, .any⟩,
  ⟨0x4030, 1, 0xFE, 0xFE, (.u 8), .ro, 0, .none, false, false, .any⟩,
  ⟨0x4030, 1, 0xFF, 0xFF, .enum, .rw, 0, .immediate, false, false, (.rng 1 2)⟩,
  ⟨0x4040, 12, 0x01, 0x01, (.u 64), .ro, 0, .none, false, false, .any⟩,
  ⟨0x4040, 12, 0x02, 0x02, (.u 64), .ro, 0, .none, false, false, .any⟩,
  ⟨0x4040, 12, 0x03, 0x03, (.u 32), .ro, 0, .none, false, false, .any⟩]

/-- Entry rows of the index range 0x40xx, in ascending index and subindex. -/
def rows40 : List Row := rows40_1 ++ rows40_2

/-- Entry rows of the index range 0x42xx, part 1. -/
def rows42_1 : List Row := [
  ⟨0x4200, 1, 0x01, 0x01, (.bits 32 4294967295), .wo, 0, .immediate, false, false, .any⟩,
  ⟨0x4200, 1, 0x02, 0x02, (.u 32), .ro, 0, .none, false, false, .any⟩,
  ⟨0x4201, 1, 0x01, 0x01, (.u 32), .ro, 524288, .none, false, false, .any⟩,
  ⟨0x4240, 64, 0x01, 0x01, .bool, .staged, 0, .commit, false, false, .any⟩,
  ⟨0x4240, 64, 0x02, 0x02, (.u 16), .staged, 64, .commit, true, false, (.multRng 64 64 16384)⟩,
  ⟨0x4240, 64, 0x03, 0x03, (.u 8), .staged, 1, .commit, true, false, (.rng 1 64)⟩,
  ⟨0x4240, 64, 0x04, 0x04, (.u 16), .staged, 65535, .commit, false, true, .any⟩,
  ⟨0x4240, 64, 0xFC, 0xFC, .time, .ro, 0, .none, false, false, .any⟩,
  ⟨0x4240, 64, 0xFD, 0xFD, (.u 32), .ro, 0, .none, false, false, .any⟩,
  ⟨0x4240, 64, 0xFE, 0xFE, (.u 8), .ro, 0, .none, false, false, .any⟩,
  ⟨0x4240, 64, 0xFF, 0xFF, .enum, .rw, 0, .immediate, false, false, (.rng 1 2)⟩,
  ⟨0x4280, 64, 0x01, 0x01, (.u 16), .ro, 0, .none, false, false, .any⟩,
  ⟨0x4280, 64, 0x02, 0x02, (.u 16), .ro, 0, .none, false, false, .any⟩,
  ⟨0x4280, 64, 0x03, 0x03, (.u 16), .ro, 0, .none, false, false, .any⟩,
  ⟨0x4280, 64, 0x04, 0x04, (.u 64), .ro, 0, .none, false, false, .any⟩,
  ⟨0x4280, 64, 0x05, 0x05, (.u 64), .ro, 0, .none, false, false, .any⟩,
  ⟨0x4280, 64, 0x06, 0x06, .bool, .wo, 0, .immediate, false, false, .any⟩,
  ⟨0x4280, 64, 0x07, 0x07, (.u 32), .ro, 0, .none, false, false, .any⟩,
  ⟨0x4280, 64, 0x08, 0x08, (.u 32), .ro, 0, .none, false, false, .any⟩,
  ⟨0x4280, 64, 0x09, 0x09, (.u 8), .ro, 255, .none, false, false, .any⟩,
  ⟨0x4280, 64, 0x0A, 0x0A, (.bits 8 7), .w1c, 0, .none, false, false, .any⟩,
  ⟨0x42C0, 32, 0x01, 0x01, (.u 8), .staged, 2, .commit, false, false, (.rng 0 3)⟩,
  ⟨0x42C0, 32, 0x02, 0x02, (.u 16), .staged, 0, .commit, false, true, .any⟩,
  ⟨0x42C0, 32, 0x03, 0x03, (.u 16), .staged, 0, .commit, false, false, .any⟩,
  ⟨0x42C0, 32, 0x04, 0x04, (.u 32), .staged, 0, .commit, false, true, .any⟩,
  ⟨0x42C0, 32, 0x05, 0x05, (.u 16), .staged, 64, .commit, true, false, (.rng 4 256)⟩,
  ⟨0x42C0, 32, 0xFC, 0xFC, .time, .ro, 0, .none, false, false, .any⟩,
  ⟨0x42C0, 32, 0xFD, 0xFD, (.u 32), .ro, 0, .none, false, false, .any⟩,
  ⟨0x42C0, 32, 0xFE, 0xFE, (.u 8), .ro, 0, .none, false, false, .any⟩,
  ⟨0x42C0, 32, 0xFF, 0xFF, .enum, .rw, 0, .immediate, false, false, (.rng 1 2)⟩,
  ⟨0x42E0, 32, 0x01, 0x01, (.u 64), .rw, 0, .immediate, false, false, (.mult 64)⟩,
  ⟨0x42E0, 32, 0x02, 0x02, .bool, .wo, 0, .immediate, false, false, .any⟩,
  ⟨0x42E0, 32, 0x03, 0x03, .bool, .wo, 0, .immediate, false, false, .any⟩,
  ⟨0x42E0, 32, 0x04, 0x04, .bool, .wo, 0, .immediate, false, false, .any⟩,
  ⟨0x42E0, 32, 0x05, 0x05, .enum, .ro, 0, .none, false, false, .any⟩,
  ⟨0x42E0, 32, 0x06, 0x06, (.u 64), .ro, 0, .none, false, false, .any⟩,
  ⟨0x42E0, 32, 0x07, 0x07, .enum, .ro, 0, .none, false, false, .any⟩,
  ⟨0x42E0, 32, 0x08, 0x08, (.u 64), .ro, 0, .none, false, false, .any⟩,
  ⟨0x42E0, 32, 0x09, 0x09, (.u 32), .ro, 0, .none, false, false, .any⟩,
  ⟨0x42E0, 32, 0x0A, 0x0A, (.u 32), .ro, 0, .none, false, false, .any⟩]

/-- Entry rows of the index range 0x42xx, in ascending index and subindex. -/
def rows42 : List Row := rows42_1

/-- Entry rows of the index range 0x44xx, part 1. -/
def rows44_1 : List Row := [
  ⟨0x4400, 1, 0x01, 0x01, (.bits 8 63), .ro, 0, .none, false, false, .any⟩,
  ⟨0x4400, 1, 0x02, 0x02, (.u 8), .ro, 0, .none, false, false, .any⟩,
  ⟨0x4400, 1, 0x03, 0x03, (.u 8), .ro, 1, .none, false, false, .any⟩,
  ⟨0x4410, 6, 0x01, 0x01, (.u 64), .staged, 0, .commit, false, false, (.multRng 64 0 1099511627775)⟩,
  ⟨0x4410, 6, 0x02, 0x02, (.u 16), .staged, 0, .commit, false, true, (.rngOr 2 4096 0)⟩,
  ⟨0x4410, 6, 0xFC, 0xFC, .time, .ro, 0, .none, false, false, .any⟩,
  ⟨0x4410, 6, 0xFD, 0xFD, (.u 32), .ro, 0, .none, false, false, .any⟩,
  ⟨0x4410, 6, 0xFE, 0xFE, (.u 8), .ro, 0, .none, false, false, .any⟩,
  ⟨0x4410, 6, 0xFF, 0xFF, .enum, .rw, 0, .immediate, false, false, (.rng 1 2)⟩,
  ⟨0x4420, 6, 0x01, 0x01, (.u 32), .rw, 0, .immediate, false, false, .any⟩,
  ⟨0x4420, 6, 0x02, 0x02, (.u 32), .ro, 0, .none, false, false, .any⟩,
  ⟨0x4420, 6, 0x03, 0x03, .enum, .ro, 0, .none, false, false, .any⟩,
  ⟨0x4420, 6, 0x04, 0x04, .bool, .wo, 0, .immediate, false, false, .any⟩,
  ⟨0x4420, 6, 0x05, 0x05, .enum, .ro, 0, .none, false, false, .any⟩,
  ⟨0x4420, 6, 0x06, 0x06, (.u 64), .ro, 0, .none, false, false, .any⟩,
  ⟨0x4420, 6, 0x07, 0x07, (.u 64), .ro, 0, .none, false, false, .any⟩,
  ⟨0x4420, 6, 0x08, 0x08, (.u 64), .ro, 0, .none, false, false, .any⟩,
  ⟨0x4420, 6, 0x09, 0x09, (.u 32), .ro, 0, .none, false, false, .any⟩,
  ⟨0x4420, 6, 0x0A, 0x0A, (.u 32), .ro, 0, .none, false, false, .any⟩,
  ⟨0x4420, 6, 0x0B, 0x0B, (.bits 8 7), .w1c, 0, .none, false, false, .any⟩]

/-- Entry rows of the index range 0x44xx, in ascending index and subindex. -/
def rows44 : List Row := rows44_1

/-- Entry rows of the index range 0x46xx, part 1. -/
def rows46_1 : List Row := [
  ⟨0x4600, 1, 0x01, 0x01, (.domain 21888), .ro, 21888, .none, false, false, .any⟩,
  ⟨0x4600, 1, 0x02, 0x02, (.domain 1280), .ro, 1280, .none, false, false, .any⟩,
  ⟨0x4600, 1, 0x03, 0x03, (.bits 8 7), .w1c, 0, .none, false, false, .any⟩,
  ⟨0x4600, 1, 0x04, 0x04, (.u 32), .ro, 0, .none, false, false, .any⟩,
  ⟨0x4600, 1, 0x05, 0x05, (.u 32), .ro, 0, .none, false, false, .any⟩,
  ⟨0x4640, 1, 0x00, 0x03, (.u 32), .rw, 4294967295, .immediate, false, false, .any⟩,
  ⟨0x4640, 1, 0x20, 0x43, (.u 32), .rw, 4294967295, .immediate, false, false, .any⟩,
  ⟨0x4650, 1, 0x00, 0x03, (.bits 8 1), .w1c, 0, .none, false, false, .any⟩,
  ⟨0x4650, 1, 0x20, 0x43, (.bits 8 1), .w1c, 0, .none, false, false, .any⟩,
  ⟨0x4660, 1, 0x00, 0x03, (.u 8), .rw, 0, .immediate, false, false, .any⟩,
  ⟨0x4660, 1, 0x20, 0x43, (.u 8), .rw, 0, .immediate, false, false, .any⟩]

/-- Entry rows of the index range 0x46xx, in ascending index and subindex. -/
def rows46 : List Row := rows46_1

/-- Entry rows of the index range 0x47xx, part 1. -/
def rows47_1 : List Row := [
  ⟨0x4700, 256, 0x01, 0x01, (.u 16), .staged, 65535, .commit, false, false, .any⟩,
  ⟨0x4700, 256, 0x02, 0x02, .bool, .staged, 0, .commit, false, false, .any⟩,
  ⟨0x4700, 256, 0x03, 0x03, .bool, .staged, 0, .commit, false, false, .any⟩,
  ⟨0x4700, 256, 0x10, 0x10, (.u 64), .ro, 0, .none, false, false, .any⟩,
  ⟨0x4700, 256, 0x11, 0x11, (.u 8), .ro, 0, .none, false, false, .any⟩,
  ⟨0x4700, 256, 0x12, 0x12, (.bits 8 1), .w1c, 0, .none, false, false, .any⟩,
  ⟨0x4700, 256, 0xFC, 0xFC, .time, .ro, 0, .none, false, false, .any⟩,
  ⟨0x4700, 256, 0xFD, 0xFD, (.u 32), .ro, 0, .none, false, false, .any⟩,
  ⟨0x4700, 256, 0xFE, 0xFE, (.u 8), .ro, 0, .none, false, false, .any⟩,
  ⟨0x4700, 256, 0xFF, 0xFF, .enum, .rw, 0, .immediate, false, false, (.rng 1 2)⟩]

/-- Entry rows of the index range 0x47xx, in ascending index and subindex. -/
def rows47 : List Row := rows47_1

/-- Entry rows of the index range 0x48xx, part 1. -/
def rows48_1 : List Row := [
  ⟨0x4801, 1, 0x01, 0x20, (.u 16), .rw, 0, .immediate, false, true, .any⟩,
  ⟨0x4802, 1, 0x01, 0x01, (.bits 32 4294967295), .ro, 0, .none, false, false, .any⟩,
  ⟨0x4810, 1, 0x01, 0xFF, (.bits 32 0x3F9F1F), .rw, 0, .immediate, false, false, .any⟩,
  ⟨0x4811, 1, 0x00, 0xFF, (.bits 32 0x3F9F1F), .rw, 0, .immediate, false, false, .any⟩,
  ⟨0x4812, 1, 0x01, 0xFF, (.u 8), .ro, 0, .none, false, false, .any⟩,
  ⟨0x4813, 1, 0x00, 0xFF, (.u 8), .ro, 0, .none, false, false, .any⟩,
  ⟨0x4820, 1, 0x01, 0x08, (.bits 64 18446744073709551615), .wo, 0, .immediate, false, false, .any⟩,
  ⟨0x4820, 1, 0x09, 0x10, (.bits 64 18446744073709551615), .wo, 0, .immediate, false, false, .any⟩,
  ⟨0x4820, 1, 0x11, 0x18, (.bits 64 18446744073709551615), .ro, 0, .none, false, false, .any⟩,
  ⟨0x4821, 1, 0x01, 0x08, (.bits 64 18446744073709551615), .wo, 0, .immediate, false, false, .any⟩,
  ⟨0x4821, 1, 0x09, 0x10, (.bits 64 18446744073709551615), .wo, 0, .immediate, false, false, .any⟩,
  ⟨0x4821, 1, 0x11, 0x18, (.bits 64 18446744073709551615), .ro, 0, .none, false, false, .any⟩,
  ⟨0x4821, 1, 0x19, 0x20, (.bits 64 18446744073709551615), .ro, 0, .none, false, false, .any⟩,
  ⟨0x4822, 1, 0x01, 0x01, (.u 8), .ro, 0, .none, false, false, .any⟩,
  ⟨0x4830, 5, 0x01, 0x01, (.u 32), .ro, 0, .none, false, false, .any⟩,
  ⟨0x4830, 5, 0x02, 0x02, (.u 16), .wo, 0, .immediate, false, false, .any⟩,
  ⟨0x4830, 5, 0x03, 0x03, (.u 16), .ro, 1023, .none, false, false, .any⟩,
  ⟨0x4830, 5, 0x04, 0x04, .bool, .ro, 0, .none, false, false, .any⟩,
  ⟨0x4830, 5, 0x05, 0x05, (.u 64), .ro, 0, .none, false, false, .any⟩,
  ⟨0x4830, 5, 0x06, 0x06, (.u 32), .ro, 0, .none, false, false, .any⟩]

/-- Entry rows of the index range 0x48xx, in ascending index and subindex. -/
def rows48 : List Row := rows48_1

/-- Entry rows of the index range 0x50xx, part 1. -/
def rows50_1 : List Row := [
  ⟨0x5000, 1, 0x01, 0x01, (.u 16), .rws, 0, .immediate, false, false, (.rng 0 4095)⟩,
  ⟨0x5000, 1, 0x02, 0x02, (.u 16), .rws, 65535, .immediate, false, false, (.rngOr 0 4095 65535)⟩,
  ⟨0x5000, 1, 0x03, 0x03, (.u 32), .rws, 0, .immediate, false, false, .any⟩,
  ⟨0x5000, 1, 0x04, 0x04, (.u 8), .rw, 64, .immediate, false, false, (.rng 1 64)⟩,
  ⟨0x5000, 1, 0x05, 0x05, (.u 16), .rw, 10, .immediate, false, false, (.rng 1 1000)⟩,
  ⟨0x5000, 1, 0x06, 0x06, (.u 8), .rw, 3, .immediate, false, false, (.rng 1 255)⟩,
  ⟨0x5000, 1, 0x07, 0x07, (.u 16), .rw, 100, .immediate, false, false, (.rng 10 10000)⟩,
  ⟨0x5000, 1, 0x08, 0x08, (.domain 65536), .rws, 65536, .immediate, false, false, .any⟩,
  ⟨0x5000, 1, 0x09, 0x09, (.domain 512), .rw, 512, .immediate, false, false, .any⟩,
  ⟨0x5000, 1, 0x0A, 0x0A, (.domain 8192), .ro, 8192, .none, false, false, .any⟩,
  ⟨0x5000, 1, 0x0B, 0x0B, (.domain 16384), .ro, 16384, .none, false, false, .any⟩,
  ⟨0x5000, 1, 0x0C, 0x0C, (.bits 8 15), .w1c, 0, .none, false, false, .any⟩,
  ⟨0x5000, 1, 0x0D, 0x0D, (.u 32), .ro, 0, .none, false, false, .any⟩,
  ⟨0x5000, 1, 0x0E, 0x0E, (.u 32), .ro, 0, .none, false, false, .any⟩,
  ⟨0x5000, 1, 0x0F, 0x0F, (.u 32), .ro, 0, .none, false, false, .any⟩,
  ⟨0x5010, 2, 0x01, 0x01, .bool, .staged, 0, .commit, false, false, .any⟩,
  ⟨0x5010, 2, 0x02, 0x02, .enum, .staged, 2, .commit, false, false, (.rng 0 2)⟩,
  ⟨0x5010, 2, 0x03, 0x03, (.bits 8 15), .staged, 15, .commit, false, false, .any⟩,
  ⟨0x5010, 2, 0x04, 0x04, (.u 16), .staged, 50, .commit, false, false, .any⟩,
  ⟨0x5010, 2, 0x05, 0x05, (.u 8), .staged, 3, .commit, true, false, .any⟩,
  ⟨0x5010, 2, 0x06, 0x06, (.u 32), .staged, 100, .commit, true, false, .any⟩,
  ⟨0x5010, 2, 0x07, 0x07, .bool, .staged, 1, .commit, false, false, .any⟩,
  ⟨0x5010, 2, 0x08, 0x08, .bool, .staged, 0, .commit, false, false, .any⟩,
  ⟨0x5010, 2, 0x09, 0x09, (.u 32), .staged, 100, .commit, false, false, .any⟩,
  ⟨0x5010, 2, 0x0A, 0x0A, (.u 16), .staged, 4096, .commit, false, false, (.rng 1024 65535)⟩,
  ⟨0x5010, 2, 0xFC, 0xFC, .time, .ro, 0, .none, false, false, .any⟩,
  ⟨0x5010, 2, 0xFD, 0xFD, (.u 32), .ro, 0, .none, false, false, .any⟩,
  ⟨0x5010, 2, 0xFE, 0xFE, (.u 8), .ro, 0, .none, false, false, .any⟩,
  ⟨0x5010, 2, 0xFF, 0xFF, .enum, .rw, 0, .immediate, false, false, (.rng 1 2)⟩,
  ⟨0x5018, 2, 0x01, 0x01, .enum, .ro, 0, .none, false, false, .any⟩,
  ⟨0x5018, 2, 0x02, 0x02, .enum, .ro, 0, .none, false, false, .any⟩,
  ⟨0x5018, 2, 0x03, 0x03, .enum, .ro, 0, .none, false, false, .any⟩,
  ⟨0x5018, 2, 0x04, 0x04, (.bits 8 15), .ro, 0, .none, false, false, .any⟩,
  ⟨0x5018, 2, 0x05, 0x05, (.bits 8 15), .ro, 0, .none, false, false, .any⟩,
  ⟨0x5018, 2, 0x06, 0x06, .enum, .ro, 0, .none, false, false, .any⟩,
  ⟨0x5018, 2, 0x07, 0x07, .enum, .ro, 0, .none, false, false, .any⟩,
  ⟨0x5018, 2, 0x08, 0x08, .bool, .wo, 0, .immediate, false, false, .any⟩,
  ⟨0x5018, 2, 0x09, 0x09, (.bits 8 15), .wo, 0, .immediate, false, false, .any⟩,
  ⟨0x5018, 2, 0x0A, 0x0A, (.bits 8 31), .w1c, 0, .none, false, false, .any⟩,
  ⟨0x5018, 2, 0x0B, 0x0B, (.u 64), .ro, 0, .none, false, false, .any⟩]

/-- Entry rows of the index range 0x50xx, part 2. -/
def rows50_2 : List Row := [
  ⟨0x5018, 2, 0x0C, 0x0C, (.u 64), .ro, 0, .none, false, false, .any⟩,
  ⟨0x5018, 2, 0x0D, 0x0D, (.u 32), .ro, 0, .none, false, false, .any⟩,
  ⟨0x5018, 2, 0x0E, 0x0E, (.u 32), .ro, 0, .none, false, false, .any⟩,
  ⟨0x5018, 2, 0x0F, 0x0F, (.u 32), .ro, 0, .none, false, false, .any⟩,
  ⟨0x5018, 2, 0x10, 0x10, .time, .ro, 0, .none, false, false, .any⟩,
  ⟨0x5018, 2, 0x11, 0x11, (.u 32), .ro, 0, .none, false, false, .any⟩,
  ⟨0x5018, 2, 0x12, 0x12, (.u 32), .ro, 0, .none, false, false, .any⟩,
  ⟨0x5020, 8, 0x01, 0x01, .enum, .ro, 0, .none, false, false, .any⟩,
  ⟨0x5020, 8, 0x02, 0x02, (.u 8), .ro, 0, .none, false, false, .any⟩,
  ⟨0x5020, 8, 0x03, 0x03, (.u 8), .ro, 0, .none, false, false, .any⟩,
  ⟨0x5020, 8, 0x04, 0x04, (.u 8), .ro, 0, .none, false, false, .any⟩,
  ⟨0x5020, 8, 0x05, 0x05, (.u 32), .ro, 0, .none, false, false, .any⟩,
  ⟨0x5020, 8, 0x06, 0x06, (.u 32), .ro, 0, .none, false, false, .any⟩,
  ⟨0x5020, 8, 0x07, 0x07, .time, .ro, 0, .none, false, false, .any⟩,
  ⟨0x5020, 8, 0x08, 0x08, (.u 8), .ro, 0, .none, false, false, .any⟩,
  ⟨0x5030, 1, 0x01, 0x20, (.u 32), .rw, 0, .immediate, false, false, .any⟩,
  ⟨0x5031, 1, 0x01, 0x20, (.u 32), .ro, 0, .none, false, false, .any⟩,
  ⟨0x5040, 1, 0x01, 0x01, (.u 16), .rw, 0, .immediate, false, false, .any⟩,
  ⟨0x5040, 1, 0x02, 0x02, (.domain 2040), .rw, 0, .immediate, false, false, .any⟩,
  ⟨0x5040, 1, 0x03, 0x03, .bool, .rw, 0, .immediate, false, false, .any⟩,
  ⟨0x5040, 1, 0x04, 0x04, .bool, .wo, 0, .immediate, false, false, .any⟩,
  ⟨0x5040, 1, 0x05, 0x05, .enum, .ro, 0, .none, false, false, .any⟩,
  ⟨0x5040, 1, 0x06, 0x06, (.domain 2040), .ro, 0, .none, false, false, .any⟩,
  ⟨0x5040, 1, 0x07, 0x07, (.u 16), .rw, 10, .immediate, false, false, (.rng 1 10000)⟩]

/-- Entry rows of the index range 0x50xx, in ascending index and subindex. -/
def rows50 : List Row := rows50_1 ++ rows50_2

/-- Entry rows of the index range 0x52xx, part 1. -/
def rows52_1 : List Row := [
  ⟨0x5200, 2, 0x01, 0x01, .enum, .staged, 0, .commit, false, false, (.rng 0 3)⟩,
  ⟨0x5200, 2, 0x02, 0x02, .bool, .staged, 0, .commit, false, false, .any⟩,
  ⟨0x5200, 2, 0x03, 0x03, .bool, .staged, 1, .commit, false, false, .any⟩,
  ⟨0x5200, 2, 0x04, 0x04, .bool, .staged, 0, .commit, false, false, .any⟩,
  ⟨0x5200, 2, 0x05, 0x05, (.u 16), .staged, 1522, .commit, true, false, (.rng 1518 9216)⟩,
  ⟨0x5200, 2, 0x06, 0x06, (.u 32), .staged, 0, .commit, false, false, .any⟩,
  ⟨0x5200, 2, 0x07, 0x07, (.u 32), .staged, 4294967040, .commit, false, false, .any⟩,
  ⟨0x5200, 2, 0x08, 0x08, (.u 32), .staged, 0, .commit, false, false, .any⟩,
  ⟨0x5200, 2, 0x09, 0x09, .bool, .staged, 0, .commit, false, false, .any⟩,
  ⟨0x5200, 2, 0x0A, 0x0A, (.u 16), .staged, 1, .commit, false, false, (.rng 1 4094)⟩,
  ⟨0x5200, 2, 0x0B, 0x0B, (.u 8), .staged, 0, .commit, false, false, (.rng 0 7)⟩,
  ⟨0x5200, 2, 0x0C, 0x0C, (.u 8), .staged, 3, .commit, true, false, .any⟩,
  ⟨0x5200, 2, 0x0D, 0x0D, (.u 32), .staged, 100, .commit, true, false, .any⟩,
  ⟨0x5200, 2, 0xFC, 0xFC, .time, .ro, 0, .none, false, false, .any⟩,
  ⟨0x5200, 2, 0xFD, 0xFD, (.u 32), .ro, 0, .none, false, false, .any⟩,
  ⟨0x5200, 2, 0xFE, 0xFE, (.u 8), .ro, 0, .none, false, false, .any⟩,
  ⟨0x5200, 2, 0xFF, 0xFF, .enum, .rw, 0, .immediate, false, false, (.rng 1 2)⟩,
  ⟨0x5210, 2, 0x01, 0x01, .enum, .ro, 0, .none, false, false, .any⟩,
  ⟨0x5210, 2, 0x02, 0x02, (.u 64), .ro, 0, .none, false, false, .any⟩,
  ⟨0x5210, 2, 0x03, 0x03, (.u 64), .ro, 0, .none, false, false, .any⟩,
  ⟨0x5210, 2, 0x04, 0x04, (.u 64), .ro, 0, .none, false, false, .any⟩,
  ⟨0x5210, 2, 0x05, 0x05, (.u 32), .ro, 0, .none, false, false, .any⟩,
  ⟨0x5210, 2, 0x06, 0x06, (.u 32), .ro, 0, .none, false, false, .any⟩,
  ⟨0x5210, 2, 0x07, 0x07, (.u 32), .ro, 0, .none, false, false, .any⟩,
  ⟨0x5210, 2, 0x08, 0x08, (.u 32), .ro, 0, .none, false, false, .any⟩,
  ⟨0x5210, 2, 0x09, 0x09, (.u 32), .ro, 0, .none, false, false, .any⟩,
  ⟨0x5210, 2, 0x0A, 0x0A, (.bits 8 15), .w1c, 0, .none, false, false, .any⟩,
  ⟨0x5210, 2, 0x0B, 0x0B, .bool, .wo, 0, .immediate, false, false, .any⟩,
  ⟨0x5220, 2, 0x01, 0x01, (.u 8), .staged, 255, .commit, false, false, (.rngOr 0 63 255)⟩,
  ⟨0x5220, 2, 0x02, 0x02, (.u 8), .staged, 255, .commit, false, false, (.rngOr 0 63 255)⟩,
  ⟨0x5220, 2, 0x03, 0x03, (.u 8), .staged, 255, .commit, false, false, (.rngOr 0 63 255)⟩,
  ⟨0x5220, 2, 0x04, 0x07, (.u 16), .staged, 0, .commit, false, false, .any⟩,
  ⟨0x5220, 2, 0xFC, 0xFC, .time, .ro, 0, .none, false, false, .any⟩,
  ⟨0x5220, 2, 0xFD, 0xFD, (.u 32), .ro, 0, .none, false, false, .any⟩,
  ⟨0x5220, 2, 0xFE, 0xFE, (.u 8), .ro, 0, .none, false, false, .any⟩,
  ⟨0x5220, 2, 0xFF, 0xFF, .enum, .rw, 0, .immediate, false, false, (.rng 1 2)⟩]

/-- Entry rows of the index range 0x52xx, in ascending index and subindex. -/
def rows52 : List Row := rows52_1

/-- Entry rows of the index range 0x54xx, part 1. -/
def rows54_1 : List Row := [
  ⟨0x5400, 1, 0x01, 0x01, .enum, .ro, 0, .none, false, false, .any⟩,
  ⟨0x5400, 1, 0x02, 0x02, (.u 8), .ro, 0, .none, false, false, .any⟩,
  ⟨0x5400, 1, 0x03, 0x03, (.u 16), .ro, 128, .none, false, false, .any⟩,
  ⟨0x5400, 1, 0x04, 0x04, .bool, .ro, 0, .none, false, false, .any⟩,
  ⟨0x5400, 1, 0x10, 0x10, (.u 64), .rw, 0, .immediate, false, false, (.mult 1073741824)⟩,
  ⟨0x5400, 1, 0x12, 0x12, (.u 32), .ro, 0, .none, false, false, .any⟩,
  ⟨0x5400, 1, 0x13, 0x13, (.u 32), .ro, 0, .none, false, false, .any⟩,
  ⟨0x5400, 1, 0x14, 0x14, (.bits 8 31), .w1c, 0, .none, false, false, .any⟩,
  ⟨0x5401, 1, 0x01, 0x01, (.u 64), .rw, 0, .immediate, false, false, (.mult 274877906944)⟩]

/-- Entry rows of the index range 0x54xx, in ascending index and subindex. -/
def rows54 : List Row := rows54_1

/-- The rows whose indices have the high byte `h`. -/
def rowsOf (h : Nat) : List Row :=
  match h with
  | 0x10 => rows10
  | 0x11 => rows11
  | 0x12 => rows12
  | 0x14 => rows14
  | 0x16 => rows16
  | 0x18 => rows18
  | 0x20 => rows20
  | 0x22 => rows22
  | 0x24 => rows24
  | 0x26 => rows26
  | 0x28 => rows28
  | 0x30 => rows30
  | 0x32 => rows32
  | 0x34 => rows34
  | 0x36 => rows36
  | 0x38 => rows38
  | 0x40 => rows40
  | 0x42 => rows42
  | 0x44 => rows44
  | 0x46 => rows46
  | 0x47 => rows47
  | 0x48 => rows48
  | 0x50 => rows50
  | 0x52 => rows52
  | 0x54 => rows54
  | _ => []

/-- The row of the entry `idx:sub`, when it exists. -/
def findRow (idx sub : Nat) : Option Row :=
  (rowsOf (idx / 256)).find? fun r =>
    Nat.ble r.base idx && Nat.blt idx (r.base + r.count) && Nat.ble r.lo sub && Nat.ble sub r.hi

/-- The key of the entry `idx:sub`, as LastEntry and DomEntry write it: index × 256 + subindex (R63). -/
def key (idx sub : Nat) : Nat := idx * 256 + sub

/-- The row of the entry with key `k`. -/
def rowOf (k : Nat) : Option Row := findRow (k / 256) (k % 256)

/-- Whether the index `idx` has any entry (R43, R44). -/
def indexPresent (idx : Nat) : Bool :=
  (rowsOf (idx / 256)).any fun r => Nat.ble r.base idx && Nat.blt idx (r.base + r.count)

/-- Whether the index `idx` is a STAGED group: it has the subindices R47 reserves. -/
def groupStaged (idx : Nat) : Bool :=
  (rowsOf (idx / 256)).any fun r =>
    Nat.ble r.base idx && Nat.blt idx (r.base + r.count) && decide (r.acc = .staged)

/-- The rows of the STAGED entries of group `idx`. -/
def stagedRows (idx : Nat) : List Row :=
  (rowsOf (idx / 256)).filter fun r =>
    Nat.ble r.base idx && Nat.blt idx (r.base + r.count) && decide (r.acc = .staged)

/-- The subindices a row spans. -/
def rowSubs (r : Row) : List Nat := (List.range (r.hi + 1 - r.lo)).map (· + r.lo)

/-- The STAGED subindices of group `idx`, ascending in table order. -/
def stagedSubs (idx : Nat) : List Nat := (stagedRows idx).flatMap rowSubs

/-- The apply point of group `idx` (R33): that of its STAGED entries. -/
def groupApply (idx : Nat) : Apply :=
  match stagedRows idx with
  | r :: _ => r.app
  | [] => .commit

/-- The raw value an entry holds at reset (R34); for a DOMAIN its length at reset. -/
def dflt (k : Nat) : Nat :=
  match rowOf k with
  | some r => r.dflt
  | none => 0

/-- The number of records of the descriptor (R55): one per entry. -/
def entryCount : Nat :=
  ((List.range 128).map fun h => ((rowsOf h).map fun r => r.count * (r.hi + 1 - r.lo)).sum).sum

end Sys2Proof.Machine
end

