-- ==== Sys2Proof/Machine/Keys.lean ====
section
/-! DEFINITION. The names of the dictionary entries: `K.<group><Name>` is the key of the entry that the spec's table calls
Name, `n` the instance of the group and `i` the member of a run of subindices. -/

namespace Sys2Proof.Machine

/-- The key of an entry of instance `n` of a group that has `count` instances: `base` is instance 0's. An instance the group does not
have is given a number of 2^32 or more, which is no entry's. -/
abbrev instKey (base count n : Nat) : Nat := base + 256 * n + 4294967296 * (n / count)

/-- The key of member `i` of a run of `count` subindices, with the same rule. -/
abbrev runKey (base count i : Nat) : Nat := base + i + 4294967296 * (i / count)

end Sys2Proof.Machine

namespace Sys2Proof.Machine.K

abbrev devDeviceState : Nat := 0x101001
abbrev devStateRequest : Nat := 0x101002
abbrev devRequestStatus : Nat := 0x101003
abbrev devRequestCause : Nat := 0x101004
abbrev devRunMask : Nat := 0x101005
abbrev devStartSource : Nat := 0x101006
abbrev devStartCompare : Nat := 0x101007
abbrev devStopMode : Nat := 0x101008
abbrev devDrainTimeout : Nat := 0x101009
abbrev devStopCause : Nat := 0x10100A
abbrev devStateChanges : Nat := 0x10100B
abbrev devStateTime : Nat := 0x10100C
abbrev idVendorCode : Nat := 0x100001
abbrev idPartNumber : Nat := 0x100002
abbrev idSiliconStep : Nat := 0x100003
abbrev idGrade : Nat := 0x100004
abbrev idDieId : Nat := 0x100005
abbrev idDictionaryVersion : Nat := 0x100006
abbrev idEntryCount : Nat := 0x100007
abbrev descDescriptor : Nat := 0x100101
abbrev descDescriptorLength : Nat := 0x100102
abbrev descDescriptorCrc : Nat := 0x100103
abbrev dictAccessCount : Nat := 0x110001
abbrev dictErrorCount : Nat := 0x110002
abbrev dictLastErrorPath : Nat := 0x110003
abbrev dictLastErrorStatus : Nat := 0x110004
abbrev dictLastErrorEntry : Nat := 0x110005
abbrev pathLastStatus (n : Nat) : Nat := instKey 0x111001 7 n
abbrev pathLastEntry (n : Nat) : Nat := instKey 0x111002 7 n
abbrev pathErrorCount (n : Nat) : Nat := instKey 0x111003 7 n
abbrev pathReadView (n : Nat) : Nat := instKey 0x111004 7 n
abbrev pathTimeFraction (n : Nat) : Nat := instKey 0x111005 7 n
abbrev pathSecure (n : Nat) : Nat := instKey 0x111006 7 n
abbrev pathDrop (n : Nat) : Nat := instKey 0x111007 7 n
abbrev pathDomEntry (n : Nat) : Nat := instKey 0x111008 7 n
abbrev pathDomOffset (n : Nat) : Nat := instKey 0x111009 7 n
abbrev pathDomLength (n : Nat) : Nat := instKey 0x11100A 7 n
abbrev pathDomAddress (n : Nat) : Nat := instKey 0x11100B 7 n
abbrev pathDomDirection (n : Nat) : Nat := instKey 0x11100C 7 n
abbrev pathDomGo (n : Nat) : Nat := instKey 0x11100D 7 n
abbrev pathDomStatus (n : Nat) : Nat := instKey 0x11100E 7 n
abbrev ownOwnCommand : Nat := 0x112001
abbrev ownOwnTable : Nat := 0x112002
abbrev lineLineKey : Nat := 0x113001
abbrev lineLineKeySet : Nat := 0x113002
abbrev chalChallenge : Nat := 0x113101
abbrev chalProof (i : Nat) : Nat := runKey 0x113102 4 i
abbrev chalProofGo : Nat := 0x113106
abbrev udpUdpEnable : Nat := 0x114001
abbrev udpOpenPolicy : Nat := 0x114002
abbrev udpSessionTimeout : Nat := 0x114003
abbrev udpSessionsOpen : Nat := 0x114004
abbrev udpBadTagCount : Nat := 0x114005
abbrev udpReplayCount : Nat := 0x114006
abbrev udpOversizeCount : Nat := 0x114007
abbrev udpForwardEnable : Nat := 0x114008
abbrev whlWebMaster : Nat := 0x200001
abbrev whlRedundantChannel : Nat := 0x200002
abbrev whlCrossCheckLimit : Nat := 0x200003
abbrev whlWebPosition : Nat := 0x200004
abbrev whlWebSpeed : Nat := 0x200005
abbrev whlOrigin : Nat := 0x200006
abbrev whlActiveMaster : Nat := 0x200007
abbrev whlSwitchovers : Nat := 0x200008
abbrev whlWheelStatus : Nat := 0x200009
abbrev remBroadcastEnable : Nat := 0x209001
abbrev remBroadcastPeriod : Nat := 0x209002
abbrev remRemoteTimeout : Nat := 0x209003
abbrev remRemoteNode : Nat := 0x209004
abbrev remRemoteAge : Nat := 0x209005
abbrev remRemoteHolds : Nat := 0x209006
abbrev encMode (n : Nat) : Nat := instKey 0x201001 4 n
abbrev encInvert (n : Nat) : Nat := instKey 0x201002 4 n
abbrev encFilterLength (n : Nat) : Nat := instKey 0x201003 4 n
abbrev encDebounce (n : Nat) : Nat := instKey 0x201004 4 n
abbrev encPulseDirB (n : Nat) : Nat := instKey 0x201005 4 n
abbrev encCountsPerRev (n : Nat) : Nat := instKey 0x201006 4 n
abbrev encScale (n : Nat) : Nat := instKey 0x201007 4 n
abbrev encJitterBand (n : Nat) : Nat := instKey 0x201008 4 n
abbrev encInterpEnable (n : Nat) : Nat := instKey 0x201009 4 n
abbrev encSpeedWindow (n : Nat) : Nat := instKey 0x20100A 4 n
abbrev encBlendLow (n : Nat) : Nat := instKey 0x20100B 4 n
abbrev encBlendHigh (n : Nat) : Nat := instKey 0x20100C 4 n
abbrev encStallTime (n : Nat) : Nat := instKey 0x20100D 4 n
abbrev encSpeedSmoothing (n : Nat) : Nat := instKey 0x20100E 4 n
abbrev encIndexMode (n : Nat) : Nat := instKey 0x20100F 4 n
abbrev encIndexExpected (n : Nat) : Nat := instKey 0x201010 4 n
abbrev encIndexTolerance (n : Nat) : Nat := instKey 0x201011 4 n
abbrev encIndexFaultCount (n : Nat) : Nat := instKey 0x201012 4 n
abbrev encRetryCount (n : Nat) : Nat := instKey 0x201013 4 n
abbrev encRetryWindow (n : Nat) : Nat := instKey 0x201014 4 n
abbrev encSerialClock (n : Nat) : Nat := instKey 0x201015 4 n
abbrev encSerialBits (n : Nat) : Nat := instKey 0x201016 4 n
abbrev encSerialCode (n : Nat) : Nat := instKey 0x201017 4 n
abbrev encSerialParity (n : Nat) : Nat := instKey 0x201018 4 n
abbrev encSerialSkip (n : Nat) : Nat := instKey 0x201019 4 n
abbrev encSerialPeriod (n : Nat) : Nat := instKey 0x20101A 4 n
abbrev encSerialPause (n : Nat) : Nat := instKey 0x20101B 4 n
abbrev encSensorLatency (n : Nat) : Nat := instKey 0x20101C 4 n
abbrev encAckTimeout (n : Nat) : Nat := instKey 0x20101D 4 n
abbrev encsCountedPosition (n : Nat) : Nat := instKey 0x202001 4 n
abbrev encsPosition (n : Nat) : Nat := instKey 0x202002 4 n
abbrev encsRotary (n : Nat) : Nat := instKey 0x202003 4 n
abbrev encsSpeed (n : Nat) : Nat := instKey 0x202004 4 n
abbrev encsDirection (n : Nat) : Nat := instKey 0x202005 4 n
abbrev encsHighWater (n : Nat) : Nat := instKey 0x202006 4 n
abbrev encsChannelState (n : Nat) : Nat := instKey 0x202007 4 n
abbrev encsStatus (n : Nat) : Nat := instKey 0x202008 4 n
abbrev encsErrorCount (n : Nat) : Nat := instKey 0x202009 4 n
abbrev encsMismatchCount (n : Nat) : Nat := instKey 0x20200A 4 n
abbrev encsLastIndexDeviation (n : Nat) : Nat := instKey 0x20200B 4 n
abbrev encsIndexCorrections (n : Nat) : Nat := instKey 0x20200C 4 n
abbrev encsLinearPreset (n : Nat) : Nat := instKey 0x20200D 4 n
abbrev encsRotaryPreset (n : Nat) : Nat := instKey 0x20200E 4 n
abbrev encsReadmit (n : Nat) : Nat := instKey 0x20200F 4 n
abbrev prbEnable (n : Nat) : Nat := instKey 0x203001 8 n
abbrev prbEdge (n : Nat) : Nat := instKey 0x203002 8 n
abbrev prbSource (n : Nat) : Nat := instKey 0x203003 8 n
abbrev prbFilter (n : Nat) : Nat := instKey 0x203004 8 n
abbrev prbFill (n : Nat) : Nat := instKey 0x203005 8 n
abbrev prbHeadPosition (n : Nat) : Nat := instKey 0x203006 8 n
abbrev prbHeadRotary (n : Nat) : Nat := instKey 0x203007 8 n
abbrev prbHeadTime (n : Nat) : Nat := instKey 0x203008 8 n
abbrev prbHeadEdge (n : Nat) : Nat := instKey 0x203009 8 n
abbrev prbPop (n : Nat) : Nat := instKey 0x20300A 8 n
abbrev prbOverflows (n : Nat) : Nat := instKey 0x20300B 8 n
abbrev prbFlush (n : Nat) : Nat := instKey 0x20300C 8 n
abbrev cmpMode (n : Nat) : Nat := instKey 0x204001 16 n
abbrev cmpSource (n : Nat) : Nat := instKey 0x204002 16 n
abbrev cmpDirection (n : Nat) : Nat := instKey 0x204003 16 n
abbrev cmpValue (n : Nat) : Nat := instKey 0x204004 16 n
abbrev cmpPeriod (n : Nat) : Nat := instKey 0x204005 16 n
abbrev cmpQueueEnable (n : Nat) : Nat := instKey 0x204006 16 n
abbrev cmpQueueOffset (n : Nat) : Nat := instKey 0x204007 16 n
abbrev cmpOutputPin (n : Nat) : Nat := instKey 0x204008 16 n
abbrev cmpActiveLevel (n : Nat) : Nat := instKey 0x204009 16 n
abbrev cmpSafeLevel (n : Nat) : Nat := instKey 0x20400A 16 n
abbrev cmpPulseLength (n : Nat) : Nat := instKey 0x20400B 16 n
abbrev cmpFired (n : Nat) : Nat := instKey 0x204010 16 n
abbrev cmpCmpStatus (n : Nat) : Nat := instKey 0x204011 16 n
abbrev cmpQueueFill (n : Nat) : Nat := instKey 0x204012 16 n
abbrev cmpLastFire (n : Nat) : Nat := instKey 0x204013 16 n
abbrev cgenEnable (n : Nat) : Nat := instKey 0x206001 12 n
abbrev rgenEnable (n : Nat) : Nat := instKey 0x207001 16 n
abbrev cgenOffset (n : Nat) : Nat := instKey 0x206002 12 n
abbrev rgenOffset (n : Nat) : Nat := instKey 0x207002 16 n
abbrev cgenPitchWhole (n : Nat) : Nat := instKey 0x206003 12 n
abbrev rgenPitchWhole (n : Nat) : Nat := instKey 0x207003 16 n
abbrev cgenPitchFrac (n : Nat) : Nat := instKey 0x206004 12 n
abbrev rgenPitchFrac (n : Nat) : Nat := instKey 0x207004 16 n
abbrev cgenPhase (n : Nat) : Nat := instKey 0x206005 12 n
abbrev rgenPhase (n : Nat) : Nat := instKey 0x207005 16 n
abbrev cgenMinPeriod (n : Nat) : Nat := instKey 0x206006 12 n
abbrev cgenLineIndex (n : Nat) : Nat := instKey 0x206007 12 n
abbrev rgenLineIndex (n : Nat) : Nat := instKey 0x207007 16 n
abbrev cgenLastTrigger (n : Nat) : Nat := instKey 0x206008 12 n
abbrev rgenLastTrigger (n : Nat) : Nat := instKey 0x207008 16 n
abbrev cgenTrigCount (n : Nat) : Nat := instKey 0x206009 12 n
abbrev rgenTrigCount (n : Nat) : Nat := instKey 0x207009 16 n
abbrev cgenLateCount (n : Nat) : Nat := instKey 0x20600A 12 n
abbrev rgenLateCount (n : Nat) : Nat := instKey 0x20700A 16 n
abbrev cgenSkipCount (n : Nat) : Nat := instKey 0x20600B 12 n
abbrev rgenSkipCount (n : Nat) : Nat := instKey 0x20700B 16 n
abbrev cgenBunchCount (n : Nat) : Nat := instKey 0x20600C 12 n
abbrev rgenBunchCount (n : Nat) : Nat := instKey 0x20700C 16 n
abbrev mirMode (n : Nat) : Nat := instKey 0x208001 4 n
abbrev mirChannel (n : Nat) : Nat := instKey 0x208002 4 n
abbrev mirDivider (n : Nat) : Nat := instKey 0x208003 4 n
abbrev mirEmuStep (n : Nat) : Nat := instKey 0x208004 4 n
abbrev mirEmuMaxRate (n : Nat) : Nat := instKey 0x208005 4 n
abbrev mirZEnable (n : Nat) : Nat := instKey 0x208006 4 n
abbrev mirEmuLag (n : Nat) : Nat := instKey 0x208007 4 n
abbrev mirMirrorStatus (n : Nat) : Nat := instKey 0x208008 4 n
abbrev camLineLength (n : Nat) : Nat := instKey 0x220001 12 n
abbrev camLinkCount (n : Nat) : Nat := instKey 0x220002 12 n
abbrev camMaxSpeed (n : Nat) : Nat := instKey 0x220003 12 n
abbrev camDiscoveryStart (n : Nat) : Nat := instKey 0x220004 12 n
abbrev camUplinkRate (n : Nat) : Nat := instKey 0x220005 12 n
abbrev camSampleBits (n : Nat) : Nat := instKey 0x220006 12 n
abbrev camPixelFormatCode (n : Nat) : Nat := instKey 0x220007 12 n
abbrev camStreamId (n : Nat) : Nat := instKey 0x220008 12 n
abbrev camRowsPerLine (n : Nat) : Nat := instKey 0x220009 12 n
abbrev camColumnOrder (n : Nat) : Nat := instKey 0x22000A 12 n
abbrev camFifoLines (n : Nat) : Nat := instKey 0x22000B 12 n
abbrev camBandLength (n : Nat) : Nat := instKey 0x22000C 12 n
abbrev camLinkSkewMax (n : Nat) : Nat := instKey 0x22000D 12 n
abbrev camLineTimeout (n : Nat) : Nat := instKey 0x22000E 12 n
abbrev camRetryCount (n : Nat) : Nat := instKey 0x22000F 12 n
abbrev camRetryWindow (n : Nat) : Nat := instKey 0x220010 12 n
abbrev camPlugMode (n : Nat) : Nat := instKey 0x220011 12 n
abbrev camControlChunk (n : Nat) : Nat := instKey 0x220012 12 n
abbrev camsPresent : Nat := 0x221001
abbrev camsRetired : Nat := 0x221002
abbrev camsPresentCount : Nat := 0x221003
abbrev camstChannelState (n : Nat) : Nat := instKey 0x222001 12 n
abbrev camstLinksUp (n : Nat) : Nat := instKey 0x222002 12 n
abbrev camstSpeed (n : Nat) : Nat := instKey 0x222003 12 n
abbrev camstCamVersion (n : Nat) : Nat := instKey 0x222004 12 n
abbrev camstStatus (n : Nat) : Nat := instKey 0x222005 12 n
abbrev camstDiscoveryPhase (n : Nat) : Nat := instKey 0x222006 12 n
abbrev camstLinesAccepted (n : Nat) : Nat := instKey 0x222007 12 n
abbrev camstLinesDropped (n : Nat) : Nat := instKey 0x222008 12 n
abbrev camstBandsDropped (n : Nat) : Nat := instKey 0x222009 12 n
abbrev camstCrcErrors (n : Nat) : Nat := instKey 0x22200A 12 n
abbrev camstFaultCount (n : Nat) : Nat := instKey 0x22200B 12 n
abbrev camstLastFaultTime (n : Nat) : Nat := instKey 0x22200C 12 n
abbrev camstDiscardCount (n : Nat) : Nat := instKey 0x22200D 12 n
abbrev camstTrigOverruns (n : Nat) : Nat := instKey 0x22200E 12 n
abbrev camstTrigAcks (n : Nat) : Nat := instKey 0x22200F 12 n
abbrev camstHeartbeats (n : Nat) : Nat := instKey 0x222010 12 n
abbrev camstCamEvents (n : Nat) : Nat := instKey 0x222011 12 n
abbrev camstFifoFill (n : Nat) : Nat := instKey 0x222012 12 n
abbrev camstFifoPeak (n : Nat) : Nat := instKey 0x222013 12 n
abbrev camstBandIndex (n : Nat) : Nat := instKey 0x222014 12 n
abbrev camstCameraGeneration (n : Nat) : Nat := instKey 0x222015 12 n
abbrev camstReadmit (n : Nat) : Nat := instKey 0x222016 12 n
abbrev camstRediscover (n : Nat) : Nat := instKey 0x222017 12 n
abbrev tunAddress (n : Nat) : Nat := instKey 0x224001 12 n
abbrev tunLength (n : Nat) : Nat := instKey 0x224002 12 n
abbrev tunDirection (n : Nat) : Nat := instKey 0x224003 12 n
abbrev tunSettings (n : Nat) : Nat := instKey 0x224004 12 n
abbrev tunData (n : Nat) : Nat := instKey 0x224005 12 n
abbrev tunTunnelGo (n : Nat) : Nat := instKey 0x224006 12 n
abbrev tunTunnelStatus (n : Nat) : Nat := instKey 0x224007 12 n
abbrev tunAckCode (n : Nat) : Nat := instKey 0x224008 12 n
abbrev tunTimeout (n : Nat) : Nat := instKey 0x224009 12 n
abbrev pipeLoadPercent (n : Nat) : Nat := instKey 0x240001 3 n
abbrev pipeLoadPeak (n : Nat) : Nat := instKey 0x240002 3 n
abbrev pipeLinesProcessed (n : Nat) : Nat := instKey 0x240003 3 n
abbrev pipeRounds (n : Nat) : Nat := instKey 0x240004 3 n
abbrev pipeMaxWait (n : Nat) : Nat := instKey 0x240005 3 n
abbrev ctxLinEnable (n : Nat) : Nat := instKey 0x241001 12 n
abbrev ctxLinTable (n : Nat) : Nat := instKey 0x241002 12 n
abbrev ctxMergeMode (n : Nat) : Nat := instKey 0x241003 12 n
abbrev ctxDualOrder (n : Nat) : Nat := instKey 0x241004 12 n
abbrev ctxLongParity (n : Nat) : Nat := instKey 0x241005 12 n
abbrev ctxExposureRatio (n : Nat) : Nat := instKey 0x241006 12 n
abbrev ctxKneeLow (n : Nat) : Nat := instKey 0x241007 12 n
abbrev ctxKneeHigh (n : Nat) : Nat := instKey 0x241008 12 n
abbrev ctxFlatEnable (n : Nat) : Nat := instKey 0x241009 12 n
abbrev ctxFlatTable (n : Nat) : Nat := instKey 0x24100A 12 n
abbrev ctxDefectCount (n : Nat) : Nat := instKey 0x24100B 12 n
abbrev ctxDefectMap (n : Nat) : Nat := instKey 0x24100C 12 n
abbrev ctxMosaicPhase (n : Nat) : Nat := instKey 0x24100D 12 n
abbrev ctxDemosaicMode (n : Nat) : Nat := instKey 0x24100E 12 n
abbrev ctxEdgeBias (n : Nat) : Nat := instKey 0x24100F 12 n
abbrev ctxC (n i : Nat) : Nat := 0x241010 + 256 * n + i
abbrev ctxOff (n i : Nat) : Nat := 0x241019 + 256 * n + i
abbrev lampLampGainR (n : Nat) : Nat := instKey 0x243001 12 n
abbrev lampLampGainG (n : Nat) : Nat := instKey 0x243002 12 n
abbrev lampLampGainB (n : Nat) : Nat := instKey 0x243003 12 n
abbrev repReplayEnable (n : Nat) : Nat := instKey 0x244001 12 n
abbrev repReplayBase (n : Nat) : Nat := instKey 0x244002 12 n
abbrev repReplayLines (n : Nat) : Nat := instKey 0x244003 12 n
abbrev repReplayStride (n : Nat) : Nat := instKey 0x244004 12 n
abbrev repReplayLoop (n : Nat) : Nat := instKey 0x244005 12 n
abbrev repReplayPace (n : Nat) : Nat := instKey 0x244006 12 n
abbrev repReplayPeriod (n : Nat) : Nat := instKey 0x244007 12 n
abbrev repReplayStartK (n : Nat) : Nat := instKey 0x244008 12 n
abbrev ctxsContextState (n : Nat) : Nat := instKey 0x245001 12 n
abbrev ctxsBandInProcess (n : Nat) : Nat := instKey 0x245002 12 n
abbrev ctxsPrismGeneration (n : Nat) : Nat := instKey 0x245003 12 n
abbrev ctxsLinesProcessed (n : Nat) : Nat := instKey 0x245004 12 n
abbrev ctxsLinesDiscarded (n : Nat) : Nat := instKey 0x245005 12 n
abbrev ctxsStatus (n : Nat) : Nat := instKey 0x245006 12 n
abbrev ctxsSatCount (n : Nat) : Nat := instKey 0x245007 12 n
abbrev ctxsReplayNext (n : Nat) : Nat := instKey 0x245008 12 n
abbrev seamMemberMask : Nat := 0x260001
abbrev seamWidth : Nat := 0x260002
abbrev seamSeamWait : Nat := 0x260003
abbrev seamWaitLines : Nat := 0x260004
abbrev seamVisionFormat : Nat := 0x260005
abbrev seamMonoWeightR : Nat := 0x260006
abbrev seamMonoWeightG : Nat := 0x260007
abbrev seamMonoWeightB : Nat := 0x260008
abbrev seamFillValue : Nat := 0x260009
abbrev seamRecordQueue : Nat := 0x26000A
abbrev seamStatEnable : Nat := 0x26000B
abbrev memColStart (n : Nat) : Nat := instKey 0x261001 12 n
abbrev memColCount (n : Nat) : Nat := instKey 0x261002 12 n
abbrev memLineShift (n : Nat) : Nat := instKey 0x261003 12 n
abbrev memResampleMode (n : Nat) : Nat := instKey 0x261004 12 n
abbrev memA0 (n : Nat) : Nat := instKey 0x261005 12 n
abbrev memA1 (n : Nat) : Nat := instKey 0x261006 12 n
abbrev memA2 (n : Nat) : Nat := instKey 0x261007 12 n
abbrev memA3 (n : Nat) : Nat := instKey 0x261008 12 n
abbrev smSeamMode (n : Nat) : Nat := instKey 0x263001 11 n
abbrev smSeamCentre (n : Nat) : Nat := instKey 0x263002 11 n
abbrev smBlendWidth (n : Nat) : Nat := instKey 0x263003 11 n
abbrev seamsLinesEmitted : Nat := 0x260101
abbrev seamsLinesPartial : Nat := 0x260102
abbrev seamsLastLine : Nat := 0x260103
abbrev seamsWaitForced : Nat := 0x260104
abbrev seamsRecordsLost : Nat := 0x260105
abbrev seamsStatus : Nat := 0x260106
abbrev memsMemberState (n : Nat) : Nat := instKey 0x262001 12 n
abbrev memsMissingLines (n : Nat) : Nat := instKey 0x262002 12 n
abbrev memsLateLines (n : Nat) : Nat := instKey 0x262003 12 n
abbrev memsOutOfRange (n : Nat) : Nat := instKey 0x262004 12 n
abbrev codCodingEnable : Nat := 0x264001
abbrev codCodingScale : Nat := 0x264002
abbrev codCodingDepth : Nat := 0x264003
abbrev codCodingCurve : Nat := 0x264004
abbrev codCodingBase : Nat := 0x264005
abbrev codCodingStride : Nat := 0x264006
abbrev codCodingRingLines : Nat := 0x264007
abbrev codCodingChunk : Nat := 0x264008
abbrev codCodingQueue : Nat := 0x264009
abbrev codsCodingReadLine : Nat := 0x264101
abbrev codsCodingWriteLine : Nat := 0x264102
abbrev codsChunksDropped : Nat := 0x264103
abbrev codsCodingStatus : Nat := 0x264104
abbrev winWinMode (n : Nat) : Nat := instKey 0x265001 2 n
abbrev winColFirst (n : Nat) : Nat := instKey 0x265002 2 n
abbrev winColCount (n : Nat) : Nat := instKey 0x265003 2 n
abbrev winDecimate (n : Nat) : Nat := instKey 0x265004 2 n
abbrev winBase (n : Nat) : Nat := instKey 0x265005 2 n
abbrev winStride (n : Nat) : Nat := instKey 0x265006 2 n
abbrev winRingLines (n : Nat) : Nat := instKey 0x265007 2 n
abbrev winCaptureLines (n : Nat) : Nat := instKey 0x265008 2 n
abbrev winWinQueue (n : Nat) : Nat := instKey 0x265009 2 n
abbrev winsWinLine (n : Nat) : Nat := instKey 0x265801 2 n
abbrev winsWinStatus (n : Nat) : Nat := instKey 0x265802 2 n
abbrev viewViewEnable (n : Nat) : Nat := instKey 0x266001 8 n
abbrev viewOutput (n : Nat) : Nat := instKey 0x266002 8 n
abbrev viewColFirst (n : Nat) : Nat := instKey 0x266003 8 n
abbrev viewColumns (n : Nat) : Nat := instKey 0x266004 8 n
abbrev viewScaleX (n : Nat) : Nat := instKey 0x266005 8 n
abbrev viewScaleY (n : Nat) : Nat := instKey 0x266006 8 n
abbrev viewLines (n : Nat) : Nat := instKey 0x266007 8 n
abbrev viewWhiteLevel (n : Nat) : Nat := instKey 0x266008 8 n
abbrev viewOverlayEnable (n : Nat) : Nat := instKey 0x266009 8 n
abbrev viewOverlayDelay (n : Nat) : Nat := instKey 0x26600A 8 n
abbrev viewOverlayThickness (n : Nat) : Nat := instKey 0x26600B 8 n
abbrev viewRingBase (n : Nat) : Nat := instKey 0x26600C 8 n
abbrev viewRingStride (n : Nat) : Nat := instKey 0x26600D 8 n
abbrev viewRingFrames (n : Nat) : Nat := instKey 0x26600E 8 n
abbrev viewViewQueue (n : Nat) : Nat := instKey 0x26600F 8 n
abbrev viewPort (n : Nat) : Nat := instKey 0x266010 8 n
abbrev viewDestAddress (n : Nat) : Nat := instKey 0x266011 8 n
abbrev viewDestPort (n : Nat) : Nat := instKey 0x266012 8 n
abbrev viewSourcePort (n : Nat) : Nat := instKey 0x266013 8 n
abbrev viewPayloadType (n : Nat) : Nat := instKey 0x266014 8 n
abbrev viewSsrc (n : Nat) : Nat := instKey 0x266015 8 n
abbrev viewsViewLine (n : Nat) : Nat := instKey 0x267001 8 n
abbrev viewsFrames (n : Nat) : Nat := instKey 0x267002 8 n
abbrev viewsFramesSkipped (n : Nat) : Nat := instKey 0x267003 8 n
abbrev viewsOverlayDropped (n : Nat) : Nat := instKey 0x267004 8 n
abbrev viewsViewStatus (n : Nat) : Nat := instKey 0x267005 8 n
abbrev ovlOverlayColours : Nat := 0x268001
abbrev umbReferenceMode : Nat := 0x280001
abbrev umbUsefulFirst : Nat := 0x280002
abbrev umbUsefulLast : Nat := 0x280003
abbrev umbEdgeGuard : Nat := 0x280004
abbrev umbStitchX0 : Nat := 0x280005
abbrev umbStitchPitch : Nat := 0x280006
abbrev umbBandChannel : Nat := 0x280007
abbrev umbMaxLines : Nat := 0x280008
abbrev umbTagQueue : Nat := 0x280009
abbrev umbRejectCompare : Nat := 0x28000A
abbrev umbMarkCompare : Nat := 0x28000B
abbrev umbPushPoint : Nat := 0x28000C
abbrev umbJoinSlack : Nat := 0x28000D
abbrev umbBoundaryLeft : Nat := 0x28000E
abbrev umbBoundaryRight : Nat := 0x28000F
abbrev umbBoundaryGapX : Nat := 0x280010
abbrev umbBoundaryWait : Nat := 0x280011
abbrev segPenumbraLevel : Nat := 0x281001
abbrev segUmbraLevel : Nat := 0x281002
abbrev segScoreWeightR : Nat := 0x281003
abbrev segScoreWeightG : Nat := 0x281004
abbrev segScoreWeightB : Nat := 0x281005
abbrev segScoreMode : Nat := 0x281006
abbrev segRelFloor : Nat := 0x281007
abbrev segScoreNeighbour : Nat := 0x281008
abbrev segBgShift : Nat := 0x281009
abbrev segBgGate : Nat := 0x28100A
abbrev segBgWarmup : Nat := 0x28100B
abbrev segDefaultClass : Nat := 0x28100C
abbrev segRuleTable : Nat := 0x28100D
abbrev reflWhiteR : Nat := 0x283001
abbrev reflWhiteG : Nat := 0x283002
abbrev reflWhiteB : Nat := 0x283003
abbrev reflAbsorb : Nat := 0x283004
abbrev reflCorrTable : Nat := 0x283005
abbrev reflRegistration : Nat := 0x283006
abbrev reflRingX0 : Nat := 0x283007
abbrev reflRingColPitch : Nat := 0x283008
abbrev reflSlotMask : Nat := 0x283009
abbrev ubarSlot (n : Nat) : Nat := instKey 0x284001 16 n
abbrev ubarBarX0 (n : Nat) : Nat := instKey 0x284002 16 n
abbrev ubarNozzlePitch (n : Nat) : Nat := instKey 0x284003 16 n
abbrev ubarFirstHead (n : Nat) : Nat := instKey 0x284004 16 n
abbrev ubarHeadCount (n : Nat) : Nat := instKey 0x284005 16 n
abbrev ubarHeadNozzles (n : Nat) : Nat := instKey 0x284006 16 n
abbrev crazeCrazeEnable : Nat := 0x285001
abbrev crazeCrazeThreshold : Nat := 0x285002
abbrev crazeCrazeMaxWidth : Nat := 0x285003
abbrev crazeCrazeMinCount : Nat := 0x285004
abbrev crazeCrazeMinCover : Nat := 0x285005
abbrev crazeCrazeConfirm : Nat := 0x285006
abbrev crazeCrazeAutoMask : Nat := 0x285007
abbrev crazeCrazeQueue : Nat := 0x285008
abbrev cropCropEnable : Nat := 0x286001
abbrev cropCropWidth : Nat := 0x286002
abbrev cropCropMaxLines : Nat := 0x286003
abbrev cropCropMargin : Nat := 0x286004
abbrev cropCropSlots : Nat := 0x286005
abbrev cropCropBase : Nat := 0x286006
abbrev cropCropRingBytes : Nat := 0x286007
abbrev cropCropCompress : Nat := 0x286008
abbrev cropCropLevel : Nat := 0x286009
abbrev cropCropQueue : Nat := 0x28600A
abbrev cropsCropReadOffset : Nat := 0x286101
abbrev cropsCropWriteOffset : Nat := 0x286102
abbrev umbsTagsWritten : Nat := 0x280101
abbrev umbsLateTags : Nat := 0x280102
abbrev umbsOpenComponents : Nat := 0x280103
abbrev umbsOpenPeak : Nat := 0x280104
abbrev umbsComponentsLost : Nat := 0x280105
abbrev umbsPenumbraOnly : Nat := 0x280106
abbrev umbsSuppressed : Nat := 0x280107
abbrev umbsRefLate : Nat := 0x280108
abbrev umbsJoinLost : Nat := 0x280109
abbrev umbsCropsLost : Nat := 0x28010A
abbrev umbsCrazeFound : Nat := 0x28010B
abbrev umbsBlindColumns : Nat := 0x28010C
abbrev umbsWarmup : Nat := 0x28010D
abbrev umbsLastTagId : Nat := 0x28010E
abbrev umbsStatus : Nat := 0x28010F
abbrev jobJobTable : Nat := 0x300001
abbrev jobEntryCount : Nat := 0x300002
abbrev jobJobLoop : Nat := 0x300003
abbrev jobUpX : Nat := 0x300004
abbrev jobUpY : Nat := 0x300005
abbrev jobUpModeX : Nat := 0x300006
abbrev jobUpModeY : Nat := 0x300007
abbrev jobSlipEngines : Nat := 0x300008
abbrev jobVarBase : Nat := 0x300009
abbrev jobVarRecords : Nat := 0x30000A
abbrev jobVarEmptyAction : Nat := 0x30000B
abbrev ringRingEnable : Nat := 0x300101
abbrev ringRingBase : Nat := 0x300102
abbrev ringRingRows : Nat := 0x300103
abbrev ringRingColumns : Nat := 0x300104
abbrev ringRingRowPitch : Nat := 0x300105
abbrev slipJobState : Nat := 0x300201
abbrev slipLeadBar : Nat := 0x300202
abbrev slipLeadLine : Nat := 0x300203
abbrev slipEntry : Nat := 0x300204
abbrev slipRepeat : Nat := 0x300205
abbrev slipRepeatCount : Nat := 0x300206
abbrev slipStopLine : Nat := 0x300207
abbrev slipVarWriteIndex : Nat := 0x300208
abbrev slipVarReadIndex : Nat := 0x300209
abbrev slipVarEmpty : Nat := 0x30020A
abbrev slipRingFront : Nat := 0x30020B
abbrev slipStatus : Nat := 0x30020C
abbrev noiseBlueNoise : Nat := 0x300301
abbrev barBarEnable (n : Nat) : Nat := instKey 0x301001 16 n
abbrev barSlot (n : Nat) : Nat := instKey 0x301002 16 n
abbrev barFirstHead (n : Nat) : Nat := instKey 0x301003 16 n
abbrev barHeadCount (n : Nat) : Nat := instKey 0x301004 16 n
abbrev barHeadNozzles (n : Nat) : Nat := instKey 0x301005 16 n
abbrev barLineStep (n : Nat) : Nat := instKey 0x301006 16 n
abbrev barLineBase (n : Nat) : Nat := instKey 0x301007 16 n
abbrev barTwinBar (n : Nat) : Nat := instKey 0x301008 16 n
abbrev barInputSherds (n : Nat) : Nat := instKey 0x301009 16 n
abbrev barMaxLineRate (n : Nat) : Nat := instKey 0x30100A 16 n
abbrev scrScreenMode (n : Nat) : Nat := instKey 0x303001 16 n
abbrev scrDropValue1 (n : Nat) : Nat := instKey 0x303002 16 n
abbrev scrDropValue2 (n : Nat) : Nat := instKey 0x303003 16 n
abbrev scrDropValue3 (n : Nat) : Nat := instKey 0x303004 16 n
abbrev scrNoiseAmp (n : Nat) : Nat := instKey 0x303005 16 n
abbrev scrNoiseRowOff (n : Nat) : Nat := instKey 0x303006 16 n
abbrev scrNoiseColOff (n : Nat) : Nat := instKey 0x303007 16 n
abbrev scrErrLimit (n : Nat) : Nat := instKey 0x303008 16 n
abbrev scrZeroClean (n : Nat) : Nat := instKey 0x303009 16 n
abbrev scrSeedBase (n : Nat) : Nat := instKey 0x30300A 16 n
abbrev scrSeedAmp (n : Nat) : Nat := instKey 0x30300B 16 n
abbrev shiftNozzleShift (n : Nat) : Nat := instKey 0x305001 16 n
abbrev barsLinesScreened (n : Nat) : Nat := instKey 0x306001 16 n
abbrev barsLine (n : Nat) : Nat := instKey 0x306002 16 n
abbrev barsUnderruns (n : Nat) : Nat := instKey 0x306003 16 n
abbrev barsInputStalls (n : Nat) : Nat := instKey 0x306004 16 n
abbrev barsQueueFill (n : Nat) : Nat := instKey 0x306005 16 n
abbrev barsWorstSlack (n : Nat) : Nat := instKey 0x306006 16 n
abbrev glzNozzleTable : Nat := 0x320001
abbrev glzMaskClear : Nat := 0x320002
abbrev glzDeadCount : Nat := 0x320003
abbrev glzMaskRequests : Nat := 0x320004
abbrev glzMaskRequestsLost : Nat := 0x320005
abbrev glzStatus : Nat := 0x320006
abbrev gbarGlobalCurve (n : Nat) : Nat := instKey 0x321001 16 n
abbrev gbarCompMode (n : Nat) : Nat := instKey 0x321002 16 n
abbrev gbarDeadW1 (n : Nat) : Nat := instKey 0x321003 16 n
abbrev gbarDeadW2 (n : Nat) : Nat := instKey 0x321004 16 n
abbrev gupdUpdateCount (n : Nat) : Nat := instKey 0x323001 16 n
abbrev gupdUpdateList (n : Nat) : Nat := instKey 0x323002 16 n
abbrev gbarsDeadNozzles (n : Nat) : Nat := instKey 0x325001 16 n
abbrev gbarsUpdatesApplied (n : Nat) : Nat := instKey 0x325002 16 n
abbrev gbarsApplyDelay (n : Nat) : Nat := instKey 0x325003 16 n
abbrev profLaneRate (n : Nat) : Nat := instKey 0x342001 4 n
abbrev profLanesPerHead (n : Nat) : Nat := instKey 0x342002 4 n
abbrev profBitsPerNozzle (n : Nat) : Nat := instKey 0x342003 4 n
abbrev profNozzles (n : Nat) : Nat := instKey 0x342004 4 n
abbrev profOrderMode (n : Nat) : Nat := instKey 0x342005 4 n
abbrev profOrderTable (n : Nat) : Nat := instKey 0x342006 4 n
abbrev profBitOrder (n : Nat) : Nat := instKey 0x342007 4 n
abbrev profDropMap (n : Nat) : Nat := instKey 0x342008 4 n
abbrev profPreambleBits (n : Nat) : Nat := instKey 0x342009 4 n
abbrev profPreamble (n : Nat) : Nat := instKey 0x34200A 4 n
abbrev profPostambleBits (n : Nat) : Nat := instKey 0x34200B 4 n
abbrev profClockIdle (n : Nat) : Nat := instKey 0x34200C 4 n
abbrev profLatchMode (n : Nat) : Nat := instKey 0x34200D 4 n
abbrev profLatchWidth (n : Nat) : Nat := instKey 0x34200E 4 n
abbrev profLatchSetup (n : Nat) : Nat := instKey 0x34200F 4 n
abbrev profLatchHold (n : Nat) : Nat := instKey 0x342010 4 n
abbrev profStrobePolarity (n : Nat) : Nat := instKey 0x342011 4 n
abbrev profPreHeat (n : Nat) : Nat := instKey 0x342012 4 n
abbrev profGap (n : Nat) : Nat := instKey 0x342013 4 n
abbrev profFire (n : Nat) : Nat := instKey 0x342014 4 n
abbrev profTail (n : Nat) : Nat := instKey 0x342015 4 n
abbrev profStrobeMax (n : Nat) : Nat := instKey 0x342016 4 n
abbrev profMaxFireRate (n : Nat) : Nat := instKey 0x342017 4 n
abbrev profTempComp (n : Nat) : Nat := instKey 0x342018 4 n
abbrev profTempBase (n : Nat) : Nat := instKey 0x342019 4 n
abbrev profTempStep (n : Nat) : Nat := instKey 0x34201A 4 n
abbrev profTempMax (n : Nat) : Nat := instKey 0x34201B 4 n
abbrev profIdDevAddr (n : Nat) : Nat := instKey 0x34201C 4 n
abbrev profIdBytes (n : Nat) : Nat := instKey 0x34201D 4 n
abbrev profIdMatch (n : Nat) : Nat := instKey 0x34201E 4 n
abbrev profIdMask (n : Nat) : Nat := instKey 0x34201F 4 n
abbrev profTempDevAddr (n : Nat) : Nat := instKey 0x342020 4 n
abbrev profTempReg (n : Nat) : Nat := instKey 0x342021 4 n
abbrev profMeasureReg (n : Nat) : Nat := instKey 0x342022 4 n
abbrev profResLow (n : Nat) : Nat := instKey 0x342023 4 n
abbrev profResHigh (n : Nat) : Nat := instKey 0x342024 4 n
abbrev profSenseSettle (n : Nat) : Nat := instKey 0x342025 4 n
abbrev profRetryCount (n : Nat) : Nat := instKey 0x342026 4 n
abbrev profRetryWindow (n : Nat) : Nat := instKey 0x342027 4 n
abbrev profTempPoll (n : Nat) : Nat := instKey 0x342028 4 n
abbrev profBusSpeed (n : Nat) : Nat := instKey 0x342029 4 n
abbrev profProfilePeriod (n : Nat) : Nat := instKey 0x342030 4 n
abbrev kpProfile (n : Nat) : Nat := instKey 0x340001 32 n
abbrev kpHeadMask (n : Nat) : Nat := instKey 0x340002 32 n
abbrev kpPowerOnDelay (n : Nat) : Nat := instKey 0x340003 32 n
abbrev kpPowerOffDelay (n : Nat) : Nat := instKey 0x340004 32 n
abbrev kpRetryCount (n : Nat) : Nat := instKey 0x340005 32 n
abbrev kpRetryWindow (n : Nat) : Nat := instKey 0x340006 32 n
abbrev kpSenseLimit (n : Nat) : Nat := instKey 0x340007 32 n
abbrev kpSenseEnable (n : Nat) : Nat := instKey 0x340008 32 n
abbrev kpPortPower (n : Nat) : Nat := instKey 0x340010 32 n
abbrev kpPortState (n : Nat) : Nat := instKey 0x340011 32 n
abbrev kpPortStatus (n : Nat) : Nat := instKey 0x340012 32 n
abbrev kpLinesShifted (n : Nat) : Nat := instKey 0x340013 32 n
abbrev kpFaultCount (n : Nat) : Nat := instKey 0x340014 32 n
abbrev kpLastFaultTime (n : Nat) : Nat := instKey 0x340015 32 n
abbrev kpReadmit (n : Nat) : Nat := instKey 0x340016 32 n
abbrev khDelay (n : Nat) : Nat := instKey 0x344001 128 n
abbrev khReadmit (n : Nat) : Nat := instKey 0x344002 128 n
abbrev khHeadState (n : Nat) : Nat := instKey 0x344003 128 n
abbrev khTemperature (n : Nat) : Nat := instKey 0x344004 128 n
abbrev khPreHeatWidth (n : Nat) : Nat := instKey 0x344005 128 n
abbrev khFireWidth (n : Nat) : Nat := instKey 0x344006 128 n
abbrev khHeadStatus (n : Nat) : Nat := instKey 0x344007 128 n
abbrev khIdentity (n : Nat) : Nat := instKey 0x344008 128 n
abbrev khFaultCount (n : Nat) : Nat := instKey 0x344009 128 n
abbrev khStrobes (n : Nat) : Nat := instKey 0x34400A 128 n
abbrev khLastCutTime (n : Nat) : Nat := instKey 0x34400B 128 n
abbrev kilnSpeedLimitPin : Nat := 0x34C001
abbrev kilnSpeedLimitLevel : Nat := 0x34C002
abbrev kilnSpeedLimit : Nat := 0x34C003
abbrev kilnActiveHeads : Nat := 0x34C004
abbrev kilnKilnStatus : Nat := 0x34C005
abbrev kbarMinLinePeriod (n : Nat) : Nat := instKey 0x34D001 16 n
abbrev kbarLinesFired (n : Nat) : Nat := instKey 0x34D002 16 n
abbrev kbarLinesSkipped (n : Nat) : Nat := instKey 0x34D003 16 n
abbrev kbarLinesDiscarded (n : Nat) : Nat := instKey 0x34D004 16 n
abbrev kbarLastSkip (n : Nat) : Nat := instKey 0x34D005 16 n
abbrev kbarLastInterval (n : Nat) : Nat := instKey 0x34D006 16 n
abbrev kbarInSpeedLimit (n : Nat) : Nat := instKey 0x34D007 16 n
abbrev kbarBarStatus (n : Nat) : Nat := instKey 0x34D008 16 n
abbrev scanScanMaskLo : Nat := 0x34C101
abbrev scanScanMaskHi : Nat := 0x34C102
abbrev scanScanBase : Nat := 0x34C103
abbrev scanScanGo : Nat := 0x34C104
abbrev scanScanAbort : Nat := 0x34C105
abbrev scanScanStatus : Nat := 0x34C106
abbrev scanScanMeasured : Nat := 0x34C107
abbrev scanScanOut : Nat := 0x34C108
abbrev scanScanSkipped : Nat := 0x34C109
abbrev gauGsyncEdge : Nat := 0x380001
abbrev gauSyncNow : Nat := 0x380002
abbrev gauSyncCount : Nat := 0x380003
abbrev gauSyncTime : Nat := 0x380004
abbrev gauRefCode : Nat := 0x380005
abbrev gauScanHold : Nat := 0x380006
abbrev gaMode (n : Nat) : Nat := instKey 0x381001 16 n
abbrev gaCicDecimation (n : Nat) : Nat := instKey 0x381002 16 n
abbrev gaFirEnable (n : Nat) : Nat := instKey 0x381003 16 n
abbrev gaFirLength (n : Nat) : Nat := instKey 0x381004 16 n
abbrev gaFirDecimation (n : Nat) : Nat := instKey 0x381005 16 n
abbrev gaFadeShift (n : Nat) : Nat := instKey 0x381006 16 n
abbrev gaSccDecimation (n : Nat) : Nat := instKey 0x381007 16 n
abbrev gaMuxSettle (n : Nat) : Nat := instKey 0x381008 16 n
abbrev gaInputSelect (n : Nat) : Nat := instKey 0x381009 16 n
abbrev gaOffset (n : Nat) : Nat := instKey 0x38100A 16 n
abbrev gaGain (n : Nat) : Nat := instKey 0x38100B 16 n
abbrev gaOutQueue (n : Nat) : Nat := instKey 0x38100C 16 n
abbrev gaCalSamples (n : Nat) : Nat := instKey 0x38100D 16 n
abbrev gasLatest (n : Nat) : Nat := instKey 0x382001 16 n
abbrev gasSamples (n : Nat) : Nat := instKey 0x382002 16 n
abbrev gasStatus (n : Nat) : Nat := instKey 0x382003 16 n
abbrev gasLost (n : Nat) : Nat := instKey 0x382004 16 n
abbrev gasSettleLeft (n : Nat) : Nat := instKey 0x382005 16 n
abbrev gasActiveBank (n : Nat) : Nat := instKey 0x382006 16 n
abbrev gasFadeState (n : Nat) : Nat := instKey 0x382007 16 n
abbrev gasHeldRequest (n : Nat) : Nat := instKey 0x382008 16 n
abbrev gasSwapTarget (n : Nat) : Nat := instKey 0x382009 16 n
abbrev gasCalGo (n : Nat) : Nat := instKey 0x38200A 16 n
abbrev gasCalStatus (n : Nat) : Nat := instKey 0x38200B 16 n
abbrev gasCalCount (n : Nat) : Nat := instKey 0x38200C 16 n
abbrev gasCalTime (n : Nat) : Nat := instKey 0x38200D 16 n
abbrev gasCalZero (n : Nat) : Nat := instKey 0x38200E 16 n
abbrev gasCalRef (n : Nat) : Nat := instKey 0x38200F 16 n
abbrev gbankBankA (n : Nat) : Nat := instKey 0x383001 16 n
abbrev gbankBankB (n : Nat) : Nat := instKey 0x383002 16 n
abbrev loopLoopEnable : Nat := 0x360001
abbrev loopLoopBase : Nat := 0x360002
abbrev loopLoopSlots : Nat := 0x360003
abbrev loopLoopBands : Nat := 0x360004
abbrev loopWordsPerLine : Nat := 0x360005
abbrev loopLoopQueue : Nat := 0x360006
abbrev loopMarkCount : Nat := 0x360007
abbrev loopMarkTable : Nat := 0x360008
abbrev loopStripCount : Nat := 0x360009
abbrev loopStripTable : Nat := 0x36000A
abbrev lawLoopGain : Nat := 0x361001
abbrev lawDeadband : Nat := 0x361002
abbrev lawStepLimit : Nat := 0x361003
abbrev lawDriftLimit : Nat := 0x361004
abbrev lawPlausibleMax : Nat := 0x361005
abbrev lawStrikeLimit : Nat := 0x361006
abbrev lawMinCount : Nat := 0x361007
abbrev lawMinCover : Nat := 0x361008
abbrev lawOtherMax : Nat := 0x361009
abbrev lawStripHold : Nat := 0x36100A
abbrev lawApproveRotations : Nat := 0x36100B
abbrev lawMeasChannel (i : Nat) : Nat := runKey 0x361010 8 i
abbrev lampcLampSource (i : Nat) : Nat := runKey 0x362001 12 i
abbrev lampcLampSensor (i : Nat) : Nat := runKey 0x362010 12 i
abbrev lampcWhiteMinCount : Nat := 0x362020
abbrev lampcLampStep : Nat := 0x362021
abbrev regRegEnable : Nat := 0x363001
abbrev regMarkAverage : Nat := 0x363002
abbrev regRegDeadW : Nat := 0x363003
abbrev regDelayStepMax : Nat := 0x363004
abbrev regShiftHyst : Nat := 0x363005
abbrev regMarkMinMass : Nat := 0x363006
abbrev loopsApproveCommand : Nat := 0x364001
abbrev loopsLoopState : Nat := 0x364002
abbrev loopsApproveTime : Nat := 0x364003
abbrev loopsWindow : Nat := 0x364004
abbrev loopsStatus : Nat := 0x364005
abbrev loopsUpdatesMade : Nat := 0x364006
abbrev loopsConflicts : Nat := 0x364007
abbrev loopsFrozenNozzles : Nat := 0x364008
abbrev loopsDiscards : Nat := 0x364009
abbrev loopsFoldLate : Nat := 0x36400A
abbrev loopsApprovalSet : Nat := 0x36400B
abbrev lslotStripErrMax (n : Nat) : Nat := instKey 0x365001 8 n
abbrev lslotWorstStrip (n : Nat) : Nat := instKey 0x365002 8 n
abbrev lslotFreshW (n : Nat) : Nat := instKey 0x365003 8 n
abbrev lslotHoldReason (n : Nat) : Nat := instKey 0x365004 8 n
abbrev lslotNozzlesUpdated (n : Nat) : Nat := instKey 0x365005 8 n
abbrev lslotLastFold (n : Nat) : Nat := instKey 0x365006 8 n
abbrev lheadMeanDW (n : Nat) : Nat := instKey 0x366001 128 n
abbrev lheadMeanDX (n : Nat) : Nat := instKey 0x366002 128 n
abbrev lheadRegFreshW (n : Nat) : Nat := instKey 0x366003 128 n
abbrev stripStripMean (n : Nat) : Nat := instKey 0x36E001 16 n
abbrev stripStripRef (n : Nat) : Nat := instKey 0x36E002 16 n
abbrev stripStripErr (n : Nat) : Nat := instKey 0x36E003 16 n
abbrev dramDramPopulated : Nat := 0x400001
abbrev dramInterleave : Nat := 0x400002
abbrev dramChannelsPresent : Nat := 0x400003
abbrev dramMapErrors : Nat := 0x400004
abbrev dramLastMapError : Nat := 0x400005
abbrev dramScrubOnRead : Nat := 0x400006
abbrev dramPatrolPeriod : Nat := 0x400007
abbrev dramMemStatus : Nat := 0x400008
abbrev poolSherdsFree : Nat := 0x400101
abbrev poolFreeLow : Nat := 0x400102
abbrev poolPoolLowMark : Nat := 0x400103
abbrev poolRefusedCommits : Nat := 0x400104
abbrev poolLastRefused : Nat := 0x400105
abbrev poolPoolStatus : Nat := 0x400106
abbrev dcDataRate (n : Nat) : Nat := instKey 0x401001 4 n
abbrev dcMemoryType (n : Nat) : Nat := instKey 0x401002 4 n
abbrev dcRanks (n : Nat) : Nat := instKey 0x401003 4 n
abbrev dcDeviceDensity (n : Nat) : Nat := instKey 0x401004 4 n
abbrev dcDeviceWidth (n : Nat) : Nat := instKey 0x401005 4 n
abbrev dcCapacity (n : Nat) : Nat := instKey 0x401006 4 n
abbrev dcTrfc (n : Nat) : Nat := instKey 0x401007 4 n
abbrev dcsChannelState (n : Nat) : Nat := instKey 0x402001 4 n
abbrev dcsCaseTemp (n : Nat) : Nat := instKey 0x402002 4 n
abbrev dcsRefreshes (n : Nat) : Nat := instKey 0x402003 4 n
abbrev dcsCorrectedErrors (n : Nat) : Nat := instKey 0x402004 4 n
abbrev dcsLastCorrectedAddress (n : Nat) : Nat := instKey 0x402005 4 n
abbrev dcsPatrolPasses (n : Nat) : Nat := instKey 0x402006 4 n
abbrev dcsChannelStatus (n : Nat) : Nat := instKey 0x402007 4 n
abbrev prioPriority (i : Nat) : Nat := runKey 0x403001 12 i
abbrev portBytesRead (n : Nat) : Nat := instKey 0x404001 12 n
abbrev portBytesWritten (n : Nat) : Nat := instKey 0x404002 12 n
abbrev portMaxLatency (n : Nat) : Nat := instKey 0x404003 12 n
abbrev quesPortQueueFlush : Nat := 0x420001
abbrev quesSizeErrors : Nat := 0x420002
abbrev qQueueEnable (n : Nat) : Nat := instKey 0x424001 64 n
abbrev qItemBytes (n : Nat) : Nat := instKey 0x424002 64 n
abbrev qBankSherds (n : Nat) : Nat := instKey 0x424003 64 n
abbrev qCreditGrant (n : Nat) : Nat := instKey 0x424004 64 n
abbrev qsFill (n : Nat) : Nat := instKey 0x428001 64 n
abbrev qsFillPeak (n : Nat) : Nat := instKey 0x428002 64 n
abbrev qsCapacity (n : Nat) : Nat := instKey 0x428003 64 n
abbrev qsItemsIn (n : Nat) : Nat := instKey 0x428004 64 n
abbrev qsItemsOut (n : Nat) : Nat := instKey 0x428005 64 n
abbrev qsFlush (n : Nat) : Nat := instKey 0x428006 64 n
abbrev qsFlushCount (n : Nat) : Nat := instKey 0x428007 64 n
abbrev qsNoCreditCount (n : Nat) : Nat := instKey 0x428008 64 n
abbrev qsConsumer (n : Nat) : Nat := instKey 0x428009 64 n
abbrev qsQueueStatus (n : Nat) : Nat := instKey 0x42800A 64 n
abbrev dmaPriority (n : Nat) : Nat := instKey 0x42C001 32 n
abbrev dmaHighMark (n : Nat) : Nat := instKey 0x42C002 32 n
abbrev dmaLowMark (n : Nat) : Nat := instKey 0x42C003 32 n
abbrev dmaMaxWait (n : Nat) : Nat := instKey 0x42C004 32 n
abbrev dmaBufferQuota (n : Nat) : Nat := instKey 0x42C005 32 n
abbrev dmasStart (n : Nat) : Nat := instKey 0x42E001 32 n
abbrev dmasGo (n : Nat) : Nat := instKey 0x42E002 32 n
abbrev dmasDoorbell (n : Nat) : Nat := instKey 0x42E003 32 n
abbrev dmasAbort (n : Nat) : Nat := instKey 0x42E004 32 n
abbrev dmasChannelState (n : Nat) : Nat := instKey 0x42E005 32 n
abbrev dmasCurrentDesc (n : Nat) : Nat := instKey 0x42E006 32 n
abbrev dmasLastStatus (n : Nat) : Nat := instKey 0x42E007 32 n
abbrev dmasBytesMoved (n : Nat) : Nat := instKey 0x42E008 32 n
abbrev dmasCompletions (n : Nat) : Nat := instKey 0x42E009 32 n
abbrev dmasErrorCount (n : Nat) : Nat := instKey 0x42E00A 32 n
abbrev zeReserved : Nat := 0x440001
abbrev zeCropWaiting : Nat := 0x440002
abbrev zeFormatVersion : Nat := 0x440003
abbrev zerJobRingBase (n : Nat) : Nat := instKey 0x441001 6 n
abbrev zerJobRingEntries (n : Nat) : Nat := instKey 0x441002 6 n
abbrev zesJobTail (n : Nat) : Nat := instKey 0x442001 6 n
abbrev zesJobHead (n : Nat) : Nat := instKey 0x442002 6 n
abbrev zesEngineState (n : Nat) : Nat := instKey 0x442003 6 n
abbrev zesAbort (n : Nat) : Nat := instKey 0x442004 6 n
abbrev zesLastStatus (n : Nat) : Nat := instKey 0x442005 6 n
abbrev zesJobsDone (n : Nat) : Nat := instKey 0x442006 6 n
abbrev zesBytesIn (n : Nat) : Nat := instKey 0x442007 6 n
abbrev zesBytesOut (n : Nat) : Nat := instKey 0x442008 6 n
abbrev zesVerifyFails (n : Nat) : Nat := instKey 0x442009 6 n
abbrev zesErrorCount (n : Nat) : Nat := instKey 0x44200A 6 n
abbrev zesEngineStatus (n : Nat) : Nat := instKey 0x44200B 6 n
abbrev fabEventCatalogue : Nat := 0x460001
abbrev fabTaskCatalogue : Nat := 0x460002
abbrev fabFabricStatus : Nat := 0x460003
abbrev fabOverruns : Nat := 0x460004
abbrev fabLoopCuts : Nat := 0x460005
abbrev chSourceEvent (n : Nat) : Nat := instKey 0x470001 256 n
abbrev chToInterrupt (n : Nat) : Nat := instKey 0x470002 256 n
abbrev chToWitness (n : Nat) : Nat := instKey 0x470003 256 n
abbrev chDelivered (n : Nat) : Nat := instKey 0x470010 256 n
abbrev chLastLineage (n : Nat) : Nat := instKey 0x470011 256 n
abbrev chChannelStatus (n : Nat) : Nat := instKey 0x470012 256 n
abbrev holdHoldOff (i : Nat) : Nat := runKey 0x480101 32 i
abbrev holdsHoldOffRunning : Nat := 0x480201
abbrev maskMaskSet (i : Nat) : Nat := runKey 0x482001 8 i
abbrev maskMaskClear (i : Nat) : Nat := runKey 0x482009 8 i
abbrev maskMask (i : Nat) : Nat := runKey 0x482011 8 i
abbrev pendPendingSet (i : Nat) : Nat := runKey 0x482101 8 i
abbrev pendPendingClear (i : Nat) : Nat := runKey 0x482109 8 i
abbrev pendPending (i : Nat) : Nat := runKey 0x482111 8 i
abbrev pendInService (i : Nat) : Nat := runKey 0x482119 8 i
abbrev msyncMaskSync : Nat := 0x482201
abbrev tgtClaim (n : Nat) : Nat := instKey 0x483001 5 n
abbrev tgtComplete (n : Nat) : Nat := instKey 0x483002 5 n
abbrev tgtHolding (n : Nat) : Nat := instKey 0x483003 5 n
abbrev tgtSignalled (n : Nat) : Nat := instKey 0x483004 5 n
abbrev tgtClaims (n : Nat) : Nat := instKey 0x483005 5 n
abbrev tgtSpuriousClaims (n : Nat) : Nat := instKey 0x483006 5 n
abbrev sklNodeId : Nat := 0x500001
abbrev sklRole : Nat := 0x500002
abbrev sklRoleEpoch : Nat := 0x500003
abbrev sklHopLimit : Nat := 0x500004
abbrev sklHeartbeatPeriod : Nat := 0x500005
abbrev sklMissLimit : Nat := 0x500006
abbrev sklSeqExpiry : Nat := 0x500007
abbrev sklRoleTable : Nat := 0x500008
abbrev sklPeerAdmit : Nat := 0x500009
abbrev sklRouteTable : Nat := 0x50000A
abbrev sklEpochTable : Nat := 0x50000B
abbrev sklLinkStatus : Nat := 0x50000C
abbrev sklStaleDrops : Nat := 0x50000D
abbrev sklNoRoute : Nat := 0x50000E
abbrev sklPromotions : Nat := 0x50000F
abbrev spPortEnable (n : Nat) : Nat := instKey 0x501001 2 n
abbrev spMaxSpeed (n : Nat) : Nat := instKey 0x501002 2 n
abbrev spLaneMask (n : Nat) : Nat := instKey 0x501003 2 n
abbrev spTuneTimeout (n : Nat) : Nat := instKey 0x501004 2 n
abbrev spRetryCount (n : Nat) : Nat := instKey 0x501005 2 n
abbrev spRetryWindow (n : Nat) : Nat := instKey 0x501006 2 n
abbrev spAutoRetrain (n : Nat) : Nat := instKey 0x501007 2 n
abbrev spSleepEnable (n : Nat) : Nat := instKey 0x501008 2 n
abbrev spSleepIdle (n : Nat) : Nat := instKey 0x501009 2 n
abbrev spWakeBlocks (n : Nat) : Nat := instKey 0x50100A 2 n
abbrev spsLinkState (n : Nat) : Nat := instKey 0x501801 2 n
abbrev spsTrainState (n : Nat) : Nat := instKey 0x501802 2 n
abbrev spsSpeed (n : Nat) : Nat := instKey 0x501803 2 n
abbrev spsRxLanes (n : Nat) : Nat := instKey 0x501804 2 n
abbrev spsTxLanes (n : Nat) : Nat := instKey 0x501805 2 n
abbrev spsTxState (n : Nat) : Nat := instKey 0x501806 2 n
abbrev spsRxState (n : Nat) : Nat := instKey 0x501807 2 n
abbrev spsRetrain (n : Nat) : Nat := instKey 0x501808 2 n
abbrev spsLaneReadmit (n : Nat) : Nat := instKey 0x501809 2 n
abbrev spsPortStatus (n : Nat) : Nat := instKey 0x50180A 2 n
abbrev spsMsgSent (n : Nat) : Nat := instKey 0x50180B 2 n
abbrev spsMsgReceived (n : Nat) : Nat := instKey 0x50180C 2 n
abbrev spsCrcErrors (n : Nat) : Nat := instKey 0x50180D 2 n
abbrev spsQueueDrops (n : Nat) : Nat := instKey 0x50180E 2 n
abbrev spsTrainings (n : Nat) : Nat := instKey 0x50180F 2 n
abbrev spsLastTrainTime (n : Nat) : Nat := instKey 0x501810 2 n
abbrev spsSleepRefused (n : Nat) : Nat := instKey 0x501811 2 n
abbrev spsWakes (n : Nat) : Nat := instKey 0x501812 2 n
abbrev laneLaneState (n : Nat) : Nat := instKey 0x502001 8 n
abbrev laneTxPre (n : Nat) : Nat := instKey 0x502002 8 n
abbrev laneTxMain (n : Nat) : Nat := instKey 0x502003 8 n
abbrev laneTxPost (n : Nat) : Nat := instKey 0x502004 8 n
abbrev laneHeaderErrors (n : Nat) : Nat := instKey 0x502005 8 n
abbrev laneFaultCount (n : Nat) : Nat := instKey 0x502006 8 n
abbrev laneLastFaultTime (n : Nat) : Nat := instKey 0x502007 8 n
abbrev laneSkew (n : Nat) : Nat := instKey 0x502008 8 n
abbrev srtSendRoute (i : Nat) : Nat := runKey 0x503001 32 i
abbrev srvRecvCount (i : Nat) : Nat := runKey 0x503101 32 i
abbrev mbxDictTarget : Nat := 0x504001
abbrev mbxDictRequest : Nat := 0x504002
abbrev mbxDictSecure : Nat := 0x504003
abbrev mbxDictGo : Nat := 0x504004
abbrev mbxDictStatus : Nat := 0x504005
abbrev mbxDictResponse : Nat := 0x504006
abbrev mbxDictTimeout : Nat := 0x504007
abbrev timeTimeCounter : Nat := 0x140001
abbrev timeDeviceTime : Nat := 0x140002
abbrev timeSyncState : Nat := 0x140003
abbrev timeRateAdj : Nat := 0x140004
abbrev timeTimeSet : Nat := 0x140005
abbrev timeTimeStep : Nat := 0x140006
abbrev timeResync : Nat := 0x140007
abbrev timeSoftLocked : Nat := 0x140008
abbrev timeLastOffset : Nat := 0x140009
abbrev timePathDelay : Nat := 0x14000A
abbrev timeIntegral : Nat := 0x14000B
abbrev timeExchanges : Nat := 0x14000C
abbrev timeOutliers : Nat := 0x14000D
abbrev timeTimeStatus : Nat := 0x14000E
abbrev syncSyncSource : Nat := 0x140101
abbrev syncSyncOutMask : Nat := 0x140102
abbrev syncSyncPeriod : Nat := 0x140103
abbrev syncKpShift : Nat := 0x140104
abbrev syncKiShift : Nat := 0x140105
abbrev syncLockLimit : Nat := 0x140106
abbrev syncLockCount : Nat := 0x140107
abbrev syncOutlierLimit : Nat := 0x140108
abbrev syncHoldoverAfter : Nat := 0x140109
abbrev asymAsymmetry (i : Nat) : Nat := runKey 0x141001 4 i
abbrev ppsPpsPin : Nat := 0x142001
abbrev ppsPpsWidth : Nat := 0x142002
abbrev ppsPpsLevel : Nat := 0x142003
abbrev alarmAlarmTime (n : Nat) : Nat := instKey 0x143001 4 n
abbrev alarmAlarmEnable (n : Nat) : Nat := instKey 0x143002 4 n
abbrev alarmAlarmStatus (n : Nat) : Nat := instKey 0x143003 4 n
abbrev tcapCaptureTime (n : Nat) : Nat := instKey 0x144001 4 n
abbrev tcapCaptureCount (n : Nat) : Nat := instKey 0x144002 4 n
abbrev ethMode (n : Nat) : Nat := instKey 0x520001 2 n
abbrev ethFec (n : Nat) : Nat := instKey 0x520002 2 n
abbrev ethAutoNeg (n : Nat) : Nat := instKey 0x520003 2 n
abbrev ethPauseRx (n : Nat) : Nat := instKey 0x520004 2 n
abbrev ethMaxFrame (n : Nat) : Nat := instKey 0x520005 2 n
abbrev ethIpAddress (n : Nat) : Nat := instKey 0x520006 2 n
abbrev ethSubnetMask (n : Nat) : Nat := instKey 0x520007 2 n
abbrev ethGateway (n : Nat) : Nat := instKey 0x520008 2 n
abbrev ethVlanEnable (n : Nat) : Nat := instKey 0x520009 2 n
abbrev ethVlanId (n : Nat) : Nat := instKey 0x52000A 2 n
abbrev ethVlanPcp (n : Nat) : Nat := instKey 0x52000B 2 n
abbrev ethRetryCount (n : Nat) : Nat := instKey 0x52000C 2 n
abbrev ethRetryWindow (n : Nat) : Nat := instKey 0x52000D 2 n
abbrev ethsLinkState (n : Nat) : Nat := instKey 0x521001 2 n
abbrev ethsMacAddress (n : Nat) : Nat := instKey 0x521002 2 n
abbrev ethsFramesIn (n : Nat) : Nat := instKey 0x521003 2 n
abbrev ethsFramesOut (n : Nat) : Nat := instKey 0x521004 2 n
abbrev ethsRxDiscarded (n : Nat) : Nat := instKey 0x521005 2 n
abbrev ethsFcsErrors (n : Nat) : Nat := instKey 0x521006 2 n
abbrev ethsFecCorrected (n : Nat) : Nat := instKey 0x521007 2 n
abbrev ethsFecUncorrected (n : Nat) : Nat := instKey 0x521008 2 n
abbrev ethsViewDrops (n : Nat) : Nat := instKey 0x521009 2 n
abbrev ethsPortStatus (n : Nat) : Nat := instKey 0x52100A 2 n
abbrev ethsReadmit (n : Nat) : Nat := instKey 0x52100B 2 n
abbrev ethcCoreRxQueue (n : Nat) : Nat := instKey 0x522001 2 n
abbrev ethcCoreTxQueue (n : Nat) : Nat := instKey 0x522002 2 n
abbrev ethcTxStampQueue (n : Nat) : Nat := instKey 0x522003 2 n
abbrev ethcCorePorts (n i : Nat) : Nat := 0x522004 + 256 * n + i
abbrev pcieLinkSpeed : Nat := 0x540001
abbrev pcieLinkWidth : Nat := 0x540002
abbrev pcieMaxPayload : Nat := 0x540003
abbrev pcieBusMaster : Nat := 0x540004
abbrev pcieBar2Base : Nat := 0x540010
abbrev outbOutboundBase : Nat := 0x540101
abbrev pcieResetCount : Nat := 0x540012
abbrev pcieCplErrors : Nat := 0x540013
abbrev pciePcieStatus : Nat := 0x540014
abbrev fltFatalCode : Nat := 0x160001
abbrev fltFatalTime : Nat := 0x160002
abbrev fltFatalUnit : Nat := 0x160003
abbrev fltFatalData : Nat := 0x160004
abbrev fltLaterFatals : Nat := 0x160005
abbrev fltRetiredCount : Nat := 0x160006
abbrev fltLastRetiredUnit : Nat := 0x160007
abbrev fltTransientCount : Nat := 0x160008
abbrev fltFaultStatus : Nat := 0x160009
abbrev fltSramCorrected : Nat := 0x16000A
abbrev fltLastSramAddress : Nat := 0x16000B
abbrev fltJunctionTemp : Nat := 0x16000C
abbrev fltThermalWarn : Nat := 0x16000D
abbrev fltThermalTrip : Nat := 0x16000E
abbrev wdogWatchdogPeriod : Nat := 0x160201
abbrev wdogWatchdogKick : Nat := 0x160202
abbrev fatalFatalRequest : Nat := 0x160301
abbrev witWitnessRing : Nat := 0x161001
abbrev witNextSequence : Nat := 0x161002
abbrev witFrozen : Nat := 0x161003
abbrev witFreezeCause : Nat := 0x161004
abbrev witFreeze : Nat := 0x161005
abbrev witRelease : Nat := 0x161006
abbrev witDropped : Nat := 0x161007
abbrev witFrozenDrops : Nat := 0x161008
abbrev witMark : Nat := 0x161009
abbrev witReadSequence : Nat := 0x16100A
abbrev witHighMark : Nat := 0x16100B
abbrev witWitnessStatus : Nat := 0x16100C
abbrev gfltRetryCount (n : Nat) : Nat := instKey 0x164001 16 n
abbrev gfltRetryWindow (n : Nat) : Nat := instKey 0x164002 16 n
abbrev gfltGaugeState (n : Nat) : Nat := instKey 0x164003 16 n
abbrev gfltFaultCount (n : Nat) : Nat := instKey 0x164004 16 n
abbrev gfltLastFaultTime (n : Nat) : Nat := instKey 0x164005 16 n
abbrev gfltReadmit (n : Nat) : Nat := instKey 0x164006 16 n
abbrev gfltGaugeFaults (n : Nat) : Nat := instKey 0x164007 16 n
abbrev calCalTable : Nat := 0x180001
abbrev calCalRun : Nat := 0x180002
abbrev calCalRunStatus : Nat := 0x180003
abbrev calDdrTrackPeriod : Nat := 0x180004
abbrev calDdrWindowMin : Nat := 0x180005
abbrev calDdrTrackSteps : Nat := 0x180006
abbrev calCalStatus : Nat := 0x180007
abbrev clkRootPllLocked : Nat := 0x120001
abbrev clkRefclkMeasured : Nat := 0x120002
abbrev clkClockStatus : Nat := 0x120003
abbrev clkPipeClk : Nat := 0x120004
abbrev clkMemClk : Nat := 0x120005
abbrev clkCoreClk : Nat := 0x120006
abbrev clkFabClk : Nat := 0x120007
abbrev clkPerClk : Nat := 0x120008
abbrev rstResetCause : Nat := 0x121001
abbrev rstWarmResets : Nat := 0x121002
abbrev rstResetRequest : Nat := 0x121003
abbrev rstBootSel : Nat := 0x121004
abbrev pwrSleepMask : Nat := 0x122001
abbrev pwrWakeSources : Nat := 0x122002
abbrev pwrWakePin : Nat := 0x122003
abbrev pwrWakeLevel : Nat := 0x122004
abbrev pwrWakeSpeed : Nat := 0x122005
abbrev pwrPowerPhase : Nat := 0x122006
abbrev pwrWakeCause : Nat := 0x122007
abbrev pwrSleeps : Nat := 0x122008
abbrev pwrSleepRefusals : Nat := 0x122009
abbrev pwrSelfRefreshIdle : Nat := 0x12200A
abbrev bootBootSource : Nat := 0x123001
abbrev bootBootStatus : Nat := 0x123002
abbrev bootKeySlotUsed : Nat := 0x123003
abbrev bootImageSecurityVersion : Nat := 0x123004
abbrev bootFusedSecurityVersion : Nat := 0x123005
abbrev bootKeyRevoked : Nat := 0x123006
abbrev bootBootComplete : Nat := 0x123007
abbrev bootBootTime : Nat := 0x123008
abbrev bhostBootHostAddress : Nat := 0x123101
abbrev bhostBootHostLength : Nat := 0x123102
abbrev bhostBootGo : Nat := 0x123103
abbrev fuseAdvanceSecurityVersion : Nat := 0x123201
abbrev fuseRevokeKey : Nat := 0x123202
abbrev coreCoreRelease : Nat := 0x124001
abbrev coreCoreEntry : Nat := 0x124002
abbrev coreCoresRunning : Nat := 0x124003
abbrev taskRoute (i : Nat) : Nat := runKey 0x464000 256 i
abbrev taskOverrun (i : Nat) : Nat := runKey 0x465000 256 i
abbrev taskCoincide (i : Nat) : Nat := runKey 0x466000 256 i
abbrev srcConfig (i : Nat) : Nat := runKey 0x481000 512 i
abbrev srcCount (i : Nat) : Nat := runKey 0x481200 512 i
abbrev dmabDmaBufferFree : Nat := 0x420101

/-- Subindex 0xFF, Commit, of the group with index `idx` (R47). -/
abbrev commit (idx : Nat) : Nat := idx * 256 + 0xFF
/-- Subindex 0xFE, CommitFault. -/
abbrev commitFault (idx : Nat) : Nat := idx * 256 + 0xFE
/-- Subindex 0xFD, Generation. -/
abbrev generation (idx : Nat) : Nat := idx * 256 + 0xFD
/-- Subindex 0xFC, ApplyTime. -/
abbrev applyTime (idx : Nat) : Nat := idx * 256 + 0xFC

end Sys2Proof.Machine.K
end

