-- ==== Sys2Proof/Machine/DomainDefaults.lean ====
section
/-! DEFINITION. What the DOMAIN entries hold at reset (the Default column of their tables), and the sRGB encoding that one
of those defaults and the live views use (R179). -/

namespace Sys2Proof.Machine

/-- Whether round(top × F(x)) is at least `y` > 0, for x = (2 i + 1) / 8,192 and F the IEC 61966-2-1 encoding: with
e = (y − 1/2) / top, e ≤ F(x) is e ≤ 12.92 x on the straight part and ((e + 0.055) / 1.055)^12 ≤ x^5 on the curve. -/
def srgbAtLeast (top i y : Nat) : Bool :=
  if (2 * i + 1) * 10000000 ≤ 31308 * 8192 then
    Nat.ble ((2 * y - 1) * 8192 * 100) (2 * top * 1292 * (2 * i + 1))
  else
    -- e + 0.055 over 1.055, as (1000 (2y - 1) + 110 top) / (2110 top)
    Nat.ble ((1000 * (2 * y - 1) + 110 * top) ^ 12 * 8192 ^ 5) ((2 * i + 1) ^ 5 * (2110 * top) ^ 12)

/-- The greatest y < 2^bits with the property, by halving steps. -/
def srgbSearch (top i : Nat) : Nat → Nat → Nat
  | 0, y => y
  | n + 1, y => if y + 2 ^ n ≤ top ∧ srgbAtLeast top i (y + 2 ^ n) then srgbSearch top i n (y + 2 ^ n) else srgbSearch top i n y

/-- round(top × F((i + 0.5) / 4,096)) (R179). -/
def srgb (top i : Nat) : Nat := srgbSearch top i 12 0

/-- Byte `o` of a little-endian word. -/
def leByte (v o : Nat) : Nat := (v / 256 ^ o) % 256

/-- The byte a DOMAIN holds at reset, by entry and offset. -/
def domDflt (k off : Nat) : Nat :=
  if k = K.noiseBlueNoise then 128
  else if k = K.codCodingCurve then leByte (srgb 4095 (off / 2)) (off % 2)
  else if k = K.segRuleTable then 255
  else if k = K.reflCorrTable then
    let e := off / 2 % 257
    leByte (if e = 256 then 65535 else 256 * e) (off % 2)
  else if K.gbarGlobalCurve 0 ≤ k ∧ k ≤ K.gbarGlobalCurve 15 ∧ k % 256 = 1 then leByte (off / 2) (off % 2)
  else if K.profTempComp 0 ≤ k ∧ k ≤ K.profTempComp 3 ∧ k % 256 = 0x18 then leByte 4096 (off % 2)
  else if K.gbankBankA 0 ≤ k ∧ k ≤ K.gbankBankB 15 then (if off = 3 then 0x40 else 0)
  else if k = K.sklRoleTable then (if off % 16 < 2 then 255 else 0)
  else 0

end Sys2Proof.Machine
end

