-- ==== Sys2Proof/Machine/Events.lean ====
section
/-! DEFINITION. The event numbers of R414 and the two catalogues of R415. Within a block's range numbers run in the row
order of the block's event table; within a row, each name in turn and its instances in ascending order. -/

namespace Sys2Proof.Machine

namespace Ev

/-- DEV_STATE -/
abbrev devState : Nat := 0x000
/-- DICT_ERROR -/
abbrev dictError : Nat := 0x001
/-- DICT_DOMAIN_DONE -/
abbrev dictDomainDone : Nat := 0x002
/-- PWR_STANDBY -/
abbrev pwrStandby : Nat := 0x00C
/-- PWR_WAKE -/
abbrev pwrWake : Nat := 0x00D
/-- CLK_REFCLK_BAD -/
abbrev clkRefclkBad : Nat := 0x00E
/-- FLT_FATAL -/
abbrev fltFatal : Nat := 0x010
/-- FLT_RETIRED -/
abbrev fltRetired : Nat := 0x011
/-- FLT_TRANSIENT -/
abbrev fltTransient : Nat := 0x012
/-- FLT_CAL_DONE -/
abbrev fltCalDone : Nat := 0x013
/-- FLT_CAL_FAIL -/
abbrev fltCalFail : Nat := 0x014
/-- FLT_WIT_FROZEN -/
abbrev fltWitFrozen : Nat := 0x015
/-- FLT_WIT_HIGH -/
abbrev fltWitHigh : Nat := 0x016
/-- FLT_WDOG_WARN -/
abbrev fltWdogWarn : Nat := 0x017
/-- TIME_PPS -/
abbrev timePps : Nat := 0x018
/-- TIME_ALARMn -/
abbrev timeAlarm (n : Nat) : Nat := 0x019 + n
/-- TIME_STATE -/
abbrev timeState : Nat := 0x01D
/-- TIME_STEP -/
abbrev timeStep : Nat := 0x01E
/-- WHLn_INDEX -/
abbrev whlIndex (n : Nat) : Nat := 0x020 + n
/-- WHLn_INDEX_MISMATCH -/
abbrev whlIndexMismatch (n : Nat) : Nat := 0x024 + n
/-- WHLn_REVERSE -/
abbrev whlReverse (n : Nat) : Nat := 0x028 + n
/-- WHLn_FAULT -/
abbrev whlFault (n : Nat) : Nat := 0x02C + n
/-- WHLc_CMPm -/
abbrev whlCmp (n : Nat) : Nat := 0x030 + n
/-- WHLn_CMP_STATUS -/
abbrev whlCmpStatus (n : Nat) : Nat := 0x040 + n
/-- WHL_CTRIGn -/
abbrev whlCtrig (n : Nat) : Nat := 0x044 + n
/-- WHL_RTRIGn -/
abbrev whlRtrig (n : Nat) : Nat := 0x050 + n
/-- PROBEn_LATCH -/
abbrev probeLatch (n : Nat) : Nat := 0x060 + n
/-- PROBEn_OVERFLOW -/
abbrev probeOverflow (n : Nat) : Nat := 0x068 + n
/-- WHL_SWITCHOVER -/
abbrev whlSwitchover : Nat := 0x070
/-- WHL_STOP_REQ -/
abbrev whlStopReq : Nat := 0x071
/-- WHL_CROSSCHECK -/
abbrev whlCrosscheck : Nat := 0x072
/-- CAMn_PRESENT -/
abbrev camPresent (n : Nat) : Nat := 0x080 + n
/-- CAMn_BAND_END -/
abbrev camBandEnd (n : Nat) : Nat := 0x08C + n
/-- CAMn_BAND_DROPPED -/
abbrev camBandDropped (n : Nat) : Nat := 0x098 + n
/-- CAMn_LINK_LOST -/
abbrev camLinkLost (n : Nat) : Nat := 0x0A4 + n
/-- CAMn_RELOCKED -/
abbrev camRelocked (n : Nat) : Nat := 0x0B0 + n
/-- CAMn_RETIRED -/
abbrev camRetired (n : Nat) : Nat := 0x0BC + n
/-- CAMn_TUNNEL_DONE -/
abbrev camTunnelDone (n : Nat) : Nat := 0x0C8 + n
/-- PRSn_APPLY -/
abbrev prsApply (n : Nat) : Nat := 0x0E0 + n
/-- PRSn_BAND_DONE -/
abbrev prsBandDone (n : Nat) : Nat := 0x0EC + n
/-- PRSn_SHAPE -/
abbrev prsShape (n : Nat) : Nat := 0x0F8 + n
/-- PRSn_REPLAY_END -/
abbrev prsReplayEnd (n : Nat) : Nat := 0x104 + n
/-- SEAM_MISSING -/
abbrev seamMissing : Nat := 0x110
/-- SEAM_WAIT_FORCED -/
abbrev seamWaitForced : Nat := 0x111
/-- SEAM_RECORD -/
abbrev seamRecord : Nat := 0x112
/-- COD_CHUNK -/
abbrev codChunk : Nat := 0x113
/-- COD_OVERRUN -/
abbrev codOverrun : Nat := 0x114
/-- WINn_DONE -/
abbrev winDone (n : Nat) : Nat := 0x115 + n
/-- LNTn_FRAME -/
abbrev lntFrame (n : Nat) : Nat := 0x117 + n
/-- LNTn_SKIP -/
abbrev lntSkip (n : Nat) : Nat := 0x11F + n
/-- UMB_TAG -/
abbrev umbTag : Nat := 0x130
/-- UMB_REJECT -/
abbrev umbReject : Nat := 0x131
/-- UMB_MARK -/
abbrev umbMark : Nat := 0x132
/-- UMB_OPEN_FULL -/
abbrev umbOpenFull : Nat := 0x133
/-- UMB_REF_LATE -/
abbrev umbRefLate : Nat := 0x134
/-- UMB_CROP_DONE -/
abbrev umbCropDone : Nat := 0x135
/-- UMB_CRAZE_FOUND -/
abbrev umbCrazeFound : Nat := 0x136
/-- UMB_APPLY -/
abbrev umbApply : Nat := 0x137
/-- SLIP_REPEAT -/
abbrev slipRepeat : Nat := 0x140
/-- SLIP_JOB_END -/
abbrev slipJobEnd : Nat := 0x141
/-- SLIP_UNDERRUN -/
abbrev slipUnderrun : Nat := 0x142
/-- SLIP_VAR_EMPTY -/
abbrev slipVarEmpty : Nat := 0x143
/-- SLIP_PLATE_ERROR -/
abbrev slipPlateError : Nat := 0x144
/-- GLZ_APPLY -/
abbrev glzApply : Nat := 0x145
/-- GLZ_MASK -/
abbrev glzMask : Nat := 0x146
/-- KLN_FIREn -/
abbrev klnFire (n : Nat) : Nat := 0x150 + n
/-- KLN_SKIPn -/
abbrev klnSkip (n : Nat) : Nat := 0x160 + n
/-- KLN_SPEED_LIMIT -/
abbrev klnSpeedLimit : Nat := 0x170
/-- KLN_SPEED_OK -/
abbrev klnSpeedOk : Nat := 0x171
/-- KLN_SCAN_DONE -/
abbrev klnScanDone : Nat := 0x172
/-- KPn_STROBE_CUT -/
abbrev kpStrobeCut (n : Nat) : Nat := 0x173 + n
/-- KPn_HEAD_RETIRED -/
abbrev kpHeadRetired (n : Nat) : Nat := 0x193 + n
/-- KPn_RETIRED -/
abbrev kpRetired (n : Nat) : Nat := 0x1B3 + n
/-- KPn_HEAD_READY -/
abbrev kpHeadReady (n : Nat) : Nat := 0x1D3 + n
/-- GA_SYNC -/
abbrev gaSync : Nat := 0x200
/-- GAn_FADE_DONE -/
abbrev gaFadeDone (n : Nat) : Nat := 0x201 + n
/-- GAn_CAL_DONE -/
abbrev gaCalDone (n : Nat) : Nat := 0x211 + n
/-- LOOP_FOLD -/
abbrev loopFold : Nat := 0x240
/-- LOOP_STATE -/
abbrev loopState : Nat := 0x241
/-- LOOP_HOLD -/
abbrev loopHold : Nat := 0x242
/-- LOOP_FROZEN -/
abbrev loopFrozen : Nat := 0x243
/-- LOOP_LAMP -/
abbrev loopLamp : Nat := 0x244
/-- LOOP_REG -/
abbrev loopReg : Nat := 0x245
/-- MEM_MAP_ERROR -/
abbrev memMapError : Nat := 0x250
/-- MEM_ECC_CORRECTED -/
abbrev memEccCorrected : Nat := 0x251
/-- Qn_FLUSH -/
abbrev qFlush (n : Nat) : Nat := 0x252 + n
/-- Q_SIZE_ERROR -/
abbrev qSizeError : Nat := 0x292
/-- DMAn_DONE -/
abbrev dmaDone (n : Nat) : Nat := 0x293 + n
/-- DMAn_ERROR -/
abbrev dmaError (n : Nat) : Nat := 0x2B3 + n
/-- ZEn_DONE -/
abbrev zeDone (n : Nat) : Nat := 0x2E0 + n
/-- ZEn_ERROR -/
abbrev zeError (n : Nat) : Nat := 0x2E6 + n
/-- ZEn_VERIFY_FAIL -/
abbrev zeVerifyFail (n : Nat) : Nat := 0x2EC + n
/-- LNK_RECVn -/
abbrev lnkRecv (n : Nat) : Nat := 0x300 + n
/-- LNKn_UP -/
abbrev lnkUp (n : Nat) : Nat := 0x320 + n
/-- LNKn_DOWN -/
abbrev lnkDown (n : Nat) : Nat := 0x322 + n
/-- LNKn_LANE_RETIRED -/
abbrev lnkLaneRetired (n : Nat) : Nat := 0x324 + n
/-- LNKn_FALLBACK -/
abbrev lnkFallback (n : Nat) : Nat := 0x326 + n
/-- LNKn_SLEEP -/
abbrev lnkSleep (n : Nat) : Nat := 0x328 + n
/-- LNKn_WAKE -/
abbrev lnkWake (n : Nat) : Nat := 0x32A + n
/-- LNK_PROMOTED -/
abbrev lnkPromoted : Nat := 0x32C
/-- LNK_EPOCH -/
abbrev lnkEpoch : Nat := 0x32D
/-- LNK_ROLE_LOST -/
abbrev lnkRoleLost : Nat := 0x32E
/-- LNK_DICT_DONE -/
abbrev lnkDictDone : Nat := 0x32F
/-- ETHn_LINK_UP -/
abbrev ethLinkUp (n : Nat) : Nat := 0x340 + n
/-- ETHn_LINK_DOWN -/
abbrev ethLinkDown (n : Nat) : Nat := 0x342 + n
/-- ETHn_RETIRED -/
abbrev ethRetired (n : Nat) : Nat := 0x344 + n
/-- ETHn_TX_STAMP -/
abbrev ethTxStamp (n : Nat) : Nat := 0x346 + n
/-- PCIE_LINK_UP -/
abbrev pcieLinkUp : Nat := 0x348
/-- PCIE_LINK_DOWN -/
abbrev pcieLinkDown : Nat := 0x349
/-- PCIE_RESET -/
abbrev pcieReset : Nat := 0x34A

end Ev

/-- A run of catalogue records: first number, how many, the name before and after the instance, the first instance (`none`
for a name without one), and FIXED_ROUTE. -/
structure CatRow where
  first : Nat
  count : Nat
  pre : String
  suf : String
  inst : Option Nat
  fixedRoute : Bool
deriving DecidableEq, Repr

/-- The events of R414, in ascending number. -/
def eventRows : List CatRow := [
  ⟨0x000, 1, "DEV_STATE", "", none, false⟩,
  ⟨0x001, 1, "DICT_ERROR", "", none, false⟩,
  ⟨0x002, 1, "DICT_DOMAIN_DONE", "", none, false⟩,
  ⟨0x00C, 1, "PWR_STANDBY", "", none, false⟩,
  ⟨0x00D, 1, "PWR_WAKE", "", none, false⟩,
  ⟨0x00E, 1, "CLK_REFCLK_BAD", "", none, false⟩,
  ⟨0x010, 1, "FLT_FATAL", "", none, false⟩,
  ⟨0x011, 1, "FLT_RETIRED", "", none, false⟩,
  ⟨0x012, 1, "FLT_TRANSIENT", "", none, false⟩,
  ⟨0x013, 1, "FLT_CAL_DONE", "", none, false⟩,
  ⟨0x014, 1, "FLT_CAL_FAIL", "", none, false⟩,
  ⟨0x015, 1, "FLT_WIT_FROZEN", "", none, false⟩,
  ⟨0x016, 1, "FLT_WIT_HIGH", "", none, false⟩,
  ⟨0x017, 1, "FLT_WDOG_WARN", "", none, false⟩,
  ⟨0x018, 1, "TIME_PPS", "", none, false⟩,
  ⟨0x019, 4, "TIME_ALARM", "", some 0, false⟩,
  ⟨0x01D, 1, "TIME_STATE", "", none, false⟩,
  ⟨0x01E, 1, "TIME_STEP", "", none, false⟩,
  ⟨0x020, 4, "WHL", "_INDEX", some 0, false⟩,
  ⟨0x024, 4, "WHL", "_INDEX_MISMATCH", some 0, false⟩,
  ⟨0x028, 4, "WHL", "_REVERSE", some 0, false⟩,
  ⟨0x02C, 4, "WHL", "_FAULT", some 0, false⟩,
  ⟨0x030, 4, "WHL0_CMP", "", some 0, false⟩,
  ⟨0x034, 4, "WHL1_CMP", "", some 4, false⟩,
  ⟨0x038, 4, "WHL2_CMP", "", some 8, false⟩,
  ⟨0x03C, 4, "WHL3_CMP", "", some 12, false⟩,
  ⟨0x040, 4, "WHL", "_CMP_STATUS", some 0, false⟩,
  ⟨0x044, 12, "WHL_CTRIG", "", some 0, true⟩,
  ⟨0x050, 16, "WHL_RTRIG", "", some 0, true⟩,
  ⟨0x060, 8, "PROBE", "_LATCH", some 0, false⟩,
  ⟨0x068, 8, "PROBE", "_OVERFLOW", some 0, false⟩,
  ⟨0x070, 1, "WHL_SWITCHOVER", "", none, false⟩,
  ⟨0x071, 1, "WHL_STOP_REQ", "", none, true⟩,
  ⟨0x072, 1, "WHL_CROSSCHECK", "", none, false⟩,
  ⟨0x080, 12, "CAM", "_PRESENT", some 0, false⟩,
  ⟨0x08C, 12, "CAM", "_BAND_END", some 0, false⟩,
  ⟨0x098, 12, "CAM", "_BAND_DROPPED", some 0, false⟩,
  ⟨0x0A4, 12, "CAM", "_LINK_LOST", some 0, false⟩,
  ⟨0x0B0, 12, "CAM", "_RELOCKED", some 0, false⟩,
  ⟨0x0BC, 12, "CAM", "_RETIRED", some 0, false⟩,
  ⟨0x0C8, 12, "CAM", "_TUNNEL_DONE", some 0, false⟩,
  ⟨0x0E0, 12, "PRS", "_APPLY", some 0, false⟩,
  ⟨0x0EC, 12, "PRS", "_BAND_DONE", some 0, false⟩,
  ⟨0x0F8, 12, "PRS", "_SHAPE", some 0, false⟩,
  ⟨0x104, 12, "PRS", "_REPLAY_END", some 0, false⟩,
  ⟨0x110, 1, "SEAM_MISSING", "", none, false⟩,
  ⟨0x111, 1, "SEAM_WAIT_FORCED", "", none, false⟩,
  ⟨0x112, 1, "SEAM_RECORD", "", none, false⟩,
  ⟨0x113, 1, "COD_CHUNK", "", none, false⟩,
  ⟨0x114, 1, "COD_OVERRUN", "", none, false⟩,
  ⟨0x115, 2, "WIN", "_DONE", some 0, false⟩,
  ⟨0x117, 8, "LNT", "_FRAME", some 0, false⟩,
  ⟨0x11F, 8, "LNT", "_SKIP", some 0, false⟩,
  ⟨0x130, 1, "UMB_TAG", "", none, false⟩,
  ⟨0x131, 1, "UMB_REJECT", "", none, false⟩,
  ⟨0x132, 1, "UMB_MARK", "", none, false⟩,
  ⟨0x133, 1, "UMB_OPEN_FULL", "", none, false⟩,
  ⟨0x134, 1, "UMB_REF_LATE", "", none, false⟩,
  ⟨0x135, 1, "UMB_CROP_DONE", "", none, false⟩,
  ⟨0x136, 1, "UMB_CRAZE_FOUND", "", none, false⟩,
  ⟨0x137, 1, "UMB_APPLY", "", none, false⟩,
  ⟨0x140, 1, "SLIP_REPEAT", "", none, false⟩,
  ⟨0x141, 1, "SLIP_JOB_END", "", none, false⟩,
  ⟨0x142, 1, "SLIP_UNDERRUN", "", none, false⟩,
  ⟨0x143, 1, "SLIP_VAR_EMPTY", "", none, false⟩,
  ⟨0x144, 1, "SLIP_PLATE_ERROR", "", none, false⟩,
  ⟨0x145, 1, "GLZ_APPLY", "", none, false⟩,
  ⟨0x146, 1, "GLZ_MASK", "", none, false⟩,
  ⟨0x150, 16, "KLN_FIRE", "", some 0, false⟩,
  ⟨0x160, 16, "KLN_SKIP", "", some 0, false⟩,
  ⟨0x170, 1, "KLN_SPEED_LIMIT", "", none, false⟩,
  ⟨0x171, 1, "KLN_SPEED_OK", "", none, false⟩,
  ⟨0x172, 1, "KLN_SCAN_DONE", "", none, false⟩,
  ⟨0x173, 32, "KP", "_STROBE_CUT", some 0, false⟩,
  ⟨0x193, 32, "KP", "_HEAD_RETIRED", some 0, false⟩,
  ⟨0x1B3, 32, "KP", "_RETIRED", some 0, false⟩,
  ⟨0x1D3, 32, "KP", "_HEAD_READY", some 0, false⟩,
  ⟨0x200, 1, "GA_SYNC", "", none, false⟩,
  ⟨0x201, 16, "GA", "_FADE_DONE", some 0, false⟩,
  ⟨0x211, 16, "GA", "_CAL_DONE", some 0, false⟩,
  ⟨0x240, 1, "LOOP_FOLD", "", none, false⟩,
  ⟨0x241, 1, "LOOP_STATE", "", none, false⟩,
  ⟨0x242, 1, "LOOP_HOLD", "", none, false⟩,
  ⟨0x243, 1, "LOOP_FROZEN", "", none, false⟩,
  ⟨0x244, 1, "LOOP_LAMP", "", none, false⟩,
  ⟨0x245, 1, "LOOP_REG", "", none, false⟩,
  ⟨0x250, 1, "MEM_MAP_ERROR", "", none, false⟩,
  ⟨0x251, 1, "MEM_ECC_CORRECTED", "", none, false⟩,
  ⟨0x252, 64, "Q", "_FLUSH", some 0, false⟩,
  ⟨0x292, 1, "Q_SIZE_ERROR", "", none, false⟩,
  ⟨0x293, 32, "DMA", "_DONE", some 0, false⟩,
  ⟨0x2B3, 32, "DMA", "_ERROR", some 0, false⟩,
  ⟨0x2E0, 6, "ZE", "_DONE", some 0, false⟩,
  ⟨0x2E6, 6, "ZE", "_ERROR", some 0, false⟩,
  ⟨0x2EC, 6, "ZE", "_VERIFY_FAIL", some 0, false⟩,
  ⟨0x300, 32, "LNK_RECV", "", some 0, false⟩,
  ⟨0x320, 2, "LNK", "_UP", some 0, false⟩,
  ⟨0x322, 2, "LNK", "_DOWN", some 0, false⟩,
  ⟨0x324, 2, "LNK", "_LANE_RETIRED", some 0, false⟩,
  ⟨0x326, 2, "LNK", "_FALLBACK", some 0, false⟩,
  ⟨0x328, 2, "LNK", "_SLEEP", some 0, false⟩,
  ⟨0x32A, 2, "LNK", "_WAKE", some 0, false⟩,
  ⟨0x32C, 1, "LNK_PROMOTED", "", none, false⟩,
  ⟨0x32D, 1, "LNK_EPOCH", "", none, false⟩,
  ⟨0x32E, 1, "LNK_ROLE_LOST", "", none, false⟩,
  ⟨0x32F, 1, "LNK_DICT_DONE", "", none, false⟩,
  ⟨0x340, 2, "ETH", "_LINK_UP", some 0, false⟩,
  ⟨0x342, 2, "ETH", "_LINK_DOWN", some 0, false⟩,
  ⟨0x344, 2, "ETH", "_RETIRED", some 0, false⟩,
  ⟨0x346, 2, "ETH", "_TX_STAMP", some 0, false⟩,
  ⟨0x348, 1, "PCIE_LINK_UP", "", none, false⟩,
  ⟨0x349, 1, "PCIE_LINK_DOWN", "", none, false⟩,
  ⟨0x34A, 1, "PCIE_RESET", "", none, false⟩]

/-- The task inputs of R415 and R499. -/
def taskRows : List CatRow := [
  ⟨0, 1, "DEV_STOP", "", none, true⟩,
  ⟨1, 1, "GA_SYNC_REQ", "", none, false⟩,
  ⟨2, 2, "WIN", "_START", some 0, false⟩,
  ⟨32, 32, "LNK_SEND", "", some 0, false⟩,
  ⟨64, 4, "TIME_CAPTURE", "", some 0, false⟩]

/-- The bytes of a name. -/
def nameBytes (n : String) : List Nat := n.toList.map Char.toNat

/-- One 32-byte catalogue record (R415). -/
def catRecord (kind : Nat) (r : CatRow) (i : Nat) : List Nat :=
  leBytes 2 (r.first + i) ++ [kind, if r.fixedRoute then 1 else 0] ++
  padTo 28 (match r.inst with
    | none => nameBytes r.pre
    | some j => nameBytes (r.pre ++ toString (j + i) ++ r.suf))

/-- The bytes of a catalogue. -/
def catalogue (kind : Nat) (rows : List CatRow) : List Nat :=
  rows.flatMap fun r => (List.range r.count).flatMap (catRecord kind r)

/-- Whether an event number is in the catalogue (R419). -/
def eventListed (n : Nat) : Bool := eventRows.any fun r => Nat.ble r.first n && Nat.blt n (r.first + r.count)

/-- Whether a task number is in the catalogue (R415). -/
def taskListed (n : Nat) : Bool := taskRows.any fun r => Nat.ble r.first n && Nat.blt n (r.first + r.count)

end Sys2Proof.Machine
end

