-- ==== Sys2Proof/Machine/Blocks.lean ====
section
/-! DEFINITION. The records that hold what the spec gives the machine beside its dictionary entries: what a block holds
between two commands. Each record says which rules name what it holds. A number is an index, a count, a raw word or a
FABCLK stamp (the value of the time counter C of R488). -/

namespace Sys2Proof.Machine

/-! ### Events, interrupts and the Witness -/

/-- An event raised and not yet delivered (R417), with the routes in force when it was raised (R419): the channels whose
source it is, and the task inputs that name one of them, each with how many of its two channels do. -/
structure Raised where
  num : Nat
  lineage : Nat
  stamp : Nat
  chans : List Nat
  hits : List (Nat × Nat)
deriving DecidableEq, Repr

/-- A delivery standing at a task input (R415, R417). -/
structure Delivery where
  task : Nat
  lineage : Nat
  stamp : Nat
deriving DecidableEq, Repr

/-- An entry in the Witness's 32-deep input buffer (R524). `last` marks the entries of a fatal fault. -/
structure WReq where
  kind : Nat
  unit : Nat
  lineage : Nat
  d0 : Nat
  d1 : Nat
  time : Nat
  stamp : Nat
  last : Bool
deriving DecidableEq, Repr

/-- An entry of the Witness ring (R521). -/
structure WEntry where
  seq : Nat
  kind : Nat
  unit : Nat
  time : Nat
  lineage : Nat
  gap : Bool
  d0 : Nat
  d1 : Nat
deriving DecidableEq, Repr

/-- The MSI-X side of the host target (R432): enable, function mask, one mask and one pending bit per vector, whether the
target waits for the host, and the messages sent, oldest first. -/
structure Msix where
  enabled : Bool := false
  funcMask : Bool := false
  vecMask : Nat := 2 ^ 64 - 1
  pba : Nat := 0
  waiting : Bool := false
  sent : List Nat := []
deriving DecidableEq, Repr

/-! ### The dictionary engine -/

/-- Sherds a group holds: of its live set, and of a pending commit (R367). -/
structure Sherds where
  live : Nat
  pend : Nat
deriving DecidableEq, Repr

/-- A domain transfer in progress (R54). -/
structure Xfer where
  entry : Nat
  offset : Nat
  length : Nat
  addr : Nat
  write : Bool
deriving DecidableEq, Repr

/-- A UDP session (R58, R59): its state (0 none, 1 challenged, 2 open), nonces, key, the last accepted sequence and the
stored response, when it was last heard, and the client's port and address. -/
structure Sess where
  state : Nat := 0
  auth : Bool := false
  cNonce : List Nat := []
  dNonce : List Nat := []
  key : List Nat := []
  started : Bool := false
  lastSeq : Nat := 0
  lastResp : List Nat := []
  heard : Nat := 0
  eth : Nat := 0
  addr : Nat := 0
  udpPort : Nat := 0
deriving DecidableEq, Repr

/-- Bytes that leave the device toward the host (PCIe writes). -/
structure HostWrite where
  addr : Nat
  bytes : List Nat
deriving DecidableEq, Repr

/-- A UDP payload that leaves an Ethernet port. -/
structure UdpOut where
  eth : Nat
  addr : Nat
  udpPort : Nat
  src : Nat := 0
  bytes : List Nat
deriving DecidableEq, Repr

/-- The HOST challenge (R45): the value in force, the failed proofs in a row, and the end of a lockout. -/
structure Chal where
  value : Option Nat := none
  failed : Nat := 0
  lockedUntil : Option Nat := none
deriving DecidableEq, Repr

/-! ### Resets, boot, power and the cores -/

/-- The one-time fuses (R1, R3, R543): key hashes by slot, revocation bits, the thermometer version, and a burn in
progress (kind 0 version, 1 revocation; the value; when it ends at the latest). -/
structure Burn where
  revoke : Bool
  value : Nat
  due : Nat
deriving DecidableEq, Repr

structure Fuses where
  keyHash : Tab Nat
  revoked : Nat
  version : Nat
  burn : Option Burn
deriving DecidableEq, Repr

/-- Where the boot sequencer stands (R539, R540). -/
inductive BootPhase where
  /-- not booting -/
  | idle
  /-- waiting for a header and configuration to be read -/
  | header
  /-- PCIe boot: waiting for BootGo -/
  | waitHost
  /-- training or verifying the used DRAM channels -/
  | training
  /-- zeroing DRAM -/
  | zeroing
  /-- loading the payload -/
  | payload
  /-- an image is accepted -/
  | accepted
  /-- boot has ended in a failure -/
  | failed
deriving DecidableEq, Repr

/-- The boot sequencer (R539 to R545): the sources still to try, the first 4 KiB of the image in hand, the DRAM fields the
channels were last trained with, whether this boot follows a warm reset, whether an image is accepted, and the PCIe
subsystem identifiers (R542). -/
structure Boot where
  phase : BootPhase := .idle
  sources : List Nat := []
  image : List Nat := []
  trained : Option (List Nat) := none
  warm : Bool := false
  accepted : Bool := false
  subsysVendor : Nat := 0
  subsysId : Nat := 0
deriving DecidableEq, Repr

/-- Standby (R547 to R549): the domains still to move in the present phase, the moment the next one is done, a latched
wake (its WakeCause code), and when TIME_ALARM0 last fired as an enabled wake source. -/
structure Power where
  todo : List Nat := []
  due : Nat := 0
  latched : Option Nat := none
  alarm : Option Nat := none
deriving DecidableEq, Repr

/-- The watchdog: the moment of the last restart and whether the warning was given (R511). -/
structure Wdog where
  since : Nat := 0
  warned : Bool := false
  expired : Bool := false
deriving DecidableEq, Repr

/-- A calibration record (R519); `has` says that a set of taps is in force (R514). -/
structure CalRec where
  has : Bool := false
  result : Nat := 0
  reason : Nat := 0
  count : Nat := 0
  fails : Nat := 0
  margin : Nat := 0
  limit : Nat := 0
  lastRun : Nat := 0
  lastPass : Nat := 0
deriving DecidableEq, Repr

/-! ### Memory, queues and DMA -/

/-- An item held in a queue, with the moment its write completed. -/
structure QItem where
  bytes : List Nat
  stamp : Nat
deriving DecidableEq, Repr

/-- One bank of a queue: slots used since it was last free, and the items not yet consumed (R369). -/
structure Bank where
  used : Nat := 0
  items : List QItem := []
deriving DecidableEq, Repr

/-- A hardware queue: the bank the producers fill and the other one. -/
structure Que where
  cur : Bank := {}
  oth : Bank := {}
deriving DecidableEq, Repr

/-- A core's request waiting for a DRAM channel (R363). -/
structure DramReq where
  port : Nat
  hart : Nat
  write : Bool
  addr : Nat
  len : Nat
  bytes : List Nat
  stamp : Nat
deriving DecidableEq, Repr

/-- A DRAM channel's own state (R360, R361, R363, R516): the requests waiting, oldest first; the port last granted at each
priority; when its last refresh and last request were; each byte lane's tracking distance from its trained tap; whether the last
temperature read failed, and whether the readings call for double refresh. -/
structure DramCh where
  wait : List DramReq := []
  last : Tab Nat := []
  refreshed : Nat := 0
  busy : Nat := 0
  moved : Tab Int := []
  tempFail : Bool := false
  hot : Bool := false
deriving DecidableEq, Repr

/-- A DMA channel's descriptor in hand (R374 to R380). `burst` is 0 when no burst runs, 1 for a burst to LowMark and 2 for
a burst until the queue is empty. -/
structure Dma where
  ctrl : Nat := 0
  length : Nat := 0
  src : Nat := 0
  dst : Nat := 0
  next : Nat := 0
  moved : Nat := 0
  burst : Nat := 0
  haltedOnError : Bool := false
deriving DecidableEq, Repr

/-! ### The Wheel (R64 to R98) -/

/-- An encoder input: its level at the ball and since when, the accepted level, and the first sample of the transition last
accepted (R65). -/
structure EncPin where
  level : Bool := false
  since : Nat := 0
  acc : Bool := false
  accAt : Option Nat := none
deriving DecidableEq, Repr

/-- An encoder channel. Positions are in 2^−32 POS. `acc` is the accumulator of R70; `te` the moment its position belongs
to (R73); `last`, `lastK` and `interval` the last count, how many counts it was, and the time since the count before it where
that had the same direction (R71, R72); `log` the counts in the speed window; `smooth` the smoothed speed at `smoothAt`;
`hold` a held position and its end, `still` a last frame that gave no counts (R73); `ref` the last serial position (R68); `homed`, `armed` and `run` the index checks
(R77 to R80). -/
structure Enc where
  a : EncPin := {}
  b : EncPin := {}
  z : EncPin := {}
  acc : Int := 0
  te : Nat := 0
  last : Option Nat := none
  lastK : Int := 0
  interval : Option Nat := none
  log : List (Nat × Int) := []
  smooth : Int := 0
  smoothAt : Nat := 0
  stalled : Bool := false
  hold : Option (Int × Nat) := none
  still : Bool := false
  ref : Option Nat := none
  frameAt : Option Nat := none
  framed : Option Nat := none
  homed : Bool := false
  armed : Bool := false
  run : Nat := 0
deriving DecidableEq, Repr

/-- The web position's own state (R83 to R87): the offset fixed at a switchover, the frozen position, the cross-check
reference, the last POS message of the peer (position and speed in 2^−32 POS, device time in 2^−16 ns, FABCLK of receipt) and
a hold, and whether the next POS message carries LINE_START (R459). -/
structure Wheel where
  offset : Int := 0
  frozen : Option Int := none
  crossRef : Int := 0
  crossOut : Bool := false
  got : Bool := false
  lost : Bool := false
  remP : Int := 0
  remV : Int := 0
  remT : Nat := 0
  remAt : Nat := 0
  remHold : Option (Int × Nat) := none
  lineStart : Bool := false
  sentAt : Nat := 0
deriving DecidableEq, Repr

/-- A trigger generator (R95 to R97): the grid's anchor (T in 2^−32 POS at index `baseK`), the next index, a trigger held
under MinPeriod with the moment it may go, the moment of the last trigger, whether the next grid point was passed with the
last, and the position up to which grid points are late. -/
structure Gen where
  run : Bool := false
  baseT : Int := 0
  baseK : Int := 0
  next : Int := 0
  held : Option (Int × Nat) := none
  lastAt : Option Nat := none
  bunch : Bool := false
  lateTo : Option Int := none
deriving DecidableEq, Repr

/-- A trigger on its fixed route (R416): generator (0 to 11 cameras, 12 to 27 bars), k, T in 2^−32 POS, and when it was
raised. -/
structure Trig where
  gen : Nat
  k : Int
  t : Int
  stamp : Nat
deriving DecidableEq, Repr

/-- Where a compare unit's value stands. -/
inductive CmpPhase where
  /-- no value to fire at -/
  | idle
  /-- a value has just become live and is checked at the next FABCLK (R90) -/
  | check
  /-- the value lies ahead -/
  | armed
deriving DecidableEq, Repr

/-- A compare unit (R89 to R92): the phase of its value, when it is next acted on, whether a rotary value has been crossed,
the firings an index correction owes (R78), the value queue, and the end of a running pulse. -/
structure Cmp where
  phase : CmpPhase := .idle
  at_ : Nat := 0
  due : Bool := false
  owed : Nat := 0
  queue : List Int := []
  pulse : Option Nat := none
deriving DecidableEq, Repr

/-- A probe entry (R88). -/
structure ProbeEntry where
  pos : Int
  rotary : Nat
  time : Nat
  edge : Nat
deriving DecidableEq, Repr

/-- A Mirror output (R98): the quadrature phase, the counts toward the next divided step, the last emulated grid index, the
steps held back (signed), and the moment of the last step. -/
structure Mir where
  phase : Nat := 0
  acc : Int := 0
  grid : Int := 0
  lag : Int := 0
  lastAt : Option Nat := none
deriving DecidableEq, Repr

/-! ### Camera channels (R108 to R125, R583) -/

/-- A trigger at a camera channel (R113 to R115): k, T_k in 2^−32 POS, the device time WHL_CTRIGn was raised at, and a FABCLK
stamp: of its arrival, or of its listing. -/
structure CamTrig where
  k : Int
  t : Int
  time : Nat
  stamp : Nat
deriving DecidableEq, Repr

/-- An accepted line in a channel's input FIFO (R117): its samples as 16-bit words, and the moment it was complete. -/
structure CLine where
  k : Int
  t : Int
  time : Nat
  band : Int
  data : List Nat
  stamp : Nat
deriving DecidableEq, Repr

/-- A band of a camera channel that has started and whose record is not yet written (R119, R147, R180 to R182): its first and
last k, whether it takes lines, its flags, the triggers raised whose lines are neither accepted nor dropped, the last k raised
or used up, the lines accepted that have not left the pipe, the lines the Seam unit has still to emit or discard, and what is
measured: per zone SumLevel, SumGrad and SumLap. -/
structure Band where
  b : Int
  k0 : Int
  k1 : Int
  opened : Bool
  dropped : Bool := false
  mixed : Bool := false
  camGen : Nat := 0
  waiting : Nat := 0
  last : Int
  ended : Bool := false
  piped : Nat := 0
  seam : Nat := 0
  firstK : Option Int := none
  lastK : Int := 0
  startT : Int := 0
  startTime : Nat := 0
  lines : Nat := 0
  sat : Nat := 0
  mismatch : Bool := false
  replay : Bool := false
  prismGen : Nat := 0
  lampGen : Nat := 0
  late : Nat := 0
  zones : List (Nat × Nat × Nat) := []
  width : Nat := 0
  closed : Option Nat := none
deriving DecidableEq, Repr

/-- A camera channel between two commands: character lock on the master link, and whether discovery starts when it is found whatever PlugMode says (R111), the
discovery phase (1 Hunt, 2 Query, 4 Train) and its start, the trigger being sent with the start of its packet, the trigger
held, the triggers listed, the moments lines became owed, the band numbering (first k, number and length in force), the last
band started, the bands, the input FIFO, the last accepted line's band and stream line count, the start of RELOCK, a settings
write not yet in a generation (R125), a grid that differed at the last band start (R161), and the control tunnel's transfer (R124). -/
structure Cam where
  lock : Bool := false
  eager : Bool := false
  phase : Nat := 0
  phaseAt : Nat := 0
  sending : Option CamTrig := none
  started : Option Nat := none
  held : Option CamTrig := none
  list : List CamTrig := []
  owed : List Nat := []
  baseK : Int := 0
  baseB : Int := 0
  baseL : Nat := 1024
  cur : Option Int := none
  bands : List Band := []
  fifo : List CLine := []
  lastLine : Option (Int × Nat) := none
  relockAt : Nat := 0
  settings : Bool := false
  gridBad : Bool := false
  tunOff : Nat := 0
  tunWaits : Nat := 0
  tunAt : Nat := 0
  tunRead : List Nat := []
  tunAddr : Nat := 0
  tunLen : Nat := 0
  tunWrite : Bool := false
  tunSet : Bool := false
  tunData : List Nat := []
deriving DecidableEq, Repr

/-- A packet the device has begun on an uplink: channel, and for a trigger packet its k and delay field in FABCLK; for a control
command none, with the camera address, direction and bytes (R113, R124). -/
inductive Uplink where
  | trigger (cam : Nat) (k : Int) (delay : Nat)
  | control (cam addr len : Nat) (write : Bool) (data : List Nat)
deriving DecidableEq, Repr

/-! ### Prism (R132 to R149) -/

/-- A pixel: its R, G and B values. -/
structure Px where
  r : Int
  g : Int
  b : Int
deriving DecidableEq, Repr

/-- A resampled line on its way to the Seam unit (R158 to R160): one 16-bit pixel per stitched column of the member. -/
structure MLine where
  k : Int
  t : Int
  time : Nat
  band : Int
  cols : List Px
deriving DecidableEq, Repr

/-- A context of a pipe: the lines read and not yet out of the pipe, with the moment each leaves; the line store of ALTERNATE,
at most two lines, older first (R137); the lines resampled; the band last checked for shape (R146); and the replay reader's k,
last read and end (R149). -/
structure Ctx where
  pipe : List (CLine × Nat) := []
  store : List CLine := []
  out : List MLine := []
  checked : Option Int := none
  replayK : Option Int := none
  replayAt : Option Nat := none
  replayEnd : Bool := false
deriving DecidableEq, Repr

/-- A pipe: when its input is free, the spans its input was busy, and the start of the load interval (R133, R151). -/
structure Pipe where
  busyTill : Nat := 0
  spans : List (Nat × Nat) := []
  mark : Nat := 0
deriving DecidableEq, Repr

/-! ### Seam unit, coding, windows and Lantern (R158 to R183) -/

/-- An open stitched line (R163): s, when it opened, whether its deadline has passed, and the members' lines. -/
structure SLine where
  s : Int
  since : Nat
  late : Bool := false
  parts : List (Nat × MLine) := []
deriving DecidableEq, Repr

/-- A stitched line as it is emitted (R169): s, W_ref in 2^−32 POS, device time, MemberPresent, MISSING, and for each column its
pixel and source member (255 for FillValue, R168). -/
structure Stitched where
  s : Int
  w : Int
  time : Nat
  present : Nat
  missing : Bool
  cols : List Px
  sources : List Nat
deriving DecidableEq, Repr

/-- The Seam unit: open lines in ascending s, the last s emitted, and when its output is free. -/
structure Seam where
  opens : List SLine := []
  last : Option Int := none
  busyTill : Nat := 0
deriving DecidableEq, Repr

/-- What a descriptor collects over its lines (R183): the first stitched line and its device time in ns, GAP and MISSING. -/
structure Desc where
  first : Option (Int × Nat) := none
  gap : Bool := false
  missing : Bool := false
deriving DecidableEq, Repr

/-- The coding output (R171 to R173): s0, the output line being averaged, its column sums and stitched lines, the chroma of an
even luma line, the chunk in hand and whether it is dropped. -/
structure Coding where
  s0 : Option Int := none
  j : Nat := 0
  sums : List Px := []
  n : Nat := 0
  chroma : List (Int × Int) := []
  desc : Desc := {}
  dropped : Bool := false
deriving DecidableEq, Repr

/-- A window (R174): s0, the lines still to capture, the lines since the last descriptor and its first line index. -/
structure Win where
  s0 : Option Int := none
  left : Nat := 0
  count : Nat := 0
  first : Nat := 0
  desc : Desc := {}
deriving DecidableEq, Repr

/-- A view line produced and not yet output (R176, R179): its index, frame, row, whether the frame is skipped for RTP, the device
time in ns of the frame's first line, its descriptor part, and its pixels. -/
structure VLine where
  idx : Nat
  frame : Nat
  row : Nat
  skip : Bool
  frameTime : Nat
  desc : Desc
  px : List Px
deriving DecidableEq, Repr

/-- A box to draw (R179), in view columns and lines. -/
structure VBox where
  c0 : Nat
  c1 : Nat
  j0 : Nat
  j1 : Nat
  colour : Nat
deriving DecidableEq, Repr

/-- A Lantern view (R175 to R179): s0, the view line being averaged with its column sums and stitched lines, the frame and row
of the next line produced, when the frame's first line was produced and its device time, whether the frame is skipped, the lines
held, the descriptor of the frame being output with its first line index, the boxes, and the RTP sequence. -/
structure View where
  s0 : Option Int := none
  j : Nat := 0
  sums : List (Px × Nat) := []
  n : Nat := 0
  desc : Desc := {}
  frame : Nat := 0
  row : Nat := 0
  frameAt : Option Nat := none
  frameTime : Nat := 0
  skip : Bool := false
  held : List VLine := []
  out : Desc := {}
  outFirst : Nat := 0
  boxes : List VBox := []
  seq : Nat := 0
deriving DecidableEq, Repr

/-! ### Compression engines (R402 to R408) -/

/-- A job an engine runs: kind 1 software, 2 Slip, 3 crop (EngineState's codes); Op, Level, BlockSize, IRQ, source, destination,
input length and output limit; for a Slip job its bar, repeat and segment, with the segment's rows; for a crop job its tag and
slot offset. -/
structure ZeJob where
  kind : Nat
  op : Nat := 0
  level : Nat := 0
  block : Nat := 0
  irq : Bool := false
  src : Nat := 0
  dst : Nat := 0
  inLen : Nat := 0
  outLimit : Nat := 0
  bar : Nat := 0
  rep : Nat := 0
  seg : Nat := 0
  tag : Nat := 0
  slot : Nat := 0
deriving DecidableEq, Repr

/-- An engine: its job, and whether its ring waits for a JobTail write (R402). -/
structure Ze where
  job : Option ZeJob := none
  stopped : Bool := false
deriving DecidableEq, Repr

/-! ### Slip and Glaze (R232 to R259) -/

/-- A repeat of the job: its entry, its number within the entry, its first job line, and how many repeats came before it. -/
structure JobPos where
  entry : Nat := 0
  rep : Nat := 0
  first : Nat := 0
  idx : Nat := 0
deriving DecidableEq, Repr

/-- A plate segment a bar has asked for (R239): the repeat and segment, the rows it holds, the bytes of a row, and its data:
none while an engine works on it, empty when it failed. -/
structure BarSeg where
  rep : Nat
  seg : Nat
  row0 : Nat
  rows : Nat
  cols : Nat
  data : Option (List Nat)
deriving DecidableEq, Repr

/-- An entry of a bar's colour-loop update list (R340): the nozzle's word index, the new knots, those it was computed from, and
whether it is the last of its fold. -/
structure LoopUpd where
  nozzle : Nat
  knots : Nat
  base : Nat
  last : Bool
deriving DecidableEq, Repr

/-- A mask request (R246): the nozzle's word index (0xFFFFFFFF for all), and the bits to set; 0 clears both DEAD_CRAZE and
DEAD_SCAN. -/
structure MaskReq where
  nozzle : Nat
  set : Nat
deriving DecidableEq, Repr

/-- A bar: the next bar line to start, the repeat it lies in and the repeat before that, whether no job line is left, whether the
repeat has begun, when the line in progress is complete and its ring plane, a stall counted for the next line, the down-error
line (R251), the segments and what is fetched next (R239), ring planes that wait for Origin, queued mask requests and colour-loop
updates (R244); and on the Kiln's side the next line to be decided, the lines that missed their deadline (R257), and the
deliveries of the last line fired and the last trigger (R273, R281). -/
structure Bar where
  k : Nat := 0
  pos : JobPos := {}
  prev : Option JobPos := none
  atEnd : Bool := false
  begun : Bool := false
  cur : Option (Nat × Option (List Nat)) := none
  stalled : Bool := false
  down : List Int := []
  segs : List BarSeg := []
  fetch : JobPos := {}
  fetchSeg : Nat := 0
  fetchEnd : Bool := false
  early : List (Nat × List Nat) := []
  masks : List MaskReq := []
  loop : List LoopUpd := []
  next : Nat := 0
  missed : List Nat := []
  fired : Option Nat := none
  delivered : Option Nat := none
deriving DecidableEq, Repr

/-- A VARIABLE repeat bound by the lead bar (R235): the directories, and whether it took a record. -/
structure VarBind where
  rep : Nat
  dirs : List Nat
  taken : Bool
deriving DecidableEq, Repr

/-- Slip: VarTake and the bound repeats (R235), the last job line the lead bar has screened and the last line of its repeat,
whether a stop has fixed StopLine (R238), the row table of R249 by ring slot and the write front. -/
structure Slip where
  take : Nat := 0
  binds : List VarBind := []
  screened : Option (Nat × Nat) := none
  stopped : Bool := false
  rows : Tab Nat := []
  front : Option Int := none
deriving DecidableEq, Repr

/-! ### The Kiln (R270 to R294) -/

/-- A bank of a port queue (R256): its bar line, the port line, and when it was complete. -/
structure BankLine where
  k : Nat
  data : List Nat
  done : Option Nat
deriving DecidableEq, Repr

/-- A port: its banks in line order, the bar line being shifted with its last bit's moment and its bytes, the bar line the heads'
shift registers hold with the moment its last bit left, the earliest start of the next shift (R274), the end of a power delay
(R284, R285), whether a deskew runs and the heads still to be identified, a PortPower OFF that waits, the last temperature poll,
and the frame last sent on each lane (R276). -/
structure Port where
  banks : List BankLine := []
  shift : Option (Nat × Nat) := none
  shiftData : List Nat := []
  loaded : Option (Nat × Nat) := none
  loadedData : List Nat := []
  shiftFrom : Nat := 0
  until_ : Nat := 0
  deskew : Bool := false
  toId : List Nat := []
  offAsked : Bool := false
  polled : Nat := 0
  lanes : List (List Bool) := []
deriving DecidableEq, Repr

/-- A head: its temperature, a strobe to come with its PreHeat and Fire (R275, R278), the segments of the running window (active
or not, and length) with the end of the first, since when the strobe is active, a strobe cut in force, whether the head rejoins at
its bar's next boundary, whether a Readmit has it identified again, whether it was retired with its port, whether a temperature
read runs, the port-line slot its latch holds, and its state before a scan measures it (R292). -/
structure Head where
  temp : Option Int := none
  strobe : Option (Nat × Nat × Nat) := none
  segs : List (Bool × Nat) := []
  segEnd : Nat := 0
  activeAt : Option Nat := none
  cut : Bool := false
  rejoin : Bool := false
  again : Bool := false
  withPort : Bool := false
  reading : Bool := false
  latched : List Nat := []
  was : Nat := 0
deriving DecidableEq, Repr

/-- A port a resistance scan serves (R293): the head and wiring position selected, the end of SenseSettle, whether the input is
released, and the Gauge word taken for it. -/
structure ScanPort where
  port : Nat
  head : Nat
  pos : Nat
  due : Nat
  ready : Bool
  word : Option Nat
deriving DecidableEq, Repr

/-! ### The Gauge (R303 to R322) -/

/-- A calibration in progress (R321): whether the reference is connected, the words still to discard, the sum and number of
words taken, and Zero. -/
structure GaCal where
  ref : Bool
  left : Nat
  sum : Int
  n : Nat
  zero : Int
deriving DecidableEq, Repr

/-- A Gauge channel: the CIC's integrators and the values its combs hold (R305), the CIC outputs latest first (R307), the moment of
the last output or reset, the input of the last conversion, a fade with its target and the outputs it has made, the settings a
held channel converts with (R314), a calibration, and the last transition of the modulator stream (R504). -/
structure Ga where
  ints : List Nat := [0, 0, 0, 0]
  combs : List Nat := [0, 0, 0, 0]
  fir : List Int := []
  outAt : Nat := 0
  input : Nat := 3
  fade : Option (Nat × Nat) := none
  heldSet : Nat × Nat := (0, 0)
  cal : Option GaCal := none
  edgeAt : Nat := 0
  level : Bool := false
deriving DecidableEq, Repr

/-! ### Umbra (R193 to R222) -/

/-- What Umbra gathers of a component (R206, R207): its first and last line, WebStart as a whole POS value, its extremes, Area,
UmbraArea, PeakScore, the sum of scores, the pixels with S > 0 and with S < 0, Attr_i by slot, the blind columns of its lines, and
MISSING. -/
structure Feat where
  first : Int
  last : Int
  web : Int
  c0 : Nat
  c1 : Nat
  area : Nat := 0
  umbra : Nat := 0
  peak : Nat := 0
  sum : Nat := 0
  pos : Nat := 0
  neg : Nat := 0
  attr : List Nat := []
  blind : List (Nat × Nat) := []
  missing : Bool := false
deriving DecidableEq, Repr

/-- An open component: its number, its runs on the line before and on the line in hand, its features, CONTINUED and SplitIndex with
whether an earlier part of the chain was tagged (R204), and its crop (R218). -/
structure Comp where
  num : Nat
  prev : List (Nat × Nat)
  cur : List (Nat × Nat)
  feat : Feat
  continued : Bool := false
  index : Nat := 0
  chained : Bool := false
  crop : Option Nat := none
deriving DecidableEq, Repr

/-- A component cut by MaxLines whose runs may go on in a new component (R204). -/
structure Ghost where
  runs : List (Nat × Nat)
  index : Nat
  tagged : Bool
deriving DecidableEq, Repr

/-- A tag's fields (R209) but TagId: Class, Kind, Flags, Rule with the rule's actions, the head and nozzle names, WebStart, Time, the
first line and the number of lines, the columns, and what R206 measures; beside them the pixels with S > 0 and S < 0, and Attr_i. -/
structure Tag where
  cls : Nat
  kind : Nat
  flags : Nat
  rule : Nat
  acts : Nat
  bar : Nat := 255
  head0 : Nat := 255
  head1 : Nat := 255
  noz0 : Nat := 65535
  noz1 : Nat := 65535
  web : Int
  time : Nat
  lines : Nat
  first : Int
  c0 : Int
  c1 : Int
  area : Nat
  umbra : Nat
  peak : Nat
  mean : Nat
  share : Nat := 0
  colour : Nat := 255
  index : Nat
  pos : Nat
  neg : Nat
  attr : List Nat
deriving DecidableEq, Repr

/-- A closed component whose tag is to be written (R209 to R212): its slot, its tag, t0 of R23 and its place among the components
closed on that line, whether the tag is assembled, whether it is held as a fragment, and its crop. -/
structure Closed where
  num : Nat
  tag : Tag
  t0 : Nat
  place : Nat
  assembled : Bool := false
  crop : Option Nat := none
deriving DecidableEq, Repr

/-- A fragment held for a join (R213 to R217): its group, the slot of a component whose tag is not yet written, TagId, node, its tag,
the cuts it touches with the side (false left of the cut, true right; cut 255 is the device boundary), its cross-web extent, and when
its hold ends: an s, a FABCLK, or both. -/
structure Frag where
  group : Nat
  num : Option Nat
  id : Nat := 0
  node : Nat
  tag : Tag
  cuts : List (Nat × Bool)
  x0 : Int
  x1 : Int
  endS : Option Int := none
  endAt : Option Nat := none
deriving DecidableEq, Repr

/-- A crop (R218, R219): its number, its offset and size in the ring, its first column and row, the rows written, the lines still to
take after its component's close, whether its tag keeps it and that tag's TagId, whether all its rows are written and CropMaxLines cut
them, whether its compression job has been asked for and has ended, and the bytes it was compressed to. -/
structure Crop where
  num : Nat
  slot : Nat
  size : Nat
  col : Nat
  first : Int
  rows : Nat := 0
  left : Option Nat := none
  kept : Bool := false
  tag : Option Nat := none
  full : Bool := false
  cut : Bool := false
  job : Bool := false
  done : Bool := false
  packed : Option Nat := none
deriving DecidableEq, Repr

/-- A column of the Crazing detector (R220, R221). -/
structure Craze where
  err : Int := 0
  count : Nat := 0
  dom : Nat := 0
  votes : Nat := 0
  confirm : Nat := 0
deriving DecidableEq, Repr

/-- Umbra: the background by column in 16.8 with the lines since entry to RUNNING (R194), the last line's s with its time and t0,
the components, the cut ones that may go on, the tags waiting, fragments held with the number of groups begun, boundary records to
send, crops with the CropReadOffset at which the ring became full, the Crazing columns and the band of the window, and for each member
and slot (16 × member + slot) the ring row last read. -/
structure Umb where
  bg : List Px := []
  lines : Nat := 0
  last : Option Int := none
  lastTime : Nat := 0
  lastT0 : Nat := 0
  comps : List Comp := []
  ghosts : List Ghost := []
  closed : List Closed := []
  frags : List Frag := []
  groups : Nat := 0
  records : List (List Nat) := []
  crops : List Crop := []
  cropNum : Nat := 0
  fullAt : Option Nat := none
  craze : Tab Craze := []
  crazeBand : Option Int := none
  rows : Tab Int := []
deriving DecidableEq, Repr

/-! ### The colour loop (R326 to R354) -/

/-- A column of the loop's accumulators (R336): its nozzle's number in the bar and word index, the cached knots, and for bins 1 to 4
Sum and Wt. -/
structure LoopCol where
  noz : Nat
  word : Nat
  knots : Nat
  sum : List Int := [0, 0, 0, 0]
  wt : List Nat := [0, 0, 0, 0]
deriving DecidableEq, Repr

/-- A fold in progress (R338): slot, bar, the closed window's columns, and what was in force at its start: whether its window was one
of capture and the first of its slot, LOCKED, held, and the law's constants A, G, DB, SL, DL, PM, SK, MC. -/
structure LoopFold where
  slot : Nat
  bar : Nat
  cols : List LoopCol
  cap : Bool
  first : Bool
  locked : Bool
  held : Bool
  a : Nat
  gain : Nat
  dead : Nat
  step : Nat
  drift : Nat
  plausible : Nat
  strike : Nat
  count : Nat
deriving DecidableEq, Repr

/-- A mark being measured (R344): the lines below OpenLevel, BAD so far, and the sums of δ, X·δ and W·δ, measured and expected. -/
structure Mark where
  below : Nat := 0
  bad : Bool := false
  m : Int := 0
  mx : Int := 0
  mw : Int := 0
  e : Int := 0
  ex : Int := 0
  ew : Int := 0
deriving DecidableEq, Repr

/-- A head's registration (R345): good marks since the last evaluation with the sums and numbers of D_W and D_X, the latest
D̄_W + Δ × v, and the latest D̄_X. -/
structure RegHead where
  n : Nat := 0
  sw : Int := 0
  nw : Nat := 0
  sx : Int := 0
  nx : Nat := 0
  w : Option Int := none
  x : Option Int := none
deriving DecidableEq, Repr

/-- The colour loop: whether a window is in progress and its first band; the window's slot and its
columns, the fold in progress; the window's sums by camera (R, G, B and pixels), by Gauge channel, and by strip; the capture windows
left, the sums of their means with how many there were, and the slots that have had a capture fold (R342); by camera whether a lamp
update waits for a whole window under it (1 not yet applied, 2 in its whole window) and the mask of cameras in LAMP_SETTLING (R332,
R333); open marks and heads by number; the heads whose delay commit waits for its apply, actuator writes to try again (group, entry,
value), and Reflection's registration still to be committed by slot (R345, R346), with whether it waits for a window end. -/
structure Loop where
  open_ : Bool := false
  band0 : Int := 0
  slot : Option Nat := none
  cols : List LoopCol := []
  fold : Option LoopFold := none
  white : Tab (Px × Nat) := []
  diode : Tab (Int × Nat) := []
  strips : Tab (Int × Nat) := []
  capLeft : Option Nat := none
  capWhite : Tab (Px × Nat) := []
  capDiode : Tab (Int × Nat) := []
  capStrips : Tab (Int × Nat) := []
  capSlots : Nat := 0
  lampWait : Tab Nat := []
  settling : Nat := 0
  marks : Tab Mark := []
  regs : Tab RegHead := []
  regWait : List Nat := []
  retry : List (Nat × Nat × Nat) := []
  refl : Tab (Option Int × Option Int) := []
  reflHold : Bool := false
deriving DecidableEq, Repr

/-- On leaving RUNNING the present window is discarded, and with it the marks being measured (R346). -/
def Loop.leave (l : Loop) : Loop :=
  { l with open_ := false, slot := none, cols := [], white := [], diode := [], strips := [], marks := [] }

/-! ### The Skobaty link (R440 to R468) -/

/-- A message in a device: Class, Flags, Source, Dest, Epoch, Role, Hops, Lineage, Sequence and payload (R453). -/
structure SkMsg where
  cls : Nat
  flags : Nat := 0
  source : Nat
  dest : Nat
  epoch : Nat
  role : Nat
  hops : Nat := 0
  lineage : Nat := 0
  seq : Nat := 0
  payload : List Nat
deriving DecidableEq, Repr

/-- What has left a Skobaty port: a message, or LANE_MAP or SLEEP blocks with their payload. -/
inductive SklOut where
  | msg (port : Nat) (m : SkMsg)
  | laneMap (port mask : Nat)
  | sleep (port : Nat)
deriving DecidableEq, Repr

/-- A lane (R445, R449): the answer its transmitter holds, since when its receiver's request stands and whether that request waits
for the answer to return to NOT_UPDATED, whether its receiver and the peer's are ready, whether it hunts to rejoin, and the taps at
the previous speed. -/
structure SklLane where
  answer : Nat := 0
  asked : Option Nat := none
  resting : Bool := false
  ready : Bool := false
  peerReady : Bool := false
  rejoin : Bool := false
  taps : Nat × Nat × Nat := (0, 63, 0)
deriving DecidableEq, Repr

/-- A port (R443 to R452, R457): when its first lane locked, the lanes taken up, the peer's node, the previous speed and the next one,
whether a step has failed, the start of TUNE; maps asked of the peer and by it, and whether message blocks are discarded; the transmit
queues by class, when it last became idle, when its last queued message was ready, and until when its transmitter is busy. -/
structure SklPort where
  firstLock : Option Nat := none
  lanes : Nat := 0
  peer : Option Nat := none
  prev : Nat := 0
  next : Nat := 0
  fell : Bool := false
  tuneAt : Nat := 0
  asked : Option Nat := none
  wanted : Option Nat := none
  deaf : Bool := false
  queues : Tab (List SkMsg) := []
  idleAt : Nat := 0
  readyAt : Nat := 0
  txFrom : Nat := 0
deriving DecidableEq, Repr

/-- A local message that waits for room on a port (R457): since when, and the task input it keeps busy. -/
structure SklWait where
  port : Nat
  msg : SkMsg
  since : Nat
  task : Option Nat := none
deriving DecidableEq, Repr

/-- A route (R456). -/
structure Route where
  port : Nat
  hops : Nat
  heard : Nat
deriving DecidableEq, Repr

/-- The last heartbeat of a node (R466): when it came, its DeviceState, Role and Epoch. -/
structure Beat where
  at_ : Nat
  state : Nat
  role : Nat
  epoch : Nat
deriving DecidableEq, Repr

/-- A DICT request under way to a peer (R60, R462): since when, and for a forwarded UDP request its session and Sequence. -/
structure DictReq where
  id : Nat
  since : Nat
  udp : Option (Nat × Nat) := none
deriving DecidableEq, Repr

/-- The link as a whole: ports and lanes (4p + l) by number, the last Sequence sent, the last accepted from each source with when, routes
and heartbeats by node, when STALE was last sent to each source, the last heartbeat sent, messages delivered and not yet taken by their
unit with the port they came in on and their receive stamp, local messages that wait, requests under way with the next RequestId, and
what has left the ports, oldest first. -/
structure Skl where
  ports : Tab SklPort := []
  lanes : Tab SklLane := []
  seq : Nat := 0
  last : Tab (Nat × Nat) := []
  routes : Tab Route := []
  beats : Tab Beat := []
  stales : Tab Nat := []
  beatAt : Nat := 0
  inbox : List (Nat × SkMsg × Nat) := []
  waits : List SklWait := []
  reqs : List DictReq := []
  nextId : Nat := 0
  out : List SklOut := []
deriving DecidableEq, Repr

/-! ### Time synchronisation (R493, R494) -/

/-- An exchange under way: ExchangeId, t1, t2 and t3 in 2^−16 ns, and when SYNC came. -/
structure Exchange where
  id : Nat
  t1 : Int
  t2 : Int
  t3 : Option Int := none
  since : Nat
deriving DecidableEq, Repr

/-- The time unit: the exchange under way, `run` and `good` of the law, when the last valid exchange ended, the last ExchangeId used,
the last SYNC sent, the last whole second pulsed, and the end of a running pulse. -/
structure TimeSync where
  exch : Option Exchange := none
  run : Nat := 0
  good : Nat := 0
  validAt : Nat := 0
  nextId : Nat := 0
  sentAt : Nat := 0
  second : Nat := 0
  pulse : Option Nat := none
deriving DecidableEq, Repr

end Sys2Proof.Machine
end

