-- ==== Sys2Proof/Machine/State.lean ====
section
/-! DEFINITION. The state of the block: every register of the object dictionary, every DOMAIN, memory, and what each unit
holds between two commands; the ways a command can stop; and the state right after power-on reset. -/

namespace Sys2Proof.Machine

/-- Why a command stops with a fault. -/
inductive Fault where
  /-- Raised by any command whose instance operand names no instance the device has (a camera 12, a path 7). SAFE: no such
  command can reach the device. -/
  | noSuchInstance
deriving DecidableEq, Repr

/-- Why a command is refused. -/
inductive Refusal where
  /-- Raised by the dispatch alone, for a command that has no meaning yet. SAFE: nothing is claimed of it. -/
  | notModelled (mnemonic : String)
deriving DecidableEq, Repr

/-- The state of the block. -/
structure State where
  /-- the commands that wait, first in, first out -/
  pending : List Instr
  /-- the time counter C of R488: FABCLK since power-on reset -/
  now : Nat
  /-- Base of R489, in 2^−48 ns -/
  timeBase : Int
  /-- C0 of R489 -/
  timeC0 : Nat
  /-- the FABCLK of the last state change (R24) -/
  stateAt : Nat
  /-- the model's own: how many free values have been taken -/
  free : Nat
  /-- the live entries of the dictionary by key; an unlisted entry holds its default -/
  regs : Tab Nat
  /-- the Shadow banks: staged values not yet applied (R46) -/
  shadow : Tab Nat
  /-- the bytes and lengths of the live DOMAINs that differ from their defaults -/
  dom : Tab Nat
  domLens : Tab Nat
  /-- the same of the Shadow banks -/
  shDom : Tab Nat
  shDomLens : Tab Nat
  /-- owner, security and lock of each index that differs from its descriptor default, as R44 lays the byte out -/
  own : Tab Nat
  /-- sherds held by group index (R367) -/
  sherds : Tab Sherds
  /-- by group: the camera band in progress when its pending commit was accepted (R145) -/
  commitBands : Tab Int
  /-- the value the last read of each path returned, whose status is LastStatus; under 8 + h what hart h last loaded from memory, under
  12 what a PCIe BAR2 read last returned -/
  readData : Tab Nat
  /-- the HOST challenge (R45) -/
  chal : Chal
  /-- domain transfers in progress by path (R54) -/
  xfers : Tab Xfer
  /-- UDP sessions by number (R58) -/
  sessions : Tab Sess
  /-- what has left the device toward the network and the host, oldest first -/
  udpOut : List UdpOut
  hostOut : List HostWrite
  /-- frames the Ethernet ports send for the core path and in answer to ARP and ICMP (R484, R486): port and bytes, oldest first; and
  the ARP cache: by 2^32 × port + address, the MAC address and when it was learned -/
  ethOut : List (Nat × List Nat)
  arp : Tab (Nat × Nat)
  /-- DRAM (R355, R359) -/
  mem : List Host.Cell
  /-- Glaze words by nozzle that differ from the default (R241) -/
  glaze : Tab Nat
  /-- events raised and not yet delivered; deliveries at task inputs (R417) -/
  raised : List Raised
  tasks : List Delivery
  /-- the ends of running hold-off timers by group, and the moment of the last MaskSet (R430, R431) -/
  holdEnds : Tab Nat
  maskSetAt : Nat
  /-- by interrupt source, the FABCLK of its last counted arrival since it was last claimed (R425) -/
  arrived : Tab Nat
  msix : Msix
  /-- the Witness: input buffer, ring by slot, and whether entries were dropped before the next one (R520 to R525) -/
  wbuf : List WReq
  wring : Tab WEntry
  wgap : Bool
  /-- the kept times of transient faults by unit (R502) -/
  faultTimes : Tab (List Nat)
  /-- boot, fuses, power, watchdog, the last junction reading was at or above the trip (R512), calibrations -/
  fuses : Fuses
  boot : Boot
  power : Power
  /-- where each running core was started (R557) -/
  cores : Tab Nat
  /-- by hart, the last exception an access of its raised: 1 an access fault, 2 an address-misaligned exception (R554) -/
  coreFaults : Tab Nat
  wdog : Wdog
  hot : Option Bool
  calRecs : Tab CalRec
  /-- levels at the general I/O balls that the world drives, by pin -/
  gpioIn : Tab Nat
  /-- levels the device drives at its balls, by ball code -/
  pins : Tab Nat
  /-- hardware queues, DRAM channels and DMA channels by number -/
  queues : Tab Que
  drams : Tab DramCh
  dmas : Tab Dma
  /-- the Wheel: encoder channels, the web position, trigger generators, triggers on their fixed routes, compare units,
  probe FIFOs and Mirror outputs by number -/
  encs : Tab Enc
  wheel : Wheel
  gens : Tab Gen
  trigs : List Trig
  cmps : Tab Cmp
  probes : Tab (List ProbeEntry)
  mirs : Tab Mir
  /-- camera channels by number, and the packets that have left on their uplinks, oldest first -/
  cams : Tab Cam
  uplinks : List Uplink
  /-- Prism: contexts and pipes by number -/
  ctxs : Tab Ctx
  pipes : Tab Pipe
  /-- the Seam unit, the coding output, windows and views by number -/
  seam : Seam
  coding : Coding
  wins : Tab Win
  views : Tab View
  /-- compression engines by number, and the crop jobs that wait (R406) -/
  zes : Tab Ze
  cropJobs : List ZeJob
  /-- Slip and its bars; Kiln ports, heads, and the resistance scan -/
  slip : Slip
  bars : Tab Bar
  ports : Tab Port
  heads : Tab Head
  scan : List ScanPort
  /-- the Gauge channels by number, and the moment of the last synchronising reset -/
  gas : Tab Ga
  syncAt : Option Nat
  /-- Umbra -/
  umb : Umb
  /-- the colour loop -/
  loop : Loop
  /-- the Skobaty link; time synchronisation -/
  skl : Skl
  sync : TimeSync
deriving DecidableEq, Repr

/-- The fuses as a part leaves Felval: slot 0 holds the Felval key's hash (R543). -/
def Fuses.factory : Fuses :=
  { keyHash := [(0, Config.felvalKeyHash)], revoked := 0, version := 0, burn := none }

/-- The machine in power-on reset (R16, R34, R525, R537): DeviceState is RESET, every entry holds its default, every
table is empty. -/
def State.reset : State :=
  { pending := [], now := 0, timeBase := 0, timeC0 := 0, stateAt := 0, free := 0, regs := [], shadow := [], dom := [], domLens := [],
    shDom := [], shDomLens := [], own := [], sherds := [], commitBands := [], readData := [], chal := {}, xfers := [], sessions := [],
    udpOut := [], hostOut := [], ethOut := [], arp := [], mem := [], glaze := [], raised := [], tasks := [], holdEnds := [], maskSetAt := 0, arrived := [],
    msix := {}, wbuf := [], wring := [], wgap := false, faultTimes := [], fuses := Fuses.factory, boot := {},
    power := {}, cores := [], coreFaults := [], wdog := {}, hot := none, calRecs := [], gpioIn := [], pins := [], queues := [], drams := [], dmas := [],
    encs := [], wheel := {}, gens := [], trigs := [], cmps := [], probes := [], mirs := [], cams := [], uplinks := [], ctxs := [], pipes := [],
    seam := {}, coding := {}, wins := [], views := [], zes := [], cropJobs := [], slip := {}, bars := [], ports := [], heads := [],
    scan := [], gas := [], syncAt := none, umb := {}, loop := {}, skl := {}, sync := {} }

end Sys2Proof.Machine
end

