-- ==== Sys2Proof/Machine/Ops.lean ====
section
/-! DEFINITION. The shared operations of the machine: reading and writing entries and DOMAINs, device time, events,
interrupt arrivals, the Witness buffer, faults and retirement, hardware queues, memory, and the state changes of R25. -/

namespace Sys2Proof.Machine

/-! ### Entries: the live set and the Shadow bank (R31, R46) -/

/-- The live value of an entry, as its raw word; an entry nothing has written holds its default (R34). -/
def State.rd (s : State) (k : Nat) : Nat := (tfind s.regs k).getD (dflt k)

/-- Set the live value of an entry. -/
def State.wr (s : State) (k v : Nat) : State := { s with regs := tput s.regs k v }

/-- The Shadow bank's value of a STAGED entry: the staged value, or the live one where none is staged (R49). -/
def State.sh (s : State) (k : Nat) : Nat := (tfind s.shadow k).getD (s.rd k)

/-- Stage a value (R46). -/
def State.stage (s : State) (k v : Nat) : State := { s with shadow := tput s.shadow k v }

/-- The two's-complement reading of a live entry of `w` bits. -/
def State.rdI (s : State) (w k : Nat) : Int := toI w (s.rd k)

/-- The two's-complement reading of a staged entry of `w` bits. -/
def State.shI (s : State) (w k : Nat) : Int := toI w (s.sh k)

/-- Whether a live Boolean entry is 1. -/
def State.on (s : State) (k : Nat) : Bool := s.rd k == 1

/-- Whether bit `i` of a live entry is set. -/
def State.bit (s : State) (k i : Nat) : Bool := bitOf (s.rd k) i

/-- Increment a counter of `w` bits, which wraps. -/
def State.inc (s : State) (w k : Nat) : State := s.wr k ((s.rd k + 1) % 2 ^ w)

/-- Add to a counter of `w` bits, which wraps. -/
def State.add (s : State) (w k n : Nat) : State := s.wr k ((s.rd k + n) % 2 ^ w)

/-- Keep the greatest value in an entry. -/
def State.peak (s : State) (k v : Nat) : State := if s.rd k < v then s.wr k v else s

/-! ### DOMAINs (R53, R54) -/

/-- The key of one byte of a DOMAIN. -/
def domKey (k off : Nat) : Nat := k * 2 ^ 32 + off

/-- A byte of a live DOMAIN whose content a table holds. -/
def State.domByte (s : State) (k off : Nat) : Nat := (tfind s.dom (domKey k off)).getD (domDflt k off)

/-- The present length of a live DOMAIN. -/
def State.domLen (s : State) (k : Nat) : Nat := (tfind s.domLens k).getD (dflt k)

/-- A byte of a STAGED DOMAIN's Shadow bank. -/
def State.shDomByte (s : State) (k off : Nat) : Nat := (tfind s.shDom (domKey k off)).getD (s.domByte k off)

/-- The present length of a STAGED DOMAIN in the Shadow bank. -/
def State.shDomLen (s : State) (k : Nat) : Nat := (tfind s.shDomLens k).getD (s.domLen k)

/-- `n` bytes of a live DOMAIN from an offset. -/
def State.domBytes (s : State) (k off n : Nat) : List Nat := (List.range n).map fun i => s.domByte k (off + i)

/-- The little-endian number of `n` bytes of a live DOMAIN. -/
def State.domLe (s : State) (k off n : Nat) : Nat := ofLe (s.domBytes k off n)

/-- The little-endian number of `n` bytes of a DOMAIN's Shadow bank. -/
def State.shDomLe (s : State) (k off n : Nat) : Nat := ofLe ((List.range n).map fun i => s.shDomByte k (off + i))

/-- Put bytes into a byte table from an offset. -/
def putBytes (t : Tab Nat) (k : Nat) : Nat → List Nat → Tab Nat
  | _, [] => t
  | off, b :: l => putBytes (tput t (domKey k off) (b % 256)) k (off + 1) l

/-- Write bytes into a live DOMAIN; the length grows to the end of the write (R54). -/
def State.domWrite (s : State) (k off : Nat) (l : List Nat) : State :=
  { s with dom := putBytes s.dom k off l,
           domLens := if s.domLen k < off + l.length then tput s.domLens k (off + l.length) else s.domLens }

/-- Write bytes into a STAGED DOMAIN's Shadow bank. -/
def State.shDomWrite (s : State) (k off : Nat) (l : List Nat) : State :=
  { s with shDom := putBytes s.shDom k off l,
           shDomLens := if s.shDomLen k < off + l.length then tput s.shDomLens k (off + l.length) else s.shDomLens }

/-! ### Clock and device time (R488, R489) -/

/-- A command whose moment follows from the state happens at that moment or, when the clock has passed it, now. -/
def State.at (s : State) (t : Nat) : State := { s with now := max s.now t }

/-- FABCLK in a microsecond. -/
def us (n : Nat) : Nat := 800 * n

/-- FABCLK in a millisecond. -/
def ms (n : Nat) : Nat := 800000 * n

/-- S of R489: 2^−48 ns per FABCLK. -/
def State.rate (s : State) : Int := 0x140000000000 + s.rdI 64 K.timeRateAdj

/-- T(C) of R489 in 2^−48 ns. -/
def State.timeT (s : State) : Int := s.timeBase + ((s.now : Int) - s.timeC0) * s.rate

/-- Device time in the TIME form of R13: a count of 2^−16 ns, of 80 bits. -/
def State.time (s : State) : Nat := ofI 80 (floorDiv s.timeT (2 ^ 32))

/-- The nanosecond part of device time. -/
def State.timeNs (s : State) : Nat := s.time / 2 ^ 16

/-! ### Free values -/

/-- The next free value, and the state with the model's counter advanced. -/
def State.fresh (s : State) : Nat × State := (Config.freeValue s.free, { s with free := s.free + 1 })

/-! ### The interrupt controller: arrivals and the host's message (R423 to R432) -/

/-- Word and bit of a source in the 64-bit words of R431. -/
def srcBit (src : Nat) : Nat := 2 ^ (src % 64)

/-- Whether a source is pending. -/
def State.irqPending (s : State) (src : Nat) : Bool := s.bit (K.pendPending (src / 64)) (src % 64)

/-- Whether a source is masked. -/
def State.irqMasked (s : State) (src : Nat) : Bool := s.bit (K.maskMask (src / 64)) (src % 64)

/-- Whether a source is in service. -/
def State.irqInService (s : State) (src : Nat) : Bool := s.bit (K.pendInService (src / 64)) (src % 64)

/-- The source is held back by its hold-off group's running timer (R430). -/
def State.irqHeldOff (s : State) (src : Nat) : Bool :=
  let c := s.rd (K.srcConfig src)
  bitOf c 15 && s.bit K.holdsHoldOffRunning (field c 12 8)

/-- Eligibility of R426. -/
def State.irqEligible (s : State) (t src : Nat) : Bool :=
  s.irqPending src && bitOf (s.rd (K.srcConfig src)) t && !s.irqMasked src && !s.irqHeldOff src

/-- The sources, highest priority first (R423). -/
def irqSources : List Nat := (List.range 511).map (· + 1)

/-- The highest-priority source eligible for a target. -/
def State.irqBest (s : State) (t : Nat) : Option Nat := irqSources.find? (s.irqEligible t)

/-- The target holds no claim. -/
def State.irqIdle (s : State) (t : Nat) : Bool := s.rd (K.tgtHolding t) == 1023

/-- A target is signalled while it holds no claim and some source is eligible for it (R426). -/
def State.irqSignalled (s : State) (t : Nat) : Bool := s.irqIdle t && (s.irqBest t).isSome

/-- Send a message on an MSI-X vector, or hold it in the pending bit array while the vector or function is masked (R432) or Bus
Master Enable is 0 (R480). -/
def State.msixSend (s : State) (v : Nat) : State :=
  if s.msix.funcMask || bitOf s.msix.vecMask v || s.rd K.pcieBusMaster != 1 then
    { s with msix := { s.msix with pba := setBits s.msix.pba (2 ^ v) } }
  else { s with msix := { s.msix with sent := s.msix.sent ++ [v] } }

/-- The host target becomes signalled: one message on the Vector of the highest eligible source, then none until the host
has claimed and completed (R432). -/
def State.hostSignal (s : State) : State :=
  if s.msix.enabled && !s.msix.waiting && s.irqIdle 4 then
    match s.irqBest 4 with
    | some src =>
      ({ s with msix := { s.msix with waiting := true } }).msixSend (field (s.rd (K.srcConfig src)) 21 16)
    | none => s
  else s

/-- One more arrival in a source's Count, which saturates; several arrivals in one FABCLK count as one (R425). -/
def State.countArrival (s : State) (src : Nat) : State :=
  if tfind s.arrived src = some s.now then s
  else { s.wr (K.srcCount src) (sat 255 (s.rd (K.srcCount src) + 1)) with arrived := tput s.arrived src s.now }

/-- An arrival at a source (R425): it counts; while the source is not in service it becomes pending. -/
def State.arrive (s : State) (src : Nat) : State :=
  if src = 0 then s else
  let s := s.countArrival src
  let s := if s.irqInService src then s
    else s.wr (K.pendPending (src / 64)) (setBits (s.rd (K.pendPending (src / 64))) (srcBit src))
  s.hostSignal

/-- Hardware sets the bits of a flag entry, which is an arrival at the source that names the flag (R425). -/
def State.flag (s : State) (k m src : Nat) : State := (s.wr k (setBits (s.rd k) m)).arrive src

/-- Hardware clears the bits of an entry. -/
def State.unflag (s : State) (k m : Nat) : State := s.wr k (clearBits (s.rd k) m)

/-! ### The Witness buffer (R520 to R525) -/

/-- Where an entry raised in a FABCLK goes: ascending Kind, then ascending Unit; entries of a fatal fault last (R524). -/
def witnessInsert (e : WReq) : List WReq → List WReq
  | [] => [e]
  | x :: l => if x.stamp = e.stamp ∧ ¬ x.last ∧ (e.kind < x.kind ∨ (e.kind = x.kind ∧ e.unit < x.unit))
      then e :: x :: l else x :: witnessInsert e l

/-- Queue a Witness entry: dropped and counted while the ring is frozen (R525) or the 32-deep buffer is full (R524). -/
def State.witness (s : State) (kind unit lin d0 d1 : Nat) (last : Bool := false) : State :=
  if s.on K.witFrozen then s.inc 32 K.witFrozenDrops
  else if 32 ≤ s.wbuf.length then
    { (s.inc 32 K.witDropped).flag K.witWitnessStatus 1 10 with wgap := true }
  else
    let e : WReq := { kind := kind, unit := unit, lineage := lin, d0 := d0 % 2 ^ 32, d1 := d1 % 2 ^ 64, time := s.time,
                      stamp := s.now, last := last }
    { s with wbuf := if last then s.wbuf ++ [e] else witnessInsert e s.wbuf }

/-! ### Events (R414 to R422) -/

/-- The channels whose live SourceEvent is the event, ascending (R417). -/
def State.channelsOf (s : State) (ev : Nat) : List Nat :=
  s.regs.filterMap fun e =>
    if 0x470000 ≤ e.1 ∧ e.1 < 0x480000 ∧ e.1 % 256 = 1 ∧ e.2 = ev then some ((e.1 - 0x470001) / 256) else none

/-- The task inputs whose ChanA or ChanB is one of the channels, with the number of the two that are (R417, R421). -/
def State.taskHits (s : State) (chans : List Nat) : List (Nat × Nat) :=
  s.regs.filterMap fun e =>
    if 0x464000 ≤ e.1 ∧ e.1 < 0x464100 then
      let n := b2n (chans.contains (e.2 % 65536)) + b2n (chans.contains (e.2 / 65536))
      if n = 0 then none else some (e.1 - 0x464000, n)
    else none

/-- LOOP_CUT on every channel whose source is the event (R422). -/
def State.cutChannels (s : State) : List Nat → State
  | [] => s
  | c :: l => (s.wr (K.chChannelStatus c) (setBits (s.rd (K.chChannelStatus c)) 1)).cutChannels l

/-- Events stand in the order of the FABCLK they were raised in. -/
def raisedInsert (r : Raised) : List Raised → List Raised
  | [] => [r]
  | x :: l => if r.stamp < x.stamp then r :: x :: l else x :: raisedInsert r l

/-- A block raises an event in the FABCLK `t`, with a lineage; one that would carry lineage 8 is not raised but cut
(R422). -/
def State.raiseAt (s : State) (t ev lin : Nat) : State :=
  if 8 ≤ lin then
    let cs := s.channelsOf ev
    let unit := match cs with | c :: _ => 11 * 256 + c | [] => 0
    (((s.cutChannels cs).flag K.fabFabricStatus 4 25).inc 32 K.fabLoopCuts).witness 0x31 unit 7 ev 0
  else
    { s with raised := raisedInsert { num := ev, lineage := lin, stamp := t, chans := s.channelsOf ev,
                                      hits := s.taskHits (s.channelsOf ev) } s.raised }

/-- A block raises an event now. -/
def State.raise (s : State) (ev : Nat) (lin : Nat := 0) : State := s.raiseAt s.now ev lin

/-! ### Device state (R16, R24 to R28) -/

/-- DeviceState codes (R24); RESET is held outside the entry's codes as 0. -/
abbrev stReset := 0
abbrev stBoot := 1
abbrev stStopped := 2
abbrev stArmed := 3
abbrev stRunning := 4
abbrev stDraining := 5
abbrev stStandby := 6
abbrev stFault := 7
abbrev stFenced := 8

/-- The present device state. -/
def State.dev (s : State) : Nat := s.rd K.devDeviceState

/-- A state change: counted, stamped, recorded in the Witness and raised as DEV_STATE (R24, R28, R523). -/
def State.enter (s : State) (new : Nat) (last : Bool := false) : State :=
  let old := s.dev
  (((({ s with stateAt := s.now }.wr K.devDeviceState new).inc 32 K.devStateChanges).wr K.devStateTime s.time).witness 1 0 0
    (new + 256 * old + 65536 * s.rd K.devStopCause) 0 last).raise Ev.devState

/-! ### Faults and retirement (R501 to R507) -/

/-- The faults of a unit at times t' with t − t' < RetryWindow (R502). -/
def State.faultsIn (s : State) (unit windowMs : Nat) : List Nat :=
  (tget [] s.faultTimes unit).filter fun t => s.now - t < ms windowMs

/-- One transient fault of a unit (R501, R502): its time is kept, the counters move, and the Witness and the fabric hear
of it. -/
def State.transient (s : State) (unit bit windowMs : Nat) : State :=
  let s := { s with faultTimes := tput s.faultTimes unit (tget [] s.faultTimes unit ++ [s.now]) }
  let n := (s.faultsIn unit windowMs).length
  (((s.inc 32 K.fltTransientCount).flag K.fltFaultStatus 2 3).witness 0x10 unit 0 bit n).raise Ev.fltTransient

/-- The unit's faults now break its policy: more than RetryCount within RetryWindow (R502). -/
def State.breaks (s : State) (unit count windowMs : Nat) : Bool :=
  Nat.blt count (s.faultsIn unit windowMs).length

/-- The effects every retirement has (R505). -/
def State.retire (s : State) (unit bit faults : Nat) : State :=
  ((((s.witness 0x11 unit 0 bit faults).inc 16 K.fltRetiredCount).wr K.fltLastRetiredUnit unit).flag
    K.fltFaultStatus 1 2).raise Ev.fltRetired

/-- The effects every re-admission has: the Witness entry, the kept times cleared, one retired unit fewer (R502, R506). -/
def State.readmit (s : State) (unit : Nat) : State :=
  let s := { s with faultTimes := terase s.faultTimes unit }
  (s.wr K.fltRetiredCount (s.rd K.fltRetiredCount - 1)).witness 0x12 unit 0 0 0

/-! ### Memory (R355 to R357) -/

/-- The byte an unlisted DRAM address reads as (R359). -/
def memDflt : Byte := 0

/-- A byte of DRAM. -/
def memGet : List Host.Cell → Nat → Byte
  | [], _ => memDflt
  | (a, v) :: m, k => if k = a then v else if k < a then memDflt else memGet m k

/-- Write a byte of DRAM, keeping the canonical form: strictly rising addresses, no entry equal to `memDflt`. -/
def memPut : List Host.Cell → Nat → Byte → List Host.Cell
  | [], k, v => if v = memDflt then [] else [(k, v)]
  | (a, w) :: m, k, v =>
    if k = a then (if v = memDflt then m else (a, v) :: m)
    else if k < a then (if v = memDflt then (a, w) :: m else (k, v) :: (a, w) :: m)
    else (a, w) :: memPut m k v

/-- The canonical form of memory: strictly rising addresses from `lo`, no entry holding the unlisted byte. -/
def memWfFrom : Nat → List Host.Cell → Bool
  | _, [] => true
  | lo, (a, v) :: m => Nat.ble lo a && decide (v ≠ memDflt) && memWfFrom (a + 1) m

/-- The canonical form of memory. -/
def Memory.wf (m : List Host.Cell) : Bool := memWfFrom 0 m

/-- Write bytes from an address. -/
def memPuts : List Host.Cell → Nat → List Nat → List Host.Cell
  | m, _, [] => m
  | m, a, b :: l => memPuts (memPut m a (BitVec.ofNat 8 b)) (a + 1) l

/-- A span lies in populated DRAM (R355, R357). -/
def State.inDram (s : State) (a n : Nat) : Bool := Nat.ble (a + n) (s.rd K.dramDramPopulated)

/-- A span of `n` bytes lies in one of the read-only SRAM windows of R355. -/
def inSram (a n : Nat) : Bool :=
  (Nat.ble 0x4000000000 a && Nat.ble (a + n) 0x4002800000) ||
  (Nat.ble 0x4010000000 a && Nat.ble (a + n) 0x4010800000) ||
  (Nat.ble 0x4020000000 a && Nat.ble (a + n) 0x4020040000)

/-- MAP_ERROR, MapErrors, LastMapError and MEM_MAP_ERROR of an access that reaches no store (R356). -/
def State.mapError (s : State) (a : Nat) : State :=
  (((s.flag K.dramMemStatus 1 112).inc 32 K.dramMapErrors).wr K.dramLastMapError a).raise Ev.memMapError

/-- The bytes of a Witness entry (R521). -/
def wentryBytes (e : WEntry) : List Nat :=
  leBytes 4 e.seq ++ leBytes 2 e.kind ++ leBytes 2 e.unit ++ leBytes 8 (e.time / 65536) ++ leBytes 2 (e.time % 65536) ++
  [e.lineage, b2n e.gap] ++ leBytes 4 e.d0 ++ leBytes 8 e.d1

/-- A byte of the Witness ring (R520). -/
def State.witnessByte (s : State) (off : Nat) : Nat :=
  match tfind s.wring (off / 32) with
  | some e => nth (wentryBytes e) (off % 32)
  | none => 0

/-- The word of a nozzle in NozzleTable order (R241). -/
def State.glazeWord (s : State) (n : Nat) : Nat := tget 0x0FFFC00800400000 s.glaze n

/-- A byte of an SRAM window (R355). Which sherds a user holds is not stated, so the pool's bytes are free. -/
def State.sramByte (s : State) (a : Nat) : Nat :=
  if a < 0x4010000000 then Config.sherdByte a s.now
  else if a < 0x4020000000 then nth (leBytes 8 (s.glazeWord ((a - 0x4010000000) / 8))) (a % 8)
  else s.witnessByte (a - 0x4020000000)

/-- A byte at a mapped device address. -/
def State.memByte (s : State) (a : Nat) : Nat := if a < 0x4000000000 then (memGet s.mem a).toNat else s.sramByte a

/-- Bytes of DRAM, without a check of the map. -/
def State.dramBytes (s : State) (a n : Nat) : List Nat := (List.range n).map fun i => (memGet s.mem (a + i)).toNat

/-- The little-endian number of DRAM bytes. -/
def State.dramLe (s : State) (a n : Nat) : Nat := ofLe (s.dramBytes a n)

/-- A block of the device (not a core, a DMA channel or a domain transfer) reads memory through a DRAM port: an unmapped
address reads zeros and is a map error (R356). -/
def State.blockRead (s : State) (port a n : Nat) : List Nat × State :=
  if s.inDram a n || inSram a n then ((List.range n).map fun i => s.memByte (a + i), s.add 64 (K.portBytesRead port) n)
  else (List.replicate n 0, s.mapError a)

/-- A block of the device writes DRAM; a write to an unmapped or read-only address is dropped (R356). -/
def State.blockWrite (s : State) (port a : Nat) (l : List Nat) : State :=
  if s.inDram a l.length then ({ s with mem := memPuts s.mem a l }).add 64 (K.portBytesWritten port) l.length
  else s.mapError a

/-! ### The Sherd pool (R367, R368) -/

/-- SherdsFree moves: FreeLow keeps the least, and POOL_LOW warns below PoolLowMark. -/
def State.setSherdsFree (s : State) (n : Nat) : State :=
  let s := s.wr K.poolSherdsFree n
  let s := if n < s.rd K.poolFreeLow then s.wr K.poolFreeLow n else s
  if n < s.rd K.poolPoolLowMark then s.flag K.poolPoolStatus 1 115 else s

/-- Sherds reserved by a group (live and pending sets). -/
def State.sherdsOf (s : State) (g : Nat) : Sherds := tget { live := 0, pend := 0 } s.sherds g

/-! ### Hardware queues (R369 to R373) -/

/-- Item slots of one bank. -/
def State.bankSlots (s : State) (q : Nat) : Nat := s.rd (K.qBankSherds q) * 4096 / s.rd (K.qItemBytes q)

/-- The queue record. -/
def State.que (s : State) (q : Nat) : Que := tget {} s.queues q

/-- Free slots of a queue: what is left of the producers' bank, and the other bank when it is wholly free (R369). -/
def queFree (cap : Nat) (q : Que) : Nat :=
  (cap - q.cur.used) + (if q.oth.used = 0 then cap else 0)

/-- Credits available to the producers (R370). -/
def State.queCredits (s : State) (q : Nat) : Nat :=
  if s.on (K.qQueueEnable q) then min (s.rd (K.qCreditGrant q)) (queFree (s.bankSlots q) (s.que q)) else 0

/-- Put a whole item into the producers' bank, moving to the other bank when theirs is full (R369). -/
def quePut (cap : Nat) (q : Que) (it : QItem) : Que :=
  if q.cur.used < cap then { q with cur := { used := q.cur.used + 1, items := q.cur.items ++ [it] } }
  else
    let old : Bank := if q.cur.items.isEmpty then { used := 0, items := [] } else q.cur
    { cur := { used := 1, items := [it] }, oth := old }

/-- Take the oldest item: from the bank the producers have left, else from theirs (R369). -/
def queTake (q : Que) : Option (QItem × Que) :=
  match q.oth.items with
  | it :: l => some (it, { q with oth := if l.isEmpty then { used := 0, items := [] } else { q.oth with items := l } })
  | [] =>
    match q.cur.items with
    | it :: l => some (it, { q with cur := { q.cur with items := l } })
    | [] => none

/-- Items held. -/
def queFill (q : Que) : Nat := q.cur.items.length + q.oth.items.length

/-- What became of an item a producer offered. -/
inductive Offered where
  /-- written whole -/
  | written
  /-- longer than ItemBytes: discarded without a credit (R371) -/
  | sizeError
  /-- no credit, or the queue is disabled (R370, R373) -/
  | noCredit
deriving DecidableEq, Repr

/-- A producer writes an item into a hardware queue (R370, R371). -/
def State.offer (s : State) (q : Nat) (bytes : List Nat) : Offered × State :=
  if s.on (K.qQueueEnable q) ∧ s.rd (K.qItemBytes q) < bytes.length then
    (.sizeError, ((s.inc 32 K.quesSizeErrors).flag (K.qsQueueStatus q) 1 116).raise Ev.qSizeError)
  else if s.queCredits q = 0 then
    (.noCredit, (s.inc 32 (K.qsNoCreditCount q)).flag (K.qsQueueStatus q) 2 116)
  else
    let it : QItem := { bytes := padTo (s.rd (K.qItemBytes q)) bytes, stamp := s.now }
    let qu := quePut (s.bankSlots q) (s.que q) it
    let s := { s with queues := tput s.queues q qu }
    let s := (s.wr (K.qsFill q) (queFill qu)).peak (K.qsFillPeak q) (queFill qu)
    (.written, s.inc 64 (K.qsItemsIn q))

/-- Write an item where a queue is named; 255 names none. The answer says whether the item was written. -/
def State.offerTo (s : State) (q : Nat) (bytes : List Nat) : Bool × State :=
  if q = 255 then (false, s) else
  match s.offer q bytes with
  | (.written, s) => (true, s)
  | (_, s) => (false, s)

/-- Empty both banks of a queue (R372). -/
def State.flushQueue (s : State) (q : Nat) : State :=
  let s := { s with queues := tput s.queues q {} }
  (((s.wr (K.qsFill q) 0).inc 32 (K.qsFlushCount q)).raise (Ev.qFlush q))

end Sys2Proof.Machine
end

