-- ==== Sys2Proof/Machine/Flags.lean ====
section
/-! DEFINITION. The flags the interrupt sources name: the level conditions of the spec's "Pending while" columns (R107,
R131, R157, R192, R231, R269, R302, R328, R354, R389, R413, R439, R533, R563 and the source tables of "The Skobaty link"
and "Host, network and time"). A source whose column counts occurrences since the last claim has no level condition: its
Count holds them (R425, R429). -/

namespace Sys2Proof.Machine

/-- The flag bits a source's column names: the key of instance 0, the number of instances, and the mask. -/
def sourceFlags : Nat → List (Nat × Nat × Nat)
  | 2 => [(K.fltFaultStatus, 1, 1)]
  | 3 => [(K.fltFaultStatus, 1, 2)]
  | 4 => [(K.fltFaultStatus, 1, 8)]
  | 5 => [(K.fltFaultStatus, 1, 16)]
  | 6 => [(K.fltFaultStatus, 1, 4)]
  | 7 => [(K.calCalStatus, 1, 1), (K.gasStatus 0, 16, 8)]
  | 9 => [(K.calCalStatus, 1, 2)]
  | 10 => [(K.witFrozen, 1, 1), (K.witWitnessStatus, 1, 1)]
  | 11 => [(K.witWitnessStatus, 1, 2)]
  | 12 => [(K.clkClockStatus, 1, 1)]
  | 17 => [(K.timeTimeStatus, 1, 0b01100)]
  | 18 => [(K.alarmAlarmStatus 0, 4, 1)]
  | 19 => [(K.timeTimeStatus, 1, 0b10000)]
  | 24 => [(K.fabFabricStatus, 1, 1)]
  | 25 => [(K.fabFabricStatus, 1, 4)]
  | 26 => [(K.fabFabricStatus, 1, 2)]
  | 32 => [(K.encsStatus 0, 4, 0x40)]
  | 33 => [(K.whlWheelStatus, 1, 2)]
  | 34 => [(K.whlWheelStatus, 1, 0b1001)]
  | 35 => [(K.encsStatus 0, 4, 0x18)]
  | 37 => [(K.encsStatus 0, 4, 0x07)]
  | 40 => [(K.cmpCmpStatus 0, 16, 7)]
  | 42 => [(K.whlWheelStatus, 1, 4)]
  | 64 => [(K.camstStatus 0, 12, 0x100)]
  | 65 => [(K.camstStatus 0, 12, 0x001)]
  | 66 => [(K.camstStatus 0, 12, 0x002)]
  | 67 => [(K.camstStatus 0, 12, 0x07C)]
  | 68 => [(K.camstStatus 0, 12, 0x080)]
  | 70 => [(K.camstStatus 0, 12, 0x600)]
  | 72 => [(K.ctxsStatus 0, 12, 1)]
  | 73 => [(K.ctxsStatus 0, 12, 2)]
  | 74 => [(K.ctxsStatus 0, 12, 0x18)]
  | 75 => [(K.ctxsStatus 0, 12, 4)]
  | 76 => [(K.seamsStatus, 1, 1)]
  | 77 => [(K.seamsStatus, 1, 4), (K.viewsViewStatus 0, 8, 4)]
  | 78 => [(K.seamsStatus, 1, 8)]
  | 79 => [(K.codsCodingStatus, 1, 1)]
  | 81 => [(K.winsWinStatus 0, 2, 1)]
  | 82 => [(K.viewsViewStatus 0, 8, 3)]
  | 83 => [(K.umbsStatus, 1, 1)]
  | 84 => [(K.umbsStatus, 1, 2)]
  | 85 => [(K.umbsStatus, 1, 4)]
  | 86 => [(K.umbsStatus, 1, 16)]
  | 87 => [(K.umbsStatus, 1, 8)]
  | 88 => [(K.umbsStatus, 1, 32)]
  | 89 => [(K.umbsStatus, 1, 64)]
  | 96 => [(K.slipStatus, 1, 1)]
  | 97 => [(K.slipStatus, 1, 2)]
  | 98 => [(K.slipStatus, 1, 4)]
  | 99 => [(K.slipStatus, 1, 8)]
  | 100 => [(K.slipStatus, 1, 16)]
  | 102 => [(K.glzStatus, 1, 1)]
  | 104 => [(K.loopsStatus, 1, 3)]
  | 105 => [(K.loopsStatus, 1, 4)]
  | 106 => [(K.loopsStatus, 1, 0x18)]
  | 107 => [(K.loopsStatus, 1, 0xE0)]
  | 108 => [(K.loopsStatus, 1, 0x300)]
  | 110 => [(K.loopsStatus, 1, 0x1C00)]
  | 112 => [(K.dramMemStatus, 1, 1)]
  | 113 => [(K.dcsChannelStatus 0, 4, 1)]
  | 114 => [(K.dcsChannelStatus 0, 4, 6)]
  | 115 => [(K.poolPoolStatus, 1, 3)]
  | 116 => [(K.qsQueueStatus 0, 64, 3)]
  | 121 => [(K.zesEngineStatus 0, 6, 2)]
  | 122 => [(K.zesEngineStatus 0, 6, 1)]
  | 123 => [(K.zesEngineStatus 0, 6, 4)]
  | 128 => [(K.spsPortStatus 0, 2, 1)]
  | 129 => [(K.spsPortStatus 0, 2, 2)]
  | 130 => [(K.spsPortStatus 0, 2, 4)]
  | 131 => [(K.sklLinkStatus, 1, 2)]
  | 132 => [(K.sklLinkStatus, 1, 4)]
  | 133 => [(K.sklLinkStatus, 1, 1)]
  | 134 => [(K.spsPortStatus 0, 2, 0x18), (K.sklLinkStatus, 1, 8)]
  | 160 => [(K.ethsPortStatus 0, 2, 1)]
  | 161 => [(K.ethsPortStatus 0, 2, 2)]
  | 162 => [(K.ethsPortStatus 0, 2, 0xC)]
  | 192 => [(K.pciePcieStatus, 1, 1)]
  | 193 => [(K.pciePcieStatus, 1, 0b01110)]
  | 194 => [(K.pciePcieStatus, 1, 0b10000)]
  | 208 => [(K.kbarBarStatus 0, 16, 1)]
  | 210 => [(K.khHeadStatus 0, 128, 2)]
  | 211 => [(K.kpPortStatus 0, 32, 4)]
  | 214 => [(K.khHeadStatus 0, 128, 1)]
  | 215 => [(K.khHeadStatus 0, 128, 0b11100)]
  | 216 => [(K.gasStatus 0, 16, 1)]
  | 217 => [(K.gasStatus 0, 16, 2)]
  | 218 => [(K.gasStatus 0, 16, 4)]
  | 219 => [(K.gasStatus 0, 16, 8)]
  | _ => []

/-- A DMA channel is HALTED on an error (source 118, R389). -/
def State.dmaHalted (s : State) : Bool :=
  (List.range 32).any fun c => s.rd (K.dmasChannelState c) == 5 && (tget {} s.dmas c).haltedOnError

/-- The condition of a source's "Pending while" column holds (R429). -/
def State.pendingWhile (s : State) (src : Nat) : Bool :=
  (sourceFlags src).any (fun f => (List.range f.2.1).any fun n => decide (s.rd (f.1 + 256 * n) &&& f.2.2 ≠ 0)) ||
  (match src with
   | 1 => s.dev == stFault
   | 36 => s.rd K.whlActiveMaster < 4 && bitOf (s.rd (K.encsStatus (s.rd K.whlActiveMaster))) 5
   | 38 => (List.range 8).any fun p => s.on (K.prbEnable p) && decide (s.rd (K.prbFill p) ≠ 0)
   | 118 => s.dmaHalted
   | _ => false)

end Sys2Proof.Machine
end

