-- ==== Sys2Proof/Machine/Operands.lean ====
section
/-! DEFINITION. The operand forms of a command that is a dictionary access: paths and owner classes, which entries are
served, the checks of R39 in their order, the value a write carries (R30, R36, R37), and the record every access leaves
(R40). -/

namespace Sys2Proof.Machine

/-- The owner class of a path: 0 HOST, 1 CORE, 2 NET, 3 LINK (R41). -/
def pathClass (p : Nat) : Nat := if p = 0 then 0 else if p ≤ 4 then 1 else if p = 5 then 2 else 3

/-- The access is made on a secure path: HOST when it has passed the challenge, any other path as the access says. -/
def State.secureAcc (s : State) (a : Acc) : Bool := if a.path = 0 then s.on (K.pathSecure 0) else a.secure

/-- The path is a flat window: PCIe BAR0 or the core window (R35). -/
def flat (a : Acc) : Bool := Nat.ble a.path 4

/-- Owner and security of an index at reset, in the layout of R44 without Present: R63, R129, R153, R225, R298, R438, R469,
R474, R498, R528, R529, R531, R558, R560, R561. An index whose chapter names none is HOST and OPEN (log 5). -/
def ownAttr (idx : Nat) : Nat :=
  if 0x1111 ≤ idx ∧ idx ≤ 0x1114 then 1
  else if idx = 0x1115 then 2
  else if idx = 0x1116 then 3
  else if idx = 0x1130 ∨ idx = 0x1210 ∨ idx = 0x1232 ∨ idx = 0x1240 ∨ idx = 0x1603 ∨ idx = 0x5000 then 0x31
  else if idx = 0x1140 ∨ idx = 0x1230 ∨ idx = 0x1602 ∨ idx = 0x1800 ∨ idx = 0x2830 ∨ idx = 0x5040 ∨ idx = 0x5401 then 1
  else if 0x2430 ≤ idx ∧ idx ≤ 0x243B then 1
  else if 0x3440 ≤ idx ∧ idx ≤ 0x34BF then 1
  else if 0x4830 ≤ idx ∧ idx ≤ 0x4833 then 1
  else 0

/-- The ownership byte of an index at reset (R44). -/
def ownDflt (idx : Nat) : Nat := if indexPresent idx then 0x80 + ownAttr idx else 0

/-- The ownership byte of an index (R44). -/
def State.ownByte (s : State) (idx : Nat) : Nat := (tfind s.own idx).getD (ownDflt idx)

/-- The owner class of an index. -/
def State.owner (s : State) (idx : Nat) : Nat := s.ownByte idx % 4
/-- The index is locked until reset. -/
def State.locked (s : State) (idx : Nat) : Bool := bitOf (s.ownByte idx) 6
/-- The index is SECURE. -/
def State.secureIdx (s : State) (idx : Nat) : Bool := bitOf (s.ownByte idx) 5

/-- The ranges served to every path in BOOT before an image is accepted (R545). -/
def bootServed (idx : Nat) : Bool :=
  (Nat.ble 0x1000 idx && Nat.blt idx 0x1100) || (Nat.ble 0x1200 idx && Nat.blt idx 0x1400) ||
  (Nat.ble 0x1600 idx && Nat.blt idx 0x1800) || Nat.ble 0x5400 idx

/-- The device state allows a read of the index on the path (R28, R545). -/
def State.readServed (s : State) (p idx : Nat) : Bool :=
  if s.dev = stReset then false
  else if s.dev = stBoot then bootServed idx || (s.boot.accepted && Nat.ble 1 p && Nat.ble p 4)
  else true

/-- The device state allows a write of the entry on the path (R28, R537, R545). -/
def State.writeServed (s : State) (p k : Nat) : Bool :=
  if s.dev = stFault ∨ s.dev = stFenced then k == K.rstResetRequest else s.readServed p (k / 256)

/-- The width of a type in bits (R30); a DOMAIN has none. -/
def tyBits : Ty → Nat
  | .bool => 8
  | .u w => w
  | .i w => w
  | .q m n => m + n
  | .enum => 8
  | .bits w _ => w
  | .time => 80
  | .pos => 64
  | .domain _ => 0

/-- The type is read in two's complement. -/
def tySigned : Ty → Bool
  | .i _ => true
  | .q _ _ => true
  | .pos => true
  | _ => false

/-- The bits of a slot a write fills on a path: a TIME entry's slot in a flat window holds its 64-bit nanosecond count
(R37). -/
def accBits (isFlat : Bool) (t : Ty) : Nat := if isFlat ∧ t = .time then 64 else tyBits t

/-- Size check of a write (R36): 8 bytes or exactly the type's width, at the slot start; a record carries the value at its
type width (R57). -/
def sizeOk (a : Acc) (t : Ty) : Bool :=
  if flat a then a.offset == 0 && (a.size == 8 || 8 * a.size == accBits true t) else 8 * a.size == tyBits t

/-- Size check of a flat read: 1, 2, 4 or 8 bytes, naturally aligned within the slot (R36). -/
def readSizeOk (a : Acc) : Bool :=
  !flat a || ((a.size == 1 || a.size == 2 || a.size == 4 || a.size == 8) && a.offset % a.size == 0 &&
    Nat.ble (a.offset + a.size) 8)

/-- In an 8-byte write the bytes above the type's width are its sign or zero extension (R36). -/
def extOk (a : Acc) (t : Ty) : Bool :=
  let w := accBits (flat a) t
  if tySigned t then a.value % 2 ^ 64 == ofI 64 (toI w a.value) || !(flat a && a.size == 8)
  else Nat.blt (a.value % 2 ^ (8 * a.size)) (2 ^ w)

/-- The raw value a write carries for a type: reserved bits of a BITSET are dropped (R10); a flat TIME write sets the
fraction to zero and a record carries it after the nanoseconds (R37). -/
def accRaw (a : Acc) (t : Ty) : Nat :=
  match t with
  | .time => if flat a then (a.value % 2 ^ 64) * 65536 else (a.value % 2 ^ 64) * 65536 + a.value / 2 ^ 64 % 65536
  | .bits _ m => a.value &&& m
  | t => a.value % 2 ^ tyBits t

/-- A value is within its row's limits (R39, check 8). -/
def limOk (t : Ty) (l : Lim) (v : Nat) : Bool :=
  match l with
  | .any => true
  | .rng lo hi => let x : Int := if tySigned t then toI (tyBits t) v else v
                  decide (lo ≤ x) && decide (x ≤ hi)
  | .vals l => l.contains v
  | .mult m => v % m == 0
  | .multRng m lo hi => v % m == 0 && Nat.ble lo v && Nat.ble v hi
  | .rngOr lo hi w => (Nat.ble lo v && Nat.ble v hi) || v == w

/-- Check 8 of R39: in range for its type and within its row's limits; a zero in a length, count or size field is left to
check 9 and R48. -/
def valueOk (r : Row) (v : Nat) : Bool :=
  (r.len && v == 0) || (limOk r.ty r.lim v && (match r.ty with | .bool => Nat.ble v 1 | _ => true))

/-- Check 3 of R39 for a write (R31, R53): 0, ERR_ACCESS, or ERR_STATE for an RWS entry outside STOPPED. -/
def State.writeKind (s : State) (r : Row) : Nat :=
  match r.acc with
  | .ro => 2
  | .rws => if s.dev = stStopped then 0 else 3
  | _ => 0

/-- The entry belongs to what a pending commit holds: a STAGED entry or the Commit entry (R50). -/
def State.heldByCommit (s : State) (r : Row) (k : Nat) : Bool :=
  (decide (r.acc = .staged) || (k % 256 == 0xFF && groupStaged (k / 256))) && s.rd (K.commit (k / 256)) == 1

/-- Checks 1 to 6 of R39 for a write; `own` exempts OwnCommand from the owner check (R43). -/
def State.writeAllowed (s : State) (a : Acc) (k : Nat) : Nat :=
  match rowOf k with
  | none => 1
  | some r =>
    if ¬ s.writeServed a.path k then 3
    else if s.writeKind r ≠ 0 then s.writeKind r
    else if s.secureIdx (k / 256) ∧ ¬ s.secureAcc a then 4
    else if s.owner (k / 256) ≠ pathClass a.path ∧ k ≠ K.ownOwnCommand then 5
    else if s.locked (k / 256) then 6
    else 0

/-- Checks 7 to 10 of R39 for a write of a value; a record's WRITE names no DOMAIN (R57). -/
def State.writeFits (s : State) (a : Acc) (k : Nat) : Nat :=
  match rowOf k with
  | none => 1
  | some r =>
    match r.ty with
    | .domain _ => 7
    | t =>
      if ¬ sizeOk a t then 7
      else if ¬ extOk a t then 8
      else if ¬ valueOk r (accRaw a t) then 8
      else if r.len ∧ accRaw a t = 0 ∧ r.acc ≠ .staged then 10
      else if s.heldByCommit r k then 9
      else 0

/-- A served write to a DOMAIN's slot in a flat window: no access kind allows it (R53). -/
def State.domainSlot (s : State) (a : Acc) (k : Nat) : Bool :=
  match rowOf k with
  | none => false
  | some r => match r.ty with | .domain _ => flat a && s.writeServed a.path k | _ => false

/-- The status of a write by R39. A DOMAIN's slot in a flat window is refused with ERR_ACCESS at check 3 (R53). -/
def State.writeStatus (s : State) (a : Acc) (k : Nat) : Nat :=
  if s.domainSlot a k then 2
  else match s.writeAllowed a k with
    | 0 => s.writeFits a k
    | st => st

/-- The raw value a write carries for the entry `k`. -/
def accVal (a : Acc) (k : Nat) : Nat :=
  match rowOf k with
  | some r => accRaw a r.ty
  | none => 0

/-- What every access leaves (R40, R63): counted, its status and entry kept for its path, and a refusal counted, kept and
raised as DICT_ERROR. -/
def State.done (s : State) (a : Acc) (k st : Nat) : State :=
  let s := ((s.inc 64 K.dictAccessCount).wr (K.pathLastStatus a.path) st).wr (K.pathLastEntry a.path) k
  if st = 0 then s else
  (((((s.inc 32 (K.pathErrorCount a.path)).inc 32 K.dictErrorCount).wr K.dictLastErrorPath a.path).wr
    K.dictLastErrorStatus st).wr K.dictLastErrorEntry k).raise Ev.dictError

/-- A write to an entry that acts: R39's checks, then the entry's own refusals (`own`, a status of R40 or 0), then its
effect. The order of the effect and the record of the access does not show: no effect changes the record. -/
def State.act (s : State) (a : Acc) (k : Nat) (own : Nat) (eff : State → State) : State :=
  let st := match s.writeStatus a k with | 0 => own | st => st
  if st = 0 then (eff s).done a k 0 else s.done a k st

/-- Checks 1 to 3 and the size check of R36 for a read. -/
def State.readStatus (s : State) (a : Acc) (k : Nat) : Nat :=
  match rowOf k with
  | none => 1
  | some r =>
    if ¬ s.readServed a.path (k / 256) then 3
    else if r.acc = .wo then 2
    else if ¬ readSizeOk a then 7
    else 0

/-- The value a read of `size` bytes at `offset` sees of a 64-bit slot (R36). -/
def slotPart (a : Acc) (v : Nat) : Nat := if flat a then v / 2 ^ (8 * a.offset) % 2 ^ (8 * a.size) else v

/-- The 64-bit slot of a raw value: signed types are sign-extended, a TIME entry shows its nanosecond count in a flat window
(R36, R37); a record carries the value at its type width. -/
def slotOf (isFlat : Bool) (t : Ty) (v : Nat) : Nat :=
  match t with
  | .time => if isFlat then v / 65536 else v / 65536 + (v % 65536) * 2 ^ 64
  | t => if isFlat ∧ tySigned t then ofI 64 (toI (tyBits t) v) else v

/-- A read leaves its value for the path and its record. -/
def State.readDone (s : State) (a : Acc) (k st v : Nat) : State :=
  { s.done a k st with readData := tput s.readData a.path (if st = 0 then slotPart a v else 0) }

/-- An instance operand names an instance of the device; any other stops the command by name. -/
def inst (ok : Bool) (s : State) : Host.Outcome State Fault Refusal := if ok then .next s else .fault .noSuchInstance

end Sys2Proof.Machine
end

