-- ==== Sys2Proof/Machine/Irq.lean ====
section
/-! DEFINITION. The interrupt controller's commands (R423 to R432): claims, completes, masks and pending bits, hold-off. -/

namespace Sys2Proof.Machine

/-- The sources R424 allots; every other number below 256 is reserved and never becomes pending. -/
def srcAllotted (n : Nat) : Bool :=
  (Nat.ble 1 n && Nat.ble n 26) || (Nat.ble 32 n && Nat.ble n 42) || (Nat.ble 64 n && Nat.ble n 90) ||
  (Nat.ble 96 n && Nat.ble n 102) || (Nat.ble 104 n && Nat.ble n 110) || (Nat.ble 112 n && Nat.ble n 118) ||
  (Nat.ble 120 n && Nat.ble n 123) || (Nat.ble 128 n && Nat.ble n 220) || (Nat.ble 256 n && Nat.ble n 511)

/-- The bits of word `w` that stand for allotted sources. -/
def allottedMask (w : Nat) : Nat :=
  (List.range 64).foldl (fun m i => if srcAllotted (64 * w + i) then setBits m (2 ^ i) else m) 0

/-- Clear a source's pending bit. -/
def State.clearPending (s : State) (src : Nat) : State :=
  s.wr (K.pendPending (src / 64)) (clearBits (s.rd (K.pendPending (src / 64))) (srcBit src))

/-- Set a source's pending bit. -/
def State.setPending (s : State) (src : Nat) : State :=
  s.wr (K.pendPending (src / 64)) (setBits (s.rd (K.pendPending (src / 64))) (srcBit src))

/-- A claim starts the hold-off timer of the source's group, or restarts it (R430). -/
def State.startHoldOff (s : State) (src : Nat) : State :=
  let c := s.rd (K.srcConfig src)
  let g := field c 12 8
  if bitOf c 15 ∧ s.rd (K.holdHoldOff g) ≠ 0 then
    { s.wr K.holdsHoldOffRunning (setBits (s.rd K.holdsHoldOffRunning) (2 ^ g)) with
      holdEnds := tput s.holdEnds g (s.now + us (s.rd (K.holdHoldOff g))) }
  else s

/-- A source is released at the end of its service (R429): it becomes pending again when its Count is non-zero or its
"Pending while" condition still holds. -/
def State.irqRelease (s : State) (t : Nat) : State :=
  let src := s.rd (K.tgtHolding t)
  if src = 1023 then s else
  let s := s.wr (K.pendInService (src / 64)) (clearBits (s.rd (K.pendInService (src / 64))) (srcBit src))
  let s := s.wr (K.tgtHolding t) 1023
  if s.rd (K.srcCount src) ≠ 0 ∨ s.pendingWhile src then s.setPending src else s

/-- The claimed source leaves the pending set and, outside FAULT and FENCED, enters service (R427, R429). -/
def State.takeClaim (s : State) (t src : Nat) : State :=
  let s := { (s.clearPending src).wr (K.srcCount src) 0 with arrived := terase s.arrived src }
  let s := s.inc 64 (K.tgtClaims t)
  let s := s.startHoldOff src
  if s.dev = stFault ∨ s.dev = stFenced then
    if t = 4 then ({ s with msix := { s.msix with waiting := false } }).hostSignal else s
  else
    (s.wr (K.pendInService (src / 64)) (setBits (s.rd (K.pendInService (src / 64))) (srcBit src))).wr (K.tgtHolding t) src

/-- The source a claim by target `t` returns: the highest eligible one, none while the target holds a claim (R427). -/
def State.claimable (s : State) (t : Nat) : Option Nat := if s.irqIdle t then s.irqBest t else none

/-- A claim read returning a value: as any read leaves it, but ERR_OWNER too returns source 1023 (R427). -/
def State.claimDone (s : State) (a : Acc) (t st v : Nat) : State :=
  { s.done a (K.tgtClaim t) st with readData := tput s.readData a.path (slotPart a v) }

/-- CLAIM (R427): a read of the Claim entry of target `t`. -/
def claimRead (a : Acc) (t : Nat) (s : State) : State :=
  match s.readStatus a (K.tgtClaim t) with
  | 0 =>
    if a.path ≠ (if t = 4 then 0 else t + 1) then s.claimDone a t 5 1023
    else
      match s.claimable t with
      | some src => (s.takeClaim t src).claimDone a t 0 (src + 2 ^ 24 * s.rd (K.srcCount src))
      | none =>
        let s := s.inc 32 (K.tgtSpuriousClaims t)
        let s := if t = 4 ∧ s.irqIdle 4 then ({ s with msix := { s.msix with waiting := false } }).hostSignal else s
        s.claimDone a t 0 1023
  | st => s.readDone a (K.tgtClaim t) st 0

/-- CLAIM. -/
def execClaim (a : Acc) (t : Nat) (s : State) : Host.Outcome State Fault Refusal := inst (Nat.blt t 5) (claimRead a t s)

/-- COMPLETE (R429): a write of the source the target holds ends its service; any other write is refused with ERR_RANGE. -/
def completeWrite (a : Acc) (t : Nat) (s : State) : State :=
  s.act a (K.tgtComplete t)
    (if s.irqIdle t ∨ accVal a (K.tgtComplete t) ≠ s.rd (K.tgtHolding t) then 8 else 0)
    fun s =>
      let s := s.irqRelease t
      if t = 4 then ({ s with msix := { s.msix with waiting := false } }).hostSignal else s.hostSignal

/-- COMPLETE. -/
def execComplete (a : Acc) (t : Nat) (s : State) : Host.Outcome State Fault Refusal :=
  inst (Nat.blt t 5) (completeWrite a t s)

/-- MASK_SET (R431): each 1 masks its source; the write takes full effect 8 CORECLK later. -/
def maskSetWrite (a : Acc) (w : Nat) (s : State) : State :=
  s.act a (K.maskMaskSet w) 0 fun s =>
    { s.wr (K.maskMask w) (setBits (s.rd (K.maskMask w)) (accVal a (K.maskMaskSet w) &&& allottedMask w)) with
      maskSetAt := s.now + 1 }

/-- MASK_SET. -/
def execMaskSet (a : Acc) (w : Nat) (s : State) : Host.Outcome State Fault Refusal :=
  inst (Nat.blt w 8) (maskSetWrite a w s)

/-- MASK_CLEAR_WORD (R431): each 1 unmasks its source. -/
def maskClearWordWrite (a : Acc) (w : Nat) (s : State) : State :=
  s.act a (K.maskMaskClear w) 0 fun s =>
    (s.wr (K.maskMask w) (clearBits (s.rd (K.maskMask w)) (accVal a (K.maskMaskClear w)))).hostSignal

/-- MASK_CLEAR_WORD. -/
def execMaskClearWord (a : Acc) (w : Nat) (s : State) : Host.Outcome State Fault Refusal :=
  inst (Nat.blt w 8) (maskClearWordWrite a w s)

/-- PENDING_SET (R431): each 1 makes its source pending without an arrival. -/
def pendingSetWrite (a : Acc) (w : Nat) (s : State) : State :=
  s.act a (K.pendPendingSet w) 0 fun s =>
    (s.wr (K.pendPending w) (setBits (s.rd (K.pendPending w)) (accVal a (K.pendPendingSet w) &&& allottedMask w))).hostSignal

/-- PENDING_SET. -/
def execPendingSet (a : Acc) (w : Nat) (s : State) : Host.Outcome State Fault Refusal :=
  inst (Nat.blt w 8) (pendingSetWrite a w s)

/-- PENDING_CLEAR (R431): each 1 clears its source's pending bit. -/
def pendingClearWrite (a : Acc) (w : Nat) (s : State) : State :=
  s.act a (K.pendPendingClear w) 0 fun s =>
    s.wr (K.pendPending w) (clearBits (s.rd (K.pendPending w)) (accVal a (K.pendPendingClear w)))

/-- PENDING_CLEAR. -/
def execPendingClear (a : Acc) (w : Nat) (s : State) : Host.Outcome State Fault Refusal :=
  inst (Nat.blt w 8) (pendingClearWrite a w s)

/-- Every MaskSet executed before has passed its 8 CORECLK, which are 16/3 FABCLK (R431, R534). `maskSetAt` holds the
moment of the last one plus 1, 0 for none. -/
def State.masksSettled (s : State) : Bool := s.maskSetAt == 0 || Nat.ble (3 * s.maskSetAt + 13) (3 * s.now)

/-- MASK_SYNC (R431): a read returns 0 once every earlier MaskSet has taken effect; before that some other value, which the
spec leaves open. -/
def maskSyncRead (a : Acc) (s : State) : State :=
  let st := s.readStatus a K.msyncMaskSync
  if s.masksSettled then s.readDone a K.msyncMaskSync st 0
  else (s.fresh.2).readDone a K.msyncMaskSync st (s.fresh.1 % 255 + 1)

/-- MASK_SYNC. -/
def execMaskSync (a : Acc) (s : State) : Host.Outcome State Fault Refusal := .next (maskSyncRead a s)

/-- HOLD_OFF_END (R430): the group's timer ends and its pending sources become eligible. -/
def holdOffEnd (g : Nat) (s : State) : State :=
  match tfind s.holdEnds g with
  | none => s
  | some t =>
    let s := s.at t
    ({ s.wr K.holdsHoldOffRunning (clearBits (s.rd K.holdsHoldOffRunning) (2 ^ g)) with
       holdEnds := terase s.holdEnds g }).hostSignal

/-- HOLD_OFF_END. -/
def execHoldOffEnd (g : Nat) (s : State) : Host.Outcome State Fault Refusal := inst (Nat.blt g 32) (holdOffEnd g s)

/-- Messages held in the pending bit array are sent once when their vector and the function are unmasked and the device may master
the bus (R432, R480). -/
def msixFlush : List Nat → State → State
  | [], s => s
  | v :: l, s =>
    if bitOf s.msix.pba v ∧ ¬ bitOf s.msix.vecMask v ∧ ¬ s.msix.funcMask ∧ s.on K.pcieBusMaster then
      msixFlush l { s with msix := { s.msix with pba := clearBits s.msix.pba (2 ^ v), sent := s.msix.sent ++ [v] } }
    else msixFlush l s

/-- What the host changes in its MSI-X function. -/
def msixChange (u : MsixOp) (m : Msix) : Msix :=
  match u with
  | .unmaskVector v => { m with vecMask := clearBits m.vecMask (2 ^ v) }
  | .unmaskFunction => { m with funcMask := false }
  | .enable => { m with enabled := true }

/-- MSIX_UNMASK (R432); enabling MSI-X lets the host target be signalled. -/
def msixUnmask (u : MsixOp) (s : State) : State :=
  (msixFlush (List.range 64) { s with msix := msixChange u s.msix }).hostSignal

/-- MSIX_UNMASK. -/
def execMsixUnmask (u : MsixOp) (s : State) : Host.Outcome State Fault Refusal :=
  inst (match u with | .unmaskVector v => Nat.blt v 64 | _ => true) (msixUnmask u s)

end Sys2Proof.Machine
end

