-- ==== Sys2Proof/Machine/Fabric.lean ====
section
/-! DEFINITION. The event fabric's commands (R414 to R422): deliveries, task routes and coincidence counters. -/

namespace Sys2Proof.Machine

/-- A task input is busy (R415): a window's START while the window captures; LNK_SENDk from a delivery until its message stands in
every queue it leaves by (R460). The other inputs are never busy. -/
def State.taskBusy (s : State) (i : Nat) : Bool :=
  ((i == 2 || i == 3) && s.bit (K.winsWinStatus (i - 2)) 1) ||
  (Nat.ble 32 i && Nat.blt i 64 && (s.tasks.any (fun d => d.task == i) || s.skl.waits.any fun w => w.task == some i))

/-- A delivery to a busy input is lost (R420); a window sets its own OVERRUN too (R174). -/
def State.overrun (s : State) (i : Nat) : State :=
  let s := (s.wr (K.taskOverrun i) 1).inc 32 K.fabOverruns
  let s := if i = 2 ∨ i = 3 then s.flag (K.winsWinStatus (i - 2)) 1 81 else s
  s.flag K.fabFabricStatus 1 24

/-- Deliveries that reach one input together merge into one with the higher lineage (R421). -/
def State.coincide (s : State) (i : Nat) : State :=
  (s.wr (K.taskCoincide i) (sat 255 (s.rd (K.taskCoincide i) + 1))).flag K.fabFabricStatus 2 26

/-- Deliver to a task input: `n` of its channels carry a delivery in this FABCLK. -/
def State.deliverTask (s : State) (i n lin : Nat) : State :=
  let s := if 2 ≤ n then s.coincide i else s
  if s.taskBusy i then s.overrun i else { s with tasks := s.tasks ++ [{ task := i, lineage := lin, stamp := s.now }] }

/-- Deliver an event on one channel (R417): Delivered, LastLineage, the interrupt source and the Witness entry. -/
def State.deliverChannel (s : State) (ev lin c : Nat) : State :=
  let s := (s.inc 64 (K.chDelivered c)).wr (K.chLastLineage c) lin
  let s := if s.on (K.chToInterrupt c) then s.arrive (256 + c) else s
  if s.on (K.chToWitness c) then s.witness 0x30 (11 * 256 + c) lin ev 0 else s

/-- Deliver an event on its channels. -/
def deliverChannels (ev lin : Nat) : List Nat → State → State
  | [], s => s
  | c :: l, s => deliverChannels ev lin l (s.deliverChannel ev lin c)

/-- The deliveries at task inputs that a set of events raised in one FABCLK makes: input, number of channels, the highest
lineage; the fixed route WHL_STOP_REQ feeds DEV_STOP with lineage 0 (R416). -/
def addHit (i n lin : Nat) : List (Nat × Nat × Nat) → List (Nat × Nat × Nat)
  | [] => [(i, n, lin)]
  | (j, m, k) :: l => if i = j then (j, m + n, max k lin) :: l else (j, m, k) :: addHit i n lin l

/-- The merged deliveries of the events raised in one FABCLK. -/
def mergedHits : List Raised → List (Nat × Nat × Nat)
  | [] => []
  | r :: l => r.hits.foldr (fun h acc => addHit h.1 h.2 r.lineage acc) (mergedHits l)

/-- Deliver the merged deliveries. -/
def deliverTasks : List (Nat × Nat × Nat) → State → State
  | [], s => s
  | (i, n, lin) :: l, s => deliverTasks l (s.deliverTask i n lin)

/-- The fixed route of WHL_STOP_REQ (R416): it never sets a fabric flag. -/
def deliverFixed : List Raised → State → State
  | [], s => s
  | r :: l, s =>
    deliverFixed l (if r.num = Ev.whlStopReq then { s with tasks := s.tasks ++ [{ task := 0, lineage := 0, stamp := s.now }] }
                    else s)

/-- Deliver each event's channels. -/
def deliverEvents : List Raised → State → State
  | [], s => s
  | r :: l, s => deliverEvents l (deliverChannels r.num r.lineage r.chans s)

/-- EVENT_DELIVERY (R417): the events raised in the earliest FABCLK are delivered two FABCLK after it. -/
def eventDelivery (s : State) : State :=
  match s.raised with
  | [] => s
  | r :: _ =>
    let batch := s.raised.filter fun x => x.stamp == r.stamp
    let s := ({ s with raised := s.raised.filter fun x => x.stamp != r.stamp }).at (r.stamp + 2)
    deliverFixed batch (deliverTasks (mergedHits batch) (deliverEvents batch s))

/-- EVENT_DELIVERY. -/
def execEventDelivery (s : State) : Host.Outcome State Fault Refusal := .next (eventDelivery s)

/-- R418: whether a channel may be added to or removed from a route on this path. -/
def State.channelAllows (s : State) (a : Acc) (c : Nat) : Nat :=
  let idx := 0x4700 + c
  if s.owner idx ≠ pathClass a.path then 5
  else if s.secureIdx idx ∧ ¬ s.secureAcc a then 4
  else if s.locked idx then 6
  else 0

/-- The channels a TaskRoute value names. -/
def routeChannels (v : Nat) : List Nat := [v % 65536, v / 65536 % 65536].filter (Nat.blt · 256)

/-- The channels a TaskRoute write adds or removes, ascending (R418). -/
def routeChanged (old new : Nat) : List Nat :=
  let o := routeChannels old
  let n := routeChannels new
  (List.range 256).filter fun c => o.contains c != n.contains c

/-- The first failure among the channels a write changes (R418). -/
def State.routeCheck (s : State) (a : Acc) : List Nat → Nat
  | [] => 0
  | c :: l => match s.channelAllows a c with | 0 => s.routeCheck a l | st => st

/-- A channel value names a channel or none (R434). -/
def routeValueOk (v : Nat) : Bool :=
  (Nat.blt (v % 65536) 256 || v % 65536 == 0xFFFF) && (Nat.blt (v / 65536) 256 || v / 65536 == 0xFFFF)

/-- TASK_ROUTE (R418): the checks of the channels come after checks 1 to 6 of R39 and before check 7. -/
def taskRouteWrite (a : Acc) (i : Nat) (s : State) : State :=
  let k := K.taskRoute i
  match s.writeAllowed a k with
  | 0 =>
    match s.routeCheck a (routeChanged (s.rd k) (accVal a k)) with
    | 0 =>
      match s.writeFits a k with
      | 0 => if routeValueOk (accVal a k) then (s.wr k (accVal a k)).done a k 0 else s.done a k 8
      | st => s.done a k st
    | st => s.done a k st
  | st => s.done a k st

/-- TASK_ROUTE. -/
def execTaskRoute (a : Acc) (i : Nat) (s : State) : Host.Outcome State Fault Refusal :=
  inst (Nat.blt i 256) (taskRouteWrite a i s)

/-- TASK_COINCIDE (R421): a write stores the value written. -/
def taskCoincideWrite (a : Acc) (i : Nat) (s : State) : State :=
  s.act a (K.taskCoincide i) 0 fun s => s.wr (K.taskCoincide i) (accVal a (K.taskCoincide i))

/-- TASK_COINCIDE. -/
def execTaskCoincide (a : Acc) (i : Nat) (s : State) : Host.Outcome State Fault Refusal :=
  inst (Nat.blt i 256) (taskCoincideWrite a i s)

/-- The first delivery standing at a task input, and the state without it. -/
def State.takeTask (s : State) (i : Nat) : Option (Delivery × State) :=
  match s.tasks.find? fun d => d.task == i with
  | some d => some (d, { s with tasks := s.tasks.erase d })
  | none => none

end Sys2Proof.Machine
end

