-- ==== Sys2Proof/Machine/Pins.lean ====
section
/-! DEFINITION. The general I/O pins (R92, R93): which function holds a pin, and the level compare outputs give it. -/

namespace Sys2Proof.Machine

/-- Ball codes of the levels the device drives: general I/O 0 to 31, then the Mirror outputs. -/
abbrev ballGpio (n : Nat) : Nat := n
abbrev ballMirA (m : Nat) : Nat := 0x100 + m
abbrev ballMirB (m : Nat) : Nat := 0x104 + m
abbrev ballMirZ (m : Nat) : Nat := 0x108 + m

/-- Drive a ball. -/
def State.drive (s : State) (ball : Nat) (level : Bool) : State := { s with pins := tput s.pins ball (b2n level) }

/-- Stop driving a ball. -/
def State.release (s : State) (ball : Nat) : State := { s with pins := terase s.pins ball }

/-- A compare unit's record. -/
def State.cmp (s : State) (m : Nat) : Cmp := tget {} s.cmps m

/-- Set a compare unit's record. -/
def State.setCmp (s : State) (m : Nat) (c : Cmp) : State := { s with cmps := tput s.cmps m c }

/-- The compare units whose live set names a pin. -/
def State.pinUsers (s : State) (pin : Nat) : List Nat :=
  (List.range 16).filter fun m => s.rd (K.cmpOutputPin m) == pin

/-- The compare units that hold a pin: the live set or a pending commit names it (R93). -/
def State.pinHolders (s : State) (pin : Nat) : List Nat :=
  (List.range 16).filter fun m =>
    s.rd (K.cmpOutputPin m) == pin || (s.rd (K.commit (0x2040 + m)) == 1 && s.sh (K.cmpOutputPin m) == pin)

/-- The pin that SpeedLimitPin, PpsPin and WakePin name. -/
def State.otherPins (s : State) : List Nat := [s.rd K.kilnSpeedLimitPin, s.rd K.ppsPpsPin, s.rd K.pwrWakePin]

/-- A write of SpeedLimitPin, PpsPin or WakePin may name the pin (R93): no compare unit and none of the other two entries
holds it; a number that is no pin names none. -/
def State.pinFree (s : State) (entry pin : Nat) : Bool :=
  !Nat.blt pin 32 ||
  ((s.pinHolders pin).isEmpty &&
   ([K.kilnSpeedLimitPin, K.ppsPpsPin, K.pwrWakePin].filter (· != entry)).all fun k => s.rd k != pin)

/-- The level a pin's compare units give it (R28, R92): SafeLevel in STANDBY and FAULT, inactive in FENCED, else active while
any of them drives it. -/
def State.cmpLevel (s : State) (users : List Nat) : Bool :=
  let m := users.headD 0
  let act := s.on (K.cmpActiveLevel m)
  if s.dev = stStandby ∨ s.dev = stFault then s.on (K.cmpSafeLevel m)
  else if s.dev = stFenced then !act
  else if users.any fun u => (s.cmp u).pulse.isSome then act else !act

/-- Drive a pin as its compare units say; a pin no function holds is an input (R93). -/
def State.refreshPin (s : State) (pin : Nat) : State :=
  match s.pinUsers pin with
  | [] => if s.otherPins.contains pin then s else s.release (ballGpio pin)
  | us => s.drive (ballGpio pin) (s.cmpLevel us)

/-- Drive every pin as its compare units say. -/
def State.refreshPins (s : State) : State := (List.range 32).foldl State.refreshPin s

/-- Whether any unit of a pin is driving it. -/
def State.pinActive (s : State) (pin : Nat) : Bool := (s.pinUsers pin).any fun u => (s.cmp u).pulse.isSome

/-- DEV_FAULT_N is pulled low while DeviceState is RESET, BOOT, FAULT or FENCED (R571); false is low, true is released. -/
def State.faultReleased (s : State) : Bool := s.dev != stReset && s.dev != stBoot && s.dev != stFault && s.dev != stFenced

/-- WHL_CLKEN[n] is high while channel n is in mode BISS or SSI (R571). -/
def State.wheelClkEn (s : State) (n : Nat) : Bool := s.rd (K.encMode n) == 2 || s.rd (K.encMode n) == 3

/-- MIR_EN[n] is high in every state but RESET (R571). -/
def State.mirEn (s : State) : Bool := s.dev != stReset

end Sys2Proof.Machine
end

