-- ==== Sys2Proof/Machine/Halt.lean ====
section
/-! DEFINITION. Entering FAULT and FENCED (R25, R26, R28, R52, R54, R429, R509, R510): what every unit does when the device
stops for a fatal fault or a stale epoch. -/

namespace Sys2Proof.Machine

/-- The groups whose commit is PENDING, by index. -/
def State.pendingGroups (s : State) : List Nat :=
  s.regs.filterMap fun e => if e.1 % 256 = 0xFF ∧ e.2 = 1 ∧ groupStaged (e.1 / 256) then some (e.1 / 256) else none

/-- Reload a group's Shadow bank from the live set (R50). -/
def State.reloadShadow (s : State) (idx : Nat) : State :=
  { s with shadow := tkeep (fun k => k / 256 != idx) s.shadow,
           shDom := tkeep (fun k => k / 2 ^ 40 != idx) s.shDom,
           shDomLens := tkeep (fun k => k / 256 != idx) s.shDomLens }

/-- Free the sherds a pending commit had reserved (R367). -/
def State.freePending (s : State) (idx : Nat) : State :=
  let h := s.sherdsOf idx
  if h.pend = 0 then s else
  ({ s with sherds := tput s.sherds idx { h with pend := 0 } }).setSherdsFree (s.rd K.poolSherdsFree + h.pend)

/-- Drop a pending commit (R52): its Shadow bank is reloaded, its sherds are freed and Commit reads DISCARDED. -/
def State.dropCommit (s : State) (idx : Nat) : State :=
  ((s.reloadShadow idx).freePending idx).wr (K.commit idx) 5

/-- Drop every pending commit of a list of groups. -/
def dropCommits : List Nat → State → State
  | [], s => s
  | g :: l, s => dropCommits l (s.dropCommit g)

/-- End the domain transfers in progress with ERROR (R54). -/
def endXfers : List (Nat × Xfer) → State → State
  | [], s => { s with xfers := [] }
  | (p, _) :: l, s => endXfers l ((s.wr (K.pathDomStatus p) 3).raise Ev.dictDomainDone)

/-- Release every source in service as though completed (R429). -/
def releaseAll : List Nat → State → State
  | [], s => s
  | t :: l, s => releaseAll l (s.irqRelease t)

/-- What entry to FAULT or FENCED does in the dictionary and the interrupt controller; the other units stop by
`State.stopUnits`. In BOOT none of them runs. -/
def State.halt (s : State) : State :=
  let s := dropCommits s.pendingGroups s
  let s := endXfers s.xfers s
  let s := releaseAll [0, 1, 2, 3, 4] s
  ({ s with msix := { s.msix with waiting := false } }).hostSignal

/-- A fatal fault (R25, R26, R508, R509): in FAULT it only increments LaterFatals; in RESET there is no device to stop;
otherwise the record is set, FATAL and STATE are queued last and every unit stops. -/
def State.fatal (s : State) (code unit data : Nat) : State :=
  if s.dev = stReset then s
  else if s.dev = stFault then s.inc 32 K.fltLaterFatals
  else
    let s := (((s.wr K.fltFatalCode code).wr K.fltFatalTime s.time).wr K.fltFatalUnit unit).wr K.fltFatalData data
    let s := (s.raise Ev.fltFatal).arrive 1
    let s := s.witness 0xF0 unit 0 code data true
    let s := s.wr K.devStopCause 4
    (s.enter stFault true).halt

/-- The device learns that its role epoch is stale (R25, R26, R468): it enters FENCED from any state but RESET, FAULT and
FENCED itself. -/
def State.fence (s : State) : State :=
  if s.dev = stReset ∨ s.dev = stFault ∨ s.dev = stFenced then s
  else ((s.wr K.devStopCause 5).enter stFenced).halt

end Sys2Proof.Machine
end

