-- ==== Sys2Proof/Machine/Witness.lean ====
section
/-! DEFINITION. The Witness's commands (R520 to R526). -/

namespace Sys2Proof.Machine

/-- NextSequence − ReadSequence reaches HighMark: HIGH is set and FLT_WIT_HIGH raised (R526, R532). -/
def State.witnessHigh (s : State) : State :=
  let n := (s.rd K.witNextSequence + 2 ^ 32 - s.rd K.witReadSequence) % 2 ^ 32
  if s.rd K.witHighMark ≠ 0 ∧ s.rd K.witHighMark ≤ n ∧ ¬ s.bit K.witWitnessStatus 1 then
    (s.flag K.witWitnessStatus 2 11).raise Ev.fltWitHigh
  else s

/-- The ring freezes (R525); cause 1 FATAL, 2 SOFTWARE. -/
def State.freezeRing (s : State) (cause : Nat) : State :=
  if s.on K.witFrozen then s
  else (((s.wr K.witFrozen 1).wr K.witFreezeCause cause).arrive 10).raise Ev.fltWitFrozen

/-- The buffered entry is the STATE entry of entry to FAULT (R525). -/
def isFaultState (e : WReq) : Bool := e.kind == 1 && e.d0 % 256 == stFault

/-- WITNESS_WRITE (R520, R524, R525): the oldest buffered entry takes NextSequence's slot, with GAP when entries were dropped
before it; the STATE entry of entry to FAULT freezes the ring. While the ring is frozen the entry is dropped and counted. -/
def witnessWrite (s : State) : State :=
  match s.wbuf with
  | [] => s
  | e :: l =>
    let s := { s with wbuf := l }
    if s.on K.witFrozen then s.inc 32 K.witFrozenDrops
    else
      let q := s.rd K.witNextSequence
      let w : WEntry := { seq := q, kind := e.kind, unit := e.unit, time := e.time, lineage := e.lineage, gap := s.wgap,
                          d0 := e.d0, d1 := e.d1 }
      let s := { s with wring := tput s.wring (q % 8192) w, wgap := false }
      let s := (s.inc 32 K.witNextSequence).witnessHigh
      if isFaultState e then s.freezeRing 1 else s

/-- WITNESS_WRITE. -/
def execWitnessWrite (s : State) : Host.Outcome State Fault Refusal := .next (witnessWrite s)

/-- FREEZE (R525). A write of 0 asks for nothing. -/
def freezeWrite (a : Acc) (s : State) : State :=
  s.act a K.witFreeze 0 fun s => if accVal a K.witFreeze = 1 then s.freezeRing 2 else s

/-- FREEZE. -/
def execFreeze (a : Acc) (s : State) : Host.Outcome State Fault Refusal := .next (freezeWrite a s)

/-- RELEASE (R525): unfreezes the ring, writes RELEASE with FrozenDrops and clears the count; without effect when the ring is
not frozen. -/
def releaseWrite (a : Acc) (s : State) : State :=
  s.act a K.witRelease 0 fun s =>
    if accVal a K.witRelease = 1 ∧ s.on K.witFrozen then
      let n := s.rd K.witFrozenDrops
      (((s.wr K.witFrozen 0).wr K.witFreezeCause 0).wr K.witFrozenDrops 0).witness 3 0 0 0 n
    else s

/-- RELEASE. -/
def execRelease (a : Acc) (s : State) : Host.Outcome State Fault Refusal := .next (releaseWrite a s)

/-- MARK (R523): an SW_MARK entry with the value, of the writing path. -/
def markWrite (a : Acc) (s : State) : State :=
  s.act a K.witMark 0 fun s => s.witness 4 (21 * 256 + a.path) 0 (accVal a K.witMark) 0

/-- MARK. -/
def execMark (a : Acc) (s : State) : Host.Outcome State Fault Refusal := .next (markWrite a s)

/-- READ_SEQUENCE (R526): records what the host has read, and sets HIGH where the distance still reaches HighMark. -/
def readSequenceWrite (a : Acc) (s : State) : State :=
  s.act a K.witReadSequence 0 fun s => (s.wr K.witReadSequence (accVal a K.witReadSequence)).witnessHigh

/-- READ_SEQUENCE. -/
def execReadSequence (a : Acc) (s : State) : Host.Outcome State Fault Refusal := .next (readSequenceWrite a s)

end Sys2Proof.Machine
end

