-- ==== Sys2Proof/Machine/Cal.lean ====
section
/-! DEFINITION. Calibration runs (R514 to R519): what the end of any run leaves. -/

namespace Sys2Proof.Machine

/-- Positions of the records in CalTable (R519). -/
abbrev calCxl (l : Nat) : Nat := l
abbrev calLane (l : Nat) : Nat := 48 + l
abbrev calEth (p : Nat) : Nat := 56 + p
abbrev calDc (n : Nat) : Nat := 58 + n
abbrev calKp (p : Nat) : Nat := 62 + p
abbrev calGa (c : Nat) : Nat := 94 + c

/-- The kind code of a record (R515, R519). -/
def calKind (r : Nat) : Nat :=
  if r < 48 then 1 else if r < 56 then 2 else if r < 58 then 3 else if r < 62 then 4 else if r < 94 then 5 else 6

/-- The instance of a record. -/
def calInst (r : Nat) : Nat :=
  if r < 48 then r else if r < 56 then r - 48 else if r < 58 then r - 56 else if r < 62 then r - 58
  else if r < 94 then r - 62 else r - 94

/-- The unit of a record's Witness entry (R522): the camera channel of a CXL link, the lane, port, channel or input. -/
def calUnit (r : Nat) : Nat :=
  match calKind r with
  | 1 => 2 * 256 + calInst r / 4
  | 2 => 12 * 256 + calInst r
  | 3 => 13 * 256 + calInst r
  | 4 => 8 * 256 + calInst r
  | 5 => 5 * 256 + calInst r
  | _ => 7 * 256 + calInst r

/-- The bytes of a CalTable record (R519). -/
def calBytes (r : Nat) (c : CalRec) : List Nat :=
  [calKind r, calInst r, c.result, c.reason] ++ leBytes 4 c.count ++
  leBytes 4 c.fails ++ leBytes 2 c.margin ++ leBytes 2 c.limit ++ leBytes 8 c.lastRun ++ leBytes 8 c.lastPass

/-- A calibration run ends (R514): a plausible result (`reason` 0) passes, any other fails and keeps the old set, or leaves
none. Counted, stamped, recorded in the Witness and raised. -/
def State.calEnd (s : State) (r reason margin limit : Nat) : State :=
  let c := tget {} s.calRecs r
  let pass := reason = 0
  let result := if pass then 1 else if c.has then 2 else 3
  let c' : CalRec := { has := c.has || decide pass, result := result, reason := reason, count := (c.count + 1) % 2 ^ 32,
                       fails := if pass then c.fails else (c.fails + 1) % 2 ^ 32, margin := margin, limit := limit,
                       lastRun := s.timeNs, lastPass := if pass then s.timeNs else c.lastPass }
  let s := { s with calRecs := tput s.calRecs r c' }
  let s := s.witness 0x50 (calUnit r) 0 (calKind r + 256 * result + 65536 * reason) (margin % 65536)
  let s := (s.raise Ev.fltCalDone).arrive 8
  if pass then s else (s.flag K.calCalStatus 1 7).raise Ev.fltCalFail

/-- An ARM or SLEEP request, or a fatal fault, ends a requested run (R518): ABORTED, the old set stays, nothing is
counted. -/
def State.calAbort (s : State) : State :=
  if s.rd K.calCalRunStatus = 1 then
    let v := s.rd K.calCalRun
    let r := if v / 256 = 4 then calDc (v % 256) else calKp (v % 256)
    { s.wr K.calCalRunStatus 4 with calRecs := tupd {} s.calRecs r fun c => { c with reason := 5 } }
  else s

end Sys2Proof.Machine
end

