-- ==== Sys2Proof/Machine/Reset.lean ====
section
/-! DEFINITION. Resets (R34, R525, R537 to R539, R579). -/

namespace Sys2Proof.Machine

/-- Power-on reset (R34, R537): every entry is reloaded and every table emptied; the fuses, what has left the device, the
waiting commands and the levels the world drives are not the device's to reset. -/
def State.powerOn (s : State) : State :=
  { State.reset with pending := s.pending, free := s.free, fuses := { s.fuses with burn := none }, gpioIn := s.gpioIn,
                     udpOut := s.udpOut, hostOut := s.hostOut, uplinks := s.uplinks, ethOut := s.ethOut, skl := { out := s.skl.out } }

/-- POWER_ON_RESET (R537). -/
def execPowerOnReset (s : State) : Host.Outcome State Fault Refusal := .next s.powerOn

/-- SUPPLY_DETECT (R579): the detector asserts power-on reset. Its release is RESET_RELEASE. -/
def supplyDetect (s : State) : State := s.powerOn

/-- SUPPLY_DETECT. -/
def execSupplyDetect (s : State) : Host.Outcome State Fault Refusal := .next (supplyDetect s)

/-- Entries a warm reset keeps (R538): the DRAM configuration, RateAdj, the Witness's state, the fatal record, WarmResets. -/
def warmKept (k : Nat) : Bool :=
  (Nat.ble (K.dcDataRate 0) k && Nat.ble k (K.dcTrfc 3)) || k == K.dramDramPopulated || k == K.dramInterleave ||
  k == K.dramChannelsPresent || k == K.timeRateAdj || k == K.witNextSequence || k == K.witFrozen || k == K.witFreezeCause ||
  (Nat.ble K.fltFatalCode k && Nat.ble k K.fltLaterFatals) || k == K.rstWarmResets

/-- SyncState after a warm reset (R538): TRACKING and LOCKED become HOLDOVER, any other UNSYNCED. -/
def warmSync (v : Nat) : Nat := if v = 1 ∨ v = 2 then 3 else 0

/-- ChannelState of a DRAM channel after a warm reset: a channel that was READY or refreshing itself is in self-refresh
(R359, R538). -/
def warmChannel (v : Nat) : Nat := if v = 2 ∨ v = 3 then 3 else 0

/-- The calibrations whose sets survive a warm reset: DDR4 training (R516). -/
def warmCal (l : Tab CalRec) : Tab CalRec :=
  l.filterMap fun e => if calKind e.1 = 4 then some (e.1, { has := e.2.has : CalRec }) else none

/-- Set the ChannelState of the DRAM channels. -/
def warmChannels (old : State) : List Nat → State → State
  | [], s => s
  | n :: l, s => warmChannels old l (s.wr (K.dcsChannelState n) (warmChannel (old.rd (K.dcsChannelState n))))

/-- What a warm reset keeps of the state before it (R538). -/
def State.warmKeep (s : State) : State :=
  { s.powerOn with now := s.now, timeBase := s.timeBase, timeC0 := s.timeC0, mem := s.mem, wring := s.wring,
                   calRecs := warmCal s.calRecs, regs := tkeep warmKept s.regs,
                   boot := { trained := s.boot.trained, warm := true } }

/-- A warm reset (R537, R538): as a power-on reset but for what the table of R538 keeps; `cause` is its ResetCause. -/
def State.warm (s : State) (cause : Nat) : State :=
  let t := (s.warmKeep.wr K.rstResetCause cause).inc 32 K.rstWarmResets
  warmChannels s [0, 1, 2, 3] (t.wr K.timeSyncState (warmSync (s.rd K.timeSyncState)))

/-- WARM_RESET (R537): a warm reset cause during power-on reset changes nothing. -/
def warmReset (s : State) : State := if s.dev = stReset then s else s.warm 2

/-- WARM_RESET. -/
def execWarmReset (s : State) : Host.Outcome State Fault Refusal := .next (warmReset s)

/-- RESET_REQUEST (R537, R558): any value but 0x0000_5752 is refused with ERR_RANGE. -/
def resetRequestWrite (a : Acc) (s : State) : State :=
  match s.writeStatus a K.rstResetRequest with
  | 0 => if accVal a K.rstResetRequest = 0x5752 then s.warm 3 else s.done a K.rstResetRequest 8
  | st => s.done a K.rstResetRequest st

/-- RESET_REQUEST. -/
def execResetRequest (a : Acc) (s : State) : Host.Outcome State Fault Refusal := .next (resetRequestWrite a s)

/-- The sources a strap value selects, in order (R539): 0 QSPI_PRIMARY, 1 QSPI_SECONDARY, 2 PCIE. -/
def strapSources (v : Nat) : List Nat := if v = 0 then [0, 1] else if v = 1 then [2] else if v = 2 then [0, 1, 2] else []

/-- The phase in which the sequencer waits for a source. -/
def sourcePhase (src : Nat) : BootPhase := if src = 2 then .waitHost else .header

/-- RESET_RELEASE (R538, R539): BOOT_SEL is sampled, the device enters BOOT, the PLL locks, the fuses are loaded and a RESET
entry is written; straps of 3 end boot in FAULT with BAD_STRAP. -/
def resetRelease (straps : Nat) (s : State) : State :=
  if s.dev ≠ stReset then s else
  let v := straps % 4
  let s := (s.wr K.rstBootSel v).wr K.clkRootPllLocked 1
  let s := (s.wr K.bootFusedSecurityVersion s.fuses.version).wr K.bootKeyRevoked s.fuses.revoked
  let s := if s.on K.witFrozen then s else s.witness 2 0 0 (if s.boot.warm then 2 else 1) 0
  let s := s.enter stBoot
  match strapSources v with
  | src :: l =>
    { (s.wr K.bootBootSource src).wr K.bootBootStatus 0 with
      boot := { s.boot with phase := sourcePhase src, sources := src :: l, image := [], accepted := false } }
  | [] => ({ s.wr K.bootBootStatus 2 with boot := { s.boot with phase := .failed } }).fatal 9 0 3

/-- RESET_RELEASE. -/
def execResetRelease (straps : Nat) (s : State) : Host.Outcome State Fault Refusal := .next (resetRelease straps s)

end Sys2Proof.Machine
end

