-- ==== Sys2Proof/Machine/Boot.lean ====
section
/-! DEFINITION. The boot sequencer and the fuses (R539 to R546), BootComplete, and releasing cores (R557). -/

namespace Sys2Proof.Machine

/-! ### Header and configuration (R541, R542) -/

/-- A header field. -/
abbrev hdr (l : List Nat) (o n : Nat) : Nat := leAt l o n

/-- All bytes from `o` on for `n` are 0. -/
def zeros (l : List Nat) (o n : Nat) : Bool := ((l.drop o).take n).all (· == 0)

def hdrPayloadOffset (l : List Nat) : Nat := hdr l 16 4
def hdrPayloadLength (l : List Nat) : Nat := hdr l 20 4
def hdrLoadAddress (l : List Nat) : Nat := hdr l 24 8
def hdrEntryPoint (l : List Nat) : Nat := hdr l 32 8
def hdrSignatureOffset (l : List Nat) : Nat := hdr l 40 4
def hdrKeySlot (l : List Nat) : Nat := nth l 6
def hdrSecurityVersion (l : List Nat) : Nat := hdr l 8 2
def hdrPublicKey (l : List Nat) : List Nat := (l.drop 64).take 96

/-- Configuration fields of channel `n`, at ConfigOffset 256 (R542). -/
def cfgType (l : List Nat) (n : Nat) : Nat := nth l (272 + 16 * n)
def cfgRanks (l : List Nat) (n : Nat) : Nat := nth l (273 + 16 * n)
def cfgDensity (l : List Nat) (n : Nat) : Nat := nth l (274 + 16 * n)
def cfgWidth (l : List Nat) (n : Nat) : Nat := nth l (275 + 16 * n)
def cfgCapacity (l : List Nat) (n : Nat) : Nat := hdr l (280 + 16 * n) 8
def cfgInterleave (l : List Nat) : Nat := nth l 258
def cfgUsed (l : List Nat) : Nat := nth l 259
def cfgRate (l : List Nat) : Nat := hdr l 264 2

/-- The channels in use. -/
def cfgUsedList (l : List Nat) : List Nat := [0, 1, 2, 3].filter fun n => bitOf (cfgUsed l) n

/-- The populated size the configuration gives (R357). -/
def cfgPopulated (l : List Nat) : Nat :=
  if cfgInterleave l = 1 then 4 * cfgCapacity l 0 else ((cfgUsedList l).map (cfgCapacity l)).sum

/-- The DRAM fields of the configuration: what a later copy is compared in (R540). -/
def cfgDram (l : List Nat) : List Nat :=
  [cfgInterleave l, cfgUsed l, cfgRate l] ++ ((l.drop 272).take 64)

/-- One used channel's codes are those of R358: the memory type with a device width it may have, ranks, density and
capacity. -/
def cfgChannelOk (l : List Nat) (n : Nat) : Bool :=
  let t := cfgType l n
  let w := cfgWidth l n
  ((t == 1 && (w == 0 || w == 1)) || ((t == 2 || t == 3) && (w == 1 || w == 2))) &&
  (cfgRanks l n == 1 || cfgRanks l n == 2) && Nat.ble (cfgDensity l n) 1 &&
  Nat.ble (8 * 2 ^ 30) (cfgCapacity l n) && Nat.ble (cfgCapacity l n) (64 * 2 ^ 30)

/-- The configuration is accepted (R542). -/
def cfgOk (l : List Nat) : Bool :=
  hdr l 256 2 == 0x4643 && Nat.ble (cfgInterleave l) 1 && Nat.ble (cfgUsed l) 15 &&
  [1600, 1866, 2133, 2400, 2666, 2933, 3200].contains (cfgRate l) &&
  (cfgUsedList l).all (cfgChannelOk l) &&
  (cfgInterleave l == 0 || (cfgUsed l == 15 && [1, 2, 3].all fun n => cfgCapacity l n == cfgCapacity l 0))

/-- Every header field but Magic is in range, and the load span lies in populated DRAM (R541). -/
def hdrOk (l : List Nat) (populated : Nat) : Bool :=
  hdr l 4 2 == 1 && Nat.ble (hdrKeySlot l) 3 && nth l 7 == 0 && Nat.ble (hdrSecurityVersion l) 64 && hdr l 10 2 == 0 &&
  hdr l 12 4 == 256 && hdrPayloadOffset l % 64 == 0 && Nat.ble 512 (hdrPayloadOffset l) &&
  hdrPayloadLength l % 64 == 0 && Nat.blt 0 (hdrPayloadLength l) && Nat.ble (hdrPayloadLength l) (64 * 2 ^ 20) &&
  hdrLoadAddress l % 4096 == 0 && Nat.ble (hdrLoadAddress l + hdrPayloadLength l) populated &&
  hdrEntryPoint l % 4 == 0 && Nat.ble (hdrLoadAddress l) (hdrEntryPoint l) &&
  Nat.blt (hdrEntryPoint l) (hdrLoadAddress l + hdrPayloadLength l) &&
  hdrSignatureOffset l == hdrPayloadOffset l + hdrPayloadLength l && Nat.ble 2 (nth l 44) && Nat.ble (nth l 44) 16 &&
  zeros l 45 19 && zeros l 160 96

/-! ### The sequence -/

/-- The copy in hand fails with a BootStatus code: the next source is tried; after the last, FAULT with AUTH_FAIL (R539). -/
def State.nextCopy (s : State) (status : Nat) : State :=
  let s := s.wr K.bootBootStatus status
  match s.boot.sources with
  | _ :: src :: l =>
    { s.wr K.bootBootSource src with
      boot := { s.boot with phase := sourcePhase src, sources := src :: l, image := [] } }
  | _ => ({ s with boot := { s.boot with phase := .failed, sources := [] } }).fatal 3 0 0

/-- tRFC in ns by device density (R360). -/
def trfcOf (density : Nat) : Nat := if density = 0 then 350 else 550

/-- Set the configuration entries of a DRAM channel (R384). -/
def setChannel (l : List Nat) (s : State) (n : Nat) : State :=
  let s := (s.wr (K.dcDataRate n) (cfgRate l)).wr (K.dcMemoryType n) (cfgType l n)
  let s := ((s.wr (K.dcRanks n) (cfgRanks l n)).wr (K.dcDeviceDensity n) (cfgDensity l n)).wr (K.dcDeviceWidth n) (cfgWidth l n)
  (s.wr (K.dcCapacity n) (cfgCapacity l n)).wr (K.dcTrfc n) (trfcOf (cfgDensity l n))

/-- Set the DRAM configuration from an accepted image (R357, R384, R542). -/
def State.setDram (s : State) (l : List Nat) : State :=
  let s := (cfgUsedList l).foldl (setChannel l) s
  ((s.wr K.dramInterleave (cfgInterleave l)).wr K.dramDramPopulated (cfgPopulated l)).wr K.dramChannelsPresent (cfgUsed l)

/-- Put the used channels in TRAINING. -/
def State.startTraining (s : State) : State :=
  [0, 1, 2, 3].foldl (fun s n => if s.bit K.dramChannelsPresent n then s.wr (K.dcsChannelState n) 1 else s) s

/-- BOOT_HEADER_READ (R540, R541, R542): the first 4 KiB of the image, or a read that did not complete. A later copy with
the DRAM fields already trained goes on to its payload; at a warm reset the image's DRAM fields are ignored (R538). -/
def bootHeaderRead (image : List Nat) (complete : Bool) (s : State) : State :=
  if s.dev ≠ stBoot ∨ s.boot.phase ≠ .header then s
  else if ¬ complete then s.nextCopy 11
  else if hdr image 0 4 ≠ 0x54424E47 then s.nextCopy 3
  else if ¬ hdrOk image (if s.boot.warm then s.rd K.dramDramPopulated else cfgPopulated image) then s.nextCopy 4
  else if ¬ cfgOk image then s.nextCopy 5
  else
    let b : Boot := { s.boot with image := image, subsysVendor := hdr image 260 2, subsysId := hdr image 262 2 }
    if s.boot.warm then ({ s with boot := { b with phase := .training } }).startTraining
    else if s.boot.trained = some (cfgDram image) then { s with boot := { b with phase := .payload } }
    else ({ s with boot := { b with phase := .training } }).setDram image |>.startTraining

/-- BOOT_HEADER_READ. -/
def execBootHeaderRead (image : List Nat) (complete : Bool) (s : State) : Host.Outcome State Fault Refusal :=
  .next (bootHeaderRead image complete s)

/-- The used channels that failed, ascending. -/
def State.failedUsed (s : State) (failed : Nat) : List Nat :=
  [0, 1, 2, 3].filter fun n => s.bit K.dramChannelsPresent n && bitOf failed n

/-- One used channel ends its training or verification (R514, R516). -/
def trainOne (failed : Nat) (s : State) (n : Nat) : State :=
  if s.bit K.dramChannelsPresent n then
    if bitOf failed n then (s.wr (K.dcsChannelState n) 4).calEnd (calDc n) 1 0 (s.rd K.calDdrWindowMin)
    else { (s.wr (K.dcsChannelState n) 2).calEnd (calDc n) 0 (s.rd K.calDdrWindowMin) (s.rd K.calDdrWindowMin) with
           drams := tupd {} s.drams n fun d => { d with moved := [], refreshed := s.now, busy := s.now } }
  else s

/-- DRAM_TRAIN_DONE (R358, R539, R540): `failed` names the channels whose training or verification failed; one in use is
DRAM_TRAIN at once. Power-on goes on to zeroing, a warm boot to the payload. -/
def dramTrainDone (failed : Nat) (s : State) : State :=
  if s.dev ≠ stBoot ∨ s.boot.phase ≠ .training then s else
  let bad := s.failedUsed failed
  let s := [0, 1, 2, 3].foldl (trainOne failed) s
  match bad with
  | n :: _ =>
    ({ s.wr K.bootBootStatus 10 with boot := { s.boot with phase := .failed } }).fatal 2 (8 * 256 + n) n
  | [] =>
    { s with boot := { s.boot with trained := some (if s.boot.warm then s.boot.trained.getD [] else cfgDram s.boot.image),
                                   phase := if s.boot.warm then .payload else .zeroing } }

/-- DRAM_TRAIN_DONE. -/
def execDramTrainDone (failed : Nat) (s : State) : Host.Outcome State Fault Refusal := .next (dramTrainDone failed s)

/-- DRAM_ZERO_DONE (R359): every populated byte reads zero. -/
def dramZeroDone (s : State) : State :=
  if s.dev ≠ stBoot ∨ s.boot.phase ≠ .zeroing then s
  else { s with mem := [], boot := { s.boot with phase := .payload } }

/-- DRAM_ZERO_DONE. -/
def execDramZeroDone (s : State) : Host.Outcome State Fault Refusal := .next (dramZeroDone s)

/-- Where the rest of the image starts: the payload may begin within the first 4 KiB. -/
def restStart (l : List Nat) : Nat := min (hdrPayloadOffset l) 4096

/-- The checks of R543 in their order: BootStatus of the first failure, 1 (OK) for none. -/
def keyCheck (f : Fuses) (l rest sig : List Nat) : Nat :=
  if bitOf f.revoked (hdrKeySlot l) then 6
  else if tfind f.keyHash (hdrKeySlot l) ≠ some (ofBe (sha384 (hdrPublicKey l))) then 7
  else if ¬ ecdsaVerify (hdrPublicKey l) (sha384 (l.take (restStart l) ++ rest)) sig then 8
  else if hdrSecurityVersion l < f.version then 9
  else 1

/-- PAYLOAD_LOADED (R540, R543): `rest` is the image from the payload (or from byte 4,096) up to SignatureOffset, `sig` the
signature. The payload stands at LoadAddress; an accepted image starts SC0 at EntryPoint, a failing one passes boot on. -/
def payloadLoaded (rest sig : List Nat) (complete : Bool) (s : State) : State :=
  if s.dev ≠ stBoot ∨ s.boot.phase ≠ .payload then s else
  let l := s.boot.image
  if ¬ complete ∨ rest.length + restStart l ≠ hdrSignatureOffset l ∨ sig.length ≠ 96 then s.nextCopy 11 else
  let s := { s with mem := memPuts s.mem (hdrLoadAddress l) (rest.drop (hdrPayloadOffset l - restStart l)) }
  match keyCheck s.fuses l rest sig with
  | 1 =>
    let s := ((s.wr K.bootBootStatus 1).wr K.bootKeySlotUsed (hdrKeySlot l)).wr K.bootImageSecurityVersion (hdrSecurityVersion l)
    { s.wr K.coreCoresRunning 1 with cores := [(0, hdrEntryPoint l)],
                                     boot := { s.boot with phase := .accepted, accepted := true } }
  | st => s.nextCopy st

/-- PAYLOAD_LOADED. -/
def execPayloadLoaded (rest sig : List Nat) (complete : Bool) (s : State) : Host.Outcome State Fault Refusal :=
  .next (payloadLoaded rest sig complete s)

/-- The sequencer is fetching an image from the host. -/
def State.hostFetching (s : State) : Bool :=
  s.boot.sources.head? == some 2 &&
  (s.boot.phase == .header || s.boot.phase == .training || s.boot.phase == .zeroing || s.boot.phase == .payload)

/-- BootHostLength and BootHostAddress are such that BootGo is not refused (R544). -/
def State.bootHostOk (s : State) : Bool :=
  let n := s.rd K.bhostBootHostLength
  n % 64 == 0 && Nat.ble 512 n && Nat.ble n (64 * 2 ^ 20 + 4096) && s.rd K.bhostBootHostAddress % 64 == 0

/-- BOOT_GO (R544): the sequencer fetches the image from host memory. -/
def bootGoWrite (a : Acc) (s : State) : State :=
  s.act a K.bhostBootGo (if ¬ s.bootHostOk then 8 else if s.hostFetching then 13 else 0) fun s =>
    if accVal a K.bhostBootGo = 1 ∧ s.boot.phase = .waitHost then { s with boot := { s.boot with phase := .header } } else s

/-- BOOT_GO. -/
def execBootGo (a : Acc) (s : State) : Host.Outcome State Fault Refusal := .next (bootGoWrite a s)

/-- BOOT_COMPLETE (R25, R545): every range is served to every path and the device enters STOPPED; the watchdog counts from
there (R511). -/
def bootCompleteWrite (a : Acc) (s : State) : State :=
  s.act a K.bootBootComplete 0 fun s =>
    if accVal a K.bootBootComplete = 1 ∧ s.dev = stBoot ∧ s.boot.accepted then
      { (s.wr K.bootBootTime s.time).enter stStopped with wdog := { since := s.now } }
    else s

/-- BOOT_COMPLETE. -/
def execBootComplete (a : Acc) (s : State) : Host.Outcome State Fault Refusal := .next (bootCompleteWrite a s)

/-- ADVANCE_SECURITY_VERSION (R546). -/
def advanceSecurityVersionWrite (a : Acc) (s : State) : State :=
  let v := accVal a K.fuseAdvanceSecurityVersion
  s.act a K.fuseAdvanceSecurityVersion
    (if v ≤ s.fuses.version ∨ s.rd K.bootImageSecurityVersion < v then 8 else if s.fuses.burn.isSome then 13 else 0)
    fun s => { s with fuses := { s.fuses with burn := some { revoke := false, value := v, due := s.now + ms 10 } } }

/-- ADVANCE_SECURITY_VERSION. -/
def execAdvanceSecurityVersion (a : Acc) (s : State) : Host.Outcome State Fault Refusal :=
  .next (advanceSecurityVersionWrite a s)

/-- REVOKE_KEY (R546): the slot in use, or a number that is no slot, is refused with ERR_RANGE. -/
def revokeKeyWrite (a : Acc) (s : State) : State :=
  let v := accVal a K.fuseRevokeKey
  s.act a K.fuseRevokeKey
    (if 3 < v ∨ v = s.rd K.bootKeySlotUsed then 8 else if s.fuses.burn.isSome then 13 else 0)
    fun s => { s with fuses := { s.fuses with burn := some { revoke := true, value := v, due := s.now + ms 10 } } }

/-- REVOKE_KEY. -/
def execRevokeKey (a : Acc) (s : State) : Host.Outcome State Fault Refusal := .next (revokeKeyWrite a s)

/-- FUSE_BURN_DONE (R546): the thermometer stands at the value, or the slot is revoked, for good; a blown fuse stays blown. -/
def fuseBurnDone (s : State) : State :=
  match s.fuses.burn with
  | none => s
  | some b =>
    if b.revoke then
      let r := setBits s.fuses.revoked (2 ^ b.value)
      { s.wr K.bootKeyRevoked r with fuses := { s.fuses with revoked := r, burn := none } }
    else
      let v := max s.fuses.version b.value
      { s.wr K.bootFusedSecurityVersion v with fuses := { s.fuses with version := v, burn := none } }

/-- FUSE_BURN_DONE. -/
def execFuseBurnDone (s : State) : Host.Outcome State Fault Refusal := .next (fuseBurnDone s)

/-- Release one core at CoreEntry when it is not running (R557). -/
def releaseCore (v : Nat) (s : State) (h : Nat) : State :=
  if bitOf v h ∧ ¬ s.bit K.coreCoresRunning h then
    { s.wr K.coreCoresRunning (setBits (s.rd K.coreCoresRunning) (2 ^ h)) with
      cores := tput s.cores h (s.rd K.coreCoreEntry) }
  else s

/-- CORE_RELEASE (R557): bits 1 to 3; a core already running is ignored. -/
def coreReleaseWrite (a : Acc) (s : State) : State :=
  s.act a K.coreCoreRelease 0 fun s => [1, 2, 3].foldl (releaseCore (accVal a K.coreCoreRelease)) s

/-- CORE_RELEASE. -/
def execCoreRelease (a : Acc) (s : State) : Host.Outcome State Fault Refusal := .next (coreReleaseWrite a s)

end Sys2Proof.Machine
end

