-- ==== Sys2Proof/Machine/Position.lean ====
section
/-! DEFINITION. Web position and speed (R17, R70 to R76, R83 to R87): what a channel's position and speed are at a moment,
which source serves as web master, and what its loss does. Positions and speeds are in 2^−32 POS units (per FABCLK). -/

namespace Sys2Proof.Machine

/-- The record of an encoder channel. -/
def State.enc (s : State) (n : Nat) : Enc := tget {} s.encs n

/-- Set the record of an encoder channel. -/
def State.setEnc (s : State) (n : Nat) (e : Enc) : State := { s with encs := tput s.encs n e }

/-- The channel is ACTIVE in a state in which the Wheel counts (R28, R101). -/
def State.encActive (s : State) (n : Nat) : Bool :=
  s.rd (K.encsChannelState n) == 1 && s.dev != stReset && s.dev != stBoot

/-- Scale of R70. -/
def State.encScaleI (s : State) (n : Nat) : Int := s.rdI 64 (K.encScale n)

/-- Whole POS units of a position, rounded toward minus infinity. -/
def wholePos (p : Int) : Int := floorDiv p (2 ^ 32)

/-- The sign of an integer. -/
def sgn (i : Int) : Int := if 0 < i then 1 else if i < 0 then -1 else 0

/-! ### Speed (R71, R72) -/

/-- Net counts in the SpeedWindow that ends at `t`. -/
def netCounts (log : List (Nat × Int)) (t w : Nat) : Int :=
  ((log.filter fun c => Nat.blt t (c.1 + w) && Nat.ble c.1 t).map fun c => c.2).foldl (· + ·) 0

/-- The weight w of R71, in 2^−16. -/
def blend (n lo hi : Nat) : Nat := if n ≤ lo then 0 else sat 65536 ((n - lo) * 65536 / (hi - lo))

/-- v of R71 at the moment `t`: the period estimate over the time between the last two counts, limited by the time since the
last and 0 after StallTime; the count estimate; and their blend, taken wholly from the count estimate where there is no period
estimate (R72). -/
def State.encV (s : State) (n t : Nat) : Int :=
  let e := s.enc n
  match e.last with
  | none => 0
  | some last =>
    let w := s.rd (K.encSpeedWindow n)
    let scale := s.encScaleI n
    let net := netCounts e.log t w
    match e.interval with
    | none => truncDiv (net * scale) (w : Int)
    | some i =>
      let el := t - last
      let num := if e.stalled || Nat.ble (us (s.rd (K.encStallTime n))) el then 0 else e.lastK * scale
      let den := max 1 (max i el)
      let b := blend net.natAbs (s.rd (K.encBlendLow n)) (s.rd (K.encBlendHigh n))
      truncDiv (num * ((65536 - b : Nat) : Int) * (w : Int) + (b : Int) * net * scale * (den : Int)) ((den * w * 65536 : Nat) : Int)

/-- `m` steps of the smoothing of R71 from the FABCLK after `t`. -/
def smoothRun (v : Nat → Int) (k : Nat) : Nat → Nat → Int → Int
  | 0, _, out => out
  | m + 1, t, out => smoothRun v k m (t + 1) (out + truncDiv (v (t + 1) - out) (2 ^ k))

/-- The reported speed (R71). -/
def State.encVOut (s : State) (n : Nat) : Int :=
  let k := s.rd (K.encSpeedSmoothing n)
  if k = 0 then s.encV n s.now
  else smoothRun (s.encV n) k (s.now - (s.enc n).smoothAt) (s.enc n).smoothAt (s.enc n).smooth

/-! ### Position (R70, R73) -/

/-- The channel's interpolated position at `t` without a hold (R73): it stays short of one step beyond the last counted
position, by one POS unit. -/
def State.encExtra (s : State) (n t : Nat) : Int :=
  let e := s.enc n
  let pe := wholePos e.acc * 2 ^ 32
  if s.on (K.encInterpEnable n) ∧ e.interval.isSome ∧ ¬ e.still then
    let lim : Nat := (e.lastK * s.encScaleI n).natAbs - 2 ^ 32
    pe + clampI (-(lim : Int)) (lim : Int) (s.encV n t * ((t : Int) - (e.te : Int)))
  else pe

/-- P of a channel at `t`: a serial position behind the one already reached holds for at most one SerialPeriod (R73). -/
def State.encPAt (s : State) (n t : Nat) : Int :=
  let x := s.encExtra n t
  match (s.enc n).hold with
  | some (h, till) => if t < till then (if 0 ≤ (s.enc n).lastK then max h x else min h x) else x
  | none => x

/-- P of a channel now. -/
def State.encP (s : State) (n : Nat) : Int := s.encPAt n s.now

/-- The remote position at the present moment (R87): the message's position moved on by its speed, held where it would fall
behind what was reached. -/
def State.remoteExtra (s : State) : Int :=
  let w := s.wheel
  w.remP + floorDiv (w.remV * ((s.time : Int) - w.remT)) 81920

/-- P of the REMOTE source. -/
def State.remoteP (s : State) : Int :=
  match s.wheel.remHold with
  | some (h, till) => if s.now < till then max h s.remoteExtra else s.remoteExtra
  | none => s.remoteExtra

/-- P of a source of R83: 0 to 3 a channel, 4 REMOTE. -/
def State.sourceP (s : State) (src : Nat) : Int := if src < 4 then s.encP src else s.remoteP

/-- The web position (R17, R83, R84). -/
def State.webP (s : State) : Int :=
  match s.wheel.frozen with
  | some p => p
  | none => s.sourceP (s.rd K.whlActiveMaster) + s.wheel.offset

/-- The web position in whole POS units. -/
def State.webPos (s : State) : Int := wholePos s.webP

/-- The web's speed: 0 when the position is frozen (R84). -/
def State.webV (s : State) : Int :=
  if s.wheel.frozen.isSome then 0
  else if s.rd K.whlActiveMaster < 4 then s.encVOut (s.rd K.whlActiveMaster) else s.wheel.remV

/-- The rotary count of a probe's or compare's source: the channel's, and for the web position the serving channel's. -/
def State.sourceRotary (s : State) (src : Nat) : Nat :=
  let c := if src < 4 then src else s.rd K.whlActiveMaster
  if c < 4 then s.rd (K.encsRotary c) else 0

/-! ### Direction (R75) -/

/-- Bring the high-water mark and the direction status up to the present position (R75); `back` says that a backward count
was just made. -/
def State.encTrack (s : State) (n : Nat) (back : Bool) : State :=
  let p := s.encP n
  let hw := s.rdI 64 (K.encsHighWater n) * 2 ^ 32
  let s := s.wr (K.encsPosition n) (ofI 64 (wholePos p))
  if hw + 2 ^ 32 ≤ p then
    (s.wr (K.encsHighWater n) (ofI 64 (wholePos p))).wr (K.encsDirection n) 0
  else
    let band := s.rd (K.encJitterBand n)
    let rev := if band = 0 then back else decide (p < hw - band * (s.encScaleI n).natAbs)
    if rev ∧ s.rd (K.encsDirection n) = 0 then
      let s := (s.wr (K.encsDirection n) 1).wr (K.encsStatus n) (setBits (s.rd (K.encsStatus n)) 0x20)
      (if s.rd K.whlActiveMaster = n then s.arrive 36 else s).raise (Ev.whlReverse n)
    else s

/-- Write what the status entries show of a channel (R101). -/
def State.encShow (s : State) (n : Nat) : State :=
  (s.wr (K.encsCountedPosition n) (ofI 64 (wholePos (s.enc n).acc))).wr (K.encsSpeed n) (ofI 64 (s.encVOut n))

/-! ### Loss of the web master (R83, R84), cross-check (R85) -/

/-- The redundant source can serve (R83). -/
def State.redundantReady (s : State) : Bool :=
  let r := s.rd K.whlRedundantChannel
  if r < 4 then r != s.rd K.whlActiveMaster && s.rd (K.encsChannelState r) == 1
  else r == 4 && r != s.rd K.whlActiveMaster && s.wheel.got && !s.wheel.lost

/-- The active master is retired or lost; `p` is the web position at that moment. -/
def State.masterLost (s : State) (p : Int) : State :=
  if s.wheel.frozen.isSome then s
  else if s.redundantReady then
    let r := s.rd K.whlRedundantChannel
    let s := { s with wheel := { s.wheel with offset := p - s.sourceP r } }
    (((s.wr K.whlActiveMaster r).inc 32 K.whlSwitchovers).flag K.whlWheelStatus 1 34).raise Ev.whlSwitchover
  else
    let s := { s with wheel := { s.wheel with frozen := some p } }
    (s.flag K.whlWheelStatus 2 33).raise Ev.whlStopReq

/-- Master minus redundant position, where both are channels. -/
def State.crossDiff (s : State) : Option Int :=
  let m := s.rd K.whlActiveMaster
  let r := s.rd K.whlRedundantChannel
  if m < 4 ∧ r < 4 ∧ m ≠ r ∧ s.rd (K.encsChannelState r) = 1 then some (s.encP m - s.encP r) else none

/-- Fix the cross-check reference: at a switch or a preset (R85). -/
def State.crossFix (s : State) : State :=
  { s with wheel := { s.wheel with crossRef := s.crossDiff.getD 0, crossOut := false } }

/-- The cross-check of R85. -/
def State.crossCheck (s : State) : State :=
  match s.crossDiff with
  | none => s
  | some d =>
    let lim := s.rd K.whlCrossCheckLimit
    let out := lim != 0 &&
      decide ((lim * (s.encScaleI (s.rd K.whlActiveMaster)).natAbs : Nat) < (d - s.wheel.crossRef).natAbs)
    let was := s.wheel.crossOut
    let s := { s with wheel := { s.wheel with crossOut := out } }
    if out ∧ ¬ was then (s.flag K.whlWheelStatus 4 42).raise Ev.whlCrosscheck else s

/-- Software selects the web master (R83, R99): the offset of an earlier switch and a frozen position end. -/
def State.selectMaster (s : State) (src : Nat) : State :=
  ({ s.wr K.whlActiveMaster src with wheel := { s.wheel with offset := 0, frozen := none } }).crossFix

/-- A channel is retired (R81, R80, R505). -/
def State.encRetire (s : State) (n bit : Nat) : State :=
  let p := s.webP
  let faults := s.rd (K.encsErrorCount n)
  let s := (s.wr (K.encsChannelState n) 2).flag (K.encsStatus n) 0x40 32
  let s := (s.raise (Ev.whlFault n)).retire (256 + n) bit faults
  if s.rd K.whlActiveMaster = n then s.masterLost p else s

/-- A transient fault of a channel (R81): flag bit `bit`, counted, and permanent beyond RetryCount. -/
def State.encFault (s : State) (n bit : Nat) : State :=
  let s := (s.flag (K.encsStatus n) (2 ^ bit) 37).inc 32 (K.encsErrorCount n)
  let s := s.transient (256 + n) bit (s.rd (K.encRetryWindow n))
  if s.breaks (256 + n) (s.rd (K.encRetryCount n)) (s.rd (K.encRetryWindow n)) then s.encRetire n bit else s

end Sys2Proof.Machine
end

