-- ==== Sys2Proof/Machine/Wake.lean ====
section
/-! DEFINITION. Standby and wake (R547 to R550): the wake conditions and what a wake does in each power phase. -/

namespace Sys2Proof.Machine

/-- PIN (R549): WakePin at WakeLevel. -/
def State.wakePinOn (s : State) : Bool :=
  s.bit K.pwrWakeSources 0 && Nat.blt (s.rd K.pwrWakePin) 32 &&
    ((tget 0 s.gpioIn (s.rd K.pwrWakePin) == 1) == s.on K.pwrWakeLevel)

/-- MOTION (R549): the web's speed, in µm/s, above WakeSpeed in magnitude. -/
def State.wakeMotionOn (s : State) : Bool :=
  s.bit K.pwrWakeSources 1 && Nat.blt (s.rd K.pwrWakeSpeed * 2 ^ 48) (s.webV.natAbs * 800000000)

/-- The WakeCause of a level condition that holds (R559). -/
def State.wakeLevel (s : State) : Option Nat :=
  if s.wakePinOn then some 2 else if s.wakeMotionOn then some 3 else none

/-- A change of PowerPhase (R559, R563): 0 UP, 1 POWERING_DOWN, 2 ASLEEP, 3 WAKING. -/
def State.powerPhase (s : State) (p : Nat) : State := (s.wr K.pwrPowerPhase p).arrive 13

/-- The domains of R547 that take time, in ascending order. -/
def State.maskedDomains (s : State) : List Nat := (List.range 6).filter fun d => s.bit K.pwrSleepMask d

/-- A domain is or may be without power (R547). -/
def State.domainAsleep (s : State) (d : Nat) : Bool := s.dev == stStandby && s.bit K.pwrSleepMask d

/-- The last domain is up (R549): STOPPED, with WakeCause the first wake. -/
def State.awake (s : State) : State :=
  let s := (s.wr K.pwrWakeCause (s.power.latched.getD 0)).powerPhase 0
  let s := { s with power := {} }
  (s.enter stStopped).refreshPins.raise Ev.pwrWake

/-- Waking starts (R549). -/
def State.startWaking (s : State) (cause : Nat) : State :=
  let s := s.powerPhase 3
  let s := { s with power := { s.power with todo := s.maskedDomains.reverse, due := s.now + us 50, latched := some cause } }
  if s.power.todo.isEmpty then s.awake else s

/-- A wake (R549): in ASLEEP it starts WAKING, in POWERING_DOWN it is latched, and otherwise it has no effect. -/
def State.wake (s : State) (cause : Nat) : State :=
  if s.dev ≠ stStandby then s
  else if s.rd K.pwrPowerPhase = 2 then s.startWaking cause
  else if s.rd K.pwrPowerPhase = 1 ∧ s.power.latched.isNone then { s with power := { s.power with latched := some cause } }
  else s

/-- A level condition that holds wakes the device. -/
def State.wakeOnLevel (s : State) : State :=
  match s.wakeLevel with
  | some c => s.wake c
  | none => s

/-- The last masked domain is down (R548, R549): ASLEEP, and WAKING where a wake is latched or its level still holds. -/
def State.asleep (s : State) : State :=
  let s := ((s.powerPhase 2).inc 32 K.pwrSleeps).raise Ev.pwrStandby
  match s.power.latched with
  | some c => s.startWaking c
  | none => s.wakeOnLevel

/-- An accepted SLEEP (R547, R548). -/
def State.startSleep (s : State) : State :=
  let s := (s.enter stStandby).powerPhase 1
  let s := { s with power := { s.power with todo := s.maskedDomains, due := s.now + us 10, latched := none } }
  if s.power.todo.isEmpty then s.asleep else s

/-- TIME_ALARM0 has fired (R549): a latched wake. -/
def State.wakeAlarm (s : State) : State :=
  if s.bit K.pwrWakeSources 2 then ({ s with power := { s.power with alarm := some s.now } }).wake 4 else s

end Sys2Proof.Machine
end

