-- ==== Sys2Proof/Machine/Camera.lean ====
section
/-! DEFINITION. Camera channels (R108 to R125, R583): discovery, triggers to the camera, lines from it, bands, link loss and the
control tunnel. -/

namespace Sys2Proof.Machine

/-- The record of a camera channel. -/
def State.cam (s : State) (n : Nat) : Cam := tget {} s.cams n

/-- Set the record of a camera channel. -/
def State.setCam (s : State) (n : Nat) (c : Cam) : State := { s with cams := tput s.cams n c }

/-- ChannelState codes (R128). -/
abbrev camDisabled := 0
abbrev camAbsent := 1
abbrev camDiscovery := 2
abbrev camActive := 3
abbrev camRelock := 4
abbrev camRetired := 5

/-- The channel's state. -/
def State.camState (s : State) (n : Nat) : Nat := s.rd (K.camstChannelState n)

/-- The number of ones in a word of 16 bits. -/
def popcount16 (v : Nat) : Nat := ((List.range 16).filter fun i => bitOf v i).length

/-- Set a channel's state; Present and Retired follow (R127), and a change of Present is an arrival at source 69. -/
def State.setCamState (s : State) (n st : Nat) : State :=
  let old := s.rd K.camsPresent
  let new := if st = camActive ∨ st = camRelock then setBits old (2 ^ n) else clearBits old (2 ^ n)
  let ret := if st = camRetired then setBits (s.rd K.camsRetired) (2 ^ n) else clearBits (s.rd K.camsRetired) (2 ^ n)
  let s := ((s.wr (K.camstChannelState n) st).wr K.camsPresent new).wr K.camsRetired ret
  let s := s.wr K.camsPresentCount (popcount16 new)
  if old = new then s else s.arrive 69

/-- A pipe, channel or replay of the camera is fed from DRAM (R148). -/
def State.replaying (s : State) (n : Nat) : Bool := s.on (K.repReplayEnable n)

/-- The members, by number. -/
def State.members (s : State) : List Nat := (List.range 12).filter fun n => s.bit K.seamMemberMask n

/-- Pitch of a camera generator in 2^−32 POS. -/
def State.camPitch (s : State) (n : Nat) : Int := ((s.rd (K.cgenPitchWhole n) * 2 ^ 32 + s.rd (K.cgenPitchFrac n) : Nat) : Int)

/-- The member's Pitch and Phase agree with the lowest-numbered member's (R161). -/
def State.gridOk (s : State) (n : Nat) : Bool :=
  match s.members with
  | [] => true
  | m :: _ => s.camPitch n == s.camPitch m && s.rd (K.cgenPhase n) == s.rd (K.cgenPhase m)

/-- The member is not in GRID_MISMATCH: its settings agreed at its last band start, or agree again (R161). -/
def State.gridFits (s : State) (n : Nat) : Bool := !(s.cam n).gridBad || s.gridOk n

/-! ### Bands (R119) -/

/-- The band that holds trigger k, by the numbering in force. -/
def Cam.bandOf (c : Cam) (k : Int) : Int := c.baseB + floorDiv (k - c.baseK) c.baseL

/-- The first k of a band. -/
def Cam.bandFirst (c : Cam) (b : Int) : Int := c.baseK + (b - c.baseB) * c.baseL

/-- The record of a band. -/
def Cam.band (c : Cam) (b : Int) : Option Band := c.bands.find? fun x => x.b == b

/-- Change the record of a band. -/
def Cam.updBand (c : Cam) (b : Int) (f : Band → Band) : Cam :=
  { c with bands := c.bands.map fun x => if x.b = b then f x else x }

/-- The band in progress: the last one started, while it has not received its last trigger. -/
def Cam.inBand (c : Cam) : Option Band :=
  match c.cur with
  | some b => (c.band b).bind fun x => if x.last < x.k1 ∧ ¬ x.ended then some x else none
  | none => none

/-- Drop a band (R118): what is listed of it leaves owed lines, what was raised of it and not answered counts as dropped. -/
def State.dropBand (s : State) (n : Nat) (b : Int) : State :=
  let c := s.cam n
  match c.band b with
  | none => s
  | some x =>
    if x.dropped ∨ x.ended ∨ ¬ x.opened then s
    else
      let mine (e : CamTrig) : Bool := c.bandOf e.k == b
      let c := { c with list := c.list.filter fun e => !mine e,
                        owed := c.owed ++ (c.list.filter mine).map fun _ => s.now }
      let s := s.setCam n (c.updBand b fun x => { x with dropped := true, waiting := 0 })
      let s := s.add 32 (K.camstLinesDropped n) x.waiting
      ((s.flag (K.camstStatus n) 2 66).inc 32 (K.camstBandsDropped n)).raise (Ev.camBandDropped n)

/-- Drop several bands. -/
def dropBands (n : Nat) : List Int → State → State
  | [], s => s
  | b :: l, s => dropBands n l (s.dropBand n b)

/-- A failing line drops the band of the oldest listed trigger, or the band in progress (R118). -/
def State.dropLineBand (s : State) (n : Nat) : State :=
  let c := s.cam n
  match c.list with
  | e :: _ => s.dropBand n (c.bandOf e.k)
  | [] => match c.inBand with | some x => s.dropBand n x.b | none => s

/-- A trigger that was lost, pushed out or not sent drops its own band (R118). -/
def State.trigFails (s : State) (n : Nat) (k : Int) : State := s.dropBand n ((s.cam n).bandOf k)

/-- A band starts (R119): it takes lines when the channel is ACTIVE or fed by replay (R112, R120); a settings change joins the
generation (R125). -/
def State.bandStart (s : State) (n : Nat) (b : Int) : State :=
  let c := s.cam n
  let s := if c.settings then s.inc 32 (K.camstCameraGeneration n) else s
  let k0 := c.bandFirst b
  let x : Band := { b := b, k0 := k0, k1 := k0 + c.baseL - 1, last := k0 - 1,
                    opened := s.camState n == camActive || s.replaying n,
                    replay := s.replaying n, camGen := s.rd (K.camstCameraGeneration n) }
  (s.setCam n { c with cur := some b, settings := false, bands := c.bands ++ [x], gridBad := !s.gridOk n }).wr (K.camstBandIndex n) (ofI 64 b)

/-- The Wheel raises trigger k of channel n, or uses it up (R96, R119): a first k starts its band. -/
def State.camRaised (s : State) (n : Nat) (k : Int) (raised : Bool) : State :=
  if s.camState n = camDisabled then s else
  let b := (s.cam n).bandOf k
  let s := if k = (s.cam n).bandFirst b ∧ (s.cam n).band b = none then s.bandStart n b else s
  match (s.cam n).band b with
  | none => s
  | some x =>
    let count := raised && x.opened
    let s := s.setCam n ((s.cam n).updBand b fun x =>
      { x with last := max x.last k, waiting := if count && !x.dropped then x.waiting + 1 else x.waiting })
    if count ∧ x.dropped then s.inc 32 (K.camstLinesDropped n) else s

/-- The generator's trigger k counts for the channel's bands: not while replay numbers its own lines, nor once it has ended (R149). -/
def State.genRaised (s : State) (n : Nat) (k : Int) (raised : Bool) : State :=
  if s.replaying n ∧ (s.rd (K.repReplayPace n) ≠ 0 ∨ (tget {} s.ctxs n).replayEnd) then s else s.camRaised n k raised

/-- The generator raises no more triggers for the channel: disabled, outside RUNNING and DRAINING, or replay has ended. -/
def State.camIdle (s : State) (n : Nat) : Bool :=
  (s.dev != stRunning && s.dev != stDraining) ||
  (if s.replaying n then (tget {} s.ctxs n).replayEnd else !s.on (K.cgenEnable n))

/-- The band may end: it has received all its triggers and every line of it is accepted or dropped (R119). -/
def State.bandOver (s : State) (n : Nat) (x : Band) : Bool :=
  !x.ended && x.waiting == 0 && (decide (x.k1 ≤ x.last) || s.camIdle n)

/-- BAND_END (R119). -/
def bandEnd (n : Nat) (s : State) : State :=
  match (s.cam n).bands.find? (s.bandOver n) with
  | none => s
  | some x => (s.setCam n ((s.cam n).updBand x.b fun x => { x with ended := true })).raise (Ev.camBandEnd n)

/-- BAND_END. -/
def execBandEnd (n : Nat) (s : State) : Host.Outcome State Fault Refusal := inst (Nat.blt n 12) (bandEnd n s)

/-! ### Discovery (R111, R112) -/

/-- Enter a discovery phase. -/
def State.camPhase (s : State) (n p : Nat) : State :=
  (s.setCam n { s.cam n with phase := p, phaseAt := s.now, eager := false }).setCamState n camDiscovery

/-- DISC_FAIL: DiscoveryError names the phase, and the channel is ABSENT (R111). -/
def State.discFail (s : State) (n p : Nat) : State :=
  let s := (s.setCam n { s.cam n with phase := 0 }).setCamState n camAbsent
  ((s.wr (K.camstDiscoveryPhase n) p).wr (K.camstSpeed n) 0).flag (K.camstStatus n) 0x400 70

/-- CXP_LOCK (R111): character lock on the master link; with PlugMode AUTO, or after a Readmit, discovery starts. -/
def cxpLock (n : Nat) (s : State) : State :=
  if s.domainAsleep 0 then s else
  let c := s.cam n
  let s := s.setCam n { c with lock := true }
  let s := s.wr (K.camstLinksUp n) (setBits (s.rd (K.camstLinksUp n)) 1)
  if s.camState n = camAbsent ∧ (s.rd (K.camPlugMode n) = 1 ∨ c.eager) ∧ ¬ c.lock then s.camPhase n 1 else s

/-- CXP_LOCK. -/
def execCxpLock (n : Nat) (s : State) : Host.Outcome State Fault Refusal := inst (Nat.blt n 12) (cxpLock n s)

/-- HUNT_LOCK (R111): comma lock has held for 1,024 characters. -/
def huntLock (n : Nat) (s : State) : State :=
  if s.camState n = camDiscovery ∧ (s.cam n).phase = 1 ∧ (s.cam n).lock then s.camPhase n 2 else s

/-- HUNT_LOCK. -/
def execHuntLock (n : Nat) (s : State) : Host.Outcome State Fault Refusal := inst (Nat.blt n 12) (huntLock n s)

/-- HUNT_TIMEOUT (R111): 1 s at the highest speed without lock; ABSENT again. -/
def huntTimeout (n : Nat) (s : State) : State :=
  if s.camState n = camDiscovery ∧ (s.cam n).phase = 1 then
    ((s.at ((s.cam n).phaseAt + ms 1000)).setCam n { s.cam n with phase := 0 }).setCamState n camAbsent
  else s

/-- HUNT_TIMEOUT. -/
def execHuntTimeout (n : Nat) (s : State) : Host.Outcome State Fault Refusal := inst (Nat.blt n 12) (huntTimeout n s)

/-- The greatest speed offered that is no higher than MaxSpeed; 0 for none. -/
def bestSpeed (offered : List Nat) (top : Nat) : Nat :=
  (offered.filter fun v => Nat.ble 1 v && Nat.ble v 7 && Nat.ble v top).foldl max 0

/-- QUERY_DONE (R111): the bootstrap registers are read; Configure chooses the links and the speed, and Train begins, or
DISC_FAIL. -/
def queryDone (n : Nat) (r : CamQuery) (s : State) : State :=
  if s.camState n ≠ camDiscovery ∨ (s.cam n).phase ≠ 2 then s
  else if ¬ r.ok then s.discFail n 2
  else
    let s := s.wr (K.camstCamVersion n) r.version
    let sp := bestSpeed r.speeds (s.rd (K.camMaxSpeed n))
    if r.links < s.rd (K.camLinkCount n) ∨ sp = 0 then s.discFail n 3
    else (s.wr (K.camstSpeed n) sp).camPhase n 4

/-- QUERY_DONE. -/
def execQueryDone (n : Nat) (r : CamQuery) (s : State) : Host.Outcome State Fault Refusal :=
  inst (Nat.blt n 12) (queryDone n r s)

/-- One link's receive calibration ends (R515): plausible when the eye is at least 16 phase steps and the equaliser below 15. -/
def State.cxpCal (s : State) (link eye eq : Nat) : State :=
  s.calEnd (calCxl link) (if eye < 16 then 1 else if 15 ≤ eq then 2 else 0) eye 16

/-- The calibrations of the links from `i` on. -/
def State.cxpCals (n : Nat) (eyes eqs : List Nat) : List Nat → State → State
  | [], s => s
  | i :: l, s => State.cxpCals n eyes eqs l (s.cxpCal (4 * n + i) (nth eyes i) (nth eqs i))

/-- Every link has a set of taps in force. -/
def State.cxpHas (s : State) (n links : Nat) : Bool :=
  (List.range links).all fun i => (tget {} s.calRecs (calCxl (4 * n + i))).has

/-- TRAIN_DONE (R111, R515): every link locks and is calibrated; with one connection identity, and a set of taps in force on
each, the channel becomes ACTIVE. -/
def trainDone (n : Nat) (t : CamTrain) (s : State) : State :=
  if s.camState n ≠ camDiscovery ∨ (s.cam n).phase ≠ 4 then s
  else
    let links := s.rd (K.camLinkCount n)
    let s := State.cxpCals n t.eyes t.equalisers (List.range links) s
    let ids := t.identities.take links
    if ids.length = links ∧ ids.all (fun x => x == nth t.identities 0) ∧ s.cxpHas n links then
      let s := s.setCam n { s.cam n with phase := 0, lastLine := none }
      ((s.wr (K.camstLinksUp n) (2 ^ links - 1)).setCamState n camActive).raise (Ev.camPresent n)
    else s.discFail n 4

/-- TRAIN_DONE. -/
def execTrainDone (n : Nat) (t : CamTrain) (s : State) : Host.Outcome State Fault Refusal :=
  inst (Nat.blt n 12) (trainDone n t s)

/-- TRAIN_TIMEOUT (R111): the links have not all locked within 200 ms. -/
def trainTimeout (n : Nat) (s : State) : State :=
  if s.camState n = camDiscovery ∧ (s.cam n).phase = 4 then (s.at ((s.cam n).phaseAt + ms 200)).discFail n 4 else s

/-- TRAIN_TIMEOUT. -/
def execTrainTimeout (n : Nat) (s : State) : Host.Outcome State Fault Refusal := inst (Nat.blt n 12) (trainTimeout n s)

/-- REDISCOVER (R111, R128): starts discovery from ABSENT; ignored in other states. -/
def rediscoverWrite (a : Acc) (n : Nat) (s : State) : State :=
  s.act a (K.camstRediscover n) 0 fun s =>
    if accVal a (K.camstRediscover n) = 1 ∧ s.camState n = camAbsent then s.camPhase n 1 else s

/-- REDISCOVER. -/
def execRediscover (a : Acc) (n : Nat) (s : State) : Host.Outcome State Fault Refusal :=
  inst (Nat.blt n 12) (rediscoverWrite a n s)

/-- CAM_READMIT (R122): a retired channel is ABSENT with its fault run cleared, and starts discovery as soon as lock is found;
without effect on any other. -/
def camReadmitWrite (a : Acc) (n : Nat) (s : State) : State :=
  s.act a (K.camstReadmit n) 0 fun s =>
    if accVal a (K.camstReadmit n) = 1 ∧ s.camState n = camRetired then
      let s := (s.setCamState n camAbsent).readmit (2 * 256 + n)
      if (s.cam n).lock then s.camPhase n 1 else s.setCam n { s.cam n with eager := true }
    else s

/-- CAM_READMIT. -/
def execCamReadmit (a : Acc) (n : Nat) (s : State) : Host.Outcome State Fault Refusal :=
  inst (Nat.blt n 12) (camReadmitWrite a n s)

/-! ### Triggers (R113 to R115) -/

/-- Triggers can be sent (R113). -/
def State.camSends (s : State) (n : Nat) : Bool :=
  (s.dev == stRunning || s.dev == stDraining) && (s.camState n == camActive || s.camState n == camRelock) &&
  s.bit (K.camstLinksUp n) 0

/-- The uplink runs at HIGH (R109). -/
def State.uplinkHigh (s : State) (n : Nat) : Bool := Nat.ble 6 (s.rd (K.camstSpeed n)) && s.rd (K.camUplinkRate n) == 1

/-- The first trigger waiting on a fixed route. -/
def State.takeTrig (s : State) (g : Nat) : Option (Trig × State) :=
  match s.trigs.find? fun t => t.gen == g with
  | some t => some (t, { s with trigs := s.trigs.erase t })
  | none => none

/-- Device time, in the TIME form, at a stamp no later than now under the present rate. -/
def State.timeAt (s : State) (t : Nat) : Nat :=
  ofI 80 (floorDiv (s.timeBase + ((t : Int) - s.timeC0) * s.rate) (2 ^ 32))

/-- A trigger is lost (R114). -/
def State.trigLost (s : State) (n : Nat) (k : Int) : State :=
  ((s.flag (K.camstStatus n) 0x80 68).inc 32 (K.camstTrigOverruns n)).trigFails n k

/-- CAM_TRIGGER (R113, R114, R148): two FABCLK after WHL_CTRIGn the trigger is being sent, held, lost or not sent; in replay it
waits for its line. -/
def camTrigger (n : Nat) (s : State) : State :=
  match s.takeTrig n with
  | none => s
  | some (t, s) =>
    let s := s.at (t.stamp + 2)
    let x : CamTrig := { k := t.k, t := t.t, time := s.timeAt t.stamp, stamp := s.now }
    let c := s.cam n
    if s.camState n = camDisabled then s
    else if s.replaying n then (if s.rd (K.repReplayPace n) = 0 ∧ ¬ (tget {} s.ctxs n).replayEnd then s.setCam n { c with list := c.list ++ [x] } else s)
    else if s.camState n = camRetired then s.trigFails n t.k
    else if ¬ s.camSends n then s.trigFails n t.k
    else
      match c.sending, c.held with
      | none, _ => s.setCam n { c with sending := some x, started := none }
      | some _, none => s.setCam n { c with held := some x }
      | some _, some _ => s.trigLost n t.k

/-- CAM_TRIGGER. -/
def execCamTrigger (n : Nat) (s : State) : Host.Outcome State Fault Refusal := inst (Nat.blt n 12) (camTrigger n s)

/-- A trigger's packet has been sent (R115, R583): it is listed, or leaves an owed line when its band is dropped or not taking
lines; a sixteenth entry pushes out the oldest, which is late. -/
def State.trigSent (s : State) (n : Nat) (x : CamTrig) : State :=
  let c := s.cam n
  match c.band (c.bandOf x.k) with
  | some b =>
    if b.opened ∧ ¬ b.dropped then
      let e : CamTrig := { x with stamp := s.now }
      match c.list with
      | o :: l =>
        if 16 ≤ c.list.length then
          (s.setCam n { c with list := l ++ [e], owed := c.owed ++ [s.now] }).trigFails n o.k
        else s.setCam n { c with list := c.list ++ [e] }
      | [] => s.setCam n { c with list := [e] }
    else s.setCam n { c with owed := c.owed ++ [s.now] }
  | none => s.setCam n { c with owed := c.owed ++ [s.now] }

/-- TRIGGER_PACKET_START (R113): at an uplink character boundary the packet starts with its delay field; a trigger whose
conditions fail while it waits is not sent. -/
def triggerPacketStart (n : Nat) (s : State) : State :=
  let c := s.cam n
  match c.sending, c.started with
  | some x, none =>
    let s := s.at x.stamp
    if s.camSends n then
      let s := s.setCam n { c with started := some s.now }
      ({ s with uplinks := s.uplinks ++ [Uplink.trigger n x.k (s.now - x.stamp)] }).trigSent n x
    else (s.setCam n { c with sending := c.held, held := none }).trigFails n x.k
  | _, _ => s

/-- TRIGGER_PACKET_START. -/
def execTriggerPacketStart (n : Nat) (s : State) : Host.Outcome State Fault Refusal :=
  inst (Nat.blt n 12) (triggerPacketStart n s)

/-- TRIGGER_PACKET_END (R113, R114): 2,304 FABCLK at LOW and 1,152 at HIGH after its start, the packet ends and a held trigger is
next. -/
def triggerPacketEnd (n : Nat) (s : State) : State :=
  let c := s.cam n
  match c.started with
  | some t =>
    (s.at (t + if s.uplinkHigh n then 1152 else 2304)).setCam n { c with sending := c.held, held := none, started := none }
  | none => s

/-- TRIGGER_PACKET_END. -/
def execTriggerPacketEnd (n : Nat) (s : State) : Host.Outcome State Fault Refusal :=
  inst (Nat.blt n 12) (triggerPacketEnd n s)

/-! ### Lines (R116 to R118, R583) -/

/-- Reverse the samples within each of `rows` rows. -/
def reverseRows (w : Nat) : Nat → List Nat → List Nat
  | 0, _ => []
  | r + 1, l => (l.take w).reverse ++ reverseRows w r (l.drop w)

/-- Samples as the FIFO holds them (R117). -/
def State.unpack (s : State) (n : Nat) (l : List Nat) : List Nat :=
  let l := l.map fun v => v % 2 ^ s.rd (K.camSampleBits n)
  let rows := s.rd (K.camRowsPerLine n)
  if s.rd (K.camColumnOrder n) = 1 then reverseRows (l.length / rows) rows l else l

/-- Put a line in the input FIFO (R117). -/
def State.fifoPut (s : State) (n : Nat) (x : CLine) : State :=
  let c := s.cam n
  let c := (c.updBand x.band fun b => { b with piped := b.piped + 1 })
  let s := s.setCam n { c with fifo := c.fifo ++ [x] }
  let s := (s.wr (K.camstFifoFill n) (s.cam n).fifo.length).peak (K.camstFifoPeak n) (s.cam n).fifo.length
  s.inc 64 (K.camstLinesAccepted n)

/-- A line that fails (R118): the flag is set, the band is dropped, and the line pays the trigger it answers. -/
def State.lineFails (s : State) (n bit : Nat) : State :=
  let had := !(s.cam n).list.isEmpty
  let s := (s.flag (K.camstStatus n) (2 ^ bit) 67).dropLineBand n
  if had then s.setCam n { s.cam n with owed := (s.cam n).owed.drop 1 } else s

/-- Checks 2 to 5 of R116. -/
def State.lineFits (s : State) (n : Nat) (l : CamLine) (e : CamTrig) : Bool :=
  let c := s.cam n
  let fmt := s.rd (K.camPixelFormatCode n)
  l.stream == s.rd (K.camStreamId n) && (fmt == 0 || l.format == fmt) &&
  l.width * s.rd (K.camRowsPerLine n) == s.rd (K.camLineLength n) && l.samples.length == s.rd (K.camLineLength n) &&
  (match c.lastLine with
   | some (b, q) => b != c.bandOf e.k || l.count == q + 1
   | none => true)

/-- A line is accepted and paired with the oldest listed trigger (R117). -/
def State.lineAccept (s : State) (n : Nat) (l : CamLine) (e : CamTrig) : State :=
  let c := s.cam n
  let b := c.bandOf e.k
  let c := { c with list := c.list.drop 1, lastLine := some (b, l.count) }
  let s := s.setCam n (c.updBand b fun x => { x with waiting := x.waiting - 1 })
  s.fifoPut n { k := e.k, t := e.t, time := e.time, band := b, data := s.unpack n l.samples, stamp := s.now }

/-- The channel takes lines: a trigger is listed, or a band that takes lines goes on (R112, R120). -/
def Cam.taking (c : Cam) : Bool := !c.list.isEmpty || c.bands.any fun x => x.opened && !x.ended

/-- LINE_RECEIVED (R116 to R118, R583, R121, R148). -/
def lineReceived (n : Nat) (l : CamLine) (s : State) : State :=
  let c := s.cam n
  let st := s.camState n
  if st = camRetired ∨ (s.replaying n ∧ st ≠ camDisabled) then s.inc 32 (K.camstDiscardCount n)
  else if st ≠ camActive ∧ st ≠ camRelock then s
  else
    match c.owed with
    | _ :: o => s.setCam n { c with owed := o }
    | [] =>
      let s := if c.taking then s.add 32 (K.camstCrcErrors n) l.badCrc else s
      if ¬ c.taking then s
      else if s.rd (K.camFifoLines n) ≤ c.fifo.length then s.lineFails n 4
      else if l.badCrc ≠ 0 then s.lineFails n 2
      else
        match c.list with
        | [] => s.lineFails n 6
        | e :: _ => if s.lineFits n l e then s.lineAccept n l e else s.lineFails n 3

/-- LINE_RECEIVED. -/
def execLineReceived (n : Nat) (l : CamLine) (s : State) : Host.Outcome State Fault Refusal :=
  inst (Nat.blt n 12) (lineReceived n l s)

/-- SKEW_TIMEOUT (R116): a line in reassembly overruns LinkSkewMax; an owed line is paid by it. -/
def skewTimeout (n : Nat) (s : State) : State :=
  let c := s.cam n
  if s.camState n ≠ camActive ∧ s.camState n ≠ camRelock then s
  else
    match c.owed with
    | _ :: o => s.setCam n { c with owed := o }
    | [] => if c.taking then s.lineFails n 3 else s

/-- SKEW_TIMEOUT. -/
def execSkewTimeout (n : Nat) (s : State) : Host.Outcome State Fault Refusal := inst (Nat.blt n 12) (skewTimeout n s)

/-- LATE_LINE (R118): the oldest listed trigger has waited LineTimeout µs. In replay at TRIGGER pace REPLAY_LATE is set too
(R149). -/
def lateLine (n : Nat) (s : State) : State :=
  let c := s.cam n
  match c.list with
  | [] => s
  | e :: l =>
    let s := s.at (e.stamp + us (s.rd (K.camLineTimeout n)))
    let s := if s.replaying n then (s.setCam n { c with list := l }).flag (K.ctxsStatus n) 8 74
      else s.setCam n { c with list := l, owed := c.owed ++ [s.now] }
    (s.flag (K.camstStatus n) 0x20 67).trigFails n e.k

/-- LATE_LINE. -/
def execLateLine (n : Nat) (s : State) : Host.Outcome State Fault Refusal := inst (Nat.blt n 12) (lateLine n s)

/-- OWED_LINE_LAPSE (R583). -/
def owedLineLapse (n : Nat) (s : State) : State :=
  let c := s.cam n
  match c.owed with
  | [] => s
  | t :: o => (s.at (t + us (s.rd (K.camLineTimeout n)))).setCam n { c with owed := o }

/-- OWED_LINE_LAPSE. -/
def execOwedLineLapse (n : Nat) (s : State) : Host.Outcome State Fault Refusal := inst (Nat.blt n 12) (owedLineLapse n s)

/-! ### Link loss (R120 to R122) -/

/-- The tunnel ends (R124). -/
def State.tunEnd (s : State) (n code : Nat) : State :=
  let c := s.cam n
  let s := if code = 2 ∧ ¬ c.tunWrite then s.domWrite (K.tunData n) 0 c.tunRead else s
  let s := if code = 2 ∧ c.tunWrite ∧ c.tunSet then
      (let m := match c.inBand with | some x => c.updBand x.b fun x => { x with mixed := true } | none => c
       s.setCam n { m with settings := true })
    else s
  ((s.wr (K.tunTunnelStatus n) code).arrive 71).raise (Ev.camTunnelDone n)

/-- The channel can no longer reach the camera: a transfer under way ends LINK_DOWN (R124). -/
def State.tunDown (s : State) (n : Nat) : State := if s.rd (K.tunTunnelStatus n) = 1 then s.tunEnd n 5 else s

/-- A channel is retired (R121). Its FIFO is emptied. -/
def State.camRetire (s : State) (n : Nat) : State :=
  let c := s.cam n
  let left (x : Band) : Nat := (c.fifo.filter fun l => l.band == x.b).length
  let s := s.setCam n { c with fifo := [], list := [], owed := [], sending := none, held := none, started := none,
                               bands := c.bands.map fun x => { x with piped := x.piped - left x, waiting := 0 } }
  let s := ((s.wr (K.camstFifoFill n) 0).tunDown n).setCamState n camRetired
  ((s.flag (K.camstStatus n) 0x100 64).raise (Ev.camRetired n)).retire (2 * 256 + n) 0 (s.rd (K.camstFaultCount n))

/-- The bands of a channel that have started and not ended. -/
def Cam.openBands (c : Cam) : List Int := (c.bands.filter fun x => !x.ended).map fun x => x.b

/-- CXP_LINK_LOST (R111, R120, R121, R124). -/
def cxpLinkLost (n link : Nat) (s : State) : State :=
  let c := s.cam n
  let st := s.camState n
  let s := s.wr (K.camstLinksUp n) (clearBits (s.rd (K.camstLinksUp n)) (2 ^ link))
  let s := if link = 0 then s.setCam n { c with lock := false } else s
  let s := if link = 0 then s.tunDown n else s
  if st = camActive ∧ link < s.rd (K.camLinkCount n) then
    let s := dropBands n (s.cam n).openBands s
    let s := (s.setCam n { s.cam n with relockAt := s.now }).setCamState n camRelock
    let s := (s.flag (K.camstStatus n) 1 65).raise (Ev.camLinkLost n)
    let s := (s.inc 32 (K.camstFaultCount n)).wr (K.camstLastFaultTime n) s.time
    let s := s.transient (2 * 256 + n) 0 (s.rd (K.camRetryWindow n))
    if s.breaks (2 * 256 + n) (s.rd (K.camRetryCount n)) (s.rd (K.camRetryWindow n)) then s.camRetire n else s
  else if st = camDiscovery ∧ link = 0 then
    match c.phase with
    | 2 => s.discFail n 2
    | 3 => s.discFail n 3
    | _ => s
  else s

/-- CXP_LINK_LOST. -/
def execCxpLinkLost (n link : Nat) (s : State) : Host.Outcome State Fault Refusal :=
  inst (Nat.blt n 12 && Nat.blt link 4) (cxpLinkLost n link s)

/-- CXP_RELOCKED (R120, R515): every lost link is locked again; a relock whose calibration fails keeps the old set. -/
def cxpRelocked (n : Nat) (eyes : List Nat) (s : State) : State :=
  if s.camState n ≠ camRelock then s
  else
    let links := s.rd (K.camLinkCount n)
    let lost := (List.range links).filter fun i => !s.bit (K.camstLinksUp n) i
    let s := State.cxpCals n eyes [] lost s
    let s := s.setCam n { s.cam n with lock := true, lastLine := none }
    ((s.wr (K.camstLinksUp n) (2 ^ links - 1)).setCamState n camActive).raise (Ev.camRelocked n)

/-- CXP_RELOCKED. -/
def execCxpRelocked (n : Nat) (eyes : List Nat) (s : State) : Host.Outcome State Fault Refusal :=
  inst (Nat.blt n 12) (cxpRelocked n eyes s)

/-- RELOCK_TIMEOUT (R121): the channel has stayed in RELOCK for RetryWindow ms. -/
def relockTimeout (n : Nat) (s : State) : State :=
  if s.camState n = camRelock then (s.at ((s.cam n).relockAt + ms (s.rd (K.camRetryWindow n)))).camRetire n else s

/-- RELOCK_TIMEOUT. -/
def execRelockTimeout (n : Nat) (s : State) : Host.Outcome State Fault Refusal := inst (Nat.blt n 12) (relockTimeout n s)

/-! ### Other packets (R110) -/

/-- A packet of an ACTIVE or relocking channel is counted in `k`; a retired channel counts it as discarded (R121). -/
def State.camPacket (s : State) (n k : Nat) : State :=
  if s.camState n = camRetired then s.inc 32 (K.camstDiscardCount n)
  else if s.camState n = camActive ∨ s.camState n = camRelock then s.inc 32 k
  else s

/-- CXP_HEARTBEAT. -/
def execCxpHeartbeat (n : Nat) (s : State) : Host.Outcome State Fault Refusal :=
  inst (Nat.blt n 12) (s.camPacket n (K.camstHeartbeats n))

/-- CXP_EVENT. -/
def execCxpEvent (n : Nat) (s : State) : Host.Outcome State Fault Refusal :=
  inst (Nat.blt n 12) (s.camPacket n (K.camstCamEvents n))

/-- CXP_TRIGGER_ACK. -/
def execCxpTriggerAck (n : Nat) (s : State) : Host.Outcome State Fault Refusal :=
  inst (Nat.blt n 12) (s.camPacket n (K.camstTrigAcks n))

/-! ### Control tunnel (R124, R125) -/

/-- The tunnel can reach the camera. -/
def State.tunUp (s : State) (n : Nat) : Bool :=
  (s.camState n == camActive || s.camState n == camRelock) && s.bit (K.camstLinksUp n) 0

/-- Send the next control command of the transfer. -/
def State.tunSend (s : State) (n : Nat) : State :=
  let c := s.cam n
  let m := min (s.rd (K.camControlChunk n)) (c.tunLen - c.tunOff)
  let d := if c.tunWrite then (c.tunData.drop c.tunOff).take m else []
  { s.setCam n { c with tunAt := s.now, tunWaits := 0 } with
    uplinks := s.uplinks ++ [Uplink.control n (c.tunAddr + c.tunOff) m c.tunWrite d] }

/-- TUNNEL_GO (R124): refused with ERR_BUSY while BUSY or in Query, Configure or Train. -/
def tunnelGoWrite (a : Acc) (n : Nat) (s : State) : State :=
  let busy := s.rd (K.tunTunnelStatus n) == 1 || (s.camState n == camDiscovery && Nat.ble 2 (s.cam n).phase)
  s.act a (K.tunTunnelGo n) (if busy then 13 else 0) fun s =>
    if accVal a (K.tunTunnelGo n) = 0 then s
    else if ¬ s.tunUp n then s.tunEnd n 5
    else
      let len := s.rd (K.tunLength n)
      let s := (s.wr (K.tunTunnelStatus n) 1)
      (s.setCam n { s.cam n with tunOff := 0, tunWaits := 0, tunRead := [], tunAddr := s.rd (K.tunAddress n), tunLen := len,
                                 tunWrite := s.rd (K.tunDirection n) == 1, tunSet := s.on (K.tunSettings n),
                                 tunData := s.domBytes (K.tunData n) 0 len }).tunSend n

/-- TUNNEL_GO. -/
def execTunnelGo (a : Acc) (n : Nat) (s : State) : Host.Outcome State Fault Refusal :=
  inst (Nat.blt n 12) (tunnelGoWrite a n s)

/-- What an acknowledge says. -/
def tunnelAckStep (n code : Nat) (data : List Nat) (wait : Bool) (s : State) : State :=
  let c := s.cam n
  let s := s.wr (K.tunAckCode n) (code % 256)
  if wait then
    if 8 ≤ c.tunWaits then s.tunEnd n 4 else s.setCam n { c with tunWaits := c.tunWaits + 1, tunAt := s.now }
  else if code ≠ 0 then s.tunEnd n 3
  else
    let m := min (s.rd (K.camControlChunk n)) (c.tunLen - c.tunOff)
    let s := s.setCam n { c with tunOff := c.tunOff + m, tunRead := c.tunRead ++ if c.tunWrite then [] else padTo m (data.take m) }
    if c.tunLen ≤ c.tunOff + m then s.tunEnd n 2 else s.tunSend n

/-- TUNNEL_ACK (R124): success (code 0) sends the next command or ends DONE; a wait restarts the Timeout, up to 8 times for each
command; any other code ends CAMERA_ERROR. -/
def tunnelAck (n code : Nat) (data : List Nat) (wait : Bool) (s : State) : State :=
  if s.rd (K.tunTunnelStatus n) ≠ 1 then s
  else if ¬ s.tunUp n then s.tunEnd n 5
  else tunnelAckStep n code data wait s

/-- TUNNEL_ACK. -/
def execTunnelAck (n code : Nat) (data : List Nat) (wait : Bool) (s : State) : Host.Outcome State Fault Refusal :=
  inst (Nat.blt n 12) (tunnelAck n code data wait s)

/-- TUNNEL_TIMEOUT (R124): no acknowledge within Timeout ms. -/
def tunnelTimeout (n : Nat) (s : State) : State :=
  if s.rd (K.tunTunnelStatus n) = 1 then (s.at ((s.cam n).tunAt + ms (s.rd (K.tunTimeout n)))).tunEnd n 4 else s

/-- TUNNEL_TIMEOUT. -/
def execTunnelTimeout (n : Nat) (s : State) : Host.Outcome State Fault Refusal := inst (Nat.blt n 12) (tunnelTimeout n s)

/-- A commit of a channel group applies (R111, R119, R126): the channel is enabled, disabled, or goes back through discovery
when the connection fields changed; a new BandLength counts from the next band. `oldLen` is LineLength before, `conn` says that
a connection field changed. -/
def State.camApply (s : State) (n oldLen : Nat) (conn : Bool) : State :=
  let c := s.cam n
  let len := s.rd (K.camLineLength n)
  let l := s.rd (K.camBandLength n)
  let c := match c.cur with
    | some b => { c with baseK := c.bandFirst (b + 1), baseB := b + 1, baseL := l }
    | none => { c with baseL := l }
  let s := s.setCam n c
  if len = 0 then
    if oldLen = 0 then s else
    ((s.setCam n { lock := c.lock, baseL := l }).tunDown n).setCamState n camDisabled |>.wr (K.camstFifoFill n) 0
  else if oldLen = 0 then
    let s := s.setCamState n camAbsent
    if c.lock ∧ s.rd (K.camPlugMode n) = 1 then s.camPhase n 1 else s
  else if conn ∧ s.camState n = camActive then (s.tunDown n).camPhase n 1
  else s

/-- A run starts (R119): bands number from k = 0 by the length in force. -/
def State.camRunStart (s : State) (n : Nat) : State :=
  let c := s.cam n
  s.setCam n { c with baseK := 0, baseB := 0, baseL := s.rd (K.camBandLength n), cur := none, lastLine := none, gridBad := false,
                      bands := c.bands.filter fun x => x.ended, list := [], sending := none, held := none, started := none }

end Sys2Proof.Machine
end

