-- ==== Sys2Proof/Machine/Grenust.lean ====
section
/-! DEFINITION. The Grenust stream format (R390 to R400): the decoder with its checks, and the compressor. -/

namespace Sys2Proof.Machine

/-- Job statuses (R403). -/
abbrev zeOk := 1
abbrev zeEmpty := 2
abbrev zeNotSmaller := 3
abbrev zeDestFull := 4
abbrev zeLimit := 5
abbrev zeFormat := 6
abbrev zeCrc := 7
abbrev zeDistance := 8
abbrev zeVerify := 9
abbrev zeAlign := 10
abbrev zeBus := 11
abbrev zePreempted := 12
abbrev zeAborted := 13
abbrev zeDesc := 14

/-! ### The decoder (R391 to R396) -/

/-- A varint of at most `n` bytes: its value and the rest (R394). -/
def varint : Nat → List Nat → Option (Nat × List Nat)
  | 0, _ => none
  | _ + 1, [] => none
  | n + 1, b :: l => if b < 128 then some (b, l) else (varint n l).map fun r => (b % 128 + 128 * r.1, r.2)

/-- Copy `n` bytes from `dist` back; `rev` is what the stream has produced, latest first (R393). -/
def copyBack : Nat → Nat → List Nat → List Nat
  | 0, _, rev => rev
  | n + 1, dist, rev => copyBack n dist (nth rev (dist - 1) :: rev)

/-- What a block's decoding leaves: its status (zeOk when whole) and what the stream has produced, latest first. -/
abbrev Decoded := Nat × List Nat

/-- The match of a sequence: its length (known before the distance where Mc is below 31, R393), its distance, and the checks
against RawLength and the history. -/
def decodeMatch (mc left : Nat) (pay rev : List Nat) : Option (Nat × List Nat × List Nat) × Nat :=
  if mc < 31 ∧ left < mc + 2 then (none, zeFormat)
  else
    match pay with
    | a :: b :: rest =>
      let dist := a + 256 * b + 1
      if rev.length < dist then (none, zeDistance)
      else if mc < 31 then (some (mc + 2, rest, copyBack (mc + 2) dist rev), zeOk)
      else
        match varint 3 rest with
        | none => (none, zeFormat)
        | some (v, rest) => if left < 33 + v then (none, zeFormat) else (some (33 + v, rest, copyBack (33 + v) dist rev), zeOk)
    | _ => (none, zeFormat)

/-- The sequences of a COMPRESSED payload; `left` bytes of the block are still to come. -/
def decodeSeqs : Nat → Nat → List Nat → List Nat → Decoded
  | 0, _, _, rev => (zeFormat, rev)
  | _ + 1, 0, pay, rev => (if pay.isEmpty then zeOk else zeFormat, rev)
  | _ + 1, _ + 1, [], rev => (zeFormat, rev)
  | n + 1, left + 1, c :: pay, rev =>
    let lc := c / 32
    match (if lc < 7 then some (lc, pay) else (varint 3 pay).map fun r => (7 + r.1, r.2)) with
    | none => (zeFormat, rev)
    | some (lits, pay) =>
      if left + 1 < lits then (zeFormat, rev)
      else
        let rev := (pay.take lits).reverse ++ rev
        if pay.length < lits then (zeFormat, rev)
        else
          let pay := pay.drop lits
          let left := left + 1 - lits
          if c % 32 = 0 then (if left = 0 ∧ pay.isEmpty then zeOk else zeFormat, rev)
          else
            match decodeMatch (c % 32) left pay rev with
            | (some (m, pay, rev), _) => decodeSeqs n (left - m) pay rev
            | (none, st) => (st, rev)

/-- A block's data: STORED, COMPRESSED or FILL (R391). -/
def decodeBlock (ty raw plen : Nat) (pay rev : List Nat) : Decoded :=
  if ty = 0 then (if pay.length < plen then zeFormat else zeOk, pay.reverse ++ rev)
  else if ty = 2 then
    match pay with
    | b :: _ => (zeOk, List.replicate raw b ++ rev)
    | [] => (zeFormat, rev)
  else decodeSeqs (plen + 1) raw pay rev

/-- The checks of a block header (R391, R396). -/
def blockHeaderOk (h : List Nat) (done orig : Nat) : Bool :=
  let t := nth h 0
  let raw := leAt h 4 4
  let plen := leAt h 8 4
  h.length == 16 && t % 128 < 3 && leAt h 1 3 == 0 && Nat.ble 1 raw && Nat.ble raw 262144 &&
  (match t % 4 with | 0 => plen == raw | 2 => plen == 1 | _ => Nat.ble 1 plen) && Nat.ble (done + raw) orig

/-- The blocks of a stream. -/
def decodeBlocks : Nat → Nat → List Nat → List Nat → Decoded
  | 0, _, _, rev => (zeFormat, rev)
  | n + 1, orig, inp, rev =>
    let h := inp.take 16
    if ¬ blockHeaderOk h rev.length orig then (zeFormat, rev)
    else
      let raw := leAt h 4 4
      let plen := leAt h 8 4
      match decodeBlock (nth h 0 % 4) raw plen ((inp.drop 16).take plen) rev with
      | (st, out) =>
        if st ≠ zeOk then (st, out)
        else if crc32c (out.take raw).reverse ≠ leAt h 12 4 then (zeCrc, out)
        else
          let rest := inp.drop (16 + plen)
          if 128 ≤ nth h 0 then (if out.length = orig ∧ rest.isEmpty then zeOk else zeFormat, out)
          else decodeBlocks n orig rest out

/-- Decompress (R396): the status and the bytes written. -/
def decompress (inp : List Nat) (outLimit : Nat) : Nat × List Nat :=
  let orig := leAt inp 8 8
  if inp.length < 16 ∨ leAt inp 0 4 ≠ 0x31535247 ∨ nth inp 4 ≠ 1 ∨ nth inp 5 ≠ 0 ∨ nth inp 6 ≠ 16 ∨ nth inp 7 ≠ 0 then (zeFormat, [])
  else if outLimit < orig then (zeLimit, [])
  else
    let r := decodeBlocks (inp.length + 1) orig (inp.drop 16) []
    (r.1, r.2.reverse)

/-! ### The compressor (R397 to R399) -/

/-- The hash of three bytes (R398). -/
def lzHash (a b c : Nat) : Nat := (a + 256 * b + 65536 * c) * 0x9E3779B1 % 2 ^ 32 / 2 ^ 17

/-- ChainLen by level (R398). -/
def chainLen (level : Nat) : Nat := 2 ^ (level - 1)

/-- How many leading bytes of two lists agree, at most `n`. -/
def agree : Nat → List Nat → List Nat → Nat
  | n + 1, a :: l, b :: m => if a = b then agree n l m + 1 else 0
  | _, _, _ => 0

/-- Walk the chain (R398): `dist` counts back from the searched position, the list holds the input from each earlier position
on, latest first; at most `chain` candidates of the same hash are tried; the longest match wins, the earlier found on a tie. -/
def walkChain (hash lim : Nat) (here : List Nat) (chain dist : Nat) : List (List Nat) → Nat × Nat → Nat × Nat
  | [], best => best
  | t :: prev, best =>
    if chain = 0 ∨ 65536 < dist then best
    else
      match t with
      | a :: b :: c :: _ =>
        if lzHash a b c = hash then
          let m := agree lim t here
          walkChain hash lim here (chain - 1) (dist + 1) prev (if 3 ≤ m ∧ best.2 < m then (dist, m) else best)
        else walkChain hash lim here chain (dist + 1) prev best
      | _ => walkChain hash lim here chain (dist + 1) prev best

/-- Search for a match at a position with `lim` bytes left in its block: distance and length, length 0 for none. -/
def searchMatch (chain lim : Nat) (here : List Nat) (prev : List (List Nat)) : Nat × Nat :=
  match here with
  | a :: b :: c :: _ => if lim < 3 then (0, 0) else walkChain (lzHash a b c) lim here chain 1 prev (0, 0)
  | _ => (0, 0)

/-- The bytes of a varint (R394). -/
def varintBytes (v : Nat) : List Nat :=
  if v < 128 then [v] else if v < 16384 then [v % 128 + 128, v / 128]
  else [v % 128 + 128, v / 128 % 128 + 128, v / 16384]

/-- The bytes of a sequence; length 0 is no match (R393). -/
def seqBytes (lits : List Nat) (dist len : Nat) : List Nat :=
  let lc := min 7 lits.length
  let mc := if len = 0 then 0 else if len ≤ 32 then len - 2 else 31
  [lc * 32 + mc] ++ (if lc = 7 then varintBytes (lits.length - 7) else []) ++ lits ++
  (if len = 0 then [] else leBytes 2 (dist - 1) ++ (if mc = 31 then varintBytes (len - 33) else []))

/-- Pass `n` positions. -/
def passBytes : Nat → List Nat → List (List Nat) → List Nat × List (List Nat)
  | 0, here, prev => (here, prev)
  | n + 1, here, prev => passBytes n here.tail (here :: prev)

/-- Parse a block (R398): greedy, or looking one step ahead; `lits` are the literals in hand, latest first. Answers the payload,
what follows the block, and the positions passed. -/
def parseBlock (chain : Nat) (ahead : Bool) : Nat → Nat → List Nat → List (List Nat) → List Nat →
    List Nat × List Nat × List (List Nat)
  | 0, _, here, prev, lits => (if lits.isEmpty then [] else seqBytes lits.reverse 0 0, here, prev)
  | _ + 1, 0, here, prev, lits => (if lits.isEmpty then [] else seqBytes lits.reverse 0 0, here, prev)
  | n + 1, left + 1, here, prev, lits =>
    let m := searchMatch chain (left + 1) here prev
    let better := ahead && m.2 != 0 && Nat.blt m.2 (searchMatch chain left here.tail (here :: prev)).2
    if m.2 = 0 ∨ better then parseBlock chain ahead n left here.tail (here :: prev) (nth here 0 :: lits)
    else
      match passBytes m.2 here prev with
      | (here, prev) =>
        let r := parseBlock chain ahead n (left + 1 - m.2) here prev []
        (seqBytes lits.reverse m.1 m.2 ++ r.1, r.2)

/-- A block header (R391). -/
def blockHeader (last : Bool) (ty raw plen crc : Nat) : List Nat :=
  [ty + 128 * b2n last, 0, 0, 0] ++ leBytes 4 raw ++ leBytes 4 plen ++ leBytes 4 crc

/-- The blocks of a stream (R397): FILL, else COMPRESSED, else STORED. -/
def compressBlocks (size level : Nat) : Nat → List Nat → List (List Nat) → List Nat
  | 0, _, _ => []
  | n + 1, here, prev =>
    let data := here.take size
    let raw := data.length
    let last := (here.drop size).isEmpty
    let crc := crc32c data
    let r := parseBlock (chainLen level) (Nat.ble 6 level) (raw + 1) raw here prev []
    let own := if data.all (· == nth data 0) then blockHeader last 2 raw 1 crc ++ [nth data 0]
      else if raw ≤ r.1.length then blockHeader last 0 raw raw crc ++ data
      else blockHeader last 1 raw r.1.length crc ++ r.1
    if last then own else own ++ compressBlocks size level n r.2.1 r.2.2

/-- The whole stream of an input (R390, R397). -/
def compressStream (size level : Nat) (inp : List Nat) : List Nat :=
  leBytes 4 0x31535247 ++ [1, 0, 16, 0] ++ leBytes 8 inp.length ++ compressBlocks size level inp.length inp []

/-- Compress (R399): the status and the stream of an OK job. -/
def compress (size level : Nat) (inp : List Nat) (outLimit : Nat) : Nat × List Nat :=
  if inp.isEmpty then (zeEmpty, [])
  else
    let out := compressStream size level inp
    let room : Int := (inp.length : Int) - 64
    if (out.length : Int) ≤ min (outLimit : Int) room then (zeOk, out)
    else if room ≤ (outLimit : Int) then (zeNotSmaller, []) else (zeDestFull, [])

end Sys2Proof.Machine
end

