-- ==== Sys2Proof/Machine/Groups.lean ====
section
/-! DEFINITION. The apply of a STAGED group (R46, R49, R367): what every apply does, whatever the group. -/

namespace Sys2Proof.Machine

/-- Move a list of table entries into a table. -/
def tputs {α : Type} (l : Tab α) (t : Tab α) : Tab α := l.foldl (fun t e => tput t e.1 e.2) t

/-- The whole Shadow bank of a group becomes live (R49). -/
def State.goLive (s : State) (idx : Nat) : State :=
  { s with regs := tputs (tkeep (fun k => k / 256 == idx) s.shadow) s.regs,
           dom := tputs (tkeep (fun k => k / 2 ^ 40 == idx) s.shDom) s.dom,
           domLens := tputs (tkeep (fun k => k / 256 == idx) s.shDomLens) s.domLens }

/-- Free the sherds of the replaced set: the reserved set becomes the live one (R367). -/
def State.swapSherds (s : State) (idx : Nat) : State :=
  let h := s.sherdsOf idx
  if h.live = 0 ∧ h.pend = 0 then s
  else ({ s with sherds := tput s.sherds idx { live := h.pend, pend := 0 } }).setSherdsFree (s.rd K.poolSherdsFree + h.live)

/-- The apply of a group (R49): the Shadow bank goes live and then holds the live values, Generation increments, ApplyTime is
stamped, Commit reads APPLIED, and the replaced set's sherds are freed. -/
def State.applyGroup (s : State) (idx : Nat) : State :=
  ((((((s.goLive idx).reloadShadow idx).swapSherds idx).inc 32 (K.generation idx)).wr (K.applyTime idx) s.time).wr
    (K.commit idx) 2)

/-- A group's commit is PENDING. -/
def State.commitPending (s : State) (idx : Nat) : Bool := s.rd (K.commit idx) == 1

end Sys2Proof.Machine
end

