-- ==== Sys2Proof/Machine/Engines.lean ====
section
/-! DEFINITION. The compression engines as their users see them (R402 to R408): which are reserved, a job's checks, its work, and
the record a completed job leaves. -/

namespace Sys2Proof.Machine

/-- An engine's record. -/
def State.ze (s : State) (e : Nat) : Ze := tget {} s.zes e

/-- Set an engine's record. -/
def State.setZe (s : State) (e : Nat) (z : Ze) : State := { s with zes := tput s.zes e z }

/-- The engine is reserved for Slip (R406). -/
def State.zeReserved (s : State) (e : Nat) : Bool := s.bit K.zeReserved e

/-- The engine runs no job. -/
def State.zeIdle (s : State) (e : Nat) : Bool := (s.ze e).job.isNone

/-- Show EngineState (R411). -/
def State.zeShow (s : State) (e : Nat) : State :=
  s.wr (K.zesEngineState e) (match (s.ze e).job with
    | some j => j.kind
    | none => if s.zeReserved e then 4 else 0)

/-- Give an engine a job. -/
def State.zeTake (s : State) (e : Nat) (j : ZeJob) : State := (s.setZe e { s.ze e with job := some j }).zeShow e

/-- A status that is an error (R403). -/
def zeIsError (st : Nat) : Bool := (Nat.ble 6 st && Nat.ble st 11) || st == 14

/-- What every completed job leaves (R400, R403, R407, R411). -/
def State.zeFinish (s : State) (e st inBytes outBytes : Nat) : State :=
  let s := (s.setZe e { s.ze e with job := none }).zeShow e
  let s := (((s.wr (K.zesLastStatus e) st).inc 64 (K.zesJobsDone e)).add 64 (K.zesBytesIn e) inBytes).add 64 (K.zesBytesOut e) outBytes
  let s := if st = zeVerify then ((s.inc 32 (K.zesVerifyFails e)).flag (K.zesEngineStatus e) 1 122).raise (Ev.zeVerifyFail e) else s
  let s := if zeIsError st then ((s.inc 32 (K.zesErrorCount e)).flag (K.zesEngineStatus e) 2 121).raise (Ev.zeError e) else s
  if st = zePreempted then s.flag (K.zesEngineStatus e) 4 123 else s

/-- DRAM port of a job: SLIP_FEED for Slip, ZE_OTHER for every other (R404). -/
def ZeJob.port (j : ZeJob) : Nat := if j.kind = 2 then 0 else 10

/-- Source and destination spans overlap (R404); the destination is the span its output may fill. -/
def ZeJob.overlaps (j : ZeJob) : Bool :=
  j.op != 2 && Nat.blt j.src (j.dst + j.outLimit) && Nat.blt j.dst (j.src + j.inLen)

/-- The checks of a descriptor before its job starts (R404): the status of the failure, or zeOk. -/
def State.zeCheck (s : State) (ctrl : Nat) (j : ZeJob) : Nat :=
  if j.op = 3 ∨ 2 ^ 8 ≤ ctrl ∨ (j.op = 0 ∧ (j.level = 0 ∨ 9 < j.level)) ∨
     (j.op = 0 ∧ (j.block % 4096 ≠ 0 ∨ j.block < 4096 ∨ 262144 < j.block)) ∨ (j.op ≠ 2 ∧ j.outLimit = 0) ∨ j.overlaps then zeDesc
  else if j.src % 64 ≠ 0 ∨ (j.op ≠ 2 ∧ j.dst % 64 ≠ 0) then zeAlign
  else if ¬ s.inDram j.src j.inLen then zeBus
  else zeOk

/-- The work of a job over its input: status, ResultCrc and output (R396, R399, R402). -/
def ZeJob.work (j : ZeJob) (inp : List Nat) : Nat × Nat × List Nat :=
  if j.op = 0 then
    let r := compress j.block j.level inp j.outLimit
    (r.1, if inp.isEmpty then 0 else crc32c inp, r.2)
  else
    let r := if inp.isEmpty then (zeFormat, []) else decompress inp (if j.op = 2 then leAt inp 8 8 else j.outLimit)
    (r.1, crc32c r.2, r.2)

end Sys2Proof.Machine
end

