-- ==== Sys2Proof/Machine/Gens.lean ====
section
/-! DEFINITION. The trigger generators' grids (R95, R97): generators 0 to 11 are the cameras', 12 to 27 the bars'. -/

namespace Sys2Proof.Machine

/-- A generator's record. -/
def State.gen (s : State) (g : Nat) : Gen := tget {} s.gens g

/-- Set a generator's record. -/
def State.setGen (s : State) (g : Nat) (x : Gen) : State := { s with gens := tput s.gens g x }

/-- An entry of a generator: the camera group's or the bar group's. -/
def genKey (c r : Nat → Nat) (g : Nat) : Nat := if g < 12 then c g else r (g - 12)

/-- Pitch in 2^−32 POS. -/
def State.genPitch (s : State) (g : Nat) : Int :=
  ((s.rd (genKey K.cgenPitchWhole K.rgenPitchWhole g) * 2 ^ 32 + s.rd (genKey K.cgenPitchFrac K.rgenPitchFrac g) : Nat) : Int)

/-- d, the Offset of the generator, in POS. -/
def State.genOffset (s : State) (g : Nat) : Int := s.rdI 64 (genKey K.cgenOffset K.rgenOffset g)

/-- Phase in POS. -/
def State.genPhase (s : State) (g : Nat) : Int := s.rdI 64 (genKey K.cgenPhase K.rgenPhase g)

/-- T_k of a running generator, from its anchor, in 2^−32 POS (R95, R97). -/
def State.genT (s : State) (g : Nat) (k : Int) : Int := (s.gen g).baseT + (k - (s.gen g).baseK) * s.genPitch g

/-- W of grid point k: T_k − d, in 2^−32 POS (R18). -/
def State.genW (s : State) (g : Nat) (k : Int) : Int := s.genT g k - s.genOffset g * 2 ^ 32

end Sys2Proof.Machine
end

