-- ==== Sys2Proof/Machine/Pixel.lean ====
section
/-! DEFINITION. Prism's arithmetic on one line (R135 to R144) and the resampler's (R158, R159), on plain numbers. A value that
saturates answers with the number of clamps it made. -/

namespace Sys2Proof.Machine

/-- Arithmetic shift right. -/
def sra (v : Int) (n : Nat) : Int := floorDiv v (2 ^ n)

/-- Saturation to 0 … 2^20 − 1, with the clamps made (R138, R144). -/
def sat20 (v : Int) : Int × Nat := if v < 0 then (0, 1) else if 1048575 < v then (1048575, 1) else (v, 0)

/-- The sum of the clamp counts beside values. -/
def clamps (l : List (Int × Nat)) : Nat := (l.map fun p => p.2).sum

/-- The values beside clamp counts. -/
def values (l : List (Int × Nat)) : List Int := l.map fun p => p.1

/-- The entry of a linearisation table; entry 4,096 is taken as entry 4,095 (R135). -/
def linAt (lin : List Nat) (i : Nat) : Int := nth lin (min i 4095)

/-- Linearisation of one sample of `b` bits (R135). -/
def linearise (enable : Bool) (b : Nat) (lin : List Nat) (s : Nat) : Int :=
  if ¬ enable then (s * 2 ^ (16 - b) : Nat)
  else if b ≤ 12 then linAt lin (s * 2 ^ (12 - b))
  else
    let i := s / 2 ^ (b - 12)
    let f := s % 2 ^ (b - 12)
    linAt lin i + sra ((linAt lin (i + 1) - linAt lin i) * f + 2 ^ (b - 13)) (b - 12)

/-- S of R136: the short exposure in long-exposure units, with K in Q8.8. -/
def shortScaled (k : Nat) (ls : Int) : Int := sra (ls * k + 128) 8

/-- M of R136 from a long and a short value. -/
def mergeExposures (k lo hi : Nat) (ll ls : Int) : Int :=
  let s := shortScaled k ls
  let w : Int := if ll ≤ lo then 0 else if (hi : Int) ≤ ll then 65536 else ((ll - lo) * 65536) / ((hi - lo : Nat) : Int)
  (sat20 (ll + sra (w * (s - ll) + 32768) 16)).1

/-- The estimate of the other exposure from the neighbours present (R137). -/
def neighbourMean : Option Int → Option Int → Option Int
  | some a, some b => some (sra (a + b + 1) 1)
  | some a, none => some a
  | none, b => b

/-- Flat-field correction (R138): dark offset and Q4.16 gain of a word, and a Q2.14 lamp gain. -/
def flatField (word lamp : Nat) (m : Int) : Int × Nat :=
  let d := m - 16 * ((word / 2 ^ 20 : Nat) : Int)
  sat20 (sra (d * ((word % 2 ^ 20 : Nat) : Int) * lamp + 2 ^ 29) 30)

/-- The flat-field word of FlatEnable 0: Dark 0, Gain 1.0. -/
def flatUnity : Nat := 65536

/-- Defective-pixel replacement in one row (R139): the map's entries that fall in the row, as column and Method. -/
def replaceDefects (step : Nat) (f : List Int) (defects : List (Nat × Nat)) : List Int :=
  defects.foldl (fun row d =>
    let c := d.1
    let l := nthI f (c - step)
    let r := nthI f (c + step)
    row.set c (match d.2 with | 0 => sra (l + r + 1) 1 | 1 => l | _ => r)) f

/-- Reflection of a column index at the row's ends (R142). -/
def reflect (w : Nat) (j : Int) : Nat :=
  if j < 0 then (-j).toNat else if (w : Int) - 1 < j then (2 * ((w : Int) - 1) - j).toNat else j.toNat

/-- The colour of a sample by MosaicPhase, row and column parity (R141): 0 R, 1 G, 2 B. -/
def mosaicColour (phase row col : Nat) : Nat :=
  let p := col % 2
  match phase, row % 2 with
  | 0, 0 => if p = 0 then 0 else 1
  | 0, _ => if p = 0 then 1 else 2
  | 1, 0 => if p = 0 then 1 else 0
  | 1, _ => if p = 0 then 2 else 1
  | 2, 0 => if p = 0 then 1 else 2
  | 2, _ => if p = 0 then 0 else 1
  | _, 0 => if p = 0 then 2 else 1
  | _, _ => if p = 0 then 1 else 0

/-- The row in which column c holds its G sample. -/
def greenRow (phase c : Nat) : Nat := if mosaicColour phase 0 c = 1 then 0 else 1

/-- G and chroma of a column of a bilinear line. -/
def greenAt (phase w : Nat) (r0 r1 : List Int) (j : Int) : Int :=
  let c := reflect w j
  if greenRow phase c = 0 then nthI r0 c else nthI r1 c

/-- The chroma sample of a column of a bilinear line. -/
def chromaAt (phase w : Nat) (r0 r1 : List Int) (j : Int) : Int :=
  let c := reflect w j
  if greenRow phase c = 0 then nthI r1 c else nthI r0 c

/-- Demosaic of one column (R141). -/
def demosaic (phase w : Nat) (linear : Bool) (bias : Nat) (r0 r1 : List Int) (c : Nat) : Px :=
  let g := greenAt phase w r0 r1
  let x := chromaAt phase w r0 r1
  let i : Int := c
  let gl := |g i - g (i - 1)| + |x i - x (i - 2)|
  let gr := |g i - g (i + 1)| + |x i - x (i + 2)|
  let el := g i + (x (i - 1) - g (i - 1))
  let er := g i + (x (i + 1) - g (i + 1))
  let y := if ¬ linear ∧ (bias : Int) < |gl - gr| then (if gl < gr then el else er) else sra (el + er + 1) 1
  let y := (sat20 y).1
  if mosaicColour phase (1 - greenRow phase c) c = 0 then { r := x i, g := g i, b := y } else { r := y, g := g i, b := x i }

/-- One output of the colour matrix (R144). -/
def matrixRow (c0 c1 c2 off : Int) (p : Px) : Int × Nat := sat20 (sra (c0 * p.r + c1 * p.g + c2 * p.b + 2048) 12 + off)

/-- The colour matrix (R144), with the clamps made. -/
def colourMatrix (c off : List Int) (p : Px) : Px × Nat :=
  let r := matrixRow (nthI c 0) (nthI c 1) (nthI c 2) (nthI off 0) p
  let g := matrixRow (nthI c 3) (nthI c 4) (nthI c 5) (nthI off 1) p
  let b := matrixRow (nthI c 6) (nthI c 7) (nthI c 8) (nthI off 2) p
  ({ r := r.1, g := g.1, b := b.1 }, r.2 + g.2 + b.2)

/-! ### The resampler (R158, R159) -/

/-- x256(u) of R158. -/
def x256 (a0 a1 a2 a3 : Int) (u : Nat) : Int :=
  sra (a0 * 2 ^ 48 + a1 * u * 2 ^ 32 + a2 * ((u * u : Nat) : Int) * 2 ^ 16 + a3 * ((u * u * u : Nat) : Int) + 2 ^ 47) 48

/-- A pixel of a row, the index clamped to the nearer end. -/
def pixelAt (w : Nat) (row : List Px) (j : Int) : Px :=
  row.getD (clampI 0 ((w : Int) - 1) j).toNat { r := 0, g := 0, b := 0 }

/-- The four weights of CUBIC in 2^−14 for a phase f of 256 (R159). -/
def cubicWeights (f : Nat) : List Int :=
  let x : Int := f
  let wm := roundDiv (-x ^ 3 + 512 * x ^ 2 - 65536 * x) 2048
  let w1 := roundDiv (-3 * x ^ 3 + 1024 * x ^ 2 + 65536 * x) 2048
  let w2 := roundDiv (x ^ 3 - 256 * x ^ 2) 2048
  [wm, 16384 - wm - w1 - w2, w1, w2]

/-- Interpolation of one colour (R159). -/
def interpolate (cubic : Bool) (f : Nat) (p : List Int) : Int :=
  if cubic then
    let w := cubicWeights f
    (sat20 (sra (nthI w 0 * nthI p 0 + nthI w 1 * nthI p 1 + nthI w 2 * nthI p 2 + nthI w 3 * nthI p 3 + 8192) 14)).1
  else sra (nthI p 1 * ((256 - f : Nat) : Int) + nthI p 2 * f + 128) 8

/-- v16 of R159. -/
def to16 (v : Int) : Int := min 65535 (sra (v + 8) 4)

/-- One resampled column at a source position in 1/256 pixel. -/
def resampleAt (cubic : Bool) (w : Nat) (row : List Px) (x : Nat) : Px :=
  let i : Int := (x / 256 : Nat)
  let f := x % 256
  let p := [-1, 0, 1, 2].map fun m => pixelAt w row (i + m)
  { r := to16 (interpolate cubic f (p.map fun q => q.r)), g := to16 (interpolate cubic f (p.map fun q => q.g)),
    b := to16 (interpolate cubic f (p.map fun q => q.b)) }

/-- A member's line: one pixel for each of ColCount columns, and how many source positions were clamped (R158). -/
def resample (cubic : Bool) (a0 a1 a2 a3 : Int) (cols : Nat) (row : List Px) : List Px × Nat :=
  let w := row.length
  let top : Int := ((w : Int) - 1) * 256
  let xs := (List.range cols).map fun u => x256 a0 a1 a2 a3 u
  (xs.map fun x => resampleAt cubic w row (clampI 0 top x).toNat, (xs.filter fun x => decide (x < 0) || decide (top < x)).length)

/-! ### Band statistics (R180) -/

/-- Saturating U64 addition. -/
def addU64 (a : Nat) (b : Int) : Nat := min (2 ^ 64 - 1) (a + b.toNat)

/-- What one line adds to a zone of columns ca to cb − 1: SumLevel, SumGrad, SumLap. -/
def zoneSums (g : List Int) (ca cb : Nat) : Int × Int × Int :=
  let h (c : Nat) : Int := sra (nthI g c) 4
  (sumTo (cb - ca) fun i => nthI g (ca + i),
   sumTo (cb - 1 - ca) fun i => (h (ca + i + 1) - h (ca + i)) ^ 2,
   sumTo (cb - 2 - ca) fun i => (h (ca + i + 2) - 2 * h (ca + i + 1) + h (ca + i)) ^ 2)

/-- The 64 zones with one line added. -/
def zonesAdd (zones : List (Nat × Nat × Nat)) (g : List Int) : List (Nat × Nat × Nat) :=
  let w := g.length
  (List.range 64).map fun z =>
    let old := zones.getD z (0, 0, 0)
    let v := zoneSums g (z * w / 64) ((z + 1) * w / 64)
    (addU64 old.1 v.1, addU64 old.2.1 v.2.1, addU64 old.2.2 v.2.2)

end Sys2Proof.Machine
end

