-- ==== Sys2Proof/Machine/Screen.lean ====
section
/-! DEFINITION. The arithmetic of Slip and Glaze (R240 to R255): upsampling, nozzle curves, compensation, screening and
packing. -/

namespace Sys2Proof.Machine

/-- x(c) of R240. -/
def expand12 (c : Nat) : Nat := 16 * c + c / 16

/-- The mean of the values read (R240). -/
def meanRead (l : List Nat) : Nat := (l.sum + l.length / 2) / l.length

/-- Knot k of a Glaze word (R241). -/
def knot (word k : Nat) : Int := ((field word (12 * k + 11) (12 * k) : Nat) : Int)

/-- The nozzle's curve (R242). -/
def nozzleCurve (word a : Nat) : Nat :=
  let k := a / 1024
  let f : Int := ((a % 1024 : Nat) : Int)
  let v := if k ≤ 2 then knot word k + sra ((knot word (k + 1) - knot word k) * f + 512) 10
    else knot word 3 + sra ((knot word 4 - knot word 3) * f * 1025 + 2 ^ 19) 20
  (clampI 0 4095 v).toNat

/-- Any mask bit of a Glaze word (R243). -/
def deadWord (word : Nat) : Bool := field word 63 61 != 0

/-- A share of a dead nozzle's value (R243). -/
def deadShare (v w : Nat) : Nat := (v * w + 128) / 256

/-- Compensation of a line (R243). For each nozzle: its value, whether it is dead, and whether its value is passed to
neighbours; `extra` is what the twin passes to each nozzle. -/
def compensate (w1 w2 : Nat) (vals : List (Nat × Bool × Bool)) (extra : Nat → Nat) : List Nat :=
  let at_ (n : Int) : Nat × Bool × Bool := if n < 0 then (0, false, false) else vals.getD n.toNat (0, false, false)
  let give (n : Int) (w : Nat) : Nat := if (at_ n).2.2 then deadShare (at_ n).1 w else 0
  (List.range vals.length).map fun (n : Nat) =>
    if (at_ n).2.1 then 0
    else min 4095 ((at_ n).1 + give (n - 1) w1 + give (n + 1) w1 + give (n - 2) w2 + give (n + 2) w2 + extra n)

/-- A byte of the ring (R248): the sum of the column's UpX final values. -/
def ringByte (upX sum : Nat) : Nat := (2 * sum * 255 + 4095 * upX) / (8190 * upX)

/-- xs of R253. -/
def xs32 (z : Nat) : Nat :=
  let z := z ^^^ (z * 2 ^ 13 % 2 ^ 32)
  let z := z ^^^ (z / 2 ^ 17)
  z ^^^ (z * 2 ^ 5 % 2 ^ 32)

/-- z1 of R253. -/
def stripSeed (seedBase b line : Nat) : Nat :=
  let z := seedBase ^^^ (b * 0x9E3779B9 % 2 ^ 32) ^^^ (line % 2 ^ 32)
  xs32 (xs32 (if z = 0 then 1 else z))

/-- A strip starts at nozzle n (R253). -/
def stripStart (z1 n : Nat) : Bool := n == 0 || ((n + z1 % 1024) % 1024 == 0 && Nat.ble 1024 (n + z1 % 1024))

/-- The seed carry of the strip that starts at nozzle a (R253). -/
def seedCarry (z1 seedAmp a : Nat) : Int :=
  let z := z1 ^^^ a
  sra ((((xs32 (if z = 0 then 1 else z)) / 2 ^ 21 : Nat) - 1024 : Int) * seedAmp) 10

/-- What a bar screens with (R264). -/
structure Screen where
  ordered : Bool
  drops : List Nat
  noiseAmp : Nat
  errLimit : Nat
  zeroClean : Bool
  seedAmp : Nat
  z1 : Nat
deriving DecidableEq, Repr

/-- The drop code: how many thresholds the value reaches (R251, R254). -/
def dropCode (v : Int) (t : List Int) : Nat := (t.filter fun x => decide (x ≤ v)).length

/-- The thresholds of DIFFUSE for a noise byte (R251). -/
def diffuseThresholds (p : Screen) (bn : Nat) : List Int :=
  let m := sra (((bn : Int) - 128) * p.noiseAmp) 7
  (List.range 3).map fun j => (((nth p.drops j + nth p.drops (j + 1) + 1) / 2 : Nat) : Int) + m

/-- The thresholds of ORDERED for a noise byte (R254). -/
def orderedThresholds (p : Screen) (bn : Nat) : List Int :=
  (List.range 3).map fun j =>
    (nth p.drops j : Int) + sra (((nth p.drops (j + 1) : Int) - nth p.drops j) * ((2 * bn + 1 : Nat) : Int) + 256) 9

/-- One nozzle of DIFFUSE: its code and its error (R251). -/
def diffuseNozzle (p : Screen) (bn v : Nat) (eIn : Int) : Nat × Int :=
  if p.zeroClean ∧ v = 0 then (0, 0)
  else
    let v' := (v : Int) + eIn
    let q := dropCode v' (diffuseThresholds p bn)
    (q, clampI (-(p.errLimit : Int)) p.errLimit (v' - nth p.drops q))

/-- The nozzles of a line from n on; `e` is the error of the nozzle before (R251, R253). -/
def diffuseFrom (p : Screen) (bn : Nat → Nat) (down : List Int) : Nat → Int → List Nat → List (Nat × Int)
  | _, _, [] => []
  | n, e, v :: l =>
    let carry := if stripStart p.z1 n then seedCarry p.z1 p.seedAmp n else sra (7 * e + 8) 4
    let r := diffuseNozzle p (bn n) v (nthI down n + carry)
    r :: diffuseFrom p bn down (n + 1) r.2 l

/-- The next line's down-errors (R252). -/
def downErrors (p : Screen) (errs : List Int) : List Int :=
  (List.range errs.length).map fun n =>
    let right := if n + 1 < errs.length ∧ ¬ stripStart p.z1 (n + 1) then nthI errs (n + 1) else 0
    let left := if stripStart p.z1 n then 0 else nthI errs (n - 1)
    sra (3 * right + 5 * nthI errs n + left + 8) 4

/-- Screen a line: its codes and the bar's new down-error line. -/
def screenLine (p : Screen) (bn : Nat → Nat) (down : List Int) (vals : List Nat) : List Nat × List Int :=
  if p.ordered then
    ((List.range vals.length).map fun n => dropCode (nth vals n) (orderedThresholds p (bn n)), down)
  else
    let r := diffuseFrom p bn down 0 0 vals
    (r.map fun x => x.1, downErrors p (r.map fun x => x.2))

/-- HeadBytes of R255. -/
def headBytes (headNozzles : Nat) : Nat := 64 * ceilDiv headNozzles 256

/-- Four codes to a byte (R255). -/
def packCodes : List Nat → List Nat
  | a :: b :: c :: d :: l => (a + 4 * b + 16 * c + 64 * d) :: packCodes l
  | [] => []
  | l => [(nth l 0) + 4 * nth l 1 + 16 * nth l 2]

/-- A head's slot of a port line (R255). -/
def slotBytes (headNozzles : Nat) (codes : List Nat) : List Nat := padTo (headBytes headNozzles) (packCodes codes)

end Sys2Proof.Machine
end

