-- ==== Sys2Proof/Machine/Slip.lean ====
section
/-! DEFINITION. Slip and Glaze (R232 to R269): the job, plate segments, bar lines, mask requests and the Reflection ring. -/

namespace Sys2Proof.Machine

/-! ### Bars and the job (R232 to R238) -/

/-- A bar's record. -/
def State.bar (s : State) (b : Nat) : Bar := tget {} s.bars b

/-- Set a bar's record. -/
def State.setBar (s : State) (b : Nat) (x : Bar) : State := { s with bars := tput s.bars b x }

/-- A port's record. -/
def State.port (s : State) (p : Nat) : Port := tget {} s.ports p

/-- Set a port's record. -/
def State.setPort (s : State) (p : Nat) (x : Port) : State := { s with ports := tput s.ports p x }

/-- Print is in RunMask. -/
def State.printing (s : State) : Bool := s.bit K.devRunMask 1

/-- Inspection is in RunMask. -/
def State.inspecting (s : State) : Bool := s.bit K.devRunMask 0

/-- The bars in use. -/
def State.barsOn (s : State) : List Nat := (List.range 16).filter fun b => s.on (K.barBarEnable b)

/-- The lead bar: the smallest Offset, the lower bar number winning a tie (R238). -/
def State.findLead (s : State) : Nat :=
  s.barsOn.foldl (fun best b => if best = 255 ∨ s.rdI 64 (K.rgenOffset b) < s.rdI 64 (K.rgenOffset best) then b else best) 255

/-- The bar is the lead bar. -/
def State.isLead (s : State) (b : Nat) : Bool := s.rd K.slipLeadBar == b

/-- A field of job entry e (R232). -/
def State.entryLe (s : State) (e off n : Nat) : Nat := s.domLe K.jobJobTable (96 * e + off) n

/-- Contone rows of a repeat of entry e. -/
def State.entryRows (s : State) (e : Nat) : Nat := s.entryLe e 4 4

/-- Job lines of a repeat of entry e (R236). -/
def State.entryLines (s : State) (e : Nat) : Nat := s.entryRows e * s.rd K.jobUpY

/-- The repeat after a repeat, if the job has one (R233). -/
def State.nextPos (s : State) (p : JobPos) : Option JobPos :=
  let first := p.first + s.entryLines p.entry
  let r := s.entryLe p.entry 2 2
  if r = 65535 ∨ p.rep + 1 < r then some { entry := p.entry, rep := p.rep + 1, first := first, idx := p.idx + 1 }
  else if p.entry + 1 < s.rd K.jobEntryCount then some { entry := p.entry + 1, rep := 0, first := first, idx := p.idx + 1 }
  else if s.on K.jobJobLoop then some { entry := 0, rep := 0, first := first, idx := p.idx + 1 }
  else none

/-- The repeat a later job line lies in, at most `n` repeats on. -/
def State.seek (s : State) (line : Nat) : Nat → JobPos → Option JobPos
  | 0, _ => none
  | n + 1, p => if line < p.first + s.entryLines p.entry then some p else (s.nextPos p).bind (State.seek s line n)

/-- The job has no last line (R238). -/
def State.jobEndless (s : State) : Bool :=
  s.on K.jobJobLoop || (List.range (s.rd K.jobEntryCount)).any fun e => s.entryLe e 2 2 == 65535

/-- Job lines of a job that ends; L_end is one less. -/
def State.jobLines (s : State) : Nat :=
  ((List.range (s.rd K.jobEntryCount)).map fun e => s.entryLe e 2 2 * s.entryLines e).sum

/-- Job line of bar line k of a bar (R237). -/
def State.barLine (s : State) (b k : Nat) : Nat := s.rd (K.barLineBase b) + s.rd (K.barLineStep b) * k

/-- Nozzles of a bar. -/
def State.barNozzles (s : State) (b : Nat) : Nat := s.rd (K.barHeadCount b) * s.rd (K.barHeadNozzles b)

/-- The ports that hold heads of a bar (R272). -/
def State.barPorts (s : State) (b : Nat) : List Nat :=
  let f := s.rd (K.barFirstHead b)
  (List.range 32).filter fun p => Nat.blt f (4 * p + 4) && Nat.blt (4 * p) (f + s.rd (K.barHeadCount b))

/-- The bar in use that a head belongs to; 16 for none. -/
def State.headBar (s : State) (h : Nat) : Nat :=
  (s.barsOn.find? fun b => Nat.ble (s.rd (K.barFirstHead b)) h && Nat.blt h (s.rd (K.barFirstHead b) + s.rd (K.barHeadCount b))).getD 16

/-- The bar in use that a port belongs to; 16 for none. -/
def State.portBar (s : State) (p : Nat) : Nat := (s.barsOn.find? fun b => (s.barPorts b).contains p).getD 16

/-- The last line that any bar may screen, once a stop has fixed it (R238). -/
def State.withinStop (s : State) (line : Nat) : Bool := !s.slip.stopped || decide ((line : Int) ≤ s.rdI 64 K.slipStopLine)

/-- The bar's lines are being screened (R52, R246). -/
def State.barRuns (s : State) (b : Nat) : Bool :=
  (s.dev == stRunning || s.dev == stDraining) && s.printing && s.on (K.barBarEnable b) && !(s.bar b).atEnd &&
  s.withinStop (s.barLine b (s.bar b).k)

/-! ### Entering DRAINING (R25, R238) -/

/-- StopLine by StopMode (R238). -/
def State.stopLine (s : State) : Int :=
  let last : Int := match s.slip.screened with | some p => p.1 | none => -1
  let rep : Int := match s.slip.screened with | some p => p.2 | none => -1
  match s.rd K.devStopMode with
  | 0 => last
  | 1 => rep
  | _ => if s.jobEndless then rep else (s.jobLines : Int) - 1

/-- Fix StopLine; what lies beyond it leaves the bars and the port queues. -/
def State.fixStop (s : State) (line : Int) : State :=
  let s := { s.wr K.slipStopLine (ofI 64 line) with slip := { s.slip with stopped := true } }
  s.barsOn.foldl (fun s b =>
    let x := s.bar b
    let s := s.setBar b { x with cur := if (s.barLine b x.k : Int) ≤ line then x.cur else none }
    (s.barPorts b).foldl (fun s p =>
      s.setPort p { s.port p with banks := (s.port p).banks.filter fun l => decide ((s.barLine b l.k : Int) ≤ line) }) s) s

/-- The device enters DRAINING with a StopCause (R25); JobState reads STOPPING, or ENDED at the end of the job. -/
def State.drain (s : State) (cause : Nat) : State :=
  let s := (s.wr K.devStopCause cause).enter stDraining
  let s := if s.printing then
      (s.fixStop (if cause = 2 then (s.jobLines : Int) - 1 else s.stopLine)).wr K.slipJobState (if cause = 2 then 4 else 3)
    else s
  { s with loop := s.loop.leave }

/-! ### Plate segments (R234, R235, R239) -/

/-- The plate directory of a bar's slot in a repeat; 0 for none (R233, R235). -/
def State.slotDir (s : State) (i : Nat) (p : JobPos) : Nat :=
  if ¬ bitOf (s.entryLe p.entry 1 1) i then 0
  else
    match s.entryLe p.entry 0 1 with
    | 1 => s.entryLe p.entry (32 + 8 * i) 8
    | 2 => match s.slip.binds.find? fun v => v.rep == p.idx with | some v => nth v.dirs i | none => 0
    | _ => 0

/-- A VARIABLE repeat is not bound yet (R235). -/
def State.unbound (s : State) (p : JobPos) : Bool :=
  s.entryLe p.entry 0 1 == 2 && (s.slip.binds.find? fun v => v.rep == p.idx).isNone

/-- A directory's fixed part is sound (R234). -/
def dirOk (dir : Nat) (h : List Nat) : Bool :=
  dir % 64 == 0 && leAt h 0 2 == 0x5044 && nth h 2 == 1 && nth h 3 == 0 && leAt h 6 2 == 0 && (leAt h 4 2 == 0 || leAt h 8 4 != 0)

/-- PLATE_ERROR (R239). -/
def State.plateError (s : State) : State := (s.flag K.slipStatus 4 98).raise Ev.slipPlateError

/-- What a bar's fetch cursor finds: a segment to fetch (its entry in the directory, SegRows and Columns), nothing more in this
repeat, a bad directory, or nothing to do yet. -/
inductive FetchStep where
  | segment (entry : List Nat) (segRows cols : Nat)
  | next (bad : Bool)
  | wait
deriving DecidableEq, Repr

/-- Look at the directory of the repeat the cursor stands in. -/
def State.fetchLook (s : State) (b : Nat) : FetchStep × State :=
  let x := s.bar b
  if x.fetchEnd ∨ s.unbound x.fetch then (.wait, s)
  else
    let dir := s.slotDir (s.rd (K.barSlot b)) x.fetch
    if dir = 0 then (.next false, s)
    else
      match s.blockRead 0 dir 16 with
      | (h, s) =>
        if ¬ dirOk dir h then (.next true, s)
        else if leAt h 4 2 ≤ x.fetchSeg ∨ s.entryRows x.fetch.entry ≤ x.fetchSeg * leAt h 8 4 then (.next false, s)
        else
          match s.blockRead 0 (dir + 16 + 16 * x.fetchSeg) 16 with
          | (e, s) => (.segment e (leAt h 8 4) (leAt h 12 4), s)

/-- Move the cursor to the next repeat. -/
def State.fetchAdvance (s : State) (b : Nat) : State :=
  let x := s.bar b
  match s.nextPos x.fetch with
  | some p => s.setBar b { x with fetch := p, fetchSeg := 0 }
  | none => s.setBar b { x with fetchEnd := true }

/-- Move a bar's cursor past repeats that need no segment, at most `n` of them. -/
def fetchSettle (b : Nat) : Nat → State → State
  | 0, s => s
  | n + 1, s =>
    match s.fetchLook b with
    | (.next bad, t) => fetchSettle b n ((if bad then t.plateError else t).fetchAdvance b)
    | (_, t) => t

/-- Bytes of input a bar holds. -/
def State.inputBytes (s : State) (b : Nat) : Nat := ((s.bar b).segs.map fun g => g.rows * g.cols).sum

/-- Rows of input a bar holds. -/
def State.inputRows (s : State) (b : Nat) : Nat := ((s.bar b).segs.map fun g => g.rows).sum

/-- Show QueueFill (R265). -/
def State.showFill (s : State) (b : Nat) : State :=
  s.wr (K.barsQueueFill b) (min (s.rd (K.barInputSherds b)) (ceilDiv (s.inputBytes b) 4096))

/-- A bar may fetch: its queue has room. -/
def State.fetchRoom (s : State) (b : Nat) : Bool := Nat.blt (s.inputBytes b) (s.rd (K.barInputSherds b) * 4096)

/-- Slip gives a segment to an engine (R239, R406). -/
def State.fetchSegment (s : State) (e b : Nat) (entry : List Nat) (segRows cols : Nat) : State :=
  let x := s.bar b
  let g : BarSeg := { rep := x.fetch.idx, seg := x.fetchSeg, row0 := x.fetchSeg * segRows, rows := segRows, cols := cols,
                      data := none }
  let s := s.setBar b { x with segs := x.segs ++ [g], fetchSeg := x.fetchSeg + 1 }
  (s.showFill b).zeTake e { kind := 2, op := 1, src := leAt entry 0 8, inLen := leAt entry 8 4, outLimit := segRows * cols, bar := b,
                            rep := x.fetch.idx, seg := x.fetchSeg }

/-- The bars that want a segment, the fewest rows first, the lower bar winning a tie (R406). -/
def State.fetchOrder (s : State) : List Nat := sortBy (fun b => (s.inputRows b : Int)) (s.barsOn.filter s.fetchRoom)

/-- Give the first bar that has a segment to fetch its job. -/
def fetchFirst (e : Nat) : List Nat → State → State
  | [], s => s
  | b :: l, s =>
    match s.fetchLook b with
    | (.segment entry rows cols, t) => t.fetchSegment e b entry rows cols
    | (_, t) => fetchFirst e l t

/-- The engine is the lowest-numbered idle reserved one. -/
def State.zeNextReserved (s : State) (e : Nat) : Bool :=
  s.zeReserved e && s.zeIdle e && (List.range e).all fun d => !(s.zeReserved d && s.zeIdle d)

/-- SEGMENT_FETCH (R239). -/
def segmentFetch (e : Nat) (s : State) : State :=
  if ¬ s.zeNextReserved e then s
  else
    let s := s.barsOn.foldl (fun s b => fetchSettle b 64 s) s
    fetchFirst e s.fetchOrder s

/-- SEGMENT_FETCH. -/
def execSegmentFetch (e : Nat) (s : State) : Host.Outcome State Fault Refusal := inst (Nat.blt e 6) (segmentFetch e s)

/-- A Slip job has ended (R239): its rows enter the bar's input queue, or read 0 when it failed. -/
def State.segmentDone (s : State) (j : ZeJob) (st : Nat) (out : List Nat) : State :=
  let x := s.bar j.bar
  let s := s.setBar j.bar { x with segs := x.segs.map fun g =>
    if g.rep = j.rep ∧ g.seg = j.seg then { g with data := some (if st = zeOk then out else []) } else g }
  if st = zeOk then s else s.plateError

/-! ### Contone (R233, R240) -/

/-- Number of bits set below bit i of a mask. -/
def bitsBelow (mask i : Nat) : Nat := ((List.range i).filter (bitOf mask)).length

/-- A CALIB value of row `row` for slot i (R233). -/
def State.calibValue (s : State) (e i row : Nat) : Nat :=
  let block := row / s.entryLe e 16 4
  if bitOf (s.entryLe e 1 1) i ∧ block / 4 = bitsBelow (s.entryLe e 1 1) i then s.entryLe e (12 + block % 4) 1 else 0

/-- The contone value at a ring column of a row of a repeat, as bar `src` holds it for slot `i`. -/
def State.contone (s : State) (src i : Nat) (p : JobPos) (row : Nat) (col : Int) : Nat :=
  if s.entryLe p.entry 0 1 = 4 then s.calibValue p.entry i row
  else if s.slotDir i p = 0 then 0
  else
    match (s.bar src).segs.find? fun g => g.rep == p.idx && Nat.ble g.row0 row && Nat.blt row (g.row0 + g.rows) with
    | some g =>
      let c := col - toI 32 (s.entryLe p.entry 8 4)
      if 0 ≤ c ∧ c < g.cols then nth (g.data.getD []) ((row - g.row0) * g.cols + c.toNat) else 0
    | none => 0

/-- The rows a job line reads, each with its repeat (R240). -/
def State.lineRows (s : State) (p : JobPos) (line : Nat) : List (JobPos × Nat) :=
  let upY := s.rd K.jobUpY
  let l := line - p.first
  let row := l / upY
  if upY = 2 ∧ l % 2 = 1 ∧ s.rd K.jobUpModeY = 1 then
    if row + 1 < s.entryRows p.entry then [(p, row), (p, row + 1)]
    else match s.nextPos p with | some q => [(p, row), (q, 0)] | none => [(p, row), ({ idx := p.idx + 1 }, s.entryRows 0)]
  else [(p, row)]

/-- The ring columns nozzle position g reads (R240). -/
def State.nozzleCols (s : State) (g : Int) : List Int :=
  if s.rd K.jobUpX = 1 then [g]
  else if g % 2 = 1 ∧ s.rd K.jobUpModeX = 1 then [g / 2, g / 2 + 1] else [g / 2]

/-- u of R240 of nozzle n of bar `own`, from the rows bar `src` holds. -/
def State.upsampled (s : State) (src own : Nat) (rows : List (JobPos × Nat)) (n : Nat) : Nat :=
  let i := s.rd (K.barSlot own)
  let cols := s.nozzleCols ((n : Int) + s.rdI 16 (K.shiftNozzleShift own))
  meanRead (rows.flatMap fun r => cols.map fun c => expand12 (s.contone src i r.1 r.2 c))

/-- The Glaze word index of nozzle n of a bar (R241). -/
def State.nozzleIndex (s : State) (b n : Nat) : Nat :=
  (s.rd (K.barFirstHead b) + n / s.rd (K.barHeadNozzles b)) * 8192 + n % s.rd (K.barHeadNozzles b)

/-- The value of a nozzle after the global curve and its own (R242); RAW calibration rows bypass both (R233). -/
def State.nozzleValue (s : State) (src own : Nat) (p : JobPos) (rows : List (JobPos × Nat)) (n : Nat) : Nat :=
  let u := s.upsampled src own rows n
  if s.entryLe p.entry 0 1 = 4 ∧ bitOf (s.entryLe p.entry 20 1) 0 then u
  else nozzleCurve (s.glazeWord (s.nozzleIndex own n)) (s.domLe (K.gbarGlobalCurve own) (2 * u) 2)

/-- A nozzle of a bar is dead (R243, R282). -/
def State.nozzleDead (s : State) (b n : Nat) : Bool :=
  deadWord (s.glazeWord (s.nozzleIndex b n)) || s.rd (K.khHeadState (s.nozzleIndex b n / 8192)) != 4

/-- A dead nozzle's value goes to the same nozzle of the twin (R243). -/
def State.toTwin (s : State) (b n : Nat) : Bool :=
  let t := s.rd (K.barTwinBar b)
  s.rd (K.gbarCompMode b) == 2 && Nat.blt t 16 && !s.nozzleDead t n

/-- What the twin's dead nozzle passes to nozzle n of bar b on a line: its value on the job line before (R243). -/
def State.fromTwin (s : State) (b : Nat) (prev : Option (JobPos × Nat)) (n : Nat) : Nat :=
  let t := s.rd (K.barTwinBar b)
  match prev with
  | some (p, line) =>
    if t < 16 ∧ s.on (K.barBarEnable t) ∧ s.rd (K.barTwinBar t) = b ∧ s.rd (K.gbarCompMode t) = 2 ∧ s.nozzleDead t n then
      s.nozzleValue b t p (s.lineRows p line) n
    else 0
  | none => 0

/-- A bar line's nozzle values: those screened, and those the ring records (R243, R248). -/
def State.lineValues (s : State) (b : Nat) (p : JobPos) (line : Nat) (prev : Option (JobPos × Nat)) : List Nat × List Nat :=
  let rows := s.lineRows p line
  let mode := s.rd (K.gbarCompMode b)
  let vals := (List.range (s.barNozzles b)).map fun n =>
    let dead := s.nozzleDead b n
    (s.nozzleValue b b p rows n, dead, dead && (mode == 1 || (mode == 2 && !s.toTwin b n)))
  let out := compensate (s.rd (K.gbarDeadW1 b)) (s.rd (K.gbarDeadW2 b)) vals (s.fromTwin b prev)
  (out, (List.range out.length).map fun n =>
    let v := vals.getD n (0, false, false)
    if v.2.1 && mode == 2 && !v.2.2 then v.1 else nth out n)

/-- What a bar screens a line with (R264). -/
def State.screenOf (s : State) (b line : Nat) : Screen :=
  { ordered := s.rd (K.scrScreenMode b) == 1,
    drops := [0, s.rd (K.scrDropValue1 b), s.rd (K.scrDropValue2 b), s.rd (K.scrDropValue3 b)],
    noiseAmp := s.rd (K.scrNoiseAmp b), errLimit := s.rd (K.scrErrLimit b), zeroClean := s.on (K.scrZeroClean b),
    seedAmp := s.rd (K.scrSeedAmp b), z1 := stripSeed (s.rd (K.scrSeedBase b)) b line }

/-- The noise byte of nozzle n on a line (R251). -/
def State.noise (s : State) (b line n : Nat) : Nat :=
  s.domByte K.noiseBlueNoise ((line + s.rd (K.scrNoiseRowOff b)) % 256 * 256 + (n + s.rd (K.scrNoiseColOff b)) % 256)

/-- A port's line from a bar's codes (R255). -/
def State.portLine (s : State) (b p : Nat) (codes : List Nat) : List Nat :=
  let hn := s.rd (K.barHeadNozzles b)
  let f := s.rd (K.barFirstHead b)
  (List.range 4).flatMap fun i =>
    let h := 4 * p + i
    if f ≤ h ∧ h < f + s.rd (K.barHeadCount b) then slotBytes hn ((codes.drop ((h - f) * hn)).take hn)
    else List.replicate (headBytes hn) 0

/-- A ring plane from the values the ring records (R248). -/
def State.ringPlane (s : State) (vals : List Nat) : List Nat :=
  let upX := s.rd K.jobUpX
  (List.range (s.rd K.ringRingColumns)).map fun c =>
    if vals.length ≤ c * upX then 0 else ringByte upX ((vals.drop (c * upX)).take upX).sum

/-- Strips of a line (R253). -/
def stripCount (z1 n : Nat) : Nat := ((List.range n).filter (stripStart z1)).length

/-! ### Glaze words and what applies at a line's boundary (R244 to R246) -/

/-- Set a Glaze word; a word of the default value is not listed. -/
def State.setGlaze (s : State) (n w : Nat) : State :=
  { s with glaze := if w = 0x0FFFC00800400000 then terase s.glaze n else tput s.glaze n w }

/-- One entry of an update list (R245). -/
def State.updateWord (s : State) (n op word : Nat) : State :=
  let w := s.glazeWord n
  s.setGlaze n (match op with
    | 1 => w / 2 ^ 60 * 2 ^ 60 + word % 2 ^ 60
    | 2 => setBits w (2 ^ 63)
    | _ => clearBits w (2 ^ 63))

/-- Apply a bar's update list: every entry in order (R245). -/
def State.applyUpdates (s : State) (b : Nat) : State :=
  (List.range (s.rd (K.gupdUpdateCount b))).foldl (fun s i =>
    let e (o n : Nat) := s.domLe (K.gupdUpdateList b) (16 * i + o) n
    s.updateWord (e 0 4) (e 4 1) (e 8 8)) s

/-- Apply one entry of the bar's colour-loop list: an entry whose base differs from the live knots is dropped (R340). -/
def State.applyLoop (s : State) (u : LoopUpd) : State :=
  let w := s.glazeWord u.nozzle
  if w % 2 ^ 60 = u.base then (s.setGlaze u.nozzle (w / 2 ^ 60 * 2 ^ 60 + u.knots)).inc 64 K.loopsUpdatesMade
  else (s.inc 32 K.loopsConflicts).flag K.loopsStatus 8 106

/-- The word a mask request leaves (R246). -/
def maskWord (w set : Nat) : Nat := if set = 0 then clearBits w (3 * 2 ^ 61) else setBits w set

/-- Apply a mask request: to one nozzle, or to every listed nozzle of the bar (16: of no bar in use). -/
def State.applyMask (s : State) (b : Nat) (r : MaskReq) : State :=
  let s := if r.nozzle = 0xFFFFFFFF then
      (s.glaze.filter fun e => s.headBar (e.1 / 8192) == b).foldl (fun s e => s.setGlaze e.1 (maskWord e.2 r.set)) s
    else s.setGlaze r.nozzle (maskWord (s.glazeWord r.nozzle) r.set)
  ((s.inc 32 K.glzMaskRequests).arrive 101).raise Ev.glzMask

/-- Queue a mask request for a bar, 64 deep (R246). -/
def State.askMask (s : State) (r : MaskReq) (b : Nat) : State :=
  let x := s.bar b
  if 64 ≤ x.masks.length then (s.inc 32 K.glzMaskRequestsLost).flag K.glzStatus 1 102
  else s.setBar b { x with masks := x.masks ++ [r] }

/-- A mask request for a nozzle goes to its bar's queue. -/
def State.askMaskFor (s : State) (nozzle set : Nat) : State := s.askMask { nozzle := nozzle, set := set } (s.headBar (nozzle / 8192))

/-- MASK_CLEAR (R246). -/
def maskClearWrite (a : Acc) (s : State) : State :=
  s.act a K.glzMaskClear 0 fun s =>
    let v := accVal a K.glzMaskClear
    if v = 0xFFFFFFFF then (List.range 17).foldl (fun s b => s.askMask { nozzle := v, set := 0 } b) s else s.askMaskFor v 0

/-- MASK_CLEAR. -/
def execMaskClear (a : Acc) (s : State) : Host.Outcome State Fault Refusal := .next (maskClearWrite a s)

/-- MASK_REQUEST_APPLY (R246): the first queued request of a bar whose lines are not being screened. -/
def maskRequestApply (s : State) : State :=
  match (List.range 17).find? fun b => !s.barRuns b && !(s.bar b).masks.isEmpty with
  | none => s
  | some b =>
    match (s.bar b).masks with
    | [] => s
    | r :: l => (s.setBar b { s.bar b with masks := l }).applyMask b r

/-- MASK_REQUEST_APPLY. -/
def execMaskRequestApply (s : State) : Host.Outcome State Fault Refusal := .next (maskRequestApply s)

/-- The groups of a bar with apply point LINE, in the order of R244. -/
def lineGroups (b : Nat) : List Nat := [0x3210 + b, 0x3230 + b, 0x3030 + b]

/-- Apply a LINE group of a bar and what it brings (R244, R245, R268). -/
def State.applyLineGroup (s : State) (idx : Nat) : State :=
  let s := s.applyGroup idx
  let s := if 0x3230 ≤ idx ∧ idx < 0x3240 then s.applyUpdates (idx - 0x3230) else s
  s.raise Ev.glzApply

/-- FreshW of the bar's slot at a line with changes (R330). -/
def State.freshen (s : State) (b : Nat) (w : Int) : State :=
  let k := K.lslotFreshW (s.rd (K.barSlot b))
  if s.rdI 64 k < w then s.wr k (ofI 64 w) else s

/-- Words that a bar's next line boundary writes: its update list, its colour-loop list and its mask requests (R244). -/
def State.boundaryWords (s : State) (b : Nat) : Nat :=
  (if s.commitPending (0x3230 + b) then s.sh (K.gupdUpdateCount b) else 0) +
  ((s.bar b).loop.take (s.rd K.loopWordsPerLine)).length + (s.bar b).masks.length

/-- FABCLK that a bar's next line waits for its boundary, at 16 words per FABCLK (R244). -/
def State.boundaryDelay (s : State) (b : Nat) : Nat := ceilDiv (s.boundaryWords b) 16

/-- Apply everything pending at a bar's line boundary, in the order of R244; the words written and their delay are counted. -/
def State.glazeBoundary (s : State) (b : Nat) : State :=
  let groups := (lineGroups b).filter s.commitPending
  let x := s.bar b
  let words := s.boundaryWords b
  let delay := s.boundaryDelay b
  let s := groups.foldl State.applyLineGroup s
  let n := s.rd K.loopWordsPerLine
  let s := (x.loop.take n).foldl State.applyLoop s
  let s := x.masks.foldl (fun s r => s.applyMask b r) s
  let s := s.setBar b { s.bar b with loop := x.loop.drop n, masks := [] }
  let s := (s.add 64 (K.gbarsUpdatesApplied b) words).peak (K.gbarsApplyDelay b) delay
  let fresh := !groups.isEmpty || !x.masks.isEmpty || (x.loop.take n).any fun u => u.last
  if fresh && (s.gen (12 + b)).run then s.freshen b (wholePos (s.genW (12 + b) x.k)) else s

/-! ### A repeat begins (R235, R238, R265) -/

/-- Bind a VARIABLE repeat to the next record (R235); with none, the repeat is blank. -/
def State.bindVar (s : State) (p : JobPos) : State :=
  if s.entryLe p.entry 0 1 ≠ 2 then s
  else if s.slip.take = s.rd K.slipVarWriteIndex ∨ s.rd K.jobVarRecords = 0 then
    let v : VarBind := { rep := p.idx, dirs := [], taken := false }
    let s := { s with slip := { s.slip with binds := s.slip.binds ++ [v] } }
    let s := ((s.inc 32 K.slipVarEmpty).flag K.slipStatus 8 99).raise Ev.slipVarEmpty
    if s.rd K.jobVarEmptyAction = 1 ∧ s.dev = stRunning then s.drain 6 else s
  else
    match s.blockRead 0 (s.rd K.jobVarBase + 64 * (s.slip.take % s.rd K.jobVarRecords)) 64 with
    | (l, s) =>
      let v : VarBind := { rep := p.idx, dirs := (List.range 8).map fun i => leAt l (8 * i) 8, taken := true }
      { s with slip := { s.slip with take := (s.slip.take + 1) % 2 ^ 32, binds := s.slip.binds ++ [v] } }

/-- The lead bar starts a repeat (R238, R268). -/
def State.leadRepeat (s : State) (p : JobPos) : State :=
  let s := ((s.wr K.slipEntry p.entry).wr K.slipRepeat p.rep).inc 64 K.slipRepeatCount
  (s.raise Ev.slipRepeat).bindVar p

/-- The groups that apply at a bar's repeat start: NozzleShift and its heads' delays (R265, R298). -/
def State.repeatGroups (s : State) (b : Nat) : List Nat :=
  (0x3050 + b) :: (List.range (s.rd (K.barHeadCount b))).map fun i => 0x3440 + s.rd (K.barFirstHead b) + i

/-- A delay the colour loop committed has applied at a repeat start: RegFreshW is its W (R345). -/
def State.delayFresh (b : Nat) (s : State) (idx : Nat) : State :=
  let h := idx - 0x3440
  if idx < 0x3440 ∨ ¬ s.loop.regWait.contains h then s
  else
    let s := { s with loop := { s.loop with regWait := s.loop.regWait.filter fun g => g != h } }
    if (s.gen (12 + b)).run then s.wr (K.lheadRegFreshW h) (ofI 64 (wholePos (s.genW (12 + b) (s.bar b).k))) else s

/-- A bar reaches a repeat's first line. -/
def State.beginRepeat (s : State) (b : Nat) : State :=
  let x := s.bar b
  if x.begun then s
  else
    let gs := (s.repeatGroups b).filter s.commitPending
    let s := gs.foldl (State.delayFresh b) (gs.foldl State.applyGroup s)
    let s := s.setBar b { s.bar b with begun := true }
    if s.isLead b then s.leadRepeat x.pos else s

/-! ### Bar lines (R256) -/

/-- Rows the line needs are in the bar's input queue. -/
def State.rowReady (s : State) (b : Nat) (r : JobPos × Nat) : Bool :=
  let x := s.bar b
  s.slotDir (s.rd (K.barSlot b)) r.1 == 0 ||
  (match x.segs.find? fun g => g.rep == r.1.idx && Nat.ble g.row0 r.2 && Nat.blt r.2 (g.row0 + g.rows) with
   | some g => g.data.isSome
   | none => x.fetchEnd || Nat.blt r.1.idx x.fetch.idx)

/-- A bar line may start: device state, the bar's generator running (R104), job and StopLine, no line of the bar in progress, and a credit at every port. -/
def State.lineAllowed (s : State) (b : Nat) : Bool :=
  let x := s.bar b
  s.printing && s.on (K.barBarEnable b) && !x.atEnd && x.cur.isNone &&
  (s.dev == stArmed || ((s.dev == stRunning || s.dev == stDraining) && (s.gen (12 + b)).run)) &&
  s.withinStop (s.barLine b x.k) && !(s.unbound x.pos && !s.isLead b) &&
  (s.barPorts b).all fun p => Nat.blt (s.port p).banks.length 2

/-- Heads found again become ACTIVE at their bar's boundary (R288). -/
def State.rejoinHeads (s : State) (b : Nat) : State :=
  (List.range (s.rd (K.barHeadCount b))).foldl (fun s i =>
    let h := s.rd (K.barFirstHead b) + i
    let x : Head := tget {} s.heads h
    if x.rejoin then { s.wr (K.khHeadState h) 4 with heads := tput s.heads h { x with rejoin := false } } else s) s

/-- The bar line starts: it takes a bank at every port, and its values, codes and ring plane are what the state at its start
gives; `delay` is what its boundary took (R244). -/
def State.startLine (s : State) (b delay : Nat) : State :=
  let s := s.rejoinHeads b
  let x := s.bar b
  let line := s.barLine b x.k
  let prev := if line = 0 then none else some ((if line - 1 < x.pos.first then x.prev.getD x.pos else x.pos), line - 1)
  let vals := s.lineValues b x.pos line prev
  let p := s.screenOf b line
  let codes := screenLine p (s.noise b line) x.down vals.1
  let plane := if (line - x.pos.first) % s.rd K.jobUpY = 0 then some (s.ringPlane vals.2) else none
  let due := s.now + delay + 32 + 512 * ceilDiv (stripCount p.z1 vals.1.length) 64
  let s := s.setBar b { x with cur := some (due, plane), down := codes.2, stalled := false }
  (s.barPorts b).foldl (fun s q =>
    let l : BankLine := { k := x.k, data := s.portLine b q codes.1, done := none }
    s.setPort q { s.port q with banks := (s.port q).banks ++ [l] }) s

/-- BAR_LINE_START (R244, R256, R258): with a credit at every port and its input ready, what is pending applies and the line
starts; a line that must wait for input is counted once. -/
def barLineStart (b : Nat) (s : State) : State :=
  if ¬ s.lineAllowed b then s
  else
    let s := fetchSettle b 64 (s.beginRepeat b)
    let x := s.bar b
    if ¬ s.withinStop (s.barLine b x.k) then s
    else if (s.lineRows x.pos (s.barLine b x.k)).all (s.rowReady b) then (s.glazeBoundary b).startLine b (s.boundaryDelay b)
    else if x.stalled then s
    else ((s.setBar b { x with stalled := true }).inc 32 (K.barsInputStalls b)).flag K.slipStatus 2 97

/-- BAR_LINE_START. -/
def execBarLineStart (b : Nat) (s : State) : Host.Outcome State Fault Refusal := inst (Nat.blt b 16) (barLineStart b s)

/-- Write a slot's plane of the ring row at bar line k's web coordinate, with the row table (R247 to R249). -/
def State.ringWrite (s : State) (b k : Nat) (plane : List Nat) : State :=
  if ¬ s.on K.ringRingEnable ∨ s.rd K.ringRingRowPitch = 0 then s
  else
    let j := floorDiv (s.genW (12 + b) k) (s.rd K.ringRingRowPitch)
    let rows := s.rd K.ringRingRows
    let slot := (j % (rows : Int)).toNat
    let i := s.rd (K.barSlot b)
    let s := s.blockWrite 2 (s.rd K.ringRingBase + slot * 8 * s.rd K.ringRingColumns + i * s.rd K.ringRingColumns) plane
    if s.isLead b then
      let f := match s.slip.front with | some f => max f j | none => j
      { s.wr K.slipRingFront (ofI 64 f) with slip := { s.slip with rows := tput s.slip.rows slot (2 ^ i), front := some f } }
    else { s with slip := { s.slip with rows := tput s.slip.rows slot (setBits (tget 0 s.slip.rows slot) (2 ^ i)) } }

/-- A finished line's plane is written, or waits until Origin is fixed. -/
def State.planeOut (s : State) (b : Nat) (plane : Option (List Nat)) : State :=
  match plane with
  | none => s
  | some pl =>
    if (s.gen (12 + b)).run then s.ringWrite b (s.bar b).k pl
    else s.setBar b { s.bar b with early := (s.bar b).early ++ [((s.bar b).k, pl)] }

/-- A bar moves to its next line; segments it has passed leave its queue. -/
def State.nextLine (s : State) (b : Nat) : State :=
  let x := s.bar b
  let line := s.barLine b x.k
  let row := (line - x.pos.first) / s.rd K.jobUpY
  let next := s.barLine b (x.k + 1)
  let segs := x.segs.filter fun g => Nat.blt x.pos.idx g.rep || (g.rep == x.pos.idx && Nat.blt row (g.row0 + g.rows))
  let y : Bar := { x with k := x.k + 1, cur := none, segs := segs }
  match s.seek next 4 x.pos with
  | some p => s.setBar b { y with pos := p, prev := s.seek (next - 1) 4 x.pos, begun := x.begun && decide (p.idx = x.pos.idx),
                                  fetch := if x.fetch.idx < p.idx then p else x.fetch,
                                  fetchSeg := if x.fetch.idx < p.idx then 0 else x.fetchSeg }
  | none => s.setBar b { y with atEnd := true }

/-- VarReadIndex passes the records whose repeat every bar in use has finished (R235). -/
def State.freeVars (s : State) : State :=
  let low := s.barsOn.foldl (fun m b => min m ((s.bar b).pos.idx + b2n (s.bar b).atEnd)) (2 ^ 64)
  let gone := s.slip.binds.filter fun v => Nat.blt v.rep low
  { s.add 32 K.slipVarReadIndex (gone.filter fun v => v.taken).length with
    slip := { s.slip with binds := s.slip.binds.filter fun v => !Nat.blt v.rep low } }

/-- The lead bar has screened its last line: the job has ended (R238). -/
def State.jobEnd (s : State) : State :=
  let s := (s.arrive 100).raise Ev.slipJobEnd
  if s.dev = stRunning then s.drain 2 else s

/-- The lead bar has screened a line. -/
def State.leadScreened (s : State) (line : Nat) (p : JobPos) : State :=
  let s := s.wr K.slipLeadLine (ofI 64 line)
  { s with slip := { s.slip with screened := some (line, p.first + s.entryLines p.entry - 1) } }

/-- A line that missed its deadline leaves the banks as soon as it is complete (R257). -/
def State.dropMissed (s : State) (b k : Nat) : State :=
  if ¬ (s.bar b).missed.contains k then s
  else (s.barPorts b).foldl (fun s p => s.setPort p { s.port p with banks := (s.port p).banks.filter fun l => l.k != k }) s

/-- BAR_LINE_DONE (R256): the banks are complete and the ring plane is written. -/
def barLineDone (b : Nat) (s : State) : State :=
  match (s.bar b).cur with
  | none => s
  | some (due, plane) =>
    let s := s.at due
    let k := (s.bar b).k
    let p := (s.bar b).pos
    let line := s.barLine b k
    let s := (s.barPorts b).foldl (fun s q =>
      s.setPort q { s.port q with banks := (s.port q).banks.map fun l => if l.k = k then { l with done := some s.now } else l }) s
    let s := (s.planeOut b plane).dropMissed b k
    let s := (s.inc 64 (K.barsLinesScreened b)).wr (K.barsLine b) (ofI 64 line)
    let s := ((s.nextLine b).showFill b).freeVars
    if ¬ s.isLead b then s
    else
      let s := s.leadScreened line p
      if (s.bar b).atEnd then s.jobEnd else s

/-- BAR_LINE_DONE. -/
def execBarLineDone (b : Nat) (s : State) : Host.Outcome State Fault Refusal := inst (Nat.blt b 16) (barLineDone b s)

/-! ### Entering ARMED and RUNNING (R249, R256, R406) -/

/-- A bar as it stands on entering ARMED. -/
def Bar.armed (x : Bar) (p : JobPos) : Bar := { masks := x.masks, loop := x.loop, pos := p, fetch := {} }

/-- Slip on entering ARMED: the row table is cleared, and with print in RunMask every bar stands at its first line. -/
def State.slipArm (s : State) : State :=
  let s := { s with slip := { s.slip with rows := [], front := none } }
  if ¬ s.printing then s
  else
    let s := (s.wr K.slipLeadBar s.findLead).wr K.slipVarReadIndex s.slip.take
    let s := { s with slip := { s.slip with binds := [], screened := none, stopped := false } }
    let s := s.barsOn.foldl (fun s b =>
      match s.seek (s.barLine b 0) 4 ({} : JobPos) with
      | some p => s.setBar b ((s.bar b).armed p)
      | none => s.setBar b { (s.bar b).armed {} with atEnd := true }) s
    ((List.range 32).foldl (fun s p => s.setPort p { s.port p with banks := [], shift := none, loaded := none, shiftFrom := 0 }) s).wr
      K.slipJobState 1

/-- The ring planes of lines screened before Origin was fixed are written (R248). -/
def State.slipRun (s : State) : State :=
  if ¬ s.printing then s
  else
    let s := s.barsOn.foldl (fun s b =>
      let e := (s.bar b).early
      let s := e.foldl (fun s x => s.ringWrite b x.1 x.2) s
      s.setBar b { s.bar b with early := [], fired := none, delivered := none }) s
    s.wr K.slipJobState 2

end Sys2Proof.Machine
end

