-- ==== Sys2Proof/Machine/Kiln.lean ====
section
/-! DEFINITION. The Kiln's line cycle, strobes, port power, head identity and temperature, and their faults (R270 to R291).
The resistance scan stands in Scan. -/

namespace Sys2Proof.Machine

/-! ### Ports, heads and profiles -/

/-- A head's record. -/
def State.head (s : State) (h : Nat) : Head := tget {} s.heads h

/-- Set a head's record. -/
def State.setHead (s : State) (h : Nat) (x : Head) : State := { s with heads := tput s.heads h x }

/-- Balls of the Kiln: strobe of head h, latch and power enable of port p. -/
abbrev ballStrobe (h : Nat) : Nat := 0x200 + h
abbrev ballLatch (p : Nat) : Nat := 0x300 + p
abbrev ballPower (p : Nat) : Nat := 0x340 + p

/-- PortState codes (R284). -/
abbrev kpOff := 0
abbrev kpPowering := 1
abbrev kpActive := 2
abbrev kpDown := 3
abbrev kpGone := 4

/-- HeadState codes (R298). -/
abbrev khAbsent := 0
abbrev khOff := 1
abbrev khMismatch := 2
abbrev khReady := 3
abbrev khActive := 4
abbrev khMeasure := 5
abbrev khRetired := 6

/-- PortState. -/
def State.portState (s : State) (p : Nat) : Nat := s.rd (K.kpPortState p)

/-- HeadState. -/
def State.headState (s : State) (h : Nat) : Nat := s.rd (K.khHeadState h)

/-- Heads in ACTIVE. -/
def State.activeHeads (s : State) : Nat := ((List.range 128).filter fun h => s.headState h == khActive).length

/-- Set HeadState; ActiveHeads counts the ACTIVE heads (R299). -/
def State.setHeadState (s : State) (h v : Nat) : State :=
  let s := s.wr (K.khHeadState h) v
  s.wr K.kilnActiveHeads s.activeHeads

/-- The profile group of a port. -/
def State.prof (s : State) (p : Nat) : Nat := s.rd (K.kpProfile p) - 1

/-- The heads of a port that HeadMask selects. -/
def State.portHeads (s : State) (p : Nat) : List Nat :=
  ((List.range 4).filter fun i => s.bit (K.kpHeadMask p) i).map fun i => 4 * p + i

/-- Set bits of KilnStatus. -/
def State.kilnMark (s : State) (m : Nat) : State := s.wr K.kilnKilnStatus (setBits (s.rd K.kilnKilnStatus) m)

/-- FABCLK that `n` bits last on a lane, rounded up: a bit lasts 800 / LaneRate (R276). -/
def State.bitTime (s : State) (g n : Nat) : Nat :=
  ceilDiv (n * (match s.rd (K.profLaneRate g) with | 0 => 8 | 1 => 4 | 2 => 2 | _ => 1)) 2

/-- FABCLK of preamble, data and postamble on one lane (R276, R279). -/
def State.frameTime (s : State) (g : Nat) : Nat :=
  s.bitTime g (s.rd (K.profPreambleBits g)) +
  s.bitTime g (s.rd (K.profNozzles g) / s.rd (K.profLanesPerHead g) * s.rd (K.profBitsPerNozzle g)) +
  s.bitTime g (s.rd (K.profPostambleBits g))

/-- FirePeriod of R279. -/
def State.firePeriod (s : State) (g : Nat) : Nat := ceilDiv 800000000 (s.rd (K.profMaxFireRate g))

/-- ShiftPeriod of R279. -/
def State.shiftPeriod (s : State) (g : Nat) : Nat :=
  s.rd (K.profLatchWidth g) + s.rd (K.profLatchHold g) + s.frameTime g + s.rd (K.profLatchSetup g)

/-- ProfilePeriod of R295. -/
def State.profilePeriod (s : State) (g : Nat) : Nat := max (s.firePeriod g) (s.shiftPeriod g)

/-- The TempComp factor of knot j: pre-heat at 0, fire at 1 (R278). -/
def State.tempKnot (s : State) (g which j : Nat) : Nat := s.domLe (K.profTempComp g) (4 * j + 2 * which) 2

/-- The largest factor of a TempComp table. -/
def State.tempMaxKnot (s : State) (g which : Nat) : Nat := ((List.range 17).map (s.tempKnot g which)).foldl max 0

/-- A segment scaled by a factor (R278). -/
def scaleSeg (lo seg f : Nat) : Nat := max lo (min 6400 ((seg * f + 2048) / 4096))

/-- WindowMax of R279. -/
def State.windowMax (s : State) (g : Nat) : Nat :=
  scaleSeg 0 (s.rd (K.profPreHeat g)) (s.tempMaxKnot g 0) + s.rd (K.profGap g) +
  scaleSeg 1 (s.rd (K.profFire g)) (s.tempMaxKnot g 1) + s.rd (K.profTail g)

/-- StrobePeriod of R279. -/
def State.strobePeriod (s : State) (p : Nat) : Nat :=
  match s.portHeads p with
  | [] => 0
  | hs => 20 + ((hs.map fun h => s.rd (K.khDelay h) + s.windowMax (s.prof p)).foldl max 0)

/-- A port's minimum line period (R279). -/
def State.portPeriod (s : State) (p : Nat) : Nat := max (s.profilePeriod (s.prof p)) (s.strobePeriod p)

/-- MinLinePeriod of a bar (R279). -/
def State.minLinePeriod (s : State) (b : Nat) : Nat := ((s.barPorts b).map s.portPeriod).foldl max 0

/-! ### Faults and retirement (R283, R289 to R291) -/

/-- A head's strobe is inactive and nothing is to come. -/
def State.strobeOff (s : State) (h : Nat) : State :=
  (s.setHead h { s.head h with strobe := none, segs := [], activeAt := none }).drive (ballStrobe h)
    (s.rd (K.profStrobePolarity (s.prof (h / 4))) == 1)

/-- A head is retired (R289). -/
def State.headRetire (s : State) (h bit : Nat) : State :=
  let s := ((s.strobeOff h).setHeadState h khRetired).flag (K.khHeadStatus h) 2 210
  ((s.kilnMark 4).raise (Ev.kpHeadRetired (h / 4))).retire (6 * 256 + h) bit (s.rd (K.khFaultCount h))

/-- A transient head fault (R289). -/
def State.headFault (s : State) (h bit : Nat) : State :=
  let g := s.prof (h / 4)
  let s := ((s.inc 32 (K.khFaultCount h)).flag (K.khHeadStatus h) (2 ^ bit) 215).kilnMark 16
  let s := s.transient (6 * 256 + h) bit (s.rd (K.profRetryWindow g))
  if s.breaks (6 * 256 + h) (s.rd (K.profRetryCount g)) (s.rd (K.profRetryWindow g)) ∧ s.headState h ≠ khRetired then
    s.headRetire h bit
  else s

/-- A port is retired, and its ACTIVE and READY heads with it (R290). -/
def State.portRetire (s : State) (p bit : Nat) : State :=
  let s := ((s.wr (K.kpPortState p) kpGone).flag (K.kpPortStatus p) 4 211).kilnMark 8
  let s := (s.raise (Ev.kpRetired p)).retire (5 * 256 + p) bit (s.rd (K.kpFaultCount p))
  let s := s.setPort p { s.port p with shift := none, loaded := none, deskew := false, toId := [] }
  ((List.range 4).map fun i => 4 * p + i).foldl (fun s h =>
    if s.headState h = khActive ∨ s.headState h = khReady then
      (s.setHead h { s.head h with withPort := true }).headRetire h bit
    else s) s

/-- A transient port fault (R290). -/
def State.portFault (s : State) (p bit : Nat) : State :=
  let s := (s.inc 32 (K.kpFaultCount p)).wr (K.kpLastFaultTime p) s.time
  let s := s.wr (K.kpPortStatus p) (setBits (s.rd (K.kpPortStatus p)) (2 ^ bit))
  let s := s.transient (5 * 256 + p) bit (s.rd (K.kpRetryWindow p))
  if s.breaks (5 * 256 + p) (s.rd (K.kpRetryCount p)) (s.rd (K.kpRetryWindow p)) ∧ s.portState p ≠ kpGone then s.portRetire p bit
  else s

/-- The Kiln compares a sense word (R290). -/
def State.senseWord (s : State) (p : Nat) (code : Int) : State :=
  if s.rdI 32 (K.kpSenseLimit p) < code then s.portFault p 0 else s

/-- On entry to FAULT or FENCED every strobe, latch and lane goes inactive (R291). -/
def State.kilnHalt (s : State) : State :=
  let s := (s.heads.map fun e => e.1).foldl State.strobeOff s
  let s := (s.ports.map fun e => e.1).foldl (fun s p =>
    (s.setPort p { s.port p with shift := none, loaded := none, lanes := [] }).drive (ballLatch p)
      (s.rd (K.profLatchMode (s.prof p)) == 1)) s
  if s.rd K.kilnSpeedLimitPin < 32 then s.drive (ballGpio (s.rd K.kilnSpeedLimitPin)) (!s.on K.kilnSpeedLimitLevel) else s

/-! ### The shift frame (R276) -/

/-- The logical nozzle a position carries. -/
def State.wiredNozzle (s : State) (g pos : Nat) : Nat :=
  let n := s.rd (K.profNozzles g)
  match s.rd (K.profOrderMode g) with
  | 0 => pos
  | 1 => n - 1 - pos
  | 2 => if pos < n / 2 then 2 * pos else 2 * (pos - n / 2) + 1
  | _ => s.domLe (K.profOrderTable g) (2 * pos) 2

/-- The output bits of a drop code, in the order they are sent. -/
def State.codeBits (s : State) (g c : Nat) : List Bool :=
  let m := s.rd (K.profDropMap g)
  if s.rd (K.profBitsPerNozzle g) = 1 then [bitOf m (2 * c)]
  else if s.rd (K.profBitOrder g) = 0 then [bitOf m (2 * c + 1), bitOf m (2 * c)] else [bitOf m (2 * c), bitOf m (2 * c + 1)]

/-- Code of logical nozzle i in a slot of a port line (R255). -/
def slotCode (slot : List Nat) (i : Nat) : Nat := nth slot (i / 4) / 4 ^ (i % 4) % 4

/-- The frame of lane `l` of a slot: preamble, its groups, postamble. -/
def State.laneFrame (s : State) (g : Nat) (slot : List Nat) (l : Nat) : List Bool :=
  let n := s.rd (K.profPreambleBits g)
  let lanes := s.rd (K.profLanesPerHead g)
  ((List.range n).map fun i => bitOf (s.rd (K.profPreamble g)) (n - 1 - i)) ++
  ((List.range (s.rd (K.profNozzles g) / lanes)).flatMap fun j => s.codeBits g (slotCode slot (s.wiredNozzle g (j * lanes + l)))) ++
  List.replicate (s.rd (K.profPostambleBits g)) false

/-- The frames of a port's four lanes (R271, R276); a slot whose head is not ACTIVE is sent as zero codes. -/
def State.portFrames (s : State) (p : Nat) (data : List Nat) : List (List Bool) :=
  let g := s.prof p
  let lanes := s.rd (K.profLanesPerHead g)
  let bytes := data.length / 4
  (List.range 4).map fun lane =>
    let i := lane / lanes
    if lane < 4 / lanes * lanes then
      s.laneFrame g (if s.headState (4 * p + i) = khActive then (data.drop (i * bytes)).take bytes else []) (lane % lanes)
    else []

/-! ### Shifting (R272, R274) -/

/-- A port of the bar holds line k complete: in a bank, on its way, or in the shift registers. -/
def State.lineHeld (s : State) (k p : Nat) : Bool :=
  let x := s.port p
  x.banks.any (fun l => l.k == k && l.done.isSome) || (match x.loaded with | some l => l.1 == k | none => false)

/-- SHIFT_START (R274): the bar's next line starts shifting into a port's heads, once latch and hold are over and the line is
complete in every bank of the bar. -/
def shiftStart (p : Nat) (s : State) : State :=
  let b := s.portBar p
  let x := s.port p
  let k := (s.bar b).next
  match x.banks.find? fun l => l.k == k && l.done.isSome with
  | none => s
  | some l =>
    if 16 ≤ b ∨ x.shift.isSome ∨ x.loaded.isSome ∨ ¬ (s.barPorts b).all (s.lineHeld k) ∨
       ¬ (s.dev = stArmed ∨ s.dev = stRunning ∨ s.dev = stDraining) then s
    else
      let s := s.at x.shiftFrom
      s.setPort p { x with shift := some (k, s.now + s.frameTime (s.prof p)), shiftData := l.data,
                           lanes := if s.portState p = kpActive then s.portFrames p l.data else x.lanes }

/-- SHIFT_START. -/
def execShiftStart (p : Nat) (s : State) : Host.Outcome State Fault Refusal := inst (Nat.blt p 32) (shiftStart p s)

/-- SHIFT_DONE (R272): the bank's last bit has left the balls; its credit returns. -/
def shiftDone (p : Nat) (s : State) : State :=
  let x := s.port p
  match x.shift with
  | none => s
  | some (k, t) =>
    let s := (s.at t).setPort p { x with shift := none, loaded := some (k, t), loadedData := x.shiftData,
                                         banks := x.banks.filter fun l => l.k != k }
    if s.portState p = kpActive then s.inc 64 (K.kpLinesShifted p) else s

/-- SHIFT_DONE. -/
def execShiftDone (p : Nat) (s : State) : Host.Outcome State Fault Refusal := inst (Nat.blt p 32) (shiftDone p s)

/-! ### Pulse widths (R278) -/

/-- A TempComp factor at a temperature, m°C; 4,096 with none. -/
def State.tempFactor (s : State) (g which : Nat) (t : Option Int) : Int :=
  match t with
  | none => 4096
  | some t =>
    let step : Int := s.rd (K.profTempStep g)
    let x := t - s.rdI 32 (K.profTempBase g)
    let i := clampI 0 15 (Int.fdiv x step)
    let r := clampI 0 step (x - i * step)
    let f0 : Int := s.tempKnot g which i.toNat
    let f1 : Int := s.tempKnot g which (i.toNat + 1)
    f0 + Int.fdiv ((f1 - f0) * (2 * r) + step) (2 * step)

/-- PreHeat and Fire of a head in force, and whether a run was limited: PreHeat with Gap 0 and Fire form one run, whose Fire is
cut first. -/
def State.pulses (s : State) (h : Nat) : Nat × Nat × Bool :=
  let g := s.prof (h / 4)
  let t := if s.rd (K.profTempDevAddr g) = 0 then none else (s.head h).temp
  let pre := scaleSeg 0 (s.rd (K.profPreHeat g)) (s.tempFactor g 0 t).toNat
  let fire := scaleSeg 1 (s.rd (K.profFire g)) (s.tempFactor g 1 t).toNat
  let lim := s.rd (K.profStrobeMax g) - 8
  if s.rd (K.profGap g) = 0 ∧ pre ≠ 0 then
    if pre + fire ≤ lim then (pre, fire, false) else (min pre lim, lim - min pre lim, true)
  else (min pre lim, min fire lim, decide (lim < pre ∨ lim < fire))

/-! ### The raster trigger (R257, R273, R274, R280, R281) -/

/-- A line of the bar that should be in its banks by now: the job has it and StopLine allows it. -/
def State.lineDue (s : State) (b k : Nat) : Bool :=
  (!(s.bar b).atEnd || Nat.blt k (s.bar b).k) && s.withinStop (s.barLine b k)

/-- Line k misses its deadline (R257). -/
def State.underrun (s : State) (b k : Nat) : State :=
  let s := s.setBar b { s.bar b with missed := (s.bar b).missed ++ [k] }
  let s := ((s.inc 32 (K.barsUnderruns b)).flag K.slipStatus 1 96).raise Ev.slipUnderrun
  (s.witness 0x22 (4 * 256 + b) 0 0 (s.barLine b k)).dropMissed b k

/-- The deadline of line k, at the trigger before its own (R256): complete in every bank, or an underrun. -/
def State.deadline (s : State) (b k : Nat) : State :=
  if ¬ s.lineDue b k then s
  else if (s.barPorts b).all (s.lineHeld k) then
    let done := (s.barPorts b).filterMap fun p => ((s.port p).banks.find? fun l => l.k == k).bind fun l => l.done
    let slack := s.now - done.foldl max 0
    if slack < s.rd (K.barsWorstSlack b) then s.wr (K.barsWorstSlack b) slack else s
  else s.underrun b k

/-- Check 2 of R273. -/
def State.lineShifted (s : State) (b k : Nat) : Bool :=
  (s.barPorts b).all fun p =>
    match (s.port p).loaded with
    | some l => l.1 == k && Nat.ble (l.2 + s.rd (K.profLatchSetup (s.prof p))) (s.now + 5)
    | none => false

/-- Check 4 of R273. -/
def State.lineSpaced (s : State) (b : Nat) : Bool :=
  match (s.bar b).fired with
  | none => true
  | some t => Nat.ble (t + s.minLinePeriod b) s.now

/-- The bars in speed limit hold the request asserted; the pin follows it (R281). -/
def State.speedRequest (s : State) : State :=
  let want := (List.range 16).any fun b => s.on (K.kbarInSpeedLimit b)
  let pin := s.rd K.kilnSpeedLimitPin
  let s := if want = s.on K.kilnSpeedLimit then s
    else ((s.wr K.kilnSpeedLimit (b2n want)).arrive 209).raise (if want then Ev.klnSpeedLimit else Ev.klnSpeedOk)
  if pin < 32 then
    s.drive (ballGpio pin) ((want && s.dev != stFault && s.dev != stFenced) == s.on K.kilnSpeedLimitLevel)
  else s

/-- The line is skipped for overspeed (R280). -/
def State.overspeed (s : State) (b : Nat) (x : Trig) : State :=
  let s := ((s.flag (K.kbarBarStatus b) 1 208).kilnMark 1).inc 32 (K.kbarLinesSkipped b)
  let s := (s.wr (K.kbarLastSkip b) (ofI 64 (wholePos x.t))).wr (K.kbarInSpeedLimit b) 1
  (((s.raise (Ev.klnSkip b)).witness 0x21 (4 * 256 + b) 0 (ofI 32 x.k) (ofI 64 (wholePos x.t)))).speedRequest

/-- A head of a fired line: its pulses are fixed and its strobe is to come (R275, R278). -/
def State.armStrobe (s : State) (h : Nat) (slot : List Nat) : State :=
  let w := s.pulses h
  let s := (s.wr (K.khPreHeatWidth h) w.1).wr (K.khFireWidth h) w.2.1
  let s := if w.2.2 then (s.flag (K.khHeadStatus h) 16 215).kilnMark 16 else s
  s.setHead h { s.head h with strobe := some (s.now + 9 + s.rd (K.khDelay h), w.1, w.2.1), latched := slot }

/-- A port latches its line: every ACTIVE head of the bar is strobed (R273 to R275). -/
def State.latchPort (s : State) (p : Nat) : State :=
  if s.portState p ≠ kpActive then s
  else
    let data := (s.port p).loadedData
    let bytes := data.length / 4
    (List.range 4).foldl (fun s i =>
      if s.headState (4 * p + i) = khActive ∧ ¬ (s.head (4 * p + i)).cut then
        s.armStrobe (4 * p + i) ((data.drop (i * bytes)).take bytes)
      else s) s

/-- After a trigger, fired or not: a shift in progress is abandoned, the shift registers are given up, and lines up to k leave
the banks (R273, R274). -/
def State.portTurn (k : Nat) (s : State) (p : Nat) : State :=
  let x := s.port p
  let g := s.prof p
  s.setPort p { x with shift := none, loaded := none, banks := x.banks.filter fun l => Nat.blt k l.k,
                       shiftFrom := s.now + 5 + s.rd (K.profLatchWidth g) + s.rd (K.profLatchHold g) }

/-- The bar fires line k. -/
def State.fireLine (s : State) (b : Nat) : State :=
  let s := (s.barPorts b).foldl State.latchPort s
  let s := (s.inc 64 (K.kbarLinesFired b)).setBar b { s.bar b with fired := some s.now }
  s.raiseAt (s.now + 5) (Ev.klnFire b) 0

/-- The interval since the last delivery: LastInterval, and the end of a speed limit (R281). -/
def State.interval (s : State) (b : Nat) : State :=
  match (s.bar b).delivered with
  | none => s
  | some t =>
    let s := s.wr (K.kbarLastInterval b) (s.now - t)
    if s.on (K.kbarInSpeedLimit b) ∧ ceilDiv (s.minLinePeriod b * 50) 49 ≤ s.now - t then
      (s.wr (K.kbarInSpeedLimit b) 0).speedRequest
    else s

/-- A raster trigger k is delivered to bar b (R273). -/
def State.rasterLine (s : State) (b : Nat) (x : Trig) : State :=
  let k := x.k.toNat
  let s := (s.interval b).setBar b { s.bar b with delivered := some s.now }
  let spaced := s.lineSpaced b
  let ok := (s.dev == stRunning || s.dev == stDraining) && s.withinStop (s.barLine b k) && s.lineShifted b k &&
    !(s.bar b).missed.contains k
  let lost := k - (s.bar b).next
  let s := if ok && spaced then (s.fireLine b).add 32 (K.kbarLinesDiscarded b) lost
    else s.add 32 (K.kbarLinesDiscarded b) (lost + 1)
  let s := if spaced then s else s.overspeed b x
  let s := (s.barPorts b).foldl (State.portTurn k) s
  let s := s.setBar b { s.bar b with next := k + 1, missed := (s.bar b).missed.filter fun j => Nat.blt k j }
  s.deadline b (k + 1)

/-- RASTER_TRIGGER (R273): the oldest trigger of the bar is delivered two FABCLK after it was raised. -/
def rasterTrigger (b : Nat) (s : State) : State :=
  match s.takeTrig (12 + b) with
  | none => s
  | some (x, s) => (s.at (x.stamp + 2)).rasterLine b x

/-- RASTER_TRIGGER. -/
def execRasterTrigger (b : Nat) (s : State) : Host.Outcome State Fault Refusal := inst (Nat.blt b 16) (rasterTrigger b s)

/-! ### Strobes (R275, R277, R283) -/

/-- Drive a head's strobe. -/
def State.driveStrobe (s : State) (h : Nat) (act : Bool) : State :=
  s.drive (ballStrobe h) (act != (s.rd (K.profStrobePolarity (s.prof (h / 4))) == 1))

/-- The first segment of those left runs from now. -/
def State.runSegment (s : State) (h : Nat) (segs : List (Bool × Nat)) : State :=
  let x := s.head h
  match segs with
  | [] => (s.setHead h { x with segs := [], activeAt := none }).driveStrobe h false
  | (act, n) :: l =>
    (s.setHead h { x with segs := (act, n) :: l, segEnd := s.now + n,
                          activeAt := if act then some (x.activeAt.getD s.now) else none }).driveStrobe h act

/-- STROBE_START (R275, R277): the head's delay has elapsed; a segment of 0 is left out. -/
def strobeStart (h : Nat) (s : State) : State :=
  let x := s.head h
  match x.strobe with
  | none => s
  | some (t, pre, fire) =>
    let g := s.prof (h / 4)
    let s := ((s.at t).inc 64 (K.khStrobes h)).setHead h { x with strobe := none }
    s.runSegment h (([(true, pre), (false, s.rd (K.profGap g)), (true, fire), (false, s.rd (K.profTail g))] : List (Bool × Nat)).filter
      fun p => p.2 != 0)

/-- STROBE_START. -/
def execStrobeStart (h : Nat) (s : State) : Host.Outcome State Fault Refusal := inst (Nat.blt h 128) (strobeStart h s)

/-- STROBE_SEGMENT_END (R277). -/
def strobeSegmentEnd (h : Nat) (s : State) : State :=
  let x := s.head h
  match x.segs with
  | [] => s
  | _ :: l => (s.at x.segEnd).runSegment h l

/-- STROBE_SEGMENT_END. -/
def execStrobeSegmentEnd (h : Nat) (s : State) : Host.Outcome State Fault Refusal := inst (Nat.blt h 128) (strobeSegmentEnd h s)

/-- STROBE_CUT (R283): the watchdog forces a strobe inactive that has been active for more than StrobeMax FABCLK, and for more
than 8,000 whatever StrobeMax holds; the head is retired. -/
def strobeCut (h : Nat) (s : State) : State :=
  match (s.head h).activeAt with
  | none => s
  | some t =>
    let s := s.at (t + min (s.rd (K.profStrobeMax (s.prof (h / 4))) + 1) 8000)
    let s := (s.setHead h { s.head h with cut := true }).flag (K.khHeadStatus h) 1 214
    let s := ((s.kilnMark 2).wr (K.khLastCutTime h) s.time).raise (Ev.kpStrobeCut (h / 4))
    (s.witness 0x20 (6 * 256 + h) 0 (s.now - t) 0).headRetire h 0

/-- STROBE_CUT. -/
def execStrobeCut (h : Nat) (s : State) : Host.Outcome State Fault Refusal := inst (Nat.blt h 128) (strobeCut h s)

/-! ### Port power (R284, R285) -/

/-- The port's heads enter OFF; a head retired on its own stays RETIRED. -/
def State.headsOff (s : State) (p : Nat) : State :=
  (List.range 4).foldl (fun s i =>
    let h := 4 * p + i
    let x := s.head h
    let s := s.strobeOff h
    if s.headState h = khRetired ∧ ¬ x.withPort then s
    else (s.setHead h { s.head h with withPort := false, rejoin := false, again := false, temp := none }).setHeadState h khOff) s

/-- KP_PWREN falls and the port is OFF. -/
def State.portOff (s : State) (p : Nat) : State := (s.wr (K.kpPortState p) kpOff).drive (ballPower p) false

/-- The port enters POWERING_DOWN, or OFF at once with no PowerOffDelay. -/
def State.powerDown (s : State) (p : Nat) : State :=
  let s := (s.setPort p { s.port p with offAsked := false, deskew := false, toId := [], shift := none, loaded := none,
                                        until_ := s.now + us (s.rd (K.kpPowerOffDelay p)) }).headsOff p
  if s.rd (K.kpPowerOffDelay p) = 0 then s.portOff p else s.wr (K.kpPortState p) kpDown

/-- The bar that a port belongs to is being screened and fired. -/
def State.portRuns (s : State) (p : Nat) : Bool := Nat.blt (s.portBar p) 16 && s.barRuns (s.portBar p)

/-- PORT_POWER_ON, PORT_POWER_OFF (R284, R285): a write of PortPower. -/
def portPowerWrite (a : Acc) (p : Nat) (s : State) : State :=
  s.act a (K.kpPortPower p) 0 fun s =>
    let v := accVal a (K.kpPortPower p)
    let s := s.wr (K.kpPortPower p) v
    if v = 1 then
      if s.portState p = kpOff then
        ((s.wr (K.kpPortState p) kpPowering).drive (ballPower p) true).setPort p
          { s.port p with until_ := s.now + us (s.rd (K.kpPowerOnDelay p)), deskew := false, toId := [], offAsked := false }
      else s.setPort p { s.port p with offAsked := false }
    else if s.portState p = kpOff ∨ s.portState p = kpDown then s
    else if s.portRuns p then s.setPort p { s.port p with offAsked := true }
    else s.powerDown p

/-- PORT_POWER_ON. -/
def execPortPowerOn (a : Acc) (p : Nat) (s : State) : Host.Outcome State Fault Refusal :=
  inst (Nat.blt p 32) (portPowerWrite { a with value := 1 } p s)

/-- PORT_POWER_OFF. -/
def execPortPowerOff (a : Acc) (p : Nat) (s : State) : Host.Outcome State Fault Refusal :=
  inst (Nat.blt p 32) (portPowerWrite { a with value := 0 } p s)

/-- No strobe window of the port runs or is to come. -/
def State.strobesDone (s : State) (p : Nat) : Bool :=
  (List.range 4).all fun i => (s.head (4 * p + i)).strobe.isNone && (s.head (4 * p + i)).segs.isEmpty

/-- POWER_DOWN_BEGIN (R285): at a bar-line boundary after the port's last strobe window has ended. -/
def powerDownBegin (p : Nat) (s : State) : State :=
  if (s.port p).offAsked ∧ s.strobesDone p then s.powerDown p else s

/-- POWER_DOWN_BEGIN. -/
def execPowerDownBegin (p : Nat) (s : State) : Host.Outcome State Fault Refusal := inst (Nat.blt p 32) (powerDownBegin p s)

/-- POWER_OFF_DELAY_END (R285). -/
def powerOffDelayEnd (p : Nat) (s : State) : State :=
  if s.portState p = kpDown then (s.at (s.port p).until_).portOff p else s

/-- POWER_OFF_DELAY_END. -/
def execPowerOffDelayEnd (p : Nat) (s : State) : Host.Outcome State Fault Refusal := inst (Nat.blt p 32) (powerOffDelayEnd p s)

/-- POWER_ON_DELAY_END (R284): the deskew starts. -/
def powerOnDelayEnd (p : Nat) (s : State) : State :=
  if s.portState p = kpPowering ∧ ¬ (s.port p).deskew ∧ (s.port p).toId = [] then
    (s.at (s.port p).until_).setPort p { s.port p with deskew := true }
  else s

/-- POWER_ON_DELAY_END. -/
def execPowerOnDelayEnd (p : Nat) (s : State) : Host.Outcome State Fault Refusal := inst (Nat.blt p 32) (powerOnDelayEnd p s)

/-- Why a deskew is implausible; 0 when it is plausible (R515). -/
def deskewReason (spread residual : Nat) : Nat := if 48 < spread then 3 else if 2 < residual then 2 else 0

/-- DESKEW_DONE (R284, R290, R514): a plausible deskew is followed by identification, a failed one is a port fault and is
retried. -/
def deskewDone (p spread residual : Nat) (s : State) : State :=
  if ¬ (s.port p).deskew then s
  else
    let r := deskewReason spread residual
    let s := s.calEnd (calKp p) r spread 48
    if r ≠ 0 then s.portFault p 1
    else
      let ids := s.portHeads p
      let s := s.setPort p { s.port p with deskew := false, toId := ids }
      if ids.isEmpty then s.wr (K.kpPortState p) kpActive else s

/-- DESKEW_DONE. -/
def execDeskewDone (p spread residual : Nat) (s : State) : Host.Outcome State Fault Refusal :=
  inst (Nat.blt p 32) (deskewDone p spread residual s)

/-! ### Identity and temperature (R286 to R288) -/

/-- The state R286 gives a head from its identification. -/
def State.foundState (s : State) (g : Nat) (id : Option (List Nat)) : Nat :=
  match id with
  | none => khAbsent
  | some l =>
    if leAt l 0 4 &&& s.rd (K.profIdMask g) ≠ s.rd (K.profIdMatch g) &&& s.rd (K.profIdMask g) then khMismatch
    else if s.dev = stStopped ∨ s.dev = stStandby then khActive else khReady

/-- A head identified on a Readmit becomes ACTIVE at its bar's next boundary, or at once with no bar running (R288). -/
def State.rejoin (s : State) (h : Nat) : State :=
  if s.headBar h < 16 ∧ s.barRuns (s.headBar h) then
    (s.setHead h { s.head h with rejoin := true }).setHeadState h khReady
  else s.setHeadState h khActive

/-- A slot's Identity, as read (R286). -/
def State.keepIdentity (s : State) (h g : Nat) (id : Option (List Nat)) : State :=
  match id with
  | some l => s.domWrite (K.khIdentity h) 0 (l.take (s.rd (K.profIdBytes g)))
  | none => s

/-- A slot's state after its identification (R286, R300): a head that retired on its own stays RETIRED, one that was looked for again
rejoins. -/
def State.headFound (s : State) (h st : Nat) : State :=
  let x := s.head h
  let s := if st = khMismatch then s.wr (K.khHeadStatus h) (setBits (s.rd (K.khHeadStatus h)) 32) else s
  let own : Bool := s.headState h == khRetired && !x.withPort && !x.again
  let found : Bool := st == khActive || st == khReady
  let s := s.setHead h { x with again := false, withPort := false }
  let s := if own then s else if x.again && found then s.rejoin h else s.setHeadState h st
  if found then (s.arrive 212).raise (Ev.kpHeadReady (h / 4)) else s.arrive 212

/-- The slot leaves those its port has still to identify; after the last one a POWERING port is ACTIVE (R286). -/
def State.slotDone (s : State) (h : Nat) : State :=
  let p := h / 4
  let left := (s.port p).toId.filter (· != h)
  let last := (s.port p).toId.contains h && left.isEmpty
  let s := s.setPort p { s.port p with toId := left }
  if last ∧ s.portState p = kpPowering then s.wr (K.kpPortState p) kpActive else s

/-- HEAD_IDENTIFIED (R286): Identity, HeadState, and once the last slot of a port is identified the port is ACTIVE. -/
def headIdentified (h : Nat) (id : Option (List Nat)) (s : State) : State :=
  if ¬ ((s.port (h / 4)).toId.contains h ∨ (s.head h).again) then s
  else
    let g := s.prof (h / 4)
    let s := s.keepIdentity h g id
    (s.headFound h (s.foundState g id)).slotDone h

/-- HEAD_IDENTIFIED. -/
def execHeadIdentified (h : Nat) (id : Option (List Nat)) (s : State) : Host.Outcome State Fault Refusal :=
  inst (Nat.blt h 128) (headIdentified h id s)

/-- The heads of a port whose temperature is read. -/
def State.tempHeads (s : State) (p : Nat) : List Nat :=
  ((List.range 4).map fun i => 4 * p + i).filter fun h => s.headState h == khActive || s.headState h == khReady

/-- TEMP_POLL (R287): every TempPoll ms the ACTIVE and READY heads of a port are read. -/
def tempPoll (p : Nat) (s : State) : State :=
  let g := s.prof p
  let s := s.at ((s.port p).polled + ms (s.rd (K.profTempPoll g)))
  let s := s.setPort p { s.port p with polled := s.now }
  if s.rd (K.profTempDevAddr g) = 0 then s
  else (s.tempHeads p).foldl (fun s h => s.setHead h { s.head h with reading := true }) s

/-- TEMP_POLL. -/
def execTempPoll (p : Nat) (s : State) : Host.Outcome State Fault Refusal := inst (Nat.blt p 32) (tempPoll p s)

/-- A temperature word of 1/256 °C in m°C, toward zero (R287). -/
def tempOf (w : Nat) : Int := truncDiv (toI 16 w * 1000) 256

/-- TEMP_READING (R287): the value is stored; no acknowledge, or a reading above TempMax, is a transient head fault. -/
def tempReading (h : Nat) (t : Option Nat) (s : State) : State :=
  let x := s.head h
  if ¬ x.reading then s
  else
    let s := s.setHead h { x with reading := false }
    match t with
    | none => s.headFault h 3
    | some w =>
      let v := tempOf w
      if s.rdI 32 (K.profTempMax (s.prof (h / 4))) < v then s.headFault h 2
      else (s.setHead h { s.head h with temp := some v }).wr (K.khTemperature h) (ofI 32 v)

/-- TEMP_READING. -/
def execTempReading (h : Nat) (t : Option Nat) (s : State) : Host.Outcome State Fault Refusal :=
  inst (Nat.blt h 128) (tempReading h t s)

/-- HEAD_READMIT (R288): with the head READY or RETIRED and its port ACTIVE, its fault run and STROBE_CUT clear and it is
identified again. -/
def headReadmitWrite (a : Acc) (h : Nat) (s : State) : State :=
  s.act a (K.khReadmit h) 0 fun s =>
    if accVal a (K.khReadmit h) = 1 ∧ (s.headState h = khReady ∨ s.headState h = khRetired) ∧ s.portState (h / 4) = kpActive then
      let s := if s.headState h = khRetired then s.readmit (6 * 256 + h)
        else { s with faultTimes := terase s.faultTimes (6 * 256 + h) }
      (s.unflag (K.khHeadStatus h) 1).setHead h { s.head h with cut := false, again := true }
    else s

/-- HEAD_READMIT. -/
def execHeadReadmit (a : Acc) (h : Nat) (s : State) : Host.Outcome State Fault Refusal :=
  inst (Nat.blt h 128) (headReadmitWrite a h s)

/-- PORT_READMIT (R290): on a RETIRED port, deskew and identification are repeated without cycling power. -/
def portReadmitWrite (a : Acc) (p : Nat) (s : State) : State :=
  s.act a (K.kpReadmit p) 0 fun s =>
    if accVal a (K.kpReadmit p) = 1 ∧ s.portState p = kpGone then
      ((s.readmit (5 * 256 + p)).wr (K.kpPortState p) kpPowering).setPort p { s.port p with deskew := true, toId := [] }
    else s

/-- PORT_READMIT. -/
def execPortReadmit (a : Acc) (p : Nat) (s : State) : Host.Outcome State Fault Refusal :=
  inst (Nat.blt p 32) (portReadmitWrite a p s)

end Sys2Proof.Machine
end

