-- ==== Sys2Proof/Machine/Net.lean ====
section
/-! DEFINITION. What an Ethernet port sends (R483 to R487): frames, the ARP cache and UDP datagrams. -/

namespace Sys2Proof.Machine

/-- LinkState codes (R497): 0 OFF, 1 DOWN, 2 UP, 3 RETIRED. -/
def State.ethUp (s : State) (p : Nat) : Bool := s.rd (K.ethsLinkState p) == 2

/-- A frame with the 802.1Q tag of the port after its two addresses (R484). -/
def State.vlanTag (s : State) (p : Nat) (f : List Nat) : List Nat :=
  if s.on (K.ethVlanEnable p) then
    f.take 12 ++ [0x81, 0x00] ++ beBytes 2 (s.rd (K.ethVlanPcp p) * 8192 + s.rd (K.ethVlanId p)) ++ f.drop 12
  else f

/-- A frame leaves the port. -/
def State.sendFrame (s : State) (p : Nat) (f : List Nat) : State :=
  { s.inc 64 (K.ethsFramesOut p) with ethOut := s.ethOut ++ [(p, s.vlanTag p f)] }

/-- The port's MAC address. -/
def State.ethMac (s : State) (p : Nat) : List Nat := beBytes 6 (s.rd (K.ethsMacAddress p))

/-- An ARP frame: operation, destination MAC, target MAC and address. -/
def State.arpFrame (s : State) (p op : Nat) (dst target : List Nat) (ip : Nat) : List Nat :=
  dst ++ s.ethMac p ++ [0x08, 0x06, 0, 1, 0x08, 0, 6, 4] ++ beBytes 2 op ++ s.ethMac p ++ beBytes 4 (s.rd (K.ethIpAddress p)) ++
  target ++ beBytes 4 ip

/-- The address a datagram is resolved by (R484): itself in the port's subnet or with no gateway, else the gateway. -/
def State.nextHop (s : State) (p addr : Nat) : Nat :=
  let m := s.rd (K.ethSubnetMask p)
  if (addr &&& m) = (s.rd (K.ethIpAddress p) &&& m) ∨ s.rd (K.ethGateway p) = 0 then addr else s.rd (K.ethGateway p)

/-- An address is in the ARP cache and younger than 60 s. -/
def State.arpKnown (s : State) (p ip : Nat) : Bool :=
  match tfind s.arp (p * 2 ^ 32 + ip) with
  | some e => Nat.blt s.now (e.2 + ms 60000)
  | none => false

/-- The entries of a port. -/
def State.arpEntries (s : State) (p : Nat) : List (Nat × Nat × Nat) := s.arp.filter fun e => e.1 / 2 ^ 32 == p

/-- The key of the oldest of some entries. -/
def arpOldest : List (Nat × Nat × Nat) → Nat
  | [] => 0
  | [e] => e.1
  | e :: f :: l => let k := arpOldest (f :: l)
                   if (f :: l).all fun x => Nat.ble e.2.2 x.2.2 then e.1 else k

/-- Learn an address; the 65th replaces the oldest (R484). -/
def State.arpLearn (s : State) (p ip mac : Nat) : State :=
  let k := p * 2 ^ 32 + ip
  let t := if (tfind s.arp k).isNone ∧ 64 ≤ (s.arpEntries p).length then terase s.arp (arpOldest (s.arpEntries p)) else s.arp
  { s with arp := tput t k (mac, s.now) }

/-- A unicast destination that is not in the cache is asked for (R484). -/
def State.resolve (s : State) (p addr : Nat) : State :=
  let ip := s.nextHop p addr
  if addr / 2 ^ 28 = 0xE ∨ s.arpKnown p ip then s
  else s.sendFrame p (s.arpFrame p 1 (List.replicate 6 255) (List.replicate 6 0) ip)

/-- Send a UDP datagram. -/
def State.udpSend (s : State) (d : UdpOut) : State :=
  let s := s.resolve d.eth d.addr
  { s.inc 64 (K.ethsFramesOut d.eth) with udpOut := s.udpOut ++ [d] }

end Sys2Proof.Machine
end

