-- ==== Sys2Proof/Machine/Prism.lean ====
section
/-! DEFINITION. Prism, the image pipes (R132 to R151): rounds, the correction of a line with its context's parameters, band
statistics, bands, and replay. -/

namespace Sys2Proof.Machine

/-- The record of a context. -/
def State.ctx (s : State) (n : Nat) : Ctx := tget {} s.ctxs n

/-- Set the record of a context. -/
def State.setCtx (s : State) (n : Nat) (c : Ctx) : State := { s with ctxs := tput s.ctxs n c }

/-- Samples per pixel: 2 for DUAL (R132). -/
def State.samplesPer (s : State) (n : Nat) : Nat := if s.rd (K.ctxMergeMode n) = 1 then 2 else 1

/-- W of R152: pixels of a row. -/
def State.ctxW (s : State) (n : Nat) : Nat := s.rd (K.camLineLength n) / (s.rd (K.camRowsPerLine n) * s.samplesPer n)

/-- A U32 of a live DOMAIN. -/
def State.dom32 (s : State) (k i : Nat) : Nat := s.domLe k (4 * i) 4

/-! ### Shape (R146) -/

/-- The shape agrees with the channel's LineLength and RowsPerLine in force (R140, R143, R152). -/
def State.shapeOk (s : State) (n : Nat) : Bool :=
  let rows := s.rd (K.camRowsPerLine n)
  let w := s.ctxW n
  ((s.rd (K.ctxDemosaicMode n) == 2) == (rows == 1)) &&
  (s.rd (K.ctxMergeMode n) != 1 || (s.rd (K.camLineLength n) / rows) % 2 == 0) &&
  (!s.on (K.ctxFlatEnable n) || s.domLen (K.ctxFlatTable n) == 4 * w * rows) &&
  (!s.on (K.ctxLinEnable n) || s.domLen (K.ctxLinTable n) == 8192) &&
  (List.range (s.rd (K.ctxDefectCount n))).all fun i => Nat.blt (s.dom32 (K.ctxDefectMap n) i % 65536) (w * rows)

/-- Check the shape; a disagreement puts the context in SHAPE_MISMATCH, and only the apply of a commit whose tables fit ends
it (`apply`). No check is made while the channel's LineLength is 0. -/
def State.checkShape (s : State) (n : Nat) (apply : Bool) : State :=
  if s.rd (K.camLineLength n) = 0 then s
  else if s.shapeOk n then
    if s.rd (K.ctxsContextState n) = 2 ∧ ¬ apply then s
    else s.wr (K.ctxsContextState n) (if s.replaying n then 3 else 1)
  else if s.rd (K.ctxsContextState n) = 2 then s
  else ((s.wr (K.ctxsContextState n) 2).flag (K.ctxsStatus n) 1 72).raise (Ev.prsShape n)

/-! ### Correction of a line (R135 to R144) -/

/-- A row of linearised samples. -/
def State.linRow (s : State) (n : Nat) (data : List Nat) (row : Nat) : List Int :=
  let w := s.ctxW n * s.samplesPer n
  let lin := if s.on (K.ctxLinEnable n) then (List.range 4096).map fun i => s.domLe (K.ctxLinTable n) (2 * i) 2 else []
  ((data.drop (row * w)).take w).map (linearise (s.on (K.ctxLinEnable n)) (s.rd (K.camSampleBits n)) lin)

/-- M of one pixel of a dual-sample row (R136). -/
def State.dualPixel (s : State) (n : Nat) (row : List Int) (c : Nat) : Int :=
  let a := nthI row (2 * c)
  let b := nthI row (2 * c + 1)
  let long := if s.rd (K.ctxDualOrder n) = 0 then b else a
  let short := if s.rd (K.ctxDualOrder n) = 0 then a else b
  mergeExposures (s.rd (K.ctxExposureRatio n)) (s.rd (K.ctxKneeLow n)) (s.rd (K.ctxKneeHigh n)) long short

/-- M of one pixel of line k from its own value and the estimate of the other exposure (R136, R137). -/
def State.altPixel (s : State) (n : Nat) (long : Bool) (own : Int) (other : Option Int) : Int :=
  let k := s.rd (K.ctxExposureRatio n)
  match other with
  | some e => mergeExposures k (s.rd (K.ctxKneeLow n)) (s.rd (K.ctxKneeHigh n)) (if long then own else e) (if long then e else own)
  | none => if long then own else shortScaled k own

/-- The line of a neighbour, when it is of the same band and next in k. -/
def altNeighbour (x : CLine) (d : Int) : Option CLine → Option CLine
  | some y => if y.band = x.band ∧ y.k = x.k + d then some y else none
  | none => none

/-- The merged rows of a line: OFF, DUAL, or ALTERNATE with its neighbours (R136, R137). -/
def State.mergedRow (s : State) (n : Nat) (x : CLine) (prev next : Option CLine) (row : Nat) : List Int :=
  let own := s.linRow n x.data row
  match s.rd (K.ctxMergeMode n) with
  | 0 => own.map fun l => 16 * l
  | 1 => (List.range (s.ctxW n)).map (s.dualPixel n own)
  | _ =>
    let p := (altNeighbour x (-1) prev).map fun y => s.linRow n y.data row
    let q := (altNeighbour x 1 next).map fun y => s.linRow n y.data row
    let long := decide (x.k % 2 = s.rd (K.ctxLongParity n))
    (List.range own.length).map fun c =>
      s.altPixel n long (nthI own c) (neighbourMean (p.map fun r => nthI r c) (q.map fun r => nthI r c))

/-- The lamp gain of a sample's colour (R138); a mono context uses LampGainG. -/
def State.lampGain (s : State) (n row col : Nat) : Nat :=
  if s.rd (K.camRowsPerLine n) = 1 then s.rd (K.lampLampGainG n)
  else
    match mosaicColour (s.rd (K.ctxMosaicPhase n)) row col with
    | 0 => s.rd (K.lampLampGainR n)
    | 1 => s.rd (K.lampLampGainG n)
    | _ => s.rd (K.lampLampGainB n)

/-- Flat-field correction of a row (R138). -/
def State.flatRow (s : State) (n row : Nat) (m : List Int) : List (Int × Nat) :=
  let en := s.on (K.ctxFlatEnable n)
  (List.range m.length).map fun c =>
    flatField (if en then s.dom32 (K.ctxFlatTable n) (row * m.length + c) else flatUnity) (s.lampGain n row c) (nthI m c)

/-- The defect map's entries of a row, as column and Method (R139). -/
def State.rowDefects (s : State) (n row w : Nat) : List (Nat × Nat) :=
  (List.range (s.rd (K.ctxDefectCount n))).filterMap fun i =>
    let v := s.dom32 (K.ctxDefectMap n) i
    let ix := v % 65536
    if ix / w = row then some (ix % w, v / 2 ^ 30) else none

/-- A corrected line: its pixels and the clamps of R138 and R144. -/
def State.correct (s : State) (n : Nat) (x : CLine) (prev next : Option CLine) : List Px × Nat :=
  let rows := s.rd (K.camRowsPerLine n)
  let w := s.ctxW n
  let flat (r : Nat) := s.flatRow n r (s.mergedRow n x prev next r)
  let row (f : List (Int × Nat)) (r : Nat) := replaceDefects rows (values f) (s.rowDefects n r w)
  let f0 := flat 0
  if rows = 1 then ((row f0 0).map fun v => { r := v, g := v, b := v }, clamps f0)
  else
    let f1 := flat 1
    let r0 := row f0 0
    let r1 := row f1 1
    let px := (List.range w).map
      (demosaic (s.rd (K.ctxMosaicPhase n)) w (s.rd (K.ctxDemosaicMode n) == 1) (s.rd (K.ctxEdgeBias n)) r0 r1)
    let c := (List.range 9).map fun i => s.rdI 16 (K.ctxC n i)
    let off := (List.range 3).map fun i => s.rdI 32 (K.ctxOff n i)
    let out := px.map (colourMatrix c off)
    (out.map fun p => p.1, clamps f0 + clamps f1 + (out.map fun p => p.2).sum)

/-! ### A line leaves the pipe (R134, R147, R158, R180) -/

/-- The channel is a member of the stitched line. -/
def State.isMember (s : State) (n : Nat) : Bool := s.bit K.seamMemberMask n && s.rd K.seamWidth != 0

/-- Band bookkeeping for a line that leaves the pipe: first and last k, statistics, generations. -/
def State.bandLine (s : State) (n : Nat) (x : CLine) (g : List Int) (sat : Nat) (member : Bool) : State :=
  let measured := s.bit K.seamStatEnable n
  let pg := s.rd (K.generation (0x2410 + n))
  let lg := s.rd (K.generation (0x2430 + n))
  s.setCam n ((s.cam n).updBand x.band fun b =>
    { b with piped := b.piped - 1, sat := b.sat + sat, width := g.length, prismGen := pg, lampGen := lg,
             firstK := if b.firstK = none then some x.k else b.firstK,
             startT := if b.firstK = none then x.t else b.startT,
             startTime := if b.firstK = none then x.time else b.startTime,
             lastK := x.k,
             lines := if measured then b.lines + 1 else b.lines,
             zones := if measured then zonesAdd b.zones g else b.zones,
             seam := if member then b.seam + 1 else b.seam })

/-- A corrected line leaves the pipe: SatCount, the band's measurements, and the resampler. -/
def State.lineOut (s : State) (n : Nat) (x : CLine) (prev next : Option CLine) : State :=
  let out := s.correct n x prev next
  let s := s.inc 64 (K.ctxsLinesProcessed n)
  let s := if out.2 = 0 then s else (s.add 32 (K.ctxsSatCount n) out.2).flag (K.ctxsStatus n) 4 75
  let s := s.bandLine n x (out.1.map fun p => p.g) out.2 (s.isMember n)
  if s.isMember n then
    let r := resample (s.rd (K.memResampleMode n) == 1) (s.rdI 32 (K.memA0 n)) (s.rdI 32 (K.memA1 n)) (s.rdI 32 (K.memA2 n))
      (s.rdI 32 (K.memA3 n)) (s.rd (K.memColCount n)) out.1
    let s := s.add 32 (K.memsOutOfRange n) r.2
    s.setCtx n { s.ctx n with out := (s.ctx n).out ++ [{ k := x.k, t := x.t, time := x.time, band := x.band, cols := r.1 }] }
  else s

/-- PIPE_LINE_DONE (R134, R137): the oldest line read leaves the pipe; in ALTERNATE it goes to the line store, and the line
before it is merged. -/
def pipeLineDone (n : Nat) (s : State) : State :=
  let c := s.ctx n
  match c.pipe with
  | [] => s
  | (x, t) :: l =>
    let s := (s.at t).setCtx n { c with pipe := l }
    if s.rd (K.ctxMergeMode n) ≠ 2 then s.lineOut n x none none
    else
      match c.store with
      | [] => s.setCtx n { s.ctx n with store := [x] }
      | [y] => (s.lineOut n y none (some x)).setCtx n { (s.lineOut n y none (some x)).ctx n with store := [y, x] }
      | p :: y :: _ =>
        (s.lineOut n y (some p) (some x)).setCtx n { (s.lineOut n y (some p) (some x)).ctx n with store := [y, x] }

/-- PIPE_LINE_DONE. -/
def execPipeLineDone (n : Nat) (s : State) : Host.Outcome State Fault Refusal := inst (Nat.blt n 12) (pipeLineDone n s)

/-- The newest line of a store. -/
def lastOf (l : List CLine) : Option CLine := l.getLast?

/-- The record of a pipe. -/
def State.pipe (s : State) (p : Nat) : Pipe := tget {} s.pipes p

/-- FABCLK in which a line of the channel is read: 32 samples each (R132). -/
def State.readLen (s : State) (n : Nat) : Nat := ceilDiv (s.rd (K.camLineLength n)) 32

/-- FLUSH_PASS (R137): once its band has ended or been dropped, the last line of the store is merged from the store; the pass reads for as
long as a line. -/
def flushPass (n : Nat) (s : State) : State :=
  let c := s.ctx n
  match lastOf c.store with
  | none => s
  | some x =>
    let ended : Bool := match (s.cam n).band x.band with | some b => b.ended || b.dropped | none => true
    if ended = true ∧ c.pipe = [] then
      let prev := match c.store with | [p, _] => some p | _ => none
      let s := (s.setCtx n { c with store := [] }).inc 64 (K.pipeLinesProcessed (n / 4))
      let s := s.at (s.pipe (n / 4)).busyTill
      let till := s.now + s.readLen n
      let pr := s.pipe (n / 4)
      let s := { s with pipes := tput s.pipes (n / 4) { pr with busyTill := till, spans := pr.spans ++ [(s.now + 1, till + 1)] } }
      (s.at (till + 48)).lineOut n x prev none
    else s

/-- FLUSH_PASS. -/
def execFlushPass (n : Nat) (s : State) : Host.Outcome State Fault Refusal := inst (Nat.blt n 12) (flushPass n s)

/-! ### Rounds (R133) -/

/-- A pending commit of the context, lamp, replay or member group waits only for its apply: a later band has begun and no line
of an earlier band is left (R145). -/
def State.prismClear (s : State) (n : Nat) (since : Int) : Bool :=
  let c := s.cam n
  (match c.cur with | some b => decide (since < b) | none => false) &&
  !(c.fifo.any fun x => decide (x.band ≤ since)) && !((s.ctx n).pipe.any fun x => decide (x.1.band ≤ since)) &&
  !((s.ctx n).store.any fun x => decide (x.band ≤ since))

/-- The band in progress when the group's pending commit was accepted; −2^63 for none. -/
def State.commitBand (s : State) (idx : Nat) : Int := tget (-(2 ^ 63)) s.commitBands idx

/-- The context waits for an apply and is left out of round snapshots (R145). -/
def State.ctxWaits (s : State) (n : Nat) : Bool :=
  [0x2410 + n, 0x2430 + n, 0x2440 + n, 0x2610 + n].any fun idx =>
    s.rd (K.commit idx) == 1 && s.prismClear n (s.commitBand idx)

/-- Discard the complete lines of a context in SHAPE_MISMATCH (R146). -/
def State.discardLines (s : State) (n : Nat) : State :=
  let c := s.cam n
  let goneOf : Band → Nat := fun x => (c.fifo.filter fun l => l.band == x.b).length
  let bands := c.bands.map fun x =>
    if goneOf x = 0 then x else { x with piped := x.piped - goneOf x, mismatch := true }
  let s := s.setCam n { c with fifo := [], bands := bands }
  (s.add 32 (K.ctxsLinesDiscarded n) c.fifo.length).wr (K.camstFifoFill n) 0

/-- At the first line of a band the shape is checked (R146). -/
def State.bandShape (s : State) (n : Nat) : State :=
  match (s.cam n).fifo with
  | [] => s
  | x :: _ =>
    if (s.ctx n).checked = some x.band then s
    else (s.checkShape n false).setCtx n { s.ctx n with checked := some x.band }

/-- Prepare a context for the snapshot: shape check, and lines of a mismatched context discarded. -/
def State.ctxReady (s : State) (n : Nat) : State :=
  if s.ctxWaits n then s
  else
    let s := s.bandShape n
    if s.rd (K.ctxsContextState n) = 2 ∧ (s.cam n).fifo ≠ [] then s.discardLines n else s

/-- Read one line of each context of a snapshot, back to back from the FABCLK after it (R133, R134). -/
def readRound (p : Nat) : List Nat → State → State
  | [], s => s
  | n :: l, s =>
    match (s.cam n).fifo with
    | [] => readRound p l s
    | x :: f =>
      let pr := s.pipe p
      let start := pr.busyTill + 1
      let till := pr.busyTill + s.readLen n
      let s := s.setCam n { s.cam n with fifo := f }
      let s := s.wr (K.camstFifoFill n) f.length
      let s := s.setCtx n { s.ctx n with pipe := (s.ctx n).pipe ++ [(x, till + 48)] }
      let s := (s.inc 64 (K.pipeLinesProcessed p)).peak (K.pipeMaxWait p) (start - x.stamp)
      let s := (s.wr (K.ctxsBandInProcess n) (ofI 64 x.band)).wr (K.ctxsPrismGeneration n) (s.rd (K.generation (0x2410 + n)))
      let s := { s with pipes := tput s.pipes p { pr with busyTill := till, spans := pr.spans ++ [(start, till + 1)] } }
      readRound p l s

/-- ROUND_OPEN (R133): with the input free, the contexts that hold a complete line and wait for no apply are read in ascending
number. -/
def roundOpen (p : Nat) (s : State) : State :=
  let ns := [4 * p, 4 * p + 1, 4 * p + 2, 4 * p + 3]
  let s := s.at (s.pipe p).busyTill
  let s := ns.foldl State.ctxReady s
  let snap := ns.filter fun n => !(s.cam n).fifo.isEmpty && !s.ctxWaits n
  match snap with
  | [] => s
  | _ =>
    let s := { s with pipes := tput s.pipes p { s.pipe p with busyTill := s.now } }
    (readRound p snap s).inc 64 (K.pipeRounds p)

/-- ROUND_OPEN. -/
def execRoundOpen (p : Nat) (s : State) : Host.Outcome State Fault Refusal := inst (Nat.blt p 3) (roundOpen p s)

/-- FABCLK of a span inside an interval. -/
def overlap (a b : Nat) (sp : Nat × Nat) : Nat := min b sp.2 - max a sp.1

/-- LOAD_INTERVAL_END (R151): at the end of each whole 1 ms since power-on reset, LoadPercent is the busy share of it. -/
def loadIntervalEnd (p : Nat) (s : State) : State :=
  let pr := s.pipe p
  let m := max pr.mark (s.now / 800000 * 800000 - 800000)
  let s := s.at (m + 800000)
  let busy := (pr.spans.map (overlap m (m + 800000))).sum
  let spans := pr.spans.filter fun x => Nat.blt (m + 800000) x.2
  let s := { s with pipes := tput s.pipes p { pr with mark := m + 800000, spans := spans } }
  (s.wr (K.pipeLoadPercent p) (busy * 100 / 800000)).peak (K.pipeLoadPeak p) (busy * 100 / 800000)

/-- LOAD_INTERVAL_END. -/
def execLoadIntervalEnd (p : Nat) (s : State) : Host.Outcome State Fault Refusal := inst (Nat.blt p 3) (loadIntervalEnd p s)

/-! ### The Prism part of a band (R147) -/

/-- PRISM_BAND_DONE (R147): the band has ended and every line of it that was read has left the pipe. -/
def prismBandDone (n : Nat) (s : State) : State :=
  match (s.cam n).bands.find? fun x => x.ended && x.piped == 0 && x.closed.isNone with
  | none => s
  | some x =>
    (s.setCam n ((s.cam n).updBand x.b fun x => { x with closed := some s.time })).raise (Ev.prsBandDone n)

/-- PRISM_BAND_DONE. -/
def execPrismBandDone (n : Nat) (s : State) : Host.Outcome State Fault Refusal := inst (Nat.blt n 12) (prismBandDone n s)

/-! ### Replay (R148, R149) -/

/-- T_k of R95 by the camera generator's settings in force. -/
def State.camGridT (s : State) (n : Nat) (k : Int) : Int :=
  (s.rdI 64 K.whlOrigin + s.rdI 64 (K.cgenPhase n) + s.rdI 64 (K.cgenOffset n)) * 2 ^ 32 +
    k * ((s.rd (K.cgenPitchWhole n) * 2 ^ 32 + s.rd (K.cgenPitchFrac n) : Nat) : Int)

/-- Samples of the FIFO format in bytes (R117). -/
def samplesOf (l : List Nat) : Nat → List Nat
  | 0 => []
  | n + 1 => leAt l 0 2 :: samplesOf (l.drop 2) n

/-- Replay has ended: triggers that wait for a line are ignored, and the band in progress has its last line (R149). -/
def State.replayOver (s : State) (n : Nat) : State :=
  s.setCam n { s.cam n with list := [], bands := (s.cam n).bands.map fun x => { x with waiting := 0 } }

/-- Read the next replay line from DRAM into the FIFO, where a line of a dropped band does not enter (R118); after ReplayLines lines the
reader starts again or stops. -/
def State.replayRead (s : State) (n : Nat) (k t : Int) (time : Nat) : State :=
  let i := s.rd (K.ctxsReplayNext n)
  let len := s.rd (K.camLineLength n)
  let r := s.blockRead 11 (s.rd (K.repReplayBase n) + i * s.rd (K.repReplayStride n)) (2 * len)
  let s := r.2
  let b := (s.cam n).bandOf k
  let s := s.setCam n ((s.cam n).updBand b fun x => { x with waiting := x.waiting - 1 })
  let takes : Bool := match (s.cam n).band b with | some x => !x.dropped | none => false
  let s := if takes then s.fifoPut n { k := k, t := t, time := time, band := b, data := samplesOf r.1 len, stamp := s.now } else s
  let s := s.setCtx n { s.ctx n with replayAt := some s.now, replayK := some (k + 1) }
  if i + 1 < s.rd (K.repReplayLines n) then s.wr (K.ctxsReplayNext n) (i + 1)
  else
    let s := s.wr (K.ctxsReplayNext n) 0
    if s.on (K.repReplayLoop n) then s
    else (((s.setCtx n { s.ctx n with replayEnd := true }).replayOver n).flag (K.ctxsStatus n) 16 74).raise (Ev.prsReplayEnd n)

/-- The FIFO has a free slot. -/
def State.fifoFree (s : State) (n : Nat) : Bool := Nat.blt (s.cam n).fifo.length (s.rd (K.camFifoLines n))

/-- REPLAY_LINE (R149): at TRIGGER pace for the oldest trigger, at PERIOD every ReplayPeriod FABCLK, at FREE whenever the FIFO has
a free slot. -/
def replayLine (n : Nat) (s : State) : State :=
  if ¬ s.replaying n ∨ (s.dev ≠ stRunning ∧ s.dev ≠ stDraining) ∨ (s.ctx n).replayEnd ∨ s.camState n = camDisabled then s
  else if s.rd (K.repReplayPace n) = 0 then
    match (s.cam n).list with
    | [] => s
    | e :: l => if s.fifoFree n then (s.setCam n { s.cam n with list := l }).replayRead n e.k e.t e.time else s
  else
    let period := s.rd (K.repReplayPace n) = 1
    let s := if period then s.at (match (s.ctx n).replayAt with | some t => t + s.rd (K.repReplayPeriod n) | none => 0) else s
    let k := (s.ctx n).replayK.getD (s.rdI 64 (K.repReplayStartK n))
    if s.fifoFree n then (s.camRaised n k true).replayRead n k (s.camGridT n k) s.time
    else if period then
      let s := s.camRaised n k true
      let s := ((s.flag (K.camstStatus n) 16 67).dropBand n ((s.cam n).bandOf k))
      s.setCtx n { s.ctx n with replayAt := some s.now, replayK := some (k + 1) }
    else s

/-- REPLAY_LINE. -/
def execReplayLine (n : Nat) (s : State) : Host.Outcome State Fault Refusal := inst (Nat.blt n 12) (replayLine n s)

/-- A replay group applies, or a run starts: the reader begins at line 0 (R149). -/
def State.replayRestart (s : State) (n : Nat) : State :=
  (s.setCtx n { s.ctx n with replayK := none, replayAt := none, replayEnd := false }).wr (K.ctxsReplayNext n) 0

/-- A context, lamp or replay group of CAMn applies (R145, R146, R156). -/
def State.prismApply (s : State) (n : Nat) : State := (s.checkShape n true).raise (Ev.prsApply n)

end Sys2Proof.Machine
end

