-- ==== Sys2Proof/Machine/Seam.lean ====
section
/-! DEFINITION. The Seam unit's pairing and layout, the coding output, windows, Lantern views and band records (R161 to R183).
What a ready line does when it is emitted stands in Emit. -/

namespace Sys2Proof.Machine

/-- The black pixel. -/
def black : Px := { r := 0, g := 0, b := 0 }

/-! ### Members (R161, R162, R166 to R168) -/

/-- The channel has dropped line k: its band is dropped and the line was not accepted before (R118, R162). -/
def State.lineDropped (s : State) (n : Nat) (k : Int) : Bool :=
  let c := s.cam n
  match c.band (c.bandOf k) with
  | some b =>
    b.dropped && !(c.fifo.any fun x => x.k == k) && !((s.ctx n).pipe.any fun x => x.1.k == k) &&
    !((s.ctx n).store.any fun x => x.k == k) && !((s.ctx n).out.any fun x => x.k == k)
  | none => false

/-- Member n is expected for stitched line j (R162). -/
def State.expected (s : State) (n : Nat) (j : Int) : Bool :=
  s.isMember n && s.camState n == camActive &&
  (s.rd (K.ctxsContextState n) == 1 || s.rd (K.ctxsContextState n) == 3) && s.gridFits n &&
  !s.lineDropped n (j + s.rdI 32 (K.memLineShift n))

/-- MemberState of R187. -/
def State.memberState (s : State) (n : Nat) : Nat :=
  if ¬ s.isMember n then 0
  else if ¬ s.gridFits n then 3
  else if s.camState n = camActive ∧ (s.rd (K.ctxsContextState n) = 1 ∨ s.rd (K.ctxsContextState n) = 3) then 1 else 2

/-- Show every MemberState. -/
def State.showMembers (s : State) : State :=
  (List.range 12).foldl (fun s n => s.wr (K.memsMemberState n) (s.memberState n)) s

/-- Members in order of ColStart (R166). -/
def State.layout (s : State) : List Nat :=
  sortBy (fun n => (s.rd (K.memColStart n) : Int)) s.members

/-- A member covers a column. -/
def State.covers (s : State) (x n : Nat) : Bool :=
  Nat.ble (s.rd (K.memColStart n)) x && Nat.blt x (s.rd (K.memColStart n) + s.rd (K.memColCount n))

/-- A column of a member's line. -/
def MLine.at_ (m : MLine) (start x : Nat) : Px := m.cols.getD (x - start) black

/-- BLEND's weight q of the right member (R167). -/
def blendWeight (width : Nat) (t : Int) : Nat :=
  if t < 0 then 0 else if (width : Int) ≤ t then 65536 else (2 * t.toNat + 1) * 32768 / width

/-- A blended value (R167). -/
def blendValue (q : Nat) (l r : Int) : Int := sra (l * ((65536 - q : Nat) : Int) + r * q + 32768) 16

/-- A column in the overlap of seam i, both members present (R167, R168). -/
def State.overlapPx (s : State) (i left right x : Nat) (pl pr : MLine) : Px × Nat :=
  let l := pl.at_ (s.rd (K.memColStart left)) x
  let r := pr.at_ (s.rd (K.memColStart right)) x
  let c := s.rd (K.memColStart right) + s.rd (K.smSeamCentre i)
  if s.rd (K.smSeamMode i) = 1 then (if x < c then (l, left) else (r, right))
  else
    let q := blendWeight (s.rd (K.smBlendWidth i)) ((x : Int) - ((c - s.rd (K.smBlendWidth i) / 2 : Nat) : Int))
    ({ r := blendValue q l.r r.r, g := blendValue q l.g r.g, b := blendValue q l.b r.b }, if q = 0 then left else right)

/-- Position of an element in a list. -/
def indexIn (n : Nat) : List Nat → Nat
  | [] => 0
  | m :: l => if m = n then 0 else indexIn n l + 1

/-- The pixel of stitched column x and its source member, 255 where FillValue stands (R168). -/
def State.stitchPx (s : State) (lay : List Nat) (parts : List (Nat × MLine)) (x : Nat) : Px × Nat :=
  let fill : Int := s.rd K.seamFillValue
  match lay.filter (s.covers x) with
  | [n] =>
    match tfind parts n with
    | some m => (m.at_ (s.rd (K.memColStart n)) x, n)
    | none => ({ r := fill, g := fill, b := fill }, 255)
  | l :: r :: _ =>
    match tfind parts l, tfind parts r with
    | some a, some b => s.overlapPx (indexIn l lay) l r x a b
    | some a, none => (a.at_ (s.rd (K.memColStart l)) x, l)
    | none, some b => (b.at_ (s.rd (K.memColStart r)) x, r)
    | none, none => ({ r := fill, g := fill, b := fill }, 255)
  | [] => ({ r := fill, g := fill, b := fill }, 255)

/-- W_ref of R161 in 2^−32 POS, by the lowest-numbered member's generator. -/
def State.wRef (s : State) (j : Int) : Int :=
  let m := s.members.headD 0
  (s.rdI 64 K.whlOrigin + s.rdI 64 (K.cgenPhase m)) * 2 ^ 32 + j * s.camPitch m

/-- The stitched line an open line makes (R168, R169). -/
def State.stitch (s : State) (x : SLine) : Stitched :=
  let lay := s.layout
  let cols := (List.range (s.rd K.seamWidth)).map (s.stitchPx lay x.parts)
  { s := x.s, w := s.wRef x.s, time := s.time,
    present := (x.parts.map fun p => 2 ^ p.1).foldl (· ||| ·) 0,
    missing := s.members.any fun n => s.expected n x.s && (tfind x.parts n).isNone,
    cols := cols.map fun p => p.1, sources := cols.map fun p => p.2 }

/-- Bytes of a stitched column in the vision format (R170, R174). -/
def State.visionBytes (s : State) (p : Px) : List Nat :=
  if s.rd K.seamVisionFormat = 0 then leBytes 2 p.r.toNat ++ leBytes 2 p.g.toNat ++ leBytes 2 p.b.toNat
  else leBytes 2 (sra (p.r * s.rd K.seamMonoWeightR + p.g * s.rd K.seamMonoWeightG + p.b * s.rd K.seamMonoWeightB + 32768)
    16).toNat

/-- Bytes of a column in the vision format. -/
def State.visionSize (s : State) : Nat := if s.rd K.seamVisionFormat = 0 then 6 else 2

/-! ### Deadlines (R163) -/

/-- SEAM_DEADLINE (R163): SeamWait FABCLK after the oldest line without a passed deadline opened. -/
def seamDeadline (s : State) : State :=
  match s.seam.opens.find? fun x => !x.late with
  | none => s
  | some x =>
    let s := s.at (x.since + s.rd K.seamSeamWait)
    { s with seam := { s.seam with opens := s.seam.opens.map fun y => if y.s = x.s then { y with late := true } else y } }

/-- SEAM_DEADLINE. -/
def execSeamDeadline (s : State) : Host.Outcome State Fault Refusal := .next (seamDeadline s)

/-- An open line is ready: its deadline has passed, or every member still expected has completed it. -/
def State.lineReady (s : State) (x : SLine) : Bool :=
  x.late || s.members.all fun n => !s.expected n x.s || (tfind x.parts n).isSome

/-- The Seam unit has done with a member's line: emitted or discarded (R181). -/
def State.seamDone (s : State) (n : Nat) (band : Int) (late : Bool) : State :=
  s.setCam n ((s.cam n).updBand band fun b => { b with seam := b.seam - 1, late := if late then b.late + 1 else b.late })

/-! ### Descriptors (R183) -/

/-- A stitched line joins what a descriptor collects. -/
def Desc.add (d : Desc) (x : Stitched) : Desc :=
  { d with first := if d.first = none then some (x.s, x.time / 65536) else d.first, missing := d.missing || x.missing }

/-- The bytes of a descriptor (R183). -/
def descBytes (kind unit : Nat) (partly skipped : Bool) (lines firstLine : Nat) (d : Desc) : List Nat :=
  [kind, unit] ++ leBytes 2 (b2n d.gap + 2 * b2n partly + 4 * b2n skipped + 8 * b2n d.missing) ++ leBytes 4 lines ++
  leBytes 8 firstLine ++ leBytes 8 (ofI 64 ((d.first.map fun f => f.1).getD 0)) ++ leBytes 8 ((d.first.map fun f => f.2).getD 0)

/-! ### Coding output (R171 to R173) -/

/-- Output width Wc. -/
def State.codWidth (s : State) : Nat := 2 * (s.rd K.seamWidth / (2 * s.rd K.codCodingScale))

/-- Add the columns of a stitched line, `n` to a sum. -/
def sumCols (n : Nat) : Nat → List Px → List Px → List Px
  | 0, _, _ => []
  | w + 1, cols, sums =>
    let g := cols.take n
    let t := g.foldl (fun a p => { r := a.r + p.r, g := a.g + p.g, b := a.b + p.b }) (sums.headD black)
    t :: sumCols n w (cols.drop n) sums.tail

/-- (sum + n / 2) / n of R171 and R175. -/
def meanOf (sum : Int) (n : Nat) : Nat := (sum.toNat + n / 2) / n

/-- Y, Cb and Cr of BT.709 limited range from E values of 12 bits (R171), rounded half up; `m` is 1 at 8 bits and 4 at 10. -/
def ycc (m r g b : Nat) : Int × Int × Int :=
  let y : Int := 2126 * r + 7152 * g + 722 * b
  let half (num : Int) (den : Nat) : Int := floorDiv (2 * num + den) (2 * den)
  (16 * m + half (219 * m * y) 40950000, 128 * m + half (224 * m * (10000 * b - y)) (4095 * 18556),
   128 * m + half (224 * m * (10000 * r - y)) (4095 * 15748))

/-- E of a 16-bit value by CodingCurve. -/
def State.codingE (s : State) (v : Nat) : Nat := s.domLe K.codCodingCurve (2 * (v / 16)) 2

/-- The samples of an output line, by column; black where no stitched line was present. -/
def State.codingPixels (s : State) (c : Coding) : List (Int × Int × Int) :=
  let m := if s.rd K.codCodingDepth = 0 then 1 else 4
  let n := s.rd K.codCodingScale * c.n
  (List.range s.codWidth).map fun i =>
    if c.n = 0 then ycc m 0 0 0
    else
      let p := c.sums.getD i black
      ycc m (s.codingE (meanOf p.r n)) (s.codingE (meanOf p.g n)) (s.codingE (meanOf p.b n))

/-- A sample in memory (R172). -/
def State.codingSample (s : State) (v : Int) : List Nat :=
  if s.rd K.codCodingDepth = 0 then [v.toNat % 256] else leBytes 2 (v.toNat * 64)

/-- Averages of two chroma rows over 2 × 2 blocks (R171). -/
def chromaBlocks : List (Int × Int) → List (Int × Int) → List (Int × Int)
  | a :: b :: l, c :: d :: m => (sra (a.1 + b.1 + c.1 + d.1 + 2) 2, sra (a.2 + b.2 + c.2 + d.2 + 2) 2) :: chromaBlocks l m
  | _, _ => []

/-- Write an output line's luma, and the chroma of its pair when it is the second. -/
def State.codingWrite (s : State) (c : Coding) (px : List (Int × Int × Int)) : State :=
  let ring := s.rd K.codCodingRingLines
  let stride := s.rd K.codCodingStride
  let base := s.rd K.codCodingBase
  let s := s.blockWrite 4 (base + c.j % ring * stride) (px.flatMap fun p => s.codingSample p.1)
  if c.j % 2 = 0 then s
  else
    let blocks := chromaBlocks c.chroma (px.map fun p => p.2)
    s.blockWrite 4 (base + ring * stride + (c.j - 1) % ring / 2 * stride)
      (blocks.flatMap fun p => s.codingSample p.1 ++ s.codingSample p.2)

/-- A chunk ends (R173): its descriptor and COD_CHUNK, or it was dropped. -/
def State.codingChunk (s : State) (d : Desc) (first : Nat) (dropped : Bool) : State :=
  if dropped then (((s.inc 32 K.codsChunksDropped).flag K.codsCodingStatus 1 79)).raise Ev.codOverrun
  else
    let s := (s.offerTo (s.rd K.codCodingQueue) (descBytes 1 0 false false (s.rd K.codCodingChunk) first d)).2
    (s.arrive 80).raise Ev.codChunk

/-- Finish the output line being averaged. A chunk that would overwrite a line at or above CodingReadLine is not written. -/
def State.codingFinish (s : State) : State :=
  let c := s.coding
  let chunk := s.rd K.codCodingChunk
  let gap := c.n = 0
  let s := if gap then s.wr K.codsCodingStatus (setBits (s.rd K.codsCodingStatus) 2) else s
  let drop := if c.j % chunk = 0 then Nat.ble (s.rd K.codsCodingReadLine + s.rd K.codCodingRingLines + 1) (c.j + chunk) else c.dropped
  let px := s.codingPixels c
  let s := if drop then s else s.codingWrite c px
  let d : Desc := { c.desc with gap := c.desc.gap || decide gap }
  let stop := (c.j + 1) % chunk = 0
  let s := if stop then s.codingChunk d (c.j + 1 - chunk) drop else s
  { s.wr K.codsCodingWriteLine (c.j + 1) with
    coding := { c with j := c.j + 1, sums := [], n := 0, chroma := px.map fun p => p.2, dropped := drop,
                       desc := if stop then {} else d } }

/-- Finish `m` output lines. -/
def codingFinishes : Nat → State → State
  | 0, s => s
  | m + 1, s => codingFinishes m s.codingFinish

/-- A stitched line reaches the coding output. -/
def State.codingLine (s : State) (x : Stitched) : State :=
  if ¬ s.on K.codCodingEnable then s
  else
    let sc := s.rd K.codCodingScale
    let s0 := s.coding.s0.getD x.s
    let j := ((x.s - s0).toNat) / sc
    let s := codingFinishes (j - s.coding.j) { s with coding := { s.coding with s0 := some s0 } }
    let c := s.coding
    let s := { s with coding := { c with sums := sumCols sc s.codWidth x.cols c.sums, n := c.n + 1, desc := c.desc.add x } }
    if (x.s - s0).toNat % sc = sc - 1 then s.codingFinish else s

/-! ### Windows (R174) -/

/-- The record of a window. -/
def State.win (s : State) (w : Nat) : Win := tget {} s.wins w

/-- Set the record of a window. -/
def State.setWin (s : State) (w : Nat) (x : Win) : State := { s with wins := tput s.wins w x }

/-- A window has written the lines of a descriptor. -/
def State.winDone (s : State) (w : Nat) : State :=
  let x := s.win w
  let s := (s.offerTo (s.rd (K.winWinQueue w)) (descBytes 2 w false false x.count x.first x.desc)).2
  let s := s.setWin w { x with count := 0, desc := {} }
  if s.rd (K.winWinMode w) = 2 then
    ((s.wr (K.winsWinStatus w) (clearBits (s.rd (K.winsWinStatus w)) 2)).arrive 81).raise (Ev.winDone w)
  else s

/-- A stitched line reaches a window. -/
def State.winLine (x : Stitched) (s : State) (w : Nat) : State :=
  let mode := s.rd (K.winWinMode w)
  if mode = 0 then s
  else
    let r := s.win w
    let s0 := r.s0.getD x.s
    let s := s.setWin w { r with s0 := some s0 }
    if (x.s - s0).toNat % s.rd (K.winDecimate w) ≠ 0 ∨ (mode = 2 ∧ r.left = 0) then s
    else
      let j := s.rd (K.winsWinLine w)
      let px := (x.cols.drop (s.rd (K.winColFirst w))).take (s.rd (K.winColCount w))
      let s := s.blockWrite 4 (s.rd (K.winBase w) + j % s.rd (K.winRingLines w) * s.rd (K.winStride w)) (px.flatMap s.visionBytes)
      let s := s.inc 64 (K.winsWinLine w)
      let r := s.win w
      let s := s.setWin w { r with left := r.left - 1, count := r.count + 1, first := if r.count = 0 then j else r.first,
                                   desc := r.desc.add x }
      if r.count + 1 = s.rd (K.winCaptureLines w) then s.winDone w else s

/-- WIN_START (R174): a delivery at WINw_START begins a capture of CaptureLines lines; during a capture it is lost. -/
def winStart (w : Nat) (s : State) : State :=
  match s.takeTask (2 + w) with
  | none => s
  | some (_, s) =>
    if s.rd (K.winWinMode w) = 2 ∧ (s.win w).left = 0 then
      (s.setWin w { s.win w with left := s.rd (K.winCaptureLines w), count := 0, desc := {} }).wr (K.winsWinStatus w)
        (setBits (s.rd (K.winsWinStatus w)) 2)
    else if s.rd (K.winWinMode w) = 2 then s.flag (K.winsWinStatus w) 1 81
    else s

/-- A window group applies (R174): the window counts from the next stitched line, and waits for its START. -/
def State.winApply (s : State) (w : Nat) : State :=
  (s.setWin w {}).wr (K.winsWinStatus w) (clearBits (s.rd (K.winsWinStatus w)) 2)

/-- WIN_START. -/
def execWinStart (w : Nat) (s : State) : Host.Outcome State Fault Refusal := inst (Nat.blt w 2) (winStart w s)

/-! ### Lantern (R175 to R179) -/

/-- The record of a view. -/
def State.view (s : State) (v : Nat) : View := tget {} s.views v

/-- Set the record of a view. -/
def State.setView (s : State) (v : Nat) (x : View) : State := { s with views := tput s.views v x }

/-- Output codes: the view writes its ring; the view sends RTP. -/
def State.viewRing (s : State) (v : Nat) : Bool := s.rd (K.viewOutput v) == 1 || s.rd (K.viewOutput v) == 3
def State.viewRtp (s : State) (v : Nat) : Bool := s.rd (K.viewOutput v) == 2 || s.rd (K.viewOutput v) == 3

/-- First stitched column, and the number there are, of view column c (R175). -/
def State.viewCol (s : State) (v c : Nat) : Nat × Nat :=
  let sx := s.rd (K.viewScaleX v)
  let a := s.rd (K.viewColFirst v) + c * sx / 256
  let b := s.rd (K.viewColFirst v) + (c + 1) * sx / 256
  (a, min b (s.rd K.seamWidth) - a)

/-- First stitched line of view line j, from s0 (R175). -/
def State.viewFirst (s : State) (v j : Nat) : Nat := j * s.rd (K.viewScaleY v) / 256

/-- Sums of a stitched line by view column, with the samples of each. -/
def State.viewSums (s : State) (v : Nat) (x : Stitched) (sums : List (Px × Nat)) : List (Px × Nat) :=
  (List.range (s.rd (K.viewColumns v))).map fun c =>
    let r := s.viewCol v c
    let old := sums.getD c (black, 0)
    let t := ((x.cols.drop r.1).take r.2).foldl (fun a p => { r := a.r + p.r, g := a.g + p.g, b := a.b + p.b }) old.1
    (t, old.2 + r.2)

/-- sRGB encoding of a 16-bit value (R175). -/
def State.viewByte (s : State) (v : Nat) (x : Nat) : Int := srgb 255 (min 4095 (x * 4096 / (s.rd (K.viewWhiteLevel v) + 1)))

/-- The pixels of the view line averaged so far. -/
def State.viewPixels (s : State) (v : Nat) (sums : List (Px × Nat)) : List Px :=
  (List.range (s.rd (K.viewColumns v))).map fun c =>
    let p := sums.getD c (black, 0)
    if p.2 = 0 then black
    else { r := s.viewByte v (meanOf p.1.r p.2), g := s.viewByte v (meanOf p.1.g p.2), b := s.viewByte v (meanOf p.1.b p.2) }

/-- The colour a box gives to a pixel of its outline (R179). -/
def boxHit (th c j : Nat) (b : VBox) : Bool :=
  Nat.ble b.c0 c && Nat.ble c b.c1 && Nat.ble b.j0 j && Nat.ble j b.j1 &&
  (Nat.blt j (b.j0 + th) || Nat.blt b.j1 (j + th) || Nat.blt c (b.c0 + th) || Nat.blt b.c1 (c + th))

/-- A pixel with the boxes drawn over it; a later box is drawn over an earlier one. -/
def drawPx (th j : Nat) (boxes : List VBox) (c : Nat) (p : Px) : Px :=
  boxes.foldl (fun q b => if boxHit th c j b then { r := field b.colour 23 16, g := field b.colour 15 8, b := field b.colour 7 0 }
    else q) p

/-- Draw boxes into a view line. -/
def drawLine (th j : Nat) (boxes : List VBox) : Nat → List Px → List Px
  | _, [] => []
  | c, p :: l => drawPx th j boxes c p :: drawLine th j boxes (c + 1) l

/-- Bytes of view pixels: R, G, B. -/
def pxBytes (l : List Px) : List Nat := l.flatMap fun p => [p.r.toNat % 256, p.g.toNat % 256, p.b.toNat % 256]

/-- An RTP packet of RFC 4175 (R177): 12-byte header, upper sequence, one line header, and the pixels. -/
def rtpPacket (pt ssrc seq ts row off : Nat) (marker : Bool) (px : List Px) : List Nat :=
  let d := pxBytes px
  [0x80, pt % 128 + 128 * b2n marker] ++ beBytes 2 (seq % 65536) ++ beBytes 4 ts ++ beBytes 4 ssrc ++
  beBytes 2 (seq / 65536 % 65536) ++ beBytes 2 d.length ++ beBytes 2 (row % 32768) ++ beBytes 2 (off % 32768) ++ d

/-- Send a view packet on its Ethernet port; a port that is not UP drops it (R487). -/
def State.viewSend (s : State) (v : Nat) (bytes : List Nat) : State :=
  let p := s.rd (K.viewPort v)
  if s.ethUp p then
    s.udpSend { eth := p, addr := s.rd (K.viewDestAddress v), udpPort := s.rd (K.viewDestPort v), bytes := bytes,
                src := s.rd (K.viewSourcePort v) }
  else (s.inc 32 (K.ethsViewDrops p)).flag (K.ethsPortStatus p) 4 162

/-- Send a line in packets of 480 pixels. -/
def State.viewPackets (v ts row : Nat) (lastRow : Bool) : Nat → Nat → List Px → State → State
  | 0, _, _, s => s
  | m + 1, off, px, s =>
    let x := s.view v
    let marker := lastRow && m == 0
    let pk := rtpPacket (s.rd (K.viewPayloadType v)) (s.rd (K.viewSsrc v)) x.seq ts row off marker (px.take 480)
    State.viewPackets v ts row lastRow m (off + 480) (px.drop 480) ((s.setView v { x with seq := x.seq + 1 }).viewSend v pk)

/-- A frame ends (R176): its descriptor and LNTv_FRAME. -/
def State.viewFrame (s : State) (v rows : Nat) (partly skip : Bool) : State :=
  let x := s.view v
  let s := (s.offerTo (s.rd (K.viewViewQueue v)) (descBytes 3 v partly skip rows x.outFirst x.out)).2
  ((s.setView v { x with out := {} }).inc 64 (K.viewsFrames v)).raise (Ev.lntFrame v)

/-- Output a finished view line (R176, R177, R179). -/
def State.viewOut (s : State) (v : Nat) (l : VLine) : State :=
  let x := s.view v
  let lines := s.rd (K.viewLines v)
  let px := drawLine (s.rd (K.viewOverlayThickness v)) l.idx x.boxes 0 l.px
  let out : Desc := { first := if x.out.first = none then l.desc.first else x.out.first, gap := x.out.gap || l.desc.gap,
                      missing := x.out.missing || l.desc.missing }
  let s := s.setView v { x with boxes := x.boxes.filter (fun b => Nat.blt l.idx b.j1), out := out,
                                outFirst := if l.row = 0 then l.idx else x.outFirst }
  let s := if s.viewRing v then
      s.blockWrite 4 (s.rd (K.viewRingBase v) + l.frame % s.rd (K.viewRingFrames v) * lines * s.rd (K.viewRingStride v) +
        l.row * s.rd (K.viewRingStride v)) (pxBytes px)
    else s
  let s := if s.viewRtp v ∧ ¬ l.skip then
      State.viewPackets v (l.frameTime * 9 / 100000 % 2 ^ 32) l.row (decide (l.row + 1 = lines)) (ceilDiv px.length 480) 0 px s
    else s
  if l.row + 1 = lines then s.viewFrame v lines false l.skip else s

/-- Output held lines until `keep` remain (R179). -/
def viewDrain (v keep : Nat) : Nat → State → State
  | 0, s => s
  | m + 1, s =>
    let x := s.view v
    match x.held with
    | [] => s
    | l :: r => if x.held.length ≤ keep then s else viewDrain v keep m ((s.setView v { x with held := r }).viewOut v l)

/-- A frame's first line is produced within 16,667 µs of the one before (R178). -/
def State.viewSkips (s : State) (v : Nat) : Bool :=
  s.viewRtp v && (match (s.view v).frameAt with | some t => Nat.blt s.now (t + us 16667) | none => false)

/-- A frame starts with the line about to be produced. -/
def State.viewStart (s : State) (v : Nat) : State :=
  let sk := s.viewSkips v
  let x := s.view v
  let s := s.setView v { x with skip := sk, frameAt := some s.now, frameTime := s.timeNs }
  if sk then ((s.inc 32 (K.viewsFramesSkipped v)).flag (K.viewsViewStatus v) 1 82).raise (Ev.lntSkip v) else s

/-- Finish the view line being averaged. -/
def State.viewFinish (s : State) (v : Nat) : State :=
  let s := if (s.view v).row = 0 then s.viewStart v else s
  let x := s.view v
  let gap := x.n = 0
  let s := if gap then s.wr (K.viewsViewStatus v) (setBits (s.rd (K.viewsViewStatus v)) 8) else s
  let l : VLine := { idx := x.j, frame := x.frame, row := x.row, skip := x.skip, frameTime := x.frameTime,
                     desc := { x.desc with gap := decide gap }, px := s.viewPixels v x.sums }
  let wrap := x.row + 1 = s.rd (K.viewLines v)
  let s := s.setView v { x with j := x.j + 1, sums := [], n := 0, desc := {}, held := x.held ++ [l],
                                row := if wrap then 0 else x.row + 1, frame := if wrap then x.frame + 1 else x.frame }
  viewDrain v (s.rd (K.viewOverlayDelay v)) (x.held.length + 1) (s.inc 64 (K.viewsViewLine v))

/-- Finish `m` view lines. -/
def viewFinishes (v : Nat) : Nat → State → State
  | 0, s => s
  | m + 1, s => viewFinishes v m (s.viewFinish v)

/-- The view line that stitched line `d` from s0 belongs to: the greatest j with floor(j × Sy) ≤ d. -/
def viewLineOf (sy d : Nat) : Nat := ((d + 1) * 256 - 1) / sy

/-- A stitched line reaches a view. -/
def State.viewLine (x : Stitched) (s : State) (v : Nat) : State :=
  if ¬ s.on (K.viewViewEnable v) then s
  else
    let s0 := (s.view v).s0.getD x.s
    let d := (x.s - s0).toNat
    let j := viewLineOf (s.rd (K.viewScaleY v)) d
    let s := viewFinishes v (j - (s.view v).j) (s.setView v { s.view v with s0 := some s0 })
    let r := s.view v
    let s := s.setView v { r with sums := s.viewSums v x r.sums, n := r.n + 1, desc := r.desc.add x }
    if d + 1 = s.viewFirst v (j + 1) then s.viewFinish v else s

/-- A commit of a view group applies (R176): the frame in hand is closed short with PARTIAL, and frame f + 1 starts with the new
settings. `drain` runs before the new settings are live. -/
def State.viewClose (s : State) (v : Nat) : State :=
  let s := viewDrain v 0 ((s.view v).held.length) s
  let x := s.view v
  if x.row = 0 then s else s.viewFrame v x.row true x.skip

/-- The view starts afresh after an apply. -/
def State.viewReset (s : State) (v : Nat) : State :=
  let x := s.view v
  s.setView v { seq := x.seq, frame := if x.row = 0 then x.frame else x.frame + 1, frameAt := x.frameAt }

/-- The view columns whose stitched columns meet a span, first and last (R179). -/
def State.viewColOf (s : State) (v x : Nat) : Nat :=
  let sx := s.rd (K.viewScaleX v)
  if x < s.rd (K.viewColFirst v) then 0 else ((x - s.rd (K.viewColFirst v) + 1) * 256 - 1) / sx

/-- A tag reaches a view (R179): its class's box joins the boxes, or is a bar on the next view line when none of its rows is
unsent. -/
def State.viewTag (cls x0 x1 : Nat) (y0 y1 : Int) (s : State) (v : Nat) : State :=
  let colour := s.domLe K.ovlOverlayColours (4 * (cls % 64)) 4
  let x := s.view v
  if ¬ s.on (K.viewViewEnable v) ∨ ¬ s.on (K.viewOverlayEnable v) ∨ ¬ bitOf colour 31 then s
  else
    match x.s0 with
    | none => s
    | some s0 =>
      let first := s.rd (K.viewColFirst v)
      let c0 := s.viewColOf v x0
      let c1 := min (s.viewColOf v x1) (s.rd (K.viewColumns v) - 1)
      if x1 < first ∨ s.rd (K.viewColumns v) ≤ c0 ∨ y1 < s0 then s
      else
        let sy := s.rd (K.viewScaleY v)
        let j0 := viewLineOf sy (y0 - s0).toNat
        let j1 := viewLineOf sy (y1 - s0).toNat
        let unsent := x.j - x.held.length
        if 256 ≤ x.boxes.length then (s.inc 32 (K.viewsOverlayDropped v)).flag (K.viewsViewStatus v) 2 82
        else
          let b : VBox := if j1 < unsent then { c0 := c0, c1 := c1, j0 := x.j, j1 := x.j, colour := colour }
            else { c0 := c0, c1 := c1, j0 := j0, j1 := j1, colour := colour }
          s.setView v { x with boxes := x.boxes ++ [b] }

/-! ### Band records (R180 to R182) -/

/-- Mean of a zone of `w` columns. -/
def zoneMean (lines w : Nat) (sum : Nat) : Nat := if lines * w = 0 then 0 else sum / (lines * w)

/-- HFRatio of a zone. -/
def zoneRatio (grad lap : Nat) : Nat := if grad = 0 then 0 else min (2 ^ 32 - 1) (lap * 65536 / grad)

/-- The bytes of a zone entry (R182). -/
def zoneBytes (b : Band) (z : Nat) : List Nat :=
  let v := b.zones.getD z (0, 0, 0)
  leBytes 8 v.1 ++ leBytes 8 v.2.1 ++ leBytes 8 v.2.2 ++
  leBytes 4 (zoneMean b.lines ((z + 1) * b.width / 64 - z * b.width / 64) v.1) ++ leBytes 4 (zoneRatio v.2.1 v.2.2)

/-- A TIME field of a format: 8 bytes of nanoseconds and 2 of fraction (R13). -/
def timeBytes (t : Nat) : List Nat := leBytes 8 (t / 65536) ++ leBytes 2 (t % 65536)

/-- The flags of a band record. -/
def recordFlags (b : Band) : Nat :=
  b2n b.mixed + 2 * b2n b.dropped + 4 * b2n b.mismatch + 8 * b2n b.replay + 16 * b2n (b.late != 0) + 32 * b2n (b.lines == 0)

/-- The bytes of a band record (R182). -/
def recordBytes (n : Nat) (b : Band) : List Nat :=
  leBytes 2 0x4252 ++ [1, n] ++ leBytes 2 (recordFlags b) ++ leBytes 2 64 ++ leBytes 8 (ofI 64 b.b) ++
  leBytes 8 (ofI 64 (b.firstK.getD 0)) ++ leBytes 8 (ofI 64 b.lastK) ++ leBytes 8 (ofI 64 (wholePos b.startT)) ++
  leBytes 4 b.lines ++ leBytes 4 b.sat ++ leBytes 4 b.prismGen ++ leBytes 4 b.lampGen ++ leBytes 4 b.camGen ++
  leBytes 4 b.late ++ padTo 16 (timeBytes b.startTime) ++ padTo 16 (timeBytes (b.closed.getD 0)) ++ leBytes 2 b.width ++
  List.replicate 30 0 ++ (List.range 64).flatMap (zoneBytes b)

/-- BAND_RECORD (R181): the Prism part is closed and the Seam unit has done with every line of the band. -/
def bandRecord (n : Nat) (s : State) : State :=
  let c := s.cam n
  match c.bands.find? fun x => x.closed.isSome && x.seam == 0 with
  | none => s
  | some b =>
    let s := s.setCam n { c with bands := c.bands.filter fun x => x.b != b.b }
    match s.offerTo (s.rd K.seamRecordQueue) (recordBytes n b) with
    | (true, s) => s.raise Ev.seamRecord
    | (false, s) => (s.inc 32 K.seamsRecordsLost).flag K.seamsStatus 8 78

/-- BAND_RECORD. -/
def execBandRecord (n : Nat) (s : State) : Host.Outcome State Fault Refusal := inst (Nat.blt n 12) (bandRecord n s)

end Sys2Proof.Machine
end

