-- ==== Sys2Proof/Machine/Reflect.lean ====
section
/-! DEFINITION. What Umbra makes of each pixel of a stitched line (R193 to R200): the plain-web background, Reflection's expected
value, blind columns, scores. -/

namespace Sys2Proof.Machine

/-! ### Columns (R193) -/

/-- X(x), in 2^−16 cross-web units. -/
def State.crossWeb (s : State) (x : Int) : Int := s.rdI 64 K.umbStitchX0 + x * s.rd K.umbStitchPitch

/-- The column lies in UsefulFirst … UsefulLast. -/
def State.usefulCol (s : State) (x : Nat) : Bool := Nat.ble (s.rd K.umbUsefulFirst) x && Nat.ble x (s.rd K.umbUsefulLast)

/-- ReferenceMode is PLAIN; is PRINT. -/
def State.plainWeb (s : State) : Bool := s.rd K.umbReferenceMode == 1
def State.printWeb (s : State) : Bool := s.rd K.umbReferenceMode == 2

/-- The vision output is MONO16. -/
def State.mono (s : State) : Bool := s.rd K.seamVisionFormat == 1

/-- Y of R170. -/
def State.monoY (s : State) (p : Px) : Int :=
  sra (p.r * s.rd K.seamMonoWeightR + p.g * s.rd K.seamMonoWeightG + p.b * s.rd K.seamMonoWeightB + 32768) 16

/-- A pixel as the vision output gives it to Umbra; MONO16's one channel stands in all three. -/
def State.visionPx (s : State) (p : Px) : Px :=
  if s.mono then { r := s.monoY p, g := s.monoY p, b := s.monoY p } else p

/-- W of member n's part of a line whose W_ref is w, as a whole POS value (R161). -/
def State.memberW (s : State) (n : Nat) (w : Int) : Int := wholePos (w + s.rdI 32 (K.memLineShift n) * s.camPitch n)

/-! ### Reflection (R195 to R197) -/

/-- The ring row that slot i reads for a web coordinate. -/
def State.reflRow (s : State) (i : Nat) (w : Int) : Int :=
  floorDiv (w - toI 32 (s.domLe K.reflRegistration (8 * i) 4)) (s.rd K.ringRingRowPitch)

/-- The plane of slot i of ring row j is valid: it has been written since entry to ARMED and lies fewer than RingRows rows behind the
write front (R197, R249). -/
def State.planeValid (s : State) (i : Nat) (j : Int) : Bool :=
  match s.slip.front with
  | none => false
  | some f =>
    decide (j ≤ f) && decide (f - j < s.rd K.ringRingRows) &&
    bitOf (tget 0 s.slip.rows (j % (s.rd K.ringRingRows : Int)).toNat) i

/-- Where plane i of ring row j lies. -/
def State.planeAddr (s : State) (i : Nat) (j : Int) : Nat :=
  s.rd K.ringRingBase + (j % (s.rd K.ringRingRows : Int)).toNat * 8 * s.rd K.ringRingColumns + i * s.rd K.ringRingColumns

/-- C_i[c] of ring row j; a column outside the row reads 0, as does a byte that reaches no store. -/
def State.ringByte (s : State) (i : Nat) (j c : Int) : Nat :=
  if c < 0 ∨ (s.rd K.ringRingColumns : Int) ≤ c then 0
  else
    let a := s.planeAddr i j + c.toNat
    if s.inDram a 1 then (memGet s.mem a).toNat else 0

/-- cov_i at column x for a web coordinate (R195). -/
def State.coverage (s : State) (w : Int) (x i : Nat) : Nat :=
  let j := s.reflRow i w
  if ¬ s.bit K.reflSlotMask i ∨ ¬ s.planeValid i j then 0
  else
    let p := s.rd K.reflRingColPitch
    let num := s.crossWeb x - s.rdI 64 K.reflRingX0 - toI 32 (s.domLe K.reflRegistration (8 * i + 4) 4) * 65536
    let a := floorDiv num p
    let f := ((num - a * p).toNat * 256) / p
    (s.ringByte i j a * (256 - f) + s.ringByte i j (a + 1) * f + 128) / 256

/-- Steps of a search for the greatest n with (2n − 1)^4096 × 2^r ≤ 2^(17 × 4096), by bits from bit k down. -/
def powFrom (r : Nat) : Nat → Nat → Nat
  | 0, n => n
  | k + 1, n => if (2 * (n + 2 ^ k) - 1) ^ 4096 * 2 ^ r ≤ 2 ^ 69632 then powFrom r k (n + 2 ^ k) else powFrom r k n

/-- Pow[r] = round(65,536 × 2^(−r / 4,096)) (R196). -/
def powTab (r : Nat) : Nat := powFrom r 17 0

/-- Absorb[i][ch]. -/
def State.absorb (s : State) (i ch : Nat) : Nat := s.domLe K.reflAbsorb (6 * i + 2 * ch) 2

/-- Corr_ch[k]. -/
def State.corr (s : State) (ch k : Nat) : Nat := s.domLe K.reflCorrTable (2 * (257 * ch + k)) 2

/-- E of a channel for the coverages of the eight slots (R196). -/
def State.expectCh (s : State) (white ch : Nat) (cov : List Nat) : Int :=
  let lsum := ((List.range 8).map fun i => nth cov i * s.absorb i ch).sum
  let l := (lsum * 257 + 32768) / 65536
  let q := l / 4096
  let e0 := if 16 < q then 0 else (white * powTab (l % 4096) + 32768) / 2 ^ (16 + q)
  let k := e0 / 256
  clampI 0 65535 ((s.corr ch k : Int) + sra (((s.corr ch (k + 1) : Int) - s.corr ch k) * ((e0 % 256 : Nat) : Int) + 128) 8)

/-- E of a pixel in the vision format. -/
def State.expect (s : State) (cov : List Nat) : Px :=
  s.visionPx { r := s.expectCh (s.rd K.reflWhiteR) 0 cov, g := s.expectCh (s.rd K.reflWhiteG) 1 cov,
               b := s.expectCh (s.rd K.reflWhiteB) 2 cov }

/-- Reflection reads a member's span of a plane when its row is not the one the render buffer holds (R197). -/
def State.reflRead (n : Nat) (w : Int) (s : State) (i : Nat) : State :=
  let j := s.reflRow i w
  if ¬ s.bit K.reflSlotMask i ∨ ¬ s.planeValid i j ∨ tfind s.umb.rows (16 * n + i) = some j then s
  else
    let col (x : Int) : Nat := (floorDiv (s.crossWeb x - s.rdI 64 K.reflRingX0) (s.rd K.reflRingColPitch)).toNat
    let a := min (col (s.rd (K.memColStart n))) (s.rd K.ringRingColumns)
    let b := min (col ((s.rd (K.memColStart n) + s.rd (K.memColCount n) : Nat) : Int) + 1) (s.rd K.ringRingColumns)
    let s := if a < b then (s.blockRead 1 (s.planeAddr i j + a) (b - a)).2 else s
    { s with umb := { s.umb with rows := tput s.umb.rows (16 * n + i) j } }

/-! ### Judging a pixel (R193, R194, R199) -/

/-- What Umbra knows of a pixel: whether it is scored, blind, its score, S, the coverages, and v_G − E_G. -/
structure Judged where
  scored : Bool := false
  blind : Bool := false
  score : Nat := 0
  s : Int := 0
  cov : List Nat := []
  err : Int := 0
deriving DecidableEq, Repr

/-- A stitched line at Umbra: the line, the pixels in the vision format, the mask of members whose Reflection data is late, and the
line's number since entry to RUNNING. -/
structure ULine where
  x : Stitched
  px : List Px
  late : Nat
  n : Nat

/-- Source member of a column; 255 for none. -/
def ULine.source (l : ULine) (x : Nat) : Nat := l.x.sources.getD x 255

/-- A blind column: no source member, or a scored column whose Reflection data is late (R193, R197). -/
def State.blindCol (s : State) (l : ULine) (x : Nat) : Bool :=
  l.source x == 255 || (s.printWeb && s.usefulCol x && bitOf l.late (l.source x))

/-- The column is scored on the line. -/
def State.scoredCol (s : State) (l : ULine) (x : Nat) : Bool := s.usefulCol x && Nat.blt x l.px.length && !s.blindCol l x

/-- ScoreWeight by channel; MONO16 uses the G weight on its one channel. -/
def State.scoreWeights (s : State) : Px :=
  if s.mono then { r := 0, g := s.rd K.segScoreWeightG, b := 0 }
  else { r := s.rd K.segScoreWeightR, g := s.rd K.segScoreWeightG, b := s.rd K.segScoreWeightB }

/-- Score and S of a pixel against a reference (R199). -/
def State.scoreOf (s : State) (v ref : Px) : Nat × Int :=
  let k := s.scoreWeights
  let er := v.r - ref.r
  let eg := v.g - ref.g
  let eb := v.b - ref.b
  let raw := (k.r * er.natAbs + k.g * eg.natAbs + k.b * eb.natAbs).toNat
  let sc := min 65535 ((raw + 32768) / 65536)
  let sc := if s.rd K.segScoreMode = 1 then min 65535 (sc * 65536 / max (s.rd K.segRelFloor) ref.g.toNat) else sc
  (sc, k.r * er + k.g * eg + k.b * eb)

/-- Coverages of the slots at column x. -/
def State.covers8 (s : State) (l : ULine) (x : Nat) : List Nat :=
  (List.range 8).map (s.coverage (s.memberW (l.source x) l.x.w) x)

/-- The better of two scored references; the first wins a tie. -/
def better (a b : Nat × Int) : Nat × Int := if b.1 < a.1 then b else a

/-- The columns whose references a pixel is scored against: its own, and with ScoreNeighbour the scored ones beside it. -/
def State.refCols (s : State) (l : ULine) (x : Nat) : List Nat :=
  if s.on K.segScoreNeighbour then
    (if 0 < x ∧ s.scoredCol l (x - 1) then [x - 1] else []) ++ (if s.scoredCol l (x + 1) then [x + 1] else [])
  else []

/-- B of a column. -/
def State.bgAt (s : State) (x : Nat) : Px := s.umb.bg.getD x black

/-- The plain-web reference (R194). -/
def State.bgRef (s : State) (x : Nat) : Px :=
  let b := s.bgAt x
  { r := sra (b.r + 128) 8, g := sra (b.g + 128) 8, b := sra (b.b + 128) 8 }

/-- Judge a column of a line. -/
def State.judge (s : State) (l : ULine) (x : Nat) : Judged :=
  let blind := s.blindCol l x
  if ¬ s.scoredCol l x then { blind := blind }
  else
    let v := l.px.getD x black
    if s.plainWeb then
      let r := s.scoreOf v (s.bgRef x)
      { scored := true, score := if l.n ≤ s.rd K.segBgWarmup ∨ l.n = 1 then 0 else r.1, s := r.2 }
    else if s.printWeb then
      let cov := s.covers8 l x
      let e := s.expect cov
      let r := (s.refCols l x).foldl (fun a y => better a (s.scoreOf v (s.expect (s.covers8 l y)))) (s.scoreOf v e)
      { scored := true, score := r.1, s := r.2, cov := cov, err := v.g - e.g }
    else { scored := true }

/-- B after a line: seeded by the first, taken in by min(BgShift, floor(log2 n)) in warm-up, then by BgShift where the gate lets it
(R194). -/
def State.bgStep (s : State) (l : ULine) (x : Nat) (j : Judged) : Px :=
  let b := s.bgAt x
  let v := l.px.getD x black
  let move (k : Nat) : Px :=
    { r := b.r + sra (v.r * 256 - b.r) k, g := b.g + sra (v.g * 256 - b.g) k, b := b.b + sra (v.b * 256 - b.b) k }
  let k := s.rd K.segBgShift
  if ¬ j.scored then b
  else if l.n = 1 then { r := v.r * 256, g := v.g * 256, b := v.b * 256 }
  else if l.n ≤ s.rd K.segBgWarmup then move (min k l.n.log2)
  else if s.on K.segBgGate ∧ s.rd K.segPenumbraLevel ≤ j.score then b
  else move k

end Sys2Proof.Machine
end

