-- ==== Sys2Proof/Machine/Umbra.lean ====
section
/-! DEFINITION. Umbra (R193 to R231): labelling, tags, classification, fragments and joins, crops and the Crazing detector. -/

namespace Sys2Proof.Machine

/-! ### Value queues of the compare units (R91, R212) -/

/-- Push a web coordinate into a compare unit's value queue (R91): QueueOffset is added as it enters; a push to a unit whose live
QueueEnable is 0, or into a full queue, is lost and sets OVERRUN. -/
def State.cmpPush (s : State) (m : Nat) (pos : Int) : State :=
  if 16 ≤ m then s
  else
    let c := s.cmp m
    if ¬ s.on (K.cmpQueueEnable m) ∨ 32 ≤ c.queue.length then (s.flag (K.cmpCmpStatus m) 4 40).raise (Ev.whlCmpStatus (m / 4))
    else
      let v := toI 64 (ofI 64 (pos + s.rdI 64 (K.cmpQueueOffset m)))
      let s := s.setCmp m { c with queue := c.queue ++ [v], phase := if c.queue.isEmpty then .check else c.phase,
                                   at_ := if c.queue.isEmpty then s.now + 1 else c.at_ }
      s.wr (K.cmpQueueFill m) (c.queue.length + 1)

/-! ### Cuts and runs (R201) -/

/-- The cuts: the seam, the first column right of the cut, and the members left and right of it. -/
def State.cutsOf (s : State) : Nat → List Nat → List (Nat × Nat × Nat × Nat)
  | i, l :: r :: t =>
    let rest := State.cutsOf s (i + 1) (r :: t)
    if s.rdI 32 (K.memLineShift l) = s.rdI 32 (K.memLineShift r) then rest
    else (i, s.rd (K.memColStart r) + s.rd (K.smSeamCentre i), l, r) :: rest
  | _, _ => []

/-- The cuts of the present layout. -/
def State.cuts (s : State) : List (Nat × Nat × Nat × Nat) := s.cutsOf 0 s.layout

/-- The runs of penumbra pixels among columns, in order; a run ends before a cut. -/
def runsOf (pen cut : Nat → Bool) : List Nat → Option (Nat × Nat) → List (Nat × Nat)
  | [], none => []
  | [], some r => [r]
  | x :: l, cur =>
    match cur, pen x with
    | none, false => runsOf pen cut l none
    | none, true => runsOf pen cut l (some (x, x))
    | some r, false => r :: runsOf pen cut l none
    | some r, true => if cut x then r :: runsOf pen cut l (some (x, x)) else runsOf pen cut l (some (r.1, x))

/-- Cuts at or below a column. -/
def cutsBelow (cuts : List Nat) (x : Nat) : Nat := (cuts.filter fun c => Nat.ble c x).length

/-- Two runs of neighbouring lines touch, 8-connected, on one side of every cut. -/
def touches (cuts : List Nat) (p q : Nat × Nat) : Bool :=
  Nat.ble p.1 (q.2 + 1) && Nat.ble q.1 (p.2 + 1) && cutsBelow cuts p.1 == cutsBelow cuts q.1

/-! ### Features (R206) -/

/-- Add numbers of slots. -/
def addAttr (a b : List Nat) : List Nat := (List.range 8).map fun i => min (2 ^ 32 - 1) (nth a i + nth b i)

/-- A pixel joins a component's features; `absorb` is Absorb[i][G] by slot. -/
def Feat.pixel (f : Feat) (absorb : List Nat) (level : Nat) (x : Nat) (j : Judged) : Feat :=
  { f with c0 := min f.c0 x, c1 := max f.c1 x, area := min (2 ^ 32 - 1) (f.area + 1),
           umbra := if level ≤ j.score then min (2 ^ 32 - 1) (f.umbra + 1) else f.umbra,
           peak := max f.peak j.score, sum := (f.sum + j.score) % 2 ^ 64,
           pos := if 0 < j.s then f.pos + 1 else f.pos, neg := if j.s < 0 then f.neg + 1 else f.neg,
           attr := addAttr f.attr ((List.range 8).map fun i => nth j.cov i * nth absorb i) }

/-- Two components' features as one. -/
def Feat.merge (a b : Feat) : Feat :=
  let f := if b.first < a.first then b else a
  { first := f.first, last := max a.last b.last, web := f.web, c0 := min a.c0 b.c0, c1 := max a.c1 b.c1,
    area := min (2 ^ 32 - 1) (a.area + b.area), umbra := min (2 ^ 32 - 1) (a.umbra + b.umbra), peak := max a.peak b.peak,
    sum := (a.sum + b.sum) % 2 ^ 64, pos := a.pos + b.pos, neg := a.neg + b.neg, attr := addAttr a.attr b.attr,
    blind := a.blind ++ b.blind.filter (fun r => !a.blind.contains r), missing := a.missing || b.missing }

/-- Polarity: 0 DARK, 1 LIGHT, 2 MIXED (R206). -/
def polarity (area pos neg : Nat) : Nat := if 8 * pos ≤ area then 0 else if 8 * neg ≤ area then 1 else 2

/-! ### Crops (R218, R219) -/

/-- Bytes of a crop row, and of the raw part of a crop's reservation. -/
def State.cropRow (s : State) : Nat := ceilDiv (s.rd K.cropCropWidth * s.visionSize) 64 * 64
def State.cropRaw (s : State) : Nat := 64 + s.rd K.cropCropMaxLines * s.cropRow
/-- Bytes of a crop's reservation. -/
def State.cropSize (s : State) : Nat := if s.on K.cropCropCompress then 2 * s.cropRaw else s.cropRaw

/-- Set Umbra's record. -/
def State.setUmb (s : State) (u : Umb) : State := { s with umb := u }

/-- Where the next reservation starts, if the ring has room between CropWriteOffset and CropReadOffset (R219). -/
def State.cropPlace (s : State) : Option Nat :=
  let n := s.cropSize
  let ring := s.rd K.cropCropRingBytes
  let w := s.rd K.cropsCropWriteOffset
  let r := s.rd K.cropsCropReadOffset
  if s.umb.fullAt = some r ∧ w = r then none
  else if w < r then (if w + n ≤ r then some w else none)
  else if w + n ≤ ring then some w
  else if n ≤ r ∧ n ≤ ring then some 0
  else none

/-- Start a crop at the column of a component's first umbra pixel, where a slot and ring space are free. -/
def State.startCrop (s : State) (x : Nat) (line : Int) : Option Nat × State :=
  if ¬ s.on K.cropCropEnable ∨ s.rd K.cropCropSlots ≤ (s.umb.crops.filter fun c => !c.full).length then (none, s)
  else
    match s.cropPlace with
    | none => (none, s)
    | some at_ =>
      let n := s.cropSize
      let w := (at_ + n) % s.rd K.cropCropRingBytes
      let width := s.rd K.cropCropWidth
      let c : Crop := { num := s.umb.cropNum, slot := at_, size := n,
                        col := min (x - width / 2) (s.rd K.seamWidth - width), first := line }
      let full := if w = s.rd K.cropsCropReadOffset then some w else none
      (some c.num, (s.wr K.cropsCropWriteOffset w).setUmb
        { s.umb with crops := s.umb.crops ++ [c], cropNum := s.umb.cropNum + 1, fullAt := full })

/-- Change a crop's record. -/
def State.updCrop (s : State) (num : Nat) (f : Crop → Crop) : State :=
  s.setUmb { s.umb with crops := s.umb.crops.map fun c => if c.num = num then f c else c }

/-- Discard a crop; the newest reservation is given back. -/
def State.dropCrop (s : State) (num : Nat) : State :=
  match s.umb.crops.find? fun c => c.num == num with
  | none => s
  | some c =>
    let newest := decide ((c.slot + c.size) % s.rd K.cropCropRingBytes = s.rd K.cropsCropWriteOffset)
    let s := s.setUmb { s.umb with crops := s.umb.crops.filter fun y => y.num != num,
                                   fullAt := if newest then none else s.umb.fullAt }
    if newest then s.wr K.cropsCropWriteOffset c.slot else s

/-- A kept crop whose rows are all written goes to an engine with CropCompress (R219, R406). -/
def State.cropClose (s : State) (num : Nat) : State :=
  match s.umb.crops.find? fun c => c.num == num with
  | none => s
  | some c =>
    if ¬ c.kept ∨ ¬ c.full ∨ c.job ∨ ¬ s.on K.cropCropCompress ∨ 16 ≤ s.cropJobs.length then s
    else
      let base := s.rd K.cropCropBase + c.slot
      let j : ZeJob := { kind := 3, op := 0, level := s.rd K.cropCropLevel, block := 262144, src := base + 64, dst := base + s.cropRaw,
                         inLen := c.rows * s.cropRow, outLimit := s.cropRaw, tag := num }
      { (s.updCrop num fun c => { c with job := true }).wr K.zeCropWaiting (s.cropJobs.length + 1) with cropJobs := s.cropJobs ++ [j] }

/-- A line reaches the crops that still take rows. -/
def cropLine (l : ULine) (s : State) (num : Nat) : State :=
  match s.umb.crops.find? fun c => c.num == num with
  | none => s
  | some c =>
    if c.full then s
    else
      let row := padTo s.cropRow (((l.x.cols.drop c.col).take (s.rd K.cropCropWidth)).flatMap s.visionBytes)
      let s := s.blockWrite 5 (s.rd K.cropCropBase + c.slot + 64 + c.rows * s.cropRow) row
      let left := c.left.map fun n => n - 1
      let cut := decide (c.rows + 1 = s.rd K.cropCropMaxLines) && left != some 0
      let s := s.updCrop num fun c => { c with rows := c.rows + 1, left := left, cut := cut, full := cut || left == some 0 }
      s.cropClose num

/-! ### Labelling (R201, R202, R204, R205) -/

/-- Slots in use: open components, and closed ones whose tags wait. -/
def Umb.used (u : Umb) : List Nat := u.comps.map (fun c => c.num) ++ u.closed.map (fun c => c.num)

/-- The lowest free component number, if any of the 4,096 is free. -/
def Umb.freeNum (u : Umb) : Option Nat :=
  let used := u.used
  if 4096 ≤ used.length then none else (List.range 4096).find? fun n => !used.contains n

/-- Components keep ascending numbers. -/
def Umb.putComp (u : Umb) (c : Comp) : Umb :=
  { u with comps := insertBy (fun c => (c.num : Int)) c (u.comps.filter fun y => y.num != c.num) }

/-- Two components merge: the lower number survives; of two crops the survivor's is kept. -/
def State.mergeComps (s : State) (a b : Comp) : Comp × State :=
  let c : Comp := { num := a.num, prev := a.prev ++ b.prev, cur := a.cur ++ b.cur, feat := a.feat.merge b.feat,
                    continued := a.continued || b.continued, index := a.index, chained := a.chained || b.chained,
                    crop := if a.crop.isSome then a.crop else b.crop }
  let s := s.setUmb { s.umb with comps := s.umb.comps.filter fun y => y.num != b.num }
  match a.crop, b.crop with
  | some _, some n => (c, s.dropCrop n)
  | _, _ => (c, s)

/-- Merge a component with others. -/
def mergeAll : Comp → List Comp → State → Comp × State
  | a, [], s => (a, s)
  | a, b :: l, s => let r := s.mergeComps a b; mergeAll r.1 l r.2

/-- A run joins a component: its pixels enter the features, and the first umbra pixel starts a crop. -/
def State.joinRun (s : State) (js : List Judged) (line : Int) (c : Comp) (r : Nat × Nat) : State :=
  let level := s.rd K.segUmbraLevel
  let absorb := if s.printWeb then (List.range 8).map fun i => s.absorb i 1 else []
  let cols := (List.range (r.2 + 1 - r.1)).map fun i => r.1 + i
  let f := cols.foldl (fun f x => f.pixel absorb level x (js.getD x {})) c.feat
  let f : Feat := { f with last := line }
  let crop := if c.feat.umbra = 0 then cols.find? fun x => Nat.ble level (js.getD x {}).score else none
  match crop, c.crop with
  | some x, none =>
    let k := s.startCrop x line
    k.2.setUmb (k.2.umb.putComp { c with cur := c.cur ++ [r], feat := f, crop := k.1 })
  | _, _ => s.setUmb (s.umb.putComp { c with cur := c.cur ++ [r], feat := f })

/-- Label a run: it joins the open components and the cut ones it touches, or opens a component with the lowest free number. -/
def labelRun (l : ULine) (js : List Judged) (cuts : List Nat) (s : State) (r : Nat × Nat) : State :=
  let hits := s.umb.comps.filter fun c => c.prev.any (touches cuts r)
  let ghosts := s.umb.ghosts.filter fun g => g.runs.any (touches cuts r)
  let rest := s.umb.ghosts.filter fun g => !g.runs.any (touches cuts r)
  let past := ghosts.flatMap fun g => g.runs
  let chained := ghosts.any fun g => g.tagged
  match hits with
  | c :: more =>
    let m := mergeAll c more s
    let s := m.2.setUmb { m.2.umb with ghosts := rest }
    s.joinRun js l.x.s { m.1 with prev := m.1.prev ++ past, continued := m.1.continued || !ghosts.isEmpty,
                                  chained := m.1.chained || chained } r
  | [] =>
    match s.umb.freeNum with
    | none => ((s.inc 32 K.umbsComponentsLost).flag K.umbsStatus 1 83).raise Ev.umbOpenFull
    | some n =>
      let s := s.setUmb { s.umb with ghosts := rest }
      let f : Feat := { first := l.x.s, last := l.x.s, web := s.memberW (l.source r.1) l.x.w, c0 := r.1, c1 := r.2 }
      let index := match ghosts with | g :: _ => (g.index + 1) % 65536 | [] => 0
      s.joinRun js l.x.s { num := n, prev := past, cur := [], feat := f, continued := !ghosts.isEmpty, index := index,
                           chained := chained } r

/-! ### Classification and names (R208, R211) -/

/-- n(X) of a bar for twice a cross-web position in 2^−16 units (R208). -/
def State.nozzleAt (s : State) (b : Nat) (x2 : Int) : Nat :=
  let p := s.rd (K.ubarNozzlePitch b)
  let n := floorDiv (x2 - 2 * s.rdI 64 (K.ubarBarX0 b) + p) (2 * p)
  (clampI 0 ((s.rd (K.ubarHeadCount b) * s.rd (K.ubarHeadNozzles b) : Nat) - 1) n).toNat

/-- The bars whose nozzle map has a slot, lowest first. -/
def State.barsOf (s : State) (slot : Nat) : List Nat := (List.range 16).filter fun b => s.rd (K.ubarSlot b) == slot

/-- The slot with the greatest Attr_i, the lowest on a tie; none when every Attr_i is 0. -/
def mainSlot (attr : List Nat) : Option Nat :=
  let m := (List.range 8).foldl (fun m i => max m (nth attr i)) 0
  if m = 0 then none else (List.range 8).find? fun i => nth attr i == m

/-- Σ Attr_i. -/
def attrSum (attr : List Nat) : Nat := ((List.range 8).map (nth attr)).sum

/-- Name the bar, heads and nozzles of a tag (R208). -/
def State.nameTag (s : State) (t : Tag) : Tag :=
  if ¬ s.printWeb then t
  else
    match mainSlot t.attr with
    | none => t
    | some slot =>
      let t := { t with share := 255 * nth t.attr slot / attrSum t.attr }
      match s.barsOf slot with
      | [] => t
      | b :: more =>
        let hn := s.rd (K.ubarHeadNozzles b)
        let p : Int := s.rd K.umbStitchPitch
        let a := s.nozzleAt b (2 * s.crossWeb t.c0 - p)
        let z := s.nozzleAt b (2 * s.crossWeb t.c1 + p)
        { t with colour := slot, bar := b, head0 := s.rd (K.ubarFirstHead b) + a / hn, noz0 := a % hn,
                 head1 := s.rd (K.ubarFirstHead b) + z / hn, noz1 := z % hn,
                 flags := if more.isEmpty then t.flags else setBits t.flags 256 }

/-- A field of rule r. -/
def State.ruleLe (s : State) (r off n : Nat) : Nat := s.domLe K.segRuleTable (32 * r + off) n

/-- Rule r matches a tag (R211). -/
def State.ruleMatches (s : State) (t : Tag) (r : Nat) : Bool :=
  let width := (t.c1 - t.c0 + 1).toNat
  let fill := min 255 (256 * t.area / (width * t.lines))
  let aspect := min 255 (16 * t.lines / width)
  let within (v lo hi n : Nat) : Bool := Nat.ble (s.ruleLe r lo n) v && Nat.ble v (s.ruleLe r hi n)
  s.ruleLe r 0 1 != 255 && bitOf (s.ruleLe r 2 1) (t.flags / 16384) && bitOf (s.ruleLe r 3 1) (if s.printWeb then 1 else 0) &&
  bitOf (s.ruleLe r 4 2) (if t.colour = 255 then 8 else t.colour) && within t.area 8 12 4 && within (min 65535 width) 16 18 2 &&
  within t.lines 20 22 2 && Nat.ble (s.ruleLe r 24 2) t.peak && Nat.ble (s.ruleLe r 26 2) t.mean && within fill 28 29 1 &&
  within aspect 30 31 1

/-- Class, Rule and Actions by the first rule that matches. -/
def State.classify (s : State) (t : Tag) : Tag :=
  match (List.range 64).find? (s.ruleMatches t) with
  | some r => { t with cls := s.ruleLe r 0 1, rule := r, acts := s.ruleLe r 1 1 % 16 }
  | none => { t with cls := s.rd K.segDefaultClass, rule := 255, acts := 0 }

/-- SUPPRESS is among a tag's actions. -/
def Tag.suppressed (t : Tag) : Bool := bitOf t.acts 3

/-! ### The tag's bytes (R209) -/

/-- The 64 bytes of a tag. -/
def tagBytes (id : Nat) (t : Tag) : List Nat :=
  leBytes 4 id ++ [t.cls, t.kind] ++ leBytes 2 t.flags ++ [t.rule, t.bar, t.head0 % 256, t.head1 % 256] ++ leBytes 2 t.noz0 ++
  leBytes 2 t.noz1 ++ leBytes 8 (ofI 64 t.web) ++ timeBytes t.time ++ leBytes 2 t.lines ++ leBytes 4 (ofI 32 t.first) ++
  leBytes 4 (ofI 32 t.c0) ++ leBytes 4 (ofI 32 t.c1) ++ leBytes 4 t.area ++ leBytes 4 t.umbra ++ leBytes 2 t.peak ++
  leBytes 2 t.mean ++ [t.share, t.colour] ++ leBytes 2 t.index

/-- Pitch of R161, in 2^−32 POS. -/
def State.linePitch (s : State) : Int := s.camPitch (s.members.headD 0)

/-- WebEnd in 2^−32 POS (R214). -/
def State.webEnd (s : State) (t : Tag) : Int := t.web * 2 ^ 32 + ((t.lines : Int) - 1) * s.linePitch

/-! ### Fragments (R213 to R217) -/

/-- The device boundary as a cut's number. -/
abbrev boundaryCut : Nat := 255

/-- The cuts a span of columns touches, with the side it lies on. -/
def State.cutSides (s : State) (c0 c1 : Nat) : List (Nat × Bool) :=
  s.cuts.flatMap fun c => (if c1 + 1 = c.2.1 then [(c.1, false)] else []) ++ (if c0 = c.2.1 then [(c.1, true)] else [])

/-- H of a cut for a side (R215). -/
def State.holdOf (s : State) (cut : Nat) (right : Bool) : Int :=
  match s.cuts.find? fun c => c.1 == cut with
  | none => 0
  | some c =>
    let l := s.rdI 32 (K.memLineShift c.2.2.1)
    let r := s.rdI 32 (K.memLineShift c.2.2.2)
    if right then max 0 (r - l) else max 0 (l - r)

/-- Two fragments join (R214). -/
def State.fragsJoin (s : State) (a b : Frag) : Bool :=
  let slack := (s.rd K.umbJoinSlack : Int) * s.linePitch
  let near := decide (a.tag.web * 2 ^ 32 ≤ s.webEnd b.tag + slack) && decide (b.tag.web * 2 ^ 32 ≤ s.webEnd a.tag + slack)
  near && a.cuts.any fun c => b.cuts.any fun d =>
    c.1 == d.1 && c.2 != d.2 &&
    (c.1 != boundaryCut || (if c.2 then decide (a.x0 - b.x1 ≤ s.rd K.umbBoundaryGapX)
                            else decide (b.x0 - a.x1 ≤ s.rd K.umbBoundaryGapX)))

/-- Fragments of a group. -/
def Umb.group (u : Umb) (g : Nat) : List Frag := u.frags.filter fun f => f.group == g

/-- The groups a fragment joins, while the whole stays within 7. -/
def Umb.gather (u : Umb) : List Nat → Nat → List Nat
  | [], _ => []
  | g :: l, n => if n + (u.group g).length ≤ 7 ∧ (u.group g).length < 7 then g :: u.gather l (n + (u.group g).length)
    else u.gather l n

/-- Hold a fragment, at most 256 (R215). -/
def State.holdFrag (s : State) (f : Frag) : State :=
  let u := s.umb
  if 256 ≤ u.frags.length then (s.inc 32 K.umbsJoinLost).flag K.umbsStatus 8 87
  else
    let gs := (u.frags.filter fun g => s.fragsJoin f g).map (fun g => g.group)
    match u.gather gs.dedup 1 with
    | [] => s.setUmb { u with frags := u.frags ++ [{ f with group := u.groups }], groups := u.groups + 1 }
    | g :: more =>
      s.setUmb { u with frags := (u.frags.map fun y => if more.contains y.group then { y with group := g } else y) ++
                                 [{ f with group := g }] }

/-- Left edge of a column, and right edge, in whole cross-web units (R217). -/
def State.leftEdge (s : State) (x : Int) : Int := floorDiv (2 * s.crossWeb x - s.rd K.umbStitchPitch) 131072
def State.rightEdge (s : State) (x : Int) : Int := floorDiv (2 * s.crossWeb x + s.rd K.umbStitchPitch) 131072

/-! ### Closing (R202, R203, R207, R213, R218) -/

/-- Whether a component's flag BLIND is set: a blind column of one of its lines lies within its columns, widened by one. -/
def Feat.isBlind (f : Feat) : Bool := f.blind.any fun r => Nat.ble f.c0 (r.2 + 1) && Nat.ble r.1 (f.c1 + 1)

/-- EDGE of R207. -/
def State.onEdge (s : State) (f : Feat) : Bool :=
  decide (f.c0 < s.rd K.umbUsefulFirst + s.rd K.umbEdgeGuard) ||
  decide (((s.rd K.umbUsefulLast : Int) - s.rd K.umbEdgeGuard) < f.c1)

/-- The component touches the boundary on the left; on the right (R213). -/
def State.atLeft (s : State) (f : Feat) : Bool := s.on K.umbBoundaryLeft && f.c0 == s.rd K.umbUsefulFirst
def State.atRight (s : State) (f : Feat) : Bool := s.on K.umbBoundaryRight && f.c1 == s.rd K.umbUsefulLast

/-- The tag of a component that closes with the flags `why`; `time` is the closing line's. -/
def State.closeTag (s : State) (c : Comp) (why time : Nat) : Tag :=
  let f := c.feat
  let seam := !(s.cutSides f.c0 f.c1).isEmpty
  let bound := s.atLeft f || s.atRight f
  let flags := b2n f.isBlind + 2 * b2n (s.onEdge f) + why + 8 * b2n c.continued + 128 * b2n s.printWeb + 512 * b2n f.missing +
    4096 * b2n seam + 8192 * b2n bound + 16384 * polarity f.area f.pos f.neg
  s.classify (s.nameTag { cls := 0, kind := if seam || bound then 2 else 1, flags := flags, rule := 255, acts := 0, web := f.web,
                          time := time, lines := (f.last - f.first + 1).toNat, first := f.first, c0 := f.c0, c1 := f.c1,
                          area := f.area, umbra := f.umbra, peak := f.peak, mean := f.sum / f.area, index := c.index,
                          pos := f.pos, neg := f.neg, attr := f.attr })

/-- The closed component's crop: kept for CROP, else discarded; a CROP action without one is lost (R218). -/
def State.closeCrop (s : State) (c : Comp) (t : Tag) (flush : Bool) : Tag × State :=
  if bitOf t.acts 2 ∧ ¬ t.suppressed then
    match c.crop with
    | none => ({ t with flags := setBits t.flags 2048 }, (s.inc 32 K.umbsCropsLost).flag K.umbsStatus 16 86)
    | some n =>
      let margin := if flush then 0 else s.rd K.cropCropMargin
      let s := s.updCrop n fun y => { y with kept := true, left := some margin, full := y.full || decide (margin = 0) }
      ({ t with flags := setBits t.flags 1024 }, s.cropClose n)
  else (t, match c.crop with | some n => s.dropCrop n | none => s)

/-- Hold the fragment of a closed component (R215). A fragment at the left boundary alone is joined by the neighbour (R217). -/
def State.closeFrag (s : State) (num : Nat) (t : Tag) (f : Feat) (line : Int) (flush : Bool) : State :=
  let seams := s.cutSides f.c0 f.c1
  let right := s.atRight f
  if t.kind ≠ 2 ∨ t.suppressed ∨ (seams.isEmpty ∧ ¬ right) then s
  else
    let h := seams.foldl (fun h c => max h (s.holdOf c.1 c.2)) 0
    s.holdFrag { group := 0, num := some num, node := s.rd K.sklNodeId, tag := t,
                 cuts := seams ++ (if right then [(boundaryCut, false)] else []), x0 := s.leftEdge t.c0, x1 := s.rightEdge t.c1,
                 endS := if seams.isEmpty ∨ flush then none else some (line + h + s.rd K.umbJoinSlack),
                 endAt := if right then some (s.now + us (s.rd K.umbBoundaryWait)) else none }

/-- A component closes: it is tagged, or counted in PenumbraOnly and discarded (R203). -/
def closeComp (why : Nat) (line : Int) (time t0 : Nat) (s : State) (c : Comp) : State :=
  let s := s.setUmb { s.umb with comps := s.umb.comps.filter fun y => y.num != c.num }
  if c.feat.umbra = 0 ∧ ¬ c.chained then
    let s := s.inc 32 K.umbsPenumbraOnly
    match c.crop with | some n => s.dropCrop n | none => s
  else
    let flush := why == 32
    let r := s.closeCrop c (s.closeTag c why time) flush
    let s := r.2.closeFrag c.num r.1 c.feat line flush
    let x : Closed := { num := c.num, tag := r.1, t0 := t0, place := (s.umb.closed.filter fun y => y.t0 == t0).length, crop := c.crop }
    s.setUmb { s.umb with closed := s.umb.closed ++ [x] }

/-- A component open for MaxLines lines closes with SPLIT and may go on (R204). -/
def splitComp (line : Int) (time t0 : Nat) (s : State) (c : Comp) : State :=
  let s := closeComp 4 line time t0 s c
  s.setUmb { s.umb with ghosts := s.umb.ghosts ++ [{ runs := c.cur, index := c.index,
                                                     tagged := c.chained || decide (c.feat.umbra ≠ 0) }] }

/-- The end of a line for the components: those without a run close, then runs become the last line's. -/
def State.closeLine (s : State) (l : ULine) (blind : List (Nat × Nat)) (t0 : Nat) : State :=
  let last (c : Comp) : Comp :=
    { c with feat := { c.feat with blind := c.feat.blind ++ blind.filter (fun r => !c.feat.blind.contains r),
                                   missing := c.feat.missing || l.x.missing } }
  let s := s.setUmb { s.umb with comps := s.umb.comps.map fun c => if c.cur.isEmpty then c else last c }
  let ends := s.umb.comps.filter fun c =>
    c.cur.isEmpty || decide ((s.rd K.umbMaxLines : Int) ≤ l.x.s - c.feat.first + 1)
  let s := ends.foldl (fun s c => if c.cur.isEmpty then closeComp 0 l.x.s l.x.time t0 s c else splitComp l.x.s l.x.time t0 s c) s
  s.setUmb { s.umb with comps := s.umb.comps.map fun c => { c with prev := c.cur, cur := [] } }

/-- Show OpenComponents. -/
def State.showOpen (s : State) : State :=
  (s.wr K.umbsOpenComponents s.umb.comps.length).peak K.umbsOpenPeak s.umb.comps.length

/-- Every open component closes, with GAP or FLUSHED (R202). -/
def State.closeAll (s : State) (why : Nat) (line : Int) (time t0 : Nat) : State :=
  let s := s.umb.comps.foldl (closeComp why line time t0) s
  s.setUmb { s.umb with ghosts := [] }

/-- The band condition of R27 for inspection is met: every open component closes with FLUSHED, holds at seams end and crops take no
further row. -/
def State.umbFlush (s : State) : State :=
  let s := s.closeAll 32 (s.umb.last.getD 0) s.umb.lastTime s.umb.lastT0
  let s := s.setUmb { s.umb with frags := s.umb.frags.map fun (f : Frag) => { f with endS := none } }
  let s := s.umb.crops.foldl (fun s c => (s.updCrop c.num fun (c : Crop) => { c with full := true }).cropClose c.num) s
  s.showOpen

/-- Open components are discarded without tags (R202), with their crops. -/
def State.umbDiscard (s : State) : State :=
  let s := s.umb.comps.foldl (fun s c => match c.crop with | some n => s.dropCrop n | none => s) s
  (s.setUmb { s.umb with comps := [], ghosts := [] }).showOpen

/-! ### The Crazing detector (R220, R221) -/

/-- A column's accumulators take a pixel (R220). -/
def Craze.pixel (c : Craze) (err : Int) (d : Nat) : Craze :=
  let c := { c with err := clampI (-(2 ^ 31)) (2 ^ 31 - 1) (c.err + err), count := sat 65535 (c.count + 1) }
  if c.votes = 0 then { c with dom := d, votes := 1 }
  else if c.dom = d then { c with votes := sat 255 (c.votes + 1) }
  else { c with votes := c.votes - 1 }

/-- The slot of greatest cov_i × Absorb[i][G], the lowest on a tie. -/
def State.domSlot (s : State) (cov : List Nat) : Nat :=
  (List.range 8).foldl (fun b i => if nth cov b * s.absorb b 1 < nth cov i * s.absorb i 1 then i else b) 0

/-- A line reaches the Crazing detector. -/
def State.crazeLine (s : State) (js : List Judged) : State :=
  if ¬ s.on K.crazeCrazeEnable ∨ s.umb.crazeBand.isNone then s
  else
    let cols := (List.range js.length).filter fun x =>
      let j := js.getD x {}
      j.scored && j.cov.any fun c => Nat.ble (s.rd K.crazeCrazeMinCover) c
    s.setUmb { s.umb with craze := cols.foldl (fun t x =>
      tupd {} t x fun (c : Craze) => c.pixel (js.getD x {}).err (s.domSlot (js.getD x {}).cov)) s.umb.craze }

/-- e of a column at a window's end. -/
def State.crazeMean (s : State) (x : Int) : Int :=
  let c := tget {} s.umb.craze x.toNat
  if x < 0 ∨ c.count < s.rd K.crazeCrazeMinCount ∨ c.count = 0 then 0 else truncDiv c.err c.count

/-- The column of greatest e in a run, the lowest on a tie. -/
def State.crazePeak (s : State) (r : Nat × Nat) : Nat :=
  (List.range (r.2 - r.1)).foldl (fun b i => if s.crazeMean b < s.crazeMean (r.1 + i + 1 : Nat) then r.1 + i + 1 else b) r.1

/-- The candidate columns of a window (R221). -/
def State.crazeCandidates (s : State) : List Nat :=
  let t : Int := s.rd K.crazeCrazeThreshold
  let runs := runsOf (fun x => decide (t ≤ s.crazeMean x)) (fun _ => false) (List.range (s.rd K.seamWidth)) none
  (runs.filter fun r => Nat.ble (r.2 + 1 - r.1) (s.rd K.crazeCrazeMaxWidth) &&
    decide (2 * s.crazeMean ((r.1 : Int) - 2) < t) && decide (2 * s.crazeMean ((r.2 : Int) + 2) < t)).map s.crazePeak

/-- Report a column (R221): the nearest nozzle in the bar of DomSlot, by R208. -/
def State.crazeReport (s : State) (x : Nat) : State :=
  let slot := (tget {} s.umb.craze x).dom
  let e := s.crazeMean x
  let ask := s.on K.crazeCrazeAutoMask
  let bytes (b h n flags : Nat) : List Nat :=
    [b, slot, h % 256, flags] ++ leBytes 2 n ++ leBytes 2 (s.rd K.crazeCrazeConfirm) ++ leBytes 4 x ++ leBytes 4 (ofI 32 e)
  let r : State × List Nat :=
    match s.barsOf slot with
    | [] => (s, bytes 255 255 65535 0)
    | b :: more =>
      let hn := s.rd (K.ubarHeadNozzles b)
      let n := s.nozzleAt b (2 * s.crossWeb x)
      let h := s.rd (K.ubarFirstHead b) + n / hn
      let s := if ask then s.askMaskFor (h * 8192 + n % hn) (2 ^ 62) else s
      (s, bytes b h (n % hn) (b2n ask + 2 * b2n (!more.isEmpty)))
  (((r.1.offerTo (s.rd K.crazeCrazeQueue) r.2).2.inc 32 K.umbsCrazeFound).flag K.umbsStatus 32 88).raise Ev.umbCrazeFound

/-- A window ends (R221). -/
def State.crazeEnd (s : State) : State :=
  let lim := s.rd K.crazeCrazeConfirm
  let old (x : Int) : Nat := if x < 0 then 0 else (tget {} s.umb.craze x.toNat).confirm
  let cand : List (Nat × Nat) := (s.crazeCandidates.map fun (x : Nat) => (x, min lim (1 + max (old x) (max (old ((x : Int) - 1)) (old ((x : Int) + 1))))))
  let due := cand.filter fun c => c.2 == lim && Nat.blt (old c.1) lim
  let s := due.foldl (fun s c => s.crazeReport c.1) s
  s.setUmb { s.umb with craze := cand.map fun c => (c.1, { confirm := c.2 }) }

/-! ### Band boundaries of BandChannel (R221, R222) -/

/-- The k of BandChannel on stitched line j. -/
def State.bandK (s : State) (j : Int) : Int := j + s.rdI 32 (K.memLineShift (s.rd K.umbBandChannel))

/-- The band of BandChannel on stitched line j. -/
def State.bandAt (s : State) (j : Int) : Int := (s.cam (s.rd K.umbBandChannel)).bandOf (s.bandK j)

/-- A band of BandChannel starts with line j: j is its first line, or the line before lies in an earlier band. -/
def State.bandStarts (s : State) (j : Int) : Bool :=
  decide (s.bandK j = (s.cam (s.rd K.umbBandChannel)).bandFirst (s.bandAt j)) ||
  (match s.umb.last with | some i => decide (s.bandAt i < s.bandAt j) | none => false)

/-- BandChannel runs (R52). -/
def State.bandRuns (s : State) : Bool :=
  let m := s.rd K.umbBandChannel
  s.camState m != camDisabled && !s.camIdle m

/-- A Crazing window ends before line j. -/
def State.crazeDue (s : State) (j : Int) : Bool :=
  s.on K.crazeCrazeEnable && (match s.umb.crazeBand with | some b => decide (b < s.bandAt j) | none => false)

/-- End the window before line j, if it ends there; a window starts where a band starts. -/
def State.crazeWindow (s : State) (j : Int) : State :=
  let s := if s.crazeDue j then s.crazeEnd else s
  if s.bandStarts j ∨ s.umb.crazeBand.isSome then s.setUmb { s.umb with crazeBand := some (s.bandAt j) } else s

/-- CRAZE_WINDOW_END (R221): the line after the last lies in a later band of BandChannel than the window. -/
def crazeWindowEnd (s : State) : State :=
  match s.umb.last with
  | none => s
  | some j => if s.crazeDue (j + 1) then s.crazeWindow (j + 1) else s

/-- CRAZE_WINDOW_END. -/
def execCrazeWindowEnd (s : State) : Host.Outcome State Fault Refusal := .next (crazeWindowEnd s)

/-- Apply an Umbra group (R222). -/
def State.umbApply (s : State) (idx : Nat) : State := (s.applyGroup idx).raise Ev.umbApply

/-- Apply the tuning, Reflection and Crazing groups whose commits wait for the band that starts at or before line j. -/
def State.umbBoundary (s : State) (j : Int) : State :=
  [0x2810, 0x2830, 0x2850].foldl (fun s idx =>
    if s.commitPending idx ∧ (¬ s.bandRuns ∨ s.commitBand idx < s.bandAt j) then s.umbApply idx else s) s

/-! ### A stitched line (R193) -/

/-- Spans of blind columns of a line. -/
def blindSpans (js : List Judged) : List (Nat × Nat) :=
  runsOf (fun x => (js.getD x {}).blind) (fun _ => false) (List.range js.length) none

/-- Members whose Reflection data is late on a line: each counts once (R197). -/
def State.refLate (s : State) (l : ULine) : State :=
  (List.range 12).foldl (fun s n =>
    if bitOf l.late n ∧ l.x.sources.contains n then
      ((s.inc 32 K.umbsRefLate).flag K.umbsStatus 4 85).raise Ev.umbRefLate
    else s) s

/-- A stitched line reaches Umbra, in the FABCLK its first column leaves the Seam unit; `late` is the mask of members whose ring row
arrives late. -/
def State.umbraLine (s : State) (x : Stitched) (late : Nat) : State :=
  let t0 := s.now + ceilDiv x.cols.length 40
  let s := (s.crazeWindow x.s).umbBoundary x.s
  let gap := match s.umb.last with | some j => decide (j + 1 < x.s) | none => false
  let s := if gap then s.closeAll 16 x.s x.time t0 else s
  let l : ULine := { x := x, px := x.cols.map s.visionPx, late := late, n := s.umb.lines + 1 }
  let s := if s.printWeb then
      let s := s.refLate l
      (List.range 12).foldl (fun s n => if x.sources.contains n ∧ ¬ bitOf late n then
        (List.range 8).foldl (State.reflRead n (s.memberW n x.w)) s else s) s
    else s
  let js := (List.range x.cols.length).map (s.judge l)
  let bg := if s.plainWeb then (List.range x.cols.length).map fun c => s.bgStep l c (js.getD c {}) else s.umb.bg
  let s := if s.plainWeb then s.wr K.umbsWarmup (b2n (decide (2 ≤ l.n ∧ l.n ≤ s.rd K.segBgWarmup))) else s
  let blind := (js.filter fun j => j.blind).length
  let s := s.wr K.umbsBlindColumns blind
  let s := if blind ≠ 0 then s.flag K.umbsStatus 64 89 else s
  let s := s.crazeLine js
  let cuts := s.cuts.map fun c => c.2.1
  let level := s.rd K.segPenumbraLevel
  let runs := runsOf (fun c => (js.getD c {}).scored && Nat.ble level (js.getD c {}).score) cuts.contains (List.range js.length) none
  let s := runs.foldl (labelRun l js cuts) (s.setUmb { s.umb with bg := bg, lines := l.n, last := some x.s, lastTime := x.time,
                                                                  lastT0 := t0 })
  let s := s.setUmb { s.umb with ghosts := [] }
  let s := (s.umb.crops.map fun c => c.num).foldl (cropLine l) s
  (s.closeLine l (blindSpans js) t0).showOpen

/-! ### Writing tags (R210, R212) -/

/-- The web coordinate a tag pushes (R212). -/
def State.pushPoint (s : State) (t : Tag) : Int :=
  let e := floorDiv (s.webEnd t) (2 ^ 32)
  if s.rd K.umbPushPoint = 0 then t.web else if s.rd K.umbPushPoint = 1 then e else floorDiv (t.web + e) 2

/-- A tag is assembled: REJECT and MARK push (R212). -/
def State.assemble (s : State) (t : Tag) : State :=
  let p := s.pushPoint t
  let s := if bitOf t.acts 0 then (s.cmpPush (s.rd K.umbRejectCompare) p).raise Ev.umbReject else s
  if bitOf t.acts 1 then (s.cmpPush (s.rd K.umbMarkCompare) p).raise Ev.umbMark else s

/-- Assemble every closed component's tag whose moment, 64 FABCLK before its place in the queue, has come by `till`. -/
def assembleDue (till : Nat) : List Closed → State → State
  | [], s => s
  | c :: l, s =>
    let t := c.t0 + 448 + c.place
    if c.assembled ∨ till < t then assembleDue till l s
    else
      let s := (s.at t).assemble c.tag
      assembleDue till l (s.setUmb { s.umb with closed := s.umb.closed.map fun (y : Closed) =>
        if y.num = c.num then { y with assembled := true } else y })

/-- The tag queue takes `n` more items; TagQueue 255 takes every tag (R210). -/
def State.tagRoom (s : State) (n : Nat) : Bool := s.rd K.umbTagQueue == 255 || Nat.ble n (s.queCredits (s.rd K.umbTagQueue))

/-- The next TagId. -/
def State.nextTagId (s : State) : Nat := (s.rd K.umbsLastTagId + 1) % 2 ^ 32

/-- A tag or merged tag is written: counted, raised, and given the next TagId. -/
def State.putTag (s : State) (t : Tag) : State :=
  let id := s.nextTagId
  let s := (s.offerTo (s.rd K.umbTagQueue) (tagBytes id t)).2
  (((s.wr K.umbsLastTagId id).inc 64 K.umbsTagsWritten).arrive 90).raise Ev.umbTag

/-- The 96-byte boundary record of a fragment (R217). -/
def State.boundaryRecord (s : State) (id : Nat) (t : Tag) : List Nat :=
  tagBytes id t ++ leBytes 4 t.neg ++ leBytes 4 t.pos ++ leBytes 4 (ofI 32 (s.leftEdge t.c0)) ++
  leBytes 4 (ofI 32 (s.rightEdge t.c1)) ++
  (List.range 8).flatMap fun i => leBytes 2 (if attrSum t.attr = 0 then 0 else 65535 * nth t.attr i / attrSum t.attr)

/-- What a written tag's number is put into: the fragments and the crop of its component, and the record that tells the peer of a tag
at the left boundary (R215, R217, R218). -/
def State.tagLinks (s : State) (c : Closed) (t : Tag) (id : Nat) : State :=
  let named (f : Frag) : Frag := if f.num = some c.num then { f with num := none, id := id, tag := t } else f
  let s := s.setUmb { s.umb with frags := s.umb.frags.map named }
  let s : State := match c.crop with
    | some n => s.updCrop n (fun (y : Crop) => { y with tag := some id })
    | none => s
  if bitOf t.flags 13 ∧ s.on K.umbBoundaryLeft ∧ t.c0 = (s.rd K.umbUsefulFirst : Int) then
    s.setUmb { s.umb with records := s.umb.records ++ [s.boundaryRecord id t] }
  else s

/-- A tag of a component goes out: to the tag queue and to the views that show it. -/
def State.sendTag (s : State) (c : Closed) (t : Tag) : State :=
  let id := s.nextTagId
  let s := (List.range 8).foldl (State.viewTag t.cls t.c0.toNat t.c1.toNat t.first (t.first + t.lines - 1)) (s.putTag t)
  s.tagLinks c t id

/-- Write the tag of a closed component (R210, R217, R218). -/
def State.writeTag (s : State) (c : Closed) : State :=
  let late := Nat.blt (c.t0 + 512 + min c.place 127) s.now
  let t := if late then { c.tag with flags := setBits c.tag.flags 64 } else c.tag
  let s := s.setUmb { s.umb with closed := s.umb.closed.filter fun y => y.num != c.num }
  if t.suppressed then s.inc 32 K.umbsSuppressed
  else (if late then (s.inc 32 K.umbsLateTags).flag K.umbsStatus 2 84 else s).sendTag c t

/-- TAG_WRITE (R210): the oldest closed component's tag is written at t0 + 512 and its place, once a credit is held. -/
def tagWrite (s : State) : State :=
  match s.umb.closed with
  | [] => s
  | c :: _ =>
    let t := max s.now (c.t0 + 512 + c.place)
    let s := (assembleDue t s.umb.closed s).at t
    if c.tag.suppressed ∨ s.tagRoom 1 then s.writeTag c else s

/-! ### Merged tags (R215, R216) -/

/-- A fragment's hold at a seam goes on at stitched line j: its line has not come, or an open component touches the same cut from the
other side and started within JoinSlack of its WebEnd. -/
def State.seamHeld (s : State) (f : Frag) : Bool :=
  (match f.endS, s.umb.last with
   | some e, some j => decide (j < e)
   | some _, none => true
   | none, _ => false) ||
  s.umb.comps.any fun c =>
    decide ((c.feat.web * 2 ^ 32 - s.webEnd f.tag).natAbs ≤ ((s.rd K.umbJoinSlack : Int) * s.linePitch).natAbs) &&
    (s.cutSides c.feat.c0 c.feat.c1).any fun d => f.cuts.any fun k => k.1 == d.1 && k.2 != d.2

/-- The moment the last boundary hold of a group ends. -/
def groupEnd (l : List Frag) : Nat := l.foldl (fun m f => max m (f.endAt.getD 0)) 0

/-- A group can be emitted: every tag of it is written, and it is full or no fragment of it is held at a seam. -/
def State.groupReady (s : State) (l : List Frag) : Bool :=
  l.all (fun f => f.num.isNone) && (Nat.ble 7 l.length || l.all fun f => !s.seamHeld f)

/-- The fragment with the least WebStart, the lower TagId winning a tie. -/
def firstFrag : Frag → List Frag → Frag
  | f, [] => f
  | f, g :: l => firstFrag (if g.tag.web < f.tag.web ∨ (g.tag.web = f.tag.web ∧ g.id < f.id) then g else f) l

/-- The merged tag of a group (R216). -/
def State.mergedTag (s : State) (f : Frag) (l : List Frag) : Tag :=
  let all := f :: l
  let a := firstFrag f l
  let sum (g : Tag → Nat) : Nat := (all.map fun f => g f.tag).sum
  let area := sum (fun t => t.area)
  let e := l.foldl (fun m f => max m (s.webEnd f.tag)) (s.webEnd f.tag)
  let pos := sum (fun t => t.pos)
  let neg := sum (fun t => t.neg)
  let flags := all.foldl (fun v f => v ||| (f.tag.flags % 16384)) 0
  s.classify (s.nameTag
    { cls := 0, kind := 3, flags := flags + 16384 * polarity area pos neg, rule := 255, acts := 0, web := a.tag.web,
      time := all.foldl (fun m f => max m f.tag.time) 0,
      lines := (floorDiv (e - a.tag.web * 2 ^ 32) s.linePitch.toNat + 1).toNat, first := a.tag.first,
      c0 := l.foldl (fun m f => min m f.tag.c0) f.tag.c0, c1 := l.foldl (fun m f => max m f.tag.c1) f.tag.c1,
      area := min (2 ^ 32 - 1) area, umbra := min (2 ^ 32 - 1) (sum fun t => t.umbra),
      peak := all.foldl (fun m f => max m f.tag.peak) 0,
      mean := (all.map fun f => f.tag.area * f.tag.mean).sum / max 1 area, index := a.tag.index, pos := pos, neg := neg,
      attr := all.foldl (fun v f => addAttr v f.tag.attr) [] })

/-- The JOIN record of a group (R216). -/
def joinBytes (id : Nat) (l : List Frag) : List Nat :=
  padTo 64 (leBytes 4 id ++ [l.length, 4, 0, 0] ++ l.flatMap fun f => leBytes 4 f.id ++ leBytes 2 f.node ++ [0, 0])

/-- Emit a group: MERGED and its JOIN record, nothing for a lone fragment. -/
def State.emitGroup (s : State) (g : Nat) : State :=
  let l := s.umb.group g
  let drop (s : State) : State := s.setUmb { s.umb with frags := s.umb.frags.filter fun f => f.group != g }
  match l with
  | f :: h :: more =>
    let t := s.mergedTag f (h :: more)
    if t.suppressed then (drop s).inc 32 K.umbsSuppressed
    else if ¬ s.tagRoom 2 then s
    else
      let id := s.nextTagId
      ((drop s).putTag t |>.offerTo (s.rd K.umbTagQueue) (joinBytes id l)).2
  | _ => drop s

/-- JOIN_HOLD_END (R215): the group whose holds end first, the older first. -/
def joinHoldEnd (s : State) : State :=
  let gs := ((s.umb.frags.map fun f => f.group).dedup).filter fun g => s.groupReady (s.umb.group g)
  let end_ (g : Nat) : Nat := let l := s.umb.group g; if 7 ≤ l.length then 0 else groupEnd l
  match sortBy (fun g => (end_ g : Int)) (sortBy (fun g => (g : Int)) gs) with
  | [] => s
  | g :: _ => (s.at (end_ g)).emitGroup g

/-- JOIN_HOLD_END. -/
def execJoinHoldEnd (s : State) : Host.Outcome State Fault Refusal := .next (joinHoldEnd s)

/-- A peer's boundary record reaches the joining device (R217). -/
def State.peerFragment (s : State) (node : Nat) (r : List Nat) : State :=
  if ¬ s.on K.umbBoundaryRight then s
  else
    let x0 : Int := leAt r 72 4
    let x1 : Int := leAt r 76 4
    let p := s.rd K.umbStitchPitch
    let col (x : Int) : Int := floorDiv (x * 65536 - s.rdI 64 K.umbStitchX0) p
    let area := leAt r 48 4
    let t : Tag := { cls := leAt r 4 1, kind := 2, flags := leAt r 6 2, rule := leAt r 8 1, acts := 0, web := toI 64 (leAt r 16 8),
                     time := leAt r 24 8 * 65536 + leAt r 32 2, lines := leAt r 34 2, first := toI 32 (leAt r 36 4),
                     c0 := floorDiv (x0 * 65536 + p - s.rdI 64 K.umbStitchX0) p, c1 := col x1, area := area, umbra := leAt r 52 4,
                     peak := leAt r 56 2, mean := leAt r 58 2, index := leAt r 62 2, neg := leAt r 64 4, pos := leAt r 68 4,
                     attr := (List.range 8).map fun i => Config.peerAttr (leAt r (80 + 2 * i) 2) area }
    s.holdFrag { group := 0, num := none, id := leAt r 0 4, node := node, tag := t, cuts := [(boundaryCut, true)], x0 := x0, x1 := x1,
                 endAt := some (s.now + us (s.rd K.umbBoundaryWait)) }

/-! ### Complete crops (R219) -/

/-- A crop is complete: its rows are written, its tag has a TagId, and no compression job is left. -/
def Crop.complete (c : Crop) : Bool := c.kept && c.full && c.tag.isSome && (!c.job || c.done)

/-- CROP_DONE (R219): the header is written, the slot's offset goes to CropQueue. -/
def cropDone (s : State) : State :=
  match s.umb.crops.find? Crop.complete with
  | none => s
  | some c =>
    let id := c.tag.getD 0
    let row := s.cropRow
    let hdr := leBytes 2 0x4352 ++ [1, b2n c.packed.isSome + 2 * b2n c.cut + 4 * b2n s.mono] ++ leBytes 4 id ++ leBytes 4 c.col ++
      leBytes 2 (s.rd K.cropCropWidth) ++ leBytes 2 row ++ leBytes 4 (ofI 32 c.first) ++ leBytes 4 c.rows ++
      leBytes 4 (if c.packed.isSome then s.cropRaw else 64) ++ leBytes 4 (c.packed.getD (c.rows * row))
    let s := s.setUmb { s.umb with crops := s.umb.crops.filter fun y => y.num != c.num }
    let s := s.blockWrite 5 (s.rd K.cropCropBase + c.slot) (padTo 64 hdr)
    (((s.offerTo (s.rd K.cropCropQueue) (leBytes 8 (id * 2 ^ 32 + c.slot))).2.arrive 86)).raise Ev.umbCropDone

/-- CROP_DONE. -/
def execCropDone (s : State) : Host.Outcome State Fault Refusal := .next (cropDone s)

/-- Entry to RUNNING starts the background's seeding and warm-up anew, and the Crazing columns (R194, R220). -/
def State.umbRunStart (s : State) : State :=
  (s.setUmb { s.umb with lines := 0, last := none, craze := [], crazeBand := none, rows := [] }).wr K.umbsWarmup 0

end Sys2Proof.Machine
end

