-- ==== Sys2Proof/Machine/Compress.lean ====
section
/-! DEFINITION. The compression engines' jobs (R396 to R408): job rings, starting, completing, aborting and pre-empting. -/

namespace Sys2Proof.Machine

/-- Engines run: not in RESET, BOOT, FAULT or FENCED, nor asleep with the ZE domain (R28, R547). -/
def State.zeAwake (s : State) : Bool :=
  !(s.dev == stReset || s.dev == stBoot || s.dev == stFault || s.dev == stFenced) &&
  !(s.dev == stStandby && s.bit K.pwrSleepMask 5)

/-- JOB_TAIL (R402): at most JobRingEntries jobs stand in the ring. -/
def jobTailWrite (a : Acc) (e : Nat) (s : State) : State :=
  let k := K.zesJobTail e
  let n := (accVal a k + 2 ^ 32 - s.rd (K.zesJobHead e)) % 2 ^ 32
  s.act a k (if s.rd (K.zerJobRingEntries e) < n then 8 else 0) fun s =>
    (s.wr k (accVal a k)).setZe e { s.ze e with stopped := false }

/-- JOB_TAIL. -/
def execJobTail (a : Acc) (e : Nat) (s : State) : Host.Outcome State Fault Refusal := inst (Nat.blt e 6) (jobTailWrite a e s)

/-- Where the engine's job JobHead stands in its ring. -/
def State.jobAddr (s : State) (e : Nat) : Nat :=
  s.rd (K.zerJobRingBase e) + 64 * (s.rd (K.zesJobHead e) % s.rd (K.zerJobRingEntries e))

/-- A software job completes: the results are written back, JobHead advances, and ZEe_DONE is raised with IRQ (R402). -/
def State.ringDone (s : State) (e : Nat) (j : ZeJob) (st crc out : Nat) : State :=
  let s := s.blockWrite 10 (s.jobAddr e + 40) ([st, 0, 0, 0] ++ leBytes 4 crc ++ leBytes 8 out ++ leBytes 8 s.timeNs)
  let s := s.inc 32 (K.zesJobHead e)
  if j.irq then (s.arrive 120).raise (Ev.zeDone e) else s

/-- A crop's job ends: its compressed rows stand where they were written, or the crop keeps its raw rows (R219, R400). -/
def State.cropJobDone (s : State) (j : ZeJob) (st out : Nat) : State :=
  s.updCrop j.tag fun c => { c with done := true, packed := if st = zeOk then some out else none }

/-- A job ends with a status, ResultCrc and OutBytes; `data` is what a Slip job yields. -/
def State.jobEnds (s : State) (e : Nat) (j : ZeJob) (st crc out : Nat) (data : List Nat) : State :=
  let s := if j.kind = 1 then s.ringDone e j st crc out else if j.kind = 2 then s.segmentDone j st data else s.cropJobDone j st out
  s.zeFinish e st j.inLen out

/-- Take a crop job up (R406). -/
def State.takeCrop (s : State) (e : Nat) (j : ZeJob) (l : List ZeJob) : State :=
  { (s.zeTake e j).wr K.zeCropWaiting l.length with cropJobs := l }

/-- A descriptor's job. -/
def jobOf (l : List Nat) : ZeJob :=
  { kind := 1, op := leAt l 0 1 / 4 % 4, level := leAt l 0 1 / 16, block := leAt l 4 4, irq := bitOf (leAt l 0 4) 1, src := leAt l 8 8,
    dst := leAt l 16 8, inLen := leAt l 24 8, outLimit := leAt l 32 8 }

/-- A ring job is fetched and checked; VALID 0 stops the ring (R402, R404). -/
def State.takeRing (s : State) (e : Nat) : State :=
  match s.blockRead 10 (s.jobAddr e) 64 with
  | (l, s) =>
    let j := jobOf l
    if ¬ bitOf (leAt l 0 4) 0 then s.setZe e { s.ze e with stopped := true }
    else
      match s.zeCheck (leAt l 0 4) j with
      | 1 => s.zeTake e j
      | st =>
        let s := if st = zeBus then s.mapError (max j.src (s.rd K.dramDramPopulated)) else s
        (s.zeTake e j).jobEnds e j st 0 0 []

/-- ZE_JOB_START (R239, R406): a reserved engine fetches a segment; another takes a crop job, which goes to the lowest-numbered idle
one, or its own ring's job. -/
def zeJobStart (e : Nat) (s : State) : State :=
  if ¬ s.zeAwake ∨ ¬ s.zeIdle e then s
  else if s.zeReserved e then segmentFetch e s
  else
    let first := (List.range e).all fun d => s.zeReserved d || !s.zeIdle d
    match s.cropJobs, first with
    | j :: l, true => s.takeCrop e j l
    | _, _ =>
      if s.rd (K.zesJobHead e) = s.rd (K.zesJobTail e) ∨ (s.ze e).stopped ∨ s.rd (K.zerJobRingEntries e) = 0 then s
      else s.takeRing e

/-- ZE_JOB_START. -/
def execZeJobStart (e : Nat) (s : State) : Host.Outcome State Fault Refusal := inst (Nat.blt e 6) (zeJobStart e s)

/-- Write `n` bytes no completion claims at a job's destination: unstated values (R399). -/
def State.scratch (s : State) (j : ZeJob) (room : Nat) : State :=
  match s.fresh with
  | (v, s) => s.blockWrite j.port j.dst ((List.range (v % (room + 1))).map (Config.scratchByte v))

/-- The work of a job, its compressed output decoded again and compared (R396, R399, R400). -/
def ZeJob.verified (j : ZeJob) (inp : List Nat) : Nat × Nat × List Nat :=
  let w := j.work inp
  if j.op = 0 ∧ w.1 = zeOk ∧ decompress w.2.2 inp.length ≠ (zeOk, inp) then (zeVerify, w.2.1, []) else w

/-- Put a job's output in DRAM: the bytes that stand there, and whether all of them do (R356). -/
def State.putOut (s : State) (j : ZeJob) (out : List Nat) : Nat × Bool × State :=
  let n := min out.length (s.rd K.dramDramPopulated - j.dst)
  let s := if n = 0 then s else s.blockWrite j.port j.dst (out.take n)
  if n = out.length then (n, true, s) else (n, false, s.mapError (j.dst + n))

/-- ZE_JOB_DONE (R396 to R403): the job's input is read, worked on, and its output written. -/
def zeJobDone (e : Nat) (s : State) : State :=
  match (s.ze e).job with
  | none => s
  | some j =>
    if ¬ s.zeAwake then s
    else
      let r := if j.inLen = 0 then ([], s) else s.blockRead j.port j.src j.inLen
      let s := r.2
      let lost := j.inLen ≠ 0 ∧ ¬ s.inDram j.src j.inLen
      match j.verified r.1 with
      | (st, crc, out) =>
        if lost then s.jobEnds e j zeBus 0 0 []
        else if j.kind = 2 then s.jobEnds e j st crc out.length out
        else if j.op = 2 then s.jobEnds e j st crc 0 []
        else if j.op = 0 ∧ st ≠ zeOk then
          let s := if st = zeEmpty then s else s.scratch j (min j.outLimit (j.inLen - 64))
          s.jobEnds e j st crc 0 []
        else
          match s.putOut j out with
          | (n, ok, s) => s.jobEnds e j (if ok then st else zeBus) crc n []

/-- ZE_JOB_DONE. -/
def execZeJobDone (e : Nat) (s : State) : Host.Outcome State Fault Refusal := inst (Nat.blt e 6) (zeJobDone e s)

/-- A job stops before its end with ABORTED (R405, R510): how many bytes were written is not stated. -/
def State.jobAborts (s : State) (e : Nat) (j : ZeJob) : State :=
  if j.kind = 2 ∨ j.op = 2 then s.jobEnds e j zeAborted 0 0 []
  else
    let inp := s.dramBytes j.src (if s.inDram j.src j.inLen then j.inLen else 0)
    let out := if j.op = 0 then compressStream j.block j.level inp else (j.work inp).2.2
    match s.fresh with
    | (v, s) =>
      match s.putOut j (out.take (v % (min j.outLimit out.length + 1))) with
      | (n, _, s) =>
        match s.fresh with
        | (crc, s) => s.jobEnds e j zeAborted (crc % 2 ^ 32) n []

/-- ZE_ABORT (R405). -/
def zeAbortWrite (a : Acc) (e : Nat) (s : State) : State :=
  s.act a (K.zesAbort e) 0 fun s =>
    match (s.ze e).job with
    | some j => if accVal a (K.zesAbort e) = 1 ∧ j.kind = 1 then s.jobAborts e j else s
    | none => s

/-- ZE_ABORT. -/
def execZeAbort (a : Acc) (e : Nat) (s : State) : Host.Outcome State Fault Refusal := inst (Nat.blt e 6) (zeAbortWrite a e s)

/-- On entry to FAULT or FENCED every job ends ABORTED (R510). -/
def State.zeHalt (s : State) : State :=
  let s := (List.range 6).foldl (fun (s : State) e => match (s.ze e).job with | some j => s.jobAborts e j | none => s) s
  { (s.cropJobs.foldl (fun (s : State) j => s.cropJobDone j zeAborted 0) s).wr K.zeCropWaiting 0 with cropJobs := [] }

/-- Engines become reserved: a crop or software job on one ends PREEMPTED (R406, R407). -/
def State.zeReserve (s : State) (mask : Nat) : State :=
  let s := s.wr K.zeReserved mask
  (List.range 6).foldl (fun (s : State) e =>
    match (s.ze e).job with
    | some j => if bitOf mask e ∧ j.kind ≠ 2 then s.jobEnds e j zePreempted 0 0 [] else s.zeShow e
    | none => s.zeShow e) s

/-- Engines are released: a Slip job in progress goes on, the rings resume (R407). -/
def State.zeRelease (s : State) : State := (List.range 6).foldl State.zeShow (s.wr K.zeReserved 0)

/-- The apply of an engine's ring group sets JobHead and JobTail to 0 (R410). -/
def State.zeRingApply (s : State) (e : Nat) : State :=
  ((s.wr (K.zesJobHead e) 0).wr (K.zesJobTail e) 0).setZe e { s.ze e with stopped := false }

end Sys2Proof.Machine
end

