-- ==== Sys2Proof/Machine/Memory.lean ====
section
/-! DEFINITION. DRAM channels (R357 to R366, R516, R551): refresh, temperature, grants to waiting requests, patrol and ECC,
self-refresh, and tracking. -/

namespace Sys2Proof.Machine

/-- A channel's record. -/
def State.dramCh (s : State) (c : Nat) : DramCh := tget {} s.drams c

/-- Set a channel's record. -/
def State.setDramCh (s : State) (c : Nat) (x : DramCh) : State := { s with drams := tput s.drams c x }

/-- The channel is READY; is in self-refresh. -/
def State.dramReady (s : State) (c : Nat) : Bool := s.rd (K.dcsChannelState c) == 2
def State.dramAsleep (s : State) (c : Nat) : Bool := s.rd (K.dcsChannelState c) == 3

/-- DOUBLE_REFRESH holds (R360). -/
def DramCh.double (x : DramCh) : Bool := x.hot || x.tempFail

/-- tREFI in FABCLK. -/
def DramCh.refi (x : DramCh) : Nat := if x.double then 3120 else 6240

/-- tRFC in FABCLK. -/
def State.rfc (s : State) (c : Nat) : Nat := ceilDiv (s.rd (K.dcTrfc c) * 4) 5

/-- The channel a DRAM address lies in (R357). -/
def State.dramOf (s : State) (a : Nat) : Nat :=
  if s.rd K.dramInterleave = 1 then field a 9 8
  else
    let used := [0, 1, 2, 3].filter fun c => s.bit K.dramChannelsPresent c
    (used.foldl (fun (p : Nat × Option Nat) c =>
      let e := p.1 + s.rd (K.dcCapacity c)
      (e, p.2.or (if a < e then some c else none))) (0, none)).2.getD 0

/-- DRAM_REFRESH (R360): tREFI after the last refresh. -/
def dramRefresh (c : Nat) (s : State) : State :=
  if ¬ s.dramReady c then s
  else
    let x := s.dramCh c
    let t := x.refreshed + x.refi
    ((s.at t).setDramCh c { x with refreshed := t }).inc 64 (K.dcsRefreshes c)

/-- DRAM_REFRESH. -/
def execDramRefresh (ch : Nat) (s : State) : Host.Outcome State Fault Refusal := inst (Nat.blt ch 4) (dramRefresh ch s)

/-- Show the temperature flags of a channel. -/
def State.tempFlags (s : State) (c : Nat) (m : Nat) : State :=
  if s.rd (K.dcsChannelStatus c) &&& m = m then s else s.flag (K.dcsChannelStatus c) m 114

/-- DRAM_TEMP_READ (R360): the case temperature in m°C, or a read that failed. -/
def dramTempRead (c : Nat) (temp : Option Int) (s : State) : State :=
  if s.rd (K.dcsChannelState c) = 0 then s
  else
    let x := s.dramCh c
    match temp with
    | none => (s.setDramCh c { x with tempFail := true }).tempFlags c 6
    | some t =>
      let x : DramCh := { x with tempFail := false, hot := if 85000 < t then true else if t < 83000 then false else x.hot }
      let s := (s.setDramCh c x).wr (K.dcsCaseTemp c) (ofI 32 t)
      if x.hot then s.tempFlags c 2 else s.unflag (K.dcsChannelStatus c) 2

/-- DRAM_TEMP_READ. -/
def execDramTempRead (ch : Nat) (temp : Option Int) (s : State) : Host.Outcome State Fault Refusal :=
  inst (Nat.blt ch 4) (dramTempRead ch temp s)

/-! ### Grants (R363 to R365) -/

/-- The ports with a request waiting. -/
def waitingPorts (l : List DramReq) : List Nat := (List.range 12).filter fun p => l.any fun r => r.port == p

/-- Priority of a port. -/
def State.portPriority (s : State) (p : Nat) : Nat := s.rd (K.prioPriority p)

/-- The port to grant: the highest priority, round robin in port order after the port last granted at it. -/
def State.grantPort (s : State) (c : Nat) : Option Nat :=
  let x := s.dramCh c
  let ports := waitingPorts x.wait
  let best := ports.foldl (fun m p => min m (s.portPriority p)) 8
  let at_ := ports.filter fun p => s.portPriority p == best
  let later := match tfind x.last best with
    | some q => at_.filter fun p => Nat.blt q p
    | none => []
  (later ++ at_).head?

/-- Take the oldest request of a port. -/
def takeReq (p : Nat) : List DramReq → Option (DramReq × List DramReq)
  | [] => none
  | r :: l => if r.port = p then some (r, l) else (takeReq p l).map fun q => (q.1, r :: q.2)

/-- The channel leaves self-refresh for a request (R551). -/
def State.dramWake (s : State) (c : Nat) : State :=
  if s.dramAsleep c then (s.wr (K.dcsChannelState c) 2).setDramCh c { s.dramCh c with refreshed := s.now } else s

/-- A granted request is performed: a write lands, or a read's bytes are what the hart reads (kept under 8 + hart). -/
def State.dramPerform (s : State) (r : DramReq) : State :=
  if r.write then s.blockWrite r.port r.addr r.bytes
  else
    match s.blockRead r.port r.addr r.len with
    | (l, s) => { s with readData := tput s.readData (8 + r.hart) (ofLe l) }

/-- DRAM_GRANT (R363): refresh takes precedence, and no request is served for tRFC after a refresh. -/
def dramGrant (c : Nat) (s : State) : State :=
  match s.grantPort c with
  | none => s
  | some p =>
    let s := s.dramWake c
    let x := s.dramCh c
    let t := max s.now (x.refreshed + s.rfc c)
    if ¬ s.dramReady c ∨ x.refreshed + x.refi ≤ t then s
    else
      match takeReq p x.wait with
      | none => s
      | some (r, l) =>
        let s := s.at t
        let s := s.setDramCh c { x with wait := l, last := tput x.last (s.portPriority p) p, busy := s.now }
        (s.peak (K.portMaxLatency p) (s.now - r.stamp)).dramPerform r

/-- DRAM_GRANT. -/
def execDramGrant (ch : Nat) (s : State) : Host.Outcome State Fault Refusal := inst (Nat.blt ch 4) (dramGrant ch s)

/-! ### ECC (R361) -/

/-- A corrected error at an address. -/
def State.eccCorrected (s : State) (c a : Nat) : State :=
  let s := (s.inc 32 (K.dcsCorrectedErrors c)).wr (K.dcsLastCorrectedAddress c) a
  let s := if s.on K.dramScrubOnRead then s.add 64 (K.portBytesWritten 11) 64 else s
  (s.flag (K.dcsChannelStatus c) 1 113).raise Ev.memEccCorrected

/-! ### Self-refresh and tracking (R516, R551) -/

/-- SELF_REFRESH_ENTRY (R551): in STANDBY with SleepMask bit 6, after SelfRefreshIdle µs without a request. -/
def selfRefreshEntry (c : Nat) (s : State) : State :=
  let x := s.dramCh c
  if s.dev ≠ stStandby ∨ ¬ s.bit K.pwrSleepMask 6 ∨ s.rd K.pwrSelfRefreshIdle = 0 ∨ ¬ s.dramReady c ∨ ¬ x.wait.isEmpty then s
  else (s.at (x.busy + us (s.rd K.pwrSelfRefreshIdle))).wr (K.dcsChannelState c) 3

/-- SELF_REFRESH_ENTRY. -/
def execSelfRefreshEntry (ch : Nat) (s : State) : Host.Outcome State Fault Refusal := inst (Nat.blt ch 4) (selfRefreshEntry ch s)

/-- A byte lane's read DQS delay moves by at most one tap; 8 taps from its trained value end its tracking (R516). -/
def trackLane (c : Nat) (s : State) (m : Int × Nat) : State :=
  let x := s.dramCh c
  let old := tget 0 x.moved m.2
  let d := clampI (-1) 1 m.1
  if 8 ≤ old.natAbs ∨ d = 0 then s
  else
    let s := (s.setDramCh c { x with moved := tput x.moved m.2 (old + d) }).inc 32 K.calDdrTrackSteps
    if 8 ≤ (old + d).natAbs then s.flag K.calCalStatus 2 9 else s

/-- DDR_TRACK (R516): one step for each of the nine byte lanes, inside a refresh stall. -/
def ddrTrack (c : Nat) (moves : List Int) (s : State) : State :=
  if s.rd K.calDdrTrackPeriod = 0 ∨ ¬ s.dramReady c then s else ((moves.take 9).zipIdx).foldl (trackLane c) s

/-- DDR_TRACK. -/
def execDdrTrack (ch : Nat) (moves : List Int) (s : State) : Host.Outcome State Fault Refusal :=
  inst (Nat.blt ch 4) (ddrTrack ch moves s)

/-- A channel has a byte lane that has stopped tracking. -/
def State.ddrDrifted (s : State) : Bool := s.drams.any fun e => e.2.moved.any fun m => Nat.ble 8 m.2.natAbs

end Sys2Proof.Machine
end

