-- ==== Sys2Proof/Machine/Dma.lean ====
section
/-! DEFINITION. DMA channels and hardware queues (R369 to R380): descriptors, pacing, movement, completion, errors, aborts and
flushes. A descriptor's data moves when the command that ends its burst comes. -/

namespace Sys2Proof.Machine

/-! ### Records and fields (R374) -/

/-- A channel's record. -/
def State.dma (s : State) (c : Nat) : Dma := tget {} s.dmas c

/-- Set a channel's record. -/
def State.setDma (s : State) (c : Nat) (x : Dma) : State := { s with dmas := tput s.dmas c x }

/-- ChannelState codes (R387): 0 IDLE, 1 FETCH, 2 ACTIVE, 3 WAIT_PACE, 4 WAIT_DESC, 5 HALTED. -/
def State.dmaState (s : State) (c : Nat) : Nat := s.rd (K.dmasChannelState c)

/-- The source is a queue; the destination is a queue; the source, the destination lies in host memory. -/
def Dma.fromQueue (x : Dma) : Bool := field x.ctrl 9 8 == 1
def Dma.toQueue (x : Dma) : Bool := field x.ctrl 11 10 == 1
def Dma.fromHost (x : Dma) : Bool := !x.fromQueue && field x.ctrl 13 12 == 1
def Dma.toHost (x : Dma) : Bool := !x.toQueue && field x.ctrl 15 14 == 1

/-- The queue a descriptor names. -/
def Dma.queue (x : Dma) : Option Nat :=
  if x.fromQueue then some (x.src % 64) else if x.toQueue then some (x.dst % 64) else none

/-- IRQ, EARLY and LAST. -/
def Dma.irq (x : Dma) : Bool := bitOf x.ctrl 1
def Dma.early (x : Dma) : Bool := bitOf x.ctrl 2
def Dma.lastDesc (x : Dma) : Bool := bitOf x.ctrl 3

/-- The device may master host memory (R480). -/
def State.busMaster (s : State) : Bool := s.on K.pcieBusMaster

/-- CPL_ERROR (R480). -/
def State.cplError (s : State) : State := (s.inc 32 K.pcieCplErrors).flag K.pciePcieStatus 16 194

/-! ### Completing a descriptor (R375, R378 to R380) -/

/-- Write back Status, ByteCount and Time (R374). -/
def State.dmaWriteback (s : State) (c st bytes : Nat) : State :=
  let a := s.rd (K.dmasCurrentDesc c)
  if s.inDram a 64 then s.blockWrite 7 (a + 32) ([st, 0, 0, 0] ++ leBytes 4 bytes ++ leBytes 8 s.timeNs) else s

/-- What every completion leaves: the writeback, LastStatus, the counters, the queue released. -/
def State.dmaEnd (s : State) (c st : Nat) (x : Dma) : State :=
  let s := s.dmaWriteback c st x.moved
  let s := (s.wr (K.dmasLastStatus c) st).inc 32 (K.dmasCompletions c)
  match x.queue with
  | some q => if s.rd (K.qsConsumer q) = c then s.wr (K.qsConsumer q) 255 else s
  | none => s

/-- A descriptor ends with an error: the channel halts (R375, R379). -/
def State.dmaError (s : State) (c st : Nat) (x : Dma) : State :=
  let s := (s.dmaEnd c st x).inc 32 (K.dmasErrorCount c)
  let s := (s.setDma c { x with burst := 0, haltedOnError := true }).wr (K.dmasChannelState c) 5
  let s := if st = 5 then s.witness 0x40 (10 * 256 + c) 0 st (s.rd (K.dmasCurrentDesc c)) else s
  (s.arrive 118).raise (Ev.dmaError c)

/-- DMAc_DONE where the descriptor asks for it (R378). -/
def State.dmaDone (s : State) (c : Nat) (x : Dma) : State := if x.irq then (s.arrive 117).raise (Ev.dmaDone c) else s

/-- The channel goes on to Next, or to IDLE (R378). -/
def State.dmaNext (s : State) (c : Nat) (x : Dma) : State :=
  if x.lastDesc ∨ x.next = 0 then (s.setDma c { x with burst := 0 }).wr (K.dmasChannelState c) 0
  else ((s.setDma c { burst := x.burst }).wr (K.dmasCurrentDesc c) x.next).wr (K.dmasChannelState c) 1

/-- A descriptor completes DONE, EARLY_DONE or FLUSHED, and the channel goes on. -/
def State.dmaComplete (s : State) (c st : Nat) (x : Dma) : State := ((s.dmaEnd c st x).dmaDone c x).dmaNext c x

/-! ### Control (R375, R380) -/

/-- DMA_GO (R380). -/
def dmaGoWrite (a : Acc) (c : Nat) (s : State) : State :=
  let own := if s.dmaState c = 0 ∨ s.dmaState c = 5 then 0 else 13
  s.act a (K.dmasGo c) own fun s =>
    if accVal a (K.dmasGo c) ≠ 1 then s
    else (((s.setDma c {}).wr (K.dmasLastStatus c) 0).wr (K.dmasCurrentDesc c) (s.rd (K.dmasStart c))).wr (K.dmasChannelState c) 1

/-- DMA_GO. -/
def execDmaGo (a : Acc) (c : Nat) (s : State) : Host.Outcome State Fault Refusal := inst (Nat.blt c 32) (dmaGoWrite a c s)

/-- DOORBELL (R375). -/
def doorbellWrite (a : Acc) (c : Nat) (s : State) : State :=
  s.act a (K.dmasDoorbell c) 0 fun s =>
    if accVal a (K.dmasDoorbell c) = 1 ∧ s.dmaState c = 4 then s.wr (K.dmasChannelState c) 1 else s

/-- DOORBELL. -/
def execDoorbell (a : Acc) (c : Nat) (s : State) : Host.Outcome State Fault Refusal := inst (Nat.blt c 32) (doorbellWrite a c s)

/-- The status of a descriptor's check: 0, DESC_ERROR or ALIGN_ERROR (R375). -/
def State.descCheck (s : State) (c : Nat) (x : Dma) : Nat :=
  let badQueue : Bool := match x.queue with
    | some q => !s.on (K.qQueueEnable q) || (s.rd (K.qsConsumer q) != 255 && s.rd (K.qsConsumer q) != c) ||
        Nat.blt x.length (s.rd (K.qItemBytes q))
    | none => false
  if x.length = 0 ∨ (x.fromQueue ∧ x.toQueue) ∨ badQueue then 6
  else if x.length % 64 ≠ 0 ∨ (¬ x.fromQueue ∧ x.src % 64 ≠ 0) ∨ (¬ x.toQueue ∧ x.dst % 64 ≠ 0) ∨ x.next % 64 ≠ 0 then 5
  else 0

/-- DESC_FETCH (R375): a descriptor that reaches no store ends the channel with BUS_ERROR (R356). -/
def descFetch (c : Nat) (s : State) : State :=
  if s.dmaState c ≠ 1 then s
  else
    let a := s.rd (K.dmasCurrentDesc c)
    let burst := (s.dma c).burst
    match s.blockRead 8 a 64 with
    | (l, s) =>
      let x : Dma := { ctrl := leAt l 0 4, length := leAt l 4 4, src := leAt l 8 8, dst := leAt l 16 8, next := leAt l 24 8, burst := burst }
      if ¬ s.inDram a 64 then s.dmaError c 4 x
      else if ¬ bitOf x.ctrl 0 then (s.setDma c { burst := burst }).wr (K.dmasChannelState c) 4
      else
        match s.descCheck c x with
        | 0 =>
          let s := s.setDma c x
          let s := match x.queue with | some q => s.wr (K.qsConsumer q) c | none => s
          s.wr (K.dmasChannelState c) (if x.queue.isNone ∨ burst ≠ 0 then 2 else 3)
        | st => s.dmaError c st x

/-- DESC_FETCH. -/
def execDescFetch (c : Nat) (s : State) : Host.Outcome State Fault Refusal := inst (Nat.blt c 32) (descFetch c s)

/-! ### Pacing (R376) -/

/-- Items in a source queue, or free slots of a destination queue; none while its producers are paused (R370). -/
def State.paceLevel (s : State) (x : Dma) (q : Nat) : Nat :=
  if x.fromQueue then queFill (s.que q) else if s.queCredits q = 0 then 0 else queFree (s.bankSlots q) (s.que q)

/-- DMA_PACE_START (R376). -/
def dmaPaceStart (c : Nat) (s : State) : State :=
  let x := s.dma c
  match x.queue with
  | none => s
  | some q =>
    if s.dmaState c ≠ 3 ∨ s.paceLevel x q < max 1 (s.rd (K.dmaHighMark c)) then s
    else (s.setDma c { x with burst := 1 }).wr (K.dmasChannelState c) 2

/-- DMA_PACE_START. -/
def execDmaPaceStart (c : Nat) (s : State) : Host.Outcome State Fault Refusal := inst (Nat.blt c 32) (dmaPaceStart c s)

/-- The oldest item of a queue. -/
def queOldest (q : Que) : Option QItem := (q.oth.items ++ q.cur.items).head?

/-- DMA_MAXWAIT (R376). -/
def dmaMaxwait (c : Nat) (s : State) : State :=
  let x := s.dma c
  if s.dmaState c ≠ 3 ∨ ¬ x.fromQueue ∨ s.rd (K.dmaMaxWait c) = 0 then s
  else
    match queOldest (s.que (x.src % 64)) with
    | none => s
    | some it => ((s.at (it.stamp + us (s.rd (K.dmaMaxWait c)))).setDma c { x with burst := 2 }).wr (K.dmasChannelState c) 2

/-- DMA_MAXWAIT. -/
def execDmaMaxwait (c : Nat) (s : State) : Host.Outcome State Fault Refusal := inst (Nat.blt c 32) (dmaMaxwait c s)

/-! ### Movement (R376, R378) -/

/-- How many items or slots a burst may still move: down to LowMark, or until empty; with HighMark off, all. -/
def State.burstItems (s : State) (c : Nat) (x : Dma) (q : Nat) : Nat :=
  s.paceLevel x q - (if x.burst = 2 ∨ s.rd (K.dmaHighMark c) = 0 then 0 else s.rd (K.dmaLowMark c))

/-- The bytes the channel moves next: all of a memory-to-memory descriptor, or whole items. -/
def State.dmaPlan (s : State) (c : Nat) (x : Dma) : Nat :=
  match x.queue with
  | none => x.length - x.moved
  | some q =>
    let n := s.rd (K.qItemBytes q)
    n * min (s.burstItems c x q) ((x.length - x.moved) / n)

/-- The bytes of the first items of a queue. -/
def queBytes (q : Que) (n : Nat) : List Nat := ((q.oth.items ++ q.cur.items).flatMap fun it => it.bytes).take n

/-- The next `n` source bytes; those of host memory are the host's. -/
def State.dmaSource (s : State) (x : Dma) (n : Nat) (host : List Nat) : List Nat :=
  if x.fromQueue then queBytes (s.que (x.src % 64)) n
  else if x.fromHost then padTo n (host.take n)
  else (List.range n).map fun i => s.memByte (x.src + x.moved + i)

/-- Consume whole items from a queue (R369). -/
def consume (q : Nat) : Nat → State → State
  | 0, s => s
  | n + 1, s =>
    match queTake (s.que q) with
    | some (_, qu) =>
      consume q n (({ s with queues := tput s.queues q qu }.wr (K.qsFill q) (queFill qu)).inc 64 (K.qsItemsOut q))
    | none => s

/-- Write items into a queue from bytes. -/
def produce (q size : Nat) : Nat → List Nat → State → State
  | 0, _, s => s
  | n + 1, l, s => produce q size n (l.drop size) (s.offer q (l.take size)).2

/-- Move `n` bytes: they are read, written, and whole items leave or enter the queue. -/
def State.dmaMove (s : State) (c n : Nat) (host : List Nat) : State :=
  let x := s.dma c
  let l := s.dmaSource x n host
  let s := if x.fromQueue then consume (x.src % 64) (n / s.rd (K.qItemBytes (x.src % 64))) s
    else if x.fromHost then s else s.add 64 (K.portBytesRead 8) n
  let s :=
    if x.toQueue then produce (x.dst % 64) (s.rd (K.qItemBytes (x.dst % 64))) (n / s.rd (K.qItemBytes (x.dst % 64))) l s
    else if x.toHost then { s with hostOut := s.hostOut ++ [{ addr := x.dst + x.moved, bytes := l }] }
    else s.blockWrite 7 (x.dst + x.moved) l
  (s.setDma c { x with moved := x.moved + n }).add 64 (K.dmasBytesMoved c) n

/-- A beat of 64 bytes at an offset of the descriptor that reaches no store, or that the host cannot answer: whether the failure is a
map error, and its address (R356, R480). -/
def State.badBeat (s : State) (x : Dma) (o : Nat) : Option (Bool × Nat) :=
  if (x.fromHost ∨ x.toHost) ∧ ¬ s.busMaster then some (false, 0)
  else if ¬ x.fromQueue ∧ ¬ x.fromHost ∧ ¬ s.inDram (x.src + o) 64 ∧ ¬ inSram (x.src + o) 64 then some (true, x.src + o)
  else if ¬ x.toQueue ∧ ¬ x.toHost ∧ ¬ s.inDram (x.dst + o) 64 then some (true, x.dst + o)
  else none

/-- The first bad beat among the beats of a plan. -/
def State.firstBad (s : State) (x : Dma) (n : Nat) : Option (Nat × Bool × Nat) :=
  (List.range (n / 64)).findSome? fun i => (s.badBeat x (x.moved + 64 * i)).map fun f => (i, f)

/-- A beat gets an error response after `beats` good ones of a plan of `n` bytes (R379): TAIL_ERROR for the last beat of the
descriptor, else BUS_ERROR with the beats before it. -/
def State.dmaFail (s : State) (c n beats : Nat) (host : List Nat) : State :=
  let s := s.dmaMove c (64 * min beats (n / 64)) host
  let x := s.dma c
  if x.moved + 64 = x.length then s.dmaError c 3 { x with moved := x.length } else s.dmaError c 4 x

/-- After a plan has moved (R376): the descriptor is full, or its burst has ended. -/
def State.dmaSettle (s : State) (c : Nat) : State :=
  let x := s.dma c
  match x.queue with
  | none => s.dmaComplete c 1 x
  | some q =>
    let ended := s.burstItems c x q == 0
    let x : Dma := { x with burst := if ended then 0 else x.burst }
    if x.length - x.moved < s.rd (K.qItemBytes q) then s.dmaComplete c 1 x
    else if x.early ∧ 0 < x.moved then s.dmaComplete c 2 x
    else (s.setDma c x).wr (K.dmasChannelState c) 3

/-- DESC_COMPLETE (R376, R378, R379): the burst's beats have been acknowledged; `host` holds what host memory answered. -/
def descComplete (c : Nat) (host : List Nat) (s : State) : State :=
  if s.dmaState c ≠ 2 then s
  else
    let x := s.dma c
    let n := s.dmaPlan c x
    match s.firstBad x n with
    | some (i, true, a) => (s.mapError a).dmaFail c n i host
    | some (i, false, _) => s.cplError.dmaFail c n i host
    | none => (s.dmaMove c n host).dmaSettle c

/-- DESC_COMPLETE. -/
def execDescComplete (c : Nat) (host : List Nat) (s : State) : Host.Outcome State Fault Refusal :=
  inst (Nat.blt c 32) (descComplete c host s)

/-- DMA_ERROR_RESPONSE (R379, R480): the host answers beat `beats` with an error. -/
def dmaErrorResponse (c beats : Nat) (host : List Nat) (s : State) : State :=
  let x := s.dma c
  let n := s.dmaPlan c x
  if s.dmaState c ≠ 2 ∨ ¬ (x.fromHost ∨ x.toHost) ∨ n ≤ 64 * beats then s else s.cplError.dmaFail c n beats host

/-- DMA_ERROR_RESPONSE. -/
def execDmaErrorResponse (c beats : Nat) (host : List Nat) (s : State) : Host.Outcome State Fault Refusal :=
  inst (Nat.blt c 32) (dmaErrorResponse c beats host s)

/-- A descriptor stops within its plan: how many beats were written is not stated, nor what host memory answered for them. -/
def State.dmaPartial (s : State) (c : Nat) : State :=
  let n := s.dmaPlan c (s.dma c)
  match s.fresh with
  | (v, s) =>
    let good := match s.firstBad (s.dma c) n with | some (i, _) => i | none => n / 64
    s.dmaMove c (64 * (v % (good + 1))) ((List.range n).map (Config.scratchByte v))

/-- The channel stops at the next beat boundary (R380, R510). -/
def State.dmaStop (s : State) (c : Nat) : State :=
  if s.dmaState c = 2 ∨ s.dmaState c = 3 then
    let s := if s.dmaState c = 2 then s.dmaPartial c else s
    let x := s.dma c
    (((s.dmaEnd c 8 x).dmaDone c x).setDma c {}).wr (K.dmasChannelState c) 0
  else if s.dmaState c = 1 ∨ s.dmaState c = 4 then (s.setDma c {}).wr (K.dmasChannelState c) 0
  else s

/-- DMA_ABORT (R380). -/
def dmaAbortWrite (a : Acc) (c : Nat) (s : State) : State :=
  s.act a (K.dmasAbort c) 0 fun s => if accVal a (K.dmasAbort c) = 1 then s.dmaStop c else s

/-- DMA_ABORT. -/
def execDmaAbort (a : Acc) (c : Nat) (s : State) : Host.Outcome State Fault Refusal := inst (Nat.blt c 32) (dmaAbortWrite a c s)

/-! ### Queues (R370 to R373) -/

/-- QUEUE_ITEM_WRITE (R370, R371). -/
def execQueueItemWrite (q : Nat) (item : List Nat) (s : State) : Host.Outcome State Fault Refusal :=
  inst (Nat.blt q 64) (s.offer q item).2

/-- A flush (R372): the channel that reads from the queue ends its descriptor with FLUSHED and goes on. -/
def State.flushQ (s : State) (q : Nat) : State :=
  let s := s.flushQueue q
  let c := s.rd (K.qsConsumer q)
  let x := s.dma c
  if c < 32 ∧ x.fromQueue ∧ x.src % 64 = q ∧ (s.dmaState c = 2 ∨ s.dmaState c = 3) then
    s.dmaComplete c 7 { x with burst := 0 }
  else s

/-- QUEUE_FLUSH (R372). -/
def queueFlushWrite (a : Acc) (q : Nat) (s : State) : State :=
  s.act a (K.qsFlush q) 0 fun s => if accVal a (K.qsFlush q) = 1 then s.flushQ q else s

/-- QUEUE_FLUSH. -/
def execQueueFlush (a : Acc) (q : Nat) (s : State) : Host.Outcome State Fault Refusal := inst (Nat.blt q 64) (queueFlushWrite a q s)

/-- The apply of a queue's group (R372, R373): a queue switched off, or whose geometry changes, is flushed. -/
def State.queueApply (s t : State) (q : Nat) : State :=
  let t := t.wr (K.qsCapacity q) (2 * t.bankSlots q)
  if (s.on (K.qQueueEnable q) ∧ ¬ t.on (K.qQueueEnable q)) ∨ s.rd (K.qItemBytes q) ≠ t.rd (K.qItemBytes q) ∨
     s.rd (K.qBankSherds q) ≠ t.rd (K.qBankSherds q) then t.flushQ q
  else t

end Sys2Proof.Machine
end

