-- ==== Sys2Proof/Machine/Checks.lean ====
section
/-! DEFINITION. What a COMMIT write checks (R48, R49, R356, R367, R368): the zero rule, the cross-field rules of every group's
chapter, and the sherds a group reserves. The staged set is read as the live set of the state in which the group's Shadow bank has
gone live. -/

namespace Sys2Proof.Machine

/-- A rule of a commit: whether it holds, and the subindices of the group it reads, lowest first; none for a rule that reads no entry
of the group (R49). -/
abbrev Rule := Bool × List Nat

/-- The device is in STOPPED or STANDBY. -/
def State.atRest (s : State) : Bool := s.dev == stStopped || s.dev == stStandby

/-- The device is in ARMED, RUNNING or DRAINING. -/
def State.atWork (s : State) : Bool := s.dev == stArmed || s.dev == stRunning || s.dev == stDraining

/-- The subindices of a list whose values the commit changes. -/
def changedSubs (s t : State) (idx : Nat) (subs : List Nat) : List Nat :=
  subs.filter fun i => s.rd (idx * 256 + i) != t.rd (idx * 256 + i)

/-- A rule that lets the listed entries change only while `ok`. -/
def keepRule (s t : State) (idx : Nat) (ok : Bool) (subs : List Nat) : Rule :=
  let c := changedSubs s t idx subs
  (ok || c.isEmpty, c)

/-- A span of a 40-bit address lies in populated DRAM (R356). -/
def spanRule (t : State) (base span : Nat) (subs : List Nat) : Rule := (t.inDram base (max 1 span), subs)

/-- A multiple of `m`. -/
def multRule (v m sub : Nat) : Rule := (v % m == 0, [sub])

/-! ### Rules of several groups -/

/-- R20: the ring covers the furthest camera row's distance, one band of that camera and two contone rows. -/
def ringCovers (t : State) : Bool :=
  let far := (List.range 12).foldl (fun b n => if t.rdI 64 (K.cgenOffset b) < t.rdI 64 (K.cgenOffset n) then n else b) 0
  let row : Int := t.rd K.ringRingRowPitch
  decide (t.rdI 64 (K.cgenOffset far) * 2 ^ 32 + t.rd (K.camBandLength far) * t.camPitch far + 2 * row ≤ t.rd K.ringRingRows * row)

/-- The layout rules of R166 for the members. -/
def layoutOk (t : State) : Bool :=
  let l := t.layout.map fun n => (t.rd (K.memColStart n), t.rd (K.memColStart n) + t.rd (K.memColCount n))
  let pairs := l.zip l.tail
  (pairs.all fun p => Nat.blt p.1.1 p.2.1 && Nat.blt p.1.2 p.2.2 && Nat.ble p.2.1 p.1.2) &&
  ((l.zip (l.drop 2)).all fun p => Nat.ble p.1.2 p.2.1) &&
  (match l with
   | [] => t.rd K.seamWidth == 0
   | p :: _ => t.rd K.seamWidth == 0 || (p.1 == 0 && Nat.ble (t.rd K.seamWidth) ((l.getLastD p).2)))

/-- The rules of R166 for seam i, between the members left and right. -/
def seamOk (t : State) (i left right : Nat) : Bool :=
  let a := t.rd (K.memColStart right)
  let wo := t.rd (K.memColStart left) + t.rd (K.memColCount left) - a
  let c := t.rd (K.smSeamCentre i)
  let half := t.rd (K.smBlendWidth i) / 2
  Nat.ble c wo &&
  (t.rd (K.smSeamMode i) == 1 ||
    (wo != 0 && t.rd (K.smBlendWidth i) % 2 == 0 && Nat.ble half c && Nat.ble (c + half) wo &&
     t.rd (K.memLineShift left) == t.rd (K.memLineShift right)))

/-- Every seam of the layout meets its rules. -/
def seamsOk (t : State) : Bool :=
  let l := t.layout
  ((l.zip l.tail).zipIdx).all fun p => seamOk t p.2 p.1.1 p.1.2

/-- RowBytes of a bar (R258). -/
def rowBytes (t : State) (b : Nat) : Nat :=
  ceilDiv (t.rd (K.barHeadCount b) * t.rd (K.barHeadNozzles b)) (t.rd K.jobUpX)

/-- A bar's input queue is long enough (R258). -/
def queueOk (t : State) (b : Nat) : Bool :=
  let keep := if t.rd K.jobUpModeY = 1 then 2 else 1
  Nat.ble (keep * rowBytes t b + ceilDiv (8 * rowBytes t b * t.rd (K.barMaxLineRate b)) (1000000 * t.rd K.jobUpY))
    (t.rd (K.barInputSherds b) * 4096)

/-- The engines supply the rows, and the lanes the drops (R258). -/
def ratesOk (t : State) : Bool :=
  let bars := t.barsOn
  Nat.ble ((bars.map fun b => rowBytes t b * t.rd (K.barMaxLineRate b)).sum)
    (4800000000 * ((List.range 6).filter fun e => t.bit K.jobSlipEngines e).length * t.rd K.jobUpY) &&
  Nat.ble ((bars.map fun b => t.rd (K.barHeadCount b) * t.rd (K.barHeadNozzles b) * t.rd (K.barMaxLineRate b)).sum) 92160000000

/-- Not all six engines are Slip's while crops are compressed (R408). -/
def enginesOk (t : State) : Bool := t.rd K.jobSlipEngines != 63 || !t.on K.cropCropCompress

/-- The heads of a bar's range. -/
def inBar (t : State) (first count : Nat → Nat) (b h : Nat) : Bool :=
  Nat.ble (t.rd (first b)) h && Nat.blt h (t.rd (first b) + t.rd (count b))

/-! ### Rules of each group -/

/-- The longest serial frame and its pause fit within SerialPeriod (R100). -/
def serialFits (t : State) (n : Nat) : Bool :=
  let bits := t.rd (K.encSerialBits n)
  let clocks := if t.rd (K.encMode n) = 2 then t.rd (K.encAckTimeout n) + 2 + bits + 8
    else t.rd (K.encSerialSkip n) + bits + (if t.rd (K.encSerialParity n) = 0 then 0 else 1)
  let hz := t.rd (K.encSerialClock n)
  (t.rd (K.encMode n) != 2 && t.rd (K.encMode n) != 3) ||
  Nat.ble (clocks * 1000000 + t.rd (K.encSerialPause n) * hz) (t.rd (K.encSerialPeriod n) * hz)

/-- Encoder channel (R100). -/
def encRules (s t : State) (n : Nat) : List Rule :=
  [(!((s.rd K.whlWebMaster == n || s.rd K.whlRedundantChannel == n) && s.atWork), []),
   (Nat.blt (t.rd (K.encBlendLow n)) (t.rd (K.encBlendHigh n)), [0x0B]),
   (Nat.blt (t.rd (K.encIndexExpected n)) (t.rd (K.encCountsPerRev n)), [6]),
   (Nat.blt (2 * t.rd (K.encIndexTolerance n)) (t.rd (K.encCountsPerRev n)), [6]),
   (t.rd (K.encScale n) != 0, [7]), (serialFits t n, [1])]

/-- Compare unit (R92, R93). -/
def cmpRules (s t : State) (m : Nat) : List Rule :=
  let pin := t.rd (K.cmpOutputPin m)
  let others := (List.range 16).filter fun u => u != m && Nat.blt pin 32
  let agree (rd : Nat → Nat) (u : Nat) : Bool :=
    rd (K.cmpOutputPin u) != pin ||
    (rd (K.cmpActiveLevel u) == t.rd (K.cmpActiveLevel m) && rd (K.cmpSafeLevel u) == t.rd (K.cmpSafeLevel m))
  [(others.all fun u => agree s.rd u && (s.rd (K.commit (0x2040 + u)) != 1 || agree s.sh u), [8]),
   (!(Nat.blt pin 32 && s.otherPins.contains pin), [8])]

/-- Trigger generator (R104). -/
def genRules (t : State) (g : Nat) : List Rule :=
  [(t.rd (genKey K.cgenPitchWhole K.rgenPitchWhole g) != 0, [3])] ++
  (if g < 12 then [(!t.on K.ringRingEnable || ringCovers t, [2])] else [])

/-- Camera channel (R126). -/
def camRules (s t : State) (n : Nat) : List Rule :=
  [(t.rd (K.camLineLength n) % (8 * t.rd (K.camRowsPerLine n)) == 0, [1]),
   (Nat.ble (t.rd (K.camLineLength n) / t.rd (K.camRowsPerLine n)) 16384, [1]),
   keepRule s t (0x2200 + n) (!s.atWork) [2, 3, 4, 5, 8]]

/-- The defect map (R140). -/
def defectRules (t : State) (n : Nat) : List Rule :=
  let c := t.rd (K.ctxDefectCount n)
  let rows := t.rd (K.camRowsPerLine n)
  let w := t.ctxW n
  let es := (List.range c).map (t.dom32 (K.ctxDefectMap n))
  let ix := es.map fun e => e % 65536
  let good (i : Nat) : Bool := !ix.contains i
  [(Nat.ble c 1024, [0x0B]), (c == 0 || Nat.ble (4 * c) (t.domLen (K.ctxDefectMap n)), [0x0B]),
   ((ix.zip ix.tail).all fun p => Nat.blt p.1 p.2, [0x0B]), (ix.all fun i => Nat.blt i (w * rows), [3]),
   (es.all fun e => e / 2 ^ 30 != 3, [0x0B]),
   (es.all fun e =>
      let i := e % 65536
      let col := i % w
      (e / 2 ^ 30 == 2 || (Nat.ble rows col && good (i - rows))) && (e / 2 ^ 30 == 1 || (Nat.blt (col + rows) w && good (i + rows))),
    [3])]

/-- Prism context (R140, R143, R152). -/
def ctxRules (t : State) (n : Nat) : List Rule :=
  let rows := t.rd (K.camRowsPerLine n)
  defectRules t n ++
  [((t.rd (K.ctxDemosaicMode n) == 2) == (rows == 1), [0x0E]),
   (t.rd (K.ctxMergeMode n) == 0 || Nat.blt (t.rd (K.ctxKneeLow n)) (t.rd (K.ctxKneeHigh n)), [3]),
   (t.rd (K.ctxMergeMode n) != 1 || (t.rd (K.camLineLength n) / rows) % 2 == 0, [3]),
   (!t.on (K.ctxFlatEnable n) || t.domLen (K.ctxFlatTable n) == 4 * t.ctxW n * rows, [3]),
   (!t.on (K.ctxLinEnable n) || t.domLen (K.ctxLinTable n) == 8192, [1])]

/-- Replay (R148). -/
def replayRules (t : State) (n : Nat) : List Rule :=
  [multRule (t.rd (K.repReplayBase n)) 64 2, multRule (t.rd (K.repReplayStride n)) 64 4,
   (Nat.ble (2 * t.rd (K.camLineLength n)) (t.rd (K.repReplayStride n)), [4]),
   spanRule t (t.rd (K.repReplayBase n)) (t.rd (K.repReplayLines n) * t.rd (K.repReplayStride n)) [2]]

/-- Seam unit (R166, R170, R184). -/
def seamRules (s t : State) : List Rule :=
  [(s.atRest, []), (layoutOk t, [1]), (seamsOk t, [1]),
   (t.rd K.seamMonoWeightR + t.rd K.seamMonoWeightG + t.rd K.seamMonoWeightB == 65536, [6])]

/-- Member (R166, R185). -/
def memRules (s t : State) (n : Nat) : List Rule :=
  [keepRule s t (0x2610 + n) s.atRest [1, 2, 3], (!t.bit K.seamMemberMask n || (layoutOk t && seamsOk t), [1])]

/-- Seam i (R166, R186). -/
def smRules (s t : State) (i : Nat) : List Rule :=
  [(s.atRest, []),
   (match t.layout.drop i with | l :: r :: _ => seamOk t i l r | _ => true, [1])]

/-- Coding (R172, R188). -/
def codRules (s t : State) : List Rule :=
  let stride := t.rd K.codCodingStride
  [(s.atRest, []), multRule (t.rd K.codCodingBase) 64 5, multRule stride 64 6,
   (Nat.ble (t.codWidth * (if t.rd K.codCodingDepth = 0 then 1 else 2)) stride, [2]),
   (t.rd K.codCodingRingLines % t.rd K.codCodingChunk == 0, [7]), multRule (t.rd K.codCodingChunk) 2 8,
   spanRule t (t.rd K.codCodingBase) (t.rd K.codCodingRingLines * stride * 3 / 2) [5]]

/-- Window (R189). -/
def winRules (t : State) (w : Nat) : List Rule :=
  [multRule (t.rd (K.winBase w)) 64 5, multRule (t.rd (K.winStride w)) 64 6,
   (Nat.ble (t.rd (K.winColCount w) * t.visionSize) (t.rd (K.winStride w)), [3]),
   spanRule t (t.rd (K.winBase w)) (t.rd (K.winRingLines w) * t.rd (K.winStride w)) [5]]

/-- View (R177, R190). -/
def viewRules (t : State) (v : Nat) : List Rule :=
  [(Nat.ble (3 * t.rd (K.viewColumns v)) (t.rd (K.viewRingStride v)), [4]),
   (t.rd (K.viewOutput v) == 1 || (Nat.ble (t.rd (K.viewColumns v)) 1920 && Nat.ble (t.rd (K.viewLines v)) 1080), [2])]

/-- Umbra structure (R222, R223). -/
def umbRules (s t : State) : List Rule :=
  [(s.atRest, []), (Nat.ble (t.rd K.umbUsefulFirst) (t.rd K.umbUsefulLast), [2]),
   (Nat.blt (t.rd K.umbUsefulLast) (t.rd K.seamWidth), [3]), (t.bit K.seamMemberMask (t.rd K.umbBandChannel), [7])]

/-- Umbra tuning (R200, R211). -/
def tuneRules (t : State) : List Rule :=
  let le (r off n : Nat) := t.domLe K.segRuleTable (32 * r + off) n
  [(Nat.ble (t.rd K.segPenumbraLevel) (t.rd K.segUmbraLevel), [1]),
   ((List.range 64).all fun r =>
      (le r 0 1 == 255 || Nat.ble (le r 0 1) 63) && Nat.ble (le r 8 4) (le r 12 4) && Nat.ble (le r 16 2) (le r 18 2) &&
      Nat.ble (le r 20 2) (le r 22 2) && Nat.ble (le r 28 1) (le r 29 1) && Nat.ble (le r 30 1) (le r 31 1), [0x0D])]

/-- Nozzle map (R222, R226). -/
def ubarRules (s t : State) (b : Nat) : List Rule :=
  [(s.atRest, []), (Nat.ble (t.rd (K.ubarFirstHead b) + t.rd (K.ubarHeadCount b)) 128, [4])]

/-- Bytes of a crop's reservation (R219). -/
def cropNeed (t : State) : Nat :=
  let raw := 64 + t.rd K.cropCropMaxLines * (ceilDiv (t.rd K.cropCropWidth * t.visionSize) 64 * 64)
  if t.on K.cropCropCompress then 2 * raw else raw

/-- Crops (R222, R228, R408). -/
def cropRules (s t : State) : List Rule :=
  [(s.atRest, []), multRule (t.rd K.cropCropBase) 64 6, multRule (t.rd K.cropCropRingBytes) 64 7,
   (Nat.ble (cropNeed t) (t.rd K.cropCropRingBytes), [2]), spanRule t (t.rd K.cropCropBase) (t.rd K.cropCropRingBytes) [6],
   (enginesOk t, [8])]

/-- Job (R232, R258, R260, R408). -/
def jobRules (s t : State) : List Rule :=
  let es := List.range (t.rd K.jobEntryCount)
  let ok (e : Nat) : Bool :=
    let kind := t.entryLe e 0 1
    Nat.ble 1 kind && Nat.ble kind 4 &&
    (kind != 4 || t.entryLe e 4 4 == popcount16 (t.entryLe e 1 1) * 4 * t.entryLe e 16 4)
  [(s.atRest, []), (es.all ok, [1]),
   (es.all fun e => (List.range 8).all fun i => let d := t.entryLe e (32 + 8 * i) 8; d == 0 || t.inDram d 1, [1]),
   (t.barsOn.all (queueOk t), [4]), (ratesOk t, [4]), (enginesOk t, [8])]

/-- Ring (R20, R250, R261). -/
def ringRules (s t : State) : List Rule :=
  let widest := (t.barsOn.map (rowBytes t)).foldl max 0
  [(s.atRest, []), (!t.on K.ringRingEnable || ringCovers t, [1]), (Nat.ble widest (t.rd K.ringRingColumns), [4]),
   multRule (t.rd K.ringRingColumns) 64 4, multRule (t.rd K.ringRingBase) 64 2,
   spanRule t (t.rd K.ringRingBase) (t.rd K.ringRingRows * 8 * t.rd K.ringRingColumns) [2]]

/-- Bar structure (R258, R263). -/
def barRules (s t : State) (b : Nat) : List Rule :=
  [(s.atRest, []), (Nat.ble (t.rd (K.barFirstHead b) + t.rd (K.barHeadCount b)) 128, [3]),
   (!t.on (K.barBarEnable b) || queueOk t b, [1]), (ratesOk t, [1])]

/-- Screening (R264). -/
def scrRules (t : State) (b : Nat) : List Rule :=
  [(Nat.blt (t.rd (K.scrDropValue1 b)) (t.rd (K.scrDropValue2 b)) && Nat.blt (t.rd (K.scrDropValue2 b)) (t.rd (K.scrDropValue3 b)), [2])]

/-- Curves (R267). -/
def curveRules (t : State) (b : Nat) : List Rule :=
  [(t.rd (K.gbarCompMode b) != 2 || Nat.blt (t.rd (K.barTwinBar b)) 16, [2]),
   (Nat.ble (2 * (t.rd (K.gbarDeadW1 b) + t.rd (K.gbarDeadW2 b))) 256, [3])]

/-- Updates (R245). -/
def updRules (t : State) (b : Nat) : List Rule :=
  let le (i off n : Nat) := t.domLe (K.gupdUpdateList b) (16 * i + off) n
  [((List.range (t.rd (K.gupdUpdateCount b))).all fun i =>
      Nat.ble 1 (le i 4 1) && Nat.ble (le i 4 1) 3 && inBar t K.barFirstHead K.barHeadCount b (le i 0 4 / 8192), [1])]

/-- Port (R271, R297). -/
def portRules (s t : State) (p : Nat) : List Rule :=
  let lanes := t.rd (K.profLanesPerHead (t.prof p))
  [keepRule s t (0x3400 + p) s.atRest [1, 2],
   ((List.range 4).all fun i => !t.bit (K.kpHeadMask p) i || Nat.ble ((i + 1) * lanes) 4, [1])]

/-- The longest active run of a profile's window at its largest factors (R295). -/
def longestRun (t : State) (g : Nat) : Nat :=
  let pre := scaleSeg 0 (t.rd (K.profPreHeat g)) (t.tempMaxKnot g 0)
  let fire := scaleSeg 1 (t.rd (K.profFire g)) (t.tempMaxKnot g 1)
  if t.rd (K.profGap g) = 0 then pre + fire else max pre fire

/-- Profile (R295). -/
def profRules (s t : State) (g : Nat) : List Rule :=
  let n := t.rd (K.profNozzles g)
  let window := t.rd (K.profPreHeat g) + t.rd (K.profGap g) + t.rd (K.profFire g) + t.rd (K.profTail g)
  let order := (List.range n).map fun i => t.domLe (K.profOrderTable g) (2 * i) 2
  let id := t.rd (K.profIdDevAddr g)
  let temp := t.rd (K.profTempDevAddr g)
  [(s.atRest, []), (n % t.rd (K.profLanesPerHead g) == 0, [2]), (t.rd (K.profOrderMode g) != 2 || n % 2 == 0, [4]),
   (t.rd (K.profOrderMode g) != 3 ||
      (t.domLen (K.profOrderTable g) == 2 * n && (List.range n).all fun i => order.contains i), [4]),
   (Nat.ble 200 window && Nat.ble window 6400, [0x12]), (Nat.ble (longestRun t g) (t.rd (K.profStrobeMax g)), [0x12]),
   ((List.range 17).all fun j => [0, 1].all fun w => Nat.ble 2048 (t.tempKnot g w j) && Nat.ble (t.tempKnot g w j) 8191, [0x18]),
   (Nat.ble (t.bitTime g 8) (t.rd (K.profLatchHold g)), [1]),
   (Nat.ble (id + 3) 0x77 && (temp == 0 || (Nat.ble (temp + 3) 0x77 && (Nat.blt (id + 3) temp || Nat.blt (temp + 3) id))), [0x1C])]

/-- Head delay (R279). -/
def headRules (t : State) (h : Nat) : List Rule :=
  [(Nat.ble (t.strobePeriod (h / 4)) (t.firePeriod (t.prof (h / 4))), [1])]

/-- Colour loop structure (R348). -/
def loopRules (s t : State) : List Rule :=
  [(s.atRest, []), (!t.on K.loopLoopEnable || t.printWeb, [1]), multRule (t.rd K.loopLoopBase) 64 2,
   ((List.range (t.rd K.loopMarkCount)).all fun m =>
      (List.range 16).any fun b =>
        t.rd (K.ubarSlot b) != 255 && inBar t K.ubarFirstHead K.ubarHeadCount b (t.domLe K.loopMarkTable (16 * m) 1), [7]),
   ((List.range (t.rd K.loopStripCount)).all fun i => Nat.ble (t.domLe K.loopStripTable (16 * i + 6) 1) 7, [9]),
   spanRule t (t.rd K.loopLoopBase) 67108864 [2]]

/-- Loop lamp settings (R349). -/
def lampcRules (t : State) : List Rule :=
  (List.range 12).map fun n => (Nat.ble (t.rd (K.lampcLampSensor n)) 7 || t.rd (K.lampcLampSensor n) == 255, [0x10 + n])

/-- Gauge channel (R324). -/
def gaRules (t : State) (c : Nat) : List Rule :=
  [(Nat.ble 8 c || t.rd (K.gaMode c) != 3, [1]), (Nat.ble 8 c || t.rd (K.gaInputSelect c) == 0, [9]),
   (Nat.ble (t.rd (K.gaOutQueue c)) 63 || t.rd (K.gaOutQueue c) == 255, [0x0C])]

/-- Hardware queue (R369, R373). -/
def queRules (s t : State) (q : Nat) : List Rule :=
  [(Nat.ble (t.rd (K.qItemBytes q)) (t.rd (K.qBankSherds q) * 4096), [2]),
   keepRule s t (0x4240 + q) (!s.on (K.qQueueEnable q) || s.atRest) [2, 3, 4]]

/-- DMA channel (R380, R387). -/
def dmaRules (s t : State) (c : Nat) : List Rule :=
  [(s.rd (K.dmasChannelState c) == 0 || s.rd (K.dmasChannelState c) == 5, []),
   (t.rd (K.dmaHighMark c) == 0 || Nat.blt (t.rd (K.dmaLowMark c)) (t.rd (K.dmaHighMark c)), [2])]

/-- Engine ring (R410). -/
def zerRules (s t : State) (e : Nat) : List Rule :=
  let n := t.rd (K.zerJobRingEntries e)
  [(s.rd (K.zesJobHead e) == s.rd (K.zesJobTail e), []), (n == 0 || n == 2 ^ n.log2, [2]), multRule (t.rd (K.zerJobRingBase e)) 64 1,
   spanRule t (t.rd (K.zerJobRingBase e)) (64 * n) [1]]

/-- Skobaty port (R470). -/
def spRules (s t : State) (p : Nat) : List Rule :=
  [(!t.on (K.spPortEnable p) || t.rd (K.spLaneMask p) != 0, [1]), keepRule s t (0x5010 + p) (!s.atWork) [2, 3]]

/-- Synchronisation (R495). -/
def syncRules (s t : State) : List Rule :=
  let src := t.rd K.syncSyncSource
  [keepRule s t 0x1401 s.atRest [1], (Nat.ble (t.rd K.syncKpShift) (t.rd K.syncKiShift), [4]),
   (Nat.blt src 2 || !bitOf (t.rd K.syncSyncOutMask) (src - 2), [1])]

/-- Ethernet port (R497). -/
def ethRules (s t : State) (p : Nat) : List Rule := [(s.atRest, []), (!t.on (K.ethFec p) || t.rd (K.ethMode p) == 3, [1])]

/-- The rules of a group: `s` the state of the commit, `t` the state in which the staged set is live. -/
def groupRules (s t : State) (idx : Nat) : List Rule :=
  let n := idx % 16
  match idx / 16 with
  | 0x140 => syncRules s t
  | 0x201 => encRules s t n
  | 0x204 => cmpRules s t n
  | 0x206 => genRules t n
  | 0x207 => genRules t (12 + n)
  | 0x220 => camRules s t n
  | 0x241 => ctxRules t n
  | 0x244 => replayRules t n
  | 0x260 => seamRules s t
  | 0x261 => memRules s t n
  | 0x263 => smRules s t n
  | 0x264 => codRules s t
  | 0x265 => winRules t n
  | 0x266 => viewRules t n
  | 0x280 => umbRules s t
  | 0x281 => tuneRules t
  | 0x284 => ubarRules s t n
  | 0x285 => [(!t.on K.crazeCrazeEnable || t.printWeb, [1])]
  | 0x286 => cropRules s t
  | 0x300 => if n = 0 then jobRules s t else ringRules s t
  | 0x301 => barRules s t n
  | 0x303 => scrRules t n
  | 0x321 => curveRules t n
  | 0x323 => updRules t n
  | 0x340 => portRules s t n
  | 0x341 => portRules s t (16 + n)
  | 0x342 => profRules s t n
  | 0x360 => loopRules s t
  | 0x362 => lampcRules t
  | 0x381 => gaRules t n
  | 0x501 => spRules s t n
  | 0x520 => ethRules s t n
  | 0x441 => zerRules s t n
  | _ =>
    if 0x3440 ≤ idx ∧ idx < 0x34C0 then headRules t (idx - 0x3440)
    else if 0x4240 ≤ idx ∧ idx < 0x4280 then queRules s t (idx - 0x4240)
    else if 0x42C0 ≤ idx ∧ idx < 0x42E0 then dmaRules s t (idx - 0x42C0)
    else if 0x4700 ≤ idx ∧ idx < 0x4800 then [(t.rd (K.chSourceEvent (idx - 0x4700)) == 65535 || eventListed (t.rd (K.chSourceEvent (idx - 0x4700))), [1])]
    else []

/-! ### The zero rule (R48) -/

/-- Staged zeros that a group's chapter refuses by a rule of its own: Pitch (R104), Rows or Repeats of a job entry (R232). -/
def ownZeros (t : State) (idx : Nat) : List Nat :=
  if 0x2060 ≤ idx ∧ idx < 0x2080 then
    let g := if idx < 0x2070 then idx - 0x2060 else idx - 0x2070 + 12
    if t.genPitch g = 0 then [3] else []
  else if idx = 0x3000 then
    if (List.range (t.rd K.jobEntryCount)).any fun e => t.entryLe e 4 4 == 0 || t.entryLe e 2 2 == 0 then [1] else []
  else []

/-- The subindices that hold a staged zero in a length, count or size field. -/
def zeroSubs (t : State) (idx : Nat) : List Nat :=
  ((stagedRows idx).filter fun r => r.len && !r.zmo).flatMap fun r => (rowSubs r).filter fun i => t.rd (idx * 256 + i) == 0

/-! ### Sherds (R367, R368) -/

/-- The sherds a group's set reserves, the entries that set the amount, and the flag PoolShort of its block (key, mask, source). -/
def sherdNeed (t : State) (idx : Nat) : Nat × List Nat × Nat × Nat × Nat :=
  let n := idx % 16
  match idx / 16 with
  | 0x220 => (t.rd (K.camFifoLines n) * ceilDiv (t.rd (K.camLineLength n) * 2) 4096, [1], K.camstStatus n, 512, 70)
  | 0x241 =>
    let px := t.ctxW n * t.rd (K.camRowsPerLine n)
    ((if t.on (K.ctxFlatEnable n) then 2 * ceilDiv (4 * px) 4096 else 0) + (if t.rd (K.ctxDefectCount n) = 0 then 0 else 2) +
      (if t.rd (K.ctxMergeMode n) = 2 then ceilDiv (4 * px) 4096 else 0), [3], K.ctxsStatus n, 2, 73)
  | 0x260 =>
    ((t.members.map fun m => t.rd K.seamWaitLines * ceilDiv (t.rd (K.memColCount m) * 6) 4096).sum, [1], K.seamsStatus, 4, 77)
  | 0x264 => (if t.on K.codCodingEnable then 192 else 0, [1], 0, 0, 0)
  | 0x265 => (if t.rd (K.winWinMode n) = 0 then 0 else 32, [1], 0, 0, 0)
  | 0x266 =>
    (if t.on (K.viewViewEnable n) then t.rd (K.viewOverlayDelay n) * ceilDiv (t.rd (K.viewColumns n) * 3) 4096 else 0, [1],
      K.viewsViewStatus n, 4, 77)
  | 0x301 => (if t.on (K.barBarEnable n) then t.rd (K.barInputSherds n) else 0, [1], K.slipStatus, 32, 0)
  | 0x340 => (if t.rd (K.kpHeadMask n) = 0 then 0 else 2 * ceilDiv (4 * headBytes (t.rd (K.profNozzles (t.prof n)))) 4096, [1], 0, 0, 0)
  | 0x341 =>
    (if t.rd (K.kpHeadMask (16 + n)) = 0 then 0
     else 2 * ceilDiv (4 * headBytes (t.rd (K.profNozzles (t.prof (16 + n))))) 4096, [1], 0, 0, 0)
  | 0x360 => (if t.on K.loopLoopEnable then 2 * ceilDiv (t.rd K.seamWidth * 40) 4096 else 0, [1], K.loopsStatus, 2048, 110)
  | _ =>
    if 0x4240 ≤ idx ∧ idx < 0x4280 then
      let q := idx - 0x4240
      (if t.on (K.qQueueEnable q) then 2 * t.rd (K.qBankSherds q) else 0, [1], K.qsQueueStatus q, 4, 0)
    else (0, [1], 0, 0, 0)

/-! ### Accepting a commit (R49, R50) -/

/-- The channel whose bands a group's apply point waits for (R33, R145, R222). -/
def State.bandSource (s : State) (idx : Nat) : Option Nat :=
  if [0x206, 0x220, 0x241, 0x243, 0x244, 0x261].contains (idx / 16) then some (idx % 16)
  else if idx = 0x2810 ∨ idx = 0x2830 ∨ idx = 0x2850 then some (s.rd K.umbBandChannel)
  else none

/-- A refused commit: Commit reads ERR_ZERO (4) or COMMIT_REJECTED (3), CommitFault the lowest subindex read, 0xFF for none. -/
def State.refuseCommit (s : State) (idx code : Nat) (subs : List Nat) : State :=
  (s.wr (K.commit idx) code).wr (K.commitFault idx) (subs.foldl min 255)

/-- An accepted commit: PENDING, its sherds reserved, and the band in progress noted. -/
def State.acceptCommit (s : State) (idx need : Nat) : State :=
  let s := (s.wr (K.commit idx) 1).wr (K.commitFault idx) 0
  let s := if need = 0 then s
    else ({ s with sherds := tput s.sherds idx { s.sherdsOf idx with pend := need } }).setSherdsFree (s.rd K.poolSherdsFree - need)
  match s.bandSource idx with
  | some n => { s with commitBands := tput s.commitBands idx ((s.cam n).cur.getD (-(2 ^ 63))) }
  | none => s

/-- COMMIT (R49): the status it leaves, 0, ERR_ZERO or COMMIT_REJECTED, and the state. -/
def State.tryCommit (s : State) (idx : Nat) : Nat × State :=
  let t := s.goLive idx
  match ownZeros t idx ++ zeroSubs t idx with
  | z :: zs => (10, s.refuseCommit idx 4 (z :: zs))
  | [] =>
    match (groupRules s t idx).find? fun r => !r.1 with
    | some r => (11, s.refuseCommit idx 3 r.2)
    | none =>
      match sherdNeed t idx with
      | (need, subs, key, mask, src) =>
        if s.rd K.poolSherdsFree < need then
          let s := s.refuseCommit idx 3 subs
          let s := if mask = 0 then s else s.flag key mask src
          (11, ((s.flag K.poolPoolStatus 2 115).inc 32 K.poolRefusedCommits).wr K.poolLastRefused idx)
        else (0, s.acceptCommit idx need)

end Sys2Proof.Machine
end

