-- ==== Sys2Proof/Machine/LoopMeasure.lean ====
section
/-! DEFINITION. What the colour loop measures on each stitched line (R329 to R336, R343 to R345): white pixels, nozzle columns,
control strips and registration marks, and how it writes other blocks' groups (R346). -/

namespace Sys2Proof.Machine

/-- Set the colour loop's record. -/
def State.setLoop (s : State) (l : Loop) : State := { s with loop := l }

/-- LoopState codes (R351): 0 OFF, 1 UNAPPROVED, 2 CAPTURING, 3 LOCKED, 4 HELD. -/
def State.loopState (s : State) : Nat := s.rd K.loopsLoopState

/-- The loop runs: enabled, in RUNNING with both RunMask bits, with Umbra in PRINT mode. -/
def State.loopRuns (s : State) : Bool := s.dev == stRunning && s.rd K.devRunMask == 3 && s.loopState != 0 && s.printWeb

/-- MeasChannel of a slot: 0 R, 1 G, 2 B. -/
def State.measCh (s : State) (i : Nat) : Nat := s.rd (K.lawMeasChannel i)

/-- The slots in the rotation, ascending (R329). -/
def State.loopSlots (s : State) : List Nat := (List.range 8).filter fun i => s.bit K.loopLoopSlots i && s.absorb i (s.measCh i) != 0

/-- The slot of the window after one of slot `prev`. -/
def State.loopNext (s : State) (prev : Option Nat) : Option Nat :=
  let later := match prev with
    | some p => s.loopSlots.filter fun i => Nat.blt p i
    | none => []
  (later ++ s.loopSlots).head?

/-- A channel of a pixel. -/
def Px.ch (p : Px) (c : Nat) : Int := if c = 0 then p.r else if c = 1 then p.g else p.b

/-- White of a channel (R225). -/
def State.whiteOf (s : State) (c : Nat) : Nat :=
  if c = 0 then s.rd K.reflWhiteR else if c = 1 then s.rd K.reflWhiteG else s.rd K.reflWhiteB

/-- Steps of a search for the greatest n with 4,096 log2(w / v) ≥ n − 1/2, by bits from bit k down. -/
def densFrom (w v : Nat) : Nat → Nat → Nat
  | 0, n => n
  | k + 1, n => if v ^ 8192 * 2 ^ (2 * (n + 2 ^ k) - 1) ≤ w ^ 8192 then densFrom w v k (n + 2 ^ k) else densFrom w v k n

/-- d_m of R335: round(4,096 × log2(w / max(v, 1))), saturated to 0..65,535. -/
def density (w v : Nat) : Nat := if w ≤ max v 1 then 0 else densFrom w (max v 1) 16 0

/-- L of R196, Q4.12, for the coverages of the eight slots. -/
def State.inkDensity (s : State) (ch : Nat) (cov : List Nat) : Nat :=
  (((List.range 8).map fun i => nth cov i * s.absorb i ch).sum * 257 + 32768) / 65536

/-- d_m at a column. -/
def State.densAt (s : State) (l : ULine) (ch x : Nat) : Nat := density (s.whiteOf ch) ((l.px.getD x black).ch ch).toNat

/-- ρ of a measurement pixel (R335). -/
def State.residual (s : State) (l : ULine) (ch x : Nat) (j : Judged) : Int := (s.densAt l ch x : Int) - s.inkDensity ch j.cov

/-! ### Writing other blocks' groups (R346) -/

/-- What became of a write of the loop's. -/
inductive LoopPut where
  /-- committed -/
  | done
  /-- refused for owner or lock: the change is dropped -/
  | dropped
  /-- a commit is pending, or the bank holds another's staged change: to be tried again -/
  | later
  /-- the commit was refused -/
  | refused
deriving DecidableEq, Repr

/-- The Shadow bank of a group holds a staged change other than the listed values. -/
def State.stagedByOthers (s : State) (idx : Nat) (vals : List (Nat × Nat)) : Bool :=
  (s.shadow.any fun e => e.1 / 256 == idx && e.2 != s.rd e.1 && !vals.contains e) ||
  (s.shDom.any fun e => e.1 / 2 ^ 40 == idx && e.2 != s.domByte (e.1 / 2 ^ 32) (e.1 % 2 ^ 32) && !vals.contains e)

/-- The loop stages values (entry keys) or DOMAIN bytes (byte keys) in a group and commits it, as a secure access of owner class CORE;
`alone` asks that the bank hold no other staged change. -/
def State.loopPut (s : State) (idx : Nat) (alone : Bool) (vals : List (Nat × Nat)) : LoopPut × State :=
  if s.owner idx ≠ 1 ∨ s.locked idx then (.dropped, s.flag K.loopsStatus 16 106)
  else if s.commitPending idx ∨ (alone ∧ s.stagedByOthers idx vals) then (.later, s.flag K.loopsStatus 16 106)
  else if vals.any fun e => match rowOf e.1 with | some r => !valueOk r e.2 | none => false then (.refused, s)
  else
    let s := vals.foldl (fun (s : State) e =>
      if e.1 / 256 = idx then s.stage e.1 e.2 else s.shDomWrite (e.1 / 2 ^ 32) (e.1 % 2 ^ 32) [e.2]) s
    match s.tryCommit idx with
    | (0, s) => (.done, s)
    | (_, s) => (.refused, s)

/-- A loop record goes to LoopQueue (R352). -/
def State.loopRecord (s : State) (kind slot unit : Nat) (a b c d : Int) : State :=
  let q := s.rd K.loopLoopQueue
  let l := [kind, slot] ++ leBytes 2 unit ++ ([a, b, c, d].flatMap fun v => leBytes 4 (ofI 32 v)) ++ leBytes 4 0 ++ leBytes 8 s.timeNs
  if q = 255 then s
  else
    match s.offerTo q l with
    | (true, s) => s
    | (false, s) => s.flag K.loopsStatus 1024 110

/-! ### Holds (R339) -/

/-- A strip's Slot. -/
def State.stripSlot (s : State) (i : Nat) : Nat := s.domLe K.loopStripTable (16 * i + 6) 1
/-- The strips of a slot. -/
def State.stripsOf (s : State) (slot : Nat) : List Nat := (List.range (s.rd K.loopStripCount)).filter fun i => s.stripSlot i == slot
/-- Valid of the ApprovalSet (R347). -/
def State.apprValid (s : State) (i : Nat) : Bool := bitOf (s.domLe K.loopsApprovalSet 4 4) i

/-- HoldReason of a slot as the rules give it now. -/
def State.holdReason (s : State) (i : Nat) : Nat :=
  b2n ((s.stripsOf i).any fun t => s.apprValid (16 + t) && Nat.blt (s.rd K.lawStripHold) (s.rdI 32 (K.stripStripErr t)).natAbs) +
  2 * b2n (s.loop.settling != 0) + 4 * b2n (s.loopState == 4)

/-- Show a slot's HoldReason; a slot that becomes held raises LOOP_HOLD. -/
def State.showHold (s : State) (i : Nat) : State :=
  let old := s.rd (K.lslotHoldReason i)
  let new := if s.bit K.loopLoopSlots i then s.holdReason i else 0
  let s := s.wr (K.lslotHoldReason i) new
  let s := if bitOf new 0 ∧ ¬ bitOf old 0 then s.flag K.loopsStatus 1 104 else s
  let s := if bitOf new 1 ∧ ¬ bitOf old 1 then s.flag K.loopsStatus 2 104 else s
  if old = 0 ∧ new ≠ 0 then s.raise Ev.loopHold else s

/-- Show every slot's HoldReason. -/
def State.showHolds (s : State) : State := (List.range 8).foldl State.showHold s

/-- LoopState changes (R342, R353, R354). -/
def State.setLoopState (s : State) (n : Nat) : State :=
  if s.loopState = n then s else (((s.wr K.loopsLoopState n).raise Ev.loopState).arrive 109).showHolds

/-! ### Pixels (R331, R334, R335) -/

/-- The coverages of a column, scored or not. -/
def State.covAt (s : State) (l : ULine) (js : List Judged) (x : Nat) : List Nat :=
  let j := js.getD x {}
  if j.scored then j.cov else s.covers8 l x

/-- The column stands in the line and is not blind. -/
def seen (js : List Judged) (x : Nat) : Bool := Nat.blt x js.length && !(js.getD x {}).blind

/-- The covers of slot i and of the others at a column meet R334. -/
def State.coverOk (s : State) (l : ULine) (js : List Judged) (i x : Nat) : Bool :=
  seen js x && (let cov := s.covAt l js x
    Nat.ble (s.rd K.lawMinCover) (nth cov i) &&
    (List.range 8).all fun j => j == i || !s.bit K.reflSlotMask j || Nat.ble (nth cov j) (s.rd K.lawOtherMax))

/-- A nozzle, or one within ±2 of it, is dead in a bar. -/
def State.loopDead (s : State) (b n : Nat) : Bool :=
  let hn := s.rd (K.ubarHeadNozzles b)
  (List.range 5).any fun d =>
    let m := n + d - 2
    Nat.ble 2 (n + d) && Nat.blt m (s.rd (K.ubarHeadCount b) * hn) &&
    (let h := s.rd (K.ubarFirstHead b) + m / hn
     deadWord (s.glazeWord (h * 8192 + m % hn)) || s.rd (K.khHeadState h) != 4)

/-- The word index of nozzle n of a bar's map. -/
def State.mapWord (s : State) (b n : Nat) : Nat :=
  (s.rd (K.ubarFirstHead b) + n / s.rd (K.ubarHeadNozzles b)) * 8192 + n % s.rd (K.ubarHeadNozzles b)

/-- The nozzle of the slot's measuring bar at a column, if neither it nor its neighbours are dead there or in the twin. -/
def State.loopNozzle (s : State) (i x : Nat) : Option (Nat × Nat) :=
  match s.barsOf i with
  | [] => none
  | b :: _ =>
    let n := s.nozzleAt b (2 * s.crossWeb x)
    let t := s.rd (K.barTwinBar b)
    if s.loopDead b n ∨ (t < 16 ∧ s.loopDead t n) then none else some (b, n)

/-- A pixel is a measurement pixel of slot i (R334). -/
def State.measures (s : State) (l : ULine) (js : List Judged) (i x : Nat) : Bool :=
  let j := js.getD x {}
  j.scored && !j.blind && Nat.blt j.score (s.rd K.segPenumbraLevel) && !l.x.missing &&
  decide (s.rdI 64 (K.lslotFreshW i) ≤ s.memberW (l.source x) l.x.w) &&
  s.coverOk l js i x && Nat.ble 1 x && s.coverOk l js i (x - 1) && s.coverOk l js i (x + 1) && (s.loopNozzle i x).isSome

/-- A pixel is white for camera n, its neighbours apart (R331). -/
def State.whitePx (s : State) (l : ULine) (js : List Judged) (n x : Nat) : Bool :=
  let j := js.getD x {}
  seen js x && l.source x == n && j.scored && Nat.blt j.score (s.rd K.segPenumbraLevel) &&
  (List.range 8).all fun i => !s.bit K.reflSlotMask i || nth j.cov i == 0

/-- White pixels of a line (R331). -/
def State.loopWhite (s : State) (l : ULine) (js : List Judged) : State :=
  if l.x.missing then s
  else
    let add (n : Nat) (p : Px × Nat) (x : Nat) : Px × Nat :=
      if Nat.ble 1 x && s.whitePx l js n (x - 1) && s.whitePx l js n x && s.whitePx l js n (x + 1) then
        let v := l.px.getD x black
        ({ r := p.1.r + v.r, g := p.1.g + v.g, b := p.1.b + v.b }, p.2 + 1)
      else p
    let cams := (List.range 12).filter fun n => s.rd (K.lampcLampSource n) == 1
    let t := cams.foldl (fun (t : Tab (Px × Nat)) n =>
      tupd (black, 0) t n fun p => (List.range js.length).foldl (add n) p) s.loop.white
    s.setLoop { s.loop with white := t }

/-- The bin of a drive and its weight: the lowest k with K_k ≤ v ≤ K_(k+1), and w_(k+1); none when v < K0 (R335). -/
def bin (knots v : Nat) : Option (Nat × Int) :=
  let w (k : Nat) : Int :=
    let lo := knot knots k
    let hi := knot knots (k + 1)
    if hi = lo then 256 else Int.fdiv (256 * ((v : Int) - lo)) (hi - lo)
  if (v : Int) < knot knots 0 then none
  else
    match (List.range 4).find? fun k => decide (knot knots k ≤ v) && decide ((v : Int) ≤ knot knots (k + 1)) with
    | some k => some (k, w k)
    | none => some (3, w 3)

/-- Saturate to I32. -/
def satI32 (v : Int) : Int := clampI (-(2 ^ 31)) (2 ^ 31 - 1) v

/-- Add a weighted residual to bin m, 1 to 4; weight on K0 is dropped. -/
def LoopCol.add (c : LoopCol) (m : Nat) (w rho : Int) : LoopCol :=
  if m = 0 then c
  else { c with sum := c.sum.set (m - 1) (satI32 (nthI c.sum (m - 1) + sra (w * rho + 128) 8)),
                wt := c.wt.set (m - 1) (ofI 32 ((nth c.wt (m - 1) : Int) + w)) }

/-- A measurement pixel at the column (R335). -/
def LoopCol.pixel (c : LoopCol) (cov : Nat) (rho : Int) : LoopCol :=
  match bin c.knots (16 * cov + cov / 16) with
  | none => c
  | some (k, w) => (c.add k (256 - w) rho).add (k + 1) w rho

/-- The nozzle columns of the window's slot (R334 to R336). -/
def State.loopCols (s : State) (l : ULine) (js : List Judged) : State :=
  match s.loop.slot with
  | none => s
  | some i =>
    let f (p : LoopCol × Nat) : LoopCol :=
      let j := js.getD p.2 {}
      if s.measures l js i p.2 then p.1.pixel (nth j.cov i) (s.residual l (s.measCh i) p.2 j) else p.1
    s.setLoop { s.loop with cols := s.loop.cols.zipIdx.map f }

/-- The control strips, whatever the window's slot (R339). -/
def State.loopStrips (s : State) (l : ULine) (js : List Judged) : State :=
  let add (i : Nat) (p : Int × Nat) (x : Nat) : Int × Nat :=
    if s.measures l js i x then (p.1 + s.residual l (s.measCh i) x (js.getD x {}), p.2 + 1) else p
  let strip (t : Tab (Int × Nat)) (n : Nat) : Tab (Int × Nat) :=
    let c := s.domLe K.loopStripTable (16 * n) 4
    tupd (0, 0) t n fun p => ((List.range (s.domLe K.loopStripTable (16 * n + 4) 2)).map fun d => c + d).foldl (add (s.stripSlot n)) p
  s.setLoop { s.loop with strips := (List.range (s.rd K.loopStripCount)).foldl strip s.loop.strips }

/-! ### Registration (R343 to R345) -/

/-- A field of mark m. -/
def State.markLe (s : State) (m off n : Nat) : Nat := s.domLe K.loopMarkTable (16 * m + off) n

/-- The bar whose nozzle map holds a head. -/
def State.mapBar (s : State) (h : Nat) : Option Nat :=
  (List.range 16).find? fun b => s.rd (K.ubarSlot b) != 255 && inBar s K.ubarFirstHead K.ubarHeadCount b h

/-- A head's registration record. -/
def State.regHead (s : State) (h : Nat) : RegHead := tget {} s.loop.regs h

/-- The heads of a slot's bars. -/
def State.slotHeads (s : State) (slot : Nat) : List Nat :=
  (s.barsOf slot).flatMap fun b => (List.range (s.rd (K.ubarHeadCount b))).map fun i => s.rd (K.ubarFirstHead b) + i

/-- The mean of some values, rounded; none of none. -/
def meanI (l : List Int) : Option Int := if l.isEmpty then none else some (roundDiv l.sum l.length)

/-- A registration write: LOOP_REG when committed, REG_REFUSED when the commit is refused, kept for a retry when it must wait. -/
def State.regPut (s : State) (idx k v : Nat) : LoopPut × State :=
  match s.loopPut idx false [(k, v)] with
  | (.done, s) => (.done, s.raise Ev.loopReg)
  | (.later, s) => (.later, s.setLoop { s.loop with retry := s.loop.retry ++ [(idx, k, v)] })
  | (.refused, s) => (.refused, s.flag K.loopsStatus 64 107)
  | (put, s) => (put, s)

/-- The head's delay commit waits for its apply. -/
def State.awaitDelay (s : State) (h : Nat) : State :=
  s.setLoop { s.loop with regWait := h :: s.loop.regWait.filter fun g => g != h }

/-- Down-web (R345): Δ for a mean displacement, and the write of the head's delay. -/
def State.regDelay (s : State) (h : Nat) (dw : Int) : Int × State :=
  let v := s.webV
  if dw.natAbs ≤ s.rd K.regRegDeadW ∨ v = 0 then (0, s)
  else
    let lim : Int := s.rd K.regDelayStepMax
    let d := clampI (-lim) lim (-(roundDiv (dw * 2 ^ 32 * sgn v) v.natAbs))
    let want : Int := (s.rd (K.khDelay h) : Int) + d
    let new := clampI 0 20000 want
    let s := if new = want then s else s.flag K.loopsStatus 32 107
    match s.regPut (0x3440 + h) (K.khDelay h) new.toNat with
    | (.done, s) => (d, s.awaitDelay h)
    | (_, s) => (d, s)

/-- Cross-web (R345): a bar's nozzle shift. -/
def regShift (m : Int) (s : State) (b : Nat) : State :=
  let p := s.rd (K.ubarNozzlePitch b)
  let off := m * 65536 - s.rdI 16 (K.shiftNozzleShift b) * p
  if off.natAbs * 256 ≤ (128 + s.rd K.regShiftHyst) * p then s
  else (s.regPut (0x3050 + b) (K.shiftNozzleShift b) (ofI 16 (roundDiv (m * 65536) p))).2

/-- A head has its marks: form the means and act (R345). -/
def State.regEvaluate (s : State) (h slot : Nat) : State :=
  let r := s.regHead h
  let dw := if r.nw = 0 then none else some (roundDiv r.sw r.nw)
  let dx := if r.nx = 0 then none else some (roundDiv r.sx r.nx)
  let s := match dw with | some d => s.wr (K.lheadMeanDW h) (ofI 64 d) | none => s
  let s := match dx with | some d => s.wr (K.lheadMeanDX h) (ofI 32 d) | none => s
  let p : Option Int × State := match dw with
    | some d =>
      match s.regDelay h d with
      | (delta, s') => (some (d + floorDiv (delta * s.webV) (2 ^ 32)), s')
    | none => (none, s)
  let s := p.2
  let r' : RegHead := { w := p.1.or r.w, x := dx.or r.x }
  let s := s.setLoop { s.loop with regs := tput s.loop.regs h r' }
  let heads := s.slotHeads slot
  let m := meanI (heads.filterMap fun g => (s.regHead g).x)
  let w := meanI (heads.filterMap fun g => (s.regHead g).w)
  let s := match m with
    | some m => if dx.isSome then (s.barsOf slot).foldl (regShift m) s else s
    | none => s
  s.setLoop { s.loop with refl := tput s.loop.refl slot (w, m) }

/-- A good mark counts for its head. -/
def State.regMark (s : State) (h slot axes : Nat) (dx dw : Int) : State :=
  if ¬ s.on K.regRegEnable then s
  else
    let r := s.regHead h
    let r := if bitOf axes 0 then { r with sw := r.sw + dw, nw := r.nw + 1 } else r
    let r := if bitOf axes 1 then { r with sx := r.sx + dx, nx := r.nx + 1 } else r
    let r : RegHead := { r with n := r.n + 1 }
    let s := s.setLoop { s.loop with regs := tput s.loop.regs h r }
    if r.n < s.rd K.regMarkAverage then s else s.regEvaluate h slot

/-- The difference of two centroids a/m and b/e in units of `u`, rounded; an unstated value when a sum of weights is 0. -/
def State.centroidDiff (s : State) (a m b e : Int) (u : Nat) : Int × State :=
  if m ≤ 0 ∨ e ≤ 0 then
    match s.fresh with
    | (v, s) => (toI 32 v, s)
  else (roundDiv (a * e - b * m) ((m * e).toNat * u), s)

/-- A mark closes (R344). -/
def State.markClose (s : State) (m : Nat) (k : Mark) (h slot : Nat) : State :=
  match s.centroidDiff k.mx k.m k.ex k.e 65536 with
  | (dx, s) =>
    match s.centroidDiff k.mw k.m k.ew k.e 1 with
    | (dw, s) =>
      let bad := k.bad || decide (k.m < (s.rd K.regMarkMinMass : Int))
      let s := s.setLoop { s.loop with marks := terase s.loop.marks m }
      let s := s.loopRecord 2 slot m dx (satI32 dw) (satI32 k.m) (b2n bad)
      if bad then s.flag K.loopsStatus 128 107 else s.regMark h slot (s.markLe m 1 1) dx dw

/-- A line at mark m (R344): δe is rendered with the slot's registration taken as zero. -/
def markLine (l : ULine) (js : List Judged) (s : State) (m : Nat) : State :=
  let h := s.markLe m 0 1
  match s.mapBar h with
  | none => s
  | some b =>
    let slot := s.rd (K.ubarSlot b)
    let ch := s.measCh slot
    let t := s.domWrite K.reflRegistration (8 * slot) (List.replicate 8 0)
    let cols := ((List.range (s.markLe m 2 2)).map fun d => s.markLe m 4 4 + d).filter fun x => Nat.blt x js.length
    let px : List (Int × Int × Int × Int) := cols.map fun (x : Nat) =>
      ((s.densAt l ch x : Int), (t.inkDensity ch (t.covers8 l x) : Int), s.crossWeb x, s.memberW (l.source x) l.x.w)
    let sum (f : Int × Int × Int × Int → Int) : Int := (px.map f).sum
    let dm := sum fun p => p.1
    let de := sum fun p => p.2.1
    let level : Int := s.markLe m 8 4
    let above := decide (level ≤ dm) || decide (level ≤ de)
    let stale := match px with | p :: _ => decide (p.2.2.2 < s.rdI 64 (K.lheadRegFreshW h)) | [] => false
    let opened : Option Mark := match tfind s.loop.marks m with
      | some k => some k
      | none => if above then some { bad := stale } else none
    match opened with
    | none => s
    | some k =>
      let k : Mark := { below := if above then 0 else k.below + 1,
                        bad := k.bad || l.x.missing || cols.any fun x => (js.getD x {}).blind,
                        m := k.m + dm, mx := k.mx + sum fun p => p.2.2.1 * p.1, mw := k.mw + sum fun p => p.2.2.2 * p.1,
                        e := k.e + de, ex := k.ex + sum fun p => p.2.2.1 * p.2.1, ew := k.ew + sum fun p => p.2.2.2 * p.2.1 }
      if ¬ above ∧ s.markLe m 12 2 ≤ k.below then s.markClose m k h slot
      else s.setLoop { s.loop with marks := tput s.loop.marks m k }

/-- Reflection's registration of a slot is committed once the line lies at or beyond every pending RegFreshW of the slot (R345). -/
def reflCommit (w : Int) (s : State) (e : Nat × Option Int × Option Int) : State :=
  let heads := s.slotHeads e.1
  if s.loop.reflHold ∨ heads.any fun h => s.loop.regWait.contains h || decide (w < s.rdI 64 (K.lheadRegFreshW h)) then s
  else
    let bytes (o : Nat) (v : Option Int) : List (Nat × Nat) := match v with
      | some v => (leBytes 4 (ofI 32 v)).zipIdx.map fun b => (domKey K.reflRegistration (8 * e.1 + o + b.2), b.1)
      | none => []
    let gone (s : State) : State := s.setLoop { s.loop with refl := terase s.loop.refl e.1 }
    match s.loopPut 0x2830 true (bytes 0 e.2.1 ++ bytes 4 e.2.2) with
    | (.done, s) => (gone s).raise Ev.loopReg
    | (.later, s) => s.setLoop { s.loop with reflHold := true }
    | (.refused, s) => (gone s).flag K.loopsStatus 64 107
    | (.dropped, s) => gone s

/-- The line at the colour loop, after Umbra has judged it. -/
def State.loopLine (s : State) (l : ULine) : State :=
  if ¬ s.loopRuns then s
  else
    let js := (List.range l.px.length).map (s.judge l)
    let s := if s.loop.open_ then ((s.loopWhite l js).loopCols l js).loopStrips l js else s
    let s := (List.range (s.rd K.loopMarkCount)).foldl (markLine l js) s
    s.loop.refl.foldl (reflCommit (wholePos l.x.w)) s

end Sys2Proof.Machine
end

