-- ==== Sys2Proof/Machine/Loop.lean ====
section
/-! DEFINITION. The colour loop (R329 to R354): windows, lamps, strips and capture, the fold with its update law, and the approval
commands. -/

namespace Sys2Proof.Machine

/-! ### The loop store and the update law (R337, R338) -/

/-- A record of the loop store (R337). -/
structure LoopRec where
  ref : List Nat
  sum : List Int
  count : List Nat
  strikes : Nat
  flags : Nat
  updates : Nat
  err : List Int
  appr : Nat
deriving DecidableEq, Repr

/-- A record from its 64 bytes. -/
def loopRecOf (l : List Nat) : LoopRec :=
  { ref := (List.range 4).map fun k => leAt l (2 * k) 2, sum := (List.range 4).map fun k => toI 32 (leAt l (8 + 4 * k) 4),
    count := (List.range 4).map fun k => leAt l (24 + 2 * k) 2, strikes := leAt l 32 1, flags := leAt l 33 1,
    updates := leAt l 34 2, err := (List.range 4).map fun k => toI 16 (leAt l (36 + 2 * k) 2), appr := leAt l 48 8 % 2 ^ 60 }

/-- The 64 bytes of a record. -/
def loopRecBytes (r : LoopRec) : List Nat :=
  (r.ref.flatMap (leBytes 2)) ++ (r.sum.flatMap fun v => leBytes 4 (ofI 32 v)) ++ (r.count.flatMap (leBytes 2)) ++
  [r.strikes % 256, r.flags % 256] ++ leBytes 2 r.updates ++ (r.err.flatMap fun v => leBytes 2 (ofI 16 v)) ++ leBytes 4 0 ++
  leBytes 8 r.appr ++ leBytes 8 0

/-- Where the record of a nozzle's word index lies. -/
def State.loopAddr (s : State) (word : Nat) : Nat := s.rd K.loopLoopBase + 64 * word

/-- Read a nozzle's record. -/
def State.loopRead (s : State) (word : Nat) : LoopRec × State :=
  match s.blockRead 6 (s.loopAddr word) 64 with
  | (l, s) => (loopRecOf l, s)

/-- Write a nozzle's record. -/
def State.loopWrite (s : State) (word : Nat) (r : LoopRec) : State := s.blockWrite 6 (s.loopAddr word) (loopRecBytes r)

/-- Lm(K): the model's density at drive K. -/
def lmOf (a : Nat) (k : Int) : Int := floorDiv (k * a + 2047) 4095

/-- Put knot k of a word's knots. -/
def putKnot (w k : Nat) (v : Int) : Nat := w - field w (12 * k + 11) (12 * k) * 2 ^ (12 * k) + v.toNat % 4096 * 2 ^ (12 * k)

/-- A knot's bounds under the law, and the knot stepped within them with whether a bound cut it. -/
def stepKnot (appr knots drift k : Nat) (step : Int) : Int × Bool :=
  let v := knot knots k
  let lo := max (knot appr k - drift) (knot knots (k - 1))
  let hi := min (knot appr k + drift) 4095
  let hi := if k < 4 then min hi (knot knots (k + 1)) else hi
  let new := clampI lo hi (v + step)
  (new, decide (new ≠ v + step))

/-- What the law has made of a nozzle so far. -/
structure LawAcc where
  r : LoopRec
  knots : Nat
  bad : Bool := false
  good : Bool := false
  steps : List (Nat × Int) := []
  errs : List Int := []
deriving DecidableEq, Repr

/-- Set or clear AT_BOUND of the flags. -/
def setBound (flags : Nat) (b : Bool) : Nat := if b then setBits flags 2 else clearBits flags 2

/-- The law on knot k (R338). -/
def lawKnot (f : LoopFold) (x : LawAcc) (k : Nat) : LawAcc :=
  let i := k - 1
  let n := nth x.r.count i
  if n < f.count ∨ n = 0 then x
  else
    let kv := knot x.knots k
    let d := truncDiv (nthI x.r.sum i) n + lmOf f.a kv
    let r : LoopRec := { x.r with sum := x.r.sum.set i 0, count := x.r.count.set i 0 }
    if nth r.ref i = 0xFFFF then
      if f.cap || (f.locked && knot r.appr k == kv) then { x with r := { r with ref := r.ref.set i (ofI 16 d) } } else { x with r := r }
    else
      let err := d - nth r.ref i
      let r : LoopRec := { r with err := r.err.set i (clampI (-32768) 32767 err) }
      let x : LawAcc := { x with r := r, errs := x.errs ++ [err] }
      if ¬ f.locked ∨ bitOf r.flags 0 ∨ f.held then x
      else if f.plausible < err.natAbs then { x with bad := true }
      else
        let x : LawAcc := { x with good := true }
        if err.natAbs ≤ f.dead then x
        else
          let e := err - sgn err * f.dead
          let step := clampI (-(f.step : Int)) f.step (-(truncDiv (e * 4095 * f.gain) ((f.a : Int) * 65536)))
          match stepKnot r.appr x.knots f.drift k step with
          | (new, b) =>
            { x with knots := putKnot x.knots k new, r := { x.r with flags := setBound x.r.flags b }, steps := x.steps ++ [(k, step)] }

/-- Strikes and FROZEN after the four knots. -/
def lawEnd (f : LoopFold) (x : LawAcc) : LoopRec :=
  let st := if x.bad then min 255 (x.r.strikes + 1) else if x.good then 0 else x.r.strikes
  { x.r with strikes := st, flags := if f.strike ≤ st then setBits x.r.flags 1 else x.r.flags }

/-- The columns of a nozzle join its record (R338, step 2). -/
def LoopRec.take (r : LoopRec) (cols : List LoopCol) : LoopRec :=
  cols.foldl (fun (r : LoopRec) c =>
    { r with sum := (List.range 4).map fun i => satI32 (nthI r.sum i + nthI c.sum i),
             count := (List.range 4).map fun i => min 65535 (nth r.count i + (nth c.wt i + 128) / 256) }) r

/-- What a fold counts: nozzles updated and measured, the errors formed, and the entries for the bar and its twin. -/
structure FoldAcc where
  updated : Nat := 0
  measured : Nat := 0
  errs : List Int := []
  bar : List LoopUpd := []
  twin : List LoopUpd := []
deriving DecidableEq, Repr

/-- The LastErr of greatest magnitude, the lowest knot on a tie. -/
def worstErr (l : List Int) : Int := l.foldl (fun w e => if w.natAbs < e.natAbs then e else w) 0

/-- A nozzle has become FROZEN. -/
def State.frozen (s : State) (f : LoopFold) (word : Nat) (r : LoopRec) : State :=
  let s := s.loopRecord 3 f.slot (word / 8192) (word % 8192 : Nat) (worstErr r.err) 0 0
  ((s.inc 32 K.loopsFrozenNozzles).flag K.loopsStatus 4 105).raise Ev.loopFrozen

/-- The twin bar's same nozzle takes the same steps, limited by its own bounds. -/
def State.foldTwin (s : State) (f : LoopFold) (noz : Nat) (steps : List (Nat × Int)) : Option LoopUpd × State :=
  let t := s.rd (K.barTwinBar f.bar)
  if 16 ≤ t then (none, s)
  else
    let word := s.mapWord t noz
    let base := s.glazeWord word % 2 ^ 60
    match s.loopRead word with
    | (r, s) =>
      let p := steps.foldl (fun (p : Nat × LoopRec) e =>
        match stepKnot p.2.appr p.1 f.drift e.1 e.2 with
        | (new, b) => (putKnot p.1 e.1 new, { p.2 with flags := setBound p.2.flags b })) (base, r)
      (some { nozzle := word, knots := p.1, base := base, last := false },
        s.loopWrite word { p.2 with updates := (p.2.updates + 1) % 65536 })

/-- One nozzle of a fold. -/
def foldNozzle (f : LoopFold) (p : FoldAcc × State) (noz : Nat) : FoldAcc × State :=
  let x := p.1
  let s := p.2
  let cols := f.cols.filter fun c => c.noz == noz
  match cols with
  | [] => p
  | c :: _ =>
    let live := s.glazeWord c.word % 2 ^ 60
    if live ≠ c.knots ∨ s.nozzleDead f.bar noz then (x, s.inc 32 K.loopsDiscards)
    else
      match s.loopRead c.word with
      | (r, s) =>
        let y := [1, 2, 3, 4].foldl (lawKnot f) { r := r.take cols, knots := live }
        let r' := lawEnd f y
        let s := if bitOf r'.flags 0 ∧ ¬ bitOf r.flags 0 then s.frozen f c.word r' else s
        let x : FoldAcc := { x with measured := x.measured + 1, errs := x.errs ++ y.errs }
        if y.knots = live then (x, s.loopWrite c.word r')
        else
          let s := s.loopWrite c.word { r' with updates := (r'.updates + 1) % 65536 }
          let u : LoopUpd := { nozzle := c.word, knots := y.knots, base := live, last := false }
          match s.foldTwin f noz y.steps with
          | (t, s) => ({ x with updated := x.updated + 1, bar := x.bar ++ [u], twin := x.twin ++ t.toList }, s)

/-- The last entry of a fold is marked. -/
def markLast : List LoopUpd → List LoopUpd
  | [] => []
  | [u] => [{ u with last := true }]
  | u :: l => u :: markLast l

/-- Queue a fold's entries in a bar's colour-loop update list (R340). -/
def State.queueLoop (s : State) (b : Nat) (l : List LoopUpd) : State :=
  if l.isEmpty then s else s.setBar b { s.bar b with loop := (s.bar b).loop ++ markLast l }

/-- Keep each number of an ascending list once. -/
def distinct : List Nat → List Nat
  | [] => []
  | a :: l => if l.contains a then distinct l else a :: distinct l

/-- At a slot's first capture fold the live knots of its nozzles become ApprovedKnots (R341). -/
def State.approveKnots (s : State) (slot : Nat) : State :=
  (s.barsOf slot).foldl (fun s b =>
    (List.range (s.rd (K.ubarHeadCount b) * s.rd (K.ubarHeadNozzles b))).foldl (fun (s : State) n =>
      let w := s.mapWord b n
      s.blockWrite 6 (s.loopAddr w + 48) (leBytes 8 (s.glazeWord w % 2 ^ 60))) s) s

/-- LOOP_FOLD_DONE (R338): the fold in progress ends. -/
def loopFoldDone (s : State) : State :=
  match s.loop.fold with
  | none => s
  | some f =>
    let s := s.setLoop { s.loop with fold := none }
    let s := if f.first then s.approveKnots f.slot else s
    let nozzles := sortBy (fun n => ((n : Nat) : Int)) (distinct (f.cols.map fun c => c.noz))
    let p := nozzles.foldl (foldNozzle f) ({}, s)
    let x := p.1
    let s := (p.2.queueLoop f.bar x.bar).queueLoop (p.2.rd (K.barTwinBar f.bar)) x.twin
    let s := (s.wr (K.lslotNozzlesUpdated f.slot) x.updated).wr (K.lslotLastFold f.slot) s.time
    let mean := if x.errs.isEmpty then 0 else truncDiv x.errs.sum x.errs.length
    (s.loopRecord 1 f.slot f.bar x.updated x.measured mean (s.rd (K.lslotHoldReason f.slot))).raise Ev.loopFold

/-- LOOP_FOLD_DONE. -/
def execLoopFoldDone (s : State) : Host.Outcome State Fault Refusal := .next (loopFoldDone s)

/-! ### Lamps (R332, R333) -/

/-- A field of the ApprovalSet. -/
def State.apprLe (s : State) (off n : Nat) : Nat := s.domLe K.loopsApprovalSet off n

/-- Put a number in the ApprovalSet. -/
def State.apprPut (s : State) (off n v : Nat) : State := s.domWrite K.loopsApprovalSet off (leBytes n v)

/-- The three gains of camera n in force. -/
def State.lampGains (s : State) (n : Nat) : List Nat := [s.rd (K.lampLampGainR n), s.rd (K.lampLampGainG n), s.rd (K.lampLampGainB n)]

/-- The gains R332 asks for, rounded; none for no update. A zero mean leaves an unstated ratio: a free gain. -/
def State.lampWant (s : State) (n : Nat) : Option (List Int) × State :=
  if ¬ s.apprValid n then (none, s)
  else if s.rd (K.lampcLampSource n) = 1 then
    match tfind s.loop.white n with
    | some (sum, cnt) =>
      if cnt < s.rd K.lampcWhiteMinCount ∨ cnt = 0 then (none, s)
      else
        (List.range 3).foldl (fun (p : Option (List Int) × State) c =>
          let l := p.1.getD []
          let m := sum.ch c
          if m ≤ 0 then
            match p.2.fresh with
            | (v, s) => (some (l ++ [((v % 65536 : Nat) : Int)]), s)
          else (some (l ++ [roundDiv (((nth (s.lampGains n) c * s.apprLe (16 + 8 * n + 2 * c) 2 * cnt : Nat) : Int)) m.toNat]), p.2))
          (some [], s)
    | none => (none, s)
  else if s.rd (K.lampcLampSource n) = 2 then
    match tfind s.loop.diode (s.rd (K.lampcLampSensor n)) with
    | some (sum, cnt) =>
      if cnt = 0 ∨ s.on (K.gfltGaugeState (s.rd (K.lampcLampSensor n))) then (none, s)
      else if sum = 0 then
        match s.fresh with
        | (v, s) => (some (List.replicate 3 ((v % 65536 : Nat) : Int)), s)
      else
        let num := toI 32 (s.apprLe (112 + 4 * n) 4) * cnt * sgn sum
        let g : Int := s.apprLe (224 + 2 * n) 2
        let now : Nat := max 1 (s.rd (K.lampLampGainG n))
        (some ((List.range 3).map fun c =>
          if c = 1 then roundDiv (g * num) sum.natAbs
          else roundDiv (nth (s.lampGains n) c * g * num) (sum.natAbs * now)), s)
    | none => (none, s)
  else (none, s)

/-- The lamp group's entries for three gains. -/
def lampVals (n : Nat) (g : List Nat) : List (Nat × Nat) :=
  [(K.lampLampGainR n, nth g 0), (K.lampLampGainG n, nth g 1), (K.lampLampGainB n, nth g 2)]

/-- Write and commit a camera's gains (R332, R346). -/
def State.lampPut (s : State) (n : Nat) (vals : List (Nat × Nat)) : State :=
  match s.loopPut (0x2430 + n) true vals with
  | (.done, s) =>
    let v (i : Nat) : Int := (vals.getD i (0, 0)).2
    let s := s.setLoop { s.loop with lampWait := tput s.loop.lampWait n 1 }
    (s.loopRecord 4 255 n (v 0) (v 1) (v 2) (s.rd (K.lampcLampSource n))).raise Ev.loopLamp
  | (.later, s) => s.setLoop { s.loop with retry := s.loop.retry ++ vals.map fun e => (0x2430 + n, e.1, e.2) }
  | (_, s) => s

/-- A camera's lamp at a window's end (R332, R333). -/
def State.lampEnd (s : State) (n : Nat) : State :=
  let wait := tget 0 s.loop.lampWait n
  if s.loop.retry.any fun e => e.1 == 0x2430 + n then s
  else if wait = 1 then
    if s.commitPending (0x2430 + n) then s else s.setLoop { s.loop with lampWait := tput s.loop.lampWait n 2 }
  else
    let s := s.setLoop { s.loop with lampWait := terase s.loop.lampWait n }
    match s.lampWant n with
    | (none, s) => s
    | (some want, s) =>
      let step : Int := s.rd K.lampcLampStep
      let now := s.lampGains n
      let near := (List.range 3).map fun c => clampI ((nth now c : Int) - step) ((nth now c : Int) + step) (nthI want c)
      let limited := near != want
      let s := s.setLoop { s.loop with settling := if limited then setBits s.loop.settling (2 ^ n) else clearBits s.loop.settling (2 ^ n) }
      let s := if limited then s.flag K.loopsStatus 256 108 else s
      let new := near.map fun v => clampI 8192 32767 v
      let s := if new = near then s else s.flag K.loopsStatus 512 108
      s.lampPut n (lampVals n (new.map Int.toNat))

/-- The writes that waited are tried again at a window's end (R346). -/
def State.loopRetry (s : State) : State :=
  let l := s.loop.retry
  let s := s.setLoop { s.loop with retry := [], reflHold := false }
  (distinct (l.map fun e => e.1)).foldl (fun (s : State) idx =>
    let vals := (l.filter fun e => e.1 == idx).map fun e => e.2
    if 0x2430 ≤ idx ∧ idx < 0x2440 then s.lampPut (idx - 0x2430) vals
    else
      match vals with
      | [] => s
      | v :: _ =>
        match s.regPut idx v.1 v.2 with
        | (.done, s) => if 0x3440 ≤ idx ∧ idx < 0x34C0 then s.awaitDelay (idx - 0x3440) else s
        | (_, s) => s) s

/-! ### Strips and capture (R339, R341, R342) -/

/-- A strip's mean over the window, with its error against the reference held. -/
def State.stripEnd (s : State) (i : Nat) : State :=
  match tfind s.loop.strips i with
  | some (sum, n) =>
    if n = 0 then s
    else
      let m := truncDiv sum n
      let s := s.wr (K.stripStripMean i) (ofI 32 m)
      if s.apprValid (16 + i) then s.wr (K.stripStripErr i) (ofI 32 (m - s.rdI 32 (K.stripStripRef i))) else s
  | none => s

/-- StripErrMax and WorstStrip of a slot (R351). -/
def State.showStrips (s : State) (i : Nat) : State :=
  match s.stripsOf i with
  | [] => (s.wr (K.lslotStripErrMax i) 0).wr (K.lslotWorstStrip i) 255
  | t :: l =>
    let e (n : Nat) : Int := s.rdI 32 (K.stripStripErr n)
    let w := l.foldl (fun w n => if (e w).natAbs < (e n).natAbs then n else w) t
    (s.wr (K.lslotStripErrMax i) (ofI 32 (e w))).wr (K.lslotWorstStrip i) w

/-- The window just closed adds its means to the capture. -/
def State.captureAdd (s : State) : State :=
  let w := s.loop.white.foldl (fun (t : Tab (Px × Nat)) e =>
    let n := e.2.2
    if n = 0 then t
    else
      let m : Px := { r := roundDiv e.2.1.r n, g := roundDiv e.2.1.g n, b := roundDiv e.2.1.b n }
      tupd (black, 0) t e.1 fun p => ({ r := p.1.r + m.r, g := p.1.g + m.g, b := p.1.b + m.b }, p.2 + 1)) s.loop.capWhite
  let add (from_ : Tab (Int × Nat)) (f : Int → Nat → Int) (t : Tab (Int × Nat)) : Tab (Int × Nat) :=
    from_.foldl (fun (t : Tab (Int × Nat)) e =>
      if e.2.2 = 0 then t else tupd (0, 0) t e.1 fun p => (p.1 + f e.2.1 e.2.2, p.2 + 1)) t
  s.setLoop { s.loop with capWhite := w, capDiode := add s.loop.diode roundDiv s.loop.capDiode,
                          capStrips := add s.loop.strips (fun a n => truncDiv a n) s.loop.capStrips }

/-- A camera's reference at the end of capture. -/
def captureCam (s : State) (n : Nat) : State :=
  let held (s : State) : State :=
    (s.apprPut (224 + 2 * n) 2 (s.rd (K.lampLampGainG n))).apprPut 4 4 (setBits (s.apprLe 4 4) (2 ^ n))
  if s.rd (K.lampcLampSource n) = 1 then
    match tfind s.loop.capWhite n with
    | some (p, k) =>
      let put (s : State) (c : Nat) : State := s.apprPut (16 + 8 * n + 2 * c) 2 (ofI 16 (roundDiv (p.ch c) k))
      held (put (put (put s 0) 1) 2)
    | none => s
  else if s.rd (K.lampcLampSource n) = 2 then
    match tfind s.loop.capDiode (s.rd (K.lampcLampSensor n)) with
    | some (v, k) => held (s.apprPut (112 + 4 * n) 4 (ofI 32 (roundDiv v k)))
    | none => s
  else s

/-- A strip's reference at the end of capture. -/
def captureStrip (s : State) (i : Nat) : State :=
  match tfind s.loop.capStrips i with
  | some (v, k) =>
    let m := ofI 32 (truncDiv v k)
    ((s.wr (K.stripStripRef i) m).apprPut (160 + 4 * i) 4 m).apprPut 4 4 (setBits (s.apprLe 4 4) (2 ^ (16 + i)))
  | none => s

/-- The last capture window has ended: the references are set and the loop is LOCKED. -/
def State.captureEnd (s : State) : State :=
  let s := ((s.apprPut 0 2 0x4C41).apprPut 2 1 1).apprPut 8 8 (s.rd K.loopsApproveTime / 65536)
  let s := (List.range 12).foldl captureCam s
  let s := (List.range 16).foldl captureStrip s
  (s.setLoop { s.loop with capLeft := none, capWhite := [], capDiode := [], capStrips := [] }).setLoopState 3

/-- The number of capture windows: ApproveRotations rotations (R342). -/
def State.capWindows (s : State) : Nat := s.rd K.lawApproveRotations * s.loopSlots.length

/-! ### Windows (R329) -/

/-- The columns of a window of a slot, with their nozzles' knots cached (R335). -/
def State.windowCols (s : State) (slot : Option Nat) : List LoopCol :=
  match slot with
  | none => []
  | some i =>
    match s.barsOf i with
    | [] => []
    | b :: _ => (List.range (s.rd K.seamWidth)).map fun (x : Nat) =>
      let n := s.nozzleAt b (2 * s.crossWeb x)
      let w := s.mapWord b n
      { noz := n, word := w, knots := s.glazeWord w % 2 ^ 60 }

/-- A window begins with a band. -/
def State.windowOpen (s : State) (band : Int) : State :=
  let slot := s.loopNext s.loop.slot
  let cols := s.windowCols slot
  s.setLoop { s.loop with open_ := true, band0 := band, slot := slot, cols := cols, white := [], diode := [], strips := [] }

/-- The fold of the window just closed begins; one still unfinished costs this window (R336). -/
def State.foldStart (s : State) (cap : Bool) : State :=
  match s.loop.slot with
  | none => s
  | some i =>
    if s.loop.fold.isSome then (s.inc 32 K.loopsFoldLate).flag K.loopsStatus 4096 110
    else
      match s.barsOf i with
      | [] => s
      | b :: _ =>
        let f : LoopFold :=
          { slot := i, bar := b, cols := s.loop.cols, cap := cap, first := cap && !bitOf s.loop.capSlots i, locked := s.loopState == 3,
            held := s.holdReason i != 0, a := s.absorb i (s.measCh i), gain := s.rd K.lawLoopGain, dead := s.rd K.lawDeadband,
            step := s.rd K.lawStepLimit, drift := s.rd K.lawDriftLimit, plausible := s.rd K.lawPlausibleMax,
            strike := s.rd K.lawStrikeLimit, count := s.rd K.lawMinCount }
        s.setLoop { s.loop with fold := some f, capSlots := if cap then setBits s.loop.capSlots (2 ^ i) else s.loop.capSlots }

/-- One window of a capture has passed: the first after the command begins it, the last ends it (R339). -/
def State.captureStep (s : State) : State :=
  match s.loop.capLeft with
  | none => s.setLoop { s.loop with capLeft := some s.capWindows }
  | some n => if n ≤ 1 then s.captureEnd else s.setLoop { s.loop with capLeft := some (n - 1) }

/-- A window ends (R332, R333, R338, R339, R342, R346), and the next begins. -/
def State.windowEnd (s : State) : State :=
  let cap := s.loopState == 2 && s.loop.capLeft.isSome
  let s := s.loopRetry
  let s := (List.range 12).foldl State.lampEnd s
  let s := (List.range (s.rd K.loopStripCount)).foldl State.stripEnd s
  let s := ((List.range 8).foldl State.showStrips s).showHolds
  let s := s.foldStart cap
  let s := if cap then s.captureAdd else s
  let s := s.wr K.loopsWindow (ofI 64 (s.rdI 64 K.loopsWindow + 1))
  let s := if s.loopState ≠ 2 then s else s.captureStep
  s.windowOpen (s.loop.band0 + s.rd K.loopLoopBands)

/-- A window has ended before line j. -/
def State.windowDue (s : State) (j : Int) : Bool :=
  s.loop.open_ && decide (s.loop.band0 + s.rd K.loopLoopBands ≤ s.bandAt j)

/-- End the windows that end before line j, at most `n`. -/
def windowsEnd (j : Int) : Nat → State → State
  | 0, s => s
  | n + 1, s => if s.windowDue j then windowsEnd j n s.windowEnd else s

/-- Line j is about to reach Umbra: windows end and the run's first begins. -/
def State.loopBegin (s : State) (j : Int) : State :=
  if ¬ s.loopRuns then s
  else
    let s := windowsEnd j (s.bandAt j - s.loop.band0).toNat s
    if s.loop.open_ ∨ ¬ s.bandStarts j then s else s.windowOpen (s.bandAt j)

/-- LOOP_WINDOW_END (R329): the line after the last lies in a band after the window's last. -/
def loopWindowEnd (s : State) : State :=
  match s.umb.last with
  | none => s
  | some j => if s.loopRuns ∧ s.windowDue (j + 1) then s.windowEnd else s

/-- LOOP_WINDOW_END. -/
def execLoopWindowEnd (s : State) : Host.Outcome State Fault Refusal := .next (loopWindowEnd s)

/-- Entry to RUNNING (R329, R330, R351): FreshW of every slot is Origin, no window has ended, and a mark or a head's marks begin
anew. -/
def State.loopRunStart (s : State) : State :=
  let s := (List.range 8).foldl (fun (s : State) i => s.wr (K.lslotFreshW i) (s.rd K.whlOrigin)) s
  (s.wr K.loopsWindow 0).setLoop s.loop.leave

/-- The apply of the structure group: LoopEnable 1 gives UNAPPROVED, 0 gives OFF (R341). -/
def State.loopApply (s : State) : State :=
  if ¬ s.on K.loopLoopEnable then s.setLoopState 0
  else if s.loopState = 0 then s.setLoopState 1
  else s

/-! ### The approval commands (R341) -/

/-- The nozzles of every mapped bar, by word index. -/
def State.mappedWords (s : State) : List Nat :=
  ((List.range 16).filter fun b => s.rd (K.ubarSlot b) != 255).flatMap fun b =>
    (List.range (s.rd (K.ubarHeadCount b) * s.rd (K.ubarHeadNozzles b))).map (s.mapWord b)

/-- Clear the references: the loop store's, the strips', the lamps'. -/
def State.clearRefs (s : State) : State :=
  let s := s.mappedWords.foldl (fun (s : State) w => s.blockWrite 6 (s.loopAddr w) (List.replicate 8 255)) s
  let s := (List.range 16).foldl (fun (s : State) i => (s.wr (K.stripStripRef i) 0).wr (K.stripStripErr i) 0) s
  let s := s.domWrite K.loopsApprovalSet 4 (List.replicate 252 0)
  s.setLoop { s.loop with capLeft := none, capWhite := [], capDiode := [], capStrips := [], capSlots := 0, settling := 0 }

/-- Clear every FROZEN flag and Strikes. -/
def State.clearFrozen (s : State) : State :=
  let s := s.mappedWords.foldl (fun (s : State) w =>
    match s.blockRead 6 (s.loopAddr w + 33) 1 with
    | (l, s) => s.blockWrite 6 (s.loopAddr w + 32) [0, clearBits (nth l 0) 1]) s
  s.wr K.loopsFrozenNozzles 0

/-- The status of an approval command accepted in some states. -/
def State.loopCmd (s : State) (states : List Nat) : Nat := if states.contains s.loopState then 0 else 3

/-- An ApproveCommand write. -/
def approveWrite (a : Acc) (code own : Nat) (eff : State → State) (s : State) : State :=
  s.act { a with value := code } K.loopsApproveCommand own eff

/-- APPROVE (R341, R342): the capture is counted from the first window after it. -/
def loopApprove (s : State) : State :=
  let s := s.clearRefs.clearFrozen
  let s := s.wr K.loopsApproveTime s.time
  let s := if s.loop.open_ then s else s.setLoop { s.loop with capLeft := some s.capWindows }
  s.setLoopState 2

/-- APPROVE as a write. -/
def approveSet (a : Acc) (s : State) : State := approveWrite a 1 (s.loopCmd [1, 3, 4]) loopApprove s

/-- APPROVE. -/
def execApprove (a : Acc) (s : State) : Host.Outcome State Fault Refusal := .next (approveSet a s)

/-- UNLOCK as a write (R341). -/
def unlockSet (a : Acc) (s : State) : State := approveWrite a 2 (s.loopCmd [2, 3, 4]) (fun s => s.clearRefs.setLoopState 1) s

/-- UNLOCK. -/
def execUnlock (a : Acc) (s : State) : Host.Outcome State Fault Refusal := .next (unlockSet a s)

/-- HOLD as a write (R341). -/
def holdSet (a : Acc) (s : State) : State := approveWrite a 3 (s.loopCmd [3]) (fun s => s.setLoopState 4) s

/-- HOLD. -/
def execHold (a : Acc) (s : State) : Host.Outcome State Fault Refusal := .next (holdSet a s)

/-- RESUME as a write (R341). -/
def resumeSet (a : Acc) (s : State) : State := approveWrite a 4 (s.loopCmd [4]) (fun s => s.setLoopState 3) s

/-- RESUME. -/
def execResume (a : Acc) (s : State) : Host.Outcome State Fault Refusal := .next (resumeSet a s)

/-- RESTORE takes the loop store and the ApprovalSet as they stand (R341, R347). -/
def loopRestore (s : State) : State :=
  let s := (List.range 16).foldl (fun (s : State) i => if s.apprValid (16 + i) then s.wr (K.stripStripRef i) (s.apprLe (160 + 4 * i) 4) else s) s
  let s := s.wr K.loopsApproveTime (s.apprLe 8 8 * 65536)
  let n := (s.mappedWords.filter fun w => bitOf (memGet s.mem (s.loopAddr w + 33)).toNat 0).length
  (s.wr K.loopsFrozenNozzles n).setLoopState 3

/-- RESTORE as a write: refused outside UNAPPROVED and STOPPED, and for a wrong Magic (R341). -/
def restoreSet (a : Acc) (s : State) : State :=
  let own := if s.loopState ≠ 1 ∨ s.dev ≠ stStopped then 3 else if s.apprLe 0 2 ≠ 0x4C41 then 8 else 0
  approveWrite a 5 own loopRestore s

/-- RESTORE. -/
def execRestore (a : Acc) (s : State) : Host.Outcome State Fault Refusal := .next (restoreSet a s)

end Sys2Proof.Machine
end

