-- ==== Sys2Proof/Machine/Gauge.lean ====
section
/-! DEFINITION. The Gauge (R303 to R328, R504): the CIC, the FIR with its banks and fades, single-cycle conversions, the
synchronising reset, calibration, and the channels' faults. -/

namespace Sys2Proof.Machine

/-- A channel's record. -/
def State.ga (s : State) (c : Nat) : Ga := tget {} s.gas c

/-- Set a channel's record. -/
def State.setGa (s : State) (c : Nat) (x : Ga) : State := { s with gas := tput s.gas c x }

/-! ### The chain (R305 to R308) -/

/-- One modulator clock of the integrators, modulo 2^40 (R305). -/
def cicClock (ints : List Nat) (bit : Bool) : List Nat :=
  let m := 2 ^ 40
  let i1 := (nth ints 0 + (if bit then 1 else m - 1)) % m
  let i2 := (nth ints 1 + i1) % m
  let i3 := (nth ints 2 + i2) % m
  [i1, i2, i3, (nth ints 3 + i3) % m]

/-- The combs at a decimation instant: C4, and the values kept for the next (R305). -/
def cicComb (i4 : Nat) (prev : List Nat) : Nat × List Nat :=
  let m := 2 ^ 40
  let c1 := (i4 + m - nth prev 0) % m
  let c2 := (c1 + m - nth prev 1) % m
  let c3 := (c2 + m - nth prev 2) % m
  ((c3 + m - nth prev 3) % m, [i4, c1, c2, c3])

/-- Run `bits` through the CIC at decimation `r`, `left` clocks to the next instant: the registers and the outputs. -/
def cicRun (r : Nat) : Nat → List Bool → List Nat → List Nat → List Nat × List Nat × List Int
  | _, [], ints, combs => (ints, combs, [])
  | left, b :: l, ints, combs =>
    let ints := cicClock ints b
    if left ≤ 1 then
      let c := cicComb (nth ints 3) combs
      let t := cicRun r r l ints c.2
      (t.1, t.2.1, toI 40 c.1 :: t.2.2)
    else cicRun r (left - 1) l ints combs

/-- ceil(log2 r). -/
def clog2 (r : Nat) : Nat := ((List.range 16).filter fun i => Nat.blt (2 ^ i) r).length

/-- An integer saturated to 24 bits, and whether it was. -/
def sat24 (v : Int) : Int × Bool := (clampI (-8388608) 8388607 v, decide (v < -8388608 ∨ 8388607 < v))

/-- The normalised code of a CIC output (R306). -/
def cicNorm (r : Nat) (y : Int) : Int × Bool :=
  let sh := 4 * clog2 r
  let norm := (roundDiv (2 ^ (23 + sh)) (r ^ 4))
  sat24 (sra (y * norm + 2 ^ (sh - 1)) sh)

/-- A channel's bank coefficients (R318). -/
def State.firTap (s : State) (c bank j : Nat) : Int :=
  toI 32 (s.domLe (if bank = 0 then K.gbankBankA c else K.gbankBankB c) (4 * j) 4)

/-- The FIR of a bank over the outputs held, latest first (R307). -/
def State.firOut (s : State) (c bank : Nat) (x : List Int) : Int × Bool :=
  sat24 (sra (sumTo (s.rd (K.gaFirLength c)) (fun j => s.firTap c bank j * nthI x j) + 2 ^ 29) 30)

/-- Offset and gain (R308). -/
def State.gaCode (s : State) (c : Nat) (y : Int) : Int × Bool :=
  sat24 (sra ((y - s.rdI 32 (K.gaOffset c)) * s.rdI 32 (K.gaGain c) + 2 ^ 29) 30)

/-! ### Which conversions a channel makes (R311 to R314) -/

/-- A resistance scan holds the channel (R314). -/
def State.gaHeld (s : State) (c : Nat) : Bool := Nat.ble 8 c && s.bit K.gauScanHold (c - 8)

/-- The channel is retired (R504). -/
def State.gaRetired (s : State) (c : Nat) : Bool := s.on (K.gfltGaugeState c)

/-- Port of input i of a channel (R303). -/
def gaPort (c i : Nat) : Nat := 4 * (c - 8) + i

/-- A released input of a held channel waits for its conversion. -/
def State.gaReleased (s : State) (c i : Nat) : Bool :=
  s.scan.any fun x => x.port == gaPort c i && x.ready && x.word.isNone

/-- The inputs a channel converts: the released ones of a held channel; the monitored ports in SENSE; else InputSelect. -/
def State.gaInputs (s : State) (c : Nat) : List Nat :=
  if s.gaHeld c then (List.range 4).filter (s.gaReleased c)
  else if s.rd (K.gaMode c) = 3 then
    (List.range 4).filter fun i => s.portState (gaPort c i) == kpActive && s.on (K.kpSenseEnable (gaPort c i))
  else if s.rd (K.gaMode c) = 0 then [] else [s.rd (K.gaInputSelect c)]

/-- The next input in rotation after the last one converted. -/
def State.gaNext (s : State) (c : Nat) : Option Nat :=
  let l := s.gaInputs c
  match l.find? fun i => Nat.blt (s.ga c).input i with
  | some i => some i
  | none => l.head?

/-- The channel makes single-cycle conversions. -/
def State.gaSingle (s : State) (c : Nat) : Bool := s.gaHeld c || s.rd (K.gaMode c) != 1

/-- SccDecimation and MuxSettle in force: a held channel keeps those of the scan's start (R314). -/
def State.gaScc (s : State) (c : Nat) : Nat × Nat :=
  if s.gaHeld c then (s.ga c).heldSet else (s.rd (K.gaSccDecimation c), s.rd (K.gaMuxSettle c))

/-- FirDecimation in force; 1 with the FIR off (R307). -/
def State.gaF (s : State) (c : Nat) : Nat := if s.on (K.gaFirEnable c) then s.rd (K.gaFirDecimation c) else 1

/-- SettleCount of R316. -/
def State.settleCount (s : State) (c : Nat) : Nat :=
  if s.gaSingle c then 0
  else if s.on (K.gaFirEnable c) then 4 + ceilDiv (s.rd (K.gaFirLength c)) (s.rd (K.gaFirDecimation c)) else 4

/-! ### Words (R309, R310) -/

/-- The word of R309. -/
def gaWord (settle over_ : Bool) (input c : Nat) (code : Nat) : Nat :=
  b2n settle * 2 ^ 31 + b2n over_ * 2 ^ 30 + input * 2 ^ 28 + c * 2 ^ 24 + code % 2 ^ 24

/-- A word goes to the Kiln (R290, R293, R313) and to the colour loop's lamp averages (R331). -/
def State.gaUse (s : State) (c input : Nat) (settle : Bool) (code : Int) (w : Nat) : State :=
  let s := if s.gaHeld c then
      { s with scan := s.scan.map fun x => if x.port = gaPort c input ∧ x.ready ∧ x.word.isNone then { x with word := some w } else x }
    else if s.rd (K.gaMode c) = 3 ∧ ¬ settle then s.senseWord (gaPort c input) code
    else s
  if s.loop.open_ ∧ ¬ settle then
    { s with loop := { s.loop with diode := tupd (0, 0) s.loop.diode c fun p => (p.1 + code, p.2 + 1) } }
  else s

/-- A channel delivers a word (R309, R310). -/
def State.gaDeliver (s : State) (c input : Nat) (settle over_ : Bool) (code : Int) : State :=
  let w := gaWord settle over_ input c (ofI 24 code)
  let s := (s.wr (K.gasLatest c) w).inc 64 (K.gasSamples c)
  let s := if over_ then s.flag (K.gasStatus c) 1 216 else s
  let q := s.rd (K.gaOutQueue c)
  let s := if q = 255 then s else
    match s.offerTo q (leBytes 4 w ++ leBytes 4 (s.rd (K.gasSamples c) % 2 ^ 32) ++ leBytes 8 s.timeNs) with
    | (true, s) => s
    | (false, s) => (s.inc 32 (K.gasLost c)).flag (K.gasStatus c) 2 217
  s.gaUse c input settle code w

/-- A word flagged SETTLE: its value is undefined (R309), a free value. -/
def State.gaSettleWord (s : State) (c input : Nat) : State :=
  match s.fresh with
  | (v, s) => s.gaDeliver c input true false (toI 24 v)

/-! ### Fades (R317 to R320) -/

/-- HeldRequest: 0 none, 1 A, 2 B. -/
def State.gaHold (s : State) (c : Nat) : Option Nat :=
  let v := s.rd (K.gasHeldRequest c)
  if v = 0 then none else some (v - 1)

/-- A fade has ended or a request is complete. -/
def State.fadeDone (s : State) (c : Nat) : State := (s.raise (Ev.gaFadeDone c)).arrive 218

/-- Take up a swap request with no fade running (R318). -/
def State.fadeTake (s : State) (c target : Nat) : State :=
  if s.rd (K.gasActiveBank c) = target then s.fadeDone c
  else (s.setGa c { s.ga c with fade := some (target, 0) }).wr (K.gasFadeState c) 1

/-- Take up a held request. -/
def State.fadeHeld (s : State) (c : Nat) : State :=
  match s.gaHold c with
  | none => s
  | some t => (s.wr (K.gasHeldRequest c) 0).fadeTake c t

/-- A fade's target becomes active. -/
def State.fadeEnd (s : State) (c target : Nat) : State :=
  ((s.setGa c { s.ga c with fade := none }).wr (K.gasActiveBank c) target).wr (K.gasFadeState c) 0 |>.fadeDone c

/-- y_f of a FIR output, with the step of a fade that runs (R318). -/
def State.fadeStep (s : State) (c : Nat) (x : List Int) : (Int × Bool) × State :=
  let old := s.firOut c (s.rd (K.gasActiveBank c)) x
  match (s.ga c).fade with
  | none => (old, s)
  | some (t, i) =>
    let k := s.rd (K.gaFadeShift c)
    let new := s.firOut c t x
    let y := sra (old.1 * (2 ^ k - (i + 1 : Int)) + new.1 * (i + 1 : Int) + (if k = 0 then 0 else 2 ^ (k - 1))) k
    let s := if i + 1 = 2 ^ k then (s.fadeEnd c t).fadeHeld c else s.setGa c { s.ga c with fade := some (t, i + 1) }
    ((y, old.2 || new.2), s)

/-- A bank is busy (R320). -/
def State.bankBusy (s : State) (c bank : Nat) : Bool :=
  s.rd (K.gasActiveBank c) == bank || (s.ga c).fade.isSome || s.gaHold c == some bank

/-- A domain transfer writes the bank. -/
def State.bankWritten (s : State) (c bank : Nat) : Bool :=
  s.xfers.any fun x => x.2.write && x.2.entry == (if bank = 0 then K.gbankBankA c else K.gbankBankB c)

/-- SWAP_TARGET (R318 to R320). -/
def swapTargetWrite (a : Acc) (c : Nat) (s : State) : State :=
  let t := accVal a (K.gasSwapTarget c)
  s.act a (K.gasSwapTarget c) (if s.bankWritten c t then 13 else 0) fun s =>
    if (s.ga c).fade.isNone ∧ (s.gaHold c).isNone then s.fadeTake c t
    else
      let s := if (s.gaHold c).isSome then s.flag (K.gasStatus c) 4 218 else s
      s.wr (K.gasHeldRequest c) (t + 1)

/-- SWAP_TARGET. -/
def execSwapTarget (a : Acc) (c : Nat) (s : State) : Host.Outcome State Fault Refusal := inst (Nat.blt c 16) (swapTargetWrite a c s)

/-! ### Faults (R503, R504) -/

/-- A transient Gauge fault; a channel that breaks its policy is retired. -/
def State.gaFault (s : State) (c bit : Nat) : State :=
  let u := 7 * 256 + c
  let s := (s.inc 32 (K.gfltFaultCount c)).wr (K.gfltLastFaultTime c) s.time
  let s := s.transient u bit (s.rd (K.gfltRetryWindow c))
  if s.breaks u (s.rd (K.gfltRetryCount c)) (s.rd (K.gfltRetryWindow c)) ∧ ¬ s.gaRetired c then
    ((s.wr (K.gfltGaugeState c) 1).wr (K.gfltGaugeFaults c) (setBits (s.rd (K.gfltGaugeFaults c)) 2)).retire u bit
      (s.rd (K.gfltFaultCount c))
  else s

/-- MOD_STUCK (R504): 2^20 modulator clocks without a transition. -/
def modStuck (c : Nat) (s : State) : State :=
  if s.rd (K.gaMode c) = 0 ∨ s.gaRetired c then s
  else
    let s := s.at ((s.ga c).edgeAt + 32 * 2 ^ 20)
    let s := (s.setGa c { s.ga c with edgeAt := s.now }).wr (K.gfltGaugeFaults c) (setBits (s.rd (K.gfltGaugeFaults c)) 1)
    s.gaFault c 0

/-- MOD_STUCK. -/
def execModStuck (c : Nat) (s : State) : Host.Outcome State Fault Refusal := inst (Nat.blt c 16) (modStuck c s)

/-! ### Calibration (R321, R322) -/

/-- The mean of a calibration phase: floor((Σ + floor(n/2)) / n). -/
def calMean (sum : Int) (n : Nat) : Int := floorDiv (sum + ((n / 2 : Nat) : Int)) n

/-- Gain' of R321. -/
def calGain (refCode : Nat) (span : Int) : Int :=
  if span = 0 then 0
  else if 0 < span then roundDiv ((refCode * 2 ^ 30 : Nat) : Int) span.toNat else -roundDiv ((refCode * 2 ^ 30 : Nat) : Int) (-span).toNat

/-- The result is plausible (R321). -/
def calPlausible (offset gain : Int) : Bool :=
  decide (-131072 ≤ offset) && decide (offset ≤ 131072) && decide (95 * 2 ^ 30 ≤ 100 * gain) && decide (100 * gain ≤ 105 * 2 ^ 30)

/-- A calibration ends with its reference (R321). -/
def State.gaCalEnd (s : State) (c : Nat) (zero ref : Int) : State :=
  let gain := calGain (s.rd K.gauRefCode) (ref - zero)
  let ok := calPlausible zero gain
  let s := (s.setGa c { s.ga c with cal := none }).wr (K.gasCalZero c) (ofI 32 zero)
  let s := ((s.wr (K.gasCalRef c) (ofI 32 ref)).inc 32 (K.gasCalCount c)).wr (K.gasCalTime c) s.time
  let s := { s with calRecs := tupd {} s.calRecs (calGa c) fun r => { r with has := true } }
  let s := (s.calEnd (calGa c) (if ok then 0 else 2) 0 0).raise (Ev.gaCalDone c) |>.arrive 219
  if ok then
    let s := (s.wr (K.gaOffset c) (ofI 32 zero)).wr (K.gaGain c) (ofI 32 gain)
    let s := (s.stage (K.gaOffset c) (ofI 32 zero)).stage (K.gaGain c) (ofI 32 gain)
    (s.inc 32 (K.generation (0x3810 + c))).wr (K.gasCalStatus c) 2
  else ((s.wr (K.gasCalStatus c) 3).flag (K.gasStatus c) 8 219).gaFault c 3

/-- What a phase of a calibration first discards: SettleCount words, or one conversion. -/
def State.calDiscard (s : State) (c : Nat) : Nat := if s.gaSingle c then 1 else s.settleCount c

/-- A calibration takes a word's pre-offset value. -/
def State.gaCalWord (s : State) (c : Nat) (x : GaCal) (y : Int) : State :=
  if x.left ≠ 0 then s.setGa c { s.ga c with cal := some { x with left := x.left - 1 } }
  else
    let x := { x with sum := x.sum + y, n := x.n + 1 }
    if x.n < s.rd (K.gaCalSamples c) then s.setGa c { s.ga c with cal := some x }
    else if x.ref then s.gaCalEnd c x.zero (calMean x.sum x.n)
    else s.setGa c { s.ga c with cal := some { ref := true, left := s.calDiscard c, sum := 0, n := 0, zero := calMean x.sum x.n } }

/-- CAL_GO (R321, R322). -/
def calGoWrite (a : Acc) (c : Nat) (s : State) : State :=
  let busy := (s.ga c).cal.isSome || s.gaHeld c
  s.act a (K.gasCalGo c) (if accVal a (K.gasCalGo c) = 0 then 0 else if busy then 13 else if s.rd (K.gaMode c) = 0 then 3 else 0)
    fun s =>
      if accVal a (K.gasCalGo c) = 0 then s
      else (s.setGa c { s.ga c with cal := some { ref := false, left := s.calDiscard c, sum := 0, n := 0, zero := 0 } }).wr
        (K.gasCalStatus c) 1

/-- CAL_GO. -/
def execCalGo (a : Acc) (c : Nat) (s : State) : Host.Outcome State Fault Refusal := inst (Nat.blt c 16) (calGoWrite a c s)

/-- A calibration is ended at once (R322): ABORTED, the old values stay and nothing is counted. -/
def State.gaCalAbort (s : State) (c : Nat) : State :=
  if (s.ga c).cal.isNone then s else (s.setGa c { s.ga c with cal := none }).wr (K.gasCalStatus c) 4

/-- Every calibration of the Gauge is ended. -/
def State.gaCalAborts (s : State) : State := (List.range 16).foldl State.gaCalAbort s

/-! ### Outputs (R307 to R313) -/

/-- A channel has a value: it goes to a calibration, or out as a word. Either is one of the words after a reset (R316). -/
def State.gaValue (s : State) (c input : Nat) (y : Int) (sat : Bool) : State :=
  match (s.ga c).cal with
  | some x => (s.wr (K.gasSettleLeft c) (s.rd (K.gasSettleLeft c) - 1)).gaCalWord c x y
  | none =>
    if s.rd (K.gasSettleLeft c) ≠ 0 then (s.wr (K.gasSettleLeft c) (s.rd (K.gasSettleLeft c) - 1)).gaSettleWord c input
    else
      let z := s.gaCode c y
      s.gaDeliver c input false (sat || z.2) z.1

/-- The stream's transitions are noted (R504), and its clocks pass. -/
def State.gaClocks (s : State) (c n : Nat) (bits : List Bool) : State :=
  let x := s.ga c
  let s := s.at (x.outAt + 32 * n)
  let moved := bits.any fun b => b != x.level
  s.setGa c { x with outAt := s.now, edgeAt := if moved then s.now else x.edgeAt, level := bits.getLastD x.level }

/-- An output of a CONTINUOUS channel from the R × F modulator bits since the last. -/
def State.gaContinuous (s : State) (c : Nat) (bits : List Bool) : State :=
  let r := s.rd (K.gaCicDecimation c)
  let n := r * s.gaF c
  if bits.length ≠ n then s
  else
    let s := s.gaClocks c n bits
    let x := s.ga c
    let t := cicRun r r bits x.ints x.combs
    let norm := t.2.2.map (cicNorm r)
    let fir := ((norm.map fun p => p.1).reverse ++ x.fir).take 128
    let s := s.setGa c { x with ints := t.1, combs := t.2.1, fir := fir }
    let sat := norm.any fun p => p.2
    if s.on (K.gaFirEnable c) then
      let s := if s.rd (K.gasSettleLeft c) = 0 ∧ x.fade.isNone then s.fadeHeld c else s
      match s.fadeStep c fir with
      | (y, s) => s.gaValue c 0 y.1 (sat || y.2)
    else s.gaValue c 0 (nthI fir 0) sat

/-- A single-cycle conversion of an input: the CIC is cleared, 4 R bits are counted, and the fourth output is taken (R312). -/
def State.gaConvert (s : State) (c input : Nat) (bits : List Bool) : State :=
  let r := (s.gaScc c).1
  if bits.length ≠ 4 * r then s
  else
    let s := s.gaClocks c ((s.gaScc c).2 + 4 * r) bits
    let t := cicRun r r bits [0, 0, 0, 0] [0, 0, 0, 0]
    let y := cicNorm r (nthI t.2.2 3)
    (s.setGa c { s.ga c with input := input }).gaValue c (if c < 8 then 0 else input) y.1 y.2

/-- GAUGE_OUTPUT (R309): a channel that runs produces an output from the modulator bits it has counted; a retired or stopped
channel, or one with nothing to convert, produces none. -/
def gaugeOutput (c : Nat) (bits : List Bool) (s : State) : State :=
  if s.gaRetired c then s
  else if s.gaSingle c then
    match s.gaNext c with
    | some i => s.gaConvert c i bits
    | none => s
  else s.gaContinuous c bits

/-- GAUGE_OUTPUT. -/
def execGaugeOutput (c : Nat) (bits : List Bool) (s : State) : Host.Outcome State Fault Refusal :=
  inst (Nat.blt c 16) (gaugeOutput c bits s)

/-! ### The synchronising reset (R315 to R317) -/

/-- The chain of a channel is cleared (R315, R316): a fade completes, a calibration starts its phase again, and the conversion
that the reset ends gives a word that carries SETTLE. -/
def State.gaReset (s : State) (c : Nat) : State :=
  let s : State := match (s.ga c).fade with | some (t, _) => s.fadeEnd c t | none => s
  let x : Ga := s.ga c
  let s := s.setGa c { x with ints := [0, 0, 0, 0], combs := [0, 0, 0, 0], fir := [], outAt := s.now,
                              cal := x.cal.map fun (k : GaCal) => { k with left := s.calDiscard c, sum := 0, n := 0 } }
  let s := s.wr (K.gasSettleLeft c) (s.settleCount c)
  if s.gaSingle c ∧ ¬ s.gaRetired c ∧ x.cal.isNone then
    match s.gaNext c with
    | some i => s.gaSettleWord c (if c < 8 then 0 else i)
    | none => s
  else s

/-- A synchronising reset in the FABCLK `t` (R315); requests in the same FABCLK make one. -/
def State.gaSync (s : State) (t : Nat) : State :=
  if s.syncAt = some t then s
  else
    let s := { s.at t with syncAt := some t }
    let s := (((s.inc 32 K.gauSyncCount).wr K.gauSyncTime s.time).raise Ev.gaSync).arrive 220
    (List.range 16).foldl State.gaReset s

/-- GSYNC_EDGE (R315): the selected edge is sampled at the ball. -/
def gsyncEdge (rising : Bool) (s : State) : State :=
  if s.rd K.gauGsyncEdge = (if rising then 1 else 2) then s.gaSync (s.now + 4) else s

/-- GSYNC_EDGE. -/
def execGsyncEdge (rising : Bool) (s : State) : Host.Outcome State Fault Refusal := .next (gsyncEdge rising s)

/-- SYNC_NOW (R315). -/
def syncNowWrite (a : Acc) (s : State) : State :=
  s.act a K.gauSyncNow 0 fun s => if accVal a K.gauSyncNow = 1 then s.gaSync (s.now + 2) else s

/-- SYNC_NOW. -/
def execSyncNow (a : Acc) (s : State) : Host.Outcome State Fault Refusal := .next (syncNowWrite a s)

/-- GA_SYNC_REQ (R315): a delivery at the task input. -/
def gaSyncReq (s : State) : State :=
  match s.takeTask 1 with
  | some (_, s) => s.gaSync (s.now + 2)
  | none => s

/-- GA_SYNC_REQ. -/
def execGaSyncReq (s : State) : Host.Outcome State Fault Refusal := .next (gaSyncReq s)

/-- A commit of a channel's group applies (R316): the channel alone is reset; a held one when the scan ends (R314). -/
def State.gaApply (s : State) (c : Nat) : State := if s.gaHeld c then s else s.gaReset c

/-- GAUGE_READMIT (R504, R506). -/
def gaugeReadmitWrite (a : Acc) (c : Nat) (s : State) : State :=
  s.act a (K.gfltReadmit c) 0 fun s =>
    if accVal a (K.gfltReadmit c) = 1 ∧ s.gaRetired c then ((s.readmit (7 * 256 + c)).wr (K.gfltGaugeState c) 0).gaReset c else s

/-- GAUGE_READMIT. -/
def execGaugeReadmit (a : Acc) (c : Nat) (s : State) : Host.Outcome State Fault Refusal :=
  inst (Nat.blt c 16) (gaugeReadmitWrite a c s)

end Sys2Proof.Machine
end

