-- ==== Sys2Proof/Machine/Scan.lean ====
section
/-! DEFINITION. The Kiln's resistance scan (R292 to R294, R314). -/

namespace Sys2Proof.Machine

/-- A head is selected in ScanMaskLo and ScanMaskHi. -/
def State.scanPicks (s : State) (h : Nat) : Bool :=
  if h < 64 then s.bit K.scanScanMaskLo h else s.bit K.scanScanMaskHi (h - 64)

/-- The heads a scan measures (R292). -/
def State.scanHeads (s : State) : List Nat :=
  (List.range 128).filter fun h =>
    s.scanPicks h && (s.headState h == khActive || s.headState h == khReady || s.headState h == khRetired) &&
    s.portState (h / 4) == kpActive

/-- The Gauge channel of a head's port (R303). -/
def headGauge (h : Nat) : Nat := 8 + h / 16

/-- A head enters MEASURE, or is skipped and counted: its Gauge channel is retired, or it gives no acknowledge. -/
def State.measureHead (acks : Nat) (s : State) (h : Nat) : State :=
  if s.gaRetired (headGauge h) ∨ ¬ bitOf acks h then s.inc 32 K.scanScanSkipped
  else (s.setHead h { s.head h with was := s.headState h }).setHeadState h khMeasure

/-- The next head of a port in MEASURE, from slot `i` on. -/
def State.scanNext (s : State) (p i : Nat) : Option Nat :=
  ((List.range 4).filter fun j => Nat.ble i j && s.headState (4 * p + j) == khMeasure).head?.map fun j => 4 * p + j

/-- SenseSettle of a port. -/
def State.senseSettle (s : State) (p : Nat) : Nat := us (s.rd (K.profSenseSettle (s.prof p)))

/-- The first element of every port is selected. -/
def State.scanStart (s : State) : State :=
  { s with scan := (List.range 32).filterMap fun p => (s.scanNext p 0).map fun h =>
      ({ port := p, head := h, pos := 0, due := s.now + s.senseSettle p, ready := false, word := none } : ScanPort) }

/-- GA8 to GA15 are no longer held; each runs its live set from here (R314). -/
def State.scanRelease (s : State) : State :=
  ((List.range 8).map (· + 8)).foldl State.gaReset (s.wr K.gauScanHold 0)

/-- The measured heads return to print mode; one that does not acknowledge the return is retired (R294). -/
def State.scanReturn (acks : Nat) (s : State) (h : Nat) : State :=
  if s.headState h ≠ khMeasure then s
  else
    let s := s.setHeadState h (s.head h).was
    if bitOf acks h ∨ s.headState h = khRetired then s else s.headRetire h 1

/-- Every head acknowledges. -/
abbrev allAck : Nat := 2 ^ 128 - 1

/-- The scan ends with a ScanStatus: 2 DONE, 3 ABORTED. -/
def State.scanEnd (s : State) (status acks : Nat) : State :=
  let s := (List.range 128).foldl (State.scanReturn acks) { s with scan := [] }
  let s := s.scanRelease.wr K.scanScanStatus status
  if status = 2 then ((s.kilnMark 32).raise Ev.klnScanDone).arrive 213 else s.arrive 213

/-- A scan runs. -/
def State.scanRuns (s : State) : Bool := s.rd K.scanScanStatus == 1

/-- SCAN_GO (R292): `acks` says which heads acknowledge MeasureReg. -/
def scanGoWrite (a : Acc) (acks : Nat) (s : State) : State :=
  s.act a K.scanScanGo (if accVal a K.scanScanGo = 1 ∧ s.scanRuns then 13 else 0) fun s =>
    if accVal a K.scanScanGo = 0 then s
    else
      let heads := s.scanHeads
      let s := (((s.wr K.scanScanMeasured 0).wr K.scanScanOut 0).wr K.scanScanSkipped 0).wr K.scanScanStatus 1
      let s := ((List.range 8).map (· + 8)).foldl (fun s c =>
        (s.gaCalAbort c).setGa c { s.ga c with heldSet := (s.rd (K.gaSccDecimation c), s.rd (K.gaMuxSettle c)), cal := none }) s
      let s := (heads.foldl (State.measureHead acks) (s.wr K.gauScanHold 255)).scanStart
      if s.scan.isEmpty then s.scanEnd 2 allAck else s

/-- SCAN_GO. -/
def execScanGo (a : Acc) (acks : Nat) (s : State) : Host.Outcome State Fault Refusal := .next (scanGoWrite a acks s)

/-- A running scan ends at the current element (R294). -/
def State.scanAbort (s : State) (acks : Nat) : State := if s.scanRuns then s.scanEnd 3 acks else s

/-- SCAN_ABORT (R294): `acks` says which heads acknowledge the return to print mode. -/
def scanAbortWrite (a : Acc) (acks : Nat) (s : State) : State :=
  s.act a K.scanScanAbort 0 fun s => if accVal a K.scanScanAbort = 1 then s.scanAbort acks else s

/-- SCAN_ABORT. -/
def execScanAbort (a : Acc) (acks : Nat) (s : State) : Host.Outcome State Fault Refusal := .next (scanAbortWrite a acks s)

/-- A fatal fault ends a scan; the heads are not returned to print mode (R294). -/
def State.scanHalt (s : State) : State :=
  if s.scanRuns then { s with scan := [] }.scanRelease.wr K.scanScanStatus 3 else s

/-- Change a scanned port. -/
def State.scanUpd (s : State) (p : Nat) (f : ScanPort → ScanPort) : State :=
  { s with scan := s.scan.map fun x => if x.port = p then f x else x }

/-- SCAN_SETTLE_END (R293): the earliest SenseSettle passes; the input is released. -/
def scanSettleEnd (s : State) : State :=
  match sortBy (fun x => (x.due : Int)) (s.scan.filter fun x => !x.ready) with
  | [] => s
  | x :: _ => (s.at x.due).scanUpd x.port fun y => { y with ready := true }

/-- SCAN_SETTLE_END. -/
def execScanSettleEnd (s : State) : Host.Outcome State Fault Refusal := .next (scanSettleEnd s)

/-- The next element of a port is selected: the next position of the head, or the next head; the port is done after its last. -/
def State.scanAdvance (s : State) (x : ScanPort) : State :=
  let next : Option (Nat × Nat) :=
    if x.pos + 1 < s.rd (K.profNozzles (s.prof x.port)) then some (x.head, x.pos + 1)
    else (s.scanNext x.port (x.head % 4 + 1)).map fun h => (h, 0)
  match next with
  | some (h, i) =>
    s.scanUpd x.port fun y => { y with head := h, pos := i, due := s.now + s.senseSettle x.port, ready := false, word := none }
  | none => { s with scan := s.scan.filter fun y => y.port != x.port }

/-- An element's code is compared with the limits and stored (R293). -/
def State.scanCode (s : State) (x : ScanPort) (code : Int) : State :=
  let g := s.prof x.port
  let nozzle := s.wiredNozzle g x.pos
  let s := s.inc 32 K.scanScanMeasured
  let s := if code < s.rdI 32 (K.profResLow g) ∨ s.rdI 32 (K.profResHigh g) < code then
      (s.askMaskFor (x.head * 8192 + nozzle) (2 ^ 61)).inc 32 K.scanScanOut
    else s
  let base := s.rd K.scanScanBase
  if base = 0 then s
  else s.blockWrite 11 (base + 2 * (x.head * 8192 + nozzle)) (leBytes 2 (ofI 16 (clampI (-32768) 32767 (sra code 8))))

/-- SCAN_ELEMENT (R293): a Gauge word taken for a port; one flagged SETTLE is discarded and the element is measured again. When the
last element of the last port is done, the scan ends. -/
def scanElement (s : State) : State :=
  match s.scan.find? fun x => x.word.isSome with
  | none => s
  | some x =>
    let w := x.word.getD 0
    if bitOf w 31 then s.scanUpd x.port fun y => { y with word := none }
    else
      let s := (s.scanCode x (toI 24 w)).scanAdvance x
      if s.scan.isEmpty then s.scanEnd 2 allAck else s

/-- SCAN_ELEMENT. -/
def execScanElement (s : State) : Host.Outcome State Fault Refusal := .next (scanElement s)

end Sys2Proof.Machine
end

