-- ==== Sys2Proof/Machine/Stops.lean ====
section
/-! DEFINITION. What every unit does when the device leaves its work: on entry to FAULT and FENCED (R25, R26, R28, R202, R291, R294,
R322, R346, R405, R509, R510, R518), with the patrol scrub's fatal fault. -/

namespace Sys2Proof.Machine

/-- Trigger generators stop, and triggers not yet taken are gone (R28). -/
def State.gensOff (s : State) : State :=
  { s with trigs := [], gens := s.gens.map fun e => (e.1, { e.2 with run := false, held := none }) }

/-- The colour loop on entry to FAULT or FENCED: the window is discarded and queued entries are dropped (R346). -/
def State.loopHalt (s : State) : State :=
  (s.setLoop { s.loop.leave with fold := none }).barsOn.foldl (fun (s : State) b => s.setBar b { s.bar b with loop := [] })
    (s.setLoop { s.loop.leave with fold := none })

/-- Every unit stops. -/
def State.stopUnits (s : State) : State :=
  let s := s.gensOff.kilnHalt.scanHalt.gaCalAborts.calAbort.umbDiscard.loopHalt
  let s := (List.range 32).foldl State.dmaStop s
  s.zeHalt.refreshPins

/-- A fatal fault in whatever state the device is. -/
def State.fatalStop (s : State) (code unit data : Nat) : State :=
  if s.dev = stReset ∨ s.dev = stFault then s.fatal code unit data else (s.fatal code unit data).stopUnits

/-- A stale epoch (R468). -/
def State.fenceStop (s : State) : State :=
  if s.dev = stReset ∨ s.dev = stFault ∨ s.dev = stFenced then s else s.fence.stopUnits

/-- PATROL_READ (R361, R551): in an idle cycle of a channel that is awake; `lastBlock` ends a pass. -/
def patrolRead (c a : Nat) (e : EccRead) (lastBlock : Bool) (s : State) : State :=
  if ¬ s.dramReady c ∨ s.rd K.dramPatrolPeriod = 0 ∨ ¬ (s.dramCh c).wait.isEmpty ∨ ¬ s.inDram a 64 ∨ s.dramOf a ≠ c then s
  else
    let s := if lastBlock then s.inc 32 (K.dcsPatrolPasses c) else s
    match e with
    | .clean => s
    | .corrected => s.eccCorrected c a
    | .uncorrectable => s.fatalStop 1 (8 * 256 + c) a

/-- PATROL_READ. -/
def execPatrolRead (ch : Nat) (a : Nat) (e : EccRead) (lastBlock : Bool) (s : State) : Host.Outcome State Fault Refusal :=
  inst (Nat.blt ch 4) (patrolRead ch a e lastBlock s)

end Sys2Proof.Machine
end

