-- ==== Sys2Proof/Machine/Faults.lean ====
section
/-! DEFINITION. The watchdog, the junction sensor, software's fatal fault, the clock monitor and requested calibrations (R511 to R518,
R535, R536). -/

namespace Sys2Proof.Machine

/-- WATCHDOG_KICK (R511). A write of 0 asks for nothing. -/
def watchdogKickWrite (a : Acc) (s : State) : State :=
  s.act a K.wdogWatchdogKick 0 fun s =>
    if accVal a K.wdogWatchdogKick = 1 then { s with wdog := { since := s.now } } else s

/-- WATCHDOG_KICK. -/
def execWatchdogKick (a : Acc) (s : State) : Host.Outcome State Fault Refusal := .next (watchdogKickWrite a s)

/-- The watchdog counts (R511). -/
def State.wdogCounts (s : State) : Bool :=
  s.rd K.wdogWatchdogPeriod != 0 && s.dev != stReset && s.dev != stBoot

/-- WDOG_WARN (R511): half the period without a kick. -/
def wdogWarn (s : State) : State :=
  if ¬ s.wdogCounts ∨ s.wdog.warned then s
  else
    let s := s.at (s.wdog.since + ms (s.rd K.wdogWatchdogPeriod) / 2)
    (({ s with wdog := { s.wdog with warned := true } }).flag K.fltFaultStatus 16 5).raise Ev.fltWdogWarn

/-- WDOG_WARN. -/
def execWdogWarn (s : State) : Host.Outcome State Fault Refusal := .next (wdogWarn s)

/-- WDOG_EXPIRE (R508, R511): the whole period without a kick. -/
def wdogExpire (s : State) : State :=
  if ¬ s.wdogCounts ∨ s.wdog.expired then s
  else
    let s := s.at (s.wdog.since + ms (s.rd K.wdogWatchdogPeriod))
    ({ s with wdog := { s.wdog with expired := true } }).fatalStop 7 0 0

/-- WDOG_EXPIRE. -/
def execWdogExpire (s : State) : Host.Outcome State Fault Refusal := .next (wdogExpire s)

/-- JUNCTION_READ (R512): a reading in m°C. -/
def junctionRead (t : Int) (s : State) : State :=
  if s.dev = stReset then s
  else
    let trip := decide (s.rdI 32 K.fltThermalTrip ≤ t)
    let before := s.hot
    let s := { s.wr K.fltJunctionTemp (ofI 32 t) with hot := some trip }
    let s := if s.rdI 32 K.fltThermalWarn ≤ t then s.flag K.fltFaultStatus 8 4 else s
    if trip ∧ before ≠ some true then s.fatalStop 6 0 (ofI 64 t) else s

/-- JUNCTION_READ. -/
def execJunctionRead (t : Int) (s : State) : Host.Outcome State Fault Refusal := .next (junctionRead t s)

/-- FATAL_REQUEST (R513): any value; the unit is the path that wrote. -/
def fatalRequestWrite (a : Acc) (s : State) : State :=
  s.act a K.fatalFatalRequest 0 fun s => s.fatalStop 8 (21 * 256 + a.path) (accVal a K.fatalFatalRequest)

/-- FATAL_REQUEST. -/
def execFatalRequest (a : Acc) (s : State) : Host.Outcome State Fault Refusal := .next (fatalRequestWrite a s)

/-- PLL_LOCK_LOSS (R508, R536). -/
def pllLockLoss (s : State) : State :=
  if s.dev = stReset then s else (s.wr K.clkRootPllLocked 0).fatalStop 5 (17 * 256) 0

/-- PLL_LOCK_LOSS. -/
def execPllLockLoss (s : State) : Host.Outcome State Fault Refusal := .next (pllLockLoss s)

/-- REFCLK_BAD (R535): no edge for 200 ns, or a measurement in kHz over 1 ms. -/
def refclkBad (kHz : Option Nat) (s : State) : State :=
  match kHz with
  | none => (s.flag K.clkClockStatus 1 12).raise Ev.clkRefclkBad
  | some f =>
    let s := s.wr K.clkRefclkMeasured f
    if f < 90000 ∨ 110000 < f then (s.flag K.clkClockStatus 1 12).raise Ev.clkRefclkBad else s

/-- REFCLK_BAD. -/
def execRefclkBad (kHz : Option Nat) (s : State) : Host.Outcome State Fault Refusal := .next (refclkBad kHz s)

/-! ### Requested calibrations (R514 to R518) -/

/-- The CalTable record of a CalRun value. -/
def calRunRec (v : Nat) : Nat := if v / 256 = 4 then calDc (v % 256) else calKp (v % 256)

/-- The value names a kind and an instance (R518). -/
def calRunOk (v : Nat) : Bool := (v / 256 == 4 && Nat.blt (v % 256) 4) || (v / 256 == 5 && Nat.blt (v % 256) 32)

/-- CAL_RUN (R518): a Kiln port that is not ACTIVE ends the run at once. -/
def calRunWrite (a : Acc) (s : State) : State :=
  let v := accVal a K.calCalRun
  s.act a K.calCalRun (if ¬ calRunOk v then 8 else if s.rd K.calCalRunStatus = 1 then 13 else 0) fun s =>
    let s := s.wr K.calCalRun v
    if v / 256 = 5 ∧ s.portState (v % 256) ≠ kpActive then (s.calEnd (calRunRec v) 6 0 48).wr K.calCalRunStatus 3
    else s.wr K.calCalRunStatus 1

/-- CAL_RUN. -/
def execCalRun (a : Acc) (s : State) : Host.Outcome State Fault Refusal := .next (calRunWrite a s)

/-- Why a measured run fails (R515); 0 when it is plausible. -/
def State.calReason (s : State) (kind : Nat) (m : CalMeasure) : Nat :=
  if m.timedOut then 4
  else if kind = 4 then (if m.margin < s.rd K.calDdrWindowMin then 1 else 0)
  else deskewReason m.spread m.residual

/-- A full DDR4 training brings every byte lane back to its trained value; DDR_DRIFT clears once none is off (R516). -/
def State.ddrTrained (s : State) (n : Nat) : State :=
  let s := s.setDramCh n { s.dramCh n with moved := [] }
  if s.ddrDrifted then s else s.unflag K.calCalStatus 2

/-- CAL_RUN_DONE (R514 to R516, R518); a failed deskew is a port fault. -/
def calRunDone (m : CalMeasure) (s : State) : State :=
  if s.rd K.calCalRunStatus ≠ 1 then s
  else
    let v := s.rd K.calCalRun
    let r := s.calReason (v / 256) m
    let s := if v / 256 = 4 then s.calEnd (calRunRec v) r m.margin (s.rd K.calDdrWindowMin) else s.calEnd (calRunRec v) r m.spread 48
    let s := s.wr K.calCalRunStatus (if r = 0 then 2 else 3)
    if v / 256 = 4 then (if r = 0 then s.ddrTrained (v % 256) else s)
    else if r = 0 then s else s.portFault (v % 256) 1

/-- CAL_RUN_DONE. -/
def execCalRunDone (result : CalMeasure) (s : State) : Host.Outcome State Fault Refusal := .next (calRunDone result s)

end Sys2Proof.Machine
end

