-- ==== Sys2Proof/Machine/Power.lean ====
section
/-! DEFINITION. The power domains' moments (R547 to R549) and the wake pin. -/

namespace Sys2Proof.Machine

/-- A camera channel whose receivers lose power (R547): ACTIVE and RELOCK become ABSENT with no fault counted, and discovery starts
when its lock is found again whatever its PlugMode (R549). -/
def camSleep (s : State) (n : Nat) : State :=
  let c := s.cam n
  let s := (s.setCam n { c with lock := false }).wr (K.camstLinksUp n) 0
  if s.camState n = camActive ∨ s.camState n = camRelock then
    (s.setCam n { lock := false, eager := true, baseK := c.baseK, baseB := c.baseB, baseL := c.baseL, cur := c.cur,
                  bands := c.bands }).setCamState n camAbsent
  else s

/-- DOMAIN_DOWN (R547, R548). -/
def domainDown (s : State) : State :=
  match s.power.todo with
  | [] => s
  | d :: l =>
    if s.dev ≠ stStandby ∨ s.rd K.pwrPowerPhase ≠ 1 then s
    else
      let s := s.at s.power.due
      let s := if d = 0 then (List.range 12).foldl camSleep s else s
      let s := { s with power := { s.power with todo := l, due := s.now + us 10 } }
      if l.isEmpty then s.asleep else s

/-- DOMAIN_DOWN. -/
def execDomainDown (s : State) : Host.Outcome State Fault Refusal := .next (domainDown s)

/-- DOMAIN_UP (R547, R549). -/
def domainUp (s : State) : State :=
  match s.power.todo with
  | [] => s
  | _ :: l =>
    if s.dev ≠ stStandby ∨ s.rd K.pwrPowerPhase ≠ 3 then s
    else
      let s := s.at s.power.due
      let s := { s with power := { s.power with todo := l, due := s.now + us 50 } }
      if l.isEmpty then s.awake else s

/-- DOMAIN_UP. -/
def execDomainUp (s : State) : Host.Outcome State Fault Refusal := .next (domainUp s)

/-- WAKE_PIN (R549): the level at WakePin changes; at WakeLevel it wakes the device. -/
def wakePin (level : Bool) (s : State) : State :=
  let pin := s.rd K.pwrWakePin
  if ¬ Nat.blt pin 32 then s
  else
    let s := { s with gpioIn := tput s.gpioIn pin (b2n level) }
    if s.wakePinOn then s.wake 2 else s

/-- WAKE_PIN. -/
def execWakePin (level : Bool) (s : State) : Host.Outcome State Fault Refusal := .next (wakePin level s)

end Sys2Proof.Machine
end

