-- ==== Sys2Proof/Machine/Skobaty.lean ====
section
/-! DEFINITION. The Skobaty link up to its messages (R440 to R452): lanes, training, striping, sleep and wake; and the transmit side of
its messages (R453, R456 to R458): building, queues, routes, transmission. -/

namespace Sys2Proof.Machine

/-- The record of the link. -/
def State.setSkl (s : State) (k : Skl) : State := { s with skl := k }

/-- A port's record. -/
def State.skPort (s : State) (p : Nat) : SklPort := tget {} s.skl.ports p

/-- Set a port's record. -/
def State.setSkPort (s : State) (p : Nat) (x : SklPort) : State := s.setSkl { s.skl with ports := tput s.skl.ports p x }

/-- A lane's record. -/
def State.skLane (s : State) (l : Nat) : SklLane := tget {} s.skl.lanes l

/-- Set a lane's record. -/
def State.setSkLane (s : State) (l : Nat) (x : SklLane) : State := s.setSkl { s.skl with lanes := tput s.skl.lanes l x }

/-- LinkState codes (R471): 0 DISABLED, 1 DOWN, 2 TRAINING, 3 UP. -/
def State.skLink (s : State) (p : Nat) : Nat := s.rd (K.spsLinkState p)
/-- TrainState codes (R443): 1 HUNT, 2 CAP, 3 SWITCH, 4 TUNE, 5 CHECK, 6 ALIGN, 7 UP. -/
def State.skTrain (s : State) (p : Nat) : Nat := s.rd (K.spsTrainState p)
/-- The port is UP. -/
def State.skUp (s : State) (p : Nat) : Bool := s.skLink p == 3
/-- LaneState codes (R472): 0 OFF, 1 HUNT, 2 LOCKED, 3 RETIRED. -/
def State.skLaneState (s : State) (l : Nat) : Nat := s.rd (K.laneLaneState l)

/-- The lanes of a mask, of one port. -/
def lanesOf (mask : Nat) : List Nat := (List.range 4).filter (bitOf mask)

/-- Block time at a speed in FABCLK/1000 (R440). -/
def blockTime (speed : Nat) : Nat := if speed = 0 then 16896 else if speed = 1 then 5120 else 2048

/-- FABCLK that `n` block times take on one lane. -/
def blocksTime (speed n : Nat) : Nat := ceilDiv (n * blockTime speed) 1000

/-- What has left a port. -/
def State.skOut (s : State) (o : SklOut) : State := s.setSkl { s.skl with out := s.skl.out ++ [o] }

/-! ### Training (R443 to R446) -/

/-- Set a transmitter's taps. -/
def State.setTaps (s : State) (l pre main post : Nat) : State :=
  ((s.wr (K.laneTxPre l) pre).wr (K.laneTxMain l) main).wr (K.laneTxPost l) post

/-- The taps in force. -/
def State.taps (s : State) (l : Nat) : Nat × Nat × Nat := (s.rd (K.laneTxPre l), s.rd (K.laneTxMain l), s.rd (K.laneTxPost l))

/-- Every lane of LaneMask hunts at code 0 with PRESET taps; the others are off. -/
def huntLane (mask p : Nat) (s : State) (i : Nat) : State :=
  let l := 4 * p + i
  let s := s.setSkLane l {}
  if bitOf mask i then (s.wr (K.laneLaneState l) 1).setTaps l 0 63 0 else s.wr (K.laneLaneState l) 0

/-- The port is in HUNT. -/
def State.sklHunt (s : State) (p : Nat) : State :=
  let mask := s.rd (K.spLaneMask p)
  let s := (List.range 4).foldl (huntLane mask p) s
  let s := ((((s.wr (K.spsLinkState p) 2).wr (K.spsTrainState p) 1).wr (K.spsSpeed p) 0).wr (K.spsRxLanes p) 0).wr (K.spsTxLanes p) 0
  s.setSkPort p { s.skPort p with firstLock := none, lanes := 0, peer := none, prev := 0, next := 0, fell := false, asked := none,
                                  wanted := none, deaf := false }

/-- Routes through a port are forgotten (R450). -/
def State.forgetRoutes (s : State) (p : Nat) : State :=
  s.setSkl { s.skl with routes := s.skl.routes.filter fun e => e.2.port != p }

/-- Training starts (R443). -/
def State.sklTrain (s : State) (p : Nat) : State :=
  let s := if s.skUp p then s.forgetRoutes p else s
  (((s.wr (K.spsTxState p) 0).wr (K.spsRxState p) 0).inc 32 (K.spsTrainings p)).sklHunt p

/-- RETRAIN (R443). -/
def retrainWrite (a : Acc) (p : Nat) (s : State) : State :=
  s.act a (K.spsRetrain p) 0 fun s =>
    if accVal a (K.spsRetrain p) = 1 ∧ s.on (K.spPortEnable p) then s.sklTrain p else s

/-- RETRAIN. -/
def execRetrain (a : Acc) (p : Nat) (s : State) : Host.Outcome State Fault Refusal := inst (Nat.blt p 2) (retrainWrite a p s)

/-- LANE_LOCK (R442, R443, R449): a hunting lane has seen 64 valid headers in a row; a lane that hunts to rejoin asks for its place. -/
def laneLock (l : Nat) (s : State) : State :=
  let p := l / 4
  if s.skLaneState l ≠ 1 then s
  else if s.skTrain p = 1 then
    let x := s.skPort p
    (s.wr (K.laneLaneState l) 2).setSkPort p { x with firstLock := some (x.firstLock.getD s.now) }
  else if (s.skLane l).rejoin then
    let map := setBits (s.rd (K.spsRxLanes p)) (2 ^ (l % 4))
    let s := (s.wr (K.laneLaneState l) 2).setSkLane l { s.skLane l with rejoin := false }
    (s.setSkPort p { s.skPort p with asked := some map }).skOut (.laneMap p map)
  else s

/-- LANE_LOCK. -/
def execLaneLock (l : Nat) (s : State) : Host.Outcome State Fault Refusal := inst (Nat.blt l 8) (laneLock l s)

/-- A lane not locked takes no part until the next training. -/
def dropLane (p keep : Nat) (s : State) (i : Nat) : State :=
  if bitOf keep i then s else s.wr (K.laneLaneState (4 * p + i)) 0

/-- SKL_HUNT_DONE (R443): 10 ms after the first lane locked. -/
def sklHuntDone (p : Nat) (s : State) : State :=
  match (s.skPort p).firstLock with
  | none => s
  | some t =>
    if s.skTrain p ≠ 1 then s
    else
      let s := s.at (t + ms 10)
      let mask := ((List.range 4).filter fun i => s.skLaneState (4 * p + i) == 2).foldl (fun m i => m + 2 ^ i) 0
      let s := (List.range 4).foldl (dropLane p mask) s
      (s.wr (K.spsTrainState p) 2).setSkPort p { s.skPort p with lanes := mask }

/-- SKL_HUNT_DONE. -/
def execSklHuntDone (p : Nat) (s : State) : Host.Outcome State Fault Refusal := inst (Nat.blt p 2) (sklHuntDone p s)

/-- The next higher speed both sides offer, up to MaxSpeed; none once a step has failed (R446). -/
def State.nextSpeed (s : State) (p offered : Nat) : Option Nat :=
  if (s.skPort p).fell then none
  else (List.range 3).find? fun v => Nat.blt (s.rd (K.spsSpeed p)) v && Nat.ble v (s.rd (K.spMaxSpeed p)) && bitOf offered v

/-- SKL_CAP_DONE (R443): the lanes both sides offer; the next step, or ALIGN. -/
def sklCapDone (p : Nat) (c : SklCap) (s : State) : State :=
  if s.skTrain p ≠ 2 then s
  else
    let x := s.skPort p
    let lanes := x.lanes &&& c.lanes
    if lanes = 0 then s.sklHunt p
    else
      let s := (List.range 4).foldl (dropLane p lanes) s
      let x : SklPort := { x with lanes := lanes, peer := some c.node }
      match s.nextSpeed p c.speeds with
      | some v => (s.setSkPort p { x with prev := s.rd (K.spsSpeed p), next := v }).wr (K.spsTrainState p) 3
      | none => (s.setSkPort p x).wr (K.spsTrainState p) 6

/-- SKL_CAP_DONE. -/
def execSklCapDone (p : Nat) (c : SklCap) (s : State) : Host.Outcome State Fault Refusal := inst (Nat.blt p 2) (sklCapDone p c s)

/-- A speed step fails (R446): the previous speed with its taps, and no higher one is tried. -/
def State.sklFall (s : State) (p : Nat) : State :=
  let x := s.skPort p
  let s := (lanesOf x.lanes).foldl (fun (s : State) i =>
    let t := (s.skLane (4 * p + i)).taps
    s.setTaps (4 * p + i) t.1 t.2.1 t.2.2) s
  let s := ((s.wr (K.spsSpeed p) x.prev).wr (K.spsTrainState p) 6).setSkPort p { x with fell := true }
  (s.flag (K.spsPortStatus p) 4 130).raise (Ev.lnkFallback p)

/-- A lane enters TUNE: its taps are kept for a fallback, and it starts at pre 4, main 47, post 12 (R445). -/
def tuneLane (p : Nat) (s : State) (i : Nat) : State :=
  let l := 4 * p + i
  (s.setSkLane l { taps := s.taps l }).setTaps l 4 47 12

/-- SKL_SWITCH_DONE (R443): every lane up at the previous speed locks at the new one, or the step fails. -/
def sklSwitchDone (p : Nat) (locked : Bool) (s : State) : State :=
  if s.skTrain p ≠ 3 then s
  else
    let x := s.skPort p
    let s := (lanesOf x.lanes).foldl (tuneLane p) s
    if locked then ((s.wr (K.spsSpeed p) x.next).wr (K.spsTrainState p) 4).setSkPort p { s.skPort p with tuneAt := s.now }
    else s.sklFall p

/-- SKL_SWITCH_DONE. -/
def execSklSwitchDone (p : Nat) (locked : Bool) (s : State) : Host.Outcome State Fault Refusal :=
  inst (Nat.blt p 2) (sklSwitchDone p locked s)

/-- One tap under a request, 0 HOLD, 1 INC, 2 DEC, given its limits and the sum of the others: the tap and the answer 1 UPDATED, 2 MIN,
3 MAX. -/
def tapStep (req v lo hi rest : Nat) : Nat × Nat :=
  if req = 1 then (if v = hi ∨ 63 ≤ v + rest then (v, 3) else (v + 1, 1))
  else if req = 2 then (if v = lo then (v, 2) else (v - 1, 1))
  else (v, 0)

/-- This transmitter answers the peer's requests (R445): while its answer stands it waits for HOLD. -/
def State.tapRequest (s : State) (l req : Nat) : State :=
  let x := s.skLane l
  if req % 128 = 0 then s.setSkLane l { x with answer := 0 }
  else if x.answer ≠ 0 then s
  else if bitOf req 6 then (s.setTaps l 0 63 0).setSkLane l { x with answer := 0b010101 }
  else
    match s.taps l with
    | (pre, main, post) =>
      let a := tapStep (req % 4) pre 0 15 (main + post)
      let b := tapStep (req / 4 % 4) main 24 63 (a.1 + post)
      let c := tapStep (req / 16 % 4) post 0 31 (a.1 + b.1)
      (s.setTaps l a.1 b.1 c.1).setSkLane l { x with answer := a.2 + 4 * b.2 + 16 * c.2 }

/-- This receiver's side of the handshake (R445): an answer ends its request, and a new one stands only after NOT_UPDATED. -/
def SklLane.ask (x : SklLane) (now answer own : Nat) : SklLane :=
  let x : SklLane := if x.asked.isSome ∧ answer ≠ 0 then { x with asked := none, resting := true } else x
  let x : SklLane := if x.resting ∧ answer = 0 then { x with resting := false } else x
  if x.asked.isNone ∧ ¬ x.resting ∧ own ≠ 0 then { x with asked := some now } else x

/-- Both receivers of every lane are ready: TUNE ends. -/
def State.tuneDone (s : State) (p : Nat) : State :=
  if (lanesOf (s.skPort p).lanes).all fun i => (s.skLane (4 * p + i)).ready && (s.skLane (4 * p + i)).peerReady then
    s.wr (K.spsTrainState p) 5
  else s

/-- TRAIN_BLOCK (R445, R515): a block of TUNE on a lane that takes part. -/
def trainBlock (l : Nat) (b : TrainBlock) (s : State) : State :=
  let p := l / 4
  if s.skTrain p ≠ 4 ∨ ¬ bitOf (s.skPort p).lanes (l % 4) then s
  else
    let s := s.tapRequest l b.request
    let x := (s.skLane l).ask s.now b.answer b.own
    let s := s.setSkLane l { x with peerReady := b.ready }
    match b.eye with
    | none => s.tuneDone p
    | some eye =>
      if (s.skLane l).ready then s.tuneDone p
      else if eye < 12 then (s.calEnd (calLane l) 1 eye 12).sklFall p
      else ((s.calEnd (calLane l) 0 eye 12).setSkLane l { s.skLane l with ready := true, asked := none }).tuneDone p

/-- TRAIN_BLOCK. -/
def execTrainBlock (l : Nat) (b : TrainBlock) (s : State) : Host.Outcome State Fault Refusal := inst (Nat.blt l 8) (trainBlock l b s)

/-- TAP_REQUEST_TIMEOUT (R445): a request has stood for 2 ms; the lane, and with it the step, fails. -/
def tapRequestTimeout (l : Nat) (s : State) : State :=
  match (s.skLane l).asked with
  | none => s
  | some t => if s.skTrain (l / 4) ≠ 4 then s else (s.at (t + ms 2)).sklFall (l / 4)

/-- TAP_REQUEST_TIMEOUT. -/
def execTapRequestTimeout (l : Nat) (s : State) : Host.Outcome State Fault Refusal := inst (Nat.blt l 8) (tapRequestTimeout l s)

/-- TUNE_TIMEOUT (R445, R515): a lane without RxReady at TuneTimeout fails. -/
def tuneTimeout (l : Nat) (s : State) : State :=
  let p := l / 4
  let x := s.skPort p
  if s.skTrain p ≠ 4 ∨ ¬ bitOf x.lanes (l % 4) ∨ (s.skLane l).ready then s
  else ((s.at (x.tuneAt + ms (s.rd (K.spTuneTimeout p)))).calEnd (calLane l) 4 0 12).sklFall p

/-- TUNE_TIMEOUT. -/
def execTuneTimeout (l : Nat) (s : State) : Host.Outcome State Fault Refusal := inst (Nat.blt l 8) (tuneTimeout l s)

/-- SKL_CHECK_DONE (R443): invalid headers by lane over 2^20 blocks at both receivers; any fails the step. -/
def sklCheckDone (p : Nat) (errors : List Nat) (s : State) : State :=
  if s.skTrain p ≠ 5 then s
  else
    let s := (List.range 4).foldl (fun (s : State) i => s.add 32 (K.laneHeaderErrors (4 * p + i)) (nth errors i)) s
    if errors.all (· == 0) then s.wr (K.spsTrainState p) 2 else s.sklFall p

/-- SKL_CHECK_DONE. -/
def execSklCheckDone (p : Nat) (errors : List Nat) (s : State) : Host.Outcome State Fault Refusal :=
  inst (Nat.blt p 2) (sklCheckDone p errors s)

/-- SKL_ALIGN_DONE (R443, R447, R450): more than 64 blocks of skew, or a peer that fails, returns the port to HUNT. -/
def sklAlignDone (p : Nat) (skews : List Nat) (peerFailed : Bool) (s : State) : State :=
  if s.skTrain p ≠ 6 then s
  else if peerFailed ∨ skews.any (Nat.blt 64) then s.sklHunt p
  else
    let lanes := (s.skPort p).lanes
    let s := (lanesOf lanes).foldl (fun (s : State) i => s.wr (K.laneSkew (4 * p + i)) (nth skews i)) s
    let s := (((s.wr (K.spsRxLanes p) lanes).wr (K.spsTxLanes p) lanes).wr (K.spsTrainState p) 7).wr (K.spsLinkState p) 3
    let s := (s.wr (K.spsLastTrainTime p) s.time).setSkPort p { s.skPort p with idleAt := s.now, txFrom := s.now, deaf := false }
    (s.arrive 136).raise (Ev.lnkUp p)

/-- SKL_ALIGN_DONE. -/
def execSklAlignDone (p : Nat) (skews : List Nat) (peerFailed : Bool) (s : State) : Host.Outcome State Fault Refusal :=
  inst (Nat.blt p 2) (sklAlignDone p skews peerFailed s)

/-! ### Lane faults and striping (R447 to R450) -/

/-- Messages queued on a port are dropped and counted (R450). -/
def State.dropQueues (s : State) (p : Nat) : State :=
  let x := s.skPort p
  let n := (x.queues.map fun e => e.2.length).sum
  (s.add 32 (K.spsQueueDrops p) n).setSkPort p { x with queues := [] }

/-- The port goes DOWN (R450). -/
def State.sklDown (s : State) (p : Nat) : State :=
  let s := (s.wr (K.spsLinkState p) 1).wr (K.spsTrainState p) 0
  let s := ((s.flag (K.spsPortStatus p) 1 128).raise (Ev.lnkDown p)).forgetRoutes p
  let s := s.dropQueues p
  if s.on (K.spAutoRetrain p) ∧ s.on (K.spPortEnable p) then s.sklTrain p else s

/-- A receiving lane is retired (R448, R505). -/
def State.laneRetire (s : State) (l bit faults : Nat) : State :=
  let p := l / 4
  let s := ((s.wr (K.laneLaneState l) 3).inc 32 (K.laneFaultCount l)).wr (K.laneLastFaultTime l) s.time
  let s := s.retire (calUnit (calLane l)) bit faults
  let s := (s.flag (K.spsPortStatus p) 2 129).raise (Ev.lnkLaneRetired p)
  let map := clearBits (s.rd (K.spsRxLanes p)) (2 ^ (l % 4))
  let s := s.wr (K.spsRxLanes p) map
  if map = 0 then s.sklDown p
  else (s.setSkPort p { s.skPort p with asked := some map, deaf := true }).skOut (.laneMap p map)

/-- LANE_LOCK_LOST (R442, R446, R448, R451): in UP the lane is retired, unless its direction sleeps; in TUNE or CHECK the step fails;
in ALIGN the port returns to HUNT. -/
def laneLockLost (l : Nat) (s : State) : State :=
  let p := l / 4
  if s.skLaneState l ≠ 2 then s
  else if s.skUp p then
    if ¬ bitOf (s.rd (K.spsRxLanes p)) (l % 4) ∨ s.rd (K.spsRxState p) = 2 then s else s.laneRetire l 0 1
  else if ¬ bitOf (s.skPort p).lanes (l % 4) ∧ s.skTrain p ≠ 1 then s
  else if s.skTrain p = 1 then s.wr (K.laneLaneState l) 1
  else if s.skTrain p = 4 ∨ s.skTrain p = 5 then s.sklFall p
  else if s.skTrain p = 6 then s.sklHunt p
  else s

/-- LANE_LOCK_LOST. -/
def execLaneLockLost (l : Nat) (s : State) : Host.Outcome State Fault Refusal := inst (Nat.blt l 8) (laneLockLost l s)

/-- LANE_FAULT (R448, R502): a run of `headers` invalid headers that does not cost lock. -/
def laneFault (l headers : Nat) (s : State) : State :=
  let p := l / 4
  if ¬ s.skUp p ∨ ¬ bitOf (s.rd (K.spsRxLanes p)) (l % 4) ∨ headers < 4 then s
  else
    let u := calUnit (calLane l)
    let s := (s.add 32 (K.laneHeaderErrors l) headers).transient u 0 (s.rd (K.spRetryWindow p))
    if s.breaks u (s.rd (K.spRetryCount p)) (s.rd (K.spRetryWindow p)) then
      s.laneRetire l 0 (s.faultsIn u (s.rd (K.spRetryWindow p))).length
    else s

/-- LANE_FAULT. -/
def execLaneFault (l headers : Nat) (s : State) : Host.Outcome State Fault Refusal := inst (Nat.blt l 8) (laneFault l headers s)

/-- MARKER (R447 to R449, R452): the transmitter takes up the map its peer asked for, and the receiver the one it asked for. -/
def marker (p : Nat) (s : State) : State :=
  if ¬ s.skUp p then s
  else
    let x := s.skPort p
    let s := s.wr (K.spsRxState p) 0
    let s := match x.wanted with | some m => s.wr (K.spsTxLanes p) m | none => s
    let s := match x.asked with | some m => s.wr (K.spsRxLanes p) m | none => s
    s.setSkPort p { x with wanted := none, asked := none, deaf := false }

/-- MARKER. -/
def execMarker (p : Nat) (s : State) : Host.Outcome State Fault Refusal := inst (Nat.blt p 2) (marker p s)

/-- LANE_MAP (R448): the peer asks for a new map, which is taken up at the next marker. -/
def laneMap (p mask : Nat) (s : State) : State :=
  if ¬ s.skUp p then s else (s.wr (K.spsRxState p) 0).setSkPort p { s.skPort p with wanted := some (mask % 16) }

/-- LANE_MAP. -/
def execLaneMap (p mask : Nat) (s : State) : Host.Outcome State Fault Refusal := inst (Nat.blt p 2) (laneMap p mask s)

/-- A retired lane hunts again. -/
def readmitLane (p mask : Nat) (s : State) (i : Nat) : State :=
  let l := 4 * p + i
  if bitOf mask i ∧ s.skLaneState l = 3 then
    ((s.readmit (calUnit (calLane l))).wr (K.laneLaneState l) 1).setSkLane l { s.skLane l with rejoin := true }
  else s

/-- LANE_READMIT (R449, R506). -/
def laneReadmitWrite (a : Acc) (p : Nat) (s : State) : State :=
  s.act a (K.spsLaneReadmit p) 0 fun s => (List.range 4).foldl (readmitLane p (accVal a (K.spsLaneReadmit p))) s

/-- LANE_READMIT. -/
def execLaneReadmit (a : Acc) (p : Nat) (s : State) : Host.Outcome State Fault Refusal := inst (Nat.blt p 2) (laneReadmitWrite a p s)

/-- The apply of a port's group (R443, R470); `s` is the state before it. -/
def State.sklApply (s t : State) (p : Nat) : State :=
  if ¬ t.on (K.spPortEnable p) then
    let t := if s.skUp p then (t.forgetRoutes p).dropQueues p else t
    let t := (List.range 4).foldl (huntLane 0 p) t
    ((((t.wr (K.spsLinkState p) 0).wr (K.spsTrainState p) 0).wr (K.spsRxLanes p) 0).wr (K.spsTxLanes p) 0).setSkPort p {}
  else if ¬ s.on (K.spPortEnable p) ∨ (s.skUp p ∧ (s.rd (K.spMaxSpeed p) ≠ t.rd (K.spMaxSpeed p) ∨
      s.rd (K.spLaneMask p) ≠ t.rd (K.spLaneMask p))) then t.sklTrain p
  else t

/-! ### Sleep and wake (R451, R452) -/

/-- The order in which classes are served (R457). -/
def classOrder : List Nat := [6, 3, 1, 2, 4, 5]

/-- The depth of a class's queue (R457). -/
def classDepth (c : Nat) : Nat := match c with | 6 => 8 | 3 => 4 | 1 => 1 | 2 => 32 | 4 => 8 | _ => 16

/-- A class's queue. -/
def SklPort.queue (x : SklPort) (c : Nat) : List SkMsg := tget [] x.queues c

/-- No message is queued. -/
def SklPort.idle (x : SklPort) : Bool := classOrder.all fun c => (x.queue c).isEmpty

/-- SLEEP_IDLE (R451, R452): after SleepIdle µs with nothing to send, 8 SLEEP blocks; a message that becomes ready in that FABCLK refuses
the sleep. -/
def sleepIdle (p : Nat) (s : State) : State :=
  let x := s.skPort p
  if ¬ s.skUp p ∨ ¬ s.on (K.spSleepEnable p) ∨ s.rd (K.spsTxState p) = 2 then s
  else
    let due := x.idleAt + us (s.rd (K.spSleepIdle p))
    if x.idle then
      let s := s.at due
      let s := (s.setSkPort p { x with txFrom := s.now + blocksTime (s.rd (K.spsSpeed p)) 8 }).wr (K.spsTxState p) 2
      (s.skOut (.sleep p)).raise (Ev.lnkSleep p)
    else if x.readyAt = max due s.now then (s.at due).inc 32 (K.spsSleepRefused p)
    else s

/-- SLEEP_IDLE. -/
def execSleepIdle (p : Nat) (s : State) : Host.Outcome State Fault Refusal := inst (Nat.blt p 2) (sleepIdle p s)

/-- SLEEP_BLOCK (R451): the receiver has seen SLEEP on its lanes. -/
def sleepBlock (p : Nat) (s : State) : State := if s.skUp p then s.wr (K.spsRxState p) 2 else s

/-- SLEEP_BLOCK. -/
def execSleepBlock (p : Nat) (s : State) : Host.Outcome State Fault Refusal := inst (Nat.blt p 2) (sleepBlock p s)

/-- DIRECTION_WAKE (R452): a message is ready for a sleeping direction; WakeBlocks IDLE blocks and a MARKER go before it. -/
def directionWake (p : Nat) (s : State) : State :=
  let x := s.skPort p
  if ¬ s.skUp p ∨ s.rd (K.spsTxState p) ≠ 2 ∨ x.idle then s
  else
    let s := s.at x.txFrom
    let till := s.now + blocksTime (s.rd (K.spsSpeed p)) (s.rd (K.spWakeBlocks p) + 1)
    (((s.setSkPort p { x with txFrom := till }).wr (K.spsTxState p) 3).inc 32 (K.spsWakes p)).raise (Ev.lnkWake p)

/-- DIRECTION_WAKE. -/
def execDirectionWake (p : Nat) (s : State) : Host.Outcome State Fault Refusal := inst (Nat.blt p 2) (directionWake p s)

/-! ### Originating and queueing messages (R453, R455 to R457) -/

/-- The ports that are UP. -/
def State.upPorts (s : State) : List Nat := [0, 1].filter s.skUp

/-- QUEUE_DROP (R457). -/
def State.queueDrop (s : State) (p : Nat) : State := (s.inc 32 (K.spsQueueDrops p)).flag (K.spsPortStatus p) 16 134

/-- Put a message in a port's queue; a newer POS message replaces one still queued. None when there is no room. -/
def State.enqueue (s : State) (p : Nat) (m : SkMsg) : Option State :=
  let x := s.skPort p
  let q := x.queue m.cls
  let l := if m.cls = 1 then [m] else q ++ [m]
  if classDepth m.cls < l.length then none
  else some (s.setSkPort p { x with queues := tput x.queues m.cls l, readyAt := s.now })

/-- A local message goes to a port's queue: EVT, DICT and BULK wait for room, any other without room is dropped (R457). -/
def State.sendOn (m : SkMsg) (task : Option Nat) (s : State) (p : Nat) : State :=
  match s.enqueue p m with
  | some s => s
  | none =>
    if m.cls = 2 ∨ m.cls = 4 ∨ m.cls = 5 then
      s.setSkl { s.skl with waits := s.skl.waits ++ [{ port := p, msg := m, since := s.now, task := task }] }
    else s.queueDrop p

/-- A transit message goes to a port's queue, or is dropped (R457); it leaves no earlier than 64 FABCLK after it came (R458). -/
def State.transit (m : SkMsg) (s : State) (p : Nat) : State :=
  let free := (s.skPort p).idle
  match s.enqueue p m with
  | some s => if free then s.setSkPort p { s.skPort p with txFrom := max (s.skPort p).txFrom (s.now + 64) } else s
  | none => s.queueDrop p

/-- NO_ROUTE (R455). -/
def State.noRoute (s : State) : State := (s.inc 32 K.sklNoRoute).flag K.sklLinkStatus 8 134

/-- A message of this device with its next Sequence (R453). -/
def State.newMsg (s : State) (cls flags dest lineage : Nat) (payload : List Nat) : SkMsg × State :=
  let n := (s.skl.seq + 1) % 2 ^ 32
  ({ cls := cls, flags := flags, source := s.rd K.sklNodeId, dest := dest, epoch := s.rd K.sklRoleEpoch, role := s.rd K.sklRole,
     lineage := lineage, seq := n, payload := payload }, s.setSkl { s.skl with seq := n })

/-- Send a BROADCAST on every port that is UP. -/
def State.broadcast (s : State) (cls lineage : Nat) (payload : List Nat) (task : Option Nat := none) : State :=
  match s.newMsg cls 1 0xFFFF lineage payload with
  | (m, s) => s.upPorts.foldl (State.sendOn m task) s

/-- The route to a node. -/
def State.route (s : State) (node : Nat) : Option Route := tfind s.skl.routes node

/-- Send a unicast on the port its route names; without one, NO_ROUTE. The answer says whether it left. -/
def State.unicast (s : State) (cls flags dest lineage : Nat) (payload : List Nat) (task : Option Nat := none) : Bool × State :=
  match s.route dest with
  | none => (false, s.noRoute)
  | some r =>
    match s.newMsg cls flags dest lineage payload with
    | (m, s) => (true, s.sendOn m task r.port)

/-- Send on one port, to the neighbour. -/
def State.sendPort (s : State) (p cls flags dest : Nat) (payload : List Nat) : State :=
  if ¬ s.skUp p then s
  else
    match s.newMsg cls flags dest 0 payload with
    | (m, s) => s.sendOn m none p

/-- Local messages that wait take the room a port has, in order. -/
def fillQueues : List SklWait → State → State
  | [], s => s
  | w :: l, s =>
    match s.enqueue w.port w.msg with
    | some s => fillQueues l s
    | none => fillQueues l (s.setSkl { s.skl with waits := s.skl.waits ++ [w] })

/-- Fill the queues from the messages that wait. -/
def State.fill (s : State) : State := fillQueues s.skl.waits (s.setSkl { s.skl with waits := [] })

/-- Boundary records go to the neighbour on SKL0 (R217, R463). -/
def State.sendBulk (s : State) : State :=
  s.umb.records.foldl (fun (s : State) r =>
    s.sendPort 0 5 0 ((s.skPort 0).peer.getD 0xFFFF) ([1, 0, 0, 0, 0, 0, 0, 0] ++ r)) (s.setUmb { s.umb with records := [] })

/-- TAG_WRITE (R210, R217): the tag, and a boundary record it calls for. -/
def execTagWrite (s : State) : Host.Outcome State Fault Refusal := .next (tagWrite s).sendBulk

/-! ### Transmission (R457, R461, R493) -/

/-- Block times a message holds a port (R453, R458). -/
def State.msgTime (s : State) (p : Nat) (m : SkMsg) : Nat :=
  let blocks := 1 + ceilDiv (28 + m.payload.length) 8
  blocksTime (s.rd (K.spsSpeed p)) (ceilDiv blocks (max 1 (lanesOf (s.rd (K.spsTxLanes p))).length))

/-- SYNC and DELAY_REQ carry their own transmit time; that of a DELAY_REQ is t3 (R461, R493). -/
def State.stampOut (s : State) (m : SkMsg) : SkMsg × State :=
  let kind := nth m.payload 0
  if m.cls ≠ 3 ∨ (kind ≠ 1 ∧ kind ≠ 2) then (m, s)
  else
    let m : SkMsg := { m with payload := m.payload.take 8 ++ leBytes 8 (s.time / 65536) ++ leBytes 2 (s.time % 65536) ++ List.replicate 6 0 }
    if kind = 1 then (m, s)
    else (m, { s with sync := { s.sync with exch := s.sync.exch.map fun e => { e with t3 := some (s.time : Int) } } })

/-- MSG_TRANSMIT (R457): the first message of the highest class queued leaves. -/
def msgTransmit (p : Nat) (s : State) : State :=
  let x := s.skPort p
  if ¬ s.skUp p ∨ s.rd (K.spsTxState p) = 2 then s
  else
    match classOrder.findSome? fun c => (x.queue c).head?.map fun m => (c, m) with
    | none => s
    | some (c, m) =>
      let s := s.at x.txFrom
      match s.stampOut m with
      | (m, s) =>
        let till := s.now + s.msgTime p m
        let s := s.setSkPort p { x with queues := tput x.queues c ((x.queue c).drop 1), txFrom := till, idleAt := till }
        (((s.wr (K.spsTxState p) 0).skOut (.msg p m)).inc 64 (K.spsMsgSent p)).fill

/-- MSG_TRANSMIT. -/
def execMsgTransmit (p : Nat) (s : State) : Host.Outcome State Fault Refusal := inst (Nat.blt p 2) (msgTransmit p s)

/-- BULK_WAIT_TIMEOUT (R457): a local BULK message has waited for 1 ms. -/
def bulkWaitTimeout (s : State) : State :=
  match s.skl.waits.find? fun w => w.msg.cls == 5 with
  | none => s
  | some w => ((s.at (w.since + ms 1)).setSkl { s.skl with waits := s.skl.waits.erase w }).queueDrop w.port

/-- BULK_WAIT_TIMEOUT. -/
def execBulkWaitTimeout (s : State) : Host.Outcome State Fault Refusal := .next (bulkWaitTimeout s)

/-- LNK_SEND (R460): a delivery sends the EVT that SendRoutek names; in FENCED nothing is sent (R468). -/
def lnkSend (k : Nat) (s : State) : State :=
  match s.takeTask (32 + k) with
  | none => s
  | some (d, s) =>
    let r := s.rd (K.srtSendRoute k)
    let l := [r % 32, 0, 0, 0, 0, 0, 0, 0] ++ leBytes 8 s.timeNs
    if ¬ bitOf r 30 ∨ s.dev = stFenced then s
    else if bitOf r 31 then s.broadcast 2 d.lineage l (some (32 + k))
    else (s.unicast 2 0 (field r 27 16) d.lineage l (some (32 + k))).2

/-- LNK_SEND. -/
def execLnkSend (k : Nat) (s : State) : Host.Outcome State Fault Refusal := inst (Nat.blt k 32) (lnkSend k s)

/-- ROUTE_EXPIRY (R456): a route not refreshed for three heartbeat periods. -/
def routeExpiry (node : Nat) (s : State) : State :=
  match s.route node with
  | none => s
  | some r =>
    let s := s.at (r.heard + ms (3 * s.rd K.sklHeartbeatPeriod))
    s.setSkl { s.skl with routes := terase s.skl.routes node }

/-- ROUTE_EXPIRY. -/
def execRouteExpiry (node : Nat) (s : State) : Host.Outcome State Fault Refusal := .next (routeExpiry node s)

/-- SEQ_EXPIRY (R455): a Last entry not refreshed for SeqExpiry ms. -/
def seqExpiry (i : Nat) (s : State) : State :=
  match tfind s.skl.last i with
  | none => s
  | some e => (s.at (e.2 + ms (s.rd K.sklSeqExpiry))).setSkl { s.skl with last := terase s.skl.last i }

/-- SEQ_EXPIRY. -/
def execSeqExpiry (i : Nat) (s : State) : Host.Outcome State Fault Refusal := .next (seqExpiry i s)

end Sys2Proof.Machine
end

