-- ==== Sys2Proof/Machine/Time.lean ====
section
/-! DEFINITION. The time unit (R488 to R496): steps and rate of device time, synchronisation over the Skobaty link, alarms, captures and
the pulse per second. -/

namespace Sys2Proof.Machine

/-- The record of the time unit. -/
def State.setSync (s : State) (x : TimeSync) : State := { s with sync := x }

/-- Lim of R493: 500 ppm. -/
abbrev rateLim : Int := 175921860444

/-- The FABCLK, from now on, in which T first reaches a value of 2^−48 ns (R489). -/
def State.whenT (s : State) (t : Int) : Nat :=
  max s.now ((s.timeC0 : Int) + -(floorDiv (-(t - s.timeBase)) s.rate.toNat)).toNat

/-- A change of SyncState (R490, R493, R500). -/
def State.setSyncState (s : State) (v : Nat) : State :=
  if s.rd K.timeSyncState = v then s else ((s.wr K.timeSyncState v).arrive 16).raise Ev.timeState

/-- T(C1) becomes the Base and C1 the C0, then the rate is set (R489). -/
def State.setRate (s : State) (adj : Int) : State :=
  ({ s with timeBase := s.timeT, timeC0 := s.now }).wr K.timeRateAdj (ofI 64 adj)

/-! ### Alarms (R494) -/

/-- An alarm fires; TIME_ALARM0 is a wake source (R549). -/
def State.alarmFires (s : State) (n : Nat) (late : Bool) : State :=
  let s := (s.wr (K.alarmAlarmEnable n) 0).flag (K.alarmAlarmStatus n) (if late then 3 else 1) 18
  let s := s.raise (Ev.timeAlarm n)
  if n = 0 then s.wakeAlarm else s

/-- The alarm is enabled and device time is at or past AlarmTime. -/
def State.alarmPast (s : State) (n : Nat) : Bool :=
  s.on (K.alarmAlarmEnable n) && decide ((s.rd (K.alarmAlarmTime n) : Int) * 2 ^ 32 ≤ s.timeT)

/-- An alarm enabled when past, or passed by a step, fires at once with LATE. -/
def alarmLate (s : State) (n : Nat) : State := if s.alarmPast n then s.alarmFires n true else s

/-- ALARM_FIRE (R494). -/
def alarmFire (n : Nat) (s : State) : State :=
  if s.on (K.alarmAlarmEnable n) then
    (s.at (s.whenT ((s.rd (K.alarmAlarmTime n) : Int) * 2 ^ 32))).alarmFires n false
  else s

/-- ALARM_FIRE. -/
def execAlarmFire (n : Nat) (s : State) : Host.Outcome State Fault Refusal := inst (Nat.blt n 4) (alarmFire n s)

/-! ### Steps and rate (R489, R490) -/

/-- A step sets T(C1) to a value: TRACKING, STEPPED, TIME_STEP; alarms it passes fire at once. -/
def State.stepTo (s : State) (t : Int) : State :=
  let s := { s with timeBase := t, timeC0 := s.now }
  let s := ((s.wr K.timeTimeStatus (setBits (s.rd K.timeTimeStatus) 1)).raise Ev.timeStep).setSyncState 1
  let s := s.setSync { s.sync with validAt := s.now }
  [0, 1, 2, 3].foldl alarmLate s

/-- TIME_SET (R490): refused with ERR_STATE but in UNSYNCED. -/
def timeSetWrite (a : Acc) (s : State) : State :=
  s.act a K.timeTimeSet (if s.rd K.timeSyncState = 0 then 0 else 3) fun s =>
    s.stepTo ((accVal a K.timeTimeSet : Int) * 2 ^ 32)

/-- TIME_SET. -/
def execTimeSet (a : Acc) (s : State) : Host.Outcome State Fault Refusal := .next (timeSetWrite a s)

/-- TIME_STEP (R490): refused with ERR_STATE but in UNSYNCED. -/
def timeStepWrite (a : Acc) (s : State) : State :=
  s.act a K.timeTimeStep (if s.rd K.timeSyncState = 0 then 0 else 3) fun s =>
    s.stepTo (s.timeT + toI 64 (accVal a K.timeTimeStep) * 2 ^ 32)

/-- TIME_STEP. -/
def execTimeStep (a : Acc) (s : State) : Host.Outcome State Fault Refusal := .next (timeStepWrite a s)

/-- RESYNC (R490): refused with ERR_STATE outside STOPPED and STANDBY. -/
def resyncWrite (a : Acc) (s : State) : State :=
  s.act a K.timeResync (if s.dev = stStopped ∨ s.dev = stStandby then 0 else 3) fun s =>
    if accVal a K.timeResync = 1 then s.setSyncState 0 else s

/-- RESYNC. -/
def execResync (a : Acc) (s : State) : Host.Outcome State Fault Refusal := .next (resyncWrite a s)

/-- RATE_ADJ (R489, R490): ERR_STATE unless SyncSource is SOFTWARE, then ERR_RANGE beyond the limit. -/
def rateAdjWrite (a : Acc) (s : State) : State :=
  let v := toI 64 (accVal a K.timeRateAdj)
  s.act a K.timeRateAdj (if s.rd K.syncSyncSource ≠ 1 then 3 else if v < -rateLim ∨ rateLim < v then 8 else 0) fun s => s.setRate v

/-- RATE_ADJ. -/
def execRateAdj (a : Acc) (s : State) : Host.Outcome State Fault Refusal := .next (rateAdjWrite a s)

/-- What a write of SoftLocked does (R490): LOCKED under SOFTWARE once stepped, TRACKING when it is cleared. -/
def State.softLock (s : State) : State :=
  if s.rd K.syncSyncSource ≠ 1 then s
  else if s.on K.timeSoftLocked ∧ (s.rd K.timeSyncState = 1 ∨ s.rd K.timeSyncState = 3) then s.setSyncState 2
  else if ¬ s.on K.timeSoftLocked ∧ s.rd K.timeSyncState = 2 then s.setSyncState 1
  else s

/-! ### Time over the Skobaty link (R461, R491, R493) -/

/-- A TIME payload (R461). -/
def timePayload (kind id t : Nat) : List Nat :=
  [kind, 0, 0, 0] ++ leBytes 4 id ++ leBytes 8 (t / 65536) ++ leBytes 2 (t % 65536) ++ List.replicate 6 0

/-- Kind, ExchangeId and Timestamp of a TIME payload. -/
def timeKind (l : List Nat) : Nat := nth l 0
def timeId (l : List Nat) : Nat := leAt l 4 4
def timeStamp (l : List Nat) : Nat := leAt l 8 8 * 65536 + leAt l 16 2

/-- A Skobaty port's receive stamp with its asymmetry removed (R491). -/
def State.rxStamp (s : State) (p stamp : Nat) : Int := (stamp : Int) - s.rdI 32 (K.asymAsymmetry (2 + p))

/-- The node TIME is addressed to: its neighbour, under 0xFFFF (R453). -/
abbrev timeDest : Nat := 0xFFFF

/-- Messages other than heartbeats and DICT responses are originated (R468). -/
def State.originates (s : State) : Bool := s.dev != stReset && s.dev != stBoot && s.dev != stFenced

/-- SYNC_PERIOD (R493). -/
def syncPeriod (s : State) : State :=
  let s := s.at (s.sync.sentAt + us (s.rd K.syncSyncPeriod))
  let id := (s.sync.nextId + 1) % 2 ^ 32
  let s := s.setSync { s.sync with sentAt := s.now }
  if ¬ s.originates ∨ (s.rd K.syncSyncSource ≠ 0 ∧ s.rd K.timeSyncState ≠ 2) then s
  else
    let ports := [0, 1].filter fun p => s.bit K.syncSyncOutMask p && s.rd K.syncSyncSource != p + 2
    ports.foldl (fun (s : State) p => s.sendPort p 3 0 timeDest (timePayload 1 id 0)) (s.setSync { s.sync with nextId := id })

/-- SYNC_PERIOD. -/
def execSyncPeriod (s : State) : Host.Outcome State Fault Refusal := .next (syncPeriod s)

/-- HOLDOVER_TIMEOUT (R493): no valid exchange for HoldoverAfter periods under a Skobaty source. -/
def holdoverTimeout (s : State) : State :=
  if s.rd K.syncSyncSource < 2 ∨ (s.rd K.timeSyncState ≠ 1 ∧ s.rd K.timeSyncState ≠ 2) then s
  else
    let s := s.at (s.sync.validAt + s.rd K.syncHoldoverAfter * us (s.rd K.syncSyncPeriod))
    (s.wr K.timeTimeStatus (setBits (s.rd K.timeTimeStatus) 2)).setSyncState 3

/-- HOLDOVER_TIMEOUT. -/
def execHoldoverTimeout (s : State) : Host.Outcome State Fault Refusal := .next (holdoverTimeout s)

/-- The law of R493 for an offset that is no outlier. -/
def State.steer (s : State) (theta : Int) : State :=
  let pc := truncDiv (theta * 2 ^ 32) (us (s.rd K.syncSyncPeriod))
  let integ := clampI (-rateLim) rateLim (s.rdI 64 K.timeIntegral - floorDiv pc (2 ^ s.rd K.syncKiShift))
  let want := integ - floorDiv pc (2 ^ s.rd K.syncKpShift)
  let s := (s.wr K.timeIntegral (ofI 64 integ)).setRate (clampI (-rateLim) rateLim want)
  let s := if want < -rateLim ∨ rateLim < want then s.flag K.timeTimeStatus 8 17 else s
  let good := if theta.natAbs ≤ s.rd K.syncLockLimit then s.sync.good + 1 else 0
  let s := s.setSync { s.sync with run := 0, good := good }
  let st := s.rd K.timeSyncState
  let st := if st = 3 then 1 else st
  s.setSyncState (if s.rd K.syncLockCount ≤ good then 2 else if st = 2 ∧ good = 0 then 1 else st)

/-- The law of R493. -/
def State.timeLaw (s : State) (theta : Int) : State :=
  if s.rd K.timeSyncState = 0 then
    ((s.stepTo (s.timeT - theta * 2 ^ 32)).wr K.timeIntegral 0).setSync { s.sync with good := 0, validAt := s.now }
  else if s.rd K.syncOutlierLimit < theta.natAbs then
    let run := s.sync.run + 1
    let s := ((s.inc 32 K.timeOutliers).flag K.timeTimeStatus 16 19).setSync { s.sync with run := run }
    if 16 ≤ run then s.flag K.timeTimeStatus 4 17 else s
  else s.steer theta

/-- A valid exchange: θ and δ from t1, t2, t3 and t4 in 2^−16 ns. -/
def State.exchanged (s : State) (t1 t2 t3 t4 : Int) : State :=
  let theta := truncDiv ((t2 - t1) - (t4 - t3)) 2
  let delta := truncDiv ((t2 - t1) + (t4 - t3)) 2
  let s := ((s.wr K.timeLastOffset (ofI 64 theta)).wr K.timePathDelay (ofI 64 delta)).inc 32 K.timeExchanges
  (s.setSync { s.sync with exch := none, validAt := s.now }).timeLaw theta

/-! ### Captures and the pulse per second (R494) -/

/-- T(C) of R489 at an earlier FABCLK, in the TIME form. -/
def State.timeOf (s : State) (c : Nat) : Nat := ofI 80 (floorDiv (s.timeBase + ((c : Int) - s.timeC0) * s.rate) (2 ^ 32))

/-- TIME_CAPTURE: the device time of the delivery. -/
def timeCapture (k : Nat) (s : State) : State :=
  match s.takeTask (64 + k) with
  | none => s
  | some (d, s) => (s.wr (K.tcapCaptureTime k) (s.timeOf d.stamp)).inc 32 (K.tcapCaptureCount k)

/-- TIME_CAPTURE. -/
def execTimeCapture (k : Nat) (s : State) : Host.Outcome State Fault Refusal := inst (Nat.blt k 4) (timeCapture k s)

/-- The whole seconds of device time. -/
def State.timeSecond (s : State) : Nat := s.timeNs / 1000000000

/-- The PPS pin at its active or inactive level. -/
def State.ppsDrive (s : State) (active : Bool) : State :=
  if s.rd K.ppsPpsPin < 32 then s.drive (ballGpio (s.rd K.ppsPpsPin)) (s.on K.ppsPpsLevel == active) else s

/-- What a write of PpsPin does: the pin before is released, and the new one waits for the next second. -/
def State.ppsPin (s : State) (old : Nat) : State :=
  let s := if old < 32 then s.release (ballGpio old) else s
  (s.setSync { s.sync with second := max s.sync.second s.timeSecond, pulse := none }).ppsDrive false

/-- PPS_PULSE: device time crosses the second after that of the last pulse. -/
def ppsPulse (s : State) : State :=
  if ¬ Nat.blt (s.rd K.ppsPpsPin) 32 then s
  else
    let s := s.at (s.whenT (((s.sync.second : Int) + 1) * 1000000000 * 2 ^ 48))
    ((s.setSync { s.sync with second := s.timeSecond, pulse := some (s.now + us (s.rd K.ppsPpsWidth)) }).ppsDrive true).raise
      Ev.timePps

/-- PPS_PULSE. -/
def execPpsPulse (s : State) : Host.Outcome State Fault Refusal := .next (ppsPulse s)

/-- PPS_END. -/
def ppsEnd (s : State) : State :=
  match s.sync.pulse with
  | none => s
  | some t => ((s.at t).setSync { s.sync with pulse := none }).ppsDrive false

/-- PPS_END. -/
def execPpsEnd (s : State) : Host.Outcome State Fault Refusal := .next (ppsEnd s)

end Sys2Proof.Machine
end

