-- ==== Sys2Proof/Machine/SkobatyMsg.lean ====
section
/-! DEFINITION. The receive side of the Skobaty link (R454 to R456, R459 to R468): what becomes of a message that comes in, events,
time exchanges, boundary records, heartbeats, roles and epochs. -/

namespace Sys2Proof.Machine

/-- The message itself. -/
def innerMsg (m : Msg) : SkMsg :=
  { cls := m.cls, flags := m.flags, source := m.source, dest := m.dest, epoch := m.epoch, role := m.role, hops := m.hops,
    lineage := m.lineage, seq := m.seq, payload := m.payload }

/-- The checks of R454 pass. -/
def goodMsg (m : Msg) : Bool :=
  m.crcOk && m.sound && Nat.ble 1 m.cls && Nat.ble m.cls 6 && Nat.ble m.payload.length 2048 && Nat.blt m.flags 4

/-- A role's entry of EpochTable (R465). -/
def State.epochOf (s : State) (role : Nat) : Nat := s.domLe K.sklEpochTable (4 * role) 4

/-- Raise a role's entry of EpochTable. -/
def State.raiseEpoch (s : State) (role epoch : Nat) : State :=
  if role < 4096 ∧ s.epochOf role < epoch then s.domWrite K.sklEpochTable (4 * role) (leBytes 4 epoch) else s

/-- Node, flags, number of spares, epoch and spares of a RoleTable entry (R467). -/
def State.roleNode (s : State) (r : Nat) : Nat := s.domLe K.sklRoleTable (16 * r) 2
def State.roleMonitor (s : State) (r : Nat) : Bool := bitOf (s.domByte K.sklRoleTable (16 * r + 2)) 0
def State.roleEpoch (s : State) (r : Nat) : Nat := s.domLe K.sklRoleTable (16 * r + 4) 4
def State.roleSpares (s : State) (r : Nat) : List Nat :=
  (List.range (min 4 (s.domByte K.sklRoleTable (16 * r + 3)))).map fun i => s.domLe K.sklRoleTable (16 * r + 8 + 2 * i) 2

/-- HeartbeatPeriod in FABCLK. -/
def State.beatPeriod (s : State) : Nat := ms (s.rd K.sklHeartbeatPeriod)

/-- How long a node may be silent (R466). -/
def State.beatLimit (s : State) : Nat := s.rd K.sklMissLimit * s.beatPeriod + s.beatPeriod / 2

/-- A payload of EPOCH (2) or STALE (3) (R464). -/
def linePayload (kind role node epoch : Nat) : List Nat := [kind, 0] ++ leBytes 2 role ++ leBytes 2 node ++ [0, 0] ++ leBytes 4 epoch

/-- STALE to a source, at most once in a HeartbeatPeriod (R465); without the table's entry, Node 0xFFFF and the epoch known. -/
def State.sendStale (s : State) (p src role : Nat) : State :=
  let recent : Bool := match tfind s.skl.stales src with | some t => Nat.blt s.now (t + s.beatPeriod) | none => false
  if ¬ s.originates ∨ recent then s
  else
    let node := s.roleNode role
    let epoch := if node = 0xFFFF then s.epochOf role else s.roleEpoch role
    (s.setSkl { s.skl with stales := tput s.skl.stales src s.now }).sendPort p 6 0 src (linePayload 3 role node epoch)

/-- A message delivered to this device stands for its unit; in FENCED only DICT does (R468). -/
def State.deliverMsg (s : State) (p : Nat) (m : SkMsg) (stamp : Nat) : State :=
  if s.dev = stFenced ∧ m.cls ≠ 4 then s else s.setSkl { s.skl with inbox := s.skl.inbox ++ [(p, m, stamp)] }

/-- Forward a message on a port (R455). -/
def State.forwardMsg (s : State) (p : Nat) (m : SkMsg) : State :=
  if s.rd K.sklHopLimit ≤ m.hops ∨ ¬ s.skUp p then s else s.transit { m with hops := m.hops + 1 } p

/-- A BROADCAST (R455, R456): the first copy is delivered and forwarded, and refreshes the route; a later copy only offers a better
one. -/
def State.takeBroadcast (s : State) (p : Nat) (m : SkMsg) (stamp : Nat) : State :=
  let r : Route := { port := p, hops := m.hops, heard := s.now }
  let fresh := match tfind s.skl.last m.source with
    | some e => let d := (m.seq + 2 ^ 32 - e.1) % 2 ^ 32
                Nat.ble 1 d && Nat.blt d (2 ^ 31)
    | none => true
  if m.source = s.rd K.sklNodeId then s
  else if fresh then
    let s := s.setSkl { s.skl with last := tput s.skl.last m.source (m.seq, s.now), routes := tput s.skl.routes m.source r }
    (s.deliverMsg p m stamp).forwardMsg (1 - p) m
  else
    match tfind s.skl.last m.source, s.route m.source with
    | some e, some old =>
      if e.1 = m.seq ∧ (m.hops < old.hops ∨ (m.hops = old.hops ∧ p < old.port)) then
        s.setSkl { s.skl with routes := tput s.skl.routes m.source r }
      else s
    | _, _ => s

/-- MSG_RECEIVED (R454, R455, R465). -/
def msgReceived (p : Nat) (m : Msg) (s : State) : State :=
  if ¬ s.skUp p ∨ (s.skPort p).deaf then s
  else
    let s := s.wr (K.spsRxState p) 0
    if ¬ goodMsg m then (s.inc 32 (K.spsCrcErrors p)).flag (K.spsPortStatus p) 8 134
    else
      let s := s.inc 64 (K.spsMsgReceived p)
      if m.role ≠ 0xFFFF ∧ m.role < 4096 ∧ m.epoch < s.epochOf m.role then
        (((s.inc 32 K.sklStaleDrops).flag K.sklLinkStatus 1 133)).sendStale p m.source m.role
      else
        let s := if m.role = 0xFFFF then s else s.raiseEpoch m.role m.epoch
        if m.cls = 3 then s.deliverMsg p (innerMsg m) m.stamp
        else if bitOf m.flags 0 then s.takeBroadcast p (innerMsg m) m.stamp
        else if m.dest = s.rd K.sklNodeId then s.deliverMsg p (innerMsg m) m.stamp
        else
          match s.route m.dest with
          | none => s.noRoute
          | some r => if r.port = p then s.noRoute else s.forwardMsg r.port (innerMsg m)

/-- MSG_RECEIVED. -/
def execMsgReceived (p : Nat) (m : Msg) (s : State) : Host.Outcome State Fault Refusal := inst (Nat.blt p 2) (msgReceived p m s)

/-- A message delivered and not yet taken: the port it came in on, its stamp, and the state without it. -/
def State.takeMsg (s : State) (m : Msg) : Option (Nat × Nat × State) :=
  match s.skl.inbox.find? fun e => e.2.1 == (innerMsg m) with
  | some e => some (e.1, e.2.2, s.setSkl { s.skl with inbox := s.skl.inbox.erase e })
  | none => none

/-! ### Events and boundary records -/

/-- EVT (R460): LNK_RECVslot with the message's lineage. -/
def evt (m : Msg) (s : State) : State :=
  match s.takeMsg m with
  | none => s
  | some (_, _, s) =>
    let slot := nth m.payload 0
    if m.cls ≠ 2 ∨ 32 ≤ slot then s else (s.inc 32 (K.srvRecvCount slot)).raise (Ev.lnkRecv slot) m.lineage

/-- EVT. -/
def execEvt (m : Msg) (s : State) : Host.Outcome State Fault Refusal := .next (evt m s)

/-- BULK (R217, R463): a boundary record is taken for joining. -/
def bulk (m : Msg) (s : State) : State :=
  match s.takeMsg m with
  | none => s
  | some (_, _, s) => if m.cls ≠ 5 ∨ nth m.payload 0 ≠ 1 then s else s.peerFragment m.source (m.payload.drop 8)

/-- BULK. -/
def execBulk (m : Msg) (s : State) : Host.Outcome State Fault Refusal := .next (bulk m s)

/-! ### Time exchanges (R461, R493) -/

/-- SYNC (R493): stamped and answered with DELAY_REQ, on the source port only. -/
def sync (p : Nat) (m : Msg) (s : State) : State :=
  match s.takeMsg m with
  | none => s
  | some (q, stamp, s) =>
    if m.cls ≠ 3 ∨ timeKind m.payload ≠ 1 ∨ q ≠ p ∨ s.rd K.syncSyncSource ≠ p + 2 then s
    else
      let x : Exchange := { id := timeId m.payload, t1 := (timeStamp m.payload : Int), t2 := s.rxStamp p stamp, since := s.now }
      (s.setSync { s.sync with exch := some x }).sendPort p 3 0 timeDest (timePayload 2 x.id 0)

/-- SYNC. -/
def execSync (p : Nat) (m : Msg) (s : State) : Host.Outcome State Fault Refusal := inst (Nat.blt p 2) (sync p m s)

/-- DELAY_REQ (R461, R493): answered with its receive time on the same port. -/
def delayReq (p : Nat) (m : Msg) (s : State) : State :=
  match s.takeMsg m with
  | none => s
  | some (q, stamp, s) =>
    if m.cls ≠ 3 ∨ timeKind m.payload ≠ 2 ∨ q ≠ p ∨ ¬ s.originates then s
    else s.sendPort p 3 0 timeDest (timePayload 3 (timeId m.payload) (ofI 80 (s.rxStamp p stamp)))

/-- DELAY_REQ. -/
def execDelayReq (p : Nat) (m : Msg) (s : State) : Host.Outcome State Fault Refusal := inst (Nat.blt p 2) (delayReq p m s)

/-- DELAY_RESP (R493): a valid exchange within half a SyncPeriod, with the matching ExchangeId. -/
def delayResp (p : Nat) (m : Msg) (s : State) : State :=
  match s.takeMsg m with
  | none => s
  | some (q, _, s) =>
    match s.sync.exch with
    | some { id := id, t1 := t1, t2 := t2, t3 := some t3, since := since } =>
      if m.cls ≠ 3 ∨ timeKind m.payload ≠ 3 ∨ q ≠ p ∨ s.rd K.syncSyncSource ≠ p + 2 ∨ timeId m.payload ≠ id ∨
         since + us (s.rd K.syncSyncPeriod) / 2 < s.now then s
      else s.exchanged t1 t2 t3 (timeStamp m.payload)
    | _ => s

/-- DELAY_RESP. -/
def execDelayResp (p : Nat) (m : Msg) (s : State) : Host.Outcome State Fault Refusal := inst (Nat.blt p 2) (delayResp p m s)

/-! ### Heartbeats, roles and epochs (R464 to R468) -/

/-- The device is line master: it holds role 0. -/
def State.lineMaster (s : State) : Bool := s.rd K.sklRole == 0

/-- HEARTBEAT (R466): the node is alive; the line master checks its role against RoleTable. -/
def heartbeat (p : Nat) (m : Msg) (s : State) : State :=
  match s.takeMsg m with
  | none => s
  | some (_, _, s) =>
    if m.cls ≠ 6 ∨ nth m.payload 0 ≠ 1 then s
    else
      let b : Beat := { at_ := s.now, state := nth m.payload 1, role := m.role, epoch := m.epoch }
      let s := s.setSkl { s.skl with beats := tput s.skl.beats m.source b }
      if s.lineMaster ∧ m.role ≠ 0xFFFF ∧ m.role < 4096 ∧ (s.roleNode m.role ≠ m.source ∨ s.roleEpoch m.role ≠ m.epoch) then
        s.sendStale p m.source m.role
      else s

/-- HEARTBEAT. -/
def execHeartbeat (p : Nat) (m : Msg) (s : State) : Host.Outcome State Fault Refusal := inst (Nat.blt p 2) (heartbeat p m s)

/-- The device takes a role under an epoch (R466). -/
def State.promoted (s : State) (role epoch : Nat) : State :=
  (((s.wr K.sklRole role).wr K.sklRoleEpoch epoch).flag K.sklLinkStatus 4 132).raise Ev.lnkPromoted

/-- Role, Node and Epoch of an EPOCH or STALE payload. -/
def lineRole (l : List Nat) : Nat := leAt l 2 2
def lineNode (l : List Nat) : Nat := leAt l 4 2
def lineEpoch (l : List Nat) : Nat := leAt l 8 4

/-- EPOCH (R465, R466, R468). -/
def epoch (m : Msg) (s : State) : State :=
  match s.takeMsg m with
  | none => s
  | some (_, _, s) =>
    let r := lineRole m.payload
    let e := lineEpoch m.payload
    if m.cls ≠ 6 ∨ nth m.payload 0 ≠ 2 then s
    else
      let s := s.raiseEpoch r e
      if lineNode m.payload = s.rd K.sklNodeId then s.promoted r e
      else if r = s.rd K.sklRole ∧ s.rd K.sklRoleEpoch < e then s.fenceStop
      else s

/-- EPOCH. -/
def execEpoch (m : Msg) (s : State) : Host.Outcome State Fault Refusal := .next (epoch m s)

/-- LINE_STALE (R468). -/
def lineStale (m : Msg) (s : State) : State :=
  match s.takeMsg m with
  | none => s
  | some (_, _, s) =>
    let e := lineEpoch m.payload
    if m.cls ≠ 6 ∨ nth m.payload 0 ≠ 3 then s
    else if lineNode m.payload = s.rd K.sklNodeId then (if e ≠ s.rd K.sklRoleEpoch then s.fenceStop else s)
    else if lineRole m.payload = s.rd K.sklRole ∧ s.rd K.sklRoleEpoch < e then s.fenceStop
    else s

/-- LINE_STALE. -/
def execLineStale (m : Msg) (s : State) : Host.Outcome State Fault Refusal := .next (lineStale m s)

/-- HEARTBEAT_SEND (R464, R466): in every state but RESET and BOOT. -/
def heartbeatSend (s : State) : State :=
  if s.dev = stReset ∨ s.dev = stBoot then s
  else
    let s := s.at (s.skl.beatAt + s.beatPeriod)
    (s.setSkl { s.skl with beatAt := s.now }).broadcast 6 0 ([1, s.dev, 0, 0] ++ leBytes 2 (s.rd K.sklHeartbeatPeriod) ++ [0, 0])

/-- HEARTBEAT_SEND. -/
def execHeartbeatSend (s : State) : Host.Outcome State Fault Refusal := .next (heartbeatSend s)

/-- When a node was last heard, 0 for never. -/
def State.heard (s : State) (node : Nat) : Nat := match tfind s.skl.beats node with | some b => b.at_ | none => 0

/-- A spare qualifies (R466). -/
def State.spareFit (s : State) (node : Nat) : Bool :=
  match tfind s.skl.beats node with
  | some b => Nat.blt s.now (b.at_ + s.beatLimit) && b.role == 0xFFFF && b.state != stFault && b.state != stFenced
  | none => false

/-- A role passes to a node, 0xFFFF for none (R466): the table, the epoch, EPOCH, and what the master counts and raises. -/
def State.passRole (s : State) (r node e : Nat) : State :=
  let s := (s.domWrite K.sklRoleTable (16 * r) (leBytes 2 node)).domWrite K.sklRoleTable (16 * r + 4) (leBytes 4 e)
  let s := s.raiseEpoch r e
  let s := if node = 0xFFFF then (s.flag K.sklLinkStatus 2 131).raise Ev.lnkRoleLost else s
  ((s.broadcast 6 0 (linePayload 2 r node e)).inc 32 K.sklPromotions).raise Ev.lnkEpoch

/-- The next epoch, 0 left out. -/
def nextEpoch (e : Nat) : Nat := if (e + 1) % 2 ^ 32 = 0 then 1 else (e + 1) % 2 ^ 32

/-- ROLE_DEAD (R466): the line master gives a silent node's role to its first fit spare. -/
def roleDead (r : Nat) (s : State) : State :=
  let node := s.roleNode r
  if ¬ s.lineMaster ∨ ¬ s.originates ∨ ¬ s.roleMonitor r ∨ node = 0xFFFF ∨ node = s.rd K.sklNodeId then s
  else
    let s := s.at (s.heard node + s.beatLimit)
    s.passRole r (((s.roleSpares r).find? s.spareFit).getD 0xFFFF) (nextEpoch (s.roleEpoch r))

/-- ROLE_DEAD. -/
def execRoleDead (r : Nat) (s : State) : Host.Outcome State Fault Refusal := inst (Nat.blt r 4096) (roleDead r s)

/-- SPARE_PROMOTE (R467): spare k of role 0 finds the master silent and knows of no newer epoch. -/
def sparePromote (s : State) : State :=
  match (s.roleSpares 0).findIdx? (· == s.rd K.sklNodeId) with
  | none => s
  | some k =>
    let node := s.roleNode 0
    if s.lineMaster ∨ ¬ s.originates ∨ s.dev = stFault ∨ node = 0xFFFF ∨ node = s.rd K.sklNodeId ∨
       s.roleEpoch 0 < s.epochOf 0 then s
    else
      let s := s.at (s.heard node + s.beatLimit + k * s.beatPeriod)
      let e := nextEpoch (s.roleEpoch 0)
      (s.promoted 0 e).passRole 0 (s.rd K.sklNodeId) e

/-- SPARE_PROMOTE. -/
def execSparePromote (s : State) : Host.Outcome State Fault Refusal := .next (sparePromote s)

end Sys2Proof.Machine
end

