-- ==== Sys2Proof/Machine/Host.lean ====
section
/-! DEFINITION. The PCIe endpoint and the Ethernet ports (R477 to R487). -/

namespace Sys2Proof.Machine

/-! ### PCIe -/

/-- PCIE_LINK_UP (R477): the link trains, with what the host's configuration gives. -/
def pcieLinkUp (speed width payload : Nat) (master : Bool) (s : State) : State :=
  let s := (((s.wr K.pcieLinkSpeed speed).wr K.pcieLinkWidth width).wr K.pcieMaxPayload payload).wr K.pcieBusMaster (b2n master)
  (msixFlush (List.range 64) s).raise Ev.pcieLinkUp

/-- PCIE_LINK_UP. -/
def execPcieLinkUp (speed width payload : Nat) (busMaster : Bool) (s : State) : Host.Outcome State Fault Refusal :=
  .next (pcieLinkUp speed width payload busMaster s)

/-- PCIE_LINK_DOWN (R477, R499): the entries read their defaults. -/
def pcieLinkDown (s : State) : State :=
  if s.rd K.pcieLinkSpeed = 0 then s
  else
    let s := (((s.wr K.pcieLinkSpeed 0).wr K.pcieLinkWidth 0).wr K.pcieMaxPayload 128).wr K.pcieBusMaster 0
    (s.flag K.pciePcieStatus 1 192).raise Ev.pcieLinkDown

/-- PCIE_LINK_DOWN. -/
def execPcieLinkDown (s : State) : Host.Outcome State Fault Refusal := .next (pcieLinkDown s)

/-- A descriptor with a HOST address in progress ends with BUS_ERROR, and its channel halts (R379, R482). -/
def hostDmaStop (s : State) (c : Nat) : State :=
  let x := s.dma c
  if (s.dmaState c = 2 ∨ s.dmaState c = 3) ∧ (x.fromHost ∨ x.toHost) then s.dmaError c 4 x else s

/-- A HOST domain transfer ends with ERROR. -/
def State.hostXferStop (s : State) : State :=
  match tfind s.xfers 0 with
  | none => s
  | some _ => (({ s with xfers := terase s.xfers 0 }).wr (K.pathDomStatus 0) 3).raise Ev.dictDomainDone

/-- The bit of PcieStatus a reset sets (R498). -/
def pcieResetBit : PcieReset → Nat
  | .perst => 2
  | .hot => 4
  | .flr => 8

/-- PCIE_RESET (R482): configuration space and the MSI-X table return to their reset values; Bar2Base, OutboundBase and DeviceState
stay. -/
def pcieReset (k : PcieReset) (s : State) : State :=
  let s := (s.wr K.pcieBusMaster 0).wr K.pcieMaxPayload 128
  let s := ((List.range 32).foldl hostDmaStop s).hostXferStop
  let s := (s.wr (K.pathSecure 0) 0).irqRelease 4
  let s := { s with msix := { sent := s.msix.sent } }
  ((s.inc 32 K.pcieResetCount).flag K.pciePcieStatus (pcieResetBit k) 193).raise Ev.pcieReset

/-- PCIE_RESET. -/
def execPcieReset (kind : PcieReset) (s : State) : Host.Outcome State Fault Refusal := .next (pcieReset kind s)

/-- BAR2_BASE (R479): a multiple of 1 GiB. -/
def bar2BaseWrite (a : Acc) (s : State) : State :=
  let v := accVal a K.pcieBar2Base
  s.act a K.pcieBar2Base (if v % 2 ^ 30 = 0 then 0 else 8) fun s => s.wr K.pcieBar2Base v

/-- BAR2_BASE. -/
def execBar2Base (a : Acc) (s : State) : Host.Outcome State Fault Refusal := .next (bar2BaseWrite a s)

/-! ### Ethernet links (R487, R515) -/

/-- The unit of a port (R522). -/
def ethUnit (p : Nat) : Nat := 13 * 256 + p

/-- ETH_LINK_UP (R483, R515): a 10GBASE-R or 25GBASE-R block lock calibrates the receiver; a port without a plausible set stays
DOWN. -/
def ethLinkUp (p eye : Nat) (s : State) : State :=
  if s.rd (K.ethsLinkState p) ≠ 1 then s
  else
    let s := if s.rd (K.ethMode p) = 1 then s else s.calEnd (calEth p) (if 12 ≤ eye then 0 else 1) eye 12
    if s.rd (K.ethMode p) = 1 ∨ (tget {} s.calRecs (calEth p)).has then (s.wr (K.ethsLinkState p) 2).raise (Ev.ethLinkUp p)
    else s

/-- ETH_LINK_UP. -/
def execEthLinkUp (p eye : Nat) (s : State) : Host.Outcome State Fault Refusal := inst (Nat.blt p 2) (ethLinkUp p eye s)

/-- ETH_LINK_FAULT (R487, R502, R505). -/
def ethLinkFault (p : Nat) (s : State) : State :=
  if ¬ s.ethUp p then s
  else
    let w := s.rd (K.ethRetryWindow p)
    let s := ((s.wr (K.ethsLinkState p) 1).flag (K.ethsPortStatus p) 1 160).raise (Ev.ethLinkDown p)
    let s := s.transient (ethUnit p) 0 w
    if s.breaks (ethUnit p) (s.rd (K.ethRetryCount p)) w then
      let s := (s.wr (K.ethsLinkState p) 3).flag (K.ethsPortStatus p) 2 161
      (s.retire (ethUnit p) 0 (s.faultsIn (ethUnit p) w).length).raise (Ev.ethRetired p)
    else s

/-- ETH_LINK_FAULT. -/
def execEthLinkFault (p : Nat) (s : State) : Host.Outcome State Fault Refusal := inst (Nat.blt p 2) (ethLinkFault p s)

/-- ETH_READMIT (R487, R506). -/
def ethReadmitWrite (a : Acc) (p : Nat) (s : State) : State :=
  s.act a (K.ethsReadmit p) 0 fun s =>
    if accVal a (K.ethsReadmit p) = 1 ∧ s.rd (K.ethsLinkState p) = 3 then (s.readmit (ethUnit p)).wr (K.ethsLinkState p) 1 else s

/-- ETH_READMIT. -/
def execEthReadmit (a : Acc) (p : Nat) (s : State) : Host.Outcome State Fault Refusal := inst (Nat.blt p 2) (ethReadmitWrite a p s)

/-- The apply of a port's configuration (R483, R497); `old` is the mode before. A retired port waits for Readmit. -/
def State.ethApply (s : State) (p old : Nat) : State :=
  let m := s.rd (K.ethMode p)
  if m = old ∨ s.rd (K.ethsLinkState p) = 3 then s
  else
    let s := if old = 0 then { s with faultTimes := terase s.faultTimes (ethUnit p) } else s
    s.wr (K.ethsLinkState p) (if m = 0 then 0 else 1)

/-! ### Frames (R484 to R486) -/

/-- RxDiscarded. -/
def State.rxDiscard (s : State) (p : Nat) : State := s.inc 32 (K.ethsRxDiscarded p)

/-- The frame without an 802.1Q tag. -/
def untag (f : List Nat) : List Nat := if ofBe ((f.drop 12).take 2) = 0x8100 then f.take 12 ++ f.drop 16 else f

/-- The big-endian field of a frame. -/
def beAt (f : List Nat) (o n : Nat) : Nat := ofBe ((f.drop o).take n)

/-- The Internet checksum's 16-bit sum, folded. -/
def inetSum (l : List Nat) : Nat :=
  let rec go : List Nat → Nat
    | a :: b :: t => a * 256 + b + go t
    | [a] => a * 256
    | [] => 0
  let n := go l
  let m := n / 65536 + n % 65536
  m / 65536 + m % 65536

/-- The 2 bytes of the checksum. -/
def inetCheck (l : List Nat) : List Nat := beBytes 2 (65535 - inetSum l)

/-- The answer to an ICMP echo request: addresses swapped, type 0, both checksums made anew. -/
def State.echoReply (s : State) (p : Nat) (f : List Nat) : List Nat :=
  let h := 4 * (nth f 14 % 16)
  let len := beAt f 16 2
  let ip := (f.drop 14).take h
  let hdr := ip.take 8 ++ [64, 1]
  let adr := (f.drop 30).take 4 ++ (f.drop 26).take 4
  let body := ((f.drop (14 + h)).take (len - h)).drop 4
  (f.drop 6).take 6 ++ s.ethMac p ++ [0x08, 0x00] ++ hdr ++ inetCheck (hdr ++ adr ++ ip.drop 20) ++ adr ++ ip.drop 20 ++ [0, 0] ++
    inetCheck ([0, 0] ++ body) ++ body

/-- An item of the core path (R486): header and frame. -/
def coreItem (len p flags seq stamp : Nat) (f : List Nat) : List Nat :=
  leBytes 2 len ++ [p, flags] ++ leBytes 4 seq ++ leBytes 8 (stamp / 65536) ++ leBytes 2 (stamp % 65536) ++ List.replicate 14 0 ++ f

/-- A frame for the core receive queue (R486), with its receive stamp (R491). -/
def State.coreRx (s : State) (p : Nat) (f : List Nat) : State :=
  let q := s.rd (K.ethcCoreRxQueue p)
  let stamp := ofI 80 ((s.time : Int) - s.rdI 32 (K.asymAsymmetry p))
  if q = 255 ∨ s.rd (K.qItemBytes q) < f.length + 32 then s.rxDiscard p
  else
    match s.offerTo q (coreItem f.length p 4 0 stamp f) with
    | (true, s) => s
    | (false, s) => s.rxDiscard p

/-- An ARP packet: a request for the port's address is answered, and the sender is learned. -/
def State.takeArp (s : State) (p : Nat) (f : List Nat) : State :=
  let op := beAt f 20 2
  if beAt f 38 4 ≠ s.rd (K.ethIpAddress p) then s
  else
    let s := s.arpLearn p (beAt f 28 4) (beAt f 22 6)
    if op = 1 then s.sendFrame p (s.arpFrame p 2 ((f.drop 22).take 6) ((f.drop 22).take 6) (beAt f 28 4)) else s

/-- An IPv4 packet (R484). A datagram for the dictionary is the UDP commands' (R56). -/
def State.takeIp (s : State) (p : Nat) (f g : List Nat) : State :=
  let h := 4 * (nth f 14 % 16)
  let mine := beAt f 30 4 == s.rd (K.ethIpAddress p)
  let port := beAt f (14 + h + 2) 2
  if nth f 23 = 1 ∧ mine ∧ nth f (14 + h) = 8 then s.sendFrame p (s.echoReply p f)
  else if nth f 23 ≠ 17 then s.rxDiscard p
  else if port = 52410 ∧ mine then s
  else if port = 319 ∨ port = 320 then s.coreRx p g
  else if port ≠ 0 ∧ ([0, 1, 2, 3].any fun i => s.rd (K.ethcCorePorts p i) == port) then s.coreRx p g
  else s.rxDiscard p

/-- ETH_FRAME_RECEIVE (R483, R484, R487): the frame, from the destination address to the end of the payload. -/
def ethFrameReceive (p : Nat) (frame : List Nat) (fcsOk : Bool) (s : State) : State :=
  if s.rd (K.ethsLinkState p) = 3 then s.rxDiscard p
  else if ¬ s.ethUp p then s
  else if ¬ fcsOk then s.inc 32 (K.ethsFcsErrors p)
  else if s.rd (K.ethMaxFrame p) < frame.length + 4 then s.rxDiscard p
  else
    let s := s.inc 64 (K.ethsFramesIn p)
    let f := untag frame
    let ty := beAt f 12 2
    if ty = 0x88F7 then s.coreRx p frame
    else if ty = 0x0806 then s.takeArp p f
    else if ty = 0x0800 then s.takeIp p f frame
    else s.rxDiscard p

/-- ETH_FRAME_RECEIVE. -/
def execEthFrameReceive (p : Nat) (frame : List Nat) (fcsOk : Bool) (s : State) : Host.Outcome State Fault Refusal :=
  inst (Nat.blt p 2) (ethFrameReceive p frame fcsOk s)

/-- CORE_TX_FRAME (R486): the oldest item of CoreTxQueue is sent; with STAMP_REQ its stamp is recorded. -/
def coreTxFrame (p : Nat) (s : State) : State :=
  let q := s.rd (K.ethcCoreTxQueue p)
  if q = 255 ∨ ¬ s.ethUp p then s
  else
    match queTake (s.que q) with
    | none => s
    | some (it, qu) =>
      let s := (({ s with queues := tput s.queues q qu }).wr (K.qsFill q) (queFill qu)).inc 64 (K.qsItemsOut q)
      let flags := nth it.bytes 3
      let s := s.sendFrame p ((it.bytes.drop 32).take (leAt it.bytes 0 2))
      if ¬ bitOf flags 1 then s
      else
        match s.offerTo (s.rd (K.ethcTxStampQueue p)) (coreItem 0 p 4 (leAt it.bytes 4 4) s.time []) with
        | (true, s) => (s.arrive 163).raise (Ev.ethTxStamp p)
        | (false, s) => s

/-- CORE_TX_FRAME. -/
def execCoreTxFrame (p : Nat) (s : State) : Host.Outcome State Fault Refusal := inst (Nat.blt p 2) (coreTxFrame p s)

end Sys2Proof.Machine
end

