-- ==== Sys2Proof/Machine/Emit.lean ====
section
/-! DEFINITION. Stitched lines: a member's line reaching the Seam unit, and a ready line going to every destination (R163 to R165,
R169). -/

namespace Sys2Proof.Machine

/-! ### A member's line completes (R163 to R165) -/

/-- The member's slots in use: open lines that hold a part of its. -/
def State.slotsUsed (s : State) (n : Nat) : Nat := (s.seam.opens.filter fun x => (tfind x.parts n).isSome).length

/-- The lowest open line's deadline is taken as passed (R165). -/
def forceLowest : List SLine → List SLine
  | [] => []
  | x :: l => { x with late := true } :: l

/-- The line joins its stitched line, which opens with it if no other member has brought it (R163). -/
def joinLine (now : Nat) (n : Nat) (j : Int) (m : MLine) : List SLine → List SLine
  | [] => [{ s := j, since := now, parts := [(n, m)] }]
  | x :: l =>
    if j < x.s then { s := j, since := now, parts := [(n, m)] } :: x :: l
    else if x.s = j then { x with parts := tput x.parts n m } :: l
    else x :: joinLine now n j m l

/-- A line finds every slot of its member holding unemitted lines (R165). -/
def State.waitForced (s : State) : State :=
  (({ s with seam := { s.seam with opens := forceLowest s.seam.opens } }.inc 32 K.seamsWaitForced).flag K.seamsStatus 2 0).raise
    Ev.seamWaitForced

/-- A line of stitched index j is complete in member n's wait buffer: discarded where j is already emitted (R164) or the member is not
expected (R161, R162). -/
def State.memberLine (s : State) (n : Nat) (j : Int) (m : MLine) (expected : Bool) : State :=
  let emitted : Bool := match s.seam.last with | some i => decide (j ≤ i) | none => false
  if emitted then (s.inc 32 (K.memsLateLines n)).seamDone n m.band true
  else if ¬ expected then s.seamDone n m.band false
  else
    let s := if s.rd K.seamWaitLines ≤ s.slotsUsed n then s.waitForced else s
    { s with seam := { s.seam with opens := joinLine s.now n j m s.seam.opens } }

/-- SEAM_MEMBER_LINE: the oldest line member n's resampler has made completes in its wait buffer. -/
def seamMemberLine (n : Nat) (s : State) : State :=
  match (s.ctx n).out with
  | [] => s
  | m :: l =>
    let j := m.k - s.rdI 32 (K.memLineShift n)
    let expected := s.expected n j
    ((s.setCtx n { s.ctx n with out := l }).memberLine n j m expected).showMembers

/-- SEAM_MEMBER_LINE. -/
def execSeamMemberLine (n : Nat) (s : State) : Host.Outcome State Fault Refusal := inst (Nat.blt n 12) (seamMemberLine n s)

/-! ### A line is emitted (R164, R169) -/

/-- A member expected and not present is counted and raised (R164). -/
def State.countMissing (s : State) (parts : List (Nat × MLine)) (j : Int) : State :=
  (s.members.filter fun n => s.expected n j && (tfind parts n).isNone).foldl (fun (s : State) n =>
    ((s.inc 32 (K.memsMissingLines n)).flag K.seamsStatus 1 76).raise Ev.seamMissing) s

/-- A stitched line reaches every destination: Umbra and the colour loop, coding, the windows and the views (R169). -/
def State.sendLine (s : State) (x : Stitched) (refLate : Nat) : State :=
  let s := ((s.loopBegin x.s).umbraLine x refLate).codingLine x
  let s := (List.range 2).foldl (State.winLine x) s
  let s := (List.range 8).foldl (State.viewLine x) s
  s.loopLine { x := x, px := x.cols.map s.visionPx, late := refLate, n := s.umb.lines }

/-- A line is emitted. -/
def State.emitLine (s : State) (x : SLine) (l : List SLine) (refLate : Nat) : State :=
  let st := s.stitch x
  let s := s.countMissing x.parts x.s
  let s := (s.inc 64 K.seamsLinesEmitted).wr K.seamsLastLine (ofI 64 x.s)
  let s := if st.missing then s.inc 64 K.seamsLinesPartial else s
  let s := { s with seam := { opens := l, last := some x.s, busyTill := s.now + ceilDiv (s.rd K.seamWidth) 40 } }
  let s := x.parts.foldl (fun (s : State) (p : Nat × MLine) => s.seamDone p.1 p.2.band false) s
  (s.sendLine st refLate).showMembers

/-- LINE_EMIT: the lowest open line leaves once it is ready and the line before it has left. `refLate` is the mask of members whose
Reflection data arrives late (R197). -/
def lineEmit (refLate : Nat) (s : State) : State :=
  match s.seam.opens with
  | [] => s
  | x :: l => if s.lineReady x then (s.at s.seam.busyTill).emitLine x l refLate else s

/-- LINE_EMIT. -/
def execLineEmit (refLate : Nat) (s : State) : Host.Outcome State Fault Refusal := .next (lineEmit refLate s)

end Sys2Proof.Machine
end

