-- ==== Sys2Proof/Machine/Wheel.lean ====
section
/-! DEFINITION. The Wheel's encoder channels, index checks, probes and Mirror outputs (R64 to R82, R88, R98). -/

namespace Sys2Proof.Machine

/-! ### Mirror outputs (R98) -/

/-- The record of a Mirror output. -/
def State.mir (s : State) (m : Nat) : Mir := tget {} s.mirs m

/-- Set the record of a Mirror output. -/
def State.setMir (s : State) (m : Nat) (x : Mir) : State := { s with mirs := tput s.mirs m x }

/-- Levels of A and B in a quadrature phase; the forward sequence is 00, 10, 11, 01 (R66). -/
def quadA (phase : Nat) : Bool := phase % 4 == 1 || phase % 4 == 2
def quadB (phase : Nat) : Bool := phase % 4 == 2 || phase % 4 == 3

/-- Drive A and B in a phase. -/
def State.mirDrive (s : State) (m phase : Nat) : State := (s.drive (ballMirA m) (quadA phase)).drive (ballMirB m) (quadB phase)

/-- A quadrature phase moved by whole steps. -/
def phaseStep (phase : Nat) (d : Int) : Nat := (((phase : Int) + d) % 4).toNat

/-- FABCLK between two emulated steps (R98). -/
def State.emuGap (s : State) (m : Nat) : Nat := ceilDiv 800000000 (s.rd (K.mirEmuMaxRate m))

/-- Crossings of multiples of EmuStep since the last look join the steps held back. -/
def State.emuCross (s : State) (m : Nat) : State :=
  let x := s.mir m
  let st := s.rdI 64 (K.mirEmuStep m)
  let g := if 0 < st then floorDiv (s.encP (s.rd (K.mirChannel m))) st.toNat else x.grid
  s.setMir m { x with grid := g, lag := x.lag + (g - x.grid) }

/-- Show how many steps are held back. -/
def State.emuShow (s : State) (m : Nat) : State :=
  let n := (s.mir m).lag.natAbs
  let s := s.wr (K.mirEmuLag m) n
  if n = 0 then s else s.wr (K.mirMirrorStatus m) (setBits (s.rd (K.mirMirrorStatus m)) 1)

/-- Output one held step when the rate limit allows it at this moment. -/
def State.emuStep (s : State) (m : Nat) : State :=
  let x := s.mir m
  let free : Bool := match x.lastAt with | none => true | some t => Nat.ble (t + s.emuGap m) s.now
  if x.lag = 0 ∨ ¬ free then s
  else
    let d := sgn x.lag
    let ph := phaseStep x.phase d
    (s.setMir m { x with phase := ph, lag := x.lag - d, lastAt := some s.now }).mirDrive m ph

/-- Whole steps of `acc` by `div` counts, toward zero. -/
def divSteps (acc : Int) (div : Nat) : Int := truncDiv acc div

/-- `k` counts on a channel, at one Mirror output. -/
def State.mirCount (n : Nat) (k : Int) (s : State) (m : Nat) : State :=
  if s.rd (K.mirChannel m) ≠ n then s
  else if s.rd (K.mirMode m) = 2 then
    let x := s.mir m
    let st := divSteps (x.acc + k) (s.rd (K.mirDivider m))
    let ph := phaseStep x.phase st
    (s.setMir m { x with acc := x.acc + k - st * s.rd (K.mirDivider m), phase := ph }).mirDrive m ph
  else if s.rd (K.mirMode m) = 3 then ((s.emuCross m).emuStep m).emuShow m
  else s

/-- An input's level changed: PASS re-drives it unfiltered, DIVIDE passes Z through when ZEnable is 1 (R98). -/
def State.mirInput (n : Nat) (input : EncIn) (level : Bool) (s : State) (m : Nat) : State :=
  if s.rd (K.mirChannel m) ≠ n then s
  else if s.rd (K.mirMode m) = 1 then
    s.drive (match input with | .a => ballMirA m | .b => ballMirB m | .z => ballMirZ m) level
  else if s.rd (K.mirMode m) = 2 ∧ input = .z then s.drive (ballMirZ m) (level && s.on (K.mirZEnable m))
  else s

/-- A commit of a Mirror group applies: the output starts afresh in its new mode. -/
def State.mirApply (s : State) (m : Nat) : State :=
  let n := s.rd (K.mirChannel m)
  let e := s.enc n
  let st := s.rdI 64 (K.mirEmuStep m)
  let s := s.setMir m { grid := if 0 < st then floorDiv (s.encP n) st.toNat else 0 }
  let s := s.wr (K.mirEmuLag m) 0
  if s.rd (K.mirMode m) = 1 then
    ((s.drive (ballMirA m) e.a.level).drive (ballMirB m) e.b.level).drive (ballMirZ m) e.z.level
  else
    (s.mirDrive m 0).drive (ballMirZ m) (s.rd (K.mirMode m) == 2 && s.on (K.mirZEnable m) && e.z.level)

/-- EMU_LAG_RELEASE (R98): the rate limit allows the next held step. -/
def emuLagRelease (m : Nat) (s : State) : State :=
  if s.rd (K.mirMode m) ≠ 3 then s
  else
    let s := s.emuCross m
    let s := if (s.mir m).lag = 0 then s else s.at (match (s.mir m).lastAt with | none => 0 | some t => t + s.emuGap m)
    (s.emuStep m).emuShow m

/-- EMU_LAG_RELEASE. -/
def execEmuLagRelease (m : Nat) (s : State) : Host.Outcome State Fault Refusal := inst (Nat.blt m 4) (emuLagRelease m s)

/-! ### Rotary compares that a count passes (R89, R78) -/

/-- Distance forward from `a` to `b` on a ring of `n`, 1 to n. -/
def ringAhead (n a b : Nat) : Nat := if (b + n - a) % n = 0 then n else (b + n - a) % n

/-- The value a compare unit stands at: the head of its queue with QueueEnable, else Value; for a rotary source modulo
CountsPerRev (R89, R91). -/
def State.cmpValue (s : State) (m : Nat) : Int :=
  let v := if s.on (K.cmpQueueEnable m) then (s.cmp m).queue.headD 0 else s.rdI 64 (K.cmpValue m)
  let src := s.rd (K.cmpSource m)
  if 4 ≤ src ∧ src ≤ 7 then ((ofI 32 v % s.rd (K.encCountsPerRev (src - 4)) : Nat) : Int) else v

/-- A rotary compare's Value is taken modulo the channel's CountsPerRev (R89). -/
def State.cmpWrap (n : Nat) (s : State) (m : Nat) : State :=
  if n < 4 ∧ s.rd (K.cmpSource m) = 4 + n then s.wr (K.cmpValue m) (ofI 32 (s.rdI 64 (K.cmpValue m)) % s.rd (K.encCountsPerRev n)) else s

/-- A rotary compare whose value the count passes in its Direction becomes due. -/
def State.cmpPass (n old : Nat) (k : Int) (s : State) (m : Nat) : State :=
  let c := s.cmp m
  let cpr := s.rd (K.encCountsPerRev n)
  let v := (s.cmpValue m).toNat
  let fwd := s.rd (K.cmpDirection m) == 0
  if s.rd (K.cmpMode m) ≠ 0 ∧ s.rd (K.cmpSource m) = 4 + n ∧ c.phase = .armed then
    if fwd ∧ 0 < k ∧ ringAhead cpr old v ≤ k.toNat then s.setCmp m { c with due := true }
    else if ¬ fwd ∧ k < 0 ∧ ringAhead cpr v old ≤ (-k).toNat then s.setCmp m { c with due := true }
    else s
  else s

/-- The firings that a forward correction by `d` owes a rotary compare: one for each of its values skipped (R78). -/
def State.cmpSkip (n old d : Nat) (s : State) (m : Nat) : State :=
  let c := s.cmp m
  let cpr := s.rd (K.encCountsPerRev n)
  let o := ringAhead cpr old (s.cmpValue m).toNat
  if s.rd (K.cmpMode m) ≠ 0 ∧ s.rd (K.cmpSource m) = 4 + n ∧ s.rd (K.cmpDirection m) = 0 ∧ c.phase ≠ .idle ∧ o ≤ d then
    let p := s.rd (K.cmpPeriod m)
    let more :=
      if s.on (K.cmpQueueEnable m) then
        ((c.queue.drop 1).takeWhile fun v : Int =>
          Nat.ble o (ringAhead cpr old (ofI 32 v % cpr)) && Nat.ble (ringAhead cpr old (ofI 32 v % cpr)) d).length
      else if p = 0 then 0 else (d - o) / p
    s.setCmp m { c with owed := c.owed + 1 + more, at_ := s.now }
  else s

/-! ### Counting (R69, R70, R79) -/

/-- The rotary counter moved by `k`. -/
def rotaryStep (cpr old : Nat) (k : Int) : Nat := (((old : Int) + k) % (cpr : Int)).toNat

/-- Forward count over M of R79: arms the check, or is a missing index. Answers whether one is missing. -/
def missingIndex (armed : Bool) (m old : Nat) (k : Int) : Bool × Bool :=
  if 0 < k ∧ old = m then (true, armed) else (armed, false)

/-- D of R77: the rotary count less IndexExpected, into (−CPR/2, CPR/2]. -/
def indexDev (cpr rot exp : Nat) : Int :=
  let d := (rot + cpr - exp % cpr) % cpr
  if 2 * d ≤ cpr then (d : Int) else (d : Int) - cpr

/-- A mismatch (R79, R80): the run grows, and at IndexFaultCount the channel is permanently faulted. -/
def State.indexMismatch (s : State) (n : Nat) (missing : Bool) : State :=
  let e := s.enc n
  let s := s.setEnc n { e with run := e.run + 1 }
  let s := (s.flag (K.encsStatus n) (if missing then 0x18 else 0x08) 35).inc 32 (K.encsMismatchCount n)
  let s := s.raise (Ev.whlIndexMismatch n)
  let lim := s.rd (K.encIndexFaultCount n)
  if lim ≠ 0 ∧ lim ≤ e.run + 1 then s.encRetire n (if missing then 4 else 3) else s

/-- The accumulator after `k` counts, saturated at the ends of the POS range (R70). -/
def accStep (acc scale k : Int) : Int := clampI (-(2 ^ 95)) (2 ^ 95 - 1) (acc + k * scale)

/-- A frame that measures a position behind the one already reached holds P for at most one SerialPeriod (R73). -/
def State.encHold (s : State) (n : Nat) (reached : Int) (fwd : Bool) : State :=
  let x := s.encExtra n s.now
  if (if fwd then x < reached else reached < x) then
    s.setEnc n { s.enc n with hold := some (reached, s.now + us (s.rd (K.encSerialPeriod n))) }
  else s

/-- `k` counts accepted, belonging to the moment `te` (R69 to R73): accumulator, rotary counter, speed history, index check,
direction, compares, Mirror outputs and cross-check. -/
def State.encCount (s : State) (n : Nat) (k : Int) (te : Nat) : State :=
  let s := s.encTrack n false
  let reached := s.encP n
  let smooth := s.encVOut n
  let e := s.enc n
  let scale := s.encScaleI n
  let acc := accStep e.acc scale k
  let same := decide (sgn e.lastK = sgn k) && e.last.isSome
  let e' : Enc :=
    { e with acc := acc, te := te, smooth := smooth, smoothAt := s.now, stalled := false, still := false,
             last := some te, lastK := k,
             interval := if same then e.last.map fun t => te - t else none,
             log := (e.log.filter fun c => Nat.blt s.now (c.1 + s.rd (K.encSpeedWindow n))) ++ [(te, k)] }
  let s := s.setEnc n e'
  let s := if acc ≠ e.acc + k * scale then s.wr (K.encsStatus n) (setBits (s.rd (K.encsStatus n)) 0x80) else s
  let s := if 2 ≤ s.rd (K.encMode n) ∧ s.rd (K.encMode n) ≤ 3 then s.encHold n reached (decide (0 ≤ k)) else s
  let old := s.rd (K.encsRotary n)
  let cpr := s.rd (K.encCountsPerRev n)
  let s := s.wr (K.encsRotary n) (rotaryStep cpr old k)
  let s := (List.range 16).foldl (State.cmpPass n old k) s
  let m := (s.rd (K.encIndexExpected n) + s.rd (K.encIndexTolerance n)) % cpr
  let watch := s.rd (K.encIndexMode n) != 0 && (s.rd (K.encMode n) == 1 || s.rd (K.encMode n) == 4)
  let r := missingIndex (s.enc n).armed m old k
  let s := if watch then s.setEnc n { s.enc n with armed := r.1 } else s
  let s := if watch ∧ r.2 then s.indexMismatch n true else s
  let s := (s.encTrack n (decide (k < 0))).encShow n
  ((List.range 4).foldl (State.mirCount n k) s).crossCheck

/-! ### Encoder inputs (R65, R66) -/

/-- An input's record. -/
def Enc.pin (e : Enc) (i : EncIn) : EncPin := match i with | .a => e.a | .b => e.b | .z => e.z

/-- Set an input's record. -/
def Enc.setPin (e : Enc) (i : EncIn) (p : EncPin) : Enc :=
  match i with | .a => { e with a := p } | .b => { e with b := p } | .z => { e with z := p }

/-- ENCODER_TRANSITION (R65): an input changes level at its ball and its filter starts. -/
def encoderTransition (n : Nat) (i : EncIn) (level : Bool) (s : State) : State :=
  let p := (s.enc n).pin i
  if p.level = level then s
  else
    let s := s.setEnc n ((s.enc n).setPin i { p with level := level, since := s.now })
    (List.range 4).foldl (State.mirInput n i level) s

/-- ENCODER_TRANSITION. -/
def execEncoderTransition (n : Nat) (input : EncIn) (level : Bool) (s : State) : Host.Outcome State Fault Refusal :=
  inst (Nat.blt n 4) (encoderTransition n input level s)

/-- The Mode that filters by Debounce too (R65). -/
def debounced (mode : Nat) : Bool := mode == 4 || mode == 5

/-- The transition at an input may be accepted: the level differs from the accepted one and no Debounce is running from the
input's last accepted transition (R65). -/
def State.encReady (s : State) (n : Nat) (p : EncPin) : Bool :=
  p.level != p.acc &&
  (!debounced (s.rd (K.encMode n)) ||
   match p.accAt with | none => true | some t => Nat.ble (t + us (s.rd (K.encDebounce n))) p.since)

/-- The pin after its transition is accepted. -/
def EncPin.take (p : EncPin) : EncPin := { p with acc := p.level, accAt := some p.since }

/-- A pin sampled in the same FABCLK as the accepted one is accepted with it. -/
def EncPin.takeIf (p : EncPin) (since : Nat) : EncPin := if p.level ≠ p.acc ∧ p.since = since then p.take else p

/-- QUAD decode of R66: the counts of a change of A, of B, or of both (an error). -/
def quadDecode (a b a' b' : Bool) : Option Int :=
  if a ≠ a' ∧ b ≠ b' then none
  else if a ≠ a' then some (if a' ≠ b' then 1 else -1)
  else if b ≠ b' then some (if a' = b' then 1 else -1)
  else some 0

/-- Place of (U, V, W) in the sequence 100, 110, 010, 011, 001, 101 of R66. -/
def uvwIndex (u v w : Bool) : Option Nat :=
  match u, v, w with
  | true, false, false => some 0
  | true, true, false => some 1
  | false, true, false => some 2
  | false, true, true => some 3
  | false, false, true => some 4
  | true, false, true => some 5
  | _, _, _ => none

/-- UVW decode of R66: one place on or back; anything else is an error. -/
def uvwDecode (x y : Option Nat) : Option Int :=
  match x, y with
  | some i, some j => if j = (i + 1) % 6 then some 1 else if i = (j + 1) % 6 then some (-1) else none
  | _, _ => none

/-- The channel's accepted levels after a transition first sampled at `since`. -/
def Enc.accept (e : Enc) (since : Nat) : Enc :=
  { e with a := e.a.takeIf since, b := e.b.takeIf since, z := e.z.takeIf since }

/-- The counts that the accepted transition makes, by the channel's Mode (R66); `none` is a QUAD_ERROR. -/
def State.encDecode (s : State) (n : Nat) (e e' : Enc) : Option Int :=
  match s.rd (K.encMode n) with
  | 1 => quadDecode e.a.acc e.b.acc e'.a.acc e'.b.acc
  | 4 => some (if e'.a.acc ∧ ¬ e.a.acc then (if s.on (K.encPulseDirB n) ∧ e.b.level then -1 else 1) else 0)
  | 5 => uvwDecode (uvwIndex e.a.acc e.b.acc e.z.acc) (uvwIndex e'.a.acc e'.b.acc e'.z.acc)
  | _ => some 0

/-- Invert changes the sign of every count (R66). -/
def State.encSign (s : State) (n : Nat) (k : Int) : Int := if s.on (K.encInvert n) then -k else k

/-- COUNT_ACCEPTED (R65, R66): the input has held its level for FilterLength FABCLK after the first sample; its transition, and
those of other inputs first sampled in the same FABCLK, are decoded into a count. A rising Z in QUAD and PULSE is an index
pulse and is INDEX_PULSE's. -/
def countAccepted (n : Nat) (i : EncIn) (s : State) : State :=
  let e := s.enc n
  let p := e.pin i
  let mode := s.rd (K.encMode n)
  if ¬ s.encActive n ∨ ¬ s.encReady n p ∨ mode = 2 ∨ mode = 3 then s
  else if i = .z ∧ mode ≠ 5 then
    if p.level then s else (s.at (p.since + s.rd (K.encFilterLength n))).setEnc n { e with z := p.take }
  else
    let s := s.at (p.since + s.rd (K.encFilterLength n))
    let e' := if mode = 5 then e.accept p.since else { e with a := e.a.takeIf p.since, b := e.b.takeIf p.since }
    let s' := s.setEnc n e'
    match s.encDecode n e e' with
    | none => s'.encFault n 0
    | some 0 => s'
    | some k => s'.encCount n (s'.encSign n k) p.since

/-- COUNT_ACCEPTED; the web's motion wakes the device (R549). -/
def execCountAccepted (n : Nat) (input : EncIn) (s : State) : Host.Outcome State Fault Refusal :=
  inst (Nat.blt n 4) (countAccepted n input s).wakeOnLevel

/-! ### Serial sensors (R67, R68) -/

/-- SERIAL_FRAME_START (R67): SerialPeriod µs after the last frame's start, a frame starts on WHL_CLK. -/
def serialFrameStart (n : Nat) (s : State) : State :=
  let mode := s.rd (K.encMode n)
  if ¬ s.encActive n ∨ (mode ≠ 2 ∧ mode ≠ 3) then s
  else
    let e := s.enc n
    let s := s.at (match e.framed with | none => 0 | some t => t + us (s.rd (K.encSerialPeriod n)))
    s.setEnc n { e with frameAt := some s.now, framed := some s.now }

/-- SERIAL_FRAME_START. -/
def execSerialFrameStart (n : Nat) (s : State) : Host.Outcome State Fault Refusal := inst (Nat.blt n 4) (serialFrameStart n s)

/-- The bits of a number, most significant first. -/
def bitsOf : Nat → Nat → List Bool
  | 0, _ => []
  | w + 1, v => bitOf v w :: bitsOf w v

/-- One step of the CRC of R67, polynomial x^6 + x + 1. -/
def crc6Step (c : Nat) (b : Bool) : Nat :=
  let top := bitOf c 5
  ((2 * c) % 64) ^^^ (if top != b then 3 else 0)

/-- The CRC of a BiSS-C frame: initial value 0, over position, nE and nW, sent inverted. -/
def bissCrc (w : Nat) (f : SerialFrame) : Nat :=
  ((bitsOf w f.position ++ [f.nE, f.nW]).foldl crc6Step 0) ^^^ 63

/-- Gray to binary. -/
def grayFrom : Bool → List Bool → List Bool
  | _, [] => []
  | p, b :: l => (p != b) :: grayFrom (p != b) l

/-- The number of bits, most significant first. -/
def ofBits (l : List Bool) : Nat := l.foldl (fun v b => 2 * v + b2n b) 0

/-- The position a frame carries (R67). -/
def State.framePos (s : State) (n : Nat) (f : SerialFrame) : Nat :=
  let w := s.rd (K.encSerialBits n)
  if s.rd (K.encSerialCode n) = 1 then ofBits (grayFrom false (bitsOf w f.position)) else f.position % 2 ^ w

/-- The number of ones among bits is odd. -/
def oddOnes (l : List Bool) : Bool := l.foldl (fun p b => p != b) false

/-- The frame is discarded as a SERIAL_ERROR (R67). -/
def State.frameBad (s : State) (n : Nat) (f : SerialFrame) : Bool :=
  let w := s.rd (K.encSerialBits n)
  if s.rd (K.encMode n) = 2 then !f.acked || !f.nE || f.crc % 64 != bissCrc w f
  else
    match s.rd (K.encSerialParity n) with
    | 0 => false
    | 1 => oddOnes (bitsOf w f.position ++ [f.parity])
    | _ => !oddOnes (bitsOf w f.position ++ [f.parity])

/-- SERIAL_FRAME (R67, R68): the frame in progress completes; its position belongs to its first clock edge plus SensorLatency,
and the first valid frame only sets the reference. -/
def serialFrame (n : Nat) (f : SerialFrame) (s : State) : State :=
  let e := s.enc n
  match e.frameAt with
  | none => s
  | some t0 =>
    if ¬ s.encActive n then s else
    let s := s.setEnc n { e with frameAt := none }
    if s.frameBad n f then s.encFault n 1
    else
      let s := if s.rd (K.encMode n) = 2 ∧ ¬ f.nW then s.flag (K.encsStatus n) 4 37 else s
      let v := s.framePos n f
      let te := t0 + s.rd (K.encSensorLatency n) * 4 / 5
      let s := s.setEnc n { s.enc n with ref := some v }
      match e.ref with
      | none => s
      | some r =>
        let d := toI (s.rd (K.encSerialBits n)) (ofI (s.rd (K.encSerialBits n)) ((v : Int) - r))
        if d = 0 then (s.setEnc n { s.enc n with te := te, still := true }).encHold n (s.encP n) (decide (0 ≤ e.lastK))
        else s.encCount n (s.encSign n d) te

/-- SERIAL_FRAME; the web's motion wakes the device (R549). -/
def execSerialFrame (n : Nat) (f : SerialFrame) (s : State) : Host.Outcome State Fault Refusal :=
  inst (Nat.blt n 4) (serialFrame n f s).wakeOnLevel

/-! ### Index, stall, presets, re-admission -/

/-- INDEX_PULSE (R77 to R79): the accepted rising edge of Z. -/
def indexPulse (n : Nat) (s : State) : State :=
  let e := s.enc n
  let mode := s.rd (K.encMode n)
  if ¬ s.encActive n ∨ (mode ≠ 1 ∧ mode ≠ 4) ∨ ¬ s.encReady n e.z ∨ ¬ e.z.level then s
  else
    let s := (s.at (e.z.since + s.rd (K.encFilterLength n))).setEnc n { e with z := e.z.take }
    let im := s.rd (K.encIndexMode n)
    if im = 0 then s
    else
      let cpr := s.rd (K.encCountsPerRev n)
      let rot := s.rd (K.encsRotary n)
      let exp := s.rd (K.encIndexExpected n)
      let d := indexDev cpr rot exp
      let first := im == 2 && !e.homed
      let s := s.setEnc n { s.enc n with armed := false, homed := true }
      if d.natAbs ≤ s.rd (K.encIndexTolerance n) ∨ first then
        let s := s.setEnc n { s.enc n with run := 0 }
        let s := (s.wr (K.encsRotary n) exp).wr (K.encsLastIndexDeviation n) (ofI 32 d)
        let s := (s.inc 32 (K.encsIndexCorrections n)).raise (Ev.whlIndex n)
        if d < 0 then (List.range 16).foldl (State.cmpSkip n rot (-d).toNat) s else s
      else s.indexMismatch n false

/-- INDEX_PULSE. -/
def execIndexPulse (n : Nat) (s : State) : Host.Outcome State Fault Refusal := inst (Nat.blt n 4) (indexPulse n s)

/-- STALL_TIMEOUT (R71): no count for StallTime µs, and the period estimate is 0. -/
def stallTimeout (n : Nat) (s : State) : State :=
  let e := s.enc n
  match e.last with
  | none => s
  | some t =>
    if e.stalled ∨ ¬ s.encActive n then s
    else
      let s := s.at (t + us (s.rd (K.encStallTime n)))
      (s.setEnc n { e with stalled := true }).encShow n

/-- STALL_TIMEOUT. -/
def execStallTimeout (n : Nat) (s : State) : Host.Outcome State Fault Refusal := inst (Nat.blt n 4) (stallTimeout n s)

/-- LINEAR_PRESET (R101): the accumulator takes the value with fraction 0, and the high-water mark with it. -/
def linearPresetWrite (a : Acc) (n : Nat) (s : State) : State :=
  s.act a (K.encsLinearPreset n) 0 fun s =>
    let v := accVal a (K.encsLinearPreset n)
    let s := s.wr (K.encsLinearPreset n) v
    let s := s.setEnc n { s.enc n with acc := toI 64 v * 2 ^ 32, hold := none }
    let s := (s.wr (K.encsCountedPosition n) v).wr (K.encsHighWater n) v
    (s.encTrack n false).crossFix

/-- LINEAR_PRESET. -/
def execLinearPreset (a : Acc) (n : Nat) (s : State) : Host.Outcome State Fault Refusal :=
  inst (Nat.blt n 4) (linearPresetWrite a n s)

/-- ROTARY_PRESET (R101): a value at or above the live CountsPerRev is refused with ERR_RANGE. -/
def rotaryPresetWrite (a : Acc) (n : Nat) (s : State) : State :=
  let v := accVal a (K.encsRotaryPreset n)
  s.act a (K.encsRotaryPreset n) (if s.rd (K.encCountsPerRev n) ≤ v then 8 else 0) fun s =>
    (s.wr (K.encsRotaryPreset n) v).wr (K.encsRotary n) v

/-- ROTARY_PRESET. -/
def execRotaryPreset (a : Acc) (n : Nat) (s : State) : Host.Outcome State Fault Refusal :=
  inst (Nat.blt n 4) (rotaryPresetWrite a n s)

/-- A channel starts counting (R72, R77): the first count gives no period estimate, the first serial frame sets the reference,
the first index homes; the accepted levels are those at the balls. -/
def State.encStart (s : State) (n : Nat) : State :=
  let e := s.enc n
  let p (x : EncPin) : EncPin := { x with acc := x.level, accAt := none }
  (s.setEnc n { e with a := p e.a, b := p e.b, z := p e.z, last := none, lastK := 0, interval := none, log := [],
                       hold := none, ref := none, frameAt := none, framed := none, homed := false, armed := false,
                       stalled := false, still := false, run := 0 }).wr (K.encsChannelState n) 1

/-- A commit of a channel group applies (R64, R69, R72): a changed Mode starts or stops counting, the rotary counter is taken
modulo CountsPerRev. `old` is the Mode before. A retired channel waits for Readmit (R82). -/
def State.encApply (s : State) (n old : Nat) : State :=
  let s := s.wr (K.encsRotary n) (s.rd (K.encsRotary n) % s.rd (K.encCountsPerRev n))
  let s := (List.range 16).foldl (State.cmpWrap n) s
  let mode := s.rd (K.encMode n)
  if s.rd (K.encsChannelState n) = 2 then s
  else if mode = 0 then s.wr (K.encsChannelState n) 0
  else if mode = old then s else s.encStart n

/-- WHEEL_READMIT (R82): a retired channel counts again from its last counted position, with its runs cleared. A write of 0, or
to a channel that is not retired, asks for nothing. -/
def wheelReadmitWrite (a : Acc) (n : Nat) (s : State) : State :=
  s.act a (K.encsReadmit n) 0 fun s =>
    if accVal a (K.encsReadmit n) = 1 ∧ s.rd (K.encsChannelState n) = 2 then
      let s := (s.encStart n).readmit (256 + n)
      if s.rd (K.encMode n) = 0 then s.wr (K.encsChannelState n) 0 else s
    else s

/-- WHEEL_READMIT. -/
def execWheelReadmit (a : Acc) (n : Nat) (s : State) : Host.Outcome State Fault Refusal :=
  inst (Nat.blt n 4) (wheelReadmitWrite a n s)

/-! ### Probes (R88, R102) -/

/-- The FIFO of a probe, oldest first. -/
def State.probe (s : State) (p : Nat) : List ProbeEntry := tget [] s.probes p

/-- Set a probe's FIFO; the Head entries show the oldest entry and read 0 when it is empty. -/
def State.setProbe (s : State) (p : Nat) (l : List ProbeEntry) : State :=
  let h : ProbeEntry := l.headD { pos := 0, rotary := 0, time := 0, edge := 0 }
  let s := { s with probes := tput s.probes p l }
  ((((s.wr (K.prbFill p) l.length).wr (K.prbHeadPosition p) (ofI 64 h.pos)).wr (K.prbHeadRotary p) h.rotary).wr
    (K.prbHeadTime p) h.time).wr (K.prbHeadEdge p) h.edge

/-- The polarity passes the Edge entry. -/
def edgeTaken (edge : Nat) (rising : Bool) : Bool := edge == 3 || (if rising then edge == 1 else edge == 2)

/-- The source of a probe or compare is not retired (R81); the web position is always there. -/
def State.sourceAlive (s : State) (src : Nat) : Bool := !Nat.blt src 4 || s.rd (K.encsChannelState src) != 2

/-- PROBE_EDGE (R88): an accepted edge latches position, rotary count, time and polarity; a full FIFO loses it. -/
def probeEdge (p : Nat) (rising : Bool) (s : State) : State :=
  let src := s.rd (K.prbSource p)
  if ¬ s.on (K.prbEnable p) ∨ ¬ edgeTaken (s.rd (K.prbEdge p)) rising ∨ ¬ s.sourceAlive src then s
  else if 16 ≤ (s.probe p).length then
    ((s.inc 32 (K.prbOverflows p)).arrive 39).raise (Ev.probeOverflow p)
  else
    let e : ProbeEntry := { pos := wholePos (if src < 4 then s.encP src else s.webP), rotary := s.sourceRotary src,
                            time := s.time, edge := if rising then 1 else 2 }
    (((s.setProbe p (s.probe p ++ [e])).arrive 38)).raise (Ev.probeLatch p)

/-- PROBE_EDGE. -/
def execProbeEdge (p : Nat) (rising : Bool) (s : State) : Host.Outcome State Fault Refusal :=
  inst (Nat.blt p 8) (probeEdge p rising s)

/-- POP (R88): removes the oldest entry; on an empty FIFO it does nothing. -/
def popWrite (a : Acc) (p : Nat) (s : State) : State :=
  s.act a (K.prbPop p) 0 fun s => if accVal a (K.prbPop p) = 1 then s.setProbe p ((s.probe p).drop 1) else s

/-- POP. -/
def execPop (a : Acc) (p : Nat) (s : State) : Host.Outcome State Fault Refusal := inst (Nat.blt p 8) (popWrite a p s)

/-- PROBE_FLUSH (R102): empties the FIFO. -/
def probeFlushWrite (a : Acc) (p : Nat) (s : State) : State :=
  s.act a (K.prbFlush p) 0 fun s => if accVal a (K.prbFlush p) = 1 then s.setProbe p [] else s

/-- PROBE_FLUSH. -/
def execProbeFlush (a : Acc) (p : Nat) (s : State) : Host.Outcome State Fault Refusal :=
  inst (Nat.blt p 8) (probeFlushWrite a p s)

end Sys2Proof.Machine
end

