-- ==== Sys2Proof/Machine/Run.lean ====
section
/-! DEFINITION. The start of a run (R94, R95, R119, R149, R194, R329) and the trigger generators' starting points and applies (R97,
R104). -/

namespace Sys2Proof.Machine

/-! ### Generators -/

/-- Enable of a generator. -/
def State.genOn (s : State) (g : Nat) : Bool := s.on (genKey K.cgenEnable K.rgenEnable g)

/-- RunMask has the generator's work: inspection for a camera, print for a bar. -/
def State.genMasked (s : State) (g : Nat) : Bool := if g < 12 then s.inspecting else s.printing

/-- T_0 of R95 by the settings in force. -/
def State.genZero (s : State) (g : Nat) : Int := (s.rdI 64 K.whlOrigin + s.genPhase g + s.genOffset g) * 2 ^ 32

/-- The smallest k with T_k > p. -/
def State.genAfter (s : State) (g : Nat) (p : Int) : Int := floorDiv (p - s.genZero g) (s.genPitch g).toNat + 1

/-- A generator at a run's start (R95): a raster generator at k = 0, a camera generator at the smallest k with T_k > P at Origin. -/
def genStart (s : State) (g : Nat) : State :=
  if s.genOn g ∧ s.genMasked g then
    s.setGen g { run := true, baseT := s.genZero g, baseK := 0,
                 next := if g < 12 then s.genAfter g (s.rdI 64 K.whlOrigin * 2 ^ 32) else 0 }
  else s.setGen g {}

/-! ### A run starts -/

/-- The band records that can still be written are written, and bands number from k = 0 (R119, R181). -/
def camRunBegin (s : State) (n : Nat) : State :=
  let s := (s.cam n).bands.foldl (fun (s : State) _ => bandRecord n s) s
  let s := s.camRunStart n
  (s.setCam n { s.cam n with bands := [], fifo := [] }).replayRestart n

/-- The Seam unit and what it feeds start with the first line of the run. -/
def State.seamRunStart (s : State) : State :=
  let s := { s with seam := {}, coding := {}, ctxs := s.ctxs.map fun (e : Nat × Ctx) => (e.1, { e.2 with pipe := [], store := [], out := [], checked := none }) }
  let s := { s with wins := s.wins.map fun (e : Nat × Win) => (e.1, { e.2 with s0 := none }) }
  (List.range 8).foldl (fun (s : State) v => (s.viewClose v).viewReset v) s

/-- Entry to RUNNING with an Origin (R94). -/
def State.startRun (s : State) (origin : Int) : State :=
  let s := ((s.wr K.whlOrigin (ofI 64 origin)).enter stRunning).seamRunStart
  let s := (List.range 12).foldl camRunBegin s
  let s := (List.range 28).foldl genStart { s with trigs := [], wheel := { s.wheel with lineStart := true } }
  s.slipRun.umbRunStart.loopRunStart

/-! ### Applying a generator group (R97, R104) -/

/-- What becomes of a running generator whose settings change: the last emitted trigger stays the anchor, shifted by the change in
Phase and d; `s` is the state before the apply. -/
def State.genAnchor (s t : State) (g : Nat) : State :=
  let x := t.gen g
  let shift := (t.genPhase g + t.genOffset g - (s.genPhase g + s.genOffset g)) * 2 ^ 32
  if x.lastAt.isNone then t.setGen g { x with baseT := t.genZero g, baseK := 0, lateTo := some t.webP }
  else
    let k := s.rdI 64 (genKey K.cgenLineIndex K.rgenLineIndex g)
    t.setGen g { x with baseT := s.genT g k + shift, baseK := k, lateTo := some t.webP }

/-- Lines in the banks of a bar's ports are discarded and not fired (R257). -/
def State.flushBar (s : State) (b : Nat) (ports : List Nat) : State :=
  let gone := ports.flatMap fun p => (s.port p).banks.map fun l => l.k
  let new := gone.eraseDups.filter fun k => !(s.bar b).missed.contains k
  let s := ports.foldl (fun (s : State) p => s.setPort p { s.port p with banks := [] }) s
  let s := s.setBar b { s.bar b with missed := (s.bar b).missed ++ new }
  new.foldl (fun (s : State) k => s.dropMissed b k) s

/-- The bar is taken up at the job line of trigger k (R104, R237). -/
def State.barResume (s : State) (b k : Nat) : State :=
  let x := s.bar b
  let line := s.barLine b k
  let p := if x.pos.first ≤ line then x.pos else {}
  match s.seek line 4096 p with
  | some q => s.setBar b { x with k := k, pos := q, prev := none, cur := none, begun := false, atEnd := false, segs := [], fetch := q,
                                  fetchSeg := 0, fetchEnd := false, next := k, missed := [], stalled := false }
  | none => s.setBar b { x with atEnd := true, cur := none }

/-- A generator group has applied: `s` is the state before. -/
def State.genApply (s t : State) (g : Nat) : State :=
  let live := (t.dev == stRunning || t.dev == stDraining) && t.genMasked g
  if ¬ live then t
  else if ¬ t.genOn g then
    let t := t.setGen g { t.gen g with run := false, held := none }
    if g < 12 ∨ ¬ (s.gen g).run then t
    else (t.setBar (g - 12) { t.bar (g - 12) with cur := none }).flushBar (g - 12) (t.barPorts (g - 12))
  else if (s.gen g).run then s.genAnchor t g
  else
    let k := t.genAfter g t.webP
    let k := if g < 12 then k else max k 0
    let t := t.setGen g { run := true, baseT := t.genZero g, baseK := 0, next := k }
    if g < 12 then t else t.barResume (g - 12) k.toNat

/-- PORT_QUEUE_FLUSH (R257, R372): bit n flushes the port queue of KPn; the lines lost are not fired. -/
def portQueueFlushWrite (a : Acc) (s : State) : State :=
  s.act a K.quesPortQueueFlush 0 fun s =>
    let v := accVal a K.quesPortQueueFlush
    let flushed := (List.range 32).filter (bitOf v)
    let s := (s.barsOn.filter fun b => flushed.any (s.barPorts b).contains).foldl (fun (s : State) b =>
      s.flushBar b ((s.barPorts b).filter flushed.contains)) s
    flushed.foldl (fun (s : State) p => s.setPort p { s.port p with banks := [] }) s

/-- PORT_QUEUE_FLUSH. -/
def execPortQueueFlush (a : Acc) (s : State) : Host.Outcome State Fault Refusal := .next (portQueueFlushWrite a s)

end Sys2Proof.Machine
end

