-- ==== Sys2Proof/Machine/Triggers.lean ====
section
/-! DEFINITION. What the Wheel does when the web passes a place (R86, R87, R89 to R97): triggers, compare units, and the position sent to
and taken from a peer. -/

namespace Sys2Proof.Machine

/-! ### Trigger generators (R95 to R97, R104) -/

/-- Entries of a generator by its number. -/
def genLineIndex (g : Nat) : Nat := genKey K.cgenLineIndex K.rgenLineIndex g
def genLateCount (g : Nat) : Nat := genKey K.cgenLateCount K.rgenLateCount g

/-- MinPeriod; raster generators have none. -/
def State.genMinPeriod (s : State) (g : Nat) : Nat := if g < 12 then s.rd (K.cgenMinPeriod g) else 0

/-- The web moves forward, as the channel that serves it sees: its status is FORWARD or P is past its high-water mark (R75, R76). -/
def State.webForward (s : State) : Bool :=
  let m := s.rd K.whlActiveMaster
  !Nat.blt m 4 || s.rd (K.encsDirection m) == 0 || decide (s.rdI 64 (K.encsHighWater m) * 2 ^ 32 + 2 ^ 32 ≤ s.encP m)

/-- The greatest Offset of the camera generators, in 2^−32 POS. -/
def State.furthestCamera (s : State) : Int := ((List.range 12).foldl (fun m n => max m (s.rdI 64 (K.cgenOffset n))) 0) * 2 ^ 32

/-- With print in RunMask, the last printed line has passed the furthest camera row (R27). -/
def State.printPassed (s : State) : Bool :=
  let lead := s.rd K.slipLeadBar
  let stop := s.rdI 64 K.slipStopLine
  let step := s.rd (K.barLineStep lead)
  !s.printing || decide (stop < 0) ||
    decide (s.genW (12 + lead) ((stop - s.rd (K.barLineBase lead)) / step) + s.furthestCamera ≤ s.webP)

/-- The camera generator may raise k in DRAINING (R27): until the condition on the print is met any, then only to the end of the band in
progress. -/
def State.camMayRaise (s : State) (n : Nat) (k : Int) : Bool :=
  s.dev == stRunning || !s.printPassed ||
  (match (s.cam n).inBand with
   | some b => decide (k ≤ b.k1)
   | none => false)

/-- The generator may raise k: RUNNING or DRAINING, started, the web moving forward, and k within the stop (R27, R28). -/
def State.genMay (s : State) (g : Nat) (k : Int) : Bool :=
  (s.dev == stRunning || s.dev == stDraining) && (s.gen g).run && s.webForward &&
  (if g < 12 then s.camMayRaise g k else s.withinStop (s.barLine (g - 12) k.toNat))

/-- LateCount (R96, R97). -/
def State.genLate (s : State) (g : Nat) : State := (s.inc 32 (genLateCount g)).arrive 41

/-- The event of a generator's trigger. -/
def genEvent (g : Nat) : Nat := if g < 12 then Ev.whlCtrig g else Ev.whlRtrig (g - 12)

/-- Trigger k is emitted: raised 7 FABCLK later (R22, R95). -/
def State.genEmit (s : State) (g : Nat) (k : Int) : State :=
  let t := s.genT g k
  let s := (s.wr (genLineIndex g) (ofI 64 k)).wr (genKey K.cgenLastTrigger K.rgenLastTrigger g) (ofI 64 (wholePos t))
  let s := s.inc 64 (genKey K.cgenTrigCount K.rgenTrigCount g)
  let x : Trig := { gen := g, k := k, t := t, stamp := s.now + 7 }
  let s := { s with trigs := s.trigs ++ [x] }
  let s := s.raiseAt (s.now + 7) (genEvent g) 0
  let s := if g < 12 then s.genRaised g k true else s
  s.setGen g { s.gen g with lastAt := some s.now, held := none }

/-- The next grid point is reached and no trigger is held. -/
def State.genReach (s : State) (g : Nat) : State :=
  let x := s.gen g
  let k := x.next
  let s := match x.lastAt with
    | some t => if x.bunch then (s.at (t + 1)).inc 32 (genKey K.cgenBunchCount K.rgenBunchCount g) else s
    | none => s
  let s := match x.lateTo with
    | some p => if s.genT g k ≤ p then s.genLate g else s
    | none => s
  let s := s.setGen g { x with next := k + 1, bunch := decide (s.genT g (k + 1) ≤ s.webP) }
  match x.lastAt with
  | some t =>
    if s.now < t + s.genMinPeriod g then (s.setGen g { s.gen g with held := some (k, t + s.genMinPeriod g) }).genLate g
    else s.genEmit g k
  | none => s.genEmit g k

/-- TRIGGER_EMIT (R95 to R97): a grid point is reached; while a trigger is held under MinPeriod a grid point reached is used up, and the
held trigger goes when MinPeriod has passed. -/
def triggerEmit (g : Nat) (s : State) : State :=
  let x := s.gen g
  let reached := decide (s.genT g x.next ≤ s.webP)
  match x.held with
  | some (k, due) =>
    if ¬ s.genMay g k then s
    else if s.now < due ∧ reached then
      let s := ((s.inc 32 (K.cgenSkipCount g)).arrive 41).genRaised g x.next false
      s.setGen g { s.gen g with next := x.next + 1 }
    else (s.at due).genEmit g k
  | none => if s.genMay g x.next ∧ reached then s.genReach g else s

/-- TRIGGER_EMIT. -/
def execTriggerEmit (g : Nat) (s : State) : Host.Outcome State Fault Refusal := inst (Nat.blt g 28) (triggerEmit g s)

/-! ### Compare units (R89 to R92) -/

/-- The position a compare watches: in 2^−32 POS, or a count for a rotary source. -/
def State.cmpPos (s : State) (m : Nat) : Int :=
  let src := s.rd (K.cmpSource m)
  if src < 4 then s.encP src else if src < 8 then (s.rd (K.encsRotary (src - 4)) : Int) else s.webP

/-- The value a compare stands at, in the unit of its position. -/
def State.cmpTarget (s : State) (m : Nat) : Int :=
  let src := s.rd (K.cmpSource m)
  if 4 ≤ src ∧ src < 8 then s.cmpValue m else s.cmpValue m * 2 ^ 32

/-- The compare watches a rotary count. -/
def State.cmpRotary (s : State) (m : Nat) : Bool := Nat.ble 4 (s.rd (K.cmpSource m)) && Nat.blt (s.rd (K.cmpSource m)) 8

/-- The position is at or beyond the value in the set Direction. -/
def State.cmpReached (s : State) (m : Nat) : Bool :=
  if s.rd (K.cmpDirection m) = 0 then decide (s.cmpTarget m ≤ s.cmpPos m) else decide (s.cmpPos m ≤ s.cmpTarget m)

/-- STALE, LATE or OVERRUN is set (R103, R106). -/
def State.cmpFlag (s : State) (m bit : Nat) : State := (s.flag (K.cmpCmpStatus m) bit 40).raise (Ev.whlCmpStatus (m / 4))

/-- The next value after a firing (R89, R91): the next of the queue, or Value moved by Period. -/
def State.cmpNext (s : State) (m : Nat) : State :=
  let c := s.cmp m
  if s.on (K.cmpQueueEnable m) then
    let q := c.queue.drop 1
    (s.setCmp m { c with queue := q, phase := if q.isEmpty then .idle else .check, at_ := s.now + 1, due := false }).wr
      (K.cmpQueueFill m) q.length
  else
    let p := s.rd (K.cmpPeriod m)
    if p = 0 then s.setCmp m { c with phase := .idle, due := false }
    else
      let v := s.cmpValue m + (if s.rd (K.cmpDirection m) = 0 then (p : Int) else -(p : Int))
      let v := if s.cmpRotary m then v % (s.rd (K.encCountsPerRev (s.rd (K.cmpSource m) - 4)) : Int) else v
      (s.wr (K.cmpValue m) (ofI 64 v)).setCmp m { c with phase := .check, at_ := s.now + 1, due := false }

/-- Origin under StartSource COMPARE (R94). -/
def State.cmpOrigin (s : State) (m : Nat) : Int :=
  let src := s.rd (K.cmpSource m)
  if src = 8 ∨ (src < 4 ∧ src = s.rd K.whlWebMaster ∧ src = s.rd K.whlActiveMaster) then s.cmpValue m else s.webPos

/-- A compare unit fires (R92), and starts the run where it is the start compare of an ARMED device. -/
def State.cmpFire (s : State) (m : Nat) : State :=
  let origin := s.cmpOrigin m
  let s := (s.inc 32 (K.cmpFired m)).wr (K.cmpLastFire m)
    (ofI 64 (if s.cmpRotary m then s.cmpPos m else wholePos (s.cmpPos m)))
  let s := s.raise (Ev.whlCmp m)
  let pin := s.rd (K.cmpOutputPin m)
  let len := s.rd (K.cmpPulseLength m)
  let s := if pin < 32 ∧ len ≠ 0 then (s.setCmp m { s.cmp m with pulse := some (s.now + len) }).refreshPin pin else s
  let s := s.cmpNext m
  if s.dev = stArmed ∧ s.rd K.devStartSource = 1 ∧ s.rd K.devStartCompare = m then s.startRun origin else s

/-- The check of a value that has become live (R90). -/
def State.cmpCheck (s : State) (m : Nat) : State :=
  let s := s.at (s.cmp m).at_
  if s.cmpPos m = s.cmpTarget m then s.cmpFire m
  else if ¬ s.cmpReached m then s.setCmp m { s.cmp m with phase := .armed }
  else if s.rd (K.cmpMode m) = 2 then (s.cmpFlag m 2).cmpFire m
  else (s.setCmp m { s.cmp m with phase := if s.cmpRotary m then .armed else .idle }).cmpFlag m 1

/-- COMPARE_FIRE (R89 to R92): a new value is checked, a firing owed to an index correction is made, or the value is reached. -/
def compareFire (m : Nat) (s : State) : State :=
  let c := s.cmp m
  if s.rd (K.cmpMode m) = 0 ∨ ¬ s.sourceAlive (s.rd (K.cmpSource m) % 4 + 8 * (s.rd (K.cmpSource m) / 8)) then s
  else if c.owed ≠ 0 then
    let s := s.at c.at_
    (s.setCmp m { c with owed := c.owed - 1 }).cmpFire m
  else
    match c.phase with
    | .idle => s
    | .check => s.cmpCheck m
    | .armed => if (if s.cmpRotary m then c.due else s.cmpReached m) then s.cmpFire m else s

/-- COMPARE_FIRE. -/
def execCompareFire (m : Nat) (s : State) : Host.Outcome State Fault Refusal := inst (Nat.blt m 16) (compareFire m s)

/-- COMPARE_PULSE_END (R92). -/
def comparePulseEnd (m : Nat) (s : State) : State :=
  match (s.cmp m).pulse with
  | none => s
  | some t => ((s.at t).setCmp m { s.cmp m with pulse := none }).refreshPin (s.rd (K.cmpOutputPin m))

/-- COMPARE_PULSE_END. -/
def execComparePulseEnd (m : Nat) (s : State) : Host.Outcome State Fault Refusal := inst (Nat.blt m 16) (comparePulseEnd m s)

/-- A compare group has applied (R89 to R92); `s` is the state before. The value is checked at the next FABCLK. -/
def State.cmpApply (s t : State) (m : Nat) : State :=
  let q := if s.rd (K.cmpQueueEnable m) = t.rd (K.cmpQueueEnable m) then (t.cmp m).queue else []
  let idle := t.rd (K.cmpMode m) = 0 ∨ (t.on (K.cmpQueueEnable m) ∧ q = [])
  let c : Cmp := { t.cmp m with queue := q, phase := if idle then .idle else .check, at_ := t.now + 1, due := false, owed := 0 }
  (((t.setCmp m c).wr (K.cmpQueueFill m) q.length).cmpWrap (t.rd (K.cmpSource m) - 4) m).refreshPins

/-! ### Position to and from a peer (R86, R87, R459) -/

/-- The POS payload (R459). -/
def posPayload (p v : Int) (t state flags : Nat) (origin : Int) : List Nat :=
  leBytes 8 (ofI 64 p) ++ leBytes 8 (ofI 64 v) ++ leBytes 8 (t / 65536) ++ leBytes 2 (t % 65536) ++ [state, flags, 0, 0, 0, 0] ++
  leBytes 8 (ofI 64 origin)

/-- POS_BROADCAST (R86, R459): LINE_START on the first message after entering RUNNING. -/
def posBroadcast (s : State) : State :=
  if ¬ s.on K.remBroadcastEnable ∨ ¬ s.originates then s
  else
    let s := s.at (s.wheel.sentAt + us (s.rd K.remBroadcastPeriod))
    let start := s.wheel.lineStart && s.dev == stRunning
    let s := { s with wheel := { s.wheel with sentAt := s.now, lineStart := false } }
    s.broadcast 1 0 (posPayload s.webPos s.webV s.time s.dev (b2n start + 2 * b2n s.wheel.frozen.isSome) (s.rdI 64 K.whlOrigin))

/-- POS_BROADCAST. -/
def execPosBroadcast (s : State) : Host.Outcome State Fault Refusal := .next (posBroadcast s)

/-- The newest message becomes the remote position; where it falls behind what was reached, P holds (R87). -/
def State.takePos (s : State) (l : List Nat) (node : Nat) : State :=
  let w := s.wheel
  let before := s.remoteP
  let s := { s with wheel := { w with got := true, lost := false, remP := toI 64 (leAt l 0 8) * 2 ^ 32, remV := toI 64 (leAt l 8 8),
                                      remT := leAt l 16 8 * 65536 + leAt l 24 2, remAt := s.now, remHold := none } }
  let s := s.wr K.remRemoteNode node
  if w.got ∧ ¬ w.lost ∧ s.remoteExtra < before then
    { s.inc 32 K.remRemoteHolds with
      wheel := { s.wheel with remHold := some (before, s.now + us (s.rd K.remBroadcastPeriod)) } }
  else s

/-- REMOTE is the web master, the redundant source or serving. -/
def State.usesRemote (s : State) : Bool :=
  s.rd K.whlWebMaster == 4 || s.rd K.whlRedundantChannel == 4 || s.rd K.whlActiveMaster == 4

/-- POS_MESSAGE (R87, R459): from the node that sends the position; a LINE_START starts an ARMED device that waits for its peer. -/
def posMessage (m : Msg) (s : State) : State :=
  match s.takeMsg m with
  | none => s
  | some (_, _, s) =>
    if m.cls ≠ 1 ∨ ¬ s.usesRemote then s
    else
      let s := s.takePos m.payload m.source
      let s := s.wakeOnLevel
      if bitOf (nth m.payload 27) 0 ∧ s.dev = stArmed ∧ s.rd K.devStartSource = 2 ∧ s.rd K.whlWebMaster = 4 then
        s.startRun (toI 64 (leAt m.payload 32 8))
      else s

/-- POS_MESSAGE. -/
def execPosMessage (m : Msg) (s : State) : Host.Outcome State Fault Refusal := .next (posMessage m s)

/-- REMOTE_TIMEOUT (R87): REMOTE_LOST, and where REMOTE serves the Wheel switches or freezes (R83, R84). -/
def remoteTimeout (s : State) : State :=
  if ¬ s.usesRemote ∨ ¬ s.wheel.got ∨ s.wheel.lost then s
  else
    let s := s.at (s.wheel.remAt + us (s.rd K.remRemoteTimeout))
    let p := s.webP
    let s := ({ s with wheel := { s.wheel with lost := true } }).flag K.whlWheelStatus 8 34
    if s.rd K.whlActiveMaster = 4 then s.masterLost p else s

/-- REMOTE_TIMEOUT. -/
def execRemoteTimeout (s : State) : Host.Outcome State Fault Refusal := .next (remoteTimeout s)

end Sys2Proof.Machine
end

