-- ==== Sys2Proof/Machine/Device.lean ====
section
/-! DEFINITION. The device's state requests, their preconditions and the drain (R24 to R28, R94, R198, R238, R259, R286, R294, R518,
R548). -/

namespace Sys2Proof.Machine

/-! ### Requests (R24, R26) -/

/-- The outcome of a request: RequestStatus and RequestCause. -/
def State.answer (s : State) (status cause : Nat) : State := (s.wr K.devRequestStatus status).wr K.devRequestCause cause

/-- A request not listed for the present state (R25, R26). -/
def State.refuseRequest (s : State) : State := s.answer 1 (if s.dev = stDraining then 7 else 1)

/-- A request is written to StateRequest: the write is served, and the request has its own outcome. -/
def request (a : Acc) (code : Nat) (eff : State → State) (s : State) : State :=
  s.act { a with value := code } K.devStateRequest 0 eff

/-! ### Preconditions of ARM (R25, R198, R259, R286) -/

/-- An enabled camera channel has its links up. -/
def State.linksUp (s : State) : Bool :=
  (List.range 12).all fun n => s.camState n == camDisabled || s.camState n == camActive

/-- Two bars' heads share a port (R259). -/
def State.sharedPort (s : State) : Bool :=
  s.barsOn.any fun b => s.barsOn.any fun c => decide (b < c) && (s.barPorts b).any (s.barPorts c).contains

/-- A twin bar is paired both ways with the same Slot and nozzle count, and LineBase 0 and 1 (R259). -/
def State.twinOk (s : State) (b : Nat) : Bool :=
  let t := s.rd (K.barTwinBar b)
  t == 255 ||
  (Nat.blt t 16 && t != b && s.on (K.barBarEnable t) && s.rd (K.barTwinBar t) == b && s.rd (K.barSlot t) == s.rd (K.barSlot b) &&
    s.barNozzles t == s.barNozzles b && s.rd (K.barLineBase t) + s.rd (K.barLineBase b) == 1)

/-- RingRowPitch × LineStep is UpY × the raster Pitch (R259). -/
def State.ringPitchOk (s : State) (b : Nat) : Bool :=
  decide ((s.rd K.ringRingRowPitch * s.rd (K.barLineStep b) : Nat) = (s.rd K.jobUpY : Int) * s.genPitch (12 + b))

/-- The bar agrees with its nozzle map (R226, R259). -/
def State.mapOk (s : State) (b : Nat) : Bool :=
  s.rd (K.ubarSlot b) == s.rd (K.barSlot b) && s.rd (K.ubarFirstHead b) == s.rd (K.barFirstHead b) &&
  s.rd (K.ubarHeadCount b) == s.rd (K.barHeadCount b) && s.rd (K.ubarHeadNozzles b) == s.rd (K.barHeadNozzles b)

/-- The job does not match the installation (R259). -/
def State.jobMismatch (s : State) : Bool :=
  s.rd K.jobEntryCount == 0 || s.sharedPort || !(s.barsOn.all s.twinOk) || !(s.barsOn.all s.ringPitchOk) ||
  (s.printWeb && (!s.on K.ringRingEnable || !(s.barsOn.all s.mapOk)))

/-- A head in an enabled bar's range is ABSENT, MISMATCH or READY, or a port is not ACTIVE or of another head size (R286). -/
def State.headMissing (s : State) : Bool :=
  s.barsOn.any fun b =>
    ((s.barPorts b).any fun p => s.portState p != kpActive || s.rd (K.profNozzles (s.prof p)) != s.rd (K.barHeadNozzles b)) ||
    ((List.range (s.rd (K.barHeadCount b))).any fun i =>
      let st := s.headState (s.rd (K.barFirstHead b) + i)
      st == khAbsent || st == khMismatch || st == khReady)

/-- The RequestCause an ARM request is refused with; 0 for none. -/
def State.armCause (s : State) : Nat :=
  if ¬ s.inspecting ∧ ¬ s.printing then 2
  else if s.inspecting ∧ ¬ s.linksUp then 4
  else if s.inspecting ∧ s.printWeb ∧ ¬ s.printing then 3
  else if s.printing ∧ s.jobMismatch then 3
  else if s.printing ∧ s.headMissing then 5
  else 0

/-- A scan and every calibration end (R294, R322, R518). -/
def State.endTests (s : State) (acks : Nat) : State := (s.scanAbort acks).gaCalAborts.calAbort

/-- Entry to ARMED (R25, R256, R406). -/
def State.arm (s : State) : State :=
  let s := (s.answer 0 0).slipArm.enter stArmed
  if s.printing then s.zeReserve (s.rd K.jobSlipEngines) else s

/-- ARM in STOPPED: a running scan or calibration ends first; `acks` says which heads acknowledge the return to print mode. -/
def State.tryArm (s : State) (acks : Nat) : State :=
  let s := s.endTests acks
  let s := if s.printing ∧ s.jobMismatch then s.flag K.slipStatus 16 100 else s
  if s.armCause = 0 then s.arm else s.answer 2 s.armCause

/-- ARM. -/
def armWrite (a : Acc) (acks : Nat) (s : State) : State :=
  request a 1 (fun s => if s.dev = stStopped then s.tryArm acks else s.refuseRequest) s

/-- ARM. -/
def execArm (a : Acc) (acks : Nat) (s : State) : Host.Outcome State Fault Refusal := .next (armWrite a acks s)

/-- RUN (R94): with StartSource COMMAND, Origin is the web position rounded up to a whole POS. -/
def runWrite (a : Acc) (s : State) : State :=
  request a 2 (fun s =>
    if s.dev = stArmed ∧ s.rd K.devStartSource = 0 then (s.answer 0 0).startRun (-floorDiv (-s.webP) (2 ^ 32)) else s.refuseRequest) s

/-- RUN. -/
def execRun (a : Acc) (s : State) : Host.Outcome State Fault Refusal := .next (runWrite a s)

/-! ### Leaving ARMED and DRAINING (R25, R27) -/

/-- What waits to be fired is discarded; a strobe window that runs goes on. -/
def State.dropPrint (s : State) : State :=
  let s := (List.range 32).foldl (fun (s : State) p =>
    s.setPort p { s.port p with banks := [], shift := none, loaded := none }) s
  { s with heads := s.heads.map fun (e : Nat × Head) => (e.1, { e.2 with strobe := none }) }

/-- What waits to be inspected is discarded: bands, lines, open stitched lines and open components (R27, R202). -/
def State.dropInspection (s : State) : State :=
  let s := { s with cams := s.cams.map fun (e : Nat × Cam) =>
                      (e.1, { e.2 with bands := [], cur := none, fifo := [], held := none, list := [],
                                       owed := e.2.owed ++ e.2.list.map fun (_ : CamTrig) => s.now }) }
  let s := { s with ctxs := s.ctxs.map fun (e : Nat × Ctx) => (e.1, { e.2 with pipe := [], store := [], out := [] }),
                    seam := { s.seam with opens := [] } }
  s.umbDiscard

/-- The device enters STOPPED from its work: generators stop, engines are released and no bar runs. -/
def State.toStopped (s : State) : State :=
  let s := s.gensOff.zeRelease.enter stStopped
  let s := if s.printing then s.wr K.slipJobState 0 else s
  (List.range 16).foldl State.rejoinHeads s

/-- DRAINING ends with data discarded (R27). -/
def State.drainAbort (s : State) (cause : Nat) : State := (s.wr K.devStopCause cause).dropPrint.dropInspection.toStopped

/-- STOP and DISARM in ARMED. -/
def State.disarm (s : State) : State := s.dropPrint.toStopped

/-- STOP (R25, R27). -/
def stopWrite (a : Acc) (s : State) : State :=
  request a 3 (fun s =>
    if s.dev = stArmed then (s.answer 0 0).disarm
    else if s.dev = stRunning then (s.answer 0 0).drain 1
    else if s.dev = stDraining then (s.answer 0 0).drainAbort 7
    else s.refuseRequest) s

/-- STOP. -/
def execStop (a : Acc) (s : State) : Host.Outcome State Fault Refusal := .next (stopWrite a s)

/-- DISARM. -/
def disarmWrite (a : Acc) (s : State) : State :=
  request a 4 (fun s => if s.dev = stArmed then (s.answer 0 0).disarm else s.refuseRequest) s

/-- DISARM. -/
def execDisarm (a : Acc) (s : State) : Host.Outcome State Fault Refusal := .next (disarmWrite a s)

/-- A wake condition holds in this FABCLK (R548, R549). -/
def State.wakeHolds (s : State) : Bool := s.wakeLevel.isSome || s.power.alarm == some s.now

/-- SLEEP in STOPPED. -/
def State.trySleep (s : State) (acks : Nat) : State :=
  let s := s.endTests acks
  if s.wakeHolds then (s.answer 3 6).inc 32 K.pwrSleepRefusals else (s.answer 0 0).startSleep.refreshPins

/-- SLEEP (R548). -/
def sleepWrite (a : Acc) (acks : Nat) (s : State) : State :=
  request a 5 (fun s => if s.dev = stStopped then s.trySleep acks else s.refuseRequest) s

/-- SLEEP. -/
def execSleep (a : Acc) (acks : Nat) (s : State) : Host.Outcome State Fault Refusal := .next (sleepWrite a acks s)

/-- WAKE (R549). -/
def wakeWrite (a : Acc) (s : State) : State :=
  request a 6 (fun s => if s.dev = stStandby then (s.answer 0 0).wake 1 else s.refuseRequest) s

/-- WAKE. -/
def execWake (a : Acc) (s : State) : Host.Outcome State Fault Refusal := .next (wakeWrite a s)

/-- DEV_STOP (R25): a delivery at the stop input; in RUNNING the device drains with StopCause STOP_INPUT. -/
def devStop (s : State) : State :=
  match s.takeTask 0 with
  | none => s
  | some (_, s) => if s.dev = stRunning then s.drain 6 else s

/-- DEV_STOP. -/
def execDevStop (s : State) : Host.Outcome State Fault Refusal := .next (devStop s)

/-! ### The drain (R27) -/

/-- A bar in use has fired its last line, and its port queues are empty and its windows ended. -/
def State.barDrained (s : State) (b : Nat) : Bool :=
  !(s.gen (12 + b)).run ||
  (!s.lineDue b (s.bar b).next && (s.barPorts b).all fun p => (s.port p).banks.isEmpty && s.strobesDone p)

/-- Every band of a channel has ended and its lines have left the pipe and the Seam unit. -/
def State.camDrained (s : State) (n : Nat) : Bool :=
  ((s.cam n).bands.all fun x => (x.ended || s.camState n == camDisabled) && x.piped == 0 && x.seam == 0) &&
  (s.ctx n).pipe.isEmpty && (s.ctx n).store.isEmpty && (s.ctx n).out.isEmpty

/-- The band condition: the print has passed the furthest camera row, and every band in progress has ended. -/
def State.bandsDrained (s : State) : Bool :=
  s.printPassed && (List.range 12).all s.camDrained && s.seam.opens.isEmpty

/-- DRAIN_COMPLETE: with print, every bar has fired its last line; with inspection, the band condition holds, Umbra then closes what is
open, and every tag is written. -/
def drainComplete (s : State) : State :=
  if s.dev ≠ stDraining ∨ (s.printing ∧ ¬ s.barsOn.all s.barDrained) ∨ (s.inspecting ∧ ¬ s.bandsDrained) then s
  else
    let s := if s.inspecting ∧ ¬ s.umb.comps.isEmpty then s.umbFlush else s
    if s.inspecting ∧ ¬ s.umb.closed.isEmpty then s else s.toStopped

/-- DRAIN_COMPLETE. -/
def execDrainComplete (s : State) : Host.Outcome State Fault Refusal := .next (drainComplete s)

/-- DRAIN_TIMEOUT: DrainTimeout, if not 0, has passed since DRAINING was entered. -/
def drainTimeout (s : State) : State :=
  if s.dev ≠ stDraining ∨ s.rd K.devDrainTimeout = 0 then s
  else (s.at (s.stateAt + us (s.rd K.devDrainTimeout))).drainAbort 3

/-- DRAIN_TIMEOUT. -/
def execDrainTimeout (s : State) : Host.Outcome State Fault Refusal := .next (drainTimeout s)

end Sys2Proof.Machine
end

