-- ==== Sys2Proof/Machine/Commit.lean ====
section
/-! DEFINITION. COMMIT, DISCARD and the apply of a STAGED group (R46 to R52), with what each group's apply brings (R97, R104, R126,
R145, R176, R185, R222, R244, R260, R298, R324, R348, R373, R410, R470, R495, R497). -/

namespace Sys2Proof.Machine

/-! ### COMMIT and DISCARD (R49, R50) -/

/-- COMMIT: after the checks of R39 the group's own checks; a refusal leaves Commit and CommitFault, and the path records it. -/
def commitWrite (a : Acc) (idx : Nat) (s : State) : State :=
  let a := { a with value := 1 }
  match s.writeStatus a (K.commit idx) with
  | 0 =>
    match s.tryCommit idx with
    | (st, s) => s.done a (K.commit idx) st
  | st => s.done a (K.commit idx) st

/-- COMMIT. -/
def execCommit (a : Acc) (idx : Nat) (s : State) : Host.Outcome State Fault Refusal := .next (commitWrite a idx s)

/-- DISCARD: the Shadow bank is reloaded from the live set. -/
def discardWrite (a : Acc) (idx : Nat) (s : State) : State :=
  s.act { a with value := 2 } (K.commit idx) 0 fun s => (s.reloadShadow idx).wr (K.commit idx) 5

/-- DISCARD. -/
def execDiscard (a : Acc) (idx : Nat) (s : State) : Host.Outcome State Fault Refusal := .next (discardWrite a idx s)

/-! ### Apply points (R33, R51, R52) -/

/-- The device raises no band starts for the channel: the two cases of R145. -/
def State.bandSourceOff (s : State) (n : Nat) : Bool :=
  (s.dev != stRunning && s.dev != stDraining) ||
  ((s.camState n == camDisabled || s.camState n == camAbsent || s.camState n == camRetired) && !s.replaying n)

/-- No line of a band up to `since` is in the channel's FIFO, the pipe or the line store. -/
def State.pipeClear (s : State) (n : Nat) (since : Int) : Bool :=
  !((s.cam n).fifo.any fun x => decide (x.band ≤ since)) && !((s.ctx n).pipe.any fun x => decide (x.1.band ≤ since)) &&
  !((s.ctx n).store.any fun x => decide (x.band ≤ since))

/-- A Prism or member group's apply point (R145). -/
def State.prismPoint (s : State) (idx n : Nat) : Bool :=
  s.prismClear n (s.commitBand idx) || (s.bandSourceOff n && s.pipeClear n (s.commitBand idx))

/-- A channel group's apply point (R126): between two bands, or with no bands starting. -/
def State.camPoint (s : State) (n : Nat) : Bool :=
  s.bandSourceOff n || s.camIdle n || ((s.cam n).cur.isSome && (s.cam n).inBand.isNone)

/-- The repeat, by its number in the job, that bar b's trigger k lies in; none beyond the job. -/
def State.repeatOf (s : State) (b k : Nat) : Option Nat :=
  let x := s.bar b
  let p := x.prev.getD x.pos
  let line := s.barLine b k
  (s.seek line 4096 (if p.first ≤ line then p else {})).map fun q => q.idx

/-- The generator raises nothing (R104). -/
def State.genIdle (s : State) (g : Nat) : Bool := (s.dev != stRunning && s.dev != stDraining) || !(s.gen g).run

/-- A generator group's apply point (R104): just after the last trigger of a band or of a repeat. -/
def State.genPoint (s : State) (g : Nat) : Bool :=
  let x := s.gen g
  s.genIdle g ||
  (x.held.isNone && x.lastAt.isSome &&
   (if g < 12 then (s.cam g).bandOf (x.next - 1) != (s.cam g).bandOf x.next
    else s.repeatOf (g - 12) (x.next - 1).toNat != s.repeatOf (g - 12) x.next.toNat))

/-- An Umbra group's apply point between stitched lines (R222). -/
def State.umbPoint (s : State) (idx : Nat) : Bool :=
  !s.bandRuns || (match s.umb.last with | some j => decide (s.commitBand idx < s.bandAt (j + 1)) | none => false)

/-- No bar screens lines for the head (R52, R298). -/
def State.headIdle (s : State) (h : Nat) : Bool := s.headBar h == 16 || !s.barRuns (s.headBar h)

/-- The apply point of the group's pending commit has come. A group with apply point COMMIT applies at any moment. -/
def State.applyPoint (s : State) (idx : Nat) : Bool :=
  let n := idx % 16
  match idx / 16 with
  | 0x206 => s.genPoint n
  | 0x207 => s.genPoint (12 + n)
  | 0x220 => s.camPoint n
  | 0x241 => s.prismPoint idx n
  | 0x243 => s.prismPoint idx n
  | 0x244 => s.prismPoint idx n
  | 0x261 => s.prismPoint idx n
  | 0x281 => s.umbPoint idx
  | 0x283 => s.umbPoint idx
  | 0x285 => s.umbPoint idx
  | 0x303 => !s.barRuns n
  | 0x305 => !s.barRuns n
  | 0x321 => !s.barRuns n
  | 0x323 => !s.barRuns n
  | _ => if 0x3440 ≤ idx ∧ idx < 0x34C0 then s.headIdle (idx - 0x3440) else true

/-! ### What an apply brings -/

/-- The connection fields of a channel (R126). -/
def State.camConn (s : State) (n : Nat) : List Nat :=
  [s.rd (K.camLinkCount n), s.rd (K.camMaxSpeed n), s.rd (K.camDiscoveryStart n), s.rd (K.camUplinkRate n), s.rd (K.camStreamId n)]

/-- A LINE group of a bar that screens nothing applies; the words of an update list are counted. -/
def State.applyIdleLine (s : State) (idx : Nat) : State :=
  let b := idx % 16
  let t := s.applyLineGroup idx
  if idx / 16 = 0x323 then t.add 64 (K.gbarsUpdatesApplied b) (t.rd (K.gupdUpdateCount b)) else t

/-- A disabled channel's context is IDLE, unless it is in SHAPE_MISMATCH (R146, R155). -/
def State.ctxIdle (s : State) (n : Nat) : State :=
  if s.rd (K.camLineLength n) = 0 ∧ s.rd (K.ctxsContextState n) ≠ 2 then s.wr (K.ctxsContextState n) 0 else s

/-- The time group applies (R493, R495): a changed source begins with no exchange. -/
def State.syncApply (s t : State) : State :=
  if s.rd K.syncSyncSource = t.rd K.syncSyncSource then t else t.setSync { t.sync with exch := none, run := 0, good := 0 }

/-- Apply a group (R49) and do what its own chapter adds. -/
def State.applyWith (s : State) (idx : Nat) : State :=
  let n := idx % 16
  let t := s.applyGroup idx
  match idx / 16 with
  | 0x140 => s.syncApply t
  | 0x201 => t.encApply n (s.rd (K.encMode n))
  | 0x204 => s.cmpApply t n
  | 0x206 => s.genApply t n
  | 0x207 => s.genApply t (12 + n)
  | 0x208 => t.mirApply n
  | 0x220 => (t.camApply n (s.rd (K.camLineLength n)) (s.camConn n != t.camConn n)).ctxIdle n
  | 0x241 => t.prismApply n
  | 0x243 => t.prismApply n
  | 0x244 => (t.replayRestart n).prismApply n
  | 0x260 => t.showMembers
  | 0x261 => t.showMembers
  | 0x265 => t.winApply n
  | 0x266 => ((s.viewClose n).applyGroup idx).viewReset n
  | 0x280 => s.umbApply idx
  | 0x281 => s.umbApply idx
  | 0x283 => s.umbApply idx
  | 0x284 => s.umbApply idx
  | 0x285 => s.umbApply idx
  | 0x286 => s.umbApply idx
  | 0x300 => if n = 0 then t.wr K.slipJobState 1 else t
  | 0x303 => s.applyIdleLine idx
  | 0x321 => s.applyIdleLine idx
  | 0x323 => s.applyIdleLine idx
  | 0x360 => t.loopApply
  | 0x381 => t.gaApply n
  | 0x441 => t.zeRingApply n
  | 0x501 => s.sklApply t n
  | 0x520 => t.ethApply n (s.rd (K.ethMode n))
  | _ =>
    if 0x3440 ≤ idx ∧ idx < 0x34C0 then State.delayFresh (s.headBar (idx - 0x3440)) t idx
    else if 0x4240 ≤ idx ∧ idx < 0x4280 then s.queueApply t (idx - 0x4240)
    else t

/-- COMMIT_APPLY: the pending group's apply point. -/
def commitApply (idx : Nat) (s : State) : State :=
  if s.commitPending idx ∧ s.applyPoint idx then s.applyWith idx else s

/-- COMMIT_APPLY. -/
def execCommitApply (idx : Nat) (s : State) : Host.Outcome State Fault Refusal := .next (commitApply idx s)

end Sys2Proof.Machine
end

