-- ==== Sys2Proof/Machine/Show.lean ====
section
/-! DEFINITION. Reading the dictionary: what an entry and a DOMAIN show, the self-descriptor, the entries a read resets, and the read
of any entry (R36, R37, R39, R44, R53, R55, R415, R438, R469, R488, R495, R519, R529, R582). -/

namespace Sys2Proof.Machine

/-! ### The self-descriptor (R55) -/

/-- Type codes of R30. -/
def tyCode : Ty → Nat
  | .bool => 1
  | .u w => if w = 8 then 2 else if w = 16 then 3 else if w = 32 then 4 else 5
  | .i w => if w = 8 then 6 else if w = 16 then 7 else if w = 32 then 8 else 9
  | .q _ _ => 10
  | .enum => 12
  | .bits _ _ => 13
  | .time => 14
  | .pos => 15
  | .domain _ => 16

/-- Access codes of R31. -/
def accCode : AccKind → Nat
  | .ro => 1
  | .rw => 2
  | .wo => 3
  | .rws => 4
  | .staged => 5
  | .w1c => 6

/-- Apply codes of R33. -/
def appCode : Apply → Nat
  | .none => 0
  | .immediate => 1
  | .band => 2
  | .line => 3
  | .repeat => 4
  | .commit => 5

/-- Default of a record: 8 bytes as a slot read; for a DOMAIN the maximum size. -/
def descDefault (r : Row) : Nat :=
  match r.ty with
  | .domain n => n
  | t => slotOf true t r.dflt % 2 ^ 64

/-- The entries of one index, ascending. -/
def entriesOf (idx : Nat) : List (Nat × Row) :=
  ((rowsOf (idx / 256)).filter fun r => Nat.ble r.base idx && Nat.blt idx (r.base + r.count)).flatMap fun r =>
    (rowSubs r).map fun i => (idx * 256 + i, r)

/-- Every entry, in ascending index and subindex order. -/
def allEntries : List (Nat × Row) := (List.range 65536).flatMap entriesOf

/-- `n` bytes of the descriptor that the spec does not fix, at an offset. -/
def descFree (off n : Nat) : List Nat := (List.range n).map fun i => Config.descriptorByte (off + i) % 256

/-- An entry record at offset `off`: Unit, Min, Max and NameOffset are the part's own. -/
def descRecord (off : Nat) (e : Nat × Row) : List Nat :=
  let idx := e.1 / 256
  let r := e.2
  let own := ownDflt idx
  let flags := 128 * b2n r.zmo + 64 * b2n (groupStaged idx) + 32 * b2n (bitOf own 5) + 16 * b2n (bitOf own 4) + own % 4
  let q : Nat × Nat := match r.ty with | .q m n => (m, n) | _ => (0, 0)
  let w := match r.ty with | .enum => 8 | .bits w _ => w | _ => 0
  leBytes 2 idx ++ [e.1 % 256, tyCode r.ty, accCode r.acc, flags, appCode r.app] ++ descFree (off + 7) 1 ++ leBytes 8 (descDefault r) ++
  (match r.ty with | .domain _ => List.replicate 16 0 | _ => descFree (off + 16) 16) ++ descFree (off + 32) 4 ++ [q.1, q.2, w, 0]

/-- Records from offset `off` on. -/
def descRecords : Nat → List (Nat × Row) → List Nat
  | _, [] => []
  | off, e :: l => descRecord off e ++ descRecords (off + 40) l

/-- The descriptor: header, records and string table. -/
def State.descriptor (s : State) : List Nat :=
  let n := allEntries.length
  leBytes 4 0x47524E44 ++ leBytes 2 1 ++ leBytes 2 64 ++ leBytes 4 n ++ leBytes 2 40 ++ [0, 0] ++ leBytes 4 (s.rd K.idVendorCode) ++
  leBytes 4 0x4812 ++ leBytes 2 (s.rd K.idSiliconStep) ++ [s.rd K.idGrade, 0] ++ leBytes 4 (64 + 40 * n) ++
  leBytes 4 Config.descriptorStrings ++ List.replicate 28 0 ++ descRecords 64 allEntries ++
  descFree (64 + 40 * n) Config.descriptorStrings

/-! ### DOMAINs that show what other state holds -/

/-- A byte of a live DOMAIN as a read sees it. -/
def State.domShow (s : State) (k off : Nat) : Nat :=
  if k = K.descDescriptor then nth s.descriptor off
  else if k = K.ownOwnTable then s.ownByte off
  else if k = K.witWitnessRing then s.witnessByte off
  else if k = K.calCalTable then nth (calBytes (off / 32) (tget {} s.calRecs (off / 32))) (off % 32)
  else if k = K.glzNozzleTable then nth (leBytes 8 (s.glazeWord (off / 8))) (off % 8)
  else if k = K.fabEventCatalogue then nth (catalogue 1 eventRows) off
  else if k = K.fabTaskCatalogue then nth (catalogue 2 taskRows) off
  else if k = K.sklRouteTable then
    match s.route (off / 2) with
    | some r => if off % 2 = 0 then r.port else r.hops % 256
    | none => if off % 2 = 0 then 3 else 0
  else s.domByte k off

/-- The present length of a live DOMAIN as a read sees it. -/
def State.domLenShow (s : State) (k : Nat) : Nat := if k = K.descDescriptor then s.descriptor.length else s.domLen k

/-! ### Entries that show what other state holds -/

/-- The path reads STAGED entries from the Shadow bank (R31, R53). -/
def State.stagedView (s : State) (p : Nat) : Bool := s.rd (K.pathReadView p) == 0

/-- Nanoseconds since the newest message of the remote position (R99). -/
def State.remoteAge (s : State) : Nat := if s.wheel.got then min (2 ^ 32 - 1) ((s.now - s.wheel.remAt) * 5 / 4) else 0

/-- Dead nozzles of a bar (R267). -/
def State.deadNozzles (s : State) (b : Nat) : Nat := ((List.range (s.barNozzles b)).filter (s.nozzleDead b)).length

/-- TxState of a Skobaty port (R451, R452): a sleep and a wake pass through SLEEPING and WAKING. -/
def State.txState (s : State) (p : Nat) : Nat :=
  let busy := Nat.blt s.now (s.skPort p).txFrom
  match s.rd (K.spsTxState p) with
  | 2 => if busy then 1 else 2
  | 3 => if busy then 3 else 0
  | v => v

/-- The live value an entry shows. -/
def State.shown (s : State) (k : Nat) : Nat :=
  let n := k / 256 % 16
  let sub := k % 256
  if k = K.idEntryCount then allEntries.length % 65536
  else if k = K.descDescriptorLength then s.descriptor.length
  else if k = K.descDescriptorCrc then crc32c s.descriptor
  else if k = K.timeTimeCounter then s.now % 2 ^ 64
  else if k = K.timeDeviceTime then s.time
  else if k = K.whlWebPosition then ofI 64 s.webPos
  else if k = K.whlWebSpeed then ofI 64 s.webV
  else if k = K.remRemoteAge then s.remoteAge
  else if k = K.glzDeadCount then (s.barsOn.map s.deadNozzles).sum
  else
    match k / 4096 with
    | 0x202 => if n < 4 then ((s.encTrack n false).encShow n).rd k else s.rd k
    | 0x262 => if sub = 1 then s.memberState n else s.rd k
    | 0x325 => if sub = 1 then s.deadNozzles n else s.rd k
    | 0x342 => if sub = 0x30 then s.profilePeriod n else s.rd k
    | 0x34D => if sub = 1 then s.minLinePeriod n else s.rd k
    | 0x483 => if sub = 4 then b2n (s.irqSignalled n) else s.rd k
    | 0x501 => if sub = 6 ∧ 8 ≤ n then s.txState (n - 8) else s.rd k
    | _ => s.rd k

/-- The raw value a read of an entry on a path sees: a DOMAIN shows its length (R53). -/
def State.valueOf (s : State) (p k : Nat) : Nat :=
  match rowOf k with
  | none => 0
  | some r =>
    match r.ty with
    | .domain _ => if r.acc = .staged ∧ s.stagedView p then s.shDomLen k else s.domLenShow k
    | _ => if r.acc = .staged ∧ s.stagedView p then s.sh k else s.shown k

/-- A byte of a DOMAIN that a path reads. -/
def State.domView (s : State) (p k off : Nat) : Nat :=
  match rowOf k with
  | some r => if r.acc = .staged ∧ s.stagedView p then s.shDomByte k off else s.domShow k off
  | none => 0

/-! ### Entries that a read resets (R582) -/

/-- The fresh value of an entry a read resets: the present level, or 0 or 0xFFFFFFFF for an interval; none for any other entry. -/
def State.freshValue (s : State) (k : Nat) : Option Nat :=
  let idx := k / 256
  let sub := k % 256
  if 0x2220 ≤ idx ∧ idx < 0x222C ∧ sub = 0x13 then some (s.rd (K.camstFifoFill (idx - 0x2220)))
  else if 0x2400 ≤ idx ∧ idx < 0x2403 ∧ sub = 2 then some (s.rd (K.pipeLoadPercent (idx - 0x2400)))
  else if 0x2400 ≤ idx ∧ idx < 0x2403 ∧ sub = 5 then some 0
  else if k = K.umbsOpenPeak then some (s.rd K.umbsOpenComponents)
  else if 0x3060 ≤ idx ∧ idx < 0x3070 ∧ sub = 6 then some 0xFFFFFFFF
  else if 0x3250 ≤ idx ∧ idx < 0x3260 ∧ sub = 3 then some 0
  else if k = K.poolFreeLow then some (s.rd K.poolSherdsFree)
  else if 0x4040 ≤ idx ∧ idx < 0x404C ∧ sub = 3 then some 0
  else if 0x4280 ≤ idx ∧ idx < 0x42C0 ∧ sub = 2 then some (s.rd (K.qsFill (idx - 0x4280)))
  else none

/-- What a read of an entry changes: an extreme starts afresh; a TIME entry in a flat window leaves its fraction (R37). -/
def State.readEffect (s : State) (a : Acc) (k v : Nat) : State :=
  let s := match s.freshValue k with | some x => s.wr k x | none => s
  match rowOf k with
  | some r => if r.ty = .time ∧ flat a then s.wr (K.pathTimeFraction a.path) (v % 65536) else s
  | none => s

/-- The 64-bit slot value of what a path reads. -/
def State.slotValue (s : State) (a : Acc) (k : Nat) : Nat :=
  match rowOf k with
  | some r => slotOf (flat a) r.ty (s.valueOf a.path k)
  | none => 0

/-- A read of an entry that has no act of its own. -/
def plainRead (a : Acc) (k : Nat) (s : State) : State :=
  let st := s.readStatus a k
  if st = 0 then (s.readEffect a k (s.valueOf a.path k)).readDone a k 0 (s.slotValue a k) else s.readDone a k st 0

/-- READ_CLEAR_EXTREME (R582). -/
def execReadClearExtreme (a : Acc) (k : Nat) (s : State) : Host.Outcome State Fault Refusal := .next (plainRead a k s)

/-- TIME_READ (R37). -/
def execTimeRead (a : Acc) (k : Nat) (s : State) : Host.Outcome State Fault Refusal := .next (plainRead a k s)

/-- CHALLENGE (R45): a read gives a new value and voids the one before. -/
def challengeRead (a : Acc) (s : State) : State :=
  match s.readStatus a K.chalChallenge with
  | 0 =>
    match s.fresh with
    | (v, s) =>
      let v := v % 2 ^ 64
      ({ s with chal := { s.chal with value := some v } }).readDone a K.chalChallenge 0 v
  | st => s.readDone a K.chalChallenge st 0

/-- CHALLENGE. -/
def execChallenge (a : Acc) (s : State) : Host.Outcome State Fault Refusal := .next (challengeRead a s)

/-- A read of any entry, on any path. -/
def readEntry (a : Acc) (k : Nat) (s : State) : State :=
  if k = K.chalChallenge then challengeRead a s
  else if k = K.msyncMaskSync then maskSyncRead a s
  else if 0x4830 ≤ k / 256 ∧ k / 256 < 0x4835 ∧ k % 256 = 1 then claimRead a (k / 256 - 0x4830) s
  else plainRead a k s

end Sys2Proof.Machine
end

