-- ==== Sys2Proof/Machine/Dict.lean ====
section
/-! DEFINITION. Writing the dictionary (R31 to R33, R39, R46): what a write to each entry does, whatever path and form it comes in. -/

namespace Sys2Proof.Machine

/-! ### Entries that hold what is written -/

/-- Bits of a W1C entry that stand while their condition holds, or that a write does not clear (R298, R384, R533). -/
def State.stuckBits (s : State) (k : Nat) : Nat :=
  let idx := k / 256
  if 0x3440 ≤ idx ∧ idx < 0x34C0 then s.rd k &&& 1
  else if 0x4020 ≤ idx ∧ idx < 0x4024 then
    2 * b2n (s.dramCh (idx - 0x4020)).double + 4 * b2n (s.dramCh (idx - 0x4020)).tempFail
  else if k = K.calCalStatus then 2 * b2n s.ddrDrifted
  else 0

/-- What a write leaves in the entry, by access kind (R31). A WO entry keeps nothing; the proof words are held until the next ones. -/
def State.store (s : State) (k v : Nat) : State :=
  match rowOf k with
  | none => s
  | some r =>
    match r.acc with
    | .rw => s.wr k v
    | .rws => s.wr k v
    | .staged => s.stage k v
    | .w1c => s.wr k (setBits (clearBits (s.rd k) v) (s.stuckBits k))
    | .wo => if K.chalProof 0 ≤ k ∧ k ≤ K.chalProof 3 then s.wr k v else s
    | .ro => s

/-- The refusals that an entry's own rules add to R39 (R63 "equal to the present", R93). -/
def State.storeOwn (s : State) (k v : Nat) : Nat :=
  if (k = K.whlWebMaster ∧ v = s.rd K.whlRedundantChannel) ∨ (k = K.whlRedundantChannel ∧ v = s.rd K.whlWebMaster) then 8
  else if (k = K.kilnSpeedLimitPin ∨ k = K.ppsPpsPin ∨ k = K.pwrWakePin) ∧ ¬ s.pinFree k v then 8
  else 0

/-- What follows from a write of an entry: `old` is the value before it. -/
def State.storeEffect (s : State) (k old : Nat) : State :=
  if k = K.whlWebMaster then s.selectMaster (s.rd K.whlWebMaster)
  else if k = K.whlRedundantChannel then s.crossFix
  else if k = K.timeSoftLocked then s.softLock
  else if 0x1430 ≤ k / 256 ∧ k / 256 < 0x1434 ∧ (k % 256 = 1 ∨ k % 256 = 2) then alarmLate s (k / 256 - 0x1430)
  else if k = K.ppsPpsPin then s.ppsPin old
  else if k = K.ppsPpsLevel then s.ppsDrive s.sync.pulse.isSome
  else if k = K.wdogWatchdogPeriod then { s with wdog := { since := s.now } }
  else if k = K.pwrWakePin then (if s.rd K.pwrWakePin < 32 then s.release (ballGpio (s.rd K.pwrWakePin)) else s).wakeOnLevel
  else if k = K.pwrWakeSources ∨ k = K.pwrWakeLevel ∨ k = K.pwrWakeSpeed then s.wakeOnLevel
  else if k = K.kilnSpeedLimitPin then (if old < 32 then s.release (ballGpio old) else s).speedRequest
  else if k = K.kilnSpeedLimitLevel then s.speedRequest
  else if 0x481000 ≤ k ∧ k < 0x482000 then s.hostSignal
  else s

/-- A write to an entry that holds what is written. -/
def storeWrite (a : Acc) (k : Nat) (s : State) : State :=
  s.act a k (s.storeOwn k (accVal a k)) fun t => (t.store k (accVal a k)).storeEffect k (s.rd k)

/-! ### Writes that ask for head acknowledgements -/

/-- ARM, SLEEP, SCAN_GO and SCAN_ABORT through a plain write: which heads acknowledge is a free value. -/
def withAcks (f : Nat → State → State) (s : State) : State :=
  match s.fresh with
  | (acks, s) => f acks s

/-- StateRequest (R24): the code written names the request; a reserved code is out of range. -/
def stateRequestWrite (a : Acc) (s : State) : State :=
  match accVal a K.devStateRequest with
  | 1 => withAcks (armWrite a) s
  | 2 => runWrite a s
  | 3 => stopWrite a s
  | 4 => disarmWrite a s
  | 5 => withAcks (sleepWrite a) s
  | 6 => wakeWrite a s
  | _ => s.act a K.devStateRequest 8 id

/-- ScanGo (R292): 1 starts the scan. -/
def scanGoEntry (a : Acc) (s : State) : State := withAcks (scanGoWrite a) s

/-- ScanAbort (R294). -/
def scanAbortEntry (a : Acc) (s : State) : State := withAcks (scanAbortWrite a) s

/-- ApproveCommand (R341): the code written names the command. -/
def approveEntry (a : Acc) (s : State) : State :=
  match accVal a K.loopsApproveCommand with
  | 1 => approveSet a s
  | 2 => unlockSet a s
  | 3 => holdSet a s
  | 4 => resumeSet a s
  | 5 => restoreSet a s
  | _ => s.act a K.loopsApproveCommand 8 id

/-! ### Ownership (R41 to R44) -/

/-- Fields of an OwnCommand write (R43). -/
def ownOp (v : Nat) : Nat := field v 31 28
def ownNew (v : Nat) : Nat := field v 27 26
def ownTarget (v : Nat) : Nat := v % 65536

/-- The status of an ownership command once R39 allows the write. -/
def State.ownStatus (s : State) (a : Acc) (v : Nat) : Nat :=
  let t := ownTarget v
  let class_ : Bool := s.owner t == pathClass a.path
  if ownOp v < 1 ∨ 4 < ownOp v then 8
  else if ¬ indexPresent t then 1
  else if s.locked t then 6
  else
    match ownOp v with
    | 1 => if class_ || s.secureAcc a then 0 else 5
    | 2 => if class_ then 0 else 5
    | _ => if ¬ s.secureAcc a ∨ bitOf (s.ownByte t) 4 then 4 else 0

/-- Set the ownership byte of an index. -/
def State.setOwn (s : State) (t b : Nat) : State := { s with own := tput s.own t b }

/-- What an accepted ownership command does. -/
def State.ownApply (s : State) (v : Nat) : State :=
  let t := ownTarget v
  let b := s.ownByte t
  match ownOp v with
  | 1 => s.setOwn t (b / 4 * 4 + ownNew v)
  | 2 => s.setOwn t (setBits b 0x40)
  | 3 => s.setOwn t (setBits b 0x20)
  | _ => s.setOwn t (clearBits b 0x20)

/-- A write of OwnCommand (R43). -/
def ownWrite (a : Acc) (s : State) : State :=
  s.act a K.ownOwnCommand (s.ownStatus a (accVal a K.ownOwnCommand)) fun t => t.ownApply (accVal a K.ownOwnCommand)

/-- An OwnCommand value. -/
def ownValue (op new target : Nat) : Nat := op * 2 ^ 28 + new % 4 * 2 ^ 26 + target % 65536

/-- GIVE. -/
def execGive (a : Acc) (target newOwner : Nat) (s : State) : Host.Outcome State Fault Refusal :=
  .next (ownWrite { a with value := ownValue 1 newOwner target } s)

/-- LOCK. -/
def execLock (a : Acc) (target : Nat) (s : State) : Host.Outcome State Fault Refusal :=
  .next (ownWrite { a with value := ownValue 2 0 target } s)

/-- SET_SECURE. -/
def execSetSecure (a : Acc) (target : Nat) (s : State) : Host.Outcome State Fault Refusal :=
  .next (ownWrite { a with value := ownValue 3 0 target } s)

/-- SET_OPEN. -/
def execSetOpen (a : Acc) (target : Nat) (s : State) : Host.Outcome State Fault Refusal :=
  .next (ownWrite { a with value := ownValue 4 0 target } s)

/-! ### The HOST challenge (R45) -/

/-- The line key, once it is held. -/
def State.lineKey (s : State) : Option (List Nat) := if s.on K.lineLineKeySet then some (s.domBytes K.lineLineKey 0 32) else none

/-- The proof the host has written: Proof0 to Proof3, little-endian. -/
def State.proof (s : State) : List Nat := (List.range 4).flatMap fun i => leBytes 8 (s.rd (K.chalProof i))

/-- The proof is the HMAC of the challenge in force. -/
def State.proofOk (s : State) : Bool :=
  match s.lineKey, s.chal.value with
  | some key, some c => s.proof == hmac key (leBytes 8 c ++ [0])
  | _, _ => false

/-- ProofGo is refused until a second after the third failure. -/
def State.proofLocked (s : State) : Bool := match s.chal.lockedUntil with | some t => Nat.blt s.now t | none => false

/-- One more failed proof; the third in a row starts the lockout. -/
def State.proofFail (s : State) : State :=
  let n := s.chal.failed + 1
  if n = 3 then { s with chal := { s.chal with failed := 0, lockedUntil := some (s.now + ms 1000) } }
  else { s with chal := { s.chal with failed := n } }

/-- PROOF_GO. -/
def proofGoWrite (a : Acc) (s : State) : State :=
  let k := K.chalProofGo
  match s.writeStatus a k with
  | 0 =>
    if accVal a k ≠ 1 then s.done a k 0
    else if s.proofLocked then s.done a k 14
    else if s.proofOk then (({ s with chal := { s.chal with failed := 0 } }).wr (K.pathSecure 0) 1).done a k 0
    else s.proofFail.done a k 14
  | st => s.done a k st

/-- PROOF_GO. -/
def execProofGo (a : Acc) (s : State) : Host.Outcome State Fault Refusal := .next (proofGoWrite a s)

/-- PROOF_LOCKOUT_END. -/
def proofLockoutEnd (s : State) : State :=
  match s.chal.lockedUntil with
  | none => s
  | some t => { s.at t with chal := { s.chal with lockedUntil := none } }

/-- PROOF_LOCKOUT_END. -/
def execProofLockoutEnd (s : State) : Host.Outcome State Fault Refusal := .next (proofLockoutEnd s)

/-- DROP (R63): 1 ends the path's secure status. -/
def dropWrite (a : Acc) (p : Nat) (s : State) : State :=
  s.act a (K.pathDrop p) 0 fun t => if accVal a (K.pathDrop p) = 1 then t.wr (K.pathSecure p) 0 else t

/-- DROP. -/
def execDrop (a : Acc) (p : Nat) (s : State) : Host.Outcome State Fault Refusal := inst (Nat.blt p 7) (dropWrite a p s)

end Sys2Proof.Machine
end

