-- ==== Sys2Proof/Machine/Access.lean ====
section
/-! DEFINITION. A write of any entry on any path: entries whose write is a command of its own go to that command, every other to the
store of `Dict`. -/

namespace Sys2Proof.Machine

/-- Writes of entries with one index and no instance. -/
def fixedAct (k : Nat) : Option (Acc → State → State) :=
  if k = K.devStateRequest then some stateRequestWrite
  else if k = K.ownOwnCommand then some ownWrite
  else if k = K.chalProofGo then some proofGoWrite
  else if k = K.timeRateAdj then some rateAdjWrite
  else if k = K.timeTimeSet then some timeSetWrite
  else if k = K.timeTimeStep then some timeStepWrite
  else if k = K.timeResync then some resyncWrite
  else if k = K.fatalFatalRequest then some fatalRequestWrite
  else if k = K.wdogWatchdogKick then some watchdogKickWrite
  else if k = K.witFreeze then some freezeWrite
  else if k = K.witRelease then some releaseWrite
  else if k = K.witMark then some markWrite
  else if k = K.witReadSequence then some readSequenceWrite
  else if k = K.calCalRun then some calRunWrite
  else if k = K.bhostBootGo then some bootGoWrite
  else if k = K.bootBootComplete then some bootCompleteWrite
  else if k = K.fuseAdvanceSecurityVersion then some advanceSecurityVersionWrite
  else if k = K.fuseRevokeKey then some revokeKeyWrite
  else if k = K.coreCoreRelease then some coreReleaseWrite
  else if k = K.rstResetRequest then some resetRequestWrite
  else if k = K.pcieBar2Base then some bar2BaseWrite
  else if k = K.glzMaskClear then some maskClearWrite
  else if k = K.scanScanGo then some scanGoEntry
  else if k = K.scanScanAbort then some scanAbortEntry
  else if k = K.gauSyncNow then some syncNowWrite
  else if k = K.loopsApproveCommand then some approveEntry
  else if k = K.quesPortQueueFlush then some portQueueFlushWrite
  else none

/-- Writes of an instance's entry: the commands of an index range by subindex. -/
def unitAct (k : Nat) : Option (Acc → State → State) :=
  let idx := k / 256
  let n := idx % 16
  match idx / 16, k % 256 with
  | 0x111, 0x07 => some fun a => dropWrite a n
  | 0x202, 0x0D => some fun a => linearPresetWrite a n
  | 0x202, 0x0E => some fun a => rotaryPresetWrite a n
  | 0x202, 0x0F => some fun a => wheelReadmitWrite a n
  | 0x203, 0x0A => some fun a => popWrite a n
  | 0x203, 0x0C => some fun a => probeFlushWrite a n
  | 0x222, 0x16 => some fun a => camReadmitWrite a n
  | 0x222, 0x17 => some fun a => rediscoverWrite a n
  | 0x224, 0x06 => some fun a => tunnelGoWrite a n
  | 0x382, 0x09 => some fun a => swapTargetWrite a n
  | 0x382, 0x0A => some fun a => calGoWrite a n
  | 0x164, 0x06 => some fun a => gaugeReadmitWrite a n
  | 0x442, 0x01 => some fun a => jobTailWrite a n
  | 0x442, 0x04 => some fun a => zeAbortWrite a n
  | 0x483, 0x02 => some fun a => completeWrite a n
  | 0x501, 0x08 => some fun a => retrainWrite a (n - 8)
  | 0x501, 0x09 => some fun a => laneReadmitWrite a (n - 8)
  | 0x521, 0x0B => some fun a => ethReadmitWrite a n
  | _, _ => none

/-- Writes of an entry of a range of more than sixteen instances. -/
def rangeAct (k : Nat) : Option (Acc → State → State) :=
  let idx := k / 256
  let sub := k % 256
  if 0x3400 ≤ idx ∧ idx < 0x3420 then
    if sub = 0x10 then some fun a => portPowerWrite a (idx - 0x3400)
    else if sub = 0x16 then some fun a => portReadmitWrite a (idx - 0x3400)
    else none
  else if 0x3440 ≤ idx ∧ idx < 0x34C0 then
    if sub = 0x02 then some fun a => headReadmitWrite a (idx - 0x3440) else none
  else if 0x4280 ≤ idx ∧ idx < 0x42C0 then
    if sub = 0x06 then some fun a => queueFlushWrite a (idx - 0x4280) else none
  else if 0x42E0 ≤ idx ∧ idx < 0x4300 then
    if sub = 0x02 then some fun a => dmaGoWrite a (idx - 0x42E0)
    else if sub = 0x03 then some fun a => doorbellWrite a (idx - 0x42E0)
    else if sub = 0x04 then some fun a => dmaAbortWrite a (idx - 0x42E0)
    else none
  else if 0x464000 ≤ k ∧ k < 0x465000 then some fun a => taskRouteWrite a (k - 0x464000)
  else if 0x466000 ≤ k ∧ k < 0x467000 then some fun a => taskCoincideWrite a (k - 0x466000)
  else if K.maskMaskSet 0 ≤ k ∧ k < K.maskMaskSet 0 + 8 then some fun a => maskSetWrite a (k - K.maskMaskSet 0)
  else if K.maskMaskClear 0 ≤ k ∧ k < K.maskMaskClear 0 + 8 then some fun a => maskClearWordWrite a (k - K.maskMaskClear 0)
  else if K.pendPendingSet 0 ≤ k ∧ k < K.pendPendingSet 0 + 8 then some fun a => pendingSetWrite a (k - K.pendPendingSet 0)
  else if K.pendPendingClear 0 ≤ k ∧ k < K.pendPendingClear 0 + 8 then some fun a => pendingClearWrite a (k - K.pendPendingClear 0)
  else none

/-- The Commit entry of a STAGED group: 1 COMMIT, 2 DISCARD. -/
def groupWrite (idx : Nat) (a : Acc) (s : State) : State :=
  match accVal a (K.commit idx) with
  | 1 => commitWrite a idx s
  | 2 => discardWrite a idx s
  | _ => s.act a (K.commit idx) 8 id

/-- The command a write of an entry is, for the entries that have one here; the rest are stored. DomGo and DictGo, which carry out
accesses of their own, are set beside this one. -/
def actOf (k : Nat) : Option (Acc → State → State) :=
  if k % 256 = 0xFF ∧ groupStaged (k / 256) then some (groupWrite (k / 256))
  else (fixedAct k).orElse fun _ => (unitAct k).orElse fun _ => rangeAct k

/-! ### Writing DOMAINs (R53, R54) -/

/-- A write into a DOMAIN that its own chapter refuses (R320). -/
def State.domOwn (s : State) (k : Nat) : Nat :=
  let idx := k / 256
  if 0x3830 ≤ idx ∧ idx < 0x3840 ∧ (k % 256 = 1 ∨ k % 256 = 2) ∧ s.bankBusy (idx - 0x3830) (k % 256 - 1) then 13 else 0

/-- The status of a write into a DOMAIN: checks 1 to 6 of R39, that it is one, the pending commit, and its chapter's refusals. -/
def State.domWriteStatus (s : State) (a : Acc) (k : Nat) : Nat :=
  match s.writeAllowed a k with
  | 0 =>
    match rowOf k with
    | none => 1
    | some r =>
      match r.ty with
      | .domain _ => if s.heldByCommit r k then 9 else s.domOwn k
      | _ => 7
  | st => st

/-- One byte of NozzleTable. A write sets DEAD_SW and the knots; DEAD_CRAZE and DEAD_SCAN are the detectors' own (R241, R246). -/
def State.glazePut (s : State) (off b : Nat) : State :=
  let w := leBytes 8 (s.glazeWord (off / 8))
  let v := if off % 8 = 7 then (b &&& 0x8F) ||| (nth w 7 &&& 0x60) else b
  s.setGlaze (off / 8) (ofLe (w.take (off % 8) ++ [v] ++ w.drop (off % 8 + 1)))

/-- Bytes of NozzleTable from an offset. -/
def glazePuts : Nat → List Nat → State → State
  | _, [], s => s
  | off, b :: l, s => glazePuts (off + 1) l (s.glazePut off b)

/-- Write bytes into a DOMAIN: into the Shadow bank of a STAGED one. -/
def State.domPut (s : State) (k off : Nat) (l : List Nat) : State :=
  match rowOf k with
  | none => s
  | some r =>
    if r.acc = .staged then s.shDomWrite k off l
    else if k = K.glzNozzleTable then glazePuts off l s
    else if k = K.lineLineKey then (s.domWrite k off l).wr K.lineLineKeySet 1
    else s.domWrite k off l

/-- The maximum size of a DOMAIN. -/
def domMax (k : Nat) : Nat :=
  match rowOf k with
  | some r => (match r.ty with | .domain n => n | _ => 0)
  | none => 0

/-! ### Domain transfers (R54) -/

/-- The present length of the DOMAIN as a path sees it. -/
def State.domEnd (s : State) (p k : Nat) : Nat := s.valueOf p k

/-- A transfer's target may be accessed: check 2 of R54, then checks 2 to 6 and 10 of R39 and the chapter's refusals. -/
def State.domTarget (s : State) (a : Acc) (k : Nat) (write : Bool) : Nat :=
  match rowOf k with
  | none => 1
  | some r =>
    match r.ty with
    | .domain _ =>
      if write then s.domWriteStatus a k
      else if ¬ s.readServed a.path (k / 256) then 3
      else if r.acc = .wo then 2
      else 0
    | _ => 7

/-- The status of a DomGo write once R39 has passed: the checks of R54 in their order. -/
def State.domGoStatus (s : State) (a : Acc) (p : Nat) : Nat :=
  let k := s.rd (K.pathDomEntry p)
  let off := s.rd (K.pathDomOffset p)
  let n := s.rd (K.pathDomLength p)
  let write : Bool := s.rd (K.pathDomDirection p) == 1
  let stop := off + n
  let t := s.domTarget a k write
  if s.rd (K.pathDomStatus p) = 1 then 13
  else if t ≠ 0 then t
  else if n = 0 then 10
  else if off % 64 ≠ 0 ∨ s.rd (K.pathDomAddress p) % 64 ≠ 0 then 12
  else if n % 64 ≠ 0 ∧ stop ≠ s.domEnd p k ∧ ¬ (write ∧ stop = domMax k) then 12
  else if domMax k < stop ∨ (¬ write ∧ s.domEnd p k < stop) then 12
  else 0

/-- The transfer that the path's entries describe. -/
def State.domXfer (s : State) (p : Nat) : Xfer :=
  { entry := s.rd (K.pathDomEntry p), offset := s.rd (K.pathDomOffset p), length := s.rd (K.pathDomLength p),
    addr := s.rd (K.pathDomAddress p), write := s.rd (K.pathDomDirection p) == 1 }

/-- DOM_GO. -/
def domGoWrite (a : Acc) (p : Nat) (s : State) : State :=
  let k := K.pathDomGo p
  s.act a k (if accVal a k = 1 then s.domGoStatus a p else 0) fun t =>
    if accVal a k = 1 then ({ t with xfers := tput t.xfers p (s.domXfer p) }).wr (K.pathDomStatus p) 1 else t

/-- DOM_GO. -/
def execDomGo (a : Acc) (p : Nat) (s : State) : Host.Outcome State Fault Refusal := inst (Nat.blt p 5) (domGoWrite a p s)

/-- Bytes of the transfer that lie in mapped memory before the first 64-byte beat that fails (R356): a core path writes its domain from
DRAM or an SRAM window, and reads it into DRAM. -/
def State.beatsOk (s : State) (x : Xfer) : Nat → Nat → Nat
  | 0, done => done
  | n + 1, done =>
    let len := min 64 (x.length - done)
    let a := x.addr + done
    if len = 0 then done
    else if s.inDram a len || (x.write && inSram a len) then s.beatsOk x n (done + len)
    else done

/-- Move the first `n` bytes of a core path's transfer. -/
def State.xferCore (s : State) (p : Nat) (x : Xfer) (n : Nat) : State :=
  if x.write then
    (s.domPut x.entry x.offset ((List.range n).map fun i => s.memByte (x.addr + i))).add 64 (K.portBytesRead 9) n
  else
    ({ s with mem := memPuts s.mem x.addr ((List.range n).map fun i => s.domView p x.entry (x.offset + i)) }).add 64
      (K.portBytesWritten 9) n

/-- Move the first `n` bytes of the HOST path's transfer: `host` are the bytes host memory holds. -/
def State.xferHost (s : State) (x : Xfer) (host : List Nat) (n : Nat) : State :=
  if x.write then s.domPut x.entry x.offset (padTo n (host.take n))
  else { s with hostOut := s.hostOut ++ [{ addr := x.addr, bytes := (List.range n).map fun i => s.domView 0 x.entry (x.offset + i) }] }

/-- The transfer ends with a DomStatus. -/
def State.xferEnd (s : State) (p status : Nat) : State :=
  (({ s with xfers := terase s.xfers p }).wr (K.pathDomStatus p) status).raise Ev.dictDomainDone

/-- DOMAIN_TRANSFER_DONE: `host` is what a HOST write transfer reads from host memory, `failAt` the first 64-byte beat that meets an
error completion, if any. -/
def domainTransferDone (p : Nat) (host : List Nat) (failAt : Option Nat) (s : State) : State :=
  match tfind s.xfers p with
  | none => s
  | some x =>
    if p = 0 then
      let n := if s.rd K.pcieBusMaster ≠ 1 then 0 else match failAt with | some b => min x.length (64 * b) | none => x.length
      let s := if n = 0 then s else s.xferHost x host n
      if n = x.length then s.xferEnd 0 2 else s.cplError.xferEnd 0 3
    else
      let n := s.beatsOk x (ceilDiv x.length 64) 0
      let s := if n = 0 then s else s.xferCore p x n
      if n = x.length then s.xferEnd p 2 else (s.mapError (x.addr + n)).xferEnd p 3

/-- DOMAIN_TRANSFER_DONE. -/
def execDomainTransferDone (p : Nat) (host : List Nat) (failAt : Option Nat) (s : State) : Host.Outcome State Fault Refusal :=
  .next (domainTransferDone p host failAt s)

/-! ### The core mailbox (R462, R474) -/

/-- Data of a record, padded to a multiple of 8 bytes (R57). -/
def pad8 (n : Nat) : Nat := (n + 7) / 8 * 8

/-- The records of a byte string, by their heads' DataLength: none when the last does not end with the string. -/
def countRecords : Nat → List Nat → Option Nat
  | _, [] => some 0
  | 0, _ => none
  | n + 1, l =>
    let len := 8 + pad8 (leAt l 4 2)
    if l.length < len then none else (countRecords n (l.drop len)).map (· + 1)

/-- A mailbox request ends (R462). -/
def State.mailboxEnd (s : State) (status : Nat) : State :=
  ((s.wr K.mbxDictStatus status).raise Ev.lnkDictDone).arrive 135

/-- Send DictRequest to DictTarget. -/
def State.mailboxSend (s : State) : State :=
  let l := s.domBytes K.mbxDictRequest 0 (s.domLen K.mbxDictRequest)
  let id := s.skl.nextId
  let head := leBytes 4 id ++ [b2n (s.on K.mbxDictSecure), (countRecords 64 l).getD 0, 0, 0]
  let s := (s.wr K.mbxDictStatus 1).setSkl { s.skl with nextId := (id + 1) % 2 ^ 32 }
  match s.unicast 4 0 (s.rd K.mbxDictTarget) 0 (head ++ l) with
  | (true, s) => s.setSkl { s.skl with reqs := s.skl.reqs ++ [{ id := id, since := s.now }] }
  | (false, s) => s.mailboxEnd 3

/-- DICT_GO (R474): refused with ERR_BUSY while a request is under way. -/
def dictGoWrite (a : Acc) (s : State) : State :=
  let k := K.mbxDictGo
  s.act a k (if s.rd K.mbxDictStatus = 1 then 13 else 0) fun t => if accVal a k = 1 then t.mailboxSend else t

/-- DICT_GO. -/
def execDictGo (a : Acc) (s : State) : Host.Outcome State Fault Refusal := .next (dictGoWrite a s)

/-! ### Writes -/

/-- A write of any entry, on any path. -/
def entryWrite (a : Acc) (k : Nat) (s : State) : State :=
  if k = K.mbxDictGo then dictGoWrite a s
  else if 0x1110 ≤ k / 256 ∧ k / 256 < 0x1115 ∧ k % 256 = 0x0D then domGoWrite a (k / 256 - 0x1110) s
  else
    match actOf k with
    | some f => f a s
    | none => storeWrite a k s

/-- DICT_WRITE. -/
def execDictWrite (a : Acc) (k : Nat) (s : State) : Host.Outcome State Fault Refusal := .next (entryWrite a k s)

end Sys2Proof.Machine
end

