-- ==== Sys2Proof/Machine/Udp.lean ====
section
/-! DEFINITION. Records, UDP sessions and DICT messages (R56 to R61, R462): the paths NET and LINK of the dictionary. -/

namespace Sys2Proof.Machine

/-! ### Records (R57) -/

/-- A record of a request. -/
structure DRec where
  op : Nat
  sub : Nat
  idx : Nat
  data : List Nat
deriving DecidableEq, Repr

/-- The entry a record names. -/
def DRec.key (r : DRec) : Nat := r.idx * 256 + r.sub

/-- The `n` records of a body; none where they do not fill it exactly. -/
def parseRecords : Nat → List Nat → Option (List DRec)
  | 0, [] => some []
  | 0, _ => none
  | n + 1, l =>
    let len := leAt l 4 2
    if l.length < 8 + pad8 len then none
    else (parseRecords n (l.drop (8 + pad8 len))).map fun rs =>
      { op := nth l 0, sub := nth l 1, idx := leAt l 2 2, data := (l.drop 8).take len } :: rs

/-- The records of a message's body: Count of 1 to 64 of them. -/
def bodyRecords (count : Nat) (l : List Nat) : Option (List DRec) :=
  if 1 ≤ count ∧ count ≤ 64 then parseRecords count l else none

/-- Who sends the records: path 5 NET or 6 LINK, whether the path is secure, and whether the session may read only (R58). -/
structure RecPath where
  path : Nat
  secure : Bool
  readOnly : Bool := false
deriving DecidableEq, Repr

/-- The access a record makes with a value of `size` bytes. -/
def RecPath.acc (p : RecPath) (size value : Nat) : Acc := { path := p.path, secure := p.secure, size := size, offset := 0, value := value }

/-- The entry is a DOMAIN. -/
def isDomain (k : Nat) : Bool :=
  match rowOf k with
  | some r => (match r.ty with | .domain _ => true | _ => false)
  | none => false

/-- The status of a read of a record: checks 1 to 3, then that the op suits the entry. -/
def State.recReadStatus (s : State) (a : Acc) (k : Nat) (domain : Bool) : Nat :=
  match s.readStatus a k with
  | 0 => if isDomain k = domain then 0 else 7
  | st => st

/-- READ. -/
def recRead (p : RecPath) (r : DRec) (s : State) : Nat × List Nat × State :=
  let k := r.key
  let a := p.acc 0 0
  match s.recReadStatus a k false with
  | 0 =>
    let s := readEntry a k s
    let st := s.rd (K.pathLastStatus p.path)
    (st, if st = 0 then leBytes (match rowOf k with | some r => tyBits r.ty / 8 | none => 0) (tget 0 s.readData p.path) else [], s)
  | st => (st, [], s.readDone a k st 0)

/-- WRITE. -/
def recWrite (p : RecPath) (r : DRec) (s : State) : Nat × List Nat × State :=
  let a := p.acc r.data.length (ofLe r.data)
  let s := if p.readOnly then s.done a r.key 4 else entryWrite a r.key s
  (s.rd (K.pathLastStatus p.path), [], s)

/-- DOMAIN_READ: up to Count bytes from an offset, no more than `room` and 1,424. -/
def recDomRead (p : RecPath) (room : Nat) (r : DRec) (s : State) : Nat × List Nat × State :=
  let k := r.key
  let a := p.acc 0 0
  let st := if r.data.length < 8 then (match s.readStatus a k with | 0 => 7 | st => st) else s.recReadStatus a k true
  let off := leAt r.data 0 4
  let n := min (min (leAt r.data 4 4) 1424) (min room (s.valueOf p.path k - off))
  (st, if st = 0 then (List.range n).map fun i => s.domView p.path k (off + i) else [], s.done a k st)

/-- DOMAIN_WRITE: bytes from an offset, no more than 1,424, within the domain's maximum size. -/
def recDomWrite (p : RecPath) (r : DRec) (s : State) : Nat × List Nat × State :=
  let k := r.key
  let a := p.acc 0 0
  let off := leAt r.data 0 4
  let l := r.data.drop 8
  let st := if p.readOnly then 4 else
    match s.domWriteStatus a k with
    | 0 => if r.data.length < 8 then 7 else if 1424 < l.length ∨ domMax k < off + l.length then 12 else 0
    | st => st
  (st, [], (if st = 0 ∧ l ≠ [] then s.domPut k off l else s).done a k st)

/-- One record: its status, the data of its response, and the state after it. An op that R57 does not list makes no access, and its
status is a free value. -/
def runRecord (p : RecPath) (room : Nat) (r : DRec) (s : State) : Nat × List Nat × State :=
  match r.op with
  | 1 => recRead p r s
  | 2 => recWrite p r s
  | 3 => recDomRead p room r s
  | 4 => recDomWrite p r s
  | _ => match s.fresh with | (v, s) => (v % 256, [], s)

/-- A response record. -/
def respRecord (r : DRec) (st : Nat) (data : List Nat) : List Nat :=
  [r.op, r.sub] ++ leBytes 2 r.idx ++ leBytes 2 data.length ++ [st, 0] ++ padTo (pad8 data.length) data

/-- The records of a message in order, with `room` bytes for the responses (R38, R57). -/
def runRecords (p : RecPath) : Nat → List DRec → State → List Nat × State
  | _, [], s => ([], s)
  | room, r :: rs, s =>
    match runRecord p ((room - 8 - 24 * rs.length) / 8 * 8) r s with
    | (st, data, s) =>
      let out := respRecord r st data
      match runRecords p (room - out.length) rs s with
      | (l, s) => (out ++ l, s)

/-! ### Messages and sessions (R56, R58, R59) -/

/-- Fields of a payload's header. -/
def udpType (l : List Nat) : Nat := nth l 3
def udpSession (l : List Nat) : Nat := leAt l 4 2
def udpTarget (l : List Nat) : Nat := leAt l 6 2
def udpSequence (l : List Nat) : Nat := leAt l 8 4
def udpCount (l : List Nat) : Nat := nth l 12
def udpAuth (l : List Nat) : Bool := bitOf (nth l 13) 0
def udpLength (l : List Nat) : Nat := leAt l 14 2

/-- The body, without the tag. -/
def udpBody (l : List Nat) : List Nat := (l.take (l.length - (if udpAuth l then 16 else 0))).drop 16

/-- Length agrees with the body. -/
def udpLengthOk (l : List Nat) : Bool := udpLength l == (udpBody l).length

/-- A header. -/
def udpHeader (ty session target seq count : Nat) (auth : Bool) (len : Nat) : List Nat :=
  [0x44, 0x46, 1, ty] ++ leBytes 2 session ++ leBytes 2 target ++ leBytes 4 seq ++ [count, b2n auth] ++ leBytes 2 len

/-- A session. -/
def State.sess (s : State) (i : Nat) : Sess := tget {} s.sessions i

/-- Set a session and SessionsOpen. -/
def State.setSess (s : State) (i : Nat) (x : Sess) : State :=
  let t := tput s.sessions i x
  ({ s with sessions := t }).wr K.udpSessionsOpen t.length

/-- Close a session. -/
def State.closeSess (s : State) (i : Nat) : State :=
  let t := terase s.sessions i
  ({ s with sessions := t }).wr K.udpSessionsOpen t.length

/-- The lowest session number from 1 to 8 that is free. -/
def State.freeSess (s : State) : Option Nat := ([1, 2, 3, 4, 5, 6, 7, 8] : List Nat).find? fun i => (tfind s.sessions i).isNone

/-- A payload of a session, with the tag of an authenticated one. -/
def udpMessage (x : Sess) (ty session target seq count : Nat) (body : List Nat) : List Nat :=
  let l := udpHeader ty session target seq count x.auth body.length ++ body
  if x.auth then l ++ (hmac x.key l).take 16 else l

/-- Answer a datagram. -/
def State.udpReply (s : State) (eth addr port : Nat) (l : List Nat) : State :=
  s.udpSend { eth := eth, addr := addr, udpPort := port, src := 52410, bytes := l }

/-- Answer a datagram with ERROR. -/
def State.udpError (s : State) (g : Datagram) (x : Sess) (session status : Nat) : State :=
  s.udpReply g.eth g.addr g.udpPort (udpMessage x 0x1F session (udpTarget g.bytes) (udpSequence g.bytes) 0 [status])

/-- What becomes of a datagram before its message is read. -/
inductive UdpIn where
  /-- not for the engine, or no message of this kind and version -/
  | ignored
  /-- longer than 1,472 bytes -/
  | oversize
  /-- the tag is wrong or missing -/
  | badTag
  /-- to be answered -/
  | good
deriving DecidableEq, Repr

/-- The tag is as the session asks: an authenticated session's messages carry a right one, any other none. -/
def State.tagOk (s : State) (l : List Nat) : Bool :=
  match tfind s.sessions (udpSession l) with
  | some x =>
    if x.auth then
      udpAuth l && Nat.ble 32 l.length && l.drop (l.length - 16) == (hmac x.key (l.take (l.length - 16))).take 16
    else !udpAuth l
  | none => !udpAuth l

/-- Read a datagram that holds a message of type `ty` (R56). -/
def State.udpIn (s : State) (ty : Nat) (g : Datagram) : UdpIn :=
  let l := g.bytes
  if ¬ s.on K.udpUdpEnable ∨ ¬ s.ethUp g.eth ∨ s.dev = stReset then .ignored
  else if 1472 < l.length then .oversize
  else if l.length < 16 ∨ leAt l 0 2 ≠ 0x4644 ∨ nth l 2 ≠ 1 ∨ udpType l ≠ ty then .ignored
  else if ¬ s.tagOk l then .badTag
  else .good

/-- A datagram with a message of type `ty`: counted where it is dropped, else answered by `f`. -/
def udpTake (ty : Nat) (f : Datagram → State → State) (g : Datagram) (s : State) : State :=
  match s.udpIn ty g with
  | .ignored => s
  | .oversize => s.inc 32 K.udpOversizeCount
  | .badTag => s.inc 32 K.udpBadTagCount
  | .good => f g s

/-- OPEN_REQ (R58, R59): a session number and a nonce, or ERROR. Under NONE with no line key held no proof can follow. -/
def openReq (g : Datagram) (s : State) : State :=
  let body := udpBody g.bytes
  if ¬ udpLengthOk g.bytes ∨ body.length ≠ 16 then s.udpError g {} 0 7
  else if s.rd K.udpOpenPolicy = 0 ∧ s.lineKey.isNone then s.udpError g {} 0 14
  else
    match s.freeSess with
    | none => s.udpError g {} 0 13
    | some i =>
      match s.fresh with
      | (lo, s) =>
        match s.fresh with
        | (hi, s) =>
          let nonce := leBytes 8 lo ++ leBytes 8 hi
          let x : Sess := { state := 1, cNonce := body, dNonce := nonce, heard := s.now, eth := g.eth, addr := g.addr, udpPort := g.udpPort }
          (s.setSess i x).udpReply g.eth g.addr g.udpPort
            (udpMessage x 0x02 i (udpTarget g.bytes) (udpSequence g.bytes) 0 nonce)

/-- OPEN_REQ. -/
def execOpenReq (g : Datagram) (s : State) : Host.Outcome State Fault Refusal := .next (udpTake 0x01 openReq g s)

/-- OPEN_PROOF (R58): OPEN_OK and the session key, or ERROR. -/
def openProof (g : Datagram) (s : State) : State :=
  let i := udpSession g.bytes
  match tfind s.sessions i with
  | none => s
  | some x =>
    let x : Sess := { x with heard := s.now }
    match s.lineKey with
    | none => (s.setSess i x).udpError g x i 14
    | some key =>
      if ¬ udpLengthOk g.bytes then (s.setSess i x).udpError g x i 7
      else if x.auth ∨ udpBody g.bytes ≠ hmac key (x.dNonce ++ x.cNonce ++ leBytes 2 i) then (s.setSess i x).udpError g x i 14
      else
        let x : Sess := { x with state := 2, auth := true, key := hmac key (x.cNonce ++ x.dNonce) }
        (s.setSess i x).udpReply g.eth g.addr g.udpPort (udpMessage x 0x04 i (udpTarget g.bytes) (udpSequence g.bytes) 0 [])

/-- OPEN_PROOF. -/
def execOpenProof (g : Datagram) (s : State) : Host.Outcome State Fault Refusal := .next (udpTake 0x03 openProof g s)

/-- The Target of a request is this device. -/
def State.udpOwn (s : State) (l : List Nat) : Bool := udpTarget l == 0x8000 || udpTarget l % 4096 == s.rd K.sklNodeId

/-- A request is executed here: its records, the RESPONSE, and the response kept for a repeat. -/
def State.udpExecute (s : State) (g : Datagram) (x : Sess) (i : Nat) (rs : List DRec) : State :=
  let p : RecPath := { path := 5, secure := x.auth, readOnly := !x.auth && s.rd K.udpOpenPolicy == 1 }
  match runRecords p 1440 rs s with
  | (body, s) =>
    let l := udpMessage x 0x11 i (udpTarget g.bytes) (udpSequence g.bytes) rs.length body
    (s.setSess i { x with lastResp := l }).udpReply g.eth g.addr g.udpPort l

/-- A request for another node goes toward it in a DICT message (R60). -/
def State.udpForward (s : State) (g : Datagram) (x : Sess) (i count : Nat) : State :=
  let id := s.skl.nextId
  let head := leBytes 4 id ++ [b2n x.auth, count, 0, 0]
  let s := s.setSess i { x with eth := g.eth, addr := g.addr, udpPort := g.udpPort, lastResp := [] }
  if ¬ s.on K.udpForwardEnable ∨ s.dev = stFenced then s.udpError g x i 1
  else
    match (s.setSkl { s.skl with nextId := (id + 1) % 2 ^ 32 }).unicast 4 0 (udpTarget g.bytes % 4096) 0 (head ++ udpBody g.bytes) with
    | (true, s) => s.setSkl { s.skl with reqs := s.skl.reqs ++ [{ id := id, since := s.now, udp := some (i, udpSequence g.bytes) }] }
    | (false, s) => s.udpError g x i 1

/-- REQUEST (R57 to R60). -/
def udpRequest (g : Datagram) (s : State) : State :=
  let i := udpSession g.bytes
  let seq := udpSequence g.bytes
  match tfind s.sessions i with
  | none => s
  | some x =>
    let x : Sess := { x with heard := s.now }
    if ¬ x.auth ∧ s.rd K.udpOpenPolicy = 0 then (s.setSess i x).udpError g x i 14
    else
      match if udpLengthOk g.bytes then bodyRecords (udpCount g.bytes) (udpBody g.bytes) else none with
      | none => (s.setSess i x).udpError g x i 7
      | some rs =>
        if x.started ∧ seq < x.lastSeq then (s.setSess i x).inc 32 K.udpReplayCount
        else if x.started ∧ seq = x.lastSeq then
          if x.lastResp = [] then s.setSess i x else (s.setSess i x).udpReply g.eth g.addr g.udpPort x.lastResp
        else
          let x : Sess := { x with state := 2, started := true, lastSeq := seq }
          if s.udpOwn g.bytes then s.udpExecute g x i rs else s.udpForward g x i (udpCount g.bytes)

/-- REQUEST. -/
def execRequest (g : Datagram) (s : State) : Host.Outcome State Fault Refusal := .next (udpTake 0x10 udpRequest g s)

/-- CLOSE (R59). -/
def udpClose (g : Datagram) (s : State) : State := s.closeSess (udpSession g.bytes)

/-- CLOSE. -/
def execClose (g : Datagram) (s : State) : Host.Outcome State Fault Refusal := .next (udpTake 0x20 udpClose g s)

/-- SESSION_TIMEOUT (R59). -/
def sessionTimeout (i : Nat) (s : State) : State :=
  match tfind s.sessions i with
  | none => s
  | some x =>
    if s.rd K.udpSessionTimeout = 0 then s else (s.at (x.heard + ms (s.rd K.udpSessionTimeout))).closeSess i

/-- SESSION_TIMEOUT. -/
def execSessionTimeout (i : Nat) (s : State) : Host.Outcome State Fault Refusal := .next (sessionTimeout i s)

/-! ### DICT messages (R61, R462) -/

/-- A node is admitted by PeerAdmit (R469). -/
def State.peerAdmitted (s : State) (node : Nat) : Bool := bitOf (s.domByte K.sklPeerAdmit (node / 8)) (node % 8)

/-- A request under way ends; the answer of a forwarded UDP request goes to the session's client. -/
def State.udpAnswer (s : State) (i seq target count : Nat) (error : Option Nat) (body : List Nat) : State :=
  match tfind s.sessions i with
  | none => s
  | some x =>
    let l := match error with
      | some st => udpMessage x 0x1F i target seq 0 [st]
      | none => udpMessage x 0x11 i target seq count body
    let s := if x.lastSeq = seq ∧ error.isNone then s.setSess i { x with lastResp := l } else s
    s.udpReply x.eth x.addr x.udpPort l

/-- A DICT response reaches the request it answers. -/
def State.dictResponse (s : State) (m : Msg) : State :=
  match s.skl.reqs.find? fun r => r.id == leAt m.payload 0 4 with
  | none => s
  | some r =>
    let s := s.setSkl { s.skl with reqs := s.skl.reqs.erase r }
    let body := m.payload.drop 8
    match r.udp with
    | some (i, seq) => s.udpAnswer i seq m.source (nth m.payload 5) none body
    | none =>
      let s := { s with domLens := tput s.domLens K.mbxDictResponse 0 }
      (s.domWrite K.mbxDictResponse 0 body).mailboxEnd 2

/-- DICT (R462): a request executes and is answered; a response goes to its request. -/
def dict (m : Msg) (s : State) : State :=
  match s.takeMsg m with
  | none => s
  | some (_, _, s) =>
    let l := m.payload
    if m.cls ≠ 4 ∨ l.length < 8 then s
    else if bitOf m.flags 1 then s.dictResponse m
    else
      match bodyRecords (nth l 5) (l.drop 8) with
      | none => s
      | some rs =>
        let p : RecPath := { path := 6, secure := bitOf (nth l 4) 0 && s.peerAdmitted m.source }
        match runRecords p 2040 rs s with
        | (body, s) => (s.unicast 4 2 m.source 0 (l.take 4 ++ [0, rs.length, 0, 0] ++ body)).2

/-- DICT. -/
def execDict (m : Msg) (s : State) : Host.Outcome State Fault Refusal := .next (dict m s)

/-- DICT_TIMEOUT (R462): the oldest request under way has had no response for DictTimeout. -/
def dictTimeout (s : State) : State :=
  match s.skl.reqs with
  | [] => s
  | r :: l =>
    let s := (s.at (r.since + ms (s.rd K.mbxDictTimeout))).setSkl { s.skl with reqs := l }
    match r.udp with
    | some (i, seq) => s.udpAnswer i seq 0x8000 0 (some 1) []
    | none => s.mailboxEnd 4

/-- DICT_TIMEOUT. -/
def execDictTimeout (s : State) : Host.Outcome State Fault Refusal := .next (dictTimeout s)

end Sys2Proof.Machine
end

