-- ==== Sys2Proof/Machine/CoreBus.lean ====
section
/-! DEFINITION. Accesses that reach the device as addresses: those of the supervisor cores (R35, R355, R356, R481, R554) and the host's
through PCIe BAR2 (R479). -/

namespace Sys2Proof.Machine

/-- An access of a hart raises an exception: 1 an access fault, 2 an address-misaligned exception. -/
def State.coreFault (s : State) (h kind : Nat) : State := { s with coreFaults := tput s.coreFaults h kind }

/-- What a hart's load returns. -/
def State.coreLoad (s : State) (h v : Nat) : State := { s with readData := tput s.readData (8 + h) v }

/-- An access of the dictionary window (R35, R36): the path of the hart's core, secure in machine mode. -/
def State.coreDict (s : State) (h : Nat) (machine write : Bool) (off len : Nat) (bytes : List Nat) : State :=
  let a : Acc := { path := h + 1, secure := machine, size := len, offset := off % 8, value := ofLe bytes }
  if write then entryWrite a (off / 8) s
  else
    let s := readEntry a (off / 8) s
    s.coreLoad h (tget 0 s.readData (h + 1))

/-- An access of the PCIe outbound window (R481): a posted write, or a read whose completion brings `bytes`; any other number of bytes
is an error completion or a timeout. While Bus Master Enable is 0 every access fails (R480). -/
def State.coreOutbound (s : State) (h : Nat) (write : Bool) (off len : Nat) (bytes : List Nat) : State :=
  let a := s.rd K.outbOutboundBase + off
  let master : Bool := s.rd K.pcieBusMaster == 1
  if write then
    if master then { s with hostOut := s.hostOut ++ [{ addr := a, bytes := bytes }] } else s.cplError
  else if master ∧ bytes.length = len then s.coreLoad h (ofLe bytes)
  else s.cplError.coreFault h 1

/-- An access of DRAM goes to its channel and waits there for a grant (R362, R363). -/
def State.coreDram (s : State) (h : Nat) (write : Bool) (addr len : Nat) (bytes : List Nat) : State :=
  let c := s.dramOf addr
  let x := s.dramCh c
  let r : DramReq := { port := 3, hart := h, write := write, addr := addr, len := len, bytes := bytes, stamp := s.now }
  s.setDramCh c { x with wait := x.wait ++ [r] }

/-- The windows other than DRAM that a hart's access may lie in (R355). -/
inductive CoreWindow where
  | dictionary | outbound | sram | none
deriving DecidableEq, Repr

/-- The window of an access outside DRAM. -/
def coreWindow (addr len : Nat) : CoreWindow :=
  if 0x8000000000 ≤ addr ∧ addr + len ≤ 0x8008000000 then .dictionary
  else if 0xC000000000 ≤ addr ∧ addr + len ≤ 0x10000000000 then .outbound
  else if inSram addr len then .sram
  else .none

/-- CORE_ACCESS: an access of a running hart as it leaves its caches; `atomic` marks those of AMO, LR and SC instructions, which fault
outside DRAM. -/
def coreAccess (h : Nat) (machine atomic write : Bool) (addr len : Nat) (bytes : List Nat) (s : State) : State :=
  let io : Bool := Nat.ble 0x8000000000 addr
  let w := coreWindow addr len
  let bytes := if write then padTo len (bytes.take len) else bytes
  if (tfind s.cores h).isNone then s
  else if s.inDram addr len then s.coreDram h write addr len bytes
  else if w = .none ∧ ¬ (io ∧ addr % max 1 len ≠ 0) then (s.mapError addr).coreFault h 1
  else if atomic then s.coreFault h 1
  else if io ∧ addr % max 1 len ≠ 0 then s.coreFault h 2
  else match w with
    | .dictionary => s.coreDict h machine write (addr - 0x8000000000) len bytes
    | .outbound => s.coreOutbound h write (addr - 0xC000000000) len bytes
    | .sram => if write then (s.mapError addr).coreFault h 1
      else s.coreLoad h (ofLe ((List.range len).map fun i => s.sramByte (addr + i)))
    | .none => (s.mapError addr).coreFault h 1

/-- CORE_ACCESS. -/
def execCoreAccess (hart : Nat) (machine atomic write : Bool) (addr len : Nat) (bytes : List Nat) (s : State) :
    Host.Outcome State Fault Refusal := inst (Nat.blt hart 4) (coreAccess hart machine atomic write addr len bytes s)

/-- BAR2_ACCESS (R356, R479): only populated DRAM is reached. -/
def bar2Access (write : Bool) (off len : Nat) (bytes : List Nat) (s : State) : State :=
  let a := s.rd K.pcieBar2Base + off
  let l := if write then padTo len (bytes.take len) else (List.range len).map fun i => (memGet s.mem (a + i)).toNat
  let out (v : Nat) (s : State) : State := if write then s else { s with readData := tput s.readData 12 v }
  if s.inDram a len then
    if write then s.blockWrite 9 a l else out (ofLe l) (s.add 64 (K.portBytesRead 9) len)
  else out 0 (s.mapError a)

/-- BAR2_ACCESS. -/
def execBar2Access (write : Bool) (off len : Nat) (bytes : List Nat) (s : State) : Host.Outcome State Fault Refusal :=
  .next (bar2Access write off len bytes s)

end Sys2Proof.Machine
end

