-- ==== Sys2Proof/Machine/Dispatch.lean ====
section
/-! DEFINITION. The commands' meanings, one arm per constructor of Instr. -/

namespace Sys2Proof.Machine

/-- The effect of a command on everything but the queue. -/
def exec (i : Instr) (s : State) : Host.Outcome State Fault Refusal :=
  match i with
  | .powerOnReset => Sys2Proof.Machine.execPowerOnReset s
  | .warmReset => Sys2Proof.Machine.execWarmReset s
  | .resetRequest a => Sys2Proof.Machine.execResetRequest a s
  | .supplyDetect => Sys2Proof.Machine.execSupplyDetect s
  | .resetRelease straps => Sys2Proof.Machine.execResetRelease straps s
  | .bootHeaderRead image complete => Sys2Proof.Machine.execBootHeaderRead image complete s
  | .dramTrainDone failed => Sys2Proof.Machine.execDramTrainDone failed s
  | .dramZeroDone => Sys2Proof.Machine.execDramZeroDone s
  | .payloadLoaded payload sig complete => Sys2Proof.Machine.execPayloadLoaded payload sig complete s
  | .bootGo a => Sys2Proof.Machine.execBootGo a s
  | .bootComplete a => Sys2Proof.Machine.execBootComplete a s
  | .advanceSecurityVersion a => Sys2Proof.Machine.execAdvanceSecurityVersion a s
  | .revokeKey a => Sys2Proof.Machine.execRevokeKey a s
  | .fuseBurnDone => Sys2Proof.Machine.execFuseBurnDone s
  | .coreRelease a => Sys2Proof.Machine.execCoreRelease a s
  | .arm a acks => Sys2Proof.Machine.execArm a acks s
  | .run a => Sys2Proof.Machine.execRun a s
  | .stop a => Sys2Proof.Machine.execStop a s
  | .disarm a => Sys2Proof.Machine.execDisarm a s
  | .sleep a acks => Sys2Proof.Machine.execSleep a acks s
  | .wake a => Sys2Proof.Machine.execWake a s
  | .devStop => Sys2Proof.Machine.execDevStop s
  | .drainComplete => Sys2Proof.Machine.execDrainComplete s
  | .drainTimeout => Sys2Proof.Machine.execDrainTimeout s
  | .dictWrite a k => Sys2Proof.Machine.execDictWrite a k s
  | .readClearExtreme a k => Sys2Proof.Machine.execReadClearExtreme a k s
  | .timeRead a k => Sys2Proof.Machine.execTimeRead a k s
  | .commit a idx => Sys2Proof.Machine.execCommit a idx s
  | .discard a idx => Sys2Proof.Machine.execDiscard a idx s
  | .commitApply idx => Sys2Proof.Machine.execCommitApply idx s
  | .give a target newOwner => Sys2Proof.Machine.execGive a target newOwner s
  | .lock a target => Sys2Proof.Machine.execLock a target s
  | .setSecure a target => Sys2Proof.Machine.execSetSecure a target s
  | .setOpen a target => Sys2Proof.Machine.execSetOpen a target s
  | .challenge a => Sys2Proof.Machine.execChallenge a s
  | .proofGo a => Sys2Proof.Machine.execProofGo a s
  | .proofLockoutEnd => Sys2Proof.Machine.execProofLockoutEnd s
  | .drop a p => Sys2Proof.Machine.execDrop a p s
  | .domGo a p => Sys2Proof.Machine.execDomGo a p s
  | .domainTransferDone p host failAt => Sys2Proof.Machine.execDomainTransferDone p host failAt s
  | .openReq g => Sys2Proof.Machine.execOpenReq g s
  | .openProof g => Sys2Proof.Machine.execOpenProof g s
  | .request g => Sys2Proof.Machine.execRequest g s
  | .close g => Sys2Proof.Machine.execClose g s
  | .sessionTimeout n => Sys2Proof.Machine.execSessionTimeout n s
  | .encoderTransition n input level => Sys2Proof.Machine.execEncoderTransition n input level s
  | .countAccepted n input => Sys2Proof.Machine.execCountAccepted n input s
  | .serialFrameStart n => Sys2Proof.Machine.execSerialFrameStart n s
  | .serialFrame n f => Sys2Proof.Machine.execSerialFrame n f s
  | .indexPulse n => Sys2Proof.Machine.execIndexPulse n s
  | .stallTimeout n => Sys2Proof.Machine.execStallTimeout n s
  | .triggerEmit g => Sys2Proof.Machine.execTriggerEmit g s
  | .compareFire m => Sys2Proof.Machine.execCompareFire m s
  | .comparePulseEnd m => Sys2Proof.Machine.execComparePulseEnd m s
  | .probeEdge p rising => Sys2Proof.Machine.execProbeEdge p rising s
  | .pop a p => Sys2Proof.Machine.execPop a p s
  | .probeFlush a p => Sys2Proof.Machine.execProbeFlush a p s
  | .linearPreset a n => Sys2Proof.Machine.execLinearPreset a n s
  | .rotaryPreset a n => Sys2Proof.Machine.execRotaryPreset a n s
  | .wheelReadmit a n => Sys2Proof.Machine.execWheelReadmit a n s
  | .posBroadcast => Sys2Proof.Machine.execPosBroadcast s
  | .posMessage m => Sys2Proof.Machine.execPosMessage m s
  | .remoteTimeout => Sys2Proof.Machine.execRemoteTimeout s
  | .emuLagRelease m => Sys2Proof.Machine.execEmuLagRelease m s
  | .cxpLock n => Sys2Proof.Machine.execCxpLock n s
  | .huntLock n => Sys2Proof.Machine.execHuntLock n s
  | .huntTimeout n => Sys2Proof.Machine.execHuntTimeout n s
  | .queryDone n r => Sys2Proof.Machine.execQueryDone n r s
  | .trainDone n t => Sys2Proof.Machine.execTrainDone n t s
  | .trainTimeout n => Sys2Proof.Machine.execTrainTimeout n s
  | .rediscover a n => Sys2Proof.Machine.execRediscover a n s
  | .camReadmit a n => Sys2Proof.Machine.execCamReadmit a n s
  | .camTrigger n => Sys2Proof.Machine.execCamTrigger n s
  | .triggerPacketStart n => Sys2Proof.Machine.execTriggerPacketStart n s
  | .triggerPacketEnd n => Sys2Proof.Machine.execTriggerPacketEnd n s
  | .lineReceived n l => Sys2Proof.Machine.execLineReceived n l s
  | .skewTimeout n => Sys2Proof.Machine.execSkewTimeout n s
  | .lateLine n => Sys2Proof.Machine.execLateLine n s
  | .owedLineLapse n => Sys2Proof.Machine.execOwedLineLapse n s
  | .bandEnd n => Sys2Proof.Machine.execBandEnd n s
  | .cxpLinkLost n link => Sys2Proof.Machine.execCxpLinkLost n link s
  | .cxpRelocked n eyes => Sys2Proof.Machine.execCxpRelocked n eyes s
  | .relockTimeout n => Sys2Proof.Machine.execRelockTimeout n s
  | .cxpHeartbeat n => Sys2Proof.Machine.execCxpHeartbeat n s
  | .cxpEvent n => Sys2Proof.Machine.execCxpEvent n s
  | .cxpTriggerAck n => Sys2Proof.Machine.execCxpTriggerAck n s
  | .tunnelGo a n => Sys2Proof.Machine.execTunnelGo a n s
  | .tunnelAck n code data wait => Sys2Proof.Machine.execTunnelAck n code data wait s
  | .tunnelTimeout n => Sys2Proof.Machine.execTunnelTimeout n s
  | .roundOpen p => Sys2Proof.Machine.execRoundOpen p s
  | .pipeLineDone n => Sys2Proof.Machine.execPipeLineDone n s
  | .flushPass n => Sys2Proof.Machine.execFlushPass n s
  | .prismBandDone n => Sys2Proof.Machine.execPrismBandDone n s
  | .replayLine n => Sys2Proof.Machine.execReplayLine n s
  | .loadIntervalEnd p => Sys2Proof.Machine.execLoadIntervalEnd p s
  | .seamMemberLine n => Sys2Proof.Machine.execSeamMemberLine n s
  | .seamDeadline => Sys2Proof.Machine.execSeamDeadline s
  | .lineEmit refLate => Sys2Proof.Machine.execLineEmit refLate s
  | .winStart w => Sys2Proof.Machine.execWinStart w s
  | .bandRecord n => Sys2Proof.Machine.execBandRecord n s
  | .tagWrite => Sys2Proof.Machine.execTagWrite s
  | .joinHoldEnd => Sys2Proof.Machine.execJoinHoldEnd s
  | .cropDone => Sys2Proof.Machine.execCropDone s
  | .crazeWindowEnd => Sys2Proof.Machine.execCrazeWindowEnd s
  | .barLineStart b => Sys2Proof.Machine.execBarLineStart b s
  | .barLineDone b => Sys2Proof.Machine.execBarLineDone b s
  | .segmentFetch e => Sys2Proof.Machine.execSegmentFetch e s
  | .maskClear a => Sys2Proof.Machine.execMaskClear a s
  | .maskRequestApply => Sys2Proof.Machine.execMaskRequestApply s
  | .rasterTrigger b => Sys2Proof.Machine.execRasterTrigger b s
  | .shiftStart p => Sys2Proof.Machine.execShiftStart p s
  | .shiftDone p => Sys2Proof.Machine.execShiftDone p s
  | .strobeStart h => Sys2Proof.Machine.execStrobeStart h s
  | .strobeSegmentEnd h => Sys2Proof.Machine.execStrobeSegmentEnd h s
  | .strobeCut h => Sys2Proof.Machine.execStrobeCut h s
  | .portPowerOn a p => Sys2Proof.Machine.execPortPowerOn a p s
  | .powerOnDelayEnd p => Sys2Proof.Machine.execPowerOnDelayEnd p s
  | .deskewDone p spread residual => Sys2Proof.Machine.execDeskewDone p spread residual s
  | .headIdentified h id => Sys2Proof.Machine.execHeadIdentified h id s
  | .portPowerOff a p => Sys2Proof.Machine.execPortPowerOff a p s
  | .powerDownBegin p => Sys2Proof.Machine.execPowerDownBegin p s
  | .powerOffDelayEnd p => Sys2Proof.Machine.execPowerOffDelayEnd p s
  | .tempPoll p => Sys2Proof.Machine.execTempPoll p s
  | .tempReading h t => Sys2Proof.Machine.execTempReading h t s
  | .headReadmit a h => Sys2Proof.Machine.execHeadReadmit a h s
  | .portReadmit a p => Sys2Proof.Machine.execPortReadmit a p s
  | .scanGo a acks => Sys2Proof.Machine.execScanGo a acks s
  | .scanAbort a acks => Sys2Proof.Machine.execScanAbort a acks s
  | .scanSettleEnd => Sys2Proof.Machine.execScanSettleEnd s
  | .scanElement => Sys2Proof.Machine.execScanElement s
  | .gaugeOutput c bits => Sys2Proof.Machine.execGaugeOutput c bits s
  | .gsyncEdge rising => Sys2Proof.Machine.execGsyncEdge rising s
  | .syncNow a => Sys2Proof.Machine.execSyncNow a s
  | .gaSyncReq => Sys2Proof.Machine.execGaSyncReq s
  | .swapTarget a c => Sys2Proof.Machine.execSwapTarget a c s
  | .calGo a c => Sys2Proof.Machine.execCalGo a c s
  | .modStuck c => Sys2Proof.Machine.execModStuck c s
  | .gaugeReadmit a c => Sys2Proof.Machine.execGaugeReadmit a c s
  | .loopWindowEnd => Sys2Proof.Machine.execLoopWindowEnd s
  | .loopFoldDone => Sys2Proof.Machine.execLoopFoldDone s
  | .approve a => Sys2Proof.Machine.execApprove a s
  | .unlock a => Sys2Proof.Machine.execUnlock a s
  | .hold a => Sys2Proof.Machine.execHold a s
  | .resume a => Sys2Proof.Machine.execResume a s
  | .restore a => Sys2Proof.Machine.execRestore a s
  | .dramRefresh ch => Sys2Proof.Machine.execDramRefresh ch s
  | .dramTempRead ch temp => Sys2Proof.Machine.execDramTempRead ch temp s
  | .dramGrant ch => Sys2Proof.Machine.execDramGrant ch s
  | .patrolRead ch a e lastBlock => Sys2Proof.Machine.execPatrolRead ch a e lastBlock s
  | .selfRefreshEntry ch => Sys2Proof.Machine.execSelfRefreshEntry ch s
  | .ddrTrack ch moves => Sys2Proof.Machine.execDdrTrack ch moves s
  | .queueItemWrite q item => Sys2Proof.Machine.execQueueItemWrite q item s
  | .queueFlush a q => Sys2Proof.Machine.execQueueFlush a q s
  | .portQueueFlush a => Sys2Proof.Machine.execPortQueueFlush a s
  | .dmaGo a c => Sys2Proof.Machine.execDmaGo a c s
  | .doorbell a c => Sys2Proof.Machine.execDoorbell a c s
  | .dmaAbort a c => Sys2Proof.Machine.execDmaAbort a c s
  | .descFetch c => Sys2Proof.Machine.execDescFetch c s
  | .dmaPaceStart c => Sys2Proof.Machine.execDmaPaceStart c s
  | .dmaMaxwait c => Sys2Proof.Machine.execDmaMaxwait c s
  | .descComplete c host => Sys2Proof.Machine.execDescComplete c host s
  | .dmaErrorResponse c beats host => Sys2Proof.Machine.execDmaErrorResponse c beats host s
  | .jobTail a e => Sys2Proof.Machine.execJobTail a e s
  | .zeJobStart e => Sys2Proof.Machine.execZeJobStart e s
  | .zeJobDone e => Sys2Proof.Machine.execZeJobDone e s
  | .zeAbort a e => Sys2Proof.Machine.execZeAbort a e s
  | .eventDelivery => Sys2Proof.Machine.execEventDelivery s
  | .taskRoute a n => Sys2Proof.Machine.execTaskRoute a n s
  | .taskCoincide a n => Sys2Proof.Machine.execTaskCoincide a n s
  | .claim a t => Sys2Proof.Machine.execClaim a t s
  | .complete a t => Sys2Proof.Machine.execComplete a t s
  | .maskSet a w => Sys2Proof.Machine.execMaskSet a w s
  | .maskClearWord a w => Sys2Proof.Machine.execMaskClearWord a w s
  | .pendingSet a w => Sys2Proof.Machine.execPendingSet a w s
  | .pendingClear a w => Sys2Proof.Machine.execPendingClear a w s
  | .maskSync a => Sys2Proof.Machine.execMaskSync a s
  | .holdOffEnd g => Sys2Proof.Machine.execHoldOffEnd g s
  | .laneLock l => Sys2Proof.Machine.execLaneLock l s
  | .laneLockLost l => Sys2Proof.Machine.execLaneLockLost l s
  | .laneFault l headers => Sys2Proof.Machine.execLaneFault l headers s
  | .retrain a p => Sys2Proof.Machine.execRetrain a p s
  | .sklHuntDone p => Sys2Proof.Machine.execSklHuntDone p s
  | .sklCapDone p c => Sys2Proof.Machine.execSklCapDone p c s
  | .sklSwitchDone p locked => Sys2Proof.Machine.execSklSwitchDone p locked s
  | .trainBlock l b => Sys2Proof.Machine.execTrainBlock l b s
  | .tapRequestTimeout l => Sys2Proof.Machine.execTapRequestTimeout l s
  | .tuneTimeout l => Sys2Proof.Machine.execTuneTimeout l s
  | .sklCheckDone p errors => Sys2Proof.Machine.execSklCheckDone p errors s
  | .sklAlignDone p skews peerFailed => Sys2Proof.Machine.execSklAlignDone p skews peerFailed s
  | .marker p => Sys2Proof.Machine.execMarker p s
  | .laneMap p mask => Sys2Proof.Machine.execLaneMap p mask s
  | .laneReadmit a p => Sys2Proof.Machine.execLaneReadmit a p s
  | .sleepIdle p => Sys2Proof.Machine.execSleepIdle p s
  | .sleepBlock p => Sys2Proof.Machine.execSleepBlock p s
  | .directionWake p => Sys2Proof.Machine.execDirectionWake p s
  | .msgTransmit p => Sys2Proof.Machine.execMsgTransmit p s
  | .evt m => Sys2Proof.Machine.execEvt m s
  | .lnkSend k => Sys2Proof.Machine.execLnkSend k s
  | .sync p m => Sys2Proof.Machine.execSync p m s
  | .delayReq p m => Sys2Proof.Machine.execDelayReq p m s
  | .delayResp p m => Sys2Proof.Machine.execDelayResp p m s
  | .dict m => Sys2Proof.Machine.execDict m s
  | .bulk m => Sys2Proof.Machine.execBulk m s
  | .heartbeat p m => Sys2Proof.Machine.execHeartbeat p m s
  | .epoch m => Sys2Proof.Machine.execEpoch m s
  | .lineStale m => Sys2Proof.Machine.execLineStale m s
  | .msgReceived p m => Sys2Proof.Machine.execMsgReceived p m s
  | .heartbeatSend => Sys2Proof.Machine.execHeartbeatSend s
  | .roleDead r => Sys2Proof.Machine.execRoleDead r s
  | .sparePromote => Sys2Proof.Machine.execSparePromote s
  | .routeExpiry node => Sys2Proof.Machine.execRouteExpiry node s
  | .seqExpiry n => Sys2Proof.Machine.execSeqExpiry n s
  | .bulkWaitTimeout => Sys2Proof.Machine.execBulkWaitTimeout s
  | .dictGo a => Sys2Proof.Machine.execDictGo a s
  | .dictTimeout => Sys2Proof.Machine.execDictTimeout s
  | .pcieReset kind => Sys2Proof.Machine.execPcieReset kind s
  | .pcieLinkUp speed width payload busMaster => Sys2Proof.Machine.execPcieLinkUp speed width payload busMaster s
  | .pcieLinkDown => Sys2Proof.Machine.execPcieLinkDown s
  | .bar2Base a => Sys2Proof.Machine.execBar2Base a s
  | .ethFrameReceive p frame fcsOk => Sys2Proof.Machine.execEthFrameReceive p frame fcsOk s
  | .ethLinkUp p eye => Sys2Proof.Machine.execEthLinkUp p eye s
  | .ethLinkFault p => Sys2Proof.Machine.execEthLinkFault p s
  | .ethReadmit a p => Sys2Proof.Machine.execEthReadmit a p s
  | .coreTxFrame p => Sys2Proof.Machine.execCoreTxFrame p s
  | .timeSet a => Sys2Proof.Machine.execTimeSet a s
  | .timeStep a => Sys2Proof.Machine.execTimeStep a s
  | .resync a => Sys2Proof.Machine.execResync a s
  | .rateAdj a => Sys2Proof.Machine.execRateAdj a s
  | .syncPeriod => Sys2Proof.Machine.execSyncPeriod s
  | .holdoverTimeout => Sys2Proof.Machine.execHoldoverTimeout s
  | .alarmFire n => Sys2Proof.Machine.execAlarmFire n s
  | .timeCapture k => Sys2Proof.Machine.execTimeCapture k s
  | .ppsPulse => Sys2Proof.Machine.execPpsPulse s
  | .ppsEnd => Sys2Proof.Machine.execPpsEnd s
  | .watchdogKick a => Sys2Proof.Machine.execWatchdogKick a s
  | .wdogWarn => Sys2Proof.Machine.execWdogWarn s
  | .wdogExpire => Sys2Proof.Machine.execWdogExpire s
  | .junctionRead t => Sys2Proof.Machine.execJunctionRead t s
  | .fatalRequest a => Sys2Proof.Machine.execFatalRequest a s
  | .pllLockLoss => Sys2Proof.Machine.execPllLockLoss s
  | .refclkBad kHz => Sys2Proof.Machine.execRefclkBad kHz s
  | .calRun a => Sys2Proof.Machine.execCalRun a s
  | .calRunDone result => Sys2Proof.Machine.execCalRunDone result s
  | .witnessWrite => Sys2Proof.Machine.execWitnessWrite s
  | .freeze a => Sys2Proof.Machine.execFreeze a s
  | .release a => Sys2Proof.Machine.execRelease a s
  | .mark a => Sys2Proof.Machine.execMark a s
  | .readSequence a => Sys2Proof.Machine.execReadSequence a s
  | .domainDown => Sys2Proof.Machine.execDomainDown s
  | .domainUp => Sys2Proof.Machine.execDomainUp s
  | .wakePin level => Sys2Proof.Machine.execWakePin level s
  | .msixUnmask u => Sys2Proof.Machine.execMsixUnmask u s
  | .coreAccess hart machine atomic write addr len bytes => Sys2Proof.Machine.execCoreAccess hart machine atomic write addr len bytes s
  | .bar2Access write off len bytes => Sys2Proof.Machine.execBar2Access write off len bytes s

end Sys2Proof.Machine
end

