-- ==== Sys2Proof/Machine/Step.lean ====
section
/-! DEFINITION. One step of the block: the command at the front of the queue, or one FABCLK of idling. -/

namespace Sys2Proof.Machine

/-- One FABCLK in which no command is given: the time counter C counts (R488). -/
def State.tick (s : State) : State := { s with now := s.now + 1 }

/-- Take the command at the front of the queue and run it with the queue's rest; on an empty queue the clock counts. -/
def step (s : State) : Host.Outcome State Fault Refusal :=
  match s.pending with
  | [] => .next s.tick
  | c :: rest => exec c { s with pending := rest }

/-- Put the command that a word spells at the front of the queue; a word that spells none changes nothing. -/
def State.withFetchWord (s : State) (nbits w : Nat) : State :=
  match decodeTableWord nbits w with
  | some c => { s with pending := c :: s.pending }
  | none => s

end Sys2Proof.Machine
end

