-- ==== Sys2Proof/WellFormed.lean ====
section
/-! DEFINITION. Well-formed commands: instance numbers the device has, bytes below 256, accesses of a path, size and offset that the
dictionary's paths can make, and header fields within their widths. -/

namespace Sys2Proof

/-- A byte string. -/
def bytesWf (l : List Nat) : Bool := l.all fun b => Nat.blt b 256

/-- A list of 16-bit words. -/
def wordsWf (l : List Nat) : Bool := l.all fun b => Nat.blt b 65536

/-- An access (R35, R36): one of the seven paths, 1 to 10 bytes, an offset within the slot, and a value of that many bytes. -/
def Acc.wf (a : Acc) : Bool :=
  Nat.blt a.path 7 && Nat.ble 1 a.size && Nat.ble a.size 10 && Nat.blt a.offset 8 && Nat.blt a.value (2 ^ (8 * a.size))

/-- A datagram. -/
def Datagram.wf (g : Datagram) : Bool :=
  Nat.blt g.eth 2 && Nat.blt g.addr (2 ^ 32) && Nat.blt g.udpPort 65536 && bytesWf g.bytes

/-- A message's header fields (R453). -/
def Msg.wf (m : Msg) : Bool :=
  Nat.blt m.cls 256 && Nat.blt m.flags 256 && Nat.blt m.source 65536 && Nat.blt m.dest 65536 && Nat.blt m.epoch (2 ^ 32) &&
  Nat.blt m.role 65536 && Nat.blt m.hops 256 && Nat.blt m.lineage 256 && Nat.blt m.seq (2 ^ 32) && bytesWf m.payload

/-- A command is well formed. -/
def Instr.wf : Instr → Bool
  | .powerOnReset => true
  | .warmReset => true
  | .resetRequest a => a.wf
  | .supplyDetect => true
  | .resetRelease straps => Nat.blt straps 4
  | .bootHeaderRead image _ => bytesWf image
  | .dramTrainDone failed => Nat.blt failed 16
  | .dramZeroDone => true
  | .payloadLoaded payload sig _ => bytesWf payload && bytesWf sig
  | .bootGo a => a.wf
  | .bootComplete a => a.wf
  | .advanceSecurityVersion a => a.wf
  | .revokeKey a => a.wf
  | .fuseBurnDone => true
  | .coreRelease a => a.wf
  | .arm a acks => a.wf && Nat.blt acks (2 ^ 128)
  | .run a => a.wf
  | .stop a => a.wf
  | .disarm a => a.wf
  | .sleep a acks => a.wf && Nat.blt acks (2 ^ 128)
  | .wake a => a.wf
  | .devStop => true
  | .drainComplete => true
  | .drainTimeout => true
  | .dictWrite a k => a.wf && Nat.blt k (2 ^ 24)
  | .readClearExtreme a k => a.wf && Nat.blt k (2 ^ 24)
  | .timeRead a k => a.wf && Nat.blt k (2 ^ 24)
  | .commit a idx => a.wf && Nat.blt idx 65536
  | .discard a idx => a.wf && Nat.blt idx 65536
  | .commitApply idx => Nat.blt idx 65536
  | .give a target newOwner => a.wf && Nat.blt target 65536 && Nat.blt newOwner 4
  | .lock a target => a.wf && Nat.blt target 65536
  | .setSecure a target => a.wf && Nat.blt target 65536
  | .setOpen a target => a.wf && Nat.blt target 65536
  | .challenge a => a.wf
  | .proofGo a => a.wf
  | .proofLockoutEnd => true
  | .drop a p => a.wf && Nat.blt p 7
  | .domGo a p => a.wf && Nat.blt p 5
  | .domainTransferDone p host _ => Nat.blt p 5 && bytesWf host
  | .openReq g => g.wf
  | .openProof g => g.wf
  | .request g => g.wf
  | .close g => g.wf
  | .sessionTimeout i => Nat.ble 1 i && Nat.ble i 8
  | .encoderTransition n _ _ => Nat.blt n 4
  | .countAccepted n _ => Nat.blt n 4
  | .serialFrameStart n => Nat.blt n 4
  | .serialFrame n f => Nat.blt n 4 && Nat.blt f.crc 64
  | .indexPulse n => Nat.blt n 4
  | .stallTimeout n => Nat.blt n 4
  | .triggerEmit g => Nat.blt g 28
  | .compareFire m => Nat.blt m 16
  | .comparePulseEnd m => Nat.blt m 16
  | .probeEdge p _ => Nat.blt p 8
  | .pop a p => a.wf && Nat.blt p 8
  | .probeFlush a p => a.wf && Nat.blt p 8
  | .linearPreset a n => a.wf && Nat.blt n 4
  | .rotaryPreset a n => a.wf && Nat.blt n 4
  | .wheelReadmit a n => a.wf && Nat.blt n 4
  | .posBroadcast => true
  | .posMessage m => m.wf
  | .remoteTimeout => true
  | .emuLagRelease m => Nat.blt m 4
  | .cxpLock n => Nat.blt n 12
  | .huntLock n => Nat.blt n 12
  | .huntTimeout n => Nat.blt n 12
  | .queryDone n r => Nat.blt n 12 && wordsWf r.speeds
  | .trainDone n t => Nat.blt n 12 && wordsWf t.eyes && wordsWf t.equalisers
  | .trainTimeout n => Nat.blt n 12
  | .rediscover a n => a.wf && Nat.blt n 12
  | .camReadmit a n => a.wf && Nat.blt n 12
  | .camTrigger n => Nat.blt n 12
  | .triggerPacketStart n => Nat.blt n 12
  | .triggerPacketEnd n => Nat.blt n 12
  | .lineReceived n l => Nat.blt n 12 && wordsWf l.samples && Nat.blt l.stream 256 && Nat.blt l.width (2 ^ 24)
  | .skewTimeout n => Nat.blt n 12
  | .lateLine n => Nat.blt n 12
  | .owedLineLapse n => Nat.blt n 12
  | .bandEnd n => Nat.blt n 12
  | .cxpLinkLost n link => Nat.blt n 12 && Nat.blt link 4
  | .cxpRelocked n eyes => Nat.blt n 12 && wordsWf eyes
  | .relockTimeout n => Nat.blt n 12
  | .cxpHeartbeat n => Nat.blt n 12
  | .cxpEvent n => Nat.blt n 12
  | .cxpTriggerAck n => Nat.blt n 12
  | .tunnelGo a n => a.wf && Nat.blt n 12
  | .tunnelAck n code data _ => Nat.blt n 12 && Nat.blt code 256 && bytesWf data
  | .tunnelTimeout n => Nat.blt n 12
  | .roundOpen p => Nat.blt p 3
  | .pipeLineDone n => Nat.blt n 12
  | .flushPass n => Nat.blt n 12
  | .prismBandDone n => Nat.blt n 12
  | .replayLine n => Nat.blt n 12
  | .loadIntervalEnd p => Nat.blt p 3
  | .seamMemberLine n => Nat.blt n 12
  | .seamDeadline => true
  | .lineEmit refLate => Nat.blt refLate 4096
  | .winStart w => Nat.blt w 2
  | .bandRecord n => Nat.blt n 12
  | .tagWrite => true
  | .joinHoldEnd => true
  | .cropDone => true
  | .crazeWindowEnd => true
  | .barLineStart b => Nat.blt b 16
  | .barLineDone b => Nat.blt b 16
  | .segmentFetch e => Nat.blt e 6
  | .maskClear a => a.wf
  | .maskRequestApply => true
  | .rasterTrigger b => Nat.blt b 16
  | .shiftStart p => Nat.blt p 32
  | .shiftDone p => Nat.blt p 32
  | .strobeStart h => Nat.blt h 128
  | .strobeSegmentEnd h => Nat.blt h 128
  | .strobeCut h => Nat.blt h 128
  | .portPowerOn a p => a.wf && Nat.blt p 32
  | .powerOnDelayEnd p => Nat.blt p 32
  | .deskewDone p _ _ => Nat.blt p 32
  | .headIdentified h id => Nat.blt h 128 && (match id with | some l => bytesWf l | none => true)
  | .portPowerOff a p => a.wf && Nat.blt p 32
  | .powerDownBegin p => Nat.blt p 32
  | .powerOffDelayEnd p => Nat.blt p 32
  | .tempPoll p => Nat.blt p 32
  | .tempReading h t => Nat.blt h 128 && (match t with | some v => Nat.blt v 65536 | none => true)
  | .headReadmit a h => a.wf && Nat.blt h 128
  | .portReadmit a p => a.wf && Nat.blt p 32
  | .scanGo a acks => a.wf && Nat.blt acks (2 ^ 128)
  | .scanAbort a acks => a.wf && Nat.blt acks (2 ^ 128)
  | .scanSettleEnd => true
  | .scanElement => true
  | .gaugeOutput c _ => Nat.blt c 16
  | .gsyncEdge _ => true
  | .syncNow a => a.wf
  | .gaSyncReq => true
  | .swapTarget a c => a.wf && Nat.blt c 16
  | .calGo a c => a.wf && Nat.blt c 16
  | .modStuck c => Nat.blt c 16
  | .gaugeReadmit a c => a.wf && Nat.blt c 16
  | .loopWindowEnd => true
  | .loopFoldDone => true
  | .approve a => a.wf
  | .unlock a => a.wf
  | .hold a => a.wf
  | .resume a => a.wf
  | .restore a => a.wf
  | .dramRefresh ch => Nat.blt ch 4
  | .dramTempRead ch _ => Nat.blt ch 4
  | .dramGrant ch => Nat.blt ch 4
  | .patrolRead ch a _ _ => Nat.blt ch 4 && Nat.blt a (2 ^ 40)
  | .selfRefreshEntry ch => Nat.blt ch 4
  | .ddrTrack ch _ => Nat.blt ch 4
  | .queueItemWrite q item => Nat.blt q 64 && bytesWf item
  | .queueFlush a q => a.wf && Nat.blt q 64
  | .portQueueFlush a => a.wf
  | .dmaGo a c => a.wf && Nat.blt c 32
  | .doorbell a c => a.wf && Nat.blt c 32
  | .dmaAbort a c => a.wf && Nat.blt c 32
  | .descFetch c => Nat.blt c 32
  | .dmaPaceStart c => Nat.blt c 32
  | .dmaMaxwait c => Nat.blt c 32
  | .descComplete c host => Nat.blt c 32 && bytesWf host
  | .dmaErrorResponse c _ host => Nat.blt c 32 && bytesWf host
  | .jobTail a e => a.wf && Nat.blt e 6
  | .zeJobStart e => Nat.blt e 6
  | .zeJobDone e => Nat.blt e 6
  | .zeAbort a e => a.wf && Nat.blt e 6
  | .eventDelivery => true
  | .taskRoute a i => a.wf && Nat.blt i 256
  | .taskCoincide a i => a.wf && Nat.blt i 256
  | .claim a t => a.wf && Nat.blt t 5
  | .complete a t => a.wf && Nat.blt t 5
  | .maskSet a w => a.wf && Nat.blt w 8
  | .maskClearWord a w => a.wf && Nat.blt w 8
  | .pendingSet a w => a.wf && Nat.blt w 8
  | .pendingClear a w => a.wf && Nat.blt w 8
  | .maskSync a => a.wf
  | .holdOffEnd g => Nat.blt g 32
  | .laneLock l => Nat.blt l 8
  | .laneLockLost l => Nat.blt l 8
  | .laneFault l _ => Nat.blt l 8
  | .retrain a p => a.wf && Nat.blt p 2
  | .sklHuntDone p => Nat.blt p 2
  | .sklCapDone p c => Nat.blt p 2 && Nat.blt c.lanes 16 && Nat.blt c.node 4096
  | .sklSwitchDone p _ => Nat.blt p 2
  | .trainBlock l b => Nat.blt l 8 && Nat.blt b.request 128 && Nat.blt b.answer 64
  | .tapRequestTimeout l => Nat.blt l 8
  | .tuneTimeout l => Nat.blt l 8
  | .sklCheckDone p _ => Nat.blt p 2
  | .sklAlignDone p _ _ => Nat.blt p 2
  | .marker p => Nat.blt p 2
  | .laneMap p mask => Nat.blt p 2 && Nat.blt mask 256
  | .laneReadmit a p => a.wf && Nat.blt p 2
  | .sleepIdle p => Nat.blt p 2
  | .sleepBlock p => Nat.blt p 2
  | .directionWake p => Nat.blt p 2
  | .msgTransmit p => Nat.blt p 2
  | .evt m => m.wf
  | .lnkSend k => Nat.blt k 32
  | .sync p m => m.wf && Nat.blt p 2
  | .delayReq p m => m.wf && Nat.blt p 2
  | .delayResp p m => m.wf && Nat.blt p 2
  | .dict m => m.wf
  | .bulk m => m.wf
  | .heartbeat p m => m.wf && Nat.blt p 2
  | .epoch m => m.wf
  | .lineStale m => m.wf
  | .msgReceived p m => m.wf && Nat.blt p 2
  | .heartbeatSend => true
  | .roleDead r => Nat.blt r 4096
  | .sparePromote => true
  | .routeExpiry node => Nat.blt node 4096
  | .seqExpiry i => Nat.blt i 65536
  | .bulkWaitTimeout => true
  | .dictGo a => a.wf
  | .dictTimeout => true
  | .pcieReset _ => true
  | .pcieLinkUp speed width payload _ => Nat.blt speed 256 && Nat.blt width 256 && Nat.blt payload 65536
  | .pcieLinkDown => true
  | .bar2Base a => a.wf
  | .ethFrameReceive p frame _ => Nat.blt p 2 && bytesWf frame
  | .ethLinkUp p eye => Nat.blt p 2 && Nat.blt eye 65536
  | .ethLinkFault p => Nat.blt p 2
  | .ethReadmit a p => a.wf && Nat.blt p 2
  | .coreTxFrame p => Nat.blt p 2
  | .timeSet a => a.wf
  | .timeStep a => a.wf
  | .resync a => a.wf
  | .rateAdj a => a.wf
  | .syncPeriod => true
  | .holdoverTimeout => true
  | .alarmFire n => Nat.blt n 4
  | .timeCapture k => Nat.blt k 4
  | .ppsPulse => true
  | .ppsEnd => true
  | .watchdogKick a => a.wf
  | .wdogWarn => true
  | .wdogExpire => true
  | .junctionRead _ => true
  | .fatalRequest a => a.wf
  | .pllLockLoss => true
  | .refclkBad _ => true
  | .calRun a => a.wf
  | .calRunDone _ => true
  | .witnessWrite => true
  | .freeze a => a.wf
  | .release a => a.wf
  | .mark a => a.wf
  | .readSequence a => a.wf
  | .domainDown => true
  | .domainUp => true
  | .wakePin _ => true
  | .msixUnmask u => match u with | .unmaskVector v => Nat.blt v 64 | _ => true
  | .coreAccess hart _ _ _ addr len bytes => Nat.blt hart 4 && Nat.blt addr (2 ^ 40) && Nat.ble 1 len && Nat.ble len 256 && bytesWf bytes
  | .bar2Access _ off len bytes => Nat.ble (off + len) (2 ^ 32) && Nat.ble 1 len && bytesWf bytes

end Sys2Proof
end

