-- ==== Sys2Proof/Safety.lean ====
section
/-! DEFINITION. The terms in which claims speak: the kinds of state a command may leave alone, the entries that every event, interrupt
and access keeps a record in, and the invariants a run keeps. -/

-- The proofs of this file are checked one after another, in one thread.
set_option Elab.async false

namespace Sys2Proof.Machine

/-- The kinds of state of the block. -/
inductive Part where
  | queue | clock | time | free | device | regs | staged | domains | owners | pool | reads | paths | out | mem | glaze | events | irq
  | witness | fuses | boot | pins | memory | wheel | cameras | prism | seam | engines | slip | kiln | gauge | umbra | loop | link
deriving DecidableEq, Repr

/-- Two states agree in a kind of state. -/
def Part.same : Part → State → State → Prop
  | .queue, s, t => t.pending = s.pending
  | .clock, s, t => t.now = s.now
  | .time, s, t => t.timeBase = s.timeBase ∧ t.timeC0 = s.timeC0 ∧ t.sync = s.sync
  | .free, s, t => t.free = s.free
  | .device, s, t => t.stateAt = s.stateAt
  | .regs, s, t => t.regs = s.regs
  | .staged, s, t => t.shadow = s.shadow ∧ t.shDom = s.shDom ∧ t.shDomLens = s.shDomLens
  | .domains, s, t => t.dom = s.dom ∧ t.domLens = s.domLens
  | .owners, s, t => t.own = s.own
  | .pool, s, t => t.sherds = s.sherds ∧ t.commitBands = s.commitBands
  | .reads, s, t => t.readData = s.readData
  | .paths, s, t => t.chal = s.chal ∧ t.xfers = s.xfers ∧ t.sessions = s.sessions
  | .out, s, t => t.udpOut = s.udpOut ∧ t.hostOut = s.hostOut ∧ t.ethOut = s.ethOut ∧ t.arp = s.arp
  | .mem, s, t => t.mem = s.mem
  | .glaze, s, t => t.glaze = s.glaze
  | .events, s, t => t.raised = s.raised ∧ t.tasks = s.tasks
  | .irq, s, t => t.holdEnds = s.holdEnds ∧ t.maskSetAt = s.maskSetAt ∧ t.arrived = s.arrived ∧ t.msix = s.msix
  | .witness, s, t => t.wbuf = s.wbuf ∧ t.wring = s.wring ∧ t.wgap = s.wgap ∧ t.faultTimes = s.faultTimes
  | .fuses, s, t => t.fuses = s.fuses
  | .boot, s, t => t.boot = s.boot ∧ t.power = s.power ∧ t.cores = s.cores ∧ t.coreFaults = s.coreFaults ∧ t.wdog = s.wdog ∧
      t.hot = s.hot ∧ t.calRecs = s.calRecs
  | .pins, s, t => t.gpioIn = s.gpioIn ∧ t.pins = s.pins
  | .memory, s, t => t.queues = s.queues ∧ t.drams = s.drams ∧ t.dmas = s.dmas
  | .wheel, s, t => t.encs = s.encs ∧ t.wheel = s.wheel ∧ t.gens = s.gens ∧ t.trigs = s.trigs ∧ t.cmps = s.cmps ∧
      t.probes = s.probes ∧ t.mirs = s.mirs
  | .cameras, s, t => t.cams = s.cams ∧ t.uplinks = s.uplinks
  | .prism, s, t => t.ctxs = s.ctxs ∧ t.pipes = s.pipes
  | .seam, s, t => t.seam = s.seam ∧ t.coding = s.coding ∧ t.wins = s.wins ∧ t.views = s.views
  | .engines, s, t => t.zes = s.zes ∧ t.cropJobs = s.cropJobs
  | .slip, s, t => t.slip = s.slip ∧ t.bars = s.bars
  | .kiln, s, t => t.ports = s.ports ∧ t.heads = s.heads ∧ t.scan = s.scan
  | .gauge, s, t => t.gas = s.gas ∧ t.syncAt = s.syncAt
  | .umbra, s, t => t.umb = s.umb
  | .loop, s, t => t.loop = s.loop
  | .link, s, t => t.skl = s.skl

/-- The second state differs from the first in no kind of state but the listed ones. -/
def Keeps (ps : List Part) (s t : State) : Prop := ∀ p, p ∉ ps → p.same s t

/-- A set of dictionary entries by key. A number of 2^32 or more is no entry's key, and every run of entries has it. -/
inductive KeySet where
  /-- one entry -/
  | one (k : Nat)
  /-- the entry of each of a group's `count` instances, `k` being instance 0's -/
  | fam (k count : Nat)
  /-- the entries from `lo` up to, not including, `hi` -/
  | span (lo hi : Nat)
  /-- the entry of a subindex in every group -/
  | sub (i : Nat)
  /-- every entry -/
  | all
deriving DecidableEq, Repr

/-- The set has the entry. -/
def KeySet.has : KeySet → Nat → Bool
  | .one a, k => k == a
  | .fam a n, k => (Nat.ble a k && Nat.blt k (a + 256 * n) && (k - a) % 256 == 0) || Nat.ble 4294967296 k
  | .span lo hi, k => (Nat.ble lo k && Nat.blt k hi) || Nat.ble 4294967296 k
  | .sub i, k => k % 256 == i
  | .all, _ => true

/-- Every live entry in none of the sets holds what it held. -/
def RegsKept (ks : List KeySet) (s t : State) : Prop := ∀ k, ks.any (·.has k) = false → t.rd k = s.rd k

/-- The second state differs from the first in the listed kinds of state and entries alone. -/
def Frame (ps : List Part) (ks : List KeySet) (s t : State) : Prop := Keeps ps s t ∧ RegsKept ks s t

/-- Entries in which every arrival, cut event and dropped Witness entry is counted, whatever raises it: Count and Pending of the
sources, ChannelStatus, LOOP_CUT, and the Witness's counts of drops (R422, R424, R425, R524, R525). -/
def sideKeys : List KeySet :=
  [.span (K.srcCount 0) (K.srcCount 0 + 512), .span (K.pendPending 0) (K.pendPending 0 + 8), .fam (K.chChannelStatus 0) 256,
   .one K.fabFabricStatus, .one K.fabLoopCuts, .one K.witDropped, .one K.witFrozenDrops, .one K.witWitnessStatus]

/-- Entries in which an access of a path leaves its record (R40, R63). -/
def accKeys : List KeySet :=
  [.one K.dictAccessCount, .fam (K.pathLastStatus 0) 7, .fam (K.pathLastEntry 0) 7, .fam (K.pathErrorCount 0) 7, .one K.dictErrorCount,
   .one K.dictLastErrorPath, .one K.dictLastErrorStatus, .one K.dictLastErrorEntry]

/-- The kinds of state that an event, an arrival or a Witness entry changes. -/
def sideParts : List Part := [.regs, .events, .irq, .witness]

/-- The listed kinds of state and those that an event changes. -/
def withSide (ps : List Part) : List Part := sideParts ++ ps

/-- The listed entries and those that an event counts in. -/
def sideAnd (ks : List KeySet) : List KeySet := sideKeys ++ ks

/-- The listed entries, an access's record, and the entries that an event counts in. -/
def accAnd (ks : List KeySet) : List KeySet := sideKeys ++ (accKeys ++ ks)

/-- The listed entries and the record that an access leaves when it is carried out (R40, R63). -/
def okAnd (a : Acc) (ks : List KeySet) : List KeySet :=
  [.one K.dictAccessCount, .one (K.pathLastStatus a.path), .one (K.pathLastEntry a.path)] ++ ks

/-- The same, and the entries that an event counts in. -/
def okSide (a : Acc) (ks : List KeySet) : List KeySet := sideKeys ++ okAnd a ks

/-- The entries of two lists. -/
def joinKeys (ks js : List KeySet) : List KeySet := ks ++ js

/-- A write of the entry is no command of its own, its chapter adds no refusal, and nothing follows from it. -/
def State.plainAt (s : State) (k : Nat) : Prop :=
  (∀ (a : Acc) (u : State), entryWrite a k u = storeWrite a k u) ∧ (∀ u : State, u.storeEffect k (s.rd k) = u) ∧ ∀ v, s.storeOwn k v = 0

/-- DRAM is in canonical form. -/
def State.memOk (s : State) : Prop := Memory.wf s.mem = true

/-- Every command that waits is well formed. -/
def State.queueOk (s : State) : Prop := s.pending.all Instr.wf = true

end Sys2Proof.Machine
end

