-- ==== Sys2Proof/Certificates/Slice0/Obligations.lean ====
section
/-! DEFINITION. The statements for the provers. Each says of a group of commands that they complete, what they do, and what they leave
alone; or what every command, or every step, keeps. -/

-- The proofs of this file are checked one after another, in one thread.
set_option Elab.async false

open Sys2Proof Sys2Proof.Machine

/-- O1. An item no longer than ItemBytes, offered with a credit, is stored padded with zeros to ItemBytes and counted in. A longer
one offered to an enabled queue is discarded whatever the credits: SizeErrors increments, SIZE_ERROR is set with its source,
Q_SIZE_ERROR is raised, and the queue holds what it held. So a tag of Umbra fills 64 bytes exactly, and a Gauge record of 16 bytes
occupies 64. -/
def Obligations.ItemsFitTheirQueue : Prop :=
  (∀ (q : Nat) (item : List Nat) (s : State), q < 64 → item.length ≤ s.rd (K.qItemBytes q) → s.queCredits q ≠ 0 →
    ∃ t, exec (.queueItemWrite q item) s = .next t ∧
      t.que q = quePut (s.bankSlots q) (s.que q) { bytes := item ++ List.replicate (s.rd (K.qItemBytes q) - item.length) 0, stamp := s.now } ∧
      t.rd (K.qsItemsIn q) = (s.rd (K.qsItemsIn q) + 1) % 2 ^ 64 ∧ (∀ r, r ≠ q → t.que r = s.que r) ∧
      Frame [.regs, .memory] [.one (K.qsFill q), .one (K.qsFillPeak q), .one (K.qsItemsIn q)] s t) ∧
  (∀ (q : Nat) (item : List Nat) (s : State), q < 64 → s.on (K.qQueueEnable q) = true → s.rd (K.qItemBytes q) < item.length →
    ∃ t, exec (.queueItemWrite q item) s = .next t ∧
      t = ((s.inc 32 K.quesSizeErrors).flag (K.qsQueueStatus q) 1 116).raise Ev.qSizeError ∧ t.que q = s.que q ∧
      t.queCredits q = s.queCredits q ∧ t.rd K.quesSizeErrors = (s.rd K.quesSizeErrors + 1) % 2 ^ 32 ∧ t.bit (K.qsQueueStatus q) 0 = true ∧
      Frame sideParts (sideAnd [.one K.quesSizeErrors, .one (K.qsQueueStatus q)]) s t) ∧
  (∀ (id : Nat) (x : Tag), (tagBytes id x).length = 64) ∧
  (∀ l : List Nat, l.length = 16 → (padTo 64 l).length = 64 ∧ (padTo 64 l).take 16 = l)

/-- O2. A column index outside 0..W − 1 is reflected: −j below 0 and 2(W − 1) − j above W − 1; W being even, the reflected column
has the colour of the one asked for, whatever the mosaic phase and row. -/
def Obligations.ColumnReflection : Prop :=
  ∀ (w : Nat) (j : Int), w % 2 = 0 → 0 < w → -(w : Int) < j → j < 2 * (w : Int) - 1 →
    (j < 0 → (reflect w j : Int) = -j) ∧ ((w : Int) - 1 < j → (reflect w j : Int) = 2 * ((w : Int) - 1) - j) ∧
    (0 ≤ j → j ≤ (w : Int) - 1 → (reflect w j : Int) = j) ∧
    (∀ phase row col : Nat, (col : Int) % 2 = j % 2 → mosaicColour phase row (reflect w j) = mosaicColour phase row col)

/-- O3. The counter C, which TimeCounter shows in 64 bits, increments at each FABCLK, which in this model is a step on an empty
queue (log 3); power-on reset clears it, warm reset leaves it counting, and a write to it is refused and changes nothing of it. -/
def Obligations.TimeCounter : Prop :=
  (∀ s : State, s.shown K.timeTimeCounter = s.now % 2 ^ 64) ∧
  (∀ s : State, s.pending = [] → ∃ t, step s = .next t ∧ t.now = s.now + 1 ∧ t.shown K.timeTimeCounter = (s.shown K.timeTimeCounter + 1) % 2 ^ 64) ∧
  (∀ s : State, ∃ t, exec .powerOnReset s = .next t ∧ t.shown K.timeTimeCounter = 0) ∧
  (∀ s : State, ∃ t, exec .warmReset s = .next t ∧ t.shown K.timeTimeCounter = s.shown K.timeTimeCounter) ∧
  (∀ (a : Acc) (s : State), s.writeStatus a K.timeTimeCounter ≠ 0 ∧
    ∃ t, exec (.dictWrite a K.timeTimeCounter) s = .next t ∧ t.shown K.timeTimeCounter = s.shown K.timeTimeCounter)

/-- O4. With a command at the front of the queue, a step is exec of that command on the state with the queue's rest. -/
def Obligations.StepRunsFrontCommand : Prop :=
  ∀ (c : Instr) (rest : List Instr) (s : State), step { s with pending := c :: rest } = exec c { s with pending := rest }

/-- O5. On an empty queue a step advances the time counter C by one and changes nothing else: the FABCLK tick of R488, which is
the model's choice of what an idle step does (log 3). -/
def Obligations.IdleStepCountsClock : Prop :=
  ∀ s : State, s.pending = [] → ∃ t, step s = .next t ∧ t.now = s.now + 1 ∧ Frame [.clock] [] s t

/-- O6. In State.reset the device is in RESET, no command waits, C is 0, every entry holds its default, every index has its
descriptor owner, security and lock, nothing is staged, DRAM is in canonical form, and no fuse but the Felval key is blown. The
values of registers whose default the spec marks with a dash, and of unwritten DRAM, are the model's (logs 4 and 6). -/
def Obligations.ResetState : Prop :=
  State.reset.dev = stReset ∧ State.reset.pending = [] ∧ State.reset.now = 0 ∧ (∀ k, State.reset.rd k = dflt k) ∧
  (∀ k, State.reset.sh k = dflt k) ∧ (∀ i, State.reset.ownByte i = ownDflt i) ∧ State.reset.memOk ∧ State.reset.queueOk ∧
  State.reset.fuses.version = 0 ∧ State.reset.fuses.revoked = 0 ∧ State.reset.fuses.burn = none

/-- O7. From every state whose DRAM lists strictly rising addresses and no byte equal to what an unlisted address reads as, every
step that answers a next state answers one whose DRAM has that form. -/
def Obligations.StepKeepsMemoryCanonical : Prop :=
  ∀ s t : State, s.memOk → step s = .next t → t.memOk

/-- O8. Fuses are one-time: over every step, whatever the command, the fused security version does not fall, no revoked key slot
comes back, and the key hashes stay as they are. -/
def Obligations.StepKeepsFuses : Prop :=
  ∀ s t : State, step s = .next t →
    s.fuses.version ≤ t.fuses.version ∧ (∀ i, bitOf s.fuses.revoked i = true → bitOf t.fuses.revoked i = true) ∧
    t.fuses.keyHash = s.fuses.keyHash

/-- O9. Over every step the queue loses its front command and nothing else: no command of the table adds, drops or reorders a
waiting one. -/
def Obligations.StepConsumesOneCommand : Prop :=
  ∀ s t : State, step s = .next t → t.pending = s.pending.tail

/-- O10. Every command of the table answers a next state or the fault noSuchInstance, and none is refused; the well-formed
commands with no instance operand out of range always answer a next state. -/
def Obligations.CommandsStopOnlyOnBadInstance : Prop :=
  ∀ (c : Instr) (s : State), (∃ t, exec c s = .next t) ∨ exec c s = .fault .noSuchInstance

/-- O11. POWER_ON_RESET and SUPPLY_DETECT leave every entry at its default, the device in RESET, every DOMAIN, staged value and
DRAM byte gone, owners and locks at their defaults and C at 0; the fuses stay, and a burn under way ends (log 3). -/
def Obligations.PowerOnResetCommands : Prop :=
  (∀ s : State, ∃ t, exec .powerOnReset s = .next t ∧ (∀ k, t.rd k = dflt k) ∧ t.dev = stReset ∧ t.now = 0 ∧ t.mem = [] ∧ t.own = [] ∧
    t.dom = [] ∧ t.shadow = [] ∧ t.fuses = { s.fuses with burn := none } ∧ t.gpioIn = s.gpioIn) ∧
  (∀ s : State, ∃ t, exec .supplyDetect s = .next t ∧ (∀ k, t.rd k = dflt k) ∧ t.dev = stReset ∧ t.now = 0 ∧ t.mem = [] ∧ t.own = [] ∧
    t.dom = [] ∧ t.shadow = [] ∧ t.fuses = { s.fuses with burn := none } ∧ t.gpioIn = s.gpioIn)

/-- O12. WARM_RESET outside RESET, and RESET_REQUEST with 0x5752, put the device in RESET with their ResetCause and count a warm
reset; DRAM, the Witness ring, C, device time, RateAdj, the fatal record and the fuses are kept, every other entry of the identity
and Wheel ranges is at its default, and owners, locks and staged values are gone. Any other value is refused with ERR_RANGE and
resets nothing. -/
def Obligations.WarmResetCommands : Prop :=
  (∀ s : State, s.dev ≠ stReset → ∃ t, exec .warmReset s = .next t ∧ t.dev = stReset ∧ t.rd K.rstResetCause = 2 ∧
    t.rd K.rstWarmResets = (s.rd K.rstWarmResets + 1) % 2 ^ 32 ∧ t.rd K.timeRateAdj = s.rd K.timeRateAdj ∧
    t.rd K.fltFatalCode = s.rd K.fltFatalCode ∧ (∀ k, 0x200000 ≤ k → k < 0x400000 → t.rd k = dflt k) ∧ t.mem = s.mem ∧ t.wring = s.wring ∧
    t.now = s.now ∧ t.timeBase = s.timeBase ∧ t.timeC0 = s.timeC0 ∧ t.fuses = { s.fuses with burn := none } ∧ t.own = [] ∧ t.shadow = []) ∧
  (∀ (a : Acc) (s : State), s.writeStatus a K.rstResetRequest = 0 → accVal a K.rstResetRequest = 0x5752 →
    ∃ t, exec (.resetRequest a) s = .next t ∧ t.dev = stReset ∧ t.rd K.rstResetCause = 3 ∧ t.mem = s.mem ∧ t.wring = s.wring ∧
      t.now = s.now ∧ t.rd K.timeRateAdj = s.rd K.timeRateAdj ∧ t.own = [] ∧ t.shadow = []) ∧
  (∀ (a : Acc) (s : State), s.writeStatus a K.rstResetRequest = 0 → accVal a K.rstResetRequest ≠ 0x5752 →
    exec (.resetRequest a) s = .next (s.done a K.rstResetRequest 8))

/-- O13. RESET_RELEASE in RESET samples the straps, locks the root PLL and enters BOOT with the first source the straps select;
straps of 3 end boot with BAD_STRAP, which is FAULT with fatal code 9. The fuses are shown in their entries. -/
def Obligations.ResetReleaseCommand : Prop :=
  (∀ (straps : Nat) (s : State), s.dev = stReset → straps % 4 ≠ 3 → ∃ t, exec (.resetRelease straps) s = .next t ∧ t.dev = stBoot ∧
    t.rd K.rstBootSel = straps % 4 ∧ t.rd K.clkRootPllLocked = 1 ∧ t.rd K.bootFusedSecurityVersion = s.fuses.version ∧
    t.rd K.bootKeyRevoked = s.fuses.revoked ∧ t.boot.sources = strapSources (straps % 4) ∧ t.mem = s.mem ∧ t.fuses = s.fuses ∧
    t.dom = s.dom ∧ t.own = s.own) ∧
  (∀ (straps : Nat) (s : State), s.dev = stReset → straps % 4 = 3 → ∃ t, exec (.resetRelease straps) s = .next t ∧ t.dev = stFault ∧
    t.rd K.fltFatalCode = 9 ∧ t.rd K.bootBootStatus = 2 ∧ t.boot.phase = .failed ∧ t.mem = s.mem ∧ t.fuses = s.fuses)

/-- O14. An image whose header and configuration pass R541 and R542 sets the DRAM configuration and trains the used channels; a
wrong Magic goes on to the next source; trained channels are READY and a used channel that fails is fatal code 2; zeroing empties
DRAM; a payload that passes R543 is loaded at LoadAddress, its slot and version are shown, and core 0 starts at EntryPoint; one
that fails shows the failure and goes on to the next source. -/
def Obligations.BootImageCommands : Prop :=
  (∀ (image : List Nat) (s : State), s.dev = stBoot → s.boot.phase = .header → hdr image 0 4 = 0x54424E47 → hdrOk image (cfgPopulated image) = true →
    cfgOk image = true → s.boot.warm = false → s.boot.trained ≠ some (cfgDram image) → ∃ t, exec (.bootHeaderRead image true) s = .next t ∧
    t.boot.phase = .training ∧ t.boot.image = image ∧ t.rd K.dramDramPopulated = cfgPopulated image ∧ t.rd K.dramChannelsPresent = cfgUsed image ∧
    t.rd K.dramInterleave = cfgInterleave image ∧ Frame [.regs, .boot] [.fam (K.dcCapacity 0) 4, .fam (K.dcDataRate 0) 4, .fam (K.dcDeviceDensity 0)
    4, .fam (K.dcDeviceWidth 0) 4, .fam (K.dcMemoryType 0) 4, .fam (K.dcRanks 0) 4, .fam (K.dcTrfc 0) 4, .fam (K.dcsChannelState 0) 4, .one
    K.dramChannelsPresent, .one K.dramDramPopulated, .one K.dramInterleave] s t) ∧
  (∀ (image : List Nat) (src src' : Nat) (l : List Nat) (s : State), s.dev = stBoot → s.boot.phase = .header → hdr image 0 4 ≠ 0x54424E47 →
    s.boot.sources = src :: src' :: l → ∃ t, exec (.bootHeaderRead image true) s = .next t ∧ t.rd K.bootBootStatus = 3 ∧ t.rd K.bootBootSource = src'
    ∧ t.boot.sources = src' :: l ∧ t.boot.phase = sourcePhase src' ∧ Frame [.regs, .boot] [.one K.bootBootStatus, .one K.bootBootSource] s t) ∧
  (∀ (failed : Nat) (s : State), s.dev = stBoot → s.boot.phase = .training → s.failedUsed failed = [] → ∃ t, exec (.dramTrainDone failed) s = .next t
    ∧ (∀ n < 4, s.bit K.dramChannelsPresent n = true → t.rd (K.dcsChannelState n) = 2) ∧ t.boot.phase = (if s.boot.warm then .payload else .zeroing) ∧
    Frame (withSide [.boot, .memory]) (sideAnd [.fam (K.dcsChannelState 0) 4, .one K.calCalStatus]) s t) ∧
  (∀ (failed n : Nat) (l : List Nat) (s : State), s.dev = stBoot → s.boot.phase = .training → s.failedUsed failed = n :: l → ∃ t, exec (.dramTrainDone
    failed) s = .next t ∧ t.dev = stFault ∧ t.rd K.fltFatalCode = 2 ∧ t.rd K.fltFatalData = n ∧ t.rd K.bootBootStatus = 10 ∧ t.boot.phase = .failed ∧
    Frame (withSide [.device, .staged, .pool, .paths, .boot, .memory]) [.all] s t) ∧
  (∀ (s : State), s.dev = stBoot → s.boot.phase = .zeroing → ∃ t, exec .dramZeroDone s = .next t ∧ t.mem = [] ∧ t.boot =
    { s.boot with phase := .payload } ∧ Frame [.mem, .boot] [] s t) ∧
  (∀ (payload sig l : List Nat) (r src src' : Nat) (s : State), s.dev = stBoot → s.boot.phase = .payload → payload.length + restStart s.boot.image =
    hdrSignatureOffset s.boot.image → sig.length = 96 → keyCheck s.fuses s.boot.image payload sig = r → s.boot.sources = src :: src' :: l → ∃ t, exec
    (.payloadLoaded payload sig true) s = .next t ∧ t.rd K.bootBootStatus = r ∧ (r = 1 → t.boot.phase = .accepted ∧ t.boot.accepted = true ∧ t.cores =
    [(0, hdrEntryPoint s.boot.image)] ∧ t.rd K.coreCoresRunning = 1 ∧ t.rd K.bootKeySlotUsed = hdrKeySlot s.boot.image ∧ t.rd
    K.bootImageSecurityVersion = hdrSecurityVersion s.boot.image ∧ t.mem = memPuts s.mem (hdrLoadAddress s.boot.image) (payload.drop (hdrPayloadOffset
    s.boot.image - restStart s.boot.image))) ∧ (r ≠ 1 → t.rd K.bootBootSource = src' ∧ t.boot.sources = src' :: l ∧ t.boot.phase = sourcePhase src' ∧
    t.cores = s.cores) ∧ Frame [.regs, .mem, .boot] [.one K.coreCoresRunning, .one K.bootBootStatus, .one K.bootBootSource, .one K.bootKeySlotUsed,
    .one K.bootImageSecurityVersion] s t)

/-- O15. BOOT_GO with a good length and address starts the fetch and is refused with ERR_RANGE otherwise; BOOT_COMPLETE in BOOT
with an accepted image enters STOPPED; ADVANCE_SECURITY_VERSION and REVOKE_KEY start a burn of 10 ms, and FUSE_BURN_DONE blows the
fuse and shows it; CORE_RELEASE starts cores that do not run at CoreEntry. -/
def Obligations.BootEntryCommands : Prop :=
  (∀ (a : Acc) (s : State), s.writeStatus a K.bhostBootGo = 0 → s.bootHostOk = true → s.hostFetching = false → accVal a K.bhostBootGo = 1 →
    s.boot.phase = .waitHost → ∃ t, exec (.bootGo a) s = .next t ∧ t.boot = { s.boot with phase := .header } ∧ t.rd (K.pathLastStatus a.path) = 0 ∧
    Frame [.regs, .boot] (okAnd a []) s t) ∧
  (∀ (a : Acc) (s : State), s.writeStatus a K.bhostBootGo = 0 → s.bootHostOk = false → exec (.bootGo a) s = .next (s.done a K.bhostBootGo 8)) ∧
  (∀ (a : Acc) (s : State), s.writeStatus a K.bootBootComplete = 0 → accVal a K.bootBootComplete = 1 → s.dev = stBoot → s.boot.accepted = true → ∃ t,
    exec (.bootComplete a) s = .next t ∧ t.dev = stStopped ∧ t.rd K.bootBootTime = s.time ∧ t.wdog = { since := s.now } ∧ t.rd (K.pathLastStatus
    a.path) = 0 ∧ Frame (withSide [.device, .boot]) (okSide a [.one K.bootBootTime, .one K.devDeviceState, .one K.devStateChanges, .one
    K.devStateTime]) s t) ∧
  (∀ (a : Acc) (s : State), s.writeStatus a K.fuseAdvanceSecurityVersion = 0 → s.fuses.version < accVal a K.fuseAdvanceSecurityVersion → accVal a
    K.fuseAdvanceSecurityVersion ≤ s.rd K.bootImageSecurityVersion → s.fuses.burn = none → ∃ t, exec (.advanceSecurityVersion a) s = .next t ∧ t.fuses
    = { s.fuses with burn := some { revoke := false, value := accVal a K.fuseAdvanceSecurityVersion, due := s.now + ms 10 } } ∧ t.rd (K.pathLastStatus
    a.path) = 0 ∧ Frame [.regs, .fuses] (okAnd a []) s t) ∧
  (∀ (a : Acc) (s : State), s.writeStatus a K.fuseRevokeKey = 0 → accVal a K.fuseRevokeKey ≤ 3 → accVal a K.fuseRevokeKey ≠ s.rd K.bootKeySlotUsed →
    s.fuses.burn = none → ∃ t, exec (.revokeKey a) s = .next t ∧ t.fuses =
    { s.fuses with burn := some { revoke := true, value := accVal a K.fuseRevokeKey, due := s.now + ms 10 } } ∧ t.rd (K.pathLastStatus a.path) = 0 ∧
    Frame [.regs, .fuses] (okAnd a []) s t) ∧
  (∀ (b : Burn) (s : State), s.fuses.burn = some b → ∃ t, exec .fuseBurnDone s = .next t ∧ t.fuses.burn = none ∧ (b.revoke = false → t.fuses.version =
    max s.fuses.version b.value ∧ t.rd K.bootFusedSecurityVersion = t.fuses.version ∧ t.fuses.revoked = s.fuses.revoked) ∧ (b.revoke = true → bitOf
    t.fuses.revoked b.value = true ∧ t.rd K.bootKeyRevoked = t.fuses.revoked ∧ t.fuses.version = s.fuses.version) ∧ Frame [.regs, .fuses] [.one
    K.bootFusedSecurityVersion, .one K.bootKeyRevoked] s t) ∧
  (∀ (a : Acc) (s : State), s.writeStatus a K.coreCoreRelease = 0 → ∃ t, exec (.coreRelease a) s = .next t ∧ (∀ h, 1 ≤ h → h ≤ 3 → bitOf (accVal a
    K.coreCoreRelease) h = true → s.bit K.coreCoresRunning h = false → t.bit K.coreCoresRunning h = true ∧ tfind t.cores h = some (s.rd
    K.coreCoreEntry)) ∧ t.rd (K.pathLastStatus a.path) = 0 ∧ Frame [.regs, .boot] (okAnd a [.one K.coreCoresRunning]) s t)

/-- O16. ARM in STOPPED, after the scan and calibrations end, enters ARMED when none of its preconditions fails, and is refused
with RequestStatus 2 and EMPTY_RUN when RunMask has no mask; RUN in ARMED with StartSource COMMAND enters RUNNING with Origin;
SLEEP in STOPPED enters STANDBY when no wake condition holds; WAKE in STANDBY asleep starts WAKING; a request not listed for the
state is answered WRONG_STATE and changes nothing else. -/
def Obligations.DeviceRequests : Prop :=
  (∀ (a : Acc) (acks : Nat) (s : State), s.writeStatus { a with value := 1 } K.devStateRequest = 0 → s.dev = stStopped → (s.endTests acks).jobMismatch
    = false → (s.endTests acks).armCause = 0 → ∃ t, exec (.arm a acks) s = .next t ∧ t.dev = stArmed ∧ t.rd K.devRequestStatus = 0 ∧ t.rd
    K.devRequestCause = 0 ∧ t.rd (K.pathLastStatus a.path) = 0 ∧ Frame (withSide [.free, .device, .mem, .boot, .pins, .memory, .engines, .slip, .kiln,
    .gauge, .umbra, .loop]) (okSide a (joinKeys [.fam (K.gasActiveBank 0) 16, .fam (K.gasCalStatus 0) 16, .fam (K.gasFadeState 0) 16, .fam
    (K.gasLatest 0) 16, .fam (K.gasLost 0) 16, .fam (K.gasSamples 0) 16, .fam (K.gasSettleLeft 0) 16, .fam (K.gasStatus 0) 16, .fam (K.khHeadState 0)
    128, .fam (K.khHeadStatus 0) 128, .fam (K.kpFaultCount 0) 32, .fam (K.kpLastFaultTime 0) 32, .fam (K.kpPortState 0) 32, .fam (K.kpPortStatus 0)
    32, .fam (K.portBytesWritten 0) 12, .fam (K.qsFill 0) 64, .fam (K.qsFillPeak 0) 64, .fam (K.qsItemsIn 0) 64, .fam (K.qsNoCreditCount 0) 64, .fam
    (K.qsQueueStatus 0) 64, .fam (K.zesBytesIn 0) 6, .fam (K.zesBytesOut 0) 6, .fam (K.zesEngineState 0) 6, .fam (K.zesEngineStatus 0) 6] (joinKeys
    [.fam (K.zesErrorCount 0) 6, .fam (K.zesJobHead 0) 6, .fam (K.zesJobsDone 0) 6, .fam (K.zesLastStatus 0) 6, .fam (K.zesVerifyFails 0) 6, .one
    K.calCalRunStatus, .one K.devDeviceState, .one K.devRequestCause, .one K.devRequestStatus, .one K.devStateChanges, .one K.devStateTime, .one
    K.dramLastMapError, .one K.dramMapErrors, .one K.dramMemStatus, .one K.fltFaultStatus, .one K.fltLastRetiredUnit, .one K.fltRetiredCount, .one
    K.fltTransientCount, .one K.gauScanHold, .one K.kilnActiveHeads, .one K.kilnKilnStatus, .one K.quesSizeErrors, .one K.scanScanStatus, .one
    K.slipJobState] [.one K.slipLeadBar, .one K.slipStatus, .one K.slipVarReadIndex, .one K.zeReserved]))) s t) ∧
  (∀ (a : Acc) (acks : Nat) (s : State), s.writeStatus { a with value := 1 } K.devStateRequest = 0 → s.dev = stStopped → (s.endTests acks).inspecting
    = false → (s.endTests acks).printing = false → ∃ t, exec (.arm a acks) s = .next t ∧ t.dev = stStopped ∧ t.rd K.devRequestStatus = 2 ∧ t.rd
    K.devRequestCause = 2 ∧ t.rd (K.pathLastStatus a.path) = 0 ∧ Frame (withSide [.free, .device, .mem, .boot, .pins, .memory, .engines, .slip, .kiln,
    .gauge, .umbra, .loop]) (okSide a (joinKeys [.fam (K.gasActiveBank 0) 16, .fam (K.gasCalStatus 0) 16, .fam (K.gasFadeState 0) 16, .fam
    (K.gasLatest 0) 16, .fam (K.gasLost 0) 16, .fam (K.gasSamples 0) 16, .fam (K.gasSettleLeft 0) 16, .fam (K.gasStatus 0) 16, .fam (K.khHeadState 0)
    128, .fam (K.khHeadStatus 0) 128, .fam (K.kpFaultCount 0) 32, .fam (K.kpLastFaultTime 0) 32, .fam (K.kpPortState 0) 32, .fam (K.kpPortStatus 0)
    32, .fam (K.portBytesWritten 0) 12, .fam (K.qsFill 0) 64, .fam (K.qsFillPeak 0) 64, .fam (K.qsItemsIn 0) 64, .fam (K.qsNoCreditCount 0) 64, .fam
    (K.qsQueueStatus 0) 64, .fam (K.zesBytesIn 0) 6, .fam (K.zesBytesOut 0) 6, .fam (K.zesEngineState 0) 6, .fam (K.zesEngineStatus 0) 6] (joinKeys
    [.fam (K.zesErrorCount 0) 6, .fam (K.zesJobHead 0) 6, .fam (K.zesJobsDone 0) 6, .fam (K.zesLastStatus 0) 6, .fam (K.zesVerifyFails 0) 6, .one
    K.calCalRunStatus, .one K.devDeviceState, .one K.devRequestCause, .one K.devRequestStatus, .one K.devStateChanges, .one K.devStateTime, .one
    K.dramLastMapError, .one K.dramMapErrors, .one K.dramMemStatus, .one K.fltFaultStatus, .one K.fltLastRetiredUnit, .one K.fltRetiredCount, .one
    K.fltTransientCount, .one K.gauScanHold, .one K.kilnActiveHeads, .one K.kilnKilnStatus, .one K.quesSizeErrors, .one K.scanScanStatus, .one
    K.slipJobState] [.one K.slipLeadBar, .one K.slipStatus, .one K.slipVarReadIndex, .one K.zeReserved]))) s t) ∧
  (∀ (a : Acc) (s : State), s.writeStatus { a with value := 2 } K.devStateRequest = 0 → s.dev = stArmed → s.rd K.devStartSource = 0 → ∃ t, exec (.run
    a) s = .next t ∧ t.dev = stRunning ∧ t.rd K.devRequestStatus = 0 ∧ t.rd K.devRequestCause = 0 ∧ t.rd K.whlOrigin = ofI 64 (-floorDiv (-s.webP) (2
    ^ 32)) ∧ t.rd (K.pathLastStatus a.path) = 0 ∧ Frame (withSide [.device, .out, .mem, .memory, .wheel, .cameras, .prism, .seam, .slip, .umbra,
    .loop]) (okSide a (joinKeys [.fam (K.ctxsReplayNext 0) 12, .fam (K.ethsFramesOut 0) 2, .fam (K.ethsPortStatus 0) 2, .fam (K.ethsViewDrops 0) 2,
    .fam (K.lslotFreshW 0) 8, .fam (K.portBytesWritten 0) 12, .fam (K.qsFill 0) 64, .fam (K.qsFillPeak 0) 64, .fam (K.qsItemsIn 0) 64, .fam
    (K.qsNoCreditCount 0) 64, .fam (K.qsQueueStatus 0) 64, .fam (K.viewsFrames 0) 8, .one K.devDeviceState, .one K.devRequestCause, .one
    K.devRequestStatus, .one K.devStateChanges, .one K.devStateTime, .one K.dramLastMapError, .one K.dramMapErrors, .one K.dramMemStatus, .one
    K.loopsWindow, .one K.quesSizeErrors, .one K.seamsRecordsLost, .one K.seamsStatus] [.one K.slipJobState, .one K.slipRingFront, .one K.umbsWarmup,
    .one K.whlOrigin])) s t) ∧
  (∀ (a : Acc) (acks : Nat) (s : State), s.writeStatus { a with value := 5 } K.devStateRequest = 0 → s.dev = stStopped → (s.endTests acks).wakeHolds =
    false → ∃ t, exec (.sleep a acks) s = .next t ∧ t.dev = stStandby ∧ t.rd K.devRequestStatus = 0 ∧ t.rd K.devRequestCause = 0 ∧ t.rd
    (K.pathLastStatus a.path) = 0 ∧ Frame (withSide [.free, .device, .boot, .pins, .memory, .kiln, .gauge, .loop]) (okSide a (joinKeys [.fam
    (K.gasActiveBank 0) 16, .fam (K.gasCalStatus 0) 16, .fam (K.gasFadeState 0) 16, .fam (K.gasLatest 0) 16, .fam (K.gasLost 0) 16, .fam (K.gasSamples
    0) 16, .fam (K.gasSettleLeft 0) 16, .fam (K.gasStatus 0) 16, .fam (K.khHeadState 0) 128, .fam (K.khHeadStatus 0) 128, .fam (K.kpFaultCount 0) 32,
    .fam (K.kpLastFaultTime 0) 32, .fam (K.kpPortState 0) 32, .fam (K.kpPortStatus 0) 32, .fam (K.qsFill 0) 64, .fam (K.qsFillPeak 0) 64, .fam
    (K.qsItemsIn 0) 64, .fam (K.qsNoCreditCount 0) 64, .fam (K.qsQueueStatus 0) 64, .one K.calCalRunStatus, .one K.devDeviceState, .one
    K.devRequestCause, .one K.devRequestStatus, .one K.devStateChanges] [.one K.devStateTime, .one K.fltFaultStatus, .one K.fltLastRetiredUnit, .one
    K.fltRetiredCount, .one K.fltTransientCount, .one K.gauScanHold, .one K.kilnActiveHeads, .one K.kilnKilnStatus, .one K.pwrPowerPhase, .one
    K.pwrSleepRefusals, .one K.pwrSleeps, .one K.pwrWakeCause, .one K.quesSizeErrors, .one K.scanScanStatus])) s t) ∧
  (∀ (a : Acc) (s : State), s.writeStatus { a with value := 6 } K.devStateRequest = 0 → s.dev = stStandby → s.rd K.pwrPowerPhase = 2 → s.maskedDomains
    ≠ [] → ∃ t, exec (.wake a) s = .next t ∧ t.dev = stStandby ∧ t.rd K.pwrPowerPhase = 3 ∧ t.power.todo = s.maskedDomains.reverse ∧ t.power.due =
    s.now + us 50 ∧ t.rd K.devRequestStatus = 0 ∧ t.rd K.devRequestCause = 0 ∧ t.rd (K.pathLastStatus a.path) = 0 ∧ Frame (withSide [.boot]) (okSide a
    [.one K.devRequestCause, .one K.devRequestStatus, .one K.pwrPowerPhase]) s t) ∧
  (∀ (a : Acc) (s : State), s.writeStatus { a with value := 2 } K.devStateRequest = 0 → s.dev ≠ stArmed → s.dev ≠ stDraining → ∃ t, exec (.run a) s =
    .next t ∧ t.rd K.devRequestStatus = 1 ∧ t.rd K.devRequestCause = 1 ∧ t.rd (K.pathLastStatus a.path) = 0 ∧ Frame [.regs] (okAnd a [.one
    K.devRequestCause, .one K.devRequestStatus]) s t)

/-- O17. STOP in RUNNING enters DRAINING with StopCause 1, in ARMED it enters STOPPED, and in DRAINING it ends the drain with
StopCause 7; DISARM in ARMED enters STOPPED; the DEV_STOP task in RUNNING enters DRAINING with StopCause 6; DRAINING ends in
STOPPED when its conditions are met, or after DrainTimeout with StopCause 3. -/
def Obligations.DeviceStops : Prop :=
  (∀ (a : Acc) (s : State), s.writeStatus { a with value := 3 } K.devStateRequest = 0 → s.dev = stRunning → ∃ t, exec (.stop a) s = .next t ∧ t.dev =
    stDraining ∧ t.rd K.devStopCause = 1 ∧ t.rd K.devRequestStatus = 0 ∧ t.rd K.devRequestCause = 0 ∧ t.rd (K.pathLastStatus a.path) = 0 ∧ Frame
    (withSide [.device, .wheel, .cameras, .prism, .seam, .slip, .kiln, .umbra, .loop]) (okSide a [.fam (K.khHeadState 0) 128, .fam (K.zesEngineState
    0) 6, .one K.cropsCropWriteOffset, .one K.devDeviceState, .one K.devRequestCause, .one K.devRequestStatus, .one K.devStateChanges, .one
    K.devStateTime, .one K.devStopCause, .one K.slipJobState, .one K.slipStopLine, .one K.umbsOpenComponents, .one K.umbsOpenPeak, .one K.zeReserved])
    s t) ∧
  (∀ (a : Acc) (s : State), s.writeStatus { a with value := 3 } K.devStateRequest = 0 → s.dev = stArmed → ∃ t, exec (.stop a) s = .next t ∧ t.dev =
    stStopped ∧ t.rd K.devStopCause = s.rd K.devStopCause ∧ t.rd K.devRequestStatus = 0 ∧ t.rd K.devRequestCause = 0 ∧ t.rd (K.pathLastStatus a.path)
    = 0 ∧ Frame (withSide [.device, .wheel, .cameras, .prism, .seam, .slip, .kiln, .umbra, .loop]) (okSide a [.fam (K.khHeadState 0) 128, .fam
    (K.zesEngineState 0) 6, .one K.cropsCropWriteOffset, .one K.devDeviceState, .one K.devRequestCause, .one K.devRequestStatus, .one
    K.devStateChanges, .one K.devStateTime, .one K.devStopCause, .one K.slipJobState, .one K.slipStopLine, .one K.umbsOpenComponents, .one
    K.umbsOpenPeak, .one K.zeReserved]) s t) ∧
  (∀ (a : Acc) (s : State), s.writeStatus { a with value := 3 } K.devStateRequest = 0 → s.dev = stDraining → ∃ t, exec (.stop a) s = .next t ∧ t.dev =
    stStopped ∧ t.rd K.devStopCause = 7 ∧ t.rd K.devRequestStatus = 0 ∧ t.rd K.devRequestCause = 0 ∧ t.rd (K.pathLastStatus a.path) = 0 ∧ Frame
    (withSide [.device, .wheel, .cameras, .prism, .seam, .slip, .kiln, .umbra, .loop]) (okSide a [.fam (K.khHeadState 0) 128, .fam (K.zesEngineState
    0) 6, .one K.cropsCropWriteOffset, .one K.devDeviceState, .one K.devRequestCause, .one K.devRequestStatus, .one K.devStateChanges, .one
    K.devStateTime, .one K.devStopCause, .one K.slipJobState, .one K.slipStopLine, .one K.umbsOpenComponents, .one K.umbsOpenPeak, .one K.zeReserved])
    s t) ∧
  (∀ (a : Acc) (s : State), s.writeStatus { a with value := 4 } K.devStateRequest = 0 → s.dev = stArmed → ∃ t, exec (.disarm a) s = .next t ∧ t.dev =
    stStopped ∧ t.rd K.devRequestStatus = 0 ∧ t.rd K.devRequestCause = 0 ∧ t.rd (K.pathLastStatus a.path) = 0 ∧ Frame (withSide [.device, .wheel,
    .kiln]) (okSide a [.fam (K.khHeadState 0) 128, .fam (K.zesEngineState 0) 6, .one K.devDeviceState, .one K.devRequestCause, .one
    K.devRequestStatus, .one K.devStateChanges, .one K.devStateTime, .one K.slipJobState, .one K.zeReserved]) s t) ∧
  (∀ (d : Delivery) (u : State) (s : State), s.takeTask 0 = some (d, u) → s.dev = stRunning → ∃ t, exec .devStop s = .next t ∧ t.dev = stDraining ∧
    t.rd K.devStopCause = 6 ∧ t.tasks = u.tasks ∧ Frame (withSide [.device, .slip, .kiln, .loop]) (sideAnd [.one K.devDeviceState, .one
    K.devStateChanges, .one K.devStateTime, .one K.devStopCause, .one K.slipJobState, .one K.slipStopLine]) s t) ∧
  (∀ (s : State), s.dev = stDraining → ((s.printing = true → s.barsOn.all s.barDrained = true)) → ((s.inspecting = true → s.bandsDrained = true ∧
    s.umb.comps = [] ∧ s.umb.closed = [])) → ∃ t, exec .drainComplete s = .next t ∧ t.dev = stStopped ∧ t.rd K.devStopCause = s.rd K.devStopCause ∧
    Frame (withSide [.device, .wheel, .engines, .kiln, .umbra]) (sideAnd [.fam (K.khHeadState 0) 128, .fam (K.zesEngineState 0) 6, .one
    K.cropsCropWriteOffset, .one K.devDeviceState, .one K.devStateChanges, .one K.devStateTime, .one K.slipJobState, .one K.umbsCropsLost, .one
    K.umbsJoinLost, .one K.umbsOpenComponents, .one K.umbsOpenPeak, .one K.umbsPenumbraOnly, .one K.umbsStatus, .one K.zeCropWaiting, .one
    K.zeReserved]) s t) ∧
  (∀ (s : State), s.dev = stDraining → s.rd K.devDrainTimeout ≠ 0 → ∃ t, exec .drainTimeout s = .next t ∧ t.dev = stStopped ∧ t.rd K.devStopCause = 3
    ∧ t.now = max s.now (s.stateAt + us (s.rd K.devDrainTimeout)) ∧ Frame (withSide [.clock, .device, .wheel, .cameras, .prism, .seam, .kiln, .umbra])
    (sideAnd [.fam (K.khHeadState 0) 128, .fam (K.zesEngineState 0) 6, .one K.cropsCropWriteOffset, .one K.devDeviceState, .one K.devStateChanges,
    .one K.devStateTime, .one K.devStopCause, .one K.slipJobState, .one K.umbsOpenComponents, .one K.umbsOpenPeak, .one K.zeReserved]) s t)

/-- O18. A served write of a STAGED entry changes only the Shadow bank; of an RW or RWS entry the live value; of a W1C entry it
clears the written bits but those whose condition holds. A refused write changes nothing but the record of the access and
DICT_ERROR (R40, R63). A read of an extreme answers the value and starts it afresh; a read of a TIME entry in a flat window leaves
its fraction for the path. -/
def Obligations.DictionaryWrites : Prop :=
  (∀ (a : Acc) (k : Nat) (r : Row) (s : State), rowOf k = some r → s.plainAt k → r.acc = .staged → s.writeStatus a k = 0 → ∃ t, exec (.dictWrite a k)
    s = .next t ∧ t.sh k = accVal a k ∧ (∀ j, j ≠ k → tfind t.shadow j = tfind s.shadow j) ∧ t.rd (K.pathLastStatus a.path) = 0 ∧ Frame [.regs,
    .staged] (okAnd a []) s t) ∧
  (∀ (a : Acc) (k : Nat) (r : Row) (s : State), rowOf k = some r → s.plainAt k → r.acc = .rw ∨ r.acc = .rws → s.writeStatus a k = 0 → [KeySet.one
    K.dictAccessCount, .one (K.pathLastStatus a.path), .one (K.pathLastEntry a.path)].any (·.has k) = false → ∃ t, exec (.dictWrite a k) s = .next t ∧
    t.rd k = accVal a k ∧ t.rd (K.pathLastStatus a.path) = 0 ∧ Frame [.regs] (okAnd a [.one k]) s t) ∧
  (∀ (a : Acc) (k : Nat) (r : Row) (s : State), rowOf k = some r → s.plainAt k → r.acc = .w1c → s.writeStatus a k = 0 → [KeySet.one K.dictAccessCount,
    .one (K.pathLastStatus a.path), .one (K.pathLastEntry a.path)].any (·.has k) = false → ∃ t, exec (.dictWrite a k) s = .next t ∧ t.rd k = setBits
    (clearBits (s.rd k) (accVal a k)) (s.stuckBits k) ∧ Frame [.regs] (okAnd a [.one k]) s t) ∧
  (∀ (a : Acc) (k st : Nat) (s : State), s.plainAt k → s.writeStatus a k = st → st ≠ 0 → ∃ t, exec (.dictWrite a k) s = .next t ∧ t.rd
    (K.pathLastStatus a.path) = st ∧ t.rd (K.pathLastEntry a.path) = k ∧ t.rd (K.pathErrorCount a.path) = (s.rd (K.pathErrorCount a.path) + 1) % 2 ^
    32 ∧ t.rd K.dictErrorCount = (s.rd K.dictErrorCount + 1) % 2 ^ 32 ∧ t.rd K.dictLastErrorPath = a.path ∧ t.rd K.dictLastErrorStatus = st ∧ t.rd
    K.dictLastErrorEntry = k ∧ t.shadow = s.shadow ∧ Frame sideParts (okSide a [.one (K.pathErrorCount a.path), .one K.dictErrorCount, .one
    K.dictLastErrorPath, .one K.dictLastErrorStatus, .one K.dictLastErrorEntry]) s t) ∧
  (∀ (a : Acc) (k x : Nat) (r : Row) (s : State), s.readStatus a k = 0 → rowOf k = some r → r.ty ≠ .time → s.freshValue k = some x → [KeySet.one
    K.dictAccessCount, .one (K.pathLastStatus a.path), .one (K.pathLastEntry a.path)].any (·.has k) = false → ∃ t, exec (.readClearExtreme a k) s =
    .next t ∧ t.rd k = x ∧ tfind t.readData a.path = some (slotPart a (s.slotValue a k)) ∧ t.rd (K.pathLastStatus a.path) = 0 ∧ Frame [.regs, .reads]
    (okAnd a [.one k]) s t) ∧
  (∀ (a : Acc) (k : Nat) (r : Row) (s : State), s.readStatus a k = 0 → rowOf k = some r → r.ty = .time → flat a = true → s.freshValue k = none → ∃ t,
    exec (.timeRead a k) s = .next t ∧ t.rd (K.pathTimeFraction a.path) = s.valueOf a.path k % 65536 ∧ tfind t.readData a.path = some (slotPart a
    (s.slotValue a k)) ∧ Frame [.regs, .reads] (okAnd a [.one (K.pathTimeFraction a.path)]) s t)

/-- O19. A COMMIT whose group passes the zero rule, the cross-field rules and the sherd check reads PENDING and leaves the live
set as it was; one with a staged zero reads ERR_ZERO and records that status with the subindex. DISCARD reloads the Shadow bank
and reads DISCARDED. At the apply point the whole Shadow bank becomes live, Generation increments and Commit reads APPLIED. -/
def Obligations.GroupCommits : Prop :=
  (∀ (a : Acc) (idx need : Nat) (s : State), groupStaged idx = true → s.writeStatus { a with value := 1 } (K.commit idx) = 0 → s.tryCommit idx = (0,
    s.acceptCommit idx need) → ∃ t, exec (.commit a idx) s = .next t ∧ t.rd (K.commit idx) = 1 ∧ t.rd (K.commitFault idx) = 0 ∧ t.rd (K.pathLastStatus
    a.path) = 0 ∧ t.shadow = s.shadow ∧ t.dom = s.dom ∧ Frame (withSide [.pool]) (okSide a [.one (K.commit idx), .one (K.commitFault idx), .one
    K.poolFreeLow, .one K.poolPoolStatus, .one K.poolSherdsFree]) s t) ∧
  (∀ (a : Acc) (idx z : Nat) (zs : List Nat) (s : State), groupStaged idx = true → s.writeStatus { a with value := 1 } (K.commit idx) = 0 → ownZeros
    (s.goLive idx) idx ++ zeroSubs (s.goLive idx) idx = z :: zs → ∃ t, exec (.commit a idx) s = .next t ∧ t.rd (K.commit idx) = 4 ∧ t.rd
    (K.commitFault idx) = (z :: zs).foldl min 255 ∧ t.rd (K.pathLastStatus a.path) = 10 ∧ t.shadow = s.shadow ∧ Frame sideParts (okSide a [.one
    (K.commit idx), .one (K.commitFault idx), .one (K.pathErrorCount a.path), .one K.dictErrorCount, .one K.dictLastErrorPath, .one
    K.dictLastErrorStatus, .one K.dictLastErrorEntry]) s t) ∧
  (∀ (a : Acc) (idx : Nat) (s : State), s.writeStatus { a with value := 2 } (K.commit idx) = 0 → ∃ t, exec (.discard a idx) s = .next t ∧ t.rd
    (K.commit idx) = 5 ∧ (∀ k, k / 256 = idx → t.sh k = t.rd k) ∧ (∀ k, k / 256 ≠ idx → tfind t.shadow k = tfind s.shadow k) ∧ t.rd (K.pathLastStatus
    a.path) = 0 ∧ Frame [.regs, .staged] (okAnd a [.one (K.commit idx)]) s t) ∧
  (∀ (idx : Nat) (s : State), groupStaged idx = true → s.commitPending idx = true → s.applyPoint idx = true → s.applyWith idx = s.applyGroup idx → ∃
    t, exec (.commitApply idx) s = .next t ∧ (∀ i < 252, t.rd (idx * 256 + i) = s.sh (idx * 256 + i)) ∧ (∀ k, k / 256 = idx → t.sh k = t.rd k) ∧ t.rd
    (K.commit idx) = 2 ∧ t.rd (K.applyTime idx) = s.time ∧ (tfind s.shadow (K.generation idx) = none → t.rd (K.generation idx) = (s.rd (K.generation
    idx) + 1) % 2 ^ 32) ∧ Frame (withSide [.staged, .domains, .pool]) (sideAnd [.span (idx * 256) (idx * 256 + 256), .one K.poolFreeLow, .one
    K.poolPoolStatus, .one K.poolSherdsFree]) s t)

/-- O20. GIVE by the owner or on a secure path sets the owner class; LOCK by the owner locks; SET_SECURE and SET_OPEN on a secure
path set and clear the attribute of an index that is not fixed: each changes that one index's ownership byte. CHALLENGE answers a
new challenge; a proof that is the HMAC of it makes the HOST path secure and clears the count of failures; a failed one answers
ERR_AUTH, and the third in a row starts a lockout of one second, which PROOF_LOCKOUT_END ends; DROP ends a path's secure status. -/
def Obligations.OwnershipCommands : Prop :=
  (∀ (a : Acc) (target newOwner : Nat) (s : State), target < 65536 → s.writeStatus { a with value := ownValue 1 newOwner target } K.ownOwnCommand = 0
    → indexPresent target = true → s.locked target = false → s.owner target = pathClass a.path ∨ s.secureAcc a = true → ∃ t, exec (.give a target
    newOwner) s = .next t ∧ t.ownByte target = s.ownByte target / 4 * 4 + newOwner % 4 ∧ (∀ i, i ≠ target → t.ownByte i = s.ownByte i) ∧ t.rd
    (K.pathLastStatus a.path) = 0 ∧ Frame [.regs, .owners] (okAnd a []) s t) ∧
  (∀ (a : Acc) (target : Nat) (s : State), target < 65536 → s.writeStatus { a with value := ownValue 2 0 target } K.ownOwnCommand = 0 → indexPresent
    target = true → s.locked target = false → s.owner target = pathClass a.path → ∃ t, exec (.lock a target) s = .next t ∧ t.ownByte target = setBits
    (s.ownByte target) 0x40 ∧ (∀ i, i ≠ target → t.ownByte i = s.ownByte i) ∧ t.rd (K.pathLastStatus a.path) = 0 ∧ Frame [.regs, .owners] (okAnd a [])
    s t) ∧
  (∀ (a : Acc) (target : Nat) (s : State), target < 65536 → s.writeStatus { a with value := ownValue 3 0 target } K.ownOwnCommand = 0 → indexPresent
    target = true → s.locked target = false → s.secureAcc a = true → bitOf (s.ownByte target) 4 = false → ∃ t, exec (.setSecure a target) s = .next t
    ∧ t.ownByte target = setBits (s.ownByte target) 0x20 ∧ (∀ i, i ≠ target → t.ownByte i = s.ownByte i) ∧ t.rd (K.pathLastStatus a.path) = 0 ∧ Frame
    [.regs, .owners] (okAnd a []) s t) ∧
  (∀ (a : Acc) (target : Nat) (s : State), target < 65536 → s.writeStatus { a with value := ownValue 4 0 target } K.ownOwnCommand = 0 → indexPresent
    target = true → s.locked target = false → s.secureAcc a = true → bitOf (s.ownByte target) 4 = false → ∃ t, exec (.setOpen a target) s = .next t ∧
    t.ownByte target = clearBits (s.ownByte target) 0x20 ∧ (∀ i, i ≠ target → t.ownByte i = s.ownByte i) ∧ t.rd (K.pathLastStatus a.path) = 0 ∧ Frame
    [.regs, .owners] (okAnd a []) s t) ∧
  (∀ (a : Acc) (s : State), s.readStatus a K.chalChallenge = 0 → ∃ t, exec (.challenge a) s = .next t ∧ (∃ v, t.chal.value = some v ∧ v < 2 ^ 64 ∧
    tfind t.readData a.path = some (slotPart a v)) ∧ t.chal.failed = s.chal.failed ∧ t.xfers = s.xfers ∧ t.sessions = s.sessions ∧ Frame [.regs,
    .free, .reads, .paths] (okAnd a []) s t) ∧
  (∀ (a : Acc) (s : State), s.writeStatus a K.chalProofGo = 0 → accVal a K.chalProofGo = 1 → s.proofLocked = false → s.proofOk = true → ∃ t, exec
    (.proofGo a) s = .next t ∧ t.rd (K.pathSecure 0) = 1 ∧ t.chal = { s.chal with failed := 0 } ∧ t.rd (K.pathLastStatus a.path) = 0 ∧ Frame [.regs,
    .paths] (okAnd a [.one (K.pathSecure 0)]) s t) ∧
  (∀ (a : Acc) (s : State), s.writeStatus a K.chalProofGo = 0 → accVal a K.chalProofGo = 1 → s.proofLocked = false → s.proofOk = false → ∃ t, exec
    (.proofGo a) s = .next t ∧ t.rd (K.pathLastStatus a.path) = 14 ∧ t.rd (K.pathSecure 0) = s.rd (K.pathSecure 0) ∧ (s.chal.failed ≠ 2 → t.chal =
    { s.chal with failed := s.chal.failed + 1 }) ∧ (s.chal.failed = 2 → t.chal = { s.chal with failed := 0, lockedUntil := some (s.now + ms 1000) }) ∧
    Frame (withSide [.paths]) (okSide a [.one (K.pathErrorCount a.path), .one K.dictErrorCount, .one K.dictLastErrorPath, .one K.dictLastErrorStatus,
    .one K.dictLastErrorEntry]) s t) ∧
  (∀ (u : Nat) (s : State), s.chal.lockedUntil = some u → ∃ t, exec .proofLockoutEnd s = .next t ∧ t.chal = { s.chal with lockedUntil := none } ∧
    t.now = max s.now u ∧ Frame [.clock, .paths] [] s t) ∧
  (∀ (a : Acc) (p : Nat) (s : State), s.writeStatus a (K.pathDrop p) = 0 → p < 7 → accVal a (K.pathDrop p) = 1 → ∃ t, exec (.drop a p) s = .next t ∧
    t.rd (K.pathSecure p) = 0 ∧ t.rd (K.pathLastStatus a.path) = 0 ∧ Frame [.regs] (okAnd a [.one (K.pathSecure p)]) s t)

/-- O21. A DomGo write that passes the checks of R54 starts the transfer its path describes, with DomStatus BUSY. A HOST transfer
that reads puts the DOMAIN's bytes in host memory; one that writes puts host bytes into the DOMAIN; a core's transfer that reads
stores them in DRAM at DomAddress and nowhere else; an address that is not mapped ends it with ERROR and counts a map error.
DOMAIN_DONE is raised at the end. -/
def Obligations.DomainTransferCommands : Prop :=
  (∀ (a : Acc) (p : Nat) (s : State), s.writeStatus a (K.pathDomGo p) = 0 → p < 5 → accVal a (K.pathDomGo p) = 1 → s.domGoStatus a p = 0 → ∃ t, exec
    (.domGo a p) s = .next t ∧ tfind t.xfers p = some (s.domXfer p) ∧ t.rd (K.pathDomStatus p) = 1 ∧ (∀ q, q ≠ p → tfind t.xfers q = tfind s.xfers q)
    ∧ t.chal = s.chal ∧ t.sessions = s.sessions ∧ t.rd (K.pathLastStatus a.path) = 0 ∧ Frame [.regs, .paths] (okAnd a [.one (K.pathDomStatus p)]) s t) ∧
  (∀ (host : List Nat) (x : Xfer) (s : State), tfind s.xfers 0 = some x → x.write = false → x.length ≠ 0 → s.rd K.pcieBusMaster = 1 → ∃ t, exec
    (.domainTransferDone 0 host none) s = .next t ∧ t.hostOut = s.hostOut ++
    [{ addr := x.addr, bytes := (List.range x.length).map fun i => s.domView 0 x.entry (x.offset + i) }] ∧ t.rd (K.pathDomStatus 0) = 2 ∧ tfind
    t.xfers 0 = none ∧ t.udpOut = s.udpOut ∧ t.ethOut = s.ethOut ∧ Frame (withSide [.paths, .out]) (sideAnd [.one (K.pathDomStatus 0)]) s t) ∧
  (∀ (host : List Nat) (x : Xfer) (r : Row) (s : State), tfind s.xfers 0 = some x → rowOf x.entry = some r → r.acc ≠ .staged → x.entry ≠
    K.glzNozzleTable → x.entry ≠ K.lineLineKey → x.write = true → x.length ≠ 0 → s.rd K.pcieBusMaster = 1 → x.length ≤ host.length → ∃ t, exec
    (.domainTransferDone 0 host none) s = .next t ∧ t.dom = putBytes s.dom x.entry x.offset (host.take x.length) ∧ t.rd (K.pathDomStatus 0) = 2 ∧
    tfind t.xfers 0 = none ∧ Frame (withSide [.domains, .paths]) (sideAnd [.one (K.pathDomStatus 0)]) s t) ∧
  (∀ (p : Nat) (host : List Nat) (f : Option Nat) (x : Xfer) (s : State), 1 ≤ p → p < 5 → tfind s.xfers p = some x → x.write = false → x.length ≠ 0 →
    s.beatsOk x (ceilDiv x.length 64) 0 = x.length → ∃ t, exec (.domainTransferDone p host f) s = .next t ∧ t.mem = memPuts s.mem x.addr ((List.range
    x.length).map fun i => s.domView p x.entry (x.offset + i)) ∧ (s.memOk → ∀ b, b < x.addr ∨ x.addr + x.length ≤ b → memGet t.mem b = memGet s.mem b)
    ∧ t.rd (K.pathDomStatus p) = 2 ∧ tfind t.xfers p = none ∧ Frame (withSide [.paths, .mem]) (sideAnd [.one (K.pathDomStatus p), .one
    (K.portBytesWritten 9)]) s t) ∧
  (∀ (p : Nat) (host : List Nat) (f : Option Nat) (x : Xfer) (s : State), 1 ≤ p → p < 5 → tfind s.xfers p = some x → x.length ≠ 0 → s.beatsOk x
    (ceilDiv x.length 64) 0 = 0 → ∃ t, exec (.domainTransferDone p host f) s = .next t ∧ t.mem = s.mem ∧ t.rd (K.pathDomStatus p) = 3 ∧ tfind t.xfers
    p = none ∧ t.rd K.dramLastMapError = x.addr ∧ t.rd K.dramMapErrors = (s.rd K.dramMapErrors + 1) % 2 ^ 32 ∧ Frame (withSide [.paths]) (sideAnd
    [.one (K.pathDomStatus p), .one K.dramMemStatus, .one K.dramMapErrors, .one K.dramLastMapError]) s t)

/-- O22. An OPEN_REQ of 16 bytes with a session free opens a challenged session and sends a challenge; a proof that is right under
the line key opens it with AUTH and a session key; a REQUEST older than the last is dropped and counted, a repeat of the last is
answered with the stored response, and a newer one for this device is executed, answered, and its response kept; CLOSE and the
session timeout end a session; a bad tag is dropped and counted. -/
def Obligations.UdpSessionCommands : Prop :=
  (∀ (g : Datagram) (i : Nat) (s : State), s.udpIn 0x01 g = .good → udpLengthOk g.bytes = true → (udpBody g.bytes).length = 16 → s.rd K.udpOpenPolicy
    ≠ 0 ∨ s.lineKey.isSome = true → s.freeSess = some i → ∃ t, exec (.openReq g) s = .next t ∧ (∃ x, tfind t.sessions i = some x ∧ x.state = 1 ∧
    x.auth = false ∧ x.cNonce = udpBody g.bytes ∧ x.dNonce.length = 16 ∧ x.heard = s.now ∧ t.udpOut = s.udpOut ++
    [{ eth := g.eth, addr := g.addr, udpPort := g.udpPort, src := 52410, bytes := udpMessage x 0x02 i (udpTarget g.bytes) (udpSequence g.bytes) 0 x.dNonce }])
    ∧ (∀ j, j ≠ i → tfind t.sessions j = tfind s.sessions j) ∧ t.chal = s.chal ∧ t.xfers = s.xfers ∧ Frame [.free, .regs, .paths, .out] [.one
    K.udpSessionsOpen, .one (K.ethsFramesOut g.eth)] s t) ∧
  (∀ (g : Datagram) (x : Sess) (key : List Nat) (s : State), s.udpIn 0x03 g = .good → tfind s.sessions (udpSession g.bytes) = some x → s.lineKey =
    some key → udpLengthOk g.bytes = true → x.auth = false → udpBody g.bytes = hmac key (x.dNonce ++ x.cNonce ++ leBytes 2 (udpSession g.bytes)) → ∃
    t, exec (.openProof g) s = .next t ∧ tfind t.sessions (udpSession g.bytes) = some
    { x with heard := s.now, state := 2, auth := true, key := hmac key (x.cNonce ++ x.dNonce) } ∧ (∀ j, j ≠ udpSession g.bytes → tfind t.sessions j =
    tfind s.sessions j) ∧ t.chal = s.chal ∧ t.xfers = s.xfers ∧ Frame [.regs, .paths, .out] [.one K.udpSessionsOpen, .one (K.ethsFramesOut g.eth)] s
    t) ∧
  (∀ (g : Datagram) (x : Sess) (rs : List DRec) (s : State), s.udpIn 0x10 g = .good → tfind s.sessions (udpSession g.bytes) = some x → x.auth = true ∨
    s.rd K.udpOpenPolicy ≠ 0 → udpLengthOk g.bytes = true → bodyRecords (udpCount g.bytes) (udpBody g.bytes) = some rs → x.started = true →
    udpSequence g.bytes < x.lastSeq → ∃ t, exec (.request g) s = .next t ∧ t.rd K.udpReplayCount = (s.rd K.udpReplayCount + 1) % 2 ^ 32 ∧ t.udpOut =
    s.udpOut ∧ (∀ j, j ≠ udpSession g.bytes → tfind t.sessions j = tfind s.sessions j) ∧ t.chal = s.chal ∧ t.xfers = s.xfers ∧ Frame [.regs, .paths]
    [.one K.udpSessionsOpen, .one K.udpReplayCount] s t) ∧
  (∀ (g : Datagram) (x : Sess) (rs : List DRec) (s : State), s.udpIn 0x10 g = .good → tfind s.sessions (udpSession g.bytes) = some x → x.auth = true ∨
    s.rd K.udpOpenPolicy ≠ 0 → udpLengthOk g.bytes = true → bodyRecords (udpCount g.bytes) (udpBody g.bytes) = some rs → x.started = true →
    udpSequence g.bytes = x.lastSeq → x.lastResp ≠ [] → ∃ t, exec (.request g) s = .next t ∧ t.udpOut = s.udpOut ++
    [{ eth := g.eth, addr := g.addr, udpPort := g.udpPort, src := 52410, bytes := x.lastResp }] ∧ (∀ j, j ≠ udpSession g.bytes → tfind t.sessions j =
    tfind s.sessions j) ∧ t.chal = s.chal ∧ t.xfers = s.xfers ∧ Frame [.regs, .paths, .out] [.one K.udpSessionsOpen, .one (K.ethsFramesOut g.eth)] s
    t) ∧
  (∀ (g : Datagram) (x : Sess) (rs : List DRec) (body : List Nat) (u : State) (s : State), s.udpIn 0x10 g = .good → tfind s.sessions (udpSession
    g.bytes) = some x → x.auth = true ∨ s.rd K.udpOpenPolicy ≠ 0 → udpLengthOk g.bytes = true → bodyRecords (udpCount g.bytes) (udpBody g.bytes) =
    some rs → x.started = false ∨ x.lastSeq < udpSequence g.bytes → s.udpOwn g.bytes = true → runRecords
    { path := 5, secure := x.auth, readOnly := !x.auth && s.rd K.udpOpenPolicy == 1 } 1440 rs s = (body, u) → ∃ t, exec (.request g) s = .next t ∧ (∃
    y, tfind t.sessions (udpSession g.bytes) = some y ∧ y.started = true ∧ y.lastSeq = udpSequence g.bytes ∧ y.auth = x.auth ∧ y.key = x.key ∧
    y.lastResp = udpMessage x 0x11 (udpSession g.bytes) (udpTarget g.bytes) (udpSequence g.bytes) rs.length body ∧ t.udpOut = u.udpOut ++
    [{ eth := g.eth, addr := g.addr, udpPort := g.udpPort, src := 52410, bytes := y.lastResp }]) ∧ Frame [.regs, .paths, .out] [.one
    K.udpSessionsOpen, .one (K.ethsFramesOut g.eth)] u t) ∧
  (∀ (g : Datagram) (s : State), s.udpIn 0x20 g = .good → ∃ t, exec (.close g) s = .next t ∧ tfind t.sessions (udpSession g.bytes) = none ∧ (∀ j, j ≠
    udpSession g.bytes → tfind t.sessions j = tfind s.sessions j) ∧ t.chal = s.chal ∧ t.xfers = s.xfers ∧ Frame [.regs, .paths] [.one
    K.udpSessionsOpen] s t) ∧
  (∀ (i : Nat) (x : Sess) (s : State), tfind s.sessions i = some x → s.rd K.udpSessionTimeout ≠ 0 → ∃ t, exec (.sessionTimeout i) s = .next t ∧ tfind
    t.sessions i = none ∧ (∀ j, j ≠ i → tfind t.sessions j = tfind s.sessions j) ∧ t.now = max s.now (x.heard + ms (s.rd K.udpSessionTimeout)) ∧
    t.chal = s.chal ∧ t.xfers = s.xfers ∧ Frame [.clock, .regs, .paths] [.one K.udpSessionsOpen] s t) ∧
  (∀ (g : Datagram) (s : State), s.udpIn 0x10 g = .badTag → ∃ t, exec (.request g) s = .next t ∧ t.rd K.udpBadTagCount = (s.rd K.udpBadTagCount + 1) %
    2 ^ 32 ∧ Frame [.regs] [.one K.udpBadTagCount] s t)

/-- O23. ENCODER_TRANSITION notes an input's level and moment. COUNT_ACCEPTED in quadrature moves the accumulator by the counts
that the transition makes, with Scale and Invert, and the rotary counter by them modulo CountsPerRev. A serial frame starts at its
period; the next frame's counts are the difference of its position from the last. A STALL_TIMEOUT shows the channel standing. -/
def Obligations.EncoderInputCommands : Prop :=
  (∀ (n : Nat) (input : EncIn) (level : Bool) (s : State), n < 4 → ((s.enc n).pin input).level ≠ level → ∃ t, exec (.encoderTransition n input level)
    s = .next t ∧ ((t.enc n).pin input).level = level ∧ ((t.enc n).pin input).since = s.now ∧ ((t.enc n).pin input).acc = ((s.enc n).pin input).acc ∧
    (∀ m, m ≠ n → t.enc m = s.enc m) ∧ Frame [.pins, .wheel] [] s t) ∧
  (∀ (n : Nat) (input : EncIn) (k : Int) (s : State), n < 4 → input ≠ .z → s.rd (K.encMode n) = 1 → s.encActive n = true → s.encReady n ((s.enc n).pin
    input) = true → s.encDecode n (s.enc n)
    { s.enc n with a := (s.enc n).a.takeIf ((s.enc n).pin input).since, b := (s.enc n).b.takeIf ((s.enc n).pin input).since } = some k → k ≠ 0 → ∃ t,
    exec (.countAccepted n input) s = .next t ∧ t.rd (K.encsRotary n) = rotaryStep (s.rd (K.encCountsPerRev n)) (s.rd (K.encsRotary n)) (s.encSign n
    k) ∧ t.rd (K.encsCountedPosition n) = ofI 64 (wholePos (accStep (s.enc n).acc (s.encScaleI n) (s.encSign n k))) ∧ t.now = max s.now (((s.enc
    n).pin input).since + s.rd (K.encFilterLength n)) ∧ Frame (withSide [.clock, .device, .boot, .pins, .wheel]) (sideAnd [.fam (K.encsChannelState 0)
    4, .fam (K.encsCountedPosition 0) 4, .fam (K.encsDirection 0) 4, .fam (K.encsErrorCount 0) 4, .fam (K.encsHighWater 0) 4, .fam
    (K.encsMismatchCount 0) 4, .fam (K.encsPosition 0) 4, .fam (K.encsRotary 0) 4, .fam (K.encsSpeed 0) 4, .fam (K.encsStatus 0) 4, .fam (K.mirEmuLag
    0) 4, .fam (K.mirMirrorStatus 0) 4, .one K.devDeviceState, .one K.devStateChanges, .one K.devStateTime, .one K.fltFaultStatus, .one
    K.fltLastRetiredUnit, .one K.fltRetiredCount, .one K.fltTransientCount, .one K.pwrPowerPhase, .one K.pwrWakeCause, .one K.whlActiveMaster, .one
    K.whlSwitchovers, .one K.whlWheelStatus]) s t) ∧
  (∀ (n : Nat) (s : State), n < 4 → s.encActive n = true → s.rd (K.encMode n) = 2 ∨ s.rd (K.encMode n) = 3 → ∃ t, exec (.serialFrameStart n) s = .next
    t ∧ t.now = max s.now (match (s.enc n).framed with | none => 0 | some u => u + us (s.rd (K.encSerialPeriod n))) ∧ t.enc n =
    { s.enc n with frameAt := some t.now, framed := some t.now } ∧ (∀ m, m ≠ n → t.enc m = s.enc m) ∧ Frame [.clock, .wheel] [] s t) ∧
  (∀ (n : Nat) (f : SerialFrame) (t0 r : Nat) (s : State), n < 4 → s.encActive n = true → s.rd (K.encMode n) = 3 → (s.enc n).frameAt = some t0 →
    (s.enc n).ref = some r → s.frameBad n f = false → toI (s.rd (K.encSerialBits n)) (ofI (s.rd (K.encSerialBits n)) ((s.framePos n f : Int) - r)) ≠ 0
    → ∃ t, exec (.serialFrame n f) s = .next t ∧ t.rd (K.encsRotary n) = rotaryStep (s.rd (K.encCountsPerRev n)) (s.rd (K.encsRotary n)) (s.encSign n
    (toI (s.rd (K.encSerialBits n)) (ofI (s.rd (K.encSerialBits n)) ((s.framePos n f : Int) - r)))) ∧ Frame (withSide [.device, .boot, .pins, .wheel])
    (sideAnd [.fam (K.encsChannelState 0) 4, .fam (K.encsCountedPosition 0) 4, .fam (K.encsDirection 0) 4, .fam (K.encsErrorCount 0) 4, .fam
    (K.encsHighWater 0) 4, .fam (K.encsMismatchCount 0) 4, .fam (K.encsPosition 0) 4, .fam (K.encsRotary 0) 4, .fam (K.encsSpeed 0) 4, .fam
    (K.encsStatus 0) 4, .fam (K.mirEmuLag 0) 4, .fam (K.mirMirrorStatus 0) 4, .one K.devDeviceState, .one K.devStateChanges, .one K.devStateTime, .one
    K.fltFaultStatus, .one K.fltLastRetiredUnit, .one K.fltRetiredCount, .one K.fltTransientCount, .one K.pwrPowerPhase, .one K.pwrWakeCause, .one
    K.whlActiveMaster, .one K.whlSwitchovers, .one K.whlWheelStatus]) s t) ∧
  (∀ (n : Nat) (f : SerialFrame) (t0 : Nat) (s : State), n < 4 → s.encActive n = true → (s.enc n).frameAt = some t0 → s.frameBad n f = true → ∃ t,
    exec (.serialFrame n f) s = .next t ∧ t.rd (K.encsErrorCount n) = (s.rd (K.encsErrorCount n) + 1) % 2 ^ 32 ∧ t.rd (K.encsRotary n) = s.rd
    (K.encsRotary n) ∧ t.rd K.fltTransientCount = (s.rd K.fltTransientCount + 1) % 2 ^ 32 ∧ Frame (withSide [.device, .boot, .pins, .wheel]) (sideAnd
    [.fam (K.encsChannelState 0) 4, .fam (K.encsCountedPosition 0) 4, .fam (K.encsDirection 0) 4, .fam (K.encsErrorCount 0) 4, .fam (K.encsHighWater
    0) 4, .fam (K.encsMismatchCount 0) 4, .fam (K.encsPosition 0) 4, .fam (K.encsRotary 0) 4, .fam (K.encsSpeed 0) 4, .fam (K.encsStatus 0) 4, .fam
    (K.mirEmuLag 0) 4, .fam (K.mirMirrorStatus 0) 4, .one K.devDeviceState, .one K.devStateChanges, .one K.devStateTime, .one K.fltFaultStatus, .one
    K.fltLastRetiredUnit, .one K.fltRetiredCount, .one K.fltTransientCount, .one K.pwrPowerPhase, .one K.pwrWakeCause, .one K.whlActiveMaster, .one
    K.whlSwitchovers, .one K.whlWheelStatus]) s t) ∧
  (∀ (n u : Nat) (s : State), n < 4 → s.encActive n = true → (s.enc n).last = some u → (s.enc n).stalled = false → ∃ t, exec (.stallTimeout n) s =
    .next t ∧ (t.enc n) = { s.enc n with stalled := true } ∧ t.now = max s.now (u + us (s.rd (K.encStallTime n))) ∧ (∀ m, m ≠ n → t.enc m = s.enc m) ∧
    Frame [.clock, .regs, .wheel] [.one (K.encsCountedPosition n), .one (K.encsSpeed n)] s t)

/-- O24. An index pulse near its expected place sets the rotary counter to it and counts a correction, and one away from it counts
a mismatch and leaves the counter; a preset writes the position, the high-water mark or the rotary counter; RotaryPreset at or
above CountsPerRev is refused; Readmit of a retired channel makes it ACTIVE, or OFF with Mode OFF, and lowers RetiredCount. -/
def Obligations.EncoderCommands : Prop :=
  (∀ (n : Nat) (s : State), n < 4 → s.encActive n = true → s.rd (K.encMode n) = 1 ∨ s.rd (K.encMode n) = 4 → s.encReady n (s.enc n).z = true → (s.enc
    n).z.level = true → s.rd (K.encIndexMode n) ≠ 0 → (indexDev (s.rd (K.encCountsPerRev n)) (s.rd (K.encsRotary n)) (s.rd (K.encIndexExpected
    n))).natAbs ≤ s.rd (K.encIndexTolerance n) → ∃ t, exec (.indexPulse n) s = .next t ∧ t.rd (K.encsRotary n) = s.rd (K.encIndexExpected n) ∧ t.rd
    (K.encsIndexCorrections n) = (s.rd (K.encsIndexCorrections n) + 1) % 2 ^ 32 ∧ t.rd (K.encsLastIndexDeviation n) = ofI 32 (indexDev (s.rd
    (K.encCountsPerRev n)) (s.rd (K.encsRotary n)) (s.rd (K.encIndexExpected n))) ∧ t.now = max s.now ((s.enc n).z.since + s.rd (K.encFilterLength n))
    ∧ Frame (withSide [.clock, .wheel]) (sideAnd [.one (K.encsRotary n), .one (K.encsLastIndexDeviation n), .one (K.encsIndexCorrections n)]) s t) ∧
  (∀ (n : Nat) (s : State), n < 4 → s.encActive n = true → s.rd (K.encMode n) = 1 ∨ s.rd (K.encMode n) = 4 → s.encReady n (s.enc n).z = true → (s.enc
    n).z.level = true → s.rd (K.encIndexMode n) = 1 → s.rd (K.encIndexTolerance n) < (indexDev (s.rd (K.encCountsPerRev n)) (s.rd (K.encsRotary n))
    (s.rd (K.encIndexExpected n))).natAbs → ∃ t, exec (.indexPulse n) s = .next t ∧ t.rd (K.encsRotary n) = s.rd (K.encsRotary n) ∧ t.rd
    (K.encsMismatchCount n) = (s.rd (K.encsMismatchCount n) + 1) % 2 ^ 32 ∧ Frame (withSide [.clock, .wheel]) (sideAnd [.fam (K.encsChannelState 0) 4,
    .fam (K.encsIndexCorrections 0) 4, .fam (K.encsLastIndexDeviation 0) 4, .fam (K.encsMismatchCount 0) 4, .fam (K.encsRotary 0) 4, .fam
    (K.encsStatus 0) 4, .one K.fltFaultStatus, .one K.fltLastRetiredUnit, .one K.fltRetiredCount, .one K.whlActiveMaster, .one K.whlSwitchovers, .one
    K.whlWheelStatus]) s t) ∧
  (∀ (a : Acc) (n : Nat) (s : State), s.writeStatus a (K.encsLinearPreset n) = 0 → n < 4 → ∃ t, exec (.linearPreset a n) s = .next t ∧ t.rd
    (K.encsCountedPosition n) = accVal a (K.encsLinearPreset n) ∧ (t.enc n).acc = toI 64 (accVal a (K.encsLinearPreset n)) * 2 ^ 32 ∧ (t.enc n).hold =
    none ∧ (∀ m, m ≠ n → t.enc m = s.enc m) ∧ t.rd (K.pathLastStatus a.path) = 0 ∧ Frame (withSide [.wheel]) (okSide a [.fam (K.encsCountedPosition 0)
    4, .fam (K.encsDirection 0) 4, .fam (K.encsHighWater 0) 4, .fam (K.encsLinearPreset 0) 4, .fam (K.encsPosition 0) 4, .fam (K.encsStatus 0) 4]) s
    t) ∧
  (∀ (a : Acc) (n : Nat) (s : State), s.writeStatus a (K.encsRotaryPreset n) = 0 → n < 4 → accVal a (K.encsRotaryPreset n) < s.rd (K.encCountsPerRev
    n) → ∃ t, exec (.rotaryPreset a n) s = .next t ∧ t.rd (K.encsRotary n) = accVal a (K.encsRotaryPreset n) ∧ t.rd (K.pathLastStatus a.path) = 0 ∧
    Frame [.regs] (okAnd a [.one (K.encsRotary n), .one (K.encsRotaryPreset n)]) s t) ∧
  (∀ (a : Acc) (n : Nat) (s : State), n < 4 → s.writeStatus a (K.encsRotaryPreset n) = 0 → s.rd (K.encCountsPerRev n) ≤ accVal a (K.encsRotaryPreset
    n) → exec (.rotaryPreset a n) s = .next (s.done a (K.encsRotaryPreset n) 8)) ∧
  (∀ (a : Acc) (n : Nat) (s : State), s.writeStatus a (K.encsReadmit n) = 0 → n < 4 → accVal a (K.encsReadmit n) = 1 → s.rd (K.encsChannelState n) = 2
    → ∃ t, exec (.wheelReadmit a n) s = .next t ∧ t.rd (K.encsChannelState n) = (if s.rd (K.encMode n) = 0 then 0 else 1) ∧ t.rd K.fltRetiredCount =
    s.rd K.fltRetiredCount - 1 ∧ tfind t.faultTimes (256 + n) = none ∧ t.rd (K.pathLastStatus a.path) = 0 ∧ Frame (withSide [.wheel]) (okSide a [.one
    (K.encsChannelState n), .one K.fltRetiredCount]) s t)

/-- O25. A line trigger that may be raised at a reached grid point is emitted: counted, its line and position kept, and raised 7
FABCLK later. A compare unit whose armed value is reached fires. A pulse ends. A probe edge pushes its position, or is counted as
an overflow when its FIFO is full; POP takes the oldest entry and PROBE_FLUSH all. Position broadcasts, remote messages and the
remote timeout, and the emulator's release of a held step. -/
def Obligations.TriggerAndCompareCommands : Prop :=
  (∀ (g : Nat) (s : State), g < 28 → (s.gen g).held = none → s.genMay g (s.gen g).next = true → s.genT g (s.gen g).next ≤ s.webP → (s.gen g).lastAt =
    none → (s.gen g).lateTo = none → ∃ t, exec (.triggerEmit g) s = .next t ∧ t.rd (genLineIndex g) = ofI 64 (s.gen g).next ∧ t.rd (genKey
    K.cgenTrigCount K.rgenTrigCount g) = (s.rd (genKey K.cgenTrigCount K.rgenTrigCount g) + 1) % 2 ^ 64 ∧ t.rd (genKey K.cgenLastTrigger
    K.rgenLastTrigger g) = ofI 64 (wholePos (s.genT g (s.gen g).next)) ∧ t.trigs = s.trigs ++
    [{ gen := g, k := (s.gen g).next, t := s.genT g (s.gen g).next, stamp := s.now + 7 }] ∧ (t.gen g).next = (s.gen g).next + 1 ∧ (t.gen g).lastAt =
    some s.now ∧ Frame (withSide [.clock, .wheel, .cameras]) (sideAnd [.fam (K.camstBandIndex 0) 12, .fam (K.camstCameraGeneration 0) 12, .fam
    (K.camstLinesDropped 0) 12, .fam (K.cgenBunchCount 0) 12, .fam (K.cgenLastTrigger 0) 12, .fam (K.cgenLateCount 0) 12, .fam (K.cgenLineIndex 0) 12,
    .fam (K.cgenSkipCount 0) 12, .fam (K.cgenTrigCount 0) 12, .fam (K.rgenBunchCount 0) 16, .fam (K.rgenLastTrigger 0) 16, .fam (K.rgenLateCount 0)
    16, .fam (K.rgenLineIndex 0) 16, .fam (K.rgenTrigCount 0) 16]) s t) ∧
  (∀ (m : Nat) (s : State), m < 16 → s.rd (K.cmpMode m) ≠ 0 → s.sourceAlive (s.rd (K.cmpSource m) % 4 + 8 * (s.rd (K.cmpSource m) / 8)) = true →
    (s.cmp m).owed = 0 → (s.cmp m).phase = .armed → (if s.cmpRotary m then (s.cmp m).due else s.cmpReached m) = true → ∃ t, exec (.compareFire m) s =
    .next t ∧ t.rd (K.cmpFired m) = (s.rd (K.cmpFired m) + 1) % 2 ^ 32 ∧ t.rd (K.cmpLastFire m) = ofI 64 (if s.cmpRotary m then s.cmpPos m else
    wholePos (s.cmpPos m)) ∧ Frame (withSide [.clock, .device, .out, .mem, .pins, .memory, .wheel, .cameras, .prism, .seam, .slip, .umbra, .loop])
    (sideAnd (joinKeys [.fam (K.cmpCmpStatus 0) 16, .fam (K.cmpFired 0) 16, .fam (K.cmpLastFire 0) 16, .fam (K.cmpQueueFill 0) 16, .fam (K.cmpValue 0)
    16, .fam (K.ctxsReplayNext 0) 12, .fam (K.ethsFramesOut 0) 2, .fam (K.ethsPortStatus 0) 2, .fam (K.ethsViewDrops 0) 2, .fam (K.lslotFreshW 0) 8,
    .fam (K.portBytesWritten 0) 12, .fam (K.qsFill 0) 64, .fam (K.qsFillPeak 0) 64, .fam (K.qsItemsIn 0) 64, .fam (K.qsNoCreditCount 0) 64, .fam
    (K.qsQueueStatus 0) 64, .fam (K.viewsFrames 0) 8, .one K.devDeviceState, .one K.devStateChanges, .one K.devStateTime, .one K.dramLastMapError,
    .one K.dramMapErrors, .one K.dramMemStatus, .one K.loopsWindow] [.one K.quesSizeErrors, .one K.seamsRecordsLost, .one K.seamsStatus, .one
    K.slipJobState, .one K.slipRingFront, .one K.umbsWarmup, .one K.whlOrigin])) s t) ∧
  (∀ (m u : Nat) (s : State), m < 16 → (s.cmp m).pulse = some u → ∃ t, exec (.comparePulseEnd m) s = .next t ∧ t.now = max s.now u ∧ t.cmp m =
    { s.cmp m with pulse := none } ∧ (∀ i, i ≠ m → t.cmp i = s.cmp i) ∧ Frame [.clock, .pins, .wheel] [] s t) ∧
  (∀ (p : Nat) (rising : Bool) (s : State), p < 8 → s.on (K.prbEnable p) = true → edgeTaken (s.rd (K.prbEdge p)) rising = true → s.sourceAlive (s.rd
    (K.prbSource p)) = true → (s.probe p).length < 16 → ∃ t, exec (.probeEdge p rising) s = .next t ∧ (∃ e, t.probe p = s.probe p ++ [e] ∧ e.time =
    s.time ∧ e.edge = (if rising then 1 else 2) ∧ e.rotary = s.sourceRotary (s.rd (K.prbSource p))) ∧ t.rd (K.prbFill p) = (s.probe p).length + 1 ∧ (∀
    q, q ≠ p → t.probe q = s.probe q) ∧ Frame (withSide [.wheel]) (sideAnd [.one (K.prbFill p), .one (K.prbHeadPosition p), .one (K.prbHeadRotary p),
    .one (K.prbHeadTime p), .one (K.prbHeadEdge p)]) s t) ∧
  (∀ (p : Nat) (rising : Bool) (s : State), p < 8 → s.on (K.prbEnable p) = true → edgeTaken (s.rd (K.prbEdge p)) rising = true → s.sourceAlive (s.rd
    (K.prbSource p)) = true → 16 ≤ (s.probe p).length → ∃ t, exec (.probeEdge p rising) s = .next t ∧ t.rd (K.prbOverflows p) = (s.rd (K.prbOverflows
    p) + 1) % 2 ^ 32 ∧ Frame sideParts (sideAnd [.one (K.prbOverflows p)]) s t) ∧
  (∀ (a : Acc) (p : Nat) (s : State), s.writeStatus a (K.prbPop p) = 0 → p < 8 → accVal a (K.prbPop p) = 1 → ∃ t, exec (.pop a p) s = .next t ∧
    t.probe p = (s.probe p).drop 1 ∧ t.rd (K.prbFill p) = (s.probe p).length - 1 ∧ (∀ q, q ≠ p → t.probe q = s.probe q) ∧ t.rd (K.pathLastStatus
    a.path) = 0 ∧ Frame [.regs, .wheel] (okAnd a [.one (K.prbFill p), .one (K.prbHeadPosition p), .one (K.prbHeadRotary p), .one (K.prbHeadTime p),
    .one (K.prbHeadEdge p)]) s t) ∧
  (∀ (a : Acc) (p : Nat) (s : State), s.writeStatus a (K.prbFlush p) = 0 → p < 8 → accVal a (K.prbFlush p) = 1 → ∃ t, exec (.probeFlush a p) s = .next
    t ∧ t.probe p = [] ∧ t.rd (K.prbFill p) = 0 ∧ (∀ q, q ≠ p → t.probe q = s.probe q) ∧ t.rd (K.pathLastStatus a.path) = 0 ∧ Frame [.regs, .wheel]
    (okAnd a [.one (K.prbFill p), .one (K.prbHeadPosition p), .one (K.prbHeadRotary p), .one (K.prbHeadTime p), .one (K.prbHeadEdge p)]) s t) ∧
  (∀ (s : State), s.on K.remBroadcastEnable = true → s.originates = true → ∃ t, exec .posBroadcast s = .next t ∧ t.now = max s.now (s.wheel.sentAt +
    us (s.rd K.remBroadcastPeriod)) ∧ t.wheel = { s.wheel with sentAt := t.now, lineStart := false } ∧ t.encs = s.encs ∧ t.gens = s.gens ∧ Frame
    (withSide [.clock, .wheel, .link]) (sideAnd [.fam (K.spsPortStatus 0) 2, .fam (K.spsQueueDrops 0) 2]) s t) ∧
  (∀ (m : Msg) (u : Nat × Nat × State) (s : State), s.takeMsg m = some u → m.cls = 1 → s.usesRemote = true → s.dev ≠ stArmed → ∃ t, exec (.posMessage
    m) s = .next t ∧ t.rd K.remRemoteNode = m.source ∧ t.wheel.got = true ∧ t.wheel.lost = false ∧ t.wheel.remP = toI 64 (leAt m.payload 0 8) * 2 ^ 32
    ∧ t.wheel.remV = toI 64 (leAt m.payload 8 8) ∧ t.wheel.remAt = s.now ∧ t.skl = u.2.2.skl ∧ Frame (withSide [.device, .out, .mem, .boot, .pins,
    .memory, .wheel, .cameras, .prism, .seam, .slip, .umbra, .loop, .link]) (sideAnd (joinKeys [.fam (K.ctxsReplayNext 0) 12, .fam (K.ethsFramesOut 0)
    2, .fam (K.ethsPortStatus 0) 2, .fam (K.ethsViewDrops 0) 2, .fam (K.lslotFreshW 0) 8, .fam (K.portBytesWritten 0) 12, .fam (K.qsFill 0) 64, .fam
    (K.qsFillPeak 0) 64, .fam (K.qsItemsIn 0) 64, .fam (K.qsNoCreditCount 0) 64, .fam (K.qsQueueStatus 0) 64, .fam (K.viewsFrames 0) 8, .one
    K.devDeviceState, .one K.devStateChanges, .one K.devStateTime, .one K.dramLastMapError, .one K.dramMapErrors, .one K.dramMemStatus, .one
    K.loopsWindow, .one K.pwrPowerPhase, .one K.pwrWakeCause, .one K.quesSizeErrors, .one K.remRemoteHolds, .one K.remRemoteNode] [.one
    K.seamsRecordsLost, .one K.seamsStatus, .one K.slipJobState, .one K.slipRingFront, .one K.umbsWarmup, .one K.whlOrigin])) s t) ∧
  (∀ (s : State), s.usesRemote = true → s.wheel.got = true → s.wheel.lost = false → ∃ t, exec .remoteTimeout s = .next t ∧ t.wheel.lost = true ∧ t.now
    = max s.now (s.wheel.remAt + us (s.rd K.remRemoteTimeout)) ∧ t.bit K.whlWheelStatus 3 = true ∧ Frame (withSide [.clock, .wheel]) (sideAnd [.one
    K.whlActiveMaster, .one K.whlSwitchovers, .one K.whlWheelStatus]) s t) ∧
  (∀ (m : Nat) (s : State), m < 4 → s.rd (K.mirMode m) = 3 → ((s.emuCross m).mir m).lag ≠ 0 → ∃ t, exec (.emuLagRelease m) s = .next t ∧ ((t.mir
    m).lag).natAbs + 1 = (((s.emuCross m).mir m).lag).natAbs ∧ t.rd (K.mirEmuLag m) = ((t.mir m).lag).natAbs ∧ (∀ i, i ≠ m → t.mir i = s.mir i) ∧
    t.encs = s.encs ∧ Frame [.clock, .regs, .pins, .wheel] [.one (K.mirEmuLag m), .one (K.mirMirrorStatus m)] s t)

/-- O26. A lock found on an ABSENT channel that starts by itself begins Hunt; Hunt with lock goes to Query; Query keeps the
camera's version and the best speed and goes to Train; training with enough links of one identity makes the channel ACTIVE and
raises CAM_PRESENT; a timeout or a failed phase makes it ABSENT with the phase in DiscoveryPhase. REDISCOVER starts Hunt in
ABSENT, and CAM_READMIT takes a RETIRED channel back. -/
def Obligations.CameraDiscoveryCommands : Prop :=
  (∀ (n : Nat) (s : State), n < 12 → s.domainAsleep 0 = false → s.camState n = camAbsent → s.rd (K.camPlugMode n) = 1 → (s.cam n).lock = false → ∃ t,
    exec (.cxpLock n) s = .next t ∧ t.camState n = camDiscovery ∧ (t.cam n).lock = true ∧ (t.cam n).phase = 1 ∧ (t.cam n).phaseAt = s.now ∧ t.bit
    (K.camstLinksUp n) 0 = true ∧ (∀ m, m ≠ n → t.cam m = s.cam m) ∧ Frame (withSide [.cameras]) (sideAnd [.one (K.camstLinksUp n), .one
    (K.camstChannelState n), .one K.camsPresent, .one K.camsPresentCount, .one K.camsRetired]) s t) ∧
  (∀ (n : Nat) (s : State), n < 12 → s.camState n = camDiscovery → (s.cam n).phase = 1 → (s.cam n).lock = true → ∃ t, exec (.huntLock n) s = .next t ∧
    t.camState n = camDiscovery ∧ (t.cam n).phase = 2 ∧ (∀ m, m ≠ n → t.cam m = s.cam m) ∧ Frame (withSide [.cameras]) (sideAnd [.one
    (K.camstChannelState n), .one K.camsPresent, .one K.camsPresentCount, .one K.camsRetired]) s t) ∧
  (∀ (n : Nat) (s : State), n < 12 → s.camState n = camDiscovery → (s.cam n).phase = 1 → ∃ t, exec (.huntTimeout n) s = .next t ∧ t.camState n =
    camAbsent ∧ t.now = max s.now ((s.cam n).phaseAt + ms 1000) ∧ t.cam n = { s.cam n with phase := 0 } ∧ (∀ m, m ≠ n → t.cam m = s.cam m) ∧ Frame
    (withSide [.clock, .cameras]) (sideAnd [.one (K.camstChannelState n), .one K.camsPresent, .one K.camsPresentCount, .one K.camsRetired]) s t) ∧
  (∀ (n : Nat) (r : CamQuery) (s : State), n < 12 → s.camState n = camDiscovery → (s.cam n).phase = 2 → r.ok = true → s.rd (K.camLinkCount n) ≤
    r.links → bestSpeed r.speeds (s.rd (K.camMaxSpeed n)) ≠ 0 → ∃ t, exec (.queryDone n r) s = .next t ∧ (t.cam n).phase = 4 ∧ t.rd (K.camstCamVersion
    n) = r.version ∧ t.rd (K.camstSpeed n) = bestSpeed r.speeds (s.rd (K.camMaxSpeed n)) ∧ (∀ m, m ≠ n → t.cam m = s.cam m) ∧ Frame (withSide
    [.cameras]) (sideAnd [.one (K.camstCamVersion n), .one (K.camstSpeed n), .one (K.camstChannelState n), .one K.camsPresent, .one
    K.camsPresentCount, .one K.camsRetired]) s t) ∧
  (∀ (n : Nat) (r : CamQuery) (s : State), n < 12 → s.camState n = camDiscovery → (s.cam n).phase = 2 → r.ok = false → ∃ t, exec (.queryDone n r) s =
    .next t ∧ t.camState n = camAbsent ∧ t.rd (K.camstDiscoveryPhase n) = 2 ∧ t.bit (K.camstStatus n) 10 = true ∧ (∀ m, m ≠ n → t.cam m = s.cam m) ∧
    Frame (withSide [.cameras]) (sideAnd [.one (K.camstDiscoveryPhase n), .one (K.camstSpeed n), .one (K.camstStatus n), .one (K.camstChannelState n),
    .one K.camsPresent, .one K.camsPresentCount, .one K.camsRetired]) s t) ∧
  (∀ (n : Nat) (x : CamTrain) (s : State), n < 12 → s.camState n = camDiscovery → (s.cam n).phase = 4 → s.rd (K.camLinkCount n) ≤ x.identities.length
    → (∀ i ∈ x.identities.take (s.rd (K.camLinkCount n)), i = nth x.identities 0) → (State.cxpCals n x.eyes x.equalisers (List.range (s.rd
    (K.camLinkCount n))) s).cxpHas n (s.rd (K.camLinkCount n)) = true → ∃ t, exec (.trainDone n x) s = .next t ∧ t.camState n = camActive ∧ (t.cam
    n).phase = 0 ∧ t.rd (K.camstLinksUp n) = 2 ^ s.rd (K.camLinkCount n) - 1 ∧ (∀ m, m ≠ n → t.cam m = s.cam m) ∧ Frame (withSide [.boot, .cameras])
    (sideAnd [.fam (K.camstChannelState 0) 12, .fam (K.camstDiscoveryPhase 0) 12, .fam (K.camstLinksUp 0) 12, .fam (K.camstSpeed 0) 12, .fam
    (K.camstStatus 0) 12, .one K.calCalStatus, .one K.camsPresent, .one K.camsPresentCount, .one K.camsRetired]) s t) ∧
  (∀ (n : Nat) (s : State), n < 12 → s.camState n = camDiscovery → (s.cam n).phase = 4 → ∃ t, exec (.trainTimeout n) s = .next t ∧ t.camState n =
    camAbsent ∧ t.rd (K.camstDiscoveryPhase n) = 4 ∧ t.now = max s.now ((s.cam n).phaseAt + ms 200) ∧ (∀ m, m ≠ n → t.cam m = s.cam m) ∧ Frame
    (withSide [.clock, .cameras]) (sideAnd [.one (K.camstDiscoveryPhase n), .one (K.camstSpeed n), .one (K.camstStatus n), .one (K.camstChannelState
    n), .one K.camsPresent, .one K.camsPresentCount, .one K.camsRetired]) s t) ∧
  (∀ (a : Acc) (n : Nat) (s : State), s.writeStatus a (K.camstRediscover n) = 0 → n < 12 → accVal a (K.camstRediscover n) = 1 → s.camState n =
    camAbsent → ∃ t, exec (.rediscover a n) s = .next t ∧ t.camState n = camDiscovery ∧ (t.cam n).phase = 1 ∧ (∀ m, m ≠ n → t.cam m = s.cam m) ∧ t.rd
    (K.pathLastStatus a.path) = 0 ∧ Frame (withSide [.cameras]) (okSide a [.one (K.camstChannelState n), .one K.camsPresent, .one K.camsPresentCount,
    .one K.camsRetired]) s t) ∧
  (∀ (a : Acc) (n : Nat) (s : State), s.writeStatus a (K.camstReadmit n) = 0 → n < 12 → accVal a (K.camstReadmit n) = 1 → s.camState n = camRetired →
    ∃ t, exec (.camReadmit a n) s = .next t ∧ t.camState n = (if (s.cam n).lock then camDiscovery else camAbsent) ∧ t.rd K.fltRetiredCount = s.rd
    K.fltRetiredCount - 1 ∧ tfind t.faultTimes (2 * 256 + n) = none ∧ (∀ m, m ≠ n → t.cam m = s.cam m) ∧ t.rd (K.pathLastStatus a.path) = 0 ∧ Frame
    (withSide [.cameras]) (okSide a [.one K.fltRetiredCount, .one (K.camstChannelState n), .one K.camsPresent, .one K.camsPresentCount, .one
    K.camsRetired]) s t)

/-- O27. A trigger of a channel that can send becomes the packet in hand two FABCLK after its event, is held behind one that is
being sent, or is lost and counted. The packet's start sends it up the link with its delay; its end, after the packet's length,
lets the held trigger follow. A listed trigger whose line does not come is late and leaves an owed line, which lapses after
another LineTimeout. -/
def Obligations.CameraTriggerCommands : Prop :=
  (∀ (n : Nat) (x : Trig) (u : State) (s : State), n < 12 → s.takeTrig n = some (x, u) → s.camState n = camActive → s.replaying n = false → s.dev =
    stRunning → s.bit (K.camstLinksUp n) 0 = true → (s.cam n).sending = none → ∃ t, exec (.camTrigger n) s = .next t ∧ t.cam n =
    { s.cam n with sending := some { k := x.k, t := x.t, time := s.timeAt x.stamp, stamp := max s.now (x.stamp + 2) }, started := none } ∧ t.now = max
    s.now (x.stamp + 2) ∧ t.trigs = u.trigs ∧ (∀ m, m ≠ n → t.cam m = s.cam m) ∧ Frame [.clock, .wheel, .cameras] [] s t) ∧
  (∀ (n : Nat) (y z : CamTrig) (w : Trig) (u : State) (s : State), n < 12 → s.takeTrig n = some (w, u) → s.camState n = camActive → s.replaying n =
    false → s.dev = stRunning → s.bit (K.camstLinksUp n) 0 = true → (s.cam n).sending = some y → (s.cam n).held = some z → ∃ t, exec (.camTrigger n) s
    = .next t ∧ t.rd (K.camstTrigOverruns n) = (s.rd (K.camstTrigOverruns n) + 1) % 2 ^ 32 ∧ t.bit (K.camstStatus n) 7 = true ∧ (t.cam n).sending =
    some y ∧ (t.cam n).held = some z ∧ t.trigs = u.trigs ∧ Frame (withSide [.clock, .wheel, .cameras]) (sideAnd [.fam (K.camstBandsDropped 0) 12, .fam
    (K.camstLinesDropped 0) 12, .fam (K.camstStatus 0) 12, .fam (K.camstTrigOverruns 0) 12]) s t) ∧
  (∀ (n : Nat) (x : CamTrig) (s : State), n < 12 → (s.cam n).sending = some x → (s.cam n).started = none → s.camSends n = true → ∃ t, exec
    (.triggerPacketStart n) s = .next t ∧ t.now = max s.now x.stamp ∧ (t.cam n).sending = some x ∧ (t.cam n).started = some t.now ∧ t.uplinks =
    s.uplinks ++ [Uplink.trigger n x.k (t.now - x.stamp)] ∧ (∀ m, m ≠ n → t.cam m = s.cam m) ∧ Frame (withSide [.clock, .cameras]) (sideAnd [.fam
    (K.camstBandsDropped 0) 12, .fam (K.camstLinesDropped 0) 12, .fam (K.camstStatus 0) 12]) s t) ∧
  (∀ (n u : Nat) (s : State), n < 12 → (s.cam n).started = some u → ∃ t, exec (.triggerPacketEnd n) s = .next t ∧ t.now = max s.now (u + if
    s.uplinkHigh n then 1152 else 2304) ∧ t.cam n = { s.cam n with sending := (s.cam n).held, held := none, started := none } ∧ (∀ m, m ≠ n → t.cam m
    = s.cam m) ∧ t.uplinks = s.uplinks ∧ Frame [.clock, .cameras] [] s t) ∧
  (∀ (n : Nat) (e : CamTrig) (l : List CamTrig) (x : Band) (s : State), n < 12 → s.replaying n = false → (s.cam n).list = e :: l → (s.cam n).band
    ((s.cam n).bandOf e.k) = some x → x.opened = true → x.ended = false → x.dropped = false → ∃ t, exec (.lateLine n) s = .next t ∧ t.now = max s.now
    (e.stamp + us (s.rd (K.camLineTimeout n))) ∧ (t.cam n).list = l.filter (fun z => !((s.cam n).bandOf z.k == (s.cam n).bandOf e.k)) ∧ (t.cam n).owed
    = ((s.cam n).owed ++ [t.now]) ++ ((l.filter fun z => (s.cam n).bandOf z.k == (s.cam n).bandOf e.k).map fun _ => t.now) ∧ t.rd (K.camstBandsDropped
    n) = (s.rd (K.camstBandsDropped n) + 1) % 2 ^ 32 ∧ t.rd (K.camstLinesDropped n) = (s.rd (K.camstLinesDropped n) + x.waiting) % 2 ^ 32 ∧ t.bit
    (K.camstStatus n) 5 = true ∧ t.bit (K.camstStatus n) 1 = true ∧ (∀ m, m ≠ n → t.cam m = s.cam m) ∧ Frame (withSide [.clock, .cameras]) (sideAnd
    [.one (K.camstBandsDropped n), .one (K.camstLinesDropped n), .one (K.camstStatus n)]) s t) ∧
  (∀ (n u : Nat) (o : List Nat) (s : State), n < 12 → (s.cam n).owed = u :: o → ∃ t, exec (.owedLineLapse n) s = .next t ∧ t.cam n =
    { s.cam n with owed := o } ∧ t.now = max s.now (u + us (s.rd (K.camLineTimeout n))) ∧ (∀ m, m ≠ n → t.cam m = s.cam m) ∧ t.uplinks = s.uplinks ∧
    Frame [.clock, .cameras] [] s t)

/-- O28. A line that answers an owed line is discarded; a good line enters the FIFO with the oldest listed trigger; a bad one
drops its band; a retired channel only counts it. An ended band raises CAM_BAND_END. A lost link drops the open bands and relocks;
found again, the channel is ACTIVE; not found, it is retired. Heartbeats, events and acknowledges are counted. -/
def Obligations.CameraLineCommands : Prop :=
  (∀ (n : Nat) (l : CamLine) (v : Nat) (o : List Nat) (s : State), n < 12 → s.camState n = camActive → s.replaying n = false → (s.cam n).owed = v :: o
    → ∃ t, exec (.lineReceived n l) s = .next t ∧ t.cam n = { s.cam n with owed := o } ∧ (∀ m, m ≠ n → t.cam m = s.cam m) ∧ t.uplinks = s.uplinks ∧
    Frame [.cameras] [] s t) ∧
  (∀ (n : Nat) (l : CamLine) (e : CamTrig) (r : List CamTrig) (s : State), n < 12 → s.camState n = camActive → s.replaying n = false → (s.cam n).owed
    = [] → (s.cam n).taking = true → l.badCrc = 0 → (s.cam n).fifo.length < s.rd (K.camFifoLines n) → (s.cam n).list = e :: r → s.lineFits n l e =
    true → ∃ t, exec (.lineReceived n l) s = .next t ∧ (t.cam n).list = r ∧ (∃ x, (t.cam n).fifo = (s.cam n).fifo ++ [x] ∧ x.k = e.k ∧ x.t = e.t ∧
    x.time = e.time ∧ x.data = s.unpack n l.samples) ∧ t.rd (K.camstFifoFill n) = (s.cam n).fifo.length + 1 ∧ (∀ m, m ≠ n → t.cam m = s.cam m) ∧ Frame
    (withSide [.cameras]) (sideAnd [.fam (K.camstBandsDropped 0) 12, .fam (K.camstCrcErrors 0) 12, .fam (K.camstDiscardCount 0) 12, .fam
    (K.camstFifoFill 0) 12, .fam (K.camstFifoPeak 0) 12, .fam (K.camstLinesAccepted 0) 12, .fam (K.camstLinesDropped 0) 12, .fam (K.camstStatus 0)
    12]) s t) ∧
  (∀ (n : Nat) (l : CamLine) (s : State), n < 12 → s.camState n = camRetired → ∃ t, exec (.lineReceived n l) s = .next t ∧ t.rd (K.camstDiscardCount
    n) = (s.rd (K.camstDiscardCount n) + 1) % 2 ^ 32 ∧ Frame [.regs] [.one (K.camstDiscardCount n)] s t) ∧
  (∀ (n : Nat) (s : State), n < 12 → s.camState n = camActive → (s.cam n).owed = [] → (s.cam n).taking = true → ∃ t, exec (.skewTimeout n) s = .next t
    ∧ t.bit (K.camstStatus n) 3 = true ∧ (∀ m, m ≠ n → t.cam m = s.cam m) ∧ Frame (withSide [.cameras]) (sideAnd [.one (K.camstBandsDropped n), .one
    (K.camstLinesDropped n), .one (K.camstStatus n)]) s t) ∧
  (∀ (n : Nat) (x : Band) (s : State), n < 12 → (s.cam n).bands.find? (s.bandOver n) = some x → ∃ t, exec (.bandEnd n) s = .next t ∧ t.cam n = (s.cam
    n).updBand x.b (fun x => { x with ended := true }) ∧ (∀ m, m ≠ n → t.cam m = s.cam m) ∧ t.uplinks = s.uplinks ∧ Frame [.events, .cameras] [] s t) ∧
  (∀ (n link : Nat) (s : State), n < 12 → link < 4 → s.camState n = camActive → link < s.rd (K.camLinkCount n) → (s.faultsIn (2 * 256 + n) (s.rd
    (K.camRetryWindow n))).length + 1 ≤ s.rd (K.camRetryCount n) → ∃ t, exec (.cxpLinkLost n link) s = .next t ∧ t.camState n = camRelock ∧ t.bit
    (K.camstLinksUp n) link = false ∧ t.bit (K.camstStatus n) 0 = true ∧ t.rd (K.camstFaultCount n) = (s.rd (K.camstFaultCount n) + 1) % 2 ^ 32 ∧ t.rd
    (K.camstLastFaultTime n) = s.time ∧ (t.cam n).relockAt = s.now ∧ (∀ m, m ≠ n → t.cam m = s.cam m) ∧ Frame (withSide [.domains, .cameras]) (sideAnd
    [.fam (K.camstBandsDropped 0) 12, .fam (K.camstChannelState 0) 12, .fam (K.camstDiscoveryPhase 0) 12, .fam (K.camstFaultCount 0) 12, .fam
    (K.camstFifoFill 0) 12, .fam (K.camstLastFaultTime 0) 12, .fam (K.camstLinesDropped 0) 12, .fam (K.camstLinksUp 0) 12, .fam (K.camstSpeed 0) 12,
    .fam (K.camstStatus 0) 12, .fam (K.tunTunnelStatus 0) 12, .one K.camsPresent, .one K.camsPresentCount, .one K.camsRetired, .one K.fltFaultStatus,
    .one K.fltLastRetiredUnit, .one K.fltRetiredCount, .one K.fltTransientCount]) s t) ∧
  (∀ (n : Nat) (eyes : List Nat) (s : State), n < 12 → s.camState n = camRelock → ∃ t, exec (.cxpRelocked n eyes) s = .next t ∧ t.camState n =
    camActive ∧ t.rd (K.camstLinksUp n) = 2 ^ s.rd (K.camLinkCount n) - 1 ∧ t.cam n = { s.cam n with lock := true, lastLine := none } ∧ (∀ m, m ≠ n →
    t.cam m = s.cam m) ∧ Frame (withSide [.boot, .cameras]) (sideAnd [.fam (K.camstChannelState 0) 12, .fam (K.camstLinksUp 0) 12, .one
    K.calCalStatus, .one K.camsPresent, .one K.camsPresentCount, .one K.camsRetired]) s t) ∧
  (∀ (n : Nat) (s : State), n < 12 → s.camState n = camRelock → ∃ t, exec (.relockTimeout n) s = .next t ∧ t.camState n = camRetired ∧ (t.cam n).fifo
    = [] ∧ (t.cam n).list = [] ∧ t.now = max s.now ((s.cam n).relockAt + ms (s.rd (K.camRetryWindow n))) ∧ t.rd K.fltLastRetiredUnit = 2 * 256 + n ∧
    (∀ m, m ≠ n → t.cam m = s.cam m) ∧ Frame (withSide [.clock, .domains, .cameras]) (sideAnd [.fam (K.camstChannelState 0) 12, .fam (K.camstFifoFill
    0) 12, .fam (K.camstStatus 0) 12, .fam (K.tunTunnelStatus 0) 12, .one K.camsPresent, .one K.camsPresentCount, .one K.camsRetired, .one
    K.fltFaultStatus, .one K.fltLastRetiredUnit, .one K.fltRetiredCount]) s t) ∧
  (∀ (n : Nat) (s : State), n < 12 → s.camState n = camActive ∨ s.camState n = camRelock → ∃ t, exec (.cxpHeartbeat n) s = .next t ∧ t.rd
    (K.camstHeartbeats n) = (s.rd (K.camstHeartbeats n) + 1) % 2 ^ 32 ∧ Frame [.regs] [.one (K.camstHeartbeats n)] s t) ∧
  (∀ (n : Nat) (s : State), n < 12 → s.camState n = camActive ∨ s.camState n = camRelock → ∃ t, exec (.cxpEvent n) s = .next t ∧ t.rd
    (K.camstCamEvents n) = (s.rd (K.camstCamEvents n) + 1) % 2 ^ 32 ∧ Frame [.regs] [.one (K.camstCamEvents n)] s t) ∧
  (∀ (n : Nat) (s : State), n < 12 → s.camState n = camActive ∨ s.camState n = camRelock → ∃ t, exec (.cxpTriggerAck n) s = .next t ∧ t.rd
    (K.camstTrigAcks n) = (s.rd (K.camstTrigAcks n) + 1) % 2 ^ 32 ∧ Frame [.regs] [.one (K.camstTrigAcks n)] s t)

/-- O29. TUNNEL_GO with the link up starts the transfer its entries describe and sends its first command; refused with ERR_BUSY
while one is under way; an acknowledge of the last chunk ends it OK, with the bytes read in TunnelData; a refusing code ends it
with ERROR; no acknowledge in time ends it with TIMEOUT. -/
def Obligations.CameraTunnelCommands : Prop :=
  (∀ (a : Acc) (n : Nat) (s : State), s.writeStatus a (K.tunTunnelGo n) = 0 → n < 12 → s.rd (K.tunTunnelStatus n) ≠ 1 → s.camState n ≠ camDiscovery →
    accVal a (K.tunTunnelGo n) = 1 → s.tunUp n = true → ∃ t, exec (.tunnelGo a n) s = .next t ∧ t.rd (K.tunTunnelStatus n) = 1 ∧ (t.cam n).tunOff = 0
    ∧ (t.cam n).tunLen = s.rd (K.tunLength n) ∧ (t.cam n).tunAddr = s.rd (K.tunAddress n) ∧ (t.cam n).tunAt = s.now ∧ (∃ d, t.uplinks = s.uplinks ++
    [Uplink.control n (s.rd (K.tunAddress n)) (min (s.rd (K.camControlChunk n)) (s.rd (K.tunLength n))) (s.rd (K.tunDirection n) == 1) d]) ∧ (∀ m, m ≠
    n → t.cam m = s.cam m) ∧ t.rd (K.pathLastStatus a.path) = 0 ∧ Frame [.regs, .cameras] (okAnd a [.one (K.tunTunnelStatus n)]) s t) ∧
  (∀ (a : Acc) (n : Nat) (s : State), n < 12 → s.writeStatus a (K.tunTunnelGo n) = 0 → s.rd (K.tunTunnelStatus n) = 1 → exec (.tunnelGo a n) s = .next
    (s.done a (K.tunTunnelGo n) 13)) ∧
  (∀ (n : Nat) (data : List Nat) (s : State), n < 12 → s.rd (K.tunTunnelStatus n) = 1 → s.tunUp n = true → (s.cam n).tunWrite = false → (s.cam
    n).tunLen ≤ (s.cam n).tunOff + s.rd (K.camControlChunk n) → ∃ t, exec (.tunnelAck n 0 data false) s = .next t ∧ t.rd (K.tunTunnelStatus n) = 2 ∧
    t.rd (K.tunAckCode n) = 0 ∧ t.dom = putBytes s.dom (K.tunData n) 0 ((s.cam n).tunRead ++ padTo ((s.cam n).tunLen - (s.cam n).tunOff) (data.take
    ((s.cam n).tunLen - (s.cam n).tunOff))) ∧ (∀ m, m ≠ n → t.cam m = s.cam m) ∧ Frame (withSide [.domains, .cameras]) (sideAnd [.one
    (K.tunTunnelStatus n), .one (K.tunAckCode n)]) s t) ∧
  (∀ (n code : Nat) (data : List Nat) (s : State), n < 12 → s.rd (K.tunTunnelStatus n) = 1 → s.tunUp n = true → code ≠ 0 → ∃ t, exec (.tunnelAck n
    code data false) s = .next t ∧ t.rd (K.tunTunnelStatus n) = 3 ∧ t.rd (K.tunAckCode n) = code % 256 ∧ Frame sideParts (sideAnd [.one
    (K.tunTunnelStatus n), .one (K.tunAckCode n)]) s t) ∧
  (∀ (n : Nat) (s : State), n < 12 → s.rd (K.tunTunnelStatus n) = 1 → ∃ t, exec (.tunnelTimeout n) s = .next t ∧ t.rd (K.tunTunnelStatus n) = 4 ∧
    t.now = max s.now ((s.cam n).tunAt + ms (s.rd (K.tunTimeout n))) ∧ Frame (withSide [.clock]) (sideAnd [.one (K.tunTunnelStatus n)]) s t)

/-- O30. A round with one context ready reads its oldest line from the FIFO into the pipe, from which it comes out 48 FABCLK after
its last pixel, and counts the round. A line that leaves the pipe is corrected, counted, and, of a member, handed to the Seam
unit. A band whose lines are out closes and raises PRS_BAND_DONE. A flush pass empties the line store of ALTERNATE. Replay reads
the next line and steps ReplayNext. Each millisecond shows the load of a pipe. -/
def Obligations.PrismCommands : Prop :=
  (∀ (p n : Nat) (x : CLine) (f : List CLine) (u : State) (s : State), p < 3 → u = [4 * p, 4 * p + 1, 4 * p + 2, 4 * p + 3].foldl State.ctxReady (s.at
    (s.pipe p).busyTill) → [4 * p, 4 * p + 1, 4 * p + 2, 4 * p + 3].filter (fun n => !(u.cam n).fifo.isEmpty && !u.ctxWaits n) = [n] → (u.cam n).fifo
    = x :: f → ∃ t, exec (.roundOpen p) s = .next t ∧ (t.cam n).fifo = f ∧ t.rd (K.camstFifoFill n) = f.length ∧ (t.ctx n).pipe = (u.ctx n).pipe ++
    [(x, u.now + u.readLen n + 48)] ∧ t.rd (K.pipeRounds p) = (u.rd (K.pipeRounds p) + 1) % 2 ^ 64 ∧ t.rd (K.ctxsBandInProcess n) = ofI 64 x.band ∧
    (t.pipe p).busyTill = u.now + u.readLen n ∧ (∀ m, m ≠ n → t.cam m = u.cam m ∧ t.ctx m = u.ctx m) ∧ Frame [.regs, .cameras, .prism] [.one
    (K.camstFifoFill n), .one (K.pipeLinesProcessed p), .one (K.pipeMaxWait p), .one (K.pipeRounds p), .one (K.ctxsBandInProcess n), .one
    (K.ctxsPrismGeneration n)] u t ∧ Frame (withSide [.clock, .cameras, .prism]) (sideAnd [.fam (K.camstFifoFill 0) 12, .fam (K.ctxsBandInProcess 0)
    12, .fam (K.ctxsContextState 0) 12, .fam (K.ctxsLinesDiscarded 0) 12, .fam (K.ctxsPrismGeneration 0) 12, .fam (K.ctxsStatus 0) 12, .fam
    (K.pipeLinesProcessed 0) 3, .fam (K.pipeMaxWait 0) 3, .fam (K.pipeRounds 0) 3]) s t) ∧
  (∀ (n : Nat) (x : CLine) (d : Nat) (l : List (CLine × Nat)) (s : State), n < 12 → (s.ctx n).pipe = (x, d) :: l → s.rd (K.ctxMergeMode n) ≠ 2 → ∃ t,
    exec (.pipeLineDone n) s = .next t ∧ t.now = max s.now d ∧ (t.ctx n).pipe = l ∧ t.rd (K.ctxsLinesProcessed n) = (s.rd (K.ctxsLinesProcessed n) +
    1) % 2 ^ 64 ∧ (s.isMember n = false → (t.ctx n).out = (s.ctx n).out) ∧ (s.isMember n = true → ∃ y, (t.ctx n).out = (s.ctx n).out ++ [y] ∧ y.k =
    x.k ∧ y.t = x.t ∧ y.time = x.time ∧ y.band = x.band) ∧ (∀ m, m ≠ n → t.ctx m = s.ctx m ∧ t.cam m = s.cam m) ∧ t.pipes = s.pipes ∧ Frame (withSide
    [.clock, .cameras, .prism]) (sideAnd [.one (K.ctxsLinesProcessed n), .one (K.ctxsSatCount n), .one (K.ctxsStatus n), .one (K.memsOutOfRange n)]) s
    t) ∧
  (∀ (n : Nat) (x : CLine) (s : State), n < 12 → lastOf (s.ctx n).store = some x → (s.ctx n).pipe = [] → (∀ b, (s.cam n).band x.band = some b →
    b.ended = true ∨ b.dropped = true) → ∃ t, exec (.flushPass n) s = .next t ∧ (t.ctx n).store = [] ∧ t.rd (K.pipeLinesProcessed (n / 4)) = (s.rd
    (K.pipeLinesProcessed (n / 4)) + 1) % 2 ^ 64 ∧ t.rd (K.ctxsLinesProcessed n) = (s.rd (K.ctxsLinesProcessed n) + 1) % 2 ^ 64 ∧ t.now = max s.now
    (s.pipe (n / 4)).busyTill + s.readLen n + 48 ∧ (∀ m, m ≠ n → t.ctx m = s.ctx m ∧ t.cam m = s.cam m) ∧ Frame (withSide [.clock, .cameras, .prism])
    (sideAnd [.one (K.pipeLinesProcessed (n / 4)), .one (K.ctxsLinesProcessed n), .one (K.ctxsSatCount n), .one (K.ctxsStatus n), .one
    (K.memsOutOfRange n)]) s t) ∧
  (∀ (n : Nat) (x : Band) (s : State), n < 12 → (s.cam n).bands.find? (fun x => x.ended && x.piped == 0 && x.closed.isNone) = some x → ∃ t, exec
    (.prismBandDone n) s = .next t ∧ t.cam n = (s.cam n).updBand x.b (fun x => { x with closed := some s.time }) ∧ (∀ m, m ≠ n → t.cam m = s.cam m) ∧
    t.uplinks = s.uplinks ∧ Frame [.events, .cameras] [] s t) ∧
  (∀ (n : Nat) (e : CamTrig) (l : List CamTrig) (s : State), n < 12 → s.replaying n = true → s.dev = stRunning → (s.ctx n).replayEnd = false →
    s.camState n ≠ camDisabled → s.rd (K.repReplayPace n) = 0 → (s.cam n).list = e :: l → s.fifoFree n = true → s.rd (K.ctxsReplayNext n) + 1 < s.rd
    (K.repReplayLines n) → ∃ t, exec (.replayLine n) s = .next t ∧ t.rd (K.ctxsReplayNext n) = s.rd (K.ctxsReplayNext n) + 1 ∧ (t.cam n).list = l ∧
    (t.ctx n).replayK = some (e.k + 1) ∧ (t.ctx n).replayAt = some s.now ∧ t.now = s.now ∧ (∀ m, m ≠ n → t.ctx m = s.ctx m ∧ t.cam m = s.cam m) ∧
    Frame (withSide [.clock, .cameras, .prism]) (sideAnd [.fam (K.camstBandIndex 0) 12, .fam (K.camstBandsDropped 0) 12, .fam (K.camstCameraGeneration
    0) 12, .fam (K.camstFifoFill 0) 12, .fam (K.camstFifoPeak 0) 12, .fam (K.camstLinesAccepted 0) 12, .fam (K.camstLinesDropped 0) 12, .fam
    (K.camstStatus 0) 12, .fam (K.ctxsReplayNext 0) 12, .fam (K.ctxsStatus 0) 12, .fam (K.portBytesRead 0) 12, .one K.dramLastMapError, .one
    K.dramMapErrors, .one K.dramMemStatus]) s t) ∧
  (∀ (p : Nat) (s : State), p < 3 → ∃ t, exec (.loadIntervalEnd p) s = .next t ∧ (t.pipe p).mark = max (s.pipe p).mark (s.now / 800000 * 800000 -
    800000) + 800000 ∧ t.rd (K.pipeLoadPercent p) = ((s.pipe p).spans.map (overlap ((t.pipe p).mark - 800000) (t.pipe p).mark)).sum * 100 / 800000 ∧
    t.now = max s.now (t.pipe p).mark ∧ (∀ q, q ≠ p → t.pipe q = s.pipe q) ∧ t.ctxs = s.ctxs ∧ Frame [.clock, .regs, .prism] [.one (K.pipeLoadPercent
    p), .one (K.pipeLoadPeak p)] s t)

/-- O31. A member's resampled line joins the stitched line of its index, or is discarded and counted late when that line is
already out. The deadline marks the first open line. A line that is ready leaves: it is the last line sent and the output is busy
for Width/40. WIN_START begins a capture of CaptureLines, and is an overrun during one. A closed band that the Seam unit has done
with leaves one record in RecordQueue, or a lost one. -/
def Obligations.SeamCommands : Prop :=
  (∀ (n : Nat) (m : MLine) (l : List MLine) (j : Int) (s : State), n < 12 → (s.ctx n).out = m :: l → j = m.k - s.rdI 32 (K.memLineShift n) →
    s.expected n j = true → ((∀ i, s.seam.last = some i → i < j)) → s.slotsUsed n < s.rd K.seamWaitLines → ∃ t, exec (.seamMemberLine n) s = .next t ∧
    (t.ctx n).out = l ∧ t.seam.opens = joinLine s.now n j m s.seam.opens ∧ t.seam.last = s.seam.last ∧ t.cams = s.cams ∧ t.coding = s.coding ∧ t.wins
    = s.wins ∧ t.views = s.views ∧ (∀ k, k ≠ n → t.ctx k = s.ctx k) ∧ t.pipes = s.pipes ∧ Frame [.regs, .prism, .seam] [.fam (K.memsMemberState 0) 12]
    s t) ∧
  (∀ (n : Nat) (m : MLine) (l : List MLine) (i : Int) (s : State), n < 12 → (s.ctx n).out = m :: l → s.seam.last = some i → m.k - s.rdI 32
    (K.memLineShift n) ≤ i → ∃ t, exec (.seamMemberLine n) s = .next t ∧ (t.ctx n).out = l ∧ t.rd (K.memsLateLines n) = (s.rd (K.memsLateLines n) + 1)
    % 2 ^ 32 ∧ t.seam = s.seam ∧ (∀ k, k ≠ n → t.ctx k = s.ctx k ∧ t.cam k = s.cam k) ∧ Frame (withSide [.cameras, .prism, .seam]) (sideAnd [.fam
    (K.memsLateLines 0) 12, .fam (K.memsMemberState 0) 12, .one K.seamsStatus, .one K.seamsWaitForced]) s t) ∧
  (∀ (x : SLine) (s : State), s.seam.opens.find? (fun x => !x.late) = some x → ∃ t, exec .seamDeadline s = .next t ∧ t.now = max s.now (x.since + s.rd
    K.seamSeamWait) ∧ t.seam = { s.seam with opens := s.seam.opens.map fun y => if y.s = x.s then { y with late := true } else y } ∧ t.coding =
    s.coding ∧ t.wins = s.wins ∧ t.views = s.views ∧ Frame [.clock, .seam] [] s t) ∧
  (∀ (refLate : Nat) (x : SLine) (l : List SLine) (s : State), s.seam.opens = x :: l → s.lineReady x = true → ∃ t, exec (.lineEmit refLate) s = .next
    t ∧ t.seam.opens = l ∧ t.seam.last = some x.s ∧ t.seam.busyTill = t.now + ceilDiv (s.rd K.seamWidth) 40 ∧ t.now = max s.now s.seam.busyTill ∧
    Frame (withSide [.clock, .free, .staged, .domains, .pool, .out, .mem, .memory, .cameras, .seam, .engines, .slip, .umbra, .loop]) [.all] s t) ∧
  (∀ (w : Nat) (d : Delivery) (u : State) (s : State), w < 2 → s.takeTask (2 + w) = some (d, u) → s.rd (K.winWinMode w) = 2 → (s.win w).left = 0 → ∃
    t, exec (.winStart w) s = .next t ∧ (t.win w).left = s.rd (K.winCaptureLines w) ∧ (t.win w).count = 0 ∧ t.bit (K.winsWinStatus w) 1 = true ∧
    t.tasks = u.tasks ∧ (∀ v, v ≠ w → t.win v = s.win v) ∧ t.seam = s.seam ∧ t.views = s.views ∧ t.coding = s.coding ∧ Frame [.regs, .events, .seam]
    [.one (K.winsWinStatus w)] s t) ∧
  (∀ (w : Nat) (d : Delivery) (u : State) (s : State), w < 2 → s.takeTask (2 + w) = some (d, u) → s.rd (K.winWinMode w) = 2 → (s.win w).left ≠ 0 → ∃
    t, exec (.winStart w) s = .next t ∧ t.bit (K.winsWinStatus w) 0 = true ∧ t.tasks = u.tasks ∧ Frame sideParts (sideAnd [.one (K.winsWinStatus w)])
    s t) ∧
  (∀ (n : Nat) (b : Band) (s : State), n < 12 → (s.cam n).bands.find? (fun x => x.closed.isSome && x.seam == 0) = some b → s.rd K.seamRecordQueue < 64
    → s.rd (K.qItemBytes (s.rd K.seamRecordQueue)) ≥ (recordBytes n b).length → s.queCredits (s.rd K.seamRecordQueue) ≠ 0 → ∃ t, exec (.bandRecord n)
    s = .next t ∧ t.cam n = { s.cam n with bands := (s.cam n).bands.filter fun x => x.b != b.b } ∧ t.rd (K.qsItemsIn (s.rd K.seamRecordQueue)) = (s.rd
    (K.qsItemsIn (s.rd K.seamRecordQueue)) + 1) % 2 ^ 64 ∧ (∀ m, m ≠ n → t.cam m = s.cam m) ∧ (∀ q, q ≠ s.rd K.seamRecordQueue → t.que q = s.que q) ∧
    t.drams = s.drams ∧ t.dmas = s.dmas ∧ t.uplinks = s.uplinks ∧ Frame [.regs, .events, .memory, .cameras] [.one (K.qsFill (s.rd K.seamRecordQueue)),
    .one (K.qsFillPeak (s.rd K.seamRecordQueue)), .one (K.qsItemsIn (s.rd K.seamRecordQueue))] s t) ∧
  (∀ (n : Nat) (b : Band) (s : State), n < 12 → (s.cam n).bands.find? (fun x => x.closed.isSome && x.seam == 0) = some b → s.rd K.seamRecordQueue =
    255 → ∃ t, exec (.bandRecord n) s = .next t ∧ t.cam n = { s.cam n with bands := (s.cam n).bands.filter fun x => x.b != b.b } ∧ t.rd
    K.seamsRecordsLost = (s.rd K.seamsRecordsLost + 1) % 2 ^ 32 ∧ t.bit K.seamsStatus 3 = true ∧ (∀ m, m ≠ n → t.cam m = s.cam m) ∧ Frame (withSide
    [.cameras]) (sideAnd [.one K.seamsRecordsLost, .one K.seamsStatus]) s t)

/-- O32. The oldest closed component's tag is written at t0 + 512 plus its place: a suppressed one is only counted; another is
counted in TagsWritten and takes the next TagId. A group of one fragment whose hold ends is only dropped. A complete crop writes
its header at its slot of the ring, and nowhere else, and raises CROP_DONE. A Crazing window that ends starts the next band's. -/
def Obligations.UmbraCommands : Prop :=
  (∀ (c : Closed) (l : List Closed) (s : State), s.umb.closed = c :: l → c.tag.suppressed = true → ∃ t, exec .tagWrite s = .next t ∧ t.rd
    K.umbsSuppressed = (s.rd K.umbsSuppressed + 1) % 2 ^ 32 ∧ t.rd K.umbsTagsWritten = s.rd K.umbsTagsWritten ∧ t.now = max s.now (c.t0 + 512 +
    c.place) ∧ (∀ y ∈ t.umb.closed, y.num ≠ c.num) ∧ Frame (withSide [.clock, .memory, .wheel, .seam, .umbra, .link]) (sideAnd [.fam (K.cmpCmpStatus
    0) 16, .fam (K.cmpQueueFill 0) 16, .fam (K.qsFill 0) 64, .fam (K.qsFillPeak 0) 64, .fam (K.qsItemsIn 0) 64, .fam (K.qsNoCreditCount 0) 64, .fam
    (K.qsQueueStatus 0) 64, .fam (K.spsPortStatus 0) 2, .fam (K.spsQueueDrops 0) 2, .fam (K.viewsOverlayDropped 0) 8, .fam (K.viewsViewStatus 0) 8,
    .one K.quesSizeErrors, .one K.umbsLastTagId, .one K.umbsLateTags, .one K.umbsStatus, .one K.umbsSuppressed, .one K.umbsTagsWritten]) s t) ∧
  (∀ (c : Closed) (l : List Closed) (s : State), s.umb.closed = c :: l → c.tag.suppressed = false → s.rd K.umbTagQueue = 255 → ∃ t, exec .tagWrite s =
    .next t ∧ t.rd K.umbsTagsWritten = (s.rd K.umbsTagsWritten + 1) % 2 ^ 64 ∧ t.rd K.umbsLastTagId = s.nextTagId ∧ t.now = max s.now (c.t0 + 512 +
    c.place) ∧ Frame (withSide [.clock, .memory, .wheel, .seam, .umbra, .link]) (sideAnd [.fam (K.cmpCmpStatus 0) 16, .fam (K.cmpQueueFill 0) 16, .fam
    (K.qsFill 0) 64, .fam (K.qsFillPeak 0) 64, .fam (K.qsItemsIn 0) 64, .fam (K.qsNoCreditCount 0) 64, .fam (K.qsQueueStatus 0) 64, .fam
    (K.spsPortStatus 0) 2, .fam (K.spsQueueDrops 0) 2, .fam (K.viewsOverlayDropped 0) 8, .fam (K.viewsViewStatus 0) 8, .one K.quesSizeErrors, .one
    K.umbsLastTagId, .one K.umbsLateTags, .one K.umbsStatus, .one K.umbsSuppressed, .one K.umbsTagsWritten]) s t) ∧
  (∀ (g : Nat) (r : List Nat) (f : Frag) (s : State), sortBy (fun g => ((if 7 ≤ (s.umb.group g).length then 0 else groupEnd (s.umb.group g) : Nat) :
    Int)) (sortBy (fun g => (g : Int)) (((s.umb.frags.map fun f => f.group).dedup).filter fun g => s.groupReady (s.umb.group g))) = g :: r →
    s.umb.group g = [f] → ∃ t, exec .joinHoldEnd s = .next t ∧ t.umb = { s.umb with frags := s.umb.frags.filter fun f => f.group != g } ∧ t.now = max
    s.now (groupEnd [f]) ∧ Frame [.clock, .umbra] [] s t) ∧
  (∀ (c : Crop) (s : State), s.umb.crops.find? Crop.complete = some c → s.inDram (s.rd K.cropCropBase + c.slot) 64 = true → ∃ t, exec .cropDone s =
    .next t ∧ t.umb = { s.umb with crops := s.umb.crops.filter fun y => y.num != c.num } ∧ (s.memOk → (∀ b, b < s.rd K.cropCropBase + c.slot ∨ s.rd
    K.cropCropBase + c.slot + 64 ≤ b → memGet t.mem b = memGet s.mem b) ∧ memGet t.mem (s.rd K.cropCropBase + c.slot) = 0x52 ∧ memGet t.mem (s.rd
    K.cropCropBase + c.slot + 1) = 0x43) ∧ Frame (withSide [.mem, .memory, .umbra]) (sideAnd [.fam (K.portBytesWritten 0) 12, .fam (K.qsFill 0) 64,
    .fam (K.qsFillPeak 0) 64, .fam (K.qsItemsIn 0) 64, .fam (K.qsNoCreditCount 0) 64, .fam (K.qsQueueStatus 0) 64, .one K.dramLastMapError, .one
    K.dramMapErrors, .one K.dramMemStatus, .one K.quesSizeErrors]) s t) ∧
  (∀ (j : Int) (s : State), s.umb.last = some j → s.crazeDue (j + 1) = true → s.crazeCandidates = [] → ∃ t, exec .crazeWindowEnd s = .next t ∧ t.umb =
    { s.umb with craze := [], crazeBand := some (s.bandAt (j + 1)) } ∧ Frame [.umbra] [] s t) ∧
  (∀ (j : Int) (s : State), s.umb.last = some j → s.crazeDue (j + 1) = true → ∃ t, exec .crazeWindowEnd s = .next t ∧ t.umb.crazeBand = some (s.bandAt
    (j + 1)) ∧ Frame (withSide [.memory, .slip, .umbra]) (sideAnd [.fam (K.qsFill 0) 64, .fam (K.qsFillPeak 0) 64, .fam (K.qsItemsIn 0) 64, .fam
    (K.qsNoCreditCount 0) 64, .fam (K.qsQueueStatus 0) 64, .one K.glzMaskRequestsLost, .one K.glzStatus, .one K.quesSizeErrors, .one K.umbsCrazeFound,
    .one K.umbsStatus]) s t)

/-- O33. A bar line that may start, with its rows in the input queue, is computed from the state at its start and takes a bank at
every port of the bar; with rows missing it stalls, once counted and flagged. Its end counts the line and moves the bar to the
next. An idle reserved engine takes the segment that the bar most in need asks for. A clear request joins its bar's mask queue,
and a request of a bar that does not run is applied to its nozzle alone. -/
def Obligations.SlipCommands : Prop :=
  (∀ (b : Nat) (u : State) (s : State), b < 16 → s.lineAllowed b = true → u = fetchSettle b 64 (s.beginRepeat b) → u.withinStop (u.barLine b (u.bar
    b).k) = true → (u.lineRows (u.bar b).pos (u.barLine b (u.bar b).k)).all (u.rowReady b) = true → ∃ t, exec (.barLineStart b) s = .next t ∧ t =
    (u.glazeBoundary b).startLine b (u.boundaryDelay b) ∧ (t.bar b).cur.isSome = true ∧ (t.bar b).stalled = false ∧ Frame [.regs, .slip, .kiln] [.fam
    (K.khHeadState 0) 128] (u.glazeBoundary b) t ∧ Frame (withSide [.device, .staged, .domains, .pool, .glaze, .slip, .kiln, .loop]) [.all] s t) ∧
  (∀ (b : Nat) (u : State) (s : State), b < 16 → s.lineAllowed b = true → u = fetchSettle b 64 (s.beginRepeat b) → u.withinStop (u.barLine b (u.bar
    b).k) = true → (u.lineRows (u.bar b).pos (u.barLine b (u.bar b).k)).all (u.rowReady b) = false → (u.bar b).stalled = false → ∃ t, exec
    (.barLineStart b) s = .next t ∧ (t.bar b).stalled = true ∧ t.rd (K.barsInputStalls b) = (u.rd (K.barsInputStalls b) + 1) % 2 ^ 32 ∧ t.bit
    K.slipStatus 1 = true ∧ Frame (withSide [.slip]) (sideAnd [.one (K.barsInputStalls b), .one K.slipStatus]) u t ∧ Frame (withSide [.device,
    .staged, .domains, .pool, .glaze, .slip, .kiln, .loop]) [.all] s t) ∧
  (∀ (b due : Nat) (s : State), b < 16 → (s.bar b).cur = some (due, none) → s.isLead b = false → ∃ t, exec (.barLineDone b) s = .next t ∧ t.now = max
    s.now due ∧ t.rd (K.barsLine b) = ofI 64 (s.barLine b (s.bar b).k) ∧ t.rd (K.barsLinesScreened b) = (s.rd (K.barsLinesScreened b) + 1) % 2 ^ 64 ∧
    (t.bar b).k = (s.bar b).k + 1 ∧ (t.bar b).cur = none ∧ (∀ c, c ≠ b → t.bar c = s.bar c) ∧ Frame (withSide [.clock, .device, .mem, .slip, .kiln,
    .loop]) (sideAnd [.fam (K.barsLine 0) 16, .fam (K.barsLinesScreened 0) 16, .fam (K.barsQueueFill 0) 16, .fam (K.portBytesWritten 0) 12, .one
    K.devDeviceState, .one K.devStateChanges, .one K.devStateTime, .one K.devStopCause, .one K.dramLastMapError, .one K.dramMapErrors, .one
    K.dramMemStatus, .one K.slipJobState, .one K.slipLeadLine, .one K.slipRingFront, .one K.slipStopLine, .one K.slipVarReadIndex]) s t) ∧
  (∀ (e b : Nat) (r : List Nat) (u v : State) (d : List Nat) (rows cols : Nat) (s : State), e < 6 → s.zeNextReserved e = true → u = s.barsOn.foldl
    (fun s b => fetchSettle b 64 s) s → u.fetchOrder = b :: r → u.fetchLook b = (.segment d rows cols, v) → ∃ t, exec (.segmentFetch e) s = .next t ∧
    t = v.fetchSegment e b d rows cols ∧ (t.ze e).job = some
    { kind := 2, op := 1, src := leAt d 0 8, inLen := leAt d 8 4, outLimit := rows * cols, bar := b, rep := (v.bar b).fetch.idx, seg := (v.bar b).fetchSeg }
    ∧ (t.bar b).fetchSeg = (v.bar b).fetchSeg + 1 ∧ Frame [.regs, .engines, .slip] [.one (K.barsQueueFill b), .one (K.zesEngineState e)] v t ∧ Frame
    (withSide [.engines, .slip]) (sideAnd [.fam (K.barsQueueFill 0) 16, .fam (K.portBytesRead 0) 12, .fam (K.zesEngineState 0) 6, .one
    K.dramLastMapError, .one K.dramMapErrors, .one K.dramMemStatus, .one K.slipStatus]) s t) ∧
  (∀ (a : Acc) (s : State), s.writeStatus a K.glzMaskClear = 0 → accVal a K.glzMaskClear ≠ 0xFFFFFFFF → ((s.bar (s.headBar (accVal a K.glzMaskClear /
    8192))).masks).length < 64 → ∃ t, exec (.maskClear a) s = .next t ∧ (t.bar (s.headBar (accVal a K.glzMaskClear / 8192))).masks = (s.bar (s.headBar
    (accVal a K.glzMaskClear / 8192))).masks ++ [{ nozzle := accVal a K.glzMaskClear, set := 0 }] ∧ (∀ c, c ≠ s.headBar (accVal a K.glzMaskClear /
    8192) → t.bar c = s.bar c) ∧ t.slip = s.slip ∧ t.rd (K.pathLastStatus a.path) = 0 ∧ Frame [.regs, .slip] (okAnd a []) s t) ∧
  (∀ (b : Nat) (r : MaskReq) (l : List MaskReq) (s : State), (List.range 17).find? (fun b => !s.barRuns b && !(s.bar b).masks.isEmpty) = some b →
    (s.bar b).masks = r :: l → r.nozzle ≠ 0xFFFFFFFF → ∃ t, exec .maskRequestApply s = .next t ∧ (t.bar b).masks = l ∧ t.glazeWord r.nozzle = maskWord
    (s.glazeWord r.nozzle) r.set ∧ (∀ n, n ≠ r.nozzle → t.glazeWord n = s.glazeWord n) ∧ t.rd K.glzMaskRequests = (s.rd K.glzMaskRequests + 1) % 2 ^
    32 ∧ (∀ c, c ≠ b → t.bar c = s.bar c) ∧ t.slip = s.slip ∧ Frame (withSide [.glaze, .slip]) (sideAnd [.one K.glzMaskRequests]) s t)

/-- O34. A delivered raster trigger fires its line where every condition of R273 holds, discards it when the heads do not hold it,
and skips it when it comes too soon; the bar goes on to the next line either way. A complete line of the next index is shifted on
a port that is free, and loaded when its last bit has left; a PORT that is ACTIVE counts it. -/
def Obligations.RasterAndShiftCommands : Prop :=
  (∀ (b : Nat) (x : Trig) (u v : State) (s : State), b < 16 → s.takeTrig (12 + b) = some (x, u) → v = u.at (x.stamp + 2) → v.dev = stRunning →
    v.withinStop (v.barLine b x.k.toNat) = true → v.lineShifted b x.k.toNat = true → (v.bar b).missed.contains x.k.toNat = false → v.lineSpaced b =
    true → ∃ t, exec (.rasterTrigger b) s = .next t ∧ t.rd (K.kbarLinesFired b) = (s.rd (K.kbarLinesFired b) + 1) % 2 ^ 64 ∧ t.rd
    (K.kbarLinesDiscarded b) = (s.rd (K.kbarLinesDiscarded b) + (x.k.toNat - (s.bar b).next)) % 2 ^ 32 ∧ (t.bar b).fired = some v.now ∧ (t.bar b).next
    = x.k.toNat + 1 ∧ (t.bar b).delivered = some v.now ∧ t.now = max s.now (x.stamp + 2) ∧ t.trigs = u.trigs ∧ Frame (withSide [.clock, .pins, .wheel,
    .slip, .kiln]) (sideAnd [.fam (K.barsUnderruns 0) 16, .fam (K.barsWorstSlack 0) 16, .fam (K.kbarBarStatus 0) 16, .fam (K.kbarInSpeedLimit 0) 16,
    .fam (K.kbarLastInterval 0) 16, .fam (K.kbarLastSkip 0) 16, .fam (K.kbarLinesDiscarded 0) 16, .fam (K.kbarLinesFired 0) 16, .fam
    (K.kbarLinesSkipped 0) 16, .fam (K.khFireWidth 0) 128, .fam (K.khHeadStatus 0) 128, .fam (K.khPreHeatWidth 0) 128, .one K.kilnKilnStatus, .one
    K.kilnSpeedLimit, .one K.slipStatus]) s t) ∧
  (∀ (b : Nat) (x : Trig) (u v : State) (s : State), b < 16 → s.takeTrig (12 + b) = some (x, u) → v = u.at (x.stamp + 2) → v.lineShifted b x.k.toNat =
    false → v.lineSpaced b = true → ∃ t, exec (.rasterTrigger b) s = .next t ∧ t.rd (K.kbarLinesFired b) = s.rd (K.kbarLinesFired b) ∧ t.rd
    (K.kbarLinesDiscarded b) = (s.rd (K.kbarLinesDiscarded b) + (x.k.toNat - (s.bar b).next + 1)) % 2 ^ 32 ∧ (t.bar b).fired = (s.bar b).fired ∧
    (t.bar b).next = x.k.toNat + 1 ∧ (t.bar b).delivered = some v.now ∧ t.now = max s.now (x.stamp + 2) ∧ t.trigs = u.trigs ∧ Frame (withSide [.clock,
    .pins, .wheel, .slip, .kiln]) (sideAnd [.fam (K.barsUnderruns 0) 16, .fam (K.barsWorstSlack 0) 16, .fam (K.kbarBarStatus 0) 16, .fam
    (K.kbarInSpeedLimit 0) 16, .fam (K.kbarLastInterval 0) 16, .fam (K.kbarLastSkip 0) 16, .fam (K.kbarLinesDiscarded 0) 16, .fam (K.kbarLinesFired 0)
    16, .fam (K.kbarLinesSkipped 0) 16, .fam (K.khFireWidth 0) 128, .fam (K.khHeadStatus 0) 128, .fam (K.khPreHeatWidth 0) 128, .one K.kilnKilnStatus,
    .one K.kilnSpeedLimit, .one K.slipStatus]) s t) ∧
  (∀ (b : Nat) (x : Trig) (u v : State) (s : State), b < 16 → s.takeTrig (12 + b) = some (x, u) → v = u.at (x.stamp + 2) → v.lineSpaced b = false → ∃
    t, exec (.rasterTrigger b) s = .next t ∧ t.rd (K.kbarLinesFired b) = s.rd (K.kbarLinesFired b) ∧ t.rd (K.kbarLinesSkipped b) = (s.rd
    (K.kbarLinesSkipped b) + 1) % 2 ^ 32 ∧ t.rd (K.kbarInSpeedLimit b) = 1 ∧ t.rd (K.kbarLastSkip b) = ofI 64 (wholePos x.t) ∧ (t.bar b).next =
    x.k.toNat + 1 ∧ (t.bar b).delivered = some v.now ∧ t.now = max s.now (x.stamp + 2) ∧ t.trigs = u.trigs ∧ Frame (withSide [.clock, .pins, .wheel,
    .slip, .kiln]) (sideAnd [.fam (K.barsUnderruns 0) 16, .fam (K.barsWorstSlack 0) 16, .fam (K.kbarBarStatus 0) 16, .fam (K.kbarInSpeedLimit 0) 16,
    .fam (K.kbarLastInterval 0) 16, .fam (K.kbarLastSkip 0) 16, .fam (K.kbarLinesDiscarded 0) 16, .fam (K.kbarLinesFired 0) 16, .fam
    (K.kbarLinesSkipped 0) 16, .fam (K.khFireWidth 0) 128, .fam (K.khHeadStatus 0) 128, .fam (K.khPreHeatWidth 0) 128, .one K.kilnKilnStatus, .one
    K.kilnSpeedLimit, .one K.slipStatus]) s t) ∧
  (∀ (p : Nat) (l : BankLine) (s : State), p < 32 → s.portBar p < 16 → (s.port p).shift = none → (s.port p).loaded = none → (s.port p).banks.find?
    (fun l => l.k == (s.bar (s.portBar p)).next && l.done.isSome) = some l → (s.barPorts (s.portBar p)).all (s.lineHeld (s.bar (s.portBar p)).next) =
    true → s.dev = stRunning → ∃ t, exec (.shiftStart p) s = .next t ∧ t.now = max s.now (s.port p).shiftFrom ∧ (t.port p).shift = some ((s.bar
    (s.portBar p)).next, t.now + s.frameTime (s.prof p)) ∧ (t.port p).shiftData = l.data ∧ (s.portState p = kpActive → (t.port p).lanes = s.portFrames
    p l.data) ∧ (∀ q, q ≠ p → t.port q = s.port q) ∧ t.heads = s.heads ∧ t.scan = s.scan ∧ Frame [.clock, .kiln] [] s t) ∧
  (∀ (p k u : Nat) (s : State), p < 32 → (s.port p).shift = some (k, u) → ∃ t, exec (.shiftDone p) s = .next t ∧ t.now = max s.now u ∧ (t.port
    p).loaded = some (k, u) ∧ (t.port p).loadedData = (s.port p).shiftData ∧ (t.port p).shift = none ∧ (t.port p).banks = (s.port p).banks.filter (fun
    l => l.k != k) ∧ (s.portState p = kpActive → t.rd (K.kpLinesShifted p) = (s.rd (K.kpLinesShifted p) + 1) % 2 ^ 64) ∧ (∀ q, q ≠ p → t.port q =
    s.port q) ∧ t.heads = s.heads ∧ t.scan = s.scan ∧ Frame [.clock, .regs, .kiln] [.one (K.kpLinesShifted p)] s t)

/-- O35. STROBE_START counts the strobe and runs its segments; each segment's end runs the next; a strobe active too long is cut,
counted and retires its head. PORT_POWER ON powers an OFF port; OFF takes it down, at once with no PowerOffDelay; the delays' ends
start the deskew and switch the port OFF. PORT_READMIT powers a GONE port again. -/
def Obligations.StrobeAndPortCommands : Prop :=
  (∀ (h u pre fire : Nat) (s : State), h < 128 → (s.head h).strobe = some (u, pre, fire) → pre ≠ 0 → ∃ t, exec (.strobeStart h) s = .next t ∧ t.rd
    (K.khStrobes h) = (s.rd (K.khStrobes h) + 1) % 2 ^ 64 ∧ t.now = max s.now u ∧ (t.head h).strobe = none ∧ (t.head h).segs.head? = some (true, pre)
    ∧ (t.head h).segEnd = t.now + pre ∧ (t.head h).activeAt = some ((s.head h).activeAt.getD t.now) ∧ (∀ i, i ≠ h → t.head i = s.head i) ∧ t.ports =
    s.ports ∧ t.scan = s.scan ∧ Frame [.clock, .regs, .pins, .kiln] [.one (K.khStrobes h)] s t) ∧
  (∀ (h : Nat) (x : Bool × Nat) (l : List (Bool × Nat)) (s : State), h < 128 → (s.head h).segs = x :: l → ∃ t, exec (.strobeSegmentEnd h) s = .next t
    ∧ t.now = max s.now (s.head h).segEnd ∧ (t.head h).segs = l ∧ (l = [] → (t.head h).activeAt = none) ∧ (∀ i, i ≠ h → t.head i = s.head i) ∧ t.ports
    = s.ports ∧ t.scan = s.scan ∧ Frame [.clock, .pins, .kiln] [] s t) ∧
  (∀ (h u : Nat) (s : State), h < 128 → (s.head h).activeAt = some u → ∃ t, exec (.strobeCut h) s = .next t ∧ t.now = max s.now (u + min (s.rd
    (K.profStrobeMax (s.prof (h / 4))) + 1) 8000) ∧ (t.head h).activeAt = none ∧ (t.head h).segs = [] ∧ t.rd (K.khHeadState h) = khRetired ∧ t.bit
    (K.khHeadStatus h) 0 = true ∧ t.bit (K.khHeadStatus h) 1 = true ∧ t.rd K.fltLastRetiredUnit = 6 * 256 + h ∧ (∀ i, i ≠ h → t.head i = s.head i) ∧
    t.ports = s.ports ∧ t.scan = s.scan ∧ Frame (withSide [.clock, .pins, .kiln]) (sideAnd [.one (K.khHeadState h), .one (K.khHeadStatus h), .one
    (K.khLastCutTime h), .one K.fltFaultStatus, .one K.fltLastRetiredUnit, .one K.fltRetiredCount, .one K.kilnActiveHeads, .one K.kilnKilnStatus]) s
    t) ∧
  (∀ (a : Acc) (p : Nat) (s : State), s.writeStatus { a with value := 1 } (K.kpPortPower p) = 0 → p < 32 → accVal { a with value := 1 } (K.kpPortPower
    p) = 1 → s.portState p = kpOff → ∃ t, exec (.portPowerOn a p) s = .next t ∧ t.portState p = kpPowering ∧ t.rd (K.kpPortPower p) = 1 ∧ tfind t.pins
    (ballPower p) = some 1 ∧ (t.port p).until_ = s.now + us (s.rd (K.kpPowerOnDelay p)) ∧ (∀ q, q ≠ p → t.port q = s.port q) ∧ t.heads = s.heads ∧
    t.scan = s.scan ∧ t.rd (K.pathLastStatus a.path) = 0 ∧ Frame [.regs, .pins, .kiln] (okAnd a [.one (K.kpPortPower p), .one (K.kpPortState p)]) s t) ∧
  (∀ (a : Acc) (p : Nat) (s : State), s.writeStatus { a with value := 0 } (K.kpPortPower p) = 0 → p < 32 → accVal { a with value := 0 } (K.kpPortPower
    p) = 0 → s.portState p = kpActive → s.portRuns p = false → ∃ t, exec (.portPowerOff a p) s = .next t ∧ t.rd (K.kpPortPower p) = 0 ∧ t.portState p
    = (if s.rd (K.kpPowerOffDelay p) = 0 then kpOff else kpDown) ∧ (∀ q, q ≠ p → t.port q = s.port q) ∧ t.scan = s.scan ∧ t.rd (K.pathLastStatus
    a.path) = 0 ∧ Frame [.regs, .pins, .kiln] (okAnd a [.one (K.kpPortPower p), .one (K.kpPortState p), .fam (K.khHeadState 0) 128, .one
    K.kilnActiveHeads]) s t) ∧
  (∀ (p : Nat) (s : State), p < 32 → s.portState p = kpPowering → (s.port p).deskew = false → (s.port p).toId = [] → ∃ t, exec (.powerOnDelayEnd p) s
    = .next t ∧ t.now = max s.now (s.port p).until_ ∧ t.port p = { s.port p with deskew := true } ∧ (∀ q, q ≠ p → t.port q = s.port q) ∧ t.heads =
    s.heads ∧ t.scan = s.scan ∧ Frame [.clock, .kiln] [] s t) ∧
  (∀ (p : Nat) (s : State), p < 32 → (s.port p).offAsked = true → s.strobesDone p = true → ∃ t, exec (.powerDownBegin p) s = .next t ∧ t.portState p =
    (if s.rd (K.kpPowerOffDelay p) = 0 then kpOff else kpDown) ∧ (t.port p).offAsked = false ∧ (t.port p).until_ = s.now + us (s.rd (K.kpPowerOffDelay
    p)) ∧ (∀ q, q ≠ p → t.port q = s.port q) ∧ t.scan = s.scan ∧ Frame [.regs, .pins, .kiln] [.one (K.kpPortState p), .fam (K.khHeadState 0) 128, .one
    K.kilnActiveHeads] s t) ∧
  (∀ (p : Nat) (s : State), p < 32 → s.portState p = kpDown → ∃ t, exec (.powerOffDelayEnd p) s = .next t ∧ t.portState p = kpOff ∧ tfind t.pins
    (ballPower p) = some 0 ∧ t.now = max s.now (s.port p).until_ ∧ Frame [.clock, .regs, .pins] [.one (K.kpPortState p)] s t) ∧
  (∀ (a : Acc) (p : Nat) (s : State), s.writeStatus a (K.kpReadmit p) = 0 → p < 32 → accVal a (K.kpReadmit p) = 1 → s.portState p = kpGone → ∃ t, exec
    (.portReadmit a p) s = .next t ∧ t.portState p = kpPowering ∧ (t.port p).deskew = true ∧ (t.port p).toId = [] ∧ t.rd K.fltRetiredCount = s.rd
    K.fltRetiredCount - 1 ∧ tfind t.faultTimes (5 * 256 + p) = none ∧ (∀ q, q ≠ p → t.port q = s.port q) ∧ t.heads = s.heads ∧ t.rd (K.pathLastStatus
    a.path) = 0 ∧ Frame (withSide [.kiln]) (okSide a [.one (K.kpPortState p), .one K.fltRetiredCount]) s t)

/-- O36. A plausible deskew passes its calibration and lets the port's heads be identified; a failed one is a port fault. An
identified head is ACTIVE or READY by the device state, MISMATCH or ABSENT, and the last makes a POWERING port ACTIVE. A
temperature poll starts readings; a reading within TempMax is shown, a missing one is a head fault. HEAD_READMIT has a READY or
RETIRED head of an ACTIVE port identified again. -/
def Obligations.HeadCommands : Prop :=
  (∀ (p spread residual : Nat) (s : State), p < 32 → (s.port p).deskew = true → deskewReason spread residual = 0 → s.portHeads p ≠ [] → ∃ t, exec
    (.deskewDone p spread residual) s = .next t ∧ (t.port p).deskew = false ∧ (t.port p).toId = s.portHeads p ∧ (tget {} t.calRecs (calKp p)).has =
    true ∧ (tget {} t.calRecs (calKp p)).result = 1 ∧ (tget {} t.calRecs (calKp p)).reason = 0 ∧ t.portState p = s.portState p ∧ (∀ q, q ≠ p → t.port
    q = s.port q) ∧ t.heads = s.heads ∧ Frame (withSide [.boot, .kiln]) sideKeys s t) ∧
  (∀ (p spread residual : Nat) (s : State), p < 32 → (s.port p).deskew = true → deskewReason spread residual ≠ 0 → ∃ t, exec (.deskewDone p spread
    residual) s = .next t ∧ t.rd (K.kpFaultCount p) = (s.rd (K.kpFaultCount p) + 1) % 2 ^ 32 ∧ (tget {} t.calRecs (calKp p)).reason = deskewReason
    spread residual ∧ t.bit (K.kpPortStatus p) 1 = true ∧ Frame (withSide [.boot, .pins, .kiln]) (sideAnd [.fam (K.khHeadState 0) 128, .fam
    (K.khHeadStatus 0) 128, .fam (K.kpFaultCount 0) 32, .fam (K.kpLastFaultTime 0) 32, .fam (K.kpPortState 0) 32, .fam (K.kpPortStatus 0) 32, .one
    K.calCalStatus, .one K.fltFaultStatus, .one K.fltLastRetiredUnit, .one K.fltRetiredCount, .one K.fltTransientCount, .one K.kilnActiveHeads, .one
    K.kilnKilnStatus]) s t) ∧
  (∀ (h : Nat) (l : List Nat) (s : State), h < 128 → (s.port (h / 4)).toId = [h] → (s.head h).again = false → s.headState h ≠ khRetired → s.portState
    (h / 4) = kpPowering → s.dev = stStopped → leAt l 0 4 &&& s.rd (K.profIdMask (s.prof (h / 4))) = s.rd (K.profIdMatch (s.prof (h / 4))) &&& s.rd
    (K.profIdMask (s.prof (h / 4))) → ∃ t, exec (.headIdentified h (some l)) s = .next t ∧ t.headState h = khActive ∧ t.portState (h / 4) = kpActive ∧
    (t.port (h / 4)).toId = [] ∧ t.dom = putBytes s.dom (K.khIdentity h) 0 (l.take (s.rd (K.profIdBytes (s.prof (h / 4))))) ∧ (∀ i, i ≠ h → t.head i =
    s.head i) ∧ Frame (withSide [.domains, .kiln]) (sideAnd [.one (K.khHeadState h), .one (K.kpPortState (h / 4)), .one K.kilnActiveHeads]) s t) ∧
  (∀ (h : Nat) (s : State), h < 128 → (s.port (h / 4)).toId.contains h = true → (s.head h).again = false → s.headState h ≠ khRetired → ∃ t, exec
    (.headIdentified h none) s = .next t ∧ t.headState h = khAbsent ∧ h ∉ (t.port (h / 4)).toId ∧ t.dom = s.dom ∧ (∀ i, i ≠ h → t.head i = s.head i) ∧
    Frame (withSide [.kiln]) (sideAnd [.one (K.khHeadState h), .one (K.kpPortState (h / 4)), .one K.kilnActiveHeads]) s t) ∧
  (∀ (p : Nat) (s : State), p < 32 → s.rd (K.profTempDevAddr (s.prof p)) ≠ 0 → ∃ t, exec (.tempPoll p) s = .next t ∧ t.now = max s.now ((s.port
    p).polled + ms (s.rd (K.profTempPoll (s.prof p)))) ∧ (t.port p).polled = t.now ∧ (∀ h ∈ s.tempHeads p, (t.head h).reading = true) ∧ (∀ h, h ∉
    s.tempHeads p → t.head h = s.head h) ∧ (∀ q, q ≠ p → t.port q = s.port q) ∧ t.scan = s.scan ∧ Frame [.clock, .kiln] [] s t) ∧
  (∀ (h w : Nat) (s : State), h < 128 → (s.head h).reading = true → tempOf w ≤ s.rdI 32 (K.profTempMax (s.prof (h / 4))) → ∃ t, exec (.tempReading h
    (some w)) s = .next t ∧ t.rd (K.khTemperature h) = ofI 32 (tempOf w) ∧ (t.head h).temp = some (tempOf w) ∧ (t.head h).reading = false ∧ (∀ i, i ≠
    h → t.head i = s.head i) ∧ t.ports = s.ports ∧ t.scan = s.scan ∧ Frame [.regs, .kiln] [.one (K.khTemperature h)] s t) ∧
  (∀ (h : Nat) (s : State), h < 128 → (s.head h).reading = true → ∃ t, exec (.tempReading h none) s = .next t ∧ t.rd (K.khFaultCount h) = (s.rd
    (K.khFaultCount h) + 1) % 2 ^ 32 ∧ t.bit (K.khHeadStatus h) 3 = true ∧ (t.head h).reading = false ∧ (∀ i, i ≠ h → t.head i = s.head i) ∧ Frame
    (withSide [.pins, .kiln]) (sideAnd [.fam (K.khFaultCount 0) 128, .fam (K.khHeadState 0) 128, .fam (K.khHeadStatus 0) 128, .fam (K.khTemperature 0)
    128, .one K.fltFaultStatus, .one K.fltLastRetiredUnit, .one K.fltRetiredCount, .one K.fltTransientCount, .one K.kilnActiveHeads, .one
    K.kilnKilnStatus]) s t) ∧
  (∀ (a : Acc) (h : Nat) (s : State), s.writeStatus a (K.khReadmit h) = 0 → h < 128 → accVal a (K.khReadmit h) = 1 → s.headState h = khRetired →
    s.portState (h / 4) = kpActive → ∃ t, exec (.headReadmit a h) s = .next t ∧ (t.head h).again = true ∧ (t.head h).cut = false ∧ t.bit
    (K.khHeadStatus h) 0 = false ∧ t.rd K.fltRetiredCount = s.rd K.fltRetiredCount - 1 ∧ tfind t.faultTimes (6 * 256 + h) = none ∧ (∀ i, i ≠ h →
    t.head i = s.head i) ∧ t.ports = s.ports ∧ t.rd (K.pathLastStatus a.path) = 0 ∧ Frame (withSide [.kiln]) (okSide a [.one (K.khHeadStatus h), .one
    K.fltRetiredCount]) s t)

/-- O37. SCAN_GO clears the counts, puts the heads that acknowledge in MEASURE and selects the first element of every port; with
none it ends DONE at once; while one runs it is refused with ERR_BUSY. An element settles; its code, of 24 bits, is counted;
SCAN_ABORT ends a running scan ABORTED. -/
def Obligations.ScanCommands : Prop :=
  (∀ (a : Acc) (acks : Nat) (s : State), s.writeStatus a K.scanScanGo = 0 → accVal a K.scanScanGo = 1 → s.scanRuns = false → s.scanHeads = [] → (∀ p <
    32, s.scanNext p 0 = none) → ∃ t, exec (.scanGo a acks) s = .next t ∧ t.rd K.scanScanStatus = 2 ∧ t.scan = [] ∧ t.rd K.scanScanMeasured = 0 ∧ t.rd
    K.scanScanSkipped = 0 ∧ t.rd K.scanScanOut = 0 ∧ t.rd (K.pathLastStatus a.path) = 0 ∧ Frame (withSide [.free, .pins, .memory, .kiln, .gauge,
    .loop]) (okSide a (joinKeys [.fam (K.gasActiveBank 0) 16, .fam (K.gasCalStatus 0) 16, .fam (K.gasFadeState 0) 16, .fam (K.gasLatest 0) 16, .fam
    (K.gasLost 0) 16, .fam (K.gasSamples 0) 16, .fam (K.gasSettleLeft 0) 16, .fam (K.gasStatus 0) 16, .fam (K.khHeadState 0) 128, .fam (K.khHeadStatus
    0) 128, .fam (K.kpFaultCount 0) 32, .fam (K.kpLastFaultTime 0) 32, .fam (K.kpPortState 0) 32, .fam (K.kpPortStatus 0) 32, .fam (K.qsFill 0) 64,
    .fam (K.qsFillPeak 0) 64, .fam (K.qsItemsIn 0) 64, .fam (K.qsNoCreditCount 0) 64, .fam (K.qsQueueStatus 0) 64, .one K.fltFaultStatus, .one
    K.fltLastRetiredUnit, .one K.fltRetiredCount, .one K.fltTransientCount, .one K.gauScanHold] [.one K.kilnActiveHeads, .one K.kilnKilnStatus, .one
    K.quesSizeErrors, .one K.scanScanMeasured, .one K.scanScanOut, .one K.scanScanSkipped, .one K.scanScanStatus])) s t) ∧
  (∀ (a : Acc) (acks h : Nat) (s : State), s.writeStatus a K.scanScanGo = 0 → accVal a K.scanScanGo = 1 → s.scanRuns = false → h ∈ s.scanHeads →
    s.gaRetired (headGauge h) = false → bitOf acks h = true → ∃ t, exec (.scanGo a acks) s = .next t ∧ t.rd K.scanScanStatus = 1 ∧ t.headState h =
    khMeasure ∧ t.scan ≠ [] ∧ t.rd K.scanScanMeasured = 0 ∧ t.rd K.scanScanOut = 0 ∧ t.rd (K.pathLastStatus a.path) = 0 ∧ Frame (withSide [.free,
    .pins, .memory, .kiln, .gauge, .loop]) (okSide a (joinKeys [.fam (K.gasActiveBank 0) 16, .fam (K.gasCalStatus 0) 16, .fam (K.gasFadeState 0) 16,
    .fam (K.gasLatest 0) 16, .fam (K.gasLost 0) 16, .fam (K.gasSamples 0) 16, .fam (K.gasSettleLeft 0) 16, .fam (K.gasStatus 0) 16, .fam
    (K.khHeadState 0) 128, .fam (K.khHeadStatus 0) 128, .fam (K.kpFaultCount 0) 32, .fam (K.kpLastFaultTime 0) 32, .fam (K.kpPortState 0) 32, .fam
    (K.kpPortStatus 0) 32, .fam (K.qsFill 0) 64, .fam (K.qsFillPeak 0) 64, .fam (K.qsItemsIn 0) 64, .fam (K.qsNoCreditCount 0) 64, .fam
    (K.qsQueueStatus 0) 64, .one K.fltFaultStatus, .one K.fltLastRetiredUnit, .one K.fltRetiredCount, .one K.fltTransientCount, .one K.gauScanHold]
    [.one K.kilnActiveHeads, .one K.kilnKilnStatus, .one K.quesSizeErrors, .one K.scanScanMeasured, .one K.scanScanOut, .one K.scanScanSkipped, .one
    K.scanScanStatus])) s t) ∧
  (∀ (a : Acc) (acks : Nat) (s : State), s.writeStatus a K.scanScanGo = 0 → accVal a K.scanScanGo = 1 → s.scanRuns = true → exec (.scanGo a acks) s =
    .next (s.done a K.scanScanGo 13)) ∧
  (∀ (a : Acc) (acks : Nat) (s : State), s.writeStatus a K.scanScanAbort = 0 → accVal a K.scanScanAbort = 1 → s.scanRuns = true → ∃ t, exec
    (.scanAbort a acks) s = .next t ∧ t.rd K.scanScanStatus = 3 ∧ t.scan = [] ∧ t.rd (K.pathLastStatus a.path) = 0 ∧ Frame (withSide [.free, .pins,
    .memory, .kiln, .gauge, .loop]) (okSide a (joinKeys [.fam (K.gasActiveBank 0) 16, .fam (K.gasFadeState 0) 16, .fam (K.gasLatest 0) 16, .fam
    (K.gasLost 0) 16, .fam (K.gasSamples 0) 16, .fam (K.gasSettleLeft 0) 16, .fam (K.gasStatus 0) 16, .fam (K.khHeadState 0) 128, .fam (K.khHeadStatus
    0) 128, .fam (K.kpFaultCount 0) 32, .fam (K.kpLastFaultTime 0) 32, .fam (K.kpPortState 0) 32, .fam (K.kpPortStatus 0) 32, .fam (K.qsFill 0) 64,
    .fam (K.qsFillPeak 0) 64, .fam (K.qsItemsIn 0) 64, .fam (K.qsNoCreditCount 0) 64, .fam (K.qsQueueStatus 0) 64, .one K.fltFaultStatus, .one
    K.fltLastRetiredUnit, .one K.fltRetiredCount, .one K.fltTransientCount, .one K.gauScanHold, .one K.kilnActiveHeads] [.one K.kilnKilnStatus, .one
    K.quesSizeErrors, .one K.scanScanStatus])) s t) ∧
  (∀ (x : ScanPort) (r : List ScanPort) (s : State), sortBy (fun x => (x.due : Int)) (s.scan.filter fun x => !x.ready) = x :: r → ∃ t, exec
    .scanSettleEnd s = .next t ∧ t.now = max s.now x.due ∧ t.scan = s.scan.map (fun y => if y.port = x.port then { y with ready := true } else y) ∧
    t.heads = s.heads ∧ t.ports = s.ports ∧ Frame [.clock, .kiln] [] s t) ∧
  (∀ (x : ScanPort) (w : Nat) (s : State), s.scan.find? (fun x => x.word.isSome) = some x → x.word = some w → bitOf w 31 = true → ∃ t, exec
    .scanElement s = .next t ∧ t.scan = s.scan.map (fun y => if y.port = x.port then { y with word := none } else y) ∧ t.heads = s.heads ∧ t.ports =
    s.ports ∧ Frame [.kiln] [] s t) ∧
  (∀ (x y : ScanPort) (w : Nat) (s : State), s.scan.find? (fun x => x.word.isSome) = some x → x.word = some w → bitOf w 31 = false → y ∈ s.scan →
    y.port ≠ x.port → ∃ t, exec .scanElement s = .next t ∧ t.rd K.scanScanMeasured = (s.rd K.scanScanMeasured + 1) % 2 ^ 32 ∧ y ∈ t.scan ∧ (s.memOk →
    ∀ b, b < s.rd K.scanScanBase + 2 * (x.head * 8192 + s.wiredNozzle (s.prof x.port) x.pos) ∨ s.rd K.scanScanBase + 2 * (x.head * 8192 +
    s.wiredNozzle (s.prof x.port) x.pos) + 2 ≤ b → memGet t.mem b = memGet s.mem b) ∧ (s.rd K.scanScanBase = 0 → t.mem = s.mem) ∧ Frame (withSide
    [.mem, .slip, .kiln]) (sideAnd [.fam (K.portBytesWritten 0) 12, .one K.dramLastMapError, .one K.dramMapErrors, .one K.dramMemStatus, .one
    K.glzMaskRequestsLost, .one K.glzStatus, .one K.scanScanMeasured, .one K.scanScanOut]) s t)

/-- O38. The modulator bits of one output run through the CIC, and the word delivered is the normalised, offset and scaled code; a
word after a reset carries SETTLE with a free value; the last output of a fade makes its target active; a single-cycle channel
converts its next input; a channel in calibration delivers nothing and counts a discarded word. A modulator without transitions is
a transient fault. -/
def Obligations.GaugeWordCommands : Prop :=
  (∀ (c : Nat) (bits : List Bool) (i d : List Nat) (y : Int) (s : State), c < 16 → s.gaRetired c = false → s.gaSingle c = false → s.on (K.gaFirEnable
    c) = false → bits.length = s.rd (K.gaCicDecimation c) → cicRun (s.rd (K.gaCicDecimation c)) (s.rd (K.gaCicDecimation c)) bits (s.ga c).ints (s.ga
    c).combs = (i, d, [y]) → (s.ga c).cal = none → s.rd (K.gasSettleLeft c) = 0 → ∃ t, exec (.gaugeOutput c bits) s = .next t ∧ t.rd (K.gasLatest c) =
    gaWord false ((cicNorm (s.rd (K.gaCicDecimation c)) y).2 || (s.gaCode c (cicNorm (s.rd (K.gaCicDecimation c)) y).1).2) 0 c (ofI 24 (s.gaCode c
    (cicNorm (s.rd (K.gaCicDecimation c)) y).1).1) ∧ t.rd (K.gasSamples c) = (s.rd (K.gasSamples c) + 1) % 2 ^ 64 ∧ (t.ga c).ints = i ∧ (t.ga c).combs
    = d ∧ t.now = max s.now ((s.ga c).outAt + 32 * bits.length) ∧ Frame (withSide [.clock, .free, .staged, .boot, .pins, .memory, .kiln, .gauge,
    .loop]) (sideAnd (joinKeys [.fam (K.gaGain 0) 16, .fam (K.gaOffset 0) 16, .fam (K.gasActiveBank 0) 16, .fam (K.gasCalCount 0) 16, .fam
    (K.gasCalRef 0) 16, .fam (K.gasCalStatus 0) 16, .fam (K.gasCalTime 0) 16, .fam (K.gasCalZero 0) 16, .fam (K.gasFadeState 0) 16, .fam
    (K.gasHeldRequest 0) 16, .fam (K.gasLatest 0) 16, .fam (K.gasLost 0) 16, .fam (K.gasSamples 0) 16, .fam (K.gasSettleLeft 0) 16, .fam (K.gasStatus
    0) 16, .fam (K.gfltFaultCount 0) 16, .fam (K.gfltGaugeFaults 0) 16, .fam (K.gfltGaugeState 0) 16, .fam (K.gfltLastFaultTime 0) 16, .fam
    (K.khHeadState 0) 128, .fam (K.khHeadStatus 0) 128, .fam (K.kpFaultCount 0) 32, .fam (K.kpLastFaultTime 0) 32, .fam (K.kpPortState 0) 32] [.fam
    (K.kpPortStatus 0) 32, .fam (K.qsFill 0) 64, .fam (K.qsFillPeak 0) 64, .fam (K.qsItemsIn 0) 64, .fam (K.qsNoCreditCount 0) 64, .fam
    (K.qsQueueStatus 0) 64, .one K.calCalStatus, .one K.fltFaultStatus, .one K.fltLastRetiredUnit, .one K.fltRetiredCount, .one K.fltTransientCount,
    .one K.kilnActiveHeads, .one K.kilnKilnStatus, .one K.quesSizeErrors, .sub (K.generation 0)])) s t) ∧
  (∀ (c : Nat) (bits : List Bool) (i d : List Nat) (y : Int) (s : State), c < 16 → s.gaRetired c = false → s.gaSingle c = false → s.on (K.gaFirEnable
    c) = false → bits.length = s.rd (K.gaCicDecimation c) → cicRun (s.rd (K.gaCicDecimation c)) (s.rd (K.gaCicDecimation c)) bits (s.ga c).ints (s.ga
    c).combs = (i, d, [y]) → (s.ga c).cal = none → s.rd (K.gasSettleLeft c) ≠ 0 → ∃ t, exec (.gaugeOutput c bits) s = .next t ∧ (∃ v, t.rd
    (K.gasLatest c) = gaWord true false 0 c (ofI 24 v)) ∧ t.rd (K.gasSettleLeft c) = s.rd (K.gasSettleLeft c) - 1 ∧ t.rd (K.gasSamples c) = (s.rd
    (K.gasSamples c) + 1) % 2 ^ 64 ∧ (t.ga c).ints = i ∧ (t.ga c).combs = d ∧ t.now = max s.now ((s.ga c).outAt + 32 * bits.length) ∧ Frame (withSide
    [.clock, .free, .staged, .boot, .pins, .memory, .kiln, .gauge, .loop]) (sideAnd (joinKeys [.fam (K.gaGain 0) 16, .fam (K.gaOffset 0) 16, .fam
    (K.gasActiveBank 0) 16, .fam (K.gasCalCount 0) 16, .fam (K.gasCalRef 0) 16, .fam (K.gasCalStatus 0) 16, .fam (K.gasCalTime 0) 16, .fam
    (K.gasCalZero 0) 16, .fam (K.gasFadeState 0) 16, .fam (K.gasHeldRequest 0) 16, .fam (K.gasLatest 0) 16, .fam (K.gasLost 0) 16, .fam (K.gasSamples
    0) 16, .fam (K.gasSettleLeft 0) 16, .fam (K.gasStatus 0) 16, .fam (K.gfltFaultCount 0) 16, .fam (K.gfltGaugeFaults 0) 16, .fam (K.gfltGaugeState
    0) 16, .fam (K.gfltLastFaultTime 0) 16, .fam (K.khHeadState 0) 128, .fam (K.khHeadStatus 0) 128, .fam (K.kpFaultCount 0) 32, .fam
    (K.kpLastFaultTime 0) 32, .fam (K.kpPortState 0) 32] [.fam (K.kpPortStatus 0) 32, .fam (K.qsFill 0) 64, .fam (K.qsFillPeak 0) 64, .fam
    (K.qsItemsIn 0) 64, .fam (K.qsNoCreditCount 0) 64, .fam (K.qsQueueStatus 0) 64, .one K.calCalStatus, .one K.fltFaultStatus, .one
    K.fltLastRetiredUnit, .one K.fltRetiredCount, .one K.fltTransientCount, .one K.kilnActiveHeads, .one K.kilnKilnStatus, .one K.quesSizeErrors, .sub
    (K.generation 0)])) s t) ∧
  (∀ (c : Nat) (bits : List Bool) (i d : List Nat) (y : Int) (k : GaCal) (s : State), c < 16 → s.gaRetired c = false → s.gaSingle c = false → s.on
    (K.gaFirEnable c) = false → bits.length = s.rd (K.gaCicDecimation c) → cicRun (s.rd (K.gaCicDecimation c)) (s.rd (K.gaCicDecimation c)) bits (s.ga
    c).ints (s.ga c).combs = (i, d, [y]) → (s.ga c).cal = some k → k.left ≠ 0 → ∃ t, exec (.gaugeOutput c bits) s = .next t ∧ (t.ga c).cal = some
    { k with left := k.left - 1 } ∧ t.rd (K.gasSamples c) = s.rd (K.gasSamples c) ∧ t.rd (K.gasLatest c) = s.rd (K.gasLatest c) ∧ (t.ga c).ints = i ∧
    (t.ga c).combs = d ∧ t.now = max s.now ((s.ga c).outAt + 32 * bits.length) ∧ (∀ d, d ≠ c → t.ga d = s.ga d) ∧ Frame [.clock, .regs, .gauge] [.one
    (K.gasSettleLeft c)] s t) ∧
  (∀ (c target i : Nat) (bits : List Bool) (s : State), c < 16 → s.gaRetired c = false → s.gaSingle c = false → s.on (K.gaFirEnable c) = true →
    bits.length = s.rd (K.gaCicDecimation c) * s.rd (K.gaFirDecimation c) → (s.ga c).cal = none → (s.ga c).fade = some (target, i) → i + 1 = 2 ^ s.rd
    (K.gaFadeShift c) → s.gaHold c = none → ∃ t, exec (.gaugeOutput c bits) s = .next t ∧ t.rd (K.gasActiveBank c) = target ∧ t.rd (K.gasFadeState c)
    = 0 ∧ (t.ga c).fade = none ∧ t.rd (K.gasSamples c) = (s.rd (K.gasSamples c) + 1) % 2 ^ 64 ∧ Frame (withSide [.clock, .free, .staged, .boot, .pins,
    .memory, .kiln, .gauge, .loop]) (sideAnd (joinKeys [.fam (K.gaGain 0) 16, .fam (K.gaOffset 0) 16, .fam (K.gasActiveBank 0) 16, .fam (K.gasCalCount
    0) 16, .fam (K.gasCalRef 0) 16, .fam (K.gasCalStatus 0) 16, .fam (K.gasCalTime 0) 16, .fam (K.gasCalZero 0) 16, .fam (K.gasFadeState 0) 16, .fam
    (K.gasHeldRequest 0) 16, .fam (K.gasLatest 0) 16, .fam (K.gasLost 0) 16, .fam (K.gasSamples 0) 16, .fam (K.gasSettleLeft 0) 16, .fam (K.gasStatus
    0) 16, .fam (K.gfltFaultCount 0) 16, .fam (K.gfltGaugeFaults 0) 16, .fam (K.gfltGaugeState 0) 16, .fam (K.gfltLastFaultTime 0) 16, .fam
    (K.khHeadState 0) 128, .fam (K.khHeadStatus 0) 128, .fam (K.kpFaultCount 0) 32, .fam (K.kpLastFaultTime 0) 32, .fam (K.kpPortState 0) 32] [.fam
    (K.kpPortStatus 0) 32, .fam (K.qsFill 0) 64, .fam (K.qsFillPeak 0) 64, .fam (K.qsItemsIn 0) 64, .fam (K.qsNoCreditCount 0) 64, .fam
    (K.qsQueueStatus 0) 64, .one K.calCalStatus, .one K.fltFaultStatus, .one K.fltLastRetiredUnit, .one K.fltRetiredCount, .one K.fltTransientCount,
    .one K.kilnActiveHeads, .one K.kilnKilnStatus, .one K.quesSizeErrors, .sub (K.generation 0)])) s t) ∧
  (∀ (c i : Nat) (bits : List Bool) (s : State), c < 16 → s.gaRetired c = false → s.gaSingle c = true → s.gaNext c = some i → bits.length = 4 *
    (s.gaScc c).1 → (s.ga c).cal = none → ∃ t, exec (.gaugeOutput c bits) s = .next t ∧ (t.ga c).input = i ∧ t.rd (K.gasSamples c) = (s.rd
    (K.gasSamples c) + 1) % 2 ^ 64 ∧ t.now = max s.now ((s.ga c).outAt + 32 * ((s.gaScc c).2 + 4 * (s.gaScc c).1)) ∧ Frame (withSide [.clock, .free,
    .staged, .boot, .pins, .memory, .kiln, .gauge, .loop]) (sideAnd (joinKeys [.fam (K.gaGain 0) 16, .fam (K.gaOffset 0) 16, .fam (K.gasActiveBank 0)
    16, .fam (K.gasCalCount 0) 16, .fam (K.gasCalRef 0) 16, .fam (K.gasCalStatus 0) 16, .fam (K.gasCalTime 0) 16, .fam (K.gasCalZero 0) 16, .fam
    (K.gasFadeState 0) 16, .fam (K.gasHeldRequest 0) 16, .fam (K.gasLatest 0) 16, .fam (K.gasLost 0) 16, .fam (K.gasSamples 0) 16, .fam
    (K.gasSettleLeft 0) 16, .fam (K.gasStatus 0) 16, .fam (K.gfltFaultCount 0) 16, .fam (K.gfltGaugeFaults 0) 16, .fam (K.gfltGaugeState 0) 16, .fam
    (K.gfltLastFaultTime 0) 16, .fam (K.khHeadState 0) 128, .fam (K.khHeadStatus 0) 128, .fam (K.kpFaultCount 0) 32, .fam (K.kpLastFaultTime 0) 32,
    .fam (K.kpPortState 0) 32] [.fam (K.kpPortStatus 0) 32, .fam (K.qsFill 0) 64, .fam (K.qsFillPeak 0) 64, .fam (K.qsItemsIn 0) 64, .fam
    (K.qsNoCreditCount 0) 64, .fam (K.qsQueueStatus 0) 64, .one K.calCalStatus, .one K.fltFaultStatus, .one K.fltLastRetiredUnit, .one
    K.fltRetiredCount, .one K.fltTransientCount, .one K.kilnActiveHeads, .one K.kilnKilnStatus, .one K.quesSizeErrors, .sub (K.generation 0)])) s t) ∧
  (∀ (c : Nat) (s : State), c < 16 → s.rd (K.gaMode c) ≠ 0 → s.gaRetired c = false → ∃ t, exec (.modStuck c) s = .next t ∧ t.now = max s.now ((s.ga
    c).edgeAt + 32 * 2 ^ 20) ∧ t.bit (K.gfltGaugeFaults c) 0 = true ∧ t.rd (K.gfltFaultCount c) = (s.rd (K.gfltFaultCount c) + 1) % 2 ^ 32 ∧ t.rd
    K.fltTransientCount = (s.rd K.fltTransientCount + 1) % 2 ^ 32 ∧ t.rd (K.gfltLastFaultTime c) = t.time ∧ (∀ d, d ≠ c → t.ga d = s.ga d) ∧ Frame
    (withSide [.clock, .gauge]) (sideAnd [.one (K.gfltFaultCount c), .one (K.gfltGaugeFaults c), .one (K.gfltGaugeState c), .one (K.gfltLastFaultTime
    c), .one K.fltFaultStatus, .one K.fltLastRetiredUnit, .one K.fltRetiredCount, .one K.fltTransientCount]) s t)

/-- O39. A selected GSYNC edge, SYNC_NOW and the task each make one synchronising reset, 4 and 2 FABCLK later: counted, timed,
with every channel's chain cleared and SettleCount words to settle. A swap request starts a fade, is held while one runs, and is
refused with ERR_BUSY while the target bank is being written. CAL_GO starts a calibration, and is refused while one runs or with
Mode OFF. Readmit of a retired channel clears its chain and makes it ACTIVE. -/
def Obligations.GaugeControlCommands : Prop :=
  (∀ (rising : Bool) (s : State), s.rd K.gauGsyncEdge = (if rising then 1 else 2) → s.syncAt ≠ some (s.now + 4) → ∃ t, exec (.gsyncEdge rising) s =
    .next t ∧ t.now = s.now + 4 ∧ t.rd K.gauSyncCount = (s.rd K.gauSyncCount + 1) % 2 ^ 32 ∧ t.rd K.gauSyncTime = t.time ∧ (∀ c, c < 16 → (t.ga
    c).ints = [0, 0, 0, 0] ∧ (t.ga c).combs = [0, 0, 0, 0] ∧ (t.ga c).fir = [] ∧ (t.ga c).fade = none ∧ t.rd (K.gasSettleLeft c) = s.settleCount c) ∧
    Frame (withSide [.clock, .free, .pins, .memory, .kiln, .gauge, .loop]) (sideAnd (joinKeys [.fam (K.gasActiveBank 0) 16, .fam (K.gasFadeState 0)
    16, .fam (K.gasLatest 0) 16, .fam (K.gasLost 0) 16, .fam (K.gasSamples 0) 16, .fam (K.gasSettleLeft 0) 16, .fam (K.gasStatus 0) 16, .fam
    (K.khHeadState 0) 128, .fam (K.khHeadStatus 0) 128, .fam (K.kpFaultCount 0) 32, .fam (K.kpLastFaultTime 0) 32, .fam (K.kpPortState 0) 32, .fam
    (K.kpPortStatus 0) 32, .fam (K.qsFill 0) 64, .fam (K.qsFillPeak 0) 64, .fam (K.qsItemsIn 0) 64, .fam (K.qsNoCreditCount 0) 64, .fam
    (K.qsQueueStatus 0) 64, .one K.fltFaultStatus, .one K.fltLastRetiredUnit, .one K.fltRetiredCount, .one K.fltTransientCount, .one K.gauSyncCount,
    .one K.gauSyncTime] [.one K.kilnActiveHeads, .one K.kilnKilnStatus, .one K.quesSizeErrors])) s t) ∧
  (∀ (a : Acc) (s : State), s.writeStatus a K.gauSyncNow = 0 → accVal a K.gauSyncNow = 1 → s.syncAt ≠ some (s.now + 2) → ∃ t, exec (.syncNow a) s =
    .next t ∧ t.now = s.now + 2 ∧ t.rd K.gauSyncCount = (s.rd K.gauSyncCount + 1) % 2 ^ 32 ∧ t.rd K.gauSyncTime = t.time ∧ (∀ c, c < 16 → (t.ga
    c).ints = [0, 0, 0, 0] ∧ (t.ga c).combs = [0, 0, 0, 0] ∧ (t.ga c).fir = [] ∧ (t.ga c).fade = none ∧ t.rd (K.gasSettleLeft c) = s.settleCount c) ∧
    t.rd (K.pathLastStatus a.path) = 0 ∧ Frame (withSide [.clock, .free, .pins, .memory, .kiln, .gauge, .loop]) (okSide a (joinKeys [.fam
    (K.gasActiveBank 0) 16, .fam (K.gasFadeState 0) 16, .fam (K.gasLatest 0) 16, .fam (K.gasLost 0) 16, .fam (K.gasSamples 0) 16, .fam
    (K.gasSettleLeft 0) 16, .fam (K.gasStatus 0) 16, .fam (K.khHeadState 0) 128, .fam (K.khHeadStatus 0) 128, .fam (K.kpFaultCount 0) 32, .fam
    (K.kpLastFaultTime 0) 32, .fam (K.kpPortState 0) 32, .fam (K.kpPortStatus 0) 32, .fam (K.qsFill 0) 64, .fam (K.qsFillPeak 0) 64, .fam (K.qsItemsIn
    0) 64, .fam (K.qsNoCreditCount 0) 64, .fam (K.qsQueueStatus 0) 64, .one K.fltFaultStatus, .one K.fltLastRetiredUnit, .one K.fltRetiredCount, .one
    K.fltTransientCount, .one K.gauSyncCount, .one K.gauSyncTime] [.one K.kilnActiveHeads, .one K.kilnKilnStatus, .one K.quesSizeErrors])) s t) ∧
  (∀ (d : Delivery) (u : State) (s : State), s.takeTask 1 = some (d, u) → s.syncAt ≠ some (s.now + 2) → ∃ t, exec .gaSyncReq s = .next t ∧ t.now =
    s.now + 2 ∧ t.tasks = u.tasks ∧ t.rd K.gauSyncCount = (s.rd K.gauSyncCount + 1) % 2 ^ 32 ∧ t.rd K.gauSyncTime = t.time ∧ (∀ c, c < 16 → (t.ga
    c).ints = [0, 0, 0, 0] ∧ (t.ga c).combs = [0, 0, 0, 0] ∧ (t.ga c).fir = [] ∧ (t.ga c).fade = none ∧ t.rd (K.gasSettleLeft c) = s.settleCount c) ∧
    Frame (withSide [.clock, .free, .pins, .memory, .kiln, .gauge, .loop]) (sideAnd (joinKeys [.fam (K.gasActiveBank 0) 16, .fam (K.gasFadeState 0)
    16, .fam (K.gasLatest 0) 16, .fam (K.gasLost 0) 16, .fam (K.gasSamples 0) 16, .fam (K.gasSettleLeft 0) 16, .fam (K.gasStatus 0) 16, .fam
    (K.khHeadState 0) 128, .fam (K.khHeadStatus 0) 128, .fam (K.kpFaultCount 0) 32, .fam (K.kpLastFaultTime 0) 32, .fam (K.kpPortState 0) 32, .fam
    (K.kpPortStatus 0) 32, .fam (K.qsFill 0) 64, .fam (K.qsFillPeak 0) 64, .fam (K.qsItemsIn 0) 64, .fam (K.qsNoCreditCount 0) 64, .fam
    (K.qsQueueStatus 0) 64, .one K.fltFaultStatus, .one K.fltLastRetiredUnit, .one K.fltRetiredCount, .one K.fltTransientCount, .one K.gauSyncCount,
    .one K.gauSyncTime] [.one K.kilnActiveHeads, .one K.kilnKilnStatus, .one K.quesSizeErrors])) s t) ∧
  (∀ (a : Acc) (c : Nat) (s : State), s.writeStatus a (K.gasSwapTarget c) = 0 → c < 16 → s.bankWritten c (accVal a (K.gasSwapTarget c)) = false →
    (s.ga c).fade = none → s.gaHold c = none → s.rd (K.gasActiveBank c) ≠ accVal a (K.gasSwapTarget c) → ∃ t, exec (.swapTarget a c) s = .next t ∧
    (t.ga c).fade = some (accVal a (K.gasSwapTarget c), 0) ∧ t.rd (K.gasFadeState c) = 1 ∧ (∀ d, d ≠ c → t.ga d = s.ga d) ∧ t.rd (K.pathLastStatus
    a.path) = 0 ∧ Frame [.regs, .gauge] (okAnd a [.one (K.gasFadeState c)]) s t) ∧
  (∀ (a : Acc) (c : Nat) (s : State), s.writeStatus a (K.gasSwapTarget c) = 0 → c < 16 → s.bankWritten c (accVal a (K.gasSwapTarget c)) = false →
    (s.ga c).fade.isSome = true → s.gaHold c = none → ∃ t, exec (.swapTarget a c) s = .next t ∧ t.rd (K.gasHeldRequest c) = accVal a (K.gasSwapTarget
    c) + 1 ∧ t.rd (K.gasActiveBank c) = s.rd (K.gasActiveBank c) ∧ t.rd (K.pathLastStatus a.path) = 0 ∧ Frame [.regs] (okAnd a [.one (K.gasHeldRequest
    c)]) s t) ∧
  (∀ (a : Acc) (c : Nat) (s : State), c < 16 → s.writeStatus a (K.gasSwapTarget c) = 0 → s.bankWritten c (accVal a (K.gasSwapTarget c)) = true → exec
    (.swapTarget a c) s = .next (s.done a (K.gasSwapTarget c) 13)) ∧
  (∀ (a : Acc) (c : Nat) (s : State), s.writeStatus a (K.gasCalGo c) = 0 → c < 16 → accVal a (K.gasCalGo c) ≠ 0 → (s.ga c).cal = none → s.gaHeld c =
    false → s.rd (K.gaMode c) ≠ 0 → ∃ t, exec (.calGo a c) s = .next t ∧ (t.ga c).cal = some
    { ref := false, left := s.calDiscard c, sum := 0, n := 0, zero := 0 } ∧ t.rd (K.gasCalStatus c) = 1 ∧ (∀ d, d ≠ c → t.ga d = s.ga d) ∧ t.rd
    (K.pathLastStatus a.path) = 0 ∧ Frame [.regs, .gauge] (okAnd a [.one (K.gasCalStatus c)]) s t) ∧
  (∀ (a : Acc) (c : Nat) (s : State), c < 16 → s.writeStatus a (K.gasCalGo c) = 0 → accVal a (K.gasCalGo c) ≠ 0 → (s.ga c).cal.isSome = true ∨
    s.gaHeld c = true → exec (.calGo a c) s = .next (s.done a (K.gasCalGo c) 13)) ∧
  (∀ (a : Acc) (c : Nat) (s : State), s.writeStatus a (K.gfltReadmit c) = 0 → c < 16 → accVal a (K.gfltReadmit c) = 1 → s.gaRetired c = true → ∃ t,
    exec (.gaugeReadmit a c) s = .next t ∧ t.rd (K.gfltGaugeState c) = 0 ∧ (t.ga c).ints = [0, 0, 0, 0] ∧ (t.ga c).combs = [0, 0, 0, 0] ∧ t.rd
    (K.gasSettleLeft c) = s.settleCount c ∧ (∀ d, d ≠ c → t.ga d = s.ga d) ∧ t.rd (K.pathLastStatus a.path) = 0 ∧ Frame (withSide [.free, .pins,
    .memory, .kiln, .gauge, .loop]) (okSide a (joinKeys [.fam (K.gasActiveBank 0) 16, .fam (K.gasFadeState 0) 16, .fam (K.gasLatest 0) 16, .fam
    (K.gasLost 0) 16, .fam (K.gasSamples 0) 16, .fam (K.gasSettleLeft 0) 16, .fam (K.gasStatus 0) 16, .fam (K.gfltGaugeState 0) 16, .fam
    (K.khHeadState 0) 128, .fam (K.khHeadStatus 0) 128, .fam (K.kpFaultCount 0) 32, .fam (K.kpLastFaultTime 0) 32, .fam (K.kpPortState 0) 32, .fam
    (K.kpPortStatus 0) 32, .fam (K.qsFill 0) 64, .fam (K.qsFillPeak 0) 64, .fam (K.qsItemsIn 0) 64, .fam (K.qsNoCreditCount 0) 64, .fam
    (K.qsQueueStatus 0) 64, .one K.fltFaultStatus, .one K.fltLastRetiredUnit, .one K.fltRetiredCount, .one K.fltTransientCount, .one
    K.kilnActiveHeads] [.one K.kilnKilnStatus, .one K.quesSizeErrors])) s t)

/-- O40. A window that ends outside a capture, with no write waiting and no lamp to move, is counted, and the next begins with its
first band and empty sums. A fold's end shows the slot's updates and its time; a nozzle whose word changed since the window is
discarded. -/
def Obligations.LoopWindowCommands : Prop :=
  (∀ (j : Int) (s : State), s.umb.last = some j → s.loopRuns = true → s.windowDue (j + 1) = true → s.loopState ≠ 2 → s.loop.retry = [] →
    s.loop.lampWait = [] → ((∀ n, n < 12 → s.apprValid n = false)) → ∃ t, exec .loopWindowEnd s = .next t ∧ t.rd K.loopsWindow = ofI 64 (s.rdI 64
    K.loopsWindow + 1) ∧ t.loop.open_ = true ∧ t.loop.band0 = s.loop.band0 + s.rd K.loopLoopBands ∧ t.loop.slot = s.loopNext s.loop.slot ∧
    t.loop.white = [] ∧ t.loop.diode = [] ∧ t.loop.strips = [] ∧ Frame (withSide [.loop]) (sideAnd [.one K.loopsWindow, .one K.loopsFoldLate, .one
    K.loopsStatus, .fam (K.stripStripMean 0) 16, .fam (K.stripStripErr 0) 16, .fam (K.lslotStripErrMax 0) 8, .fam (K.lslotWorstStrip 0) 8, .fam
    (K.lslotHoldReason 0) 8]) s t) ∧
  (∀ (f : LoopFold) (p : FoldAcc × State) (u : State) (s : State), s.loop.fold = some f → f.slot < 8 → u = (if f.first then (s.setLoop
    { s.loop with fold := none }).approveKnots f.slot else s.setLoop { s.loop with fold := none }) → p = (sortBy (fun n => ((n : Nat) : Int))
    (distinct (f.cols.map fun c => c.noz))).foldl (foldNozzle f) ({}, u) → ∃ t, exec .loopFoldDone s = .next t ∧ t.rd (K.lslotNozzlesUpdated f.slot) =
    p.1.updated ∧ t.rd (K.lslotLastFold f.slot) = s.time ∧ t.loop.fold = none ∧ Frame (withSide [.mem, .memory, .slip, .loop]) (sideAnd [.fam
    (K.lslotLastFold 0) 8, .fam (K.lslotNozzlesUpdated 0) 8, .fam (K.portBytesRead 0) 12, .fam (K.portBytesWritten 0) 12, .fam (K.qsFill 0) 64, .fam
    (K.qsFillPeak 0) 64, .fam (K.qsItemsIn 0) 64, .fam (K.qsNoCreditCount 0) 64, .fam (K.qsQueueStatus 0) 64, .one K.dramLastMapError, .one
    K.dramMapErrors, .one K.dramMemStatus, .one K.loopsDiscards, .one K.loopsFrozenNozzles, .one K.loopsStatus, .one K.quesSizeErrors]) s t) ∧
  (∀ (f : LoopFold) (x : LoopCol) (s : State), s.loop.fold = some f → f.slot < 8 → f.first = false → f.cols = [x] → s.glazeWord x.word % 2 ^ 60 ≠
    x.knots → ∃ t, exec .loopFoldDone s = .next t ∧ t.rd K.loopsDiscards = (s.rd K.loopsDiscards + 1) % 2 ^ 32 ∧ t.rd (K.lslotNozzlesUpdated f.slot) =
    0 ∧ t.bars = s.bars ∧ Frame (withSide [.mem, .memory, .slip, .loop]) (sideAnd [.fam (K.lslotLastFold 0) 8, .fam (K.lslotNozzlesUpdated 0) 8, .fam
    (K.portBytesRead 0) 12, .fam (K.portBytesWritten 0) 12, .fam (K.qsFill 0) 64, .fam (K.qsFillPeak 0) 64, .fam (K.qsItemsIn 0) 64, .fam
    (K.qsNoCreditCount 0) 64, .fam (K.qsQueueStatus 0) 64, .one K.dramLastMapError, .one K.dramMapErrors, .one K.dramMemStatus, .one K.loopsDiscards,
    .one K.loopsFrozenNozzles, .one K.loopsStatus, .one K.quesSizeErrors]) s t)

/-- O41. APPROVE moves FREE, LOCKED or HELD to CAPTURING with empty references and its time; UNLOCK moves any but FREE back to
FREE with empty references; HOLD moves LOCKED to HELD and RESUME back; RESTORE, in FREE with the device STOPPED and an ApprovalSet
of the right kind, moves to LOCKED with the references it holds. In any other state each is refused with ERR_STATE. -/
def Obligations.LoopApprovalCommands : Prop :=
  (∀ (a : Acc) (s : State), s.writeStatus { a with value := 1 } K.loopsApproveCommand = 0 → s.loopState = 1 ∨ s.loopState = 3 ∨ s.loopState = 4 → ∃ t,
    exec (.approve a) s = .next t ∧ t.rd K.loopsLoopState = 2 ∧ t.rd K.loopsApproveTime = s.time ∧ t.rd K.loopsFrozenNozzles = 0 ∧ t.loop.capLeft =
    (if s.loop.open_ then none else some s.capWindows) ∧ (∀ i, i < 16 → t.rd (K.stripStripRef i) = 0 ∧ t.rd (K.stripStripErr i) = 0) ∧ t.rd
    (K.pathLastStatus a.path) = 0 ∧ Frame (withSide [.domains, .mem, .loop]) (okSide a [.fam (K.lslotHoldReason 0) 8, .fam (K.portBytesRead 0) 12,
    .fam (K.portBytesWritten 0) 12, .fam (K.stripStripErr 0) 16, .fam (K.stripStripRef 0) 16, .one K.dramLastMapError, .one K.dramMapErrors, .one
    K.dramMemStatus, .one K.loopsApproveTime, .one K.loopsFrozenNozzles, .one K.loopsLoopState, .one K.loopsStatus]) s t) ∧
  (∀ (a : Acc) (s : State), s.writeStatus { a with value := 2 } K.loopsApproveCommand = 0 → s.loopState = 2 ∨ s.loopState = 3 ∨ s.loopState = 4 → ∃ t,
    exec (.unlock a) s = .next t ∧ t.rd K.loopsLoopState = 1 ∧ t.loop.capLeft = none ∧ (∀ i, i < 16 → t.rd (K.stripStripRef i) = 0 ∧ t.rd
    (K.stripStripErr i) = 0) ∧ t.rd (K.pathLastStatus a.path) = 0 ∧ Frame (withSide [.domains, .mem, .loop]) (okSide a [.fam (K.lslotHoldReason 0) 8,
    .fam (K.portBytesWritten 0) 12, .fam (K.stripStripErr 0) 16, .fam (K.stripStripRef 0) 16, .one K.dramLastMapError, .one K.dramMapErrors, .one
    K.dramMemStatus, .one K.loopsLoopState, .one K.loopsStatus]) s t) ∧
  (∀ (a : Acc) (s : State), s.writeStatus { a with value := 3 } K.loopsApproveCommand = 0 → s.loopState = 3 → ∃ t, exec (.hold a) s = .next t ∧ t.rd
    K.loopsLoopState = 4 ∧ t.rd (K.pathLastStatus a.path) = 0 ∧ Frame sideParts (okSide a [.fam (K.lslotHoldReason 0) 8, .one K.loopsLoopState, .one
    K.loopsStatus]) s t) ∧
  (∀ (a : Acc) (s : State), s.writeStatus { a with value := 4 } K.loopsApproveCommand = 0 → s.loopState = 4 → ∃ t, exec (.resume a) s = .next t ∧ t.rd
    K.loopsLoopState = 3 ∧ t.rd (K.pathLastStatus a.path) = 0 ∧ Frame sideParts (okSide a [.fam (K.lslotHoldReason 0) 8, .one K.loopsLoopState, .one
    K.loopsStatus]) s t) ∧
  (∀ (a : Acc) (s : State), s.writeStatus { a with value := 5 } K.loopsApproveCommand = 0 → s.loopState = 1 → s.dev = stStopped → s.apprLe 0 2 =
    0x4C41 → ∃ t, exec (.restore a) s = .next t ∧ t.rd K.loopsLoopState = 3 ∧ t.rd K.loopsApproveTime = s.apprLe 8 8 * 65536 ∧ (∀ i, i < 16 → t.rd
    (K.stripStripRef i) = (if s.apprValid (16 + i) then s.apprLe (160 + 4 * i) 4 else s.rd (K.stripStripRef i))) ∧ t.rd (K.pathLastStatus a.path) = 0
    ∧ Frame sideParts (okSide a [.fam (K.lslotHoldReason 0) 8, .fam (K.stripStripRef 0) 16, .one K.loopsApproveTime, .one K.loopsFrozenNozzles, .one
    K.loopsLoopState, .one K.loopsStatus]) s t) ∧
  (∀ (a : Acc) (s : State), s.writeStatus { a with value := 3 } K.loopsApproveCommand = 0 → s.loopState ≠ 3 → exec (.hold a) s = .next (s.done
    { a with value := 3 } K.loopsApproveCommand 3)) ∧
  (∀ (a : Acc) (s : State), s.writeStatus { a with value := 5 } K.loopsApproveCommand = 0 → s.loopState ≠ 1 ∨ s.dev ≠ stStopped → exec (.restore a) s
    = .next (s.done { a with value := 5 } K.loopsApproveCommand 3))

/-- O42. A refresh falls tREFI after the last. A temperature above 85 °C or a failed read asks for double refresh, one below 83 °C
ends it. A grant serves the oldest request of the port of highest priority: a write lands in DRAM and a read's bytes are what the
hart reads. A patrol read that finds a corrected error counts it with its address, and one that cannot be corrected is fatal fault
1. A channel idle long enough in STANDBY enters self-refresh. Tracking moves a lane one tap at most. -/
def Obligations.DramCommands : Prop :=
  (∀ (ch : Nat) (s : State), ch < 4 → s.dramReady ch = true → ∃ t, exec (.dramRefresh ch) s = .next t ∧ t.now = max s.now ((s.dramCh ch).refreshed +
    (s.dramCh ch).refi) ∧ t.rd (K.dcsRefreshes ch) = (s.rd (K.dcsRefreshes ch) + 1) % 2 ^ 64 ∧ t.dramCh ch =
    { s.dramCh ch with refreshed := (s.dramCh ch).refreshed + (s.dramCh ch).refi } ∧ (∀ d, d ≠ ch → t.dramCh d = s.dramCh d) ∧ Frame [.clock, .regs,
    .memory] [.one (K.dcsRefreshes ch)] s t) ∧
  (∀ (ch : Nat) (x : Int) (s : State), ch < 4 → s.rd (K.dcsChannelState ch) ≠ 0 → 85000 < x → ∃ t, exec (.dramTempRead ch (some x)) s = .next t ∧ t.rd
    (K.dcsCaseTemp ch) = ofI 32 x ∧ t.bit (K.dcsChannelStatus ch) 1 = true ∧ (t.dramCh ch).hot = true ∧ (t.dramCh ch).tempFail = false ∧ (∀ d, d ≠ ch
    → t.dramCh d = s.dramCh d) ∧ Frame (withSide [.memory]) (sideAnd [.one (K.dcsCaseTemp ch), .one (K.dcsChannelStatus ch)]) s t) ∧
  (∀ (ch : Nat) (x : Int) (s : State), ch < 4 → s.rd (K.dcsChannelState ch) ≠ 0 → x < 83000 → ∃ t, exec (.dramTempRead ch (some x)) s = .next t ∧ t.rd
    (K.dcsCaseTemp ch) = ofI 32 x ∧ t.bit (K.dcsChannelStatus ch) 1 = false ∧ (t.dramCh ch).hot = false ∧ (∀ d, d ≠ ch → t.dramCh d = s.dramCh d) ∧
    Frame [.regs, .memory] [.one (K.dcsCaseTemp ch), .one (K.dcsChannelStatus ch)] s t) ∧
  (∀ (ch : Nat) (s : State), ch < 4 → s.rd (K.dcsChannelState ch) ≠ 0 → ∃ t, exec (.dramTempRead ch none) s = .next t ∧ (t.dramCh ch).tempFail = true
    ∧ t.bit (K.dcsChannelStatus ch) 1 = true ∧ t.bit (K.dcsChannelStatus ch) 2 = true ∧ (t.dramCh ch).refi = 3120 ∧ (∀ d, d ≠ ch → t.dramCh d =
    s.dramCh d) ∧ Frame (withSide [.memory]) (sideAnd [.one (K.dcsChannelStatus ch)]) s t) ∧
  (∀ (ch p : Nat) (r : DramReq) (l : List DramReq) (s : State), ch < 4 → s.dramReady ch = true → s.grantPort ch = some p → takeReq p (s.dramCh
    ch).wait = some (r, l) → max s.now ((s.dramCh ch).refreshed + s.rfc ch) < (s.dramCh ch).refreshed + (s.dramCh ch).refi → r.write = true → s.memOk
    → s.inDram r.addr r.bytes.length = true → ∃ t, exec (.dramGrant ch) s = .next t ∧ t.now = max s.now ((s.dramCh ch).refreshed + s.rfc ch) ∧
    (t.dramCh ch).wait = l ∧ (∀ n, memGet t.mem n = (if r.addr ≤ n ∧ n < r.addr + r.bytes.length then BitVec.ofNat 8 (nth r.bytes (n - r.addr)) else
    memGet s.mem n)) ∧ (∀ d, d ≠ ch → t.dramCh d = s.dramCh d) ∧ Frame (withSide [.clock, .mem, .memory]) (sideAnd [.one (K.portMaxLatency p), .one
    (K.portBytesWritten r.port)]) s t) ∧
  (∀ (ch p : Nat) (r : DramReq) (l : List DramReq) (s : State), ch < 4 → s.dramReady ch = true → s.grantPort ch = some p → takeReq p (s.dramCh
    ch).wait = some (r, l) → max s.now ((s.dramCh ch).refreshed + s.rfc ch) < (s.dramCh ch).refreshed + (s.dramCh ch).refi → r.write = false →
    s.inDram r.addr r.len = true → ∃ t, exec (.dramGrant ch) s = .next t ∧ (t.dramCh ch).wait = l ∧ tfind t.readData (8 + r.hart) = some (ofLe
    ((List.range r.len).map fun i => s.memByte (r.addr + i))) ∧ (∀ d, d ≠ ch → t.dramCh d = s.dramCh d) ∧ Frame (withSide [.clock, .reads, .memory])
    (sideAnd [.one (K.portMaxLatency p), .one (K.portBytesRead r.port)]) s t) ∧
  (∀ (ch a : Nat) (last : Bool) (s : State), ch < 4 → s.dramReady ch = true → s.rd K.dramPatrolPeriod ≠ 0 → (s.dramCh ch).wait = [] → s.inDram a 64 =
    true → s.dramOf a = ch → ∃ t, exec (.patrolRead ch a .corrected last) s = .next t ∧ t.rd (K.dcsCorrectedErrors ch) = (s.rd (K.dcsCorrectedErrors
    ch) + 1) % 2 ^ 32 ∧ t.rd (K.dcsLastCorrectedAddress ch) = a ∧ t.bit (K.dcsChannelStatus ch) 0 = true ∧ t.rd (K.dcsPatrolPasses ch) = (if last then
    (s.rd (K.dcsPatrolPasses ch) + 1) % 2 ^ 32 else s.rd (K.dcsPatrolPasses ch)) ∧ Frame sideParts (sideAnd [.one (K.dcsCorrectedErrors ch), .one
    (K.dcsLastCorrectedAddress ch), .one (K.dcsPatrolPasses ch), .one (K.dcsChannelStatus ch), .one (K.portBytesWritten 11)]) s t) ∧
  (∀ (ch a : Nat) (last : Bool) (s : State), ch < 4 → s.dramReady ch = true → s.rd K.dramPatrolPeriod ≠ 0 → (s.dramCh ch).wait = [] → s.inDram a 64 =
    true → s.dramOf a = ch → s.dev ≠ stReset → s.dev ≠ stFault → ∃ t, exec (.patrolRead ch a .uncorrectable last) s = .next t ∧ t.dev = stFault ∧ t.rd
    K.fltFatalCode = 1 ∧ Frame (withSide [.free, .device, .staged, .pool, .paths, .out, .mem, .boot, .pins, .memory, .wheel, .engines, .slip, .kiln,
    .gauge, .umbra, .loop]) [.all] s t) ∧
  (∀ (ch : Nat) (s : State), ch < 4 → s.dev = stStandby → s.bit K.pwrSleepMask 6 = true → s.rd K.pwrSelfRefreshIdle ≠ 0 → s.dramReady ch = true →
    (s.dramCh ch).wait = [] → ∃ t, exec (.selfRefreshEntry ch) s = .next t ∧ t.rd (K.dcsChannelState ch) = 3 ∧ t.now = max s.now ((s.dramCh ch).busy +
    us (s.rd K.pwrSelfRefreshIdle)) ∧ Frame [.clock, .regs] [.one (K.dcsChannelState ch)] s t) ∧
  (∀ (ch : Nat) (d : Int) (s : State), ch < 4 → s.rd K.calDdrTrackPeriod ≠ 0 → s.dramReady ch = true → (tget 0 (s.dramCh ch).moved 0).natAbs < 8 →
    clampI (-1) 1 d ≠ 0 → ∃ t, exec (.ddrTrack ch [d]) s = .next t ∧ tget 0 (t.dramCh ch).moved 0 = tget 0 (s.dramCh ch).moved 0 + clampI (-1) 1 d ∧
    t.rd K.calDdrTrackSteps = (s.rd K.calDdrTrackSteps + 1) % 2 ^ 32 ∧ (∀ d, d ≠ ch → t.dramCh d = s.dramCh d) ∧ Frame (withSide [.memory]) (sideAnd
    [.one K.calDdrTrackSteps, .one K.calCalStatus]) s t)

/-- O43. An item that finds no credit is counted and flagged and not stored. A flush empties both banks, counts itself and returns
the producers' credits; the channel that reads the queue ends its descriptor with FLUSHED. PORT_QUEUE_FLUSH empties the line banks
of the ports named. -/
def Obligations.QueueCommands : Prop :=
  (∀ (q : Nat) (item : List Nat) (s : State), q < 64 → item.length ≤ s.rd (K.qItemBytes q) → s.queCredits q = 0 → ∃ t, exec (.queueItemWrite q item) s
    = .next t ∧ t.rd (K.qsNoCreditCount q) = (s.rd (K.qsNoCreditCount q) + 1) % 2 ^ 32 ∧ t.bit (K.qsQueueStatus q) 1 = true ∧ t.queues = s.queues ∧
    Frame sideParts (sideAnd [.one (K.qsNoCreditCount q), .one (K.qsQueueStatus q)]) s t) ∧
  (∀ (a : Acc) (q : Nat) (s : State), s.writeStatus a (K.qsFlush q) = 0 → q < 64 → accVal a (K.qsFlush q) = 1 → 32 ≤ s.rd (K.qsConsumer q) → ∃ t, exec
    (.queueFlush a q) s = .next t ∧ t.que q = {} ∧ t.rd (K.qsFill q) = 0 ∧ t.rd (K.qsFlushCount q) = (s.rd (K.qsFlushCount q) + 1) % 2 ^ 32 ∧ (∀ r, r
    ≠ q → t.que r = s.que r) ∧ t.rd (K.pathLastStatus a.path) = 0 ∧ Frame (withSide [.memory]) (okSide a [.one (K.qsFill q), .one (K.qsFlushCount q)])
    s t) ∧
  (∀ (a : Acc) (q : Nat) (s : State), s.writeStatus a (K.qsFlush q) = 0 → q < 64 → accVal a (K.qsFlush q) = 1 → ∃ t, exec (.queueFlush a q) s = .next
    t ∧ t.que q = {} ∧ t.rd (K.qsFill q) = 0 ∧ (∀ r, r ≠ q → t.que r = s.que r) ∧ t.rd (K.pathLastStatus a.path) = 0 ∧ Frame (withSide [.mem,
    .memory]) (okSide a [.fam (K.dmasChannelState 0) 32, .fam (K.dmasCompletions 0) 32, .fam (K.dmasCurrentDesc 0) 32, .fam (K.dmasLastStatus 0) 32,
    .fam (K.portBytesWritten 0) 12, .fam (K.qsConsumer 0) 64, .fam (K.qsFill 0) 64, .fam (K.qsFlushCount 0) 64, .one K.dramLastMapError, .one
    K.dramMapErrors, .one K.dramMemStatus]) s t) ∧
  (∀ (a : Acc) (s : State), s.writeStatus a K.quesPortQueueFlush = 0 → ∃ t, exec (.portQueueFlush a) s = .next t ∧ (∀ p, p < 32 → bitOf (accVal a
    K.quesPortQueueFlush) p = true → (t.port p).banks = []) ∧ (∀ p, bitOf (accVal a K.quesPortQueueFlush) p = false → (∀ k, k ∈ (t.port p).banks → k ∈
    (s.port p).banks)) ∧ t.rd (K.pathLastStatus a.path) = 0 ∧ Frame [.regs, .slip, .kiln] (okAnd a []) s t)

/-- O44. Go in IDLE or HALTED fetches from Start, and is refused with ERR_BUSY otherwise; a doorbell wakes a channel waiting for a
descriptor; Abort ends a channel that moves nothing at once, and one with a descriptor in hand with ABORTED. A fetched descriptor
that passes its checks becomes ACTIVE or waits for its pace; VALID 0 waits; one that fails a check halts the channel with the
status of the check. -/
def Obligations.DmaControlCommands : Prop :=
  (∀ (a : Acc) (c : Nat) (s : State), s.writeStatus a (K.dmasGo c) = 0 → c < 32 → s.dmaState c = 0 ∨ s.dmaState c = 5 → accVal a (K.dmasGo c) = 1 → ∃
    t, exec (.dmaGo a c) s = .next t ∧ t.dma c = {} ∧ t.rd (K.dmasLastStatus c) = 0 ∧ t.rd (K.dmasCurrentDesc c) = s.rd (K.dmasStart c) ∧ t.rd
    (K.dmasChannelState c) = 1 ∧ (∀ d, d ≠ c → t.dma d = s.dma d) ∧ t.rd (K.pathLastStatus a.path) = 0 ∧ Frame [.regs, .memory] (okAnd a [.one
    (K.dmasLastStatus c), .one (K.dmasCurrentDesc c), .one (K.dmasChannelState c)]) s t) ∧
  (∀ (a : Acc) (c : Nat) (s : State), c < 32 → s.writeStatus a (K.dmasGo c) = 0 → s.dmaState c ≠ 0 → s.dmaState c ≠ 5 → exec (.dmaGo a c) s = .next
    (s.done a (K.dmasGo c) 13)) ∧
  (∀ (a : Acc) (c : Nat) (s : State), s.writeStatus a (K.dmasDoorbell c) = 0 → c < 32 → accVal a (K.dmasDoorbell c) = 1 → s.dmaState c = 4 → ∃ t, exec
    (.doorbell a c) s = .next t ∧ t.rd (K.dmasChannelState c) = 1 ∧ t.rd (K.pathLastStatus a.path) = 0 ∧ Frame [.regs] (okAnd a [.one
    (K.dmasChannelState c)]) s t) ∧
  (∀ (a : Acc) (c : Nat) (s : State), s.writeStatus a (K.dmasAbort c) = 0 → c < 32 → accVal a (K.dmasAbort c) = 1 → s.dmaState c = 1 ∨ s.dmaState c =
    4 → ∃ t, exec (.dmaAbort a c) s = .next t ∧ t.rd (K.dmasChannelState c) = 0 ∧ t.dma c = {} ∧ (∀ d, d ≠ c → t.dma d = s.dma d) ∧ t.rd
    (K.pathLastStatus a.path) = 0 ∧ Frame [.regs, .memory] (okAnd a [.one (K.dmasChannelState c)]) s t) ∧
  (∀ (a : Acc) (c : Nat) (s : State), s.writeStatus a (K.dmasAbort c) = 0 → c < 32 → accVal a (K.dmasAbort c) = 1 → s.dmaState c = 2 ∨ s.dmaState c =
    3 → ∃ t, exec (.dmaAbort a c) s = .next t ∧ t.rd (K.dmasChannelState c) = 0 ∧ t.dma c = {} ∧ t.rd (K.dmasLastStatus c) = 8 ∧ t.rd
    (K.dmasCompletions c) = (s.rd (K.dmasCompletions c) + 1) % 2 ^ 32 ∧ t.rd (K.pathLastStatus a.path) = 0 ∧ Frame (withSide [.free, .out, .mem,
    .memory]) (okSide a [.fam (K.dmasBytesMoved 0) 32, .fam (K.dmasChannelState 0) 32, .fam (K.dmasCompletions 0) 32, .fam (K.dmasLastStatus 0) 32,
    .fam (K.portBytesRead 0) 12, .fam (K.portBytesWritten 0) 12, .fam (K.qsConsumer 0) 64, .fam (K.qsFill 0) 64, .fam (K.qsFillPeak 0) 64, .fam
    (K.qsItemsIn 0) 64, .fam (K.qsItemsOut 0) 64, .fam (K.qsNoCreditCount 0) 64, .fam (K.qsQueueStatus 0) 64, .one K.dramLastMapError, .one
    K.dramMapErrors, .one K.dramMemStatus, .one K.quesSizeErrors]) s t) ∧
  (∀ (c : Nat) (l : List Nat) (x : Dma) (u : State) (s : State), c < 32 → s.rd (K.dmasChannelState c) = 1 → s.blockRead 8 (s.rd (K.dmasCurrentDesc c))
    64 = (l, u) → x =
    { ctrl := leAt l 0 4, length := leAt l 4 4, src := leAt l 8 8, dst := leAt l 16 8, next := leAt l 24 8, burst := (s.dma c).burst } → s.inDram
    (s.rd (K.dmasCurrentDesc c)) 64 = true → bitOf x.ctrl 0 = true → u.descCheck c x = 0 → ∃ t, exec (.descFetch c) s = .next t ∧ t.dma c = x ∧ t.rd
    (K.dmasChannelState c) = (if x.queue.isNone ∨ x.burst ≠ 0 then 2 else 3) ∧ (∀ q, x.queue = some q → t.rd (K.qsConsumer q) = c) ∧ t.mem = s.mem ∧
    (∀ d, d ≠ c → t.dma d = s.dma d) ∧ Frame [.regs, .memory] [.one (K.portBytesRead 8), .one (K.dmasChannelState c), .fam (K.qsConsumer 0) 64] s t) ∧
  (∀ (c : Nat) (l : List Nat) (x : Dma) (u : State) (s : State), c < 32 → s.rd (K.dmasChannelState c) = 1 → s.blockRead 8 (s.rd (K.dmasCurrentDesc c))
    64 = (l, u) → x =
    { ctrl := leAt l 0 4, length := leAt l 4 4, src := leAt l 8 8, dst := leAt l 16 8, next := leAt l 24 8, burst := (s.dma c).burst } → s.inDram
    (s.rd (K.dmasCurrentDesc c)) 64 = true → bitOf x.ctrl 0 = false → ∃ t, exec (.descFetch c) s = .next t ∧ t.rd (K.dmasChannelState c) = 4 ∧ t.dma c
    = { burst := (s.dma c).burst } ∧ (∀ d, d ≠ c → t.dma d = s.dma d) ∧ Frame [.regs, .memory] [.one (K.portBytesRead 8), .one (K.dmasChannelState c)]
    s t) ∧
  (∀ (c st : Nat) (l : List Nat) (x : Dma) (u : State) (s : State), c < 32 → s.rd (K.dmasChannelState c) = 1 → s.blockRead 8 (s.rd (K.dmasCurrentDesc
    c)) 64 = (l, u) → x =
    { ctrl := leAt l 0 4, length := leAt l 4 4, src := leAt l 8 8, dst := leAt l 16 8, next := leAt l 24 8, burst := (s.dma c).burst } → s.inDram
    (s.rd (K.dmasCurrentDesc c)) 64 = true → bitOf x.ctrl 0 = true → u.descCheck c x = st → st ≠ 0 → s.memOk → ∃ t, exec (.descFetch c) s = .next t ∧
    t.rd (K.dmasLastStatus c) = st ∧ (∀ n, ¬ (s.rd (K.dmasCurrentDesc c) + 32 ≤ n ∧ n < s.rd (K.dmasCurrentDesc c) + 48) → memGet t.mem n = memGet
    s.mem n) ∧ t.rd (K.dmasChannelState c) = 5 ∧ t.rd (K.dmasErrorCount c) = (s.rd (K.dmasErrorCount c) + 1) % 2 ^ 32 ∧ (∀ d, d ≠ c → t.dma d = s.dma
    d) ∧ Frame (withSide [.mem, .memory]) (sideAnd [.fam (K.dmasChannelState 0) 32, .fam (K.dmasCompletions 0) 32, .fam (K.dmasErrorCount 0) 32, .fam
    (K.dmasLastStatus 0) 32, .fam (K.portBytesRead 0) 12, .fam (K.portBytesWritten 0) 12, .fam (K.qsConsumer 0) 64, .one K.dramLastMapError, .one
    K.dramMapErrors, .one K.dramMemStatus]) s t)

/-- O45. A queue that reaches HighMark starts a burst, and an item that has waited MaxWait starts one that empties the queue. A
descriptor between DRAM addresses copies its bytes, writes DONE back and goes on to Next or IDLE, with no other byte of DRAM
changed; a beat that reaches no store ends the descriptor and halts the channel with TAIL_ERROR for its last beat, else BUS_ERROR;
and so does an error response of the host. -/
def Obligations.DmaMoveCommands : Prop :=
  (∀ (c q : Nat) (s : State), c < 32 → (s.dma c).queue = some q → s.dmaState c = 3 → max 1 (s.rd (K.dmaHighMark c)) ≤ s.paceLevel (s.dma c) q → ∃ t,
    exec (.dmaPaceStart c) s = .next t ∧ t.dma c = { s.dma c with burst := 1 } ∧ t.rd (K.dmasChannelState c) = 2 ∧ (∀ d, d ≠ c → t.dma d = s.dma d) ∧
    Frame [.regs, .memory] [.one (K.dmasChannelState c)] s t) ∧
  (∀ (c : Nat) (it : QItem) (s : State), c < 32 → (s.dma c).fromQueue = true → s.dmaState c = 3 → s.rd (K.dmaMaxWait c) ≠ 0 → queOldest (s.que ((s.dma
    c).src % 64)) = some it → ∃ t, exec (.dmaMaxwait c) s = .next t ∧ t.now = max s.now (it.stamp + us (s.rd (K.dmaMaxWait c))) ∧ t.dma c =
    { s.dma c with burst := 2 } ∧ t.rd (K.dmasChannelState c) = 2 ∧ (∀ d, d ≠ c → t.dma d = s.dma d) ∧ Frame [.clock, .regs, .memory] [.one
    (K.dmasChannelState c)] s t) ∧
  (∀ (c : Nat) (x : Dma) (host : List Nat) (s : State), c < 32 → x = s.dma c → s.dmaState c = 2 → x.queue = none → x.fromHost = false → x.toHost =
    false → x.moved = 0 → x.length % 64 = 0 → s.firstBad x x.length = none → s.inDram x.dst x.length = true → s.memOk → ∃ t, exec (.descComplete c
    host) s = .next t ∧ t.rd (K.dmasLastStatus c) = 1 ∧ t.rd (K.dmasBytesMoved c) = (s.rd (K.dmasBytesMoved c) + x.length) % 2 ^ 64 ∧ t.rd
    (K.dmasChannelState c) = (if x.lastDesc ∨ x.next = 0 then 0 else 1) ∧ (∀ n, ¬ (s.rd (K.dmasCurrentDesc c) + 32 ≤ n ∧ n < s.rd (K.dmasCurrentDesc
    c) + 48) → memGet t.mem n = (if x.dst ≤ n ∧ n < x.dst + x.length then BitVec.ofNat 8 (s.memByte (x.src + (n - x.dst))) else memGet s.mem n)) ∧ (∀
    d, d ≠ c → t.dma d = s.dma d) ∧ Frame (withSide [.out, .mem, .memory]) (sideAnd [.fam (K.dmasBytesMoved 0) 32, .fam (K.dmasChannelState 0) 32,
    .fam (K.dmasCompletions 0) 32, .fam (K.dmasCurrentDesc 0) 32, .fam (K.dmasErrorCount 0) 32, .fam (K.dmasLastStatus 0) 32, .fam (K.portBytesRead 0)
    12, .fam (K.portBytesWritten 0) 12, .fam (K.qsConsumer 0) 64, .fam (K.qsFill 0) 64, .fam (K.qsFillPeak 0) 64, .fam (K.qsItemsIn 0) 64, .fam
    (K.qsItemsOut 0) 64, .fam (K.qsNoCreditCount 0) 64, .fam (K.qsQueueStatus 0) 64, .one K.dramLastMapError, .one K.dramMapErrors, .one
    K.dramMemStatus, .one K.pcieCplErrors, .one K.pciePcieStatus, .one K.quesSizeErrors]) s t) ∧
  (∀ (c : Nat) (host : List Nat) (s : State), c < 32 → s.dmaState c = 2 → s.firstBad (s.dma c) (s.dmaPlan c (s.dma c)) = none → ∃ t, exec
    (.descComplete c host) s = .next t ∧ t.rd (K.dmasBytesMoved c) = (s.rd (K.dmasBytesMoved c) + s.dmaPlan c (s.dma c)) % 2 ^ 64 ∧ (∀ d, d ≠ c →
    t.dma d = s.dma d) ∧ Frame (withSide [.out, .mem, .memory]) (sideAnd [.fam (K.dmasBytesMoved 0) 32, .fam (K.dmasChannelState 0) 32, .fam
    (K.dmasCompletions 0) 32, .fam (K.dmasCurrentDesc 0) 32, .fam (K.dmasErrorCount 0) 32, .fam (K.dmasLastStatus 0) 32, .fam (K.portBytesRead 0) 12,
    .fam (K.portBytesWritten 0) 12, .fam (K.qsConsumer 0) 64, .fam (K.qsFill 0) 64, .fam (K.qsFillPeak 0) 64, .fam (K.qsItemsIn 0) 64, .fam
    (K.qsItemsOut 0) 64, .fam (K.qsNoCreditCount 0) 64, .fam (K.qsQueueStatus 0) 64, .one K.dramLastMapError, .one K.dramMapErrors, .one
    K.dramMemStatus, .one K.pcieCplErrors, .one K.pciePcieStatus, .one K.quesSizeErrors]) s t) ∧
  (∀ (c i z : Nat) (b : Bool) (x : Dma) (host : List Nat) (s : State), c < 32 → x = s.dma c → s.dmaState c = 2 → x.queue = none → x.moved = 0 →
    x.length % 64 = 0 → s.firstBad x x.length = some (i, b, z) → ∃ t, exec (.descComplete c host) s = .next t ∧ t.rd (K.dmasLastStatus c) = (if 64 * i
    + 64 = x.length then 3 else 4) ∧ t.rd (K.dmasChannelState c) = 5 ∧ t.rd (K.dmasErrorCount c) = (s.rd (K.dmasErrorCount c) + 1) % 2 ^ 32 ∧ (∀ d, d
    ≠ c → t.dma d = s.dma d) ∧ Frame (withSide [.out, .mem, .memory]) (sideAnd [.fam (K.dmasBytesMoved 0) 32, .fam (K.dmasChannelState 0) 32, .fam
    (K.dmasCompletions 0) 32, .fam (K.dmasCurrentDesc 0) 32, .fam (K.dmasErrorCount 0) 32, .fam (K.dmasLastStatus 0) 32, .fam (K.portBytesRead 0) 12,
    .fam (K.portBytesWritten 0) 12, .fam (K.qsConsumer 0) 64, .fam (K.qsFill 0) 64, .fam (K.qsFillPeak 0) 64, .fam (K.qsItemsIn 0) 64, .fam
    (K.qsItemsOut 0) 64, .fam (K.qsNoCreditCount 0) 64, .fam (K.qsQueueStatus 0) 64, .one K.dramLastMapError, .one K.dramMapErrors, .one
    K.dramMemStatus, .one K.pcieCplErrors, .one K.pciePcieStatus, .one K.quesSizeErrors]) s t) ∧
  (∀ (c beats : Nat) (x : Dma) (host : List Nat) (s : State), c < 32 → x = s.dma c → s.dmaState c = 2 → x.queue = none → x.fromHost = true ∨ x.toHost
    = true → x.moved = 0 → x.length % 64 = 0 → 64 * beats < x.length → ∃ t, exec (.dmaErrorResponse c beats host) s = .next t ∧ t.rd (K.dmasLastStatus
    c) = (if 64 * beats + 64 = x.length then 3 else 4) ∧ t.rd K.pcieCplErrors = (s.rd K.pcieCplErrors + 1) % 2 ^ 32 ∧ t.rd (K.dmasChannelState c) = 5
    ∧ t.rd (K.dmasErrorCount c) = (s.rd (K.dmasErrorCount c) + 1) % 2 ^ 32 ∧ (∀ d, d ≠ c → t.dma d = s.dma d) ∧ Frame (withSide [.out, .mem, .memory])
    (sideAnd [.fam (K.dmasBytesMoved 0) 32, .fam (K.dmasChannelState 0) 32, .fam (K.dmasCompletions 0) 32, .fam (K.dmasErrorCount 0) 32, .fam
    (K.dmasLastStatus 0) 32, .fam (K.portBytesRead 0) 12, .fam (K.portBytesWritten 0) 12, .fam (K.qsConsumer 0) 64, .fam (K.qsFill 0) 64, .fam
    (K.qsFillPeak 0) 64, .fam (K.qsItemsIn 0) 64, .fam (K.qsItemsOut 0) 64, .fam (K.qsNoCreditCount 0) 64, .fam (K.qsQueueStatus 0) 64, .one
    K.dramLastMapError, .one K.dramMapErrors, .one K.dramMemStatus, .one K.pcieCplErrors, .one K.pciePcieStatus, .one K.quesSizeErrors]) s t)

/-- O46. A JobTail no further than the ring's entries ahead of JobHead is stored and wakes the ring; one further is refused with
ERR_RANGE. An idle unreserved engine takes the oldest crop job first, when it is the lowest such engine, and otherwise its ring's
next descriptor if VALID and correct. A finished job empties the engine, is counted, and a software job's output and result stand
in DRAM with every other byte as before. Abort ends a software job with ABORTED. -/
def Obligations.CompressionCommands : Prop :=
  (∀ (a : Acc) (e : Nat) (s : State), s.writeStatus a (K.zesJobTail e) = 0 → e < 6 → (accVal a (K.zesJobTail e) + 2 ^ 32 - s.rd (K.zesJobHead e)) % 2
    ^ 32 ≤ s.rd (K.zerJobRingEntries e) → ∃ t, exec (.jobTail a e) s = .next t ∧ t.rd (K.zesJobTail e) = accVal a (K.zesJobTail e) ∧ (t.ze e).stopped
    = false ∧ (t.ze e).job = (s.ze e).job ∧ (∀ d, d ≠ e → t.ze d = s.ze d) ∧ t.rd (K.pathLastStatus a.path) = 0 ∧ Frame [.regs, .engines] (okAnd a
    [.one (K.zesJobTail e)]) s t) ∧
  (∀ (a : Acc) (e : Nat) (s : State), e < 6 → s.writeStatus a (K.zesJobTail e) = 0 → s.rd (K.zerJobRingEntries e) < (accVal a (K.zesJobTail e) + 2 ^
    32 - s.rd (K.zesJobHead e)) % 2 ^ 32 → exec (.jobTail a e) s = .next (s.done a (K.zesJobTail e) 8)) ∧
  (∀ (e : Nat) (j : ZeJob) (l : List ZeJob) (s : State), e < 6 → s.zeAwake = true → s.zeIdle e = true → s.zeReserved e = false → s.cropJobs = j :: l →
    (List.range e).all (fun d => s.zeReserved d || !s.zeIdle d) = true → ∃ t, exec (.zeJobStart e) s = .next t ∧ (t.ze e).job = some j ∧ t.cropJobs =
    l ∧ t.rd K.zeCropWaiting = l.length ∧ (∀ d, d ≠ e → t.ze d = s.ze d) ∧ Frame [.regs, .engines] [.one K.zeCropWaiting, .one (K.zesEngineState e)] s
    t) ∧
  (∀ (e : Nat) (l : List Nat) (u : State) (s : State), e < 6 → s.zeAwake = true → s.zeIdle e = true → s.zeReserved e = false → s.cropJobs = [] → s.rd
    (K.zesJobHead e) ≠ s.rd (K.zesJobTail e) → (s.ze e).stopped = false → s.rd (K.zerJobRingEntries e) ≠ 0 → s.blockRead 10 (s.jobAddr e) 64 = (l, u)
    → bitOf (leAt l 0 4) 0 = true → u.zeCheck (leAt l 0 4) (jobOf l) = zeOk → ∃ t, exec (.zeJobStart e) s = .next t ∧ (t.ze e).job = some (jobOf l) ∧
    t.rd (K.zesJobHead e) = s.rd (K.zesJobHead e) ∧ t.mem = s.mem ∧ (∀ d, d ≠ e → t.ze d = s.ze d) ∧ Frame (withSide [.mem, .engines, .slip, .umbra])
    (sideAnd [.fam (K.barsQueueFill 0) 16, .fam (K.portBytesRead 0) 12, .fam (K.portBytesWritten 0) 12, .fam (K.zesBytesIn 0) 6, .fam (K.zesBytesOut
    0) 6, .fam (K.zesEngineState 0) 6, .fam (K.zesEngineStatus 0) 6, .fam (K.zesErrorCount 0) 6, .fam (K.zesJobHead 0) 6, .fam (K.zesJobsDone 0) 6,
    .fam (K.zesLastStatus 0) 6, .fam (K.zesVerifyFails 0) 6, .one K.dramLastMapError, .one K.dramMapErrors, .one K.dramMemStatus, .one K.slipStatus,
    .one K.zeCropWaiting]) s t) ∧
  (∀ (e : Nat) (l : List Nat) (u : State) (s : State), e < 6 → s.zeAwake = true → s.zeIdle e = true → s.zeReserved e = false → s.cropJobs = [] → s.rd
    (K.zesJobHead e) ≠ s.rd (K.zesJobTail e) → (s.ze e).stopped = false → s.rd (K.zerJobRingEntries e) ≠ 0 → s.blockRead 10 (s.jobAddr e) 64 = (l, u)
    → bitOf (leAt l 0 4) 0 = false → ∃ t, exec (.zeJobStart e) s = .next t ∧ (t.ze e).job = none ∧ (t.ze e).stopped = true ∧ t.mem = s.mem ∧ (∀ d, d ≠
    e → t.ze d = s.ze d) ∧ Frame (withSide [.mem, .engines, .slip, .umbra]) (sideAnd [.fam (K.barsQueueFill 0) 16, .fam (K.portBytesRead 0) 12, .fam
    (K.portBytesWritten 0) 12, .fam (K.zesBytesIn 0) 6, .fam (K.zesBytesOut 0) 6, .fam (K.zesEngineState 0) 6, .fam (K.zesEngineStatus 0) 6, .fam
    (K.zesErrorCount 0) 6, .fam (K.zesJobHead 0) 6, .fam (K.zesJobsDone 0) 6, .fam (K.zesLastStatus 0) 6, .fam (K.zesVerifyFails 0) 6, .one
    K.dramLastMapError, .one K.dramMapErrors, .one K.dramMemStatus, .one K.slipStatus, .one K.zeCropWaiting]) s t) ∧
  (∀ (e : Nat) (j : ZeJob) (s : State), e < 6 → (s.ze e).job = some j → s.zeAwake = true → ∃ t, exec (.zeJobDone e) s = .next t ∧ (t.ze e).job = none
    ∧ t.rd (K.zesJobsDone e) = (s.rd (K.zesJobsDone e) + 1) % 2 ^ 64 ∧ t.rd (K.zesJobHead e) = (if j.kind = 1 then (s.rd (K.zesJobHead e) + 1) % 2 ^
    32 else s.rd (K.zesJobHead e)) ∧ t.rd (K.zesBytesIn e) = (s.rd (K.zesBytesIn e) + j.inLen) % 2 ^ 64 ∧ (∀ d, d ≠ e → t.ze d = s.ze d) ∧ Frame
    (withSide [.free, .mem, .engines, .slip, .umbra]) (sideAnd [.fam (K.portBytesRead 0) 12, .fam (K.portBytesWritten 0) 12, .fam (K.zesBytesIn 0) 6,
    .fam (K.zesBytesOut 0) 6, .fam (K.zesEngineState 0) 6, .fam (K.zesEngineStatus 0) 6, .fam (K.zesErrorCount 0) 6, .fam (K.zesJobHead 0) 6, .fam
    (K.zesJobsDone 0) 6, .fam (K.zesLastStatus 0) 6, .fam (K.zesVerifyFails 0) 6, .one K.dramLastMapError, .one K.dramMapErrors, .one K.dramMemStatus,
    .one K.slipStatus]) s t) ∧
  (∀ (e crc : Nat) (j : ZeJob) (out : List Nat) (s : State), e < 6 → (s.ze e).job = some j → s.zeAwake = true → j.kind = 1 → j.op = 0 ∨ j.op = 1 →
    j.inLen ≠ 0 → s.inDram j.src j.inLen = true → j.verified ((List.range j.inLen).map fun i => s.memByte (j.src + i)) = (zeOk, crc, out) → s.inDram
    j.dst out.length = true → s.inDram (s.jobAddr e) 64 = true → s.memOk → ∃ t, exec (.zeJobDone e) s = .next t ∧ t.rd (K.zesLastStatus e) = zeOk ∧
    t.rd (K.zesBytesOut e) = (s.rd (K.zesBytesOut e) + out.length) % 2 ^ 64 ∧ (∀ n, ¬ (s.jobAddr e + 40 ≤ n ∧ n < s.jobAddr e + 64) → memGet t.mem n =
    (if j.dst ≤ n ∧ n < j.dst + out.length then BitVec.ofNat 8 (nth out (n - j.dst)) else memGet s.mem n)) ∧ Frame (withSide [.free, .mem, .engines,
    .slip, .umbra]) (sideAnd [.fam (K.portBytesRead 0) 12, .fam (K.portBytesWritten 0) 12, .fam (K.zesBytesIn 0) 6, .fam (K.zesBytesOut 0) 6, .fam
    (K.zesEngineState 0) 6, .fam (K.zesEngineStatus 0) 6, .fam (K.zesErrorCount 0) 6, .fam (K.zesJobHead 0) 6, .fam (K.zesJobsDone 0) 6, .fam
    (K.zesLastStatus 0) 6, .fam (K.zesVerifyFails 0) 6, .one K.dramLastMapError, .one K.dramMapErrors, .one K.dramMemStatus, .one K.slipStatus]) s t) ∧
  (∀ (e : Nat) (j : ZeJob) (s : State), e < 6 → (s.ze e).job = some j → s.zeAwake = true → j.kind = 1 → j.op = 2 → j.inLen ≠ 0 → s.inDram j.src
    j.inLen = true → s.inDram (s.jobAddr e) 64 = true → s.memOk → ∃ t, exec (.zeJobDone e) s = .next t ∧ t.rd (K.zesLastStatus e) = (j.verified
    ((List.range j.inLen).map fun i => s.memByte (j.src + i))).1 ∧ (∀ n, ¬ (s.jobAddr e + 40 ≤ n ∧ n < s.jobAddr e + 64) → memGet t.mem n = memGet
    s.mem n) ∧ Frame (withSide [.free, .mem, .engines, .slip, .umbra]) (sideAnd [.fam (K.portBytesRead 0) 12, .fam (K.portBytesWritten 0) 12, .fam
    (K.zesBytesIn 0) 6, .fam (K.zesBytesOut 0) 6, .fam (K.zesEngineState 0) 6, .fam (K.zesEngineStatus 0) 6, .fam (K.zesErrorCount 0) 6, .fam
    (K.zesJobHead 0) 6, .fam (K.zesJobsDone 0) 6, .fam (K.zesLastStatus 0) 6, .fam (K.zesVerifyFails 0) 6, .one K.dramLastMapError, .one
    K.dramMapErrors, .one K.dramMemStatus, .one K.slipStatus]) s t) ∧
  (∀ (a : Acc) (e : Nat) (j : ZeJob) (s : State), s.writeStatus a (K.zesAbort e) = 0 → e < 6 → (s.ze e).job = some j → accVal a (K.zesAbort e) = 1 →
    j.kind = 1 → ∃ t, exec (.zeAbort a e) s = .next t ∧ (t.ze e).job = none ∧ t.rd (K.zesLastStatus e) = zeAborted ∧ t.rd (K.zesJobHead e) = (s.rd
    (K.zesJobHead e) + 1) % 2 ^ 32 ∧ (∀ d, d ≠ e → t.ze d = s.ze d) ∧ t.rd (K.pathLastStatus a.path) = 0 ∧ Frame (withSide [.free, .mem, .engines,
    .slip, .umbra]) (okSide a [.fam (K.portBytesWritten 0) 12, .fam (K.zesBytesIn 0) 6, .fam (K.zesBytesOut 0) 6, .fam (K.zesEngineState 0) 6, .fam
    (K.zesEngineStatus 0) 6, .fam (K.zesErrorCount 0) 6, .fam (K.zesJobHead 0) 6, .fam (K.zesJobsDone 0) 6, .fam (K.zesLastStatus 0) 6, .fam
    (K.zesVerifyFails 0) 6, .one K.dramLastMapError, .one K.dramMapErrors, .one K.dramMemStatus, .one K.slipStatus]) s t)

/-- O47. Two FABCLK after an event was raised it is delivered: a delivery to a task input that is not busy stands at it with the
event's lineage; one to a busy input is lost, with OVERRUN kept at the input and in the fabric and the loss counted. A TaskRoute
write that R418 allows and that names channels stores the route, and one that names none is refused with ERR_RANGE. A TaskCoincide
write stores its value. -/
def Obligations.EventFabricCommands : Prop :=
  (∀ (r : Raised) (i : Nat) (s : State), s.raised = [r] → r.hits = [(i, 1)] → s.taskBusy i = false → r.num ≠ Ev.whlStopReq → ∃ t, exec .eventDelivery
    s = .next t ∧ t.now = max s.now (r.stamp + 2) ∧ t.raised = [] ∧ t.tasks = s.tasks ++ [{ task := i, lineage := r.lineage, stamp := t.now }] ∧ t.rd
    K.fabOverruns = s.rd K.fabOverruns ∧ Frame (withSide [.clock]) (sideAnd [.fam (K.chDelivered 0) 256, .fam (K.chLastLineage 0) 256, .fam
    (K.winsWinStatus 0) 2, .one K.fabFabricStatus, .one K.fabOverruns, .span (K.taskCoincide 0) (K.taskCoincide 0 + 256), .span (K.taskOverrun 0)
    (K.taskOverrun 0 + 256)]) s t) ∧
  (∀ (r : Raised) (i : Nat) (s : State), s.raised = [r] → i < 256 → r.hits = [(i, 1)] → s.taskBusy i = true → r.num ≠ Ev.whlStopReq → ∃ t, exec
    .eventDelivery s = .next t ∧ t.raised = [] ∧ t.tasks = s.tasks ∧ t.rd K.fabOverruns = (s.rd K.fabOverruns + 1) % 2 ^ 32 ∧ t.bit K.fabFabricStatus
    0 = true ∧ t.rd (K.taskOverrun i) = 1 ∧ Frame (withSide [.clock]) (sideAnd [.fam (K.chDelivered 0) 256, .fam (K.chLastLineage 0) 256, .fam
    (K.winsWinStatus 0) 2, .one K.fabFabricStatus, .one K.fabOverruns, .span (K.taskCoincide 0) (K.taskCoincide 0 + 256), .span (K.taskOverrun 0)
    (K.taskOverrun 0 + 256)]) s t) ∧
  (∀ (r : Raised) (s : State), s.raised = [r] → r.hits = [] → r.num = Ev.whlStopReq → ∃ t, exec .eventDelivery s = .next t ∧ t.tasks = s.tasks ++
    [{ task := 0, lineage := 0, stamp := t.now }] ∧ t.raised = [] ∧ Frame (withSide [.clock]) (sideAnd [.fam (K.chDelivered 0) 256, .fam
    (K.chLastLineage 0) 256, .fam (K.winsWinStatus 0) 2, .one K.fabFabricStatus, .one K.fabOverruns, .span (K.taskCoincide 0) (K.taskCoincide 0 +
    256), .span (K.taskOverrun 0) (K.taskOverrun 0 + 256)]) s t) ∧
  (∀ (a : Acc) (i : Nat) (s : State), i < 256 → s.writeAllowed a (K.taskRoute i) = 0 → s.routeCheck a (routeChanged (s.rd (K.taskRoute i)) (accVal a
    (K.taskRoute i))) = 0 → s.writeFits a (K.taskRoute i) = 0 → routeValueOk (accVal a (K.taskRoute i)) = true → ∃ t, exec (.taskRoute a i) s = .next
    t ∧ t.rd (K.taskRoute i) = accVal a (K.taskRoute i) ∧ t.rd (K.pathLastStatus a.path) = 0 ∧ Frame [.regs] (okAnd a [.one (K.taskRoute i)]) s t) ∧
  (∀ (a : Acc) (i st : Nat) (s : State), i < 256 → s.writeAllowed a (K.taskRoute i) = 0 → s.routeCheck a (routeChanged (s.rd (K.taskRoute i)) (accVal
    a (K.taskRoute i))) = st → st ≠ 0 → exec (.taskRoute a i) s = .next (s.done a (K.taskRoute i) st)) ∧
  (∀ (a : Acc) (i : Nat) (s : State), i < 256 → s.writeAllowed a (K.taskRoute i) = 0 → s.routeCheck a (routeChanged (s.rd (K.taskRoute i)) (accVal a
    (K.taskRoute i))) = 0 → s.writeFits a (K.taskRoute i) = 0 → routeValueOk (accVal a (K.taskRoute i)) = false → exec (.taskRoute a i) s = .next
    (s.done a (K.taskRoute i) 8)) ∧
  (∀ (a : Acc) (i : Nat) (s : State), s.writeStatus a (K.taskCoincide i) = 0 → i < 256 → ∃ t, exec (.taskCoincide a i) s = .next t ∧ t.rd
    (K.taskCoincide i) = accVal a (K.taskCoincide i) ∧ t.rd (K.pathLastStatus a.path) = 0 ∧ Frame [.regs] (okAnd a [.one (K.taskCoincide i)]) s t)

/-- O48. A claim by a target's own path takes the highest eligible source out of the pending set with its Count, puts it in
service and holds it; with none it returns 1023 and counts a spurious claim; another path gets ERR_OWNER and 1023. Completing the
held source releases it, pending again if more has arrived; completing any other is refused with ERR_RANGE. Mask and Pending words
set and clear the bits written, for allotted sources; MaskSync reads 0 once all masks have settled. A hold-off ends at its time. -/
def Obligations.InterruptCommands : Prop :=
  (∀ (a : Acc) (g src : Nat) (s : State), g < 5 → s.readStatus a (K.tgtClaim g) = 0 → a.path = (if g = 4 then 0 else g + 1) → s.claimable g = some src
    → src < 512 → s.dev ≠ stFault → s.dev ≠ stFenced → ∃ t, exec (.claim a g) s = .next t ∧ t.rd (K.tgtHolding g) = src ∧ bitOf (t.rd (K.pendPending
    (src / 64))) (src % 64) = false ∧ bitOf (t.rd (K.pendInService (src / 64))) (src % 64) = true ∧ t.rd (K.srcCount src) = 0 ∧ t.rd (K.tgtClaims g) =
    (s.rd (K.tgtClaims g) + 1) % 2 ^ 64 ∧ tfind t.readData a.path = some (slotPart a (src + 2 ^ 24 * s.rd (K.srcCount src))) ∧ Frame [.regs, .reads,
    .irq] (okAnd a [.one (K.tgtHolding g), .one (K.tgtClaims g), .one (K.pendPending (src / 64)), .one (K.pendInService (src / 64)), .one (K.srcCount
    src), .one K.holdsHoldOffRunning]) s t) ∧
  (∀ (a : Acc) (g : Nat) (s : State), g < 4 → s.readStatus a (K.tgtClaim g) = 0 → a.path = g + 1 → s.claimable g = none → ∃ t, exec (.claim a g) s =
    .next t ∧ t.rd (K.tgtSpuriousClaims g) = (s.rd (K.tgtSpuriousClaims g) + 1) % 2 ^ 32 ∧ tfind t.readData a.path = some (slotPart a 1023) ∧ Frame
    [.regs, .reads] (okAnd a [.one (K.tgtSpuriousClaims g)]) s t) ∧
  (∀ (a : Acc) (g : Nat) (s : State), g < 5 → s.readStatus a (K.tgtClaim g) = 0 → a.path ≠ (if g = 4 then 0 else g + 1) → ∃ t, exec (.claim a g) s =
    .next t ∧ t.rd (K.pathLastStatus a.path) = 5 ∧ tfind t.readData a.path = some (slotPart a 1023) ∧ (∀ h, t.rd (K.tgtHolding h) = s.rd (K.tgtHolding
    h)) ∧ t.rd (K.tgtClaims g) = s.rd (K.tgtClaims g) ∧ Frame (withSide [.reads]) (accAnd []) s t) ∧
  (∀ (a : Acc) (g : Nat) (s : State), s.writeStatus a (K.tgtComplete g) = 0 → g < 5 → s.irqIdle g = false → accVal a (K.tgtComplete g) = s.rd
    (K.tgtHolding g) → s.rd (K.tgtHolding g) < 512 → ∃ t, exec (.complete a g) s = .next t ∧ t.rd (K.tgtHolding g) = 1023 ∧ bitOf (t.rd
    (K.pendInService (s.rd (K.tgtHolding g) / 64))) (s.rd (K.tgtHolding g) % 64) = false ∧ (s.rd (K.srcCount (s.rd (K.tgtHolding g))) ≠ 0 → bitOf
    (t.rd (K.pendPending (s.rd (K.tgtHolding g) / 64))) (s.rd (K.tgtHolding g) % 64) = true) ∧ t.rd (K.pathLastStatus a.path) = 0 ∧ Frame [.regs,
    .irq] (okAnd a [.one (K.tgtHolding g), .one (K.pendInService (s.rd (K.tgtHolding g) / 64)), .one (K.pendPending (s.rd (K.tgtHolding g) / 64))]) s
    t) ∧
  (∀ (a : Acc) (g : Nat) (s : State), g < 5 → s.writeStatus a (K.tgtComplete g) = 0 → s.irqIdle g = true ∨ accVal a (K.tgtComplete g) ≠ s.rd
    (K.tgtHolding g) → exec (.complete a g) s = .next (s.done a (K.tgtComplete g) 8)) ∧
  (∀ (a : Acc) (w : Nat) (s : State), s.writeStatus a (K.maskMaskSet w) = 0 → w < 8 → ∃ t, exec (.maskSet a w) s = .next t ∧ t.rd (K.maskMask w) =
    setBits (s.rd (K.maskMask w)) (accVal a (K.maskMaskSet w) &&& allottedMask w) ∧ t.maskSetAt = s.now + 1 ∧ t.rd (K.pathLastStatus a.path) = 0 ∧
    Frame [.regs, .irq] (okAnd a [.one (K.maskMask w)]) s t) ∧
  (∀ (a : Acc) (w : Nat) (s : State), s.writeStatus a (K.maskMaskClear w) = 0 → w < 8 → ∃ t, exec (.maskClearWord a w) s = .next t ∧ t.rd (K.maskMask
    w) = clearBits (s.rd (K.maskMask w)) (accVal a (K.maskMaskClear w)) ∧ t.rd (K.pathLastStatus a.path) = 0 ∧ Frame [.regs, .irq] (okAnd a [.one
    (K.maskMask w)]) s t) ∧
  (∀ (a : Acc) (w : Nat) (s : State), s.writeStatus a (K.pendPendingSet w) = 0 → w < 8 → ∃ t, exec (.pendingSet a w) s = .next t ∧ t.rd (K.pendPending
    w) = setBits (s.rd (K.pendPending w)) (accVal a (K.pendPendingSet w) &&& allottedMask w) ∧ t.rd (K.pathLastStatus a.path) = 0 ∧ Frame [.regs,
    .irq] (okAnd a [.one (K.pendPending w)]) s t) ∧
  (∀ (a : Acc) (w : Nat) (s : State), s.writeStatus a (K.pendPendingClear w) = 0 → w < 8 → ∃ t, exec (.pendingClear a w) s = .next t ∧ t.rd
    (K.pendPending w) = clearBits (s.rd (K.pendPending w)) (accVal a (K.pendPendingClear w)) ∧ t.rd (K.pathLastStatus a.path) = 0 ∧ Frame [.regs]
    (okAnd a [.one (K.pendPending w)]) s t) ∧
  (∀ (a : Acc) (s : State), s.readStatus a K.msyncMaskSync = 0 → s.masksSettled = true → ∃ t, exec (.maskSync a) s = .next t ∧ tfind t.readData a.path
    = some (slotPart a 0) ∧ t.rd (K.pathLastStatus a.path) = 0 ∧ Frame [.regs, .reads] (okAnd a []) s t) ∧
  (∀ (a : Acc) (s : State), s.readStatus a K.msyncMaskSync = 0 → s.masksSettled = false → ∃ t, exec (.maskSync a) s = .next t ∧ (∃ v, v ≠ 0 ∧ tfind
    t.readData a.path = some (slotPart a v)) ∧ t.rd (K.pathLastStatus a.path) = 0 ∧ Frame [.regs, .free, .reads] (okAnd a []) s t) ∧
  (∀ (g u : Nat) (s : State), g < 32 → tfind s.holdEnds g = some u → ∃ t, exec (.holdOffEnd g) s = .next t ∧ t.now = max s.now u ∧ bitOf (t.rd
    K.holdsHoldOffRunning) g = false ∧ tfind t.holdEnds g = none ∧ Frame [.clock, .regs, .irq] [.one K.holdsHoldOffRunning] s t)

/-- O49. A lane of a hunting port that locks is LOCKED and the first lock starts the port's 10 ms; a lane of an UP port that hunts
to rejoin asks the peer for its bit. A lane of an UP port that loses lock, or that breaks its fault policy, is retired, and the
rest goes on; four bad headers in one count are a transient fault. A lane map stands until the marker that puts both sides' maps
in force. LaneReadmit lets retired lanes hunt again, and leaves others alone. -/
def Obligations.LaneCommands : Prop :=
  (∀ (l : Nat) (s : State), l < 8 → s.skLaneState l = 1 → s.skTrain (l / 4) = 1 → ∃ t, exec (.laneLock l) s = .next t ∧ t.rd (K.laneLaneState l) = 2 ∧
    (t.skPort (l / 4)).firstLock = some ((s.skPort (l / 4)).firstLock.getD s.now) ∧ (∀ i, i ≠ l → t.skLane i = s.skLane i) ∧ Frame [.regs, .link]
    [.one (K.laneLaneState l)] s t) ∧
  (∀ (l : Nat) (s : State), l < 8 → s.skLaneState l = 1 → s.skTrain (l / 4) ≠ 1 → (s.skLane l).rejoin = true → ∃ t, exec (.laneLock l) s = .next t ∧
    t.rd (K.laneLaneState l) = 2 ∧ (t.skLane l).rejoin = false ∧ (t.skPort (l / 4)).asked = some (setBits (s.rd (K.spsRxLanes (l / 4))) (2 ^ (l % 4)))
    ∧ t.skl.out = s.skl.out ++ [.laneMap (l / 4) (setBits (s.rd (K.spsRxLanes (l / 4))) (2 ^ (l % 4)))] ∧ (∀ i, i ≠ l → t.skLane i = s.skLane i) ∧
    Frame [.regs, .link] [.one (K.laneLaneState l)] s t) ∧
  (∀ (l : Nat) (s : State), l < 8 → s.skLaneState l = 2 → s.skUp (l / 4) = true → bitOf (s.rd (K.spsRxLanes (l / 4))) (l % 4) = true → s.rd
    (K.spsRxState (l / 4)) ≠ 2 → clearBits (s.rd (K.spsRxLanes (l / 4))) (2 ^ (l % 4)) ≠ 0 → ∃ t, exec (.laneLockLost l) s = .next t ∧ t.rd
    (K.laneLaneState l) = 3 ∧ t.rd (K.spsRxLanes (l / 4)) = clearBits (s.rd (K.spsRxLanes (l / 4))) (2 ^ (l % 4)) ∧ t.rd K.fltRetiredCount = (s.rd
    K.fltRetiredCount + 1) % 2 ^ 16 ∧ t.rd K.fltLastRetiredUnit = calUnit (calLane l) ∧ (t.skPort (l / 4)).deaf = true ∧ (∀ i, i < 8 → i ≠ l → t.rd
    (K.laneLaneState i) = s.rd (K.laneLaneState i)) ∧ Frame (withSide [.link]) (sideAnd [.fam (K.laneFaultCount 0) 8, .fam (K.laneLaneState 0) 8, .fam
    (K.laneLastFaultTime 0) 8, .fam (K.laneTxMain 0) 8, .fam (K.laneTxPost 0) 8, .fam (K.laneTxPre 0) 8, .fam (K.spsLinkState 0) 2, .fam
    (K.spsPortStatus 0) 2, .fam (K.spsQueueDrops 0) 2, .fam (K.spsRxLanes 0) 2, .fam (K.spsRxState 0) 2, .fam (K.spsSpeed 0) 2, .fam (K.spsTrainState
    0) 2, .fam (K.spsTrainings 0) 2, .fam (K.spsTxLanes 0) 2, .fam (K.spsTxState 0) 2, .one K.fltFaultStatus, .one K.fltLastRetiredUnit, .one
    K.fltRetiredCount]) s t) ∧
  (∀ (l : Nat) (s : State), l < 8 → s.skLaneState l = 2 → s.skUp (l / 4) = false → s.skTrain (l / 4) = 1 → ∃ t, exec (.laneLockLost l) s = .next t ∧
    t.rd (K.laneLaneState l) = 1 ∧ Frame [.regs] [.one (K.laneLaneState l)] s t) ∧
  (∀ (l n : Nat) (s : State), l < 8 → s.skUp (l / 4) = true → bitOf (s.rd (K.spsRxLanes (l / 4))) (l % 4) = true → 4 ≤ n → (s.faultsIn (calUnit
    (calLane l)) (s.rd (K.spRetryWindow (l / 4)))).length + 1 ≤ s.rd (K.spRetryCount (l / 4)) → ∃ t, exec (.laneFault l n) s = .next t ∧ t.rd
    (K.laneHeaderErrors l) = (s.rd (K.laneHeaderErrors l) + n) % 2 ^ 32 ∧ t.rd K.fltTransientCount = (s.rd K.fltTransientCount + 1) % 2 ^ 32 ∧ t.rd
    (K.laneLaneState l) = s.rd (K.laneLaneState l) ∧ Frame (withSide [.link]) (sideAnd [.fam (K.laneFaultCount 0) 8, .fam (K.laneHeaderErrors 0) 8,
    .fam (K.laneLaneState 0) 8, .fam (K.laneLastFaultTime 0) 8, .fam (K.laneTxMain 0) 8, .fam (K.laneTxPost 0) 8, .fam (K.laneTxPre 0) 8, .fam
    (K.spsLinkState 0) 2, .fam (K.spsPortStatus 0) 2, .fam (K.spsQueueDrops 0) 2, .fam (K.spsRxLanes 0) 2, .fam (K.spsRxState 0) 2, .fam (K.spsSpeed
    0) 2, .fam (K.spsTrainState 0) 2, .fam (K.spsTrainings 0) 2, .fam (K.spsTxLanes 0) 2, .fam (K.spsTxState 0) 2, .one K.fltFaultStatus, .one
    K.fltLastRetiredUnit, .one K.fltRetiredCount, .one K.fltTransientCount]) s t) ∧
  (∀ (l n : Nat) (s : State), l < 8 → s.skUp (l / 4) = true → bitOf (s.rd (K.spsRxLanes (l / 4))) (l % 4) = true → 4 ≤ n → s.rd (K.spRetryCount (l /
    4)) = 0 → s.rd (K.spRetryWindow (l / 4)) ≠ 0 → clearBits (s.rd (K.spsRxLanes (l / 4))) (2 ^ (l % 4)) ≠ 0 → ∃ t, exec (.laneFault l n) s = .next t
    ∧ t.rd (K.laneLaneState l) = 3 ∧ t.rd (K.spsRxLanes (l / 4)) = clearBits (s.rd (K.spsRxLanes (l / 4))) (2 ^ (l % 4)) ∧ t.rd K.fltRetiredCount =
    (s.rd K.fltRetiredCount + 1) % 2 ^ 16 ∧ t.rd K.fltLastRetiredUnit = calUnit (calLane l) ∧ (t.skPort (l / 4)).deaf = true ∧ (∀ i, i < 8 → i ≠ l →
    t.rd (K.laneLaneState i) = s.rd (K.laneLaneState i)) ∧ Frame (withSide [.link]) (sideAnd [.fam (K.laneFaultCount 0) 8, .fam (K.laneHeaderErrors 0)
    8, .fam (K.laneLaneState 0) 8, .fam (K.laneLastFaultTime 0) 8, .fam (K.laneTxMain 0) 8, .fam (K.laneTxPost 0) 8, .fam (K.laneTxPre 0) 8, .fam
    (K.spsLinkState 0) 2, .fam (K.spsPortStatus 0) 2, .fam (K.spsQueueDrops 0) 2, .fam (K.spsRxLanes 0) 2, .fam (K.spsRxState 0) 2, .fam (K.spsSpeed
    0) 2, .fam (K.spsTrainState 0) 2, .fam (K.spsTrainings 0) 2, .fam (K.spsTxLanes 0) 2, .fam (K.spsTxState 0) 2, .one K.fltFaultStatus, .one
    K.fltLastRetiredUnit, .one K.fltRetiredCount, .one K.fltTransientCount]) s t) ∧
  (∀ (p mask : Nat) (s : State), p < 2 → s.skUp p = true → ∃ t, exec (.laneMap p mask) s = .next t ∧ (t.skPort p).wanted = some (mask % 16) ∧ t.rd
    (K.spsRxState p) = 0 ∧ (∀ q, q ≠ p → t.skPort q = s.skPort q) ∧ Frame [.regs, .link] [.one (K.spsRxState p)] s t) ∧
  (∀ (p : Nat) (s : State), p < 2 → s.skUp p = true → ∃ t, exec (.marker p) s = .next t ∧ t.rd (K.spsTxLanes p) = (s.skPort p).wanted.getD (s.rd
    (K.spsTxLanes p)) ∧ t.rd (K.spsRxLanes p) = (s.skPort p).asked.getD (s.rd (K.spsRxLanes p)) ∧ (t.skPort p).deaf = false ∧ (t.skPort p).wanted =
    none ∧ (t.skPort p).asked = none ∧ (∀ q, q ≠ p → t.skPort q = s.skPort q) ∧ Frame [.regs, .link] [.one (K.spsRxState p), .one (K.spsTxLanes p),
    .one (K.spsRxLanes p)] s t) ∧
  (∀ (a : Acc) (p : Nat) (s : State), s.writeStatus a (K.spsLaneReadmit p) = 0 → p < 2 → ∃ t, exec (.laneReadmit a p) s = .next t ∧ (∀ i, i < 4 →
    bitOf (accVal a (K.spsLaneReadmit p)) i = true → s.skLaneState (4 * p + i) = 3 → t.rd (K.laneLaneState (4 * p + i)) = 1 ∧ (t.skLane (4 * p +
    i)).rejoin = true) ∧ (∀ i, i < 4 → s.skLaneState (4 * p + i) ≠ 3 → t.rd (K.laneLaneState (4 * p + i)) = s.rd (K.laneLaneState (4 * p + i)) ∧
    t.skLane (4 * p + i) = s.skLane (4 * p + i)) ∧ t.rd (K.pathLastStatus a.path) = 0 ∧ Frame (withSide [.link]) (okSide a [.fam (K.laneLaneState 0)
    8, .one K.fltRetiredCount]) s t)

/-- O50. Retrain hunts from the lowest speed. HUNT ends 10 ms after the first lock with the lanes locked; CAP keeps the lanes both
have and tries the next common speed, or aligns; the switch to a speed that locks starts TUNE with the recommended taps, and one
that does not falls back. A training block answers the peer's tap request; a request without answer for 2 ms and a TUNE that lasts
too long fall back. CHECK without errors offers the next speed; ALIGN within 64 block times takes the link UP. -/
def Obligations.TrainingCommands : Prop :=
  (∀ (a : Acc) (p : Nat) (s : State), s.writeStatus a (K.spsRetrain p) = 0 → p < 2 → accVal a (K.spsRetrain p) = 1 → s.on (K.spPortEnable p) = true →
    ∃ t, exec (.retrain a p) s = .next t ∧ t.rd (K.spsLinkState p) = 2 ∧ t.rd (K.spsTrainState p) = 1 ∧ t.rd (K.spsSpeed p) = 0 ∧ t.rd (K.spsRxLanes
    p) = 0 ∧ t.rd (K.spsTxLanes p) = 0 ∧ t.rd (K.spsTrainings p) = (s.rd (K.spsTrainings p) + 1) % 2 ^ 32 ∧ (t.skPort p).fell = false ∧ (∀ q, q ≠ p →
    t.skPort q = s.skPort q) ∧ t.rd (K.pathLastStatus a.path) = 0 ∧ Frame (withSide [.link]) (okSide a [.fam (K.laneLaneState 0) 8, .fam (K.laneTxMain
    0) 8, .fam (K.laneTxPost 0) 8, .fam (K.laneTxPre 0) 8, .fam (K.spsLinkState 0) 2, .fam (K.spsRxLanes 0) 2, .fam (K.spsRxState 0) 2, .fam
    (K.spsSpeed 0) 2, .fam (K.spsTrainState 0) 2, .fam (K.spsTrainings 0) 2, .fam (K.spsTxLanes 0) 2, .fam (K.spsTxState 0) 2]) s t) ∧
  (∀ (p u : Nat) (s : State), p < 2 → (s.skPort p).firstLock = some u → s.skTrain p = 1 → ∃ t, exec (.sklHuntDone p) s = .next t ∧ t.rd
    (K.spsTrainState p) = 2 ∧ t.now = max s.now (u + ms 10) ∧ (∀ i, i < 4 → bitOf (t.skPort p).lanes i = (s.skLaneState (4 * p + i) == 2)) ∧ (∀ i, i <
    4 → t.rd (K.laneLaneState (4 * p + i)) = (if s.skLaneState (4 * p + i) = 2 then 2 else 0)) ∧ (∀ q, q ≠ p → t.skPort q = s.skPort q) ∧ Frame
    [.clock, .regs, .link] [.fam (K.laneLaneState 0) 8, .fam (K.spsTrainState 0) 2] s t) ∧
  (∀ (p v : Nat) (c : SklCap) (s : State), p < 2 → s.skTrain p = 2 → (s.skPort p).lanes &&& c.lanes ≠ 0 → s.nextSpeed p c.speeds = some v → ∃ t, exec
    (.sklCapDone p c) s = .next t ∧ t.rd (K.spsTrainState p) = 3 ∧ (t.skPort p).lanes = (s.skPort p).lanes &&& c.lanes ∧ (t.skPort p).peer = some
    c.node ∧ (t.skPort p).prev = s.rd (K.spsSpeed p) ∧ (t.skPort p).next = v ∧ (∀ q, q ≠ p → t.skPort q = s.skPort q) ∧ Frame [.regs, .link] [.fam
    (K.laneLaneState 0) 8, .fam (K.laneTxMain 0) 8, .fam (K.laneTxPost 0) 8, .fam (K.laneTxPre 0) 8, .fam (K.spsLinkState 0) 2, .fam (K.spsRxLanes 0)
    2, .fam (K.spsSpeed 0) 2, .fam (K.spsTrainState 0) 2, .fam (K.spsTxLanes 0) 2] s t) ∧
  (∀ (p : Nat) (c : SklCap) (s : State), p < 2 → s.skTrain p = 2 → (s.skPort p).lanes &&& c.lanes ≠ 0 → s.nextSpeed p c.speeds = none → ∃ t, exec
    (.sklCapDone p c) s = .next t ∧ t.rd (K.spsTrainState p) = 6 ∧ (t.skPort p).lanes = (s.skPort p).lanes &&& c.lanes ∧ (∀ q, q ≠ p → t.skPort q =
    s.skPort q) ∧ Frame [.regs, .link] [.fam (K.laneLaneState 0) 8, .fam (K.laneTxMain 0) 8, .fam (K.laneTxPost 0) 8, .fam (K.laneTxPre 0) 8, .fam
    (K.spsLinkState 0) 2, .fam (K.spsRxLanes 0) 2, .fam (K.spsSpeed 0) 2, .fam (K.spsTrainState 0) 2, .fam (K.spsTxLanes 0) 2] s t) ∧
  (∀ (p : Nat) (c : SklCap) (s : State), p < 2 → s.skTrain p = 2 → (s.skPort p).lanes &&& c.lanes = 0 → ∃ t, exec (.sklCapDone p c) s = .next t ∧ t.rd
    (K.spsLinkState p) = 2 ∧ t.rd (K.spsTrainState p) = 1 ∧ t.rd (K.spsSpeed p) = 0 ∧ t.rd (K.spsRxLanes p) = 0 ∧ t.rd (K.spsTxLanes p) = 0 ∧ Frame
    [.regs, .link] [.fam (K.laneLaneState 0) 8, .fam (K.laneTxMain 0) 8, .fam (K.laneTxPost 0) 8, .fam (K.laneTxPre 0) 8, .fam (K.spsLinkState 0) 2,
    .fam (K.spsRxLanes 0) 2, .fam (K.spsSpeed 0) 2, .fam (K.spsTrainState 0) 2, .fam (K.spsTxLanes 0) 2] s t) ∧
  (∀ (p : Nat) (s : State), p < 2 → s.skTrain p = 3 → ∃ t, exec (.sklSwitchDone p true) s = .next t ∧ t.rd (K.spsSpeed p) = (s.skPort p).next ∧ t.rd
    (K.spsTrainState p) = 4 ∧ (t.skPort p).tuneAt = s.now ∧ (∀ i, i < 4 → bitOf (s.skPort p).lanes i = true → t.rd (K.laneTxPre (4 * p + i)) = 4 ∧
    t.rd (K.laneTxMain (4 * p + i)) = 47 ∧ t.rd (K.laneTxPost (4 * p + i)) = 12) ∧ (∀ q, q ≠ p → t.skPort q = s.skPort q) ∧ Frame [.regs, .link] [.one
    (K.spsSpeed p), .one (K.spsTrainState p), .fam (K.laneTxPre 0) 8, .fam (K.laneTxMain 0) 8, .fam (K.laneTxPost 0) 8] s t) ∧
  (∀ (p : Nat) (s : State), p < 2 → s.skTrain p = 3 → ∃ t, exec (.sklSwitchDone p false) s = .next t ∧ t.rd (K.spsSpeed p) = (s.skPort p).prev ∧ t.rd
    (K.spsTrainState p) = 6 ∧ (t.skPort p).fell = true ∧ t.bit (K.spsPortStatus p) 2 = true ∧ (∀ q, q ≠ p → t.skPort q = s.skPort q) ∧ Frame (withSide
    [.link]) (sideAnd [.fam (K.laneTxMain 0) 8, .fam (K.laneTxPost 0) 8, .fam (K.laneTxPre 0) 8, .fam (K.spsPortStatus 0) 2, .fam (K.spsSpeed 0) 2,
    .fam (K.spsTrainState 0) 2]) s t) ∧
  (∀ (l : Nat) (b : TrainBlock) (s : State), l < 8 → s.skTrain (l / 4) = 4 → bitOf (s.skPort (l / 4)).lanes (l % 4) = true → b.eye = none → b.ready =
    false → b.request % 128 = 0 → ∃ t, exec (.trainBlock l b) s = .next t ∧ (t.skLane l).answer = 0 ∧ (t.skLane l).peerReady = false ∧ (t.skLane
    l).asked = ((s.skLane l).ask s.now b.answer b.own).asked ∧ (t.skLane l).resting = ((s.skLane l).ask s.now b.answer b.own).resting ∧ t.rd
    (K.spsTrainState (l / 4)) = 4 ∧ (∀ i, i ≠ l → t.skLane i = s.skLane i) ∧ Frame [.regs, .link] [.one (K.spsTrainState (l / 4))] s t) ∧
  (∀ (l eye : Nat) (b : TrainBlock) (s : State), l < 8 → s.skTrain (l / 4) = 4 → bitOf (s.skPort (l / 4)).lanes (l % 4) = true → b.eye = some eye → 12
    ≤ eye → (s.skLane l).ready = false → ∃ t, exec (.trainBlock l b) s = .next t ∧ (t.skLane l).ready = true ∧ (t.skLane l).peerReady = b.ready ∧
    (t.skLane l).asked = none ∧ (∀ i, i ≠ l → t.skLane i = s.skLane i) ∧ Frame (withSide [.boot, .link]) (sideAnd [.fam (K.laneTxMain 0) 8, .fam
    (K.laneTxPost 0) 8, .fam (K.laneTxPre 0) 8, .fam (K.spsPortStatus 0) 2, .fam (K.spsSpeed 0) 2, .fam (K.spsTrainState 0) 2, .one K.calCalStatus]) s
    t) ∧
  (∀ (l u p : Nat) (s : State), l < 8 → p = l / 4 → (s.skLane l).asked = some u → s.skTrain p = 4 → ∃ t, exec (.tapRequestTimeout l) s = .next t ∧
    t.now = max s.now (u + ms 2) ∧ t.rd (K.spsSpeed p) = (s.skPort p).prev ∧ t.rd (K.spsTrainState p) = 6 ∧ (t.skPort p).fell = true ∧ t.bit
    (K.spsPortStatus p) 2 = true ∧ Frame (withSide [.clock, .link]) (sideAnd [.fam (K.laneTxMain 0) 8, .fam (K.laneTxPost 0) 8, .fam (K.laneTxPre 0)
    8, .fam (K.spsPortStatus 0) 2, .fam (K.spsSpeed 0) 2, .fam (K.spsTrainState 0) 2]) s t) ∧
  (∀ (l p : Nat) (s : State), l < 8 → p = l / 4 → s.skTrain p = 4 → bitOf (s.skPort p).lanes (l % 4) = true → (s.skLane l).ready = false → ∃ t, exec
    (.tuneTimeout l) s = .next t ∧ t.now = max s.now ((s.skPort p).tuneAt + ms (s.rd (K.spTuneTimeout p))) ∧ t.rd (K.spsSpeed p) = (s.skPort p).prev ∧
    t.rd (K.spsTrainState p) = 6 ∧ (t.skPort p).fell = true ∧ t.bit (K.spsPortStatus p) 2 = true ∧ Frame (withSide [.clock, .boot, .link]) (sideAnd
    [.fam (K.laneTxMain 0) 8, .fam (K.laneTxPost 0) 8, .fam (K.laneTxPre 0) 8, .fam (K.spsPortStatus 0) 2, .fam (K.spsSpeed 0) 2, .fam
    (K.spsTrainState 0) 2, .one K.calCalStatus]) s t) ∧
  (∀ (p : Nat) (errors : List Nat) (s : State), p < 2 → s.skTrain p = 5 → errors.all (· == 0) = true → ∃ t, exec (.sklCheckDone p errors) s = .next t
    ∧ t.rd (K.spsTrainState p) = 2 ∧ (∀ q, q ≠ p → t.skPort q = s.skPort q) ∧ Frame [.regs] [.one (K.spsTrainState p), .fam (K.laneHeaderErrors 0) 8]
    s t) ∧
  (∀ (p : Nat) (errors : List Nat) (s : State), p < 2 → s.skTrain p = 5 → errors.all (· == 0) = false → ∃ t, exec (.sklCheckDone p errors) s = .next t
    ∧ (∀ i, i < 4 → t.rd (K.laneHeaderErrors (4 * p + i)) = (s.rd (K.laneHeaderErrors (4 * p + i)) + nth errors i) % 2 ^ 32) ∧ t.rd (K.spsSpeed p) =
    (s.skPort p).prev ∧ t.rd (K.spsTrainState p) = 6 ∧ (t.skPort p).fell = true ∧ t.bit (K.spsPortStatus p) 2 = true ∧ (∀ q, q ≠ p → t.skPort q =
    s.skPort q) ∧ Frame (withSide [.link]) (sideAnd [.fam (K.laneHeaderErrors 0) 8, .fam (K.laneTxMain 0) 8, .fam (K.laneTxPost 0) 8, .fam
    (K.laneTxPre 0) 8, .fam (K.spsPortStatus 0) 2, .fam (K.spsSpeed 0) 2, .fam (K.spsTrainState 0) 2]) s t) ∧
  (∀ (p : Nat) (skews : List Nat) (s : State), p < 2 → s.skTrain p = 6 → skews.any (Nat.blt 64) = false → ∃ t, exec (.sklAlignDone p skews false) s =
    .next t ∧ t.rd (K.spsLinkState p) = 3 ∧ t.rd (K.spsTrainState p) = 7 ∧ t.rd (K.spsRxLanes p) = (s.skPort p).lanes ∧ t.rd (K.spsTxLanes p) =
    (s.skPort p).lanes ∧ t.rd (K.spsLastTrainTime p) = s.time ∧ (∀ i, i < 4 → bitOf (s.skPort p).lanes i = true → t.rd (K.laneSkew (4 * p + i)) = nth
    skews i) ∧ (∀ q, q ≠ p → t.skPort q = s.skPort q) ∧ Frame (withSide [.link]) (sideAnd [.fam (K.laneLaneState 0) 8, .fam (K.laneSkew 0) 8, .fam
    (K.laneTxMain 0) 8, .fam (K.laneTxPost 0) 8, .fam (K.laneTxPre 0) 8, .fam (K.spsLastTrainTime 0) 2, .fam (K.spsLinkState 0) 2, .fam (K.spsRxLanes
    0) 2, .fam (K.spsSpeed 0) 2, .fam (K.spsTrainState 0) 2, .fam (K.spsTxLanes 0) 2]) s t) ∧
  (∀ (p : Nat) (skews : List Nat) (failed : Bool) (s : State), p < 2 → s.skTrain p = 6 → failed = true ∨ skews.any (Nat.blt 64) = true → ∃ t, exec
    (.sklAlignDone p skews failed) s = .next t ∧ t.rd (K.spsLinkState p) = 2 ∧ t.rd (K.spsTrainState p) = 1 ∧ t.rd (K.spsSpeed p) = 0 ∧ t.rd
    (K.spsRxLanes p) = 0 ∧ t.rd (K.spsTxLanes p) = 0 ∧ (∀ q, q ≠ p → t.skPort q = s.skPort q) ∧ Frame (withSide [.link]) (sideAnd [.fam
    (K.laneLaneState 0) 8, .fam (K.laneSkew 0) 8, .fam (K.laneTxMain 0) 8, .fam (K.laneTxPost 0) 8, .fam (K.laneTxPre 0) 8, .fam (K.spsLastTrainTime
    0) 2, .fam (K.spsLinkState 0) 2, .fam (K.spsRxLanes 0) 2, .fam (K.spsSpeed 0) 2, .fam (K.spsTrainState 0) 2, .fam (K.spsTxLanes 0) 2]) s t)

/-- O51. A direction with nothing to send for SleepIdle µs sends 8 SLEEP blocks and is asleep; a message that became ready in the
same FABCLK refuses the sleep and is counted. A message ready after that wakes it, with the IDLE blocks and the marker, once the
sleep has completed. A SLEEP block shows the receiver asleep. -/
def Obligations.LinkSleepCommands : Prop :=
  (∀ (p : Nat) (s : State), p < 2 → s.skUp p = true → s.on (K.spSleepEnable p) = true → s.rd (K.spsTxState p) ≠ 2 → (s.skPort p).idle = true → ∃ t,
    exec (.sleepIdle p) s = .next t ∧ t.now = max s.now ((s.skPort p).idleAt + us (s.rd (K.spSleepIdle p))) ∧ t.rd (K.spsTxState p) = 2 ∧ (t.skPort
    p).txFrom = t.now + blocksTime (s.rd (K.spsSpeed p)) 8 ∧ t.skl.out = s.skl.out ++ [.sleep p] ∧ (∀ q, q ≠ p → t.skPort q = s.skPort q) ∧ Frame
    (withSide [.clock, .link]) (sideAnd [.one (K.spsTxState p)]) s t) ∧
  (∀ (p : Nat) (s : State), p < 2 → s.skUp p = true → s.on (K.spSleepEnable p) = true → s.rd (K.spsTxState p) ≠ 2 → (s.skPort p).idle = false →
    (s.skPort p).readyAt = max ((s.skPort p).idleAt + us (s.rd (K.spSleepIdle p))) s.now → ∃ t, exec (.sleepIdle p) s = .next t ∧ t.rd
    (K.spsSleepRefused p) = (s.rd (K.spsSleepRefused p) + 1) % 2 ^ 32 ∧ t.rd (K.spsTxState p) = s.rd (K.spsTxState p) ∧ t.skl = s.skl ∧ Frame [.clock,
    .regs] [.one (K.spsSleepRefused p)] s t) ∧
  (∀ (p : Nat) (s : State), p < 2 → s.skUp p = true → ∃ t, exec (.sleepBlock p) s = .next t ∧ t.rd (K.spsRxState p) = 2 ∧ Frame [.regs] [.one
    (K.spsRxState p)] s t) ∧
  (∀ (p : Nat) (s : State), p < 2 → s.skUp p = true → s.rd (K.spsTxState p) = 2 → (s.skPort p).idle = false → ∃ t, exec (.directionWake p) s = .next t
    ∧ t.now = max s.now (s.skPort p).txFrom ∧ t.rd (K.spsTxState p) = 3 ∧ t.rd (K.spsWakes p) = (s.rd (K.spsWakes p) + 1) % 2 ^ 32 ∧ (t.skPort
    p).txFrom = t.now + blocksTime (s.rd (K.spsSpeed p)) (s.rd (K.spWakeBlocks p) + 1) ∧ (∀ q, q ≠ p → t.skPort q = s.skPort q) ∧ Frame (withSide
    [.clock, .link]) (sideAnd [.one (K.spsTxState p), .one (K.spsWakes p)]) s t)

/-- O52. The first message of the highest class that waits on an UP, awake port leaves when the transmitter is free, stamped if it
is a time message, and is counted. LNK_SEND turns a delivery into an EVT message by its route, and without a route counts
NO_ROUTE. A heartbeat goes out on every UP port each HeartbeatPeriod. A route not refreshed and a Sequence not heard are forgotten
at their times; a BULK message that waits 1 ms is dropped and counted. -/
def Obligations.MessageTransmitCommands : Prop :=
  (∀ (p c : Nat) (m : SkMsg) (s : State), p < 2 → s.skUp p = true → s.rd (K.spsTxState p) ≠ 2 → classOrder.findSome? (fun c => ((s.skPort p).queue
    c).head?.map fun m => (c, m)) = some (c, m) → ∃ t, exec (.msgTransmit p) s = .next t ∧ t.now = max s.now (s.skPort p).txFrom ∧ t.rd (K.spsTxState
    p) = 0 ∧ t.rd (K.spsMsgSent p) = (s.rd (K.spsMsgSent p) + 1) % 2 ^ 64 ∧ t.skl.out = s.skl.out ++ [.msg p ((s.at (s.skPort p).txFrom).stampOut
    m).1] ∧ Frame [.clock, .time, .regs, .link] [.one (K.spsTxState p), .one (K.spsMsgSent p)] s t) ∧
  (∀ (k : Nat) (d : Delivery) (u : State) (s : State), k < 32 → s.takeTask (32 + k) = some (d, u) → bitOf (s.rd (K.srtSendRoute k)) 30 = true → bitOf
    (s.rd (K.srtSendRoute k)) 31 = true → s.dev ≠ stFenced → ∃ t, exec (.lnkSend k) s = .next t ∧ t.tasks = u.tasks ∧ (∀ p, p < 2 → s.skUp p = true →
    ((s.skPort p).queue 2).length < classDepth 2 → (t.skPort p).queue 2 = (s.skPort p).queue 2 ++
    [{ cls := 2, flags := 1, source := s.rd K.sklNodeId, dest := 0xFFFF, epoch := s.rd K.sklRoleEpoch, role := s.rd K.sklRole, lineage := d.lineage, seq := (s.skl.seq + 1) % 2 ^ 32, payload := [s.rd (K.srtSendRoute k) % 32, 0, 0, 0, 0, 0, 0, 0] ++ leBytes 8 s.timeNs }])
    ∧ Frame (withSide [.link]) (sideAnd [.fam (K.spsPortStatus 0) 2, .fam (K.spsQueueDrops 0) 2, .one K.sklLinkStatus, .one K.sklNoRoute]) s t) ∧
  (∀ (k : Nat) (d : Delivery) (u : State) (r : Route) (s : State), k < 32 → s.takeTask (32 + k) = some (d, u) → bitOf (s.rd (K.srtSendRoute k)) 30 =
    true → bitOf (s.rd (K.srtSendRoute k)) 31 = false → s.dev ≠ stFenced → s.route (field (s.rd (K.srtSendRoute k)) 27 16) = some r → ((s.skPort
    r.port).queue 2).length < classDepth 2 → ∃ t, exec (.lnkSend k) s = .next t ∧ t.tasks = u.tasks ∧ (t.skPort r.port).queue 2 = (s.skPort
    r.port).queue 2 ++
    [{ cls := 2, flags := 0, source := s.rd K.sklNodeId, dest := field (s.rd (K.srtSendRoute k)) 27 16, epoch := s.rd K.sklRoleEpoch, role := s.rd K.sklRole, lineage := d.lineage, seq := (s.skl.seq + 1) % 2 ^ 32, payload := [s.rd (K.srtSendRoute k) % 32, 0, 0, 0, 0, 0, 0, 0] ++ leBytes 8 s.timeNs }]
    ∧ Frame (withSide [.link]) (sideAnd [.fam (K.spsPortStatus 0) 2, .fam (K.spsQueueDrops 0) 2, .one K.sklLinkStatus, .one K.sklNoRoute]) s t) ∧
  (∀ (k : Nat) (d : Delivery) (u : State) (s : State), k < 32 → s.takeTask (32 + k) = some (d, u) → bitOf (s.rd (K.srtSendRoute k)) 30 = true → bitOf
    (s.rd (K.srtSendRoute k)) 31 = false → s.dev ≠ stFenced → s.route (field (s.rd (K.srtSendRoute k)) 27 16) = none → ∃ t, exec (.lnkSend k) s =
    .next t ∧ t.rd K.sklNoRoute = (s.rd K.sklNoRoute + 1) % 2 ^ 32 ∧ t.bit K.sklLinkStatus 3 = true ∧ t.skl = s.skl ∧ Frame (withSide [.link])
    (sideAnd [.fam (K.spsPortStatus 0) 2, .fam (K.spsQueueDrops 0) 2, .one K.sklLinkStatus, .one K.sklNoRoute]) s t) ∧
  (∀ (s : State), s.dev ≠ stReset → s.dev ≠ stBoot → ∃ t, exec .heartbeatSend s = .next t ∧ t.now = max s.now (s.skl.beatAt + s.beatPeriod) ∧
    t.skl.beatAt = t.now ∧ (∀ p, p < 2 → s.skUp p = true → ((s.skPort p).queue 6).length < classDepth 6 → (t.skPort p).queue 6 = (s.skPort p).queue 6
    ++
    [{ cls := 6, flags := 1, source := s.rd K.sklNodeId, dest := 0xFFFF, epoch := s.rd K.sklRoleEpoch, role := s.rd K.sklRole, lineage := 0, seq := (s.skl.seq + 1) % 2 ^ 32, payload := [1, s.dev, 0, 0] ++ leBytes 2 (s.rd K.sklHeartbeatPeriod) ++ [0, 0] }])
    ∧ Frame (withSide [.clock, .link]) (sideAnd [.fam (K.spsPortStatus 0) 2, .fam (K.spsQueueDrops 0) 2]) s t) ∧
  (∀ (node : Nat) (r : Route) (s : State), s.route node = some r → ∃ t, exec (.routeExpiry node) s = .next t ∧ t.now = max s.now (r.heard + ms (3 *
    s.rd K.sklHeartbeatPeriod)) ∧ t.route node = none ∧ (∀ n, n ≠ node → t.route n = s.route n) ∧ Frame [.clock, .link] [] s t) ∧
  (∀ (i : Nat) (e : Nat × Nat) (s : State), tfind s.skl.last i = some e → ∃ t, exec (.seqExpiry i) s = .next t ∧ t.now = max s.now (e.2 + ms (s.rd
    K.sklSeqExpiry)) ∧ tfind t.skl.last i = none ∧ (∀ n, n ≠ i → tfind t.skl.last n = tfind s.skl.last n) ∧ Frame [.clock, .link] [] s t) ∧
  (∀ (w : SklWait) (s : State), s.skl.waits.find? (fun w => w.msg.cls == 5) = some w → ∃ t, exec .bulkWaitTimeout s = .next t ∧ t.now = max s.now
    (w.since + ms 1) ∧ t.skl.waits = s.skl.waits.erase w ∧ t.rd (K.spsQueueDrops w.port) = (s.rd (K.spsQueueDrops w.port) + 1) % 2 ^ 32 ∧ Frame
    (withSide [.clock, .link]) (sideAnd [.one (K.spsQueueDrops w.port), .one (K.spsPortStatus w.port)]) s t)

/-- O53. A message that fails a check of R454 is dropped, counted and flagged. One under a stale epoch is dropped and counted. A
good unicast to this node is delivered; one to another node is forwarded on its route's port with one hop more, and without a
route is counted. A new broadcast is delivered, and its source's Sequence and route are kept. -/
def Obligations.MessageReceiveCommand : Prop :=
  (∀ (p : Nat) (m : Msg) (s : State), p < 2 → s.skUp p = true → (s.skPort p).deaf = false → goodMsg m = false → ∃ t, exec (.msgReceived p m) s = .next
    t ∧ t.rd (K.spsCrcErrors p) = (s.rd (K.spsCrcErrors p) + 1) % 2 ^ 32 ∧ t.bit (K.spsPortStatus p) 3 = true ∧ t.skl = s.skl ∧ Frame sideParts
    (sideAnd [.one (K.spsCrcErrors p), .one (K.spsPortStatus p), .one (K.spsRxState p)]) s t) ∧
  (∀ (p : Nat) (m : Msg) (s : State), p < 2 → s.skUp p = true → (s.skPort p).deaf = false → goodMsg m = true → m.role < 4096 → m.epoch < s.epochOf
    m.role → ∃ t, exec (.msgReceived p m) s = .next t ∧ t.rd K.sklStaleDrops = (s.rd K.sklStaleDrops + 1) % 2 ^ 32 ∧ t.bit K.sklLinkStatus 0 = true ∧
    t.skl.inbox = s.skl.inbox ∧ t.skl.last = s.skl.last ∧ t.rd (K.spsMsgReceived p) = (s.rd (K.spsMsgReceived p) + 1) % 2 ^ 64 ∧ t.rd (K.spsRxState p)
    = 0 ∧ Frame (withSide [.domains, .link]) (sideAnd [.fam (K.spsCrcErrors 0) 2, .fam (K.spsMsgReceived 0) 2, .fam (K.spsPortStatus 0) 2, .fam
    (K.spsQueueDrops 0) 2, .fam (K.spsRxState 0) 2, .one K.sklLinkStatus, .one K.sklNoRoute, .one K.sklStaleDrops]) s t) ∧
  (∀ (p : Nat) (m : Msg) (s : State), p < 2 → s.skUp p = true → (s.skPort p).deaf = false → goodMsg m = true → m.role = 0xFFFF → m.cls ≠ 3 → bitOf
    m.flags 0 = false → m.dest = s.rd K.sklNodeId → s.dev ≠ stFenced ∨ m.cls = 4 → ∃ t, exec (.msgReceived p m) s = .next t ∧ t.skl.inbox =
    s.skl.inbox ++ [(p, innerMsg m, m.stamp)] ∧ t.skl.ports = s.skl.ports ∧ t.rd (K.spsMsgReceived p) = (s.rd (K.spsMsgReceived p) + 1) % 2 ^ 64 ∧
    t.rd (K.spsRxState p) = 0 ∧ Frame [.regs, .link] [.one (K.spsMsgReceived p), .one (K.spsRxState p)] s t) ∧
  (∀ (p : Nat) (m : Msg) (s : State), p < 2 → s.skUp p = true → (s.skPort p).deaf = false → goodMsg m = true → m.role = 0xFFFF → m.cls = 3 → s.dev ≠
    stFenced → ∃ t, exec (.msgReceived p m) s = .next t ∧ t.skl.inbox = s.skl.inbox ++ [(p, innerMsg m, m.stamp)] ∧ t.rd (K.spsMsgReceived p) = (s.rd
    (K.spsMsgReceived p) + 1) % 2 ^ 64 ∧ t.rd (K.spsRxState p) = 0 ∧ Frame [.regs, .link] [.one (K.spsMsgReceived p), .one (K.spsRxState p)] s t) ∧
  (∀ (p : Nat) (m : Msg) (r : Route) (s : State), p < 2 → s.skUp p = true → (s.skPort p).deaf = false → goodMsg m = true → m.role = 0xFFFF → m.cls ≠ 3
    → bitOf m.flags 0 = false → m.dest ≠ s.rd K.sklNodeId → s.route m.dest = some r → r.port ≠ p → m.hops < s.rd K.sklHopLimit → s.skUp r.port = true
    → ((s.skPort r.port).queue m.cls).length < classDepth m.cls → m.cls ≠ 1 → ∃ t, exec (.msgReceived p m) s = .next t ∧ (t.skPort r.port).queue m.cls
    = (s.skPort r.port).queue m.cls ++ [{ innerMsg m with hops := m.hops + 1 }] ∧ t.skl.inbox = s.skl.inbox ∧ t.rd (K.spsMsgReceived p) = (s.rd
    (K.spsMsgReceived p) + 1) % 2 ^ 64 ∧ t.rd (K.spsRxState p) = 0 ∧ Frame [.regs, .link] [.one (K.spsMsgReceived p), .one (K.spsRxState p)] s t) ∧
  (∀ (p : Nat) (m : Msg) (s : State), p < 2 → s.skUp p = true → (s.skPort p).deaf = false → goodMsg m = true → m.role = 0xFFFF → m.cls ≠ 3 → bitOf
    m.flags 0 = false → m.dest ≠ s.rd K.sklNodeId → s.route m.dest = none → ∃ t, exec (.msgReceived p m) s = .next t ∧ t.rd K.sklNoRoute = (s.rd
    K.sklNoRoute + 1) % 2 ^ 32 ∧ t.skl = s.skl ∧ t.rd (K.spsMsgReceived p) = (s.rd (K.spsMsgReceived p) + 1) % 2 ^ 64 ∧ t.rd (K.spsRxState p) = 0 ∧
    Frame (withSide [.domains, .link]) (sideAnd [.fam (K.spsCrcErrors 0) 2, .fam (K.spsMsgReceived 0) 2, .fam (K.spsPortStatus 0) 2, .fam
    (K.spsQueueDrops 0) 2, .fam (K.spsRxState 0) 2, .one K.sklLinkStatus, .one K.sklNoRoute, .one K.sklStaleDrops]) s t) ∧
  (∀ (p : Nat) (m : Msg) (s : State), p < 2 → s.skUp p = true → (s.skPort p).deaf = false → goodMsg m = true → m.role = 0xFFFF → m.cls ≠ 3 → bitOf
    m.flags 0 = true → m.source ≠ s.rd K.sklNodeId → tfind s.skl.last m.source = none → s.dev ≠ stFenced → ∃ t, exec (.msgReceived p m) s = .next t ∧
    t.skl.inbox = s.skl.inbox ++ [(p, innerMsg m, m.stamp)] ∧ tfind t.skl.last m.source = some (m.seq, s.now) ∧ t.route m.source = some
    { port := p, hops := m.hops, heard := s.now } ∧ t.rd (K.spsMsgReceived p) = (s.rd (K.spsMsgReceived p) + 1) % 2 ^ 64 ∧ t.rd (K.spsRxState p) = 0 ∧
    Frame (withSide [.domains, .link]) (sideAnd [.fam (K.spsCrcErrors 0) 2, .fam (K.spsMsgReceived 0) 2, .fam (K.spsPortStatus 0) 2, .fam
    (K.spsQueueDrops 0) 2, .fam (K.spsRxState 0) 2, .one K.sklLinkStatus, .one K.sklNoRoute, .one K.sklStaleDrops]) s t)

/-- O54. An EVT message for a slot counts it and raises its event; SYNC starts an exchange and answers with DELAY_REQ; DELAY_REQ
is answered with its receive stamp; DELAY_RESP completes the exchange with its offset and path delay. A boundary record of a peer
is held for joining. A DICT request is carried out record by record and answered; a malformed one is dropped; a response ends the
mailbox's request. DICT_GO sends the mailbox's request or ends it without a route, and its timeout ends it. -/
def Obligations.MessageDeliveryCommands : Prop :=
  (∀ (m : Msg) (q stamp : Nat) (u : State) (s : State), s.takeMsg m = some (q, stamp, u) → m.cls = 2 → nth m.payload 0 < 32 → ∃ t, exec (.evt m) s =
    .next t ∧ t.rd (K.srvRecvCount (nth m.payload 0)) = (s.rd (K.srvRecvCount (nth m.payload 0)) + 1) % 2 ^ 32 ∧ t.skl = u.skl ∧ Frame (withSide
    [.link]) (sideAnd [.one (K.srvRecvCount (nth m.payload 0))]) s t) ∧
  (∀ (p : Nat) (m : Msg) (q stamp : Nat) (u : State) (s : State), p < 2 → s.takeMsg m = some (q, stamp, u) → q = p → m.cls = 3 → timeKind m.payload =
    1 → s.rd K.syncSyncSource = p + 2 → s.skUp p = true → ((s.skPort p).queue 3).length < classDepth 3 → ∃ t, exec (.sync p m) s = .next t ∧
    t.sync.exch = some { id := timeId m.payload, t1 := timeStamp m.payload, t2 := s.rxStamp p stamp, since := s.now } ∧ (t.skPort p).queue 3 =
    (s.skPort p).queue 3 ++
    [{ cls := 3, flags := 0, source := s.rd K.sklNodeId, dest := timeDest, epoch := s.rd K.sklRoleEpoch, role := s.rd K.sklRole, lineage := 0, seq := (s.skl.seq + 1) % 2 ^ 32, payload := timePayload 2 (timeId m.payload) 0 }]
    ∧ t.skl.inbox = u.skl.inbox ∧ Frame [.time, .link] [] s t) ∧
  (∀ (p : Nat) (m : Msg) (q stamp : Nat) (u : State) (s : State), p < 2 → s.takeMsg m = some (q, stamp, u) → q = p → m.cls = 3 → timeKind m.payload =
    2 → s.originates = true → s.skUp p = true → ((s.skPort p).queue 3).length < classDepth 3 → ∃ t, exec (.delayReq p m) s = .next t ∧ (t.skPort
    p).queue 3 = (s.skPort p).queue 3 ++
    [{ cls := 3, flags := 0, source := s.rd K.sklNodeId, dest := timeDest, epoch := s.rd K.sklRoleEpoch, role := s.rd K.sklRole, lineage := 0, seq := (s.skl.seq + 1) % 2 ^ 32, payload := timePayload 3 (timeId m.payload) (ofI 80 (s.rxStamp p stamp)) }]
    ∧ t.sync = s.sync ∧ t.skl.inbox = u.skl.inbox ∧ Frame [.link] [] s t) ∧
  (∀ (p : Nat) (t3 : Int) (x : Exchange) (m : Msg) (q stamp : Nat) (u : State) (s : State), p < 2 → s.takeMsg m = some (q, stamp, u) → q = p → m.cls =
    3 → timeKind m.payload = 3 → s.rd K.syncSyncSource = p + 2 → s.sync.exch = some x → x.t3 = some t3 → timeId m.payload = x.id → s.now ≤ x.since +
    us (s.rd K.syncSyncPeriod) / 2 → ∃ t, exec (.delayResp p m) s = .next t ∧ t.rd K.timeLastOffset = ofI 64 (truncDiv ((x.t2 - x.t1) - ((timeStamp
    m.payload : Int) - t3)) 2) ∧ t.rd K.timePathDelay = ofI 64 (truncDiv ((x.t2 - x.t1) + ((timeStamp m.payload : Int) - t3)) 2) ∧ t.rd
    K.timeExchanges = (s.rd K.timeExchanges + 1) % 2 ^ 32 ∧ t.sync.exch = none ∧ t.skl.inbox = u.skl.inbox ∧ Frame (withSide [.time, .device, .boot,
    .pins, .link]) (sideAnd [.fam (K.alarmAlarmEnable 0) 4, .fam (K.alarmAlarmStatus 0) 4, .one K.devDeviceState, .one K.devStateChanges, .one
    K.devStateTime, .one K.pwrPowerPhase, .one K.pwrWakeCause, .one K.timeExchanges, .one K.timeIntegral, .one K.timeLastOffset, .one K.timeOutliers,
    .one K.timePathDelay, .one K.timeRateAdj, .one K.timeSyncState, .one K.timeTimeStatus]) s t) ∧
  (∀ (m : Msg) (q stamp : Nat) (u : State) (s : State), s.takeMsg m = some (q, stamp, u) → m.cls = 5 → nth m.payload 0 = 1 → s.on K.umbBoundaryRight =
    true → s.umb.frags.length < 256 → ∃ t, exec (.bulk m) s = .next t ∧ t.umb.frags.length = s.umb.frags.length + 1 ∧ t.rd K.umbsJoinLost = s.rd
    K.umbsJoinLost ∧ t.skl = u.skl ∧ Frame [.umbra, .link] [] s t) ∧
  (∀ (m : Msg) (q stamp : Nat) (u : State) (s : State), s.takeMsg m = some (q, stamp, u) → m.cls = 5 → nth m.payload 0 = 1 → s.on K.umbBoundaryRight =
    true → 256 ≤ s.umb.frags.length → ∃ t, exec (.bulk m) s = .next t ∧ t.rd K.umbsJoinLost = (s.rd K.umbsJoinLost + 1) % 2 ^ 32 ∧ t.bit K.umbsStatus
    3 = true ∧ t.umb = s.umb ∧ Frame (withSide [.link]) (sideAnd [.one K.umbsJoinLost, .one K.umbsStatus]) s t) ∧
  (∀ (rs : List DRec) (body : List Nat) (v : State) (m : Msg) (q stamp : Nat) (u : State) (s : State), s.takeMsg m = some (q, stamp, u) → m.cls = 4 →
    8 ≤ m.payload.length → bitOf m.flags 1 = false → bodyRecords (nth m.payload 5) (m.payload.drop 8) = some rs → runRecords
    { path := 6, secure := bitOf (nth m.payload 4) 0 && u.peerAdmitted m.source } 2040 rs u = (body, v) → ∃ t, exec (.dict m) s = .next t ∧ t =
    (v.unicast 4 2 m.source 0 (m.payload.take 4 ++ [0, rs.length, 0, 0] ++ body)).2 ∧ Frame (withSide [.link]) (sideAnd [.fam (K.spsPortStatus 0) 2,
    .fam (K.spsQueueDrops 0) 2, .one K.sklNoRoute, .one K.sklLinkStatus]) v t) ∧
  (∀ (m : Msg) (q stamp : Nat) (u : State) (s : State), s.takeMsg m = some (q, stamp, u) → m.cls = 4 → 8 ≤ m.payload.length → bitOf m.flags 1 = false
    → bodyRecords (nth m.payload 5) (m.payload.drop 8) = none → ∃ t, exec (.dict m) s = .next t ∧ t = u ∧ Frame [.link] [] s t) ∧
  (∀ (r : DictReq) (m : Msg) (q stamp : Nat) (u : State) (s : State), s.takeMsg m = some (q, stamp, u) → m.cls = 4 → 8 ≤ m.payload.length → bitOf
    m.flags 1 = true → s.skl.reqs.find? (fun r => r.id == leAt m.payload 0 4) = some r → r.udp = none → ∃ t, exec (.dict m) s = .next t ∧ t.rd
    K.mbxDictStatus = 2 ∧ t.skl.reqs = s.skl.reqs.erase r ∧ Frame (withSide [.domains, .link]) (sideAnd [.one K.mbxDictStatus]) s t) ∧
  (∀ (a : Acc) (r : Route) (s : State), s.writeStatus a K.mbxDictGo = 0 → accVal a K.mbxDictGo = 1 → s.rd K.mbxDictStatus ≠ 1 → s.route (s.rd
    K.mbxDictTarget) = some r → ∃ t, exec (.dictGo a) s = .next t ∧ t.rd K.mbxDictStatus = 1 ∧ t.skl.reqs = s.skl.reqs ++
    [{ id := s.skl.nextId, since := s.now }] ∧ t.skl.nextId = (s.skl.nextId + 1) % 2 ^ 32 ∧ t.rd (K.pathLastStatus a.path) = 0 ∧ Frame (withSide
    [.link]) (okSide a [.fam (K.spsPortStatus 0) 2, .fam (K.spsQueueDrops 0) 2, .one K.mbxDictStatus, .one K.sklLinkStatus, .one K.sklNoRoute]) s t) ∧
  (∀ (a : Acc) (s : State), s.writeStatus a K.mbxDictGo = 0 → accVal a K.mbxDictGo = 1 → s.rd K.mbxDictStatus ≠ 1 → s.route (s.rd K.mbxDictTarget) =
    none → ∃ t, exec (.dictGo a) s = .next t ∧ t.rd K.mbxDictStatus = 3 ∧ t.rd K.sklNoRoute = (s.rd K.sklNoRoute + 1) % 2 ^ 32 ∧ t.skl.reqs =
    s.skl.reqs ∧ t.rd (K.pathLastStatus a.path) = 0 ∧ Frame (withSide [.link]) (okSide a [.fam (K.spsPortStatus 0) 2, .fam (K.spsQueueDrops 0) 2, .one
    K.mbxDictStatus, .one K.sklLinkStatus, .one K.sklNoRoute]) s t) ∧
  (∀ (r : DictReq) (l : List DictReq) (s : State), s.skl.reqs = r :: l → r.udp = none → ∃ t, exec .dictTimeout s = .next t ∧ t.rd K.mbxDictStatus = 4
    ∧ t.skl.reqs = l ∧ t.now = max s.now (r.since + ms (s.rd K.mbxDictTimeout)) ∧ Frame (withSide [.clock, .link]) (sideAnd [.one K.mbxDictStatus]) s
    t)

/-- O55. A heartbeat is kept with its state, role and epoch. EPOCH raises the role's epoch, promotes the node it names, and fences
a device that holds the role under a lower epoch; STALE fences the node it names when the epoch differs. A monitored role whose
node is silent passes to the first fit spare, or to none, under the next epoch; a silent line master's role passes to a spare that
promotes itself. -/
def Obligations.LineCommands : Prop :=
  (∀ (p : Nat) (m : Msg) (q stamp : Nat) (u : State) (s : State), p < 2 → s.takeMsg m = some (q, stamp, u) → m.cls = 6 → nth m.payload 0 = 1 →
    s.lineMaster = false → ∃ t, exec (.heartbeat p m) s = .next t ∧ tfind t.skl.beats m.source = some
    { at_ := s.now, state := nth m.payload 1, role := m.role, epoch := m.epoch } ∧ (∀ n, n ≠ m.source → tfind t.skl.beats n = tfind s.skl.beats n) ∧
    t.skl.inbox = u.skl.inbox ∧ Frame [.link] [] s t) ∧
  (∀ (p : Nat) (m : Msg) (q stamp : Nat) (u : State) (s : State), p < 2 → s.takeMsg m = some (q, stamp, u) → m.cls = 6 → nth m.payload 0 = 1 → ∃ t,
    exec (.heartbeat p m) s = .next t ∧ tfind t.skl.beats m.source = some { at_ := s.now, state := nth m.payload 1, role := m.role, epoch := m.epoch }
    ∧ Frame (withSide [.link]) (sideAnd [.fam (K.spsPortStatus 0) 2, .fam (K.spsQueueDrops 0) 2]) s t) ∧
  (∀ (m : Msg) (q stamp : Nat) (u : State) (s : State), s.takeMsg m = some (q, stamp, u) → m.cls = 6 → nth m.payload 0 = 2 → lineRole m.payload < 4096
    → lineNode m.payload ≠ s.rd K.sklNodeId → lineRole m.payload ≠ s.rd K.sklRole → ∃ t, exec (.epoch m) s = .next t ∧ t.epochOf (lineRole m.payload)
    = max (s.epochOf (lineRole m.payload)) (lineEpoch m.payload) ∧ t.dev = s.dev ∧ t.skl.inbox = u.skl.inbox ∧ Frame [.domains, .link] [] s t) ∧
  (∀ (m : Msg) (q stamp : Nat) (u : State) (s : State), s.takeMsg m = some (q, stamp, u) → m.cls = 6 → nth m.payload 0 = 2 → lineNode m.payload = s.rd
    K.sklNodeId → ∃ t, exec (.epoch m) s = .next t ∧ t.rd K.sklRole = lineRole m.payload ∧ t.rd K.sklRoleEpoch = lineEpoch m.payload ∧ t.bit
    K.sklLinkStatus 2 = true ∧ t.skl.inbox = u.skl.inbox ∧ Frame (withSide [.domains, .link]) (sideAnd [.one K.sklRole, .one K.sklRoleEpoch, .one
    K.sklLinkStatus]) s t) ∧
  (∀ (m : Msg) (q stamp : Nat) (u : State) (s : State), s.takeMsg m = some (q, stamp, u) → m.cls = 6 → nth m.payload 0 = 2 → lineNode m.payload ≠ s.rd
    K.sklNodeId → lineRole m.payload = s.rd K.sklRole → s.rd K.sklRoleEpoch < lineEpoch m.payload → s.dev ≠ stReset → s.dev ≠ stFault → ∃ t, exec
    (.epoch m) s = .next t ∧ t.dev = stFenced ∧ Frame (withSide [.free, .device, .staged, .domains, .pool, .paths, .out, .mem, .boot, .pins, .memory,
    .wheel, .engines, .slip, .kiln, .gauge, .umbra, .loop, .link]) [.all] s t) ∧
  (∀ (m : Msg) (q stamp : Nat) (u : State) (s : State), s.takeMsg m = some (q, stamp, u) → m.cls = 6 → nth m.payload 0 = 3 → lineNode m.payload = s.rd
    K.sklNodeId → lineEpoch m.payload ≠ s.rd K.sklRoleEpoch → s.dev ≠ stReset → s.dev ≠ stFault → ∃ t, exec (.lineStale m) s = .next t ∧ t.dev =
    stFenced ∧ Frame (withSide [.free, .device, .staged, .pool, .paths, .out, .mem, .boot, .pins, .memory, .wheel, .engines, .slip, .kiln, .gauge,
    .umbra, .loop, .link]) [.all] s t) ∧
  (∀ (m : Msg) (q stamp : Nat) (u : State) (s : State), s.takeMsg m = some (q, stamp, u) → m.cls = 6 → nth m.payload 0 = 3 → lineNode m.payload = s.rd
    K.sklNodeId → lineEpoch m.payload = s.rd K.sklRoleEpoch → ∃ t, exec (.lineStale m) s = .next t ∧ t = u ∧ Frame [.link] [] s t) ∧
  (∀ (r n : Nat) (u : State) (s : State), r < 4096 → s.lineMaster = true → s.originates = true → s.roleMonitor r = true → s.roleNode r ≠ 0xFFFF →
    s.roleNode r ≠ s.rd K.sklNodeId → u = s.at (s.heard (s.roleNode r) + s.beatLimit) → n = ((u.roleSpares r).find? u.spareFit).getD 0xFFFF → ∃ t,
    exec (.roleDead r) s = .next t ∧ t.now = u.now ∧ t.roleNode r = n ∧ t.roleEpoch r = nextEpoch (s.roleEpoch r) % 2 ^ 32 ∧ t.rd K.sklPromotions =
    (s.rd K.sklPromotions + 1) % 2 ^ 32 ∧ (n = 0xFFFF → t.bit K.sklLinkStatus 1 = true) ∧ Frame (withSide [.clock, .domains, .link]) (sideAnd [.fam
    (K.spsPortStatus 0) 2, .fam (K.spsQueueDrops 0) 2, .one K.sklLinkStatus, .one K.sklPromotions]) s t) ∧
  (∀ (k : Nat) (s : State), (s.roleSpares 0).findIdx? (· == s.rd K.sklNodeId) = some k → s.lineMaster = false → s.originates = true → s.dev ≠ stFault
    → s.roleNode 0 ≠ 0xFFFF → s.roleNode 0 ≠ s.rd K.sklNodeId → s.epochOf 0 ≤ s.roleEpoch 0 → ∃ t, exec .sparePromote s = .next t ∧ t.now = max s.now
    (s.heard (s.roleNode 0) + s.beatLimit + k * s.beatPeriod) ∧ t.rd K.sklRole = 0 ∧ t.rd K.sklRoleEpoch = nextEpoch (s.roleEpoch 0) ∧ t.roleNode 0 =
    s.rd K.sklNodeId % 65536 ∧ t.rd K.sklPromotions = (s.rd K.sklPromotions + 1) % 2 ^ 32 ∧ Frame (withSide [.clock, .domains, .link]) (sideAnd [.fam
    (K.spsPortStatus 0) 2, .fam (K.spsQueueDrops 0) 2, .one K.sklLinkStatus, .one K.sklPromotions, .one K.sklRole, .one K.sklRoleEpoch]) s t)

/-- O56. A reset of the PCIe side clears Bus Master and the path's Secure and is counted with its cause; link up and down write
the link's entries; Bar2Base must be a multiple of 1 GiB. Unmasking a vector sends the message that waits for it. A BAR2 write or
read reaches the bytes of DRAM it names and no other, and a span outside DRAM is a map error that reads 0. A hart's access waits
at its DRAM channel, reaches the dictionary, the host or SRAM, or faults. -/
def Obligations.PcieCommands : Prop :=
  (∀ (kind : PcieReset) (s : State), ∃ t, exec (.pcieReset kind) s = .next t ∧ t.rd K.pcieBusMaster = 0 ∧ t.rd K.pcieMaxPayload = 128 ∧ t.rd
    (K.pathSecure 0) = 0 ∧ t.rd K.pcieResetCount = (s.rd K.pcieResetCount + 1) % 2 ^ 32 ∧ t.rd K.pciePcieStatus &&& pcieResetBit kind = pcieResetBit
    kind ∧ t.rd (K.tgtHolding 4) = 1023 ∧ tfind t.xfers 0 = none ∧ Frame (withSide [.paths, .mem, .memory]) (sideAnd [.fam (K.dmasChannelState 0) 32,
    .fam (K.dmasCompletions 0) 32, .fam (K.dmasErrorCount 0) 32, .fam (K.dmasLastStatus 0) 32, .fam (K.pathDomStatus 0) 7, .fam (K.pathSecure 0) 7,
    .fam (K.portBytesWritten 0) 12, .fam (K.qsConsumer 0) 64, .fam (K.tgtHolding 0) 5, .one K.dramLastMapError, .one K.dramMapErrors, .one
    K.dramMemStatus, .one K.pcieBusMaster, .one K.pcieMaxPayload, .one K.pciePcieStatus, .one K.pcieResetCount, .span (K.pendInService 0)
    (K.pendInService 0 + 8), .span (K.pendPending 0) (K.pendPending 0 + 8)]) s t) ∧
  (∀ (speed width payload : Nat) (master : Bool) (s : State), ∃ t, exec (.pcieLinkUp speed width payload master) s = .next t ∧ t.rd K.pcieLinkSpeed =
    speed ∧ t.rd K.pcieLinkWidth = width ∧ t.rd K.pcieMaxPayload = payload ∧ t.rd K.pcieBusMaster = b2n master ∧ Frame sideParts (sideAnd [.one
    K.pcieBusMaster, .one K.pcieLinkSpeed, .one K.pcieLinkWidth, .one K.pcieMaxPayload]) s t) ∧
  (∀ (s : State), s.rd K.pcieLinkSpeed ≠ 0 → ∃ t, exec .pcieLinkDown s = .next t ∧ t.rd K.pcieLinkSpeed = 0 ∧ t.rd K.pcieLinkWidth = 0 ∧ t.rd
    K.pcieBusMaster = 0 ∧ t.bit K.pciePcieStatus 0 = true ∧ Frame sideParts (sideAnd [.one K.pcieBusMaster, .one K.pcieLinkSpeed, .one
    K.pcieLinkWidth, .one K.pcieMaxPayload, .one K.pciePcieStatus]) s t) ∧
  (∀ (a : Acc) (s : State), s.writeStatus a K.pcieBar2Base = 0 → accVal a K.pcieBar2Base % 2 ^ 30 = 0 → ∃ t, exec (.bar2Base a) s = .next t ∧ t.rd
    K.pcieBar2Base = accVal a K.pcieBar2Base ∧ t.rd (K.pathLastStatus a.path) = 0 ∧ Frame [.regs] (okAnd a [.one K.pcieBar2Base]) s t) ∧
  (∀ (a : Acc) (s : State), s.writeAllowed a K.pcieBar2Base = 0 → sizeOk a (.u 64) = true → accVal a K.pcieBar2Base % 2 ^ 30 ≠ 0 → exec (.bar2Base a)
    s = .next (s.done a K.pcieBar2Base 8)) ∧
  (∀ (v : Nat) (s : State), v < 64 → bitOf s.msix.pba v = true → s.msix.funcMask = false → s.rd K.pcieBusMaster = 1 → ∃ t, exec (.msixUnmask
    (.unmaskVector v)) s = .next t ∧ bitOf t.msix.vecMask v = false ∧ v ∈ t.msix.sent ∧ bitOf t.msix.pba v = false ∧ Frame [.irq] [] s t) ∧
  (∀ (s : State), ∃ t, exec (.msixUnmask .enable) s = .next t ∧ t.msix.enabled = true ∧ Frame [.irq] [] s t) ∧
  (∀ (off len : Nat) (bytes : List Nat) (s : State), s.inDram (s.rd K.pcieBar2Base + off) len = true → bytes.length = len → s.memOk → ∃ t, exec
    (.bar2Access true off len bytes) s = .next t ∧ (∀ n, memGet t.mem n = (if s.rd K.pcieBar2Base + off ≤ n ∧ n < s.rd K.pcieBar2Base + off + len then
    BitVec.ofNat 8 (nth bytes (n - (s.rd K.pcieBar2Base + off))) else memGet s.mem n)) ∧ Frame [.regs, .mem] [.one (K.portBytesWritten 9)] s t) ∧
  (∀ (off len : Nat) (bytes : List Nat) (s : State), s.inDram (s.rd K.pcieBar2Base + off) len = true → ∃ t, exec (.bar2Access false off len bytes) s =
    .next t ∧ tfind t.readData 12 = some (ofLe ((List.range len).map fun i => (memGet s.mem (s.rd K.pcieBar2Base + off + i)).toNat)) ∧ Frame [.regs,
    .reads] [.one (K.portBytesRead 9)] s t) ∧
  (∀ (off len : Nat) (bytes : List Nat) (s : State), s.inDram (s.rd K.pcieBar2Base + off) len = false → ∃ t, exec (.bar2Access false off len bytes) s
    = .next t ∧ tfind t.readData 12 = some 0 ∧ t.rd K.dramMapErrors = (s.rd K.dramMapErrors + 1) % 2 ^ 32 ∧ t.rd K.dramLastMapError = s.rd
    K.pcieBar2Base + off ∧ Frame (withSide [.reads]) (sideAnd [.one K.dramMapErrors, .one K.dramLastMapError, .one K.dramMemStatus]) s t) ∧
  (∀ (h addr len : Nat) (machine atomic write : Bool) (bytes : List Nat) (s : State), h < 4 → (tfind s.cores h).isSome = true → s.inDram addr len =
    true → ∃ t, exec (.coreAccess h machine atomic write addr len bytes) s = .next t ∧ (t.dramCh (s.dramOf addr)).wait = (s.dramCh (s.dramOf
    addr)).wait ++
    [{ port := 3, hart := h, write := write, addr := addr, len := len, bytes := (if write then padTo len (bytes.take len) else bytes), stamp := s.now }]
    ∧ (∀ d, d ≠ s.dramOf addr → t.dramCh d = s.dramCh d) ∧ Frame [.memory] [] s t) ∧
  (∀ (h addr len : Nat) (machine : Bool) (bytes : List Nat) (s : State), h < 4 → (tfind s.cores h).isSome = true → s.inDram addr len = false →
    coreWindow addr len = .dictionary → addr % max 1 len = 0 → bytes.length = len → ∃ t, exec (.coreAccess h machine false true addr len bytes) s =
    .next t ∧ t = entryWrite { path := h + 1, secure := machine, size := len, offset := (addr - 0x8000000000) % 8, value := ofLe bytes } ((addr -
    0x8000000000) / 8) s) ∧
  (∀ (h addr len : Nat) (machine : Bool) (bytes : List Nat) (s : State), h < 4 → (tfind s.cores h).isSome = true → s.inDram addr len = false →
    coreWindow addr len = .outbound → addr % max 1 len = 0 → bytes.length = len → s.rd K.pcieBusMaster = 1 → ∃ t, exec (.coreAccess h machine false
    true addr len bytes) s = .next t ∧ t.hostOut = s.hostOut ++ [{ addr := s.rd K.outbOutboundBase + (addr - 0xC000000000), bytes := bytes }] ∧ Frame
    [.out] [] s t) ∧
  (∀ (h addr len : Nat) (machine atomic write : Bool) (bytes : List Nat) (s : State), h < 4 → (tfind s.cores h).isSome = true → s.inDram addr len =
    false → coreWindow addr len = .none → addr % max 1 len = 0 → ∃ t, exec (.coreAccess h machine atomic write addr len bytes) s = .next t ∧ tfind
    t.coreFaults h = some 1 ∧ t.rd K.dramMapErrors = (s.rd K.dramMapErrors + 1) % 2 ^ 32 ∧ Frame (withSide [.boot, .reads]) (sideAnd [.one
    K.dramMapErrors, .one K.dramLastMapError, .one K.dramMemStatus]) s t)

/-- O57. A frame with a bad FCS is counted; one longer than MaxFrame, or at a retired port, is discarded and counted; a good one
is counted in: a time frame goes to the core receive queue, an ARP request for the port's address is learned from and answered,
and a frame of no listed kind is discarded. A link that comes up with eye enough, or that needs none, is UP; a fault takes it DOWN
and retires it when it breaks the policy. Readmit brings a retired port back to DOWN. A frame of the core transmit queue goes out. -/
def Obligations.EthernetCommands : Prop :=
  (∀ (p : Nat) (frame : List Nat) (ok : Bool) (s : State), p < 2 → s.rd (K.ethsLinkState p) = 3 → ∃ t, exec (.ethFrameReceive p frame ok) s = .next t
    ∧ t.rd (K.ethsRxDiscarded p) = (s.rd (K.ethsRxDiscarded p) + 1) % 2 ^ 32 ∧ Frame [.regs] [.one (K.ethsRxDiscarded p)] s t) ∧
  (∀ (p : Nat) (frame : List Nat) (s : State), p < 2 → s.ethUp p = true → ∃ t, exec (.ethFrameReceive p frame false) s = .next t ∧ t.rd
    (K.ethsFcsErrors p) = (s.rd (K.ethsFcsErrors p) + 1) % 2 ^ 32 ∧ Frame [.regs] [.one (K.ethsFcsErrors p)] s t) ∧
  (∀ (p : Nat) (frame : List Nat) (s : State), p < 2 → s.ethUp p = true → s.rd (K.ethMaxFrame p) < frame.length + 4 → ∃ t, exec (.ethFrameReceive p
    frame true) s = .next t ∧ t.rd (K.ethsRxDiscarded p) = (s.rd (K.ethsRxDiscarded p) + 1) % 2 ^ 32 ∧ Frame [.regs] [.one (K.ethsRxDiscarded p)] s t) ∧
  (∀ (p q : Nat) (frame : List Nat) (s : State), p < 2 → s.ethUp p = true → frame.length + 4 ≤ s.rd (K.ethMaxFrame p) → beAt (untag frame) 12 2 =
    0x88F7 → q = s.rd (K.ethcCoreRxQueue p) → q < 64 → frame.length + 32 ≤ s.rd (K.qItemBytes q) → s.queCredits q ≠ 0 → ∃ t, exec (.ethFrameReceive p
    frame true) s = .next t ∧ t.rd (K.ethsFramesIn p) = (s.rd (K.ethsFramesIn p) + 1) % 2 ^ 64 ∧ t.rd (K.qsItemsIn q) = (s.rd (K.qsItemsIn q) + 1) % 2
    ^ 64 ∧ t.que q = quePut (s.bankSlots q) (s.que q)
    { bytes := padTo (s.rd (K.qItemBytes q)) (coreItem frame.length p 4 0 (ofI 80 ((s.time : Int) - s.rdI 32 (K.asymAsymmetry p))) frame), stamp := s.now }
    ∧ Frame [.regs, .memory] [.one (K.ethsFramesIn p), .one (K.qsFill q), .one (K.qsFillPeak q), .one (K.qsItemsIn q)] s t) ∧
  (∀ (p : Nat) (frame : List Nat) (s : State), p < 2 → s.ethUp p = true → frame.length + 4 ≤ s.rd (K.ethMaxFrame p) → beAt (untag frame) 12 2 = 0x0806
    → beAt (untag frame) 38 4 = s.rd (K.ethIpAddress p) → beAt (untag frame) 20 2 = 1 → ∃ t, exec (.ethFrameReceive p frame true) s = .next t ∧ t.rd
    (K.ethsFramesIn p) = (s.rd (K.ethsFramesIn p) + 1) % 2 ^ 64 ∧ tfind t.arp (p * 2 ^ 32 + beAt (untag frame) 28 4) = some (beAt (untag frame) 22 6,
    s.now) ∧ t.rd (K.ethsFramesOut p) = (s.rd (K.ethsFramesOut p) + 1) % 2 ^ 64 ∧ t.ethOut.length = s.ethOut.length + 1 ∧ Frame [.regs, .out] [.one
    (K.ethsFramesIn p), .one (K.ethsFramesOut p)] s t) ∧
  (∀ (p : Nat) (frame : List Nat) (s : State), p < 2 → s.ethUp p = true → frame.length + 4 ≤ s.rd (K.ethMaxFrame p) → beAt (untag frame) 12 2 ≠ 0x88F7
    → beAt (untag frame) 12 2 ≠ 0x0806 → beAt (untag frame) 12 2 ≠ 0x0800 → ∃ t, exec (.ethFrameReceive p frame true) s = .next t ∧ t.rd
    (K.ethsFramesIn p) = (s.rd (K.ethsFramesIn p) + 1) % 2 ^ 64 ∧ t.rd (K.ethsRxDiscarded p) = (s.rd (K.ethsRxDiscarded p) + 1) % 2 ^ 32 ∧ Frame
    [.regs] [.one (K.ethsFramesIn p), .one (K.ethsRxDiscarded p)] s t) ∧
  (∀ (p eye : Nat) (s : State), p < 2 → s.rd (K.ethsLinkState p) = 1 → s.rd (K.ethMode p) = 1 ∨ 12 ≤ eye → ∃ t, exec (.ethLinkUp p eye) s = .next t ∧
    t.rd (K.ethsLinkState p) = 2 ∧ Frame (withSide [.boot]) (sideAnd [.one (K.ethsLinkState p)]) s t) ∧
  (∀ (p : Nat) (s : State), p < 2 → s.ethUp p = true → (s.faultsIn (ethUnit p) (s.rd (K.ethRetryWindow p))).length + 1 ≤ s.rd (K.ethRetryCount p) → ∃
    t, exec (.ethLinkFault p) s = .next t ∧ t.rd (K.ethsLinkState p) = 1 ∧ t.bit (K.ethsPortStatus p) 0 = true ∧ t.rd K.fltTransientCount = (s.rd
    K.fltTransientCount + 1) % 2 ^ 32 ∧ Frame sideParts (sideAnd [.one (K.ethsLinkState p), .one (K.ethsPortStatus p), .one K.fltFaultStatus, .one
    K.fltTransientCount]) s t) ∧
  (∀ (p : Nat) (s : State), p < 2 → s.ethUp p = true → s.rd (K.ethRetryCount p) = 0 → s.rd (K.ethRetryWindow p) ≠ 0 → ∃ t, exec (.ethLinkFault p) s =
    .next t ∧ t.rd (K.ethsLinkState p) = 3 ∧ t.bit (K.ethsPortStatus p) 1 = true ∧ t.rd K.fltRetiredCount = (s.rd K.fltRetiredCount + 1) % 2 ^ 16 ∧
    t.rd K.fltLastRetiredUnit = ethUnit p ∧ Frame sideParts (sideAnd [.one (K.ethsLinkState p), .one (K.ethsPortStatus p), .one K.fltFaultStatus, .one
    K.fltTransientCount, .one K.fltRetiredCount, .one K.fltLastRetiredUnit]) s t) ∧
  (∀ (a : Acc) (p : Nat) (s : State), s.writeStatus a (K.ethsReadmit p) = 0 → p < 2 → accVal a (K.ethsReadmit p) = 1 → s.rd (K.ethsLinkState p) = 3 →
    ∃ t, exec (.ethReadmit a p) s = .next t ∧ t.rd (K.ethsLinkState p) = 1 ∧ t.rd K.fltRetiredCount = s.rd K.fltRetiredCount - 1 ∧ t.rd
    (K.pathLastStatus a.path) = 0 ∧ Frame (withSide []) (okSide a [.one (K.ethsLinkState p), .one K.fltRetiredCount]) s t) ∧
  (∀ (p q : Nat) (it : QItem) (qu : Que) (s : State), p < 2 → s.ethUp p = true → q = s.rd (K.ethcCoreTxQueue p) → q < 64 → queTake (s.que q) = some
    (it, qu) → bitOf (nth it.bytes 3) 1 = false → ∃ t, exec (.coreTxFrame p) s = .next t ∧ t.que q = qu ∧ t.rd (K.qsItemsOut q) = (s.rd (K.qsItemsOut
    q) + 1) % 2 ^ 64 ∧ t.rd (K.ethsFramesOut p) = (s.rd (K.ethsFramesOut p) + 1) % 2 ^ 64 ∧ t.ethOut = s.ethOut ++ [(p, s.vlanTag p ((it.bytes.drop
    32).take (leAt it.bytes 0 2)))] ∧ Frame [.regs, .out, .memory] [.one (K.qsFill q), .one (K.qsItemsOut q), .one (K.ethsFramesOut p)] s t)

/-- O58. TIME_SET and TIME_STEP, in FREE, make device time the value written or move it by the step, and start tracking; otherwise
they are refused with ERR_STATE. RESYNC returns to FREE in STOPPED and STANDBY. RATE_ADJ changes the rate from now on with time
continuous. The sync period sends SYNC; a source silent too long means HOLDOVER. An alarm fires at its time and is disarmed; a
capture takes the time its event was raised; the pulse drives its pin for PpsWidth. -/
def Obligations.TimeCommands : Prop :=
  (∀ (a : Acc) (s : State), s.writeStatus a K.timeTimeSet = 0 → s.rd K.timeSyncState = 0 → ∃ t, exec (.timeSet a) s = .next t ∧ t.timeT = (accVal a
    K.timeTimeSet : Int) * 2 ^ 32 ∧ t.rd K.timeSyncState = 1 ∧ t.bit K.timeTimeStatus 0 = true ∧ t.rd (K.pathLastStatus a.path) = 0 ∧ Frame (withSide
    [.time, .device, .boot, .pins]) (okSide a [.fam (K.alarmAlarmEnable 0) 4, .fam (K.alarmAlarmStatus 0) 4, .one K.devDeviceState, .one
    K.devStateChanges, .one K.devStateTime, .one K.pwrPowerPhase, .one K.pwrWakeCause, .one K.timeSyncState, .one K.timeTimeStatus]) s t) ∧
  (∀ (a : Acc) (s : State), s.writeStatus a K.timeTimeStep = 0 → s.rd K.timeSyncState = 0 → ∃ t, exec (.timeStep a) s = .next t ∧ t.timeT = s.timeT +
    toI 64 (accVal a K.timeTimeStep) * 2 ^ 32 ∧ t.rd K.timeSyncState = 1 ∧ t.bit K.timeTimeStatus 0 = true ∧ t.rd (K.pathLastStatus a.path) = 0 ∧
    Frame (withSide [.time, .device, .boot, .pins]) (okSide a [.fam (K.alarmAlarmEnable 0) 4, .fam (K.alarmAlarmStatus 0) 4, .one K.devDeviceState,
    .one K.devStateChanges, .one K.devStateTime, .one K.pwrPowerPhase, .one K.pwrWakeCause, .one K.timeSyncState, .one K.timeTimeStatus]) s t) ∧
  (∀ (a : Acc) (s : State), s.writeStatus a K.timeTimeSet = 0 → s.rd K.timeSyncState ≠ 0 → exec (.timeSet a) s = .next (s.done a K.timeTimeSet 3)) ∧
  (∀ (a : Acc) (s : State), s.writeStatus a K.timeResync = 0 → accVal a K.timeResync = 1 → s.dev = stStopped ∨ s.dev = stStandby → ∃ t, exec (.resync
    a) s = .next t ∧ t.rd K.timeSyncState = 0 ∧ t.rd (K.pathLastStatus a.path) = 0 ∧ Frame sideParts (okSide a [.one K.timeSyncState]) s t) ∧
  (∀ (a : Acc) (s : State), s.writeStatus a K.timeRateAdj = 0 → s.rd K.syncSyncSource = 1 → -rateLim ≤ toI 64 (accVal a K.timeRateAdj) → toI 64
    (accVal a K.timeRateAdj) ≤ rateLim → ∃ t, exec (.rateAdj a) s = .next t ∧ t.rd K.timeRateAdj = ofI 64 (toI 64 (accVal a K.timeRateAdj)) ∧ t.timeT
    = s.timeT ∧ t.rd (K.pathLastStatus a.path) = 0 ∧ Frame [.regs, .time] (okAnd a [.one K.timeRateAdj]) s t) ∧
  (∀ (a : Acc) (s : State), s.writeStatus a K.timeRateAdj = 0 → s.rd K.syncSyncSource ≠ 1 → exec (.rateAdj a) s = .next (s.done a K.timeRateAdj 3)) ∧
  (∀ (s : State), s.originates = true → s.rd K.syncSyncSource = 0 ∨ s.rd K.timeSyncState = 2 → ∃ t, exec .syncPeriod s = .next t ∧ t.now = max s.now
    (s.sync.sentAt + us (s.rd K.syncSyncPeriod)) ∧ t.sync.sentAt = t.now ∧ t.sync.nextId = (s.sync.nextId + 1) % 2 ^ 32 ∧ (∀ p, p < 2 → s.bit
    K.syncSyncOutMask p = true → s.rd K.syncSyncSource ≠ p + 2 → s.skUp p = true → ((s.skPort p).queue 3).length < classDepth 3 → ∃ m, (t.skPort
    p).queue 3 = (s.skPort p).queue 3 ++ [m] ∧ m.payload = timePayload 1 ((s.sync.nextId + 1) % 2 ^ 32) 0) ∧ Frame (withSide [.clock, .time, .link])
    (sideAnd [.fam (K.spsPortStatus 0) 2, .fam (K.spsQueueDrops 0) 2]) s t) ∧
  (∀ (s : State), 2 ≤ s.rd K.syncSyncSource → s.rd K.timeSyncState = 1 ∨ s.rd K.timeSyncState = 2 → ∃ t, exec .holdoverTimeout s = .next t ∧ t.rd
    K.timeSyncState = 3 ∧ t.bit K.timeTimeStatus 1 = true ∧ t.now = max s.now (s.sync.validAt + s.rd K.syncHoldoverAfter * us (s.rd K.syncSyncPeriod))
    ∧ Frame (withSide [.clock]) (sideAnd [.one K.timeSyncState, .one K.timeTimeStatus]) s t) ∧
  (∀ (n : Nat) (s : State), n < 4 → n ≠ 0 → s.on (K.alarmAlarmEnable n) = true → ∃ t, exec (.alarmFire n) s = .next t ∧ t.now = max s.now (s.whenT
    ((s.rd (K.alarmAlarmTime n) : Int) * 2 ^ 32)) ∧ t.rd (K.alarmAlarmEnable n) = 0 ∧ t.bit (K.alarmAlarmStatus n) 0 = true ∧ Frame (withSide
    [.clock]) (sideAnd [.one (K.alarmAlarmEnable n), .one (K.alarmAlarmStatus n)]) s t) ∧
  (∀ (s : State), s.on (K.alarmAlarmEnable 0) = true → ∃ t, exec (.alarmFire 0) s = .next t ∧ t.rd (K.alarmAlarmEnable 0) = 0 ∧ t.bit
    (K.alarmAlarmStatus 0) 0 = true ∧ Frame (withSide [.clock, .device, .boot, .pins]) (sideAnd [.fam (K.alarmAlarmEnable 0) 4, .fam
    (K.alarmAlarmStatus 0) 4, .one K.devDeviceState, .one K.devStateChanges, .one K.devStateTime, .one K.pwrPowerPhase, .one K.pwrWakeCause]) s t) ∧
  (∀ (k : Nat) (d : Delivery) (u : State) (s : State), k < 4 → s.takeTask (64 + k) = some (d, u) → ∃ t, exec (.timeCapture k) s = .next t ∧ t.rd
    (K.tcapCaptureTime k) = s.timeOf d.stamp ∧ t.rd (K.tcapCaptureCount k) = (s.rd (K.tcapCaptureCount k) + 1) % 2 ^ 32 ∧ t.tasks = u.tasks ∧ Frame
    [.regs, .events] [.one (K.tcapCaptureTime k), .one (K.tcapCaptureCount k)] s t) ∧
  (∀ (s : State), s.rd K.ppsPpsPin < 32 → ∃ t, exec .ppsPulse s = .next t ∧ t.now = max s.now (s.whenT (((s.sync.second : Int) + 1) * 1000000000 * 2 ^
    48)) ∧ t.sync.pulse = some (t.now + us (s.rd K.ppsPpsWidth)) ∧ t.sync.second = t.timeSecond ∧ tfind t.pins (ballGpio (s.rd K.ppsPpsPin)) = some
    (b2n (s.on K.ppsPpsLevel)) ∧ Frame (withSide [.clock, .time, .pins]) sideKeys s t) ∧
  (∀ (u : Nat) (s : State), s.sync.pulse = some u → s.rd K.ppsPpsPin < 32 → ∃ t, exec .ppsEnd s = .next t ∧ t.now = max s.now u ∧ t.sync.pulse = none
    ∧ tfind t.pins (ballGpio (s.rd K.ppsPpsPin)) = some (b2n (!s.on K.ppsPpsLevel)) ∧ Frame [.clock, .time, .pins] [] s t)

/-- O59. A kick restarts the watchdog; half its period without one warns, and the whole is fatal fault 7. A junction reading shows
the temperature, warns from ThermalWarn, and at ThermalTrip is fatal fault 6. Losing the root PLL is fatal fault 5, and
FatalRequest fatal fault 8 with the value written. A bad reference is flagged. CAL_RUN starts a calibration that names a kind and
an instance, and its end passes or fails it. -/
def Obligations.FaultCommands : Prop :=
  (∀ (a : Acc) (s : State), s.writeStatus a K.wdogWatchdogKick = 0 → accVal a K.wdogWatchdogKick = 1 → ∃ t, exec (.watchdogKick a) s = .next t ∧
    t.wdog = { since := s.now } ∧ t.rd (K.pathLastStatus a.path) = 0 ∧ Frame [.regs, .boot] (okAnd a []) s t) ∧
  (∀ (s : State), s.wdogCounts = true → s.wdog.warned = false → ∃ t, exec .wdogWarn s = .next t ∧ t.now = max s.now (s.wdog.since + ms (s.rd
    K.wdogWatchdogPeriod) / 2) ∧ t.wdog = { s.wdog with warned := true } ∧ t.bit K.fltFaultStatus 4 = true ∧ Frame (withSide [.clock, .boot]) (sideAnd
    [.one K.fltFaultStatus]) s t) ∧
  (∀ (s : State), s.wdogCounts = true → s.wdog.expired = false → s.dev ≠ stFault → ∃ t, exec .wdogExpire s = .next t ∧ t.dev = stFault ∧ t.rd
    K.fltFatalCode = 7 ∧ t.rd K.fltFatalUnit = 0 ∧ t.now = max s.now (s.wdog.since + ms (s.rd K.wdogWatchdogPeriod)) ∧ Frame (withSide [.clock, .free,
    .device, .staged, .pool, .paths, .out, .mem, .boot, .pins, .memory, .wheel, .engines, .slip, .kiln, .gauge, .umbra, .loop]) [.all] s t) ∧
  (∀ (x : Int) (s : State), s.dev ≠ stReset → x < s.rdI 32 K.fltThermalTrip → s.rdI 32 K.fltThermalWarn ≤ x → ∃ t, exec (.junctionRead x) s = .next t
    ∧ t.rd K.fltJunctionTemp = ofI 32 x ∧ t.bit K.fltFaultStatus 3 = true ∧ t.hot = some false ∧ t.dev = s.dev ∧ Frame (withSide [.boot]) (sideAnd
    [.one K.fltJunctionTemp, .one K.fltFaultStatus]) s t) ∧
  (∀ (x : Int) (s : State), s.dev ≠ stReset → x < s.rdI 32 K.fltThermalTrip → x < s.rdI 32 K.fltThermalWarn → ∃ t, exec (.junctionRead x) s = .next t
    ∧ t.rd K.fltJunctionTemp = ofI 32 x ∧ t.rd K.fltFaultStatus = s.rd K.fltFaultStatus ∧ Frame [.regs, .boot] [.one K.fltJunctionTemp] s t) ∧
  (∀ (x : Int) (s : State), s.dev ≠ stReset → s.dev ≠ stFault → s.rdI 32 K.fltThermalTrip ≤ x → s.hot ≠ some true → ∃ t, exec (.junctionRead x) s =
    .next t ∧ t.dev = stFault ∧ t.rd K.fltFatalCode = 6 ∧ t.rd K.fltFatalUnit = 0 ∧ t.rd K.fltFatalData = ofI 64 x ∧ Frame (withSide [.free, .device,
    .staged, .pool, .paths, .out, .mem, .boot, .pins, .memory, .wheel, .engines, .slip, .kiln, .gauge, .umbra, .loop]) [.all] s t) ∧
  (∀ (a : Acc) (s : State), s.writeStatus a K.fatalFatalRequest = 0 → s.dev ≠ stReset → s.dev ≠ stFault → ∃ t, exec (.fatalRequest a) s = .next t ∧
    t.dev = stFault ∧ t.rd K.fltFatalCode = 8 ∧ t.rd K.fltFatalUnit = 21 * 256 + a.path ∧ t.rd K.fltFatalData = accVal a K.fatalFatalRequest ∧ t.rd
    (K.pathLastStatus a.path) = 0 ∧ Frame (withSide [.free, .device, .staged, .pool, .paths, .out, .mem, .boot, .pins, .memory, .wheel, .engines,
    .slip, .kiln, .gauge, .umbra, .loop]) [.all] s t) ∧
  (∀ (s : State), s.dev ≠ stReset → s.dev ≠ stFault → ∃ t, exec .pllLockLoss s = .next t ∧ t.dev = stFault ∧ t.rd K.fltFatalCode = 5 ∧ t.rd
    K.fltFatalUnit = 17 * 256 ∧ t.rd K.clkRootPllLocked = 0 ∧ Frame (withSide [.free, .device, .staged, .pool, .paths, .out, .mem, .boot, .pins,
    .memory, .wheel, .engines, .slip, .kiln, .gauge, .umbra, .loop]) [.all] s t) ∧
  (∀ (f : Nat) (s : State), 90000 ≤ f → f ≤ 110000 → ∃ t, exec (.refclkBad (some f)) s = .next t ∧ t.rd K.clkRefclkMeasured = f ∧ Frame [.regs] [.one
    K.clkRefclkMeasured] s t) ∧
  (∀ (s : State), ∃ t, exec (.refclkBad none) s = .next t ∧ t.bit K.clkClockStatus 0 = true ∧ Frame sideParts (sideAnd [.one K.clkClockStatus]) s t) ∧
  (∀ (a : Acc) (s : State), s.writeStatus a K.calCalRun = 0 → calRunOk (accVal a K.calCalRun) = true → s.rd K.calCalRunStatus ≠ 1 → accVal a
    K.calCalRun / 256 = 4 → ∃ t, exec (.calRun a) s = .next t ∧ t.rd K.calCalRun = accVal a K.calCalRun ∧ t.rd K.calCalRunStatus = 1 ∧ t.rd
    (K.pathLastStatus a.path) = 0 ∧ Frame [.regs] (okAnd a [.one K.calCalRun, .one K.calCalRunStatus]) s t) ∧
  (∀ (a : Acc) (s : State), s.writeStatus a K.calCalRun = 0 → calRunOk (accVal a K.calCalRun) = false → exec (.calRun a) s = .next (s.done a
    K.calCalRun 8)) ∧
  (∀ (a : Acc) (s : State), s.writeStatus a K.calCalRun = 0 → calRunOk (accVal a K.calCalRun) = true → s.rd K.calCalRunStatus = 1 → exec (.calRun a) s
    = .next (s.done a K.calCalRun 13)) ∧
  (∀ (m : CalMeasure) (s : State), s.rd K.calCalRunStatus = 1 → s.rd K.calCalRun / 256 = 4 → m.timedOut = false → s.rd K.calDdrWindowMin ≤ m.margin →
    ∃ t, exec (.calRunDone m) s = .next t ∧ t.rd K.calCalRunStatus = 2 ∧ (t.dramCh (s.rd K.calCalRun % 256)).moved = [] ∧ Frame (withSide [.boot,
    .pins, .memory, .kiln]) (sideAnd [.fam (K.khHeadState 0) 128, .fam (K.khHeadStatus 0) 128, .fam (K.kpFaultCount 0) 32, .fam (K.kpLastFaultTime 0)
    32, .fam (K.kpPortState 0) 32, .fam (K.kpPortStatus 0) 32, .one K.calCalRunStatus, .one K.calCalStatus, .one K.fltFaultStatus, .one
    K.fltLastRetiredUnit, .one K.fltRetiredCount, .one K.fltTransientCount, .one K.kilnActiveHeads, .one K.kilnKilnStatus]) s t) ∧
  (∀ (m : CalMeasure) (s : State), s.rd K.calCalRunStatus = 1 → s.rd K.calCalRun / 256 = 4 → m.timedOut = false → m.margin < s.rd K.calDdrWindowMin →
    ∃ t, exec (.calRunDone m) s = .next t ∧ t.rd K.calCalRunStatus = 3 ∧ t.bit K.calCalStatus 0 = true ∧ t.drams = s.drams ∧ Frame (withSide [.boot,
    .pins, .memory, .kiln]) (sideAnd [.fam (K.khHeadState 0) 128, .fam (K.khHeadStatus 0) 128, .fam (K.kpFaultCount 0) 32, .fam (K.kpLastFaultTime 0)
    32, .fam (K.kpPortState 0) 32, .fam (K.kpPortStatus 0) 32, .one K.calCalRunStatus, .one K.calCalStatus, .one K.fltFaultStatus, .one
    K.fltLastRetiredUnit, .one K.fltRetiredCount, .one K.fltTransientCount, .one K.kilnActiveHeads, .one K.kilnKilnStatus]) s t)

/-- O60. A buffered entry gets the next Sequence and its place in the ring, and the STATE entry of FAULT freezes it; while frozen
it is dropped and counted. Freeze and Release hold and free the ring; Mark queues an entry with the value written; ReadSequence is
stored. In STANDBY each masked domain goes down in turn until ASLEEP, and on waking each comes up in turn until STOPPED. The wake
pin at its level wakes a sleeping device. -/
def Obligations.WitnessAndPowerCommands : Prop :=
  (∀ (e : WReq) (l : List WReq) (s : State), s.wbuf = e :: l → s.on K.witFrozen = false → isFaultState e = false → ∃ t, exec .witnessWrite s = .next t
    ∧ t.wbuf = l ∧ t.rd K.witNextSequence = (s.rd K.witNextSequence + 1) % 2 ^ 32 ∧ tfind t.wring (s.rd K.witNextSequence % 8192) = some
    { seq := s.rd K.witNextSequence, kind := e.kind, unit := e.unit, time := e.time, lineage := e.lineage, gap := s.wgap, d0 := e.d0, d1 := e.d1 } ∧
    t.rd K.witFrozen = s.rd K.witFrozen ∧ Frame sideParts (sideAnd [.one K.witFreezeCause, .one K.witFrozen, .one K.witFrozenDrops, .one
    K.witNextSequence, .one K.witWitnessStatus]) s t) ∧
  (∀ (e : WReq) (l : List WReq) (s : State), s.wbuf = e :: l → s.on K.witFrozen = false → isFaultState e = true → ∃ t, exec .witnessWrite s = .next t
    ∧ t.wbuf = l ∧ t.on K.witFrozen = true ∧ t.rd K.witFreezeCause = 1 ∧ Frame sideParts (sideAnd [.one K.witFreezeCause, .one K.witFrozen, .one
    K.witFrozenDrops, .one K.witNextSequence, .one K.witWitnessStatus]) s t) ∧
  (∀ (e : WReq) (l : List WReq) (s : State), s.wbuf = e :: l → s.on K.witFrozen = true → ∃ t, exec .witnessWrite s = .next t ∧ t.wbuf = l ∧ t.rd
    K.witFrozenDrops = (s.rd K.witFrozenDrops + 1) % 2 ^ 32 ∧ t.wring = s.wring ∧ Frame [.regs, .witness] [.one K.witFrozenDrops] s t) ∧
  (∀ (a : Acc) (s : State), s.writeStatus a K.witFreeze = 0 → accVal a K.witFreeze = 1 → s.on K.witFrozen = false → ∃ t, exec (.freeze a) s = .next t
    ∧ t.rd K.witFrozen = 1 ∧ t.rd K.witFreezeCause = 2 ∧ t.wring = s.wring ∧ t.wbuf = s.wbuf ∧ t.rd (K.pathLastStatus a.path) = 0 ∧ Frame sideParts
    (okSide a [.one K.witFreezeCause, .one K.witFrozen]) s t) ∧
  (∀ (a : Acc) (s : State), s.writeStatus a K.witRelease = 0 → accVal a K.witRelease = 1 → s.on K.witFrozen = true → s.wbuf.length < 32 → ∃ t, exec
    (.release a) s = .next t ∧ t.rd K.witFrozen = 0 ∧ t.rd K.witFreezeCause = 0 ∧ t.rd K.witFrozenDrops = 0 ∧ t.wbuf.length = s.wbuf.length + 1 ∧ t.rd
    (K.pathLastStatus a.path) = 0 ∧ Frame sideParts (okSide a [.one K.witFreezeCause, .one K.witFrozen, .one K.witFrozenDrops]) s t) ∧
  (∀ (a : Acc) (s : State), s.writeStatus a K.witMark = 0 → s.on K.witFrozen = false → s.wbuf.length < 32 → ∃ t, exec (.mark a) s = .next t ∧
    t.wbuf.length = s.wbuf.length + 1 ∧ (∃ e, e ∈ t.wbuf ∧ e.kind = 4 ∧ e.unit = 21 * 256 + a.path ∧ e.d0 = accVal a K.witMark % 2 ^ 32 ∧ e.time =
    s.time) ∧ t.rd (K.pathLastStatus a.path) = 0 ∧ Frame [.regs, .witness] (okAnd a []) s t) ∧
  (∀ (a : Acc) (s : State), s.writeStatus a K.witReadSequence = 0 → ∃ t, exec (.readSequence a) s = .next t ∧ t.rd K.witReadSequence = accVal a
    K.witReadSequence ∧ t.rd K.witNextSequence = s.rd K.witNextSequence ∧ t.rd (K.pathLastStatus a.path) = 0 ∧ Frame sideParts (okSide a [.one
    K.witReadSequence, .one K.witWitnessStatus]) s t) ∧
  (∀ (d e : Nat) (l : List Nat) (s : State), s.power.todo = d :: e :: l → s.dev = stStandby → s.rd K.pwrPowerPhase = 1 → ∃ t, exec .domainDown s =
    .next t ∧ t.now = max s.now s.power.due ∧ t.power = { s.power with todo := e :: l, due := t.now + us 10 } ∧ t.dev = stStandby ∧ t.rd
    K.pwrPowerPhase = 1 ∧ (d = 0 → ∀ n, n < 12 → (t.cam n).lock = false ∧ t.rd (K.camstLinksUp n) = 0) ∧ Frame (withSide [.clock, .device, .boot,
    .pins, .cameras]) (sideAnd [.fam (K.camstChannelState 0) 12, .fam (K.camstLinksUp 0) 12, .one K.camsPresent, .one K.camsPresentCount, .one
    K.camsRetired, .one K.devDeviceState, .one K.devStateChanges, .one K.devStateTime, .one K.pwrPowerPhase, .one K.pwrSleeps, .one K.pwrWakeCause]) s
    t) ∧
  (∀ (d : Nat) (s : State), s.power.todo = [d] → s.dev = stStandby → s.rd K.pwrPowerPhase = 1 → s.power.latched = none → s.rd K.pwrWakeSources = 0 → ∃
    t, exec .domainDown s = .next t ∧ t.rd K.pwrPowerPhase = 2 ∧ t.rd K.pwrSleeps = (s.rd K.pwrSleeps + 1) % 2 ^ 32 ∧ t.dev = stStandby ∧ Frame
    (withSide [.clock, .device, .boot, .pins, .cameras]) (sideAnd [.fam (K.camstChannelState 0) 12, .fam (K.camstLinksUp 0) 12, .one K.camsPresent,
    .one K.camsPresentCount, .one K.camsRetired, .one K.devDeviceState, .one K.devStateChanges, .one K.devStateTime, .one K.pwrPowerPhase, .one
    K.pwrSleeps, .one K.pwrWakeCause]) s t) ∧
  (∀ (d : Nat) (s : State), s.power.todo = [d] → s.dev = stStandby → s.rd K.pwrPowerPhase = 3 → ∃ t, exec .domainUp s = .next t ∧ t.dev = stStopped ∧
    t.rd K.pwrPowerPhase = 0 ∧ t.rd K.pwrWakeCause = s.power.latched.getD 0 ∧ t.now = max s.now s.power.due ∧ Frame (withSide [.clock, .device, .boot,
    .pins]) (sideAnd [.one K.devDeviceState, .one K.devStateChanges, .one K.devStateTime, .one K.pwrPowerPhase, .one K.pwrWakeCause]) s t) ∧
  (∀ (d e : Nat) (l : List Nat) (s : State), s.power.todo = d :: e :: l → s.dev = stStandby → s.rd K.pwrPowerPhase = 3 → ∃ t, exec .domainUp s = .next
    t ∧ t.now = max s.now s.power.due ∧ t.power = { s.power with todo := e :: l, due := t.now + us 50 } ∧ Frame [.clock, .boot] [] s t) ∧
  (∀ (level : Bool) (s : State), s.rd K.pwrWakePin < 32 → s.bit K.pwrWakeSources 0 = true → level = s.on K.pwrWakeLevel → s.dev = stStandby → s.rd
    K.pwrPowerPhase = 2 → s.maskedDomains ≠ [] → ∃ t, exec (.wakePin level) s = .next t ∧ tfind t.gpioIn (s.rd K.pwrWakePin) = some (b2n level) ∧ t.rd
    K.pwrPowerPhase = 3 ∧ t.power.latched = some 2 ∧ Frame (withSide [.device, .boot, .pins]) (sideAnd [.one K.devDeviceState, .one K.devStateChanges,
    .one K.devStateTime, .one K.pwrPowerPhase, .one K.pwrWakeCause]) s t) ∧
  (∀ (level : Bool) (s : State), s.rd K.pwrWakePin < 32 → s.bit K.pwrWakeSources 0 = false → ∃ t, exec (.wakePin level) s = .next t ∧ tfind t.gpioIn
    (s.rd K.pwrWakePin) = some (b2n level) ∧ Frame [.pins] [] s t)
end

