-- ==== Sys2Proof/Laws/Tables.lean ====
section
/-! SUPPORT. What reading a table, an entry, a DOMAIN byte and a byte of DRAM gives after a write, and the canonical form of DRAM. -/

-- The proofs of this file are checked one after another, in one thread.
set_option Elab.async false

namespace Sys2Proof.Machine

/-! ### Sparse tables -/

theorem tfind_tput {α : Type} (t : Tab α) (k j : Nat) (v : α) : tfind (tput t k v) j = if j = k then some v else tfind t j := by
  induction t with
  | nil => rfl
  | cons e t ih =>
    obtain ⟨a, w⟩ := e
    by_cases h1 : k = a
    · subst h1
      by_cases h2 : j = k <;> simp [tput, tfind, h2]
    · by_cases h2 : k < a
      · simp [tput, tfind, h1, h2]
      · by_cases h3 : j = a
        · subst h3; simp [tput, tfind, h1, h2, Ne.symm h1]
        · simp [tput, tfind, h1, h2, h3, ih]

theorem tfind_terase {α : Type} (t : Tab α) (k j : Nat) : tfind (terase t k) j = if j = k then none else tfind t j := by
  induction t with
  | nil => simp [terase, tfind]
  | cons e t ih =>
    obtain ⟨a, w⟩ := e
    by_cases h1 : k = a
    · subst h1
      simp only [terase, if_true, ih, tfind]
      split <;> rfl
    · by_cases h2 : j = a
      · subst h2; simp [terase, tfind, h1, Ne.symm h1]
      · simp [terase, tfind, h1, h2, ih]

theorem tfind_tkeep {α : Type} (p : Nat → Bool) (t : Tab α) (j : Nat) : tfind (tkeep p t) j = if p j = true then tfind t j else none := by
  induction t with
  | nil => simp [tkeep, tfind]
  | cons e t ih =>
    obtain ⟨a, w⟩ := e
    simp only [tkeep] at ih ⊢
    by_cases hp : p a = true
    · by_cases hj : j = a
      · subst hj; simp [List.filter, hp, tfind]
      · simp only [List.filter, hp, tfind, hj, if_false]; exact ih
    · by_cases hj : j = a
      · subst hj; simp [List.filter, hp, ih]
      · simp only [List.filter, hp, tfind, hj, if_false]; exact ih

@[simp] theorem tget_tput_self {α : Type} (d : α) (t : Tab α) (k : Nat) (v : α) : tget d (tput t k v) k = v := by
  simp [tget, tfind_tput]

theorem tget_tput {α : Type} (d : α) (t : Tab α) (k j : Nat) (v : α) : tget d (tput t k v) j = if j = k then v else tget d t j := by
  simp only [tget, tfind_tput]; split <;> rfl

@[simp] theorem tget_nil {α : Type} (d : α) (k : Nat) : tget d [] k = d := rfl

/-! ### Entries -/

theorem State.rd_wr (s : State) (k j v : Nat) : (s.wr k v).rd j = if j = k then v else s.rd j := by
  simp only [State.rd, State.wr, tfind_tput]; split <;> rfl

@[simp] theorem State.rd_wr_self (s : State) (k v : Nat) : (s.wr k v).rd k = v := by simp [State.rd_wr]

theorem State.rd_wr_ne (s : State) {k j : Nat} (v : Nat) (h : j ≠ k) : (s.wr k v).rd j = s.rd j := by simp [State.rd_wr, h]

@[simp] theorem State.rd_inc_self (s : State) (w k : Nat) : (s.inc w k).rd k = (s.rd k + 1) % 2 ^ w := by simp [State.inc]

theorem State.rd_inc_ne (s : State) {k j : Nat} (w : Nat) (h : j ≠ k) : (s.inc w k).rd j = s.rd j := s.rd_wr_ne _ h

theorem State.sh_stage (s : State) (k j v : Nat) : (s.stage k v).sh j = if j = k then v else s.sh j := by
  simp only [State.sh, State.stage, tfind_tput]; split <;> rfl

/-! ### DRAM -/

theorem memGet_memPut_self (m : List Host.Cell) (a : Nat) (v : Byte) {lo : Nat} (h : memWfFrom lo m = true) :
    memGet (memPut m a v) a = v := by
  induction m generalizing lo with
  | nil => simp only [memPut]; split <;> simp_all [memGet]
  | cons c m ih =>
    obtain ⟨b, w⟩ := c
    simp only [memWfFrom, Bool.and_eq_true, Nat.ble_eq, decide_eq_true_eq] at h
    simp only [memPut]
    split
    · subst_vars
      split
      · subst_vars
        cases m with
        | nil => rfl
        | cons d m =>
          have hd := h.2
          simp only [memWfFrom, Bool.and_eq_true, Nat.ble_eq] at hd
          simp only [memGet]
          rw [if_neg (by omega), if_pos (by omega)]
      · simp [memGet]
    · split
      · split
        · rename_i h1 h2 h3; simp [memGet, h1, h2, h3]
        · simp [memGet]
      · rename_i h1 h2; simp only [memGet, h1, h2, if_false]; exact ih h.2

theorem memGet_lt {m : List Host.Cell} {lo a : Nat} (h : memWfFrom lo m = true) (ha : a < lo) : memGet m a = memDflt := by
  cases m with
  | nil => rfl
  | cons c m =>
    simp only [memWfFrom, Bool.and_eq_true, Nat.ble_eq] at h
    simp only [memGet]
    rw [if_neg (by omega), if_pos (by omega)]

theorem memGet_memPut_ne (m : List Host.Cell) {a k : Nat} (v : Byte) {lo : Nat} (h : memWfFrom lo m = true) (ne : k ≠ a) :
    memGet (memPut m a v) k = memGet m k := by
  induction m generalizing lo with
  | nil => simp only [memPut]; split <;> simp [memGet, ne]
  | cons c m ih =>
    obtain ⟨b, w⟩ := c
    simp only [memWfFrom, Bool.and_eq_true, Nat.ble_eq, decide_eq_true_eq] at h
    simp only [memPut]
    split
    · subst_vars
      split
      · simp only [memGet, ne, if_false]
        split
        · exact memGet_lt h.2 (by omega)
        · rfl
      · simp [memGet, ne]
    · split
      · split
        · rfl
        · simp only [memGet, ne, if_false]
          split
          · rw [if_neg (by omega), if_pos (by omega)]
          · rfl
      · simp only [memGet]
        rw [ih h.2]

theorem memWfFrom_mono {m : List Host.Cell} {lo lo' : Nat} (h : memWfFrom lo m = true) (hl : lo' ≤ lo) : memWfFrom lo' m = true := by
  cases m with
  | nil => rfl
  | cons c m =>
    simp only [memWfFrom, Bool.and_eq_true, Nat.ble_eq] at h ⊢
    exact ⟨⟨by omega, h.1.2⟩, h.2⟩

theorem memWfFrom_memPut {m : List Host.Cell} {lo a : Nat} (v : Byte) (h : memWfFrom lo m = true) (ha : lo ≤ a) :
    memWfFrom lo (memPut m a v) = true := by
  induction m generalizing lo with
  | nil => simp only [memPut]; split <;> simp_all [memWfFrom]
  | cons c m ih =>
    obtain ⟨b, w⟩ := c
    have h' := h
    simp only [memWfFrom, Bool.and_eq_true, Nat.ble_eq, decide_eq_true_eq] at h
    simp only [memPut]
    split
    · subst_vars
      split
      · exact memWfFrom_mono h.2 (by omega)
      · simp_all [memWfFrom]
    · split
      · split
        · exact h'
        · simp only [memWfFrom, Bool.and_eq_true, Nat.ble_eq, decide_eq_true_eq]
          exact ⟨⟨ha, by assumption⟩, ⟨by omega, h.1.2⟩, h.2⟩
      · simp only [memWfFrom, Bool.and_eq_true, Nat.ble_eq, decide_eq_true_eq]
        exact ⟨h.1, ih h.2 (by omega)⟩

theorem Memory.wf_memPut {m : List Host.Cell} (a : Nat) (v : Byte) (h : Memory.wf m = true) : Memory.wf (memPut m a v) = true :=
  memWfFrom_memPut v h (Nat.zero_le _)

theorem Memory.wf_memPuts {m : List Host.Cell} (a : Nat) (l : List Nat) (h : Memory.wf m = true) : Memory.wf (memPuts m a l) = true := by
  induction l generalizing m a with
  | nil => exact h
  | cons b l ih => exact ih _ (Memory.wf_memPut _ _ h)

/-- A byte outside the written span reads as before. -/
theorem memGet_memPuts_out {m : List Host.Cell} {a k : Nat} (l : List Nat) (h : Memory.wf m = true) (hk : k < a ∨ a + l.length ≤ k) :
    memGet (memPuts m a l) k = memGet m k := by
  induction l generalizing m a with
  | nil => rfl
  | cons b l ih =>
    simp only [List.length_cons] at hk
    simp only [memPuts]
    rw [ih (Memory.wf_memPut _ _ h) (by omega), memGet_memPut_ne m _ h (by omega)]

/-- A byte of the written span reads as written. -/
theorem memGet_memPuts_in {m : List Host.Cell} {a i : Nat} (l : List Nat) (h : Memory.wf m = true) (hi : i < l.length) :
    memGet (memPuts m a l) (a + i) = BitVec.ofNat 8 (l.getD i 0) := by
  induction l generalizing m a i with
  | nil => simp at hi
  | cons b l ih =>
    simp only [memPuts]
    cases i with
    | zero =>
      rw [Nat.add_zero, memGet_memPuts_out l (Memory.wf_memPut _ _ h) (by omega)]
      exact memGet_memPut_self m _ _ h
    | succ i =>
      have := ih (m := memPut m a (BitVec.ofNat 8 b)) (a := a + 1) (i := i) (Memory.wf_memPut _ _ h) (by simpa using hi)
      rw [show a + (i + 1) = a + 1 + i by omega, this]
      rfl

end Sys2Proof.Machine
end

