-- ==== Sys2Proof/Laws/Frame.lean ====
section
/-! SUPPORT. What an operation may change, in a form that composes: `Eff ps ks s t` says that `t` differs from `s` in the kinds of state
`ps` and the entries `ks` alone, and that no command's promise is broken on the way. One lemma `<operation>_eff` for each operation of
the machine stands in the file of Laws named after the operation's own. -/

-- The proofs of this file are checked one after another, in one thread.
set_option Elab.async false

namespace Sys2Proof.Machine

/-- The second set lies in the first. -/
def KeySet.covers : KeySet → KeySet → Bool
  | .all, _ => true
  | .one a, .one b => a == b
  | .fam a n, .fam b m => a == b && n == m
  | .fam a n, .one b => KeySet.has (.fam a n) b
  | .span lo hi, .one b => Nat.ble lo b && Nat.blt b hi
  | .span lo hi, .span lo' hi' => Nat.ble lo lo' && Nat.ble hi' hi
  | .sub i, .sub j => i == j
  | .sub i, .one b => KeySet.has (.sub i) b
  | _, _ => false

/-- The parts and entries of one frame lie in another's. -/
def fits (qs : List Part) (js : List KeySet) (ps : List Part) (ks : List KeySet) : Bool :=
  qs.all (fun q => ps.contains q) && js.all (fun j => ks.any (·.covers j))

theorem KeySet.has_of_covers {a b : KeySet} (h : a.covers b = true) {k : Nat} (hb : b.has k = true) : a.has k = true := by
  cases a <;> cases b <;> simp_all [KeySet.covers, KeySet.has]
  omega

theorem fits_parts {qs : List Part} {js : List KeySet} {ps : List Part} {ks : List KeySet} (h : fits qs js ps ks = true) {q : Part}
    (hq : q ∈ qs) : q ∈ ps := by
  simp only [fits, Bool.and_eq_true, List.all_eq_true, List.contains_iff_mem] at h
  exact h.1 q hq

theorem KeySet.any_fit {qs : List Part} {js : List KeySet} {ps : List Part} {ks : List KeySet} (h : fits qs js ps ks = true) {k : Nat}
    (hk : js.any (·.has k) = true) : ks.any (·.has k) = true := by
  simp only [fits, Bool.and_eq_true, List.all_eq_true] at h
  obtain ⟨j, hj, hjk⟩ := List.any_eq_true.mp hk
  obtain ⟨i, hi, hc⟩ := List.any_eq_true.mp (h.2 j hj)
  exact List.any_eq_true.mpr ⟨i, hi, KeySet.has_of_covers hc hjk⟩

/-! ### Sets of entries -/

theorem KeySet.any_fam {ks : List KeySet} {a n : Nat} (i : Nat) (h : ks.contains (.fam a n) = true) (hn : 0 < n := by decide) :
    ks.any (·.has (instKey a n i)) = true := by
  refine List.any_eq_true.mpr ⟨_, List.contains_iff_mem.mp h, ?_⟩
  simp only [KeySet.has, instKey, Bool.or_eq_true, Bool.and_eq_true, Nat.ble_eq, Nat.blt_eq, beq_iff_eq]
  rcases Nat.lt_or_ge i n with h | h
  · rw [Nat.div_eq_of_lt h]; omega
  · have := Nat.mul_le_mul_left 4294967296 (Nat.div_pos h hn)
    omega

/-- An entry outside a group's run is none of the group's. -/
theorem ne_instKey {a n k : Nat} (i : Nat) (h : KeySet.has (.fam a n) k = false) (hn : 0 < n := by decide) : k ≠ instKey a n i := by
  rintro rfl
  have := KeySet.any_fam (ks := [.fam a n]) (a := a) i (List.contains_iff_mem.mpr (List.mem_singleton.mpr rfl)) hn
  simp only [List.any_cons, List.any_nil, Bool.or_false, h] at this
  cases this

theorem KeySet.any_run {ks : List KeySet} {a n : Nat} (i : Nat) (h : ks.any (·.covers (.span a (a + n))) = true)
    (hn : 0 < n := by decide) :
    ks.any (·.has (runKey a n i)) = true := by
  obtain ⟨j, hj, hc⟩ := List.any_eq_true.mp h
  refine List.any_eq_true.mpr ⟨j, hj, KeySet.has_of_covers hc ?_⟩
  simp only [KeySet.has, runKey, Bool.or_eq_true, Bool.and_eq_true, Nat.ble_eq, Nat.blt_eq]
  rcases Nat.lt_or_ge i n with h | h
  · rw [Nat.div_eq_of_lt h]; omega
  · have := Nat.mul_le_mul_left 4294967296 (Nat.div_pos h hn)
    omega

theorem KeySet.any_sub {ks : List KeySet} {a : Nat} (i : Nat) (h : ks.contains (.sub (0 * 256 + a)) = true) (ha : a < 256 := by decide) :
    ks.any (·.has (i * 256 + a)) = true := by
  refine List.any_eq_true.mpr ⟨_, List.contains_iff_mem.mp h, ?_⟩
  simp [KeySet.has]; omega

theorem KeySet.any_all {ks : List KeySet} {k : Nat} (h : ks.contains .all = true) : ks.any (·.has k) = true :=
  List.any_eq_true.mpr ⟨_, List.contains_iff_mem.mp h, rfl⟩

theorem KeySet.any_gen {ks : List KeySet} {a b m n g : Nat} (ha : ks.contains (.fam a m) = true) (hb : ks.contains (.fam b n) = true)
    (hm : 0 < m := by decide) (hn : 0 < n := by decide) :
    ks.any (·.has (genKey (fun i => instKey a m i) (fun i => instKey b n i) g)) = true := by
  unfold genKey; split
  · exact KeySet.any_fam _ ha hm
  · exact KeySet.any_fam _ hb hn

/-! ### What every command keeps -/

/-- What no command breaks: the queue behind it, the canonical form of DRAM, and blown fuses. -/
structure Sound (s t : State) : Prop where
  queue : t.pending = s.pending
  mem : s.memOk → t.memOk
  version : s.fuses.version ≤ t.fuses.version
  revoked : ∀ i, bitOf s.fuses.revoked i = true → bitOf t.fuses.revoked i = true
  keys : t.fuses.keyHash = s.fuses.keyHash

theorem Sound.refl (s : State) : Sound s s := ⟨rfl, id, Nat.le_refl _, fun _ h => h, rfl⟩

theorem Sound.trans {s t u : State} (h : Sound s t) (g : Sound t u) : Sound s u :=
  ⟨g.queue.trans h.queue, fun m => g.mem (h.mem m), Nat.le_trans h.version g.version, fun i b => g.revoked i (h.revoked i b),
   g.keys.trans h.keys⟩

theorem Sound.of_eq {s t : State} (h1 : t.pending = s.pending) (h2 : t.mem = s.mem) (h3 : t.fuses = s.fuses) : Sound s t := by
  refine ⟨h1, fun m => ?_, ?_, fun i b => ?_, ?_⟩
  · simpa only [State.memOk, h2] using m
  · rw [h3]
  · rwa [h3]
  · rw [h3]

theorem Sound.of_mem {s t : State} (h1 : t.pending = s.pending) (h2 : s.memOk → t.memOk) (h3 : t.fuses = s.fuses) : Sound s t :=
  ⟨h1, h2, by rw [h3], fun i b => by rwa [h3], by rw [h3]⟩

theorem Part.same_refl (p : Part) (s : State) : p.same s s := by
  cases p <;> simp [Part.same]

theorem Part.same_trans (p : Part) {s t u : State} (h : p.same s t) (g : p.same t u) : p.same s u := by
  cases p <;> simp only [Part.same] at * <;> simp_all

/-! ### Frames that compose -/

/-- A frame that is sound besides. -/
def Eff (ps : List Part) (ks : List KeySet) (s t : State) : Prop := Frame ps ks s t ∧ Sound s t

theorem Eff.frame {ps : List Part} {ks : List KeySet} {s t : State} (h : Eff ps ks s t) : Frame ps ks s t := h.1

theorem Eff.sound {ps : List Part} {ks : List KeySet} {s t : State} (h : Eff ps ks s t) : Sound s t := h.2

/-- An entry outside the frame. -/
theorem Eff.rd {ps : List Part} {ks : List KeySet} {s t : State} (h : Eff ps ks s t) (k : Nat) (hk : ks.any (·.has k) = false) :
    t.rd k = s.rd k := h.1.2 k hk

/-- A kind of state outside the frame. -/
theorem Eff.part {ps : List Part} {ks : List KeySet} {s t : State} (h : Eff ps ks s t) (p : Part) (hp : ps.contains p = false) :
    p.same s t := h.1.1 p (by simpa using hp)

theorem Frame.refl {ps : List Part} {ks : List KeySet} {s : State} : Frame ps ks s s :=
  ⟨fun p _ => p.same_refl s, fun _ _ => rfl⟩

theorem Frame.after {ps qs : List Part} {ks js : List KeySet} {s x y : State} (g : Frame qs js x y) (h : Frame ps ks s x)
    (hs : fits qs js ps ks = true) : Frame ps ks s y := by
  simp only [fits, Bool.and_eq_true, List.all_eq_true, List.contains_iff_mem] at hs
  refine ⟨fun p hp => p.same_trans (h.1 p hp) (g.1 p fun hq => hp (hs.1 p hq)), fun k hk => (g.2 k ?_).trans (h.2 k hk)⟩
  simp only [List.any_eq_false, Bool.not_eq_true] at hk ⊢
  intro j hj
  by_contra hc
  obtain ⟨i, hi, hc'⟩ := List.any_eq_true.mp (hs.2 j hj)
  exact absurd (KeySet.has_of_covers hc' (by simpa using hc)) (by simp [hk i hi])

theorem Eff.refl {ps : List Part} {ks : List KeySet} {s : State} : Eff ps ks s s := ⟨Frame.refl, Sound.refl s⟩

/-- An operation after others whose frame its own lies in. -/
theorem Eff.after {ps qs : List Part} {ks js : List KeySet} {s x y : State} (g : Eff qs js x y) (h : Eff ps ks s x)
    (hs : fits qs js ps ks = true) : Eff ps ks s y := ⟨g.1.after h.1 hs, h.2.trans g.2⟩

theorem Eff.to {ps : List Part} {ks : List KeySet} {s x y : State} (e : y = x) (h : Eff ps ks s x) : Eff ps ks s y := e ▸ h

theorem Eff.have {ps : List Part} {ks : List KeySet} {s x v y : State} (e : x = v) (hv : Eff ps ks s v)
    (k : Eff ps ks s x → Eff ps ks s y) : Eff ps ks s y := k (e ▸ hv)

theorem Eff.ite {ps : List Part} {ks : List KeySet} {s a b : State} {c : Prop} [Decidable c] (ha : Eff ps ks s a)
    (hb : Eff ps ks s b) : Eff ps ks s (if c then a else b) := by split <;> assumption

theorem Eff.cond {ps : List Part} {ks : List KeySet} {s a b : State} {c : Bool} (ha : Eff ps ks s a)
    (hb : Eff ps ks s b) : Eff ps ks s (bif c then a else b) := by cases c <;> assumption

theorem Eff.foldlP {α β : Type} {ps : List Part} {ks : List KeySet} {s : State} {f : β → α → β} (g : β → State)
    (hf : ∀ x a, Eff ps ks s (g x) → Eff ps ks s (g (f x a))) {l : List α} {x : β} (h : Eff ps ks s (g x)) :
    Eff ps ks s (g (l.foldl f x)) := by
  induction l generalizing x with
  | nil => exact h
  | cons a l ih => exact ih (hf x a h)

theorem Eff.foldl {α : Type} {ps : List Part} {ks : List KeySet} {s : State} {f : State → α → State}
    (hf : ∀ x a, Eff ps ks s x → Eff ps ks s (f x a)) {l : List α} {x : State} (h : Eff ps ks s x) :
    Eff ps ks s (l.foldl f x) := Eff.foldlP (fun y => y) hf h

theorem Eff.pair2 {α : Type} {ps : List Part} {ks : List KeySet} {s x : State} {a : α} (h : Eff ps ks s x) :
    Eff ps ks s (a, x).2 := h

theorem Eff.pair22 {α β : Type} {ps : List Part} {ks : List KeySet} {s : State} {a : α} {p : β × State} (h : Eff ps ks s p.2) :
    Eff ps ks s (a, p).2.2 := h

/-- A change of fields of the listed kinds. -/
theorem Eff.upd {ps qs : List Part} {ks : List KeySet} {s x y : State} (h : Eff ps ks s x) (hs : fits qs [] ps ks = true)
    (hr : y.regs = x.regs) (hy : ∀ p, p ∉ qs → p.same x y) (ho : Sound x y) : Eff ps ks s y :=
  ⟨⟨fun p hp => p.same_trans (h.1.1 p hp) (hy p fun hq => hp (fits_parts hs hq)),
    fun k hk => (show y.rd k = x.rd k by simp only [State.rd, hr]).trans (h.1.2 k hk)⟩, h.2.trans ho⟩

/-- A change of fields, entries among them, under a frame that has every entry. -/
theorem Eff.updAll {ps qs : List Part} {ks : List KeySet} {s x y : State} (h : Eff ps ks s x) (hs : fits qs [] ps ks = true)
    (hk : ks.contains .all = true) (hy : ∀ p, p ∉ qs → p.same x y) (ho : Sound x y) : Eff ps ks s y :=
  ⟨⟨fun p hp => p.same_trans (h.1.1 p hp) (hy p fun hq => hp (fits_parts hs hq)),
    fun k hn => absurd ((KeySet.any_all (k := k) hk).symm.trans hn) (by decide)⟩, h.2.trans ho⟩

/-! ### Writing entries -/

theorem Eff.wr {ps : List Part} {ks : List KeySet} {s x : State} {k v : Nat} (h : Eff ps ks s x)
    (hr : ps.contains .regs = true) (hk : ks.any (·.has k) = true) : Eff ps ks s (x.wr k v) := by
  refine ⟨⟨fun p hp => ?_, fun j hj => ?_⟩, h.2.trans (Sound.of_eq rfl rfl rfl)⟩
  · cases p <;> first | exact h.1.1 _ hp | exact absurd (List.contains_iff_mem.mp hr) hp
  · rw [State.rd_wr, if_neg, h.1.2 j hj]
    rintro rfl; rw [hk] at hj; cases hj

theorem Eff.inc {ps : List Part} {ks : List KeySet} {s x : State} {k w : Nat} (h : Eff ps ks s x)
    (hr : ps.contains .regs = true) (hk : ks.any (·.has k) = true) : Eff ps ks s (x.inc w k) := h.wr hr hk

theorem Eff.add {ps : List Part} {ks : List KeySet} {s x : State} {k w n : Nat} (h : Eff ps ks s x)
    (hr : ps.contains .regs = true) (hk : ks.any (·.has k) = true) : Eff ps ks s (x.add w k n) := h.wr hr hk

theorem Eff.unflag {ps : List Part} {ks : List KeySet} {s x : State} {k m : Nat} (h : Eff ps ks s x)
    (hr : ps.contains .regs = true) (hk : ks.any (·.has k) = true) : Eff ps ks s (x.unflag k m) := h.wr hr hk

theorem Eff.peak {ps : List Part} {ks : List KeySet} {s x : State} {k v : Nat} (h : Eff ps ks s x)
    (hr : ps.contains .regs = true) (hk : ks.any (·.has k) = true) : Eff ps ks s (x.peak k v) := by
  unfold State.peak; split
  · exact h.wr hr hk
  · exact h

end Sys2Proof.Machine
end

