-- ==== Sys2Proof/Laws/Update.lean ====
section
/-! SUPPORT. A change of some fields of State lies in a frame that has their kinds: one lemma for each set of fields that an operation
of the machine sets at once. -/

-- The proofs of this file are checked one after another, in one thread.
set_option Elab.async false

namespace Sys2Proof.Machine

theorem Eff.upd_arp {ps : List Part} {ks : List KeySet} {s x : State} {v0} (h : Eff ps ks s x)
    (hs : fits [.out] [] ps ks = true) : Eff ps ks s { x with arp := v0 } :=
  h.upd hs rfl (fun p hp => by cases p <;> simp_all [Part.same]) (Sound.of_eq rfl rfl rfl)

theorem Eff.upd_arrived {ps : List Part} {ks : List KeySet} {s x : State} {v0} (h : Eff ps ks s x)
    (hs : fits [.irq] [] ps ks = true) : Eff ps ks s { x with arrived := v0 } :=
  h.upd hs rfl (fun p hp => by cases p <;> simp_all [Part.same]) (Sound.of_eq rfl rfl rfl)

theorem Eff.upd_bars {ps : List Part} {ks : List KeySet} {s x : State} {v0} (h : Eff ps ks s x)
    (hs : fits [.slip] [] ps ks = true) : Eff ps ks s { x with bars := v0 } :=
  h.upd hs rfl (fun p hp => by cases p <;> simp_all [Part.same]) (Sound.of_eq rfl rfl rfl)

theorem Eff.upd_boot {ps : List Part} {ks : List KeySet} {s x : State} {v0} (h : Eff ps ks s x)
    (hs : fits [.boot] [] ps ks = true) : Eff ps ks s { x with boot := v0 } :=
  h.upd hs rfl (fun p hp => by cases p <;> simp_all [Part.same]) (Sound.of_eq rfl rfl rfl)

theorem Eff.upd_boot_cores {ps : List Part} {ks : List KeySet} {s x : State} {v0 v1} (h : Eff ps ks s x)
    (hs : fits [.boot] [] ps ks = true) : Eff ps ks s { x with boot := v0, cores := v1 } :=
  h.upd hs rfl (fun p hp => by cases p <;> simp_all [Part.same]) (Sound.of_eq rfl rfl rfl)

theorem Eff.upd_calRecs {ps : List Part} {ks : List KeySet} {s x : State} {v0} (h : Eff ps ks s x)
    (hs : fits [.boot] [] ps ks = true) : Eff ps ks s { x with calRecs := v0 } :=
  h.upd hs rfl (fun p hp => by cases p <;> simp_all [Part.same]) (Sound.of_eq rfl rfl rfl)

theorem Eff.upd_cams {ps : List Part} {ks : List KeySet} {s x : State} {v0} (h : Eff ps ks s x)
    (hs : fits [.cameras] [] ps ks = true) : Eff ps ks s { x with cams := v0 } :=
  h.upd hs rfl (fun p hp => by cases p <;> simp_all [Part.same]) (Sound.of_eq rfl rfl rfl)

theorem Eff.upd_chal {ps : List Part} {ks : List KeySet} {s x : State} {v0} (h : Eff ps ks s x)
    (hs : fits [.paths] [] ps ks = true) : Eff ps ks s { x with chal := v0 } :=
  h.upd hs rfl (fun p hp => by cases p <;> simp_all [Part.same]) (Sound.of_eq rfl rfl rfl)

theorem Eff.upd_cmps {ps : List Part} {ks : List KeySet} {s x : State} {v0} (h : Eff ps ks s x)
    (hs : fits [.wheel] [] ps ks = true) : Eff ps ks s { x with cmps := v0 } :=
  h.upd hs rfl (fun p hp => by cases p <;> simp_all [Part.same]) (Sound.of_eq rfl rfl rfl)

theorem Eff.upd_coding {ps : List Part} {ks : List KeySet} {s x : State} {v0} (h : Eff ps ks s x)
    (hs : fits [.seam] [] ps ks = true) : Eff ps ks s { x with coding := v0 } :=
  h.upd hs rfl (fun p hp => by cases p <;> simp_all [Part.same]) (Sound.of_eq rfl rfl rfl)

theorem Eff.upd_commitBands {ps : List Part} {ks : List KeySet} {s x : State} {v0} (h : Eff ps ks s x)
    (hs : fits [.pool] [] ps ks = true) : Eff ps ks s { x with commitBands := v0 } :=
  h.upd hs rfl (fun p hp => by cases p <;> simp_all [Part.same]) (Sound.of_eq rfl rfl rfl)

theorem Eff.upd_coreFaults {ps : List Part} {ks : List KeySet} {s x : State} {v0} (h : Eff ps ks s x)
    (hs : fits [.boot] [] ps ks = true) : Eff ps ks s { x with coreFaults := v0 } :=
  h.upd hs rfl (fun p hp => by cases p <;> simp_all [Part.same]) (Sound.of_eq rfl rfl rfl)

theorem Eff.upd_cores {ps : List Part} {ks : List KeySet} {s x : State} {v0} (h : Eff ps ks s x)
    (hs : fits [.boot] [] ps ks = true) : Eff ps ks s { x with cores := v0 } :=
  h.upd hs rfl (fun p hp => by cases p <;> simp_all [Part.same]) (Sound.of_eq rfl rfl rfl)

theorem Eff.upd_cropJobs {ps : List Part} {ks : List KeySet} {s x : State} {v0} (h : Eff ps ks s x)
    (hs : fits [.engines] [] ps ks = true) : Eff ps ks s { x with cropJobs := v0 } :=
  h.upd hs rfl (fun p hp => by cases p <;> simp_all [Part.same]) (Sound.of_eq rfl rfl rfl)

theorem Eff.upd_ctxs {ps : List Part} {ks : List KeySet} {s x : State} {v0} (h : Eff ps ks s x)
    (hs : fits [.prism] [] ps ks = true) : Eff ps ks s { x with ctxs := v0 } :=
  h.upd hs rfl (fun p hp => by cases p <;> simp_all [Part.same]) (Sound.of_eq rfl rfl rfl)

theorem Eff.upd_ctxs_seam {ps : List Part} {ks : List KeySet} {s x : State} {v0 v1} (h : Eff ps ks s x)
    (hs : fits [.prism, .seam] [] ps ks = true) : Eff ps ks s { x with ctxs := v0, seam := v1 } :=
  h.upd hs rfl (fun p hp => by cases p <;> simp_all [Part.same]) (Sound.of_eq rfl rfl rfl)

theorem Eff.upd_ctxs_seam_coding {ps : List Part} {ks : List KeySet} {s x : State} {v0 v1 v2} (h : Eff ps ks s x)
    (hs : fits [.prism, .seam] [] ps ks = true) : Eff ps ks s { x with ctxs := v0, seam := v1, coding := v2 } :=
  h.upd hs rfl (fun p hp => by cases p <;> simp_all [Part.same]) (Sound.of_eq rfl rfl rfl)

theorem Eff.upd_dmas {ps : List Part} {ks : List KeySet} {s x : State} {v0} (h : Eff ps ks s x)
    (hs : fits [.memory] [] ps ks = true) : Eff ps ks s { x with dmas := v0 } :=
  h.upd hs rfl (fun p hp => by cases p <;> simp_all [Part.same]) (Sound.of_eq rfl rfl rfl)

theorem Eff.upd_domLens {ps : List Part} {ks : List KeySet} {s x : State} {v0} (h : Eff ps ks s x)
    (hs : fits [.domains] [] ps ks = true) : Eff ps ks s { x with domLens := v0 } :=
  h.upd hs rfl (fun p hp => by cases p <;> simp_all [Part.same]) (Sound.of_eq rfl rfl rfl)

theorem Eff.upd_dom_domLens {ps : List Part} {ks : List KeySet} {s x : State} {v0 v1} (h : Eff ps ks s x)
    (hs : fits [.domains] [] ps ks = true) : Eff ps ks s { x with dom := v0, domLens := v1 } :=
  h.upd hs rfl (fun p hp => by cases p <;> simp_all [Part.same]) (Sound.of_eq rfl rfl rfl)

theorem Eff.upd_drams {ps : List Part} {ks : List KeySet} {s x : State} {v0} (h : Eff ps ks s x)
    (hs : fits [.memory] [] ps ks = true) : Eff ps ks s { x with drams := v0 } :=
  h.upd hs rfl (fun p hp => by cases p <;> simp_all [Part.same]) (Sound.of_eq rfl rfl rfl)

theorem Eff.upd_encs {ps : List Part} {ks : List KeySet} {s x : State} {v0} (h : Eff ps ks s x)
    (hs : fits [.wheel] [] ps ks = true) : Eff ps ks s { x with encs := v0 } :=
  h.upd hs rfl (fun p hp => by cases p <;> simp_all [Part.same]) (Sound.of_eq rfl rfl rfl)

theorem Eff.upd_ethOut {ps : List Part} {ks : List KeySet} {s x : State} {v0} (h : Eff ps ks s x)
    (hs : fits [.out] [] ps ks = true) : Eff ps ks s { x with ethOut := v0 } :=
  h.upd hs rfl (fun p hp => by cases p <;> simp_all [Part.same]) (Sound.of_eq rfl rfl rfl)

theorem Eff.upd_faultTimes {ps : List Part} {ks : List KeySet} {s x : State} {v0} (h : Eff ps ks s x)
    (hs : fits [.witness] [] ps ks = true) : Eff ps ks s { x with faultTimes := v0 } :=
  h.upd hs rfl (fun p hp => by cases p <;> simp_all [Part.same]) (Sound.of_eq rfl rfl rfl)

theorem Eff.upd_free {ps : List Part} {ks : List KeySet} {s x : State} {v0} (h : Eff ps ks s x)
    (hs : fits [.free] [] ps ks = true) : Eff ps ks s { x with free := v0 } :=
  h.upd hs rfl (fun p hp => by cases p <;> simp_all [Part.same]) (Sound.of_eq rfl rfl rfl)

theorem Eff.upd_fuses {ps : List Part} {ks : List KeySet} {s x : State} {v0} (h : Eff ps ks s x)
    (hs : fits [.fuses] [] ps ks = true)
    (h1 : x.fuses.version ≤ v0.version) (h2 : ∀ i, bitOf x.fuses.revoked i = true → bitOf v0.revoked i = true)
    (h3 : v0.keyHash = x.fuses.keyHash) : Eff ps ks s { x with fuses := v0 } :=
  h.upd hs rfl (fun p hp => by cases p <;> simp_all [Part.same]) ⟨rfl, id, h1, h2, h3⟩

theorem Eff.upd_gas {ps : List Part} {ks : List KeySet} {s x : State} {v0} (h : Eff ps ks s x)
    (hs : fits [.gauge] [] ps ks = true) : Eff ps ks s { x with gas := v0 } :=
  h.upd hs rfl (fun p hp => by cases p <;> simp_all [Part.same]) (Sound.of_eq rfl rfl rfl)

theorem Eff.upd_gens {ps : List Part} {ks : List KeySet} {s x : State} {v0} (h : Eff ps ks s x)
    (hs : fits [.wheel] [] ps ks = true) : Eff ps ks s { x with gens := v0 } :=
  h.upd hs rfl (fun p hp => by cases p <;> simp_all [Part.same]) (Sound.of_eq rfl rfl rfl)

theorem Eff.upd_gens_trigs {ps : List Part} {ks : List KeySet} {s x : State} {v0 v1} (h : Eff ps ks s x)
    (hs : fits [.wheel] [] ps ks = true) : Eff ps ks s { x with gens := v0, trigs := v1 } :=
  h.upd hs rfl (fun p hp => by cases p <;> simp_all [Part.same]) (Sound.of_eq rfl rfl rfl)

theorem Eff.upd_glaze {ps : List Part} {ks : List KeySet} {s x : State} {v0} (h : Eff ps ks s x)
    (hs : fits [.glaze] [] ps ks = true) : Eff ps ks s { x with glaze := v0 } :=
  h.upd hs rfl (fun p hp => by cases p <;> simp_all [Part.same]) (Sound.of_eq rfl rfl rfl)

theorem Eff.upd_gpioIn {ps : List Part} {ks : List KeySet} {s x : State} {v0} (h : Eff ps ks s x)
    (hs : fits [.pins] [] ps ks = true) : Eff ps ks s { x with gpioIn := v0 } :=
  h.upd hs rfl (fun p hp => by cases p <;> simp_all [Part.same]) (Sound.of_eq rfl rfl rfl)

theorem Eff.upd_heads {ps : List Part} {ks : List KeySet} {s x : State} {v0} (h : Eff ps ks s x)
    (hs : fits [.kiln] [] ps ks = true) : Eff ps ks s { x with heads := v0 } :=
  h.upd hs rfl (fun p hp => by cases p <;> simp_all [Part.same]) (Sound.of_eq rfl rfl rfl)

theorem Eff.upd_holdEnds {ps : List Part} {ks : List KeySet} {s x : State} {v0} (h : Eff ps ks s x)
    (hs : fits [.irq] [] ps ks = true) : Eff ps ks s { x with holdEnds := v0 } :=
  h.upd hs rfl (fun p hp => by cases p <;> simp_all [Part.same]) (Sound.of_eq rfl rfl rfl)

theorem Eff.upd_hostOut {ps : List Part} {ks : List KeySet} {s x : State} {v0} (h : Eff ps ks s x)
    (hs : fits [.out] [] ps ks = true) : Eff ps ks s { x with hostOut := v0 } :=
  h.upd hs rfl (fun p hp => by cases p <;> simp_all [Part.same]) (Sound.of_eq rfl rfl rfl)

theorem Eff.upd_hot {ps : List Part} {ks : List KeySet} {s x : State} {v0} (h : Eff ps ks s x)
    (hs : fits [.boot] [] ps ks = true) : Eff ps ks s { x with hot := v0 } :=
  h.upd hs rfl (fun p hp => by cases p <;> simp_all [Part.same]) (Sound.of_eq rfl rfl rfl)

theorem Eff.upd_loop {ps : List Part} {ks : List KeySet} {s x : State} {v0} (h : Eff ps ks s x)
    (hs : fits [.loop] [] ps ks = true) : Eff ps ks s { x with loop := v0 } :=
  h.upd hs rfl (fun p hp => by cases p <;> simp_all [Part.same]) (Sound.of_eq rfl rfl rfl)

theorem Eff.upd_maskSetAt {ps : List Part} {ks : List KeySet} {s x : State} {v0} (h : Eff ps ks s x)
    (hs : fits [.irq] [] ps ks = true) : Eff ps ks s { x with maskSetAt := v0 } :=
  h.upd hs rfl (fun p hp => by cases p <;> simp_all [Part.same]) (Sound.of_eq rfl rfl rfl)

theorem Eff.upd_mem {ps : List Part} {ks : List KeySet} {s x : State} {v0} (h : Eff ps ks s x)
    (hs : fits [.mem] [] ps ks = true)
    (hm : x.memOk → Memory.wf v0 = true) : Eff ps ks s { x with mem := v0 } :=
  h.upd hs rfl (fun p hp => by cases p <;> simp_all [Part.same]) (Sound.of_mem rfl hm rfl)

theorem Eff.upd_mem_boot {ps : List Part} {ks : List KeySet} {s x : State} {v0 v1} (h : Eff ps ks s x)
    (hs : fits [.mem, .boot] [] ps ks = true)
    (hm : x.memOk → Memory.wf v0 = true) : Eff ps ks s { x with mem := v0, boot := v1 } :=
  h.upd hs rfl (fun p hp => by cases p <;> simp_all [Part.same]) (Sound.of_mem rfl hm rfl)

theorem Eff.upd_mirs {ps : List Part} {ks : List KeySet} {s x : State} {v0} (h : Eff ps ks s x)
    (hs : fits [.wheel] [] ps ks = true) : Eff ps ks s { x with mirs := v0 } :=
  h.upd hs rfl (fun p hp => by cases p <;> simp_all [Part.same]) (Sound.of_eq rfl rfl rfl)

theorem Eff.upd_msix {ps : List Part} {ks : List KeySet} {s x : State} {v0} (h : Eff ps ks s x)
    (hs : fits [.irq] [] ps ks = true) : Eff ps ks s { x with msix := v0 } :=
  h.upd hs rfl (fun p hp => by cases p <;> simp_all [Part.same]) (Sound.of_eq rfl rfl rfl)

theorem Eff.upd_now {ps : List Part} {ks : List KeySet} {s x : State} {v0} (h : Eff ps ks s x)
    (hs : fits [.clock] [] ps ks = true) : Eff ps ks s { x with now := v0 } :=
  h.upd hs rfl (fun p hp => by cases p <;> simp_all [Part.same]) (Sound.of_eq rfl rfl rfl)

theorem Eff.upd_own {ps : List Part} {ks : List KeySet} {s x : State} {v0} (h : Eff ps ks s x)
    (hs : fits [.owners] [] ps ks = true) : Eff ps ks s { x with own := v0 } :=
  h.upd hs rfl (fun p hp => by cases p <;> simp_all [Part.same]) (Sound.of_eq rfl rfl rfl)

theorem Eff.upd_pins {ps : List Part} {ks : List KeySet} {s x : State} {v0} (h : Eff ps ks s x)
    (hs : fits [.pins] [] ps ks = true) : Eff ps ks s { x with pins := v0 } :=
  h.upd hs rfl (fun p hp => by cases p <;> simp_all [Part.same]) (Sound.of_eq rfl rfl rfl)

theorem Eff.upd_pipes {ps : List Part} {ks : List KeySet} {s x : State} {v0} (h : Eff ps ks s x)
    (hs : fits [.prism] [] ps ks = true) : Eff ps ks s { x with pipes := v0 } :=
  h.upd hs rfl (fun p hp => by cases p <;> simp_all [Part.same]) (Sound.of_eq rfl rfl rfl)

theorem Eff.upd_ports {ps : List Part} {ks : List KeySet} {s x : State} {v0} (h : Eff ps ks s x)
    (hs : fits [.kiln] [] ps ks = true) : Eff ps ks s { x with ports := v0 } :=
  h.upd hs rfl (fun p hp => by cases p <;> simp_all [Part.same]) (Sound.of_eq rfl rfl rfl)

theorem Eff.upd_power {ps : List Part} {ks : List KeySet} {s x : State} {v0} (h : Eff ps ks s x)
    (hs : fits [.boot] [] ps ks = true) : Eff ps ks s { x with power := v0 } :=
  h.upd hs rfl (fun p hp => by cases p <;> simp_all [Part.same]) (Sound.of_eq rfl rfl rfl)

theorem Eff.upd_probes {ps : List Part} {ks : List KeySet} {s x : State} {v0} (h : Eff ps ks s x)
    (hs : fits [.wheel] [] ps ks = true) : Eff ps ks s { x with probes := v0 } :=
  h.upd hs rfl (fun p hp => by cases p <;> simp_all [Part.same]) (Sound.of_eq rfl rfl rfl)

theorem Eff.upd_queues {ps : List Part} {ks : List KeySet} {s x : State} {v0} (h : Eff ps ks s x)
    (hs : fits [.memory] [] ps ks = true) : Eff ps ks s { x with queues := v0 } :=
  h.upd hs rfl (fun p hp => by cases p <;> simp_all [Part.same]) (Sound.of_eq rfl rfl rfl)

theorem Eff.upd_raised {ps : List Part} {ks : List KeySet} {s x : State} {v0} (h : Eff ps ks s x)
    (hs : fits [.events] [] ps ks = true) : Eff ps ks s { x with raised := v0 } :=
  h.upd hs rfl (fun p hp => by cases p <;> simp_all [Part.same]) (Sound.of_eq rfl rfl rfl)

theorem Eff.upd_readData {ps : List Part} {ks : List KeySet} {s x : State} {v0} (h : Eff ps ks s x)
    (hs : fits [.reads] [] ps ks = true) : Eff ps ks s { x with readData := v0 } :=
  h.upd hs rfl (fun p hp => by cases p <;> simp_all [Part.same]) (Sound.of_eq rfl rfl rfl)

theorem Eff.upd_regs {ps : List Part} {ks : List KeySet} {s x : State} {v0} (h : Eff ps ks s x)
    (hs : fits [.regs] [] ps ks = true)
    (hk : ks.contains .all = true) : Eff ps ks s { x with regs := v0 } :=
  h.updAll hs hk (fun p hp => by cases p <;> simp_all [Part.same]) (Sound.of_eq rfl rfl rfl)

theorem Eff.upd_regs_dom_domLens {ps : List Part} {ks : List KeySet} {s x : State} {v0 v1 v2} (h : Eff ps ks s x)
    (hs : fits [.regs, .domains] [] ps ks = true)
    (hk : ks.contains .all = true) : Eff ps ks s { x with regs := v0, dom := v1, domLens := v2 } :=
  h.updAll hs hk (fun p hp => by cases p <;> simp_all [Part.same]) (Sound.of_eq rfl rfl rfl)

theorem Eff.upd_scan {ps : List Part} {ks : List KeySet} {s x : State} {v0} (h : Eff ps ks s x)
    (hs : fits [.kiln] [] ps ks = true) : Eff ps ks s { x with scan := v0 } :=
  h.upd hs rfl (fun p hp => by cases p <;> simp_all [Part.same]) (Sound.of_eq rfl rfl rfl)

theorem Eff.upd_seam {ps : List Part} {ks : List KeySet} {s x : State} {v0} (h : Eff ps ks s x)
    (hs : fits [.seam] [] ps ks = true) : Eff ps ks s { x with seam := v0 } :=
  h.upd hs rfl (fun p hp => by cases p <;> simp_all [Part.same]) (Sound.of_eq rfl rfl rfl)

theorem Eff.upd_sessions {ps : List Part} {ks : List KeySet} {s x : State} {v0} (h : Eff ps ks s x)
    (hs : fits [.paths] [] ps ks = true) : Eff ps ks s { x with sessions := v0 } :=
  h.upd hs rfl (fun p hp => by cases p <;> simp_all [Part.same]) (Sound.of_eq rfl rfl rfl)

theorem Eff.upd_shDom_shDomLens {ps : List Part} {ks : List KeySet} {s x : State} {v0 v1} (h : Eff ps ks s x)
    (hs : fits [.staged] [] ps ks = true) : Eff ps ks s { x with shDom := v0, shDomLens := v1 } :=
  h.upd hs rfl (fun p hp => by cases p <;> simp_all [Part.same]) (Sound.of_eq rfl rfl rfl)

theorem Eff.upd_shadow {ps : List Part} {ks : List KeySet} {s x : State} {v0} (h : Eff ps ks s x)
    (hs : fits [.staged] [] ps ks = true) : Eff ps ks s { x with shadow := v0 } :=
  h.upd hs rfl (fun p hp => by cases p <;> simp_all [Part.same]) (Sound.of_eq rfl rfl rfl)

theorem Eff.upd_shadow_shDom_shDomLens {ps : List Part} {ks : List KeySet} {s x : State} {v0 v1 v2} (h : Eff ps ks s x)
    (hs : fits [.staged] [] ps ks = true) : Eff ps ks s { x with shadow := v0, shDom := v1, shDomLens := v2 } :=
  h.upd hs rfl (fun p hp => by cases p <;> simp_all [Part.same]) (Sound.of_eq rfl rfl rfl)

theorem Eff.upd_sherds {ps : List Part} {ks : List KeySet} {s x : State} {v0} (h : Eff ps ks s x)
    (hs : fits [.pool] [] ps ks = true) : Eff ps ks s { x with sherds := v0 } :=
  h.upd hs rfl (fun p hp => by cases p <;> simp_all [Part.same]) (Sound.of_eq rfl rfl rfl)

theorem Eff.upd_skl {ps : List Part} {ks : List KeySet} {s x : State} {v0} (h : Eff ps ks s x)
    (hs : fits [.link] [] ps ks = true) : Eff ps ks s { x with skl := v0 } :=
  h.upd hs rfl (fun p hp => by cases p <;> simp_all [Part.same]) (Sound.of_eq rfl rfl rfl)

theorem Eff.upd_slip {ps : List Part} {ks : List KeySet} {s x : State} {v0} (h : Eff ps ks s x)
    (hs : fits [.slip] [] ps ks = true) : Eff ps ks s { x with slip := v0 } :=
  h.upd hs rfl (fun p hp => by cases p <;> simp_all [Part.same]) (Sound.of_eq rfl rfl rfl)

theorem Eff.upd_stateAt {ps : List Part} {ks : List KeySet} {s x : State} {v0} (h : Eff ps ks s x)
    (hs : fits [.device] [] ps ks = true) : Eff ps ks s { x with stateAt := v0 } :=
  h.upd hs rfl (fun p hp => by cases p <;> simp_all [Part.same]) (Sound.of_eq rfl rfl rfl)

theorem Eff.upd_sync {ps : List Part} {ks : List KeySet} {s x : State} {v0} (h : Eff ps ks s x)
    (hs : fits [.time] [] ps ks = true) : Eff ps ks s { x with sync := v0 } :=
  h.upd hs rfl (fun p hp => by cases p <;> simp_all [Part.same]) (Sound.of_eq rfl rfl rfl)

theorem Eff.upd_syncAt {ps : List Part} {ks : List KeySet} {s x : State} {v0} (h : Eff ps ks s x)
    (hs : fits [.gauge] [] ps ks = true) : Eff ps ks s { x with syncAt := v0 } :=
  h.upd hs rfl (fun p hp => by cases p <;> simp_all [Part.same]) (Sound.of_eq rfl rfl rfl)

theorem Eff.upd_tasks {ps : List Part} {ks : List KeySet} {s x : State} {v0} (h : Eff ps ks s x)
    (hs : fits [.events] [] ps ks = true) : Eff ps ks s { x with tasks := v0 } :=
  h.upd hs rfl (fun p hp => by cases p <;> simp_all [Part.same]) (Sound.of_eq rfl rfl rfl)

theorem Eff.upd_timeBase_timeC0 {ps : List Part} {ks : List KeySet} {s x : State} {v0 v1} (h : Eff ps ks s x)
    (hs : fits [.time] [] ps ks = true) : Eff ps ks s { x with timeBase := v0, timeC0 := v1 } :=
  h.upd hs rfl (fun p hp => by cases p <;> simp_all [Part.same]) (Sound.of_eq rfl rfl rfl)

theorem Eff.upd_trigs {ps : List Part} {ks : List KeySet} {s x : State} {v0} (h : Eff ps ks s x)
    (hs : fits [.wheel] [] ps ks = true) : Eff ps ks s { x with trigs := v0 } :=
  h.upd hs rfl (fun p hp => by cases p <;> simp_all [Part.same]) (Sound.of_eq rfl rfl rfl)

theorem Eff.upd_udpOut {ps : List Part} {ks : List KeySet} {s x : State} {v0} (h : Eff ps ks s x)
    (hs : fits [.out] [] ps ks = true) : Eff ps ks s { x with udpOut := v0 } :=
  h.upd hs rfl (fun p hp => by cases p <;> simp_all [Part.same]) (Sound.of_eq rfl rfl rfl)

theorem Eff.upd_umb {ps : List Part} {ks : List KeySet} {s x : State} {v0} (h : Eff ps ks s x)
    (hs : fits [.umbra] [] ps ks = true) : Eff ps ks s { x with umb := v0 } :=
  h.upd hs rfl (fun p hp => by cases p <;> simp_all [Part.same]) (Sound.of_eq rfl rfl rfl)

theorem Eff.upd_uplinks {ps : List Part} {ks : List KeySet} {s x : State} {v0} (h : Eff ps ks s x)
    (hs : fits [.cameras] [] ps ks = true) : Eff ps ks s { x with uplinks := v0 } :=
  h.upd hs rfl (fun p hp => by cases p <;> simp_all [Part.same]) (Sound.of_eq rfl rfl rfl)

theorem Eff.upd_views {ps : List Part} {ks : List KeySet} {s x : State} {v0} (h : Eff ps ks s x)
    (hs : fits [.seam] [] ps ks = true) : Eff ps ks s { x with views := v0 } :=
  h.upd hs rfl (fun p hp => by cases p <;> simp_all [Part.same]) (Sound.of_eq rfl rfl rfl)

theorem Eff.upd_wbuf {ps : List Part} {ks : List KeySet} {s x : State} {v0} (h : Eff ps ks s x)
    (hs : fits [.witness] [] ps ks = true) : Eff ps ks s { x with wbuf := v0 } :=
  h.upd hs rfl (fun p hp => by cases p <;> simp_all [Part.same]) (Sound.of_eq rfl rfl rfl)

theorem Eff.upd_wdog {ps : List Part} {ks : List KeySet} {s x : State} {v0} (h : Eff ps ks s x)
    (hs : fits [.boot] [] ps ks = true) : Eff ps ks s { x with wdog := v0 } :=
  h.upd hs rfl (fun p hp => by cases p <;> simp_all [Part.same]) (Sound.of_eq rfl rfl rfl)

theorem Eff.upd_wgap {ps : List Part} {ks : List KeySet} {s x : State} {v0} (h : Eff ps ks s x)
    (hs : fits [.witness] [] ps ks = true) : Eff ps ks s { x with wgap := v0 } :=
  h.upd hs rfl (fun p hp => by cases p <;> simp_all [Part.same]) (Sound.of_eq rfl rfl rfl)

theorem Eff.upd_wheel {ps : List Part} {ks : List KeySet} {s x : State} {v0} (h : Eff ps ks s x)
    (hs : fits [.wheel] [] ps ks = true) : Eff ps ks s { x with wheel := v0 } :=
  h.upd hs rfl (fun p hp => by cases p <;> simp_all [Part.same]) (Sound.of_eq rfl rfl rfl)

theorem Eff.upd_wheel_trigs {ps : List Part} {ks : List KeySet} {s x : State} {v0 v1} (h : Eff ps ks s x)
    (hs : fits [.wheel] [] ps ks = true) : Eff ps ks s { x with wheel := v0, trigs := v1 } :=
  h.upd hs rfl (fun p hp => by cases p <;> simp_all [Part.same]) (Sound.of_eq rfl rfl rfl)

theorem Eff.upd_wins {ps : List Part} {ks : List KeySet} {s x : State} {v0} (h : Eff ps ks s x)
    (hs : fits [.seam] [] ps ks = true) : Eff ps ks s { x with wins := v0 } :=
  h.upd hs rfl (fun p hp => by cases p <;> simp_all [Part.same]) (Sound.of_eq rfl rfl rfl)

theorem Eff.upd_wring_wgap {ps : List Part} {ks : List KeySet} {s x : State} {v0 v1} (h : Eff ps ks s x)
    (hs : fits [.witness] [] ps ks = true) : Eff ps ks s { x with wring := v0, wgap := v1 } :=
  h.upd hs rfl (fun p hp => by cases p <;> simp_all [Part.same]) (Sound.of_eq rfl rfl rfl)

theorem Eff.upd_xfers {ps : List Part} {ks : List KeySet} {s x : State} {v0} (h : Eff ps ks s x)
    (hs : fits [.paths] [] ps ks = true) : Eff ps ks s { x with xfers := v0 } :=
  h.upd hs rfl (fun p hp => by cases p <;> simp_all [Part.same]) (Sound.of_eq rfl rfl rfl)

theorem Eff.upd_zes {ps : List Part} {ks : List KeySet} {s x : State} {v0} (h : Eff ps ks s x)
    (hs : fits [.engines] [] ps ks = true) : Eff ps ks s { x with zes := v0 } :=
  h.upd hs rfl (fun p hp => by cases p <;> simp_all [Part.same]) (Sound.of_eq rfl rfl rfl)

end Sys2Proof.Machine
end

