-- ==== Sys2Proof/Laws/Side.lean ====
section
/-! SUPPORT. What the operations that everything else rests on may change: arrivals at the interrupt controller, Witness entries, events, and
the record of an access; and what an access answers. -/

-- The proofs of this file are checked one after another, in one thread.
set_option Elab.async false

namespace Sys2Proof.Machine

theorem State.msixSend_eff (s : State) (v : Nat) : Eff [.irq] [] s (s.msixSend v) := by
  unfold State.msixSend
  split
  · exact Eff.upd_msix Eff.refl rfl
  · exact Eff.upd_msix Eff.refl rfl

theorem State.hostSignal_eff (s : State) : Eff [.irq] [] s s.hostSignal := by
  unfold State.hostSignal
  split
  · split
    · exact (State.msixSend_eff _ _).after (Eff.upd_msix Eff.refl rfl) rfl
    · exact Eff.refl
  · exact Eff.refl

theorem State.countArrival_eff (s : State) (src : Nat) : Eff sideParts sideKeys s (s.countArrival src) := by
  unfold State.countArrival
  split
  · exact Eff.refl
  · exact Eff.upd_arrived (Eff.wr Eff.refl rfl (KeySet.any_run _ rfl)) rfl

theorem State.arrive_eff (s : State) (src : Nat) : Eff sideParts sideKeys s (s.arrive src) := by
  unfold State.arrive
  split
  · exact Eff.refl
  · extract_lets x y
    refine (State.hostSignal_eff _).after ?_ rfl
    have hx := State.countArrival_eff s src
    unfold y
    split
    · exact hx
    · exact Eff.wr hx rfl (KeySet.any_run _ rfl)

theorem Eff.arrive {ps : List Part} {ks : List KeySet} {s x : State} {src : Nat} (h : Eff ps ks s x)
    (hs : fits sideParts sideKeys ps ks = true) : Eff ps ks s (x.arrive src) := (x.arrive_eff src).after h hs

theorem Eff.flag {ps : List Part} {ks : List KeySet} {s x : State} {k m src : Nat} (h : Eff ps ks s x)
    (hs : fits sideParts sideKeys ps ks = true) (hk : ks.any (·.has k) = true) :
    Eff ps ks s (x.flag k m src) :=
  Eff.arrive (h.wr (List.contains_iff_mem.mpr (fits_parts hs (by decide))) hk) hs

theorem State.witness_eff (s : State) (kind unit lin d0 d1 : Nat) (last : Bool) :
    Eff sideParts sideKeys s (s.witness kind unit lin d0 d1 last) := by
  unfold State.witness
  split
  · exact Eff.inc Eff.refl rfl rfl
  · split
    · exact Eff.upd_wgap (Eff.flag (Eff.inc Eff.refl rfl rfl) rfl rfl) rfl
    · exact Eff.upd_wbuf Eff.refl rfl

theorem State.cutChannels_eff (l : List Nat) (s : State) : Eff sideParts sideKeys s (s.cutChannels l) := by
  induction l generalizing s with
  | nil => exact Eff.refl
  | cons c l ih => exact (ih _).after (Eff.wr Eff.refl rfl (KeySet.any_fam _ rfl)) rfl

theorem State.raiseAt_eff (s : State) (t ev lin : Nat) : Eff sideParts sideKeys s (s.raiseAt t ev lin) := by
  unfold State.raiseAt
  split
  · exact (State.witness_eff _ _ _ _ _ _ _).after (Eff.inc (Eff.flag (State.cutChannels_eff _ _) rfl rfl) rfl rfl) rfl
  · exact Eff.upd_raised Eff.refl rfl

theorem State.raise_eff (s : State) (ev lin : Nat) : Eff sideParts sideKeys s (s.raise ev lin) := s.raiseAt_eff s.now ev lin

/-- What every access leaves: its record (R40), and DICT_ERROR when it is refused. -/
theorem State.done_eff (s : State) (a : Acc) (k st : Nat) : Eff sideParts (accAnd []) s (s.done a k st) := by
  unfold State.done
  extract_lets x
  have hx : Eff sideParts (accAnd []) s x :=
    ((Eff.refl.inc rfl rfl).wr rfl (KeySet.any_fam _ rfl)).wr rfl (KeySet.any_fam _ rfl)
  split
  · exact hx
  · exact (State.raise_eff _ _ _).after
      (((((hx.inc rfl (KeySet.any_fam _ rfl)).inc rfl rfl).wr rfl rfl).wr rfl rfl).wr rfl rfl) rfl

theorem Eff.act {ps : List Part} {ks : List KeySet} {s x : State} {a : Acc} {k own : Nat} {eff : State → State}
    (h : Eff ps ks s x) (he : ∀ y, Eff ps ks s y → Eff ps ks s (eff y))
    (hs : fits sideParts (accAnd []) ps ks = true) : Eff ps ks s (x.act a k own eff) := by
  unfold State.act
  extract_lets st
  split
  · exact (State.done_eff _ _ _ _).after (he _ h) hs
  · exact (State.done_eff _ _ _ _).after h hs

theorem State.takeMsg_eff {s : State} {m : Msg} {r : Nat × Nat × State} (h : s.takeMsg m = some r) : Eff [.link] [] s r.2.2 := by
  unfold State.takeMsg at h
  split at h
  · cases h
    exact Eff.upd_skl Eff.refl rfl
  · cases h

theorem State.takeTrig_eff {s : State} {g : Nat} {r : Trig × State} (h : s.takeTrig g = some r) : Eff [.wheel] [] s r.2 := by
  unfold State.takeTrig at h
  split at h
  · cases h
    exact Eff.upd_trigs Eff.refl rfl
  · cases h

theorem State.takeTask_eff {s : State} {i : Nat} {r : Delivery × State} (h : s.takeTask i = some r) : Eff [.events] [] s r.2 := by
  unfold State.takeTask at h
  split at h
  · cases h
    exact Eff.upd_tasks Eff.refl rfl
  · cases h

theorem State.enqueue_eff {s : State} {p : Nat} {m : SkMsg} {t : State} (h : s.enqueue p m = some t) : Eff [.link] [] s t := by
  unfold State.enqueue at h
  extract_lets at h
  split at h
  · cases h
  · cases h
    exact Eff.upd_skl Eff.refl rfl

theorem inst_next {b : Bool} {s t : State} (h : inst b s = .next t) : b = true ∧ s = t := by
  unfold inst at h; split at h
  · cases h; exact ⟨‹_›, rfl⟩
  · cases h

theorem inst_true {b : Bool} {s : State} (h : b = true) : inst b s = .next s := by simp [inst, h]

/-! ### What an access answers (R39, R40) -/

theorem State.act_ok {s : State} {a : Acc} {k own : Nat} {eff : State → State} (h : s.writeStatus a k = 0) (ho : own = 0) :
    s.act a k own eff = (eff s).done a k 0 := by
  simp [State.act, h, ho]

theorem State.act_refused {s : State} {a : Acc} {k own : Nat} {eff : State → State} (h : s.writeStatus a k ≠ 0) :
    s.act a k own eff = s.done a k (s.writeStatus a k) := by
  have : ∀ st, s.writeStatus a k = st → st ≠ 0 → s.act a k own eff = s.done a k st := by
    intro st h1 h2
    cases st with
    | zero => exact absurd rfl h2
    | succ n => simp [State.act, h1]
  exact this _ rfl h

theorem State.act_own {s : State} {a : Acc} {k own : Nat} {eff : State → State} (h : s.writeStatus a k = 0) (ho : own ≠ 0) :
    s.act a k own eff = s.done a k own := by
  simp [State.act, h, ho]

/-- The record of an access that is carried out. -/
theorem State.done_ok (s : State) (a : Acc) (k : Nat) :
    s.done a k 0 = ((s.inc 64 K.dictAccessCount).wr (K.pathLastStatus a.path) 0).wr (K.pathLastEntry a.path) k := by
  simp [State.done]

@[simp] theorem State.done_ok_status (s : State) (a : Acc) (k : Nat) : (s.done a k 0).rd (K.pathLastStatus a.path) = 0 := by
  rw [State.done_ok, State.rd_wr_ne _ _ (by simp), State.rd_wr_self]

theorem State.done_ok_eff (s : State) (a : Acc) (k : Nat) :
    Eff [.regs] [.one K.dictAccessCount, .fam (K.pathLastStatus 0) 7, .fam (K.pathLastEntry 0) 7] s (s.done a k 0) := by
  rw [State.done_ok]
  exact ((Eff.refl.inc rfl rfl).wr rfl (KeySet.any_fam _ rfl)).wr rfl (KeySet.any_fam _ rfl)

theorem State.done_ok_rd (s : State) (a : Acc) (k j : Nat) (h1 : j ≠ K.dictAccessCount) (h2 : j ≠ K.pathLastStatus a.path)
    (h3 : j ≠ K.pathLastEntry a.path) : (s.done a k 0).rd j = s.rd j := by
  rw [State.done_ok, State.rd_wr_ne _ _ h3, State.rd_wr_ne _ _ h2, State.inc, State.rd_wr_ne _ _ h1]

/-- A served access's record comes after its effect. -/
theorem Eff.done_ok {ps : List Part} {ks : List KeySet} {s x : State} {a : Acc} {k : Nat} (h : Eff ps ks s x)
    (hr : ps.contains .regs = true) : Eff ps (okAnd a ks) s (x.done a k 0) := by
  have hw : ∀ {y : State}, Eff ps ks s y → Eff ps (okAnd a ks) s y := fun h =>
    ⟨⟨h.1.1, fun j hj => h.1.2 j (by simp only [okAnd, List.any_append, Bool.or_eq_false_iff] at hj; exact hj.2)⟩, h.2⟩
  rw [State.done_ok]
  refine (((hw h).inc hr ?_).wr hr ?_).wr hr ?_ <;> simp [okAnd, KeySet.has]

theorem okSide_eq (a : Acc) (ks : List KeySet) {ps : List Part} {s t : State} (h : Eff ps (okAnd a (sideKeys ++ ks)) s t) :
    Eff ps (okSide a ks) s t := by
  refine ⟨⟨h.1.1, fun j hj => h.1.2 j ?_⟩, h.2⟩
  simp only [okSide, okAnd, List.any_append, Bool.or_eq_false_iff] at hj ⊢
  exact ⟨hj.2.1, hj.1, hj.2.2⟩

end Sys2Proof.Machine
end

