-- ==== Sys2Proof/Laws/Ops.lean ====
section
/-! SUPPORT. What each operation of Machine/Ops.lean may change. -/

-- The proofs of this file are checked one after another, in one thread.
set_option Elab.async false

namespace Sys2Proof.Machine

theorem State.setSherdsFree_eff (s : State) (n : Nat) :
    Eff sideParts (sideAnd [.one K.poolFreeLow, .one K.poolPoolStatus, .one K.poolSherdsFree]) s (State.setSherdsFree s n) := by
  unfold State.setSherdsFree
  extract_lets +onlyGivenNames x1
  clear_value (ex1 : x1 = _)
  refine Eff.have ex1 (Eff.wr Eff.refl rfl rfl) fun hx1 => ?_
  extract_lets +onlyGivenNames x2
  clear_value (ex2 : x2 = _)
  refine Eff.have ex2 (Eff.ite (Eff.wr hx1 rfl rfl) hx1) fun hx2 => ?_
  exact Eff.ite (Eff.flag hx2 rfl rfl) hx2

theorem State.add_eff (s : State) (w : Nat) (k : Nat) (n : Nat) :
    Eff [.regs] [.all] s (State.add s w k n) := by
  unfold State.add
  exact Eff.wr Eff.refl rfl (KeySet.any_all rfl)

theorem State.enter_eff (s : State) (new : Nat) (last : Bool) :
    Eff (withSide [.device]) (sideAnd [.one K.devDeviceState, .one K.devStateChanges, .one K.devStateTime]) s (State.enter s new
        last) := by
  unfold State.enter
  extract_lets +onlyGivenNames v1
  clear_value v1
  exact (State.raise_eff ..).after ((State.witness_eff ..).after (Eff.wr (Eff.inc (Eff.wr (Eff.upd_stateAt Eff.refl rfl) rfl rfl)
      rfl rfl) rfl rfl) rfl) rfl

theorem State.domWrite_eff (s : State) (k : Nat) (off : Nat) (l : List Nat) :
    Eff [.domains] [] s (State.domWrite s k off l) := by
  unfold State.domWrite
  exact Eff.upd_dom_domLens Eff.refl rfl

theorem State.mapError_eff (s : State) (a : Nat) :
    Eff sideParts (sideAnd [.one K.dramLastMapError, .one K.dramMapErrors, .one K.dramMemStatus]) s (State.mapError s a) := by
  unfold State.mapError
  exact (State.raise_eff ..).after (Eff.wr (Eff.inc (Eff.flag Eff.refl rfl rfl) rfl rfl) rfl rfl) rfl

theorem State.blockWrite_eff (s : State) (port : Nat) (a : Nat) (l : List Nat) :
    Eff (withSide [.mem]) (sideAnd [.fam (K.portBytesWritten 0) 12, .one K.dramLastMapError, .one K.dramMapErrors, .one
        K.dramMemStatus]) s (State.blockWrite s port a l) := by
  unfold State.blockWrite
  exact Eff.ite (Eff.add (Eff.upd_mem Eff.refl rfl (fun h => Memory.wf_memPuts _ _ h)) rfl (KeySet.any_fam _ rfl))
      ((State.mapError_eff ..).after Eff.refl rfl)

theorem State.offer_eff (s : State) (q : Nat) (bytes : List Nat) :
    Eff (withSide [.memory]) (sideAnd [.fam (K.qsFill 0) 64, .fam (K.qsFillPeak 0) 64, .fam (K.qsItemsIn 0) 64, .fam
        (K.qsNoCreditCount 0) 64, .fam (K.qsQueueStatus 0) 64, .one K.quesSizeErrors]) s (State.offer s q bytes).2 := by
  unfold State.offer
  split
  · exact Eff.pair2 ((State.raise_eff ..).after (Eff.flag (Eff.inc Eff.refl rfl rfl) rfl (KeySet.any_fam _ rfl)) rfl)
  · split
    · exact Eff.pair2 (Eff.flag (Eff.inc Eff.refl rfl (KeySet.any_fam _ rfl)) rfl (KeySet.any_fam _ rfl))
    · extract_lets +onlyGivenNames v1
      clear_value v1
      extract_lets +onlyGivenNames v2
      clear_value v2
      extract_lets +onlyGivenNames x3
      clear_value (ex3 : x3 = _)
      refine Eff.have ex3 (Eff.upd_queues Eff.refl rfl) fun hx3 => ?_
      extract_lets +onlyGivenNames x4
      clear_value (ex4 : x4 = _)
      refine Eff.have ex4 (Eff.peak (Eff.wr hx3 rfl (KeySet.any_fam _ rfl)) rfl (KeySet.any_fam _ rfl)) fun hx4 => ?_
      exact Eff.pair2 (Eff.inc hx4 rfl (KeySet.any_fam _ rfl))

theorem State.offerTo_eff (s : State) (q : Nat) (bytes : List Nat) :
    Eff (withSide [.memory]) (sideAnd [.fam (K.qsFill 0) 64, .fam (K.qsFillPeak 0) 64, .fam (K.qsItemsIn 0) 64, .fam
        (K.qsNoCreditCount 0) 64, .fam (K.qsQueueStatus 0) 64, .one K.quesSizeErrors]) s (State.offerTo s q bytes).2 := by
  unfold State.offerTo
  split
  · exact Eff.pair2 Eff.refl
  · split
    · rename_i q1
      exact Eff.pair2 (Eff.to (congrArg (fun p => p.2) q1).symm ((State.offer_eff ..).after Eff.refl rfl))
    · rename_i q2
      exact Eff.pair2 (Eff.to (congrArg (fun p => p.2) q2).symm ((State.offer_eff ..).after Eff.refl rfl))

theorem State.fresh_eff (s : State) :
    Eff [.free] [] s (State.fresh s).2 := by
  unfold State.fresh
  exact Eff.pair2 (Eff.upd_free Eff.refl rfl)

theorem State.transient_eff (s : State) (unit : Nat) (bit : Nat) (windowMs : Nat) :
    Eff sideParts (sideAnd [.one K.fltFaultStatus, .one K.fltTransientCount]) s (State.transient s unit bit windowMs) := by
  unfold State.transient
  extract_lets +onlyGivenNames x1
  clear_value (ex1 : x1 = _)
  refine Eff.have ex1 (Eff.upd_faultTimes Eff.refl rfl) fun hx1 => ?_
  extract_lets +onlyGivenNames v2
  clear_value v2
  exact (State.raise_eff ..).after ((State.witness_eff ..).after (Eff.flag (Eff.inc hx1 rfl rfl) rfl rfl) rfl) rfl

theorem State.retire_eff (s : State) (unit : Nat) (bit : Nat) (faults : Nat) :
    Eff sideParts (sideAnd [.one K.fltFaultStatus, .one K.fltLastRetiredUnit, .one K.fltRetiredCount]) s (State.retire s unit bit
        faults) := by
  unfold State.retire
  exact (State.raise_eff ..).after (Eff.flag (Eff.wr (Eff.inc ((State.witness_eff ..).after Eff.refl rfl) rfl rfl) rfl rfl) rfl
      rfl) rfl

theorem State.flushQueue_eff (s : State) (q : Nat) :
    Eff (withSide [.memory]) (sideAnd [.fam (K.qsFill 0) 64, .fam (K.qsFlushCount 0) 64]) s (State.flushQueue s q) := by
  unfold State.flushQueue
  extract_lets +onlyGivenNames x1
  clear_value (ex1 : x1 = _)
  refine Eff.have ex1 (Eff.upd_queues Eff.refl rfl) fun hx1 => ?_
  exact (State.raise_eff ..).after (Eff.inc (Eff.wr hx1 rfl (KeySet.any_fam _ rfl)) rfl (KeySet.any_fam _ rfl)) rfl

theorem State.at_eff (s : State) (a1 : Nat) :
    Eff [.clock] [] s (State.at s a1) := by
  unfold State.at
  exact Eff.upd_now Eff.refl rfl

theorem State.blockRead_eff (s : State) (port : Nat) (a : Nat) (n : Nat) :
    Eff sideParts (sideAnd [.fam (K.portBytesRead 0) 12, .one K.dramLastMapError, .one K.dramMapErrors, .one K.dramMemStatus]) s
        (State.blockRead s port a n).2 := by
  unfold State.blockRead
  split
  · exact Eff.pair2 (Eff.add Eff.refl rfl (KeySet.any_fam _ rfl))
  · exact Eff.pair2 ((State.mapError_eff ..).after Eff.refl rfl)

theorem State.stage_eff (s : State) (k : Nat) (v : Nat) :
    Eff [.staged] [] s (State.stage s k v) := by
  unfold State.stage
  exact Eff.upd_shadow Eff.refl rfl

theorem State.shDomWrite_eff (s : State) (k : Nat) (off : Nat) (l : List Nat) :
    Eff [.staged] [] s (State.shDomWrite s k off l) := by
  unfold State.shDomWrite
  exact Eff.upd_shDom_shDomLens Eff.refl rfl

theorem State.flag_eff (s : State) (k : Nat) (m : Nat) (src : Nat) :
    Eff sideParts [.all] s (State.flag s k m src) := by
  unfold State.flag
  exact Eff.arrive (Eff.wr Eff.refl rfl (KeySet.any_all rfl)) rfl

theorem State.inc_eff (s : State) (w : Nat) (k : Nat) :
    Eff [.regs] [.all] s (State.inc s w k) := by
  unfold State.inc
  exact Eff.wr Eff.refl rfl (KeySet.any_all rfl)

theorem State.peak_eff (s : State) (k : Nat) (v : Nat) :
    Eff [.regs] [.all] s (State.peak s k v) := by
  unfold State.peak
  exact Eff.ite (Eff.wr Eff.refl rfl (KeySet.any_all rfl)) Eff.refl

theorem State.readmit_eff (s : State) (unit : Nat) :
    Eff sideParts (sideAnd [.one K.fltRetiredCount]) s (State.readmit s unit) := by
  unfold State.readmit
  extract_lets +onlyGivenNames x1
  clear_value (ex1 : x1 = _)
  refine Eff.have ex1 (Eff.upd_faultTimes Eff.refl rfl) fun hx1 => ?_
  exact (State.witness_eff ..).after (Eff.wr hx1 rfl rfl) rfl

theorem State.unflag_eff (s : State) (k : Nat) (m : Nat) :
    Eff [.regs] [.all] s (State.unflag s k m) := by
  unfold State.unflag
  exact Eff.wr Eff.refl rfl (KeySet.any_all rfl)

theorem State.wr_eff (s : State) (k : Nat) (v : Nat) :
    Eff [.regs] [.all] s (State.wr s k v) := by
  unfold State.wr
  exact Eff.upd_regs Eff.refl rfl rfl

end Sys2Proof.Machine
end

