-- ==== Sys2Proof/Laws/Operands.lean ====
section
/-! SUPPORT. What each operation of Machine/Operands.lean may change. -/

-- The proofs of this file are checked one after another, in one thread.
set_option Elab.async false

namespace Sys2Proof.Machine

theorem State.readDone_eff (s : State) (a : Acc) (k : Nat) (st : Nat) (v : Nat) :
    Eff (withSide [.reads]) (accAnd []) s (State.readDone s a k st v) := by
  unfold State.readDone
  extract_lets +onlyGivenNames x1
  clear_value (ex1 : x1 = _)
  refine Eff.have ex1 ((State.done_eff ..).after Eff.refl rfl) fun hx1 => ?_
  exact Eff.upd_readData hx1 rfl

end Sys2Proof.Machine
end

