-- ==== Sys2Proof/Laws/Irq.lean ====
section
/-! SUPPORT. What each operation of Machine/Irq.lean may change. -/

-- The proofs of this file are checked one after another, in one thread.
set_option Elab.async false

namespace Sys2Proof.Machine

theorem State.claimDone_eff (s : State) (a : Acc) (a1 : Nat) (st : Nat) (v : Nat) :
    Eff (withSide [.reads]) (accAnd []) s (State.claimDone s a a1 st v) := by
  unfold State.claimDone
  extract_lets +onlyGivenNames x1
  clear_value (ex1 : x1 = _)
  refine Eff.have ex1 ((State.done_eff ..).after Eff.refl rfl) fun hx1 => ?_
  exact Eff.upd_readData hx1 rfl

theorem State.clearPending_eff (s : State) (src : Nat) :
    Eff [.regs] [.span (K.pendPending 0) (K.pendPending 0 + 8)] s (State.clearPending s src) := by
  unfold State.clearPending
  exact Eff.wr Eff.refl rfl (KeySet.any_run _ rfl)

theorem maskSyncRead_eff (a : Acc) (s : State) :
    Eff (withSide [.free, .reads]) (accAnd []) s (maskSyncRead a s) := by
  unfold maskSyncRead
  extract_lets +onlyGivenNames v1
  clear_value v1
  exact Eff.ite ((State.readDone_eff ..).after Eff.refl rfl) ((State.readDone_eff ..).after ((State.fresh_eff ..).after Eff.refl
      rfl) rfl)

theorem State.startHoldOff_eff (s : State) (src : Nat) :
    Eff [.regs, .irq] [.one K.holdsHoldOffRunning] s (State.startHoldOff s src) := by
  unfold State.startHoldOff
  extract_lets +onlyGivenNames v1
  clear_value v1
  extract_lets +onlyGivenNames v2
  clear_value v2
  refine Eff.ite ?_ ?_
  · extract_lets +onlyGivenNames x3
    clear_value (ex3 : x3 = _)
    refine Eff.have ex3 (Eff.wr Eff.refl rfl rfl) fun hx3 => ?_
    exact Eff.upd_holdEnds hx3 rfl
  · exact Eff.refl

theorem State.takeClaim_eff (s : State) (a1 : Nat) (src : Nat) :
    Eff [.regs, .irq] [.fam (K.tgtClaims 0) 5, .fam (K.tgtHolding 0) 5, .one K.holdsHoldOffRunning, .span (K.pendInService 0)
        (K.pendInService 0 + 8), .span (K.pendPending 0) (K.pendPending 0 + 8), .span (K.srcCount 0) (K.srcCount 0 + 512)] s
        (State.takeClaim s a1 src) := by
  unfold State.takeClaim
  extract_lets +onlyGivenNames x1
  clear_value (ex1 : x1 = _)
  refine Eff.have ex1 (Eff.wr ((State.clearPending_eff ..).after Eff.refl rfl) rfl (KeySet.any_run _ rfl)) fun hx1 => ?_
  extract_lets +onlyGivenNames x2
  clear_value (ex2 : x2 = _)
  refine Eff.have ex2 (Eff.upd_arrived hx1 rfl) fun hx2 => ?_
  extract_lets +onlyGivenNames x3
  clear_value (ex3 : x3 = _)
  refine Eff.have ex3 (Eff.inc hx2 rfl (KeySet.any_fam _ rfl)) fun hx3 => ?_
  extract_lets +onlyGivenNames x4
  clear_value (ex4 : x4 = _)
  refine Eff.have ex4 ((State.startHoldOff_eff ..).after hx3 rfl) fun hx4 => ?_
  exact Eff.ite (Eff.ite ((State.hostSignal_eff ..).after (Eff.upd_msix hx4 rfl) rfl) hx4) (Eff.wr (Eff.wr hx4 rfl (KeySet.any_run
      _ rfl)) rfl (KeySet.any_fam _ rfl))

theorem claimRead_eff (a : Acc) (a1 : Nat) (s : State) :
    Eff (withSide [.reads]) (accAnd [.fam (K.tgtClaims 0) 5, .fam (K.tgtHolding 0) 5, .fam (K.tgtSpuriousClaims 0) 5, .one
        K.holdsHoldOffRunning, .span (K.pendInService 0) (K.pendInService 0 + 8), .span (K.pendPending 0) (K.pendPending 0 + 8),
        .span (K.srcCount 0) (K.srcCount 0 + 512)]) s (claimRead a a1 s) := by
  unfold claimRead
  split
  · refine Eff.ite ?_ ?_
    · exact (State.claimDone_eff ..).after Eff.refl rfl
    · split
      · exact (State.claimDone_eff ..).after ((State.takeClaim_eff ..).after Eff.refl rfl) rfl
      · extract_lets +onlyGivenNames x1
        clear_value (ex1 : x1 = _)
        refine Eff.have ex1 (Eff.inc Eff.refl rfl (KeySet.any_fam _ rfl)) fun hx1 => ?_
        extract_lets +onlyGivenNames v2
        clear_value v2
        extract_lets +onlyGivenNames x3
        clear_value (ex3 : x3 = _)
        refine Eff.have ex3 (Eff.ite ((State.hostSignal_eff ..).after (Eff.upd_msix hx1 rfl) rfl) hx1) fun hx3 => ?_
        exact (State.claimDone_eff ..).after hx3 rfl
  · exact (State.readDone_eff ..).after Eff.refl rfl

theorem State.setPending_eff (s : State) (src : Nat) :
    Eff [.regs] [.span (K.pendPending 0) (K.pendPending 0 + 8)] s (State.setPending s src) := by
  unfold State.setPending
  exact Eff.wr Eff.refl rfl (KeySet.any_run _ rfl)

theorem State.irqRelease_eff (s : State) (a1 : Nat) :
    Eff [.regs] [.fam (K.tgtHolding 0) 5, .span (K.pendInService 0) (K.pendInService 0 + 8), .span (K.pendPending 0)
        (K.pendPending 0 + 8)] s (State.irqRelease s a1) := by
  unfold State.irqRelease
  extract_lets +onlyGivenNames v1
  clear_value v1
  refine Eff.ite ?_ ?_
  · exact Eff.refl
  · extract_lets +onlyGivenNames x2
    clear_value (ex2 : x2 = _)
    refine Eff.have ex2 (Eff.wr Eff.refl rfl (KeySet.any_run _ rfl)) fun hx2 => ?_
    extract_lets +onlyGivenNames x3
    clear_value (ex3 : x3 = _)
    refine Eff.have ex3 (Eff.wr hx2 rfl (KeySet.any_fam _ rfl)) fun hx3 => ?_
    exact Eff.ite ((State.setPending_eff ..).after hx3 rfl) hx3

theorem completeWrite_eff (a : Acc) (a1 : Nat) (s : State) :
    Eff sideParts (accAnd [.fam (K.tgtHolding 0) 5, .span (K.pendInService 0) (K.pendInService 0 + 8), .span (K.pendPending 0)
        (K.pendPending 0 + 8)]) s (completeWrite a a1 s) := by
  unfold completeWrite
  exact Eff.act Eff.refl (fun y1 hy1 =>
      (by extract_lets +onlyGivenNames x2; clear_value (ex2 : x2 = _); exact Eff.have ex2 ((State.irqRelease_eff ..).after hy1 rfl) fun hx2 => (Eff.ite ((State.hostSignal_eff ..).after (Eff.upd_msix hx2 rfl) rfl) ((State.hostSignal_eff ..).after hx2 rfl))))
      rfl

theorem execClaim_eff (a : Acc) (a1 : Nat) (s : State) {t : State} (h : execClaim a a1 s = .next t) :
    Eff (withSide [.reads]) (accAnd [.fam (K.tgtClaims 0) 5, .fam (K.tgtHolding 0) 5, .fam (K.tgtSpuriousClaims 0) 5, .one
        K.holdsHoldOffRunning, .span (K.pendInService 0) (K.pendInService 0 + 8), .span (K.pendPending 0) (K.pendPending 0 + 8),
        .span (K.srcCount 0) (K.srcCount 0 + 512)]) s t := by
  unfold execClaim at h
  exact Eff.to (inst_next h).2.symm ((claimRead_eff ..).after Eff.refl rfl)

theorem execComplete_eff (a : Acc) (a1 : Nat) (s : State) {t : State} (h : execComplete a a1 s = .next t) :
    Eff sideParts (accAnd [.fam (K.tgtHolding 0) 5, .span (K.pendInService 0) (K.pendInService 0 + 8), .span (K.pendPending 0)
        (K.pendPending 0 + 8)]) s t := by
  unfold execComplete at h
  exact Eff.to (inst_next h).2.symm ((completeWrite_eff ..).after Eff.refl rfl)

theorem holdOffEnd_eff (g : Nat) (s : State) :
    Eff [.clock, .regs, .irq] [.one K.holdsHoldOffRunning] s (holdOffEnd g s) := by
  unfold holdOffEnd
  split
  · exact Eff.refl
  · extract_lets +onlyGivenNames x1
    clear_value (ex1 : x1 = _)
    refine Eff.have ex1 ((State.at_eff ..).after Eff.refl rfl) fun hx1 => ?_
    exact (State.hostSignal_eff ..).after
        (by extract_lets +onlyGivenNames x2; clear_value (ex2 : x2 = _); exact Eff.have ex2 (Eff.wr hx1 rfl rfl) fun hx2 => (Eff.upd_holdEnds hx2 rfl))
        rfl

theorem execHoldOffEnd_eff (g : Nat) (s : State) {t : State} (h : execHoldOffEnd g s = .next t) :
    Eff [.clock, .regs, .irq] [.one K.holdsHoldOffRunning] s t := by
  unfold execHoldOffEnd at h
  exact Eff.to (inst_next h).2.symm ((holdOffEnd_eff ..).after Eff.refl rfl)

theorem maskClearWordWrite_eff (a : Acc) (w : Nat) (s : State) :
    Eff sideParts (accAnd [.span (K.maskMask 0) (K.maskMask 0 + 8)]) s (maskClearWordWrite a w s) := by
  unfold maskClearWordWrite
  exact Eff.act Eff.refl (fun y1 hy1 => ((State.hostSignal_eff ..).after (Eff.wr hy1 rfl (KeySet.any_run _ rfl)) rfl)) rfl

theorem execMaskClearWord_eff (a : Acc) (w : Nat) (s : State) {t : State} (h : execMaskClearWord a w s = .next t) :
    Eff sideParts (accAnd [.span (K.maskMask 0) (K.maskMask 0 + 8)]) s t := by
  unfold execMaskClearWord at h
  exact Eff.to (inst_next h).2.symm ((maskClearWordWrite_eff ..).after Eff.refl rfl)

theorem maskSetWrite_eff (a : Acc) (w : Nat) (s : State) :
    Eff sideParts (accAnd [.span (K.maskMask 0) (K.maskMask 0 + 8)]) s (maskSetWrite a w s) := by
  unfold maskSetWrite
  exact Eff.act Eff.refl (fun y1 hy1 =>
      (by extract_lets +onlyGivenNames x2; clear_value (ex2 : x2 = _); exact Eff.have ex2 (Eff.wr hy1 rfl (KeySet.any_run _ rfl)) fun hx2 => (Eff.upd_maskSetAt hx2 rfl)))
      rfl

theorem execMaskSet_eff (a : Acc) (w : Nat) (s : State) {t : State} (h : execMaskSet a w s = .next t) :
    Eff sideParts (accAnd [.span (K.maskMask 0) (K.maskMask 0 + 8)]) s t := by
  unfold execMaskSet at h
  exact Eff.to (inst_next h).2.symm ((maskSetWrite_eff ..).after Eff.refl rfl)

theorem execMaskSync_eff (a : Acc) (s : State) {t : State} (h : execMaskSync a s = .next t) :
    Eff (withSide [.free, .reads]) (accAnd []) s t := by
  unfold execMaskSync at h
  cases h
  exact (maskSyncRead_eff ..).after Eff.refl rfl

theorem msixFlush_eff (a1 : List Nat) (s : State) :
    Eff [.irq] [] s (msixFlush a1 s) := by
  unfold msixFlush
  split
  · exact Eff.refl
  · exact Eff.ite ((msixFlush_eff ..).after (Eff.upd_msix Eff.refl rfl) rfl) ((msixFlush_eff ..).after Eff.refl rfl)

theorem msixUnmask_eff (u : MsixOp) (s : State) :
    Eff [.irq] [] s (msixUnmask u s) := by
  unfold msixUnmask
  exact (State.hostSignal_eff ..).after ((msixFlush_eff ..).after (Eff.upd_msix Eff.refl rfl) rfl) rfl

theorem execMsixUnmask_eff (u : MsixOp) (s : State) {t : State} (h : execMsixUnmask u s = .next t) :
    Eff [.irq] [] s t := by
  unfold execMsixUnmask at h
  exact Eff.to (inst_next h).2.symm ((msixUnmask_eff ..).after Eff.refl rfl)

theorem pendingClearWrite_eff (a : Acc) (w : Nat) (s : State) :
    Eff sideParts (accAnd [.span (K.pendPending 0) (K.pendPending 0 + 8)]) s (pendingClearWrite a w s) := by
  unfold pendingClearWrite
  exact Eff.act Eff.refl (fun y1 hy1 => (Eff.wr hy1 rfl (KeySet.any_run _ rfl))) rfl

theorem execPendingClear_eff (a : Acc) (w : Nat) (s : State) {t : State} (h : execPendingClear a w s = .next t) :
    Eff sideParts (accAnd [.span (K.pendPending 0) (K.pendPending 0 + 8)]) s t := by
  unfold execPendingClear at h
  exact Eff.to (inst_next h).2.symm ((pendingClearWrite_eff ..).after Eff.refl rfl)

theorem pendingSetWrite_eff (a : Acc) (w : Nat) (s : State) :
    Eff sideParts (accAnd [.span (K.pendPending 0) (K.pendPending 0 + 8)]) s (pendingSetWrite a w s) := by
  unfold pendingSetWrite
  exact Eff.act Eff.refl (fun y1 hy1 => ((State.hostSignal_eff ..).after (Eff.wr hy1 rfl (KeySet.any_run _ rfl)) rfl)) rfl

theorem execPendingSet_eff (a : Acc) (w : Nat) (s : State) {t : State} (h : execPendingSet a w s = .next t) :
    Eff sideParts (accAnd [.span (K.pendPending 0) (K.pendPending 0 + 8)]) s t := by
  unfold execPendingSet at h
  exact Eff.to (inst_next h).2.symm ((pendingSetWrite_eff ..).after Eff.refl rfl)

end Sys2Proof.Machine
end

