-- ==== Sys2Proof/Laws/Fabric.lean ====
section
/-! SUPPORT. What each operation of Machine/Fabric.lean may change. -/

-- The proofs of this file are checked one after another, in one thread.
set_option Elab.async false

namespace Sys2Proof.Machine

theorem State.coincide_eff (s : State) (i : Nat) :
    Eff sideParts (sideAnd [.one K.fabFabricStatus, .span (K.taskCoincide 0) (K.taskCoincide 0 + 256)]) s (State.coincide s i) :=
        by
  unfold State.coincide
  exact Eff.flag (Eff.wr Eff.refl rfl (KeySet.any_run _ rfl)) rfl rfl

theorem State.deliverChannel_eff (s : State) (ev : Nat) (lin : Nat) (c : Nat) :
    Eff sideParts (sideAnd [.fam (K.chDelivered 0) 256, .fam (K.chLastLineage 0) 256]) s (State.deliverChannel s ev lin c) := by
  unfold State.deliverChannel
  extract_lets +onlyGivenNames x1
  clear_value (ex1 : x1 = _)
  refine Eff.have ex1 (Eff.wr (Eff.inc Eff.refl rfl (KeySet.any_fam _ rfl)) rfl (KeySet.any_fam _ rfl)) fun hx1 => ?_
  extract_lets +onlyGivenNames x2
  clear_value (ex2 : x2 = _)
  refine Eff.have ex2 (Eff.ite (Eff.arrive hx1 rfl) hx1) fun hx2 => ?_
  exact Eff.ite ((State.witness_eff ..).after hx2 rfl) hx2

theorem State.overrun_eff (s : State) (i : Nat) :
    Eff sideParts (sideAnd [.fam (K.winsWinStatus 0) 2, .one K.fabFabricStatus, .one K.fabOverruns, .span (K.taskOverrun 0)
        (K.taskOverrun 0 + 256)]) s (State.overrun s i) := by
  unfold State.overrun
  extract_lets +onlyGivenNames x1
  clear_value (ex1 : x1 = _)
  refine Eff.have ex1 (Eff.inc (Eff.wr Eff.refl rfl (KeySet.any_run _ rfl)) rfl rfl) fun hx1 => ?_
  extract_lets +onlyGivenNames x2
  clear_value (ex2 : x2 = _)
  refine Eff.have ex2 (Eff.ite (Eff.flag hx1 rfl (KeySet.any_fam _ rfl)) hx1) fun hx2 => ?_
  exact Eff.flag hx2 rfl rfl

theorem State.deliverTask_eff (s : State) (i : Nat) (n : Nat) (lin : Nat) :
    Eff sideParts (sideAnd [.fam (K.winsWinStatus 0) 2, .one K.fabFabricStatus, .one K.fabOverruns, .span (K.taskCoincide 0)
        (K.taskCoincide 0 + 256), .span (K.taskOverrun 0) (K.taskOverrun 0 + 256)]) s (State.deliverTask s i n lin) := by
  unfold State.deliverTask
  extract_lets +onlyGivenNames x1
  clear_value (ex1 : x1 = _)
  refine Eff.have ex1 (Eff.ite ((State.coincide_eff ..).after Eff.refl rfl) Eff.refl) fun hx1 => ?_
  exact Eff.ite ((State.overrun_eff ..).after hx1 rfl) (Eff.upd_tasks hx1 rfl)

theorem deliverChannels_eff (ev : Nat) (lin : Nat) (a1 : List Nat) (s : State) :
    Eff sideParts (sideAnd [.fam (K.chDelivered 0) 256, .fam (K.chLastLineage 0) 256]) s (deliverChannels ev lin a1 s) := by
  unfold deliverChannels
  split
  · exact Eff.refl
  · exact (deliverChannels_eff ..).after ((State.deliverChannel_eff ..).after Eff.refl rfl) rfl

theorem deliverEvents_eff (a1 : List Raised) (s : State) :
    Eff sideParts (sideAnd [.fam (K.chDelivered 0) 256, .fam (K.chLastLineage 0) 256]) s (deliverEvents a1 s) := by
  unfold deliverEvents
  split
  · exact Eff.refl
  · exact (deliverEvents_eff ..).after ((deliverChannels_eff ..).after Eff.refl rfl) rfl

theorem deliverFixed_eff (a1 : List Raised) (s : State) :
    Eff [.events] [] s (deliverFixed a1 s) := by
  unfold deliverFixed
  split
  · exact Eff.refl
  · exact (deliverFixed_eff ..).after (Eff.ite (Eff.upd_tasks Eff.refl rfl) Eff.refl) rfl

theorem deliverTasks_eff (a1 : List (Nat × Nat × Nat)) (s : State) :
    Eff sideParts (sideAnd [.fam (K.winsWinStatus 0) 2, .one K.fabFabricStatus, .one K.fabOverruns, .span (K.taskCoincide 0)
        (K.taskCoincide 0 + 256), .span (K.taskOverrun 0) (K.taskOverrun 0 + 256)]) s (deliverTasks a1 s) := by
  unfold deliverTasks
  split
  · exact Eff.refl
  · exact (deliverTasks_eff ..).after ((State.deliverTask_eff ..).after Eff.refl rfl) rfl

theorem eventDelivery_eff (s : State) :
    Eff (withSide [.clock]) (sideAnd [.fam (K.chDelivered 0) 256, .fam (K.chLastLineage 0) 256, .fam (K.winsWinStatus 0) 2, .one
        K.fabFabricStatus, .one K.fabOverruns, .span (K.taskCoincide 0) (K.taskCoincide 0 + 256), .span (K.taskOverrun 0)
        (K.taskOverrun 0 + 256)]) s (eventDelivery s) := by
  unfold eventDelivery
  split
  · exact Eff.refl
  · extract_lets +onlyGivenNames v1
    clear_value v1
    extract_lets +onlyGivenNames x2
    clear_value (ex2 : x2 = _)
    refine Eff.have ex2 ((State.at_eff ..).after (Eff.upd_raised Eff.refl rfl) rfl) fun hx2 => ?_
    exact (deliverFixed_eff ..).after ((deliverTasks_eff ..).after ((deliverEvents_eff ..).after hx2 rfl) rfl) rfl

theorem execEventDelivery_eff (s : State) {t : State} (h : execEventDelivery s = .next t) :
    Eff (withSide [.clock]) (sideAnd [.fam (K.chDelivered 0) 256, .fam (K.chLastLineage 0) 256, .fam (K.winsWinStatus 0) 2, .one
        K.fabFabricStatus, .one K.fabOverruns, .span (K.taskCoincide 0) (K.taskCoincide 0 + 256), .span (K.taskOverrun 0)
        (K.taskOverrun 0 + 256)]) s t := by
  unfold execEventDelivery at h
  cases h
  exact (eventDelivery_eff ..).after Eff.refl rfl

theorem taskCoincideWrite_eff (a : Acc) (i : Nat) (s : State) :
    Eff sideParts (accAnd [.span (K.taskCoincide 0) (K.taskCoincide 0 + 256)]) s (taskCoincideWrite a i s) := by
  unfold taskCoincideWrite
  exact Eff.act Eff.refl (fun y1 hy1 => (Eff.wr hy1 rfl (KeySet.any_run _ rfl))) rfl

theorem execTaskCoincide_eff (a : Acc) (i : Nat) (s : State) {t : State} (h : execTaskCoincide a i s = .next t) :
    Eff sideParts (accAnd [.span (K.taskCoincide 0) (K.taskCoincide 0 + 256)]) s t := by
  unfold execTaskCoincide at h
  exact Eff.to (inst_next h).2.symm ((taskCoincideWrite_eff ..).after Eff.refl rfl)

theorem taskRouteWrite_eff (a : Acc) (i : Nat) (s : State) :
    Eff sideParts [.all] s (taskRouteWrite a i s) := by
  unfold taskRouteWrite
  extract_lets +onlyGivenNames v1
  clear_value v1
  split
  · split
    · split
      · exact Eff.ite ((State.done_eff ..).after (Eff.wr Eff.refl rfl (KeySet.any_all rfl)) rfl) ((State.done_eff ..).after
          Eff.refl rfl)
      · exact (State.done_eff ..).after Eff.refl rfl
    · exact (State.done_eff ..).after Eff.refl rfl
  · exact (State.done_eff ..).after Eff.refl rfl

theorem execTaskRoute_eff (a : Acc) (i : Nat) (s : State) {t : State} (h : execTaskRoute a i s = .next t) :
    Eff sideParts [.all] s t := by
  unfold execTaskRoute at h
  exact Eff.to (inst_next h).2.symm ((taskRouteWrite_eff ..).after Eff.refl rfl)

end Sys2Proof.Machine
end

