-- ==== Sys2Proof/Laws/Pins.lean ====
section
/-! SUPPORT. What each operation of Machine/Pins.lean may change. -/

-- The proofs of this file are checked one after another, in one thread.
set_option Elab.async false

namespace Sys2Proof.Machine

theorem State.release_eff (s : State) (ball : Nat) :
    Eff [.pins] [] s (State.release s ball) := by
  unfold State.release
  exact Eff.upd_pins Eff.refl rfl

theorem State.drive_eff (s : State) (ball : Nat) (level : Bool) :
    Eff [.pins] [] s (State.drive s ball level) := by
  unfold State.drive
  exact Eff.upd_pins Eff.refl rfl

theorem State.refreshPin_eff (s : State) (pin : Nat) :
    Eff [.pins] [] s (State.refreshPin s pin) := by
  unfold State.refreshPin
  split
  · exact Eff.ite Eff.refl ((State.release_eff ..).after Eff.refl rfl)
  · exact (State.drive_eff ..).after Eff.refl rfl

theorem State.refreshPins_eff (s : State) :
    Eff [.pins] [] s (State.refreshPins s) := by
  unfold State.refreshPins
  exact Eff.foldl (fun x1 _ hx1 => ((State.refreshPin_eff ..).after hx1 rfl)) Eff.refl

theorem State.setCmp_eff (s : State) (m : Nat) (c : Cmp) :
    Eff [.wheel] [] s (State.setCmp s m c) := by
  unfold State.setCmp
  exact Eff.upd_cmps Eff.refl rfl

end Sys2Proof.Machine
end

