-- ==== Sys2Proof/Laws/Halt.lean ====
section
/-! SUPPORT. What each operation of Machine/Halt.lean may change. -/

-- The proofs of this file are checked one after another, in one thread.
set_option Elab.async false

namespace Sys2Proof.Machine

theorem State.reloadShadow_eff (s : State) (idx : Nat) :
    Eff [.staged] [] s (State.reloadShadow s idx) := by
  unfold State.reloadShadow
  exact Eff.upd_shadow_shDom_shDomLens Eff.refl rfl

theorem State.freePending_eff (s : State) (idx : Nat) :
    Eff (withSide [.pool]) (sideAnd [.one K.poolFreeLow, .one K.poolPoolStatus, .one K.poolSherdsFree]) s (State.freePending s
        idx) := by
  unfold State.freePending
  extract_lets +onlyGivenNames v1
  clear_value v1
  exact Eff.ite Eff.refl ((State.setSherdsFree_eff ..).after (Eff.upd_sherds Eff.refl rfl) rfl)

theorem State.dropCommit_eff (s : State) (idx : Nat) :
    Eff (withSide [.staged, .pool]) (sideAnd [.one K.poolFreeLow, .one K.poolPoolStatus, .one K.poolSherdsFree, .sub (K.commit
        0)]) s (State.dropCommit s idx) := by
  unfold State.dropCommit
  exact Eff.wr ((State.freePending_eff ..).after ((State.reloadShadow_eff ..).after Eff.refl rfl) rfl) rfl (KeySet.any_sub _ rfl)

theorem dropCommits_eff (a1 : List Nat) (s : State) :
    Eff (withSide [.staged, .pool]) (sideAnd [.one K.poolFreeLow, .one K.poolPoolStatus, .one K.poolSherdsFree, .sub (K.commit
        0)]) s (dropCommits a1 s) := by
  unfold dropCommits
  split
  · exact Eff.refl
  · exact (dropCommits_eff ..).after ((State.dropCommit_eff ..).after Eff.refl rfl) rfl

theorem endXfers_eff (a1 : List (Nat × Xfer)) (s : State) :
    Eff (withSide [.paths]) (sideAnd [.fam (K.pathDomStatus 0) 7]) s (endXfers a1 s) := by
  unfold endXfers
  split
  · exact Eff.upd_xfers Eff.refl rfl
  · exact (endXfers_eff ..).after ((State.raise_eff ..).after (Eff.wr Eff.refl rfl (KeySet.any_fam _ rfl)) rfl) rfl

theorem releaseAll_eff (a1 : List Nat) (s : State) :
    Eff [.regs] [.fam (K.tgtHolding 0) 5, .span (K.pendInService 0) (K.pendInService 0 + 8), .span (K.pendPending 0)
        (K.pendPending 0 + 8)] s (releaseAll a1 s) := by
  unfold releaseAll
  split
  · exact Eff.refl
  · exact (releaseAll_eff ..).after ((State.irqRelease_eff ..).after Eff.refl rfl) rfl

theorem State.halt_eff (s : State) :
    Eff (withSide [.staged, .pool, .paths]) (sideAnd [.fam (K.pathDomStatus 0) 7, .fam (K.tgtHolding 0) 5, .one K.poolFreeLow,
        .one K.poolPoolStatus, .one K.poolSherdsFree, .span (K.pendInService 0) (K.pendInService 0 + 8), .span (K.pendPending 0)
        (K.pendPending 0 + 8), .sub (K.commit 0)]) s (State.halt s) := by
  unfold State.halt
  extract_lets +onlyGivenNames x1
  clear_value (ex1 : x1 = _)
  refine Eff.have ex1 ((dropCommits_eff ..).after Eff.refl rfl) fun hx1 => ?_
  extract_lets +onlyGivenNames x2
  clear_value (ex2 : x2 = _)
  refine Eff.have ex2 ((endXfers_eff ..).after hx1 rfl) fun hx2 => ?_
  extract_lets +onlyGivenNames x3
  clear_value (ex3 : x3 = _)
  refine Eff.have ex3 ((releaseAll_eff ..).after hx2 rfl) fun hx3 => ?_
  exact (State.hostSignal_eff ..).after (Eff.upd_msix hx3 rfl) rfl

theorem State.fatal_eff (s : State) (code : Nat) (unit : Nat) (data : Nat) :
    Eff (withSide [.device, .staged, .pool, .paths]) (sideAnd [.fam (K.pathDomStatus 0) 7, .fam (K.tgtHolding 0) 5, .one
        K.devDeviceState, .one K.devStateChanges, .one K.devStateTime, .one K.devStopCause, .one K.fltFatalCode, .one
        K.fltFatalData, .one K.fltFatalTime, .one K.fltFatalUnit, .one K.fltLaterFatals, .one K.poolFreeLow, .one
        K.poolPoolStatus, .one K.poolSherdsFree, .span (K.pendInService 0) (K.pendInService 0 + 8), .span (K.pendPending 0)
        (K.pendPending 0 + 8), .sub (K.commit 0)]) s (State.fatal s code unit data) := by
  unfold State.fatal
  refine Eff.ite ?_ ?_
  · exact Eff.refl
  · refine Eff.ite ?_ ?_
    · exact Eff.inc Eff.refl rfl rfl
    · extract_lets +onlyGivenNames x1
      clear_value (ex1 : x1 = _)
      refine Eff.have ex1 (Eff.wr (Eff.wr (Eff.wr (Eff.wr Eff.refl rfl rfl) rfl rfl) rfl rfl) rfl rfl) fun hx1 => ?_
      extract_lets +onlyGivenNames x2
      clear_value (ex2 : x2 = _)
      refine Eff.have ex2 (Eff.arrive ((State.raise_eff ..).after hx1 rfl) rfl) fun hx2 => ?_
      extract_lets +onlyGivenNames x3
      clear_value (ex3 : x3 = _)
      refine Eff.have ex3 ((State.witness_eff ..).after hx2 rfl) fun hx3 => ?_
      extract_lets +onlyGivenNames x4
      clear_value (ex4 : x4 = _)
      refine Eff.have ex4 (Eff.wr hx3 rfl rfl) fun hx4 => ?_
      exact (State.halt_eff ..).after ((State.enter_eff ..).after hx4 rfl) rfl

theorem State.fence_eff (s : State) :
    Eff (withSide [.device, .staged, .pool, .paths]) (sideAnd [.fam (K.pathDomStatus 0) 7, .fam (K.tgtHolding 0) 5, .one
        K.devDeviceState, .one K.devStateChanges, .one K.devStateTime, .one K.devStopCause, .one K.poolFreeLow, .one
        K.poolPoolStatus, .one K.poolSherdsFree, .span (K.pendInService 0) (K.pendInService 0 + 8), .span (K.pendPending 0)
        (K.pendPending 0 + 8), .sub (K.commit 0)]) s (State.fence s) := by
  unfold State.fence
  exact Eff.ite Eff.refl ((State.halt_eff ..).after ((State.enter_eff ..).after (Eff.wr Eff.refl rfl rfl) rfl) rfl)

end Sys2Proof.Machine
end

