-- ==== Sys2Proof/Laws/Witness.lean ====
section
/-! SUPPORT. What each operation of Machine/Witness.lean may change. -/

-- The proofs of this file are checked one after another, in one thread.
set_option Elab.async false

namespace Sys2Proof.Machine

theorem State.freezeRing_eff (s : State) (cause : Nat) :
    Eff sideParts (sideAnd [.one K.witFreezeCause, .one K.witFrozen]) s (State.freezeRing s cause) := by
  unfold State.freezeRing
  exact Eff.ite Eff.refl ((State.raise_eff ..).after (Eff.arrive (Eff.wr (Eff.wr Eff.refl rfl rfl) rfl rfl) rfl) rfl)

theorem State.witnessHigh_eff (s : State) :
    Eff sideParts (sideAnd [.one K.witWitnessStatus]) s (State.witnessHigh s) := by
  unfold State.witnessHigh
  extract_lets +onlyGivenNames v1
  clear_value v1
  exact Eff.ite ((State.raise_eff ..).after (Eff.flag Eff.refl rfl rfl) rfl) Eff.refl

theorem freezeWrite_eff (a : Acc) (s : State) :
    Eff sideParts (accAnd [.one K.witFreezeCause, .one K.witFrozen]) s (freezeWrite a s) := by
  unfold freezeWrite
  exact Eff.act Eff.refl (fun y1 hy1 => (Eff.ite ((State.freezeRing_eff ..).after hy1 rfl) hy1)) rfl

theorem execFreeze_eff (a : Acc) (s : State) {t : State} (h : execFreeze a s = .next t) :
    Eff sideParts (accAnd [.one K.witFreezeCause, .one K.witFrozen]) s t := by
  unfold execFreeze at h
  cases h
  exact (freezeWrite_eff ..).after Eff.refl rfl

theorem markWrite_eff (a : Acc) (s : State) :
    Eff sideParts (accAnd []) s (markWrite a s) := by
  unfold markWrite
  exact Eff.act Eff.refl (fun y1 hy1 => ((State.witness_eff ..).after hy1 rfl)) rfl

theorem execMark_eff (a : Acc) (s : State) {t : State} (h : execMark a s = .next t) :
    Eff sideParts (accAnd []) s t := by
  unfold execMark at h
  cases h
  exact (markWrite_eff ..).after Eff.refl rfl

theorem readSequenceWrite_eff (a : Acc) (s : State) :
    Eff sideParts (accAnd [.one K.witReadSequence, .one K.witWitnessStatus]) s (readSequenceWrite a s) := by
  unfold readSequenceWrite
  exact Eff.act Eff.refl (fun y1 hy1 => ((State.witnessHigh_eff ..).after (Eff.wr hy1 rfl rfl) rfl)) rfl

theorem execReadSequence_eff (a : Acc) (s : State) {t : State} (h : execReadSequence a s = .next t) :
    Eff sideParts (accAnd [.one K.witReadSequence, .one K.witWitnessStatus]) s t := by
  unfold execReadSequence at h
  cases h
  exact (readSequenceWrite_eff ..).after Eff.refl rfl

theorem releaseWrite_eff (a : Acc) (s : State) :
    Eff sideParts (accAnd [.one K.witFreezeCause, .one K.witFrozen, .one K.witFrozenDrops]) s (releaseWrite a s) := by
  unfold releaseWrite
  exact Eff.act Eff.refl (fun y1 hy1 => (Eff.ite
      (by extract_lets +onlyGivenNames v2; clear_value v2; exact ((State.witness_eff ..).after (Eff.wr (Eff.wr (Eff.wr hy1 rfl rfl) rfl rfl) rfl rfl) rfl))
      hy1)) rfl

theorem execRelease_eff (a : Acc) (s : State) {t : State} (h : execRelease a s = .next t) :
    Eff sideParts (accAnd [.one K.witFreezeCause, .one K.witFrozen, .one K.witFrozenDrops]) s t := by
  unfold execRelease at h
  cases h
  exact (releaseWrite_eff ..).after Eff.refl rfl

theorem witnessWrite_eff (s : State) :
    Eff sideParts (sideAnd [.one K.witFreezeCause, .one K.witFrozen, .one K.witFrozenDrops, .one K.witNextSequence, .one
        K.witWitnessStatus]) s (witnessWrite s) := by
  unfold witnessWrite
  split
  · exact Eff.refl
  · extract_lets +onlyGivenNames x1
    clear_value (ex1 : x1 = _)
    refine Eff.have ex1 (Eff.upd_wbuf Eff.refl rfl) fun hx1 => ?_
    refine Eff.ite ?_ ?_
    · exact Eff.inc hx1 rfl rfl
    · extract_lets +onlyGivenNames v2
      clear_value v2
      extract_lets +onlyGivenNames v3
      clear_value v3
      extract_lets +onlyGivenNames x4
      clear_value (ex4 : x4 = _)
      refine Eff.have ex4 (Eff.upd_wring_wgap hx1 rfl) fun hx4 => ?_
      extract_lets +onlyGivenNames x5
      clear_value (ex5 : x5 = _)
      refine Eff.have ex5 ((State.witnessHigh_eff ..).after (Eff.inc hx4 rfl rfl) rfl) fun hx5 => ?_
      exact Eff.ite ((State.freezeRing_eff ..).after hx5 rfl) hx5

theorem execWitnessWrite_eff (s : State) {t : State} (h : execWitnessWrite s = .next t) :
    Eff sideParts (sideAnd [.one K.witFreezeCause, .one K.witFrozen, .one K.witFrozenDrops, .one K.witNextSequence, .one
        K.witWitnessStatus]) s t := by
  unfold execWitnessWrite at h
  cases h
  exact (witnessWrite_eff ..).after Eff.refl rfl

end Sys2Proof.Machine
end

