-- ==== Sys2Proof/Laws/Cal.lean ====
section
/-! SUPPORT. What each operation of Machine/Cal.lean may change. -/

-- The proofs of this file are checked one after another, in one thread.
set_option Elab.async false

namespace Sys2Proof.Machine

theorem State.calAbort_eff (s : State) :
    Eff [.regs, .boot] [.one K.calCalRunStatus] s (State.calAbort s) := by
  unfold State.calAbort
  refine Eff.ite ?_ ?_
  · extract_lets +onlyGivenNames v1
    clear_value v1
    extract_lets +onlyGivenNames v2
    clear_value v2
    extract_lets +onlyGivenNames x3
    clear_value (ex3 : x3 = _)
    refine Eff.have ex3 (Eff.wr Eff.refl rfl rfl) fun hx3 => ?_
    exact Eff.upd_calRecs hx3 rfl
  · exact Eff.refl

theorem State.calEnd_eff (s : State) (r : Nat) (reason : Nat) (margin : Nat) (limit : Nat) :
    Eff (withSide [.boot]) (sideAnd [.one K.calCalStatus]) s (State.calEnd s r reason margin limit) := by
  unfold State.calEnd
  extract_lets +onlyGivenNames v1
  clear_value v1
  extract_lets +onlyGivenNames v2
  extract_lets +onlyGivenNames v3
  clear_value v3
  extract_lets +onlyGivenNames v4
  clear_value v4
  extract_lets +onlyGivenNames x5
  clear_value (ex5 : x5 = _)
  refine Eff.have ex5 (Eff.upd_calRecs Eff.refl rfl) fun hx5 => ?_
  extract_lets +onlyGivenNames x6
  clear_value (ex6 : x6 = _)
  refine Eff.have ex6 ((State.witness_eff ..).after hx5 rfl) fun hx6 => ?_
  extract_lets +onlyGivenNames x7
  clear_value (ex7 : x7 = _)
  refine Eff.have ex7 (Eff.arrive ((State.raise_eff ..).after hx6 rfl) rfl) fun hx7 => ?_
  exact Eff.ite hx7 ((State.raise_eff ..).after (Eff.flag hx7 rfl rfl) rfl)

end Sys2Proof.Machine
end

