-- ==== Sys2Proof/Laws/Reset.lean ====
section
/-! SUPPORT. What each operation of Machine/Reset.lean may change. -/

-- The proofs of this file are checked one after another, in one thread.
set_option Elab.async false

namespace Sys2Proof.Machine

theorem warmChannels_eff (old : State) (a1 : List Nat) (s : State) :
    Eff [.regs] [.fam (K.dcsChannelState 0) 4] s (warmChannels old a1 s) := by
  unfold warmChannels
  split
  · exact Eff.refl
  · exact (warmChannels_eff ..).after (Eff.wr Eff.refl rfl (KeySet.any_fam _ rfl)) rfl

theorem resetRelease_eff (straps : Nat) (s : State) :
    Eff (withSide [.device, .staged, .pool, .paths, .boot]) (sideAnd [.fam (K.pathDomStatus 0) 7, .fam (K.tgtHolding 0) 5, .one
        K.bootBootSource, .one K.bootBootStatus, .one K.bootFusedSecurityVersion, .one K.bootKeyRevoked, .one K.clkRootPllLocked,
        .one K.devDeviceState, .one K.devStateChanges, .one K.devStateTime, .one K.devStopCause, .one K.fltFatalCode, .one
        K.fltFatalData, .one K.fltFatalTime, .one K.fltFatalUnit, .one K.fltLaterFatals, .one K.poolFreeLow, .one
        K.poolPoolStatus, .one K.poolSherdsFree, .one K.rstBootSel, .span (K.pendInService 0) (K.pendInService 0 + 8), .span
        (K.pendPending 0) (K.pendPending 0 + 8), .sub (K.commit 0)]) s (resetRelease straps s) := by
  unfold resetRelease
  refine Eff.ite ?_ ?_
  · exact Eff.refl
  · extract_lets +onlyGivenNames v1
    clear_value v1
    extract_lets +onlyGivenNames x2
    clear_value (ex2 : x2 = _)
    refine Eff.have ex2 (Eff.wr (Eff.wr Eff.refl rfl rfl) rfl rfl) fun hx2 => ?_
    extract_lets +onlyGivenNames x3
    clear_value (ex3 : x3 = _)
    refine Eff.have ex3 (Eff.wr (Eff.wr hx2 rfl rfl) rfl rfl) fun hx3 => ?_
    extract_lets +onlyGivenNames x4
    clear_value (ex4 : x4 = _)
    refine Eff.have ex4 (Eff.ite hx3 ((State.witness_eff ..).after hx3 rfl)) fun hx4 => ?_
    extract_lets +onlyGivenNames x5
    clear_value (ex5 : x5 = _)
    refine Eff.have ex5 ((State.enter_eff ..).after hx4 rfl) fun hx5 => ?_
    split
    · extract_lets +onlyGivenNames x6
      clear_value (ex6 : x6 = _)
      refine Eff.have ex6 (Eff.wr (Eff.wr hx5 rfl rfl) rfl rfl) fun hx6 => ?_
      exact Eff.upd_boot hx6 rfl
    · exact (State.fatal_eff ..).after
        (by extract_lets +onlyGivenNames x7; clear_value (ex7 : x7 = _); exact Eff.have ex7 (Eff.wr hx5 rfl rfl) fun hx7 => (Eff.upd_boot hx7 rfl))
        rfl

theorem execResetRelease_eff (straps : Nat) (s : State) {t : State} (h : execResetRelease straps s = .next t) :
    Eff (withSide [.device, .staged, .pool, .paths, .boot]) (sideAnd [.fam (K.pathDomStatus 0) 7, .fam (K.tgtHolding 0) 5, .one
        K.bootBootSource, .one K.bootBootStatus, .one K.bootFusedSecurityVersion, .one K.bootKeyRevoked, .one K.clkRootPllLocked,
        .one K.devDeviceState, .one K.devStateChanges, .one K.devStateTime, .one K.devStopCause, .one K.fltFatalCode, .one
        K.fltFatalData, .one K.fltFatalTime, .one K.fltFatalUnit, .one K.fltLaterFatals, .one K.poolFreeLow, .one
        K.poolPoolStatus, .one K.poolSherdsFree, .one K.rstBootSel, .span (K.pendInService 0) (K.pendInService 0 + 8), .span
        (K.pendPending 0) (K.pendPending 0 + 8), .sub (K.commit 0)]) s t := by
  unfold execResetRelease at h
  cases h
  exact (resetRelease_eff ..).after Eff.refl rfl

end Sys2Proof.Machine
end

