-- ==== Sys2Proof/Laws/Boot.lean ====
section
/-! SUPPORT. What each operation of Machine/Boot.lean may change. -/

-- The proofs of this file are checked one after another, in one thread.
set_option Elab.async false

namespace Sys2Proof.Machine

theorem bitOf_eq_testBit (v i : Nat) : bitOf v i = v.testBit i := by
  simp only [bitOf, Nat.testBit, Nat.shiftRight_eq_div_pow, Nat.one_and_eq_mod_two, bne, beq_eq_decide]
  rcases Nat.mod_two_eq_zero_or_one (v / 2 ^ i) with h | h <;> simp [h]

/-- Setting bits clears none. -/
theorem bitOf_setBits {v i : Nat} (m : Nat) (h : bitOf v i = true) : bitOf (setBits v m) i = true := by
  simp only [bitOf_eq_testBit, setBits, Nat.testBit_or] at h ⊢
  simp [h]

theorem fuseBurnDone_eff (s : State) :
    Eff [.regs, .fuses] [.one K.bootKeyRevoked, .one K.bootFusedSecurityVersion] s (fuseBurnDone s) := by
  unfold fuseBurnDone
  split
  · exact Eff.refl
  · split
    · exact Eff.upd_fuses (Eff.wr Eff.refl rfl rfl) rfl (Nat.le_refl _) (fun i h => bitOf_setBits _ h) rfl
    · exact Eff.upd_fuses (Eff.wr Eff.refl rfl rfl) rfl (Nat.le_max_left _ _) (fun _ h => h) rfl

theorem State.nextCopy_eff (s : State) (status : Nat) :
    Eff (withSide [.device, .staged, .pool, .paths, .boot]) (sideAnd [.fam (K.pathDomStatus 0) 7, .fam (K.tgtHolding 0) 5, .one
        K.bootBootSource, .one K.bootBootStatus, .one K.devDeviceState, .one K.devStateChanges, .one K.devStateTime, .one
        K.devStopCause, .one K.fltFatalCode, .one K.fltFatalData, .one K.fltFatalTime, .one K.fltFatalUnit, .one K.fltLaterFatals,
        .one K.poolFreeLow, .one K.poolPoolStatus, .one K.poolSherdsFree, .span (K.pendInService 0) (K.pendInService 0 + 8), .span
        (K.pendPending 0) (K.pendPending 0 + 8), .sub (K.commit 0)]) s (State.nextCopy s status) := by
  unfold State.nextCopy
  extract_lets +onlyGivenNames x1
  clear_value (ex1 : x1 = _)
  refine Eff.have ex1 (Eff.wr Eff.refl rfl rfl) fun hx1 => ?_
  split
  · extract_lets +onlyGivenNames x2
    clear_value (ex2 : x2 = _)
    refine Eff.have ex2 (Eff.wr hx1 rfl rfl) fun hx2 => ?_
    exact Eff.upd_boot hx2 rfl
  · exact (State.fatal_eff ..).after (Eff.upd_boot hx1 rfl) rfl

theorem setChannel_eff (l : List Nat) (s : State) (n : Nat) :
    Eff [.regs] [.fam (K.dcCapacity 0) 4, .fam (K.dcDataRate 0) 4, .fam (K.dcDeviceDensity 0) 4, .fam (K.dcDeviceWidth 0) 4, .fam
        (K.dcMemoryType 0) 4, .fam (K.dcRanks 0) 4, .fam (K.dcTrfc 0) 4] s (setChannel l s n) := by
  unfold setChannel
  extract_lets +onlyGivenNames x1
  clear_value (ex1 : x1 = _)
  refine Eff.have ex1 (Eff.wr (Eff.wr Eff.refl rfl (KeySet.any_fam _ rfl)) rfl (KeySet.any_fam _ rfl)) fun hx1 => ?_
  extract_lets +onlyGivenNames x2
  clear_value (ex2 : x2 = _)
  refine Eff.have ex2 (Eff.wr (Eff.wr (Eff.wr hx1 rfl (KeySet.any_fam _ rfl)) rfl (KeySet.any_fam _ rfl)) rfl (KeySet.any_fam _
      rfl)) fun hx2 => ?_
  exact Eff.wr (Eff.wr hx2 rfl (KeySet.any_fam _ rfl)) rfl (KeySet.any_fam _ rfl)

theorem State.setDram_eff (s : State) (l : List Nat) :
    Eff [.regs] [.fam (K.dcCapacity 0) 4, .fam (K.dcDataRate 0) 4, .fam (K.dcDeviceDensity 0) 4, .fam (K.dcDeviceWidth 0) 4, .fam
        (K.dcMemoryType 0) 4, .fam (K.dcRanks 0) 4, .fam (K.dcTrfc 0) 4, .one K.dramChannelsPresent, .one K.dramDramPopulated,
        .one K.dramInterleave] s (State.setDram s l) := by
  unfold State.setDram
  extract_lets +onlyGivenNames x1
  clear_value (ex1 : x1 = _)
  refine Eff.have ex1 (Eff.foldl (fun x2 _ hx2 => ((setChannel_eff ..).after hx2 rfl)) Eff.refl) fun hx1 => ?_
  exact Eff.wr (Eff.wr (Eff.wr hx1 rfl rfl) rfl rfl) rfl rfl

theorem State.startTraining_eff (s : State) :
    Eff [.regs] [.fam (K.dcsChannelState 0) 4] s (State.startTraining s) := by
  unfold State.startTraining
  exact Eff.foldl (fun x1 _ hx1 => (Eff.ite (Eff.wr hx1 rfl (KeySet.any_fam _ rfl)) hx1)) Eff.refl

theorem advanceSecurityVersionWrite_eff (a : Acc) (s : State) :
    Eff (withSide [.fuses]) (accAnd []) s (advanceSecurityVersionWrite a s) := by
  unfold advanceSecurityVersionWrite
  extract_lets +onlyGivenNames v1
  clear_value v1
  exact Eff.act Eff.refl (fun y2 hy2 => (Eff.upd_fuses hy2 rfl (Nat.le_refl _) (fun _ h => h) rfl)) rfl

theorem bootCompleteWrite_eff (a : Acc) (s : State) :
    Eff (withSide [.device, .boot]) (accAnd [.one K.bootBootTime, .one K.devDeviceState, .one K.devStateChanges, .one
        K.devStateTime]) s (bootCompleteWrite a s) := by
  unfold bootCompleteWrite
  exact Eff.act Eff.refl (fun y1 hy1 => (Eff.ite
      (by extract_lets +onlyGivenNames x2; clear_value (ex2 : x2 = _); exact Eff.have ex2 ((State.enter_eff ..).after (Eff.wr hy1 rfl rfl) rfl) fun hx2 => (Eff.upd_wdog hx2 rfl))
      hy1)) rfl

theorem bootGoWrite_eff (a : Acc) (s : State) :
    Eff (withSide [.boot]) (accAnd []) s (bootGoWrite a s) := by
  unfold bootGoWrite
  exact Eff.act Eff.refl (fun y1 hy1 => (Eff.ite (Eff.upd_boot hy1 rfl) hy1)) rfl

theorem bootHeaderRead_eff (image : List Nat) (complete : Bool) (s : State) :
    Eff (withSide [.device, .staged, .pool, .paths, .boot]) (sideAnd (joinKeys [.fam (K.dcCapacity 0) 4, .fam (K.dcDataRate 0) 4,
        .fam (K.dcDeviceDensity 0) 4, .fam (K.dcDeviceWidth 0) 4, .fam (K.dcMemoryType 0) 4, .fam (K.dcRanks 0) 4, .fam (K.dcTrfc
        0) 4, .fam (K.dcsChannelState 0) 4, .fam (K.pathDomStatus 0) 7, .fam (K.tgtHolding 0) 5, .one K.bootBootSource, .one
        K.bootBootStatus, .one K.devDeviceState, .one K.devStateChanges, .one K.devStateTime, .one K.devStopCause, .one
        K.dramChannelsPresent, .one K.dramDramPopulated, .one K.dramInterleave, .one K.fltFatalCode, .one K.fltFatalData, .one
        K.fltFatalTime, .one K.fltFatalUnit, .one K.fltLaterFatals] [.one K.poolFreeLow, .one K.poolPoolStatus, .one
        K.poolSherdsFree, .span (K.pendInService 0) (K.pendInService 0 + 8), .span (K.pendPending 0) (K.pendPending 0 + 8), .sub
        (K.commit 0)])) s (bootHeaderRead image complete s) := by
  unfold bootHeaderRead
  refine Eff.ite ?_ ?_
  · exact Eff.refl
  · refine Eff.ite ?_ ?_
    · exact (State.nextCopy_eff ..).after Eff.refl rfl
    · refine Eff.ite ?_ ?_
      · exact (State.nextCopy_eff ..).after Eff.refl rfl
      · refine Eff.ite ?_ ?_
        · exact (State.nextCopy_eff ..).after Eff.refl rfl
        · refine Eff.ite ?_ ?_
          · exact (State.nextCopy_eff ..).after Eff.refl rfl
          · extract_lets +onlyGivenNames v1
            clear_value v1
            extract_lets +onlyGivenNames v2
            clear_value v2
            exact Eff.ite ((State.startTraining_eff ..).after (Eff.upd_boot Eff.refl rfl) rfl) (Eff.ite (Eff.upd_boot Eff.refl
                rfl) ((State.startTraining_eff ..).after ((State.setDram_eff ..).after (Eff.upd_boot Eff.refl rfl) rfl) rfl))

theorem releaseCore_eff (v : Nat) (s : State) (a1 : Nat) :
    Eff [.regs, .boot] [.one K.coreCoresRunning] s (releaseCore v s a1) := by
  unfold releaseCore
  refine Eff.ite ?_ ?_
  · extract_lets +onlyGivenNames x1
    clear_value (ex1 : x1 = _)
    refine Eff.have ex1 (Eff.wr Eff.refl rfl rfl) fun hx1 => ?_
    exact Eff.upd_cores hx1 rfl
  · exact Eff.refl

theorem coreReleaseWrite_eff (a : Acc) (s : State) :
    Eff (withSide [.boot]) (accAnd [.one K.coreCoresRunning]) s (coreReleaseWrite a s) := by
  unfold coreReleaseWrite
  exact Eff.act Eff.refl (fun y1 hy1 => (Eff.foldl (fun x2 _ hx2 => ((releaseCore_eff ..).after hx2 rfl)) hy1)) rfl

theorem trainOne_eff (failed : Nat) (s : State) (n : Nat) :
    Eff (withSide [.boot, .memory]) (sideAnd [.fam (K.dcsChannelState 0) 4, .one K.calCalStatus]) s (trainOne failed s n) := by
  unfold trainOne
  refine Eff.ite ?_ ?_
  · refine Eff.ite ?_ ?_
    · exact (State.calEnd_eff ..).after (Eff.wr Eff.refl rfl (KeySet.any_fam _ rfl)) rfl
    · extract_lets +onlyGivenNames x1
      clear_value (ex1 : x1 = _)
      refine Eff.have ex1 ((State.calEnd_eff ..).after (Eff.wr Eff.refl rfl (KeySet.any_fam _ rfl)) rfl) fun hx1 => ?_
      exact Eff.upd_drams hx1 rfl
  · exact Eff.refl

theorem dramTrainDone_eff (failed : Nat) (s : State) :
    Eff (withSide [.device, .staged, .pool, .paths, .boot, .memory]) (sideAnd [.fam (K.dcsChannelState 0) 4, .fam (K.pathDomStatus
        0) 7, .fam (K.tgtHolding 0) 5, .one K.bootBootStatus, .one K.calCalStatus, .one K.devDeviceState, .one K.devStateChanges,
        .one K.devStateTime, .one K.devStopCause, .one K.fltFatalCode, .one K.fltFatalData, .one K.fltFatalTime, .one
        K.fltFatalUnit, .one K.fltLaterFatals, .one K.poolFreeLow, .one K.poolPoolStatus, .one K.poolSherdsFree, .span
        (K.pendInService 0) (K.pendInService 0 + 8), .span (K.pendPending 0) (K.pendPending 0 + 8), .sub (K.commit 0)]) s
        (dramTrainDone failed s) := by
  unfold dramTrainDone
  refine Eff.ite ?_ ?_
  · exact Eff.refl
  · extract_lets +onlyGivenNames v1
    clear_value v1
    extract_lets +onlyGivenNames x2
    clear_value (ex2 : x2 = _)
    refine Eff.have ex2 (Eff.foldl (fun x3 _ hx3 => ((trainOne_eff ..).after hx3 rfl)) Eff.refl) fun hx2 => ?_
    split
    · exact (State.fatal_eff ..).after
        (by extract_lets +onlyGivenNames x4; clear_value (ex4 : x4 = _); exact Eff.have ex4 (Eff.wr hx2 rfl rfl) fun hx4 => (Eff.upd_boot hx4 rfl))
        rfl
    · exact Eff.upd_boot hx2 rfl

theorem dramZeroDone_eff (s : State) :
    Eff [.mem, .boot] [] s (dramZeroDone s) := by
  unfold dramZeroDone
  exact Eff.ite Eff.refl (Eff.upd_mem_boot Eff.refl rfl (fun _ => rfl))

theorem execAdvanceSecurityVersion_eff (a : Acc) (s : State) {t : State} (h : execAdvanceSecurityVersion a s = .next t) :
    Eff (withSide [.fuses]) (accAnd []) s t := by
  unfold execAdvanceSecurityVersion at h
  cases h
  exact (advanceSecurityVersionWrite_eff ..).after Eff.refl rfl

theorem execBootComplete_eff (a : Acc) (s : State) {t : State} (h : execBootComplete a s = .next t) :
    Eff (withSide [.device, .boot]) (accAnd [.one K.bootBootTime, .one K.devDeviceState, .one K.devStateChanges, .one
        K.devStateTime]) s t := by
  unfold execBootComplete at h
  cases h
  exact (bootCompleteWrite_eff ..).after Eff.refl rfl

theorem execBootGo_eff (a : Acc) (s : State) {t : State} (h : execBootGo a s = .next t) :
    Eff (withSide [.boot]) (accAnd []) s t := by
  unfold execBootGo at h
  cases h
  exact (bootGoWrite_eff ..).after Eff.refl rfl

theorem execBootHeaderRead_eff (image : List Nat) (complete : Bool) (s : State) {t : State} (h : execBootHeaderRead image complete
    s = .next t) :
    Eff (withSide [.device, .staged, .pool, .paths, .boot]) (sideAnd (joinKeys [.fam (K.dcCapacity 0) 4, .fam (K.dcDataRate 0) 4,
        .fam (K.dcDeviceDensity 0) 4, .fam (K.dcDeviceWidth 0) 4, .fam (K.dcMemoryType 0) 4, .fam (K.dcRanks 0) 4, .fam (K.dcTrfc
        0) 4, .fam (K.dcsChannelState 0) 4, .fam (K.pathDomStatus 0) 7, .fam (K.tgtHolding 0) 5, .one K.bootBootSource, .one
        K.bootBootStatus, .one K.devDeviceState, .one K.devStateChanges, .one K.devStateTime, .one K.devStopCause, .one
        K.dramChannelsPresent, .one K.dramDramPopulated, .one K.dramInterleave, .one K.fltFatalCode, .one K.fltFatalData, .one
        K.fltFatalTime, .one K.fltFatalUnit, .one K.fltLaterFatals] [.one K.poolFreeLow, .one K.poolPoolStatus, .one
        K.poolSherdsFree, .span (K.pendInService 0) (K.pendInService 0 + 8), .span (K.pendPending 0) (K.pendPending 0 + 8), .sub
        (K.commit 0)])) s t := by
  unfold execBootHeaderRead at h
  cases h
  exact (bootHeaderRead_eff ..).after Eff.refl rfl

theorem execCoreRelease_eff (a : Acc) (s : State) {t : State} (h : execCoreRelease a s = .next t) :
    Eff (withSide [.boot]) (accAnd [.one K.coreCoresRunning]) s t := by
  unfold execCoreRelease at h
  cases h
  exact (coreReleaseWrite_eff ..).after Eff.refl rfl

theorem execDramTrainDone_eff (failed : Nat) (s : State) {t : State} (h : execDramTrainDone failed s = .next t) :
    Eff (withSide [.device, .staged, .pool, .paths, .boot, .memory]) (sideAnd [.fam (K.dcsChannelState 0) 4, .fam (K.pathDomStatus
        0) 7, .fam (K.tgtHolding 0) 5, .one K.bootBootStatus, .one K.calCalStatus, .one K.devDeviceState, .one K.devStateChanges,
        .one K.devStateTime, .one K.devStopCause, .one K.fltFatalCode, .one K.fltFatalData, .one K.fltFatalTime, .one
        K.fltFatalUnit, .one K.fltLaterFatals, .one K.poolFreeLow, .one K.poolPoolStatus, .one K.poolSherdsFree, .span
        (K.pendInService 0) (K.pendInService 0 + 8), .span (K.pendPending 0) (K.pendPending 0 + 8), .sub (K.commit 0)]) s t := by
  unfold execDramTrainDone at h
  cases h
  exact (dramTrainDone_eff ..).after Eff.refl rfl

theorem execDramZeroDone_eff (s : State) {t : State} (h : execDramZeroDone s = .next t) :
    Eff [.mem, .boot] [] s t := by
  unfold execDramZeroDone at h
  cases h
  exact (dramZeroDone_eff ..).after Eff.refl rfl

theorem execFuseBurnDone_eff (s : State) {t : State} (h : execFuseBurnDone s = .next t) :
    Eff [.regs, .fuses] [.one K.bootFusedSecurityVersion, .one K.bootKeyRevoked] s t := by
  unfold execFuseBurnDone at h
  cases h
  exact (fuseBurnDone_eff ..).after Eff.refl rfl

theorem payloadLoaded_eff (rest : List Nat) (sig : List Nat) (complete : Bool) (s : State) :
    Eff (withSide [.device, .staged, .pool, .paths, .mem, .boot]) (sideAnd [.fam (K.pathDomStatus 0) 7, .fam (K.tgtHolding 0) 5,
        .one K.bootBootSource, .one K.bootBootStatus, .one K.bootImageSecurityVersion, .one K.bootKeySlotUsed, .one
        K.coreCoresRunning, .one K.devDeviceState, .one K.devStateChanges, .one K.devStateTime, .one K.devStopCause, .one
        K.fltFatalCode, .one K.fltFatalData, .one K.fltFatalTime, .one K.fltFatalUnit, .one K.fltLaterFatals, .one K.poolFreeLow,
        .one K.poolPoolStatus, .one K.poolSherdsFree, .span (K.pendInService 0) (K.pendInService 0 + 8), .span (K.pendPending 0)
        (K.pendPending 0 + 8), .sub (K.commit 0)]) s (payloadLoaded rest sig complete s) := by
  unfold payloadLoaded
  refine Eff.ite ?_ ?_
  · exact Eff.refl
  · extract_lets +onlyGivenNames v1
    clear_value v1
    refine Eff.ite ?_ ?_
    · exact (State.nextCopy_eff ..).after Eff.refl rfl
    · extract_lets +onlyGivenNames x2
      clear_value (ex2 : x2 = _)
      refine Eff.have ex2 (Eff.upd_mem Eff.refl rfl (fun h => Memory.wf_memPuts _ _ h)) fun hx2 => ?_
      split
      · extract_lets +onlyGivenNames x3
        clear_value (ex3 : x3 = _)
        refine Eff.have ex3 (Eff.wr (Eff.wr (Eff.wr hx2 rfl rfl) rfl rfl) rfl rfl) fun hx3 => ?_
        extract_lets +onlyGivenNames x4
        clear_value (ex4 : x4 = _)
        refine Eff.have ex4 (Eff.wr hx3 rfl rfl) fun hx4 => ?_
        exact Eff.upd_boot_cores hx4 rfl
      · exact (State.nextCopy_eff ..).after hx2 rfl

theorem execPayloadLoaded_eff (rest : List Nat) (sig : List Nat) (complete : Bool) (s : State) {t : State} (h : execPayloadLoaded
    rest sig complete s = .next t) :
    Eff (withSide [.device, .staged, .pool, .paths, .mem, .boot]) (sideAnd [.fam (K.pathDomStatus 0) 7, .fam (K.tgtHolding 0) 5,
        .one K.bootBootSource, .one K.bootBootStatus, .one K.bootImageSecurityVersion, .one K.bootKeySlotUsed, .one
        K.coreCoresRunning, .one K.devDeviceState, .one K.devStateChanges, .one K.devStateTime, .one K.devStopCause, .one
        K.fltFatalCode, .one K.fltFatalData, .one K.fltFatalTime, .one K.fltFatalUnit, .one K.fltLaterFatals, .one K.poolFreeLow,
        .one K.poolPoolStatus, .one K.poolSherdsFree, .span (K.pendInService 0) (K.pendInService 0 + 8), .span (K.pendPending 0)
        (K.pendPending 0 + 8), .sub (K.commit 0)]) s t := by
  unfold execPayloadLoaded at h
  cases h
  exact (payloadLoaded_eff ..).after Eff.refl rfl

theorem revokeKeyWrite_eff (a : Acc) (s : State) :
    Eff (withSide [.fuses]) (accAnd []) s (revokeKeyWrite a s) := by
  unfold revokeKeyWrite
  extract_lets +onlyGivenNames v1
  clear_value v1
  exact Eff.act Eff.refl (fun y2 hy2 => (Eff.upd_fuses hy2 rfl (Nat.le_refl _) (fun _ h => h) rfl)) rfl

theorem execRevokeKey_eff (a : Acc) (s : State) {t : State} (h : execRevokeKey a s = .next t) :
    Eff (withSide [.fuses]) (accAnd []) s t := by
  unfold execRevokeKey at h
  cases h
  exact (revokeKeyWrite_eff ..).after Eff.refl rfl

end Sys2Proof.Machine
end

