-- ==== Sys2Proof/Laws/Position.lean ====
section
/-! SUPPORT. What each operation of Machine/Position.lean may change. -/

-- The proofs of this file are checked one after another, in one thread.
set_option Elab.async false

namespace Sys2Proof.Machine

theorem State.setEnc_eff (s : State) (n : Nat) (e : Enc) :
    Eff [.wheel] [] s (State.setEnc s n e) := by
  unfold State.setEnc
  exact Eff.upd_encs Eff.refl rfl

theorem State.crossFix_eff (s : State) :
    Eff [.wheel] [] s (State.crossFix s) := by
  unfold State.crossFix
  exact Eff.upd_wheel Eff.refl rfl

theorem State.selectMaster_eff (s : State) (src : Nat) :
    Eff [.regs, .wheel] [.one K.whlActiveMaster] s (State.selectMaster s src) := by
  unfold State.selectMaster
  exact (State.crossFix_eff ..).after
      (by extract_lets +onlyGivenNames x1; clear_value (ex1 : x1 = _); exact Eff.have ex1 (Eff.wr Eff.refl rfl rfl) fun hx1 => (Eff.upd_wheel hx1 rfl))
      rfl

theorem State.crossCheck_eff (s : State) :
    Eff (withSide [.wheel]) (sideAnd [.one K.whlWheelStatus]) s (State.crossCheck s) := by
  unfold State.crossCheck
  split
  · exact Eff.refl
  · extract_lets +onlyGivenNames v1
    clear_value v1
    extract_lets +onlyGivenNames v2
    clear_value v2
    extract_lets +onlyGivenNames v3
    clear_value v3
    extract_lets +onlyGivenNames v4
    clear_value v4
    extract_lets +onlyGivenNames x5
    clear_value (ex5 : x5 = _)
    refine Eff.have ex5 (Eff.upd_wheel Eff.refl rfl) fun hx5 => ?_
    exact Eff.ite ((State.raise_eff ..).after (Eff.flag hx5 rfl rfl) rfl) hx5

theorem State.encTrack_eff (s : State) (n : Nat) (back : Bool) :
    Eff sideParts (sideAnd [.fam (K.encsDirection 0) 4, .fam (K.encsHighWater 0) 4, .fam (K.encsPosition 0) 4, .fam (K.encsStatus
        0) 4]) s (State.encTrack s n back) := by
  unfold State.encTrack
  extract_lets +onlyGivenNames v1
  clear_value v1
  extract_lets +onlyGivenNames v2
  clear_value v2
  extract_lets +onlyGivenNames x3
  clear_value (ex3 : x3 = _)
  refine Eff.have ex3 (Eff.wr Eff.refl rfl (KeySet.any_fam _ rfl)) fun hx3 => ?_
  refine Eff.ite ?_ ?_
  · exact Eff.wr (Eff.wr hx3 rfl (KeySet.any_fam _ rfl)) rfl (KeySet.any_fam _ rfl)
  · extract_lets +onlyGivenNames v4
    clear_value v4
    extract_lets +onlyGivenNames v5
    clear_value v5
    refine Eff.ite ?_ ?_
    · extract_lets +onlyGivenNames x6
      clear_value (ex6 : x6 = _)
      refine Eff.have ex6 (Eff.wr (Eff.wr hx3 rfl (KeySet.any_fam _ rfl)) rfl (KeySet.any_fam _ rfl)) fun hx6 => ?_
      exact (State.raise_eff ..).after (Eff.ite (Eff.arrive hx6 rfl) hx6) rfl
    · exact hx3

theorem State.masterLost_eff (s : State) (p : Int) :
    Eff (withSide [.wheel]) (sideAnd [.one K.whlActiveMaster, .one K.whlSwitchovers, .one K.whlWheelStatus]) s (State.masterLost s
        p) := by
  unfold State.masterLost
  refine Eff.ite ?_ ?_
  · exact Eff.refl
  · refine Eff.ite ?_ ?_
    · extract_lets +onlyGivenNames v1
      clear_value v1
      extract_lets +onlyGivenNames v2
      clear_value v2
      extract_lets +onlyGivenNames x3
      clear_value (ex3 : x3 = _)
      refine Eff.have ex3 (Eff.upd_wheel Eff.refl rfl) fun hx3 => ?_
      exact (State.raise_eff ..).after (Eff.flag (Eff.inc (Eff.wr hx3 rfl rfl) rfl rfl) rfl rfl) rfl
    · extract_lets +onlyGivenNames v4
      clear_value v4
      extract_lets +onlyGivenNames x5
      clear_value (ex5 : x5 = _)
      refine Eff.have ex5 (Eff.upd_wheel Eff.refl rfl) fun hx5 => ?_
      exact (State.raise_eff ..).after (Eff.flag hx5 rfl rfl) rfl

theorem State.encRetire_eff (s : State) (n : Nat) (bit : Nat) :
    Eff (withSide [.wheel]) (sideAnd [.fam (K.encsChannelState 0) 4, .fam (K.encsStatus 0) 4, .one K.fltFaultStatus, .one
        K.fltLastRetiredUnit, .one K.fltRetiredCount, .one K.whlActiveMaster, .one K.whlSwitchovers, .one K.whlWheelStatus]) s
        (State.encRetire s n bit) := by
  unfold State.encRetire
  extract_lets +onlyGivenNames v1
  clear_value v1
  extract_lets +onlyGivenNames v2
  clear_value v2
  extract_lets +onlyGivenNames x3
  clear_value (ex3 : x3 = _)
  refine Eff.have ex3 (Eff.flag (Eff.wr Eff.refl rfl (KeySet.any_fam _ rfl)) rfl (KeySet.any_fam _ rfl)) fun hx3 => ?_
  extract_lets +onlyGivenNames x4
  clear_value (ex4 : x4 = _)
  refine Eff.have ex4 ((State.retire_eff ..).after ((State.raise_eff ..).after hx3 rfl) rfl) fun hx4 => ?_
  exact Eff.ite ((State.masterLost_eff ..).after hx4 rfl) hx4

theorem State.encShow_eff (s : State) (n : Nat) :
    Eff [.regs] [.fam (K.encsCountedPosition 0) 4, .fam (K.encsSpeed 0) 4] s (State.encShow s n) := by
  unfold State.encShow
  exact Eff.wr (Eff.wr Eff.refl rfl (KeySet.any_fam _ rfl)) rfl (KeySet.any_fam _ rfl)

theorem State.encFault_eff (s : State) (n : Nat) (bit : Nat) :
    Eff (withSide [.wheel]) (sideAnd [.fam (K.encsChannelState 0) 4, .fam (K.encsErrorCount 0) 4, .fam (K.encsStatus 0) 4, .one
        K.fltFaultStatus, .one K.fltLastRetiredUnit, .one K.fltRetiredCount, .one K.fltTransientCount, .one K.whlActiveMaster,
        .one K.whlSwitchovers, .one K.whlWheelStatus]) s (State.encFault s n bit) := by
  unfold State.encFault
  extract_lets +onlyGivenNames x1
  clear_value (ex1 : x1 = _)
  refine Eff.have ex1 (Eff.inc (Eff.flag Eff.refl rfl (KeySet.any_fam _ rfl)) rfl (KeySet.any_fam _ rfl)) fun hx1 => ?_
  extract_lets +onlyGivenNames x2
  clear_value (ex2 : x2 = _)
  refine Eff.have ex2 ((State.transient_eff ..).after hx1 rfl) fun hx2 => ?_
  exact Eff.ite ((State.encRetire_eff ..).after hx2 rfl) hx2

end Sys2Proof.Machine
end

