-- ==== Sys2Proof/Laws/Wake.lean ====
section
/-! SUPPORT. What each operation of Machine/Wake.lean may change. -/

-- The proofs of this file are checked one after another, in one thread.
set_option Elab.async false

namespace Sys2Proof.Machine

theorem State.powerPhase_eff (s : State) (p : Nat) :
    Eff sideParts (sideAnd [.one K.pwrPowerPhase]) s (State.powerPhase s p) := by
  unfold State.powerPhase
  exact Eff.arrive (Eff.wr Eff.refl rfl rfl) rfl

theorem State.awake_eff (s : State) :
    Eff (withSide [.device, .boot, .pins]) (sideAnd [.one K.devDeviceState, .one K.devStateChanges, .one K.devStateTime, .one
        K.pwrPowerPhase, .one K.pwrWakeCause]) s (State.awake s) := by
  unfold State.awake
  extract_lets +onlyGivenNames x1
  clear_value (ex1 : x1 = _)
  refine Eff.have ex1 ((State.powerPhase_eff ..).after (Eff.wr Eff.refl rfl rfl) rfl) fun hx1 => ?_
  extract_lets +onlyGivenNames x2
  clear_value (ex2 : x2 = _)
  refine Eff.have ex2 (Eff.upd_power hx1 rfl) fun hx2 => ?_
  exact (State.raise_eff ..).after ((State.refreshPins_eff ..).after ((State.enter_eff ..).after hx2 rfl) rfl) rfl

theorem State.startWaking_eff (s : State) (cause : Nat) :
    Eff (withSide [.device, .boot, .pins]) (sideAnd [.one K.devDeviceState, .one K.devStateChanges, .one K.devStateTime, .one
        K.pwrPowerPhase, .one K.pwrWakeCause]) s (State.startWaking s cause) := by
  unfold State.startWaking
  extract_lets +onlyGivenNames x1
  clear_value (ex1 : x1 = _)
  refine Eff.have ex1 ((State.powerPhase_eff ..).after Eff.refl rfl) fun hx1 => ?_
  extract_lets +onlyGivenNames v2
  clear_value v2
  extract_lets +onlyGivenNames x3
  clear_value (ex3 : x3 = _)
  refine Eff.have ex3 (Eff.upd_power hx1 rfl) fun hx3 => ?_
  exact Eff.ite ((State.awake_eff ..).after hx3 rfl) hx3

theorem State.wake_eff (s : State) (cause : Nat) :
    Eff (withSide [.device, .boot, .pins]) (sideAnd [.one K.devDeviceState, .one K.devStateChanges, .one K.devStateTime, .one
        K.pwrPowerPhase, .one K.pwrWakeCause]) s (State.wake s cause) := by
  unfold State.wake
  exact Eff.ite Eff.refl (Eff.ite ((State.startWaking_eff ..).after Eff.refl rfl) (Eff.ite (Eff.upd_power Eff.refl rfl) Eff.refl))

theorem State.wakeAlarm_eff (s : State) :
    Eff (withSide [.device, .boot, .pins]) (sideAnd [.one K.devDeviceState, .one K.devStateChanges, .one K.devStateTime, .one
        K.pwrPowerPhase, .one K.pwrWakeCause]) s (State.wakeAlarm s) := by
  unfold State.wakeAlarm
  exact Eff.ite ((State.wake_eff ..).after (Eff.upd_power Eff.refl rfl) rfl) Eff.refl

theorem State.wakeOnLevel_eff (s : State) :
    Eff (withSide [.device, .boot, .pins]) (sideAnd [.one K.devDeviceState, .one K.devStateChanges, .one K.devStateTime, .one
        K.pwrPowerPhase, .one K.pwrWakeCause]) s (State.wakeOnLevel s) := by
  unfold State.wakeOnLevel
  split
  · exact (State.wake_eff ..).after Eff.refl rfl
  · exact Eff.refl

theorem State.asleep_eff (s : State) :
    Eff (withSide [.device, .boot, .pins]) (sideAnd [.one K.devDeviceState, .one K.devStateChanges, .one K.devStateTime, .one
        K.pwrPowerPhase, .one K.pwrSleeps, .one K.pwrWakeCause]) s (State.asleep s) := by
  unfold State.asleep
  extract_lets +onlyGivenNames x1
  clear_value (ex1 : x1 = _)
  refine Eff.have ex1 ((State.raise_eff ..).after (Eff.inc ((State.powerPhase_eff ..).after Eff.refl rfl) rfl rfl) rfl) fun hx1 =>
      ?_
  split
  · exact (State.startWaking_eff ..).after hx1 rfl
  · exact (State.wakeOnLevel_eff ..).after hx1 rfl

theorem State.startSleep_eff (s : State) :
    Eff (withSide [.device, .boot, .pins]) (sideAnd [.one K.devDeviceState, .one K.devStateChanges, .one K.devStateTime, .one
        K.pwrPowerPhase, .one K.pwrSleeps, .one K.pwrWakeCause]) s (State.startSleep s) := by
  unfold State.startSleep
  extract_lets +onlyGivenNames x1
  clear_value (ex1 : x1 = _)
  refine Eff.have ex1 ((State.powerPhase_eff ..).after ((State.enter_eff ..).after Eff.refl rfl) rfl) fun hx1 => ?_
  extract_lets +onlyGivenNames v2
  clear_value v2
  extract_lets +onlyGivenNames x3
  clear_value (ex3 : x3 = _)
  refine Eff.have ex3 (Eff.upd_power hx1 rfl) fun hx3 => ?_
  exact Eff.ite ((State.asleep_eff ..).after hx3 rfl) hx3

end Sys2Proof.Machine
end

