-- ==== Sys2Proof/Laws/Camera.lean ====
section
/-! SUPPORT. What each operation of Machine/Camera.lean may change. -/

-- The proofs of this file are checked one after another, in one thread.
set_option Elab.async false

namespace Sys2Proof.Machine

theorem State.setCam_eff (s : State) (n : Nat) (c : Cam) :
    Eff [.cameras] [] s (State.setCam s n c) := by
  unfold State.setCam
  exact Eff.upd_cams Eff.refl rfl

theorem State.setCamState_eff (s : State) (n : Nat) (st : Nat) :
    Eff sideParts (sideAnd [.fam (K.camstChannelState 0) 12, .one K.camsPresent, .one K.camsPresentCount, .one K.camsRetired]) s
        (State.setCamState s n st) := by
  unfold State.setCamState
  extract_lets +onlyGivenNames v1
  clear_value v1
  extract_lets +onlyGivenNames v2
  clear_value v2
  extract_lets +onlyGivenNames v3
  clear_value v3
  extract_lets +onlyGivenNames x4
  clear_value (ex4 : x4 = _)
  refine Eff.have ex4 (Eff.wr (Eff.wr (Eff.wr Eff.refl rfl (KeySet.any_fam _ rfl)) rfl rfl) rfl rfl) fun hx4 => ?_
  extract_lets +onlyGivenNames x5
  clear_value (ex5 : x5 = _)
  refine Eff.have ex5 (Eff.wr hx4 rfl rfl) fun hx5 => ?_
  exact Eff.ite hx5 (Eff.arrive hx5 rfl)

theorem State.tunEnd_eff (s : State) (n : Nat) (code : Nat) :
    Eff (withSide [.domains, .cameras]) (sideAnd [.fam (K.tunTunnelStatus 0) 12]) s (State.tunEnd s n code) := by
  unfold State.tunEnd
  extract_lets +onlyGivenNames v1
  clear_value v1
  extract_lets +onlyGivenNames x2
  clear_value (ex2 : x2 = _)
  refine Eff.have ex2 (Eff.ite ((State.domWrite_eff ..).after Eff.refl rfl) Eff.refl) fun hx2 => ?_
  extract_lets +onlyGivenNames v3
  clear_value v3
  extract_lets +onlyGivenNames x4
  clear_value (ex4 : x4 = _)
  refine Eff.have ex4 (Eff.ite ((State.setCam_eff ..).after hx2 rfl) hx2) fun hx4 => ?_
  exact (State.raise_eff ..).after (Eff.arrive (Eff.wr hx4 rfl (KeySet.any_fam _ rfl)) rfl) rfl

theorem State.tunDown_eff (s : State) (n : Nat) :
    Eff (withSide [.domains, .cameras]) (sideAnd [.fam (K.tunTunnelStatus 0) 12]) s (State.tunDown s n) := by
  unfold State.tunDown
  exact Eff.ite ((State.tunEnd_eff ..).after Eff.refl rfl) Eff.refl

theorem State.camPhase_eff (s : State) (n : Nat) (p : Nat) :
    Eff (withSide [.cameras]) (sideAnd [.fam (K.camstChannelState 0) 12, .one K.camsPresent, .one K.camsPresentCount, .one
        K.camsRetired]) s (State.camPhase s n p) := by
  unfold State.camPhase
  exact (State.setCamState_eff ..).after ((State.setCam_eff ..).after Eff.refl rfl) rfl

theorem State.camApply_eff (s : State) (n : Nat) (oldLen : Nat) (conn : Bool) :
    Eff (withSide [.domains, .cameras]) (sideAnd [.fam (K.camstChannelState 0) 12, .fam (K.camstFifoFill 0) 12, .fam
        (K.tunTunnelStatus 0) 12, .one K.camsPresent, .one K.camsPresentCount, .one K.camsRetired]) s (State.camApply s n oldLen
        conn) := by
  unfold State.camApply
  extract_lets +onlyGivenNames v1
  clear_value v1
  extract_lets +onlyGivenNames v2
  clear_value v2
  extract_lets +onlyGivenNames v3
  clear_value v3
  extract_lets +onlyGivenNames v4
  clear_value v4
  extract_lets +onlyGivenNames x5
  clear_value (ex5 : x5 = _)
  refine Eff.have ex5 ((State.setCam_eff ..).after Eff.refl rfl) fun hx5 => ?_
  refine Eff.ite ?_ ?_
  · exact Eff.ite hx5 (Eff.wr ((State.setCamState_eff ..).after ((State.tunDown_eff ..).after ((State.setCam_eff ..).after hx5
      rfl) rfl) rfl) rfl (KeySet.any_fam _ rfl))
  · refine Eff.ite ?_ ?_
    · extract_lets +onlyGivenNames x6
      clear_value (ex6 : x6 = _)
      refine Eff.have ex6 ((State.setCamState_eff ..).after hx5 rfl) fun hx6 => ?_
      exact Eff.ite ((State.camPhase_eff ..).after hx6 rfl) hx6
    · exact Eff.ite ((State.camPhase_eff ..).after ((State.tunDown_eff ..).after hx5 rfl) rfl) hx5

theorem State.bandStart_eff (s : State) (n : Nat) (b : Int) :
    Eff [.regs, .cameras] [.fam (K.camstBandIndex 0) 12, .fam (K.camstCameraGeneration 0) 12] s (State.bandStart s n b) := by
  unfold State.bandStart
  extract_lets +onlyGivenNames v1
  clear_value v1
  extract_lets +onlyGivenNames x2
  clear_value (ex2 : x2 = _)
  refine Eff.have ex2 (Eff.ite (Eff.inc Eff.refl rfl (KeySet.any_fam _ rfl)) Eff.refl) fun hx2 => ?_
  extract_lets +onlyGivenNames v3
  clear_value v3
  extract_lets +onlyGivenNames v4
  clear_value v4
  exact Eff.wr ((State.setCam_eff ..).after hx2 rfl) rfl (KeySet.any_fam _ rfl)

theorem State.camPacket_eff (s : State) (n : Nat) (k : Nat) :
    Eff [.regs] [.all] s (State.camPacket s n k) := by
  unfold State.camPacket
  exact Eff.ite (Eff.inc Eff.refl rfl (KeySet.any_all rfl)) (Eff.ite (Eff.inc Eff.refl rfl (KeySet.any_all rfl)) Eff.refl)

theorem State.camRaised_eff (s : State) (n : Nat) (k : Int) (raised : Bool) :
    Eff [.regs, .cameras] [.fam (K.camstBandIndex 0) 12, .fam (K.camstCameraGeneration 0) 12, .fam (K.camstLinesDropped 0) 12] s
        (State.camRaised s n k raised) := by
  unfold State.camRaised
  refine Eff.ite ?_ ?_
  · exact Eff.refl
  · extract_lets +onlyGivenNames v1
    clear_value v1
    extract_lets +onlyGivenNames x2
    clear_value (ex2 : x2 = _)
    refine Eff.have ex2 (Eff.ite ((State.bandStart_eff ..).after Eff.refl rfl) Eff.refl) fun hx2 => ?_
    split
    · exact hx2
    · extract_lets +onlyGivenNames v3
      clear_value v3
      extract_lets +onlyGivenNames x4
      clear_value (ex4 : x4 = _)
      refine Eff.have ex4 ((State.setCam_eff ..).after hx2 rfl) fun hx4 => ?_
      exact Eff.ite (Eff.inc hx4 rfl (KeySet.any_fam _ rfl)) hx4

theorem State.camRetire_eff (s : State) (n : Nat) :
    Eff (withSide [.domains, .cameras]) (sideAnd [.fam (K.camstChannelState 0) 12, .fam (K.camstFifoFill 0) 12, .fam
        (K.camstStatus 0) 12, .fam (K.tunTunnelStatus 0) 12, .one K.camsPresent, .one K.camsPresentCount, .one K.camsRetired, .one
        K.fltFaultStatus, .one K.fltLastRetiredUnit, .one K.fltRetiredCount]) s (State.camRetire s n) := by
  unfold State.camRetire
  extract_lets +onlyGivenNames v1
  clear_value v1
  extract_lets +onlyGivenNames f2
  extract_lets +onlyGivenNames x3
  clear_value (ex3 : x3 = _)
  refine Eff.have ex3 ((State.setCam_eff ..).after Eff.refl rfl) fun hx3 => ?_
  extract_lets +onlyGivenNames x4
  clear_value (ex4 : x4 = _)
  refine Eff.have ex4 ((State.setCamState_eff ..).after ((State.tunDown_eff ..).after (Eff.wr hx3 rfl (KeySet.any_fam _ rfl)) rfl)
      rfl) fun hx4 => ?_
  exact (State.retire_eff ..).after ((State.raise_eff ..).after (Eff.flag hx4 rfl (KeySet.any_fam _ rfl)) rfl) rfl

theorem State.camRunStart_eff (s : State) (n : Nat) :
    Eff [.cameras] [] s (State.camRunStart s n) := by
  unfold State.camRunStart
  extract_lets +onlyGivenNames v1
  clear_value v1
  exact (State.setCam_eff ..).after Eff.refl rfl

theorem State.cxpCal_eff (s : State) (link : Nat) (eye : Nat) (eq : Nat) :
    Eff (withSide [.boot]) (sideAnd [.one K.calCalStatus]) s (State.cxpCal s link eye eq) := by
  unfold State.cxpCal
  exact (State.calEnd_eff ..).after Eff.refl rfl

theorem State.cxpCals_eff (n : Nat) (eyes : List Nat) (eqs : List Nat) (a1 : List Nat) (s : State) :
    Eff (withSide [.boot]) (sideAnd [.one K.calCalStatus]) s (State.cxpCals n eyes eqs a1 s) := by
  unfold State.cxpCals
  split
  · exact Eff.refl
  · exact (State.cxpCals_eff ..).after ((State.cxpCal_eff ..).after Eff.refl rfl) rfl

theorem State.discFail_eff (s : State) (n : Nat) (p : Nat) :
    Eff (withSide [.cameras]) (sideAnd [.fam (K.camstChannelState 0) 12, .fam (K.camstDiscoveryPhase 0) 12, .fam (K.camstSpeed 0)
        12, .fam (K.camstStatus 0) 12, .one K.camsPresent, .one K.camsPresentCount, .one K.camsRetired]) s (State.discFail s n p)
        := by
  unfold State.discFail
  extract_lets +onlyGivenNames v1
  clear_value v1
  extract_lets +onlyGivenNames x2
  clear_value (ex2 : x2 = _)
  refine Eff.have ex2 ((State.setCamState_eff ..).after ((State.setCam_eff ..).after Eff.refl rfl) rfl) fun hx2 => ?_
  exact Eff.flag (Eff.wr (Eff.wr hx2 rfl (KeySet.any_fam _ rfl)) rfl (KeySet.any_fam _ rfl)) rfl (KeySet.any_fam _ rfl)

theorem State.dropBand_eff (s : State) (n : Nat) (b : Int) :
    Eff (withSide [.cameras]) (sideAnd [.fam (K.camstBandsDropped 0) 12, .fam (K.camstLinesDropped 0) 12, .fam (K.camstStatus 0)
        12]) s (State.dropBand s n b) := by
  unfold State.dropBand
  extract_lets +onlyGivenNames v1
  clear_value v1
  split
  · exact Eff.refl
  · refine Eff.ite ?_ ?_
    · exact Eff.refl
    · extract_lets +onlyGivenNames f2
      extract_lets +onlyGivenNames v3
      clear_value v3
      extract_lets +onlyGivenNames x4
      clear_value (ex4 : x4 = _)
      refine Eff.have ex4 ((State.setCam_eff ..).after Eff.refl rfl) fun hx4 => ?_
      extract_lets +onlyGivenNames x5
      clear_value (ex5 : x5 = _)
      refine Eff.have ex5 (Eff.add hx4 rfl (KeySet.any_fam _ rfl)) fun hx5 => ?_
      exact (State.raise_eff ..).after (Eff.inc (Eff.flag hx5 rfl (KeySet.any_fam _ rfl)) rfl (KeySet.any_fam _ rfl)) rfl

theorem State.dropLineBand_eff (s : State) (n : Nat) :
    Eff (withSide [.cameras]) (sideAnd [.fam (K.camstBandsDropped 0) 12, .fam (K.camstLinesDropped 0) 12, .fam (K.camstStatus 0)
        12]) s (State.dropLineBand s n) := by
  unfold State.dropLineBand
  extract_lets +onlyGivenNames v1
  clear_value v1
  split
  · exact (State.dropBand_eff ..).after Eff.refl rfl
  · split
    · exact (State.dropBand_eff ..).after Eff.refl rfl
    · exact Eff.refl

theorem State.fifoPut_eff (s : State) (n : Nat) (a1 : CLine) :
    Eff [.regs, .cameras] [.fam (K.camstFifoFill 0) 12, .fam (K.camstFifoPeak 0) 12, .fam (K.camstLinesAccepted 0) 12] s
        (State.fifoPut s n a1) := by
  unfold State.fifoPut
  extract_lets +onlyGivenNames v1
  clear_value v1
  extract_lets +onlyGivenNames v2
  clear_value v2
  extract_lets +onlyGivenNames x3
  clear_value (ex3 : x3 = _)
  refine Eff.have ex3 ((State.setCam_eff ..).after Eff.refl rfl) fun hx3 => ?_
  extract_lets +onlyGivenNames x4
  clear_value (ex4 : x4 = _)
  refine Eff.have ex4 (Eff.peak (Eff.wr hx3 rfl (KeySet.any_fam _ rfl)) rfl (KeySet.any_fam _ rfl)) fun hx4 => ?_
  exact Eff.inc hx4 rfl (KeySet.any_fam _ rfl)

theorem State.genRaised_eff (s : State) (n : Nat) (k : Int) (raised : Bool) :
    Eff [.regs, .cameras] [.fam (K.camstBandIndex 0) 12, .fam (K.camstCameraGeneration 0) 12, .fam (K.camstLinesDropped 0) 12] s
        (State.genRaised s n k raised) := by
  unfold State.genRaised
  exact Eff.ite Eff.refl ((State.camRaised_eff ..).after Eff.refl rfl)

theorem State.lineAccept_eff (s : State) (n : Nat) (l : CamLine) (e : CamTrig) :
    Eff [.regs, .cameras] [.fam (K.camstFifoFill 0) 12, .fam (K.camstFifoPeak 0) 12, .fam (K.camstLinesAccepted 0) 12] s
        (State.lineAccept s n l e) := by
  unfold State.lineAccept
  extract_lets +onlyGivenNames v1
  clear_value v1
  extract_lets +onlyGivenNames v2
  clear_value v2
  extract_lets +onlyGivenNames v3
  clear_value v3
  extract_lets +onlyGivenNames x4
  clear_value (ex4 : x4 = _)
  refine Eff.have ex4 ((State.setCam_eff ..).after Eff.refl rfl) fun hx4 => ?_
  exact (State.fifoPut_eff ..).after hx4 rfl

theorem State.lineFails_eff (s : State) (n : Nat) (bit : Nat) :
    Eff (withSide [.cameras]) (sideAnd [.fam (K.camstBandsDropped 0) 12, .fam (K.camstLinesDropped 0) 12, .fam (K.camstStatus 0)
        12]) s (State.lineFails s n bit) := by
  unfold State.lineFails
  extract_lets +onlyGivenNames v1
  clear_value v1
  extract_lets +onlyGivenNames x2
  clear_value (ex2 : x2 = _)
  refine Eff.have ex2 ((State.dropLineBand_eff ..).after (Eff.flag Eff.refl rfl (KeySet.any_fam _ rfl)) rfl) fun hx2 => ?_
  exact Eff.ite ((State.setCam_eff ..).after hx2 rfl) hx2

theorem State.trigFails_eff (s : State) (n : Nat) (k : Int) :
    Eff (withSide [.cameras]) (sideAnd [.fam (K.camstBandsDropped 0) 12, .fam (K.camstLinesDropped 0) 12, .fam (K.camstStatus 0)
        12]) s (State.trigFails s n k) := by
  unfold State.trigFails
  exact (State.dropBand_eff ..).after Eff.refl rfl

theorem State.trigLost_eff (s : State) (n : Nat) (k : Int) :
    Eff (withSide [.cameras]) (sideAnd [.fam (K.camstBandsDropped 0) 12, .fam (K.camstLinesDropped 0) 12, .fam (K.camstStatus 0)
        12, .fam (K.camstTrigOverruns 0) 12]) s (State.trigLost s n k) := by
  unfold State.trigLost
  exact (State.trigFails_eff ..).after (Eff.inc (Eff.flag Eff.refl rfl (KeySet.any_fam _ rfl)) rfl (KeySet.any_fam _ rfl)) rfl

theorem State.trigSent_eff (s : State) (n : Nat) (a1 : CamTrig) :
    Eff (withSide [.cameras]) (sideAnd [.fam (K.camstBandsDropped 0) 12, .fam (K.camstLinesDropped 0) 12, .fam (K.camstStatus 0)
        12]) s (State.trigSent s n a1) := by
  unfold State.trigSent
  extract_lets +onlyGivenNames v1
  clear_value v1
  split
  · refine Eff.ite ?_ ?_
    · extract_lets +onlyGivenNames v2
      clear_value v2
      split
      · exact Eff.ite ((State.trigFails_eff ..).after ((State.setCam_eff ..).after Eff.refl rfl) rfl) ((State.setCam_eff ..).after
          Eff.refl rfl)
      · exact (State.setCam_eff ..).after Eff.refl rfl
    · exact (State.setCam_eff ..).after Eff.refl rfl
  · exact (State.setCam_eff ..).after Eff.refl rfl

theorem State.tunSend_eff (s : State) (n : Nat) :
    Eff [.cameras] [] s (State.tunSend s n) := by
  unfold State.tunSend
  extract_lets +onlyGivenNames v1
  clear_value v1
  extract_lets +onlyGivenNames v2
  clear_value v2
  extract_lets +onlyGivenNames v3
  clear_value v3
  extract_lets +onlyGivenNames x4
  clear_value (ex4 : x4 = _)
  refine Eff.have ex4 ((State.setCam_eff ..).after Eff.refl rfl) fun hx4 => ?_
  exact Eff.upd_uplinks hx4 rfl

theorem bandEnd_eff (n : Nat) (s : State) :
    Eff (withSide [.cameras]) sideKeys s (bandEnd n s) := by
  unfold bandEnd
  split
  · exact Eff.refl
  · exact (State.raise_eff ..).after ((State.setCam_eff ..).after Eff.refl rfl) rfl

theorem camReadmitWrite_eff (a : Acc) (n : Nat) (s : State) :
    Eff (withSide [.cameras]) (accAnd [.fam (K.camstChannelState 0) 12, .one K.camsPresent, .one K.camsPresentCount, .one
        K.camsRetired, .one K.fltRetiredCount]) s (camReadmitWrite a n s) := by
  unfold camReadmitWrite
  exact Eff.act Eff.refl (fun y1 hy1 => (Eff.ite
      (by extract_lets +onlyGivenNames x2; clear_value (ex2 : x2 = _); exact Eff.have ex2 ((State.readmit_eff ..).after ((State.setCamState_eff ..).after hy1 rfl) rfl) fun hx2 => (Eff.ite ((State.camPhase_eff ..).after hx2 rfl) ((State.setCam_eff ..).after hx2 rfl)))
      hy1)) rfl

theorem camTrigger_eff (n : Nat) (s : State) :
    Eff (withSide [.clock, .wheel, .cameras]) (sideAnd [.fam (K.camstBandsDropped 0) 12, .fam (K.camstLinesDropped 0) 12, .fam
        (K.camstStatus 0) 12, .fam (K.camstTrigOverruns 0) 12]) s (camTrigger n s) := by
  unfold camTrigger
  split
  · exact Eff.refl
  · rename_i q1
    extract_lets +onlyGivenNames x2
    clear_value (ex2 : x2 = _)
    refine Eff.have ex2 ((State.at_eff ..).after ((State.takeTrig_eff q1).after Eff.refl rfl) rfl) fun hx2 => ?_
    extract_lets +onlyGivenNames v3
    clear_value v3
    extract_lets +onlyGivenNames v4
    clear_value v4
    refine Eff.ite ?_ ?_
    · exact hx2
    · refine Eff.ite ?_ ?_
      · exact Eff.ite ((State.setCam_eff ..).after hx2 rfl) hx2
      · refine Eff.ite ?_ ?_
        · exact (State.trigFails_eff ..).after hx2 rfl
        · refine Eff.ite ?_ ?_
          · exact (State.trigFails_eff ..).after hx2 rfl
          · split
            · exact (State.setCam_eff ..).after hx2 rfl
            · exact (State.setCam_eff ..).after hx2 rfl
            · exact (State.trigLost_eff ..).after hx2 rfl

theorem dropBands_eff (n : Nat) (a1 : List Int) (s : State) :
    Eff (withSide [.cameras]) (sideAnd [.fam (K.camstBandsDropped 0) 12, .fam (K.camstLinesDropped 0) 12, .fam (K.camstStatus 0)
        12]) s (dropBands n a1 s) := by
  unfold dropBands
  split
  · exact Eff.refl
  · exact (dropBands_eff ..).after ((State.dropBand_eff ..).after Eff.refl rfl) rfl

theorem cxpLinkLost_eff (n : Nat) (link : Nat) (s : State) :
    Eff (withSide [.domains, .cameras]) (sideAnd [.fam (K.camstBandsDropped 0) 12, .fam (K.camstChannelState 0) 12, .fam
        (K.camstDiscoveryPhase 0) 12, .fam (K.camstFaultCount 0) 12, .fam (K.camstFifoFill 0) 12, .fam (K.camstLastFaultTime 0)
        12, .fam (K.camstLinesDropped 0) 12, .fam (K.camstLinksUp 0) 12, .fam (K.camstSpeed 0) 12, .fam (K.camstStatus 0) 12, .fam
        (K.tunTunnelStatus 0) 12, .one K.camsPresent, .one K.camsPresentCount, .one K.camsRetired, .one K.fltFaultStatus, .one
        K.fltLastRetiredUnit, .one K.fltRetiredCount, .one K.fltTransientCount]) s (cxpLinkLost n link s) := by
  unfold cxpLinkLost
  extract_lets +onlyGivenNames v1
  clear_value v1
  extract_lets +onlyGivenNames v2
  clear_value v2
  extract_lets +onlyGivenNames x3
  clear_value (ex3 : x3 = _)
  refine Eff.have ex3 (Eff.wr Eff.refl rfl (KeySet.any_fam _ rfl)) fun hx3 => ?_
  extract_lets +onlyGivenNames x4
  clear_value (ex4 : x4 = _)
  refine Eff.have ex4 (Eff.ite ((State.setCam_eff ..).after hx3 rfl) hx3) fun hx4 => ?_
  extract_lets +onlyGivenNames x5
  clear_value (ex5 : x5 = _)
  refine Eff.have ex5 (Eff.ite ((State.tunDown_eff ..).after hx4 rfl) hx4) fun hx5 => ?_
  refine Eff.ite ?_ ?_
  · extract_lets +onlyGivenNames x6
    clear_value (ex6 : x6 = _)
    refine Eff.have ex6 ((dropBands_eff ..).after hx5 rfl) fun hx6 => ?_
    extract_lets +onlyGivenNames v7
    clear_value v7
    extract_lets +onlyGivenNames x8
    clear_value (ex8 : x8 = _)
    refine Eff.have ex8 ((State.setCamState_eff ..).after ((State.setCam_eff ..).after hx6 rfl) rfl) fun hx8 => ?_
    extract_lets +onlyGivenNames x9
    clear_value (ex9 : x9 = _)
    refine Eff.have ex9 ((State.raise_eff ..).after (Eff.flag hx8 rfl (KeySet.any_fam _ rfl)) rfl) fun hx9 => ?_
    extract_lets +onlyGivenNames x10
    clear_value (ex10 : x10 = _)
    refine Eff.have ex10 (Eff.wr (Eff.inc hx9 rfl (KeySet.any_fam _ rfl)) rfl (KeySet.any_fam _ rfl)) fun hx10 => ?_
    extract_lets +onlyGivenNames x11
    clear_value (ex11 : x11 = _)
    refine Eff.have ex11 ((State.transient_eff ..).after hx10 rfl) fun hx11 => ?_
    exact Eff.ite ((State.camRetire_eff ..).after hx11 rfl) hx11
  · refine Eff.ite ?_ ?_
    · split
      · exact (State.discFail_eff ..).after hx5 rfl
      · exact (State.discFail_eff ..).after hx5 rfl
      · exact hx5
    · exact hx5

theorem cxpLock_eff (n : Nat) (s : State) :
    Eff (withSide [.cameras]) (sideAnd [.fam (K.camstChannelState 0) 12, .fam (K.camstLinksUp 0) 12, .one K.camsPresent, .one
        K.camsPresentCount, .one K.camsRetired]) s (cxpLock n s) := by
  unfold cxpLock
  refine Eff.ite ?_ ?_
  · exact Eff.refl
  · extract_lets +onlyGivenNames v1
    clear_value v1
    extract_lets +onlyGivenNames x2
    clear_value (ex2 : x2 = _)
    refine Eff.have ex2 ((State.setCam_eff ..).after Eff.refl rfl) fun hx2 => ?_
    extract_lets +onlyGivenNames x3
    clear_value (ex3 : x3 = _)
    refine Eff.have ex3 (Eff.wr hx2 rfl (KeySet.any_fam _ rfl)) fun hx3 => ?_
    exact Eff.ite ((State.camPhase_eff ..).after hx3 rfl) hx3

theorem cxpRelocked_eff (n : Nat) (eyes : List Nat) (s : State) :
    Eff (withSide [.boot, .cameras]) (sideAnd [.fam (K.camstChannelState 0) 12, .fam (K.camstLinksUp 0) 12, .one K.calCalStatus,
        .one K.camsPresent, .one K.camsPresentCount, .one K.camsRetired]) s (cxpRelocked n eyes s) := by
  unfold cxpRelocked
  refine Eff.ite ?_ ?_
  · exact Eff.refl
  · extract_lets +onlyGivenNames v1
    clear_value v1
    extract_lets +onlyGivenNames v2
    clear_value v2
    extract_lets +onlyGivenNames x3
    clear_value (ex3 : x3 = _)
    refine Eff.have ex3 ((State.cxpCals_eff ..).after Eff.refl rfl) fun hx3 => ?_
    extract_lets +onlyGivenNames v4
    clear_value v4
    extract_lets +onlyGivenNames x5
    clear_value (ex5 : x5 = _)
    refine Eff.have ex5 ((State.setCam_eff ..).after hx3 rfl) fun hx5 => ?_
    exact (State.raise_eff ..).after ((State.setCamState_eff ..).after (Eff.wr hx5 rfl (KeySet.any_fam _ rfl)) rfl) rfl

theorem execBandEnd_eff (n : Nat) (s : State) {t : State} (h : execBandEnd n s = .next t) :
    Eff (withSide [.cameras]) sideKeys s t := by
  unfold execBandEnd at h
  exact Eff.to (inst_next h).2.symm ((bandEnd_eff ..).after Eff.refl rfl)

theorem execCamReadmit_eff (a : Acc) (n : Nat) (s : State) {t : State} (h : execCamReadmit a n s = .next t) :
    Eff (withSide [.cameras]) (accAnd [.fam (K.camstChannelState 0) 12, .one K.camsPresent, .one K.camsPresentCount, .one
        K.camsRetired, .one K.fltRetiredCount]) s t := by
  unfold execCamReadmit at h
  exact Eff.to (inst_next h).2.symm ((camReadmitWrite_eff ..).after Eff.refl rfl)

theorem execCamTrigger_eff (n : Nat) (s : State) {t : State} (h : execCamTrigger n s = .next t) :
    Eff (withSide [.clock, .wheel, .cameras]) (sideAnd [.fam (K.camstBandsDropped 0) 12, .fam (K.camstLinesDropped 0) 12, .fam
        (K.camstStatus 0) 12, .fam (K.camstTrigOverruns 0) 12]) s t := by
  unfold execCamTrigger at h
  exact Eff.to (inst_next h).2.symm ((camTrigger_eff ..).after Eff.refl rfl)

theorem execCxpEvent_eff (n : Nat) (s : State) {t : State} (h : execCxpEvent n s = .next t) :
    Eff [.regs] [.all] s t := by
  unfold execCxpEvent at h
  exact Eff.to (inst_next h).2.symm ((State.camPacket_eff ..).after Eff.refl rfl)

theorem execCxpHeartbeat_eff (n : Nat) (s : State) {t : State} (h : execCxpHeartbeat n s = .next t) :
    Eff [.regs] [.all] s t := by
  unfold execCxpHeartbeat at h
  exact Eff.to (inst_next h).2.symm ((State.camPacket_eff ..).after Eff.refl rfl)

theorem execCxpLinkLost_eff (n : Nat) (link : Nat) (s : State) {t : State} (h : execCxpLinkLost n link s = .next t) :
    Eff (withSide [.domains, .cameras]) (sideAnd [.fam (K.camstBandsDropped 0) 12, .fam (K.camstChannelState 0) 12, .fam
        (K.camstDiscoveryPhase 0) 12, .fam (K.camstFaultCount 0) 12, .fam (K.camstFifoFill 0) 12, .fam (K.camstLastFaultTime 0)
        12, .fam (K.camstLinesDropped 0) 12, .fam (K.camstLinksUp 0) 12, .fam (K.camstSpeed 0) 12, .fam (K.camstStatus 0) 12, .fam
        (K.tunTunnelStatus 0) 12, .one K.camsPresent, .one K.camsPresentCount, .one K.camsRetired, .one K.fltFaultStatus, .one
        K.fltLastRetiredUnit, .one K.fltRetiredCount, .one K.fltTransientCount]) s t := by
  unfold execCxpLinkLost at h
  exact Eff.to (inst_next h).2.symm ((cxpLinkLost_eff ..).after Eff.refl rfl)

theorem execCxpLock_eff (n : Nat) (s : State) {t : State} (h : execCxpLock n s = .next t) :
    Eff (withSide [.cameras]) (sideAnd [.fam (K.camstChannelState 0) 12, .fam (K.camstLinksUp 0) 12, .one K.camsPresent, .one
        K.camsPresentCount, .one K.camsRetired]) s t := by
  unfold execCxpLock at h
  exact Eff.to (inst_next h).2.symm ((cxpLock_eff ..).after Eff.refl rfl)

theorem execCxpRelocked_eff (n : Nat) (eyes : List Nat) (s : State) {t : State} (h : execCxpRelocked n eyes s = .next t) :
    Eff (withSide [.boot, .cameras]) (sideAnd [.fam (K.camstChannelState 0) 12, .fam (K.camstLinksUp 0) 12, .one K.calCalStatus,
        .one K.camsPresent, .one K.camsPresentCount, .one K.camsRetired]) s t := by
  unfold execCxpRelocked at h
  exact Eff.to (inst_next h).2.symm ((cxpRelocked_eff ..).after Eff.refl rfl)

theorem execCxpTriggerAck_eff (n : Nat) (s : State) {t : State} (h : execCxpTriggerAck n s = .next t) :
    Eff [.regs] [.all] s t := by
  unfold execCxpTriggerAck at h
  exact Eff.to (inst_next h).2.symm ((State.camPacket_eff ..).after Eff.refl rfl)

theorem huntLock_eff (n : Nat) (s : State) :
    Eff (withSide [.cameras]) (sideAnd [.fam (K.camstChannelState 0) 12, .one K.camsPresent, .one K.camsPresentCount, .one
        K.camsRetired]) s (huntLock n s) := by
  unfold huntLock
  exact Eff.ite ((State.camPhase_eff ..).after Eff.refl rfl) Eff.refl

theorem execHuntLock_eff (n : Nat) (s : State) {t : State} (h : execHuntLock n s = .next t) :
    Eff (withSide [.cameras]) (sideAnd [.fam (K.camstChannelState 0) 12, .one K.camsPresent, .one K.camsPresentCount, .one
        K.camsRetired]) s t := by
  unfold execHuntLock at h
  exact Eff.to (inst_next h).2.symm ((huntLock_eff ..).after Eff.refl rfl)

theorem huntTimeout_eff (n : Nat) (s : State) :
    Eff (withSide [.clock, .cameras]) (sideAnd [.fam (K.camstChannelState 0) 12, .one K.camsPresent, .one K.camsPresentCount, .one
        K.camsRetired]) s (huntTimeout n s) := by
  unfold huntTimeout
  exact Eff.ite ((State.setCamState_eff ..).after ((State.setCam_eff ..).after ((State.at_eff ..).after Eff.refl rfl) rfl) rfl)
      Eff.refl

theorem execHuntTimeout_eff (n : Nat) (s : State) {t : State} (h : execHuntTimeout n s = .next t) :
    Eff (withSide [.clock, .cameras]) (sideAnd [.fam (K.camstChannelState 0) 12, .one K.camsPresent, .one K.camsPresentCount, .one
        K.camsRetired]) s t := by
  unfold execHuntTimeout at h
  exact Eff.to (inst_next h).2.symm ((huntTimeout_eff ..).after Eff.refl rfl)

theorem lateLine_eff (n : Nat) (s : State) :
    Eff (withSide [.clock, .cameras]) (sideAnd [.fam (K.camstBandsDropped 0) 12, .fam (K.camstLinesDropped 0) 12, .fam
        (K.camstStatus 0) 12, .fam (K.ctxsStatus 0) 12]) s (lateLine n s) := by
  unfold lateLine
  extract_lets +onlyGivenNames v1
  clear_value v1
  split
  · exact Eff.refl
  · extract_lets +onlyGivenNames x2
    clear_value (ex2 : x2 = _)
    refine Eff.have ex2 ((State.at_eff ..).after Eff.refl rfl) fun hx2 => ?_
    extract_lets +onlyGivenNames x3
    clear_value (ex3 : x3 = _)
    refine Eff.have ex3 (Eff.ite (Eff.flag ((State.setCam_eff ..).after hx2 rfl) rfl (KeySet.any_fam _ rfl)) ((State.setCam_eff
        ..).after hx2 rfl)) fun hx3 => ?_
    exact (State.trigFails_eff ..).after (Eff.flag hx3 rfl (KeySet.any_fam _ rfl)) rfl

theorem execLateLine_eff (n : Nat) (s : State) {t : State} (h : execLateLine n s = .next t) :
    Eff (withSide [.clock, .cameras]) (sideAnd [.fam (K.camstBandsDropped 0) 12, .fam (K.camstLinesDropped 0) 12, .fam
        (K.camstStatus 0) 12, .fam (K.ctxsStatus 0) 12]) s t := by
  unfold execLateLine at h
  exact Eff.to (inst_next h).2.symm ((lateLine_eff ..).after Eff.refl rfl)

theorem lineReceived_eff (n : Nat) (l : CamLine) (s : State) :
    Eff (withSide [.cameras]) (sideAnd [.fam (K.camstBandsDropped 0) 12, .fam (K.camstCrcErrors 0) 12, .fam (K.camstDiscardCount
        0) 12, .fam (K.camstFifoFill 0) 12, .fam (K.camstFifoPeak 0) 12, .fam (K.camstLinesAccepted 0) 12, .fam
        (K.camstLinesDropped 0) 12, .fam (K.camstStatus 0) 12]) s (lineReceived n l s) := by
  unfold lineReceived
  extract_lets +onlyGivenNames v1
  clear_value v1
  extract_lets +onlyGivenNames v2
  clear_value v2
  refine Eff.ite ?_ ?_
  · exact Eff.inc Eff.refl rfl (KeySet.any_fam _ rfl)
  · refine Eff.ite ?_ ?_
    · exact Eff.refl
    · split
      · exact (State.setCam_eff ..).after Eff.refl rfl
      · extract_lets +onlyGivenNames x3
        clear_value (ex3 : x3 = _)
        refine Eff.have ex3 (Eff.ite (Eff.add Eff.refl rfl (KeySet.any_fam _ rfl)) Eff.refl) fun hx3 => ?_
        refine Eff.ite ?_ ?_
        · exact hx3
        · refine Eff.ite ?_ ?_
          · exact (State.lineFails_eff ..).after hx3 rfl
          · refine Eff.ite ?_ ?_
            · exact (State.lineFails_eff ..).after hx3 rfl
            · split
              · exact (State.lineFails_eff ..).after hx3 rfl
              · exact Eff.ite ((State.lineAccept_eff ..).after hx3 rfl) ((State.lineFails_eff ..).after hx3 rfl)

theorem execLineReceived_eff (n : Nat) (l : CamLine) (s : State) {t : State} (h : execLineReceived n l s = .next t) :
    Eff (withSide [.cameras]) (sideAnd [.fam (K.camstBandsDropped 0) 12, .fam (K.camstCrcErrors 0) 12, .fam (K.camstDiscardCount
        0) 12, .fam (K.camstFifoFill 0) 12, .fam (K.camstFifoPeak 0) 12, .fam (K.camstLinesAccepted 0) 12, .fam
        (K.camstLinesDropped 0) 12, .fam (K.camstStatus 0) 12]) s t := by
  unfold execLineReceived at h
  exact Eff.to (inst_next h).2.symm ((lineReceived_eff ..).after Eff.refl rfl)

theorem owedLineLapse_eff (n : Nat) (s : State) :
    Eff [.clock, .cameras] [] s (owedLineLapse n s) := by
  unfold owedLineLapse
  extract_lets +onlyGivenNames v1
  clear_value v1
  split
  · exact Eff.refl
  · exact (State.setCam_eff ..).after ((State.at_eff ..).after Eff.refl rfl) rfl

theorem execOwedLineLapse_eff (n : Nat) (s : State) {t : State} (h : execOwedLineLapse n s = .next t) :
    Eff [.clock, .cameras] [] s t := by
  unfold execOwedLineLapse at h
  exact Eff.to (inst_next h).2.symm ((owedLineLapse_eff ..).after Eff.refl rfl)

theorem queryDone_eff (n : Nat) (r : CamQuery) (s : State) :
    Eff (withSide [.cameras]) (sideAnd [.fam (K.camstCamVersion 0) 12, .fam (K.camstChannelState 0) 12, .fam
        (K.camstDiscoveryPhase 0) 12, .fam (K.camstSpeed 0) 12, .fam (K.camstStatus 0) 12, .one K.camsPresent, .one
        K.camsPresentCount, .one K.camsRetired]) s (queryDone n r s) := by
  unfold queryDone
  refine Eff.ite ?_ ?_
  · exact Eff.refl
  · refine Eff.ite ?_ ?_
    · exact (State.discFail_eff ..).after Eff.refl rfl
    · extract_lets +onlyGivenNames x1
      clear_value (ex1 : x1 = _)
      refine Eff.have ex1 (Eff.wr Eff.refl rfl (KeySet.any_fam _ rfl)) fun hx1 => ?_
      extract_lets +onlyGivenNames v2
      clear_value v2
      exact Eff.ite ((State.discFail_eff ..).after hx1 rfl) ((State.camPhase_eff ..).after (Eff.wr hx1 rfl (KeySet.any_fam _ rfl))
          rfl)

theorem execQueryDone_eff (n : Nat) (r : CamQuery) (s : State) {t : State} (h : execQueryDone n r s = .next t) :
    Eff (withSide [.cameras]) (sideAnd [.fam (K.camstCamVersion 0) 12, .fam (K.camstChannelState 0) 12, .fam
        (K.camstDiscoveryPhase 0) 12, .fam (K.camstSpeed 0) 12, .fam (K.camstStatus 0) 12, .one K.camsPresent, .one
        K.camsPresentCount, .one K.camsRetired]) s t := by
  unfold execQueryDone at h
  exact Eff.to (inst_next h).2.symm ((queryDone_eff ..).after Eff.refl rfl)

theorem rediscoverWrite_eff (a : Acc) (n : Nat) (s : State) :
    Eff (withSide [.cameras]) (accAnd [.fam (K.camstChannelState 0) 12, .one K.camsPresent, .one K.camsPresentCount, .one
        K.camsRetired]) s (rediscoverWrite a n s) := by
  unfold rediscoverWrite
  exact Eff.act Eff.refl (fun y1 hy1 => (Eff.ite ((State.camPhase_eff ..).after hy1 rfl) hy1)) rfl

theorem execRediscover_eff (a : Acc) (n : Nat) (s : State) {t : State} (h : execRediscover a n s = .next t) :
    Eff (withSide [.cameras]) (accAnd [.fam (K.camstChannelState 0) 12, .one K.camsPresent, .one K.camsPresentCount, .one
        K.camsRetired]) s t := by
  unfold execRediscover at h
  exact Eff.to (inst_next h).2.symm ((rediscoverWrite_eff ..).after Eff.refl rfl)

theorem relockTimeout_eff (n : Nat) (s : State) :
    Eff (withSide [.clock, .domains, .cameras]) (sideAnd [.fam (K.camstChannelState 0) 12, .fam (K.camstFifoFill 0) 12, .fam
        (K.camstStatus 0) 12, .fam (K.tunTunnelStatus 0) 12, .one K.camsPresent, .one K.camsPresentCount, .one K.camsRetired, .one
        K.fltFaultStatus, .one K.fltLastRetiredUnit, .one K.fltRetiredCount]) s (relockTimeout n s) := by
  unfold relockTimeout
  exact Eff.ite ((State.camRetire_eff ..).after ((State.at_eff ..).after Eff.refl rfl) rfl) Eff.refl

theorem execRelockTimeout_eff (n : Nat) (s : State) {t : State} (h : execRelockTimeout n s = .next t) :
    Eff (withSide [.clock, .domains, .cameras]) (sideAnd [.fam (K.camstChannelState 0) 12, .fam (K.camstFifoFill 0) 12, .fam
        (K.camstStatus 0) 12, .fam (K.tunTunnelStatus 0) 12, .one K.camsPresent, .one K.camsPresentCount, .one K.camsRetired, .one
        K.fltFaultStatus, .one K.fltLastRetiredUnit, .one K.fltRetiredCount]) s t := by
  unfold execRelockTimeout at h
  exact Eff.to (inst_next h).2.symm ((relockTimeout_eff ..).after Eff.refl rfl)

theorem skewTimeout_eff (n : Nat) (s : State) :
    Eff (withSide [.cameras]) (sideAnd [.fam (K.camstBandsDropped 0) 12, .fam (K.camstLinesDropped 0) 12, .fam (K.camstStatus 0)
        12]) s (skewTimeout n s) := by
  unfold skewTimeout
  extract_lets +onlyGivenNames v1
  clear_value v1
  refine Eff.ite ?_ ?_
  · exact Eff.refl
  · split
    · exact (State.setCam_eff ..).after Eff.refl rfl
    · exact Eff.ite ((State.lineFails_eff ..).after Eff.refl rfl) Eff.refl

theorem execSkewTimeout_eff (n : Nat) (s : State) {t : State} (h : execSkewTimeout n s = .next t) :
    Eff (withSide [.cameras]) (sideAnd [.fam (K.camstBandsDropped 0) 12, .fam (K.camstLinesDropped 0) 12, .fam (K.camstStatus 0)
        12]) s t := by
  unfold execSkewTimeout at h
  exact Eff.to (inst_next h).2.symm ((skewTimeout_eff ..).after Eff.refl rfl)

theorem trainDone_eff (n : Nat) (a1 : CamTrain) (s : State) :
    Eff (withSide [.boot, .cameras]) (sideAnd [.fam (K.camstChannelState 0) 12, .fam (K.camstDiscoveryPhase 0) 12, .fam
        (K.camstLinksUp 0) 12, .fam (K.camstSpeed 0) 12, .fam (K.camstStatus 0) 12, .one K.calCalStatus, .one K.camsPresent, .one
        K.camsPresentCount, .one K.camsRetired]) s (trainDone n a1 s) := by
  unfold trainDone
  refine Eff.ite ?_ ?_
  · exact Eff.refl
  · extract_lets +onlyGivenNames v1
    clear_value v1
    extract_lets +onlyGivenNames x2
    clear_value (ex2 : x2 = _)
    refine Eff.have ex2 ((State.cxpCals_eff ..).after Eff.refl rfl) fun hx2 => ?_
    extract_lets +onlyGivenNames v3
    clear_value v3
    refine Eff.ite ?_ ?_
    · extract_lets +onlyGivenNames v4
      clear_value v4
      extract_lets +onlyGivenNames x5
      clear_value (ex5 : x5 = _)
      refine Eff.have ex5 ((State.setCam_eff ..).after hx2 rfl) fun hx5 => ?_
      exact (State.raise_eff ..).after ((State.setCamState_eff ..).after (Eff.wr hx5 rfl (KeySet.any_fam _ rfl)) rfl) rfl
    · exact (State.discFail_eff ..).after hx2 rfl

theorem execTrainDone_eff (n : Nat) (a1 : CamTrain) (s : State) {t : State} (h : execTrainDone n a1 s = .next t) :
    Eff (withSide [.boot, .cameras]) (sideAnd [.fam (K.camstChannelState 0) 12, .fam (K.camstDiscoveryPhase 0) 12, .fam
        (K.camstLinksUp 0) 12, .fam (K.camstSpeed 0) 12, .fam (K.camstStatus 0) 12, .one K.calCalStatus, .one K.camsPresent, .one
        K.camsPresentCount, .one K.camsRetired]) s t := by
  unfold execTrainDone at h
  exact Eff.to (inst_next h).2.symm ((trainDone_eff ..).after Eff.refl rfl)

theorem trainTimeout_eff (n : Nat) (s : State) :
    Eff (withSide [.clock, .cameras]) (sideAnd [.fam (K.camstChannelState 0) 12, .fam (K.camstDiscoveryPhase 0) 12, .fam
        (K.camstSpeed 0) 12, .fam (K.camstStatus 0) 12, .one K.camsPresent, .one K.camsPresentCount, .one K.camsRetired]) s
        (trainTimeout n s) := by
  unfold trainTimeout
  exact Eff.ite ((State.discFail_eff ..).after ((State.at_eff ..).after Eff.refl rfl) rfl) Eff.refl

theorem execTrainTimeout_eff (n : Nat) (s : State) {t : State} (h : execTrainTimeout n s = .next t) :
    Eff (withSide [.clock, .cameras]) (sideAnd [.fam (K.camstChannelState 0) 12, .fam (K.camstDiscoveryPhase 0) 12, .fam
        (K.camstSpeed 0) 12, .fam (K.camstStatus 0) 12, .one K.camsPresent, .one K.camsPresentCount, .one K.camsRetired]) s t :=
        by
  unfold execTrainTimeout at h
  exact Eff.to (inst_next h).2.symm ((trainTimeout_eff ..).after Eff.refl rfl)

theorem triggerPacketEnd_eff (n : Nat) (s : State) :
    Eff [.clock, .cameras] [] s (triggerPacketEnd n s) := by
  unfold triggerPacketEnd
  extract_lets +onlyGivenNames v1
  clear_value v1
  split
  · exact (State.setCam_eff ..).after ((State.at_eff ..).after Eff.refl rfl) rfl
  · exact Eff.refl

theorem execTriggerPacketEnd_eff (n : Nat) (s : State) {t : State} (h : execTriggerPacketEnd n s = .next t) :
    Eff [.clock, .cameras] [] s t := by
  unfold execTriggerPacketEnd at h
  exact Eff.to (inst_next h).2.symm ((triggerPacketEnd_eff ..).after Eff.refl rfl)

theorem triggerPacketStart_eff (n : Nat) (s : State) :
    Eff (withSide [.clock, .cameras]) (sideAnd [.fam (K.camstBandsDropped 0) 12, .fam (K.camstLinesDropped 0) 12, .fam
        (K.camstStatus 0) 12]) s (triggerPacketStart n s) := by
  unfold triggerPacketStart
  extract_lets +onlyGivenNames v1
  clear_value v1
  split
  · extract_lets +onlyGivenNames x2
    clear_value (ex2 : x2 = _)
    refine Eff.have ex2 ((State.at_eff ..).after Eff.refl rfl) fun hx2 => ?_
    refine Eff.ite ?_ ?_
    · extract_lets +onlyGivenNames x3
      clear_value (ex3 : x3 = _)
      refine Eff.have ex3 ((State.setCam_eff ..).after hx2 rfl) fun hx3 => ?_
      exact (State.trigSent_eff ..).after (Eff.upd_uplinks hx3 rfl) rfl
    · exact (State.trigFails_eff ..).after ((State.setCam_eff ..).after hx2 rfl) rfl
  · exact Eff.refl

theorem execTriggerPacketStart_eff (n : Nat) (s : State) {t : State} (h : execTriggerPacketStart n s = .next t) :
    Eff (withSide [.clock, .cameras]) (sideAnd [.fam (K.camstBandsDropped 0) 12, .fam (K.camstLinesDropped 0) 12, .fam
        (K.camstStatus 0) 12]) s t := by
  unfold execTriggerPacketStart at h
  exact Eff.to (inst_next h).2.symm ((triggerPacketStart_eff ..).after Eff.refl rfl)

theorem tunnelAckStep_eff (n : Nat) (code : Nat) (data : List Nat) (wait : Bool) (s : State) :
    Eff (withSide [.domains, .cameras]) (sideAnd [.fam (K.tunAckCode 0) 12, .fam (K.tunTunnelStatus 0) 12]) s (tunnelAckStep n
        code data wait s) := by
  unfold tunnelAckStep
  extract_lets +onlyGivenNames v1
  clear_value v1
  extract_lets +onlyGivenNames x2
  clear_value (ex2 : x2 = _)
  refine Eff.have ex2 (Eff.wr Eff.refl rfl (KeySet.any_fam _ rfl)) fun hx2 => ?_
  refine Eff.ite ?_ ?_
  · exact Eff.ite ((State.tunEnd_eff ..).after hx2 rfl) ((State.setCam_eff ..).after hx2 rfl)
  · refine Eff.ite ?_ ?_
    · exact (State.tunEnd_eff ..).after hx2 rfl
    · extract_lets +onlyGivenNames v3
      clear_value v3
      extract_lets +onlyGivenNames x4
      clear_value (ex4 : x4 = _)
      refine Eff.have ex4 ((State.setCam_eff ..).after hx2 rfl) fun hx4 => ?_
      exact Eff.ite ((State.tunEnd_eff ..).after hx4 rfl) ((State.tunSend_eff ..).after hx4 rfl)

theorem tunnelAck_eff (n : Nat) (code : Nat) (data : List Nat) (wait : Bool) (s : State) :
    Eff (withSide [.domains, .cameras]) (sideAnd [.fam (K.tunAckCode 0) 12, .fam (K.tunTunnelStatus 0) 12]) s (tunnelAck n code
        data wait s) := by
  unfold tunnelAck
  exact Eff.ite Eff.refl (Eff.ite ((State.tunEnd_eff ..).after Eff.refl rfl) ((tunnelAckStep_eff ..).after Eff.refl rfl))

theorem execTunnelAck_eff (n : Nat) (code : Nat) (data : List Nat) (wait : Bool) (s : State) {t : State} (h : execTunnelAck n code
    data wait s = .next t) :
    Eff (withSide [.domains, .cameras]) (sideAnd [.fam (K.tunAckCode 0) 12, .fam (K.tunTunnelStatus 0) 12]) s t := by
  unfold execTunnelAck at h
  exact Eff.to (inst_next h).2.symm ((tunnelAck_eff ..).after Eff.refl rfl)

theorem tunnelGoWrite_eff (a : Acc) (n : Nat) (s : State) :
    Eff (withSide [.domains, .cameras]) (accAnd [.fam (K.tunTunnelStatus 0) 12]) s (tunnelGoWrite a n s) := by
  unfold tunnelGoWrite
  extract_lets +onlyGivenNames v1
  clear_value v1
  exact Eff.act Eff.refl (fun y2 hy2 => (Eff.ite hy2 (Eff.ite ((State.tunEnd_eff ..).after hy2 rfl)
      (by extract_lets +onlyGivenNames v3; clear_value v3; exact (by extract_lets +onlyGivenNames x4; clear_value (ex4 : x4 = _); exact Eff.have ex4 (Eff.wr hy2 rfl (KeySet.any_fam _ rfl)) fun hx4 => ((State.tunSend_eff ..).after ((State.setCam_eff ..).after hx4 rfl) rfl))))))
      rfl

theorem execTunnelGo_eff (a : Acc) (n : Nat) (s : State) {t : State} (h : execTunnelGo a n s = .next t) :
    Eff (withSide [.domains, .cameras]) (accAnd [.fam (K.tunTunnelStatus 0) 12]) s t := by
  unfold execTunnelGo at h
  exact Eff.to (inst_next h).2.symm ((tunnelGoWrite_eff ..).after Eff.refl rfl)

theorem tunnelTimeout_eff (n : Nat) (s : State) :
    Eff (withSide [.clock, .domains, .cameras]) (sideAnd [.fam (K.tunTunnelStatus 0) 12]) s (tunnelTimeout n s) := by
  unfold tunnelTimeout
  exact Eff.ite ((State.tunEnd_eff ..).after ((State.at_eff ..).after Eff.refl rfl) rfl) Eff.refl

theorem execTunnelTimeout_eff (n : Nat) (s : State) {t : State} (h : execTunnelTimeout n s = .next t) :
    Eff (withSide [.clock, .domains, .cameras]) (sideAnd [.fam (K.tunTunnelStatus 0) 12]) s t := by
  unfold execTunnelTimeout at h
  exact Eff.to (inst_next h).2.symm ((tunnelTimeout_eff ..).after Eff.refl rfl)

end Sys2Proof.Machine
end

