-- ==== Sys2Proof/Laws/Groups.lean ====
section
/-! SUPPORT. What each operation of Machine/Groups.lean may change. -/

-- The proofs of this file are checked one after another, in one thread.
set_option Elab.async false

namespace Sys2Proof.Machine

theorem State.swapSherds_eff (s : State) (idx : Nat) :
    Eff (withSide [.pool]) (sideAnd [.one K.poolFreeLow, .one K.poolPoolStatus, .one K.poolSherdsFree]) s (State.swapSherds s idx)
        := by
  unfold State.swapSherds
  extract_lets +onlyGivenNames v1
  clear_value v1
  exact Eff.ite Eff.refl ((State.setSherdsFree_eff ..).after (Eff.upd_sherds Eff.refl rfl) rfl)

theorem State.goLive_eff (s : State) (idx : Nat) :
    Eff [.regs, .domains] [.all] s (State.goLive s idx) := by
  unfold State.goLive
  exact Eff.upd_regs_dom_domLens Eff.refl rfl rfl

theorem State.applyGroup_eff (s : State) (idx : Nat) :
    Eff (withSide [.staged, .domains, .pool]) [.all] s (State.applyGroup s idx) := by
  unfold State.applyGroup
  exact Eff.wr (Eff.wr (Eff.inc ((State.swapSherds_eff ..).after ((State.reloadShadow_eff ..).after ((State.goLive_eff ..).after
      Eff.refl rfl) rfl) rfl) rfl (KeySet.any_all rfl)) rfl (KeySet.any_all rfl)) rfl (KeySet.any_all rfl)

end Sys2Proof.Machine
end

