-- ==== Sys2Proof/Laws/Engines.lean ====
section
/-! SUPPORT. What each operation of Machine/Engines.lean may change. -/

-- The proofs of this file are checked one after another, in one thread.
set_option Elab.async false

namespace Sys2Proof.Machine

theorem State.setZe_eff (s : State) (e : Nat) (z : Ze) :
    Eff [.engines] [] s (State.setZe s e z) := by
  unfold State.setZe
  exact Eff.upd_zes Eff.refl rfl

theorem State.zeShow_eff (s : State) (e : Nat) :
    Eff [.regs] [.fam (K.zesEngineState 0) 6] s (State.zeShow s e) := by
  unfold State.zeShow
  exact Eff.wr Eff.refl rfl (KeySet.any_fam _ rfl)

theorem State.zeFinish_eff (s : State) (e : Nat) (st : Nat) (inBytes : Nat) (outBytes : Nat) :
    Eff (withSide [.engines]) (sideAnd [.fam (K.zesBytesIn 0) 6, .fam (K.zesBytesOut 0) 6, .fam (K.zesEngineState 0) 6, .fam
        (K.zesEngineStatus 0) 6, .fam (K.zesErrorCount 0) 6, .fam (K.zesJobsDone 0) 6, .fam (K.zesLastStatus 0) 6, .fam
        (K.zesVerifyFails 0) 6]) s (State.zeFinish s e st inBytes outBytes) := by
  unfold State.zeFinish
  extract_lets +onlyGivenNames v1
  clear_value v1
  extract_lets +onlyGivenNames x2
  clear_value (ex2 : x2 = _)
  refine Eff.have ex2 ((State.zeShow_eff ..).after ((State.setZe_eff ..).after Eff.refl rfl) rfl) fun hx2 => ?_
  extract_lets +onlyGivenNames x3
  clear_value (ex3 : x3 = _)
  refine Eff.have ex3 (Eff.add (Eff.add (Eff.inc (Eff.wr hx2 rfl (KeySet.any_fam _ rfl)) rfl (KeySet.any_fam _ rfl)) rfl
      (KeySet.any_fam _ rfl)) rfl (KeySet.any_fam _ rfl)) fun hx3 => ?_
  extract_lets +onlyGivenNames x4
  clear_value (ex4 : x4 = _)
  refine Eff.have ex4 (Eff.ite ((State.raise_eff ..).after (Eff.flag (Eff.inc hx3 rfl (KeySet.any_fam _ rfl)) rfl (KeySet.any_fam
      _ rfl)) rfl) hx3) fun hx4 => ?_
  extract_lets +onlyGivenNames x5
  clear_value (ex5 : x5 = _)
  refine Eff.have ex5 (Eff.ite ((State.raise_eff ..).after (Eff.flag (Eff.inc hx4 rfl (KeySet.any_fam _ rfl)) rfl (KeySet.any_fam
      _ rfl)) rfl) hx4) fun hx5 => ?_
  exact Eff.ite (Eff.flag hx5 rfl (KeySet.any_fam _ rfl)) hx5

theorem State.zeTake_eff (s : State) (e : Nat) (j : ZeJob) :
    Eff [.regs, .engines] [.fam (K.zesEngineState 0) 6] s (State.zeTake s e j) := by
  unfold State.zeTake
  exact (State.zeShow_eff ..).after ((State.setZe_eff ..).after Eff.refl rfl) rfl

end Sys2Proof.Machine
end

