-- ==== Sys2Proof/Laws/Gens.lean ====
section
/-! SUPPORT. What each operation of Machine/Gens.lean may change. -/

-- The proofs of this file are checked one after another, in one thread.
set_option Elab.async false

namespace Sys2Proof.Machine

theorem State.setGen_eff (s : State) (g : Nat) (a1 : Gen) :
    Eff [.wheel] [] s (State.setGen s g a1) := by
  unfold State.setGen
  exact Eff.upd_gens Eff.refl rfl

end Sys2Proof.Machine
end

