-- ==== Sys2Proof/Laws/Slip.lean ====
section
/-! SUPPORT. What each operation of Machine/Slip.lean may change. -/

-- The proofs of this file are checked one after another, in one thread.
set_option Elab.async false

namespace Sys2Proof.Machine

theorem State.setGlaze_eff (s : State) (n : Nat) (w : Nat) :
    Eff [.glaze] [] s (State.setGlaze s n w) := by
  unfold State.setGlaze
  exact Eff.upd_glaze Eff.refl rfl

theorem State.updateWord_eff (s : State) (n : Nat) (op : Nat) (word : Nat) :
    Eff [.glaze] [] s (State.updateWord s n op word) := by
  unfold State.updateWord
  extract_lets +onlyGivenNames v1
  clear_value v1
  exact (State.setGlaze_eff ..).after Eff.refl rfl

theorem State.applyUpdates_eff (s : State) (b : Nat) :
    Eff [.glaze] [] s (State.applyUpdates s b) := by
  unfold State.applyUpdates
  exact Eff.foldl (fun x1 _ hx1 => (by extract_lets +onlyGivenNames f2; exact ((State.updateWord_eff ..).after hx1 rfl))) Eff.refl

theorem State.applyLineGroup_eff (s : State) (idx : Nat) :
    Eff (withSide [.staged, .domains, .pool, .glaze]) [.all] s (State.applyLineGroup s idx) := by
  unfold State.applyLineGroup
  extract_lets +onlyGivenNames x1
  clear_value (ex1 : x1 = _)
  refine Eff.have ex1 ((State.applyGroup_eff ..).after Eff.refl rfl) fun hx1 => ?_
  extract_lets +onlyGivenNames x2
  clear_value (ex2 : x2 = _)
  refine Eff.have ex2 (Eff.ite ((State.applyUpdates_eff ..).after hx1 rfl) hx1) fun hx2 => ?_
  exact (State.raise_eff ..).after hx2 rfl

theorem State.applyLoop_eff (s : State) (u : LoopUpd) :
    Eff (withSide [.glaze]) (sideAnd [.one K.loopsConflicts, .one K.loopsStatus, .one K.loopsUpdatesMade]) s (State.applyLoop s u)
        := by
  unfold State.applyLoop
  extract_lets +onlyGivenNames v1
  clear_value v1
  exact Eff.ite (Eff.inc ((State.setGlaze_eff ..).after Eff.refl rfl) rfl rfl) (Eff.flag (Eff.inc Eff.refl rfl rfl) rfl rfl)

theorem State.applyMask_eff (s : State) (b : Nat) (r : MaskReq) :
    Eff (withSide [.glaze]) (sideAnd [.one K.glzMaskRequests]) s (State.applyMask s b r) := by
  unfold State.applyMask
  extract_lets +onlyGivenNames x1
  clear_value (ex1 : x1 = _)
  refine Eff.have ex1 (Eff.ite (Eff.foldl (fun x2 _ hx2 => ((State.setGlaze_eff ..).after hx2 rfl)) Eff.refl) ((State.setGlaze_eff
      ..).after Eff.refl rfl)) fun hx1 => ?_
  exact (State.raise_eff ..).after (Eff.arrive (Eff.inc hx1 rfl rfl) rfl) rfl

theorem State.setPort_eff (s : State) (p : Nat) (a1 : Port) :
    Eff [.kiln] [] s (State.setPort s p a1) := by
  unfold State.setPort
  exact Eff.upd_ports Eff.refl rfl

theorem State.setBar_eff (s : State) (b : Nat) (a1 : Bar) :
    Eff [.slip] [] s (State.setBar s b a1) := by
  unfold State.setBar
  exact Eff.upd_bars Eff.refl rfl

theorem State.dropMissed_eff (s : State) (b : Nat) (k : Nat) :
    Eff [.kiln] [] s (State.dropMissed s b k) := by
  unfold State.dropMissed
  exact Eff.ite Eff.refl (Eff.foldl (fun x1 _ hx1 => ((State.setPort_eff ..).after hx1 rfl)) Eff.refl)

theorem State.delayFresh_eff (b : Nat) (s : State) (idx : Nat) :
    Eff [.regs, .loop] [.fam (K.lheadRegFreshW 0) 128] s (State.delayFresh b s idx) := by
  unfold State.delayFresh
  extract_lets +onlyGivenNames v1
  clear_value v1
  refine Eff.ite ?_ ?_
  · exact Eff.refl
  · extract_lets +onlyGivenNames v2
    clear_value v2
    extract_lets +onlyGivenNames x3
    clear_value (ex3 : x3 = _)
    refine Eff.have ex3 (Eff.upd_loop Eff.refl rfl) fun hx3 => ?_
    exact Eff.ite (Eff.wr hx3 rfl (KeySet.any_fam _ rfl)) hx3

theorem State.slipArm_eff (s : State) :
    Eff [.regs, .slip, .kiln] [.one K.slipJobState, .one K.slipLeadBar, .one K.slipVarReadIndex] s (State.slipArm s) := by
  unfold State.slipArm
  extract_lets +onlyGivenNames v1
  extract_lets +onlyGivenNames x2
  refine Eff.have (x := x2) rfl (Eff.upd_slip Eff.refl rfl) fun hx2 => ?_
  refine Eff.ite ?_ ?_
  · exact hx2
  · extract_lets +onlyGivenNames x3
    refine Eff.have (x := x3) rfl (Eff.wr (Eff.wr hx2 rfl rfl) rfl rfl) fun hx3 => ?_
    extract_lets +onlyGivenNames v4
    extract_lets +onlyGivenNames x5
    refine Eff.have (x := x5) rfl (Eff.upd_slip hx3 rfl) fun hx5 => ?_
    extract_lets +onlyGivenNames x6
    refine Eff.have (x := x6) rfl (Eff.foldl (fun x7 _ hx7 =>
        (by split; exact ((State.setBar_eff ..).after hx7 rfl); exact ((State.setBar_eff ..).after hx7 rfl))) hx5) fun hx6 => ?_
    exact Eff.wr (Eff.foldl (fun x8 _ hx8 => ((State.setPort_eff ..).after hx8 rfl)) hx6) rfl rfl

theorem State.plateError_eff (s : State) :
    Eff sideParts (sideAnd [.one K.slipStatus]) s (State.plateError s) := by
  unfold State.plateError
  exact (State.raise_eff ..).after (Eff.flag Eff.refl rfl rfl) rfl

theorem State.segmentDone_eff (s : State) (j : ZeJob) (st : Nat) (out : List Nat) :
    Eff (withSide [.slip]) (sideAnd [.one K.slipStatus]) s (State.segmentDone s j st out) := by
  unfold State.segmentDone
  extract_lets +onlyGivenNames v1
  clear_value v1
  extract_lets +onlyGivenNames x2
  clear_value (ex2 : x2 = _)
  refine Eff.have ex2 ((State.setBar_eff ..).after Eff.refl rfl) fun hx2 => ?_
  exact Eff.ite hx2 ((State.plateError_eff ..).after hx2 rfl)

theorem State.askMask_eff (s : State) (r : MaskReq) (b : Nat) :
    Eff (withSide [.slip]) (sideAnd [.one K.glzMaskRequestsLost, .one K.glzStatus]) s (State.askMask s r b) := by
  unfold State.askMask
  extract_lets +onlyGivenNames v1
  clear_value v1
  exact Eff.ite (Eff.flag (Eff.inc Eff.refl rfl rfl) rfl rfl) ((State.setBar_eff ..).after Eff.refl rfl)

theorem State.askMaskFor_eff (s : State) (nozzle : Nat) (set : Nat) :
    Eff (withSide [.slip]) (sideAnd [.one K.glzMaskRequestsLost, .one K.glzStatus]) s (State.askMaskFor s nozzle set) := by
  unfold State.askMaskFor
  exact (State.askMask_eff ..).after Eff.refl rfl

theorem State.fixStop_eff (s : State) (line : Int) :
    Eff [.regs, .slip, .kiln] [.one K.slipStopLine] s (State.fixStop s line) := by
  unfold State.fixStop
  extract_lets +onlyGivenNames x1
  clear_value (ex1 : x1 = _)
  refine Eff.have ex1 (Eff.wr Eff.refl rfl rfl) fun hx1 => ?_
  extract_lets +onlyGivenNames v2
  clear_value v2
  extract_lets +onlyGivenNames x3
  clear_value (ex3 : x3 = _)
  refine Eff.have ex3 (Eff.upd_slip hx1 rfl) fun hx3 => ?_
  exact Eff.foldl (fun x4 _ hx4 =>
      (by extract_lets +onlyGivenNames v5; clear_value v5; exact (by extract_lets +onlyGivenNames x6; clear_value (ex6 : x6 = _); exact Eff.have ex6 ((State.setBar_eff ..).after hx4 rfl) fun hx6 => (Eff.foldl (fun x7 _ hx7 => ((State.setPort_eff ..).after hx7 rfl)) hx6))))
      hx3

theorem State.drain_eff (s : State) (cause : Nat) :
    Eff (withSide [.device, .slip, .kiln, .loop]) (sideAnd [.one K.devDeviceState, .one K.devStateChanges, .one K.devStateTime,
        .one K.devStopCause, .one K.slipJobState, .one K.slipStopLine]) s (State.drain s cause) := by
  unfold State.drain
  extract_lets +onlyGivenNames x1
  clear_value (ex1 : x1 = _)
  refine Eff.have ex1 ((State.enter_eff ..).after (Eff.wr Eff.refl rfl rfl) rfl) fun hx1 => ?_
  extract_lets +onlyGivenNames x2
  clear_value (ex2 : x2 = _)
  refine Eff.have ex2 (Eff.ite (Eff.wr ((State.fixStop_eff ..).after hx1 rfl) rfl rfl) hx1) fun hx2 => ?_
  exact Eff.upd_loop hx2 rfl

theorem State.bindVar_eff (s : State) (p : JobPos) :
    Eff (withSide [.device, .slip, .kiln, .loop]) (sideAnd [.fam (K.portBytesRead 0) 12, .one K.devDeviceState, .one
        K.devStateChanges, .one K.devStateTime, .one K.devStopCause, .one K.dramLastMapError, .one K.dramMapErrors, .one
        K.dramMemStatus, .one K.slipJobState, .one K.slipStatus, .one K.slipStopLine, .one K.slipVarEmpty]) s (State.bindVar s p)
        := by
  unfold State.bindVar
  refine Eff.ite ?_ ?_
  · exact Eff.refl
  · refine Eff.ite ?_ ?_
    · extract_lets +onlyGivenNames v1
      extract_lets +onlyGivenNames v2
      extract_lets +onlyGivenNames x3
      refine Eff.have (x := x3) rfl (Eff.upd_slip Eff.refl rfl) fun hx3 => ?_
      extract_lets +onlyGivenNames x4
      refine Eff.have (x := x4) rfl ((State.raise_eff ..).after (Eff.flag (Eff.inc hx3 rfl rfl) rfl rfl) rfl) fun hx4 => ?_
      exact Eff.ite ((State.drain_eff ..).after hx4 rfl) hx4
    · generalize eg8 : State.blockRead _ _ _ _ = g8
      obtain ⟨p5, p6⟩ := g8
      refine Eff.have (congrArg (fun p => p.2) eg8).symm ((State.blockRead_eff ..).after Eff.refl rfl) fun hp6 => ?_
      (try dsimp -zeta -proj only)
      extract_lets +onlyGivenNames v7
      exact Eff.upd_slip hp6 rfl

theorem State.leadRepeat_eff (s : State) (p : JobPos) :
    Eff (withSide [.device, .slip, .kiln, .loop]) (sideAnd [.fam (K.portBytesRead 0) 12, .one K.devDeviceState, .one
        K.devStateChanges, .one K.devStateTime, .one K.devStopCause, .one K.dramLastMapError, .one K.dramMapErrors, .one
        K.dramMemStatus, .one K.slipEntry, .one K.slipJobState, .one K.slipRepeat, .one K.slipRepeatCount, .one K.slipStatus, .one
        K.slipStopLine, .one K.slipVarEmpty]) s (State.leadRepeat s p) := by
  unfold State.leadRepeat
  extract_lets +onlyGivenNames x1
  clear_value (ex1 : x1 = _)
  refine Eff.have ex1 (Eff.inc (Eff.wr (Eff.wr Eff.refl rfl rfl) rfl rfl) rfl rfl) fun hx1 => ?_
  exact (State.bindVar_eff ..).after ((State.raise_eff ..).after hx1 rfl) rfl

theorem State.beginRepeat_eff (s : State) (b : Nat) :
    Eff (withSide [.device, .staged, .domains, .pool, .slip, .kiln, .loop]) [.all] s (State.beginRepeat s b) := by
  unfold State.beginRepeat
  extract_lets +onlyGivenNames v1
  clear_value v1
  refine Eff.ite ?_ ?_
  · exact Eff.refl
  · extract_lets +onlyGivenNames v2
    clear_value v2
    extract_lets +onlyGivenNames x3
    clear_value (ex3 : x3 = _)
    refine Eff.have ex3 (Eff.foldl (fun x4 _ hx4 => ((State.delayFresh_eff ..).after hx4 rfl)) (Eff.foldl (fun x5 _ hx5 =>
        ((State.applyGroup_eff ..).after hx5 rfl)) Eff.refl)) fun hx3 => ?_
    extract_lets +onlyGivenNames v6
    clear_value v6
    extract_lets +onlyGivenNames x7
    clear_value (ex7 : x7 = _)
    refine Eff.have ex7 ((State.setBar_eff ..).after hx3 rfl) fun hx7 => ?_
    exact Eff.ite ((State.leadRepeat_eff ..).after hx7 rfl) hx7

theorem State.ringWrite_eff (s : State) (b : Nat) (k : Nat) (plane : List Nat) :
    Eff (withSide [.mem, .slip]) (sideAnd [.fam (K.portBytesWritten 0) 12, .one K.dramLastMapError, .one K.dramMapErrors, .one
        K.dramMemStatus, .one K.slipRingFront]) s (State.ringWrite s b k plane) := by
  unfold State.ringWrite
  refine Eff.ite ?_ ?_
  · exact Eff.refl
  · extract_lets +onlyGivenNames v1
    clear_value v1
    extract_lets +onlyGivenNames v2
    clear_value v2
    extract_lets +onlyGivenNames v3
    clear_value v3
    extract_lets +onlyGivenNames v4
    clear_value v4
    extract_lets +onlyGivenNames x5
    clear_value (ex5 : x5 = _)
    refine Eff.have ex5 ((State.blockWrite_eff ..).after Eff.refl rfl) fun hx5 => ?_
    refine Eff.ite ?_ ?_
    · extract_lets +onlyGivenNames v6
      clear_value v6
      extract_lets +onlyGivenNames x7
      clear_value (ex7 : x7 = _)
      refine Eff.have ex7 (Eff.wr hx5 rfl rfl) fun hx7 => ?_
      exact Eff.upd_slip hx7 rfl
    · exact Eff.upd_slip hx5 rfl

theorem State.slipRun_eff (s : State) :
    Eff (withSide [.mem, .slip]) (sideAnd [.fam (K.portBytesWritten 0) 12, .one K.dramLastMapError, .one K.dramMapErrors, .one
        K.dramMemStatus, .one K.slipJobState, .one K.slipRingFront]) s (State.slipRun s) := by
  unfold State.slipRun
  refine Eff.ite ?_ ?_
  · exact Eff.refl
  · extract_lets +onlyGivenNames x1
    clear_value (ex1 : x1 = _)
    refine Eff.have ex1 (Eff.foldl (fun x2 _ hx2 =>
        (by extract_lets +onlyGivenNames v3; clear_value v3; exact (by extract_lets +onlyGivenNames x4; clear_value (ex4 : x4 = _); exact Eff.have ex4 (Eff.foldl (fun x5 _ hx5 => ((State.ringWrite_eff ..).after hx5 rfl)) hx2) fun hx4 => ((State.setBar_eff ..).after hx4 rfl))))
        Eff.refl) fun hx1 => ?_
    exact Eff.wr hx1 rfl rfl

theorem State.rejoinHeads_eff (s : State) (b : Nat) :
    Eff [.regs, .kiln] [.fam (K.khHeadState 0) 128] s (State.rejoinHeads s b) := by
  unfold State.rejoinHeads
  exact Eff.foldl (fun x1 _ hx1 =>
      (by extract_lets +onlyGivenNames v2; clear_value v2; exact (by extract_lets +onlyGivenNames v3; clear_value v3; exact (Eff.ite (by extract_lets +onlyGivenNames x4; clear_value (ex4 : x4 = _); exact Eff.have ex4 (Eff.wr hx1 rfl (KeySet.any_fam _ rfl)) fun hx4 => (Eff.upd_heads hx4 rfl)) hx1))))
      Eff.refl

theorem State.fetchAdvance_eff (s : State) (b : Nat) :
    Eff [.slip] [] s (State.fetchAdvance s b) := by
  unfold State.fetchAdvance
  extract_lets +onlyGivenNames v1
  clear_value v1
  split
  · exact (State.setBar_eff ..).after Eff.refl rfl
  · exact (State.setBar_eff ..).after Eff.refl rfl

theorem State.fetchLook_eff (s : State) (b : Nat) :
    Eff sideParts (sideAnd [.fam (K.portBytesRead 0) 12, .one K.dramLastMapError, .one K.dramMapErrors, .one K.dramMemStatus]) s
        (State.fetchLook s b).2 := by
  unfold State.fetchLook
  extract_lets +onlyGivenNames v1
  clear_value v1
  split
  · exact Eff.pair2 Eff.refl
  · extract_lets +onlyGivenNames v2
    clear_value v2
    split
    · exact Eff.pair2 Eff.refl
    · generalize eg8 : State.blockRead _ _ _ _ = g8
      obtain ⟨p3, p4⟩ := g8
      refine Eff.have (congrArg (fun p => p.2) eg8).symm ((State.blockRead_eff ..).after Eff.refl rfl) fun hp4 => ?_
      (try dsimp -zeta -proj only)
      split
      · exact Eff.pair2 hp4
      · split
        · exact Eff.pair2 hp4
        · generalize eg7 : State.blockRead _ _ _ _ = g7
          obtain ⟨p5, p6⟩ := g7
          refine Eff.have (congrArg (fun p => p.2) eg7).symm ((State.blockRead_eff ..).after hp4 rfl) fun hp6 => ?_
          exact Eff.pair2 hp6

theorem State.showFill_eff (s : State) (b : Nat) :
    Eff [.regs] [.fam (K.barsQueueFill 0) 16] s (State.showFill s b) := by
  unfold State.showFill
  exact Eff.wr Eff.refl rfl (KeySet.any_fam _ rfl)

theorem State.fetchSegment_eff (s : State) (e : Nat) (b : Nat) (entry : List Nat) (segRows : Nat) (cols : Nat) :
    Eff [.regs, .engines, .slip] [.fam (K.barsQueueFill 0) 16, .fam (K.zesEngineState 0) 6] s (State.fetchSegment s e b entry
        segRows cols) := by
  unfold State.fetchSegment
  extract_lets +onlyGivenNames v1
  clear_value v1
  extract_lets +onlyGivenNames v2
  clear_value v2
  extract_lets +onlyGivenNames x3
  clear_value (ex3 : x3 = _)
  refine Eff.have ex3 ((State.setBar_eff ..).after Eff.refl rfl) fun hx3 => ?_
  exact (State.zeTake_eff ..).after ((State.showFill_eff ..).after hx3 rfl) rfl

theorem State.freeVars_eff (s : State) :
    Eff [.regs, .slip] [.one K.slipVarReadIndex] s (State.freeVars s) := by
  unfold State.freeVars
  extract_lets +onlyGivenNames v1
  clear_value v1
  extract_lets +onlyGivenNames v2
  clear_value v2
  extract_lets +onlyGivenNames x3
  clear_value (ex3 : x3 = _)
  refine Eff.have ex3 (Eff.add Eff.refl rfl rfl) fun hx3 => ?_
  exact Eff.upd_slip hx3 rfl

theorem State.freshen_eff (s : State) (b : Nat) (w : Int) :
    Eff [.regs] [.all] s (State.freshen s b w) := by
  unfold State.freshen
  extract_lets +onlyGivenNames v1
  clear_value v1
  exact Eff.ite (Eff.wr Eff.refl rfl (KeySet.any_all rfl)) Eff.refl

theorem State.glazeBoundary_eff (s : State) (b : Nat) :
    Eff (withSide [.staged, .domains, .pool, .glaze, .slip]) [.all] s (State.glazeBoundary s b) := by
  unfold State.glazeBoundary
  extract_lets +onlyGivenNames v1
  clear_value v1
  extract_lets +onlyGivenNames v2
  clear_value v2
  extract_lets +onlyGivenNames v3
  clear_value v3
  extract_lets +onlyGivenNames v4
  clear_value v4
  extract_lets +onlyGivenNames x5
  clear_value (ex5 : x5 = _)
  refine Eff.have ex5 (Eff.foldl (fun x6 _ hx6 => ((State.applyLineGroup_eff ..).after hx6 rfl)) Eff.refl) fun hx5 => ?_
  extract_lets +onlyGivenNames v7
  clear_value v7
  extract_lets +onlyGivenNames x8
  clear_value (ex8 : x8 = _)
  refine Eff.have ex8 (Eff.foldl (fun x9 _ hx9 => ((State.applyLoop_eff ..).after hx9 rfl)) hx5) fun hx8 => ?_
  extract_lets +onlyGivenNames x10
  clear_value (ex10 : x10 = _)
  refine Eff.have ex10 (Eff.foldl (fun x11 _ hx11 => ((State.applyMask_eff ..).after hx11 rfl)) hx8) fun hx10 => ?_
  extract_lets +onlyGivenNames v12
  clear_value v12
  extract_lets +onlyGivenNames x13
  clear_value (ex13 : x13 = _)
  refine Eff.have ex13 ((State.setBar_eff ..).after hx10 rfl) fun hx13 => ?_
  extract_lets +onlyGivenNames x14
  clear_value (ex14 : x14 = _)
  refine Eff.have ex14 (Eff.peak (Eff.add hx13 rfl (KeySet.any_all rfl)) rfl (KeySet.any_all rfl)) fun hx14 => ?_
  extract_lets +onlyGivenNames v15
  clear_value v15
  exact Eff.ite ((State.freshen_eff ..).after hx14 rfl) hx14

theorem State.jobEnd_eff (s : State) :
    Eff (withSide [.device, .slip, .kiln, .loop]) (sideAnd [.one K.devDeviceState, .one K.devStateChanges, .one K.devStateTime,
        .one K.devStopCause, .one K.slipJobState, .one K.slipStopLine]) s (State.jobEnd s) := by
  unfold State.jobEnd
  extract_lets +onlyGivenNames x1
  clear_value (ex1 : x1 = _)
  refine Eff.have ex1 ((State.raise_eff ..).after (Eff.arrive Eff.refl rfl) rfl) fun hx1 => ?_
  exact Eff.ite ((State.drain_eff ..).after hx1 rfl) hx1

theorem State.leadScreened_eff (s : State) (line : Nat) (p : JobPos) :
    Eff [.regs, .slip] [.one K.slipLeadLine] s (State.leadScreened s line p) := by
  unfold State.leadScreened
  extract_lets +onlyGivenNames x1
  clear_value (ex1 : x1 = _)
  refine Eff.have ex1 (Eff.wr Eff.refl rfl rfl) fun hx1 => ?_
  exact Eff.upd_slip hx1 rfl

theorem State.nextLine_eff (s : State) (b : Nat) :
    Eff [.slip] [] s (State.nextLine s b) := by
  unfold State.nextLine
  extract_lets +onlyGivenNames v1
  clear_value v1
  extract_lets +onlyGivenNames v2
  clear_value v2
  extract_lets +onlyGivenNames v3
  clear_value v3
  extract_lets +onlyGivenNames v4
  clear_value v4
  extract_lets +onlyGivenNames v5
  clear_value v5
  extract_lets +onlyGivenNames v6
  clear_value v6
  split
  · exact (State.setBar_eff ..).after Eff.refl rfl
  · exact (State.setBar_eff ..).after Eff.refl rfl

theorem State.planeOut_eff (s : State) (b : Nat) (plane : Option (List Nat)) :
    Eff (withSide [.mem, .slip]) (sideAnd [.fam (K.portBytesWritten 0) 12, .one K.dramLastMapError, .one K.dramMapErrors, .one
        K.dramMemStatus, .one K.slipRingFront]) s (State.planeOut s b plane) := by
  unfold State.planeOut
  split
  · exact Eff.refl
  · exact Eff.ite ((State.ringWrite_eff ..).after Eff.refl rfl) ((State.setBar_eff ..).after Eff.refl rfl)

theorem State.startLine_eff (s : State) (b : Nat) (delay : Nat) :
    Eff [.regs, .slip, .kiln] [.fam (K.khHeadState 0) 128] s (State.startLine s b delay) := by
  unfold State.startLine
  extract_lets +onlyGivenNames x1
  clear_value (ex1 : x1 = _)
  refine Eff.have ex1 ((State.rejoinHeads_eff ..).after Eff.refl rfl) fun hx1 => ?_
  extract_lets +onlyGivenNames v2
  clear_value v2
  extract_lets +onlyGivenNames v3
  clear_value v3
  extract_lets +onlyGivenNames v4
  clear_value v4
  extract_lets +onlyGivenNames v5
  clear_value v5
  extract_lets +onlyGivenNames v6
  clear_value v6
  extract_lets +onlyGivenNames v7
  clear_value v7
  extract_lets +onlyGivenNames v8
  clear_value v8
  extract_lets +onlyGivenNames v9
  clear_value v9
  extract_lets +onlyGivenNames x10
  clear_value (ex10 : x10 = _)
  refine Eff.have ex10 ((State.setBar_eff ..).after hx1 rfl) fun hx10 => ?_
  exact Eff.foldl (fun x11 _ hx11 =>
      (by extract_lets +onlyGivenNames v12; clear_value v12; exact ((State.setPort_eff ..).after hx11 rfl))) hx10

theorem barLineDone_eff (b : Nat) (s : State) :
    Eff (withSide [.clock, .device, .mem, .slip, .kiln, .loop]) (sideAnd [.fam (K.barsLine 0) 16, .fam (K.barsLinesScreened 0) 16,
        .fam (K.barsQueueFill 0) 16, .fam (K.portBytesWritten 0) 12, .one K.devDeviceState, .one K.devStateChanges, .one
        K.devStateTime, .one K.devStopCause, .one K.dramLastMapError, .one K.dramMapErrors, .one K.dramMemStatus, .one
        K.slipJobState, .one K.slipLeadLine, .one K.slipRingFront, .one K.slipStopLine, .one K.slipVarReadIndex]) s (barLineDone b
        s) := by
  unfold barLineDone
  split
  · exact Eff.refl
  · extract_lets +onlyGivenNames x1
    clear_value (ex1 : x1 = _)
    refine Eff.have ex1 ((State.at_eff ..).after Eff.refl rfl) fun hx1 => ?_
    extract_lets +onlyGivenNames v2
    clear_value v2
    extract_lets +onlyGivenNames v3
    clear_value v3
    extract_lets +onlyGivenNames v4
    clear_value v4
    extract_lets +onlyGivenNames x5
    clear_value (ex5 : x5 = _)
    refine Eff.have ex5 (Eff.foldl (fun x6 _ hx6 => ((State.setPort_eff ..).after hx6 rfl)) hx1) fun hx5 => ?_
    extract_lets +onlyGivenNames x7
    clear_value (ex7 : x7 = _)
    refine Eff.have ex7 ((State.dropMissed_eff ..).after ((State.planeOut_eff ..).after hx5 rfl) rfl) fun hx7 => ?_
    extract_lets +onlyGivenNames x8
    clear_value (ex8 : x8 = _)
    refine Eff.have ex8 (Eff.wr (Eff.inc hx7 rfl (KeySet.any_fam _ rfl)) rfl (KeySet.any_fam _ rfl)) fun hx8 => ?_
    extract_lets +onlyGivenNames x9
    clear_value (ex9 : x9 = _)
    refine Eff.have ex9 ((State.freeVars_eff ..).after ((State.showFill_eff ..).after ((State.nextLine_eff ..).after hx8 rfl) rfl)
        rfl) fun hx9 => ?_
    refine Eff.ite ?_ ?_
    · exact hx9
    · extract_lets +onlyGivenNames x10
      clear_value (ex10 : x10 = _)
      refine Eff.have ex10 ((State.leadScreened_eff ..).after hx9 rfl) fun hx10 => ?_
      exact Eff.ite ((State.jobEnd_eff ..).after hx10 rfl) hx10

theorem fetchSettle_eff (b : Nat) (a1 : Nat) (s : State) :
    Eff (withSide [.slip]) (sideAnd [.fam (K.portBytesRead 0) 12, .one K.dramLastMapError, .one K.dramMapErrors, .one
        K.dramMemStatus, .one K.slipStatus]) s (fetchSettle b a1 s) := by
  unfold fetchSettle
  split
  · exact Eff.refl
  · split
    · rename_i q1
      exact (fetchSettle_eff ..).after ((State.fetchAdvance_eff ..).after (Eff.ite ((State.plateError_eff ..).after (Eff.to
          (congrArg (fun p => p.2) q1).symm ((State.fetchLook_eff ..).after Eff.refl rfl)) rfl) (Eff.to (congrArg (fun p => p.2)
          q1).symm ((State.fetchLook_eff ..).after Eff.refl rfl))) rfl) rfl
    · rename_i q2
      exact Eff.to (congrArg (fun p => p.2) q2).symm ((State.fetchLook_eff ..).after Eff.refl rfl)

theorem barLineStart_eff (b : Nat) (s : State) :
    Eff (withSide [.device, .staged, .domains, .pool, .glaze, .slip, .kiln, .loop]) [.all] s (barLineStart b s) := by
  unfold barLineStart
  refine Eff.ite ?_ ?_
  · exact Eff.refl
  · extract_lets +onlyGivenNames x1
    clear_value (ex1 : x1 = _)
    refine Eff.have ex1 ((fetchSettle_eff ..).after ((State.beginRepeat_eff ..).after Eff.refl rfl) rfl) fun hx1 => ?_
    extract_lets +onlyGivenNames v2
    clear_value v2
    exact Eff.ite hx1 (Eff.ite ((State.startLine_eff ..).after ((State.glazeBoundary_eff ..).after hx1 rfl) rfl) (Eff.ite hx1
        (Eff.flag (Eff.inc ((State.setBar_eff ..).after hx1 rfl) rfl (KeySet.any_all rfl)) rfl rfl)))

theorem execBarLineDone_eff (b : Nat) (s : State) {t : State} (h : execBarLineDone b s = .next t) :
    Eff (withSide [.clock, .device, .mem, .slip, .kiln, .loop]) (sideAnd [.fam (K.barsLine 0) 16, .fam (K.barsLinesScreened 0) 16,
        .fam (K.barsQueueFill 0) 16, .fam (K.portBytesWritten 0) 12, .one K.devDeviceState, .one K.devStateChanges, .one
        K.devStateTime, .one K.devStopCause, .one K.dramLastMapError, .one K.dramMapErrors, .one K.dramMemStatus, .one
        K.slipJobState, .one K.slipLeadLine, .one K.slipRingFront, .one K.slipStopLine, .one K.slipVarReadIndex]) s t := by
  unfold execBarLineDone at h
  exact Eff.to (inst_next h).2.symm ((barLineDone_eff ..).after Eff.refl rfl)

theorem execBarLineStart_eff (b : Nat) (s : State) {t : State} (h : execBarLineStart b s = .next t) :
    Eff (withSide [.device, .staged, .domains, .pool, .glaze, .slip, .kiln, .loop]) [.all] s t := by
  unfold execBarLineStart at h
  exact Eff.to (inst_next h).2.symm ((barLineStart_eff ..).after Eff.refl rfl)

theorem maskClearWrite_eff (a : Acc) (s : State) :
    Eff (withSide [.slip]) (accAnd [.one K.glzMaskRequestsLost, .one K.glzStatus]) s (maskClearWrite a s) := by
  unfold maskClearWrite
  exact Eff.act Eff.refl (fun y1 hy1 =>
      (by extract_lets +onlyGivenNames v2; clear_value v2; exact (Eff.ite (Eff.foldl (fun x3 _ hx3 => ((State.askMask_eff ..).after hx3 rfl)) hy1) ((State.askMaskFor_eff ..).after hy1 rfl))))
      rfl

theorem execMaskClear_eff (a : Acc) (s : State) {t : State} (h : execMaskClear a s = .next t) :
    Eff (withSide [.slip]) (accAnd [.one K.glzMaskRequestsLost, .one K.glzStatus]) s t := by
  unfold execMaskClear at h
  cases h
  exact (maskClearWrite_eff ..).after Eff.refl rfl

theorem maskRequestApply_eff (s : State) :
    Eff (withSide [.glaze, .slip]) (sideAnd [.one K.glzMaskRequests]) s (maskRequestApply s) := by
  unfold maskRequestApply
  split
  · exact Eff.refl
  · split
    · exact Eff.refl
    · exact (State.applyMask_eff ..).after ((State.setBar_eff ..).after Eff.refl rfl) rfl

theorem execMaskRequestApply_eff (s : State) {t : State} (h : execMaskRequestApply s = .next t) :
    Eff (withSide [.glaze, .slip]) (sideAnd [.one K.glzMaskRequests]) s t := by
  unfold execMaskRequestApply at h
  cases h
  exact (maskRequestApply_eff ..).after Eff.refl rfl

theorem fetchFirst_eff (e : Nat) (a1 : List Nat) (s : State) :
    Eff (withSide [.engines, .slip]) (sideAnd [.fam (K.barsQueueFill 0) 16, .fam (K.portBytesRead 0) 12, .fam (K.zesEngineState 0)
        6, .one K.dramLastMapError, .one K.dramMapErrors, .one K.dramMemStatus]) s (fetchFirst e a1 s) := by
  unfold fetchFirst
  split
  · exact Eff.refl
  · split
    · rename_i q1
      exact (State.fetchSegment_eff ..).after (Eff.to (congrArg (fun p => p.2) q1).symm ((State.fetchLook_eff ..).after Eff.refl
          rfl)) rfl
    · rename_i q2
      exact (fetchFirst_eff ..).after (Eff.to (congrArg (fun p => p.2) q2).symm ((State.fetchLook_eff ..).after Eff.refl rfl)) rfl

theorem segmentFetch_eff (e : Nat) (s : State) :
    Eff (withSide [.engines, .slip]) (sideAnd [.fam (K.barsQueueFill 0) 16, .fam (K.portBytesRead 0) 12, .fam (K.zesEngineState 0)
        6, .one K.dramLastMapError, .one K.dramMapErrors, .one K.dramMemStatus, .one K.slipStatus]) s (segmentFetch e s) := by
  unfold segmentFetch
  refine Eff.ite ?_ ?_
  · exact Eff.refl
  · extract_lets +onlyGivenNames x1
    clear_value (ex1 : x1 = _)
    refine Eff.have ex1 (Eff.foldl (fun x2 _ hx2 => ((fetchSettle_eff ..).after hx2 rfl)) Eff.refl) fun hx1 => ?_
    exact (fetchFirst_eff ..).after hx1 rfl

theorem execSegmentFetch_eff (e : Nat) (s : State) {t : State} (h : execSegmentFetch e s = .next t) :
    Eff (withSide [.engines, .slip]) (sideAnd [.fam (K.barsQueueFill 0) 16, .fam (K.portBytesRead 0) 12, .fam (K.zesEngineState 0)
        6, .one K.dramLastMapError, .one K.dramMapErrors, .one K.dramMemStatus, .one K.slipStatus]) s t := by
  unfold execSegmentFetch at h
  exact Eff.to (inst_next h).2.symm ((segmentFetch_eff ..).after Eff.refl rfl)

end Sys2Proof.Machine
end

