-- ==== Sys2Proof/Laws/Kiln.lean ====
section
/-! SUPPORT. What each operation of Machine/Kiln.lean may change. -/

-- The proofs of this file are checked one after another, in one thread.
set_option Elab.async false

namespace Sys2Proof.Machine

theorem State.kilnMark_eff (s : State) (m : Nat) :
    Eff [.regs] [.one K.kilnKilnStatus] s (State.kilnMark s m) := by
  unfold State.kilnMark
  exact Eff.wr Eff.refl rfl rfl

theorem State.setHeadState_eff (s : State) (a1 : Nat) (v : Nat) :
    Eff [.regs] [.fam (K.khHeadState 0) 128, .one K.kilnActiveHeads] s (State.setHeadState s a1 v) := by
  unfold State.setHeadState
  extract_lets +onlyGivenNames x1
  clear_value (ex1 : x1 = _)
  refine Eff.have ex1 (Eff.wr Eff.refl rfl (KeySet.any_fam _ rfl)) fun hx1 => ?_
  exact Eff.wr hx1 rfl rfl

theorem State.setHead_eff (s : State) (a1 : Nat) (a2 : Head) :
    Eff [.kiln] [] s (State.setHead s a1 a2) := by
  unfold State.setHead
  exact Eff.upd_heads Eff.refl rfl

theorem State.strobeOff_eff (s : State) (a1 : Nat) :
    Eff [.pins, .kiln] [] s (State.strobeOff s a1) := by
  unfold State.strobeOff
  exact (State.drive_eff ..).after ((State.setHead_eff ..).after Eff.refl rfl) rfl

theorem State.headRetire_eff (s : State) (a1 : Nat) (bit : Nat) :
    Eff (withSide [.pins, .kiln]) (sideAnd [.fam (K.khHeadState 0) 128, .fam (K.khHeadStatus 0) 128, .one K.fltFaultStatus, .one
        K.fltLastRetiredUnit, .one K.fltRetiredCount, .one K.kilnActiveHeads, .one K.kilnKilnStatus]) s (State.headRetire s a1
        bit) := by
  unfold State.headRetire
  extract_lets +onlyGivenNames x1
  clear_value (ex1 : x1 = _)
  refine Eff.have ex1 (Eff.flag ((State.setHeadState_eff ..).after ((State.strobeOff_eff ..).after Eff.refl rfl) rfl) rfl
      (KeySet.any_fam _ rfl)) fun hx1 => ?_
  exact (State.retire_eff ..).after ((State.raise_eff ..).after ((State.kilnMark_eff ..).after hx1 rfl) rfl) rfl

theorem State.portRetire_eff (s : State) (p : Nat) (bit : Nat) :
    Eff (withSide [.pins, .kiln]) (sideAnd [.fam (K.khHeadState 0) 128, .fam (K.khHeadStatus 0) 128, .fam (K.kpPortState 0) 32,
        .fam (K.kpPortStatus 0) 32, .one K.fltFaultStatus, .one K.fltLastRetiredUnit, .one K.fltRetiredCount, .one
        K.kilnActiveHeads, .one K.kilnKilnStatus]) s (State.portRetire s p bit) := by
  unfold State.portRetire
  extract_lets +onlyGivenNames x1
  clear_value (ex1 : x1 = _)
  refine Eff.have ex1 ((State.kilnMark_eff ..).after (Eff.flag (Eff.wr Eff.refl rfl (KeySet.any_fam _ rfl)) rfl (KeySet.any_fam _
      rfl)) rfl) fun hx1 => ?_
  extract_lets +onlyGivenNames x2
  clear_value (ex2 : x2 = _)
  refine Eff.have ex2 ((State.retire_eff ..).after ((State.raise_eff ..).after hx1 rfl) rfl) fun hx2 => ?_
  extract_lets +onlyGivenNames v3
  clear_value v3
  extract_lets +onlyGivenNames x4
  clear_value (ex4 : x4 = _)
  refine Eff.have ex4 ((State.setPort_eff ..).after hx2 rfl) fun hx4 => ?_
  exact Eff.foldl (fun x5 _ hx5 => (Eff.ite ((State.headRetire_eff ..).after ((State.setHead_eff ..).after hx5 rfl) rfl) hx5)) hx4

theorem State.portFault_eff (s : State) (p : Nat) (bit : Nat) :
    Eff (withSide [.pins, .kiln]) (sideAnd [.fam (K.khHeadState 0) 128, .fam (K.khHeadStatus 0) 128, .fam (K.kpFaultCount 0) 32,
        .fam (K.kpLastFaultTime 0) 32, .fam (K.kpPortState 0) 32, .fam (K.kpPortStatus 0) 32, .one K.fltFaultStatus, .one
        K.fltLastRetiredUnit, .one K.fltRetiredCount, .one K.fltTransientCount, .one K.kilnActiveHeads, .one K.kilnKilnStatus]) s
        (State.portFault s p bit) := by
  unfold State.portFault
  extract_lets +onlyGivenNames x1
  clear_value (ex1 : x1 = _)
  refine Eff.have ex1 (Eff.wr (Eff.inc Eff.refl rfl (KeySet.any_fam _ rfl)) rfl (KeySet.any_fam _ rfl)) fun hx1 => ?_
  extract_lets +onlyGivenNames x2
  clear_value (ex2 : x2 = _)
  refine Eff.have ex2 (Eff.wr hx1 rfl (KeySet.any_fam _ rfl)) fun hx2 => ?_
  extract_lets +onlyGivenNames x3
  clear_value (ex3 : x3 = _)
  refine Eff.have ex3 ((State.transient_eff ..).after hx2 rfl) fun hx3 => ?_
  exact Eff.ite ((State.portRetire_eff ..).after hx3 rfl) hx3

theorem State.senseWord_eff (s : State) (p : Nat) (code : Int) :
    Eff (withSide [.pins, .kiln]) (sideAnd [.fam (K.khHeadState 0) 128, .fam (K.khHeadStatus 0) 128, .fam (K.kpFaultCount 0) 32,
        .fam (K.kpLastFaultTime 0) 32, .fam (K.kpPortState 0) 32, .fam (K.kpPortStatus 0) 32, .one K.fltFaultStatus, .one
        K.fltLastRetiredUnit, .one K.fltRetiredCount, .one K.fltTransientCount, .one K.kilnActiveHeads, .one K.kilnKilnStatus]) s
        (State.senseWord s p code) := by
  unfold State.senseWord
  exact Eff.ite ((State.portFault_eff ..).after Eff.refl rfl) Eff.refl

theorem State.armStrobe_eff (s : State) (a1 : Nat) (slot : List Nat) :
    Eff (withSide [.kiln]) (sideAnd [.fam (K.khFireWidth 0) 128, .fam (K.khHeadStatus 0) 128, .fam (K.khPreHeatWidth 0) 128, .one
        K.kilnKilnStatus]) s (State.armStrobe s a1 slot) := by
  unfold State.armStrobe
  extract_lets +onlyGivenNames v1
  clear_value v1
  extract_lets +onlyGivenNames x2
  clear_value (ex2 : x2 = _)
  refine Eff.have ex2 (Eff.wr (Eff.wr Eff.refl rfl (KeySet.any_fam _ rfl)) rfl (KeySet.any_fam _ rfl)) fun hx2 => ?_
  extract_lets +onlyGivenNames x3
  clear_value (ex3 : x3 = _)
  refine Eff.have ex3 (Eff.ite ((State.kilnMark_eff ..).after (Eff.flag hx2 rfl (KeySet.any_fam _ rfl)) rfl) hx2) fun hx3 => ?_
  exact (State.setHead_eff ..).after hx3 rfl

theorem State.speedRequest_eff (s : State) :
    Eff (withSide [.pins]) (sideAnd [.one K.kilnSpeedLimit]) s (State.speedRequest s) := by
  unfold State.speedRequest
  extract_lets +onlyGivenNames v1
  clear_value v1
  extract_lets +onlyGivenNames v2
  clear_value v2
  extract_lets +onlyGivenNames x3
  clear_value (ex3 : x3 = _)
  refine Eff.have ex3 (Eff.ite Eff.refl ((State.raise_eff ..).after (Eff.arrive (Eff.wr Eff.refl rfl rfl) rfl) rfl)) fun hx3 => ?_
  exact Eff.ite ((State.drive_eff ..).after hx3 rfl) hx3

theorem State.underrun_eff (s : State) (b : Nat) (k : Nat) :
    Eff (withSide [.slip, .kiln]) (sideAnd [.fam (K.barsUnderruns 0) 16, .one K.slipStatus]) s (State.underrun s b k) := by
  unfold State.underrun
  extract_lets +onlyGivenNames v1
  clear_value v1
  extract_lets +onlyGivenNames x2
  clear_value (ex2 : x2 = _)
  refine Eff.have ex2 ((State.setBar_eff ..).after Eff.refl rfl) fun hx2 => ?_
  extract_lets +onlyGivenNames x3
  clear_value (ex3 : x3 = _)
  refine Eff.have ex3 ((State.raise_eff ..).after (Eff.flag (Eff.inc hx2 rfl (KeySet.any_fam _ rfl)) rfl rfl) rfl) fun hx3 => ?_
  exact (State.dropMissed_eff ..).after ((State.witness_eff ..).after hx3 rfl) rfl

theorem State.deadline_eff (s : State) (b : Nat) (k : Nat) :
    Eff (withSide [.slip, .kiln]) (sideAnd [.fam (K.barsUnderruns 0) 16, .fam (K.barsWorstSlack 0) 16, .one K.slipStatus]) s
        (State.deadline s b k) := by
  unfold State.deadline
  refine Eff.ite ?_ ?_
  · exact Eff.refl
  · refine Eff.ite ?_ ?_
    · extract_lets +onlyGivenNames v1
      clear_value v1
      extract_lets +onlyGivenNames v2
      clear_value v2
      exact Eff.ite (Eff.wr Eff.refl rfl (KeySet.any_fam _ rfl)) Eff.refl
    · exact (State.underrun_eff ..).after Eff.refl rfl

theorem State.driveStrobe_eff (s : State) (a1 : Nat) (act : Bool) :
    Eff [.pins] [] s (State.driveStrobe s a1 act) := by
  unfold State.driveStrobe
  exact (State.drive_eff ..).after Eff.refl rfl

theorem State.kilnHalt_eff (s : State) :
    Eff [.pins, .kiln] [] s (State.kilnHalt s) := by
  unfold State.kilnHalt
  extract_lets +onlyGivenNames x1
  clear_value (ex1 : x1 = _)
  refine Eff.have ex1 (Eff.foldl (fun x2 _ hx2 => ((State.strobeOff_eff ..).after hx2 rfl)) Eff.refl) fun hx1 => ?_
  extract_lets +onlyGivenNames x3
  clear_value (ex3 : x3 = _)
  refine Eff.have ex3 (Eff.foldl (fun x4 _ hx4 => ((State.drive_eff ..).after ((State.setPort_eff ..).after hx4 rfl) rfl)) hx1)
      fun hx3 => ?_
  exact Eff.ite ((State.drive_eff ..).after hx3 rfl) hx3

theorem State.latchPort_eff (s : State) (p : Nat) :
    Eff (withSide [.kiln]) (sideAnd [.fam (K.khFireWidth 0) 128, .fam (K.khHeadStatus 0) 128, .fam (K.khPreHeatWidth 0) 128, .one
        K.kilnKilnStatus]) s (State.latchPort s p) := by
  unfold State.latchPort
  refine Eff.ite ?_ ?_
  · exact Eff.refl
  · extract_lets +onlyGivenNames v1
    clear_value v1
    extract_lets +onlyGivenNames v2
    clear_value v2
    exact Eff.foldl (fun x3 _ hx3 => (Eff.ite ((State.armStrobe_eff ..).after hx3 rfl) hx3)) Eff.refl

theorem State.fireLine_eff (s : State) (b : Nat) :
    Eff (withSide [.slip, .kiln]) (sideAnd [.fam (K.kbarLinesFired 0) 16, .fam (K.khFireWidth 0) 128, .fam (K.khHeadStatus 0) 128,
        .fam (K.khPreHeatWidth 0) 128, .one K.kilnKilnStatus]) s (State.fireLine s b) := by
  unfold State.fireLine
  extract_lets +onlyGivenNames x1
  clear_value (ex1 : x1 = _)
  refine Eff.have ex1 (Eff.foldl (fun x2 _ hx2 => ((State.latchPort_eff ..).after hx2 rfl)) Eff.refl) fun hx1 => ?_
  extract_lets +onlyGivenNames v3
  clear_value v3
  extract_lets +onlyGivenNames x4
  clear_value (ex4 : x4 = _)
  refine Eff.have ex4 ((State.setBar_eff ..).after (Eff.inc hx1 rfl (KeySet.any_fam _ rfl)) rfl) fun hx4 => ?_
  exact (State.raiseAt_eff ..).after hx4 rfl

theorem State.headFault_eff (s : State) (a1 : Nat) (bit : Nat) :
    Eff (withSide [.pins, .kiln]) (sideAnd [.fam (K.khFaultCount 0) 128, .fam (K.khHeadState 0) 128, .fam (K.khHeadStatus 0) 128,
        .one K.fltFaultStatus, .one K.fltLastRetiredUnit, .one K.fltRetiredCount, .one K.fltTransientCount, .one
        K.kilnActiveHeads, .one K.kilnKilnStatus]) s (State.headFault s a1 bit) := by
  unfold State.headFault
  extract_lets +onlyGivenNames v1
  clear_value v1
  extract_lets +onlyGivenNames x2
  clear_value (ex2 : x2 = _)
  refine Eff.have ex2 ((State.kilnMark_eff ..).after (Eff.flag (Eff.inc Eff.refl rfl (KeySet.any_fam _ rfl)) rfl (KeySet.any_fam _
      rfl)) rfl) fun hx2 => ?_
  extract_lets +onlyGivenNames x3
  clear_value (ex3 : x3 = _)
  refine Eff.have ex3 ((State.transient_eff ..).after hx2 rfl) fun hx3 => ?_
  exact Eff.ite ((State.headRetire_eff ..).after hx3 rfl) hx3

theorem State.rejoin_eff (s : State) (a1 : Nat) :
    Eff [.regs, .kiln] [.fam (K.khHeadState 0) 128, .one K.kilnActiveHeads] s (State.rejoin s a1) := by
  unfold State.rejoin
  exact Eff.ite ((State.setHeadState_eff ..).after ((State.setHead_eff ..).after Eff.refl rfl) rfl) ((State.setHeadState_eff
      ..).after Eff.refl rfl)

theorem State.headFound_eff (s : State) (a1 : Nat) (st : Nat) :
    Eff (withSide [.kiln]) (sideAnd [.fam (K.khHeadState 0) 128, .fam (K.khHeadStatus 0) 128, .one K.kilnActiveHeads]) s
        (State.headFound s a1 st) := by
  unfold State.headFound
  extract_lets +onlyGivenNames v1
  clear_value v1
  extract_lets +onlyGivenNames x2
  clear_value (ex2 : x2 = _)
  refine Eff.have ex2 (Eff.ite (Eff.wr Eff.refl rfl (KeySet.any_fam _ rfl)) Eff.refl) fun hx2 => ?_
  extract_lets +onlyGivenNames v3
  clear_value v3
  extract_lets +onlyGivenNames v4
  clear_value v4
  extract_lets +onlyGivenNames x5
  clear_value (ex5 : x5 = _)
  refine Eff.have ex5 ((State.setHead_eff ..).after hx2 rfl) fun hx5 => ?_
  extract_lets +onlyGivenNames x6
  clear_value (ex6 : x6 = _)
  refine Eff.have ex6 (Eff.ite hx5 (Eff.ite ((State.rejoin_eff ..).after hx5 rfl) ((State.setHeadState_eff ..).after hx5 rfl)))
      fun hx6 => ?_
  exact Eff.ite ((State.raise_eff ..).after (Eff.arrive hx6 rfl) rfl) (Eff.arrive hx6 rfl)

theorem State.headsOff_eff (s : State) (p : Nat) :
    Eff [.regs, .pins, .kiln] [.fam (K.khHeadState 0) 128, .one K.kilnActiveHeads] s (State.headsOff s p) := by
  unfold State.headsOff
  exact Eff.foldl (fun x1 _ hx1 =>
      (by extract_lets +onlyGivenNames v2; clear_value v2; exact (by extract_lets +onlyGivenNames v3; clear_value v3; exact (by extract_lets +onlyGivenNames x4; clear_value (ex4 : x4 = _); exact Eff.have ex4 ((State.strobeOff_eff ..).after hx1 rfl) fun hx4 => (Eff.ite hx4 ((State.setHeadState_eff ..).after ((State.setHead_eff ..).after hx4 rfl) rfl))))))
      Eff.refl

theorem State.interval_eff (s : State) (b : Nat) :
    Eff (withSide [.pins]) (sideAnd [.fam (K.kbarInSpeedLimit 0) 16, .fam (K.kbarLastInterval 0) 16, .one K.kilnSpeedLimit]) s
        (State.interval s b) := by
  unfold State.interval
  split
  · exact Eff.refl
  · extract_lets +onlyGivenNames x1
    clear_value (ex1 : x1 = _)
    refine Eff.have ex1 (Eff.wr Eff.refl rfl (KeySet.any_fam _ rfl)) fun hx1 => ?_
    exact Eff.ite ((State.speedRequest_eff ..).after (Eff.wr hx1 rfl (KeySet.any_fam _ rfl)) rfl) hx1

theorem State.keepIdentity_eff (s : State) (a1 : Nat) (g : Nat) (id : Option (List Nat)) :
    Eff [.domains] [] s (State.keepIdentity s a1 g id) := by
  unfold State.keepIdentity
  split
  · exact (State.domWrite_eff ..).after Eff.refl rfl
  · exact Eff.refl

theorem State.overspeed_eff (s : State) (b : Nat) (a1 : Trig) :
    Eff (withSide [.pins]) (sideAnd [.fam (K.kbarBarStatus 0) 16, .fam (K.kbarInSpeedLimit 0) 16, .fam (K.kbarLastSkip 0) 16, .fam
        (K.kbarLinesSkipped 0) 16, .one K.kilnKilnStatus, .one K.kilnSpeedLimit]) s (State.overspeed s b a1) := by
  unfold State.overspeed
  extract_lets +onlyGivenNames x1
  clear_value (ex1 : x1 = _)
  refine Eff.have ex1 (Eff.inc ((State.kilnMark_eff ..).after (Eff.flag Eff.refl rfl (KeySet.any_fam _ rfl)) rfl) rfl
      (KeySet.any_fam _ rfl)) fun hx1 => ?_
  extract_lets +onlyGivenNames x2
  clear_value (ex2 : x2 = _)
  refine Eff.have ex2 (Eff.wr (Eff.wr hx1 rfl (KeySet.any_fam _ rfl)) rfl (KeySet.any_fam _ rfl)) fun hx2 => ?_
  exact (State.speedRequest_eff ..).after ((State.witness_eff ..).after ((State.raise_eff ..).after hx2 rfl) rfl) rfl

theorem State.portOff_eff (s : State) (p : Nat) :
    Eff [.regs, .pins] [.fam (K.kpPortState 0) 32] s (State.portOff s p) := by
  unfold State.portOff
  exact (State.drive_eff ..).after (Eff.wr Eff.refl rfl (KeySet.any_fam _ rfl)) rfl

theorem State.portTurn_eff (k : Nat) (s : State) (p : Nat) :
    Eff [.kiln] [] s (State.portTurn k s p) := by
  unfold State.portTurn
  extract_lets +onlyGivenNames v1
  clear_value v1
  extract_lets +onlyGivenNames v2
  clear_value v2
  exact (State.setPort_eff ..).after Eff.refl rfl

theorem State.powerDown_eff (s : State) (p : Nat) :
    Eff [.regs, .pins, .kiln] [.fam (K.khHeadState 0) 128, .fam (K.kpPortState 0) 32, .one K.kilnActiveHeads] s (State.powerDown s
        p) := by
  unfold State.powerDown
  extract_lets +onlyGivenNames v1
  clear_value v1
  extract_lets +onlyGivenNames x2
  clear_value (ex2 : x2 = _)
  refine Eff.have ex2 ((State.headsOff_eff ..).after ((State.setPort_eff ..).after Eff.refl rfl) rfl) fun hx2 => ?_
  exact Eff.ite ((State.portOff_eff ..).after hx2 rfl) (Eff.wr hx2 rfl (KeySet.any_fam _ rfl))

theorem State.rasterLine_eff (s : State) (b : Nat) (a1 : Trig) :
    Eff (withSide [.pins, .slip, .kiln]) (sideAnd [.fam (K.barsUnderruns 0) 16, .fam (K.barsWorstSlack 0) 16, .fam
        (K.kbarBarStatus 0) 16, .fam (K.kbarInSpeedLimit 0) 16, .fam (K.kbarLastInterval 0) 16, .fam (K.kbarLastSkip 0) 16, .fam
        (K.kbarLinesDiscarded 0) 16, .fam (K.kbarLinesFired 0) 16, .fam (K.kbarLinesSkipped 0) 16, .fam (K.khFireWidth 0) 128,
        .fam (K.khHeadStatus 0) 128, .fam (K.khPreHeatWidth 0) 128, .one K.kilnKilnStatus, .one K.kilnSpeedLimit, .one
        K.slipStatus]) s (State.rasterLine s b a1) := by
  unfold State.rasterLine
  extract_lets +onlyGivenNames v1
  clear_value v1
  extract_lets +onlyGivenNames v2
  clear_value v2
  extract_lets +onlyGivenNames x3
  clear_value (ex3 : x3 = _)
  refine Eff.have ex3 ((State.setBar_eff ..).after ((State.interval_eff ..).after Eff.refl rfl) rfl) fun hx3 => ?_
  extract_lets +onlyGivenNames v4
  clear_value v4
  extract_lets +onlyGivenNames v5
  clear_value v5
  extract_lets +onlyGivenNames v6
  clear_value v6
  extract_lets +onlyGivenNames x7
  clear_value (ex7 : x7 = _)
  refine Eff.have ex7 (Eff.ite (Eff.add ((State.fireLine_eff ..).after hx3 rfl) rfl (KeySet.any_fam _ rfl)) (Eff.add hx3 rfl
      (KeySet.any_fam _ rfl))) fun hx7 => ?_
  extract_lets +onlyGivenNames x8
  clear_value (ex8 : x8 = _)
  refine Eff.have ex8 (Eff.ite hx7 ((State.overspeed_eff ..).after hx7 rfl)) fun hx8 => ?_
  extract_lets +onlyGivenNames x9
  clear_value (ex9 : x9 = _)
  refine Eff.have ex9 (Eff.foldl (fun x10 _ hx10 => ((State.portTurn_eff ..).after hx10 rfl)) hx8) fun hx9 => ?_
  extract_lets +onlyGivenNames v11
  clear_value v11
  extract_lets +onlyGivenNames x12
  clear_value (ex12 : x12 = _)
  refine Eff.have ex12 ((State.setBar_eff ..).after hx9 rfl) fun hx12 => ?_
  exact (State.deadline_eff ..).after hx12 rfl

theorem State.runSegment_eff (s : State) (a1 : Nat) (segs : List (Bool × Nat)) :
    Eff [.pins, .kiln] [] s (State.runSegment s a1 segs) := by
  unfold State.runSegment
  extract_lets +onlyGivenNames v1
  clear_value v1
  split
  · exact (State.driveStrobe_eff ..).after ((State.setHead_eff ..).after Eff.refl rfl) rfl
  · exact (State.driveStrobe_eff ..).after ((State.setHead_eff ..).after Eff.refl rfl) rfl

theorem State.slotDone_eff (s : State) (a1 : Nat) :
    Eff [.regs, .kiln] [.fam (K.kpPortState 0) 32] s (State.slotDone s a1) := by
  unfold State.slotDone
  extract_lets +onlyGivenNames v1
  clear_value v1
  extract_lets +onlyGivenNames v2
  clear_value v2
  extract_lets +onlyGivenNames v3
  clear_value v3
  extract_lets +onlyGivenNames v4
  clear_value v4
  extract_lets +onlyGivenNames x5
  clear_value (ex5 : x5 = _)
  refine Eff.have ex5 ((State.setPort_eff ..).after Eff.refl rfl) fun hx5 => ?_
  exact Eff.ite (Eff.wr hx5 rfl (KeySet.any_fam _ rfl)) hx5

theorem deskewDone_eff (p : Nat) (spread : Nat) (residual : Nat) (s : State) :
    Eff (withSide [.boot, .pins, .kiln]) (sideAnd [.fam (K.khHeadState 0) 128, .fam (K.khHeadStatus 0) 128, .fam (K.kpFaultCount
        0) 32, .fam (K.kpLastFaultTime 0) 32, .fam (K.kpPortState 0) 32, .fam (K.kpPortStatus 0) 32, .one K.calCalStatus, .one
        K.fltFaultStatus, .one K.fltLastRetiredUnit, .one K.fltRetiredCount, .one K.fltTransientCount, .one K.kilnActiveHeads,
        .one K.kilnKilnStatus]) s (deskewDone p spread residual s) := by
  unfold deskewDone
  refine Eff.ite ?_ ?_
  · exact Eff.refl
  · extract_lets +onlyGivenNames v1
    clear_value v1
    extract_lets +onlyGivenNames x2
    clear_value (ex2 : x2 = _)
    refine Eff.have ex2 ((State.calEnd_eff ..).after Eff.refl rfl) fun hx2 => ?_
    refine Eff.ite ?_ ?_
    · exact (State.portFault_eff ..).after hx2 rfl
    · extract_lets +onlyGivenNames v3
      clear_value v3
      extract_lets +onlyGivenNames v4
      clear_value v4
      extract_lets +onlyGivenNames x5
      clear_value (ex5 : x5 = _)
      refine Eff.have ex5 ((State.setPort_eff ..).after hx2 rfl) fun hx5 => ?_
      exact Eff.ite (Eff.wr hx5 rfl (KeySet.any_fam _ rfl)) hx5

theorem execDeskewDone_eff (p : Nat) (spread : Nat) (residual : Nat) (s : State) {t : State} (h : execDeskewDone p spread residual
    s = .next t) :
    Eff (withSide [.boot, .pins, .kiln]) (sideAnd [.fam (K.khHeadState 0) 128, .fam (K.khHeadStatus 0) 128, .fam (K.kpFaultCount
        0) 32, .fam (K.kpLastFaultTime 0) 32, .fam (K.kpPortState 0) 32, .fam (K.kpPortStatus 0) 32, .one K.calCalStatus, .one
        K.fltFaultStatus, .one K.fltLastRetiredUnit, .one K.fltRetiredCount, .one K.fltTransientCount, .one K.kilnActiveHeads,
        .one K.kilnKilnStatus]) s t := by
  unfold execDeskewDone at h
  exact Eff.to (inst_next h).2.symm ((deskewDone_eff ..).after Eff.refl rfl)

theorem headIdentified_eff (a1 : Nat) (id : Option (List Nat)) (s : State) :
    Eff (withSide [.domains, .kiln]) (sideAnd [.fam (K.khHeadState 0) 128, .fam (K.khHeadStatus 0) 128, .fam (K.kpPortState 0) 32,
        .one K.kilnActiveHeads]) s (headIdentified a1 id s) := by
  unfold headIdentified
  refine Eff.ite ?_ ?_
  · exact Eff.refl
  · extract_lets +onlyGivenNames v1
    extract_lets +onlyGivenNames x2
    refine Eff.have (x := x2) rfl ((State.keepIdentity_eff ..).after Eff.refl rfl) fun hx2 => ?_
    exact (State.slotDone_eff ..).after ((State.headFound_eff ..).after hx2 rfl) rfl

theorem execHeadIdentified_eff (a1 : Nat) (id : Option (List Nat)) (s : State) {t : State} (h : execHeadIdentified a1 id s = .next
    t) :
    Eff (withSide [.domains, .kiln]) (sideAnd [.fam (K.khHeadState 0) 128, .fam (K.khHeadStatus 0) 128, .fam (K.kpPortState 0) 32,
        .one K.kilnActiveHeads]) s t := by
  unfold execHeadIdentified at h
  exact Eff.to (inst_next h).2.symm ((headIdentified_eff ..).after Eff.refl rfl)

theorem headReadmitWrite_eff (a : Acc) (a1 : Nat) (s : State) :
    Eff (withSide [.kiln]) (accAnd [.fam (K.khHeadStatus 0) 128, .one K.fltRetiredCount]) s (headReadmitWrite a a1 s) := by
  unfold headReadmitWrite
  exact Eff.act Eff.refl (fun y1 hy1 => (Eff.ite
      (by extract_lets +onlyGivenNames x2; clear_value (ex2 : x2 = _); exact Eff.have ex2 (Eff.ite ((State.readmit_eff ..).after hy1 rfl) (Eff.upd_faultTimes hy1 rfl)) fun hx2 => ((State.setHead_eff ..).after (Eff.unflag hx2 rfl (KeySet.any_fam _ rfl)) rfl))
      hy1)) rfl

theorem execHeadReadmit_eff (a : Acc) (a1 : Nat) (s : State) {t : State} (h : execHeadReadmit a a1 s = .next t) :
    Eff (withSide [.kiln]) (accAnd [.fam (K.khHeadStatus 0) 128, .one K.fltRetiredCount]) s t := by
  unfold execHeadReadmit at h
  exact Eff.to (inst_next h).2.symm ((headReadmitWrite_eff ..).after Eff.refl rfl)

theorem portPowerWrite_eff (a : Acc) (p : Nat) (s : State) :
    Eff (withSide [.pins, .kiln]) (accAnd [.fam (K.khHeadState 0) 128, .fam (K.kpPortPower 0) 32, .fam (K.kpPortState 0) 32, .one
        K.kilnActiveHeads]) s (portPowerWrite a p s) := by
  unfold portPowerWrite
  exact Eff.act Eff.refl (fun y1 hy1 =>
      (by extract_lets +onlyGivenNames v2; clear_value v2; exact (by extract_lets +onlyGivenNames x3; clear_value (ex3 : x3 = _); exact Eff.have ex3 (Eff.wr hy1 rfl (KeySet.any_fam _ rfl)) fun hx3 => (Eff.ite (Eff.ite ((State.setPort_eff ..).after ((State.drive_eff ..).after (Eff.wr hx3 rfl (KeySet.any_fam _ rfl)) rfl) rfl) ((State.setPort_eff ..).after hx3 rfl)) (Eff.ite hx3 (Eff.ite ((State.setPort_eff ..).after hx3 rfl) ((State.powerDown_eff ..).after hx3 rfl)))))))
      rfl

theorem execPortPowerOff_eff (a : Acc) (p : Nat) (s : State) {t : State} (h : execPortPowerOff a p s = .next t) :
    Eff (withSide [.pins, .kiln]) (accAnd [.fam (K.khHeadState 0) 128, .fam (K.kpPortPower 0) 32, .fam (K.kpPortState 0) 32, .one
        K.kilnActiveHeads]) s t := by
  unfold execPortPowerOff at h
  exact Eff.to (inst_next h).2.symm ((portPowerWrite_eff ..).after Eff.refl rfl)

theorem execPortPowerOn_eff (a : Acc) (p : Nat) (s : State) {t : State} (h : execPortPowerOn a p s = .next t) :
    Eff (withSide [.pins, .kiln]) (accAnd [.fam (K.khHeadState 0) 128, .fam (K.kpPortPower 0) 32, .fam (K.kpPortState 0) 32, .one
        K.kilnActiveHeads]) s t := by
  unfold execPortPowerOn at h
  exact Eff.to (inst_next h).2.symm ((portPowerWrite_eff ..).after Eff.refl rfl)

theorem portReadmitWrite_eff (a : Acc) (p : Nat) (s : State) :
    Eff (withSide [.kiln]) (accAnd [.fam (K.kpPortState 0) 32, .one K.fltRetiredCount]) s (portReadmitWrite a p s) := by
  unfold portReadmitWrite
  exact Eff.act Eff.refl (fun y1 hy1 => (Eff.ite ((State.setPort_eff ..).after (Eff.wr ((State.readmit_eff ..).after hy1 rfl) rfl
      (KeySet.any_fam _ rfl)) rfl) hy1)) rfl

theorem execPortReadmit_eff (a : Acc) (p : Nat) (s : State) {t : State} (h : execPortReadmit a p s = .next t) :
    Eff (withSide [.kiln]) (accAnd [.fam (K.kpPortState 0) 32, .one K.fltRetiredCount]) s t := by
  unfold execPortReadmit at h
  exact Eff.to (inst_next h).2.symm ((portReadmitWrite_eff ..).after Eff.refl rfl)

theorem powerDownBegin_eff (p : Nat) (s : State) :
    Eff [.regs, .pins, .kiln] [.fam (K.khHeadState 0) 128, .fam (K.kpPortState 0) 32, .one K.kilnActiveHeads] s (powerDownBegin p
        s) := by
  unfold powerDownBegin
  exact Eff.ite ((State.powerDown_eff ..).after Eff.refl rfl) Eff.refl

theorem execPowerDownBegin_eff (p : Nat) (s : State) {t : State} (h : execPowerDownBegin p s = .next t) :
    Eff [.regs, .pins, .kiln] [.fam (K.khHeadState 0) 128, .fam (K.kpPortState 0) 32, .one K.kilnActiveHeads] s t := by
  unfold execPowerDownBegin at h
  exact Eff.to (inst_next h).2.symm ((powerDownBegin_eff ..).after Eff.refl rfl)

theorem powerOffDelayEnd_eff (p : Nat) (s : State) :
    Eff [.clock, .regs, .pins] [.fam (K.kpPortState 0) 32] s (powerOffDelayEnd p s) := by
  unfold powerOffDelayEnd
  exact Eff.ite ((State.portOff_eff ..).after ((State.at_eff ..).after Eff.refl rfl) rfl) Eff.refl

theorem execPowerOffDelayEnd_eff (p : Nat) (s : State) {t : State} (h : execPowerOffDelayEnd p s = .next t) :
    Eff [.clock, .regs, .pins] [.fam (K.kpPortState 0) 32] s t := by
  unfold execPowerOffDelayEnd at h
  exact Eff.to (inst_next h).2.symm ((powerOffDelayEnd_eff ..).after Eff.refl rfl)

theorem powerOnDelayEnd_eff (p : Nat) (s : State) :
    Eff [.clock, .kiln] [] s (powerOnDelayEnd p s) := by
  unfold powerOnDelayEnd
  exact Eff.ite ((State.setPort_eff ..).after ((State.at_eff ..).after Eff.refl rfl) rfl) Eff.refl

theorem execPowerOnDelayEnd_eff (p : Nat) (s : State) {t : State} (h : execPowerOnDelayEnd p s = .next t) :
    Eff [.clock, .kiln] [] s t := by
  unfold execPowerOnDelayEnd at h
  exact Eff.to (inst_next h).2.symm ((powerOnDelayEnd_eff ..).after Eff.refl rfl)

theorem rasterTrigger_eff (b : Nat) (s : State) :
    Eff (withSide [.clock, .pins, .wheel, .slip, .kiln]) (sideAnd [.fam (K.barsUnderruns 0) 16, .fam (K.barsWorstSlack 0) 16, .fam
        (K.kbarBarStatus 0) 16, .fam (K.kbarInSpeedLimit 0) 16, .fam (K.kbarLastInterval 0) 16, .fam (K.kbarLastSkip 0) 16, .fam
        (K.kbarLinesDiscarded 0) 16, .fam (K.kbarLinesFired 0) 16, .fam (K.kbarLinesSkipped 0) 16, .fam (K.khFireWidth 0) 128,
        .fam (K.khHeadStatus 0) 128, .fam (K.khPreHeatWidth 0) 128, .one K.kilnKilnStatus, .one K.kilnSpeedLimit, .one
        K.slipStatus]) s (rasterTrigger b s) := by
  unfold rasterTrigger
  split
  · exact Eff.refl
  · rename_i q1
    exact (State.rasterLine_eff ..).after ((State.at_eff ..).after ((State.takeTrig_eff q1).after Eff.refl rfl) rfl) rfl

theorem execRasterTrigger_eff (b : Nat) (s : State) {t : State} (h : execRasterTrigger b s = .next t) :
    Eff (withSide [.clock, .pins, .wheel, .slip, .kiln]) (sideAnd [.fam (K.barsUnderruns 0) 16, .fam (K.barsWorstSlack 0) 16, .fam
        (K.kbarBarStatus 0) 16, .fam (K.kbarInSpeedLimit 0) 16, .fam (K.kbarLastInterval 0) 16, .fam (K.kbarLastSkip 0) 16, .fam
        (K.kbarLinesDiscarded 0) 16, .fam (K.kbarLinesFired 0) 16, .fam (K.kbarLinesSkipped 0) 16, .fam (K.khFireWidth 0) 128,
        .fam (K.khHeadStatus 0) 128, .fam (K.khPreHeatWidth 0) 128, .one K.kilnKilnStatus, .one K.kilnSpeedLimit, .one
        K.slipStatus]) s t := by
  unfold execRasterTrigger at h
  exact Eff.to (inst_next h).2.symm ((rasterTrigger_eff ..).after Eff.refl rfl)

theorem shiftDone_eff (p : Nat) (s : State) :
    Eff [.clock, .regs, .kiln] [.fam (K.kpLinesShifted 0) 32] s (shiftDone p s) := by
  unfold shiftDone
  extract_lets +onlyGivenNames v1
  clear_value v1
  split
  · exact Eff.refl
  · extract_lets +onlyGivenNames x2
    clear_value (ex2 : x2 = _)
    refine Eff.have ex2 ((State.setPort_eff ..).after ((State.at_eff ..).after Eff.refl rfl) rfl) fun hx2 => ?_
    exact Eff.ite (Eff.inc hx2 rfl (KeySet.any_fam _ rfl)) hx2

theorem execShiftDone_eff (p : Nat) (s : State) {t : State} (h : execShiftDone p s = .next t) :
    Eff [.clock, .regs, .kiln] [.fam (K.kpLinesShifted 0) 32] s t := by
  unfold execShiftDone at h
  exact Eff.to (inst_next h).2.symm ((shiftDone_eff ..).after Eff.refl rfl)

theorem shiftStart_eff (p : Nat) (s : State) :
    Eff [.clock, .kiln] [] s (shiftStart p s) := by
  unfold shiftStart
  extract_lets +onlyGivenNames v1
  clear_value v1
  extract_lets +onlyGivenNames v2
  clear_value v2
  extract_lets +onlyGivenNames v3
  clear_value v3
  split
  · exact Eff.refl
  · refine Eff.ite ?_ ?_
    · exact Eff.refl
    · extract_lets +onlyGivenNames x4
      clear_value (ex4 : x4 = _)
      refine Eff.have ex4 ((State.at_eff ..).after Eff.refl rfl) fun hx4 => ?_
      exact (State.setPort_eff ..).after hx4 rfl

theorem execShiftStart_eff (p : Nat) (s : State) {t : State} (h : execShiftStart p s = .next t) :
    Eff [.clock, .kiln] [] s t := by
  unfold execShiftStart at h
  exact Eff.to (inst_next h).2.symm ((shiftStart_eff ..).after Eff.refl rfl)

theorem strobeCut_eff (a1 : Nat) (s : State) :
    Eff (withSide [.clock, .pins, .kiln]) (sideAnd [.fam (K.khHeadState 0) 128, .fam (K.khHeadStatus 0) 128, .fam (K.khLastCutTime
        0) 128, .one K.fltFaultStatus, .one K.fltLastRetiredUnit, .one K.fltRetiredCount, .one K.kilnActiveHeads, .one
        K.kilnKilnStatus]) s (strobeCut a1 s) := by
  unfold strobeCut
  split
  · exact Eff.refl
  · extract_lets +onlyGivenNames x1
    clear_value (ex1 : x1 = _)
    refine Eff.have ex1 ((State.at_eff ..).after Eff.refl rfl) fun hx1 => ?_
    extract_lets +onlyGivenNames v2
    clear_value v2
    extract_lets +onlyGivenNames x3
    clear_value (ex3 : x3 = _)
    refine Eff.have ex3 (Eff.flag ((State.setHead_eff ..).after hx1 rfl) rfl (KeySet.any_fam _ rfl)) fun hx3 => ?_
    extract_lets +onlyGivenNames x4
    clear_value (ex4 : x4 = _)
    refine Eff.have ex4 ((State.raise_eff ..).after (Eff.wr ((State.kilnMark_eff ..).after hx3 rfl) rfl (KeySet.any_fam _ rfl))
        rfl) fun hx4 => ?_
    exact (State.headRetire_eff ..).after ((State.witness_eff ..).after hx4 rfl) rfl

theorem execStrobeCut_eff (a1 : Nat) (s : State) {t : State} (h : execStrobeCut a1 s = .next t) :
    Eff (withSide [.clock, .pins, .kiln]) (sideAnd [.fam (K.khHeadState 0) 128, .fam (K.khHeadStatus 0) 128, .fam (K.khLastCutTime
        0) 128, .one K.fltFaultStatus, .one K.fltLastRetiredUnit, .one K.fltRetiredCount, .one K.kilnActiveHeads, .one
        K.kilnKilnStatus]) s t := by
  unfold execStrobeCut at h
  exact Eff.to (inst_next h).2.symm ((strobeCut_eff ..).after Eff.refl rfl)

theorem strobeSegmentEnd_eff (a1 : Nat) (s : State) :
    Eff [.clock, .pins, .kiln] [] s (strobeSegmentEnd a1 s) := by
  unfold strobeSegmentEnd
  extract_lets +onlyGivenNames v1
  clear_value v1
  split
  · exact Eff.refl
  · exact (State.runSegment_eff ..).after ((State.at_eff ..).after Eff.refl rfl) rfl

theorem execStrobeSegmentEnd_eff (a1 : Nat) (s : State) {t : State} (h : execStrobeSegmentEnd a1 s = .next t) :
    Eff [.clock, .pins, .kiln] [] s t := by
  unfold execStrobeSegmentEnd at h
  exact Eff.to (inst_next h).2.symm ((strobeSegmentEnd_eff ..).after Eff.refl rfl)

theorem strobeStart_eff (a1 : Nat) (s : State) :
    Eff [.clock, .regs, .pins, .kiln] [.fam (K.khStrobes 0) 128] s (strobeStart a1 s) := by
  unfold strobeStart
  extract_lets +onlyGivenNames v1
  clear_value v1
  split
  · exact Eff.refl
  · extract_lets +onlyGivenNames v2
    clear_value v2
    extract_lets +onlyGivenNames x3
    clear_value (ex3 : x3 = _)
    refine Eff.have ex3 ((State.setHead_eff ..).after (Eff.inc ((State.at_eff ..).after Eff.refl rfl) rfl (KeySet.any_fam _ rfl))
        rfl) fun hx3 => ?_
    exact (State.runSegment_eff ..).after hx3 rfl

theorem execStrobeStart_eff (a1 : Nat) (s : State) {t : State} (h : execStrobeStart a1 s = .next t) :
    Eff [.clock, .regs, .pins, .kiln] [.fam (K.khStrobes 0) 128] s t := by
  unfold execStrobeStart at h
  exact Eff.to (inst_next h).2.symm ((strobeStart_eff ..).after Eff.refl rfl)

theorem tempPoll_eff (p : Nat) (s : State) :
    Eff [.clock, .kiln] [] s (tempPoll p s) := by
  unfold tempPoll
  extract_lets +onlyGivenNames v1
  clear_value v1
  extract_lets +onlyGivenNames x2
  clear_value (ex2 : x2 = _)
  refine Eff.have ex2 ((State.at_eff ..).after Eff.refl rfl) fun hx2 => ?_
  extract_lets +onlyGivenNames v3
  clear_value v3
  extract_lets +onlyGivenNames x4
  clear_value (ex4 : x4 = _)
  refine Eff.have ex4 ((State.setPort_eff ..).after hx2 rfl) fun hx4 => ?_
  exact Eff.ite hx4 (Eff.foldl (fun x5 _ hx5 => ((State.setHead_eff ..).after hx5 rfl)) hx4)

theorem execTempPoll_eff (p : Nat) (s : State) {t : State} (h : execTempPoll p s = .next t) :
    Eff [.clock, .kiln] [] s t := by
  unfold execTempPoll at h
  exact Eff.to (inst_next h).2.symm ((tempPoll_eff ..).after Eff.refl rfl)

theorem tempReading_eff (a1 : Nat) (a2 : Option Nat) (s : State) :
    Eff (withSide [.pins, .kiln]) (sideAnd [.fam (K.khFaultCount 0) 128, .fam (K.khHeadState 0) 128, .fam (K.khHeadStatus 0) 128,
        .fam (K.khTemperature 0) 128, .one K.fltFaultStatus, .one K.fltLastRetiredUnit, .one K.fltRetiredCount, .one
        K.fltTransientCount, .one K.kilnActiveHeads, .one K.kilnKilnStatus]) s (tempReading a1 a2 s) := by
  unfold tempReading
  extract_lets +onlyGivenNames v1
  clear_value v1
  refine Eff.ite ?_ ?_
  · exact Eff.refl
  · extract_lets +onlyGivenNames x2
    clear_value (ex2 : x2 = _)
    refine Eff.have ex2 ((State.setHead_eff ..).after Eff.refl rfl) fun hx2 => ?_
    split
    · exact (State.headFault_eff ..).after hx2 rfl
    · extract_lets +onlyGivenNames v3
      clear_value v3
      exact Eff.ite ((State.headFault_eff ..).after hx2 rfl) (Eff.wr ((State.setHead_eff ..).after hx2 rfl) rfl (KeySet.any_fam _
          rfl))

theorem execTempReading_eff (a1 : Nat) (a2 : Option Nat) (s : State) {t : State} (h : execTempReading a1 a2 s = .next t) :
    Eff (withSide [.pins, .kiln]) (sideAnd [.fam (K.khFaultCount 0) 128, .fam (K.khHeadState 0) 128, .fam (K.khHeadStatus 0) 128,
        .fam (K.khTemperature 0) 128, .one K.fltFaultStatus, .one K.fltLastRetiredUnit, .one K.fltRetiredCount, .one
        K.fltTransientCount, .one K.kilnActiveHeads, .one K.kilnKilnStatus]) s t := by
  unfold execTempReading at h
  exact Eff.to (inst_next h).2.symm ((tempReading_eff ..).after Eff.refl rfl)

end Sys2Proof.Machine
end

