-- ==== Sys2Proof/Laws/Net.lean ====
section
/-! SUPPORT. What each operation of Machine/Net.lean may change. -/

-- The proofs of this file are checked one after another, in one thread.
set_option Elab.async false

namespace Sys2Proof.Machine

theorem State.sendFrame_eff (s : State) (p : Nat) (f : List Nat) :
    Eff [.regs, .out] [.fam (K.ethsFramesOut 0) 2] s (State.sendFrame s p f) := by
  unfold State.sendFrame
  extract_lets +onlyGivenNames x1
  clear_value (ex1 : x1 = _)
  refine Eff.have ex1 (Eff.inc Eff.refl rfl (KeySet.any_fam _ rfl)) fun hx1 => ?_
  exact Eff.upd_ethOut hx1 rfl

theorem State.resolve_eff (s : State) (p : Nat) (addr : Nat) :
    Eff [.regs, .out] [.fam (K.ethsFramesOut 0) 2] s (State.resolve s p addr) := by
  unfold State.resolve
  extract_lets +onlyGivenNames v1
  clear_value v1
  exact Eff.ite Eff.refl ((State.sendFrame_eff ..).after Eff.refl rfl)

theorem State.udpSend_eff (s : State) (d : UdpOut) :
    Eff [.regs, .out] [.fam (K.ethsFramesOut 0) 2] s (State.udpSend s d) := by
  unfold State.udpSend
  extract_lets +onlyGivenNames x1
  clear_value (ex1 : x1 = _)
  refine Eff.have ex1 ((State.resolve_eff ..).after Eff.refl rfl) fun hx1 => ?_
  extract_lets +onlyGivenNames x2
  clear_value (ex2 : x2 = _)
  refine Eff.have ex2 (Eff.inc hx1 rfl (KeySet.any_fam _ rfl)) fun hx2 => ?_
  exact Eff.upd_udpOut hx2 rfl

theorem State.arpLearn_eff (s : State) (p : Nat) (ip : Nat) (mac : Nat) :
    Eff [.out] [] s (State.arpLearn s p ip mac) := by
  unfold State.arpLearn
  extract_lets +onlyGivenNames v1
  clear_value v1
  extract_lets +onlyGivenNames v2
  clear_value v2
  exact Eff.upd_arp Eff.refl rfl

end Sys2Proof.Machine
end

