-- ==== Sys2Proof/Laws/Prism.lean ====
section
/-! SUPPORT. What each operation of Machine/Prism.lean may change. -/

-- The proofs of this file are checked one after another, in one thread.
set_option Elab.async false

namespace Sys2Proof.Machine

theorem State.checkShape_eff (s : State) (n : Nat) (apply : Bool) :
    Eff sideParts (sideAnd [.fam (K.ctxsContextState 0) 12, .fam (K.ctxsStatus 0) 12]) s (State.checkShape s n apply) := by
  unfold State.checkShape
  exact Eff.ite Eff.refl (Eff.ite (Eff.ite Eff.refl (Eff.wr Eff.refl rfl (KeySet.any_fam _ rfl))) (Eff.ite Eff.refl
      ((State.raise_eff ..).after (Eff.flag (Eff.wr Eff.refl rfl (KeySet.any_fam _ rfl)) rfl (KeySet.any_fam _ rfl)) rfl)))

theorem State.prismApply_eff (s : State) (n : Nat) :
    Eff sideParts (sideAnd [.fam (K.ctxsContextState 0) 12, .fam (K.ctxsStatus 0) 12]) s (State.prismApply s n) := by
  unfold State.prismApply
  exact (State.raise_eff ..).after ((State.checkShape_eff ..).after Eff.refl rfl) rfl

theorem State.setCtx_eff (s : State) (n : Nat) (c : Ctx) :
    Eff [.prism] [] s (State.setCtx s n c) := by
  unfold State.setCtx
  exact Eff.upd_ctxs Eff.refl rfl

theorem State.replayRestart_eff (s : State) (n : Nat) :
    Eff [.regs, .prism] [.fam (K.ctxsReplayNext 0) 12] s (State.replayRestart s n) := by
  unfold State.replayRestart
  exact Eff.wr ((State.setCtx_eff ..).after Eff.refl rfl) rfl (KeySet.any_fam _ rfl)

theorem State.bandLine_eff (s : State) (n : Nat) (a1 : CLine) (g : List Int) (sat : Nat) (member : Bool) :
    Eff [.cameras] [] s (State.bandLine s n a1 g sat member) := by
  unfold State.bandLine
  extract_lets +onlyGivenNames v1
  clear_value v1
  extract_lets +onlyGivenNames v2
  clear_value v2
  extract_lets +onlyGivenNames v3
  clear_value v3
  exact (State.setCam_eff ..).after Eff.refl rfl

theorem State.bandShape_eff (s : State) (n : Nat) :
    Eff (withSide [.prism]) (sideAnd [.fam (K.ctxsContextState 0) 12, .fam (K.ctxsStatus 0) 12]) s (State.bandShape s n) := by
  unfold State.bandShape
  split
  · exact Eff.refl
  · exact Eff.ite Eff.refl ((State.setCtx_eff ..).after ((State.checkShape_eff ..).after Eff.refl rfl) rfl)

theorem State.discardLines_eff (s : State) (n : Nat) :
    Eff [.regs, .cameras] [.fam (K.camstFifoFill 0) 12, .fam (K.ctxsLinesDiscarded 0) 12] s (State.discardLines s n) := by
  unfold State.discardLines
  extract_lets +onlyGivenNames v1
  clear_value v1
  extract_lets +onlyGivenNames f2
  extract_lets +onlyGivenNames v3
  clear_value v3
  extract_lets +onlyGivenNames x4
  clear_value (ex4 : x4 = _)
  refine Eff.have ex4 ((State.setCam_eff ..).after Eff.refl rfl) fun hx4 => ?_
  exact Eff.wr (Eff.add hx4 rfl (KeySet.any_fam _ rfl)) rfl (KeySet.any_fam _ rfl)

theorem State.ctxReady_eff (s : State) (n : Nat) :
    Eff (withSide [.cameras, .prism]) (sideAnd [.fam (K.camstFifoFill 0) 12, .fam (K.ctxsContextState 0) 12, .fam
        (K.ctxsLinesDiscarded 0) 12, .fam (K.ctxsStatus 0) 12]) s (State.ctxReady s n) := by
  unfold State.ctxReady
  refine Eff.ite ?_ ?_
  · exact Eff.refl
  · extract_lets +onlyGivenNames x1
    clear_value (ex1 : x1 = _)
    refine Eff.have ex1 ((State.bandShape_eff ..).after Eff.refl rfl) fun hx1 => ?_
    exact Eff.ite ((State.discardLines_eff ..).after hx1 rfl) hx1

theorem State.lineOut_eff (s : State) (n : Nat) (a1 : CLine) (prev : Option CLine) (next : Option CLine) :
    Eff (withSide [.cameras, .prism]) (sideAnd [.fam (K.ctxsLinesProcessed 0) 12, .fam (K.ctxsSatCount 0) 12, .fam (K.ctxsStatus
        0) 12, .fam (K.memsOutOfRange 0) 12]) s (State.lineOut s n a1 prev next) := by
  unfold State.lineOut
  extract_lets +onlyGivenNames v1
  clear_value v1
  extract_lets +onlyGivenNames x2
  clear_value (ex2 : x2 = _)
  refine Eff.have ex2 (Eff.inc Eff.refl rfl (KeySet.any_fam _ rfl)) fun hx2 => ?_
  extract_lets +onlyGivenNames x3
  clear_value (ex3 : x3 = _)
  refine Eff.have ex3 (Eff.ite hx2 (Eff.flag (Eff.add hx2 rfl (KeySet.any_fam _ rfl)) rfl (KeySet.any_fam _ rfl))) fun hx3 => ?_
  extract_lets +onlyGivenNames x4
  clear_value (ex4 : x4 = _)
  refine Eff.have ex4 ((State.bandLine_eff ..).after hx3 rfl) fun hx4 => ?_
  refine Eff.ite ?_ ?_
  · extract_lets +onlyGivenNames v5
    clear_value v5
    extract_lets +onlyGivenNames x6
    clear_value (ex6 : x6 = _)
    refine Eff.have ex6 (Eff.add hx4 rfl (KeySet.any_fam _ rfl)) fun hx6 => ?_
    exact (State.setCtx_eff ..).after hx6 rfl
  · exact hx4

theorem State.replayOver_eff (s : State) (n : Nat) :
    Eff [.cameras] [] s (State.replayOver s n) := by
  unfold State.replayOver
  exact (State.setCam_eff ..).after Eff.refl rfl

theorem State.replayRead_eff (s : State) (n : Nat) (k : Int) (a1 : Int) (time : Nat) :
    Eff (withSide [.cameras, .prism]) (sideAnd [.fam (K.camstFifoFill 0) 12, .fam (K.camstFifoPeak 0) 12, .fam
        (K.camstLinesAccepted 0) 12, .fam (K.ctxsReplayNext 0) 12, .fam (K.ctxsStatus 0) 12, .fam (K.portBytesRead 0) 12, .one
        K.dramLastMapError, .one K.dramMapErrors, .one K.dramMemStatus]) s (State.replayRead s n k a1 time) := by
  unfold State.replayRead
  extract_lets +onlyGivenNames v1
  clear_value v1
  extract_lets +onlyGivenNames v2
  clear_value v2
  extract_lets +onlyGivenNames x3
  clear_value (ex3 : x3 = _)
  refine Eff.have (congrArg (fun p => p.2) ex3) ((State.blockRead_eff ..).after Eff.refl rfl) fun hx3 => ?_
  extract_lets +onlyGivenNames x4
  clear_value (ex4 : x4 = _)
  refine Eff.have ex4 hx3 fun hx4 => ?_
  extract_lets +onlyGivenNames v5
  clear_value v5
  extract_lets +onlyGivenNames x6
  clear_value (ex6 : x6 = _)
  refine Eff.have ex6 ((State.setCam_eff ..).after hx4 rfl) fun hx6 => ?_
  extract_lets +onlyGivenNames v7
  clear_value v7
  extract_lets +onlyGivenNames x8
  clear_value (ex8 : x8 = _)
  refine Eff.have ex8 (Eff.ite ((State.fifoPut_eff ..).after hx6 rfl) hx6) fun hx8 => ?_
  extract_lets +onlyGivenNames v9
  clear_value v9
  extract_lets +onlyGivenNames x10
  clear_value (ex10 : x10 = _)
  refine Eff.have ex10 ((State.setCtx_eff ..).after hx8 rfl) fun hx10 => ?_
  refine Eff.ite ?_ ?_
  · exact Eff.wr hx10 rfl (KeySet.any_fam _ rfl)
  · extract_lets +onlyGivenNames x11
    clear_value (ex11 : x11 = _)
    refine Eff.have ex11 (Eff.wr hx10 rfl (KeySet.any_fam _ rfl)) fun hx11 => ?_
    exact Eff.ite hx11 ((State.raise_eff ..).after (Eff.flag ((State.replayOver_eff ..).after ((State.setCtx_eff ..).after hx11
        rfl) rfl) rfl (KeySet.any_fam _ rfl)) rfl)

theorem flushPass_eff (n : Nat) (s : State) :
    Eff (withSide [.clock, .cameras, .prism]) (sideAnd [.fam (K.ctxsLinesProcessed 0) 12, .fam (K.ctxsSatCount 0) 12, .fam
        (K.ctxsStatus 0) 12, .fam (K.memsOutOfRange 0) 12, .fam (K.pipeLinesProcessed 0) 3]) s (flushPass n s) := by
  unfold flushPass
  extract_lets +onlyGivenNames v1
  clear_value v1
  split
  · exact Eff.refl
  · extract_lets +onlyGivenNames v2
    clear_value v2
    refine Eff.ite ?_ ?_
    · extract_lets +onlyGivenNames v3
      clear_value v3
      extract_lets +onlyGivenNames x4
      clear_value (ex4 : x4 = _)
      refine Eff.have ex4 (Eff.inc ((State.setCtx_eff ..).after Eff.refl rfl) rfl (KeySet.any_fam _ rfl)) fun hx4 => ?_
      extract_lets +onlyGivenNames x5
      clear_value (ex5 : x5 = _)
      refine Eff.have ex5 ((State.at_eff ..).after hx4 rfl) fun hx5 => ?_
      extract_lets +onlyGivenNames v6
      clear_value v6
      extract_lets +onlyGivenNames v7
      clear_value v7
      extract_lets +onlyGivenNames x8
      clear_value (ex8 : x8 = _)
      refine Eff.have ex8 (Eff.upd_pipes hx5 rfl) fun hx8 => ?_
      exact (State.lineOut_eff ..).after ((State.at_eff ..).after hx8 rfl) rfl
    · exact Eff.refl

theorem execFlushPass_eff (n : Nat) (s : State) {t : State} (h : execFlushPass n s = .next t) :
    Eff (withSide [.clock, .cameras, .prism]) (sideAnd [.fam (K.ctxsLinesProcessed 0) 12, .fam (K.ctxsSatCount 0) 12, .fam
        (K.ctxsStatus 0) 12, .fam (K.memsOutOfRange 0) 12, .fam (K.pipeLinesProcessed 0) 3]) s t := by
  unfold execFlushPass at h
  exact Eff.to (inst_next h).2.symm ((flushPass_eff ..).after Eff.refl rfl)

theorem loadIntervalEnd_eff (p : Nat) (s : State) :
    Eff [.clock, .regs, .prism] [.fam (K.pipeLoadPeak 0) 3, .fam (K.pipeLoadPercent 0) 3] s (loadIntervalEnd p s) := by
  unfold loadIntervalEnd
  extract_lets +onlyGivenNames v1
  clear_value v1
  extract_lets +onlyGivenNames v2
  clear_value v2
  extract_lets +onlyGivenNames x3
  clear_value (ex3 : x3 = _)
  refine Eff.have ex3 ((State.at_eff ..).after Eff.refl rfl) fun hx3 => ?_
  extract_lets +onlyGivenNames v4
  clear_value v4
  extract_lets +onlyGivenNames v5
  clear_value v5
  extract_lets +onlyGivenNames x6
  clear_value (ex6 : x6 = _)
  refine Eff.have ex6 (Eff.upd_pipes hx3 rfl) fun hx6 => ?_
  exact Eff.peak (Eff.wr hx6 rfl (KeySet.any_fam _ rfl)) rfl (KeySet.any_fam _ rfl)

theorem execLoadIntervalEnd_eff (p : Nat) (s : State) {t : State} (h : execLoadIntervalEnd p s = .next t) :
    Eff [.clock, .regs, .prism] [.fam (K.pipeLoadPeak 0) 3, .fam (K.pipeLoadPercent 0) 3] s t := by
  unfold execLoadIntervalEnd at h
  exact Eff.to (inst_next h).2.symm ((loadIntervalEnd_eff ..).after Eff.refl rfl)

theorem pipeLineDone_eff (n : Nat) (s : State) :
    Eff (withSide [.clock, .cameras, .prism]) (sideAnd [.fam (K.ctxsLinesProcessed 0) 12, .fam (K.ctxsSatCount 0) 12, .fam
        (K.ctxsStatus 0) 12, .fam (K.memsOutOfRange 0) 12]) s (pipeLineDone n s) := by
  unfold pipeLineDone
  extract_lets +onlyGivenNames v1
  clear_value v1
  split
  · exact Eff.refl
  · extract_lets +onlyGivenNames x2
    clear_value (ex2 : x2 = _)
    refine Eff.have ex2 ((State.setCtx_eff ..).after ((State.at_eff ..).after Eff.refl rfl) rfl) fun hx2 => ?_
    refine Eff.ite ?_ ?_
    · exact (State.lineOut_eff ..).after hx2 rfl
    · split
      · exact (State.setCtx_eff ..).after hx2 rfl
      · exact (State.setCtx_eff ..).after ((State.lineOut_eff ..).after hx2 rfl) rfl
      · exact (State.setCtx_eff ..).after ((State.lineOut_eff ..).after hx2 rfl) rfl

theorem execPipeLineDone_eff (n : Nat) (s : State) {t : State} (h : execPipeLineDone n s = .next t) :
    Eff (withSide [.clock, .cameras, .prism]) (sideAnd [.fam (K.ctxsLinesProcessed 0) 12, .fam (K.ctxsSatCount 0) 12, .fam
        (K.ctxsStatus 0) 12, .fam (K.memsOutOfRange 0) 12]) s t := by
  unfold execPipeLineDone at h
  exact Eff.to (inst_next h).2.symm ((pipeLineDone_eff ..).after Eff.refl rfl)

theorem prismBandDone_eff (n : Nat) (s : State) :
    Eff (withSide [.cameras]) sideKeys s (prismBandDone n s) := by
  unfold prismBandDone
  split
  · exact Eff.refl
  · exact (State.raise_eff ..).after ((State.setCam_eff ..).after Eff.refl rfl) rfl

theorem execPrismBandDone_eff (n : Nat) (s : State) {t : State} (h : execPrismBandDone n s = .next t) :
    Eff (withSide [.cameras]) sideKeys s t := by
  unfold execPrismBandDone at h
  exact Eff.to (inst_next h).2.symm ((prismBandDone_eff ..).after Eff.refl rfl)

theorem replayLine_eff (n : Nat) (s : State) :
    Eff (withSide [.clock, .cameras, .prism]) (sideAnd [.fam (K.camstBandIndex 0) 12, .fam (K.camstBandsDropped 0) 12, .fam
        (K.camstCameraGeneration 0) 12, .fam (K.camstFifoFill 0) 12, .fam (K.camstFifoPeak 0) 12, .fam (K.camstLinesAccepted 0)
        12, .fam (K.camstLinesDropped 0) 12, .fam (K.camstStatus 0) 12, .fam (K.ctxsReplayNext 0) 12, .fam (K.ctxsStatus 0) 12,
        .fam (K.portBytesRead 0) 12, .one K.dramLastMapError, .one K.dramMapErrors, .one K.dramMemStatus]) s (replayLine n s) :=
        by
  unfold replayLine
  refine Eff.ite ?_ ?_
  · exact Eff.refl
  · refine Eff.ite ?_ ?_
    · split
      · exact Eff.refl
      · exact Eff.ite ((State.replayRead_eff ..).after ((State.setCam_eff ..).after Eff.refl rfl) rfl) Eff.refl
    · extract_lets +onlyGivenNames v1
      extract_lets +onlyGivenNames x2
      clear_value (ex2 : x2 = _)
      refine Eff.have ex2 (Eff.ite ((State.at_eff ..).after Eff.refl rfl) Eff.refl) fun hx2 => ?_
      extract_lets +onlyGivenNames v3
      clear_value v3
      refine Eff.ite ?_ ?_
      · exact (State.replayRead_eff ..).after ((State.camRaised_eff ..).after hx2 rfl) rfl
      · refine Eff.ite ?_ ?_
        · extract_lets +onlyGivenNames x4
          clear_value (ex4 : x4 = _)
          refine Eff.have ex4 ((State.camRaised_eff ..).after hx2 rfl) fun hx4 => ?_
          extract_lets +onlyGivenNames x5
          clear_value (ex5 : x5 = _)
          refine Eff.have ex5 ((State.dropBand_eff ..).after (Eff.flag hx4 rfl (KeySet.any_fam _ rfl)) rfl) fun hx5 => ?_
          exact (State.setCtx_eff ..).after hx5 rfl
        · exact hx2

theorem execReplayLine_eff (n : Nat) (s : State) {t : State} (h : execReplayLine n s = .next t) :
    Eff (withSide [.clock, .cameras, .prism]) (sideAnd [.fam (K.camstBandIndex 0) 12, .fam (K.camstBandsDropped 0) 12, .fam
        (K.camstCameraGeneration 0) 12, .fam (K.camstFifoFill 0) 12, .fam (K.camstFifoPeak 0) 12, .fam (K.camstLinesAccepted 0)
        12, .fam (K.camstLinesDropped 0) 12, .fam (K.camstStatus 0) 12, .fam (K.ctxsReplayNext 0) 12, .fam (K.ctxsStatus 0) 12,
        .fam (K.portBytesRead 0) 12, .one K.dramLastMapError, .one K.dramMapErrors, .one K.dramMemStatus]) s t := by
  unfold execReplayLine at h
  exact Eff.to (inst_next h).2.symm ((replayLine_eff ..).after Eff.refl rfl)

theorem readRound_eff (p : Nat) (a1 : List Nat) (s : State) :
    Eff [.regs, .cameras, .prism] [.fam (K.camstFifoFill 0) 12, .fam (K.ctxsBandInProcess 0) 12, .fam (K.ctxsPrismGeneration 0)
        12, .fam (K.pipeLinesProcessed 0) 3, .fam (K.pipeMaxWait 0) 3] s (readRound p a1 s) := by
  unfold readRound
  split
  · exact Eff.refl
  · split
    · exact (readRound_eff ..).after Eff.refl rfl
    · extract_lets +onlyGivenNames v1
      clear_value v1
      extract_lets +onlyGivenNames v2
      clear_value v2
      extract_lets +onlyGivenNames v3
      clear_value v3
      extract_lets +onlyGivenNames v4
      clear_value v4
      extract_lets +onlyGivenNames x5
      clear_value (ex5 : x5 = _)
      refine Eff.have ex5 ((State.setCam_eff ..).after Eff.refl rfl) fun hx5 => ?_
      extract_lets +onlyGivenNames x6
      clear_value (ex6 : x6 = _)
      refine Eff.have ex6 (Eff.wr hx5 rfl (KeySet.any_fam _ rfl)) fun hx6 => ?_
      extract_lets +onlyGivenNames v7
      clear_value v7
      extract_lets +onlyGivenNames x8
      clear_value (ex8 : x8 = _)
      refine Eff.have ex8 ((State.setCtx_eff ..).after hx6 rfl) fun hx8 => ?_
      extract_lets +onlyGivenNames x9
      clear_value (ex9 : x9 = _)
      refine Eff.have ex9 (Eff.peak (Eff.inc hx8 rfl (KeySet.any_fam _ rfl)) rfl (KeySet.any_fam _ rfl)) fun hx9 => ?_
      extract_lets +onlyGivenNames x10
      clear_value (ex10 : x10 = _)
      refine Eff.have ex10 (Eff.wr (Eff.wr hx9 rfl (KeySet.any_fam _ rfl)) rfl (KeySet.any_fam _ rfl)) fun hx10 => ?_
      extract_lets +onlyGivenNames x11
      clear_value (ex11 : x11 = _)
      refine Eff.have ex11 (Eff.upd_pipes hx10 rfl) fun hx11 => ?_
      exact (readRound_eff ..).after hx11 rfl

theorem roundOpen_eff (p : Nat) (s : State) :
    Eff (withSide [.clock, .cameras, .prism]) (sideAnd [.fam (K.camstFifoFill 0) 12, .fam (K.ctxsBandInProcess 0) 12, .fam
        (K.ctxsContextState 0) 12, .fam (K.ctxsLinesDiscarded 0) 12, .fam (K.ctxsPrismGeneration 0) 12, .fam (K.ctxsStatus 0) 12,
        .fam (K.pipeLinesProcessed 0) 3, .fam (K.pipeMaxWait 0) 3, .fam (K.pipeRounds 0) 3]) s (roundOpen p s) := by
  unfold roundOpen
  extract_lets +onlyGivenNames v1
  clear_value v1
  extract_lets +onlyGivenNames x2
  clear_value (ex2 : x2 = _)
  refine Eff.have ex2 ((State.at_eff ..).after Eff.refl rfl) fun hx2 => ?_
  extract_lets +onlyGivenNames x3
  clear_value (ex3 : x3 = _)
  refine Eff.have ex3 (Eff.foldl (fun x4 _ hx4 => ((State.ctxReady_eff ..).after hx4 rfl)) hx2) fun hx3 => ?_
  extract_lets +onlyGivenNames v5
  clear_value v5
  split
  · exact hx3
  · extract_lets +onlyGivenNames v6
    clear_value v6
    extract_lets +onlyGivenNames x7
    clear_value (ex7 : x7 = _)
    refine Eff.have ex7 (Eff.upd_pipes hx3 rfl) fun hx7 => ?_
    exact Eff.inc ((readRound_eff ..).after hx7 rfl) rfl (KeySet.any_fam _ rfl)

theorem execRoundOpen_eff (p : Nat) (s : State) {t : State} (h : execRoundOpen p s = .next t) :
    Eff (withSide [.clock, .cameras, .prism]) (sideAnd [.fam (K.camstFifoFill 0) 12, .fam (K.ctxsBandInProcess 0) 12, .fam
        (K.ctxsContextState 0) 12, .fam (K.ctxsLinesDiscarded 0) 12, .fam (K.ctxsPrismGeneration 0) 12, .fam (K.ctxsStatus 0) 12,
        .fam (K.pipeLinesProcessed 0) 3, .fam (K.pipeMaxWait 0) 3, .fam (K.pipeRounds 0) 3]) s t := by
  unfold execRoundOpen at h
  exact Eff.to (inst_next h).2.symm ((roundOpen_eff ..).after Eff.refl rfl)

end Sys2Proof.Machine
end

