-- ==== Sys2Proof/Laws/Seam.lean ====
section
/-! SUPPORT. What each operation of Machine/Seam.lean may change. -/

-- The proofs of this file are checked one after another, in one thread.
set_option Elab.async false

namespace Sys2Proof.Machine

theorem State.showMembers_eff (s : State) :
    Eff [.regs] [.fam (K.memsMemberState 0) 12] s (State.showMembers s) := by
  unfold State.showMembers
  exact Eff.foldl (fun x1 _ hx1 => (Eff.wr hx1 rfl (KeySet.any_fam _ rfl))) Eff.refl

theorem State.setWin_eff (s : State) (w : Nat) (a1 : Win) :
    Eff [.seam] [] s (State.setWin s w a1) := by
  unfold State.setWin
  exact Eff.upd_wins Eff.refl rfl

theorem State.winApply_eff (s : State) (w : Nat) :
    Eff [.regs, .seam] [.fam (K.winsWinStatus 0) 2] s (State.winApply s w) := by
  unfold State.winApply
  exact Eff.wr ((State.setWin_eff ..).after Eff.refl rfl) rfl (KeySet.any_fam _ rfl)

theorem State.setView_eff (s : State) (v : Nat) (a1 : View) :
    Eff [.seam] [] s (State.setView s v a1) := by
  unfold State.setView
  exact Eff.upd_views Eff.refl rfl

theorem State.viewReset_eff (s : State) (v : Nat) :
    Eff [.seam] [] s (State.viewReset s v) := by
  unfold State.viewReset
  extract_lets +onlyGivenNames v1
  clear_value v1
  exact (State.setView_eff ..).after Eff.refl rfl

theorem State.viewSend_eff (s : State) (v : Nat) (bytes : List Nat) :
    Eff (withSide [.out]) (sideAnd [.fam (K.ethsFramesOut 0) 2, .fam (K.ethsPortStatus 0) 2, .fam (K.ethsViewDrops 0) 2]) s
        (State.viewSend s v bytes) := by
  unfold State.viewSend
  extract_lets +onlyGivenNames v1
  clear_value v1
  exact Eff.ite ((State.udpSend_eff ..).after Eff.refl rfl) (Eff.flag (Eff.inc Eff.refl rfl (KeySet.any_fam _ rfl)) rfl
      (KeySet.any_fam _ rfl))

theorem State.viewPackets_eff (v : Nat) (ts : Nat) (row : Nat) (lastRow : Bool) (a1 : Nat) (a2 : Nat) (a3 : List Px) (s : State) :
    Eff (withSide [.out, .seam]) (sideAnd [.fam (K.ethsFramesOut 0) 2, .fam (K.ethsPortStatus 0) 2, .fam (K.ethsViewDrops 0) 2]) s
        (State.viewPackets v ts row lastRow a1 a2 a3 s) := by
  unfold State.viewPackets
  split
  · exact Eff.refl
  · extract_lets +onlyGivenNames v1
    clear_value v1
    extract_lets +onlyGivenNames v2
    clear_value v2
    extract_lets +onlyGivenNames v3
    clear_value v3
    exact (State.viewPackets_eff ..).after ((State.viewSend_eff ..).after ((State.setView_eff ..).after Eff.refl rfl) rfl) rfl

theorem State.viewFrame_eff (s : State) (v : Nat) (rows : Nat) (partly : Bool) (skip : Bool) :
    Eff (withSide [.memory, .seam]) (sideAnd [.fam (K.qsFill 0) 64, .fam (K.qsFillPeak 0) 64, .fam (K.qsItemsIn 0) 64, .fam
        (K.qsNoCreditCount 0) 64, .fam (K.qsQueueStatus 0) 64, .fam (K.viewsFrames 0) 8, .one K.quesSizeErrors]) s
        (State.viewFrame s v rows partly skip) := by
  unfold State.viewFrame
  extract_lets +onlyGivenNames v1
  clear_value v1
  extract_lets +onlyGivenNames x2
  clear_value (ex2 : x2 = _)
  refine Eff.have ex2 ((State.offerTo_eff ..).after Eff.refl rfl) fun hx2 => ?_
  exact (State.raise_eff ..).after (Eff.inc ((State.setView_eff ..).after hx2 rfl) rfl (KeySet.any_fam _ rfl)) rfl

theorem State.viewOut_eff (s : State) (v : Nat) (l : VLine) :
    Eff (withSide [.out, .mem, .memory, .seam]) (sideAnd [.fam (K.ethsFramesOut 0) 2, .fam (K.ethsPortStatus 0) 2, .fam
        (K.ethsViewDrops 0) 2, .fam (K.portBytesWritten 0) 12, .fam (K.qsFill 0) 64, .fam (K.qsFillPeak 0) 64, .fam (K.qsItemsIn
        0) 64, .fam (K.qsNoCreditCount 0) 64, .fam (K.qsQueueStatus 0) 64, .fam (K.viewsFrames 0) 8, .one K.dramLastMapError, .one
        K.dramMapErrors, .one K.dramMemStatus, .one K.quesSizeErrors]) s (State.viewOut s v l) := by
  unfold State.viewOut
  extract_lets +onlyGivenNames v1
  clear_value v1
  extract_lets +onlyGivenNames v2
  clear_value v2
  extract_lets +onlyGivenNames v3
  clear_value v3
  extract_lets +onlyGivenNames v4
  clear_value v4
  extract_lets +onlyGivenNames x5
  clear_value (ex5 : x5 = _)
  refine Eff.have ex5 ((State.setView_eff ..).after Eff.refl rfl) fun hx5 => ?_
  extract_lets +onlyGivenNames x6
  clear_value (ex6 : x6 = _)
  refine Eff.have ex6 (Eff.ite ((State.blockWrite_eff ..).after hx5 rfl) hx5) fun hx6 => ?_
  extract_lets +onlyGivenNames x7
  clear_value (ex7 : x7 = _)
  refine Eff.have ex7 (Eff.ite ((State.viewPackets_eff ..).after hx6 rfl) hx6) fun hx7 => ?_
  exact Eff.ite ((State.viewFrame_eff ..).after hx7 rfl) hx7

theorem viewDrain_eff (v : Nat) (keep : Nat) (a1 : Nat) (s : State) :
    Eff (withSide [.out, .mem, .memory, .seam]) (sideAnd [.fam (K.ethsFramesOut 0) 2, .fam (K.ethsPortStatus 0) 2, .fam
        (K.ethsViewDrops 0) 2, .fam (K.portBytesWritten 0) 12, .fam (K.qsFill 0) 64, .fam (K.qsFillPeak 0) 64, .fam (K.qsItemsIn
        0) 64, .fam (K.qsNoCreditCount 0) 64, .fam (K.qsQueueStatus 0) 64, .fam (K.viewsFrames 0) 8, .one K.dramLastMapError, .one
        K.dramMapErrors, .one K.dramMemStatus, .one K.quesSizeErrors]) s (viewDrain v keep a1 s) := by
  unfold viewDrain
  split
  · exact Eff.refl
  · extract_lets +onlyGivenNames v1
    clear_value v1
    split
    · exact Eff.refl
    · exact Eff.ite Eff.refl ((viewDrain_eff ..).after ((State.viewOut_eff ..).after ((State.setView_eff ..).after Eff.refl rfl)
        rfl) rfl)

theorem State.viewClose_eff (s : State) (v : Nat) :
    Eff (withSide [.out, .mem, .memory, .seam]) (sideAnd [.fam (K.ethsFramesOut 0) 2, .fam (K.ethsPortStatus 0) 2, .fam
        (K.ethsViewDrops 0) 2, .fam (K.portBytesWritten 0) 12, .fam (K.qsFill 0) 64, .fam (K.qsFillPeak 0) 64, .fam (K.qsItemsIn
        0) 64, .fam (K.qsNoCreditCount 0) 64, .fam (K.qsQueueStatus 0) 64, .fam (K.viewsFrames 0) 8, .one K.dramLastMapError, .one
        K.dramMapErrors, .one K.dramMemStatus, .one K.quesSizeErrors]) s (State.viewClose s v) := by
  unfold State.viewClose
  extract_lets +onlyGivenNames x1
  clear_value (ex1 : x1 = _)
  refine Eff.have ex1 ((viewDrain_eff ..).after Eff.refl rfl) fun hx1 => ?_
  extract_lets +onlyGivenNames v2
  clear_value v2
  exact Eff.ite hx1 ((State.viewFrame_eff ..).after hx1 rfl)

theorem bandRecord_eff (n : Nat) (s : State) :
    Eff (withSide [.memory, .cameras]) (sideAnd [.fam (K.qsFill 0) 64, .fam (K.qsFillPeak 0) 64, .fam (K.qsItemsIn 0) 64, .fam
        (K.qsNoCreditCount 0) 64, .fam (K.qsQueueStatus 0) 64, .one K.quesSizeErrors, .one K.seamsRecordsLost, .one
        K.seamsStatus]) s (bandRecord n s) := by
  unfold bandRecord
  extract_lets +onlyGivenNames v1
  clear_value v1
  split
  · exact Eff.refl
  · extract_lets +onlyGivenNames x2
    clear_value (ex2 : x2 = _)
    refine Eff.have ex2 ((State.setCam_eff ..).after Eff.refl rfl) fun hx2 => ?_
    split
    · rename_i q3
      exact (State.raise_eff ..).after (Eff.to (congrArg (fun p => p.2) q3).symm ((State.offerTo_eff ..).after hx2 rfl)) rfl
    · rename_i q4
      exact Eff.flag (Eff.inc (Eff.to (congrArg (fun p => p.2) q4).symm ((State.offerTo_eff ..).after hx2 rfl)) rfl rfl) rfl rfl

theorem State.codingChunk_eff (s : State) (d : Desc) (first : Nat) (dropped : Bool) :
    Eff (withSide [.memory]) (sideAnd [.fam (K.qsFill 0) 64, .fam (K.qsFillPeak 0) 64, .fam (K.qsItemsIn 0) 64, .fam
        (K.qsNoCreditCount 0) 64, .fam (K.qsQueueStatus 0) 64, .one K.codsChunksDropped, .one K.codsCodingStatus, .one
        K.quesSizeErrors]) s (State.codingChunk s d first dropped) := by
  unfold State.codingChunk
  refine Eff.ite ?_ ?_
  · exact (State.raise_eff ..).after (Eff.flag (Eff.inc Eff.refl rfl rfl) rfl rfl) rfl
  · extract_lets +onlyGivenNames x1
    clear_value (ex1 : x1 = _)
    refine Eff.have ex1 ((State.offerTo_eff ..).after Eff.refl rfl) fun hx1 => ?_
    exact (State.raise_eff ..).after (Eff.arrive hx1 rfl) rfl

theorem State.codingWrite_eff (s : State) (c : Coding) (px : List (Int × Int × Int)) :
    Eff (withSide [.mem]) (sideAnd [.fam (K.portBytesWritten 0) 12, .one K.dramLastMapError, .one K.dramMapErrors, .one
        K.dramMemStatus]) s (State.codingWrite s c px) := by
  unfold State.codingWrite
  extract_lets +onlyGivenNames v1
  clear_value v1
  extract_lets +onlyGivenNames v2
  clear_value v2
  extract_lets +onlyGivenNames v3
  clear_value v3
  extract_lets +onlyGivenNames x4
  clear_value (ex4 : x4 = _)
  refine Eff.have ex4 ((State.blockWrite_eff ..).after Eff.refl rfl) fun hx4 => ?_
  refine Eff.ite ?_ ?_
  · exact hx4
  · extract_lets +onlyGivenNames v5
    clear_value v5
    exact (State.blockWrite_eff ..).after hx4 rfl

theorem State.codingFinish_eff (s : State) :
    Eff (withSide [.mem, .memory, .seam]) (sideAnd [.fam (K.portBytesWritten 0) 12, .fam (K.qsFill 0) 64, .fam (K.qsFillPeak 0)
        64, .fam (K.qsItemsIn 0) 64, .fam (K.qsNoCreditCount 0) 64, .fam (K.qsQueueStatus 0) 64, .one K.codsChunksDropped, .one
        K.codsCodingStatus, .one K.codsCodingWriteLine, .one K.dramLastMapError, .one K.dramMapErrors, .one K.dramMemStatus, .one
        K.quesSizeErrors]) s (State.codingFinish s) := by
  unfold State.codingFinish
  extract_lets +onlyGivenNames v1
  clear_value v1
  extract_lets +onlyGivenNames v2
  clear_value v2
  extract_lets +onlyGivenNames v3
  extract_lets +onlyGivenNames x4
  clear_value (ex4 : x4 = _)
  refine Eff.have ex4 (Eff.ite (Eff.wr Eff.refl rfl rfl) Eff.refl) fun hx4 => ?_
  extract_lets +onlyGivenNames v5
  clear_value v5
  extract_lets +onlyGivenNames v6
  clear_value v6
  extract_lets +onlyGivenNames x7
  clear_value (ex7 : x7 = _)
  refine Eff.have ex7 (Eff.ite hx4 ((State.codingWrite_eff ..).after hx4 rfl)) fun hx7 => ?_
  extract_lets +onlyGivenNames v8
  clear_value v8
  extract_lets +onlyGivenNames v9
  clear_value v9
  extract_lets +onlyGivenNames v10
  extract_lets +onlyGivenNames x11
  clear_value (ex11 : x11 = _)
  refine Eff.have ex11 (Eff.ite ((State.codingChunk_eff ..).after hx7 rfl) hx7) fun hx11 => ?_
  extract_lets +onlyGivenNames x12
  clear_value (ex12 : x12 = _)
  refine Eff.have ex12 (Eff.wr hx11 rfl rfl) fun hx12 => ?_
  exact Eff.upd_coding hx12 rfl

theorem codingFinishes_eff (a1 : Nat) (s : State) :
    Eff (withSide [.mem, .memory, .seam]) (sideAnd [.fam (K.portBytesWritten 0) 12, .fam (K.qsFill 0) 64, .fam (K.qsFillPeak 0)
        64, .fam (K.qsItemsIn 0) 64, .fam (K.qsNoCreditCount 0) 64, .fam (K.qsQueueStatus 0) 64, .one K.codsChunksDropped, .one
        K.codsCodingStatus, .one K.codsCodingWriteLine, .one K.dramLastMapError, .one K.dramMapErrors, .one K.dramMemStatus, .one
        K.quesSizeErrors]) s (codingFinishes a1 s) := by
  unfold codingFinishes
  split
  · exact Eff.refl
  · exact (codingFinishes_eff ..).after ((State.codingFinish_eff ..).after Eff.refl rfl) rfl

theorem State.codingLine_eff (s : State) (a1 : Stitched) :
    Eff (withSide [.mem, .memory, .seam]) (sideAnd [.fam (K.portBytesWritten 0) 12, .fam (K.qsFill 0) 64, .fam (K.qsFillPeak 0)
        64, .fam (K.qsItemsIn 0) 64, .fam (K.qsNoCreditCount 0) 64, .fam (K.qsQueueStatus 0) 64, .one K.codsChunksDropped, .one
        K.codsCodingStatus, .one K.codsCodingWriteLine, .one K.dramLastMapError, .one K.dramMapErrors, .one K.dramMemStatus, .one
        K.quesSizeErrors]) s (State.codingLine s a1) := by
  unfold State.codingLine
  refine Eff.ite ?_ ?_
  · exact Eff.refl
  · extract_lets +onlyGivenNames v1
    clear_value v1
    extract_lets +onlyGivenNames v2
    clear_value v2
    extract_lets +onlyGivenNames v3
    clear_value v3
    extract_lets +onlyGivenNames v4
    clear_value v4
    extract_lets +onlyGivenNames x5
    clear_value (ex5 : x5 = _)
    refine Eff.have ex5 ((codingFinishes_eff ..).after (Eff.upd_coding Eff.refl rfl) rfl) fun hx5 => ?_
    extract_lets +onlyGivenNames v6
    clear_value v6
    extract_lets +onlyGivenNames x7
    clear_value (ex7 : x7 = _)
    refine Eff.have ex7 (Eff.upd_coding hx5 rfl) fun hx7 => ?_
    exact Eff.ite ((State.codingFinish_eff ..).after hx7 rfl) hx7

theorem State.seamDone_eff (s : State) (n : Nat) (band : Int) (late : Bool) :
    Eff [.cameras] [] s (State.seamDone s n band late) := by
  unfold State.seamDone
  exact (State.setCam_eff ..).after Eff.refl rfl

theorem State.winDone_eff (s : State) (w : Nat) :
    Eff (withSide [.memory, .seam]) (sideAnd [.fam (K.qsFill 0) 64, .fam (K.qsFillPeak 0) 64, .fam (K.qsItemsIn 0) 64, .fam
        (K.qsNoCreditCount 0) 64, .fam (K.qsQueueStatus 0) 64, .fam (K.winsWinStatus 0) 2, .one K.quesSizeErrors]) s
        (State.winDone s w) := by
  unfold State.winDone
  extract_lets +onlyGivenNames v1
  clear_value v1
  extract_lets +onlyGivenNames x2
  clear_value (ex2 : x2 = _)
  refine Eff.have ex2 ((State.offerTo_eff ..).after Eff.refl rfl) fun hx2 => ?_
  extract_lets +onlyGivenNames x3
  clear_value (ex3 : x3 = _)
  refine Eff.have ex3 ((State.setWin_eff ..).after hx2 rfl) fun hx3 => ?_
  exact Eff.ite ((State.raise_eff ..).after (Eff.arrive (Eff.wr hx3 rfl (KeySet.any_fam _ rfl)) rfl) rfl) hx3

theorem State.winLine_eff (a1 : Stitched) (s : State) (w : Nat) :
    Eff (withSide [.mem, .memory, .seam]) (sideAnd [.fam (K.portBytesWritten 0) 12, .fam (K.qsFill 0) 64, .fam (K.qsFillPeak 0)
        64, .fam (K.qsItemsIn 0) 64, .fam (K.qsNoCreditCount 0) 64, .fam (K.qsQueueStatus 0) 64, .fam (K.winsWinLine 0) 2, .fam
        (K.winsWinStatus 0) 2, .one K.dramLastMapError, .one K.dramMapErrors, .one K.dramMemStatus, .one K.quesSizeErrors]) s
        (State.winLine a1 s w) := by
  unfold State.winLine
  extract_lets +onlyGivenNames v1
  clear_value v1
  refine Eff.ite ?_ ?_
  · exact Eff.refl
  · extract_lets +onlyGivenNames v2
    clear_value v2
    extract_lets +onlyGivenNames v3
    clear_value v3
    extract_lets +onlyGivenNames x4
    clear_value (ex4 : x4 = _)
    refine Eff.have ex4 ((State.setWin_eff ..).after Eff.refl rfl) fun hx4 => ?_
    refine Eff.ite ?_ ?_
    · exact hx4
    · extract_lets +onlyGivenNames v5
      clear_value v5
      extract_lets +onlyGivenNames v6
      clear_value v6
      extract_lets +onlyGivenNames x7
      clear_value (ex7 : x7 = _)
      refine Eff.have ex7 ((State.blockWrite_eff ..).after hx4 rfl) fun hx7 => ?_
      extract_lets +onlyGivenNames x8
      clear_value (ex8 : x8 = _)
      refine Eff.have ex8 (Eff.inc hx7 rfl (KeySet.any_fam _ rfl)) fun hx8 => ?_
      extract_lets +onlyGivenNames v9
      clear_value v9
      extract_lets +onlyGivenNames x10
      clear_value (ex10 : x10 = _)
      refine Eff.have ex10 ((State.setWin_eff ..).after hx8 rfl) fun hx10 => ?_
      exact Eff.ite ((State.winDone_eff ..).after hx10 rfl) hx10

theorem State.viewStart_eff (s : State) (v : Nat) :
    Eff (withSide [.seam]) (sideAnd [.fam (K.viewsFramesSkipped 0) 8, .fam (K.viewsViewStatus 0) 8]) s (State.viewStart s v) := by
  unfold State.viewStart
  extract_lets +onlyGivenNames v1
  clear_value v1
  extract_lets +onlyGivenNames v2
  clear_value v2
  extract_lets +onlyGivenNames x3
  clear_value (ex3 : x3 = _)
  refine Eff.have ex3 ((State.setView_eff ..).after Eff.refl rfl) fun hx3 => ?_
  exact Eff.ite ((State.raise_eff ..).after (Eff.flag (Eff.inc hx3 rfl (KeySet.any_fam _ rfl)) rfl (KeySet.any_fam _ rfl)) rfl)
      hx3

theorem State.viewFinish_eff (s : State) (v : Nat) :
    Eff (withSide [.out, .mem, .memory, .seam]) (sideAnd [.fam (K.ethsFramesOut 0) 2, .fam (K.ethsPortStatus 0) 2, .fam
        (K.ethsViewDrops 0) 2, .fam (K.portBytesWritten 0) 12, .fam (K.qsFill 0) 64, .fam (K.qsFillPeak 0) 64, .fam (K.qsItemsIn
        0) 64, .fam (K.qsNoCreditCount 0) 64, .fam (K.qsQueueStatus 0) 64, .fam (K.viewsFrames 0) 8, .fam (K.viewsFramesSkipped 0)
        8, .fam (K.viewsViewLine 0) 8, .fam (K.viewsViewStatus 0) 8, .one K.dramLastMapError, .one K.dramMapErrors, .one
        K.dramMemStatus, .one K.quesSizeErrors]) s (State.viewFinish s v) := by
  unfold State.viewFinish
  extract_lets +onlyGivenNames x1
  clear_value (ex1 : x1 = _)
  refine Eff.have ex1 (Eff.ite ((State.viewStart_eff ..).after Eff.refl rfl) Eff.refl) fun hx1 => ?_
  extract_lets +onlyGivenNames v2
  clear_value v2
  extract_lets +onlyGivenNames v3
  extract_lets +onlyGivenNames x4
  clear_value (ex4 : x4 = _)
  refine Eff.have ex4 (Eff.ite (Eff.wr hx1 rfl (KeySet.any_fam _ rfl)) hx1) fun hx4 => ?_
  extract_lets +onlyGivenNames v5
  clear_value v5
  extract_lets +onlyGivenNames v6
  clear_value v6
  extract_lets +onlyGivenNames v7
  extract_lets +onlyGivenNames x8
  clear_value (ex8 : x8 = _)
  refine Eff.have ex8 ((State.setView_eff ..).after hx4 rfl) fun hx8 => ?_
  exact (viewDrain_eff ..).after (Eff.inc hx8 rfl (KeySet.any_fam _ rfl)) rfl

theorem viewFinishes_eff (v : Nat) (a1 : Nat) (s : State) :
    Eff (withSide [.out, .mem, .memory, .seam]) (sideAnd [.fam (K.ethsFramesOut 0) 2, .fam (K.ethsPortStatus 0) 2, .fam
        (K.ethsViewDrops 0) 2, .fam (K.portBytesWritten 0) 12, .fam (K.qsFill 0) 64, .fam (K.qsFillPeak 0) 64, .fam (K.qsItemsIn
        0) 64, .fam (K.qsNoCreditCount 0) 64, .fam (K.qsQueueStatus 0) 64, .fam (K.viewsFrames 0) 8, .fam (K.viewsFramesSkipped 0)
        8, .fam (K.viewsViewLine 0) 8, .fam (K.viewsViewStatus 0) 8, .one K.dramLastMapError, .one K.dramMapErrors, .one
        K.dramMemStatus, .one K.quesSizeErrors]) s (viewFinishes v a1 s) := by
  unfold viewFinishes
  split
  · exact Eff.refl
  · exact (viewFinishes_eff ..).after ((State.viewFinish_eff ..).after Eff.refl rfl) rfl

theorem State.viewLine_eff (a1 : Stitched) (s : State) (v : Nat) :
    Eff (withSide [.out, .mem, .memory, .seam]) (sideAnd [.fam (K.ethsFramesOut 0) 2, .fam (K.ethsPortStatus 0) 2, .fam
        (K.ethsViewDrops 0) 2, .fam (K.portBytesWritten 0) 12, .fam (K.qsFill 0) 64, .fam (K.qsFillPeak 0) 64, .fam (K.qsItemsIn
        0) 64, .fam (K.qsNoCreditCount 0) 64, .fam (K.qsQueueStatus 0) 64, .fam (K.viewsFrames 0) 8, .fam (K.viewsFramesSkipped 0)
        8, .fam (K.viewsViewLine 0) 8, .fam (K.viewsViewStatus 0) 8, .one K.dramLastMapError, .one K.dramMapErrors, .one
        K.dramMemStatus, .one K.quesSizeErrors]) s (State.viewLine a1 s v) := by
  unfold State.viewLine
  refine Eff.ite ?_ ?_
  · exact Eff.refl
  · extract_lets +onlyGivenNames v1
    clear_value v1
    extract_lets +onlyGivenNames v2
    clear_value v2
    extract_lets +onlyGivenNames v3
    clear_value v3
    extract_lets +onlyGivenNames v4
    clear_value v4
    extract_lets +onlyGivenNames x5
    clear_value (ex5 : x5 = _)
    refine Eff.have ex5 ((viewFinishes_eff ..).after ((State.setView_eff ..).after Eff.refl rfl) rfl) fun hx5 => ?_
    extract_lets +onlyGivenNames v6
    clear_value v6
    extract_lets +onlyGivenNames x7
    clear_value (ex7 : x7 = _)
    refine Eff.have ex7 ((State.setView_eff ..).after hx5 rfl) fun hx7 => ?_
    exact Eff.ite ((State.viewFinish_eff ..).after hx7 rfl) hx7

theorem State.viewTag_eff (cls : Nat) (a1 : Nat) (a2 : Nat) (y0 : Int) (y1 : Int) (s : State) (v : Nat) :
    Eff (withSide [.seam]) (sideAnd [.fam (K.viewsOverlayDropped 0) 8, .fam (K.viewsViewStatus 0) 8]) s (State.viewTag cls a1 a2
        y0 y1 s v) := by
  unfold State.viewTag
  extract_lets +onlyGivenNames v1
  clear_value v1
  extract_lets +onlyGivenNames v2
  clear_value v2
  refine Eff.ite ?_ ?_
  · exact Eff.refl
  · split
    · exact Eff.refl
    · extract_lets +onlyGivenNames v3
      clear_value v3
      extract_lets +onlyGivenNames v4
      clear_value v4
      extract_lets +onlyGivenNames v5
      clear_value v5
      refine Eff.ite ?_ ?_
      · exact Eff.refl
      · extract_lets +onlyGivenNames v6
        clear_value v6
        extract_lets +onlyGivenNames v7
        clear_value v7
        extract_lets +onlyGivenNames v8
        clear_value v8
        extract_lets +onlyGivenNames v9
        clear_value v9
        refine Eff.ite ?_ ?_
        · exact Eff.flag (Eff.inc Eff.refl rfl (KeySet.any_fam _ rfl)) rfl (KeySet.any_fam _ rfl)
        · extract_lets +onlyGivenNames v10
          clear_value v10
          exact (State.setView_eff ..).after Eff.refl rfl

theorem execBandRecord_eff (n : Nat) (s : State) {t : State} (h : execBandRecord n s = .next t) :
    Eff (withSide [.memory, .cameras]) (sideAnd [.fam (K.qsFill 0) 64, .fam (K.qsFillPeak 0) 64, .fam (K.qsItemsIn 0) 64, .fam
        (K.qsNoCreditCount 0) 64, .fam (K.qsQueueStatus 0) 64, .one K.quesSizeErrors, .one K.seamsRecordsLost, .one
        K.seamsStatus]) s t := by
  unfold execBandRecord at h
  exact Eff.to (inst_next h).2.symm ((bandRecord_eff ..).after Eff.refl rfl)

theorem seamDeadline_eff (s : State) :
    Eff [.clock, .seam] [] s (seamDeadline s) := by
  unfold seamDeadline
  split
  · exact Eff.refl
  · extract_lets +onlyGivenNames x1
    clear_value (ex1 : x1 = _)
    refine Eff.have ex1 ((State.at_eff ..).after Eff.refl rfl) fun hx1 => ?_
    exact Eff.upd_seam hx1 rfl

theorem execSeamDeadline_eff (s : State) {t : State} (h : execSeamDeadline s = .next t) :
    Eff [.clock, .seam] [] s t := by
  unfold execSeamDeadline at h
  cases h
  exact (seamDeadline_eff ..).after Eff.refl rfl

theorem winStart_eff (w : Nat) (s : State) :
    Eff (withSide [.seam]) (sideAnd [.fam (K.winsWinStatus 0) 2]) s (winStart w s) := by
  unfold winStart
  split
  · exact Eff.refl
  · rename_i q1
    exact Eff.ite (Eff.wr ((State.setWin_eff ..).after ((State.takeTask_eff q1).after Eff.refl rfl) rfl) rfl (KeySet.any_fam _
        rfl)) (Eff.ite (Eff.flag ((State.takeTask_eff q1).after Eff.refl rfl) rfl (KeySet.any_fam _ rfl)) ((State.takeTask_eff
        q1).after Eff.refl rfl))

theorem execWinStart_eff (w : Nat) (s : State) {t : State} (h : execWinStart w s = .next t) :
    Eff (withSide [.seam]) (sideAnd [.fam (K.winsWinStatus 0) 2]) s t := by
  unfold execWinStart at h
  exact Eff.to (inst_next h).2.symm ((winStart_eff ..).after Eff.refl rfl)

end Sys2Proof.Machine
end

