-- ==== Sys2Proof/Laws/Reflect.lean ====
section
/-! SUPPORT. What each operation of Machine/Reflect.lean may change. -/

-- The proofs of this file are checked one after another, in one thread.
set_option Elab.async false

namespace Sys2Proof.Machine

theorem State.reflRead_eff (n : Nat) (w : Int) (s : State) (i : Nat) :
    Eff (withSide [.umbra]) (sideAnd [.fam (K.portBytesRead 0) 12, .one K.dramLastMapError, .one K.dramMapErrors, .one
        K.dramMemStatus]) s (State.reflRead n w s i) := by
  unfold State.reflRead
  extract_lets +onlyGivenNames v1
  clear_value v1
  refine Eff.ite ?_ ?_
  · exact Eff.refl
  · extract_lets +onlyGivenNames f2
    extract_lets +onlyGivenNames v3
    clear_value v3
    extract_lets +onlyGivenNames v4
    clear_value v4
    extract_lets +onlyGivenNames x5
    clear_value (ex5 : x5 = _)
    refine Eff.have ex5 (Eff.ite ((State.blockRead_eff ..).after Eff.refl rfl) Eff.refl) fun hx5 => ?_
    exact Eff.upd_umb hx5 rfl

end Sys2Proof.Machine
end

