-- ==== Sys2Proof/Laws/Umbra.lean ====
section
/-! SUPPORT. What each operation of Machine/Umbra.lean may change. -/

-- The proofs of this file are checked one after another, in one thread.
set_option Elab.async false

namespace Sys2Proof.Machine

theorem State.umbApply_eff (s : State) (idx : Nat) :
    Eff (withSide [.staged, .domains, .pool]) [.all] s (State.umbApply s idx) := by
  unfold State.umbApply
  exact (State.raise_eff ..).after ((State.applyGroup_eff ..).after Eff.refl rfl) rfl

theorem State.setUmb_eff (s : State) (u : Umb) :
    Eff [.umbra] [] s (State.setUmb s u) := by
  unfold State.setUmb
  exact Eff.upd_umb Eff.refl rfl

theorem State.updCrop_eff (s : State) (num : Nat) (f : Crop → Crop) :
    Eff [.umbra] [] s (State.updCrop s num f) := by
  unfold State.updCrop
  exact (State.setUmb_eff ..).after Eff.refl rfl

theorem State.cmpPush_eff (s : State) (m : Nat) (pos : Int) :
    Eff (withSide [.wheel]) (sideAnd [.fam (K.cmpCmpStatus 0) 16, .fam (K.cmpQueueFill 0) 16]) s (State.cmpPush s m pos) := by
  unfold State.cmpPush
  refine Eff.ite ?_ ?_
  · exact Eff.refl
  · extract_lets +onlyGivenNames v1
    clear_value v1
    refine Eff.ite ?_ ?_
    · exact (State.raise_eff ..).after (Eff.flag Eff.refl rfl (KeySet.any_fam _ rfl)) rfl
    · extract_lets +onlyGivenNames v2
      clear_value v2
      extract_lets +onlyGivenNames x3
      clear_value (ex3 : x3 = _)
      refine Eff.have ex3 ((State.setCmp_eff ..).after Eff.refl rfl) fun hx3 => ?_
      exact Eff.wr hx3 rfl (KeySet.any_fam _ rfl)

theorem State.assemble_eff (s : State) (a1 : Tag) :
    Eff (withSide [.wheel]) (sideAnd [.fam (K.cmpCmpStatus 0) 16, .fam (K.cmpQueueFill 0) 16]) s (State.assemble s a1) := by
  unfold State.assemble
  extract_lets +onlyGivenNames v1
  clear_value v1
  extract_lets +onlyGivenNames x2
  clear_value (ex2 : x2 = _)
  refine Eff.have ex2 (Eff.ite ((State.raise_eff ..).after ((State.cmpPush_eff ..).after Eff.refl rfl) rfl) Eff.refl) fun hx2 =>
      ?_
  exact Eff.ite ((State.raise_eff ..).after ((State.cmpPush_eff ..).after hx2 rfl) rfl) hx2

theorem State.dropCrop_eff (s : State) (num : Nat) :
    Eff [.regs, .umbra] [.one K.cropsCropWriteOffset] s (State.dropCrop s num) := by
  unfold State.dropCrop
  split
  · exact Eff.refl
  · extract_lets +onlyGivenNames v1
    clear_value v1
    extract_lets +onlyGivenNames v2
    clear_value v2
    extract_lets +onlyGivenNames x3
    clear_value (ex3 : x3 = _)
    refine Eff.have ex3 ((State.setUmb_eff ..).after Eff.refl rfl) fun hx3 => ?_
    exact Eff.ite (Eff.wr hx3 rfl rfl) hx3

theorem State.cropClose_eff (s : State) (num : Nat) :
    Eff [.regs, .engines, .umbra] [.one K.zeCropWaiting] s (State.cropClose s num) := by
  unfold State.cropClose
  split
  · exact Eff.refl
  · refine Eff.ite ?_ ?_
    · exact Eff.refl
    · extract_lets +onlyGivenNames v1
      clear_value v1
      extract_lets +onlyGivenNames v2
      clear_value v2
      extract_lets +onlyGivenNames x3
      clear_value (ex3 : x3 = _)
      refine Eff.have ex3 (Eff.wr ((State.updCrop_eff ..).after Eff.refl rfl) rfl rfl) fun hx3 => ?_
      exact Eff.upd_cropJobs hx3 rfl

theorem State.closeCrop_eff (s : State) (c : Comp) (a1 : Tag) (flush : Bool) :
    Eff (withSide [.engines, .umbra]) (sideAnd [.one K.cropsCropWriteOffset, .one K.umbsCropsLost, .one K.umbsStatus, .one
        K.zeCropWaiting]) s (State.closeCrop s c a1 flush).2 := by
  unfold State.closeCrop
  split
  · split
    · exact Eff.pair2 (Eff.flag (Eff.inc Eff.refl rfl rfl) rfl rfl)
    · extract_lets +onlyGivenNames v1
      clear_value v1
      extract_lets +onlyGivenNames x2
      clear_value (ex2 : x2 = _)
      refine Eff.have ex2 ((State.updCrop_eff ..).after Eff.refl rfl) fun hx2 => ?_
      exact Eff.pair2 ((State.cropClose_eff ..).after hx2 rfl)
  · exact Eff.pair2 (by split; exact ((State.dropCrop_eff ..).after Eff.refl rfl); exact Eff.refl)

theorem State.holdFrag_eff (s : State) (f : Frag) :
    Eff (withSide [.umbra]) (sideAnd [.one K.umbsJoinLost, .one K.umbsStatus]) s (State.holdFrag s f) := by
  unfold State.holdFrag
  extract_lets +onlyGivenNames v1
  clear_value v1
  refine Eff.ite ?_ ?_
  · exact Eff.flag (Eff.inc Eff.refl rfl rfl) rfl rfl
  · extract_lets +onlyGivenNames v2
    clear_value v2
    split
    · exact (State.setUmb_eff ..).after Eff.refl rfl
    · exact (State.setUmb_eff ..).after Eff.refl rfl

theorem State.closeFrag_eff (s : State) (num : Nat) (a1 : Tag) (f : Feat) (line : Int) (flush : Bool) :
    Eff (withSide [.umbra]) (sideAnd [.one K.umbsJoinLost, .one K.umbsStatus]) s (State.closeFrag s num a1 f line flush) := by
  unfold State.closeFrag
  extract_lets +onlyGivenNames v1
  clear_value v1
  extract_lets +onlyGivenNames v2
  clear_value v2
  refine Eff.ite ?_ ?_
  · exact Eff.refl
  · extract_lets +onlyGivenNames v3
    clear_value v3
    exact (State.holdFrag_eff ..).after Eff.refl rfl

theorem closeComp_eff (why : Nat) (line : Int) (time : Nat) (t0 : Nat) (s : State) (c : Comp) :
    Eff (withSide [.engines, .umbra]) (sideAnd [.one K.cropsCropWriteOffset, .one K.umbsCropsLost, .one K.umbsJoinLost, .one
        K.umbsPenumbraOnly, .one K.umbsStatus, .one K.zeCropWaiting]) s (closeComp why line time t0 s c) := by
  unfold closeComp
  extract_lets +onlyGivenNames v1
  clear_value v1
  extract_lets +onlyGivenNames x2
  clear_value (ex2 : x2 = _)
  refine Eff.have ex2 ((State.setUmb_eff ..).after Eff.refl rfl) fun hx2 => ?_
  refine Eff.ite ?_ ?_
  · extract_lets +onlyGivenNames x3
    clear_value (ex3 : x3 = _)
    refine Eff.have ex3 (Eff.inc hx2 rfl rfl) fun hx3 => ?_
    split
    · exact (State.dropCrop_eff ..).after hx3 rfl
    · exact hx3
  · extract_lets +onlyGivenNames v4
    clear_value v4
    extract_lets +onlyGivenNames x5
    clear_value (ex5 : x5 = _)
    refine Eff.have (congrArg (fun p => p.2) ex5) ((State.closeCrop_eff ..).after hx2 rfl) fun hx5 => ?_
    extract_lets +onlyGivenNames x6
    clear_value (ex6 : x6 = _)
    refine Eff.have ex6 ((State.closeFrag_eff ..).after hx5 rfl) fun hx6 => ?_
    extract_lets +onlyGivenNames v7
    clear_value v7
    exact (State.setUmb_eff ..).after hx6 rfl

theorem State.closeAll_eff (s : State) (why : Nat) (line : Int) (time : Nat) (t0 : Nat) :
    Eff (withSide [.engines, .umbra]) (sideAnd [.one K.cropsCropWriteOffset, .one K.umbsCropsLost, .one K.umbsJoinLost, .one
        K.umbsPenumbraOnly, .one K.umbsStatus, .one K.zeCropWaiting]) s (State.closeAll s why line time t0) := by
  unfold State.closeAll
  extract_lets +onlyGivenNames x1
  clear_value (ex1 : x1 = _)
  refine Eff.have ex1 (Eff.foldl (fun x2 _ hx2 => ((closeComp_eff ..).after hx2 rfl)) Eff.refl) fun hx1 => ?_
  exact (State.setUmb_eff ..).after hx1 rfl

theorem splitComp_eff (line : Int) (time : Nat) (t0 : Nat) (s : State) (c : Comp) :
    Eff (withSide [.engines, .umbra]) (sideAnd [.one K.cropsCropWriteOffset, .one K.umbsCropsLost, .one K.umbsJoinLost, .one
        K.umbsPenumbraOnly, .one K.umbsStatus, .one K.zeCropWaiting]) s (splitComp line time t0 s c) := by
  unfold splitComp
  extract_lets +onlyGivenNames x1
  clear_value (ex1 : x1 = _)
  refine Eff.have ex1 ((closeComp_eff ..).after Eff.refl rfl) fun hx1 => ?_
  exact (State.setUmb_eff ..).after hx1 rfl

theorem State.closeLine_eff (s : State) (l : ULine) (blind : List (Nat × Nat)) (t0 : Nat) :
    Eff (withSide [.engines, .umbra]) (sideAnd [.one K.cropsCropWriteOffset, .one K.umbsCropsLost, .one K.umbsJoinLost, .one
        K.umbsPenumbraOnly, .one K.umbsStatus, .one K.zeCropWaiting]) s (State.closeLine s l blind t0) := by
  unfold State.closeLine
  extract_lets +onlyGivenNames f1
  extract_lets +onlyGivenNames v2
  clear_value v2
  extract_lets +onlyGivenNames x3
  clear_value (ex3 : x3 = _)
  refine Eff.have ex3 ((State.setUmb_eff ..).after Eff.refl rfl) fun hx3 => ?_
  extract_lets +onlyGivenNames v4
  clear_value v4
  extract_lets +onlyGivenNames x5
  clear_value (ex5 : x5 = _)
  refine Eff.have ex5 (Eff.foldl (fun x6 _ hx6 => (Eff.ite ((closeComp_eff ..).after hx6 rfl) ((splitComp_eff ..).after hx6 rfl)))
      hx3) fun hx5 => ?_
  exact (State.setUmb_eff ..).after hx5 rfl

theorem State.umbRunStart_eff (s : State) :
    Eff [.regs, .umbra] [.one K.umbsWarmup] s (State.umbRunStart s) := by
  unfold State.umbRunStart
  exact Eff.wr ((State.setUmb_eff ..).after Eff.refl rfl) rfl rfl

theorem State.crazeReport_eff (s : State) (a1 : Nat) :
    Eff (withSide [.memory, .slip]) (sideAnd [.fam (K.qsFill 0) 64, .fam (K.qsFillPeak 0) 64, .fam (K.qsItemsIn 0) 64, .fam
        (K.qsNoCreditCount 0) 64, .fam (K.qsQueueStatus 0) 64, .one K.glzMaskRequestsLost, .one K.glzStatus, .one
        K.quesSizeErrors, .one K.umbsCrazeFound, .one K.umbsStatus]) s (State.crazeReport s a1) := by
  unfold State.crazeReport
  extract_lets +onlyGivenNames v1
  clear_value v1
  extract_lets +onlyGivenNames v2
  clear_value v2
  extract_lets +onlyGivenNames v3
  clear_value v3
  extract_lets +onlyGivenNames f4
  extract_lets +onlyGivenNames x5
  clear_value (ex5 : x5 = _)
  refine Eff.have (congrArg (fun p => p.1) ex5)
      (by split; exact Eff.refl; exact (by extract_lets +onlyGivenNames v6; clear_value v6; exact (by extract_lets +onlyGivenNames v7; clear_value v7; exact (by extract_lets +onlyGivenNames v8; clear_value v8; exact (by extract_lets +onlyGivenNames x9; clear_value (ex9 : x9 = _); exact Eff.have ex9 (Eff.ite ((State.askMaskFor_eff ..).after Eff.refl rfl) Eff.refl) fun hx9 => hx9)))))
      fun hx5 => ?_
  exact (State.raise_eff ..).after (Eff.flag (Eff.inc ((State.offerTo_eff ..).after hx5 rfl) rfl rfl) rfl rfl) rfl

theorem State.crazeEnd_eff (s : State) :
    Eff (withSide [.memory, .slip, .umbra]) (sideAnd [.fam (K.qsFill 0) 64, .fam (K.qsFillPeak 0) 64, .fam (K.qsItemsIn 0) 64,
        .fam (K.qsNoCreditCount 0) 64, .fam (K.qsQueueStatus 0) 64, .one K.glzMaskRequestsLost, .one K.glzStatus, .one
        K.quesSizeErrors, .one K.umbsCrazeFound, .one K.umbsStatus]) s (State.crazeEnd s) := by
  unfold State.crazeEnd
  extract_lets +onlyGivenNames v1
  clear_value v1
  extract_lets +onlyGivenNames f2
  extract_lets +onlyGivenNames v3
  clear_value v3
  extract_lets +onlyGivenNames v4
  clear_value v4
  extract_lets +onlyGivenNames x5
  clear_value (ex5 : x5 = _)
  refine Eff.have ex5 (Eff.foldl (fun x6 _ hx6 => ((State.crazeReport_eff ..).after hx6 rfl)) Eff.refl) fun hx5 => ?_
  exact (State.setUmb_eff ..).after hx5 rfl

theorem State.crazeLine_eff (s : State) (js : List Judged) :
    Eff [.umbra] [] s (State.crazeLine s js) := by
  unfold State.crazeLine
  refine Eff.ite ?_ ?_
  · exact Eff.refl
  · extract_lets +onlyGivenNames v1
    clear_value v1
    exact (State.setUmb_eff ..).after Eff.refl rfl

theorem State.crazeWindow_eff (s : State) (j : Int) :
    Eff (withSide [.memory, .slip, .umbra]) (sideAnd [.fam (K.qsFill 0) 64, .fam (K.qsFillPeak 0) 64, .fam (K.qsItemsIn 0) 64,
        .fam (K.qsNoCreditCount 0) 64, .fam (K.qsQueueStatus 0) 64, .one K.glzMaskRequestsLost, .one K.glzStatus, .one
        K.quesSizeErrors, .one K.umbsCrazeFound, .one K.umbsStatus]) s (State.crazeWindow s j) := by
  unfold State.crazeWindow
  extract_lets +onlyGivenNames x1
  clear_value (ex1 : x1 = _)
  refine Eff.have ex1 (Eff.ite ((State.crazeEnd_eff ..).after Eff.refl rfl) Eff.refl) fun hx1 => ?_
  exact Eff.ite ((State.setUmb_eff ..).after hx1 rfl) hx1

theorem State.showOpen_eff (s : State) :
    Eff [.regs] [.one K.umbsOpenComponents, .one K.umbsOpenPeak] s (State.showOpen s) := by
  unfold State.showOpen
  exact Eff.peak (Eff.wr Eff.refl rfl rfl) rfl rfl

theorem State.umbDiscard_eff (s : State) :
    Eff [.regs, .umbra] [.one K.cropsCropWriteOffset, .one K.umbsOpenComponents, .one K.umbsOpenPeak] s (State.umbDiscard s) := by
  unfold State.umbDiscard
  extract_lets +onlyGivenNames x1
  clear_value (ex1 : x1 = _)
  refine Eff.have ex1 (Eff.foldl (fun x2 _ hx2 => (by split; exact ((State.dropCrop_eff ..).after hx2 rfl); exact hx2)) Eff.refl)
      fun hx1 => ?_
  exact (State.showOpen_eff ..).after ((State.setUmb_eff ..).after hx1 rfl) rfl

theorem State.putTag_eff (s : State) (a1 : Tag) :
    Eff (withSide [.memory]) (sideAnd [.fam (K.qsFill 0) 64, .fam (K.qsFillPeak 0) 64, .fam (K.qsItemsIn 0) 64, .fam
        (K.qsNoCreditCount 0) 64, .fam (K.qsQueueStatus 0) 64, .one K.quesSizeErrors, .one K.umbsLastTagId, .one
        K.umbsTagsWritten]) s (State.putTag s a1) := by
  unfold State.putTag
  extract_lets +onlyGivenNames v1
  clear_value v1
  extract_lets +onlyGivenNames x2
  clear_value (ex2 : x2 = _)
  refine Eff.have ex2 ((State.offerTo_eff ..).after Eff.refl rfl) fun hx2 => ?_
  exact (State.raise_eff ..).after (Eff.arrive (Eff.inc (Eff.wr hx2 rfl rfl) rfl rfl) rfl) rfl

theorem State.emitGroup_eff (s : State) (g : Nat) :
    Eff (withSide [.memory, .umbra]) (sideAnd [.fam (K.qsFill 0) 64, .fam (K.qsFillPeak 0) 64, .fam (K.qsItemsIn 0) 64, .fam
        (K.qsNoCreditCount 0) 64, .fam (K.qsQueueStatus 0) 64, .one K.quesSizeErrors, .one K.umbsLastTagId, .one K.umbsSuppressed,
        .one K.umbsTagsWritten]) s (State.emitGroup s g) := by
  unfold State.emitGroup
  extract_lets +onlyGivenNames v1
  clear_value v1
  extract_lets +onlyGivenNames f2
  split
  · extract_lets +onlyGivenNames v3
    clear_value v3
    refine Eff.ite ?_ ?_
    · exact Eff.inc ((State.setUmb_eff ..).after Eff.refl rfl) rfl rfl
    · refine Eff.ite ?_ ?_
      · exact Eff.refl
      · extract_lets +onlyGivenNames v4
        clear_value v4
        exact (State.offerTo_eff ..).after ((State.putTag_eff ..).after ((State.setUmb_eff ..).after Eff.refl rfl) rfl) rfl
  · exact (State.setUmb_eff ..).after Eff.refl rfl

theorem State.umbBoundary_eff (s : State) (j : Int) :
    Eff (withSide [.staged, .domains, .pool]) [.all] s (State.umbBoundary s j) := by
  unfold State.umbBoundary
  exact Eff.foldl (fun x1 _ hx1 => (Eff.ite ((State.umbApply_eff ..).after hx1 rfl) hx1)) Eff.refl

theorem State.refLate_eff (s : State) (l : ULine) :
    Eff sideParts (sideAnd [.one K.umbsRefLate, .one K.umbsStatus]) s (State.refLate s l) := by
  unfold State.refLate
  exact Eff.foldl (fun x1 _ hx1 => (Eff.ite ((State.raise_eff ..).after (Eff.flag (Eff.inc hx1 rfl rfl) rfl rfl) rfl) hx1))
      Eff.refl

theorem State.mergeComps_eff (s : State) (a : Comp) (b : Comp) :
    Eff [.regs, .umbra] [.one K.cropsCropWriteOffset] s (State.mergeComps s a b).2 := by
  unfold State.mergeComps
  extract_lets +onlyGivenNames v1
  clear_value v1
  extract_lets +onlyGivenNames v2
  clear_value v2
  extract_lets +onlyGivenNames x3
  clear_value (ex3 : x3 = _)
  refine Eff.have ex3 ((State.setUmb_eff ..).after Eff.refl rfl) fun hx3 => ?_
  split
  · exact Eff.pair2 ((State.dropCrop_eff ..).after hx3 rfl)
  · exact Eff.pair2 hx3

theorem mergeAll_eff (a1 : Comp) (a2 : List Comp) (s : State) :
    Eff [.regs, .umbra] [.one K.cropsCropWriteOffset] s (mergeAll a1 a2 s).2 := by
  unfold mergeAll
  split
  · exact Eff.pair2 Eff.refl
  · extract_lets +onlyGivenNames x1
    clear_value (ex1 : x1 = _)
    refine Eff.have (congrArg (fun p => p.2) ex1) ((State.mergeComps_eff ..).after Eff.refl rfl) fun hx1 => ?_
    exact (mergeAll_eff ..).after hx1 rfl

theorem State.startCrop_eff (s : State) (a1 : Nat) (line : Int) :
    Eff [.regs, .umbra] [.one K.cropsCropWriteOffset] s (State.startCrop s a1 line).2 := by
  unfold State.startCrop
  split
  · exact Eff.pair2 Eff.refl
  · split
    · exact Eff.pair2 Eff.refl
    · extract_lets +onlyGivenNames v1
      clear_value v1
      extract_lets +onlyGivenNames v2
      clear_value v2
      extract_lets +onlyGivenNames v3
      clear_value v3
      extract_lets +onlyGivenNames v4
      clear_value v4
      extract_lets +onlyGivenNames v5
      clear_value v5
      exact Eff.pair2 ((State.setUmb_eff ..).after (Eff.wr Eff.refl rfl rfl) rfl)

theorem State.joinRun_eff (s : State) (js : List Judged) (line : Int) (c : Comp) (r : Nat × Nat) :
    Eff [.regs, .umbra] [.one K.cropsCropWriteOffset] s (State.joinRun s js line c r) := by
  unfold State.joinRun
  extract_lets +onlyGivenNames v1
  clear_value v1
  extract_lets +onlyGivenNames v2
  clear_value v2
  extract_lets +onlyGivenNames v3
  clear_value v3
  extract_lets +onlyGivenNames v4
  clear_value v4
  extract_lets +onlyGivenNames v5
  clear_value v5
  extract_lets +onlyGivenNames v6
  clear_value v6
  split
  · extract_lets +onlyGivenNames x7
    clear_value (ex7 : x7 = _)
    refine Eff.have (congrArg (fun p => p.2) ex7) ((State.startCrop_eff ..).after Eff.refl rfl) fun hx7 => ?_
    exact (State.setUmb_eff ..).after hx7 rfl
  · exact (State.setUmb_eff ..).after Eff.refl rfl

theorem labelRun_eff (l : ULine) (js : List Judged) (cuts : List Nat) (s : State) (r : Nat × Nat) :
    Eff (withSide [.umbra]) (sideAnd [.one K.cropsCropWriteOffset, .one K.umbsComponentsLost, .one K.umbsStatus]) s (labelRun l js
        cuts s r) := by
  unfold labelRun
  extract_lets +onlyGivenNames v1
  clear_value v1
  extract_lets +onlyGivenNames v2
  clear_value v2
  extract_lets +onlyGivenNames v3
  clear_value v3
  extract_lets +onlyGivenNames v4
  clear_value v4
  extract_lets +onlyGivenNames v5
  clear_value v5
  split
  · extract_lets +onlyGivenNames x6
    clear_value (ex6 : x6 = _)
    refine Eff.have (congrArg (fun p => p.2) ex6) ((mergeAll_eff ..).after Eff.refl rfl) fun hx6 => ?_
    extract_lets +onlyGivenNames v7
    clear_value v7
    extract_lets +onlyGivenNames x8
    clear_value (ex8 : x8 = _)
    refine Eff.have ex8 ((State.setUmb_eff ..).after hx6 rfl) fun hx8 => ?_
    exact (State.joinRun_eff ..).after hx8 rfl
  · split
    · exact (State.raise_eff ..).after (Eff.flag (Eff.inc Eff.refl rfl rfl) rfl rfl) rfl
    · extract_lets +onlyGivenNames v9
      clear_value v9
      extract_lets +onlyGivenNames x10
      clear_value (ex10 : x10 = _)
      refine Eff.have ex10 ((State.setUmb_eff ..).after Eff.refl rfl) fun hx10 => ?_
      extract_lets +onlyGivenNames v11
      clear_value v11
      extract_lets +onlyGivenNames v12
      clear_value v12
      exact (State.joinRun_eff ..).after hx10 rfl

theorem cropLine_eff (l : ULine) (s : State) (num : Nat) :
    Eff (withSide [.mem, .engines, .umbra]) (sideAnd [.fam (K.portBytesWritten 0) 12, .one K.dramLastMapError, .one
        K.dramMapErrors, .one K.dramMemStatus, .one K.zeCropWaiting]) s (cropLine l s num) := by
  unfold cropLine
  split
  · exact Eff.refl
  · refine Eff.ite ?_ ?_
    · exact Eff.refl
    · extract_lets +onlyGivenNames v1
      clear_value v1
      extract_lets +onlyGivenNames x2
      clear_value (ex2 : x2 = _)
      refine Eff.have ex2 ((State.blockWrite_eff ..).after Eff.refl rfl) fun hx2 => ?_
      extract_lets +onlyGivenNames v3
      clear_value v3
      extract_lets +onlyGivenNames v4
      clear_value v4
      extract_lets +onlyGivenNames x5
      clear_value (ex5 : x5 = _)
      refine Eff.have ex5 ((State.updCrop_eff ..).after hx2 rfl) fun hx5 => ?_
      exact (State.cropClose_eff ..).after hx5 rfl

theorem State.umbraLine_eff (s : State) (a1 : Stitched) (late : Nat) :
    Eff (withSide [.staged, .domains, .pool, .mem, .memory, .engines, .slip, .umbra]) [.all] s (State.umbraLine s a1 late) := by
  unfold State.umbraLine
  extract_lets +onlyGivenNames v1
  clear_value v1
  extract_lets +onlyGivenNames x2
  clear_value (ex2 : x2 = _)
  refine Eff.have ex2 ((State.umbBoundary_eff ..).after ((State.crazeWindow_eff ..).after Eff.refl rfl) rfl) fun hx2 => ?_
  extract_lets +onlyGivenNames v3
  clear_value v3
  extract_lets +onlyGivenNames x4
  clear_value (ex4 : x4 = _)
  refine Eff.have ex4 (Eff.ite ((State.closeAll_eff ..).after hx2 rfl) hx2) fun hx4 => ?_
  extract_lets +onlyGivenNames v5
  clear_value v5
  extract_lets +onlyGivenNames x6
  clear_value (ex6 : x6 = _)
  refine Eff.have ex6 ((State.refLate_eff ..).after hx4 rfl) fun hx6 => ?_
  extract_lets +onlyGivenNames x7
  clear_value (ex7 : x7 = _)
  refine Eff.have ex7 (Eff.ite (Eff.foldl (fun x8 _ hx8 => (Eff.ite (Eff.foldl (fun x9 _ hx9 => ((State.reflRead_eff ..).after hx9
      rfl)) hx8) hx8)) hx6) hx4) fun hx7 => ?_
  extract_lets +onlyGivenNames v10
  clear_value v10
  extract_lets +onlyGivenNames v11
  clear_value v11
  extract_lets +onlyGivenNames x12
  clear_value (ex12 : x12 = _)
  refine Eff.have ex12 (Eff.ite (Eff.wr hx7 rfl rfl) hx7) fun hx12 => ?_
  extract_lets +onlyGivenNames v13
  clear_value v13
  extract_lets +onlyGivenNames x14
  clear_value (ex14 : x14 = _)
  refine Eff.have ex14 (Eff.wr hx12 rfl rfl) fun hx14 => ?_
  extract_lets +onlyGivenNames x15
  clear_value (ex15 : x15 = _)
  refine Eff.have ex15 (Eff.ite (Eff.flag hx14 rfl rfl) hx14) fun hx15 => ?_
  extract_lets +onlyGivenNames x16
  clear_value (ex16 : x16 = _)
  refine Eff.have ex16 ((State.crazeLine_eff ..).after hx15 rfl) fun hx16 => ?_
  extract_lets +onlyGivenNames v17
  clear_value v17
  extract_lets +onlyGivenNames v18
  clear_value v18
  extract_lets +onlyGivenNames v19
  clear_value v19
  extract_lets +onlyGivenNames v20
  clear_value v20
  extract_lets +onlyGivenNames x21
  clear_value (ex21 : x21 = _)
  refine Eff.have ex21 (Eff.foldl (fun x22 _ hx22 => ((labelRun_eff ..).after hx22 rfl)) ((State.setUmb_eff ..).after hx16 rfl))
      fun hx21 => ?_
  extract_lets +onlyGivenNames v23
  clear_value v23
  extract_lets +onlyGivenNames x24
  clear_value (ex24 : x24 = _)
  refine Eff.have ex24 ((State.setUmb_eff ..).after hx21 rfl) fun hx24 => ?_
  extract_lets +onlyGivenNames x25
  clear_value (ex25 : x25 = _)
  refine Eff.have ex25 (Eff.foldl (fun x26 _ hx26 => ((cropLine_eff ..).after hx26 rfl)) hx24) fun hx25 => ?_
  exact (State.showOpen_eff ..).after ((State.closeLine_eff ..).after hx25 rfl) rfl

theorem State.peerFragment_eff (s : State) (node : Nat) (r : List Nat) :
    Eff (withSide [.umbra]) (sideAnd [.one K.umbsJoinLost, .one K.umbsStatus]) s (State.peerFragment s node r) := by
  unfold State.peerFragment
  refine Eff.ite ?_ ?_
  · exact Eff.refl
  · extract_lets +onlyGivenNames v1
    clear_value v1
    extract_lets +onlyGivenNames v2
    clear_value v2
    extract_lets +onlyGivenNames v3
    clear_value v3
    extract_lets +onlyGivenNames f4
    extract_lets +onlyGivenNames v5
    clear_value v5
    extract_lets +onlyGivenNames v6
    clear_value v6
    exact (State.holdFrag_eff ..).after Eff.refl rfl

theorem State.tagLinks_eff (s : State) (c : Closed) (a1 : Tag) (id : Nat) :
    Eff [.umbra] [] s (State.tagLinks s c a1 id) := by
  unfold State.tagLinks
  extract_lets +onlyGivenNames f1
  extract_lets +onlyGivenNames v2
  clear_value v2
  extract_lets +onlyGivenNames x3
  clear_value (ex3 : x3 = _)
  refine Eff.have ex3 ((State.setUmb_eff ..).after Eff.refl rfl) fun hx3 => ?_
  extract_lets +onlyGivenNames x4
  clear_value (ex4 : x4 = _)
  refine Eff.have ex4 (by split; exact ((State.updCrop_eff ..).after hx3 rfl); exact hx3) fun hx4 => ?_
  exact Eff.ite ((State.setUmb_eff ..).after hx4 rfl) hx4

theorem State.sendTag_eff (s : State) (c : Closed) (a1 : Tag) :
    Eff (withSide [.memory, .seam, .umbra]) (sideAnd [.fam (K.qsFill 0) 64, .fam (K.qsFillPeak 0) 64, .fam (K.qsItemsIn 0) 64,
        .fam (K.qsNoCreditCount 0) 64, .fam (K.qsQueueStatus 0) 64, .fam (K.viewsOverlayDropped 0) 8, .fam (K.viewsViewStatus 0)
        8, .one K.quesSizeErrors, .one K.umbsLastTagId, .one K.umbsTagsWritten]) s (State.sendTag s c a1) := by
  unfold State.sendTag
  extract_lets +onlyGivenNames v1
  clear_value v1
  extract_lets +onlyGivenNames x2
  clear_value (ex2 : x2 = _)
  refine Eff.have ex2 (Eff.foldl (fun x3 _ hx3 => ((State.viewTag_eff ..).after hx3 rfl)) ((State.putTag_eff ..).after Eff.refl
      rfl)) fun hx2 => ?_
  exact (State.tagLinks_eff ..).after hx2 rfl

theorem State.umbFlush_eff (s : State) :
    Eff (withSide [.engines, .umbra]) (sideAnd [.one K.cropsCropWriteOffset, .one K.umbsCropsLost, .one K.umbsJoinLost, .one
        K.umbsOpenComponents, .one K.umbsOpenPeak, .one K.umbsPenumbraOnly, .one K.umbsStatus, .one K.zeCropWaiting]) s
        (State.umbFlush s) := by
  unfold State.umbFlush
  extract_lets +onlyGivenNames x1
  clear_value (ex1 : x1 = _)
  refine Eff.have ex1 ((State.closeAll_eff ..).after Eff.refl rfl) fun hx1 => ?_
  extract_lets +onlyGivenNames v2
  clear_value v2
  extract_lets +onlyGivenNames x3
  clear_value (ex3 : x3 = _)
  refine Eff.have ex3 ((State.setUmb_eff ..).after hx1 rfl) fun hx3 => ?_
  extract_lets +onlyGivenNames x4
  clear_value (ex4 : x4 = _)
  refine Eff.have ex4 (Eff.foldl (fun x5 _ hx5 => ((State.cropClose_eff ..).after ((State.updCrop_eff ..).after hx5 rfl) rfl))
      hx3) fun hx4 => ?_
  exact (State.showOpen_eff ..).after hx4 rfl

theorem State.writeTag_eff (s : State) (c : Closed) :
    Eff (withSide [.memory, .seam, .umbra]) (sideAnd [.fam (K.qsFill 0) 64, .fam (K.qsFillPeak 0) 64, .fam (K.qsItemsIn 0) 64,
        .fam (K.qsNoCreditCount 0) 64, .fam (K.qsQueueStatus 0) 64, .fam (K.viewsOverlayDropped 0) 8, .fam (K.viewsViewStatus 0)
        8, .one K.quesSizeErrors, .one K.umbsLastTagId, .one K.umbsLateTags, .one K.umbsStatus, .one K.umbsSuppressed, .one
        K.umbsTagsWritten]) s (State.writeTag s c) := by
  unfold State.writeTag
  extract_lets +onlyGivenNames v1
  clear_value v1
  extract_lets +onlyGivenNames v2
  clear_value v2
  extract_lets +onlyGivenNames v3
  clear_value v3
  extract_lets +onlyGivenNames v4
  clear_value v4
  extract_lets +onlyGivenNames x5
  clear_value (ex5 : x5 = _)
  refine Eff.have ex5 ((State.setUmb_eff ..).after Eff.refl rfl) fun hx5 => ?_
  exact Eff.ite (Eff.inc hx5 rfl rfl) ((State.sendTag_eff ..).after (Eff.ite (Eff.flag (Eff.inc hx5 rfl rfl) rfl rfl) hx5) rfl)

theorem assembleDue_eff (till : Nat) (a1 : List Closed) (s : State) :
    Eff (withSide [.clock, .wheel, .umbra]) (sideAnd [.fam (K.cmpCmpStatus 0) 16, .fam (K.cmpQueueFill 0) 16]) s (assembleDue till
        a1 s) := by
  unfold assembleDue
  split
  · exact Eff.refl
  · extract_lets +onlyGivenNames v1
    clear_value v1
    refine Eff.ite ?_ ?_
    · exact (assembleDue_eff ..).after Eff.refl rfl
    · extract_lets +onlyGivenNames x2
      clear_value (ex2 : x2 = _)
      refine Eff.have ex2 ((State.assemble_eff ..).after ((State.at_eff ..).after Eff.refl rfl) rfl) fun hx2 => ?_
      exact (assembleDue_eff ..).after ((State.setUmb_eff ..).after hx2 rfl) rfl

theorem crazeWindowEnd_eff (s : State) :
    Eff (withSide [.memory, .slip, .umbra]) (sideAnd [.fam (K.qsFill 0) 64, .fam (K.qsFillPeak 0) 64, .fam (K.qsItemsIn 0) 64,
        .fam (K.qsNoCreditCount 0) 64, .fam (K.qsQueueStatus 0) 64, .one K.glzMaskRequestsLost, .one K.glzStatus, .one
        K.quesSizeErrors, .one K.umbsCrazeFound, .one K.umbsStatus]) s (crazeWindowEnd s) := by
  unfold crazeWindowEnd
  split
  · exact Eff.refl
  · exact Eff.ite ((State.crazeWindow_eff ..).after Eff.refl rfl) Eff.refl

theorem cropDone_eff (s : State) :
    Eff (withSide [.mem, .memory, .umbra]) (sideAnd [.fam (K.portBytesWritten 0) 12, .fam (K.qsFill 0) 64, .fam (K.qsFillPeak 0)
        64, .fam (K.qsItemsIn 0) 64, .fam (K.qsNoCreditCount 0) 64, .fam (K.qsQueueStatus 0) 64, .one K.dramLastMapError, .one
        K.dramMapErrors, .one K.dramMemStatus, .one K.quesSizeErrors]) s (cropDone s) := by
  unfold cropDone
  split
  · exact Eff.refl
  · extract_lets +onlyGivenNames v1
    clear_value v1
    extract_lets +onlyGivenNames v2
    clear_value v2
    extract_lets +onlyGivenNames v3
    clear_value v3
    extract_lets +onlyGivenNames v4
    clear_value v4
    extract_lets +onlyGivenNames x5
    clear_value (ex5 : x5 = _)
    refine Eff.have ex5 ((State.setUmb_eff ..).after Eff.refl rfl) fun hx5 => ?_
    extract_lets +onlyGivenNames x6
    clear_value (ex6 : x6 = _)
    refine Eff.have ex6 ((State.blockWrite_eff ..).after hx5 rfl) fun hx6 => ?_
    exact (State.raise_eff ..).after (Eff.arrive ((State.offerTo_eff ..).after hx6 rfl) rfl) rfl

theorem execCrazeWindowEnd_eff (s : State) {t : State} (h : execCrazeWindowEnd s = .next t) :
    Eff (withSide [.memory, .slip, .umbra]) (sideAnd [.fam (K.qsFill 0) 64, .fam (K.qsFillPeak 0) 64, .fam (K.qsItemsIn 0) 64,
        .fam (K.qsNoCreditCount 0) 64, .fam (K.qsQueueStatus 0) 64, .one K.glzMaskRequestsLost, .one K.glzStatus, .one
        K.quesSizeErrors, .one K.umbsCrazeFound, .one K.umbsStatus]) s t := by
  unfold execCrazeWindowEnd at h
  cases h
  exact (crazeWindowEnd_eff ..).after Eff.refl rfl

theorem execCropDone_eff (s : State) {t : State} (h : execCropDone s = .next t) :
    Eff (withSide [.mem, .memory, .umbra]) (sideAnd [.fam (K.portBytesWritten 0) 12, .fam (K.qsFill 0) 64, .fam (K.qsFillPeak 0)
        64, .fam (K.qsItemsIn 0) 64, .fam (K.qsNoCreditCount 0) 64, .fam (K.qsQueueStatus 0) 64, .one K.dramLastMapError, .one
        K.dramMapErrors, .one K.dramMemStatus, .one K.quesSizeErrors]) s t := by
  unfold execCropDone at h
  cases h
  exact (cropDone_eff ..).after Eff.refl rfl

theorem joinHoldEnd_eff (s : State) :
    Eff (withSide [.clock, .memory, .umbra]) (sideAnd [.fam (K.qsFill 0) 64, .fam (K.qsFillPeak 0) 64, .fam (K.qsItemsIn 0) 64,
        .fam (K.qsNoCreditCount 0) 64, .fam (K.qsQueueStatus 0) 64, .one K.quesSizeErrors, .one K.umbsLastTagId, .one
        K.umbsSuppressed, .one K.umbsTagsWritten]) s (joinHoldEnd s) := by
  unfold joinHoldEnd
  extract_lets +onlyGivenNames v1
  clear_value v1
  extract_lets +onlyGivenNames f2
  split
  · exact Eff.refl
  · exact (State.emitGroup_eff ..).after ((State.at_eff ..).after Eff.refl rfl) rfl

theorem execJoinHoldEnd_eff (s : State) {t : State} (h : execJoinHoldEnd s = .next t) :
    Eff (withSide [.clock, .memory, .umbra]) (sideAnd [.fam (K.qsFill 0) 64, .fam (K.qsFillPeak 0) 64, .fam (K.qsItemsIn 0) 64,
        .fam (K.qsNoCreditCount 0) 64, .fam (K.qsQueueStatus 0) 64, .one K.quesSizeErrors, .one K.umbsLastTagId, .one
        K.umbsSuppressed, .one K.umbsTagsWritten]) s t := by
  unfold execJoinHoldEnd at h
  cases h
  exact (joinHoldEnd_eff ..).after Eff.refl rfl

theorem tagWrite_eff (s : State) :
    Eff (withSide [.clock, .memory, .wheel, .seam, .umbra]) (sideAnd [.fam (K.cmpCmpStatus 0) 16, .fam (K.cmpQueueFill 0) 16, .fam
        (K.qsFill 0) 64, .fam (K.qsFillPeak 0) 64, .fam (K.qsItemsIn 0) 64, .fam (K.qsNoCreditCount 0) 64, .fam (K.qsQueueStatus
        0) 64, .fam (K.viewsOverlayDropped 0) 8, .fam (K.viewsViewStatus 0) 8, .one K.quesSizeErrors, .one K.umbsLastTagId, .one
        K.umbsLateTags, .one K.umbsStatus, .one K.umbsSuppressed, .one K.umbsTagsWritten]) s (tagWrite s) := by
  unfold tagWrite
  split
  · exact Eff.refl
  · extract_lets +onlyGivenNames v1
    clear_value v1
    extract_lets +onlyGivenNames x2
    clear_value (ex2 : x2 = _)
    refine Eff.have ex2 ((State.at_eff ..).after ((assembleDue_eff ..).after Eff.refl rfl) rfl) fun hx2 => ?_
    exact Eff.ite ((State.writeTag_eff ..).after hx2 rfl) hx2

end Sys2Proof.Machine
end

