-- ==== Sys2Proof/Laws/Compress.lean ====
section
/-! SUPPORT. What each operation of Machine/Compress.lean may change. -/

-- The proofs of this file are checked one after another, in one thread.
set_option Elab.async false

namespace Sys2Proof.Machine

theorem State.zeRingApply_eff (s : State) (e : Nat) :
    Eff [.regs, .engines] [.fam (K.zesJobHead 0) 6, .fam (K.zesJobTail 0) 6] s (State.zeRingApply s e) := by
  unfold State.zeRingApply
  exact (State.setZe_eff ..).after (Eff.wr (Eff.wr Eff.refl rfl (KeySet.any_fam _ rfl)) rfl (KeySet.any_fam _ rfl)) rfl

theorem State.ringDone_eff (s : State) (e : Nat) (j : ZeJob) (st : Nat) (crc : Nat) (out : Nat) :
    Eff (withSide [.mem]) (sideAnd [.fam (K.portBytesWritten 0) 12, .fam (K.zesJobHead 0) 6, .one K.dramLastMapError, .one
        K.dramMapErrors, .one K.dramMemStatus]) s (State.ringDone s e j st crc out) := by
  unfold State.ringDone
  extract_lets +onlyGivenNames x1
  clear_value (ex1 : x1 = _)
  refine Eff.have ex1 ((State.blockWrite_eff ..).after Eff.refl rfl) fun hx1 => ?_
  extract_lets +onlyGivenNames x2
  clear_value (ex2 : x2 = _)
  refine Eff.have ex2 (Eff.inc hx1 rfl (KeySet.any_fam _ rfl)) fun hx2 => ?_
  exact Eff.ite ((State.raise_eff ..).after (Eff.arrive hx2 rfl) rfl) hx2

theorem State.cropJobDone_eff (s : State) (j : ZeJob) (st : Nat) (out : Nat) :
    Eff [.umbra] [] s (State.cropJobDone s j st out) := by
  unfold State.cropJobDone
  exact (State.updCrop_eff ..).after Eff.refl rfl

theorem State.jobEnds_eff (s : State) (e : Nat) (j : ZeJob) (st : Nat) (crc : Nat) (out : Nat) (data : List Nat) :
    Eff (withSide [.mem, .engines, .slip, .umbra]) (sideAnd [.fam (K.portBytesWritten 0) 12, .fam (K.zesBytesIn 0) 6, .fam
        (K.zesBytesOut 0) 6, .fam (K.zesEngineState 0) 6, .fam (K.zesEngineStatus 0) 6, .fam (K.zesErrorCount 0) 6, .fam
        (K.zesJobHead 0) 6, .fam (K.zesJobsDone 0) 6, .fam (K.zesLastStatus 0) 6, .fam (K.zesVerifyFails 0) 6, .one
        K.dramLastMapError, .one K.dramMapErrors, .one K.dramMemStatus, .one K.slipStatus]) s (State.jobEnds s e j st crc out
        data) := by
  unfold State.jobEnds
  extract_lets +onlyGivenNames x1
  clear_value (ex1 : x1 = _)
  refine Eff.have ex1 (Eff.ite ((State.ringDone_eff ..).after Eff.refl rfl) (Eff.ite ((State.segmentDone_eff ..).after Eff.refl
      rfl) ((State.cropJobDone_eff ..).after Eff.refl rfl))) fun hx1 => ?_
  exact (State.zeFinish_eff ..).after hx1 rfl

theorem State.zeReserve_eff (s : State) (mask : Nat) :
    Eff (withSide [.mem, .engines, .slip, .umbra]) (sideAnd [.fam (K.portBytesWritten 0) 12, .fam (K.zesBytesIn 0) 6, .fam
        (K.zesBytesOut 0) 6, .fam (K.zesEngineState 0) 6, .fam (K.zesEngineStatus 0) 6, .fam (K.zesErrorCount 0) 6, .fam
        (K.zesJobHead 0) 6, .fam (K.zesJobsDone 0) 6, .fam (K.zesLastStatus 0) 6, .fam (K.zesVerifyFails 0) 6, .one
        K.dramLastMapError, .one K.dramMapErrors, .one K.dramMemStatus, .one K.slipStatus, .one K.zeReserved]) s (State.zeReserve
        s mask) := by
  unfold State.zeReserve
  extract_lets +onlyGivenNames x1
  clear_value (ex1 : x1 = _)
  refine Eff.have ex1 (Eff.wr Eff.refl rfl rfl) fun hx1 => ?_
  exact Eff.foldl (fun x2 _ hx2 =>
      (by split; exact (Eff.ite ((State.jobEnds_eff ..).after hx2 rfl) ((State.zeShow_eff ..).after hx2 rfl)); exact ((State.zeShow_eff ..).after hx2 rfl)))
      hx1

theorem State.zeRelease_eff (s : State) :
    Eff [.regs] [.fam (K.zesEngineState 0) 6, .one K.zeReserved] s (State.zeRelease s) := by
  unfold State.zeRelease
  exact Eff.foldl (fun x1 _ hx1 => ((State.zeShow_eff ..).after hx1 rfl)) (Eff.wr Eff.refl rfl rfl)

theorem State.putOut_eff (s : State) (j : ZeJob) (out : List Nat) :
    Eff (withSide [.mem]) (sideAnd [.fam (K.portBytesWritten 0) 12, .one K.dramLastMapError, .one K.dramMapErrors, .one
        K.dramMemStatus]) s (State.putOut s j out).2.2 := by
  unfold State.putOut
  extract_lets +onlyGivenNames v1
  clear_value v1
  extract_lets +onlyGivenNames x2
  clear_value (ex2 : x2 = _)
  refine Eff.have ex2 (Eff.ite Eff.refl ((State.blockWrite_eff ..).after Eff.refl rfl)) fun hx2 => ?_
  split
  · exact Eff.pair22 (Eff.pair2 hx2)
  · exact Eff.pair22 (Eff.pair2 ((State.mapError_eff ..).after hx2 rfl))

theorem State.jobAborts_eff (s : State) (e : Nat) (j : ZeJob) :
    Eff (withSide [.free, .mem, .engines, .slip, .umbra]) (sideAnd [.fam (K.portBytesWritten 0) 12, .fam (K.zesBytesIn 0) 6, .fam
        (K.zesBytesOut 0) 6, .fam (K.zesEngineState 0) 6, .fam (K.zesEngineStatus 0) 6, .fam (K.zesErrorCount 0) 6, .fam
        (K.zesJobHead 0) 6, .fam (K.zesJobsDone 0) 6, .fam (K.zesLastStatus 0) 6, .fam (K.zesVerifyFails 0) 6, .one
        K.dramLastMapError, .one K.dramMapErrors, .one K.dramMemStatus, .one K.slipStatus]) s (State.jobAborts s e j) := by
  unfold State.jobAborts
  refine Eff.ite ?_ ?_
  · exact (State.jobEnds_eff ..).after Eff.refl rfl
  · extract_lets +onlyGivenNames v1
    clear_value v1
    extract_lets +onlyGivenNames v2
    clear_value v2
    generalize eg12 : State.fresh _ = g12
    obtain ⟨p3, p4⟩ := g12
    refine Eff.have (congrArg (fun p => p.2) eg12).symm ((State.fresh_eff ..).after Eff.refl rfl) fun hp4 => ?_
    (try dsimp -zeta -proj only)
    generalize eg11 : State.putOut _ _ _ = g11
    obtain ⟨p5, p6, p7⟩ := g11
    refine Eff.have (congrArg (fun p => p.2.2) eg11).symm ((State.putOut_eff ..).after hp4 rfl) fun hp7 => ?_
    generalize eg10 : State.fresh _ = g10
    obtain ⟨p8, p9⟩ := g10
    refine Eff.have (congrArg (fun p => p.2) eg10).symm ((State.fresh_eff ..).after hp7 rfl) fun hp9 => ?_
    exact (State.jobEnds_eff ..).after hp9 rfl

theorem State.zeHalt_eff (s : State) :
    Eff (withSide [.free, .mem, .engines, .slip, .umbra]) (sideAnd [.fam (K.portBytesWritten 0) 12, .fam (K.zesBytesIn 0) 6, .fam
        (K.zesBytesOut 0) 6, .fam (K.zesEngineState 0) 6, .fam (K.zesEngineStatus 0) 6, .fam (K.zesErrorCount 0) 6, .fam
        (K.zesJobHead 0) 6, .fam (K.zesJobsDone 0) 6, .fam (K.zesLastStatus 0) 6, .fam (K.zesVerifyFails 0) 6, .one
        K.dramLastMapError, .one K.dramMapErrors, .one K.dramMemStatus, .one K.slipStatus, .one K.zeCropWaiting]) s (State.zeHalt
        s) := by
  unfold State.zeHalt
  extract_lets +onlyGivenNames x1
  clear_value (ex1 : x1 = _)
  refine Eff.have ex1 (Eff.foldl (fun x2 _ hx2 => (by split; exact ((State.jobAborts_eff ..).after hx2 rfl); exact hx2)) Eff.refl)
      fun hx1 => ?_
  extract_lets +onlyGivenNames x3
  clear_value (ex3 : x3 = _)
  refine Eff.have ex3 (Eff.wr (Eff.foldl (fun x4 _ hx4 => ((State.cropJobDone_eff ..).after hx4 rfl)) hx1) rfl rfl) fun hx3 => ?_
  exact Eff.upd_cropJobs hx3 rfl

theorem State.scratch_eff (s : State) (j : ZeJob) (room : Nat) :
    Eff (withSide [.free, .mem]) (sideAnd [.fam (K.portBytesWritten 0) 12, .one K.dramLastMapError, .one K.dramMapErrors, .one
        K.dramMemStatus]) s (State.scratch s j room) := by
  unfold State.scratch
  generalize eg3 : State.fresh _ = g3
  obtain ⟨p1, p2⟩ := g3
  refine Eff.have (congrArg (fun p => p.2) eg3).symm ((State.fresh_eff ..).after Eff.refl rfl) fun hp2 => ?_
  (try dsimp -zeta -proj only)
  exact (State.blockWrite_eff ..).after hp2 rfl

theorem State.takeCrop_eff (s : State) (e : Nat) (j : ZeJob) (l : List ZeJob) :
    Eff [.regs, .engines] [.fam (K.zesEngineState 0) 6, .one K.zeCropWaiting] s (State.takeCrop s e j l) := by
  unfold State.takeCrop
  extract_lets +onlyGivenNames x1
  clear_value (ex1 : x1 = _)
  refine Eff.have ex1 (Eff.wr ((State.zeTake_eff ..).after Eff.refl rfl) rfl rfl) fun hx1 => ?_
  exact Eff.upd_cropJobs hx1 rfl

theorem State.takeRing_eff (s : State) (e : Nat) :
    Eff (withSide [.mem, .engines, .slip, .umbra]) (sideAnd [.fam (K.portBytesRead 0) 12, .fam (K.portBytesWritten 0) 12, .fam
        (K.zesBytesIn 0) 6, .fam (K.zesBytesOut 0) 6, .fam (K.zesEngineState 0) 6, .fam (K.zesEngineStatus 0) 6, .fam
        (K.zesErrorCount 0) 6, .fam (K.zesJobHead 0) 6, .fam (K.zesJobsDone 0) 6, .fam (K.zesLastStatus 0) 6, .fam
        (K.zesVerifyFails 0) 6, .one K.dramLastMapError, .one K.dramMapErrors, .one K.dramMemStatus, .one K.slipStatus]) s
        (State.takeRing s e) := by
  unfold State.takeRing
  generalize eg5 : State.blockRead _ _ _ _ = g5
  obtain ⟨p1, p2⟩ := g5
  refine Eff.have (congrArg (fun p => p.2) eg5).symm ((State.blockRead_eff ..).after Eff.refl rfl) fun hp2 => ?_
  (try dsimp -zeta -proj only)
  extract_lets +onlyGivenNames v3
  clear_value v3
  refine Eff.ite ?_ ?_
  · exact (State.setZe_eff ..).after hp2 rfl
  · split
    · exact (State.zeTake_eff ..).after hp2 rfl
    · extract_lets +onlyGivenNames x4
      clear_value (ex4 : x4 = _)
      refine Eff.have ex4 (Eff.ite ((State.mapError_eff ..).after hp2 rfl) hp2) fun hx4 => ?_
      exact (State.jobEnds_eff ..).after ((State.zeTake_eff ..).after hx4 rfl) rfl

theorem jobTailWrite_eff (a : Acc) (e : Nat) (s : State) :
    Eff (withSide [.engines]) [.all] s (jobTailWrite a e s) := by
  unfold jobTailWrite
  extract_lets +onlyGivenNames v1
  clear_value v1
  extract_lets +onlyGivenNames v2
  clear_value v2
  exact Eff.act Eff.refl (fun y3 hy3 => ((State.setZe_eff ..).after (Eff.wr hy3 rfl (KeySet.any_all rfl)) rfl)) rfl

theorem execJobTail_eff (a : Acc) (e : Nat) (s : State) {t : State} (h : execJobTail a e s = .next t) :
    Eff (withSide [.engines]) [.all] s t := by
  unfold execJobTail at h
  exact Eff.to (inst_next h).2.symm ((jobTailWrite_eff ..).after Eff.refl rfl)

theorem zeAbortWrite_eff (a : Acc) (e : Nat) (s : State) :
    Eff (withSide [.free, .mem, .engines, .slip, .umbra]) (accAnd [.fam (K.portBytesWritten 0) 12, .fam (K.zesBytesIn 0) 6, .fam
        (K.zesBytesOut 0) 6, .fam (K.zesEngineState 0) 6, .fam (K.zesEngineStatus 0) 6, .fam (K.zesErrorCount 0) 6, .fam
        (K.zesJobHead 0) 6, .fam (K.zesJobsDone 0) 6, .fam (K.zesLastStatus 0) 6, .fam (K.zesVerifyFails 0) 6, .one
        K.dramLastMapError, .one K.dramMapErrors, .one K.dramMemStatus, .one K.slipStatus]) s (zeAbortWrite a e s) := by
  unfold zeAbortWrite
  exact Eff.act Eff.refl (fun y1 hy1 => (by split; exact (Eff.ite ((State.jobAborts_eff ..).after hy1 rfl) hy1); exact hy1)) rfl

theorem execZeAbort_eff (a : Acc) (e : Nat) (s : State) {t : State} (h : execZeAbort a e s = .next t) :
    Eff (withSide [.free, .mem, .engines, .slip, .umbra]) (accAnd [.fam (K.portBytesWritten 0) 12, .fam (K.zesBytesIn 0) 6, .fam
        (K.zesBytesOut 0) 6, .fam (K.zesEngineState 0) 6, .fam (K.zesEngineStatus 0) 6, .fam (K.zesErrorCount 0) 6, .fam
        (K.zesJobHead 0) 6, .fam (K.zesJobsDone 0) 6, .fam (K.zesLastStatus 0) 6, .fam (K.zesVerifyFails 0) 6, .one
        K.dramLastMapError, .one K.dramMapErrors, .one K.dramMemStatus, .one K.slipStatus]) s t := by
  unfold execZeAbort at h
  exact Eff.to (inst_next h).2.symm ((zeAbortWrite_eff ..).after Eff.refl rfl)

theorem zeJobDone_eff (e : Nat) (s : State) :
    Eff (withSide [.free, .mem, .engines, .slip, .umbra]) (sideAnd [.fam (K.portBytesRead 0) 12, .fam (K.portBytesWritten 0) 12,
        .fam (K.zesBytesIn 0) 6, .fam (K.zesBytesOut 0) 6, .fam (K.zesEngineState 0) 6, .fam (K.zesEngineStatus 0) 6, .fam
        (K.zesErrorCount 0) 6, .fam (K.zesJobHead 0) 6, .fam (K.zesJobsDone 0) 6, .fam (K.zesLastStatus 0) 6, .fam
        (K.zesVerifyFails 0) 6, .one K.dramLastMapError, .one K.dramMapErrors, .one K.dramMemStatus, .one K.slipStatus]) s
        (zeJobDone e s) := by
  unfold zeJobDone
  split
  · exact Eff.refl
  · refine Eff.ite ?_ ?_
    · exact Eff.refl
    · extract_lets +onlyGivenNames x1
      clear_value (ex1 : x1 = _)
      refine Eff.have (congrArg (fun p => p.2) ex1)
          (by split; exact (Eff.pair2 Eff.refl); exact ((State.blockRead_eff ..).after Eff.refl rfl)) fun hx1 => ?_
      extract_lets +onlyGivenNames x2
      clear_value (ex2 : x2 = _)
      refine Eff.have ex2 hx1 fun hx2 => ?_
      extract_lets +onlyGivenNames v3
      split
      · refine Eff.ite ?_ ?_
        · exact (State.jobEnds_eff ..).after hx2 rfl
        · refine Eff.ite ?_ ?_
          · exact (State.jobEnds_eff ..).after hx2 rfl
          · refine Eff.ite ?_ ?_
            · exact (State.jobEnds_eff ..).after hx2 rfl
            · refine Eff.ite ?_ ?_
              · extract_lets +onlyGivenNames x4
                clear_value (ex4 : x4 = _)
                refine Eff.have ex4 (Eff.ite hx2 ((State.scratch_eff ..).after hx2 rfl)) fun hx4 => ?_
                exact (State.jobEnds_eff ..).after hx4 rfl
              · generalize eg8 : State.putOut _ _ _ = g8
                obtain ⟨p5, p6, p7⟩ := g8
                refine Eff.have (congrArg (fun p => p.2.2) eg8).symm ((State.putOut_eff ..).after hx2 rfl) fun hp7 => ?_
                (try dsimp -zeta -proj only)
                exact (State.jobEnds_eff ..).after hp7 rfl

theorem execZeJobDone_eff (e : Nat) (s : State) {t : State} (h : execZeJobDone e s = .next t) :
    Eff (withSide [.free, .mem, .engines, .slip, .umbra]) (sideAnd [.fam (K.portBytesRead 0) 12, .fam (K.portBytesWritten 0) 12,
        .fam (K.zesBytesIn 0) 6, .fam (K.zesBytesOut 0) 6, .fam (K.zesEngineState 0) 6, .fam (K.zesEngineStatus 0) 6, .fam
        (K.zesErrorCount 0) 6, .fam (K.zesJobHead 0) 6, .fam (K.zesJobsDone 0) 6, .fam (K.zesLastStatus 0) 6, .fam
        (K.zesVerifyFails 0) 6, .one K.dramLastMapError, .one K.dramMapErrors, .one K.dramMemStatus, .one K.slipStatus]) s t := by
  unfold execZeJobDone at h
  exact Eff.to (inst_next h).2.symm ((zeJobDone_eff ..).after Eff.refl rfl)

theorem zeJobStart_eff (e : Nat) (s : State) :
    Eff (withSide [.mem, .engines, .slip, .umbra]) (sideAnd [.fam (K.barsQueueFill 0) 16, .fam (K.portBytesRead 0) 12, .fam
        (K.portBytesWritten 0) 12, .fam (K.zesBytesIn 0) 6, .fam (K.zesBytesOut 0) 6, .fam (K.zesEngineState 0) 6, .fam
        (K.zesEngineStatus 0) 6, .fam (K.zesErrorCount 0) 6, .fam (K.zesJobHead 0) 6, .fam (K.zesJobsDone 0) 6, .fam
        (K.zesLastStatus 0) 6, .fam (K.zesVerifyFails 0) 6, .one K.dramLastMapError, .one K.dramMapErrors, .one K.dramMemStatus,
        .one K.slipStatus, .one K.zeCropWaiting]) s (zeJobStart e s) := by
  unfold zeJobStart
  refine Eff.ite ?_ ?_
  · exact Eff.refl
  · refine Eff.ite ?_ ?_
    · exact (segmentFetch_eff ..).after Eff.refl rfl
    · extract_lets +onlyGivenNames v1
      clear_value v1
      split
      · exact (State.takeCrop_eff ..).after Eff.refl rfl
      · exact Eff.ite Eff.refl ((State.takeRing_eff ..).after Eff.refl rfl)

theorem execZeJobStart_eff (e : Nat) (s : State) {t : State} (h : execZeJobStart e s = .next t) :
    Eff (withSide [.mem, .engines, .slip, .umbra]) (sideAnd [.fam (K.barsQueueFill 0) 16, .fam (K.portBytesRead 0) 12, .fam
        (K.portBytesWritten 0) 12, .fam (K.zesBytesIn 0) 6, .fam (K.zesBytesOut 0) 6, .fam (K.zesEngineState 0) 6, .fam
        (K.zesEngineStatus 0) 6, .fam (K.zesErrorCount 0) 6, .fam (K.zesJobHead 0) 6, .fam (K.zesJobsDone 0) 6, .fam
        (K.zesLastStatus 0) 6, .fam (K.zesVerifyFails 0) 6, .one K.dramLastMapError, .one K.dramMapErrors, .one K.dramMemStatus,
        .one K.slipStatus, .one K.zeCropWaiting]) s t := by
  unfold execZeJobStart at h
  exact Eff.to (inst_next h).2.symm ((zeJobStart_eff ..).after Eff.refl rfl)

end Sys2Proof.Machine
end

