-- ==== Sys2Proof/Laws/Memory.lean ====
section
/-! SUPPORT. What each operation of Machine/Memory.lean may change. -/

-- The proofs of this file are checked one after another, in one thread.
set_option Elab.async false

namespace Sys2Proof.Machine

theorem State.setDramCh_eff (s : State) (c : Nat) (a1 : DramCh) :
    Eff [.memory] [] s (State.setDramCh s c a1) := by
  unfold State.setDramCh
  exact Eff.upd_drams Eff.refl rfl

theorem State.dramPerform_eff (s : State) (r : DramReq) :
    Eff (withSide [.reads, .mem]) (sideAnd [.fam (K.portBytesRead 0) 12, .fam (K.portBytesWritten 0) 12, .one K.dramLastMapError,
        .one K.dramMapErrors, .one K.dramMemStatus]) s (State.dramPerform s r) := by
  unfold State.dramPerform
  refine Eff.ite ?_ ?_
  · exact (State.blockWrite_eff ..).after Eff.refl rfl
  · generalize eg3 : State.blockRead _ _ _ _ = g3
    obtain ⟨p1, p2⟩ := g3
    refine Eff.have (congrArg (fun p => p.2) eg3).symm ((State.blockRead_eff ..).after Eff.refl rfl) fun hp2 => ?_
    (try dsimp -zeta -proj only)
    exact Eff.upd_readData hp2 rfl

theorem State.dramWake_eff (s : State) (c : Nat) :
    Eff [.regs, .memory] [.fam (K.dcsChannelState 0) 4] s (State.dramWake s c) := by
  unfold State.dramWake
  exact Eff.ite ((State.setDramCh_eff ..).after (Eff.wr Eff.refl rfl (KeySet.any_fam _ rfl)) rfl) Eff.refl

theorem State.eccCorrected_eff (s : State) (c : Nat) (a : Nat) :
    Eff sideParts (sideAnd [.fam (K.dcsChannelStatus 0) 4, .fam (K.dcsCorrectedErrors 0) 4, .fam (K.dcsLastCorrectedAddress 0) 4,
        .fam (K.portBytesWritten 0) 12]) s (State.eccCorrected s c a) := by
  unfold State.eccCorrected
  extract_lets +onlyGivenNames x1
  clear_value (ex1 : x1 = _)
  refine Eff.have ex1 (Eff.wr (Eff.inc Eff.refl rfl (KeySet.any_fam _ rfl)) rfl (KeySet.any_fam _ rfl)) fun hx1 => ?_
  extract_lets +onlyGivenNames x2
  clear_value (ex2 : x2 = _)
  refine Eff.have ex2 (Eff.ite (Eff.add hx1 rfl (KeySet.any_fam _ rfl)) hx1) fun hx2 => ?_
  exact (State.raise_eff ..).after (Eff.flag hx2 rfl (KeySet.any_fam _ rfl)) rfl

theorem State.tempFlags_eff (s : State) (c : Nat) (m : Nat) :
    Eff sideParts (sideAnd [.fam (K.dcsChannelStatus 0) 4]) s (State.tempFlags s c m) := by
  unfold State.tempFlags
  exact Eff.ite Eff.refl (Eff.flag Eff.refl rfl (KeySet.any_fam _ rfl))

theorem trackLane_eff (c : Nat) (s : State) (m : Int × Nat) :
    Eff (withSide [.memory]) (sideAnd [.one K.calCalStatus, .one K.calDdrTrackSteps]) s (trackLane c s m) := by
  unfold trackLane
  extract_lets +onlyGivenNames v1
  clear_value v1
  extract_lets +onlyGivenNames v2
  clear_value v2
  extract_lets +onlyGivenNames v3
  clear_value v3
  refine Eff.ite ?_ ?_
  · exact Eff.refl
  · extract_lets +onlyGivenNames x4
    clear_value (ex4 : x4 = _)
    refine Eff.have ex4 (Eff.inc ((State.setDramCh_eff ..).after Eff.refl rfl) rfl rfl) fun hx4 => ?_
    exact Eff.ite (Eff.flag hx4 rfl rfl) hx4

theorem ddrTrack_eff (c : Nat) (moves : List Int) (s : State) :
    Eff (withSide [.memory]) (sideAnd [.one K.calCalStatus, .one K.calDdrTrackSteps]) s (ddrTrack c moves s) := by
  unfold ddrTrack
  exact Eff.ite Eff.refl (Eff.foldl (fun x1 _ hx1 => ((trackLane_eff ..).after hx1 rfl)) Eff.refl)

theorem dramGrant_eff (c : Nat) (s : State) :
    Eff (withSide [.clock, .reads, .mem, .memory]) (sideAnd [.fam (K.dcsChannelState 0) 4, .fam (K.portBytesRead 0) 12, .fam
        (K.portBytesWritten 0) 12, .fam (K.portMaxLatency 0) 12, .one K.dramLastMapError, .one K.dramMapErrors, .one
        K.dramMemStatus]) s (dramGrant c s) := by
  unfold dramGrant
  split
  · exact Eff.refl
  · extract_lets +onlyGivenNames x1
    clear_value (ex1 : x1 = _)
    refine Eff.have ex1 ((State.dramWake_eff ..).after Eff.refl rfl) fun hx1 => ?_
    extract_lets +onlyGivenNames v2
    clear_value v2
    extract_lets +onlyGivenNames v3
    clear_value v3
    refine Eff.ite ?_ ?_
    · exact hx1
    · split
      · exact hx1
      · extract_lets +onlyGivenNames x4
        clear_value (ex4 : x4 = _)
        refine Eff.have ex4 ((State.at_eff ..).after hx1 rfl) fun hx4 => ?_
        extract_lets +onlyGivenNames x5
        clear_value (ex5 : x5 = _)
        refine Eff.have ex5 ((State.setDramCh_eff ..).after hx4 rfl) fun hx5 => ?_
        exact (State.dramPerform_eff ..).after (Eff.peak hx5 rfl (KeySet.any_fam _ rfl)) rfl

theorem dramRefresh_eff (c : Nat) (s : State) :
    Eff [.clock, .regs, .memory] [.fam (K.dcsRefreshes 0) 4] s (dramRefresh c s) := by
  unfold dramRefresh
  refine Eff.ite ?_ ?_
  · exact Eff.refl
  · extract_lets +onlyGivenNames v1
    clear_value v1
    extract_lets +onlyGivenNames v2
    clear_value v2
    exact Eff.inc ((State.setDramCh_eff ..).after ((State.at_eff ..).after Eff.refl rfl) rfl) rfl (KeySet.any_fam _ rfl)

theorem dramTempRead_eff (c : Nat) (temp : Option Int) (s : State) :
    Eff (withSide [.memory]) (sideAnd [.fam (K.dcsCaseTemp 0) 4, .fam (K.dcsChannelStatus 0) 4]) s (dramTempRead c temp s) := by
  unfold dramTempRead
  refine Eff.ite ?_ ?_
  · exact Eff.refl
  · extract_lets +onlyGivenNames v1
    clear_value v1
    split
    · exact (State.tempFlags_eff ..).after ((State.setDramCh_eff ..).after Eff.refl rfl) rfl
    · extract_lets +onlyGivenNames v2
      clear_value v2
      extract_lets +onlyGivenNames x3
      clear_value (ex3 : x3 = _)
      refine Eff.have ex3 (Eff.wr ((State.setDramCh_eff ..).after Eff.refl rfl) rfl (KeySet.any_fam _ rfl)) fun hx3 => ?_
      exact Eff.ite ((State.tempFlags_eff ..).after hx3 rfl) (Eff.unflag hx3 rfl (KeySet.any_fam _ rfl))

theorem execDdrTrack_eff (ch : Nat) (moves : List Int) (s : State) {t : State} (h : execDdrTrack ch moves s = .next t) :
    Eff (withSide [.memory]) (sideAnd [.one K.calCalStatus, .one K.calDdrTrackSteps]) s t := by
  unfold execDdrTrack at h
  exact Eff.to (inst_next h).2.symm ((ddrTrack_eff ..).after Eff.refl rfl)

theorem execDramGrant_eff (ch : Nat) (s : State) {t : State} (h : execDramGrant ch s = .next t) :
    Eff (withSide [.clock, .reads, .mem, .memory]) (sideAnd [.fam (K.dcsChannelState 0) 4, .fam (K.portBytesRead 0) 12, .fam
        (K.portBytesWritten 0) 12, .fam (K.portMaxLatency 0) 12, .one K.dramLastMapError, .one K.dramMapErrors, .one
        K.dramMemStatus]) s t := by
  unfold execDramGrant at h
  exact Eff.to (inst_next h).2.symm ((dramGrant_eff ..).after Eff.refl rfl)

theorem execDramRefresh_eff (ch : Nat) (s : State) {t : State} (h : execDramRefresh ch s = .next t) :
    Eff [.clock, .regs, .memory] [.fam (K.dcsRefreshes 0) 4] s t := by
  unfold execDramRefresh at h
  exact Eff.to (inst_next h).2.symm ((dramRefresh_eff ..).after Eff.refl rfl)

theorem execDramTempRead_eff (ch : Nat) (temp : Option Int) (s : State) {t : State} (h : execDramTempRead ch temp s = .next t) :
    Eff (withSide [.memory]) (sideAnd [.fam (K.dcsCaseTemp 0) 4, .fam (K.dcsChannelStatus 0) 4]) s t := by
  unfold execDramTempRead at h
  exact Eff.to (inst_next h).2.symm ((dramTempRead_eff ..).after Eff.refl rfl)

theorem selfRefreshEntry_eff (c : Nat) (s : State) :
    Eff [.clock, .regs] [.fam (K.dcsChannelState 0) 4] s (selfRefreshEntry c s) := by
  unfold selfRefreshEntry
  extract_lets +onlyGivenNames v1
  clear_value v1
  exact Eff.ite Eff.refl (Eff.wr ((State.at_eff ..).after Eff.refl rfl) rfl (KeySet.any_fam _ rfl))

theorem execSelfRefreshEntry_eff (ch : Nat) (s : State) {t : State} (h : execSelfRefreshEntry ch s = .next t) :
    Eff [.clock, .regs] [.fam (K.dcsChannelState 0) 4] s t := by
  unfold execSelfRefreshEntry at h
  exact Eff.to (inst_next h).2.symm ((selfRefreshEntry_eff ..).after Eff.refl rfl)

end Sys2Proof.Machine
end

