-- ==== Sys2Proof/Laws/Dma.lean ====
section
/-! SUPPORT. What each operation of Machine/Dma.lean may change. -/

-- The proofs of this file are checked one after another, in one thread.
set_option Elab.async false

namespace Sys2Proof.Machine

theorem State.setDma_eff (s : State) (c : Nat) (a1 : Dma) :
    Eff [.memory] [] s (State.setDma s c a1) := by
  unfold State.setDma
  exact Eff.upd_dmas Eff.refl rfl

theorem State.dmaNext_eff (s : State) (c : Nat) (a1 : Dma) :
    Eff [.regs, .memory] [.fam (K.dmasChannelState 0) 32, .fam (K.dmasCurrentDesc 0) 32] s (State.dmaNext s c a1) := by
  unfold State.dmaNext
  exact Eff.ite (Eff.wr ((State.setDma_eff ..).after Eff.refl rfl) rfl (KeySet.any_fam _ rfl)) (Eff.wr (Eff.wr ((State.setDma_eff
      ..).after Eff.refl rfl) rfl (KeySet.any_fam _ rfl)) rfl (KeySet.any_fam _ rfl))

theorem State.dmaDone_eff (s : State) (c : Nat) (a1 : Dma) :
    Eff sideParts sideKeys s (State.dmaDone s c a1) := by
  unfold State.dmaDone
  exact Eff.ite ((State.raise_eff ..).after (Eff.arrive Eff.refl rfl) rfl) Eff.refl

theorem State.dmaWriteback_eff (s : State) (c : Nat) (st : Nat) (bytes : Nat) :
    Eff (withSide [.mem]) (sideAnd [.fam (K.portBytesWritten 0) 12, .one K.dramLastMapError, .one K.dramMapErrors, .one
        K.dramMemStatus]) s (State.dmaWriteback s c st bytes) := by
  unfold State.dmaWriteback
  extract_lets +onlyGivenNames v1
  clear_value v1
  exact Eff.ite ((State.blockWrite_eff ..).after Eff.refl rfl) Eff.refl

theorem State.dmaEnd_eff (s : State) (c : Nat) (st : Nat) (a1 : Dma) :
    Eff (withSide [.mem]) (sideAnd [.fam (K.dmasCompletions 0) 32, .fam (K.dmasLastStatus 0) 32, .fam (K.portBytesWritten 0) 12,
        .fam (K.qsConsumer 0) 64, .one K.dramLastMapError, .one K.dramMapErrors, .one K.dramMemStatus]) s (State.dmaEnd s c st a1)
        := by
  unfold State.dmaEnd
  extract_lets +onlyGivenNames x1
  clear_value (ex1 : x1 = _)
  refine Eff.have ex1 ((State.dmaWriteback_eff ..).after Eff.refl rfl) fun hx1 => ?_
  extract_lets +onlyGivenNames x2
  clear_value (ex2 : x2 = _)
  refine Eff.have ex2 (Eff.inc (Eff.wr hx1 rfl (KeySet.any_fam _ rfl)) rfl (KeySet.any_fam _ rfl)) fun hx2 => ?_
  split
  · exact Eff.ite (Eff.wr hx2 rfl (KeySet.any_fam _ rfl)) hx2
  · exact hx2

theorem State.dmaComplete_eff (s : State) (c : Nat) (st : Nat) (a1 : Dma) :
    Eff (withSide [.mem, .memory]) (sideAnd [.fam (K.dmasChannelState 0) 32, .fam (K.dmasCompletions 0) 32, .fam
        (K.dmasCurrentDesc 0) 32, .fam (K.dmasLastStatus 0) 32, .fam (K.portBytesWritten 0) 12, .fam (K.qsConsumer 0) 64, .one
        K.dramLastMapError, .one K.dramMapErrors, .one K.dramMemStatus]) s (State.dmaComplete s c st a1) := by
  unfold State.dmaComplete
  exact (State.dmaNext_eff ..).after ((State.dmaDone_eff ..).after ((State.dmaEnd_eff ..).after Eff.refl rfl) rfl) rfl

theorem State.flushQ_eff (s : State) (q : Nat) :
    Eff (withSide [.mem, .memory]) (sideAnd [.fam (K.dmasChannelState 0) 32, .fam (K.dmasCompletions 0) 32, .fam
        (K.dmasCurrentDesc 0) 32, .fam (K.dmasLastStatus 0) 32, .fam (K.portBytesWritten 0) 12, .fam (K.qsConsumer 0) 64, .fam
        (K.qsFill 0) 64, .fam (K.qsFlushCount 0) 64, .one K.dramLastMapError, .one K.dramMapErrors, .one K.dramMemStatus]) s
        (State.flushQ s q) := by
  unfold State.flushQ
  extract_lets +onlyGivenNames x1
  clear_value (ex1 : x1 = _)
  refine Eff.have ex1 ((State.flushQueue_eff ..).after Eff.refl rfl) fun hx1 => ?_
  extract_lets +onlyGivenNames v2
  clear_value v2
  extract_lets +onlyGivenNames v3
  clear_value v3
  exact Eff.ite ((State.dmaComplete_eff ..).after hx1 rfl) hx1

theorem State.queueApply_eff (a1 : State) (s : State) (q : Nat) :
    Eff (withSide [.mem, .memory]) (sideAnd [.fam (K.dmasChannelState 0) 32, .fam (K.dmasCompletions 0) 32, .fam
        (K.dmasCurrentDesc 0) 32, .fam (K.dmasLastStatus 0) 32, .fam (K.portBytesWritten 0) 12, .fam (K.qsCapacity 0) 64, .fam
        (K.qsConsumer 0) 64, .fam (K.qsFill 0) 64, .fam (K.qsFlushCount 0) 64, .one K.dramLastMapError, .one K.dramMapErrors, .one
        K.dramMemStatus]) s (State.queueApply a1 s q) := by
  unfold State.queueApply
  extract_lets +onlyGivenNames x1
  clear_value (ex1 : x1 = _)
  refine Eff.have ex1 (Eff.wr Eff.refl rfl (KeySet.any_fam _ rfl)) fun hx1 => ?_
  exact Eff.ite ((State.flushQ_eff ..).after hx1 rfl) hx1

theorem State.cplError_eff (s : State) :
    Eff sideParts (sideAnd [.one K.pcieCplErrors, .one K.pciePcieStatus]) s (State.cplError s) := by
  unfold State.cplError
  exact Eff.flag (Eff.inc Eff.refl rfl rfl) rfl rfl

theorem State.dmaError_eff (s : State) (c : Nat) (st : Nat) (a1 : Dma) :
    Eff (withSide [.mem, .memory]) (sideAnd [.fam (K.dmasChannelState 0) 32, .fam (K.dmasCompletions 0) 32, .fam (K.dmasErrorCount
        0) 32, .fam (K.dmasLastStatus 0) 32, .fam (K.portBytesWritten 0) 12, .fam (K.qsConsumer 0) 64, .one K.dramLastMapError,
        .one K.dramMapErrors, .one K.dramMemStatus]) s (State.dmaError s c st a1) := by
  unfold State.dmaError
  extract_lets +onlyGivenNames x1
  clear_value (ex1 : x1 = _)
  refine Eff.have ex1 (Eff.inc ((State.dmaEnd_eff ..).after Eff.refl rfl) rfl (KeySet.any_fam _ rfl)) fun hx1 => ?_
  extract_lets +onlyGivenNames x2
  clear_value (ex2 : x2 = _)
  refine Eff.have ex2 (Eff.wr ((State.setDma_eff ..).after hx1 rfl) rfl (KeySet.any_fam _ rfl)) fun hx2 => ?_
  extract_lets +onlyGivenNames x3
  clear_value (ex3 : x3 = _)
  refine Eff.have ex3 (Eff.ite ((State.witness_eff ..).after hx2 rfl) hx2) fun hx3 => ?_
  exact (State.raise_eff ..).after (Eff.arrive hx3 rfl) rfl

theorem consume_eff (q : Nat) (a1 : Nat) (s : State) :
    Eff [.regs, .memory] [.fam (K.qsFill 0) 64, .fam (K.qsItemsOut 0) 64] s (consume q a1 s) := by
  unfold consume
  split
  · exact Eff.refl
  · split
    · exact (consume_eff ..).after (Eff.inc (Eff.wr (Eff.upd_queues Eff.refl rfl) rfl (KeySet.any_fam _ rfl)) rfl (KeySet.any_fam
        _ rfl)) rfl
    · exact Eff.refl

theorem produce_eff (q : Nat) (size : Nat) (a1 : Nat) (a2 : List Nat) (s : State) :
    Eff (withSide [.memory]) (sideAnd [.fam (K.qsFill 0) 64, .fam (K.qsFillPeak 0) 64, .fam (K.qsItemsIn 0) 64, .fam
        (K.qsNoCreditCount 0) 64, .fam (K.qsQueueStatus 0) 64, .one K.quesSizeErrors]) s (produce q size a1 a2 s) := by
  unfold produce
  split
  · exact Eff.refl
  · exact (produce_eff ..).after ((State.offer_eff ..).after Eff.refl rfl) rfl

theorem State.dmaMove_eff (s : State) (c : Nat) (n : Nat) (host : List Nat) :
    Eff (withSide [.out, .mem, .memory]) (sideAnd [.fam (K.dmasBytesMoved 0) 32, .fam (K.portBytesRead 0) 12, .fam
        (K.portBytesWritten 0) 12, .fam (K.qsFill 0) 64, .fam (K.qsFillPeak 0) 64, .fam (K.qsItemsIn 0) 64, .fam (K.qsItemsOut 0)
        64, .fam (K.qsNoCreditCount 0) 64, .fam (K.qsQueueStatus 0) 64, .one K.dramLastMapError, .one K.dramMapErrors, .one
        K.dramMemStatus, .one K.quesSizeErrors]) s (State.dmaMove s c n host) := by
  unfold State.dmaMove
  extract_lets +onlyGivenNames v1
  clear_value v1
  extract_lets +onlyGivenNames v2
  clear_value v2
  extract_lets +onlyGivenNames x3
  clear_value (ex3 : x3 = _)
  refine Eff.have ex3 (Eff.ite ((consume_eff ..).after Eff.refl rfl) (Eff.ite Eff.refl (Eff.add Eff.refl rfl (KeySet.any_fam _
      rfl)))) fun hx3 => ?_
  extract_lets +onlyGivenNames x4
  clear_value (ex4 : x4 = _)
  refine Eff.have ex4 (Eff.ite ((produce_eff ..).after hx3 rfl) (Eff.ite (Eff.upd_hostOut hx3 rfl) ((State.blockWrite_eff
      ..).after hx3 rfl))) fun hx4 => ?_
  exact Eff.add ((State.setDma_eff ..).after hx4 rfl) rfl (KeySet.any_fam _ rfl)

theorem State.dmaFail_eff (s : State) (c : Nat) (n : Nat) (beats : Nat) (host : List Nat) :
    Eff (withSide [.out, .mem, .memory]) (sideAnd [.fam (K.dmasBytesMoved 0) 32, .fam (K.dmasChannelState 0) 32, .fam
        (K.dmasCompletions 0) 32, .fam (K.dmasErrorCount 0) 32, .fam (K.dmasLastStatus 0) 32, .fam (K.portBytesRead 0) 12, .fam
        (K.portBytesWritten 0) 12, .fam (K.qsConsumer 0) 64, .fam (K.qsFill 0) 64, .fam (K.qsFillPeak 0) 64, .fam (K.qsItemsIn 0)
        64, .fam (K.qsItemsOut 0) 64, .fam (K.qsNoCreditCount 0) 64, .fam (K.qsQueueStatus 0) 64, .one K.dramLastMapError, .one
        K.dramMapErrors, .one K.dramMemStatus, .one K.quesSizeErrors]) s (State.dmaFail s c n beats host) := by
  unfold State.dmaFail
  extract_lets +onlyGivenNames x1
  clear_value (ex1 : x1 = _)
  refine Eff.have ex1 ((State.dmaMove_eff ..).after Eff.refl rfl) fun hx1 => ?_
  extract_lets +onlyGivenNames v2
  clear_value v2
  exact Eff.ite ((State.dmaError_eff ..).after hx1 rfl) ((State.dmaError_eff ..).after hx1 rfl)

theorem State.dmaPartial_eff (s : State) (c : Nat) :
    Eff (withSide [.free, .out, .mem, .memory]) (sideAnd [.fam (K.dmasBytesMoved 0) 32, .fam (K.portBytesRead 0) 12, .fam
        (K.portBytesWritten 0) 12, .fam (K.qsFill 0) 64, .fam (K.qsFillPeak 0) 64, .fam (K.qsItemsIn 0) 64, .fam (K.qsItemsOut 0)
        64, .fam (K.qsNoCreditCount 0) 64, .fam (K.qsQueueStatus 0) 64, .one K.dramLastMapError, .one K.dramMapErrors, .one
        K.dramMemStatus, .one K.quesSizeErrors]) s (State.dmaPartial s c) := by
  unfold State.dmaPartial
  extract_lets +onlyGivenNames v1
  clear_value v1
  generalize eg5 : State.fresh _ = g5
  obtain ⟨p2, p3⟩ := g5
  refine Eff.have (congrArg (fun p => p.2) eg5).symm ((State.fresh_eff ..).after Eff.refl rfl) fun hp3 => ?_
  (try dsimp -zeta -proj only)
  extract_lets +onlyGivenNames v4
  clear_value v4
  exact (State.dmaMove_eff ..).after hp3 rfl

theorem State.dmaSettle_eff (s : State) (c : Nat) :
    Eff (withSide [.mem, .memory]) (sideAnd [.fam (K.dmasChannelState 0) 32, .fam (K.dmasCompletions 0) 32, .fam
        (K.dmasCurrentDesc 0) 32, .fam (K.dmasLastStatus 0) 32, .fam (K.portBytesWritten 0) 12, .fam (K.qsConsumer 0) 64, .one
        K.dramLastMapError, .one K.dramMapErrors, .one K.dramMemStatus]) s (State.dmaSettle s c) := by
  unfold State.dmaSettle
  extract_lets +onlyGivenNames v1
  clear_value v1
  split
  · exact (State.dmaComplete_eff ..).after Eff.refl rfl
  · extract_lets +onlyGivenNames v2
    clear_value v2
    extract_lets +onlyGivenNames v3
    clear_value v3
    exact Eff.ite ((State.dmaComplete_eff ..).after Eff.refl rfl) (Eff.ite ((State.dmaComplete_eff ..).after Eff.refl rfl) (Eff.wr
        ((State.setDma_eff ..).after Eff.refl rfl) rfl (KeySet.any_fam _ rfl)))

theorem State.dmaStop_eff (s : State) (c : Nat) :
    Eff (withSide [.free, .out, .mem, .memory]) (sideAnd [.fam (K.dmasBytesMoved 0) 32, .fam (K.dmasChannelState 0) 32, .fam
        (K.dmasCompletions 0) 32, .fam (K.dmasLastStatus 0) 32, .fam (K.portBytesRead 0) 12, .fam (K.portBytesWritten 0) 12, .fam
        (K.qsConsumer 0) 64, .fam (K.qsFill 0) 64, .fam (K.qsFillPeak 0) 64, .fam (K.qsItemsIn 0) 64, .fam (K.qsItemsOut 0) 64,
        .fam (K.qsNoCreditCount 0) 64, .fam (K.qsQueueStatus 0) 64, .one K.dramLastMapError, .one K.dramMapErrors, .one
        K.dramMemStatus, .one K.quesSizeErrors]) s (State.dmaStop s c) := by
  unfold State.dmaStop
  refine Eff.ite ?_ ?_
  · extract_lets +onlyGivenNames x1
    clear_value (ex1 : x1 = _)
    refine Eff.have ex1 (Eff.ite ((State.dmaPartial_eff ..).after Eff.refl rfl) Eff.refl) fun hx1 => ?_
    extract_lets +onlyGivenNames v2
    clear_value v2
    exact Eff.wr ((State.setDma_eff ..).after ((State.dmaDone_eff ..).after ((State.dmaEnd_eff ..).after hx1 rfl) rfl) rfl) rfl
        (KeySet.any_fam _ rfl)
  · exact Eff.ite (Eff.wr ((State.setDma_eff ..).after Eff.refl rfl) rfl (KeySet.any_fam _ rfl)) Eff.refl

theorem descComplete_eff (c : Nat) (host : List Nat) (s : State) :
    Eff (withSide [.out, .mem, .memory]) (sideAnd [.fam (K.dmasBytesMoved 0) 32, .fam (K.dmasChannelState 0) 32, .fam
        (K.dmasCompletions 0) 32, .fam (K.dmasCurrentDesc 0) 32, .fam (K.dmasErrorCount 0) 32, .fam (K.dmasLastStatus 0) 32, .fam
        (K.portBytesRead 0) 12, .fam (K.portBytesWritten 0) 12, .fam (K.qsConsumer 0) 64, .fam (K.qsFill 0) 64, .fam (K.qsFillPeak
        0) 64, .fam (K.qsItemsIn 0) 64, .fam (K.qsItemsOut 0) 64, .fam (K.qsNoCreditCount 0) 64, .fam (K.qsQueueStatus 0) 64, .one
        K.dramLastMapError, .one K.dramMapErrors, .one K.dramMemStatus, .one K.pcieCplErrors, .one K.pciePcieStatus, .one
        K.quesSizeErrors]) s (descComplete c host s) := by
  unfold descComplete
  refine Eff.ite ?_ ?_
  · exact Eff.refl
  · extract_lets +onlyGivenNames v1
    clear_value v1
    extract_lets +onlyGivenNames v2
    clear_value v2
    split
    · exact (State.dmaFail_eff ..).after ((State.mapError_eff ..).after Eff.refl rfl) rfl
    · exact (State.dmaFail_eff ..).after ((State.cplError_eff ..).after Eff.refl rfl) rfl
    · exact (State.dmaSettle_eff ..).after ((State.dmaMove_eff ..).after Eff.refl rfl) rfl

theorem descFetch_eff (c : Nat) (s : State) :
    Eff (withSide [.mem, .memory]) (sideAnd [.fam (K.dmasChannelState 0) 32, .fam (K.dmasCompletions 0) 32, .fam (K.dmasErrorCount
        0) 32, .fam (K.dmasLastStatus 0) 32, .fam (K.portBytesRead 0) 12, .fam (K.portBytesWritten 0) 12, .fam (K.qsConsumer 0)
        64, .one K.dramLastMapError, .one K.dramMapErrors, .one K.dramMemStatus]) s (descFetch c s) := by
  unfold descFetch
  refine Eff.ite ?_ ?_
  · exact Eff.refl
  · extract_lets +onlyGivenNames v1
    clear_value v1
    extract_lets +onlyGivenNames v2
    clear_value v2
    generalize eg8 : State.blockRead _ _ _ _ = g8
    obtain ⟨p3, p4⟩ := g8
    refine Eff.have (congrArg (fun p => p.2) eg8).symm ((State.blockRead_eff ..).after Eff.refl rfl) fun hp4 => ?_
    (try dsimp -zeta -proj only)
    extract_lets +onlyGivenNames v5
    clear_value v5
    refine Eff.ite ?_ ?_
    · exact (State.dmaError_eff ..).after hp4 rfl
    · refine Eff.ite ?_ ?_
      · exact Eff.wr ((State.setDma_eff ..).after hp4 rfl) rfl (KeySet.any_fam _ rfl)
      · split
        · extract_lets +onlyGivenNames x6
          clear_value (ex6 : x6 = _)
          refine Eff.have ex6 ((State.setDma_eff ..).after hp4 rfl) fun hx6 => ?_
          extract_lets +onlyGivenNames x7
          clear_value (ex7 : x7 = _)
          refine Eff.have ex7 (by split; exact (Eff.wr hx6 rfl (KeySet.any_fam _ rfl)); exact hx6) fun hx7 => ?_
          exact Eff.wr hx7 rfl (KeySet.any_fam _ rfl)
        · exact (State.dmaError_eff ..).after hp4 rfl

theorem dmaAbortWrite_eff (a : Acc) (c : Nat) (s : State) :
    Eff (withSide [.free, .out, .mem, .memory]) (accAnd [.fam (K.dmasBytesMoved 0) 32, .fam (K.dmasChannelState 0) 32, .fam
        (K.dmasCompletions 0) 32, .fam (K.dmasLastStatus 0) 32, .fam (K.portBytesRead 0) 12, .fam (K.portBytesWritten 0) 12, .fam
        (K.qsConsumer 0) 64, .fam (K.qsFill 0) 64, .fam (K.qsFillPeak 0) 64, .fam (K.qsItemsIn 0) 64, .fam (K.qsItemsOut 0) 64,
        .fam (K.qsNoCreditCount 0) 64, .fam (K.qsQueueStatus 0) 64, .one K.dramLastMapError, .one K.dramMapErrors, .one
        K.dramMemStatus, .one K.quesSizeErrors]) s (dmaAbortWrite a c s) := by
  unfold dmaAbortWrite
  exact Eff.act Eff.refl (fun y1 hy1 => (Eff.ite ((State.dmaStop_eff ..).after hy1 rfl) hy1)) rfl

theorem dmaErrorResponse_eff (c : Nat) (beats : Nat) (host : List Nat) (s : State) :
    Eff (withSide [.out, .mem, .memory]) (sideAnd [.fam (K.dmasBytesMoved 0) 32, .fam (K.dmasChannelState 0) 32, .fam
        (K.dmasCompletions 0) 32, .fam (K.dmasErrorCount 0) 32, .fam (K.dmasLastStatus 0) 32, .fam (K.portBytesRead 0) 12, .fam
        (K.portBytesWritten 0) 12, .fam (K.qsConsumer 0) 64, .fam (K.qsFill 0) 64, .fam (K.qsFillPeak 0) 64, .fam (K.qsItemsIn 0)
        64, .fam (K.qsItemsOut 0) 64, .fam (K.qsNoCreditCount 0) 64, .fam (K.qsQueueStatus 0) 64, .one K.dramLastMapError, .one
        K.dramMapErrors, .one K.dramMemStatus, .one K.pcieCplErrors, .one K.pciePcieStatus, .one K.quesSizeErrors]) s
        (dmaErrorResponse c beats host s) := by
  unfold dmaErrorResponse
  extract_lets +onlyGivenNames v1
  clear_value v1
  extract_lets +onlyGivenNames v2
  clear_value v2
  exact Eff.ite Eff.refl ((State.dmaFail_eff ..).after ((State.cplError_eff ..).after Eff.refl rfl) rfl)

theorem dmaGoWrite_eff (a : Acc) (c : Nat) (s : State) :
    Eff (withSide [.memory]) (accAnd [.fam (K.dmasChannelState 0) 32, .fam (K.dmasCurrentDesc 0) 32, .fam (K.dmasLastStatus 0)
        32]) s (dmaGoWrite a c s) := by
  unfold dmaGoWrite
  extract_lets +onlyGivenNames v1
  clear_value v1
  exact Eff.act Eff.refl (fun y2 hy2 => (Eff.ite hy2 (Eff.wr (Eff.wr (Eff.wr ((State.setDma_eff ..).after hy2 rfl) rfl
      (KeySet.any_fam _ rfl)) rfl (KeySet.any_fam _ rfl)) rfl (KeySet.any_fam _ rfl)))) rfl

theorem dmaMaxwait_eff (c : Nat) (s : State) :
    Eff [.clock, .regs, .memory] [.fam (K.dmasChannelState 0) 32] s (dmaMaxwait c s) := by
  unfold dmaMaxwait
  extract_lets +onlyGivenNames v1
  clear_value v1
  refine Eff.ite ?_ ?_
  · exact Eff.refl
  · split
    · exact Eff.refl
    · exact Eff.wr ((State.setDma_eff ..).after ((State.at_eff ..).after Eff.refl rfl) rfl) rfl (KeySet.any_fam _ rfl)

theorem dmaPaceStart_eff (c : Nat) (s : State) :
    Eff [.regs, .memory] [.fam (K.dmasChannelState 0) 32] s (dmaPaceStart c s) := by
  unfold dmaPaceStart
  extract_lets +onlyGivenNames v1
  clear_value v1
  split
  · exact Eff.refl
  · exact Eff.ite Eff.refl (Eff.wr ((State.setDma_eff ..).after Eff.refl rfl) rfl (KeySet.any_fam _ rfl))

theorem doorbellWrite_eff (a : Acc) (c : Nat) (s : State) :
    Eff sideParts (accAnd [.fam (K.dmasChannelState 0) 32]) s (doorbellWrite a c s) := by
  unfold doorbellWrite
  exact Eff.act Eff.refl (fun y1 hy1 => (Eff.ite (Eff.wr hy1 rfl (KeySet.any_fam _ rfl)) hy1)) rfl

theorem execDescComplete_eff (c : Nat) (host : List Nat) (s : State) {t : State} (h : execDescComplete c host s = .next t) :
    Eff (withSide [.out, .mem, .memory]) (sideAnd [.fam (K.dmasBytesMoved 0) 32, .fam (K.dmasChannelState 0) 32, .fam
        (K.dmasCompletions 0) 32, .fam (K.dmasCurrentDesc 0) 32, .fam (K.dmasErrorCount 0) 32, .fam (K.dmasLastStatus 0) 32, .fam
        (K.portBytesRead 0) 12, .fam (K.portBytesWritten 0) 12, .fam (K.qsConsumer 0) 64, .fam (K.qsFill 0) 64, .fam (K.qsFillPeak
        0) 64, .fam (K.qsItemsIn 0) 64, .fam (K.qsItemsOut 0) 64, .fam (K.qsNoCreditCount 0) 64, .fam (K.qsQueueStatus 0) 64, .one
        K.dramLastMapError, .one K.dramMapErrors, .one K.dramMemStatus, .one K.pcieCplErrors, .one K.pciePcieStatus, .one
        K.quesSizeErrors]) s t := by
  unfold execDescComplete at h
  exact Eff.to (inst_next h).2.symm ((descComplete_eff ..).after Eff.refl rfl)

theorem execDescFetch_eff (c : Nat) (s : State) {t : State} (h : execDescFetch c s = .next t) :
    Eff (withSide [.mem, .memory]) (sideAnd [.fam (K.dmasChannelState 0) 32, .fam (K.dmasCompletions 0) 32, .fam (K.dmasErrorCount
        0) 32, .fam (K.dmasLastStatus 0) 32, .fam (K.portBytesRead 0) 12, .fam (K.portBytesWritten 0) 12, .fam (K.qsConsumer 0)
        64, .one K.dramLastMapError, .one K.dramMapErrors, .one K.dramMemStatus]) s t := by
  unfold execDescFetch at h
  exact Eff.to (inst_next h).2.symm ((descFetch_eff ..).after Eff.refl rfl)

theorem execDmaAbort_eff (a : Acc) (c : Nat) (s : State) {t : State} (h : execDmaAbort a c s = .next t) :
    Eff (withSide [.free, .out, .mem, .memory]) (accAnd [.fam (K.dmasBytesMoved 0) 32, .fam (K.dmasChannelState 0) 32, .fam
        (K.dmasCompletions 0) 32, .fam (K.dmasLastStatus 0) 32, .fam (K.portBytesRead 0) 12, .fam (K.portBytesWritten 0) 12, .fam
        (K.qsConsumer 0) 64, .fam (K.qsFill 0) 64, .fam (K.qsFillPeak 0) 64, .fam (K.qsItemsIn 0) 64, .fam (K.qsItemsOut 0) 64,
        .fam (K.qsNoCreditCount 0) 64, .fam (K.qsQueueStatus 0) 64, .one K.dramLastMapError, .one K.dramMapErrors, .one
        K.dramMemStatus, .one K.quesSizeErrors]) s t := by
  unfold execDmaAbort at h
  exact Eff.to (inst_next h).2.symm ((dmaAbortWrite_eff ..).after Eff.refl rfl)

theorem execDmaErrorResponse_eff (c : Nat) (beats : Nat) (host : List Nat) (s : State) {t : State} (h : execDmaErrorResponse c
    beats host s = .next t) :
    Eff (withSide [.out, .mem, .memory]) (sideAnd [.fam (K.dmasBytesMoved 0) 32, .fam (K.dmasChannelState 0) 32, .fam
        (K.dmasCompletions 0) 32, .fam (K.dmasErrorCount 0) 32, .fam (K.dmasLastStatus 0) 32, .fam (K.portBytesRead 0) 12, .fam
        (K.portBytesWritten 0) 12, .fam (K.qsConsumer 0) 64, .fam (K.qsFill 0) 64, .fam (K.qsFillPeak 0) 64, .fam (K.qsItemsIn 0)
        64, .fam (K.qsItemsOut 0) 64, .fam (K.qsNoCreditCount 0) 64, .fam (K.qsQueueStatus 0) 64, .one K.dramLastMapError, .one
        K.dramMapErrors, .one K.dramMemStatus, .one K.pcieCplErrors, .one K.pciePcieStatus, .one K.quesSizeErrors]) s t := by
  unfold execDmaErrorResponse at h
  exact Eff.to (inst_next h).2.symm ((dmaErrorResponse_eff ..).after Eff.refl rfl)

theorem execDmaGo_eff (a : Acc) (c : Nat) (s : State) {t : State} (h : execDmaGo a c s = .next t) :
    Eff (withSide [.memory]) (accAnd [.fam (K.dmasChannelState 0) 32, .fam (K.dmasCurrentDesc 0) 32, .fam (K.dmasLastStatus 0)
        32]) s t := by
  unfold execDmaGo at h
  exact Eff.to (inst_next h).2.symm ((dmaGoWrite_eff ..).after Eff.refl rfl)

theorem execDmaMaxwait_eff (c : Nat) (s : State) {t : State} (h : execDmaMaxwait c s = .next t) :
    Eff [.clock, .regs, .memory] [.fam (K.dmasChannelState 0) 32] s t := by
  unfold execDmaMaxwait at h
  exact Eff.to (inst_next h).2.symm ((dmaMaxwait_eff ..).after Eff.refl rfl)

theorem execDmaPaceStart_eff (c : Nat) (s : State) {t : State} (h : execDmaPaceStart c s = .next t) :
    Eff [.regs, .memory] [.fam (K.dmasChannelState 0) 32] s t := by
  unfold execDmaPaceStart at h
  exact Eff.to (inst_next h).2.symm ((dmaPaceStart_eff ..).after Eff.refl rfl)

theorem execDoorbell_eff (a : Acc) (c : Nat) (s : State) {t : State} (h : execDoorbell a c s = .next t) :
    Eff sideParts (accAnd [.fam (K.dmasChannelState 0) 32]) s t := by
  unfold execDoorbell at h
  exact Eff.to (inst_next h).2.symm ((doorbellWrite_eff ..).after Eff.refl rfl)

theorem queueFlushWrite_eff (a : Acc) (q : Nat) (s : State) :
    Eff (withSide [.mem, .memory]) (accAnd [.fam (K.dmasChannelState 0) 32, .fam (K.dmasCompletions 0) 32, .fam (K.dmasCurrentDesc
        0) 32, .fam (K.dmasLastStatus 0) 32, .fam (K.portBytesWritten 0) 12, .fam (K.qsConsumer 0) 64, .fam (K.qsFill 0) 64, .fam
        (K.qsFlushCount 0) 64, .one K.dramLastMapError, .one K.dramMapErrors, .one K.dramMemStatus]) s (queueFlushWrite a q s) :=
        by
  unfold queueFlushWrite
  exact Eff.act Eff.refl (fun y1 hy1 => (Eff.ite ((State.flushQ_eff ..).after hy1 rfl) hy1)) rfl

theorem execQueueFlush_eff (a : Acc) (q : Nat) (s : State) {t : State} (h : execQueueFlush a q s = .next t) :
    Eff (withSide [.mem, .memory]) (accAnd [.fam (K.dmasChannelState 0) 32, .fam (K.dmasCompletions 0) 32, .fam (K.dmasCurrentDesc
        0) 32, .fam (K.dmasLastStatus 0) 32, .fam (K.portBytesWritten 0) 12, .fam (K.qsConsumer 0) 64, .fam (K.qsFill 0) 64, .fam
        (K.qsFlushCount 0) 64, .one K.dramLastMapError, .one K.dramMapErrors, .one K.dramMemStatus]) s t := by
  unfold execQueueFlush at h
  exact Eff.to (inst_next h).2.symm ((queueFlushWrite_eff ..).after Eff.refl rfl)

theorem execQueueItemWrite_eff (q : Nat) (item : List Nat) (s : State) {t : State} (h : execQueueItemWrite q item s = .next t) :
    Eff (withSide [.memory]) (sideAnd [.fam (K.qsFill 0) 64, .fam (K.qsFillPeak 0) 64, .fam (K.qsItemsIn 0) 64, .fam
        (K.qsNoCreditCount 0) 64, .fam (K.qsQueueStatus 0) 64, .one K.quesSizeErrors]) s t := by
  unfold execQueueItemWrite at h
  exact Eff.to (inst_next h).2.symm ((State.offer_eff ..).after Eff.refl rfl)

end Sys2Proof.Machine
end

