-- ==== Sys2Proof/Laws/Checks.lean ====
section
/-! SUPPORT. What each operation of Machine/Checks.lean may change. -/

-- The proofs of this file are checked one after another, in one thread.
set_option Elab.async false

namespace Sys2Proof.Machine

theorem State.acceptCommit_eff (s : State) (idx : Nat) (need : Nat) :
    Eff (withSide [.pool]) (sideAnd [.one K.poolFreeLow, .one K.poolPoolStatus, .one K.poolSherdsFree, .sub (K.commit 0), .sub
        (K.commitFault 0)]) s (State.acceptCommit s idx need) := by
  unfold State.acceptCommit
  extract_lets +onlyGivenNames x1
  clear_value (ex1 : x1 = _)
  refine Eff.have ex1 (Eff.wr (Eff.wr Eff.refl rfl (KeySet.any_sub _ rfl)) rfl (KeySet.any_sub _ rfl)) fun hx1 => ?_
  extract_lets +onlyGivenNames v2
  clear_value v2
  extract_lets +onlyGivenNames x3
  clear_value (ex3 : x3 = _)
  refine Eff.have ex3 (Eff.ite hx1 ((State.setSherdsFree_eff ..).after (Eff.upd_sherds hx1 rfl) rfl)) fun hx3 => ?_
  split
  · exact Eff.upd_commitBands hx3 rfl
  · exact hx3

theorem State.refuseCommit_eff (s : State) (idx : Nat) (code : Nat) (subs : List Nat) :
    Eff [.regs] [.sub (K.commit 0), .sub (K.commitFault 0)] s (State.refuseCommit s idx code subs) := by
  unfold State.refuseCommit
  exact Eff.wr (Eff.wr Eff.refl rfl (KeySet.any_sub _ rfl)) rfl (KeySet.any_sub _ rfl)

theorem State.tryCommit_eff (s : State) (idx : Nat) :
    Eff (withSide [.domains, .pool]) [.all] s (State.tryCommit s idx).2 := by
  unfold State.tryCommit
  extract_lets +onlyGivenNames x1
  clear_value (ex1 : x1 = _)
  refine Eff.have ex1 ((State.goLive_eff ..).after Eff.refl rfl) fun hx1 => ?_
  split
  · exact Eff.pair2 ((State.refuseCommit_eff ..).after Eff.refl rfl)
  · split
    · exact Eff.pair2 ((State.refuseCommit_eff ..).after Eff.refl rfl)
    · split
      · split
        · extract_lets +onlyGivenNames x2
          clear_value (ex2 : x2 = _)
          refine Eff.have ex2 ((State.refuseCommit_eff ..).after Eff.refl rfl) fun hx2 => ?_
          extract_lets +onlyGivenNames x3
          clear_value (ex3 : x3 = _)
          refine Eff.have ex3 (Eff.ite hx2 (Eff.flag hx2 rfl (KeySet.any_all rfl))) fun hx3 => ?_
          exact Eff.pair2 (Eff.wr (Eff.inc (Eff.flag hx3 rfl rfl) rfl rfl) rfl rfl)
        · exact Eff.pair2 ((State.acceptCommit_eff ..).after Eff.refl rfl)

end Sys2Proof.Machine
end

