-- ==== Sys2Proof/Laws/LoopMeasure.lean ====
section
/-! SUPPORT. What each operation of Machine/LoopMeasure.lean may change. -/

-- The proofs of this file are checked one after another, in one thread.
set_option Elab.async false

namespace Sys2Proof.Machine

theorem State.showHold_eff (s : State) (i : Nat) :
    Eff sideParts (sideAnd [.fam (K.lslotHoldReason 0) 8, .one K.loopsStatus]) s (State.showHold s i) := by
  unfold State.showHold
  extract_lets +onlyGivenNames v1
  clear_value v1
  extract_lets +onlyGivenNames v2
  clear_value v2
  extract_lets +onlyGivenNames x3
  clear_value (ex3 : x3 = _)
  refine Eff.have ex3 (Eff.wr Eff.refl rfl (KeySet.any_fam _ rfl)) fun hx3 => ?_
  extract_lets +onlyGivenNames x4
  clear_value (ex4 : x4 = _)
  refine Eff.have ex4 (Eff.ite (Eff.flag hx3 rfl rfl) hx3) fun hx4 => ?_
  extract_lets +onlyGivenNames x5
  clear_value (ex5 : x5 = _)
  refine Eff.have ex5 (Eff.ite (Eff.flag hx4 rfl rfl) hx4) fun hx5 => ?_
  exact Eff.ite ((State.raise_eff ..).after hx5 rfl) hx5

theorem State.showHolds_eff (s : State) :
    Eff sideParts (sideAnd [.fam (K.lslotHoldReason 0) 8, .one K.loopsStatus]) s (State.showHolds s) := by
  unfold State.showHolds
  exact Eff.foldl (fun x1 _ hx1 => ((State.showHold_eff ..).after hx1 rfl)) Eff.refl

theorem State.setLoopState_eff (s : State) (n : Nat) :
    Eff sideParts (sideAnd [.fam (K.lslotHoldReason 0) 8, .one K.loopsLoopState, .one K.loopsStatus]) s (State.setLoopState s n)
        := by
  unfold State.setLoopState
  exact Eff.ite Eff.refl ((State.showHolds_eff ..).after (Eff.arrive ((State.raise_eff ..).after (Eff.wr Eff.refl rfl rfl) rfl)
      rfl) rfl)

theorem State.setLoop_eff (s : State) (l : Loop) :
    Eff [.loop] [] s (State.setLoop s l) := by
  unfold State.setLoop
  exact Eff.upd_loop Eff.refl rfl

theorem State.awaitDelay_eff (s : State) (a1 : Nat) :
    Eff [.loop] [] s (State.awaitDelay s a1) := by
  unfold State.awaitDelay
  exact (State.setLoop_eff ..).after Eff.refl rfl

theorem State.centroidDiff_eff (s : State) (a : Int) (m : Int) (b : Int) (e : Int) (u : Nat) :
    Eff [.free] [] s (State.centroidDiff s a m b e u).2 := by
  unfold State.centroidDiff
  split
  · generalize eg3 : State.fresh _ = g3
    obtain ⟨p1, p2⟩ := g3
    refine Eff.have (congrArg (fun p => p.2) eg3).symm ((State.fresh_eff ..).after Eff.refl rfl) fun hp2 => ?_
    (try dsimp -zeta -proj only)
    exact Eff.pair2 hp2
  · exact Eff.pair2 Eff.refl

theorem State.loopPut_eff (s : State) (idx : Nat) (alone : Bool) (vals : List (Nat × Nat)) :
    Eff (withSide [.staged, .domains, .pool]) [.all] s (State.loopPut s idx alone vals).2 := by
  unfold State.loopPut
  split
  · exact Eff.pair2 (Eff.flag Eff.refl rfl rfl)
  · split
    · exact Eff.pair2 (Eff.flag Eff.refl rfl rfl)
    · split
      · exact Eff.pair2 Eff.refl
      · extract_lets +onlyGivenNames x1
        clear_value (ex1 : x1 = _)
        refine Eff.have ex1 (Eff.foldl (fun x2 _ hx2 => (Eff.ite ((State.stage_eff ..).after hx2 rfl) ((State.shDomWrite_eff
            ..).after hx2 rfl))) Eff.refl) fun hx1 => ?_
        split
        · rename_i q3
          exact Eff.pair2 (Eff.to (congrArg (fun p => p.2) q3).symm ((State.tryCommit_eff ..).after hx1 rfl))
        · rename_i q4
          exact Eff.pair2 (Eff.to (congrArg (fun p => p.2) q4).symm ((State.tryCommit_eff ..).after hx1 rfl))

theorem State.loopRecord_eff (s : State) (kind : Nat) (slot : Nat) (unit : Nat) (a : Int) (b : Int) (c : Int) (d : Int) :
    Eff (withSide [.memory]) (sideAnd [.fam (K.qsFill 0) 64, .fam (K.qsFillPeak 0) 64, .fam (K.qsItemsIn 0) 64, .fam
        (K.qsNoCreditCount 0) 64, .fam (K.qsQueueStatus 0) 64, .one K.loopsStatus, .one K.quesSizeErrors]) s (State.loopRecord s
        kind slot unit a b c d) := by
  unfold State.loopRecord
  extract_lets +onlyGivenNames v1
  clear_value v1
  extract_lets +onlyGivenNames v2
  clear_value v2
  refine Eff.ite ?_ ?_
  · exact Eff.refl
  · split
    · rename_i q3
      exact Eff.to (congrArg (fun p => p.2) q3).symm ((State.offerTo_eff ..).after Eff.refl rfl)
    · rename_i q4
      exact Eff.flag (Eff.to (congrArg (fun p => p.2) q4).symm ((State.offerTo_eff ..).after Eff.refl rfl)) rfl rfl

theorem State.regPut_eff (s : State) (idx : Nat) (k : Nat) (v : Nat) :
    Eff (withSide [.staged, .domains, .pool, .loop]) [.all] s (State.regPut s idx k v).2 := by
  unfold State.regPut
  split
  · rename_i q1
    exact Eff.pair2 ((State.raise_eff ..).after (Eff.to (congrArg (fun p => p.2) q1).symm ((State.loopPut_eff ..).after Eff.refl
        rfl)) rfl)
  · rename_i q2
    exact Eff.pair2 ((State.setLoop_eff ..).after (Eff.to (congrArg (fun p => p.2) q2).symm ((State.loopPut_eff ..).after Eff.refl
        rfl)) rfl)
  · rename_i q3
    exact Eff.pair2 (Eff.flag (Eff.to (congrArg (fun p => p.2) q3).symm ((State.loopPut_eff ..).after Eff.refl rfl)) rfl rfl)
  · rename_i q4
    exact Eff.pair2 (Eff.to (congrArg (fun p => p.2) q4).symm ((State.loopPut_eff ..).after Eff.refl rfl))

theorem State.loopStrips_eff (s : State) (l : ULine) (js : List Judged) :
    Eff [.loop] [] s (State.loopStrips s l js) := by
  unfold State.loopStrips
  extract_lets +onlyGivenNames f1
  extract_lets +onlyGivenNames f2
  exact (State.setLoop_eff ..).after Eff.refl rfl

theorem State.loopCols_eff (s : State) (l : ULine) (js : List Judged) :
    Eff [.loop] [] s (State.loopCols s l js) := by
  unfold State.loopCols
  split
  · exact Eff.refl
  · extract_lets +onlyGivenNames f1
    exact (State.setLoop_eff ..).after Eff.refl rfl

theorem State.loopWhite_eff (s : State) (l : ULine) (js : List Judged) :
    Eff [.loop] [] s (State.loopWhite s l js) := by
  unfold State.loopWhite
  refine Eff.ite ?_ ?_
  · exact Eff.refl
  · extract_lets +onlyGivenNames f1
    extract_lets +onlyGivenNames v2
    clear_value v2
    extract_lets +onlyGivenNames v3
    clear_value v3
    exact (State.setLoop_eff ..).after Eff.refl rfl

theorem State.regDelay_eff (s : State) (a1 : Nat) (dw : Int) :
    Eff (withSide [.staged, .domains, .pool, .loop]) [.all] s (State.regDelay s a1 dw).2 := by
  unfold State.regDelay
  extract_lets +onlyGivenNames v1
  clear_value v1
  split
  · exact Eff.pair2 Eff.refl
  · extract_lets +onlyGivenNames v2
    clear_value v2
    extract_lets +onlyGivenNames v3
    clear_value v3
    extract_lets +onlyGivenNames v4
    clear_value v4
    extract_lets +onlyGivenNames v5
    clear_value v5
    extract_lets +onlyGivenNames x6
    clear_value (ex6 : x6 = _)
    refine Eff.have ex6 (Eff.ite Eff.refl (Eff.flag Eff.refl rfl rfl)) fun hx6 => ?_
    split
    · rename_i q7
      exact Eff.pair2 ((State.awaitDelay_eff ..).after (Eff.to (congrArg (fun p => p.2) q7).symm ((State.regPut_eff ..).after hx6
          rfl)) rfl)
    · rename_i q8
      exact Eff.pair2 (Eff.to (congrArg (fun p => p.2) q8).symm ((State.regPut_eff ..).after hx6 rfl))

theorem regShift_eff (m : Int) (s : State) (b : Nat) :
    Eff (withSide [.staged, .domains, .pool, .loop]) [.all] s (regShift m s b) := by
  unfold regShift
  extract_lets +onlyGivenNames v1
  clear_value v1
  extract_lets +onlyGivenNames v2
  clear_value v2
  exact Eff.ite Eff.refl ((State.regPut_eff ..).after Eff.refl rfl)

theorem State.regEvaluate_eff (s : State) (a1 : Nat) (slot : Nat) :
    Eff (withSide [.staged, .domains, .pool, .loop]) [.all] s (State.regEvaluate s a1 slot) := by
  unfold State.regEvaluate
  extract_lets +onlyGivenNames v1
  clear_value v1
  extract_lets +onlyGivenNames v2
  clear_value v2
  extract_lets +onlyGivenNames v3
  clear_value v3
  extract_lets +onlyGivenNames x4
  clear_value (ex4 : x4 = _)
  refine Eff.have ex4 (by split; exact (Eff.wr Eff.refl rfl (KeySet.any_all rfl)); exact Eff.refl) fun hx4 => ?_
  extract_lets +onlyGivenNames x5
  clear_value (ex5 : x5 = _)
  refine Eff.have ex5 (by split; exact (Eff.wr hx4 rfl (KeySet.any_all rfl)); exact hx4) fun hx5 => ?_
  extract_lets +onlyGivenNames x6
  clear_value (ex6 : x6 = _)
  refine Eff.have (congrArg (fun p => p.2) ex6)
      (by split; exact (by generalize eg9 : State.regDelay _ _ _ = g9; obtain ⟨p7, p8⟩ := g9; exact Eff.have (congrArg (fun p => p.2) eg9).symm ((State.regDelay_eff ..).after hx5 rfl) fun hp8 => (by (try dsimp -zeta -proj only); exact (Eff.pair2 hp8))); exact (Eff.pair2 hx5))
      fun hx6 => ?_
  extract_lets +onlyGivenNames x10
  clear_value (ex10 : x10 = _)
  refine Eff.have ex10 hx6 fun hx10 => ?_
  extract_lets +onlyGivenNames v11
  clear_value v11
  extract_lets +onlyGivenNames v12
  clear_value v12
  extract_lets +onlyGivenNames x13
  clear_value (ex13 : x13 = _)
  refine Eff.have ex13 ((State.setLoop_eff ..).after hx10 rfl) fun hx13 => ?_
  extract_lets +onlyGivenNames v14
  clear_value v14
  extract_lets +onlyGivenNames v15
  clear_value v15
  extract_lets +onlyGivenNames v16
  clear_value v16
  extract_lets +onlyGivenNames x17
  clear_value (ex17 : x17 = _)
  refine Eff.have ex17 (by split; exact (Eff.ite (Eff.foldl (fun x18 _ hx18 => ((regShift_eff ..).after hx18 rfl)) hx13) hx13); exact hx13)
      fun hx17 => ?_
  exact (State.setLoop_eff ..).after hx17 rfl

theorem State.regMark_eff (s : State) (a1 : Nat) (slot : Nat) (axes : Nat) (dx : Int) (dw : Int) :
    Eff (withSide [.staged, .domains, .pool, .loop]) [.all] s (State.regMark s a1 slot axes dx dw) := by
  unfold State.regMark
  refine Eff.ite ?_ ?_
  · exact Eff.refl
  · extract_lets +onlyGivenNames v1
    clear_value v1
    extract_lets +onlyGivenNames v2
    clear_value v2
    extract_lets +onlyGivenNames v3
    clear_value v3
    extract_lets +onlyGivenNames v4
    clear_value v4
    extract_lets +onlyGivenNames v5
    clear_value v5
    extract_lets +onlyGivenNames x6
    clear_value (ex6 : x6 = _)
    refine Eff.have ex6 ((State.setLoop_eff ..).after Eff.refl rfl) fun hx6 => ?_
    exact Eff.ite hx6 ((State.regEvaluate_eff ..).after hx6 rfl)

theorem State.markClose_eff (s : State) (m : Nat) (k : Mark) (a1 : Nat) (slot : Nat) :
    Eff (withSide [.free, .staged, .domains, .pool, .memory, .loop]) [.all] s (State.markClose s m k a1 slot) := by
  unfold State.markClose
  generalize eg10 : State.centroidDiff _ _ _ _ _ _ = g10
  obtain ⟨p1, p2⟩ := g10
  refine Eff.have (congrArg (fun p => p.2) eg10).symm ((State.centroidDiff_eff ..).after Eff.refl rfl) fun hp2 => ?_
  (try dsimp -zeta -proj only)
  generalize eg9 : State.centroidDiff _ _ _ _ _ _ = g9
  obtain ⟨p3, p4⟩ := g9
  refine Eff.have (congrArg (fun p => p.2) eg9).symm ((State.centroidDiff_eff ..).after hp2 rfl) fun hp4 => ?_
  extract_lets +onlyGivenNames v5
  clear_value v5
  extract_lets +onlyGivenNames v6
  clear_value v6
  extract_lets +onlyGivenNames x7
  clear_value (ex7 : x7 = _)
  refine Eff.have ex7 ((State.setLoop_eff ..).after hp4 rfl) fun hx7 => ?_
  extract_lets +onlyGivenNames x8
  clear_value (ex8 : x8 = _)
  refine Eff.have ex8 ((State.loopRecord_eff ..).after hx7 rfl) fun hx8 => ?_
  exact Eff.ite (Eff.flag hx8 rfl rfl) ((State.regMark_eff ..).after hx8 rfl)

theorem markLine_eff (l : ULine) (js : List Judged) (s : State) (m : Nat) :
    Eff (withSide [.free, .staged, .domains, .pool, .memory, .loop]) [.all] s (markLine l js s m) := by
  unfold markLine
  extract_lets +onlyGivenNames v1
  clear_value v1
  split
  · exact Eff.refl
  · extract_lets +onlyGivenNames v2
    clear_value v2
    extract_lets +onlyGivenNames v3
    clear_value v3
    extract_lets +onlyGivenNames x4
    clear_value (ex4 : x4 = _)
    refine Eff.have ex4 ((State.domWrite_eff ..).after Eff.refl rfl) fun hx4 => ?_
    extract_lets +onlyGivenNames v5
    clear_value v5
    extract_lets +onlyGivenNames v6
    clear_value v6
    extract_lets +onlyGivenNames f7
    extract_lets +onlyGivenNames v8
    clear_value v8
    extract_lets +onlyGivenNames v9
    clear_value v9
    extract_lets +onlyGivenNames v10
    clear_value v10
    extract_lets +onlyGivenNames v11
    clear_value v11
    extract_lets +onlyGivenNames v12
    clear_value v12
    extract_lets +onlyGivenNames v13
    clear_value v13
    split
    · exact Eff.refl
    · extract_lets +onlyGivenNames v14
      clear_value v14
      exact Eff.ite ((State.markClose_eff ..).after Eff.refl rfl) ((State.setLoop_eff ..).after Eff.refl rfl)

theorem reflCommit_eff (w : Int) (s : State) (e : Nat × Option Int × Option Int) :
    Eff (withSide [.staged, .domains, .pool, .loop]) [.all] s (reflCommit w s e) := by
  unfold reflCommit
  extract_lets +onlyGivenNames v1
  clear_value v1
  refine Eff.ite ?_ ?_
  · exact Eff.refl
  · extract_lets +onlyGivenNames f2
    extract_lets +onlyGivenNames f3
    split
    · rename_i q4
      exact (State.raise_eff ..).after ((State.setLoop_eff ..).after (Eff.to (congrArg (fun p => p.2) q4).symm ((State.loopPut_eff
          ..).after Eff.refl rfl)) rfl) rfl
    · rename_i q5
      exact (State.setLoop_eff ..).after (Eff.to (congrArg (fun p => p.2) q5).symm ((State.loopPut_eff ..).after Eff.refl rfl))
          rfl
    · rename_i q6
      exact Eff.flag ((State.setLoop_eff ..).after (Eff.to (congrArg (fun p => p.2) q6).symm ((State.loopPut_eff ..).after
          Eff.refl rfl)) rfl) rfl rfl
    · rename_i q7
      exact (State.setLoop_eff ..).after (Eff.to (congrArg (fun p => p.2) q7).symm ((State.loopPut_eff ..).after Eff.refl rfl))
          rfl

theorem State.loopLine_eff (s : State) (l : ULine) :
    Eff (withSide [.free, .staged, .domains, .pool, .memory, .loop]) [.all] s (State.loopLine s l) := by
  unfold State.loopLine
  refine Eff.ite ?_ ?_
  · exact Eff.refl
  · extract_lets +onlyGivenNames v1
    clear_value v1
    extract_lets +onlyGivenNames x2
    clear_value (ex2 : x2 = _)
    refine Eff.have ex2 (Eff.ite ((State.loopStrips_eff ..).after ((State.loopCols_eff ..).after ((State.loopWhite_eff ..).after
        Eff.refl rfl) rfl) rfl) Eff.refl) fun hx2 => ?_
    extract_lets +onlyGivenNames x3
    clear_value (ex3 : x3 = _)
    refine Eff.have ex3 (Eff.foldl (fun x4 _ hx4 => ((markLine_eff ..).after hx4 rfl)) hx2) fun hx3 => ?_
    exact Eff.foldl (fun x5 _ hx5 => ((reflCommit_eff ..).after hx5 rfl)) hx3

end Sys2Proof.Machine
end

