-- ==== Sys2Proof/Laws/Loop.lean ====
section
/-! SUPPORT. What each operation of Machine/Loop.lean may change. -/

-- The proofs of this file are checked one after another, in one thread.
set_option Elab.async false

namespace Sys2Proof.Machine

theorem State.loopApply_eff (s : State) :
    Eff sideParts (sideAnd [.fam (K.lslotHoldReason 0) 8, .one K.loopsLoopState, .one K.loopsStatus]) s (State.loopApply s) := by
  unfold State.loopApply
  exact Eff.ite ((State.setLoopState_eff ..).after Eff.refl rfl) (Eff.ite ((State.setLoopState_eff ..).after Eff.refl rfl)
      Eff.refl)

theorem State.apprPut_eff (s : State) (off : Nat) (n : Nat) (v : Nat) :
    Eff [.domains] [] s (State.apprPut s off n v) := by
  unfold State.apprPut
  exact (State.domWrite_eff ..).after Eff.refl rfl

theorem State.approveKnots_eff (s : State) (slot : Nat) :
    Eff (withSide [.mem]) (sideAnd [.fam (K.portBytesWritten 0) 12, .one K.dramLastMapError, .one K.dramMapErrors, .one
        K.dramMemStatus]) s (State.approveKnots s slot) := by
  unfold State.approveKnots
  exact Eff.foldl (fun x1 _ hx1 => (Eff.foldl (fun x2 _ hx2 =>
      (by extract_lets +onlyGivenNames v3; clear_value v3; exact ((State.blockWrite_eff ..).after hx2 rfl))) hx1)) Eff.refl

theorem State.captureAdd_eff (s : State) :
    Eff [.loop] [] s (State.captureAdd s) := by
  unfold State.captureAdd
  extract_lets +onlyGivenNames v1
  clear_value v1
  extract_lets +onlyGivenNames f2
  exact (State.setLoop_eff ..).after Eff.refl rfl

theorem captureCam_eff (s : State) (n : Nat) :
    Eff [.domains] [] s (captureCam s n) := by
  unfold captureCam
  extract_lets +onlyGivenNames f1
  refine Eff.ite ?_ ?_
  · split
    · extract_lets +onlyGivenNames f2
      exact (State.apprPut_eff ..).after ((State.apprPut_eff ..).after ((State.apprPut_eff ..).after ((State.apprPut_eff ..).after
          ((State.apprPut_eff ..).after Eff.refl rfl) rfl) rfl) rfl) rfl
    · exact Eff.refl
  · refine Eff.ite ?_ ?_
    · split
      · exact (State.apprPut_eff ..).after ((State.apprPut_eff ..).after ((State.apprPut_eff ..).after Eff.refl rfl) rfl) rfl
      · exact Eff.refl
    · exact Eff.refl

theorem captureStrip_eff (s : State) (i : Nat) :
    Eff [.regs, .domains] [.fam (K.stripStripRef 0) 16] s (captureStrip s i) := by
  unfold captureStrip
  split
  · extract_lets +onlyGivenNames v1
    clear_value v1
    exact (State.apprPut_eff ..).after ((State.apprPut_eff ..).after (Eff.wr Eff.refl rfl (KeySet.any_fam _ rfl)) rfl) rfl
  · exact Eff.refl

theorem State.captureEnd_eff (s : State) :
    Eff (withSide [.domains, .loop]) (sideAnd [.fam (K.lslotHoldReason 0) 8, .fam (K.stripStripRef 0) 16, .one K.loopsLoopState,
        .one K.loopsStatus]) s (State.captureEnd s) := by
  unfold State.captureEnd
  extract_lets +onlyGivenNames x1
  clear_value (ex1 : x1 = _)
  refine Eff.have ex1 ((State.apprPut_eff ..).after ((State.apprPut_eff ..).after ((State.apprPut_eff ..).after Eff.refl rfl) rfl)
      rfl) fun hx1 => ?_
  extract_lets +onlyGivenNames x2
  clear_value (ex2 : x2 = _)
  refine Eff.have ex2 (Eff.foldl (fun x3 _ hx3 => ((captureCam_eff ..).after hx3 rfl)) hx1) fun hx2 => ?_
  extract_lets +onlyGivenNames x4
  clear_value (ex4 : x4 = _)
  refine Eff.have ex4 (Eff.foldl (fun x5 _ hx5 => ((captureStrip_eff ..).after hx5 rfl)) hx2) fun hx4 => ?_
  exact (State.setLoopState_eff ..).after ((State.setLoop_eff ..).after hx4 rfl) rfl

theorem State.captureStep_eff (s : State) :
    Eff (withSide [.domains, .loop]) (sideAnd [.fam (K.lslotHoldReason 0) 8, .fam (K.stripStripRef 0) 16, .one K.loopsLoopState,
        .one K.loopsStatus]) s (State.captureStep s) := by
  unfold State.captureStep
  split
  · exact (State.setLoop_eff ..).after Eff.refl rfl
  · exact Eff.ite ((State.captureEnd_eff ..).after Eff.refl rfl) ((State.setLoop_eff ..).after Eff.refl rfl)

theorem State.clearFrozen_eff (s : State) :
    Eff (withSide [.mem]) (sideAnd [.fam (K.portBytesRead 0) 12, .fam (K.portBytesWritten 0) 12, .one K.dramLastMapError, .one
        K.dramMapErrors, .one K.dramMemStatus, .one K.loopsFrozenNozzles]) s (State.clearFrozen s) := by
  unfold State.clearFrozen
  extract_lets +onlyGivenNames x1
  clear_value (ex1 : x1 = _)
  refine Eff.have ex1 (Eff.foldl (fun x2 _ hx2 =>
      (by generalize eg5 : State.blockRead _ _ _ _ = g5; obtain ⟨p3, p4⟩ := g5; exact Eff.have (congrArg (fun p => p.2) eg5).symm ((State.blockRead_eff ..).after hx2 rfl) fun hp4 => (by (try dsimp -zeta -proj only); exact ((State.blockWrite_eff ..).after hp4 rfl))))
      Eff.refl) fun hx1 => ?_
  exact Eff.wr hx1 rfl rfl

theorem State.clearRefs_eff (s : State) :
    Eff (withSide [.domains, .mem, .loop]) (sideAnd [.fam (K.portBytesWritten 0) 12, .fam (K.stripStripErr 0) 16, .fam
        (K.stripStripRef 0) 16, .one K.dramLastMapError, .one K.dramMapErrors, .one K.dramMemStatus]) s (State.clearRefs s) := by
  unfold State.clearRefs
  extract_lets +onlyGivenNames x1
  clear_value (ex1 : x1 = _)
  refine Eff.have ex1 (Eff.foldl (fun x2 _ hx2 => ((State.blockWrite_eff ..).after hx2 rfl)) Eff.refl) fun hx1 => ?_
  extract_lets +onlyGivenNames x3
  clear_value (ex3 : x3 = _)
  refine Eff.have ex3 (Eff.foldl (fun x4 _ hx4 => (Eff.wr (Eff.wr hx4 rfl (KeySet.any_fam _ rfl)) rfl (KeySet.any_fam _ rfl)))
      hx1) fun hx3 => ?_
  extract_lets +onlyGivenNames x5
  clear_value (ex5 : x5 = _)
  refine Eff.have ex5 ((State.domWrite_eff ..).after hx3 rfl) fun hx5 => ?_
  exact (State.setLoop_eff ..).after hx5 rfl

theorem State.loopRunStart_eff (s : State) :
    Eff [.regs, .loop] [.fam (K.lslotFreshW 0) 8, .one K.loopsWindow] s (State.loopRunStart s) := by
  unfold State.loopRunStart
  extract_lets +onlyGivenNames x1
  clear_value (ex1 : x1 = _)
  refine Eff.have ex1 (Eff.foldl (fun x2 _ hx2 => (Eff.wr hx2 rfl (KeySet.any_fam _ rfl))) Eff.refl) fun hx1 => ?_
  exact (State.setLoop_eff ..).after (Eff.wr hx1 rfl rfl) rfl

theorem State.lampPut_eff (s : State) (n : Nat) (vals : List (Nat × Nat)) :
    Eff (withSide [.staged, .domains, .pool, .memory, .loop]) [.all] s (State.lampPut s n vals) := by
  unfold State.lampPut
  split
  · rename_i q1
    extract_lets +onlyGivenNames f2
    extract_lets +onlyGivenNames v3
    clear_value v3
    extract_lets +onlyGivenNames x4
    clear_value (ex4 : x4 = _)
    refine Eff.have ex4 ((State.setLoop_eff ..).after (Eff.to (congrArg (fun p => p.2) q1).symm ((State.loopPut_eff ..).after
        Eff.refl rfl)) rfl) fun hx4 => ?_
    exact (State.raise_eff ..).after ((State.loopRecord_eff ..).after hx4 rfl) rfl
  · rename_i q5
    exact (State.setLoop_eff ..).after (Eff.to (congrArg (fun p => p.2) q5).symm ((State.loopPut_eff ..).after Eff.refl rfl)) rfl
  · rename_i q6
    exact Eff.to (congrArg (fun p => p.2) q6).symm ((State.loopPut_eff ..).after Eff.refl rfl)

theorem State.loopRetry_eff (s : State) :
    Eff (withSide [.staged, .domains, .pool, .memory, .loop]) [.all] s (State.loopRetry s) := by
  unfold State.loopRetry
  extract_lets +onlyGivenNames v1
  clear_value v1
  extract_lets +onlyGivenNames v2
  clear_value v2
  extract_lets +onlyGivenNames x3
  clear_value (ex3 : x3 = _)
  refine Eff.have ex3 ((State.setLoop_eff ..).after Eff.refl rfl) fun hx3 => ?_
  exact Eff.foldl (fun x4 _ hx4 =>
      (by extract_lets +onlyGivenNames v5; clear_value v5; exact (Eff.ite ((State.lampPut_eff ..).after hx4 rfl) (by split; exact hx4; exact (by split; rename_i q6; exact (Eff.ite ((State.awaitDelay_eff ..).after (Eff.to (congrArg (fun p => p.2) q6).symm ((State.regPut_eff ..).after hx4 rfl)) rfl) (Eff.to (congrArg (fun p => p.2) q6).symm ((State.regPut_eff ..).after hx4 rfl))); rename_i q7; exact (Eff.to (congrArg (fun p => p.2) q7).symm ((State.regPut_eff ..).after hx4 rfl)))))))
      hx3

theorem State.lampWant_eff (s : State) (n : Nat) :
    Eff [.free] [] s (State.lampWant s n).2 := by
  unfold State.lampWant
  split
  · exact Eff.pair2 Eff.refl
  · split
    · split
      · split
        · exact Eff.pair2 Eff.refl
        · exact Eff.foldlP Prod.snd (fun x1 _ hx1 =>
            (by extract_lets +onlyGivenNames v2; clear_value v2; exact (by extract_lets +onlyGivenNames v3; clear_value v3; exact (by split; exact (by generalize eg6 : State.fresh _ = g6; obtain ⟨p4, p5⟩ := g6; exact Eff.have (congrArg (fun p => p.2) eg6).symm ((State.fresh_eff ..).after hx1 rfl) fun hp5 => (by (try dsimp -zeta -proj only); exact (Eff.pair2 hp5))); exact (Eff.pair2 hx1)))))
            (Eff.pair2 Eff.refl)
      · exact Eff.pair2 Eff.refl
    · split
      · split
        · split
          · exact Eff.pair2 Eff.refl
          · split
            · generalize eg9 : State.fresh _ = g9
              obtain ⟨p7, p8⟩ := g9
              refine Eff.have (congrArg (fun p => p.2) eg9).symm ((State.fresh_eff ..).after Eff.refl rfl) fun hp8 => ?_
              (try dsimp -zeta -proj only)
              exact Eff.pair2 hp8
            · extract_lets +onlyGivenNames v10
              clear_value v10
              extract_lets +onlyGivenNames v11
              clear_value v11
              extract_lets +onlyGivenNames v12
              clear_value v12
              exact Eff.pair2 Eff.refl
        · exact Eff.pair2 Eff.refl
      · exact Eff.pair2 Eff.refl

theorem State.lampEnd_eff (s : State) (n : Nat) :
    Eff (withSide [.free, .staged, .domains, .pool, .memory, .loop]) [.all] s (State.lampEnd s n) := by
  unfold State.lampEnd
  extract_lets +onlyGivenNames v1
  clear_value v1
  refine Eff.ite ?_ ?_
  · exact Eff.refl
  · refine Eff.ite ?_ ?_
    · exact Eff.ite Eff.refl ((State.setLoop_eff ..).after Eff.refl rfl)
    · extract_lets +onlyGivenNames v2
      clear_value v2
      extract_lets +onlyGivenNames x3
      clear_value (ex3 : x3 = _)
      refine Eff.have ex3 ((State.setLoop_eff ..).after Eff.refl rfl) fun hx3 => ?_
      split
      · rename_i q4
        exact Eff.to (congrArg (fun p => p.2) q4).symm ((State.lampWant_eff ..).after hx3 rfl)
      · rename_i q5
        extract_lets +onlyGivenNames v6
        clear_value v6
        extract_lets +onlyGivenNames v7
        clear_value v7
        extract_lets +onlyGivenNames v8
        clear_value v8
        extract_lets +onlyGivenNames v9
        clear_value v9
        extract_lets +onlyGivenNames v10
        clear_value v10
        extract_lets +onlyGivenNames x11
        clear_value (ex11 : x11 = _)
        refine Eff.have ex11 ((State.setLoop_eff ..).after (Eff.to (congrArg (fun p => p.2) q5).symm ((State.lampWant_eff
            ..).after hx3 rfl)) rfl) fun hx11 => ?_
        extract_lets +onlyGivenNames x12
        clear_value (ex12 : x12 = _)
        refine Eff.have ex12 (Eff.ite (Eff.flag hx11 rfl rfl) hx11) fun hx12 => ?_
        extract_lets +onlyGivenNames v13
        clear_value v13
        extract_lets +onlyGivenNames x14
        clear_value (ex14 : x14 = _)
        refine Eff.have ex14 (Eff.ite hx12 (Eff.flag hx12 rfl rfl)) fun hx14 => ?_
        exact (State.lampPut_eff ..).after hx14 rfl

theorem State.stripEnd_eff (s : State) (i : Nat) :
    Eff [.regs] [.fam (K.stripStripErr 0) 16, .fam (K.stripStripMean 0) 16] s (State.stripEnd s i) := by
  unfold State.stripEnd
  split
  · refine Eff.ite ?_ ?_
    · exact Eff.refl
    · extract_lets +onlyGivenNames v1
      clear_value v1
      extract_lets +onlyGivenNames x2
      clear_value (ex2 : x2 = _)
      refine Eff.have ex2 (Eff.wr Eff.refl rfl (KeySet.any_fam _ rfl)) fun hx2 => ?_
      exact Eff.ite (Eff.wr hx2 rfl (KeySet.any_fam _ rfl)) hx2
  · exact Eff.refl

theorem State.showStrips_eff (s : State) (i : Nat) :
    Eff [.regs] [.fam (K.lslotStripErrMax 0) 8, .fam (K.lslotWorstStrip 0) 8] s (State.showStrips s i) := by
  unfold State.showStrips
  split
  · exact Eff.wr (Eff.wr Eff.refl rfl (KeySet.any_fam _ rfl)) rfl (KeySet.any_fam _ rfl)
  · extract_lets +onlyGivenNames f1
    extract_lets +onlyGivenNames v2
    clear_value v2
    exact Eff.wr (Eff.wr Eff.refl rfl (KeySet.any_fam _ rfl)) rfl (KeySet.any_fam _ rfl)

theorem State.foldStart_eff (s : State) (cap : Bool) :
    Eff (withSide [.loop]) (sideAnd [.one K.loopsFoldLate, .one K.loopsStatus]) s (State.foldStart s cap) := by
  unfold State.foldStart
  split
  · exact Eff.refl
  · refine Eff.ite ?_ ?_
    · exact Eff.flag (Eff.inc Eff.refl rfl rfl) rfl rfl
    · split
      · exact Eff.refl
      · extract_lets +onlyGivenNames v1
        clear_value v1
        exact (State.setLoop_eff ..).after Eff.refl rfl

theorem State.windowOpen_eff (s : State) (band : Int) :
    Eff [.loop] [] s (State.windowOpen s band) := by
  unfold State.windowOpen
  extract_lets +onlyGivenNames v1
  clear_value v1
  extract_lets +onlyGivenNames v2
  clear_value v2
  exact (State.setLoop_eff ..).after Eff.refl rfl

theorem State.windowEnd_eff (s : State) :
    Eff (withSide [.free, .staged, .domains, .pool, .memory, .loop]) [.all] s (State.windowEnd s) := by
  unfold State.windowEnd
  extract_lets +onlyGivenNames v1
  clear_value v1
  extract_lets +onlyGivenNames x2
  clear_value (ex2 : x2 = _)
  refine Eff.have ex2 ((State.loopRetry_eff ..).after Eff.refl rfl) fun hx2 => ?_
  extract_lets +onlyGivenNames x3
  clear_value (ex3 : x3 = _)
  refine Eff.have ex3 (Eff.foldl (fun x4 _ hx4 => ((State.lampEnd_eff ..).after hx4 rfl)) hx2) fun hx3 => ?_
  extract_lets +onlyGivenNames x5
  clear_value (ex5 : x5 = _)
  refine Eff.have ex5 (Eff.foldl (fun x6 _ hx6 => ((State.stripEnd_eff ..).after hx6 rfl)) hx3) fun hx5 => ?_
  extract_lets +onlyGivenNames x7
  clear_value (ex7 : x7 = _)
  refine Eff.have ex7 ((State.showHolds_eff ..).after (Eff.foldl (fun x8 _ hx8 => ((State.showStrips_eff ..).after hx8 rfl)) hx5)
      rfl) fun hx7 => ?_
  extract_lets +onlyGivenNames x9
  clear_value (ex9 : x9 = _)
  refine Eff.have ex9 ((State.foldStart_eff ..).after hx7 rfl) fun hx9 => ?_
  extract_lets +onlyGivenNames x10
  clear_value (ex10 : x10 = _)
  refine Eff.have ex10 (Eff.ite ((State.captureAdd_eff ..).after hx9 rfl) hx9) fun hx10 => ?_
  extract_lets +onlyGivenNames x11
  clear_value (ex11 : x11 = _)
  refine Eff.have ex11 (Eff.wr hx10 rfl rfl) fun hx11 => ?_
  extract_lets +onlyGivenNames x12
  clear_value (ex12 : x12 = _)
  refine Eff.have ex12 (Eff.ite hx11 ((State.captureStep_eff ..).after hx11 rfl)) fun hx12 => ?_
  exact (State.windowOpen_eff ..).after hx12 rfl

theorem windowsEnd_eff (j : Int) (a1 : Nat) (s : State) :
    Eff (withSide [.free, .staged, .domains, .pool, .memory, .loop]) [.all] s (windowsEnd j a1 s) := by
  unfold windowsEnd
  split
  · exact Eff.refl
  · exact Eff.ite ((windowsEnd_eff ..).after ((State.windowEnd_eff ..).after Eff.refl rfl) rfl) Eff.refl

theorem State.loopBegin_eff (s : State) (j : Int) :
    Eff (withSide [.free, .staged, .domains, .pool, .memory, .loop]) [.all] s (State.loopBegin s j) := by
  unfold State.loopBegin
  refine Eff.ite ?_ ?_
  · exact Eff.refl
  · extract_lets +onlyGivenNames x1
    clear_value (ex1 : x1 = _)
    refine Eff.have ex1 ((windowsEnd_eff ..).after Eff.refl rfl) fun hx1 => ?_
    exact Eff.ite hx1 ((State.windowOpen_eff ..).after hx1 rfl)

theorem State.loopRead_eff (s : State) (word : Nat) :
    Eff sideParts (sideAnd [.fam (K.portBytesRead 0) 12, .one K.dramLastMapError, .one K.dramMapErrors, .one K.dramMemStatus]) s
        (State.loopRead s word).2 := by
  unfold State.loopRead
  generalize eg3 : State.blockRead _ _ _ _ = g3
  obtain ⟨p1, p2⟩ := g3
  refine Eff.have (congrArg (fun p => p.2) eg3).symm ((State.blockRead_eff ..).after Eff.refl rfl) fun hp2 => ?_
  (try dsimp -zeta -proj only)
  exact Eff.pair2 hp2

theorem State.loopWrite_eff (s : State) (word : Nat) (r : LoopRec) :
    Eff (withSide [.mem]) (sideAnd [.fam (K.portBytesWritten 0) 12, .one K.dramLastMapError, .one K.dramMapErrors, .one
        K.dramMemStatus]) s (State.loopWrite s word r) := by
  unfold State.loopWrite
  exact (State.blockWrite_eff ..).after Eff.refl rfl

theorem State.foldTwin_eff (s : State) (f : LoopFold) (noz : Nat) (steps : List (Nat × Int)) :
    Eff (withSide [.mem]) (sideAnd [.fam (K.portBytesRead 0) 12, .fam (K.portBytesWritten 0) 12, .one K.dramLastMapError, .one
        K.dramMapErrors, .one K.dramMemStatus]) s (State.foldTwin s f noz steps).2 := by
  unfold State.foldTwin
  extract_lets +onlyGivenNames v1
  clear_value v1
  split
  · exact Eff.pair2 Eff.refl
  · extract_lets +onlyGivenNames v2
    clear_value v2
    extract_lets +onlyGivenNames v3
    clear_value v3
    generalize eg7 : State.loopRead _ _ = g7
    obtain ⟨p4, p5⟩ := g7
    refine Eff.have (congrArg (fun p => p.2) eg7).symm ((State.loopRead_eff ..).after Eff.refl rfl) fun hp5 => ?_
    (try dsimp -zeta -proj only)
    extract_lets +onlyGivenNames v6
    clear_value v6
    exact Eff.pair2 ((State.loopWrite_eff ..).after hp5 rfl)

theorem State.frozen_eff (s : State) (f : LoopFold) (word : Nat) (r : LoopRec) :
    Eff (withSide [.memory]) (sideAnd [.fam (K.qsFill 0) 64, .fam (K.qsFillPeak 0) 64, .fam (K.qsItemsIn 0) 64, .fam
        (K.qsNoCreditCount 0) 64, .fam (K.qsQueueStatus 0) 64, .one K.loopsFrozenNozzles, .one K.loopsStatus, .one
        K.quesSizeErrors]) s (State.frozen s f word r) := by
  unfold State.frozen
  extract_lets +onlyGivenNames x1
  clear_value (ex1 : x1 = _)
  refine Eff.have ex1 ((State.loopRecord_eff ..).after Eff.refl rfl) fun hx1 => ?_
  exact (State.raise_eff ..).after (Eff.flag (Eff.inc hx1 rfl rfl) rfl rfl) rfl

theorem State.queueLoop_eff (s : State) (b : Nat) (l : List LoopUpd) :
    Eff [.slip] [] s (State.queueLoop s b l) := by
  unfold State.queueLoop
  exact Eff.ite Eff.refl ((State.setBar_eff ..).after Eff.refl rfl)

theorem loopApprove_eff (s : State) :
    Eff (withSide [.domains, .mem, .loop]) (sideAnd [.fam (K.lslotHoldReason 0) 8, .fam (K.portBytesRead 0) 12, .fam
        (K.portBytesWritten 0) 12, .fam (K.stripStripErr 0) 16, .fam (K.stripStripRef 0) 16, .one K.dramLastMapError, .one
        K.dramMapErrors, .one K.dramMemStatus, .one K.loopsApproveTime, .one K.loopsFrozenNozzles, .one K.loopsLoopState, .one
        K.loopsStatus]) s (loopApprove s) := by
  unfold loopApprove
  extract_lets +onlyGivenNames x1
  clear_value (ex1 : x1 = _)
  refine Eff.have ex1 ((State.clearFrozen_eff ..).after ((State.clearRefs_eff ..).after Eff.refl rfl) rfl) fun hx1 => ?_
  extract_lets +onlyGivenNames x2
  clear_value (ex2 : x2 = _)
  refine Eff.have ex2 (Eff.wr hx1 rfl rfl) fun hx2 => ?_
  extract_lets +onlyGivenNames v3
  clear_value v3
  extract_lets +onlyGivenNames x4
  clear_value (ex4 : x4 = _)
  refine Eff.have ex4 (Eff.ite hx2 ((State.setLoop_eff ..).after hx2 rfl)) fun hx4 => ?_
  exact (State.setLoopState_eff ..).after hx4 rfl

theorem approveSet_eff (a : Acc) (s : State) :
    Eff (withSide [.domains, .mem, .loop]) (accAnd [.fam (K.lslotHoldReason 0) 8, .fam (K.portBytesRead 0) 12, .fam
        (K.portBytesWritten 0) 12, .fam (K.stripStripErr 0) 16, .fam (K.stripStripRef 0) 16, .one K.dramLastMapError, .one
        K.dramMapErrors, .one K.dramMemStatus, .one K.loopsApproveTime, .one K.loopsFrozenNozzles, .one K.loopsLoopState, .one
        K.loopsStatus]) s (approveSet a s) := by
  unfold approveSet
  unfold approveWrite
  exact Eff.act Eff.refl (fun y1 hy1 => ((loopApprove_eff ..).after hy1 rfl)) rfl

theorem unlockSet_eff (a : Acc) (s : State) :
    Eff (withSide [.domains, .mem, .loop]) (accAnd [.fam (K.lslotHoldReason 0) 8, .fam (K.portBytesWritten 0) 12, .fam
        (K.stripStripErr 0) 16, .fam (K.stripStripRef 0) 16, .one K.dramLastMapError, .one K.dramMapErrors, .one K.dramMemStatus,
        .one K.loopsLoopState, .one K.loopsStatus]) s (unlockSet a s) := by
  unfold unlockSet
  unfold approveWrite
  exact Eff.act Eff.refl (fun y1 hy1 => ((State.setLoopState_eff ..).after ((State.clearRefs_eff ..).after hy1 rfl) rfl)) rfl

theorem holdSet_eff (a : Acc) (s : State) :
    Eff sideParts (accAnd [.fam (K.lslotHoldReason 0) 8, .one K.loopsLoopState, .one K.loopsStatus]) s (holdSet a s) := by
  unfold holdSet
  unfold approveWrite
  exact Eff.act Eff.refl (fun y1 hy1 => ((State.setLoopState_eff ..).after hy1 rfl)) rfl

theorem resumeSet_eff (a : Acc) (s : State) :
    Eff sideParts (accAnd [.fam (K.lslotHoldReason 0) 8, .one K.loopsLoopState, .one K.loopsStatus]) s (resumeSet a s) := by
  unfold resumeSet
  unfold approveWrite
  exact Eff.act Eff.refl (fun y1 hy1 => ((State.setLoopState_eff ..).after hy1 rfl)) rfl

theorem loopRestore_eff (s : State) :
    Eff sideParts (sideAnd [.fam (K.lslotHoldReason 0) 8, .fam (K.stripStripRef 0) 16, .one K.loopsApproveTime, .one
        K.loopsFrozenNozzles, .one K.loopsLoopState, .one K.loopsStatus]) s (loopRestore s) := by
  unfold loopRestore
  extract_lets +onlyGivenNames x1
  clear_value (ex1 : x1 = _)
  refine Eff.have ex1 (Eff.foldl (fun x2 _ hx2 => (Eff.ite (Eff.wr hx2 rfl (KeySet.any_fam _ rfl)) hx2)) Eff.refl) fun hx1 => ?_
  extract_lets +onlyGivenNames x3
  clear_value (ex3 : x3 = _)
  refine Eff.have ex3 (Eff.wr hx1 rfl rfl) fun hx3 => ?_
  extract_lets +onlyGivenNames v4
  clear_value v4
  exact (State.setLoopState_eff ..).after (Eff.wr hx3 rfl rfl) rfl

theorem restoreSet_eff (a : Acc) (s : State) :
    Eff sideParts (accAnd [.fam (K.lslotHoldReason 0) 8, .fam (K.stripStripRef 0) 16, .one K.loopsApproveTime, .one
        K.loopsFrozenNozzles, .one K.loopsLoopState, .one K.loopsStatus]) s (restoreSet a s) := by
  unfold restoreSet
  extract_lets +onlyGivenNames v1
  clear_value v1
  unfold approveWrite
  exact Eff.act Eff.refl (fun y2 hy2 => ((loopRestore_eff ..).after hy2 rfl)) rfl

theorem execApprove_eff (a : Acc) (s : State) {t : State} (h : execApprove a s = .next t) :
    Eff (withSide [.domains, .mem, .loop]) (accAnd [.fam (K.lslotHoldReason 0) 8, .fam (K.portBytesRead 0) 12, .fam
        (K.portBytesWritten 0) 12, .fam (K.stripStripErr 0) 16, .fam (K.stripStripRef 0) 16, .one K.dramLastMapError, .one
        K.dramMapErrors, .one K.dramMemStatus, .one K.loopsApproveTime, .one K.loopsFrozenNozzles, .one K.loopsLoopState, .one
        K.loopsStatus]) s t := by
  unfold execApprove at h
  cases h
  exact (approveSet_eff ..).after Eff.refl rfl

theorem execHold_eff (a : Acc) (s : State) {t : State} (h : execHold a s = .next t) :
    Eff sideParts (accAnd [.fam (K.lslotHoldReason 0) 8, .one K.loopsLoopState, .one K.loopsStatus]) s t := by
  unfold execHold at h
  cases h
  exact (holdSet_eff ..).after Eff.refl rfl

theorem foldNozzle_eff (f : LoopFold) (s : FoldAcc × State) (noz : Nat) :
    Eff (withSide [.mem, .memory]) (sideAnd [.fam (K.portBytesRead 0) 12, .fam (K.portBytesWritten 0) 12, .fam (K.qsFill 0) 64,
        .fam (K.qsFillPeak 0) 64, .fam (K.qsItemsIn 0) 64, .fam (K.qsNoCreditCount 0) 64, .fam (K.qsQueueStatus 0) 64, .one
        K.dramLastMapError, .one K.dramMapErrors, .one K.dramMemStatus, .one K.loopsDiscards, .one K.loopsFrozenNozzles, .one
        K.loopsStatus, .one K.quesSizeErrors]) s.2 (foldNozzle f s noz).2 := by
  unfold foldNozzle
  extract_lets +onlyGivenNames v1
  clear_value v1
  extract_lets +onlyGivenNames x2
  clear_value (ex2 : x2 = _)
  refine Eff.have ex2 Eff.refl fun hx2 => ?_
  extract_lets +onlyGivenNames v3
  clear_value v3
  split
  · exact Eff.refl
  · extract_lets +onlyGivenNames v4
    clear_value v4
    split
    · exact Eff.pair2 (Eff.inc hx2 rfl rfl)
    · generalize eg16 : State.loopRead _ _ = g16
      obtain ⟨p5, p6⟩ := g16
      refine Eff.have (congrArg (fun p => p.2) eg16).symm ((State.loopRead_eff ..).after hx2 rfl) fun hp6 => ?_
      (try dsimp -zeta -proj only)
      extract_lets +onlyGivenNames v7
      clear_value v7
      extract_lets +onlyGivenNames v8
      clear_value v8
      extract_lets +onlyGivenNames x9
      clear_value (ex9 : x9 = _)
      refine Eff.have ex9 (Eff.ite ((State.frozen_eff ..).after hp6 rfl) hp6) fun hx9 => ?_
      extract_lets +onlyGivenNames v10
      clear_value v10
      split
      · exact Eff.pair2 ((State.loopWrite_eff ..).after hx9 rfl)
      · extract_lets +onlyGivenNames x11
        clear_value (ex11 : x11 = _)
        refine Eff.have ex11 ((State.loopWrite_eff ..).after hx9 rfl) fun hx11 => ?_
        extract_lets +onlyGivenNames v12
        clear_value v12
        generalize eg15 : State.foldTwin _ _ _ _ = g15
        obtain ⟨p13, p14⟩ := g15
        refine Eff.have (congrArg (fun p => p.2) eg15).symm ((State.foldTwin_eff ..).after hx11 rfl) fun hp14 => ?_
        exact Eff.pair2 hp14

theorem loopFoldDone_eff (s : State) :
    Eff (withSide [.mem, .memory, .slip, .loop]) (sideAnd [.fam (K.lslotLastFold 0) 8, .fam (K.lslotNozzlesUpdated 0) 8, .fam
        (K.portBytesRead 0) 12, .fam (K.portBytesWritten 0) 12, .fam (K.qsFill 0) 64, .fam (K.qsFillPeak 0) 64, .fam (K.qsItemsIn
        0) 64, .fam (K.qsNoCreditCount 0) 64, .fam (K.qsQueueStatus 0) 64, .one K.dramLastMapError, .one K.dramMapErrors, .one
        K.dramMemStatus, .one K.loopsDiscards, .one K.loopsFrozenNozzles, .one K.loopsStatus, .one K.quesSizeErrors]) s
        (loopFoldDone s) := by
  unfold loopFoldDone
  split
  · exact Eff.refl
  · extract_lets +onlyGivenNames v1
    clear_value v1
    extract_lets +onlyGivenNames x2
    clear_value (ex2 : x2 = _)
    refine Eff.have ex2 ((State.setLoop_eff ..).after Eff.refl rfl) fun hx2 => ?_
    extract_lets +onlyGivenNames x3
    clear_value (ex3 : x3 = _)
    refine Eff.have ex3 (Eff.ite ((State.approveKnots_eff ..).after hx2 rfl) hx2) fun hx3 => ?_
    extract_lets +onlyGivenNames v4
    clear_value v4
    extract_lets +onlyGivenNames x5
    clear_value (ex5 : x5 = _)
    refine Eff.have (congrArg (fun p => p.2) ex5) (Eff.foldlP Prod.snd (fun x6 _ hx6 => ((foldNozzle_eff ..).after hx6 rfl))
        (Eff.pair2 hx3)) fun hx5 => ?_
    extract_lets +onlyGivenNames v7
    clear_value v7
    extract_lets +onlyGivenNames x8
    clear_value (ex8 : x8 = _)
    refine Eff.have ex8 ((State.queueLoop_eff ..).after ((State.queueLoop_eff ..).after hx5 rfl) rfl) fun hx8 => ?_
    extract_lets +onlyGivenNames x9
    clear_value (ex9 : x9 = _)
    refine Eff.have ex9 (Eff.wr (Eff.wr hx8 rfl (KeySet.any_fam _ rfl)) rfl (KeySet.any_fam _ rfl)) fun hx9 => ?_
    extract_lets +onlyGivenNames v10
    clear_value v10
    exact (State.raise_eff ..).after ((State.loopRecord_eff ..).after hx9 rfl) rfl

theorem execLoopFoldDone_eff (s : State) {t : State} (h : execLoopFoldDone s = .next t) :
    Eff (withSide [.mem, .memory, .slip, .loop]) (sideAnd [.fam (K.lslotLastFold 0) 8, .fam (K.lslotNozzlesUpdated 0) 8, .fam
        (K.portBytesRead 0) 12, .fam (K.portBytesWritten 0) 12, .fam (K.qsFill 0) 64, .fam (K.qsFillPeak 0) 64, .fam (K.qsItemsIn
        0) 64, .fam (K.qsNoCreditCount 0) 64, .fam (K.qsQueueStatus 0) 64, .one K.dramLastMapError, .one K.dramMapErrors, .one
        K.dramMemStatus, .one K.loopsDiscards, .one K.loopsFrozenNozzles, .one K.loopsStatus, .one K.quesSizeErrors]) s t := by
  unfold execLoopFoldDone at h
  cases h
  exact (loopFoldDone_eff ..).after Eff.refl rfl

theorem loopWindowEnd_eff (s : State) :
    Eff (withSide [.free, .staged, .domains, .pool, .memory, .loop]) [.all] s (loopWindowEnd s) := by
  unfold loopWindowEnd
  split
  · exact Eff.refl
  · exact Eff.ite ((State.windowEnd_eff ..).after Eff.refl rfl) Eff.refl

theorem execLoopWindowEnd_eff (s : State) {t : State} (h : execLoopWindowEnd s = .next t) :
    Eff (withSide [.free, .staged, .domains, .pool, .memory, .loop]) [.all] s t := by
  unfold execLoopWindowEnd at h
  cases h
  exact (loopWindowEnd_eff ..).after Eff.refl rfl

theorem execRestore_eff (a : Acc) (s : State) {t : State} (h : execRestore a s = .next t) :
    Eff sideParts (accAnd [.fam (K.lslotHoldReason 0) 8, .fam (K.stripStripRef 0) 16, .one K.loopsApproveTime, .one
        K.loopsFrozenNozzles, .one K.loopsLoopState, .one K.loopsStatus]) s t := by
  unfold execRestore at h
  cases h
  exact (restoreSet_eff ..).after Eff.refl rfl

theorem execResume_eff (a : Acc) (s : State) {t : State} (h : execResume a s = .next t) :
    Eff sideParts (accAnd [.fam (K.lslotHoldReason 0) 8, .one K.loopsLoopState, .one K.loopsStatus]) s t := by
  unfold execResume at h
  cases h
  exact (resumeSet_eff ..).after Eff.refl rfl

theorem execUnlock_eff (a : Acc) (s : State) {t : State} (h : execUnlock a s = .next t) :
    Eff (withSide [.domains, .mem, .loop]) (accAnd [.fam (K.lslotHoldReason 0) 8, .fam (K.portBytesWritten 0) 12, .fam
        (K.stripStripErr 0) 16, .fam (K.stripStripRef 0) 16, .one K.dramLastMapError, .one K.dramMapErrors, .one K.dramMemStatus,
        .one K.loopsLoopState, .one K.loopsStatus]) s t := by
  unfold execUnlock at h
  cases h
  exact (unlockSet_eff ..).after Eff.refl rfl

end Sys2Proof.Machine
end

