-- ==== Sys2Proof/Laws/Gauge.lean ====
section
/-! SUPPORT. What each operation of Machine/Gauge.lean may change. -/

-- The proofs of this file are checked one after another, in one thread.
set_option Elab.async false

namespace Sys2Proof.Machine

theorem State.fadeDone_eff (s : State) (c : Nat) :
    Eff sideParts sideKeys s (State.fadeDone s c) := by
  unfold State.fadeDone
  exact Eff.arrive ((State.raise_eff ..).after Eff.refl rfl) rfl

theorem State.setGa_eff (s : State) (c : Nat) (a1 : Ga) :
    Eff [.gauge] [] s (State.setGa s c a1) := by
  unfold State.setGa
  exact Eff.upd_gas Eff.refl rfl

theorem State.fadeEnd_eff (s : State) (c : Nat) (target : Nat) :
    Eff (withSide [.gauge]) (sideAnd [.fam (K.gasActiveBank 0) 16, .fam (K.gasFadeState 0) 16]) s (State.fadeEnd s c target) := by
  unfold State.fadeEnd
  exact (State.fadeDone_eff ..).after (Eff.wr (Eff.wr ((State.setGa_eff ..).after Eff.refl rfl) rfl (KeySet.any_fam _ rfl)) rfl
      (KeySet.any_fam _ rfl)) rfl

theorem State.gaUse_eff (s : State) (c : Nat) (input : Nat) (settle : Bool) (code : Int) (w : Nat) :
    Eff (withSide [.pins, .kiln, .loop]) (sideAnd [.fam (K.khHeadState 0) 128, .fam (K.khHeadStatus 0) 128, .fam (K.kpFaultCount
        0) 32, .fam (K.kpLastFaultTime 0) 32, .fam (K.kpPortState 0) 32, .fam (K.kpPortStatus 0) 32, .one K.fltFaultStatus, .one
        K.fltLastRetiredUnit, .one K.fltRetiredCount, .one K.fltTransientCount, .one K.kilnActiveHeads, .one K.kilnKilnStatus]) s
        (State.gaUse s c input settle code w) := by
  unfold State.gaUse
  extract_lets +onlyGivenNames x1
  clear_value (ex1 : x1 = _)
  refine Eff.have ex1 (Eff.ite (Eff.upd_scan Eff.refl rfl) (Eff.ite ((State.senseWord_eff ..).after Eff.refl rfl) Eff.refl)) fun
      hx1 => ?_
  exact Eff.ite (Eff.upd_loop hx1 rfl) hx1

theorem State.gaDeliver_eff (s : State) (c : Nat) (input : Nat) (settle : Bool) (over_ : Bool) (code : Int) :
    Eff (withSide [.pins, .memory, .kiln, .loop]) (sideAnd [.fam (K.gasLatest 0) 16, .fam (K.gasLost 0) 16, .fam (K.gasSamples 0)
        16, .fam (K.gasStatus 0) 16, .fam (K.khHeadState 0) 128, .fam (K.khHeadStatus 0) 128, .fam (K.kpFaultCount 0) 32, .fam
        (K.kpLastFaultTime 0) 32, .fam (K.kpPortState 0) 32, .fam (K.kpPortStatus 0) 32, .fam (K.qsFill 0) 64, .fam (K.qsFillPeak
        0) 64, .fam (K.qsItemsIn 0) 64, .fam (K.qsNoCreditCount 0) 64, .fam (K.qsQueueStatus 0) 64, .one K.fltFaultStatus, .one
        K.fltLastRetiredUnit, .one K.fltRetiredCount, .one K.fltTransientCount, .one K.kilnActiveHeads, .one K.kilnKilnStatus,
        .one K.quesSizeErrors]) s (State.gaDeliver s c input settle over_ code) := by
  unfold State.gaDeliver
  extract_lets +onlyGivenNames v1
  clear_value v1
  extract_lets +onlyGivenNames x2
  clear_value (ex2 : x2 = _)
  refine Eff.have ex2 (Eff.inc (Eff.wr Eff.refl rfl (KeySet.any_fam _ rfl)) rfl (KeySet.any_fam _ rfl)) fun hx2 => ?_
  extract_lets +onlyGivenNames x3
  clear_value (ex3 : x3 = _)
  refine Eff.have ex3 (Eff.ite (Eff.flag hx2 rfl (KeySet.any_fam _ rfl)) hx2) fun hx3 => ?_
  extract_lets +onlyGivenNames v4
  clear_value v4
  extract_lets +onlyGivenNames x5
  clear_value (ex5 : x5 = _)
  refine Eff.have ex5 (Eff.ite hx3
      (by split; rename_i q6; exact (Eff.to (congrArg (fun p => p.2) q6).symm ((State.offerTo_eff ..).after hx3 rfl)); rename_i q7; exact (Eff.flag (Eff.inc (Eff.to (congrArg (fun p => p.2) q7).symm ((State.offerTo_eff ..).after hx3 rfl)) rfl (KeySet.any_fam _ rfl)) rfl (KeySet.any_fam _ rfl))))
      fun hx5 => ?_
  exact (State.gaUse_eff ..).after hx5 rfl

theorem State.gaSettleWord_eff (s : State) (c : Nat) (input : Nat) :
    Eff (withSide [.free, .pins, .memory, .kiln, .loop]) (sideAnd [.fam (K.gasLatest 0) 16, .fam (K.gasLost 0) 16, .fam
        (K.gasSamples 0) 16, .fam (K.gasStatus 0) 16, .fam (K.khHeadState 0) 128, .fam (K.khHeadStatus 0) 128, .fam
        (K.kpFaultCount 0) 32, .fam (K.kpLastFaultTime 0) 32, .fam (K.kpPortState 0) 32, .fam (K.kpPortStatus 0) 32, .fam
        (K.qsFill 0) 64, .fam (K.qsFillPeak 0) 64, .fam (K.qsItemsIn 0) 64, .fam (K.qsNoCreditCount 0) 64, .fam (K.qsQueueStatus
        0) 64, .one K.fltFaultStatus, .one K.fltLastRetiredUnit, .one K.fltRetiredCount, .one K.fltTransientCount, .one
        K.kilnActiveHeads, .one K.kilnKilnStatus, .one K.quesSizeErrors]) s (State.gaSettleWord s c input) := by
  unfold State.gaSettleWord
  generalize eg3 : State.fresh _ = g3
  obtain ⟨p1, p2⟩ := g3
  refine Eff.have (congrArg (fun p => p.2) eg3).symm ((State.fresh_eff ..).after Eff.refl rfl) fun hp2 => ?_
  (try dsimp -zeta -proj only)
  exact (State.gaDeliver_eff ..).after hp2 rfl

theorem State.gaReset_eff (s : State) (c : Nat) :
    Eff (withSide [.free, .pins, .memory, .kiln, .gauge, .loop]) (sideAnd (joinKeys [.fam (K.gasActiveBank 0) 16, .fam
        (K.gasFadeState 0) 16, .fam (K.gasLatest 0) 16, .fam (K.gasLost 0) 16, .fam (K.gasSamples 0) 16, .fam (K.gasSettleLeft 0)
        16, .fam (K.gasStatus 0) 16, .fam (K.khHeadState 0) 128, .fam (K.khHeadStatus 0) 128, .fam (K.kpFaultCount 0) 32, .fam
        (K.kpLastFaultTime 0) 32, .fam (K.kpPortState 0) 32, .fam (K.kpPortStatus 0) 32, .fam (K.qsFill 0) 64, .fam (K.qsFillPeak
        0) 64, .fam (K.qsItemsIn 0) 64, .fam (K.qsNoCreditCount 0) 64, .fam (K.qsQueueStatus 0) 64, .one K.fltFaultStatus, .one
        K.fltLastRetiredUnit, .one K.fltRetiredCount, .one K.fltTransientCount, .one K.kilnActiveHeads, .one K.kilnKilnStatus]
        [.one K.quesSizeErrors])) s (State.gaReset s c) := by
  unfold State.gaReset
  extract_lets +onlyGivenNames x1
  clear_value (ex1 : x1 = _)
  refine Eff.have ex1 (by split; exact ((State.fadeEnd_eff ..).after Eff.refl rfl); exact Eff.refl) fun hx1 => ?_
  extract_lets +onlyGivenNames v2
  clear_value v2
  extract_lets +onlyGivenNames x3
  clear_value (ex3 : x3 = _)
  refine Eff.have ex3 ((State.setGa_eff ..).after hx1 rfl) fun hx3 => ?_
  extract_lets +onlyGivenNames x4
  clear_value (ex4 : x4 = _)
  refine Eff.have ex4 (Eff.wr hx3 rfl (KeySet.any_fam _ rfl)) fun hx4 => ?_
  refine Eff.ite ?_ ?_
  · split
    · exact (State.gaSettleWord_eff ..).after hx4 rfl
    · exact hx4
  · exact hx4

theorem State.gaApply_eff (s : State) (c : Nat) :
    Eff (withSide [.free, .pins, .memory, .kiln, .gauge, .loop]) (sideAnd (joinKeys [.fam (K.gasActiveBank 0) 16, .fam
        (K.gasFadeState 0) 16, .fam (K.gasLatest 0) 16, .fam (K.gasLost 0) 16, .fam (K.gasSamples 0) 16, .fam (K.gasSettleLeft 0)
        16, .fam (K.gasStatus 0) 16, .fam (K.khHeadState 0) 128, .fam (K.khHeadStatus 0) 128, .fam (K.kpFaultCount 0) 32, .fam
        (K.kpLastFaultTime 0) 32, .fam (K.kpPortState 0) 32, .fam (K.kpPortStatus 0) 32, .fam (K.qsFill 0) 64, .fam (K.qsFillPeak
        0) 64, .fam (K.qsItemsIn 0) 64, .fam (K.qsNoCreditCount 0) 64, .fam (K.qsQueueStatus 0) 64, .one K.fltFaultStatus, .one
        K.fltLastRetiredUnit, .one K.fltRetiredCount, .one K.fltTransientCount, .one K.kilnActiveHeads, .one K.kilnKilnStatus]
        [.one K.quesSizeErrors])) s (State.gaApply s c) := by
  unfold State.gaApply
  exact Eff.ite Eff.refl ((State.gaReset_eff ..).after Eff.refl rfl)

theorem State.gaCalAbort_eff (s : State) (c : Nat) :
    Eff [.regs, .gauge] [.fam (K.gasCalStatus 0) 16] s (State.gaCalAbort s c) := by
  unfold State.gaCalAbort
  exact Eff.ite Eff.refl (Eff.wr ((State.setGa_eff ..).after Eff.refl rfl) rfl (KeySet.any_fam _ rfl))

theorem State.gaCalAborts_eff (s : State) :
    Eff [.regs, .gauge] [.fam (K.gasCalStatus 0) 16] s (State.gaCalAborts s) := by
  unfold State.gaCalAborts
  exact Eff.foldl (fun x1 _ hx1 => ((State.gaCalAbort_eff ..).after hx1 rfl)) Eff.refl

theorem State.fadeTake_eff (s : State) (c : Nat) (target : Nat) :
    Eff (withSide [.gauge]) (sideAnd [.fam (K.gasFadeState 0) 16]) s (State.fadeTake s c target) := by
  unfold State.fadeTake
  exact Eff.ite ((State.fadeDone_eff ..).after Eff.refl rfl) (Eff.wr ((State.setGa_eff ..).after Eff.refl rfl) rfl (KeySet.any_fam
      _ rfl))

theorem State.fadeHeld_eff (s : State) (c : Nat) :
    Eff (withSide [.gauge]) (sideAnd [.fam (K.gasFadeState 0) 16, .fam (K.gasHeldRequest 0) 16]) s (State.fadeHeld s c) := by
  unfold State.fadeHeld
  split
  · exact Eff.refl
  · exact (State.fadeTake_eff ..).after (Eff.wr Eff.refl rfl (KeySet.any_fam _ rfl)) rfl

theorem State.fadeStep_eff (s : State) (c : Nat) (a1 : List Int) :
    Eff (withSide [.gauge]) (sideAnd [.fam (K.gasActiveBank 0) 16, .fam (K.gasFadeState 0) 16, .fam (K.gasHeldRequest 0) 16]) s
        (State.fadeStep s c a1).2 := by
  unfold State.fadeStep
  extract_lets +onlyGivenNames v1
  clear_value v1
  split
  · exact Eff.pair2 Eff.refl
  · extract_lets +onlyGivenNames v2
    clear_value v2
    extract_lets +onlyGivenNames v3
    clear_value v3
    extract_lets +onlyGivenNames v4
    clear_value v4
    extract_lets +onlyGivenNames v5
    clear_value v5
    extract_lets +onlyGivenNames x6
    clear_value (ex6 : x6 = _)
    refine Eff.have ex6 (Eff.ite ((State.fadeHeld_eff ..).after ((State.fadeEnd_eff ..).after Eff.refl rfl) rfl) ((State.setGa_eff
        ..).after Eff.refl rfl)) fun hx6 => ?_
    exact Eff.pair2 hx6

theorem State.gaFault_eff (s : State) (c : Nat) (bit : Nat) :
    Eff sideParts (sideAnd [.fam (K.gfltFaultCount 0) 16, .fam (K.gfltGaugeFaults 0) 16, .fam (K.gfltGaugeState 0) 16, .fam
        (K.gfltLastFaultTime 0) 16, .one K.fltFaultStatus, .one K.fltLastRetiredUnit, .one K.fltRetiredCount, .one
        K.fltTransientCount]) s (State.gaFault s c bit) := by
  unfold State.gaFault
  extract_lets +onlyGivenNames v1
  clear_value v1
  extract_lets +onlyGivenNames x2
  clear_value (ex2 : x2 = _)
  refine Eff.have ex2 (Eff.wr (Eff.inc Eff.refl rfl (KeySet.any_fam _ rfl)) rfl (KeySet.any_fam _ rfl)) fun hx2 => ?_
  extract_lets +onlyGivenNames x3
  clear_value (ex3 : x3 = _)
  refine Eff.have ex3 ((State.transient_eff ..).after hx2 rfl) fun hx3 => ?_
  exact Eff.ite ((State.retire_eff ..).after (Eff.wr (Eff.wr hx3 rfl (KeySet.any_fam _ rfl)) rfl (KeySet.any_fam _ rfl)) rfl) hx3

theorem State.gaCalEnd_eff (s : State) (c : Nat) (zero : Int) (ref : Int) :
    Eff (withSide [.staged, .boot, .gauge]) (sideAnd [.fam (K.gaGain 0) 16, .fam (K.gaOffset 0) 16, .fam (K.gasCalCount 0) 16,
        .fam (K.gasCalRef 0) 16, .fam (K.gasCalStatus 0) 16, .fam (K.gasCalTime 0) 16, .fam (K.gasCalZero 0) 16, .fam (K.gasStatus
        0) 16, .fam (K.gfltFaultCount 0) 16, .fam (K.gfltGaugeFaults 0) 16, .fam (K.gfltGaugeState 0) 16, .fam
        (K.gfltLastFaultTime 0) 16, .one K.calCalStatus, .one K.fltFaultStatus, .one K.fltLastRetiredUnit, .one K.fltRetiredCount,
        .one K.fltTransientCount, .sub (K.generation 0)]) s (State.gaCalEnd s c zero ref) := by
  unfold State.gaCalEnd
  extract_lets +onlyGivenNames v1
  clear_value v1
  extract_lets +onlyGivenNames v2
  clear_value v2
  extract_lets +onlyGivenNames v3
  clear_value v3
  extract_lets +onlyGivenNames x4
  clear_value (ex4 : x4 = _)
  refine Eff.have ex4 (Eff.wr ((State.setGa_eff ..).after Eff.refl rfl) rfl (KeySet.any_fam _ rfl)) fun hx4 => ?_
  extract_lets +onlyGivenNames x5
  clear_value (ex5 : x5 = _)
  refine Eff.have ex5 (Eff.wr (Eff.inc (Eff.wr hx4 rfl (KeySet.any_fam _ rfl)) rfl (KeySet.any_fam _ rfl)) rfl (KeySet.any_fam _
      rfl)) fun hx5 => ?_
  extract_lets +onlyGivenNames x6
  clear_value (ex6 : x6 = _)
  refine Eff.have ex6 (Eff.upd_calRecs hx5 rfl) fun hx6 => ?_
  extract_lets +onlyGivenNames x7
  clear_value (ex7 : x7 = _)
  refine Eff.have ex7 (Eff.arrive ((State.raise_eff ..).after ((State.calEnd_eff ..).after hx6 rfl) rfl) rfl) fun hx7 => ?_
  refine Eff.ite ?_ ?_
  · extract_lets +onlyGivenNames x8
    clear_value (ex8 : x8 = _)
    refine Eff.have ex8 (Eff.wr (Eff.wr hx7 rfl (KeySet.any_fam _ rfl)) rfl (KeySet.any_fam _ rfl)) fun hx8 => ?_
    extract_lets +onlyGivenNames x9
    clear_value (ex9 : x9 = _)
    refine Eff.have ex9 ((State.stage_eff ..).after ((State.stage_eff ..).after hx8 rfl) rfl) fun hx9 => ?_
    exact Eff.wr (Eff.inc hx9 rfl (KeySet.any_sub _ rfl)) rfl (KeySet.any_fam _ rfl)
  · exact (State.gaFault_eff ..).after (Eff.flag (Eff.wr hx7 rfl (KeySet.any_fam _ rfl)) rfl (KeySet.any_fam _ rfl)) rfl

theorem State.gaCalWord_eff (s : State) (c : Nat) (a1 : GaCal) (y : Int) :
    Eff (withSide [.staged, .boot, .gauge]) (sideAnd [.fam (K.gaGain 0) 16, .fam (K.gaOffset 0) 16, .fam (K.gasCalCount 0) 16,
        .fam (K.gasCalRef 0) 16, .fam (K.gasCalStatus 0) 16, .fam (K.gasCalTime 0) 16, .fam (K.gasCalZero 0) 16, .fam (K.gasStatus
        0) 16, .fam (K.gfltFaultCount 0) 16, .fam (K.gfltGaugeFaults 0) 16, .fam (K.gfltGaugeState 0) 16, .fam
        (K.gfltLastFaultTime 0) 16, .one K.calCalStatus, .one K.fltFaultStatus, .one K.fltLastRetiredUnit, .one K.fltRetiredCount,
        .one K.fltTransientCount, .sub (K.generation 0)]) s (State.gaCalWord s c a1 y) := by
  unfold State.gaCalWord
  refine Eff.ite ?_ ?_
  · exact (State.setGa_eff ..).after Eff.refl rfl
  · extract_lets +onlyGivenNames v1
    clear_value v1
    exact Eff.ite ((State.setGa_eff ..).after Eff.refl rfl) (Eff.ite ((State.gaCalEnd_eff ..).after Eff.refl rfl)
        ((State.setGa_eff ..).after Eff.refl rfl))

theorem State.gaClocks_eff (s : State) (c : Nat) (n : Nat) (bits : List Bool) :
    Eff [.clock, .gauge] [] s (State.gaClocks s c n bits) := by
  unfold State.gaClocks
  extract_lets +onlyGivenNames v1
  clear_value v1
  extract_lets +onlyGivenNames x2
  clear_value (ex2 : x2 = _)
  refine Eff.have ex2 ((State.at_eff ..).after Eff.refl rfl) fun hx2 => ?_
  extract_lets +onlyGivenNames v3
  clear_value v3
  exact (State.setGa_eff ..).after hx2 rfl

theorem State.gaValue_eff (s : State) (c : Nat) (input : Nat) (y : Int) (sat : Bool) :
    Eff (withSide [.free, .staged, .boot, .pins, .memory, .kiln, .gauge, .loop]) (sideAnd (joinKeys [.fam (K.gaGain 0) 16, .fam
        (K.gaOffset 0) 16, .fam (K.gasCalCount 0) 16, .fam (K.gasCalRef 0) 16, .fam (K.gasCalStatus 0) 16, .fam (K.gasCalTime 0)
        16, .fam (K.gasCalZero 0) 16, .fam (K.gasLatest 0) 16, .fam (K.gasLost 0) 16, .fam (K.gasSamples 0) 16, .fam
        (K.gasSettleLeft 0) 16, .fam (K.gasStatus 0) 16, .fam (K.gfltFaultCount 0) 16, .fam (K.gfltGaugeFaults 0) 16, .fam
        (K.gfltGaugeState 0) 16, .fam (K.gfltLastFaultTime 0) 16, .fam (K.khHeadState 0) 128, .fam (K.khHeadStatus 0) 128, .fam
        (K.kpFaultCount 0) 32, .fam (K.kpLastFaultTime 0) 32, .fam (K.kpPortState 0) 32, .fam (K.kpPortStatus 0) 32, .fam
        (K.qsFill 0) 64, .fam (K.qsFillPeak 0) 64] [.fam (K.qsItemsIn 0) 64, .fam (K.qsNoCreditCount 0) 64, .fam (K.qsQueueStatus
        0) 64, .one K.calCalStatus, .one K.fltFaultStatus, .one K.fltLastRetiredUnit, .one K.fltRetiredCount, .one
        K.fltTransientCount, .one K.kilnActiveHeads, .one K.kilnKilnStatus, .one K.quesSizeErrors, .sub (K.generation 0)])) s
        (State.gaValue s c input y sat) := by
  unfold State.gaValue
  split
  · exact (State.gaCalWord_eff ..).after (Eff.wr Eff.refl rfl (KeySet.any_fam _ rfl)) rfl
  · refine Eff.ite ?_ ?_
    · exact (State.gaSettleWord_eff ..).after (Eff.wr Eff.refl rfl (KeySet.any_fam _ rfl)) rfl
    · extract_lets +onlyGivenNames v1
      clear_value v1
      exact (State.gaDeliver_eff ..).after Eff.refl rfl

theorem State.gaContinuous_eff (s : State) (c : Nat) (bits : List Bool) :
    Eff (withSide [.clock, .free, .staged, .boot, .pins, .memory, .kiln, .gauge, .loop]) (sideAnd (joinKeys [.fam (K.gaGain 0) 16,
        .fam (K.gaOffset 0) 16, .fam (K.gasActiveBank 0) 16, .fam (K.gasCalCount 0) 16, .fam (K.gasCalRef 0) 16, .fam
        (K.gasCalStatus 0) 16, .fam (K.gasCalTime 0) 16, .fam (K.gasCalZero 0) 16, .fam (K.gasFadeState 0) 16, .fam
        (K.gasHeldRequest 0) 16, .fam (K.gasLatest 0) 16, .fam (K.gasLost 0) 16, .fam (K.gasSamples 0) 16, .fam (K.gasSettleLeft
        0) 16, .fam (K.gasStatus 0) 16, .fam (K.gfltFaultCount 0) 16, .fam (K.gfltGaugeFaults 0) 16, .fam (K.gfltGaugeState 0) 16,
        .fam (K.gfltLastFaultTime 0) 16, .fam (K.khHeadState 0) 128, .fam (K.khHeadStatus 0) 128, .fam (K.kpFaultCount 0) 32, .fam
        (K.kpLastFaultTime 0) 32, .fam (K.kpPortState 0) 32] [.fam (K.kpPortStatus 0) 32, .fam (K.qsFill 0) 64, .fam (K.qsFillPeak
        0) 64, .fam (K.qsItemsIn 0) 64, .fam (K.qsNoCreditCount 0) 64, .fam (K.qsQueueStatus 0) 64, .one K.calCalStatus, .one
        K.fltFaultStatus, .one K.fltLastRetiredUnit, .one K.fltRetiredCount, .one K.fltTransientCount, .one K.kilnActiveHeads,
        .one K.kilnKilnStatus, .one K.quesSizeErrors, .sub (K.generation 0)])) s (State.gaContinuous s c bits) := by
  unfold State.gaContinuous
  extract_lets +onlyGivenNames v1
  clear_value v1
  extract_lets +onlyGivenNames v2
  clear_value v2
  refine Eff.ite ?_ ?_
  · exact Eff.refl
  · extract_lets +onlyGivenNames x3
    clear_value (ex3 : x3 = _)
    refine Eff.have ex3 ((State.gaClocks_eff ..).after Eff.refl rfl) fun hx3 => ?_
    extract_lets +onlyGivenNames v4
    clear_value v4
    extract_lets +onlyGivenNames v5
    clear_value v5
    extract_lets +onlyGivenNames v6
    clear_value v6
    extract_lets +onlyGivenNames v7
    clear_value v7
    extract_lets +onlyGivenNames x8
    clear_value (ex8 : x8 = _)
    refine Eff.have ex8 ((State.setGa_eff ..).after hx3 rfl) fun hx8 => ?_
    extract_lets +onlyGivenNames v9
    clear_value v9
    refine Eff.ite ?_ ?_
    · extract_lets +onlyGivenNames x10
      clear_value (ex10 : x10 = _)
      refine Eff.have ex10 (Eff.ite ((State.fadeHeld_eff ..).after hx8 rfl) hx8) fun hx10 => ?_
      generalize eg13 : State.fadeStep _ _ _ = g13
      obtain ⟨p11, p12⟩ := g13
      refine Eff.have (congrArg (fun p => p.2) eg13).symm ((State.fadeStep_eff ..).after hx10 rfl) fun hp12 => ?_
      (try dsimp -zeta -proj only)
      exact (State.gaValue_eff ..).after hp12 rfl
    · exact (State.gaValue_eff ..).after hx8 rfl

theorem State.gaConvert_eff (s : State) (c : Nat) (input : Nat) (bits : List Bool) :
    Eff (withSide [.clock, .free, .staged, .boot, .pins, .memory, .kiln, .gauge, .loop]) (sideAnd (joinKeys [.fam (K.gaGain 0) 16,
        .fam (K.gaOffset 0) 16, .fam (K.gasCalCount 0) 16, .fam (K.gasCalRef 0) 16, .fam (K.gasCalStatus 0) 16, .fam (K.gasCalTime
        0) 16, .fam (K.gasCalZero 0) 16, .fam (K.gasLatest 0) 16, .fam (K.gasLost 0) 16, .fam (K.gasSamples 0) 16, .fam
        (K.gasSettleLeft 0) 16, .fam (K.gasStatus 0) 16, .fam (K.gfltFaultCount 0) 16, .fam (K.gfltGaugeFaults 0) 16, .fam
        (K.gfltGaugeState 0) 16, .fam (K.gfltLastFaultTime 0) 16, .fam (K.khHeadState 0) 128, .fam (K.khHeadStatus 0) 128, .fam
        (K.kpFaultCount 0) 32, .fam (K.kpLastFaultTime 0) 32, .fam (K.kpPortState 0) 32, .fam (K.kpPortStatus 0) 32, .fam
        (K.qsFill 0) 64, .fam (K.qsFillPeak 0) 64] [.fam (K.qsItemsIn 0) 64, .fam (K.qsNoCreditCount 0) 64, .fam (K.qsQueueStatus
        0) 64, .one K.calCalStatus, .one K.fltFaultStatus, .one K.fltLastRetiredUnit, .one K.fltRetiredCount, .one
        K.fltTransientCount, .one K.kilnActiveHeads, .one K.kilnKilnStatus, .one K.quesSizeErrors, .sub (K.generation 0)])) s
        (State.gaConvert s c input bits) := by
  unfold State.gaConvert
  extract_lets +onlyGivenNames v1
  clear_value v1
  refine Eff.ite ?_ ?_
  · exact Eff.refl
  · extract_lets +onlyGivenNames x2
    clear_value (ex2 : x2 = _)
    refine Eff.have ex2 ((State.gaClocks_eff ..).after Eff.refl rfl) fun hx2 => ?_
    extract_lets +onlyGivenNames v3
    clear_value v3
    extract_lets +onlyGivenNames v4
    clear_value v4
    exact (State.gaValue_eff ..).after ((State.setGa_eff ..).after hx2 rfl) rfl

theorem State.gaSync_eff (s : State) (a1 : Nat) :
    Eff (withSide [.clock, .free, .pins, .memory, .kiln, .gauge, .loop]) (sideAnd (joinKeys [.fam (K.gasActiveBank 0) 16, .fam
        (K.gasFadeState 0) 16, .fam (K.gasLatest 0) 16, .fam (K.gasLost 0) 16, .fam (K.gasSamples 0) 16, .fam (K.gasSettleLeft 0)
        16, .fam (K.gasStatus 0) 16, .fam (K.khHeadState 0) 128, .fam (K.khHeadStatus 0) 128, .fam (K.kpFaultCount 0) 32, .fam
        (K.kpLastFaultTime 0) 32, .fam (K.kpPortState 0) 32, .fam (K.kpPortStatus 0) 32, .fam (K.qsFill 0) 64, .fam (K.qsFillPeak
        0) 64, .fam (K.qsItemsIn 0) 64, .fam (K.qsNoCreditCount 0) 64, .fam (K.qsQueueStatus 0) 64, .one K.fltFaultStatus, .one
        K.fltLastRetiredUnit, .one K.fltRetiredCount, .one K.fltTransientCount, .one K.gauSyncCount, .one K.gauSyncTime] [.one
        K.kilnActiveHeads, .one K.kilnKilnStatus, .one K.quesSizeErrors])) s (State.gaSync s a1) := by
  unfold State.gaSync
  refine Eff.ite ?_ ?_
  · exact Eff.refl
  · extract_lets +onlyGivenNames x1
    clear_value (ex1 : x1 = _)
    refine Eff.have ex1 ((State.at_eff ..).after Eff.refl rfl) fun hx1 => ?_
    extract_lets +onlyGivenNames x2
    clear_value (ex2 : x2 = _)
    refine Eff.have ex2 (Eff.upd_syncAt hx1 rfl) fun hx2 => ?_
    extract_lets +onlyGivenNames x3
    clear_value (ex3 : x3 = _)
    refine Eff.have ex3 (Eff.arrive ((State.raise_eff ..).after (Eff.wr (Eff.inc hx2 rfl rfl) rfl rfl) rfl) rfl) fun hx3 => ?_
    exact Eff.foldl (fun x4 _ hx4 => ((State.gaReset_eff ..).after hx4 rfl)) hx3

theorem calGoWrite_eff (a : Acc) (c : Nat) (s : State) :
    Eff (withSide [.gauge]) (accAnd [.fam (K.gasCalStatus 0) 16]) s (calGoWrite a c s) := by
  unfold calGoWrite
  extract_lets +onlyGivenNames v1
  clear_value v1
  exact Eff.act Eff.refl (fun y2 hy2 => (Eff.ite hy2 (Eff.wr ((State.setGa_eff ..).after hy2 rfl) rfl (KeySet.any_fam _ rfl))))
      rfl

theorem execCalGo_eff (a : Acc) (c : Nat) (s : State) {t : State} (h : execCalGo a c s = .next t) :
    Eff (withSide [.gauge]) (accAnd [.fam (K.gasCalStatus 0) 16]) s t := by
  unfold execCalGo at h
  exact Eff.to (inst_next h).2.symm ((calGoWrite_eff ..).after Eff.refl rfl)

theorem gaSyncReq_eff (s : State) :
    Eff (withSide [.clock, .free, .pins, .memory, .kiln, .gauge, .loop]) (sideAnd (joinKeys [.fam (K.gasActiveBank 0) 16, .fam
        (K.gasFadeState 0) 16, .fam (K.gasLatest 0) 16, .fam (K.gasLost 0) 16, .fam (K.gasSamples 0) 16, .fam (K.gasSettleLeft 0)
        16, .fam (K.gasStatus 0) 16, .fam (K.khHeadState 0) 128, .fam (K.khHeadStatus 0) 128, .fam (K.kpFaultCount 0) 32, .fam
        (K.kpLastFaultTime 0) 32, .fam (K.kpPortState 0) 32, .fam (K.kpPortStatus 0) 32, .fam (K.qsFill 0) 64, .fam (K.qsFillPeak
        0) 64, .fam (K.qsItemsIn 0) 64, .fam (K.qsNoCreditCount 0) 64, .fam (K.qsQueueStatus 0) 64, .one K.fltFaultStatus, .one
        K.fltLastRetiredUnit, .one K.fltRetiredCount, .one K.fltTransientCount, .one K.gauSyncCount, .one K.gauSyncTime] [.one
        K.kilnActiveHeads, .one K.kilnKilnStatus, .one K.quesSizeErrors])) s (gaSyncReq s) := by
  unfold gaSyncReq
  split
  · rename_i q1
    exact (State.gaSync_eff ..).after ((State.takeTask_eff q1).after Eff.refl rfl) rfl
  · exact Eff.refl

theorem execGaSyncReq_eff (s : State) {t : State} (h : execGaSyncReq s = .next t) :
    Eff (withSide [.clock, .free, .pins, .memory, .kiln, .gauge, .loop]) (sideAnd (joinKeys [.fam (K.gasActiveBank 0) 16, .fam
        (K.gasFadeState 0) 16, .fam (K.gasLatest 0) 16, .fam (K.gasLost 0) 16, .fam (K.gasSamples 0) 16, .fam (K.gasSettleLeft 0)
        16, .fam (K.gasStatus 0) 16, .fam (K.khHeadState 0) 128, .fam (K.khHeadStatus 0) 128, .fam (K.kpFaultCount 0) 32, .fam
        (K.kpLastFaultTime 0) 32, .fam (K.kpPortState 0) 32, .fam (K.kpPortStatus 0) 32, .fam (K.qsFill 0) 64, .fam (K.qsFillPeak
        0) 64, .fam (K.qsItemsIn 0) 64, .fam (K.qsNoCreditCount 0) 64, .fam (K.qsQueueStatus 0) 64, .one K.fltFaultStatus, .one
        K.fltLastRetiredUnit, .one K.fltRetiredCount, .one K.fltTransientCount, .one K.gauSyncCount, .one K.gauSyncTime] [.one
        K.kilnActiveHeads, .one K.kilnKilnStatus, .one K.quesSizeErrors])) s t := by
  unfold execGaSyncReq at h
  cases h
  exact (gaSyncReq_eff ..).after Eff.refl rfl

theorem gaugeOutput_eff (c : Nat) (bits : List Bool) (s : State) :
    Eff (withSide [.clock, .free, .staged, .boot, .pins, .memory, .kiln, .gauge, .loop]) (sideAnd (joinKeys [.fam (K.gaGain 0) 16,
        .fam (K.gaOffset 0) 16, .fam (K.gasActiveBank 0) 16, .fam (K.gasCalCount 0) 16, .fam (K.gasCalRef 0) 16, .fam
        (K.gasCalStatus 0) 16, .fam (K.gasCalTime 0) 16, .fam (K.gasCalZero 0) 16, .fam (K.gasFadeState 0) 16, .fam
        (K.gasHeldRequest 0) 16, .fam (K.gasLatest 0) 16, .fam (K.gasLost 0) 16, .fam (K.gasSamples 0) 16, .fam (K.gasSettleLeft
        0) 16, .fam (K.gasStatus 0) 16, .fam (K.gfltFaultCount 0) 16, .fam (K.gfltGaugeFaults 0) 16, .fam (K.gfltGaugeState 0) 16,
        .fam (K.gfltLastFaultTime 0) 16, .fam (K.khHeadState 0) 128, .fam (K.khHeadStatus 0) 128, .fam (K.kpFaultCount 0) 32, .fam
        (K.kpLastFaultTime 0) 32, .fam (K.kpPortState 0) 32] [.fam (K.kpPortStatus 0) 32, .fam (K.qsFill 0) 64, .fam (K.qsFillPeak
        0) 64, .fam (K.qsItemsIn 0) 64, .fam (K.qsNoCreditCount 0) 64, .fam (K.qsQueueStatus 0) 64, .one K.calCalStatus, .one
        K.fltFaultStatus, .one K.fltLastRetiredUnit, .one K.fltRetiredCount, .one K.fltTransientCount, .one K.kilnActiveHeads,
        .one K.kilnKilnStatus, .one K.quesSizeErrors, .sub (K.generation 0)])) s (gaugeOutput c bits s) := by
  unfold gaugeOutput
  refine Eff.ite ?_ ?_
  · exact Eff.refl
  · refine Eff.ite ?_ ?_
    · split
      · exact (State.gaConvert_eff ..).after Eff.refl rfl
      · exact Eff.refl
    · exact (State.gaContinuous_eff ..).after Eff.refl rfl

theorem execGaugeOutput_eff (c : Nat) (bits : List Bool) (s : State) {t : State} (h : execGaugeOutput c bits s = .next t) :
    Eff (withSide [.clock, .free, .staged, .boot, .pins, .memory, .kiln, .gauge, .loop]) (sideAnd (joinKeys [.fam (K.gaGain 0) 16,
        .fam (K.gaOffset 0) 16, .fam (K.gasActiveBank 0) 16, .fam (K.gasCalCount 0) 16, .fam (K.gasCalRef 0) 16, .fam
        (K.gasCalStatus 0) 16, .fam (K.gasCalTime 0) 16, .fam (K.gasCalZero 0) 16, .fam (K.gasFadeState 0) 16, .fam
        (K.gasHeldRequest 0) 16, .fam (K.gasLatest 0) 16, .fam (K.gasLost 0) 16, .fam (K.gasSamples 0) 16, .fam (K.gasSettleLeft
        0) 16, .fam (K.gasStatus 0) 16, .fam (K.gfltFaultCount 0) 16, .fam (K.gfltGaugeFaults 0) 16, .fam (K.gfltGaugeState 0) 16,
        .fam (K.gfltLastFaultTime 0) 16, .fam (K.khHeadState 0) 128, .fam (K.khHeadStatus 0) 128, .fam (K.kpFaultCount 0) 32, .fam
        (K.kpLastFaultTime 0) 32, .fam (K.kpPortState 0) 32] [.fam (K.kpPortStatus 0) 32, .fam (K.qsFill 0) 64, .fam (K.qsFillPeak
        0) 64, .fam (K.qsItemsIn 0) 64, .fam (K.qsNoCreditCount 0) 64, .fam (K.qsQueueStatus 0) 64, .one K.calCalStatus, .one
        K.fltFaultStatus, .one K.fltLastRetiredUnit, .one K.fltRetiredCount, .one K.fltTransientCount, .one K.kilnActiveHeads,
        .one K.kilnKilnStatus, .one K.quesSizeErrors, .sub (K.generation 0)])) s t := by
  unfold execGaugeOutput at h
  exact Eff.to (inst_next h).2.symm ((gaugeOutput_eff ..).after Eff.refl rfl)

theorem gaugeReadmitWrite_eff (a : Acc) (c : Nat) (s : State) :
    Eff (withSide [.free, .pins, .memory, .kiln, .gauge, .loop]) (accAnd (joinKeys [.fam (K.gasActiveBank 0) 16, .fam
        (K.gasFadeState 0) 16, .fam (K.gasLatest 0) 16, .fam (K.gasLost 0) 16, .fam (K.gasSamples 0) 16, .fam (K.gasSettleLeft 0)
        16, .fam (K.gasStatus 0) 16, .fam (K.gfltGaugeState 0) 16, .fam (K.khHeadState 0) 128, .fam (K.khHeadStatus 0) 128, .fam
        (K.kpFaultCount 0) 32, .fam (K.kpLastFaultTime 0) 32, .fam (K.kpPortState 0) 32, .fam (K.kpPortStatus 0) 32, .fam
        (K.qsFill 0) 64, .fam (K.qsFillPeak 0) 64, .fam (K.qsItemsIn 0) 64, .fam (K.qsNoCreditCount 0) 64, .fam (K.qsQueueStatus
        0) 64, .one K.fltFaultStatus, .one K.fltLastRetiredUnit, .one K.fltRetiredCount, .one K.fltTransientCount, .one
        K.kilnActiveHeads] [.one K.kilnKilnStatus, .one K.quesSizeErrors])) s (gaugeReadmitWrite a c s) := by
  unfold gaugeReadmitWrite
  exact Eff.act Eff.refl (fun y1 hy1 => (Eff.ite ((State.gaReset_eff ..).after (Eff.wr ((State.readmit_eff ..).after hy1 rfl) rfl
      (KeySet.any_fam _ rfl)) rfl) hy1)) rfl

theorem execGaugeReadmit_eff (a : Acc) (c : Nat) (s : State) {t : State} (h : execGaugeReadmit a c s = .next t) :
    Eff (withSide [.free, .pins, .memory, .kiln, .gauge, .loop]) (accAnd (joinKeys [.fam (K.gasActiveBank 0) 16, .fam
        (K.gasFadeState 0) 16, .fam (K.gasLatest 0) 16, .fam (K.gasLost 0) 16, .fam (K.gasSamples 0) 16, .fam (K.gasSettleLeft 0)
        16, .fam (K.gasStatus 0) 16, .fam (K.gfltGaugeState 0) 16, .fam (K.khHeadState 0) 128, .fam (K.khHeadStatus 0) 128, .fam
        (K.kpFaultCount 0) 32, .fam (K.kpLastFaultTime 0) 32, .fam (K.kpPortState 0) 32, .fam (K.kpPortStatus 0) 32, .fam
        (K.qsFill 0) 64, .fam (K.qsFillPeak 0) 64, .fam (K.qsItemsIn 0) 64, .fam (K.qsNoCreditCount 0) 64, .fam (K.qsQueueStatus
        0) 64, .one K.fltFaultStatus, .one K.fltLastRetiredUnit, .one K.fltRetiredCount, .one K.fltTransientCount, .one
        K.kilnActiveHeads] [.one K.kilnKilnStatus, .one K.quesSizeErrors])) s t := by
  unfold execGaugeReadmit at h
  exact Eff.to (inst_next h).2.symm ((gaugeReadmitWrite_eff ..).after Eff.refl rfl)

theorem gsyncEdge_eff (rising : Bool) (s : State) :
    Eff (withSide [.clock, .free, .pins, .memory, .kiln, .gauge, .loop]) (sideAnd (joinKeys [.fam (K.gasActiveBank 0) 16, .fam
        (K.gasFadeState 0) 16, .fam (K.gasLatest 0) 16, .fam (K.gasLost 0) 16, .fam (K.gasSamples 0) 16, .fam (K.gasSettleLeft 0)
        16, .fam (K.gasStatus 0) 16, .fam (K.khHeadState 0) 128, .fam (K.khHeadStatus 0) 128, .fam (K.kpFaultCount 0) 32, .fam
        (K.kpLastFaultTime 0) 32, .fam (K.kpPortState 0) 32, .fam (K.kpPortStatus 0) 32, .fam (K.qsFill 0) 64, .fam (K.qsFillPeak
        0) 64, .fam (K.qsItemsIn 0) 64, .fam (K.qsNoCreditCount 0) 64, .fam (K.qsQueueStatus 0) 64, .one K.fltFaultStatus, .one
        K.fltLastRetiredUnit, .one K.fltRetiredCount, .one K.fltTransientCount, .one K.gauSyncCount, .one K.gauSyncTime] [.one
        K.kilnActiveHeads, .one K.kilnKilnStatus, .one K.quesSizeErrors])) s (gsyncEdge rising s) := by
  unfold gsyncEdge
  exact Eff.ite ((State.gaSync_eff ..).after Eff.refl rfl) Eff.refl

theorem execGsyncEdge_eff (rising : Bool) (s : State) {t : State} (h : execGsyncEdge rising s = .next t) :
    Eff (withSide [.clock, .free, .pins, .memory, .kiln, .gauge, .loop]) (sideAnd (joinKeys [.fam (K.gasActiveBank 0) 16, .fam
        (K.gasFadeState 0) 16, .fam (K.gasLatest 0) 16, .fam (K.gasLost 0) 16, .fam (K.gasSamples 0) 16, .fam (K.gasSettleLeft 0)
        16, .fam (K.gasStatus 0) 16, .fam (K.khHeadState 0) 128, .fam (K.khHeadStatus 0) 128, .fam (K.kpFaultCount 0) 32, .fam
        (K.kpLastFaultTime 0) 32, .fam (K.kpPortState 0) 32, .fam (K.kpPortStatus 0) 32, .fam (K.qsFill 0) 64, .fam (K.qsFillPeak
        0) 64, .fam (K.qsItemsIn 0) 64, .fam (K.qsNoCreditCount 0) 64, .fam (K.qsQueueStatus 0) 64, .one K.fltFaultStatus, .one
        K.fltLastRetiredUnit, .one K.fltRetiredCount, .one K.fltTransientCount, .one K.gauSyncCount, .one K.gauSyncTime] [.one
        K.kilnActiveHeads, .one K.kilnKilnStatus, .one K.quesSizeErrors])) s t := by
  unfold execGsyncEdge at h
  cases h
  exact (gsyncEdge_eff ..).after Eff.refl rfl

theorem modStuck_eff (c : Nat) (s : State) :
    Eff (withSide [.clock, .gauge]) (sideAnd [.fam (K.gfltFaultCount 0) 16, .fam (K.gfltGaugeFaults 0) 16, .fam (K.gfltGaugeState
        0) 16, .fam (K.gfltLastFaultTime 0) 16, .one K.fltFaultStatus, .one K.fltLastRetiredUnit, .one K.fltRetiredCount, .one
        K.fltTransientCount]) s (modStuck c s) := by
  unfold modStuck
  refine Eff.ite ?_ ?_
  · exact Eff.refl
  · extract_lets +onlyGivenNames x1
    clear_value (ex1 : x1 = _)
    refine Eff.have ex1 ((State.at_eff ..).after Eff.refl rfl) fun hx1 => ?_
    extract_lets +onlyGivenNames v2
    clear_value v2
    extract_lets +onlyGivenNames x3
    clear_value (ex3 : x3 = _)
    refine Eff.have ex3 (Eff.wr ((State.setGa_eff ..).after hx1 rfl) rfl (KeySet.any_fam _ rfl)) fun hx3 => ?_
    exact (State.gaFault_eff ..).after hx3 rfl

theorem execModStuck_eff (c : Nat) (s : State) {t : State} (h : execModStuck c s = .next t) :
    Eff (withSide [.clock, .gauge]) (sideAnd [.fam (K.gfltFaultCount 0) 16, .fam (K.gfltGaugeFaults 0) 16, .fam (K.gfltGaugeState
        0) 16, .fam (K.gfltLastFaultTime 0) 16, .one K.fltFaultStatus, .one K.fltLastRetiredUnit, .one K.fltRetiredCount, .one
        K.fltTransientCount]) s t := by
  unfold execModStuck at h
  exact Eff.to (inst_next h).2.symm ((modStuck_eff ..).after Eff.refl rfl)

theorem swapTargetWrite_eff (a : Acc) (c : Nat) (s : State) :
    Eff (withSide [.gauge]) (accAnd [.fam (K.gasFadeState 0) 16, .fam (K.gasHeldRequest 0) 16, .fam (K.gasStatus 0) 16]) s
        (swapTargetWrite a c s) := by
  unfold swapTargetWrite
  extract_lets +onlyGivenNames v1
  clear_value v1
  exact Eff.act Eff.refl (fun y2 hy2 => (Eff.ite ((State.fadeTake_eff ..).after hy2 rfl)
      (by extract_lets +onlyGivenNames x3; clear_value (ex3 : x3 = _); exact Eff.have ex3 (Eff.ite (Eff.flag hy2 rfl (KeySet.any_fam _ rfl)) hy2) fun hx3 => (Eff.wr hx3 rfl (KeySet.any_fam _ rfl)))))
      rfl

theorem execSwapTarget_eff (a : Acc) (c : Nat) (s : State) {t : State} (h : execSwapTarget a c s = .next t) :
    Eff (withSide [.gauge]) (accAnd [.fam (K.gasFadeState 0) 16, .fam (K.gasHeldRequest 0) 16, .fam (K.gasStatus 0) 16]) s t := by
  unfold execSwapTarget at h
  exact Eff.to (inst_next h).2.symm ((swapTargetWrite_eff ..).after Eff.refl rfl)

theorem syncNowWrite_eff (a : Acc) (s : State) :
    Eff (withSide [.clock, .free, .pins, .memory, .kiln, .gauge, .loop]) (accAnd (joinKeys [.fam (K.gasActiveBank 0) 16, .fam
        (K.gasFadeState 0) 16, .fam (K.gasLatest 0) 16, .fam (K.gasLost 0) 16, .fam (K.gasSamples 0) 16, .fam (K.gasSettleLeft 0)
        16, .fam (K.gasStatus 0) 16, .fam (K.khHeadState 0) 128, .fam (K.khHeadStatus 0) 128, .fam (K.kpFaultCount 0) 32, .fam
        (K.kpLastFaultTime 0) 32, .fam (K.kpPortState 0) 32, .fam (K.kpPortStatus 0) 32, .fam (K.qsFill 0) 64, .fam (K.qsFillPeak
        0) 64, .fam (K.qsItemsIn 0) 64, .fam (K.qsNoCreditCount 0) 64, .fam (K.qsQueueStatus 0) 64, .one K.fltFaultStatus, .one
        K.fltLastRetiredUnit, .one K.fltRetiredCount, .one K.fltTransientCount, .one K.gauSyncCount, .one K.gauSyncTime] [.one
        K.kilnActiveHeads, .one K.kilnKilnStatus, .one K.quesSizeErrors])) s (syncNowWrite a s) := by
  unfold syncNowWrite
  exact Eff.act Eff.refl (fun y1 hy1 => (Eff.ite ((State.gaSync_eff ..).after hy1 rfl) hy1)) rfl

theorem execSyncNow_eff (a : Acc) (s : State) {t : State} (h : execSyncNow a s = .next t) :
    Eff (withSide [.clock, .free, .pins, .memory, .kiln, .gauge, .loop]) (accAnd (joinKeys [.fam (K.gasActiveBank 0) 16, .fam
        (K.gasFadeState 0) 16, .fam (K.gasLatest 0) 16, .fam (K.gasLost 0) 16, .fam (K.gasSamples 0) 16, .fam (K.gasSettleLeft 0)
        16, .fam (K.gasStatus 0) 16, .fam (K.khHeadState 0) 128, .fam (K.khHeadStatus 0) 128, .fam (K.kpFaultCount 0) 32, .fam
        (K.kpLastFaultTime 0) 32, .fam (K.kpPortState 0) 32, .fam (K.kpPortStatus 0) 32, .fam (K.qsFill 0) 64, .fam (K.qsFillPeak
        0) 64, .fam (K.qsItemsIn 0) 64, .fam (K.qsNoCreditCount 0) 64, .fam (K.qsQueueStatus 0) 64, .one K.fltFaultStatus, .one
        K.fltLastRetiredUnit, .one K.fltRetiredCount, .one K.fltTransientCount, .one K.gauSyncCount, .one K.gauSyncTime] [.one
        K.kilnActiveHeads, .one K.kilnKilnStatus, .one K.quesSizeErrors])) s t := by
  unfold execSyncNow at h
  cases h
  exact (syncNowWrite_eff ..).after Eff.refl rfl

end Sys2Proof.Machine
end

