-- ==== Sys2Proof/Laws/Scan.lean ====
section
/-! SUPPORT. What each operation of Machine/Scan.lean may change. -/

-- The proofs of this file are checked one after another, in one thread.
set_option Elab.async false

namespace Sys2Proof.Machine

theorem State.scanReturn_eff (acks : Nat) (s : State) (a1 : Nat) :
    Eff (withSide [.pins, .kiln]) (sideAnd [.fam (K.khHeadState 0) 128, .fam (K.khHeadStatus 0) 128, .one K.fltFaultStatus, .one
        K.fltLastRetiredUnit, .one K.fltRetiredCount, .one K.kilnActiveHeads, .one K.kilnKilnStatus]) s (State.scanReturn acks s
        a1) := by
  unfold State.scanReturn
  refine Eff.ite ?_ ?_
  · exact Eff.refl
  · extract_lets +onlyGivenNames x1
    clear_value (ex1 : x1 = _)
    refine Eff.have ex1 ((State.setHeadState_eff ..).after Eff.refl rfl) fun hx1 => ?_
    exact Eff.ite hx1 ((State.headRetire_eff ..).after hx1 rfl)

theorem State.scanRelease_eff (s : State) :
    Eff (withSide [.free, .pins, .memory, .kiln, .gauge, .loop]) (sideAnd (joinKeys [.fam (K.gasActiveBank 0) 16, .fam
        (K.gasFadeState 0) 16, .fam (K.gasLatest 0) 16, .fam (K.gasLost 0) 16, .fam (K.gasSamples 0) 16, .fam (K.gasSettleLeft 0)
        16, .fam (K.gasStatus 0) 16, .fam (K.khHeadState 0) 128, .fam (K.khHeadStatus 0) 128, .fam (K.kpFaultCount 0) 32, .fam
        (K.kpLastFaultTime 0) 32, .fam (K.kpPortState 0) 32, .fam (K.kpPortStatus 0) 32, .fam (K.qsFill 0) 64, .fam (K.qsFillPeak
        0) 64, .fam (K.qsItemsIn 0) 64, .fam (K.qsNoCreditCount 0) 64, .fam (K.qsQueueStatus 0) 64, .one K.fltFaultStatus, .one
        K.fltLastRetiredUnit, .one K.fltRetiredCount, .one K.fltTransientCount, .one K.gauScanHold, .one K.kilnActiveHeads] [.one
        K.kilnKilnStatus, .one K.quesSizeErrors])) s (State.scanRelease s) := by
  unfold State.scanRelease
  exact Eff.foldl (fun x1 _ hx1 => ((State.gaReset_eff ..).after hx1 rfl)) (Eff.wr Eff.refl rfl rfl)

theorem State.scanEnd_eff (s : State) (status : Nat) (acks : Nat) :
    Eff (withSide [.free, .pins, .memory, .kiln, .gauge, .loop]) (sideAnd (joinKeys [.fam (K.gasActiveBank 0) 16, .fam
        (K.gasFadeState 0) 16, .fam (K.gasLatest 0) 16, .fam (K.gasLost 0) 16, .fam (K.gasSamples 0) 16, .fam (K.gasSettleLeft 0)
        16, .fam (K.gasStatus 0) 16, .fam (K.khHeadState 0) 128, .fam (K.khHeadStatus 0) 128, .fam (K.kpFaultCount 0) 32, .fam
        (K.kpLastFaultTime 0) 32, .fam (K.kpPortState 0) 32, .fam (K.kpPortStatus 0) 32, .fam (K.qsFill 0) 64, .fam (K.qsFillPeak
        0) 64, .fam (K.qsItemsIn 0) 64, .fam (K.qsNoCreditCount 0) 64, .fam (K.qsQueueStatus 0) 64, .one K.fltFaultStatus, .one
        K.fltLastRetiredUnit, .one K.fltRetiredCount, .one K.fltTransientCount, .one K.gauScanHold, .one K.kilnActiveHeads] [.one
        K.kilnKilnStatus, .one K.quesSizeErrors, .one K.scanScanStatus])) s (State.scanEnd s status acks) := by
  unfold State.scanEnd
  extract_lets +onlyGivenNames x1
  clear_value (ex1 : x1 = _)
  refine Eff.have ex1 (Eff.foldl (fun x2 _ hx2 => ((State.scanReturn_eff ..).after hx2 rfl)) (Eff.upd_scan Eff.refl rfl)) fun hx1
      => ?_
  extract_lets +onlyGivenNames x3
  clear_value (ex3 : x3 = _)
  refine Eff.have ex3 (Eff.wr ((State.scanRelease_eff ..).after hx1 rfl) rfl rfl) fun hx3 => ?_
  exact Eff.ite (Eff.arrive ((State.raise_eff ..).after ((State.kilnMark_eff ..).after hx3 rfl) rfl) rfl) (Eff.arrive hx3 rfl)

theorem State.scanAbort_eff (s : State) (acks : Nat) :
    Eff (withSide [.free, .pins, .memory, .kiln, .gauge, .loop]) (sideAnd (joinKeys [.fam (K.gasActiveBank 0) 16, .fam
        (K.gasFadeState 0) 16, .fam (K.gasLatest 0) 16, .fam (K.gasLost 0) 16, .fam (K.gasSamples 0) 16, .fam (K.gasSettleLeft 0)
        16, .fam (K.gasStatus 0) 16, .fam (K.khHeadState 0) 128, .fam (K.khHeadStatus 0) 128, .fam (K.kpFaultCount 0) 32, .fam
        (K.kpLastFaultTime 0) 32, .fam (K.kpPortState 0) 32, .fam (K.kpPortStatus 0) 32, .fam (K.qsFill 0) 64, .fam (K.qsFillPeak
        0) 64, .fam (K.qsItemsIn 0) 64, .fam (K.qsNoCreditCount 0) 64, .fam (K.qsQueueStatus 0) 64, .one K.fltFaultStatus, .one
        K.fltLastRetiredUnit, .one K.fltRetiredCount, .one K.fltTransientCount, .one K.gauScanHold, .one K.kilnActiveHeads] [.one
        K.kilnKilnStatus, .one K.quesSizeErrors, .one K.scanScanStatus])) s (State.scanAbort s acks) := by
  unfold State.scanAbort
  exact Eff.ite ((State.scanEnd_eff ..).after Eff.refl rfl) Eff.refl

theorem State.scanHalt_eff (s : State) :
    Eff (withSide [.free, .pins, .memory, .kiln, .gauge, .loop]) (sideAnd (joinKeys [.fam (K.gasActiveBank 0) 16, .fam
        (K.gasFadeState 0) 16, .fam (K.gasLatest 0) 16, .fam (K.gasLost 0) 16, .fam (K.gasSamples 0) 16, .fam (K.gasSettleLeft 0)
        16, .fam (K.gasStatus 0) 16, .fam (K.khHeadState 0) 128, .fam (K.khHeadStatus 0) 128, .fam (K.kpFaultCount 0) 32, .fam
        (K.kpLastFaultTime 0) 32, .fam (K.kpPortState 0) 32, .fam (K.kpPortStatus 0) 32, .fam (K.qsFill 0) 64, .fam (K.qsFillPeak
        0) 64, .fam (K.qsItemsIn 0) 64, .fam (K.qsNoCreditCount 0) 64, .fam (K.qsQueueStatus 0) 64, .one K.fltFaultStatus, .one
        K.fltLastRetiredUnit, .one K.fltRetiredCount, .one K.fltTransientCount, .one K.gauScanHold, .one K.kilnActiveHeads] [.one
        K.kilnKilnStatus, .one K.quesSizeErrors, .one K.scanScanStatus])) s (State.scanHalt s) := by
  unfold State.scanHalt
  exact Eff.ite (Eff.wr ((State.scanRelease_eff ..).after (Eff.upd_scan Eff.refl rfl) rfl) rfl rfl) Eff.refl

theorem State.measureHead_eff (acks : Nat) (s : State) (a1 : Nat) :
    Eff [.regs, .kiln] [.fam (K.khHeadState 0) 128, .one K.kilnActiveHeads, .one K.scanScanSkipped] s (State.measureHead acks s
        a1) := by
  unfold State.measureHead
  exact Eff.ite (Eff.inc Eff.refl rfl rfl) ((State.setHeadState_eff ..).after ((State.setHead_eff ..).after Eff.refl rfl) rfl)

theorem State.scanUpd_eff (s : State) (p : Nat) (f : ScanPort → ScanPort) :
    Eff [.kiln] [] s (State.scanUpd s p f) := by
  unfold State.scanUpd
  exact Eff.upd_scan Eff.refl rfl

theorem State.scanAdvance_eff (s : State) (a1 : ScanPort) :
    Eff [.kiln] [] s (State.scanAdvance s a1) := by
  unfold State.scanAdvance
  extract_lets +onlyGivenNames v1
  clear_value v1
  split
  · exact (State.scanUpd_eff ..).after Eff.refl rfl
  · exact Eff.upd_scan Eff.refl rfl

theorem State.scanCode_eff (s : State) (a1 : ScanPort) (code : Int) :
    Eff (withSide [.mem, .slip]) (sideAnd [.fam (K.portBytesWritten 0) 12, .one K.dramLastMapError, .one K.dramMapErrors, .one
        K.dramMemStatus, .one K.glzMaskRequestsLost, .one K.glzStatus, .one K.scanScanMeasured, .one K.scanScanOut]) s
        (State.scanCode s a1 code) := by
  unfold State.scanCode
  extract_lets +onlyGivenNames v1
  clear_value v1
  extract_lets +onlyGivenNames v2
  clear_value v2
  extract_lets +onlyGivenNames x3
  clear_value (ex3 : x3 = _)
  refine Eff.have ex3 (Eff.inc Eff.refl rfl rfl) fun hx3 => ?_
  extract_lets +onlyGivenNames x4
  clear_value (ex4 : x4 = _)
  refine Eff.have ex4 (Eff.ite (Eff.inc ((State.askMaskFor_eff ..).after hx3 rfl) rfl rfl) hx3) fun hx4 => ?_
  extract_lets +onlyGivenNames v5
  clear_value v5
  exact Eff.ite hx4 ((State.blockWrite_eff ..).after hx4 rfl)

theorem State.scanStart_eff (s : State) :
    Eff [.kiln] [] s (State.scanStart s) := by
  unfold State.scanStart
  exact Eff.upd_scan Eff.refl rfl

theorem scanAbortWrite_eff (a : Acc) (acks : Nat) (s : State) :
    Eff (withSide [.free, .pins, .memory, .kiln, .gauge, .loop]) (accAnd (joinKeys [.fam (K.gasActiveBank 0) 16, .fam
        (K.gasFadeState 0) 16, .fam (K.gasLatest 0) 16, .fam (K.gasLost 0) 16, .fam (K.gasSamples 0) 16, .fam (K.gasSettleLeft 0)
        16, .fam (K.gasStatus 0) 16, .fam (K.khHeadState 0) 128, .fam (K.khHeadStatus 0) 128, .fam (K.kpFaultCount 0) 32, .fam
        (K.kpLastFaultTime 0) 32, .fam (K.kpPortState 0) 32, .fam (K.kpPortStatus 0) 32, .fam (K.qsFill 0) 64, .fam (K.qsFillPeak
        0) 64, .fam (K.qsItemsIn 0) 64, .fam (K.qsNoCreditCount 0) 64, .fam (K.qsQueueStatus 0) 64, .one K.fltFaultStatus, .one
        K.fltLastRetiredUnit, .one K.fltRetiredCount, .one K.fltTransientCount, .one K.gauScanHold, .one K.kilnActiveHeads] [.one
        K.kilnKilnStatus, .one K.quesSizeErrors, .one K.scanScanStatus])) s (scanAbortWrite a acks s) := by
  unfold scanAbortWrite
  exact Eff.act Eff.refl (fun y1 hy1 => (Eff.ite ((State.scanAbort_eff ..).after hy1 rfl) hy1)) rfl

theorem execScanAbort_eff (a : Acc) (acks : Nat) (s : State) {t : State} (h : execScanAbort a acks s = .next t) :
    Eff (withSide [.free, .pins, .memory, .kiln, .gauge, .loop]) (accAnd (joinKeys [.fam (K.gasActiveBank 0) 16, .fam
        (K.gasFadeState 0) 16, .fam (K.gasLatest 0) 16, .fam (K.gasLost 0) 16, .fam (K.gasSamples 0) 16, .fam (K.gasSettleLeft 0)
        16, .fam (K.gasStatus 0) 16, .fam (K.khHeadState 0) 128, .fam (K.khHeadStatus 0) 128, .fam (K.kpFaultCount 0) 32, .fam
        (K.kpLastFaultTime 0) 32, .fam (K.kpPortState 0) 32, .fam (K.kpPortStatus 0) 32, .fam (K.qsFill 0) 64, .fam (K.qsFillPeak
        0) 64, .fam (K.qsItemsIn 0) 64, .fam (K.qsNoCreditCount 0) 64, .fam (K.qsQueueStatus 0) 64, .one K.fltFaultStatus, .one
        K.fltLastRetiredUnit, .one K.fltRetiredCount, .one K.fltTransientCount, .one K.gauScanHold, .one K.kilnActiveHeads] [.one
        K.kilnKilnStatus, .one K.quesSizeErrors, .one K.scanScanStatus])) s t := by
  unfold execScanAbort at h
  cases h
  exact (scanAbortWrite_eff ..).after Eff.refl rfl

theorem scanElement_eff (s : State) :
    Eff (withSide [.free, .mem, .pins, .memory, .slip, .kiln, .gauge, .loop]) (sideAnd (joinKeys [.fam (K.gasActiveBank 0) 16,
        .fam (K.gasFadeState 0) 16, .fam (K.gasLatest 0) 16, .fam (K.gasLost 0) 16, .fam (K.gasSamples 0) 16, .fam
        (K.gasSettleLeft 0) 16, .fam (K.gasStatus 0) 16, .fam (K.khHeadState 0) 128, .fam (K.khHeadStatus 0) 128, .fam
        (K.kpFaultCount 0) 32, .fam (K.kpLastFaultTime 0) 32, .fam (K.kpPortState 0) 32, .fam (K.kpPortStatus 0) 32, .fam
        (K.portBytesWritten 0) 12, .fam (K.qsFill 0) 64, .fam (K.qsFillPeak 0) 64, .fam (K.qsItemsIn 0) 64, .fam
        (K.qsNoCreditCount 0) 64, .fam (K.qsQueueStatus 0) 64, .one K.dramLastMapError, .one K.dramMapErrors, .one
        K.dramMemStatus, .one K.fltFaultStatus, .one K.fltLastRetiredUnit] [.one K.fltRetiredCount, .one K.fltTransientCount, .one
        K.gauScanHold, .one K.glzMaskRequestsLost, .one K.glzStatus, .one K.kilnActiveHeads, .one K.kilnKilnStatus, .one
        K.quesSizeErrors, .one K.scanScanMeasured, .one K.scanScanOut, .one K.scanScanStatus])) s (scanElement s) := by
  unfold scanElement
  split
  · exact Eff.refl
  · extract_lets +onlyGivenNames v1
    clear_value v1
    refine Eff.ite ?_ ?_
    · exact (State.scanUpd_eff ..).after Eff.refl rfl
    · extract_lets +onlyGivenNames x2
      clear_value (ex2 : x2 = _)
      refine Eff.have ex2 ((State.scanAdvance_eff ..).after ((State.scanCode_eff ..).after Eff.refl rfl) rfl) fun hx2 => ?_
      exact Eff.ite ((State.scanEnd_eff ..).after hx2 rfl) hx2

theorem execScanElement_eff (s : State) {t : State} (h : execScanElement s = .next t) :
    Eff (withSide [.free, .mem, .pins, .memory, .slip, .kiln, .gauge, .loop]) (sideAnd (joinKeys [.fam (K.gasActiveBank 0) 16,
        .fam (K.gasFadeState 0) 16, .fam (K.gasLatest 0) 16, .fam (K.gasLost 0) 16, .fam (K.gasSamples 0) 16, .fam
        (K.gasSettleLeft 0) 16, .fam (K.gasStatus 0) 16, .fam (K.khHeadState 0) 128, .fam (K.khHeadStatus 0) 128, .fam
        (K.kpFaultCount 0) 32, .fam (K.kpLastFaultTime 0) 32, .fam (K.kpPortState 0) 32, .fam (K.kpPortStatus 0) 32, .fam
        (K.portBytesWritten 0) 12, .fam (K.qsFill 0) 64, .fam (K.qsFillPeak 0) 64, .fam (K.qsItemsIn 0) 64, .fam
        (K.qsNoCreditCount 0) 64, .fam (K.qsQueueStatus 0) 64, .one K.dramLastMapError, .one K.dramMapErrors, .one
        K.dramMemStatus, .one K.fltFaultStatus, .one K.fltLastRetiredUnit] [.one K.fltRetiredCount, .one K.fltTransientCount, .one
        K.gauScanHold, .one K.glzMaskRequestsLost, .one K.glzStatus, .one K.kilnActiveHeads, .one K.kilnKilnStatus, .one
        K.quesSizeErrors, .one K.scanScanMeasured, .one K.scanScanOut, .one K.scanScanStatus])) s t := by
  unfold execScanElement at h
  cases h
  exact (scanElement_eff ..).after Eff.refl rfl

theorem scanGoWrite_eff (a : Acc) (acks : Nat) (s : State) :
    Eff (withSide [.free, .pins, .memory, .kiln, .gauge, .loop]) (accAnd (joinKeys [.fam (K.gasActiveBank 0) 16, .fam
        (K.gasCalStatus 0) 16, .fam (K.gasFadeState 0) 16, .fam (K.gasLatest 0) 16, .fam (K.gasLost 0) 16, .fam (K.gasSamples 0)
        16, .fam (K.gasSettleLeft 0) 16, .fam (K.gasStatus 0) 16, .fam (K.khHeadState 0) 128, .fam (K.khHeadStatus 0) 128, .fam
        (K.kpFaultCount 0) 32, .fam (K.kpLastFaultTime 0) 32, .fam (K.kpPortState 0) 32, .fam (K.kpPortStatus 0) 32, .fam
        (K.qsFill 0) 64, .fam (K.qsFillPeak 0) 64, .fam (K.qsItemsIn 0) 64, .fam (K.qsNoCreditCount 0) 64, .fam (K.qsQueueStatus
        0) 64, .one K.fltFaultStatus, .one K.fltLastRetiredUnit, .one K.fltRetiredCount, .one K.fltTransientCount, .one
        K.gauScanHold] [.one K.kilnActiveHeads, .one K.kilnKilnStatus, .one K.quesSizeErrors, .one K.scanScanMeasured, .one
        K.scanScanOut, .one K.scanScanSkipped, .one K.scanScanStatus])) s (scanGoWrite a acks s) := by
  unfold scanGoWrite
  exact Eff.act Eff.refl (fun y1 hy1 => (Eff.ite hy1
      (by extract_lets +onlyGivenNames v2; clear_value v2; exact (by extract_lets +onlyGivenNames x3; clear_value (ex3 : x3 = _); exact Eff.have ex3 (Eff.wr (Eff.wr (Eff.wr (Eff.wr hy1 rfl rfl) rfl rfl) rfl rfl) rfl rfl) fun hx3 => (by extract_lets +onlyGivenNames x4; clear_value (ex4 : x4 = _); exact Eff.have ex4 (Eff.foldl (fun x5 _ hx5 => ((State.setGa_eff ..).after ((State.gaCalAbort_eff ..).after hx5 rfl) rfl)) hx3) fun hx4 => (by extract_lets +onlyGivenNames x6; clear_value (ex6 : x6 = _); exact Eff.have ex6 ((State.scanStart_eff ..).after (Eff.foldl (fun x7 _ hx7 => ((State.measureHead_eff ..).after hx7 rfl)) (Eff.wr hx4 rfl rfl)) rfl) fun hx6 => (Eff.ite ((State.scanEnd_eff ..).after hx6 rfl) hx6)))))))
      rfl

theorem execScanGo_eff (a : Acc) (acks : Nat) (s : State) {t : State} (h : execScanGo a acks s = .next t) :
    Eff (withSide [.free, .pins, .memory, .kiln, .gauge, .loop]) (accAnd (joinKeys [.fam (K.gasActiveBank 0) 16, .fam
        (K.gasCalStatus 0) 16, .fam (K.gasFadeState 0) 16, .fam (K.gasLatest 0) 16, .fam (K.gasLost 0) 16, .fam (K.gasSamples 0)
        16, .fam (K.gasSettleLeft 0) 16, .fam (K.gasStatus 0) 16, .fam (K.khHeadState 0) 128, .fam (K.khHeadStatus 0) 128, .fam
        (K.kpFaultCount 0) 32, .fam (K.kpLastFaultTime 0) 32, .fam (K.kpPortState 0) 32, .fam (K.kpPortStatus 0) 32, .fam
        (K.qsFill 0) 64, .fam (K.qsFillPeak 0) 64, .fam (K.qsItemsIn 0) 64, .fam (K.qsNoCreditCount 0) 64, .fam (K.qsQueueStatus
        0) 64, .one K.fltFaultStatus, .one K.fltLastRetiredUnit, .one K.fltRetiredCount, .one K.fltTransientCount, .one
        K.gauScanHold] [.one K.kilnActiveHeads, .one K.kilnKilnStatus, .one K.quesSizeErrors, .one K.scanScanMeasured, .one
        K.scanScanOut, .one K.scanScanSkipped, .one K.scanScanStatus])) s t := by
  unfold execScanGo at h
  cases h
  exact (scanGoWrite_eff ..).after Eff.refl rfl

theorem scanSettleEnd_eff (s : State) :
    Eff [.clock, .kiln] [] s (scanSettleEnd s) := by
  unfold scanSettleEnd
  split
  · exact Eff.refl
  · exact (State.scanUpd_eff ..).after ((State.at_eff ..).after Eff.refl rfl) rfl

theorem execScanSettleEnd_eff (s : State) {t : State} (h : execScanSettleEnd s = .next t) :
    Eff [.clock, .kiln] [] s t := by
  unfold execScanSettleEnd at h
  cases h
  exact (scanSettleEnd_eff ..).after Eff.refl rfl

end Sys2Proof.Machine
end

