-- ==== Sys2Proof/Laws/Stops.lean ====
section
/-! SUPPORT. What each operation of Machine/Stops.lean may change. -/

-- The proofs of this file are checked one after another, in one thread.
set_option Elab.async false

namespace Sys2Proof.Machine

theorem State.gensOff_eff (s : State) :
    Eff [.wheel] [] s (State.gensOff s) := by
  unfold State.gensOff
  exact Eff.upd_gens_trigs Eff.refl rfl

theorem State.loopHalt_eff (s : State) :
    Eff [.slip, .loop] [] s (State.loopHalt s) := by
  unfold State.loopHalt
  exact Eff.foldl (fun x1 _ hx1 => ((State.setBar_eff ..).after hx1 rfl)) ((State.setLoop_eff ..).after Eff.refl rfl)

theorem State.stopUnits_eff (s : State) :
    Eff (withSide [.free, .out, .mem, .boot, .pins, .memory, .wheel, .engines, .slip, .kiln, .gauge, .umbra, .loop]) (sideAnd
        (joinKeys [.fam (K.dmasBytesMoved 0) 32, .fam (K.dmasChannelState 0) 32, .fam (K.dmasCompletions 0) 32, .fam
        (K.dmasLastStatus 0) 32, .fam (K.gasActiveBank 0) 16, .fam (K.gasCalStatus 0) 16, .fam (K.gasFadeState 0) 16, .fam
        (K.gasLatest 0) 16, .fam (K.gasLost 0) 16, .fam (K.gasSamples 0) 16, .fam (K.gasSettleLeft 0) 16, .fam (K.gasStatus 0) 16,
        .fam (K.khHeadState 0) 128, .fam (K.khHeadStatus 0) 128, .fam (K.kpFaultCount 0) 32, .fam (K.kpLastFaultTime 0) 32, .fam
        (K.kpPortState 0) 32, .fam (K.kpPortStatus 0) 32, .fam (K.portBytesRead 0) 12, .fam (K.portBytesWritten 0) 12, .fam
        (K.qsConsumer 0) 64, .fam (K.qsFill 0) 64, .fam (K.qsFillPeak 0) 64, .fam (K.qsItemsIn 0) 64] (joinKeys [.fam
        (K.qsItemsOut 0) 64, .fam (K.qsNoCreditCount 0) 64, .fam (K.qsQueueStatus 0) 64, .fam (K.zesBytesIn 0) 6, .fam
        (K.zesBytesOut 0) 6, .fam (K.zesEngineState 0) 6, .fam (K.zesEngineStatus 0) 6, .fam (K.zesErrorCount 0) 6, .fam
        (K.zesJobHead 0) 6, .fam (K.zesJobsDone 0) 6, .fam (K.zesLastStatus 0) 6, .fam (K.zesVerifyFails 0) 6, .one
        K.calCalRunStatus, .one K.cropsCropWriteOffset, .one K.dramLastMapError, .one K.dramMapErrors, .one K.dramMemStatus, .one
        K.fltFaultStatus, .one K.fltLastRetiredUnit, .one K.fltRetiredCount, .one K.fltTransientCount, .one K.gauScanHold, .one
        K.kilnActiveHeads, .one K.kilnKilnStatus] [.one K.quesSizeErrors, .one K.scanScanStatus, .one K.slipStatus, .one
        K.umbsOpenComponents, .one K.umbsOpenPeak, .one K.zeCropWaiting]))) s (State.stopUnits s) := by
  unfold State.stopUnits
  extract_lets +onlyGivenNames x1
  clear_value (ex1 : x1 = _)
  refine Eff.have ex1 ((State.loopHalt_eff ..).after ((State.umbDiscard_eff ..).after ((State.calAbort_eff ..).after
      ((State.gaCalAborts_eff ..).after ((State.scanHalt_eff ..).after ((State.kilnHalt_eff ..).after ((State.gensOff_eff
      ..).after Eff.refl rfl) rfl) rfl) rfl) rfl) rfl) rfl) fun hx1 => ?_
  extract_lets +onlyGivenNames x2
  clear_value (ex2 : x2 = _)
  refine Eff.have ex2 (Eff.foldl (fun x3 _ hx3 => ((State.dmaStop_eff ..).after hx3 rfl)) hx1) fun hx2 => ?_
  exact (State.refreshPins_eff ..).after ((State.zeHalt_eff ..).after hx2 rfl) rfl

theorem State.fatalStop_eff (s : State) (code : Nat) (unit : Nat) (data : Nat) :
    Eff (withSide [.free, .device, .staged, .pool, .paths, .out, .mem, .boot, .pins, .memory, .wheel, .engines, .slip, .kiln,
        .gauge, .umbra, .loop]) [.all] s (State.fatalStop s code unit data) := by
  unfold State.fatalStop
  exact Eff.ite ((State.fatal_eff ..).after Eff.refl rfl) ((State.stopUnits_eff ..).after ((State.fatal_eff ..).after Eff.refl
      rfl) rfl)

theorem State.fenceStop_eff (s : State) :
    Eff (withSide [.free, .device, .staged, .pool, .paths, .out, .mem, .boot, .pins, .memory, .wheel, .engines, .slip, .kiln,
        .gauge, .umbra, .loop]) [.all] s (State.fenceStop s) := by
  unfold State.fenceStop
  exact Eff.ite Eff.refl ((State.stopUnits_eff ..).after ((State.fence_eff ..).after Eff.refl rfl) rfl)

theorem patrolRead_eff (c : Nat) (a : Nat) (e : EccRead) (lastBlock : Bool) (s : State) :
    Eff (withSide [.free, .device, .staged, .pool, .paths, .out, .mem, .boot, .pins, .memory, .wheel, .engines, .slip, .kiln,
        .gauge, .umbra, .loop]) [.all] s (patrolRead c a e lastBlock s) := by
  unfold patrolRead
  refine Eff.ite ?_ ?_
  · exact Eff.refl
  · extract_lets +onlyGivenNames x1
    clear_value (ex1 : x1 = _)
    refine Eff.have ex1 (Eff.ite (Eff.inc Eff.refl rfl (KeySet.any_all rfl)) Eff.refl) fun hx1 => ?_
    split
    · exact hx1
    · exact (State.eccCorrected_eff ..).after hx1 rfl
    · exact (State.fatalStop_eff ..).after hx1 rfl

theorem execPatrolRead_eff (ch : Nat) (a : Nat) (e : EccRead) (lastBlock : Bool) (s : State) {t : State} (h : execPatrolRead ch a
    e lastBlock s = .next t) :
    Eff (withSide [.free, .device, .staged, .pool, .paths, .out, .mem, .boot, .pins, .memory, .wheel, .engines, .slip, .kiln,
        .gauge, .umbra, .loop]) [.all] s t := by
  unfold execPatrolRead at h
  exact Eff.to (inst_next h).2.symm ((patrolRead_eff ..).after Eff.refl rfl)

end Sys2Proof.Machine
end

