-- ==== Sys2Proof/Laws/Faults.lean ====
section
/-! SUPPORT. What each operation of Machine/Faults.lean may change. -/

-- The proofs of this file are checked one after another, in one thread.
set_option Elab.async false

namespace Sys2Proof.Machine

theorem State.ddrTrained_eff (s : State) (n : Nat) :
    Eff [.regs, .memory] [.one K.calCalStatus] s (State.ddrTrained s n) := by
  unfold State.ddrTrained
  extract_lets +onlyGivenNames v1
  clear_value v1
  extract_lets +onlyGivenNames x2
  clear_value (ex2 : x2 = _)
  refine Eff.have ex2 ((State.setDramCh_eff ..).after Eff.refl rfl) fun hx2 => ?_
  exact Eff.ite hx2 (Eff.unflag hx2 rfl rfl)

theorem calRunDone_eff (m : CalMeasure) (s : State) :
    Eff (withSide [.boot, .pins, .memory, .kiln]) (sideAnd [.fam (K.khHeadState 0) 128, .fam (K.khHeadStatus 0) 128, .fam
        (K.kpFaultCount 0) 32, .fam (K.kpLastFaultTime 0) 32, .fam (K.kpPortState 0) 32, .fam (K.kpPortStatus 0) 32, .one
        K.calCalRunStatus, .one K.calCalStatus, .one K.fltFaultStatus, .one K.fltLastRetiredUnit, .one K.fltRetiredCount, .one
        K.fltTransientCount, .one K.kilnActiveHeads, .one K.kilnKilnStatus]) s (calRunDone m s) := by
  unfold calRunDone
  refine Eff.ite ?_ ?_
  · exact Eff.refl
  · extract_lets +onlyGivenNames v1
    clear_value v1
    extract_lets +onlyGivenNames v2
    clear_value v2
    extract_lets +onlyGivenNames x3
    clear_value (ex3 : x3 = _)
    refine Eff.have ex3 (Eff.ite ((State.calEnd_eff ..).after Eff.refl rfl) ((State.calEnd_eff ..).after Eff.refl rfl)) fun hx3 =>
        ?_
    extract_lets +onlyGivenNames x4
    clear_value (ex4 : x4 = _)
    refine Eff.have ex4 (Eff.wr hx3 rfl rfl) fun hx4 => ?_
    exact Eff.ite (Eff.ite ((State.ddrTrained_eff ..).after hx4 rfl) hx4) (Eff.ite hx4 ((State.portFault_eff ..).after hx4 rfl))

theorem calRunWrite_eff (a : Acc) (s : State) :
    Eff (withSide [.boot]) (accAnd [.one K.calCalRun, .one K.calCalRunStatus, .one K.calCalStatus]) s (calRunWrite a s) := by
  unfold calRunWrite
  extract_lets +onlyGivenNames v1
  clear_value v1
  exact Eff.act Eff.refl (fun y2 hy2 =>
      (by extract_lets +onlyGivenNames x3; clear_value (ex3 : x3 = _); exact Eff.have ex3 (Eff.wr hy2 rfl rfl) fun hx3 => (Eff.ite (Eff.wr ((State.calEnd_eff ..).after hx3 rfl) rfl rfl) (Eff.wr hx3 rfl rfl))))
      rfl

theorem execCalRun_eff (a : Acc) (s : State) {t : State} (h : execCalRun a s = .next t) :
    Eff (withSide [.boot]) (accAnd [.one K.calCalRun, .one K.calCalRunStatus, .one K.calCalStatus]) s t := by
  unfold execCalRun at h
  cases h
  exact (calRunWrite_eff ..).after Eff.refl rfl

theorem execCalRunDone_eff (result : CalMeasure) (s : State) {t : State} (h : execCalRunDone result s = .next t) :
    Eff (withSide [.boot, .pins, .memory, .kiln]) (sideAnd [.fam (K.khHeadState 0) 128, .fam (K.khHeadStatus 0) 128, .fam
        (K.kpFaultCount 0) 32, .fam (K.kpLastFaultTime 0) 32, .fam (K.kpPortState 0) 32, .fam (K.kpPortStatus 0) 32, .one
        K.calCalRunStatus, .one K.calCalStatus, .one K.fltFaultStatus, .one K.fltLastRetiredUnit, .one K.fltRetiredCount, .one
        K.fltTransientCount, .one K.kilnActiveHeads, .one K.kilnKilnStatus]) s t := by
  unfold execCalRunDone at h
  cases h
  exact (calRunDone_eff ..).after Eff.refl rfl

theorem fatalRequestWrite_eff (a : Acc) (s : State) :
    Eff (withSide [.free, .device, .staged, .pool, .paths, .out, .mem, .boot, .pins, .memory, .wheel, .engines, .slip, .kiln,
        .gauge, .umbra, .loop]) [.all] s (fatalRequestWrite a s) := by
  unfold fatalRequestWrite
  exact Eff.act Eff.refl (fun y1 hy1 => ((State.fatalStop_eff ..).after hy1 rfl)) rfl

theorem execFatalRequest_eff (a : Acc) (s : State) {t : State} (h : execFatalRequest a s = .next t) :
    Eff (withSide [.free, .device, .staged, .pool, .paths, .out, .mem, .boot, .pins, .memory, .wheel, .engines, .slip, .kiln,
        .gauge, .umbra, .loop]) [.all] s t := by
  unfold execFatalRequest at h
  cases h
  exact (fatalRequestWrite_eff ..).after Eff.refl rfl

theorem junctionRead_eff (a1 : Int) (s : State) :
    Eff (withSide [.free, .device, .staged, .pool, .paths, .out, .mem, .boot, .pins, .memory, .wheel, .engines, .slip, .kiln,
        .gauge, .umbra, .loop]) [.all] s (junctionRead a1 s) := by
  unfold junctionRead
  refine Eff.ite ?_ ?_
  · exact Eff.refl
  · extract_lets +onlyGivenNames v1
    clear_value v1
    extract_lets +onlyGivenNames v2
    clear_value v2
    extract_lets +onlyGivenNames x3
    clear_value (ex3 : x3 = _)
    refine Eff.have ex3 (Eff.wr Eff.refl rfl rfl) fun hx3 => ?_
    extract_lets +onlyGivenNames x4
    clear_value (ex4 : x4 = _)
    refine Eff.have ex4 (Eff.upd_hot hx3 rfl) fun hx4 => ?_
    extract_lets +onlyGivenNames x5
    clear_value (ex5 : x5 = _)
    refine Eff.have ex5 (Eff.ite (Eff.flag hx4 rfl rfl) hx4) fun hx5 => ?_
    exact Eff.ite ((State.fatalStop_eff ..).after hx5 rfl) hx5

theorem execJunctionRead_eff (a1 : Int) (s : State) {t : State} (h : execJunctionRead a1 s = .next t) :
    Eff (withSide [.free, .device, .staged, .pool, .paths, .out, .mem, .boot, .pins, .memory, .wheel, .engines, .slip, .kiln,
        .gauge, .umbra, .loop]) [.all] s t := by
  unfold execJunctionRead at h
  cases h
  exact (junctionRead_eff ..).after Eff.refl rfl

theorem pllLockLoss_eff (s : State) :
    Eff (withSide [.free, .device, .staged, .pool, .paths, .out, .mem, .boot, .pins, .memory, .wheel, .engines, .slip, .kiln,
        .gauge, .umbra, .loop]) [.all] s (pllLockLoss s) := by
  unfold pllLockLoss
  exact Eff.ite Eff.refl ((State.fatalStop_eff ..).after (Eff.wr Eff.refl rfl rfl) rfl)

theorem execPllLockLoss_eff (s : State) {t : State} (h : execPllLockLoss s = .next t) :
    Eff (withSide [.free, .device, .staged, .pool, .paths, .out, .mem, .boot, .pins, .memory, .wheel, .engines, .slip, .kiln,
        .gauge, .umbra, .loop]) [.all] s t := by
  unfold execPllLockLoss at h
  cases h
  exact (pllLockLoss_eff ..).after Eff.refl rfl

theorem refclkBad_eff (kHz : Option Nat) (s : State) :
    Eff sideParts (sideAnd [.one K.clkClockStatus, .one K.clkRefclkMeasured]) s (refclkBad kHz s) := by
  unfold refclkBad
  split
  · exact (State.raise_eff ..).after (Eff.flag Eff.refl rfl rfl) rfl
  · extract_lets +onlyGivenNames x1
    clear_value (ex1 : x1 = _)
    refine Eff.have ex1 (Eff.wr Eff.refl rfl rfl) fun hx1 => ?_
    exact Eff.ite ((State.raise_eff ..).after (Eff.flag hx1 rfl rfl) rfl) hx1

theorem execRefclkBad_eff (kHz : Option Nat) (s : State) {t : State} (h : execRefclkBad kHz s = .next t) :
    Eff sideParts (sideAnd [.one K.clkClockStatus, .one K.clkRefclkMeasured]) s t := by
  unfold execRefclkBad at h
  cases h
  exact (refclkBad_eff ..).after Eff.refl rfl

theorem watchdogKickWrite_eff (a : Acc) (s : State) :
    Eff (withSide [.boot]) (accAnd []) s (watchdogKickWrite a s) := by
  unfold watchdogKickWrite
  exact Eff.act Eff.refl (fun y1 hy1 => (Eff.ite (Eff.upd_wdog hy1 rfl) hy1)) rfl

theorem execWatchdogKick_eff (a : Acc) (s : State) {t : State} (h : execWatchdogKick a s = .next t) :
    Eff (withSide [.boot]) (accAnd []) s t := by
  unfold execWatchdogKick at h
  cases h
  exact (watchdogKickWrite_eff ..).after Eff.refl rfl

theorem wdogExpire_eff (s : State) :
    Eff (withSide [.clock, .free, .device, .staged, .pool, .paths, .out, .mem, .boot, .pins, .memory, .wheel, .engines, .slip,
        .kiln, .gauge, .umbra, .loop]) [.all] s (wdogExpire s) := by
  unfold wdogExpire
  refine Eff.ite ?_ ?_
  · exact Eff.refl
  · extract_lets +onlyGivenNames x1
    clear_value (ex1 : x1 = _)
    refine Eff.have ex1 ((State.at_eff ..).after Eff.refl rfl) fun hx1 => ?_
    exact (State.fatalStop_eff ..).after (Eff.upd_wdog hx1 rfl) rfl

theorem execWdogExpire_eff (s : State) {t : State} (h : execWdogExpire s = .next t) :
    Eff (withSide [.clock, .free, .device, .staged, .pool, .paths, .out, .mem, .boot, .pins, .memory, .wheel, .engines, .slip,
        .kiln, .gauge, .umbra, .loop]) [.all] s t := by
  unfold execWdogExpire at h
  cases h
  exact (wdogExpire_eff ..).after Eff.refl rfl

theorem wdogWarn_eff (s : State) :
    Eff (withSide [.clock, .boot]) (sideAnd [.one K.fltFaultStatus]) s (wdogWarn s) := by
  unfold wdogWarn
  refine Eff.ite ?_ ?_
  · exact Eff.refl
  · extract_lets +onlyGivenNames x1
    clear_value (ex1 : x1 = _)
    refine Eff.have ex1 ((State.at_eff ..).after Eff.refl rfl) fun hx1 => ?_
    exact (State.raise_eff ..).after (Eff.flag (Eff.upd_wdog hx1 rfl) rfl rfl) rfl

theorem execWdogWarn_eff (s : State) {t : State} (h : execWdogWarn s = .next t) :
    Eff (withSide [.clock, .boot]) (sideAnd [.one K.fltFaultStatus]) s t := by
  unfold execWdogWarn at h
  cases h
  exact (wdogWarn_eff ..).after Eff.refl rfl

end Sys2Proof.Machine
end

