-- ==== Sys2Proof/Laws/Power.lean ====
section
/-! SUPPORT. What each operation of Machine/Power.lean may change. -/

-- The proofs of this file are checked one after another, in one thread.
set_option Elab.async false

namespace Sys2Proof.Machine

theorem camSleep_eff (s : State) (n : Nat) :
    Eff (withSide [.cameras]) (sideAnd [.fam (K.camstChannelState 0) 12, .fam (K.camstLinksUp 0) 12, .one K.camsPresent, .one
        K.camsPresentCount, .one K.camsRetired]) s (camSleep s n) := by
  unfold camSleep
  extract_lets +onlyGivenNames v1
  clear_value v1
  extract_lets +onlyGivenNames x2
  clear_value (ex2 : x2 = _)
  refine Eff.have ex2 (Eff.wr ((State.setCam_eff ..).after Eff.refl rfl) rfl (KeySet.any_fam _ rfl)) fun hx2 => ?_
  exact Eff.ite ((State.setCamState_eff ..).after ((State.setCam_eff ..).after hx2 rfl) rfl) hx2

theorem domainDown_eff (s : State) :
    Eff (withSide [.clock, .device, .boot, .pins, .cameras]) (sideAnd [.fam (K.camstChannelState 0) 12, .fam (K.camstLinksUp 0)
        12, .one K.camsPresent, .one K.camsPresentCount, .one K.camsRetired, .one K.devDeviceState, .one K.devStateChanges, .one
        K.devStateTime, .one K.pwrPowerPhase, .one K.pwrSleeps, .one K.pwrWakeCause]) s (domainDown s) := by
  unfold domainDown
  split
  · exact Eff.refl
  · refine Eff.ite ?_ ?_
    · exact Eff.refl
    · extract_lets +onlyGivenNames x1
      clear_value (ex1 : x1 = _)
      refine Eff.have ex1 ((State.at_eff ..).after Eff.refl rfl) fun hx1 => ?_
      extract_lets +onlyGivenNames x2
      clear_value (ex2 : x2 = _)
      refine Eff.have ex2 (Eff.ite (Eff.foldl (fun x3 _ hx3 => ((camSleep_eff ..).after hx3 rfl)) hx1) hx1) fun hx2 => ?_
      extract_lets +onlyGivenNames v4
      clear_value v4
      extract_lets +onlyGivenNames x5
      clear_value (ex5 : x5 = _)
      refine Eff.have ex5 (Eff.upd_power hx2 rfl) fun hx5 => ?_
      exact Eff.ite ((State.asleep_eff ..).after hx5 rfl) hx5

theorem domainUp_eff (s : State) :
    Eff (withSide [.clock, .device, .boot, .pins]) (sideAnd [.one K.devDeviceState, .one K.devStateChanges, .one K.devStateTime,
        .one K.pwrPowerPhase, .one K.pwrWakeCause]) s (domainUp s) := by
  unfold domainUp
  split
  · exact Eff.refl
  · refine Eff.ite ?_ ?_
    · exact Eff.refl
    · extract_lets +onlyGivenNames x1
      clear_value (ex1 : x1 = _)
      refine Eff.have ex1 ((State.at_eff ..).after Eff.refl rfl) fun hx1 => ?_
      extract_lets +onlyGivenNames v2
      clear_value v2
      extract_lets +onlyGivenNames x3
      clear_value (ex3 : x3 = _)
      refine Eff.have ex3 (Eff.upd_power hx1 rfl) fun hx3 => ?_
      exact Eff.ite ((State.awake_eff ..).after hx3 rfl) hx3

theorem execDomainDown_eff (s : State) {t : State} (h : execDomainDown s = .next t) :
    Eff (withSide [.clock, .device, .boot, .pins, .cameras]) (sideAnd [.fam (K.camstChannelState 0) 12, .fam (K.camstLinksUp 0)
        12, .one K.camsPresent, .one K.camsPresentCount, .one K.camsRetired, .one K.devDeviceState, .one K.devStateChanges, .one
        K.devStateTime, .one K.pwrPowerPhase, .one K.pwrSleeps, .one K.pwrWakeCause]) s t := by
  unfold execDomainDown at h
  cases h
  exact (domainDown_eff ..).after Eff.refl rfl

theorem execDomainUp_eff (s : State) {t : State} (h : execDomainUp s = .next t) :
    Eff (withSide [.clock, .device, .boot, .pins]) (sideAnd [.one K.devDeviceState, .one K.devStateChanges, .one K.devStateTime,
        .one K.pwrPowerPhase, .one K.pwrWakeCause]) s t := by
  unfold execDomainUp at h
  cases h
  exact (domainUp_eff ..).after Eff.refl rfl

theorem wakePin_eff (level : Bool) (s : State) :
    Eff (withSide [.device, .boot, .pins]) (sideAnd [.one K.devDeviceState, .one K.devStateChanges, .one K.devStateTime, .one
        K.pwrPowerPhase, .one K.pwrWakeCause]) s (wakePin level s) := by
  unfold wakePin
  extract_lets +onlyGivenNames v1
  clear_value v1
  refine Eff.ite ?_ ?_
  · exact Eff.refl
  · extract_lets +onlyGivenNames x2
    clear_value (ex2 : x2 = _)
    refine Eff.have ex2 (Eff.upd_gpioIn Eff.refl rfl) fun hx2 => ?_
    exact Eff.ite ((State.wake_eff ..).after hx2 rfl) hx2

theorem execWakePin_eff (level : Bool) (s : State) {t : State} (h : execWakePin level s = .next t) :
    Eff (withSide [.device, .boot, .pins]) (sideAnd [.one K.devDeviceState, .one K.devStateChanges, .one K.devStateTime, .one
        K.pwrPowerPhase, .one K.pwrWakeCause]) s t := by
  unfold execWakePin at h
  cases h
  exact (wakePin_eff ..).after Eff.refl rfl

end Sys2Proof.Machine
end

