-- ==== Sys2Proof/Laws/Skobaty.lean ====
section
/-! SUPPORT. What each operation of Machine/Skobaty.lean may change. -/

-- The proofs of this file are checked one after another, in one thread.
set_option Elab.async false

namespace Sys2Proof.Machine

theorem State.setSkl_eff (s : State) (k : Skl) :
    Eff [.link] [] s (State.setSkl s k) := by
  unfold State.setSkl
  exact Eff.upd_skl Eff.refl rfl

theorem State.setSkPort_eff (s : State) (p : Nat) (a1 : SklPort) :
    Eff [.link] [] s (State.setSkPort s p a1) := by
  unfold State.setSkPort
  exact (State.setSkl_eff ..).after Eff.refl rfl

theorem State.dropQueues_eff (s : State) (p : Nat) :
    Eff [.regs, .link] [.fam (K.spsQueueDrops 0) 2] s (State.dropQueues s p) := by
  unfold State.dropQueues
  extract_lets +onlyGivenNames v1
  clear_value v1
  extract_lets +onlyGivenNames v2
  clear_value v2
  exact (State.setSkPort_eff ..).after (Eff.add Eff.refl rfl (KeySet.any_fam _ rfl)) rfl

theorem State.forgetRoutes_eff (s : State) (p : Nat) :
    Eff [.link] [] s (State.forgetRoutes s p) := by
  unfold State.forgetRoutes
  exact (State.setSkl_eff ..).after Eff.refl rfl

theorem State.setSkLane_eff (s : State) (l : Nat) (a1 : SklLane) :
    Eff [.link] [] s (State.setSkLane s l a1) := by
  unfold State.setSkLane
  exact (State.setSkl_eff ..).after Eff.refl rfl

theorem State.setTaps_eff (s : State) (l : Nat) (pre : Nat) (main : Nat) (post : Nat) :
    Eff [.regs] [.fam (K.laneTxMain 0) 8, .fam (K.laneTxPost 0) 8, .fam (K.laneTxPre 0) 8] s (State.setTaps s l pre main post) :=
        by
  unfold State.setTaps
  exact Eff.wr (Eff.wr (Eff.wr Eff.refl rfl (KeySet.any_fam _ rfl)) rfl (KeySet.any_fam _ rfl)) rfl (KeySet.any_fam _ rfl)

theorem huntLane_eff (mask : Nat) (p : Nat) (s : State) (i : Nat) :
    Eff [.regs, .link] [.fam (K.laneLaneState 0) 8, .fam (K.laneTxMain 0) 8, .fam (K.laneTxPost 0) 8, .fam (K.laneTxPre 0) 8] s
        (huntLane mask p s i) := by
  unfold huntLane
  extract_lets +onlyGivenNames v1
  clear_value v1
  extract_lets +onlyGivenNames x2
  clear_value (ex2 : x2 = _)
  refine Eff.have ex2 ((State.setSkLane_eff ..).after Eff.refl rfl) fun hx2 => ?_
  exact Eff.ite ((State.setTaps_eff ..).after (Eff.wr hx2 rfl (KeySet.any_fam _ rfl)) rfl) (Eff.wr hx2 rfl (KeySet.any_fam _ rfl))

theorem State.sklHunt_eff (s : State) (p : Nat) :
    Eff [.regs, .link] [.fam (K.laneLaneState 0) 8, .fam (K.laneTxMain 0) 8, .fam (K.laneTxPost 0) 8, .fam (K.laneTxPre 0) 8, .fam
        (K.spsLinkState 0) 2, .fam (K.spsRxLanes 0) 2, .fam (K.spsSpeed 0) 2, .fam (K.spsTrainState 0) 2, .fam (K.spsTxLanes 0) 2]
        s (State.sklHunt s p) := by
  unfold State.sklHunt
  extract_lets +onlyGivenNames v1
  clear_value v1
  extract_lets +onlyGivenNames x2
  clear_value (ex2 : x2 = _)
  refine Eff.have ex2 (Eff.foldl (fun x3 _ hx3 => ((huntLane_eff ..).after hx3 rfl)) Eff.refl) fun hx2 => ?_
  extract_lets +onlyGivenNames x4
  clear_value (ex4 : x4 = _)
  refine Eff.have ex4 (Eff.wr (Eff.wr (Eff.wr (Eff.wr (Eff.wr hx2 rfl (KeySet.any_fam _ rfl)) rfl (KeySet.any_fam _ rfl)) rfl
      (KeySet.any_fam _ rfl)) rfl (KeySet.any_fam _ rfl)) rfl (KeySet.any_fam _ rfl)) fun hx4 => ?_
  exact (State.setSkPort_eff ..).after hx4 rfl

theorem State.sklTrain_eff (s : State) (p : Nat) :
    Eff [.regs, .link] [.fam (K.laneLaneState 0) 8, .fam (K.laneTxMain 0) 8, .fam (K.laneTxPost 0) 8, .fam (K.laneTxPre 0) 8, .fam
        (K.spsLinkState 0) 2, .fam (K.spsRxLanes 0) 2, .fam (K.spsRxState 0) 2, .fam (K.spsSpeed 0) 2, .fam (K.spsTrainState 0) 2,
        .fam (K.spsTrainings 0) 2, .fam (K.spsTxLanes 0) 2, .fam (K.spsTxState 0) 2] s (State.sklTrain s p) := by
  unfold State.sklTrain
  extract_lets +onlyGivenNames x1
  clear_value (ex1 : x1 = _)
  refine Eff.have ex1 (Eff.ite ((State.forgetRoutes_eff ..).after Eff.refl rfl) Eff.refl) fun hx1 => ?_
  exact (State.sklHunt_eff ..).after (Eff.inc (Eff.wr (Eff.wr hx1 rfl (KeySet.any_fam _ rfl)) rfl (KeySet.any_fam _ rfl)) rfl
      (KeySet.any_fam _ rfl)) rfl

theorem State.sklApply_eff (a1 : State) (s : State) (p : Nat) :
    Eff [.regs, .link] [.fam (K.laneLaneState 0) 8, .fam (K.laneTxMain 0) 8, .fam (K.laneTxPost 0) 8, .fam (K.laneTxPre 0) 8, .fam
        (K.spsLinkState 0) 2, .fam (K.spsQueueDrops 0) 2, .fam (K.spsRxLanes 0) 2, .fam (K.spsRxState 0) 2, .fam (K.spsSpeed 0) 2,
        .fam (K.spsTrainState 0) 2, .fam (K.spsTrainings 0) 2, .fam (K.spsTxLanes 0) 2, .fam (K.spsTxState 0) 2] s (State.sklApply
        a1 s p) := by
  unfold State.sklApply
  refine Eff.ite ?_ ?_
  · extract_lets +onlyGivenNames x1
    clear_value (ex1 : x1 = _)
    refine Eff.have ex1 (Eff.ite ((State.dropQueues_eff ..).after ((State.forgetRoutes_eff ..).after Eff.refl rfl) rfl) Eff.refl)
        fun hx1 => ?_
    extract_lets +onlyGivenNames x2
    clear_value (ex2 : x2 = _)
    refine Eff.have ex2 (Eff.foldl (fun x3 _ hx3 => ((huntLane_eff ..).after hx3 rfl)) hx1) fun hx2 => ?_
    exact (State.setSkPort_eff ..).after (Eff.wr (Eff.wr (Eff.wr (Eff.wr hx2 rfl (KeySet.any_fam _ rfl)) rfl (KeySet.any_fam _
        rfl)) rfl (KeySet.any_fam _ rfl)) rfl (KeySet.any_fam _ rfl)) rfl
  · exact Eff.ite ((State.sklTrain_eff ..).after Eff.refl rfl) Eff.refl

theorem State.newMsg_eff (s : State) (cls : Nat) (flags : Nat) (dest : Nat) (lineage : Nat) (payload : List Nat) :
    Eff [.link] [] s (State.newMsg s cls flags dest lineage payload).2 := by
  unfold State.newMsg
  extract_lets +onlyGivenNames v1
  clear_value v1
  exact Eff.pair2 ((State.setSkl_eff ..).after Eff.refl rfl)

theorem State.queueDrop_eff (s : State) (p : Nat) :
    Eff sideParts (sideAnd [.fam (K.spsPortStatus 0) 2, .fam (K.spsQueueDrops 0) 2]) s (State.queueDrop s p) := by
  unfold State.queueDrop
  exact Eff.flag (Eff.inc Eff.refl rfl (KeySet.any_fam _ rfl)) rfl (KeySet.any_fam _ rfl)

theorem State.sendOn_eff (m : SkMsg) (task : Option Nat) (s : State) (p : Nat) :
    Eff (withSide [.link]) (sideAnd [.fam (K.spsPortStatus 0) 2, .fam (K.spsQueueDrops 0) 2]) s (State.sendOn m task s p) := by
  unfold State.sendOn
  split
  · rename_i q1
    exact (State.enqueue_eff q1).after Eff.refl rfl
  · exact Eff.ite ((State.setSkl_eff ..).after Eff.refl rfl) ((State.queueDrop_eff ..).after Eff.refl rfl)

theorem State.broadcast_eff (s : State) (cls : Nat) (lineage : Nat) (payload : List Nat) (task : Option Nat) :
    Eff (withSide [.link]) (sideAnd [.fam (K.spsPortStatus 0) 2, .fam (K.spsQueueDrops 0) 2]) s (State.broadcast s cls lineage
        payload task) := by
  unfold State.broadcast
  generalize eg4 : State.newMsg _ _ _ _ _ _ = g4
  obtain ⟨p1, p2⟩ := g4
  refine Eff.have (congrArg (fun p => p.2) eg4).symm ((State.newMsg_eff ..).after Eff.refl rfl) fun hp2 => ?_
  (try dsimp -zeta -proj only)
  exact Eff.foldl (fun x3 _ hx3 => ((State.sendOn_eff ..).after hx3 rfl)) hp2

theorem State.noRoute_eff (s : State) :
    Eff sideParts (sideAnd [.one K.sklLinkStatus, .one K.sklNoRoute]) s (State.noRoute s) := by
  unfold State.noRoute
  exact Eff.flag (Eff.inc Eff.refl rfl rfl) rfl rfl

theorem State.unicast_eff (s : State) (cls : Nat) (flags : Nat) (dest : Nat) (lineage : Nat) (payload : List Nat) (task : Option
    Nat) :
    Eff (withSide [.link]) (sideAnd [.fam (K.spsPortStatus 0) 2, .fam (K.spsQueueDrops 0) 2, .one K.sklLinkStatus, .one
        K.sklNoRoute]) s (State.unicast s cls flags dest lineage payload task).2 := by
  unfold State.unicast
  split
  · exact Eff.pair2 ((State.noRoute_eff ..).after Eff.refl rfl)
  · generalize eg3 : State.newMsg _ _ _ _ _ _ = g3
    obtain ⟨p1, p2⟩ := g3
    refine Eff.have (congrArg (fun p => p.2) eg3).symm ((State.newMsg_eff ..).after Eff.refl rfl) fun hp2 => ?_
    (try dsimp -zeta -proj only)
    exact Eff.pair2 ((State.sendOn_eff ..).after hp2 rfl)

theorem fillQueues_eff (a1 : List SklWait) (s : State) :
    Eff [.link] [] s (fillQueues a1 s) := by
  unfold fillQueues
  split
  · exact Eff.refl
  · split
    · rename_i q1
      exact (fillQueues_eff ..).after ((State.enqueue_eff q1).after Eff.refl rfl) rfl
    · exact (fillQueues_eff ..).after ((State.setSkl_eff ..).after Eff.refl rfl) rfl

theorem State.fill_eff (s : State) :
    Eff [.link] [] s (State.fill s) := by
  unfold State.fill
  exact (fillQueues_eff ..).after ((State.setSkl_eff ..).after Eff.refl rfl) rfl

theorem State.transit_eff (m : SkMsg) (s : State) (p : Nat) :
    Eff (withSide [.link]) (sideAnd [.fam (K.spsPortStatus 0) 2, .fam (K.spsQueueDrops 0) 2]) s (State.transit m s p) := by
  unfold State.transit
  extract_lets +onlyGivenNames v1
  clear_value v1
  split
  · rename_i q2
    exact Eff.ite ((State.setSkPort_eff ..).after ((State.enqueue_eff q2).after Eff.refl rfl) rfl) ((State.enqueue_eff q2).after
        Eff.refl rfl)
  · exact (State.queueDrop_eff ..).after Eff.refl rfl

theorem State.sklDown_eff (s : State) (p : Nat) :
    Eff (withSide [.link]) (sideAnd [.fam (K.laneLaneState 0) 8, .fam (K.laneTxMain 0) 8, .fam (K.laneTxPost 0) 8, .fam
        (K.laneTxPre 0) 8, .fam (K.spsLinkState 0) 2, .fam (K.spsPortStatus 0) 2, .fam (K.spsQueueDrops 0) 2, .fam (K.spsRxLanes
        0) 2, .fam (K.spsRxState 0) 2, .fam (K.spsSpeed 0) 2, .fam (K.spsTrainState 0) 2, .fam (K.spsTrainings 0) 2, .fam
        (K.spsTxLanes 0) 2, .fam (K.spsTxState 0) 2]) s (State.sklDown s p) := by
  unfold State.sklDown
  extract_lets +onlyGivenNames x1
  clear_value (ex1 : x1 = _)
  refine Eff.have ex1 (Eff.wr (Eff.wr Eff.refl rfl (KeySet.any_fam _ rfl)) rfl (KeySet.any_fam _ rfl)) fun hx1 => ?_
  extract_lets +onlyGivenNames x2
  clear_value (ex2 : x2 = _)
  refine Eff.have ex2 ((State.forgetRoutes_eff ..).after ((State.raise_eff ..).after (Eff.flag hx1 rfl (KeySet.any_fam _ rfl))
      rfl) rfl) fun hx2 => ?_
  extract_lets +onlyGivenNames x3
  clear_value (ex3 : x3 = _)
  refine Eff.have ex3 ((State.dropQueues_eff ..).after hx2 rfl) fun hx3 => ?_
  exact Eff.ite ((State.sklTrain_eff ..).after hx3 rfl) hx3

theorem State.skOut_eff (s : State) (o : SklOut) :
    Eff [.link] [] s (State.skOut s o) := by
  unfold State.skOut
  exact (State.setSkl_eff ..).after Eff.refl rfl

theorem State.laneRetire_eff (s : State) (l : Nat) (bit : Nat) (faults : Nat) :
    Eff (withSide [.link]) (sideAnd [.fam (K.laneFaultCount 0) 8, .fam (K.laneLaneState 0) 8, .fam (K.laneLastFaultTime 0) 8, .fam
        (K.laneTxMain 0) 8, .fam (K.laneTxPost 0) 8, .fam (K.laneTxPre 0) 8, .fam (K.spsLinkState 0) 2, .fam (K.spsPortStatus 0)
        2, .fam (K.spsQueueDrops 0) 2, .fam (K.spsRxLanes 0) 2, .fam (K.spsRxState 0) 2, .fam (K.spsSpeed 0) 2, .fam
        (K.spsTrainState 0) 2, .fam (K.spsTrainings 0) 2, .fam (K.spsTxLanes 0) 2, .fam (K.spsTxState 0) 2, .one K.fltFaultStatus,
        .one K.fltLastRetiredUnit, .one K.fltRetiredCount]) s (State.laneRetire s l bit faults) := by
  unfold State.laneRetire
  extract_lets +onlyGivenNames v1
  clear_value v1
  extract_lets +onlyGivenNames x2
  clear_value (ex2 : x2 = _)
  refine Eff.have ex2 (Eff.wr (Eff.inc (Eff.wr Eff.refl rfl (KeySet.any_fam _ rfl)) rfl (KeySet.any_fam _ rfl)) rfl
      (KeySet.any_fam _ rfl)) fun hx2 => ?_
  extract_lets +onlyGivenNames x3
  clear_value (ex3 : x3 = _)
  refine Eff.have ex3 ((State.retire_eff ..).after hx2 rfl) fun hx3 => ?_
  extract_lets +onlyGivenNames x4
  clear_value (ex4 : x4 = _)
  refine Eff.have ex4 ((State.raise_eff ..).after (Eff.flag hx3 rfl (KeySet.any_fam _ rfl)) rfl) fun hx4 => ?_
  extract_lets +onlyGivenNames v5
  clear_value v5
  extract_lets +onlyGivenNames x6
  clear_value (ex6 : x6 = _)
  refine Eff.have ex6 (Eff.wr hx4 rfl (KeySet.any_fam _ rfl)) fun hx6 => ?_
  exact Eff.ite ((State.sklDown_eff ..).after hx6 rfl) ((State.skOut_eff ..).after ((State.setSkPort_eff ..).after hx6 rfl) rfl)

theorem State.sendPort_eff (s : State) (p : Nat) (cls : Nat) (flags : Nat) (dest : Nat) (payload : List Nat) :
    Eff (withSide [.link]) (sideAnd [.fam (K.spsPortStatus 0) 2, .fam (K.spsQueueDrops 0) 2]) s (State.sendPort s p cls flags dest
        payload) := by
  unfold State.sendPort
  refine Eff.ite ?_ ?_
  · exact Eff.refl
  · generalize eg3 : State.newMsg _ _ _ _ _ _ = g3
    obtain ⟨p1, p2⟩ := g3
    refine Eff.have (congrArg (fun p => p.2) eg3).symm ((State.newMsg_eff ..).after Eff.refl rfl) fun hp2 => ?_
    (try dsimp -zeta -proj only)
    exact (State.sendOn_eff ..).after hp2 rfl

theorem State.sendBulk_eff (s : State) :
    Eff (withSide [.umbra, .link]) (sideAnd [.fam (K.spsPortStatus 0) 2, .fam (K.spsQueueDrops 0) 2]) s (State.sendBulk s) := by
  unfold State.sendBulk
  exact Eff.foldl (fun x1 _ hx1 => ((State.sendPort_eff ..).after hx1 rfl)) ((State.setUmb_eff ..).after Eff.refl rfl)

theorem State.sklFall_eff (s : State) (p : Nat) :
    Eff (withSide [.link]) (sideAnd [.fam (K.laneTxMain 0) 8, .fam (K.laneTxPost 0) 8, .fam (K.laneTxPre 0) 8, .fam
        (K.spsPortStatus 0) 2, .fam (K.spsSpeed 0) 2, .fam (K.spsTrainState 0) 2]) s (State.sklFall s p) := by
  unfold State.sklFall
  extract_lets +onlyGivenNames v1
  clear_value v1
  extract_lets +onlyGivenNames x2
  clear_value (ex2 : x2 = _)
  refine Eff.have ex2 (Eff.foldl (fun x3 _ hx3 =>
      (by extract_lets +onlyGivenNames v4; clear_value v4; exact ((State.setTaps_eff ..).after hx3 rfl))) Eff.refl) fun hx2 => ?_
  extract_lets +onlyGivenNames x5
  clear_value (ex5 : x5 = _)
  refine Eff.have ex5 ((State.setSkPort_eff ..).after (Eff.wr (Eff.wr hx2 rfl (KeySet.any_fam _ rfl)) rfl (KeySet.any_fam _ rfl))
      rfl) fun hx5 => ?_
  exact (State.raise_eff ..).after (Eff.flag hx5 rfl (KeySet.any_fam _ rfl)) rfl

theorem State.stampOut_eff (s : State) (m : SkMsg) :
    Eff [.time] [] s (State.stampOut s m).2 := by
  unfold State.stampOut
  extract_lets +onlyGivenNames v1
  clear_value v1
  split
  · exact Eff.pair2 Eff.refl
  · extract_lets +onlyGivenNames v2
    clear_value v2
    split
    · exact Eff.pair2 Eff.refl
    · exact Eff.pair2 (Eff.upd_sync Eff.refl rfl)

theorem State.tapRequest_eff (s : State) (l : Nat) (req : Nat) :
    Eff [.regs, .link] [.fam (K.laneTxMain 0) 8, .fam (K.laneTxPost 0) 8, .fam (K.laneTxPre 0) 8] s (State.tapRequest s l req) :=
        by
  unfold State.tapRequest
  extract_lets +onlyGivenNames v1
  clear_value v1
  refine Eff.ite ?_ ?_
  · exact (State.setSkLane_eff ..).after Eff.refl rfl
  · refine Eff.ite ?_ ?_
    · exact Eff.refl
    · refine Eff.ite ?_ ?_
      · exact (State.setSkLane_eff ..).after ((State.setTaps_eff ..).after Eff.refl rfl) rfl
      · split
        · extract_lets +onlyGivenNames v2
          clear_value v2
          extract_lets +onlyGivenNames v3
          clear_value v3
          extract_lets +onlyGivenNames v4
          clear_value v4
          exact (State.setSkLane_eff ..).after ((State.setTaps_eff ..).after Eff.refl rfl) rfl

theorem State.tuneDone_eff (s : State) (p : Nat) :
    Eff [.regs] [.fam (K.spsTrainState 0) 2] s (State.tuneDone s p) := by
  unfold State.tuneDone
  exact Eff.ite (Eff.wr Eff.refl rfl (KeySet.any_fam _ rfl)) Eff.refl

theorem bulkWaitTimeout_eff (s : State) :
    Eff (withSide [.clock, .link]) (sideAnd [.fam (K.spsPortStatus 0) 2, .fam (K.spsQueueDrops 0) 2]) s (bulkWaitTimeout s) := by
  unfold bulkWaitTimeout
  split
  · exact Eff.refl
  · exact (State.queueDrop_eff ..).after ((State.setSkl_eff ..).after ((State.at_eff ..).after Eff.refl rfl) rfl) rfl

theorem directionWake_eff (p : Nat) (s : State) :
    Eff (withSide [.clock, .link]) (sideAnd [.fam (K.spsTxState 0) 2, .fam (K.spsWakes 0) 2]) s (directionWake p s) := by
  unfold directionWake
  extract_lets +onlyGivenNames v1
  clear_value v1
  refine Eff.ite ?_ ?_
  · exact Eff.refl
  · extract_lets +onlyGivenNames x2
    clear_value (ex2 : x2 = _)
    refine Eff.have ex2 ((State.at_eff ..).after Eff.refl rfl) fun hx2 => ?_
    extract_lets +onlyGivenNames v3
    clear_value v3
    exact (State.raise_eff ..).after (Eff.inc (Eff.wr ((State.setSkPort_eff ..).after hx2 rfl) rfl (KeySet.any_fam _ rfl)) rfl
        (KeySet.any_fam _ rfl)) rfl

theorem dropLane_eff (p : Nat) (keep : Nat) (s : State) (i : Nat) :
    Eff [.regs] [.fam (K.laneLaneState 0) 8] s (dropLane p keep s i) := by
  unfold dropLane
  exact Eff.ite Eff.refl (Eff.wr Eff.refl rfl (KeySet.any_fam _ rfl))

theorem execBulkWaitTimeout_eff (s : State) {t : State} (h : execBulkWaitTimeout s = .next t) :
    Eff (withSide [.clock, .link]) (sideAnd [.fam (K.spsPortStatus 0) 2, .fam (K.spsQueueDrops 0) 2]) s t := by
  unfold execBulkWaitTimeout at h
  cases h
  exact (bulkWaitTimeout_eff ..).after Eff.refl rfl

theorem execDirectionWake_eff (p : Nat) (s : State) {t : State} (h : execDirectionWake p s = .next t) :
    Eff (withSide [.clock, .link]) (sideAnd [.fam (K.spsTxState 0) 2, .fam (K.spsWakes 0) 2]) s t := by
  unfold execDirectionWake at h
  exact Eff.to (inst_next h).2.symm ((directionWake_eff ..).after Eff.refl rfl)

theorem laneFault_eff (l : Nat) (headers : Nat) (s : State) :
    Eff (withSide [.link]) (sideAnd [.fam (K.laneFaultCount 0) 8, .fam (K.laneHeaderErrors 0) 8, .fam (K.laneLaneState 0) 8, .fam
        (K.laneLastFaultTime 0) 8, .fam (K.laneTxMain 0) 8, .fam (K.laneTxPost 0) 8, .fam (K.laneTxPre 0) 8, .fam (K.spsLinkState
        0) 2, .fam (K.spsPortStatus 0) 2, .fam (K.spsQueueDrops 0) 2, .fam (K.spsRxLanes 0) 2, .fam (K.spsRxState 0) 2, .fam
        (K.spsSpeed 0) 2, .fam (K.spsTrainState 0) 2, .fam (K.spsTrainings 0) 2, .fam (K.spsTxLanes 0) 2, .fam (K.spsTxState 0) 2,
        .one K.fltFaultStatus, .one K.fltLastRetiredUnit, .one K.fltRetiredCount, .one K.fltTransientCount]) s (laneFault l
        headers s) := by
  unfold laneFault
  extract_lets +onlyGivenNames v1
  clear_value v1
  refine Eff.ite ?_ ?_
  · exact Eff.refl
  · extract_lets +onlyGivenNames v2
    clear_value v2
    extract_lets +onlyGivenNames x3
    clear_value (ex3 : x3 = _)
    refine Eff.have ex3 ((State.transient_eff ..).after (Eff.add Eff.refl rfl (KeySet.any_fam _ rfl)) rfl) fun hx3 => ?_
    exact Eff.ite ((State.laneRetire_eff ..).after hx3 rfl) hx3

theorem execLaneFault_eff (l : Nat) (headers : Nat) (s : State) {t : State} (h : execLaneFault l headers s = .next t) :
    Eff (withSide [.link]) (sideAnd [.fam (K.laneFaultCount 0) 8, .fam (K.laneHeaderErrors 0) 8, .fam (K.laneLaneState 0) 8, .fam
        (K.laneLastFaultTime 0) 8, .fam (K.laneTxMain 0) 8, .fam (K.laneTxPost 0) 8, .fam (K.laneTxPre 0) 8, .fam (K.spsLinkState
        0) 2, .fam (K.spsPortStatus 0) 2, .fam (K.spsQueueDrops 0) 2, .fam (K.spsRxLanes 0) 2, .fam (K.spsRxState 0) 2, .fam
        (K.spsSpeed 0) 2, .fam (K.spsTrainState 0) 2, .fam (K.spsTrainings 0) 2, .fam (K.spsTxLanes 0) 2, .fam (K.spsTxState 0) 2,
        .one K.fltFaultStatus, .one K.fltLastRetiredUnit, .one K.fltRetiredCount, .one K.fltTransientCount]) s t := by
  unfold execLaneFault at h
  exact Eff.to (inst_next h).2.symm ((laneFault_eff ..).after Eff.refl rfl)

theorem laneLock_eff (l : Nat) (s : State) :
    Eff [.regs, .link] [.fam (K.laneLaneState 0) 8] s (laneLock l s) := by
  unfold laneLock
  extract_lets +onlyGivenNames v1
  clear_value v1
  refine Eff.ite ?_ ?_
  · exact Eff.refl
  · refine Eff.ite ?_ ?_
    · extract_lets +onlyGivenNames v2
      clear_value v2
      exact (State.setSkPort_eff ..).after (Eff.wr Eff.refl rfl (KeySet.any_fam _ rfl)) rfl
    · refine Eff.ite ?_ ?_
      · extract_lets +onlyGivenNames v3
        clear_value v3
        extract_lets +onlyGivenNames v4
        clear_value v4
        extract_lets +onlyGivenNames x5
        clear_value (ex5 : x5 = _)
        refine Eff.have ex5 ((State.setSkLane_eff ..).after (Eff.wr Eff.refl rfl (KeySet.any_fam _ rfl)) rfl) fun hx5 => ?_
        exact (State.skOut_eff ..).after ((State.setSkPort_eff ..).after hx5 rfl) rfl
      · exact Eff.refl

theorem execLaneLock_eff (l : Nat) (s : State) {t : State} (h : execLaneLock l s = .next t) :
    Eff [.regs, .link] [.fam (K.laneLaneState 0) 8] s t := by
  unfold execLaneLock at h
  exact Eff.to (inst_next h).2.symm ((laneLock_eff ..).after Eff.refl rfl)

theorem laneLockLost_eff (l : Nat) (s : State) :
    Eff (withSide [.link]) (sideAnd [.fam (K.laneFaultCount 0) 8, .fam (K.laneLaneState 0) 8, .fam (K.laneLastFaultTime 0) 8, .fam
        (K.laneTxMain 0) 8, .fam (K.laneTxPost 0) 8, .fam (K.laneTxPre 0) 8, .fam (K.spsLinkState 0) 2, .fam (K.spsPortStatus 0)
        2, .fam (K.spsQueueDrops 0) 2, .fam (K.spsRxLanes 0) 2, .fam (K.spsRxState 0) 2, .fam (K.spsSpeed 0) 2, .fam
        (K.spsTrainState 0) 2, .fam (K.spsTrainings 0) 2, .fam (K.spsTxLanes 0) 2, .fam (K.spsTxState 0) 2, .one K.fltFaultStatus,
        .one K.fltLastRetiredUnit, .one K.fltRetiredCount]) s (laneLockLost l s) := by
  unfold laneLockLost
  extract_lets +onlyGivenNames v1
  clear_value v1
  exact Eff.ite Eff.refl (Eff.ite (Eff.ite Eff.refl ((State.laneRetire_eff ..).after Eff.refl rfl)) (Eff.ite Eff.refl (Eff.ite
      (Eff.wr Eff.refl rfl (KeySet.any_fam _ rfl)) (Eff.ite ((State.sklFall_eff ..).after Eff.refl rfl) (Eff.ite
      ((State.sklHunt_eff ..).after Eff.refl rfl) Eff.refl)))))

theorem execLaneLockLost_eff (l : Nat) (s : State) {t : State} (h : execLaneLockLost l s = .next t) :
    Eff (withSide [.link]) (sideAnd [.fam (K.laneFaultCount 0) 8, .fam (K.laneLaneState 0) 8, .fam (K.laneLastFaultTime 0) 8, .fam
        (K.laneTxMain 0) 8, .fam (K.laneTxPost 0) 8, .fam (K.laneTxPre 0) 8, .fam (K.spsLinkState 0) 2, .fam (K.spsPortStatus 0)
        2, .fam (K.spsQueueDrops 0) 2, .fam (K.spsRxLanes 0) 2, .fam (K.spsRxState 0) 2, .fam (K.spsSpeed 0) 2, .fam
        (K.spsTrainState 0) 2, .fam (K.spsTrainings 0) 2, .fam (K.spsTxLanes 0) 2, .fam (K.spsTxState 0) 2, .one K.fltFaultStatus,
        .one K.fltLastRetiredUnit, .one K.fltRetiredCount]) s t := by
  unfold execLaneLockLost at h
  exact Eff.to (inst_next h).2.symm ((laneLockLost_eff ..).after Eff.refl rfl)

theorem laneMap_eff (p : Nat) (mask : Nat) (s : State) :
    Eff [.regs, .link] [.fam (K.spsRxState 0) 2] s (laneMap p mask s) := by
  unfold laneMap
  exact Eff.ite Eff.refl ((State.setSkPort_eff ..).after (Eff.wr Eff.refl rfl (KeySet.any_fam _ rfl)) rfl)

theorem execLaneMap_eff (p : Nat) (mask : Nat) (s : State) {t : State} (h : execLaneMap p mask s = .next t) :
    Eff [.regs, .link] [.fam (K.spsRxState 0) 2] s t := by
  unfold execLaneMap at h
  exact Eff.to (inst_next h).2.symm ((laneMap_eff ..).after Eff.refl rfl)

theorem readmitLane_eff (p : Nat) (mask : Nat) (s : State) (i : Nat) :
    Eff (withSide [.link]) (sideAnd [.fam (K.laneLaneState 0) 8, .one K.fltRetiredCount]) s (readmitLane p mask s i) := by
  unfold readmitLane
  extract_lets +onlyGivenNames v1
  clear_value v1
  exact Eff.ite ((State.setSkLane_eff ..).after (Eff.wr ((State.readmit_eff ..).after Eff.refl rfl) rfl (KeySet.any_fam _ rfl))
      rfl) Eff.refl

theorem laneReadmitWrite_eff (a : Acc) (p : Nat) (s : State) :
    Eff (withSide [.link]) (accAnd [.fam (K.laneLaneState 0) 8, .one K.fltRetiredCount]) s (laneReadmitWrite a p s) := by
  unfold laneReadmitWrite
  exact Eff.act Eff.refl (fun y1 hy1 => (Eff.foldl (fun x2 _ hx2 => ((readmitLane_eff ..).after hx2 rfl)) hy1)) rfl

theorem execLaneReadmit_eff (a : Acc) (p : Nat) (s : State) {t : State} (h : execLaneReadmit a p s = .next t) :
    Eff (withSide [.link]) (accAnd [.fam (K.laneLaneState 0) 8, .one K.fltRetiredCount]) s t := by
  unfold execLaneReadmit at h
  exact Eff.to (inst_next h).2.symm ((laneReadmitWrite_eff ..).after Eff.refl rfl)

theorem lnkSend_eff (k : Nat) (s : State) :
    Eff (withSide [.link]) (sideAnd [.fam (K.spsPortStatus 0) 2, .fam (K.spsQueueDrops 0) 2, .one K.sklLinkStatus, .one
        K.sklNoRoute]) s (lnkSend k s) := by
  unfold lnkSend
  split
  · exact Eff.refl
  · rename_i q1
    extract_lets +onlyGivenNames v2
    clear_value v2
    extract_lets +onlyGivenNames v3
    clear_value v3
    exact Eff.ite ((State.takeTask_eff q1).after Eff.refl rfl) (Eff.ite ((State.broadcast_eff ..).after ((State.takeTask_eff
        q1).after Eff.refl rfl) rfl) ((State.unicast_eff ..).after ((State.takeTask_eff q1).after Eff.refl rfl) rfl))

theorem execLnkSend_eff (k : Nat) (s : State) {t : State} (h : execLnkSend k s = .next t) :
    Eff (withSide [.link]) (sideAnd [.fam (K.spsPortStatus 0) 2, .fam (K.spsQueueDrops 0) 2, .one K.sklLinkStatus, .one
        K.sklNoRoute]) s t := by
  unfold execLnkSend at h
  exact Eff.to (inst_next h).2.symm ((lnkSend_eff ..).after Eff.refl rfl)

theorem marker_eff (p : Nat) (s : State) :
    Eff [.regs, .link] [.fam (K.spsRxLanes 0) 2, .fam (K.spsRxState 0) 2, .fam (K.spsTxLanes 0) 2] s (marker p s) := by
  unfold marker
  refine Eff.ite ?_ ?_
  · exact Eff.refl
  · extract_lets +onlyGivenNames v1
    clear_value v1
    extract_lets +onlyGivenNames x2
    clear_value (ex2 : x2 = _)
    refine Eff.have ex2 (Eff.wr Eff.refl rfl (KeySet.any_fam _ rfl)) fun hx2 => ?_
    extract_lets +onlyGivenNames x3
    clear_value (ex3 : x3 = _)
    refine Eff.have ex3 (by split; exact (Eff.wr hx2 rfl (KeySet.any_fam _ rfl)); exact hx2) fun hx3 => ?_
    extract_lets +onlyGivenNames x4
    clear_value (ex4 : x4 = _)
    refine Eff.have ex4 (by split; exact (Eff.wr hx3 rfl (KeySet.any_fam _ rfl)); exact hx3) fun hx4 => ?_
    exact (State.setSkPort_eff ..).after hx4 rfl

theorem execMarker_eff (p : Nat) (s : State) {t : State} (h : execMarker p s = .next t) :
    Eff [.regs, .link] [.fam (K.spsRxLanes 0) 2, .fam (K.spsRxState 0) 2, .fam (K.spsTxLanes 0) 2] s t := by
  unfold execMarker at h
  exact Eff.to (inst_next h).2.symm ((marker_eff ..).after Eff.refl rfl)

theorem msgTransmit_eff (p : Nat) (s : State) :
    Eff [.clock, .time, .regs, .link] [.fam (K.spsMsgSent 0) 2, .fam (K.spsTxState 0) 2] s (msgTransmit p s) := by
  unfold msgTransmit
  extract_lets +onlyGivenNames v1
  clear_value v1
  refine Eff.ite ?_ ?_
  · exact Eff.refl
  · split
    · exact Eff.refl
    · extract_lets +onlyGivenNames x2
      clear_value (ex2 : x2 = _)
      refine Eff.have ex2 ((State.at_eff ..).after Eff.refl rfl) fun hx2 => ?_
      generalize eg7 : State.stampOut _ _ = g7
      obtain ⟨p3, p4⟩ := g7
      refine Eff.have (congrArg (fun p => p.2) eg7).symm ((State.stampOut_eff ..).after hx2 rfl) fun hp4 => ?_
      (try dsimp -zeta -proj only)
      extract_lets +onlyGivenNames v5
      clear_value v5
      extract_lets +onlyGivenNames x6
      clear_value (ex6 : x6 = _)
      refine Eff.have ex6 ((State.setSkPort_eff ..).after hp4 rfl) fun hx6 => ?_
      exact (State.fill_eff ..).after (Eff.inc ((State.skOut_eff ..).after (Eff.wr hx6 rfl (KeySet.any_fam _ rfl)) rfl) rfl
          (KeySet.any_fam _ rfl)) rfl

theorem execMsgTransmit_eff (p : Nat) (s : State) {t : State} (h : execMsgTransmit p s = .next t) :
    Eff [.clock, .time, .regs, .link] [.fam (K.spsMsgSent 0) 2, .fam (K.spsTxState 0) 2] s t := by
  unfold execMsgTransmit at h
  exact Eff.to (inst_next h).2.symm ((msgTransmit_eff ..).after Eff.refl rfl)

theorem retrainWrite_eff (a : Acc) (p : Nat) (s : State) :
    Eff (withSide [.link]) (accAnd [.fam (K.laneLaneState 0) 8, .fam (K.laneTxMain 0) 8, .fam (K.laneTxPost 0) 8, .fam
        (K.laneTxPre 0) 8, .fam (K.spsLinkState 0) 2, .fam (K.spsRxLanes 0) 2, .fam (K.spsRxState 0) 2, .fam (K.spsSpeed 0) 2,
        .fam (K.spsTrainState 0) 2, .fam (K.spsTrainings 0) 2, .fam (K.spsTxLanes 0) 2, .fam (K.spsTxState 0) 2]) s (retrainWrite
        a p s) := by
  unfold retrainWrite
  exact Eff.act Eff.refl (fun y1 hy1 => (Eff.ite ((State.sklTrain_eff ..).after hy1 rfl) hy1)) rfl

theorem execRetrain_eff (a : Acc) (p : Nat) (s : State) {t : State} (h : execRetrain a p s = .next t) :
    Eff (withSide [.link]) (accAnd [.fam (K.laneLaneState 0) 8, .fam (K.laneTxMain 0) 8, .fam (K.laneTxPost 0) 8, .fam
        (K.laneTxPre 0) 8, .fam (K.spsLinkState 0) 2, .fam (K.spsRxLanes 0) 2, .fam (K.spsRxState 0) 2, .fam (K.spsSpeed 0) 2,
        .fam (K.spsTrainState 0) 2, .fam (K.spsTrainings 0) 2, .fam (K.spsTxLanes 0) 2, .fam (K.spsTxState 0) 2]) s t := by
  unfold execRetrain at h
  exact Eff.to (inst_next h).2.symm ((retrainWrite_eff ..).after Eff.refl rfl)

theorem routeExpiry_eff (node : Nat) (s : State) :
    Eff [.clock, .link] [] s (routeExpiry node s) := by
  unfold routeExpiry
  split
  · exact Eff.refl
  · extract_lets +onlyGivenNames x1
    clear_value (ex1 : x1 = _)
    refine Eff.have ex1 ((State.at_eff ..).after Eff.refl rfl) fun hx1 => ?_
    exact (State.setSkl_eff ..).after hx1 rfl

theorem execRouteExpiry_eff (node : Nat) (s : State) {t : State} (h : execRouteExpiry node s = .next t) :
    Eff [.clock, .link] [] s t := by
  unfold execRouteExpiry at h
  cases h
  exact (routeExpiry_eff ..).after Eff.refl rfl

theorem seqExpiry_eff (i : Nat) (s : State) :
    Eff [.clock, .link] [] s (seqExpiry i s) := by
  unfold seqExpiry
  split
  · exact Eff.refl
  · exact (State.setSkl_eff ..).after ((State.at_eff ..).after Eff.refl rfl) rfl

theorem execSeqExpiry_eff (i : Nat) (s : State) {t : State} (h : execSeqExpiry i s = .next t) :
    Eff [.clock, .link] [] s t := by
  unfold execSeqExpiry at h
  cases h
  exact (seqExpiry_eff ..).after Eff.refl rfl

theorem sklAlignDone_eff (p : Nat) (skews : List Nat) (peerFailed : Bool) (s : State) :
    Eff (withSide [.link]) (sideAnd [.fam (K.laneLaneState 0) 8, .fam (K.laneSkew 0) 8, .fam (K.laneTxMain 0) 8, .fam
        (K.laneTxPost 0) 8, .fam (K.laneTxPre 0) 8, .fam (K.spsLastTrainTime 0) 2, .fam (K.spsLinkState 0) 2, .fam (K.spsRxLanes
        0) 2, .fam (K.spsSpeed 0) 2, .fam (K.spsTrainState 0) 2, .fam (K.spsTxLanes 0) 2]) s (sklAlignDone p skews peerFailed s)
        := by
  unfold sklAlignDone
  refine Eff.ite ?_ ?_
  · exact Eff.refl
  · refine Eff.ite ?_ ?_
    · exact (State.sklHunt_eff ..).after Eff.refl rfl
    · extract_lets +onlyGivenNames v1
      clear_value v1
      extract_lets +onlyGivenNames x2
      clear_value (ex2 : x2 = _)
      refine Eff.have ex2 (Eff.foldl (fun x3 _ hx3 => (Eff.wr hx3 rfl (KeySet.any_fam _ rfl))) Eff.refl) fun hx2 => ?_
      extract_lets +onlyGivenNames x4
      clear_value (ex4 : x4 = _)
      refine Eff.have ex4 (Eff.wr (Eff.wr (Eff.wr (Eff.wr hx2 rfl (KeySet.any_fam _ rfl)) rfl (KeySet.any_fam _ rfl)) rfl
          (KeySet.any_fam _ rfl)) rfl (KeySet.any_fam _ rfl)) fun hx4 => ?_
      extract_lets +onlyGivenNames v5
      clear_value v5
      extract_lets +onlyGivenNames x6
      clear_value (ex6 : x6 = _)
      refine Eff.have ex6 ((State.setSkPort_eff ..).after (Eff.wr hx4 rfl (KeySet.any_fam _ rfl)) rfl) fun hx6 => ?_
      exact (State.raise_eff ..).after (Eff.arrive hx6 rfl) rfl

theorem execSklAlignDone_eff (p : Nat) (skews : List Nat) (peerFailed : Bool) (s : State) {t : State} (h : execSklAlignDone p
    skews peerFailed s = .next t) :
    Eff (withSide [.link]) (sideAnd [.fam (K.laneLaneState 0) 8, .fam (K.laneSkew 0) 8, .fam (K.laneTxMain 0) 8, .fam
        (K.laneTxPost 0) 8, .fam (K.laneTxPre 0) 8, .fam (K.spsLastTrainTime 0) 2, .fam (K.spsLinkState 0) 2, .fam (K.spsRxLanes
        0) 2, .fam (K.spsSpeed 0) 2, .fam (K.spsTrainState 0) 2, .fam (K.spsTxLanes 0) 2]) s t := by
  unfold execSklAlignDone at h
  exact Eff.to (inst_next h).2.symm ((sklAlignDone_eff ..).after Eff.refl rfl)

theorem sklCapDone_eff (p : Nat) (c : SklCap) (s : State) :
    Eff [.regs, .link] [.fam (K.laneLaneState 0) 8, .fam (K.laneTxMain 0) 8, .fam (K.laneTxPost 0) 8, .fam (K.laneTxPre 0) 8, .fam
        (K.spsLinkState 0) 2, .fam (K.spsRxLanes 0) 2, .fam (K.spsSpeed 0) 2, .fam (K.spsTrainState 0) 2, .fam (K.spsTxLanes 0) 2]
        s (sklCapDone p c s) := by
  unfold sklCapDone
  refine Eff.ite ?_ ?_
  · exact Eff.refl
  · extract_lets +onlyGivenNames v1
    clear_value v1
    extract_lets +onlyGivenNames v2
    clear_value v2
    refine Eff.ite ?_ ?_
    · exact (State.sklHunt_eff ..).after Eff.refl rfl
    · extract_lets +onlyGivenNames x3
      clear_value (ex3 : x3 = _)
      refine Eff.have ex3 (Eff.foldl (fun x4 _ hx4 => ((dropLane_eff ..).after hx4 rfl)) Eff.refl) fun hx3 => ?_
      extract_lets +onlyGivenNames v5
      clear_value v5
      split
      · exact Eff.wr ((State.setSkPort_eff ..).after hx3 rfl) rfl (KeySet.any_fam _ rfl)
      · exact Eff.wr ((State.setSkPort_eff ..).after hx3 rfl) rfl (KeySet.any_fam _ rfl)

theorem execSklCapDone_eff (p : Nat) (c : SklCap) (s : State) {t : State} (h : execSklCapDone p c s = .next t) :
    Eff [.regs, .link] [.fam (K.laneLaneState 0) 8, .fam (K.laneTxMain 0) 8, .fam (K.laneTxPost 0) 8, .fam (K.laneTxPre 0) 8, .fam
        (K.spsLinkState 0) 2, .fam (K.spsRxLanes 0) 2, .fam (K.spsSpeed 0) 2, .fam (K.spsTrainState 0) 2, .fam (K.spsTxLanes 0) 2]
        s t := by
  unfold execSklCapDone at h
  exact Eff.to (inst_next h).2.symm ((sklCapDone_eff ..).after Eff.refl rfl)

theorem sklCheckDone_eff (p : Nat) (errors : List Nat) (s : State) :
    Eff (withSide [.link]) (sideAnd [.fam (K.laneHeaderErrors 0) 8, .fam (K.laneTxMain 0) 8, .fam (K.laneTxPost 0) 8, .fam
        (K.laneTxPre 0) 8, .fam (K.spsPortStatus 0) 2, .fam (K.spsSpeed 0) 2, .fam (K.spsTrainState 0) 2]) s (sklCheckDone p
        errors s) := by
  unfold sklCheckDone
  refine Eff.ite ?_ ?_
  · exact Eff.refl
  · extract_lets +onlyGivenNames x1
    clear_value (ex1 : x1 = _)
    refine Eff.have ex1 (Eff.foldl (fun x2 _ hx2 => (Eff.add hx2 rfl (KeySet.any_fam _ rfl))) Eff.refl) fun hx1 => ?_
    exact Eff.ite (Eff.wr hx1 rfl (KeySet.any_fam _ rfl)) ((State.sklFall_eff ..).after hx1 rfl)

theorem execSklCheckDone_eff (p : Nat) (errors : List Nat) (s : State) {t : State} (h : execSklCheckDone p errors s = .next t) :
    Eff (withSide [.link]) (sideAnd [.fam (K.laneHeaderErrors 0) 8, .fam (K.laneTxMain 0) 8, .fam (K.laneTxPost 0) 8, .fam
        (K.laneTxPre 0) 8, .fam (K.spsPortStatus 0) 2, .fam (K.spsSpeed 0) 2, .fam (K.spsTrainState 0) 2]) s t := by
  unfold execSklCheckDone at h
  exact Eff.to (inst_next h).2.symm ((sklCheckDone_eff ..).after Eff.refl rfl)

theorem sklHuntDone_eff (p : Nat) (s : State) :
    Eff [.clock, .regs, .link] [.fam (K.laneLaneState 0) 8, .fam (K.spsTrainState 0) 2] s (sklHuntDone p s) := by
  unfold sklHuntDone
  split
  · exact Eff.refl
  · refine Eff.ite ?_ ?_
    · exact Eff.refl
    · extract_lets +onlyGivenNames x1
      clear_value (ex1 : x1 = _)
      refine Eff.have ex1 ((State.at_eff ..).after Eff.refl rfl) fun hx1 => ?_
      extract_lets +onlyGivenNames v2
      clear_value v2
      extract_lets +onlyGivenNames x3
      clear_value (ex3 : x3 = _)
      refine Eff.have ex3 (Eff.foldl (fun x4 _ hx4 => ((dropLane_eff ..).after hx4 rfl)) hx1) fun hx3 => ?_
      exact (State.setSkPort_eff ..).after (Eff.wr hx3 rfl (KeySet.any_fam _ rfl)) rfl

theorem execSklHuntDone_eff (p : Nat) (s : State) {t : State} (h : execSklHuntDone p s = .next t) :
    Eff [.clock, .regs, .link] [.fam (K.laneLaneState 0) 8, .fam (K.spsTrainState 0) 2] s t := by
  unfold execSklHuntDone at h
  exact Eff.to (inst_next h).2.symm ((sklHuntDone_eff ..).after Eff.refl rfl)

theorem tuneLane_eff (p : Nat) (s : State) (i : Nat) :
    Eff [.regs, .link] [.fam (K.laneTxMain 0) 8, .fam (K.laneTxPost 0) 8, .fam (K.laneTxPre 0) 8] s (tuneLane p s i) := by
  unfold tuneLane
  extract_lets +onlyGivenNames v1
  clear_value v1
  exact (State.setTaps_eff ..).after ((State.setSkLane_eff ..).after Eff.refl rfl) rfl

theorem sklSwitchDone_eff (p : Nat) (locked : Bool) (s : State) :
    Eff (withSide [.link]) (sideAnd [.fam (K.laneTxMain 0) 8, .fam (K.laneTxPost 0) 8, .fam (K.laneTxPre 0) 8, .fam
        (K.spsPortStatus 0) 2, .fam (K.spsSpeed 0) 2, .fam (K.spsTrainState 0) 2]) s (sklSwitchDone p locked s) := by
  unfold sklSwitchDone
  refine Eff.ite ?_ ?_
  · exact Eff.refl
  · extract_lets +onlyGivenNames v1
    clear_value v1
    extract_lets +onlyGivenNames x2
    clear_value (ex2 : x2 = _)
    refine Eff.have ex2 (Eff.foldl (fun x3 _ hx3 => ((tuneLane_eff ..).after hx3 rfl)) Eff.refl) fun hx2 => ?_
    exact Eff.ite ((State.setSkPort_eff ..).after (Eff.wr (Eff.wr hx2 rfl (KeySet.any_fam _ rfl)) rfl (KeySet.any_fam _ rfl)) rfl)
        ((State.sklFall_eff ..).after hx2 rfl)

theorem execSklSwitchDone_eff (p : Nat) (locked : Bool) (s : State) {t : State} (h : execSklSwitchDone p locked s = .next t) :
    Eff (withSide [.link]) (sideAnd [.fam (K.laneTxMain 0) 8, .fam (K.laneTxPost 0) 8, .fam (K.laneTxPre 0) 8, .fam
        (K.spsPortStatus 0) 2, .fam (K.spsSpeed 0) 2, .fam (K.spsTrainState 0) 2]) s t := by
  unfold execSklSwitchDone at h
  exact Eff.to (inst_next h).2.symm ((sklSwitchDone_eff ..).after Eff.refl rfl)

theorem sleepBlock_eff (p : Nat) (s : State) :
    Eff [.regs] [.fam (K.spsRxState 0) 2] s (sleepBlock p s) := by
  unfold sleepBlock
  exact Eff.ite (Eff.wr Eff.refl rfl (KeySet.any_fam _ rfl)) Eff.refl

theorem execSleepBlock_eff (p : Nat) (s : State) {t : State} (h : execSleepBlock p s = .next t) :
    Eff [.regs] [.fam (K.spsRxState 0) 2] s t := by
  unfold execSleepBlock at h
  exact Eff.to (inst_next h).2.symm ((sleepBlock_eff ..).after Eff.refl rfl)

theorem sleepIdle_eff (p : Nat) (s : State) :
    Eff (withSide [.clock, .link]) (sideAnd [.fam (K.spsSleepRefused 0) 2, .fam (K.spsTxState 0) 2]) s (sleepIdle p s) := by
  unfold sleepIdle
  extract_lets +onlyGivenNames v1
  clear_value v1
  refine Eff.ite ?_ ?_
  · exact Eff.refl
  · extract_lets +onlyGivenNames v2
    clear_value v2
    refine Eff.ite ?_ ?_
    · extract_lets +onlyGivenNames x3
      clear_value (ex3 : x3 = _)
      refine Eff.have ex3 ((State.at_eff ..).after Eff.refl rfl) fun hx3 => ?_
      extract_lets +onlyGivenNames x4
      clear_value (ex4 : x4 = _)
      refine Eff.have ex4 (Eff.wr ((State.setSkPort_eff ..).after hx3 rfl) rfl (KeySet.any_fam _ rfl)) fun hx4 => ?_
      exact (State.raise_eff ..).after ((State.skOut_eff ..).after hx4 rfl) rfl
    · exact Eff.ite (Eff.inc ((State.at_eff ..).after Eff.refl rfl) rfl (KeySet.any_fam _ rfl)) Eff.refl

theorem execSleepIdle_eff (p : Nat) (s : State) {t : State} (h : execSleepIdle p s = .next t) :
    Eff (withSide [.clock, .link]) (sideAnd [.fam (K.spsSleepRefused 0) 2, .fam (K.spsTxState 0) 2]) s t := by
  unfold execSleepIdle at h
  exact Eff.to (inst_next h).2.symm ((sleepIdle_eff ..).after Eff.refl rfl)

theorem execTagWrite_eff (s : State) {t : State} (h : execTagWrite s = .next t) :
    Eff (withSide [.clock, .memory, .wheel, .seam, .umbra, .link]) (sideAnd [.fam (K.cmpCmpStatus 0) 16, .fam (K.cmpQueueFill 0)
        16, .fam (K.qsFill 0) 64, .fam (K.qsFillPeak 0) 64, .fam (K.qsItemsIn 0) 64, .fam (K.qsNoCreditCount 0) 64, .fam
        (K.qsQueueStatus 0) 64, .fam (K.spsPortStatus 0) 2, .fam (K.spsQueueDrops 0) 2, .fam (K.viewsOverlayDropped 0) 8, .fam
        (K.viewsViewStatus 0) 8, .one K.quesSizeErrors, .one K.umbsLastTagId, .one K.umbsLateTags, .one K.umbsStatus, .one
        K.umbsSuppressed, .one K.umbsTagsWritten]) s t := by
  unfold execTagWrite at h
  cases h
  exact (State.sendBulk_eff ..).after ((tagWrite_eff ..).after Eff.refl rfl) rfl

theorem tapRequestTimeout_eff (l : Nat) (s : State) :
    Eff (withSide [.clock, .link]) (sideAnd [.fam (K.laneTxMain 0) 8, .fam (K.laneTxPost 0) 8, .fam (K.laneTxPre 0) 8, .fam
        (K.spsPortStatus 0) 2, .fam (K.spsSpeed 0) 2, .fam (K.spsTrainState 0) 2]) s (tapRequestTimeout l s) := by
  unfold tapRequestTimeout
  split
  · exact Eff.refl
  · exact Eff.ite Eff.refl ((State.sklFall_eff ..).after ((State.at_eff ..).after Eff.refl rfl) rfl)

theorem execTapRequestTimeout_eff (l : Nat) (s : State) {t : State} (h : execTapRequestTimeout l s = .next t) :
    Eff (withSide [.clock, .link]) (sideAnd [.fam (K.laneTxMain 0) 8, .fam (K.laneTxPost 0) 8, .fam (K.laneTxPre 0) 8, .fam
        (K.spsPortStatus 0) 2, .fam (K.spsSpeed 0) 2, .fam (K.spsTrainState 0) 2]) s t := by
  unfold execTapRequestTimeout at h
  exact Eff.to (inst_next h).2.symm ((tapRequestTimeout_eff ..).after Eff.refl rfl)

theorem trainBlock_eff (l : Nat) (b : TrainBlock) (s : State) :
    Eff (withSide [.boot, .link]) (sideAnd [.fam (K.laneTxMain 0) 8, .fam (K.laneTxPost 0) 8, .fam (K.laneTxPre 0) 8, .fam
        (K.spsPortStatus 0) 2, .fam (K.spsSpeed 0) 2, .fam (K.spsTrainState 0) 2, .one K.calCalStatus]) s (trainBlock l b s) := by
  unfold trainBlock
  extract_lets +onlyGivenNames v1
  clear_value v1
  refine Eff.ite ?_ ?_
  · exact Eff.refl
  · extract_lets +onlyGivenNames x2
    clear_value (ex2 : x2 = _)
    refine Eff.have ex2 ((State.tapRequest_eff ..).after Eff.refl rfl) fun hx2 => ?_
    extract_lets +onlyGivenNames v3
    clear_value v3
    extract_lets +onlyGivenNames x4
    clear_value (ex4 : x4 = _)
    refine Eff.have ex4 ((State.setSkLane_eff ..).after hx2 rfl) fun hx4 => ?_
    split
    · exact (State.tuneDone_eff ..).after hx4 rfl
    · exact Eff.ite ((State.tuneDone_eff ..).after hx4 rfl) (Eff.ite ((State.sklFall_eff ..).after ((State.calEnd_eff ..).after
        hx4 rfl) rfl) ((State.tuneDone_eff ..).after ((State.setSkLane_eff ..).after ((State.calEnd_eff ..).after hx4 rfl) rfl)
        rfl))

theorem execTrainBlock_eff (l : Nat) (b : TrainBlock) (s : State) {t : State} (h : execTrainBlock l b s = .next t) :
    Eff (withSide [.boot, .link]) (sideAnd [.fam (K.laneTxMain 0) 8, .fam (K.laneTxPost 0) 8, .fam (K.laneTxPre 0) 8, .fam
        (K.spsPortStatus 0) 2, .fam (K.spsSpeed 0) 2, .fam (K.spsTrainState 0) 2, .one K.calCalStatus]) s t := by
  unfold execTrainBlock at h
  exact Eff.to (inst_next h).2.symm ((trainBlock_eff ..).after Eff.refl rfl)

theorem tuneTimeout_eff (l : Nat) (s : State) :
    Eff (withSide [.clock, .boot, .link]) (sideAnd [.fam (K.laneTxMain 0) 8, .fam (K.laneTxPost 0) 8, .fam (K.laneTxPre 0) 8, .fam
        (K.spsPortStatus 0) 2, .fam (K.spsSpeed 0) 2, .fam (K.spsTrainState 0) 2, .one K.calCalStatus]) s (tuneTimeout l s) := by
  unfold tuneTimeout
  extract_lets +onlyGivenNames v1
  clear_value v1
  extract_lets +onlyGivenNames v2
  clear_value v2
  exact Eff.ite Eff.refl ((State.sklFall_eff ..).after ((State.calEnd_eff ..).after ((State.at_eff ..).after Eff.refl rfl) rfl)
      rfl)

theorem execTuneTimeout_eff (l : Nat) (s : State) {t : State} (h : execTuneTimeout l s = .next t) :
    Eff (withSide [.clock, .boot, .link]) (sideAnd [.fam (K.laneTxMain 0) 8, .fam (K.laneTxPost 0) 8, .fam (K.laneTxPre 0) 8, .fam
        (K.spsPortStatus 0) 2, .fam (K.spsSpeed 0) 2, .fam (K.spsTrainState 0) 2, .one K.calCalStatus]) s t := by
  unfold execTuneTimeout at h
  exact Eff.to (inst_next h).2.symm ((tuneTimeout_eff ..).after Eff.refl rfl)

end Sys2Proof.Machine
end

