-- ==== Sys2Proof/Laws/Time.lean ====
section
/-! SUPPORT. What each operation of Machine/Time.lean may change. -/

-- The proofs of this file are checked one after another, in one thread.
set_option Elab.async false

namespace Sys2Proof.Machine

theorem State.alarmFires_eff (s : State) (n : Nat) (late : Bool) :
    Eff (withSide [.device, .boot, .pins]) (sideAnd [.fam (K.alarmAlarmEnable 0) 4, .fam (K.alarmAlarmStatus 0) 4, .one
        K.devDeviceState, .one K.devStateChanges, .one K.devStateTime, .one K.pwrPowerPhase, .one K.pwrWakeCause]) s
        (State.alarmFires s n late) := by
  unfold State.alarmFires
  extract_lets +onlyGivenNames x1
  clear_value (ex1 : x1 = _)
  refine Eff.have ex1 (Eff.flag (Eff.wr Eff.refl rfl (KeySet.any_fam _ rfl)) rfl (KeySet.any_fam _ rfl)) fun hx1 => ?_
  extract_lets +onlyGivenNames x2
  clear_value (ex2 : x2 = _)
  refine Eff.have ex2 ((State.raise_eff ..).after hx1 rfl) fun hx2 => ?_
  exact Eff.ite ((State.wakeAlarm_eff ..).after hx2 rfl) hx2

theorem State.setSync_eff (s : State) (a1 : TimeSync) :
    Eff [.time] [] s (State.setSync s a1) := by
  unfold State.setSync
  exact Eff.upd_sync Eff.refl rfl

theorem State.setSyncState_eff (s : State) (v : Nat) :
    Eff sideParts (sideAnd [.one K.timeSyncState]) s (State.setSyncState s v) := by
  unfold State.setSyncState
  exact Eff.ite Eff.refl ((State.raise_eff ..).after (Eff.arrive (Eff.wr Eff.refl rfl rfl) rfl) rfl)

theorem State.softLock_eff (s : State) :
    Eff sideParts (sideAnd [.one K.timeSyncState]) s (State.softLock s) := by
  unfold State.softLock
  exact Eff.ite Eff.refl (Eff.ite ((State.setSyncState_eff ..).after Eff.refl rfl) (Eff.ite ((State.setSyncState_eff ..).after
      Eff.refl rfl) Eff.refl))

theorem alarmLate_eff (s : State) (n : Nat) :
    Eff (withSide [.device, .boot, .pins]) (sideAnd [.fam (K.alarmAlarmEnable 0) 4, .fam (K.alarmAlarmStatus 0) 4, .one
        K.devDeviceState, .one K.devStateChanges, .one K.devStateTime, .one K.pwrPowerPhase, .one K.pwrWakeCause]) s (alarmLate s
        n) := by
  unfold alarmLate
  exact Eff.ite ((State.alarmFires_eff ..).after Eff.refl rfl) Eff.refl

theorem State.ppsDrive_eff (s : State) (active : Bool) :
    Eff [.pins] [] s (State.ppsDrive s active) := by
  unfold State.ppsDrive
  exact Eff.ite ((State.drive_eff ..).after Eff.refl rfl) Eff.refl

theorem State.ppsPin_eff (s : State) (old : Nat) :
    Eff [.time, .pins] [] s (State.ppsPin s old) := by
  unfold State.ppsPin
  extract_lets +onlyGivenNames x1
  clear_value (ex1 : x1 = _)
  refine Eff.have ex1 (Eff.ite ((State.release_eff ..).after Eff.refl rfl) Eff.refl) fun hx1 => ?_
  exact (State.ppsDrive_eff ..).after ((State.setSync_eff ..).after hx1 rfl) rfl

theorem State.stepTo_eff (s : State) (a1 : Int) :
    Eff (withSide [.time, .device, .boot, .pins]) (sideAnd [.fam (K.alarmAlarmEnable 0) 4, .fam (K.alarmAlarmStatus 0) 4, .one
        K.devDeviceState, .one K.devStateChanges, .one K.devStateTime, .one K.pwrPowerPhase, .one K.pwrWakeCause, .one
        K.timeSyncState, .one K.timeTimeStatus]) s (State.stepTo s a1) := by
  unfold State.stepTo
  extract_lets +onlyGivenNames x1
  clear_value (ex1 : x1 = _)
  refine Eff.have ex1 (Eff.upd_timeBase_timeC0 Eff.refl rfl) fun hx1 => ?_
  extract_lets +onlyGivenNames x2
  clear_value (ex2 : x2 = _)
  refine Eff.have ex2 ((State.setSyncState_eff ..).after ((State.raise_eff ..).after (Eff.wr hx1 rfl rfl) rfl) rfl) fun hx2 => ?_
  extract_lets +onlyGivenNames v3
  clear_value v3
  extract_lets +onlyGivenNames x4
  clear_value (ex4 : x4 = _)
  refine Eff.have ex4 ((State.setSync_eff ..).after hx2 rfl) fun hx4 => ?_
  exact Eff.foldl (fun x5 _ hx5 => ((alarmLate_eff ..).after hx5 rfl)) hx4

theorem State.setRate_eff (s : State) (adj : Int) :
    Eff [.time, .regs] [.one K.timeRateAdj] s (State.setRate s adj) := by
  unfold State.setRate
  exact Eff.wr (Eff.upd_timeBase_timeC0 Eff.refl rfl) rfl rfl

theorem State.steer_eff (s : State) (theta : Int) :
    Eff (withSide [.time]) (sideAnd [.one K.timeIntegral, .one K.timeRateAdj, .one K.timeSyncState, .one K.timeTimeStatus]) s
        (State.steer s theta) := by
  unfold State.steer
  extract_lets +onlyGivenNames v1
  clear_value v1
  extract_lets +onlyGivenNames v2
  clear_value v2
  extract_lets +onlyGivenNames v3
  clear_value v3
  extract_lets +onlyGivenNames x4
  clear_value (ex4 : x4 = _)
  refine Eff.have ex4 ((State.setRate_eff ..).after (Eff.wr Eff.refl rfl rfl) rfl) fun hx4 => ?_
  extract_lets +onlyGivenNames x5
  clear_value (ex5 : x5 = _)
  refine Eff.have ex5 (Eff.ite (Eff.flag hx4 rfl rfl) hx4) fun hx5 => ?_
  extract_lets +onlyGivenNames v6
  clear_value v6
  extract_lets +onlyGivenNames v7
  clear_value v7
  extract_lets +onlyGivenNames x8
  clear_value (ex8 : x8 = _)
  refine Eff.have ex8 ((State.setSync_eff ..).after hx5 rfl) fun hx8 => ?_
  extract_lets +onlyGivenNames v9
  clear_value v9
  extract_lets +onlyGivenNames v10
  clear_value v10
  exact (State.setSyncState_eff ..).after hx8 rfl

theorem State.timeLaw_eff (s : State) (theta : Int) :
    Eff (withSide [.time, .device, .boot, .pins]) (sideAnd [.fam (K.alarmAlarmEnable 0) 4, .fam (K.alarmAlarmStatus 0) 4, .one
        K.devDeviceState, .one K.devStateChanges, .one K.devStateTime, .one K.pwrPowerPhase, .one K.pwrWakeCause, .one
        K.timeIntegral, .one K.timeOutliers, .one K.timeRateAdj, .one K.timeSyncState, .one K.timeTimeStatus]) s (State.timeLaw s
        theta) := by
  unfold State.timeLaw
  refine Eff.ite ?_ ?_
  · exact (State.setSync_eff ..).after (Eff.wr ((State.stepTo_eff ..).after Eff.refl rfl) rfl rfl) rfl
  · refine Eff.ite ?_ ?_
    · extract_lets +onlyGivenNames v1
      clear_value v1
      extract_lets +onlyGivenNames v2
      clear_value v2
      extract_lets +onlyGivenNames x3
      clear_value (ex3 : x3 = _)
      refine Eff.have ex3 ((State.setSync_eff ..).after (Eff.flag (Eff.inc Eff.refl rfl rfl) rfl rfl) rfl) fun hx3 => ?_
      exact Eff.ite (Eff.flag hx3 rfl rfl) hx3
    · exact (State.steer_eff ..).after Eff.refl rfl

theorem State.exchanged_eff (s : State) (t1 : Int) (t2 : Int) (t3 : Int) (t4 : Int) :
    Eff (withSide [.time, .device, .boot, .pins]) (sideAnd [.fam (K.alarmAlarmEnable 0) 4, .fam (K.alarmAlarmStatus 0) 4, .one
        K.devDeviceState, .one K.devStateChanges, .one K.devStateTime, .one K.pwrPowerPhase, .one K.pwrWakeCause, .one
        K.timeExchanges, .one K.timeIntegral, .one K.timeLastOffset, .one K.timeOutliers, .one K.timePathDelay, .one
        K.timeRateAdj, .one K.timeSyncState, .one K.timeTimeStatus]) s (State.exchanged s t1 t2 t3 t4) := by
  unfold State.exchanged
  extract_lets +onlyGivenNames v1
  clear_value v1
  extract_lets +onlyGivenNames v2
  clear_value v2
  extract_lets +onlyGivenNames x3
  clear_value (ex3 : x3 = _)
  refine Eff.have ex3 (Eff.inc (Eff.wr (Eff.wr Eff.refl rfl rfl) rfl rfl) rfl rfl) fun hx3 => ?_
  exact (State.timeLaw_eff ..).after ((State.setSync_eff ..).after hx3 rfl) rfl

theorem alarmFire_eff (n : Nat) (s : State) :
    Eff (withSide [.clock, .device, .boot, .pins]) (sideAnd [.fam (K.alarmAlarmEnable 0) 4, .fam (K.alarmAlarmStatus 0) 4, .one
        K.devDeviceState, .one K.devStateChanges, .one K.devStateTime, .one K.pwrPowerPhase, .one K.pwrWakeCause]) s (alarmFire n
        s) := by
  unfold alarmFire
  exact Eff.ite ((State.alarmFires_eff ..).after ((State.at_eff ..).after Eff.refl rfl) rfl) Eff.refl

theorem execAlarmFire_eff (n : Nat) (s : State) {t : State} (h : execAlarmFire n s = .next t) :
    Eff (withSide [.clock, .device, .boot, .pins]) (sideAnd [.fam (K.alarmAlarmEnable 0) 4, .fam (K.alarmAlarmStatus 0) 4, .one
        K.devDeviceState, .one K.devStateChanges, .one K.devStateTime, .one K.pwrPowerPhase, .one K.pwrWakeCause]) s t := by
  unfold execAlarmFire at h
  exact Eff.to (inst_next h).2.symm ((alarmFire_eff ..).after Eff.refl rfl)

theorem holdoverTimeout_eff (s : State) :
    Eff (withSide [.clock]) (sideAnd [.one K.timeSyncState, .one K.timeTimeStatus]) s (holdoverTimeout s) := by
  unfold holdoverTimeout
  refine Eff.ite ?_ ?_
  · exact Eff.refl
  · extract_lets +onlyGivenNames x1
    clear_value (ex1 : x1 = _)
    refine Eff.have ex1 ((State.at_eff ..).after Eff.refl rfl) fun hx1 => ?_
    exact (State.setSyncState_eff ..).after (Eff.wr hx1 rfl rfl) rfl

theorem execHoldoverTimeout_eff (s : State) {t : State} (h : execHoldoverTimeout s = .next t) :
    Eff (withSide [.clock]) (sideAnd [.one K.timeSyncState, .one K.timeTimeStatus]) s t := by
  unfold execHoldoverTimeout at h
  cases h
  exact (holdoverTimeout_eff ..).after Eff.refl rfl

theorem ppsEnd_eff (s : State) :
    Eff [.clock, .time, .pins] [] s (ppsEnd s) := by
  unfold ppsEnd
  split
  · exact Eff.refl
  · exact (State.ppsDrive_eff ..).after ((State.setSync_eff ..).after ((State.at_eff ..).after Eff.refl rfl) rfl) rfl

theorem execPpsEnd_eff (s : State) {t : State} (h : execPpsEnd s = .next t) :
    Eff [.clock, .time, .pins] [] s t := by
  unfold execPpsEnd at h
  cases h
  exact (ppsEnd_eff ..).after Eff.refl rfl

theorem ppsPulse_eff (s : State) :
    Eff (withSide [.clock, .time, .pins]) sideKeys s (ppsPulse s) := by
  unfold ppsPulse
  refine Eff.ite ?_ ?_
  · exact Eff.refl
  · extract_lets +onlyGivenNames x1
    clear_value (ex1 : x1 = _)
    refine Eff.have ex1 ((State.at_eff ..).after Eff.refl rfl) fun hx1 => ?_
    exact (State.raise_eff ..).after ((State.ppsDrive_eff ..).after ((State.setSync_eff ..).after hx1 rfl) rfl) rfl

theorem execPpsPulse_eff (s : State) {t : State} (h : execPpsPulse s = .next t) :
    Eff (withSide [.clock, .time, .pins]) sideKeys s t := by
  unfold execPpsPulse at h
  cases h
  exact (ppsPulse_eff ..).after Eff.refl rfl

theorem rateAdjWrite_eff (a : Acc) (s : State) :
    Eff (withSide [.time]) (accAnd [.one K.timeRateAdj]) s (rateAdjWrite a s) := by
  unfold rateAdjWrite
  extract_lets +onlyGivenNames v1
  clear_value v1
  exact Eff.act Eff.refl (fun y2 hy2 => ((State.setRate_eff ..).after hy2 rfl)) rfl

theorem execRateAdj_eff (a : Acc) (s : State) {t : State} (h : execRateAdj a s = .next t) :
    Eff (withSide [.time]) (accAnd [.one K.timeRateAdj]) s t := by
  unfold execRateAdj at h
  cases h
  exact (rateAdjWrite_eff ..).after Eff.refl rfl

theorem resyncWrite_eff (a : Acc) (s : State) :
    Eff sideParts (accAnd [.one K.timeSyncState]) s (resyncWrite a s) := by
  unfold resyncWrite
  exact Eff.act Eff.refl (fun y1 hy1 => (Eff.ite ((State.setSyncState_eff ..).after hy1 rfl) hy1)) rfl

theorem execResync_eff (a : Acc) (s : State) {t : State} (h : execResync a s = .next t) :
    Eff sideParts (accAnd [.one K.timeSyncState]) s t := by
  unfold execResync at h
  cases h
  exact (resyncWrite_eff ..).after Eff.refl rfl

theorem syncPeriod_eff (s : State) :
    Eff (withSide [.clock, .time, .link]) (sideAnd [.fam (K.spsPortStatus 0) 2, .fam (K.spsQueueDrops 0) 2]) s (syncPeriod s) :=
        by
  unfold syncPeriod
  extract_lets +onlyGivenNames x1
  clear_value (ex1 : x1 = _)
  refine Eff.have ex1 ((State.at_eff ..).after Eff.refl rfl) fun hx1 => ?_
  extract_lets +onlyGivenNames v2
  clear_value v2
  extract_lets +onlyGivenNames v3
  clear_value v3
  extract_lets +onlyGivenNames x4
  clear_value (ex4 : x4 = _)
  refine Eff.have ex4 ((State.setSync_eff ..).after hx1 rfl) fun hx4 => ?_
  refine Eff.ite ?_ ?_
  · exact hx4
  · extract_lets +onlyGivenNames v5
    clear_value v5
    exact Eff.foldl (fun x6 _ hx6 => ((State.sendPort_eff ..).after hx6 rfl)) ((State.setSync_eff ..).after hx4 rfl)

theorem execSyncPeriod_eff (s : State) {t : State} (h : execSyncPeriod s = .next t) :
    Eff (withSide [.clock, .time, .link]) (sideAnd [.fam (K.spsPortStatus 0) 2, .fam (K.spsQueueDrops 0) 2]) s t := by
  unfold execSyncPeriod at h
  cases h
  exact (syncPeriod_eff ..).after Eff.refl rfl

theorem timeCapture_eff (k : Nat) (s : State) :
    Eff [.regs, .events] [.fam (K.tcapCaptureCount 0) 4, .fam (K.tcapCaptureTime 0) 4] s (timeCapture k s) := by
  unfold timeCapture
  split
  · exact Eff.refl
  · rename_i q1
    exact Eff.inc (Eff.wr ((State.takeTask_eff q1).after Eff.refl rfl) rfl (KeySet.any_fam _ rfl)) rfl (KeySet.any_fam _ rfl)

theorem execTimeCapture_eff (k : Nat) (s : State) {t : State} (h : execTimeCapture k s = .next t) :
    Eff [.regs, .events] [.fam (K.tcapCaptureCount 0) 4, .fam (K.tcapCaptureTime 0) 4] s t := by
  unfold execTimeCapture at h
  exact Eff.to (inst_next h).2.symm ((timeCapture_eff ..).after Eff.refl rfl)

theorem timeSetWrite_eff (a : Acc) (s : State) :
    Eff (withSide [.time, .device, .boot, .pins]) (accAnd [.fam (K.alarmAlarmEnable 0) 4, .fam (K.alarmAlarmStatus 0) 4, .one
        K.devDeviceState, .one K.devStateChanges, .one K.devStateTime, .one K.pwrPowerPhase, .one K.pwrWakeCause, .one
        K.timeSyncState, .one K.timeTimeStatus]) s (timeSetWrite a s) := by
  unfold timeSetWrite
  exact Eff.act Eff.refl (fun y1 hy1 => ((State.stepTo_eff ..).after hy1 rfl)) rfl

theorem execTimeSet_eff (a : Acc) (s : State) {t : State} (h : execTimeSet a s = .next t) :
    Eff (withSide [.time, .device, .boot, .pins]) (accAnd [.fam (K.alarmAlarmEnable 0) 4, .fam (K.alarmAlarmStatus 0) 4, .one
        K.devDeviceState, .one K.devStateChanges, .one K.devStateTime, .one K.pwrPowerPhase, .one K.pwrWakeCause, .one
        K.timeSyncState, .one K.timeTimeStatus]) s t := by
  unfold execTimeSet at h
  cases h
  exact (timeSetWrite_eff ..).after Eff.refl rfl

theorem timeStepWrite_eff (a : Acc) (s : State) :
    Eff (withSide [.time, .device, .boot, .pins]) (accAnd [.fam (K.alarmAlarmEnable 0) 4, .fam (K.alarmAlarmStatus 0) 4, .one
        K.devDeviceState, .one K.devStateChanges, .one K.devStateTime, .one K.pwrPowerPhase, .one K.pwrWakeCause, .one
        K.timeSyncState, .one K.timeTimeStatus]) s (timeStepWrite a s) := by
  unfold timeStepWrite
  exact Eff.act Eff.refl (fun y1 hy1 => ((State.stepTo_eff ..).after hy1 rfl)) rfl

theorem execTimeStep_eff (a : Acc) (s : State) {t : State} (h : execTimeStep a s = .next t) :
    Eff (withSide [.time, .device, .boot, .pins]) (accAnd [.fam (K.alarmAlarmEnable 0) 4, .fam (K.alarmAlarmStatus 0) 4, .one
        K.devDeviceState, .one K.devStateChanges, .one K.devStateTime, .one K.pwrPowerPhase, .one K.pwrWakeCause, .one
        K.timeSyncState, .one K.timeTimeStatus]) s t := by
  unfold execTimeStep at h
  cases h
  exact (timeStepWrite_eff ..).after Eff.refl rfl

end Sys2Proof.Machine
end

