-- ==== Sys2Proof/Laws/SkobatyMsg.lean ====
section
/-! SUPPORT. What each operation of Machine/SkobatyMsg.lean may change. -/

-- The proofs of this file are checked one after another, in one thread.
set_option Elab.async false

namespace Sys2Proof.Machine

theorem State.deliverMsg_eff (s : State) (p : Nat) (m : SkMsg) (stamp : Nat) :
    Eff [.link] [] s (State.deliverMsg s p m stamp) := by
  unfold State.deliverMsg
  exact Eff.ite Eff.refl ((State.setSkl_eff ..).after Eff.refl rfl)

theorem State.forwardMsg_eff (s : State) (p : Nat) (m : SkMsg) :
    Eff (withSide [.link]) (sideAnd [.fam (K.spsPortStatus 0) 2, .fam (K.spsQueueDrops 0) 2]) s (State.forwardMsg s p m) := by
  unfold State.forwardMsg
  exact Eff.ite Eff.refl ((State.transit_eff ..).after Eff.refl rfl)

theorem State.raiseEpoch_eff (s : State) (role : Nat) (epoch : Nat) :
    Eff [.domains] [] s (State.raiseEpoch s role epoch) := by
  unfold State.raiseEpoch
  exact Eff.ite ((State.domWrite_eff ..).after Eff.refl rfl) Eff.refl

theorem State.passRole_eff (s : State) (r : Nat) (node : Nat) (e : Nat) :
    Eff (withSide [.domains, .link]) (sideAnd [.fam (K.spsPortStatus 0) 2, .fam (K.spsQueueDrops 0) 2, .one K.sklLinkStatus, .one
        K.sklPromotions]) s (State.passRole s r node e) := by
  unfold State.passRole
  extract_lets +onlyGivenNames x1
  clear_value (ex1 : x1 = _)
  refine Eff.have ex1 ((State.domWrite_eff ..).after ((State.domWrite_eff ..).after Eff.refl rfl) rfl) fun hx1 => ?_
  extract_lets +onlyGivenNames x2
  clear_value (ex2 : x2 = _)
  refine Eff.have ex2 ((State.raiseEpoch_eff ..).after hx1 rfl) fun hx2 => ?_
  extract_lets +onlyGivenNames x3
  clear_value (ex3 : x3 = _)
  refine Eff.have ex3 (Eff.ite ((State.raise_eff ..).after (Eff.flag hx2 rfl rfl) rfl) hx2) fun hx3 => ?_
  exact (State.raise_eff ..).after (Eff.inc ((State.broadcast_eff ..).after hx3 rfl) rfl rfl) rfl

theorem State.promoted_eff (s : State) (role : Nat) (epoch : Nat) :
    Eff sideParts (sideAnd [.one K.sklLinkStatus, .one K.sklRole, .one K.sklRoleEpoch]) s (State.promoted s role epoch) := by
  unfold State.promoted
  exact (State.raise_eff ..).after (Eff.flag (Eff.wr (Eff.wr Eff.refl rfl rfl) rfl rfl) rfl rfl) rfl

theorem State.sendStale_eff (s : State) (p : Nat) (src : Nat) (role : Nat) :
    Eff (withSide [.link]) (sideAnd [.fam (K.spsPortStatus 0) 2, .fam (K.spsQueueDrops 0) 2]) s (State.sendStale s p src role) :=
        by
  unfold State.sendStale
  extract_lets +onlyGivenNames v1
  clear_value v1
  refine Eff.ite ?_ ?_
  · exact Eff.refl
  · extract_lets +onlyGivenNames v2
    clear_value v2
    extract_lets +onlyGivenNames v3
    clear_value v3
    exact (State.sendPort_eff ..).after ((State.setSkl_eff ..).after Eff.refl rfl) rfl

theorem State.takeBroadcast_eff (s : State) (p : Nat) (m : SkMsg) (stamp : Nat) :
    Eff (withSide [.link]) (sideAnd [.fam (K.spsPortStatus 0) 2, .fam (K.spsQueueDrops 0) 2]) s (State.takeBroadcast s p m stamp)
        := by
  unfold State.takeBroadcast
  extract_lets +onlyGivenNames v1
  clear_value v1
  extract_lets +onlyGivenNames v2
  clear_value v2
  refine Eff.ite ?_ ?_
  · exact Eff.refl
  · refine Eff.ite ?_ ?_
    · extract_lets +onlyGivenNames v3
      clear_value v3
      extract_lets +onlyGivenNames x4
      clear_value (ex4 : x4 = _)
      refine Eff.have ex4 ((State.setSkl_eff ..).after Eff.refl rfl) fun hx4 => ?_
      exact (State.forwardMsg_eff ..).after ((State.deliverMsg_eff ..).after hx4 rfl) rfl
    · split
      · exact Eff.ite ((State.setSkl_eff ..).after Eff.refl rfl) Eff.refl
      · exact Eff.refl

theorem bulk_eff (m : Msg) (s : State) :
    Eff (withSide [.umbra, .link]) (sideAnd [.one K.umbsJoinLost, .one K.umbsStatus]) s (bulk m s) := by
  unfold bulk
  split
  · exact Eff.refl
  · rename_i q1
    exact Eff.ite ((State.takeMsg_eff q1).after Eff.refl rfl) ((State.peerFragment_eff ..).after ((State.takeMsg_eff q1).after
        Eff.refl rfl) rfl)

theorem delayReq_eff (p : Nat) (m : Msg) (s : State) :
    Eff (withSide [.link]) (sideAnd [.fam (K.spsPortStatus 0) 2, .fam (K.spsQueueDrops 0) 2]) s (delayReq p m s) := by
  unfold delayReq
  split
  · exact Eff.refl
  · rename_i q1
    exact Eff.ite ((State.takeMsg_eff q1).after Eff.refl rfl) ((State.sendPort_eff ..).after ((State.takeMsg_eff q1).after
        Eff.refl rfl) rfl)

theorem delayResp_eff (p : Nat) (m : Msg) (s : State) :
    Eff (withSide [.time, .device, .boot, .pins, .link]) (sideAnd [.fam (K.alarmAlarmEnable 0) 4, .fam (K.alarmAlarmStatus 0) 4,
        .one K.devDeviceState, .one K.devStateChanges, .one K.devStateTime, .one K.pwrPowerPhase, .one K.pwrWakeCause, .one
        K.timeExchanges, .one K.timeIntegral, .one K.timeLastOffset, .one K.timeOutliers, .one K.timePathDelay, .one
        K.timeRateAdj, .one K.timeSyncState, .one K.timeTimeStatus]) s (delayResp p m s) := by
  unfold delayResp
  split
  · exact Eff.refl
  · rename_i q1
    split
    · exact Eff.ite ((State.takeMsg_eff q1).after Eff.refl rfl) ((State.exchanged_eff ..).after ((State.takeMsg_eff q1).after
        Eff.refl rfl) rfl)
    · exact (State.takeMsg_eff q1).after Eff.refl rfl

theorem epoch_eff (m : Msg) (s : State) :
    Eff (withSide [.free, .device, .staged, .domains, .pool, .paths, .out, .mem, .boot, .pins, .memory, .wheel, .engines, .slip,
        .kiln, .gauge, .umbra, .loop, .link]) [.all] s (epoch m s) := by
  unfold epoch
  split
  · exact Eff.refl
  · rename_i q1
    extract_lets +onlyGivenNames v2
    clear_value v2
    extract_lets +onlyGivenNames v3
    clear_value v3
    refine Eff.ite ?_ ?_
    · exact (State.takeMsg_eff q1).after Eff.refl rfl
    · extract_lets +onlyGivenNames x4
      clear_value (ex4 : x4 = _)
      refine Eff.have ex4 ((State.raiseEpoch_eff ..).after ((State.takeMsg_eff q1).after Eff.refl rfl) rfl) fun hx4 => ?_
      exact Eff.ite ((State.promoted_eff ..).after hx4 rfl) (Eff.ite ((State.fenceStop_eff ..).after hx4 rfl) hx4)

theorem evt_eff (m : Msg) (s : State) :
    Eff (withSide [.link]) (sideAnd [.span (K.srvRecvCount 0) (K.srvRecvCount 0 + 32)]) s (evt m s) := by
  unfold evt
  split
  · exact Eff.refl
  · rename_i q1
    extract_lets +onlyGivenNames v2
    clear_value v2
    exact Eff.ite ((State.takeMsg_eff q1).after Eff.refl rfl) ((State.raise_eff ..).after (Eff.inc ((State.takeMsg_eff q1).after
        Eff.refl rfl) rfl (KeySet.any_run _ rfl)) rfl)

theorem execBulk_eff (m : Msg) (s : State) {t : State} (h : execBulk m s = .next t) :
    Eff (withSide [.umbra, .link]) (sideAnd [.one K.umbsJoinLost, .one K.umbsStatus]) s t := by
  unfold execBulk at h
  cases h
  exact (bulk_eff ..).after Eff.refl rfl

theorem execDelayReq_eff (p : Nat) (m : Msg) (s : State) {t : State} (h : execDelayReq p m s = .next t) :
    Eff (withSide [.link]) (sideAnd [.fam (K.spsPortStatus 0) 2, .fam (K.spsQueueDrops 0) 2]) s t := by
  unfold execDelayReq at h
  exact Eff.to (inst_next h).2.symm ((delayReq_eff ..).after Eff.refl rfl)

theorem execDelayResp_eff (p : Nat) (m : Msg) (s : State) {t : State} (h : execDelayResp p m s = .next t) :
    Eff (withSide [.time, .device, .boot, .pins, .link]) (sideAnd [.fam (K.alarmAlarmEnable 0) 4, .fam (K.alarmAlarmStatus 0) 4,
        .one K.devDeviceState, .one K.devStateChanges, .one K.devStateTime, .one K.pwrPowerPhase, .one K.pwrWakeCause, .one
        K.timeExchanges, .one K.timeIntegral, .one K.timeLastOffset, .one K.timeOutliers, .one K.timePathDelay, .one
        K.timeRateAdj, .one K.timeSyncState, .one K.timeTimeStatus]) s t := by
  unfold execDelayResp at h
  exact Eff.to (inst_next h).2.symm ((delayResp_eff ..).after Eff.refl rfl)

theorem execEpoch_eff (m : Msg) (s : State) {t : State} (h : execEpoch m s = .next t) :
    Eff (withSide [.free, .device, .staged, .domains, .pool, .paths, .out, .mem, .boot, .pins, .memory, .wheel, .engines, .slip,
        .kiln, .gauge, .umbra, .loop, .link]) [.all] s t := by
  unfold execEpoch at h
  cases h
  exact (epoch_eff ..).after Eff.refl rfl

theorem execEvt_eff (m : Msg) (s : State) {t : State} (h : execEvt m s = .next t) :
    Eff (withSide [.link]) (sideAnd [.span (K.srvRecvCount 0) (K.srvRecvCount 0 + 32)]) s t := by
  unfold execEvt at h
  cases h
  exact (evt_eff ..).after Eff.refl rfl

theorem heartbeat_eff (p : Nat) (m : Msg) (s : State) :
    Eff (withSide [.link]) (sideAnd [.fam (K.spsPortStatus 0) 2, .fam (K.spsQueueDrops 0) 2]) s (heartbeat p m s) := by
  unfold heartbeat
  split
  · exact Eff.refl
  · rename_i q1
    refine Eff.ite ?_ ?_
    · exact (State.takeMsg_eff q1).after Eff.refl rfl
    · extract_lets +onlyGivenNames v2
      clear_value v2
      extract_lets +onlyGivenNames v3
      clear_value v3
      extract_lets +onlyGivenNames x4
      clear_value (ex4 : x4 = _)
      refine Eff.have ex4 ((State.setSkl_eff ..).after ((State.takeMsg_eff q1).after Eff.refl rfl) rfl) fun hx4 => ?_
      exact Eff.ite ((State.sendStale_eff ..).after hx4 rfl) hx4

theorem execHeartbeat_eff (p : Nat) (m : Msg) (s : State) {t : State} (h : execHeartbeat p m s = .next t) :
    Eff (withSide [.link]) (sideAnd [.fam (K.spsPortStatus 0) 2, .fam (K.spsQueueDrops 0) 2]) s t := by
  unfold execHeartbeat at h
  exact Eff.to (inst_next h).2.symm ((heartbeat_eff ..).after Eff.refl rfl)

theorem heartbeatSend_eff (s : State) :
    Eff (withSide [.clock, .link]) (sideAnd [.fam (K.spsPortStatus 0) 2, .fam (K.spsQueueDrops 0) 2]) s (heartbeatSend s) := by
  unfold heartbeatSend
  refine Eff.ite ?_ ?_
  · exact Eff.refl
  · extract_lets +onlyGivenNames x1
    clear_value (ex1 : x1 = _)
    refine Eff.have ex1 ((State.at_eff ..).after Eff.refl rfl) fun hx1 => ?_
    exact (State.broadcast_eff ..).after ((State.setSkl_eff ..).after hx1 rfl) rfl

theorem execHeartbeatSend_eff (s : State) {t : State} (h : execHeartbeatSend s = .next t) :
    Eff (withSide [.clock, .link]) (sideAnd [.fam (K.spsPortStatus 0) 2, .fam (K.spsQueueDrops 0) 2]) s t := by
  unfold execHeartbeatSend at h
  cases h
  exact (heartbeatSend_eff ..).after Eff.refl rfl

theorem lineStale_eff (m : Msg) (s : State) :
    Eff (withSide [.free, .device, .staged, .pool, .paths, .out, .mem, .boot, .pins, .memory, .wheel, .engines, .slip, .kiln,
        .gauge, .umbra, .loop, .link]) [.all] s (lineStale m s) := by
  unfold lineStale
  split
  · exact Eff.refl
  · rename_i q1
    extract_lets +onlyGivenNames v2
    clear_value v2
    exact Eff.ite ((State.takeMsg_eff q1).after Eff.refl rfl) (Eff.ite (Eff.ite ((State.fenceStop_eff ..).after
        ((State.takeMsg_eff q1).after Eff.refl rfl) rfl) ((State.takeMsg_eff q1).after Eff.refl rfl)) (Eff.ite
        ((State.fenceStop_eff ..).after ((State.takeMsg_eff q1).after Eff.refl rfl) rfl) ((State.takeMsg_eff q1).after Eff.refl
        rfl)))

theorem execLineStale_eff (m : Msg) (s : State) {t : State} (h : execLineStale m s = .next t) :
    Eff (withSide [.free, .device, .staged, .pool, .paths, .out, .mem, .boot, .pins, .memory, .wheel, .engines, .slip, .kiln,
        .gauge, .umbra, .loop, .link]) [.all] s t := by
  unfold execLineStale at h
  cases h
  exact (lineStale_eff ..).after Eff.refl rfl

theorem msgReceived_eff (p : Nat) (m : Msg) (s : State) :
    Eff (withSide [.domains, .link]) (sideAnd [.fam (K.spsCrcErrors 0) 2, .fam (K.spsMsgReceived 0) 2, .fam (K.spsPortStatus 0) 2,
        .fam (K.spsQueueDrops 0) 2, .fam (K.spsRxState 0) 2, .one K.sklLinkStatus, .one K.sklNoRoute, .one K.sklStaleDrops]) s
        (msgReceived p m s) := by
  unfold msgReceived
  refine Eff.ite ?_ ?_
  · exact Eff.refl
  · extract_lets +onlyGivenNames x1
    clear_value (ex1 : x1 = _)
    refine Eff.have ex1 (Eff.wr Eff.refl rfl (KeySet.any_fam _ rfl)) fun hx1 => ?_
    refine Eff.ite ?_ ?_
    · exact Eff.flag (Eff.inc hx1 rfl (KeySet.any_fam _ rfl)) rfl (KeySet.any_fam _ rfl)
    · extract_lets +onlyGivenNames x2
      clear_value (ex2 : x2 = _)
      refine Eff.have ex2 (Eff.inc hx1 rfl (KeySet.any_fam _ rfl)) fun hx2 => ?_
      refine Eff.ite ?_ ?_
      · exact (State.sendStale_eff ..).after (Eff.flag (Eff.inc hx2 rfl rfl) rfl rfl) rfl
      · extract_lets +onlyGivenNames x3
        clear_value (ex3 : x3 = _)
        refine Eff.have ex3 (Eff.ite hx2 ((State.raiseEpoch_eff ..).after hx2 rfl)) fun hx3 => ?_
        refine Eff.ite ?_ ?_
        · exact (State.deliverMsg_eff ..).after hx3 rfl
        · refine Eff.ite ?_ ?_
          · exact (State.takeBroadcast_eff ..).after hx3 rfl
          · refine Eff.ite ?_ ?_
            · exact (State.deliverMsg_eff ..).after hx3 rfl
            · split
              · exact (State.noRoute_eff ..).after hx3 rfl
              · exact Eff.ite ((State.noRoute_eff ..).after hx3 rfl) ((State.forwardMsg_eff ..).after hx3 rfl)

theorem execMsgReceived_eff (p : Nat) (m : Msg) (s : State) {t : State} (h : execMsgReceived p m s = .next t) :
    Eff (withSide [.domains, .link]) (sideAnd [.fam (K.spsCrcErrors 0) 2, .fam (K.spsMsgReceived 0) 2, .fam (K.spsPortStatus 0) 2,
        .fam (K.spsQueueDrops 0) 2, .fam (K.spsRxState 0) 2, .one K.sklLinkStatus, .one K.sklNoRoute, .one K.sklStaleDrops]) s t
        := by
  unfold execMsgReceived at h
  exact Eff.to (inst_next h).2.symm ((msgReceived_eff ..).after Eff.refl rfl)

theorem roleDead_eff (r : Nat) (s : State) :
    Eff (withSide [.clock, .domains, .link]) (sideAnd [.fam (K.spsPortStatus 0) 2, .fam (K.spsQueueDrops 0) 2, .one
        K.sklLinkStatus, .one K.sklPromotions]) s (roleDead r s) := by
  unfold roleDead
  extract_lets +onlyGivenNames v1
  clear_value v1
  refine Eff.ite ?_ ?_
  · exact Eff.refl
  · extract_lets +onlyGivenNames x2
    clear_value (ex2 : x2 = _)
    refine Eff.have ex2 ((State.at_eff ..).after Eff.refl rfl) fun hx2 => ?_
    exact (State.passRole_eff ..).after hx2 rfl

theorem execRoleDead_eff (r : Nat) (s : State) {t : State} (h : execRoleDead r s = .next t) :
    Eff (withSide [.clock, .domains, .link]) (sideAnd [.fam (K.spsPortStatus 0) 2, .fam (K.spsQueueDrops 0) 2, .one
        K.sklLinkStatus, .one K.sklPromotions]) s t := by
  unfold execRoleDead at h
  exact Eff.to (inst_next h).2.symm ((roleDead_eff ..).after Eff.refl rfl)

theorem sparePromote_eff (s : State) :
    Eff (withSide [.clock, .domains, .link]) (sideAnd [.fam (K.spsPortStatus 0) 2, .fam (K.spsQueueDrops 0) 2, .one
        K.sklLinkStatus, .one K.sklPromotions, .one K.sklRole, .one K.sklRoleEpoch]) s (sparePromote s) := by
  unfold sparePromote
  split
  · exact Eff.refl
  · extract_lets +onlyGivenNames v1
    clear_value v1
    refine Eff.ite ?_ ?_
    · exact Eff.refl
    · extract_lets +onlyGivenNames x2
      clear_value (ex2 : x2 = _)
      refine Eff.have ex2 ((State.at_eff ..).after Eff.refl rfl) fun hx2 => ?_
      extract_lets +onlyGivenNames v3
      clear_value v3
      exact (State.passRole_eff ..).after ((State.promoted_eff ..).after hx2 rfl) rfl

theorem execSparePromote_eff (s : State) {t : State} (h : execSparePromote s = .next t) :
    Eff (withSide [.clock, .domains, .link]) (sideAnd [.fam (K.spsPortStatus 0) 2, .fam (K.spsQueueDrops 0) 2, .one
        K.sklLinkStatus, .one K.sklPromotions, .one K.sklRole, .one K.sklRoleEpoch]) s t := by
  unfold execSparePromote at h
  cases h
  exact (sparePromote_eff ..).after Eff.refl rfl

theorem sync_eff (p : Nat) (m : Msg) (s : State) :
    Eff (withSide [.time, .link]) (sideAnd [.fam (K.spsPortStatus 0) 2, .fam (K.spsQueueDrops 0) 2]) s (sync p m s) := by
  unfold sync
  split
  · exact Eff.refl
  · rename_i q1
    refine Eff.ite ?_ ?_
    · exact (State.takeMsg_eff q1).after Eff.refl rfl
    · extract_lets +onlyGivenNames v2
      clear_value v2
      exact (State.sendPort_eff ..).after ((State.setSync_eff ..).after ((State.takeMsg_eff q1).after Eff.refl rfl) rfl) rfl

theorem execSync_eff (p : Nat) (m : Msg) (s : State) {t : State} (h : execSync p m s = .next t) :
    Eff (withSide [.time, .link]) (sideAnd [.fam (K.spsPortStatus 0) 2, .fam (K.spsQueueDrops 0) 2]) s t := by
  unfold execSync at h
  exact Eff.to (inst_next h).2.symm ((sync_eff ..).after Eff.refl rfl)

end Sys2Proof.Machine
end

