-- ==== Sys2Proof/Laws/Host.lean ====
section
/-! SUPPORT. What each operation of Machine/Host.lean may change. -/

-- The proofs of this file are checked one after another, in one thread.
set_option Elab.async false

namespace Sys2Proof.Machine

theorem State.ethApply_eff (s : State) (p : Nat) (old : Nat) :
    Eff [.regs, .witness] [.fam (K.ethsLinkState 0) 2] s (State.ethApply s p old) := by
  unfold State.ethApply
  extract_lets +onlyGivenNames v1
  clear_value v1
  refine Eff.ite ?_ ?_
  · exact Eff.refl
  · extract_lets +onlyGivenNames x2
    clear_value (ex2 : x2 = _)
    refine Eff.have ex2 (Eff.ite (Eff.upd_faultTimes Eff.refl rfl) Eff.refl) fun hx2 => ?_
    exact Eff.wr hx2 rfl (KeySet.any_fam _ rfl)

theorem State.rxDiscard_eff (s : State) (p : Nat) :
    Eff [.regs] [.fam (K.ethsRxDiscarded 0) 2] s (State.rxDiscard s p) := by
  unfold State.rxDiscard
  exact Eff.inc Eff.refl rfl (KeySet.any_fam _ rfl)

theorem State.coreRx_eff (s : State) (p : Nat) (f : List Nat) :
    Eff (withSide [.memory]) (sideAnd [.fam (K.ethsRxDiscarded 0) 2, .fam (K.qsFill 0) 64, .fam (K.qsFillPeak 0) 64, .fam
        (K.qsItemsIn 0) 64, .fam (K.qsNoCreditCount 0) 64, .fam (K.qsQueueStatus 0) 64, .one K.quesSizeErrors]) s (State.coreRx s
        p f) := by
  unfold State.coreRx
  extract_lets +onlyGivenNames v1
  clear_value v1
  extract_lets +onlyGivenNames v2
  clear_value v2
  refine Eff.ite ?_ ?_
  · exact (State.rxDiscard_eff ..).after Eff.refl rfl
  · split
    · rename_i q3
      exact Eff.to (congrArg (fun p => p.2) q3).symm ((State.offerTo_eff ..).after Eff.refl rfl)
    · rename_i q4
      exact (State.rxDiscard_eff ..).after (Eff.to (congrArg (fun p => p.2) q4).symm ((State.offerTo_eff ..).after Eff.refl rfl))
          rfl

theorem State.hostXferStop_eff (s : State) :
    Eff (withSide [.paths]) (sideAnd [.fam (K.pathDomStatus 0) 7]) s (State.hostXferStop s) := by
  unfold State.hostXferStop
  split
  · exact Eff.refl
  · exact (State.raise_eff ..).after (Eff.wr (Eff.upd_xfers Eff.refl rfl) rfl (KeySet.any_fam _ rfl)) rfl

theorem State.takeArp_eff (s : State) (p : Nat) (f : List Nat) :
    Eff [.regs, .out] [.fam (K.ethsFramesOut 0) 2] s (State.takeArp s p f) := by
  unfold State.takeArp
  extract_lets +onlyGivenNames v1
  clear_value v1
  refine Eff.ite ?_ ?_
  · exact Eff.refl
  · extract_lets +onlyGivenNames x2
    clear_value (ex2 : x2 = _)
    refine Eff.have ex2 ((State.arpLearn_eff ..).after Eff.refl rfl) fun hx2 => ?_
    exact Eff.ite ((State.sendFrame_eff ..).after hx2 rfl) hx2

theorem State.takeIp_eff (s : State) (p : Nat) (f : List Nat) (g : List Nat) :
    Eff (withSide [.out, .memory]) (sideAnd [.fam (K.ethsFramesOut 0) 2, .fam (K.ethsRxDiscarded 0) 2, .fam (K.qsFill 0) 64, .fam
        (K.qsFillPeak 0) 64, .fam (K.qsItemsIn 0) 64, .fam (K.qsNoCreditCount 0) 64, .fam (K.qsQueueStatus 0) 64, .one
        K.quesSizeErrors]) s (State.takeIp s p f g) := by
  unfold State.takeIp
  extract_lets +onlyGivenNames v1
  clear_value v1
  extract_lets +onlyGivenNames v2
  clear_value v2
  extract_lets +onlyGivenNames v3
  clear_value v3
  exact Eff.ite ((State.sendFrame_eff ..).after Eff.refl rfl) (Eff.ite ((State.rxDiscard_eff ..).after Eff.refl rfl) (Eff.ite
      Eff.refl (Eff.ite ((State.coreRx_eff ..).after Eff.refl rfl) (Eff.ite ((State.coreRx_eff ..).after Eff.refl rfl)
      ((State.rxDiscard_eff ..).after Eff.refl rfl)))))

theorem bar2BaseWrite_eff (a : Acc) (s : State) :
    Eff sideParts (accAnd [.one K.pcieBar2Base]) s (bar2BaseWrite a s) := by
  unfold bar2BaseWrite
  extract_lets +onlyGivenNames v1
  clear_value v1
  exact Eff.act Eff.refl (fun y2 hy2 => (Eff.wr hy2 rfl rfl)) rfl

theorem coreTxFrame_eff (p : Nat) (s : State) :
    Eff (withSide [.out, .memory]) (sideAnd [.fam (K.ethsFramesOut 0) 2, .fam (K.qsFill 0) 64, .fam (K.qsFillPeak 0) 64, .fam
        (K.qsItemsIn 0) 64, .fam (K.qsItemsOut 0) 64, .fam (K.qsNoCreditCount 0) 64, .fam (K.qsQueueStatus 0) 64, .one
        K.quesSizeErrors]) s (coreTxFrame p s) := by
  unfold coreTxFrame
  extract_lets +onlyGivenNames v1
  clear_value v1
  refine Eff.ite ?_ ?_
  · exact Eff.refl
  · split
    · exact Eff.refl
    · extract_lets +onlyGivenNames x2
      clear_value (ex2 : x2 = _)
      refine Eff.have ex2 (Eff.inc (Eff.wr (Eff.upd_queues Eff.refl rfl) rfl (KeySet.any_fam _ rfl)) rfl (KeySet.any_fam _ rfl))
          fun hx2 => ?_
      extract_lets +onlyGivenNames v3
      clear_value v3
      extract_lets +onlyGivenNames x4
      clear_value (ex4 : x4 = _)
      refine Eff.have ex4 ((State.sendFrame_eff ..).after hx2 rfl) fun hx4 => ?_
      refine Eff.ite ?_ ?_
      · exact hx4
      · split
        · rename_i q5
          exact (State.raise_eff ..).after (Eff.arrive (Eff.to (congrArg (fun p => p.2) q5).symm ((State.offerTo_eff ..).after hx4
              rfl)) rfl) rfl
        · rename_i q6
          exact Eff.to (congrArg (fun p => p.2) q6).symm ((State.offerTo_eff ..).after hx4 rfl)

theorem ethFrameReceive_eff (p : Nat) (frame : List Nat) (fcsOk : Bool) (s : State) :
    Eff (withSide [.out, .memory]) (sideAnd [.fam (K.ethsFcsErrors 0) 2, .fam (K.ethsFramesIn 0) 2, .fam (K.ethsFramesOut 0) 2,
        .fam (K.ethsRxDiscarded 0) 2, .fam (K.qsFill 0) 64, .fam (K.qsFillPeak 0) 64, .fam (K.qsItemsIn 0) 64, .fam
        (K.qsNoCreditCount 0) 64, .fam (K.qsQueueStatus 0) 64, .one K.quesSizeErrors]) s (ethFrameReceive p frame fcsOk s) := by
  unfold ethFrameReceive
  refine Eff.ite ?_ ?_
  · exact (State.rxDiscard_eff ..).after Eff.refl rfl
  · refine Eff.ite ?_ ?_
    · exact Eff.refl
    · refine Eff.ite ?_ ?_
      · exact Eff.inc Eff.refl rfl (KeySet.any_fam _ rfl)
      · refine Eff.ite ?_ ?_
        · exact (State.rxDiscard_eff ..).after Eff.refl rfl
        · extract_lets +onlyGivenNames x1
          clear_value (ex1 : x1 = _)
          refine Eff.have ex1 (Eff.inc Eff.refl rfl (KeySet.any_fam _ rfl)) fun hx1 => ?_
          extract_lets +onlyGivenNames v2
          clear_value v2
          extract_lets +onlyGivenNames v3
          clear_value v3
          exact Eff.ite ((State.coreRx_eff ..).after hx1 rfl) (Eff.ite ((State.takeArp_eff ..).after hx1 rfl) (Eff.ite
              ((State.takeIp_eff ..).after hx1 rfl) ((State.rxDiscard_eff ..).after hx1 rfl)))

theorem ethLinkFault_eff (p : Nat) (s : State) :
    Eff sideParts (sideAnd [.fam (K.ethsLinkState 0) 2, .fam (K.ethsPortStatus 0) 2, .one K.fltFaultStatus, .one
        K.fltLastRetiredUnit, .one K.fltRetiredCount, .one K.fltTransientCount]) s (ethLinkFault p s) := by
  unfold ethLinkFault
  refine Eff.ite ?_ ?_
  · exact Eff.refl
  · extract_lets +onlyGivenNames v1
    clear_value v1
    extract_lets +onlyGivenNames x2
    clear_value (ex2 : x2 = _)
    refine Eff.have ex2 ((State.raise_eff ..).after (Eff.flag (Eff.wr Eff.refl rfl (KeySet.any_fam _ rfl)) rfl (KeySet.any_fam _
        rfl)) rfl) fun hx2 => ?_
    extract_lets +onlyGivenNames x3
    clear_value (ex3 : x3 = _)
    refine Eff.have ex3 ((State.transient_eff ..).after hx2 rfl) fun hx3 => ?_
    refine Eff.ite ?_ ?_
    · extract_lets +onlyGivenNames x4
      clear_value (ex4 : x4 = _)
      refine Eff.have ex4 (Eff.flag (Eff.wr hx3 rfl (KeySet.any_fam _ rfl)) rfl (KeySet.any_fam _ rfl)) fun hx4 => ?_
      exact (State.raise_eff ..).after ((State.retire_eff ..).after hx4 rfl) rfl
    · exact hx3

theorem ethLinkUp_eff (p : Nat) (eye : Nat) (s : State) :
    Eff (withSide [.boot]) (sideAnd [.fam (K.ethsLinkState 0) 2, .one K.calCalStatus]) s (ethLinkUp p eye s) := by
  unfold ethLinkUp
  refine Eff.ite ?_ ?_
  · exact Eff.refl
  · extract_lets +onlyGivenNames x1
    clear_value (ex1 : x1 = _)
    refine Eff.have ex1 (Eff.ite Eff.refl ((State.calEnd_eff ..).after Eff.refl rfl)) fun hx1 => ?_
    exact Eff.ite ((State.raise_eff ..).after (Eff.wr hx1 rfl (KeySet.any_fam _ rfl)) rfl) hx1

theorem ethReadmitWrite_eff (a : Acc) (p : Nat) (s : State) :
    Eff sideParts (accAnd [.fam (K.ethsLinkState 0) 2, .one K.fltRetiredCount]) s (ethReadmitWrite a p s) := by
  unfold ethReadmitWrite
  exact Eff.act Eff.refl (fun y1 hy1 => (Eff.ite (Eff.wr ((State.readmit_eff ..).after hy1 rfl) rfl (KeySet.any_fam _ rfl)) hy1))
      rfl

theorem execBar2Base_eff (a : Acc) (s : State) {t : State} (h : execBar2Base a s = .next t) :
    Eff sideParts (accAnd [.one K.pcieBar2Base]) s t := by
  unfold execBar2Base at h
  cases h
  exact (bar2BaseWrite_eff ..).after Eff.refl rfl

theorem execCoreTxFrame_eff (p : Nat) (s : State) {t : State} (h : execCoreTxFrame p s = .next t) :
    Eff (withSide [.out, .memory]) (sideAnd [.fam (K.ethsFramesOut 0) 2, .fam (K.qsFill 0) 64, .fam (K.qsFillPeak 0) 64, .fam
        (K.qsItemsIn 0) 64, .fam (K.qsItemsOut 0) 64, .fam (K.qsNoCreditCount 0) 64, .fam (K.qsQueueStatus 0) 64, .one
        K.quesSizeErrors]) s t := by
  unfold execCoreTxFrame at h
  exact Eff.to (inst_next h).2.symm ((coreTxFrame_eff ..).after Eff.refl rfl)

theorem execEthFrameReceive_eff (p : Nat) (frame : List Nat) (fcsOk : Bool) (s : State) {t : State} (h : execEthFrameReceive p
    frame fcsOk s = .next t) :
    Eff (withSide [.out, .memory]) (sideAnd [.fam (K.ethsFcsErrors 0) 2, .fam (K.ethsFramesIn 0) 2, .fam (K.ethsFramesOut 0) 2,
        .fam (K.ethsRxDiscarded 0) 2, .fam (K.qsFill 0) 64, .fam (K.qsFillPeak 0) 64, .fam (K.qsItemsIn 0) 64, .fam
        (K.qsNoCreditCount 0) 64, .fam (K.qsQueueStatus 0) 64, .one K.quesSizeErrors]) s t := by
  unfold execEthFrameReceive at h
  exact Eff.to (inst_next h).2.symm ((ethFrameReceive_eff ..).after Eff.refl rfl)

theorem execEthLinkFault_eff (p : Nat) (s : State) {t : State} (h : execEthLinkFault p s = .next t) :
    Eff sideParts (sideAnd [.fam (K.ethsLinkState 0) 2, .fam (K.ethsPortStatus 0) 2, .one K.fltFaultStatus, .one
        K.fltLastRetiredUnit, .one K.fltRetiredCount, .one K.fltTransientCount]) s t := by
  unfold execEthLinkFault at h
  exact Eff.to (inst_next h).2.symm ((ethLinkFault_eff ..).after Eff.refl rfl)

theorem execEthLinkUp_eff (p : Nat) (eye : Nat) (s : State) {t : State} (h : execEthLinkUp p eye s = .next t) :
    Eff (withSide [.boot]) (sideAnd [.fam (K.ethsLinkState 0) 2, .one K.calCalStatus]) s t := by
  unfold execEthLinkUp at h
  exact Eff.to (inst_next h).2.symm ((ethLinkUp_eff ..).after Eff.refl rfl)

theorem execEthReadmit_eff (a : Acc) (p : Nat) (s : State) {t : State} (h : execEthReadmit a p s = .next t) :
    Eff sideParts (accAnd [.fam (K.ethsLinkState 0) 2, .one K.fltRetiredCount]) s t := by
  unfold execEthReadmit at h
  exact Eff.to (inst_next h).2.symm ((ethReadmitWrite_eff ..).after Eff.refl rfl)

theorem pcieLinkDown_eff (s : State) :
    Eff sideParts (sideAnd [.one K.pcieBusMaster, .one K.pcieLinkSpeed, .one K.pcieLinkWidth, .one K.pcieMaxPayload, .one
        K.pciePcieStatus]) s (pcieLinkDown s) := by
  unfold pcieLinkDown
  refine Eff.ite ?_ ?_
  · exact Eff.refl
  · extract_lets +onlyGivenNames x1
    clear_value (ex1 : x1 = _)
    refine Eff.have ex1 (Eff.wr (Eff.wr (Eff.wr (Eff.wr Eff.refl rfl rfl) rfl rfl) rfl rfl) rfl rfl) fun hx1 => ?_
    exact (State.raise_eff ..).after (Eff.flag hx1 rfl rfl) rfl

theorem execPcieLinkDown_eff (s : State) {t : State} (h : execPcieLinkDown s = .next t) :
    Eff sideParts (sideAnd [.one K.pcieBusMaster, .one K.pcieLinkSpeed, .one K.pcieLinkWidth, .one K.pcieMaxPayload, .one
        K.pciePcieStatus]) s t := by
  unfold execPcieLinkDown at h
  cases h
  exact (pcieLinkDown_eff ..).after Eff.refl rfl

theorem pcieLinkUp_eff (speed : Nat) (width : Nat) (payload : Nat) (master : Bool) (s : State) :
    Eff sideParts (sideAnd [.one K.pcieBusMaster, .one K.pcieLinkSpeed, .one K.pcieLinkWidth, .one K.pcieMaxPayload]) s
        (pcieLinkUp speed width payload master s) := by
  unfold pcieLinkUp
  extract_lets +onlyGivenNames x1
  clear_value (ex1 : x1 = _)
  refine Eff.have ex1 (Eff.wr (Eff.wr (Eff.wr (Eff.wr Eff.refl rfl rfl) rfl rfl) rfl rfl) rfl rfl) fun hx1 => ?_
  exact (State.raise_eff ..).after ((msixFlush_eff ..).after hx1 rfl) rfl

theorem execPcieLinkUp_eff (speed : Nat) (width : Nat) (payload : Nat) (busMaster : Bool) (s : State) {t : State} (h :
    execPcieLinkUp speed width payload busMaster s = .next t) :
    Eff sideParts (sideAnd [.one K.pcieBusMaster, .one K.pcieLinkSpeed, .one K.pcieLinkWidth, .one K.pcieMaxPayload]) s t := by
  unfold execPcieLinkUp at h
  cases h
  exact (pcieLinkUp_eff ..).after Eff.refl rfl

theorem hostDmaStop_eff (s : State) (c : Nat) :
    Eff (withSide [.mem, .memory]) (sideAnd [.fam (K.dmasChannelState 0) 32, .fam (K.dmasCompletions 0) 32, .fam (K.dmasErrorCount
        0) 32, .fam (K.dmasLastStatus 0) 32, .fam (K.portBytesWritten 0) 12, .fam (K.qsConsumer 0) 64, .one K.dramLastMapError,
        .one K.dramMapErrors, .one K.dramMemStatus]) s (hostDmaStop s c) := by
  unfold hostDmaStop
  extract_lets +onlyGivenNames v1
  clear_value v1
  exact Eff.ite ((State.dmaError_eff ..).after Eff.refl rfl) Eff.refl

theorem pcieReset_eff (k : PcieReset) (s : State) :
    Eff (withSide [.paths, .mem, .memory]) (sideAnd [.fam (K.dmasChannelState 0) 32, .fam (K.dmasCompletions 0) 32, .fam
        (K.dmasErrorCount 0) 32, .fam (K.dmasLastStatus 0) 32, .fam (K.pathDomStatus 0) 7, .fam (K.pathSecure 0) 7, .fam
        (K.portBytesWritten 0) 12, .fam (K.qsConsumer 0) 64, .fam (K.tgtHolding 0) 5, .one K.dramLastMapError, .one
        K.dramMapErrors, .one K.dramMemStatus, .one K.pcieBusMaster, .one K.pcieMaxPayload, .one K.pciePcieStatus, .one
        K.pcieResetCount, .span (K.pendInService 0) (K.pendInService 0 + 8), .span (K.pendPending 0) (K.pendPending 0 + 8)]) s
        (pcieReset k s) := by
  unfold pcieReset
  extract_lets +onlyGivenNames x1
  clear_value (ex1 : x1 = _)
  refine Eff.have ex1 (Eff.wr (Eff.wr Eff.refl rfl rfl) rfl rfl) fun hx1 => ?_
  extract_lets +onlyGivenNames x2
  clear_value (ex2 : x2 = _)
  refine Eff.have ex2 ((State.hostXferStop_eff ..).after (Eff.foldl (fun x3 _ hx3 => ((hostDmaStop_eff ..).after hx3 rfl)) hx1)
      rfl) fun hx2 => ?_
  extract_lets +onlyGivenNames x4
  clear_value (ex4 : x4 = _)
  refine Eff.have ex4 ((State.irqRelease_eff ..).after (Eff.wr hx2 rfl (KeySet.any_fam _ rfl)) rfl) fun hx4 => ?_
  extract_lets +onlyGivenNames x5
  clear_value (ex5 : x5 = _)
  refine Eff.have ex5 (Eff.upd_msix hx4 rfl) fun hx5 => ?_
  exact (State.raise_eff ..).after (Eff.flag (Eff.inc hx5 rfl rfl) rfl rfl) rfl

theorem execPcieReset_eff (kind : PcieReset) (s : State) {t : State} (h : execPcieReset kind s = .next t) :
    Eff (withSide [.paths, .mem, .memory]) (sideAnd [.fam (K.dmasChannelState 0) 32, .fam (K.dmasCompletions 0) 32, .fam
        (K.dmasErrorCount 0) 32, .fam (K.dmasLastStatus 0) 32, .fam (K.pathDomStatus 0) 7, .fam (K.pathSecure 0) 7, .fam
        (K.portBytesWritten 0) 12, .fam (K.qsConsumer 0) 64, .fam (K.tgtHolding 0) 5, .one K.dramLastMapError, .one
        K.dramMapErrors, .one K.dramMemStatus, .one K.pcieBusMaster, .one K.pcieMaxPayload, .one K.pciePcieStatus, .one
        K.pcieResetCount, .span (K.pendInService 0) (K.pendInService 0 + 8), .span (K.pendPending 0) (K.pendPending 0 + 8)]) s t
        := by
  unfold execPcieReset at h
  cases h
  exact (pcieReset_eff ..).after Eff.refl rfl

end Sys2Proof.Machine
end

