-- ==== Sys2Proof/Laws/Emit.lean ====
section
/-! SUPPORT. What each operation of Machine/Emit.lean may change. -/

-- The proofs of this file are checked one after another, in one thread.
set_option Elab.async false

namespace Sys2Proof.Machine

theorem State.countMissing_eff (s : State) (parts : List (Nat × MLine)) (j : Int) :
    Eff sideParts (sideAnd [.fam (K.memsMissingLines 0) 12, .one K.seamsStatus]) s (State.countMissing s parts j) := by
  unfold State.countMissing
  exact Eff.foldl (fun x1 _ hx1 => ((State.raise_eff ..).after (Eff.flag (Eff.inc hx1 rfl (KeySet.any_fam _ rfl)) rfl rfl) rfl))
      Eff.refl

theorem State.sendLine_eff (s : State) (a1 : Stitched) (refLate : Nat) :
    Eff (withSide [.free, .staged, .domains, .pool, .out, .mem, .memory, .seam, .engines, .slip, .umbra, .loop]) [.all] s
        (State.sendLine s a1 refLate) := by
  unfold State.sendLine
  extract_lets +onlyGivenNames x1
  clear_value (ex1 : x1 = _)
  refine Eff.have ex1 ((State.codingLine_eff ..).after ((State.umbraLine_eff ..).after ((State.loopBegin_eff ..).after Eff.refl
      rfl) rfl) rfl) fun hx1 => ?_
  extract_lets +onlyGivenNames x2
  clear_value (ex2 : x2 = _)
  refine Eff.have ex2 (Eff.foldl (fun x3 _ hx3 => ((State.winLine_eff ..).after hx3 rfl)) hx1) fun hx2 => ?_
  extract_lets +onlyGivenNames x4
  clear_value (ex4 : x4 = _)
  refine Eff.have ex4 (Eff.foldl (fun x5 _ hx5 => ((State.viewLine_eff ..).after hx5 rfl)) hx2) fun hx4 => ?_
  exact (State.loopLine_eff ..).after hx4 rfl

theorem State.emitLine_eff (s : State) (a1 : SLine) (l : List SLine) (refLate : Nat) :
    Eff (withSide [.free, .staged, .domains, .pool, .out, .mem, .memory, .cameras, .seam, .engines, .slip, .umbra, .loop]) [.all]
        s (State.emitLine s a1 l refLate) := by
  unfold State.emitLine
  extract_lets +onlyGivenNames v1
  clear_value v1
  extract_lets +onlyGivenNames x2
  clear_value (ex2 : x2 = _)
  refine Eff.have ex2 ((State.countMissing_eff ..).after Eff.refl rfl) fun hx2 => ?_
  extract_lets +onlyGivenNames x3
  clear_value (ex3 : x3 = _)
  refine Eff.have ex3 (Eff.wr (Eff.inc hx2 rfl rfl) rfl rfl) fun hx3 => ?_
  extract_lets +onlyGivenNames x4
  clear_value (ex4 : x4 = _)
  refine Eff.have ex4 (Eff.ite (Eff.inc hx3 rfl rfl) hx3) fun hx4 => ?_
  extract_lets +onlyGivenNames x5
  clear_value (ex5 : x5 = _)
  refine Eff.have ex5 (Eff.upd_seam hx4 rfl) fun hx5 => ?_
  extract_lets +onlyGivenNames x6
  clear_value (ex6 : x6 = _)
  refine Eff.have ex6 (Eff.foldl (fun x7 _ hx7 => ((State.seamDone_eff ..).after hx7 rfl)) hx5) fun hx6 => ?_
  exact (State.showMembers_eff ..).after ((State.sendLine_eff ..).after hx6 rfl) rfl

theorem State.waitForced_eff (s : State) :
    Eff (withSide [.seam]) (sideAnd [.one K.seamsStatus, .one K.seamsWaitForced]) s (State.waitForced s) := by
  unfold State.waitForced
  exact (State.raise_eff ..).after (Eff.flag (Eff.inc (Eff.upd_seam Eff.refl rfl) rfl rfl) rfl rfl) rfl

theorem State.memberLine_eff (s : State) (n : Nat) (j : Int) (m : MLine) (expected : Bool) :
    Eff (withSide [.cameras, .seam]) (sideAnd [.fam (K.memsLateLines 0) 12, .one K.seamsStatus, .one K.seamsWaitForced]) s
        (State.memberLine s n j m expected) := by
  unfold State.memberLine
  extract_lets +onlyGivenNames v1
  clear_value v1
  refine Eff.ite ?_ ?_
  · exact (State.seamDone_eff ..).after (Eff.inc Eff.refl rfl (KeySet.any_fam _ rfl)) rfl
  · refine Eff.ite ?_ ?_
    · exact (State.seamDone_eff ..).after Eff.refl rfl
    · extract_lets +onlyGivenNames x2
      clear_value (ex2 : x2 = _)
      refine Eff.have ex2 (Eff.ite ((State.waitForced_eff ..).after Eff.refl rfl) Eff.refl) fun hx2 => ?_
      exact Eff.upd_seam hx2 rfl

theorem lineEmit_eff (refLate : Nat) (s : State) :
    Eff (withSide [.clock, .free, .staged, .domains, .pool, .out, .mem, .memory, .cameras, .seam, .engines, .slip, .umbra, .loop])
        [.all] s (lineEmit refLate s) := by
  unfold lineEmit
  split
  · exact Eff.refl
  · exact Eff.ite ((State.emitLine_eff ..).after ((State.at_eff ..).after Eff.refl rfl) rfl) Eff.refl

theorem execLineEmit_eff (refLate : Nat) (s : State) {t : State} (h : execLineEmit refLate s = .next t) :
    Eff (withSide [.clock, .free, .staged, .domains, .pool, .out, .mem, .memory, .cameras, .seam, .engines, .slip, .umbra, .loop])
        [.all] s t := by
  unfold execLineEmit at h
  cases h
  exact (lineEmit_eff ..).after Eff.refl rfl

theorem seamMemberLine_eff (n : Nat) (s : State) :
    Eff (withSide [.cameras, .prism, .seam]) (sideAnd [.fam (K.memsLateLines 0) 12, .fam (K.memsMemberState 0) 12, .one
        K.seamsStatus, .one K.seamsWaitForced]) s (seamMemberLine n s) := by
  unfold seamMemberLine
  split
  · exact Eff.refl
  · extract_lets +onlyGivenNames v1
    clear_value v1
    extract_lets +onlyGivenNames v2
    clear_value v2
    exact (State.showMembers_eff ..).after ((State.memberLine_eff ..).after ((State.setCtx_eff ..).after Eff.refl rfl) rfl) rfl

theorem execSeamMemberLine_eff (n : Nat) (s : State) {t : State} (h : execSeamMemberLine n s = .next t) :
    Eff (withSide [.cameras, .prism, .seam]) (sideAnd [.fam (K.memsLateLines 0) 12, .fam (K.memsMemberState 0) 12, .one
        K.seamsStatus, .one K.seamsWaitForced]) s t := by
  unfold execSeamMemberLine at h
  exact Eff.to (inst_next h).2.symm ((seamMemberLine_eff ..).after Eff.refl rfl)

end Sys2Proof.Machine
end

