-- ==== Sys2Proof/Laws/Wheel.lean ====
section
/-! SUPPORT. What each operation of Machine/Wheel.lean may change. -/

-- The proofs of this file are checked one after another, in one thread.
set_option Elab.async false

namespace Sys2Proof.Machine

theorem State.cmpWrap_eff (n : Nat) (s : State) (m : Nat) :
    Eff [.regs] [.fam (K.cmpValue 0) 16] s (State.cmpWrap n s m) := by
  unfold State.cmpWrap
  exact Eff.ite (Eff.wr Eff.refl rfl (KeySet.any_fam _ rfl)) Eff.refl

theorem State.encStart_eff (s : State) (n : Nat) :
    Eff [.regs, .wheel] [.fam (K.encsChannelState 0) 4] s (State.encStart s n) := by
  unfold State.encStart
  extract_lets +onlyGivenNames v1
  clear_value v1
  extract_lets +onlyGivenNames f2
  exact Eff.wr ((State.setEnc_eff ..).after Eff.refl rfl) rfl (KeySet.any_fam _ rfl)

theorem State.encApply_eff (s : State) (n : Nat) (old : Nat) :
    Eff [.regs, .wheel] [.fam (K.cmpValue 0) 16, .fam (K.encsChannelState 0) 4, .fam (K.encsRotary 0) 4] s (State.encApply s n
        old) := by
  unfold State.encApply
  extract_lets +onlyGivenNames x1
  clear_value (ex1 : x1 = _)
  refine Eff.have ex1 (Eff.wr Eff.refl rfl (KeySet.any_fam _ rfl)) fun hx1 => ?_
  extract_lets +onlyGivenNames x2
  clear_value (ex2 : x2 = _)
  refine Eff.have ex2 (Eff.foldl (fun x3 _ hx3 => ((State.cmpWrap_eff ..).after hx3 rfl)) hx1) fun hx2 => ?_
  extract_lets +onlyGivenNames v4
  clear_value v4
  exact Eff.ite hx2 (Eff.ite (Eff.wr hx2 rfl (KeySet.any_fam _ rfl)) (Eff.ite hx2 ((State.encStart_eff ..).after hx2 rfl)))

theorem State.setMir_eff (s : State) (m : Nat) (a1 : Mir) :
    Eff [.wheel] [] s (State.setMir s m a1) := by
  unfold State.setMir
  exact Eff.upd_mirs Eff.refl rfl

theorem State.mirDrive_eff (s : State) (m : Nat) (phase : Nat) :
    Eff [.pins] [] s (State.mirDrive s m phase) := by
  unfold State.mirDrive
  exact (State.drive_eff ..).after ((State.drive_eff ..).after Eff.refl rfl) rfl

theorem State.mirApply_eff (s : State) (m : Nat) :
    Eff [.regs, .pins, .wheel] [.fam (K.mirEmuLag 0) 4] s (State.mirApply s m) := by
  unfold State.mirApply
  extract_lets +onlyGivenNames v1
  clear_value v1
  extract_lets +onlyGivenNames v2
  clear_value v2
  extract_lets +onlyGivenNames v3
  clear_value v3
  extract_lets +onlyGivenNames x4
  clear_value (ex4 : x4 = _)
  refine Eff.have ex4 ((State.setMir_eff ..).after Eff.refl rfl) fun hx4 => ?_
  extract_lets +onlyGivenNames x5
  clear_value (ex5 : x5 = _)
  refine Eff.have ex5 (Eff.wr hx4 rfl (KeySet.any_fam _ rfl)) fun hx5 => ?_
  exact Eff.ite ((State.drive_eff ..).after ((State.drive_eff ..).after ((State.drive_eff ..).after hx5 rfl) rfl) rfl)
      ((State.drive_eff ..).after ((State.mirDrive_eff ..).after hx5 rfl) rfl)

theorem State.cmpPass_eff (n : Nat) (old : Nat) (k : Int) (s : State) (m : Nat) :
    Eff [.wheel] [] s (State.cmpPass n old k s m) := by
  unfold State.cmpPass
  extract_lets +onlyGivenNames v1
  clear_value v1
  extract_lets +onlyGivenNames v2
  clear_value v2
  extract_lets +onlyGivenNames v3
  clear_value v3
  extract_lets +onlyGivenNames v4
  clear_value v4
  exact Eff.ite (Eff.ite ((State.setCmp_eff ..).after Eff.refl rfl) (Eff.ite ((State.setCmp_eff ..).after Eff.refl rfl) Eff.refl))
      Eff.refl

theorem State.cmpSkip_eff (n : Nat) (old : Nat) (d : Nat) (s : State) (m : Nat) :
    Eff [.wheel] [] s (State.cmpSkip n old d s m) := by
  unfold State.cmpSkip
  extract_lets +onlyGivenNames v1
  clear_value v1
  extract_lets +onlyGivenNames v2
  clear_value v2
  extract_lets +onlyGivenNames v3
  clear_value v3
  refine Eff.ite ?_ ?_
  · extract_lets +onlyGivenNames v4
    clear_value v4
    extract_lets +onlyGivenNames v5
    clear_value v5
    exact (State.setCmp_eff ..).after Eff.refl rfl
  · exact Eff.refl

theorem State.emuCross_eff (s : State) (m : Nat) :
    Eff [.wheel] [] s (State.emuCross s m) := by
  unfold State.emuCross
  extract_lets +onlyGivenNames v1
  clear_value v1
  extract_lets +onlyGivenNames v2
  clear_value v2
  extract_lets +onlyGivenNames v3
  clear_value v3
  exact (State.setMir_eff ..).after Eff.refl rfl

theorem State.emuShow_eff (s : State) (m : Nat) :
    Eff [.regs] [.fam (K.mirEmuLag 0) 4, .fam (K.mirMirrorStatus 0) 4] s (State.emuShow s m) := by
  unfold State.emuShow
  extract_lets +onlyGivenNames v1
  clear_value v1
  extract_lets +onlyGivenNames x2
  clear_value (ex2 : x2 = _)
  refine Eff.have ex2 (Eff.wr Eff.refl rfl (KeySet.any_fam _ rfl)) fun hx2 => ?_
  exact Eff.ite hx2 (Eff.wr hx2 rfl (KeySet.any_fam _ rfl))

theorem State.emuStep_eff (s : State) (m : Nat) :
    Eff [.pins, .wheel] [] s (State.emuStep s m) := by
  unfold State.emuStep
  extract_lets +onlyGivenNames v1
  clear_value v1
  extract_lets +onlyGivenNames v2
  clear_value v2
  refine Eff.ite ?_ ?_
  · exact Eff.refl
  · extract_lets +onlyGivenNames v3
    clear_value v3
    extract_lets +onlyGivenNames v4
    clear_value v4
    exact (State.mirDrive_eff ..).after ((State.setMir_eff ..).after Eff.refl rfl) rfl

theorem State.encHold_eff (s : State) (n : Nat) (reached : Int) (fwd : Bool) :
    Eff [.wheel] [] s (State.encHold s n reached fwd) := by
  unfold State.encHold
  extract_lets +onlyGivenNames v1
  clear_value v1
  exact Eff.ite ((State.setEnc_eff ..).after Eff.refl rfl) Eff.refl

theorem State.indexMismatch_eff (s : State) (n : Nat) (missing : Bool) :
    Eff (withSide [.wheel]) (sideAnd [.fam (K.encsChannelState 0) 4, .fam (K.encsMismatchCount 0) 4, .fam (K.encsStatus 0) 4, .one
        K.fltFaultStatus, .one K.fltLastRetiredUnit, .one K.fltRetiredCount, .one K.whlActiveMaster, .one K.whlSwitchovers, .one
        K.whlWheelStatus]) s (State.indexMismatch s n missing) := by
  unfold State.indexMismatch
  extract_lets +onlyGivenNames v1
  clear_value v1
  extract_lets +onlyGivenNames x2
  clear_value (ex2 : x2 = _)
  refine Eff.have ex2 ((State.setEnc_eff ..).after Eff.refl rfl) fun hx2 => ?_
  extract_lets +onlyGivenNames x3
  clear_value (ex3 : x3 = _)
  refine Eff.have ex3 (Eff.inc (Eff.flag hx2 rfl (KeySet.any_fam _ rfl)) rfl (KeySet.any_fam _ rfl)) fun hx3 => ?_
  extract_lets +onlyGivenNames x4
  clear_value (ex4 : x4 = _)
  refine Eff.have ex4 ((State.raise_eff ..).after hx3 rfl) fun hx4 => ?_
  extract_lets +onlyGivenNames v5
  clear_value v5
  exact Eff.ite ((State.encRetire_eff ..).after hx4 rfl) hx4

theorem State.mirCount_eff (n : Nat) (k : Int) (s : State) (m : Nat) :
    Eff [.regs, .pins, .wheel] [.fam (K.mirEmuLag 0) 4, .fam (K.mirMirrorStatus 0) 4] s (State.mirCount n k s m) := by
  unfold State.mirCount
  refine Eff.ite ?_ ?_
  · exact Eff.refl
  · refine Eff.ite ?_ ?_
    · extract_lets +onlyGivenNames v1
      clear_value v1
      extract_lets +onlyGivenNames v2
      clear_value v2
      extract_lets +onlyGivenNames v3
      clear_value v3
      exact (State.mirDrive_eff ..).after ((State.setMir_eff ..).after Eff.refl rfl) rfl
    · exact Eff.ite ((State.emuShow_eff ..).after ((State.emuStep_eff ..).after ((State.emuCross_eff ..).after Eff.refl rfl) rfl)
        rfl) Eff.refl

theorem State.encCount_eff (s : State) (n : Nat) (k : Int) (te : Nat) :
    Eff (withSide [.pins, .wheel]) (sideAnd [.fam (K.encsChannelState 0) 4, .fam (K.encsCountedPosition 0) 4, .fam
        (K.encsDirection 0) 4, .fam (K.encsHighWater 0) 4, .fam (K.encsMismatchCount 0) 4, .fam (K.encsPosition 0) 4, .fam
        (K.encsRotary 0) 4, .fam (K.encsSpeed 0) 4, .fam (K.encsStatus 0) 4, .fam (K.mirEmuLag 0) 4, .fam (K.mirMirrorStatus 0) 4,
        .one K.fltFaultStatus, .one K.fltLastRetiredUnit, .one K.fltRetiredCount, .one K.whlActiveMaster, .one K.whlSwitchovers,
        .one K.whlWheelStatus]) s (State.encCount s n k te) := by
  unfold State.encCount
  extract_lets +onlyGivenNames x1
  clear_value (ex1 : x1 = _)
  refine Eff.have ex1 ((State.encTrack_eff ..).after Eff.refl rfl) fun hx1 => ?_
  extract_lets +onlyGivenNames v2
  clear_value v2
  extract_lets +onlyGivenNames v3
  clear_value v3
  extract_lets +onlyGivenNames v4
  clear_value v4
  extract_lets +onlyGivenNames v5
  clear_value v5
  extract_lets +onlyGivenNames v6
  clear_value v6
  extract_lets +onlyGivenNames v7
  clear_value v7
  extract_lets +onlyGivenNames v8
  clear_value v8
  extract_lets +onlyGivenNames x9
  clear_value (ex9 : x9 = _)
  refine Eff.have ex9 ((State.setEnc_eff ..).after hx1 rfl) fun hx9 => ?_
  extract_lets +onlyGivenNames x10
  clear_value (ex10 : x10 = _)
  refine Eff.have ex10 (Eff.ite (Eff.wr hx9 rfl (KeySet.any_fam _ rfl)) hx9) fun hx10 => ?_
  extract_lets +onlyGivenNames x11
  clear_value (ex11 : x11 = _)
  refine Eff.have ex11 (Eff.ite ((State.encHold_eff ..).after hx10 rfl) hx10) fun hx11 => ?_
  extract_lets +onlyGivenNames v12
  clear_value v12
  extract_lets +onlyGivenNames v13
  clear_value v13
  extract_lets +onlyGivenNames x14
  clear_value (ex14 : x14 = _)
  refine Eff.have ex14 (Eff.wr hx11 rfl (KeySet.any_fam _ rfl)) fun hx14 => ?_
  extract_lets +onlyGivenNames x15
  clear_value (ex15 : x15 = _)
  refine Eff.have ex15 (Eff.foldl (fun x16 _ hx16 => ((State.cmpPass_eff ..).after hx16 rfl)) hx14) fun hx15 => ?_
  extract_lets +onlyGivenNames v17
  clear_value v17
  extract_lets +onlyGivenNames v18
  clear_value v18
  extract_lets +onlyGivenNames v19
  clear_value v19
  extract_lets +onlyGivenNames v20
  clear_value v20
  extract_lets +onlyGivenNames x21
  clear_value (ex21 : x21 = _)
  refine Eff.have ex21 (Eff.ite ((State.setEnc_eff ..).after hx15 rfl) hx15) fun hx21 => ?_
  extract_lets +onlyGivenNames x22
  clear_value (ex22 : x22 = _)
  refine Eff.have ex22 (Eff.ite ((State.indexMismatch_eff ..).after hx21 rfl) hx21) fun hx22 => ?_
  extract_lets +onlyGivenNames x23
  clear_value (ex23 : x23 = _)
  refine Eff.have ex23 ((State.encShow_eff ..).after ((State.encTrack_eff ..).after hx22 rfl) rfl) fun hx23 => ?_
  exact (State.crossCheck_eff ..).after (Eff.foldl (fun x24 _ hx24 => ((State.mirCount_eff ..).after hx24 rfl)) hx23) rfl

theorem State.mirInput_eff (n : Nat) (input : EncIn) (level : Bool) (s : State) (m : Nat) :
    Eff [.pins] [] s (State.mirInput n input level s m) := by
  unfold State.mirInput
  exact Eff.ite Eff.refl (Eff.ite ((State.drive_eff ..).after Eff.refl rfl) (Eff.ite ((State.drive_eff ..).after Eff.refl rfl)
      Eff.refl))

theorem State.setProbe_eff (s : State) (p : Nat) (l : List ProbeEntry) :
    Eff [.regs, .wheel] [.fam (K.prbFill 0) 8, .fam (K.prbHeadEdge 0) 8, .fam (K.prbHeadPosition 0) 8, .fam (K.prbHeadRotary 0) 8,
        .fam (K.prbHeadTime 0) 8] s (State.setProbe s p l) := by
  unfold State.setProbe
  extract_lets +onlyGivenNames v1
  clear_value v1
  extract_lets +onlyGivenNames x2
  clear_value (ex2 : x2 = _)
  refine Eff.have ex2 (Eff.upd_probes Eff.refl rfl) fun hx2 => ?_
  exact Eff.wr (Eff.wr (Eff.wr (Eff.wr (Eff.wr hx2 rfl (KeySet.any_fam _ rfl)) rfl (KeySet.any_fam _ rfl)) rfl (KeySet.any_fam _
      rfl)) rfl (KeySet.any_fam _ rfl)) rfl (KeySet.any_fam _ rfl)

theorem countAccepted_eff (n : Nat) (i : EncIn) (s : State) :
    Eff (withSide [.clock, .pins, .wheel]) (sideAnd [.fam (K.encsChannelState 0) 4, .fam (K.encsCountedPosition 0) 4, .fam
        (K.encsDirection 0) 4, .fam (K.encsErrorCount 0) 4, .fam (K.encsHighWater 0) 4, .fam (K.encsMismatchCount 0) 4, .fam
        (K.encsPosition 0) 4, .fam (K.encsRotary 0) 4, .fam (K.encsSpeed 0) 4, .fam (K.encsStatus 0) 4, .fam (K.mirEmuLag 0) 4,
        .fam (K.mirMirrorStatus 0) 4, .one K.fltFaultStatus, .one K.fltLastRetiredUnit, .one K.fltRetiredCount, .one
        K.fltTransientCount, .one K.whlActiveMaster, .one K.whlSwitchovers, .one K.whlWheelStatus]) s (countAccepted n i s) := by
  unfold countAccepted
  extract_lets +onlyGivenNames v1
  clear_value v1
  extract_lets +onlyGivenNames v2
  clear_value v2
  extract_lets +onlyGivenNames v3
  clear_value v3
  refine Eff.ite ?_ ?_
  · exact Eff.refl
  · refine Eff.ite ?_ ?_
    · exact Eff.ite Eff.refl ((State.setEnc_eff ..).after ((State.at_eff ..).after Eff.refl rfl) rfl)
    · extract_lets +onlyGivenNames x4
      clear_value (ex4 : x4 = _)
      refine Eff.have ex4 ((State.at_eff ..).after Eff.refl rfl) fun hx4 => ?_
      extract_lets +onlyGivenNames v5
      clear_value v5
      extract_lets +onlyGivenNames x6
      clear_value (ex6 : x6 = _)
      refine Eff.have ex6 ((State.setEnc_eff ..).after hx4 rfl) fun hx6 => ?_
      split
      · exact (State.encFault_eff ..).after hx6 rfl
      · exact hx6
      · exact (State.encCount_eff ..).after hx6 rfl

theorem emuLagRelease_eff (m : Nat) (s : State) :
    Eff [.clock, .regs, .pins, .wheel] [.fam (K.mirEmuLag 0) 4, .fam (K.mirMirrorStatus 0) 4] s (emuLagRelease m s) := by
  unfold emuLagRelease
  refine Eff.ite ?_ ?_
  · exact Eff.refl
  · extract_lets +onlyGivenNames x1
    clear_value (ex1 : x1 = _)
    refine Eff.have ex1 ((State.emuCross_eff ..).after Eff.refl rfl) fun hx1 => ?_
    extract_lets +onlyGivenNames x2
    clear_value (ex2 : x2 = _)
    refine Eff.have ex2 (Eff.ite hx1 ((State.at_eff ..).after hx1 rfl)) fun hx2 => ?_
    exact (State.emuShow_eff ..).after ((State.emuStep_eff ..).after hx2 rfl) rfl

theorem encoderTransition_eff (n : Nat) (i : EncIn) (level : Bool) (s : State) :
    Eff [.pins, .wheel] [] s (encoderTransition n i level s) := by
  unfold encoderTransition
  extract_lets +onlyGivenNames v1
  clear_value v1
  refine Eff.ite ?_ ?_
  · exact Eff.refl
  · extract_lets +onlyGivenNames x2
    clear_value (ex2 : x2 = _)
    refine Eff.have ex2 ((State.setEnc_eff ..).after Eff.refl rfl) fun hx2 => ?_
    exact Eff.foldl (fun x3 _ hx3 => ((State.mirInput_eff ..).after hx3 rfl)) hx2

theorem execCountAccepted_eff (n : Nat) (input : EncIn) (s : State) {t : State} (h : execCountAccepted n input s = .next t) :
    Eff (withSide [.clock, .device, .boot, .pins, .wheel]) (sideAnd [.fam (K.encsChannelState 0) 4, .fam (K.encsCountedPosition 0)
        4, .fam (K.encsDirection 0) 4, .fam (K.encsErrorCount 0) 4, .fam (K.encsHighWater 0) 4, .fam (K.encsMismatchCount 0) 4,
        .fam (K.encsPosition 0) 4, .fam (K.encsRotary 0) 4, .fam (K.encsSpeed 0) 4, .fam (K.encsStatus 0) 4, .fam (K.mirEmuLag 0)
        4, .fam (K.mirMirrorStatus 0) 4, .one K.devDeviceState, .one K.devStateChanges, .one K.devStateTime, .one
        K.fltFaultStatus, .one K.fltLastRetiredUnit, .one K.fltRetiredCount, .one K.fltTransientCount, .one K.pwrPowerPhase, .one
        K.pwrWakeCause, .one K.whlActiveMaster, .one K.whlSwitchovers, .one K.whlWheelStatus]) s t := by
  unfold execCountAccepted at h
  exact Eff.to (inst_next h).2.symm ((State.wakeOnLevel_eff ..).after ((countAccepted_eff ..).after Eff.refl rfl) rfl)

theorem execEmuLagRelease_eff (m : Nat) (s : State) {t : State} (h : execEmuLagRelease m s = .next t) :
    Eff [.clock, .regs, .pins, .wheel] [.fam (K.mirEmuLag 0) 4, .fam (K.mirMirrorStatus 0) 4] s t := by
  unfold execEmuLagRelease at h
  exact Eff.to (inst_next h).2.symm ((emuLagRelease_eff ..).after Eff.refl rfl)

theorem execEncoderTransition_eff (n : Nat) (input : EncIn) (level : Bool) (s : State) {t : State} (h : execEncoderTransition n
    input level s = .next t) :
    Eff [.pins, .wheel] [] s t := by
  unfold execEncoderTransition at h
  exact Eff.to (inst_next h).2.symm ((encoderTransition_eff ..).after Eff.refl rfl)

theorem indexPulse_eff (n : Nat) (s : State) :
    Eff (withSide [.clock, .wheel]) (sideAnd [.fam (K.encsChannelState 0) 4, .fam (K.encsIndexCorrections 0) 4, .fam
        (K.encsLastIndexDeviation 0) 4, .fam (K.encsMismatchCount 0) 4, .fam (K.encsRotary 0) 4, .fam (K.encsStatus 0) 4, .one
        K.fltFaultStatus, .one K.fltLastRetiredUnit, .one K.fltRetiredCount, .one K.whlActiveMaster, .one K.whlSwitchovers, .one
        K.whlWheelStatus]) s (indexPulse n s) := by
  unfold indexPulse
  extract_lets +onlyGivenNames v1
  clear_value v1
  extract_lets +onlyGivenNames v2
  clear_value v2
  refine Eff.ite ?_ ?_
  · exact Eff.refl
  · extract_lets +onlyGivenNames x3
    clear_value (ex3 : x3 = _)
    refine Eff.have ex3 ((State.setEnc_eff ..).after ((State.at_eff ..).after Eff.refl rfl) rfl) fun hx3 => ?_
    extract_lets +onlyGivenNames v4
    clear_value v4
    refine Eff.ite ?_ ?_
    · exact hx3
    · extract_lets +onlyGivenNames v5
      clear_value v5
      extract_lets +onlyGivenNames v6
      clear_value v6
      extract_lets +onlyGivenNames v7
      clear_value v7
      extract_lets +onlyGivenNames v8
      clear_value v8
      extract_lets +onlyGivenNames v9
      clear_value v9
      extract_lets +onlyGivenNames v10
      clear_value v10
      extract_lets +onlyGivenNames x11
      clear_value (ex11 : x11 = _)
      refine Eff.have ex11 ((State.setEnc_eff ..).after hx3 rfl) fun hx11 => ?_
      refine Eff.ite ?_ ?_
      · extract_lets +onlyGivenNames v12
        clear_value v12
        extract_lets +onlyGivenNames x13
        clear_value (ex13 : x13 = _)
        refine Eff.have ex13 ((State.setEnc_eff ..).after hx11 rfl) fun hx13 => ?_
        extract_lets +onlyGivenNames x14
        clear_value (ex14 : x14 = _)
        refine Eff.have ex14 (Eff.wr (Eff.wr hx13 rfl (KeySet.any_fam _ rfl)) rfl (KeySet.any_fam _ rfl)) fun hx14 => ?_
        extract_lets +onlyGivenNames x15
        clear_value (ex15 : x15 = _)
        refine Eff.have ex15 ((State.raise_eff ..).after (Eff.inc hx14 rfl (KeySet.any_fam _ rfl)) rfl) fun hx15 => ?_
        exact Eff.ite (Eff.foldl (fun x16 _ hx16 => ((State.cmpSkip_eff ..).after hx16 rfl)) hx15) hx15
      · exact (State.indexMismatch_eff ..).after hx11 rfl

theorem execIndexPulse_eff (n : Nat) (s : State) {t : State} (h : execIndexPulse n s = .next t) :
    Eff (withSide [.clock, .wheel]) (sideAnd [.fam (K.encsChannelState 0) 4, .fam (K.encsIndexCorrections 0) 4, .fam
        (K.encsLastIndexDeviation 0) 4, .fam (K.encsMismatchCount 0) 4, .fam (K.encsRotary 0) 4, .fam (K.encsStatus 0) 4, .one
        K.fltFaultStatus, .one K.fltLastRetiredUnit, .one K.fltRetiredCount, .one K.whlActiveMaster, .one K.whlSwitchovers, .one
        K.whlWheelStatus]) s t := by
  unfold execIndexPulse at h
  exact Eff.to (inst_next h).2.symm ((indexPulse_eff ..).after Eff.refl rfl)

theorem linearPresetWrite_eff (a : Acc) (n : Nat) (s : State) :
    Eff (withSide [.wheel]) (accAnd [.fam (K.encsCountedPosition 0) 4, .fam (K.encsDirection 0) 4, .fam (K.encsHighWater 0) 4,
        .fam (K.encsLinearPreset 0) 4, .fam (K.encsPosition 0) 4, .fam (K.encsStatus 0) 4]) s (linearPresetWrite a n s) := by
  unfold linearPresetWrite
  exact Eff.act Eff.refl (fun y1 hy1 =>
      (by extract_lets +onlyGivenNames v2; clear_value v2; exact (by extract_lets +onlyGivenNames x3; clear_value (ex3 : x3 = _); exact Eff.have ex3 (Eff.wr hy1 rfl (KeySet.any_fam _ rfl)) fun hx3 => (by extract_lets +onlyGivenNames v4; clear_value v4; exact (by extract_lets +onlyGivenNames x5; clear_value (ex5 : x5 = _); exact Eff.have ex5 ((State.setEnc_eff ..).after hx3 rfl) fun hx5 => (by extract_lets +onlyGivenNames x6; clear_value (ex6 : x6 = _); exact Eff.have ex6 (Eff.wr (Eff.wr hx5 rfl (KeySet.any_fam _ rfl)) rfl (KeySet.any_fam _ rfl)) fun hx6 => ((State.crossFix_eff ..).after ((State.encTrack_eff ..).after hx6 rfl) rfl)))))))
      rfl

theorem execLinearPreset_eff (a : Acc) (n : Nat) (s : State) {t : State} (h : execLinearPreset a n s = .next t) :
    Eff (withSide [.wheel]) (accAnd [.fam (K.encsCountedPosition 0) 4, .fam (K.encsDirection 0) 4, .fam (K.encsHighWater 0) 4,
        .fam (K.encsLinearPreset 0) 4, .fam (K.encsPosition 0) 4, .fam (K.encsStatus 0) 4]) s t := by
  unfold execLinearPreset at h
  exact Eff.to (inst_next h).2.symm ((linearPresetWrite_eff ..).after Eff.refl rfl)

theorem popWrite_eff (a : Acc) (p : Nat) (s : State) :
    Eff (withSide [.wheel]) (accAnd [.fam (K.prbFill 0) 8, .fam (K.prbHeadEdge 0) 8, .fam (K.prbHeadPosition 0) 8, .fam
        (K.prbHeadRotary 0) 8, .fam (K.prbHeadTime 0) 8]) s (popWrite a p s) := by
  unfold popWrite
  exact Eff.act Eff.refl (fun y1 hy1 => (Eff.ite ((State.setProbe_eff ..).after hy1 rfl) hy1)) rfl

theorem execPop_eff (a : Acc) (p : Nat) (s : State) {t : State} (h : execPop a p s = .next t) :
    Eff (withSide [.wheel]) (accAnd [.fam (K.prbFill 0) 8, .fam (K.prbHeadEdge 0) 8, .fam (K.prbHeadPosition 0) 8, .fam
        (K.prbHeadRotary 0) 8, .fam (K.prbHeadTime 0) 8]) s t := by
  unfold execPop at h
  exact Eff.to (inst_next h).2.symm ((popWrite_eff ..).after Eff.refl rfl)

theorem probeEdge_eff (p : Nat) (rising : Bool) (s : State) :
    Eff (withSide [.wheel]) (sideAnd [.fam (K.prbFill 0) 8, .fam (K.prbHeadEdge 0) 8, .fam (K.prbHeadPosition 0) 8, .fam
        (K.prbHeadRotary 0) 8, .fam (K.prbHeadTime 0) 8, .fam (K.prbOverflows 0) 8]) s (probeEdge p rising s) := by
  unfold probeEdge
  extract_lets +onlyGivenNames v1
  clear_value v1
  refine Eff.ite ?_ ?_
  · exact Eff.refl
  · refine Eff.ite ?_ ?_
    · exact (State.raise_eff ..).after (Eff.arrive (Eff.inc Eff.refl rfl (KeySet.any_fam _ rfl)) rfl) rfl
    · extract_lets +onlyGivenNames v2
      clear_value v2
      exact (State.raise_eff ..).after (Eff.arrive ((State.setProbe_eff ..).after Eff.refl rfl) rfl) rfl

theorem execProbeEdge_eff (p : Nat) (rising : Bool) (s : State) {t : State} (h : execProbeEdge p rising s = .next t) :
    Eff (withSide [.wheel]) (sideAnd [.fam (K.prbFill 0) 8, .fam (K.prbHeadEdge 0) 8, .fam (K.prbHeadPosition 0) 8, .fam
        (K.prbHeadRotary 0) 8, .fam (K.prbHeadTime 0) 8, .fam (K.prbOverflows 0) 8]) s t := by
  unfold execProbeEdge at h
  exact Eff.to (inst_next h).2.symm ((probeEdge_eff ..).after Eff.refl rfl)

theorem probeFlushWrite_eff (a : Acc) (p : Nat) (s : State) :
    Eff (withSide [.wheel]) (accAnd [.fam (K.prbFill 0) 8, .fam (K.prbHeadEdge 0) 8, .fam (K.prbHeadPosition 0) 8, .fam
        (K.prbHeadRotary 0) 8, .fam (K.prbHeadTime 0) 8]) s (probeFlushWrite a p s) := by
  unfold probeFlushWrite
  exact Eff.act Eff.refl (fun y1 hy1 => (Eff.ite ((State.setProbe_eff ..).after hy1 rfl) hy1)) rfl

theorem execProbeFlush_eff (a : Acc) (p : Nat) (s : State) {t : State} (h : execProbeFlush a p s = .next t) :
    Eff (withSide [.wheel]) (accAnd [.fam (K.prbFill 0) 8, .fam (K.prbHeadEdge 0) 8, .fam (K.prbHeadPosition 0) 8, .fam
        (K.prbHeadRotary 0) 8, .fam (K.prbHeadTime 0) 8]) s t := by
  unfold execProbeFlush at h
  exact Eff.to (inst_next h).2.symm ((probeFlushWrite_eff ..).after Eff.refl rfl)

theorem rotaryPresetWrite_eff (a : Acc) (n : Nat) (s : State) :
    Eff sideParts (accAnd [.fam (K.encsRotary 0) 4, .fam (K.encsRotaryPreset 0) 4]) s (rotaryPresetWrite a n s) := by
  unfold rotaryPresetWrite
  extract_lets +onlyGivenNames v1
  clear_value v1
  exact Eff.act Eff.refl (fun y2 hy2 => (Eff.wr (Eff.wr hy2 rfl (KeySet.any_fam _ rfl)) rfl (KeySet.any_fam _ rfl))) rfl

theorem execRotaryPreset_eff (a : Acc) (n : Nat) (s : State) {t : State} (h : execRotaryPreset a n s = .next t) :
    Eff sideParts (accAnd [.fam (K.encsRotary 0) 4, .fam (K.encsRotaryPreset 0) 4]) s t := by
  unfold execRotaryPreset at h
  exact Eff.to (inst_next h).2.symm ((rotaryPresetWrite_eff ..).after Eff.refl rfl)

theorem serialFrame_eff (n : Nat) (f : SerialFrame) (s : State) :
    Eff (withSide [.pins, .wheel]) (sideAnd [.fam (K.encsChannelState 0) 4, .fam (K.encsCountedPosition 0) 4, .fam
        (K.encsDirection 0) 4, .fam (K.encsErrorCount 0) 4, .fam (K.encsHighWater 0) 4, .fam (K.encsMismatchCount 0) 4, .fam
        (K.encsPosition 0) 4, .fam (K.encsRotary 0) 4, .fam (K.encsSpeed 0) 4, .fam (K.encsStatus 0) 4, .fam (K.mirEmuLag 0) 4,
        .fam (K.mirMirrorStatus 0) 4, .one K.fltFaultStatus, .one K.fltLastRetiredUnit, .one K.fltRetiredCount, .one
        K.fltTransientCount, .one K.whlActiveMaster, .one K.whlSwitchovers, .one K.whlWheelStatus]) s (serialFrame n f s) := by
  unfold serialFrame
  extract_lets +onlyGivenNames v1
  clear_value v1
  split
  · exact Eff.refl
  · refine Eff.ite ?_ ?_
    · exact Eff.refl
    · extract_lets +onlyGivenNames x2
      clear_value (ex2 : x2 = _)
      refine Eff.have ex2 ((State.setEnc_eff ..).after Eff.refl rfl) fun hx2 => ?_
      refine Eff.ite ?_ ?_
      · exact (State.encFault_eff ..).after hx2 rfl
      · extract_lets +onlyGivenNames x3
        clear_value (ex3 : x3 = _)
        refine Eff.have ex3 (Eff.ite (Eff.flag hx2 rfl (KeySet.any_fam _ rfl)) hx2) fun hx3 => ?_
        extract_lets +onlyGivenNames v4
        clear_value v4
        extract_lets +onlyGivenNames v5
        clear_value v5
        extract_lets +onlyGivenNames v6
        clear_value v6
        extract_lets +onlyGivenNames x7
        clear_value (ex7 : x7 = _)
        refine Eff.have ex7 ((State.setEnc_eff ..).after hx3 rfl) fun hx7 => ?_
        split
        · exact hx7
        · extract_lets +onlyGivenNames v8
          clear_value v8
          exact Eff.ite ((State.encHold_eff ..).after ((State.setEnc_eff ..).after hx7 rfl) rfl) ((State.encCount_eff ..).after
              hx7 rfl)

theorem execSerialFrame_eff (n : Nat) (f : SerialFrame) (s : State) {t : State} (h : execSerialFrame n f s = .next t) :
    Eff (withSide [.device, .boot, .pins, .wheel]) (sideAnd [.fam (K.encsChannelState 0) 4, .fam (K.encsCountedPosition 0) 4, .fam
        (K.encsDirection 0) 4, .fam (K.encsErrorCount 0) 4, .fam (K.encsHighWater 0) 4, .fam (K.encsMismatchCount 0) 4, .fam
        (K.encsPosition 0) 4, .fam (K.encsRotary 0) 4, .fam (K.encsSpeed 0) 4, .fam (K.encsStatus 0) 4, .fam (K.mirEmuLag 0) 4,
        .fam (K.mirMirrorStatus 0) 4, .one K.devDeviceState, .one K.devStateChanges, .one K.devStateTime, .one K.fltFaultStatus,
        .one K.fltLastRetiredUnit, .one K.fltRetiredCount, .one K.fltTransientCount, .one K.pwrPowerPhase, .one K.pwrWakeCause,
        .one K.whlActiveMaster, .one K.whlSwitchovers, .one K.whlWheelStatus]) s t := by
  unfold execSerialFrame at h
  exact Eff.to (inst_next h).2.symm ((State.wakeOnLevel_eff ..).after ((serialFrame_eff ..).after Eff.refl rfl) rfl)

theorem serialFrameStart_eff (n : Nat) (s : State) :
    Eff [.clock, .wheel] [] s (serialFrameStart n s) := by
  unfold serialFrameStart
  extract_lets +onlyGivenNames v1
  clear_value v1
  refine Eff.ite ?_ ?_
  · exact Eff.refl
  · extract_lets +onlyGivenNames v2
    clear_value v2
    extract_lets +onlyGivenNames x3
    clear_value (ex3 : x3 = _)
    refine Eff.have ex3 ((State.at_eff ..).after Eff.refl rfl) fun hx3 => ?_
    exact (State.setEnc_eff ..).after hx3 rfl

theorem execSerialFrameStart_eff (n : Nat) (s : State) {t : State} (h : execSerialFrameStart n s = .next t) :
    Eff [.clock, .wheel] [] s t := by
  unfold execSerialFrameStart at h
  exact Eff.to (inst_next h).2.symm ((serialFrameStart_eff ..).after Eff.refl rfl)

theorem stallTimeout_eff (n : Nat) (s : State) :
    Eff [.clock, .regs, .wheel] [.fam (K.encsCountedPosition 0) 4, .fam (K.encsSpeed 0) 4] s (stallTimeout n s) := by
  unfold stallTimeout
  extract_lets +onlyGivenNames v1
  clear_value v1
  split
  · exact Eff.refl
  · refine Eff.ite ?_ ?_
    · exact Eff.refl
    · extract_lets +onlyGivenNames x2
      clear_value (ex2 : x2 = _)
      refine Eff.have ex2 ((State.at_eff ..).after Eff.refl rfl) fun hx2 => ?_
      exact (State.encShow_eff ..).after ((State.setEnc_eff ..).after hx2 rfl) rfl

theorem execStallTimeout_eff (n : Nat) (s : State) {t : State} (h : execStallTimeout n s = .next t) :
    Eff [.clock, .regs, .wheel] [.fam (K.encsCountedPosition 0) 4, .fam (K.encsSpeed 0) 4] s t := by
  unfold execStallTimeout at h
  exact Eff.to (inst_next h).2.symm ((stallTimeout_eff ..).after Eff.refl rfl)

theorem wheelReadmitWrite_eff (a : Acc) (n : Nat) (s : State) :
    Eff (withSide [.wheel]) (accAnd [.fam (K.encsChannelState 0) 4, .one K.fltRetiredCount]) s (wheelReadmitWrite a n s) := by
  unfold wheelReadmitWrite
  exact Eff.act Eff.refl (fun y1 hy1 => (Eff.ite
      (by extract_lets +onlyGivenNames x2; clear_value (ex2 : x2 = _); exact Eff.have ex2 ((State.readmit_eff ..).after ((State.encStart_eff ..).after hy1 rfl) rfl) fun hx2 => (Eff.ite (Eff.wr hx2 rfl (KeySet.any_fam _ rfl)) hx2))
      hy1)) rfl

theorem execWheelReadmit_eff (a : Acc) (n : Nat) (s : State) {t : State} (h : execWheelReadmit a n s = .next t) :
    Eff (withSide [.wheel]) (accAnd [.fam (K.encsChannelState 0) 4, .one K.fltRetiredCount]) s t := by
  unfold execWheelReadmit at h
  exact Eff.to (inst_next h).2.symm ((wheelReadmitWrite_eff ..).after Eff.refl rfl)

end Sys2Proof.Machine
end

