-- ==== Sys2Proof/Laws/Run.lean ====
section
/-! SUPPORT. What each operation of Machine/Run.lean may change. -/

-- The proofs of this file are checked one after another, in one thread.
set_option Elab.async false

namespace Sys2Proof.Machine

theorem State.flushBar_eff (s : State) (b : Nat) (ports : List Nat) :
    Eff [.slip, .kiln] [] s (State.flushBar s b ports) := by
  unfold State.flushBar
  extract_lets +onlyGivenNames v1
  clear_value v1
  extract_lets +onlyGivenNames v2
  clear_value v2
  extract_lets +onlyGivenNames x3
  clear_value (ex3 : x3 = _)
  refine Eff.have ex3 (Eff.foldl (fun x4 _ hx4 => ((State.setPort_eff ..).after hx4 rfl)) Eff.refl) fun hx3 => ?_
  extract_lets +onlyGivenNames v5
  clear_value v5
  extract_lets +onlyGivenNames x6
  clear_value (ex6 : x6 = _)
  refine Eff.have ex6 ((State.setBar_eff ..).after hx3 rfl) fun hx6 => ?_
  exact Eff.foldl (fun x7 _ hx7 => ((State.dropMissed_eff ..).after hx7 rfl)) hx6

theorem State.genAnchor_eff (a1 : State) (s : State) (g : Nat) :
    Eff [.wheel] [] s (State.genAnchor a1 s g) := by
  unfold State.genAnchor
  extract_lets +onlyGivenNames v1
  clear_value v1
  extract_lets +onlyGivenNames v2
  clear_value v2
  refine Eff.ite ?_ ?_
  · exact (State.setGen_eff ..).after Eff.refl rfl
  · extract_lets +onlyGivenNames v3
    clear_value v3
    exact (State.setGen_eff ..).after Eff.refl rfl

theorem State.barResume_eff (s : State) (b : Nat) (k : Nat) :
    Eff [.slip] [] s (State.barResume s b k) := by
  unfold State.barResume
  extract_lets +onlyGivenNames v1
  clear_value v1
  extract_lets +onlyGivenNames v2
  clear_value v2
  extract_lets +onlyGivenNames v3
  clear_value v3
  split
  · exact (State.setBar_eff ..).after Eff.refl rfl
  · exact (State.setBar_eff ..).after Eff.refl rfl

theorem State.genApply_eff (a1 : State) (s : State) (g : Nat) :
    Eff [.wheel, .slip, .kiln] [] s (State.genApply a1 s g) := by
  unfold State.genApply
  extract_lets +onlyGivenNames v1
  clear_value v1
  refine Eff.ite ?_ ?_
  · exact Eff.refl
  · refine Eff.ite ?_ ?_
    · extract_lets +onlyGivenNames v2
      clear_value v2
      extract_lets +onlyGivenNames x3
      clear_value (ex3 : x3 = _)
      refine Eff.have ex3 ((State.setGen_eff ..).after Eff.refl rfl) fun hx3 => ?_
      exact Eff.ite hx3 ((State.flushBar_eff ..).after ((State.setBar_eff ..).after hx3 rfl) rfl)
    · refine Eff.ite ?_ ?_
      · exact (State.genAnchor_eff ..).after Eff.refl rfl
      · extract_lets +onlyGivenNames v4
        clear_value v4
        extract_lets +onlyGivenNames v5
        clear_value v5
        extract_lets +onlyGivenNames x6
        clear_value (ex6 : x6 = _)
        refine Eff.have ex6 ((State.setGen_eff ..).after Eff.refl rfl) fun hx6 => ?_
        exact Eff.ite hx6 ((State.barResume_eff ..).after hx6 rfl)

theorem State.seamRunStart_eff (s : State) :
    Eff (withSide [.out, .mem, .memory, .prism, .seam]) (sideAnd [.fam (K.ethsFramesOut 0) 2, .fam (K.ethsPortStatus 0) 2, .fam
        (K.ethsViewDrops 0) 2, .fam (K.portBytesWritten 0) 12, .fam (K.qsFill 0) 64, .fam (K.qsFillPeak 0) 64, .fam (K.qsItemsIn
        0) 64, .fam (K.qsNoCreditCount 0) 64, .fam (K.qsQueueStatus 0) 64, .fam (K.viewsFrames 0) 8, .one K.dramLastMapError, .one
        K.dramMapErrors, .one K.dramMemStatus, .one K.quesSizeErrors]) s (State.seamRunStart s) := by
  unfold State.seamRunStart
  extract_lets +onlyGivenNames x1
  clear_value (ex1 : x1 = _)
  refine Eff.have ex1 (Eff.upd_ctxs_seam_coding Eff.refl rfl) fun hx1 => ?_
  extract_lets +onlyGivenNames x2
  clear_value (ex2 : x2 = _)
  refine Eff.have ex2 (Eff.upd_wins hx1 rfl) fun hx2 => ?_
  exact Eff.foldl (fun x3 _ hx3 => ((State.viewReset_eff ..).after ((State.viewClose_eff ..).after hx3 rfl) rfl)) hx2

theorem camRunBegin_eff (s : State) (n : Nat) :
    Eff (withSide [.memory, .cameras, .prism]) (sideAnd [.fam (K.ctxsReplayNext 0) 12, .fam (K.qsFill 0) 64, .fam (K.qsFillPeak 0)
        64, .fam (K.qsItemsIn 0) 64, .fam (K.qsNoCreditCount 0) 64, .fam (K.qsQueueStatus 0) 64, .one K.quesSizeErrors, .one
        K.seamsRecordsLost, .one K.seamsStatus]) s (camRunBegin s n) := by
  unfold camRunBegin
  extract_lets +onlyGivenNames x1
  clear_value (ex1 : x1 = _)
  refine Eff.have ex1 (Eff.foldl (fun x2 _ hx2 => ((bandRecord_eff ..).after hx2 rfl)) Eff.refl) fun hx1 => ?_
  extract_lets +onlyGivenNames x3
  clear_value (ex3 : x3 = _)
  refine Eff.have ex3 ((State.camRunStart_eff ..).after hx1 rfl) fun hx3 => ?_
  exact (State.replayRestart_eff ..).after ((State.setCam_eff ..).after hx3 rfl) rfl

theorem genStart_eff (s : State) (g : Nat) :
    Eff [.wheel] [] s (genStart s g) := by
  unfold genStart
  exact Eff.ite ((State.setGen_eff ..).after Eff.refl rfl) ((State.setGen_eff ..).after Eff.refl rfl)

theorem State.startRun_eff (s : State) (origin : Int) :
    Eff (withSide [.device, .out, .mem, .memory, .wheel, .cameras, .prism, .seam, .slip, .umbra, .loop]) (sideAnd (joinKeys [.fam
        (K.ctxsReplayNext 0) 12, .fam (K.ethsFramesOut 0) 2, .fam (K.ethsPortStatus 0) 2, .fam (K.ethsViewDrops 0) 2, .fam
        (K.lslotFreshW 0) 8, .fam (K.portBytesWritten 0) 12, .fam (K.qsFill 0) 64, .fam (K.qsFillPeak 0) 64, .fam (K.qsItemsIn 0)
        64, .fam (K.qsNoCreditCount 0) 64, .fam (K.qsQueueStatus 0) 64, .fam (K.viewsFrames 0) 8, .one K.devDeviceState, .one
        K.devStateChanges, .one K.devStateTime, .one K.dramLastMapError, .one K.dramMapErrors, .one K.dramMemStatus, .one
        K.loopsWindow, .one K.quesSizeErrors, .one K.seamsRecordsLost, .one K.seamsStatus, .one K.slipJobState, .one
        K.slipRingFront] [.one K.umbsWarmup, .one K.whlOrigin])) s (State.startRun s origin) := by
  unfold State.startRun
  extract_lets +onlyGivenNames x1
  clear_value (ex1 : x1 = _)
  refine Eff.have ex1 ((State.seamRunStart_eff ..).after ((State.enter_eff ..).after (Eff.wr Eff.refl rfl rfl) rfl) rfl) fun hx1
      => ?_
  extract_lets +onlyGivenNames x2
  clear_value (ex2 : x2 = _)
  refine Eff.have ex2 (Eff.foldl (fun x3 _ hx3 => ((camRunBegin_eff ..).after hx3 rfl)) hx1) fun hx2 => ?_
  extract_lets +onlyGivenNames v4
  clear_value v4
  extract_lets +onlyGivenNames x5
  clear_value (ex5 : x5 = _)
  refine Eff.have ex5 (Eff.foldl (fun x6 _ hx6 => ((genStart_eff ..).after hx6 rfl)) (Eff.upd_wheel_trigs hx2 rfl)) fun hx5 => ?_
  exact (State.loopRunStart_eff ..).after ((State.umbRunStart_eff ..).after ((State.slipRun_eff ..).after hx5 rfl) rfl) rfl

theorem portQueueFlushWrite_eff (a : Acc) (s : State) :
    Eff (withSide [.slip, .kiln]) (accAnd []) s (portQueueFlushWrite a s) := by
  unfold portQueueFlushWrite
  exact Eff.act Eff.refl (fun y1 hy1 =>
      (by extract_lets +onlyGivenNames v2; clear_value v2; exact (by extract_lets +onlyGivenNames v3; clear_value v3; exact (by extract_lets +onlyGivenNames x4; clear_value (ex4 : x4 = _); exact Eff.have ex4 (Eff.foldl (fun x5 _ hx5 => ((State.flushBar_eff ..).after hx5 rfl)) hy1) fun hx4 => (Eff.foldl (fun x6 _ hx6 => ((State.setPort_eff ..).after hx6 rfl)) hx4)))))
      rfl

theorem execPortQueueFlush_eff (a : Acc) (s : State) {t : State} (h : execPortQueueFlush a s = .next t) :
    Eff (withSide [.slip, .kiln]) (accAnd []) s t := by
  unfold execPortQueueFlush at h
  cases h
  exact (portQueueFlushWrite_eff ..).after Eff.refl rfl

end Sys2Proof.Machine
end

