-- ==== Sys2Proof/Laws/Triggers.lean ====
section
/-! SUPPORT. What each operation of Machine/Triggers.lean may change. -/

-- The proofs of this file are checked one after another, in one thread.
set_option Elab.async false

namespace Sys2Proof.Machine

theorem State.cmpApply_eff (a1 : State) (s : State) (m : Nat) :
    Eff [.regs, .pins, .wheel] [.fam (K.cmpQueueFill 0) 16, .fam (K.cmpValue 0) 16] s (State.cmpApply a1 s m) := by
  unfold State.cmpApply
  extract_lets +onlyGivenNames v1
  clear_value v1
  extract_lets +onlyGivenNames v2
  extract_lets +onlyGivenNames v3
  clear_value v3
  extract_lets +onlyGivenNames v4
  clear_value v4
  exact (State.refreshPins_eff ..).after ((State.cmpWrap_eff ..).after (Eff.wr ((State.setCmp_eff ..).after Eff.refl rfl) rfl
      (KeySet.any_fam _ rfl)) rfl) rfl

theorem State.cmpNext_eff (s : State) (m : Nat) :
    Eff [.regs, .wheel] [.fam (K.cmpQueueFill 0) 16, .fam (K.cmpValue 0) 16] s (State.cmpNext s m) := by
  unfold State.cmpNext
  extract_lets +onlyGivenNames v1
  clear_value v1
  refine Eff.ite ?_ ?_
  · extract_lets +onlyGivenNames v2
    clear_value v2
    exact Eff.wr ((State.setCmp_eff ..).after Eff.refl rfl) rfl (KeySet.any_fam _ rfl)
  · extract_lets +onlyGivenNames v3
    clear_value v3
    refine Eff.ite ?_ ?_
    · exact (State.setCmp_eff ..).after Eff.refl rfl
    · extract_lets +onlyGivenNames v4
      clear_value v4
      extract_lets +onlyGivenNames v5
      clear_value v5
      exact (State.setCmp_eff ..).after (Eff.wr Eff.refl rfl (KeySet.any_fam _ rfl)) rfl

theorem State.cmpFire_eff (s : State) (m : Nat) :
    Eff (withSide [.device, .out, .mem, .pins, .memory, .wheel, .cameras, .prism, .seam, .slip, .umbra, .loop]) (sideAnd (joinKeys
        [.fam (K.cmpFired 0) 16, .fam (K.cmpLastFire 0) 16, .fam (K.cmpQueueFill 0) 16, .fam (K.cmpValue 0) 16, .fam
        (K.ctxsReplayNext 0) 12, .fam (K.ethsFramesOut 0) 2, .fam (K.ethsPortStatus 0) 2, .fam (K.ethsViewDrops 0) 2, .fam
        (K.lslotFreshW 0) 8, .fam (K.portBytesWritten 0) 12, .fam (K.qsFill 0) 64, .fam (K.qsFillPeak 0) 64, .fam (K.qsItemsIn 0)
        64, .fam (K.qsNoCreditCount 0) 64, .fam (K.qsQueueStatus 0) 64, .fam (K.viewsFrames 0) 8, .one K.devDeviceState, .one
        K.devStateChanges, .one K.devStateTime, .one K.dramLastMapError, .one K.dramMapErrors, .one K.dramMemStatus, .one
        K.loopsWindow, .one K.quesSizeErrors] [.one K.seamsRecordsLost, .one K.seamsStatus, .one K.slipJobState, .one
        K.slipRingFront, .one K.umbsWarmup, .one K.whlOrigin])) s (State.cmpFire s m) := by
  unfold State.cmpFire
  extract_lets +onlyGivenNames v1
  clear_value v1
  extract_lets +onlyGivenNames x2
  clear_value (ex2 : x2 = _)
  refine Eff.have ex2 (Eff.wr (Eff.inc Eff.refl rfl (KeySet.any_fam _ rfl)) rfl (KeySet.any_fam _ rfl)) fun hx2 => ?_
  extract_lets +onlyGivenNames x3
  clear_value (ex3 : x3 = _)
  refine Eff.have ex3 ((State.raise_eff ..).after hx2 rfl) fun hx3 => ?_
  extract_lets +onlyGivenNames v4
  clear_value v4
  extract_lets +onlyGivenNames v5
  clear_value v5
  extract_lets +onlyGivenNames v6
  clear_value v6
  extract_lets +onlyGivenNames x7
  clear_value (ex7 : x7 = _)
  refine Eff.have ex7 (Eff.ite ((State.refreshPin_eff ..).after ((State.setCmp_eff ..).after hx3 rfl) rfl) hx3) fun hx7 => ?_
  extract_lets +onlyGivenNames x8
  clear_value (ex8 : x8 = _)
  refine Eff.have ex8 ((State.cmpNext_eff ..).after hx7 rfl) fun hx8 => ?_
  exact Eff.ite ((State.startRun_eff ..).after hx8 rfl) hx8

theorem State.cmpFlag_eff (s : State) (m : Nat) (bit : Nat) :
    Eff sideParts (sideAnd [.fam (K.cmpCmpStatus 0) 16]) s (State.cmpFlag s m bit) := by
  unfold State.cmpFlag
  exact (State.raise_eff ..).after (Eff.flag Eff.refl rfl (KeySet.any_fam _ rfl)) rfl

theorem State.cmpCheck_eff (s : State) (m : Nat) :
    Eff (withSide [.clock, .device, .out, .mem, .pins, .memory, .wheel, .cameras, .prism, .seam, .slip, .umbra, .loop]) (sideAnd
        (joinKeys [.fam (K.cmpCmpStatus 0) 16, .fam (K.cmpFired 0) 16, .fam (K.cmpLastFire 0) 16, .fam (K.cmpQueueFill 0) 16, .fam
        (K.cmpValue 0) 16, .fam (K.ctxsReplayNext 0) 12, .fam (K.ethsFramesOut 0) 2, .fam (K.ethsPortStatus 0) 2, .fam
        (K.ethsViewDrops 0) 2, .fam (K.lslotFreshW 0) 8, .fam (K.portBytesWritten 0) 12, .fam (K.qsFill 0) 64, .fam (K.qsFillPeak
        0) 64, .fam (K.qsItemsIn 0) 64, .fam (K.qsNoCreditCount 0) 64, .fam (K.qsQueueStatus 0) 64, .fam (K.viewsFrames 0) 8, .one
        K.devDeviceState, .one K.devStateChanges, .one K.devStateTime, .one K.dramLastMapError, .one K.dramMapErrors, .one
        K.dramMemStatus, .one K.loopsWindow] [.one K.quesSizeErrors, .one K.seamsRecordsLost, .one K.seamsStatus, .one
        K.slipJobState, .one K.slipRingFront, .one K.umbsWarmup, .one K.whlOrigin])) s (State.cmpCheck s m) := by
  unfold State.cmpCheck
  extract_lets +onlyGivenNames x1
  clear_value (ex1 : x1 = _)
  refine Eff.have ex1 ((State.at_eff ..).after Eff.refl rfl) fun hx1 => ?_
  exact Eff.ite ((State.cmpFire_eff ..).after hx1 rfl) (Eff.ite ((State.setCmp_eff ..).after hx1 rfl) (Eff.ite ((State.cmpFire_eff
      ..).after ((State.cmpFlag_eff ..).after hx1 rfl) rfl) ((State.cmpFlag_eff ..).after ((State.setCmp_eff ..).after hx1 rfl)
      rfl)))

theorem State.genEmit_eff (s : State) (g : Nat) (k : Int) :
    Eff (withSide [.wheel, .cameras]) (sideAnd [.fam (K.camstBandIndex 0) 12, .fam (K.camstCameraGeneration 0) 12, .fam
        (K.camstLinesDropped 0) 12, .fam (K.cgenLastTrigger 0) 12, .fam (K.cgenLineIndex 0) 12, .fam (K.cgenTrigCount 0) 12, .fam
        (K.rgenLastTrigger 0) 16, .fam (K.rgenLineIndex 0) 16, .fam (K.rgenTrigCount 0) 16]) s (State.genEmit s g k) := by
  unfold State.genEmit
  extract_lets +onlyGivenNames v1
  clear_value v1
  extract_lets +onlyGivenNames x2
  clear_value (ex2 : x2 = _)
  refine Eff.have ex2 (Eff.wr (Eff.wr Eff.refl rfl (KeySet.any_gen rfl rfl)) rfl (KeySet.any_gen rfl rfl)) fun hx2 => ?_
  extract_lets +onlyGivenNames x3
  clear_value (ex3 : x3 = _)
  refine Eff.have ex3 (Eff.inc hx2 rfl (KeySet.any_gen rfl rfl)) fun hx3 => ?_
  extract_lets +onlyGivenNames v4
  clear_value v4
  extract_lets +onlyGivenNames x5
  clear_value (ex5 : x5 = _)
  refine Eff.have ex5 (Eff.upd_trigs hx3 rfl) fun hx5 => ?_
  extract_lets +onlyGivenNames x6
  clear_value (ex6 : x6 = _)
  refine Eff.have ex6 ((State.raiseAt_eff ..).after hx5 rfl) fun hx6 => ?_
  extract_lets +onlyGivenNames x7
  clear_value (ex7 : x7 = _)
  refine Eff.have ex7 (Eff.ite ((State.genRaised_eff ..).after hx6 rfl) hx6) fun hx7 => ?_
  exact (State.setGen_eff ..).after hx7 rfl

theorem State.genLate_eff (s : State) (g : Nat) :
    Eff sideParts (sideAnd [.fam (K.cgenLateCount 0) 12, .fam (K.rgenLateCount 0) 16]) s (State.genLate s g) := by
  unfold State.genLate
  exact Eff.arrive (Eff.inc Eff.refl rfl (KeySet.any_gen rfl rfl)) rfl

theorem State.genReach_eff (s : State) (g : Nat) :
    Eff (withSide [.clock, .wheel, .cameras]) (sideAnd [.fam (K.camstBandIndex 0) 12, .fam (K.camstCameraGeneration 0) 12, .fam
        (K.camstLinesDropped 0) 12, .fam (K.cgenBunchCount 0) 12, .fam (K.cgenLastTrigger 0) 12, .fam (K.cgenLateCount 0) 12, .fam
        (K.cgenLineIndex 0) 12, .fam (K.cgenTrigCount 0) 12, .fam (K.rgenBunchCount 0) 16, .fam (K.rgenLastTrigger 0) 16, .fam
        (K.rgenLateCount 0) 16, .fam (K.rgenLineIndex 0) 16, .fam (K.rgenTrigCount 0) 16]) s (State.genReach s g) := by
  unfold State.genReach
  extract_lets +onlyGivenNames v1
  clear_value v1
  extract_lets +onlyGivenNames v2
  clear_value v2
  extract_lets +onlyGivenNames x3
  clear_value (ex3 : x3 = _)
  refine Eff.have ex3 (by split; exact (Eff.ite (Eff.inc ((State.at_eff ..).after Eff.refl rfl) rfl (KeySet.any_gen rfl rfl)) Eff.refl); exact Eff.refl)
      fun hx3 => ?_
  extract_lets +onlyGivenNames x4
  clear_value (ex4 : x4 = _)
  refine Eff.have ex4 (by split; exact (Eff.ite ((State.genLate_eff ..).after hx3 rfl) hx3); exact hx3) fun hx4 => ?_
  extract_lets +onlyGivenNames x5
  clear_value (ex5 : x5 = _)
  refine Eff.have ex5 ((State.setGen_eff ..).after hx4 rfl) fun hx5 => ?_
  split
  · exact Eff.ite ((State.genLate_eff ..).after ((State.setGen_eff ..).after hx5 rfl) rfl) ((State.genEmit_eff ..).after hx5 rfl)
  · exact (State.genEmit_eff ..).after hx5 rfl

theorem State.takePos_eff (s : State) (l : List Nat) (node : Nat) :
    Eff [.regs, .wheel] [.one K.remRemoteHolds, .one K.remRemoteNode] s (State.takePos s l node) := by
  unfold State.takePos
  extract_lets +onlyGivenNames v1
  clear_value v1
  extract_lets +onlyGivenNames v2
  clear_value v2
  extract_lets +onlyGivenNames x3
  clear_value (ex3 : x3 = _)
  refine Eff.have ex3 (Eff.upd_wheel Eff.refl rfl) fun hx3 => ?_
  extract_lets +onlyGivenNames x4
  clear_value (ex4 : x4 = _)
  refine Eff.have ex4 (Eff.wr hx3 rfl rfl) fun hx4 => ?_
  refine Eff.ite ?_ ?_
  · extract_lets +onlyGivenNames x5
    clear_value (ex5 : x5 = _)
    refine Eff.have ex5 (Eff.inc hx4 rfl rfl) fun hx5 => ?_
    exact Eff.upd_wheel hx5 rfl
  · exact hx4

theorem compareFire_eff (m : Nat) (s : State) :
    Eff (withSide [.clock, .device, .out, .mem, .pins, .memory, .wheel, .cameras, .prism, .seam, .slip, .umbra, .loop]) (sideAnd
        (joinKeys [.fam (K.cmpCmpStatus 0) 16, .fam (K.cmpFired 0) 16, .fam (K.cmpLastFire 0) 16, .fam (K.cmpQueueFill 0) 16, .fam
        (K.cmpValue 0) 16, .fam (K.ctxsReplayNext 0) 12, .fam (K.ethsFramesOut 0) 2, .fam (K.ethsPortStatus 0) 2, .fam
        (K.ethsViewDrops 0) 2, .fam (K.lslotFreshW 0) 8, .fam (K.portBytesWritten 0) 12, .fam (K.qsFill 0) 64, .fam (K.qsFillPeak
        0) 64, .fam (K.qsItemsIn 0) 64, .fam (K.qsNoCreditCount 0) 64, .fam (K.qsQueueStatus 0) 64, .fam (K.viewsFrames 0) 8, .one
        K.devDeviceState, .one K.devStateChanges, .one K.devStateTime, .one K.dramLastMapError, .one K.dramMapErrors, .one
        K.dramMemStatus, .one K.loopsWindow] [.one K.quesSizeErrors, .one K.seamsRecordsLost, .one K.seamsStatus, .one
        K.slipJobState, .one K.slipRingFront, .one K.umbsWarmup, .one K.whlOrigin])) s (compareFire m s) := by
  unfold compareFire
  extract_lets +onlyGivenNames v1
  clear_value v1
  refine Eff.ite ?_ ?_
  · exact Eff.refl
  · refine Eff.ite ?_ ?_
    · extract_lets +onlyGivenNames x2
      clear_value (ex2 : x2 = _)
      refine Eff.have ex2 ((State.at_eff ..).after Eff.refl rfl) fun hx2 => ?_
      exact (State.cmpFire_eff ..).after ((State.setCmp_eff ..).after hx2 rfl) rfl
    · split
      · exact Eff.refl
      · exact (State.cmpCheck_eff ..).after Eff.refl rfl
      · exact Eff.ite ((State.cmpFire_eff ..).after Eff.refl rfl) Eff.refl

theorem comparePulseEnd_eff (m : Nat) (s : State) :
    Eff [.clock, .pins, .wheel] [] s (comparePulseEnd m s) := by
  unfold comparePulseEnd
  split
  · exact Eff.refl
  · exact (State.refreshPin_eff ..).after ((State.setCmp_eff ..).after ((State.at_eff ..).after Eff.refl rfl) rfl) rfl

theorem execCompareFire_eff (m : Nat) (s : State) {t : State} (h : execCompareFire m s = .next t) :
    Eff (withSide [.clock, .device, .out, .mem, .pins, .memory, .wheel, .cameras, .prism, .seam, .slip, .umbra, .loop]) (sideAnd
        (joinKeys [.fam (K.cmpCmpStatus 0) 16, .fam (K.cmpFired 0) 16, .fam (K.cmpLastFire 0) 16, .fam (K.cmpQueueFill 0) 16, .fam
        (K.cmpValue 0) 16, .fam (K.ctxsReplayNext 0) 12, .fam (K.ethsFramesOut 0) 2, .fam (K.ethsPortStatus 0) 2, .fam
        (K.ethsViewDrops 0) 2, .fam (K.lslotFreshW 0) 8, .fam (K.portBytesWritten 0) 12, .fam (K.qsFill 0) 64, .fam (K.qsFillPeak
        0) 64, .fam (K.qsItemsIn 0) 64, .fam (K.qsNoCreditCount 0) 64, .fam (K.qsQueueStatus 0) 64, .fam (K.viewsFrames 0) 8, .one
        K.devDeviceState, .one K.devStateChanges, .one K.devStateTime, .one K.dramLastMapError, .one K.dramMapErrors, .one
        K.dramMemStatus, .one K.loopsWindow] [.one K.quesSizeErrors, .one K.seamsRecordsLost, .one K.seamsStatus, .one
        K.slipJobState, .one K.slipRingFront, .one K.umbsWarmup, .one K.whlOrigin])) s t := by
  unfold execCompareFire at h
  exact Eff.to (inst_next h).2.symm ((compareFire_eff ..).after Eff.refl rfl)

theorem execComparePulseEnd_eff (m : Nat) (s : State) {t : State} (h : execComparePulseEnd m s = .next t) :
    Eff [.clock, .pins, .wheel] [] s t := by
  unfold execComparePulseEnd at h
  exact Eff.to (inst_next h).2.symm ((comparePulseEnd_eff ..).after Eff.refl rfl)

theorem posBroadcast_eff (s : State) :
    Eff (withSide [.clock, .wheel, .link]) (sideAnd [.fam (K.spsPortStatus 0) 2, .fam (K.spsQueueDrops 0) 2]) s (posBroadcast s)
        := by
  unfold posBroadcast
  refine Eff.ite ?_ ?_
  · exact Eff.refl
  · extract_lets +onlyGivenNames x1
    clear_value (ex1 : x1 = _)
    refine Eff.have ex1 ((State.at_eff ..).after Eff.refl rfl) fun hx1 => ?_
    extract_lets +onlyGivenNames v2
    clear_value v2
    extract_lets +onlyGivenNames v3
    clear_value v3
    extract_lets +onlyGivenNames x4
    clear_value (ex4 : x4 = _)
    refine Eff.have ex4 (Eff.upd_wheel hx1 rfl) fun hx4 => ?_
    exact (State.broadcast_eff ..).after hx4 rfl

theorem execPosBroadcast_eff (s : State) {t : State} (h : execPosBroadcast s = .next t) :
    Eff (withSide [.clock, .wheel, .link]) (sideAnd [.fam (K.spsPortStatus 0) 2, .fam (K.spsQueueDrops 0) 2]) s t := by
  unfold execPosBroadcast at h
  cases h
  exact (posBroadcast_eff ..).after Eff.refl rfl

theorem posMessage_eff (m : Msg) (s : State) :
    Eff (withSide [.device, .out, .mem, .boot, .pins, .memory, .wheel, .cameras, .prism, .seam, .slip, .umbra, .loop, .link])
        (sideAnd (joinKeys [.fam (K.ctxsReplayNext 0) 12, .fam (K.ethsFramesOut 0) 2, .fam (K.ethsPortStatus 0) 2, .fam
        (K.ethsViewDrops 0) 2, .fam (K.lslotFreshW 0) 8, .fam (K.portBytesWritten 0) 12, .fam (K.qsFill 0) 64, .fam (K.qsFillPeak
        0) 64, .fam (K.qsItemsIn 0) 64, .fam (K.qsNoCreditCount 0) 64, .fam (K.qsQueueStatus 0) 64, .fam (K.viewsFrames 0) 8, .one
        K.devDeviceState, .one K.devStateChanges, .one K.devStateTime, .one K.dramLastMapError, .one K.dramMapErrors, .one
        K.dramMemStatus, .one K.loopsWindow, .one K.pwrPowerPhase, .one K.pwrWakeCause, .one K.quesSizeErrors, .one
        K.remRemoteHolds, .one K.remRemoteNode] [.one K.seamsRecordsLost, .one K.seamsStatus, .one K.slipJobState, .one
        K.slipRingFront, .one K.umbsWarmup, .one K.whlOrigin])) s (posMessage m s) := by
  unfold posMessage
  split
  · exact Eff.refl
  · rename_i q1
    refine Eff.ite ?_ ?_
    · exact (State.takeMsg_eff q1).after Eff.refl rfl
    · extract_lets +onlyGivenNames x2
      clear_value (ex2 : x2 = _)
      refine Eff.have ex2 ((State.takePos_eff ..).after ((State.takeMsg_eff q1).after Eff.refl rfl) rfl) fun hx2 => ?_
      extract_lets +onlyGivenNames x3
      clear_value (ex3 : x3 = _)
      refine Eff.have ex3 ((State.wakeOnLevel_eff ..).after hx2 rfl) fun hx3 => ?_
      exact Eff.ite ((State.startRun_eff ..).after hx3 rfl) hx3

theorem execPosMessage_eff (m : Msg) (s : State) {t : State} (h : execPosMessage m s = .next t) :
    Eff (withSide [.device, .out, .mem, .boot, .pins, .memory, .wheel, .cameras, .prism, .seam, .slip, .umbra, .loop, .link])
        (sideAnd (joinKeys [.fam (K.ctxsReplayNext 0) 12, .fam (K.ethsFramesOut 0) 2, .fam (K.ethsPortStatus 0) 2, .fam
        (K.ethsViewDrops 0) 2, .fam (K.lslotFreshW 0) 8, .fam (K.portBytesWritten 0) 12, .fam (K.qsFill 0) 64, .fam (K.qsFillPeak
        0) 64, .fam (K.qsItemsIn 0) 64, .fam (K.qsNoCreditCount 0) 64, .fam (K.qsQueueStatus 0) 64, .fam (K.viewsFrames 0) 8, .one
        K.devDeviceState, .one K.devStateChanges, .one K.devStateTime, .one K.dramLastMapError, .one K.dramMapErrors, .one
        K.dramMemStatus, .one K.loopsWindow, .one K.pwrPowerPhase, .one K.pwrWakeCause, .one K.quesSizeErrors, .one
        K.remRemoteHolds, .one K.remRemoteNode] [.one K.seamsRecordsLost, .one K.seamsStatus, .one K.slipJobState, .one
        K.slipRingFront, .one K.umbsWarmup, .one K.whlOrigin])) s t := by
  unfold execPosMessage at h
  cases h
  exact (posMessage_eff ..).after Eff.refl rfl

theorem remoteTimeout_eff (s : State) :
    Eff (withSide [.clock, .wheel]) (sideAnd [.one K.whlActiveMaster, .one K.whlSwitchovers, .one K.whlWheelStatus]) s
        (remoteTimeout s) := by
  unfold remoteTimeout
  refine Eff.ite ?_ ?_
  · exact Eff.refl
  · extract_lets +onlyGivenNames x1
    refine Eff.have (x := x1) rfl ((State.at_eff ..).after Eff.refl rfl) fun hx1 => ?_
    extract_lets +onlyGivenNames v2
    extract_lets +onlyGivenNames v3
    extract_lets +onlyGivenNames x4
    refine Eff.have (x := x4) rfl (Eff.flag (Eff.upd_wheel hx1 rfl) rfl rfl) fun hx4 => ?_
    exact Eff.ite ((State.masterLost_eff ..).after hx4 rfl) hx4

theorem execRemoteTimeout_eff (s : State) {t : State} (h : execRemoteTimeout s = .next t) :
    Eff (withSide [.clock, .wheel]) (sideAnd [.one K.whlActiveMaster, .one K.whlSwitchovers, .one K.whlWheelStatus]) s t := by
  unfold execRemoteTimeout at h
  cases h
  exact (remoteTimeout_eff ..).after Eff.refl rfl

theorem triggerEmit_eff (g : Nat) (s : State) :
    Eff (withSide [.clock, .wheel, .cameras]) (sideAnd [.fam (K.camstBandIndex 0) 12, .fam (K.camstCameraGeneration 0) 12, .fam
        (K.camstLinesDropped 0) 12, .fam (K.cgenBunchCount 0) 12, .fam (K.cgenLastTrigger 0) 12, .fam (K.cgenLateCount 0) 12, .fam
        (K.cgenLineIndex 0) 12, .fam (K.cgenSkipCount 0) 12, .fam (K.cgenTrigCount 0) 12, .fam (K.rgenBunchCount 0) 16, .fam
        (K.rgenLastTrigger 0) 16, .fam (K.rgenLateCount 0) 16, .fam (K.rgenLineIndex 0) 16, .fam (K.rgenTrigCount 0) 16]) s
        (triggerEmit g s) := by
  unfold triggerEmit
  extract_lets +onlyGivenNames v1
  clear_value v1
  extract_lets +onlyGivenNames v2
  clear_value v2
  split
  · refine Eff.ite ?_ ?_
    · exact Eff.refl
    · refine Eff.ite ?_ ?_
      · extract_lets +onlyGivenNames x3
        clear_value (ex3 : x3 = _)
        refine Eff.have ex3 ((State.genRaised_eff ..).after (Eff.arrive (Eff.inc Eff.refl rfl (KeySet.any_fam _ rfl)) rfl) rfl)
            fun hx3 => ?_
        exact (State.setGen_eff ..).after hx3 rfl
      · exact (State.genEmit_eff ..).after ((State.at_eff ..).after Eff.refl rfl) rfl
  · exact Eff.ite ((State.genReach_eff ..).after Eff.refl rfl) Eff.refl

theorem execTriggerEmit_eff (g : Nat) (s : State) {t : State} (h : execTriggerEmit g s = .next t) :
    Eff (withSide [.clock, .wheel, .cameras]) (sideAnd [.fam (K.camstBandIndex 0) 12, .fam (K.camstCameraGeneration 0) 12, .fam
        (K.camstLinesDropped 0) 12, .fam (K.cgenBunchCount 0) 12, .fam (K.cgenLastTrigger 0) 12, .fam (K.cgenLateCount 0) 12, .fam
        (K.cgenLineIndex 0) 12, .fam (K.cgenSkipCount 0) 12, .fam (K.cgenTrigCount 0) 12, .fam (K.rgenBunchCount 0) 16, .fam
        (K.rgenLastTrigger 0) 16, .fam (K.rgenLateCount 0) 16, .fam (K.rgenLineIndex 0) 16, .fam (K.rgenTrigCount 0) 16]) s t :=
        by
  unfold execTriggerEmit at h
  exact Eff.to (inst_next h).2.symm ((triggerEmit_eff ..).after Eff.refl rfl)

end Sys2Proof.Machine
end

