-- ==== Sys2Proof/Laws/Device.lean ====
section
/-! SUPPORT. What each operation of Machine/Device.lean may change. -/

-- The proofs of this file are checked one after another, in one thread.
set_option Elab.async false

namespace Sys2Proof.Machine

theorem State.answer_eff (s : State) (status : Nat) (cause : Nat) :
    Eff [.regs] [.one K.devRequestCause, .one K.devRequestStatus] s (State.answer s status cause) := by
  unfold State.answer
  exact Eff.wr (Eff.wr Eff.refl rfl rfl) rfl rfl

theorem State.arm_eff (s : State) :
    Eff (withSide [.device, .mem, .engines, .slip, .kiln, .umbra]) (sideAnd [.fam (K.portBytesWritten 0) 12, .fam (K.zesBytesIn 0)
        6, .fam (K.zesBytesOut 0) 6, .fam (K.zesEngineState 0) 6, .fam (K.zesEngineStatus 0) 6, .fam (K.zesErrorCount 0) 6, .fam
        (K.zesJobHead 0) 6, .fam (K.zesJobsDone 0) 6, .fam (K.zesLastStatus 0) 6, .fam (K.zesVerifyFails 0) 6, .one
        K.devDeviceState, .one K.devRequestCause, .one K.devRequestStatus, .one K.devStateChanges, .one K.devStateTime, .one
        K.dramLastMapError, .one K.dramMapErrors, .one K.dramMemStatus, .one K.slipJobState, .one K.slipLeadBar, .one
        K.slipStatus, .one K.slipVarReadIndex, .one K.zeReserved]) s (State.arm s) := by
  unfold State.arm
  extract_lets +onlyGivenNames x1
  clear_value (ex1 : x1 = _)
  refine Eff.have ex1 ((State.enter_eff ..).after ((State.slipArm_eff ..).after ((State.answer_eff ..).after Eff.refl rfl) rfl)
      rfl) fun hx1 => ?_
  exact Eff.ite ((State.zeReserve_eff ..).after hx1 rfl) hx1

theorem State.toStopped_eff (s : State) :
    Eff (withSide [.device, .wheel, .kiln]) (sideAnd [.fam (K.khHeadState 0) 128, .fam (K.zesEngineState 0) 6, .one
        K.devDeviceState, .one K.devStateChanges, .one K.devStateTime, .one K.slipJobState, .one K.zeReserved]) s (State.toStopped
        s) := by
  unfold State.toStopped
  extract_lets +onlyGivenNames x1
  clear_value (ex1 : x1 = _)
  refine Eff.have ex1 ((State.enter_eff ..).after ((State.zeRelease_eff ..).after ((State.gensOff_eff ..).after Eff.refl rfl) rfl)
      rfl) fun hx1 => ?_
  extract_lets +onlyGivenNames x2
  clear_value (ex2 : x2 = _)
  refine Eff.have ex2 (Eff.ite (Eff.wr hx1 rfl rfl) hx1) fun hx2 => ?_
  exact Eff.foldl (fun x3 _ hx3 => ((State.rejoinHeads_eff ..).after hx3 rfl)) hx2

theorem State.dropPrint_eff (s : State) :
    Eff [.kiln] [] s (State.dropPrint s) := by
  unfold State.dropPrint
  extract_lets +onlyGivenNames x1
  clear_value (ex1 : x1 = _)
  refine Eff.have ex1 (Eff.foldl (fun x2 _ hx2 => ((State.setPort_eff ..).after hx2 rfl)) Eff.refl) fun hx1 => ?_
  exact Eff.upd_heads hx1 rfl

theorem State.disarm_eff (s : State) :
    Eff (withSide [.device, .wheel, .kiln]) (sideAnd [.fam (K.khHeadState 0) 128, .fam (K.zesEngineState 0) 6, .one
        K.devDeviceState, .one K.devStateChanges, .one K.devStateTime, .one K.slipJobState, .one K.zeReserved]) s (State.disarm s)
        := by
  unfold State.disarm
  exact (State.toStopped_eff ..).after ((State.dropPrint_eff ..).after Eff.refl rfl) rfl

theorem State.dropInspection_eff (s : State) :
    Eff [.regs, .cameras, .prism, .seam, .umbra] [.one K.cropsCropWriteOffset, .one K.umbsOpenComponents, .one K.umbsOpenPeak] s
        (State.dropInspection s) := by
  unfold State.dropInspection
  extract_lets +onlyGivenNames x1
  clear_value (ex1 : x1 = _)
  refine Eff.have ex1 (Eff.upd_cams Eff.refl rfl) fun hx1 => ?_
  extract_lets +onlyGivenNames v2
  clear_value v2
  extract_lets +onlyGivenNames x3
  clear_value (ex3 : x3 = _)
  refine Eff.have ex3 (Eff.upd_ctxs_seam hx1 rfl) fun hx3 => ?_
  exact (State.umbDiscard_eff ..).after hx3 rfl

theorem State.drainAbort_eff (s : State) (cause : Nat) :
    Eff (withSide [.device, .wheel, .cameras, .prism, .seam, .kiln, .umbra]) (sideAnd [.fam (K.khHeadState 0) 128, .fam
        (K.zesEngineState 0) 6, .one K.cropsCropWriteOffset, .one K.devDeviceState, .one K.devStateChanges, .one K.devStateTime,
        .one K.devStopCause, .one K.slipJobState, .one K.umbsOpenComponents, .one K.umbsOpenPeak, .one K.zeReserved]) s
        (State.drainAbort s cause) := by
  unfold State.drainAbort
  exact (State.toStopped_eff ..).after ((State.dropInspection_eff ..).after ((State.dropPrint_eff ..).after (Eff.wr Eff.refl rfl
      rfl) rfl) rfl) rfl

theorem State.endTests_eff (s : State) (acks : Nat) :
    Eff (withSide [.free, .boot, .pins, .memory, .kiln, .gauge, .loop]) (sideAnd (joinKeys [.fam (K.gasActiveBank 0) 16, .fam
        (K.gasCalStatus 0) 16, .fam (K.gasFadeState 0) 16, .fam (K.gasLatest 0) 16, .fam (K.gasLost 0) 16, .fam (K.gasSamples 0)
        16, .fam (K.gasSettleLeft 0) 16, .fam (K.gasStatus 0) 16, .fam (K.khHeadState 0) 128, .fam (K.khHeadStatus 0) 128, .fam
        (K.kpFaultCount 0) 32, .fam (K.kpLastFaultTime 0) 32, .fam (K.kpPortState 0) 32, .fam (K.kpPortStatus 0) 32, .fam
        (K.qsFill 0) 64, .fam (K.qsFillPeak 0) 64, .fam (K.qsItemsIn 0) 64, .fam (K.qsNoCreditCount 0) 64, .fam (K.qsQueueStatus
        0) 64, .one K.calCalRunStatus, .one K.fltFaultStatus, .one K.fltLastRetiredUnit, .one K.fltRetiredCount, .one
        K.fltTransientCount] [.one K.gauScanHold, .one K.kilnActiveHeads, .one K.kilnKilnStatus, .one K.quesSizeErrors, .one
        K.scanScanStatus])) s (State.endTests s acks) := by
  unfold State.endTests
  exact (State.calAbort_eff ..).after ((State.gaCalAborts_eff ..).after ((State.scanAbort_eff ..).after Eff.refl rfl) rfl) rfl

theorem State.refuseRequest_eff (s : State) :
    Eff [.regs] [.one K.devRequestCause, .one K.devRequestStatus] s (State.refuseRequest s) := by
  unfold State.refuseRequest
  exact (State.answer_eff ..).after Eff.refl rfl

theorem State.tryArm_eff (s : State) (acks : Nat) :
    Eff (withSide [.free, .device, .mem, .boot, .pins, .memory, .engines, .slip, .kiln, .gauge, .umbra, .loop]) (sideAnd (joinKeys
        [.fam (K.gasActiveBank 0) 16, .fam (K.gasCalStatus 0) 16, .fam (K.gasFadeState 0) 16, .fam (K.gasLatest 0) 16, .fam
        (K.gasLost 0) 16, .fam (K.gasSamples 0) 16, .fam (K.gasSettleLeft 0) 16, .fam (K.gasStatus 0) 16, .fam (K.khHeadState 0)
        128, .fam (K.khHeadStatus 0) 128, .fam (K.kpFaultCount 0) 32, .fam (K.kpLastFaultTime 0) 32, .fam (K.kpPortState 0) 32,
        .fam (K.kpPortStatus 0) 32, .fam (K.portBytesWritten 0) 12, .fam (K.qsFill 0) 64, .fam (K.qsFillPeak 0) 64, .fam
        (K.qsItemsIn 0) 64, .fam (K.qsNoCreditCount 0) 64, .fam (K.qsQueueStatus 0) 64, .fam (K.zesBytesIn 0) 6, .fam
        (K.zesBytesOut 0) 6, .fam (K.zesEngineState 0) 6, .fam (K.zesEngineStatus 0) 6] (joinKeys [.fam (K.zesErrorCount 0) 6,
        .fam (K.zesJobHead 0) 6, .fam (K.zesJobsDone 0) 6, .fam (K.zesLastStatus 0) 6, .fam (K.zesVerifyFails 0) 6, .one
        K.calCalRunStatus, .one K.devDeviceState, .one K.devRequestCause, .one K.devRequestStatus, .one K.devStateChanges, .one
        K.devStateTime, .one K.dramLastMapError, .one K.dramMapErrors, .one K.dramMemStatus, .one K.fltFaultStatus, .one
        K.fltLastRetiredUnit, .one K.fltRetiredCount, .one K.fltTransientCount, .one K.gauScanHold, .one K.kilnActiveHeads, .one
        K.kilnKilnStatus, .one K.quesSizeErrors, .one K.scanScanStatus, .one K.slipJobState] [.one K.slipLeadBar, .one
        K.slipStatus, .one K.slipVarReadIndex, .one K.zeReserved]))) s (State.tryArm s acks) := by
  unfold State.tryArm
  extract_lets +onlyGivenNames x1
  clear_value (ex1 : x1 = _)
  refine Eff.have ex1 ((State.endTests_eff ..).after Eff.refl rfl) fun hx1 => ?_
  extract_lets +onlyGivenNames x2
  clear_value (ex2 : x2 = _)
  refine Eff.have ex2 (Eff.ite (Eff.flag hx1 rfl rfl) hx1) fun hx2 => ?_
  exact Eff.ite ((State.arm_eff ..).after hx2 rfl) ((State.answer_eff ..).after hx2 rfl)

theorem State.trySleep_eff (s : State) (acks : Nat) :
    Eff (withSide [.free, .device, .boot, .pins, .memory, .kiln, .gauge, .loop]) (sideAnd (joinKeys [.fam (K.gasActiveBank 0) 16,
        .fam (K.gasCalStatus 0) 16, .fam (K.gasFadeState 0) 16, .fam (K.gasLatest 0) 16, .fam (K.gasLost 0) 16, .fam (K.gasSamples
        0) 16, .fam (K.gasSettleLeft 0) 16, .fam (K.gasStatus 0) 16, .fam (K.khHeadState 0) 128, .fam (K.khHeadStatus 0) 128, .fam
        (K.kpFaultCount 0) 32, .fam (K.kpLastFaultTime 0) 32, .fam (K.kpPortState 0) 32, .fam (K.kpPortStatus 0) 32, .fam
        (K.qsFill 0) 64, .fam (K.qsFillPeak 0) 64, .fam (K.qsItemsIn 0) 64, .fam (K.qsNoCreditCount 0) 64, .fam (K.qsQueueStatus
        0) 64, .one K.calCalRunStatus, .one K.devDeviceState, .one K.devRequestCause, .one K.devRequestStatus, .one
        K.devStateChanges] [.one K.devStateTime, .one K.fltFaultStatus, .one K.fltLastRetiredUnit, .one K.fltRetiredCount, .one
        K.fltTransientCount, .one K.gauScanHold, .one K.kilnActiveHeads, .one K.kilnKilnStatus, .one K.pwrPowerPhase, .one
        K.pwrSleepRefusals, .one K.pwrSleeps, .one K.pwrWakeCause, .one K.quesSizeErrors, .one K.scanScanStatus])) s
        (State.trySleep s acks) := by
  unfold State.trySleep
  extract_lets +onlyGivenNames x1
  clear_value (ex1 : x1 = _)
  refine Eff.have ex1 ((State.endTests_eff ..).after Eff.refl rfl) fun hx1 => ?_
  exact Eff.ite (Eff.inc ((State.answer_eff ..).after hx1 rfl) rfl rfl) ((State.refreshPins_eff ..).after ((State.startSleep_eff
      ..).after ((State.answer_eff ..).after hx1 rfl) rfl) rfl)

theorem armWrite_eff (a : Acc) (acks : Nat) (s : State) :
    Eff (withSide [.free, .device, .mem, .boot, .pins, .memory, .engines, .slip, .kiln, .gauge, .umbra, .loop]) (accAnd (joinKeys
        [.fam (K.gasActiveBank 0) 16, .fam (K.gasCalStatus 0) 16, .fam (K.gasFadeState 0) 16, .fam (K.gasLatest 0) 16, .fam
        (K.gasLost 0) 16, .fam (K.gasSamples 0) 16, .fam (K.gasSettleLeft 0) 16, .fam (K.gasStatus 0) 16, .fam (K.khHeadState 0)
        128, .fam (K.khHeadStatus 0) 128, .fam (K.kpFaultCount 0) 32, .fam (K.kpLastFaultTime 0) 32, .fam (K.kpPortState 0) 32,
        .fam (K.kpPortStatus 0) 32, .fam (K.portBytesWritten 0) 12, .fam (K.qsFill 0) 64, .fam (K.qsFillPeak 0) 64, .fam
        (K.qsItemsIn 0) 64, .fam (K.qsNoCreditCount 0) 64, .fam (K.qsQueueStatus 0) 64, .fam (K.zesBytesIn 0) 6, .fam
        (K.zesBytesOut 0) 6, .fam (K.zesEngineState 0) 6, .fam (K.zesEngineStatus 0) 6] (joinKeys [.fam (K.zesErrorCount 0) 6,
        .fam (K.zesJobHead 0) 6, .fam (K.zesJobsDone 0) 6, .fam (K.zesLastStatus 0) 6, .fam (K.zesVerifyFails 0) 6, .one
        K.calCalRunStatus, .one K.devDeviceState, .one K.devRequestCause, .one K.devRequestStatus, .one K.devStateChanges, .one
        K.devStateTime, .one K.dramLastMapError, .one K.dramMapErrors, .one K.dramMemStatus, .one K.fltFaultStatus, .one
        K.fltLastRetiredUnit, .one K.fltRetiredCount, .one K.fltTransientCount, .one K.gauScanHold, .one K.kilnActiveHeads, .one
        K.kilnKilnStatus, .one K.quesSizeErrors, .one K.scanScanStatus, .one K.slipJobState] [.one K.slipLeadBar, .one
        K.slipStatus, .one K.slipVarReadIndex, .one K.zeReserved]))) s (armWrite a acks s) := by
  unfold armWrite
  unfold request
  exact Eff.act Eff.refl (fun y1 hy1 => (Eff.ite ((State.tryArm_eff ..).after hy1 rfl) ((State.refuseRequest_eff ..).after hy1
      rfl))) rfl

theorem devStop_eff (s : State) :
    Eff (withSide [.device, .slip, .kiln, .loop]) (sideAnd [.one K.devDeviceState, .one K.devStateChanges, .one K.devStateTime,
        .one K.devStopCause, .one K.slipJobState, .one K.slipStopLine]) s (devStop s) := by
  unfold devStop
  split
  · exact Eff.refl
  · rename_i q1
    exact Eff.ite ((State.drain_eff ..).after ((State.takeTask_eff q1).after Eff.refl rfl) rfl) ((State.takeTask_eff q1).after
        Eff.refl rfl)

theorem disarmWrite_eff (a : Acc) (s : State) :
    Eff (withSide [.device, .wheel, .kiln]) (accAnd [.fam (K.khHeadState 0) 128, .fam (K.zesEngineState 0) 6, .one
        K.devDeviceState, .one K.devRequestCause, .one K.devRequestStatus, .one K.devStateChanges, .one K.devStateTime, .one
        K.slipJobState, .one K.zeReserved]) s (disarmWrite a s) := by
  unfold disarmWrite
  unfold request
  exact Eff.act Eff.refl (fun y1 hy1 => (Eff.ite ((State.disarm_eff ..).after ((State.answer_eff ..).after hy1 rfl) rfl)
      ((State.refuseRequest_eff ..).after hy1 rfl))) rfl

theorem drainComplete_eff (s : State) :
    Eff (withSide [.device, .wheel, .engines, .kiln, .umbra]) (sideAnd [.fam (K.khHeadState 0) 128, .fam (K.zesEngineState 0) 6,
        .one K.cropsCropWriteOffset, .one K.devDeviceState, .one K.devStateChanges, .one K.devStateTime, .one K.slipJobState, .one
        K.umbsCropsLost, .one K.umbsJoinLost, .one K.umbsOpenComponents, .one K.umbsOpenPeak, .one K.umbsPenumbraOnly, .one
        K.umbsStatus, .one K.zeCropWaiting, .one K.zeReserved]) s (drainComplete s) := by
  unfold drainComplete
  refine Eff.ite ?_ ?_
  · exact Eff.refl
  · extract_lets +onlyGivenNames x1
    clear_value (ex1 : x1 = _)
    refine Eff.have ex1 (Eff.ite ((State.umbFlush_eff ..).after Eff.refl rfl) Eff.refl) fun hx1 => ?_
    exact Eff.ite hx1 ((State.toStopped_eff ..).after hx1 rfl)

theorem drainTimeout_eff (s : State) :
    Eff (withSide [.clock, .device, .wheel, .cameras, .prism, .seam, .kiln, .umbra]) (sideAnd [.fam (K.khHeadState 0) 128, .fam
        (K.zesEngineState 0) 6, .one K.cropsCropWriteOffset, .one K.devDeviceState, .one K.devStateChanges, .one K.devStateTime,
        .one K.devStopCause, .one K.slipJobState, .one K.umbsOpenComponents, .one K.umbsOpenPeak, .one K.zeReserved]) s
        (drainTimeout s) := by
  unfold drainTimeout
  exact Eff.ite Eff.refl ((State.drainAbort_eff ..).after ((State.at_eff ..).after Eff.refl rfl) rfl)

theorem execArm_eff (a : Acc) (acks : Nat) (s : State) {t : State} (h : execArm a acks s = .next t) :
    Eff (withSide [.free, .device, .mem, .boot, .pins, .memory, .engines, .slip, .kiln, .gauge, .umbra, .loop]) (accAnd (joinKeys
        [.fam (K.gasActiveBank 0) 16, .fam (K.gasCalStatus 0) 16, .fam (K.gasFadeState 0) 16, .fam (K.gasLatest 0) 16, .fam
        (K.gasLost 0) 16, .fam (K.gasSamples 0) 16, .fam (K.gasSettleLeft 0) 16, .fam (K.gasStatus 0) 16, .fam (K.khHeadState 0)
        128, .fam (K.khHeadStatus 0) 128, .fam (K.kpFaultCount 0) 32, .fam (K.kpLastFaultTime 0) 32, .fam (K.kpPortState 0) 32,
        .fam (K.kpPortStatus 0) 32, .fam (K.portBytesWritten 0) 12, .fam (K.qsFill 0) 64, .fam (K.qsFillPeak 0) 64, .fam
        (K.qsItemsIn 0) 64, .fam (K.qsNoCreditCount 0) 64, .fam (K.qsQueueStatus 0) 64, .fam (K.zesBytesIn 0) 6, .fam
        (K.zesBytesOut 0) 6, .fam (K.zesEngineState 0) 6, .fam (K.zesEngineStatus 0) 6] (joinKeys [.fam (K.zesErrorCount 0) 6,
        .fam (K.zesJobHead 0) 6, .fam (K.zesJobsDone 0) 6, .fam (K.zesLastStatus 0) 6, .fam (K.zesVerifyFails 0) 6, .one
        K.calCalRunStatus, .one K.devDeviceState, .one K.devRequestCause, .one K.devRequestStatus, .one K.devStateChanges, .one
        K.devStateTime, .one K.dramLastMapError, .one K.dramMapErrors, .one K.dramMemStatus, .one K.fltFaultStatus, .one
        K.fltLastRetiredUnit, .one K.fltRetiredCount, .one K.fltTransientCount, .one K.gauScanHold, .one K.kilnActiveHeads, .one
        K.kilnKilnStatus, .one K.quesSizeErrors, .one K.scanScanStatus, .one K.slipJobState] [.one K.slipLeadBar, .one
        K.slipStatus, .one K.slipVarReadIndex, .one K.zeReserved]))) s t := by
  unfold execArm at h
  cases h
  exact (armWrite_eff ..).after Eff.refl rfl

theorem execDevStop_eff (s : State) {t : State} (h : execDevStop s = .next t) :
    Eff (withSide [.device, .slip, .kiln, .loop]) (sideAnd [.one K.devDeviceState, .one K.devStateChanges, .one K.devStateTime,
        .one K.devStopCause, .one K.slipJobState, .one K.slipStopLine]) s t := by
  unfold execDevStop at h
  cases h
  exact (devStop_eff ..).after Eff.refl rfl

theorem execDisarm_eff (a : Acc) (s : State) {t : State} (h : execDisarm a s = .next t) :
    Eff (withSide [.device, .wheel, .kiln]) (accAnd [.fam (K.khHeadState 0) 128, .fam (K.zesEngineState 0) 6, .one
        K.devDeviceState, .one K.devRequestCause, .one K.devRequestStatus, .one K.devStateChanges, .one K.devStateTime, .one
        K.slipJobState, .one K.zeReserved]) s t := by
  unfold execDisarm at h
  cases h
  exact (disarmWrite_eff ..).after Eff.refl rfl

theorem execDrainComplete_eff (s : State) {t : State} (h : execDrainComplete s = .next t) :
    Eff (withSide [.device, .wheel, .engines, .kiln, .umbra]) (sideAnd [.fam (K.khHeadState 0) 128, .fam (K.zesEngineState 0) 6,
        .one K.cropsCropWriteOffset, .one K.devDeviceState, .one K.devStateChanges, .one K.devStateTime, .one K.slipJobState, .one
        K.umbsCropsLost, .one K.umbsJoinLost, .one K.umbsOpenComponents, .one K.umbsOpenPeak, .one K.umbsPenumbraOnly, .one
        K.umbsStatus, .one K.zeCropWaiting, .one K.zeReserved]) s t := by
  unfold execDrainComplete at h
  cases h
  exact (drainComplete_eff ..).after Eff.refl rfl

theorem execDrainTimeout_eff (s : State) {t : State} (h : execDrainTimeout s = .next t) :
    Eff (withSide [.clock, .device, .wheel, .cameras, .prism, .seam, .kiln, .umbra]) (sideAnd [.fam (K.khHeadState 0) 128, .fam
        (K.zesEngineState 0) 6, .one K.cropsCropWriteOffset, .one K.devDeviceState, .one K.devStateChanges, .one K.devStateTime,
        .one K.devStopCause, .one K.slipJobState, .one K.umbsOpenComponents, .one K.umbsOpenPeak, .one K.zeReserved]) s t := by
  unfold execDrainTimeout at h
  cases h
  exact (drainTimeout_eff ..).after Eff.refl rfl

theorem runWrite_eff (a : Acc) (s : State) :
    Eff (withSide [.device, .out, .mem, .memory, .wheel, .cameras, .prism, .seam, .slip, .umbra, .loop]) (accAnd (joinKeys [.fam
        (K.ctxsReplayNext 0) 12, .fam (K.ethsFramesOut 0) 2, .fam (K.ethsPortStatus 0) 2, .fam (K.ethsViewDrops 0) 2, .fam
        (K.lslotFreshW 0) 8, .fam (K.portBytesWritten 0) 12, .fam (K.qsFill 0) 64, .fam (K.qsFillPeak 0) 64, .fam (K.qsItemsIn 0)
        64, .fam (K.qsNoCreditCount 0) 64, .fam (K.qsQueueStatus 0) 64, .fam (K.viewsFrames 0) 8, .one K.devDeviceState, .one
        K.devRequestCause, .one K.devRequestStatus, .one K.devStateChanges, .one K.devStateTime, .one K.dramLastMapError, .one
        K.dramMapErrors, .one K.dramMemStatus, .one K.loopsWindow, .one K.quesSizeErrors, .one K.seamsRecordsLost, .one
        K.seamsStatus] [.one K.slipJobState, .one K.slipRingFront, .one K.umbsWarmup, .one K.whlOrigin])) s (runWrite a s) := by
  unfold runWrite
  unfold request
  exact Eff.act Eff.refl (fun y1 hy1 => (Eff.ite ((State.startRun_eff ..).after ((State.answer_eff ..).after hy1 rfl) rfl)
      ((State.refuseRequest_eff ..).after hy1 rfl))) rfl

theorem execRun_eff (a : Acc) (s : State) {t : State} (h : execRun a s = .next t) :
    Eff (withSide [.device, .out, .mem, .memory, .wheel, .cameras, .prism, .seam, .slip, .umbra, .loop]) (accAnd (joinKeys [.fam
        (K.ctxsReplayNext 0) 12, .fam (K.ethsFramesOut 0) 2, .fam (K.ethsPortStatus 0) 2, .fam (K.ethsViewDrops 0) 2, .fam
        (K.lslotFreshW 0) 8, .fam (K.portBytesWritten 0) 12, .fam (K.qsFill 0) 64, .fam (K.qsFillPeak 0) 64, .fam (K.qsItemsIn 0)
        64, .fam (K.qsNoCreditCount 0) 64, .fam (K.qsQueueStatus 0) 64, .fam (K.viewsFrames 0) 8, .one K.devDeviceState, .one
        K.devRequestCause, .one K.devRequestStatus, .one K.devStateChanges, .one K.devStateTime, .one K.dramLastMapError, .one
        K.dramMapErrors, .one K.dramMemStatus, .one K.loopsWindow, .one K.quesSizeErrors, .one K.seamsRecordsLost, .one
        K.seamsStatus] [.one K.slipJobState, .one K.slipRingFront, .one K.umbsWarmup, .one K.whlOrigin])) s t := by
  unfold execRun at h
  cases h
  exact (runWrite_eff ..).after Eff.refl rfl

theorem sleepWrite_eff (a : Acc) (acks : Nat) (s : State) :
    Eff (withSide [.free, .device, .boot, .pins, .memory, .kiln, .gauge, .loop]) (accAnd (joinKeys [.fam (K.gasActiveBank 0) 16,
        .fam (K.gasCalStatus 0) 16, .fam (K.gasFadeState 0) 16, .fam (K.gasLatest 0) 16, .fam (K.gasLost 0) 16, .fam (K.gasSamples
        0) 16, .fam (K.gasSettleLeft 0) 16, .fam (K.gasStatus 0) 16, .fam (K.khHeadState 0) 128, .fam (K.khHeadStatus 0) 128, .fam
        (K.kpFaultCount 0) 32, .fam (K.kpLastFaultTime 0) 32, .fam (K.kpPortState 0) 32, .fam (K.kpPortStatus 0) 32, .fam
        (K.qsFill 0) 64, .fam (K.qsFillPeak 0) 64, .fam (K.qsItemsIn 0) 64, .fam (K.qsNoCreditCount 0) 64, .fam (K.qsQueueStatus
        0) 64, .one K.calCalRunStatus, .one K.devDeviceState, .one K.devRequestCause, .one K.devRequestStatus, .one
        K.devStateChanges] [.one K.devStateTime, .one K.fltFaultStatus, .one K.fltLastRetiredUnit, .one K.fltRetiredCount, .one
        K.fltTransientCount, .one K.gauScanHold, .one K.kilnActiveHeads, .one K.kilnKilnStatus, .one K.pwrPowerPhase, .one
        K.pwrSleepRefusals, .one K.pwrSleeps, .one K.pwrWakeCause, .one K.quesSizeErrors, .one K.scanScanStatus])) s (sleepWrite a
        acks s) := by
  unfold sleepWrite
  unfold request
  exact Eff.act Eff.refl (fun y1 hy1 => (Eff.ite ((State.trySleep_eff ..).after hy1 rfl) ((State.refuseRequest_eff ..).after hy1
      rfl))) rfl

theorem execSleep_eff (a : Acc) (acks : Nat) (s : State) {t : State} (h : execSleep a acks s = .next t) :
    Eff (withSide [.free, .device, .boot, .pins, .memory, .kiln, .gauge, .loop]) (accAnd (joinKeys [.fam (K.gasActiveBank 0) 16,
        .fam (K.gasCalStatus 0) 16, .fam (K.gasFadeState 0) 16, .fam (K.gasLatest 0) 16, .fam (K.gasLost 0) 16, .fam (K.gasSamples
        0) 16, .fam (K.gasSettleLeft 0) 16, .fam (K.gasStatus 0) 16, .fam (K.khHeadState 0) 128, .fam (K.khHeadStatus 0) 128, .fam
        (K.kpFaultCount 0) 32, .fam (K.kpLastFaultTime 0) 32, .fam (K.kpPortState 0) 32, .fam (K.kpPortStatus 0) 32, .fam
        (K.qsFill 0) 64, .fam (K.qsFillPeak 0) 64, .fam (K.qsItemsIn 0) 64, .fam (K.qsNoCreditCount 0) 64, .fam (K.qsQueueStatus
        0) 64, .one K.calCalRunStatus, .one K.devDeviceState, .one K.devRequestCause, .one K.devRequestStatus, .one
        K.devStateChanges] [.one K.devStateTime, .one K.fltFaultStatus, .one K.fltLastRetiredUnit, .one K.fltRetiredCount, .one
        K.fltTransientCount, .one K.gauScanHold, .one K.kilnActiveHeads, .one K.kilnKilnStatus, .one K.pwrPowerPhase, .one
        K.pwrSleepRefusals, .one K.pwrSleeps, .one K.pwrWakeCause, .one K.quesSizeErrors, .one K.scanScanStatus])) s t := by
  unfold execSleep at h
  cases h
  exact (sleepWrite_eff ..).after Eff.refl rfl

theorem stopWrite_eff (a : Acc) (s : State) :
    Eff (withSide [.device, .wheel, .cameras, .prism, .seam, .slip, .kiln, .umbra, .loop]) (accAnd [.fam (K.khHeadState 0) 128,
        .fam (K.zesEngineState 0) 6, .one K.cropsCropWriteOffset, .one K.devDeviceState, .one K.devRequestCause, .one
        K.devRequestStatus, .one K.devStateChanges, .one K.devStateTime, .one K.devStopCause, .one K.slipJobState, .one
        K.slipStopLine, .one K.umbsOpenComponents, .one K.umbsOpenPeak, .one K.zeReserved]) s (stopWrite a s) := by
  unfold stopWrite
  unfold request
  exact Eff.act Eff.refl (fun y1 hy1 => (Eff.ite ((State.disarm_eff ..).after ((State.answer_eff ..).after hy1 rfl) rfl) (Eff.ite
      ((State.drain_eff ..).after ((State.answer_eff ..).after hy1 rfl) rfl) (Eff.ite ((State.drainAbort_eff ..).after
      ((State.answer_eff ..).after hy1 rfl) rfl) ((State.refuseRequest_eff ..).after hy1 rfl))))) rfl

theorem execStop_eff (a : Acc) (s : State) {t : State} (h : execStop a s = .next t) :
    Eff (withSide [.device, .wheel, .cameras, .prism, .seam, .slip, .kiln, .umbra, .loop]) (accAnd [.fam (K.khHeadState 0) 128,
        .fam (K.zesEngineState 0) 6, .one K.cropsCropWriteOffset, .one K.devDeviceState, .one K.devRequestCause, .one
        K.devRequestStatus, .one K.devStateChanges, .one K.devStateTime, .one K.devStopCause, .one K.slipJobState, .one
        K.slipStopLine, .one K.umbsOpenComponents, .one K.umbsOpenPeak, .one K.zeReserved]) s t := by
  unfold execStop at h
  cases h
  exact (stopWrite_eff ..).after Eff.refl rfl

theorem wakeWrite_eff (a : Acc) (s : State) :
    Eff (withSide [.device, .boot, .pins]) (accAnd [.one K.devDeviceState, .one K.devRequestCause, .one K.devRequestStatus, .one
        K.devStateChanges, .one K.devStateTime, .one K.pwrPowerPhase, .one K.pwrWakeCause]) s (wakeWrite a s) := by
  unfold wakeWrite
  unfold request
  exact Eff.act Eff.refl (fun y1 hy1 => (Eff.ite ((State.wake_eff ..).after ((State.answer_eff ..).after hy1 rfl) rfl)
      ((State.refuseRequest_eff ..).after hy1 rfl))) rfl

theorem execWake_eff (a : Acc) (s : State) {t : State} (h : execWake a s = .next t) :
    Eff (withSide [.device, .boot, .pins]) (accAnd [.one K.devDeviceState, .one K.devRequestCause, .one K.devRequestStatus, .one
        K.devStateChanges, .one K.devStateTime, .one K.pwrPowerPhase, .one K.pwrWakeCause]) s t := by
  unfold execWake at h
  cases h
  exact (wakeWrite_eff ..).after Eff.refl rfl

end Sys2Proof.Machine
end

