-- ==== Sys2Proof/Laws/Commit.lean ====
section
/-! SUPPORT. What each operation of Machine/Commit.lean may change. -/

-- The proofs of this file are checked one after another, in one thread.
set_option Elab.async false

namespace Sys2Proof.Machine

theorem State.applyIdleLine_eff (s : State) (idx : Nat) :
    Eff (withSide [.staged, .domains, .pool, .glaze]) [.all] s (State.applyIdleLine s idx) := by
  unfold State.applyIdleLine
  extract_lets +onlyGivenNames v1
  clear_value v1
  extract_lets +onlyGivenNames x2
  clear_value (ex2 : x2 = _)
  refine Eff.have ex2 ((State.applyLineGroup_eff ..).after Eff.refl rfl) fun hx2 => ?_
  exact Eff.ite (Eff.add hx2 rfl (KeySet.any_all rfl)) hx2

theorem State.syncApply_eff (a1 : State) (s : State) :
    Eff [.time] [] s (State.syncApply a1 s) := by
  unfold State.syncApply
  exact Eff.ite Eff.refl ((State.setSync_eff ..).after Eff.refl rfl)

theorem State.ctxIdle_eff (s : State) (n : Nat) :
    Eff [.regs] [.fam (K.ctxsContextState 0) 12] s (State.ctxIdle s n) := by
  unfold State.ctxIdle
  exact Eff.ite (Eff.wr Eff.refl rfl (KeySet.any_fam _ rfl)) Eff.refl

theorem State.applyWith_eff (s : State) (idx : Nat) :
    Eff (withSide [.time, .free, .staged, .domains, .pool, .out, .mem, .glaze, .pins, .memory, .wheel, .cameras, .prism, .seam,
        .engines, .slip, .kiln, .gauge, .loop, .link]) [.all] s (State.applyWith s idx) := by
  unfold State.applyWith
  extract_lets +onlyGivenNames v1
  clear_value v1
  extract_lets +onlyGivenNames x2
  clear_value (ex2 : x2 = _)
  refine Eff.have ex2 ((State.applyGroup_eff ..).after Eff.refl rfl) fun hx2 => ?_
  split
  · exact (State.syncApply_eff ..).after hx2 rfl
  · exact (State.encApply_eff ..).after hx2 rfl
  · exact (State.cmpApply_eff ..).after hx2 rfl
  · exact (State.genApply_eff ..).after hx2 rfl
  · exact (State.genApply_eff ..).after hx2 rfl
  · exact (State.mirApply_eff ..).after hx2 rfl
  · exact (State.ctxIdle_eff ..).after ((State.camApply_eff ..).after hx2 rfl) rfl
  · exact (State.prismApply_eff ..).after hx2 rfl
  · exact (State.prismApply_eff ..).after hx2 rfl
  · exact (State.prismApply_eff ..).after ((State.replayRestart_eff ..).after hx2 rfl) rfl
  · exact (State.showMembers_eff ..).after hx2 rfl
  · exact (State.showMembers_eff ..).after hx2 rfl
  · exact (State.winApply_eff ..).after hx2 rfl
  · exact (State.viewReset_eff ..).after ((State.applyGroup_eff ..).after ((State.viewClose_eff ..).after Eff.refl rfl) rfl) rfl
  · exact (State.umbApply_eff ..).after Eff.refl rfl
  · exact (State.umbApply_eff ..).after Eff.refl rfl
  · exact (State.umbApply_eff ..).after Eff.refl rfl
  · exact (State.umbApply_eff ..).after Eff.refl rfl
  · exact (State.umbApply_eff ..).after Eff.refl rfl
  · exact (State.umbApply_eff ..).after Eff.refl rfl
  · exact Eff.ite (Eff.wr hx2 rfl rfl) hx2
  · exact (State.applyIdleLine_eff ..).after Eff.refl rfl
  · exact (State.applyIdleLine_eff ..).after Eff.refl rfl
  · exact (State.applyIdleLine_eff ..).after Eff.refl rfl
  · exact (State.loopApply_eff ..).after hx2 rfl
  · exact (State.gaApply_eff ..).after hx2 rfl
  · exact (State.zeRingApply_eff ..).after hx2 rfl
  · exact (State.sklApply_eff ..).after hx2 rfl
  · exact (State.ethApply_eff ..).after hx2 rfl
  · exact Eff.ite ((State.delayFresh_eff ..).after hx2 rfl) (Eff.ite ((State.queueApply_eff ..).after hx2 rfl) hx2)

theorem commitApply_eff (idx : Nat) (s : State) :
    Eff (withSide [.time, .free, .staged, .domains, .pool, .out, .mem, .glaze, .pins, .memory, .wheel, .cameras, .prism, .seam,
        .engines, .slip, .kiln, .gauge, .loop, .link]) [.all] s (commitApply idx s) := by
  unfold commitApply
  exact Eff.ite ((State.applyWith_eff ..).after Eff.refl rfl) Eff.refl

theorem commitWrite_eff (a : Acc) (idx : Nat) (s : State) :
    Eff (withSide [.domains, .pool]) [.all] s (commitWrite a idx s) := by
  unfold commitWrite
  extract_lets +onlyGivenNames v1
  clear_value v1
  split
  · generalize eg4 : State.tryCommit _ _ = g4
    obtain ⟨p2, p3⟩ := g4
    refine Eff.have (congrArg (fun p => p.2) eg4).symm ((State.tryCommit_eff ..).after Eff.refl rfl) fun hp3 => ?_
    (try dsimp -zeta -proj only)
    exact (State.done_eff ..).after hp3 rfl
  · exact (State.done_eff ..).after Eff.refl rfl

theorem discardWrite_eff (a : Acc) (idx : Nat) (s : State) :
    Eff (withSide [.staged]) (accAnd [.sub (K.commit 0)]) s (discardWrite a idx s) := by
  unfold discardWrite
  exact Eff.act Eff.refl (fun y1 hy1 => (Eff.wr ((State.reloadShadow_eff ..).after hy1 rfl) rfl (KeySet.any_sub _ rfl))) rfl

theorem execCommit_eff (a : Acc) (idx : Nat) (s : State) {t : State} (h : execCommit a idx s = .next t) :
    Eff (withSide [.domains, .pool]) [.all] s t := by
  unfold execCommit at h
  cases h
  exact (commitWrite_eff ..).after Eff.refl rfl

theorem execCommitApply_eff (idx : Nat) (s : State) {t : State} (h : execCommitApply idx s = .next t) :
    Eff (withSide [.time, .free, .staged, .domains, .pool, .out, .mem, .glaze, .pins, .memory, .wheel, .cameras, .prism, .seam,
        .engines, .slip, .kiln, .gauge, .loop, .link]) [.all] s t := by
  unfold execCommitApply at h
  cases h
  exact (commitApply_eff ..).after Eff.refl rfl

theorem execDiscard_eff (a : Acc) (idx : Nat) (s : State) {t : State} (h : execDiscard a idx s = .next t) :
    Eff (withSide [.staged]) (accAnd [.sub (K.commit 0)]) s t := by
  unfold execDiscard at h
  cases h
  exact (discardWrite_eff ..).after Eff.refl rfl

end Sys2Proof.Machine
end

