-- ==== Sys2Proof/Laws/Show.lean ====
section
/-! SUPPORT. What each operation of Machine/Show.lean may change. -/

-- The proofs of this file are checked one after another, in one thread.
set_option Elab.async false

namespace Sys2Proof.Machine

theorem challengeRead_eff (a : Acc) (s : State) :
    Eff (withSide [.free, .reads, .paths]) (accAnd []) s (challengeRead a s) := by
  unfold challengeRead
  split
  · generalize eg4 : State.fresh _ = g4
    obtain ⟨p1, p2⟩ := g4
    refine Eff.have (congrArg (fun p => p.2) eg4).symm ((State.fresh_eff ..).after Eff.refl rfl) fun hp2 => ?_
    (try dsimp -zeta -proj only)
    extract_lets +onlyGivenNames v3
    clear_value v3
    exact (State.readDone_eff ..).after (Eff.upd_chal hp2 rfl) rfl
  · exact (State.readDone_eff ..).after Eff.refl rfl

theorem State.readEffect_eff (s : State) (a : Acc) (k : Nat) (v : Nat) :
    Eff [.regs] [.all] s (State.readEffect s a k v) := by
  unfold State.readEffect
  extract_lets +onlyGivenNames x1
  clear_value (ex1 : x1 = _)
  refine Eff.have ex1 (by split; exact (Eff.wr Eff.refl rfl (KeySet.any_all rfl)); exact Eff.refl) fun hx1 => ?_
  split
  · exact Eff.ite (Eff.wr hx1 rfl (KeySet.any_all rfl)) hx1
  · exact hx1

theorem plainRead_eff (a : Acc) (k : Nat) (s : State) :
    Eff (withSide [.reads]) [.all] s (plainRead a k s) := by
  unfold plainRead
  extract_lets +onlyGivenNames v1
  clear_value v1
  exact Eff.ite ((State.readDone_eff ..).after ((State.readEffect_eff ..).after Eff.refl rfl) rfl) ((State.readDone_eff ..).after
      Eff.refl rfl)

theorem readEntry_eff (a : Acc) (k : Nat) (s : State) :
    Eff (withSide [.free, .reads, .paths]) [.all] s (readEntry a k s) := by
  unfold readEntry
  exact Eff.ite ((challengeRead_eff ..).after Eff.refl rfl) (Eff.ite ((maskSyncRead_eff ..).after Eff.refl rfl) (Eff.ite
      ((claimRead_eff ..).after Eff.refl rfl) ((plainRead_eff ..).after Eff.refl rfl)))

theorem execChallenge_eff (a : Acc) (s : State) {t : State} (h : execChallenge a s = .next t) :
    Eff (withSide [.free, .reads, .paths]) (accAnd []) s t := by
  unfold execChallenge at h
  cases h
  exact (challengeRead_eff ..).after Eff.refl rfl

theorem execReadClearExtreme_eff (a : Acc) (k : Nat) (s : State) {t : State} (h : execReadClearExtreme a k s = .next t) :
    Eff (withSide [.reads]) [.all] s t := by
  unfold execReadClearExtreme at h
  cases h
  exact (plainRead_eff ..).after Eff.refl rfl

theorem execTimeRead_eff (a : Acc) (k : Nat) (s : State) {t : State} (h : execTimeRead a k s = .next t) :
    Eff (withSide [.reads]) [.all] s t := by
  unfold execTimeRead at h
  cases h
  exact (plainRead_eff ..).after Eff.refl rfl

end Sys2Proof.Machine
end

