-- ==== Sys2Proof/Laws/Dict.lean ====
section
/-! SUPPORT. What each operation of Machine/Dict.lean may change. -/

-- The proofs of this file are checked one after another, in one thread.
set_option Elab.async false

namespace Sys2Proof.Machine

theorem State.storeEffect_eff (s : State) (k : Nat) (old : Nat) :
    Eff (withSide [.time, .device, .boot, .pins, .wheel]) (sideAnd [.fam (K.alarmAlarmEnable 0) 4, .fam (K.alarmAlarmStatus 0) 4,
        .one K.devDeviceState, .one K.devStateChanges, .one K.devStateTime, .one K.kilnSpeedLimit, .one K.pwrPowerPhase, .one
        K.pwrWakeCause, .one K.timeSyncState, .one K.whlActiveMaster]) s (State.storeEffect s k old) := by
  unfold State.storeEffect
  exact Eff.ite ((State.selectMaster_eff ..).after Eff.refl rfl) (Eff.ite ((State.crossFix_eff ..).after Eff.refl rfl) (Eff.ite
      ((State.softLock_eff ..).after Eff.refl rfl) (Eff.ite ((alarmLate_eff ..).after Eff.refl rfl) (Eff.ite ((State.ppsPin_eff
      ..).after Eff.refl rfl) (Eff.ite ((State.ppsDrive_eff ..).after Eff.refl rfl) (Eff.ite (Eff.upd_wdog Eff.refl rfl) (Eff.ite
      ((State.wakeOnLevel_eff ..).after (Eff.ite ((State.release_eff ..).after Eff.refl rfl) Eff.refl) rfl) (Eff.ite
      ((State.wakeOnLevel_eff ..).after Eff.refl rfl) (Eff.ite ((State.speedRequest_eff ..).after (Eff.ite ((State.release_eff
      ..).after Eff.refl rfl) Eff.refl) rfl) (Eff.ite ((State.speedRequest_eff ..).after Eff.refl rfl) (Eff.ite
      ((State.hostSignal_eff ..).after Eff.refl rfl) Eff.refl)))))))))))

theorem State.store_eff (s : State) (k : Nat) (v : Nat) :
    Eff [.regs, .staged] [.all] s (State.store s k v) := by
  unfold State.store
  split
  · exact Eff.refl
  · split
    · exact Eff.wr Eff.refl rfl (KeySet.any_all rfl)
    · exact Eff.wr Eff.refl rfl (KeySet.any_all rfl)
    · exact (State.stage_eff ..).after Eff.refl rfl
    · exact Eff.wr Eff.refl rfl (KeySet.any_all rfl)
    · exact Eff.ite (Eff.wr Eff.refl rfl (KeySet.any_all rfl)) Eff.refl
    · exact Eff.refl

theorem storeWrite_eff (a : Acc) (k : Nat) (s : State) :
    Eff (withSide [.time, .device, .staged, .boot, .pins, .wheel]) [.all] s (storeWrite a k s) := by
  unfold storeWrite
  exact Eff.act Eff.refl (fun y1 hy1 => ((State.storeEffect_eff ..).after ((State.store_eff ..).after hy1 rfl) rfl)) rfl

theorem State.setOwn_eff (s : State) (a1 : Nat) (b : Nat) :
    Eff [.owners] [] s (State.setOwn s a1 b) := by
  unfold State.setOwn
  exact Eff.upd_own Eff.refl rfl

theorem State.ownApply_eff (s : State) (v : Nat) :
    Eff [.owners] [] s (State.ownApply s v) := by
  unfold State.ownApply
  extract_lets +onlyGivenNames v1
  clear_value v1
  extract_lets +onlyGivenNames v2
  clear_value v2
  split
  · exact (State.setOwn_eff ..).after Eff.refl rfl
  · exact (State.setOwn_eff ..).after Eff.refl rfl
  · exact (State.setOwn_eff ..).after Eff.refl rfl
  · exact (State.setOwn_eff ..).after Eff.refl rfl

theorem State.proofFail_eff (s : State) :
    Eff [.paths] [] s (State.proofFail s) := by
  unfold State.proofFail
  extract_lets +onlyGivenNames v1
  clear_value v1
  exact Eff.ite (Eff.upd_chal Eff.refl rfl) (Eff.upd_chal Eff.refl rfl)

theorem approveEntry_eff (a : Acc) (s : State) :
    Eff (withSide [.domains, .mem, .loop]) (accAnd [.fam (K.lslotHoldReason 0) 8, .fam (K.portBytesRead 0) 12, .fam
        (K.portBytesWritten 0) 12, .fam (K.stripStripErr 0) 16, .fam (K.stripStripRef 0) 16, .one K.dramLastMapError, .one
        K.dramMapErrors, .one K.dramMemStatus, .one K.loopsApproveTime, .one K.loopsFrozenNozzles, .one K.loopsLoopState, .one
        K.loopsStatus]) s (approveEntry a s) := by
  unfold approveEntry
  split
  · exact (approveSet_eff ..).after Eff.refl rfl
  · exact (unlockSet_eff ..).after Eff.refl rfl
  · exact (holdSet_eff ..).after Eff.refl rfl
  · exact (resumeSet_eff ..).after Eff.refl rfl
  · exact (restoreSet_eff ..).after Eff.refl rfl
  · exact Eff.act Eff.refl (fun y1 hy1 => hy1) rfl

theorem dropWrite_eff (a : Acc) (p : Nat) (s : State) :
    Eff sideParts (accAnd [.fam (K.pathSecure 0) 7]) s (dropWrite a p s) := by
  unfold dropWrite
  exact Eff.act Eff.refl (fun y1 hy1 => (Eff.ite (Eff.wr hy1 rfl (KeySet.any_fam _ rfl)) hy1)) rfl

theorem execDrop_eff (a : Acc) (p : Nat) (s : State) {t : State} (h : execDrop a p s = .next t) :
    Eff sideParts (accAnd [.fam (K.pathSecure 0) 7]) s t := by
  unfold execDrop at h
  exact Eff.to (inst_next h).2.symm ((dropWrite_eff ..).after Eff.refl rfl)

theorem ownWrite_eff (a : Acc) (s : State) :
    Eff (withSide [.owners]) (accAnd []) s (ownWrite a s) := by
  unfold ownWrite
  exact Eff.act Eff.refl (fun y1 hy1 => ((State.ownApply_eff ..).after hy1 rfl)) rfl

theorem execGive_eff (a : Acc) (target : Nat) (newOwner : Nat) (s : State) {t : State} (h : execGive a target newOwner s = .next
    t) :
    Eff (withSide [.owners]) (accAnd []) s t := by
  unfold execGive at h
  cases h
  exact (ownWrite_eff ..).after Eff.refl rfl

theorem execLock_eff (a : Acc) (target : Nat) (s : State) {t : State} (h : execLock a target s = .next t) :
    Eff (withSide [.owners]) (accAnd []) s t := by
  unfold execLock at h
  cases h
  exact (ownWrite_eff ..).after Eff.refl rfl

theorem proofGoWrite_eff (a : Acc) (s : State) :
    Eff (withSide [.paths]) (accAnd [.fam (K.pathSecure 0) 7]) s (proofGoWrite a s) := by
  unfold proofGoWrite
  extract_lets +onlyGivenNames v1
  clear_value v1
  split
  · exact Eff.ite ((State.done_eff ..).after Eff.refl rfl) (Eff.ite ((State.done_eff ..).after Eff.refl rfl) (Eff.ite
      ((State.done_eff ..).after (Eff.wr (Eff.upd_chal Eff.refl rfl) rfl (KeySet.any_fam _ rfl)) rfl) ((State.done_eff ..).after
      ((State.proofFail_eff ..).after Eff.refl rfl) rfl)))
  · exact (State.done_eff ..).after Eff.refl rfl

theorem execProofGo_eff (a : Acc) (s : State) {t : State} (h : execProofGo a s = .next t) :
    Eff (withSide [.paths]) (accAnd [.fam (K.pathSecure 0) 7]) s t := by
  unfold execProofGo at h
  cases h
  exact (proofGoWrite_eff ..).after Eff.refl rfl

theorem proofLockoutEnd_eff (s : State) :
    Eff [.clock, .paths] [] s (proofLockoutEnd s) := by
  unfold proofLockoutEnd
  split
  · exact Eff.refl
  · extract_lets +onlyGivenNames x1
    clear_value (ex1 : x1 = _)
    refine Eff.have ex1 ((State.at_eff ..).after Eff.refl rfl) fun hx1 => ?_
    exact Eff.upd_chal hx1 rfl

theorem execProofLockoutEnd_eff (s : State) {t : State} (h : execProofLockoutEnd s = .next t) :
    Eff [.clock, .paths] [] s t := by
  unfold execProofLockoutEnd at h
  cases h
  exact (proofLockoutEnd_eff ..).after Eff.refl rfl

theorem execSetOpen_eff (a : Acc) (target : Nat) (s : State) {t : State} (h : execSetOpen a target s = .next t) :
    Eff (withSide [.owners]) (accAnd []) s t := by
  unfold execSetOpen at h
  cases h
  exact (ownWrite_eff ..).after Eff.refl rfl

theorem execSetSecure_eff (a : Acc) (target : Nat) (s : State) {t : State} (h : execSetSecure a target s = .next t) :
    Eff (withSide [.owners]) (accAnd []) s t := by
  unfold execSetSecure at h
  cases h
  exact (ownWrite_eff ..).after Eff.refl rfl

theorem scanAbortEntry_eff (a : Acc) (s : State) :
    Eff (withSide [.free, .pins, .memory, .kiln, .gauge, .loop]) (accAnd (joinKeys [.fam (K.gasActiveBank 0) 16, .fam
        (K.gasFadeState 0) 16, .fam (K.gasLatest 0) 16, .fam (K.gasLost 0) 16, .fam (K.gasSamples 0) 16, .fam (K.gasSettleLeft 0)
        16, .fam (K.gasStatus 0) 16, .fam (K.khHeadState 0) 128, .fam (K.khHeadStatus 0) 128, .fam (K.kpFaultCount 0) 32, .fam
        (K.kpLastFaultTime 0) 32, .fam (K.kpPortState 0) 32, .fam (K.kpPortStatus 0) 32, .fam (K.qsFill 0) 64, .fam (K.qsFillPeak
        0) 64, .fam (K.qsItemsIn 0) 64, .fam (K.qsNoCreditCount 0) 64, .fam (K.qsQueueStatus 0) 64, .one K.fltFaultStatus, .one
        K.fltLastRetiredUnit, .one K.fltRetiredCount, .one K.fltTransientCount, .one K.gauScanHold, .one K.kilnActiveHeads] [.one
        K.kilnKilnStatus, .one K.quesSizeErrors, .one K.scanScanStatus])) s (scanAbortEntry a s) := by
  unfold scanAbortEntry
  unfold withAcks
  generalize eg3 : State.fresh _ = g3
  obtain ⟨p1, p2⟩ := g3
  refine Eff.have (congrArg (fun p => p.2) eg3).symm ((State.fresh_eff ..).after Eff.refl rfl) fun hp2 => ?_
  (try dsimp -zeta -proj only)
  exact (scanAbortWrite_eff ..).after hp2 rfl

theorem scanGoEntry_eff (a : Acc) (s : State) :
    Eff (withSide [.free, .pins, .memory, .kiln, .gauge, .loop]) (accAnd (joinKeys [.fam (K.gasActiveBank 0) 16, .fam
        (K.gasCalStatus 0) 16, .fam (K.gasFadeState 0) 16, .fam (K.gasLatest 0) 16, .fam (K.gasLost 0) 16, .fam (K.gasSamples 0)
        16, .fam (K.gasSettleLeft 0) 16, .fam (K.gasStatus 0) 16, .fam (K.khHeadState 0) 128, .fam (K.khHeadStatus 0) 128, .fam
        (K.kpFaultCount 0) 32, .fam (K.kpLastFaultTime 0) 32, .fam (K.kpPortState 0) 32, .fam (K.kpPortStatus 0) 32, .fam
        (K.qsFill 0) 64, .fam (K.qsFillPeak 0) 64, .fam (K.qsItemsIn 0) 64, .fam (K.qsNoCreditCount 0) 64, .fam (K.qsQueueStatus
        0) 64, .one K.fltFaultStatus, .one K.fltLastRetiredUnit, .one K.fltRetiredCount, .one K.fltTransientCount, .one
        K.gauScanHold] [.one K.kilnActiveHeads, .one K.kilnKilnStatus, .one K.quesSizeErrors, .one K.scanScanMeasured, .one
        K.scanScanOut, .one K.scanScanSkipped, .one K.scanScanStatus])) s (scanGoEntry a s) := by
  unfold scanGoEntry
  unfold withAcks
  generalize eg3 : State.fresh _ = g3
  obtain ⟨p1, p2⟩ := g3
  refine Eff.have (congrArg (fun p => p.2) eg3).symm ((State.fresh_eff ..).after Eff.refl rfl) fun hp2 => ?_
  (try dsimp -zeta -proj only)
  exact (scanGoWrite_eff ..).after hp2 rfl

theorem stateRequestWrite_eff (a : Acc) (s : State) :
    Eff (withSide [.free, .device, .out, .mem, .boot, .pins, .memory, .wheel, .cameras, .prism, .seam, .engines, .slip, .kiln,
        .gauge, .umbra, .loop]) [.all] s (stateRequestWrite a s) := by
  unfold stateRequestWrite
  split
  · unfold withAcks
    generalize eg3 : State.fresh _ = g3
    obtain ⟨p1, p2⟩ := g3
    refine Eff.have (congrArg (fun p => p.2) eg3).symm ((State.fresh_eff ..).after Eff.refl rfl) fun hp2 => ?_
    (try dsimp -zeta -proj only)
    exact (armWrite_eff ..).after hp2 rfl
  · exact (runWrite_eff ..).after Eff.refl rfl
  · exact (stopWrite_eff ..).after Eff.refl rfl
  · exact (disarmWrite_eff ..).after Eff.refl rfl
  · unfold withAcks
    generalize eg6 : State.fresh _ = g6
    obtain ⟨p4, p5⟩ := g6
    refine Eff.have (congrArg (fun p => p.2) eg6).symm ((State.fresh_eff ..).after Eff.refl rfl) fun hp5 => ?_
    (try dsimp -zeta -proj only)
    exact (sleepWrite_eff ..).after hp5 rfl
  · exact (wakeWrite_eff ..).after Eff.refl rfl
  · exact Eff.act Eff.refl (fun y7 hy7 => hy7) rfl

end Sys2Proof.Machine
end

