-- ==== Sys2Proof/Laws/Access.lean ====
section
/-! SUPPORT. What each operation of Machine/Access.lean may change. -/

-- The proofs of this file are checked one after another, in one thread.
set_option Elab.async false

namespace Sys2Proof.Machine

theorem State.mailboxEnd_eff (s : State) (status : Nat) :
    Eff sideParts (sideAnd [.one K.mbxDictStatus]) s (State.mailboxEnd s status) := by
  unfold State.mailboxEnd
  exact Eff.arrive ((State.raise_eff ..).after (Eff.wr Eff.refl rfl rfl) rfl) rfl

theorem State.mailboxSend_eff (s : State) :
    Eff (withSide [.link]) (sideAnd [.fam (K.spsPortStatus 0) 2, .fam (K.spsQueueDrops 0) 2, .one K.mbxDictStatus, .one
        K.sklLinkStatus, .one K.sklNoRoute]) s (State.mailboxSend s) := by
  unfold State.mailboxSend
  extract_lets +onlyGivenNames v1
  clear_value v1
  extract_lets +onlyGivenNames v2
  clear_value v2
  extract_lets +onlyGivenNames v3
  clear_value v3
  extract_lets +onlyGivenNames v4
  clear_value v4
  extract_lets +onlyGivenNames x5
  clear_value (ex5 : x5 = _)
  refine Eff.have ex5 ((State.setSkl_eff ..).after (Eff.wr Eff.refl rfl rfl) rfl) fun hx5 => ?_
  split
  · rename_i q6
    exact (State.setSkl_eff ..).after (Eff.to (congrArg (fun p => p.2) q6).symm ((State.unicast_eff ..).after hx5 rfl)) rfl
  · rename_i q7
    exact (State.mailboxEnd_eff ..).after (Eff.to (congrArg (fun p => p.2) q7).symm ((State.unicast_eff ..).after hx5 rfl)) rfl

theorem dictGoWrite_eff (a : Acc) (s : State) :
    Eff (withSide [.link]) (accAnd [.fam (K.spsPortStatus 0) 2, .fam (K.spsQueueDrops 0) 2, .one K.mbxDictStatus, .one
        K.sklLinkStatus, .one K.sklNoRoute]) s (dictGoWrite a s) := by
  unfold dictGoWrite
  extract_lets +onlyGivenNames v1
  clear_value v1
  exact Eff.act Eff.refl (fun y2 hy2 => (Eff.ite ((State.mailboxSend_eff ..).after hy2 rfl) hy2)) rfl

theorem domGoWrite_eff (a : Acc) (p : Nat) (s : State) :
    Eff (withSide [.paths]) (accAnd [.fam (K.pathDomStatus 0) 7]) s (domGoWrite a p s) := by
  unfold domGoWrite
  extract_lets +onlyGivenNames v1
  clear_value v1
  exact Eff.act Eff.refl (fun y2 hy2 => (Eff.ite (Eff.wr (Eff.upd_xfers hy2 rfl) rfl (KeySet.any_fam _ rfl)) hy2)) rfl

theorem State.glazePut_eff (s : State) (off : Nat) (b : Nat) :
    Eff [.glaze] [] s (State.glazePut s off b) := by
  unfold State.glazePut
  extract_lets +onlyGivenNames v1
  clear_value v1
  extract_lets +onlyGivenNames v2
  clear_value v2
  exact (State.setGlaze_eff ..).after Eff.refl rfl

theorem glazePuts_eff (a1 : Nat) (a2 : List Nat) (s : State) :
    Eff [.glaze] [] s (glazePuts a1 a2 s) := by
  unfold glazePuts
  split
  · exact Eff.refl
  · exact (glazePuts_eff ..).after ((State.glazePut_eff ..).after Eff.refl rfl) rfl

theorem State.domPut_eff (s : State) (k : Nat) (off : Nat) (l : List Nat) :
    Eff [.regs, .staged, .domains, .glaze] [.one K.lineLineKeySet] s (State.domPut s k off l) := by
  unfold State.domPut
  split
  · exact Eff.refl
  · exact Eff.ite ((State.shDomWrite_eff ..).after Eff.refl rfl) (Eff.ite ((glazePuts_eff ..).after Eff.refl rfl) (Eff.ite (Eff.wr
      ((State.domWrite_eff ..).after Eff.refl rfl) rfl rfl) ((State.domWrite_eff ..).after Eff.refl rfl)))

theorem State.xferCore_eff (s : State) (p : Nat) (a1 : Xfer) (n : Nat) :
    Eff [.regs, .staged, .domains, .mem, .glaze] [.fam (K.portBytesRead 0) 12, .fam (K.portBytesWritten 0) 12, .one
        K.lineLineKeySet] s (State.xferCore s p a1 n) := by
  unfold State.xferCore
  exact Eff.ite (Eff.add ((State.domPut_eff ..).after Eff.refl rfl) rfl (KeySet.any_fam _ rfl)) (Eff.add (Eff.upd_mem Eff.refl rfl
      (fun h => Memory.wf_memPuts _ _ h)) rfl (KeySet.any_fam _ rfl))

theorem State.xferEnd_eff (s : State) (p : Nat) (status : Nat) :
    Eff (withSide [.paths]) (sideAnd [.fam (K.pathDomStatus 0) 7]) s (State.xferEnd s p status) := by
  unfold State.xferEnd
  exact (State.raise_eff ..).after (Eff.wr (Eff.upd_xfers Eff.refl rfl) rfl (KeySet.any_fam _ rfl)) rfl

theorem State.xferHost_eff (s : State) (a1 : Xfer) (host : List Nat) (n : Nat) :
    Eff [.regs, .staged, .domains, .out, .glaze] [.one K.lineLineKeySet] s (State.xferHost s a1 host n) := by
  unfold State.xferHost
  exact Eff.ite ((State.domPut_eff ..).after Eff.refl rfl) (Eff.upd_hostOut Eff.refl rfl)

theorem domainTransferDone_eff (p : Nat) (host : List Nat) (failAt : Option Nat) (s : State) :
    Eff (withSide [.staged, .domains, .paths, .out, .mem, .glaze]) (sideAnd [.fam (K.pathDomStatus 0) 7, .fam (K.portBytesRead 0)
        12, .fam (K.portBytesWritten 0) 12, .one K.dramLastMapError, .one K.dramMapErrors, .one K.dramMemStatus, .one
        K.lineLineKeySet, .one K.pcieCplErrors, .one K.pciePcieStatus]) s (domainTransferDone p host failAt s) := by
  unfold domainTransferDone
  split
  · exact Eff.refl
  · refine Eff.ite ?_ ?_
    · extract_lets +onlyGivenNames v1
      clear_value v1
      extract_lets +onlyGivenNames x2
      clear_value (ex2 : x2 = _)
      refine Eff.have ex2 (Eff.ite Eff.refl ((State.xferHost_eff ..).after Eff.refl rfl)) fun hx2 => ?_
      exact Eff.ite ((State.xferEnd_eff ..).after hx2 rfl) ((State.xferEnd_eff ..).after ((State.cplError_eff ..).after hx2 rfl)
          rfl)
    · extract_lets +onlyGivenNames v3
      clear_value v3
      extract_lets +onlyGivenNames x4
      clear_value (ex4 : x4 = _)
      refine Eff.have ex4 (Eff.ite Eff.refl ((State.xferCore_eff ..).after Eff.refl rfl)) fun hx4 => ?_
      exact Eff.ite ((State.xferEnd_eff ..).after hx4 rfl) ((State.xferEnd_eff ..).after ((State.mapError_eff ..).after hx4 rfl)
          rfl)

theorem execDictGo_eff (a : Acc) (s : State) {t : State} (h : execDictGo a s = .next t) :
    Eff (withSide [.link]) (accAnd [.fam (K.spsPortStatus 0) 2, .fam (K.spsQueueDrops 0) 2, .one K.mbxDictStatus, .one
        K.sklLinkStatus, .one K.sklNoRoute]) s t := by
  unfold execDictGo at h
  cases h
  exact (dictGoWrite_eff ..).after Eff.refl rfl

theorem execDomGo_eff (a : Acc) (p : Nat) (s : State) {t : State} (h : execDomGo a p s = .next t) :
    Eff (withSide [.paths]) (accAnd [.fam (K.pathDomStatus 0) 7]) s t := by
  unfold execDomGo at h
  exact Eff.to (inst_next h).2.symm ((domGoWrite_eff ..).after Eff.refl rfl)

theorem execDomainTransferDone_eff (p : Nat) (host : List Nat) (failAt : Option Nat) (s : State) {t : State} (h :
    execDomainTransferDone p host failAt s = .next t) :
    Eff (withSide [.staged, .domains, .paths, .out, .mem, .glaze]) (sideAnd [.fam (K.pathDomStatus 0) 7, .fam (K.portBytesRead 0)
        12, .fam (K.portBytesWritten 0) 12, .one K.dramLastMapError, .one K.dramMapErrors, .one K.dramMemStatus, .one
        K.lineLineKeySet, .one K.pcieCplErrors, .one K.pciePcieStatus]) s t := by
  unfold execDomainTransferDone at h
  cases h
  exact (domainTransferDone_eff ..).after Eff.refl rfl

theorem groupWrite_eff (idx : Nat) (a : Acc) (s : State) :
    Eff (withSide [.staged, .domains, .pool]) [.all] s (groupWrite idx a s) := by
  unfold groupWrite
  split
  · exact (commitWrite_eff ..).after Eff.refl rfl
  · exact (discardWrite_eff ..).after Eff.refl rfl
  · exact Eff.act Eff.refl (fun y1 hy1 => hy1) rfl

end Sys2Proof.Machine
end

