-- ==== Sys2Proof/Laws/Udp.lean ====
section
/-! SUPPORT. What each operation of Machine/Udp.lean may change. -/

-- The proofs of this file are checked one after another, in one thread.
set_option Elab.async false

namespace Sys2Proof.Machine

theorem State.closeSess_eff (s : State) (i : Nat) :
    Eff [.regs, .paths] [.one K.udpSessionsOpen] s (State.closeSess s i) := by
  unfold State.closeSess
  extract_lets +onlyGivenNames v1
  clear_value v1
  exact Eff.wr (Eff.upd_sessions Eff.refl rfl) rfl rfl

theorem State.setSess_eff (s : State) (i : Nat) (a1 : Sess) :
    Eff [.regs, .paths] [.one K.udpSessionsOpen] s (State.setSess s i a1) := by
  unfold State.setSess
  extract_lets +onlyGivenNames v1
  clear_value v1
  exact Eff.wr (Eff.upd_sessions Eff.refl rfl) rfl rfl

theorem State.udpReply_eff (s : State) (eth : Nat) (addr : Nat) (port : Nat) (l : List Nat) :
    Eff [.regs, .out] [.fam (K.ethsFramesOut 0) 2] s (State.udpReply s eth addr port l) := by
  unfold State.udpReply
  exact (State.udpSend_eff ..).after Eff.refl rfl

theorem State.udpAnswer_eff (s : State) (i : Nat) (seq : Nat) (target : Nat) (count : Nat) (error : Option Nat) (body : List Nat)
    :
    Eff [.regs, .paths, .out] [.fam (K.ethsFramesOut 0) 2, .one K.udpSessionsOpen] s (State.udpAnswer s i seq target count error
        body) := by
  unfold State.udpAnswer
  split
  · exact Eff.refl
  · extract_lets +onlyGivenNames v1
    clear_value v1
    extract_lets +onlyGivenNames x2
    clear_value (ex2 : x2 = _)
    refine Eff.have ex2 (Eff.ite ((State.setSess_eff ..).after Eff.refl rfl) Eff.refl) fun hx2 => ?_
    exact (State.udpReply_eff ..).after hx2 rfl

theorem State.dictResponse_eff (s : State) (m : Msg) :
    Eff (withSide [.domains, .paths, .out, .link]) (sideAnd [.fam (K.ethsFramesOut 0) 2, .one K.mbxDictStatus, .one
        K.udpSessionsOpen]) s (State.dictResponse s m) := by
  unfold State.dictResponse
  split
  · exact Eff.refl
  · extract_lets +onlyGivenNames v1
    clear_value v1
    extract_lets +onlyGivenNames x2
    clear_value (ex2 : x2 = _)
    refine Eff.have ex2 ((State.setSkl_eff ..).after Eff.refl rfl) fun hx2 => ?_
    extract_lets +onlyGivenNames v3
    clear_value v3
    split
    · exact (State.udpAnswer_eff ..).after hx2 rfl
    · extract_lets +onlyGivenNames x4
      clear_value (ex4 : x4 = _)
      refine Eff.have ex4 (Eff.upd_domLens hx2 rfl) fun hx4 => ?_
      exact (State.mailboxEnd_eff ..).after ((State.domWrite_eff ..).after hx4 rfl) rfl

theorem State.udpError_eff (s : State) (g : Datagram) (a1 : Sess) (session : Nat) (status : Nat) :
    Eff [.regs, .out] [.fam (K.ethsFramesOut 0) 2] s (State.udpError s g a1 session status) := by
  unfold State.udpError
  exact (State.udpReply_eff ..).after Eff.refl rfl

theorem recRead_eff (p : RecPath) (r : DRec) (s : State) :
    Eff (withSide [.free, .reads, .paths]) [.all] s (recRead p r s).2.2 := by
  unfold recRead
  extract_lets +onlyGivenNames v1
  clear_value v1
  extract_lets +onlyGivenNames v2
  clear_value v2
  split
  · extract_lets +onlyGivenNames x3
    clear_value (ex3 : x3 = _)
    refine Eff.have ex3 ((readEntry_eff ..).after Eff.refl rfl) fun hx3 => ?_
    extract_lets +onlyGivenNames v4
    clear_value v4
    exact Eff.pair22 (Eff.pair2 hx3)
  · exact Eff.pair22 (Eff.pair2 ((State.readDone_eff ..).after Eff.refl rfl))

theorem recDomRead_eff (p : RecPath) (room : Nat) (r : DRec) (s : State) :
    Eff sideParts (accAnd []) s (recDomRead p room r s).2.2 := by
  unfold recDomRead
  extract_lets +onlyGivenNames v1
  clear_value v1
  extract_lets +onlyGivenNames v2
  clear_value v2
  extract_lets +onlyGivenNames v3
  clear_value v3
  extract_lets +onlyGivenNames v4
  clear_value v4
  extract_lets +onlyGivenNames v5
  clear_value v5
  exact Eff.pair22 (Eff.pair2 ((State.done_eff ..).after Eff.refl rfl))

theorem recDomWrite_eff (p : RecPath) (r : DRec) (s : State) :
    Eff (withSide [.staged, .domains, .glaze]) (accAnd [.one K.lineLineKeySet]) s (recDomWrite p r s).2.2 := by
  unfold recDomWrite
  extract_lets +onlyGivenNames v1
  clear_value v1
  extract_lets +onlyGivenNames v2
  clear_value v2
  extract_lets +onlyGivenNames v3
  clear_value v3
  extract_lets +onlyGivenNames v4
  clear_value v4
  extract_lets +onlyGivenNames v5
  clear_value v5
  exact Eff.pair22 (Eff.pair2 ((State.done_eff ..).after (Eff.ite ((State.domPut_eff ..).after Eff.refl rfl) Eff.refl) rfl))

theorem State.udpForward_eff (s : State) (g : Datagram) (a1 : Sess) (i : Nat) (count : Nat) :
    Eff (withSide [.paths, .out, .link]) (sideAnd [.fam (K.ethsFramesOut 0) 2, .fam (K.spsPortStatus 0) 2, .fam (K.spsQueueDrops
        0) 2, .one K.sklLinkStatus, .one K.sklNoRoute, .one K.udpSessionsOpen]) s (State.udpForward s g a1 i count) := by
  unfold State.udpForward
  extract_lets +onlyGivenNames v1
  clear_value v1
  extract_lets +onlyGivenNames v2
  clear_value v2
  extract_lets +onlyGivenNames x3
  clear_value (ex3 : x3 = _)
  refine Eff.have ex3 ((State.setSess_eff ..).after Eff.refl rfl) fun hx3 => ?_
  refine Eff.ite ?_ ?_
  · exact (State.udpError_eff ..).after hx3 rfl
  · split
    · rename_i q4
      exact (State.setSkl_eff ..).after (Eff.to (congrArg (fun p => p.2) q4).symm ((State.unicast_eff ..).after ((State.setSkl_eff
          ..).after hx3 rfl) rfl)) rfl
    · rename_i q5
      exact (State.udpError_eff ..).after (Eff.to (congrArg (fun p => p.2) q5).symm ((State.unicast_eff ..).after
          ((State.setSkl_eff ..).after hx3 rfl) rfl)) rfl

theorem dictTimeout_eff (s : State) :
    Eff (withSide [.clock, .paths, .out, .link]) (sideAnd [.fam (K.ethsFramesOut 0) 2, .one K.mbxDictStatus, .one
        K.udpSessionsOpen]) s (dictTimeout s) := by
  unfold dictTimeout
  split
  · exact Eff.refl
  · extract_lets +onlyGivenNames v1
    clear_value v1
    extract_lets +onlyGivenNames x2
    clear_value (ex2 : x2 = _)
    refine Eff.have ex2 ((State.setSkl_eff ..).after ((State.at_eff ..).after Eff.refl rfl) rfl) fun hx2 => ?_
    split
    · exact (State.udpAnswer_eff ..).after hx2 rfl
    · exact (State.mailboxEnd_eff ..).after hx2 rfl

theorem udpClose_eff (g : Datagram) (s : State) :
    Eff [.regs, .paths] [.one K.udpSessionsOpen] s (udpClose g s) := by
  unfold udpClose
  exact (State.closeSess_eff ..).after Eff.refl rfl

theorem execClose_eff (g : Datagram) (s : State) {t : State} (h : execClose g s = .next t) :
    Eff [.regs, .paths] [.one K.udpBadTagCount, .one K.udpOversizeCount, .one K.udpSessionsOpen] s t := by
  unfold execClose at h
  cases h
  unfold udpTake
  split
  · exact Eff.refl
  · exact Eff.inc Eff.refl rfl rfl
  · exact Eff.inc Eff.refl rfl rfl
  · exact (udpClose_eff ..).after Eff.refl rfl

theorem execDictTimeout_eff (s : State) {t : State} (h : execDictTimeout s = .next t) :
    Eff (withSide [.clock, .paths, .out, .link]) (sideAnd [.fam (K.ethsFramesOut 0) 2, .one K.mbxDictStatus, .one
        K.udpSessionsOpen]) s t := by
  unfold execDictTimeout at h
  cases h
  exact (dictTimeout_eff ..).after Eff.refl rfl

theorem openProof_eff (g : Datagram) (s : State) :
    Eff [.regs, .paths, .out] [.fam (K.ethsFramesOut 0) 2, .one K.udpSessionsOpen] s (openProof g s) := by
  unfold openProof
  extract_lets +onlyGivenNames v1
  clear_value v1
  split
  · exact Eff.refl
  · extract_lets +onlyGivenNames v2
    clear_value v2
    split
    · exact (State.udpError_eff ..).after ((State.setSess_eff ..).after Eff.refl rfl) rfl
    · refine Eff.ite ?_ ?_
      · exact (State.udpError_eff ..).after ((State.setSess_eff ..).after Eff.refl rfl) rfl
      · refine Eff.ite ?_ ?_
        · exact (State.udpError_eff ..).after ((State.setSess_eff ..).after Eff.refl rfl) rfl
        · extract_lets +onlyGivenNames v3
          clear_value v3
          exact (State.udpReply_eff ..).after ((State.setSess_eff ..).after Eff.refl rfl) rfl

theorem execOpenProof_eff (g : Datagram) (s : State) {t : State} (h : execOpenProof g s = .next t) :
    Eff [.regs, .paths, .out] [.fam (K.ethsFramesOut 0) 2, .one K.udpBadTagCount, .one K.udpOversizeCount, .one K.udpSessionsOpen]
        s t := by
  unfold execOpenProof at h
  cases h
  unfold udpTake
  split
  · exact Eff.refl
  · exact Eff.inc Eff.refl rfl rfl
  · exact Eff.inc Eff.refl rfl rfl
  · exact (openProof_eff ..).after Eff.refl rfl

theorem openReq_eff (g : Datagram) (s : State) :
    Eff [.free, .regs, .paths, .out] [.fam (K.ethsFramesOut 0) 2, .one K.udpSessionsOpen] s (openReq g s) := by
  unfold openReq
  extract_lets +onlyGivenNames v1
  clear_value v1
  refine Eff.ite ?_ ?_
  · exact (State.udpError_eff ..).after Eff.refl rfl
  · refine Eff.ite ?_ ?_
    · exact (State.udpError_eff ..).after Eff.refl rfl
    · split
      · exact (State.udpError_eff ..).after Eff.refl rfl
      · generalize eg9 : State.fresh _ = g9
        obtain ⟨p2, p3⟩ := g9
        refine Eff.have (congrArg (fun p => p.2) eg9).symm ((State.fresh_eff ..).after Eff.refl rfl) fun hp3 => ?_
        (try dsimp -zeta -proj only)
        generalize eg8 : State.fresh _ = g8
        obtain ⟨p4, p5⟩ := g8
        refine Eff.have (congrArg (fun p => p.2) eg8).symm ((State.fresh_eff ..).after hp3 rfl) fun hp5 => ?_
        extract_lets +onlyGivenNames v6
        clear_value v6
        extract_lets +onlyGivenNames v7
        clear_value v7
        exact (State.udpReply_eff ..).after ((State.setSess_eff ..).after hp5 rfl) rfl

theorem execOpenReq_eff (g : Datagram) (s : State) {t : State} (h : execOpenReq g s = .next t) :
    Eff [.free, .regs, .paths, .out] [.fam (K.ethsFramesOut 0) 2, .one K.udpBadTagCount, .one K.udpOversizeCount, .one
        K.udpSessionsOpen] s t := by
  unfold execOpenReq at h
  cases h
  unfold udpTake
  split
  · exact Eff.refl
  · exact Eff.inc Eff.refl rfl rfl
  · exact Eff.inc Eff.refl rfl rfl
  · exact (openReq_eff ..).after Eff.refl rfl

theorem sessionTimeout_eff (i : Nat) (s : State) :
    Eff [.clock, .regs, .paths] [.one K.udpSessionsOpen] s (sessionTimeout i s) := by
  unfold sessionTimeout
  split
  · exact Eff.refl
  · exact Eff.ite Eff.refl ((State.closeSess_eff ..).after ((State.at_eff ..).after Eff.refl rfl) rfl)

theorem execSessionTimeout_eff (i : Nat) (s : State) {t : State} (h : execSessionTimeout i s = .next t) :
    Eff [.clock, .regs, .paths] [.one K.udpSessionsOpen] s t := by
  unfold execSessionTimeout at h
  cases h
  exact (sessionTimeout_eff ..).after Eff.refl rfl

end Sys2Proof.Machine
end

