-- ==== Sys2Proof/Laws/CoreBus.lean ====
section
/-! SUPPORT. What each operation of Machine/CoreBus.lean may change. -/

-- The proofs of this file are checked one after another, in one thread.
set_option Elab.async false

namespace Sys2Proof.Machine

theorem State.coreLoad_eff (s : State) (a1 : Nat) (v : Nat) :
    Eff [.reads] [] s (State.coreLoad s a1 v) := by
  unfold State.coreLoad
  exact Eff.upd_readData Eff.refl rfl

theorem State.coreDram_eff (s : State) (a1 : Nat) (write : Bool) (addr : Nat) (len : Nat) (bytes : List Nat) :
    Eff [.memory] [] s (State.coreDram s a1 write addr len bytes) := by
  unfold State.coreDram
  extract_lets +onlyGivenNames v1
  clear_value v1
  extract_lets +onlyGivenNames v2
  clear_value v2
  extract_lets +onlyGivenNames v3
  clear_value v3
  exact (State.setDramCh_eff ..).after Eff.refl rfl

theorem State.coreFault_eff (s : State) (a1 : Nat) (kind : Nat) :
    Eff [.boot] [] s (State.coreFault s a1 kind) := by
  unfold State.coreFault
  exact Eff.upd_coreFaults Eff.refl rfl

theorem State.coreOutbound_eff (s : State) (a1 : Nat) (write : Bool) (off : Nat) (len : Nat) (bytes : List Nat) :
    Eff (withSide [.reads, .out, .boot]) (sideAnd [.one K.pcieCplErrors, .one K.pciePcieStatus]) s (State.coreOutbound s a1 write
        off len bytes) := by
  unfold State.coreOutbound
  extract_lets +onlyGivenNames v1
  clear_value v1
  extract_lets +onlyGivenNames v2
  clear_value v2
  exact Eff.ite (Eff.ite (Eff.upd_hostOut Eff.refl rfl) ((State.cplError_eff ..).after Eff.refl rfl)) (Eff.ite
      ((State.coreLoad_eff ..).after Eff.refl rfl) ((State.coreFault_eff ..).after ((State.cplError_eff ..).after Eff.refl rfl)
      rfl))

theorem bar2Access_eff (write : Bool) (off : Nat) (len : Nat) (bytes : List Nat) (s : State) :
    Eff (withSide [.reads, .mem]) (sideAnd [.fam (K.portBytesRead 0) 12, .fam (K.portBytesWritten 0) 12, .one K.dramLastMapError,
        .one K.dramMapErrors, .one K.dramMemStatus]) s (bar2Access write off len bytes s) := by
  unfold bar2Access
  extract_lets +onlyGivenNames v1
  clear_value v1
  extract_lets +onlyGivenNames v2
  clear_value v2
  extract_lets +onlyGivenNames f3
  exact Eff.ite (Eff.ite ((State.blockWrite_eff ..).after Eff.refl rfl) (Eff.ite (Eff.add Eff.refl rfl (KeySet.any_fam _ rfl))
      (Eff.upd_readData (Eff.add Eff.refl rfl (KeySet.any_fam _ rfl)) rfl))) (Eff.ite ((State.mapError_eff ..).after Eff.refl rfl)
      (Eff.upd_readData ((State.mapError_eff ..).after Eff.refl rfl) rfl))

theorem execBar2Access_eff (write : Bool) (off : Nat) (len : Nat) (bytes : List Nat) (s : State) {t : State} (h : execBar2Access
    write off len bytes s = .next t) :
    Eff (withSide [.reads, .mem]) (sideAnd [.fam (K.portBytesRead 0) 12, .fam (K.portBytesWritten 0) 12, .one K.dramLastMapError,
        .one K.dramMapErrors, .one K.dramMemStatus]) s t := by
  unfold execBar2Access at h
  cases h
  exact (bar2Access_eff ..).after Eff.refl rfl

end Sys2Proof.Machine
end

