-- ==== Sys2Proof/Laws/PerInstr.lean ====
section
/-! SUPPORT. What well-formedness says of the access that a command carries, one lemma per command. -/

-- The proofs of this file are checked one after another, in one thread.
set_option Elab.async false

namespace Sys2Proof.Laws

/-- The access a command carries, for the commands that are an access of one of the dictionary's paths (R35). -/
def accOf : Instr → Option Acc
  | .powerOnReset => none
  | .warmReset => none
  | .resetRequest a => some a
  | .supplyDetect => none
  | .resetRelease _ => none
  | .bootHeaderRead _ _ => none
  | .dramTrainDone _ => none
  | .dramZeroDone => none
  | .payloadLoaded _ _ _ => none
  | .bootGo a => some a
  | .bootComplete a => some a
  | .advanceSecurityVersion a => some a
  | .revokeKey a => some a
  | .fuseBurnDone => none
  | .coreRelease a => some a
  | .arm a _ => some a
  | .run a => some a
  | .stop a => some a
  | .disarm a => some a
  | .sleep a _ => some a
  | .wake a => some a
  | .devStop => none
  | .drainComplete => none
  | .drainTimeout => none
  | .dictWrite a _ => some a
  | .readClearExtreme a _ => some a
  | .timeRead a _ => some a
  | .commit a _ => some a
  | .discard a _ => some a
  | .commitApply _ => none
  | .give a _ _ => some a
  | .lock a _ => some a
  | .setSecure a _ => some a
  | .setOpen a _ => some a
  | .challenge a => some a
  | .proofGo a => some a
  | .proofLockoutEnd => none
  | .drop a _ => some a
  | .domGo a _ => some a
  | .domainTransferDone _ _ _ => none
  | .openReq _ => none
  | .openProof _ => none
  | .request _ => none
  | .close _ => none
  | .sessionTimeout _ => none
  | .encoderTransition _ _ _ => none
  | .countAccepted _ _ => none
  | .serialFrameStart _ => none
  | .serialFrame _ _ => none
  | .indexPulse _ => none
  | .stallTimeout _ => none
  | .triggerEmit _ => none
  | .compareFire _ => none
  | .comparePulseEnd _ => none
  | .probeEdge _ _ => none
  | .pop a _ => some a
  | .probeFlush a _ => some a
  | .linearPreset a _ => some a
  | .rotaryPreset a _ => some a
  | .wheelReadmit a _ => some a
  | .posBroadcast => none
  | .posMessage _ => none
  | .remoteTimeout => none
  | .emuLagRelease _ => none
  | .cxpLock _ => none
  | .huntLock _ => none
  | .huntTimeout _ => none
  | .queryDone _ _ => none
  | .trainDone _ _ => none
  | .trainTimeout _ => none
  | .rediscover a _ => some a
  | .camReadmit a _ => some a
  | .camTrigger _ => none
  | .triggerPacketStart _ => none
  | .triggerPacketEnd _ => none
  | .lineReceived _ _ => none
  | .skewTimeout _ => none
  | .lateLine _ => none
  | .owedLineLapse _ => none
  | .bandEnd _ => none
  | .cxpLinkLost _ _ => none
  | .cxpRelocked _ _ => none
  | .relockTimeout _ => none
  | .cxpHeartbeat _ => none
  | .cxpEvent _ => none
  | .cxpTriggerAck _ => none
  | .tunnelGo a _ => some a
  | .tunnelAck _ _ _ _ => none
  | .tunnelTimeout _ => none
  | .roundOpen _ => none
  | .pipeLineDone _ => none
  | .flushPass _ => none
  | .prismBandDone _ => none
  | .replayLine _ => none
  | .loadIntervalEnd _ => none
  | .seamMemberLine _ => none
  | .seamDeadline => none
  | .lineEmit _ => none
  | .winStart _ => none
  | .bandRecord _ => none
  | .tagWrite => none
  | .joinHoldEnd => none
  | .cropDone => none
  | .crazeWindowEnd => none
  | .barLineStart _ => none
  | .barLineDone _ => none
  | .segmentFetch _ => none
  | .maskClear a => some a
  | .maskRequestApply => none
  | .rasterTrigger _ => none
  | .shiftStart _ => none
  | .shiftDone _ => none
  | .strobeStart _ => none
  | .strobeSegmentEnd _ => none
  | .strobeCut _ => none
  | .portPowerOn a _ => some a
  | .powerOnDelayEnd _ => none
  | .deskewDone _ _ _ => none
  | .headIdentified _ _ => none
  | .portPowerOff a _ => some a
  | .powerDownBegin _ => none
  | .powerOffDelayEnd _ => none
  | .tempPoll _ => none
  | .tempReading _ _ => none
  | .headReadmit a _ => some a
  | .portReadmit a _ => some a
  | .scanGo a _ => some a
  | .scanAbort a _ => some a
  | .scanSettleEnd => none
  | .scanElement => none
  | .gaugeOutput _ _ => none
  | .gsyncEdge _ => none
  | .syncNow a => some a
  | .gaSyncReq => none
  | .swapTarget a _ => some a
  | .calGo a _ => some a
  | .modStuck _ => none
  | .gaugeReadmit a _ => some a
  | .loopWindowEnd => none
  | .loopFoldDone => none
  | .approve a => some a
  | .unlock a => some a
  | .hold a => some a
  | .resume a => some a
  | .restore a => some a
  | .dramRefresh _ => none
  | .dramTempRead _ _ => none
  | .dramGrant _ => none
  | .patrolRead _ _ _ _ => none
  | .selfRefreshEntry _ => none
  | .ddrTrack _ _ => none
  | .queueItemWrite _ _ => none
  | .queueFlush a _ => some a
  | .portQueueFlush a => some a
  | .dmaGo a _ => some a
  | .doorbell a _ => some a
  | .dmaAbort a _ => some a
  | .descFetch _ => none
  | .dmaPaceStart _ => none
  | .dmaMaxwait _ => none
  | .descComplete _ _ => none
  | .dmaErrorResponse _ _ _ => none
  | .jobTail a _ => some a
  | .zeJobStart _ => none
  | .zeJobDone _ => none
  | .zeAbort a _ => some a
  | .eventDelivery => none
  | .taskRoute a _ => some a
  | .taskCoincide a _ => some a
  | .claim a _ => some a
  | .complete a _ => some a
  | .maskSet a _ => some a
  | .maskClearWord a _ => some a
  | .pendingSet a _ => some a
  | .pendingClear a _ => some a
  | .maskSync a => some a
  | .holdOffEnd _ => none
  | .laneLock _ => none
  | .laneLockLost _ => none
  | .laneFault _ _ => none
  | .retrain a _ => some a
  | .sklHuntDone _ => none
  | .sklCapDone _ _ => none
  | .sklSwitchDone _ _ => none
  | .trainBlock _ _ => none
  | .tapRequestTimeout _ => none
  | .tuneTimeout _ => none
  | .sklCheckDone _ _ => none
  | .sklAlignDone _ _ _ => none
  | .marker _ => none
  | .laneMap _ _ => none
  | .laneReadmit a _ => some a
  | .sleepIdle _ => none
  | .sleepBlock _ => none
  | .directionWake _ => none
  | .msgTransmit _ => none
  | .evt _ => none
  | .lnkSend _ => none
  | .sync _ _ => none
  | .delayReq _ _ => none
  | .delayResp _ _ => none
  | .dict _ => none
  | .bulk _ => none
  | .heartbeat _ _ => none
  | .epoch _ => none
  | .lineStale _ => none
  | .msgReceived _ _ => none
  | .heartbeatSend => none
  | .roleDead _ => none
  | .sparePromote => none
  | .routeExpiry _ => none
  | .seqExpiry _ => none
  | .bulkWaitTimeout => none
  | .dictGo a => some a
  | .dictTimeout => none
  | .pcieReset _ => none
  | .pcieLinkUp _ _ _ _ => none
  | .pcieLinkDown => none
  | .bar2Base a => some a
  | .ethFrameReceive _ _ _ => none
  | .ethLinkUp _ _ => none
  | .ethLinkFault _ => none
  | .ethReadmit a _ => some a
  | .coreTxFrame _ => none
  | .timeSet a => some a
  | .timeStep a => some a
  | .resync a => some a
  | .rateAdj a => some a
  | .syncPeriod => none
  | .holdoverTimeout => none
  | .alarmFire _ => none
  | .timeCapture _ => none
  | .ppsPulse => none
  | .ppsEnd => none
  | .watchdogKick a => some a
  | .wdogWarn => none
  | .wdogExpire => none
  | .junctionRead _ => none
  | .fatalRequest a => some a
  | .pllLockLoss => none
  | .refclkBad _ => none
  | .calRun a => some a
  | .calRunDone _ => none
  | .witnessWrite => none
  | .freeze a => some a
  | .release a => some a
  | .mark a => some a
  | .readSequence a => some a
  | .domainDown => none
  | .domainUp => none
  | .wakePin _ => none
  | .msixUnmask _ => none
  | .coreAccess _ _ _ _ _ _ _ => none
  | .bar2Access _ _ _ _ => none

/-- The bounds a well-formed access has (R35, R36). -/
theorem acc_bounds {a : Acc} (h : a.wf = true) :
    a.path < 7 ∧ 1 ≤ a.size ∧ a.size ≤ 10 ∧ a.offset < 8 ∧ a.value < 2 ^ (8 * a.size) := by
  simpa [Acc.wf, and_assoc] using h

/-- The access of a well-formed command names one of the seven paths, has 1 to 10 bytes within its slot, and a value of that many
bytes. -/
def Wf.Statement (i : Instr) : Prop :=
  i.wf = true → ∀ a, accOf i = some a →
    a.path < 7 ∧ 1 ≤ a.size ∧ a.size ≤ 10 ∧ a.offset < 8 ∧ a.value < 2 ^ (8 * a.size)

/-- A command that carries no access has nothing to show. -/
theorem nofun_acc {i : Instr} (h : accOf i = none) : Wf.Statement i := by
  intro _ a ha; rw [h] at ha; cases ha

/-- A command with an access: its own well-formedness gives the access's. -/
theorem of_acc {i : Instr} {a : Acc} (h : accOf i = some a) (hw : i.wf = true → a.wf = true) : Wf.Statement i := by
  intro hi b hb; rw [h] at hb; cases hb; exact acc_bounds (hw hi)

theorem Wf.powerOnReset : Wf.Statement (.powerOnReset) := nofun_acc rfl

theorem Wf.warmReset : Wf.Statement (.warmReset) := nofun_acc rfl

theorem Wf.resetRequest (a : Acc) : Wf.Statement (.resetRequest a) := of_acc rfl id

theorem Wf.supplyDetect : Wf.Statement (.supplyDetect) := nofun_acc rfl

theorem Wf.resetRelease (straps : Nat) : Wf.Statement (.resetRelease straps) := nofun_acc rfl

theorem Wf.bootHeaderRead (image : List Nat) (complete : Bool) : Wf.Statement (.bootHeaderRead image complete) := nofun_acc rfl

theorem Wf.dramTrainDone (failed : Nat) : Wf.Statement (.dramTrainDone failed) := nofun_acc rfl

theorem Wf.dramZeroDone : Wf.Statement (.dramZeroDone) := nofun_acc rfl

theorem Wf.payloadLoaded (payload sig : List Nat) (complete : Bool) : Wf.Statement (.payloadLoaded payload sig complete) := nofun_acc rfl

theorem Wf.bootGo (a : Acc) : Wf.Statement (.bootGo a) := of_acc rfl id

theorem Wf.bootComplete (a : Acc) : Wf.Statement (.bootComplete a) := of_acc rfl id

theorem Wf.advanceSecurityVersion (a : Acc) : Wf.Statement (.advanceSecurityVersion a) := of_acc rfl id

theorem Wf.revokeKey (a : Acc) : Wf.Statement (.revokeKey a) := of_acc rfl id

theorem Wf.fuseBurnDone : Wf.Statement (.fuseBurnDone) := nofun_acc rfl

theorem Wf.coreRelease (a : Acc) : Wf.Statement (.coreRelease a) := of_acc rfl id

theorem Wf.arm (a : Acc) (acks : Nat) : Wf.Statement (.arm a acks) := of_acc rfl (fun h => by simp only [Instr.wf, Bool.and_eq_true] at h; simp [h])

theorem Wf.run (a : Acc) : Wf.Statement (.run a) := of_acc rfl id

theorem Wf.stop (a : Acc) : Wf.Statement (.stop a) := of_acc rfl id

theorem Wf.disarm (a : Acc) : Wf.Statement (.disarm a) := of_acc rfl id

theorem Wf.sleep (a : Acc) (acks : Nat) : Wf.Statement (.sleep a acks) := of_acc rfl (fun h => by simp only [Instr.wf, Bool.and_eq_true] at h; simp [h])

theorem Wf.wake (a : Acc) : Wf.Statement (.wake a) := of_acc rfl id

theorem Wf.devStop : Wf.Statement (.devStop) := nofun_acc rfl

theorem Wf.drainComplete : Wf.Statement (.drainComplete) := nofun_acc rfl

theorem Wf.drainTimeout : Wf.Statement (.drainTimeout) := nofun_acc rfl

theorem Wf.dictWrite (a : Acc) (k : Nat) : Wf.Statement (.dictWrite a k) := of_acc rfl (fun h => by simp only [Instr.wf, Bool.and_eq_true] at h; simp [h])

theorem Wf.readClearExtreme (a : Acc) (k : Nat) : Wf.Statement (.readClearExtreme a k) := of_acc rfl (fun h => by simp only [Instr.wf, Bool.and_eq_true] at h; simp [h])

theorem Wf.timeRead (a : Acc) (k : Nat) : Wf.Statement (.timeRead a k) := of_acc rfl (fun h => by simp only [Instr.wf, Bool.and_eq_true] at h; simp [h])

theorem Wf.commit (a : Acc) (idx : Nat) : Wf.Statement (.commit a idx) := of_acc rfl (fun h => by simp only [Instr.wf, Bool.and_eq_true] at h; simp [h])

theorem Wf.discard (a : Acc) (idx : Nat) : Wf.Statement (.discard a idx) := of_acc rfl (fun h => by simp only [Instr.wf, Bool.and_eq_true] at h; simp [h])

theorem Wf.commitApply (idx : Nat) : Wf.Statement (.commitApply idx) := nofun_acc rfl

theorem Wf.give (a : Acc) (target newOwner : Nat) : Wf.Statement (.give a target newOwner) := of_acc rfl (fun h => by simp only [Instr.wf, Bool.and_eq_true] at h; simp [h])

theorem Wf.lock (a : Acc) (target : Nat) : Wf.Statement (.lock a target) := of_acc rfl (fun h => by simp only [Instr.wf, Bool.and_eq_true] at h; simp [h])

theorem Wf.setSecure (a : Acc) (target : Nat) : Wf.Statement (.setSecure a target) := of_acc rfl (fun h => by simp only [Instr.wf, Bool.and_eq_true] at h; simp [h])

theorem Wf.setOpen (a : Acc) (target : Nat) : Wf.Statement (.setOpen a target) := of_acc rfl (fun h => by simp only [Instr.wf, Bool.and_eq_true] at h; simp [h])

theorem Wf.challenge (a : Acc) : Wf.Statement (.challenge a) := of_acc rfl id

theorem Wf.proofGo (a : Acc) : Wf.Statement (.proofGo a) := of_acc rfl id

theorem Wf.proofLockoutEnd : Wf.Statement (.proofLockoutEnd) := nofun_acc rfl

theorem Wf.drop (a : Acc) (p : Nat) : Wf.Statement (.drop a p) := of_acc rfl (fun h => by simp only [Instr.wf, Bool.and_eq_true] at h; simp [h])

theorem Wf.domGo (a : Acc) (p : Nat) : Wf.Statement (.domGo a p) := of_acc rfl (fun h => by simp only [Instr.wf, Bool.and_eq_true] at h; simp [h])

theorem Wf.domainTransferDone (p : Nat) (host : List Nat) (failAt : Option Nat) : Wf.Statement (.domainTransferDone p host failAt) := nofun_acc rfl

theorem Wf.openReq (g : Datagram) : Wf.Statement (.openReq g) := nofun_acc rfl

theorem Wf.openProof (g : Datagram) : Wf.Statement (.openProof g) := nofun_acc rfl

theorem Wf.request (g : Datagram) : Wf.Statement (.request g) := nofun_acc rfl

theorem Wf.close (g : Datagram) : Wf.Statement (.close g) := nofun_acc rfl

theorem Wf.sessionTimeout (n : Nat) : Wf.Statement (.sessionTimeout n) := nofun_acc rfl

theorem Wf.encoderTransition (n : Nat) (input : EncIn) (level : Bool) : Wf.Statement (.encoderTransition n input level) := nofun_acc rfl

theorem Wf.countAccepted (n : Nat) (input : EncIn) : Wf.Statement (.countAccepted n input) := nofun_acc rfl

theorem Wf.serialFrameStart (n : Nat) : Wf.Statement (.serialFrameStart n) := nofun_acc rfl

theorem Wf.serialFrame (n : Nat) (f : SerialFrame) : Wf.Statement (.serialFrame n f) := nofun_acc rfl

theorem Wf.indexPulse (n : Nat) : Wf.Statement (.indexPulse n) := nofun_acc rfl

theorem Wf.stallTimeout (n : Nat) : Wf.Statement (.stallTimeout n) := nofun_acc rfl

theorem Wf.triggerEmit (g : Nat) : Wf.Statement (.triggerEmit g) := nofun_acc rfl

theorem Wf.compareFire (m : Nat) : Wf.Statement (.compareFire m) := nofun_acc rfl

theorem Wf.comparePulseEnd (m : Nat) : Wf.Statement (.comparePulseEnd m) := nofun_acc rfl

theorem Wf.probeEdge (p : Nat) (rising : Bool) : Wf.Statement (.probeEdge p rising) := nofun_acc rfl

theorem Wf.pop (a : Acc) (p : Nat) : Wf.Statement (.pop a p) := of_acc rfl (fun h => by simp only [Instr.wf, Bool.and_eq_true] at h; simp [h])

theorem Wf.probeFlush (a : Acc) (p : Nat) : Wf.Statement (.probeFlush a p) := of_acc rfl (fun h => by simp only [Instr.wf, Bool.and_eq_true] at h; simp [h])

theorem Wf.linearPreset (a : Acc) (n : Nat) : Wf.Statement (.linearPreset a n) := of_acc rfl (fun h => by simp only [Instr.wf, Bool.and_eq_true] at h; simp [h])

theorem Wf.rotaryPreset (a : Acc) (n : Nat) : Wf.Statement (.rotaryPreset a n) := of_acc rfl (fun h => by simp only [Instr.wf, Bool.and_eq_true] at h; simp [h])

theorem Wf.wheelReadmit (a : Acc) (n : Nat) : Wf.Statement (.wheelReadmit a n) := of_acc rfl (fun h => by simp only [Instr.wf, Bool.and_eq_true] at h; simp [h])

theorem Wf.posBroadcast : Wf.Statement (.posBroadcast) := nofun_acc rfl

theorem Wf.posMessage (m : Msg) : Wf.Statement (.posMessage m) := nofun_acc rfl

theorem Wf.remoteTimeout : Wf.Statement (.remoteTimeout) := nofun_acc rfl

theorem Wf.emuLagRelease (m : Nat) : Wf.Statement (.emuLagRelease m) := nofun_acc rfl

theorem Wf.cxpLock (n : Nat) : Wf.Statement (.cxpLock n) := nofun_acc rfl

theorem Wf.huntLock (n : Nat) : Wf.Statement (.huntLock n) := nofun_acc rfl

theorem Wf.huntTimeout (n : Nat) : Wf.Statement (.huntTimeout n) := nofun_acc rfl

theorem Wf.queryDone (n : Nat) (r : CamQuery) : Wf.Statement (.queryDone n r) := nofun_acc rfl

theorem Wf.trainDone (n : Nat) (t : CamTrain) : Wf.Statement (.trainDone n t) := nofun_acc rfl

theorem Wf.trainTimeout (n : Nat) : Wf.Statement (.trainTimeout n) := nofun_acc rfl

theorem Wf.rediscover (a : Acc) (n : Nat) : Wf.Statement (.rediscover a n) := of_acc rfl (fun h => by simp only [Instr.wf, Bool.and_eq_true] at h; simp [h])

theorem Wf.camReadmit (a : Acc) (n : Nat) : Wf.Statement (.camReadmit a n) := of_acc rfl (fun h => by simp only [Instr.wf, Bool.and_eq_true] at h; simp [h])

theorem Wf.camTrigger (n : Nat) : Wf.Statement (.camTrigger n) := nofun_acc rfl

theorem Wf.triggerPacketStart (n : Nat) : Wf.Statement (.triggerPacketStart n) := nofun_acc rfl

theorem Wf.triggerPacketEnd (n : Nat) : Wf.Statement (.triggerPacketEnd n) := nofun_acc rfl

theorem Wf.lineReceived (n : Nat) (l : CamLine) : Wf.Statement (.lineReceived n l) := nofun_acc rfl

theorem Wf.skewTimeout (n : Nat) : Wf.Statement (.skewTimeout n) := nofun_acc rfl

theorem Wf.lateLine (n : Nat) : Wf.Statement (.lateLine n) := nofun_acc rfl

theorem Wf.owedLineLapse (n : Nat) : Wf.Statement (.owedLineLapse n) := nofun_acc rfl

theorem Wf.bandEnd (n : Nat) : Wf.Statement (.bandEnd n) := nofun_acc rfl

theorem Wf.cxpLinkLost (n link : Nat) : Wf.Statement (.cxpLinkLost n link) := nofun_acc rfl

theorem Wf.cxpRelocked (n : Nat) (eyes : List Nat) : Wf.Statement (.cxpRelocked n eyes) := nofun_acc rfl

theorem Wf.relockTimeout (n : Nat) : Wf.Statement (.relockTimeout n) := nofun_acc rfl

theorem Wf.cxpHeartbeat (n : Nat) : Wf.Statement (.cxpHeartbeat n) := nofun_acc rfl

theorem Wf.cxpEvent (n : Nat) : Wf.Statement (.cxpEvent n) := nofun_acc rfl

theorem Wf.cxpTriggerAck (n : Nat) : Wf.Statement (.cxpTriggerAck n) := nofun_acc rfl

theorem Wf.tunnelGo (a : Acc) (n : Nat) : Wf.Statement (.tunnelGo a n) := of_acc rfl (fun h => by simp only [Instr.wf, Bool.and_eq_true] at h; simp [h])

theorem Wf.tunnelAck (n code : Nat) (data : List Nat) (wait : Bool) : Wf.Statement (.tunnelAck n code data wait) := nofun_acc rfl

theorem Wf.tunnelTimeout (n : Nat) : Wf.Statement (.tunnelTimeout n) := nofun_acc rfl

theorem Wf.roundOpen (p : Nat) : Wf.Statement (.roundOpen p) := nofun_acc rfl

theorem Wf.pipeLineDone (n : Nat) : Wf.Statement (.pipeLineDone n) := nofun_acc rfl

theorem Wf.flushPass (n : Nat) : Wf.Statement (.flushPass n) := nofun_acc rfl

theorem Wf.prismBandDone (n : Nat) : Wf.Statement (.prismBandDone n) := nofun_acc rfl

theorem Wf.replayLine (n : Nat) : Wf.Statement (.replayLine n) := nofun_acc rfl

theorem Wf.loadIntervalEnd (p : Nat) : Wf.Statement (.loadIntervalEnd p) := nofun_acc rfl

theorem Wf.seamMemberLine (n : Nat) : Wf.Statement (.seamMemberLine n) := nofun_acc rfl

theorem Wf.seamDeadline : Wf.Statement (.seamDeadline) := nofun_acc rfl

theorem Wf.lineEmit (refLate : Nat) : Wf.Statement (.lineEmit refLate) := nofun_acc rfl

theorem Wf.winStart (w : Nat) : Wf.Statement (.winStart w) := nofun_acc rfl

theorem Wf.bandRecord (n : Nat) : Wf.Statement (.bandRecord n) := nofun_acc rfl

theorem Wf.tagWrite : Wf.Statement (.tagWrite) := nofun_acc rfl

theorem Wf.joinHoldEnd : Wf.Statement (.joinHoldEnd) := nofun_acc rfl

theorem Wf.cropDone : Wf.Statement (.cropDone) := nofun_acc rfl

theorem Wf.crazeWindowEnd : Wf.Statement (.crazeWindowEnd) := nofun_acc rfl

theorem Wf.barLineStart (b : Nat) : Wf.Statement (.barLineStart b) := nofun_acc rfl

theorem Wf.barLineDone (b : Nat) : Wf.Statement (.barLineDone b) := nofun_acc rfl

theorem Wf.segmentFetch (e : Nat) : Wf.Statement (.segmentFetch e) := nofun_acc rfl

theorem Wf.maskClear (a : Acc) : Wf.Statement (.maskClear a) := of_acc rfl id

theorem Wf.maskRequestApply : Wf.Statement (.maskRequestApply) := nofun_acc rfl

theorem Wf.rasterTrigger (b : Nat) : Wf.Statement (.rasterTrigger b) := nofun_acc rfl

theorem Wf.shiftStart (p : Nat) : Wf.Statement (.shiftStart p) := nofun_acc rfl

theorem Wf.shiftDone (p : Nat) : Wf.Statement (.shiftDone p) := nofun_acc rfl

theorem Wf.strobeStart (h : Nat) : Wf.Statement (.strobeStart h) := nofun_acc rfl

theorem Wf.strobeSegmentEnd (h : Nat) : Wf.Statement (.strobeSegmentEnd h) := nofun_acc rfl

theorem Wf.strobeCut (h : Nat) : Wf.Statement (.strobeCut h) := nofun_acc rfl

theorem Wf.portPowerOn (a : Acc) (p : Nat) : Wf.Statement (.portPowerOn a p) := of_acc rfl (fun h => by simp only [Instr.wf, Bool.and_eq_true] at h; simp [h])

theorem Wf.powerOnDelayEnd (p : Nat) : Wf.Statement (.powerOnDelayEnd p) := nofun_acc rfl

theorem Wf.deskewDone (p : Nat) (spread residual : Nat) : Wf.Statement (.deskewDone p spread residual) := nofun_acc rfl

theorem Wf.headIdentified (h : Nat) (id : Option (List Nat)) : Wf.Statement (.headIdentified h id) := nofun_acc rfl

theorem Wf.portPowerOff (a : Acc) (p : Nat) : Wf.Statement (.portPowerOff a p) := of_acc rfl (fun h => by simp only [Instr.wf, Bool.and_eq_true] at h; simp [h])

theorem Wf.powerDownBegin (p : Nat) : Wf.Statement (.powerDownBegin p) := nofun_acc rfl

theorem Wf.powerOffDelayEnd (p : Nat) : Wf.Statement (.powerOffDelayEnd p) := nofun_acc rfl

theorem Wf.tempPoll (p : Nat) : Wf.Statement (.tempPoll p) := nofun_acc rfl

theorem Wf.tempReading (h : Nat) (t : Option Nat) : Wf.Statement (.tempReading h t) := nofun_acc rfl

theorem Wf.headReadmit (a : Acc) (h : Nat) : Wf.Statement (.headReadmit a h) := of_acc rfl (fun h => by simp only [Instr.wf, Bool.and_eq_true] at h; simp [h])

theorem Wf.portReadmit (a : Acc) (p : Nat) : Wf.Statement (.portReadmit a p) := of_acc rfl (fun h => by simp only [Instr.wf, Bool.and_eq_true] at h; simp [h])

theorem Wf.scanGo (a : Acc) (acks : Nat) : Wf.Statement (.scanGo a acks) := of_acc rfl (fun h => by simp only [Instr.wf, Bool.and_eq_true] at h; simp [h])

theorem Wf.scanAbort (a : Acc) (acks : Nat) : Wf.Statement (.scanAbort a acks) := of_acc rfl (fun h => by simp only [Instr.wf, Bool.and_eq_true] at h; simp [h])

theorem Wf.scanSettleEnd : Wf.Statement (.scanSettleEnd) := nofun_acc rfl

theorem Wf.scanElement : Wf.Statement (.scanElement) := nofun_acc rfl

theorem Wf.gaugeOutput (c : Nat) (bits : List Bool) : Wf.Statement (.gaugeOutput c bits) := nofun_acc rfl

theorem Wf.gsyncEdge (rising : Bool) : Wf.Statement (.gsyncEdge rising) := nofun_acc rfl

theorem Wf.syncNow (a : Acc) : Wf.Statement (.syncNow a) := of_acc rfl id

theorem Wf.gaSyncReq : Wf.Statement (.gaSyncReq) := nofun_acc rfl

theorem Wf.swapTarget (a : Acc) (c : Nat) : Wf.Statement (.swapTarget a c) := of_acc rfl (fun h => by simp only [Instr.wf, Bool.and_eq_true] at h; simp [h])

theorem Wf.calGo (a : Acc) (c : Nat) : Wf.Statement (.calGo a c) := of_acc rfl (fun h => by simp only [Instr.wf, Bool.and_eq_true] at h; simp [h])

theorem Wf.modStuck (c : Nat) : Wf.Statement (.modStuck c) := nofun_acc rfl

theorem Wf.gaugeReadmit (a : Acc) (c : Nat) : Wf.Statement (.gaugeReadmit a c) := of_acc rfl (fun h => by simp only [Instr.wf, Bool.and_eq_true] at h; simp [h])

theorem Wf.loopWindowEnd : Wf.Statement (.loopWindowEnd) := nofun_acc rfl

theorem Wf.loopFoldDone : Wf.Statement (.loopFoldDone) := nofun_acc rfl

theorem Wf.approve (a : Acc) : Wf.Statement (.approve a) := of_acc rfl id

theorem Wf.unlock (a : Acc) : Wf.Statement (.unlock a) := of_acc rfl id

theorem Wf.hold (a : Acc) : Wf.Statement (.hold a) := of_acc rfl id

theorem Wf.resume (a : Acc) : Wf.Statement (.resume a) := of_acc rfl id

theorem Wf.restore (a : Acc) : Wf.Statement (.restore a) := of_acc rfl id

theorem Wf.dramRefresh (ch : Nat) : Wf.Statement (.dramRefresh ch) := nofun_acc rfl

theorem Wf.dramTempRead (ch : Nat) (temp : Option Int) : Wf.Statement (.dramTempRead ch temp) := nofun_acc rfl

theorem Wf.dramGrant (ch : Nat) : Wf.Statement (.dramGrant ch) := nofun_acc rfl

theorem Wf.patrolRead (ch : Nat) (a : Nat) (e : EccRead) (lastBlock : Bool) : Wf.Statement (.patrolRead ch a e lastBlock) := nofun_acc rfl

theorem Wf.selfRefreshEntry (ch : Nat) : Wf.Statement (.selfRefreshEntry ch) := nofun_acc rfl

theorem Wf.ddrTrack (ch : Nat) (moves : List Int) : Wf.Statement (.ddrTrack ch moves) := nofun_acc rfl

theorem Wf.queueItemWrite (q : Nat) (item : List Nat) : Wf.Statement (.queueItemWrite q item) := nofun_acc rfl

theorem Wf.queueFlush (a : Acc) (q : Nat) : Wf.Statement (.queueFlush a q) := of_acc rfl (fun h => by simp only [Instr.wf, Bool.and_eq_true] at h; simp [h])

theorem Wf.portQueueFlush (a : Acc) : Wf.Statement (.portQueueFlush a) := of_acc rfl id

theorem Wf.dmaGo (a : Acc) (c : Nat) : Wf.Statement (.dmaGo a c) := of_acc rfl (fun h => by simp only [Instr.wf, Bool.and_eq_true] at h; simp [h])

theorem Wf.doorbell (a : Acc) (c : Nat) : Wf.Statement (.doorbell a c) := of_acc rfl (fun h => by simp only [Instr.wf, Bool.and_eq_true] at h; simp [h])

theorem Wf.dmaAbort (a : Acc) (c : Nat) : Wf.Statement (.dmaAbort a c) := of_acc rfl (fun h => by simp only [Instr.wf, Bool.and_eq_true] at h; simp [h])

theorem Wf.descFetch (c : Nat) : Wf.Statement (.descFetch c) := nofun_acc rfl

theorem Wf.dmaPaceStart (c : Nat) : Wf.Statement (.dmaPaceStart c) := nofun_acc rfl

theorem Wf.dmaMaxwait (c : Nat) : Wf.Statement (.dmaMaxwait c) := nofun_acc rfl

theorem Wf.descComplete (c : Nat) (host : List Nat) : Wf.Statement (.descComplete c host) := nofun_acc rfl

theorem Wf.dmaErrorResponse (c beats : Nat) (host : List Nat) : Wf.Statement (.dmaErrorResponse c beats host) := nofun_acc rfl

theorem Wf.jobTail (a : Acc) (e : Nat) : Wf.Statement (.jobTail a e) := of_acc rfl (fun h => by simp only [Instr.wf, Bool.and_eq_true] at h; simp [h])

theorem Wf.zeJobStart (e : Nat) : Wf.Statement (.zeJobStart e) := nofun_acc rfl

theorem Wf.zeJobDone (e : Nat) : Wf.Statement (.zeJobDone e) := nofun_acc rfl

theorem Wf.zeAbort (a : Acc) (e : Nat) : Wf.Statement (.zeAbort a e) := of_acc rfl (fun h => by simp only [Instr.wf, Bool.and_eq_true] at h; simp [h])

theorem Wf.eventDelivery : Wf.Statement (.eventDelivery) := nofun_acc rfl

theorem Wf.taskRoute (a : Acc) (n : Nat) : Wf.Statement (.taskRoute a n) := of_acc rfl (fun h => by simp only [Instr.wf, Bool.and_eq_true] at h; simp [h])

theorem Wf.taskCoincide (a : Acc) (n : Nat) : Wf.Statement (.taskCoincide a n) := of_acc rfl (fun h => by simp only [Instr.wf, Bool.and_eq_true] at h; simp [h])

theorem Wf.claim (a : Acc) (t : Nat) : Wf.Statement (.claim a t) := of_acc rfl (fun h => by simp only [Instr.wf, Bool.and_eq_true] at h; simp [h])

theorem Wf.complete (a : Acc) (t : Nat) : Wf.Statement (.complete a t) := of_acc rfl (fun h => by simp only [Instr.wf, Bool.and_eq_true] at h; simp [h])

theorem Wf.maskSet (a : Acc) (w : Nat) : Wf.Statement (.maskSet a w) := of_acc rfl (fun h => by simp only [Instr.wf, Bool.and_eq_true] at h; simp [h])

theorem Wf.maskClearWord (a : Acc) (w : Nat) : Wf.Statement (.maskClearWord a w) := of_acc rfl (fun h => by simp only [Instr.wf, Bool.and_eq_true] at h; simp [h])

theorem Wf.pendingSet (a : Acc) (w : Nat) : Wf.Statement (.pendingSet a w) := of_acc rfl (fun h => by simp only [Instr.wf, Bool.and_eq_true] at h; simp [h])

theorem Wf.pendingClear (a : Acc) (w : Nat) : Wf.Statement (.pendingClear a w) := of_acc rfl (fun h => by simp only [Instr.wf, Bool.and_eq_true] at h; simp [h])

theorem Wf.maskSync (a : Acc) : Wf.Statement (.maskSync a) := of_acc rfl id

theorem Wf.holdOffEnd (g : Nat) : Wf.Statement (.holdOffEnd g) := nofun_acc rfl

theorem Wf.laneLock (l : Nat) : Wf.Statement (.laneLock l) := nofun_acc rfl

theorem Wf.laneLockLost (l : Nat) : Wf.Statement (.laneLockLost l) := nofun_acc rfl

theorem Wf.laneFault (l headers : Nat) : Wf.Statement (.laneFault l headers) := nofun_acc rfl

theorem Wf.retrain (a : Acc) (p : Nat) : Wf.Statement (.retrain a p) := of_acc rfl (fun h => by simp only [Instr.wf, Bool.and_eq_true] at h; simp [h])

theorem Wf.sklHuntDone (p : Nat) : Wf.Statement (.sklHuntDone p) := nofun_acc rfl

theorem Wf.sklCapDone (p : Nat) (c : SklCap) : Wf.Statement (.sklCapDone p c) := nofun_acc rfl

theorem Wf.sklSwitchDone (p : Nat) (locked : Bool) : Wf.Statement (.sklSwitchDone p locked) := nofun_acc rfl

theorem Wf.trainBlock (l : Nat) (b : TrainBlock) : Wf.Statement (.trainBlock l b) := nofun_acc rfl

theorem Wf.tapRequestTimeout (l : Nat) : Wf.Statement (.tapRequestTimeout l) := nofun_acc rfl

theorem Wf.tuneTimeout (l : Nat) : Wf.Statement (.tuneTimeout l) := nofun_acc rfl

theorem Wf.sklCheckDone (p : Nat) (errors : List Nat) : Wf.Statement (.sklCheckDone p errors) := nofun_acc rfl

theorem Wf.sklAlignDone (p : Nat) (skews : List Nat) (peerFailed : Bool) : Wf.Statement (.sklAlignDone p skews peerFailed) := nofun_acc rfl

theorem Wf.marker (p : Nat) : Wf.Statement (.marker p) := nofun_acc rfl

theorem Wf.laneMap (p mask : Nat) : Wf.Statement (.laneMap p mask) := nofun_acc rfl

theorem Wf.laneReadmit (a : Acc) (p : Nat) : Wf.Statement (.laneReadmit a p) := of_acc rfl (fun h => by simp only [Instr.wf, Bool.and_eq_true] at h; simp [h])

theorem Wf.sleepIdle (p : Nat) : Wf.Statement (.sleepIdle p) := nofun_acc rfl

theorem Wf.sleepBlock (p : Nat) : Wf.Statement (.sleepBlock p) := nofun_acc rfl

theorem Wf.directionWake (p : Nat) : Wf.Statement (.directionWake p) := nofun_acc rfl

theorem Wf.msgTransmit (p : Nat) : Wf.Statement (.msgTransmit p) := nofun_acc rfl

theorem Wf.evt (m : Msg) : Wf.Statement (.evt m) := nofun_acc rfl

theorem Wf.lnkSend (k : Nat) : Wf.Statement (.lnkSend k) := nofun_acc rfl

theorem Wf.sync (p : Nat) (m : Msg) : Wf.Statement (.sync p m) := nofun_acc rfl

theorem Wf.delayReq (p : Nat) (m : Msg) : Wf.Statement (.delayReq p m) := nofun_acc rfl

theorem Wf.delayResp (p : Nat) (m : Msg) : Wf.Statement (.delayResp p m) := nofun_acc rfl

theorem Wf.dict (m : Msg) : Wf.Statement (.dict m) := nofun_acc rfl

theorem Wf.bulk (m : Msg) : Wf.Statement (.bulk m) := nofun_acc rfl

theorem Wf.heartbeat (p : Nat) (m : Msg) : Wf.Statement (.heartbeat p m) := nofun_acc rfl

theorem Wf.epoch (m : Msg) : Wf.Statement (.epoch m) := nofun_acc rfl

theorem Wf.lineStale (m : Msg) : Wf.Statement (.lineStale m) := nofun_acc rfl

theorem Wf.msgReceived (p : Nat) (m : Msg) : Wf.Statement (.msgReceived p m) := nofun_acc rfl

theorem Wf.heartbeatSend : Wf.Statement (.heartbeatSend) := nofun_acc rfl

theorem Wf.roleDead (r : Nat) : Wf.Statement (.roleDead r) := nofun_acc rfl

theorem Wf.sparePromote : Wf.Statement (.sparePromote) := nofun_acc rfl

theorem Wf.routeExpiry (node : Nat) : Wf.Statement (.routeExpiry node) := nofun_acc rfl

theorem Wf.seqExpiry (n : Nat) : Wf.Statement (.seqExpiry n) := nofun_acc rfl

theorem Wf.bulkWaitTimeout : Wf.Statement (.bulkWaitTimeout) := nofun_acc rfl

theorem Wf.dictGo (a : Acc) : Wf.Statement (.dictGo a) := of_acc rfl id

theorem Wf.dictTimeout : Wf.Statement (.dictTimeout) := nofun_acc rfl

theorem Wf.pcieReset (kind : PcieReset) : Wf.Statement (.pcieReset kind) := nofun_acc rfl

theorem Wf.pcieLinkUp (speed width payload : Nat) (busMaster : Bool) : Wf.Statement (.pcieLinkUp speed width payload busMaster) := nofun_acc rfl

theorem Wf.pcieLinkDown : Wf.Statement (.pcieLinkDown) := nofun_acc rfl

theorem Wf.bar2Base (a : Acc) : Wf.Statement (.bar2Base a) := of_acc rfl id

theorem Wf.ethFrameReceive (p : Nat) (frame : List Nat) (fcsOk : Bool) : Wf.Statement (.ethFrameReceive p frame fcsOk) := nofun_acc rfl

theorem Wf.ethLinkUp (p eye : Nat) : Wf.Statement (.ethLinkUp p eye) := nofun_acc rfl

theorem Wf.ethLinkFault (p : Nat) : Wf.Statement (.ethLinkFault p) := nofun_acc rfl

theorem Wf.ethReadmit (a : Acc) (p : Nat) : Wf.Statement (.ethReadmit a p) := of_acc rfl (fun h => by simp only [Instr.wf, Bool.and_eq_true] at h; simp [h])

theorem Wf.coreTxFrame (p : Nat) : Wf.Statement (.coreTxFrame p) := nofun_acc rfl

theorem Wf.timeSet (a : Acc) : Wf.Statement (.timeSet a) := of_acc rfl id

theorem Wf.timeStep (a : Acc) : Wf.Statement (.timeStep a) := of_acc rfl id

theorem Wf.resync (a : Acc) : Wf.Statement (.resync a) := of_acc rfl id

theorem Wf.rateAdj (a : Acc) : Wf.Statement (.rateAdj a) := of_acc rfl id

theorem Wf.syncPeriod : Wf.Statement (.syncPeriod) := nofun_acc rfl

theorem Wf.holdoverTimeout : Wf.Statement (.holdoverTimeout) := nofun_acc rfl

theorem Wf.alarmFire (n : Nat) : Wf.Statement (.alarmFire n) := nofun_acc rfl

theorem Wf.timeCapture (k : Nat) : Wf.Statement (.timeCapture k) := nofun_acc rfl

theorem Wf.ppsPulse : Wf.Statement (.ppsPulse) := nofun_acc rfl

theorem Wf.ppsEnd : Wf.Statement (.ppsEnd) := nofun_acc rfl

theorem Wf.watchdogKick (a : Acc) : Wf.Statement (.watchdogKick a) := of_acc rfl id

theorem Wf.wdogWarn : Wf.Statement (.wdogWarn) := nofun_acc rfl

theorem Wf.wdogExpire : Wf.Statement (.wdogExpire) := nofun_acc rfl

theorem Wf.junctionRead (t : Int) : Wf.Statement (.junctionRead t) := nofun_acc rfl

theorem Wf.fatalRequest (a : Acc) : Wf.Statement (.fatalRequest a) := of_acc rfl id

theorem Wf.pllLockLoss : Wf.Statement (.pllLockLoss) := nofun_acc rfl

theorem Wf.refclkBad (kHz : Option Nat) : Wf.Statement (.refclkBad kHz) := nofun_acc rfl

theorem Wf.calRun (a : Acc) : Wf.Statement (.calRun a) := of_acc rfl id

theorem Wf.calRunDone (result : CalMeasure) : Wf.Statement (.calRunDone result) := nofun_acc rfl

theorem Wf.witnessWrite : Wf.Statement (.witnessWrite) := nofun_acc rfl

theorem Wf.freeze (a : Acc) : Wf.Statement (.freeze a) := of_acc rfl id

theorem Wf.release (a : Acc) : Wf.Statement (.release a) := of_acc rfl id

theorem Wf.mark (a : Acc) : Wf.Statement (.mark a) := of_acc rfl id

theorem Wf.readSequence (a : Acc) : Wf.Statement (.readSequence a) := of_acc rfl id

theorem Wf.domainDown : Wf.Statement (.domainDown) := nofun_acc rfl

theorem Wf.domainUp : Wf.Statement (.domainUp) := nofun_acc rfl

theorem Wf.wakePin (level : Bool) : Wf.Statement (.wakePin level) := nofun_acc rfl

theorem Wf.msixUnmask (u : MsixOp) : Wf.Statement (.msixUnmask u) := nofun_acc rfl

theorem Wf.coreAccess (hart : Nat) (machine atomic write : Bool) (addr len : Nat) (bytes : List Nat) : Wf.Statement (.coreAccess hart machine atomic write addr len bytes) := nofun_acc rfl

theorem Wf.bar2Access (write : Bool) (off len : Nat) (bytes : List Nat) : Wf.Statement (.bar2Access write off len bytes) := nofun_acc rfl

end Sys2Proof.Laws
end

