-- ==== Sys2Proof/Laws/Sound.lean ====
section
/-! SUPPORT. Every command keeps the queue behind it, the canonical form of DRAM, and blown fuses: what `Sound` says, for the commands
whose effect may be any entry's write, for resets, and for a step. -/

-- The proofs of this file are checked one after another, in one thread.
set_option Elab.async false

namespace Sys2Proof.Machine

/-! ### Resets -/

theorem State.powerOn_sound (s : State) : Sound s s.powerOn := ⟨rfl, fun _ => rfl, Nat.le_refl _, fun _ h => h, rfl⟩

theorem State.warmKeep_sound (s : State) : Sound s s.warmKeep := ⟨rfl, id, Nat.le_refl _, fun _ h => h, rfl⟩

theorem State.warm_sound (s : State) (cause : Nat) : Sound s (s.warm cause) := by
  unfold State.warm
  exact s.warmKeep_sound.trans ((warmChannels_eff ..).after
    (Eff.wr (Eff.inc (Eff.wr (ps := [.regs]) (ks := [.all]) Eff.refl rfl rfl) rfl rfl) rfl rfl) rfl).sound

theorem resetRequestWrite_sound (a : Acc) (s : State) : Sound s (resetRequestWrite a s) := by
  unfold resetRequestWrite
  split
  · split
    · exact s.warm_sound 3
    · exact (State.done_eff ..).sound
  · exact (State.done_eff ..).sound

theorem warmReset_sound (s : State) : Sound s (warmReset s) := by
  unfold warmReset; split
  · exact Sound.refl s
  · exact s.warm_sound 2

/-! ### Writes of any entry -/

theorem ite_some_or {α : Type} {c : Prop} [Decidable c] {a b : Option α} {f : α} (h : (if c then a else b) = some f) :
    a = some f ∨ b = some f := by split at h <;> simp [h]

theorem fixedAct_sound {k : Nat} {f : Acc → State → State} (h : fixedAct k = some f) (a : Acc) (s : State) : Sound s (f a s) := by
  unfold fixedAct at h
  rcases ite_some_or h with h | h
  · cases h; exact (stateRequestWrite_eff ..).sound
  rcases ite_some_or h with h | h
  · cases h; exact (ownWrite_eff ..).sound
  rcases ite_some_or h with h | h
  · cases h; exact (proofGoWrite_eff ..).sound
  rcases ite_some_or h with h | h
  · cases h; exact (rateAdjWrite_eff ..).sound
  rcases ite_some_or h with h | h
  · cases h; exact (timeSetWrite_eff ..).sound
  rcases ite_some_or h with h | h
  · cases h; exact (timeStepWrite_eff ..).sound
  rcases ite_some_or h with h | h
  · cases h; exact (resyncWrite_eff ..).sound
  rcases ite_some_or h with h | h
  · cases h; exact (fatalRequestWrite_eff ..).sound
  rcases ite_some_or h with h | h
  · cases h; exact (watchdogKickWrite_eff ..).sound
  rcases ite_some_or h with h | h
  · cases h; exact (freezeWrite_eff ..).sound
  rcases ite_some_or h with h | h
  · cases h; exact (releaseWrite_eff ..).sound
  rcases ite_some_or h with h | h
  · cases h; exact (markWrite_eff ..).sound
  rcases ite_some_or h with h | h
  · cases h; exact (readSequenceWrite_eff ..).sound
  rcases ite_some_or h with h | h
  · cases h; exact (calRunWrite_eff ..).sound
  rcases ite_some_or h with h | h
  · cases h; exact (bootGoWrite_eff ..).sound
  rcases ite_some_or h with h | h
  · cases h; exact (bootCompleteWrite_eff ..).sound
  rcases ite_some_or h with h | h
  · cases h; exact (advanceSecurityVersionWrite_eff ..).sound
  rcases ite_some_or h with h | h
  · cases h; exact (revokeKeyWrite_eff ..).sound
  rcases ite_some_or h with h | h
  · cases h; exact (coreReleaseWrite_eff ..).sound
  rcases ite_some_or h with h | h
  · cases h; exact resetRequestWrite_sound a s
  rcases ite_some_or h with h | h
  · cases h; exact (bar2BaseWrite_eff ..).sound
  rcases ite_some_or h with h | h
  · cases h; exact (maskClearWrite_eff ..).sound
  rcases ite_some_or h with h | h
  · cases h; exact (scanGoEntry_eff ..).sound
  rcases ite_some_or h with h | h
  · cases h; exact (scanAbortEntry_eff ..).sound
  rcases ite_some_or h with h | h
  · cases h; exact (syncNowWrite_eff ..).sound
  rcases ite_some_or h with h | h
  · cases h; exact (approveEntry_eff ..).sound
  rcases ite_some_or h with h | h
  · cases h; exact (portQueueFlushWrite_eff ..).sound
  cases h

theorem unitAct_sound {k : Nat} {f : Acc → State → State} (h : unitAct k = some f) (a : Acc) (s : State) : Sound s (f a s) := by
  unfold unitAct at h
  extract_lets at h
  split at h
  · cases h; exact (dropWrite_eff ..).sound
  · cases h; exact (linearPresetWrite_eff ..).sound
  · cases h; exact (rotaryPresetWrite_eff ..).sound
  · cases h; exact (wheelReadmitWrite_eff ..).sound
  · cases h; exact (popWrite_eff ..).sound
  · cases h; exact (probeFlushWrite_eff ..).sound
  · cases h; exact (camReadmitWrite_eff ..).sound
  · cases h; exact (rediscoverWrite_eff ..).sound
  · cases h; exact (tunnelGoWrite_eff ..).sound
  · cases h; exact (swapTargetWrite_eff ..).sound
  · cases h; exact (calGoWrite_eff ..).sound
  · cases h; exact (gaugeReadmitWrite_eff ..).sound
  · cases h; exact (jobTailWrite_eff ..).sound
  · cases h; exact (zeAbortWrite_eff ..).sound
  · cases h; exact (completeWrite_eff ..).sound
  · cases h; exact (retrainWrite_eff ..).sound
  · cases h; exact (laneReadmitWrite_eff ..).sound
  · cases h; exact (ethReadmitWrite_eff ..).sound
  · cases h

theorem rangeAct_sound {k : Nat} {f : Acc → State → State} (h : rangeAct k = some f) (a : Acc) (s : State) : Sound s (f a s) := by
  unfold rangeAct at h
  extract_lets at h
  split at h
  · split at h
    · cases h; exact (portPowerWrite_eff ..).sound
    split at h
    · cases h; exact (portReadmitWrite_eff ..).sound
    cases h
  split at h
  · split at h
    · cases h; exact (headReadmitWrite_eff ..).sound
    cases h
  split at h
  · split at h
    · cases h; exact (queueFlushWrite_eff ..).sound
    cases h
  split at h
  · split at h
    · cases h; exact (dmaGoWrite_eff ..).sound
    split at h
    · cases h; exact (doorbellWrite_eff ..).sound
    split at h
    · cases h; exact (dmaAbortWrite_eff ..).sound
    cases h
  split at h
  · cases h; exact (taskRouteWrite_eff ..).sound
  split at h
  · cases h; exact (taskCoincideWrite_eff ..).sound
  split at h
  · cases h; exact (maskSetWrite_eff ..).sound
  split at h
  · cases h; exact (maskClearWordWrite_eff ..).sound
  split at h
  · cases h; exact (pendingSetWrite_eff ..).sound
  split at h
  · cases h; exact (pendingClearWrite_eff ..).sound
  cases h

theorem actOf_sound {k : Nat} {f : Acc → State → State} (h : actOf k = some f) (a : Acc) (s : State) : Sound s (f a s) := by
  unfold actOf at h
  split at h
  · cases h; exact (groupWrite_eff ..).sound
  · cases hf : fixedAct k with
    | some g =>
      simp only [hf, Option.orElse] at h
      cases h; exact fixedAct_sound hf a s
    | none =>
      cases hu : unitAct k with
      | some g =>
        simp only [hf, hu, Option.orElse] at h
        cases h; exact unitAct_sound hu a s
      | none =>
        simp only [hf, hu, Option.orElse] at h
        exact rangeAct_sound h a s

theorem entryWrite_sound (a : Acc) (k : Nat) (s : State) : Sound s (entryWrite a k s) := by
  unfold entryWrite
  split
  · exact (dictGoWrite_eff ..).sound
  · split
    · exact (domGoWrite_eff ..).sound
    · split
      · exact actOf_sound ‹_› a s
      · exact (storeWrite_eff ..).sound

/-! ### Records and core accesses -/

theorem runRecord_sound (p : RecPath) (room : Nat) (r : DRec) (s : State) : Sound s (runRecord p room r s).2.2 := by
  unfold runRecord
  split
  · exact (recRead_eff ..).sound
  · unfold recWrite
    dsimp only
    split
    · exact (State.done_eff ..).sound
    · exact entryWrite_sound _ _ s
  · exact (recDomRead_eff ..).sound
  · exact (recDomWrite_eff ..).sound
  · exact (State.fresh_eff s).sound

theorem runRecords_sound (p : RecPath) (l : List DRec) (room : Nat) (s : State) : Sound s (runRecords p room l s).2 := by
  induction l generalizing room s with
  | nil => exact Sound.refl s
  | cons r l ih => exact (runRecord_sound p _ r s).trans (ih _ _)

theorem State.udpExecute_sound (s : State) (g : Datagram) (x : Sess) (i : Nat) (rs : List DRec) : Sound s (s.udpExecute g x i rs) := by
  unfold State.udpExecute
  exact (runRecords_sound _ rs _ s).trans ((State.setSess_eff ..).sound.trans (State.udpReply_eff ..).sound)

theorem udpRequest_sound (g : Datagram) (s : State) : Sound s (udpRequest g s) := by
  unfold udpRequest
  extract_lets i seq
  split
  · exact Sound.refl s
  · extract_lets x
    split
    · exact (State.setSess_eff ..).sound.trans (State.udpError_eff ..).sound
    · split
      · exact (State.setSess_eff ..).sound.trans (State.udpError_eff ..).sound
      · split
        · exact (State.setSess_eff ..).sound.trans (Eff.inc (ps := [.regs]) (ks := [.all]) Eff.refl rfl (KeySet.any_all rfl)).sound
        · split
          · split
            · exact (State.setSess_eff ..).sound
            · exact (State.setSess_eff ..).sound.trans (State.udpReply_eff ..).sound
          · split
            · exact State.udpExecute_sound ..
            · exact (State.udpForward_eff ..).sound

theorem execRequest_sound (g : Datagram) (s : State) {t : State} (h : execRequest g s = .next t) : Sound s t := by
  unfold execRequest udpTake at h
  cases h
  split
  · exact Sound.refl s
  · exact (Eff.inc (ps := [.regs]) (ks := [.all]) Eff.refl rfl (KeySet.any_all rfl)).sound
  · exact (Eff.inc (ps := [.regs]) (ks := [.all]) Eff.refl rfl (KeySet.any_all rfl)).sound
  · exact udpRequest_sound g s

theorem execDict_sound (m : Msg) (s : State) {t : State} (h : execDict m s = .next t) : Sound s t := by
  unfold execDict dict at h
  cases h
  split
  · exact Sound.refl s
  · rename_i hm
    have hs := (State.takeMsg_eff hm).sound
    dsimp only
    split
    · exact hs
    · split
      · exact hs.trans (State.dictResponse_eff ..).sound
      · split
        · exact hs
        · exact hs.trans ((runRecords_sound _ _ _ _).trans (State.unicast_eff ..).sound)

theorem execDictWrite_sound (a : Acc) (k : Nat) (s : State) {t : State} (h : execDictWrite a k s = .next t) : Sound s t := by
  cases h; exact entryWrite_sound a k s

theorem State.coreDict_sound (s : State) (h : Nat) (machine write : Bool) (off len : Nat) (bytes : List Nat) :
    Sound s (s.coreDict h machine write off len bytes) := by
  unfold State.coreDict
  dsimp only
  split
  · exact entryWrite_sound _ _ s
  · exact (readEntry_eff ..).sound.trans (State.coreLoad_eff ..).sound

theorem coreAccess_sound (h : Nat) (machine atomic write : Bool) (addr len : Nat) (bytes : List Nat) (s : State) :
    Sound s (coreAccess h machine atomic write addr len bytes s) := by
  unfold coreAccess
  extract_lets io w b
  split
  · exact Sound.refl s
  split
  · exact (State.coreDram_eff ..).sound
  split
  · exact (State.mapError_eff ..).sound.trans (State.coreFault_eff ..).sound
  split
  · exact (State.coreFault_eff ..).sound
  split
  · exact (State.coreFault_eff ..).sound
  clear_value w
  split
  · exact State.coreDict_sound ..
  · exact (State.coreOutbound_eff ..).sound
  · split
    · exact (State.mapError_eff ..).sound.trans (State.coreFault_eff ..).sound
    · exact (State.coreLoad_eff ..).sound
  · exact (State.mapError_eff ..).sound.trans (State.coreFault_eff ..).sound

theorem execCoreAccess_sound (hart : Nat) (machine atomic write : Bool) (addr len : Nat) (bytes : List Nat) (s : State) {t : State}
    (h : execCoreAccess hart machine atomic write addr len bytes s = .next t) : Sound s t := by
  unfold execCoreAccess at h
  obtain ⟨-, rfl⟩ := inst_next h
  exact coreAccess_sound ..

end Sys2Proof.Machine
end

