-- ==== Sys2Proof/Laws/State.lean ====
section
/-! SUPPORT. What each plain update of State leaves in each field, and what reading a record gives after it was set. -/

-- The proofs of this file are checked one after another, in one thread.
set_option Elab.async false

namespace Sys2Proof.Machine

/-! ### setCam -/

@[simp] theorem State.setCam_pending (s : State) (n : Nat) (c : Cam) : (s.setCam n c).pending = s.pending := rfl
@[simp] theorem State.setCam_now (s : State) (n : Nat) (c : Cam) : (s.setCam n c).now = s.now := rfl
@[simp] theorem State.setCam_timeBase (s : State) (n : Nat) (c : Cam) : (s.setCam n c).timeBase = s.timeBase := rfl
@[simp] theorem State.setCam_timeC0 (s : State) (n : Nat) (c : Cam) : (s.setCam n c).timeC0 = s.timeC0 := rfl
@[simp] theorem State.setCam_stateAt (s : State) (n : Nat) (c : Cam) : (s.setCam n c).stateAt = s.stateAt := rfl
@[simp] theorem State.setCam_free (s : State) (n : Nat) (c : Cam) : (s.setCam n c).free = s.free := rfl
@[simp] theorem State.setCam_regs (s : State) (n : Nat) (c : Cam) : (s.setCam n c).regs = s.regs := rfl
@[simp] theorem State.setCam_shadow (s : State) (n : Nat) (c : Cam) : (s.setCam n c).shadow = s.shadow := rfl
@[simp] theorem State.setCam_dom (s : State) (n : Nat) (c : Cam) : (s.setCam n c).dom = s.dom := rfl
@[simp] theorem State.setCam_domLens (s : State) (n : Nat) (c : Cam) : (s.setCam n c).domLens = s.domLens := rfl
@[simp] theorem State.setCam_shDom (s : State) (n : Nat) (c : Cam) : (s.setCam n c).shDom = s.shDom := rfl
@[simp] theorem State.setCam_shDomLens (s : State) (n : Nat) (c : Cam) : (s.setCam n c).shDomLens = s.shDomLens := rfl
@[simp] theorem State.setCam_own (s : State) (n : Nat) (c : Cam) : (s.setCam n c).own = s.own := rfl
@[simp] theorem State.setCam_sherds (s : State) (n : Nat) (c : Cam) : (s.setCam n c).sherds = s.sherds := rfl
@[simp] theorem State.setCam_commitBands (s : State) (n : Nat) (c : Cam) : (s.setCam n c).commitBands = s.commitBands := rfl
@[simp] theorem State.setCam_readData (s : State) (n : Nat) (c : Cam) : (s.setCam n c).readData = s.readData := rfl
@[simp] theorem State.setCam_chal (s : State) (n : Nat) (c : Cam) : (s.setCam n c).chal = s.chal := rfl
@[simp] theorem State.setCam_xfers (s : State) (n : Nat) (c : Cam) : (s.setCam n c).xfers = s.xfers := rfl
@[simp] theorem State.setCam_sessions (s : State) (n : Nat) (c : Cam) : (s.setCam n c).sessions = s.sessions := rfl
@[simp] theorem State.setCam_udpOut (s : State) (n : Nat) (c : Cam) : (s.setCam n c).udpOut = s.udpOut := rfl
@[simp] theorem State.setCam_hostOut (s : State) (n : Nat) (c : Cam) : (s.setCam n c).hostOut = s.hostOut := rfl
@[simp] theorem State.setCam_ethOut (s : State) (n : Nat) (c : Cam) : (s.setCam n c).ethOut = s.ethOut := rfl
@[simp] theorem State.setCam_arp (s : State) (n : Nat) (c : Cam) : (s.setCam n c).arp = s.arp := rfl
@[simp] theorem State.setCam_mem (s : State) (n : Nat) (c : Cam) : (s.setCam n c).mem = s.mem := rfl
@[simp] theorem State.setCam_glaze (s : State) (n : Nat) (c : Cam) : (s.setCam n c).glaze = s.glaze := rfl
@[simp] theorem State.setCam_raised (s : State) (n : Nat) (c : Cam) : (s.setCam n c).raised = s.raised := rfl
@[simp] theorem State.setCam_tasks (s : State) (n : Nat) (c : Cam) : (s.setCam n c).tasks = s.tasks := rfl
@[simp] theorem State.setCam_holdEnds (s : State) (n : Nat) (c : Cam) : (s.setCam n c).holdEnds = s.holdEnds := rfl
@[simp] theorem State.setCam_maskSetAt (s : State) (n : Nat) (c : Cam) : (s.setCam n c).maskSetAt = s.maskSetAt := rfl
@[simp] theorem State.setCam_arrived (s : State) (n : Nat) (c : Cam) : (s.setCam n c).arrived = s.arrived := rfl
@[simp] theorem State.setCam_msix (s : State) (n : Nat) (c : Cam) : (s.setCam n c).msix = s.msix := rfl
@[simp] theorem State.setCam_wbuf (s : State) (n : Nat) (c : Cam) : (s.setCam n c).wbuf = s.wbuf := rfl
@[simp] theorem State.setCam_wring (s : State) (n : Nat) (c : Cam) : (s.setCam n c).wring = s.wring := rfl
@[simp] theorem State.setCam_wgap (s : State) (n : Nat) (c : Cam) : (s.setCam n c).wgap = s.wgap := rfl
@[simp] theorem State.setCam_faultTimes (s : State) (n : Nat) (c : Cam) : (s.setCam n c).faultTimes = s.faultTimes := rfl
@[simp] theorem State.setCam_fuses (s : State) (n : Nat) (c : Cam) : (s.setCam n c).fuses = s.fuses := rfl
@[simp] theorem State.setCam_boot (s : State) (n : Nat) (c : Cam) : (s.setCam n c).boot = s.boot := rfl
@[simp] theorem State.setCam_power (s : State) (n : Nat) (c : Cam) : (s.setCam n c).power = s.power := rfl
@[simp] theorem State.setCam_cores (s : State) (n : Nat) (c : Cam) : (s.setCam n c).cores = s.cores := rfl
@[simp] theorem State.setCam_coreFaults (s : State) (n : Nat) (c : Cam) : (s.setCam n c).coreFaults = s.coreFaults := rfl
@[simp] theorem State.setCam_wdog (s : State) (n : Nat) (c : Cam) : (s.setCam n c).wdog = s.wdog := rfl
@[simp] theorem State.setCam_hot (s : State) (n : Nat) (c : Cam) : (s.setCam n c).hot = s.hot := rfl
@[simp] theorem State.setCam_calRecs (s : State) (n : Nat) (c : Cam) : (s.setCam n c).calRecs = s.calRecs := rfl
@[simp] theorem State.setCam_gpioIn (s : State) (n : Nat) (c : Cam) : (s.setCam n c).gpioIn = s.gpioIn := rfl
@[simp] theorem State.setCam_pins (s : State) (n : Nat) (c : Cam) : (s.setCam n c).pins = s.pins := rfl
@[simp] theorem State.setCam_queues (s : State) (n : Nat) (c : Cam) : (s.setCam n c).queues = s.queues := rfl
@[simp] theorem State.setCam_drams (s : State) (n : Nat) (c : Cam) : (s.setCam n c).drams = s.drams := rfl
@[simp] theorem State.setCam_dmas (s : State) (n : Nat) (c : Cam) : (s.setCam n c).dmas = s.dmas := rfl
@[simp] theorem State.setCam_encs (s : State) (n : Nat) (c : Cam) : (s.setCam n c).encs = s.encs := rfl
@[simp] theorem State.setCam_wheel (s : State) (n : Nat) (c : Cam) : (s.setCam n c).wheel = s.wheel := rfl
@[simp] theorem State.setCam_gens (s : State) (n : Nat) (c : Cam) : (s.setCam n c).gens = s.gens := rfl
@[simp] theorem State.setCam_trigs (s : State) (n : Nat) (c : Cam) : (s.setCam n c).trigs = s.trigs := rfl
@[simp] theorem State.setCam_cmps (s : State) (n : Nat) (c : Cam) : (s.setCam n c).cmps = s.cmps := rfl
@[simp] theorem State.setCam_probes (s : State) (n : Nat) (c : Cam) : (s.setCam n c).probes = s.probes := rfl
@[simp] theorem State.setCam_mirs (s : State) (n : Nat) (c : Cam) : (s.setCam n c).mirs = s.mirs := rfl
@[simp] theorem State.setCam_cams (s : State) (n : Nat) (c : Cam) : (s.setCam n c).cams = tput s.cams n c := rfl
@[simp] theorem State.setCam_uplinks (s : State) (n : Nat) (c : Cam) : (s.setCam n c).uplinks = s.uplinks := rfl
@[simp] theorem State.setCam_ctxs (s : State) (n : Nat) (c : Cam) : (s.setCam n c).ctxs = s.ctxs := rfl
@[simp] theorem State.setCam_pipes (s : State) (n : Nat) (c : Cam) : (s.setCam n c).pipes = s.pipes := rfl
@[simp] theorem State.setCam_seam (s : State) (n : Nat) (c : Cam) : (s.setCam n c).seam = s.seam := rfl
@[simp] theorem State.setCam_coding (s : State) (n : Nat) (c : Cam) : (s.setCam n c).coding = s.coding := rfl
@[simp] theorem State.setCam_wins (s : State) (n : Nat) (c : Cam) : (s.setCam n c).wins = s.wins := rfl
@[simp] theorem State.setCam_views (s : State) (n : Nat) (c : Cam) : (s.setCam n c).views = s.views := rfl
@[simp] theorem State.setCam_zes (s : State) (n : Nat) (c : Cam) : (s.setCam n c).zes = s.zes := rfl
@[simp] theorem State.setCam_cropJobs (s : State) (n : Nat) (c : Cam) : (s.setCam n c).cropJobs = s.cropJobs := rfl
@[simp] theorem State.setCam_slip (s : State) (n : Nat) (c : Cam) : (s.setCam n c).slip = s.slip := rfl
@[simp] theorem State.setCam_bars (s : State) (n : Nat) (c : Cam) : (s.setCam n c).bars = s.bars := rfl
@[simp] theorem State.setCam_ports (s : State) (n : Nat) (c : Cam) : (s.setCam n c).ports = s.ports := rfl
@[simp] theorem State.setCam_heads (s : State) (n : Nat) (c : Cam) : (s.setCam n c).heads = s.heads := rfl
@[simp] theorem State.setCam_scan (s : State) (n : Nat) (c : Cam) : (s.setCam n c).scan = s.scan := rfl
@[simp] theorem State.setCam_gas (s : State) (n : Nat) (c : Cam) : (s.setCam n c).gas = s.gas := rfl
@[simp] theorem State.setCam_syncAt (s : State) (n : Nat) (c : Cam) : (s.setCam n c).syncAt = s.syncAt := rfl
@[simp] theorem State.setCam_umb (s : State) (n : Nat) (c : Cam) : (s.setCam n c).umb = s.umb := rfl
@[simp] theorem State.setCam_loop (s : State) (n : Nat) (c : Cam) : (s.setCam n c).loop = s.loop := rfl
@[simp] theorem State.setCam_skl (s : State) (n : Nat) (c : Cam) : (s.setCam n c).skl = s.skl := rfl
@[simp] theorem State.setCam_sync (s : State) (n : Nat) (c : Cam) : (s.setCam n c).sync = s.sync := rfl

/-! ### coreFault -/

@[simp] theorem State.coreFault_pending (s : State) (h kind : Nat) : (s.coreFault h kind).pending = s.pending := rfl
@[simp] theorem State.coreFault_now (s : State) (h kind : Nat) : (s.coreFault h kind).now = s.now := rfl
@[simp] theorem State.coreFault_timeBase (s : State) (h kind : Nat) : (s.coreFault h kind).timeBase = s.timeBase := rfl
@[simp] theorem State.coreFault_timeC0 (s : State) (h kind : Nat) : (s.coreFault h kind).timeC0 = s.timeC0 := rfl
@[simp] theorem State.coreFault_stateAt (s : State) (h kind : Nat) : (s.coreFault h kind).stateAt = s.stateAt := rfl
@[simp] theorem State.coreFault_free (s : State) (h kind : Nat) : (s.coreFault h kind).free = s.free := rfl
@[simp] theorem State.coreFault_regs (s : State) (h kind : Nat) : (s.coreFault h kind).regs = s.regs := rfl
@[simp] theorem State.coreFault_shadow (s : State) (h kind : Nat) : (s.coreFault h kind).shadow = s.shadow := rfl
@[simp] theorem State.coreFault_dom (s : State) (h kind : Nat) : (s.coreFault h kind).dom = s.dom := rfl
@[simp] theorem State.coreFault_domLens (s : State) (h kind : Nat) : (s.coreFault h kind).domLens = s.domLens := rfl
@[simp] theorem State.coreFault_shDom (s : State) (h kind : Nat) : (s.coreFault h kind).shDom = s.shDom := rfl
@[simp] theorem State.coreFault_shDomLens (s : State) (h kind : Nat) : (s.coreFault h kind).shDomLens = s.shDomLens := rfl
@[simp] theorem State.coreFault_own (s : State) (h kind : Nat) : (s.coreFault h kind).own = s.own := rfl
@[simp] theorem State.coreFault_sherds (s : State) (h kind : Nat) : (s.coreFault h kind).sherds = s.sherds := rfl
@[simp] theorem State.coreFault_commitBands (s : State) (h kind : Nat) : (s.coreFault h kind).commitBands = s.commitBands := rfl
@[simp] theorem State.coreFault_readData (s : State) (h kind : Nat) : (s.coreFault h kind).readData = s.readData := rfl
@[simp] theorem State.coreFault_chal (s : State) (h kind : Nat) : (s.coreFault h kind).chal = s.chal := rfl
@[simp] theorem State.coreFault_xfers (s : State) (h kind : Nat) : (s.coreFault h kind).xfers = s.xfers := rfl
@[simp] theorem State.coreFault_sessions (s : State) (h kind : Nat) : (s.coreFault h kind).sessions = s.sessions := rfl
@[simp] theorem State.coreFault_udpOut (s : State) (h kind : Nat) : (s.coreFault h kind).udpOut = s.udpOut := rfl
@[simp] theorem State.coreFault_hostOut (s : State) (h kind : Nat) : (s.coreFault h kind).hostOut = s.hostOut := rfl
@[simp] theorem State.coreFault_ethOut (s : State) (h kind : Nat) : (s.coreFault h kind).ethOut = s.ethOut := rfl
@[simp] theorem State.coreFault_arp (s : State) (h kind : Nat) : (s.coreFault h kind).arp = s.arp := rfl
@[simp] theorem State.coreFault_mem (s : State) (h kind : Nat) : (s.coreFault h kind).mem = s.mem := rfl
@[simp] theorem State.coreFault_glaze (s : State) (h kind : Nat) : (s.coreFault h kind).glaze = s.glaze := rfl
@[simp] theorem State.coreFault_raised (s : State) (h kind : Nat) : (s.coreFault h kind).raised = s.raised := rfl
@[simp] theorem State.coreFault_tasks (s : State) (h kind : Nat) : (s.coreFault h kind).tasks = s.tasks := rfl
@[simp] theorem State.coreFault_holdEnds (s : State) (h kind : Nat) : (s.coreFault h kind).holdEnds = s.holdEnds := rfl
@[simp] theorem State.coreFault_maskSetAt (s : State) (h kind : Nat) : (s.coreFault h kind).maskSetAt = s.maskSetAt := rfl
@[simp] theorem State.coreFault_arrived (s : State) (h kind : Nat) : (s.coreFault h kind).arrived = s.arrived := rfl
@[simp] theorem State.coreFault_msix (s : State) (h kind : Nat) : (s.coreFault h kind).msix = s.msix := rfl
@[simp] theorem State.coreFault_wbuf (s : State) (h kind : Nat) : (s.coreFault h kind).wbuf = s.wbuf := rfl
@[simp] theorem State.coreFault_wring (s : State) (h kind : Nat) : (s.coreFault h kind).wring = s.wring := rfl
@[simp] theorem State.coreFault_wgap (s : State) (h kind : Nat) : (s.coreFault h kind).wgap = s.wgap := rfl
@[simp] theorem State.coreFault_faultTimes (s : State) (h kind : Nat) : (s.coreFault h kind).faultTimes = s.faultTimes := rfl
@[simp] theorem State.coreFault_fuses (s : State) (h kind : Nat) : (s.coreFault h kind).fuses = s.fuses := rfl
@[simp] theorem State.coreFault_boot (s : State) (h kind : Nat) : (s.coreFault h kind).boot = s.boot := rfl
@[simp] theorem State.coreFault_power (s : State) (h kind : Nat) : (s.coreFault h kind).power = s.power := rfl
@[simp] theorem State.coreFault_cores (s : State) (h kind : Nat) : (s.coreFault h kind).cores = s.cores := rfl
@[simp] theorem State.coreFault_coreFaults (s : State) (h kind : Nat) : (s.coreFault h kind).coreFaults = tput s.coreFaults h kind := rfl
@[simp] theorem State.coreFault_wdog (s : State) (h kind : Nat) : (s.coreFault h kind).wdog = s.wdog := rfl
@[simp] theorem State.coreFault_hot (s : State) (h kind : Nat) : (s.coreFault h kind).hot = s.hot := rfl
@[simp] theorem State.coreFault_calRecs (s : State) (h kind : Nat) : (s.coreFault h kind).calRecs = s.calRecs := rfl
@[simp] theorem State.coreFault_gpioIn (s : State) (h kind : Nat) : (s.coreFault h kind).gpioIn = s.gpioIn := rfl
@[simp] theorem State.coreFault_pins (s : State) (h kind : Nat) : (s.coreFault h kind).pins = s.pins := rfl
@[simp] theorem State.coreFault_queues (s : State) (h kind : Nat) : (s.coreFault h kind).queues = s.queues := rfl
@[simp] theorem State.coreFault_drams (s : State) (h kind : Nat) : (s.coreFault h kind).drams = s.drams := rfl
@[simp] theorem State.coreFault_dmas (s : State) (h kind : Nat) : (s.coreFault h kind).dmas = s.dmas := rfl
@[simp] theorem State.coreFault_encs (s : State) (h kind : Nat) : (s.coreFault h kind).encs = s.encs := rfl
@[simp] theorem State.coreFault_wheel (s : State) (h kind : Nat) : (s.coreFault h kind).wheel = s.wheel := rfl
@[simp] theorem State.coreFault_gens (s : State) (h kind : Nat) : (s.coreFault h kind).gens = s.gens := rfl
@[simp] theorem State.coreFault_trigs (s : State) (h kind : Nat) : (s.coreFault h kind).trigs = s.trigs := rfl
@[simp] theorem State.coreFault_cmps (s : State) (h kind : Nat) : (s.coreFault h kind).cmps = s.cmps := rfl
@[simp] theorem State.coreFault_probes (s : State) (h kind : Nat) : (s.coreFault h kind).probes = s.probes := rfl
@[simp] theorem State.coreFault_mirs (s : State) (h kind : Nat) : (s.coreFault h kind).mirs = s.mirs := rfl
@[simp] theorem State.coreFault_cams (s : State) (h kind : Nat) : (s.coreFault h kind).cams = s.cams := rfl
@[simp] theorem State.coreFault_uplinks (s : State) (h kind : Nat) : (s.coreFault h kind).uplinks = s.uplinks := rfl
@[simp] theorem State.coreFault_ctxs (s : State) (h kind : Nat) : (s.coreFault h kind).ctxs = s.ctxs := rfl
@[simp] theorem State.coreFault_pipes (s : State) (h kind : Nat) : (s.coreFault h kind).pipes = s.pipes := rfl
@[simp] theorem State.coreFault_seam (s : State) (h kind : Nat) : (s.coreFault h kind).seam = s.seam := rfl
@[simp] theorem State.coreFault_coding (s : State) (h kind : Nat) : (s.coreFault h kind).coding = s.coding := rfl
@[simp] theorem State.coreFault_wins (s : State) (h kind : Nat) : (s.coreFault h kind).wins = s.wins := rfl
@[simp] theorem State.coreFault_views (s : State) (h kind : Nat) : (s.coreFault h kind).views = s.views := rfl
@[simp] theorem State.coreFault_zes (s : State) (h kind : Nat) : (s.coreFault h kind).zes = s.zes := rfl
@[simp] theorem State.coreFault_cropJobs (s : State) (h kind : Nat) : (s.coreFault h kind).cropJobs = s.cropJobs := rfl
@[simp] theorem State.coreFault_slip (s : State) (h kind : Nat) : (s.coreFault h kind).slip = s.slip := rfl
@[simp] theorem State.coreFault_bars (s : State) (h kind : Nat) : (s.coreFault h kind).bars = s.bars := rfl
@[simp] theorem State.coreFault_ports (s : State) (h kind : Nat) : (s.coreFault h kind).ports = s.ports := rfl
@[simp] theorem State.coreFault_heads (s : State) (h kind : Nat) : (s.coreFault h kind).heads = s.heads := rfl
@[simp] theorem State.coreFault_scan (s : State) (h kind : Nat) : (s.coreFault h kind).scan = s.scan := rfl
@[simp] theorem State.coreFault_gas (s : State) (h kind : Nat) : (s.coreFault h kind).gas = s.gas := rfl
@[simp] theorem State.coreFault_syncAt (s : State) (h kind : Nat) : (s.coreFault h kind).syncAt = s.syncAt := rfl
@[simp] theorem State.coreFault_umb (s : State) (h kind : Nat) : (s.coreFault h kind).umb = s.umb := rfl
@[simp] theorem State.coreFault_loop (s : State) (h kind : Nat) : (s.coreFault h kind).loop = s.loop := rfl
@[simp] theorem State.coreFault_skl (s : State) (h kind : Nat) : (s.coreFault h kind).skl = s.skl := rfl
@[simp] theorem State.coreFault_sync (s : State) (h kind : Nat) : (s.coreFault h kind).sync = s.sync := rfl

/-! ### coreLoad -/

@[simp] theorem State.coreLoad_pending (s : State) (h v : Nat) : (s.coreLoad h v).pending = s.pending := rfl
@[simp] theorem State.coreLoad_now (s : State) (h v : Nat) : (s.coreLoad h v).now = s.now := rfl
@[simp] theorem State.coreLoad_timeBase (s : State) (h v : Nat) : (s.coreLoad h v).timeBase = s.timeBase := rfl
@[simp] theorem State.coreLoad_timeC0 (s : State) (h v : Nat) : (s.coreLoad h v).timeC0 = s.timeC0 := rfl
@[simp] theorem State.coreLoad_stateAt (s : State) (h v : Nat) : (s.coreLoad h v).stateAt = s.stateAt := rfl
@[simp] theorem State.coreLoad_free (s : State) (h v : Nat) : (s.coreLoad h v).free = s.free := rfl
@[simp] theorem State.coreLoad_regs (s : State) (h v : Nat) : (s.coreLoad h v).regs = s.regs := rfl
@[simp] theorem State.coreLoad_shadow (s : State) (h v : Nat) : (s.coreLoad h v).shadow = s.shadow := rfl
@[simp] theorem State.coreLoad_dom (s : State) (h v : Nat) : (s.coreLoad h v).dom = s.dom := rfl
@[simp] theorem State.coreLoad_domLens (s : State) (h v : Nat) : (s.coreLoad h v).domLens = s.domLens := rfl
@[simp] theorem State.coreLoad_shDom (s : State) (h v : Nat) : (s.coreLoad h v).shDom = s.shDom := rfl
@[simp] theorem State.coreLoad_shDomLens (s : State) (h v : Nat) : (s.coreLoad h v).shDomLens = s.shDomLens := rfl
@[simp] theorem State.coreLoad_own (s : State) (h v : Nat) : (s.coreLoad h v).own = s.own := rfl
@[simp] theorem State.coreLoad_sherds (s : State) (h v : Nat) : (s.coreLoad h v).sherds = s.sherds := rfl
@[simp] theorem State.coreLoad_commitBands (s : State) (h v : Nat) : (s.coreLoad h v).commitBands = s.commitBands := rfl
@[simp] theorem State.coreLoad_readData (s : State) (h v : Nat) : (s.coreLoad h v).readData = tput s.readData (8 + h) v := rfl
@[simp] theorem State.coreLoad_chal (s : State) (h v : Nat) : (s.coreLoad h v).chal = s.chal := rfl
@[simp] theorem State.coreLoad_xfers (s : State) (h v : Nat) : (s.coreLoad h v).xfers = s.xfers := rfl
@[simp] theorem State.coreLoad_sessions (s : State) (h v : Nat) : (s.coreLoad h v).sessions = s.sessions := rfl
@[simp] theorem State.coreLoad_udpOut (s : State) (h v : Nat) : (s.coreLoad h v).udpOut = s.udpOut := rfl
@[simp] theorem State.coreLoad_hostOut (s : State) (h v : Nat) : (s.coreLoad h v).hostOut = s.hostOut := rfl
@[simp] theorem State.coreLoad_ethOut (s : State) (h v : Nat) : (s.coreLoad h v).ethOut = s.ethOut := rfl
@[simp] theorem State.coreLoad_arp (s : State) (h v : Nat) : (s.coreLoad h v).arp = s.arp := rfl
@[simp] theorem State.coreLoad_mem (s : State) (h v : Nat) : (s.coreLoad h v).mem = s.mem := rfl
@[simp] theorem State.coreLoad_glaze (s : State) (h v : Nat) : (s.coreLoad h v).glaze = s.glaze := rfl
@[simp] theorem State.coreLoad_raised (s : State) (h v : Nat) : (s.coreLoad h v).raised = s.raised := rfl
@[simp] theorem State.coreLoad_tasks (s : State) (h v : Nat) : (s.coreLoad h v).tasks = s.tasks := rfl
@[simp] theorem State.coreLoad_holdEnds (s : State) (h v : Nat) : (s.coreLoad h v).holdEnds = s.holdEnds := rfl
@[simp] theorem State.coreLoad_maskSetAt (s : State) (h v : Nat) : (s.coreLoad h v).maskSetAt = s.maskSetAt := rfl
@[simp] theorem State.coreLoad_arrived (s : State) (h v : Nat) : (s.coreLoad h v).arrived = s.arrived := rfl
@[simp] theorem State.coreLoad_msix (s : State) (h v : Nat) : (s.coreLoad h v).msix = s.msix := rfl
@[simp] theorem State.coreLoad_wbuf (s : State) (h v : Nat) : (s.coreLoad h v).wbuf = s.wbuf := rfl
@[simp] theorem State.coreLoad_wring (s : State) (h v : Nat) : (s.coreLoad h v).wring = s.wring := rfl
@[simp] theorem State.coreLoad_wgap (s : State) (h v : Nat) : (s.coreLoad h v).wgap = s.wgap := rfl
@[simp] theorem State.coreLoad_faultTimes (s : State) (h v : Nat) : (s.coreLoad h v).faultTimes = s.faultTimes := rfl
@[simp] theorem State.coreLoad_fuses (s : State) (h v : Nat) : (s.coreLoad h v).fuses = s.fuses := rfl
@[simp] theorem State.coreLoad_boot (s : State) (h v : Nat) : (s.coreLoad h v).boot = s.boot := rfl
@[simp] theorem State.coreLoad_power (s : State) (h v : Nat) : (s.coreLoad h v).power = s.power := rfl
@[simp] theorem State.coreLoad_cores (s : State) (h v : Nat) : (s.coreLoad h v).cores = s.cores := rfl
@[simp] theorem State.coreLoad_coreFaults (s : State) (h v : Nat) : (s.coreLoad h v).coreFaults = s.coreFaults := rfl
@[simp] theorem State.coreLoad_wdog (s : State) (h v : Nat) : (s.coreLoad h v).wdog = s.wdog := rfl
@[simp] theorem State.coreLoad_hot (s : State) (h v : Nat) : (s.coreLoad h v).hot = s.hot := rfl
@[simp] theorem State.coreLoad_calRecs (s : State) (h v : Nat) : (s.coreLoad h v).calRecs = s.calRecs := rfl
@[simp] theorem State.coreLoad_gpioIn (s : State) (h v : Nat) : (s.coreLoad h v).gpioIn = s.gpioIn := rfl
@[simp] theorem State.coreLoad_pins (s : State) (h v : Nat) : (s.coreLoad h v).pins = s.pins := rfl
@[simp] theorem State.coreLoad_queues (s : State) (h v : Nat) : (s.coreLoad h v).queues = s.queues := rfl
@[simp] theorem State.coreLoad_drams (s : State) (h v : Nat) : (s.coreLoad h v).drams = s.drams := rfl
@[simp] theorem State.coreLoad_dmas (s : State) (h v : Nat) : (s.coreLoad h v).dmas = s.dmas := rfl
@[simp] theorem State.coreLoad_encs (s : State) (h v : Nat) : (s.coreLoad h v).encs = s.encs := rfl
@[simp] theorem State.coreLoad_wheel (s : State) (h v : Nat) : (s.coreLoad h v).wheel = s.wheel := rfl
@[simp] theorem State.coreLoad_gens (s : State) (h v : Nat) : (s.coreLoad h v).gens = s.gens := rfl
@[simp] theorem State.coreLoad_trigs (s : State) (h v : Nat) : (s.coreLoad h v).trigs = s.trigs := rfl
@[simp] theorem State.coreLoad_cmps (s : State) (h v : Nat) : (s.coreLoad h v).cmps = s.cmps := rfl
@[simp] theorem State.coreLoad_probes (s : State) (h v : Nat) : (s.coreLoad h v).probes = s.probes := rfl
@[simp] theorem State.coreLoad_mirs (s : State) (h v : Nat) : (s.coreLoad h v).mirs = s.mirs := rfl
@[simp] theorem State.coreLoad_cams (s : State) (h v : Nat) : (s.coreLoad h v).cams = s.cams := rfl
@[simp] theorem State.coreLoad_uplinks (s : State) (h v : Nat) : (s.coreLoad h v).uplinks = s.uplinks := rfl
@[simp] theorem State.coreLoad_ctxs (s : State) (h v : Nat) : (s.coreLoad h v).ctxs = s.ctxs := rfl
@[simp] theorem State.coreLoad_pipes (s : State) (h v : Nat) : (s.coreLoad h v).pipes = s.pipes := rfl
@[simp] theorem State.coreLoad_seam (s : State) (h v : Nat) : (s.coreLoad h v).seam = s.seam := rfl
@[simp] theorem State.coreLoad_coding (s : State) (h v : Nat) : (s.coreLoad h v).coding = s.coding := rfl
@[simp] theorem State.coreLoad_wins (s : State) (h v : Nat) : (s.coreLoad h v).wins = s.wins := rfl
@[simp] theorem State.coreLoad_views (s : State) (h v : Nat) : (s.coreLoad h v).views = s.views := rfl
@[simp] theorem State.coreLoad_zes (s : State) (h v : Nat) : (s.coreLoad h v).zes = s.zes := rfl
@[simp] theorem State.coreLoad_cropJobs (s : State) (h v : Nat) : (s.coreLoad h v).cropJobs = s.cropJobs := rfl
@[simp] theorem State.coreLoad_slip (s : State) (h v : Nat) : (s.coreLoad h v).slip = s.slip := rfl
@[simp] theorem State.coreLoad_bars (s : State) (h v : Nat) : (s.coreLoad h v).bars = s.bars := rfl
@[simp] theorem State.coreLoad_ports (s : State) (h v : Nat) : (s.coreLoad h v).ports = s.ports := rfl
@[simp] theorem State.coreLoad_heads (s : State) (h v : Nat) : (s.coreLoad h v).heads = s.heads := rfl
@[simp] theorem State.coreLoad_scan (s : State) (h v : Nat) : (s.coreLoad h v).scan = s.scan := rfl
@[simp] theorem State.coreLoad_gas (s : State) (h v : Nat) : (s.coreLoad h v).gas = s.gas := rfl
@[simp] theorem State.coreLoad_syncAt (s : State) (h v : Nat) : (s.coreLoad h v).syncAt = s.syncAt := rfl
@[simp] theorem State.coreLoad_umb (s : State) (h v : Nat) : (s.coreLoad h v).umb = s.umb := rfl
@[simp] theorem State.coreLoad_loop (s : State) (h v : Nat) : (s.coreLoad h v).loop = s.loop := rfl
@[simp] theorem State.coreLoad_skl (s : State) (h v : Nat) : (s.coreLoad h v).skl = s.skl := rfl
@[simp] theorem State.coreLoad_sync (s : State) (h v : Nat) : (s.coreLoad h v).sync = s.sync := rfl

/-! ### setOwn -/

@[simp] theorem State.setOwn_pending (s : State) (t b : Nat) : (s.setOwn t b).pending = s.pending := rfl
@[simp] theorem State.setOwn_now (s : State) (t b : Nat) : (s.setOwn t b).now = s.now := rfl
@[simp] theorem State.setOwn_timeBase (s : State) (t b : Nat) : (s.setOwn t b).timeBase = s.timeBase := rfl
@[simp] theorem State.setOwn_timeC0 (s : State) (t b : Nat) : (s.setOwn t b).timeC0 = s.timeC0 := rfl
@[simp] theorem State.setOwn_stateAt (s : State) (t b : Nat) : (s.setOwn t b).stateAt = s.stateAt := rfl
@[simp] theorem State.setOwn_free (s : State) (t b : Nat) : (s.setOwn t b).free = s.free := rfl
@[simp] theorem State.setOwn_regs (s : State) (t b : Nat) : (s.setOwn t b).regs = s.regs := rfl
@[simp] theorem State.setOwn_shadow (s : State) (t b : Nat) : (s.setOwn t b).shadow = s.shadow := rfl
@[simp] theorem State.setOwn_dom (s : State) (t b : Nat) : (s.setOwn t b).dom = s.dom := rfl
@[simp] theorem State.setOwn_domLens (s : State) (t b : Nat) : (s.setOwn t b).domLens = s.domLens := rfl
@[simp] theorem State.setOwn_shDom (s : State) (t b : Nat) : (s.setOwn t b).shDom = s.shDom := rfl
@[simp] theorem State.setOwn_shDomLens (s : State) (t b : Nat) : (s.setOwn t b).shDomLens = s.shDomLens := rfl
@[simp] theorem State.setOwn_own (s : State) (t b : Nat) : (s.setOwn t b).own = tput s.own t b := rfl
@[simp] theorem State.setOwn_sherds (s : State) (t b : Nat) : (s.setOwn t b).sherds = s.sherds := rfl
@[simp] theorem State.setOwn_commitBands (s : State) (t b : Nat) : (s.setOwn t b).commitBands = s.commitBands := rfl
@[simp] theorem State.setOwn_readData (s : State) (t b : Nat) : (s.setOwn t b).readData = s.readData := rfl
@[simp] theorem State.setOwn_chal (s : State) (t b : Nat) : (s.setOwn t b).chal = s.chal := rfl
@[simp] theorem State.setOwn_xfers (s : State) (t b : Nat) : (s.setOwn t b).xfers = s.xfers := rfl
@[simp] theorem State.setOwn_sessions (s : State) (t b : Nat) : (s.setOwn t b).sessions = s.sessions := rfl
@[simp] theorem State.setOwn_udpOut (s : State) (t b : Nat) : (s.setOwn t b).udpOut = s.udpOut := rfl
@[simp] theorem State.setOwn_hostOut (s : State) (t b : Nat) : (s.setOwn t b).hostOut = s.hostOut := rfl
@[simp] theorem State.setOwn_ethOut (s : State) (t b : Nat) : (s.setOwn t b).ethOut = s.ethOut := rfl
@[simp] theorem State.setOwn_arp (s : State) (t b : Nat) : (s.setOwn t b).arp = s.arp := rfl
@[simp] theorem State.setOwn_mem (s : State) (t b : Nat) : (s.setOwn t b).mem = s.mem := rfl
@[simp] theorem State.setOwn_glaze (s : State) (t b : Nat) : (s.setOwn t b).glaze = s.glaze := rfl
@[simp] theorem State.setOwn_raised (s : State) (t b : Nat) : (s.setOwn t b).raised = s.raised := rfl
@[simp] theorem State.setOwn_tasks (s : State) (t b : Nat) : (s.setOwn t b).tasks = s.tasks := rfl
@[simp] theorem State.setOwn_holdEnds (s : State) (t b : Nat) : (s.setOwn t b).holdEnds = s.holdEnds := rfl
@[simp] theorem State.setOwn_maskSetAt (s : State) (t b : Nat) : (s.setOwn t b).maskSetAt = s.maskSetAt := rfl
@[simp] theorem State.setOwn_arrived (s : State) (t b : Nat) : (s.setOwn t b).arrived = s.arrived := rfl
@[simp] theorem State.setOwn_msix (s : State) (t b : Nat) : (s.setOwn t b).msix = s.msix := rfl
@[simp] theorem State.setOwn_wbuf (s : State) (t b : Nat) : (s.setOwn t b).wbuf = s.wbuf := rfl
@[simp] theorem State.setOwn_wring (s : State) (t b : Nat) : (s.setOwn t b).wring = s.wring := rfl
@[simp] theorem State.setOwn_wgap (s : State) (t b : Nat) : (s.setOwn t b).wgap = s.wgap := rfl
@[simp] theorem State.setOwn_faultTimes (s : State) (t b : Nat) : (s.setOwn t b).faultTimes = s.faultTimes := rfl
@[simp] theorem State.setOwn_fuses (s : State) (t b : Nat) : (s.setOwn t b).fuses = s.fuses := rfl
@[simp] theorem State.setOwn_boot (s : State) (t b : Nat) : (s.setOwn t b).boot = s.boot := rfl
@[simp] theorem State.setOwn_power (s : State) (t b : Nat) : (s.setOwn t b).power = s.power := rfl
@[simp] theorem State.setOwn_cores (s : State) (t b : Nat) : (s.setOwn t b).cores = s.cores := rfl
@[simp] theorem State.setOwn_coreFaults (s : State) (t b : Nat) : (s.setOwn t b).coreFaults = s.coreFaults := rfl
@[simp] theorem State.setOwn_wdog (s : State) (t b : Nat) : (s.setOwn t b).wdog = s.wdog := rfl
@[simp] theorem State.setOwn_hot (s : State) (t b : Nat) : (s.setOwn t b).hot = s.hot := rfl
@[simp] theorem State.setOwn_calRecs (s : State) (t b : Nat) : (s.setOwn t b).calRecs = s.calRecs := rfl
@[simp] theorem State.setOwn_gpioIn (s : State) (t b : Nat) : (s.setOwn t b).gpioIn = s.gpioIn := rfl
@[simp] theorem State.setOwn_pins (s : State) (t b : Nat) : (s.setOwn t b).pins = s.pins := rfl
@[simp] theorem State.setOwn_queues (s : State) (t b : Nat) : (s.setOwn t b).queues = s.queues := rfl
@[simp] theorem State.setOwn_drams (s : State) (t b : Nat) : (s.setOwn t b).drams = s.drams := rfl
@[simp] theorem State.setOwn_dmas (s : State) (t b : Nat) : (s.setOwn t b).dmas = s.dmas := rfl
@[simp] theorem State.setOwn_encs (s : State) (t b : Nat) : (s.setOwn t b).encs = s.encs := rfl
@[simp] theorem State.setOwn_wheel (s : State) (t b : Nat) : (s.setOwn t b).wheel = s.wheel := rfl
@[simp] theorem State.setOwn_gens (s : State) (t b : Nat) : (s.setOwn t b).gens = s.gens := rfl
@[simp] theorem State.setOwn_trigs (s : State) (t b : Nat) : (s.setOwn t b).trigs = s.trigs := rfl
@[simp] theorem State.setOwn_cmps (s : State) (t b : Nat) : (s.setOwn t b).cmps = s.cmps := rfl
@[simp] theorem State.setOwn_probes (s : State) (t b : Nat) : (s.setOwn t b).probes = s.probes := rfl
@[simp] theorem State.setOwn_mirs (s : State) (t b : Nat) : (s.setOwn t b).mirs = s.mirs := rfl
@[simp] theorem State.setOwn_cams (s : State) (t b : Nat) : (s.setOwn t b).cams = s.cams := rfl
@[simp] theorem State.setOwn_uplinks (s : State) (t b : Nat) : (s.setOwn t b).uplinks = s.uplinks := rfl
@[simp] theorem State.setOwn_ctxs (s : State) (t b : Nat) : (s.setOwn t b).ctxs = s.ctxs := rfl
@[simp] theorem State.setOwn_pipes (s : State) (t b : Nat) : (s.setOwn t b).pipes = s.pipes := rfl
@[simp] theorem State.setOwn_seam (s : State) (t b : Nat) : (s.setOwn t b).seam = s.seam := rfl
@[simp] theorem State.setOwn_coding (s : State) (t b : Nat) : (s.setOwn t b).coding = s.coding := rfl
@[simp] theorem State.setOwn_wins (s : State) (t b : Nat) : (s.setOwn t b).wins = s.wins := rfl
@[simp] theorem State.setOwn_views (s : State) (t b : Nat) : (s.setOwn t b).views = s.views := rfl
@[simp] theorem State.setOwn_zes (s : State) (t b : Nat) : (s.setOwn t b).zes = s.zes := rfl
@[simp] theorem State.setOwn_cropJobs (s : State) (t b : Nat) : (s.setOwn t b).cropJobs = s.cropJobs := rfl
@[simp] theorem State.setOwn_slip (s : State) (t b : Nat) : (s.setOwn t b).slip = s.slip := rfl
@[simp] theorem State.setOwn_bars (s : State) (t b : Nat) : (s.setOwn t b).bars = s.bars := rfl
@[simp] theorem State.setOwn_ports (s : State) (t b : Nat) : (s.setOwn t b).ports = s.ports := rfl
@[simp] theorem State.setOwn_heads (s : State) (t b : Nat) : (s.setOwn t b).heads = s.heads := rfl
@[simp] theorem State.setOwn_scan (s : State) (t b : Nat) : (s.setOwn t b).scan = s.scan := rfl
@[simp] theorem State.setOwn_gas (s : State) (t b : Nat) : (s.setOwn t b).gas = s.gas := rfl
@[simp] theorem State.setOwn_syncAt (s : State) (t b : Nat) : (s.setOwn t b).syncAt = s.syncAt := rfl
@[simp] theorem State.setOwn_umb (s : State) (t b : Nat) : (s.setOwn t b).umb = s.umb := rfl
@[simp] theorem State.setOwn_loop (s : State) (t b : Nat) : (s.setOwn t b).loop = s.loop := rfl
@[simp] theorem State.setOwn_skl (s : State) (t b : Nat) : (s.setOwn t b).skl = s.skl := rfl
@[simp] theorem State.setOwn_sync (s : State) (t b : Nat) : (s.setOwn t b).sync = s.sync := rfl

/-! ### setDma -/

@[simp] theorem State.setDma_pending (s : State) (c : Nat) (x : Dma) : (s.setDma c x).pending = s.pending := rfl
@[simp] theorem State.setDma_now (s : State) (c : Nat) (x : Dma) : (s.setDma c x).now = s.now := rfl
@[simp] theorem State.setDma_timeBase (s : State) (c : Nat) (x : Dma) : (s.setDma c x).timeBase = s.timeBase := rfl
@[simp] theorem State.setDma_timeC0 (s : State) (c : Nat) (x : Dma) : (s.setDma c x).timeC0 = s.timeC0 := rfl
@[simp] theorem State.setDma_stateAt (s : State) (c : Nat) (x : Dma) : (s.setDma c x).stateAt = s.stateAt := rfl
@[simp] theorem State.setDma_free (s : State) (c : Nat) (x : Dma) : (s.setDma c x).free = s.free := rfl
@[simp] theorem State.setDma_regs (s : State) (c : Nat) (x : Dma) : (s.setDma c x).regs = s.regs := rfl
@[simp] theorem State.setDma_shadow (s : State) (c : Nat) (x : Dma) : (s.setDma c x).shadow = s.shadow := rfl
@[simp] theorem State.setDma_dom (s : State) (c : Nat) (x : Dma) : (s.setDma c x).dom = s.dom := rfl
@[simp] theorem State.setDma_domLens (s : State) (c : Nat) (x : Dma) : (s.setDma c x).domLens = s.domLens := rfl
@[simp] theorem State.setDma_shDom (s : State) (c : Nat) (x : Dma) : (s.setDma c x).shDom = s.shDom := rfl
@[simp] theorem State.setDma_shDomLens (s : State) (c : Nat) (x : Dma) : (s.setDma c x).shDomLens = s.shDomLens := rfl
@[simp] theorem State.setDma_own (s : State) (c : Nat) (x : Dma) : (s.setDma c x).own = s.own := rfl
@[simp] theorem State.setDma_sherds (s : State) (c : Nat) (x : Dma) : (s.setDma c x).sherds = s.sherds := rfl
@[simp] theorem State.setDma_commitBands (s : State) (c : Nat) (x : Dma) : (s.setDma c x).commitBands = s.commitBands := rfl
@[simp] theorem State.setDma_readData (s : State) (c : Nat) (x : Dma) : (s.setDma c x).readData = s.readData := rfl
@[simp] theorem State.setDma_chal (s : State) (c : Nat) (x : Dma) : (s.setDma c x).chal = s.chal := rfl
@[simp] theorem State.setDma_xfers (s : State) (c : Nat) (x : Dma) : (s.setDma c x).xfers = s.xfers := rfl
@[simp] theorem State.setDma_sessions (s : State) (c : Nat) (x : Dma) : (s.setDma c x).sessions = s.sessions := rfl
@[simp] theorem State.setDma_udpOut (s : State) (c : Nat) (x : Dma) : (s.setDma c x).udpOut = s.udpOut := rfl
@[simp] theorem State.setDma_hostOut (s : State) (c : Nat) (x : Dma) : (s.setDma c x).hostOut = s.hostOut := rfl
@[simp] theorem State.setDma_ethOut (s : State) (c : Nat) (x : Dma) : (s.setDma c x).ethOut = s.ethOut := rfl
@[simp] theorem State.setDma_arp (s : State) (c : Nat) (x : Dma) : (s.setDma c x).arp = s.arp := rfl
@[simp] theorem State.setDma_mem (s : State) (c : Nat) (x : Dma) : (s.setDma c x).mem = s.mem := rfl
@[simp] theorem State.setDma_glaze (s : State) (c : Nat) (x : Dma) : (s.setDma c x).glaze = s.glaze := rfl
@[simp] theorem State.setDma_raised (s : State) (c : Nat) (x : Dma) : (s.setDma c x).raised = s.raised := rfl
@[simp] theorem State.setDma_tasks (s : State) (c : Nat) (x : Dma) : (s.setDma c x).tasks = s.tasks := rfl
@[simp] theorem State.setDma_holdEnds (s : State) (c : Nat) (x : Dma) : (s.setDma c x).holdEnds = s.holdEnds := rfl
@[simp] theorem State.setDma_maskSetAt (s : State) (c : Nat) (x : Dma) : (s.setDma c x).maskSetAt = s.maskSetAt := rfl
@[simp] theorem State.setDma_arrived (s : State) (c : Nat) (x : Dma) : (s.setDma c x).arrived = s.arrived := rfl
@[simp] theorem State.setDma_msix (s : State) (c : Nat) (x : Dma) : (s.setDma c x).msix = s.msix := rfl
@[simp] theorem State.setDma_wbuf (s : State) (c : Nat) (x : Dma) : (s.setDma c x).wbuf = s.wbuf := rfl
@[simp] theorem State.setDma_wring (s : State) (c : Nat) (x : Dma) : (s.setDma c x).wring = s.wring := rfl
@[simp] theorem State.setDma_wgap (s : State) (c : Nat) (x : Dma) : (s.setDma c x).wgap = s.wgap := rfl
@[simp] theorem State.setDma_faultTimes (s : State) (c : Nat) (x : Dma) : (s.setDma c x).faultTimes = s.faultTimes := rfl
@[simp] theorem State.setDma_fuses (s : State) (c : Nat) (x : Dma) : (s.setDma c x).fuses = s.fuses := rfl
@[simp] theorem State.setDma_boot (s : State) (c : Nat) (x : Dma) : (s.setDma c x).boot = s.boot := rfl
@[simp] theorem State.setDma_power (s : State) (c : Nat) (x : Dma) : (s.setDma c x).power = s.power := rfl
@[simp] theorem State.setDma_cores (s : State) (c : Nat) (x : Dma) : (s.setDma c x).cores = s.cores := rfl
@[simp] theorem State.setDma_coreFaults (s : State) (c : Nat) (x : Dma) : (s.setDma c x).coreFaults = s.coreFaults := rfl
@[simp] theorem State.setDma_wdog (s : State) (c : Nat) (x : Dma) : (s.setDma c x).wdog = s.wdog := rfl
@[simp] theorem State.setDma_hot (s : State) (c : Nat) (x : Dma) : (s.setDma c x).hot = s.hot := rfl
@[simp] theorem State.setDma_calRecs (s : State) (c : Nat) (x : Dma) : (s.setDma c x).calRecs = s.calRecs := rfl
@[simp] theorem State.setDma_gpioIn (s : State) (c : Nat) (x : Dma) : (s.setDma c x).gpioIn = s.gpioIn := rfl
@[simp] theorem State.setDma_pins (s : State) (c : Nat) (x : Dma) : (s.setDma c x).pins = s.pins := rfl
@[simp] theorem State.setDma_queues (s : State) (c : Nat) (x : Dma) : (s.setDma c x).queues = s.queues := rfl
@[simp] theorem State.setDma_drams (s : State) (c : Nat) (x : Dma) : (s.setDma c x).drams = s.drams := rfl
@[simp] theorem State.setDma_dmas (s : State) (c : Nat) (x : Dma) : (s.setDma c x).dmas = tput s.dmas c x := rfl
@[simp] theorem State.setDma_encs (s : State) (c : Nat) (x : Dma) : (s.setDma c x).encs = s.encs := rfl
@[simp] theorem State.setDma_wheel (s : State) (c : Nat) (x : Dma) : (s.setDma c x).wheel = s.wheel := rfl
@[simp] theorem State.setDma_gens (s : State) (c : Nat) (x : Dma) : (s.setDma c x).gens = s.gens := rfl
@[simp] theorem State.setDma_trigs (s : State) (c : Nat) (x : Dma) : (s.setDma c x).trigs = s.trigs := rfl
@[simp] theorem State.setDma_cmps (s : State) (c : Nat) (x : Dma) : (s.setDma c x).cmps = s.cmps := rfl
@[simp] theorem State.setDma_probes (s : State) (c : Nat) (x : Dma) : (s.setDma c x).probes = s.probes := rfl
@[simp] theorem State.setDma_mirs (s : State) (c : Nat) (x : Dma) : (s.setDma c x).mirs = s.mirs := rfl
@[simp] theorem State.setDma_cams (s : State) (c : Nat) (x : Dma) : (s.setDma c x).cams = s.cams := rfl
@[simp] theorem State.setDma_uplinks (s : State) (c : Nat) (x : Dma) : (s.setDma c x).uplinks = s.uplinks := rfl
@[simp] theorem State.setDma_ctxs (s : State) (c : Nat) (x : Dma) : (s.setDma c x).ctxs = s.ctxs := rfl
@[simp] theorem State.setDma_pipes (s : State) (c : Nat) (x : Dma) : (s.setDma c x).pipes = s.pipes := rfl
@[simp] theorem State.setDma_seam (s : State) (c : Nat) (x : Dma) : (s.setDma c x).seam = s.seam := rfl
@[simp] theorem State.setDma_coding (s : State) (c : Nat) (x : Dma) : (s.setDma c x).coding = s.coding := rfl
@[simp] theorem State.setDma_wins (s : State) (c : Nat) (x : Dma) : (s.setDma c x).wins = s.wins := rfl
@[simp] theorem State.setDma_views (s : State) (c : Nat) (x : Dma) : (s.setDma c x).views = s.views := rfl
@[simp] theorem State.setDma_zes (s : State) (c : Nat) (x : Dma) : (s.setDma c x).zes = s.zes := rfl
@[simp] theorem State.setDma_cropJobs (s : State) (c : Nat) (x : Dma) : (s.setDma c x).cropJobs = s.cropJobs := rfl
@[simp] theorem State.setDma_slip (s : State) (c : Nat) (x : Dma) : (s.setDma c x).slip = s.slip := rfl
@[simp] theorem State.setDma_bars (s : State) (c : Nat) (x : Dma) : (s.setDma c x).bars = s.bars := rfl
@[simp] theorem State.setDma_ports (s : State) (c : Nat) (x : Dma) : (s.setDma c x).ports = s.ports := rfl
@[simp] theorem State.setDma_heads (s : State) (c : Nat) (x : Dma) : (s.setDma c x).heads = s.heads := rfl
@[simp] theorem State.setDma_scan (s : State) (c : Nat) (x : Dma) : (s.setDma c x).scan = s.scan := rfl
@[simp] theorem State.setDma_gas (s : State) (c : Nat) (x : Dma) : (s.setDma c x).gas = s.gas := rfl
@[simp] theorem State.setDma_syncAt (s : State) (c : Nat) (x : Dma) : (s.setDma c x).syncAt = s.syncAt := rfl
@[simp] theorem State.setDma_umb (s : State) (c : Nat) (x : Dma) : (s.setDma c x).umb = s.umb := rfl
@[simp] theorem State.setDma_loop (s : State) (c : Nat) (x : Dma) : (s.setDma c x).loop = s.loop := rfl
@[simp] theorem State.setDma_skl (s : State) (c : Nat) (x : Dma) : (s.setDma c x).skl = s.skl := rfl
@[simp] theorem State.setDma_sync (s : State) (c : Nat) (x : Dma) : (s.setDma c x).sync = s.sync := rfl

/-! ### setZe -/

@[simp] theorem State.setZe_pending (s : State) (e : Nat) (z : Ze) : (s.setZe e z).pending = s.pending := rfl
@[simp] theorem State.setZe_now (s : State) (e : Nat) (z : Ze) : (s.setZe e z).now = s.now := rfl
@[simp] theorem State.setZe_timeBase (s : State) (e : Nat) (z : Ze) : (s.setZe e z).timeBase = s.timeBase := rfl
@[simp] theorem State.setZe_timeC0 (s : State) (e : Nat) (z : Ze) : (s.setZe e z).timeC0 = s.timeC0 := rfl
@[simp] theorem State.setZe_stateAt (s : State) (e : Nat) (z : Ze) : (s.setZe e z).stateAt = s.stateAt := rfl
@[simp] theorem State.setZe_free (s : State) (e : Nat) (z : Ze) : (s.setZe e z).free = s.free := rfl
@[simp] theorem State.setZe_regs (s : State) (e : Nat) (z : Ze) : (s.setZe e z).regs = s.regs := rfl
@[simp] theorem State.setZe_shadow (s : State) (e : Nat) (z : Ze) : (s.setZe e z).shadow = s.shadow := rfl
@[simp] theorem State.setZe_dom (s : State) (e : Nat) (z : Ze) : (s.setZe e z).dom = s.dom := rfl
@[simp] theorem State.setZe_domLens (s : State) (e : Nat) (z : Ze) : (s.setZe e z).domLens = s.domLens := rfl
@[simp] theorem State.setZe_shDom (s : State) (e : Nat) (z : Ze) : (s.setZe e z).shDom = s.shDom := rfl
@[simp] theorem State.setZe_shDomLens (s : State) (e : Nat) (z : Ze) : (s.setZe e z).shDomLens = s.shDomLens := rfl
@[simp] theorem State.setZe_own (s : State) (e : Nat) (z : Ze) : (s.setZe e z).own = s.own := rfl
@[simp] theorem State.setZe_sherds (s : State) (e : Nat) (z : Ze) : (s.setZe e z).sherds = s.sherds := rfl
@[simp] theorem State.setZe_commitBands (s : State) (e : Nat) (z : Ze) : (s.setZe e z).commitBands = s.commitBands := rfl
@[simp] theorem State.setZe_readData (s : State) (e : Nat) (z : Ze) : (s.setZe e z).readData = s.readData := rfl
@[simp] theorem State.setZe_chal (s : State) (e : Nat) (z : Ze) : (s.setZe e z).chal = s.chal := rfl
@[simp] theorem State.setZe_xfers (s : State) (e : Nat) (z : Ze) : (s.setZe e z).xfers = s.xfers := rfl
@[simp] theorem State.setZe_sessions (s : State) (e : Nat) (z : Ze) : (s.setZe e z).sessions = s.sessions := rfl
@[simp] theorem State.setZe_udpOut (s : State) (e : Nat) (z : Ze) : (s.setZe e z).udpOut = s.udpOut := rfl
@[simp] theorem State.setZe_hostOut (s : State) (e : Nat) (z : Ze) : (s.setZe e z).hostOut = s.hostOut := rfl
@[simp] theorem State.setZe_ethOut (s : State) (e : Nat) (z : Ze) : (s.setZe e z).ethOut = s.ethOut := rfl
@[simp] theorem State.setZe_arp (s : State) (e : Nat) (z : Ze) : (s.setZe e z).arp = s.arp := rfl
@[simp] theorem State.setZe_mem (s : State) (e : Nat) (z : Ze) : (s.setZe e z).mem = s.mem := rfl
@[simp] theorem State.setZe_glaze (s : State) (e : Nat) (z : Ze) : (s.setZe e z).glaze = s.glaze := rfl
@[simp] theorem State.setZe_raised (s : State) (e : Nat) (z : Ze) : (s.setZe e z).raised = s.raised := rfl
@[simp] theorem State.setZe_tasks (s : State) (e : Nat) (z : Ze) : (s.setZe e z).tasks = s.tasks := rfl
@[simp] theorem State.setZe_holdEnds (s : State) (e : Nat) (z : Ze) : (s.setZe e z).holdEnds = s.holdEnds := rfl
@[simp] theorem State.setZe_maskSetAt (s : State) (e : Nat) (z : Ze) : (s.setZe e z).maskSetAt = s.maskSetAt := rfl
@[simp] theorem State.setZe_arrived (s : State) (e : Nat) (z : Ze) : (s.setZe e z).arrived = s.arrived := rfl
@[simp] theorem State.setZe_msix (s : State) (e : Nat) (z : Ze) : (s.setZe e z).msix = s.msix := rfl
@[simp] theorem State.setZe_wbuf (s : State) (e : Nat) (z : Ze) : (s.setZe e z).wbuf = s.wbuf := rfl
@[simp] theorem State.setZe_wring (s : State) (e : Nat) (z : Ze) : (s.setZe e z).wring = s.wring := rfl
@[simp] theorem State.setZe_wgap (s : State) (e : Nat) (z : Ze) : (s.setZe e z).wgap = s.wgap := rfl
@[simp] theorem State.setZe_faultTimes (s : State) (e : Nat) (z : Ze) : (s.setZe e z).faultTimes = s.faultTimes := rfl
@[simp] theorem State.setZe_fuses (s : State) (e : Nat) (z : Ze) : (s.setZe e z).fuses = s.fuses := rfl
@[simp] theorem State.setZe_boot (s : State) (e : Nat) (z : Ze) : (s.setZe e z).boot = s.boot := rfl
@[simp] theorem State.setZe_power (s : State) (e : Nat) (z : Ze) : (s.setZe e z).power = s.power := rfl
@[simp] theorem State.setZe_cores (s : State) (e : Nat) (z : Ze) : (s.setZe e z).cores = s.cores := rfl
@[simp] theorem State.setZe_coreFaults (s : State) (e : Nat) (z : Ze) : (s.setZe e z).coreFaults = s.coreFaults := rfl
@[simp] theorem State.setZe_wdog (s : State) (e : Nat) (z : Ze) : (s.setZe e z).wdog = s.wdog := rfl
@[simp] theorem State.setZe_hot (s : State) (e : Nat) (z : Ze) : (s.setZe e z).hot = s.hot := rfl
@[simp] theorem State.setZe_calRecs (s : State) (e : Nat) (z : Ze) : (s.setZe e z).calRecs = s.calRecs := rfl
@[simp] theorem State.setZe_gpioIn (s : State) (e : Nat) (z : Ze) : (s.setZe e z).gpioIn = s.gpioIn := rfl
@[simp] theorem State.setZe_pins (s : State) (e : Nat) (z : Ze) : (s.setZe e z).pins = s.pins := rfl
@[simp] theorem State.setZe_queues (s : State) (e : Nat) (z : Ze) : (s.setZe e z).queues = s.queues := rfl
@[simp] theorem State.setZe_drams (s : State) (e : Nat) (z : Ze) : (s.setZe e z).drams = s.drams := rfl
@[simp] theorem State.setZe_dmas (s : State) (e : Nat) (z : Ze) : (s.setZe e z).dmas = s.dmas := rfl
@[simp] theorem State.setZe_encs (s : State) (e : Nat) (z : Ze) : (s.setZe e z).encs = s.encs := rfl
@[simp] theorem State.setZe_wheel (s : State) (e : Nat) (z : Ze) : (s.setZe e z).wheel = s.wheel := rfl
@[simp] theorem State.setZe_gens (s : State) (e : Nat) (z : Ze) : (s.setZe e z).gens = s.gens := rfl
@[simp] theorem State.setZe_trigs (s : State) (e : Nat) (z : Ze) : (s.setZe e z).trigs = s.trigs := rfl
@[simp] theorem State.setZe_cmps (s : State) (e : Nat) (z : Ze) : (s.setZe e z).cmps = s.cmps := rfl
@[simp] theorem State.setZe_probes (s : State) (e : Nat) (z : Ze) : (s.setZe e z).probes = s.probes := rfl
@[simp] theorem State.setZe_mirs (s : State) (e : Nat) (z : Ze) : (s.setZe e z).mirs = s.mirs := rfl
@[simp] theorem State.setZe_cams (s : State) (e : Nat) (z : Ze) : (s.setZe e z).cams = s.cams := rfl
@[simp] theorem State.setZe_uplinks (s : State) (e : Nat) (z : Ze) : (s.setZe e z).uplinks = s.uplinks := rfl
@[simp] theorem State.setZe_ctxs (s : State) (e : Nat) (z : Ze) : (s.setZe e z).ctxs = s.ctxs := rfl
@[simp] theorem State.setZe_pipes (s : State) (e : Nat) (z : Ze) : (s.setZe e z).pipes = s.pipes := rfl
@[simp] theorem State.setZe_seam (s : State) (e : Nat) (z : Ze) : (s.setZe e z).seam = s.seam := rfl
@[simp] theorem State.setZe_coding (s : State) (e : Nat) (z : Ze) : (s.setZe e z).coding = s.coding := rfl
@[simp] theorem State.setZe_wins (s : State) (e : Nat) (z : Ze) : (s.setZe e z).wins = s.wins := rfl
@[simp] theorem State.setZe_views (s : State) (e : Nat) (z : Ze) : (s.setZe e z).views = s.views := rfl
@[simp] theorem State.setZe_zes (s : State) (e : Nat) (z : Ze) : (s.setZe e z).zes = tput s.zes e z := rfl
@[simp] theorem State.setZe_cropJobs (s : State) (e : Nat) (z : Ze) : (s.setZe e z).cropJobs = s.cropJobs := rfl
@[simp] theorem State.setZe_slip (s : State) (e : Nat) (z : Ze) : (s.setZe e z).slip = s.slip := rfl
@[simp] theorem State.setZe_bars (s : State) (e : Nat) (z : Ze) : (s.setZe e z).bars = s.bars := rfl
@[simp] theorem State.setZe_ports (s : State) (e : Nat) (z : Ze) : (s.setZe e z).ports = s.ports := rfl
@[simp] theorem State.setZe_heads (s : State) (e : Nat) (z : Ze) : (s.setZe e z).heads = s.heads := rfl
@[simp] theorem State.setZe_scan (s : State) (e : Nat) (z : Ze) : (s.setZe e z).scan = s.scan := rfl
@[simp] theorem State.setZe_gas (s : State) (e : Nat) (z : Ze) : (s.setZe e z).gas = s.gas := rfl
@[simp] theorem State.setZe_syncAt (s : State) (e : Nat) (z : Ze) : (s.setZe e z).syncAt = s.syncAt := rfl
@[simp] theorem State.setZe_umb (s : State) (e : Nat) (z : Ze) : (s.setZe e z).umb = s.umb := rfl
@[simp] theorem State.setZe_loop (s : State) (e : Nat) (z : Ze) : (s.setZe e z).loop = s.loop := rfl
@[simp] theorem State.setZe_skl (s : State) (e : Nat) (z : Ze) : (s.setZe e z).skl = s.skl := rfl
@[simp] theorem State.setZe_sync (s : State) (e : Nat) (z : Ze) : (s.setZe e z).sync = s.sync := rfl

/-! ### setGa -/

@[simp] theorem State.setGa_pending (s : State) (c : Nat) (x : Ga) : (s.setGa c x).pending = s.pending := rfl
@[simp] theorem State.setGa_now (s : State) (c : Nat) (x : Ga) : (s.setGa c x).now = s.now := rfl
@[simp] theorem State.setGa_timeBase (s : State) (c : Nat) (x : Ga) : (s.setGa c x).timeBase = s.timeBase := rfl
@[simp] theorem State.setGa_timeC0 (s : State) (c : Nat) (x : Ga) : (s.setGa c x).timeC0 = s.timeC0 := rfl
@[simp] theorem State.setGa_stateAt (s : State) (c : Nat) (x : Ga) : (s.setGa c x).stateAt = s.stateAt := rfl
@[simp] theorem State.setGa_free (s : State) (c : Nat) (x : Ga) : (s.setGa c x).free = s.free := rfl
@[simp] theorem State.setGa_regs (s : State) (c : Nat) (x : Ga) : (s.setGa c x).regs = s.regs := rfl
@[simp] theorem State.setGa_shadow (s : State) (c : Nat) (x : Ga) : (s.setGa c x).shadow = s.shadow := rfl
@[simp] theorem State.setGa_dom (s : State) (c : Nat) (x : Ga) : (s.setGa c x).dom = s.dom := rfl
@[simp] theorem State.setGa_domLens (s : State) (c : Nat) (x : Ga) : (s.setGa c x).domLens = s.domLens := rfl
@[simp] theorem State.setGa_shDom (s : State) (c : Nat) (x : Ga) : (s.setGa c x).shDom = s.shDom := rfl
@[simp] theorem State.setGa_shDomLens (s : State) (c : Nat) (x : Ga) : (s.setGa c x).shDomLens = s.shDomLens := rfl
@[simp] theorem State.setGa_own (s : State) (c : Nat) (x : Ga) : (s.setGa c x).own = s.own := rfl
@[simp] theorem State.setGa_sherds (s : State) (c : Nat) (x : Ga) : (s.setGa c x).sherds = s.sherds := rfl
@[simp] theorem State.setGa_commitBands (s : State) (c : Nat) (x : Ga) : (s.setGa c x).commitBands = s.commitBands := rfl
@[simp] theorem State.setGa_readData (s : State) (c : Nat) (x : Ga) : (s.setGa c x).readData = s.readData := rfl
@[simp] theorem State.setGa_chal (s : State) (c : Nat) (x : Ga) : (s.setGa c x).chal = s.chal := rfl
@[simp] theorem State.setGa_xfers (s : State) (c : Nat) (x : Ga) : (s.setGa c x).xfers = s.xfers := rfl
@[simp] theorem State.setGa_sessions (s : State) (c : Nat) (x : Ga) : (s.setGa c x).sessions = s.sessions := rfl
@[simp] theorem State.setGa_udpOut (s : State) (c : Nat) (x : Ga) : (s.setGa c x).udpOut = s.udpOut := rfl
@[simp] theorem State.setGa_hostOut (s : State) (c : Nat) (x : Ga) : (s.setGa c x).hostOut = s.hostOut := rfl
@[simp] theorem State.setGa_ethOut (s : State) (c : Nat) (x : Ga) : (s.setGa c x).ethOut = s.ethOut := rfl
@[simp] theorem State.setGa_arp (s : State) (c : Nat) (x : Ga) : (s.setGa c x).arp = s.arp := rfl
@[simp] theorem State.setGa_mem (s : State) (c : Nat) (x : Ga) : (s.setGa c x).mem = s.mem := rfl
@[simp] theorem State.setGa_glaze (s : State) (c : Nat) (x : Ga) : (s.setGa c x).glaze = s.glaze := rfl
@[simp] theorem State.setGa_raised (s : State) (c : Nat) (x : Ga) : (s.setGa c x).raised = s.raised := rfl
@[simp] theorem State.setGa_tasks (s : State) (c : Nat) (x : Ga) : (s.setGa c x).tasks = s.tasks := rfl
@[simp] theorem State.setGa_holdEnds (s : State) (c : Nat) (x : Ga) : (s.setGa c x).holdEnds = s.holdEnds := rfl
@[simp] theorem State.setGa_maskSetAt (s : State) (c : Nat) (x : Ga) : (s.setGa c x).maskSetAt = s.maskSetAt := rfl
@[simp] theorem State.setGa_arrived (s : State) (c : Nat) (x : Ga) : (s.setGa c x).arrived = s.arrived := rfl
@[simp] theorem State.setGa_msix (s : State) (c : Nat) (x : Ga) : (s.setGa c x).msix = s.msix := rfl
@[simp] theorem State.setGa_wbuf (s : State) (c : Nat) (x : Ga) : (s.setGa c x).wbuf = s.wbuf := rfl
@[simp] theorem State.setGa_wring (s : State) (c : Nat) (x : Ga) : (s.setGa c x).wring = s.wring := rfl
@[simp] theorem State.setGa_wgap (s : State) (c : Nat) (x : Ga) : (s.setGa c x).wgap = s.wgap := rfl
@[simp] theorem State.setGa_faultTimes (s : State) (c : Nat) (x : Ga) : (s.setGa c x).faultTimes = s.faultTimes := rfl
@[simp] theorem State.setGa_fuses (s : State) (c : Nat) (x : Ga) : (s.setGa c x).fuses = s.fuses := rfl
@[simp] theorem State.setGa_boot (s : State) (c : Nat) (x : Ga) : (s.setGa c x).boot = s.boot := rfl
@[simp] theorem State.setGa_power (s : State) (c : Nat) (x : Ga) : (s.setGa c x).power = s.power := rfl
@[simp] theorem State.setGa_cores (s : State) (c : Nat) (x : Ga) : (s.setGa c x).cores = s.cores := rfl
@[simp] theorem State.setGa_coreFaults (s : State) (c : Nat) (x : Ga) : (s.setGa c x).coreFaults = s.coreFaults := rfl
@[simp] theorem State.setGa_wdog (s : State) (c : Nat) (x : Ga) : (s.setGa c x).wdog = s.wdog := rfl
@[simp] theorem State.setGa_hot (s : State) (c : Nat) (x : Ga) : (s.setGa c x).hot = s.hot := rfl
@[simp] theorem State.setGa_calRecs (s : State) (c : Nat) (x : Ga) : (s.setGa c x).calRecs = s.calRecs := rfl
@[simp] theorem State.setGa_gpioIn (s : State) (c : Nat) (x : Ga) : (s.setGa c x).gpioIn = s.gpioIn := rfl
@[simp] theorem State.setGa_pins (s : State) (c : Nat) (x : Ga) : (s.setGa c x).pins = s.pins := rfl
@[simp] theorem State.setGa_queues (s : State) (c : Nat) (x : Ga) : (s.setGa c x).queues = s.queues := rfl
@[simp] theorem State.setGa_drams (s : State) (c : Nat) (x : Ga) : (s.setGa c x).drams = s.drams := rfl
@[simp] theorem State.setGa_dmas (s : State) (c : Nat) (x : Ga) : (s.setGa c x).dmas = s.dmas := rfl
@[simp] theorem State.setGa_encs (s : State) (c : Nat) (x : Ga) : (s.setGa c x).encs = s.encs := rfl
@[simp] theorem State.setGa_wheel (s : State) (c : Nat) (x : Ga) : (s.setGa c x).wheel = s.wheel := rfl
@[simp] theorem State.setGa_gens (s : State) (c : Nat) (x : Ga) : (s.setGa c x).gens = s.gens := rfl
@[simp] theorem State.setGa_trigs (s : State) (c : Nat) (x : Ga) : (s.setGa c x).trigs = s.trigs := rfl
@[simp] theorem State.setGa_cmps (s : State) (c : Nat) (x : Ga) : (s.setGa c x).cmps = s.cmps := rfl
@[simp] theorem State.setGa_probes (s : State) (c : Nat) (x : Ga) : (s.setGa c x).probes = s.probes := rfl
@[simp] theorem State.setGa_mirs (s : State) (c : Nat) (x : Ga) : (s.setGa c x).mirs = s.mirs := rfl
@[simp] theorem State.setGa_cams (s : State) (c : Nat) (x : Ga) : (s.setGa c x).cams = s.cams := rfl
@[simp] theorem State.setGa_uplinks (s : State) (c : Nat) (x : Ga) : (s.setGa c x).uplinks = s.uplinks := rfl
@[simp] theorem State.setGa_ctxs (s : State) (c : Nat) (x : Ga) : (s.setGa c x).ctxs = s.ctxs := rfl
@[simp] theorem State.setGa_pipes (s : State) (c : Nat) (x : Ga) : (s.setGa c x).pipes = s.pipes := rfl
@[simp] theorem State.setGa_seam (s : State) (c : Nat) (x : Ga) : (s.setGa c x).seam = s.seam := rfl
@[simp] theorem State.setGa_coding (s : State) (c : Nat) (x : Ga) : (s.setGa c x).coding = s.coding := rfl
@[simp] theorem State.setGa_wins (s : State) (c : Nat) (x : Ga) : (s.setGa c x).wins = s.wins := rfl
@[simp] theorem State.setGa_views (s : State) (c : Nat) (x : Ga) : (s.setGa c x).views = s.views := rfl
@[simp] theorem State.setGa_zes (s : State) (c : Nat) (x : Ga) : (s.setGa c x).zes = s.zes := rfl
@[simp] theorem State.setGa_cropJobs (s : State) (c : Nat) (x : Ga) : (s.setGa c x).cropJobs = s.cropJobs := rfl
@[simp] theorem State.setGa_slip (s : State) (c : Nat) (x : Ga) : (s.setGa c x).slip = s.slip := rfl
@[simp] theorem State.setGa_bars (s : State) (c : Nat) (x : Ga) : (s.setGa c x).bars = s.bars := rfl
@[simp] theorem State.setGa_ports (s : State) (c : Nat) (x : Ga) : (s.setGa c x).ports = s.ports := rfl
@[simp] theorem State.setGa_heads (s : State) (c : Nat) (x : Ga) : (s.setGa c x).heads = s.heads := rfl
@[simp] theorem State.setGa_scan (s : State) (c : Nat) (x : Ga) : (s.setGa c x).scan = s.scan := rfl
@[simp] theorem State.setGa_gas (s : State) (c : Nat) (x : Ga) : (s.setGa c x).gas = tput s.gas c x := rfl
@[simp] theorem State.setGa_syncAt (s : State) (c : Nat) (x : Ga) : (s.setGa c x).syncAt = s.syncAt := rfl
@[simp] theorem State.setGa_umb (s : State) (c : Nat) (x : Ga) : (s.setGa c x).umb = s.umb := rfl
@[simp] theorem State.setGa_loop (s : State) (c : Nat) (x : Ga) : (s.setGa c x).loop = s.loop := rfl
@[simp] theorem State.setGa_skl (s : State) (c : Nat) (x : Ga) : (s.setGa c x).skl = s.skl := rfl
@[simp] theorem State.setGa_sync (s : State) (c : Nat) (x : Ga) : (s.setGa c x).sync = s.sync := rfl

/-! ### setGen -/

@[simp] theorem State.setGen_pending (s : State) (g : Nat) (x : Gen) : (s.setGen g x).pending = s.pending := rfl
@[simp] theorem State.setGen_now (s : State) (g : Nat) (x : Gen) : (s.setGen g x).now = s.now := rfl
@[simp] theorem State.setGen_timeBase (s : State) (g : Nat) (x : Gen) : (s.setGen g x).timeBase = s.timeBase := rfl
@[simp] theorem State.setGen_timeC0 (s : State) (g : Nat) (x : Gen) : (s.setGen g x).timeC0 = s.timeC0 := rfl
@[simp] theorem State.setGen_stateAt (s : State) (g : Nat) (x : Gen) : (s.setGen g x).stateAt = s.stateAt := rfl
@[simp] theorem State.setGen_free (s : State) (g : Nat) (x : Gen) : (s.setGen g x).free = s.free := rfl
@[simp] theorem State.setGen_regs (s : State) (g : Nat) (x : Gen) : (s.setGen g x).regs = s.regs := rfl
@[simp] theorem State.setGen_shadow (s : State) (g : Nat) (x : Gen) : (s.setGen g x).shadow = s.shadow := rfl
@[simp] theorem State.setGen_dom (s : State) (g : Nat) (x : Gen) : (s.setGen g x).dom = s.dom := rfl
@[simp] theorem State.setGen_domLens (s : State) (g : Nat) (x : Gen) : (s.setGen g x).domLens = s.domLens := rfl
@[simp] theorem State.setGen_shDom (s : State) (g : Nat) (x : Gen) : (s.setGen g x).shDom = s.shDom := rfl
@[simp] theorem State.setGen_shDomLens (s : State) (g : Nat) (x : Gen) : (s.setGen g x).shDomLens = s.shDomLens := rfl
@[simp] theorem State.setGen_own (s : State) (g : Nat) (x : Gen) : (s.setGen g x).own = s.own := rfl
@[simp] theorem State.setGen_sherds (s : State) (g : Nat) (x : Gen) : (s.setGen g x).sherds = s.sherds := rfl
@[simp] theorem State.setGen_commitBands (s : State) (g : Nat) (x : Gen) : (s.setGen g x).commitBands = s.commitBands := rfl
@[simp] theorem State.setGen_readData (s : State) (g : Nat) (x : Gen) : (s.setGen g x).readData = s.readData := rfl
@[simp] theorem State.setGen_chal (s : State) (g : Nat) (x : Gen) : (s.setGen g x).chal = s.chal := rfl
@[simp] theorem State.setGen_xfers (s : State) (g : Nat) (x : Gen) : (s.setGen g x).xfers = s.xfers := rfl
@[simp] theorem State.setGen_sessions (s : State) (g : Nat) (x : Gen) : (s.setGen g x).sessions = s.sessions := rfl
@[simp] theorem State.setGen_udpOut (s : State) (g : Nat) (x : Gen) : (s.setGen g x).udpOut = s.udpOut := rfl
@[simp] theorem State.setGen_hostOut (s : State) (g : Nat) (x : Gen) : (s.setGen g x).hostOut = s.hostOut := rfl
@[simp] theorem State.setGen_ethOut (s : State) (g : Nat) (x : Gen) : (s.setGen g x).ethOut = s.ethOut := rfl
@[simp] theorem State.setGen_arp (s : State) (g : Nat) (x : Gen) : (s.setGen g x).arp = s.arp := rfl
@[simp] theorem State.setGen_mem (s : State) (g : Nat) (x : Gen) : (s.setGen g x).mem = s.mem := rfl
@[simp] theorem State.setGen_glaze (s : State) (g : Nat) (x : Gen) : (s.setGen g x).glaze = s.glaze := rfl
@[simp] theorem State.setGen_raised (s : State) (g : Nat) (x : Gen) : (s.setGen g x).raised = s.raised := rfl
@[simp] theorem State.setGen_tasks (s : State) (g : Nat) (x : Gen) : (s.setGen g x).tasks = s.tasks := rfl
@[simp] theorem State.setGen_holdEnds (s : State) (g : Nat) (x : Gen) : (s.setGen g x).holdEnds = s.holdEnds := rfl
@[simp] theorem State.setGen_maskSetAt (s : State) (g : Nat) (x : Gen) : (s.setGen g x).maskSetAt = s.maskSetAt := rfl
@[simp] theorem State.setGen_arrived (s : State) (g : Nat) (x : Gen) : (s.setGen g x).arrived = s.arrived := rfl
@[simp] theorem State.setGen_msix (s : State) (g : Nat) (x : Gen) : (s.setGen g x).msix = s.msix := rfl
@[simp] theorem State.setGen_wbuf (s : State) (g : Nat) (x : Gen) : (s.setGen g x).wbuf = s.wbuf := rfl
@[simp] theorem State.setGen_wring (s : State) (g : Nat) (x : Gen) : (s.setGen g x).wring = s.wring := rfl
@[simp] theorem State.setGen_wgap (s : State) (g : Nat) (x : Gen) : (s.setGen g x).wgap = s.wgap := rfl
@[simp] theorem State.setGen_faultTimes (s : State) (g : Nat) (x : Gen) : (s.setGen g x).faultTimes = s.faultTimes := rfl
@[simp] theorem State.setGen_fuses (s : State) (g : Nat) (x : Gen) : (s.setGen g x).fuses = s.fuses := rfl
@[simp] theorem State.setGen_boot (s : State) (g : Nat) (x : Gen) : (s.setGen g x).boot = s.boot := rfl
@[simp] theorem State.setGen_power (s : State) (g : Nat) (x : Gen) : (s.setGen g x).power = s.power := rfl
@[simp] theorem State.setGen_cores (s : State) (g : Nat) (x : Gen) : (s.setGen g x).cores = s.cores := rfl
@[simp] theorem State.setGen_coreFaults (s : State) (g : Nat) (x : Gen) : (s.setGen g x).coreFaults = s.coreFaults := rfl
@[simp] theorem State.setGen_wdog (s : State) (g : Nat) (x : Gen) : (s.setGen g x).wdog = s.wdog := rfl
@[simp] theorem State.setGen_hot (s : State) (g : Nat) (x : Gen) : (s.setGen g x).hot = s.hot := rfl
@[simp] theorem State.setGen_calRecs (s : State) (g : Nat) (x : Gen) : (s.setGen g x).calRecs = s.calRecs := rfl
@[simp] theorem State.setGen_gpioIn (s : State) (g : Nat) (x : Gen) : (s.setGen g x).gpioIn = s.gpioIn := rfl
@[simp] theorem State.setGen_pins (s : State) (g : Nat) (x : Gen) : (s.setGen g x).pins = s.pins := rfl
@[simp] theorem State.setGen_queues (s : State) (g : Nat) (x : Gen) : (s.setGen g x).queues = s.queues := rfl
@[simp] theorem State.setGen_drams (s : State) (g : Nat) (x : Gen) : (s.setGen g x).drams = s.drams := rfl
@[simp] theorem State.setGen_dmas (s : State) (g : Nat) (x : Gen) : (s.setGen g x).dmas = s.dmas := rfl
@[simp] theorem State.setGen_encs (s : State) (g : Nat) (x : Gen) : (s.setGen g x).encs = s.encs := rfl
@[simp] theorem State.setGen_wheel (s : State) (g : Nat) (x : Gen) : (s.setGen g x).wheel = s.wheel := rfl
@[simp] theorem State.setGen_gens (s : State) (g : Nat) (x : Gen) : (s.setGen g x).gens = tput s.gens g x := rfl
@[simp] theorem State.setGen_trigs (s : State) (g : Nat) (x : Gen) : (s.setGen g x).trigs = s.trigs := rfl
@[simp] theorem State.setGen_cmps (s : State) (g : Nat) (x : Gen) : (s.setGen g x).cmps = s.cmps := rfl
@[simp] theorem State.setGen_probes (s : State) (g : Nat) (x : Gen) : (s.setGen g x).probes = s.probes := rfl
@[simp] theorem State.setGen_mirs (s : State) (g : Nat) (x : Gen) : (s.setGen g x).mirs = s.mirs := rfl
@[simp] theorem State.setGen_cams (s : State) (g : Nat) (x : Gen) : (s.setGen g x).cams = s.cams := rfl
@[simp] theorem State.setGen_uplinks (s : State) (g : Nat) (x : Gen) : (s.setGen g x).uplinks = s.uplinks := rfl
@[simp] theorem State.setGen_ctxs (s : State) (g : Nat) (x : Gen) : (s.setGen g x).ctxs = s.ctxs := rfl
@[simp] theorem State.setGen_pipes (s : State) (g : Nat) (x : Gen) : (s.setGen g x).pipes = s.pipes := rfl
@[simp] theorem State.setGen_seam (s : State) (g : Nat) (x : Gen) : (s.setGen g x).seam = s.seam := rfl
@[simp] theorem State.setGen_coding (s : State) (g : Nat) (x : Gen) : (s.setGen g x).coding = s.coding := rfl
@[simp] theorem State.setGen_wins (s : State) (g : Nat) (x : Gen) : (s.setGen g x).wins = s.wins := rfl
@[simp] theorem State.setGen_views (s : State) (g : Nat) (x : Gen) : (s.setGen g x).views = s.views := rfl
@[simp] theorem State.setGen_zes (s : State) (g : Nat) (x : Gen) : (s.setGen g x).zes = s.zes := rfl
@[simp] theorem State.setGen_cropJobs (s : State) (g : Nat) (x : Gen) : (s.setGen g x).cropJobs = s.cropJobs := rfl
@[simp] theorem State.setGen_slip (s : State) (g : Nat) (x : Gen) : (s.setGen g x).slip = s.slip := rfl
@[simp] theorem State.setGen_bars (s : State) (g : Nat) (x : Gen) : (s.setGen g x).bars = s.bars := rfl
@[simp] theorem State.setGen_ports (s : State) (g : Nat) (x : Gen) : (s.setGen g x).ports = s.ports := rfl
@[simp] theorem State.setGen_heads (s : State) (g : Nat) (x : Gen) : (s.setGen g x).heads = s.heads := rfl
@[simp] theorem State.setGen_scan (s : State) (g : Nat) (x : Gen) : (s.setGen g x).scan = s.scan := rfl
@[simp] theorem State.setGen_gas (s : State) (g : Nat) (x : Gen) : (s.setGen g x).gas = s.gas := rfl
@[simp] theorem State.setGen_syncAt (s : State) (g : Nat) (x : Gen) : (s.setGen g x).syncAt = s.syncAt := rfl
@[simp] theorem State.setGen_umb (s : State) (g : Nat) (x : Gen) : (s.setGen g x).umb = s.umb := rfl
@[simp] theorem State.setGen_loop (s : State) (g : Nat) (x : Gen) : (s.setGen g x).loop = s.loop := rfl
@[simp] theorem State.setGen_skl (s : State) (g : Nat) (x : Gen) : (s.setGen g x).skl = s.skl := rfl
@[simp] theorem State.setGen_sync (s : State) (g : Nat) (x : Gen) : (s.setGen g x).sync = s.sync := rfl

/-! ### setHead -/

@[simp] theorem State.setHead_pending (s : State) (h : Nat) (x : Head) : (s.setHead h x).pending = s.pending := rfl
@[simp] theorem State.setHead_now (s : State) (h : Nat) (x : Head) : (s.setHead h x).now = s.now := rfl
@[simp] theorem State.setHead_timeBase (s : State) (h : Nat) (x : Head) : (s.setHead h x).timeBase = s.timeBase := rfl
@[simp] theorem State.setHead_timeC0 (s : State) (h : Nat) (x : Head) : (s.setHead h x).timeC0 = s.timeC0 := rfl
@[simp] theorem State.setHead_stateAt (s : State) (h : Nat) (x : Head) : (s.setHead h x).stateAt = s.stateAt := rfl
@[simp] theorem State.setHead_free (s : State) (h : Nat) (x : Head) : (s.setHead h x).free = s.free := rfl
@[simp] theorem State.setHead_regs (s : State) (h : Nat) (x : Head) : (s.setHead h x).regs = s.regs := rfl
@[simp] theorem State.setHead_shadow (s : State) (h : Nat) (x : Head) : (s.setHead h x).shadow = s.shadow := rfl
@[simp] theorem State.setHead_dom (s : State) (h : Nat) (x : Head) : (s.setHead h x).dom = s.dom := rfl
@[simp] theorem State.setHead_domLens (s : State) (h : Nat) (x : Head) : (s.setHead h x).domLens = s.domLens := rfl
@[simp] theorem State.setHead_shDom (s : State) (h : Nat) (x : Head) : (s.setHead h x).shDom = s.shDom := rfl
@[simp] theorem State.setHead_shDomLens (s : State) (h : Nat) (x : Head) : (s.setHead h x).shDomLens = s.shDomLens := rfl
@[simp] theorem State.setHead_own (s : State) (h : Nat) (x : Head) : (s.setHead h x).own = s.own := rfl
@[simp] theorem State.setHead_sherds (s : State) (h : Nat) (x : Head) : (s.setHead h x).sherds = s.sherds := rfl
@[simp] theorem State.setHead_commitBands (s : State) (h : Nat) (x : Head) : (s.setHead h x).commitBands = s.commitBands := rfl
@[simp] theorem State.setHead_readData (s : State) (h : Nat) (x : Head) : (s.setHead h x).readData = s.readData := rfl
@[simp] theorem State.setHead_chal (s : State) (h : Nat) (x : Head) : (s.setHead h x).chal = s.chal := rfl
@[simp] theorem State.setHead_xfers (s : State) (h : Nat) (x : Head) : (s.setHead h x).xfers = s.xfers := rfl
@[simp] theorem State.setHead_sessions (s : State) (h : Nat) (x : Head) : (s.setHead h x).sessions = s.sessions := rfl
@[simp] theorem State.setHead_udpOut (s : State) (h : Nat) (x : Head) : (s.setHead h x).udpOut = s.udpOut := rfl
@[simp] theorem State.setHead_hostOut (s : State) (h : Nat) (x : Head) : (s.setHead h x).hostOut = s.hostOut := rfl
@[simp] theorem State.setHead_ethOut (s : State) (h : Nat) (x : Head) : (s.setHead h x).ethOut = s.ethOut := rfl
@[simp] theorem State.setHead_arp (s : State) (h : Nat) (x : Head) : (s.setHead h x).arp = s.arp := rfl
@[simp] theorem State.setHead_mem (s : State) (h : Nat) (x : Head) : (s.setHead h x).mem = s.mem := rfl
@[simp] theorem State.setHead_glaze (s : State) (h : Nat) (x : Head) : (s.setHead h x).glaze = s.glaze := rfl
@[simp] theorem State.setHead_raised (s : State) (h : Nat) (x : Head) : (s.setHead h x).raised = s.raised := rfl
@[simp] theorem State.setHead_tasks (s : State) (h : Nat) (x : Head) : (s.setHead h x).tasks = s.tasks := rfl
@[simp] theorem State.setHead_holdEnds (s : State) (h : Nat) (x : Head) : (s.setHead h x).holdEnds = s.holdEnds := rfl
@[simp] theorem State.setHead_maskSetAt (s : State) (h : Nat) (x : Head) : (s.setHead h x).maskSetAt = s.maskSetAt := rfl
@[simp] theorem State.setHead_arrived (s : State) (h : Nat) (x : Head) : (s.setHead h x).arrived = s.arrived := rfl
@[simp] theorem State.setHead_msix (s : State) (h : Nat) (x : Head) : (s.setHead h x).msix = s.msix := rfl
@[simp] theorem State.setHead_wbuf (s : State) (h : Nat) (x : Head) : (s.setHead h x).wbuf = s.wbuf := rfl
@[simp] theorem State.setHead_wring (s : State) (h : Nat) (x : Head) : (s.setHead h x).wring = s.wring := rfl
@[simp] theorem State.setHead_wgap (s : State) (h : Nat) (x : Head) : (s.setHead h x).wgap = s.wgap := rfl
@[simp] theorem State.setHead_faultTimes (s : State) (h : Nat) (x : Head) : (s.setHead h x).faultTimes = s.faultTimes := rfl
@[simp] theorem State.setHead_fuses (s : State) (h : Nat) (x : Head) : (s.setHead h x).fuses = s.fuses := rfl
@[simp] theorem State.setHead_boot (s : State) (h : Nat) (x : Head) : (s.setHead h x).boot = s.boot := rfl
@[simp] theorem State.setHead_power (s : State) (h : Nat) (x : Head) : (s.setHead h x).power = s.power := rfl
@[simp] theorem State.setHead_cores (s : State) (h : Nat) (x : Head) : (s.setHead h x).cores = s.cores := rfl
@[simp] theorem State.setHead_coreFaults (s : State) (h : Nat) (x : Head) : (s.setHead h x).coreFaults = s.coreFaults := rfl
@[simp] theorem State.setHead_wdog (s : State) (h : Nat) (x : Head) : (s.setHead h x).wdog = s.wdog := rfl
@[simp] theorem State.setHead_hot (s : State) (h : Nat) (x : Head) : (s.setHead h x).hot = s.hot := rfl
@[simp] theorem State.setHead_calRecs (s : State) (h : Nat) (x : Head) : (s.setHead h x).calRecs = s.calRecs := rfl
@[simp] theorem State.setHead_gpioIn (s : State) (h : Nat) (x : Head) : (s.setHead h x).gpioIn = s.gpioIn := rfl
@[simp] theorem State.setHead_pins (s : State) (h : Nat) (x : Head) : (s.setHead h x).pins = s.pins := rfl
@[simp] theorem State.setHead_queues (s : State) (h : Nat) (x : Head) : (s.setHead h x).queues = s.queues := rfl
@[simp] theorem State.setHead_drams (s : State) (h : Nat) (x : Head) : (s.setHead h x).drams = s.drams := rfl
@[simp] theorem State.setHead_dmas (s : State) (h : Nat) (x : Head) : (s.setHead h x).dmas = s.dmas := rfl
@[simp] theorem State.setHead_encs (s : State) (h : Nat) (x : Head) : (s.setHead h x).encs = s.encs := rfl
@[simp] theorem State.setHead_wheel (s : State) (h : Nat) (x : Head) : (s.setHead h x).wheel = s.wheel := rfl
@[simp] theorem State.setHead_gens (s : State) (h : Nat) (x : Head) : (s.setHead h x).gens = s.gens := rfl
@[simp] theorem State.setHead_trigs (s : State) (h : Nat) (x : Head) : (s.setHead h x).trigs = s.trigs := rfl
@[simp] theorem State.setHead_cmps (s : State) (h : Nat) (x : Head) : (s.setHead h x).cmps = s.cmps := rfl
@[simp] theorem State.setHead_probes (s : State) (h : Nat) (x : Head) : (s.setHead h x).probes = s.probes := rfl
@[simp] theorem State.setHead_mirs (s : State) (h : Nat) (x : Head) : (s.setHead h x).mirs = s.mirs := rfl
@[simp] theorem State.setHead_cams (s : State) (h : Nat) (x : Head) : (s.setHead h x).cams = s.cams := rfl
@[simp] theorem State.setHead_uplinks (s : State) (h : Nat) (x : Head) : (s.setHead h x).uplinks = s.uplinks := rfl
@[simp] theorem State.setHead_ctxs (s : State) (h : Nat) (x : Head) : (s.setHead h x).ctxs = s.ctxs := rfl
@[simp] theorem State.setHead_pipes (s : State) (h : Nat) (x : Head) : (s.setHead h x).pipes = s.pipes := rfl
@[simp] theorem State.setHead_seam (s : State) (h : Nat) (x : Head) : (s.setHead h x).seam = s.seam := rfl
@[simp] theorem State.setHead_coding (s : State) (h : Nat) (x : Head) : (s.setHead h x).coding = s.coding := rfl
@[simp] theorem State.setHead_wins (s : State) (h : Nat) (x : Head) : (s.setHead h x).wins = s.wins := rfl
@[simp] theorem State.setHead_views (s : State) (h : Nat) (x : Head) : (s.setHead h x).views = s.views := rfl
@[simp] theorem State.setHead_zes (s : State) (h : Nat) (x : Head) : (s.setHead h x).zes = s.zes := rfl
@[simp] theorem State.setHead_cropJobs (s : State) (h : Nat) (x : Head) : (s.setHead h x).cropJobs = s.cropJobs := rfl
@[simp] theorem State.setHead_slip (s : State) (h : Nat) (x : Head) : (s.setHead h x).slip = s.slip := rfl
@[simp] theorem State.setHead_bars (s : State) (h : Nat) (x : Head) : (s.setHead h x).bars = s.bars := rfl
@[simp] theorem State.setHead_ports (s : State) (h : Nat) (x : Head) : (s.setHead h x).ports = s.ports := rfl
@[simp] theorem State.setHead_heads (s : State) (h : Nat) (x : Head) : (s.setHead h x).heads = tput s.heads h x := rfl
@[simp] theorem State.setHead_scan (s : State) (h : Nat) (x : Head) : (s.setHead h x).scan = s.scan := rfl
@[simp] theorem State.setHead_gas (s : State) (h : Nat) (x : Head) : (s.setHead h x).gas = s.gas := rfl
@[simp] theorem State.setHead_syncAt (s : State) (h : Nat) (x : Head) : (s.setHead h x).syncAt = s.syncAt := rfl
@[simp] theorem State.setHead_umb (s : State) (h : Nat) (x : Head) : (s.setHead h x).umb = s.umb := rfl
@[simp] theorem State.setHead_loop (s : State) (h : Nat) (x : Head) : (s.setHead h x).loop = s.loop := rfl
@[simp] theorem State.setHead_skl (s : State) (h : Nat) (x : Head) : (s.setHead h x).skl = s.skl := rfl
@[simp] theorem State.setHead_sync (s : State) (h : Nat) (x : Head) : (s.setHead h x).sync = s.sync := rfl

/-! ### setLoop -/

@[simp] theorem State.setLoop_pending (s : State) (l : Loop) : (s.setLoop l).pending = s.pending := rfl
@[simp] theorem State.setLoop_now (s : State) (l : Loop) : (s.setLoop l).now = s.now := rfl
@[simp] theorem State.setLoop_timeBase (s : State) (l : Loop) : (s.setLoop l).timeBase = s.timeBase := rfl
@[simp] theorem State.setLoop_timeC0 (s : State) (l : Loop) : (s.setLoop l).timeC0 = s.timeC0 := rfl
@[simp] theorem State.setLoop_stateAt (s : State) (l : Loop) : (s.setLoop l).stateAt = s.stateAt := rfl
@[simp] theorem State.setLoop_free (s : State) (l : Loop) : (s.setLoop l).free = s.free := rfl
@[simp] theorem State.setLoop_regs (s : State) (l : Loop) : (s.setLoop l).regs = s.regs := rfl
@[simp] theorem State.setLoop_shadow (s : State) (l : Loop) : (s.setLoop l).shadow = s.shadow := rfl
@[simp] theorem State.setLoop_dom (s : State) (l : Loop) : (s.setLoop l).dom = s.dom := rfl
@[simp] theorem State.setLoop_domLens (s : State) (l : Loop) : (s.setLoop l).domLens = s.domLens := rfl
@[simp] theorem State.setLoop_shDom (s : State) (l : Loop) : (s.setLoop l).shDom = s.shDom := rfl
@[simp] theorem State.setLoop_shDomLens (s : State) (l : Loop) : (s.setLoop l).shDomLens = s.shDomLens := rfl
@[simp] theorem State.setLoop_own (s : State) (l : Loop) : (s.setLoop l).own = s.own := rfl
@[simp] theorem State.setLoop_sherds (s : State) (l : Loop) : (s.setLoop l).sherds = s.sherds := rfl
@[simp] theorem State.setLoop_commitBands (s : State) (l : Loop) : (s.setLoop l).commitBands = s.commitBands := rfl
@[simp] theorem State.setLoop_readData (s : State) (l : Loop) : (s.setLoop l).readData = s.readData := rfl
@[simp] theorem State.setLoop_chal (s : State) (l : Loop) : (s.setLoop l).chal = s.chal := rfl
@[simp] theorem State.setLoop_xfers (s : State) (l : Loop) : (s.setLoop l).xfers = s.xfers := rfl
@[simp] theorem State.setLoop_sessions (s : State) (l : Loop) : (s.setLoop l).sessions = s.sessions := rfl
@[simp] theorem State.setLoop_udpOut (s : State) (l : Loop) : (s.setLoop l).udpOut = s.udpOut := rfl
@[simp] theorem State.setLoop_hostOut (s : State) (l : Loop) : (s.setLoop l).hostOut = s.hostOut := rfl
@[simp] theorem State.setLoop_ethOut (s : State) (l : Loop) : (s.setLoop l).ethOut = s.ethOut := rfl
@[simp] theorem State.setLoop_arp (s : State) (l : Loop) : (s.setLoop l).arp = s.arp := rfl
@[simp] theorem State.setLoop_mem (s : State) (l : Loop) : (s.setLoop l).mem = s.mem := rfl
@[simp] theorem State.setLoop_glaze (s : State) (l : Loop) : (s.setLoop l).glaze = s.glaze := rfl
@[simp] theorem State.setLoop_raised (s : State) (l : Loop) : (s.setLoop l).raised = s.raised := rfl
@[simp] theorem State.setLoop_tasks (s : State) (l : Loop) : (s.setLoop l).tasks = s.tasks := rfl
@[simp] theorem State.setLoop_holdEnds (s : State) (l : Loop) : (s.setLoop l).holdEnds = s.holdEnds := rfl
@[simp] theorem State.setLoop_maskSetAt (s : State) (l : Loop) : (s.setLoop l).maskSetAt = s.maskSetAt := rfl
@[simp] theorem State.setLoop_arrived (s : State) (l : Loop) : (s.setLoop l).arrived = s.arrived := rfl
@[simp] theorem State.setLoop_msix (s : State) (l : Loop) : (s.setLoop l).msix = s.msix := rfl
@[simp] theorem State.setLoop_wbuf (s : State) (l : Loop) : (s.setLoop l).wbuf = s.wbuf := rfl
@[simp] theorem State.setLoop_wring (s : State) (l : Loop) : (s.setLoop l).wring = s.wring := rfl
@[simp] theorem State.setLoop_wgap (s : State) (l : Loop) : (s.setLoop l).wgap = s.wgap := rfl
@[simp] theorem State.setLoop_faultTimes (s : State) (l : Loop) : (s.setLoop l).faultTimes = s.faultTimes := rfl
@[simp] theorem State.setLoop_fuses (s : State) (l : Loop) : (s.setLoop l).fuses = s.fuses := rfl
@[simp] theorem State.setLoop_boot (s : State) (l : Loop) : (s.setLoop l).boot = s.boot := rfl
@[simp] theorem State.setLoop_power (s : State) (l : Loop) : (s.setLoop l).power = s.power := rfl
@[simp] theorem State.setLoop_cores (s : State) (l : Loop) : (s.setLoop l).cores = s.cores := rfl
@[simp] theorem State.setLoop_coreFaults (s : State) (l : Loop) : (s.setLoop l).coreFaults = s.coreFaults := rfl
@[simp] theorem State.setLoop_wdog (s : State) (l : Loop) : (s.setLoop l).wdog = s.wdog := rfl
@[simp] theorem State.setLoop_hot (s : State) (l : Loop) : (s.setLoop l).hot = s.hot := rfl
@[simp] theorem State.setLoop_calRecs (s : State) (l : Loop) : (s.setLoop l).calRecs = s.calRecs := rfl
@[simp] theorem State.setLoop_gpioIn (s : State) (l : Loop) : (s.setLoop l).gpioIn = s.gpioIn := rfl
@[simp] theorem State.setLoop_pins (s : State) (l : Loop) : (s.setLoop l).pins = s.pins := rfl
@[simp] theorem State.setLoop_queues (s : State) (l : Loop) : (s.setLoop l).queues = s.queues := rfl
@[simp] theorem State.setLoop_drams (s : State) (l : Loop) : (s.setLoop l).drams = s.drams := rfl
@[simp] theorem State.setLoop_dmas (s : State) (l : Loop) : (s.setLoop l).dmas = s.dmas := rfl
@[simp] theorem State.setLoop_encs (s : State) (l : Loop) : (s.setLoop l).encs = s.encs := rfl
@[simp] theorem State.setLoop_wheel (s : State) (l : Loop) : (s.setLoop l).wheel = s.wheel := rfl
@[simp] theorem State.setLoop_gens (s : State) (l : Loop) : (s.setLoop l).gens = s.gens := rfl
@[simp] theorem State.setLoop_trigs (s : State) (l : Loop) : (s.setLoop l).trigs = s.trigs := rfl
@[simp] theorem State.setLoop_cmps (s : State) (l : Loop) : (s.setLoop l).cmps = s.cmps := rfl
@[simp] theorem State.setLoop_probes (s : State) (l : Loop) : (s.setLoop l).probes = s.probes := rfl
@[simp] theorem State.setLoop_mirs (s : State) (l : Loop) : (s.setLoop l).mirs = s.mirs := rfl
@[simp] theorem State.setLoop_cams (s : State) (l : Loop) : (s.setLoop l).cams = s.cams := rfl
@[simp] theorem State.setLoop_uplinks (s : State) (l : Loop) : (s.setLoop l).uplinks = s.uplinks := rfl
@[simp] theorem State.setLoop_ctxs (s : State) (l : Loop) : (s.setLoop l).ctxs = s.ctxs := rfl
@[simp] theorem State.setLoop_pipes (s : State) (l : Loop) : (s.setLoop l).pipes = s.pipes := rfl
@[simp] theorem State.setLoop_seam (s : State) (l : Loop) : (s.setLoop l).seam = s.seam := rfl
@[simp] theorem State.setLoop_coding (s : State) (l : Loop) : (s.setLoop l).coding = s.coding := rfl
@[simp] theorem State.setLoop_wins (s : State) (l : Loop) : (s.setLoop l).wins = s.wins := rfl
@[simp] theorem State.setLoop_views (s : State) (l : Loop) : (s.setLoop l).views = s.views := rfl
@[simp] theorem State.setLoop_zes (s : State) (l : Loop) : (s.setLoop l).zes = s.zes := rfl
@[simp] theorem State.setLoop_cropJobs (s : State) (l : Loop) : (s.setLoop l).cropJobs = s.cropJobs := rfl
@[simp] theorem State.setLoop_slip (s : State) (l : Loop) : (s.setLoop l).slip = s.slip := rfl
@[simp] theorem State.setLoop_bars (s : State) (l : Loop) : (s.setLoop l).bars = s.bars := rfl
@[simp] theorem State.setLoop_ports (s : State) (l : Loop) : (s.setLoop l).ports = s.ports := rfl
@[simp] theorem State.setLoop_heads (s : State) (l : Loop) : (s.setLoop l).heads = s.heads := rfl
@[simp] theorem State.setLoop_scan (s : State) (l : Loop) : (s.setLoop l).scan = s.scan := rfl
@[simp] theorem State.setLoop_gas (s : State) (l : Loop) : (s.setLoop l).gas = s.gas := rfl
@[simp] theorem State.setLoop_syncAt (s : State) (l : Loop) : (s.setLoop l).syncAt = s.syncAt := rfl
@[simp] theorem State.setLoop_umb (s : State) (l : Loop) : (s.setLoop l).umb = s.umb := rfl
@[simp] theorem State.setLoop_loop (s : State) (l : Loop) : (s.setLoop l).loop = l := rfl
@[simp] theorem State.setLoop_skl (s : State) (l : Loop) : (s.setLoop l).skl = s.skl := rfl
@[simp] theorem State.setLoop_sync (s : State) (l : Loop) : (s.setLoop l).sync = s.sync := rfl

/-! ### setDramCh -/

@[simp] theorem State.setDramCh_pending (s : State) (c : Nat) (x : DramCh) : (s.setDramCh c x).pending = s.pending := rfl
@[simp] theorem State.setDramCh_now (s : State) (c : Nat) (x : DramCh) : (s.setDramCh c x).now = s.now := rfl
@[simp] theorem State.setDramCh_timeBase (s : State) (c : Nat) (x : DramCh) : (s.setDramCh c x).timeBase = s.timeBase := rfl
@[simp] theorem State.setDramCh_timeC0 (s : State) (c : Nat) (x : DramCh) : (s.setDramCh c x).timeC0 = s.timeC0 := rfl
@[simp] theorem State.setDramCh_stateAt (s : State) (c : Nat) (x : DramCh) : (s.setDramCh c x).stateAt = s.stateAt := rfl
@[simp] theorem State.setDramCh_free (s : State) (c : Nat) (x : DramCh) : (s.setDramCh c x).free = s.free := rfl
@[simp] theorem State.setDramCh_regs (s : State) (c : Nat) (x : DramCh) : (s.setDramCh c x).regs = s.regs := rfl
@[simp] theorem State.setDramCh_shadow (s : State) (c : Nat) (x : DramCh) : (s.setDramCh c x).shadow = s.shadow := rfl
@[simp] theorem State.setDramCh_dom (s : State) (c : Nat) (x : DramCh) : (s.setDramCh c x).dom = s.dom := rfl
@[simp] theorem State.setDramCh_domLens (s : State) (c : Nat) (x : DramCh) : (s.setDramCh c x).domLens = s.domLens := rfl
@[simp] theorem State.setDramCh_shDom (s : State) (c : Nat) (x : DramCh) : (s.setDramCh c x).shDom = s.shDom := rfl
@[simp] theorem State.setDramCh_shDomLens (s : State) (c : Nat) (x : DramCh) : (s.setDramCh c x).shDomLens = s.shDomLens := rfl
@[simp] theorem State.setDramCh_own (s : State) (c : Nat) (x : DramCh) : (s.setDramCh c x).own = s.own := rfl
@[simp] theorem State.setDramCh_sherds (s : State) (c : Nat) (x : DramCh) : (s.setDramCh c x).sherds = s.sherds := rfl
@[simp] theorem State.setDramCh_commitBands (s : State) (c : Nat) (x : DramCh) : (s.setDramCh c x).commitBands = s.commitBands := rfl
@[simp] theorem State.setDramCh_readData (s : State) (c : Nat) (x : DramCh) : (s.setDramCh c x).readData = s.readData := rfl
@[simp] theorem State.setDramCh_chal (s : State) (c : Nat) (x : DramCh) : (s.setDramCh c x).chal = s.chal := rfl
@[simp] theorem State.setDramCh_xfers (s : State) (c : Nat) (x : DramCh) : (s.setDramCh c x).xfers = s.xfers := rfl
@[simp] theorem State.setDramCh_sessions (s : State) (c : Nat) (x : DramCh) : (s.setDramCh c x).sessions = s.sessions := rfl
@[simp] theorem State.setDramCh_udpOut (s : State) (c : Nat) (x : DramCh) : (s.setDramCh c x).udpOut = s.udpOut := rfl
@[simp] theorem State.setDramCh_hostOut (s : State) (c : Nat) (x : DramCh) : (s.setDramCh c x).hostOut = s.hostOut := rfl
@[simp] theorem State.setDramCh_ethOut (s : State) (c : Nat) (x : DramCh) : (s.setDramCh c x).ethOut = s.ethOut := rfl
@[simp] theorem State.setDramCh_arp (s : State) (c : Nat) (x : DramCh) : (s.setDramCh c x).arp = s.arp := rfl
@[simp] theorem State.setDramCh_mem (s : State) (c : Nat) (x : DramCh) : (s.setDramCh c x).mem = s.mem := rfl
@[simp] theorem State.setDramCh_glaze (s : State) (c : Nat) (x : DramCh) : (s.setDramCh c x).glaze = s.glaze := rfl
@[simp] theorem State.setDramCh_raised (s : State) (c : Nat) (x : DramCh) : (s.setDramCh c x).raised = s.raised := rfl
@[simp] theorem State.setDramCh_tasks (s : State) (c : Nat) (x : DramCh) : (s.setDramCh c x).tasks = s.tasks := rfl
@[simp] theorem State.setDramCh_holdEnds (s : State) (c : Nat) (x : DramCh) : (s.setDramCh c x).holdEnds = s.holdEnds := rfl
@[simp] theorem State.setDramCh_maskSetAt (s : State) (c : Nat) (x : DramCh) : (s.setDramCh c x).maskSetAt = s.maskSetAt := rfl
@[simp] theorem State.setDramCh_arrived (s : State) (c : Nat) (x : DramCh) : (s.setDramCh c x).arrived = s.arrived := rfl
@[simp] theorem State.setDramCh_msix (s : State) (c : Nat) (x : DramCh) : (s.setDramCh c x).msix = s.msix := rfl
@[simp] theorem State.setDramCh_wbuf (s : State) (c : Nat) (x : DramCh) : (s.setDramCh c x).wbuf = s.wbuf := rfl
@[simp] theorem State.setDramCh_wring (s : State) (c : Nat) (x : DramCh) : (s.setDramCh c x).wring = s.wring := rfl
@[simp] theorem State.setDramCh_wgap (s : State) (c : Nat) (x : DramCh) : (s.setDramCh c x).wgap = s.wgap := rfl
@[simp] theorem State.setDramCh_faultTimes (s : State) (c : Nat) (x : DramCh) : (s.setDramCh c x).faultTimes = s.faultTimes := rfl
@[simp] theorem State.setDramCh_fuses (s : State) (c : Nat) (x : DramCh) : (s.setDramCh c x).fuses = s.fuses := rfl
@[simp] theorem State.setDramCh_boot (s : State) (c : Nat) (x : DramCh) : (s.setDramCh c x).boot = s.boot := rfl
@[simp] theorem State.setDramCh_power (s : State) (c : Nat) (x : DramCh) : (s.setDramCh c x).power = s.power := rfl
@[simp] theorem State.setDramCh_cores (s : State) (c : Nat) (x : DramCh) : (s.setDramCh c x).cores = s.cores := rfl
@[simp] theorem State.setDramCh_coreFaults (s : State) (c : Nat) (x : DramCh) : (s.setDramCh c x).coreFaults = s.coreFaults := rfl
@[simp] theorem State.setDramCh_wdog (s : State) (c : Nat) (x : DramCh) : (s.setDramCh c x).wdog = s.wdog := rfl
@[simp] theorem State.setDramCh_hot (s : State) (c : Nat) (x : DramCh) : (s.setDramCh c x).hot = s.hot := rfl
@[simp] theorem State.setDramCh_calRecs (s : State) (c : Nat) (x : DramCh) : (s.setDramCh c x).calRecs = s.calRecs := rfl
@[simp] theorem State.setDramCh_gpioIn (s : State) (c : Nat) (x : DramCh) : (s.setDramCh c x).gpioIn = s.gpioIn := rfl
@[simp] theorem State.setDramCh_pins (s : State) (c : Nat) (x : DramCh) : (s.setDramCh c x).pins = s.pins := rfl
@[simp] theorem State.setDramCh_queues (s : State) (c : Nat) (x : DramCh) : (s.setDramCh c x).queues = s.queues := rfl
@[simp] theorem State.setDramCh_drams (s : State) (c : Nat) (x : DramCh) : (s.setDramCh c x).drams = tput s.drams c x := rfl
@[simp] theorem State.setDramCh_dmas (s : State) (c : Nat) (x : DramCh) : (s.setDramCh c x).dmas = s.dmas := rfl
@[simp] theorem State.setDramCh_encs (s : State) (c : Nat) (x : DramCh) : (s.setDramCh c x).encs = s.encs := rfl
@[simp] theorem State.setDramCh_wheel (s : State) (c : Nat) (x : DramCh) : (s.setDramCh c x).wheel = s.wheel := rfl
@[simp] theorem State.setDramCh_gens (s : State) (c : Nat) (x : DramCh) : (s.setDramCh c x).gens = s.gens := rfl
@[simp] theorem State.setDramCh_trigs (s : State) (c : Nat) (x : DramCh) : (s.setDramCh c x).trigs = s.trigs := rfl
@[simp] theorem State.setDramCh_cmps (s : State) (c : Nat) (x : DramCh) : (s.setDramCh c x).cmps = s.cmps := rfl
@[simp] theorem State.setDramCh_probes (s : State) (c : Nat) (x : DramCh) : (s.setDramCh c x).probes = s.probes := rfl
@[simp] theorem State.setDramCh_mirs (s : State) (c : Nat) (x : DramCh) : (s.setDramCh c x).mirs = s.mirs := rfl
@[simp] theorem State.setDramCh_cams (s : State) (c : Nat) (x : DramCh) : (s.setDramCh c x).cams = s.cams := rfl
@[simp] theorem State.setDramCh_uplinks (s : State) (c : Nat) (x : DramCh) : (s.setDramCh c x).uplinks = s.uplinks := rfl
@[simp] theorem State.setDramCh_ctxs (s : State) (c : Nat) (x : DramCh) : (s.setDramCh c x).ctxs = s.ctxs := rfl
@[simp] theorem State.setDramCh_pipes (s : State) (c : Nat) (x : DramCh) : (s.setDramCh c x).pipes = s.pipes := rfl
@[simp] theorem State.setDramCh_seam (s : State) (c : Nat) (x : DramCh) : (s.setDramCh c x).seam = s.seam := rfl
@[simp] theorem State.setDramCh_coding (s : State) (c : Nat) (x : DramCh) : (s.setDramCh c x).coding = s.coding := rfl
@[simp] theorem State.setDramCh_wins (s : State) (c : Nat) (x : DramCh) : (s.setDramCh c x).wins = s.wins := rfl
@[simp] theorem State.setDramCh_views (s : State) (c : Nat) (x : DramCh) : (s.setDramCh c x).views = s.views := rfl
@[simp] theorem State.setDramCh_zes (s : State) (c : Nat) (x : DramCh) : (s.setDramCh c x).zes = s.zes := rfl
@[simp] theorem State.setDramCh_cropJobs (s : State) (c : Nat) (x : DramCh) : (s.setDramCh c x).cropJobs = s.cropJobs := rfl
@[simp] theorem State.setDramCh_slip (s : State) (c : Nat) (x : DramCh) : (s.setDramCh c x).slip = s.slip := rfl
@[simp] theorem State.setDramCh_bars (s : State) (c : Nat) (x : DramCh) : (s.setDramCh c x).bars = s.bars := rfl
@[simp] theorem State.setDramCh_ports (s : State) (c : Nat) (x : DramCh) : (s.setDramCh c x).ports = s.ports := rfl
@[simp] theorem State.setDramCh_heads (s : State) (c : Nat) (x : DramCh) : (s.setDramCh c x).heads = s.heads := rfl
@[simp] theorem State.setDramCh_scan (s : State) (c : Nat) (x : DramCh) : (s.setDramCh c x).scan = s.scan := rfl
@[simp] theorem State.setDramCh_gas (s : State) (c : Nat) (x : DramCh) : (s.setDramCh c x).gas = s.gas := rfl
@[simp] theorem State.setDramCh_syncAt (s : State) (c : Nat) (x : DramCh) : (s.setDramCh c x).syncAt = s.syncAt := rfl
@[simp] theorem State.setDramCh_umb (s : State) (c : Nat) (x : DramCh) : (s.setDramCh c x).umb = s.umb := rfl
@[simp] theorem State.setDramCh_loop (s : State) (c : Nat) (x : DramCh) : (s.setDramCh c x).loop = s.loop := rfl
@[simp] theorem State.setDramCh_skl (s : State) (c : Nat) (x : DramCh) : (s.setDramCh c x).skl = s.skl := rfl
@[simp] theorem State.setDramCh_sync (s : State) (c : Nat) (x : DramCh) : (s.setDramCh c x).sync = s.sync := rfl

/-! ### wr -/

@[simp] theorem State.wr_pending (s : State) (k v : Nat) : (s.wr k v).pending = s.pending := rfl
@[simp] theorem State.wr_now (s : State) (k v : Nat) : (s.wr k v).now = s.now := rfl
@[simp] theorem State.wr_timeBase (s : State) (k v : Nat) : (s.wr k v).timeBase = s.timeBase := rfl
@[simp] theorem State.wr_timeC0 (s : State) (k v : Nat) : (s.wr k v).timeC0 = s.timeC0 := rfl
@[simp] theorem State.wr_stateAt (s : State) (k v : Nat) : (s.wr k v).stateAt = s.stateAt := rfl
@[simp] theorem State.wr_free (s : State) (k v : Nat) : (s.wr k v).free = s.free := rfl
@[simp] theorem State.wr_regs (s : State) (k v : Nat) : (s.wr k v).regs = tput s.regs k v := rfl
@[simp] theorem State.wr_shadow (s : State) (k v : Nat) : (s.wr k v).shadow = s.shadow := rfl
@[simp] theorem State.wr_dom (s : State) (k v : Nat) : (s.wr k v).dom = s.dom := rfl
@[simp] theorem State.wr_domLens (s : State) (k v : Nat) : (s.wr k v).domLens = s.domLens := rfl
@[simp] theorem State.wr_shDom (s : State) (k v : Nat) : (s.wr k v).shDom = s.shDom := rfl
@[simp] theorem State.wr_shDomLens (s : State) (k v : Nat) : (s.wr k v).shDomLens = s.shDomLens := rfl
@[simp] theorem State.wr_own (s : State) (k v : Nat) : (s.wr k v).own = s.own := rfl
@[simp] theorem State.wr_sherds (s : State) (k v : Nat) : (s.wr k v).sherds = s.sherds := rfl
@[simp] theorem State.wr_commitBands (s : State) (k v : Nat) : (s.wr k v).commitBands = s.commitBands := rfl
@[simp] theorem State.wr_readData (s : State) (k v : Nat) : (s.wr k v).readData = s.readData := rfl
@[simp] theorem State.wr_chal (s : State) (k v : Nat) : (s.wr k v).chal = s.chal := rfl
@[simp] theorem State.wr_xfers (s : State) (k v : Nat) : (s.wr k v).xfers = s.xfers := rfl
@[simp] theorem State.wr_sessions (s : State) (k v : Nat) : (s.wr k v).sessions = s.sessions := rfl
@[simp] theorem State.wr_udpOut (s : State) (k v : Nat) : (s.wr k v).udpOut = s.udpOut := rfl
@[simp] theorem State.wr_hostOut (s : State) (k v : Nat) : (s.wr k v).hostOut = s.hostOut := rfl
@[simp] theorem State.wr_ethOut (s : State) (k v : Nat) : (s.wr k v).ethOut = s.ethOut := rfl
@[simp] theorem State.wr_arp (s : State) (k v : Nat) : (s.wr k v).arp = s.arp := rfl
@[simp] theorem State.wr_mem (s : State) (k v : Nat) : (s.wr k v).mem = s.mem := rfl
@[simp] theorem State.wr_glaze (s : State) (k v : Nat) : (s.wr k v).glaze = s.glaze := rfl
@[simp] theorem State.wr_raised (s : State) (k v : Nat) : (s.wr k v).raised = s.raised := rfl
@[simp] theorem State.wr_tasks (s : State) (k v : Nat) : (s.wr k v).tasks = s.tasks := rfl
@[simp] theorem State.wr_holdEnds (s : State) (k v : Nat) : (s.wr k v).holdEnds = s.holdEnds := rfl
@[simp] theorem State.wr_maskSetAt (s : State) (k v : Nat) : (s.wr k v).maskSetAt = s.maskSetAt := rfl
@[simp] theorem State.wr_arrived (s : State) (k v : Nat) : (s.wr k v).arrived = s.arrived := rfl
@[simp] theorem State.wr_msix (s : State) (k v : Nat) : (s.wr k v).msix = s.msix := rfl
@[simp] theorem State.wr_wbuf (s : State) (k v : Nat) : (s.wr k v).wbuf = s.wbuf := rfl
@[simp] theorem State.wr_wring (s : State) (k v : Nat) : (s.wr k v).wring = s.wring := rfl
@[simp] theorem State.wr_wgap (s : State) (k v : Nat) : (s.wr k v).wgap = s.wgap := rfl
@[simp] theorem State.wr_faultTimes (s : State) (k v : Nat) : (s.wr k v).faultTimes = s.faultTimes := rfl
@[simp] theorem State.wr_fuses (s : State) (k v : Nat) : (s.wr k v).fuses = s.fuses := rfl
@[simp] theorem State.wr_boot (s : State) (k v : Nat) : (s.wr k v).boot = s.boot := rfl
@[simp] theorem State.wr_power (s : State) (k v : Nat) : (s.wr k v).power = s.power := rfl
@[simp] theorem State.wr_cores (s : State) (k v : Nat) : (s.wr k v).cores = s.cores := rfl
@[simp] theorem State.wr_coreFaults (s : State) (k v : Nat) : (s.wr k v).coreFaults = s.coreFaults := rfl
@[simp] theorem State.wr_wdog (s : State) (k v : Nat) : (s.wr k v).wdog = s.wdog := rfl
@[simp] theorem State.wr_hot (s : State) (k v : Nat) : (s.wr k v).hot = s.hot := rfl
@[simp] theorem State.wr_calRecs (s : State) (k v : Nat) : (s.wr k v).calRecs = s.calRecs := rfl
@[simp] theorem State.wr_gpioIn (s : State) (k v : Nat) : (s.wr k v).gpioIn = s.gpioIn := rfl
@[simp] theorem State.wr_pins (s : State) (k v : Nat) : (s.wr k v).pins = s.pins := rfl
@[simp] theorem State.wr_queues (s : State) (k v : Nat) : (s.wr k v).queues = s.queues := rfl
@[simp] theorem State.wr_drams (s : State) (k v : Nat) : (s.wr k v).drams = s.drams := rfl
@[simp] theorem State.wr_dmas (s : State) (k v : Nat) : (s.wr k v).dmas = s.dmas := rfl
@[simp] theorem State.wr_encs (s : State) (k v : Nat) : (s.wr k v).encs = s.encs := rfl
@[simp] theorem State.wr_wheel (s : State) (k v : Nat) : (s.wr k v).wheel = s.wheel := rfl
@[simp] theorem State.wr_gens (s : State) (k v : Nat) : (s.wr k v).gens = s.gens := rfl
@[simp] theorem State.wr_trigs (s : State) (k v : Nat) : (s.wr k v).trigs = s.trigs := rfl
@[simp] theorem State.wr_cmps (s : State) (k v : Nat) : (s.wr k v).cmps = s.cmps := rfl
@[simp] theorem State.wr_probes (s : State) (k v : Nat) : (s.wr k v).probes = s.probes := rfl
@[simp] theorem State.wr_mirs (s : State) (k v : Nat) : (s.wr k v).mirs = s.mirs := rfl
@[simp] theorem State.wr_cams (s : State) (k v : Nat) : (s.wr k v).cams = s.cams := rfl
@[simp] theorem State.wr_uplinks (s : State) (k v : Nat) : (s.wr k v).uplinks = s.uplinks := rfl
@[simp] theorem State.wr_ctxs (s : State) (k v : Nat) : (s.wr k v).ctxs = s.ctxs := rfl
@[simp] theorem State.wr_pipes (s : State) (k v : Nat) : (s.wr k v).pipes = s.pipes := rfl
@[simp] theorem State.wr_seam (s : State) (k v : Nat) : (s.wr k v).seam = s.seam := rfl
@[simp] theorem State.wr_coding (s : State) (k v : Nat) : (s.wr k v).coding = s.coding := rfl
@[simp] theorem State.wr_wins (s : State) (k v : Nat) : (s.wr k v).wins = s.wins := rfl
@[simp] theorem State.wr_views (s : State) (k v : Nat) : (s.wr k v).views = s.views := rfl
@[simp] theorem State.wr_zes (s : State) (k v : Nat) : (s.wr k v).zes = s.zes := rfl
@[simp] theorem State.wr_cropJobs (s : State) (k v : Nat) : (s.wr k v).cropJobs = s.cropJobs := rfl
@[simp] theorem State.wr_slip (s : State) (k v : Nat) : (s.wr k v).slip = s.slip := rfl
@[simp] theorem State.wr_bars (s : State) (k v : Nat) : (s.wr k v).bars = s.bars := rfl
@[simp] theorem State.wr_ports (s : State) (k v : Nat) : (s.wr k v).ports = s.ports := rfl
@[simp] theorem State.wr_heads (s : State) (k v : Nat) : (s.wr k v).heads = s.heads := rfl
@[simp] theorem State.wr_scan (s : State) (k v : Nat) : (s.wr k v).scan = s.scan := rfl
@[simp] theorem State.wr_gas (s : State) (k v : Nat) : (s.wr k v).gas = s.gas := rfl
@[simp] theorem State.wr_syncAt (s : State) (k v : Nat) : (s.wr k v).syncAt = s.syncAt := rfl
@[simp] theorem State.wr_umb (s : State) (k v : Nat) : (s.wr k v).umb = s.umb := rfl
@[simp] theorem State.wr_loop (s : State) (k v : Nat) : (s.wr k v).loop = s.loop := rfl
@[simp] theorem State.wr_skl (s : State) (k v : Nat) : (s.wr k v).skl = s.skl := rfl
@[simp] theorem State.wr_sync (s : State) (k v : Nat) : (s.wr k v).sync = s.sync := rfl

/-! ### stage -/

@[simp] theorem State.stage_pending (s : State) (k v : Nat) : (s.stage k v).pending = s.pending := rfl
@[simp] theorem State.stage_now (s : State) (k v : Nat) : (s.stage k v).now = s.now := rfl
@[simp] theorem State.stage_timeBase (s : State) (k v : Nat) : (s.stage k v).timeBase = s.timeBase := rfl
@[simp] theorem State.stage_timeC0 (s : State) (k v : Nat) : (s.stage k v).timeC0 = s.timeC0 := rfl
@[simp] theorem State.stage_stateAt (s : State) (k v : Nat) : (s.stage k v).stateAt = s.stateAt := rfl
@[simp] theorem State.stage_free (s : State) (k v : Nat) : (s.stage k v).free = s.free := rfl
@[simp] theorem State.stage_regs (s : State) (k v : Nat) : (s.stage k v).regs = s.regs := rfl
@[simp] theorem State.stage_shadow (s : State) (k v : Nat) : (s.stage k v).shadow = tput s.shadow k v := rfl
@[simp] theorem State.stage_dom (s : State) (k v : Nat) : (s.stage k v).dom = s.dom := rfl
@[simp] theorem State.stage_domLens (s : State) (k v : Nat) : (s.stage k v).domLens = s.domLens := rfl
@[simp] theorem State.stage_shDom (s : State) (k v : Nat) : (s.stage k v).shDom = s.shDom := rfl
@[simp] theorem State.stage_shDomLens (s : State) (k v : Nat) : (s.stage k v).shDomLens = s.shDomLens := rfl
@[simp] theorem State.stage_own (s : State) (k v : Nat) : (s.stage k v).own = s.own := rfl
@[simp] theorem State.stage_sherds (s : State) (k v : Nat) : (s.stage k v).sherds = s.sherds := rfl
@[simp] theorem State.stage_commitBands (s : State) (k v : Nat) : (s.stage k v).commitBands = s.commitBands := rfl
@[simp] theorem State.stage_readData (s : State) (k v : Nat) : (s.stage k v).readData = s.readData := rfl
@[simp] theorem State.stage_chal (s : State) (k v : Nat) : (s.stage k v).chal = s.chal := rfl
@[simp] theorem State.stage_xfers (s : State) (k v : Nat) : (s.stage k v).xfers = s.xfers := rfl
@[simp] theorem State.stage_sessions (s : State) (k v : Nat) : (s.stage k v).sessions = s.sessions := rfl
@[simp] theorem State.stage_udpOut (s : State) (k v : Nat) : (s.stage k v).udpOut = s.udpOut := rfl
@[simp] theorem State.stage_hostOut (s : State) (k v : Nat) : (s.stage k v).hostOut = s.hostOut := rfl
@[simp] theorem State.stage_ethOut (s : State) (k v : Nat) : (s.stage k v).ethOut = s.ethOut := rfl
@[simp] theorem State.stage_arp (s : State) (k v : Nat) : (s.stage k v).arp = s.arp := rfl
@[simp] theorem State.stage_mem (s : State) (k v : Nat) : (s.stage k v).mem = s.mem := rfl
@[simp] theorem State.stage_glaze (s : State) (k v : Nat) : (s.stage k v).glaze = s.glaze := rfl
@[simp] theorem State.stage_raised (s : State) (k v : Nat) : (s.stage k v).raised = s.raised := rfl
@[simp] theorem State.stage_tasks (s : State) (k v : Nat) : (s.stage k v).tasks = s.tasks := rfl
@[simp] theorem State.stage_holdEnds (s : State) (k v : Nat) : (s.stage k v).holdEnds = s.holdEnds := rfl
@[simp] theorem State.stage_maskSetAt (s : State) (k v : Nat) : (s.stage k v).maskSetAt = s.maskSetAt := rfl
@[simp] theorem State.stage_arrived (s : State) (k v : Nat) : (s.stage k v).arrived = s.arrived := rfl
@[simp] theorem State.stage_msix (s : State) (k v : Nat) : (s.stage k v).msix = s.msix := rfl
@[simp] theorem State.stage_wbuf (s : State) (k v : Nat) : (s.stage k v).wbuf = s.wbuf := rfl
@[simp] theorem State.stage_wring (s : State) (k v : Nat) : (s.stage k v).wring = s.wring := rfl
@[simp] theorem State.stage_wgap (s : State) (k v : Nat) : (s.stage k v).wgap = s.wgap := rfl
@[simp] theorem State.stage_faultTimes (s : State) (k v : Nat) : (s.stage k v).faultTimes = s.faultTimes := rfl
@[simp] theorem State.stage_fuses (s : State) (k v : Nat) : (s.stage k v).fuses = s.fuses := rfl
@[simp] theorem State.stage_boot (s : State) (k v : Nat) : (s.stage k v).boot = s.boot := rfl
@[simp] theorem State.stage_power (s : State) (k v : Nat) : (s.stage k v).power = s.power := rfl
@[simp] theorem State.stage_cores (s : State) (k v : Nat) : (s.stage k v).cores = s.cores := rfl
@[simp] theorem State.stage_coreFaults (s : State) (k v : Nat) : (s.stage k v).coreFaults = s.coreFaults := rfl
@[simp] theorem State.stage_wdog (s : State) (k v : Nat) : (s.stage k v).wdog = s.wdog := rfl
@[simp] theorem State.stage_hot (s : State) (k v : Nat) : (s.stage k v).hot = s.hot := rfl
@[simp] theorem State.stage_calRecs (s : State) (k v : Nat) : (s.stage k v).calRecs = s.calRecs := rfl
@[simp] theorem State.stage_gpioIn (s : State) (k v : Nat) : (s.stage k v).gpioIn = s.gpioIn := rfl
@[simp] theorem State.stage_pins (s : State) (k v : Nat) : (s.stage k v).pins = s.pins := rfl
@[simp] theorem State.stage_queues (s : State) (k v : Nat) : (s.stage k v).queues = s.queues := rfl
@[simp] theorem State.stage_drams (s : State) (k v : Nat) : (s.stage k v).drams = s.drams := rfl
@[simp] theorem State.stage_dmas (s : State) (k v : Nat) : (s.stage k v).dmas = s.dmas := rfl
@[simp] theorem State.stage_encs (s : State) (k v : Nat) : (s.stage k v).encs = s.encs := rfl
@[simp] theorem State.stage_wheel (s : State) (k v : Nat) : (s.stage k v).wheel = s.wheel := rfl
@[simp] theorem State.stage_gens (s : State) (k v : Nat) : (s.stage k v).gens = s.gens := rfl
@[simp] theorem State.stage_trigs (s : State) (k v : Nat) : (s.stage k v).trigs = s.trigs := rfl
@[simp] theorem State.stage_cmps (s : State) (k v : Nat) : (s.stage k v).cmps = s.cmps := rfl
@[simp] theorem State.stage_probes (s : State) (k v : Nat) : (s.stage k v).probes = s.probes := rfl
@[simp] theorem State.stage_mirs (s : State) (k v : Nat) : (s.stage k v).mirs = s.mirs := rfl
@[simp] theorem State.stage_cams (s : State) (k v : Nat) : (s.stage k v).cams = s.cams := rfl
@[simp] theorem State.stage_uplinks (s : State) (k v : Nat) : (s.stage k v).uplinks = s.uplinks := rfl
@[simp] theorem State.stage_ctxs (s : State) (k v : Nat) : (s.stage k v).ctxs = s.ctxs := rfl
@[simp] theorem State.stage_pipes (s : State) (k v : Nat) : (s.stage k v).pipes = s.pipes := rfl
@[simp] theorem State.stage_seam (s : State) (k v : Nat) : (s.stage k v).seam = s.seam := rfl
@[simp] theorem State.stage_coding (s : State) (k v : Nat) : (s.stage k v).coding = s.coding := rfl
@[simp] theorem State.stage_wins (s : State) (k v : Nat) : (s.stage k v).wins = s.wins := rfl
@[simp] theorem State.stage_views (s : State) (k v : Nat) : (s.stage k v).views = s.views := rfl
@[simp] theorem State.stage_zes (s : State) (k v : Nat) : (s.stage k v).zes = s.zes := rfl
@[simp] theorem State.stage_cropJobs (s : State) (k v : Nat) : (s.stage k v).cropJobs = s.cropJobs := rfl
@[simp] theorem State.stage_slip (s : State) (k v : Nat) : (s.stage k v).slip = s.slip := rfl
@[simp] theorem State.stage_bars (s : State) (k v : Nat) : (s.stage k v).bars = s.bars := rfl
@[simp] theorem State.stage_ports (s : State) (k v : Nat) : (s.stage k v).ports = s.ports := rfl
@[simp] theorem State.stage_heads (s : State) (k v : Nat) : (s.stage k v).heads = s.heads := rfl
@[simp] theorem State.stage_scan (s : State) (k v : Nat) : (s.stage k v).scan = s.scan := rfl
@[simp] theorem State.stage_gas (s : State) (k v : Nat) : (s.stage k v).gas = s.gas := rfl
@[simp] theorem State.stage_syncAt (s : State) (k v : Nat) : (s.stage k v).syncAt = s.syncAt := rfl
@[simp] theorem State.stage_umb (s : State) (k v : Nat) : (s.stage k v).umb = s.umb := rfl
@[simp] theorem State.stage_loop (s : State) (k v : Nat) : (s.stage k v).loop = s.loop := rfl
@[simp] theorem State.stage_skl (s : State) (k v : Nat) : (s.stage k v).skl = s.skl := rfl
@[simp] theorem State.stage_sync (s : State) (k v : Nat) : (s.stage k v).sync = s.sync := rfl

/-! ### at -/

@[simp] theorem State.at_pending (s : State) (t : Nat) : (s.at t).pending = s.pending := rfl
@[simp] theorem State.at_now (s : State) (t : Nat) : (s.at t).now = max s.now t := rfl
@[simp] theorem State.at_timeBase (s : State) (t : Nat) : (s.at t).timeBase = s.timeBase := rfl
@[simp] theorem State.at_timeC0 (s : State) (t : Nat) : (s.at t).timeC0 = s.timeC0 := rfl
@[simp] theorem State.at_stateAt (s : State) (t : Nat) : (s.at t).stateAt = s.stateAt := rfl
@[simp] theorem State.at_free (s : State) (t : Nat) : (s.at t).free = s.free := rfl
@[simp] theorem State.at_regs (s : State) (t : Nat) : (s.at t).regs = s.regs := rfl
@[simp] theorem State.at_shadow (s : State) (t : Nat) : (s.at t).shadow = s.shadow := rfl
@[simp] theorem State.at_dom (s : State) (t : Nat) : (s.at t).dom = s.dom := rfl
@[simp] theorem State.at_domLens (s : State) (t : Nat) : (s.at t).domLens = s.domLens := rfl
@[simp] theorem State.at_shDom (s : State) (t : Nat) : (s.at t).shDom = s.shDom := rfl
@[simp] theorem State.at_shDomLens (s : State) (t : Nat) : (s.at t).shDomLens = s.shDomLens := rfl
@[simp] theorem State.at_own (s : State) (t : Nat) : (s.at t).own = s.own := rfl
@[simp] theorem State.at_sherds (s : State) (t : Nat) : (s.at t).sherds = s.sherds := rfl
@[simp] theorem State.at_commitBands (s : State) (t : Nat) : (s.at t).commitBands = s.commitBands := rfl
@[simp] theorem State.at_readData (s : State) (t : Nat) : (s.at t).readData = s.readData := rfl
@[simp] theorem State.at_chal (s : State) (t : Nat) : (s.at t).chal = s.chal := rfl
@[simp] theorem State.at_xfers (s : State) (t : Nat) : (s.at t).xfers = s.xfers := rfl
@[simp] theorem State.at_sessions (s : State) (t : Nat) : (s.at t).sessions = s.sessions := rfl
@[simp] theorem State.at_udpOut (s : State) (t : Nat) : (s.at t).udpOut = s.udpOut := rfl
@[simp] theorem State.at_hostOut (s : State) (t : Nat) : (s.at t).hostOut = s.hostOut := rfl
@[simp] theorem State.at_ethOut (s : State) (t : Nat) : (s.at t).ethOut = s.ethOut := rfl
@[simp] theorem State.at_arp (s : State) (t : Nat) : (s.at t).arp = s.arp := rfl
@[simp] theorem State.at_mem (s : State) (t : Nat) : (s.at t).mem = s.mem := rfl
@[simp] theorem State.at_glaze (s : State) (t : Nat) : (s.at t).glaze = s.glaze := rfl
@[simp] theorem State.at_raised (s : State) (t : Nat) : (s.at t).raised = s.raised := rfl
@[simp] theorem State.at_tasks (s : State) (t : Nat) : (s.at t).tasks = s.tasks := rfl
@[simp] theorem State.at_holdEnds (s : State) (t : Nat) : (s.at t).holdEnds = s.holdEnds := rfl
@[simp] theorem State.at_maskSetAt (s : State) (t : Nat) : (s.at t).maskSetAt = s.maskSetAt := rfl
@[simp] theorem State.at_arrived (s : State) (t : Nat) : (s.at t).arrived = s.arrived := rfl
@[simp] theorem State.at_msix (s : State) (t : Nat) : (s.at t).msix = s.msix := rfl
@[simp] theorem State.at_wbuf (s : State) (t : Nat) : (s.at t).wbuf = s.wbuf := rfl
@[simp] theorem State.at_wring (s : State) (t : Nat) : (s.at t).wring = s.wring := rfl
@[simp] theorem State.at_wgap (s : State) (t : Nat) : (s.at t).wgap = s.wgap := rfl
@[simp] theorem State.at_faultTimes (s : State) (t : Nat) : (s.at t).faultTimes = s.faultTimes := rfl
@[simp] theorem State.at_fuses (s : State) (t : Nat) : (s.at t).fuses = s.fuses := rfl
@[simp] theorem State.at_boot (s : State) (t : Nat) : (s.at t).boot = s.boot := rfl
@[simp] theorem State.at_power (s : State) (t : Nat) : (s.at t).power = s.power := rfl
@[simp] theorem State.at_cores (s : State) (t : Nat) : (s.at t).cores = s.cores := rfl
@[simp] theorem State.at_coreFaults (s : State) (t : Nat) : (s.at t).coreFaults = s.coreFaults := rfl
@[simp] theorem State.at_wdog (s : State) (t : Nat) : (s.at t).wdog = s.wdog := rfl
@[simp] theorem State.at_hot (s : State) (t : Nat) : (s.at t).hot = s.hot := rfl
@[simp] theorem State.at_calRecs (s : State) (t : Nat) : (s.at t).calRecs = s.calRecs := rfl
@[simp] theorem State.at_gpioIn (s : State) (t : Nat) : (s.at t).gpioIn = s.gpioIn := rfl
@[simp] theorem State.at_pins (s : State) (t : Nat) : (s.at t).pins = s.pins := rfl
@[simp] theorem State.at_queues (s : State) (t : Nat) : (s.at t).queues = s.queues := rfl
@[simp] theorem State.at_drams (s : State) (t : Nat) : (s.at t).drams = s.drams := rfl
@[simp] theorem State.at_dmas (s : State) (t : Nat) : (s.at t).dmas = s.dmas := rfl
@[simp] theorem State.at_encs (s : State) (t : Nat) : (s.at t).encs = s.encs := rfl
@[simp] theorem State.at_wheel (s : State) (t : Nat) : (s.at t).wheel = s.wheel := rfl
@[simp] theorem State.at_gens (s : State) (t : Nat) : (s.at t).gens = s.gens := rfl
@[simp] theorem State.at_trigs (s : State) (t : Nat) : (s.at t).trigs = s.trigs := rfl
@[simp] theorem State.at_cmps (s : State) (t : Nat) : (s.at t).cmps = s.cmps := rfl
@[simp] theorem State.at_probes (s : State) (t : Nat) : (s.at t).probes = s.probes := rfl
@[simp] theorem State.at_mirs (s : State) (t : Nat) : (s.at t).mirs = s.mirs := rfl
@[simp] theorem State.at_cams (s : State) (t : Nat) : (s.at t).cams = s.cams := rfl
@[simp] theorem State.at_uplinks (s : State) (t : Nat) : (s.at t).uplinks = s.uplinks := rfl
@[simp] theorem State.at_ctxs (s : State) (t : Nat) : (s.at t).ctxs = s.ctxs := rfl
@[simp] theorem State.at_pipes (s : State) (t : Nat) : (s.at t).pipes = s.pipes := rfl
@[simp] theorem State.at_seam (s : State) (t : Nat) : (s.at t).seam = s.seam := rfl
@[simp] theorem State.at_coding (s : State) (t : Nat) : (s.at t).coding = s.coding := rfl
@[simp] theorem State.at_wins (s : State) (t : Nat) : (s.at t).wins = s.wins := rfl
@[simp] theorem State.at_views (s : State) (t : Nat) : (s.at t).views = s.views := rfl
@[simp] theorem State.at_zes (s : State) (t : Nat) : (s.at t).zes = s.zes := rfl
@[simp] theorem State.at_cropJobs (s : State) (t : Nat) : (s.at t).cropJobs = s.cropJobs := rfl
@[simp] theorem State.at_slip (s : State) (t : Nat) : (s.at t).slip = s.slip := rfl
@[simp] theorem State.at_bars (s : State) (t : Nat) : (s.at t).bars = s.bars := rfl
@[simp] theorem State.at_ports (s : State) (t : Nat) : (s.at t).ports = s.ports := rfl
@[simp] theorem State.at_heads (s : State) (t : Nat) : (s.at t).heads = s.heads := rfl
@[simp] theorem State.at_scan (s : State) (t : Nat) : (s.at t).scan = s.scan := rfl
@[simp] theorem State.at_gas (s : State) (t : Nat) : (s.at t).gas = s.gas := rfl
@[simp] theorem State.at_syncAt (s : State) (t : Nat) : (s.at t).syncAt = s.syncAt := rfl
@[simp] theorem State.at_umb (s : State) (t : Nat) : (s.at t).umb = s.umb := rfl
@[simp] theorem State.at_loop (s : State) (t : Nat) : (s.at t).loop = s.loop := rfl
@[simp] theorem State.at_skl (s : State) (t : Nat) : (s.at t).skl = s.skl := rfl
@[simp] theorem State.at_sync (s : State) (t : Nat) : (s.at t).sync = s.sync := rfl

/-! ### drive -/

@[simp] theorem State.drive_pending (s : State) (ball : Nat) (level : Bool) : (s.drive ball level).pending = s.pending := rfl
@[simp] theorem State.drive_now (s : State) (ball : Nat) (level : Bool) : (s.drive ball level).now = s.now := rfl
@[simp] theorem State.drive_timeBase (s : State) (ball : Nat) (level : Bool) : (s.drive ball level).timeBase = s.timeBase := rfl
@[simp] theorem State.drive_timeC0 (s : State) (ball : Nat) (level : Bool) : (s.drive ball level).timeC0 = s.timeC0 := rfl
@[simp] theorem State.drive_stateAt (s : State) (ball : Nat) (level : Bool) : (s.drive ball level).stateAt = s.stateAt := rfl
@[simp] theorem State.drive_free (s : State) (ball : Nat) (level : Bool) : (s.drive ball level).free = s.free := rfl
@[simp] theorem State.drive_regs (s : State) (ball : Nat) (level : Bool) : (s.drive ball level).regs = s.regs := rfl
@[simp] theorem State.drive_shadow (s : State) (ball : Nat) (level : Bool) : (s.drive ball level).shadow = s.shadow := rfl
@[simp] theorem State.drive_dom (s : State) (ball : Nat) (level : Bool) : (s.drive ball level).dom = s.dom := rfl
@[simp] theorem State.drive_domLens (s : State) (ball : Nat) (level : Bool) : (s.drive ball level).domLens = s.domLens := rfl
@[simp] theorem State.drive_shDom (s : State) (ball : Nat) (level : Bool) : (s.drive ball level).shDom = s.shDom := rfl
@[simp] theorem State.drive_shDomLens (s : State) (ball : Nat) (level : Bool) : (s.drive ball level).shDomLens = s.shDomLens := rfl
@[simp] theorem State.drive_own (s : State) (ball : Nat) (level : Bool) : (s.drive ball level).own = s.own := rfl
@[simp] theorem State.drive_sherds (s : State) (ball : Nat) (level : Bool) : (s.drive ball level).sherds = s.sherds := rfl
@[simp] theorem State.drive_commitBands (s : State) (ball : Nat) (level : Bool) : (s.drive ball level).commitBands = s.commitBands := rfl
@[simp] theorem State.drive_readData (s : State) (ball : Nat) (level : Bool) : (s.drive ball level).readData = s.readData := rfl
@[simp] theorem State.drive_chal (s : State) (ball : Nat) (level : Bool) : (s.drive ball level).chal = s.chal := rfl
@[simp] theorem State.drive_xfers (s : State) (ball : Nat) (level : Bool) : (s.drive ball level).xfers = s.xfers := rfl
@[simp] theorem State.drive_sessions (s : State) (ball : Nat) (level : Bool) : (s.drive ball level).sessions = s.sessions := rfl
@[simp] theorem State.drive_udpOut (s : State) (ball : Nat) (level : Bool) : (s.drive ball level).udpOut = s.udpOut := rfl
@[simp] theorem State.drive_hostOut (s : State) (ball : Nat) (level : Bool) : (s.drive ball level).hostOut = s.hostOut := rfl
@[simp] theorem State.drive_ethOut (s : State) (ball : Nat) (level : Bool) : (s.drive ball level).ethOut = s.ethOut := rfl
@[simp] theorem State.drive_arp (s : State) (ball : Nat) (level : Bool) : (s.drive ball level).arp = s.arp := rfl
@[simp] theorem State.drive_mem (s : State) (ball : Nat) (level : Bool) : (s.drive ball level).mem = s.mem := rfl
@[simp] theorem State.drive_glaze (s : State) (ball : Nat) (level : Bool) : (s.drive ball level).glaze = s.glaze := rfl
@[simp] theorem State.drive_raised (s : State) (ball : Nat) (level : Bool) : (s.drive ball level).raised = s.raised := rfl
@[simp] theorem State.drive_tasks (s : State) (ball : Nat) (level : Bool) : (s.drive ball level).tasks = s.tasks := rfl
@[simp] theorem State.drive_holdEnds (s : State) (ball : Nat) (level : Bool) : (s.drive ball level).holdEnds = s.holdEnds := rfl
@[simp] theorem State.drive_maskSetAt (s : State) (ball : Nat) (level : Bool) : (s.drive ball level).maskSetAt = s.maskSetAt := rfl
@[simp] theorem State.drive_arrived (s : State) (ball : Nat) (level : Bool) : (s.drive ball level).arrived = s.arrived := rfl
@[simp] theorem State.drive_msix (s : State) (ball : Nat) (level : Bool) : (s.drive ball level).msix = s.msix := rfl
@[simp] theorem State.drive_wbuf (s : State) (ball : Nat) (level : Bool) : (s.drive ball level).wbuf = s.wbuf := rfl
@[simp] theorem State.drive_wring (s : State) (ball : Nat) (level : Bool) : (s.drive ball level).wring = s.wring := rfl
@[simp] theorem State.drive_wgap (s : State) (ball : Nat) (level : Bool) : (s.drive ball level).wgap = s.wgap := rfl
@[simp] theorem State.drive_faultTimes (s : State) (ball : Nat) (level : Bool) : (s.drive ball level).faultTimes = s.faultTimes := rfl
@[simp] theorem State.drive_fuses (s : State) (ball : Nat) (level : Bool) : (s.drive ball level).fuses = s.fuses := rfl
@[simp] theorem State.drive_boot (s : State) (ball : Nat) (level : Bool) : (s.drive ball level).boot = s.boot := rfl
@[simp] theorem State.drive_power (s : State) (ball : Nat) (level : Bool) : (s.drive ball level).power = s.power := rfl
@[simp] theorem State.drive_cores (s : State) (ball : Nat) (level : Bool) : (s.drive ball level).cores = s.cores := rfl
@[simp] theorem State.drive_coreFaults (s : State) (ball : Nat) (level : Bool) : (s.drive ball level).coreFaults = s.coreFaults := rfl
@[simp] theorem State.drive_wdog (s : State) (ball : Nat) (level : Bool) : (s.drive ball level).wdog = s.wdog := rfl
@[simp] theorem State.drive_hot (s : State) (ball : Nat) (level : Bool) : (s.drive ball level).hot = s.hot := rfl
@[simp] theorem State.drive_calRecs (s : State) (ball : Nat) (level : Bool) : (s.drive ball level).calRecs = s.calRecs := rfl
@[simp] theorem State.drive_gpioIn (s : State) (ball : Nat) (level : Bool) : (s.drive ball level).gpioIn = s.gpioIn := rfl
@[simp] theorem State.drive_pins (s : State) (ball : Nat) (level : Bool) : (s.drive ball level).pins = tput s.pins ball (b2n level) := rfl
@[simp] theorem State.drive_queues (s : State) (ball : Nat) (level : Bool) : (s.drive ball level).queues = s.queues := rfl
@[simp] theorem State.drive_drams (s : State) (ball : Nat) (level : Bool) : (s.drive ball level).drams = s.drams := rfl
@[simp] theorem State.drive_dmas (s : State) (ball : Nat) (level : Bool) : (s.drive ball level).dmas = s.dmas := rfl
@[simp] theorem State.drive_encs (s : State) (ball : Nat) (level : Bool) : (s.drive ball level).encs = s.encs := rfl
@[simp] theorem State.drive_wheel (s : State) (ball : Nat) (level : Bool) : (s.drive ball level).wheel = s.wheel := rfl
@[simp] theorem State.drive_gens (s : State) (ball : Nat) (level : Bool) : (s.drive ball level).gens = s.gens := rfl
@[simp] theorem State.drive_trigs (s : State) (ball : Nat) (level : Bool) : (s.drive ball level).trigs = s.trigs := rfl
@[simp] theorem State.drive_cmps (s : State) (ball : Nat) (level : Bool) : (s.drive ball level).cmps = s.cmps := rfl
@[simp] theorem State.drive_probes (s : State) (ball : Nat) (level : Bool) : (s.drive ball level).probes = s.probes := rfl
@[simp] theorem State.drive_mirs (s : State) (ball : Nat) (level : Bool) : (s.drive ball level).mirs = s.mirs := rfl
@[simp] theorem State.drive_cams (s : State) (ball : Nat) (level : Bool) : (s.drive ball level).cams = s.cams := rfl
@[simp] theorem State.drive_uplinks (s : State) (ball : Nat) (level : Bool) : (s.drive ball level).uplinks = s.uplinks := rfl
@[simp] theorem State.drive_ctxs (s : State) (ball : Nat) (level : Bool) : (s.drive ball level).ctxs = s.ctxs := rfl
@[simp] theorem State.drive_pipes (s : State) (ball : Nat) (level : Bool) : (s.drive ball level).pipes = s.pipes := rfl
@[simp] theorem State.drive_seam (s : State) (ball : Nat) (level : Bool) : (s.drive ball level).seam = s.seam := rfl
@[simp] theorem State.drive_coding (s : State) (ball : Nat) (level : Bool) : (s.drive ball level).coding = s.coding := rfl
@[simp] theorem State.drive_wins (s : State) (ball : Nat) (level : Bool) : (s.drive ball level).wins = s.wins := rfl
@[simp] theorem State.drive_views (s : State) (ball : Nat) (level : Bool) : (s.drive ball level).views = s.views := rfl
@[simp] theorem State.drive_zes (s : State) (ball : Nat) (level : Bool) : (s.drive ball level).zes = s.zes := rfl
@[simp] theorem State.drive_cropJobs (s : State) (ball : Nat) (level : Bool) : (s.drive ball level).cropJobs = s.cropJobs := rfl
@[simp] theorem State.drive_slip (s : State) (ball : Nat) (level : Bool) : (s.drive ball level).slip = s.slip := rfl
@[simp] theorem State.drive_bars (s : State) (ball : Nat) (level : Bool) : (s.drive ball level).bars = s.bars := rfl
@[simp] theorem State.drive_ports (s : State) (ball : Nat) (level : Bool) : (s.drive ball level).ports = s.ports := rfl
@[simp] theorem State.drive_heads (s : State) (ball : Nat) (level : Bool) : (s.drive ball level).heads = s.heads := rfl
@[simp] theorem State.drive_scan (s : State) (ball : Nat) (level : Bool) : (s.drive ball level).scan = s.scan := rfl
@[simp] theorem State.drive_gas (s : State) (ball : Nat) (level : Bool) : (s.drive ball level).gas = s.gas := rfl
@[simp] theorem State.drive_syncAt (s : State) (ball : Nat) (level : Bool) : (s.drive ball level).syncAt = s.syncAt := rfl
@[simp] theorem State.drive_umb (s : State) (ball : Nat) (level : Bool) : (s.drive ball level).umb = s.umb := rfl
@[simp] theorem State.drive_loop (s : State) (ball : Nat) (level : Bool) : (s.drive ball level).loop = s.loop := rfl
@[simp] theorem State.drive_skl (s : State) (ball : Nat) (level : Bool) : (s.drive ball level).skl = s.skl := rfl
@[simp] theorem State.drive_sync (s : State) (ball : Nat) (level : Bool) : (s.drive ball level).sync = s.sync := rfl

/-! ### release -/

@[simp] theorem State.release_pending (s : State) (ball : Nat) : (s.release ball).pending = s.pending := rfl
@[simp] theorem State.release_now (s : State) (ball : Nat) : (s.release ball).now = s.now := rfl
@[simp] theorem State.release_timeBase (s : State) (ball : Nat) : (s.release ball).timeBase = s.timeBase := rfl
@[simp] theorem State.release_timeC0 (s : State) (ball : Nat) : (s.release ball).timeC0 = s.timeC0 := rfl
@[simp] theorem State.release_stateAt (s : State) (ball : Nat) : (s.release ball).stateAt = s.stateAt := rfl
@[simp] theorem State.release_free (s : State) (ball : Nat) : (s.release ball).free = s.free := rfl
@[simp] theorem State.release_regs (s : State) (ball : Nat) : (s.release ball).regs = s.regs := rfl
@[simp] theorem State.release_shadow (s : State) (ball : Nat) : (s.release ball).shadow = s.shadow := rfl
@[simp] theorem State.release_dom (s : State) (ball : Nat) : (s.release ball).dom = s.dom := rfl
@[simp] theorem State.release_domLens (s : State) (ball : Nat) : (s.release ball).domLens = s.domLens := rfl
@[simp] theorem State.release_shDom (s : State) (ball : Nat) : (s.release ball).shDom = s.shDom := rfl
@[simp] theorem State.release_shDomLens (s : State) (ball : Nat) : (s.release ball).shDomLens = s.shDomLens := rfl
@[simp] theorem State.release_own (s : State) (ball : Nat) : (s.release ball).own = s.own := rfl
@[simp] theorem State.release_sherds (s : State) (ball : Nat) : (s.release ball).sherds = s.sherds := rfl
@[simp] theorem State.release_commitBands (s : State) (ball : Nat) : (s.release ball).commitBands = s.commitBands := rfl
@[simp] theorem State.release_readData (s : State) (ball : Nat) : (s.release ball).readData = s.readData := rfl
@[simp] theorem State.release_chal (s : State) (ball : Nat) : (s.release ball).chal = s.chal := rfl
@[simp] theorem State.release_xfers (s : State) (ball : Nat) : (s.release ball).xfers = s.xfers := rfl
@[simp] theorem State.release_sessions (s : State) (ball : Nat) : (s.release ball).sessions = s.sessions := rfl
@[simp] theorem State.release_udpOut (s : State) (ball : Nat) : (s.release ball).udpOut = s.udpOut := rfl
@[simp] theorem State.release_hostOut (s : State) (ball : Nat) : (s.release ball).hostOut = s.hostOut := rfl
@[simp] theorem State.release_ethOut (s : State) (ball : Nat) : (s.release ball).ethOut = s.ethOut := rfl
@[simp] theorem State.release_arp (s : State) (ball : Nat) : (s.release ball).arp = s.arp := rfl
@[simp] theorem State.release_mem (s : State) (ball : Nat) : (s.release ball).mem = s.mem := rfl
@[simp] theorem State.release_glaze (s : State) (ball : Nat) : (s.release ball).glaze = s.glaze := rfl
@[simp] theorem State.release_raised (s : State) (ball : Nat) : (s.release ball).raised = s.raised := rfl
@[simp] theorem State.release_tasks (s : State) (ball : Nat) : (s.release ball).tasks = s.tasks := rfl
@[simp] theorem State.release_holdEnds (s : State) (ball : Nat) : (s.release ball).holdEnds = s.holdEnds := rfl
@[simp] theorem State.release_maskSetAt (s : State) (ball : Nat) : (s.release ball).maskSetAt = s.maskSetAt := rfl
@[simp] theorem State.release_arrived (s : State) (ball : Nat) : (s.release ball).arrived = s.arrived := rfl
@[simp] theorem State.release_msix (s : State) (ball : Nat) : (s.release ball).msix = s.msix := rfl
@[simp] theorem State.release_wbuf (s : State) (ball : Nat) : (s.release ball).wbuf = s.wbuf := rfl
@[simp] theorem State.release_wring (s : State) (ball : Nat) : (s.release ball).wring = s.wring := rfl
@[simp] theorem State.release_wgap (s : State) (ball : Nat) : (s.release ball).wgap = s.wgap := rfl
@[simp] theorem State.release_faultTimes (s : State) (ball : Nat) : (s.release ball).faultTimes = s.faultTimes := rfl
@[simp] theorem State.release_fuses (s : State) (ball : Nat) : (s.release ball).fuses = s.fuses := rfl
@[simp] theorem State.release_boot (s : State) (ball : Nat) : (s.release ball).boot = s.boot := rfl
@[simp] theorem State.release_power (s : State) (ball : Nat) : (s.release ball).power = s.power := rfl
@[simp] theorem State.release_cores (s : State) (ball : Nat) : (s.release ball).cores = s.cores := rfl
@[simp] theorem State.release_coreFaults (s : State) (ball : Nat) : (s.release ball).coreFaults = s.coreFaults := rfl
@[simp] theorem State.release_wdog (s : State) (ball : Nat) : (s.release ball).wdog = s.wdog := rfl
@[simp] theorem State.release_hot (s : State) (ball : Nat) : (s.release ball).hot = s.hot := rfl
@[simp] theorem State.release_calRecs (s : State) (ball : Nat) : (s.release ball).calRecs = s.calRecs := rfl
@[simp] theorem State.release_gpioIn (s : State) (ball : Nat) : (s.release ball).gpioIn = s.gpioIn := rfl
@[simp] theorem State.release_pins (s : State) (ball : Nat) : (s.release ball).pins = terase s.pins ball := rfl
@[simp] theorem State.release_queues (s : State) (ball : Nat) : (s.release ball).queues = s.queues := rfl
@[simp] theorem State.release_drams (s : State) (ball : Nat) : (s.release ball).drams = s.drams := rfl
@[simp] theorem State.release_dmas (s : State) (ball : Nat) : (s.release ball).dmas = s.dmas := rfl
@[simp] theorem State.release_encs (s : State) (ball : Nat) : (s.release ball).encs = s.encs := rfl
@[simp] theorem State.release_wheel (s : State) (ball : Nat) : (s.release ball).wheel = s.wheel := rfl
@[simp] theorem State.release_gens (s : State) (ball : Nat) : (s.release ball).gens = s.gens := rfl
@[simp] theorem State.release_trigs (s : State) (ball : Nat) : (s.release ball).trigs = s.trigs := rfl
@[simp] theorem State.release_cmps (s : State) (ball : Nat) : (s.release ball).cmps = s.cmps := rfl
@[simp] theorem State.release_probes (s : State) (ball : Nat) : (s.release ball).probes = s.probes := rfl
@[simp] theorem State.release_mirs (s : State) (ball : Nat) : (s.release ball).mirs = s.mirs := rfl
@[simp] theorem State.release_cams (s : State) (ball : Nat) : (s.release ball).cams = s.cams := rfl
@[simp] theorem State.release_uplinks (s : State) (ball : Nat) : (s.release ball).uplinks = s.uplinks := rfl
@[simp] theorem State.release_ctxs (s : State) (ball : Nat) : (s.release ball).ctxs = s.ctxs := rfl
@[simp] theorem State.release_pipes (s : State) (ball : Nat) : (s.release ball).pipes = s.pipes := rfl
@[simp] theorem State.release_seam (s : State) (ball : Nat) : (s.release ball).seam = s.seam := rfl
@[simp] theorem State.release_coding (s : State) (ball : Nat) : (s.release ball).coding = s.coding := rfl
@[simp] theorem State.release_wins (s : State) (ball : Nat) : (s.release ball).wins = s.wins := rfl
@[simp] theorem State.release_views (s : State) (ball : Nat) : (s.release ball).views = s.views := rfl
@[simp] theorem State.release_zes (s : State) (ball : Nat) : (s.release ball).zes = s.zes := rfl
@[simp] theorem State.release_cropJobs (s : State) (ball : Nat) : (s.release ball).cropJobs = s.cropJobs := rfl
@[simp] theorem State.release_slip (s : State) (ball : Nat) : (s.release ball).slip = s.slip := rfl
@[simp] theorem State.release_bars (s : State) (ball : Nat) : (s.release ball).bars = s.bars := rfl
@[simp] theorem State.release_ports (s : State) (ball : Nat) : (s.release ball).ports = s.ports := rfl
@[simp] theorem State.release_heads (s : State) (ball : Nat) : (s.release ball).heads = s.heads := rfl
@[simp] theorem State.release_scan (s : State) (ball : Nat) : (s.release ball).scan = s.scan := rfl
@[simp] theorem State.release_gas (s : State) (ball : Nat) : (s.release ball).gas = s.gas := rfl
@[simp] theorem State.release_syncAt (s : State) (ball : Nat) : (s.release ball).syncAt = s.syncAt := rfl
@[simp] theorem State.release_umb (s : State) (ball : Nat) : (s.release ball).umb = s.umb := rfl
@[simp] theorem State.release_loop (s : State) (ball : Nat) : (s.release ball).loop = s.loop := rfl
@[simp] theorem State.release_skl (s : State) (ball : Nat) : (s.release ball).skl = s.skl := rfl
@[simp] theorem State.release_sync (s : State) (ball : Nat) : (s.release ball).sync = s.sync := rfl

/-! ### setCmp -/

@[simp] theorem State.setCmp_pending (s : State) (m : Nat) (c : Cmp) : (s.setCmp m c).pending = s.pending := rfl
@[simp] theorem State.setCmp_now (s : State) (m : Nat) (c : Cmp) : (s.setCmp m c).now = s.now := rfl
@[simp] theorem State.setCmp_timeBase (s : State) (m : Nat) (c : Cmp) : (s.setCmp m c).timeBase = s.timeBase := rfl
@[simp] theorem State.setCmp_timeC0 (s : State) (m : Nat) (c : Cmp) : (s.setCmp m c).timeC0 = s.timeC0 := rfl
@[simp] theorem State.setCmp_stateAt (s : State) (m : Nat) (c : Cmp) : (s.setCmp m c).stateAt = s.stateAt := rfl
@[simp] theorem State.setCmp_free (s : State) (m : Nat) (c : Cmp) : (s.setCmp m c).free = s.free := rfl
@[simp] theorem State.setCmp_regs (s : State) (m : Nat) (c : Cmp) : (s.setCmp m c).regs = s.regs := rfl
@[simp] theorem State.setCmp_shadow (s : State) (m : Nat) (c : Cmp) : (s.setCmp m c).shadow = s.shadow := rfl
@[simp] theorem State.setCmp_dom (s : State) (m : Nat) (c : Cmp) : (s.setCmp m c).dom = s.dom := rfl
@[simp] theorem State.setCmp_domLens (s : State) (m : Nat) (c : Cmp) : (s.setCmp m c).domLens = s.domLens := rfl
@[simp] theorem State.setCmp_shDom (s : State) (m : Nat) (c : Cmp) : (s.setCmp m c).shDom = s.shDom := rfl
@[simp] theorem State.setCmp_shDomLens (s : State) (m : Nat) (c : Cmp) : (s.setCmp m c).shDomLens = s.shDomLens := rfl
@[simp] theorem State.setCmp_own (s : State) (m : Nat) (c : Cmp) : (s.setCmp m c).own = s.own := rfl
@[simp] theorem State.setCmp_sherds (s : State) (m : Nat) (c : Cmp) : (s.setCmp m c).sherds = s.sherds := rfl
@[simp] theorem State.setCmp_commitBands (s : State) (m : Nat) (c : Cmp) : (s.setCmp m c).commitBands = s.commitBands := rfl
@[simp] theorem State.setCmp_readData (s : State) (m : Nat) (c : Cmp) : (s.setCmp m c).readData = s.readData := rfl
@[simp] theorem State.setCmp_chal (s : State) (m : Nat) (c : Cmp) : (s.setCmp m c).chal = s.chal := rfl
@[simp] theorem State.setCmp_xfers (s : State) (m : Nat) (c : Cmp) : (s.setCmp m c).xfers = s.xfers := rfl
@[simp] theorem State.setCmp_sessions (s : State) (m : Nat) (c : Cmp) : (s.setCmp m c).sessions = s.sessions := rfl
@[simp] theorem State.setCmp_udpOut (s : State) (m : Nat) (c : Cmp) : (s.setCmp m c).udpOut = s.udpOut := rfl
@[simp] theorem State.setCmp_hostOut (s : State) (m : Nat) (c : Cmp) : (s.setCmp m c).hostOut = s.hostOut := rfl
@[simp] theorem State.setCmp_ethOut (s : State) (m : Nat) (c : Cmp) : (s.setCmp m c).ethOut = s.ethOut := rfl
@[simp] theorem State.setCmp_arp (s : State) (m : Nat) (c : Cmp) : (s.setCmp m c).arp = s.arp := rfl
@[simp] theorem State.setCmp_mem (s : State) (m : Nat) (c : Cmp) : (s.setCmp m c).mem = s.mem := rfl
@[simp] theorem State.setCmp_glaze (s : State) (m : Nat) (c : Cmp) : (s.setCmp m c).glaze = s.glaze := rfl
@[simp] theorem State.setCmp_raised (s : State) (m : Nat) (c : Cmp) : (s.setCmp m c).raised = s.raised := rfl
@[simp] theorem State.setCmp_tasks (s : State) (m : Nat) (c : Cmp) : (s.setCmp m c).tasks = s.tasks := rfl
@[simp] theorem State.setCmp_holdEnds (s : State) (m : Nat) (c : Cmp) : (s.setCmp m c).holdEnds = s.holdEnds := rfl
@[simp] theorem State.setCmp_maskSetAt (s : State) (m : Nat) (c : Cmp) : (s.setCmp m c).maskSetAt = s.maskSetAt := rfl
@[simp] theorem State.setCmp_arrived (s : State) (m : Nat) (c : Cmp) : (s.setCmp m c).arrived = s.arrived := rfl
@[simp] theorem State.setCmp_msix (s : State) (m : Nat) (c : Cmp) : (s.setCmp m c).msix = s.msix := rfl
@[simp] theorem State.setCmp_wbuf (s : State) (m : Nat) (c : Cmp) : (s.setCmp m c).wbuf = s.wbuf := rfl
@[simp] theorem State.setCmp_wring (s : State) (m : Nat) (c : Cmp) : (s.setCmp m c).wring = s.wring := rfl
@[simp] theorem State.setCmp_wgap (s : State) (m : Nat) (c : Cmp) : (s.setCmp m c).wgap = s.wgap := rfl
@[simp] theorem State.setCmp_faultTimes (s : State) (m : Nat) (c : Cmp) : (s.setCmp m c).faultTimes = s.faultTimes := rfl
@[simp] theorem State.setCmp_fuses (s : State) (m : Nat) (c : Cmp) : (s.setCmp m c).fuses = s.fuses := rfl
@[simp] theorem State.setCmp_boot (s : State) (m : Nat) (c : Cmp) : (s.setCmp m c).boot = s.boot := rfl
@[simp] theorem State.setCmp_power (s : State) (m : Nat) (c : Cmp) : (s.setCmp m c).power = s.power := rfl
@[simp] theorem State.setCmp_cores (s : State) (m : Nat) (c : Cmp) : (s.setCmp m c).cores = s.cores := rfl
@[simp] theorem State.setCmp_coreFaults (s : State) (m : Nat) (c : Cmp) : (s.setCmp m c).coreFaults = s.coreFaults := rfl
@[simp] theorem State.setCmp_wdog (s : State) (m : Nat) (c : Cmp) : (s.setCmp m c).wdog = s.wdog := rfl
@[simp] theorem State.setCmp_hot (s : State) (m : Nat) (c : Cmp) : (s.setCmp m c).hot = s.hot := rfl
@[simp] theorem State.setCmp_calRecs (s : State) (m : Nat) (c : Cmp) : (s.setCmp m c).calRecs = s.calRecs := rfl
@[simp] theorem State.setCmp_gpioIn (s : State) (m : Nat) (c : Cmp) : (s.setCmp m c).gpioIn = s.gpioIn := rfl
@[simp] theorem State.setCmp_pins (s : State) (m : Nat) (c : Cmp) : (s.setCmp m c).pins = s.pins := rfl
@[simp] theorem State.setCmp_queues (s : State) (m : Nat) (c : Cmp) : (s.setCmp m c).queues = s.queues := rfl
@[simp] theorem State.setCmp_drams (s : State) (m : Nat) (c : Cmp) : (s.setCmp m c).drams = s.drams := rfl
@[simp] theorem State.setCmp_dmas (s : State) (m : Nat) (c : Cmp) : (s.setCmp m c).dmas = s.dmas := rfl
@[simp] theorem State.setCmp_encs (s : State) (m : Nat) (c : Cmp) : (s.setCmp m c).encs = s.encs := rfl
@[simp] theorem State.setCmp_wheel (s : State) (m : Nat) (c : Cmp) : (s.setCmp m c).wheel = s.wheel := rfl
@[simp] theorem State.setCmp_gens (s : State) (m : Nat) (c : Cmp) : (s.setCmp m c).gens = s.gens := rfl
@[simp] theorem State.setCmp_trigs (s : State) (m : Nat) (c : Cmp) : (s.setCmp m c).trigs = s.trigs := rfl
@[simp] theorem State.setCmp_cmps (s : State) (m : Nat) (c : Cmp) : (s.setCmp m c).cmps = tput s.cmps m c := rfl
@[simp] theorem State.setCmp_probes (s : State) (m : Nat) (c : Cmp) : (s.setCmp m c).probes = s.probes := rfl
@[simp] theorem State.setCmp_mirs (s : State) (m : Nat) (c : Cmp) : (s.setCmp m c).mirs = s.mirs := rfl
@[simp] theorem State.setCmp_cams (s : State) (m : Nat) (c : Cmp) : (s.setCmp m c).cams = s.cams := rfl
@[simp] theorem State.setCmp_uplinks (s : State) (m : Nat) (c : Cmp) : (s.setCmp m c).uplinks = s.uplinks := rfl
@[simp] theorem State.setCmp_ctxs (s : State) (m : Nat) (c : Cmp) : (s.setCmp m c).ctxs = s.ctxs := rfl
@[simp] theorem State.setCmp_pipes (s : State) (m : Nat) (c : Cmp) : (s.setCmp m c).pipes = s.pipes := rfl
@[simp] theorem State.setCmp_seam (s : State) (m : Nat) (c : Cmp) : (s.setCmp m c).seam = s.seam := rfl
@[simp] theorem State.setCmp_coding (s : State) (m : Nat) (c : Cmp) : (s.setCmp m c).coding = s.coding := rfl
@[simp] theorem State.setCmp_wins (s : State) (m : Nat) (c : Cmp) : (s.setCmp m c).wins = s.wins := rfl
@[simp] theorem State.setCmp_views (s : State) (m : Nat) (c : Cmp) : (s.setCmp m c).views = s.views := rfl
@[simp] theorem State.setCmp_zes (s : State) (m : Nat) (c : Cmp) : (s.setCmp m c).zes = s.zes := rfl
@[simp] theorem State.setCmp_cropJobs (s : State) (m : Nat) (c : Cmp) : (s.setCmp m c).cropJobs = s.cropJobs := rfl
@[simp] theorem State.setCmp_slip (s : State) (m : Nat) (c : Cmp) : (s.setCmp m c).slip = s.slip := rfl
@[simp] theorem State.setCmp_bars (s : State) (m : Nat) (c : Cmp) : (s.setCmp m c).bars = s.bars := rfl
@[simp] theorem State.setCmp_ports (s : State) (m : Nat) (c : Cmp) : (s.setCmp m c).ports = s.ports := rfl
@[simp] theorem State.setCmp_heads (s : State) (m : Nat) (c : Cmp) : (s.setCmp m c).heads = s.heads := rfl
@[simp] theorem State.setCmp_scan (s : State) (m : Nat) (c : Cmp) : (s.setCmp m c).scan = s.scan := rfl
@[simp] theorem State.setCmp_gas (s : State) (m : Nat) (c : Cmp) : (s.setCmp m c).gas = s.gas := rfl
@[simp] theorem State.setCmp_syncAt (s : State) (m : Nat) (c : Cmp) : (s.setCmp m c).syncAt = s.syncAt := rfl
@[simp] theorem State.setCmp_umb (s : State) (m : Nat) (c : Cmp) : (s.setCmp m c).umb = s.umb := rfl
@[simp] theorem State.setCmp_loop (s : State) (m : Nat) (c : Cmp) : (s.setCmp m c).loop = s.loop := rfl
@[simp] theorem State.setCmp_skl (s : State) (m : Nat) (c : Cmp) : (s.setCmp m c).skl = s.skl := rfl
@[simp] theorem State.setCmp_sync (s : State) (m : Nat) (c : Cmp) : (s.setCmp m c).sync = s.sync := rfl

/-! ### setEnc -/

@[simp] theorem State.setEnc_pending (s : State) (n : Nat) (e : Enc) : (s.setEnc n e).pending = s.pending := rfl
@[simp] theorem State.setEnc_now (s : State) (n : Nat) (e : Enc) : (s.setEnc n e).now = s.now := rfl
@[simp] theorem State.setEnc_timeBase (s : State) (n : Nat) (e : Enc) : (s.setEnc n e).timeBase = s.timeBase := rfl
@[simp] theorem State.setEnc_timeC0 (s : State) (n : Nat) (e : Enc) : (s.setEnc n e).timeC0 = s.timeC0 := rfl
@[simp] theorem State.setEnc_stateAt (s : State) (n : Nat) (e : Enc) : (s.setEnc n e).stateAt = s.stateAt := rfl
@[simp] theorem State.setEnc_free (s : State) (n : Nat) (e : Enc) : (s.setEnc n e).free = s.free := rfl
@[simp] theorem State.setEnc_regs (s : State) (n : Nat) (e : Enc) : (s.setEnc n e).regs = s.regs := rfl
@[simp] theorem State.setEnc_shadow (s : State) (n : Nat) (e : Enc) : (s.setEnc n e).shadow = s.shadow := rfl
@[simp] theorem State.setEnc_dom (s : State) (n : Nat) (e : Enc) : (s.setEnc n e).dom = s.dom := rfl
@[simp] theorem State.setEnc_domLens (s : State) (n : Nat) (e : Enc) : (s.setEnc n e).domLens = s.domLens := rfl
@[simp] theorem State.setEnc_shDom (s : State) (n : Nat) (e : Enc) : (s.setEnc n e).shDom = s.shDom := rfl
@[simp] theorem State.setEnc_shDomLens (s : State) (n : Nat) (e : Enc) : (s.setEnc n e).shDomLens = s.shDomLens := rfl
@[simp] theorem State.setEnc_own (s : State) (n : Nat) (e : Enc) : (s.setEnc n e).own = s.own := rfl
@[simp] theorem State.setEnc_sherds (s : State) (n : Nat) (e : Enc) : (s.setEnc n e).sherds = s.sherds := rfl
@[simp] theorem State.setEnc_commitBands (s : State) (n : Nat) (e : Enc) : (s.setEnc n e).commitBands = s.commitBands := rfl
@[simp] theorem State.setEnc_readData (s : State) (n : Nat) (e : Enc) : (s.setEnc n e).readData = s.readData := rfl
@[simp] theorem State.setEnc_chal (s : State) (n : Nat) (e : Enc) : (s.setEnc n e).chal = s.chal := rfl
@[simp] theorem State.setEnc_xfers (s : State) (n : Nat) (e : Enc) : (s.setEnc n e).xfers = s.xfers := rfl
@[simp] theorem State.setEnc_sessions (s : State) (n : Nat) (e : Enc) : (s.setEnc n e).sessions = s.sessions := rfl
@[simp] theorem State.setEnc_udpOut (s : State) (n : Nat) (e : Enc) : (s.setEnc n e).udpOut = s.udpOut := rfl
@[simp] theorem State.setEnc_hostOut (s : State) (n : Nat) (e : Enc) : (s.setEnc n e).hostOut = s.hostOut := rfl
@[simp] theorem State.setEnc_ethOut (s : State) (n : Nat) (e : Enc) : (s.setEnc n e).ethOut = s.ethOut := rfl
@[simp] theorem State.setEnc_arp (s : State) (n : Nat) (e : Enc) : (s.setEnc n e).arp = s.arp := rfl
@[simp] theorem State.setEnc_mem (s : State) (n : Nat) (e : Enc) : (s.setEnc n e).mem = s.mem := rfl
@[simp] theorem State.setEnc_glaze (s : State) (n : Nat) (e : Enc) : (s.setEnc n e).glaze = s.glaze := rfl
@[simp] theorem State.setEnc_raised (s : State) (n : Nat) (e : Enc) : (s.setEnc n e).raised = s.raised := rfl
@[simp] theorem State.setEnc_tasks (s : State) (n : Nat) (e : Enc) : (s.setEnc n e).tasks = s.tasks := rfl
@[simp] theorem State.setEnc_holdEnds (s : State) (n : Nat) (e : Enc) : (s.setEnc n e).holdEnds = s.holdEnds := rfl
@[simp] theorem State.setEnc_maskSetAt (s : State) (n : Nat) (e : Enc) : (s.setEnc n e).maskSetAt = s.maskSetAt := rfl
@[simp] theorem State.setEnc_arrived (s : State) (n : Nat) (e : Enc) : (s.setEnc n e).arrived = s.arrived := rfl
@[simp] theorem State.setEnc_msix (s : State) (n : Nat) (e : Enc) : (s.setEnc n e).msix = s.msix := rfl
@[simp] theorem State.setEnc_wbuf (s : State) (n : Nat) (e : Enc) : (s.setEnc n e).wbuf = s.wbuf := rfl
@[simp] theorem State.setEnc_wring (s : State) (n : Nat) (e : Enc) : (s.setEnc n e).wring = s.wring := rfl
@[simp] theorem State.setEnc_wgap (s : State) (n : Nat) (e : Enc) : (s.setEnc n e).wgap = s.wgap := rfl
@[simp] theorem State.setEnc_faultTimes (s : State) (n : Nat) (e : Enc) : (s.setEnc n e).faultTimes = s.faultTimes := rfl
@[simp] theorem State.setEnc_fuses (s : State) (n : Nat) (e : Enc) : (s.setEnc n e).fuses = s.fuses := rfl
@[simp] theorem State.setEnc_boot (s : State) (n : Nat) (e : Enc) : (s.setEnc n e).boot = s.boot := rfl
@[simp] theorem State.setEnc_power (s : State) (n : Nat) (e : Enc) : (s.setEnc n e).power = s.power := rfl
@[simp] theorem State.setEnc_cores (s : State) (n : Nat) (e : Enc) : (s.setEnc n e).cores = s.cores := rfl
@[simp] theorem State.setEnc_coreFaults (s : State) (n : Nat) (e : Enc) : (s.setEnc n e).coreFaults = s.coreFaults := rfl
@[simp] theorem State.setEnc_wdog (s : State) (n : Nat) (e : Enc) : (s.setEnc n e).wdog = s.wdog := rfl
@[simp] theorem State.setEnc_hot (s : State) (n : Nat) (e : Enc) : (s.setEnc n e).hot = s.hot := rfl
@[simp] theorem State.setEnc_calRecs (s : State) (n : Nat) (e : Enc) : (s.setEnc n e).calRecs = s.calRecs := rfl
@[simp] theorem State.setEnc_gpioIn (s : State) (n : Nat) (e : Enc) : (s.setEnc n e).gpioIn = s.gpioIn := rfl
@[simp] theorem State.setEnc_pins (s : State) (n : Nat) (e : Enc) : (s.setEnc n e).pins = s.pins := rfl
@[simp] theorem State.setEnc_queues (s : State) (n : Nat) (e : Enc) : (s.setEnc n e).queues = s.queues := rfl
@[simp] theorem State.setEnc_drams (s : State) (n : Nat) (e : Enc) : (s.setEnc n e).drams = s.drams := rfl
@[simp] theorem State.setEnc_dmas (s : State) (n : Nat) (e : Enc) : (s.setEnc n e).dmas = s.dmas := rfl
@[simp] theorem State.setEnc_encs (s : State) (n : Nat) (e : Enc) : (s.setEnc n e).encs = tput s.encs n e := rfl
@[simp] theorem State.setEnc_wheel (s : State) (n : Nat) (e : Enc) : (s.setEnc n e).wheel = s.wheel := rfl
@[simp] theorem State.setEnc_gens (s : State) (n : Nat) (e : Enc) : (s.setEnc n e).gens = s.gens := rfl
@[simp] theorem State.setEnc_trigs (s : State) (n : Nat) (e : Enc) : (s.setEnc n e).trigs = s.trigs := rfl
@[simp] theorem State.setEnc_cmps (s : State) (n : Nat) (e : Enc) : (s.setEnc n e).cmps = s.cmps := rfl
@[simp] theorem State.setEnc_probes (s : State) (n : Nat) (e : Enc) : (s.setEnc n e).probes = s.probes := rfl
@[simp] theorem State.setEnc_mirs (s : State) (n : Nat) (e : Enc) : (s.setEnc n e).mirs = s.mirs := rfl
@[simp] theorem State.setEnc_cams (s : State) (n : Nat) (e : Enc) : (s.setEnc n e).cams = s.cams := rfl
@[simp] theorem State.setEnc_uplinks (s : State) (n : Nat) (e : Enc) : (s.setEnc n e).uplinks = s.uplinks := rfl
@[simp] theorem State.setEnc_ctxs (s : State) (n : Nat) (e : Enc) : (s.setEnc n e).ctxs = s.ctxs := rfl
@[simp] theorem State.setEnc_pipes (s : State) (n : Nat) (e : Enc) : (s.setEnc n e).pipes = s.pipes := rfl
@[simp] theorem State.setEnc_seam (s : State) (n : Nat) (e : Enc) : (s.setEnc n e).seam = s.seam := rfl
@[simp] theorem State.setEnc_coding (s : State) (n : Nat) (e : Enc) : (s.setEnc n e).coding = s.coding := rfl
@[simp] theorem State.setEnc_wins (s : State) (n : Nat) (e : Enc) : (s.setEnc n e).wins = s.wins := rfl
@[simp] theorem State.setEnc_views (s : State) (n : Nat) (e : Enc) : (s.setEnc n e).views = s.views := rfl
@[simp] theorem State.setEnc_zes (s : State) (n : Nat) (e : Enc) : (s.setEnc n e).zes = s.zes := rfl
@[simp] theorem State.setEnc_cropJobs (s : State) (n : Nat) (e : Enc) : (s.setEnc n e).cropJobs = s.cropJobs := rfl
@[simp] theorem State.setEnc_slip (s : State) (n : Nat) (e : Enc) : (s.setEnc n e).slip = s.slip := rfl
@[simp] theorem State.setEnc_bars (s : State) (n : Nat) (e : Enc) : (s.setEnc n e).bars = s.bars := rfl
@[simp] theorem State.setEnc_ports (s : State) (n : Nat) (e : Enc) : (s.setEnc n e).ports = s.ports := rfl
@[simp] theorem State.setEnc_heads (s : State) (n : Nat) (e : Enc) : (s.setEnc n e).heads = s.heads := rfl
@[simp] theorem State.setEnc_scan (s : State) (n : Nat) (e : Enc) : (s.setEnc n e).scan = s.scan := rfl
@[simp] theorem State.setEnc_gas (s : State) (n : Nat) (e : Enc) : (s.setEnc n e).gas = s.gas := rfl
@[simp] theorem State.setEnc_syncAt (s : State) (n : Nat) (e : Enc) : (s.setEnc n e).syncAt = s.syncAt := rfl
@[simp] theorem State.setEnc_umb (s : State) (n : Nat) (e : Enc) : (s.setEnc n e).umb = s.umb := rfl
@[simp] theorem State.setEnc_loop (s : State) (n : Nat) (e : Enc) : (s.setEnc n e).loop = s.loop := rfl
@[simp] theorem State.setEnc_skl (s : State) (n : Nat) (e : Enc) : (s.setEnc n e).skl = s.skl := rfl
@[simp] theorem State.setEnc_sync (s : State) (n : Nat) (e : Enc) : (s.setEnc n e).sync = s.sync := rfl

/-! ### crossFix -/

@[simp] theorem State.crossFix_pending (s : State) : (s.crossFix).pending = s.pending := rfl
@[simp] theorem State.crossFix_now (s : State) : (s.crossFix).now = s.now := rfl
@[simp] theorem State.crossFix_timeBase (s : State) : (s.crossFix).timeBase = s.timeBase := rfl
@[simp] theorem State.crossFix_timeC0 (s : State) : (s.crossFix).timeC0 = s.timeC0 := rfl
@[simp] theorem State.crossFix_stateAt (s : State) : (s.crossFix).stateAt = s.stateAt := rfl
@[simp] theorem State.crossFix_free (s : State) : (s.crossFix).free = s.free := rfl
@[simp] theorem State.crossFix_regs (s : State) : (s.crossFix).regs = s.regs := rfl
@[simp] theorem State.crossFix_shadow (s : State) : (s.crossFix).shadow = s.shadow := rfl
@[simp] theorem State.crossFix_dom (s : State) : (s.crossFix).dom = s.dom := rfl
@[simp] theorem State.crossFix_domLens (s : State) : (s.crossFix).domLens = s.domLens := rfl
@[simp] theorem State.crossFix_shDom (s : State) : (s.crossFix).shDom = s.shDom := rfl
@[simp] theorem State.crossFix_shDomLens (s : State) : (s.crossFix).shDomLens = s.shDomLens := rfl
@[simp] theorem State.crossFix_own (s : State) : (s.crossFix).own = s.own := rfl
@[simp] theorem State.crossFix_sherds (s : State) : (s.crossFix).sherds = s.sherds := rfl
@[simp] theorem State.crossFix_commitBands (s : State) : (s.crossFix).commitBands = s.commitBands := rfl
@[simp] theorem State.crossFix_readData (s : State) : (s.crossFix).readData = s.readData := rfl
@[simp] theorem State.crossFix_chal (s : State) : (s.crossFix).chal = s.chal := rfl
@[simp] theorem State.crossFix_xfers (s : State) : (s.crossFix).xfers = s.xfers := rfl
@[simp] theorem State.crossFix_sessions (s : State) : (s.crossFix).sessions = s.sessions := rfl
@[simp] theorem State.crossFix_udpOut (s : State) : (s.crossFix).udpOut = s.udpOut := rfl
@[simp] theorem State.crossFix_hostOut (s : State) : (s.crossFix).hostOut = s.hostOut := rfl
@[simp] theorem State.crossFix_ethOut (s : State) : (s.crossFix).ethOut = s.ethOut := rfl
@[simp] theorem State.crossFix_arp (s : State) : (s.crossFix).arp = s.arp := rfl
@[simp] theorem State.crossFix_mem (s : State) : (s.crossFix).mem = s.mem := rfl
@[simp] theorem State.crossFix_glaze (s : State) : (s.crossFix).glaze = s.glaze := rfl
@[simp] theorem State.crossFix_raised (s : State) : (s.crossFix).raised = s.raised := rfl
@[simp] theorem State.crossFix_tasks (s : State) : (s.crossFix).tasks = s.tasks := rfl
@[simp] theorem State.crossFix_holdEnds (s : State) : (s.crossFix).holdEnds = s.holdEnds := rfl
@[simp] theorem State.crossFix_maskSetAt (s : State) : (s.crossFix).maskSetAt = s.maskSetAt := rfl
@[simp] theorem State.crossFix_arrived (s : State) : (s.crossFix).arrived = s.arrived := rfl
@[simp] theorem State.crossFix_msix (s : State) : (s.crossFix).msix = s.msix := rfl
@[simp] theorem State.crossFix_wbuf (s : State) : (s.crossFix).wbuf = s.wbuf := rfl
@[simp] theorem State.crossFix_wring (s : State) : (s.crossFix).wring = s.wring := rfl
@[simp] theorem State.crossFix_wgap (s : State) : (s.crossFix).wgap = s.wgap := rfl
@[simp] theorem State.crossFix_faultTimes (s : State) : (s.crossFix).faultTimes = s.faultTimes := rfl
@[simp] theorem State.crossFix_fuses (s : State) : (s.crossFix).fuses = s.fuses := rfl
@[simp] theorem State.crossFix_boot (s : State) : (s.crossFix).boot = s.boot := rfl
@[simp] theorem State.crossFix_power (s : State) : (s.crossFix).power = s.power := rfl
@[simp] theorem State.crossFix_cores (s : State) : (s.crossFix).cores = s.cores := rfl
@[simp] theorem State.crossFix_coreFaults (s : State) : (s.crossFix).coreFaults = s.coreFaults := rfl
@[simp] theorem State.crossFix_wdog (s : State) : (s.crossFix).wdog = s.wdog := rfl
@[simp] theorem State.crossFix_hot (s : State) : (s.crossFix).hot = s.hot := rfl
@[simp] theorem State.crossFix_calRecs (s : State) : (s.crossFix).calRecs = s.calRecs := rfl
@[simp] theorem State.crossFix_gpioIn (s : State) : (s.crossFix).gpioIn = s.gpioIn := rfl
@[simp] theorem State.crossFix_pins (s : State) : (s.crossFix).pins = s.pins := rfl
@[simp] theorem State.crossFix_queues (s : State) : (s.crossFix).queues = s.queues := rfl
@[simp] theorem State.crossFix_drams (s : State) : (s.crossFix).drams = s.drams := rfl
@[simp] theorem State.crossFix_dmas (s : State) : (s.crossFix).dmas = s.dmas := rfl
@[simp] theorem State.crossFix_encs (s : State) : (s.crossFix).encs = s.encs := rfl
@[simp] theorem State.crossFix_gens (s : State) : (s.crossFix).gens = s.gens := rfl
@[simp] theorem State.crossFix_trigs (s : State) : (s.crossFix).trigs = s.trigs := rfl
@[simp] theorem State.crossFix_cmps (s : State) : (s.crossFix).cmps = s.cmps := rfl
@[simp] theorem State.crossFix_probes (s : State) : (s.crossFix).probes = s.probes := rfl
@[simp] theorem State.crossFix_mirs (s : State) : (s.crossFix).mirs = s.mirs := rfl
@[simp] theorem State.crossFix_cams (s : State) : (s.crossFix).cams = s.cams := rfl
@[simp] theorem State.crossFix_uplinks (s : State) : (s.crossFix).uplinks = s.uplinks := rfl
@[simp] theorem State.crossFix_ctxs (s : State) : (s.crossFix).ctxs = s.ctxs := rfl
@[simp] theorem State.crossFix_pipes (s : State) : (s.crossFix).pipes = s.pipes := rfl
@[simp] theorem State.crossFix_seam (s : State) : (s.crossFix).seam = s.seam := rfl
@[simp] theorem State.crossFix_coding (s : State) : (s.crossFix).coding = s.coding := rfl
@[simp] theorem State.crossFix_wins (s : State) : (s.crossFix).wins = s.wins := rfl
@[simp] theorem State.crossFix_views (s : State) : (s.crossFix).views = s.views := rfl
@[simp] theorem State.crossFix_zes (s : State) : (s.crossFix).zes = s.zes := rfl
@[simp] theorem State.crossFix_cropJobs (s : State) : (s.crossFix).cropJobs = s.cropJobs := rfl
@[simp] theorem State.crossFix_slip (s : State) : (s.crossFix).slip = s.slip := rfl
@[simp] theorem State.crossFix_bars (s : State) : (s.crossFix).bars = s.bars := rfl
@[simp] theorem State.crossFix_ports (s : State) : (s.crossFix).ports = s.ports := rfl
@[simp] theorem State.crossFix_heads (s : State) : (s.crossFix).heads = s.heads := rfl
@[simp] theorem State.crossFix_scan (s : State) : (s.crossFix).scan = s.scan := rfl
@[simp] theorem State.crossFix_gas (s : State) : (s.crossFix).gas = s.gas := rfl
@[simp] theorem State.crossFix_syncAt (s : State) : (s.crossFix).syncAt = s.syncAt := rfl
@[simp] theorem State.crossFix_umb (s : State) : (s.crossFix).umb = s.umb := rfl
@[simp] theorem State.crossFix_loop (s : State) : (s.crossFix).loop = s.loop := rfl
@[simp] theorem State.crossFix_skl (s : State) : (s.crossFix).skl = s.skl := rfl
@[simp] theorem State.crossFix_sync (s : State) : (s.crossFix).sync = s.sync := rfl

/-! ### setCtx -/

@[simp] theorem State.setCtx_pending (s : State) (n : Nat) (c : Ctx) : (s.setCtx n c).pending = s.pending := rfl
@[simp] theorem State.setCtx_now (s : State) (n : Nat) (c : Ctx) : (s.setCtx n c).now = s.now := rfl
@[simp] theorem State.setCtx_timeBase (s : State) (n : Nat) (c : Ctx) : (s.setCtx n c).timeBase = s.timeBase := rfl
@[simp] theorem State.setCtx_timeC0 (s : State) (n : Nat) (c : Ctx) : (s.setCtx n c).timeC0 = s.timeC0 := rfl
@[simp] theorem State.setCtx_stateAt (s : State) (n : Nat) (c : Ctx) : (s.setCtx n c).stateAt = s.stateAt := rfl
@[simp] theorem State.setCtx_free (s : State) (n : Nat) (c : Ctx) : (s.setCtx n c).free = s.free := rfl
@[simp] theorem State.setCtx_regs (s : State) (n : Nat) (c : Ctx) : (s.setCtx n c).regs = s.regs := rfl
@[simp] theorem State.setCtx_shadow (s : State) (n : Nat) (c : Ctx) : (s.setCtx n c).shadow = s.shadow := rfl
@[simp] theorem State.setCtx_dom (s : State) (n : Nat) (c : Ctx) : (s.setCtx n c).dom = s.dom := rfl
@[simp] theorem State.setCtx_domLens (s : State) (n : Nat) (c : Ctx) : (s.setCtx n c).domLens = s.domLens := rfl
@[simp] theorem State.setCtx_shDom (s : State) (n : Nat) (c : Ctx) : (s.setCtx n c).shDom = s.shDom := rfl
@[simp] theorem State.setCtx_shDomLens (s : State) (n : Nat) (c : Ctx) : (s.setCtx n c).shDomLens = s.shDomLens := rfl
@[simp] theorem State.setCtx_own (s : State) (n : Nat) (c : Ctx) : (s.setCtx n c).own = s.own := rfl
@[simp] theorem State.setCtx_sherds (s : State) (n : Nat) (c : Ctx) : (s.setCtx n c).sherds = s.sherds := rfl
@[simp] theorem State.setCtx_commitBands (s : State) (n : Nat) (c : Ctx) : (s.setCtx n c).commitBands = s.commitBands := rfl
@[simp] theorem State.setCtx_readData (s : State) (n : Nat) (c : Ctx) : (s.setCtx n c).readData = s.readData := rfl
@[simp] theorem State.setCtx_chal (s : State) (n : Nat) (c : Ctx) : (s.setCtx n c).chal = s.chal := rfl
@[simp] theorem State.setCtx_xfers (s : State) (n : Nat) (c : Ctx) : (s.setCtx n c).xfers = s.xfers := rfl
@[simp] theorem State.setCtx_sessions (s : State) (n : Nat) (c : Ctx) : (s.setCtx n c).sessions = s.sessions := rfl
@[simp] theorem State.setCtx_udpOut (s : State) (n : Nat) (c : Ctx) : (s.setCtx n c).udpOut = s.udpOut := rfl
@[simp] theorem State.setCtx_hostOut (s : State) (n : Nat) (c : Ctx) : (s.setCtx n c).hostOut = s.hostOut := rfl
@[simp] theorem State.setCtx_ethOut (s : State) (n : Nat) (c : Ctx) : (s.setCtx n c).ethOut = s.ethOut := rfl
@[simp] theorem State.setCtx_arp (s : State) (n : Nat) (c : Ctx) : (s.setCtx n c).arp = s.arp := rfl
@[simp] theorem State.setCtx_mem (s : State) (n : Nat) (c : Ctx) : (s.setCtx n c).mem = s.mem := rfl
@[simp] theorem State.setCtx_glaze (s : State) (n : Nat) (c : Ctx) : (s.setCtx n c).glaze = s.glaze := rfl
@[simp] theorem State.setCtx_raised (s : State) (n : Nat) (c : Ctx) : (s.setCtx n c).raised = s.raised := rfl
@[simp] theorem State.setCtx_tasks (s : State) (n : Nat) (c : Ctx) : (s.setCtx n c).tasks = s.tasks := rfl
@[simp] theorem State.setCtx_holdEnds (s : State) (n : Nat) (c : Ctx) : (s.setCtx n c).holdEnds = s.holdEnds := rfl
@[simp] theorem State.setCtx_maskSetAt (s : State) (n : Nat) (c : Ctx) : (s.setCtx n c).maskSetAt = s.maskSetAt := rfl
@[simp] theorem State.setCtx_arrived (s : State) (n : Nat) (c : Ctx) : (s.setCtx n c).arrived = s.arrived := rfl
@[simp] theorem State.setCtx_msix (s : State) (n : Nat) (c : Ctx) : (s.setCtx n c).msix = s.msix := rfl
@[simp] theorem State.setCtx_wbuf (s : State) (n : Nat) (c : Ctx) : (s.setCtx n c).wbuf = s.wbuf := rfl
@[simp] theorem State.setCtx_wring (s : State) (n : Nat) (c : Ctx) : (s.setCtx n c).wring = s.wring := rfl
@[simp] theorem State.setCtx_wgap (s : State) (n : Nat) (c : Ctx) : (s.setCtx n c).wgap = s.wgap := rfl
@[simp] theorem State.setCtx_faultTimes (s : State) (n : Nat) (c : Ctx) : (s.setCtx n c).faultTimes = s.faultTimes := rfl
@[simp] theorem State.setCtx_fuses (s : State) (n : Nat) (c : Ctx) : (s.setCtx n c).fuses = s.fuses := rfl
@[simp] theorem State.setCtx_boot (s : State) (n : Nat) (c : Ctx) : (s.setCtx n c).boot = s.boot := rfl
@[simp] theorem State.setCtx_power (s : State) (n : Nat) (c : Ctx) : (s.setCtx n c).power = s.power := rfl
@[simp] theorem State.setCtx_cores (s : State) (n : Nat) (c : Ctx) : (s.setCtx n c).cores = s.cores := rfl
@[simp] theorem State.setCtx_coreFaults (s : State) (n : Nat) (c : Ctx) : (s.setCtx n c).coreFaults = s.coreFaults := rfl
@[simp] theorem State.setCtx_wdog (s : State) (n : Nat) (c : Ctx) : (s.setCtx n c).wdog = s.wdog := rfl
@[simp] theorem State.setCtx_hot (s : State) (n : Nat) (c : Ctx) : (s.setCtx n c).hot = s.hot := rfl
@[simp] theorem State.setCtx_calRecs (s : State) (n : Nat) (c : Ctx) : (s.setCtx n c).calRecs = s.calRecs := rfl
@[simp] theorem State.setCtx_gpioIn (s : State) (n : Nat) (c : Ctx) : (s.setCtx n c).gpioIn = s.gpioIn := rfl
@[simp] theorem State.setCtx_pins (s : State) (n : Nat) (c : Ctx) : (s.setCtx n c).pins = s.pins := rfl
@[simp] theorem State.setCtx_queues (s : State) (n : Nat) (c : Ctx) : (s.setCtx n c).queues = s.queues := rfl
@[simp] theorem State.setCtx_drams (s : State) (n : Nat) (c : Ctx) : (s.setCtx n c).drams = s.drams := rfl
@[simp] theorem State.setCtx_dmas (s : State) (n : Nat) (c : Ctx) : (s.setCtx n c).dmas = s.dmas := rfl
@[simp] theorem State.setCtx_encs (s : State) (n : Nat) (c : Ctx) : (s.setCtx n c).encs = s.encs := rfl
@[simp] theorem State.setCtx_wheel (s : State) (n : Nat) (c : Ctx) : (s.setCtx n c).wheel = s.wheel := rfl
@[simp] theorem State.setCtx_gens (s : State) (n : Nat) (c : Ctx) : (s.setCtx n c).gens = s.gens := rfl
@[simp] theorem State.setCtx_trigs (s : State) (n : Nat) (c : Ctx) : (s.setCtx n c).trigs = s.trigs := rfl
@[simp] theorem State.setCtx_cmps (s : State) (n : Nat) (c : Ctx) : (s.setCtx n c).cmps = s.cmps := rfl
@[simp] theorem State.setCtx_probes (s : State) (n : Nat) (c : Ctx) : (s.setCtx n c).probes = s.probes := rfl
@[simp] theorem State.setCtx_mirs (s : State) (n : Nat) (c : Ctx) : (s.setCtx n c).mirs = s.mirs := rfl
@[simp] theorem State.setCtx_cams (s : State) (n : Nat) (c : Ctx) : (s.setCtx n c).cams = s.cams := rfl
@[simp] theorem State.setCtx_uplinks (s : State) (n : Nat) (c : Ctx) : (s.setCtx n c).uplinks = s.uplinks := rfl
@[simp] theorem State.setCtx_ctxs (s : State) (n : Nat) (c : Ctx) : (s.setCtx n c).ctxs = tput s.ctxs n c := rfl
@[simp] theorem State.setCtx_pipes (s : State) (n : Nat) (c : Ctx) : (s.setCtx n c).pipes = s.pipes := rfl
@[simp] theorem State.setCtx_seam (s : State) (n : Nat) (c : Ctx) : (s.setCtx n c).seam = s.seam := rfl
@[simp] theorem State.setCtx_coding (s : State) (n : Nat) (c : Ctx) : (s.setCtx n c).coding = s.coding := rfl
@[simp] theorem State.setCtx_wins (s : State) (n : Nat) (c : Ctx) : (s.setCtx n c).wins = s.wins := rfl
@[simp] theorem State.setCtx_views (s : State) (n : Nat) (c : Ctx) : (s.setCtx n c).views = s.views := rfl
@[simp] theorem State.setCtx_zes (s : State) (n : Nat) (c : Ctx) : (s.setCtx n c).zes = s.zes := rfl
@[simp] theorem State.setCtx_cropJobs (s : State) (n : Nat) (c : Ctx) : (s.setCtx n c).cropJobs = s.cropJobs := rfl
@[simp] theorem State.setCtx_slip (s : State) (n : Nat) (c : Ctx) : (s.setCtx n c).slip = s.slip := rfl
@[simp] theorem State.setCtx_bars (s : State) (n : Nat) (c : Ctx) : (s.setCtx n c).bars = s.bars := rfl
@[simp] theorem State.setCtx_ports (s : State) (n : Nat) (c : Ctx) : (s.setCtx n c).ports = s.ports := rfl
@[simp] theorem State.setCtx_heads (s : State) (n : Nat) (c : Ctx) : (s.setCtx n c).heads = s.heads := rfl
@[simp] theorem State.setCtx_scan (s : State) (n : Nat) (c : Ctx) : (s.setCtx n c).scan = s.scan := rfl
@[simp] theorem State.setCtx_gas (s : State) (n : Nat) (c : Ctx) : (s.setCtx n c).gas = s.gas := rfl
@[simp] theorem State.setCtx_syncAt (s : State) (n : Nat) (c : Ctx) : (s.setCtx n c).syncAt = s.syncAt := rfl
@[simp] theorem State.setCtx_umb (s : State) (n : Nat) (c : Ctx) : (s.setCtx n c).umb = s.umb := rfl
@[simp] theorem State.setCtx_loop (s : State) (n : Nat) (c : Ctx) : (s.setCtx n c).loop = s.loop := rfl
@[simp] theorem State.setCtx_skl (s : State) (n : Nat) (c : Ctx) : (s.setCtx n c).skl = s.skl := rfl
@[simp] theorem State.setCtx_sync (s : State) (n : Nat) (c : Ctx) : (s.setCtx n c).sync = s.sync := rfl

/-! ### scanUpd -/

@[simp] theorem State.scanUpd_pending (s : State) (p : Nat) (f : ScanPort → ScanPort) : (s.scanUpd p f).pending = s.pending := rfl
@[simp] theorem State.scanUpd_now (s : State) (p : Nat) (f : ScanPort → ScanPort) : (s.scanUpd p f).now = s.now := rfl
@[simp] theorem State.scanUpd_timeBase (s : State) (p : Nat) (f : ScanPort → ScanPort) : (s.scanUpd p f).timeBase = s.timeBase := rfl
@[simp] theorem State.scanUpd_timeC0 (s : State) (p : Nat) (f : ScanPort → ScanPort) : (s.scanUpd p f).timeC0 = s.timeC0 := rfl
@[simp] theorem State.scanUpd_stateAt (s : State) (p : Nat) (f : ScanPort → ScanPort) : (s.scanUpd p f).stateAt = s.stateAt := rfl
@[simp] theorem State.scanUpd_free (s : State) (p : Nat) (f : ScanPort → ScanPort) : (s.scanUpd p f).free = s.free := rfl
@[simp] theorem State.scanUpd_regs (s : State) (p : Nat) (f : ScanPort → ScanPort) : (s.scanUpd p f).regs = s.regs := rfl
@[simp] theorem State.scanUpd_shadow (s : State) (p : Nat) (f : ScanPort → ScanPort) : (s.scanUpd p f).shadow = s.shadow := rfl
@[simp] theorem State.scanUpd_dom (s : State) (p : Nat) (f : ScanPort → ScanPort) : (s.scanUpd p f).dom = s.dom := rfl
@[simp] theorem State.scanUpd_domLens (s : State) (p : Nat) (f : ScanPort → ScanPort) : (s.scanUpd p f).domLens = s.domLens := rfl
@[simp] theorem State.scanUpd_shDom (s : State) (p : Nat) (f : ScanPort → ScanPort) : (s.scanUpd p f).shDom = s.shDom := rfl
@[simp] theorem State.scanUpd_shDomLens (s : State) (p : Nat) (f : ScanPort → ScanPort) : (s.scanUpd p f).shDomLens = s.shDomLens := rfl
@[simp] theorem State.scanUpd_own (s : State) (p : Nat) (f : ScanPort → ScanPort) : (s.scanUpd p f).own = s.own := rfl
@[simp] theorem State.scanUpd_sherds (s : State) (p : Nat) (f : ScanPort → ScanPort) : (s.scanUpd p f).sherds = s.sherds := rfl
@[simp] theorem State.scanUpd_commitBands (s : State) (p : Nat) (f : ScanPort → ScanPort) : (s.scanUpd p f).commitBands = s.commitBands := rfl
@[simp] theorem State.scanUpd_readData (s : State) (p : Nat) (f : ScanPort → ScanPort) : (s.scanUpd p f).readData = s.readData := rfl
@[simp] theorem State.scanUpd_chal (s : State) (p : Nat) (f : ScanPort → ScanPort) : (s.scanUpd p f).chal = s.chal := rfl
@[simp] theorem State.scanUpd_xfers (s : State) (p : Nat) (f : ScanPort → ScanPort) : (s.scanUpd p f).xfers = s.xfers := rfl
@[simp] theorem State.scanUpd_sessions (s : State) (p : Nat) (f : ScanPort → ScanPort) : (s.scanUpd p f).sessions = s.sessions := rfl
@[simp] theorem State.scanUpd_udpOut (s : State) (p : Nat) (f : ScanPort → ScanPort) : (s.scanUpd p f).udpOut = s.udpOut := rfl
@[simp] theorem State.scanUpd_hostOut (s : State) (p : Nat) (f : ScanPort → ScanPort) : (s.scanUpd p f).hostOut = s.hostOut := rfl
@[simp] theorem State.scanUpd_ethOut (s : State) (p : Nat) (f : ScanPort → ScanPort) : (s.scanUpd p f).ethOut = s.ethOut := rfl
@[simp] theorem State.scanUpd_arp (s : State) (p : Nat) (f : ScanPort → ScanPort) : (s.scanUpd p f).arp = s.arp := rfl
@[simp] theorem State.scanUpd_mem (s : State) (p : Nat) (f : ScanPort → ScanPort) : (s.scanUpd p f).mem = s.mem := rfl
@[simp] theorem State.scanUpd_glaze (s : State) (p : Nat) (f : ScanPort → ScanPort) : (s.scanUpd p f).glaze = s.glaze := rfl
@[simp] theorem State.scanUpd_raised (s : State) (p : Nat) (f : ScanPort → ScanPort) : (s.scanUpd p f).raised = s.raised := rfl
@[simp] theorem State.scanUpd_tasks (s : State) (p : Nat) (f : ScanPort → ScanPort) : (s.scanUpd p f).tasks = s.tasks := rfl
@[simp] theorem State.scanUpd_holdEnds (s : State) (p : Nat) (f : ScanPort → ScanPort) : (s.scanUpd p f).holdEnds = s.holdEnds := rfl
@[simp] theorem State.scanUpd_maskSetAt (s : State) (p : Nat) (f : ScanPort → ScanPort) : (s.scanUpd p f).maskSetAt = s.maskSetAt := rfl
@[simp] theorem State.scanUpd_arrived (s : State) (p : Nat) (f : ScanPort → ScanPort) : (s.scanUpd p f).arrived = s.arrived := rfl
@[simp] theorem State.scanUpd_msix (s : State) (p : Nat) (f : ScanPort → ScanPort) : (s.scanUpd p f).msix = s.msix := rfl
@[simp] theorem State.scanUpd_wbuf (s : State) (p : Nat) (f : ScanPort → ScanPort) : (s.scanUpd p f).wbuf = s.wbuf := rfl
@[simp] theorem State.scanUpd_wring (s : State) (p : Nat) (f : ScanPort → ScanPort) : (s.scanUpd p f).wring = s.wring := rfl
@[simp] theorem State.scanUpd_wgap (s : State) (p : Nat) (f : ScanPort → ScanPort) : (s.scanUpd p f).wgap = s.wgap := rfl
@[simp] theorem State.scanUpd_faultTimes (s : State) (p : Nat) (f : ScanPort → ScanPort) : (s.scanUpd p f).faultTimes = s.faultTimes := rfl
@[simp] theorem State.scanUpd_fuses (s : State) (p : Nat) (f : ScanPort → ScanPort) : (s.scanUpd p f).fuses = s.fuses := rfl
@[simp] theorem State.scanUpd_boot (s : State) (p : Nat) (f : ScanPort → ScanPort) : (s.scanUpd p f).boot = s.boot := rfl
@[simp] theorem State.scanUpd_power (s : State) (p : Nat) (f : ScanPort → ScanPort) : (s.scanUpd p f).power = s.power := rfl
@[simp] theorem State.scanUpd_cores (s : State) (p : Nat) (f : ScanPort → ScanPort) : (s.scanUpd p f).cores = s.cores := rfl
@[simp] theorem State.scanUpd_coreFaults (s : State) (p : Nat) (f : ScanPort → ScanPort) : (s.scanUpd p f).coreFaults = s.coreFaults := rfl
@[simp] theorem State.scanUpd_wdog (s : State) (p : Nat) (f : ScanPort → ScanPort) : (s.scanUpd p f).wdog = s.wdog := rfl
@[simp] theorem State.scanUpd_hot (s : State) (p : Nat) (f : ScanPort → ScanPort) : (s.scanUpd p f).hot = s.hot := rfl
@[simp] theorem State.scanUpd_calRecs (s : State) (p : Nat) (f : ScanPort → ScanPort) : (s.scanUpd p f).calRecs = s.calRecs := rfl
@[simp] theorem State.scanUpd_gpioIn (s : State) (p : Nat) (f : ScanPort → ScanPort) : (s.scanUpd p f).gpioIn = s.gpioIn := rfl
@[simp] theorem State.scanUpd_pins (s : State) (p : Nat) (f : ScanPort → ScanPort) : (s.scanUpd p f).pins = s.pins := rfl
@[simp] theorem State.scanUpd_queues (s : State) (p : Nat) (f : ScanPort → ScanPort) : (s.scanUpd p f).queues = s.queues := rfl
@[simp] theorem State.scanUpd_drams (s : State) (p : Nat) (f : ScanPort → ScanPort) : (s.scanUpd p f).drams = s.drams := rfl
@[simp] theorem State.scanUpd_dmas (s : State) (p : Nat) (f : ScanPort → ScanPort) : (s.scanUpd p f).dmas = s.dmas := rfl
@[simp] theorem State.scanUpd_encs (s : State) (p : Nat) (f : ScanPort → ScanPort) : (s.scanUpd p f).encs = s.encs := rfl
@[simp] theorem State.scanUpd_wheel (s : State) (p : Nat) (f : ScanPort → ScanPort) : (s.scanUpd p f).wheel = s.wheel := rfl
@[simp] theorem State.scanUpd_gens (s : State) (p : Nat) (f : ScanPort → ScanPort) : (s.scanUpd p f).gens = s.gens := rfl
@[simp] theorem State.scanUpd_trigs (s : State) (p : Nat) (f : ScanPort → ScanPort) : (s.scanUpd p f).trigs = s.trigs := rfl
@[simp] theorem State.scanUpd_cmps (s : State) (p : Nat) (f : ScanPort → ScanPort) : (s.scanUpd p f).cmps = s.cmps := rfl
@[simp] theorem State.scanUpd_probes (s : State) (p : Nat) (f : ScanPort → ScanPort) : (s.scanUpd p f).probes = s.probes := rfl
@[simp] theorem State.scanUpd_mirs (s : State) (p : Nat) (f : ScanPort → ScanPort) : (s.scanUpd p f).mirs = s.mirs := rfl
@[simp] theorem State.scanUpd_cams (s : State) (p : Nat) (f : ScanPort → ScanPort) : (s.scanUpd p f).cams = s.cams := rfl
@[simp] theorem State.scanUpd_uplinks (s : State) (p : Nat) (f : ScanPort → ScanPort) : (s.scanUpd p f).uplinks = s.uplinks := rfl
@[simp] theorem State.scanUpd_ctxs (s : State) (p : Nat) (f : ScanPort → ScanPort) : (s.scanUpd p f).ctxs = s.ctxs := rfl
@[simp] theorem State.scanUpd_pipes (s : State) (p : Nat) (f : ScanPort → ScanPort) : (s.scanUpd p f).pipes = s.pipes := rfl
@[simp] theorem State.scanUpd_seam (s : State) (p : Nat) (f : ScanPort → ScanPort) : (s.scanUpd p f).seam = s.seam := rfl
@[simp] theorem State.scanUpd_coding (s : State) (p : Nat) (f : ScanPort → ScanPort) : (s.scanUpd p f).coding = s.coding := rfl
@[simp] theorem State.scanUpd_wins (s : State) (p : Nat) (f : ScanPort → ScanPort) : (s.scanUpd p f).wins = s.wins := rfl
@[simp] theorem State.scanUpd_views (s : State) (p : Nat) (f : ScanPort → ScanPort) : (s.scanUpd p f).views = s.views := rfl
@[simp] theorem State.scanUpd_zes (s : State) (p : Nat) (f : ScanPort → ScanPort) : (s.scanUpd p f).zes = s.zes := rfl
@[simp] theorem State.scanUpd_cropJobs (s : State) (p : Nat) (f : ScanPort → ScanPort) : (s.scanUpd p f).cropJobs = s.cropJobs := rfl
@[simp] theorem State.scanUpd_slip (s : State) (p : Nat) (f : ScanPort → ScanPort) : (s.scanUpd p f).slip = s.slip := rfl
@[simp] theorem State.scanUpd_bars (s : State) (p : Nat) (f : ScanPort → ScanPort) : (s.scanUpd p f).bars = s.bars := rfl
@[simp] theorem State.scanUpd_ports (s : State) (p : Nat) (f : ScanPort → ScanPort) : (s.scanUpd p f).ports = s.ports := rfl
@[simp] theorem State.scanUpd_heads (s : State) (p : Nat) (f : ScanPort → ScanPort) : (s.scanUpd p f).heads = s.heads := rfl
@[simp] theorem State.scanUpd_scan (s : State) (p : Nat) (f : ScanPort → ScanPort) : (s.scanUpd p f).scan = s.scan.map fun x => if x.port = p then f x else x := rfl
@[simp] theorem State.scanUpd_gas (s : State) (p : Nat) (f : ScanPort → ScanPort) : (s.scanUpd p f).gas = s.gas := rfl
@[simp] theorem State.scanUpd_syncAt (s : State) (p : Nat) (f : ScanPort → ScanPort) : (s.scanUpd p f).syncAt = s.syncAt := rfl
@[simp] theorem State.scanUpd_umb (s : State) (p : Nat) (f : ScanPort → ScanPort) : (s.scanUpd p f).umb = s.umb := rfl
@[simp] theorem State.scanUpd_loop (s : State) (p : Nat) (f : ScanPort → ScanPort) : (s.scanUpd p f).loop = s.loop := rfl
@[simp] theorem State.scanUpd_skl (s : State) (p : Nat) (f : ScanPort → ScanPort) : (s.scanUpd p f).skl = s.skl := rfl
@[simp] theorem State.scanUpd_sync (s : State) (p : Nat) (f : ScanPort → ScanPort) : (s.scanUpd p f).sync = s.sync := rfl

/-! ### setWin -/

@[simp] theorem State.setWin_pending (s : State) (w : Nat) (x : Win) : (s.setWin w x).pending = s.pending := rfl
@[simp] theorem State.setWin_now (s : State) (w : Nat) (x : Win) : (s.setWin w x).now = s.now := rfl
@[simp] theorem State.setWin_timeBase (s : State) (w : Nat) (x : Win) : (s.setWin w x).timeBase = s.timeBase := rfl
@[simp] theorem State.setWin_timeC0 (s : State) (w : Nat) (x : Win) : (s.setWin w x).timeC0 = s.timeC0 := rfl
@[simp] theorem State.setWin_stateAt (s : State) (w : Nat) (x : Win) : (s.setWin w x).stateAt = s.stateAt := rfl
@[simp] theorem State.setWin_free (s : State) (w : Nat) (x : Win) : (s.setWin w x).free = s.free := rfl
@[simp] theorem State.setWin_regs (s : State) (w : Nat) (x : Win) : (s.setWin w x).regs = s.regs := rfl
@[simp] theorem State.setWin_shadow (s : State) (w : Nat) (x : Win) : (s.setWin w x).shadow = s.shadow := rfl
@[simp] theorem State.setWin_dom (s : State) (w : Nat) (x : Win) : (s.setWin w x).dom = s.dom := rfl
@[simp] theorem State.setWin_domLens (s : State) (w : Nat) (x : Win) : (s.setWin w x).domLens = s.domLens := rfl
@[simp] theorem State.setWin_shDom (s : State) (w : Nat) (x : Win) : (s.setWin w x).shDom = s.shDom := rfl
@[simp] theorem State.setWin_shDomLens (s : State) (w : Nat) (x : Win) : (s.setWin w x).shDomLens = s.shDomLens := rfl
@[simp] theorem State.setWin_own (s : State) (w : Nat) (x : Win) : (s.setWin w x).own = s.own := rfl
@[simp] theorem State.setWin_sherds (s : State) (w : Nat) (x : Win) : (s.setWin w x).sherds = s.sherds := rfl
@[simp] theorem State.setWin_commitBands (s : State) (w : Nat) (x : Win) : (s.setWin w x).commitBands = s.commitBands := rfl
@[simp] theorem State.setWin_readData (s : State) (w : Nat) (x : Win) : (s.setWin w x).readData = s.readData := rfl
@[simp] theorem State.setWin_chal (s : State) (w : Nat) (x : Win) : (s.setWin w x).chal = s.chal := rfl
@[simp] theorem State.setWin_xfers (s : State) (w : Nat) (x : Win) : (s.setWin w x).xfers = s.xfers := rfl
@[simp] theorem State.setWin_sessions (s : State) (w : Nat) (x : Win) : (s.setWin w x).sessions = s.sessions := rfl
@[simp] theorem State.setWin_udpOut (s : State) (w : Nat) (x : Win) : (s.setWin w x).udpOut = s.udpOut := rfl
@[simp] theorem State.setWin_hostOut (s : State) (w : Nat) (x : Win) : (s.setWin w x).hostOut = s.hostOut := rfl
@[simp] theorem State.setWin_ethOut (s : State) (w : Nat) (x : Win) : (s.setWin w x).ethOut = s.ethOut := rfl
@[simp] theorem State.setWin_arp (s : State) (w : Nat) (x : Win) : (s.setWin w x).arp = s.arp := rfl
@[simp] theorem State.setWin_mem (s : State) (w : Nat) (x : Win) : (s.setWin w x).mem = s.mem := rfl
@[simp] theorem State.setWin_glaze (s : State) (w : Nat) (x : Win) : (s.setWin w x).glaze = s.glaze := rfl
@[simp] theorem State.setWin_raised (s : State) (w : Nat) (x : Win) : (s.setWin w x).raised = s.raised := rfl
@[simp] theorem State.setWin_tasks (s : State) (w : Nat) (x : Win) : (s.setWin w x).tasks = s.tasks := rfl
@[simp] theorem State.setWin_holdEnds (s : State) (w : Nat) (x : Win) : (s.setWin w x).holdEnds = s.holdEnds := rfl
@[simp] theorem State.setWin_maskSetAt (s : State) (w : Nat) (x : Win) : (s.setWin w x).maskSetAt = s.maskSetAt := rfl
@[simp] theorem State.setWin_arrived (s : State) (w : Nat) (x : Win) : (s.setWin w x).arrived = s.arrived := rfl
@[simp] theorem State.setWin_msix (s : State) (w : Nat) (x : Win) : (s.setWin w x).msix = s.msix := rfl
@[simp] theorem State.setWin_wbuf (s : State) (w : Nat) (x : Win) : (s.setWin w x).wbuf = s.wbuf := rfl
@[simp] theorem State.setWin_wring (s : State) (w : Nat) (x : Win) : (s.setWin w x).wring = s.wring := rfl
@[simp] theorem State.setWin_wgap (s : State) (w : Nat) (x : Win) : (s.setWin w x).wgap = s.wgap := rfl
@[simp] theorem State.setWin_faultTimes (s : State) (w : Nat) (x : Win) : (s.setWin w x).faultTimes = s.faultTimes := rfl
@[simp] theorem State.setWin_fuses (s : State) (w : Nat) (x : Win) : (s.setWin w x).fuses = s.fuses := rfl
@[simp] theorem State.setWin_boot (s : State) (w : Nat) (x : Win) : (s.setWin w x).boot = s.boot := rfl
@[simp] theorem State.setWin_power (s : State) (w : Nat) (x : Win) : (s.setWin w x).power = s.power := rfl
@[simp] theorem State.setWin_cores (s : State) (w : Nat) (x : Win) : (s.setWin w x).cores = s.cores := rfl
@[simp] theorem State.setWin_coreFaults (s : State) (w : Nat) (x : Win) : (s.setWin w x).coreFaults = s.coreFaults := rfl
@[simp] theorem State.setWin_wdog (s : State) (w : Nat) (x : Win) : (s.setWin w x).wdog = s.wdog := rfl
@[simp] theorem State.setWin_hot (s : State) (w : Nat) (x : Win) : (s.setWin w x).hot = s.hot := rfl
@[simp] theorem State.setWin_calRecs (s : State) (w : Nat) (x : Win) : (s.setWin w x).calRecs = s.calRecs := rfl
@[simp] theorem State.setWin_gpioIn (s : State) (w : Nat) (x : Win) : (s.setWin w x).gpioIn = s.gpioIn := rfl
@[simp] theorem State.setWin_pins (s : State) (w : Nat) (x : Win) : (s.setWin w x).pins = s.pins := rfl
@[simp] theorem State.setWin_queues (s : State) (w : Nat) (x : Win) : (s.setWin w x).queues = s.queues := rfl
@[simp] theorem State.setWin_drams (s : State) (w : Nat) (x : Win) : (s.setWin w x).drams = s.drams := rfl
@[simp] theorem State.setWin_dmas (s : State) (w : Nat) (x : Win) : (s.setWin w x).dmas = s.dmas := rfl
@[simp] theorem State.setWin_encs (s : State) (w : Nat) (x : Win) : (s.setWin w x).encs = s.encs := rfl
@[simp] theorem State.setWin_wheel (s : State) (w : Nat) (x : Win) : (s.setWin w x).wheel = s.wheel := rfl
@[simp] theorem State.setWin_gens (s : State) (w : Nat) (x : Win) : (s.setWin w x).gens = s.gens := rfl
@[simp] theorem State.setWin_trigs (s : State) (w : Nat) (x : Win) : (s.setWin w x).trigs = s.trigs := rfl
@[simp] theorem State.setWin_cmps (s : State) (w : Nat) (x : Win) : (s.setWin w x).cmps = s.cmps := rfl
@[simp] theorem State.setWin_probes (s : State) (w : Nat) (x : Win) : (s.setWin w x).probes = s.probes := rfl
@[simp] theorem State.setWin_mirs (s : State) (w : Nat) (x : Win) : (s.setWin w x).mirs = s.mirs := rfl
@[simp] theorem State.setWin_cams (s : State) (w : Nat) (x : Win) : (s.setWin w x).cams = s.cams := rfl
@[simp] theorem State.setWin_uplinks (s : State) (w : Nat) (x : Win) : (s.setWin w x).uplinks = s.uplinks := rfl
@[simp] theorem State.setWin_ctxs (s : State) (w : Nat) (x : Win) : (s.setWin w x).ctxs = s.ctxs := rfl
@[simp] theorem State.setWin_pipes (s : State) (w : Nat) (x : Win) : (s.setWin w x).pipes = s.pipes := rfl
@[simp] theorem State.setWin_seam (s : State) (w : Nat) (x : Win) : (s.setWin w x).seam = s.seam := rfl
@[simp] theorem State.setWin_coding (s : State) (w : Nat) (x : Win) : (s.setWin w x).coding = s.coding := rfl
@[simp] theorem State.setWin_wins (s : State) (w : Nat) (x : Win) : (s.setWin w x).wins = tput s.wins w x := rfl
@[simp] theorem State.setWin_views (s : State) (w : Nat) (x : Win) : (s.setWin w x).views = s.views := rfl
@[simp] theorem State.setWin_zes (s : State) (w : Nat) (x : Win) : (s.setWin w x).zes = s.zes := rfl
@[simp] theorem State.setWin_cropJobs (s : State) (w : Nat) (x : Win) : (s.setWin w x).cropJobs = s.cropJobs := rfl
@[simp] theorem State.setWin_slip (s : State) (w : Nat) (x : Win) : (s.setWin w x).slip = s.slip := rfl
@[simp] theorem State.setWin_bars (s : State) (w : Nat) (x : Win) : (s.setWin w x).bars = s.bars := rfl
@[simp] theorem State.setWin_ports (s : State) (w : Nat) (x : Win) : (s.setWin w x).ports = s.ports := rfl
@[simp] theorem State.setWin_heads (s : State) (w : Nat) (x : Win) : (s.setWin w x).heads = s.heads := rfl
@[simp] theorem State.setWin_scan (s : State) (w : Nat) (x : Win) : (s.setWin w x).scan = s.scan := rfl
@[simp] theorem State.setWin_gas (s : State) (w : Nat) (x : Win) : (s.setWin w x).gas = s.gas := rfl
@[simp] theorem State.setWin_syncAt (s : State) (w : Nat) (x : Win) : (s.setWin w x).syncAt = s.syncAt := rfl
@[simp] theorem State.setWin_umb (s : State) (w : Nat) (x : Win) : (s.setWin w x).umb = s.umb := rfl
@[simp] theorem State.setWin_loop (s : State) (w : Nat) (x : Win) : (s.setWin w x).loop = s.loop := rfl
@[simp] theorem State.setWin_skl (s : State) (w : Nat) (x : Win) : (s.setWin w x).skl = s.skl := rfl
@[simp] theorem State.setWin_sync (s : State) (w : Nat) (x : Win) : (s.setWin w x).sync = s.sync := rfl

/-! ### setView -/

@[simp] theorem State.setView_pending (s : State) (v : Nat) (x : View) : (s.setView v x).pending = s.pending := rfl
@[simp] theorem State.setView_now (s : State) (v : Nat) (x : View) : (s.setView v x).now = s.now := rfl
@[simp] theorem State.setView_timeBase (s : State) (v : Nat) (x : View) : (s.setView v x).timeBase = s.timeBase := rfl
@[simp] theorem State.setView_timeC0 (s : State) (v : Nat) (x : View) : (s.setView v x).timeC0 = s.timeC0 := rfl
@[simp] theorem State.setView_stateAt (s : State) (v : Nat) (x : View) : (s.setView v x).stateAt = s.stateAt := rfl
@[simp] theorem State.setView_free (s : State) (v : Nat) (x : View) : (s.setView v x).free = s.free := rfl
@[simp] theorem State.setView_regs (s : State) (v : Nat) (x : View) : (s.setView v x).regs = s.regs := rfl
@[simp] theorem State.setView_shadow (s : State) (v : Nat) (x : View) : (s.setView v x).shadow = s.shadow := rfl
@[simp] theorem State.setView_dom (s : State) (v : Nat) (x : View) : (s.setView v x).dom = s.dom := rfl
@[simp] theorem State.setView_domLens (s : State) (v : Nat) (x : View) : (s.setView v x).domLens = s.domLens := rfl
@[simp] theorem State.setView_shDom (s : State) (v : Nat) (x : View) : (s.setView v x).shDom = s.shDom := rfl
@[simp] theorem State.setView_shDomLens (s : State) (v : Nat) (x : View) : (s.setView v x).shDomLens = s.shDomLens := rfl
@[simp] theorem State.setView_own (s : State) (v : Nat) (x : View) : (s.setView v x).own = s.own := rfl
@[simp] theorem State.setView_sherds (s : State) (v : Nat) (x : View) : (s.setView v x).sherds = s.sherds := rfl
@[simp] theorem State.setView_commitBands (s : State) (v : Nat) (x : View) : (s.setView v x).commitBands = s.commitBands := rfl
@[simp] theorem State.setView_readData (s : State) (v : Nat) (x : View) : (s.setView v x).readData = s.readData := rfl
@[simp] theorem State.setView_chal (s : State) (v : Nat) (x : View) : (s.setView v x).chal = s.chal := rfl
@[simp] theorem State.setView_xfers (s : State) (v : Nat) (x : View) : (s.setView v x).xfers = s.xfers := rfl
@[simp] theorem State.setView_sessions (s : State) (v : Nat) (x : View) : (s.setView v x).sessions = s.sessions := rfl
@[simp] theorem State.setView_udpOut (s : State) (v : Nat) (x : View) : (s.setView v x).udpOut = s.udpOut := rfl
@[simp] theorem State.setView_hostOut (s : State) (v : Nat) (x : View) : (s.setView v x).hostOut = s.hostOut := rfl
@[simp] theorem State.setView_ethOut (s : State) (v : Nat) (x : View) : (s.setView v x).ethOut = s.ethOut := rfl
@[simp] theorem State.setView_arp (s : State) (v : Nat) (x : View) : (s.setView v x).arp = s.arp := rfl
@[simp] theorem State.setView_mem (s : State) (v : Nat) (x : View) : (s.setView v x).mem = s.mem := rfl
@[simp] theorem State.setView_glaze (s : State) (v : Nat) (x : View) : (s.setView v x).glaze = s.glaze := rfl
@[simp] theorem State.setView_raised (s : State) (v : Nat) (x : View) : (s.setView v x).raised = s.raised := rfl
@[simp] theorem State.setView_tasks (s : State) (v : Nat) (x : View) : (s.setView v x).tasks = s.tasks := rfl
@[simp] theorem State.setView_holdEnds (s : State) (v : Nat) (x : View) : (s.setView v x).holdEnds = s.holdEnds := rfl
@[simp] theorem State.setView_maskSetAt (s : State) (v : Nat) (x : View) : (s.setView v x).maskSetAt = s.maskSetAt := rfl
@[simp] theorem State.setView_arrived (s : State) (v : Nat) (x : View) : (s.setView v x).arrived = s.arrived := rfl
@[simp] theorem State.setView_msix (s : State) (v : Nat) (x : View) : (s.setView v x).msix = s.msix := rfl
@[simp] theorem State.setView_wbuf (s : State) (v : Nat) (x : View) : (s.setView v x).wbuf = s.wbuf := rfl
@[simp] theorem State.setView_wring (s : State) (v : Nat) (x : View) : (s.setView v x).wring = s.wring := rfl
@[simp] theorem State.setView_wgap (s : State) (v : Nat) (x : View) : (s.setView v x).wgap = s.wgap := rfl
@[simp] theorem State.setView_faultTimes (s : State) (v : Nat) (x : View) : (s.setView v x).faultTimes = s.faultTimes := rfl
@[simp] theorem State.setView_fuses (s : State) (v : Nat) (x : View) : (s.setView v x).fuses = s.fuses := rfl
@[simp] theorem State.setView_boot (s : State) (v : Nat) (x : View) : (s.setView v x).boot = s.boot := rfl
@[simp] theorem State.setView_power (s : State) (v : Nat) (x : View) : (s.setView v x).power = s.power := rfl
@[simp] theorem State.setView_cores (s : State) (v : Nat) (x : View) : (s.setView v x).cores = s.cores := rfl
@[simp] theorem State.setView_coreFaults (s : State) (v : Nat) (x : View) : (s.setView v x).coreFaults = s.coreFaults := rfl
@[simp] theorem State.setView_wdog (s : State) (v : Nat) (x : View) : (s.setView v x).wdog = s.wdog := rfl
@[simp] theorem State.setView_hot (s : State) (v : Nat) (x : View) : (s.setView v x).hot = s.hot := rfl
@[simp] theorem State.setView_calRecs (s : State) (v : Nat) (x : View) : (s.setView v x).calRecs = s.calRecs := rfl
@[simp] theorem State.setView_gpioIn (s : State) (v : Nat) (x : View) : (s.setView v x).gpioIn = s.gpioIn := rfl
@[simp] theorem State.setView_pins (s : State) (v : Nat) (x : View) : (s.setView v x).pins = s.pins := rfl
@[simp] theorem State.setView_queues (s : State) (v : Nat) (x : View) : (s.setView v x).queues = s.queues := rfl
@[simp] theorem State.setView_drams (s : State) (v : Nat) (x : View) : (s.setView v x).drams = s.drams := rfl
@[simp] theorem State.setView_dmas (s : State) (v : Nat) (x : View) : (s.setView v x).dmas = s.dmas := rfl
@[simp] theorem State.setView_encs (s : State) (v : Nat) (x : View) : (s.setView v x).encs = s.encs := rfl
@[simp] theorem State.setView_wheel (s : State) (v : Nat) (x : View) : (s.setView v x).wheel = s.wheel := rfl
@[simp] theorem State.setView_gens (s : State) (v : Nat) (x : View) : (s.setView v x).gens = s.gens := rfl
@[simp] theorem State.setView_trigs (s : State) (v : Nat) (x : View) : (s.setView v x).trigs = s.trigs := rfl
@[simp] theorem State.setView_cmps (s : State) (v : Nat) (x : View) : (s.setView v x).cmps = s.cmps := rfl
@[simp] theorem State.setView_probes (s : State) (v : Nat) (x : View) : (s.setView v x).probes = s.probes := rfl
@[simp] theorem State.setView_mirs (s : State) (v : Nat) (x : View) : (s.setView v x).mirs = s.mirs := rfl
@[simp] theorem State.setView_cams (s : State) (v : Nat) (x : View) : (s.setView v x).cams = s.cams := rfl
@[simp] theorem State.setView_uplinks (s : State) (v : Nat) (x : View) : (s.setView v x).uplinks = s.uplinks := rfl
@[simp] theorem State.setView_ctxs (s : State) (v : Nat) (x : View) : (s.setView v x).ctxs = s.ctxs := rfl
@[simp] theorem State.setView_pipes (s : State) (v : Nat) (x : View) : (s.setView v x).pipes = s.pipes := rfl
@[simp] theorem State.setView_seam (s : State) (v : Nat) (x : View) : (s.setView v x).seam = s.seam := rfl
@[simp] theorem State.setView_coding (s : State) (v : Nat) (x : View) : (s.setView v x).coding = s.coding := rfl
@[simp] theorem State.setView_wins (s : State) (v : Nat) (x : View) : (s.setView v x).wins = s.wins := rfl
@[simp] theorem State.setView_views (s : State) (v : Nat) (x : View) : (s.setView v x).views = tput s.views v x := rfl
@[simp] theorem State.setView_zes (s : State) (v : Nat) (x : View) : (s.setView v x).zes = s.zes := rfl
@[simp] theorem State.setView_cropJobs (s : State) (v : Nat) (x : View) : (s.setView v x).cropJobs = s.cropJobs := rfl
@[simp] theorem State.setView_slip (s : State) (v : Nat) (x : View) : (s.setView v x).slip = s.slip := rfl
@[simp] theorem State.setView_bars (s : State) (v : Nat) (x : View) : (s.setView v x).bars = s.bars := rfl
@[simp] theorem State.setView_ports (s : State) (v : Nat) (x : View) : (s.setView v x).ports = s.ports := rfl
@[simp] theorem State.setView_heads (s : State) (v : Nat) (x : View) : (s.setView v x).heads = s.heads := rfl
@[simp] theorem State.setView_scan (s : State) (v : Nat) (x : View) : (s.setView v x).scan = s.scan := rfl
@[simp] theorem State.setView_gas (s : State) (v : Nat) (x : View) : (s.setView v x).gas = s.gas := rfl
@[simp] theorem State.setView_syncAt (s : State) (v : Nat) (x : View) : (s.setView v x).syncAt = s.syncAt := rfl
@[simp] theorem State.setView_umb (s : State) (v : Nat) (x : View) : (s.setView v x).umb = s.umb := rfl
@[simp] theorem State.setView_loop (s : State) (v : Nat) (x : View) : (s.setView v x).loop = s.loop := rfl
@[simp] theorem State.setView_skl (s : State) (v : Nat) (x : View) : (s.setView v x).skl = s.skl := rfl
@[simp] theorem State.setView_sync (s : State) (v : Nat) (x : View) : (s.setView v x).sync = s.sync := rfl

/-! ### setSkl -/

@[simp] theorem State.setSkl_pending (s : State) (k : Skl) : (s.setSkl k).pending = s.pending := rfl
@[simp] theorem State.setSkl_now (s : State) (k : Skl) : (s.setSkl k).now = s.now := rfl
@[simp] theorem State.setSkl_timeBase (s : State) (k : Skl) : (s.setSkl k).timeBase = s.timeBase := rfl
@[simp] theorem State.setSkl_timeC0 (s : State) (k : Skl) : (s.setSkl k).timeC0 = s.timeC0 := rfl
@[simp] theorem State.setSkl_stateAt (s : State) (k : Skl) : (s.setSkl k).stateAt = s.stateAt := rfl
@[simp] theorem State.setSkl_free (s : State) (k : Skl) : (s.setSkl k).free = s.free := rfl
@[simp] theorem State.setSkl_regs (s : State) (k : Skl) : (s.setSkl k).regs = s.regs := rfl
@[simp] theorem State.setSkl_shadow (s : State) (k : Skl) : (s.setSkl k).shadow = s.shadow := rfl
@[simp] theorem State.setSkl_dom (s : State) (k : Skl) : (s.setSkl k).dom = s.dom := rfl
@[simp] theorem State.setSkl_domLens (s : State) (k : Skl) : (s.setSkl k).domLens = s.domLens := rfl
@[simp] theorem State.setSkl_shDom (s : State) (k : Skl) : (s.setSkl k).shDom = s.shDom := rfl
@[simp] theorem State.setSkl_shDomLens (s : State) (k : Skl) : (s.setSkl k).shDomLens = s.shDomLens := rfl
@[simp] theorem State.setSkl_own (s : State) (k : Skl) : (s.setSkl k).own = s.own := rfl
@[simp] theorem State.setSkl_sherds (s : State) (k : Skl) : (s.setSkl k).sherds = s.sherds := rfl
@[simp] theorem State.setSkl_commitBands (s : State) (k : Skl) : (s.setSkl k).commitBands = s.commitBands := rfl
@[simp] theorem State.setSkl_readData (s : State) (k : Skl) : (s.setSkl k).readData = s.readData := rfl
@[simp] theorem State.setSkl_chal (s : State) (k : Skl) : (s.setSkl k).chal = s.chal := rfl
@[simp] theorem State.setSkl_xfers (s : State) (k : Skl) : (s.setSkl k).xfers = s.xfers := rfl
@[simp] theorem State.setSkl_sessions (s : State) (k : Skl) : (s.setSkl k).sessions = s.sessions := rfl
@[simp] theorem State.setSkl_udpOut (s : State) (k : Skl) : (s.setSkl k).udpOut = s.udpOut := rfl
@[simp] theorem State.setSkl_hostOut (s : State) (k : Skl) : (s.setSkl k).hostOut = s.hostOut := rfl
@[simp] theorem State.setSkl_ethOut (s : State) (k : Skl) : (s.setSkl k).ethOut = s.ethOut := rfl
@[simp] theorem State.setSkl_arp (s : State) (k : Skl) : (s.setSkl k).arp = s.arp := rfl
@[simp] theorem State.setSkl_mem (s : State) (k : Skl) : (s.setSkl k).mem = s.mem := rfl
@[simp] theorem State.setSkl_glaze (s : State) (k : Skl) : (s.setSkl k).glaze = s.glaze := rfl
@[simp] theorem State.setSkl_raised (s : State) (k : Skl) : (s.setSkl k).raised = s.raised := rfl
@[simp] theorem State.setSkl_tasks (s : State) (k : Skl) : (s.setSkl k).tasks = s.tasks := rfl
@[simp] theorem State.setSkl_holdEnds (s : State) (k : Skl) : (s.setSkl k).holdEnds = s.holdEnds := rfl
@[simp] theorem State.setSkl_maskSetAt (s : State) (k : Skl) : (s.setSkl k).maskSetAt = s.maskSetAt := rfl
@[simp] theorem State.setSkl_arrived (s : State) (k : Skl) : (s.setSkl k).arrived = s.arrived := rfl
@[simp] theorem State.setSkl_msix (s : State) (k : Skl) : (s.setSkl k).msix = s.msix := rfl
@[simp] theorem State.setSkl_wbuf (s : State) (k : Skl) : (s.setSkl k).wbuf = s.wbuf := rfl
@[simp] theorem State.setSkl_wring (s : State) (k : Skl) : (s.setSkl k).wring = s.wring := rfl
@[simp] theorem State.setSkl_wgap (s : State) (k : Skl) : (s.setSkl k).wgap = s.wgap := rfl
@[simp] theorem State.setSkl_faultTimes (s : State) (k : Skl) : (s.setSkl k).faultTimes = s.faultTimes := rfl
@[simp] theorem State.setSkl_fuses (s : State) (k : Skl) : (s.setSkl k).fuses = s.fuses := rfl
@[simp] theorem State.setSkl_boot (s : State) (k : Skl) : (s.setSkl k).boot = s.boot := rfl
@[simp] theorem State.setSkl_power (s : State) (k : Skl) : (s.setSkl k).power = s.power := rfl
@[simp] theorem State.setSkl_cores (s : State) (k : Skl) : (s.setSkl k).cores = s.cores := rfl
@[simp] theorem State.setSkl_coreFaults (s : State) (k : Skl) : (s.setSkl k).coreFaults = s.coreFaults := rfl
@[simp] theorem State.setSkl_wdog (s : State) (k : Skl) : (s.setSkl k).wdog = s.wdog := rfl
@[simp] theorem State.setSkl_hot (s : State) (k : Skl) : (s.setSkl k).hot = s.hot := rfl
@[simp] theorem State.setSkl_calRecs (s : State) (k : Skl) : (s.setSkl k).calRecs = s.calRecs := rfl
@[simp] theorem State.setSkl_gpioIn (s : State) (k : Skl) : (s.setSkl k).gpioIn = s.gpioIn := rfl
@[simp] theorem State.setSkl_pins (s : State) (k : Skl) : (s.setSkl k).pins = s.pins := rfl
@[simp] theorem State.setSkl_queues (s : State) (k : Skl) : (s.setSkl k).queues = s.queues := rfl
@[simp] theorem State.setSkl_drams (s : State) (k : Skl) : (s.setSkl k).drams = s.drams := rfl
@[simp] theorem State.setSkl_dmas (s : State) (k : Skl) : (s.setSkl k).dmas = s.dmas := rfl
@[simp] theorem State.setSkl_encs (s : State) (k : Skl) : (s.setSkl k).encs = s.encs := rfl
@[simp] theorem State.setSkl_wheel (s : State) (k : Skl) : (s.setSkl k).wheel = s.wheel := rfl
@[simp] theorem State.setSkl_gens (s : State) (k : Skl) : (s.setSkl k).gens = s.gens := rfl
@[simp] theorem State.setSkl_trigs (s : State) (k : Skl) : (s.setSkl k).trigs = s.trigs := rfl
@[simp] theorem State.setSkl_cmps (s : State) (k : Skl) : (s.setSkl k).cmps = s.cmps := rfl
@[simp] theorem State.setSkl_probes (s : State) (k : Skl) : (s.setSkl k).probes = s.probes := rfl
@[simp] theorem State.setSkl_mirs (s : State) (k : Skl) : (s.setSkl k).mirs = s.mirs := rfl
@[simp] theorem State.setSkl_cams (s : State) (k : Skl) : (s.setSkl k).cams = s.cams := rfl
@[simp] theorem State.setSkl_uplinks (s : State) (k : Skl) : (s.setSkl k).uplinks = s.uplinks := rfl
@[simp] theorem State.setSkl_ctxs (s : State) (k : Skl) : (s.setSkl k).ctxs = s.ctxs := rfl
@[simp] theorem State.setSkl_pipes (s : State) (k : Skl) : (s.setSkl k).pipes = s.pipes := rfl
@[simp] theorem State.setSkl_seam (s : State) (k : Skl) : (s.setSkl k).seam = s.seam := rfl
@[simp] theorem State.setSkl_coding (s : State) (k : Skl) : (s.setSkl k).coding = s.coding := rfl
@[simp] theorem State.setSkl_wins (s : State) (k : Skl) : (s.setSkl k).wins = s.wins := rfl
@[simp] theorem State.setSkl_views (s : State) (k : Skl) : (s.setSkl k).views = s.views := rfl
@[simp] theorem State.setSkl_zes (s : State) (k : Skl) : (s.setSkl k).zes = s.zes := rfl
@[simp] theorem State.setSkl_cropJobs (s : State) (k : Skl) : (s.setSkl k).cropJobs = s.cropJobs := rfl
@[simp] theorem State.setSkl_slip (s : State) (k : Skl) : (s.setSkl k).slip = s.slip := rfl
@[simp] theorem State.setSkl_bars (s : State) (k : Skl) : (s.setSkl k).bars = s.bars := rfl
@[simp] theorem State.setSkl_ports (s : State) (k : Skl) : (s.setSkl k).ports = s.ports := rfl
@[simp] theorem State.setSkl_heads (s : State) (k : Skl) : (s.setSkl k).heads = s.heads := rfl
@[simp] theorem State.setSkl_scan (s : State) (k : Skl) : (s.setSkl k).scan = s.scan := rfl
@[simp] theorem State.setSkl_gas (s : State) (k : Skl) : (s.setSkl k).gas = s.gas := rfl
@[simp] theorem State.setSkl_syncAt (s : State) (k : Skl) : (s.setSkl k).syncAt = s.syncAt := rfl
@[simp] theorem State.setSkl_umb (s : State) (k : Skl) : (s.setSkl k).umb = s.umb := rfl
@[simp] theorem State.setSkl_loop (s : State) (k : Skl) : (s.setSkl k).loop = s.loop := rfl
@[simp] theorem State.setSkl_skl (s : State) (k : Skl) : (s.setSkl k).skl = k := rfl
@[simp] theorem State.setSkl_sync (s : State) (k : Skl) : (s.setSkl k).sync = s.sync := rfl

/-! ### setBar -/

@[simp] theorem State.setBar_pending (s : State) (b : Nat) (x : Bar) : (s.setBar b x).pending = s.pending := rfl
@[simp] theorem State.setBar_now (s : State) (b : Nat) (x : Bar) : (s.setBar b x).now = s.now := rfl
@[simp] theorem State.setBar_timeBase (s : State) (b : Nat) (x : Bar) : (s.setBar b x).timeBase = s.timeBase := rfl
@[simp] theorem State.setBar_timeC0 (s : State) (b : Nat) (x : Bar) : (s.setBar b x).timeC0 = s.timeC0 := rfl
@[simp] theorem State.setBar_stateAt (s : State) (b : Nat) (x : Bar) : (s.setBar b x).stateAt = s.stateAt := rfl
@[simp] theorem State.setBar_free (s : State) (b : Nat) (x : Bar) : (s.setBar b x).free = s.free := rfl
@[simp] theorem State.setBar_regs (s : State) (b : Nat) (x : Bar) : (s.setBar b x).regs = s.regs := rfl
@[simp] theorem State.setBar_shadow (s : State) (b : Nat) (x : Bar) : (s.setBar b x).shadow = s.shadow := rfl
@[simp] theorem State.setBar_dom (s : State) (b : Nat) (x : Bar) : (s.setBar b x).dom = s.dom := rfl
@[simp] theorem State.setBar_domLens (s : State) (b : Nat) (x : Bar) : (s.setBar b x).domLens = s.domLens := rfl
@[simp] theorem State.setBar_shDom (s : State) (b : Nat) (x : Bar) : (s.setBar b x).shDom = s.shDom := rfl
@[simp] theorem State.setBar_shDomLens (s : State) (b : Nat) (x : Bar) : (s.setBar b x).shDomLens = s.shDomLens := rfl
@[simp] theorem State.setBar_own (s : State) (b : Nat) (x : Bar) : (s.setBar b x).own = s.own := rfl
@[simp] theorem State.setBar_sherds (s : State) (b : Nat) (x : Bar) : (s.setBar b x).sherds = s.sherds := rfl
@[simp] theorem State.setBar_commitBands (s : State) (b : Nat) (x : Bar) : (s.setBar b x).commitBands = s.commitBands := rfl
@[simp] theorem State.setBar_readData (s : State) (b : Nat) (x : Bar) : (s.setBar b x).readData = s.readData := rfl
@[simp] theorem State.setBar_chal (s : State) (b : Nat) (x : Bar) : (s.setBar b x).chal = s.chal := rfl
@[simp] theorem State.setBar_xfers (s : State) (b : Nat) (x : Bar) : (s.setBar b x).xfers = s.xfers := rfl
@[simp] theorem State.setBar_sessions (s : State) (b : Nat) (x : Bar) : (s.setBar b x).sessions = s.sessions := rfl
@[simp] theorem State.setBar_udpOut (s : State) (b : Nat) (x : Bar) : (s.setBar b x).udpOut = s.udpOut := rfl
@[simp] theorem State.setBar_hostOut (s : State) (b : Nat) (x : Bar) : (s.setBar b x).hostOut = s.hostOut := rfl
@[simp] theorem State.setBar_ethOut (s : State) (b : Nat) (x : Bar) : (s.setBar b x).ethOut = s.ethOut := rfl
@[simp] theorem State.setBar_arp (s : State) (b : Nat) (x : Bar) : (s.setBar b x).arp = s.arp := rfl
@[simp] theorem State.setBar_mem (s : State) (b : Nat) (x : Bar) : (s.setBar b x).mem = s.mem := rfl
@[simp] theorem State.setBar_glaze (s : State) (b : Nat) (x : Bar) : (s.setBar b x).glaze = s.glaze := rfl
@[simp] theorem State.setBar_raised (s : State) (b : Nat) (x : Bar) : (s.setBar b x).raised = s.raised := rfl
@[simp] theorem State.setBar_tasks (s : State) (b : Nat) (x : Bar) : (s.setBar b x).tasks = s.tasks := rfl
@[simp] theorem State.setBar_holdEnds (s : State) (b : Nat) (x : Bar) : (s.setBar b x).holdEnds = s.holdEnds := rfl
@[simp] theorem State.setBar_maskSetAt (s : State) (b : Nat) (x : Bar) : (s.setBar b x).maskSetAt = s.maskSetAt := rfl
@[simp] theorem State.setBar_arrived (s : State) (b : Nat) (x : Bar) : (s.setBar b x).arrived = s.arrived := rfl
@[simp] theorem State.setBar_msix (s : State) (b : Nat) (x : Bar) : (s.setBar b x).msix = s.msix := rfl
@[simp] theorem State.setBar_wbuf (s : State) (b : Nat) (x : Bar) : (s.setBar b x).wbuf = s.wbuf := rfl
@[simp] theorem State.setBar_wring (s : State) (b : Nat) (x : Bar) : (s.setBar b x).wring = s.wring := rfl
@[simp] theorem State.setBar_wgap (s : State) (b : Nat) (x : Bar) : (s.setBar b x).wgap = s.wgap := rfl
@[simp] theorem State.setBar_faultTimes (s : State) (b : Nat) (x : Bar) : (s.setBar b x).faultTimes = s.faultTimes := rfl
@[simp] theorem State.setBar_fuses (s : State) (b : Nat) (x : Bar) : (s.setBar b x).fuses = s.fuses := rfl
@[simp] theorem State.setBar_boot (s : State) (b : Nat) (x : Bar) : (s.setBar b x).boot = s.boot := rfl
@[simp] theorem State.setBar_power (s : State) (b : Nat) (x : Bar) : (s.setBar b x).power = s.power := rfl
@[simp] theorem State.setBar_cores (s : State) (b : Nat) (x : Bar) : (s.setBar b x).cores = s.cores := rfl
@[simp] theorem State.setBar_coreFaults (s : State) (b : Nat) (x : Bar) : (s.setBar b x).coreFaults = s.coreFaults := rfl
@[simp] theorem State.setBar_wdog (s : State) (b : Nat) (x : Bar) : (s.setBar b x).wdog = s.wdog := rfl
@[simp] theorem State.setBar_hot (s : State) (b : Nat) (x : Bar) : (s.setBar b x).hot = s.hot := rfl
@[simp] theorem State.setBar_calRecs (s : State) (b : Nat) (x : Bar) : (s.setBar b x).calRecs = s.calRecs := rfl
@[simp] theorem State.setBar_gpioIn (s : State) (b : Nat) (x : Bar) : (s.setBar b x).gpioIn = s.gpioIn := rfl
@[simp] theorem State.setBar_pins (s : State) (b : Nat) (x : Bar) : (s.setBar b x).pins = s.pins := rfl
@[simp] theorem State.setBar_queues (s : State) (b : Nat) (x : Bar) : (s.setBar b x).queues = s.queues := rfl
@[simp] theorem State.setBar_drams (s : State) (b : Nat) (x : Bar) : (s.setBar b x).drams = s.drams := rfl
@[simp] theorem State.setBar_dmas (s : State) (b : Nat) (x : Bar) : (s.setBar b x).dmas = s.dmas := rfl
@[simp] theorem State.setBar_encs (s : State) (b : Nat) (x : Bar) : (s.setBar b x).encs = s.encs := rfl
@[simp] theorem State.setBar_wheel (s : State) (b : Nat) (x : Bar) : (s.setBar b x).wheel = s.wheel := rfl
@[simp] theorem State.setBar_gens (s : State) (b : Nat) (x : Bar) : (s.setBar b x).gens = s.gens := rfl
@[simp] theorem State.setBar_trigs (s : State) (b : Nat) (x : Bar) : (s.setBar b x).trigs = s.trigs := rfl
@[simp] theorem State.setBar_cmps (s : State) (b : Nat) (x : Bar) : (s.setBar b x).cmps = s.cmps := rfl
@[simp] theorem State.setBar_probes (s : State) (b : Nat) (x : Bar) : (s.setBar b x).probes = s.probes := rfl
@[simp] theorem State.setBar_mirs (s : State) (b : Nat) (x : Bar) : (s.setBar b x).mirs = s.mirs := rfl
@[simp] theorem State.setBar_cams (s : State) (b : Nat) (x : Bar) : (s.setBar b x).cams = s.cams := rfl
@[simp] theorem State.setBar_uplinks (s : State) (b : Nat) (x : Bar) : (s.setBar b x).uplinks = s.uplinks := rfl
@[simp] theorem State.setBar_ctxs (s : State) (b : Nat) (x : Bar) : (s.setBar b x).ctxs = s.ctxs := rfl
@[simp] theorem State.setBar_pipes (s : State) (b : Nat) (x : Bar) : (s.setBar b x).pipes = s.pipes := rfl
@[simp] theorem State.setBar_seam (s : State) (b : Nat) (x : Bar) : (s.setBar b x).seam = s.seam := rfl
@[simp] theorem State.setBar_coding (s : State) (b : Nat) (x : Bar) : (s.setBar b x).coding = s.coding := rfl
@[simp] theorem State.setBar_wins (s : State) (b : Nat) (x : Bar) : (s.setBar b x).wins = s.wins := rfl
@[simp] theorem State.setBar_views (s : State) (b : Nat) (x : Bar) : (s.setBar b x).views = s.views := rfl
@[simp] theorem State.setBar_zes (s : State) (b : Nat) (x : Bar) : (s.setBar b x).zes = s.zes := rfl
@[simp] theorem State.setBar_cropJobs (s : State) (b : Nat) (x : Bar) : (s.setBar b x).cropJobs = s.cropJobs := rfl
@[simp] theorem State.setBar_slip (s : State) (b : Nat) (x : Bar) : (s.setBar b x).slip = s.slip := rfl
@[simp] theorem State.setBar_bars (s : State) (b : Nat) (x : Bar) : (s.setBar b x).bars = tput s.bars b x := rfl
@[simp] theorem State.setBar_ports (s : State) (b : Nat) (x : Bar) : (s.setBar b x).ports = s.ports := rfl
@[simp] theorem State.setBar_heads (s : State) (b : Nat) (x : Bar) : (s.setBar b x).heads = s.heads := rfl
@[simp] theorem State.setBar_scan (s : State) (b : Nat) (x : Bar) : (s.setBar b x).scan = s.scan := rfl
@[simp] theorem State.setBar_gas (s : State) (b : Nat) (x : Bar) : (s.setBar b x).gas = s.gas := rfl
@[simp] theorem State.setBar_syncAt (s : State) (b : Nat) (x : Bar) : (s.setBar b x).syncAt = s.syncAt := rfl
@[simp] theorem State.setBar_umb (s : State) (b : Nat) (x : Bar) : (s.setBar b x).umb = s.umb := rfl
@[simp] theorem State.setBar_loop (s : State) (b : Nat) (x : Bar) : (s.setBar b x).loop = s.loop := rfl
@[simp] theorem State.setBar_skl (s : State) (b : Nat) (x : Bar) : (s.setBar b x).skl = s.skl := rfl
@[simp] theorem State.setBar_sync (s : State) (b : Nat) (x : Bar) : (s.setBar b x).sync = s.sync := rfl

/-! ### setPort -/

@[simp] theorem State.setPort_pending (s : State) (p : Nat) (x : Port) : (s.setPort p x).pending = s.pending := rfl
@[simp] theorem State.setPort_now (s : State) (p : Nat) (x : Port) : (s.setPort p x).now = s.now := rfl
@[simp] theorem State.setPort_timeBase (s : State) (p : Nat) (x : Port) : (s.setPort p x).timeBase = s.timeBase := rfl
@[simp] theorem State.setPort_timeC0 (s : State) (p : Nat) (x : Port) : (s.setPort p x).timeC0 = s.timeC0 := rfl
@[simp] theorem State.setPort_stateAt (s : State) (p : Nat) (x : Port) : (s.setPort p x).stateAt = s.stateAt := rfl
@[simp] theorem State.setPort_free (s : State) (p : Nat) (x : Port) : (s.setPort p x).free = s.free := rfl
@[simp] theorem State.setPort_regs (s : State) (p : Nat) (x : Port) : (s.setPort p x).regs = s.regs := rfl
@[simp] theorem State.setPort_shadow (s : State) (p : Nat) (x : Port) : (s.setPort p x).shadow = s.shadow := rfl
@[simp] theorem State.setPort_dom (s : State) (p : Nat) (x : Port) : (s.setPort p x).dom = s.dom := rfl
@[simp] theorem State.setPort_domLens (s : State) (p : Nat) (x : Port) : (s.setPort p x).domLens = s.domLens := rfl
@[simp] theorem State.setPort_shDom (s : State) (p : Nat) (x : Port) : (s.setPort p x).shDom = s.shDom := rfl
@[simp] theorem State.setPort_shDomLens (s : State) (p : Nat) (x : Port) : (s.setPort p x).shDomLens = s.shDomLens := rfl
@[simp] theorem State.setPort_own (s : State) (p : Nat) (x : Port) : (s.setPort p x).own = s.own := rfl
@[simp] theorem State.setPort_sherds (s : State) (p : Nat) (x : Port) : (s.setPort p x).sherds = s.sherds := rfl
@[simp] theorem State.setPort_commitBands (s : State) (p : Nat) (x : Port) : (s.setPort p x).commitBands = s.commitBands := rfl
@[simp] theorem State.setPort_readData (s : State) (p : Nat) (x : Port) : (s.setPort p x).readData = s.readData := rfl
@[simp] theorem State.setPort_chal (s : State) (p : Nat) (x : Port) : (s.setPort p x).chal = s.chal := rfl
@[simp] theorem State.setPort_xfers (s : State) (p : Nat) (x : Port) : (s.setPort p x).xfers = s.xfers := rfl
@[simp] theorem State.setPort_sessions (s : State) (p : Nat) (x : Port) : (s.setPort p x).sessions = s.sessions := rfl
@[simp] theorem State.setPort_udpOut (s : State) (p : Nat) (x : Port) : (s.setPort p x).udpOut = s.udpOut := rfl
@[simp] theorem State.setPort_hostOut (s : State) (p : Nat) (x : Port) : (s.setPort p x).hostOut = s.hostOut := rfl
@[simp] theorem State.setPort_ethOut (s : State) (p : Nat) (x : Port) : (s.setPort p x).ethOut = s.ethOut := rfl
@[simp] theorem State.setPort_arp (s : State) (p : Nat) (x : Port) : (s.setPort p x).arp = s.arp := rfl
@[simp] theorem State.setPort_mem (s : State) (p : Nat) (x : Port) : (s.setPort p x).mem = s.mem := rfl
@[simp] theorem State.setPort_glaze (s : State) (p : Nat) (x : Port) : (s.setPort p x).glaze = s.glaze := rfl
@[simp] theorem State.setPort_raised (s : State) (p : Nat) (x : Port) : (s.setPort p x).raised = s.raised := rfl
@[simp] theorem State.setPort_tasks (s : State) (p : Nat) (x : Port) : (s.setPort p x).tasks = s.tasks := rfl
@[simp] theorem State.setPort_holdEnds (s : State) (p : Nat) (x : Port) : (s.setPort p x).holdEnds = s.holdEnds := rfl
@[simp] theorem State.setPort_maskSetAt (s : State) (p : Nat) (x : Port) : (s.setPort p x).maskSetAt = s.maskSetAt := rfl
@[simp] theorem State.setPort_arrived (s : State) (p : Nat) (x : Port) : (s.setPort p x).arrived = s.arrived := rfl
@[simp] theorem State.setPort_msix (s : State) (p : Nat) (x : Port) : (s.setPort p x).msix = s.msix := rfl
@[simp] theorem State.setPort_wbuf (s : State) (p : Nat) (x : Port) : (s.setPort p x).wbuf = s.wbuf := rfl
@[simp] theorem State.setPort_wring (s : State) (p : Nat) (x : Port) : (s.setPort p x).wring = s.wring := rfl
@[simp] theorem State.setPort_wgap (s : State) (p : Nat) (x : Port) : (s.setPort p x).wgap = s.wgap := rfl
@[simp] theorem State.setPort_faultTimes (s : State) (p : Nat) (x : Port) : (s.setPort p x).faultTimes = s.faultTimes := rfl
@[simp] theorem State.setPort_fuses (s : State) (p : Nat) (x : Port) : (s.setPort p x).fuses = s.fuses := rfl
@[simp] theorem State.setPort_boot (s : State) (p : Nat) (x : Port) : (s.setPort p x).boot = s.boot := rfl
@[simp] theorem State.setPort_power (s : State) (p : Nat) (x : Port) : (s.setPort p x).power = s.power := rfl
@[simp] theorem State.setPort_cores (s : State) (p : Nat) (x : Port) : (s.setPort p x).cores = s.cores := rfl
@[simp] theorem State.setPort_coreFaults (s : State) (p : Nat) (x : Port) : (s.setPort p x).coreFaults = s.coreFaults := rfl
@[simp] theorem State.setPort_wdog (s : State) (p : Nat) (x : Port) : (s.setPort p x).wdog = s.wdog := rfl
@[simp] theorem State.setPort_hot (s : State) (p : Nat) (x : Port) : (s.setPort p x).hot = s.hot := rfl
@[simp] theorem State.setPort_calRecs (s : State) (p : Nat) (x : Port) : (s.setPort p x).calRecs = s.calRecs := rfl
@[simp] theorem State.setPort_gpioIn (s : State) (p : Nat) (x : Port) : (s.setPort p x).gpioIn = s.gpioIn := rfl
@[simp] theorem State.setPort_pins (s : State) (p : Nat) (x : Port) : (s.setPort p x).pins = s.pins := rfl
@[simp] theorem State.setPort_queues (s : State) (p : Nat) (x : Port) : (s.setPort p x).queues = s.queues := rfl
@[simp] theorem State.setPort_drams (s : State) (p : Nat) (x : Port) : (s.setPort p x).drams = s.drams := rfl
@[simp] theorem State.setPort_dmas (s : State) (p : Nat) (x : Port) : (s.setPort p x).dmas = s.dmas := rfl
@[simp] theorem State.setPort_encs (s : State) (p : Nat) (x : Port) : (s.setPort p x).encs = s.encs := rfl
@[simp] theorem State.setPort_wheel (s : State) (p : Nat) (x : Port) : (s.setPort p x).wheel = s.wheel := rfl
@[simp] theorem State.setPort_gens (s : State) (p : Nat) (x : Port) : (s.setPort p x).gens = s.gens := rfl
@[simp] theorem State.setPort_trigs (s : State) (p : Nat) (x : Port) : (s.setPort p x).trigs = s.trigs := rfl
@[simp] theorem State.setPort_cmps (s : State) (p : Nat) (x : Port) : (s.setPort p x).cmps = s.cmps := rfl
@[simp] theorem State.setPort_probes (s : State) (p : Nat) (x : Port) : (s.setPort p x).probes = s.probes := rfl
@[simp] theorem State.setPort_mirs (s : State) (p : Nat) (x : Port) : (s.setPort p x).mirs = s.mirs := rfl
@[simp] theorem State.setPort_cams (s : State) (p : Nat) (x : Port) : (s.setPort p x).cams = s.cams := rfl
@[simp] theorem State.setPort_uplinks (s : State) (p : Nat) (x : Port) : (s.setPort p x).uplinks = s.uplinks := rfl
@[simp] theorem State.setPort_ctxs (s : State) (p : Nat) (x : Port) : (s.setPort p x).ctxs = s.ctxs := rfl
@[simp] theorem State.setPort_pipes (s : State) (p : Nat) (x : Port) : (s.setPort p x).pipes = s.pipes := rfl
@[simp] theorem State.setPort_seam (s : State) (p : Nat) (x : Port) : (s.setPort p x).seam = s.seam := rfl
@[simp] theorem State.setPort_coding (s : State) (p : Nat) (x : Port) : (s.setPort p x).coding = s.coding := rfl
@[simp] theorem State.setPort_wins (s : State) (p : Nat) (x : Port) : (s.setPort p x).wins = s.wins := rfl
@[simp] theorem State.setPort_views (s : State) (p : Nat) (x : Port) : (s.setPort p x).views = s.views := rfl
@[simp] theorem State.setPort_zes (s : State) (p : Nat) (x : Port) : (s.setPort p x).zes = s.zes := rfl
@[simp] theorem State.setPort_cropJobs (s : State) (p : Nat) (x : Port) : (s.setPort p x).cropJobs = s.cropJobs := rfl
@[simp] theorem State.setPort_slip (s : State) (p : Nat) (x : Port) : (s.setPort p x).slip = s.slip := rfl
@[simp] theorem State.setPort_bars (s : State) (p : Nat) (x : Port) : (s.setPort p x).bars = s.bars := rfl
@[simp] theorem State.setPort_ports (s : State) (p : Nat) (x : Port) : (s.setPort p x).ports = tput s.ports p x := rfl
@[simp] theorem State.setPort_heads (s : State) (p : Nat) (x : Port) : (s.setPort p x).heads = s.heads := rfl
@[simp] theorem State.setPort_scan (s : State) (p : Nat) (x : Port) : (s.setPort p x).scan = s.scan := rfl
@[simp] theorem State.setPort_gas (s : State) (p : Nat) (x : Port) : (s.setPort p x).gas = s.gas := rfl
@[simp] theorem State.setPort_syncAt (s : State) (p : Nat) (x : Port) : (s.setPort p x).syncAt = s.syncAt := rfl
@[simp] theorem State.setPort_umb (s : State) (p : Nat) (x : Port) : (s.setPort p x).umb = s.umb := rfl
@[simp] theorem State.setPort_loop (s : State) (p : Nat) (x : Port) : (s.setPort p x).loop = s.loop := rfl
@[simp] theorem State.setPort_skl (s : State) (p : Nat) (x : Port) : (s.setPort p x).skl = s.skl := rfl
@[simp] theorem State.setPort_sync (s : State) (p : Nat) (x : Port) : (s.setPort p x).sync = s.sync := rfl

/-! ### setGlaze -/

@[simp] theorem State.setGlaze_pending (s : State) (n w : Nat) : (s.setGlaze n w).pending = s.pending := rfl
@[simp] theorem State.setGlaze_now (s : State) (n w : Nat) : (s.setGlaze n w).now = s.now := rfl
@[simp] theorem State.setGlaze_timeBase (s : State) (n w : Nat) : (s.setGlaze n w).timeBase = s.timeBase := rfl
@[simp] theorem State.setGlaze_timeC0 (s : State) (n w : Nat) : (s.setGlaze n w).timeC0 = s.timeC0 := rfl
@[simp] theorem State.setGlaze_stateAt (s : State) (n w : Nat) : (s.setGlaze n w).stateAt = s.stateAt := rfl
@[simp] theorem State.setGlaze_free (s : State) (n w : Nat) : (s.setGlaze n w).free = s.free := rfl
@[simp] theorem State.setGlaze_regs (s : State) (n w : Nat) : (s.setGlaze n w).regs = s.regs := rfl
@[simp] theorem State.setGlaze_shadow (s : State) (n w : Nat) : (s.setGlaze n w).shadow = s.shadow := rfl
@[simp] theorem State.setGlaze_dom (s : State) (n w : Nat) : (s.setGlaze n w).dom = s.dom := rfl
@[simp] theorem State.setGlaze_domLens (s : State) (n w : Nat) : (s.setGlaze n w).domLens = s.domLens := rfl
@[simp] theorem State.setGlaze_shDom (s : State) (n w : Nat) : (s.setGlaze n w).shDom = s.shDom := rfl
@[simp] theorem State.setGlaze_shDomLens (s : State) (n w : Nat) : (s.setGlaze n w).shDomLens = s.shDomLens := rfl
@[simp] theorem State.setGlaze_own (s : State) (n w : Nat) : (s.setGlaze n w).own = s.own := rfl
@[simp] theorem State.setGlaze_sherds (s : State) (n w : Nat) : (s.setGlaze n w).sherds = s.sherds := rfl
@[simp] theorem State.setGlaze_commitBands (s : State) (n w : Nat) : (s.setGlaze n w).commitBands = s.commitBands := rfl
@[simp] theorem State.setGlaze_readData (s : State) (n w : Nat) : (s.setGlaze n w).readData = s.readData := rfl
@[simp] theorem State.setGlaze_chal (s : State) (n w : Nat) : (s.setGlaze n w).chal = s.chal := rfl
@[simp] theorem State.setGlaze_xfers (s : State) (n w : Nat) : (s.setGlaze n w).xfers = s.xfers := rfl
@[simp] theorem State.setGlaze_sessions (s : State) (n w : Nat) : (s.setGlaze n w).sessions = s.sessions := rfl
@[simp] theorem State.setGlaze_udpOut (s : State) (n w : Nat) : (s.setGlaze n w).udpOut = s.udpOut := rfl
@[simp] theorem State.setGlaze_hostOut (s : State) (n w : Nat) : (s.setGlaze n w).hostOut = s.hostOut := rfl
@[simp] theorem State.setGlaze_ethOut (s : State) (n w : Nat) : (s.setGlaze n w).ethOut = s.ethOut := rfl
@[simp] theorem State.setGlaze_arp (s : State) (n w : Nat) : (s.setGlaze n w).arp = s.arp := rfl
@[simp] theorem State.setGlaze_mem (s : State) (n w : Nat) : (s.setGlaze n w).mem = s.mem := rfl
@[simp] theorem State.setGlaze_glaze (s : State) (n w : Nat) : (s.setGlaze n w).glaze = if w = 0x0FFFC00800400000 then terase s.glaze n else tput s.glaze n w := rfl
@[simp] theorem State.setGlaze_raised (s : State) (n w : Nat) : (s.setGlaze n w).raised = s.raised := rfl
@[simp] theorem State.setGlaze_tasks (s : State) (n w : Nat) : (s.setGlaze n w).tasks = s.tasks := rfl
@[simp] theorem State.setGlaze_holdEnds (s : State) (n w : Nat) : (s.setGlaze n w).holdEnds = s.holdEnds := rfl
@[simp] theorem State.setGlaze_maskSetAt (s : State) (n w : Nat) : (s.setGlaze n w).maskSetAt = s.maskSetAt := rfl
@[simp] theorem State.setGlaze_arrived (s : State) (n w : Nat) : (s.setGlaze n w).arrived = s.arrived := rfl
@[simp] theorem State.setGlaze_msix (s : State) (n w : Nat) : (s.setGlaze n w).msix = s.msix := rfl
@[simp] theorem State.setGlaze_wbuf (s : State) (n w : Nat) : (s.setGlaze n w).wbuf = s.wbuf := rfl
@[simp] theorem State.setGlaze_wring (s : State) (n w : Nat) : (s.setGlaze n w).wring = s.wring := rfl
@[simp] theorem State.setGlaze_wgap (s : State) (n w : Nat) : (s.setGlaze n w).wgap = s.wgap := rfl
@[simp] theorem State.setGlaze_faultTimes (s : State) (n w : Nat) : (s.setGlaze n w).faultTimes = s.faultTimes := rfl
@[simp] theorem State.setGlaze_fuses (s : State) (n w : Nat) : (s.setGlaze n w).fuses = s.fuses := rfl
@[simp] theorem State.setGlaze_boot (s : State) (n w : Nat) : (s.setGlaze n w).boot = s.boot := rfl
@[simp] theorem State.setGlaze_power (s : State) (n w : Nat) : (s.setGlaze n w).power = s.power := rfl
@[simp] theorem State.setGlaze_cores (s : State) (n w : Nat) : (s.setGlaze n w).cores = s.cores := rfl
@[simp] theorem State.setGlaze_coreFaults (s : State) (n w : Nat) : (s.setGlaze n w).coreFaults = s.coreFaults := rfl
@[simp] theorem State.setGlaze_wdog (s : State) (n w : Nat) : (s.setGlaze n w).wdog = s.wdog := rfl
@[simp] theorem State.setGlaze_hot (s : State) (n w : Nat) : (s.setGlaze n w).hot = s.hot := rfl
@[simp] theorem State.setGlaze_calRecs (s : State) (n w : Nat) : (s.setGlaze n w).calRecs = s.calRecs := rfl
@[simp] theorem State.setGlaze_gpioIn (s : State) (n w : Nat) : (s.setGlaze n w).gpioIn = s.gpioIn := rfl
@[simp] theorem State.setGlaze_pins (s : State) (n w : Nat) : (s.setGlaze n w).pins = s.pins := rfl
@[simp] theorem State.setGlaze_queues (s : State) (n w : Nat) : (s.setGlaze n w).queues = s.queues := rfl
@[simp] theorem State.setGlaze_drams (s : State) (n w : Nat) : (s.setGlaze n w).drams = s.drams := rfl
@[simp] theorem State.setGlaze_dmas (s : State) (n w : Nat) : (s.setGlaze n w).dmas = s.dmas := rfl
@[simp] theorem State.setGlaze_encs (s : State) (n w : Nat) : (s.setGlaze n w).encs = s.encs := rfl
@[simp] theorem State.setGlaze_wheel (s : State) (n w : Nat) : (s.setGlaze n w).wheel = s.wheel := rfl
@[simp] theorem State.setGlaze_gens (s : State) (n w : Nat) : (s.setGlaze n w).gens = s.gens := rfl
@[simp] theorem State.setGlaze_trigs (s : State) (n w : Nat) : (s.setGlaze n w).trigs = s.trigs := rfl
@[simp] theorem State.setGlaze_cmps (s : State) (n w : Nat) : (s.setGlaze n w).cmps = s.cmps := rfl
@[simp] theorem State.setGlaze_probes (s : State) (n w : Nat) : (s.setGlaze n w).probes = s.probes := rfl
@[simp] theorem State.setGlaze_mirs (s : State) (n w : Nat) : (s.setGlaze n w).mirs = s.mirs := rfl
@[simp] theorem State.setGlaze_cams (s : State) (n w : Nat) : (s.setGlaze n w).cams = s.cams := rfl
@[simp] theorem State.setGlaze_uplinks (s : State) (n w : Nat) : (s.setGlaze n w).uplinks = s.uplinks := rfl
@[simp] theorem State.setGlaze_ctxs (s : State) (n w : Nat) : (s.setGlaze n w).ctxs = s.ctxs := rfl
@[simp] theorem State.setGlaze_pipes (s : State) (n w : Nat) : (s.setGlaze n w).pipes = s.pipes := rfl
@[simp] theorem State.setGlaze_seam (s : State) (n w : Nat) : (s.setGlaze n w).seam = s.seam := rfl
@[simp] theorem State.setGlaze_coding (s : State) (n w : Nat) : (s.setGlaze n w).coding = s.coding := rfl
@[simp] theorem State.setGlaze_wins (s : State) (n w : Nat) : (s.setGlaze n w).wins = s.wins := rfl
@[simp] theorem State.setGlaze_views (s : State) (n w : Nat) : (s.setGlaze n w).views = s.views := rfl
@[simp] theorem State.setGlaze_zes (s : State) (n w : Nat) : (s.setGlaze n w).zes = s.zes := rfl
@[simp] theorem State.setGlaze_cropJobs (s : State) (n w : Nat) : (s.setGlaze n w).cropJobs = s.cropJobs := rfl
@[simp] theorem State.setGlaze_slip (s : State) (n w : Nat) : (s.setGlaze n w).slip = s.slip := rfl
@[simp] theorem State.setGlaze_bars (s : State) (n w : Nat) : (s.setGlaze n w).bars = s.bars := rfl
@[simp] theorem State.setGlaze_ports (s : State) (n w : Nat) : (s.setGlaze n w).ports = s.ports := rfl
@[simp] theorem State.setGlaze_heads (s : State) (n w : Nat) : (s.setGlaze n w).heads = s.heads := rfl
@[simp] theorem State.setGlaze_scan (s : State) (n w : Nat) : (s.setGlaze n w).scan = s.scan := rfl
@[simp] theorem State.setGlaze_gas (s : State) (n w : Nat) : (s.setGlaze n w).gas = s.gas := rfl
@[simp] theorem State.setGlaze_syncAt (s : State) (n w : Nat) : (s.setGlaze n w).syncAt = s.syncAt := rfl
@[simp] theorem State.setGlaze_umb (s : State) (n w : Nat) : (s.setGlaze n w).umb = s.umb := rfl
@[simp] theorem State.setGlaze_loop (s : State) (n w : Nat) : (s.setGlaze n w).loop = s.loop := rfl
@[simp] theorem State.setGlaze_skl (s : State) (n w : Nat) : (s.setGlaze n w).skl = s.skl := rfl
@[simp] theorem State.setGlaze_sync (s : State) (n w : Nat) : (s.setGlaze n w).sync = s.sync := rfl

/-! ### tick -/

@[simp] theorem State.tick_pending (s : State) : (s.tick).pending = s.pending := rfl
@[simp] theorem State.tick_now (s : State) : (s.tick).now = s.now + 1 := rfl
@[simp] theorem State.tick_timeBase (s : State) : (s.tick).timeBase = s.timeBase := rfl
@[simp] theorem State.tick_timeC0 (s : State) : (s.tick).timeC0 = s.timeC0 := rfl
@[simp] theorem State.tick_stateAt (s : State) : (s.tick).stateAt = s.stateAt := rfl
@[simp] theorem State.tick_free (s : State) : (s.tick).free = s.free := rfl
@[simp] theorem State.tick_regs (s : State) : (s.tick).regs = s.regs := rfl
@[simp] theorem State.tick_shadow (s : State) : (s.tick).shadow = s.shadow := rfl
@[simp] theorem State.tick_dom (s : State) : (s.tick).dom = s.dom := rfl
@[simp] theorem State.tick_domLens (s : State) : (s.tick).domLens = s.domLens := rfl
@[simp] theorem State.tick_shDom (s : State) : (s.tick).shDom = s.shDom := rfl
@[simp] theorem State.tick_shDomLens (s : State) : (s.tick).shDomLens = s.shDomLens := rfl
@[simp] theorem State.tick_own (s : State) : (s.tick).own = s.own := rfl
@[simp] theorem State.tick_sherds (s : State) : (s.tick).sherds = s.sherds := rfl
@[simp] theorem State.tick_commitBands (s : State) : (s.tick).commitBands = s.commitBands := rfl
@[simp] theorem State.tick_readData (s : State) : (s.tick).readData = s.readData := rfl
@[simp] theorem State.tick_chal (s : State) : (s.tick).chal = s.chal := rfl
@[simp] theorem State.tick_xfers (s : State) : (s.tick).xfers = s.xfers := rfl
@[simp] theorem State.tick_sessions (s : State) : (s.tick).sessions = s.sessions := rfl
@[simp] theorem State.tick_udpOut (s : State) : (s.tick).udpOut = s.udpOut := rfl
@[simp] theorem State.tick_hostOut (s : State) : (s.tick).hostOut = s.hostOut := rfl
@[simp] theorem State.tick_ethOut (s : State) : (s.tick).ethOut = s.ethOut := rfl
@[simp] theorem State.tick_arp (s : State) : (s.tick).arp = s.arp := rfl
@[simp] theorem State.tick_mem (s : State) : (s.tick).mem = s.mem := rfl
@[simp] theorem State.tick_glaze (s : State) : (s.tick).glaze = s.glaze := rfl
@[simp] theorem State.tick_raised (s : State) : (s.tick).raised = s.raised := rfl
@[simp] theorem State.tick_tasks (s : State) : (s.tick).tasks = s.tasks := rfl
@[simp] theorem State.tick_holdEnds (s : State) : (s.tick).holdEnds = s.holdEnds := rfl
@[simp] theorem State.tick_maskSetAt (s : State) : (s.tick).maskSetAt = s.maskSetAt := rfl
@[simp] theorem State.tick_arrived (s : State) : (s.tick).arrived = s.arrived := rfl
@[simp] theorem State.tick_msix (s : State) : (s.tick).msix = s.msix := rfl
@[simp] theorem State.tick_wbuf (s : State) : (s.tick).wbuf = s.wbuf := rfl
@[simp] theorem State.tick_wring (s : State) : (s.tick).wring = s.wring := rfl
@[simp] theorem State.tick_wgap (s : State) : (s.tick).wgap = s.wgap := rfl
@[simp] theorem State.tick_faultTimes (s : State) : (s.tick).faultTimes = s.faultTimes := rfl
@[simp] theorem State.tick_fuses (s : State) : (s.tick).fuses = s.fuses := rfl
@[simp] theorem State.tick_boot (s : State) : (s.tick).boot = s.boot := rfl
@[simp] theorem State.tick_power (s : State) : (s.tick).power = s.power := rfl
@[simp] theorem State.tick_cores (s : State) : (s.tick).cores = s.cores := rfl
@[simp] theorem State.tick_coreFaults (s : State) : (s.tick).coreFaults = s.coreFaults := rfl
@[simp] theorem State.tick_wdog (s : State) : (s.tick).wdog = s.wdog := rfl
@[simp] theorem State.tick_hot (s : State) : (s.tick).hot = s.hot := rfl
@[simp] theorem State.tick_calRecs (s : State) : (s.tick).calRecs = s.calRecs := rfl
@[simp] theorem State.tick_gpioIn (s : State) : (s.tick).gpioIn = s.gpioIn := rfl
@[simp] theorem State.tick_pins (s : State) : (s.tick).pins = s.pins := rfl
@[simp] theorem State.tick_queues (s : State) : (s.tick).queues = s.queues := rfl
@[simp] theorem State.tick_drams (s : State) : (s.tick).drams = s.drams := rfl
@[simp] theorem State.tick_dmas (s : State) : (s.tick).dmas = s.dmas := rfl
@[simp] theorem State.tick_encs (s : State) : (s.tick).encs = s.encs := rfl
@[simp] theorem State.tick_wheel (s : State) : (s.tick).wheel = s.wheel := rfl
@[simp] theorem State.tick_gens (s : State) : (s.tick).gens = s.gens := rfl
@[simp] theorem State.tick_trigs (s : State) : (s.tick).trigs = s.trigs := rfl
@[simp] theorem State.tick_cmps (s : State) : (s.tick).cmps = s.cmps := rfl
@[simp] theorem State.tick_probes (s : State) : (s.tick).probes = s.probes := rfl
@[simp] theorem State.tick_mirs (s : State) : (s.tick).mirs = s.mirs := rfl
@[simp] theorem State.tick_cams (s : State) : (s.tick).cams = s.cams := rfl
@[simp] theorem State.tick_uplinks (s : State) : (s.tick).uplinks = s.uplinks := rfl
@[simp] theorem State.tick_ctxs (s : State) : (s.tick).ctxs = s.ctxs := rfl
@[simp] theorem State.tick_pipes (s : State) : (s.tick).pipes = s.pipes := rfl
@[simp] theorem State.tick_seam (s : State) : (s.tick).seam = s.seam := rfl
@[simp] theorem State.tick_coding (s : State) : (s.tick).coding = s.coding := rfl
@[simp] theorem State.tick_wins (s : State) : (s.tick).wins = s.wins := rfl
@[simp] theorem State.tick_views (s : State) : (s.tick).views = s.views := rfl
@[simp] theorem State.tick_zes (s : State) : (s.tick).zes = s.zes := rfl
@[simp] theorem State.tick_cropJobs (s : State) : (s.tick).cropJobs = s.cropJobs := rfl
@[simp] theorem State.tick_slip (s : State) : (s.tick).slip = s.slip := rfl
@[simp] theorem State.tick_bars (s : State) : (s.tick).bars = s.bars := rfl
@[simp] theorem State.tick_ports (s : State) : (s.tick).ports = s.ports := rfl
@[simp] theorem State.tick_heads (s : State) : (s.tick).heads = s.heads := rfl
@[simp] theorem State.tick_scan (s : State) : (s.tick).scan = s.scan := rfl
@[simp] theorem State.tick_gas (s : State) : (s.tick).gas = s.gas := rfl
@[simp] theorem State.tick_syncAt (s : State) : (s.tick).syncAt = s.syncAt := rfl
@[simp] theorem State.tick_umb (s : State) : (s.tick).umb = s.umb := rfl
@[simp] theorem State.tick_loop (s : State) : (s.tick).loop = s.loop := rfl
@[simp] theorem State.tick_skl (s : State) : (s.tick).skl = s.skl := rfl
@[simp] theorem State.tick_sync (s : State) : (s.tick).sync = s.sync := rfl

/-! ### gensOff -/

@[simp] theorem State.gensOff_pending (s : State) : (s.gensOff).pending = s.pending := rfl
@[simp] theorem State.gensOff_now (s : State) : (s.gensOff).now = s.now := rfl
@[simp] theorem State.gensOff_timeBase (s : State) : (s.gensOff).timeBase = s.timeBase := rfl
@[simp] theorem State.gensOff_timeC0 (s : State) : (s.gensOff).timeC0 = s.timeC0 := rfl
@[simp] theorem State.gensOff_stateAt (s : State) : (s.gensOff).stateAt = s.stateAt := rfl
@[simp] theorem State.gensOff_free (s : State) : (s.gensOff).free = s.free := rfl
@[simp] theorem State.gensOff_regs (s : State) : (s.gensOff).regs = s.regs := rfl
@[simp] theorem State.gensOff_shadow (s : State) : (s.gensOff).shadow = s.shadow := rfl
@[simp] theorem State.gensOff_dom (s : State) : (s.gensOff).dom = s.dom := rfl
@[simp] theorem State.gensOff_domLens (s : State) : (s.gensOff).domLens = s.domLens := rfl
@[simp] theorem State.gensOff_shDom (s : State) : (s.gensOff).shDom = s.shDom := rfl
@[simp] theorem State.gensOff_shDomLens (s : State) : (s.gensOff).shDomLens = s.shDomLens := rfl
@[simp] theorem State.gensOff_own (s : State) : (s.gensOff).own = s.own := rfl
@[simp] theorem State.gensOff_sherds (s : State) : (s.gensOff).sherds = s.sherds := rfl
@[simp] theorem State.gensOff_commitBands (s : State) : (s.gensOff).commitBands = s.commitBands := rfl
@[simp] theorem State.gensOff_readData (s : State) : (s.gensOff).readData = s.readData := rfl
@[simp] theorem State.gensOff_chal (s : State) : (s.gensOff).chal = s.chal := rfl
@[simp] theorem State.gensOff_xfers (s : State) : (s.gensOff).xfers = s.xfers := rfl
@[simp] theorem State.gensOff_sessions (s : State) : (s.gensOff).sessions = s.sessions := rfl
@[simp] theorem State.gensOff_udpOut (s : State) : (s.gensOff).udpOut = s.udpOut := rfl
@[simp] theorem State.gensOff_hostOut (s : State) : (s.gensOff).hostOut = s.hostOut := rfl
@[simp] theorem State.gensOff_ethOut (s : State) : (s.gensOff).ethOut = s.ethOut := rfl
@[simp] theorem State.gensOff_arp (s : State) : (s.gensOff).arp = s.arp := rfl
@[simp] theorem State.gensOff_mem (s : State) : (s.gensOff).mem = s.mem := rfl
@[simp] theorem State.gensOff_glaze (s : State) : (s.gensOff).glaze = s.glaze := rfl
@[simp] theorem State.gensOff_raised (s : State) : (s.gensOff).raised = s.raised := rfl
@[simp] theorem State.gensOff_tasks (s : State) : (s.gensOff).tasks = s.tasks := rfl
@[simp] theorem State.gensOff_holdEnds (s : State) : (s.gensOff).holdEnds = s.holdEnds := rfl
@[simp] theorem State.gensOff_maskSetAt (s : State) : (s.gensOff).maskSetAt = s.maskSetAt := rfl
@[simp] theorem State.gensOff_arrived (s : State) : (s.gensOff).arrived = s.arrived := rfl
@[simp] theorem State.gensOff_msix (s : State) : (s.gensOff).msix = s.msix := rfl
@[simp] theorem State.gensOff_wbuf (s : State) : (s.gensOff).wbuf = s.wbuf := rfl
@[simp] theorem State.gensOff_wring (s : State) : (s.gensOff).wring = s.wring := rfl
@[simp] theorem State.gensOff_wgap (s : State) : (s.gensOff).wgap = s.wgap := rfl
@[simp] theorem State.gensOff_faultTimes (s : State) : (s.gensOff).faultTimes = s.faultTimes := rfl
@[simp] theorem State.gensOff_fuses (s : State) : (s.gensOff).fuses = s.fuses := rfl
@[simp] theorem State.gensOff_boot (s : State) : (s.gensOff).boot = s.boot := rfl
@[simp] theorem State.gensOff_power (s : State) : (s.gensOff).power = s.power := rfl
@[simp] theorem State.gensOff_cores (s : State) : (s.gensOff).cores = s.cores := rfl
@[simp] theorem State.gensOff_coreFaults (s : State) : (s.gensOff).coreFaults = s.coreFaults := rfl
@[simp] theorem State.gensOff_wdog (s : State) : (s.gensOff).wdog = s.wdog := rfl
@[simp] theorem State.gensOff_hot (s : State) : (s.gensOff).hot = s.hot := rfl
@[simp] theorem State.gensOff_calRecs (s : State) : (s.gensOff).calRecs = s.calRecs := rfl
@[simp] theorem State.gensOff_gpioIn (s : State) : (s.gensOff).gpioIn = s.gpioIn := rfl
@[simp] theorem State.gensOff_pins (s : State) : (s.gensOff).pins = s.pins := rfl
@[simp] theorem State.gensOff_queues (s : State) : (s.gensOff).queues = s.queues := rfl
@[simp] theorem State.gensOff_drams (s : State) : (s.gensOff).drams = s.drams := rfl
@[simp] theorem State.gensOff_dmas (s : State) : (s.gensOff).dmas = s.dmas := rfl
@[simp] theorem State.gensOff_encs (s : State) : (s.gensOff).encs = s.encs := rfl
@[simp] theorem State.gensOff_wheel (s : State) : (s.gensOff).wheel = s.wheel := rfl
@[simp] theorem State.gensOff_trigs (s : State) : (s.gensOff).trigs = [] := rfl
@[simp] theorem State.gensOff_cmps (s : State) : (s.gensOff).cmps = s.cmps := rfl
@[simp] theorem State.gensOff_probes (s : State) : (s.gensOff).probes = s.probes := rfl
@[simp] theorem State.gensOff_mirs (s : State) : (s.gensOff).mirs = s.mirs := rfl
@[simp] theorem State.gensOff_cams (s : State) : (s.gensOff).cams = s.cams := rfl
@[simp] theorem State.gensOff_uplinks (s : State) : (s.gensOff).uplinks = s.uplinks := rfl
@[simp] theorem State.gensOff_ctxs (s : State) : (s.gensOff).ctxs = s.ctxs := rfl
@[simp] theorem State.gensOff_pipes (s : State) : (s.gensOff).pipes = s.pipes := rfl
@[simp] theorem State.gensOff_seam (s : State) : (s.gensOff).seam = s.seam := rfl
@[simp] theorem State.gensOff_coding (s : State) : (s.gensOff).coding = s.coding := rfl
@[simp] theorem State.gensOff_wins (s : State) : (s.gensOff).wins = s.wins := rfl
@[simp] theorem State.gensOff_views (s : State) : (s.gensOff).views = s.views := rfl
@[simp] theorem State.gensOff_zes (s : State) : (s.gensOff).zes = s.zes := rfl
@[simp] theorem State.gensOff_cropJobs (s : State) : (s.gensOff).cropJobs = s.cropJobs := rfl
@[simp] theorem State.gensOff_slip (s : State) : (s.gensOff).slip = s.slip := rfl
@[simp] theorem State.gensOff_bars (s : State) : (s.gensOff).bars = s.bars := rfl
@[simp] theorem State.gensOff_ports (s : State) : (s.gensOff).ports = s.ports := rfl
@[simp] theorem State.gensOff_heads (s : State) : (s.gensOff).heads = s.heads := rfl
@[simp] theorem State.gensOff_scan (s : State) : (s.gensOff).scan = s.scan := rfl
@[simp] theorem State.gensOff_gas (s : State) : (s.gensOff).gas = s.gas := rfl
@[simp] theorem State.gensOff_syncAt (s : State) : (s.gensOff).syncAt = s.syncAt := rfl
@[simp] theorem State.gensOff_umb (s : State) : (s.gensOff).umb = s.umb := rfl
@[simp] theorem State.gensOff_loop (s : State) : (s.gensOff).loop = s.loop := rfl
@[simp] theorem State.gensOff_skl (s : State) : (s.gensOff).skl = s.skl := rfl
@[simp] theorem State.gensOff_sync (s : State) : (s.gensOff).sync = s.sync := rfl

/-! ### setSync -/

@[simp] theorem State.setSync_pending (s : State) (x : TimeSync) : (s.setSync x).pending = s.pending := rfl
@[simp] theorem State.setSync_now (s : State) (x : TimeSync) : (s.setSync x).now = s.now := rfl
@[simp] theorem State.setSync_timeBase (s : State) (x : TimeSync) : (s.setSync x).timeBase = s.timeBase := rfl
@[simp] theorem State.setSync_timeC0 (s : State) (x : TimeSync) : (s.setSync x).timeC0 = s.timeC0 := rfl
@[simp] theorem State.setSync_stateAt (s : State) (x : TimeSync) : (s.setSync x).stateAt = s.stateAt := rfl
@[simp] theorem State.setSync_free (s : State) (x : TimeSync) : (s.setSync x).free = s.free := rfl
@[simp] theorem State.setSync_regs (s : State) (x : TimeSync) : (s.setSync x).regs = s.regs := rfl
@[simp] theorem State.setSync_shadow (s : State) (x : TimeSync) : (s.setSync x).shadow = s.shadow := rfl
@[simp] theorem State.setSync_dom (s : State) (x : TimeSync) : (s.setSync x).dom = s.dom := rfl
@[simp] theorem State.setSync_domLens (s : State) (x : TimeSync) : (s.setSync x).domLens = s.domLens := rfl
@[simp] theorem State.setSync_shDom (s : State) (x : TimeSync) : (s.setSync x).shDom = s.shDom := rfl
@[simp] theorem State.setSync_shDomLens (s : State) (x : TimeSync) : (s.setSync x).shDomLens = s.shDomLens := rfl
@[simp] theorem State.setSync_own (s : State) (x : TimeSync) : (s.setSync x).own = s.own := rfl
@[simp] theorem State.setSync_sherds (s : State) (x : TimeSync) : (s.setSync x).sherds = s.sherds := rfl
@[simp] theorem State.setSync_commitBands (s : State) (x : TimeSync) : (s.setSync x).commitBands = s.commitBands := rfl
@[simp] theorem State.setSync_readData (s : State) (x : TimeSync) : (s.setSync x).readData = s.readData := rfl
@[simp] theorem State.setSync_chal (s : State) (x : TimeSync) : (s.setSync x).chal = s.chal := rfl
@[simp] theorem State.setSync_xfers (s : State) (x : TimeSync) : (s.setSync x).xfers = s.xfers := rfl
@[simp] theorem State.setSync_sessions (s : State) (x : TimeSync) : (s.setSync x).sessions = s.sessions := rfl
@[simp] theorem State.setSync_udpOut (s : State) (x : TimeSync) : (s.setSync x).udpOut = s.udpOut := rfl
@[simp] theorem State.setSync_hostOut (s : State) (x : TimeSync) : (s.setSync x).hostOut = s.hostOut := rfl
@[simp] theorem State.setSync_ethOut (s : State) (x : TimeSync) : (s.setSync x).ethOut = s.ethOut := rfl
@[simp] theorem State.setSync_arp (s : State) (x : TimeSync) : (s.setSync x).arp = s.arp := rfl
@[simp] theorem State.setSync_mem (s : State) (x : TimeSync) : (s.setSync x).mem = s.mem := rfl
@[simp] theorem State.setSync_glaze (s : State) (x : TimeSync) : (s.setSync x).glaze = s.glaze := rfl
@[simp] theorem State.setSync_raised (s : State) (x : TimeSync) : (s.setSync x).raised = s.raised := rfl
@[simp] theorem State.setSync_tasks (s : State) (x : TimeSync) : (s.setSync x).tasks = s.tasks := rfl
@[simp] theorem State.setSync_holdEnds (s : State) (x : TimeSync) : (s.setSync x).holdEnds = s.holdEnds := rfl
@[simp] theorem State.setSync_maskSetAt (s : State) (x : TimeSync) : (s.setSync x).maskSetAt = s.maskSetAt := rfl
@[simp] theorem State.setSync_arrived (s : State) (x : TimeSync) : (s.setSync x).arrived = s.arrived := rfl
@[simp] theorem State.setSync_msix (s : State) (x : TimeSync) : (s.setSync x).msix = s.msix := rfl
@[simp] theorem State.setSync_wbuf (s : State) (x : TimeSync) : (s.setSync x).wbuf = s.wbuf := rfl
@[simp] theorem State.setSync_wring (s : State) (x : TimeSync) : (s.setSync x).wring = s.wring := rfl
@[simp] theorem State.setSync_wgap (s : State) (x : TimeSync) : (s.setSync x).wgap = s.wgap := rfl
@[simp] theorem State.setSync_faultTimes (s : State) (x : TimeSync) : (s.setSync x).faultTimes = s.faultTimes := rfl
@[simp] theorem State.setSync_fuses (s : State) (x : TimeSync) : (s.setSync x).fuses = s.fuses := rfl
@[simp] theorem State.setSync_boot (s : State) (x : TimeSync) : (s.setSync x).boot = s.boot := rfl
@[simp] theorem State.setSync_power (s : State) (x : TimeSync) : (s.setSync x).power = s.power := rfl
@[simp] theorem State.setSync_cores (s : State) (x : TimeSync) : (s.setSync x).cores = s.cores := rfl
@[simp] theorem State.setSync_coreFaults (s : State) (x : TimeSync) : (s.setSync x).coreFaults = s.coreFaults := rfl
@[simp] theorem State.setSync_wdog (s : State) (x : TimeSync) : (s.setSync x).wdog = s.wdog := rfl
@[simp] theorem State.setSync_hot (s : State) (x : TimeSync) : (s.setSync x).hot = s.hot := rfl
@[simp] theorem State.setSync_calRecs (s : State) (x : TimeSync) : (s.setSync x).calRecs = s.calRecs := rfl
@[simp] theorem State.setSync_gpioIn (s : State) (x : TimeSync) : (s.setSync x).gpioIn = s.gpioIn := rfl
@[simp] theorem State.setSync_pins (s : State) (x : TimeSync) : (s.setSync x).pins = s.pins := rfl
@[simp] theorem State.setSync_queues (s : State) (x : TimeSync) : (s.setSync x).queues = s.queues := rfl
@[simp] theorem State.setSync_drams (s : State) (x : TimeSync) : (s.setSync x).drams = s.drams := rfl
@[simp] theorem State.setSync_dmas (s : State) (x : TimeSync) : (s.setSync x).dmas = s.dmas := rfl
@[simp] theorem State.setSync_encs (s : State) (x : TimeSync) : (s.setSync x).encs = s.encs := rfl
@[simp] theorem State.setSync_wheel (s : State) (x : TimeSync) : (s.setSync x).wheel = s.wheel := rfl
@[simp] theorem State.setSync_gens (s : State) (x : TimeSync) : (s.setSync x).gens = s.gens := rfl
@[simp] theorem State.setSync_trigs (s : State) (x : TimeSync) : (s.setSync x).trigs = s.trigs := rfl
@[simp] theorem State.setSync_cmps (s : State) (x : TimeSync) : (s.setSync x).cmps = s.cmps := rfl
@[simp] theorem State.setSync_probes (s : State) (x : TimeSync) : (s.setSync x).probes = s.probes := rfl
@[simp] theorem State.setSync_mirs (s : State) (x : TimeSync) : (s.setSync x).mirs = s.mirs := rfl
@[simp] theorem State.setSync_cams (s : State) (x : TimeSync) : (s.setSync x).cams = s.cams := rfl
@[simp] theorem State.setSync_uplinks (s : State) (x : TimeSync) : (s.setSync x).uplinks = s.uplinks := rfl
@[simp] theorem State.setSync_ctxs (s : State) (x : TimeSync) : (s.setSync x).ctxs = s.ctxs := rfl
@[simp] theorem State.setSync_pipes (s : State) (x : TimeSync) : (s.setSync x).pipes = s.pipes := rfl
@[simp] theorem State.setSync_seam (s : State) (x : TimeSync) : (s.setSync x).seam = s.seam := rfl
@[simp] theorem State.setSync_coding (s : State) (x : TimeSync) : (s.setSync x).coding = s.coding := rfl
@[simp] theorem State.setSync_wins (s : State) (x : TimeSync) : (s.setSync x).wins = s.wins := rfl
@[simp] theorem State.setSync_views (s : State) (x : TimeSync) : (s.setSync x).views = s.views := rfl
@[simp] theorem State.setSync_zes (s : State) (x : TimeSync) : (s.setSync x).zes = s.zes := rfl
@[simp] theorem State.setSync_cropJobs (s : State) (x : TimeSync) : (s.setSync x).cropJobs = s.cropJobs := rfl
@[simp] theorem State.setSync_slip (s : State) (x : TimeSync) : (s.setSync x).slip = s.slip := rfl
@[simp] theorem State.setSync_bars (s : State) (x : TimeSync) : (s.setSync x).bars = s.bars := rfl
@[simp] theorem State.setSync_ports (s : State) (x : TimeSync) : (s.setSync x).ports = s.ports := rfl
@[simp] theorem State.setSync_heads (s : State) (x : TimeSync) : (s.setSync x).heads = s.heads := rfl
@[simp] theorem State.setSync_scan (s : State) (x : TimeSync) : (s.setSync x).scan = s.scan := rfl
@[simp] theorem State.setSync_gas (s : State) (x : TimeSync) : (s.setSync x).gas = s.gas := rfl
@[simp] theorem State.setSync_syncAt (s : State) (x : TimeSync) : (s.setSync x).syncAt = s.syncAt := rfl
@[simp] theorem State.setSync_umb (s : State) (x : TimeSync) : (s.setSync x).umb = s.umb := rfl
@[simp] theorem State.setSync_loop (s : State) (x : TimeSync) : (s.setSync x).loop = s.loop := rfl
@[simp] theorem State.setSync_skl (s : State) (x : TimeSync) : (s.setSync x).skl = s.skl := rfl
@[simp] theorem State.setSync_sync (s : State) (x : TimeSync) : (s.setSync x).sync = x := rfl

/-! ### setUmb -/

@[simp] theorem State.setUmb_pending (s : State) (u : Umb) : (s.setUmb u).pending = s.pending := rfl
@[simp] theorem State.setUmb_now (s : State) (u : Umb) : (s.setUmb u).now = s.now := rfl
@[simp] theorem State.setUmb_timeBase (s : State) (u : Umb) : (s.setUmb u).timeBase = s.timeBase := rfl
@[simp] theorem State.setUmb_timeC0 (s : State) (u : Umb) : (s.setUmb u).timeC0 = s.timeC0 := rfl
@[simp] theorem State.setUmb_stateAt (s : State) (u : Umb) : (s.setUmb u).stateAt = s.stateAt := rfl
@[simp] theorem State.setUmb_free (s : State) (u : Umb) : (s.setUmb u).free = s.free := rfl
@[simp] theorem State.setUmb_regs (s : State) (u : Umb) : (s.setUmb u).regs = s.regs := rfl
@[simp] theorem State.setUmb_shadow (s : State) (u : Umb) : (s.setUmb u).shadow = s.shadow := rfl
@[simp] theorem State.setUmb_dom (s : State) (u : Umb) : (s.setUmb u).dom = s.dom := rfl
@[simp] theorem State.setUmb_domLens (s : State) (u : Umb) : (s.setUmb u).domLens = s.domLens := rfl
@[simp] theorem State.setUmb_shDom (s : State) (u : Umb) : (s.setUmb u).shDom = s.shDom := rfl
@[simp] theorem State.setUmb_shDomLens (s : State) (u : Umb) : (s.setUmb u).shDomLens = s.shDomLens := rfl
@[simp] theorem State.setUmb_own (s : State) (u : Umb) : (s.setUmb u).own = s.own := rfl
@[simp] theorem State.setUmb_sherds (s : State) (u : Umb) : (s.setUmb u).sherds = s.sherds := rfl
@[simp] theorem State.setUmb_commitBands (s : State) (u : Umb) : (s.setUmb u).commitBands = s.commitBands := rfl
@[simp] theorem State.setUmb_readData (s : State) (u : Umb) : (s.setUmb u).readData = s.readData := rfl
@[simp] theorem State.setUmb_chal (s : State) (u : Umb) : (s.setUmb u).chal = s.chal := rfl
@[simp] theorem State.setUmb_xfers (s : State) (u : Umb) : (s.setUmb u).xfers = s.xfers := rfl
@[simp] theorem State.setUmb_sessions (s : State) (u : Umb) : (s.setUmb u).sessions = s.sessions := rfl
@[simp] theorem State.setUmb_udpOut (s : State) (u : Umb) : (s.setUmb u).udpOut = s.udpOut := rfl
@[simp] theorem State.setUmb_hostOut (s : State) (u : Umb) : (s.setUmb u).hostOut = s.hostOut := rfl
@[simp] theorem State.setUmb_ethOut (s : State) (u : Umb) : (s.setUmb u).ethOut = s.ethOut := rfl
@[simp] theorem State.setUmb_arp (s : State) (u : Umb) : (s.setUmb u).arp = s.arp := rfl
@[simp] theorem State.setUmb_mem (s : State) (u : Umb) : (s.setUmb u).mem = s.mem := rfl
@[simp] theorem State.setUmb_glaze (s : State) (u : Umb) : (s.setUmb u).glaze = s.glaze := rfl
@[simp] theorem State.setUmb_raised (s : State) (u : Umb) : (s.setUmb u).raised = s.raised := rfl
@[simp] theorem State.setUmb_tasks (s : State) (u : Umb) : (s.setUmb u).tasks = s.tasks := rfl
@[simp] theorem State.setUmb_holdEnds (s : State) (u : Umb) : (s.setUmb u).holdEnds = s.holdEnds := rfl
@[simp] theorem State.setUmb_maskSetAt (s : State) (u : Umb) : (s.setUmb u).maskSetAt = s.maskSetAt := rfl
@[simp] theorem State.setUmb_arrived (s : State) (u : Umb) : (s.setUmb u).arrived = s.arrived := rfl
@[simp] theorem State.setUmb_msix (s : State) (u : Umb) : (s.setUmb u).msix = s.msix := rfl
@[simp] theorem State.setUmb_wbuf (s : State) (u : Umb) : (s.setUmb u).wbuf = s.wbuf := rfl
@[simp] theorem State.setUmb_wring (s : State) (u : Umb) : (s.setUmb u).wring = s.wring := rfl
@[simp] theorem State.setUmb_wgap (s : State) (u : Umb) : (s.setUmb u).wgap = s.wgap := rfl
@[simp] theorem State.setUmb_faultTimes (s : State) (u : Umb) : (s.setUmb u).faultTimes = s.faultTimes := rfl
@[simp] theorem State.setUmb_fuses (s : State) (u : Umb) : (s.setUmb u).fuses = s.fuses := rfl
@[simp] theorem State.setUmb_boot (s : State) (u : Umb) : (s.setUmb u).boot = s.boot := rfl
@[simp] theorem State.setUmb_power (s : State) (u : Umb) : (s.setUmb u).power = s.power := rfl
@[simp] theorem State.setUmb_cores (s : State) (u : Umb) : (s.setUmb u).cores = s.cores := rfl
@[simp] theorem State.setUmb_coreFaults (s : State) (u : Umb) : (s.setUmb u).coreFaults = s.coreFaults := rfl
@[simp] theorem State.setUmb_wdog (s : State) (u : Umb) : (s.setUmb u).wdog = s.wdog := rfl
@[simp] theorem State.setUmb_hot (s : State) (u : Umb) : (s.setUmb u).hot = s.hot := rfl
@[simp] theorem State.setUmb_calRecs (s : State) (u : Umb) : (s.setUmb u).calRecs = s.calRecs := rfl
@[simp] theorem State.setUmb_gpioIn (s : State) (u : Umb) : (s.setUmb u).gpioIn = s.gpioIn := rfl
@[simp] theorem State.setUmb_pins (s : State) (u : Umb) : (s.setUmb u).pins = s.pins := rfl
@[simp] theorem State.setUmb_queues (s : State) (u : Umb) : (s.setUmb u).queues = s.queues := rfl
@[simp] theorem State.setUmb_drams (s : State) (u : Umb) : (s.setUmb u).drams = s.drams := rfl
@[simp] theorem State.setUmb_dmas (s : State) (u : Umb) : (s.setUmb u).dmas = s.dmas := rfl
@[simp] theorem State.setUmb_encs (s : State) (u : Umb) : (s.setUmb u).encs = s.encs := rfl
@[simp] theorem State.setUmb_wheel (s : State) (u : Umb) : (s.setUmb u).wheel = s.wheel := rfl
@[simp] theorem State.setUmb_gens (s : State) (u : Umb) : (s.setUmb u).gens = s.gens := rfl
@[simp] theorem State.setUmb_trigs (s : State) (u : Umb) : (s.setUmb u).trigs = s.trigs := rfl
@[simp] theorem State.setUmb_cmps (s : State) (u : Umb) : (s.setUmb u).cmps = s.cmps := rfl
@[simp] theorem State.setUmb_probes (s : State) (u : Umb) : (s.setUmb u).probes = s.probes := rfl
@[simp] theorem State.setUmb_mirs (s : State) (u : Umb) : (s.setUmb u).mirs = s.mirs := rfl
@[simp] theorem State.setUmb_cams (s : State) (u : Umb) : (s.setUmb u).cams = s.cams := rfl
@[simp] theorem State.setUmb_uplinks (s : State) (u : Umb) : (s.setUmb u).uplinks = s.uplinks := rfl
@[simp] theorem State.setUmb_ctxs (s : State) (u : Umb) : (s.setUmb u).ctxs = s.ctxs := rfl
@[simp] theorem State.setUmb_pipes (s : State) (u : Umb) : (s.setUmb u).pipes = s.pipes := rfl
@[simp] theorem State.setUmb_seam (s : State) (u : Umb) : (s.setUmb u).seam = s.seam := rfl
@[simp] theorem State.setUmb_coding (s : State) (u : Umb) : (s.setUmb u).coding = s.coding := rfl
@[simp] theorem State.setUmb_wins (s : State) (u : Umb) : (s.setUmb u).wins = s.wins := rfl
@[simp] theorem State.setUmb_views (s : State) (u : Umb) : (s.setUmb u).views = s.views := rfl
@[simp] theorem State.setUmb_zes (s : State) (u : Umb) : (s.setUmb u).zes = s.zes := rfl
@[simp] theorem State.setUmb_cropJobs (s : State) (u : Umb) : (s.setUmb u).cropJobs = s.cropJobs := rfl
@[simp] theorem State.setUmb_slip (s : State) (u : Umb) : (s.setUmb u).slip = s.slip := rfl
@[simp] theorem State.setUmb_bars (s : State) (u : Umb) : (s.setUmb u).bars = s.bars := rfl
@[simp] theorem State.setUmb_ports (s : State) (u : Umb) : (s.setUmb u).ports = s.ports := rfl
@[simp] theorem State.setUmb_heads (s : State) (u : Umb) : (s.setUmb u).heads = s.heads := rfl
@[simp] theorem State.setUmb_scan (s : State) (u : Umb) : (s.setUmb u).scan = s.scan := rfl
@[simp] theorem State.setUmb_gas (s : State) (u : Umb) : (s.setUmb u).gas = s.gas := rfl
@[simp] theorem State.setUmb_syncAt (s : State) (u : Umb) : (s.setUmb u).syncAt = s.syncAt := rfl
@[simp] theorem State.setUmb_umb (s : State) (u : Umb) : (s.setUmb u).umb = u := rfl
@[simp] theorem State.setUmb_loop (s : State) (u : Umb) : (s.setUmb u).loop = s.loop := rfl
@[simp] theorem State.setUmb_skl (s : State) (u : Umb) : (s.setUmb u).skl = s.skl := rfl
@[simp] theorem State.setUmb_sync (s : State) (u : Umb) : (s.setUmb u).sync = s.sync := rfl

/-! ### setMir -/

@[simp] theorem State.setMir_pending (s : State) (m : Nat) (x : Mir) : (s.setMir m x).pending = s.pending := rfl
@[simp] theorem State.setMir_now (s : State) (m : Nat) (x : Mir) : (s.setMir m x).now = s.now := rfl
@[simp] theorem State.setMir_timeBase (s : State) (m : Nat) (x : Mir) : (s.setMir m x).timeBase = s.timeBase := rfl
@[simp] theorem State.setMir_timeC0 (s : State) (m : Nat) (x : Mir) : (s.setMir m x).timeC0 = s.timeC0 := rfl
@[simp] theorem State.setMir_stateAt (s : State) (m : Nat) (x : Mir) : (s.setMir m x).stateAt = s.stateAt := rfl
@[simp] theorem State.setMir_free (s : State) (m : Nat) (x : Mir) : (s.setMir m x).free = s.free := rfl
@[simp] theorem State.setMir_regs (s : State) (m : Nat) (x : Mir) : (s.setMir m x).regs = s.regs := rfl
@[simp] theorem State.setMir_shadow (s : State) (m : Nat) (x : Mir) : (s.setMir m x).shadow = s.shadow := rfl
@[simp] theorem State.setMir_dom (s : State) (m : Nat) (x : Mir) : (s.setMir m x).dom = s.dom := rfl
@[simp] theorem State.setMir_domLens (s : State) (m : Nat) (x : Mir) : (s.setMir m x).domLens = s.domLens := rfl
@[simp] theorem State.setMir_shDom (s : State) (m : Nat) (x : Mir) : (s.setMir m x).shDom = s.shDom := rfl
@[simp] theorem State.setMir_shDomLens (s : State) (m : Nat) (x : Mir) : (s.setMir m x).shDomLens = s.shDomLens := rfl
@[simp] theorem State.setMir_own (s : State) (m : Nat) (x : Mir) : (s.setMir m x).own = s.own := rfl
@[simp] theorem State.setMir_sherds (s : State) (m : Nat) (x : Mir) : (s.setMir m x).sherds = s.sherds := rfl
@[simp] theorem State.setMir_commitBands (s : State) (m : Nat) (x : Mir) : (s.setMir m x).commitBands = s.commitBands := rfl
@[simp] theorem State.setMir_readData (s : State) (m : Nat) (x : Mir) : (s.setMir m x).readData = s.readData := rfl
@[simp] theorem State.setMir_chal (s : State) (m : Nat) (x : Mir) : (s.setMir m x).chal = s.chal := rfl
@[simp] theorem State.setMir_xfers (s : State) (m : Nat) (x : Mir) : (s.setMir m x).xfers = s.xfers := rfl
@[simp] theorem State.setMir_sessions (s : State) (m : Nat) (x : Mir) : (s.setMir m x).sessions = s.sessions := rfl
@[simp] theorem State.setMir_udpOut (s : State) (m : Nat) (x : Mir) : (s.setMir m x).udpOut = s.udpOut := rfl
@[simp] theorem State.setMir_hostOut (s : State) (m : Nat) (x : Mir) : (s.setMir m x).hostOut = s.hostOut := rfl
@[simp] theorem State.setMir_ethOut (s : State) (m : Nat) (x : Mir) : (s.setMir m x).ethOut = s.ethOut := rfl
@[simp] theorem State.setMir_arp (s : State) (m : Nat) (x : Mir) : (s.setMir m x).arp = s.arp := rfl
@[simp] theorem State.setMir_mem (s : State) (m : Nat) (x : Mir) : (s.setMir m x).mem = s.mem := rfl
@[simp] theorem State.setMir_glaze (s : State) (m : Nat) (x : Mir) : (s.setMir m x).glaze = s.glaze := rfl
@[simp] theorem State.setMir_raised (s : State) (m : Nat) (x : Mir) : (s.setMir m x).raised = s.raised := rfl
@[simp] theorem State.setMir_tasks (s : State) (m : Nat) (x : Mir) : (s.setMir m x).tasks = s.tasks := rfl
@[simp] theorem State.setMir_holdEnds (s : State) (m : Nat) (x : Mir) : (s.setMir m x).holdEnds = s.holdEnds := rfl
@[simp] theorem State.setMir_maskSetAt (s : State) (m : Nat) (x : Mir) : (s.setMir m x).maskSetAt = s.maskSetAt := rfl
@[simp] theorem State.setMir_arrived (s : State) (m : Nat) (x : Mir) : (s.setMir m x).arrived = s.arrived := rfl
@[simp] theorem State.setMir_msix (s : State) (m : Nat) (x : Mir) : (s.setMir m x).msix = s.msix := rfl
@[simp] theorem State.setMir_wbuf (s : State) (m : Nat) (x : Mir) : (s.setMir m x).wbuf = s.wbuf := rfl
@[simp] theorem State.setMir_wring (s : State) (m : Nat) (x : Mir) : (s.setMir m x).wring = s.wring := rfl
@[simp] theorem State.setMir_wgap (s : State) (m : Nat) (x : Mir) : (s.setMir m x).wgap = s.wgap := rfl
@[simp] theorem State.setMir_faultTimes (s : State) (m : Nat) (x : Mir) : (s.setMir m x).faultTimes = s.faultTimes := rfl
@[simp] theorem State.setMir_fuses (s : State) (m : Nat) (x : Mir) : (s.setMir m x).fuses = s.fuses := rfl
@[simp] theorem State.setMir_boot (s : State) (m : Nat) (x : Mir) : (s.setMir m x).boot = s.boot := rfl
@[simp] theorem State.setMir_power (s : State) (m : Nat) (x : Mir) : (s.setMir m x).power = s.power := rfl
@[simp] theorem State.setMir_cores (s : State) (m : Nat) (x : Mir) : (s.setMir m x).cores = s.cores := rfl
@[simp] theorem State.setMir_coreFaults (s : State) (m : Nat) (x : Mir) : (s.setMir m x).coreFaults = s.coreFaults := rfl
@[simp] theorem State.setMir_wdog (s : State) (m : Nat) (x : Mir) : (s.setMir m x).wdog = s.wdog := rfl
@[simp] theorem State.setMir_hot (s : State) (m : Nat) (x : Mir) : (s.setMir m x).hot = s.hot := rfl
@[simp] theorem State.setMir_calRecs (s : State) (m : Nat) (x : Mir) : (s.setMir m x).calRecs = s.calRecs := rfl
@[simp] theorem State.setMir_gpioIn (s : State) (m : Nat) (x : Mir) : (s.setMir m x).gpioIn = s.gpioIn := rfl
@[simp] theorem State.setMir_pins (s : State) (m : Nat) (x : Mir) : (s.setMir m x).pins = s.pins := rfl
@[simp] theorem State.setMir_queues (s : State) (m : Nat) (x : Mir) : (s.setMir m x).queues = s.queues := rfl
@[simp] theorem State.setMir_drams (s : State) (m : Nat) (x : Mir) : (s.setMir m x).drams = s.drams := rfl
@[simp] theorem State.setMir_dmas (s : State) (m : Nat) (x : Mir) : (s.setMir m x).dmas = s.dmas := rfl
@[simp] theorem State.setMir_encs (s : State) (m : Nat) (x : Mir) : (s.setMir m x).encs = s.encs := rfl
@[simp] theorem State.setMir_wheel (s : State) (m : Nat) (x : Mir) : (s.setMir m x).wheel = s.wheel := rfl
@[simp] theorem State.setMir_gens (s : State) (m : Nat) (x : Mir) : (s.setMir m x).gens = s.gens := rfl
@[simp] theorem State.setMir_trigs (s : State) (m : Nat) (x : Mir) : (s.setMir m x).trigs = s.trigs := rfl
@[simp] theorem State.setMir_cmps (s : State) (m : Nat) (x : Mir) : (s.setMir m x).cmps = s.cmps := rfl
@[simp] theorem State.setMir_probes (s : State) (m : Nat) (x : Mir) : (s.setMir m x).probes = s.probes := rfl
@[simp] theorem State.setMir_mirs (s : State) (m : Nat) (x : Mir) : (s.setMir m x).mirs = tput s.mirs m x := rfl
@[simp] theorem State.setMir_cams (s : State) (m : Nat) (x : Mir) : (s.setMir m x).cams = s.cams := rfl
@[simp] theorem State.setMir_uplinks (s : State) (m : Nat) (x : Mir) : (s.setMir m x).uplinks = s.uplinks := rfl
@[simp] theorem State.setMir_ctxs (s : State) (m : Nat) (x : Mir) : (s.setMir m x).ctxs = s.ctxs := rfl
@[simp] theorem State.setMir_pipes (s : State) (m : Nat) (x : Mir) : (s.setMir m x).pipes = s.pipes := rfl
@[simp] theorem State.setMir_seam (s : State) (m : Nat) (x : Mir) : (s.setMir m x).seam = s.seam := rfl
@[simp] theorem State.setMir_coding (s : State) (m : Nat) (x : Mir) : (s.setMir m x).coding = s.coding := rfl
@[simp] theorem State.setMir_wins (s : State) (m : Nat) (x : Mir) : (s.setMir m x).wins = s.wins := rfl
@[simp] theorem State.setMir_views (s : State) (m : Nat) (x : Mir) : (s.setMir m x).views = s.views := rfl
@[simp] theorem State.setMir_zes (s : State) (m : Nat) (x : Mir) : (s.setMir m x).zes = s.zes := rfl
@[simp] theorem State.setMir_cropJobs (s : State) (m : Nat) (x : Mir) : (s.setMir m x).cropJobs = s.cropJobs := rfl
@[simp] theorem State.setMir_slip (s : State) (m : Nat) (x : Mir) : (s.setMir m x).slip = s.slip := rfl
@[simp] theorem State.setMir_bars (s : State) (m : Nat) (x : Mir) : (s.setMir m x).bars = s.bars := rfl
@[simp] theorem State.setMir_ports (s : State) (m : Nat) (x : Mir) : (s.setMir m x).ports = s.ports := rfl
@[simp] theorem State.setMir_heads (s : State) (m : Nat) (x : Mir) : (s.setMir m x).heads = s.heads := rfl
@[simp] theorem State.setMir_scan (s : State) (m : Nat) (x : Mir) : (s.setMir m x).scan = s.scan := rfl
@[simp] theorem State.setMir_gas (s : State) (m : Nat) (x : Mir) : (s.setMir m x).gas = s.gas := rfl
@[simp] theorem State.setMir_syncAt (s : State) (m : Nat) (x : Mir) : (s.setMir m x).syncAt = s.syncAt := rfl
@[simp] theorem State.setMir_umb (s : State) (m : Nat) (x : Mir) : (s.setMir m x).umb = s.umb := rfl
@[simp] theorem State.setMir_loop (s : State) (m : Nat) (x : Mir) : (s.setMir m x).loop = s.loop := rfl
@[simp] theorem State.setMir_skl (s : State) (m : Nat) (x : Mir) : (s.setMir m x).skl = s.skl := rfl
@[simp] theorem State.setMir_sync (s : State) (m : Nat) (x : Mir) : (s.setMir m x).sync = s.sync := rfl

/-! ### domWrite -/

@[simp] theorem State.domWrite_pending (s : State) (k off : Nat) (l : List Nat) : (s.domWrite k off l).pending = s.pending := rfl
@[simp] theorem State.domWrite_now (s : State) (k off : Nat) (l : List Nat) : (s.domWrite k off l).now = s.now := rfl
@[simp] theorem State.domWrite_timeBase (s : State) (k off : Nat) (l : List Nat) : (s.domWrite k off l).timeBase = s.timeBase := rfl
@[simp] theorem State.domWrite_timeC0 (s : State) (k off : Nat) (l : List Nat) : (s.domWrite k off l).timeC0 = s.timeC0 := rfl
@[simp] theorem State.domWrite_stateAt (s : State) (k off : Nat) (l : List Nat) : (s.domWrite k off l).stateAt = s.stateAt := rfl
@[simp] theorem State.domWrite_free (s : State) (k off : Nat) (l : List Nat) : (s.domWrite k off l).free = s.free := rfl
@[simp] theorem State.domWrite_regs (s : State) (k off : Nat) (l : List Nat) : (s.domWrite k off l).regs = s.regs := rfl
@[simp] theorem State.domWrite_shadow (s : State) (k off : Nat) (l : List Nat) : (s.domWrite k off l).shadow = s.shadow := rfl
@[simp] theorem State.domWrite_shDom (s : State) (k off : Nat) (l : List Nat) : (s.domWrite k off l).shDom = s.shDom := rfl
@[simp] theorem State.domWrite_shDomLens (s : State) (k off : Nat) (l : List Nat) : (s.domWrite k off l).shDomLens = s.shDomLens := rfl
@[simp] theorem State.domWrite_own (s : State) (k off : Nat) (l : List Nat) : (s.domWrite k off l).own = s.own := rfl
@[simp] theorem State.domWrite_sherds (s : State) (k off : Nat) (l : List Nat) : (s.domWrite k off l).sherds = s.sherds := rfl
@[simp] theorem State.domWrite_commitBands (s : State) (k off : Nat) (l : List Nat) : (s.domWrite k off l).commitBands = s.commitBands := rfl
@[simp] theorem State.domWrite_readData (s : State) (k off : Nat) (l : List Nat) : (s.domWrite k off l).readData = s.readData := rfl
@[simp] theorem State.domWrite_chal (s : State) (k off : Nat) (l : List Nat) : (s.domWrite k off l).chal = s.chal := rfl
@[simp] theorem State.domWrite_xfers (s : State) (k off : Nat) (l : List Nat) : (s.domWrite k off l).xfers = s.xfers := rfl
@[simp] theorem State.domWrite_sessions (s : State) (k off : Nat) (l : List Nat) : (s.domWrite k off l).sessions = s.sessions := rfl
@[simp] theorem State.domWrite_udpOut (s : State) (k off : Nat) (l : List Nat) : (s.domWrite k off l).udpOut = s.udpOut := rfl
@[simp] theorem State.domWrite_hostOut (s : State) (k off : Nat) (l : List Nat) : (s.domWrite k off l).hostOut = s.hostOut := rfl
@[simp] theorem State.domWrite_ethOut (s : State) (k off : Nat) (l : List Nat) : (s.domWrite k off l).ethOut = s.ethOut := rfl
@[simp] theorem State.domWrite_arp (s : State) (k off : Nat) (l : List Nat) : (s.domWrite k off l).arp = s.arp := rfl
@[simp] theorem State.domWrite_mem (s : State) (k off : Nat) (l : List Nat) : (s.domWrite k off l).mem = s.mem := rfl
@[simp] theorem State.domWrite_glaze (s : State) (k off : Nat) (l : List Nat) : (s.domWrite k off l).glaze = s.glaze := rfl
@[simp] theorem State.domWrite_raised (s : State) (k off : Nat) (l : List Nat) : (s.domWrite k off l).raised = s.raised := rfl
@[simp] theorem State.domWrite_tasks (s : State) (k off : Nat) (l : List Nat) : (s.domWrite k off l).tasks = s.tasks := rfl
@[simp] theorem State.domWrite_holdEnds (s : State) (k off : Nat) (l : List Nat) : (s.domWrite k off l).holdEnds = s.holdEnds := rfl
@[simp] theorem State.domWrite_maskSetAt (s : State) (k off : Nat) (l : List Nat) : (s.domWrite k off l).maskSetAt = s.maskSetAt := rfl
@[simp] theorem State.domWrite_arrived (s : State) (k off : Nat) (l : List Nat) : (s.domWrite k off l).arrived = s.arrived := rfl
@[simp] theorem State.domWrite_msix (s : State) (k off : Nat) (l : List Nat) : (s.domWrite k off l).msix = s.msix := rfl
@[simp] theorem State.domWrite_wbuf (s : State) (k off : Nat) (l : List Nat) : (s.domWrite k off l).wbuf = s.wbuf := rfl
@[simp] theorem State.domWrite_wring (s : State) (k off : Nat) (l : List Nat) : (s.domWrite k off l).wring = s.wring := rfl
@[simp] theorem State.domWrite_wgap (s : State) (k off : Nat) (l : List Nat) : (s.domWrite k off l).wgap = s.wgap := rfl
@[simp] theorem State.domWrite_faultTimes (s : State) (k off : Nat) (l : List Nat) : (s.domWrite k off l).faultTimes = s.faultTimes := rfl
@[simp] theorem State.domWrite_fuses (s : State) (k off : Nat) (l : List Nat) : (s.domWrite k off l).fuses = s.fuses := rfl
@[simp] theorem State.domWrite_boot (s : State) (k off : Nat) (l : List Nat) : (s.domWrite k off l).boot = s.boot := rfl
@[simp] theorem State.domWrite_power (s : State) (k off : Nat) (l : List Nat) : (s.domWrite k off l).power = s.power := rfl
@[simp] theorem State.domWrite_cores (s : State) (k off : Nat) (l : List Nat) : (s.domWrite k off l).cores = s.cores := rfl
@[simp] theorem State.domWrite_coreFaults (s : State) (k off : Nat) (l : List Nat) : (s.domWrite k off l).coreFaults = s.coreFaults := rfl
@[simp] theorem State.domWrite_wdog (s : State) (k off : Nat) (l : List Nat) : (s.domWrite k off l).wdog = s.wdog := rfl
@[simp] theorem State.domWrite_hot (s : State) (k off : Nat) (l : List Nat) : (s.domWrite k off l).hot = s.hot := rfl
@[simp] theorem State.domWrite_calRecs (s : State) (k off : Nat) (l : List Nat) : (s.domWrite k off l).calRecs = s.calRecs := rfl
@[simp] theorem State.domWrite_gpioIn (s : State) (k off : Nat) (l : List Nat) : (s.domWrite k off l).gpioIn = s.gpioIn := rfl
@[simp] theorem State.domWrite_pins (s : State) (k off : Nat) (l : List Nat) : (s.domWrite k off l).pins = s.pins := rfl
@[simp] theorem State.domWrite_queues (s : State) (k off : Nat) (l : List Nat) : (s.domWrite k off l).queues = s.queues := rfl
@[simp] theorem State.domWrite_drams (s : State) (k off : Nat) (l : List Nat) : (s.domWrite k off l).drams = s.drams := rfl
@[simp] theorem State.domWrite_dmas (s : State) (k off : Nat) (l : List Nat) : (s.domWrite k off l).dmas = s.dmas := rfl
@[simp] theorem State.domWrite_encs (s : State) (k off : Nat) (l : List Nat) : (s.domWrite k off l).encs = s.encs := rfl
@[simp] theorem State.domWrite_wheel (s : State) (k off : Nat) (l : List Nat) : (s.domWrite k off l).wheel = s.wheel := rfl
@[simp] theorem State.domWrite_gens (s : State) (k off : Nat) (l : List Nat) : (s.domWrite k off l).gens = s.gens := rfl
@[simp] theorem State.domWrite_trigs (s : State) (k off : Nat) (l : List Nat) : (s.domWrite k off l).trigs = s.trigs := rfl
@[simp] theorem State.domWrite_cmps (s : State) (k off : Nat) (l : List Nat) : (s.domWrite k off l).cmps = s.cmps := rfl
@[simp] theorem State.domWrite_probes (s : State) (k off : Nat) (l : List Nat) : (s.domWrite k off l).probes = s.probes := rfl
@[simp] theorem State.domWrite_mirs (s : State) (k off : Nat) (l : List Nat) : (s.domWrite k off l).mirs = s.mirs := rfl
@[simp] theorem State.domWrite_cams (s : State) (k off : Nat) (l : List Nat) : (s.domWrite k off l).cams = s.cams := rfl
@[simp] theorem State.domWrite_uplinks (s : State) (k off : Nat) (l : List Nat) : (s.domWrite k off l).uplinks = s.uplinks := rfl
@[simp] theorem State.domWrite_ctxs (s : State) (k off : Nat) (l : List Nat) : (s.domWrite k off l).ctxs = s.ctxs := rfl
@[simp] theorem State.domWrite_pipes (s : State) (k off : Nat) (l : List Nat) : (s.domWrite k off l).pipes = s.pipes := rfl
@[simp] theorem State.domWrite_seam (s : State) (k off : Nat) (l : List Nat) : (s.domWrite k off l).seam = s.seam := rfl
@[simp] theorem State.domWrite_coding (s : State) (k off : Nat) (l : List Nat) : (s.domWrite k off l).coding = s.coding := rfl
@[simp] theorem State.domWrite_wins (s : State) (k off : Nat) (l : List Nat) : (s.domWrite k off l).wins = s.wins := rfl
@[simp] theorem State.domWrite_views (s : State) (k off : Nat) (l : List Nat) : (s.domWrite k off l).views = s.views := rfl
@[simp] theorem State.domWrite_zes (s : State) (k off : Nat) (l : List Nat) : (s.domWrite k off l).zes = s.zes := rfl
@[simp] theorem State.domWrite_cropJobs (s : State) (k off : Nat) (l : List Nat) : (s.domWrite k off l).cropJobs = s.cropJobs := rfl
@[simp] theorem State.domWrite_slip (s : State) (k off : Nat) (l : List Nat) : (s.domWrite k off l).slip = s.slip := rfl
@[simp] theorem State.domWrite_bars (s : State) (k off : Nat) (l : List Nat) : (s.domWrite k off l).bars = s.bars := rfl
@[simp] theorem State.domWrite_ports (s : State) (k off : Nat) (l : List Nat) : (s.domWrite k off l).ports = s.ports := rfl
@[simp] theorem State.domWrite_heads (s : State) (k off : Nat) (l : List Nat) : (s.domWrite k off l).heads = s.heads := rfl
@[simp] theorem State.domWrite_scan (s : State) (k off : Nat) (l : List Nat) : (s.domWrite k off l).scan = s.scan := rfl
@[simp] theorem State.domWrite_gas (s : State) (k off : Nat) (l : List Nat) : (s.domWrite k off l).gas = s.gas := rfl
@[simp] theorem State.domWrite_syncAt (s : State) (k off : Nat) (l : List Nat) : (s.domWrite k off l).syncAt = s.syncAt := rfl
@[simp] theorem State.domWrite_umb (s : State) (k off : Nat) (l : List Nat) : (s.domWrite k off l).umb = s.umb := rfl
@[simp] theorem State.domWrite_loop (s : State) (k off : Nat) (l : List Nat) : (s.domWrite k off l).loop = s.loop := rfl
@[simp] theorem State.domWrite_skl (s : State) (k off : Nat) (l : List Nat) : (s.domWrite k off l).skl = s.skl := rfl
@[simp] theorem State.domWrite_sync (s : State) (k off : Nat) (l : List Nat) : (s.domWrite k off l).sync = s.sync := rfl

/-! ### Reading a record that was set -/

@[simp] theorem State.cam_setCam_self (s : State) (n : Nat) (x : Cam) : (s.setCam n x).cam n = x := tget_tput_self _ _ _ _

theorem State.cam_setCam (s : State) (n m : Nat) (x : Cam) : (s.setCam n x).cam m = if m = n then x else s.cam m := tget_tput _ _ _ _ _

@[simp] theorem State.dma_setDma_self (s : State) (n : Nat) (x : Dma) : (s.setDma n x).dma n = x := tget_tput_self _ _ _ _

theorem State.dma_setDma (s : State) (n m : Nat) (x : Dma) : (s.setDma n x).dma m = if m = n then x else s.dma m := tget_tput _ _ _ _ _

@[simp] theorem State.ze_setZe_self (s : State) (n : Nat) (x : Ze) : (s.setZe n x).ze n = x := tget_tput_self _ _ _ _

theorem State.ze_setZe (s : State) (n m : Nat) (x : Ze) : (s.setZe n x).ze m = if m = n then x else s.ze m := tget_tput _ _ _ _ _

@[simp] theorem State.ga_setGa_self (s : State) (n : Nat) (x : Ga) : (s.setGa n x).ga n = x := tget_tput_self _ _ _ _

theorem State.ga_setGa (s : State) (n m : Nat) (x : Ga) : (s.setGa n x).ga m = if m = n then x else s.ga m := tget_tput _ _ _ _ _

@[simp] theorem State.gen_setGen_self (s : State) (n : Nat) (x : Gen) : (s.setGen n x).gen n = x := tget_tput_self _ _ _ _

theorem State.gen_setGen (s : State) (n m : Nat) (x : Gen) : (s.setGen n x).gen m = if m = n then x else s.gen m := tget_tput _ _ _ _ _

@[simp] theorem State.head_setHead_self (s : State) (n : Nat) (x : Head) : (s.setHead n x).head n = x := tget_tput_self _ _ _ _

theorem State.head_setHead (s : State) (n m : Nat) (x : Head) : (s.setHead n x).head m = if m = n then x else s.head m := tget_tput _ _ _ _ _

@[simp] theorem State.dramCh_setDramCh_self (s : State) (n : Nat) (x : DramCh) : (s.setDramCh n x).dramCh n = x := tget_tput_self _ _ _ _

theorem State.dramCh_setDramCh (s : State) (n m : Nat) (x : DramCh) : (s.setDramCh n x).dramCh m = if m = n then x else s.dramCh m := tget_tput _ _ _ _ _

@[simp] theorem State.cmp_setCmp_self (s : State) (n : Nat) (x : Cmp) : (s.setCmp n x).cmp n = x := tget_tput_self _ _ _ _

theorem State.cmp_setCmp (s : State) (n m : Nat) (x : Cmp) : (s.setCmp n x).cmp m = if m = n then x else s.cmp m := tget_tput _ _ _ _ _

@[simp] theorem State.enc_setEnc_self (s : State) (n : Nat) (x : Enc) : (s.setEnc n x).enc n = x := tget_tput_self _ _ _ _

theorem State.enc_setEnc (s : State) (n m : Nat) (x : Enc) : (s.setEnc n x).enc m = if m = n then x else s.enc m := tget_tput _ _ _ _ _

@[simp] theorem State.ctx_setCtx_self (s : State) (n : Nat) (x : Ctx) : (s.setCtx n x).ctx n = x := tget_tput_self _ _ _ _

theorem State.ctx_setCtx (s : State) (n m : Nat) (x : Ctx) : (s.setCtx n x).ctx m = if m = n then x else s.ctx m := tget_tput _ _ _ _ _

@[simp] theorem State.win_setWin_self (s : State) (n : Nat) (x : Win) : (s.setWin n x).win n = x := tget_tput_self _ _ _ _

theorem State.win_setWin (s : State) (n m : Nat) (x : Win) : (s.setWin n x).win m = if m = n then x else s.win m := tget_tput _ _ _ _ _

@[simp] theorem State.view_setView_self (s : State) (n : Nat) (x : View) : (s.setView n x).view n = x := tget_tput_self _ _ _ _

theorem State.view_setView (s : State) (n m : Nat) (x : View) : (s.setView n x).view m = if m = n then x else s.view m := tget_tput _ _ _ _ _

@[simp] theorem State.bar_setBar_self (s : State) (n : Nat) (x : Bar) : (s.setBar n x).bar n = x := tget_tput_self _ _ _ _

theorem State.bar_setBar (s : State) (n m : Nat) (x : Bar) : (s.setBar n x).bar m = if m = n then x else s.bar m := tget_tput _ _ _ _ _

@[simp] theorem State.port_setPort_self (s : State) (n : Nat) (x : Port) : (s.setPort n x).port n = x := tget_tput_self _ _ _ _

theorem State.port_setPort (s : State) (n m : Nat) (x : Port) : (s.setPort n x).port m = if m = n then x else s.port m := tget_tput _ _ _ _ _

@[simp] theorem State.mir_setMir_self (s : State) (n : Nat) (x : Mir) : (s.setMir n x).mir n = x := tget_tput_self _ _ _ _

theorem State.mir_setMir (s : State) (n m : Nat) (x : Mir) : (s.setMir n x).mir m = if m = n then x else s.mir m := tget_tput _ _ _ _ _

end Sys2Proof.Machine
end

