-- ==== Sys2Proof/Laws/Step.lean ====
section
/-! SUPPORT. What each operation of Machine/Step.lean may change. -/

-- The proofs of this file are checked one after another, in one thread.
set_option Elab.async false

namespace Sys2Proof.Machine

theorem State.tick_eff (s : State) :
    Eff [.clock] [] s (State.tick s) := by
  unfold State.tick
  exact Eff.upd_now Eff.refl rfl

end Sys2Proof.Machine
end

