-- ==== Sys2Proof/Tests/Slice0.lean ====
section
/-! SUPPORT. Tests: well-formed and ill-formed commands, the spec's worked examples and single steps, and for each clause of a statement
that has hypotheses a state and operands that meet them all. -/

-- The proofs of this file are checked one after another, in one thread.
set_option Elab.async false

namespace Sys2Proof.Tests

open Sys2Proof Sys2Proof.Machine

/-! ### Well-formed and ill-formed commands -/

def okAcc : Acc := { path := 0, secure := true, size := 8, offset := 0, value := 0 }

def badAcc : Acc := { okAcc with path := 7 }

def okDatagram : Datagram := { eth := 0, addr := 0, udpPort := 0, bytes := [] }

def badDatagram : Datagram := { okDatagram with eth := 2 }

def okMsg : Msg :=
  { cls := 1, flags := 0, source := 0, dest := 0, epoch := 0, role := 0, hops := 0, lineage := 0, seq := 0, payload := [], crcOk := true,
    sound := true, stamp := 0 }

def badMsg : Msg := { okMsg with payload := [256] }

def okFrame : SerialFrame := { acked := true, position := 0, nE := true, nW := true, crc := 0, parity := true }

def okQuery : CamQuery := { ok := true, version := 0, links := 1, speeds := [] }

def okTrain : CamTrain := { identities := [], eyes := [], equalisers := [] }

def okLine : CamLine := { samples := [], badCrc := 0, stream := 0, format := 0, width := 0, count := 0 }

def okCap : SklCap := { speeds := 1, lanes := 1, node := 0 }

def okBlock : TrainBlock := { request := 0, answer := 0, ready := false, own := 0, eye := none }

def okMeasure : CalMeasure := { margin := 0, spread := 0, residual := 0, timedOut := false }

theorem test_wf_acc : ([badAcc, { okAcc with size := 0 }, { okAcc with size := 11, value := 0 }, { okAcc with offset := 8 }, { okAcc with value := 2 ^ 64 }].any
    Acc.wf) = false := by decide

theorem test_wf_datagram : ([badDatagram, { okDatagram with addr := 2 ^ 32 }, { okDatagram with udpPort := 65536 },
    { okDatagram with bytes := [256] }].any Datagram.wf) = false := by decide

theorem test_wf_message : ([badMsg, { okMsg with cls := 256 }, { okMsg with flags := 256 }, { okMsg with source := 65536 }, { okMsg with dest := 65536 },
    { okMsg with epoch := 2 ^ 32 }, { okMsg with role := 65536 }, { okMsg with hops := 256 }, { okMsg with lineage := 256 },
    { okMsg with seq := 2 ^ 32 }].any Msg.wf) = false := by decide

theorem test_wf_accepts_0 : (([
  .powerOnReset, .warmReset, .resetRequest okAcc, .supplyDetect, .resetRelease 0, .bootHeaderRead [] true, .dramTrainDone 0,
   .dramZeroDone, .payloadLoaded [] [] true, .bootGo okAcc, .bootComplete okAcc, .advanceSecurityVersion okAcc, .revokeKey okAcc,
   .fuseBurnDone, .coreRelease okAcc, .arm okAcc 0, .run okAcc, .stop okAcc, .disarm okAcc, .sleep okAcc 0, .wake okAcc, .devStop,
   .drainComplete, .drainTimeout, .dictWrite okAcc 0, .readClearExtreme okAcc 0, .timeRead okAcc 0, .commit okAcc 0, .discard okAcc 0,
   .commitApply 0, .give okAcc 0 0, .lock okAcc 0, .setSecure okAcc 0, .setOpen okAcc 0, .challenge okAcc, .proofGo okAcc,
   .proofLockoutEnd, .drop okAcc 0, .domGo okAcc 0, .domainTransferDone 0 [] none] : List Instr).all Instr.wf) = true := by decide

theorem test_wf_accepts_1 : (([
  .openReq okDatagram, .openProof okDatagram, .request okDatagram, .close okDatagram, .sessionTimeout 1, .encoderTransition 0 .a true,
   .countAccepted 0 .a, .serialFrameStart 0, .serialFrame 0 okFrame, .indexPulse 0, .stallTimeout 0, .triggerEmit 0, .compareFire 0,
   .comparePulseEnd 0, .probeEdge 0 true, .pop okAcc 0, .probeFlush okAcc 0, .linearPreset okAcc 0, .rotaryPreset okAcc 0,
   .wheelReadmit okAcc 0, .posBroadcast, .posMessage okMsg, .remoteTimeout, .emuLagRelease 0, .cxpLock 0, .huntLock 0, .huntTimeout 0,
   .queryDone 0 okQuery, .trainDone 0 okTrain, .trainTimeout 0, .rediscover okAcc 0, .camReadmit okAcc 0, .camTrigger 0,
   .triggerPacketStart 0, .triggerPacketEnd 0, .lineReceived 0 okLine, .skewTimeout 0, .lateLine 0, .owedLineLapse 0, .bandEnd 0] : List Instr).all Instr.wf) = true := by decide

theorem test_wf_accepts_2 : (([
  .cxpLinkLost 0 0, .cxpRelocked 0 [], .relockTimeout 0, .cxpHeartbeat 0, .cxpEvent 0, .cxpTriggerAck 0, .tunnelGo okAcc 0,
   .tunnelAck 0 0 [] true, .tunnelTimeout 0, .roundOpen 0, .pipeLineDone 0, .flushPass 0, .prismBandDone 0, .replayLine 0,
   .loadIntervalEnd 0, .seamMemberLine 0, .seamDeadline, .lineEmit 0, .winStart 0, .bandRecord 0, .tagWrite, .joinHoldEnd, .cropDone,
   .crazeWindowEnd, .barLineStart 0, .barLineDone 0, .segmentFetch 0, .maskClear okAcc, .maskRequestApply, .rasterTrigger 0,
   .shiftStart 0, .shiftDone 0, .strobeStart 0, .strobeSegmentEnd 0, .strobeCut 0, .portPowerOn okAcc 0, .powerOnDelayEnd 0,
   .deskewDone 0 0 0, .headIdentified 0 none, .portPowerOff okAcc 0] : List Instr).all Instr.wf) = true := by decide

theorem test_wf_accepts_3 : (([
  .powerDownBegin 0, .powerOffDelayEnd 0, .tempPoll 0, .tempReading 0 none, .headReadmit okAcc 0, .portReadmit okAcc 0,
   .scanGo okAcc 0, .scanAbort okAcc 0, .scanSettleEnd, .scanElement, .gaugeOutput 0 [], .gsyncEdge true, .syncNow okAcc, .gaSyncReq,
   .swapTarget okAcc 0, .calGo okAcc 0, .modStuck 0, .gaugeReadmit okAcc 0, .loopWindowEnd, .loopFoldDone, .approve okAcc,
   .unlock okAcc, .hold okAcc, .resume okAcc, .restore okAcc, .dramRefresh 0, .dramTempRead 0 none, .dramGrant 0,
   .patrolRead 0 0 .clean true, .selfRefreshEntry 0, .ddrTrack 0 [], .queueItemWrite 0 [], .queueFlush okAcc 0, .portQueueFlush okAcc,
   .dmaGo okAcc 0, .doorbell okAcc 0, .dmaAbort okAcc 0, .descFetch 0, .dmaPaceStart 0, .dmaMaxwait 0] : List Instr).all Instr.wf) = true := by decide

theorem test_wf_accepts_4 : (([
  .descComplete 0 [], .dmaErrorResponse 0 0 [], .jobTail okAcc 0, .zeJobStart 0, .zeJobDone 0, .zeAbort okAcc 0, .eventDelivery,
   .taskRoute okAcc 0, .taskCoincide okAcc 0, .claim okAcc 0, .complete okAcc 0, .maskSet okAcc 0, .maskClearWord okAcc 0,
   .pendingSet okAcc 0, .pendingClear okAcc 0, .maskSync okAcc, .holdOffEnd 0, .laneLock 0, .laneLockLost 0, .laneFault 0 0,
   .retrain okAcc 0, .sklHuntDone 0, .sklCapDone 0 okCap, .sklSwitchDone 0 true, .trainBlock 0 okBlock, .tapRequestTimeout 0,
   .tuneTimeout 0, .sklCheckDone 0 [], .sklAlignDone 0 [] true, .marker 0, .laneMap 0 0, .laneReadmit okAcc 0, .sleepIdle 0,
   .sleepBlock 0, .directionWake 0, .msgTransmit 0, .evt okMsg, .lnkSend 0, .sync 0 okMsg, .delayReq 0 okMsg] : List Instr).all Instr.wf) = true := by decide

theorem test_wf_accepts_5 : (([
  .delayResp 0 okMsg, .dict okMsg, .bulk okMsg, .heartbeat 0 okMsg, .epoch okMsg, .lineStale okMsg, .msgReceived 0 okMsg,
   .heartbeatSend, .roleDead 0, .sparePromote, .routeExpiry 0, .seqExpiry 0, .bulkWaitTimeout, .dictGo okAcc, .dictTimeout,
   .pcieReset .perst, .pcieLinkUp 0 0 0 true, .pcieLinkDown, .bar2Base okAcc, .ethFrameReceive 0 [] true, .ethLinkUp 0 0,
   .ethLinkFault 0, .ethReadmit okAcc 0, .coreTxFrame 0, .timeSet okAcc, .timeStep okAcc, .resync okAcc, .rateAdj okAcc, .syncPeriod,
   .holdoverTimeout, .alarmFire 0, .timeCapture 0, .ppsPulse, .ppsEnd, .watchdogKick okAcc, .wdogWarn, .wdogExpire, .junctionRead 0,
   .fatalRequest okAcc, .pllLockLoss] : List Instr).all Instr.wf) = true := by decide

theorem test_wf_accepts_6 : (([
  .refclkBad none, .calRun okAcc, .calRunDone okMeasure, .witnessWrite, .freeze okAcc, .release okAcc, .mark okAcc,
   .readSequence okAcc, .domainDown, .domainUp, .wakePin true, .msixUnmask .enable, .coreAccess 0 true true true 0 1 [],
   .bar2Access true 0 1 []] : List Instr).all Instr.wf) = true := by decide

theorem test_wf_refuses_reset : (([
  .resetRequest badAcc, .resetRelease 4] : List Instr).any Instr.wf) = false := by decide

theorem test_wf_refuses_boot : (([
  .bootHeaderRead [256] true, .dramTrainDone 16, .payloadLoaded [256] [] true, .payloadLoaded [] [256] true, .bootGo badAcc,
   .bootComplete badAcc, .advanceSecurityVersion badAcc, .revokeKey badAcc, .coreRelease badAcc] : List Instr).any Instr.wf) = false := by decide

theorem test_wf_refuses_device : (([
  .arm badAcc 0, .arm okAcc (2 ^ 128), .run badAcc, .stop badAcc, .disarm badAcc, .sleep badAcc 0, .sleep okAcc (2 ^ 128), .wake badAcc] : List Instr).any Instr.wf) = false := by decide

theorem test_wf_refuses_dict : (([
  .dictWrite badAcc 0, .dictWrite okAcc (2 ^ 24), .readClearExtreme badAcc 0, .readClearExtreme okAcc (2 ^ 24), .timeRead badAcc 0,
   .timeRead okAcc (2 ^ 24), .commit badAcc 0, .commit okAcc 65536, .discard badAcc 0, .discard okAcc 65536, .commitApply 65536,
   .give badAcc 0 0, .give okAcc 65536 0, .give okAcc 0 4, .lock badAcc 0, .lock okAcc 65536, .setSecure badAcc 0,
   .setSecure okAcc 65536, .setOpen badAcc 0, .setOpen okAcc 65536, .challenge badAcc, .proofGo badAcc, .drop badAcc 0, .drop okAcc 7,
   .domGo badAcc 0, .domGo okAcc 5, .domainTransferDone 5 [] none, .domainTransferDone 0 [256] none] : List Instr).any Instr.wf) = false := by decide

theorem test_wf_refuses_udp : (([
  .openReq badDatagram, .openProof badDatagram, .request badDatagram, .close badDatagram, .sessionTimeout 0, .sessionTimeout 9] : List Instr).any Instr.wf) = false := by decide

theorem test_wf_refuses_wheel : (([
  .encoderTransition 4 .a true, .countAccepted 4 .a, .serialFrameStart 4, .serialFrame 4 okFrame,
   .serialFrame 0 ({ okFrame with crc := 64 }), .indexPulse 4, .stallTimeout 4, .triggerEmit 28, .compareFire 16, .comparePulseEnd 16,
   .probeEdge 8 true, .pop badAcc 0, .pop okAcc 8, .probeFlush badAcc 0, .probeFlush okAcc 8, .linearPreset badAcc 0,
   .linearPreset okAcc 4, .rotaryPreset badAcc 0, .rotaryPreset okAcc 4, .wheelReadmit badAcc 0, .wheelReadmit okAcc 4,
   .posMessage badMsg, .emuLagRelease 4] : List Instr).any Instr.wf) = false := by decide

theorem test_wf_refuses_camera : (([
  .cxpLock 12, .huntLock 12, .huntTimeout 12, .queryDone 12 okQuery, .queryDone 0 ({ okQuery with speeds := [65536] }),
   .trainDone 12 okTrain, .trainDone 0 ({ okTrain with eyes := [65536] }), .trainDone 0 ({ okTrain with equalisers := [65536] }),
   .trainTimeout 12, .rediscover badAcc 0, .rediscover okAcc 12, .camReadmit badAcc 0, .camReadmit okAcc 12, .camTrigger 12,
   .triggerPacketStart 12, .triggerPacketEnd 12, .lineReceived 12 okLine, .lineReceived 0 ({ okLine with samples := [65536] }),
   .lineReceived 0 ({ okLine with stream := 256 }), .lineReceived 0 ({ okLine with width := 2 ^ 24 }), .skewTimeout 12, .lateLine 12,
   .owedLineLapse 12, .bandEnd 12, .cxpLinkLost 12 0, .cxpLinkLost 0 4, .cxpRelocked 12 [], .cxpRelocked 0 [65536], .relockTimeout 12,
   .cxpHeartbeat 12, .cxpEvent 12, .cxpTriggerAck 12, .tunnelGo badAcc 0, .tunnelGo okAcc 12, .tunnelAck 12 0 [] true,
   .tunnelAck 0 256 [] true, .tunnelAck 0 0 [256] true, .tunnelTimeout 12] : List Instr).any Instr.wf) = false := by decide

theorem test_wf_refuses_prism : (([
  .roundOpen 3, .pipeLineDone 12, .flushPass 12, .prismBandDone 12, .replayLine 12, .loadIntervalEnd 3] : List Instr).any Instr.wf) = false := by decide

theorem test_wf_refuses_seam : (([
  .seamMemberLine 12, .lineEmit 4096, .winStart 2, .bandRecord 12] : List Instr).any Instr.wf) = false := by decide

theorem test_wf_refuses_slip : (([
  .barLineStart 16, .barLineDone 16, .segmentFetch 6, .maskClear badAcc] : List Instr).any Instr.wf) = false := by decide

theorem test_wf_refuses_kiln : (([
  .rasterTrigger 16, .shiftStart 32, .shiftDone 32, .strobeStart 128, .strobeSegmentEnd 128, .strobeCut 128, .portPowerOn badAcc 0,
   .portPowerOn okAcc 32, .powerOnDelayEnd 32, .deskewDone 32 0 0, .headIdentified 128 none, .headIdentified 0 (some [256]),
   .portPowerOff badAcc 0, .portPowerOff okAcc 32, .powerDownBegin 32, .powerOffDelayEnd 32, .tempPoll 32, .tempReading 128 none,
   .tempReading 0 (some 65536), .headReadmit badAcc 0, .headReadmit okAcc 128, .portReadmit badAcc 0, .portReadmit okAcc 32,
   .scanGo badAcc 0, .scanGo okAcc (2 ^ 128), .scanAbort badAcc 0, .scanAbort okAcc (2 ^ 128)] : List Instr).any Instr.wf) = false := by decide

theorem test_wf_refuses_gauge : (([
  .gaugeOutput 16 [], .syncNow badAcc, .swapTarget badAcc 0, .swapTarget okAcc 16, .calGo badAcc 0, .calGo okAcc 16, .modStuck 16,
   .gaugeReadmit badAcc 0, .gaugeReadmit okAcc 16] : List Instr).any Instr.wf) = false := by decide

theorem test_wf_refuses_loop : (([
  .approve badAcc, .unlock badAcc, .hold badAcc, .resume badAcc, .restore badAcc] : List Instr).any Instr.wf) = false := by decide

theorem test_wf_refuses_memory : (([
  .dramRefresh 4, .dramTempRead 4 none, .dramGrant 4, .patrolRead 4 0 .clean true, .patrolRead 0 (2 ^ 40) .clean true,
   .selfRefreshEntry 4, .ddrTrack 4 []] : List Instr).any Instr.wf) = false := by decide

theorem test_wf_refuses_queue : (([
  .queueItemWrite 64 [], .queueItemWrite 0 [256], .queueFlush badAcc 0, .queueFlush okAcc 64, .portQueueFlush badAcc] : List Instr).any Instr.wf) = false := by decide

theorem test_wf_refuses_dma : (([
  .dmaGo badAcc 0, .dmaGo okAcc 32, .doorbell badAcc 0, .doorbell okAcc 32, .dmaAbort badAcc 0, .dmaAbort okAcc 32, .descFetch 32,
   .dmaPaceStart 32, .dmaMaxwait 32, .descComplete 32 [], .descComplete 0 [256], .dmaErrorResponse 32 0 [], .dmaErrorResponse 0 0 [256]] : List Instr).any Instr.wf) = false := by decide

theorem test_wf_refuses_compress : (([
  .jobTail badAcc 0, .jobTail okAcc 6, .zeJobStart 6, .zeJobDone 6, .zeAbort badAcc 0, .zeAbort okAcc 6] : List Instr).any Instr.wf) = false := by decide

theorem test_wf_refuses_fabric : (([
  .taskRoute badAcc 0, .taskRoute okAcc 256, .taskCoincide badAcc 0, .taskCoincide okAcc 256] : List Instr).any Instr.wf) = false := by decide

theorem test_wf_refuses_irq : (([
  .claim badAcc 0, .claim okAcc 5, .complete badAcc 0, .complete okAcc 5, .maskSet badAcc 0, .maskSet okAcc 8, .maskClearWord badAcc 0,
   .maskClearWord okAcc 8, .pendingSet badAcc 0, .pendingSet okAcc 8, .pendingClear badAcc 0, .pendingClear okAcc 8, .maskSync badAcc,
   .holdOffEnd 32] : List Instr).any Instr.wf) = false := by decide

theorem test_wf_refuses_skobaty : (([
  .laneLock 8, .laneLockLost 8, .laneFault 8 0, .retrain badAcc 0, .retrain okAcc 2, .sklHuntDone 2, .sklCapDone 2 okCap,
   .sklCapDone 0 ({ okCap with lanes := 16 }), .sklCapDone 0 ({ okCap with node := 4096 }), .sklSwitchDone 2 true,
   .trainBlock 8 okBlock, .trainBlock 0 ({ okBlock with request := 128 }), .trainBlock 0 ({ okBlock with answer := 64 }),
   .tapRequestTimeout 8, .tuneTimeout 8, .sklCheckDone 2 [], .sklAlignDone 2 [] true, .marker 2, .laneMap 2 0, .laneMap 0 256,
   .laneReadmit badAcc 0, .laneReadmit okAcc 2, .sleepIdle 2, .sleepBlock 2, .directionWake 2] : List Instr).any Instr.wf) = false := by decide

theorem test_wf_refuses_skobatymsg : (([
  .msgTransmit 2, .evt badMsg, .lnkSend 32, .sync 0 badMsg, .sync 2 okMsg, .delayReq 0 badMsg, .delayReq 2 okMsg, .delayResp 0 badMsg,
   .delayResp 2 okMsg, .dict badMsg, .bulk badMsg, .heartbeat 0 badMsg, .heartbeat 2 okMsg, .epoch badMsg, .lineStale badMsg,
   .msgReceived 0 badMsg, .msgReceived 2 okMsg, .roleDead 4096, .routeExpiry 4096, .seqExpiry 65536, .dictGo badAcc] : List Instr).any Instr.wf) = false := by decide

theorem test_wf_refuses_host : (([
  .pcieLinkUp 256 0 0 true, .pcieLinkUp 0 256 0 true, .pcieLinkUp 0 0 65536 true, .bar2Base badAcc, .ethFrameReceive 2 [] true,
   .ethFrameReceive 0 [256] true, .ethLinkUp 2 0, .ethLinkUp 0 65536, .ethLinkFault 2, .ethReadmit badAcc 0, .ethReadmit okAcc 2,
   .coreTxFrame 2] : List Instr).any Instr.wf) = false := by decide

theorem test_wf_refuses_time : (([
  .timeSet badAcc, .timeStep badAcc, .resync badAcc, .rateAdj badAcc, .alarmFire 4, .timeCapture 4] : List Instr).any Instr.wf) = false := by decide

theorem test_wf_refuses_faults : (([
  .watchdogKick badAcc, .fatalRequest badAcc, .calRun badAcc] : List Instr).any Instr.wf) = false := by decide

theorem test_wf_refuses_witness : (([
  .freeze badAcc, .release badAcc, .mark badAcc, .readSequence badAcc] : List Instr).any Instr.wf) = false := by decide

theorem test_wf_refuses_host2 : (([
  .msixUnmask (.unmaskVector 64), .coreAccess 4 true true true 0 1 [], .coreAccess 0 true true true (2 ^ 40) 1 [],
   .coreAccess 0 true true true 0 0 [], .coreAccess 0 true true true 0 257 [], .coreAccess 0 true true true 0 1 [256],
   .bar2Access true (2 ^ 32) 1 [], .bar2Access true 0 0 [], .bar2Access true 0 1 [256]] : List Instr).any Instr.wf) = false := by decide

/-! ### Small states -/

/-- A STOPPED device with some entries set. -/
def S (l : List (Nat × Nat)) : State := l.foldl (fun s e => s.wr e.1 e.2) (State.reset.wr K.devDeviceState stStopped)

abbrev idle : State := S []

def acc (v : Nat) (path : Nat := 0) : Acc := { path := path, secure := true, size := 8, offset := 0, value := v }
def be48 (n : Nat) : List Nat := (List.range 48).map fun i => n / 256 ^ (47 - i) % 256
def wput (l : List Nat) (o : Nat) (x : List Nat) : List Nat := l.take o ++ x ++ l.drop (o + x.length)
def img : List Nat := wput (wput (wput (List.replicate 512 0) 0 (leBytes 4 0x54424E47 ++ [1, 0, 1, 0, 0, 0, 0, 0] ++ leBytes 4 256 ++ leBytes 4 512 ++ leBytes 4 64 ++ leBytes 8 0 ++
   leBytes 8 0 ++ leBytes 4 576 ++ [2])) 64 (be48 ecGx ++ be48 ecGy)) 256 ([0x43, 0x46, 0, 1, 0, 0, 0, 0] ++ leBytes 2 1600 ++ [0, 0, 0, 0, 0, 0, 1, 1, 0, 0, 0, 0, 0, 0] ++ leBytes 8 (8 * 2 ^ 30))
def sg : List Nat := be48 0xaa87ca22be8b05378eb1c71ef320ad746e1d3b628ba79b9859f741e082542a385502f25dbf55296c3a545e3872760ab7 ++ be48 0x8efa48686ef15554577b9988efcd001cfa44deb13800e91e8035994c0383cb0c4b59b9a13f6fb5897ff207eab8135257
def hash : Nat := 0xa19d4db171b582eb8052b0cfe555e17894aa22d1c8a9770950697dd8f796d2fa4bf0a56ad80006b7ea08e1191f814b65
def dgram (ty sess target seq count : Nat) (body : List Nat) : Datagram :=
  { eth := 0, addr := 9, udpPort := 7, bytes := udpHeader ty sess target seq count false body.length ++ body }
def msgOf (cls : Nat) (payload : List Nat) : Msg :=
  { cls := cls, flags := 0, source := 5, dest := 0xFFFF, epoch := 0, role := 0, hops := 0, lineage := 0, seq := 1, payload := payload, crcOk := true, sound := true, stamp := 77 }
def inb (m : Msg) (s : State) : State := { s with skl := { s.skl with inbox := [(0, innerMsg m, 50)] } }
def bar0 (extra : List (Nat × Nat)) : State :=
  S ([(K.devRunMask, 2), (K.barBarEnable 15, 1), (K.barFirstHead 15, 124), (K.barHeadCount 15, 1), (K.slipLeadBar, 15), (K.jobUpY, 1), (K.jobUpX, 1), (K.jobEntryCount, 1)] ++ extra)
def tag0 : Tag := { cls := 1, kind := 1, flags := 0, rule := 0, acts := 0, web := 0, time := 0, lines := 1, first := 0, c0 := 0, c1 := 1, area := 2, umbra := 1, peak := 3, mean := 2, index := 0, pos := 1, neg := 0, attr := [] }
def pl (l : List Nat) : List Nat := l ++ List.replicate (32 - l.length) 0

/-! ### The spec's worked examples -/

/-- The curve example of R242: 12-bit 180 is 2,891. -/
theorem test_expand : expand12 180 = 2891 := by decide

/-- The example after R243: a dead nozzle's shares at 2,891 with DeadW1 90 and DeadW2 38. -/
theorem test_dead_shares : deadShare 2891 90 = 1016 ∧ deadShare 2891 38 = 429 := by decide

/-- The raster-line example of the Slip chapter: knots 0, 1,004, 2,001, 3,010, 4,095 at 2,891 give 2,832. -/
theorem test_nozzle_curve : nozzleCurve (1004 * 2 ^ 12 + 2001 * 2 ^ 24 + 3010 * 2 ^ 36 + 4095 * 2 ^ 48) 2891 = 2832 := by decide

/-- The same example: the ring column of two nozzles that sum to 5,723 holds 178. -/
theorem test_ring_byte : ringByte 2 5723 = 178 := by decide

/-- The temperature example of the Kiln chapter: Fire' of 1,600 at factor 3,860 is 1,508 FABCLK. -/
theorem test_pulse_scale : scaleSeg 0 1600 3860 = 1508 := by decide

/-- The colour loop's example: Lm(2,001) at Absorb 16,625 is 8,124. -/
theorem test_loop_law : lmOf 16625 2001 = 8124 := by decide

/-- The published check value of CRC-32C (PRESUMED, log 8). -/
theorem test_crc32c : crc32c [49, 50, 51, 52, 53, 54, 55, 56, 57] = 0xE3069283 := by decide +kernel

/-- The state a command leaves. -/
def after (c : Instr) (s : State) : State := match exec c s with | .next t => t | _ => s

/-- The Witness example: the first 32 bytes of the FATAL entry of a DRAM fault. -/
theorem test_witness_entry :
    wentryBytes { seq := 0x27C41, kind := 0xF0, unit := 0x0802, time := 7200000000000 * 65536, lineage := 0, gap := false, d0 := 1, d1 := 0x0E12345640 } =
      [0x41, 0x7C, 0x02, 0x00, 0xF0, 0x00, 0x02, 0x08, 0x00, 0x40, 0x71, 0x61, 0x8C, 0x06, 0x00, 0x00, 0x00, 0x00, 0x00, 0x00,
       0x01, 0x00, 0x00, 0x00, 0x40, 0x56, 0x34, 0x12, 0x0E, 0x00, 0x00, 0x00] := by decide

/-- The Grenust example with 11 repeats for its 250: a match of 40 has V 7, and the CRC-32C is that of the 44 bytes. -/
def grenustExample : List Nat :=
  [0x47, 0x52, 0x53, 0x31, 0x01, 0x00, 0x10, 0x00, 44, 0, 0, 0, 0, 0, 0, 0, 0x81, 0, 0, 0, 44, 0, 0, 0, 0x08, 0, 0, 0,
   0xAA, 0x54, 0xA4, 0x54, 0x9F, 0x10, 0x20, 0x30, 0x40, 0x03, 0x00, 0x07]

def grenustInput : List Nat := (List.replicate 11 [0x10, 0x20, 0x30, 0x40]).flatten

theorem test_decompress : decompress grenustExample 44 = (zeOk, grenustInput) := by decide +kernel

theorem test_compress : compressStream 4096 1 grenustInput = grenustExample := by decide +kernel

/-- The time example: node 0x011's first exchange has θ 300 ns and δ 49 ns, and steps it by −300 ns. -/
def exchangeState (t1 t2 t3 : Int) (state : Nat) : State :=
  { S [(K.syncSyncSource, 2), (K.syncSyncPeriod, 1000), (K.syncKpShift, 1), (K.syncKiShift, 3), (K.timeSyncState, state)] with
    sync := { exch := some { id := 7, t1 := t1 * 65536, t2 := t2 * 65536, t3 := some (t3 * 65536), since := 0 } } }

def answer (t4 : Nat) : Msg := msgOf 3 (timePayload 3 7 (t4 * 65536))

theorem test_exchange :
    let t := after (.delayResp 0 (answer 1000020099)) (inb (answer 1000020099) (exchangeState 1000000000 1000000349 1000020350 0))
    t.rd K.timeLastOffset = 300 * 65536 ∧ t.rd K.timePathDelay = 49 * 65536 ∧ t.rd K.timeSyncState = 1 := by decide +kernel

/-- One period later, with θ 20 ns: the integral and RateAdj of the example. -/
theorem test_rate_law :
    let t := after (.delayResp 0 (answer 229)) (inb (answer 229) (exchangeState 100 169 200 1))
    t.rd K.timeIntegral = 2 ^ 64 - 879609302 ∧ t.rd K.timeRateAdj = 2 ^ 64 - 4398046510 := by decide +kernel

/-- The TEMP_READ example of KH54: with faults at 600 and 1,300 ms in the window, one at 1,550 ms retires the head; with one only it
does not. -/
theorem test_fault_window :
    let s (l : List Nat) : State :=
      { S [(K.kpProfile 13, 1), (K.profRetryCount 0, 2), (K.profRetryWindow 0, 1000), (K.khHeadState 54, khActive)] with
        now := ms 1550, faultTimes := [(6 * 256 + 54, l)], heads := [(54, { reading := true })] }
    (after (.tempReading 54 none) (s [0, ms 600, ms 1300])).headState 54 = khRetired ∧
      (after (.tempReading 54 none) (s [0, ms 1300])).headState 54 = khActive := by decide +kernel

/-- R66: a rising A with B low is one count forward. -/
theorem test_quad_forward :
    (after (.countAccepted 0 .a) { S [(K.encMode 0, 1), (K.encsChannelState 0, 1), (K.encCountsPerRev 0, 1048576)] with
      encs := [(0, { a := { level := true, since := 5 } })] }).rd (K.encsRotary 0) = 1 := by decide +kernel

/-- R31, R39: an RWS entry is refused outside STOPPED with ERR_STATE (3). -/
theorem test_rws_state :
    ((S [(K.devDeviceState, stArmed)]).writeStatus (acc 3) K.devRunMask, idle.writeStatus (acc 3) K.devRunMask) = (3, 0) := by decide +kernel

/-- R28: in FAULT a write of FatalRequest, like any write but ResetRequest's, is not served. -/
theorem test_fault_writes : (S [(K.devDeviceState, stFault)]).writeStatus (acc 1 1) K.fatalFatalRequest ≠ 0 := by decide +kernel

/-- R39: a read-only entry is refused with ERR_ACCESS (2), an absent one with ERR_NO_ENTRY (1). -/
theorem test_write_refusals : (idle.writeStatus (acc 1) K.devDeviceState, idle.writeStatus (acc 1) 0xFFFFFF) = (2, 1) := by decide +kernel

/-- R537: the magic number asks for a warm reset, even in FAULT; another value does not. -/
theorem test_reset_request :
    (after (.resetRequest (acc 0x5752 1)) (S [(K.devDeviceState, stFault)])).dev = stReset ∧
      (after (.resetRequest (acc 0x5753 1)) (S [(K.devDeviceState, stFault)])).dev = stFault := by decide +kernel

/-- R479: Bar2Base is a multiple of 1 GiB. -/
theorem test_bar2_base : idle.writeStatus (acc (18 * 2 ^ 32)) K.pcieBar2Base = 0 ∧ idle.writeStatus (acc 4096) K.pcieBar2Base = 8 := by
  decide +kernel

/-- The device has cameras 0 to 11 only. -/
theorem test_no_camera : exec (.bandEnd 12) idle = .fault .noSuchInstance := rfl

/-- R465: EpochTable is 0 at reset. -/
theorem test_epochs : (State.reset.epochOf 0, State.reset.epochOf 4095) = (0, 0) := by decide +kernel

/-- The table's rows spell no words, so no word is a command. -/
theorem test_no_words : decodeTableWord 8 1 = none := rfl

/-- A step takes the front command; an empty queue lets one FABCLK pass. -/
theorem test_step :
    (match step { State.reset with pending := [.powerOnReset, .devStop] } with | .next t => t.pending.length | _ => 9) = 1 ∧
      (match step State.reset with | .next t => t.now | _ => 9) = 1 := by decide +kernel

/-! ### Witnesses of the statements' hypotheses -/

def W0 : State := S [(K.qQueueEnable 63, 1), (K.qItemBytes 63, 16), (K.qBankSherds 63, 1), (K.qCreditGrant 63, 4)]

theorem wit_ItemsFitTheirQueue_0 : ∃ (q : Nat) (item : List Nat) (s : State), (q < 64) ∧ (item.length ≤ s.rd (K.qItemBytes q)) ∧ (s.queCredits q ≠ 0) :=
  ⟨63, ([1, 2, 3] : List Nat), W0, by decide +kernel⟩

def W1 : State := S [(K.qQueueEnable 0, 1), (K.qItemBytes 0, 16)]

theorem wit_ItemsFitTheirQueue_1 : ∃ (q : Nat) (item : List Nat) (s : State), (q < 64) ∧ (s.on (K.qQueueEnable q) = true) ∧ (s.rd (K.qItemBytes q) < item.length) :=
  ⟨0, (List.replicate 17 0 : List Nat), W1, by decide +kernel⟩

theorem wit_ItemsFitTheirQueue_3 : ∃ (l : List Nat), (l.length = 16) :=
  ⟨(List.replicate 16 7 : List Nat), by decide +kernel⟩

theorem wit_ColumnReflection_0 : ∃ (w : Nat) (j : Int), (w % 2 = 0) ∧ (0 < w) ∧ (-(w : Int) < j) ∧ (j < 2 * (w : Int) - 1) :=
  ⟨8, (-7 : Int), by decide +kernel⟩

theorem wit_TimeCounter_1 : ∃ (s : State), (s.pending = []) :=
  ⟨idle, by decide +kernel⟩

theorem wit_IdleStepCountsClock_0 : ∃ (s : State), (s.pending = []) :=
  ⟨idle, by decide +kernel⟩

theorem wit_StepKeepsMemoryCanonical_0 : ∃ s t : State, s.memOk ∧ step s = .next t :=
  ⟨{ State.reset with pending := [.pllLockLoss] }, _, rfl, rfl⟩

theorem wit_StepKeepsFuses_0 : ∃ s t : State, step s = .next t := ⟨{ State.reset with pending := [.fuseBurnDone] }, _, rfl⟩

theorem wit_StepConsumesOneCommand_0 : ∃ s t : State, s.pending ≠ [] ∧ step s = .next t :=
  ⟨{ State.reset with pending := [.fuseBurnDone] }, _, by decide, rfl⟩

theorem wit_WarmResetCommands_0 : ∃ (s : State), (s.dev ≠ stReset) :=
  ⟨idle, by decide +kernel⟩

theorem wit_WarmResetCommands_1 : ∃ (a : Acc) (s : State), (s.writeStatus a K.rstResetRequest = 0) ∧ (accVal a K.rstResetRequest = 0x5752) :=
  ⟨(acc 0x5752 1 : Acc), idle, by decide +kernel⟩

theorem wit_WarmResetCommands_2 : ∃ (a : Acc) (s : State), (s.writeStatus a K.rstResetRequest = 0) ∧ (accVal a K.rstResetRequest ≠ 0x5752) :=
  ⟨(acc 0x5751 1 : Acc), idle, by decide +kernel⟩

theorem wit_ResetReleaseCommand_0 : ∃ (straps : Nat) (s : State), (s.dev = stReset) ∧ (straps % 4 ≠ 3) :=
  ⟨2, State.reset, by decide +kernel⟩

theorem wit_ResetReleaseCommand_1 : ∃ (straps : Nat) (s : State), (s.dev = stReset) ∧ (straps % 4 = 3) :=
  ⟨7, State.reset, by decide +kernel⟩

def W2 : State := { S ([(K.devDeviceState, stBoot)]) with boot := { phase := .header } }

theorem wit_BootImageCommands_0 : ∃ (image : List Nat) (s : State), (s.dev = stBoot) ∧ (s.boot.phase = .header) ∧ (hdr image 0 4 = 0x54424E47) ∧ (hdrOk image (cfgPopulated image) = true) ∧ (cfgOk image = true) ∧ (s.boot.warm = false) ∧ (s.boot.trained ≠ some (cfgDram image)) :=
  ⟨img, W2, by decide +kernel⟩

def W3 : State := { S ([(K.devDeviceState, stBoot)]) with boot := { phase := .header, sources := [1, 2] } }

theorem wit_BootImageCommands_1 : ∃ (image : List Nat) (src : Nat) (src' : Nat) (l : List Nat) (s : State), (s.dev = stBoot) ∧ (s.boot.phase = .header) ∧ (hdr image 0 4 ≠ 0x54424E47) ∧ (s.boot.sources = src :: src' :: l) :=
  ⟨([1] : List Nat), 1, 2, [], W3, by decide +kernel⟩

def W4 : State := { S ([(K.devDeviceState, stBoot), (K.dramChannelsPresent, 5)]) with boot := { phase := .training } }

theorem wit_BootImageCommands_2 : ∃ (failed : Nat) (s : State), (s.dev = stBoot) ∧ (s.boot.phase = .training) ∧ (s.failedUsed failed = []) :=
  ⟨0, W4, by decide +kernel⟩

theorem wit_BootImageCommands_3 : ∃ (failed : Nat) (n : Nat) (l : List Nat) (s : State), (s.dev = stBoot) ∧ (s.boot.phase = .training) ∧ (s.failedUsed failed = n :: l) :=
  ⟨4, 2, [], W4, by decide +kernel⟩

def W5 : State := { S ([(K.devDeviceState, stBoot)]) with boot := { phase := .zeroing }, mem := [(4, 5)] }

theorem wit_BootImageCommands_4 : ∃ (s : State), (s.dev = stBoot) ∧ (s.boot.phase = .zeroing) :=
  ⟨W5, by decide +kernel⟩

def W6 : State := { S ([(K.devDeviceState, stBoot)]) with boot := { phase := .payload, sources := [1, 2], image := img } }

theorem wit_BootImageCommands_5 : ∃ (payload : List Nat) (sig : List Nat) (l : List Nat) (r : Nat) (src : Nat) (src' : Nat) (s : State), (s.dev = stBoot) ∧ (s.boot.phase = .payload) ∧ (payload.length + restStart s.boot.image = hdrSignatureOffset s.boot.image) ∧ (sig.length = 96) ∧ (keyCheck s.fuses s.boot.image payload sig = r) ∧ (s.boot.sources = src :: src' :: l) :=
  ⟨(List.replicate 64 0 : List Nat), (List.replicate 96 0 : List Nat), [], 7, 1, 2, W6, by decide +kernel⟩

def W7 : State := { S ([(K.devDeviceState, stBoot), (K.bhostBootHostLength, 512)]) with boot := { phase := .waitHost } }

theorem wit_BootEntryCommands_0 : ∃ (a : Acc) (s : State), (s.writeStatus a K.bhostBootGo = 0) ∧ (s.bootHostOk = true) ∧ (s.hostFetching = false) ∧ (accVal a K.bhostBootGo = 1) ∧ (s.boot.phase = .waitHost) :=
  ⟨(acc 1 : Acc), W7, by decide +kernel⟩

def W8 : State := { S ([(K.devDeviceState, stBoot), (K.bhostBootHostLength, 511)]) with boot := { phase := .waitHost } }

theorem wit_BootEntryCommands_1 : ∃ (a : Acc) (s : State), (s.writeStatus a K.bhostBootGo = 0) ∧ (s.bootHostOk = false) :=
  ⟨(acc 1 : Acc), W8, by decide +kernel⟩

def W9 : State := { S ([(K.devDeviceState, stBoot)]) with boot := { accepted := true } }

theorem wit_BootEntryCommands_2 : ∃ (a : Acc) (s : State), (s.writeStatus a K.bootBootComplete = 0) ∧ (accVal a K.bootBootComplete = 1) ∧ (s.dev = stBoot) ∧ (s.boot.accepted = true) :=
  ⟨(acc 1 1 : Acc), W9, by decide +kernel⟩

def W10 : State := S [(K.bootImageSecurityVersion, 1)]

theorem wit_BootEntryCommands_3 : ∃ (a : Acc) (s : State), (s.writeStatus a K.fuseAdvanceSecurityVersion = 0) ∧ (s.fuses.version < accVal a K.fuseAdvanceSecurityVersion) ∧ (accVal a K.fuseAdvanceSecurityVersion ≤ s.rd K.bootImageSecurityVersion) ∧ (s.fuses.burn = none) :=
  ⟨(acc 1 1 : Acc), W10, by decide +kernel⟩

theorem wit_BootEntryCommands_4 : ∃ (a : Acc) (s : State), (s.writeStatus a K.fuseRevokeKey = 0) ∧ (accVal a K.fuseRevokeKey ≤ 3) ∧ (accVal a K.fuseRevokeKey ≠ s.rd K.bootKeySlotUsed) ∧ (s.fuses.burn = none) :=
  ⟨(acc 3 1 : Acc), idle, by decide +kernel⟩

def W11 : State := { S [] with fuses := { State.reset.fuses with burn := some { revoke := true, value := 2, due := 9 } } }

theorem wit_BootEntryCommands_5 : ∃ (b : Burn) (s : State), (s.fuses.burn = some b) :=
  ⟨({ revoke := true, value := 2, due := 9 } : Burn), W11, by decide +kernel⟩

theorem wit_BootEntryCommands_6 : ∃ (a : Acc) (s : State), (s.writeStatus a K.coreCoreRelease = 0) :=
  ⟨(acc 14 1 : Acc), idle, by decide +kernel⟩

def W12 : State := S [(K.devRunMask, 1), (K.jobEntryCount, 1)]

theorem wit_DeviceRequests_0 : ∃ (a : Acc) (acks : Nat) (s : State), (s.writeStatus { a with value := 1 } K.devStateRequest = 0) ∧ (s.dev = stStopped) ∧ ((s.endTests acks).jobMismatch = false) ∧ ((s.endTests acks).armCause = 0) :=
  ⟨(acc 1 : Acc), 0, W12, by decide +kernel⟩

theorem wit_DeviceRequests_1 : ∃ (a : Acc) (acks : Nat) (s : State), (s.writeStatus { a with value := 1 } K.devStateRequest = 0) ∧ (s.dev = stStopped) ∧ ((s.endTests acks).inspecting = false) ∧ ((s.endTests acks).printing = false) :=
  ⟨(acc 1 : Acc), 0, (S [(K.devRunMask, 0)] : State), by decide +kernel⟩

def W13 : State := S ([(K.devDeviceState, stArmed), (K.devStartSource, 0)])

theorem wit_DeviceRequests_2 : ∃ (a : Acc) (s : State), (s.writeStatus { a with value := 2 } K.devStateRequest = 0) ∧ (s.dev = stArmed) ∧ (s.rd K.devStartSource = 0) :=
  ⟨(acc 1 : Acc), W13, by decide +kernel⟩

theorem wit_DeviceRequests_3 : ∃ (a : Acc) (acks : Nat) (s : State), (s.writeStatus { a with value := 5 } K.devStateRequest = 0) ∧ (s.dev = stStopped) ∧ ((s.endTests acks).wakeHolds = false) :=
  ⟨(acc 1 : Acc), 0, idle, by decide +kernel⟩

def W14 : State := S ([(K.devDeviceState, stStandby), (K.pwrPowerPhase, 2), (K.pwrSleepMask, 1)])

theorem wit_DeviceRequests_4 : ∃ (a : Acc) (s : State), (s.writeStatus { a with value := 6 } K.devStateRequest = 0) ∧ (s.dev = stStandby) ∧ (s.rd K.pwrPowerPhase = 2) ∧ (s.maskedDomains ≠ []) :=
  ⟨(acc 1 : Acc), W14, by decide +kernel⟩

theorem wit_DeviceRequests_5 : ∃ (a : Acc) (s : State), (s.writeStatus { a with value := 2 } K.devStateRequest = 0) ∧ (s.dev ≠ stArmed) ∧ (s.dev ≠ stDraining) :=
  ⟨(acc 1 : Acc), idle, by decide +kernel⟩

def W15 : State := S ([(K.devDeviceState, stRunning)])

theorem wit_DeviceStops_0 : ∃ (a : Acc) (s : State), (s.writeStatus { a with value := 3 } K.devStateRequest = 0) ∧ (s.dev = stRunning) :=
  ⟨(acc 1 : Acc), W15, by decide +kernel⟩

def W16 : State := S ([(K.devDeviceState, stArmed)])

theorem wit_DeviceStops_1 : ∃ (a : Acc) (s : State), (s.writeStatus { a with value := 3 } K.devStateRequest = 0) ∧ (s.dev = stArmed) :=
  ⟨(acc 1 : Acc), W16, by decide +kernel⟩

def W17 : State := S ([(K.devDeviceState, stDraining)])

theorem wit_DeviceStops_2 : ∃ (a : Acc) (s : State), (s.writeStatus { a with value := 3 } K.devStateRequest = 0) ∧ (s.dev = stDraining) :=
  ⟨(acc 1 : Acc), W17, by decide +kernel⟩

theorem wit_DeviceStops_3 : ∃ (a : Acc) (s : State), (s.writeStatus { a with value := 4 } K.devStateRequest = 0) ∧ (s.dev = stArmed) :=
  ⟨(acc 1 : Acc), W16, by decide +kernel⟩

def W18 : State := { S ([(K.devDeviceState, stRunning)]) with tasks := [{ task := 0, lineage := 0, stamp := 5 }] }

theorem wit_DeviceStops_4 : ∃ (d : Delivery) (u : State) (s : State), (s.takeTask 0 = some (d, u)) ∧ (s.dev = stRunning) :=
  ⟨({ task := 0, lineage := 0, stamp := 5 } : Delivery), W15, W18, rfl, (by decide +kernel)⟩

theorem wit_DeviceStops_5 : ∃ (s : State), (s.dev = stDraining) ∧ (s.printing = true → s.barsOn.all s.barDrained = true) ∧ (s.inspecting = true → s.bandsDrained = true ∧ s.umb.comps = [] ∧ s.umb.closed = []) :=
  ⟨W17, by decide +kernel⟩

def W19 : State := S ([(K.devDeviceState, stDraining), (K.devDrainTimeout, 100)])

theorem wit_DeviceStops_6 : ∃ (s : State), (s.dev = stDraining) ∧ (s.rd K.devDrainTimeout ≠ 0) :=
  ⟨W19, by decide +kernel⟩

theorem wit_DictionaryWrites_0 : ∃ (a : Acc) (k : Nat) (r : Row) (s : State), (rowOf k = some r) ∧ s.plainAt k ∧ (r.acc = .staged) ∧ (s.writeStatus a k = 0) :=
  ⟨(acc 1 : Acc), (K.encCountsPerRev 1 : Nat), _, idle, rfl, ⟨fun _ _ => rfl, fun _ => rfl, fun _ => rfl⟩, (by decide +kernel), (by decide +kernel)⟩

theorem wit_DictionaryWrites_1 : ∃ (a : Acc) (k : Nat) (r : Row) (s : State), (rowOf k = some r) ∧ s.plainAt k ∧ (r.acc = .rw ∨ r.acc = .rws) ∧ (s.writeStatus a k = 0) ∧ ([KeySet.one K.dictAccessCount, .one (K.pathLastStatus a.path), .one (K.pathLastEntry a.path)].any (·.has k) = false) :=
  ⟨(acc 1 : Acc), 0x203001, _, idle, rfl, ⟨fun _ _ => rfl, fun _ => rfl, fun _ => rfl⟩, (by decide +kernel), (by decide +kernel), (by decide +kernel)⟩

theorem wit_DictionaryWrites_2 : ∃ (a : Acc) (k : Nat) (r : Row) (s : State), (rowOf k = some r) ∧ s.plainAt k ∧ (r.acc = .w1c) ∧ (s.writeStatus a k = 0) ∧ ([KeySet.one K.dictAccessCount, .one (K.pathLastStatus a.path), .one (K.pathLastEntry a.path)].any (·.has k) = false) :=
  ⟨(acc 1 : Acc), 0x160009, _, idle, rfl, ⟨fun _ _ => rfl, fun _ => rfl, fun _ => rfl⟩, (by decide +kernel), (by decide +kernel), (by decide +kernel)⟩

theorem wit_DictionaryWrites_3 : ∃ (a : Acc) (k : Nat) (st : Nat) (s : State), s.plainAt k ∧ (s.writeStatus a k = st) ∧ (st ≠ 0) :=
  ⟨(acc 1 : Acc), K.timeTimeCounter, 2, idle, ⟨fun _ _ => rfl, fun _ => rfl, fun _ => rfl⟩, (by decide +kernel), (by decide +kernel)⟩

theorem wit_DictionaryWrites_4 : ∃ (a : Acc) (k : Nat) (x : Nat) (r : Row) (s : State), (s.readStatus a k = 0) ∧ (rowOf k = some r) ∧ (r.ty ≠ .time) ∧ (s.freshValue k = some x) ∧ ([KeySet.one K.dictAccessCount, .one (K.pathLastStatus a.path), .one (K.pathLastEntry a.path)].any (·.has k) = false) :=
  ⟨(acc 1 : Acc), (K.camstFifoPeak 3 : Nat), 0, _, idle, (by decide +kernel), rfl, (by decide +kernel), (by decide +kernel), (by decide +kernel)⟩

theorem wit_DictionaryWrites_5 : ∃ (a : Acc) (k : Nat) (r : Row) (s : State), (s.readStatus a k = 0) ∧ (rowOf k = some r) ∧ (r.ty = .time) ∧ (flat a = true) ∧ (s.freshValue k = none) :=
  ⟨(acc 1 : Acc), 0x160002, _, idle, (by decide +kernel), rfl, (by decide +kernel), (by decide +kernel), (by decide +kernel)⟩

theorem wit_GroupCommits_0 : ∃ (a : Acc) (idx : Nat) (need : Nat) (s : State), (groupStaged idx = true) ∧ (s.writeStatus { a with value := 1 } (K.commit idx) = 0) ∧ (s.tryCommit idx = (0, s.acceptCommit idx need)) :=
  ⟨(acc 1 : Acc), 0x2010, 0, idle, (by decide +kernel), (by decide +kernel), rfl⟩

def W20 : State := { S [] with shadow := [(K.encCountsPerRev 0, 0)] }

theorem wit_GroupCommits_1 : ∃ (a : Acc) (idx : Nat) (z : Nat) (zs : List Nat) (s : State), (groupStaged idx = true) ∧ (s.writeStatus { a with value := 1 } (K.commit idx) = 0) ∧ (ownZeros (s.goLive idx) idx ++ zeroSubs (s.goLive idx) idx = z :: zs) :=
  ⟨(acc 1 : Acc), 0x2010, 6, [], W20, (by decide +kernel), (by decide +kernel), (by decide +kernel)⟩

def W21 : State := { S [] with shadow := [(K.encCountsPerRev 0, 9)] }

theorem wit_GroupCommits_2 : ∃ (a : Acc) (idx : Nat) (s : State), (s.writeStatus { a with value := 2 } (K.commit idx) = 0) :=
  ⟨(acc 1 : Acc), 0x2010, W21, (by decide +kernel)⟩

def W22 : State := { S [(K.commit 0x1401, 1)] with shadow := [(0x140101, 1)] }

theorem wit_GroupCommits_3 : ∃ (idx : Nat) (s : State), (groupStaged idx = true) ∧ (s.commitPending idx = true) ∧ (s.applyPoint idx = true) ∧ (s.applyWith idx = s.applyGroup idx) :=
  ⟨0x1401, W22, (by decide +kernel), (by decide +kernel), (by decide +kernel), rfl⟩

theorem wit_OwnershipCommands_0 : ∃ (a : Acc) (target : Nat) (newOwner : Nat) (s : State), (target < 65536) ∧ (s.writeStatus { a with value := ownValue 1 newOwner target } K.ownOwnCommand = 0) ∧ (indexPresent target = true) ∧ (s.locked target = false) ∧ (s.owner target = pathClass a.path ∨ s.secureAcc a = true) :=
  ⟨(acc 1 : Acc), 0x2011, 2, idle, by decide +kernel⟩

theorem wit_OwnershipCommands_1 : ∃ (a : Acc) (target : Nat) (s : State), (target < 65536) ∧ (s.writeStatus { a with value := ownValue 2 0 target } K.ownOwnCommand = 0) ∧ (indexPresent target = true) ∧ (s.locked target = false) ∧ (s.owner target = pathClass a.path) :=
  ⟨(acc 1 : Acc), 0x2011, idle, by decide +kernel⟩

theorem wit_OwnershipCommands_2 : ∃ (a : Acc) (target : Nat) (s : State), (target < 65536) ∧ (s.writeStatus { a with value := ownValue 3 0 target } K.ownOwnCommand = 0) ∧ (indexPresent target = true) ∧ (s.locked target = false) ∧ (s.secureAcc a = true) ∧ (bitOf (s.ownByte target) 4 = false) :=
  ⟨(acc 1 1 : Acc), 0x2011, idle, by decide +kernel⟩

theorem wit_OwnershipCommands_3 : ∃ (a : Acc) (target : Nat) (s : State), (target < 65536) ∧ (s.writeStatus { a with value := ownValue 4 0 target } K.ownOwnCommand = 0) ∧ (indexPresent target = true) ∧ (s.locked target = false) ∧ (s.secureAcc a = true) ∧ (bitOf (s.ownByte target) 4 = false) :=
  ⟨(acc 1 1 : Acc), 0x2011, idle, by decide +kernel⟩

theorem wit_OwnershipCommands_4 : ∃ (a : Acc) (s : State), (s.readStatus a K.chalChallenge = 0) :=
  ⟨(acc 1 : Acc), idle, by decide +kernel⟩

def W23 : State := { S [(K.lineLineKeySet, 1), (K.chalProof 0, 12948008906315213226), (K.chalProof 1, 8146906663441364646), (K.chalProof 2, 17703091123020809601), (K.chalProof 3, 12554070676315865419)] with chal := { value := some 5 } }

theorem wit_OwnershipCommands_5 : ∃ (a : Acc) (s : State), (s.writeStatus a K.chalProofGo = 0) ∧ (accVal a K.chalProofGo = 1) ∧ (s.proofLocked = false) ∧ (s.proofOk = true) :=
  ⟨(acc 1 : Acc), W23, by decide +kernel⟩

def W24 : State := { S [(K.lineLineKeySet, 1)] with chal := { value := some 5 } }

theorem wit_OwnershipCommands_6 : ∃ (a : Acc) (s : State), (s.writeStatus a K.chalProofGo = 0) ∧ (accVal a K.chalProofGo = 1) ∧ (s.proofLocked = false) ∧ (s.proofOk = false) :=
  ⟨(acc 1 : Acc), W24, by decide +kernel⟩

def W25 : State := { S [] with chal := { lockedUntil := some 9 } }

theorem wit_OwnershipCommands_7 : ∃ (u : Nat) (s : State), (s.chal.lockedUntil = some u) :=
  ⟨9, W25, by decide +kernel⟩

theorem wit_OwnershipCommands_8 : ∃ (a : Acc) (p : Nat) (s : State), (s.writeStatus a (K.pathDrop p) = 0) ∧ (p < 7) ∧ (accVal a (K.pathDrop p) = 1) :=
  ⟨(acc 1 : Acc), 0, idle, by decide +kernel⟩

def W26 : State := S [(K.pathDomEntry 0, 0x264004), (K.pathDomLength 0, 64), (K.pathDomDirection 0, 1)]

theorem wit_DomainTransferCommands_0 : ∃ (a : Acc) (p : Nat) (s : State), (s.writeStatus a (K.pathDomGo p) = 0) ∧ (p < 5) ∧ (accVal a (K.pathDomGo p) = 1) ∧ (s.domGoStatus a p = 0) :=
  ⟨(acc 1 : Acc), 0, W26, by decide +kernel⟩

def W27 : State := { S [(K.pcieBusMaster, 1)] with xfers := [(0, { entry := K.sklRoleTable, offset := 0, length := 64, addr := 0, write := false })] }

theorem wit_DomainTransferCommands_1 : ∃ (x : Xfer) (s : State), (tfind s.xfers 0 = some x) ∧ (x.write = false) ∧ (x.length ≠ 0) ∧ (s.rd K.pcieBusMaster = 1) :=
  ⟨({ entry := K.sklRoleTable, offset := 0, length := 64, addr := 0, write := false } : Xfer), W27, by decide +kernel⟩

def W28 : State := { S [(K.pcieBusMaster, 1)] with xfers := [(0, { entry := K.sklRoleTable, offset := 0, length := 64, addr := 0, write := true })] }

theorem wit_DomainTransferCommands_2 : ∃ (host : List Nat) (x : Xfer) (r : Row) (s : State), (tfind s.xfers 0 = some x) ∧ (rowOf x.entry = some r) ∧ (r.acc ≠ .staged) ∧ (x.entry ≠ K.glzNozzleTable) ∧ (x.entry ≠ K.lineLineKey) ∧ (x.write = true) ∧ (x.length ≠ 0) ∧ (s.rd K.pcieBusMaster = 1) ∧ (x.length ≤ host.length) :=
  ⟨(List.replicate 64 3 : List Nat), ({ entry := K.sklRoleTable, offset := 0, length := 64, addr := 0, write := true } : Xfer), _, W28, (by decide +kernel), rfl, (by decide +kernel), (by decide +kernel), (by decide +kernel), (by decide +kernel), (by decide +kernel), (by decide +kernel), (by decide +kernel)⟩

def W29 : State := { S [(K.dramDramPopulated, 4096)] with xfers := [(1, { entry := K.sklRoleTable, offset := 0, length := 64, addr := 0, write := false })] }

theorem wit_DomainTransferCommands_3 : ∃ (p : Nat) (x : Xfer) (s : State), (1 ≤ p) ∧ (p < 5) ∧ (tfind s.xfers p = some x) ∧ (x.write = false) ∧ (x.length ≠ 0) ∧ (s.beatsOk x (ceilDiv x.length 64) 0 = x.length) :=
  ⟨1, ({ entry := K.sklRoleTable, offset := 0, length := 64, addr := 0, write := false } : Xfer), W29, by decide +kernel⟩

def W30 : State := { S [] with xfers := [(4, { entry := K.sklRoleTable, offset := 0, length := 64, addr := 0, write := false })] }

theorem wit_DomainTransferCommands_4 : ∃ (p : Nat) (x : Xfer) (s : State), (1 ≤ p) ∧ (p < 5) ∧ (tfind s.xfers p = some x) ∧ (x.length ≠ 0) ∧ (s.beatsOk x (ceilDiv x.length 64) 0 = 0) :=
  ⟨4, ({ entry := K.sklRoleTable, offset := 0, length := 64, addr := 0, write := false } : Xfer), W30, by decide +kernel⟩

def W31 : State := S [(K.udpUdpEnable, 1), (K.ethsLinkState 0, 2), (K.udpOpenPolicy, 2)]

theorem wit_UdpSessionCommands_0 : ∃ (g : Datagram) (i : Nat) (s : State), (s.udpIn 0x01 g = .good) ∧ (udpLengthOk g.bytes = true) ∧ ((udpBody g.bytes).length = 16) ∧ (s.rd K.udpOpenPolicy ≠ 0 ∨ s.lineKey.isSome = true) ∧ (s.freeSess = some i) :=
  ⟨(dgram 1 0 0 0 0 (List.replicate 16 1) : Datagram), 1, W31, by decide +kernel⟩

def W32 : State := { S [(K.udpUdpEnable, 1), (K.ethsLinkState 0, 2), (K.udpOpenPolicy, 2), (K.lineLineKeySet, 1)] with sessions := [(3, { cNonce := List.replicate 16 0, dNonce := List.replicate 16 0 })] }

theorem wit_UdpSessionCommands_1 : ∃ (g : Datagram) (x : Sess) (key : List Nat) (s : State), (s.udpIn 0x03 g = .good) ∧ (tfind s.sessions (udpSession g.bytes) = some x) ∧ (s.lineKey = some key) ∧ (udpLengthOk g.bytes = true) ∧ (x.auth = false) ∧ (udpBody g.bytes = hmac key (x.dNonce ++ x.cNonce ++ leBytes 2 (udpSession g.bytes))) :=
  ⟨(dgram 3 3 0 0 0 [190, 63, 111, 0, 244, 55, 147, 199, 63, 51, 59, 181, 182, 181, 88, 47, 160, 215, 215, 158, 239, 74, 191, 252, 226, 127, 58, 229, 180, 38, 116, 110] : Datagram), ({ cNonce := List.replicate 16 0, dNonce := List.replicate 16 0 } : Sess), (List.replicate 32 0 : List Nat), W32, by decide +kernel⟩

def W33 : State := { S [(K.udpUdpEnable, 1), (K.ethsLinkState 0, 2), (K.udpOpenPolicy, 2)] with sessions := [(3, { started := true, lastSeq := 5 })] }

theorem wit_UdpSessionCommands_2 : ∃ (g : Datagram) (x : Sess) (rs : List DRec) (s : State), (s.udpIn 0x10 g = .good) ∧ (tfind s.sessions (udpSession g.bytes) = some x) ∧ (x.auth = true ∨ s.rd K.udpOpenPolicy ≠ 0) ∧ (udpLengthOk g.bytes = true) ∧ (bodyRecords (udpCount g.bytes) (udpBody g.bytes) = some rs) ∧ (x.started = true) ∧ (udpSequence g.bytes < x.lastSeq) :=
  ⟨(dgram 0x10 3 0x8000 4 1 [1, 1, 0x00, 0x12, 0, 0, 0, 0] : Datagram), ({ started := true, lastSeq := 5 } : Sess), ((bodyRecords 1 [1, 1, 0x00, 0x12, 0, 0, 0, 0]).get! : List DRec), W33, by decide +kernel⟩

def W34 : State := { S [(K.udpUdpEnable, 1), (K.ethsLinkState 0, 2), (K.udpOpenPolicy, 2)] with sessions := [(3, { started := true, lastSeq := 5, lastResp := [1] })] }

theorem wit_UdpSessionCommands_3 : ∃ (g : Datagram) (x : Sess) (rs : List DRec) (s : State), (s.udpIn 0x10 g = .good) ∧ (tfind s.sessions (udpSession g.bytes) = some x) ∧ (x.auth = true ∨ s.rd K.udpOpenPolicy ≠ 0) ∧ (udpLengthOk g.bytes = true) ∧ (bodyRecords (udpCount g.bytes) (udpBody g.bytes) = some rs) ∧ (x.started = true) ∧ (udpSequence g.bytes = x.lastSeq) ∧ (x.lastResp ≠ []) :=
  ⟨(dgram 0x10 3 0x8000 5 1 [1, 1, 0x00, 0x12, 0, 0, 0, 0] : Datagram), ({ started := true, lastSeq := 5, lastResp := [1] } : Sess), ((bodyRecords 1 [1, 1, 0x00, 0x12, 0, 0, 0, 0]).get! : List DRec), W34, by decide +kernel⟩

def W35 : State := (runRecords { path := 5, secure := ({ started := true, lastSeq := 5, lastResp := [1] } : Sess).auth, readOnly := !({ started := true, lastSeq := 5, lastResp := [1] } : Sess).auth && W34.rd K.udpOpenPolicy == 1 } 1440 ((bodyRecords 1 [1, 1, 0x00, 0x12, 0, 0, 0, 0]).get! : List DRec) W34).2

theorem wit_UdpSessionCommands_4 : ∃ (g : Datagram) (x : Sess) (rs : List DRec) (body : List Nat) (u : State) (s : State), (s.udpIn 0x10 g = .good) ∧ (tfind s.sessions (udpSession g.bytes) = some x) ∧ (x.auth = true ∨ s.rd K.udpOpenPolicy ≠ 0) ∧ (udpLengthOk g.bytes = true) ∧ (bodyRecords (udpCount g.bytes) (udpBody g.bytes) = some rs) ∧ (x.started = false ∨ x.lastSeq < udpSequence g.bytes) ∧ (s.udpOwn g.bytes = true) ∧ (runRecords { path := 5, secure := x.auth, readOnly := !x.auth && s.rd K.udpOpenPolicy == 1 } 1440 rs s = (body, u)) :=
  ⟨(dgram 0x10 3 0x8000 6 1 [1, 1, 0x00, 0x12, 0, 0, 0, 0] : Datagram), ({ started := true, lastSeq := 5, lastResp := [1] } : Sess), ((bodyRecords 1 [1, 1, 0x00, 0x12, 0, 0, 0, 0]).get! : List DRec), ((runRecords { path := 5, secure := ({ started := true, lastSeq := 5, lastResp := [1] } : Sess).auth, readOnly := !({ started := true, lastSeq := 5, lastResp := [1] } : Sess).auth && W34.rd K.udpOpenPolicy == 1 } 1440 ((bodyRecords 1 [1, 1, 0x00, 0x12, 0, 0, 0, 0]).get! : List DRec) W34).1 : List Nat), W35, W34, (by decide +kernel), (by decide +kernel), (by decide +kernel), (by decide +kernel), (by decide +kernel), (by decide +kernel), (by decide +kernel), rfl⟩

def W36 : State := { S [(K.udpUdpEnable, 1), (K.ethsLinkState 0, 2), (K.udpOpenPolicy, 2)] with sessions := [(3, { state := 0 })] }

theorem wit_UdpSessionCommands_5 : ∃ (g : Datagram) (s : State), (s.udpIn 0x20 g = .good) :=
  ⟨(dgram 0x20 3 0 0 0 [] : Datagram), W36, by decide +kernel⟩

def W37 : State := { S [(K.udpSessionTimeout, 2)] with sessions := [(8, { heard := 4 })] }

theorem wit_UdpSessionCommands_6 : ∃ (i : Nat) (x : Sess) (s : State), (tfind s.sessions i = some x) ∧ (s.rd K.udpSessionTimeout ≠ 0) :=
  ⟨8, ({ heard := 4 } : Sess), W37, by decide +kernel⟩

def W38 : State := { S [(K.udpUdpEnable, 1), (K.ethsLinkState 0, 2), (K.udpOpenPolicy, 2)] with sessions := [(3, { auth := true })] }

theorem wit_UdpSessionCommands_7 : ∃ (g : Datagram) (s : State), (s.udpIn 0x10 g = .badTag) :=
  ⟨(dgram 0x10 3 0x8000 6 1 [1, 1, 0x00, 0x12, 0, 0, 0, 0] : Datagram), W38, by decide +kernel⟩

theorem wit_EncoderInputCommands_0 : ∃ (n : Nat) (input : EncIn) (level : Bool) (s : State), (n < 4) ∧ (((s.enc n).pin input).level ≠ level) :=
  ⟨3, .b, true, State.reset, by decide +kernel⟩

def W39 : State := { S [(K.encMode 1, 1), (K.encsChannelState 1, 1), (K.encCountsPerRev 1, 1000), (K.encScale 1, 4294967296)] with encs := [(1, { a := { level := true, since := 5 } })] }

theorem wit_EncoderInputCommands_1 : ∃ (n : Nat) (input : EncIn) (k : Int) (s : State), (n < 4) ∧ (input ≠ .z) ∧ (s.rd (K.encMode n) = 1) ∧ (s.encActive n = true) ∧ (s.encReady n ((s.enc n).pin input) = true) ∧ (s.encDecode n (s.enc n) { s.enc n with a := (s.enc n).a.takeIf ((s.enc n).pin input).since, b := (s.enc n).b.takeIf ((s.enc n).pin input).since } = some k) ∧ (k ≠ 0) :=
  ⟨1, .a, 1, W39, by decide +kernel⟩

def W40 : State := S [(K.encMode 1, 2), (K.encsChannelState 1, 1)]

theorem wit_EncoderInputCommands_2 : ∃ (n : Nat) (s : State), (n < 4) ∧ (s.encActive n = true) ∧ (s.rd (K.encMode n) = 2 ∨ s.rd (K.encMode n) = 3) :=
  ⟨1, W40, by decide +kernel⟩

def W41 : State := { S [(K.encMode 1, 3), (K.encsChannelState 1, 1), (K.encSerialBits 1, 16)] with encs := [(1, { frameAt := some 4, ref := some 7 })] }

theorem wit_EncoderInputCommands_3 : ∃ (n : Nat) (f : SerialFrame) (t0 : Nat) (r : Nat) (s : State), (n < 4) ∧ (s.encActive n = true) ∧ (s.rd (K.encMode n) = 3) ∧ ((s.enc n).frameAt = some t0) ∧ ((s.enc n).ref = some r) ∧ (s.frameBad n f = false) ∧ (toI (s.rd (K.encSerialBits n)) (ofI (s.rd (K.encSerialBits n)) ((s.framePos n f : Int) - r)) ≠ 0) :=
  ⟨1, ({ acked := true, position := 9, nE := true, nW := true, crc := 0, parity := true } : SerialFrame), 4, 7, W41, by decide +kernel⟩

def W42 : State := { S [(K.encMode 1, 2), (K.encsChannelState 1, 1), (K.encSerialBits 1, 16)] with encs := [(1, { frameAt := some 4, ref := some 7 })] }

theorem wit_EncoderInputCommands_4 : ∃ (n : Nat) (f : SerialFrame) (t0 : Nat) (s : State), (n < 4) ∧ (s.encActive n = true) ∧ ((s.enc n).frameAt = some t0) ∧ (s.frameBad n f = true) :=
  ⟨1, ({ acked := false, position := 9, nE := true, nW := true, crc := 0, parity := true } : SerialFrame), 4, W42, by decide +kernel⟩

def W43 : State := { S [(K.encMode 1, 1), (K.encsChannelState 1, 1)] with encs := [(1, { last := some 4 })] }

theorem wit_EncoderInputCommands_5 : ∃ (n : Nat) (u : Nat) (s : State), (n < 4) ∧ (s.encActive n = true) ∧ ((s.enc n).last = some u) ∧ ((s.enc n).stalled = false) :=
  ⟨1, 4, W43, by decide +kernel⟩

def W44 : State := { S [(K.encMode 1, 1), (K.encsChannelState 1, 1), (K.encIndexMode 1, 1), (K.encCountsPerRev 1, 1000), (K.encsRotary 1, 1), (K.encIndexTolerance 1, 2)] with encs := [(1, { z := { level := true, since := 5 } })] }

theorem wit_EncoderCommands_0 : ∃ (n : Nat) (s : State), (n < 4) ∧ (s.encActive n = true) ∧ (s.rd (K.encMode n) = 1 ∨ s.rd (K.encMode n) = 4) ∧ (s.encReady n (s.enc n).z = true) ∧ ((s.enc n).z.level = true) ∧ (s.rd (K.encIndexMode n) ≠ 0) ∧ ((indexDev (s.rd (K.encCountsPerRev n)) (s.rd (K.encsRotary n)) (s.rd (K.encIndexExpected n))).natAbs ≤ s.rd (K.encIndexTolerance n)) :=
  ⟨1, W44, by decide +kernel⟩

def W45 : State := { S [(K.encMode 1, 1), (K.encsChannelState 1, 1), (K.encIndexMode 1, 1), (K.encCountsPerRev 1, 1000), (K.encsRotary 1, 5), (K.encIndexTolerance 1, 2)] with encs := [(1, { z := { level := true, since := 5 } })] }

theorem wit_EncoderCommands_1 : ∃ (n : Nat) (s : State), (n < 4) ∧ (s.encActive n = true) ∧ (s.rd (K.encMode n) = 1 ∨ s.rd (K.encMode n) = 4) ∧ (s.encReady n (s.enc n).z = true) ∧ ((s.enc n).z.level = true) ∧ (s.rd (K.encIndexMode n) = 1) ∧ (s.rd (K.encIndexTolerance n) < (indexDev (s.rd (K.encCountsPerRev n)) (s.rd (K.encsRotary n)) (s.rd (K.encIndexExpected n))).natAbs) :=
  ⟨1, W45, by decide +kernel⟩

theorem wit_EncoderCommands_2 : ∃ (a : Acc) (n : Nat) (s : State), (s.writeStatus a (K.encsLinearPreset n) = 0) ∧ (n < 4) :=
  ⟨(acc 1 : Acc), 1, idle, by decide +kernel⟩

def W46 : State := S [(K.encMode 1, 1), (K.encsChannelState 1, 1), (K.encCountsPerRev 1, 1000)]

theorem wit_EncoderCommands_3 : ∃ (a : Acc) (n : Nat) (s : State), (s.writeStatus a (K.encsRotaryPreset n) = 0) ∧ (n < 4) ∧ (accVal a (K.encsRotaryPreset n) < s.rd (K.encCountsPerRev n)) :=
  ⟨(acc 3 : Acc), 1, W46, by decide +kernel⟩

theorem wit_EncoderCommands_4 : ∃ (a : Acc) (n : Nat) (s : State), (n < 4) ∧ (s.writeStatus a (K.encsRotaryPreset n) = 0) ∧ (s.rd (K.encCountsPerRev n) ≤ accVal a (K.encsRotaryPreset n)) :=
  ⟨(acc 1000 : Acc), 1, W46, by decide +kernel⟩

def W47 : State := S [(K.encMode 1, 1), (K.encsChannelState 1, 1), (K.encsChannelState 1, 2)]

theorem wit_EncoderCommands_5 : ∃ (a : Acc) (n : Nat) (s : State), (s.writeStatus a (K.encsReadmit n) = 0) ∧ (n < 4) ∧ (accVal a (K.encsReadmit n) = 1) ∧ (s.rd (K.encsChannelState n) = 2) :=
  ⟨(acc 1 : Acc), 1, W47, by decide +kernel⟩

def W48 : State := { S ([(K.devDeviceState, stRunning)]) with gens := [(27, { run := true })] }

theorem wit_TriggerAndCompareCommands_0 : ∃ (g : Nat) (s : State), (g < 28) ∧ ((s.gen g).held = none) ∧ (s.genMay g (s.gen g).next = true) ∧ (s.genT g (s.gen g).next ≤ s.webP) ∧ ((s.gen g).lastAt = none) ∧ ((s.gen g).lateTo = none) :=
  ⟨27, W48, by decide +kernel⟩

def W49 : State := { S [(K.cmpMode 15, 1)] with cmps := [(15, { phase := .armed })] }

theorem wit_TriggerAndCompareCommands_1 : ∃ (m : Nat) (s : State), (m < 16) ∧ (s.rd (K.cmpMode m) ≠ 0) ∧ (s.sourceAlive (s.rd (K.cmpSource m) % 4 + 8 * (s.rd (K.cmpSource m) / 8)) = true) ∧ ((s.cmp m).owed = 0) ∧ ((s.cmp m).phase = .armed) ∧ ((if s.cmpRotary m then (s.cmp m).due else s.cmpReached m) = true) :=
  ⟨15, W49, by decide +kernel⟩

def W50 : State := { S [] with cmps := [(15, { pulse := some 8 })] }

theorem wit_TriggerAndCompareCommands_2 : ∃ (m : Nat) (u : Nat) (s : State), (m < 16) ∧ ((s.cmp m).pulse = some u) :=
  ⟨15, 8, W50, by decide +kernel⟩

theorem wit_TriggerAndCompareCommands_3 : ∃ (p : Nat) (rising : Bool) (s : State), (p < 8) ∧ (s.on (K.prbEnable p) = true) ∧ (edgeTaken (s.rd (K.prbEdge p)) rising = true) ∧ (s.sourceAlive (s.rd (K.prbSource p)) = true) ∧ ((s.probe p).length < 16) :=
  ⟨7, true, (S [(K.prbEnable 7, 1)] : State), by decide +kernel⟩

def W51 : State := { S [(K.prbEnable 7, 1)] with probes := [(7, List.replicate 16 { pos := 0, rotary := 0, time := 0, edge := 1 })] }

theorem wit_TriggerAndCompareCommands_4 : ∃ (p : Nat) (rising : Bool) (s : State), (p < 8) ∧ (s.on (K.prbEnable p) = true) ∧ (edgeTaken (s.rd (K.prbEdge p)) rising = true) ∧ (s.sourceAlive (s.rd (K.prbSource p)) = true) ∧ (16 ≤ (s.probe p).length) :=
  ⟨7, true, W51, by decide +kernel⟩

theorem wit_TriggerAndCompareCommands_5 : ∃ (a : Acc) (p : Nat) (s : State), (s.writeStatus a (K.prbPop p) = 0) ∧ (p < 8) ∧ (accVal a (K.prbPop p) = 1) :=
  ⟨(acc 1 : Acc), 7, idle, by decide +kernel⟩

theorem wit_TriggerAndCompareCommands_6 : ∃ (a : Acc) (p : Nat) (s : State), (s.writeStatus a (K.prbFlush p) = 0) ∧ (p < 8) ∧ (accVal a (K.prbFlush p) = 1) :=
  ⟨(acc 1 : Acc), 7, idle, by decide +kernel⟩

def W52 : State := S [(K.remBroadcastEnable, 1)]

theorem wit_TriggerAndCompareCommands_7 : ∃ (s : State), (s.on K.remBroadcastEnable = true) ∧ (s.originates = true) :=
  ⟨W52, by decide +kernel⟩

def W53 : State := inb (msgOf 1 (List.replicate 28 3) : Msg) (S [(K.whlWebMaster, 4)])

theorem wit_TriggerAndCompareCommands_8 : ∃ (m : Msg) (u : Nat × Nat × State) (s : State), (s.takeMsg m = some u) ∧ (m.cls = 1) ∧ (s.usesRemote = true) ∧ (s.dev ≠ stArmed) :=
  ⟨(msgOf 1 (List.replicate 28 3) : Msg), ((W53.takeMsg (msgOf 1 (List.replicate 28 3) : Msg)).getD (0, 0, W53) : Nat × Nat × State), W53, rfl, (by decide +kernel), (by decide +kernel), (by decide +kernel)⟩

def W54 : State := { S [(K.whlWebMaster, 4)] with wheel := { got := true } }

theorem wit_TriggerAndCompareCommands_9 : ∃ (s : State), (s.usesRemote = true) ∧ (s.wheel.got = true) ∧ (s.wheel.lost = false) :=
  ⟨W54, by decide +kernel⟩

def W55 : State := { S [(K.mirMode 2, 3)] with mirs := [(2, { lag := 3 })] }

theorem wit_TriggerAndCompareCommands_10 : ∃ (m : Nat) (s : State), (m < 4) ∧ (s.rd (K.mirMode m) = 3) ∧ (((s.emuCross m).mir m).lag ≠ 0) :=
  ⟨2, W55, by decide +kernel⟩

def W56 : State := S [(K.camstChannelState 11, 1), (K.camPlugMode 11, 1)]

theorem wit_CameraDiscoveryCommands_0 : ∃ (n : Nat) (s : State), (n < 12) ∧ (s.domainAsleep 0 = false) ∧ (s.camState n = camAbsent) ∧ (s.rd (K.camPlugMode n) = 1) ∧ ((s.cam n).lock = false) :=
  ⟨11, W56, by decide +kernel⟩

def W57 : State := { S [(K.camstChannelState 11, 2)] with cams := [(11, { phase := 1, lock := true })] }

theorem wit_CameraDiscoveryCommands_1 : ∃ (n : Nat) (s : State), (n < 12) ∧ (s.camState n = camDiscovery) ∧ ((s.cam n).phase = 1) ∧ ((s.cam n).lock = true) :=
  ⟨11, W57, by decide +kernel⟩

def W58 : State := { S [(K.camstChannelState 11, 2)] with cams := [(11, { phase := 1 })] }

theorem wit_CameraDiscoveryCommands_2 : ∃ (n : Nat) (s : State), (n < 12) ∧ (s.camState n = camDiscovery) ∧ ((s.cam n).phase = 1) :=
  ⟨11, W58, by decide +kernel⟩

def W59 : State := { S [(K.camstChannelState 11, 2), (K.camLinkCount 11, 2), (K.camMaxSpeed 11, 7)] with cams := [(11, { phase := 2 })] }

theorem wit_CameraDiscoveryCommands_3 : ∃ (n : Nat) (r : CamQuery) (s : State), (n < 12) ∧ (s.camState n = camDiscovery) ∧ ((s.cam n).phase = 2) ∧ (r.ok = true) ∧ (s.rd (K.camLinkCount n) ≤ r.links) ∧ (bestSpeed r.speeds (s.rd (K.camMaxSpeed n)) ≠ 0) :=
  ⟨11, ({ ok := true, version := 1, links := 4, speeds := [1, 2, 8] } : CamQuery), W59, by decide +kernel⟩

theorem wit_CameraDiscoveryCommands_4 : ∃ (n : Nat) (r : CamQuery) (s : State), (n < 12) ∧ (s.camState n = camDiscovery) ∧ ((s.cam n).phase = 2) ∧ (r.ok = false) :=
  ⟨11, ({ ok := false, version := 1, links := 4, speeds := [1, 2] } : CamQuery), W59, by decide +kernel⟩

def W60 : State := { S [(K.camstChannelState 11, 2), (K.camLinkCount 11, 2)] with cams := [(11, { phase := 4 })] }

theorem wit_CameraDiscoveryCommands_5 : ∃ (n : Nat) (x : CamTrain) (s : State), (n < 12) ∧ (s.camState n = camDiscovery) ∧ ((s.cam n).phase = 4) ∧ (s.rd (K.camLinkCount n) ≤ x.identities.length) ∧ (∀ i ∈ x.identities.take (s.rd (K.camLinkCount n)), i = nth x.identities 0) ∧ ((State.cxpCals n x.eyes x.equalisers (List.range (s.rd (K.camLinkCount n))) s).cxpHas n (s.rd (K.camLinkCount n)) = true) :=
  ⟨11, ({ identities := [5, 5], eyes := [40, 40], equalisers := [1, 1] } : CamTrain), W60, by decide +kernel⟩

def W61 : State := { S [(K.camstChannelState 11, 2)] with cams := [(11, { phase := 4 })] }

theorem wit_CameraDiscoveryCommands_6 : ∃ (n : Nat) (s : State), (n < 12) ∧ (s.camState n = camDiscovery) ∧ ((s.cam n).phase = 4) :=
  ⟨11, W61, by decide +kernel⟩

def W62 : State := S [(K.camstChannelState 11, 1)]

theorem wit_CameraDiscoveryCommands_7 : ∃ (a : Acc) (n : Nat) (s : State), (s.writeStatus a (K.camstRediscover n) = 0) ∧ (n < 12) ∧ (accVal a (K.camstRediscover n) = 1) ∧ (s.camState n = camAbsent) :=
  ⟨(acc 1 : Acc), 11, W62, by decide +kernel⟩

def W63 : State := { S [(K.camstChannelState 11, 5)] with cams := [(11, { lock := true })] }

theorem wit_CameraDiscoveryCommands_8 : ∃ (a : Acc) (n : Nat) (s : State), (s.writeStatus a (K.camstReadmit n) = 0) ∧ (n < 12) ∧ (accVal a (K.camstReadmit n) = 1) ∧ (s.camState n = camRetired) :=
  ⟨(acc 1 : Acc), 11, W63, by decide +kernel⟩

def W64 : State := { S [(K.camstChannelState 11, 3), (K.devDeviceState, stRunning), (K.camstLinksUp 11, 1)] with cams := [(11, { baseL := 8 })], trigs := [{ gen := 11, k := 6, t := 4, stamp := 9 }] }

theorem wit_CameraTriggerCommands_0 : ∃ (n : Nat) (x : Trig) (u : State) (s : State), (n < 12) ∧ (s.takeTrig n = some (x, u)) ∧ (s.camState n = camActive) ∧ (s.replaying n = false) ∧ (s.dev = stRunning) ∧ (s.bit (K.camstLinksUp n) 0 = true) ∧ ((s.cam n).sending = none) :=
  ⟨11, ({ gen := 11, k := 6, t := 4, stamp := 9 } : Trig), ({ W64 with trigs := [] } : State), W64, (by decide +kernel), rfl, (by decide +kernel), (by decide +kernel), (by decide +kernel), (by decide +kernel), (by decide +kernel)⟩

def W65 : State := { S [(K.camstChannelState 11, 3), (K.devDeviceState, stRunning), (K.camstLinksUp 11, 1)] with cams := [(11, { sending := some { k := 1, t := 2, time := 3, stamp := 4 }, held := some { k := 2, t := 2, time := 3, stamp := 4 } })], trigs := [{ gen := 11, k := 6, t := 4, stamp := 9 }] }

theorem wit_CameraTriggerCommands_1 : ∃ (n : Nat) (y : CamTrig) (z : CamTrig) (w : Trig) (u : State) (s : State), (n < 12) ∧ (s.takeTrig n = some (w, u)) ∧ (s.camState n = camActive) ∧ (s.replaying n = false) ∧ (s.dev = stRunning) ∧ (s.bit (K.camstLinksUp n) 0 = true) ∧ ((s.cam n).sending = some y) ∧ ((s.cam n).held = some z) :=
  ⟨11, ({ k := 1, t := 2, time := 3, stamp := 4 } : CamTrig), ({ k := 2, t := 2, time := 3, stamp := 4 } : CamTrig), ({ gen := 11, k := 6, t := 4, stamp := 9 } : Trig), ({ W65 with trigs := [] } : State), W65, (by decide +kernel), rfl, (by decide +kernel), (by decide +kernel), (by decide +kernel), (by decide +kernel), (by decide +kernel), (by decide +kernel)⟩

def W66 : State := { S [(K.camstChannelState 11, 3), (K.devDeviceState, stRunning), (K.camstLinksUp 11, 1)] with cams := [(11, { sending := some { k := 1, t := 2, time := 3, stamp := 4 } })] }

theorem wit_CameraTriggerCommands_2 : ∃ (n : Nat) (x : CamTrig) (s : State), (n < 12) ∧ ((s.cam n).sending = some x) ∧ ((s.cam n).started = none) ∧ (s.camSends n = true) :=
  ⟨11, ({ k := 1, t := 2, time := 3, stamp := 4 } : CamTrig), W66, by decide +kernel⟩

def W67 : State := { S [(K.camstChannelState 11, 3), (K.devDeviceState, stRunning), (K.camstLinksUp 11, 1)] with cams := [(11, { sending := some { k := 1, t := 2, time := 3, stamp := 4 }, started := some 5 })] }

theorem wit_CameraTriggerCommands_3 : ∃ (n : Nat) (u : Nat) (s : State), (n < 12) ∧ ((s.cam n).started = some u) :=
  ⟨11, 5, W67, by decide +kernel⟩

def W68 : State := { S [(K.camstChannelState 11, 3), (K.devDeviceState, stRunning), (K.camstLinksUp 11, 1)] with cams := [(11, { list := [{ k := 1, t := 2, time := 3, stamp := 4 }], bands := [{ b := 0, k0 := 0, k1 := 1023, opened := true, last := 5, waiting := 2 }] })] }

theorem wit_CameraTriggerCommands_4 : ∃ (n : Nat) (e : CamTrig) (l : List CamTrig) (x : Band) (s : State), (n < 12) ∧ (s.replaying n = false) ∧ ((s.cam n).list = e :: l) ∧ ((s.cam n).band ((s.cam n).bandOf e.k) = some x) ∧ (x.opened = true) ∧ (x.ended = false) ∧ (x.dropped = false) :=
  ⟨11, ({ k := 1, t := 2, time := 3, stamp := 4 } : CamTrig), [], ({ b := 0, k0 := 0, k1 := 1023, opened := true, last := 5, waiting := 2 } : Band), W68, by decide +kernel⟩

def W69 : State := { S [(K.camstChannelState 11, 3), (K.devDeviceState, stRunning), (K.camstLinksUp 11, 1)] with cams := [(11, { owed := [5, 7] })] }

theorem wit_CameraTriggerCommands_5 : ∃ (n : Nat) (u : Nat) (o : List Nat) (s : State), (n < 12) ∧ ((s.cam n).owed = u :: o) :=
  ⟨11, 5, ([7] : List Nat), W69, by decide +kernel⟩

theorem wit_CameraLineCommands_0 : ∃ (n : Nat) (v : Nat) (o : List Nat) (s : State), (n < 12) ∧ (s.camState n = camActive) ∧ (s.replaying n = false) ∧ ((s.cam n).owed = v :: o) :=
  ⟨11, 5, ([7] : List Nat), W69, by decide +kernel⟩

def W70 : State := { S [(K.camstChannelState 11, 3), (K.devDeviceState, stRunning), (K.camstLinksUp 11, 1), (K.camFifoLines 11, 4), (K.camRowsPerLine 11, 1), (K.camLineLength 11, 4), (K.camStreamId 11, 1), (K.camPixelFormatCode 11, 8)] with cams := [(11, { list := [{ k := 1, t := 2, time := 3, stamp := 4 }], bands := [{ b := 0, k0 := 0, k1 := 1023, opened := true, last := 5, waiting := 2 }] })] }

theorem wit_CameraLineCommands_1 : ∃ (n : Nat) (l : CamLine) (e : CamTrig) (r : List CamTrig) (s : State), (n < 12) ∧ (s.camState n = camActive) ∧ (s.replaying n = false) ∧ ((s.cam n).owed = []) ∧ ((s.cam n).taking = true) ∧ (l.badCrc = 0) ∧ ((s.cam n).fifo.length < s.rd (K.camFifoLines n)) ∧ ((s.cam n).list = e :: r) ∧ (s.lineFits n l e = true) :=
  ⟨11, ({ samples := [1, 2, 3, 4], badCrc := 0, stream := 1, format := 8, width := 4, count := 0 } : CamLine), ({ k := 1, t := 2, time := 3, stamp := 4 } : CamTrig), [], W70, by decide +kernel⟩

def W71 : State := S [(K.camstChannelState 11, 5)]

theorem wit_CameraLineCommands_2 : ∃ (n : Nat) (s : State), (n < 12) ∧ (s.camState n = camRetired) :=
  ⟨11, W71, by decide +kernel⟩

theorem wit_CameraLineCommands_3 : ∃ (n : Nat) (s : State), (n < 12) ∧ (s.camState n = camActive) ∧ ((s.cam n).owed = []) ∧ ((s.cam n).taking = true) :=
  ⟨11, W68, by decide +kernel⟩

def W72 : State := { S [(K.camstChannelState 11, 3), (K.devDeviceState, stRunning), (K.camstLinksUp 11, 1)] with cams := [(11, { bands := [{ b := 0, k0 := 0, k1 := 1023, opened := true, last := 1023, waiting := 0 }] })] }

theorem wit_CameraLineCommands_4 : ∃ (n : Nat) (x : Band) (s : State), (n < 12) ∧ ((s.cam n).bands.find? (s.bandOver n) = some x) :=
  ⟨11, ({ b := 0, k0 := 0, k1 := 1023, opened := true, last := 1023, waiting := 0 } : Band), W72, by decide +kernel⟩

def W73 : State := { S [(K.camstChannelState 11, 3), (K.devDeviceState, stRunning), (K.camstLinksUp 11, 1), (K.camLinkCount 11, 2), (K.camRetryCount 11, 3), (K.camRetryWindow 11, 1000)] with cams := [(11, { bands := [{ b := 0, k0 := 0, k1 := 1023, opened := true, last := 5, waiting := 2 }], cur := some 0 })] }

theorem wit_CameraLineCommands_5 : ∃ (n : Nat) (link : Nat) (s : State), (n < 12) ∧ (link < 4) ∧ (s.camState n = camActive) ∧ (link < s.rd (K.camLinkCount n)) ∧ ((s.faultsIn (2 * 256 + n) (s.rd (K.camRetryWindow n))).length + 1 ≤ s.rd (K.camRetryCount n)) :=
  ⟨11, 1, W73, by decide +kernel⟩

def W74 : State := { S [(K.camstChannelState 11, 4), (K.devDeviceState, stRunning), (K.camstLinksUp 11, 1)] with cams := [(11, { relockAt := 3 })] }

theorem wit_CameraLineCommands_6 : ∃ (n : Nat) (s : State), (n < 12) ∧ (s.camState n = camRelock) :=
  ⟨11, W74, by decide +kernel⟩

theorem wit_CameraLineCommands_7 : ∃ (n : Nat) (s : State), (n < 12) ∧ (s.camState n = camRelock) :=
  ⟨11, W74, by decide +kernel⟩

theorem wit_CameraLineCommands_8 : ∃ (n : Nat) (s : State), (n < 12) ∧ (s.camState n = camActive ∨ s.camState n = camRelock) :=
  ⟨11, W74, by decide +kernel⟩

def W75 : State := { S [(K.camstChannelState 11, 3), (K.devDeviceState, stRunning), (K.camstLinksUp 11, 1)] with cams := [(11, { relockAt := 3 })] }

theorem wit_CameraLineCommands_9 : ∃ (n : Nat) (s : State), (n < 12) ∧ (s.camState n = camActive ∨ s.camState n = camRelock) :=
  ⟨11, W75, by decide +kernel⟩

theorem wit_CameraLineCommands_10 : ∃ (n : Nat) (s : State), (n < 12) ∧ (s.camState n = camActive ∨ s.camState n = camRelock) :=
  ⟨11, W74, by decide +kernel⟩

def W76 : State := S [(K.camstChannelState 11, 3), (K.camstLinksUp 11, 1)]

theorem wit_CameraTunnelCommands_0 : ∃ (a : Acc) (n : Nat) (s : State), (s.writeStatus a (K.tunTunnelGo n) = 0) ∧ (n < 12) ∧ (s.rd (K.tunTunnelStatus n) ≠ 1) ∧ (s.camState n ≠ camDiscovery) ∧ (accVal a (K.tunTunnelGo n) = 1) ∧ (s.tunUp n = true) :=
  ⟨(acc 1 : Acc), 11, W76, by decide +kernel⟩

def W77 : State := S [(K.camstChannelState 11, 3), (K.tunTunnelStatus 11, 1)]

theorem wit_CameraTunnelCommands_1 : ∃ (a : Acc) (n : Nat) (s : State), (n < 12) ∧ (s.writeStatus a (K.tunTunnelGo n) = 0) ∧ (s.rd (K.tunTunnelStatus n) = 1) :=
  ⟨(acc 1 : Acc), 11, W77, by decide +kernel⟩

def W78 : State := { S [(K.camstChannelState 11, 3), (K.camstLinksUp 11, 1), (K.tunTunnelStatus 11, 1), (K.camControlChunk 11, 64)] with cams := [(11, { tunLen := 4 })] }

theorem wit_CameraTunnelCommands_2 : ∃ (n : Nat) (s : State), (n < 12) ∧ (s.rd (K.tunTunnelStatus n) = 1) ∧ (s.tunUp n = true) ∧ ((s.cam n).tunWrite = false) ∧ ((s.cam n).tunLen ≤ (s.cam n).tunOff + s.rd (K.camControlChunk n)) :=
  ⟨11, W78, by decide +kernel⟩

def W79 : State := S [(K.camstChannelState 11, 3), (K.camstLinksUp 11, 1), (K.tunTunnelStatus 11, 1)]

theorem wit_CameraTunnelCommands_3 : ∃ (n : Nat) (code : Nat) (s : State), (n < 12) ∧ (s.rd (K.tunTunnelStatus n) = 1) ∧ (s.tunUp n = true) ∧ (code ≠ 0) :=
  ⟨11, 4, W79, by decide +kernel⟩

theorem wit_CameraTunnelCommands_4 : ∃ (n : Nat) (s : State), (n < 12) ∧ (s.rd (K.tunTunnelStatus n) = 1) :=
  ⟨11, W77, by decide +kernel⟩

def W80 : State := { S [(K.ctxsContextState 11, 1)] with ctxs := [(11, { checked := some 0 })], cams := [(11, { fifo := [{ k := 3, t := 0, time := 0, band := 0, data := [1, 2, 3], stamp := 4 }, { k := 4, t := 0, time := 0, band := 0, data := [1, 2, 3], stamp := 4 }], bands := [{ b := 0, k0 := 0, k1 := 1023, opened := true, last := 1023 }] })] }

def W81 : State := [4 * 2, 4 * 2 + 1, 4 * 2 + 2, 4 * 2 + 3].foldl State.ctxReady (W80.at (W80.pipe 2).busyTill)

theorem wit_PrismCommands_0 : ∃ (p : Nat) (n : Nat) (x : CLine) (f : List CLine) (u : State) (s : State), (p < 3) ∧ (u = [4 * p, 4 * p + 1, 4 * p + 2, 4 * p + 3].foldl State.ctxReady (s.at (s.pipe p).busyTill)) ∧ ([4 * p, 4 * p + 1, 4 * p + 2, 4 * p + 3].filter (fun n => !(u.cam n).fifo.isEmpty && !u.ctxWaits n) = [n]) ∧ ((u.cam n).fifo = x :: f) :=
  ⟨2, 11, ({ k := 3, t := 0, time := 0, band := 0, data := [1, 2, 3], stamp := 4 } : CLine), ([{ k := 4, t := 0, time := 0, band := 0, data := [1, 2, 3], stamp := 4 }] : List CLine), W81, W80, (by decide +kernel), rfl, (by decide +kernel), (by decide +kernel)⟩

def W82 : State := { S [] with ctxs := [(11, { pipe := [({ k := 3, t := 0, time := 0, band := 0, data := [1, 2, 3], stamp := 4 }, 9)] })], cams := [(11, { bands := [{ b := 0, k0 := 0, k1 := 1023, opened := true, last := 1023, ended := true }] })] }

theorem wit_PrismCommands_1 : ∃ (n : Nat) (x : CLine) (d : Nat) (l : List (CLine × Nat)) (s : State), (n < 12) ∧ ((s.ctx n).pipe = (x, d) :: l) ∧ (s.rd (K.ctxMergeMode n) ≠ 2) :=
  ⟨11, ({ k := 3, t := 0, time := 0, band := 0, data := [1, 2, 3], stamp := 4 } : CLine), 9, [], W82, by decide +kernel⟩

def W83 : State := { S [] with ctxs := [(11, { store := [{ k := 3, t := 0, time := 0, band := 0, data := [1, 2, 3], stamp := 4 }] })], cams := [(11, {  })] }

theorem wit_PrismCommands_2 : ∃ (n : Nat) (x : CLine) (s : State), (n < 12) ∧ (lastOf (s.ctx n).store = some x) ∧ ((s.ctx n).pipe = []) ∧ (∀ b, (s.cam n).band x.band = some b → b.ended = true ∨ b.dropped = true) :=
  ⟨11, ({ k := 3, t := 0, time := 0, band := 0, data := [1, 2, 3], stamp := 4 } : CLine), W83, (by decide +kernel), (by decide +kernel), (by decide +kernel), (by intro b h; cases h)⟩

def W84 : State := { S [] with ctxs := [(11, {  })], cams := [(11, { bands := [{ b := 0, k0 := 0, k1 := 1023, opened := true, last := 1023, ended := true }] })] }

theorem wit_PrismCommands_3 : ∃ (n : Nat) (x : Band) (s : State), (n < 12) ∧ ((s.cam n).bands.find? (fun x => x.ended && x.piped == 0 && x.closed.isNone) = some x) :=
  ⟨11, ({ b := 0, k0 := 0, k1 := 1023, opened := true, last := 1023, ended := true } : Band), W84, by decide +kernel⟩

def W85 : State := { S [(K.repReplayEnable 11, 1), (K.devDeviceState, stRunning), (K.camstChannelState 11, 3), (K.camFifoLines 11, 4), (K.repReplayLines 11, 5)] with ctxs := [(11, {  })], cams := [(11, { list := [{ k := 1, t := 2, time := 3, stamp := 4 }] })] }

theorem wit_PrismCommands_4 : ∃ (n : Nat) (e : CamTrig) (l : List CamTrig) (s : State), (n < 12) ∧ (s.replaying n = true) ∧ (s.dev = stRunning) ∧ ((s.ctx n).replayEnd = false) ∧ (s.camState n ≠ camDisabled) ∧ (s.rd (K.repReplayPace n) = 0) ∧ ((s.cam n).list = e :: l) ∧ (s.fifoFree n = true) ∧ (s.rd (K.ctxsReplayNext n) + 1 < s.rd (K.repReplayLines n)) :=
  ⟨11, ({ k := 1, t := 2, time := 3, stamp := 4 } : CamTrig), [], W85, by decide +kernel⟩

theorem wit_PrismCommands_5 : ∃ (p : Nat), (p < 3) :=
  ⟨2, by decide +kernel⟩

def W86 : State := { S [(K.seamWidth, 1), (K.seamMemberMask, 2048), (K.camstChannelState 11, 3), (K.ctxsContextState 11, 1), (K.seamWaitLines, 4)] with ctxs := [(11, { out := [{ k := 7, t := 0, time := 0, band := 0, cols := [{ r := 1, g := 2, b := 3 }] }] })], cams := [(11, {  })] }

theorem wit_SeamCommands_0 : ∃ (n : Nat) (m : MLine) (l : List MLine) (j : Int) (s : State), (n < 12) ∧ ((s.ctx n).out = m :: l) ∧ (j = m.k - s.rdI 32 (K.memLineShift n)) ∧ (s.expected n j = true) ∧ (∀ i, s.seam.last = some i → i < j) ∧ (s.slotsUsed n < s.rd K.seamWaitLines) :=
  ⟨11, ({ k := 7, t := 0, time := 0, band := 0, cols := [{ r := 1, g := 2, b := 3 }] } : MLine), [], 7, W86, (by decide +kernel), (by decide +kernel), (by decide +kernel), (by decide +kernel), (by intro i h; cases h), (by decide +kernel)⟩

def W87 : State := { S [(K.seamWidth, 1), (K.seamMemberMask, 2048), (K.camstChannelState 11, 3), (K.ctxsContextState 11, 1), (K.seamWaitLines, 4)] with ctxs := [(11, { out := [{ k := 7, t := 0, time := 0, band := 0, cols := [{ r := 1, g := 2, b := 3 }] }] })], cams := [(11, {  })], seam := { last := some 7 } }

theorem wit_SeamCommands_1 : ∃ (n : Nat) (m : MLine) (l : List MLine) (i : Int) (s : State), (n < 12) ∧ ((s.ctx n).out = m :: l) ∧ (s.seam.last = some i) ∧ (m.k - s.rdI 32 (K.memLineShift n) ≤ i) :=
  ⟨11, ({ k := 7, t := 0, time := 0, band := 0, cols := [{ r := 1, g := 2, b := 3 }] } : MLine), [], 7, W87, by decide +kernel⟩

def W88 : State := { S [] with seam := { opens := [{ s := 7, since := 3 }] } }

theorem wit_SeamCommands_2 : ∃ (x : SLine) (s : State), (s.seam.opens.find? (fun x => !x.late) = some x) :=
  ⟨({ s := 7, since := 3 } : SLine), W88, by decide +kernel⟩

def W89 : State := { S [(K.seamWidth, 1), (K.seamMemberMask, 2048), (K.camstChannelState 11, 3), (K.ctxsContextState 11, 1), (K.seamWaitLines, 4), (K.whlActiveMaster, 4)] with seam := { opens := [{ s := 7, since := 3, late := true, parts := [(11, { k := 7, t := 0, time := 0, band := 0, cols := [{ r := 1, g := 2, b := 3 }] })] }] } }

theorem wit_SeamCommands_3 : ∃ (x : SLine) (l : List SLine) (s : State), (s.seam.opens = x :: l) ∧ (s.lineReady x = true) :=
  ⟨({ s := 7, since := 3, late := true, parts := [(11, { k := 7, t := 0, time := 0, band := 0, cols := [{ r := 1, g := 2, b := 3 }] })] } : SLine), [], W89, by decide +kernel⟩

def W90 : State := { S [(K.winWinMode 1, 2), (K.winCaptureLines 1, 9)] with tasks := [{ task := 3, lineage := 0, stamp := 5 }] }

theorem wit_SeamCommands_4 : ∃ (w : Nat) (d : Delivery) (u : State) (s : State), (w < 2) ∧ (s.takeTask (2 + w) = some (d, u)) ∧ (s.rd (K.winWinMode w) = 2) ∧ ((s.win w).left = 0) :=
  ⟨1, ({ task := 3, lineage := 0, stamp := 5 } : Delivery), ({ W90 with tasks := [] } : State), W90, (by decide +kernel), rfl, (by decide +kernel), (by decide +kernel)⟩

def W91 : State := { S [(K.winWinMode 1, 2)] with tasks := [{ task := 3, lineage := 0, stamp := 5 }], wins := [(1, { left := 4 })] }

theorem wit_SeamCommands_5 : ∃ (w : Nat) (d : Delivery) (u : State) (s : State), (w < 2) ∧ (s.takeTask (2 + w) = some (d, u)) ∧ (s.rd (K.winWinMode w) = 2) ∧ ((s.win w).left ≠ 0) :=
  ⟨1, ({ task := 3, lineage := 0, stamp := 5 } : Delivery), ({ W91 with tasks := [] } : State), W91, (by decide +kernel), rfl, (by decide +kernel), (by decide +kernel)⟩

def W92 : State := { S [(K.seamRecordQueue, 63), (K.qQueueEnable 63, 1), (K.qItemBytes 63, 4096), (K.qBankSherds 63, 1), (K.qCreditGrant 63, 3)] with ctxs := [(11, {  })], cams := [(11, { bands := [{ b := 0, k0 := 0, k1 := 1023, opened := true, last := 1023, ended := true, closed := some 5 }] })] }

theorem wit_SeamCommands_6 : ∃ (n : Nat) (b : Band) (s : State), (n < 12) ∧ ((s.cam n).bands.find? (fun x => x.closed.isSome && x.seam == 0) = some b) ∧ (s.rd K.seamRecordQueue < 64) ∧ (s.rd (K.qItemBytes (s.rd K.seamRecordQueue)) ≥ (recordBytes n b).length) ∧ (s.queCredits (s.rd K.seamRecordQueue) ≠ 0) :=
  ⟨11, ({ b := 0, k0 := 0, k1 := 1023, opened := true, last := 1023, ended := true, closed := some 5 } : Band), W92, by decide +kernel⟩

def W93 : State := { S [(K.seamRecordQueue, 255)] with ctxs := [(11, {  })], cams := [(11, { bands := [{ b := 0, k0 := 0, k1 := 1023, opened := true, last := 1023, ended := true, closed := some 5 }] })] }

theorem wit_SeamCommands_7 : ∃ (n : Nat) (b : Band) (s : State), (n < 12) ∧ ((s.cam n).bands.find? (fun x => x.closed.isSome && x.seam == 0) = some b) ∧ (s.rd K.seamRecordQueue = 255) :=
  ⟨11, ({ b := 0, k0 := 0, k1 := 1023, opened := true, last := 1023, ended := true, closed := some 5 } : Band), W93, by decide +kernel⟩

def W94 : State := { S [] with umb := { closed := [{ num := 4, tag := { tag0 with acts := 8 }, t0 := 5, place := 0 }] } }

theorem wit_UmbraCommands_0 : ∃ (c : Closed) (l : List Closed) (s : State), (s.umb.closed = c :: l) ∧ (c.tag.suppressed = true) :=
  ⟨({ num := 4, tag := { tag0 with acts := 8 }, t0 := 5, place := 0 } : Closed), [], W94, by decide +kernel⟩

def W95 : State := { S [(K.umbTagQueue, 255)] with umb := { closed := [{ num := 4, tag := { tag0 with acts := 0 }, t0 := 5, place := 0 }] } }

theorem wit_UmbraCommands_1 : ∃ (c : Closed) (l : List Closed) (s : State), (s.umb.closed = c :: l) ∧ (c.tag.suppressed = false) ∧ (s.rd K.umbTagQueue = 255) :=
  ⟨({ num := 4, tag := { tag0 with acts := 0 }, t0 := 5, place := 0 } : Closed), [], W95, by decide +kernel⟩

def W96 : State := { S [(K.umbTagQueue, 255)] with umb := { frags := [{ group := 3, num := none, node := 0, tag := tag0, cuts := [(255, true)], x0 := 0, x1 := 1, endAt := some 6 }], groups := 4 } }

theorem wit_UmbraCommands_2 : ∃ (g : Nat) (r : List Nat) (f : Frag) (s : State), (sortBy (fun g => ((if 7 ≤ (s.umb.group g).length then 0 else groupEnd (s.umb.group g) : Nat) : Int)) (sortBy (fun g => (g : Int)) (((s.umb.frags.map fun f => f.group).dedup).filter fun g => s.groupReady (s.umb.group g))) = g :: r) ∧ (s.umb.group g = [f]) :=
  ⟨3, [], ({ group := 3, num := none, node := 0, tag := tag0, cuts := [(255, true)], x0 := 0, x1 := 1, endAt := some 6 } : Frag), W96, by decide +kernel⟩

def W97 : State := { S [(K.dramDramPopulated, 8192), (K.cropCropQueue, 255)] with umb := { crops := [{ num := 1, slot := 64, size := 4096, col := 0, first := 0, kept := true, tag := some 5, full := true }] } }

theorem wit_UmbraCommands_3 : ∃ (c : Crop) (s : State), (s.umb.crops.find? Crop.complete = some c) ∧ (s.inDram (s.rd K.cropCropBase + c.slot) 64 = true) :=
  ⟨({ num := 1, slot := 64, size := 4096, col := 0, first := 0, kept := true, tag := some 5, full := true } : Crop), W97, by decide +kernel⟩

def W98 : State := { S [(K.crazeCrazeEnable, 1), (K.seamWidth, 4)] with umb := { last := some 1023, crazeBand := some 0 } }

theorem wit_UmbraCommands_4 : ∃ (j : Int) (s : State), (s.umb.last = some j) ∧ (s.crazeDue (j + 1) = true) ∧ (s.crazeCandidates = []) :=
  ⟨1023, W98, by decide +kernel⟩

theorem wit_UmbraCommands_5 : ∃ (j : Int) (s : State), (s.umb.last = some j) ∧ (s.crazeDue (j + 1) = true) :=
  ⟨1023, W98, by decide +kernel⟩

def W99 : State := { bar0 [(K.devDeviceState, stArmed)] with bars := [(15, { fetchEnd := true })] }

def W100 : State := fetchSettle 15 64 (W99.beginRepeat 15)

theorem wit_SlipCommands_0 : ∃ (b : Nat) (u : State) (s : State), (b < 16) ∧ (s.lineAllowed b = true) ∧ (u = fetchSettle b 64 (s.beginRepeat b)) ∧ (u.withinStop (u.barLine b (u.bar b).k) = true) ∧ ((u.lineRows (u.bar b).pos (u.barLine b (u.bar b).k)).all (u.rowReady b) = true) :=
  ⟨15, W100, W99, (by decide +kernel), (by decide +kernel), rfl, (by decide +kernel), (by decide +kernel)⟩

def W101 : State := { ({ bar0 [(K.devDeviceState, stArmed), (K.zeReserved, 32), (K.barInputSherds 15, 2), (K.dramDramPopulated, 65536)] with bars := [(15, { begun := true })] }.domWrite K.jobJobTable 0 ([1, 1, 1, 0, 4, 0, 0, 0] ++ List.replicate 24 0 ++ [64])) with mem := [(64, 0x44), (65, 0x50), (66, 1), (68, 1), (72, 4), (76, 2)] }

def W102 : State := fetchSettle 15 64 (W101.beginRepeat 15)

theorem wit_SlipCommands_1 : ∃ (b : Nat) (u : State) (s : State), (b < 16) ∧ (s.lineAllowed b = true) ∧ (u = fetchSettle b 64 (s.beginRepeat b)) ∧ (u.withinStop (u.barLine b (u.bar b).k) = true) ∧ ((u.lineRows (u.bar b).pos (u.barLine b (u.bar b).k)).all (u.rowReady b) = false) ∧ ((u.bar b).stalled = false) :=
  ⟨15, W102, W101, (by decide +kernel), (by decide +kernel), rfl, (by decide +kernel), (by decide +kernel), (by decide +kernel)⟩

def W103 : State := { bar0 [(K.slipLeadBar, 3)] with bars := [(15, { cur := some (9, none) })] }

theorem wit_SlipCommands_2 : ∃ (b : Nat) (due : Nat) (s : State), (b < 16) ∧ ((s.bar b).cur = some (due, none)) ∧ (s.isLead b = false) :=
  ⟨15, 9, W103, by decide +kernel⟩

def W104 : State := W101.barsOn.foldl (fun z y => fetchSettle y 64 z) W101

theorem wit_SlipCommands_3 : ∃ (e : Nat) (b : Nat) (r : List Nat) (u : State) (v : State) (d : List Nat) (rows : Nat) (cols : Nat) (s : State), (e < 6) ∧ (s.zeNextReserved e = true) ∧ (u = s.barsOn.foldl (fun s b => fetchSettle b 64 s) s) ∧ (u.fetchOrder = b :: r) ∧ (u.fetchLook b = (.segment d rows cols, v)) :=
  ⟨5, 15, [], W104, ((W104.fetchLook 15).2 : State), (match (W104.fetchLook 15).1 with | .segment d _ _ => d | _ => [] : List Nat), 4, 2, W101, (by decide +kernel), (by decide +kernel), rfl, (by decide +kernel), rfl⟩

def W105 : State := { bar0 [] with bars := [(15, { k := 0 })] }

theorem wit_SlipCommands_4 : ∃ (a : Acc) (s : State), (s.writeStatus a K.glzMaskClear = 0) ∧ (accVal a K.glzMaskClear ≠ 0xFFFFFFFF) ∧ (((s.bar (s.headBar (accVal a K.glzMaskClear / 8192))).masks).length < 64) :=
  ⟨(acc (8192 * 124 + 5) : Acc), W105, by decide +kernel⟩

def W106 : State := { bar0 [] with bars := [(15, { masks := [{ nozzle := 3, set := 1 }] })] }

theorem wit_SlipCommands_5 : ∃ (b : Nat) (r : MaskReq) (l : List MaskReq) (s : State), ((List.range 17).find? (fun b => !s.barRuns b && !(s.bar b).masks.isEmpty) = some b) ∧ ((s.bar b).masks = r :: l) ∧ (r.nozzle ≠ 0xFFFFFFFF) :=
  ⟨15, ({ nozzle := 3, set := 1 } : MaskReq), [], W106, by decide +kernel⟩

def W107 : State := { bar0 [(K.devDeviceState, stRunning)] with bars := [(15, { k := 1 })], now := 10000, trigs := [{ gen := 27, k := 0, t := 4, stamp := 9 }], ports := [(31, { loaded := some (0, 3), loadedData := [0] })] }

def W108 : State := { W107 with trigs := [] }

def W109 : State := W108.at (({ gen := 27, k := 0, t := 4, stamp := 9 } : Trig).stamp + 2)

theorem wit_RasterAndShiftCommands_0 : ∃ (b : Nat) (x : Trig) (u : State) (v : State) (s : State), (b < 16) ∧ (s.takeTrig (12 + b) = some (x, u)) ∧ (v = u.at (x.stamp + 2)) ∧ (v.dev = stRunning) ∧ (v.withinStop (v.barLine b x.k.toNat) = true) ∧ (v.lineShifted b x.k.toNat = true) ∧ ((v.bar b).missed.contains x.k.toNat = false) ∧ (v.lineSpaced b = true) :=
  ⟨15, ({ gen := 27, k := 0, t := 4, stamp := 9 } : Trig), W108, W109, W107, (by decide +kernel), rfl, rfl, (by decide +kernel), (by decide +kernel), (by decide +kernel), (by decide +kernel), (by decide +kernel)⟩

def W110 : State := { bar0 [(K.devDeviceState, stRunning)] with bars := [(15, { k := 1 })], trigs := [{ gen := 27, k := 0, t := 4, stamp := 9 }] }

def W111 : State := { W110 with trigs := [] }

def W112 : State := W111.at (({ gen := 27, k := 0, t := 4, stamp := 9 } : Trig).stamp + 2)

theorem wit_RasterAndShiftCommands_1 : ∃ (b : Nat) (x : Trig) (u : State) (v : State) (s : State), (b < 16) ∧ (s.takeTrig (12 + b) = some (x, u)) ∧ (v = u.at (x.stamp + 2)) ∧ (v.lineShifted b x.k.toNat = false) ∧ (v.lineSpaced b = true) :=
  ⟨15, ({ gen := 27, k := 0, t := 4, stamp := 9 } : Trig), W111, W112, W110, (by decide +kernel), rfl, rfl, (by decide +kernel), (by decide +kernel)⟩

def W113 : State := { bar0 [(K.devDeviceState, stRunning)] with bars := [(15, { fired := some 10 })], trigs := [{ gen := 27, k := 0, t := 4, stamp := 9 }] }

def W114 : State := { W113 with trigs := [] }

def W115 : State := W114.at (({ gen := 27, k := 0, t := 4, stamp := 9 } : Trig).stamp + 2)

theorem wit_RasterAndShiftCommands_2 : ∃ (b : Nat) (x : Trig) (u : State) (v : State) (s : State), (b < 16) ∧ (s.takeTrig (12 + b) = some (x, u)) ∧ (v = u.at (x.stamp + 2)) ∧ (v.lineSpaced b = false) :=
  ⟨15, ({ gen := 27, k := 0, t := 4, stamp := 9 } : Trig), W114, W115, W113, (by decide +kernel), rfl, rfl, (by decide +kernel)⟩

def W116 : State := { bar0 [(K.devDeviceState, stRunning)] with bars := [(15, { next := 0 })], ports := [(31, { banks := [{ k := 0, data := [1], done := some 4 }] })] }

theorem wit_RasterAndShiftCommands_3 : ∃ (p : Nat) (l : BankLine) (s : State), (p < 32) ∧ (s.portBar p < 16) ∧ ((s.port p).shift = none) ∧ ((s.port p).loaded = none) ∧ ((s.port p).banks.find? (fun l => l.k == (s.bar (s.portBar p)).next && l.done.isSome) = some l) ∧ ((s.barPorts (s.portBar p)).all (s.lineHeld (s.bar (s.portBar p)).next) = true) ∧ (s.dev = stRunning) :=
  ⟨31, ({ k := 0, data := [1], done := some 4 } : BankLine), W116, by decide +kernel⟩

def W117 : State := { bar0 [(K.devDeviceState, stRunning)] with bars := [(15, { next := 0 })], ports := [(31, { shift := some (0, 7) })] }

theorem wit_RasterAndShiftCommands_4 : ∃ (p : Nat) (k : Nat) (u : Nat) (s : State), (p < 32) ∧ ((s.port p).shift = some (k, u)) :=
  ⟨31, 0, 7, W117, by decide +kernel⟩

def W118 : State := { S [] with heads := [(127, { strobe := some (5, 6, 7) })] }

theorem wit_StrobeAndPortCommands_0 : ∃ (h : Nat) (u : Nat) (pre : Nat) (fire : Nat) (s : State), (h < 128) ∧ ((s.head h).strobe = some (u, pre, fire)) ∧ (pre ≠ 0) :=
  ⟨127, 5, 6, 7, W118, by decide +kernel⟩

def W119 : State := { S [] with heads := [(127, { segs := [(true, 4), (false, 3)], segEnd := 9 })] }

theorem wit_StrobeAndPortCommands_1 : ∃ (h : Nat) (x : Bool × Nat) (l : List (Bool × Nat)) (s : State), (h < 128) ∧ ((s.head h).segs = x :: l) :=
  ⟨127, ((true, 4) : Bool × Nat), ([(false, 3)] : List (Bool × Nat)), W119, by decide +kernel⟩

def W120 : State := { S [] with heads := [(127, { activeAt := some 5, segs := [(true, 4)] })] }

theorem wit_StrobeAndPortCommands_2 : ∃ (h : Nat) (u : Nat) (s : State), (h < 128) ∧ ((s.head h).activeAt = some u) :=
  ⟨127, 5, W120, by decide +kernel⟩

def W121 : State := { S [(K.kpPortState 31, kpOff)] with ports := [(31, { shiftFrom := 0 })] }

theorem wit_StrobeAndPortCommands_3 : ∃ (a : Acc) (p : Nat) (s : State), (s.writeStatus { a with value := 1 } (K.kpPortPower p) = 0) ∧ (p < 32) ∧ (accVal { a with value := 1 } (K.kpPortPower p) = 1) ∧ (s.portState p = kpOff) :=
  ⟨(acc 1 : Acc), 31, W121, by decide +kernel⟩

def W122 : State := { S [(K.kpPortState 31, kpActive), (K.kpPortPower 31, 1)] with ports := [(31, { shiftFrom := 0 })] }

theorem wit_StrobeAndPortCommands_4 : ∃ (a : Acc) (p : Nat) (s : State), (s.writeStatus { a with value := 0 } (K.kpPortPower p) = 0) ∧ (p < 32) ∧ (accVal { a with value := 0 } (K.kpPortPower p) = 0) ∧ (s.portState p = kpActive) ∧ (s.portRuns p = false) :=
  ⟨(acc 1 : Acc), 31, W122, by decide +kernel⟩

def W123 : State := { S [(K.kpPortState 31, kpPowering)] with ports := [(31, { shiftFrom := 0 })] }

theorem wit_StrobeAndPortCommands_5 : ∃ (p : Nat) (s : State), (p < 32) ∧ (s.portState p = kpPowering) ∧ ((s.port p).deskew = false) ∧ ((s.port p).toId = []) :=
  ⟨31, W123, by decide +kernel⟩

def W124 : State := { S [(K.kpPortState 31, kpActive)] with ports := [(31, { offAsked := true })] }

theorem wit_StrobeAndPortCommands_6 : ∃ (p : Nat) (s : State), (p < 32) ∧ ((s.port p).offAsked = true) ∧ (s.strobesDone p = true) :=
  ⟨31, W124, by decide +kernel⟩

def W125 : State := { S [(K.kpPortState 31, kpDown)] with ports := [(31, { until_ := 4 })] }

theorem wit_StrobeAndPortCommands_7 : ∃ (p : Nat) (s : State), (p < 32) ∧ (s.portState p = kpDown) :=
  ⟨31, W125, by decide +kernel⟩

def W126 : State := { S [(K.kpPortState 31, kpGone), (K.kpPortPower 31, 1)] with ports := [(31, { until_ := 4 })] }

theorem wit_StrobeAndPortCommands_8 : ∃ (a : Acc) (p : Nat) (s : State), (s.writeStatus a (K.kpReadmit p) = 0) ∧ (p < 32) ∧ (accVal a (K.kpReadmit p) = 1) ∧ (s.portState p = kpGone) :=
  ⟨(acc 1 : Acc), 31, W126, by decide +kernel⟩

def W127 : State := { S [(K.kpHeadMask 31, 9)] with ports := [(31, { deskew := true })] }

theorem wit_HeadCommands_0 : ∃ (p : Nat) (spread : Nat) (residual : Nat) (s : State), (p < 32) ∧ ((s.port p).deskew = true) ∧ (deskewReason spread residual = 0) ∧ (s.portHeads p ≠ []) :=
  ⟨31, 48, 2, W127, by decide +kernel⟩

def W128 : State := { S [] with ports := [(31, { deskew := true })] }

theorem wit_HeadCommands_1 : ∃ (p : Nat) (spread : Nat) (residual : Nat) (s : State), (p < 32) ∧ ((s.port p).deskew = true) ∧ (deskewReason spread residual ≠ 0) :=
  ⟨31, 49, 2, W128, by decide +kernel⟩

def W129 : State := { S [(K.kpPortState 31, kpPowering), (K.kpProfile 31, 2), (K.profIdMask 1, 255), (K.profIdMatch 1, 7)] with ports := [(31, { toId := [127] })] }

theorem wit_HeadCommands_2 : ∃ (h : Nat) (l : List Nat) (s : State), (h < 128) ∧ ((s.port (h / 4)).toId = [h]) ∧ ((s.head h).again = false) ∧ (s.headState h ≠ khRetired) ∧ (s.portState (h / 4) = kpPowering) ∧ (s.dev = stStopped) ∧ (leAt l 0 4 &&& s.rd (K.profIdMask (s.prof (h / 4))) = s.rd (K.profIdMatch (s.prof (h / 4))) &&& s.rd (K.profIdMask (s.prof (h / 4)))) :=
  ⟨127, ([7, 0, 0, 0] : List Nat), W129, by decide +kernel⟩

def W130 : State := { S [] with ports := [(31, { toId := [126, 127] })] }

theorem wit_HeadCommands_3 : ∃ (h : Nat) (s : State), (h < 128) ∧ ((s.port (h / 4)).toId.contains h = true) ∧ ((s.head h).again = false) ∧ (s.headState h ≠ khRetired) :=
  ⟨127, W130, by decide +kernel⟩

def W131 : State := S [(K.kpProfile 31, 2), (K.profTempDevAddr 1, 72)]

theorem wit_HeadCommands_4 : ∃ (p : Nat) (s : State), (p < 32) ∧ (s.rd (K.profTempDevAddr (s.prof p)) ≠ 0) :=
  ⟨31, W131, by decide +kernel⟩

def W132 : State := { S [(K.kpProfile 31, 2), (K.profTempMax 1, 60000)] with ports := [(31, { until_ := 0 })], heads := [(127, { reading := true })] }

theorem wit_HeadCommands_5 : ∃ (h : Nat) (w : Nat) (s : State), (h < 128) ∧ ((s.head h).reading = true) ∧ (tempOf w ≤ s.rdI 32 (K.profTempMax (s.prof (h / 4)))) :=
  ⟨127, 0x1900, W132, by decide +kernel⟩

def W133 : State := { S [] with ports := [(31, { until_ := 0 })], heads := [(127, { reading := true })] }

theorem wit_HeadCommands_6 : ∃ (h : Nat) (s : State), (h < 128) ∧ ((s.head h).reading = true) :=
  ⟨127, W133, by decide +kernel⟩

def W134 : State := S [(K.khHeadState 127, khRetired), (K.kpPortState 31, kpActive)]

theorem wit_HeadCommands_7 : ∃ (a : Acc) (h : Nat) (s : State), (s.writeStatus a (K.khReadmit h) = 0) ∧ (h < 128) ∧ (accVal a (K.khReadmit h) = 1) ∧ (s.headState h = khRetired) ∧ (s.portState (h / 4) = kpActive) :=
  ⟨(acc 1 1 : Acc), 127, W134, by decide +kernel⟩

theorem wit_ScanCommands_0 : ∃ (a : Acc) (s : State), (s.writeStatus a K.scanScanGo = 0) ∧ (accVal a K.scanScanGo = 1) ∧ (s.scanRuns = false) ∧ (s.scanHeads = []) ∧ (∀ p < 32, s.scanNext p 0 = none) :=
  ⟨(acc 1 : Acc), idle, by decide +kernel⟩

def W135 : State := S [(K.khHeadState 127, khActive), (K.kpPortState 31, kpActive), (K.scanScanMaskHi, 2 ^ 64 - 1)]

theorem wit_ScanCommands_1 : ∃ (a : Acc) (acks : Nat) (h : Nat) (s : State), (s.writeStatus a K.scanScanGo = 0) ∧ (accVal a K.scanScanGo = 1) ∧ (s.scanRuns = false) ∧ (h ∈ s.scanHeads) ∧ (s.gaRetired (headGauge h) = false) ∧ (bitOf acks h = true) :=
  ⟨(acc 1 : Acc), (2 ^ 127 : Nat), 127, W135, by decide +kernel⟩

def W136 : State := S [(K.scanScanStatus, 1)]

theorem wit_ScanCommands_2 : ∃ (a : Acc) (s : State), (s.writeStatus a K.scanScanGo = 0) ∧ (accVal a K.scanScanGo = 1) ∧ (s.scanRuns = true) :=
  ⟨(acc 1 : Acc), W136, by decide +kernel⟩

theorem wit_ScanCommands_3 : ∃ (a : Acc) (s : State), (s.writeStatus a K.scanScanAbort = 0) ∧ (accVal a K.scanScanAbort = 1) ∧ (s.scanRuns = true) :=
  ⟨(acc 1 : Acc), W136, by decide +kernel⟩

def W137 : State := { S [] with scan := [{ port := 31, head := 124, pos := 0, due := 9, ready := false, word := none }, { port := 3, head := 12, pos := 0, due := 9, ready := true, word := none }] }

theorem wit_ScanCommands_4 : ∃ (x : ScanPort) (r : List ScanPort) (s : State), (sortBy (fun x => (x.due : Int)) (s.scan.filter fun x => !x.ready) = x :: r) :=
  ⟨({ port := 31, head := 124, pos := 0, due := 9, ready := false, word := none } : ScanPort), [], W137, by decide +kernel⟩

def W138 : State := { S [] with scan := [{ port := 31, head := 124, pos := 0, due := 9, ready := true, word := some (2 ^ 31) }] }

theorem wit_ScanCommands_5 : ∃ (x : ScanPort) (w : Nat) (s : State), (s.scan.find? (fun x => x.word.isSome) = some x) ∧ (x.word = some w) ∧ (bitOf w 31 = true) :=
  ⟨({ port := 31, head := 124, pos := 0, due := 9, ready := true, word := some (2 ^ 31) } : ScanPort), (2 ^ 31 : Nat), W138, by decide +kernel⟩

def W139 : State := { S [(K.scanScanStatus, 1)] with scan := [{ port := 31, head := 124, pos := 0, due := 9, ready := true, word := some 5000 }, { port := 3, head := 12, pos := 0, due := 9, ready := true, word := none }] }

theorem wit_ScanCommands_6 : ∃ (x : ScanPort) (y : ScanPort) (w : Nat) (s : State), (s.scan.find? (fun x => x.word.isSome) = some x) ∧ (x.word = some w) ∧ (bitOf w 31 = false) ∧ (y ∈ s.scan) ∧ (y.port ≠ x.port) :=
  ⟨({ port := 31, head := 124, pos := 0, due := 9, ready := true, word := some 5000 } : ScanPort), ({ port := 3, head := 12, pos := 0, due := 9, ready := true, word := none } : ScanPort), 5000, W139, by decide +kernel⟩

def W140 : State := S [(K.gaMode 15, 1), (K.gaCicDecimation 15, 8), (K.gaFirEnable 15, 0)]

theorem wit_GaugeWordCommands_0 : ∃ (c : Nat) (bits : List Bool) (i : List Nat) (d : List Nat) (y : Int) (s : State), (c < 16) ∧ (s.gaRetired c = false) ∧ (s.gaSingle c = false) ∧ (s.on (K.gaFirEnable c) = false) ∧ (bits.length = s.rd (K.gaCicDecimation c)) ∧ (cicRun (s.rd (K.gaCicDecimation c)) (s.rd (K.gaCicDecimation c)) bits (s.ga c).ints (s.ga c).combs = (i, d, [y])) ∧ ((s.ga c).cal = none) ∧ (s.rd (K.gasSettleLeft c) = 0) :=
  ⟨15, ([true, false, true, true, false, true, false, true] : List Bool), ((cicRun 8 8 ([true, false, true, true, false, true, false, true] : List Bool) (W140.ga 15).ints (W140.ga 15).combs).1 : List Nat), ((cicRun 8 8 ([true, false, true, true, false, true, false, true] : List Bool) (W140.ga 15).ints (W140.ga 15).combs).2.1 : List Nat), (((cicRun 8 8 ([true, false, true, true, false, true, false, true] : List Bool) (W140.ga 15).ints (W140.ga 15).combs).2.2)[0]?.getD 0 : Int), W140, by decide +kernel⟩

def W141 : State := S [(K.gasSettleLeft 15, 2), (K.gaMode 15, 1), (K.gaCicDecimation 15, 8), (K.gaFirEnable 15, 0)]

theorem wit_GaugeWordCommands_1 : ∃ (c : Nat) (bits : List Bool) (i : List Nat) (d : List Nat) (y : Int) (s : State), (c < 16) ∧ (s.gaRetired c = false) ∧ (s.gaSingle c = false) ∧ (s.on (K.gaFirEnable c) = false) ∧ (bits.length = s.rd (K.gaCicDecimation c)) ∧ (cicRun (s.rd (K.gaCicDecimation c)) (s.rd (K.gaCicDecimation c)) bits (s.ga c).ints (s.ga c).combs = (i, d, [y])) ∧ ((s.ga c).cal = none) ∧ (s.rd (K.gasSettleLeft c) ≠ 0) :=
  ⟨15, ([true, false, true, true, false, true, false, true] : List Bool), ((cicRun 8 8 ([true, false, true, true, false, true, false, true] : List Bool) (W141.ga 15).ints (W141.ga 15).combs).1 : List Nat), ((cicRun 8 8 ([true, false, true, true, false, true, false, true] : List Bool) (W141.ga 15).ints (W141.ga 15).combs).2.1 : List Nat), (((cicRun 8 8 ([true, false, true, true, false, true, false, true] : List Bool) (W141.ga 15).ints (W141.ga 15).combs).2.2)[0]?.getD 0 : Int), W141, by decide +kernel⟩

def W142 : State := { S [(K.gaMode 15, 1), (K.gaCicDecimation 15, 8), (K.gaFirEnable 15, 0)] with gas := [(15, { cal := some { ref := false, left := 3, sum := 0, n := 0, zero := 0 } })] }

theorem wit_GaugeWordCommands_2 : ∃ (c : Nat) (bits : List Bool) (i : List Nat) (d : List Nat) (y : Int) (k : GaCal) (s : State), (c < 16) ∧ (s.gaRetired c = false) ∧ (s.gaSingle c = false) ∧ (s.on (K.gaFirEnable c) = false) ∧ (bits.length = s.rd (K.gaCicDecimation c)) ∧ (cicRun (s.rd (K.gaCicDecimation c)) (s.rd (K.gaCicDecimation c)) bits (s.ga c).ints (s.ga c).combs = (i, d, [y])) ∧ ((s.ga c).cal = some k) ∧ (k.left ≠ 0) :=
  ⟨15, ([true, false, true, true, false, true, false, true] : List Bool), ((cicRun 8 8 ([true, false, true, true, false, true, false, true] : List Bool) (W142.ga 15).ints (W142.ga 15).combs).1 : List Nat), ((cicRun 8 8 ([true, false, true, true, false, true, false, true] : List Bool) (W142.ga 15).ints (W142.ga 15).combs).2.1 : List Nat), (((cicRun 8 8 ([true, false, true, true, false, true, false, true] : List Bool) (W142.ga 15).ints (W142.ga 15).combs).2.2)[0]?.getD 0 : Int), ({ ref := false, left := 3, sum := 0, n := 0, zero := 0 } : GaCal), W142, by decide +kernel⟩

def W143 : State := { S [(K.gaMode 15, 1), (K.gaCicDecimation 15, 8), (K.gaFirEnable 15, 0), (K.gaFirEnable 15, 1), (K.gaFirDecimation 15, 2), (K.gaFadeShift 15, 2)] with gas := [(15, { fade := some (1, 3) })] }

theorem wit_GaugeWordCommands_3 : ∃ (c : Nat) (target : Nat) (i : Nat) (bits : List Bool) (s : State), (c < 16) ∧ (s.gaRetired c = false) ∧ (s.gaSingle c = false) ∧ (s.on (K.gaFirEnable c) = true) ∧ (bits.length = s.rd (K.gaCicDecimation c) * s.rd (K.gaFirDecimation c)) ∧ ((s.ga c).cal = none) ∧ ((s.ga c).fade = some (target, i)) ∧ (i + 1 = 2 ^ s.rd (K.gaFadeShift c)) ∧ (s.gaHold c = none) :=
  ⟨15, 1, 3, ([true, false, true, true, false, true, false, true] ++ [true, false, true, true, false, true, false, true] : List Bool), W143, by decide +kernel⟩

def W144 : State := S [(K.gaMode 15, 2), (K.gaInputSelect 15, 0), (K.gaSccDecimation 15, 8)]

theorem wit_GaugeWordCommands_4 : ∃ (c : Nat) (i : Nat) (bits : List Bool) (s : State), (c < 16) ∧ (s.gaRetired c = false) ∧ (s.gaSingle c = true) ∧ (s.gaNext c = some i) ∧ (bits.length = 4 * (s.gaScc c).1) ∧ ((s.ga c).cal = none) :=
  ⟨15, 0, (List.replicate 32 true : List Bool), W144, by decide +kernel⟩

def W145 : State := { S [(K.gaMode 15, 1), (K.gaCicDecimation 15, 8), (K.gaFirEnable 15, 0)] with gas := [(15, { edgeAt := 4 })] }

theorem wit_GaugeWordCommands_5 : ∃ (c : Nat) (s : State), (c < 16) ∧ (s.rd (K.gaMode c) ≠ 0) ∧ (s.gaRetired c = false) :=
  ⟨15, W145, by decide +kernel⟩

theorem wit_GaugeControlCommands_0 : ∃ (rising : Bool) (s : State), (s.rd K.gauGsyncEdge = (if rising then 1 else 2)) ∧ (s.syncAt ≠ some (s.now + 4)) :=
  ⟨true, (S [(K.gauGsyncEdge, 1)] : State), by decide +kernel⟩

theorem wit_GaugeControlCommands_1 : ∃ (a : Acc) (s : State), (s.writeStatus a K.gauSyncNow = 0) ∧ (accVal a K.gauSyncNow = 1) ∧ (s.syncAt ≠ some (s.now + 2)) :=
  ⟨(acc 1 : Acc), idle, by decide +kernel⟩

def W146 : State := { S [] with tasks := [{ task := 1, lineage := 0, stamp := 5 }] }

def W147 : State := { W146 with tasks := [] }

theorem wit_GaugeControlCommands_2 : ∃ (d : Delivery) (u : State) (s : State), (s.takeTask 1 = some (d, u)) ∧ (s.syncAt ≠ some (s.now + 2)) :=
  ⟨({ task := 1, lineage := 0, stamp := 5 } : Delivery), W147, W146, rfl, (by decide +kernel)⟩

theorem wit_GaugeControlCommands_3 : ∃ (a : Acc) (c : Nat) (s : State), (s.writeStatus a (K.gasSwapTarget c) = 0) ∧ (c < 16) ∧ (s.bankWritten c (accVal a (K.gasSwapTarget c)) = false) ∧ ((s.ga c).fade = none) ∧ (s.gaHold c = none) ∧ (s.rd (K.gasActiveBank c) ≠ accVal a (K.gasSwapTarget c)) :=
  ⟨(acc 1 : Acc), 15, idle, by decide +kernel⟩

def W148 : State := { S [] with gas := [(15, { fade := some (1, 3) })] }

theorem wit_GaugeControlCommands_4 : ∃ (a : Acc) (c : Nat) (s : State), (s.writeStatus a (K.gasSwapTarget c) = 0) ∧ (c < 16) ∧ (s.bankWritten c (accVal a (K.gasSwapTarget c)) = false) ∧ ((s.ga c).fade.isSome = true) ∧ (s.gaHold c = none) :=
  ⟨(acc 1 : Acc), 15, W148, by decide +kernel⟩

def W149 : State := { S [] with xfers := [(0, { entry := K.gbankBankB 15, offset := 0, length := 4, addr := 0, write := true })] }

theorem wit_GaugeControlCommands_5 : ∃ (a : Acc) (c : Nat) (s : State), (c < 16) ∧ (s.writeStatus a (K.gasSwapTarget c) = 0) ∧ (s.bankWritten c (accVal a (K.gasSwapTarget c)) = true) :=
  ⟨(acc 1 : Acc), 15, W149, by decide +kernel⟩

theorem wit_GaugeControlCommands_6 : ∃ (a : Acc) (c : Nat) (s : State), (s.writeStatus a (K.gasCalGo c) = 0) ∧ (c < 16) ∧ (accVal a (K.gasCalGo c) ≠ 0) ∧ ((s.ga c).cal = none) ∧ (s.gaHeld c = false) ∧ (s.rd (K.gaMode c) ≠ 0) :=
  ⟨(acc 1 : Acc), 15, W140, by decide +kernel⟩

theorem wit_GaugeControlCommands_7 : ∃ (a : Acc) (c : Nat) (s : State), (c < 16) ∧ (s.writeStatus a (K.gasCalGo c) = 0) ∧ (accVal a (K.gasCalGo c) ≠ 0) ∧ ((s.ga c).cal.isSome = true ∨ s.gaHeld c = true) :=
  ⟨(acc 1 : Acc), 15, (S [(K.gauScanHold, 255)] : State), by decide +kernel⟩

def W150 : State := S [(K.gfltGaugeState 15, 1)]

theorem wit_GaugeControlCommands_8 : ∃ (a : Acc) (c : Nat) (s : State), (s.writeStatus a (K.gfltReadmit c) = 0) ∧ (c < 16) ∧ (accVal a (K.gfltReadmit c) = 1) ∧ (s.gaRetired c = true) :=
  ⟨(acc 1 : Acc), 15, W150, by decide +kernel⟩

def W151 : State := { S [(K.umbReferenceMode, 2), (K.devDeviceState, stRunning), (K.devRunMask, 3), (K.loopsLoopState, 3), (K.loopLoopBands, 1)] with umb := { last := some 1023 }, loop := { open_ := true, band0 := 0 } }

theorem wit_LoopWindowCommands_0 : ∃ (j : Int) (s : State), (s.umb.last = some j) ∧ (s.loopRuns = true) ∧ (s.windowDue (j + 1) = true) ∧ (s.loopState ≠ 2) ∧ (s.loop.retry = []) ∧ (s.loop.lampWait = []) ∧ (∀ n, n < 12 → s.apprValid n = false) :=
  ⟨1023, W151, by decide +kernel⟩

def W152 : State := { S [] with loop := { fold := some { slot := 7, bar := 15, cols := [{ noz := 3, word := 5, knots := 9 }], cap := false, first := false, locked := true, held := false, a := 1, gain := 1, dead := 1, step := 1, drift := 1, plausible := 1, strike := 1, count := 1 } } }

def W153 : State := (if ({ slot := 7, bar := 15, cols := [{ noz := 3, word := 5, knots := 9 }], cap := false, first := false, locked := true, held := false, a := 1, gain := 1, dead := 1, step := 1, drift := 1, plausible := 1, strike := 1, count := 1 } : LoopFold).first then (W152.setLoop { W152.loop with fold := none }).approveKnots ({ slot := 7, bar := 15, cols := [{ noz := 3, word := 5, knots := 9 }], cap := false, first := false, locked := true, held := false, a := 1, gain := 1, dead := 1, step := 1, drift := 1, plausible := 1, strike := 1, count := 1 } : LoopFold).slot else W152.setLoop { W152.loop with fold := none })

theorem wit_LoopWindowCommands_1 : ∃ (f : LoopFold) (p : FoldAcc × State) (u : State) (s : State), (s.loop.fold = some f) ∧ (f.slot < 8) ∧ (u = (if f.first then (s.setLoop { s.loop with fold := none }).approveKnots f.slot else s.setLoop { s.loop with fold := none })) ∧ (p = (sortBy (fun n => ((n : Nat) : Int)) (distinct (f.cols.map fun c => c.noz))).foldl (foldNozzle f) ({}, u)) :=
  ⟨({ slot := 7, bar := 15, cols := [{ noz := 3, word := 5, knots := 9 }], cap := false, first := false, locked := true, held := false, a := 1, gain := 1, dead := 1, step := 1, drift := 1, plausible := 1, strike := 1, count := 1 } : LoopFold), ((sortBy (fun n => ((n : Nat) : Int)) (distinct (({ slot := 7, bar := 15, cols := [{ noz := 3, word := 5, knots := 9 }], cap := false, first := false, locked := true, held := false, a := 1, gain := 1, dead := 1, step := 1, drift := 1, plausible := 1, strike := 1, count := 1 } : LoopFold).cols.map fun c => c.noz))).foldl (foldNozzle ({ slot := 7, bar := 15, cols := [{ noz := 3, word := 5, knots := 9 }], cap := false, first := false, locked := true, held := false, a := 1, gain := 1, dead := 1, step := 1, drift := 1, plausible := 1, strike := 1, count := 1 } : LoopFold)) ({}, W153) : FoldAcc × State), W153, W152, (by decide +kernel), (by decide +kernel), rfl, rfl⟩

theorem wit_LoopWindowCommands_2 : ∃ (f : LoopFold) (x : LoopCol) (s : State), (s.loop.fold = some f) ∧ (f.slot < 8) ∧ (f.first = false) ∧ (f.cols = [x]) ∧ (s.glazeWord x.word % 2 ^ 60 ≠ x.knots) :=
  ⟨({ slot := 7, bar := 15, cols := [{ noz := 3, word := 5, knots := 9 }], cap := false, first := false, locked := true, held := false, a := 1, gain := 1, dead := 1, step := 1, drift := 1, plausible := 1, strike := 1, count := 1 } : LoopFold), ({ noz := 3, word := 5, knots := 9 } : LoopCol), W152, by decide +kernel⟩

def W154 : State := S [(K.loopsLoopState, 3)]

theorem wit_LoopApprovalCommands_0 : ∃ (a : Acc) (s : State), (s.writeStatus { a with value := 1 } K.loopsApproveCommand = 0) ∧ (s.loopState = 1 ∨ s.loopState = 3 ∨ s.loopState = 4) :=
  ⟨(acc 1 : Acc), W154, by decide +kernel⟩

def W155 : State := S [(K.loopsLoopState, 4)]

theorem wit_LoopApprovalCommands_1 : ∃ (a : Acc) (s : State), (s.writeStatus { a with value := 2 } K.loopsApproveCommand = 0) ∧ (s.loopState = 2 ∨ s.loopState = 3 ∨ s.loopState = 4) :=
  ⟨(acc 1 : Acc), W155, by decide +kernel⟩

theorem wit_LoopApprovalCommands_2 : ∃ (a : Acc) (s : State), (s.writeStatus { a with value := 3 } K.loopsApproveCommand = 0) ∧ (s.loopState = 3) :=
  ⟨(acc 1 : Acc), W154, by decide +kernel⟩

theorem wit_LoopApprovalCommands_3 : ∃ (a : Acc) (s : State), (s.writeStatus { a with value := 4 } K.loopsApproveCommand = 0) ∧ (s.loopState = 4) :=
  ⟨(acc 1 : Acc), W155, by decide +kernel⟩

def W156 : State := (S [(K.loopsLoopState, 1)]).domWrite K.loopsApprovalSet 0 [0x41, 0x4C]

theorem wit_LoopApprovalCommands_4 : ∃ (a : Acc) (s : State), (s.writeStatus { a with value := 5 } K.loopsApproveCommand = 0) ∧ (s.loopState = 1) ∧ (s.dev = stStopped) ∧ (s.apprLe 0 2 = 0x4C41) :=
  ⟨(acc 1 : Acc), W156, by decide +kernel⟩

theorem wit_LoopApprovalCommands_5 : ∃ (a : Acc) (s : State), (s.writeStatus { a with value := 3 } K.loopsApproveCommand = 0) ∧ (s.loopState ≠ 3) :=
  ⟨(acc 1 : Acc), W155, by decide +kernel⟩

theorem wit_LoopApprovalCommands_6 : ∃ (a : Acc) (s : State), (s.writeStatus { a with value := 5 } K.loopsApproveCommand = 0) ∧ (s.loopState ≠ 1 ∨ s.dev ≠ stStopped) :=
  ⟨(acc 1 : Acc), W155, by decide +kernel⟩

def W157 : State := S [(K.dcsChannelState 3, 2), (K.dramDramPopulated, 65536), (K.dramInterleave, 0), (K.dramChannelsPresent, 8), (K.dcCapacity 3, 65536), (K.dcTrfc 3, 350)]

theorem wit_DramCommands_0 : ∃ (ch : Nat) (s : State), (ch < 4) ∧ (s.dramReady ch = true) :=
  ⟨3, W157, by decide +kernel⟩

theorem wit_DramCommands_1 : ∃ (ch : Nat) (x : Int) (s : State), (ch < 4) ∧ (s.rd (K.dcsChannelState ch) ≠ 0) ∧ (85000 < x) :=
  ⟨3, 85001, W157, by decide +kernel⟩

theorem wit_DramCommands_2 : ∃ (ch : Nat) (x : Int) (s : State), (ch < 4) ∧ (s.rd (K.dcsChannelState ch) ≠ 0) ∧ (x < 83000) :=
  ⟨3, 82999, W157, by decide +kernel⟩

theorem wit_DramCommands_3 : ∃ (ch : Nat) (s : State), (ch < 4) ∧ (s.rd (K.dcsChannelState ch) ≠ 0) :=
  ⟨3, W157, by decide +kernel⟩

def W158 : State := { S [(K.dcsChannelState 3, 2), (K.dramDramPopulated, 65536), (K.dramInterleave, 0), (K.dramChannelsPresent, 8), (K.dcCapacity 3, 65536), (K.dcTrfc 3, 350)] with drams := [(3, { wait := [{ port := 3, hart := 2, write := true, addr := 192, len := 8, bytes := [1, 2], stamp := 4 }] })] }

theorem wit_DramCommands_4 : ∃ (ch : Nat) (p : Nat) (r : DramReq) (l : List DramReq) (s : State), (ch < 4) ∧ (s.dramReady ch = true) ∧ (s.grantPort ch = some p) ∧ (takeReq p (s.dramCh ch).wait = some (r, l)) ∧ (max s.now ((s.dramCh ch).refreshed + s.rfc ch) < (s.dramCh ch).refreshed + (s.dramCh ch).refi) ∧ (r.write = true) ∧ s.memOk ∧ (s.inDram r.addr r.bytes.length = true) :=
  ⟨3, 3, ({ port := 3, hart := 2, write := true, addr := 192, len := 8, bytes := [1, 2], stamp := 4 } : DramReq), [], W158, (by decide +kernel), (by decide +kernel), (by decide +kernel), (by decide +kernel), (by decide +kernel), (by decide +kernel), rfl, (by decide +kernel)⟩

def W159 : State := { S [(K.dcsChannelState 3, 2), (K.dramDramPopulated, 65536), (K.dramInterleave, 0), (K.dramChannelsPresent, 8), (K.dcCapacity 3, 65536), (K.dcTrfc 3, 350)] with drams := [(3, { wait := [{ port := 3, hart := 2, write := false, addr := 192, len := 8, bytes := [1, 2], stamp := 4 }] })] }

theorem wit_DramCommands_5 : ∃ (ch : Nat) (p : Nat) (r : DramReq) (l : List DramReq) (s : State), (ch < 4) ∧ (s.dramReady ch = true) ∧ (s.grantPort ch = some p) ∧ (takeReq p (s.dramCh ch).wait = some (r, l)) ∧ (max s.now ((s.dramCh ch).refreshed + s.rfc ch) < (s.dramCh ch).refreshed + (s.dramCh ch).refi) ∧ (r.write = false) ∧ (s.inDram r.addr r.len = true) :=
  ⟨3, 3, ({ port := 3, hart := 2, write := false, addr := 192, len := 8, bytes := [1, 2], stamp := 4 } : DramReq), [], W159, by decide +kernel⟩

def W160 : State := S [(K.dcsChannelState 3, 2), (K.dramDramPopulated, 65536), (K.dramInterleave, 0), (K.dramChannelsPresent, 8), (K.dcCapacity 3, 65536), (K.dcTrfc 3, 350), (K.dramPatrolPeriod, 5)]

theorem wit_DramCommands_6 : ∃ (ch : Nat) (a : Nat) (s : State), (ch < 4) ∧ (s.dramReady ch = true) ∧ (s.rd K.dramPatrolPeriod ≠ 0) ∧ ((s.dramCh ch).wait = []) ∧ (s.inDram a 64 = true) ∧ (s.dramOf a = ch) :=
  ⟨3, 64, W160, by decide +kernel⟩

theorem wit_DramCommands_7 : ∃ (ch : Nat) (a : Nat) (s : State), (ch < 4) ∧ (s.dramReady ch = true) ∧ (s.rd K.dramPatrolPeriod ≠ 0) ∧ ((s.dramCh ch).wait = []) ∧ (s.inDram a 64 = true) ∧ (s.dramOf a = ch) ∧ (s.dev ≠ stReset) ∧ (s.dev ≠ stFault) :=
  ⟨3, 64, W160, by decide +kernel⟩

def W161 : State := S [(K.dcsChannelState 3, 2), (K.dramDramPopulated, 65536), (K.dramInterleave, 0), (K.dramChannelsPresent, 8), (K.dcCapacity 3, 65536), (K.dcTrfc 3, 350), (K.devDeviceState, stStandby), (K.pwrSleepMask, 64), (K.pwrSelfRefreshIdle, 9)]

theorem wit_DramCommands_8 : ∃ (ch : Nat) (s : State), (ch < 4) ∧ (s.dev = stStandby) ∧ (s.bit K.pwrSleepMask 6 = true) ∧ (s.rd K.pwrSelfRefreshIdle ≠ 0) ∧ (s.dramReady ch = true) ∧ ((s.dramCh ch).wait = []) :=
  ⟨3, W161, by decide +kernel⟩

def W162 : State := S [(K.dcsChannelState 3, 2), (K.dramDramPopulated, 65536), (K.dramInterleave, 0), (K.dramChannelsPresent, 8), (K.dcCapacity 3, 65536), (K.dcTrfc 3, 350), (K.calDdrTrackPeriod, 9)]

theorem wit_DramCommands_9 : ∃ (ch : Nat) (d : Int) (s : State), (ch < 4) ∧ (s.rd K.calDdrTrackPeriod ≠ 0) ∧ (s.dramReady ch = true) ∧ ((tget 0 (s.dramCh ch).moved 0).natAbs < 8) ∧ (clampI (-1) 1 d ≠ 0) :=
  ⟨3, 5, W162, by decide +kernel⟩

def W163 : State := S [(K.qItemBytes 63, 16)]

theorem wit_QueueCommands_0 : ∃ (q : Nat) (item : List Nat) (s : State), (q < 64) ∧ (item.length ≤ s.rd (K.qItemBytes q)) ∧ (s.queCredits q = 0) :=
  ⟨63, ([1] : List Nat), W163, by decide +kernel⟩

def W164 : State := S [(K.qsConsumer 63, 255)]

theorem wit_QueueCommands_1 : ∃ (a : Acc) (q : Nat) (s : State), (s.writeStatus a (K.qsFlush q) = 0) ∧ (q < 64) ∧ (accVal a (K.qsFlush q) = 1) ∧ (32 ≤ s.rd (K.qsConsumer q)) :=
  ⟨(acc 1 : Acc), 63, W164, by decide +kernel⟩

theorem wit_QueueCommands_2 : ∃ (a : Acc) (q : Nat) (s : State), (s.writeStatus a (K.qsFlush q) = 0) ∧ (q < 64) ∧ (accVal a (K.qsFlush q) = 1) :=
  ⟨(acc 1 : Acc), 63, (S [(K.qsConsumer 63, 3)] : State), by decide +kernel⟩

theorem wit_QueueCommands_3 : ∃ (a : Acc) (s : State), (s.writeStatus a K.quesPortQueueFlush = 0) :=
  ⟨(acc 5 : Acc), idle, by decide +kernel⟩

def W165 : State := S [(K.dmasChannelState 31, 5)]

theorem wit_DmaControlCommands_0 : ∃ (a : Acc) (c : Nat) (s : State), (s.writeStatus a (K.dmasGo c) = 0) ∧ (c < 32) ∧ (s.dmaState c = 0 ∨ s.dmaState c = 5) ∧ (accVal a (K.dmasGo c) = 1) :=
  ⟨(acc 1 : Acc), 31, W165, by decide +kernel⟩

def W166 : State := S [(K.dmasChannelState 31, 3)]

theorem wit_DmaControlCommands_1 : ∃ (a : Acc) (c : Nat) (s : State), (c < 32) ∧ (s.writeStatus a (K.dmasGo c) = 0) ∧ (s.dmaState c ≠ 0) ∧ (s.dmaState c ≠ 5) :=
  ⟨(acc 1 : Acc), 31, W166, by decide +kernel⟩

def W167 : State := S [(K.dmasChannelState 31, 4)]

theorem wit_DmaControlCommands_2 : ∃ (a : Acc) (c : Nat) (s : State), (s.writeStatus a (K.dmasDoorbell c) = 0) ∧ (c < 32) ∧ (accVal a (K.dmasDoorbell c) = 1) ∧ (s.dmaState c = 4) :=
  ⟨(acc 1 : Acc), 31, W167, by decide +kernel⟩

theorem wit_DmaControlCommands_3 : ∃ (a : Acc) (c : Nat) (s : State), (s.writeStatus a (K.dmasAbort c) = 0) ∧ (c < 32) ∧ (accVal a (K.dmasAbort c) = 1) ∧ (s.dmaState c = 1 ∨ s.dmaState c = 4) :=
  ⟨(acc 1 : Acc), 31, W167, by decide +kernel⟩

theorem wit_DmaControlCommands_4 : ∃ (a : Acc) (c : Nat) (s : State), (s.writeStatus a (K.dmasAbort c) = 0) ∧ (c < 32) ∧ (accVal a (K.dmasAbort c) = 1) ∧ (s.dmaState c = 2 ∨ s.dmaState c = 3) :=
  ⟨(acc 1 : Acc), 31, W166, by decide +kernel⟩

def W168 : State := { { S [(K.dmasChannelState 31, 1), (K.dramDramPopulated, 65536), (K.dmasCurrentDesc 31, 128)] with dmas := [(31, { burst := 1 })] } with mem := [(128, 1), (132, 64), (137, 16)] }

def W169 : State := (W168.blockRead 8 (W168.rd (K.dmasCurrentDesc 31)) 64).2

theorem wit_DmaControlCommands_5 : ∃ (c : Nat) (l : List Nat) (x : Dma) (u : State) (s : State), (c < 32) ∧ (s.rd (K.dmasChannelState c) = 1) ∧ (s.blockRead 8 (s.rd (K.dmasCurrentDesc c)) 64 = (l, u)) ∧ (x = { ctrl := leAt l 0 4, length := leAt l 4 4, src := leAt l 8 8, dst := leAt l 16 8, next := leAt l 24 8, burst := (s.dma c).burst }) ∧ (s.inDram (s.rd (K.dmasCurrentDesc c)) 64 = true) ∧ (bitOf x.ctrl 0 = true) ∧ (u.descCheck c x = 0) :=
  ⟨31, ((W168.blockRead 8 (W168.rd (K.dmasCurrentDesc 31)) 64).1 : List Nat), ({ ctrl := leAt ((W168.blockRead 8 (W168.rd (K.dmasCurrentDesc 31)) 64).1 : List Nat) 0 4, length := leAt ((W168.blockRead 8 (W168.rd (K.dmasCurrentDesc 31)) 64).1 : List Nat) 4 4, src := leAt ((W168.blockRead 8 (W168.rd (K.dmasCurrentDesc 31)) 64).1 : List Nat) 8 8, dst := leAt ((W168.blockRead 8 (W168.rd (K.dmasCurrentDesc 31)) 64).1 : List Nat) 16 8, next := leAt ((W168.blockRead 8 (W168.rd (K.dmasCurrentDesc 31)) 64).1 : List Nat) 24 8, burst := (W168.dma 31).burst } : Dma), W169, W168, (by decide +kernel), (by decide +kernel), rfl, (by decide +kernel), (by decide +kernel), (by decide +kernel), (by decide +kernel)⟩

def W170 : State := S [(K.dmasChannelState 31, 1), (K.dramDramPopulated, 65536)]

def W171 : State := (W170.blockRead 8 (W170.rd (K.dmasCurrentDesc 31)) 64).2

theorem wit_DmaControlCommands_6 : ∃ (c : Nat) (l : List Nat) (x : Dma) (u : State) (s : State), (c < 32) ∧ (s.rd (K.dmasChannelState c) = 1) ∧ (s.blockRead 8 (s.rd (K.dmasCurrentDesc c)) 64 = (l, u)) ∧ (x = { ctrl := leAt l 0 4, length := leAt l 4 4, src := leAt l 8 8, dst := leAt l 16 8, next := leAt l 24 8, burst := (s.dma c).burst }) ∧ (s.inDram (s.rd (K.dmasCurrentDesc c)) 64 = true) ∧ (bitOf x.ctrl 0 = false) :=
  ⟨31, ((W170.blockRead 8 (W170.rd (K.dmasCurrentDesc 31)) 64).1 : List Nat), ({ ctrl := leAt ((W170.blockRead 8 (W170.rd (K.dmasCurrentDesc 31)) 64).1 : List Nat) 0 4, length := leAt ((W170.blockRead 8 (W170.rd (K.dmasCurrentDesc 31)) 64).1 : List Nat) 4 4, src := leAt ((W170.blockRead 8 (W170.rd (K.dmasCurrentDesc 31)) 64).1 : List Nat) 8 8, dst := leAt ((W170.blockRead 8 (W170.rd (K.dmasCurrentDesc 31)) 64).1 : List Nat) 16 8, next := leAt ((W170.blockRead 8 (W170.rd (K.dmasCurrentDesc 31)) 64).1 : List Nat) 24 8, burst := (W170.dma 31).burst } : Dma), W171, W170, (by decide +kernel), (by decide +kernel), rfl, (by decide +kernel), (by decide +kernel), (by decide +kernel)⟩

def W172 : State := { { S [(K.dmasChannelState 31, 1), (K.dramDramPopulated, 65536), (K.dmasCurrentDesc 31, 128)] with dmas := [(31, { burst := 1 })] } with mem := [(128, 1), (137, 16)] }

def W173 : State := (W172.blockRead 8 (W172.rd (K.dmasCurrentDesc 31)) 64).2

theorem wit_DmaControlCommands_7 : ∃ (c : Nat) (st : Nat) (l : List Nat) (x : Dma) (u : State) (s : State), (c < 32) ∧ (s.rd (K.dmasChannelState c) = 1) ∧ (s.blockRead 8 (s.rd (K.dmasCurrentDesc c)) 64 = (l, u)) ∧ (x = { ctrl := leAt l 0 4, length := leAt l 4 4, src := leAt l 8 8, dst := leAt l 16 8, next := leAt l 24 8, burst := (s.dma c).burst }) ∧ (s.inDram (s.rd (K.dmasCurrentDesc c)) 64 = true) ∧ (bitOf x.ctrl 0 = true) ∧ (u.descCheck c x = st) ∧ (st ≠ 0) ∧ s.memOk :=
  ⟨31, 6, ((W172.blockRead 8 (W172.rd (K.dmasCurrentDesc 31)) 64).1 : List Nat), ({ ctrl := leAt ((W172.blockRead 8 (W172.rd (K.dmasCurrentDesc 31)) 64).1 : List Nat) 0 4, length := leAt ((W172.blockRead 8 (W172.rd (K.dmasCurrentDesc 31)) 64).1 : List Nat) 4 4, src := leAt ((W172.blockRead 8 (W172.rd (K.dmasCurrentDesc 31)) 64).1 : List Nat) 8 8, dst := leAt ((W172.blockRead 8 (W172.rd (K.dmasCurrentDesc 31)) 64).1 : List Nat) 16 8, next := leAt ((W172.blockRead 8 (W172.rd (K.dmasCurrentDesc 31)) 64).1 : List Nat) 24 8, burst := (W172.dma 31).burst } : Dma), W173, W172, (by decide +kernel), (by decide +kernel), rfl, (by decide +kernel), (by decide +kernel), (by decide +kernel), (by decide +kernel), (by decide +kernel), rfl⟩

def W174 : State := { S [(K.dmasChannelState 31, 3)] with dmas := [(31, { ctrl := 256, src := 63 })], queues := [(63, { oth := { used := 1, items := [{ bytes := [1], stamp := 7 }] } })] }

theorem wit_DmaMoveCommands_0 : ∃ (c : Nat) (q : Nat) (s : State), (c < 32) ∧ ((s.dma c).queue = some q) ∧ (s.dmaState c = 3) ∧ (max 1 (s.rd (K.dmaHighMark c)) ≤ s.paceLevel (s.dma c) q) :=
  ⟨31, 63, W174, by decide +kernel⟩

def W175 : State := { S [(K.dmasChannelState 31, 3), (K.dmaMaxWait 31, 5)] with dmas := [(31, { ctrl := 256, src := 63 })], queues := [(63, { oth := { used := 1, items := [{ bytes := [1], stamp := 7 }] } })] }

theorem wit_DmaMoveCommands_1 : ∃ (c : Nat) (it : QItem) (s : State), (c < 32) ∧ ((s.dma c).fromQueue = true) ∧ (s.dmaState c = 3) ∧ (s.rd (K.dmaMaxWait c) ≠ 0) ∧ (queOldest (s.que ((s.dma c).src % 64)) = some it) :=
  ⟨31, ({ bytes := [1], stamp := 7 } : QItem), W175, by decide +kernel⟩

def W176 : State := { S [(K.dmasChannelState 31, 2), (K.dramDramPopulated, 65536)] with dmas := [(31, { length := 128, src := 1024, dst := 2048 })] }

theorem wit_DmaMoveCommands_2 : ∃ (c : Nat) (x : Dma) (s : State), (c < 32) ∧ (x = s.dma c) ∧ (s.dmaState c = 2) ∧ (x.queue = none) ∧ (x.fromHost = false) ∧ (x.toHost = false) ∧ (x.moved = 0) ∧ (x.length % 64 = 0) ∧ (s.firstBad x x.length = none) ∧ (s.inDram x.dst x.length = true) ∧ s.memOk :=
  ⟨31, (W176.dma 31 : Dma), W176, (by decide +kernel), (by decide +kernel), (by decide +kernel), (by decide +kernel), (by decide +kernel), (by decide +kernel), (by decide +kernel), (by decide +kernel), (by decide +kernel), (by decide +kernel), rfl⟩

theorem wit_DmaMoveCommands_3 : ∃ (c : Nat) (s : State), (c < 32) ∧ (s.dmaState c = 2) ∧ (s.firstBad (s.dma c) (s.dmaPlan c (s.dma c)) = none) :=
  ⟨31, W176, by decide +kernel⟩

def W177 : State := { S [(K.dmasChannelState 31, 2), (K.dramDramPopulated, 65536)] with dmas := [(31, { length := 128, src := 65472, dst := 2048 })] }

theorem wit_DmaMoveCommands_4 : ∃ (c : Nat) (i : Nat) (z : Nat) (b : Bool) (x : Dma) (s : State), (c < 32) ∧ (x = s.dma c) ∧ (s.dmaState c = 2) ∧ (x.queue = none) ∧ (x.moved = 0) ∧ (x.length % 64 = 0) ∧ (s.firstBad x x.length = some (i, b, z)) :=
  ⟨31, (((W177.firstBad (W177.dma 31 : Dma) (W177.dma 31 : Dma).length).getD (0, false, 0)).1 : Nat), (((W177.firstBad (W177.dma 31 : Dma) (W177.dma 31 : Dma).length).getD (0, false, 0)).2.2 : Nat), (((W177.firstBad (W177.dma 31 : Dma) (W177.dma 31 : Dma).length).getD (0, false, 0)).2.1 : Bool), (W177.dma 31 : Dma), W177, by decide +kernel⟩

def W178 : State := { S [(K.dmasChannelState 31, 2), (K.dramDramPopulated, 65536)] with dmas := [(31, { ctrl := 4096, length := 128, src := 1024, dst := 2048 })] }

theorem wit_DmaMoveCommands_5 : ∃ (c : Nat) (beats : Nat) (x : Dma) (s : State), (c < 32) ∧ (x = s.dma c) ∧ (s.dmaState c = 2) ∧ (x.queue = none) ∧ (x.fromHost = true ∨ x.toHost = true) ∧ (x.moved = 0) ∧ (x.length % 64 = 0) ∧ (64 * beats < x.length) :=
  ⟨31, 1, (W178.dma 31 : Dma), W178, by decide +kernel⟩

def W179 : State := S [(K.dramDramPopulated, 65536), (K.zerJobRingBase 5, 256), (K.zerJobRingEntries 5, 4)]

theorem wit_CompressionCommands_0 : ∃ (a : Acc) (e : Nat) (s : State), (s.writeStatus a (K.zesJobTail e) = 0) ∧ (e < 6) ∧ ((accVal a (K.zesJobTail e) + 2 ^ 32 - s.rd (K.zesJobHead e)) % 2 ^ 32 ≤ s.rd (K.zerJobRingEntries e)) :=
  ⟨(acc 4 : Acc), 5, W179, by decide +kernel⟩

theorem wit_CompressionCommands_1 : ∃ (a : Acc) (e : Nat) (s : State), (e < 6) ∧ (s.writeStatus a (K.zesJobTail e) = 0) ∧ (s.rd (K.zerJobRingEntries e) < (accVal a (K.zesJobTail e) + 2 ^ 32 - s.rd (K.zesJobHead e)) % 2 ^ 32) :=
  ⟨(acc 5 : Acc), 5, W179, by decide +kernel⟩

def W180 : State := { S [] with cropJobs := [{ kind := 3, tag := 4, slot := 128 }], zes := [(0, { job := some { kind := 3, tag := 4, slot := 128 } }), (1, { job := some { kind := 3, tag := 4, slot := 128 } }), (2, { job := some { kind := 3, tag := 4, slot := 128 } }), (3, { job := some { kind := 3, tag := 4, slot := 128 } }), (4, { job := some { kind := 3, tag := 4, slot := 128 } })] }

theorem wit_CompressionCommands_2 : ∃ (e : Nat) (j : ZeJob) (l : List ZeJob) (s : State), (e < 6) ∧ (s.zeAwake = true) ∧ (s.zeIdle e = true) ∧ (s.zeReserved e = false) ∧ (s.cropJobs = j :: l) ∧ ((List.range e).all (fun d => s.zeReserved d || !s.zeIdle d) = true) :=
  ⟨5, ({ kind := 3, tag := 4, slot := 128 } : ZeJob), [], W180, by decide +kernel⟩

def W181 : State := { S [(K.dramDramPopulated, 65536), (K.zerJobRingBase 5, 256), (K.zerJobRingEntries 5, 4), (K.zesJobTail 5, 1)] with mem := [(256, 17), (261, 16), (265, 4), (273, 32), (280, 4), (289, 16)] }

def W182 : State := (W181.blockRead 10 (W181.jobAddr 5) 64).2

theorem wit_CompressionCommands_3 : ∃ (e : Nat) (l : List Nat) (u : State) (s : State), (e < 6) ∧ (s.zeAwake = true) ∧ (s.zeIdle e = true) ∧ (s.zeReserved e = false) ∧ (s.cropJobs = []) ∧ (s.rd (K.zesJobHead e) ≠ s.rd (K.zesJobTail e)) ∧ ((s.ze e).stopped = false) ∧ (s.rd (K.zerJobRingEntries e) ≠ 0) ∧ (s.blockRead 10 (s.jobAddr e) 64 = (l, u)) ∧ (bitOf (leAt l 0 4) 0 = true) ∧ (u.zeCheck (leAt l 0 4) (jobOf l) = zeOk) :=
  ⟨5, ((W181.blockRead 10 (W181.jobAddr 5) 64).1 : List Nat), W182, W181, (by decide +kernel), (by decide +kernel), (by decide +kernel), (by decide +kernel), (by decide +kernel), (by decide +kernel), (by decide +kernel), (by decide +kernel), rfl, (by decide +kernel), (by decide +kernel)⟩

def W183 : State := S [(K.dramDramPopulated, 65536), (K.zerJobRingBase 5, 256), (K.zerJobRingEntries 5, 4), (K.zesJobTail 5, 1)]

def W184 : State := (W183.blockRead 10 (W183.jobAddr 5) 64).2

theorem wit_CompressionCommands_4 : ∃ (e : Nat) (l : List Nat) (u : State) (s : State), (e < 6) ∧ (s.zeAwake = true) ∧ (s.zeIdle e = true) ∧ (s.zeReserved e = false) ∧ (s.cropJobs = []) ∧ (s.rd (K.zesJobHead e) ≠ s.rd (K.zesJobTail e)) ∧ ((s.ze e).stopped = false) ∧ (s.rd (K.zerJobRingEntries e) ≠ 0) ∧ (s.blockRead 10 (s.jobAddr e) 64 = (l, u)) ∧ (bitOf (leAt l 0 4) 0 = false) :=
  ⟨5, ((W183.blockRead 10 (W183.jobAddr 5) 64).1 : List Nat), W184, W183, (by decide +kernel), (by decide +kernel), (by decide +kernel), (by decide +kernel), (by decide +kernel), (by decide +kernel), (by decide +kernel), (by decide +kernel), rfl, (by decide +kernel)⟩

def W185 : State := { S [(K.dramDramPopulated, 65536), (K.zerJobRingBase 5, 256), (K.zerJobRingEntries 5, 4), (K.zesJobTail 5, 1)] with zes := [(5, { job := some { kind := 1, op := 2, level := 1, block := 4096, src := 1024, dst := 8192, inLen := 4, outLimit := 4096 } })] }

theorem wit_CompressionCommands_5 : ∃ (e : Nat) (j : ZeJob) (s : State), (e < 6) ∧ ((s.ze e).job = some j) ∧ (s.zeAwake = true) :=
  ⟨5, ({ kind := 1, op := 2, level := 1, block := 4096, src := 1024, dst := 8192, inLen := 4, outLimit := 4096 } : ZeJob), W185, by decide +kernel⟩

def W186 : State := { S [(K.dramDramPopulated, 65536), (K.zerJobRingBase 5, 256), (K.zerJobRingEntries 5, 4), (K.zesJobTail 5, 1)] with zes := [(5, { job := some { kind := 1, op := 0, level := 1, block := 4096, src := 1024, dst := 8192, inLen := 100, outLimit := 4096 } })] }

theorem wit_CompressionCommands_6 : ∃ (e : Nat) (crc : Nat) (j : ZeJob) (out : List Nat) (s : State), (e < 6) ∧ ((s.ze e).job = some j) ∧ (s.zeAwake = true) ∧ (j.kind = 1) ∧ (j.op = 0 ∨ j.op = 1) ∧ (j.inLen ≠ 0) ∧ (s.inDram j.src j.inLen = true) ∧ (j.verified ((List.range j.inLen).map fun i => s.memByte (j.src + i)) = (zeOk, crc, out)) ∧ (s.inDram j.dst out.length = true) ∧ (s.inDram (s.jobAddr e) 64 = true) ∧ s.memOk :=
  ⟨5, ((({ kind := 1, op := 0, level := 1, block := 4096, src := 1024, dst := 8192, inLen := 100, outLimit := 4096 } : ZeJob).verified ((List.range ({ kind := 1, op := 0, level := 1, block := 4096, src := 1024, dst := 8192, inLen := 100, outLimit := 4096 } : ZeJob).inLen).map fun i => W186.memByte (({ kind := 1, op := 0, level := 1, block := 4096, src := 1024, dst := 8192, inLen := 100, outLimit := 4096 } : ZeJob).src + i))).2.1 : Nat), ({ kind := 1, op := 0, level := 1, block := 4096, src := 1024, dst := 8192, inLen := 100, outLimit := 4096 } : ZeJob), ((({ kind := 1, op := 0, level := 1, block := 4096, src := 1024, dst := 8192, inLen := 100, outLimit := 4096 } : ZeJob).verified ((List.range ({ kind := 1, op := 0, level := 1, block := 4096, src := 1024, dst := 8192, inLen := 100, outLimit := 4096 } : ZeJob).inLen).map fun i => W186.memByte (({ kind := 1, op := 0, level := 1, block := 4096, src := 1024, dst := 8192, inLen := 100, outLimit := 4096 } : ZeJob).src + i))).2.2 : List Nat), W186, (by decide +kernel), (by decide +kernel), (by decide +kernel), (by decide +kernel), (by decide +kernel), (by decide +kernel), (by decide +kernel), (by decide +kernel), (by decide +kernel), (by decide +kernel), rfl⟩

theorem wit_CompressionCommands_7 : ∃ (e : Nat) (j : ZeJob) (s : State), (e < 6) ∧ ((s.ze e).job = some j) ∧ (s.zeAwake = true) ∧ (j.kind = 1) ∧ (j.op = 2) ∧ (j.inLen ≠ 0) ∧ (s.inDram j.src j.inLen = true) ∧ (s.inDram (s.jobAddr e) 64 = true) ∧ s.memOk :=
  ⟨5, ({ kind := 1, op := 2, level := 1, block := 4096, src := 1024, dst := 8192, inLen := 4, outLimit := 4096 } : ZeJob), W185, (by decide +kernel), (by decide +kernel), (by decide +kernel), (by decide +kernel), (by decide +kernel), (by decide +kernel), (by decide +kernel), (by decide +kernel), rfl⟩

theorem wit_CompressionCommands_8 : ∃ (a : Acc) (e : Nat) (j : ZeJob) (s : State), (s.writeStatus a (K.zesAbort e) = 0) ∧ (e < 6) ∧ ((s.ze e).job = some j) ∧ (accVal a (K.zesAbort e) = 1) ∧ (j.kind = 1) :=
  ⟨(acc 1 : Acc), 5, ({ kind := 1, op := 2, level := 1, block := 4096, src := 1024, dst := 8192, inLen := 4, outLimit := 4096 } : ZeJob), W185, by decide +kernel⟩

def W187 : State := { S [] with raised := [{ num := 5, lineage := 3, stamp := 9, chans := [], hits := [(64, 1)] }] }

theorem wit_EventFabricCommands_0 : ∃ (r : Raised) (i : Nat) (s : State), (s.raised = [r]) ∧ (r.hits = [(i, 1)]) ∧ (s.taskBusy i = false) ∧ (r.num ≠ Ev.whlStopReq) :=
  ⟨({ num := 5, lineage := 3, stamp := 9, chans := [], hits := [(64, 1)] } : Raised), 64, W187, by decide +kernel⟩

def W188 : State := { S [] with raised := [{ num := 5, lineage := 3, stamp := 9, chans := [], hits := [(33, 1)] }], tasks := [{ task := 33, lineage := 0, stamp := 5 }] }

theorem wit_EventFabricCommands_1 : ∃ (r : Raised) (i : Nat) (s : State), (s.raised = [r]) ∧ (i < 256) ∧ (r.hits = [(i, 1)]) ∧ (s.taskBusy i = true) ∧ (r.num ≠ Ev.whlStopReq) :=
  ⟨({ num := 5, lineage := 3, stamp := 9, chans := [], hits := [(33, 1)] } : Raised), 33, W188, by decide +kernel⟩

def W189 : State := { S [] with raised := [{ num := Ev.whlStopReq, lineage := 3, stamp := 9, chans := [], hits := [] }] }

theorem wit_EventFabricCommands_2 : ∃ (r : Raised) (s : State), (s.raised = [r]) ∧ (r.hits = []) ∧ (r.num = Ev.whlStopReq) :=
  ⟨({ num := Ev.whlStopReq, lineage := 3, stamp := 9, chans := [], hits := [] } : Raised), W189, by decide +kernel⟩

theorem wit_EventFabricCommands_3 : ∃ (a : Acc) (i : Nat) (s : State), (i < 256) ∧ (s.writeAllowed a (K.taskRoute i) = 0) ∧ (s.routeCheck a (routeChanged (s.rd (K.taskRoute i)) (accVal a (K.taskRoute i))) = 0) ∧ (s.writeFits a (K.taskRoute i) = 0) ∧ (routeValueOk (accVal a (K.taskRoute i)) = true) :=
  ⟨(acc 0x00FF0003 : Acc), 67, idle, by decide +kernel⟩

def W190 : State := { S [] with own := [(0x4700 + 255, 0x81)] }

theorem wit_EventFabricCommands_4 : ∃ (a : Acc) (i : Nat) (st : Nat) (s : State), (i < 256) ∧ (s.writeAllowed a (K.taskRoute i) = 0) ∧ (s.routeCheck a (routeChanged (s.rd (K.taskRoute i)) (accVal a (K.taskRoute i))) = st) ∧ (st ≠ 0) :=
  ⟨(acc 0x00FF0003 : Acc), 67, 5, W190, by decide +kernel⟩

theorem wit_EventFabricCommands_5 : ∃ (a : Acc) (i : Nat) (s : State), (i < 256) ∧ (s.writeAllowed a (K.taskRoute i) = 0) ∧ (s.routeCheck a (routeChanged (s.rd (K.taskRoute i)) (accVal a (K.taskRoute i))) = 0) ∧ (s.writeFits a (K.taskRoute i) = 0) ∧ (routeValueOk (accVal a (K.taskRoute i)) = false) :=
  ⟨(acc 0x01000003 : Acc), 67, idle, by decide +kernel⟩

theorem wit_EventFabricCommands_6 : ∃ (a : Acc) (i : Nat) (s : State), (s.writeStatus a (K.taskCoincide i) = 0) ∧ (i < 256) :=
  ⟨(acc 1 : Acc), 67, idle, by decide +kernel⟩

def W191 : State := S [(K.maskMask 0, 0), (K.pendPending 0, 512), (K.srcConfig 9, 16)]

theorem wit_InterruptCommands_0 : ∃ (a : Acc) (g : Nat) (src : Nat) (s : State), (g < 5) ∧ (s.readStatus a (K.tgtClaim g) = 0) ∧ (a.path = (if g = 4 then 0 else g + 1)) ∧ (s.claimable g = some src) ∧ (src < 512) ∧ (s.dev ≠ stFault) ∧ (s.dev ≠ stFenced) :=
  ⟨(acc 1 : Acc), 4, 9, W191, by decide +kernel⟩

theorem wit_InterruptCommands_1 : ∃ (a : Acc) (g : Nat) (s : State), (g < 4) ∧ (s.readStatus a (K.tgtClaim g) = 0) ∧ (a.path = g + 1) ∧ (s.claimable g = none) :=
  ⟨(acc 0 4 : Acc), 3, idle, by decide +kernel⟩

theorem wit_InterruptCommands_2 : ∃ (a : Acc) (g : Nat) (s : State), (g < 5) ∧ (s.readStatus a (K.tgtClaim g) = 0) ∧ (a.path ≠ (if g = 4 then 0 else g + 1)) :=
  ⟨(acc 0 2 : Acc), 3, idle, by decide +kernel⟩

theorem wit_InterruptCommands_3 : ∃ (a : Acc) (g : Nat) (s : State), (s.writeStatus a (K.tgtComplete g) = 0) ∧ (g < 5) ∧ (s.irqIdle g = false) ∧ (accVal a (K.tgtComplete g) = s.rd (K.tgtHolding g)) ∧ (s.rd (K.tgtHolding g) < 512) :=
  ⟨(acc 9 4 : Acc), 3, (S [(K.tgtHolding 3, 9)] : State), by decide +kernel⟩

theorem wit_InterruptCommands_4 : ∃ (a : Acc) (g : Nat) (s : State), (g < 5) ∧ (s.writeStatus a (K.tgtComplete g) = 0) ∧ (s.irqIdle g = true ∨ accVal a (K.tgtComplete g) ≠ s.rd (K.tgtHolding g)) :=
  ⟨(acc 9 4 : Acc), 3, (S [(K.tgtHolding 3, 8)] : State), by decide +kernel⟩

theorem wit_InterruptCommands_5 : ∃ (a : Acc) (w : Nat) (s : State), (s.writeStatus a (K.maskMaskSet w) = 0) ∧ (w < 8) :=
  ⟨(acc 5 : Acc), 7, idle, by decide +kernel⟩

theorem wit_InterruptCommands_6 : ∃ (a : Acc) (w : Nat) (s : State), (s.writeStatus a (K.maskMaskClear w) = 0) ∧ (w < 8) :=
  ⟨(acc 5 : Acc), 7, idle, by decide +kernel⟩

theorem wit_InterruptCommands_7 : ∃ (a : Acc) (w : Nat) (s : State), (s.writeStatus a (K.pendPendingSet w) = 0) ∧ (w < 8) :=
  ⟨(acc 5 : Acc), 7, idle, by decide +kernel⟩

theorem wit_InterruptCommands_8 : ∃ (a : Acc) (w : Nat) (s : State), (s.writeStatus a (K.pendPendingClear w) = 0) ∧ (w < 8) :=
  ⟨(acc 5 : Acc), 7, idle, by decide +kernel⟩

theorem wit_InterruptCommands_9 : ∃ (a : Acc) (s : State), (s.readStatus a K.msyncMaskSync = 0) ∧ (s.masksSettled = true) :=
  ⟨(acc 1 : Acc), idle, by decide +kernel⟩

def W192 : State := { S [] with now := 9, maskSetAt := 9 }

theorem wit_InterruptCommands_10 : ∃ (a : Acc) (s : State), (s.readStatus a K.msyncMaskSync = 0) ∧ (s.masksSettled = false) :=
  ⟨(acc 1 : Acc), W192, by decide +kernel⟩

def W193 : State := { S [] with holdEnds := [(31, 7)] }

theorem wit_InterruptCommands_11 : ∃ (g : Nat) (u : Nat) (s : State), (g < 32) ∧ (tfind s.holdEnds g = some u) :=
  ⟨31, 7, W193, by decide +kernel⟩

def W194 : State := { S [(K.laneLaneState 7, 1), (K.spsTrainState 1, 1)] with skl := { seq := 0 } }

theorem wit_LaneCommands_0 : ∃ (l : Nat) (s : State), (l < 8) ∧ (s.skLaneState l = 1) ∧ (s.skTrain (l / 4) = 1) :=
  ⟨7, W194, by decide +kernel⟩

def W195 : State := { S [(K.laneLaneState 7, 1), (K.spsLinkState 1, 3)] with skl := { lanes := [(7, { rejoin := true })] } }

theorem wit_LaneCommands_1 : ∃ (l : Nat) (s : State), (l < 8) ∧ (s.skLaneState l = 1) ∧ (s.skTrain (l / 4) ≠ 1) ∧ ((s.skLane l).rejoin = true) :=
  ⟨7, W195, by decide +kernel⟩

def W196 : State := { S [(K.laneLaneState 7, 2), (K.spsLinkState 1, 3), (K.spsRxLanes 1, 15)] with skl := { seq := 0 } }

theorem wit_LaneCommands_2 : ∃ (l : Nat) (s : State), (l < 8) ∧ (s.skLaneState l = 2) ∧ (s.skUp (l / 4) = true) ∧ (bitOf (s.rd (K.spsRxLanes (l / 4))) (l % 4) = true) ∧ (s.rd (K.spsRxState (l / 4)) ≠ 2) ∧ (clearBits (s.rd (K.spsRxLanes (l / 4))) (2 ^ (l % 4)) ≠ 0) :=
  ⟨7, W196, by decide +kernel⟩

def W197 : State := { S [(K.laneLaneState 7, 2), (K.spsTrainState 1, 1), (K.spsLinkState 1, 2)] with skl := { seq := 0 } }

theorem wit_LaneCommands_3 : ∃ (l : Nat) (s : State), (l < 8) ∧ (s.skLaneState l = 2) ∧ (s.skUp (l / 4) = false) ∧ (s.skTrain (l / 4) = 1) :=
  ⟨7, W197, by decide +kernel⟩

def W198 : State := { S [(K.spsLinkState 1, 3), (K.spsRxLanes 1, 15), (K.spRetryCount 1, 3), (K.spRetryWindow 1, 1000)] with skl := { seq := 0 } }

theorem wit_LaneCommands_4 : ∃ (l : Nat) (n : Nat) (s : State), (l < 8) ∧ (s.skUp (l / 4) = true) ∧ (bitOf (s.rd (K.spsRxLanes (l / 4))) (l % 4) = true) ∧ (4 ≤ n) ∧ ((s.faultsIn (calUnit (calLane l)) (s.rd (K.spRetryWindow (l / 4)))).length + 1 ≤ s.rd (K.spRetryCount (l / 4))) :=
  ⟨7, 4, W198, by decide +kernel⟩

def W199 : State := { S [(K.spsLinkState 1, 3), (K.spsRxLanes 1, 15), (K.spRetryCount 1, 0), (K.spRetryWindow 1, 1000)] with skl := { seq := 0 } }

theorem wit_LaneCommands_5 : ∃ (l : Nat) (n : Nat) (s : State), (l < 8) ∧ (s.skUp (l / 4) = true) ∧ (bitOf (s.rd (K.spsRxLanes (l / 4))) (l % 4) = true) ∧ (4 ≤ n) ∧ (s.rd (K.spRetryCount (l / 4)) = 0) ∧ (s.rd (K.spRetryWindow (l / 4)) ≠ 0) ∧ (clearBits (s.rd (K.spsRxLanes (l / 4))) (2 ^ (l % 4)) ≠ 0) :=
  ⟨7, 4, W199, by decide +kernel⟩

def W200 : State := { S [(K.spsLinkState 1, 3), (K.spsRxLanes 1, 15), (K.spsTxLanes 1, 15)] with skl := { seq := 0 } }

theorem wit_LaneCommands_6 : ∃ (p : Nat) (s : State), (p < 2) ∧ (s.skUp p = true) :=
  ⟨1, W200, by decide +kernel⟩

def W201 : State := { S [(K.spsLinkState 1, 3), (K.spsRxLanes 1, 15), (K.spsTxLanes 1, 15)] with skl := { ports := [(1, { wanted := some 7 })] } }

theorem wit_LaneCommands_7 : ∃ (p : Nat) (s : State), (p < 2) ∧ (s.skUp p = true) :=
  ⟨1, W201, by decide +kernel⟩

theorem wit_LaneCommands_8 : ∃ (a : Acc) (p : Nat) (s : State), (s.writeStatus a (K.spsLaneReadmit p) = 0) ∧ (p < 2) :=
  ⟨(acc 8 : Acc), 1, idle, by decide +kernel⟩

def W202 : State := { S [(K.spsLinkState 1, 3), (K.spPortEnable 1, 1)] with skl := { seq := 0 } }

theorem wit_TrainingCommands_0 : ∃ (a : Acc) (p : Nat) (s : State), (s.writeStatus a (K.spsRetrain p) = 0) ∧ (p < 2) ∧ (accVal a (K.spsRetrain p) = 1) ∧ (s.on (K.spPortEnable p) = true) :=
  ⟨(acc 1 : Acc), 1, W202, by decide +kernel⟩

def W203 : State := { S [(K.spsLinkState 1, 2), (K.spsTrainState 1, 1)] with skl := { ports := [(1, { firstLock := some 7, lanes := 15 })] } }

theorem wit_TrainingCommands_1 : ∃ (p : Nat) (u : Nat) (s : State), (p < 2) ∧ ((s.skPort p).firstLock = some u) ∧ (s.skTrain p = 1) :=
  ⟨1, 7, W203, by decide +kernel⟩

def W204 : State := { S [(K.spsLinkState 1, 2), (K.spsTrainState 1, 2), (K.spsSpeed 1, 0), (K.spMaxSpeed 1, 2)] with skl := { ports := [(1, { lanes := 15 })] } }

theorem wit_TrainingCommands_2 : ∃ (p : Nat) (v : Nat) (c : SklCap) (s : State), (p < 2) ∧ (s.skTrain p = 2) ∧ ((s.skPort p).lanes &&& c.lanes ≠ 0) ∧ (s.nextSpeed p c.speeds = some v) :=
  ⟨1, 1, ({ speeds := 7, lanes := 3, node := 9 } : SklCap), W204, by decide +kernel⟩

def W205 : State := { S [(K.spsLinkState 1, 2), (K.spsTrainState 1, 2), (K.spsSpeed 1, 2), (K.spMaxSpeed 1, 2)] with skl := { ports := [(1, { lanes := 15 })] } }

theorem wit_TrainingCommands_3 : ∃ (p : Nat) (c : SklCap) (s : State), (p < 2) ∧ (s.skTrain p = 2) ∧ ((s.skPort p).lanes &&& c.lanes ≠ 0) ∧ (s.nextSpeed p c.speeds = none) :=
  ⟨1, ({ speeds := 7, lanes := 3, node := 9 } : SklCap), W205, by decide +kernel⟩

def W206 : State := { S [(K.spsLinkState 1, 2), (K.spsTrainState 1, 2)] with skl := { ports := [(1, { lanes := 15 })] } }

theorem wit_TrainingCommands_4 : ∃ (p : Nat) (c : SklCap) (s : State), (p < 2) ∧ (s.skTrain p = 2) ∧ ((s.skPort p).lanes &&& c.lanes = 0) :=
  ⟨1, ({ speeds := 7, lanes := 16, node := 9 } : SklCap), W206, by decide +kernel⟩

def W207 : State := { S [(K.spsLinkState 1, 2), (K.spsTrainState 1, 3)] with skl := { ports := [(1, { lanes := 15, next := 2 })] } }

theorem wit_TrainingCommands_5 : ∃ (p : Nat) (s : State), (p < 2) ∧ (s.skTrain p = 3) :=
  ⟨1, W207, by decide +kernel⟩

def W208 : State := { S [(K.spsLinkState 1, 2), (K.spsTrainState 1, 3)] with skl := { ports := [(1, { lanes := 15, next := 2, prev := 1 })] } }

theorem wit_TrainingCommands_6 : ∃ (p : Nat) (s : State), (p < 2) ∧ (s.skTrain p = 3) :=
  ⟨1, W208, by decide +kernel⟩

def W209 : State := { S [(K.spsLinkState 1, 2), (K.spsTrainState 1, 4)] with skl := { ports := [(1, { lanes := 15 })] } }

theorem wit_TrainingCommands_7 : ∃ (l : Nat) (b : TrainBlock) (s : State), (l < 8) ∧ (s.skTrain (l / 4) = 4) ∧ (bitOf (s.skPort (l / 4)).lanes (l % 4) = true) ∧ (b.eye = none) ∧ (b.ready = false) ∧ (b.request % 128 = 0) :=
  ⟨7, ({ request := 0, answer := 5, ready := false, own := 0, eye := none } : TrainBlock), W209, by decide +kernel⟩

theorem wit_TrainingCommands_8 : ∃ (l : Nat) (eye : Nat) (b : TrainBlock) (s : State), (l < 8) ∧ (s.skTrain (l / 4) = 4) ∧ (bitOf (s.skPort (l / 4)).lanes (l % 4) = true) ∧ (b.eye = some eye) ∧ (12 ≤ eye) ∧ ((s.skLane l).ready = false) :=
  ⟨7, 12, ({ request := 0, answer := 5, ready := false, own := 0, eye := some 12 } : TrainBlock), W209, by decide +kernel⟩

def W210 : State := { S [(K.spsLinkState 1, 2), (K.spsTrainState 1, 4)] with skl := { ports := [(1, { lanes := 15 })], lanes := [(7, { asked := some 6 })] } }

theorem wit_TrainingCommands_9 : ∃ (l : Nat) (u : Nat) (p : Nat) (s : State), (l < 8) ∧ (p = l / 4) ∧ ((s.skLane l).asked = some u) ∧ (s.skTrain p = 4) :=
  ⟨7, 6, 1, W210, by decide +kernel⟩

theorem wit_TrainingCommands_10 : ∃ (l : Nat) (p : Nat) (s : State), (l < 8) ∧ (p = l / 4) ∧ (s.skTrain p = 4) ∧ (bitOf (s.skPort p).lanes (l % 4) = true) ∧ ((s.skLane l).ready = false) :=
  ⟨7, 1, W209, by decide +kernel⟩

def W211 : State := { S [(K.spsLinkState 1, 2), (K.spsTrainState 1, 5)] with skl := { ports := [(1, { lanes := 15 })] } }

theorem wit_TrainingCommands_11 : ∃ (p : Nat) (errors : List Nat) (s : State), (p < 2) ∧ (s.skTrain p = 5) ∧ (errors.all (· == 0) = true) :=
  ⟨1, ([0, 0] : List Nat), W211, by decide +kernel⟩

theorem wit_TrainingCommands_12 : ∃ (p : Nat) (errors : List Nat) (s : State), (p < 2) ∧ (s.skTrain p = 5) ∧ (errors.all (· == 0) = false) :=
  ⟨1, ([0, 1] : List Nat), W211, by decide +kernel⟩

def W212 : State := { S [(K.spsLinkState 1, 2), (K.spsTrainState 1, 6)] with skl := { ports := [(1, { lanes := 15 })] } }

theorem wit_TrainingCommands_13 : ∃ (p : Nat) (skews : List Nat) (s : State), (p < 2) ∧ (s.skTrain p = 6) ∧ (skews.any (Nat.blt 64) = false) :=
  ⟨1, ([64, 3] : List Nat), W212, by decide +kernel⟩

theorem wit_TrainingCommands_14 : ∃ (p : Nat) (skews : List Nat) (failed : Bool) (s : State), (p < 2) ∧ (s.skTrain p = 6) ∧ (failed = true ∨ skews.any (Nat.blt 64) = true) :=
  ⟨1, ([65, 3] : List Nat), false, W212, by decide +kernel⟩

def W213 : State := { S [(K.spsLinkState 1, 3), (K.spSleepEnable 1, 1)] with skl := { seq := 0 } }

theorem wit_LinkSleepCommands_0 : ∃ (p : Nat) (s : State), (p < 2) ∧ (s.skUp p = true) ∧ (s.on (K.spSleepEnable p) = true) ∧ (s.rd (K.spsTxState p) ≠ 2) ∧ ((s.skPort p).idle = true) :=
  ⟨1, W213, by decide +kernel⟩

def W214 : State := { { S [(K.spsLinkState 1, 3), (K.spSleepEnable 1, 1)] with skl := { ports := [(1, { queues := [(2, [{ cls := 2, source := 1, dest := 9, epoch := 0, role := 0, payload := [3] }])], readyAt := 2000000 })] } } with now := 2000000 }

theorem wit_LinkSleepCommands_1 : ∃ (p : Nat) (s : State), (p < 2) ∧ (s.skUp p = true) ∧ (s.on (K.spSleepEnable p) = true) ∧ (s.rd (K.spsTxState p) ≠ 2) ∧ ((s.skPort p).idle = false) ∧ ((s.skPort p).readyAt = max ((s.skPort p).idleAt + us (s.rd (K.spSleepIdle p))) s.now) :=
  ⟨1, W214, by decide +kernel⟩

def W215 : State := { S [(K.spsLinkState 1, 3)] with skl := { seq := 0 } }

theorem wit_LinkSleepCommands_2 : ∃ (p : Nat) (s : State), (p < 2) ∧ (s.skUp p = true) :=
  ⟨1, W215, by decide +kernel⟩

def W216 : State := { S [(K.spsLinkState 1, 3), (K.spsTxState 1, 2)] with skl := { ports := [(1, { queues := [(2, [{ cls := 2, source := 1, dest := 9, epoch := 0, role := 0, payload := [3] }])] })] } }

theorem wit_LinkSleepCommands_3 : ∃ (p : Nat) (s : State), (p < 2) ∧ (s.skUp p = true) ∧ (s.rd (K.spsTxState p) = 2) ∧ ((s.skPort p).idle = false) :=
  ⟨1, W216, by decide +kernel⟩

def W217 : State := { S [(K.spsLinkState 1, 3)] with skl := { ports := [(1, { queues := [(2, [{ cls := 2, source := 1, dest := 9, epoch := 0, role := 0, payload := [3] }])] })] } }

theorem wit_MessageTransmitCommands_0 : ∃ (p : Nat) (c : Nat) (m : SkMsg) (s : State), (p < 2) ∧ (s.skUp p = true) ∧ (s.rd (K.spsTxState p) ≠ 2) ∧ (classOrder.findSome? (fun c => ((s.skPort p).queue c).head?.map fun m => (c, m)) = some (c, m)) :=
  ⟨1, 2, ({ cls := 2, source := 1, dest := 9, epoch := 0, role := 0, payload := [3] } : SkMsg), W217, by decide +kernel⟩

def W218 : State := { { S [(K.spsLinkState 1, 3), (K.srtSendRoute 31, 0xC0000005)] with skl := { seq := 0 } } with tasks := [{ task := 63, lineage := 0, stamp := 5 }] }

def W219 : State := { W218 with tasks := [] }

theorem wit_MessageTransmitCommands_1 : ∃ (k : Nat) (d : Delivery) (u : State) (s : State), (k < 32) ∧ (s.takeTask (32 + k) = some (d, u)) ∧ (bitOf (s.rd (K.srtSendRoute k)) 30 = true) ∧ (bitOf (s.rd (K.srtSendRoute k)) 31 = true) ∧ (s.dev ≠ stFenced) :=
  ⟨31, ({ task := 63, lineage := 0, stamp := 5 } : Delivery), W219, W218, (by decide +kernel), rfl, (by decide +kernel), (by decide +kernel), (by decide +kernel)⟩

def W220 : State := { { S [(K.spsLinkState 1, 3), (K.srtSendRoute 31, 0x40090005)] with skl := { routes := [(9, { port := 1, hops := 1, heard := 2 })] } } with tasks := [{ task := 63, lineage := 0, stamp := 5 }] }

def W221 : State := { W220 with tasks := [] }

theorem wit_MessageTransmitCommands_2 : ∃ (k : Nat) (d : Delivery) (u : State) (r : Route) (s : State), (k < 32) ∧ (s.takeTask (32 + k) = some (d, u)) ∧ (bitOf (s.rd (K.srtSendRoute k)) 30 = true) ∧ (bitOf (s.rd (K.srtSendRoute k)) 31 = false) ∧ (s.dev ≠ stFenced) ∧ (s.route (field (s.rd (K.srtSendRoute k)) 27 16) = some r) ∧ (((s.skPort r.port).queue 2).length < classDepth 2) :=
  ⟨31, ({ task := 63, lineage := 0, stamp := 5 } : Delivery), W221, ({ port := 1, hops := 1, heard := 2 } : Route), W220, (by decide +kernel), rfl, (by decide +kernel), (by decide +kernel), (by decide +kernel), (by decide +kernel), (by decide +kernel)⟩

def W222 : State := { { S [(K.spsLinkState 1, 3), (K.srtSendRoute 31, 0x40090005)] with skl := { seq := 0 } } with tasks := [{ task := 63, lineage := 0, stamp := 5 }] }

def W223 : State := { W222 with tasks := [] }

theorem wit_MessageTransmitCommands_3 : ∃ (k : Nat) (d : Delivery) (u : State) (s : State), (k < 32) ∧ (s.takeTask (32 + k) = some (d, u)) ∧ (bitOf (s.rd (K.srtSendRoute k)) 30 = true) ∧ (bitOf (s.rd (K.srtSendRoute k)) 31 = false) ∧ (s.dev ≠ stFenced) ∧ (s.route (field (s.rd (K.srtSendRoute k)) 27 16) = none) :=
  ⟨31, ({ task := 63, lineage := 0, stamp := 5 } : Delivery), W223, W222, (by decide +kernel), rfl, (by decide +kernel), (by decide +kernel), (by decide +kernel), (by decide +kernel)⟩

theorem wit_MessageTransmitCommands_4 : ∃ (s : State), (s.dev ≠ stReset) ∧ (s.dev ≠ stBoot) :=
  ⟨W215, by decide +kernel⟩

def W224 : State := { S [] with skl := { routes := [(9, { port := 1, hops := 1, heard := 2 })] } }

theorem wit_MessageTransmitCommands_5 : ∃ (node : Nat) (r : Route) (s : State), (s.route node = some r) :=
  ⟨9, ({ port := 1, hops := 1, heard := 2 } : Route), W224, by decide +kernel⟩

def W225 : State := { S [] with skl := { last := [(9, (3, 4))] } }

theorem wit_MessageTransmitCommands_6 : ∃ (i : Nat) (e : Nat × Nat) (s : State), (tfind s.skl.last i = some e) :=
  ⟨9, ((3, 4) : Nat × Nat), W225, by decide +kernel⟩

def W226 : State := { S [] with skl := { waits := [{ port := 1, msg := { cls := 5, source := 1, dest := 9, epoch := 0, role := 0, payload := [3] }, since := 6 }] } }

theorem wit_MessageTransmitCommands_7 : ∃ (w : SklWait) (s : State), (s.skl.waits.find? (fun w => w.msg.cls == 5) = some w) :=
  ⟨({ port := 1, msg := { cls := 5, source := 1, dest := 9, epoch := 0, role := 0, payload := [3] }, since := 6 } : SklWait), W226, by decide +kernel⟩

theorem wit_MessageReceiveCommand_0 : ∃ (p : Nat) (m : Msg) (s : State), (p < 2) ∧ (s.skUp p = true) ∧ ((s.skPort p).deaf = false) ∧ (goodMsg m = false) :=
  ⟨1, ({ msgOf 2 [1, 2, 3] with crcOk := false } : Msg), W215, by decide +kernel⟩

def W227 : State := ({ S [(K.spsLinkState 1, 3), (K.sklNodeId, 9)] with skl := { seq := 0 } }).domWrite K.sklEpochTable 20 [4]

theorem wit_MessageReceiveCommand_1 : ∃ (p : Nat) (m : Msg) (s : State), (p < 2) ∧ (s.skUp p = true) ∧ ((s.skPort p).deaf = false) ∧ (goodMsg m = true) ∧ (m.role < 4096) ∧ (m.epoch < s.epochOf m.role) :=
  ⟨1, ({ msgOf 2 [1, 2, 3] with role := 5, epoch := 3 } : Msg), W227, by decide +kernel⟩

def W228 : State := { S [(K.spsLinkState 1, 3), (K.sklNodeId, 9)] with skl := { seq := 0 } }

theorem wit_MessageReceiveCommand_2 : ∃ (p : Nat) (m : Msg) (s : State), (p < 2) ∧ (s.skUp p = true) ∧ ((s.skPort p).deaf = false) ∧ (goodMsg m = true) ∧ (m.role = 0xFFFF) ∧ (m.cls ≠ 3) ∧ (bitOf m.flags 0 = false) ∧ (m.dest = s.rd K.sklNodeId) ∧ (s.dev ≠ stFenced ∨ m.cls = 4) :=
  ⟨1, ({ msgOf 2 [1, 2, 3] with role := 0xFFFF, dest := 9 } : Msg), W228, by decide +kernel⟩

theorem wit_MessageReceiveCommand_3 : ∃ (p : Nat) (m : Msg) (s : State), (p < 2) ∧ (s.skUp p = true) ∧ ((s.skPort p).deaf = false) ∧ (goodMsg m = true) ∧ (m.role = 0xFFFF) ∧ (m.cls = 3) ∧ (s.dev ≠ stFenced) :=
  ⟨1, ({ msgOf 3 [1, 2, 3] with role := 0xFFFF, dest := 9 } : Msg), W228, by decide +kernel⟩

def W229 : State := { S [(K.spsLinkState 1, 3), (K.sklNodeId, 9), (K.spsLinkState 0, 3), (K.sklHopLimit, 4)] with skl := { routes := [(8, { port := 0, hops := 1, heard := 2 })] } }

theorem wit_MessageReceiveCommand_4 : ∃ (p : Nat) (m : Msg) (r : Route) (s : State), (p < 2) ∧ (s.skUp p = true) ∧ ((s.skPort p).deaf = false) ∧ (goodMsg m = true) ∧ (m.role = 0xFFFF) ∧ (m.cls ≠ 3) ∧ (bitOf m.flags 0 = false) ∧ (m.dest ≠ s.rd K.sklNodeId) ∧ (s.route m.dest = some r) ∧ (r.port ≠ p) ∧ (m.hops < s.rd K.sklHopLimit) ∧ (s.skUp r.port = true) ∧ (((s.skPort r.port).queue m.cls).length < classDepth m.cls) ∧ (m.cls ≠ 1) :=
  ⟨1, ({ msgOf 2 [1, 2, 3] with role := 0xFFFF, dest := 8, hops := 1 } : Msg), ({ port := 0, hops := 1, heard := 2 } : Route), W229, by decide +kernel⟩

theorem wit_MessageReceiveCommand_5 : ∃ (p : Nat) (m : Msg) (s : State), (p < 2) ∧ (s.skUp p = true) ∧ ((s.skPort p).deaf = false) ∧ (goodMsg m = true) ∧ (m.role = 0xFFFF) ∧ (m.cls ≠ 3) ∧ (bitOf m.flags 0 = false) ∧ (m.dest ≠ s.rd K.sklNodeId) ∧ (s.route m.dest = none) :=
  ⟨1, ({ msgOf 2 [1, 2, 3] with role := 0xFFFF, dest := 8, hops := 1 } : Msg), W228, by decide +kernel⟩

theorem wit_MessageReceiveCommand_6 : ∃ (p : Nat) (m : Msg) (s : State), (p < 2) ∧ (s.skUp p = true) ∧ ((s.skPort p).deaf = false) ∧ (goodMsg m = true) ∧ (m.role = 0xFFFF) ∧ (m.cls ≠ 3) ∧ (bitOf m.flags 0 = true) ∧ (m.source ≠ s.rd K.sklNodeId) ∧ (tfind s.skl.last m.source = none) ∧ (s.dev ≠ stFenced) :=
  ⟨1, ({ msgOf 2 [1, 2, 3] with role := 0xFFFF, dest := 8, flags := 1 } : Msg), W228, by decide +kernel⟩

def W230 : State := inb (msgOf 2 (pl [31])) (S [])

def W231 : State := ((W230.takeMsg (msgOf 2 (pl [31]) : Msg)).getD (0, 0, W230)).2.2

theorem wit_MessageDeliveryCommands_0 : ∃ (m : Msg) (q : Nat) (stamp : Nat) (u : State) (s : State), (s.takeMsg m = some (q, stamp, u)) ∧ (m.cls = 2) ∧ (nth m.payload 0 < 32) :=
  ⟨(msgOf 2 (pl [31]) : Msg), (((W230.takeMsg (msgOf 2 (pl [31]) : Msg)).getD (0, 0, W230)).1 : Nat), (((W230.takeMsg (msgOf 2 (pl [31]) : Msg)).getD (0, 0, W230)).2.1 : Nat), W231, W230, rfl, (by decide +kernel), (by decide +kernel)⟩

def W232 : State := inb (msgOf 3 (pl [1, 0, 0, 0, 7])) (S [(K.spsLinkState 0, 3), (K.syncSyncSource, 2)])

def W233 : State := ((W232.takeMsg (msgOf 3 (pl [1, 0, 0, 0, 7]) : Msg)).getD (0, 0, W232)).2.2

theorem wit_MessageDeliveryCommands_1 : ∃ (p : Nat) (m : Msg) (q : Nat) (stamp : Nat) (u : State) (s : State), (p < 2) ∧ (s.takeMsg m = some (q, stamp, u)) ∧ (q = p) ∧ (m.cls = 3) ∧ (timeKind m.payload = 1) ∧ (s.rd K.syncSyncSource = p + 2) ∧ (s.skUp p = true) ∧ (((s.skPort p).queue 3).length < classDepth 3) :=
  ⟨0, (msgOf 3 (pl [1, 0, 0, 0, 7]) : Msg), (((W232.takeMsg (msgOf 3 (pl [1, 0, 0, 0, 7]) : Msg)).getD (0, 0, W232)).1 : Nat), (((W232.takeMsg (msgOf 3 (pl [1, 0, 0, 0, 7]) : Msg)).getD (0, 0, W232)).2.1 : Nat), W233, W232, (by decide +kernel), rfl, (by decide +kernel), (by decide +kernel), (by decide +kernel), (by decide +kernel), (by decide +kernel), (by decide +kernel)⟩

def W234 : State := inb (msgOf 3 (pl [2, 0, 0, 0, 7])) (S [(K.spsLinkState 0, 3)])

def W235 : State := ((W234.takeMsg (msgOf 3 (pl [2, 0, 0, 0, 7]) : Msg)).getD (0, 0, W234)).2.2

theorem wit_MessageDeliveryCommands_2 : ∃ (p : Nat) (m : Msg) (q : Nat) (stamp : Nat) (u : State) (s : State), (p < 2) ∧ (s.takeMsg m = some (q, stamp, u)) ∧ (q = p) ∧ (m.cls = 3) ∧ (timeKind m.payload = 2) ∧ (s.originates = true) ∧ (s.skUp p = true) ∧ (((s.skPort p).queue 3).length < classDepth 3) :=
  ⟨0, (msgOf 3 (pl [2, 0, 0, 0, 7]) : Msg), (((W234.takeMsg (msgOf 3 (pl [2, 0, 0, 0, 7]) : Msg)).getD (0, 0, W234)).1 : Nat), (((W234.takeMsg (msgOf 3 (pl [2, 0, 0, 0, 7]) : Msg)).getD (0, 0, W234)).2.1 : Nat), W235, W234, (by decide +kernel), rfl, (by decide +kernel), (by decide +kernel), (by decide +kernel), (by decide +kernel), (by decide +kernel), (by decide +kernel)⟩

def W236 : State := inb (msgOf 3 (pl [3, 0, 0, 0, 7])) ({ S [(K.spsLinkState 0, 3), (K.syncSyncSource, 2), (K.syncSyncPeriod, 1000)] with sync := { exch := some { id := 7, t1 := 5, t2 := 6, t3 := some 9, since := 0 } } })

def W237 : State := ((W236.takeMsg (msgOf 3 (pl [3, 0, 0, 0, 7]) : Msg)).getD (0, 0, W236)).2.2

theorem wit_MessageDeliveryCommands_3 : ∃ (p : Nat) (t3 : Int) (x : Exchange) (m : Msg) (q : Nat) (stamp : Nat) (u : State) (s : State), (p < 2) ∧ (s.takeMsg m = some (q, stamp, u)) ∧ (q = p) ∧ (m.cls = 3) ∧ (timeKind m.payload = 3) ∧ (s.rd K.syncSyncSource = p + 2) ∧ (s.sync.exch = some x) ∧ (x.t3 = some t3) ∧ (timeId m.payload = x.id) ∧ (s.now ≤ x.since + us (s.rd K.syncSyncPeriod) / 2) :=
  ⟨0, 9, ({ id := 7, t1 := 5, t2 := 6, t3 := some 9, since := 0 } : Exchange), (msgOf 3 (pl [3, 0, 0, 0, 7]) : Msg), (((W236.takeMsg (msgOf 3 (pl [3, 0, 0, 0, 7]) : Msg)).getD (0, 0, W236)).1 : Nat), (((W236.takeMsg (msgOf 3 (pl [3, 0, 0, 0, 7]) : Msg)).getD (0, 0, W236)).2.1 : Nat), W237, W236, (by decide +kernel), rfl, (by decide +kernel), (by decide +kernel), (by decide +kernel), (by decide +kernel), (by decide +kernel), (by decide +kernel), (by decide +kernel), (by decide +kernel)⟩

def W238 : State := inb (msgOf 5 (pl [1])) (S [(K.umbBoundaryRight, 1)])

def W239 : State := ((W238.takeMsg (msgOf 5 (pl [1]) : Msg)).getD (0, 0, W238)).2.2

theorem wit_MessageDeliveryCommands_4 : ∃ (m : Msg) (q : Nat) (stamp : Nat) (u : State) (s : State), (s.takeMsg m = some (q, stamp, u)) ∧ (m.cls = 5) ∧ (nth m.payload 0 = 1) ∧ (s.on K.umbBoundaryRight = true) ∧ (s.umb.frags.length < 256) :=
  ⟨(msgOf 5 (pl [1]) : Msg), (((W238.takeMsg (msgOf 5 (pl [1]) : Msg)).getD (0, 0, W238)).1 : Nat), (((W238.takeMsg (msgOf 5 (pl [1]) : Msg)).getD (0, 0, W238)).2.1 : Nat), W239, W238, rfl, (by decide +kernel), (by decide +kernel), (by decide +kernel), (by decide +kernel)⟩

def W240 : State := inb (msgOf 5 (pl [1])) ({ S [(K.umbBoundaryRight, 1)] with umb := { frags := List.replicate 256 { group := 3, num := none, node := 0, tag := tag0, cuts := [(255, true)], x0 := 0, x1 := 1, endAt := some 6 } } })

def W241 : State := ((W240.takeMsg (msgOf 5 (pl [1]) : Msg)).getD (0, 0, W240)).2.2

theorem wit_MessageDeliveryCommands_5 : ∃ (m : Msg) (q : Nat) (stamp : Nat) (u : State) (s : State), (s.takeMsg m = some (q, stamp, u)) ∧ (m.cls = 5) ∧ (nth m.payload 0 = 1) ∧ (s.on K.umbBoundaryRight = true) ∧ (256 ≤ s.umb.frags.length) :=
  ⟨(msgOf 5 (pl [1]) : Msg), (((W240.takeMsg (msgOf 5 (pl [1]) : Msg)).getD (0, 0, W240)).1 : Nat), (((W240.takeMsg (msgOf 5 (pl [1]) : Msg)).getD (0, 0, W240)).2.1 : Nat), W241, W240, rfl, (by decide +kernel), (by decide +kernel), (by decide +kernel), (by decide +kernel)⟩

def wdMsg : Msg := msgOf 4 [7, 0, 0, 0, 0, 1, 0, 0, 1, 1, 0x00, 0x12, 0, 0, 0, 0]

def wdState : State := inb wdMsg idle

def wdTaken : State := ((wdState.takeMsg wdMsg).getD (0, 0, wdState)).2.2

def wdRecords : List DRec := (bodyRecords (nth wdMsg.payload 5) (wdMsg.payload.drop 8)).getD []

def wdRun : List Nat × State :=
  runRecords { path := 6, secure := bitOf (nth wdMsg.payload 4) 0 && wdTaken.peerAdmitted wdMsg.source } 2040 wdRecords wdTaken

theorem wit_MessageDeliveryCommands_6 : ∃ (rs : List DRec) (body : List Nat) (v : State) (m : Msg) (q : Nat) (stamp : Nat) (u : State) (s : State), (s.takeMsg m = some (q, stamp, u)) ∧ (m.cls = 4) ∧ (8 ≤ m.payload.length) ∧ (bitOf m.flags 1 = false) ∧ (bodyRecords (nth m.payload 5) (m.payload.drop 8) = some rs) ∧ (runRecords { path := 6, secure := bitOf (nth m.payload 4) 0 && u.peerAdmitted m.source } 2040 rs u = (body, v)) :=
  ⟨wdRecords, wdRun.1, wdRun.2, wdMsg, ((wdState.takeMsg wdMsg).getD (0, 0, wdState)).1, ((wdState.takeMsg wdMsg).getD (0, 0, wdState)).2.1, wdTaken, wdState, rfl, (by decide +kernel), (by decide +kernel), (by decide +kernel), (by decide +kernel), (Prod.eta wdRun).symm⟩

def W245 : State := inb (msgOf 4 ([7, 0, 0, 0, 0, 2, 0, 0] ++ [1, 1, 0x00, 0x12, 0, 0, 0, 0])) (S [(K.spsLinkState 0, 3)])

def W246 : State := ((W245.takeMsg (msgOf 4 ([7, 0, 0, 0, 0, 2, 0, 0] ++ [1, 1, 0x00, 0x12, 0, 0, 0, 0]) : Msg)).getD (0, 0, W245)).2.2

theorem wit_MessageDeliveryCommands_7 : ∃ (m : Msg) (q : Nat) (stamp : Nat) (u : State) (s : State), (s.takeMsg m = some (q, stamp, u)) ∧ (m.cls = 4) ∧ (8 ≤ m.payload.length) ∧ (bitOf m.flags 1 = false) ∧ (bodyRecords (nth m.payload 5) (m.payload.drop 8) = none) :=
  ⟨(msgOf 4 ([7, 0, 0, 0, 0, 2, 0, 0] ++ [1, 1, 0x00, 0x12, 0, 0, 0, 0]) : Msg), (((W245.takeMsg (msgOf 4 ([7, 0, 0, 0, 0, 2, 0, 0] ++ [1, 1, 0x00, 0x12, 0, 0, 0, 0]) : Msg)).getD (0, 0, W245)).1 : Nat), (((W245.takeMsg (msgOf 4 ([7, 0, 0, 0, 0, 2, 0, 0] ++ [1, 1, 0x00, 0x12, 0, 0, 0, 0]) : Msg)).getD (0, 0, W245)).2.1 : Nat), W246, W245, rfl, (by decide +kernel), (by decide +kernel), (by decide +kernel), (by decide +kernel)⟩

def W247 : State := { inb ({ msgOf 4 ([7, 0, 0, 0, 0, 2, 0, 0] ++ [1, 1, 0x00, 0x12, 0, 0, 0, 0]) with flags := 2 }) (S []) with skl := { inbox := [(0, innerMsg ({ msgOf 4 ([7, 0, 0, 0, 0, 2, 0, 0] ++ [1, 1, 0x00, 0x12, 0, 0, 0, 0]) with flags := 2 } : Msg), 50)], reqs := [{ id := 7, since := 4 }] } }

def W248 : State := ((W247.takeMsg ({ msgOf 4 ([7, 0, 0, 0, 0, 2, 0, 0] ++ [1, 1, 0x00, 0x12, 0, 0, 0, 0]) with flags := 2 } : Msg)).getD (0, 0, W247)).2.2

theorem wit_MessageDeliveryCommands_8 : ∃ (r : DictReq) (m : Msg) (q : Nat) (stamp : Nat) (u : State) (s : State), (s.takeMsg m = some (q, stamp, u)) ∧ (m.cls = 4) ∧ (8 ≤ m.payload.length) ∧ (bitOf m.flags 1 = true) ∧ (s.skl.reqs.find? (fun r => r.id == leAt m.payload 0 4) = some r) ∧ (r.udp = none) :=
  ⟨({ id := 7, since := 4 } : DictReq), ({ msgOf 4 ([7, 0, 0, 0, 0, 2, 0, 0] ++ [1, 1, 0x00, 0x12, 0, 0, 0, 0]) with flags := 2 } : Msg), (((W247.takeMsg ({ msgOf 4 ([7, 0, 0, 0, 0, 2, 0, 0] ++ [1, 1, 0x00, 0x12, 0, 0, 0, 0]) with flags := 2 } : Msg)).getD (0, 0, W247)).1 : Nat), (((W247.takeMsg ({ msgOf 4 ([7, 0, 0, 0, 0, 2, 0, 0] ++ [1, 1, 0x00, 0x12, 0, 0, 0, 0]) with flags := 2 } : Msg)).getD (0, 0, W247)).2.1 : Nat), W248, W247, rfl, (by decide +kernel), (by decide +kernel), (by decide +kernel), (by decide +kernel), (by decide +kernel)⟩

def W249 : State := { S [(K.spsLinkState 0, 3), (K.mbxDictTarget, 9)] with skl := { routes := [(9, { port := 0, hops := 1, heard := 2 })] } }

theorem wit_MessageDeliveryCommands_9 : ∃ (a : Acc) (r : Route) (s : State), (s.writeStatus a K.mbxDictGo = 0) ∧ (accVal a K.mbxDictGo = 1) ∧ (s.rd K.mbxDictStatus ≠ 1) ∧ (s.route (s.rd K.mbxDictTarget) = some r) :=
  ⟨(acc 1 1 : Acc), ({ port := 0, hops := 1, heard := 2 } : Route), W249, by decide +kernel⟩

theorem wit_MessageDeliveryCommands_10 : ∃ (a : Acc) (s : State), (s.writeStatus a K.mbxDictGo = 0) ∧ (accVal a K.mbxDictGo = 1) ∧ (s.rd K.mbxDictStatus ≠ 1) ∧ (s.route (s.rd K.mbxDictTarget) = none) :=
  ⟨(acc 1 1 : Acc), (S [(K.mbxDictTarget, 9)] : State), by decide +kernel⟩

def W250 : State := { S [] with skl := { reqs := [{ id := 7, since := 4 }] } }

theorem wit_MessageDeliveryCommands_11 : ∃ (r : DictReq) (l : List DictReq) (s : State), (s.skl.reqs = r :: l) ∧ (r.udp = none) :=
  ⟨({ id := 7, since := 4 } : DictReq), [], W250, by decide +kernel⟩

def W251 : State := inb (msgOf 6 (pl [1, 4])) (S [(K.sklRole, 3)])

def W252 : State := ((W251.takeMsg (msgOf 6 (pl [1, 4]) : Msg)).getD (0, 0, W251)).2.2

theorem wit_LineCommands_0 : ∃ (p : Nat) (m : Msg) (q : Nat) (stamp : Nat) (u : State) (s : State), (p < 2) ∧ (s.takeMsg m = some (q, stamp, u)) ∧ (m.cls = 6) ∧ (nth m.payload 0 = 1) ∧ (s.lineMaster = false) :=
  ⟨0, (msgOf 6 (pl [1, 4]) : Msg), (((W251.takeMsg (msgOf 6 (pl [1, 4]) : Msg)).getD (0, 0, W251)).1 : Nat), (((W251.takeMsg (msgOf 6 (pl [1, 4]) : Msg)).getD (0, 0, W251)).2.1 : Nat), W252, W251, (by decide +kernel), rfl, (by decide +kernel), (by decide +kernel), (by decide +kernel)⟩

def W253 : State := inb (msgOf 6 (pl [1, 4])) (S [(K.sklRole, 0)])

def W254 : State := ((W253.takeMsg (msgOf 6 (pl [1, 4]) : Msg)).getD (0, 0, W253)).2.2

theorem wit_LineCommands_1 : ∃ (p : Nat) (m : Msg) (q : Nat) (stamp : Nat) (u : State) (s : State), (p < 2) ∧ (s.takeMsg m = some (q, stamp, u)) ∧ (m.cls = 6) ∧ (nth m.payload 0 = 1) :=
  ⟨0, (msgOf 6 (pl [1, 4]) : Msg), (((W253.takeMsg (msgOf 6 (pl [1, 4]) : Msg)).getD (0, 0, W253)).1 : Nat), (((W253.takeMsg (msgOf 6 (pl [1, 4]) : Msg)).getD (0, 0, W253)).2.1 : Nat), W254, W253, (by decide +kernel), rfl, (by decide +kernel), (by decide +kernel)⟩

def W255 : State := inb (msgOf 6 (pl [2, 0, 5, 0, 8, 0, 0, 0, 6])) (S [(K.sklNodeId, 9), (K.sklRole, 3)])

def W256 : State := ((W255.takeMsg (msgOf 6 (pl [2, 0, 5, 0, 8, 0, 0, 0, 6]) : Msg)).getD (0, 0, W255)).2.2

theorem wit_LineCommands_2 : ∃ (m : Msg) (q : Nat) (stamp : Nat) (u : State) (s : State), (s.takeMsg m = some (q, stamp, u)) ∧ (m.cls = 6) ∧ (nth m.payload 0 = 2) ∧ (lineRole m.payload < 4096) ∧ (lineNode m.payload ≠ s.rd K.sklNodeId) ∧ (lineRole m.payload ≠ s.rd K.sklRole) :=
  ⟨(msgOf 6 (pl [2, 0, 5, 0, 8, 0, 0, 0, 6]) : Msg), (((W255.takeMsg (msgOf 6 (pl [2, 0, 5, 0, 8, 0, 0, 0, 6]) : Msg)).getD (0, 0, W255)).1 : Nat), (((W255.takeMsg (msgOf 6 (pl [2, 0, 5, 0, 8, 0, 0, 0, 6]) : Msg)).getD (0, 0, W255)).2.1 : Nat), W256, W255, rfl, (by decide +kernel), (by decide +kernel), (by decide +kernel), (by decide +kernel), (by decide +kernel)⟩

def W257 : State := inb (msgOf 6 (pl [2, 0, 5, 0, 9, 0, 0, 0, 6])) (S [(K.sklNodeId, 9), (K.sklRole, 3)])

def W258 : State := ((W257.takeMsg (msgOf 6 (pl [2, 0, 5, 0, 9, 0, 0, 0, 6]) : Msg)).getD (0, 0, W257)).2.2

theorem wit_LineCommands_3 : ∃ (m : Msg) (q : Nat) (stamp : Nat) (u : State) (s : State), (s.takeMsg m = some (q, stamp, u)) ∧ (m.cls = 6) ∧ (nth m.payload 0 = 2) ∧ (lineNode m.payload = s.rd K.sklNodeId) :=
  ⟨(msgOf 6 (pl [2, 0, 5, 0, 9, 0, 0, 0, 6]) : Msg), (((W257.takeMsg (msgOf 6 (pl [2, 0, 5, 0, 9, 0, 0, 0, 6]) : Msg)).getD (0, 0, W257)).1 : Nat), (((W257.takeMsg (msgOf 6 (pl [2, 0, 5, 0, 9, 0, 0, 0, 6]) : Msg)).getD (0, 0, W257)).2.1 : Nat), W258, W257, rfl, (by decide +kernel), (by decide +kernel), (by decide +kernel)⟩

def W259 : State := inb (msgOf 6 (pl [2, 0, 3, 0, 8, 0, 0, 0, 6])) (S [(K.sklNodeId, 9), (K.sklRole, 3), (K.sklRoleEpoch, 5)])

def W260 : State := ((W259.takeMsg (msgOf 6 (pl [2, 0, 3, 0, 8, 0, 0, 0, 6]) : Msg)).getD (0, 0, W259)).2.2

theorem wit_LineCommands_4 : ∃ (m : Msg) (q : Nat) (stamp : Nat) (u : State) (s : State), (s.takeMsg m = some (q, stamp, u)) ∧ (m.cls = 6) ∧ (nth m.payload 0 = 2) ∧ (lineNode m.payload ≠ s.rd K.sklNodeId) ∧ (lineRole m.payload = s.rd K.sklRole) ∧ (s.rd K.sklRoleEpoch < lineEpoch m.payload) ∧ (s.dev ≠ stReset) ∧ (s.dev ≠ stFault) :=
  ⟨(msgOf 6 (pl [2, 0, 3, 0, 8, 0, 0, 0, 6]) : Msg), (((W259.takeMsg (msgOf 6 (pl [2, 0, 3, 0, 8, 0, 0, 0, 6]) : Msg)).getD (0, 0, W259)).1 : Nat), (((W259.takeMsg (msgOf 6 (pl [2, 0, 3, 0, 8, 0, 0, 0, 6]) : Msg)).getD (0, 0, W259)).2.1 : Nat), W260, W259, rfl, (by decide +kernel), (by decide +kernel), (by decide +kernel), (by decide +kernel), (by decide +kernel), (by decide +kernel), (by decide +kernel)⟩

def W261 : State := inb (msgOf 6 (pl [3, 0, 3, 0, 9, 0, 0, 0, 6])) (S [(K.sklNodeId, 9), (K.sklRole, 3), (K.sklRoleEpoch, 5)])

def W262 : State := ((W261.takeMsg (msgOf 6 (pl [3, 0, 3, 0, 9, 0, 0, 0, 6]) : Msg)).getD (0, 0, W261)).2.2

theorem wit_LineCommands_5 : ∃ (m : Msg) (q : Nat) (stamp : Nat) (u : State) (s : State), (s.takeMsg m = some (q, stamp, u)) ∧ (m.cls = 6) ∧ (nth m.payload 0 = 3) ∧ (lineNode m.payload = s.rd K.sklNodeId) ∧ (lineEpoch m.payload ≠ s.rd K.sklRoleEpoch) ∧ (s.dev ≠ stReset) ∧ (s.dev ≠ stFault) :=
  ⟨(msgOf 6 (pl [3, 0, 3, 0, 9, 0, 0, 0, 6]) : Msg), (((W261.takeMsg (msgOf 6 (pl [3, 0, 3, 0, 9, 0, 0, 0, 6]) : Msg)).getD (0, 0, W261)).1 : Nat), (((W261.takeMsg (msgOf 6 (pl [3, 0, 3, 0, 9, 0, 0, 0, 6]) : Msg)).getD (0, 0, W261)).2.1 : Nat), W262, W261, rfl, (by decide +kernel), (by decide +kernel), (by decide +kernel), (by decide +kernel), (by decide +kernel), (by decide +kernel)⟩

def W263 : State := inb (msgOf 6 (pl [3, 0, 3, 0, 9, 0, 0, 0, 6])) (S [(K.sklNodeId, 9), (K.sklRole, 3), (K.sklRoleEpoch, 6)])

def W264 : State := ((W263.takeMsg (msgOf 6 (pl [3, 0, 3, 0, 9, 0, 0, 0, 6]) : Msg)).getD (0, 0, W263)).2.2

theorem wit_LineCommands_6 : ∃ (m : Msg) (q : Nat) (stamp : Nat) (u : State) (s : State), (s.takeMsg m = some (q, stamp, u)) ∧ (m.cls = 6) ∧ (nth m.payload 0 = 3) ∧ (lineNode m.payload = s.rd K.sklNodeId) ∧ (lineEpoch m.payload = s.rd K.sklRoleEpoch) :=
  ⟨(msgOf 6 (pl [3, 0, 3, 0, 9, 0, 0, 0, 6]) : Msg), (((W263.takeMsg (msgOf 6 (pl [3, 0, 3, 0, 9, 0, 0, 0, 6]) : Msg)).getD (0, 0, W263)).1 : Nat), (((W263.takeMsg (msgOf 6 (pl [3, 0, 3, 0, 9, 0, 0, 0, 6]) : Msg)).getD (0, 0, W263)).2.1 : Nat), W264, W263, rfl, (by decide +kernel), (by decide +kernel), (by decide +kernel), (by decide +kernel)⟩

def W265 : State := (S [(K.sklNodeId, 9), (K.sklRole, 0)]).domWrite K.sklRoleTable 80 [8, 0, 1, 0]

def W266 : State := W265.at (W265.heard (W265.roleNode 5) + W265.beatLimit)

theorem wit_LineCommands_7 : ∃ (r : Nat) (n : Nat) (u : State) (s : State), (r < 4096) ∧ (s.lineMaster = true) ∧ (s.originates = true) ∧ (s.roleMonitor r = true) ∧ (s.roleNode r ≠ 0xFFFF) ∧ (s.roleNode r ≠ s.rd K.sklNodeId) ∧ (u = s.at (s.heard (s.roleNode r) + s.beatLimit)) ∧ (n = ((u.roleSpares r).find? u.spareFit).getD 0xFFFF) :=
  ⟨5, (((W266.roleSpares 5).find? W266.spareFit).getD 0xFFFF : Nat), W266, W265, (by decide +kernel), (by decide +kernel), (by decide +kernel), (by decide +kernel), (by decide +kernel), (by decide +kernel), rfl, (by decide +kernel)⟩

def W267 : State := (S [(K.sklNodeId, 9), (K.sklRole, 3)]).domWrite K.sklRoleTable 0 [8, 0, 1, 1, 1, 0, 0, 0, 9, 0]

theorem wit_LineCommands_8 : ∃ (k : Nat) (s : State), ((s.roleSpares 0).findIdx? (· == s.rd K.sklNodeId) = some k) ∧ (s.lineMaster = false) ∧ (s.originates = true) ∧ (s.dev ≠ stFault) ∧ (s.roleNode 0 ≠ 0xFFFF) ∧ (s.roleNode 0 ≠ s.rd K.sklNodeId) ∧ (s.epochOf 0 ≤ s.roleEpoch 0) :=
  ⟨0, W267, by decide +kernel⟩

theorem wit_PcieCommands_2 : ∃ (s : State), (s.rd K.pcieLinkSpeed ≠ 0) :=
  ⟨(S [(K.pcieLinkSpeed, 4)] : State), by decide +kernel⟩

theorem wit_PcieCommands_3 : ∃ (a : Acc) (s : State), (s.writeStatus a K.pcieBar2Base = 0) ∧ (accVal a K.pcieBar2Base % 2 ^ 30 = 0) :=
  ⟨(acc (2 ^ 30) : Acc), idle, by decide +kernel⟩

theorem wit_PcieCommands_4 : ∃ (a : Acc) (s : State), (s.writeAllowed a K.pcieBar2Base = 0) ∧ (sizeOk a (.u 64) = true) ∧ (accVal a K.pcieBar2Base % 2 ^ 30 ≠ 0) :=
  ⟨(acc 5 : Acc), idle, by decide +kernel⟩

def W268 : State := { S [(K.pcieBusMaster, 1)] with msix := { pba := 2 ^ 63 } }

theorem wit_PcieCommands_5 : ∃ (v : Nat) (s : State), (v < 64) ∧ (bitOf s.msix.pba v = true) ∧ (s.msix.funcMask = false) ∧ (s.rd K.pcieBusMaster = 1) :=
  ⟨63, W268, by decide +kernel⟩

def W269 : State := S [(K.dramDramPopulated, 65536)]

theorem wit_PcieCommands_7 : ∃ (off : Nat) (len : Nat) (bytes : List Nat) (s : State), (s.inDram (s.rd K.pcieBar2Base + off) len = true) ∧ (bytes.length = len) ∧ s.memOk :=
  ⟨8, 2, ([3, 4] : List Nat), W269, (by decide +kernel), (by decide +kernel), rfl⟩

theorem wit_PcieCommands_8 : ∃ (off : Nat) (len : Nat) (s : State), (s.inDram (s.rd K.pcieBar2Base + off) len = true) :=
  ⟨8, 2, W269, by decide +kernel⟩

theorem wit_PcieCommands_9 : ∃ (off : Nat) (len : Nat) (s : State), (s.inDram (s.rd K.pcieBar2Base + off) len = false) :=
  ⟨65535, 2, W269, by decide +kernel⟩

def W270 : State := { S [(K.dramDramPopulated, 65536)] with cores := [(3, 64)] }

theorem wit_PcieCommands_10 : ∃ (h : Nat) (addr : Nat) (len : Nat) (s : State), (h < 4) ∧ ((tfind s.cores h).isSome = true) ∧ (s.inDram addr len = true) :=
  ⟨3, 8, 2, W270, by decide +kernel⟩

theorem wit_PcieCommands_11 : ∃ (h : Nat) (addr : Nat) (len : Nat) (bytes : List Nat) (s : State), (h < 4) ∧ ((tfind s.cores h).isSome = true) ∧ (s.inDram addr len = false) ∧ (coreWindow addr len = .dictionary) ∧ (addr % max 1 len = 0) ∧ (bytes.length = len) :=
  ⟨3, 0x8000000000, 2, ([3, 4] : List Nat), W270, by decide +kernel⟩

def W271 : State := { S [(K.dramDramPopulated, 65536), (K.pcieBusMaster, 1)] with cores := [(3, 64)] }

theorem wit_PcieCommands_12 : ∃ (h : Nat) (addr : Nat) (len : Nat) (bytes : List Nat) (s : State), (h < 4) ∧ ((tfind s.cores h).isSome = true) ∧ (s.inDram addr len = false) ∧ (coreWindow addr len = .outbound) ∧ (addr % max 1 len = 0) ∧ (bytes.length = len) ∧ (s.rd K.pcieBusMaster = 1) :=
  ⟨3, 0xC000000000, 2, ([3, 4] : List Nat), W271, by decide +kernel⟩

theorem wit_PcieCommands_13 : ∃ (h : Nat) (addr : Nat) (len : Nat) (s : State), (h < 4) ∧ ((tfind s.cores h).isSome = true) ∧ (s.inDram addr len = false) ∧ (coreWindow addr len = .none) ∧ (addr % max 1 len = 0) :=
  ⟨3, 0x7000000000, 2, W270, by decide +kernel⟩

def W272 : State := S [(K.ethsLinkState 1, 3)]

theorem wit_EthernetCommands_0 : ∃ (p : Nat) (s : State), (p < 2) ∧ (s.rd (K.ethsLinkState p) = 3) :=
  ⟨1, W272, by decide +kernel⟩

def W273 : State := S [(K.ethsLinkState 1, 2), (K.ethMaxFrame 1, 1518)]

theorem wit_EthernetCommands_1 : ∃ (p : Nat) (s : State), (p < 2) ∧ (s.ethUp p = true) :=
  ⟨1, W273, by decide +kernel⟩

def W274 : State := S [(K.ethsLinkState 1, 2), (K.ethMaxFrame 1, 64)]

theorem wit_EthernetCommands_2 : ∃ (p : Nat) (frame : List Nat) (s : State), (p < 2) ∧ (s.ethUp p = true) ∧ (s.rd (K.ethMaxFrame p) < frame.length + 4) :=
  ⟨1, (List.replicate 65 0 : List Nat), W274, by decide +kernel⟩

def W275 : State := S [(K.ethsLinkState 1, 2), (K.ethMaxFrame 1, 1518), (K.qQueueEnable 63, 1), (K.qItemBytes 63, 2048), (K.qBankSherds 63, 1), (K.qCreditGrant 63, 3), (K.ethcCoreRxQueue 1, 63)]

theorem wit_EthernetCommands_3 : ∃ (p : Nat) (q : Nat) (frame : List Nat) (s : State), (p < 2) ∧ (s.ethUp p = true) ∧ (frame.length + 4 ≤ s.rd (K.ethMaxFrame p)) ∧ (beAt (untag frame) 12 2 = 0x88F7) ∧ (q = s.rd (K.ethcCoreRxQueue p)) ∧ (q < 64) ∧ (frame.length + 32 ≤ s.rd (K.qItemBytes q)) ∧ (s.queCredits q ≠ 0) :=
  ⟨1, 63, (List.replicate 12 2 ++ [136, 247] ++ List.replicate 46 0 : List Nat), W275, by decide +kernel⟩

def W276 : State := S [(K.ethsLinkState 1, 2), (K.ethMaxFrame 1, 1518), (K.ethIpAddress 1, 0x0A000005)]

theorem wit_EthernetCommands_4 : ∃ (p : Nat) (frame : List Nat) (s : State), (p < 2) ∧ (s.ethUp p = true) ∧ (frame.length + 4 ≤ s.rd (K.ethMaxFrame p)) ∧ (beAt (untag frame) 12 2 = 0x0806) ∧ (beAt (untag frame) 38 4 = s.rd (K.ethIpAddress p)) ∧ (beAt (untag frame) 20 2 = 1) :=
  ⟨1, (List.replicate 12 2 ++ [8, 6, 0, 1, 8, 0, 6, 4, 0, 1] ++ List.replicate 16 1 ++ [10, 0, 0, 5] ++ List.replicate 18 0 : List Nat), W276, by decide +kernel⟩

theorem wit_EthernetCommands_5 : ∃ (p : Nat) (frame : List Nat) (s : State), (p < 2) ∧ (s.ethUp p = true) ∧ (frame.length + 4 ≤ s.rd (K.ethMaxFrame p)) ∧ (beAt (untag frame) 12 2 ≠ 0x88F7) ∧ (beAt (untag frame) 12 2 ≠ 0x0806) ∧ (beAt (untag frame) 12 2 ≠ 0x0800) :=
  ⟨1, (List.replicate 12 2 ++ [134, 221] ++ List.replicate 46 0 : List Nat), W273, by decide +kernel⟩

def W277 : State := S [(K.ethsLinkState 1, 1), (K.ethMode 1, 2)]

theorem wit_EthernetCommands_6 : ∃ (p : Nat) (eye : Nat) (s : State), (p < 2) ∧ (s.rd (K.ethsLinkState p) = 1) ∧ (s.rd (K.ethMode p) = 1 ∨ 12 ≤ eye) :=
  ⟨1, 12, W277, by decide +kernel⟩

def W278 : State := S [(K.ethsLinkState 1, 2), (K.ethMaxFrame 1, 1518), (K.ethRetryCount 1, 3), (K.ethRetryWindow 1, 1000)]

theorem wit_EthernetCommands_7 : ∃ (p : Nat) (s : State), (p < 2) ∧ (s.ethUp p = true) ∧ ((s.faultsIn (ethUnit p) (s.rd (K.ethRetryWindow p))).length + 1 ≤ s.rd (K.ethRetryCount p)) :=
  ⟨1, W278, by decide +kernel⟩

def W279 : State := S [(K.ethsLinkState 1, 2), (K.ethMaxFrame 1, 1518), (K.ethRetryCount 1, 0), (K.ethRetryWindow 1, 1000)]

theorem wit_EthernetCommands_8 : ∃ (p : Nat) (s : State), (p < 2) ∧ (s.ethUp p = true) ∧ (s.rd (K.ethRetryCount p) = 0) ∧ (s.rd (K.ethRetryWindow p) ≠ 0) :=
  ⟨1, W279, by decide +kernel⟩

def W280 : State := S [(K.ethsLinkState 1, 3), (K.ethMode 1, 2)]

theorem wit_EthernetCommands_9 : ∃ (a : Acc) (p : Nat) (s : State), (s.writeStatus a (K.ethsReadmit p) = 0) ∧ (p < 2) ∧ (accVal a (K.ethsReadmit p) = 1) ∧ (s.rd (K.ethsLinkState p) = 3) :=
  ⟨(acc 1 : Acc), 1, W280, by decide +kernel⟩

def W281 : State := { S [(K.ethsLinkState 1, 2), (K.ethMaxFrame 1, 1518), (K.ethcCoreTxQueue 1, 63)] with queues := [(63, { cur := { used := 1, items := [{ bytes := List.replicate 96 0, stamp := 5 }] } })] }

theorem wit_EthernetCommands_10 : ∃ (p : Nat) (q : Nat) (it : QItem) (qu : Que) (s : State), (p < 2) ∧ (s.ethUp p = true) ∧ (q = s.rd (K.ethcCoreTxQueue p)) ∧ (q < 64) ∧ (queTake (s.que q) = some (it, qu)) ∧ (bitOf (nth it.bytes 3) 1 = false) :=
  ⟨1, 63, ({ bytes := List.replicate 96 0, stamp := 5 } : QItem), (((queTake (W281.que 63)).getD ({ bytes := [], stamp := 0 }, {})).2 : Que), W281, by decide +kernel⟩

theorem wit_TimeCommands_0 : ∃ (a : Acc) (s : State), (s.writeStatus a K.timeTimeSet = 0) ∧ (s.rd K.timeSyncState = 0) :=
  ⟨(acc 9 : Acc), idle, by decide +kernel⟩

theorem wit_TimeCommands_1 : ∃ (a : Acc) (s : State), (s.writeStatus a K.timeTimeStep = 0) ∧ (s.rd K.timeSyncState = 0) :=
  ⟨(acc (2 ^ 64 - 9) : Acc), idle, by decide +kernel⟩

theorem wit_TimeCommands_2 : ∃ (a : Acc) (s : State), (s.writeStatus a K.timeTimeSet = 0) ∧ (s.rd K.timeSyncState ≠ 0) :=
  ⟨(acc 9 : Acc), (S [(K.timeSyncState, 2)] : State), by decide +kernel⟩

theorem wit_TimeCommands_3 : ∃ (a : Acc) (s : State), (s.writeStatus a K.timeResync = 0) ∧ (accVal a K.timeResync = 1) ∧ (s.dev = stStopped ∨ s.dev = stStandby) :=
  ⟨(acc 1 : Acc), (S [(K.timeSyncState, 2)] : State), by decide +kernel⟩

def W282 : State := S [(K.syncSyncSource, 1)]

theorem wit_TimeCommands_4 : ∃ (a : Acc) (s : State), (s.writeStatus a K.timeRateAdj = 0) ∧ (s.rd K.syncSyncSource = 1) ∧ (-rateLim ≤ toI 64 (accVal a K.timeRateAdj)) ∧ (toI 64 (accVal a K.timeRateAdj) ≤ rateLim) :=
  ⟨(acc 9 : Acc), W282, by decide +kernel⟩

def W283 : State := S [(K.syncSyncSource, 2)]

theorem wit_TimeCommands_5 : ∃ (a : Acc) (s : State), (s.writeStatus a K.timeRateAdj = 0) ∧ (s.rd K.syncSyncSource ≠ 1) :=
  ⟨(acc 9 : Acc), W283, by decide +kernel⟩

theorem wit_TimeCommands_6 : ∃ (s : State), (s.originates = true) ∧ (s.rd K.syncSyncSource = 0 ∨ s.rd K.timeSyncState = 2) :=
  ⟨idle, by decide +kernel⟩

def W284 : State := S [(K.syncSyncSource, 2), (K.timeSyncState, 2)]

theorem wit_TimeCommands_7 : ∃ (s : State), (2 ≤ s.rd K.syncSyncSource) ∧ (s.rd K.timeSyncState = 1 ∨ s.rd K.timeSyncState = 2) :=
  ⟨W284, by decide +kernel⟩

def W285 : State := S [(K.alarmAlarmEnable 3, 1)]

theorem wit_TimeCommands_8 : ∃ (n : Nat) (s : State), (n < 4) ∧ (n ≠ 0) ∧ (s.on (K.alarmAlarmEnable n) = true) :=
  ⟨3, W285, by decide +kernel⟩

def W286 : State := S [(K.alarmAlarmEnable 0, 1)]

theorem wit_TimeCommands_9 : ∃ (s : State), (s.on (K.alarmAlarmEnable 0) = true) :=
  ⟨W286, by decide +kernel⟩

def W287 : State := { S [] with tasks := [{ task := 67, lineage := 0, stamp := 5 }] }

def W288 : State := { W287 with tasks := [] }

theorem wit_TimeCommands_10 : ∃ (k : Nat) (d : Delivery) (u : State) (s : State), (k < 4) ∧ (s.takeTask (64 + k) = some (d, u)) :=
  ⟨3, ({ task := 67, lineage := 0, stamp := 5 } : Delivery), W288, W287, (by decide +kernel), rfl⟩

theorem wit_TimeCommands_11 : ∃ (s : State), (s.rd K.ppsPpsPin < 32) :=
  ⟨(S [(K.ppsPpsPin, 31)] : State), by decide +kernel⟩

def W289 : State := { S [(K.ppsPpsPin, 31)] with sync := { pulse := some 8 } }

theorem wit_TimeCommands_12 : ∃ (u : Nat) (s : State), (s.sync.pulse = some u) ∧ (s.rd K.ppsPpsPin < 32) :=
  ⟨8, W289, by decide +kernel⟩

theorem wit_FaultCommands_0 : ∃ (a : Acc) (s : State), (s.writeStatus a K.wdogWatchdogKick = 0) ∧ (accVal a K.wdogWatchdogKick = 1) :=
  ⟨(acc 1 1 : Acc), idle, by decide +kernel⟩

def W290 : State := S [(K.wdogWatchdogPeriod, 9)]

theorem wit_FaultCommands_1 : ∃ (s : State), (s.wdogCounts = true) ∧ (s.wdog.warned = false) :=
  ⟨W290, by decide +kernel⟩

theorem wit_FaultCommands_2 : ∃ (s : State), (s.wdogCounts = true) ∧ (s.wdog.expired = false) ∧ (s.dev ≠ stFault) :=
  ⟨W290, by decide +kernel⟩

theorem wit_FaultCommands_3 : ∃ (x : Int) (s : State), (s.dev ≠ stReset) ∧ (x < s.rdI 32 K.fltThermalTrip) ∧ (s.rdI 32 K.fltThermalWarn ≤ x) :=
  ⟨104999, idle, by decide +kernel⟩

theorem wit_FaultCommands_4 : ∃ (x : Int) (s : State), (s.dev ≠ stReset) ∧ (x < s.rdI 32 K.fltThermalTrip) ∧ (x < s.rdI 32 K.fltThermalWarn) :=
  ⟨(-5 : Int), idle, by decide +kernel⟩

theorem wit_FaultCommands_5 : ∃ (x : Int) (s : State), (s.dev ≠ stReset) ∧ (s.dev ≠ stFault) ∧ (s.rdI 32 K.fltThermalTrip ≤ x) ∧ (s.hot ≠ some true) :=
  ⟨105000, idle, by decide +kernel⟩

theorem wit_FaultCommands_6 : ∃ (a : Acc) (s : State), (s.writeStatus a K.fatalFatalRequest = 0) ∧ (s.dev ≠ stReset) ∧ (s.dev ≠ stFault) :=
  ⟨(acc 1 1 : Acc), idle, by decide +kernel⟩

theorem wit_FaultCommands_7 : ∃ (s : State), (s.dev ≠ stReset) ∧ (s.dev ≠ stFault) :=
  ⟨idle, by decide +kernel⟩

theorem wit_FaultCommands_8 : ∃ (f : Nat), (90000 ≤ f) ∧ (f ≤ 110000) :=
  ⟨90000, by decide +kernel⟩

theorem wit_FaultCommands_10 : ∃ (a : Acc) (s : State), (s.writeStatus a K.calCalRun = 0) ∧ (calRunOk (accVal a K.calCalRun) = true) ∧ (s.rd K.calCalRunStatus ≠ 1) ∧ (accVal a K.calCalRun / 256 = 4) :=
  ⟨(acc 0x403 1 : Acc), idle, by decide +kernel⟩

theorem wit_FaultCommands_11 : ∃ (a : Acc) (s : State), (s.writeStatus a K.calCalRun = 0) ∧ (calRunOk (accVal a K.calCalRun) = false) :=
  ⟨(acc 0 1 : Acc), idle, by decide +kernel⟩

def W291 : State := S [(K.calCalRunStatus, 1)]

theorem wit_FaultCommands_12 : ∃ (a : Acc) (s : State), (s.writeStatus a K.calCalRun = 0) ∧ (calRunOk (accVal a K.calCalRun) = true) ∧ (s.rd K.calCalRunStatus = 1) :=
  ⟨(acc 0x403 1 : Acc), W291, by decide +kernel⟩

def W292 : State := S [(K.calCalRunStatus, 1), (K.calCalRun, 1027)]

theorem wit_FaultCommands_13 : ∃ (m : CalMeasure) (s : State), (s.rd K.calCalRunStatus = 1) ∧ (s.rd K.calCalRun / 256 = 4) ∧ (m.timedOut = false) ∧ (s.rd K.calDdrWindowMin ≤ m.margin) :=
  ⟨({ margin := 40, spread := 0, residual := 0, timedOut := false } : CalMeasure), W292, by decide +kernel⟩

theorem wit_FaultCommands_14 : ∃ (m : CalMeasure) (s : State), (s.rd K.calCalRunStatus = 1) ∧ (s.rd K.calCalRun / 256 = 4) ∧ (m.timedOut = false) ∧ (m.margin < s.rd K.calDdrWindowMin) :=
  ⟨({ margin := 1, spread := 0, residual := 0, timedOut := false } : CalMeasure), W292, by decide +kernel⟩

def W293 : State := { S [] with wbuf := [{ kind := 3, unit := 0, lineage := 0, d0 := 1, d1 := 2, time := 3, stamp := 4, last := false }] }

theorem wit_WitnessAndPowerCommands_0 : ∃ (e : WReq) (l : List WReq) (s : State), (s.wbuf = e :: l) ∧ (s.on K.witFrozen = false) ∧ (isFaultState e = false) :=
  ⟨({ kind := 3, unit := 0, lineage := 0, d0 := 1, d1 := 2, time := 3, stamp := 4, last := false } : WReq), [], W293, by decide +kernel⟩

def W294 : State := { S [] with wbuf := [{ kind := 1, unit := 0, lineage := 0, d0 := stFault, d1 := 2, time := 3, stamp := 4, last := true }] }

theorem wit_WitnessAndPowerCommands_1 : ∃ (e : WReq) (l : List WReq) (s : State), (s.wbuf = e :: l) ∧ (s.on K.witFrozen = false) ∧ (isFaultState e = true) :=
  ⟨({ kind := 1, unit := 0, lineage := 0, d0 := stFault, d1 := 2, time := 3, stamp := 4, last := true } : WReq), [], W294, by decide +kernel⟩

def W295 : State := { S [(K.witFrozen, 1)] with wbuf := [{ kind := 3, unit := 0, lineage := 0, d0 := 1, d1 := 2, time := 3, stamp := 4, last := false }] }

theorem wit_WitnessAndPowerCommands_2 : ∃ (e : WReq) (l : List WReq) (s : State), (s.wbuf = e :: l) ∧ (s.on K.witFrozen = true) :=
  ⟨({ kind := 3, unit := 0, lineage := 0, d0 := 1, d1 := 2, time := 3, stamp := 4, last := false } : WReq), [], W295, by decide +kernel⟩

theorem wit_WitnessAndPowerCommands_3 : ∃ (a : Acc) (s : State), (s.writeStatus a K.witFreeze = 0) ∧ (accVal a K.witFreeze = 1) ∧ (s.on K.witFrozen = false) :=
  ⟨(acc 1 : Acc), idle, by decide +kernel⟩

theorem wit_WitnessAndPowerCommands_4 : ∃ (a : Acc) (s : State), (s.writeStatus a K.witRelease = 0) ∧ (accVal a K.witRelease = 1) ∧ (s.on K.witFrozen = true) ∧ (s.wbuf.length < 32) :=
  ⟨(acc 1 : Acc), (S [(K.witFrozen, 1)] : State), by decide +kernel⟩

theorem wit_WitnessAndPowerCommands_5 : ∃ (a : Acc) (s : State), (s.writeStatus a K.witMark = 0) ∧ (s.on K.witFrozen = false) ∧ (s.wbuf.length < 32) :=
  ⟨(acc 5 : Acc), idle, by decide +kernel⟩

theorem wit_WitnessAndPowerCommands_6 : ∃ (a : Acc) (s : State), (s.writeStatus a K.witReadSequence = 0) :=
  ⟨(acc 5 : Acc), idle, by decide +kernel⟩

def W296 : State := { S ([(K.devDeviceState, stStandby), (K.pwrPowerPhase, 1), (K.pwrSleepMask, 3)]) with power := { todo := [0, 1] } }

theorem wit_WitnessAndPowerCommands_7 : ∃ (d : Nat) (e : Nat) (l : List Nat) (s : State), (s.power.todo = d :: e :: l) ∧ (s.dev = stStandby) ∧ (s.rd K.pwrPowerPhase = 1) :=
  ⟨0, 1, [], W296, by decide +kernel⟩

def W297 : State := { S ([(K.devDeviceState, stStandby), (K.pwrPowerPhase, 1), (K.pwrSleepMask, 3)]) with power := { todo := [1] } }

theorem wit_WitnessAndPowerCommands_8 : ∃ (d : Nat) (s : State), (s.power.todo = [d]) ∧ (s.dev = stStandby) ∧ (s.rd K.pwrPowerPhase = 1) ∧ (s.power.latched = none) ∧ (s.rd K.pwrWakeSources = 0) :=
  ⟨1, W297, by decide +kernel⟩

def W298 : State := { S ([(K.devDeviceState, stStandby), (K.pwrPowerPhase, 3), (K.pwrSleepMask, 3)]) with power := { todo := [0] } }

theorem wit_WitnessAndPowerCommands_9 : ∃ (d : Nat) (s : State), (s.power.todo = [d]) ∧ (s.dev = stStandby) ∧ (s.rd K.pwrPowerPhase = 3) :=
  ⟨0, W298, by decide +kernel⟩

def W299 : State := { S ([(K.devDeviceState, stStandby), (K.pwrPowerPhase, 3), (K.pwrSleepMask, 3)]) with power := { todo := [1, 0] } }

theorem wit_WitnessAndPowerCommands_10 : ∃ (d : Nat) (e : Nat) (l : List Nat) (s : State), (s.power.todo = d :: e :: l) ∧ (s.dev = stStandby) ∧ (s.rd K.pwrPowerPhase = 3) :=
  ⟨1, 0, [], W299, by decide +kernel⟩

def W300 : State := S ([(K.devDeviceState, stStandby), (K.pwrPowerPhase, 2), (K.pwrSleepMask, 3), (K.pwrWakePin, 31), (K.pwrWakeSources, 1), (K.pwrWakeLevel, 1)])

theorem wit_WitnessAndPowerCommands_11 : ∃ (level : Bool) (s : State), (s.rd K.pwrWakePin < 32) ∧ (s.bit K.pwrWakeSources 0 = true) ∧ (level = s.on K.pwrWakeLevel) ∧ (s.dev = stStandby) ∧ (s.rd K.pwrPowerPhase = 2) ∧ (s.maskedDomains ≠ []) :=
  ⟨true, W300, by decide +kernel⟩

theorem wit_WitnessAndPowerCommands_12 : ∃ (s : State), (s.rd K.pwrWakePin < 32) ∧ (s.bit K.pwrWakeSources 0 = false) :=
  ⟨(S [(K.pwrWakePin, 31)] : State), by decide +kernel⟩

end Sys2Proof.Tests
end

/-! SUPPORT. The state that power-on reset leaves (O6): an entry, a staged value or an ownership byte that no table lists reads
as its default, and in `State.reset` no table lists any. -/

namespace Sys2Proof.Machine

/-! ### What an unlisted key reads as -/

theorem State.rd_eq_dflt {s : State} {k : Nat} (h : tfind s.regs k = none) : s.rd k = dflt k := by
  rw [State.rd, h, Option.getD_none]

theorem State.sh_eq_rd {s : State} {k : Nat} (h : tfind s.shadow k = none) : s.sh k = s.rd k := by
  rw [State.sh, h, Option.getD_none]

theorem State.ownByte_eq_ownDflt {s : State} {i : Nat} (h : tfind s.own i = none) : s.ownByte i = ownDflt i := by
  rw [State.ownByte, h, Option.getD_none]

theorem dflt_devDeviceState : dflt K.devDeviceState = stReset := by decide

/-! ### Power-on reset (R16, R34) -/

@[simp] theorem State.reset_rd (k : Nat) : State.reset.rd k = dflt k := State.rd_eq_dflt rfl

@[simp] theorem State.reset_sh (k : Nat) : State.reset.sh k = dflt k := (State.sh_eq_rd rfl).trans (State.reset_rd k)

@[simp] theorem State.reset_ownByte (i : Nat) : State.reset.ownByte i = ownDflt i := State.ownByte_eq_ownDflt rfl

@[simp] theorem State.reset_dev : State.reset.dev = stReset := (State.reset_rd _).trans dflt_devDeviceState

/-- The empty DRAM list is canonical: every byte reads as unwritten. -/
theorem State.reset_memOk : State.reset.memOk := rfl

theorem State.reset_queueOk : State.reset.queueOk := rfl

/-- The part leaves Felval at security version 0, with no key slot revoked and no burn under way (R543, R546). -/
theorem Fuses.factory_unburnt : Fuses.factory.version = 0 ∧ Fuses.factory.revoked = 0 ∧ Fuses.factory.burn = none := ⟨rfl, rfl, rfl⟩

/-- Settles O6: every table of the reset state is empty, so each entry, staged value and ownership byte reads as its default;
the device's state is RESET because that is DeviceState's default, and the queue, C and the fuses are those written in
`State.reset`. -/
theorem resetState : Obligations.ResetState :=
  ⟨State.reset_dev, rfl, rfl, State.reset_rd, State.reset_sh, State.reset_ownByte, State.reset_memOk, State.reset_queueOk,
    Fuses.factory_unburnt⟩

end Sys2Proof.Machine

/-! SUPPORT. How the device leaves its work (O17): what STOP, DISARM, DEV_STOP and the two ends of DRAINING leave in DeviceState and
StopCause (R25, R27). What each may change besides stands in its `_eff` lemma. -/

namespace Sys2Proof.Machine

/-! ### A block's event and Witness entry add no delivery at a task input (R417) -/

theorem State.raise_tasks (s : State) (ev : Nat) : (s.raise ev).tasks = s.tasks := by simp [State.raise, State.raiseAt]

theorem State.countArrival_tasks (s : State) (src : Nat) : (s.countArrival src).tasks = s.tasks := by
  unfold State.countArrival
  split <;> rfl

theorem State.hostSignal_tasks (s : State) : s.hostSignal.tasks = s.tasks := (s.hostSignal_eff.part .events rfl).2

theorem State.arrive_tasks (s : State) (src : Nat) : (s.arrive src).tasks = s.tasks := by
  unfold State.arrive
  split
  · rfl
  · rw [State.hostSignal_tasks]
    split
    · exact s.countArrival_tasks src
    · exact s.countArrival_tasks src

theorem State.flag_tasks (s : State) (k m src : Nat) : (s.flag k m src).tasks = s.tasks := State.arrive_tasks _ src

theorem State.witness_tasks (s : State) (kind unit lin d0 d1 : Nat) (last : Bool) :
    (s.witness kind unit lin d0 d1 last).tasks = s.tasks := by
  unfold State.witness
  split
  · rfl
  · split
    · exact State.flag_tasks (s.inc 32 K.witDropped) _ _ _
    · rfl

/-! ### Entering a device state (R24) -/

@[simp] theorem State.enter_dev (s : State) (new : Nat) (last : Bool) : (s.enter new last).dev = new := by
  unfold State.enter
  extract_lets old
  rw [State.dev, (State.raise_eff ..).rd _ rfl, (State.witness_eff ..).rd _ rfl, State.rd_wr_ne _ _ (by decide),
    State.rd_inc_ne _ _ (by decide), State.rd_wr_self]

@[simp] theorem State.enter_stopCause (s : State) (new : Nat) (last : Bool) :
    (s.enter new last).rd K.devStopCause = s.rd K.devStopCause := (s.enter_eff new last).rd _ rfl

@[simp] theorem State.enter_tasks (s : State) (new : Nat) (last : Bool) : (s.enter new last).tasks = s.tasks := by
  unfold State.enter
  extract_lets old
  rw [State.raise_tasks, State.witness_tasks]
  rfl

/-! ### Entering DRAINING (R25) -/

/-- After the state change the print's StopLine is fixed and the colour loop discards its window (R346). -/
theorem State.drain_after_enter (s : State) (cause : Nat) :
    Eff [.regs, .slip, .kiln, .loop] [.one K.slipJobState, .one K.slipStopLine] ((s.wr K.devStopCause cause).enter stDraining)
      (s.drain cause) := by
  unfold State.drain
  extract_lets x y
  have hy : Eff [.regs, .slip, .kiln, .loop] [.one K.slipJobState, .one K.slipStopLine] x y :=
    Eff.ite (Eff.wr ((State.fixStop_eff ..).after Eff.refl rfl) rfl rfl) Eff.refl
  exact Eff.upd_loop hy rfl

@[simp] theorem State.drain_dev (s : State) (cause : Nat) : (s.drain cause).dev = stDraining :=
  ((s.drain_after_enter cause).rd _ rfl).trans (State.enter_dev ..)

@[simp] theorem State.drain_stopCause (s : State) (cause : Nat) : (s.drain cause).rd K.devStopCause = cause := by
  rw [(s.drain_after_enter cause).rd _ rfl, State.enter_stopCause, State.rd_wr_self]

@[simp] theorem State.drain_tasks (s : State) (cause : Nat) : (s.drain cause).tasks = s.tasks := by
  rw [((s.drain_after_enter cause).part .events rfl).2, State.enter_tasks, State.wr_tasks]

/-! ### Entering STOPPED from ARMED or DRAINING (R25, R27) -/

/-- After the state change JobState reads IDLE and the heads found again rejoin (R288). -/
theorem State.toStopped_after_enter (s : State) :
    Eff [.regs, .kiln] [.one K.slipJobState, .fam (K.khHeadState 0) 128] (s.gensOff.zeRelease.enter stStopped) s.toStopped := by
  unfold State.toStopped
  extract_lets x y
  have hy : Eff [.regs, .kiln] [.one K.slipJobState, .fam (K.khHeadState 0) 128] x y :=
    Eff.ite (Eff.wr Eff.refl rfl rfl) Eff.refl
  exact Eff.foldl (fun _ _ h => (State.rejoinHeads_eff ..).after h rfl) hy

@[simp] theorem State.toStopped_dev (s : State) : s.toStopped.dev = stStopped :=
  (s.toStopped_after_enter.rd _ rfl).trans (State.enter_dev ..)

@[simp] theorem State.toStopped_stopCause (s : State) : s.toStopped.rd K.devStopCause = s.rd K.devStopCause :=
  s.toStopped_eff.rd _ rfl

@[simp] theorem State.disarm_dev (s : State) : s.disarm.dev = stStopped := State.toStopped_dev _

@[simp] theorem State.disarm_stopCause (s : State) : s.disarm.rd K.devStopCause = s.rd K.devStopCause := s.disarm_eff.rd _ rfl

@[simp] theorem State.drainAbort_dev (s : State) (cause : Nat) : (s.drainAbort cause).dev = stStopped := State.toStopped_dev _

@[simp] theorem State.drainAbort_stopCause (s : State) (cause : Nat) : (s.drainAbort cause).rd K.devStopCause = cause := by
  rw [State.drainAbort, State.toStopped_stopCause, (State.dropInspection_eff _).rd _ rfl, (State.dropPrint_eff _).rd _ rfl,
    State.rd_wr_self]

@[simp] theorem State.drainAbort_now (s : State) (cause : Nat) : (s.drainAbort cause).now = s.now :=
  (s.drainAbort_eff cause).part .clock rfl

/-! ### A request that is served (R25, R40) -/

/-- StateRequest is written with the request's code and the write is served: the request's effect, then the record of the access. -/
theorem request_served {a : Acc} {code : Nat} {s : State} (eff : State → State)
    (h : s.writeStatus { a with value := code } K.devStateRequest = 0) :
    request a code eff s = (eff s).done a K.devStateRequest 0 := State.act_ok h rfl

/-- The record of an access is none of the device's own entries. -/
theorem State.done_ok_stopCause (s : State) (a : Acc) (k : Nat) : (s.done a k 0).rd K.devStopCause = s.rd K.devStopCause :=
  (s.done_ok_eff a k).rd _ rfl

theorem State.done_ok_dev (s : State) (a : Acc) (k : Nat) : (s.done a k 0).dev = s.dev := (s.done_ok_eff a k).rd _ rfl

@[simp] theorem State.answer_status (s : State) (status cause : Nat) : (s.answer status cause).rd K.devRequestStatus = status := by
  rw [State.answer, State.rd_wr_ne _ _ (by decide), State.rd_wr_self]

@[simp] theorem State.answer_cause (s : State) (status cause : Nat) : (s.answer status cause).rd K.devRequestCause = cause := by
  rw [State.answer, State.rd_wr_self]

@[simp] theorem State.answer_stopCause (s : State) (status cause : Nat) :
    (s.answer status cause).rd K.devStopCause = s.rd K.devStopCause := (s.answer_eff status cause).rd _ rfl

/-- A request answered OK whose work leaves the answer alone: RequestStatus and RequestCause read 0, the access reads served, and the
frame is the work's with the answer and the record. -/
theorem answered_request {qs ps : List Part} {js ks : List KeySet} {s x : State} (a : Acc)
    (h : Eff (withSide qs) (sideAnd js) (s.answer 0 0) x)
    (hs : (sideAnd js).any (·.has K.devRequestStatus) = false) (hc : (sideAnd js).any (·.has K.devRequestCause) = false)
    (ha : fits [.regs] [.one K.devRequestCause, .one K.devRequestStatus] (withSide ps) (sideAnd ks) = true)
    (hf : fits (withSide qs) (sideAnd js) (withSide ps) (sideAnd ks) = true) :
    (x.done a K.devStateRequest 0).rd K.devRequestStatus = 0 ∧ (x.done a K.devStateRequest 0).rd K.devRequestCause = 0 ∧
      (x.done a K.devStateRequest 0).rd (K.pathLastStatus a.path) = 0 ∧
      Frame (withSide ps) (okSide a ks) s (x.done a K.devStateRequest 0) := by
  have hx : Eff (withSide ps) (sideAnd ks) s x := h.after ((s.answer_eff 0 0).after Eff.refl ha) hf
  refine ⟨?_, ?_, State.done_ok_status .., (okSide_eq a ks (hx.done_ok rfl)).frame⟩
  · rw [(x.done_ok_eff a _).rd _ rfl, h.rd _ hs, State.answer_status]
  · rw [(x.done_ok_eff a _).rd _ rfl, h.rd _ hc, State.answer_cause]

/-! ### STOP and DISARM (R25, R27) -/

section
variable {a : Acc} {s : State}

theorem stopWrite_armed (h : s.writeStatus { a with value := 3 } K.devStateRequest = 0) (hd : s.dev = stArmed) :
    stopWrite a s = (s.answer 0 0).disarm.done a K.devStateRequest 0 := by
  rw [stopWrite, request_served _ h, if_pos hd]

theorem stopWrite_running (h : s.writeStatus { a with value := 3 } K.devStateRequest = 0) (hd : s.dev = stRunning) :
    stopWrite a s = ((s.answer 0 0).drain 1).done a K.devStateRequest 0 := by
  rw [stopWrite, request_served _ h, if_neg (by rw [hd]; decide), if_pos hd]

theorem stopWrite_draining (h : s.writeStatus { a with value := 3 } K.devStateRequest = 0) (hd : s.dev = stDraining) :
    stopWrite a s = ((s.answer 0 0).drainAbort 7).done a K.devStateRequest 0 := by
  rw [stopWrite, request_served _ h, if_neg (by rw [hd]; decide), if_neg (by rw [hd]; decide), if_pos hd]

theorem disarmWrite_armed (h : s.writeStatus { a with value := 4 } K.devStateRequest = 0) (hd : s.dev = stArmed) :
    disarmWrite a s = (s.answer 0 0).disarm.done a K.devStateRequest 0 := by
  rw [disarmWrite, request_served _ h, if_pos hd]

end

/-! ### DEV_STOP and the ends of DRAINING (R25, R27) -/

theorem State.takeTask_dev {s u : State} {i : Nat} {d : Delivery} (h : s.takeTask i = some (d, u)) : u.dev = s.dev :=
  (State.takeTask_eff h).rd _ rfl

theorem devStop_running {s u : State} {d : Delivery} (h : s.takeTask 0 = some (d, u)) (hd : s.dev = stRunning) :
    devStop s = u.drain 6 := by
  simp only [devStop, h, if_pos ((State.takeTask_dev h).trans hd)]

/-- The print has fired its last line, and the inspection has nothing open and nothing unwritten. -/
theorem drainComplete_met {s : State} (hd : s.dev = stDraining) (hp : s.printing = true → s.barsOn.all s.barDrained = true)
    (hi : s.inspecting = true → s.bandsDrained = true ∧ s.umb.comps = [] ∧ s.umb.closed = []) :
    drainComplete s = s.toStopped := by
  have hwait : ¬ (s.dev ≠ stDraining ∨ (s.printing ∧ ¬ s.barsOn.all s.barDrained) ∨ (s.inspecting ∧ ¬ s.bandsDrained)) := by
    rintro (h | ⟨h, hn⟩ | ⟨h, hn⟩)
    · exact h hd
    · exact hn (hp h)
    · exact hn (hi h).1
  have hopen : ¬ (s.inspecting ∧ ¬ s.umb.comps.isEmpty) := fun h => h.2 (by rw [(hi h.1).2.1]; rfl)
  have htags : ¬ (s.inspecting ∧ ¬ s.umb.closed.isEmpty) := fun h => h.2 (by rw [(hi h.1).2.2]; rfl)
  rw [drainComplete, if_neg hwait, if_neg hopen, if_neg htags]

theorem drainTimeout_due {s : State} (hd : s.dev = stDraining) (ht : s.rd K.devDrainTimeout ≠ 0) :
    drainTimeout s = (s.at (s.stateAt + us (s.rd K.devDrainTimeout))).drainAbort 3 := by
  rw [drainTimeout, if_neg (by simp [hd, ht])]

/-- Settles O17: in each case the command is one of the machine's three ways out of work (`drain`, `disarm`, `drainAbort`, or
`toStopped` when the drain is complete), whose DeviceState and StopCause the lemmas above say, under the command's own frame. STOP in
ARMED enters STOPPED with no drain, so StopCause keeps what it held (logs 4 and 17). -/
theorem deviceStops : Obligations.DeviceStops := by
  unfold Obligations.DeviceStops
  refine ⟨fun a s h hd => ?running, fun a s h hd => ?armed, fun a s h hd => ?draining, fun a s h hd => ?disarm,
    fun d u s h hd => ?input, fun s hd hp hi => ?complete, fun s hd ht => ?timeout⟩
  case running =>
    refine ⟨_, congrArg Host.Outcome.next (stopWrite_running h hd), ?_, ?_,
      answered_request a (State.drain_eff ..) rfl rfl rfl rfl⟩
    · rw [State.done_ok_dev, State.drain_dev]
    · rw [State.done_ok_stopCause, State.drain_stopCause]
  case armed =>
    refine ⟨_, congrArg Host.Outcome.next (stopWrite_armed h hd), ?_, ?_,
      answered_request a (State.disarm_eff _) rfl rfl rfl rfl⟩
    · rw [State.done_ok_dev, State.disarm_dev]
    · rw [State.done_ok_stopCause, State.disarm_stopCause, State.answer_stopCause]
  case draining =>
    refine ⟨_, congrArg Host.Outcome.next (stopWrite_draining h hd), ?_, ?_,
      answered_request a (State.drainAbort_eff ..) rfl rfl rfl rfl⟩
    · rw [State.done_ok_dev, State.drainAbort_dev]
    · rw [State.done_ok_stopCause, State.drainAbort_stopCause]
  case disarm =>
    refine ⟨_, congrArg Host.Outcome.next (disarmWrite_armed h hd), ?_,
      answered_request a (State.disarm_eff _) rfl rfl rfl rfl⟩
    rw [State.done_ok_dev, State.disarm_dev]
  case input =>
    refine ⟨devStop s, rfl, ?_, ?_, ?_, (devStop_eff s).frame⟩ <;> rw [devStop_running h hd]
    · exact u.drain_dev 6
    · exact u.drain_stopCause 6
    · exact u.drain_tasks 6
  case complete =>
    refine ⟨drainComplete s, rfl, ?_, ?_, (drainComplete_eff s).frame⟩ <;> rw [drainComplete_met hd hp hi]
    · exact s.toStopped_dev
    · exact s.toStopped_stopCause
  case timeout =>
    refine ⟨drainTimeout s, rfl, ?_, ?_, ?_, (drainTimeout_eff s).frame⟩ <;> rw [drainTimeout_due hd ht]
    · exact State.drainAbort_dev ..
    · exact State.drainAbort_stopCause ..
    · rw [State.drainAbort_now, State.at_now]

end Sys2Proof.Machine

/-! SUPPORT. Power-on reset (O11): it empties every table, and the supply detector asserts it. -/

namespace Sys2Proof.Machine

/-! ### Power-on reset (R34, R488, R537, R579) -/

@[simp] theorem State.powerOn_rd (s : State) (k : Nat) : s.powerOn.rd k = dflt k := State.rd_eq_dflt rfl

@[simp] theorem State.powerOn_dev (s : State) : s.powerOn.dev = stReset := (s.powerOn_rd _).trans dflt_devDeviceState

/-- Settles O11: both commands are `State.powerOn`, which keeps no entry, DOMAIN byte, staged value, ownership byte or byte of DRAM, so
each reads as its default; of the fuses only the burn under way is gone (log 3). -/
theorem powerOnResetCommands : Obligations.PowerOnResetCommands :=
  ⟨fun s => ⟨s.powerOn, rfl, s.powerOn_rd, s.powerOn_dev, rfl, rfl, rfl, rfl, rfl, rfl, rfl⟩,
    fun s => ⟨s.powerOn, rfl, s.powerOn_rd, s.powerOn_dev, rfl, rfl, rfl, rfl, rfl, rfl, rfl⟩⟩

end Sys2Proof.Machine

/-! SUPPORT. The record that an access of the dictionary leaves (R40, R63), and what a plain write, a refused write and a read with an
effect leave besides it (O18). -/

namespace Sys2Proof.Machine

/-! ### Frames with keys of an access's own path -/

theorem KeySet.covers_refl (a : KeySet) : a.covers a = true := by cases a <;> simp [KeySet.covers]

/-- A frame whose lists stand in another's lies in it. -/
theorem fits_of_subset {qs ps : List Part} {js ks : List KeySet} (hp : qs ⊆ ps) (hk : js ⊆ ks) : fits qs js ps ks = true := by
  simp only [fits, Bool.and_eq_true, List.all_eq_true, List.contains_iff_mem, List.any_eq_true]
  exact ⟨fun q hq => hp hq, fun j hj => ⟨j, hk hj, j.covers_refl⟩⟩

/-- Entries of two groups with different subindices are different, whatever their numbers. -/
theorem instKey_ne {a b m n : Nat} (i j : Nat) (h : a % 256 ≠ b % 256 := by decide) : instKey a m i ≠ instKey b n j := by
  unfold instKey; omega

/-! ### The record of an access (R40, R63) -/

/-- The entries in which every access leaves its record. -/
def recordKeys (a : Acc) : List KeySet := [.one K.dictAccessCount, .one (K.pathLastStatus a.path), .one (K.pathLastEntry a.path)]

/-- The entries in which a refused access leaves its record besides. -/
def refusalKeys (a : Acc) : List KeySet :=
  [.one (K.pathErrorCount a.path), .one K.dictErrorCount, .one K.dictLastErrorPath, .one K.dictLastErrorStatus, .one K.dictLastErrorEntry]

/-- What every access leaves, served or refused: it is counted, and its status and entry stand for its path. -/
def State.recorded (s : State) (a : Acc) (k st : Nat) : State :=
  ((s.inc 64 K.dictAccessCount).wr (K.pathLastStatus a.path) st).wr (K.pathLastEntry a.path) k

/-- What a refused access leaves in entries besides. -/
def State.refusal (s : State) (a : Acc) (k st : Nat) : State :=
  ((((s.inc 32 (K.pathErrorCount a.path)).inc 32 K.dictErrorCount).wr K.dictLastErrorPath a.path).wr K.dictLastErrorStatus st).wr
    K.dictLastErrorEntry k

theorem State.raise_rd (s : State) (ev k : Nat) : (s.raise ev).rd k = s.rd k := by simp [State.raise, State.raiseAt, State.rd]

section
variable (s : State) (a : Acc) (k : Nat) {st j : Nat}

theorem State.recorded_status : (s.recorded a k st).rd (K.pathLastStatus a.path) = st := by
  rw [State.recorded, State.rd_wr_ne _ _ (instKey_ne _ _), State.rd_wr_self]

theorem State.recorded_entry : (s.recorded a k st).rd (K.pathLastEntry a.path) = k := State.rd_wr_self ..

theorem State.recorded_eff : Eff [.regs] (recordKeys a) s (s.recorded a k st) := by
  unfold State.recorded
  refine ((Eff.refl.inc rfl ?_).wr rfl ?_).wr rfl ?_ <;> simp [recordKeys, KeySet.has]

/-- The record of a served access, in the keys of its own path. -/
theorem State.done_ok_record : Eff [.regs] (recordKeys a) s (s.done a k 0) := by
  rw [State.done_ok]
  exact s.recorded_eff a k

theorem State.refusal_eff : Eff [.regs] (refusalKeys a) s (s.refusal a k st) := by
  unfold State.refusal
  refine ((((Eff.refl.inc rfl ?_).inc rfl ?_).wr rfl ?_).wr rfl ?_).wr rfl ?_ <;> simp [refusalKeys, KeySet.has]

/-- No entry of a group but ErrorCount is among them, when the four of R63 are not the group's. -/
theorem refusalKeys_skip {b n : Nat} (i : Nat) (hs : b % 256 ≠ 3 := by decide)
    (hd : ∀ d ∈ [K.dictErrorCount, K.dictLastErrorPath, K.dictLastErrorStatus, K.dictLastErrorEntry],
      KeySet.has (.fam b n) d = false := by decide)
    (hn : 0 < n := by decide) : (refusalKeys a).any (·.has (instKey b n i)) = false := by
  simp only [List.forall_mem_cons] at hd
  obtain ⟨hcount, hpath, hstatus, hentry, -⟩ := hd
  have herr : instKey b n i ≠ K.pathErrorCount a.path := instKey_ne _ _ hs
  simp only [refusalKeys, KeySet.has, List.any_cons, List.any_nil, Bool.or_false, Bool.or_eq_false_iff, beq_eq_false_iff_ne]
  exact ⟨herr, (ne_instKey i hcount hn).symm, (ne_instKey i hpath hn).symm, (ne_instKey i hstatus hn).symm,
    (ne_instKey i hentry hn).symm⟩

theorem State.refusal_pathErrors :
    (s.refusal a k st).rd (K.pathErrorCount a.path) = (s.rd (K.pathErrorCount a.path) + 1) % 2 ^ 32 := by
  rw [State.refusal, State.rd_wr_ne _ _ (ne_instKey _ rfl).symm, State.rd_wr_ne _ _ (ne_instKey _ rfl).symm,
    State.rd_wr_ne _ _ (ne_instKey _ rfl).symm, State.rd_inc_ne _ _ (ne_instKey _ rfl).symm, State.rd_inc_self]

theorem State.refusal_errors : (s.refusal a k st).rd K.dictErrorCount = (s.rd K.dictErrorCount + 1) % 2 ^ 32 := by
  rw [State.refusal, State.rd_wr_ne _ _ (by decide), State.rd_wr_ne _ _ (by decide), State.rd_wr_ne _ _ (by decide),
    State.rd_inc_self, State.rd_inc_ne _ _ (ne_instKey _ rfl)]

theorem State.refusal_lastPath : (s.refusal a k st).rd K.dictLastErrorPath = a.path := by
  rw [State.refusal, State.rd_wr_ne _ _ (by decide), State.rd_wr_ne _ _ (by decide), State.rd_wr_self]

theorem State.refusal_lastStatus : (s.refusal a k st).rd K.dictLastErrorStatus = st := by
  rw [State.refusal, State.rd_wr_ne _ _ (by decide), State.rd_wr_self]

theorem State.refusal_lastEntry : (s.refusal a k st).rd K.dictLastErrorEntry = k := State.rd_wr_self ..

/-- An access that is refused leaves both records and raises DICT_ERROR. -/
theorem State.done_refused (h : st ≠ 0) : s.done a k st = ((s.recorded a k st).refusal a k st).raise Ev.dictError := by
  rw [State.done]
  exact if_neg h

theorem State.done_refused_rd (h : st ≠ 0) : (s.done a k st).rd j = ((s.recorded a k st).refusal a k st).rd j := by
  rw [s.done_refused a k h, State.raise_rd]

theorem State.done_refused_status (h : st ≠ 0) : (s.done a k st).rd (K.pathLastStatus a.path) = st := by
  rw [s.done_refused_rd a k h, (State.refusal_eff ..).rd _ (refusalKeys_skip ..), State.recorded_status]

theorem State.done_refused_entry (h : st ≠ 0) : (s.done a k st).rd (K.pathLastEntry a.path) = k := by
  rw [s.done_refused_rd a k h, (State.refusal_eff ..).rd _ (refusalKeys_skip ..), State.recorded_entry]

theorem State.done_refused_pathErrors (h : st ≠ 0) :
    (s.done a k st).rd (K.pathErrorCount a.path) = (s.rd (K.pathErrorCount a.path) + 1) % 2 ^ 32 := by
  rw [s.done_refused_rd a k h, State.refusal_pathErrors, State.recorded, State.rd_wr_ne _ _ (instKey_ne _ _),
    State.rd_wr_ne _ _ (instKey_ne _ _), State.rd_inc_ne _ _ (ne_instKey _ rfl).symm]

theorem State.done_refused_errors (h : st ≠ 0) : (s.done a k st).rd K.dictErrorCount = (s.rd K.dictErrorCount + 1) % 2 ^ 32 := by
  rw [s.done_refused_rd a k h, State.refusal_errors, State.recorded, State.rd_wr_ne _ _ (ne_instKey _ rfl),
    State.rd_wr_ne _ _ (ne_instKey _ rfl), State.rd_inc_ne _ _ (by decide)]

end

/-- A refused access's record comes after an effect on no entry. -/
theorem Eff.done_refused {ps : List Part} {s x : State} {a : Acc} {k st : Nat} (h : Eff ps [] s x) (hp : sideParts ⊆ ps)
    (hst : st ≠ 0) :
    Eff ps (okSide a (refusalKeys a)) s (x.done a k st) := by
  have hregs : [Part.regs] ⊆ ps := List.Subset.trans (by decide) hp
  have hside : sideKeys ⊆ okSide a (refusalKeys a) := List.subset_append_left _ _
  have hrec : recordKeys a ⊆ okSide a (refusalKeys a) := List.subset_append_of_subset_right _ (List.subset_append_left _ _)
  have href : refusalKeys a ⊆ okSide a (refusalKeys a) := List.subset_append_of_subset_right _ (List.subset_append_right _ _)
  rw [x.done_refused a k hst]
  exact (State.raise_eff ..).after ((State.refusal_eff ..).after ((State.recorded_eff ..).after
    (h.after Eff.refl (fits_of_subset (List.Subset.refl _) (List.nil_subset _))) (fits_of_subset hregs hrec))
    (fits_of_subset hregs href)) (fits_of_subset hp hside)

/-! ### Writes of entries that hold what is written (R31, R46) -/

section
variable {a : Acc} {k v : Nat} {r : Row} {s : State}

theorem State.store_staged (hr : rowOf k = some r) (ha : r.acc = .staged) : s.store k v = s.stage k v := by
  simp only [State.store, hr, ha]

theorem State.store_rw (hr : rowOf k = some r) (ha : r.acc = .rw ∨ r.acc = .rws) : s.store k v = s.wr k v := by
  rcases ha with ha | ha <;> simp only [State.store, hr, ha]

theorem State.store_w1c (hr : rowOf k = some r) (ha : r.acc = .w1c) :
    s.store k v = s.wr k (setBits (clearBits (s.rd k) v) (s.stuckBits k)) := by
  simp only [State.store, hr, ha]

/-- A served write of a plain entry is its store and the record of the access. -/
theorem State.plainAt.write_served (hp : s.plainAt k) (h : s.writeStatus a k = 0) :
    entryWrite a k s = (s.store k (accVal a k)).done a k 0 := by
  obtain ⟨hw, he, ho⟩ := hp
  rw [hw, storeWrite, State.act_ok h (ho _), he]

theorem State.plainAt.write_refused (hp : s.plainAt k) (h : s.writeStatus a k ≠ 0) :
    entryWrite a k s = s.done a k (s.writeStatus a k) := by
  obtain ⟨hw, -, -⟩ := hp
  rw [hw, storeWrite, State.act_refused h]

/-- A served write that sets an entry's live value: the value stands, and the frame is that entry and the record. -/
theorem wr_done {j : Nat} (hj : (recordKeys a).any (·.has j) = false) :
    ((s.wr j v).done a k 0).rd j = v ∧ ((s.wr j v).done a k 0).rd (K.pathLastStatus a.path) = 0 ∧
      Frame [.regs] (okAnd a [.one j]) s ((s.wr j v).done a k 0) := by
  refine ⟨?_, State.done_ok_status .., (Eff.done_ok (Eff.refl.wr rfl ?_) rfl).frame⟩
  · rw [((s.wr j v).done_ok_record a k).rd j hj, State.rd_wr_self]
  · simp [KeySet.has]

end

/-! ### Reads with an effect (R37, R582) -/

section
variable {a : Acc} {k v x : Nat} {r : Row} {s : State}

theorem plainRead_served (h : s.readStatus a k = 0) :
    plainRead a k s = (s.readEffect a k (s.valueOf a.path k)).readDone a k 0 (s.slotValue a k) := if_pos h

theorem State.readEffect_extreme (hr : rowOf k = some r) (ht : r.ty ≠ .time) (hx : s.freshValue k = some x) :
    s.readEffect a k v = s.wr k x := by
  simp [State.readEffect, hx, hr, ht]

theorem State.readEffect_time (hr : rowOf k = some r) (ht : r.ty = .time) (hf : flat a = true) (hx : s.freshValue k = none) :
    s.readEffect a k v = s.wr (K.pathTimeFraction a.path) (v % 65536) := by
  simp [State.readEffect, hx, hr, ht, hf]

theorem State.readDone_rd (s : State) (a : Acc) (k st v j : Nat) : (s.readDone a k st v).rd j = (s.done a k st).rd j := rfl

theorem State.readDone_readData (s : State) (a : Acc) (k v : Nat) :
    tfind (s.readDone a k 0 v).readData a.path = some (slotPart a v) := by
  simp [State.readDone, tfind_tput]

/-- A served read's record and value come after its effect. -/
theorem Eff.readDone_ok {ps : List Part} {ks : List KeySet} {s y : State} (h : Eff ps ks s y) (hr : ps.contains .regs = true)
    (hs : fits [.reads] [] ps ks = true) : Eff ps (okAnd a ks) s (y.readDone a k 0 v) :=
  Eff.upd_readData (h.done_ok hr) hs

end

/-- Settles O18: a plain entry's served write is its store by access kind, then the record of the access; bits of a W1C entry whose
condition holds are set again in the same write, with no arrival (log 21). A refused write is its record alone; a read with an effect is
one live value set, then its value and record. -/
theorem dictionaryWrites : Obligations.DictionaryWrites := by
  unfold Obligations.DictionaryWrites
  refine ⟨fun a k r s hr hp ha hw => ?staged, fun a k r s hr hp ha hw hk => ?live, fun a k r s hr hp ha hw hk => ?w1c,
    fun a k st s hp hw hst => ?refused, fun a k x r s hs hr ht hx hk => ?extreme, fun a k r s hs hr ht hf hx => ?time⟩
  case staged =>
    refine ⟨_, congrArg Host.Outcome.next (hp.write_served hw), ?_⟩
    rw [State.store_staged hr ha]
    have hsh : ((s.stage k (accVal a k)).done a k 0).shadow = tput s.shadow k (accVal a k) :=
      (((s.stage k (accVal a k)).done_ok_record a k).part .staged rfl).1
    refine ⟨?_, fun j hj => ?_, State.done_ok_status .., (Eff.done_ok ((s.stage_eff _ _).after Eff.refl rfl) rfl).frame⟩
    · rw [State.sh, hsh, tfind_tput, if_pos rfl, Option.getD_some]
    · rw [hsh, tfind_tput, if_neg hj]
  case live =>
    refine ⟨_, congrArg Host.Outcome.next (hp.write_served hw), ?_⟩
    rw [State.store_rw hr ha]
    exact wr_done hk
  case w1c =>
    refine ⟨_, congrArg Host.Outcome.next (hp.write_served hw), ?_⟩
    rw [State.store_w1c hr ha]
    obtain ⟨hrd, -, hframe⟩ := wr_done (s := s) hk
    exact ⟨hrd, hframe⟩
  case refused =>
    subst hw
    have hf : Eff sideParts (okSide a (refusalKeys a)) s (s.done a k (s.writeStatus a k)) :=
      Eff.refl.done_refused (List.Subset.refl _) hst
    exact ⟨_, congrArg Host.Outcome.next (hp.write_refused hst), s.done_refused_status a k hst, s.done_refused_entry a k hst,
      s.done_refused_pathErrors a k hst, s.done_refused_errors a k hst, (s.done_refused_rd a k hst).trans (State.refusal_lastPath ..),
      (s.done_refused_rd a k hst).trans (State.refusal_lastStatus ..), (s.done_refused_rd a k hst).trans (State.refusal_lastEntry ..),
      (hf.part .staged rfl).1, hf.frame⟩
  case extreme =>
    refine ⟨_, congrArg Host.Outcome.next (plainRead_served hs), ?_⟩
    rw [State.readEffect_extreme hr ht hx]
    refine ⟨?_, State.readDone_readData .., ?_, (Eff.readDone_ok (Eff.refl.wr rfl (by simp [KeySet.has])) rfl rfl).frame⟩
    · rw [State.readDone_rd, (State.done_ok_record _ a k).rd k hk, State.rd_wr_self]
    · rw [State.readDone_rd, State.done_ok_status]
  case time =>
    refine ⟨_, congrArg Host.Outcome.next (plainRead_served hs), ?_⟩
    rw [State.readEffect_time hr ht hf hx]
    refine ⟨?_, State.readDone_readData .., (Eff.readDone_ok (Eff.refl.wr rfl (by simp [KeySet.has])) rfl rfl).frame⟩
    rw [State.readDone_rd, State.done_ok_rd _ _ _ _ (ne_instKey _ rfl).symm (instKey_ne _ _) (instKey_ne _ _), State.rd_wr_self]

end Sys2Proof.Machine

/-! SUPPORT. Ownership, locks and the HOST challenge (O20): what each command leaves in an index's ownership byte, in the challenge and in
the Secure entry of a path (R41 to R45, R63). -/

namespace Sys2Proof.Machine

/-! ### OwnCommand (R43, R44) -/

section
variable {op new target : Nat}

theorem ownOp_ownValue (h : op < 16) : ownOp (ownValue op new target) = op := by
  simp only [ownOp, ownValue, field]; omega

theorem ownNew_ownValue : ownNew (ownValue op new target) = new % 4 := by
  simp only [ownNew, ownValue, field]; omega

theorem ownTarget_ownValue (h : target < 65536) : ownTarget (ownValue op new target) = target := by
  simp only [ownTarget, ownValue]; omega

variable {a : Acc} {s : State}

/-- OwnCommand holds 64 bits, so an access carries the whole value. -/
theorem accVal_ownCommand (h : op < 16) :
    accVal { a with value := ownValue op new target } K.ownOwnCommand = ownValue op new target := by
  refine Nat.mod_eq_of_lt (show ownValue op new target < 2 ^ 64 from ?_)
  simp only [ownValue]; omega

/-- A write of OwnCommand that R39 and R43 allow is the command's effect and the record of the access. -/
theorem ownWrite_served (ho : op < 16)
    (hw : s.writeStatus { a with value := ownValue op new target } K.ownOwnCommand = 0)
    (hs : s.ownStatus a (ownValue op new target) = 0) :
    ownWrite { a with value := ownValue op new target } s =
      (s.ownApply (ownValue op new target)).done { a with value := ownValue op new target } K.ownOwnCommand 0 := by
  rw [ownWrite, accVal_ownCommand ho]
  exact State.act_ok hw hs

theorem State.ownApply_give (ht : target < 65536) :
    s.ownApply (ownValue 1 new target) = s.setOwn target (s.ownByte target / 4 * 4 + new % 4) := by
  simp [State.ownApply, ownOp_ownValue, ownNew_ownValue, ownTarget_ownValue ht]

theorem State.ownApply_lock (ht : target < 65536) :
    s.ownApply (ownValue 2 new target) = s.setOwn target (setBits (s.ownByte target) 0x40) := by
  simp [State.ownApply, ownOp_ownValue, ownTarget_ownValue ht]

theorem State.ownApply_setSecure (ht : target < 65536) :
    s.ownApply (ownValue 3 new target) = s.setOwn target (setBits (s.ownByte target) 0x20) := by
  simp [State.ownApply, ownOp_ownValue, ownTarget_ownValue ht]

theorem State.ownApply_setOpen (ht : target < 65536) :
    s.ownApply (ownValue 4 new target) = s.setOwn target (clearBits (s.ownByte target) 0x20) := by
  simp [State.ownApply, ownOp_ownValue, ownTarget_ownValue ht]

section
variable (ht : target < 65536) (hp : indexPresent target = true) (hl : s.locked target = false)
include ht hp hl

theorem State.ownStatus_give (h : s.owner target = pathClass a.path ∨ s.secureAcc a = true) :
    s.ownStatus a (ownValue 1 new target) = 0 := by
  rcases h with h | h <;> simp [State.ownStatus, ownOp_ownValue, ownTarget_ownValue ht, hp, hl, h]

theorem State.ownStatus_lock (h : s.owner target = pathClass a.path) : s.ownStatus a (ownValue 2 new target) = 0 := by
  simp [State.ownStatus, ownOp_ownValue, ownTarget_ownValue ht, hp, hl, h]

theorem State.ownStatus_secure (ho : op = 3 ∨ op = 4) (hs : s.secureAcc a = true) (hf : bitOf (s.ownByte target) 4 = false) :
    s.ownStatus a (ownValue op new target) = 0 := by
  rcases ho with rfl | rfl <;>
    simp [State.ownStatus, ownOp_ownValue, ownTarget_ownValue ht, hp, hl, hs, hf]

end

theorem State.ownByte_setOwn (s : State) (t b i : Nat) : (s.setOwn t b).ownByte i = if i = t then b else s.ownByte i := by
  simp only [State.ownByte, State.setOwn_own, tfind_tput]; split <;> rfl

/-- A served command that sets one ownership byte: that byte alone changes, and the access leaves its record. -/
theorem setOwn_done (s : State) (a : Acc) (k t b : Nat) :
    ((s.setOwn t b).done a k 0).ownByte t = b ∧ (∀ i, i ≠ t → ((s.setOwn t b).done a k 0).ownByte i = s.ownByte i) ∧
      ((s.setOwn t b).done a k 0).rd (K.pathLastStatus a.path) = 0 ∧
      Frame [.regs, .owners] (okAnd a []) s ((s.setOwn t b).done a k 0) := by
  have hown : ∀ i, ((s.setOwn t b).done a k 0).ownByte i = (s.setOwn t b).ownByte i := fun i =>
    congrArg (fun l => (tfind l i).getD (ownDflt i)) (((s.setOwn t b).done_ok_record a k).part .owners rfl)
  refine ⟨?_, fun i hi => ?_, State.done_ok_status .., (Eff.done_ok ((s.setOwn_eff _ _).after Eff.refl rfl) rfl).frame⟩
  · rw [hown, State.ownByte_setOwn, if_pos rfl]
  · rw [hown, State.ownByte_setOwn, if_neg hi]

end

/-! ### The HOST challenge (R45) -/

section
variable {a : Acc} {s : State}

theorem challengeRead_served (h : s.readStatus a K.chalChallenge = 0) :
    challengeRead a s =
      ({ s.fresh.2 with chal := { s.chal with value := some (s.fresh.1 % 2 ^ 64) } }).readDone a K.chalChallenge 0
        (s.fresh.1 % 2 ^ 64) := by
  simp only [challengeRead, h]; rfl

section
variable (hw : s.writeStatus a K.chalProofGo = 0) (hv : accVal a K.chalProofGo = 1) (hl : s.proofLocked = false)
include hw hv hl

theorem proofGoWrite_proved (hp : s.proofOk = true) :
    proofGoWrite a s =
      (({ s with chal := { s.chal with failed := 0 } }).wr (K.pathSecure 0) 1).done a K.chalProofGo 0 := by
  simp [proofGoWrite, hw, hv, hl, hp]

theorem proofGoWrite_failed (hp : s.proofOk = false) : proofGoWrite a s = s.proofFail.done a K.chalProofGo 14 := by
  simp [proofGoWrite, hw, hv, hl, hp]

end

theorem State.proofFail_chal_counts (h : s.chal.failed ≠ 2) : s.proofFail.chal = { s.chal with failed := s.chal.failed + 1 } := by
  simp [State.proofFail, h]

/-- The third failure in a row starts the lockout of one second. -/
theorem State.proofFail_chal_locks (h : s.chal.failed = 2) :
    s.proofFail.chal = { s.chal with failed := 0, lockedUntil := some (s.now + ms 1000) } := by
  simp [State.proofFail, h]

theorem proofLockoutEnd_locked {u : Nat} (h : s.chal.lockedUntil = some u) :
    proofLockoutEnd s = { s.at u with chal := { s.chal with lockedUntil := none } } := by
  simp [proofLockoutEnd, h]

theorem dropWrite_served {p : Nat} (hw : s.writeStatus a (K.pathDrop p) = 0) (hv : accVal a (K.pathDrop p) = 1) :
    dropWrite a p s = (s.wr (K.pathSecure p) 0).done a (K.pathDrop p) 0 := by
  rw [dropWrite, State.act_ok hw rfl, if_pos hv]

/-- Secure of a path is none of the entries of an access's record. -/
theorem recordKeys_skip_secure (a : Acc) (p : Nat) : (recordKeys a).any (·.has (K.pathSecure p)) = false := by
  simp only [recordKeys, KeySet.has, List.any_cons, List.any_nil, Bool.or_false, Bool.or_eq_false_iff, beq_eq_false_iff_ne]
  exact ⟨(ne_instKey _ rfl).symm, instKey_ne _ _, instKey_ne _ _⟩

end

/-- Settles O20: an ownership command is `setOwn` on its target's byte; the challenge's commands are read off their branches. A proof
attempt leaves the challenge's value in force, and DROP on a core's path ends that session's Secure alone (log 24). -/
theorem ownershipCommands : Obligations.OwnershipCommands := by
  unfold Obligations.OwnershipCommands
  refine ⟨fun a target newOwner s ht hw hp hl h => ?give, fun a target s ht hw hp hl h => ?lock,
    fun a target s ht hw hp hl hs hf => ?setSecure, fun a target s ht hw hp hl hs hf => ?setOpen, fun a s h => ?challenge,
    fun a s hw hv hl hp => ?proved, fun a s hw hv hl hp => ?failed, fun u s h => ?lockoutEnd, fun a p s hw hp hv => ?drop⟩
  case give =>
    refine ⟨_, congrArg Host.Outcome.next (ownWrite_served (by decide) hw (State.ownStatus_give ht hp hl h)), ?_⟩
    rw [State.ownApply_give ht]
    exact setOwn_done ..
  case lock =>
    refine ⟨_, congrArg Host.Outcome.next (ownWrite_served (by decide) hw (State.ownStatus_lock ht hp hl h)), ?_⟩
    rw [State.ownApply_lock ht]
    exact setOwn_done ..
  case setSecure =>
    refine ⟨_, congrArg Host.Outcome.next (ownWrite_served (by decide) hw (State.ownStatus_secure ht hp hl (.inl rfl) hs hf)), ?_⟩
    rw [State.ownApply_setSecure ht]
    exact setOwn_done ..
  case setOpen =>
    refine ⟨_, congrArg Host.Outcome.next (ownWrite_served (by decide) hw (State.ownStatus_secure ht hp hl (.inr rfl) hs hf)), ?_⟩
    rw [State.ownApply_setOpen ht]
    exact setOwn_done ..
  case challenge =>
    refine ⟨_, congrArg Host.Outcome.next (challengeRead_served h), ?_⟩
    set v := s.fresh.1 % 2 ^ 64
    set x : State := { s.fresh.2 with chal := { s.chal with value := some v } }
    have hpaths : Part.same .paths x (x.readDone a K.chalChallenge 0 v) :=
      ((Eff.refl (ps := [.regs, .reads]) (ks := [])).readDone_ok rfl rfl).part .paths rfl
    obtain ⟨hchal, hxfers, hsessions⟩ := hpaths
    have hx : Eff [.regs, .free, .reads, .paths] [] s x := Eff.upd_chal ((State.fresh_eff s).after Eff.refl rfl) rfl
    exact ⟨⟨v, congrArg Chal.value hchal, Nat.mod_lt _ (by decide), State.readDone_readData ..⟩, (congrArg Chal.failed hchal :),
      hxfers, hsessions, (hx.readDone_ok rfl rfl).frame⟩
  case proved =>
    refine ⟨_, congrArg Host.Outcome.next (proofGoWrite_proved hw hv hl hp), ?_⟩
    have hx : Eff [.regs, .paths] [.one (K.pathSecure 0)] s
        (({ s with chal := { s.chal with failed := 0 } }).wr (K.pathSecure 0) 1) := (Eff.upd_chal Eff.refl rfl).wr rfl rfl
    refine ⟨?_, ((State.done_ok_record _ a _).part .paths rfl).1, State.done_ok_status .., (hx.done_ok rfl).frame⟩
    rw [(State.done_ok_record _ a _).rd _ (recordKeys_skip_secure a 0), State.rd_wr_self]
  case failed =>
    refine ⟨_, congrArg Host.Outcome.next (proofGoWrite_failed hw hv hl hp), ?_⟩
    have hf : Eff (withSide [.paths]) (okSide a (refusalKeys a)) s (s.proofFail.done a K.chalProofGo 14) :=
      ((s.proofFail_eff).after Eff.refl rfl).done_refused (by decide) (by decide)
    have hchal : (s.proofFail.done a K.chalProofGo 14).chal = s.proofFail.chal :=
      ((State.done_eff s.proofFail a K.chalProofGo 14).part .paths rfl).1
    refine ⟨State.done_refused_status _ _ _ (by decide), ?_, fun h => ?_, fun h => ?_, hf.frame⟩
    · rw [State.done_refused_rd _ _ _ (by decide), (State.refusal_eff ..).rd _ (refusalKeys_skip ..),
        (State.recorded_eff ..).rd _ (recordKeys_skip_secure a 0), s.proofFail_eff.rd _ rfl]
    · rw [hchal, State.proofFail_chal_counts h]
    · rw [hchal, State.proofFail_chal_locks h]
  case lockoutEnd =>
    refine ⟨proofLockoutEnd s, rfl, ?_, ?_, (proofLockoutEnd_eff s).frame⟩ <;> rw [proofLockoutEnd_locked h]
    exact s.at_now u
  case drop =>
    refine ⟨dropWrite a p s, inst_true (Nat.blt_eq.mpr hp), ?_⟩
    rw [dropWrite_served hw hv]
    exact wr_done (recordKeys_skip_secure a p)

end Sys2Proof.Machine

/-! SUPPORT. UDP sessions (O22): what setting a session, closing one and answering a datagram leave, and what each message does where
R56 to R59 let it through. -/

namespace Sys2Proof.Machine

/-! ### Answers (R56, R484) -/

@[simp] theorem State.resolve_udpOut (s : State) (p addr : Nat) : (s.resolve p addr).udpOut = s.udpOut := by
  unfold State.resolve
  extract_lets ip
  split <;> rfl

@[simp] theorem State.udpReply_udpOut (s : State) (eth addr port : Nat) (l : List Nat) :
    (s.udpReply eth addr port l).udpOut = s.udpOut ++ [{ eth := eth, addr := addr, udpPort := port, src := 52410, bytes := l }] :=
  congrArg (· ++ _) (s.resolve_udpOut eth addr)

/-- A frame that leaves a port is counted for that port alone. -/
theorem State.sendFrame_eff_port (s : State) (p : Nat) (f : List Nat) :
    Eff [.regs, .out] [.one (K.ethsFramesOut p)] s (s.sendFrame p f) :=
  Eff.upd_ethOut (Eff.refl.inc rfl (by simp [KeySet.has])) rfl

theorem State.udpReply_eff_port (s : State) (eth addr port : Nat) (l : List Nat) :
    Eff [.regs, .out] [.one (K.ethsFramesOut eth)] s (s.udpReply eth addr port l) := by
  have hres : Eff [.regs, .out] [.one (K.ethsFramesOut eth)] s (s.resolve eth addr) := by
    unfold State.resolve
    exact Eff.ite Eff.refl (s.sendFrame_eff_port eth _)
  exact Eff.upd_udpOut (hres.inc rfl (by simp [KeySet.has])) rfl

/-! ### Setting and closing a session (R58, R59) -/

theorem State.setSess_sessions (s : State) (i j : Nat) (x : Sess) :
    tfind (s.setSess i x).sessions j = if j = i then some x else tfind s.sessions j := tfind_tput ..

theorem State.closeSess_sessions (s : State) (i j : Nat) :
    tfind (s.closeSess i).sessions j = if j = i then none else tfind s.sessions j := tfind_terase ..

section
variable (s : State) (i : Nat) (x : Sess) (eth addr port : Nat) (l : List Nat)

/-- A session is set and its client answered: no other session and nothing else of the paths changes, and the answer is sent last. -/
theorem State.answered_sessions (j : Nat) :
    tfind ((s.setSess i x).udpReply eth addr port l).sessions j = if j = i then some x else tfind s.sessions j := by
  obtain ⟨-, -, hsessions⟩ := ((s.setSess i x).udpReply_eff eth addr port l).part .paths rfl
  rw [hsessions, State.setSess_sessions]

theorem State.answered_chal : ((s.setSess i x).udpReply eth addr port l).chal = s.chal :=
  (((s.setSess i x).udpReply_eff eth addr port l).part .paths rfl).1

theorem State.answered_xfers : ((s.setSess i x).udpReply eth addr port l).xfers = s.xfers := by
  obtain ⟨-, hxfers, -⟩ := ((s.setSess i x).udpReply_eff eth addr port l).part .paths rfl
  exact hxfers

theorem State.answered_udpOut : ((s.setSess i x).udpReply eth addr port l).udpOut =
    s.udpOut ++ [{ eth := eth, addr := addr, udpPort := port, src := 52410, bytes := l }] := State.udpReply_udpOut ..

theorem State.answered_eff : Eff [.regs, .paths, .out] [.one K.udpSessionsOpen, .one (K.ethsFramesOut eth)] s
    ((s.setSess i x).udpReply eth addr port l) :=
  (State.udpReply_eff_port ..).after ((s.setSess_eff i x).after Eff.refl (fits_of_subset (by decide) (by simp)))
    (fits_of_subset (by decide) (by simp))

end

/-! ### The messages (R56 to R59) -/

section
variable {g : Datagram} {s : State} {i ty : Nat} {x : Sess}

theorem udpTake_good {f : Datagram → State → State} (h : s.udpIn ty g = .good) : udpTake ty f g s = f g s := by
  simp only [udpTake, h]

theorem udpTake_badTag {f : Datagram → State → State} (h : s.udpIn ty g = .badTag) :
    udpTake ty f g s = s.inc 32 K.udpBadTagCount := by
  simp only [udpTake, h]

/-- The session that an OPEN_REQ opens: challenged with two free words. -/
def State.challenged (s : State) (g : Datagram) : Sess :=
  { state := 1, cNonce := udpBody g.bytes, dNonce := leBytes 8 s.fresh.1 ++ leBytes 8 s.fresh.2.fresh.1, heard := s.now, eth := g.eth,
    addr := g.addr, udpPort := g.udpPort }

theorem openReq_opens (hl : udpLengthOk g.bytes = true) (hb : (udpBody g.bytes).length = 16)
    (hk : s.rd K.udpOpenPolicy ≠ 0 ∨ s.lineKey.isSome = true) (hi : s.freeSess = some i) :
    openReq g s = (s.fresh.2.fresh.2.setSess i (s.challenged g)).udpReply g.eth g.addr g.udpPort
      (udpMessage (s.challenged g) 0x02 i (udpTarget g.bytes) (udpSequence g.bytes) 0 (s.challenged g).dNonce) := by
  have hproof : ¬ (s.rd K.udpOpenPolicy = 0 ∧ s.lineKey.isNone = true) := by
    rintro ⟨hpolicy, hnone⟩
    rcases hk with h | h
    · exact h hpolicy
    · rw [Option.isNone_iff_eq_none.mp hnone] at h
      cases h
  unfold openReq
  rw [if_neg (by simp [hl, hb]), if_neg hproof, hi]
  rfl

theorem State.challenged_dNonce (s : State) (g : Datagram) : (s.challenged g).dNonce.length = 16 := rfl

theorem openProof_right {key : List Nat} (hx : tfind s.sessions (udpSession g.bytes) = some x) (hk : s.lineKey = some key)
    (hl : udpLengthOk g.bytes = true) (ha : x.auth = false)
    (hb : udpBody g.bytes = hmac key (x.dNonce ++ x.cNonce ++ leBytes 2 (udpSession g.bytes))) :
    ∃ l, openProof g s = (s.setSess (udpSession g.bytes)
      { x with heard := s.now, state := 2, auth := true, key := hmac key (x.cNonce ++ x.dNonce) }).udpReply g.eth g.addr g.udpPort l := by
  simp only [openProof, hx, hk, hl, ha, hb, not_true_eq_false, if_false, ne_eq, or_self, Bool.false_eq_true]
  exact ⟨_, rfl⟩

/-- The session may make requests (R58). -/
theorem State.request_admitted (ha : x.auth = true ∨ s.rd K.udpOpenPolicy ≠ 0) :
    ¬ (¬ x.auth = true ∧ s.rd K.udpOpenPolicy = 0) := fun ⟨hauth, hpolicy⟩ => ha.elim hauth (· hpolicy)

section
variable {rs : List DRec} (hx : tfind s.sessions (udpSession g.bytes) = some x)
  (ha : x.auth = true ∨ s.rd K.udpOpenPolicy ≠ 0) (hl : udpLengthOk g.bytes = true)
  (hr : bodyRecords (udpCount g.bytes) (udpBody g.bytes) = some rs)
include hx ha hl hr

theorem udpRequest_older (hs : x.started = true) (hq : udpSequence g.bytes < x.lastSeq) :
    udpRequest g s = (s.setSess (udpSession g.bytes) { x with heard := s.now }).inc 32 K.udpReplayCount := by
  simp only [udpRequest, hx, State.request_admitted ha, hl, hr, hs, hq, if_true, if_false, and_self]

theorem udpRequest_repeat (hs : x.started = true) (hq : udpSequence g.bytes = x.lastSeq) (hn : x.lastResp ≠ []) :
    udpRequest g s =
      (s.setSess (udpSession g.bytes) { x with heard := s.now }).udpReply g.eth g.addr g.udpPort x.lastResp := by
  simp only [udpRequest, hx, State.request_admitted ha, hl, hr, hs, hq, hn, lt_irrefl, if_true, if_false, and_self, and_false]

theorem udpRequest_newer (hn : x.started = false ∨ x.lastSeq < udpSequence g.bytes) (ho : s.udpOwn g.bytes = true) :
    udpRequest g s = s.udpExecute g { x with heard := s.now, state := 2, started := true, lastSeq := udpSequence g.bytes }
      (udpSession g.bytes) rs := by
  have hnew : ¬ (x.started = true ∧ udpSequence g.bytes ≤ x.lastSeq) := by
    rintro ⟨hstarted, hseq⟩
    rcases hn with h | h
    · rw [h] at hstarted; cases hstarted
    · omega
  have hold : ¬ (x.started = true ∧ udpSequence g.bytes < x.lastSeq) := fun ⟨h, hlt⟩ => hnew ⟨h, hlt.le⟩
  have hrep : ¬ (x.started = true ∧ udpSequence g.bytes = x.lastSeq) := fun ⟨h, heq⟩ => hnew ⟨h, heq.le⟩
  simp only [udpRequest, hx, State.request_admitted ha, hl, hr, hold, hrep, ho, if_true, if_false]

end

theorem sessionTimeout_due (hx : tfind s.sessions i = some x) (ht : s.rd K.udpSessionTimeout ≠ 0) :
    sessionTimeout i s = (s.at (x.heard + ms (s.rd K.udpSessionTimeout))).closeSess i := by
  simp only [sessionTimeout, hx, ht, if_false]

/-- A request executed here: its records run, and the RESPONSE is kept in the session and sent. -/
theorem State.udpExecute_runs {rs : List DRec} {body : List Nat} {u : State}
    (h : runRecords { path := 5, secure := x.auth, readOnly := !x.auth && s.rd K.udpOpenPolicy == 1 } 1440 rs s = (body, u)) :
    s.udpExecute g x i rs = (u.setSess i
      { x with lastResp := udpMessage x 0x11 i (udpTarget g.bytes) (udpSequence g.bytes) rs.length body }).udpReply g.eth g.addr
        g.udpPort (udpMessage x 0x11 i (udpTarget g.bytes) (udpSequence g.bytes) rs.length body) := by
  simp only [State.udpExecute, h]

end

/-- Settles O22: each message that R56 lets through sets or closes the one session it names, and what it sends is the last datagram out.
A session takes the lowest free number and counts as open from its OPEN_REQ on; a bad tag is dropped and counted (log 25). -/
theorem udpSessionCommands : Obligations.UdpSessionCommands := by
  unfold Obligations.UdpSessionCommands
  refine ⟨fun g i s hg hl hb hk hi => ?openReq, fun g x key s hg hx hk hl ha hb => ?openProof,
    fun g x rs s hg hx ha hl hr hs hq => ?older, fun g x rs s hg hx ha hl hr hs hq hn => ?repeated,
    fun g x rs body u s hg hx ha hl hr hn ho hrun => ?newer, fun g s hg => ?close, fun i x s hx ht => ?timeout, fun g s hg => ?badTag⟩
  case openReq =>
    refine ⟨_, congrArg Host.Outcome.next ((udpTake_good hg).trans (openReq_opens hl hb hk hi)), ?_⟩
    have hfresh : Eff [.free, .regs, .paths, .out] [.one K.udpSessionsOpen, .one (K.ethsFramesOut g.eth)] s s.fresh.2.fresh.2 :=
      (State.fresh_eff _).after ((State.fresh_eff s).after Eff.refl rfl) rfl
    refine ⟨⟨s.challenged g, ?_, rfl, rfl, rfl, s.challenged_dNonce g, rfl, State.answered_udpOut ..⟩, fun j hj => ?_,
      State.answered_chal .., State.answered_xfers ..,
      ((State.answered_eff ..).after hfresh (fits_of_subset (by decide) (List.Subset.refl _))).frame⟩
    · rw [State.answered_sessions, if_pos rfl]
    · rw [State.answered_sessions, if_neg hj]
      rfl
  case openProof =>
    obtain ⟨l, hopen⟩ := openProof_right hx hk hl ha hb
    refine ⟨_, congrArg Host.Outcome.next ((udpTake_good hg).trans hopen), ?_, fun j hj => ?_, State.answered_chal ..,
      State.answered_xfers .., (State.answered_eff ..).frame⟩
    · rw [State.answered_sessions, if_pos rfl]
    · rw [State.answered_sessions, if_neg hj]
  case older =>
    refine ⟨_, congrArg Host.Outcome.next ((udpTake_good hg).trans (udpRequest_older hx ha hl hr hs hq)), ?_, rfl,
      fun j hj => ?_, rfl, rfl, (Eff.inc ((State.setSess_eff ..).after Eff.refl rfl) rfl rfl).frame⟩
    · rw [State.rd_inc_self, (State.setSess_eff ..).rd _ rfl]
    · exact (State.setSess_sessions ..).trans (if_neg hj)
  case repeated =>
    refine ⟨_, congrArg Host.Outcome.next ((udpTake_good hg).trans (udpRequest_repeat hx ha hl hr hs hq hn)),
      State.answered_udpOut .., fun j hj => ?_, State.answered_chal .., State.answered_xfers .., (State.answered_eff ..).frame⟩
    rw [State.answered_sessions, if_neg hj]
  case newer =>
    refine ⟨_, congrArg Host.Outcome.next ((udpTake_good hg).trans
      ((udpRequest_newer hx ha hl hr hn ho).trans (State.udpExecute_runs hrun))),
      ⟨_, (State.answered_sessions ..).trans (if_pos rfl), rfl, rfl, rfl, rfl, rfl, State.answered_udpOut ..⟩,
      (State.answered_eff ..).frame⟩
  case close =>
    refine ⟨_, congrArg Host.Outcome.next (udpTake_good hg), ?_, fun j hj => ?_, rfl, rfl, (State.closeSess_eff ..).frame⟩
    · exact (State.closeSess_sessions ..).trans (if_pos rfl)
    · exact (State.closeSess_sessions ..).trans (if_neg hj)
  case timeout =>
    refine ⟨sessionTimeout i s, rfl, ?_⟩
    have hframe := (sessionTimeout_eff i s).frame
    rw [sessionTimeout_due hx ht] at hframe ⊢
    refine ⟨?_, fun j hj => ?_, s.at_now _, rfl, rfl, hframe⟩
    · rw [State.closeSess_sessions, if_pos rfl]
    · rw [State.closeSess_sessions, if_neg hj, State.at_sessions]
  case badTag =>
    exact ⟨_, congrArg Host.Outcome.next (udpTake_badTag hg), State.rd_inc_self .., (Eff.inc Eff.refl rfl rfl).frame⟩

end Sys2Proof.Machine

/-! SUPPORT. Applying a group whose Shadow bank lists one entry twice (O19): reading the bank takes the first value listed, `goLive`
moves them all in order and the last one stands. -/

namespace Sys2Proof.Machine

/-- SourceEvent of event channel 0 is staged twice, first as 1 and then as 2, and its group's commit is PENDING. -/
def twiceStaged : State :=
  { State.reset with regs := [(K.commit 0x4700, 1)], shadow := [(K.chSourceEvent 0, 1), (K.chSourceEvent 0, 2)] }

/-- A read of the Shadow bank takes the first value listed. -/
theorem twiceStaged_sh : twiceStaged.sh (K.chSourceEvent 0) = 1 := rfl

/-- The group's apply is the common one: its chapter adds nothing. -/
theorem twiceStaged_applyWith : twiceStaged.applyWith 0x4700 = twiceStaged.applyGroup 0x4700 := rfl

/-- The last value listed is the one that becomes live. -/
theorem twiceStaged_applied : (commitApply 0x4700 twiceStaged).rd (K.chSourceEvent 0) = 2 := by decide

/-- Refutes O19, by its last clause: the clause is stated for every State, and one whose Shadow bank lists an entry twice, as in
`twiceStaged`, applies the last value listed where `sh` reads the first. `stage` replaces an entry's staged value, so a bank built by it
lists each entry once; the clause has no such premise. -/
theorem not_groupCommits : ¬ Obligations.GroupCommits := by
  unfold Obligations.GroupCommits
  rintro ⟨-, -, -, happly⟩
  obtain ⟨t, hexec, hlive, -⟩ := happly 0x4700 twiceStaged (by decide) (by decide) (by decide) twiceStaged_applyWith
  have ht : commitApply 0x4700 twiceStaged = t := Host.Outcome.next.inj hexec
  have hrd : t.rd (K.chSourceEvent 0) = twiceStaged.sh (K.chSourceEvent 0) := hlive 1 (by decide)
  rw [← ht, twiceStaged_applied, twiceStaged_sh] at hrd
  exact absurd hrd (by decide)

end Sys2Proof.Machine

/-! SUPPORT. Encoder inputs and counts (O23): what counting, a transient fault and the loss of the web master leave in a channel's record
and entries, and what each command of the inputs comes to where its rule lets it through. -/

namespace Sys2Proof.Machine

/-! ### An entry of a numbered group, and the encoder channels' records, through a frame -/

section
variable {ps : List Part} {ks : List KeySet} {s t : State}

/-- An entry of a numbered group, when the entry of none of its numbers stands in the frame. -/
theorem Eff.rd_inst {b m n : Nat} (h : Eff ps ks s t) (hn : n < m)
    (hk : ∀ i < m, ks.any (·.has (instKey b m i)) = false := by decide) : t.rd (instKey b m n) = s.rd (instKey b m n) :=
  h.rd _ (hk n hn)

theorem Eff.encs (h : Eff ps ks s t) (hp : ps.contains .wheel = false := by rfl) : t.encs = s.encs := (h.part .wheel hp).1

end

theorem State.enc_of_encs {s t : State} (h : t.encs = s.encs) (n : Nat) : t.enc n = s.enc n := 
  congrArg (fun l => tget ({} : Enc) l n) h

/-! ### Loss of the web master, faults and retirement (R80 to R84) -/

/-- The loss of the web master sets the offset or freezes the position, and leaves the Wheel's other records alone. -/
theorem State.masterLost_records (s : State) (p : Int) : ∃ w : Wheel, w.lost = s.wheel.lost ∧
    Eff sideParts (sideAnd [.one K.whlActiveMaster, .one K.whlSwitchovers, .one K.whlWheelStatus]) { s with wheel := w }
      (s.masterLost p) := by
  unfold State.masterLost
  split
  · exact ⟨s.wheel, rfl, Eff.refl⟩
  · split
    · exact ⟨{ s.wheel with offset := p - s.sourceP (s.rd K.whlRedundantChannel) }, rfl,
        (State.raise_eff ..).after (Eff.flag (Eff.inc (Eff.wr Eff.refl rfl rfl) rfl rfl) rfl rfl) rfl⟩
    · exact ⟨{ s.wheel with frozen := some p }, rfl, (State.raise_eff ..).after (Eff.flag Eff.refl rfl rfl) rfl⟩

theorem State.masterLost_encs (s : State) (p : Int) : (s.masterLost p).encs = s.encs := by
  obtain ⟨w, -, h⟩ := s.masterLost_records p
  exact h.encs

theorem State.encRetire_encs (s : State) (n bit : Nat) : (s.encRetire n bit).encs = s.encs := by
  unfold State.encRetire
  extract_lets p faults x y
  have hy : Eff sideParts (sideAnd [.fam (K.encsChannelState 0) 4, .fam (K.encsStatus 0) 4, .one K.fltFaultStatus,
      .one K.fltLastRetiredUnit, .one K.fltRetiredCount]) s y :=
    (State.retire_eff ..).after ((State.raise_eff ..).after
      (Eff.flag (Eff.wr Eff.refl rfl (KeySet.any_fam _ rfl)) rfl (KeySet.any_fam _ rfl)) rfl) rfl
  split
  · exact (State.masterLost_encs ..).trans hy.encs
  · exact hy.encs

theorem State.indexMismatch_acc (s : State) (n : Nat) (missing : Bool) :
    ((s.indexMismatch n missing).enc n).acc = (s.enc n).acc := by
  unfold State.indexMismatch
  extract_lets e x y z lim
  have hx : (x.enc n).acc = (s.enc n).acc := by rw [State.enc_setEnc_self]
  have hz : Eff sideParts (sideAnd [.fam (K.encsStatus 0) 4, .fam (K.encsMismatchCount 0) 4]) x z :=
    (State.raise_eff ..).after (Eff.inc (Eff.flag Eff.refl rfl (KeySet.any_fam _ rfl)) rfl (KeySet.any_fam _ rfl)) rfl
  split
  · rw [State.enc_of_encs ((State.encRetire_encs ..).trans hz.encs), hx]
  · rw [State.enc_of_encs hz.encs, hx]

theorem State.transient_count (s : State) (unit bit window : Nat) :
    (s.transient unit bit window).rd K.fltTransientCount = (s.rd K.fltTransientCount + 1) % 2 ^ 32 := by
  unfold State.transient
  extract_lets x l
  have h : Eff sideParts (sideAnd [.one K.fltFaultStatus]) (x.inc 32 K.fltTransientCount)
      ((((x.inc 32 K.fltTransientCount).flag K.fltFaultStatus 2 3).witness 0x10 unit 0 bit l).raise Ev.fltTransient) :=
    (State.raise_eff ..).after ((State.witness_eff ..).after (Eff.flag Eff.refl rfl rfl) rfl) rfl
  rw [h.rd _ rfl, State.rd_inc_self]
  rfl

/-- A transient fault of a channel is counted for the channel and for the device (R81, R501); a retirement that follows moves neither
count. -/
theorem State.encFault_counts (s : State) {n : Nat} (bit : Nat) (hn : n < 4) :
    (s.encFault n bit).rd (K.encsErrorCount n) = (s.rd (K.encsErrorCount n) + 1) % 2 ^ 32 ∧
      (s.encFault n bit).rd K.fltTransientCount = (s.rd K.fltTransientCount + 1) % 2 ^ 32 := by
  unfold State.encFault
  extract_lets x y
  have hflag : Eff sideParts (sideAnd [.fam (K.encsStatus 0) 4]) s (s.flag (K.encsStatus n) (2 ^ bit) 37) :=
    Eff.flag Eff.refl rfl (KeySet.any_fam _ rfl)
  have hx : x.rd (K.encsErrorCount n) = (s.rd (K.encsErrorCount n) + 1) % 2 ^ 32 := by
    rw [State.rd_inc_self, hflag.rd_inst hn]
  have hx' : x.rd K.fltTransientCount = s.rd K.fltTransientCount := by
    rw [State.rd_inc_ne _ _ (ne_instKey _ rfl), hflag.rd _ rfl]
  have hy : y.rd (K.encsErrorCount n) = x.rd (K.encsErrorCount n) := (State.transient_eff ..).rd_inst hn
  have hy' : y.rd K.fltTransientCount = (x.rd K.fltTransientCount + 1) % 2 ^ 32 := State.transient_count ..
  split
  · rw [(State.encRetire_eff ..).rd_inst hn, (State.encRetire_eff ..).rd _ rfl, hy, hy', hx, hx']
    exact ⟨rfl, rfl⟩
  · rw [hy, hy', hx, hx']
    exact ⟨rfl, rfl⟩

/-! ### Counting (R69 to R73, R79) -/

theorem State.encHold_acc (s : State) (n : Nat) (reached : Int) (fwd : Bool) :
    ((s.encHold n reached fwd).enc n).acc = (s.enc n).acc := by
  unfold State.encHold
  exact iteInduction (motive := fun y : State => (y.enc n).acc = (s.enc n).acc) (fun _ => by rw [State.enc_setEnc_self])
    fun _ => rfl

theorem State.cmpPass_encs (n old : Nat) (k : Int) (s : State) (m : Nat) : (State.cmpPass n old k s m).encs = s.encs := by
  unfold State.cmpPass
  extract_lets c cpr v fwd
  split
  · split
    · rfl
    · split <;> rfl
  · rfl

theorem State.foldl_cmpPass_encs (n old : Nat) (k : Int) (l : List Nat) (s : State) :
    (l.foldl (State.cmpPass n old k) s).encs = s.encs :=
  List.foldlRecOn (motive := fun y => y.encs = s.encs) l _ rfl
    fun y h m _ => (State.cmpPass_encs n old k y m).trans h

/-- The entries that may change in the checks after the rotary counter has moved: index, direction, and a retirement (R75, R79 to R84). -/
def encCheckKeys : List KeySet :=
  sideAnd [.fam (K.encsChannelState 0) 4, .fam (K.encsDirection 0) 4, .fam (K.encsHighWater 0) 4, .fam (K.encsMismatchCount 0) 4,
    .fam (K.encsPosition 0) 4, .fam (K.encsStatus 0) 4, .one K.fltFaultStatus, .one K.fltLastRetiredUnit, .one K.fltRetiredCount,
    .one K.whlActiveMaster, .one K.whlSwitchovers, .one K.whlWheelStatus]

/-- Counting in three stages: the accumulator moves (R70), then the rotary counter (R69) with the checks that follow from it, and last
the entries show the channel, and the Mirror outputs and the cross-check follow. -/
theorem State.encCount_stages (s : State) (n : Nat) (k : Int) (te : Nat) (hn : n < 4) : ∃ x y : State,
    Eff (withSide [.wheel]) (sideAnd [.fam (K.encsDirection 0) 4, .fam (K.encsHighWater 0) 4, .fam (K.encsPosition 0) 4,
      .fam (K.encsStatus 0) 4]) s x ∧
    (x.enc n).acc = accStep (s.enc n).acc (s.encScaleI n) k ∧
    Eff (withSide [.wheel]) encCheckKeys
      (x.wr (K.encsRotary n) (rotaryStep (x.rd (K.encCountsPerRev n)) (x.rd (K.encsRotary n)) k)) y ∧
    (y.enc n).acc = (x.enc n).acc ∧
    Eff (withSide [.pins, .wheel]) (sideAnd [.fam (K.mirEmuLag 0) 4, .fam (K.mirMirrorStatus 0) 4, .one K.whlWheelStatus])
      (y.encShow n) (s.encCount n k te) := by
  unfold State.encCount
  extract_lets s1 reached smooth e scale acc same e' s2 s3 s4 old cpr s5 s6 m watch r src s7 s8 s9
  have h1 := s.encTrack_eff n false
  have he : e.acc = (s.enc n).acc := congrArg Enc.acc (State.enc_of_encs h1.encs n)
  have hscale : scale = s.encScaleI n := congrArg (toI 64) (h1.rd_inst hn)
  have h3 : Eff [.regs] [.fam (K.encsStatus 0) 4] s2 s3 := Eff.ite (Eff.wr Eff.refl rfl (KeySet.any_fam _ rfl)) Eff.refl
  have h4 : Eff [.wheel] [] s3 s4 := Eff.ite (State.encHold_eff ..) Eff.refl
  have hacc : (s4.enc n).acc = (s3.enc n).acc := by
    unfold s4
    split
    · exact State.encHold_acc ..
    · rfl
  have h6 : Eff (withSide [.wheel]) encCheckKeys s5 s6 := Eff.foldl (fun _ _ h => (State.cmpPass_eff ..).after h rfl) Eff.refl
  have h7 := Eff.ite (c := watch = true) ((State.setEnc_eff s6 n { s6.enc n with armed := r.1 }).after h6 rfl) h6
  have h8 := Eff.ite (c := watch = true ∧ r.2 = true) ((State.indexMismatch_eff s7 n true).after h7 rfl) h7
  have h6acc : (s6.enc n).acc = (s4.enc n).acc :=
    congrArg Enc.acc (State.enc_of_encs (State.foldl_cmpPass_encs n old k (List.range 16) s5) n)
  have h7acc : (s7.enc n).acc = (s6.enc n).acc := by
    unfold s7
    split
    · rw [State.enc_setEnc_self]
    · rfl
  have h8acc : (s8.enc n).acc = (s7.enc n).acc := by
    unfold s8
    split
    · exact State.indexMismatch_acc ..
    · rfl
  have hlast := s8.encTrack_eff n (decide (k < 0))
  refine ⟨s4, s8.encTrack n (decide (k < 0)), ?moved, ?acc, hlast.after h8 rfl, ?kept, ?shown⟩
  case moved => exact h4.after (h3.after ((State.setEnc_eff ..).after (h1.after Eff.refl rfl) rfl) rfl) rfl
  case acc => rw [hacc, State.enc_of_encs (h3.encs rfl), State.enc_setEnc_self, ← he, ← hscale]
  case kept => rw [State.enc_of_encs hlast.encs, h8acc, h7acc, h6acc]
  case shown =>
    exact (State.crossCheck_eff ..).after (Eff.foldl (fun _ _ h => (State.mirCount_eff ..).after h rfl) Eff.refl) rfl

section
variable (s : State) {n : Nat} (k : Int) (te : Nat) (hn : n < 4)
include hn

theorem State.encCount_rotary : (s.encCount n k te).rd (K.encsRotary n) =
    rotaryStep (s.rd (K.encCountsPerRev n)) (s.rd (K.encsRotary n)) k := by
  obtain ⟨x, y, hx, -, hy, -, ht⟩ := s.encCount_stages n k te hn
  rw [ht.rd_inst hn, (State.encShow_eff ..).rd_inst hn, hy.rd_inst hn, State.rd_wr_self, hx.rd_inst hn, hx.rd_inst hn]

theorem State.encCount_counted : (s.encCount n k te).rd (K.encsCountedPosition n) =
    ofI 64 (wholePos (accStep (s.enc n).acc (s.encScaleI n) k)) := by
  obtain ⟨x, y, -, hx, -, hy, ht⟩ := s.encCount_stages n k te hn
  rw [ht.rd_inst hn, State.encShow, State.rd_wr_ne _ _ (instKey_ne _ _), State.rd_wr_self, hy, hx]

end

/-! ### The commands of the inputs (R65 to R68, R71) -/

theorem Enc.pin_setPin (e : Enc) (i : EncIn) (p : EncPin) : (e.setPin i p).pin i = p := by cases i <;> rfl

section
variable {n : Nat} {i : EncIn} {k : Int} {s : State}

/-- A change of level sets the input's record; what the Mirror outputs pass on stands in pins alone (R98). -/
theorem encoderTransition_encs {level : Bool} (h : ((s.enc n).pin i).level ≠ level) :
    (encoderTransition n i level s).encs =
      (s.setEnc n ((s.enc n).setPin i { (s.enc n).pin i with level := level, since := s.now })).encs := by
  rw [encoderTransition, if_neg h]
  exact (Eff.foldl (ps := [.pins]) (ks := []) (fun _ _ h => (State.mirInput_eff ..).after h rfl) Eff.refl).encs

/-- The channel's record once a transition of A or B first sampled at `since` is accepted. -/
def Enc.acceptQuad (e : Enc) (since : Nat) : Enc := { e with a := e.a.takeIf since, b := e.b.takeIf since }

/-- An accepted transition of A or B in QUAD whose decode is a count is that count, at the end of its filter. -/
theorem countAccepted_quad (hz : i ≠ .z) (hm : s.rd (K.encMode n) = 1) (ha : s.encActive n = true)
    (hr : s.encReady n ((s.enc n).pin i) = true)
    (hd : s.encDecode n (s.enc n) ((s.enc n).acceptQuad ((s.enc n).pin i).since) = some k) (hk : k ≠ 0) :
    countAccepted n i s = ((s.at (((s.enc n).pin i).since + s.rd (K.encFilterLength n))).setEnc n
      ((s.enc n).acceptQuad ((s.enc n).pin i).since)).encCount n (s.encSign n k) ((s.enc n).pin i).since := by
  have hready : ¬ (¬ s.encActive n = true ∨ ¬ s.encReady n ((s.enc n).pin i) = true ∨
      s.rd (K.encMode n) = 2 ∨ s.rd (K.encMode n) = 3) := by simp [ha, hr, hm]
  rw [countAccepted, if_neg hready, if_neg (fun h => hz h.1), if_neg (by rw [hm]; decide)]
  extract_lets x e y
  split
  case h_1 h => cases h.symm.trans hd
  case h_2 h => exact absurd (Option.some.inj (hd.symm.trans h)) hk
  case h_3 j _ h =>
    cases h.symm.trans hd
    rfl

/-- When a channel's next serial frame may start (R67). -/
def State.frameDue (s : State) (n : Nat) : Nat :=
  match (s.enc n).framed with
  | none => 0
  | some u => u + us (s.rd (K.encSerialPeriod n))

theorem serialFrameStart_active (ha : s.encActive n = true) (hm : s.rd (K.encMode n) = 2 ∨ s.rd (K.encMode n) = 3) :
    serialFrameStart n s = (s.at (s.frameDue n)).setEnc n { s.enc n with
      frameAt := some (max s.now (s.frameDue n)), framed := some (max s.now (s.frameDue n)) } := by
  have hserial : ¬ (¬ s.encActive n = true ∨ s.rd (K.encMode n) ≠ 2 ∧ s.rd (K.encMode n) ≠ 3) := by
    rcases hm with h | h <;> simp [ha, h]
  rw [serialFrameStart, if_neg hserial]
  rfl

/-- The change of position between a channel's last frame, at `r`, and this one (R68). -/
def State.frameStep (s : State) (n : Nat) (f : SerialFrame) (r : Nat) : Int :=
  toI (s.rd (K.encSerialBits n)) (ofI (s.rd (K.encSerialBits n)) ((s.framePos n f : Int) - r))

section
variable {f : SerialFrame} {t0 r : Nat} (ha : s.encActive n = true) (ht : (s.enc n).frameAt = some t0)
include ha ht

/-- A valid SSI frame that has moved is the count of its change, taken with the frame's record set. -/
theorem serialFrame_counts (hm : s.rd (K.encMode n) = 3) (hr : (s.enc n).ref = some r) (hb : s.frameBad n f = false)
    (hd : s.frameStep n f r ≠ 0) : ∃ (z : State) (te : Nat), Eff [.wheel] [] s z ∧
      serialFrame n f s = z.encCount n (s.encSign n (s.frameStep n f r)) te := by
  unfold serialFrame
  extract_lets e
  split
  case h_1 h => cases h.symm.trans ht
  case h_2 x y v _ z _ _ t _ =>
    have hbad : ¬ x.frameBad n f = true := by
      rw [show x.frameBad n f = s.frameBad n f from rfl, hb]
      decide
    have hy : y = x := if_neg fun h => absurd (hm.symm.trans h.1) (by decide)
    rw [if_neg (not_not_intro ha), if_neg hbad]
    split
    case h_1 h => cases h.symm.trans hr
    case h_2 h =>
      cases h.symm.trans hr
      have hz : Eff [.wheel] [] s z := (State.setEnc_eff ..).after (Eff.to hy ((State.setEnc_eff ..).after Eff.refl rfl)) rfl
      have hv : v = s.framePos n f := (congrArg (fun y : State => y.framePos n f) hy :)
      extract_lets te d
      have hd' : d = s.frameStep n f r := by
        unfold d
        rw [hz.rd _ rfl, hv]
        rfl
      have hsign : z.encSign n d = s.encSign n (s.frameStep n f r) := by
        rw [hd', State.encSign, State.on, hz.rd _ rfl]
        rfl
      exact ⟨z, te, hz, (if_neg (hd' ▸ hd)).trans (congrArg (z.encCount n · te) hsign)⟩

theorem serialFrame_bad (hb : s.frameBad n f = true) :
    serialFrame n f s = (s.setEnc n { s.enc n with frameAt := none }).encFault n 1 := by
  have hbad : (s.setEnc n { s.enc n with frameAt := none }).frameBad n f = true := hb
  simp only [serialFrame, ht, ha, hbad, not_true_eq_false, if_false, if_true]

end

theorem stallTimeout_due {u : Nat} (ha : s.encActive n = true) (hl : (s.enc n).last = some u) (hs : (s.enc n).stalled = false) :
    stallTimeout n s = ((s.at (u + us (s.rd (K.encStallTime n)))).setEnc n { s.enc n with stalled := true }).encShow n := by
  simp only [stallTimeout, hl, ha, hs, Bool.false_eq_true, not_true_eq_false, or_self, if_false]

end

/-- What a channel shows stands in its own two entries. -/
theorem State.encShow_eff_own (s : State) (n : Nat) :
    Eff [.regs] [.one (K.encsCountedPosition n), .one (K.encsSpeed n)] s (s.encShow n) :=
  Eff.wr (Eff.wr Eff.refl rfl (by simp [KeySet.has])) rfl (by simp [KeySet.has])

/-- Settles O23: each command comes to one operation of the Wheel (`encCount`, `encFault`, or a channel's record set), whose effect the
lemmas above say; the wake that motion may bring (R549) leaves the Wheel's entries alone. -/
theorem encoderInputCommands : Obligations.EncoderInputCommands := by
  unfold Obligations.EncoderInputCommands
  refine ⟨fun n i level s hn h => ?transition, fun n i k s hn hz hm ha hr hd hk => ?quad, fun n s hn ha hm => ?frameStart,
    fun n f t0 r s hn ha hm ht hr hb hd => ?frame, fun n f t0 s hn ha ht hb => ?badFrame, fun n u s hn ha hl hs => ?stall⟩
  case transition =>
    have henc := State.enc_of_encs (encoderTransition_encs h)
    have hself := (henc n).trans (State.enc_setEnc_self ..)
    refine ⟨_, inst_true (Nat.blt_eq.mpr hn), ?_, ?_, ?_, fun m hm => ?_, (encoderTransition_eff n i level s).frame⟩
    · rw [hself, Enc.pin_setPin]
    · rw [hself, Enc.pin_setPin]
    · rw [hself, Enc.pin_setPin]
    · rw [henc, State.enc_setEnc, if_neg hm]
  case quad =>
    have hexec : exec (.countAccepted n i) s = .next (countAccepted n i s).wakeOnLevel := inst_true (Nat.blt_eq.mpr hn)
    have hcount := countAccepted_quad hz hm ha hr hd hk
    refine ⟨_, hexec, ?_, ?_, ?_, (execCountAccepted_eff n i s hexec).frame⟩
    · rw [(State.wakeOnLevel_eff _).rd_inst hn, hcount, State.encCount_rotary _ _ _ hn]
      rfl
    · rw [(State.wakeOnLevel_eff _).rd_inst hn, hcount, State.encCount_counted _ _ _ hn, State.enc_setEnc_self]
      rfl
    · rw [(State.wakeOnLevel_eff _).part .clock rfl, hcount, (State.encCount_eff ..).part .clock rfl]
      rfl
  case frameStart =>
    refine ⟨serialFrameStart n s, inst_true (Nat.blt_eq.mpr hn), ?_, ?_, fun m hne => ?_, (serialFrameStart_eff n s).frame⟩ <;>
      rw [serialFrameStart_active ha hm]
    · rfl
    · rw [State.enc_setEnc_self]
      rfl
    · rw [State.enc_setEnc, if_neg hne]
      rfl
  case frame =>
    have hexec : exec (.serialFrame n f) s = .next (serialFrame n f s).wakeOnLevel := inst_true (Nat.blt_eq.mpr hn)
    obtain ⟨x, te, hx, hcount⟩ := serialFrame_counts ha ht hm hr hb hd
    refine ⟨_, hexec, ?_, (execSerialFrame_eff n f s hexec).frame⟩
    rw [(State.wakeOnLevel_eff _).rd_inst hn, hcount, State.encCount_rotary _ _ _ hn, hx.rd _ rfl, hx.rd _ rfl]
    rfl
  case badFrame =>
    have hexec : exec (.serialFrame n f) s = .next (serialFrame n f s).wakeOnLevel := inst_true (Nat.blt_eq.mpr hn)
    have hfault := serialFrame_bad ha ht hb
    obtain ⟨herror, htransient⟩ := (s.setEnc n { s.enc n with frameAt := none }).encFault_counts 1 hn
    refine ⟨_, hexec, ?_, ?_, ?_, (execSerialFrame_eff n f s hexec).frame⟩
    · rw [(State.wakeOnLevel_eff _).rd_inst hn, hfault, herror]
      rfl
    · rw [(State.wakeOnLevel_eff _).rd_inst hn, hfault, (State.encFault_eff ..).rd_inst hn]
      rfl
    · rw [(State.wakeOnLevel_eff _).rd _ rfl, hfault, htransient]
      rfl
  case stall =>
    refine ⟨stallTimeout n s, inst_true (Nat.blt_eq.mpr hn), ?_⟩
    rw [stallTimeout_due ha hl hs]
    have hshow := State.encShow_eff_own ((s.at (u + us (s.rd (K.encStallTime n)))).setEnc n { s.enc n with stalled := true }) n
    refine ⟨?_, ?_, fun m hm => ?_,
      (hshow.after ((State.setEnc_eff ..).after ((State.at_eff ..).after Eff.refl rfl) rfl) ?_).frame⟩
    · rw [State.enc_of_encs hshow.encs, State.enc_setEnc_self]
    · rw [hshow.part .clock rfl]
      rfl
    · rw [State.enc_of_encs hshow.encs, State.enc_setEnc, if_neg hm]
      rfl
    · exact fits_of_subset (by decide) (List.Subset.refl _)

end Sys2Proof.Machine

/-! SUPPORT. Triggers, compare units, probes, the position of a peer and emulation (O25): what each of the Wheel's operations leaves in
the records and entries it is about, and what each command comes to where its rule lets it through. -/

namespace Sys2Proof.Machine

/-! ### The Wheel's records, and a generator's entries, through a frame -/

section
variable {ps : List Part} {ks : List KeySet} {s t : State} (h : Eff ps ks s t)
include h

/-- An entry of a generator, when no generator's stands in the frame. -/
theorem Eff.rd_gen {a b m n g : Nat} (hg : g < 28)
    (hk : ∀ i < 28, ks.any (·.has (genKey (fun i => instKey a m i) (fun i => instKey b n i) i)) = false := by decide) :
    t.rd (genKey (fun i => instKey a m i) (fun i => instKey b n i) g) =
      s.rd (genKey (fun i => instKey a m i) (fun i => instKey b n i) g) := h.rd _ (hk g hg)

variable (hp : ps.contains .wheel = false := by rfl)
include hp

theorem Eff.wheel : t.wheel = s.wheel := by
  obtain ⟨-, hwheel, -⟩ := h.part .wheel hp
  exact hwheel

theorem Eff.gens : t.gens = s.gens := by
  obtain ⟨-, -, hgens, -⟩ := h.part .wheel hp
  exact hgens

theorem Eff.gen (g : Nat) : t.gen g = s.gen g := congrArg (fun l => tget ({} : Gen) l g) (h.gens hp)

theorem Eff.trigs : t.trigs = s.trigs := by
  obtain ⟨-, -, -, htrigs, -⟩ := h.part .wheel hp
  exact htrigs

theorem Eff.cmp (m : Nat) : t.cmp m = s.cmp m := by
  obtain ⟨-, -, -, -, hcmps, -⟩ := h.part .wheel hp
  exact congrArg (fun l => tget ({} : Cmp) l m) hcmps

theorem Eff.probe (p : Nat) : t.probe p = s.probe p := by
  obtain ⟨-, -, -, -, -, hprobes, -⟩ := h.part .wheel hp
  exact congrArg (fun l => tget ([] : List ProbeEntry) l p) hprobes

theorem Eff.mir (m : Nat) : t.mir m = s.mir m := by
  obtain ⟨-, -, -, -, -, -, hmirs⟩ := h.part .wheel hp
  exact congrArg (fun l => tget ({} : Mir) l m) hmirs

end

/-! ### Trigger generators (R95, R96) -/

/-- Entries of a generator with different subindices in both groups are different. -/
theorem genKey_ne {a b c d m n p q : Nat} (g : Nat) (ha : a % 256 ≠ c % 256 := by decide) (hb : b % 256 ≠ d % 256 := by decide) :
    genKey (fun i => instKey a m i) (fun i => instKey b n i) g ≠ genKey (fun i => instKey c p i) (fun i => instKey d q i) g := by
  unfold genKey
  split
  · exact instKey_ne _ _ ha
  · exact instKey_ne _ _ hb

/-- What a trigger's emission leaves in the generator's entries and on its fixed route. -/
def State.genRecorded (s : State) (g : Nat) (k : Int) : State :=
  { (((s.wr (genLineIndex g) (ofI 64 k)).wr (genKey K.cgenLastTrigger K.rgenLastTrigger g) (ofI 64 (wholePos (s.genT g k)))).inc 64
      (genKey K.cgenTrigCount K.rgenTrigCount g)) with
    trigs := s.trigs ++ [{ gen := g, k := k, t := s.genT g k, stamp := s.now + 7 }] }

theorem State.genRecorded_entries (s : State) (g : Nat) (k : Int) :
    (s.genRecorded g k).rd (genLineIndex g) = ofI 64 k ∧
    (s.genRecorded g k).rd (genKey K.cgenTrigCount K.rgenTrigCount g) =
      (s.rd (genKey K.cgenTrigCount K.rgenTrigCount g) + 1) % 2 ^ 64 ∧
    (s.genRecorded g k).rd (genKey K.cgenLastTrigger K.rgenLastTrigger g) = ofI 64 (wholePos (s.genT g k)) := by
  refine ⟨?_, ?_, ?_⟩
  · exact (State.rd_inc_ne _ _ (genKey_ne g)).trans ((State.rd_wr_ne _ _ (genKey_ne g)).trans (State.rd_wr_self ..))
  · refine (State.rd_inc_self ..).trans ?_
    exact congrArg (fun v => (v + 1) % 2 ^ 64) ((State.rd_wr_ne _ _ (genKey_ne g)).trans (State.rd_wr_ne _ _ (genKey_ne g)))
  · exact (State.rd_inc_ne _ _ (genKey_ne g)).trans (State.rd_wr_self ..)

/-- A trigger's event and its camera's band follow the generator's entries and leave them alone; then the generator's record is set. -/
theorem State.genEmit_recorded (s : State) (g : Nat) (k : Int) : ∃ y : State,
    Eff (withSide [.cameras]) (sideAnd [.fam (K.camstBandIndex 0) 12, .fam (K.camstCameraGeneration 0) 12,
      .fam (K.camstLinesDropped 0) 12]) (s.genRecorded g k) y ∧
    s.genEmit g k = y.setGen g { s.gen g with lastAt := some s.now, held := none } := by
  unfold State.genEmit
  extract_lets t s1 s2 x s3 s4 s5 src
  have h5 : Eff (withSide [.cameras]) (sideAnd [.fam (K.camstBandIndex 0) 12, .fam (K.camstCameraGeneration 0) 12,
      .fam (K.camstLinesDropped 0) 12]) s3 s5 :=
    have h4 := (State.raiseAt_eff s3 (s2.now + 7) (genEvent g) 0).after Eff.refl rfl
    Eff.ite ((State.genRaised_eff ..).after h4 rfl) h4
  have hgen : src = s.gen g := h5.gen rfl g
  refine ⟨s5, h5, congrArg (s5.setGen g) ?_⟩
  rw [hgen, h5.part .clock rfl]
  rfl

/-- The generator's record once its next grid point is used. -/
def State.genNext (s : State) (g : Nat) : Gen :=
  { s.gen g with next := (s.gen g).next + 1, bunch := decide (s.genT g ((s.gen g).next + 1) ≤ s.webP) }

/-- The grid does not move when a point of it is used. -/
theorem State.genT_genNext (s : State) (g : Nat) (k : Int) : (s.setGen g (s.genNext g)).genT g k = s.genT g k := by
  rw [State.genT, State.gen_setGen_self]
  rfl

/-- A grid point reached with no trigger held, none before it and none late is emitted. -/
theorem triggerEmit_reached {s : State} {g : Nat} (hh : (s.gen g).held = none) (hm : s.genMay g (s.gen g).next = true)
    (ht : s.genT g (s.gen g).next ≤ s.webP) (hl : (s.gen g).lastAt = none) (hp : (s.gen g).lateTo = none) :
    triggerEmit g s = (s.setGen g (s.genNext g)).genEmit g (s.gen g).next := by
  simp only [triggerEmit, State.genReach, State.genNext, hh, hm, ht, hl, hp, decide_true, and_self, if_true]

/-! ### Compare units (R89 to R92) -/

/-- A firing is counted and its position kept; the event, the pin, the next value and a run that starts leave both alone. -/
theorem State.cmpFire_kept (s : State) {m : Nat} (hm : m < 16) :
    (s.cmpFire m).rd (K.cmpFired m) = (s.rd (K.cmpFired m) + 1) % 2 ^ 32 ∧
    (s.cmpFire m).rd (K.cmpLastFire m) = ofI 64 (if s.cmpRotary m then s.cmpPos m else wholePos (s.cmpPos m)) := by
  unfold State.cmpFire
  extract_lets origin s1 s2 pin len src s3 s4
  have h3 : Eff (withSide [.pins, .wheel]) sideKeys s1 s3 :=
    have h2 := (State.raise_eff s1 (Ev.whlCmp m) 0).after Eff.refl rfl
    Eff.ite ((State.refreshPin_eff ..).after ((State.setCmp_eff ..).after h2 rfl) rfl) h2
  have h4 : Eff (withSide [.pins, .wheel]) (sideAnd [.fam (K.cmpQueueFill 0) 16, .fam (K.cmpValue 0) 16]) s1 s4 :=
    (State.cmpNext_eff ..).after (h3.after Eff.refl rfl) rfl
  have hfired : s1.rd (K.cmpFired m) = (s.rd (K.cmpFired m) + 1) % 2 ^ 32 := by
    rw [State.rd_wr_ne _ _ (instKey_ne _ _), State.rd_inc_self]
  have hlast : s1.rd (K.cmpLastFire m) = ofI 64 (if s.cmpRotary m then s.cmpPos m else wholePos (s.cmpPos m)) := State.rd_wr_self ..
  rw [← hfired, ← hlast]
  split
  · rw [(State.startRun_eff ..).rd_inst hm, (State.startRun_eff ..).rd_inst hm, h4.rd_inst hm, h4.rd_inst hm]
    exact ⟨rfl, rfl⟩
  · rw [h4.rd_inst hm, h4.rd_inst hm]
    exact ⟨rfl, rfl⟩

section
variable {s : State} {m : Nat}

theorem compareFire_armed (hm : s.rd (K.cmpMode m) ≠ 0)
    (ha : s.sourceAlive (s.rd (K.cmpSource m) % 4 + 8 * (s.rd (K.cmpSource m) / 8)) = true) (ho : (s.cmp m).owed = 0)
    (hp : (s.cmp m).phase = .armed) (hr : (if s.cmpRotary m then (s.cmp m).due else s.cmpReached m) = true) :
    compareFire m s = s.cmpFire m := by
  simp only [compareFire, hm, ha, ho, hp, hr, not_true_eq_false, or_self, ne_eq, if_false, if_true]

theorem comparePulseEnd_running {u : Nat} (h : (s.cmp m).pulse = some u) :
    comparePulseEnd m s = ((s.at u).setCmp m { s.cmp m with pulse := none }).refreshPin (s.rd (K.cmpOutputPin m)) := by
  simp only [comparePulseEnd, h]

end

/-! ### Probes (R88, R102) -/

section
variable (s : State) (p : Nat) (l : List ProbeEntry)

theorem State.setProbe_probe (q : Nat) : (s.setProbe p l).probe q = if q = p then l else s.probe q := tget_tput ..

theorem State.setProbe_fill : (s.setProbe p l).rd (K.prbFill p) = l.length := by
  unfold State.setProbe
  extract_lets h x
  rw [State.rd_wr_ne _ _ (instKey_ne _ _), State.rd_wr_ne _ _ (instKey_ne _ _), State.rd_wr_ne _ _ (instKey_ne _ _),
    State.rd_wr_ne _ _ (instKey_ne _ _), State.rd_wr_self]

/-- The entries that show a probe's FIFO. -/
def probeKeys (p : Nat) : List KeySet :=
  [.one (K.prbFill p), .one (K.prbHeadPosition p), .one (K.prbHeadRotary p), .one (K.prbHeadTime p), .one (K.prbHeadEdge p)]

theorem State.setProbe_eff_own : Eff [.regs, .wheel] (probeKeys p) s (s.setProbe p l) := by
  unfold State.setProbe
  extract_lets h x
  have hx : Eff [.regs, .wheel] (probeKeys p) s x := Eff.upd_probes Eff.refl rfl
  refine ((((hx.wr rfl ?_).wr rfl ?_).wr rfl ?_).wr rfl ?_).wr rfl ?_ <;> simp [probeKeys, KeySet.has]

/-- A served access that sets a probe's FIFO: the FIFO, what shows it and the record of the access. -/
theorem setProbe_done {a : Acc} (k : Nat) (hp : p < 8) :
    ((s.setProbe p l).done a k 0).probe p = l ∧ ((s.setProbe p l).done a k 0).rd (K.prbFill p) = l.length ∧
    (∀ q, q ≠ p → ((s.setProbe p l).done a k 0).probe q = s.probe q) ∧
    ((s.setProbe p l).done a k 0).rd (K.pathLastStatus a.path) = 0 ∧
    Frame [.regs, .wheel] (okAnd a (probeKeys p)) s ((s.setProbe p l).done a k 0) := by
  have hdone := (s.setProbe p l).done_ok_eff a k
  refine ⟨?_, ?_, fun q hq => ?_, State.done_ok_status .., ((s.setProbe_eff_own p l).done_ok rfl).frame⟩
  · rw [hdone.probe rfl, State.setProbe_probe, if_pos rfl]
  · rw [hdone.rd_inst hp, State.setProbe_fill]
  · rw [hdone.probe rfl, State.setProbe_probe, if_neg hq]

end

section
variable {s : State} {p : Nat} {rising : Bool}

/-- An arrival and an event change nothing else. -/
theorem State.arrive_raise_eff (s : State) (src ev : Nat) : Eff sideParts sideKeys s ((s.arrive src).raise ev) :=
  (State.raise_eff ..).after (State.arrive_eff ..) rfl

/-- What an accepted edge latches. -/
def State.probeLatched (s : State) (p : Nat) (rising : Bool) : ProbeEntry :=
  { pos := wholePos (if s.rd (K.prbSource p) < 4 then s.encP (s.rd (K.prbSource p)) else s.webP),
    rotary := s.sourceRotary (s.rd (K.prbSource p)), time := s.time, edge := if rising then 1 else 2 }

section
variable (he : s.on (K.prbEnable p) = true) (ht : edgeTaken (s.rd (K.prbEdge p)) rising = true)
  (ha : s.sourceAlive (s.rd (K.prbSource p)) = true)
include he ht ha

theorem probeEdge_latches (hl : (s.probe p).length < 16) : probeEdge p rising s =
    ((s.setProbe p (s.probe p ++ [s.probeLatched p rising])).arrive 38).raise (Ev.probeLatch p) := by
  simp only [probeEdge, he, ht, ha, Nat.not_le.mpr hl, not_true_eq_false, or_self, if_false]
  rfl

theorem probeEdge_overflows (hl : 16 ≤ (s.probe p).length) :
    probeEdge p rising s = ((s.inc 32 (K.prbOverflows p)).arrive 39).raise (Ev.probeOverflow p) := by
  simp only [probeEdge, he, ht, ha, hl, not_true_eq_false, or_self, if_false, if_true]

end

variable {a : Acc}

theorem popWrite_served (hw : s.writeStatus a (K.prbPop p) = 0) (hv : accVal a (K.prbPop p) = 1) :
    popWrite a p s = (s.setProbe p ((s.probe p).drop 1)).done a (K.prbPop p) 0 := by
  rw [popWrite, State.act_ok hw rfl, if_pos hv]

theorem probeFlushWrite_served (hw : s.writeStatus a (K.prbFlush p) = 0) (hv : accVal a (K.prbFlush p) = 1) :
    probeFlushWrite a p s = (s.setProbe p []).done a (K.prbFlush p) 0 := by
  rw [probeFlushWrite, State.act_ok hw rfl, if_pos hv]

end

/-! ### Position to and from a peer (R86, R87) -/

/-- The state from which a position broadcast that is due is sent: the Wheel notes when. -/
def State.posNoted (s : State) : State :=
  { s.at (s.wheel.sentAt + us (s.rd K.remBroadcastPeriod)) with
    wheel := { s.wheel with sentAt := max s.now (s.wheel.sentAt + us (s.rd K.remBroadcastPeriod)), lineStart := false } }

theorem posBroadcast_due {s : State} (he : s.on K.remBroadcastEnable = true) (ho : s.originates = true) :
    ∃ l : List Nat, posBroadcast s = s.posNoted.broadcast 1 0 l := by
  simp only [posBroadcast, he, ho, not_true_eq_false, or_self, if_false]
  exact ⟨_, rfl⟩

/-- What a position message leaves in the Wheel's record, but for the hold of R87. -/
theorem State.takePos_taken (s : State) (l : List Nat) (node : Nat) : (s.takePos l node).rd K.remRemoteNode = node ∧
    ∃ hold, (s.takePos l node).wheel = { s.wheel with
      got := true, lost := false, remP := toI 64 (leAt l 0 8) * 2 ^ 32, remV := toI 64 (leAt l 8 8),
      remT := leAt l 16 8 * 65536 + leAt l 24 2, remAt := s.now, remHold := hold } := by
  unfold State.takePos
  extract_lets w before x y
  split
  · refine ⟨?_, _, rfl⟩
    exact (State.rd_inc_ne _ _ (by decide)).trans (State.rd_wr_self ..)
  · exact ⟨State.rd_wr_self .., none, rfl⟩

@[simp] theorem State.awake_dev (s : State) : s.awake.dev = stStopped := by
  unfold State.awake
  extract_lets x y
  rw [State.dev, (State.raise_eff ..).rd _ rfl, (State.refreshPins_eff _).rd _ rfl, ← State.dev, State.enter_dev]

theorem State.startWaking_dev (s : State) (cause : Nat) :
    (s.startWaking cause).dev = stStopped ∨ (s.startWaking cause).dev = s.dev := by
  unfold State.startWaking
  extract_lets x src y
  split
  · exact .inl (State.awake_dev y)
  · exact .inr ((s.powerPhase_eff 3).rd _ rfl)

theorem State.wake_dev (s : State) (cause : Nat) : (s.wake cause).dev = stStopped ∨ (s.wake cause).dev = s.dev := by
  unfold State.wake
  split
  · exact .inr rfl
  · split
    · exact s.startWaking_dev cause
    · split <;> exact .inr rfl

/-- A wake ends in STOPPED or leaves DeviceState as it is (R549). -/
theorem State.wakeOnLevel_dev (s : State) : s.wakeOnLevel.dev = stStopped ∨ s.wakeOnLevel.dev = s.dev := by
  unfold State.wakeOnLevel
  split
  · exact s.wake_dev _
  · exact .inr rfl

theorem posMessage_taken {m : Msg} {u : Nat × Nat × State} {s : State} (ht : s.takeMsg m = some u) (hc : m.cls = 1)
    (hr : s.usesRemote = true) (hd : s.dev ≠ stArmed) :
    posMessage m s = (u.2.2.takePos m.payload m.source).wakeOnLevel := by
  obtain ⟨port, stamp, x⟩ := u
  have hx : Eff [.link] [] s x := State.takeMsg_eff ht
  have hremote : x.usesRemote = true := by
    rw [← hr]
    simp only [State.usesRemote, hx.rd _ rfl]
  have hdev : (x.takePos m.payload m.source).dev = s.dev := ((State.takePos_eff ..).rd _ rfl).trans (hx.rd _ rfl)
  have hawake : (x.takePos m.payload m.source).wakeOnLevel.dev ≠ stArmed := by
    rcases (x.takePos m.payload m.source).wakeOnLevel_dev with h | h
    · rw [h]
      decide
    · rwa [h, hdev]
  simp only [posMessage, ht, hc, hremote, hawake, not_true_eq_false, ne_eq, or_self, false_and, and_false, if_false]

/-- The state in which REMOTE is found lost. -/
def State.remoteLost (s : State) : State :=
  ({ s.at (s.wheel.remAt + us (s.rd K.remRemoteTimeout)) with wheel := { s.wheel with lost := true } }).flag K.whlWheelStatus 8 34

theorem remoteTimeout_due {s : State} (hr : s.usesRemote = true) (hg : s.wheel.got = true) (hl : s.wheel.lost = false) :
    remoteTimeout s = s.remoteLost ∨ ∃ p, remoteTimeout s = s.remoteLost.masterLost p := by
  rw [remoteTimeout, if_neg (by simp [hr, hg, hl])]
  extract_lets x p src y
  split
  · exact .inr ⟨p, rfl⟩
  · exact .inl rfl

/-- Flag bits that hardware sets in an entry that no arrival counts in. -/
theorem State.flag_rd (s : State) {k : Nat} (m src : Nat) (hk : sideKeys.any (·.has k) = false := by rfl) :
    (s.flag k m src).rd k = setBits (s.rd k) m := ((State.arrive_eff ..).rd _ hk).trans (State.rd_wr_self ..)

/-- The loss of the web master clears no bit of WheelStatus. -/
theorem State.masterLost_bit {s : State} {i : Nat} (p : Int) (h : s.bit K.whlWheelStatus i = true) :
    (s.masterLost p).bit K.whlWheelStatus i = true := by
  have hflag : ∀ (x : State) (m src ev : Nat), x.rd K.whlWheelStatus = s.rd K.whlWheelStatus →
      ((x.flag K.whlWheelStatus m src).raise ev).bit K.whlWheelStatus i = true := fun x m src ev hx => by
    rw [State.bit, State.raise_rd, State.flag_rd, hx]
    exact bitOf_setBits m h
  unfold State.masterLost
  split
  · exact h
  · split
    · refine hflag _ _ _ _ ?_
      rw [State.rd_inc_ne _ _ (by decide), State.rd_wr_ne _ _ (by decide)]
      rfl
    · exact hflag _ _ _ _ rfl

theorem State.remoteLost_bit (s : State) : s.remoteLost.bit K.whlWheelStatus 3 = true := by
  rw [State.bit, State.remoteLost, State.flag_rd, bitOf_eq_testBit, setBits, Nat.testBit_or]
  exact Bool.or_eq_true_iff.mpr (.inr (by decide))

/-! ### Emulation (R98) -/

/-- One step fewer is held. -/
theorem natAbs_sub_sgn {i : Int} (h : i ≠ 0) : (i - sgn i).natAbs + 1 = i.natAbs := by
  unfold sgn
  split
  · omega
  · split <;> omega

section
variable (s : State) (m : Nat)

theorem State.emuShow_lag : (s.emuShow m).rd (K.mirEmuLag m) = (s.mir m).lag.natAbs := by
  unfold State.emuShow
  extract_lets n x
  split
  · exact State.rd_wr_self ..
  · exact (State.rd_wr_ne _ _ (instKey_ne _ _)).trans (State.rd_wr_self ..)

theorem State.emuShow_eff_own : Eff [.regs] [.one (K.mirEmuLag m), .one (K.mirMirrorStatus m)] s (s.emuShow m) := by
  unfold State.emuShow
  extract_lets n x
  have hx : Eff [.regs] [.one (K.mirEmuLag m), .one (K.mirMirrorStatus m)] s x := Eff.wr Eff.refl rfl (by simp [KeySet.has])
  exact Eff.ite hx (hx.wr rfl (by simp [KeySet.has]))

end

/-- When the next held step may go. -/
def State.emuDue (s : State) (m : Nat) : Nat :=
  match (s.mir m).lastAt with
  | none => 0
  | some t => t + s.emuGap m

/-- At or after that moment the oldest step held goes out: the record holds one fewer, and the output is driven. -/
theorem State.emuStep_due {s : State} {m : Nat} (hl : (s.mir m).lag ≠ 0) (hd : s.emuDue m ≤ s.now) : ∃ x : Mir,
    x.lag = (s.mir m).lag - sgn (s.mir m).lag ∧ Eff [.pins] [] (s.setMir m x) (s.emuStep m) := by
  unfold State.emuStep
  extract_lets x free
  have hfree : free = true := by
    unfold free
    unfold State.emuDue at hd
    split
    · rfl
    · next t h =>
      rw [h] at hd
      exact Nat.ble_eq.mpr hd
  rw [if_neg (by simp [x, hl, hfree])]
  exact ⟨_, rfl, State.mirDrive_eff ..⟩

/-- The state in which a step is released: the crossings are joined and the rate limit has passed. -/
def State.emuReady (s : State) (m : Nat) : State := (s.emuCross m).at ((s.emuCross m).emuDue m)

/-- With a step held, a release waits for the rate limit, puts one step out and shows how many are left. -/
theorem emuLagRelease_due {s : State} {m : Nat} (hm : s.rd (K.mirMode m) = 3) (hl : ((s.emuCross m).mir m).lag ≠ 0) :
    emuLagRelease m s = ((s.emuReady m).emuStep m).emuShow m := by
  simp only [emuLagRelease, hm, hl, ne_eq, not_true_eq_false, if_false]
  rfl

/-- Settles O25: each command comes to one operation of the Wheel, whose record and entries the lemmas above say. -/
theorem triggerAndCompareCommands : Obligations.TriggerAndCompareCommands := by
  unfold Obligations.TriggerAndCompareCommands
  refine ⟨fun g s hg hh hm ht hl hp => ?trigger, fun m s hlt hm ha ho hp hr => ?fire, fun m u s hlt hp => ?pulseEnd,
    fun p rising s hp he ht ha hl => ?latch, fun p rising s hp he ht ha hl => ?overflow, fun a p s hw hp hv => ?pop,
    fun a p s hw hp hv => ?flush, fun s he ho => ?broadcast, fun m u s ht hc hr hd => ?message, fun s hr hg hl => ?timeout,
    fun m s hlt hm hl => ?release⟩
  case trigger =>
    have hframe := (triggerEmit_eff g s).frame
    obtain ⟨y, hy, hemit⟩ := (s.setGen g (s.genNext g)).genEmit_recorded g (s.gen g).next
    obtain ⟨hline, hcount, hlast⟩ := (s.setGen g (s.genNext g)).genRecorded_entries g (s.gen g).next
    refine ⟨triggerEmit g s, inst_true (Nat.blt_eq.mpr hg), ?_⟩
    rw [triggerEmit_reached hh hm ht hl hp, hemit] at hframe ⊢
    rw [State.genT_genNext] at hlast
    refine ⟨(hy.rd_gen hg).trans hline, (hy.rd_gen hg).trans hcount, (hy.rd_gen hg).trans hlast, ?_, ?_, ?_, hframe⟩
    · rw [State.setGen_trigs, hy.trigs rfl, State.genRecorded, State.genT_genNext]
      rfl
    · rw [State.gen_setGen_self, State.gen_setGen_self]
      rfl
    · rw [State.gen_setGen_self]
      rfl
  case fire =>
    obtain ⟨hfired, hlast⟩ := s.cmpFire_kept hlt
    have hframe := (compareFire_eff m s).frame
    refine ⟨compareFire m s, inst_true (Nat.blt_eq.mpr hlt), ?_⟩
    rw [compareFire_armed hm ha ho hp hr] at hframe ⊢
    exact ⟨hfired, hlast, hframe.after Frame.refl rfl⟩
  case pulseEnd =>
    refine ⟨comparePulseEnd m s, inst_true (Nat.blt_eq.mpr hlt), ?_⟩
    have hframe := (comparePulseEnd_eff m s).frame
    rw [comparePulseEnd_running hp] at hframe ⊢
    have hpin := State.refreshPin_eff ((s.at u).setCmp m { s.cmp m with pulse := none }) (s.rd (K.cmpOutputPin m))
    refine ⟨?_, ?_, fun i hi => ?_, hframe⟩
    · exact hpin.part .clock rfl
    · rw [hpin.cmp rfl, State.cmp_setCmp_self]
    · rw [hpin.cmp rfl, State.cmp_setCmp, if_neg hi]
      rfl
  case latch =>
    refine ⟨probeEdge p rising s, inst_true (Nat.blt_eq.mpr hp), ?_⟩
    rw [probeEdge_latches he ht ha hl]
    set e := s.probeLatched p rising
    have hset := s.setProbe_eff_own p (s.probe p ++ [e])
    have hside := (s.setProbe p (s.probe p ++ [e])).arrive_raise_eff 38 (Ev.probeLatch p)
    refine ⟨⟨e, ?_, rfl, rfl, rfl⟩, ?_, fun q hq => ?_, (hside.after (hset.after Eff.refl ?_) ?_).frame⟩
    · rw [hside.probe rfl, State.setProbe_probe, if_pos rfl]
    · rw [hside.rd_inst hp, State.setProbe_fill, List.length_append, List.length_singleton]
    · rw [hside.probe rfl, State.setProbe_probe, if_neg hq]
    · exact fits_of_subset (by decide) (List.subset_append_right _ _)
    · exact fits_of_subset (by decide) (List.subset_append_left _ _)
  case overflow =>
    refine ⟨probeEdge p rising s, inst_true (Nat.blt_eq.mpr hp), ?_⟩
    rw [probeEdge_overflows he ht ha hl]
    have hside := (s.inc 32 (K.prbOverflows p)).arrive_raise_eff 39 (Ev.probeOverflow p)
    refine ⟨?_, (hside.after (Eff.refl.inc rfl ?_) ?_).frame⟩
    · rw [hside.rd_inst hp, State.rd_inc_self]
    · simp [sideAnd, KeySet.has]
    · exact fits_of_subset (by decide) (List.subset_append_left _ _)
  case pop =>
    refine ⟨popWrite a p s, inst_true (Nat.blt_eq.mpr hp), ?_⟩
    rw [popWrite_served hw hv, ← List.length_drop]
    exact setProbe_done s p _ _ hp
  case flush =>
    refine ⟨probeFlushWrite a p s, inst_true (Nat.blt_eq.mpr hp), ?_⟩
    rw [probeFlushWrite_served hw hv]
    exact setProbe_done s p [] _ hp
  case broadcast =>
    obtain ⟨l, hsend⟩ := posBroadcast_due he ho
    have hframe := (posBroadcast_eff s).frame
    refine ⟨posBroadcast s, rfl, ?_⟩
    rw [hsend] at hframe ⊢
    have hb := s.posNoted.broadcast_eff 1 0 l none
    refine ⟨?_, ?_, ?_, ?_, hframe⟩
    · exact hb.part .clock rfl
    · rw [hb.wheel rfl, hb.part .clock rfl]
      rfl
    · exact hb.encs
    · exact hb.gens rfl
  case message =>
    have hframe := (posMessage_eff m s).frame
    have htake := State.takeMsg_eff ht
    obtain ⟨hnode, hold, hwheel⟩ := u.2.2.takePos_taken m.payload m.source
    have hpos := u.2.2.takePos_eff m.payload m.source
    have hwake := (u.2.2.takePos m.payload m.source).wakeOnLevel_eff
    have hw := (hwake.wheel rfl).trans hwheel
    refine ⟨posMessage m s, rfl, ?_⟩
    rw [posMessage_taken ht hc hr hd] at hframe ⊢
    refine ⟨(hwake.rd _ rfl).trans hnode, ?_, ?_, ?_, ?_, ?_, (hwake.part .link rfl).trans (hpos.part .link rfl),
      hframe.after Frame.refl rfl⟩
    all_goals rw [hw]
    exact htake.part .clock rfl
  case timeout =>
    have hframe := (remoteTimeout_eff s).frame
    have hlost : s.remoteLost.wheel.lost = true := congrArg Wheel.lost ((State.flag_eff ..).wheel rfl)
    have hnow : s.remoteLost.now = max s.now (s.wheel.remAt + us (s.rd K.remRemoteTimeout)) := (State.flag_eff ..).part .clock rfl
    refine ⟨remoteTimeout s, rfl, ?_⟩
    rcases remoteTimeout_due hr hg hl with h | ⟨p, h⟩
    · rw [h] at hframe ⊢
      exact ⟨hlost, hnow, s.remoteLost_bit, hframe⟩
    · rw [h] at hframe ⊢
      obtain ⟨w, hw, hm⟩ := s.remoteLost.masterLost_records p
      refine ⟨?_, ?_, State.masterLost_bit p s.remoteLost_bit, hframe⟩
      · rw [hm.wheel rfl, ← hlost, ← hw]
      · rw [hm.part .clock rfl, ← hnow]
  case release =>
    obtain ⟨x, hx, hstep⟩ := State.emuStep_due (s := s.emuReady m) (m := m) hl (le_max_right ..)
    have hshow := ((s.emuReady m).emuStep m).emuShow_eff_own m
    refine ⟨emuLagRelease m s, inst_true (Nat.blt_eq.mpr hlt), ?_⟩
    rw [emuLagRelease_due hm hl]
    refine ⟨?_, ?_, fun i hi => ?_, ?_, (hshow.after ((State.emuStep_eff ..).after ((State.at_eff ..).after
      ((State.emuCross_eff ..).after Eff.refl rfl) rfl) rfl) ?_).frame⟩
    · rw [hshow.mir rfl, hstep.mir rfl, State.mir_setMir_self, hx]
      exact natAbs_sub_sgn hl
    · rw [State.emuShow_lag, hshow.mir rfl]
    · rw [hshow.mir rfl, hstep.mir rfl, State.mir_setMir, if_neg hi]
      exact (State.mir_setMir ..).trans (if_neg hi)
    · rw [hshow.encs, hstep.encs]
      rfl
    · exact fits_of_subset (by decide) (List.Subset.refl _)

end Sys2Proof.Machine

/-! SUPPORT. The control tunnel (O29): what an end of the tunnel, a command sent and an acknowledge leave, and what TUNNEL_GO comes to
with the link up (R124, R125). -/

namespace Sys2Proof.Machine

-- The proofs of this part are checked one after another, in one thread.
set_option Elab.async false

section
variable {ps : List Part} {ks : List KeySet} {s t : State} (h : Eff ps ks s t) (hp : ps.contains .cameras = false := by rfl)
include h hp

/-- A camera's record, when no camera stands in the frame. -/
theorem Eff.cam (n : Nat) : t.cam n = s.cam n := by
  obtain ⟨hcams, -⟩ := h.part .cameras hp
  exact congrArg (fun l => tget ({} : Cam) l n) hcams

theorem Eff.uplinks : t.uplinks = s.uplinks := by
  obtain ⟨-, huplinks⟩ := h.part .cameras hp
  exact huplinks

end

/-- A write of an entry leaves those of other subindices alone, in whatever group. -/
theorem State.rd_wr_inst (s : State) {a b m n i j : Nat} (v : Nat) (h : b % 256 ≠ a % 256) :
    (s.wr (instKey a m i) v).rd (instKey b n j) = s.rd (instKey b n j) := State.rd_wr_ne _ _ (instKey_ne _ _ h)

/-! ### The end of a transfer -/

/-- What every end of the tunnel leaves: the status, its arrival and TUNNEL_DONE. -/
def State.tunEnded (s : State) (n code : Nat) : State :=
  ((s.wr (K.tunTunnelStatus n) code).arrive 71).raise (Ev.camTunnelDone n)

section
variable {s : State} {n code : Nat}

/-- An end other than OK leaves no more than that. -/
theorem State.tunEnd_failed (hc : code ≠ 2) : s.tunEnd n code = s.tunEnded n code := by
  simp only [State.tunEnd, hc, false_and, if_false]
  rfl

/-- A read that ends OK puts the bytes read in TunnelData. -/
theorem State.tunEnd_read (hw : (s.cam n).tunWrite = false) :
    s.tunEnd n 2 = (s.domWrite (K.tunData n) 0 (s.cam n).tunRead).tunEnded n 2 := by
  simp only [State.tunEnd, hw, Bool.false_eq_true, not_false_eq_true, and_self, if_true, false_and, and_false, if_false]
  rfl

theorem State.tunEnded_status (hn : n < 12) : (s.tunEnded n code).rd (K.tunTunnelStatus n) = code := by
  rw [State.tunEnded, (State.arrive_raise_eff ..).rd_inst hn, State.rd_wr_self]

theorem State.tunEnded_ackCode (hn : n < 12) : (s.tunEnded n code).rd (K.tunAckCode n) = s.rd (K.tunAckCode n) := by
  rw [State.tunEnded, (State.arrive_raise_eff ..).rd_inst hn, State.rd_wr_inst _ _ (by decide)]

/-- An end comes after an effect whose frame has TunnelStatus and what an event changes. -/
theorem Eff.tunEnded {ps : List Part} {ks : List KeySet} {x : State} (h : Eff ps ks x s) (hp : sideParts ⊆ ps) (hk : sideKeys ⊆ ks)
    (hs : ks.any (·.has (K.tunTunnelStatus n)) = true) : Eff ps ks x (s.tunEnded n code) :=
  (State.arrive_raise_eff ..).after (h.wr (List.contains_iff_mem.mpr (hp (by decide))) hs) (fits_of_subset hp hk)

end

/-! ### Acknowledges (R124) -/

section
variable {s : State} {n code : Nat} {data : List Nat}

theorem tunnelAck_busy {wait : Bool} (hb : s.rd (K.tunTunnelStatus n) = 1) (hu : s.tunUp n = true) :
    tunnelAck n code data wait s = tunnelAckStep n code data wait s := by
  simp only [tunnelAck, hb, hu, ne_eq, not_true_eq_false, if_false]

theorem tunnelAckStep_refused (hc : code ≠ 0) :
    tunnelAckStep n code data false s = (s.wr (K.tunAckCode n) (code % 256)).tunEnded n 3 := by
  simp only [tunnelAckStep, Bool.false_eq_true, if_false, hc, ne_eq, not_false_eq_true, if_true]
  exact State.tunEnd_failed (by decide)

/-- The bytes read once a read's last chunk is acknowledged. -/
def State.tunLastRead (s : State) (n : Nat) (data : List Nat) : List Nat :=
  (s.cam n).tunRead ++ padTo ((s.cam n).tunLen - (s.cam n).tunOff) (data.take ((s.cam n).tunLen - (s.cam n).tunOff))

/-- The state from which a read's last chunk ends the tunnel. -/
def State.tunLastAcked (s : State) (n : Nat) (data : List Nat) : State :=
  (s.wr (K.tunAckCode n) 0).setCam n { s.cam n with
    tunOff := (s.cam n).tunOff + ((s.cam n).tunLen - (s.cam n).tunOff), tunRead := s.tunLastRead n data }

/-- The chunk acknowledged is the last one: no more than ControlChunk bytes are left. -/
theorem tunnelAckStep_last (hw : (s.cam n).tunWrite = false) (hl : (s.cam n).tunLen ≤ (s.cam n).tunOff + s.rd (K.camControlChunk n)) :
    tunnelAckStep n 0 data false s =
      ((s.tunLastAcked n data).domWrite (K.tunData n) 0 (s.tunLastRead n data)).tunEnded n 2 := by
  have hchunk : (s.wr (K.tunAckCode n) 0).rd (K.camControlChunk n) = s.rd (K.camControlChunk n) :=
    State.rd_wr_inst _ _ (by decide)
  have hleft : min (s.rd (K.camControlChunk n)) ((s.cam n).tunLen - (s.cam n).tunOff) = (s.cam n).tunLen - (s.cam n).tunOff := by
    omega
  have hover : (s.cam n).tunLen ≤ (s.cam n).tunOff + ((s.cam n).tunLen - (s.cam n).tunOff) := by omega
  have hstep : tunnelAckStep n 0 data false s = (s.tunLastAcked n data).tunEnd n 2 := by
    simp only [tunnelAckStep, Bool.false_eq_true, if_false, ne_eq, not_true_eq_false, Nat.zero_mod, hchunk, hleft, hover, hw, if_true,
      State.tunLastAcked, State.tunLastRead]
  have hcam : (s.tunLastAcked n data).cam n = { s.cam n with
      tunOff := (s.cam n).tunOff + ((s.cam n).tunLen - (s.cam n).tunOff), tunRead := s.tunLastRead n data } :=
    State.cam_setCam_self ..
  rw [hstep, State.tunEnd_read (by rw [hcam, hw]), hcam]

theorem State.tunLastAcked_eff : Eff [.regs, .cameras] [.one (K.tunAckCode n)] s (s.tunLastAcked n data) :=
  (State.setCam_eff ..).after (Eff.refl.wr rfl (by simp [KeySet.has])) rfl

end

/-! ### TUNNEL_GO (R124) -/

section
variable (s : State) (n : Nat)

theorem State.tunSend_cam (m : Nat) :
    (s.tunSend n).cam m = if m = n then { s.cam n with tunAt := s.now, tunWaits := 0 } else s.cam m := State.cam_setCam ..

/-- The command asks for the next chunk, from the camera address that follows what was acknowledged. -/
theorem State.tunSend_uplinks : ∃ d, (s.tunSend n).uplinks = s.uplinks ++ [Uplink.control n ((s.cam n).tunAddr + (s.cam n).tunOff)
    (min (s.rd (K.camControlChunk n)) ((s.cam n).tunLen - (s.cam n).tunOff)) (s.cam n).tunWrite d] := ⟨_, rfl⟩

/-- The camera's record of the transfer that the tunnel's entries describe. -/
def State.tunRequest (s : State) (n : Nat) : Cam :=
  { s.cam n with tunOff := 0, tunWaits := 0, tunRead := [], tunAddr := s.rd (K.tunAddress n), tunLen := s.rd (K.tunLength n),
                 tunWrite := s.rd (K.tunDirection n) == 1, tunSet := s.on (K.tunSettings n),
                 tunData := s.domBytes (K.tunData n) 0 (s.rd (K.tunLength n)) }

/-- The transfer is under way; no command of it is sent yet. -/
def State.tunOpened (s : State) (n : Nat) : State := (s.wr (K.tunTunnelStatus n) 1).setCam n (s.tunRequest n)

theorem State.tunOpened_eff : Eff [.regs, .cameras] [.one (K.tunTunnelStatus n)] s (s.tunOpened n) :=
  (State.setCam_eff ..).after (Eff.refl.wr rfl (by simp [KeySet.has])) rfl

theorem State.tunOpened_cam_self : (s.tunOpened n).cam n = s.tunRequest n := State.cam_setCam_self ..

theorem State.tunOpened_cam_ne {m : Nat} (hm : m ≠ n) : (s.tunOpened n).cam m = s.cam m :=
  (State.cam_setCam ..).trans (if_neg hm)

theorem State.tunOpened_status : (s.tunOpened n).rd (K.tunTunnelStatus n) = 1 := State.rd_wr_self ..

theorem State.tunOpened_chunk : (s.tunOpened n).rd (K.camControlChunk n) = s.rd (K.camControlChunk n) :=
  State.rd_wr_inst _ _ (by decide)

end

section
variable {a : Acc} {n : Nat} {s : State} (hw : s.writeStatus a (K.tunTunnelGo n) = 0)
include hw

theorem tunnelGoWrite_starts (hb : s.rd (K.tunTunnelStatus n) ≠ 1) (hd : s.camState n ≠ camDiscovery)
    (hv : accVal a (K.tunTunnelGo n) = 1) (hu : s.tunUp n = true) :
    tunnelGoWrite a n s = ((s.tunOpened n).tunSend n).done a (K.tunTunnelGo n) 0 := by
  rw [tunnelGoWrite, State.act_ok hw (by simp [hb, hd])]
  simp (disch := decide) only [hv, hu, one_ne_zero, not_true_eq_false, if_false, State.on, State.rd_wr_inst]
  rfl

theorem tunnelGoWrite_busy (hb : s.rd (K.tunTunnelStatus n) = 1) : tunnelGoWrite a n s = s.done a (K.tunTunnelGo n) 13 := by
  have hown : ∀ p : Bool, (if (s.rd (K.tunTunnelStatus n) == 1 || p) = true then 13 else 0) = 13 := by simp [hb]
  rw [tunnelGoWrite, State.act_own hw (by rw [hown]; decide), hown]

end

/-- Settles O29: TUNNEL_GO opens the transfer its entries describe and sends one command; an acknowledge of the last chunk, a refusing
code and the timeout each come to one end of the tunnel. -/
theorem cameraTunnelCommands : Obligations.CameraTunnelCommands := by
  unfold Obligations.CameraTunnelCommands
  refine ⟨fun a n s hw hn hb hd hv hu => ?go, fun a n s hn hw hb => ?busy, fun n data s hn hb hu hr hl => ?last,
    fun n code data s hn hb hu hc => ?refused, fun n s hn hb => ?timeout⟩
  case go =>
    have hsend := (s.tunOpened n).tunSend_eff n
    have hdone := ((s.tunOpened n).tunSend n).done_ok_eff a (K.tunTunnelGo n)
    have hcam : (((s.tunOpened n).tunSend n).done a (K.tunTunnelGo n) 0).cam n =
        { s.tunRequest n with tunAt := s.now, tunWaits := 0 } := by
      rw [hdone.cam rfl, State.tunSend_cam, if_pos rfl, State.tunOpened_cam_self]
      rfl
    obtain ⟨d, hup⟩ := (s.tunOpened n).tunSend_uplinks n
    rw [State.tunOpened_cam_self, State.tunOpened_chunk] at hup
    refine ⟨tunnelGoWrite a n s, inst_true (Nat.blt_eq.mpr hn), ?_⟩
    rw [tunnelGoWrite_starts hw hb hd hv hu, hcam]
    refine ⟨?_, rfl, rfl, rfl, rfl, ⟨d, ?_⟩, fun m hm => ?_, State.done_ok_status ..,
      ((hsend.after (s.tunOpened_eff n) ?_).done_ok rfl).frame⟩
    · rw [hdone.rd_inst hn, hsend.rd _ rfl, State.tunOpened_status]
    · exact (hdone.uplinks rfl).trans hup
    · rw [hdone.cam rfl, State.tunSend_cam, if_neg hm, s.tunOpened_cam_ne n hm]
    · exact fits_of_subset (by decide) (List.nil_subset _)
  case busy => exact (inst_true (Nat.blt_eq.mpr hn)).trans (congrArg Host.Outcome.next (tunnelGoWrite_busy hw hb))
  case last =>
    have hside := State.arrive_raise_eff
      (((s.tunLastAcked n data).domWrite (K.tunData n) 0 (s.tunLastRead n data)).wr (K.tunTunnelStatus n) 2) 71 (Ev.camTunnelDone n)
    have hwrite := (s.tunLastAcked n data).domWrite_eff (K.tunData n) 0 (s.tunLastRead n data)
    refine ⟨tunnelAck n 0 data false s, inst_true (Nat.blt_eq.mpr hn), ?_⟩
    rw [tunnelAck_busy hb hu, tunnelAckStep_last hr hl]
    refine ⟨State.tunEnded_status hn, ?_, ?_, fun m hm => ?_,
      ((hwrite.after (State.tunLastAcked_eff.after Eff.refl ?_) ?_).tunEnded ?_ ?_ ?_).frame⟩
    · rw [State.tunEnded_ackCode hn]
      exact State.rd_wr_self ..
    · exact (hside.part .domains rfl).1
    · exact (hside.cam rfl m).trans ((State.cam_setCam ..).trans (if_neg hm))
    · exact fits_of_subset (by decide) (by simp [sideAnd])
    · exact fits_of_subset (by decide) (List.nil_subset _)
    · decide
    · exact List.subset_append_left _ _
    · simp [sideAnd, KeySet.has]
  case refused =>
    refine ⟨tunnelAck n code data false s, inst_true (Nat.blt_eq.mpr hn), ?_⟩
    rw [tunnelAck_busy hb hu, tunnelAckStep_refused hc]
    refine ⟨State.tunEnded_status hn, ?_, ((Eff.refl.wr rfl ?_).tunEnded ?_ ?_ ?_).frame⟩
    · rw [State.tunEnded_ackCode hn, State.rd_wr_self]
    · simp [sideAnd, KeySet.has]
    · exact List.Subset.refl _
    · exact List.subset_append_left _ _
    · simp [sideAnd, KeySet.has]
  case timeout =>
    refine ⟨tunnelTimeout n s, inst_true (Nat.blt_eq.mpr hn), ?_⟩
    rw [tunnelTimeout, if_pos hb, State.tunEnd_failed (by decide)]
    refine ⟨State.tunEnded_status hn, (State.arrive_raise_eff ..).part .clock rfl,
      (((State.at_eff ..).after Eff.refl ?_).tunEnded ?_ ?_ ?_).frame⟩
    · exact fits_of_subset (by decide) (List.nil_subset _)
    · decide
    · exact List.subset_append_left _ _
    · simp [sideAnd, KeySet.has]

end Sys2Proof.Machine

/-! SUPPORT. Reflection of a column index (O2): the value on each side of the row and inside it, the parity it keeps in a row of even
width, and the colour of a sample as a matter of its column's parity alone. -/

namespace Sys2Proof.Machine

/-! ### The reflected column (R142) -/

section

variable {w : Nat} {j : Int}

theorem reflect_left (hj : j < 0) : (reflect w j : Int) = -j := by
  rw [reflect, if_pos hj, Int.toNat_of_nonneg (by omega)]

theorem reflect_right (hj : (w : Int) - 1 < j) (hj' : j < 2 * (w : Int) - 1) :
    (reflect w j : Int) = 2 * ((w : Int) - 1) - j := by
  rw [reflect, if_neg (by omega), if_pos hj, Int.toNat_of_nonneg (by omega)]

theorem reflect_inside (hj : 0 ≤ j) (hj' : j ≤ (w : Int) - 1) : (reflect w j : Int) = j := by
  rw [reflect, if_neg (by omega), if_neg (by omega), Int.toNat_of_nonneg hj]

/-- Both mirrors, at column 0 and at column W − 1, move an index by an even number of columns. -/
theorem reflect_parity (hj : j < 2 * (w : Int) - 1) : (reflect w j : Int) % 2 = j % 2 := by
  rcases lt_or_ge j 0 with hneg | hnonneg
  · rw [reflect_left hneg, Int.neg_emod_two]
  · rcases lt_or_ge ((w : Int) - 1) j with hbeyond | hin
    · rw [reflect_right hbeyond hj]
      omega
    · rw [reflect_inside hnonneg hin]

end

/-! ### The colour of a column (R141) -/

/-- The mosaic repeats every two columns. -/
theorem mosaicColour_of_parity {c d : Nat} (phase row : Nat) (h : c % 2 = d % 2) :
    mosaicColour phase row c = mosaicColour phase row d := by
  simp only [mosaicColour, h]

/-- Settles O2: the three ranges of the index are the branches of `reflect`; each keeps the parity of the index, which alone decides the
colour. The mirrors 0 and 2(W − 1) are even for every W, so that W is even is not used. -/
theorem columnReflection : Obligations.ColumnReflection := by
  unfold Obligations.ColumnReflection
  intro w j _ _ _ hj
  refine ⟨reflect_left, fun hbeyond => reflect_right hbeyond hj, reflect_inside, fun phase row col hcol => ?_⟩
  have hparity : reflect w j % 2 = col % 2 := by
    have hreflect := reflect_parity hj
    omega
  exact mosaicColour_of_parity phase row hparity

end Sys2Proof.Machine

/-! SUPPORT. The Seam unit, windows and band records (O31): the destinations of a stitched line leave the Seam's own record alone; what a
member's line, an emitted line, WIN_START and a band record come to where their rules let them through. -/

namespace Sys2Proof.Machine

-- The proofs of this part are checked one after another, in one thread.
set_option Elab.async false

/-! ### The Seam's record through a frame -/

section
variable {ps : List Part} {ks : List KeySet} {s t : State}

theorem Eff.seam (h : Eff ps ks s t) (hp : ps.contains .seam = false := by rfl) : t.seam = s.seam := (h.part .seam hp).1

theorem Eff.ctx (h : Eff ps ks s t) (n : Nat) (hp : ps.contains .prism = false := by rfl) : t.ctx n = s.ctx n :=
  congrArg (fun l => tget ({} : Ctx) l n) (h.part .prism hp).1

theorem Eff.que (h : Eff ps ks s t) (q : Nat) (hp : ps.contains .memory = false := by rfl) : t.que q = s.que q :=
  congrArg (fun l => tget ({} : Que) l q) (h.part .memory hp).1

end

theorem State.seam_ite {c : Prop} [Decidable c] {x y s : State} (hx : x.seam = s.seam) (hy : y.seam = s.seam) :
    (if c then x else y).seam = s.seam := by
  split
  · exact hx
  · exact hy

theorem State.seam_foldl {α : Type} {f : State → α → State} (hf : ∀ (s : State) (a : α), (f s a).seam = s.seam) (l : List α)
    (s : State) : (l.foldl f s).seam = s.seam := by
  induction l generalizing s with
  | nil => rfl
  | cons a l ih => exact (ih _).trans (hf s a)

/-! ### Where a stitched line goes, the Seam's own record stays (R169): the coding output -/

theorem State.codingFinish_seam (s : State) : s.codingFinish.seam = s.seam := by
  unfold State.codingFinish
  extract_lets c chunk gap s1 drop px s2 src d stop s3
  have h1 : s1.seam = s.seam := State.seam_ite rfl rfl
  have h2 : s2.seam = s1.seam := State.seam_ite rfl (State.codingWrite_eff ..).seam
  have h3 : s3.seam = s2.seam := State.seam_ite (State.codingChunk_eff ..).seam rfl
  exact h3.trans (h2.trans h1)

theorem codingFinishes_seam (m : Nat) (s : State) : (codingFinishes m s).seam = s.seam := by
  induction m generalizing s with
  | zero => rfl
  | succ m ih => exact (ih _).trans s.codingFinish_seam

theorem State.codingLine_seam (s : State) (x : Stitched) : (s.codingLine x).seam = s.seam := by
  unfold State.codingLine
  extract_lets sc s0 j src s1 c s2
  have h2 : s2.seam = s.seam := codingFinishes_seam (j - s.coding.j) _
  exact State.seam_ite rfl (State.seam_ite (s2.codingFinish_seam.trans h2) h2)

/-! ### The windows -/

theorem State.winDone_seam (s : State) (w : Nat) : (s.winDone w).seam = s.seam := by
  unfold State.winDone
  extract_lets x s1 s2
  have h2 : s2.seam = s.seam := (State.offerTo_eff ..).seam
  exact State.seam_ite ((State.arrive_raise_eff ..).seam.trans h2) h2

theorem State.winLine_seam (x : Stitched) (s : State) (w : Nat) : (State.winLine x s w).seam = s.seam := by
  unfold State.winLine
  extract_lets mode r s0 s1 j px s2 s3 r' s4
  have h4 : s4.seam = s.seam := (State.blockWrite_eff ..).seam
  exact State.seam_ite rfl (State.seam_ite rfl (State.seam_ite ((s4.winDone_seam w).trans h4) h4))

/-! ### The views -/

theorem State.viewPackets_seam (v ts row : Nat) (lastRow : Bool) (m off : Nat) (px : List Px) (s : State) :
    (State.viewPackets v ts row lastRow m off px s).seam = s.seam := by
  induction m generalizing off px s with
  | zero => rfl
  | succ m ih => exact (ih ..).trans (State.viewSend_eff ..).seam

theorem State.viewFrame_seam (s : State) (v rows : Nat) (partly skip : Bool) : (s.viewFrame v rows partly skip).seam = s.seam := by
  unfold State.viewFrame
  extract_lets x s1
  have h1 : s1.seam = s.seam := (State.offerTo_eff ..).seam
  exact (State.raise_eff ..).seam.trans h1

theorem State.viewOut_seam (s : State) (v : Nat) (l : VLine) : (s.viewOut v l).seam = s.seam := by
  unfold State.viewOut
  extract_lets x lines px out s1 s2 s3
  have h2 : s2.seam = s.seam := State.seam_ite (State.blockWrite_eff ..).seam rfl
  have h3 : s3.seam = s2.seam := State.seam_ite (State.viewPackets_seam ..) rfl
  exact State.seam_ite ((s3.viewFrame_seam ..).trans (h3.trans h2)) (h3.trans h2)

theorem viewDrain_seam (v keep m : Nat) (s : State) : (viewDrain v keep m s).seam = s.seam := by
  induction m generalizing s with
  | zero => rfl
  | succ m ih =>
    unfold viewDrain
    extract_lets x
    split
    · rfl
    · exact State.seam_ite rfl ((ih _).trans (State.viewOut_seam ..))

theorem State.viewStart_seam (s : State) (v : Nat) : (s.viewStart v).seam = s.seam := by
  unfold State.viewStart
  extract_lets sk x s1
  exact State.seam_ite (State.arrive_raise_eff ..).seam rfl

theorem State.viewFinish_seam (s : State) (v : Nat) : (s.viewFinish v).seam = s.seam := by
  unfold State.viewFinish
  extract_lets s1 x gap s2 l wrap s3
  have h1 : s1.seam = s.seam := State.seam_ite (s.viewStart_seam v) rfl
  have h2 : s2.seam = s1.seam := State.seam_ite rfl rfl
  exact (viewDrain_seam ..).trans (h2.trans h1)

theorem viewFinishes_seam (v m : Nat) (s : State) : (viewFinishes v m s).seam = s.seam := by
  induction m generalizing s with
  | zero => rfl
  | succ m ih => exact (ih _).trans (s.viewFinish_seam v)

theorem State.viewLine_seam (x : Stitched) (s : State) (v : Nat) : (State.viewLine x s v).seam = s.seam := by
  unfold State.viewLine
  extract_lets s0 d j src s1 r s2
  have h2 : s2.seam = s.seam := viewFinishes_seam v (j - (s.view v).j) _
  exact State.seam_ite rfl (State.seam_ite ((s2.viewFinish_seam v).trans h2) h2)

theorem State.sendLine_seam (s : State) (x : Stitched) (late : Nat) : (s.sendLine x late).seam = s.seam := by
  unfold State.sendLine
  extract_lets s1 s2 s3
  have h1 : s1.seam = s.seam :=
    (State.codingLine_seam ..).trans ((State.umbraLine_eff ..).seam.trans (State.loopBegin_eff ..).seam)
  have h2 : s2.seam = s1.seam := State.seam_foldl (State.winLine_seam x) _ _
  have h3 : s3.seam = s2.seam := State.seam_foldl (State.viewLine_seam x) _ _
  exact (State.loopLine_eff ..).seam.trans (h3.trans (h2.trans h1))

/-! ### An emitted line (R164, R169) -/

/-- The Seam's record as an emitted line leaves it: the line is the last one sent, and the output is busy for Width / 40. -/
theorem State.emitLine_seam (s : State) (x : SLine) (l : List SLine) (late : Nat) :
    (s.emitLine x l late).seam = { opens := l, last := some x.s, busyTill := s.now + ceilDiv (s.rd K.seamWidth) 40 } := by
  unfold State.emitLine
  extract_lets st s1 s2 s3 s4 s5
  have h1 := s.countMissing_eff x.parts x.s
  have h3 : Eff sideParts (sideAnd [.fam (K.memsMissingLines 0) 12, .one K.seamsStatus, .one K.seamsLinesEmitted,
      .one K.seamsLastLine, .one K.seamsLinesPartial]) s s3 :=
    have h2 := Eff.wr (Eff.inc (h1.after Eff.refl rfl) rfl rfl) rfl rfl
    Eff.ite (Eff.inc h2 rfl rfl) h2
  have h4 : s4.seam = { opens := l, last := some x.s, busyTill := s.now + ceilDiv (s.rd K.seamWidth) 40 } := by
    rw [← h3.rd K.seamWidth rfl, ← (show s3.now = s.now from h3.part .clock rfl)]
  have h5 : s5.seam = s4.seam := State.seam_foldl (fun y (p : Nat × MLine) => (y.seamDone_eff p.1 p.2.band false).seam) _ _
  exact (State.showMembers_eff _).seam.trans ((s5.sendLine_seam ..).trans (h5.trans h4))

theorem lineEmit_ready {s : State} {late : Nat} {x : SLine} {l : List SLine} (ho : s.seam.opens = x :: l)
    (hr : s.lineReady x = true) : lineEmit late s = (s.at s.seam.busyTill).emitLine x l late := by
  simp only [lineEmit, ho, hr, if_true]

/-! ### A member's line (R161, R163, R164) -/

/-- The oldest line that the member's resampler has made is taken. -/
def State.outTaken (s : State) (n : Nat) (l : List MLine) : State := s.setCtx n { s.ctx n with out := l }

/-- The line has joined its stitched line. -/
def State.lineJoined (s : State) (n : Nat) (j : Int) (m : MLine) : State :=
  { s with seam := { s.seam with opens := joinLine s.now n j m s.seam.opens } }

theorem State.outTaken_eff (s : State) (n : Nat) (l : List MLine) : Eff [.prism] [] s (s.outTaken n l) := State.setCtx_eff ..

theorem State.outTaken_out (s : State) (n : Nat) (l : List MLine) : ((s.outTaken n l).ctx n).out = l :=
  congrArg Ctx.out (State.ctx_setCtx_self ..)

theorem State.outTaken_ctx (s : State) {n k : Nat} (l : List MLine) (hk : k ≠ n) : (s.outTaken n l).ctx k = s.ctx k :=
  (State.ctx_setCtx ..).trans (if_neg hk)

theorem State.lineJoined_eff (s : State) (n : Nat) (j : Int) (m : MLine) : Eff [.seam] [] s (s.lineJoined n j m) :=
  Eff.upd_seam Eff.refl rfl

theorem State.seamDone_cam (s : State) {n k : Nat} (band : Int) (late : Bool) (hk : k ≠ n) :
    (s.seamDone n band late).cam k = s.cam k := (State.cam_setCam ..).trans (if_neg hk)

section
variable {s : State} {n : Nat} {m : MLine} {j : Int}

/-- An expected line whose stitched line is not out joins it; with a slot free no line is forced. -/
theorem State.memberLine_joins (hl : ∀ i, s.seam.last = some i → i < j) (hw : s.slotsUsed n < s.rd K.seamWaitLines) :
    s.memberLine n j m true = s.lineJoined n j m := by
  unfold State.memberLine
  extract_lets +onlyGivenNames emitted s1
  have he : emitted = false := by
    unfold emitted
    split
    next i hi => exact decide_eq_false (Int.not_le.mpr (hl i hi))
    next => rfl
  have h1 : s1 = s := if_neg (Nat.not_le.mpr hw)
  simp only [he, h1, Bool.false_eq_true, not_true_eq_false, if_false]
  rfl

theorem State.memberLine_late {i : Int} (hl : s.seam.last = some i) (hj : j ≤ i) (expected : Bool) :
    s.memberLine n j m expected = (s.inc 32 (K.memsLateLines n)).seamDone n m.band true := by
  simp only [State.memberLine, hl, hj, decide_true, if_true]

variable {l : List MLine} (ho : (s.ctx n).out = m :: l)
include ho

theorem seamMemberLine_joins (hj : j = m.k - s.rdI 32 (K.memLineShift n)) (he : s.expected n j = true)
    (hl : ∀ i, s.seam.last = some i → i < j) (hw : s.slotsUsed n < s.rd K.seamWaitLines) :
    seamMemberLine n s = ((s.outTaken n l).lineJoined n j m).showMembers := by
  simp only [seamMemberLine, ho, ← hj, he]
  exact congrArg State.showMembers (State.memberLine_joins (s := s.outTaken n l) hl hw)

theorem seamMemberLine_late {i : Int} (hl : s.seam.last = some i) (hj : m.k - s.rdI 32 (K.memLineShift n) ≤ i) :
    seamMemberLine n s = (((s.outTaken n l).inc 32 (K.memsLateLines n)).seamDone n m.band true).showMembers := by
  simp only [seamMemberLine, ho]
  exact congrArg State.showMembers (State.memberLine_late (s := s.outTaken n l) hl hj _)

end

/-! ### WIN_START (R174) -/

theorem bitOf_setBits_new {m i : Nat} (v : Nat) (h : bitOf m i = true) : bitOf (setBits v m) i = true := by
  rw [bitOf_eq_testBit] at h
  rw [bitOf_eq_testBit, setBits, Nat.testBit_or, h, Bool.or_true]

/-- A capture of CaptureLines lines has begun. -/
def State.winBegun (s : State) (w : Nat) : State :=
  (s.setWin w { s.win w with left := s.rd (K.winCaptureLines w), count := 0, desc := {} }).wr (K.winsWinStatus w)
    (setBits (s.rd (K.winsWinStatus w)) 2)

theorem State.winBegun_eff (s : State) (w : Nat) : Eff [.regs, .seam] [.one (K.winsWinStatus w)] s (s.winBegun w) :=
  Eff.wr ((State.setWin_eff ..).after Eff.refl (fits_of_subset (by decide) (List.nil_subset _))) rfl (by simp [KeySet.has])

theorem State.winBegun_win (s : State) (w v : Nat) : (s.winBegun w).win v =
    if v = w then { s.win w with left := s.rd (K.winCaptureLines w), count := 0, desc := {} } else s.win v := State.win_setWin ..

section
variable {s u : State} {w : Nat} {d : Delivery} (ht : s.takeTask (2 + w) = some (d, u))
include ht

/-- A delivery taken leaves every entry and every window as it is. -/
theorem State.takeTask_rd_win : (∀ k, u.rd k = s.rd k) ∧ ∀ v, u.win v = s.win v := by
  have hu := State.takeTask_eff ht
  obtain ⟨-, -, hwins, -⟩ := hu.part .seam rfl
  exact ⟨fun k => hu.rd k rfl, fun v => congrArg (fun l => tget ({} : Win) l v) hwins⟩

variable (hm : s.rd (K.winWinMode w) = 2)
include hm

theorem winStart_begins (hl : (s.win w).left = 0) : winStart w s = u.winBegun w := by
  obtain ⟨hrd, hwin⟩ := State.takeTask_rd_win ht
  simp only [winStart, ht, hrd, hwin, hm, hl, and_self, if_true, State.winBegun]

theorem winStart_overruns (hl : (s.win w).left ≠ 0) : winStart w s = u.flag (K.winsWinStatus w) 1 81 := by
  obtain ⟨hrd, hwin⟩ := State.takeTask_rd_win ht
  simp only [winStart, ht, hrd, hwin, hm, hl, and_false, if_true, if_false]

end

/-! ### An item written into a queue (R370, R371) -/

theorem State.rd_peak_ne (s : State) {k j : Nat} (v : Nat) (h : j ≠ k) : (s.peak k v).rd j = s.rd j := by
  unfold State.peak
  split
  · exact s.rd_wr_ne v h
  · rfl

/-- An event with no lineage stands in the order of delivery and changes nothing else. -/
theorem State.raise_eff_own (s : State) (ev : Nat) : Eff [.events] [] s (s.raise ev) := Eff.upd_raised Eff.refl rfl

/-- The queue's banks once an item is written. -/
def State.quePutItem (s : State) (q : Nat) (bytes : List Nat) : Que :=
  quePut (s.bankSlots q) (s.que q) { bytes := padTo (s.rd (K.qItemBytes q)) bytes, stamp := s.now }

/-- An item is written, shown in the queue's fill, and counted in. -/
def State.queueWritten (s : State) (q : Nat) (bytes : List Nat) : State :=
  ((({ s with queues := tput s.queues q (s.quePutItem q bytes) }.wr (K.qsFill q) (queFill (s.quePutItem q bytes))).peak
    (K.qsFillPeak q) (queFill (s.quePutItem q bytes))).inc 64 (K.qsItemsIn q))

section
variable {s : State} {q : Nat} {bytes : List Nat}

theorem State.offerTo_written (hq : q < 64) (hb : bytes.length ≤ s.rd (K.qItemBytes q)) (hc : s.queCredits q ≠ 0) :
    s.offerTo q bytes = (true, s.queueWritten q bytes) := by
  have hoffer : s.offer q bytes = (.written, s.queueWritten q bytes) := by
    simp only [State.offer, Nat.not_lt.mpr hb, hc, and_false, if_false]
    rfl
  simp only [State.offerTo, hoffer, if_neg (show q ≠ 255 by omega)]

theorem State.queueWritten_itemsIn : (s.queueWritten q bytes).rd (K.qsItemsIn q) = (s.rd (K.qsItemsIn q) + 1) % 2 ^ 64 := by
  rw [State.queueWritten, State.rd_inc_self, State.rd_peak_ne _ _ (instKey_ne _ _), State.rd_wr_ne _ _ (instKey_ne _ _)]
  rfl

theorem State.queueWritten_memory : (s.queueWritten q bytes).queues = tput s.queues q (s.quePutItem q bytes) ∧
    (s.queueWritten q bytes).drams = s.drams ∧ (s.queueWritten q bytes).dmas = s.dmas := (State.peak_eff ..).part .memory rfl

theorem State.queueWritten_que {r : Nat} (hr : r ≠ q) : (s.queueWritten q bytes).que r = s.que r := by
  obtain ⟨hqueues, -, -⟩ := State.queueWritten_memory (s := s) (q := q) (bytes := bytes)
  rw [State.que, hqueues, tget_tput, if_neg hr]
  rfl

theorem State.queueWritten_eff : Eff [.regs, .memory] [.one (K.qsFill q), .one (K.qsFillPeak q), .one (K.qsItemsIn q)] s
    (s.queueWritten q bytes) := by
  refine Eff.inc (Eff.peak (Eff.wr (Eff.upd_queues Eff.refl ?_) rfl ?_) rfl ?_) rfl ?_
  · exact fits_of_subset (by decide) (List.nil_subset _)
  all_goals simp [KeySet.has]

end

/-! ### Band records (R181, R182) -/

/-- The band whose record is written leaves its channel's list. -/
def State.bandTaken (s : State) (n : Nat) (b : Band) : State :=
  s.setCam n { s.cam n with bands := (s.cam n).bands.filter fun x => x.b != b.b }

theorem State.bandTaken_cam (s : State) (n k : Nat) (b : Band) : (s.bandTaken n b).cam k =
    if k = n then { s.cam n with bands := (s.cam n).bands.filter fun x => x.b != b.b } else s.cam k := State.cam_setCam ..

section
variable {s : State} {n : Nat} {b : Band}
  (hb : (s.cam n).bands.find? (fun x => x.closed.isSome && x.seam == 0) = some b)
include hb

theorem bandRecord_written {u : State} (ho : (s.bandTaken n b).offerTo (s.rd K.seamRecordQueue) (recordBytes n b) = (true, u)) :
    bandRecord n s = u.raise Ev.seamRecord := by
  have ho' : (s.bandTaken n b).offerTo ((s.bandTaken n b).rd K.seamRecordQueue) (recordBytes n b) = (true, u) := ho
  simp only [State.bandTaken] at ho'
  simp only [bandRecord, hb, ho']

theorem bandRecord_lost {u : State} (ho : (s.bandTaken n b).offerTo (s.rd K.seamRecordQueue) (recordBytes n b) = (false, u)) :
    bandRecord n s = (u.inc 32 K.seamsRecordsLost).flag K.seamsStatus 8 78 := by
  have ho' : (s.bandTaken n b).offerTo ((s.bandTaken n b).rd K.seamRecordQueue) (recordBytes n b) = (false, u) := ho
  simp only [State.bandTaken] at ho'
  simp only [bandRecord, hb, ho']

end

/-- Settles O31: a member's line joins or is late by the last line sent; an emitted line sets the Seam's record, which no destination
of the line touches; WIN_START and a band record each come to one branch of their command. -/
theorem seamCommands : Obligations.SeamCommands := by
  unfold Obligations.SeamCommands
  refine ⟨fun n m l j s hn ho hj he hl hw => ?joins, fun n m l i s hn ho hl hj => ?late, fun x s hx => ?deadline,
    fun late x l s ho hr => ?emit, fun w d u s hw ht hm hl => ?begins, fun w d u s hw ht hm hl => ?overruns,
    fun n b s hn hb hq hlen hc => ?written, fun n b s hn hb hq => ?lost⟩
  case joins =>
    have hjoin := (s.outTaken n l).lineJoined_eff n j m
    have hshow := ((s.outTaken n l).lineJoined n j m).showMembers_eff
    obtain ⟨hseam, hcoding, hwins, hviews⟩ := hshow.part .seam rfl
    refine ⟨seamMemberLine n s, inst_true (Nat.blt_eq.mpr hn), ?_⟩
    rw [seamMemberLine_joins ho hj he hl hw]
    refine ⟨?_, congrArg Seam.opens hseam, (congrArg Seam.last hseam :), (hshow.part .cameras rfl).1, hcoding, hwins, hviews,
      fun k hk => ?_, (hshow.part .prism rfl).2,
      (hshow.after (hjoin.after ((s.outTaken_eff n l).after Eff.refl rfl) rfl) rfl).frame⟩
    · rw [hshow.ctx, hjoin.ctx, State.outTaken_out]
    · rw [hshow.ctx, hjoin.ctx, State.outTaken_ctx _ _ hk]
  case late =>
    have hdone := ((s.outTaken n l).inc 32 (K.memsLateLines n)).seamDone_eff n m.band true
    have hshow := (((s.outTaken n l).inc 32 (K.memsLateLines n)).seamDone n m.band true).showMembers_eff
    have hframe := (seamMemberLine_eff n s).frame
    refine ⟨seamMemberLine n s, inst_true (Nat.blt_eq.mpr hn), ?_⟩
    rw [seamMemberLine_late ho hl hj] at hframe ⊢
    refine ⟨?_, ?_, hshow.seam.trans hdone.seam, fun k hk => ⟨?_, ?_⟩, hframe⟩
    · rw [hshow.ctx, hdone.ctx]
      exact s.outTaken_out n l
    · rw [hshow.rd_inst hn, hdone.rd _ rfl, State.rd_inc_self]
      rfl
    · rw [hshow.ctx, hdone.ctx]
      exact s.outTaken_ctx l hk
    · exact (hshow.cam rfl k).trans (State.seamDone_cam _ _ _ hk)
  case deadline =>
    have hframe := (seamDeadline_eff s).frame
    refine ⟨seamDeadline s, rfl, ?_⟩
    simp only [seamDeadline, hx] at hframe ⊢
    exact ⟨rfl, rfl, rfl, rfl, rfl, hframe⟩
  case emit =>
    have hemit := (s.at s.seam.busyTill).emitLine_eff x l late
    have hframe := (lineEmit_eff late s).frame
    have hnow : (lineEmit late s).now = max s.now s.seam.busyTill := by
      rw [lineEmit_ready ho hr]
      exact hemit.part .clock rfl
    have hseam : (lineEmit late s).seam =
        { opens := l, last := some x.s, busyTill := (lineEmit late s).now + ceilDiv (s.rd K.seamWidth) 40 } := by
      rw [hnow, lineEmit_ready ho hr, State.emitLine_seam]
      rfl
    exact ⟨lineEmit late s, rfl, congrArg Seam.opens hseam, congrArg Seam.last hseam, congrArg Seam.busyTill hseam, hnow, hframe⟩
  case begins =>
    have htake := State.takeTask_eff ht
    have hbegun := u.winBegun_eff w
    obtain ⟨hrd, hwin⟩ := State.takeTask_rd_win ht
    obtain ⟨hseam, hcoding, -, hviews⟩ := htake.part .seam rfl
    refine ⟨winStart w s, inst_true (Nat.blt_eq.mpr hw), ?_⟩
    rw [winStart_begins ht hm hl]
    refine ⟨?_, ?_, ?_, rfl, fun v hv => ?_, hseam, hviews, hcoding, (hbegun.after (htake.after Eff.refl ?_) ?_).frame⟩
    · rw [State.winBegun_win, if_pos rfl, hrd]
    · rw [State.winBegun_win, if_pos rfl]
    · rw [State.bit, State.winBegun, State.rd_wr_self]
      exact bitOf_setBits_new _ (by decide)
    · rw [State.winBegun_win, if_neg hv, hwin]
    · exact fits_of_subset (by decide) (List.nil_subset _)
    · exact fits_of_subset (by decide) (List.Subset.refl _)
  case overruns =>
    have htake := State.takeTask_eff ht
    have harrive := (u.wr (K.winsWinStatus w) (setBits (u.rd (K.winsWinStatus w)) 1)).arrive_eff 81
    refine ⟨winStart w s, inst_true (Nat.blt_eq.mpr hw), ?_⟩
    rw [winStart_overruns ht hm hl]
    refine ⟨?_, u.flag_tasks .., (harrive.after (Eff.wr (htake.after Eff.refl ?_) rfl ?_) ?_).frame⟩
    · rw [State.bit, State.flag, harrive.rd_inst hw, State.rd_wr_self]
      exact bitOf_setBits_new _ (by decide)
    · exact fits_of_subset (by decide) (List.nil_subset _)
    · simp [sideAnd, KeySet.has]
    · exact fits_of_subset (List.Subset.refl _) (List.subset_append_left _ _)
  case written =>
    have hput := (s.bandTaken n b).queueWritten_eff (q := s.rd K.seamRecordQueue) (bytes := recordBytes n b)
    have hraise := ((s.bandTaken n b).queueWritten (s.rd K.seamRecordQueue) (recordBytes n b)).raise_eff_own Ev.seamRecord
    obtain ⟨-, hdrams, hdmas⟩ := (s.bandTaken n b).queueWritten_memory (q := s.rd K.seamRecordQueue) (bytes := recordBytes n b)
    refine ⟨bandRecord n s, inst_true (Nat.blt_eq.mpr hn), ?_⟩
    rw [bandRecord_written hb (State.offerTo_written hq hlen hc)]
    refine ⟨?_, ?_, fun m hm => ?_, fun q hq => ?_, hdrams, hdmas, hput.uplinks, (hraise.after (hput.after ?_ ?_) ?_).frame⟩
    · rw [hraise.cam, hput.cam, State.bandTaken_cam, if_pos rfl]
    · rw [State.raise_rd, State.queueWritten_itemsIn]
      rfl
    · rw [hraise.cam, hput.cam, State.bandTaken_cam, if_neg hm]
    · exact (hraise.que q).trans (State.queueWritten_que hq)
    · exact (s.setCam_eff ..).after Eff.refl (fits_of_subset (by decide) (List.nil_subset _))
    · exact fits_of_subset (by decide) (List.Subset.refl _)
    · exact fits_of_subset (by decide) (List.nil_subset _)
  case lost =>
    have hnone : (s.bandTaken n b).offerTo (s.rd K.seamRecordQueue) (recordBytes n b) = (false, s.bandTaken n b) := if_pos hq
    have harrive := (((s.bandTaken n b).inc 32 K.seamsRecordsLost).wr K.seamsStatus
      (setBits (((s.bandTaken n b).inc 32 K.seamsRecordsLost).rd K.seamsStatus) 8)).arrive_eff 78
    refine ⟨bandRecord n s, inst_true (Nat.blt_eq.mpr hn), ?_⟩
    rw [bandRecord_lost hb hnone]
    refine ⟨?_, ?_, ?_, fun m hm => ?_,
      (Eff.flag (Eff.inc ((s.setCam_eff ..).after Eff.refl rfl) rfl rfl) rfl rfl : Eff (withSide [.cameras]) (sideAnd
        [.one K.seamsRecordsLost, .one K.seamsStatus]) s _).frame⟩
    · exact (harrive.cam rfl n).trans ((s.bandTaken_cam n n b).trans (if_pos rfl))
    · rw [State.flag, harrive.rd _ rfl, State.rd_wr_ne _ _ (by decide), State.rd_inc_self]
      rfl
    · rw [State.bit, State.flag_rd]
      exact bitOf_setBits_new _ (by decide)
    · exact (harrive.cam rfl m).trans ((s.bandTaken_cam n m b).trans (if_neg hm))

end Sys2Proof.Machine

/-! SUPPORT. Messages at their units and the DICT mailbox (O54): what a message sent on a port with room leaves, what EVT, TIME, BULK and
DICT come to where their rules let them through, and the three ends of a mailbox request (R217, R459 to R463, R493). -/

namespace Sys2Proof.Machine

/-! ### The link's record, and the time unit's, through a frame -/

section
variable {ps : List Part} {ks : List KeySet} {s t : State}

theorem Eff.skl (h : Eff ps ks s t) (hp : ps.contains .link = false := by rfl) : t.skl = s.skl := h.part .link hp

theorem Eff.sync (h : Eff ps ks s t) (hp : ps.contains .time = false := by rfl) : t.sync = s.sync := by
  obtain ⟨-, -, hsync⟩ := h.part .time hp
  exact hsync

end

/-- Flag bits set in one entry leave any other alone that no arrival counts in. -/
theorem State.flag_rd_ne (s : State) {k j : Nat} (m src : Nat) (h : j ≠ k) (hj : sideKeys.any (·.has j) = false := by rfl) :
    (s.flag k m src).rd j = s.rd j := ((State.arrive_eff ..).rd _ hj).trans (State.rd_wr_ne _ _ h)

/-! ### A message taken from the inbox (R459) -/

/-- Taking a message changes the inbox alone. -/
theorem State.takeMsg_inbox {s u : State} {m : Msg} {q stamp : Nat} (h : s.takeMsg m = some (q, stamp, u)) :
    ∃ l, u = s.setSkl { s.skl with inbox := l } := by
  unfold State.takeMsg at h
  split at h
  · cases h
    exact ⟨_, rfl⟩
  · cases h

/-! ### A message sent on a port with room (R453, R457) -/

/-- The message stands last in its class's queue. -/
def State.queued (s : State) (p : Nat) (m : SkMsg) : State :=
  s.setSkPort p { s.skPort p with
    queues := tput (s.skPort p).queues m.cls ((s.skPort p).queue m.cls ++ [m]), readyAt := s.now }

theorem State.skPort_setSkPort_self (s : State) (p : Nat) (x : SklPort) : (s.setSkPort p x).skPort p = x := tget_tput_self ..

theorem State.queued_queue (s : State) (p : Nat) (m : SkMsg) :
    ((s.queued p m).skPort p).queue m.cls = (s.skPort p).queue m.cls ++ [m] := by
  rw [State.queued, State.skPort_setSkPort_self]
  exact tget_tput_self ..

/-- A class other than POS, of which only the newest stands, takes a message while its queue is shorter than its depth. -/
theorem State.enqueue_room {s : State} {p : Nat} {m : SkMsg} (hc : m.cls ≠ 1)
    (hl : ((s.skPort p).queue m.cls).length < classDepth m.cls) : s.enqueue p m = some (s.queued p m) := by
  have hfits : ¬ classDepth m.cls < ((s.skPort p).queue m.cls ++ [m]).length := by
    rw [List.length_append, List.length_singleton]
    omega
  simp only [State.enqueue, hc, if_false, hfits]
  rfl

section
variable {s : State} {p cls flags dest : Nat} {payload : List Nat}

theorem State.sendPort_room (hu : s.skUp p = true) (hc : cls ≠ 1) (hl : ((s.skPort p).queue cls).length < classDepth cls) :
    s.sendPort p cls flags dest payload =
      (s.newMsg cls flags dest 0 payload).2.queued p (s.newMsg cls flags dest 0 payload).1 := by
  have hroom : (s.newMsg cls flags dest 0 payload).2.enqueue p (s.newMsg cls flags dest 0 payload).1 =
      some ((s.newMsg cls flags dest 0 payload).2.queued p (s.newMsg cls flags dest 0 payload).1) := State.enqueue_room hc hl
  rw [State.sendPort, if_neg (not_not_intro hu)]
  show State.sendOn (s.newMsg cls flags dest 0 payload).1 none (s.newMsg cls flags dest 0 payload).2 p = _
  rw [State.sendOn, hroom]

/-- A message queued at once is all that sending changes. -/
theorem State.sendPort_queues (hu : s.skUp p = true) (hc : cls ≠ 1) (hl : ((s.skPort p).queue cls).length < classDepth cls) :
    ((s.sendPort p cls flags dest payload).skPort p).queue cls =
      (s.skPort p).queue cls ++ [(s.newMsg cls flags dest 0 payload).1] ∧
    (s.sendPort p cls flags dest payload).skl.inbox = s.skl.inbox ∧
    Eff [.link] [] s (s.sendPort p cls flags dest payload) := by
  rw [State.sendPort_room hu hc hl]
  exact ⟨State.queued_queue .., rfl, (State.setSkPort_eff ..).after (State.newMsg_eff ..) rfl⟩

end

/-! ### A unicast on its route (R455, R457) -/

/-- However a message of this device leaves, no request starts or ends. -/
theorem State.sendOn_requests (s : State) (m : SkMsg) (task : Option Nat) (p : Nat) :
    (s.sendOn m task p).skl.reqs = s.skl.reqs ∧ (s.sendOn m task p).skl.nextId = s.skl.nextId := by
  unfold State.sendOn
  split
  case h_1 x hx =>
    unfold State.enqueue at hx
    extract_lets at hx
    split at hx
    · cases hx
    · cases hx
      exact ⟨rfl, rfl⟩
  case h_2 =>
    split
    · exact ⟨rfl, rfl⟩
    · rw [(s.queueDrop_eff p).skl]
      exact ⟨rfl, rfl⟩

section
variable {s : State} {cls flags dest lineage : Nat} {payload : List Nat}

theorem State.unicast_routed {r : Route} (h : s.route dest = some r) :
    s.unicast cls flags dest lineage payload = (true, (s.newMsg cls flags dest lineage payload).2.sendOn
      (s.newMsg cls flags dest lineage payload).1 none r.port) := by
  rw [State.unicast, h]

theorem State.unicast_unrouted (h : s.route dest = none) : s.unicast cls flags dest lineage payload = (false, s.noRoute) := by
  rw [State.unicast, h]

end

theorem State.noRoute_count (s : State) : s.noRoute.rd K.sklNoRoute = (s.rd K.sklNoRoute + 1) % 2 ^ 32 := by
  rw [State.noRoute, State.flag_rd_ne _ _ _ (by decide), State.rd_inc_self]

/-! ### The mailbox (R462) -/

@[simp] theorem State.mailboxEnd_status (s : State) (status : Nat) : (s.mailboxEnd status).rd K.mbxDictStatus = status := by
  rw [State.mailboxEnd, (State.arrive_eff ..).rd _ rfl, State.raise_rd, State.rd_wr_self]

@[simp] theorem State.mailboxEnd_skl (s : State) (status : Nat) : (s.mailboxEnd status).skl = s.skl := (s.mailboxEnd_eff status).skl

/-- The mailbox's request is under way and has its RequestId; its message is not yet sent. -/
def State.mailboxOpened (s : State) : State :=
  (s.wr K.mbxDictStatus 1).setSkl { s.skl with nextId := (s.skl.nextId + 1) % 2 ^ 32 }

theorem State.mailboxOpened_rd (s : State) {k : Nat} (h : k ≠ K.mbxDictStatus) : s.mailboxOpened.rd k = s.rd k :=
  State.rd_wr_ne _ _ h

section
variable {s : State}

/-- With a route the request leaves and waits for its response. -/
theorem State.mailboxSend_routed {r : Route} (h : s.route (s.rd K.mbxDictTarget) = some r) :
    s.mailboxSend.rd K.mbxDictStatus = 1 ∧ s.mailboxSend.skl.nextId = (s.skl.nextId + 1) % 2 ^ 32 ∧
    s.mailboxSend.skl.reqs = s.skl.reqs ++ [{ id := s.skl.nextId, since := s.now }] := by
  have hroute : s.mailboxOpened.route (s.mailboxOpened.rd K.mbxDictTarget) = some r := by
    rw [State.mailboxOpened_rd _ (by decide)]
    exact h
  unfold State.mailboxSend
  extract_lets l id head src x
  have hrouted : x.route (x.rd K.mbxDictTarget) = some r := hroute
  rw [State.unicast_routed hrouted]
  set n := x.newMsg 4 0 (x.rd K.mbxDictTarget) 0 (head ++ l)
  have hsend := State.sendOn_eff n.1 none n.2 r.port
  obtain ⟨hreqs, hnext⟩ := n.2.sendOn_requests n.1 none r.port
  refine ⟨?_, hnext, ?_⟩
  · exact (hsend.rd _ rfl).trans (State.rd_wr_self ..)
  · show (n.2.sendOn n.1 none r.port).skl.reqs ++ [_] = _
    rw [hreqs, hsend.part .clock rfl]
    rfl

/-- Without one the request ends at once with NO_ROUTE. -/
theorem State.mailboxSend_unrouted (h : s.route (s.rd K.mbxDictTarget) = none) :
    s.mailboxSend = s.mailboxOpened.noRoute.mailboxEnd 3 := by
  have hroute : s.mailboxOpened.route (s.mailboxOpened.rd K.mbxDictTarget) = none := by
    rw [State.mailboxOpened_rd _ (by decide)]
    exact h
  unfold State.mailboxSend
  extract_lets l id head src x
  have hunrouted : x.route (x.rd K.mbxDictTarget) = none := hroute
  rw [State.unicast_unrouted hunrouted]
  rfl

theorem dictGoWrite_served {a : Acc} (hw : s.writeStatus a K.mbxDictGo = 0) (hv : accVal a K.mbxDictGo = 1)
    (hb : s.rd K.mbxDictStatus ≠ 1) : dictGoWrite a s = s.mailboxSend.done a K.mbxDictGo 0 := by
  rw [dictGoWrite, State.act_ok hw (if_neg hb), if_pos hv]

end

/-- What a served DICT_GO leaves besides the request's own end or start. -/
theorem mailboxSend_done (s : State) (a : Acc) :
    (s.mailboxSend.done a K.mbxDictGo 0).rd K.mbxDictStatus = s.mailboxSend.rd K.mbxDictStatus ∧
    (s.mailboxSend.done a K.mbxDictGo 0).rd K.sklNoRoute = s.mailboxSend.rd K.sklNoRoute ∧
    (s.mailboxSend.done a K.mbxDictGo 0).skl = s.mailboxSend.skl ∧
    (s.mailboxSend.done a K.mbxDictGo 0).rd (K.pathLastStatus a.path) = 0 ∧
    Frame (withSide [.link]) (okSide a [.fam (K.spsPortStatus 0) 2, .fam (K.spsQueueDrops 0) 2, .one K.mbxDictStatus,
      .one K.sklLinkStatus, .one K.sklNoRoute]) s (s.mailboxSend.done a K.mbxDictGo 0) := by
  have hdone := s.mailboxSend.done_ok_eff a K.mbxDictGo
  exact ⟨hdone.rd _ rfl, hdone.rd _ rfl, hdone.skl, State.done_ok_status .., (okSide_eq a _ (s.mailboxSend_eff.done_ok rfl)).frame⟩

/-- A response that names the mailbox's request ends it; its records stand in DictResponse. -/
theorem State.dictResponse_mailbox {s : State} {m : Msg} {r : DictReq}
    (h : s.skl.reqs.find? (fun r => r.id == leAt m.payload 0 4) = some r) (hu : r.udp = none) :
    (s.dictResponse m).rd K.mbxDictStatus = 2 ∧ (s.dictResponse m).skl = { s.skl with reqs := s.skl.reqs.erase r } ∧
    Eff (withSide [.domains, .link]) (sideAnd [.one K.mbxDictStatus]) s (s.dictResponse m) := by
  have hresp : s.dictResponse m = (({ s.setSkl { s.skl with reqs := s.skl.reqs.erase r } with
      domLens := tput s.domLens K.mbxDictResponse 0 } : State).domWrite K.mbxDictResponse 0 (m.payload.drop 8)).mailboxEnd 2 := by
    simp only [State.dictResponse, h, hu]
    rfl
  rw [hresp]
  exact ⟨State.mailboxEnd_status .., State.mailboxEnd_skl .., (State.mailboxEnd_eff ..).after ((State.domWrite_eff ..).after
    (Eff.upd_domLens ((State.setSkl_eff ..).after Eff.refl rfl) rfl) rfl) rfl⟩

theorem dictTimeout_mailbox {s : State} {r : DictReq} {l : List DictReq} (h : s.skl.reqs = r :: l) (hu : r.udp = none) :
    dictTimeout s = ((s.at (r.since + ms (s.rd K.mbxDictTimeout))).setSkl { s.skl with reqs := l }).mailboxEnd 4 := by
  simp only [dictTimeout, h, hu]

/-! ### Time exchanges (R461, R493) -/

/-- Steering adjusts the rate and keeps the exchange. -/
theorem State.steer_exch (s : State) (theta : Int) : (s.steer theta).sync.exch = s.sync.exch := by
  unfold State.steer
  extract_lets pc integ want x y good src z st st'
  have hy : Eff sideParts (sideAnd [.one K.timeTimeStatus]) x y := Eff.ite (Eff.flag Eff.refl rfl rfl) Eff.refl
  calc _ = z.sync.exch := congrArg TimeSync.exch (State.setSyncState_eff ..).sync
    _ = y.sync.exch := rfl
    _ = x.sync.exch := congrArg TimeSync.exch hy.sync
    _ = s.sync.exch := rfl

/-- The law of R493 neither starts nor ends an exchange. -/
theorem State.timeLaw_exch (s : State) (theta : Int) : (s.timeLaw theta).sync.exch = s.sync.exch := by
  unfold State.timeLaw
  split
  · rfl
  · split
    · extract_lets run src x
      have hflag : Eff sideParts (sideAnd [.one K.timeTimeStatus]) x (x.flag K.timeTimeStatus 4 17) := Eff.flag Eff.refl rfl rfl
      split
      · rw [hflag.sync]
        rfl
      · rfl
    · exact s.steer_exch theta

/-- A valid exchange leaves its offset, its path delay and its count, and is over. -/
theorem State.exchanged_result (s : State) (t1 t2 t3 t4 : Int) :
    (s.exchanged t1 t2 t3 t4).rd K.timeLastOffset = ofI 64 (truncDiv ((t2 - t1) - (t4 - t3)) 2) ∧
    (s.exchanged t1 t2 t3 t4).rd K.timePathDelay = ofI 64 (truncDiv ((t2 - t1) + (t4 - t3)) 2) ∧
    (s.exchanged t1 t2 t3 t4).rd K.timeExchanges = (s.rd K.timeExchanges + 1) % 2 ^ 32 ∧
    (s.exchanged t1 t2 t3 t4).sync.exch = none := by
  unfold State.exchanged
  extract_lets theta delta x
  have hlaw := State.timeLaw_eff (x.setSync { x.sync with exch := none, validAt := x.now }) theta
  refine ⟨(hlaw.rd _ rfl).trans ?_, (hlaw.rd _ rfl).trans ?_, (hlaw.rd _ rfl).trans ?_, State.timeLaw_exch ..⟩
  · exact (State.rd_inc_ne _ _ (by decide)).trans ((State.rd_wr_ne _ _ (by decide)).trans (State.rd_wr_self ..))
  · exact (State.rd_inc_ne _ _ (by decide)).trans (State.rd_wr_self ..)
  · exact (State.rd_inc_self ..).trans (congrArg (fun v => (v + 1) % 2 ^ 32)
      ((State.rd_wr_ne _ _ (by decide)).trans (State.rd_wr_ne _ _ (by decide))))

/-! ### The messages of a time exchange, taken -/

/-- The exchange that a SYNC received on a port starts. -/
def State.syncExchange (s : State) (p : Nat) (m : Msg) (stamp : Nat) : Exchange :=
  { id := timeId m.payload, t1 := timeStamp m.payload, t2 := s.rxStamp p stamp, since := s.now }

section
variable {s u : State} {m : Msg} {p q stamp : Nat} (ht : s.takeMsg m = some (q, stamp, u)) (hq : q = p) (hc : m.cls = 3)
include ht hq hc

theorem sync_taken (hk : timeKind m.payload = 1) (hs : u.rd K.syncSyncSource = p + 2) :
    sync p m s = (u.setSync { u.sync with exch := some (u.syncExchange p m stamp) }).sendPort p 3 0 timeDest
      (timePayload 2 (timeId m.payload) 0) := by
  simp only [sync, ht, hq, hc, hk, hs, ne_eq, not_true_eq_false, or_self, if_false]
  rfl

theorem delayReq_taken (hk : timeKind m.payload = 2) (ho : u.originates = true) :
    delayReq p m s =
      u.sendPort p 3 0 timeDest (timePayload 3 (timeId m.payload) (ofI 80 (u.rxStamp p stamp))) := by
  simp only [delayReq, ht, hq, hc, hk, ho, ne_eq, not_true_eq_false, or_self, if_false]

/-- SYNC starts an exchange and queues its DELAY_REQ. -/
theorem sync_answered (hk : timeKind m.payload = 1) (hs : u.rd K.syncSyncSource = p + 2) (hu : u.skUp p = true)
    (hl : ((u.skPort p).queue 3).length < classDepth 3) :
    (sync p m s).sync.exch = some (u.syncExchange p m stamp) ∧
    ((sync p m s).skPort p).queue 3 =
      (u.skPort p).queue 3 ++ [(u.newMsg 3 0 timeDest 0 (timePayload 2 (timeId m.payload) 0)).1] ∧
    (sync p m s).skl.inbox = u.skl.inbox ∧ Eff [.time, .link] [] u (sync p m s) := by
  rw [sync_taken ht hq hc hk hs]
  have hstart := u.setSync_eff { u.sync with exch := some (u.syncExchange p m stamp) }
  obtain ⟨hqueue, hinbox, hsend⟩ := State.sendPort_queues
    (s := u.setSync { u.sync with exch := some (u.syncExchange p m stamp) }) (flags := 0) (dest := timeDest)
    (payload := timePayload 2 (timeId m.payload) 0) hu (by decide : 3 ≠ 1) hl
  exact ⟨congrArg TimeSync.exch hsend.sync, hqueue, hinbox, hsend.after (hstart.after Eff.refl rfl) rfl⟩

/-- DELAY_REQ queues its DELAY_RESP with the receive stamp. -/
theorem delayReq_answered (hk : timeKind m.payload = 2) (ho : u.originates = true) (hu : u.skUp p = true)
    (hl : ((u.skPort p).queue 3).length < classDepth 3) :
    ((delayReq p m s).skPort p).queue 3 = (u.skPort p).queue 3 ++
      [(u.newMsg 3 0 timeDest 0 (timePayload 3 (timeId m.payload) (ofI 80 (u.rxStamp p stamp)))).1] ∧
    (delayReq p m s).skl.inbox = u.skl.inbox ∧ Eff [.link] [] u (delayReq p m s) := by
  rw [delayReq_taken ht hq hc hk ho]
  exact State.sendPort_queues hu (by decide) hl

theorem delayResp_taken {x : Exchange} {t3 : Int} (hk : timeKind m.payload = 3) (hs : u.rd K.syncSyncSource = p + 2)
    (hx : u.sync.exch = some x) (h3 : x.t3 = some t3) (hi : timeId m.payload = x.id)
    (hn : u.now ≤ x.since + us (u.rd K.syncSyncPeriod) / 2) :
    delayResp p m s = u.exchanged x.t1 x.t2 t3 (timeStamp m.payload) := by
  obtain ⟨id, t1, t2, _, since⟩ := x
  subst h3
  simp only [delayResp, ht, hx, hq, hc, hk, hs, hi, Nat.not_lt.mpr hn, ne_eq, not_true_eq_false, or_self, if_false]

end

/-! ### Fragments held (R215) -/

/-- A fragment held joins those it touches, and is one more than before. -/
theorem State.holdFrag_held {s : State} (f : Frag) (h : s.umb.frags.length < 256) :
    (s.holdFrag f).umb.frags.length = s.umb.frags.length + 1 ∧ Eff [.umbra] [] s (s.holdFrag f) := by
  unfold State.holdFrag
  extract_lets u gs
  rw [if_neg (Nat.not_le.mpr h)]
  split
  · exact ⟨List.length_append, State.setUmb_eff ..⟩
  · refine ⟨?_, State.setUmb_eff ..⟩
    show List.length (_ ++ [_]) = _
    rw [List.length_append, List.length_map]
    rfl

theorem State.holdFrag_lost {s : State} (f : Frag) (h : 256 ≤ s.umb.frags.length) :
    s.holdFrag f = (s.inc 32 K.umbsJoinLost).flag K.umbsStatus 8 87 := if_pos h

/-! ### Events and boundary records, taken (R217, R460, R463) -/

section
variable {s u : State} {m : Msg} {q stamp : Nat} (ht : s.takeMsg m = some (q, stamp, u))
include ht

theorem evt_taken (hc : m.cls = 2) (hs : nth m.payload 0 < 32) :
    evt m s = (u.inc 32 (K.srvRecvCount (nth m.payload 0))).raise (Ev.lnkRecv (nth m.payload 0)) m.lineage := by
  simp only [evt, ht, hc, Nat.not_le.mpr hs, ne_eq, not_true_eq_false, or_self, if_false]

section
variable (hc : m.cls = 5) (hk : nth m.payload 0 = 1) (hb : u.on K.umbBoundaryRight = true)
include hc hk hb

theorem bulk_taken : ∃ f : Frag, bulk m s = u.holdFrag f := by
  simp only [bulk, ht, hc, hk, State.peerFragment, hb, ne_eq, not_true_eq_false, or_self, if_false]
  exact ⟨_, rfl⟩

theorem bulk_held (hf : u.umb.frags.length < 256) :
    (bulk m s).umb.frags.length = u.umb.frags.length + 1 ∧ Eff [.umbra] [] u (bulk m s) := by
  obtain ⟨f, hbulk⟩ := bulk_taken ht hc hk hb
  rw [hbulk]
  exact State.holdFrag_held f hf

theorem bulk_lost (hf : 256 ≤ u.umb.frags.length) : bulk m s = (u.inc 32 K.umbsJoinLost).flag K.umbsStatus 8 87 := by
  obtain ⟨f, hbulk⟩ := bulk_taken ht hc hk hb
  rw [hbulk, State.holdFrag_lost f hf]

end

/-! ### DICT, taken (R462) -/

section
variable (hc : m.cls = 4) (hl : 8 ≤ m.payload.length)
include hc hl

theorem dict_request {rs : List DRec} {body : List Nat} {v : State} (hf : bitOf m.flags 1 = false)
    (hb : bodyRecords (nth m.payload 5) (m.payload.drop 8) = some rs)
    (hr : runRecords { path := 6, secure := bitOf (nth m.payload 4) 0 && u.peerAdmitted m.source } 2040 rs u = (body, v)) :
    dict m s = (v.unicast 4 2 m.source 0 (m.payload.take 4 ++ [0, rs.length, 0, 0] ++ body)).2 := by
  simp only [dict, ht, hc, Nat.not_lt.mpr hl, hf, hb, hr, Bool.false_eq_true, ne_eq, not_true_eq_false, or_self, if_false]

/-- A request whose records do not fill its body is dropped (log 23). -/
theorem dict_malformed (hf : bitOf m.flags 1 = false) (hb : bodyRecords (nth m.payload 5) (m.payload.drop 8) = none) :
    dict m s = u := by
  simp only [dict, ht, hc, Nat.not_lt.mpr hl, hf, hb, Bool.false_eq_true, ne_eq, not_true_eq_false, or_self, if_false]

theorem dict_response (hf : bitOf m.flags 1 = true) : dict m s = u.dictResponse m := by
  simp only [dict, ht, hc, Nat.not_lt.mpr hl, hf, ne_eq, not_true_eq_false, or_self, if_false, if_true]

end

end

/-- Settles O54: each command is the operation its message calls for, on the state without the message, and the lemmas above say what
that operation leaves. A malformed DICT request leaves nothing but the inbox, and a response's flags byte is 0 (log 23). -/
theorem messageDeliveryCommands : Obligations.MessageDeliveryCommands := by
  unfold Obligations.MessageDeliveryCommands
  refine ⟨fun m q stamp u s ht hc hs => ?evt, fun p m q stamp u s hp ht hq hc hk hs hu hl => ?sync,
    fun p m q stamp u s hp ht hq hc hk ho hu hl => ?delayReq,
    fun p t3 x m q stamp u s hp ht hq hc hk hs hx h3 hi hn => ?delayResp,
    fun m q stamp u s ht hc hk hb hf => ?held, fun m q stamp u s ht hc hk hb hf => ?lost,
    fun rs body v m q stamp u s ht hc hl hf hb hr => ?request, fun m q stamp u s ht hc hl hf hb => ?malformed,
    fun r m q stamp u s ht hc hl hf hr hu => ?response, fun a r s hw hv hb hr => ?go, fun a s hw hv hb hr => ?noRoute,
    fun r l s hr hu => ?timeout⟩
  case evt =>
    have htake := State.takeMsg_eff ht
    have hraise := (u.inc 32 (K.srvRecvCount (nth m.payload 0))).raise_eff (Ev.lnkRecv (nth m.payload 0)) m.lineage
    have hown : ∀ i < 32, sideKeys.any (·.has (K.srvRecvCount i)) = false := by decide
    refine ⟨evt m s, rfl, ?_⟩
    rw [evt_taken ht hc hs]
    refine ⟨?_, hraise.skl, (hraise.after (Eff.inc (htake.after Eff.refl ?_) rfl ?_) ?_).frame⟩
    · rw [hraise.rd _ (hown _ hs), State.rd_inc_self, htake.rd _ rfl]
    · exact fits_of_subset (by decide) (List.nil_subset _)
    · simp [sideAnd, KeySet.has]
    · exact fits_of_subset (List.subset_append_left _ _) (List.subset_append_left _ _)
  case sync =>
    have htake := State.takeMsg_eff ht
    obtain ⟨l, rfl⟩ := State.takeMsg_inbox ht
    obtain ⟨hexch, hqueue, hinbox, hsync⟩ := sync_answered ht hq hc hk hs hu hl
    exact ⟨sync p m s, inst_true (Nat.blt_eq.mpr hp), hexch, hqueue, hinbox, (hsync.after (htake.after Eff.refl rfl) rfl).frame⟩
  case delayReq =>
    have htake := State.takeMsg_eff ht
    obtain ⟨l, rfl⟩ := State.takeMsg_inbox ht
    obtain ⟨hqueue, hinbox, hreq⟩ := delayReq_answered ht hq hc hk ho hu hl
    exact ⟨delayReq p m s, inst_true (Nat.blt_eq.mpr hp), hqueue, hreq.sync, hinbox, (hreq.after htake rfl).frame⟩
  case delayResp =>
    have hframe := (delayResp_eff p m s).frame
    obtain ⟨l, rfl⟩ := State.takeMsg_inbox ht
    refine ⟨delayResp p m s, inst_true (Nat.blt_eq.mpr hp), ?_⟩
    rw [delayResp_taken ht hq hc hk hs hx h3 hi hn] at hframe ⊢
    obtain ⟨hoffset, hdelay, hcount, hexch⟩ := State.exchanged_result _ x.t1 x.t2 t3 (timeStamp m.payload)
    exact ⟨hoffset, hdelay, hcount, hexch, congrArg Skl.inbox (State.exchanged_eff ..).skl, hframe⟩
  case held =>
    have htake := State.takeMsg_eff ht
    obtain ⟨l, rfl⟩ := State.takeMsg_inbox ht
    obtain ⟨hlen, hheld⟩ := bulk_held ht hc hk hb hf
    exact ⟨bulk m s, rfl, hlen, hheld.rd _ rfl, hheld.skl, (hheld.after (htake.after Eff.refl rfl) rfl).frame⟩
  case lost =>
    have htake := State.takeMsg_eff ht
    obtain ⟨l, rfl⟩ := State.takeMsg_inbox ht
    refine ⟨bulk m s, rfl, ?_⟩
    rw [bulk_lost ht hc hk hb hf]
    refine ⟨?_, ?_, (State.arrive_eff ..).part .umbra rfl, (Eff.flag (Eff.inc (htake.after Eff.refl rfl) rfl rfl) rfl rfl).frame⟩
    · rw [State.flag_rd_ne _ _ _ (by decide), State.rd_inc_self]
      rfl
    · rw [State.bit, State.flag_rd]
      exact bitOf_setBits_new _ (by decide)
  case request =>
    refine ⟨dict m s, rfl, dict_request ht hc hl hf hb hr, ?_⟩
    rw [dict_request ht hc hl hf hb hr]
    exact ((State.unicast_eff ..).after Eff.refl rfl).frame
  case malformed => exact ⟨dict m s, rfl, dict_malformed ht hc hl hf hb, dict_malformed ht hc hl hf hb ▸ (State.takeMsg_eff ht).frame⟩
  case response =>
    have htake := State.takeMsg_eff ht
    have hreqs : u.skl.reqs = s.skl.reqs := by
      obtain ⟨l, rfl⟩ := State.takeMsg_inbox ht
      rfl
    rw [← hreqs] at hr ⊢
    obtain ⟨hstatus, hskl, hresponse⟩ := State.dictResponse_mailbox hr hu
    refine ⟨dict m s, rfl, ?_⟩
    rw [dict_response ht hc hl hf]
    exact ⟨hstatus, congrArg Skl.reqs hskl, (hresponse.after (htake.after Eff.refl rfl) rfl).frame⟩
  case go =>
    obtain ⟨hstatus, hnext, hreqs⟩ := State.mailboxSend_routed hr
    obtain ⟨hstatus', -, hskl, haccess, hframe⟩ := mailboxSend_done s a
    refine ⟨dictGoWrite a s, rfl, ?_⟩
    rw [dictGoWrite_served hw hv hb, hskl]
    exact ⟨hstatus'.trans hstatus, hreqs, hnext, haccess, hframe⟩
  case noRoute =>
    obtain ⟨hstatus, hcount, hskl, haccess, hframe⟩ := mailboxSend_done s a
    have hsend := State.mailboxSend_unrouted hr
    refine ⟨dictGoWrite a s, rfl, ?_⟩
    rw [dictGoWrite_served hw hv hb]
    refine ⟨?_, ?_, ?_, haccess, hframe⟩
    · rw [hstatus, hsend, State.mailboxEnd_status]
    · rw [hcount, hsend, (State.mailboxEnd_eff ..).rd _ rfl, State.noRoute_count, State.mailboxOpened_rd _ (by decide)]
    · rw [hskl, hsend, State.mailboxEnd_skl, (State.noRoute_eff _).skl]
      rfl
  case timeout =>
    refine ⟨dictTimeout s, rfl, ?_⟩
    rw [dictTimeout_mailbox hr hu]
    exact ⟨State.mailboxEnd_status .., congrArg Skl.reqs (State.mailboxEnd_skl ..), (State.mailboxEnd_eff ..).part .clock rfl,
      ((State.mailboxEnd_eff ..).after ((State.setSkl_eff ..).after ((State.at_eff ..).after Eff.refl rfl) rfl) rfl).frame⟩

end Sys2Proof.Machine

/-! SUPPORT. Bar lines, plate segments and mask requests (O33): what a bar line's start, its wait for input and its end leave in the bar's
record and entries, what Slip's segment leaves with its engine, and what a mask request leaves in its queue and in the Glaze word. -/

namespace Sys2Proof.Machine

/-! ### The bars' records through a frame -/

section
variable {ps : List Part} {ks : List KeySet} {s t : State} (h : Eff ps ks s t) (hp : ps.contains .slip = false := by rfl)
include h hp

theorem Eff.bar (b : Nat) : t.bar b = s.bar b := by
  obtain ⟨-, hbars⟩ := h.part .slip hp
  exact congrArg (fun l => tget ({} : Bar) l b) hbars

theorem Eff.slip : t.slip = s.slip := by
  obtain ⟨hslip, -⟩ := h.part .slip hp
  exact hslip

end

/-! ### A bar line starts, or waits for its input (R244, R256, R258) -/

/-- The line in progress stands in its bar's record, which waits for input no longer. -/
theorem State.startLine_bar (s : State) (b delay : Nat) : ∃ due plane down,
    (s.startLine b delay).bar b = { s.bar b with cur := some (due, plane), down := down, stalled := false } := by
  unfold State.startLine
  extract_lets s1 x line prev vals p codes plane due s2
  have hx : x = s.bar b := (s.rejoinHeads_eff b).bar rfl b
  refine ⟨due, plane, codes.2, ((Eff.foldl (ps := [.kiln]) (ks := []) (fun _ _ h => (State.setPort_eff ..).after h rfl) Eff.refl).bar
    rfl b).trans ?_⟩
  rw [State.bar_setBar_self, hx]

/-- The state of a bar whose line must wait for input: the wait is counted once and shown in the status. -/
def State.inputStalled (s : State) (b : Nat) : State :=
  ((s.setBar b { s.bar b with stalled := true }).inc 32 (K.barsInputStalls b)).flag K.slipStatus 2 97

section
variable (s : State) (b : Nat)

theorem State.inputStalled_stalled : ((s.inputStalled b).bar b).stalled = true := by
  rw [State.inputStalled, State.flag, (State.arrive_eff ..).bar]
  exact congrArg Bar.stalled (State.bar_setBar_self ..)

theorem State.inputStalled_count (hb : b < 16) :
    (s.inputStalled b).rd (K.barsInputStalls b) = (s.rd (K.barsInputStalls b) + 1) % 2 ^ 32 := by
  rw [State.inputStalled, State.flag, (State.arrive_eff ..).rd_inst hb, State.rd_wr_ne _ _ (ne_instKey _ rfl).symm, State.rd_inc_self]
  rfl

theorem State.inputStalled_status : (s.inputStalled b).bit K.slipStatus 1 = true := by
  rw [State.bit, State.inputStalled, State.flag_rd]
  exact bitOf_setBits_new _ (by decide)

theorem State.inputStalled_eff :
    Eff (withSide [.slip]) (sideAnd [.one (K.barsInputStalls b), .one K.slipStatus]) s (s.inputStalled b) := by
  refine Eff.flag (Eff.inc ((s.setBar_eff b _).after Eff.refl ?_) rfl ?_) ?_ ?_
  · exact fits_of_subset (by decide) (List.nil_subset _)
  · simp [sideAnd, KeySet.has]
  · exact fits_of_subset (List.subset_append_left _ _) (List.subset_append_left _ _)
  · simp [sideAnd, KeySet.has]

end

section
variable {b : Nat} {s u : State} (ha : s.lineAllowed b = true) (hu : u = fetchSettle b 64 (s.beginRepeat b))
  (hs : u.withinStop (u.barLine b (u.bar b).k) = true)
include ha hu hs

theorem barLineStart_starts (hr : (u.lineRows (u.bar b).pos (u.barLine b (u.bar b).k)).all (u.rowReady b) = true) :
    barLineStart b s = (u.glazeBoundary b).startLine b (u.boundaryDelay b) := by
  simp only [barLineStart, ← hu, ha, hs, hr, not_true_eq_false, if_false, if_true]

theorem barLineStart_stalls (hr : (u.lineRows (u.bar b).pos (u.barLine b (u.bar b).k)).all (u.rowReady b) = false)
    (hw : (u.bar b).stalled = false) : barLineStart b s = u.inputStalled b := by
  simp only [barLineStart, ← hu, ha, hs, hr, hw, not_true_eq_false, Bool.false_eq_true, if_false, State.inputStalled]

end

/-! ### A bar line's end (R237, R256, R265) -/

section
variable (s : State) (b : Nat)

theorem State.nextLine_bar_self : ((s.nextLine b).bar b).k = (s.bar b).k + 1 ∧ ((s.nextLine b).bar b).cur = none := by
  unfold State.nextLine
  extract_lets x line row next segs y
  split <;> rw [State.bar_setBar_self] <;> exact ⟨rfl, rfl⟩

theorem State.nextLine_bar_ne {c : Nat} (hc : c ≠ b) : (s.nextLine b).bar c = s.bar c := by
  unfold State.nextLine
  extract_lets x line row next segs y
  split <;> exact (State.bar_setBar ..).trans (if_neg hc)

/-- The line is counted and shown, and the bar stands at its next line; records that every bar has passed are freed. -/
def State.lineScreened (s : State) (b line : Nat) : State :=
  ((((s.inc 64 (K.barsLinesScreened b)).wr (K.barsLine b) (ofI 64 line)).nextLine b).showFill b).freeVars

variable (line : Nat)

/-- After the line's own two entries only the bar's record, its fill and VarReadIndex change. -/
theorem State.lineScreened_after_entries : Eff [.regs, .slip] [.fam (K.barsQueueFill 0) 16, .one K.slipVarReadIndex]
    ((s.inc 64 (K.barsLinesScreened b)).wr (K.barsLine b) (ofI 64 line)) (s.lineScreened b line) :=
  (State.freeVars_eff _).after ((State.showFill_eff ..).after ((State.nextLine_eff ..).after Eff.refl rfl) rfl) rfl

theorem State.lineScreened_line (hb : b < 16) : (s.lineScreened b line).rd (K.barsLine b) = ofI 64 line := by
  rw [(s.lineScreened_after_entries b line).rd_inst hb, State.rd_wr_self]

theorem State.lineScreened_count (hb : b < 16) :
    (s.lineScreened b line).rd (K.barsLinesScreened b) = (s.rd (K.barsLinesScreened b) + 1) % 2 ^ 64 := by
  rw [(s.lineScreened_after_entries b line).rd_inst hb, State.rd_wr_inst _ _ (by decide), State.rd_inc_self]

theorem State.lineScreened_bar (c : Nat) : (s.lineScreened b line).bar c =
    (((s.inc 64 (K.barsLinesScreened b)).wr (K.barsLine b) (ofI 64 line)).nextLine b).bar c := rfl

theorem State.lineScreened_bar_self :
    ((s.lineScreened b line).bar b).k = (s.bar b).k + 1 ∧ ((s.lineScreened b line).bar b).cur = none := by
  rw [State.lineScreened_bar]
  exact State.nextLine_bar_self ..

theorem State.lineScreened_bar_ne {c : Nat} (hc : c ≠ b) : (s.lineScreened b line).bar c = s.bar c := by
  rw [State.lineScreened_bar]
  exact State.nextLine_bar_ne _ _ hc

theorem State.lineScreened_isLead : (s.lineScreened b line).isLead b = s.isLead b := by
  rw [State.isLead, (s.lineScreened_after_entries b line).rd _ rfl, State.rd_wr_ne _ _ (ne_instKey _ rfl),
    State.rd_inc_ne _ _ (ne_instKey _ rfl)]
  rfl

end

section
variable {b due : Nat} {s : State}

/-- A finished line with no ring plane marks its banks, and leaves them when it has missed its deadline; then the line is counted. -/
theorem barLineDone_follower (hc : (s.bar b).cur = some (due, none)) (hl : s.isLead b = false) : ∃ x,
    Eff [.kiln] [] (s.at due) x ∧ barLineDone b s = x.lineScreened b (s.barLine b (s.bar b).k) := by
  unfold barLineDone
  split
  case h_1 h => cases h.symm.trans hc
  case h_2 h =>
    cases h.symm.trans hc
    extract_lets s1 k p line s2 s3 s4 s5
    have hx : Eff [.kiln] [] s1 s3 :=
      (State.dropMissed_eff ..).after (Eff.foldl (fun _ _ h => (State.setPort_eff ..).after h rfl) Eff.refl) rfl
    have hlead : s5.isLead b = false := by
      rw [← hl, ← (show s3.isLead b = s.isLead b from congrArg (· == b) (hx.rd _ rfl))]
      exact s3.lineScreened_isLead b line
    exact ⟨s3, hx, if_pos (by rw [hlead]; decide)⟩

end

/-! ### An idle reserved engine takes a segment (R239, R406) -/

theorem segmentFetch_takes {e b rows cols : Nat} {r d : List Nat} {s u v : State} (hn : s.zeNextReserved e = true)
    (hu : u = s.barsOn.foldl (fun s b => fetchSettle b 64 s) s) (ho : u.fetchOrder = b :: r)
    (hl : u.fetchLook b = (.segment d rows cols, v)) : segmentFetch e s = v.fetchSegment e b d rows cols := by
  simp only [segmentFetch, hn, not_true_eq_false, if_false, ← hu, ho, fetchFirst, hl]

section
variable (s : State) (e b : Nat) (d : List Nat) (rows cols : Nat)

theorem State.fetchSegment_job : ((s.fetchSegment e b d rows cols).ze e).job = some
    { kind := 2, op := 1, src := leAt d 0 8, inLen := leAt d 8 4, outLimit := rows * cols, bar := b, rep := (s.bar b).fetch.idx,
      seg := (s.bar b).fetchSeg } := congrArg Ze.job (State.ze_setZe_self ..)

/-- The bar's cursor stands at the segment after the one given away. -/
theorem State.fetchSegment_cursor : ((s.fetchSegment e b d rows cols).bar b).fetchSeg = (s.bar b).fetchSeg + 1 :=
  congrArg Bar.fetchSeg (State.bar_setBar_self s b _)

theorem State.fetchSegment_eff_own : Eff [.regs, .engines, .slip] [.one (K.barsQueueFill b), .one (K.zesEngineState e)] s
    (s.fetchSegment e b d rows cols) := by
  refine Eff.wr ((State.setZe_eff ..).after (Eff.wr ((State.setBar_eff ..).after Eff.refl ?_) rfl ?_) ?_) rfl ?_
  · exact fits_of_subset (by decide) (List.nil_subset _)
  · simp [KeySet.has]
  · exact fits_of_subset (by decide) (List.nil_subset _)
  · simp [KeySet.has]

end

/-! ### Mask requests (R246) -/

/-- A word of the default value reads the same though it is not listed. -/
theorem State.glazeWord_setGlaze (s : State) (n m w : Nat) :
    (s.setGlaze n w).glazeWord m = if m = n then w else s.glazeWord m := by
  unfold State.setGlaze State.glazeWord
  by_cases hw : w = 0x0FFFC00800400000
  · simp only [hw, if_true, tget, tfind_terase]
    split <;> rfl
  · simp only [hw, if_false, tget_tput]

theorem State.askMask_queued {s : State} {r : MaskReq} {b : Nat} (h : (s.bar b).masks.length < 64) :
    s.askMask r b = s.setBar b { s.bar b with masks := (s.bar b).masks ++ [r] } := if_neg (Nat.not_le.mpr h)

/-- A served clear request of one nozzle joins its bar's queue. -/
theorem maskClearWrite_queued {a : Acc} {s : State} {b : Nat} (hw : s.writeStatus a K.glzMaskClear = 0)
    (hv : accVal a K.glzMaskClear ≠ 0xFFFFFFFF) (hb : b = s.headBar (accVal a K.glzMaskClear / 8192))
    (hm : (s.bar b).masks.length < 64) :
    maskClearWrite a s = (s.setBar b { s.bar b with
      masks := (s.bar b).masks ++ [{ nozzle := accVal a K.glzMaskClear, set := 0 }] }).done a K.glzMaskClear 0 := by
  rw [maskClearWrite, State.act_ok hw rfl, if_neg hv, State.askMaskFor, ← hb, State.askMask_queued hm]

theorem maskRequestApply_first {b : Nat} {r : MaskReq} {l : List MaskReq} {s : State}
    (hf : (List.range 17).find? (fun b => !s.barRuns b && !(s.bar b).masks.isEmpty) = some b) (hm : (s.bar b).masks = r :: l) :
    maskRequestApply s = (s.setBar b { s.bar b with masks := l }).applyMask b r := by
  simp only [maskRequestApply, hf, hm]

section
variable {s : State} {b : Nat} {r : MaskReq} (h : r.nozzle ≠ 0xFFFFFFFF)
include h

/-- A request for one nozzle writes that nozzle's word and is counted; the arrival and the event follow. -/
theorem State.applyMask_nozzle :
    Eff sideParts sideKeys ((s.setGlaze r.nozzle (maskWord (s.glazeWord r.nozzle) r.set)).inc 32 K.glzMaskRequests)
      (s.applyMask b r) := by
  unfold State.applyMask
  rw [if_neg h]
  exact State.arrive_raise_eff ..

theorem State.applyMask_glazeWord (n : Nat) : (s.applyMask b r).glazeWord n =
    if n = r.nozzle then maskWord (s.glazeWord r.nozzle) r.set else s.glazeWord n := by
  rw [State.glazeWord, (State.applyMask_nozzle h).part .glaze rfl]
  exact State.glazeWord_setGlaze ..

end

/-- Settles O33: each command comes to one operation of Slip, whose effect the lemmas above say. A line is computed whole from the state
at its start (log 49), once every row it needs is ready; the bar's input queue holds whole segments (log 48). -/
theorem slipCommands : Obligations.SlipCommands := by
  unfold Obligations.SlipCommands
  refine ⟨fun b u s hb ha hu hs hr => ?starts, fun b u s hb ha hu hs hr hw => ?stalls, fun b due s hb hc hl => ?screened,
    fun e b r u v d rows cols s he hn hu ho hl => ?segment, fun a s hw hv hm => ?clear, fun b r l s hf hm hr => ?applied⟩
  case starts =>
    obtain ⟨due, plane, down, hbar⟩ := (u.glazeBoundary b).startLine_bar b (u.boundaryDelay b)
    have hstart := barLineStart_starts ha hu hs hr
    refine ⟨barLineStart b s, inst_true (Nat.blt_eq.mpr hb), hstart, ?_, ?_, ?_, (barLineStart_eff b s).frame⟩ <;> rw [hstart]
    · rw [hbar]
      rfl
    · rw [hbar]
    · exact (State.startLine_eff ..).frame
  case stalls =>
    have hframe := (barLineStart_eff b s).frame
    refine ⟨barLineStart b s, inst_true (Nat.blt_eq.mpr hb), ?_⟩
    rw [barLineStart_stalls ha hu hs hr hw] at hframe ⊢
    exact ⟨u.inputStalled_stalled b, u.inputStalled_count b hb, u.inputStalled_status b, (u.inputStalled_eff b).frame, hframe⟩
  case screened =>
    have hframe := (barLineDone_eff b s).frame
    obtain ⟨x, hx, hdone⟩ := barLineDone_follower hc hl
    refine ⟨barLineDone b s, inst_true (Nat.blt_eq.mpr hb), ?_⟩
    rw [hdone] at hframe ⊢
    set line := s.barLine b (s.bar b).k
    have hbar : ∀ c, x.bar c = s.bar c := hx.bar rfl
    obtain ⟨hk, hcur⟩ := x.lineScreened_bar_self b line
    refine ⟨?_, x.lineScreened_line b line hb, ?_, ?_, hcur, fun c hne => ?_, hframe⟩
    · exact ((x.lineScreened_after_entries b line).part .clock rfl).trans (hx.part .clock rfl)
    · rw [x.lineScreened_count b line hb, hx.rd _ rfl]
      rfl
    · rw [hk, hbar]
    · rw [x.lineScreened_bar_ne b line hne, hbar]
  case segment =>
    have hframe := (segmentFetch_eff e s).frame
    have htake := segmentFetch_takes hn hu ho hl
    refine ⟨segmentFetch e s, inst_true (Nat.blt_eq.mpr he), htake, ?_⟩
    rw [htake] at hframe ⊢
    exact ⟨v.fetchSegment_job .., v.fetchSegment_cursor .., (v.fetchSegment_eff_own ..).frame, hframe⟩
  case clear =>
    refine ⟨_, congrArg Host.Outcome.next (maskClearWrite_queued hw hv rfl hm), ?_⟩
    set b := s.headBar (accVal a K.glzMaskClear / 8192)
    set x : Bar := { s.bar b with masks := (s.bar b).masks ++ [{ nozzle := accVal a K.glzMaskClear, set := 0 }] }
    have hdone := (s.setBar b x).done_ok_eff a K.glzMaskClear
    refine ⟨?_, fun c hne => ?_, hdone.slip, State.done_ok_status .., (((s.setBar_eff b x).after Eff.refl rfl).done_ok rfl).frame⟩
    · rw [hdone.bar, State.bar_setBar_self]
    · rw [hdone.bar, State.bar_setBar, if_neg hne]
  case applied =>
    have hframe := (maskRequestApply_eff s).frame
    refine ⟨maskRequestApply s, rfl, ?_⟩
    rw [maskRequestApply_first hf hm] at hframe ⊢
    have hside := State.applyMask_nozzle (s := s.setBar b { s.bar b with masks := l }) (b := b) hr
    refine ⟨?_, ?_, fun n hne => ?_, ?_, fun c hne => ?_, hside.slip, hframe⟩
    · exact congrArg Bar.masks ((hside.bar rfl b).trans (State.bar_setBar_self ..))
    · exact (State.applyMask_glazeWord hr _).trans (if_pos rfl)
    · exact (State.applyMask_glazeWord hr n).trans (if_neg hne)
    · rw [hside.rd _ rfl, State.rd_inc_self]
      rfl
    · exact (hside.bar rfl c).trans ((State.bar_setBar ..).trans (if_neg hne))

end Sys2Proof.Machine

/-! SUPPORT. Raster triggers and shifting (O34): what a bar, its entries and its ports hold when a trigger fires, discards or skips a line,
and when a line is shifted to a port's heads. -/

namespace Sys2Proof.Machine

/-! ### Entries of a numbered group through a frame of single entries -/

/-- An entry of a numbered group, whatever its number, when none of the listed entries is the group's. A group's whole family has the
keys of absent numbers too, so only a frame of single entries keeps what is read under a profile number that no group has. -/
theorem Eff.rd_group {ps : List Part} {l : List Nat} {s t : State} (h : Eff ps (l.map .one) s t) {a n : Nat} (i : Nat)
    (hl : l.all (fun k => !KeySet.has (.fam a n) k) = true) (hn : 0 < n := by decide) :
    t.rd (instKey a n i) = s.rd (instKey a n i) := by
  refine h.rd _ ?_
  simp only [List.any_map, List.any_eq_false, Function.comp_apply, KeySet.has, beq_iff_eq]
  intro k hk
  exact (ne_instKey i (by simpa using List.all_eq_true.mp hl k hk) hn).symm

/-- An arrival writes its own source's Count and Pending word. -/
theorem State.arrive_eff_own (s : State) (src : Nat) :
    Eff sideParts [.one (K.srcCount src), .one (K.pendPending (src / 64))] s (s.arrive src) := by
  unfold State.arrive
  split
  · exact Eff.refl
  · extract_lets x y
    refine (State.hostSignal_eff _).after ?_ (fits_of_subset (by decide) (List.nil_subset _))
    have hx : Eff sideParts [.one (K.srcCount src), .one (K.pendPending (src / 64))] s x := by
      unfold x State.countArrival
      split
      · exact Eff.refl
      · exact Eff.upd_arrived (Eff.refl.wr rfl (by simp [KeySet.has])) (fits_of_subset (by decide) (List.nil_subset _))
    exact Eff.ite hx (hx.wr rfl (by simp [KeySet.has]))

/-! ### The ports' records through a frame -/

section
variable {ps : List Part} {ks : List KeySet} {s t : State} (h : Eff ps ks s t) (hp : ps.contains .kiln = false := by rfl)
include h hp

theorem Eff.port (p : Nat) : t.port p = s.port p := by
  obtain ⟨hports, -⟩ := h.part .kiln hp
  exact congrArg (fun l => tget ({} : Port) l p) hports

end

/-! ### The interval since the last delivery (R281) -/

/-- The entries that show the speed limit of the Kiln, its source's arrivals among them. -/
def speedKeys : List Nat := [K.kilnSpeedLimit, K.srcCount 209, K.pendPending 3]

theorem State.speedRequest_eff_own (s : State) : Eff (withSide [.pins]) (speedKeys.map .one) s s.speedRequest := by
  unfold State.speedRequest
  extract_lets want pin x
  have hx : Eff (withSide [.pins]) (speedKeys.map .one) s x :=
    Eff.ite Eff.refl ((State.raise_eff_own ..).after ((State.arrive_eff_own _ 209).after (Eff.refl.wr rfl rfl) rfl) rfl)
  exact Eff.ite ((State.drive_eff ..).after hx rfl) hx

/-- The entries that a delivery to a bar writes before the line is judged. -/
def intervalKeys (b : Nat) : List Nat := K.kbarLastInterval b :: K.kbarInSpeedLimit b :: speedKeys

theorem State.interval_eff_own (s : State) (b : Nat) : Eff (withSide [.pins]) ((intervalKeys b).map .one) s (s.interval b) := by
  unfold State.interval
  split
  · exact Eff.refl
  · next t _ =>
    have hx : Eff (withSide [.pins]) ((intervalKeys b).map .one) s (s.wr (K.kbarLastInterval b) (s.now - t)) :=
      Eff.refl.wr rfl (by simp [intervalKeys, KeySet.has])
    refine Eff.ite ((State.speedRequest_eff_own _).after (hx.wr rfl (by simp [intervalKeys, KeySet.has])) ?_) hx
    exact fits_of_subset (List.Subset.refl _) (List.map_subset _ (List.subset_cons_of_subset _ (List.subset_cons_self ..)))

/-- A state in which the trigger's interval is noted and its delivery is on record (R281). -/
def State.delivered (s : State) (b : Nat) : State := (s.interval b).setBar b { s.bar b with delivered := some s.now }

section
variable (s : State) (b : Nat)

theorem State.delivered_eff_own : Eff (withSide [.pins, .slip]) ((intervalKeys b).map .one) s (s.delivered b) :=
  (State.setBar_eff ..).after ((s.interval_eff_own b).after Eff.refl
    (fits_of_subset (by decide) (List.Subset.refl _))) (fits_of_subset (by decide) (List.nil_subset _))

theorem State.delivered_eff : Eff (withSide [.pins, .slip]) (sideAnd [.fam (K.kbarInSpeedLimit 0) 16, .fam (K.kbarLastInterval 0) 16,
    .one K.kilnSpeedLimit]) s (s.delivered b) :=
  (State.setBar_eff ..).after ((s.interval_eff b).after Eff.refl rfl) rfl

theorem State.delivered_bar : (s.delivered b).bar b = { s.bar b with delivered := some s.now } := State.bar_setBar_self ..

theorem State.delivered_dev : (s.delivered b).dev = s.dev := (s.delivered_eff b).rd _ rfl

theorem State.delivered_slip : (s.delivered b).slip = s.slip := (s.interval_eff b).slip

theorem State.delivered_withinStop (line : Nat) : (s.delivered b).withinStop line = s.withinStop line := by
  rw [State.withinStop, State.rdI, s.delivered_slip, (s.delivered_eff b).rd _ rfl]
  rfl

theorem State.delivered_tempMaxKnot (g which : Nat) : (s.delivered b).tempMaxKnot g which = s.tempMaxKnot g which := by
  obtain ⟨hdom, -⟩ := (s.delivered_eff b).part .domains rfl
  have hknot : (s.delivered b).tempKnot g which = s.tempKnot g which := funext fun j => by
    simp only [State.tempKnot, State.domLe, State.domBytes, State.domByte, hdom]
  rw [State.tempMaxKnot, hknot, State.tempMaxKnot]

variable {b} (hb : b < 16)
include hb

/-- The entries of a group that a delivery writes no entry of. -/
theorem State.delivered_rd {a n : Nat} (i : Nat) (hn : 0 < n)
    (hl : ∀ c < 16, (intervalKeys c).all (fun k => !KeySet.has (.fam a n) k) = true) :
    (s.delivered b).rd (instKey a n i) = s.rd (instKey a n i) := (s.delivered_eff_own b).rd_group i (hl b hb) hn

theorem State.delivered_barLine (k : Nat) : (s.delivered b).barLine b k = s.barLine b k := by
  simp (disch := decide) only [State.barLine, s.delivered_rd hb]

theorem State.delivered_barPorts (c : Nat) : (s.delivered b).barPorts c = s.barPorts c := by
  simp (disch := decide) only [State.barPorts, s.delivered_rd hb]

theorem State.delivered_prof (p : Nat) : (s.delivered b).prof p = s.prof p := by
  simp (disch := decide) only [State.prof, s.delivered_rd hb]

/-- Check 2 of R273 reads nothing that a delivery writes. -/
theorem State.delivered_lineShifted (k : Nat) : (s.delivered b).lineShifted b k = s.lineShifted b k := by
  have hnow : (s.delivered b).now = s.now := (s.delivered_eff b).part .clock rfl
  have hport : ∀ p, (s.delivered b).port p = s.port p := (s.delivered_eff b).port
  simp (disch := decide) only [State.lineShifted, hnow, hport, s.delivered_barPorts hb, s.delivered_prof hb, s.delivered_rd hb]

theorem State.delivered_frameTime (g : Nat) : (s.delivered b).frameTime g = s.frameTime g := by
  simp (disch := decide) only [State.frameTime, State.bitTime, s.delivered_rd hb]

theorem State.delivered_windowMax (g : Nat) : (s.delivered b).windowMax g = s.windowMax g := by
  simp (disch := decide) only [State.windowMax, s.delivered_tempMaxKnot, s.delivered_rd hb]

theorem State.delivered_profilePeriod (g : Nat) : (s.delivered b).profilePeriod g = s.profilePeriod g := by
  simp (disch := decide) only [State.profilePeriod, State.firePeriod, State.shiftPeriod, s.delivered_frameTime hb, s.delivered_rd hb]

theorem State.delivered_strobePeriod (p : Nat) : (s.delivered b).strobePeriod p = s.strobePeriod p := by
  simp (disch := decide) only [State.strobePeriod, State.portHeads, State.bit, s.delivered_windowMax hb, s.delivered_prof hb,
    s.delivered_rd hb]

/-- A bar's least line period reads nothing that a delivery writes. -/
theorem State.delivered_minLinePeriod (c : Nat) : (s.delivered b).minLinePeriod c = s.minLinePeriod c := by
  have hport : (s.delivered b).portPeriod = s.portPeriod := funext fun p => by
    rw [State.portPeriod, s.delivered_prof hb, s.delivered_profilePeriod hb, s.delivered_strobePeriod hb, State.portPeriod]
  rw [State.minLinePeriod, hport, s.delivered_barPorts hb, State.minLinePeriod]

/-- Check 4 of R273 is made against the last line fired, which a delivery leaves as it was. -/
theorem State.delivered_lineSpaced : (s.delivered b).lineSpaced b = s.lineSpaced b := by
  have hnow : (s.delivered b).now = s.now := (s.delivered_eff b).part .clock rfl
  simp only [State.lineSpaced, hnow, s.delivered_bar, s.delivered_minLinePeriod hb]

end

/-! ### A line is fired, or skipped for overspeed (R274, R280) -/

theorem State.rd_add_self (s : State) (w k n : Nat) : (s.add w k n).rd k = (s.rd k + n) % 2 ^ w := State.rd_wr_self ..

section
variable (s : State) (b : Nat)

theorem State.latchPorts_eff (l : List Nat) : Eff (withSide [.kiln]) (sideAnd [.fam (K.khFireWidth 0) 128, .fam (K.khHeadStatus 0) 128,
    .fam (K.khPreHeatWidth 0) 128, .one K.kilnKilnStatus]) s (l.foldl State.latchPort s) :=
  Eff.foldl (fun _ _ h => (State.latchPort_eff ..).after h rfl) Eff.refl

theorem State.fireLine_bar : (s.fireLine b).bar b = { s.bar b with fired := some s.now } := by
  unfold State.fireLine
  extract_lets x y
  have hx : Eff (withSide [.kiln]) _ s x := s.latchPorts_eff (s.barPorts b)
  rw [(State.raiseAt_eff ..).bar, State.bar_setBar_self, hx.part .clock rfl]
  exact congrArg (fun r : Bar => { r with fired := some s.now }) (hx.bar rfl b)

theorem State.fireLine_count (hb : b < 16) : (s.fireLine b).rd (K.kbarLinesFired b) = (s.rd (K.kbarLinesFired b) + 1) % 2 ^ 64 := by
  unfold State.fireLine
  extract_lets x y
  have hx : x.rd (K.kbarLinesFired b) = s.rd (K.kbarLinesFired b) := (s.latchPorts_eff _).rd_inst hb
  rw [(State.raiseAt_eff ..).rd_inst hb, ← hx]
  exact State.rd_inc_self ..

/-- What a skip leaves in the bar's own entries: its status, the count, the position and the speed limit. -/
def State.skipNoted (s : State) (b : Nat) (x : Trig) : State :=
  (((((s.flag (K.kbarBarStatus b) 1 208).kilnMark 1).inc 32 (K.kbarLinesSkipped b)).wr (K.kbarLastSkip b) (ofI 64 (wholePos x.t))).wr
    (K.kbarInSpeedLimit b) 1)

variable (x : Trig)

theorem State.overspeed_after_noted :
    Eff (withSide [.pins]) (sideAnd [.one K.kilnSpeedLimit]) (s.skipNoted b x) (s.overspeed b x) :=
  (State.speedRequest_eff _).after ((State.witness_eff ..).after ((State.raise_eff ..).after Eff.refl rfl) rfl) rfl

variable {b} (hb : b < 16)
include hb

theorem State.overspeed_count : (s.overspeed b x).rd (K.kbarLinesSkipped b) = (s.rd (K.kbarLinesSkipped b) + 1) % 2 ^ 32 := by
  have hflag : ((s.flag (K.kbarBarStatus b) 1 208).kilnMark 1).rd (K.kbarLinesSkipped b) = s.rd (K.kbarLinesSkipped b) := by
    rw [(State.kilnMark_eff ..).rd_inst hb, State.flag, (State.arrive_eff ..).rd_inst hb, State.rd_wr_inst _ _ (by decide)]
  rw [(s.overspeed_after_noted b x).rd_inst hb, State.skipNoted, State.rd_wr_inst _ _ (by decide), State.rd_wr_inst _ _ (by decide),
    State.rd_inc_self, hflag]

theorem State.overspeed_limit : (s.overspeed b x).rd (K.kbarInSpeedLimit b) = 1 := by
  rw [(s.overspeed_after_noted b x).rd_inst hb, State.skipNoted, State.rd_wr_self]

theorem State.overspeed_position : (s.overspeed b x).rd (K.kbarLastSkip b) = ofI 64 (wholePos x.t) := by
  rw [(s.overspeed_after_noted b x).rd_inst hb, State.skipNoted, State.rd_wr_inst _ _ (by decide), State.rd_wr_self]

end

/-! ### The bar goes on to the next line (R257, R273, R274) -/

/-- A missed deadline changes the bar's list of missed lines alone of its record. -/
theorem State.deadline_bar (s : State) (b k : Nat) : ∃ l, (s.deadline b k).bar b = { s.bar b with missed := l } := by
  unfold State.deadline
  split
  · exact ⟨_, rfl⟩
  split
  · extract_lets done slack
    split <;> exact ⟨_, rfl⟩
  · refine ⟨(s.bar b).missed ++ [k], ?_⟩
    unfold State.underrun
    extract_lets r x y
    have hy : Eff sideParts (sideAnd [.fam (K.barsUnderruns 0) 16, .one K.slipStatus]) x y :=
      (State.raise_eff ..).after (Eff.flag (Eff.refl.inc rfl (KeySet.any_fam _ rfl)) rfl rfl) rfl
    rw [(State.dropMissed_eff ..).bar, (State.witness_eff ..).bar, hy.bar rfl]
    exact State.bar_setBar_self ..

/-- After a trigger for line `k`, fired or not: the ports give the line up, the bar stands at the next, whose deadline this is. -/
def State.barTurned (s : State) (b k : Nat) : State :=
  let y := (s.barPorts b).foldl (State.portTurn k) s
  (y.setBar b { y.bar b with next := k + 1, missed := (y.bar b).missed.filter fun j => Nat.blt k j }).deadline b (k + 1)

section
variable (s : State) (b k : Nat)

theorem State.portTurns_eff (l : List Nat) : Eff [.kiln] [] s (l.foldl (State.portTurn k) s) :=
  Eff.foldl (fun _ _ h => (State.portTurn_eff ..).after h rfl) Eff.refl

theorem State.barTurned_bar : ∃ l, (s.barTurned b k).bar b = { s.bar b with next := k + 1, missed := l } := by
  unfold State.barTurned
  extract_lets y
  obtain ⟨l, hl⟩ := (y.setBar b { y.bar b with next := k + 1, missed := (y.bar b).missed.filter fun j => Nat.blt k j }).deadline_bar
    b (k + 1)
  have hy : y.bar b = s.bar b := (s.portTurns_eff k _).bar rfl b
  exact ⟨l, by rw [hl, State.bar_setBar_self, hy]⟩

theorem State.barTurned_eff : Eff (withSide [.slip, .kiln]) (sideAnd [.fam (K.barsUnderruns 0) 16, .fam (K.barsWorstSlack 0) 16,
    .one K.slipStatus]) s (s.barTurned b k) :=
  (State.deadline_eff ..).after ((State.setBar_eff ..).after ((s.portTurns_eff k _).after Eff.refl rfl) rfl) rfl

end

/-! ### A trigger's line (R273, R280) -/

/-- The bar's state once its trigger's line is fired; lines before it that were not are discarded. -/
def State.lineFired (s : State) (b : Nat) (x : Trig) : State :=
  ((s.delivered b).fireLine b).add 32 (K.kbarLinesDiscarded b) (x.k.toNat - (s.bar b).next)

/-- The bar's state once its trigger's line is discarded with those before it. -/
def State.lineDiscarded (s : State) (b : Nat) (x : Trig) : State :=
  (s.delivered b).add 32 (K.kbarLinesDiscarded b) (x.k.toNat - (s.bar b).next + 1)

section
variable {s : State} {b : Nat} {x : Trig} (hb : b < 16)
include hb

/-- With every condition of R273 met the line fires. -/
theorem State.rasterLine_fires (hd : s.dev = stRunning) (hw : s.withinStop (s.barLine b x.k.toNat) = true)
    (hs : s.lineShifted b x.k.toNat = true) (hm : (s.bar b).missed.contains x.k.toNat = false) (hp : s.lineSpaced b = true) :
    s.rasterLine b x = (s.lineFired b x).barTurned b x.k.toNat := by
  unfold State.rasterLine
  rw [← State.delivered]
  simp only [s.delivered_lineSpaced hb, s.delivered_withinStop b, s.delivered_barLine hb, s.delivered_lineShifted hb, s.delivered_bar,
    s.delivered_dev, hd, hw, hs, hm, hp, BEq.rfl, Bool.true_or, Bool.and_self, Bool.not_false, if_true]
  rfl

/-- A line that the heads do not hold, of a trigger that comes in time, is discarded. -/
theorem State.rasterLine_discards (hs : s.lineShifted b x.k.toNat = false) (hp : s.lineSpaced b = true) :
    s.rasterLine b x = (s.lineDiscarded b x).barTurned b x.k.toNat := by
  unfold State.rasterLine
  rw [← State.delivered]
  simp only [s.delivered_lineSpaced hb, s.delivered_lineShifted hb, s.delivered_bar, hs, hp, Bool.and_false, Bool.false_and,
    Bool.false_eq_true, if_false, if_true]
  rfl

/-- A line whose trigger comes too soon is discarded, and its skip noted. -/
theorem State.rasterLine_skips (hp : s.lineSpaced b = false) :
    s.rasterLine b x = ((s.lineDiscarded b x).overspeed b x).barTurned b x.k.toNat := by
  unfold State.rasterLine
  rw [← State.delivered]
  simp only [s.delivered_lineSpaced hb, s.delivered_bar, hp, Bool.and_false, Bool.false_eq_true, if_false]
  rfl

end

/-! ### What a trigger leaves in its bar -/

section
variable (s : State) (b : Nat) (x : Trig)

theorem State.lineFired_bar :
    (s.lineFired b x).bar b = { s.bar b with delivered := some s.now, fired := some s.now } := by
  refine ((s.delivered b).fireLine_bar b).trans ?_
  rw [s.delivered_bar, (s.delivered_eff b).part .clock rfl]

theorem State.lineDiscarded_bar : (s.lineDiscarded b x).bar b = { s.bar b with delivered := some s.now } := s.delivered_bar b

variable {b} (hb : b < 16)
include hb

theorem State.lineFired_counts :
    (s.lineFired b x).rd (K.kbarLinesFired b) = (s.rd (K.kbarLinesFired b) + 1) % 2 ^ 64 ∧
    (s.lineFired b x).rd (K.kbarLinesDiscarded b) = (s.rd (K.kbarLinesDiscarded b) + (x.k.toNat - (s.bar b).next)) % 2 ^ 32 := by
  constructor
  · rw [State.lineFired, State.add, State.rd_wr_inst _ _ (by decide), State.fireLine_count _ _ hb, (s.delivered_eff b).rd_inst hb]
  · rw [State.lineFired, State.rd_add_self, (State.fireLine_eff ..).rd_inst hb, (s.delivered_eff b).rd_inst hb]

theorem State.lineDiscarded_counts :
    (s.lineDiscarded b x).rd (K.kbarLinesFired b) = s.rd (K.kbarLinesFired b) ∧
    (s.lineDiscarded b x).rd (K.kbarLinesDiscarded b) = (s.rd (K.kbarLinesDiscarded b) + (x.k.toNat - (s.bar b).next + 1)) % 2 ^ 32 := by
  constructor
  · rw [State.lineDiscarded, State.add, State.rd_wr_inst _ _ (by decide), (s.delivered_eff b).rd_inst hb]
  · rw [State.lineDiscarded, State.rd_add_self, (s.delivered_eff b).rd_inst hb]

theorem State.lineDiscarded_skips : (s.lineDiscarded b x).rd (K.kbarLinesSkipped b) = s.rd (K.kbarLinesSkipped b) := by
  rw [State.lineDiscarded, State.add, State.rd_wr_inst _ _ (by decide), (s.delivered_eff b).rd_inst hb]

end

/-! ### The trigger that is delivered (R273) -/

section
variable {s u v : State} {b : Nat} {x : Trig} (ht : s.takeTrig (12 + b) = some (x, u)) (hv : v = u.at (x.stamp + 2))
include ht hv

/-- Taking the bar's oldest trigger changes the triggers that wait and the clock alone. -/
theorem rasterTrigger_taken : Eff [.clock, .wheel] [] s v := by
  rw [hv]
  exact (State.at_eff ..).after ((State.takeTrig_eff ht).after Eff.refl rfl) rfl

theorem rasterTrigger_delivers : rasterTrigger b s = v.rasterLine b x := by
  simp only [rasterTrigger, ht, hv]

/-- The command takes place two FABCLK after the trigger was raised, and takes that trigger alone. -/
theorem rasterTrigger_now_trigs : (rasterTrigger b s).now = max s.now (x.stamp + 2) ∧ (rasterTrigger b s).trigs = u.trigs := by
  have hline := v.rasterLine_eff b x
  have hnow : u.now = s.now := (State.takeTrig_eff ht).part .clock rfl
  rw [rasterTrigger_delivers ht hv]
  refine ⟨(hline.part .clock rfl).trans ?_, (hline.trigs rfl).trans ?_⟩
  · rw [hv, State.at_now, hnow]
  · rw [hv, State.at_trigs]

variable {y : State} (hy : v.rasterLine b x = y.barTurned b x.k.toNat)
include hy

/-- Whatever becomes of the line, the bar's turn to the next leaves its counts as they are. -/
theorem rasterTrigger_after : Eff (withSide [.slip, .kiln]) (sideAnd [.fam (K.barsUnderruns 0) 16, .fam (K.barsWorstSlack 0) 16,
    .one K.slipStatus]) y (rasterTrigger b s) := by
  rw [rasterTrigger_delivers ht hv, hy]
  exact y.barTurned_eff b x.k.toNat

theorem rasterTrigger_bar : ∃ l, (rasterTrigger b s).bar b = { y.bar b with next := x.k.toNat + 1, missed := l } := by
  rw [rasterTrigger_delivers ht hv, hy]
  exact y.barTurned_bar b x.k.toNat

end

/-! ### A line is shifted to a port's heads (R272, R274) -/

section
variable {s : State} {p : Nat}

/-- The state in which a port's free heads take a complete line, whose last bit leaves a frame's time later. -/
def State.shifting (s : State) (p : Nat) (l : BankLine) : State :=
  let y := s.at (s.port p).shiftFrom
  y.setPort p { s.port p with
    shift := some ((s.bar (s.portBar p)).next, y.now + y.frameTime (y.prof p)), shiftData := l.data,
    lanes := if y.portState p = kpActive then y.portFrames p l.data else (s.port p).lanes }

theorem shiftStart_starts {l : BankLine} (hb : s.portBar p < 16) (hs : (s.port p).shift = none) (hl : (s.port p).loaded = none)
    (hf : (s.port p).banks.find? (fun l => l.k == (s.bar (s.portBar p)).next && l.done.isSome) = some l)
    (hh : (s.barPorts (s.portBar p)).all (s.lineHeld (s.bar (s.portBar p)).next) = true) (hd : s.dev = stRunning) :
    shiftStart p s = s.shifting p l := by
  simp only [shiftStart, hf]
  exact if_neg (by simp [Nat.not_le.mpr hb, hs, hl, hh, hd])

/-- The state in which a port's heads hold the line shifted, whose banks are free. -/
def State.shifted (s : State) (p k t : Nat) : State :=
  (s.at t).setPort p { s.port p with shift := none, loaded := some (k, t), loadedData := (s.port p).shiftData,
                                     banks := (s.port p).banks.filter fun l => l.k != k }

/-- The end of a shift counts the line of an ACTIVE port. -/
theorem shiftDone_ends {k t : Nat} (hs : (s.port p).shift = some (k, t)) : shiftDone p s =
    if s.portState p = kpActive then (s.shifted p k t).inc 64 (K.kpLinesShifted p) else s.shifted p k t := by
  simp only [shiftDone, hs]
  rfl

theorem shiftDone_after {k t : Nat} (hs : (s.port p).shift = some (k, t)) :
    Eff [.regs] [.one (K.kpLinesShifted p)] (s.shifted p k t) (shiftDone p s) := by
  rw [shiftDone_ends hs]
  exact Eff.ite (Eff.refl.inc rfl (by simp [KeySet.has])) Eff.refl

theorem shiftDone_eff_own {k t : Nat} (hs : (s.port p).shift = some (k, t)) :
    Eff [.clock, .regs, .kiln] [.one (K.kpLinesShifted p)] s (shiftDone p s) := by
  have hshifted : Eff [.clock, .regs, .kiln] [] s (s.shifted p k t) :=
    (State.setPort_eff ..).after ((State.at_eff ..).after Eff.refl rfl) rfl
  exact (shiftDone_after hs).after (hshifted.after Eff.refl (fits_of_subset (List.Subset.refl _) (List.nil_subset _)))
    (fits_of_subset (by decide) (List.Subset.refl _))

end

/-- Settles O34: a trigger that is delivered comes to one of three outcomes, each followed by the bar's turn to the next line; the lemmas
above say what the outcome leaves in the bar's record and counts, and that the turn leaves it there. The conditions of R273 are those of
the state at the trigger, for noting the interval (R281) writes nothing that they read. -/
theorem rasterAndShiftCommands : Obligations.RasterAndShiftCommands := by
  unfold Obligations.RasterAndShiftCommands
  refine ⟨fun b x u v s hb ht hv hd hw hs hm hp => ?fires, fun b x u v s hb ht hv hs hp => ?discards,
    fun b x u v s hb ht hv hp => ?skips, fun p l s hp hb hs hl hf hh hd => ?start, fun p k u s hp hs => ?done⟩
  case fires =>
    have htaken := rasterTrigger_taken ht hv
    have hline := State.rasterLine_fires hb hd hw hs hm hp
    have hturn := rasterTrigger_after ht hv hline
    obtain ⟨l, hbar⟩ := rasterTrigger_bar ht hv hline
    obtain ⟨hfired, hdiscarded⟩ := v.lineFired_counts x hb
    obtain ⟨hnow, htrigs⟩ := rasterTrigger_now_trigs ht hv
    rw [v.lineFired_bar] at hbar
    refine ⟨rasterTrigger b s, inst_true (Nat.blt_eq.mpr hb), ?_, ?_, ?_, ?_, ?_, hnow, htrigs, (rasterTrigger_eff b s).frame⟩
    · rw [hturn.rd_inst hb, hfired, htaken.rd _ rfl]
    · rw [hturn.rd_inst hb, hdiscarded, htaken.rd _ rfl, htaken.bar]
    all_goals rw [hbar]
  case discards =>
    have htaken := rasterTrigger_taken ht hv
    have hline := State.rasterLine_discards hb hs hp
    have hturn := rasterTrigger_after ht hv hline
    obtain ⟨l, hbar⟩ := rasterTrigger_bar ht hv hline
    obtain ⟨hfired, hdiscarded⟩ := v.lineDiscarded_counts x hb
    obtain ⟨hnow, htrigs⟩ := rasterTrigger_now_trigs ht hv
    rw [v.lineDiscarded_bar, htaken.bar] at hbar
    refine ⟨rasterTrigger b s, inst_true (Nat.blt_eq.mpr hb), ?_, ?_, ?_, ?_, ?_, hnow, htrigs, (rasterTrigger_eff b s).frame⟩
    · rw [hturn.rd_inst hb, hfired, htaken.rd _ rfl]
    · rw [hturn.rd_inst hb, hdiscarded, htaken.rd _ rfl, htaken.bar]
    all_goals rw [hbar]
  case skips =>
    have htaken := rasterTrigger_taken ht hv
    have hline := State.rasterLine_skips (x := x) hb hp
    have hturn := rasterTrigger_after ht hv hline
    obtain ⟨l, hbar⟩ := rasterTrigger_bar ht hv hline
    obtain ⟨hfired, -⟩ := v.lineDiscarded_counts x hb
    obtain ⟨hnow, htrigs⟩ := rasterTrigger_now_trigs ht hv
    rw [(State.overspeed_eff ..).bar, v.lineDiscarded_bar] at hbar
    refine ⟨rasterTrigger b s, inst_true (Nat.blt_eq.mpr hb), ?_, ?_, ?_, ?_, ?_, ?_, hnow, htrigs, (rasterTrigger_eff b s).frame⟩
    · rw [hturn.rd_inst hb, (State.overspeed_eff ..).rd_inst hb, hfired, htaken.rd _ rfl]
    · rw [hturn.rd_inst hb, State.overspeed_count _ _ hb, v.lineDiscarded_skips x hb, htaken.rd _ rfl]
    · rw [hturn.rd_inst hb, State.overspeed_limit _ _ hb]
    · rw [hturn.rd_inst hb, State.overspeed_position _ _ hb]
    all_goals rw [hbar]
  case start =>
    have hframe := (shiftStart_eff p s).frame
    refine ⟨shiftStart p s, inst_true (Nat.blt_eq.mpr hp), ?_⟩
    rw [shiftStart_starts hb hs hl hf hh hd] at hframe ⊢
    have hport : (s.shifting p l).port p = _ := State.port_setPort_self ..
    refine ⟨rfl, ?_, ?_, fun ha => ?_, fun q hq => ?_, rfl, rfl, hframe⟩
    · rw [hport]
      rfl
    · rw [hport]
    · rw [hport]
      exact if_pos ha
    · exact (State.port_setPort ..).trans (if_neg hq)
  case done =>
    have hafter := shiftDone_after hs
    have hport : (shiftDone p s).port p = _ := (hafter.port rfl p).trans (State.port_setPort_self ..)
    obtain ⟨-, hheads, hscan⟩ := hafter.part .kiln rfl
    refine ⟨shiftDone p s, inst_true (Nat.blt_eq.mpr hp), hafter.part .clock rfl, ?_, ?_, ?_, ?_, fun ha => ?_, fun q hq => ?_,
      hheads, hscan, (shiftDone_eff_own hs).frame⟩
    · rw [hport]
    · rw [hport]
    · rw [hport]
    · rw [hport]
    · rw [shiftDone_ends hs, if_pos ha, State.rd_inc_self]
      rfl
    · exact (hafter.port rfl q).trans ((State.port_setPort ..).trans (if_neg hq))

end Sys2Proof.Machine

/-! SUPPORT. A conversion of a Gauge channel (O38): what a word, a calibration and a fade leave in the channel's record and entries,
which value each conversion comes to, and what a transient fault of a channel leaves. -/

namespace Sys2Proof.Machine

-- The proofs of this part are checked one after another, in one thread.
set_option Elab.async false

/-! ### The channels' records and the device's time through a frame -/

section
variable {ps : List Part} {ks : List KeySet} {s t : State} (h : Eff ps ks s t)
include h

theorem Eff.ga (c : Nat) (hp : ps.contains .gauge = false := by rfl) : t.ga c = s.ga c := by
  obtain ⟨hgas, -⟩ := h.part .gauge hp
  exact congrArg (fun l => tget ({} : Ga) l c) hgas

theorem Eff.time (hclock : ps.contains .clock = false := by rfl) (htime : ps.contains .time = false := by rfl)
    (hrate : ks.any (·.has K.timeRateAdj) = false := by rfl) : t.time = s.time := by
  obtain ⟨hbase, hc0, -⟩ := h.part .time htime
  have hnow : t.now = s.now := h.part .clock hclock
  simp only [State.time, State.timeT, State.rate, State.rdI, h.rd _ hrate, hbase, hc0, hnow]

end

/-! ### A word is delivered (R309, R310) -/

/-- A word stands in Latest and is counted. -/
def State.gaLatched (s : State) (c w : Nat) : State := (s.wr (K.gasLatest c) w).inc 64 (K.gasSamples c)

/-- The entries that what follows from a word may change: its queue's, the Kiln's, and the channel's LOST and Status. -/
def gaWordKeys : List KeySet :=
  sideAnd [.fam (K.gasLost 0) 16, .fam (K.gasStatus 0) 16, .fam (K.khHeadState 0) 128, .fam (K.khHeadStatus 0) 128,
    .fam (K.kpFaultCount 0) 32, .fam (K.kpLastFaultTime 0) 32, .fam (K.kpPortState 0) 32, .fam (K.kpPortStatus 0) 32,
    .fam (K.qsFill 0) 64, .fam (K.qsFillPeak 0) 64, .fam (K.qsItemsIn 0) 64, .fam (K.qsNoCreditCount 0) 64,
    .fam (K.qsQueueStatus 0) 64, .one K.fltFaultStatus, .one K.fltLastRetiredUnit, .one K.fltRetiredCount,
    .one K.fltTransientCount, .one K.kilnActiveHeads, .one K.kilnKilnStatus, .one K.quesSizeErrors]

theorem State.gaDeliver_after_latched (s : State) (c input : Nat) (settle over_ : Bool) (code : Int) :
    Eff (withSide [.pins, .memory, .kiln, .loop]) gaWordKeys (s.gaLatched c (gaWord settle over_ input c (ofI 24 code)))
      (s.gaDeliver c input settle over_ code) := by
  unfold State.gaDeliver
  extract_lets w x y q z
  have hy : Eff (withSide [.pins, .memory, .kiln, .loop]) gaWordKeys x y :=
    Eff.ite (Eff.flag Eff.refl rfl (KeySet.any_fam _ rfl)) Eff.refl
  have hz : Eff (withSide [.pins, .memory, .kiln, .loop]) gaWordKeys x z := by
    refine Eff.ite hy ?_
    have hoffer := fun l => (y.offerTo_eff q l).after hy rfl
    split
    · next h => exact Eff.to (congrArg Prod.snd h).symm (hoffer _)
    · next h =>
        exact ((Eff.to (congrArg Prod.snd h).symm (hoffer _)).inc rfl (KeySet.any_fam _ rfl)).flag rfl (KeySet.any_fam _ rfl)
  exact (State.gaUse_eff ..).after hz rfl

section
variable (s : State) {c : Nat} (input : Nat) (settle over_ : Bool) (code : Int) (hc : c < 16)
include hc

theorem State.gaDeliver_latest :
    (s.gaDeliver c input settle over_ code).rd (K.gasLatest c) = gaWord settle over_ input c (ofI 24 code) := by
  rw [(s.gaDeliver_after_latched ..).rd_inst hc, State.gaLatched, State.rd_inc_ne _ _ (instKey_ne _ _), State.rd_wr_self]

theorem State.gaDeliver_samples :
    (s.gaDeliver c input settle over_ code).rd (K.gasSamples c) = (s.rd (K.gasSamples c) + 1) % 2 ^ 64 := by
  rw [(s.gaDeliver_after_latched ..).rd_inst hc, State.gaLatched, State.rd_inc_self, State.rd_wr_inst _ _ (by decide)]

end

/-! ### What becomes of a value (R309, R316, R321) -/

/-- One of the words after a reset is made. -/
def State.gaSettled (s : State) (c : Nat) : State := s.wr (K.gasSettleLeft c) (s.rd (K.gasSettleLeft c) - 1)

section
variable {s : State} {c : Nat} (input : Nat) (y : Int) (sat : Bool)

theorem State.gaValue_calibrates {k : GaCal} (hk : (s.ga c).cal = some k) (hl : k.left ≠ 0) :
    s.gaValue c input y sat = (s.gaSettled c).setGa c { s.ga c with cal := some { k with left := k.left - 1 } } := by
  simp only [State.gaValue, hk, State.gaCalWord, hl, ne_eq, not_false_eq_true, if_true]
  rfl

variable (hk : (s.ga c).cal = none)
include hk

/-- A word that carries SETTLE has the next free value for its code (logs 55 and 7). -/
theorem State.gaValue_settles (hl : s.rd (K.gasSettleLeft c) ≠ 0) :
    s.gaValue c input y sat = (s.gaSettled c).fresh.2.gaDeliver c input true false (toI 24 (s.gaSettled c).fresh.1) := by
  simp only [State.gaValue, hk, hl, ne_eq, not_false_eq_true, if_true]
  rfl

theorem State.gaValue_delivers (hl : s.rd (K.gasSettleLeft c) = 0) :
    s.gaValue c input y sat = s.gaDeliver c input false (sat || (s.gaCode c y).2) (s.gaCode c y).1 := by
  simp only [State.gaValue, hk, hl, ne_eq, not_true_eq_false, if_false]

theorem State.gaValue_settle_latest (hc : c < 16) (hl : s.rd (K.gasSettleLeft c) ≠ 0) :
    ∃ v, (s.gaValue c input y sat).rd (K.gasLatest c) = gaWord true false input c (ofI 24 v) := by
  rw [State.gaValue_settles input y sat hk hl]
  exact ⟨_, State.gaDeliver_latest _ _ _ _ _ hc⟩

theorem State.gaValue_settle_left (hc : c < 16) (hl : s.rd (K.gasSettleLeft c) ≠ 0) :
    (s.gaValue c input y sat).rd (K.gasSettleLeft c) = s.rd (K.gasSettleLeft c) - 1 := by
  rw [State.gaValue_settles input y sat hk hl, (State.gaDeliver_eff ..).rd_inst hc, (State.fresh_eff _).rd_inst hc, State.gaSettled,
    State.rd_wr_self]

/-- Outside a calibration a value is one word, whether it carries SETTLE or the value's own code. -/
theorem State.gaValue_word : ∃ (u : State) (settle over_ : Bool) (code : Int),
    Eff [.free, .regs] [.fam (K.gasSettleLeft 0) 16] s u ∧
      s.gaValue c input y sat = u.gaDeliver c input settle over_ code := by
  by_cases hl : s.rd (K.gasSettleLeft c) = 0
  · exact ⟨s, _, _, _, Eff.refl, State.gaValue_delivers input y sat hk hl⟩
  · exact ⟨_, _, _, _, (State.fresh_eff _).after (Eff.refl.wr rfl (KeySet.any_fam _ rfl)) rfl,
      State.gaValue_settles input y sat hk hl⟩

/-- A word touches neither the channels' records nor the clock nor the fades' entries. -/
theorem State.gaValue_word_eff : Eff (withSide [.free, .pins, .memory, .kiln, .loop])
    ([.fam (K.gasLatest 0) 16, .fam (K.gasSamples 0) 16, .fam (K.gasSettleLeft 0) 16] ++ gaWordKeys) s (s.gaValue c input y sat) := by
  obtain ⟨u, settle, over_, code, hu, hvalue⟩ := State.gaValue_word input y sat hk
  rw [hvalue]
  exact (State.gaDeliver_eff ..).after (hu.after Eff.refl rfl) rfl

theorem State.gaValue_samples (hc : c < 16) :
    (s.gaValue c input y sat).rd (K.gasSamples c) = (s.rd (K.gasSamples c) + 1) % 2 ^ 64 := by
  obtain ⟨u, settle, over_, code, hu, hvalue⟩ := State.gaValue_word input y sat hk
  rw [hvalue, State.gaDeliver_samples _ _ _ _ _ hc, hu.rd_inst hc]

end

/-! ### The modulator bits of an output (R305 to R307, R312) -/

/-- The clocks of an output move the channel's moments and its last level alone. -/
theorem State.gaClocks_ga (s : State) (c n : Nat) (bits : List Bool) : ∃ o e l,
    (s.gaClocks c n bits).ga c = { s.ga c with outAt := o, edgeAt := e, level := l } :=
  ⟨_, _, _, State.ga_setGa_self ..⟩

section
variable (s : State) (c : Nat) (bits : List Bool)

/-- The run of a channel's CIC over modulator bits. -/
def State.cicOf : List Nat × List Nat × List Int :=
  cicRun (s.rd (K.gaCicDecimation c)) (s.rd (K.gaCicDecimation c)) bits (s.ga c).ints (s.ga c).combs

/-- The run's outputs, normalised, each with whether it was saturated (R306). -/
def State.cicNorms : List (Int × Bool) := (s.cicOf c bits).2.2.map (cicNorm (s.rd (K.gaCicDecimation c)))

/-- The outputs that the FIR holds after the run, latest first (R307). -/
def State.cicFir : List Int := (((s.cicNorms c bits).map fun p => p.1).reverse ++ (s.ga c).fir).take 128

/-- The state once a CONTINUOUS channel has counted the bits of an output and its CIC has run. -/
def State.cicTaken : State :=
  let u := s.gaClocks c bits.length bits
  u.setGa c { u.ga c with ints := (s.cicOf c bits).1, combs := (s.cicOf c bits).2.1, fir := s.cicFir c bits }

/-- The state once a single-cycle channel has counted the bits of a conversion of `input`. -/
def State.inputTaken (input : Nat) : State :=
  let u := s.gaClocks c ((s.gaScc c).2 + 4 * (s.gaScc c).1) bits
  u.setGa c { u.ga c with input := input }

theorem State.cicTaken_record : ((s.cicTaken c bits).ga c).ints = (s.cicOf c bits).1 ∧
    ((s.cicTaken c bits).ga c).combs = (s.cicOf c bits).2.1 ∧ ((s.cicTaken c bits).ga c).fade = (s.ga c).fade ∧
    ((s.cicTaken c bits).ga c).cal = (s.ga c).cal := by
  obtain ⟨o, e, l, hga⟩ := s.gaClocks_ga c bits.length bits
  rw [State.cicTaken, State.ga_setGa_self, hga]
  exact ⟨rfl, rfl, rfl, rfl⟩

theorem State.cicTaken_ga_ne {d : Nat} (hd : d ≠ c) : (s.cicTaken c bits).ga d = s.ga d := by
  rw [State.cicTaken, State.ga_setGa, if_neg hd, State.gaClocks, State.ga_setGa, if_neg hd]
  rfl

theorem State.cicTaken_eff : Eff [.clock, .gauge] [] s (s.cicTaken c bits) :=
  (State.setGa_eff ..).after ((State.gaClocks_eff ..).after Eff.refl rfl) rfl

theorem State.inputTaken_record (input : Nat) : ((s.inputTaken c bits input).ga c).input = input ∧
    ((s.inputTaken c bits input).ga c).cal = (s.ga c).cal := by
  obtain ⟨o, e, l, hga⟩ := s.gaClocks_ga c ((s.gaScc c).2 + 4 * (s.gaScc c).1) bits
  rw [State.inputTaken, State.ga_setGa_self, hga]
  exact ⟨rfl, rfl⟩

theorem State.inputTaken_now (input : Nat) : (s.inputTaken c bits input).now =
    max s.now ((s.ga c).outAt + 32 * ((s.gaScc c).2 + 4 * (s.gaScc c).1)) := rfl

theorem State.inputTaken_eff (input : Nat) : Eff [.clock, .gauge] [] s (s.inputTaken c bits input) :=
  (State.setGa_eff ..).after ((State.gaClocks_eff ..).after Eff.refl rfl) rfl

end

/-- What a CONTINUOUS channel makes of an output: the FIR's, with the step of a fade that runs, or the CIC's own (R307, R318). -/
def State.gaProduce (v : State) (c : Nat) (fir : List Int) (sat : Bool) : State :=
  if v.on (K.gaFirEnable c) then
    let z := (if v.rd (K.gasSettleLeft c) = 0 ∧ (v.ga c).fade.isNone then v.fadeHeld c else v).fadeStep c fir
    z.2.gaValue c 0 z.1.1 (sat || z.1.2)
  else v.gaValue c 0 (nthI fir 0) sat

section
variable {s : State} {c : Nat} {bits : List Bool}

theorem State.gaContinuous_taken (hb : bits.length = s.rd (K.gaCicDecimation c) * s.gaF c) :
    s.gaContinuous c bits = (s.cicTaken c bits).gaProduce c (s.cicFir c bits) ((s.cicNorms c bits).any fun p => p.2) := by
  obtain ⟨o, e, l, hga⟩ := s.gaClocks_ga c bits.length bits
  unfold State.gaContinuous
  rw [if_neg (not_not_intro hb), ← hb]
  extract_lets u x run norm fir v sat w
  have hx : x = { s.ga c with outAt := o, edgeAt := e, level := l } := hga
  have hrun : run = s.cicOf c bits := by unfold run; rw [hx]; rfl
  have hnorm : norm = s.cicNorms c bits := by unfold norm; rw [hrun]; rfl
  have hfir : fir = s.cicFir c bits := by unfold fir; rw [hnorm, hx]; rfl
  have hv : v = s.cicTaken c bits := by unfold v; rw [hrun, hfir]; rfl
  have hfade : x.fade = ((s.cicTaken c bits).ga c).fade := by rw [← hv, State.ga_setGa_self]
  have hw : w = if (s.cicTaken c bits).rd (K.gasSettleLeft c) = 0 ∧ ((s.cicTaken c bits).ga c).fade.isNone
      then (s.cicTaken c bits).fadeHeld c else s.cicTaken c bits := by unfold w; rw [hv, hfade]
  rw [hv, hw, hfir, State.gaProduce, ← hnorm]

/-- An output with the FIR off is the CIC's latest (R307). -/
theorem State.gaContinuous_direct {i d : List Nat} {y : Int} (hf : s.on (K.gaFirEnable c) = false)
    (hb : bits.length = s.rd (K.gaCicDecimation c)) (hrun : s.cicOf c bits = (i, d, [y])) :
    s.gaContinuous c bits = (s.cicTaken c bits).gaValue c 0 (cicNorm (s.rd (K.gaCicDecimation c)) y).1
      (cicNorm (s.rd (K.gaCicDecimation c)) y).2 := by
  have hoff : ¬ (s.cicTaken c bits).on (K.gaFirEnable c) = true := ne_true_of_eq_false hf
  have hnorms : s.cicNorms c bits = [cicNorm (s.rd (K.gaCicDecimation c)) y] := by rw [State.cicNorms, hrun]; rfl
  rw [State.gaContinuous_taken (by rw [hb, State.gaF, if_neg (ne_true_of_eq_false hf), Nat.mul_one]), State.gaProduce, if_neg hoff,
    State.cicFir, hnorms, List.any_cons, List.any_nil, Bool.or_false]
  rfl

variable {target i : Nat}

/-- The last step of a fade makes its target active, and with no request held no other fade begins (R318, R319). -/
theorem State.fadeStep_last (x : List Int) (hc : c < 16) (hx : (s.ga c).fade = some (target, i))
    (hi : i + 1 = 2 ^ s.rd (K.gaFadeShift c)) (hh : s.gaHold c = none) : (s.fadeStep c x).2 = s.fadeEnd c target := by
  have hhold : (s.fadeEnd c target).gaHold c = none := by
    rw [State.gaHold, (State.fadeEnd_eff ..).rd_inst hc]
    exact hh
  simp only [State.fadeStep, hx, hi, if_true, State.fadeHeld, hhold]

/-- The value of an output that ends a fade is made with the target active. -/
theorem State.gaContinuous_fades (hc : c < 16) (hf : s.on (K.gaFirEnable c) = true)
    (hb : bits.length = s.rd (K.gaCicDecimation c) * s.rd (K.gaFirDecimation c)) (hx : (s.ga c).fade = some (target, i))
    (hi : i + 1 = 2 ^ s.rd (K.gaFadeShift c)) (hh : s.gaHold c = none) :
    ∃ y sat, s.gaContinuous c bits = ((s.cicTaken c bits).fadeEnd c target).gaValue c 0 y sat := by
  obtain ⟨-, -, hkept, -⟩ := s.cicTaken_record c bits
  have hfade : ((s.cicTaken c bits).ga c).fade = some (target, i) := hkept.trans hx
  have hon : (s.cicTaken c bits).on (K.gaFirEnable c) = true := hf
  have hruns : ¬ ((s.cicTaken c bits).rd (K.gasSettleLeft c) = 0 ∧ ((s.cicTaken c bits).ga c).fade.isNone) := by
    simp [hfade]
  rw [State.gaContinuous_taken (by rw [hb, State.gaF, if_pos hf]), State.gaProduce, if_pos hon, if_neg hruns]
  extract_lets z
  exact ⟨_, _, congrArg (State.gaValue · c 0 _ _) (State.fadeStep_last _ hc hfade hi hh)⟩

end

section
variable (s : State) (c target : Nat)

theorem State.fadeEnd_ga : (s.fadeEnd c target).ga c = { s.ga c with fade := none } :=
  ((State.fadeDone_eff ..).ga c).trans (State.ga_setGa_self ..)

variable {c} (hc : c < 16)
include hc

theorem State.fadeEnd_activeBank : (s.fadeEnd c target).rd (K.gasActiveBank c) = target := by
  rw [State.fadeEnd, (State.fadeDone_eff ..).rd_inst hc, State.rd_wr_inst _ _ (by decide), State.rd_wr_self]

theorem State.fadeEnd_fadeState : (s.fadeEnd c target).rd (K.gasFadeState c) = 0 := by
  rw [State.fadeEnd, (State.fadeDone_eff ..).rd_inst hc, State.rd_wr_self]

end

/-- A conversion of an input is made of its 4 R bits (R312). -/
theorem State.gaConvert_taken {s : State} {c : Nat} {bits : List Bool} (input : Nat) (hb : bits.length = 4 * (s.gaScc c).1) :
    ∃ shown y sat, s.gaConvert c input bits = (s.inputTaken c bits input).gaValue c shown y sat := by
  unfold State.gaConvert
  exact ⟨_, _, _, if_neg (not_not_intro hb)⟩

/-! ### GAUGE_OUTPUT -/

section
variable {s : State} {c : Nat} (bits : List Bool) (hr : s.gaRetired c = false)
include hr

theorem gaugeOutput_continuous (h : s.gaSingle c = false) : gaugeOutput c bits s = s.gaContinuous c bits := by
  rw [gaugeOutput, if_neg (ne_true_of_eq_false hr), if_neg (ne_true_of_eq_false h)]

theorem gaugeOutput_single {i : Nat} (h : s.gaSingle c = true) (hi : s.gaNext c = some i) :
    gaugeOutput c bits s = s.gaConvert c i bits := by
  rw [gaugeOutput, if_neg (ne_true_of_eq_false hr), if_pos h]
  simp only [hi]

end

section
variable {s : State} {c : Nat} {bits : List Bool} {i d : List Nat} {y : Int} (hr : s.gaRetired c = false)
  (h1 : s.gaSingle c = false) (hf : s.on (K.gaFirEnable c) = false) (hb : bits.length = s.rd (K.gaCicDecimation c))
  (hrun : s.cicOf c bits = (i, d, [y]))
include hr h1 hf hb hrun

/-- An output of a CONTINUOUS channel with the FIR off (R306, R307). -/
theorem gaugeOutput_direct : gaugeOutput c bits s = (s.cicTaken c bits).gaValue c 0
    (cicNorm (s.rd (K.gaCicDecimation c)) y).1 (cicNorm (s.rd (K.gaCicDecimation c)) y).2 :=
  (gaugeOutput_continuous bits hr h1).trans (State.gaContinuous_direct hf hb hrun)

/-- Outside a calibration the output is counted as one word, and the chain holds what the run left. -/
theorem gaugeOutput_direct_word (hc : c < 16) (hk : (s.ga c).cal = none) :
    (gaugeOutput c bits s).rd (K.gasSamples c) = (s.rd (K.gasSamples c) + 1) % 2 ^ 64 ∧
      ((gaugeOutput c bits s).ga c).ints = i ∧ ((gaugeOutput c bits s).ga c).combs = d ∧
      (gaugeOutput c bits s).now = max s.now ((s.ga c).outAt + 32 * bits.length) := by
  obtain ⟨hints, hcombs, -, hkept⟩ := s.cicTaken_record c bits
  have hcal : ((s.cicTaken c bits).ga c).cal = none := hkept.trans hk
  rw [gaugeOutput_direct hr h1 hf hb hrun]
  generalize cicNorm (s.rd (K.gaCicDecimation c)) y = z
  have hword := State.gaValue_word_eff 0 z.1 z.2 hcal
  refine ⟨State.gaValue_samples _ _ _ hcal hc, ?_, ?_, hword.part .clock rfl⟩
  · rw [hword.ga, hints, hrun]
  · rw [hword.ga, hcombs, hrun]

end

/-! ### Transient faults (R501, R504) -/

/-- A transient fault is counted and timed for the channel, and for the device. -/
def State.gaFaulted (s : State) (c bit : Nat) : State :=
  let y := (s.inc 32 (K.gfltFaultCount c)).wr (K.gfltLastFaultTime c) s.time
  y.transient (7 * 256 + c) bit (y.rd (K.gfltRetryWindow c))

/-- A channel that breaks its policy is retired. -/
def State.gaRetire (s : State) (c bit : Nat) : State :=
  ((s.wr (K.gfltGaugeState c) 1).wr (K.gfltGaugeFaults c) (setBits (s.rd (K.gfltGaugeFaults c)) 2)).retire (7 * 256 + c) bit
    (s.rd (K.gfltFaultCount c))

/-- The channel's own entries that a fault may change, and the device's. -/
def gaFaultKeys (c : Nat) : List KeySet :=
  sideAnd [.one (K.gfltFaultCount c), .one (K.gfltGaugeFaults c), .one (K.gfltGaugeState c), .one (K.gfltLastFaultTime c),
    .one K.fltFaultStatus, .one K.fltLastRetiredUnit, .one K.fltRetiredCount, .one K.fltTransientCount]

section
variable (s : State) (c bit : Nat)

theorem State.gaFault_eq_or : s.gaFault c bit = (s.gaFaulted c bit).gaRetire c bit ∨ s.gaFault c bit = s.gaFaulted c bit := by
  unfold State.gaFault
  exact ite_eq_or_eq ..

theorem State.gaFaulted_eff_own : Eff sideParts (gaFaultKeys c) s (s.gaFaulted c bit) := by
  refine (State.transient_eff ..).after (Eff.wr (Eff.inc Eff.refl rfl ?_) rfl ?_) (fits_of_subset (List.Subset.refl _) ?_) <;>
    simp [gaFaultKeys, sideAnd, KeySet.has]

theorem State.gaRetire_eff_own : Eff sideParts (gaFaultKeys c) s (s.gaRetire c bit) := by
  refine (State.retire_eff ..).after (Eff.wr (Eff.wr Eff.refl rfl ?_) rfl ?_) (fits_of_subset (List.Subset.refl _) ?_) <;>
    simp [gaFaultKeys, sideAnd, KeySet.has]

theorem State.gaRetire_eff : Eff sideParts (sideAnd [.fam (K.gfltGaugeFaults 0) 16, .fam (K.gfltGaugeState 0) 16,
    .one K.fltFaultStatus, .one K.fltLastRetiredUnit, .one K.fltRetiredCount]) s (s.gaRetire c bit) :=
  (State.retire_eff ..).after (Eff.wr (Eff.wr Eff.refl rfl (KeySet.any_fam _ rfl)) rfl (KeySet.any_fam _ rfl)) rfl

/-- A retirement that follows a fault moves neither its counts nor its time. -/
theorem State.gaFault_after_faulted : Eff sideParts (sideAnd [.fam (K.gfltGaugeFaults 0) 16, .fam (K.gfltGaugeState 0) 16,
    .one K.fltFaultStatus, .one K.fltLastRetiredUnit, .one K.fltRetiredCount]) (s.gaFaulted c bit) (s.gaFault c bit) := by
  obtain h | h := s.gaFault_eq_or c bit <;> rw [h]
  · exact State.gaRetire_eff ..
  · exact Eff.refl

theorem State.gaFault_eff_own : Eff sideParts (gaFaultKeys c) s (s.gaFault c bit) := by
  obtain h | h := s.gaFault_eq_or c bit <;> rw [h]
  · exact (State.gaRetire_eff_own ..).after (s.gaFaulted_eff_own c bit)
      (fits_of_subset (List.Subset.refl _) (List.Subset.refl _))
  · exact s.gaFaulted_eff_own c bit

theorem State.gaFault_transientCount :
    (s.gaFault c bit).rd K.fltTransientCount = (s.rd K.fltTransientCount + 1) % 2 ^ 32 := by
  rw [(s.gaFault_after_faulted c bit).rd _ rfl, State.gaFaulted, State.transient_count, State.rd_wr_ne _ _ (ne_instKey _ rfl),
    State.rd_inc_ne _ _ (ne_instKey _ rfl)]

variable {c} (hc : c < 16)
include hc

theorem State.gaFault_count : (s.gaFault c bit).rd (K.gfltFaultCount c) = (s.rd (K.gfltFaultCount c) + 1) % 2 ^ 32 := by
  rw [(s.gaFault_after_faulted c bit).rd_inst hc, State.gaFaulted, (State.transient_eff ..).rd_inst hc,
    State.rd_wr_inst _ _ (by decide), State.rd_inc_self]

theorem State.gaFault_lastTime : (s.gaFault c bit).rd (K.gfltLastFaultTime c) = (s.gaFault c bit).time := by
  rw [(s.gaFault_eff c bit).time, (s.gaFault_after_faulted c bit).rd_inst hc, State.gaFaulted, (State.transient_eff ..).rd_inst hc,
    State.rd_wr_self]

/-- A fault that GaugeFaults shows stays shown. -/
theorem State.gaFault_shows {j : Nat} (h : s.bit (K.gfltGaugeFaults c) j = true) :
    (s.gaFault c bit).bit (K.gfltGaugeFaults c) j = true := by
  have hfaulted : (s.gaFaulted c bit).bit (K.gfltGaugeFaults c) j = true := by
    rw [State.bit, State.gaFaulted, (State.transient_eff ..).rd_inst hc, State.rd_wr_inst _ _ (by decide),
      State.rd_inc_ne _ _ (instKey_ne _ _)]
    exact h
  obtain h | h := s.gaFault_eq_or c bit <;> rw [h]
  · rw [State.bit, State.gaRetire, (State.retire_eff ..).rd_inst hc, State.rd_wr_self]
    exact bitOf_setBits 2 hfaulted
  · exact hfaulted

end

/-! ### MOD_STUCK (R504) -/

/-- The state in which a stream without transitions is noted; the watch of its next 2^20 clocks starts. -/
def State.stuckNoted (s : State) (c : Nat) : State :=
  let x := s.at ((s.ga c).edgeAt + 32 * 2 ^ 20)
  let y := x.setGa c { x.ga c with edgeAt := x.now }
  y.wr (K.gfltGaugeFaults c) (setBits (y.rd (K.gfltGaugeFaults c)) 1)

theorem modStuck_faults {s : State} {c : Nat} (hm : s.rd (K.gaMode c) ≠ 0) (hr : s.gaRetired c = false) :
    modStuck c s = (s.stuckNoted c).gaFault c 0 := by
  rw [modStuck, if_neg (by simp [hm, hr])]
  rfl

section
variable (s : State) (c : Nat)

theorem State.stuckNoted_eff : Eff (withSide [.clock, .gauge]) (gaFaultKeys c) s (s.stuckNoted c) := by
  refine Eff.wr ((State.setGa_eff ..).after ((State.at_eff ..).after Eff.refl ?_) ?_) rfl ?_
  · exact fits_of_subset (by decide) (List.nil_subset _)
  · exact fits_of_subset (by decide) (List.nil_subset _)
  · simp [gaFaultKeys, sideAnd, KeySet.has]

theorem State.stuckNoted_rd {k : Nat} (hk : k ≠ K.gfltGaugeFaults c) : (s.stuckNoted c).rd k = s.rd k := State.rd_wr_ne _ _ hk

theorem State.stuckNoted_ga_ne {d : Nat} (hd : d ≠ c) : (s.stuckNoted c).ga d = s.ga d :=
  (State.ga_setGa ..).trans (if_neg hd)

theorem State.stuckNoted_shows : (s.stuckNoted c).bit (K.gfltGaugeFaults c) 0 = true := by
  rw [State.bit, State.stuckNoted, State.rd_wr_self]
  exact bitOf_setBits_new _ rfl

end

/-- Settles O38: each output of a channel comes to one value of its chain, and a value to a word or to a calibration; the lemmas above
say what each leaves, and that a word touches neither the channels' records nor the clock nor a fade's entries. The code of a word
that carries SETTLE is the next free value (logs 55 and 7). A stuck modulator is noted and then counted as any transient fault of the
channel; a retirement that follows moves none of its counts. -/
theorem gaugeWordCommands : Obligations.GaugeWordCommands := by
  unfold Obligations.GaugeWordCommands
  refine ⟨fun c bits i d y s hc hr h1 hf hb hrun hk hl => ?delivers, fun c bits i d y s hc hr h1 hf hb hrun hk hl => ?settles,
    fun c bits i d y k s hc hr h1 hf hb hrun hk hl => ?calibrates, fun c target i bits s hc hr h1 hf hb hk hx hi hh => ?fades,
    fun c i bits s hc hr h1 hn hb hk => ?converts, fun c s hc hm hr => ?stuck⟩
  case delivers =>
    obtain ⟨-, -, -, hkept⟩ := s.cicTaken_record c bits
    have hcal : ((s.cicTaken c bits).ga c).cal = none := hkept.trans hk
    obtain ⟨hsamples, hints, hcombs, hnow⟩ := gaugeOutput_direct_word hr h1 hf hb hrun hc hk
    refine ⟨gaugeOutput c bits s, inst_true (Nat.blt_eq.mpr hc), ?_, hsamples, hints, hcombs, hnow,
      (gaugeOutput_eff c bits s).frame⟩
    rw [gaugeOutput_direct hr h1 hf hb hrun, State.gaValue_delivers _ _ _ hcal hl, State.gaDeliver_latest _ _ _ _ _ hc]
    rfl
  case settles =>
    obtain ⟨-, -, -, hkept⟩ := s.cicTaken_record c bits
    have hcal : ((s.cicTaken c bits).ga c).cal = none := hkept.trans hk
    obtain ⟨hsamples, hints, hcombs, hnow⟩ := gaugeOutput_direct_word hr h1 hf hb hrun hc hk
    refine ⟨gaugeOutput c bits s, inst_true (Nat.blt_eq.mpr hc), ?_, ?_, hsamples, hints, hcombs, hnow,
      (gaugeOutput_eff c bits s).frame⟩ <;> rw [gaugeOutput_direct hr h1 hf hb hrun]
    · exact State.gaValue_settle_latest _ _ _ hcal hc hl
    · exact State.gaValue_settle_left _ _ _ hcal hc hl
  case calibrates =>
    obtain ⟨hints, hcombs, -, hkept⟩ := s.cicTaken_record c bits
    have hcal : ((s.cicTaken c bits).ga c).cal = some k := hkept.trans hk
    rw [show s.cicOf c bits = (i, d, [y]) from hrun] at hints hcombs
    refine ⟨gaugeOutput c bits s, inst_true (Nat.blt_eq.mpr hc), ?_⟩
    rw [gaugeOutput_direct hr h1 hf hb hrun, State.gaValue_calibrates _ _ _ hcal hl, State.ga_setGa_self]
    refine ⟨rfl, ?_, ?_, hints, hcombs, rfl, fun d hd => ?_, Eff.frame ?_⟩
    · exact State.rd_wr_inst _ _ (by decide)
    · exact State.rd_wr_inst _ _ (by decide)
    · exact (State.ga_setGa ..).trans ((if_neg hd).trans (s.cicTaken_ga_ne c bits hd))
    · have htaken := (s.cicTaken_eff c bits).after (ps := [.clock, .regs, .gauge]) (ks := [.one (K.gasSettleLeft c)]) Eff.refl
        (fits_of_subset (by decide) (List.nil_subset _))
      exact (State.setGa_eff ..).after (htaken.wr rfl (by simp [KeySet.has]))
        (fits_of_subset (by decide) (List.nil_subset _))
  case fades =>
    obtain ⟨y, sat, hfades⟩ := State.gaContinuous_fades hc hf hb hx hi hh
    have hcal : (((s.cicTaken c bits).fadeEnd c target).ga c).cal = none := by
      obtain ⟨-, -, -, hkept⟩ := s.cicTaken_record c bits
      rw [State.fadeEnd_ga]
      exact hkept.trans hk
    have hword := State.gaValue_word_eff 0 y sat hcal
    refine ⟨gaugeOutput c bits s, inst_true (Nat.blt_eq.mpr hc), ?_, ?_, ?_, ?_, (gaugeOutput_eff c bits s).frame⟩ <;>
      rw [gaugeOutput_continuous bits hr h1, hfades]
    · rw [hword.rd_inst hc, State.fadeEnd_activeBank _ _ hc]
    · rw [hword.rd_inst hc, State.fadeEnd_fadeState _ _ hc]
    · rw [hword.ga, State.fadeEnd_ga]
    · rw [State.gaValue_samples _ _ _ hcal hc, (State.fadeEnd_eff ..).rd_inst hc, (s.cicTaken_eff c bits).rd _ rfl]
  case converts =>
    obtain ⟨shown, y, sat, hconvert⟩ := State.gaConvert_taken i hb
    obtain ⟨hinput, hkept⟩ := s.inputTaken_record c bits i
    have hcal : ((s.inputTaken c bits i).ga c).cal = none := hkept.trans hk
    have hword := State.gaValue_word_eff shown y sat hcal
    refine ⟨gaugeOutput c bits s, inst_true (Nat.blt_eq.mpr hc), ?_, ?_, ?_, (gaugeOutput_eff c bits s).frame⟩ <;>
      rw [gaugeOutput_single bits hr h1 hn, hconvert]
    · rw [hword.ga, hinput]
    · rw [State.gaValue_samples _ _ _ hcal hc, (s.inputTaken_eff c bits i).rd _ rfl]
    · rw [hword.part .clock rfl, State.inputTaken_now]
  case stuck =>
    have hfault := (s.stuckNoted c).gaFault_eff_own c 0
    refine ⟨modStuck c s, inst_true (Nat.blt_eq.mpr hc), ?_⟩
    rw [modStuck_faults hm hr]
    refine ⟨?_, ?_, ?_, ?_, ?_, fun d hd => ?_, (hfault.after (s.stuckNoted_eff c) ?_).frame⟩
    · exact hfault.part .clock rfl
    · exact State.gaFault_shows _ _ hc (s.stuckNoted_shows c)
    · rw [State.gaFault_count _ _ hc, s.stuckNoted_rd c (instKey_ne _ _)]
    · rw [State.gaFault_transientCount, s.stuckNoted_rd c (ne_instKey _ rfl)]
    · exact State.gaFault_lastTime _ _ hc
    · exact (hfault.ga d).trans (s.stuckNoted_ga_ne c hd)
    · exact fits_of_subset (by decide) (List.Subset.refl _)

end Sys2Proof.Machine

/-! SUPPORT. A step (O4, O5, O7, O8, O9): every command keeps what `Sound` says, so every step does; and the counter C that an idle step
advances (O3). -/

namespace Sys2Proof.Machine

-- The proofs of this part are checked one after another, in one thread.
set_option Elab.async false

/-! ### What every command and every step keeps -/

/-- Every command that answers a next state keeps the queue behind it, the canonical form of DRAM, and blown fuses. -/
theorem exec_sound {c : Instr} {s t : State} (h : exec c s = .next t) : Sound s t := by
  cases c with
  | powerOnReset => cases h; exact s.powerOn_sound
  | warmReset => cases h; exact warmReset_sound s
  | resetRequest _ => cases h; exact resetRequestWrite_sound ..
  | supplyDetect => cases h; exact s.powerOn_sound
  | resetRelease _ => exact (execResetRelease_eff (h := h)).sound
  | bootHeaderRead _ _ => exact (execBootHeaderRead_eff (h := h)).sound
  | dramTrainDone _ => exact (execDramTrainDone_eff (h := h)).sound
  | dramZeroDone => exact (execDramZeroDone_eff (h := h)).sound
  | payloadLoaded _ _ _ => exact (execPayloadLoaded_eff (h := h)).sound
  | bootGo _ => exact (execBootGo_eff (h := h)).sound
  | bootComplete _ => exact (execBootComplete_eff (h := h)).sound
  | advanceSecurityVersion _ => exact (execAdvanceSecurityVersion_eff (h := h)).sound
  | revokeKey _ => exact (execRevokeKey_eff (h := h)).sound
  | fuseBurnDone => exact (execFuseBurnDone_eff (h := h)).sound
  | coreRelease _ => exact (execCoreRelease_eff (h := h)).sound
  | arm _ _ => exact (execArm_eff (h := h)).sound
  | run _ => exact (execRun_eff (h := h)).sound
  | stop _ => exact (execStop_eff (h := h)).sound
  | disarm _ => exact (execDisarm_eff (h := h)).sound
  | sleep _ _ => exact (execSleep_eff (h := h)).sound
  | wake _ => exact (execWake_eff (h := h)).sound
  | devStop => exact (execDevStop_eff (h := h)).sound
  | drainComplete => exact (execDrainComplete_eff (h := h)).sound
  | drainTimeout => exact (execDrainTimeout_eff (h := h)).sound
  | dictWrite _ _ => exact execDictWrite_sound (h := h)
  | readClearExtreme _ _ => exact (execReadClearExtreme_eff (h := h)).sound
  | timeRead _ _ => exact (execTimeRead_eff (h := h)).sound
  | commit _ _ => exact (execCommit_eff (h := h)).sound
  | discard _ _ => exact (execDiscard_eff (h := h)).sound
  | commitApply _ => exact (execCommitApply_eff (h := h)).sound
  | give _ _ _ => exact (execGive_eff (h := h)).sound
  | lock _ _ => exact (execLock_eff (h := h)).sound
  | setSecure _ _ => exact (execSetSecure_eff (h := h)).sound
  | setOpen _ _ => exact (execSetOpen_eff (h := h)).sound
  | challenge _ => exact (execChallenge_eff (h := h)).sound
  | proofGo _ => exact (execProofGo_eff (h := h)).sound
  | proofLockoutEnd => exact (execProofLockoutEnd_eff (h := h)).sound
  | drop _ _ => exact (execDrop_eff (h := h)).sound
  | domGo _ _ => exact (execDomGo_eff (h := h)).sound
  | domainTransferDone _ _ _ => exact (execDomainTransferDone_eff (h := h)).sound
  | openReq _ => exact (execOpenReq_eff (h := h)).sound
  | openProof _ => exact (execOpenProof_eff (h := h)).sound
  | request _ => exact execRequest_sound (h := h)
  | close _ => exact (execClose_eff (h := h)).sound
  | sessionTimeout _ => exact (execSessionTimeout_eff (h := h)).sound
  | encoderTransition _ _ _ => exact (execEncoderTransition_eff (h := h)).sound
  | countAccepted _ _ => exact (execCountAccepted_eff (h := h)).sound
  | serialFrameStart _ => exact (execSerialFrameStart_eff (h := h)).sound
  | serialFrame _ _ => exact (execSerialFrame_eff (h := h)).sound
  | indexPulse _ => exact (execIndexPulse_eff (h := h)).sound
  | stallTimeout _ => exact (execStallTimeout_eff (h := h)).sound
  | triggerEmit _ => exact (execTriggerEmit_eff (h := h)).sound
  | compareFire _ => exact (execCompareFire_eff (h := h)).sound
  | comparePulseEnd _ => exact (execComparePulseEnd_eff (h := h)).sound
  | probeEdge _ _ => exact (execProbeEdge_eff (h := h)).sound
  | pop _ _ => exact (execPop_eff (h := h)).sound
  | probeFlush _ _ => exact (execProbeFlush_eff (h := h)).sound
  | linearPreset _ _ => exact (execLinearPreset_eff (h := h)).sound
  | rotaryPreset _ _ => exact (execRotaryPreset_eff (h := h)).sound
  | wheelReadmit _ _ => exact (execWheelReadmit_eff (h := h)).sound
  | posBroadcast => exact (execPosBroadcast_eff (h := h)).sound
  | posMessage _ => exact (execPosMessage_eff (h := h)).sound
  | remoteTimeout => exact (execRemoteTimeout_eff (h := h)).sound
  | emuLagRelease _ => exact (execEmuLagRelease_eff (h := h)).sound
  | cxpLock _ => exact (execCxpLock_eff (h := h)).sound
  | huntLock _ => exact (execHuntLock_eff (h := h)).sound
  | huntTimeout _ => exact (execHuntTimeout_eff (h := h)).sound
  | queryDone _ _ => exact (execQueryDone_eff (h := h)).sound
  | trainDone _ _ => exact (execTrainDone_eff (h := h)).sound
  | trainTimeout _ => exact (execTrainTimeout_eff (h := h)).sound
  | rediscover _ _ => exact (execRediscover_eff (h := h)).sound
  | camReadmit _ _ => exact (execCamReadmit_eff (h := h)).sound
  | camTrigger _ => exact (execCamTrigger_eff (h := h)).sound
  | triggerPacketStart _ => exact (execTriggerPacketStart_eff (h := h)).sound
  | triggerPacketEnd _ => exact (execTriggerPacketEnd_eff (h := h)).sound
  | lineReceived _ _ => exact (execLineReceived_eff (h := h)).sound
  | skewTimeout _ => exact (execSkewTimeout_eff (h := h)).sound
  | lateLine _ => exact (execLateLine_eff (h := h)).sound
  | owedLineLapse _ => exact (execOwedLineLapse_eff (h := h)).sound
  | bandEnd _ => exact (execBandEnd_eff (h := h)).sound
  | cxpLinkLost _ _ => exact (execCxpLinkLost_eff (h := h)).sound
  | cxpRelocked _ _ => exact (execCxpRelocked_eff (h := h)).sound
  | relockTimeout _ => exact (execRelockTimeout_eff (h := h)).sound
  | cxpHeartbeat _ => exact (execCxpHeartbeat_eff (h := h)).sound
  | cxpEvent _ => exact (execCxpEvent_eff (h := h)).sound
  | cxpTriggerAck _ => exact (execCxpTriggerAck_eff (h := h)).sound
  | tunnelGo _ _ => exact (execTunnelGo_eff (h := h)).sound
  | tunnelAck _ _ _ _ => exact (execTunnelAck_eff (h := h)).sound
  | tunnelTimeout _ => exact (execTunnelTimeout_eff (h := h)).sound
  | roundOpen _ => exact (execRoundOpen_eff (h := h)).sound
  | pipeLineDone _ => exact (execPipeLineDone_eff (h := h)).sound
  | flushPass _ => exact (execFlushPass_eff (h := h)).sound
  | prismBandDone _ => exact (execPrismBandDone_eff (h := h)).sound
  | replayLine _ => exact (execReplayLine_eff (h := h)).sound
  | loadIntervalEnd _ => exact (execLoadIntervalEnd_eff (h := h)).sound
  | seamMemberLine _ => exact (execSeamMemberLine_eff (h := h)).sound
  | seamDeadline => exact (execSeamDeadline_eff (h := h)).sound
  | lineEmit _ => exact (execLineEmit_eff (h := h)).sound
  | winStart _ => exact (execWinStart_eff (h := h)).sound
  | bandRecord _ => exact (execBandRecord_eff (h := h)).sound
  | tagWrite => exact (execTagWrite_eff (h := h)).sound
  | joinHoldEnd => exact (execJoinHoldEnd_eff (h := h)).sound
  | cropDone => exact (execCropDone_eff (h := h)).sound
  | crazeWindowEnd => exact (execCrazeWindowEnd_eff (h := h)).sound
  | barLineStart _ => exact (execBarLineStart_eff (h := h)).sound
  | barLineDone _ => exact (execBarLineDone_eff (h := h)).sound
  | segmentFetch _ => exact (execSegmentFetch_eff (h := h)).sound
  | maskClear _ => exact (execMaskClear_eff (h := h)).sound
  | maskRequestApply => exact (execMaskRequestApply_eff (h := h)).sound
  | rasterTrigger _ => exact (execRasterTrigger_eff (h := h)).sound
  | shiftStart _ => exact (execShiftStart_eff (h := h)).sound
  | shiftDone _ => exact (execShiftDone_eff (h := h)).sound
  | strobeStart _ => exact (execStrobeStart_eff (h := h)).sound
  | strobeSegmentEnd _ => exact (execStrobeSegmentEnd_eff (h := h)).sound
  | strobeCut _ => exact (execStrobeCut_eff (h := h)).sound
  | portPowerOn _ _ => exact (execPortPowerOn_eff (h := h)).sound
  | powerOnDelayEnd _ => exact (execPowerOnDelayEnd_eff (h := h)).sound
  | deskewDone _ _ _ => exact (execDeskewDone_eff (h := h)).sound
  | headIdentified _ _ => exact (execHeadIdentified_eff (h := h)).sound
  | portPowerOff _ _ => exact (execPortPowerOff_eff (h := h)).sound
  | powerDownBegin _ => exact (execPowerDownBegin_eff (h := h)).sound
  | powerOffDelayEnd _ => exact (execPowerOffDelayEnd_eff (h := h)).sound
  | tempPoll _ => exact (execTempPoll_eff (h := h)).sound
  | tempReading _ _ => exact (execTempReading_eff (h := h)).sound
  | headReadmit _ _ => exact (execHeadReadmit_eff (h := h)).sound
  | portReadmit _ _ => exact (execPortReadmit_eff (h := h)).sound
  | scanGo _ _ => exact (execScanGo_eff (h := h)).sound
  | scanAbort _ _ => exact (execScanAbort_eff (h := h)).sound
  | scanSettleEnd => exact (execScanSettleEnd_eff (h := h)).sound
  | scanElement => exact (execScanElement_eff (h := h)).sound
  | gaugeOutput _ _ => exact (execGaugeOutput_eff (h := h)).sound
  | gsyncEdge _ => exact (execGsyncEdge_eff (h := h)).sound
  | syncNow _ => exact (execSyncNow_eff (h := h)).sound
  | gaSyncReq => exact (execGaSyncReq_eff (h := h)).sound
  | swapTarget _ _ => exact (execSwapTarget_eff (h := h)).sound
  | calGo _ _ => exact (execCalGo_eff (h := h)).sound
  | modStuck _ => exact (execModStuck_eff (h := h)).sound
  | gaugeReadmit _ _ => exact (execGaugeReadmit_eff (h := h)).sound
  | loopWindowEnd => exact (execLoopWindowEnd_eff (h := h)).sound
  | loopFoldDone => exact (execLoopFoldDone_eff (h := h)).sound
  | approve _ => exact (execApprove_eff (h := h)).sound
  | unlock _ => exact (execUnlock_eff (h := h)).sound
  | hold _ => exact (execHold_eff (h := h)).sound
  | resume _ => exact (execResume_eff (h := h)).sound
  | restore _ => exact (execRestore_eff (h := h)).sound
  | dramRefresh _ => exact (execDramRefresh_eff (h := h)).sound
  | dramTempRead _ _ => exact (execDramTempRead_eff (h := h)).sound
  | dramGrant _ => exact (execDramGrant_eff (h := h)).sound
  | patrolRead _ _ _ _ => exact (execPatrolRead_eff (h := h)).sound
  | selfRefreshEntry _ => exact (execSelfRefreshEntry_eff (h := h)).sound
  | ddrTrack _ _ => exact (execDdrTrack_eff (h := h)).sound
  | queueItemWrite _ _ => exact (execQueueItemWrite_eff (h := h)).sound
  | queueFlush _ _ => exact (execQueueFlush_eff (h := h)).sound
  | portQueueFlush _ => exact (execPortQueueFlush_eff (h := h)).sound
  | dmaGo _ _ => exact (execDmaGo_eff (h := h)).sound
  | doorbell _ _ => exact (execDoorbell_eff (h := h)).sound
  | dmaAbort _ _ => exact (execDmaAbort_eff (h := h)).sound
  | descFetch _ => exact (execDescFetch_eff (h := h)).sound
  | dmaPaceStart _ => exact (execDmaPaceStart_eff (h := h)).sound
  | dmaMaxwait _ => exact (execDmaMaxwait_eff (h := h)).sound
  | descComplete _ _ => exact (execDescComplete_eff (h := h)).sound
  | dmaErrorResponse _ _ _ => exact (execDmaErrorResponse_eff (h := h)).sound
  | jobTail _ _ => exact (execJobTail_eff (h := h)).sound
  | zeJobStart _ => exact (execZeJobStart_eff (h := h)).sound
  | zeJobDone _ => exact (execZeJobDone_eff (h := h)).sound
  | zeAbort _ _ => exact (execZeAbort_eff (h := h)).sound
  | eventDelivery => exact (execEventDelivery_eff (h := h)).sound
  | taskRoute _ _ => exact (execTaskRoute_eff (h := h)).sound
  | taskCoincide _ _ => exact (execTaskCoincide_eff (h := h)).sound
  | claim _ _ => exact (execClaim_eff (h := h)).sound
  | complete _ _ => exact (execComplete_eff (h := h)).sound
  | maskSet _ _ => exact (execMaskSet_eff (h := h)).sound
  | maskClearWord _ _ => exact (execMaskClearWord_eff (h := h)).sound
  | pendingSet _ _ => exact (execPendingSet_eff (h := h)).sound
  | pendingClear _ _ => exact (execPendingClear_eff (h := h)).sound
  | maskSync _ => exact (execMaskSync_eff (h := h)).sound
  | holdOffEnd _ => exact (execHoldOffEnd_eff (h := h)).sound
  | laneLock _ => exact (execLaneLock_eff (h := h)).sound
  | laneLockLost _ => exact (execLaneLockLost_eff (h := h)).sound
  | laneFault _ _ => exact (execLaneFault_eff (h := h)).sound
  | retrain _ _ => exact (execRetrain_eff (h := h)).sound
  | sklHuntDone _ => exact (execSklHuntDone_eff (h := h)).sound
  | sklCapDone _ _ => exact (execSklCapDone_eff (h := h)).sound
  | sklSwitchDone _ _ => exact (execSklSwitchDone_eff (h := h)).sound
  | trainBlock _ _ => exact (execTrainBlock_eff (h := h)).sound
  | tapRequestTimeout _ => exact (execTapRequestTimeout_eff (h := h)).sound
  | tuneTimeout _ => exact (execTuneTimeout_eff (h := h)).sound
  | sklCheckDone _ _ => exact (execSklCheckDone_eff (h := h)).sound
  | sklAlignDone _ _ _ => exact (execSklAlignDone_eff (h := h)).sound
  | marker _ => exact (execMarker_eff (h := h)).sound
  | laneMap _ _ => exact (execLaneMap_eff (h := h)).sound
  | laneReadmit _ _ => exact (execLaneReadmit_eff (h := h)).sound
  | sleepIdle _ => exact (execSleepIdle_eff (h := h)).sound
  | sleepBlock _ => exact (execSleepBlock_eff (h := h)).sound
  | directionWake _ => exact (execDirectionWake_eff (h := h)).sound
  | msgTransmit _ => exact (execMsgTransmit_eff (h := h)).sound
  | evt _ => exact (execEvt_eff (h := h)).sound
  | lnkSend _ => exact (execLnkSend_eff (h := h)).sound
  | sync _ _ => exact (execSync_eff (h := h)).sound
  | delayReq _ _ => exact (execDelayReq_eff (h := h)).sound
  | delayResp _ _ => exact (execDelayResp_eff (h := h)).sound
  | dict _ => exact execDict_sound (h := h)
  | bulk _ => exact (execBulk_eff (h := h)).sound
  | heartbeat _ _ => exact (execHeartbeat_eff (h := h)).sound
  | epoch _ => exact (execEpoch_eff (h := h)).sound
  | lineStale _ => exact (execLineStale_eff (h := h)).sound
  | msgReceived _ _ => exact (execMsgReceived_eff (h := h)).sound
  | heartbeatSend => exact (execHeartbeatSend_eff (h := h)).sound
  | roleDead _ => exact (execRoleDead_eff (h := h)).sound
  | sparePromote => exact (execSparePromote_eff (h := h)).sound
  | routeExpiry _ => exact (execRouteExpiry_eff (h := h)).sound
  | seqExpiry _ => exact (execSeqExpiry_eff (h := h)).sound
  | bulkWaitTimeout => exact (execBulkWaitTimeout_eff (h := h)).sound
  | dictGo _ => exact (execDictGo_eff (h := h)).sound
  | dictTimeout => exact (execDictTimeout_eff (h := h)).sound
  | pcieReset _ => exact (execPcieReset_eff (h := h)).sound
  | pcieLinkUp _ _ _ _ => exact (execPcieLinkUp_eff (h := h)).sound
  | pcieLinkDown => exact (execPcieLinkDown_eff (h := h)).sound
  | bar2Base _ => exact (execBar2Base_eff (h := h)).sound
  | ethFrameReceive _ _ _ => exact (execEthFrameReceive_eff (h := h)).sound
  | ethLinkUp _ _ => exact (execEthLinkUp_eff (h := h)).sound
  | ethLinkFault _ => exact (execEthLinkFault_eff (h := h)).sound
  | ethReadmit _ _ => exact (execEthReadmit_eff (h := h)).sound
  | coreTxFrame _ => exact (execCoreTxFrame_eff (h := h)).sound
  | timeSet _ => exact (execTimeSet_eff (h := h)).sound
  | timeStep _ => exact (execTimeStep_eff (h := h)).sound
  | resync _ => exact (execResync_eff (h := h)).sound
  | rateAdj _ => exact (execRateAdj_eff (h := h)).sound
  | syncPeriod => exact (execSyncPeriod_eff (h := h)).sound
  | holdoverTimeout => exact (execHoldoverTimeout_eff (h := h)).sound
  | alarmFire _ => exact (execAlarmFire_eff (h := h)).sound
  | timeCapture _ => exact (execTimeCapture_eff (h := h)).sound
  | ppsPulse => exact (execPpsPulse_eff (h := h)).sound
  | ppsEnd => exact (execPpsEnd_eff (h := h)).sound
  | watchdogKick _ => exact (execWatchdogKick_eff (h := h)).sound
  | wdogWarn => exact (execWdogWarn_eff (h := h)).sound
  | wdogExpire => exact (execWdogExpire_eff (h := h)).sound
  | junctionRead _ => exact (execJunctionRead_eff (h := h)).sound
  | fatalRequest _ => exact (execFatalRequest_eff (h := h)).sound
  | pllLockLoss => exact (execPllLockLoss_eff (h := h)).sound
  | refclkBad _ => exact (execRefclkBad_eff (h := h)).sound
  | calRun _ => exact (execCalRun_eff (h := h)).sound
  | calRunDone _ => exact (execCalRunDone_eff (h := h)).sound
  | witnessWrite => exact (execWitnessWrite_eff (h := h)).sound
  | freeze _ => exact (execFreeze_eff (h := h)).sound
  | release _ => exact (execRelease_eff (h := h)).sound
  | mark _ => exact (execMark_eff (h := h)).sound
  | readSequence _ => exact (execReadSequence_eff (h := h)).sound
  | domainDown => exact (execDomainDown_eff (h := h)).sound
  | domainUp => exact (execDomainUp_eff (h := h)).sound
  | wakePin _ => exact (execWakePin_eff (h := h)).sound
  | msixUnmask _ => exact (execMsixUnmask_eff (h := h)).sound
  | coreAccess _ _ _ _ _ _ _ => exact execCoreAccess_sound (h := h)
  | bar2Access _ _ _ _ => exact (execBar2Access_eff (h := h)).sound

/-- A step that answers a next state is one FABCLK on an empty queue, or the front command on the state with the queue's rest. -/
theorem step_next {s t : State} (h : step s = .next t) :
    (s.pending = [] ∧ t = s.tick) ∨ ∃ c rest, s.pending = c :: rest ∧ exec c { s with pending := rest } = .next t := by
  unfold step at h
  split at h
  · next hp => cases h; exact .inl ⟨hp, rfl⟩
  · next c rest hp => exact .inr ⟨c, rest, hp, h⟩

/-- Settles O4: it is the second branch of `step`. -/
theorem stepRunsFrontCommand : Obligations.StepRunsFrontCommand := fun _ _ _ => rfl

theorem step_idle {s : State} (h : s.pending = []) : step s = .next s.tick := by simp [step, h]

/-- Settles O5: the step is `State.tick`, whose frame is the clock. -/
theorem idleStepCountsClock : Obligations.IdleStepCountsClock :=
  fun s h => ⟨s.tick, step_idle h, rfl, s.tick_eff.frame⟩

/-- Settles O7: the idle step leaves DRAM alone, and every command keeps its canonical form. -/
theorem stepKeepsMemoryCanonical : Obligations.StepKeepsMemoryCanonical := by
  intro s t hm h
  obtain ⟨-, rfl⟩ | ⟨c, rest, -, hc⟩ := step_next h
  · exact hm
  · exact (exec_sound hc).mem hm

/-- Settles O8: the idle step leaves the fuses alone, and no command clears one. -/
theorem stepKeepsFuses : Obligations.StepKeepsFuses := by
  intro s t h
  obtain ⟨-, rfl⟩ | ⟨c, rest, -, hc⟩ := step_next h
  · exact ⟨Nat.le_refl _, fun _ hi => hi, rfl⟩
  · have hs := exec_sound hc
    exact ⟨hs.version, hs.revoked, hs.keys⟩

/-- Settles O9: the step takes the front command off, and no command touches the queue behind it. -/
theorem stepConsumesOneCommand : Obligations.StepConsumesOneCommand := by
  intro s t h
  obtain ⟨hp, rfl⟩ | ⟨c, rest, hp, hc⟩ := step_next h
  · simp [State.tick, hp]
  · simpa [hp] using (exec_sound hc).queue

/-! ### The counter C (R34, R39, R488) -/

section
variable {a : Acc} {k : Nat} {r : Row} (s : State)

/-- No write of a read-only entry is carried out (R39). -/
theorem State.writeStatus_ro (hr : rowOf k = some r) (ha : r.acc = .ro) : s.writeStatus a k ≠ 0 := by
  have hallowed : s.writeAllowed a k ≠ 0 := by
    simp only [State.writeAllowed, hr, State.writeKind, ha]
    split <;> simp
  unfold State.writeStatus
  split
  · decide
  · split
    · next h => exact absurd h hallowed
    · exact hallowed

theorem State.shown_timeCounter : s.shown K.timeTimeCounter = s.now % 2 ^ 64 := rfl

theorem State.warm_now (cause : Nat) : (s.warm cause).now = s.now :=
  (warmChannels_eff ..).part .clock rfl

theorem warmReset_now : (warmReset s).now = s.now := by
  unfold warmReset
  split
  · rfl
  · exact s.warm_now 2

theorem rowOf_timeTimeCounter : ∃ r, rowOf K.timeTimeCounter = some r ∧ r.acc = .ro := ⟨_, rfl, rfl⟩

theorem entryWrite_timeCounter (a : Acc) : entryWrite a K.timeTimeCounter s = storeWrite a K.timeTimeCounter s := rfl

/-- A write of TimeCounter leaves its record alone. -/
theorem entryWrite_timeCounter_now : (entryWrite a K.timeTimeCounter s).now = s.now := by
  obtain ⟨r, hr, ha⟩ := rowOf_timeTimeCounter
  rw [entryWrite_timeCounter, storeWrite, State.act_refused (s.writeStatus_ro hr ha)]
  exact (State.done_eff ..).part .clock rfl

end

/-- Settles O3: the shown value is C in 64 bits, and each of the commands says what it makes of C. -/
theorem timeCounter : Obligations.TimeCounter := by
  refine ⟨State.shown_timeCounter, fun s hp => ⟨s.tick, step_idle hp, rfl, ?_⟩, fun s => ⟨s.powerOn, rfl, rfl⟩,
    fun s => ⟨warmReset s, rfl, ?_⟩, fun a s => ⟨?_, entryWrite a K.timeTimeCounter s, rfl, ?_⟩⟩
  · simp only [State.shown_timeCounter, State.tick]
    omega
  · simp only [State.shown_timeCounter, warmReset_now]
  · obtain ⟨r, hr, ha⟩ := rowOf_timeTimeCounter
    exact s.writeStatus_ro hr ha
  · simp only [State.shown_timeCounter, entryWrite_timeCounter_now]

end Sys2Proof.Machine

/-! SUPPORT. Leaving reset and booting (O13, O14, O15): what a fatal fault records, what RESET_RELEASE samples, what each outcome of a
header, a training and a payload leaves, and what the fuse and core commands do when they are served. -/

namespace Sys2Proof.Machine

-- The proofs of this part are checked one after another, in one thread.
set_option Elab.async false

/-- The boot sequencer's record holds no entry. -/
theorem State.rd_with_boot (s : State) (b : Boot) (k : Nat) : State.rd { s with boot := b } k = s.rd k := rfl

/-! ### A fatal fault (R25, R508, R509) -/

/-- The fatal record as it is set, before the event, the Witness entry and the halt. -/
def State.fatalRecorded (s : State) (code unit data : Nat) : State :=
  (((s.wr K.fltFatalCode code).wr K.fltFatalTime s.time).wr K.fltFatalUnit unit).wr K.fltFatalData data

section
variable (s : State) (code unit data : Nat) (hr : s.dev ≠ stReset) (hf : s.dev ≠ stFault)
include hr hf

/-- Outside RESET and FAULT a fatal fault sets its record, then enters FAULT and halts. -/
theorem State.fatal_taken :
    ∃ x, Eff sideParts (sideAnd [.one K.devStopCause]) (s.fatalRecorded code unit data) x ∧
      s.fatal code unit data = (x.enter stFault true).halt := by
  refine ⟨_, ?_, (if_neg hr).trans (if_neg hf)⟩
  exact ((State.witness_eff ..).after (((State.raise_eff ..).after Eff.refl rfl).arrive rfl) rfl).wr rfl rfl

/-- The record of a fatal fault stands afterwards, and the device is in FAULT. -/
theorem State.fatal_record :
    (s.fatal code unit data).dev = stFault ∧ (s.fatal code unit data).rd K.fltFatalCode = code ∧
      (s.fatal code unit data).rd K.fltFatalUnit = unit ∧ (s.fatal code unit data).rd K.fltFatalData = data := by
  obtain ⟨x, hx, h⟩ := s.fatal_taken code unit data hr hf
  rw [h]
  have hhalt := (x.enter stFault true).halt_eff
  have henter := x.enter_eff stFault true
  refine ⟨(hhalt.rd _ rfl).trans (x.enter_dev stFault true), ?_, ?_, ?_⟩
  · rw [hhalt.rd _ rfl, henter.rd _ rfl, hx.rd _ rfl, State.fatalRecorded, State.rd_wr_ne _ _ (by decide),
      State.rd_wr_ne _ _ (by decide), State.rd_wr_ne _ _ (by decide), State.rd_wr_self]
  · rw [hhalt.rd _ rfl, henter.rd _ rfl, hx.rd _ rfl, State.fatalRecorded, State.rd_wr_ne _ _ (by decide), State.rd_wr_self]
  · rw [hhalt.rd _ rfl, henter.rd _ rfl, hx.rd _ rfl, State.fatalRecorded, State.rd_wr_self]

end

/-! ### RESET_RELEASE (R538, R539, R546) -/

/-- The straps sampled, the root PLL locked and the fuses shown. -/
def State.strapsSampled (s : State) (v : Nat) : State :=
  (((s.wr K.rstBootSel v).wr K.clkRootPllLocked 1).wr K.bootFusedSecurityVersion s.fuses.version).wr K.bootKeyRevoked s.fuses.revoked

theorem State.strapsSampled_entries (s : State) (v : Nat) :
    (s.strapsSampled v).rd K.rstBootSel = v ∧ (s.strapsSampled v).rd K.clkRootPllLocked = 1 ∧
      (s.strapsSampled v).rd K.bootFusedSecurityVersion = s.fuses.version ∧
      (s.strapsSampled v).rd K.bootKeyRevoked = s.fuses.revoked := by
  unfold State.strapsSampled
  refine ⟨?_, ?_, ?_, State.rd_wr_self ..⟩
  · rw [State.rd_wr_ne _ _ (by decide), State.rd_wr_ne _ _ (by decide), State.rd_wr_ne _ _ (by decide), State.rd_wr_self]
  · rw [State.rd_wr_ne _ _ (by decide), State.rd_wr_ne _ _ (by decide), State.rd_wr_self]
  · rw [State.rd_wr_ne _ _ (by decide), State.rd_wr_self]

theorem strapSources_some {v : Nat} (h : v % 4 ≠ 3) : ∃ src l, strapSources (v % 4) = src :: l := by
  have hv : v % 4 = 0 ∨ v % 4 = 1 ∨ v % 4 = 2 := by omega
  rcases hv with h | h | h <;> rw [h] <;> exact ⟨_, _, rfl⟩

/-- BOOT is entered, with a RESET entry in the Witness unless the ring is frozen. -/
def State.bootEntered (s : State) (v : Nat) : State :=
  let x := s.strapsSampled v
  (if x.on K.witFrozen then x else x.witness 2 0 0 (if x.boot.warm then 2 else 1) 0).enter stBoot

theorem State.bootEntered_eff (s : State) (v : Nat) :
    Eff (withSide [.device]) (sideAnd [.one K.devDeviceState, .one K.devStateChanges, .one K.devStateTime]) (s.strapsSampled v)
      (s.bootEntered v) :=
  (State.enter_eff ..).after (Eff.ite Eff.refl ((State.witness_eff ..).after Eff.refl rfl)) rfl

theorem State.bootEntered_dev (s : State) (v : Nat) : (s.bootEntered v).dev = stBoot := State.enter_dev ..

/-- Boot ends with BAD_STRAP before any source is tried. -/
def State.strapsRefused (s : State) : State :=
  { (s.bootEntered 3).wr K.bootBootStatus 2 with boot := { (s.bootEntered 3).boot with phase := .failed } }

theorem State.strapsRefused_rd (s : State) (k : Nat) : s.strapsRefused.rd k = ((s.bootEntered 3).wr K.bootBootStatus 2).rd k :=
  State.rd_with_boot ..

theorem State.strapsRefused_dev (s : State) : s.strapsRefused.dev = stBoot := by
  rw [State.dev, State.strapsRefused_rd, State.rd_wr_ne _ _ (by decide)]
  exact s.bootEntered_dev 3

theorem State.strapsRefused_status (s : State) : s.strapsRefused.rd K.bootBootStatus = 2 := by
  rw [State.strapsRefused_rd, State.rd_wr_self]

section
variable {s : State} {straps : Nat} (hd : s.dev = stReset)
include hd

/-- The first source is tried from BOOT. -/
theorem resetRelease_boots {src : Nat} {l : List Nat} (hl : strapSources (straps % 4) = src :: l) :
    resetRelease straps s =
      { ((s.bootEntered (straps % 4)).wr K.bootBootSource src).wr K.bootBootStatus 0 with
        boot := { (s.bootEntered (straps % 4)).boot with
          phase := sourcePhase src, sources := src :: l, image := [], accepted := false } } := by
  rw [resetRelease, if_neg (by simp [hd])]
  simp only [hl]
  rfl

/-- Straps of 3 select no source: boot ends at once with fatal fault 9. -/
theorem resetRelease_badStrap (h3 : straps % 4 = 3) : resetRelease straps s = s.strapsRefused.fatal 9 0 3 := by
  rw [resetRelease, if_neg (by simp [hd])]
  simp only [h3]
  rfl

end

/-- Settles O13: straps that select a source enter BOOT with it first, straps of 3 end in the fatal fault; both keep DRAM and the fuses. -/
theorem resetReleaseCommand : Obligations.ResetReleaseCommand := by
  refine ⟨fun straps s hd h3 => ⟨resetRelease straps s, rfl, ?_⟩, fun straps s hd h3 => ⟨resetRelease straps s, rfl, ?_⟩⟩
  · obtain ⟨src, l, hl⟩ := strapSources_some h3
    obtain ⟨hsel, hpll, hver, hrev⟩ := s.strapsSampled_entries (straps % 4)
    have hx := s.bootEntered_eff (straps % 4)
    have heff := resetRelease_eff straps s
    have h := resetRelease_boots hd hl
    have hrd : ∀ k, k ≠ K.bootBootSource → k ≠ K.bootBootStatus →
        (resetRelease straps s).rd k = (s.bootEntered (straps % 4)).rd k := fun k h1 h2 => by
      rw [h, State.rd_with_boot, State.rd_wr_ne _ _ h2, State.rd_wr_ne _ _ h1]
    refine ⟨(hrd _ (by decide) (by decide)).trans (s.bootEntered_dev _), ?_, ?_, ?_, ?_, ?_, heff.part .mem rfl,
      heff.part .fuses rfl, (heff.part .domains rfl).1, heff.part .owners rfl⟩
    · rw [hrd _ (by decide) (by decide), hx.rd _ rfl, hsel]
    · rw [hrd _ (by decide) (by decide), hx.rd _ rfl, hpll]
    · rw [hrd _ (by decide) (by decide), hx.rd _ rfl, hver]
    · rw [hrd _ (by decide) (by decide), hx.rd _ rfl, hrev]
    · rw [h, hl]
  · have heff := resetRelease_eff straps s
    have hdev : s.strapsRefused.dev = stBoot := s.strapsRefused_dev
    have hfatal := s.strapsRefused.fatal_eff 9 0 3
    obtain ⟨hfault, hcode, -, -⟩ := s.strapsRefused.fatal_record 9 0 3 (by rw [hdev]; decide) (by rw [hdev]; decide)
    refine ⟨?_, ?_, ?_, ?_, heff.part .mem rfl, heff.part .fuses rfl⟩ <;> rw [resetRelease_badStrap hd h3]
    · exact hfault
    · exact hcode
    · exact (hfatal.rd _ rfl).trans s.strapsRefused_status
    · obtain ⟨hb, -⟩ := hfatal.part .boot rfl
      rw [hb]
      rfl

end Sys2Proof.Machine

/-! SUPPORT. Booting from an image, the fuses and releasing cores (O14, O15): what each outcome of a header, a training and a payload
leaves, and what the fuse and core commands do when they are served. -/

namespace Sys2Proof.Machine

-- The proofs of this part are checked one after another, in one thread.
set_option Elab.async false

/-! ### The header of an image (R539 to R542) -/

/-- The copy in hand fails with a code, and the next source is tried. -/
def State.sourceAdvanced (s : State) (status src : Nat) (l : List Nat) : State :=
  { (s.wr K.bootBootStatus status).wr K.bootBootSource src with
    boot := { s.boot with phase := sourcePhase src, sources := src :: l, image := [] } }

section
variable {s : State} {src src' : Nat} {l : List Nat}

theorem State.nextCopy_advances (status : Nat) (hs : s.boot.sources = src :: src' :: l) :
    s.nextCopy status = s.sourceAdvanced status src' l := by
  simp only [State.nextCopy, State.wr_boot, hs, State.sourceAdvanced]

theorem State.sourceAdvanced_entries (s : State) (status src : Nat) (l : List Nat) :
    (s.sourceAdvanced status src l).rd K.bootBootStatus = status ∧ (s.sourceAdvanced status src l).rd K.bootBootSource = src := by
  unfold State.sourceAdvanced
  rw [State.rd_with_boot, State.rd_with_boot]
  exact ⟨by rw [State.rd_wr_ne _ _ (by decide), State.rd_wr_self], State.rd_wr_self ..⟩

theorem State.sourceAdvanced_eff (s : State) (status src : Nat) (l : List Nat) :
    Eff [.regs, .boot] [.one K.bootBootStatus, .one K.bootBootSource] s (s.sourceAdvanced status src l) :=
  Eff.upd_boot ((Eff.refl.wr rfl rfl).wr rfl rfl) rfl

end

section
variable {image : List Nat} {s : State} (hd : s.dev = stBoot) (hp : s.boot.phase = .header)
include hd hp

theorem bootHeaderRead_wrongMagic (hm : hdr image 0 4 ≠ 0x54424E47) : bootHeaderRead image true s = s.nextCopy 3 := by
  simp [bootHeaderRead, hd, hp, hm]

/-- The image in hand, with the board's subsystem numbers (R541). -/
def State.imageTaken (s : State) (image : List Nat) : State :=
  { s with boot := { s.boot with
      image := image, subsysVendor := hdr image 260 2, subsysId := hdr image 262 2, phase := .training } }

/-- An accepted header at power-on sets the DRAM configuration and trains the used channels. -/
theorem bootHeaderRead_accepted (hm : hdr image 0 4 = 0x54424E47) (hh : hdrOk image (cfgPopulated image) = true)
    (hc : cfgOk image = true) (hw : s.boot.warm = false) (ht : s.boot.trained ≠ some (cfgDram image)) :
    bootHeaderRead image true s = ((s.imageTaken image).setDram image).startTraining := by
  simp [bootHeaderRead, State.imageTaken, hd, hp, hm, hh, hc, hw, ht]

end

theorem State.setDram_entries (s : State) (image : List Nat) :
    (s.setDram image).rd K.dramDramPopulated = cfgPopulated image ∧ (s.setDram image).rd K.dramChannelsPresent = cfgUsed image ∧
      (s.setDram image).rd K.dramInterleave = cfgInterleave image := by
  unfold State.setDram
  refine ⟨?_, State.rd_wr_self .., ?_⟩
  · rw [State.rd_wr_ne _ _ (by decide), State.rd_wr_self]
  · rw [State.rd_wr_ne _ _ (by decide), State.rd_wr_ne _ _ (by decide), State.rd_wr_self]

/-! ### The end of training (R358, R514, R516) -/

theorem State.calEnd_boot (s : State) (r reason margin limit : Nat) : (s.calEnd r reason margin limit).boot = s.boot := by
  unfold State.calEnd
  extract_lets c pass result c' x y z
  have hx : x.boot = s.boot := rfl
  have hy : y.boot = x.boot := ((State.witness_eff ..).part .boot rfl).1
  have hz : z.boot = y.boot := (((State.arrive_eff ..).after (State.raise_eff ..) rfl).part .boot rfl).1
  split
  · rw [hz, hy, hx]
  · have hf : ((z.flag K.calCalStatus 1 7).raise Ev.fltCalFail).boot = z.boot :=
      (((State.raise_eff ..).after (Eff.flag (ps := sideParts) (ks := sideAnd [.one K.calCalStatus]) Eff.refl rfl rfl) rfl).part
        .boot rfl).1
    rw [hf, hz, hy, hx]

section
variable (failed : Nat) (s : State) (n : Nat)

theorem trainOne_boot : (trainOne failed s n).boot = s.boot := by
  unfold trainOne
  split
  · split
    · exact State.calEnd_boot ..
    · exact State.calEnd_boot ..
  · rfl

theorem trainOne_present : (trainOne failed s n).rd K.dramChannelsPresent = s.rd K.dramChannelsPresent :=
  (trainOne_eff ..).rd _ rfl

/-- A used channel that trained is READY. -/
theorem trainOne_ready (hn : n < 4) (hp : s.bit K.dramChannelsPresent n = true) (hf : bitOf failed n = false) :
    (trainOne failed s n).rd (K.dcsChannelState n) = 2 := by
  have hcal : ∀ (x : State) (r reason margin limit : Nat),
      (x.calEnd r reason margin limit).rd (K.dcsChannelState n) = x.rd (K.dcsChannelState n) :=
    fun x r reason margin limit => (State.calEnd_eff ..).rd_inst hn
  rw [trainOne, if_pos hp, if_neg (by simp [hf])]
  exact (hcal ..).trans (State.rd_wr_self ..)

theorem trainOne_ne {m : Nat} (hn : n < 4) (hm : n ≠ m) :
    (trainOne failed s m).rd (K.dcsChannelState n) = s.rd (K.dcsChannelState n) := by
  have hcal : ∀ (x : State) (r reason margin limit : Nat),
      (x.calEnd r reason margin limit).rd (K.dcsChannelState n) = x.rd (K.dcsChannelState n) :=
    fun x r reason margin limit => (State.calEnd_eff ..).rd_inst hn
  have hk : K.dcsChannelState n ≠ K.dcsChannelState m := by unfold K.dcsChannelState instKey; omega
  unfold trainOne
  split
  · split
    · exact (hcal ..).trans (State.rd_wr_ne _ _ hk)
    · exact (hcal ..).trans (State.rd_wr_ne _ _ hk)
  · rfl

end

/-- The channels of a list end their training, one after another. -/
def State.trained (s : State) (failed : Nat) (l : List Nat) : State := l.foldl (trainOne failed) s

section
variable (failed : Nat) (s : State) (l : List Nat)

theorem State.trained_eff :
    Eff (withSide [.boot, .memory]) (sideAnd [.fam (K.dcsChannelState 0) 4, .one K.calCalStatus]) s (s.trained failed l) :=
  Eff.foldl (fun _ _ h => (trainOne_eff ..).after h rfl) Eff.refl

theorem State.trained_boot : (s.trained failed l).boot = s.boot := by
  induction l generalizing s with
  | nil => rfl
  | cons m l ih => exact (ih (trainOne failed s m)).trans (trainOne_boot ..)

theorem State.trained_keeps {n : Nat} (hn : n < 4) (hf : bitOf failed n = false) (hr : s.rd (K.dcsChannelState n) = 2) :
    (s.trained failed l).rd (K.dcsChannelState n) = 2 := by
  induction l generalizing s with
  | nil => exact hr
  | cons m l ih =>
    refine ih (trainOne failed s m) ?_
    by_cases hm : n = m
    · subst hm
      cases hp : s.bit K.dramChannelsPresent n with
      | true => exact trainOne_ready failed s n hn hp hf
      | false => rwa [trainOne, if_neg (by simp [hp])]
    · rwa [trainOne_ne failed s n hn hm]

/-- Every used channel of the list that trained is READY at the end. -/
theorem State.trained_ready {n : Nat} (hn : n < 4) (hl : n ∈ l) (hp : s.bit K.dramChannelsPresent n = true)
    (hf : bitOf failed n = false) : (s.trained failed l).rd (K.dcsChannelState n) = 2 := by
  induction l generalizing s with
  | nil => cases hl
  | cons m l ih =>
    have hpm : (trainOne failed s m).bit K.dramChannelsPresent n = true := by rwa [State.bit, trainOne_present]
    by_cases hm : n = m
    · subst hm
      exact State.trained_keeps failed _ l hn hf (trainOne_ready failed s n hn hp hf)
    · exact ih _ ((List.mem_cons.mp hl).resolve_left hm) hpm

end

section
variable {s : State} {failed : Nat} (hd : s.dev = stBoot) (hp : s.boot.phase = .training)
include hd hp

theorem dramTrainDone_passes (hf : s.failedUsed failed = []) :
    dramTrainDone failed s =
      { s.trained failed [0, 1, 2, 3] with
        boot := { (s.trained failed [0, 1, 2, 3]).boot with
          trained := some (if (s.trained failed [0, 1, 2, 3]).boot.warm then (s.trained failed [0, 1, 2, 3]).boot.trained.getD []
            else cfgDram (s.trained failed [0, 1, 2, 3]).boot.image)
          phase := if (s.trained failed [0, 1, 2, 3]).boot.warm then .payload else .zeroing } } := by
  rw [dramTrainDone, if_neg (by simp [hd, hp])]
  simp only [hf]
  rfl

/-- Boot ends when a used channel fails, with BootStatus 10. -/
def State.trainingFailed (s : State) (failed : Nat) : State :=
  { (s.trained failed [0, 1, 2, 3]).wr K.bootBootStatus 10 with
    boot := { (s.trained failed [0, 1, 2, 3]).boot with phase := .failed } }

theorem dramTrainDone_fails {n : Nat} {l : List Nat} (hf : s.failedUsed failed = n :: l) :
    dramTrainDone failed s = (s.trainingFailed failed).fatal 2 (8 * 256 + n) n := by
  rw [dramTrainDone, if_neg (by simp [hd, hp])]
  simp only [hf]
  rfl

omit hp in
theorem State.trainingFailed_dev : (s.trainingFailed failed).dev = stBoot := by
  rw [State.dev, State.trainingFailed, State.rd_with_boot, State.rd_wr_ne _ _ (by decide), (State.trained_eff ..).rd _ rfl]
  exact hd

end

theorem failedUsed_nil {s : State} {failed n : Nat} (h : s.failedUsed failed = []) (hn : n < 4)
    (hp : s.bit K.dramChannelsPresent n = true) : bitOf failed n = false := by
  have hmem : n ∈ [0, 1, 2, 3] := by simp; omega
  simpa [hp] using List.filter_eq_nil_iff.mp h n hmem

/-! ### Zeroing and the payload (R359, R540, R543) -/

theorem dramZeroDone_zeroes {s : State} (hd : s.dev = stBoot) (hp : s.boot.phase = .zeroing) :
    dramZeroDone s = { s with mem := [], boot := { s.boot with phase := .payload } } := if_neg (by simp [hd, hp])

/-- The payload stands at LoadAddress, whatever the checks of R543 then say. -/
def State.payloadPut (s : State) (payload : List Nat) : State :=
  { s with mem := memPuts s.mem (hdrLoadAddress s.boot.image) (payload.drop (hdrPayloadOffset s.boot.image - restStart s.boot.image)) }

/-- An accepted image is shown, and core 0 starts at EntryPoint. -/
def State.imageAccepted (s : State) (image : List Nat) : State :=
  { (((s.wr K.bootBootStatus 1).wr K.bootKeySlotUsed (hdrKeySlot image)).wr K.bootImageSecurityVersion
      (hdrSecurityVersion image)).wr K.coreCoresRunning 1 with
    cores := [(0, hdrEntryPoint image)], boot := { s.boot with phase := .accepted, accepted := true } }

section
variable {payload sig : List Nat} {s : State} (hd : s.dev = stBoot) (hp : s.boot.phase = .payload)
  (hl : payload.length + restStart s.boot.image = hdrSignatureOffset s.boot.image) (hs : sig.length = 96)
include hd hp hl hs

theorem payloadLoaded_accepts (hk : keyCheck s.fuses s.boot.image payload sig = 1) :
    payloadLoaded payload sig true s = (s.payloadPut payload).imageAccepted s.boot.image := by
  simp [payloadLoaded, hd, hp, hl, hs, hk, State.payloadPut, State.imageAccepted]

theorem payloadLoaded_refuses {r : Nat} (hk : keyCheck s.fuses s.boot.image payload sig = r) (hr : r ≠ 1) :
    payloadLoaded payload sig true s = (s.payloadPut payload).nextCopy r := by
  simp [payloadLoaded, hd, hp, hl, hs, hk, State.payloadPut]

end

theorem State.payloadPut_eff (s : State) (payload : List Nat) : Eff [.mem] [] s (s.payloadPut payload) :=
  Eff.upd_mem Eff.refl rfl (Memory.wf_memPuts _ _)

theorem State.imageAccepted_eff (s : State) (image : List Nat) :
    Eff [.regs, .boot] [.one K.coreCoresRunning, .one K.bootBootStatus, .one K.bootKeySlotUsed, .one K.bootImageSecurityVersion] s
      (s.imageAccepted image) :=
  Eff.upd_boot_cores ((((Eff.refl.wr rfl rfl).wr rfl rfl).wr rfl rfl).wr rfl rfl) rfl

/-- The boot sequencer's record and the cores' entry points hold no entry. -/
theorem State.rd_with_cores_boot (s : State) (c : Tab Nat) (b : Boot) (k : Nat) :
    State.rd { s with cores := c, boot := b } k = s.rd k := rfl

theorem State.imageAccepted_entries (s : State) (image : List Nat) :
    (s.imageAccepted image).rd K.bootBootStatus = 1 ∧ (s.imageAccepted image).rd K.coreCoresRunning = 1 ∧
      (s.imageAccepted image).rd K.bootKeySlotUsed = hdrKeySlot image ∧
      (s.imageAccepted image).rd K.bootImageSecurityVersion = hdrSecurityVersion image := by
  simp only [State.imageAccepted, State.rd_with_cores_boot]
  refine ⟨?_, State.rd_wr_self .., ?_, ?_⟩
  · rw [State.rd_wr_ne _ _ (by decide), State.rd_wr_ne _ _ (by decide), State.rd_wr_ne _ _ (by decide), State.rd_wr_self]
  · rw [State.rd_wr_ne _ _ (by decide), State.rd_wr_ne _ _ (by decide), State.rd_wr_self]
  · rw [State.rd_wr_ne _ _ (by decide), State.rd_wr_self]

/-- Settles O14: a header goes on to training or to the next source, training to its end or to fatal fault 2, and a payload that stands
in DRAM to core 0 or to the next source. -/
theorem bootImageCommands : Obligations.BootImageCommands := by
  refine ⟨fun image s hd hp hm hh hc hw ht => ?header, fun image src src' l s hd hp hm hs => ?magic,
    fun failed s hd hp hf => ?trained, fun failed n l s hd hp hf => ?untrained, fun s hd hp => ?zeroed,
    fun payload sig l r src src' s hd hp hl hg hk hs => ?payload⟩
  case header =>
    refine ⟨_, congrArg Host.Outcome.next (bootHeaderRead_accepted hd hp hm hh hc hw ht), ?_⟩
    have hset := (s.imageTaken image).setDram_eff image
    have htrain := ((s.imageTaken image).setDram image).startTraining_eff
    have htaken : Eff [.regs, .boot] [] s (s.imageTaken image) := Eff.upd_boot Eff.refl rfl
    obtain ⟨hpop, hpres, hleave⟩ := (s.imageTaken image).setDram_entries image
    have hboot : (((s.imageTaken image).setDram image).startTraining).boot = (s.imageTaken image).boot :=
      (htrain.part .boot rfl).1.trans (hset.part .boot rfl).1
    refine ⟨by rw [hboot]; rfl, by rw [hboot]; rfl, (htrain.rd _ rfl).trans hpop, (htrain.rd _ rfl).trans hpres,
      (htrain.rd _ rfl).trans hleave, ?_⟩
    exact (htrain.after (hset.after (htaken.after Eff.refl rfl) rfl) rfl).frame
  case magic =>
    refine ⟨_, congrArg Host.Outcome.next ((bootHeaderRead_wrongMagic hd hp hm).trans (State.nextCopy_advances 3 hs)), ?_⟩
    obtain ⟨hstatus, hsource⟩ := s.sourceAdvanced_entries 3 src' l
    exact ⟨hstatus, hsource, rfl, rfl, (s.sourceAdvanced_eff 3 src' l).frame⟩
  case trained =>
    have hboot := State.trained_boot failed s [0, 1, 2, 3]
    have heff := State.trained_eff failed s [0, 1, 2, 3]
    refine ⟨_, congrArg Host.Outcome.next (dramTrainDone_passes hd hp hf), fun n hn hu => ?_, ?_, (Eff.upd_boot heff rfl).frame⟩
    · rw [State.rd_with_boot]
      exact State.trained_ready failed s _ hn (by simp; omega) hu (failedUsed_nil hf hn hu)
    · rw [hboot]
  case untrained =>
    have hdev := State.trainingFailed_dev (failed := failed) hd
    obtain ⟨hfault, hcode, -, hdata⟩ := (s.trainingFailed failed).fatal_record 2 (8 * 256 + n) n (by rw [hdev]; decide)
      (by rw [hdev]; decide)
    have hfatal := (s.trainingFailed failed).fatal_eff 2 (8 * 256 + n) n
    have heff : Eff (withSide [.boot, .memory]) [.all] s (s.trainingFailed failed) :=
      Eff.upd_boot (Eff.wr ((State.trained_eff ..).after Eff.refl rfl) rfl rfl) rfl
    refine ⟨_, congrArg Host.Outcome.next (dramTrainDone_fails hd hp hf), hfault, hcode, hdata, ?_, ?_,
      (hfatal.after (heff.after Eff.refl rfl) rfl).frame⟩
    · rw [hfatal.rd _ rfl, State.trainingFailed, State.rd_with_boot, State.rd_wr_self]
    · rw [(hfatal.part .boot rfl).1]
      rfl
  case zeroed =>
    exact ⟨_, congrArg Host.Outcome.next (dramZeroDone_zeroes hd hp), rfl, rfl, (Eff.upd_mem_boot Eff.refl rfl fun _ => rfl).frame⟩
  case payload =>
    have hput := s.payloadPut_eff payload
    by_cases hr : r = 1
    · subst hr
      obtain ⟨hstatus, hrun, hslot, hver⟩ := (s.payloadPut payload).imageAccepted_entries s.boot.image
      have hacc := (s.payloadPut payload).imageAccepted_eff s.boot.image
      refine ⟨_, congrArg Host.Outcome.next (payloadLoaded_accepts hd hp hl hg hk), hstatus, fun _ => ⟨rfl, rfl, rfl, hrun, hslot, hver, rfl⟩,
        fun h => absurd rfl h, (hacc.after (hput.after Eff.refl rfl) rfl).frame⟩
    · have hnext := (payloadLoaded_refuses hd hp hl hg hk hr).trans ((s.payloadPut payload).nextCopy_advances (src := src) r hs)
      obtain ⟨hstatus, hsource⟩ := (s.payloadPut payload).sourceAdvanced_entries r src' l
      exact ⟨_, congrArg Host.Outcome.next hnext, hstatus, fun h => absurd h hr, fun _ => ⟨hsource, rfl, rfl, rfl⟩,
        (((s.payloadPut payload).sourceAdvanced_eff r src' l).after (hput.after Eff.refl rfl) rfl).frame⟩

end Sys2Proof.Machine

/-! SUPPORT. Host boot, BootComplete, fuses and cores (O15): what each command leaves when it is served. -/

namespace Sys2Proof.Machine

-- The proofs of this part are checked one after another, in one thread.
set_option Elab.async false

/-! ### Bits of a word -/

theorem bitOf_setBits_eq (v m i : Nat) : bitOf (setBits v m) i = (bitOf v i || bitOf m i) := by
  simp [bitOf_eq_testBit, setBits, Nat.testBit_or]

theorem bitOf_two_pow_self (i : Nat) : bitOf (2 ^ i) i = true := by
  simp [bitOf_eq_testBit]

theorem bitOf_two_pow_ne {i j : Nat} (h : i ≠ j) : bitOf (2 ^ i) j = false := by
  simp [bitOf_eq_testBit, Nat.testBit_two_pow_of_ne h]

/-! ### Host boot and BootComplete (R25, R544, R545) -/

section
variable {a : Acc} {s : State}

theorem bootGoWrite_starts (hw : s.writeStatus a K.bhostBootGo = 0) (ho : s.bootHostOk = true) (hf : s.hostFetching = false)
    (hv : accVal a K.bhostBootGo = 1) (hp : s.boot.phase = .waitHost) :
    bootGoWrite a s = ({ s with boot := { s.boot with phase := .header } }).done a K.bhostBootGo 0 := by
  rw [bootGoWrite, State.act_ok hw (by simp [ho, hf]), if_pos ⟨hv, hp⟩]

theorem bootGoWrite_refused (hw : s.writeStatus a K.bhostBootGo = 0) (ho : s.bootHostOk = false) :
    bootGoWrite a s = s.done a K.bhostBootGo 8 := by
  rw [bootGoWrite, State.act_own hw (by simp [ho])]
  simp [ho]

/-- The boot time is shown, STOPPED is entered, and the watchdog counts from there. -/
def State.bootCompleted (s : State) : State :=
  { (s.wr K.bootBootTime s.time).enter stStopped with wdog := { since := s.now } }

theorem State.bootCompleted_eff (s : State) :
    Eff (withSide [.device, .boot]) (sideAnd [.one K.bootBootTime, .one K.devDeviceState, .one K.devStateChanges,
      .one K.devStateTime]) s s.bootCompleted :=
  Eff.upd_wdog ((State.enter_eff ..).after (Eff.refl.wr rfl rfl) rfl) rfl

/-- The watchdog's record holds no entry. -/
theorem State.rd_with_wdog (s : State) (w : Wdog) (k : Nat) : State.rd { s with wdog := w } k = s.rd k := rfl

theorem State.bootCompleted_entries (s : State) :
    s.bootCompleted.dev = stStopped ∧ s.bootCompleted.rd K.bootBootTime = s.time := by
  simp only [State.dev, State.bootCompleted, State.rd_with_wdog]
  refine ⟨State.enter_dev .., ?_⟩
  rw [(State.enter_eff ..).rd _ rfl, State.rd_wr_self]

theorem bootCompleteWrite_completes (hw : s.writeStatus a K.bootBootComplete = 0) (hv : accVal a K.bootBootComplete = 1)
    (hd : s.dev = stBoot) (hb : s.boot.accepted = true) :
    bootCompleteWrite a s = s.bootCompleted.done a K.bootBootComplete 0 := by
  rw [bootCompleteWrite, State.act_ok hw rfl, if_pos ⟨hv, hd, hb⟩]
  rfl

end

/-! ### The fuses (R546) -/

/-- A burn under way. -/
def State.burning (s : State) (b : Burn) : State := { s with fuses := { s.fuses with burn := some b } }

/-- A burn under way is no blown fuse. -/
theorem State.burning_eff (s : State) (b : Burn) : Eff [.fuses] [] s (s.burning b) :=
  Eff.refl.upd (qs := [.fuses]) rfl rfl (fun p hp => by cases p <;> simp_all [Part.same, State.burning])
    ⟨rfl, id, Nat.le_refl _, fun _ h => h, rfl⟩

section
variable {a : Acc} {s : State} (hb : s.fuses.burn = none)
include hb

theorem advanceSecurityVersionWrite_burns (hw : s.writeStatus a K.fuseAdvanceSecurityVersion = 0)
    (hv : s.fuses.version < accVal a K.fuseAdvanceSecurityVersion)
    (hi : accVal a K.fuseAdvanceSecurityVersion ≤ s.rd K.bootImageSecurityVersion) :
    advanceSecurityVersionWrite a s =
      (s.burning { revoke := false, value := accVal a K.fuseAdvanceSecurityVersion, due := s.now + ms 10 }).done a
        K.fuseAdvanceSecurityVersion 0 := by
  rw [advanceSecurityVersionWrite]
  refine State.act_ok hw ?_
  rw [if_neg (by omega)]
  simp [hb]

theorem revokeKeyWrite_burns (hw : s.writeStatus a K.fuseRevokeKey = 0) (hv : accVal a K.fuseRevokeKey ≤ 3)
    (hi : accVal a K.fuseRevokeKey ≠ s.rd K.bootKeySlotUsed) :
    revokeKeyWrite a s =
      (s.burning { revoke := true, value := accVal a K.fuseRevokeKey, due := s.now + ms 10 }).done a K.fuseRevokeKey 0 := by
  rw [revokeKeyWrite]
  refine State.act_ok hw ?_
  rw [if_neg (by omega)]
  simp [hb]

end

/-- A served access after which the fuses hold what its effect left. -/
theorem burning_done (s : State) (a : Acc) (k : Nat) (b : Burn) :
    ((s.burning b).done a k 0).fuses = { s.fuses with burn := some b } ∧ ((s.burning b).done a k 0).rd (K.pathLastStatus a.path) = 0 ∧
      Frame [.regs, .fuses] (okAnd a []) s ((s.burning b).done a k 0) :=
  ⟨((s.burning b).done_ok_record a k).part .fuses rfl, State.done_ok_status ..,
    (Eff.done_ok ((s.burning_eff b).after Eff.refl rfl) rfl).frame⟩

section
variable {s : State} {b : Burn} (hb : s.fuses.burn = some b)
include hb

/-- The version stands at the greater of the fused one and the one burnt. -/
theorem fuseBurnDone_version (hr : b.revoke = false) :
    fuseBurnDone s = { s.wr K.bootFusedSecurityVersion (max s.fuses.version b.value) with
      fuses := { s.fuses with version := max s.fuses.version b.value, burn := none } } := by
  simp [fuseBurnDone, hb, hr]

theorem fuseBurnDone_revokes (hr : b.revoke = true) :
    fuseBurnDone s = { s.wr K.bootKeyRevoked (setBits s.fuses.revoked (2 ^ b.value)) with
      fuses := { s.fuses with revoked := setBits s.fuses.revoked (2 ^ b.value), burn := none } } := by
  simp [fuseBurnDone, hb, hr]

end

/-- The fuses hold no entry. -/
theorem State.rd_with_fuses (s : State) (f : Fuses) (k : Nat) : State.rd { s with fuses := f } k = s.rd k := rfl

/-! ### Releasing cores (R557) -/

/-- A core that is released does not run yet. -/
def State.coreAsked (s : State) (v h : Nat) : Bool := bitOf v h && !s.bit K.coreCoresRunning h

/-- The cores' entry points hold no entry. -/
theorem State.rd_with_cores (s : State) (c : Tab Nat) (k : Nat) : State.rd { s with cores := c } k = s.rd k := rfl

section
variable (v : Nat) (s : State)

theorem releaseCore_entry (h : Nat) : (releaseCore v s h).rd K.coreCoreEntry = s.rd K.coreCoreEntry :=
  (releaseCore_eff ..).rd _ rfl

/-- A release adds its own core to those that run. -/
theorem releaseCore_running (h g : Nat) :
    (releaseCore v s h).bit K.coreCoresRunning g = (s.bit K.coreCoresRunning g || (s.coreAsked v h && bitOf (2 ^ h) g)) := by
  unfold releaseCore State.coreAsked
  split
  · next hc =>
    obtain ⟨hv, hr⟩ := hc
    rw [State.bit, State.rd_with_cores, State.rd_wr_self, bitOf_setBits_eq, hv, Bool.eq_false_iff.mpr hr]
    rfl
  · next hc =>
    cases hv : bitOf v h <;> cases hr : s.bit K.coreCoresRunning h <;> simp_all

theorem releaseCore_cores (h g : Nat) :
    tfind (releaseCore v s h).cores g =
      if g = h ∧ s.coreAsked v h = true then some (s.rd K.coreCoreEntry) else tfind s.cores g := by
  unfold releaseCore State.coreAsked
  split
  · next hc =>
    obtain ⟨hv, hr⟩ := hc
    simp only [tfind_tput, hv, hr]
    split <;> simp_all
  · next hc =>
    rw [if_neg]
    rintro ⟨-, hasked⟩
    simp_all

end

/-- The cores of a list are released, one after another. -/
def State.coresReleased (s : State) (v : Nat) (l : List Nat) : State := l.foldl (releaseCore v) s

section
variable {v h : Nat} (s : State) (l : List Nat)

theorem State.coresReleased_eff : Eff [.regs, .boot] [.one K.coreCoresRunning] s (s.coresReleased v l) :=
  Eff.foldl (fun _ _ hx => (releaseCore_eff ..).after hx rfl) Eff.refl

/-- A core that runs goes on from where it started. -/
theorem State.coresReleased_running (hr : s.bit K.coreCoresRunning h = true) :
    (s.coresReleased v l).bit K.coreCoresRunning h = true ∧ tfind (s.coresReleased v l).cores h = tfind s.cores h := by
  induction l generalizing s with
  | nil => exact ⟨hr, rfl⟩
  | cons g l ih =>
    have hrun : (releaseCore v s g).bit K.coreCoresRunning h = true := by rw [releaseCore_running, hr, Bool.true_or]
    obtain ⟨hbit, hcore⟩ := ih (releaseCore v s g) hrun
    refine ⟨hbit, hcore.trans ?_⟩
    rw [releaseCore_cores, if_neg]
    rintro ⟨rfl, hasked⟩
    simp [State.coreAsked, hr] at hasked

/-- A core that is asked for and does not run starts at CoreEntry. -/
theorem State.coresReleased_starts (hl : h ∈ l) (ha : s.coreAsked v h = true) :
    (s.coresReleased v l).bit K.coreCoresRunning h = true ∧
      tfind (s.coresReleased v l).cores h = some (s.rd K.coreCoreEntry) := by
  induction l generalizing s with
  | nil => cases hl
  | cons g l ih =>
    by_cases hg : h = g
    · subst hg
      have hrun : (releaseCore v s h).bit K.coreCoresRunning h = true := by
        rw [releaseCore_running, ha, bitOf_two_pow_self, Bool.and_true, Bool.or_true]
      obtain ⟨hbit, hcore⟩ := State.coresReleased_running (v := v) (releaseCore v s h) l hrun
      refine ⟨hbit, hcore.trans ?_⟩
      rw [releaseCore_cores, if_pos ⟨rfl, ha⟩]
    · have ha' : (releaseCore v s g).coreAsked v h = true := by
        rw [State.coreAsked, releaseCore_running, bitOf_two_pow_ne (Ne.symm hg), Bool.and_false, Bool.or_false]
        exact ha
      have hrest := ih (releaseCore v s g) ((List.mem_cons.mp hl).resolve_left hg) ha'
      rwa [releaseCore_entry] at hrest

end

/-- Settles O15: each served write is its effect and the record of the access; a burn's end blows its one fuse; the three releases are
taken one after another, and each core that is asked for and does not run starts at CoreEntry. -/
theorem bootEntryCommands : Obligations.BootEntryCommands := by
  refine ⟨fun a s hw ho hf hv hp => ?go, fun a s hw ho => congrArg Host.Outcome.next (bootGoWrite_refused hw ho),
    fun a s hw hv hd hb => ?complete, fun a s hw hv hi hb => ?advance, fun a s hw hv hi hb => ?revoke, fun b s hb => ?burnt,
    fun a s hw => ?release⟩
  case go =>
    have heff : Eff [.regs, .boot] [] s { s with boot := { s.boot with phase := .header } } := Eff.upd_boot Eff.refl rfl
    exact ⟨_, congrArg Host.Outcome.next (bootGoWrite_starts hw ho hf hv hp), ((State.done_ok_record ..).part .boot rfl).1,
      State.done_ok_status .., (heff.done_ok rfl).frame⟩
  case complete =>
    obtain ⟨hdev, htime⟩ := s.bootCompleted_entries
    have hdone := s.bootCompleted.done_ok_eff a K.bootBootComplete
    obtain ⟨-, -, -, -, hwdog, -⟩ := hdone.part .boot rfl
    have heff : Eff (withSide [.device, .boot]) (okAnd a (sideKeys ++ [.one K.bootBootTime, .one K.devDeviceState,
        .one K.devStateChanges, .one K.devStateTime])) s (s.bootCompleted.done a K.bootBootComplete 0) :=
      s.bootCompleted_eff.done_ok rfl
    exact ⟨_, congrArg Host.Outcome.next (bootCompleteWrite_completes hw hv hd hb), (hdone.rd _ rfl).trans hdev,
      (hdone.rd _ rfl).trans htime, hwdog, State.done_ok_status .., (okSide_eq a _ heff).frame⟩
  case advance =>
    exact ⟨_, congrArg Host.Outcome.next (advanceSecurityVersionWrite_burns hb hw hv hi), burning_done ..⟩
  case revoke =>
    exact ⟨_, congrArg Host.Outcome.next (revokeKeyWrite_burns hb hw hv hi), burning_done ..⟩
  case burnt =>
    have hframe := (execFuseBurnDone_eff s rfl).frame
    cases hr : b.revoke with
    | false =>
      have h := fuseBurnDone_version hb hr
      refine ⟨_, rfl, ?_, fun _ => ⟨?_, ?_, ?_⟩, fun h => absurd h (by simp), hframe⟩ <;> rw [h]
      rw [State.rd_with_fuses, State.rd_wr_self]
    | true =>
      have h := fuseBurnDone_revokes hb hr
      refine ⟨_, rfl, ?_, fun h => absurd h (by simp), fun _ => ⟨?_, ?_, ?_⟩, hframe⟩ <;> rw [h]
      · rw [bitOf_setBits_eq, bitOf_two_pow_self, Bool.or_true]
      · rw [State.rd_with_fuses, State.rd_wr_self]
  case release =>
    refine ⟨(s.coresReleased (accVal a K.coreCoreRelease) [1, 2, 3]).done a K.coreCoreRelease 0,
      congrArg Host.Outcome.next (State.act_ok hw rfl), fun h h1 h3 hv hr => ?_, State.done_ok_status ..,
      ((State.coresReleased_eff ..).done_ok rfl).frame⟩
    have hl : h ∈ [1, 2, 3] := by simp; omega
    have ha : s.coreAsked (accVal a K.coreCoreRelease) h = true := by simp [State.coreAsked, hv, hr]
    obtain ⟨hbit, hcore⟩ := s.coresReleased_starts [1, 2, 3] hl ha
    have hdone := (s.coresReleased (accVal a K.coreCoreRelease) [1, 2, 3]).done_ok_eff a K.coreCoreRelease
    obtain ⟨-, -, hcores, -⟩ := hdone.part .boot rfl
    exact ⟨by rw [State.bit, hdone.rd _ rfl]; exact hbit, by rw [hcores, hcore]⟩

end Sys2Proof.Machine

/-! SUPPORT. Items of a hardware queue (O1): what a written and an oversize item leave, and the lengths of a tag and of a padded record. -/

namespace Sys2Proof.Machine

-- The proofs of this part are checked one after another, in one thread.
set_option Elab.async false

/-! ### Lengths of byte strings -/

theorem leBytes_length (n v : Nat) : (leBytes n v).length = n := by
  induction n generalizing v with
  | zero => rfl
  | succ n ih => simp [leBytes, ih]

theorem timeBytes_length (t : Nat) : (timeBytes t).length = 10 := by simp [timeBytes, leBytes_length]

theorem tagBytes_length (id : Nat) (x : Tag) : (tagBytes id x).length = 64 := by
  simp [tagBytes, leBytes_length, timeBytes_length]

theorem padTo_length {n : Nat} {l : List Nat} (h : l.length ≤ n) : (padTo n l).length = n := by
  simp [padTo, h]

theorem padTo_take (n : Nat) (l : List Nat) : (padTo n l).take l.length = l := by simp [padTo]

/-! ### QUEUE_ITEM_WRITE (R370, R371) -/

/-- An oversize item is counted, flagged with its queue and raised; its bytes go nowhere. -/
def State.itemRefused (s : State) (q : Nat) : State :=
  ((s.inc 32 K.quesSizeErrors).flag (K.qsQueueStatus q) 1 116).raise Ev.qSizeError

section
variable {s : State} {q : Nat} {item : List Nat}

theorem State.offer_written (hl : item.length ≤ s.rd (K.qItemBytes q)) (hc : s.queCredits q ≠ 0) :
    s.offer q item = (.written, s.queueWritten q item) := by
  simp only [State.offer, Nat.not_lt.mpr hl, hc, and_false, if_false]
  rfl

theorem State.offer_oversize (he : s.on (K.qQueueEnable q) = true) (hl : s.rd (K.qItemBytes q) < item.length) :
    s.offer q item = (.sizeError, s.itemRefused q) := if_pos ⟨he, hl⟩

theorem State.itemRefused_eff (s : State) (q : Nat) :
    Eff sideParts (sideAnd [.one K.quesSizeErrors, .one (K.qsQueueStatus q)]) s (s.itemRefused q) :=
  (State.raise_eff ..).after (Eff.flag (Eff.refl.inc rfl rfl) (fits_of_subset (by decide) (List.subset_append_left _ _))
    (by simp [sideAnd, KeySet.has])) (fits_of_subset (by decide) (List.subset_append_left _ _))

/-- A whole item is written. -/
theorem State.queueWritten_que_self : (s.queueWritten q item).que q = s.quePutItem q item := by
  obtain ⟨hqueues, -, -⟩ := State.queueWritten_memory (s := s) (q := q) (bytes := item)
  rw [State.que, hqueues, tget_tput_self]

end

section
variable (s : State) {q : Nat} (hq : q < 64)

theorem State.itemRefused_que (q r : Nat) : (s.itemRefused q).que r = s.que r := (s.itemRefused_eff q).que r

theorem State.itemRefused_sizeErrors : (s.itemRefused q).rd K.quesSizeErrors = (s.rd K.quesSizeErrors + 1) % 2 ^ 32 := by
  rw [State.itemRefused, State.raise_rd, State.flag_rd_ne _ _ _ (ne_instKey _ rfl), State.rd_inc_self]

include hq

theorem State.itemRefused_status : (s.itemRefused q).bit (K.qsQueueStatus q) 0 = true := by
  rw [State.itemRefused, State.bit, State.raise_rd, State.flag, (State.arrive_eff ..).rd_inst hq, State.rd_wr_self]
  exact bitOf_setBits_new _ rfl

/-- The producers' credits are what they were. -/
theorem State.itemRefused_credits : (s.itemRefused q).queCredits q = s.queCredits q := by
  have heff : Eff sideParts (sideAnd [.one K.quesSizeErrors, .fam (K.qsQueueStatus 0) 64]) s (s.itemRefused q) :=
    (State.raise_eff ..).after (Eff.flag (Eff.refl.inc rfl rfl) rfl (KeySet.any_fam _ rfl)) rfl
  have henable : (s.itemRefused q).on (K.qQueueEnable q) = s.on (K.qQueueEnable q) := by
    rw [State.on, heff.rd_inst hq, State.on]
  rw [State.queCredits, henable, heff.rd_inst hq, State.bankSlots, heff.rd_inst hq, heff.rd_inst hq, State.itemRefused_que]
  rfl

end

/-- Settles O1: an item that fits and has a credit is written, an oversize one is refused before the credits are looked at, and the two
lengths follow. -/
theorem itemsFitTheirQueue : Obligations.ItemsFitTheirQueue := by
  refine ⟨fun q item s hq hl hc => ⟨s.queueWritten q item, ?_, State.queueWritten_que_self, State.queueWritten_itemsIn,
      fun r hr => State.queueWritten_que hr, State.queueWritten_eff.frame⟩,
    fun q item s hq he hl => ⟨s.itemRefused q, ?_, rfl, s.itemRefused_que q q, s.itemRefused_credits hq, s.itemRefused_sizeErrors,
      s.itemRefused_status hq, (s.itemRefused_eff q).frame⟩,
    tagBytes_length, fun l h => ⟨padTo_length (by omega), ?_⟩⟩
  · exact (inst_true (Nat.blt_eq.mpr hq)).trans (congrArg (fun x => Host.Outcome.next x.2) (State.offer_written hl hc))
  · exact (inst_true (Nat.blt_eq.mpr hq)).trans (congrArg (fun x => Host.Outcome.next x.2) (State.offer_oversize he hl))
  · rw [← h]
    exact padTo_take 64 l

end Sys2Proof.Machine

/-! SUPPORT. Control of the DMA channels (O44): what starting, a doorbell and a stop leave, and what each outcome of a descriptor's
fetch leaves in the channel, its entries and DRAM. -/

namespace Sys2Proof.Machine

-- The proofs of this part are checked one after another, in one thread.
set_option Elab.async false

/-! ### The DMA channels' records through a frame -/

section
variable {ps : List Part} {ks : List KeySet} {s t : State} (h : Eff ps ks s t) (hp : ps.contains .memory = false := by rfl)
include h hp

theorem Eff.dma (c : Nat) : t.dma c = s.dma c := by
  obtain ⟨-, -, hdmas⟩ := h.part .memory hp
  exact congrArg (fun l => tget ({} : Dma) l c) hdmas

theorem Eff.dramCh (c : Nat) : t.dramCh c = s.dramCh c := by
  obtain ⟨-, hdrams, -⟩ := h.part .memory hp
  exact congrArg (fun l => tget ({} : DramCh) l c) hdrams

end

theorem State.setDma_dma (s : State) {c d : Nat} (x : Dma) (h : d ≠ c) : (s.setDma c x).dma d = s.dma d := by
  rw [State.dma_setDma, if_neg h]

/-! ### DMA_GO and DOORBELL (R375, R380) -/

/-- A channel fetches from Start. -/
def State.dmaStarted (s : State) (c : Nat) : State :=
  (((s.setDma c {}).wr (K.dmasLastStatus c) 0).wr (K.dmasCurrentDesc c) (s.rd (K.dmasStart c))).wr (K.dmasChannelState c) 1

section
variable (s : State) (c : Nat)

theorem State.dmaStarted_entries : (s.dmaStarted c).rd (K.dmasLastStatus c) = 0 ∧
    (s.dmaStarted c).rd (K.dmasCurrentDesc c) = s.rd (K.dmasStart c) ∧ (s.dmaStarted c).rd (K.dmasChannelState c) = 1 := by
  unfold State.dmaStarted
  refine ⟨?_, ?_, State.rd_wr_self ..⟩
  · rw [State.rd_wr_ne _ _ (instKey_ne _ _), State.rd_wr_ne _ _ (instKey_ne _ _), State.rd_wr_self]
  · rw [State.rd_wr_ne _ _ (instKey_ne _ _), State.rd_wr_self]

theorem State.dmaStarted_dma (d : Nat) : (s.dmaStarted c).dma d = if d = c then {} else s.dma d := State.dma_setDma ..

theorem State.dmaStarted_eff : Eff [.regs, .memory] [.one (K.dmasLastStatus c), .one (K.dmasCurrentDesc c),
    .one (K.dmasChannelState c)] s (s.dmaStarted c) := by
  refine (((s.setDma_eff c {}).after Eff.refl ?_).wr rfl ?_).wr rfl ?_ |>.wr rfl ?_
  · exact fits_of_subset (by decide) (List.nil_subset _)
  all_goals simp [KeySet.has]

end

section
variable {a : Acc} {c : Nat} {s : State}

theorem dmaGoWrite_starts (hw : s.writeStatus a (K.dmasGo c) = 0) (hd : s.dmaState c = 0 ∨ s.dmaState c = 5)
    (hv : accVal a (K.dmasGo c) = 1) : dmaGoWrite a c s = (s.dmaStarted c).done a (K.dmasGo c) 0 := by
  rw [dmaGoWrite]
  refine (State.act_ok hw (if_pos hd)).trans ?_
  rw [if_neg (by simp [hv])]
  rfl

theorem dmaGoWrite_busy (hw : s.writeStatus a (K.dmasGo c) = 0) (h0 : s.dmaState c ≠ 0) (h5 : s.dmaState c ≠ 5) :
    dmaGoWrite a c s = s.done a (K.dmasGo c) 13 := by
  have hown : (if s.dmaState c = 0 ∨ s.dmaState c = 5 then 0 else 13) = 13 := if_neg (by simp [h0, h5])
  rw [dmaGoWrite, hown]
  exact State.act_own hw (by decide)

theorem doorbellWrite_wakes (hw : s.writeStatus a (K.dmasDoorbell c) = 0) (hv : accVal a (K.dmasDoorbell c) = 1)
    (hd : s.dmaState c = 4) : doorbellWrite a c s = (s.wr (K.dmasChannelState c) 1).done a (K.dmasDoorbell c) 0 := by
  rw [doorbellWrite, State.act_ok hw rfl, if_pos ⟨hv, hd⟩]

theorem dmaAbortWrite_stops (hw : s.writeStatus a (K.dmasAbort c) = 0) (hv : accVal a (K.dmasAbort c) = 1) :
    dmaAbortWrite a c s = (s.dmaStop c).done a (K.dmasAbort c) 0 := by
  rw [dmaAbortWrite, State.act_ok hw rfl, if_pos hv]

end

/-! ### The end of a descriptor (R374, R378 to R380) -/

section
variable (s : State) (c st : Nat) (x : Dma)

/-- After the write-back a descriptor's end writes its channel's entries, and releases the queue it has claimed. -/
theorem State.dmaEnd_after_writeback :
    Eff [.regs] [.fam (K.dmasLastStatus 0) 32, .fam (K.dmasCompletions 0) 32, .fam (K.qsConsumer 0) 64]
      (s.dmaWriteback c st x.moved) (s.dmaEnd c st x) := by
  unfold State.dmaEnd
  extract_lets y z
  have hz : Eff [.regs] [.fam (K.dmasLastStatus 0) 32, .fam (K.dmasCompletions 0) 32, .fam (K.qsConsumer 0) 64] y z :=
    (Eff.refl.wr rfl (KeySet.any_fam _ rfl)).inc rfl (KeySet.any_fam _ rfl)
  split
  · exact Eff.ite (hz.wr rfl (KeySet.any_fam _ rfl)) hz
  · exact hz

/-- A descriptor's end shows its status, is counted, and releases at most one queue. -/
theorem State.dmaEnd_entries (hc : c < 32) : (s.dmaEnd c st x).rd (K.dmasLastStatus c) = st ∧
    (s.dmaEnd c st x).rd (K.dmasCompletions c) = (s.rd (K.dmasCompletions c) + 1) % 2 ^ 32 := by
  have hback := (s.dmaWriteback_eff c st x.moved).rd_inst (b := 0x42E009) hc
  unfold State.dmaEnd
  extract_lets y z
  have hz : z.rd (K.dmasLastStatus c) = st ∧ z.rd (K.dmasCompletions c) = (s.rd (K.dmasCompletions c) + 1) % 2 ^ 32 := by
    refine ⟨?_, ?_⟩
    · rw [State.rd_inc_ne _ _ (instKey_ne _ _), State.rd_wr_self]
    · rw [State.rd_inc_self, State.rd_wr_ne _ _ (instKey_ne _ _), hback]
  have hrelease : ∀ q, Eff [.regs] [.fam (K.qsConsumer 0) 64] z (z.wr (K.qsConsumer q) 255) :=
    fun q => Eff.refl.wr rfl (KeySet.any_fam _ rfl)
  split
  · split
    · rw [(hrelease _).rd_inst hc, (hrelease _).rd_inst hc]
      exact hz
    · exact hz
  · exact hz

/-- The write-back reaches 16 bytes from the descriptor's Status on. -/
theorem State.dmaWriteback_mem_out (bytes : Nat) {n : Nat} (hm : s.memOk)
    (hn : ¬ (s.rd (K.dmasCurrentDesc c) + 32 ≤ n ∧ n < s.rd (K.dmasCurrentDesc c) + 48)) :
    memGet (s.dmaWriteback c st bytes).mem n = memGet s.mem n := by
  unfold State.dmaWriteback
  extract_lets a
  split
  · unfold State.blockWrite
    split
    · exact memGet_memPuts_out _ hm (by simp only [List.length_append, leBytes_length, List.length_cons, List.length_nil]; omega)
    · rw [(State.mapError_eff ..).part .mem rfl]
  · rfl

theorem State.dmaEnd_mem : (s.dmaEnd c st x).mem = (s.dmaWriteback c st x.moved).mem :=
  (s.dmaEnd_after_writeback c st x).part .mem rfl

end

/-! ### DMA_ABORT (R380) -/

section
variable (s : State) (c : Nat)

/-- A channel at rest. -/
def State.dmaIdle (s : State) (c : Nat) : State := (s.setDma c {}).wr (K.dmasChannelState c) 0

theorem State.dmaIdle_state : (s.dmaIdle c).rd (K.dmasChannelState c) = 0 := State.rd_wr_self ..

theorem State.dmaIdle_dma (d : Nat) : (s.dmaIdle c).dma d = if d = c then {} else s.dma d := State.dma_setDma ..

theorem State.dmaIdle_eff : Eff [.regs, .memory] [.one (K.dmasChannelState c)] s (s.dmaIdle c) :=
  ((s.setDma_eff c {}).after Eff.refl (fits_of_subset (by decide) (List.nil_subset _))).wr rfl (by simp [KeySet.has])

variable {s} {c}

theorem State.dmaStop_idle (h : s.dmaState c = 1 ∨ s.dmaState c = 4) : s.dmaStop c = s.dmaIdle c := by
  rw [State.dmaStop, if_neg (by omega), if_pos h]
  rfl

/-- What a channel with a descriptor in hand stops with: the bytes of the plan it had moved, if it was moving. -/
def State.dmaCut (s : State) (c : Nat) : State := if s.dmaState c = 2 then s.dmaPartial c else s

theorem State.dmaStop_aborts (h : s.dmaState c = 2 ∨ s.dmaState c = 3) :
    s.dmaStop c = (((s.dmaCut c).dmaEnd c 8 ((s.dmaCut c).dma c)).dmaDone c ((s.dmaCut c).dma c)).dmaIdle c := if_pos h

theorem State.dmaCut_completions (hc : c < 32) : (s.dmaCut c).rd (K.dmasCompletions c) = s.rd (K.dmasCompletions c) := by
  unfold State.dmaCut
  split
  · exact (State.dmaPartial_eff ..).rd_inst hc
  · rfl

/-- A descriptor in hand ends ABORTED and is counted. -/
theorem State.dmaStop_entries (hc : c < 32) (h : s.dmaState c = 2 ∨ s.dmaState c = 3) :
    (s.dmaStop c).rd (K.dmasLastStatus c) = 8 ∧
      (s.dmaStop c).rd (K.dmasCompletions c) = (s.rd (K.dmasCompletions c) + 1) % 2 ^ 32 := by
  have hidle : ∀ (y : State) {b : Nat}, b % 256 ≠ 5 → (y.dmaIdle c).rd (instKey b 32 c) = y.rd (instKey b 32 c) :=
    fun y b hb => State.rd_wr_ne _ _ (instKey_ne _ _ hb)
  obtain ⟨hstatus, hcount⟩ := (s.dmaCut c).dmaEnd_entries c 8 ((s.dmaCut c).dma c) hc
  rw [State.dmaStop_aborts h, hidle _ (by decide), hidle _ (by decide), (State.dmaDone_eff ..).rd_inst hc,
    (State.dmaDone_eff ..).rd_inst hc, hstatus, hcount, State.dmaCut_completions hc]
  exact ⟨rfl, rfl⟩

end

/-! ### DESC_FETCH (R375) -/

/-- A descriptor that passes its checks claims its queue. -/
def State.descTaken (u : State) (c : Nat) (x : Dma) : State :=
  let v := u.setDma c x
  let w := match x.queue with | some q => v.wr (K.qsConsumer q) c | none => v
  w.wr (K.dmasChannelState c) (if x.queue.isNone ∨ x.burst ≠ 0 then 2 else 3)

/-- The descriptor that 64 bytes spell (R374). -/
def descOf (l : List Nat) (burst : Nat) : Dma :=
  { ctrl := leAt l 0 4, length := leAt l 4 4, src := leAt l 8 8, dst := leAt l 16 8, next := leAt l 24 8, burst := burst }

section
variable {s u : State} {c : Nat} {l : List Nat} {x : Dma} (hs : s.rd (K.dmasChannelState c) = 1)
  (hr : s.blockRead 8 (s.rd (K.dmasCurrentDesc c)) 64 = (l, u))
  (hx : x = descOf l (s.dma c).burst)
  (hd : s.inDram (s.rd (K.dmasCurrentDesc c)) 64 = true)
include hr hd

/-- A descriptor in DRAM is read through port 8. -/
theorem descFetch_read : u = s.add 64 (K.portBytesRead 8) 64 := by
  simp only [State.blockRead, hd, Bool.true_or, if_true, Prod.mk.injEq] at hr
  exact hr.2.symm

theorem descFetch_read_inDram : u.inDram (s.rd (K.dmasCurrentDesc c)) 64 = true := by
  rw [descFetch_read hr hd, State.inDram, State.add, State.rd_wr_ne _ _ (by decide)]
  exact hd

include hs hx

/-- The three ends of a fetch of a descriptor in DRAM: it is not VALID, passes its checks, or fails one. -/
theorem descFetch_inDram : descFetch c s =
    if bitOf x.ctrl 0 = false then (u.setDma c { burst := (s.dma c).burst }).wr (K.dmasChannelState c) 4
    else if u.descCheck c x = 0 then u.descTaken c x else u.dmaError c (u.descCheck c x) x := by
  have hin := descFetch_read_inDram hr hd
  rw [descFetch, if_neg (by simp [State.dmaState, hs])]
  simp only [hr, hin, not_true_eq_false, if_false]
  change (if ¬ bitOf (descOf l (s.dma c).burst).ctrl 0 = true then _ else
    match u.descCheck c (descOf l (s.dma c).burst) with | 0 => _ | st => _) = _
  rw [← hx]
  cases hb : bitOf x.ctrl 0
  · rfl
  · simp only [not_true_eq_false, if_false, Bool.true_eq_false]
    cases hk : u.descCheck c x
    · subst hx
      rfl
    · subst hx
      rfl

end

/-! ### An error's end (R375, R379) -/

section
variable (s : State) (c st : Nat) (x : Dma)

/-- The records of an error's end come after the channel has halted. -/
theorem State.dmaError_halted :
    Eff sideParts sideKeys (((((s.dmaEnd c st x).inc 32 (K.dmasErrorCount c)).setDma c { x with burst := 0, haltedOnError := true }).wr
      (K.dmasChannelState c) 5)) (s.dmaError c st x) := by
  unfold State.dmaError
  extract_lets y z w
  have hw : Eff sideParts sideKeys z w := Eff.ite ((State.witness_eff ..).after Eff.refl rfl) Eff.refl
  exact (State.raise_eff ..).after (hw.arrive rfl) rfl

/-- An error's end halts the channel with its status, and is counted. -/
theorem State.dmaError_entries (hc : c < 32) : (s.dmaError c st x).rd (K.dmasLastStatus c) = st ∧
    (s.dmaError c st x).rd (K.dmasChannelState c) = 5 ∧
    (s.dmaError c st x).rd (K.dmasErrorCount c) = (s.rd (K.dmasErrorCount c) + 1) % 2 ^ 32 := by
  have hend := s.dmaError_halted c st x
  refine ⟨?_, ?_, ?_⟩
  · rw [hend.rd_inst hc, State.rd_wr_ne _ _ (instKey_ne _ _)]
    exact (State.rd_inc_ne _ _ (instKey_ne _ _)).trans (s.dmaEnd_entries c st x hc).1
  · rw [hend.rd_inst hc, State.rd_wr_self]
  · rw [hend.rd_inst hc, State.rd_wr_ne _ _ (instKey_ne _ _)]
    refine (State.rd_inc_self ..).trans ?_
    rw [(s.dmaEnd_eff c st x).rd_inst hc]

theorem State.dmaError_dma {d : Nat} (h : d ≠ c) : (s.dmaError c st x).dma d = s.dma d := by
  rw [(s.dmaError_halted c st x).dma rfl d]
  refine (State.setDma_dma _ _ h).trans ?_
  exact (s.dmaEnd_eff c st x).dma rfl d

theorem State.dmaError_mem : (s.dmaError c st x).mem = (s.dmaWriteback c st x.moved).mem :=
  ((s.dmaError_halted c st x).part .mem rfl).trans (s.dmaEnd_mem c st x)

end

section
variable (u : State) (c : Nat) (x : Dma)

theorem State.descTaken_eff : Eff [.regs, .memory] [.one (K.dmasChannelState c), .fam (K.qsConsumer 0) 64] u (u.descTaken c x) := by
  have hset : Eff [.regs, .memory] [.one (K.dmasChannelState c), .fam (K.qsConsumer 0) 64] u (u.setDma c x) :=
    (u.setDma_eff c x).after Eff.refl (fits_of_subset (by decide) (List.nil_subset _))
  unfold State.descTaken
  extract_lets v w
  have hw : Eff [.regs, .memory] [.one (K.dmasChannelState c), .fam (K.qsConsumer 0) 64] u w := by
    unfold w
    split
    · exact hset.wr rfl (KeySet.any_fam _ (by simp))
    · exact hset
  exact hw.wr rfl (by simp [KeySet.has])

theorem State.descTaken_dma (d : Nat) : (u.descTaken c x).dma d = if d = c then x else u.dma d := by
  unfold State.descTaken
  extract_lets v w
  have hw : Eff [.regs] [.fam (K.qsConsumer 0) 64] v w := by
    unfold w
    split
    · exact Eff.refl.wr rfl (KeySet.any_fam _ rfl)
    · exact Eff.refl
  exact (hw.dma rfl d).trans (State.dma_setDma ..)

theorem State.descTaken_consumer {q : Nat} (hq : x.queue = some q) : (u.descTaken c x).rd (K.qsConsumer q) = c := by
  unfold State.descTaken
  extract_lets v w
  have hw : w = v.wr (K.qsConsumer q) c := by
    unfold w
    rw [hq]
  rw [State.rd_wr_ne _ _ (instKey_ne _ _), hw, State.rd_wr_self]

end

/-- Settles O44: each served write is its effect and the record of the access, and a fetch of a descriptor in DRAM has three ends, by
VALID and by the descriptor's check. -/
theorem dmaControlCommands : Obligations.DmaControlCommands := by
  refine ⟨fun a c s hw hc hd hv => ?go, fun a c s hc hw h0 h5 => ?busy, fun a c s hw hc hv hd => ?wake,
    fun a c s hw hc hv hd => ?idle, fun a c s hw hc hv hd => ?cut, fun c l x u s hc hs hr hx hd hb hk => ?taken,
    fun c l x u s hc hs hr hx hd hb => ?waits, fun c st l x u s hc hs hr hx hd hb hk hst hm => ?halts⟩
  case go =>
    have hdone := (s.dmaStarted c).done_ok_eff a (K.dmasGo c)
    obtain ⟨hstatus, hdesc, hstate⟩ := s.dmaStarted_entries c
    refine ⟨_, (inst_true (Nat.blt_eq.mpr hc)).trans (congrArg Host.Outcome.next (dmaGoWrite_starts hw hd hv)), ?_, ?_, ?_, ?_,
      fun d hne => ?_, State.done_ok_status .., ((s.dmaStarted_eff c).done_ok rfl).frame⟩
    · rw [hdone.dma rfl, State.dmaStarted_dma, if_pos rfl]
    · rw [hdone.rd_inst hc, hstatus]
    · rw [hdone.rd_inst hc, hdesc]
    · rw [hdone.rd_inst hc, hstate]
    · rw [hdone.dma rfl, State.dmaStarted_dma, if_neg hne]
  case busy =>
    exact (inst_true (Nat.blt_eq.mpr hc)).trans (congrArg Host.Outcome.next (dmaGoWrite_busy hw h0 h5))
  case wake =>
    have heff : Eff [.regs] [.one (K.dmasChannelState c)] s (s.wr (K.dmasChannelState c) 1) :=
      Eff.refl.wr rfl (by simp [KeySet.has])
    refine ⟨_, (inst_true (Nat.blt_eq.mpr hc)).trans (congrArg Host.Outcome.next (doorbellWrite_wakes hw hv hd)), ?_,
      State.done_ok_status .., (heff.done_ok rfl).frame⟩
    rw [(State.done_ok_eff ..).rd_inst hc, State.rd_wr_self]
  case idle =>
    have hdone := (s.dmaIdle c).done_ok_eff a (K.dmasAbort c)
    have hexec := dmaAbortWrite_stops hw hv
    rw [State.dmaStop_idle hd] at hexec
    refine ⟨_, (inst_true (Nat.blt_eq.mpr hc)).trans (congrArg Host.Outcome.next hexec), ?_, ?_, fun d hne => ?_,
      State.done_ok_status .., ((s.dmaIdle_eff c).done_ok rfl).frame⟩
    · rw [hdone.rd_inst hc, State.dmaIdle_state]
    · rw [hdone.dma rfl, State.dmaIdle_dma, if_pos rfl]
    · rw [hdone.dma rfl, State.dmaIdle_dma, if_neg hne]
  case cut =>
    have hdone := (s.dmaStop c).done_ok_eff a (K.dmasAbort c)
    obtain ⟨hstatus, hcount⟩ := State.dmaStop_entries hc hd
    refine ⟨_, (inst_true (Nat.blt_eq.mpr hc)).trans (congrArg Host.Outcome.next (dmaAbortWrite_stops hw hv)), ?_, ?_, ?_, ?_,
      State.done_ok_status .., (okSide_eq a _ ((s.dmaStop_eff c).done_ok rfl)).frame⟩
    · rw [hdone.rd_inst hc, State.dmaStop_aborts hd, State.dmaIdle_state]
    · rw [hdone.dma rfl, State.dmaStop_aborts hd, State.dmaIdle_dma, if_pos rfl]
    · rw [hdone.rd_inst hc, hstatus]
    · rw [hdone.rd_inst hc, hcount]
  all_goals
    have hread := descFetch_read hr hd
    have hadd : Eff [.regs] [.one (K.portBytesRead 8)] s u := by
      rw [hread]
      exact Eff.refl.add rfl (by simp [KeySet.has])
    have hfetch := descFetch_inDram hs hr hx hd
  case taken =>
    rw [if_neg (by simp [hb]), if_pos hk] at hfetch
    have heff : Eff [.regs, .memory] [.one (K.portBytesRead 8), .one (K.dmasChannelState c), .fam (K.qsConsumer 0) 64] s
        (u.descTaken c x) :=
      (u.descTaken_eff c x).after (hadd.after Eff.refl (fits_of_subset (by decide) (by simp))) (fits_of_subset (by decide) (by simp))
    refine ⟨_, (inst_true (Nat.blt_eq.mpr hc)).trans (congrArg Host.Outcome.next hfetch), ?_, State.rd_wr_self ..,
      fun q hq => State.descTaken_consumer u c x hq, heff.part .mem rfl, fun d hne => ?_, heff.frame⟩
    · rw [State.descTaken_dma, if_pos rfl]
    · rw [State.descTaken_dma, if_neg hne, hadd.dma rfl]
  case waits =>
    rw [if_pos hb] at hfetch
    have heff : Eff [.regs, .memory] [.one (K.portBytesRead 8), .one (K.dmasChannelState c)] s
        ((u.setDma c { burst := (s.dma c).burst }).wr (K.dmasChannelState c) 4) :=
      ((u.setDma_eff c _).after (hadd.after Eff.refl (fits_of_subset (by decide) (by simp)))
        (fits_of_subset (by decide) (List.nil_subset _))).wr rfl (by simp [KeySet.has])
    refine ⟨_, (inst_true (Nat.blt_eq.mpr hc)).trans (congrArg Host.Outcome.next hfetch), State.rd_wr_self .., ?_, fun d hne => ?_,
      heff.frame⟩
    · exact (State.dma_setDma ..).trans (if_pos rfl)
    · exact ((State.dma_setDma ..).trans (if_neg hne)).trans (hadd.dma rfl d)
  case halts =>
    rw [if_neg (by simp [hb]), if_neg (by rw [hk]; exact hst), hk] at hfetch
    have hexec : exec (.descFetch c) s = .next (u.dmaError c st x) :=
      (inst_true (Nat.blt_eq.mpr hc)).trans (congrArg Host.Outcome.next hfetch)
    have hmem : u.mem = s.mem := hadd.part .mem rfl
    have hdesc : u.rd (K.dmasCurrentDesc c) = s.rd (K.dmasCurrentDesc c) := hadd.rd_inst hc
    obtain ⟨hstatus, hstate, hcount⟩ := u.dmaError_entries c st x hc
    refine ⟨_, hexec, hstatus, fun n hn => ?_, hstate, ?_, fun d hne => ?_, (execDescFetch_eff c s hexec).frame⟩
    · rw [State.dmaError_mem, State.dmaWriteback_mem_out u c st x.moved (by rw [State.memOk, hmem]; exact hm) (by rw [hdesc]; exact hn),
        hmem]
    · rw [hcount, hadd.rd_inst hc]
    · rw [State.dmaError_dma u c st x hne, hadd.dma rfl]

end Sys2Proof.Machine

/-! SUPPORT. The colour loop's windows and folds (O40): the end of a window that moves no lamp, and what a fold shows. -/

namespace Sys2Proof.Machine

-- The proofs of this part are checked one after another, in one thread.
set_option Elab.async false

/-! ### What the rotation reads -/

theorem Eff.domLe {ps : List Part} {ks : List KeySet} {s t : State} (h : Eff ps ks s t) (k off n : Nat)
    (hp : ps.contains .domains = false := by rfl) : t.domLe k off n = s.domLe k off n := by
  obtain ⟨hdom, -⟩ := h.part .domains hp
  simp only [State.domLe, State.domBytes, State.domByte, hdom]

theorem Eff.apprValid {ps : List Part} {ks : List KeySet} {s t : State} (h : Eff ps ks s t) (n : Nat)
    (hp : ps.contains .domains = false := by rfl) : t.apprValid n = s.apprValid n := by
  rw [State.apprValid, State.apprValid, h.domLe _ _ _ hp]

theorem Eff.loopSlots {ps : List Part} {ks : List KeySet} {s t : State} (h : Eff ps ks s t)
    (hp : ps.contains .domains = false := by rfl) (hslots : t.rd K.loopLoopSlots = s.rd K.loopLoopSlots)
    (hch : ∀ i, i < 8 → t.rd (K.lawMeasChannel i) = s.rd (K.lawMeasChannel i)) : t.loopSlots = s.loopSlots := by
  refine List.filter_congr fun i hi => ?_
  rw [State.bit, State.bit, hslots, State.measCh, State.measCh, hch i (List.mem_range.mp hi), State.absorb, State.absorb,
    h.domLe _ _ _ hp]

/-! ### The parts of a window's end (R329, R332, R338, R346) -/

section
variable {s : State}

/-- No write waits. -/
def State.windowRetried (s : State) : State := s.setLoop { s.loop with retry := [], reflHold := false }

theorem State.windowRetried_eff (s : State) : Eff [.loop] [] s s.windowRetried := State.setLoop_eff ..

theorem State.windowRetried_next (s : State) : s.windowRetried.loopNext s.windowRetried.loop.slot = s.loopNext s.loop.slot := by
  have hslots : s.windowRetried.loopSlots = s.loopSlots :=
    s.windowRetried_eff.loopSlots rfl (s.windowRetried_eff.rd _ rfl) fun i _ => s.windowRetried_eff.rd (K.lawMeasChannel i) rfl
  have hslot : s.windowRetried.loop.slot = s.loop.slot := rfl
  rw [hslot]
  unfold State.loopNext
  rw [hslots]

theorem State.loopRetry_nil (h : s.loop.retry = []) : s.loopRetry = s.windowRetried := by
  simp [State.loopRetry, State.windowRetried, h, distinct]

theorem State.setLoop_lampWait (h : s.loop.lampWait = []) : s.setLoop { s.loop with lampWait := [] } = s := by
  have hloop : ({ s.loop with lampWait := [] } : Loop) = s.loop := by rw [← h]
  rw [hloop]
  rfl

/-- A lamp whose camera has no reference in the ApprovalSet does not move. -/
theorem State.lampEnd_still {n : Nat} (hr : s.loop.retry = []) (hw : s.loop.lampWait = []) (hv : s.apprValid n = false) :
    s.lampEnd n = s := by
  have hgone : s.setLoop { s.loop with lampWait := terase s.loop.lampWait n } = s := by
    rw [hw]
    exact State.setLoop_lampWait hw
  unfold State.lampEnd
  extract_lets wait src x
  have hx : x = s := hgone
  have hwait : wait = 0 := by simp [wait, hw, tget, tfind]
  rw [hr, List.any_nil, if_neg (by simp), hwait, if_neg (by decide), hx, State.lampWant, if_pos (by simp [hv])]

theorem State.lampEnd_foldl_still (l : List Nat) (hr : s.loop.retry = []) (hw : s.loop.lampWait = [])
    (hv : ∀ n ∈ l, s.apprValid n = false) : l.foldl State.lampEnd s = s := by
  induction l with
  | nil => rfl
  | cons n l ih =>
    rw [List.foldl_cons, State.lampEnd_still hr hw (hv n (List.mem_cons_self ..))]
    exact ih fun m hm => hv m (List.mem_cons_of_mem _ hm)

end

/-- The strips, their worst and the holds are shown. -/
def State.windowShown (s : State) : State :=
  ((List.range 8).foldl State.showStrips ((List.range (s.rd K.loopStripCount)).foldl State.stripEnd s)).showHolds

/-- The fold of the window just closed begins, and the window is counted. -/
def State.windowCounted (s : State) : State :=
  let t := s.windowShown.foldStart false
  t.wr K.loopsWindow (ofI 64 (t.rdI 64 K.loopsWindow + 1))

section
variable (s : State)

theorem State.windowShown_eff : Eff sideParts (sideAnd [.one K.loopsStatus, .fam (K.stripStripMean 0) 16, .fam (K.stripStripErr 0) 16,
    .fam (K.lslotStripErrMax 0) 8, .fam (K.lslotWorstStrip 0) 8, .fam (K.lslotHoldReason 0) 8]) s s.windowShown := by
  have hstrips : Eff [.regs] [.fam (K.stripStripErr 0) 16, .fam (K.stripStripMean 0) 16] s
      ((List.range (s.rd K.loopStripCount)).foldl State.stripEnd s) :=
    Eff.foldl (fun _ _ hx => (State.stripEnd_eff ..).after hx rfl) Eff.refl
  have hworst : ∀ x : State, Eff [.regs] [.fam (K.lslotStripErrMax 0) 8, .fam (K.lslotWorstStrip 0) 8] x
      ((List.range 8).foldl State.showStrips x) :=
    fun x => Eff.foldl (fun _ _ hx => (State.showStrips_eff ..).after hx rfl) Eff.refl
  exact (State.showHolds_eff ..).after ((hworst _).after (hstrips.after Eff.refl rfl) rfl) rfl

theorem State.windowCounted_eff : Eff (withSide [.loop]) (sideAnd [.one K.loopsWindow, .one K.loopsFoldLate, .one K.loopsStatus,
    .fam (K.stripStripMean 0) 16, .fam (K.stripStripErr 0) 16, .fam (K.lslotStripErrMax 0) 8, .fam (K.lslotWorstStrip 0) 8,
    .fam (K.lslotHoldReason 0) 8]) s s.windowCounted :=
  ((State.foldStart_eff ..).after (s.windowShown_eff.after Eff.refl rfl) rfl).wr rfl rfl

/-- Starting a fold leaves the window's band and slot. -/
theorem State.foldStart_window (cap : Bool) : (s.foldStart cap).loop.band0 = s.loop.band0 ∧ (s.foldStart cap).loop.slot = s.loop.slot := by
  have hlate : ((s.inc 32 K.loopsFoldLate).flag K.loopsStatus 4096 110).loop = s.loop :=
    (show Eff sideParts (sideAnd [.one K.loopsFoldLate, .one K.loopsStatus]) s _ from
      (Eff.refl.inc rfl rfl).flag rfl rfl).part .loop rfl
  unfold State.foldStart
  split
  · exact ⟨rfl, rfl⟩
  · split
    · rw [hlate]
      exact ⟨rfl, rfl⟩
    · split
      · exact ⟨rfl, rfl⟩
      · exact ⟨rfl, rfl⟩

theorem State.windowCounted_window :
    s.windowCounted.loop.band0 = s.loop.band0 ∧ s.windowCounted.loop.slot = s.loop.slot := by
  obtain ⟨hband, hslot⟩ := s.windowShown.foldStart_window false
  have hloop : s.windowShown.loop = s.loop := s.windowShown_eff.part .loop rfl
  rw [hloop] at hband hslot
  rw [State.windowCounted, State.wr_loop]
  exact ⟨hband, hslot⟩

theorem State.windowCounted_count : s.windowCounted.rd K.loopsWindow = ofI 64 (s.rdI 64 K.loopsWindow + 1) := by
  have hfold : (s.windowShown.foldStart false).rd K.loopsWindow = s.rd K.loopsWindow :=
    ((s.windowShown.foldStart_eff false).rd _ rfl).trans (s.windowShown_eff.rd _ rfl)
  rw [State.windowCounted, State.rd_wr_self, State.rdI, State.rdI, hfold]

theorem State.windowCounted_next : s.windowCounted.loopNext s.windowCounted.loop.slot = s.loopNext s.loop.slot := by
  have hslots : s.windowCounted.loopSlots = s.loopSlots :=
    s.windowCounted_eff.loopSlots rfl (s.windowCounted_eff.rd _ rfl) fun i hi =>
      s.windowCounted_eff.rd (K.lawMeasChannel i) (by revert i; decide)
  rw [s.windowCounted_window.2]
  unfold State.loopNext
  rw [hslots]

end

/-- A window begins with its first band and empty sums. -/
theorem State.windowOpen_window (s : State) (band : Int) :
    (s.windowOpen band).loop.open_ = true ∧ (s.windowOpen band).loop.band0 = band ∧
    (s.windowOpen band).loop.slot = s.loopNext s.loop.slot ∧ (s.windowOpen band).loop.white = [] ∧
    (s.windowOpen band).loop.diode = [] ∧ (s.windowOpen band).loop.strips = [] :=
  ⟨rfl, rfl, rfl, rfl, rfl, rfl⟩

/-- A window's end outside a capture, with no write waiting and no lamp to move. -/
theorem State.windowEnd_still {s : State} (hstate : s.loopState ≠ 2) (hr : s.loop.retry = []) (hw : s.loop.lampWait = [])
    (hv : ∀ n, n < 12 → s.apprValid n = false) :
    s.windowEnd = s.windowRetried.windowCounted.windowOpen
      (s.loop.band0 + s.rd K.loopLoopBands) := by
  have hlamps : (List.range 12).foldl State.lampEnd s.windowRetried = s.windowRetried :=
    State.lampEnd_foldl_still _ rfl hw fun n hn => (s.windowRetried_eff.apprValid n).trans (hv n (List.mem_range.mp hn))
  have heff := s.windowRetried.windowCounted_eff
  unfold State.windowEnd
  extract_lets cap s1 s2 s3 s4 s5 s6 s7 s8
  have hcap : cap = false := by simp [cap, hstate]
  have h2 : s2 = s.windowRetried := by
    unfold s2 s1
    rw [State.loopRetry_nil hr, hlamps]
  have h5 : s5 = s.windowRetried.windowShown.foldStart false := by
    unfold s5 s4 s3
    rw [h2, hcap]
    rfl
  have h6 : s6 = s5 := if_neg (by simp [hcap])
  have h7 : s7 = s.windowRetried.windowCounted := by
    unfold s7
    rw [h6, h5]
    rfl
  have h8 : s8 = s7 := if_pos (by rw [h7, State.loopState, heff.rd _ rfl]; exact hstate)
  rw [h8, h7, s.windowRetried.windowCounted_window.1, heff.rd _ rfl]
  rfl

/-! ### A fold's end (R338) -/

/-- The state in which a fold takes its nozzles: the fold is over, and a slot's first capture fold has taken the live knots. -/
def State.foldBegun (s : State) (f : LoopFold) : State :=
  if f.first then (s.setLoop { s.loop with fold := none }).approveKnots f.slot else s.setLoop { s.loop with fold := none }

/-- The nozzles of a fold, taken in rising order. -/
def State.foldTaken (s : State) (f : LoopFold) : FoldAcc × State :=
  (sortBy (fun n => ((n : Nat) : Int)) (distinct (f.cols.map fun c => c.noz))).foldl (foldNozzle f) ({}, s)

/-- The entries of a fold are queued, in the bar's list and its twin's. -/
def foldQueued (f : LoopFold) (p : FoldAcc × State) : State :=
  (p.2.queueLoop f.bar p.1.bar).queueLoop (p.2.rd (K.barTwinBar f.bar)) p.1.twin

/-- A fold shows its updates and its time. -/
def foldShown (f : LoopFold) (p : FoldAcc × State) : State :=
  ((foldQueued f p).wr (K.lslotNozzlesUpdated f.slot) p.1.updated).wr (K.lslotLastFold f.slot) (foldQueued f p).time

/-- What a fold's nozzles may change. -/
def foldKeys : List KeySet := sideAnd [.fam (K.portBytesRead 0) 12, .fam (K.portBytesWritten 0) 12, .fam (K.qsFill 0) 64,
  .fam (K.qsFillPeak 0) 64, .fam (K.qsItemsIn 0) 64, .fam (K.qsNoCreditCount 0) 64, .fam (K.qsQueueStatus 0) 64,
  .one K.dramLastMapError, .one K.dramMapErrors, .one K.dramMemStatus, .one K.loopsDiscards, .one K.loopsFrozenNozzles,
  .one K.loopsStatus, .one K.quesSizeErrors]

section
variable {s : State} {f : LoopFold}

theorem State.foldBegun_eff (s : State) (f : LoopFold) : Eff (withSide [.mem, .loop]) foldKeys s (s.foldBegun f) := by
  have hset : Eff (withSide [.mem, .loop]) foldKeys s (s.setLoop { s.loop with fold := none }) :=
    (State.setLoop_eff ..).after Eff.refl rfl
  exact Eff.ite ((State.approveKnots_eff ..).after hset rfl) hset

theorem State.foldBegun_fold (s : State) (f : LoopFold) : (s.foldBegun f).loop.fold = none := by
  unfold State.foldBegun
  split
  · rw [(State.approveKnots_eff ..).part .loop rfl]
    rfl
  · rfl

theorem State.foldTaken_eff (s : State) (f : LoopFold) : Eff (withSide [.mem, .memory]) foldKeys s (s.foldTaken f).2 :=
  Eff.foldlP Prod.snd (fun _ _ hx => (foldNozzle_eff ..).after hx rfl) Eff.refl

theorem State.queueLoop_nil (s : State) (b : Nat) : s.queueLoop b [] = s := if_pos rfl

theorem foldQueued_eff (f : LoopFold) (p : FoldAcc × State) : Eff [.slip] [] p.2 (foldQueued f p) :=
  (State.queueLoop_eff ..).after ((State.queueLoop_eff ..).after Eff.refl rfl) rfl

/-- The fold's record and event come after it has shown its updates. -/
theorem loopFoldDone_shown (hf : s.loop.fold = some f) :
    Eff (withSide [.memory]) (sideAnd [.fam (K.qsFill 0) 64, .fam (K.qsFillPeak 0) 64, .fam (K.qsItemsIn 0) 64,
      .fam (K.qsNoCreditCount 0) 64, .fam (K.qsQueueStatus 0) 64, .one K.loopsStatus, .one K.quesSizeErrors])
      (foldShown f ((s.foldBegun f).foldTaken f)) (loopFoldDone s) := by
  unfold loopFoldDone
  rw [hf]
  exact (State.raise_eff ..).after ((State.loopRecord_eff ..).after Eff.refl rfl) rfl

theorem loopFoldDone_slot (hf : s.loop.fold = some f) (hi : f.slot < 8) :
    (loopFoldDone s).rd (K.lslotNozzlesUpdated f.slot) = ((s.foldBegun f).foldTaken f).1.updated ∧
    (loopFoldDone s).rd (K.lslotLastFold f.slot) = s.time := by
  have hshown := loopFoldDone_shown hf
  have htime : (foldQueued f ((s.foldBegun f).foldTaken f)).time = s.time :=
    ((foldQueued_eff ..).time).trans (((s.foldBegun f).foldTaken_eff f).time.trans (s.foldBegun_eff f).time)
  refine ⟨?_, ?_⟩
  · rw [hshown.rd_inst hi, foldShown, State.rd_wr_ne _ _ (by simp), State.rd_wr_self]
  · rw [hshown.rd_inst hi, foldShown, State.rd_wr_self, htime]

theorem loopFoldDone_over (hf : s.loop.fold = some f) : (loopFoldDone s).loop.fold = none := by
  have hloop : (foldShown f ((s.foldBegun f).foldTaken f)).loop = (s.foldBegun f).loop :=
    ((foldQueued_eff ..).part .loop rfl).trans (((s.foldBegun f).foldTaken_eff f).part .loop rfl)
  rw [(loopFoldDone_shown hf).part .loop rfl, hloop, State.foldBegun_fold]

/-- A fold of one nozzle whose word has changed since the window discards it. -/
theorem State.foldTaken_changed {x : LoopCol} (hc : f.cols = [x]) (hw : s.glazeWord x.word % 2 ^ 60 ≠ x.knots) :
    s.foldTaken f = ({}, s.inc 32 K.loopsDiscards) := by
  have hnoz : sortBy (fun n => ((n : Nat) : Int)) (distinct (f.cols.map fun c => c.noz)) = [x.noz] := by
    rw [hc]
    rfl
  have hcols : (f.cols.filter fun c => c.noz == x.noz) = [x] := by simp [hc]
  rw [State.foldTaken, hnoz, List.foldl_cons, List.foldl_nil, foldNozzle]
  simp only [hcols]
  rw [if_pos (Or.inl hw)]

end

/-- Settles O40: a window's end that moves no lamp shows the strips, counts the window and opens the next; a fold's record comes after it
has shown its updates, and a changed word is a discard. -/
theorem loopWindowCommands : Obligations.LoopWindowCommands := by
  refine ⟨fun j s hl hruns hdue hstate hr hw hv => ?window, fun f p u s hf hi hu hp => ?fold,
    fun f x s hf hi hfirst hc hw => ?discard⟩
  case window =>
    have heff : Eff (withSide [.loop]) (sideAnd [.one K.loopsWindow, .one K.loopsFoldLate, .one K.loopsStatus,
        .fam (K.stripStripMean 0) 16, .fam (K.stripStripErr 0) 16, .fam (K.lslotStripErrMax 0) 8, .fam (K.lslotWorstStrip 0) 8,
        .fam (K.lslotHoldReason 0) 8]) s s.windowRetried.windowCounted :=
      (State.windowCounted_eff _).after (s.windowRetried_eff.after Eff.refl rfl) rfl
    have hend : loopWindowEnd s = s.windowRetried.windowCounted.windowOpen (s.loop.band0 + s.rd K.loopLoopBands) := by
      rw [loopWindowEnd, hl]
      exact (if_pos ⟨hruns, hdue⟩).trans (State.windowEnd_still hstate hr hw hv)
    have hopen := s.windowRetried.windowCounted.windowOpen_eff (s.loop.band0 + s.rd K.loopLoopBands)
    obtain ⟨hopened, hband, hslot, hwhite, hdiode, hstrips⟩ :=
      s.windowRetried.windowCounted.windowOpen_window (s.loop.band0 + s.rd K.loopLoopBands)
    have hnext : s.windowRetried.windowCounted.loopNext s.windowRetried.windowCounted.loop.slot = s.loopNext s.loop.slot := by
      rw [State.windowCounted_next, State.windowRetried_next]
    refine ⟨_, congrArg Host.Outcome.next hend, ?_, hopened, hband, hslot.trans hnext, hwhite, hdiode, hstrips,
      (hopen.after heff rfl).frame⟩
    rw [hopen.rd _ rfl, State.windowCounted_count, State.rdI, s.windowRetried_eff.rd _ rfl, State.rdI]
  case fold =>
    have hfolded : p = (s.foldBegun f).foldTaken f := by
      rw [hp, hu]
      rfl
    obtain ⟨hupdated, htime⟩ := loopFoldDone_slot hf hi
    exact ⟨_, rfl, hfolded ▸ hupdated, htime, loopFoldDone_over hf, (loopFoldDone_eff s).frame⟩
  case discard =>
    have hbegun : s.foldBegun f = s.setLoop { s.loop with fold := none } := if_neg (by simp [hfirst])
    have htaken : (s.foldBegun f).foldTaken f = ({}, (s.foldBegun f).inc 32 K.loopsDiscards) := by
      refine State.foldTaken_changed hc ?_
      rw [hbegun]
      exact hw
    have hqueued : foldQueued f ((s.foldBegun f).foldTaken f) = (s.foldBegun f).inc 32 K.loopsDiscards := by
      rw [htaken, foldQueued, State.queueLoop_nil, State.queueLoop_nil]
    have hshown := loopFoldDone_shown hf
    have hbars : (foldShown f ((s.foldBegun f).foldTaken f)).bars = s.bars := by
      rw [foldShown, State.wr_bars, State.wr_bars, hqueued, State.inc, State.wr_bars, hbegun]
      rfl
    have hcount : (foldShown f ((s.foldBegun f).foldTaken f)).rd K.loopsDiscards = (s.rd K.loopsDiscards + 1) % 2 ^ 32 := by
      rw [foldShown, State.rd_wr_ne _ _ (ne_instKey _ rfl), State.rd_wr_ne _ _ (ne_instKey _ rfl), hqueued, State.rd_inc_self, hbegun,
        (State.setLoop_eff ..).rd _ rfl]
    obtain ⟨-, hslip⟩ := hshown.part .slip rfl
    refine ⟨_, rfl, (hshown.rd _ rfl).trans hcount, ?_, hslip.trans hbars, (loopFoldDone_eff s).frame⟩
    rw [(loopFoldDone_slot hf hi).1, htaken]

end Sys2Proof.Machine

/-! SUPPORT. A claim on a path that the device does not have (O48): the keys of absent instances of two groups coincide. -/

namespace Sys2Proof.Machine

-- The proofs of this part are checked one after another, in one thread.
set_option Elab.async false

/-- A claim of target 0, read whole, on path 49,392; the device's paths end at 6. -/
def absentPath : Acc := { path := 49392, secure := true, size := 8, offset := 0, value := 0 }

/-- A device in STOPPED, as reset leaves it otherwise. -/
def stoppedDevice : State := State.reset.wr K.devDeviceState stStopped

/-- ErrorCount of the absent path and Holding of an absent target have one key. -/
theorem absentPath_errorCount : K.pathErrorCount absentPath.path = K.tgtHolding 35280 := by decide

/-- The read passes its checks, for the path is compared with the target's own only after them. -/
theorem absentPath_served : stoppedDevice.readStatus absentPath (K.tgtClaim 0) = 0 := by decide

theorem claimRead_otherPath {a : Acc} {g : Nat} {s : State} (h : s.readStatus a (K.tgtClaim g) = 0)
    (hp : a.path ≠ (if g = 4 then 0 else g + 1)) : claimRead a g s = s.claimDone a g 5 1023 := by
  rw [claimRead, h]
  exact if_pos hp

theorem State.claimDone_rd (s : State) (a : Acc) (g st v j : Nat) :
    (s.claimDone a g st v).rd j = (s.done a (K.tgtClaim g) st).rd j := rfl

/-- The refused claim is counted at its path. -/
theorem absentPath_counted (v : Nat) : (stoppedDevice.claimDone absentPath 0 5 v).rd (K.pathErrorCount absentPath.path) = 1 :=
  (State.claimDone_rd ..).trans <| (stoppedDevice.done_refused_pathErrors absentPath (K.tgtClaim 0) (st := 5) (by decide)).trans (by decide)

theorem absentPath_notHeld : stoppedDevice.rd (K.pathErrorCount absentPath.path) = 0 := by decide

/-- Refutes O48, by its third clause: a claim by another path is said to leave Holding of every target number as it was, for every
access. On path 49,392, which the device does not have, the refusal counts in an ErrorCount whose key is that of Holding of target
35,280. Of the five targets, and on the seven paths, the clause keeps Holding; it has neither premise. -/
theorem not_interruptCommands : ¬ Obligations.InterruptCommands := by
  unfold Obligations.InterruptCommands
  rintro ⟨-, -, hother, -⟩
  obtain ⟨t, hexec, -, -, hholding, -⟩ := hother absentPath 0 stoppedDevice (by decide) absentPath_served (by decide)
  have ht : stoppedDevice.claimDone absentPath 0 5 1023 = t :=
    (claimRead_otherPath absentPath_served (by decide)).symm.trans (Host.Outcome.next.inj hexec)
  have hrd := hholding 35280
  rw [← ht, ← absentPath_errorCount, absentPath_counted, absentPath_notHeld] at hrd
  exact absurd hrd (by decide)

end Sys2Proof.Machine

/-! SUPPORT. The event fabric (O47): what the delivery of one event leaves at a task input, and a route's write. -/

namespace Sys2Proof.Machine

-- The proofs of this part are checked one after another, in one thread.
set_option Elab.async false

/-! ### Arrivals and Witness entries raise no event -/

theorem State.hostSignal_raised (s : State) : s.hostSignal.raised = s.raised := (s.hostSignal_eff.part .events rfl).1

theorem State.countArrival_raised (s : State) (src : Nat) : (s.countArrival src).raised = s.raised := by
  unfold State.countArrival
  split <;> rfl

theorem State.arrive_raised (s : State) (src : Nat) : (s.arrive src).raised = s.raised := by
  unfold State.arrive
  split
  · rfl
  · rw [State.hostSignal_raised]
    split
    · exact s.countArrival_raised src
    · exact s.countArrival_raised src

theorem State.flag_raised (s : State) (k m src : Nat) : (s.flag k m src).raised = s.raised := State.arrive_raised _ src

theorem State.witness_raised (s : State) (kind unit lin d0 d1 : Nat) (last : Bool) :
    (s.witness kind unit lin d0 d1 last).raised = s.raised := by
  unfold State.witness
  split
  · rfl
  · split
    · exact State.flag_raised (s.inc 32 K.witDropped) _ _ _
    · rfl

/-! ### The channels of an event (R417) -/

section
variable (s : State) (ev lin : Nat)

/-- A channel's delivery adds none at a task input and raises no event. -/
theorem State.deliverChannel_events (c : Nat) :
    (s.deliverChannel ev lin c).raised = s.raised ∧ (s.deliverChannel ev lin c).tasks = s.tasks := by
  unfold State.deliverChannel
  extract_lets x y
  have hy : y.raised = s.raised ∧ y.tasks = s.tasks := by
    unfold y
    split
    · exact ⟨State.arrive_raised .., State.arrive_tasks ..⟩
    · exact ⟨rfl, rfl⟩
  split
  · exact ⟨(State.witness_raised ..).trans hy.1, (State.witness_tasks ..).trans hy.2⟩
  · exact hy

theorem deliverChannels_events (l : List Nat) :
    (deliverChannels ev lin l s).raised = s.raised ∧ (deliverChannels ev lin l s).tasks = s.tasks := by
  induction l generalizing s with
  | nil => exact ⟨rfl, rfl⟩
  | cons c l ih =>
    obtain ⟨hraised, htasks⟩ := ih (s.deliverChannel ev lin c)
    obtain ⟨hraised', htasks'⟩ := s.deliverChannel_events ev lin c
    exact ⟨hraised.trans hraised', htasks.trans htasks'⟩

end

/-! ### One event raised in its FABCLK -/

/-- The state in which the deliveries of a lone event reach the task inputs: no event is left, and its channels have been served. -/
def State.served (s : State) (r : Raised) : State :=
  deliverChannels r.num r.lineage r.chans (({ s with raised := [] } : State).at (r.stamp + 2))

section
variable {s : State} {r : Raised}

theorem State.served_now (s : State) (r : Raised) : (s.served r).now = max s.now (r.stamp + 2) :=
  ((deliverChannels_eff ..).part .clock rfl).trans (State.at_now ..)

theorem State.served_raised (s : State) (r : Raised) : (s.served r).raised = [] := (deliverChannels_events ..).1

theorem State.served_tasks (s : State) (r : Raised) : (s.served r).tasks = s.tasks := (deliverChannels_events ..).2

theorem State.served_eff (s : State) (r : Raised) :
    Eff (withSide [.clock]) (sideAnd [.fam (K.chDelivered 0) 256, .fam (K.chLastLineage 0) 256]) s (s.served r) :=
  (deliverChannels_eff ..).after ((State.at_eff ..).after (Eff.upd_raised Eff.refl rfl) rfl) rfl

/-- Serving an event's channels makes no task input busy and frees none. -/
theorem State.served_taskBusy (s : State) (r : Raised) (i : Nat) : (s.served r).taskBusy i = s.taskBusy i := by
  have hskl : (s.served r).skl = s.skl := (s.served_eff r).skl
  have hwin : ∀ n, n < 2 → (s.served r).rd (K.winsWinStatus n) = s.rd (K.winsWinStatus n) := fun n hn => (s.served_eff r).rd_inst hn
  unfold State.taskBusy
  rw [State.served_tasks, hskl]
  congr 1
  by_cases hi : i = 2 ∨ i = 3
  · rw [State.bit, State.bit, hwin (i - 2) (by omega)]
  · have hne : (i == 2 || i == 3) = false := by simpa using hi
    rw [hne, Bool.false_and, Bool.false_and]

theorem eventDelivery_lone (hr : s.raised = [r]) :
    eventDelivery s = deliverFixed [r] (deliverTasks (mergedHits [r]) (s.served r)) := by
  have hbatch : (s.raised.filter fun x => x.stamp == r.stamp) = [r] := by simp [hr]
  have hrest : (s.raised.filter fun x => x.stamp != r.stamp) = [] := by simp [hr]
  unfold eventDelivery
  simp only [hr] at hbatch hrest ⊢
  rw [hbatch, hrest]
  rfl

theorem State.deliverTask_one (s : State) (i lin : Nat) : s.deliverTask i 1 lin =
    if s.taskBusy i then s.overrun i else { s with tasks := s.tasks ++ [{ task := i, lineage := lin, stamp := s.now }] } := rfl

/-- One channel's delivery at a task input, with no fixed route. -/
theorem eventDelivery_hit {i : Nat} (hr : s.raised = [r]) (hh : r.hits = [(i, 1)]) (hn : r.num ≠ Ev.whlStopReq) :
    eventDelivery s = (s.served r).deliverTask i 1 r.lineage := by
  rw [eventDelivery_lone hr, mergedHits, hh]
  simp only [deliverFixed, if_neg hn]
  rfl

/-- The fixed route of WHL_STOP_REQ, of an event that reaches no other task input. -/
theorem eventDelivery_stop (hr : s.raised = [r]) (hh : r.hits = []) (hn : r.num = Ev.whlStopReq) :
    eventDelivery s = { s.served r with tasks := (s.served r).tasks ++ [{ task := 0, lineage := 0, stamp := (s.served r).now }] } := by
  rw [eventDelivery_lone hr, mergedHits, hh]
  simp only [deliverFixed, if_pos hn]
  rfl

end

/-! ### A delivery that is lost (R420) -/

section
variable (s : State) {i : Nat}

theorem State.overrun_tasks (i : Nat) : (s.overrun i).tasks = s.tasks := by
  unfold State.overrun
  extract_lets x y
  refine (State.flag_tasks ..).trans ?_
  unfold y
  split
  · exact State.flag_tasks ..
  · rfl

theorem State.overrun_raised (i : Nat) : (s.overrun i).raised = s.raised := by
  unfold State.overrun
  extract_lets x y
  refine (State.flag_raised ..).trans ?_
  unfold y
  split
  · exact State.flag_raised ..
  · rfl

theorem taskOverrun_key (hi : i < 256) : K.taskOverrun i = 0x465000 + i := by
  simp only [K.taskOverrun, runKey]
  omega

/-- No arrival counts in a task input's OVERRUN. -/
theorem sideKeys_taskOverrun (hi : i < 256) : sideKeys.any (·.has (K.taskOverrun i)) = false := by
  rw [taskOverrun_key hi]
  refine Bool.eq_false_iff.mpr fun h => ?_
  simp [sideKeys, KeySet.has, K.srcCount, K.pendPending, K.chChannelStatus, runKey, instKey, K.fabFabricStatus, K.fabLoopCuts,
    K.witDropped, K.witFrozenDrops, K.witWitnessStatus] at h
  omega

theorem State.overrun_entries (hi : i < 256) : (s.overrun i).rd K.fabOverruns = (s.rd K.fabOverruns + 1) % 2 ^ 32 ∧
    (s.overrun i).rd (K.taskOverrun i) = 1 ∧ (s.overrun i).bit K.fabFabricStatus 0 = true := by
  have hne : K.fabOverruns ≠ K.taskOverrun i := by rw [taskOverrun_key hi, K.fabOverruns]; omega
  have hstatus : K.taskOverrun i ≠ K.fabFabricStatus := by rw [taskOverrun_key hi, K.fabFabricStatus]; omega
  have hwin : ∀ n, n < 2 → K.taskOverrun i ≠ K.winsWinStatus n := fun n hn => by rw [taskOverrun_key hi]; simp only [K.winsWinStatus, instKey]; omega
  unfold State.overrun
  extract_lets x y
  have hx : x.rd K.fabOverruns = (s.rd K.fabOverruns + 1) % 2 ^ 32 ∧ x.rd (K.taskOverrun i) = 1 :=
    ⟨by rw [State.rd_inc_self, State.rd_wr_ne _ _ hne], by rw [State.rd_inc_ne _ _ hne.symm, State.rd_wr_self]⟩
  have hy : y.rd K.fabOverruns = x.rd K.fabOverruns ∧ y.rd (K.taskOverrun i) = x.rd (K.taskOverrun i) := by
    unfold y
    split
    · next hw =>
      exact ⟨State.flag_rd_ne _ _ _ (ne_instKey _ rfl), State.flag_rd_ne _ _ _ (hwin _ (by omega)) (sideKeys_taskOverrun hi)⟩
    · exact ⟨rfl, rfl⟩
  refine ⟨?_, ?_, ?_⟩
  · rw [State.flag_rd_ne _ _ _ (by decide), hy.1, hx.1]
  · rw [State.flag_rd_ne _ _ _ hstatus (sideKeys_taskOverrun hi), hy.2, hx.2]
  · rw [State.bit, State.flag, (State.arrive_eff_own ..).rd _ (by decide), State.rd_wr_self]
    rw [bitOf_setBits_eq, show bitOf 1 0 = true from rfl, Bool.or_true]

end

/-! ### Writes of a route and of a coincidence counter (R418, R421) -/

section
variable {a : Acc} {i : Nat} {s : State}

theorem taskRouteWrite_stores (hw : s.writeAllowed a (K.taskRoute i) = 0)
    (hc : s.routeCheck a (routeChanged (s.rd (K.taskRoute i)) (accVal a (K.taskRoute i))) = 0)
    (hf : s.writeFits a (K.taskRoute i) = 0) (hv : routeValueOk (accVal a (K.taskRoute i)) = true) :
    taskRouteWrite a i s = (s.wr (K.taskRoute i) (accVal a (K.taskRoute i))).done a (K.taskRoute i) 0 := by
  simp only [taskRouteWrite, hw, hc, hf]
  exact if_pos hv

theorem taskRouteWrite_range (hw : s.writeAllowed a (K.taskRoute i) = 0)
    (hc : s.routeCheck a (routeChanged (s.rd (K.taskRoute i)) (accVal a (K.taskRoute i))) = 0)
    (hf : s.writeFits a (K.taskRoute i) = 0) (hv : routeValueOk (accVal a (K.taskRoute i)) = false) :
    taskRouteWrite a i s = s.done a (K.taskRoute i) 8 := by
  simp only [taskRouteWrite, hw, hc, hf]
  exact if_neg (by simp [hv])

theorem taskRouteWrite_refused {st : Nat} (hw : s.writeAllowed a (K.taskRoute i) = 0)
    (hc : s.routeCheck a (routeChanged (s.rd (K.taskRoute i)) (accVal a (K.taskRoute i))) = st) (hst : st ≠ 0) :
    taskRouteWrite a i s = s.done a (K.taskRoute i) st := by
  cases st with
  | zero => exact absurd rfl hst
  | succ n => simp only [taskRouteWrite, hw, hc]

end

/-- The record of an access stands in no entry of a task input. -/
theorem recordKeys_run (a : Acc) {b i : Nat} (hi : i < 256) (hb : 0x464000 ≤ b ∧ b < 0x467000) :
    (recordKeys a).any (·.has (runKey b 256 i)) = false := by
  have hkey : runKey b 256 i = b + i := by simp only [runKey]; omega
  have hfar : ∀ j, j % 256 ≤ 3 → 0x111000 ≤ j → j < 0x111100 → b + i ≠ instKey j 7 a.path := fun j _ _ _ => by rw [instKey]; omega
  rw [hkey]
  simp only [recordKeys, KeySet.has, List.any_cons, List.any_nil, Bool.or_false, Bool.or_eq_false_iff, beq_eq_false_iff_ne]
  exact ⟨by simp only [K.dictAccessCount]; omega, (hfar _ (by decide) (by decide) (by decide)), (hfar _ (by decide) (by decide) (by decide))⟩

/-- A served write of an entry stores its value, and the record of the access leaves it. -/
theorem storedWrite {a : Acc} {s : State} {k v : Nat} (hk : (recordKeys a).any (·.has k) = false) :
    ((s.wr k v).done a k 0).rd k = v ∧ ((s.wr k v).done a k 0).rd (K.pathLastStatus a.path) = 0 ∧
      Frame [.regs] (okAnd a [.one k]) s ((s.wr k v).done a k 0) := by
  have heff : Eff [.regs] [.one k] s (s.wr k v) := Eff.refl.wr rfl (by simp [KeySet.has])
  refine ⟨?_, State.done_ok_status .., (heff.done_ok rfl).frame⟩
  rw [(State.done_ok_record ..).rd _ hk, State.rd_wr_self]

/-- Settles O47: a lone event's channels leave the task inputs as they are; its delivery then stands, is lost, or takes the fixed
route. A route's write goes by the first check that fails. -/
theorem eventFabricCommands : Obligations.EventFabricCommands := by
  refine ⟨fun r i s hr hh hb hn => ?stands, fun r i s hr hi hh hb hn => ?lost, fun r s hr hh hn => ?stop,
    fun a i s hi hw hc hf hv => ?route, fun a i st s hi hw hc hst => ?refused, fun a i s hi hw hc hf hv => ?range,
    fun a i s hw hi => ?coincide⟩
  case stands =>
    have heq := eventDelivery_hit hr hh hn
    have hfree : (s.served r).taskBusy i = false := by rw [State.served_taskBusy, hb]
    rw [State.deliverTask_one, hfree, if_neg (by decide)] at heq
    refine ⟨_, congrArg Host.Outcome.next heq, State.served_now .., State.served_raised .., ?_, ?_, heq ▸ (eventDelivery_eff s).frame⟩
    · rw [State.served_tasks]
    · exact (s.served_eff r).rd _ rfl
  case lost =>
    have heq := eventDelivery_hit hr hh hn
    have hbusy : (s.served r).taskBusy i = true := by rw [State.served_taskBusy, hb]
    rw [State.deliverTask_one, hbusy, if_pos rfl] at heq
    obtain ⟨hcount, hover, hstatus⟩ := (s.served r).overrun_entries hi
    refine ⟨_, congrArg Host.Outcome.next heq, ?_, ?_, ?_, hstatus, hover, heq ▸ (eventDelivery_eff s).frame⟩
    · rw [State.overrun_raised, State.served_raised]
    · rw [State.overrun_tasks, State.served_tasks]
    · rw [hcount, (s.served_eff r).rd _ rfl]
  case stop =>
    have heq := eventDelivery_stop hr hh hn
    refine ⟨_, congrArg Host.Outcome.next heq, ?_, State.served_raised .., heq ▸ (eventDelivery_eff s).frame⟩
    rw [State.served_tasks]
  case route =>
    exact ⟨_, (inst_true (Nat.blt_eq.mpr hi)).trans (congrArg Host.Outcome.next (taskRouteWrite_stores hw hc hf hv)),
      storedWrite (recordKeys_run a hi (by decide))⟩
  case refused =>
    exact (inst_true (Nat.blt_eq.mpr hi)).trans (congrArg Host.Outcome.next (taskRouteWrite_refused hw hc hst))
  case range =>
    exact (inst_true (Nat.blt_eq.mpr hi)).trans (congrArg Host.Outcome.next (taskRouteWrite_range hw hc hf hv))
  case coincide =>
    exact ⟨_, (inst_true (Nat.blt_eq.mpr hi)).trans (congrArg Host.Outcome.next (State.act_ok hw rfl)), storedWrite (recordKeys_run a hi (by decide))⟩

end Sys2Proof.Machine

/-! SUPPORT. The Skobaty link's records, and the sleep and wake of a direction (O51). -/

namespace Sys2Proof.Machine

-- The proofs of this part are checked one after another, in one thread.
set_option Elab.async false

/-! ### Entries of two numbered groups -/

/-- An instance of a group stands below every instance of a group that begins after its last. -/
theorem instKey_ne_above {a b m n i : Nat} (j : Nat) (hi : i < m) (h : a + 256 * m ≤ b := by decide) : instKey a m i ≠ instKey b n j := by
  simp only [instKey, Nat.div_eq_of_lt hi]
  omega

/-! ### The records of ports and lanes -/

section
variable (s : State) (p l : Nat)

theorem State.skPort_setSkPort (x : SklPort) (q : Nat) : (s.setSkPort p x).skPort q = if q = p then x else s.skPort q := tget_tput ..

theorem State.skLane_setSkLane (x : SklLane) (m : Nat) : (s.setSkLane l x).skLane m = if m = l then x else s.skLane m := tget_tput ..

@[simp] theorem State.skLane_setSkPort (x : SklPort) (m : Nat) : (s.setSkPort p x).skLane m = s.skLane m := rfl

@[simp] theorem State.skPort_setSkLane (x : SklLane) (q : Nat) : (s.setSkLane l x).skPort q = s.skPort q := rfl

@[simp] theorem State.rd_setSkl (k : Skl) (j : Nat) : (s.setSkl k).rd j = s.rd j := rfl

@[simp] theorem State.rd_setSkPort (x : SklPort) (k : Nat) : (s.setSkPort p x).rd k = s.rd k := rfl

@[simp] theorem State.rd_setSkLane (x : SklLane) (k : Nat) : (s.setSkLane l x).rd k = s.rd k := rfl

@[simp] theorem State.rd_skOut (o : SklOut) (k : Nat) : (s.skOut o).rd k = s.rd k := rfl

@[simp] theorem State.rd_at (u k : Nat) : (s.at u).rd k = s.rd k := rfl

end

section
variable {ps : List Part} {ks : List KeySet} {s t : State} (h : Eff ps ks s t) (hp : ps.contains .link = false := by rfl)
include h hp

theorem Eff.skPort (p : Nat) : t.skPort p = s.skPort p := congrArg (fun k : Skl => tget ({} : SklPort) k.ports p) (h.skl hp)

theorem Eff.skLane (l : Nat) : t.skLane l = s.skLane l := congrArg (fun k : Skl => tget ({} : SklLane) k.lanes l) (h.skl hp)

end

/-! ### Sleep (R451, R452) -/

section
variable {p : Nat} {s : State}

/-- A port asleep has told the peer, and its 8 SLEEP blocks leave from now on. -/
def State.portAsleep (s : State) (p : Nat) : State :=
  (((s.setSkPort p { s.skPort p with txFrom := s.now + blocksTime (s.rd (K.spsSpeed p)) 8 }).wr (K.spsTxState p) 2).skOut
    (.sleep p)).raise (Ev.lnkSleep p)

theorem State.portAsleep_eff (s : State) (p : Nat) : Eff (withSide [.link]) (sideAnd [.one (K.spsTxState p)]) s (s.portAsleep p) := by
  have hport : Eff (withSide [.link]) (sideAnd [.one (K.spsTxState p)]) s
      (s.setSkPort p { s.skPort p with txFrom := s.now + blocksTime (s.rd (K.spsSpeed p)) 8 }) :=
    (State.setSkPort_eff ..).after Eff.refl (fits_of_subset (by decide) (List.nil_subset _))
  refine (State.raise_eff ..).after ((State.skOut_eff ..).after (hport.wr rfl (by simp [sideAnd, KeySet.has])) ?_) ?_
  · exact fits_of_subset (by decide) (List.nil_subset _)
  · exact fits_of_subset (by decide) (List.subset_append_left _ _)

theorem State.portAsleep_txState (s : State) (p : Nat) : (s.portAsleep p).rd (K.spsTxState p) = 2 := by
  rw [State.portAsleep, State.raise_rd, State.rd_skOut, State.rd_wr_self]

theorem State.portAsleep_skPort (s : State) (p q : Nat) : (s.portAsleep p).skPort q =
    if q = p then { s.skPort p with txFrom := s.now + blocksTime (s.rd (K.spsSpeed p)) 8 } else s.skPort q :=
  ((State.raise_eff ..).skPort rfl q).trans (State.skPort_setSkPort ..)

theorem State.portAsleep_out (s : State) (p : Nat) : (s.portAsleep p).skl.out = s.skl.out ++ [.sleep p] :=
  congrArg Skl.out (State.raise_eff ..).skl

theorem sleepIdle_sleeps (hu : s.skUp p = true) (he : s.on (K.spSleepEnable p) = true) (ht : s.rd (K.spsTxState p) ≠ 2)
    (hi : (s.skPort p).idle = true) :
    sleepIdle p s = (s.at ((s.skPort p).idleAt + us (s.rd (K.spSleepIdle p)))).portAsleep p := by
  rw [sleepIdle, if_neg (by simp [hu, he, ht])]
  exact if_pos hi

theorem sleepIdle_refuses (hu : s.skUp p = true) (he : s.on (K.spSleepEnable p) = true) (ht : s.rd (K.spsTxState p) ≠ 2)
    (hi : (s.skPort p).idle = false)
    (hr : (s.skPort p).readyAt = max ((s.skPort p).idleAt + us (s.rd (K.spSleepIdle p))) s.now) :
    sleepIdle p s = (s.at ((s.skPort p).idleAt + us (s.rd (K.spSleepIdle p)))).inc 32 (K.spsSleepRefused p) := by
  rw [sleepIdle, if_neg (by simp [hu, he, ht])]
  exact (if_neg (by simp [hi])).trans (if_pos hr)

/-- A direction wakes: its IDLE blocks and the marker leave from now on. -/
def State.portAwake (s : State) (p : Nat) : State :=
  (((s.setSkPort p { s.skPort p with
      txFrom := s.now + blocksTime (s.rd (K.spsSpeed p)) (s.rd (K.spWakeBlocks p) + 1) }).wr (K.spsTxState p) 3).inc 32
    (K.spsWakes p)).raise (Ev.lnkWake p)

theorem State.portAwake_eff (s : State) (p : Nat) :
    Eff (withSide [.link]) (sideAnd [.one (K.spsTxState p), .one (K.spsWakes p)]) s (s.portAwake p) := by
  have hport : Eff (withSide [.link]) (sideAnd [.one (K.spsTxState p), .one (K.spsWakes p)]) s
      (s.setSkPort p { s.skPort p with txFrom := s.now + blocksTime (s.rd (K.spsSpeed p)) (s.rd (K.spWakeBlocks p) + 1) }) :=
    (State.setSkPort_eff ..).after Eff.refl (fits_of_subset (by decide) (List.nil_subset _))
  refine (State.raise_eff ..).after ((hport.wr rfl ?_).inc rfl ?_) (fits_of_subset (by decide) (List.subset_append_left _ _))
  all_goals simp [sideAnd, KeySet.has]

theorem State.portAwake_entries (s : State) (p : Nat) : (s.portAwake p).rd (K.spsTxState p) = 3 ∧
    (s.portAwake p).rd (K.spsWakes p) = (s.rd (K.spsWakes p) + 1) % 2 ^ 32 := by
  unfold State.portAwake
  refine ⟨?_, ?_⟩
  · rw [State.raise_rd, State.rd_inc_ne _ _ (instKey_ne _ _), State.rd_wr_self]
  · rw [State.raise_rd, State.rd_inc_self, State.rd_wr_ne _ _ (instKey_ne _ _), State.rd_setSkPort]

theorem State.portAwake_skPort (s : State) (p q : Nat) : (s.portAwake p).skPort q =
    if q = p then { s.skPort p with txFrom := s.now + blocksTime (s.rd (K.spsSpeed p)) (s.rd (K.spWakeBlocks p) + 1) }
    else s.skPort q :=
  ((State.raise_eff ..).skPort rfl q).trans (State.skPort_setSkPort ..)

theorem directionWake_wakes (hu : s.skUp p = true) (ht : s.rd (K.spsTxState p) = 2) (hi : (s.skPort p).idle = false) :
    directionWake p s = (s.at (s.skPort p).txFrom).portAwake p := by
  rw [directionWake, if_neg (by simp [hu, ht, hi])]
  rfl

end

/-- Settles O51: a port with no message queued sleeps, one that has just become ready refuses; a message wakes a sleeping port. -/
theorem linkSleepCommands : Obligations.LinkSleepCommands := by
  refine ⟨fun p s hp hu he ht hi => ?sleeps, fun p s hp hu he ht hi hr => ?refuses, fun p s hp hu => ?block,
    fun p s hp hu ht hi => ?wakes⟩
  case sleeps =>
    have hat : Eff (withSide [.clock, .link]) (sideAnd [.one (K.spsTxState p)]) s
        (s.at ((s.skPort p).idleAt + us (s.rd (K.spSleepIdle p)))) :=
      (State.at_eff ..).after Eff.refl (fits_of_subset (by decide) (List.nil_subset _))
    have heff := (s.at ((s.skPort p).idleAt + us (s.rd (K.spSleepIdle p)))).portAsleep_eff p
    have hnow : ((s.at ((s.skPort p).idleAt + us (s.rd (K.spSleepIdle p)))).portAsleep p).now =
        max s.now ((s.skPort p).idleAt + us (s.rd (K.spSleepIdle p))) := heff.part .clock rfl
    refine ⟨_, (inst_true (Nat.blt_eq.mpr hp)).trans (congrArg Host.Outcome.next (sleepIdle_sleeps hu he ht hi)), hnow,
      State.portAsleep_txState .., ?_, State.portAsleep_out .., fun q hq => ?_,
      (heff.after hat (fits_of_subset (by decide) (List.Subset.refl _))).frame⟩
    · rw [State.portAsleep_skPort, if_pos rfl, hnow]
      rfl
    · rw [State.portAsleep_skPort, if_neg hq]
      rfl
  case refuses =>
    have heff : Eff [.clock, .regs] [.one (K.spsSleepRefused p)] s
        ((s.at ((s.skPort p).idleAt + us (s.rd (K.spSleepIdle p)))).inc 32 (K.spsSleepRefused p)) :=
      ((State.at_eff ..).after Eff.refl (fits_of_subset (by decide) (List.nil_subset _))).inc rfl (by simp [KeySet.has])
    refine ⟨_, (inst_true (Nat.blt_eq.mpr hp)).trans (congrArg Host.Outcome.next (sleepIdle_refuses hu he ht hi hr)),
      State.rd_inc_self .., ?_, heff.skl, heff.frame⟩
    rw [State.rd_inc_ne _ _ (instKey_ne _ _), State.rd_at]
  case block =>
    have heff : Eff [.regs] [.one (K.spsRxState p)] s (s.wr (K.spsRxState p) 2) := Eff.refl.wr rfl (by simp [KeySet.has])
    exact ⟨_, (inst_true (Nat.blt_eq.mpr hp)).trans (congrArg Host.Outcome.next (if_pos hu)), State.rd_wr_self .., heff.frame⟩
  case wakes =>
    have hat : Eff (withSide [.clock, .link]) (sideAnd [.one (K.spsTxState p), .one (K.spsWakes p)]) s (s.at (s.skPort p).txFrom) :=
      (State.at_eff ..).after Eff.refl (fits_of_subset (by decide) (List.nil_subset _))
    have heff := (s.at (s.skPort p).txFrom).portAwake_eff p
    have hnow : ((s.at (s.skPort p).txFrom).portAwake p).now = max s.now (s.skPort p).txFrom := heff.part .clock rfl
    obtain ⟨htx, hwakes⟩ := (s.at (s.skPort p).txFrom).portAwake_entries p
    refine ⟨_, (inst_true (Nat.blt_eq.mpr hp)).trans (congrArg Host.Outcome.next (directionWake_wakes hu ht hi)), hnow, htx, hwakes, ?_,
      fun q hq => ?_, (heff.after hat (fits_of_subset (by decide) (List.Subset.refl _))).frame⟩
    · rw [State.portAwake_skPort, if_pos rfl, hnow]
      rfl
    · rw [State.portAwake_skPort, if_neg hq]
      rfl

end Sys2Proof.Machine

/-! SUPPORT. Transient faults and retirement (R501 to R506), and the lanes of the Skobaty link (O49): lock, loss of lock, faults, maps and
re-admission. -/

namespace Sys2Proof.Machine

-- The proofs of this part are checked one after another, in one thread.
set_option Elab.async false

/-- An instance that the device has stops no command. -/
theorem inst_eq_next {n m : Nat} {x y : State} (h : n < m) (hx : x = y) : inst (Nat.blt n m) x = .next y :=
  (inst_true (Nat.blt_eq.mpr h)).trans (congrArg Host.Outcome.next hx)

/-! ### The kept times of transient faults (R502) -/

theorem State.countArrival_faultTimes (s : State) (src : Nat) : (s.countArrival src).faultTimes = s.faultTimes := by
  unfold State.countArrival
  split <;> rfl

theorem State.arrive_faultTimes (s : State) (src : Nat) : (s.arrive src).faultTimes = s.faultTimes := by
  have hsignal : ∀ x : State, x.hostSignal.faultTimes = x.faultTimes := fun x => by
    obtain ⟨-, -, -, htimes⟩ := x.hostSignal_eff.part .witness rfl
    exact htimes
  unfold State.arrive
  split
  · rfl
  · rw [hsignal]
    split
    · exact s.countArrival_faultTimes src
    · exact s.countArrival_faultTimes src

theorem State.witness_faultTimes (s : State) (kind unit lin d0 d1 : Nat) (last : Bool) :
    (s.witness kind unit lin d0 d1 last).faultTimes = s.faultTimes := by
  unfold State.witness
  split
  · rfl
  · split
    · exact State.arrive_faultTimes ((s.inc 32 K.witDropped).wr K.witWitnessStatus _) _
    · rfl

theorem State.raise_faultTimes (s : State) (ev : Nat) : (s.raise ev).faultTimes = s.faultTimes := by
  simp [State.raise, State.raiseAt]

section
variable (s : State) (unit bit w : Nat)

/-- A transient fault's time is kept with its unit's earlier ones. -/
theorem State.transient_faultsIn :
    (s.transient unit bit w).faultsIn unit w = (tget [] s.faultTimes unit ++ [s.now]).filter fun t => s.now - t < ms w := by
  have htimes : (s.transient unit bit w).faultTimes = tput s.faultTimes unit (tget [] s.faultTimes unit ++ [s.now]) := by
    unfold State.transient
    extract_lets x n
    rw [State.raise_faultTimes, State.witness_faultTimes]
    exact State.arrive_faultTimes ..
  have hnow : (s.transient unit bit w).now = s.now := (s.transient_eff unit bit w).part .clock rfl
  rw [State.faultsIn, htimes, hnow, tget_tput_self]

/-- A fault more does not break a policy that allows for it. -/
theorem State.transient_keeps {count : Nat} (h : (s.faultsIn unit w).length + 1 ≤ count) :
    (s.transient unit bit w).breaks unit count w = false := by
  have hlen : ((s.transient unit bit w).faultsIn unit w).length ≤ (s.faultsIn unit w).length + 1 := by
    rw [State.transient_faultsIn, List.filter_append, List.length_append]
    exact Nat.add_le_add_left (List.length_filter_le ..) _
  rw [State.breaks, ← Bool.not_eq_true, Nat.blt_eq]
  omega

/-- A policy that allows none is broken by a fault, which lies within any window. -/
theorem State.transient_breaks (hw : w ≠ 0) : (s.transient unit bit w).breaks unit 0 w = true := by
  have hnow : s.now ∈ (s.transient unit bit w).faultsIn unit w := by
    rw [State.transient_faultsIn]
    refine List.mem_filter.mpr ⟨List.mem_append_right _ (List.mem_singleton_self _), ?_⟩
    have hpos : 0 < ms w := Nat.mul_pos (by decide) (Nat.pos_of_ne_zero hw)
    simpa using hpos
  rw [State.breaks, Nat.blt_eq]
  exact List.length_pos_of_mem hnow

/-- A retirement is counted and shown with its unit (R505). -/
theorem State.retire_entries : (s.retire unit bit w).rd K.fltRetiredCount = (s.rd K.fltRetiredCount + 1) % 2 ^ 16 ∧
    (s.retire unit bit w).rd K.fltLastRetiredUnit = unit := by
  unfold State.retire
  refine ⟨?_, ?_⟩
  · rw [State.raise_rd, State.flag_rd_ne _ _ _ (by decide), State.rd_wr_ne _ _ (by decide), State.rd_inc_self,
      (State.witness_eff ..).rd _ rfl]
  · rw [State.raise_rd, State.flag_rd_ne _ _ _ (by decide), State.rd_wr_self]

end

/-! ### A lane locks (R442, R449) -/

section
variable {l : Nat} {s : State}

/-- A lane of a hunting port has locked; the port keeps the time of the first. -/
def State.laneLocked (s : State) (l : Nat) : State :=
  (s.wr (K.laneLaneState l) 2).setSkPort (l / 4)
    { s.skPort (l / 4) with firstLock := some ((s.skPort (l / 4)).firstLock.getD s.now) }

theorem laneLock_hunting (hl : s.skLaneState l = 1) (ht : s.skTrain (l / 4) = 1) : laneLock l s = s.laneLocked l := by
  rw [laneLock, if_neg (by simp [hl]), if_pos ht]
  rfl

theorem State.laneLocked_eff (s : State) (l : Nat) : Eff [.regs, .link] [.one (K.laneLaneState l)] s (s.laneLocked l) :=
  (State.setSkPort_eff ..).after (Eff.refl.wr rfl (by simp [KeySet.has])) (fits_of_subset (by decide) (List.nil_subset _))

/-- The lanes a port asks its peer for when one more joins. -/
def State.joinedMap (s : State) (l : Nat) : Nat := setBits (s.rd (K.spsRxLanes (l / 4))) (2 ^ (l % 4))

/-- A lane that hunted to rejoin asks for its bit. -/
def State.laneRejoined (s : State) (l : Nat) : State :=
  let x := (s.wr (K.laneLaneState l) 2).setSkLane l { s.skLane l with rejoin := false }
  (x.setSkPort (l / 4) { x.skPort (l / 4) with asked := some (s.joinedMap l) }).skOut (.laneMap (l / 4) (s.joinedMap l))

theorem laneLock_rejoins (hl : s.skLaneState l = 1) (ht : s.skTrain (l / 4) ≠ 1) (hr : (s.skLane l).rejoin = true) :
    laneLock l s = s.laneRejoined l := by
  rw [laneLock, if_neg (by simp [hl]), if_neg ht, if_pos hr]
  rfl

theorem State.laneRejoined_eff (s : State) (l : Nat) : Eff [.regs, .link] [.one (K.laneLaneState l)] s (s.laneRejoined l) := by
  have hset : Eff [.regs, .link] [.one (K.laneLaneState l)] s (s.wr (K.laneLaneState l) 2) := Eff.refl.wr rfl (by simp [KeySet.has])
  have hfits : fits [.link] [] [.regs, .link] [.one (K.laneLaneState l)] = true := fits_of_subset (by decide) (List.nil_subset _)
  exact (State.skOut_eff ..).after ((State.setSkPort_eff ..).after ((State.setSkLane_eff ..).after hset hfits) hfits) hfits

end

/-! ### A lane is retired (R448, R505) -/

/-- The lane is RETIRED and its fault counted. -/
def State.laneMarked (s : State) (l : Nat) : State :=
  ((s.wr (K.laneLaneState l) 3).inc 32 (K.laneFaultCount l)).wr (K.laneLastFaultTime l) s.time

/-- The retirement is counted and told, before the port gives up the lane's bit. -/
def State.laneGone (s : State) (l bit faults : Nat) : State :=
  (((s.laneMarked l).retire (calUnit (calLane l)) bit faults).flag (K.spsPortStatus (l / 4)) 2 129).raise (Ev.lnkLaneRetired (l / 4))

/-- The port's lanes without one of them. -/
def State.shedMap (s : State) (l : Nat) : Nat := clearBits (s.rd (K.spsRxLanes (l / 4))) (2 ^ (l % 4))

/-- The port goes on without the lane, deaf until the marker that puts the map in force. -/
def State.laneShed (s : State) (l : Nat) : State :=
  let x := s.wr (K.spsRxLanes (l / 4)) (s.shedMap l)
  (x.setSkPort (l / 4) { x.skPort (l / 4) with asked := some (s.shedMap l), deaf := true }).skOut (.laneMap (l / 4) (s.shedMap l))

section
variable (s : State) {l : Nat} (bit faults : Nat)

theorem State.laneMarked_state (i : Nat) :
    (s.laneMarked l).rd (K.laneLaneState i) = if K.laneLaneState i = K.laneLaneState l then 3 else s.rd (K.laneLaneState i) := by
  rw [State.laneMarked, State.rd_wr_ne _ _ (instKey_ne _ _), State.rd_inc_ne _ _ (instKey_ne _ _), State.rd_wr]

theorem State.laneMarked_eff (l : Nat) : Eff [.regs] [.fam (K.laneFaultCount 0) 8, .fam (K.laneLaneState 0) 8,
    .fam (K.laneLastFaultTime 0) 8] s (s.laneMarked l) :=
  ((Eff.refl.wr rfl (KeySet.any_fam _ rfl)).inc rfl (KeySet.any_fam _ rfl)).wr rfl (KeySet.any_fam _ rfl)

theorem State.laneGone_eff (l : Nat) : Eff sideParts (sideAnd [.fam (K.spsPortStatus 0) 2, .one K.fltFaultStatus,
    .one K.fltLastRetiredUnit, .one K.fltRetiredCount]) (s.laneMarked l) (s.laneGone l bit faults) :=
  (State.raise_eff ..).after (((State.retire_eff ..).after Eff.refl rfl).flag rfl (KeySet.any_fam _ rfl)) rfl

theorem State.laneGone_state (hl : l < 8) {i : Nat} (hi : i < 8) :
    (s.laneGone l bit faults).rd (K.laneLaneState i) = if i = l then 3 else s.rd (K.laneLaneState i) := by
  rw [(s.laneGone_eff bit faults l).rd_inst hi, State.laneMarked_state]
  simp only [K.laneLaneState, instKey, Nat.div_eq_of_lt hi, Nat.div_eq_of_lt hl]
  congr 1
  exact propext ⟨fun h => by omega, fun h => by rw [h]⟩

theorem State.laneGone_lanes (hl : l < 8) :
    (s.laneGone l bit faults).rd (K.spsRxLanes (l / 4)) = s.rd (K.spsRxLanes (l / 4)) := by
  have hp : l / 4 < 2 := by omega
  rw [(s.laneGone_eff bit faults l).rd_inst hp, (s.laneMarked_eff l).rd_inst hp]

theorem State.laneGone_retired : (s.laneGone l bit faults).rd K.fltRetiredCount = (s.rd K.fltRetiredCount + 1) % 2 ^ 16 ∧
    (s.laneGone l bit faults).rd K.fltLastRetiredUnit = calUnit (calLane l) := by
  obtain ⟨hcount, hunit⟩ := (s.laneMarked l).retire_entries (calUnit (calLane l)) bit faults
  rw [(s.laneMarked_eff l).rd _ rfl] at hcount
  unfold State.laneGone
  refine ⟨?_, ?_⟩
  · rw [State.raise_rd, State.flag_rd_ne _ _ _ (ne_instKey _ rfl), hcount]
  · rw [State.raise_rd, State.flag_rd_ne _ _ _ (ne_instKey _ rfl), hunit]

theorem State.laneShed_rd (l : Nat) {k : Nat} (h : k ≠ K.spsRxLanes (l / 4)) : (s.laneShed l).rd k = s.rd k := by
  unfold State.laneShed
  rw [State.rd_skOut, State.rd_setSkPort, State.rd_wr_ne _ _ h]

theorem State.laneShed_lanes (l : Nat) : (s.laneShed l).rd (K.spsRxLanes (l / 4)) = s.shedMap l := by
  unfold State.laneShed
  rw [State.rd_skOut, State.rd_setSkPort, State.rd_wr_self]

theorem State.laneShed_deaf (l : Nat) : ((s.laneShed l).skPort (l / 4)).deaf = true := by
  have hport := (s.wr (K.spsRxLanes (l / 4)) (s.shedMap l)).skPort_setSkPort (l / 4)
    { (s.wr (K.spsRxLanes (l / 4)) (s.shedMap l)).skPort (l / 4) with asked := some (s.shedMap l), deaf := true } (l / 4)
  rw [if_pos rfl] at hport
  exact congrArg SklPort.deaf hport

/-- A lane of a port with another left is retired, and the port goes on. -/
theorem State.laneRetire_sheds (hl : l < 8) (hm : s.shedMap l ≠ 0) : s.laneRetire l bit faults = (s.laneGone l bit faults).laneShed l := by
  have hmap : (s.laneGone l bit faults).shedMap l = s.shedMap l := by
    rw [State.shedMap, State.laneGone_lanes _ _ _ hl]
    rfl
  rw [← hmap] at hm
  unfold State.laneRetire
  extract_lets p x y z map w
  have hz : z = s.laneGone l bit faults := rfl
  exact if_neg (by rw [show map = z.shedMap l from rfl, hz]; exact hm)

/-- What a lane's retirement leaves, when its port goes on. -/
theorem State.laneRetire_entries (hl : l < 8) (hm : s.shedMap l ≠ 0) :
    (s.laneRetire l bit faults).rd (K.laneLaneState l) = 3 ∧
    (s.laneRetire l bit faults).rd (K.spsRxLanes (l / 4)) = s.shedMap l ∧
    (s.laneRetire l bit faults).rd K.fltRetiredCount = (s.rd K.fltRetiredCount + 1) % 2 ^ 16 ∧
    (s.laneRetire l bit faults).rd K.fltLastRetiredUnit = calUnit (calLane l) ∧
    ((s.laneRetire l bit faults).skPort (l / 4)).deaf = true ∧
    ∀ i, i < 8 → i ≠ l → (s.laneRetire l bit faults).rd (K.laneLaneState i) = s.rd (K.laneLaneState i) := by
  have hp : l / 4 < 2 := by omega
  have hlane : ∀ i, K.laneLaneState i ≠ K.spsRxLanes (l / 4) := fun i => (instKey_ne_above i hp).symm
  obtain ⟨hcount, hunit⟩ := s.laneGone_retired (l := l) bit faults
  rw [State.laneRetire_sheds s bit faults hl hm]
  refine ⟨?_, ?_, ?_, ?_, State.laneShed_deaf .., fun i hi hne => ?_⟩
  · rw [State.laneShed_rd _ _ (hlane l), State.laneGone_state _ _ _ hl hl, if_pos rfl]
  · rw [State.laneShed_lanes, State.shedMap, State.laneGone_lanes _ _ _ hl]
    rfl
  · rw [State.laneShed_rd _ _ (ne_instKey _ rfl), hcount]
  · rw [State.laneShed_rd _ _ (ne_instKey _ rfl), hunit]
  · rw [State.laneShed_rd _ _ (hlane i), State.laneGone_state _ _ _ hl hi, if_neg hne]

end

/-! ### A lane's faults (R447, R501, R503) -/

section
variable {l n : Nat} {s : State}

theorem laneLockLost_retires (h : s.skLaneState l = 2) (hu : s.skUp (l / 4) = true)
    (hb : bitOf (s.rd (K.spsRxLanes (l / 4))) (l % 4) = true) (hr : s.rd (K.spsRxState (l / 4)) ≠ 2) :
    laneLockLost l s = s.laneRetire l 0 1 := by
  rw [laneLockLost, if_neg (by simp [h]), if_pos hu]
  exact if_neg (by simp [hb, hr])

theorem laneLockLost_hunts (h : s.skLaneState l = 2) (hu : s.skUp (l / 4) = false) (ht : s.skTrain (l / 4) = 1) :
    laneLockLost l s = s.wr (K.laneLaneState l) 1 := by
  rw [laneLockLost, if_neg (by simp [h]), if_neg (by simp [hu])]
  exact (if_neg (by simp [ht])).trans (if_pos ht)

/-- Bad headers are counted, and are one transient fault of the lane. -/
def State.laneFaulted (s : State) (l n : Nat) : State :=
  (s.add 32 (K.laneHeaderErrors l) n).transient (calUnit (calLane l)) 0 (s.rd (K.spRetryWindow (l / 4)))

theorem State.laneFaulted_eff (s : State) (l n : Nat) : Eff sideParts (sideAnd [.fam (K.laneHeaderErrors 0) 8, .one K.fltFaultStatus,
    .one K.fltTransientCount]) s (s.laneFaulted l n) :=
  (State.transient_eff ..).after (Eff.refl.add rfl (KeySet.any_fam _ rfl)) rfl

theorem State.laneFaulted_lane (s : State) (hl : l < 8) (n : Nat) :
    (s.laneFaulted l n).rd (K.laneHeaderErrors l) = (s.rd (K.laneHeaderErrors l) + n) % 2 ^ 32 ∧
    ∀ i, i < 8 → (s.laneFaulted l n).rd (K.laneLaneState i) = s.rd (K.laneLaneState i) := by
  refine ⟨?_, fun i hi => (s.laneFaulted_eff l n).rd_inst hi⟩
  rw [State.laneFaulted, (State.transient_eff ..).rd_inst hl, State.rd_add_self]

theorem State.laneFaulted_count (s : State) (l n : Nat) :
    (s.laneFaulted l n).rd K.fltTransientCount = (s.rd K.fltTransientCount + 1) % 2 ^ 32 := by
  rw [State.laneFaulted, State.transient_count, State.add, State.rd_wr_ne _ _ (ne_instKey _ rfl)]

theorem State.laneFaulted_policy (s : State) (hl : l < 8) (n : Nat) :
    (s.laneFaulted l n).rd (K.spRetryCount (l / 4)) = s.rd (K.spRetryCount (l / 4)) ∧
    (s.laneFaulted l n).rd (K.spRetryWindow (l / 4)) = s.rd (K.spRetryWindow (l / 4)) := by
  have hp : l / 4 < 2 := by omega
  exact ⟨(s.laneFaulted_eff l n).rd_inst hp, (s.laneFaulted_eff l n).rd_inst hp⟩

theorem State.laneFaulted_keeps (s : State) (l n : Nat) {count : Nat}
    (h : (s.faultsIn (calUnit (calLane l)) (s.rd (K.spRetryWindow (l / 4)))).length + 1 ≤ count) :
    (s.laneFaulted l n).breaks (calUnit (calLane l)) count (s.rd (K.spRetryWindow (l / 4))) = false :=
  State.transient_keeps (s.add 32 (K.laneHeaderErrors l) n) (calUnit (calLane l)) 0 (s.rd (K.spRetryWindow (l / 4))) h

theorem State.laneFaulted_breaks (s : State) (l n : Nat) (hw : s.rd (K.spRetryWindow (l / 4)) ≠ 0) :
    (s.laneFaulted l n).breaks (calUnit (calLane l)) 0 (s.rd (K.spRetryWindow (l / 4))) = true :=
  State.transient_breaks (s.add 32 (K.laneHeaderErrors l) n) (calUnit (calLane l)) 0 (s.rd (K.spRetryWindow (l / 4))) hw

/-- Four bad headers or more are a fault, which retires the lane when it breaks the policy. -/
theorem laneFault_counts (hl : l < 8) (hu : s.skUp (l / 4) = true) (hb : bitOf (s.rd (K.spsRxLanes (l / 4))) (l % 4) = true)
    (hn : 4 ≤ n) : laneFault l n s =
      if (s.laneFaulted l n).breaks (calUnit (calLane l)) (s.rd (K.spRetryCount (l / 4))) (s.rd (K.spRetryWindow (l / 4))) = true then
        (s.laneFaulted l n).laneRetire l 0
          ((s.laneFaulted l n).faultsIn (calUnit (calLane l)) (s.rd (K.spRetryWindow (l / 4)))).length
      else s.laneFaulted l n := by
  obtain ⟨hcount, hwindow⟩ := s.laneFaulted_policy hl n
  have hdef : laneFault l n s =
      if (s.laneFaulted l n).breaks (calUnit (calLane l)) ((s.laneFaulted l n).rd (K.spRetryCount (l / 4)))
          ((s.laneFaulted l n).rd (K.spRetryWindow (l / 4))) = true then
        (s.laneFaulted l n).laneRetire l 0
          ((s.laneFaulted l n).faultsIn (calUnit (calLane l)) ((s.laneFaulted l n).rd (K.spRetryWindow (l / 4)))).length
      else s.laneFaulted l n := by
    rw [laneFault, if_neg (by simp [hu, hb]; omega)]
    rfl
  rw [hdef, hcount, hwindow]

end

/-! ### Lane maps (R443, R447) -/

section
variable {p : Nat} {s : State}

/-- The peer's map waits for the marker. -/
def State.laneMapped (s : State) (p mask : Nat) : State :=
  (s.wr (K.spsRxState p) 0).setSkPort p { s.skPort p with wanted := some (mask % 16) }

theorem laneMap_up (hu : s.skUp p = true) (mask : Nat) : laneMap p mask s = s.laneMapped p mask := if_neg (by simp [hu])

theorem State.laneMapped_eff (s : State) (p mask : Nat) : Eff [.regs, .link] [.one (K.spsRxState p)] s (s.laneMapped p mask) :=
  (State.setSkPort_eff ..).after (Eff.refl.wr rfl (by simp [KeySet.has])) (fits_of_subset (by decide) (List.nil_subset _))

/-- An entry takes a value that may be absent. -/
def State.wrSome (s : State) (k : Nat) : Option Nat → State
  | some m => s.wr k m
  | none => s

theorem State.wrSome_rd (s : State) (k : Nat) (o : Option Nat) (j : Nat) :
    (s.wrSome k o).rd j = if j = k then o.getD (s.rd k) else s.rd j := by
  cases o with
  | none => by_cases h : j = k <;> simp [State.wrSome, h]
  | some m => exact State.rd_wr ..

theorem Eff.wrSome {ps : List Part} {ks : List KeySet} {s x : State} (h : Eff ps ks s x) (hr : ps.contains .regs = true) {k : Nat}
    (o : Option Nat) (hk : (ks.any fun z => z.has k) = true) : Eff ps ks s (x.wrSome k o) := by
  cases o with
  | none => exact h
  | some m => exact h.wr hr hk

/-- The marker puts the maps that waited in force. -/
def State.marked (s : State) (p : Nat) : State :=
  (((s.wr (K.spsRxState p) 0).wrSome (K.spsTxLanes p) (s.skPort p).wanted).wrSome (K.spsRxLanes p) (s.skPort p).asked).setSkPort p
    { s.skPort p with wanted := none, asked := none, deaf := false }

theorem marker_up (hu : s.skUp p = true) : marker p s = s.marked p := by
  rw [marker, if_neg (by simp [hu])]
  rfl

theorem State.marked_eff (s : State) (p : Nat) :
    Eff [.regs, .link] [.one (K.spsRxState p), .one (K.spsTxLanes p), .one (K.spsRxLanes p)] s (s.marked p) := by
  refine (State.setSkPort_eff ..).after (((Eff.refl.wr rfl ?_).wrSome rfl _ ?_).wrSome rfl _ ?_)
    (fits_of_subset (by decide) (List.nil_subset _))
  all_goals simp [KeySet.has]

theorem State.marked_lanes (s : State) (p : Nat) :
    (s.marked p).rd (K.spsTxLanes p) = (s.skPort p).wanted.getD (s.rd (K.spsTxLanes p)) ∧
    (s.marked p).rd (K.spsRxLanes p) = (s.skPort p).asked.getD (s.rd (K.spsRxLanes p)) := by
  unfold State.marked
  refine ⟨?_, ?_⟩
  · rw [State.rd_setSkPort, State.wrSome_rd, if_neg (instKey_ne _ _), State.wrSome_rd, if_pos rfl, State.rd_wr_ne _ _ (instKey_ne _ _)]
  · rw [State.rd_setSkPort, State.wrSome_rd, if_pos rfl, State.wrSome_rd, if_neg (instKey_ne _ _), State.rd_wr_ne _ _ (instKey_ne _ _)]

end

/-! ### What a pass over a port's lanes leaves of one lane -/

/-- A pass that touches each instance once leaves of each what its own turn makes of it. -/
theorem foldl_view {α : Type} {f : State → Nat → State} {view : State → α} {g : α → α} {i n : Nat}
    (hf : ∀ x j, j < n → view (f x j) = if i = j then g (view x) else view x) :
    ∀ (l : List Nat) (s : State), l.Nodup → (∀ j ∈ l, j < n) → view (l.foldl f s) = if i ∈ l then g (view s) else view s
  | [], _, _, _ => rfl
  | j :: l, s, hl, hn => by
    obtain ⟨hj, hl⟩ := List.nodup_cons.mp hl
    rw [List.foldl_cons, foldl_view hf l (f s j) hl fun m hm => hn m (List.mem_cons_of_mem j hm), hf s j (hn j List.mem_cons_self)]
    by_cases hij : i = j
    · subst hij
      rw [if_pos rfl, if_neg hj, if_pos List.mem_cons_self]
    · rw [if_neg hij]
      simp only [List.mem_cons, hij, false_or]

/-- A pass keeps what each of its turns keeps. -/
theorem foldl_keeps {α : Type} {f : State → Nat → State} {view : State → α} (hf : ∀ x j, view (f x j) = view x) :
    ∀ (l : List Nat) (s : State), view (l.foldl f s) = view s
  | [], _ => rfl
  | j :: l, s => (foldl_keeps hf l (f s j)).trans (hf s j)

theorem range_view {α : Type} {f : State → Nat → State} {view : State → α} {g : α → α} {i n : Nat} (hi : i < n)
    (hf : ∀ x j, j < n → view (f x j) = if i = j then g (view x) else view x) (s : State) :
    view ((List.range n).foldl f s) = g (view s) :=
  (foldl_view hf _ s List.nodup_range fun _ => List.mem_range.mp).trans (if_pos (List.mem_range.mpr hi))

theorem mem_lanesOf {m i : Nat} : i ∈ lanesOf m ↔ i < 4 ∧ bitOf m i = true := by rw [lanesOf, List.mem_filter, List.mem_range]

theorem lanesOf_view {α : Type} {f : State → Nat → State} {view : State → α} {g : α → α} {i : Nat} (m : Nat)
    (hf : ∀ x j, j < 4 → view (f x j) = if i = j then g (view x) else view x) (s : State) :
    view ((lanesOf m).foldl f s) = if i ∈ lanesOf m then g (view s) else view s :=
  foldl_view hf _ s (List.nodup_range.filter _) fun _ hj => (mem_lanesOf.mp hj).1

section
variable {p i j : Nat} (hp : p < 2) (hi : i < 4) (hj : j < 4)
include hp hi

theorem lane_lt : 4 * p + i < 8 := by omega

include hj

/-- Two lanes of a port have an entry in common only when they are one. -/
theorem laneKey_iff {a : Nat} : instKey a 8 (4 * p + i) = instKey a 8 (4 * p + j) ↔ i = j := by
  simp only [instKey, Nat.div_eq_of_lt (lane_lt hp hi), Nat.div_eq_of_lt (lane_lt hp hj)]
  omega

end

/-! ### Re-admission (R449) -/

/-- What a readmission acts on of a lane. -/
def State.laneView (s : State) (l : Nat) : Nat × SklLane := (s.skLaneState l, s.skLane l)

/-- A lane's view once `LaneReadmit` was written with the lane's bit at `b`: a retired lane hunts to rejoin. -/
def rejoining (b : Bool) (v : Nat × SklLane) : Nat × SklLane := if b ∧ v.1 = 3 then (1, { v.2 with rejoin := true }) else v

section
variable {p mask : Nat} {s : State}

/-- A retired lane hunts again. -/
def State.laneReadmitted (s : State) (l : Nat) : State :=
  ((s.readmit (calUnit (calLane l))).wr (K.laneLaneState l) 1).setSkLane l { s.skLane l with rejoin := true }

theorem State.laneReadmitted_view (hp : p < 2) {i j : Nat} (hi : i < 4) (hj : j < 4) :
    (s.laneReadmitted (4 * p + j)).laneView (4 * p + i) =
      if i = j then (1, { s.skLane (4 * p + j) with rejoin := true }) else s.laneView (4 * p + i) := by
  have hold : (s.readmit (calUnit (calLane (4 * p + j)))).skLane (4 * p + i) = s.skLane (4 * p + i) :=
    (State.readmit_eff ..).skLane rfl _
  rw [State.laneReadmitted, State.laneView, State.skLaneState, State.rd_setSkLane, State.rd_wr, State.skLane_setSkLane,
    (State.readmit_eff ..).rd_inst (lane_lt hp hi)]
  simp only [laneKey_iff hp hi hj, Nat.add_left_cancel_iff]
  split
  · rfl
  · exact congrArg (Prod.mk _) hold

theorem readmitLane_view (hp : p < 2) {i j : Nat} (hi : i < 4) (hj : j < 4) :
    (readmitLane p mask s j).laneView (4 * p + i) =
      if i = j then rejoining (bitOf mask i) (s.laneView (4 * p + i)) else s.laneView (4 * p + i) := by
  by_cases h : bitOf mask j = true ∧ s.skLaneState (4 * p + j) = 3
  · rw [show readmitLane p mask s j = s.laneReadmitted (4 * p + j) from if_pos h, State.laneReadmitted_view hp hi hj]
    split
    · next hij => subst hij; exact (if_pos h).symm
    · rfl
  · rw [show readmitLane p mask s j = s from if_neg h]
    split
    · next hij => subst hij; exact (if_neg h).symm
    · rfl

end

/-- Settles O49: a lane locks, falls, counts its faults and is retired or readmitted, and a map waits for its marker. -/
theorem laneCommands : Obligations.LaneCommands := by
  refine ⟨fun l s hl h ht => ?locks, fun l s hl h ht hr => ?rejoins, fun l s hl h hu hb hr hm => ?loses, fun l s hl h hu ht => ?hunts,
    fun l n s hl hu hb hn hc => ?faults, fun l n s hl hu hb hn hc hw hm => ?breaks, fun p mask s hp hu => ?maps,
    fun p s hp hu => ?marks, fun a p s hw hp => ?readmits⟩
  case locks =>
    refine ⟨_, inst_eq_next hl (laneLock_hunting h ht), State.rd_wr_self .., ?_, fun i _ => rfl, (s.laneLocked_eff l).frame⟩
    exact congrArg SklPort.firstLock (((s.wr (K.laneLaneState l) 2).skPort_setSkPort (l / 4) _ (l / 4)).trans (if_pos rfl))
  case rejoins =>
    refine ⟨_, inst_eq_next hl (laneLock_rejoins h ht hr), State.rd_wr_self .., ?_, ?_, rfl, fun i hi => ?_, (s.laneRejoined_eff l).frame⟩
    · exact congrArg SklLane.rejoin (((s.wr (K.laneLaneState l) 2).skLane_setSkLane l _ l).trans (if_pos rfl))
    · exact congrArg SklPort.asked (((((s.wr (K.laneLaneState l) 2).setSkLane l _)).skPort_setSkPort (l / 4) _ (l / 4)).trans (if_pos rfl))
    · exact ((s.wr (K.laneLaneState l) 2).skLane_setSkLane l _ i).trans (if_neg hi)
  case loses =>
    obtain ⟨hstate, hmap, hcount, hunit, hdeaf, hkeep⟩ := s.laneRetire_entries 0 1 hl hm
    have heq := laneLockLost_retires h hu hb hr
    exact ⟨_, inst_eq_next hl heq, hstate, hmap, hcount, hunit, hdeaf, hkeep, (Eff.to heq.symm (laneLockLost_eff l s)).frame⟩
  case hunts =>
    exact ⟨_, inst_eq_next hl (laneLockLost_hunts h hu ht), State.rd_wr_self .., (Eff.refl.wr rfl (by simp [KeySet.has])).frame⟩
  case faults =>
    obtain ⟨herrors, hstate⟩ := s.laneFaulted_lane hl n
    have heq : laneFault l n s = s.laneFaulted l n :=
      (laneFault_counts hl hu hb hn).trans (if_neg (by rw [s.laneFaulted_keeps l n hc]; decide))
    exact ⟨_, inst_eq_next hl heq, herrors, s.laneFaulted_count l n, hstate l hl, (Eff.to heq.symm (laneFault_eff l n s)).frame⟩
  case breaks =>
    have hbreaks := s.laneFaulted_breaks l n hw
    have heq := (laneFault_counts hl hu hb hn).trans (if_pos (by rw [hc]; exact hbreaks))
    have hlanes : (s.laneFaulted l n).shedMap l = s.shedMap l := by
      have hp : l / 4 < 2 := by omega
      rw [State.shedMap, (s.laneFaulted_eff l n).rd_inst hp]
      rfl
    have hretired : (s.laneFaulted l n).rd K.fltRetiredCount = s.rd K.fltRetiredCount := (s.laneFaulted_eff l n).rd _ rfl
    obtain ⟨-, hold⟩ := s.laneFaulted_lane hl n
    obtain ⟨hstate, hmap, hcount, hunit, hdeaf, hkeep⟩ := (s.laneFaulted l n).laneRetire_entries 0
      ((s.laneFaulted l n).faultsIn (calUnit (calLane l)) (s.rd (K.spRetryWindow (l / 4)))).length hl (by rw [hlanes]; exact hm)
    exact ⟨_, inst_eq_next hl heq, hstate, hmap.trans hlanes, by rw [hcount, hretired], hunit, hdeaf,
      fun i hi hne => (hkeep i hi hne).trans (hold i hi), (Eff.to heq.symm (laneFault_eff l n s)).frame⟩
  case maps =>
    have hport := (s.wr (K.spsRxState p) 0).skPort_setSkPort p { s.skPort p with wanted := some (mask % 16) }
    refine ⟨_, inst_eq_next hp (laneMap_up hu mask), ?_, State.rd_wr_self .., fun q hq => (hport q).trans (if_neg hq),
      (s.laneMapped_eff p mask).frame⟩
    exact congrArg SklPort.wanted ((hport p).trans (if_pos rfl))
  case marks =>
    obtain ⟨htx, hrx⟩ := s.marked_lanes p
    have hport : ∀ q, (s.marked p).skPort q = if q = p then { s.skPort p with wanted := none, asked := none, deaf := false } else s.skPort q := by
      intro q
      rw [State.marked, State.skPort_setSkPort]
      cases (s.skPort p).wanted <;> cases (s.skPort p).asked <;> rfl
    have hown := (hport p).trans (if_pos rfl)
    exact ⟨_, inst_eq_next hp (marker_up hu), htx, hrx, congrArg SklPort.deaf hown, congrArg SklPort.wanted hown,
      congrArg SklPort.asked hown, fun q hq => (hport q).trans (if_neg hq), (s.marked_eff p).frame⟩
  case readmits =>
    have heff : Eff (withSide [.link]) (sideAnd [.fam (K.laneLaneState 0) 8, .one K.fltRetiredCount]) s
        ((List.range 4).foldl (readmitLane p (accVal a (K.spsLaneReadmit p))) s) :=
      Eff.foldl (fun x i hx => (readmitLane_eff ..).after hx rfl) Eff.refl
    have hdone := State.done_ok_eff ((List.range 4).foldl (readmitLane p (accVal a (K.spsLaneReadmit p))) s) a (K.spsLaneReadmit p)
    have hview : ∀ i, i < 4 → (((List.range 4).foldl (readmitLane p (accVal a (K.spsLaneReadmit p))) s).done a (K.spsLaneReadmit p) 0).laneView
        (4 * p + i) = rejoining (bitOf (accVal a (K.spsLaneReadmit p)) i) (s.laneView (4 * p + i)) := fun i hi => by
      have hlane : 4 * p + i < 8 := by omega
      rw [State.laneView, hdone.skLane rfl, State.skLaneState, hdone.rd_inst hlane]
      exact range_view (view := fun x => x.laneView (4 * p + i)) hi (fun x j hj => readmitLane_view hp hi hj) s
    refine ⟨_, inst_eq_next hp (State.act_ok hw rfl), fun i hi hb h => ?_, fun i hi h => ?_, State.done_ok_status ..,
      (okSide_eq a _ (heff.done_ok rfl)).frame⟩
    · have hnew := (hview i hi).trans (if_pos ⟨hb, h⟩)
      exact ⟨congrArg Prod.fst hnew, congrArg (fun v => SklLane.rejoin (Prod.snd v)) hnew⟩
    · have hnew := (hview i hi).trans (if_neg fun hc => h hc.2)
      exact ⟨congrArg Prod.fst hnew, congrArg Prod.snd hnew⟩

end Sys2Proof.Machine

/-! SUPPORT. Training of a Skobaty port (O50): hunting, the exchange of capabilities, a speed step, its tuning and check, the fall back,
and alignment. -/

namespace Sys2Proof.Machine

-- The proofs of this part are checked one after another, in one thread.
set_option Elab.async false

/-! ### A lane's entries -/

theorem State.skPort_wr (s : State) (k v q : Nat) : (s.wr k v).skPort q = s.skPort q := rfl

theorem State.skLane_wr (s : State) (k v l : Nat) : (s.wr k v).skLane l = s.skLane l := rfl

section
variable {p i j : Nat} (hp : p < 2) (hi : i < 4) (hj : j < 4) (s : State)
include hp hi hj

/-- Taps set for one lane of a port are that lane's own. -/
theorem State.setTaps_taps (a b c : Nat) :
    (s.setTaps (4 * p + j) a b c).taps (4 * p + i) = if i = j then (a, b, c) else s.taps (4 * p + i) := by
  unfold State.taps State.setTaps
  rw [State.rd_wr_ne _ _ (instKey_ne _ _), State.rd_wr_ne _ _ (instKey_ne _ _), State.rd_wr, State.rd_wr_ne _ _ (instKey_ne _ _),
    State.rd_wr, State.rd_wr_ne _ _ (instKey_ne _ _), State.rd_wr, State.rd_wr_ne _ _ (instKey_ne _ _),
    State.rd_wr_ne _ _ (instKey_ne _ _)]
  simp only [laneKey_iff hp hi hj]
  split <;> rfl

/-- A write to one lane's entry of a port is that lane's own. -/
theorem State.rd_wr_lane {a v : Nat} :
    (s.wr (instKey a 8 (4 * p + j)) v).rd (instKey a 8 (4 * p + i)) = if i = j then v else s.rd (instKey a 8 (4 * p + i)) := by
  rw [State.rd_wr]
  simp only [laneKey_iff hp hi hj]

end

/-! ### HUNT (R443) -/

section
variable (s : State) (p : Nat)

theorem huntLane_skPort (m q : Nat) (x : State) (i : Nat) : (huntLane m p x i).skPort q = x.skPort q := by
  unfold huntLane
  split <;> rfl

/-- What a hunting port knows of its peer and of its earlier training. -/
def SklPort.hunting (x : SklPort) : SklPort :=
  { x with firstLock := none, lanes := 0, peer := none, prev := 0, next := 0, fell := false, asked := none, wanted := none, deaf := false }

/-- The entries of a hunting port and of its lanes, before its record. -/
def State.huntSet (s : State) (p : Nat) : State :=
  ((((((List.range 4).foldl (huntLane (s.rd (K.spLaneMask p)) p) s).wr (K.spsLinkState p) 2).wr (K.spsTrainState p) 1).wr
    (K.spsSpeed p) 0).wr (K.spsRxLanes p) 0).wr (K.spsTxLanes p) 0

theorem State.sklHunt_set : s.sklHunt p = (s.huntSet p).setSkPort p ((s.huntSet p).skPort p).hunting := rfl

theorem State.huntSet_skPort (q : Nat) : (s.huntSet p).skPort q = s.skPort q := by
  unfold State.huntSet
  simp only [State.skPort_wr]
  exact foldl_keeps (view := fun x => x.skPort q) (fun x i => huntLane_skPort p _ q x i) (List.range 4) s

theorem State.sklHunt_skPort (q : Nat) : (s.sklHunt p).skPort q = if q = p then (s.skPort p).hunting else s.skPort q := by
  rw [State.sklHunt_set, State.skPort_setSkPort, State.huntSet_skPort, State.huntSet_skPort]

theorem State.sklHunt_entries : (s.sklHunt p).rd (K.spsLinkState p) = 2 ∧ (s.sklHunt p).rd (K.spsTrainState p) = 1 ∧
    (s.sklHunt p).rd (K.spsSpeed p) = 0 ∧ (s.sklHunt p).rd (K.spsRxLanes p) = 0 ∧ (s.sklHunt p).rd (K.spsTxLanes p) = 0 := by
  simp only [State.sklHunt_set, State.rd_setSkPort]
  unfold State.huntSet
  refine ⟨?_, ?_, ?_, ?_, State.rd_wr_self ..⟩
  · rw [State.rd_wr_ne _ _ (instKey_ne _ _), State.rd_wr_ne _ _ (instKey_ne _ _), State.rd_wr_ne _ _ (instKey_ne _ _),
      State.rd_wr_ne _ _ (instKey_ne _ _), State.rd_wr_self]
  · rw [State.rd_wr_ne _ _ (instKey_ne _ _), State.rd_wr_ne _ _ (instKey_ne _ _), State.rd_wr_ne _ _ (instKey_ne _ _), State.rd_wr_self]
  · rw [State.rd_wr_ne _ _ (instKey_ne _ _), State.rd_wr_ne _ _ (instKey_ne _ _), State.rd_wr_self]
  · rw [State.rd_wr_ne _ _ (instKey_ne _ _), State.rd_wr_self]

/-- A port before its training: its routes forgotten if it was UP, and the training counted. -/
def State.trainingBegun : State :=
  ((((if s.skUp p then s.forgetRoutes p else s).wr (K.spsTxState p) 0).wr (K.spsRxState p) 0).inc 32 (K.spsTrainings p))

theorem State.sklTrain_begun : s.sklTrain p = (s.trainingBegun p).sklHunt p := rfl

theorem State.trainingBegun_skPort (q : Nat) : (s.trainingBegun p).skPort q = s.skPort q := by
  unfold State.trainingBegun
  split <;> rfl

theorem State.trainingBegun_trainings : (s.trainingBegun p).rd (K.spsTrainings p) = (s.rd (K.spsTrainings p) + 1) % 2 ^ 32 := by
  unfold State.trainingBegun
  rw [State.rd_inc_self, State.rd_wr_ne _ _ (instKey_ne _ _), State.rd_wr_ne _ _ (instKey_ne _ _)]
  split <;> rfl

end

/-! ### The lanes that take part (R443) -/

section
variable {p : Nat} (s : State)

/-- The bits of a port's lanes that hold of `f`. -/
def laneMask (f : Nat → Bool) : Nat := ((List.range 4).filter f).foldl (fun m i => m + 2 ^ i) 0

/-- The mask of four lanes, each given. -/
def fourLanes (a b c d : Bool) : Nat := (if a then 1 else 0) + (if b then 2 else 0) + (if c then 4 else 0) + (if d then 8 else 0)

theorem bitOf_fourLanes : ∀ a b c d : Bool, bitOf (fourLanes a b c d) 0 = a ∧ bitOf (fourLanes a b c d) 1 = b ∧
    bitOf (fourLanes a b c d) 2 = c ∧ bitOf (fourLanes a b c d) 3 = d := by decide

theorem bitOf_laneMask (f : Nat → Bool) {i : Nat} (hi : i < 4) : bitOf (laneMask f) i = f i := by
  have hmask : laneMask f = fourLanes (f 0) (f 1) (f 2) (f 3) := by
    unfold laneMask fourLanes
    rw [show List.range 4 = [0, 1, 2, 3] from rfl]
    simp only [List.filter_cons, List.filter_nil]
    cases f 0 <;> cases f 1 <;> cases f 2 <;> cases f 3 <;> rfl
  obtain ⟨h0, h1, h2, h3⟩ := bitOf_fourLanes (f 0) (f 1) (f 2) (f 3)
  rw [hmask]
  match i, hi with
  | 0, _ => exact h0
  | 1, _ => exact h1
  | 2, _ => exact h2
  | 3, _ => exact h3

theorem dropLane_skPort (m q : Nat) (x : State) (i : Nat) : (dropLane p m x i).skPort q = x.skPort q := by
  unfold dropLane
  split <;> rfl

/-- The lanes outside `m` are off. -/
def State.dropLanes (s : State) (p m : Nat) : State := (List.range 4).foldl (dropLane p m) s

theorem State.dropLanes_skPort (p m q : Nat) : (s.dropLanes p m).skPort q = s.skPort q :=
  foldl_keeps (view := fun x => x.skPort q) (fun x i => dropLane_skPort m q x i) _ s

theorem State.dropLanes_eff (p m : Nat) : Eff [.regs] [.fam (K.laneLaneState 0) 8] s (s.dropLanes p m) :=
  Eff.foldl (fun x i hx => (dropLane_eff p m x i).after hx rfl) Eff.refl

theorem State.dropLanes_state (hp : p < 2) {i : Nat} (hi : i < 4) (m : Nat) :
    (s.dropLanes p m).rd (K.laneLaneState (4 * p + i)) = if bitOf m i then s.rd (K.laneLaneState (4 * p + i)) else 0 := by
  refine range_view (view := fun x => x.rd (K.laneLaneState (4 * p + i))) (g := fun v => if bitOf m i then v else 0) hi
    (fun x j hj => ?_) s
  unfold dropLane
  split
  · next h => split
              · next hij => subst hij; exact (if_pos h).symm
              · rfl
  · next h =>
    rw [State.rd_wr_lane hp hi hj]
    split
    · next hij => subst hij; exact (if_neg h).symm
    · rfl

/-- Ten milliseconds after the first lock the locked lanes take part, and the others are off. -/
def State.hunted (s : State) (p : Nat) : State :=
  let m := laneMask fun i => s.skLaneState (4 * p + i) == 2
  ((s.dropLanes p m).wr (K.spsTrainState p) 2).setSkPort p { (s.dropLanes p m).skPort p with lanes := m }

theorem sklHuntDone_hunted {s : State} {u : Nat} (h : (s.skPort p).firstLock = some u) (ht : s.skTrain p = 1) :
    sklHuntDone p s = (s.at (u + ms 10)).hunted p := by
  rw [sklHuntDone, h]
  exact if_neg (by simp [ht])

theorem State.hunted_skPort (p q : Nat) : (s.hunted p).skPort q =
    if q = p then { s.skPort p with lanes := laneMask fun i => s.skLaneState (4 * p + i) == 2 } else s.skPort q := by
  refine (State.skPort_setSkPort _ p _ q).trans ?_
  split
  · rw [State.dropLanes_skPort]
  · exact State.dropLanes_skPort ..

theorem State.hunted_state (hp : p < 2) {i : Nat} (hi : i < 4) :
    (s.hunted p).rd (K.laneLaneState (4 * p + i)) = if s.skLaneState (4 * p + i) = 2 then 2 else 0 := by
  unfold State.hunted
  rw [State.rd_setSkPort, State.rd_wr_ne _ _ (instKey_ne_above (a := K.spsTrainState 0) _ hp).symm, State.dropLanes_state s hp hi, bitOf_laneMask _ hi]
  by_cases h : s.skLaneState (4 * p + i) = 2
  · simp only [h, BEq.rfl, if_true]
    exact h
  · rw [if_neg (by simpa using h), if_neg h]

end

/-! ### CAP (R443) -/

section
variable {p : Nat} {c : SklCap} {s : State}

/-- The lanes both sides offer. -/
def State.capLanes (s : State) (p : Nat) (c : SklCap) : Nat := (s.skPort p).lanes &&& c.lanes

theorem State.nextSpeed_dropLanes (hp : p < 2) (s : State) (m offered : Nat) : (s.dropLanes p m).nextSpeed p offered = s.nextSpeed p offered := by
  unfold State.nextSpeed
  rw [State.dropLanes_skPort, (s.dropLanes_eff p m).rd_inst hp, (s.dropLanes_eff p m).rd_inst hp]

theorem sklCapDone_hunts (ht : s.skTrain p = 2) (hm : s.capLanes p c = 0) : sklCapDone p c s = s.sklHunt p := by
  rw [sklCapDone, if_neg (by simp [ht])]
  exact if_pos hm

/-- A speed step is prepared, between the lanes both sides offer. -/
def State.capStep (s : State) (p : Nat) (c : SklCap) (v : Nat) : State :=
  let x := s.dropLanes p (s.capLanes p c)
  (x.setSkPort p { s.skPort p with lanes := s.capLanes p c, peer := some c.node, prev := x.rd (K.spsSpeed p), next := v }).wr
    (K.spsTrainState p) 3

/-- The lanes both sides offer are aligned at their present speed. -/
def State.capAlign (s : State) (p : Nat) (c : SklCap) : State :=
  ((s.dropLanes p (s.capLanes p c)).setSkPort p { s.skPort p with lanes := s.capLanes p c, peer := some c.node }).wr (K.spsTrainState p) 6

theorem sklCapDone_goes (hp : p < 2) (ht : s.skTrain p = 2) (hm : s.capLanes p c ≠ 0) :
    sklCapDone p c s = match s.nextSpeed p c.speeds with
      | some v => s.capStep p c v
      | none => s.capAlign p c := by
  rw [← State.nextSpeed_dropLanes hp s (s.capLanes p c), sklCapDone, if_neg (by simp [ht])]
  exact if_neg hm

theorem State.capStep_skPort (v q : Nat) : (s.capStep p c v).skPort q =
    if q = p then { s.skPort p with
      lanes := s.capLanes p c, peer := some c.node, prev := (s.dropLanes p (s.capLanes p c)).rd (K.spsSpeed p), next := v }
    else s.skPort q := by
  unfold State.capStep
  rw [State.skPort_wr, State.skPort_setSkPort, State.dropLanes_skPort]

theorem State.capAlign_skPort (q : Nat) : (s.capAlign p c).skPort q =
    if q = p then { s.skPort p with lanes := s.capLanes p c, peer := some c.node } else s.skPort q := by
  unfold State.capAlign
  rw [State.skPort_wr, State.skPort_setSkPort, State.dropLanes_skPort]

end

/-! ### A speed step and its fall back (R445, R446) -/

section
variable {p : Nat} (s : State)

theorem tuneLane_skPort (q : Nat) (x : State) (i : Nat) : (tuneLane p x i).skPort q = x.skPort q := rfl

/-- Every lane that takes part enters TUNE. -/
def State.tuned (s : State) (p : Nat) : State := (lanesOf (s.skPort p).lanes).foldl (tuneLane p) s

theorem State.tuned_skPort (p q : Nat) : (s.tuned p).skPort q = s.skPort q :=
  foldl_keeps (view := fun x => x.skPort q) (tuneLane_skPort q) (lanesOf (s.skPort p).lanes) s

theorem State.tuned_eff (p : Nat) : Eff [.regs, .link] [.fam (K.laneTxPre 0) 8, .fam (K.laneTxMain 0) 8, .fam (K.laneTxPost 0) 8] s
    (s.tuned p) := Eff.foldl (fun x i hx => (tuneLane_eff p x i).after hx rfl) Eff.refl

theorem State.tuned_taps (hp : p < 2) {i : Nat} (hi : i < 4) (hb : bitOf (s.skPort p).lanes i = true) :
    (s.tuned p).taps (4 * p + i) = (4, 47, 12) := by
  refine (lanesOf_view (view := fun x => x.taps (4 * p + i)) (g := fun _ => (4, 47, 12)) (s.skPort p).lanes (fun x j hj => ?_) s).trans
    (if_pos (mem_lanesOf.mpr ⟨hi, hb⟩))
  exact State.setTaps_taps hp hi hj (x.setSkLane (4 * p + j) { taps := x.taps (4 * p + j) }) 4 47 12

/-- The step begins at its speed. -/
def State.stepped (s : State) (p : Nat) : State :=
  (((s.tuned p).wr (K.spsSpeed p) (s.skPort p).next).wr (K.spsTrainState p) 4).setSkPort p
    { (s.tuned p).skPort p with tuneAt := (s.tuned p).now }

theorem sklSwitchDone_locked {s : State} (ht : s.skTrain p = 3) : sklSwitchDone p true s = s.stepped p := by
  rw [sklSwitchDone, if_neg (by simp [ht])]
  rfl

theorem sklSwitchDone_fails {s : State} (ht : s.skTrain p = 3) : sklSwitchDone p false s = (s.tuned p).sklFall p := by
  rw [sklSwitchDone, if_neg (by simp [ht])]
  rfl

theorem State.stepped_eff (p : Nat) : Eff [.regs, .link] [.one (K.spsSpeed p), .one (K.spsTrainState p), .fam (K.laneTxPre 0) 8,
    .fam (K.laneTxMain 0) 8, .fam (K.laneTxPost 0) 8] s (s.stepped p) := by
  have htuned : Eff [.regs, .link] [.one (K.spsSpeed p), .one (K.spsTrainState p), .fam (K.laneTxPre 0) 8, .fam (K.laneTxMain 0) 8,
      .fam (K.laneTxPost 0) 8] s (s.tuned p) :=
    (s.tuned_eff p).after Eff.refl (fits_of_subset (by decide) (fun k hk => List.mem_cons_of_mem _ (List.mem_cons_of_mem _ hk)))
  refine (State.setSkPort_eff ..).after ((htuned.wr rfl ?_).wr rfl ?_) (fits_of_subset (by decide) (List.nil_subset _))
  all_goals simp [KeySet.has]

theorem State.stepped_skPort (p q : Nat) :
    (s.stepped p).skPort q = if q = p then { s.skPort p with tuneAt := s.now } else s.skPort q := by
  have hnow : (s.tuned p).now = s.now := (s.tuned_eff p).part .clock rfl
  unfold State.stepped
  rw [State.skPort_setSkPort, hnow, State.tuned_skPort, State.skPort_wr, State.skPort_wr, State.tuned_skPort]

theorem State.stepped_entries (p : Nat) : (s.stepped p).rd (K.spsSpeed p) = (s.skPort p).next ∧ (s.stepped p).rd (K.spsTrainState p) = 4 := by
  unfold State.stepped
  refine ⟨?_, ?_⟩
  · rw [State.rd_setSkPort, State.rd_wr_ne _ _ (instKey_ne _ _), State.rd_wr_self]
  · rw [State.rd_setSkPort, State.rd_wr_self]

theorem State.stepped_taps (hp : p < 2) (l : Nat) : (s.stepped p).taps l = (s.tuned p).taps l := by
  have hother : ∀ {a b c n : Nat}, a + 256 * 2 ≤ c → b + 256 * 2 ≤ c → ∀ x y, (((s.tuned p).wr (instKey a 2 p) x).wr (instKey b 2 p) y).rd
      (instKey c n l) = (s.tuned p).rd (instKey c n l) := fun ha hb x y => by
    rw [State.rd_wr_ne _ _ (instKey_ne_above l hp hb).symm, State.rd_wr_ne _ _ (instKey_ne_above l hp ha).symm]
  unfold State.taps State.stepped
  rw [State.rd_setSkPort, State.rd_setSkPort, State.rd_setSkPort, hother (by decide) (by decide), hother (by decide) (by decide),
    hother (by decide) (by decide)]

/-- A lane's taps before the step are in force again. -/
def restoreTaps (p : Nat) (s : State) (i : Nat) : State :=
  s.setTaps (4 * p + i) (s.skLane (4 * p + i)).taps.1 (s.skLane (4 * p + i)).taps.2.1 (s.skLane (4 * p + i)).taps.2.2

/-- The port is back at its speed before the step. -/
def State.fellBack (s : State) (p : Nat) : State :=
  ((((lanesOf (s.skPort p).lanes).foldl (restoreTaps p) s).wr (K.spsSpeed p) (s.skPort p).prev).wr (K.spsTrainState p) 6).setSkPort p
    { s.skPort p with fell := true }

theorem State.sklFall_back (p : Nat) : s.sklFall p = ((s.fellBack p).flag (K.spsPortStatus p) 4 130).raise (Ev.lnkFallback p) := rfl

theorem State.fellBack_skPort (p q : Nat) :
    (s.fellBack p).skPort q = if q = p then { s.skPort p with fell := true } else s.skPort q := by
  have hold : ((lanesOf (s.skPort p).lanes).foldl (restoreTaps p) s).skPort q = s.skPort q :=
    foldl_keeps (f := restoreTaps p) (view := fun x => x.skPort q) (fun _ _ => rfl) (lanesOf (s.skPort p).lanes) s
  unfold State.fellBack
  rw [State.skPort_setSkPort, State.skPort_wr, State.skPort_wr, hold]

/-- A step that fails leaves the speed before it, and tries no other. -/
theorem State.sklFall_entries (hp : p < 2) : (s.sklFall p).rd (K.spsSpeed p) = (s.skPort p).prev ∧ (s.sklFall p).rd (K.spsTrainState p) = 6 ∧
    ((s.sklFall p).skPort p).fell = true ∧ (s.sklFall p).bit (K.spsPortStatus p) 2 = true ∧
    ∀ q, q ≠ p → (s.sklFall p).skPort q = s.skPort q := by
  have hport : ∀ q, (s.sklFall p).skPort q = if q = p then { s.skPort p with fell := true } else s.skPort q := fun q => by
    rw [State.sklFall_back, (State.raise_eff ..).skPort rfl, State.flag, (State.arrive_eff ..).skPort rfl, State.skPort_wr, State.fellBack_skPort]
  refine ⟨?_, ?_, ?_, ?_, fun q hq => (hport q).trans (if_neg hq)⟩
  · rw [State.sklFall_back, State.raise_rd, State.flag, (State.arrive_eff ..).rd_inst hp, State.rd_wr_ne _ _ (instKey_ne _ _), State.fellBack,
      State.rd_setSkPort, State.rd_wr_ne _ _ (instKey_ne _ _), State.rd_wr_self]
  · rw [State.sklFall_back, State.raise_rd, State.flag, (State.arrive_eff ..).rd_inst hp, State.rd_wr_ne _ _ (instKey_ne _ _), State.fellBack,
      State.rd_setSkPort, State.rd_wr_self]
  · rw [hport, if_pos rfl]
  · rw [State.bit, State.sklFall_back, State.raise_rd, State.flag, (State.arrive_eff ..).rd_inst hp, State.rd_wr_self]
    exact bitOf_setBits_new _ (by decide)

end

/-! ### The handshake of a lane in TUNE (R445) -/

section
variable {l : Nat} {b : TrainBlock}

/-- This receiver's side of the handshake does not look at this transmitter's answer. -/
theorem SklLane.ask_answer (x : SklLane) (v now answer own : Nat) :
    SklLane.ask { x with answer := v } now answer own = { x.ask now answer own with answer := v } := by
  unfold SklLane.ask
  grind

theorem SklLane.ask_kept (x : SklLane) (now answer own : Nat) :
    (x.ask now answer own).ready = x.ready ∧ (x.ask now answer own).answer = x.answer := by
  unfold SklLane.ask
  extract_lets a b
  have hone : a.ready = x.ready ∧ a.answer = x.answer := by
    simp only [a]
    split <;> exact ⟨rfl, rfl⟩
  have htwo : b.ready = x.ready ∧ b.answer = x.answer := by
    simp only [b]
    split <;> exact hone
  split <;> exact htwo

/-- This transmitter's side of the handshake moves only its answer. -/
theorem State.tapRequest_skLane (s : State) (l req : Nat) :
    ∃ v, ∀ m, (s.tapRequest l req).skLane m = if m = l then { s.skLane l with answer := v } else s.skLane m := by
  have hold : ∀ m, s.skLane m = if m = l then s.skLane l else s.skLane m := fun m => by
    split
    · next h => rw [h]
    · rfl
  unfold State.tapRequest
  extract_lets x
  split
  · exact ⟨0, fun m => State.skLane_setSkLane ..⟩
  split
  · exact ⟨(s.skLane l).answer, hold⟩
  split
  · exact ⟨_, fun m => State.skLane_setSkLane ..⟩
  · exact ⟨_, fun m => State.skLane_setSkLane ..⟩

theorem State.tapRequest_hold {s : State} {req : Nat} (h : req % 128 = 0) :
    s.tapRequest l req = s.setSkLane l { s.skLane l with answer := 0 } := if_pos h

/-- The lane's record once a training block was seen. -/
def State.blockLane (s : State) (l : Nat) (b : TrainBlock) : SklLane :=
  { ((s.tapRequest l b.request).skLane l).ask (s.tapRequest l b.request).now b.answer b.own with peerReady := b.ready }

/-- The handshake has answered a training block. -/
def State.blockSeen (s : State) (l : Nat) (b : TrainBlock) : State := (s.tapRequest l b.request).setSkLane l (s.blockLane l b)

theorem State.blockSeen_skLane (s : State) (l m : Nat) (b : TrainBlock) :
    (s.blockSeen l b).skLane m = if m = l then s.blockLane l b else s.skLane m := by
  obtain ⟨v, hv⟩ := s.tapRequest_skLane l b.request
  rw [State.blockSeen, State.skLane_setSkLane]
  split
  · rfl
  · next h => exact (hv m).trans (if_neg h)

theorem State.blockLane_ready (s : State) (l : Nat) (b : TrainBlock) :
    (s.blockLane l b).ready = (s.skLane l).ready ∧ (s.blockLane l b).peerReady = b.ready := by
  obtain ⟨v, hv⟩ := s.tapRequest_skLane l b.request
  obtain ⟨hready, -⟩ := ((s.tapRequest l b.request).skLane l).ask_kept (s.tapRequest l b.request).now b.answer b.own
  refine ⟨hready.trans ?_, rfl⟩
  rw [hv l, if_pos rfl]

/-- With every request at HOLD the answer is withdrawn. -/
theorem State.blockLane_hold (s : State) (l : Nat) {b : TrainBlock} (h : b.request % 128 = 0) :
    s.blockLane l b = { (s.skLane l).ask s.now b.answer b.own with answer := 0, peerReady := b.ready } := by
  unfold State.blockLane
  rw [State.tapRequest_hold h, State.skLane_setSkLane, if_pos rfl, SklLane.ask_answer]
  rfl

theorem trainBlock_waits {s : State} (ht : s.skTrain (l / 4) = 4) (hb : bitOf (s.skPort (l / 4)).lanes (l % 4) = true) (he : b.eye = none) :
    trainBlock l b s = (s.blockSeen l b).tuneDone (l / 4) := by
  rw [trainBlock, if_neg (by simp [ht, hb]), he]
  rfl

/-- The lane's eye has passed its limit. -/
def State.eyePassed (s : State) (l : Nat) (b : TrainBlock) (eye : Nat) : State :=
  ((s.blockSeen l b).calEnd (calLane l) 0 eye 12).setSkLane l { (s.blockSeen l b).skLane l with ready := true, asked := none }

theorem trainBlock_passes {s : State} {eye : Nat} (ht : s.skTrain (l / 4) = 4) (hb : bitOf (s.skPort (l / 4)).lanes (l % 4) = true)
    (he : b.eye = some eye) (hlim : 12 ≤ eye) (hr : (s.skLane l).ready = false) :
    trainBlock l b s = (s.eyePassed l b eye).tuneDone (l / 4) := by
  obtain ⟨hready, -⟩ := s.blockLane_ready l b
  have hnot : ((s.blockSeen l b).skLane l).ready = false := by rw [State.blockSeen_skLane, if_pos rfl, hready, hr]
  rw [trainBlock, if_neg (by simp [ht, hb]), he]
  exact (if_neg (by rw [Bool.not_eq_true]; exact hnot)).trans (if_neg (by omega))

theorem State.eyePassed_skLane (s : State) (l m eye : Nat) (b : TrainBlock) : (s.eyePassed l b eye).skLane m =
    if m = l then { s.blockLane l b with ready := true, asked := none } else s.skLane m := by
  unfold State.eyePassed
  rw [State.skLane_setSkLane, State.blockSeen_skLane, if_pos rfl, (State.calEnd_eff ..).skLane rfl, State.blockSeen_skLane]
  split <;> rfl

theorem State.tuneDone_waits {s : State} {p i : Nat} (hi : i < 4) (hb : bitOf (s.skPort p).lanes i = true)
    (hr : (s.skLane (4 * p + i)).peerReady = false) : s.tuneDone p = s := by
  rw [State.tuneDone, if_neg]
  rw [List.all_eq_true]
  intro h
  have hlane := h i (mem_lanesOf.mpr ⟨hi, hb⟩)
  rw [hr, Bool.and_false] at hlane
  cases hlane

end

/-! ### CHECK and ALIGN (R443, R447, R450) -/

section
variable {p : Nat} (s : State)

/-- A lane's bad headers of a check are counted. -/
def countHeaders (p : Nat) (errors : List Nat) (s : State) (i : Nat) : State := s.add 32 (K.laneHeaderErrors (4 * p + i)) (nth errors i)

/-- The bad headers of a check are counted for each lane. -/
def State.headersCounted (s : State) (p : Nat) (errors : List Nat) : State := (List.range 4).foldl (countHeaders p errors) s

theorem State.headersCounted_eff (p : Nat) (errors : List Nat) : Eff [.regs] [.fam (K.laneHeaderErrors 0) 8] s (s.headersCounted p errors) :=
  Eff.foldl (fun x i hx => hx.add rfl (KeySet.any_fam _ rfl)) Eff.refl

theorem State.headersCounted_errors (hp : p < 2) (errors : List Nat) {i : Nat} (hi : i < 4) :
    (s.headersCounted p errors).rd (K.laneHeaderErrors (4 * p + i)) = (s.rd (K.laneHeaderErrors (4 * p + i)) + nth errors i) % 2 ^ 32 := by
  refine range_view (view := fun x => x.rd (K.laneHeaderErrors (4 * p + i))) (g := fun v => (v + nth errors i) % 2 ^ 32) hi
    (fun x j hj => ?_) s
  rw [countHeaders, State.add, State.rd_wr_lane hp hi hj]
  split
  · next h => rw [h]
  · rfl

theorem sklCheckDone_counts {s : State} {errors : List Nat} (ht : s.skTrain p = 5) :
    sklCheckDone p errors s = if errors.all (· == 0) = true then (s.headersCounted p errors).wr (K.spsTrainState p) 2
      else (s.headersCounted p errors).sklFall p := by
  rw [sklCheckDone, if_neg (by simp [ht])]
  rfl

/-- A lane's skew at alignment is shown. -/
def showSkew (p : Nat) (skews : List Nat) (s : State) (i : Nat) : State := s.wr (K.laneSkew (4 * p + i)) (nth skews i)

/-- The skews of the lanes that take part are shown. -/
def State.skewsShown (s : State) (p : Nat) (skews : List Nat) : State := (lanesOf (s.skPort p).lanes).foldl (showSkew p skews) s

theorem State.skewsShown_eff (p : Nat) (skews : List Nat) : Eff [.regs] [.fam (K.laneSkew 0) 8] s (s.skewsShown p skews) :=
  Eff.foldl (fun x i hx => hx.wr rfl (KeySet.any_fam _ rfl)) Eff.refl

theorem State.skewsShown_skew (hp : p < 2) (skews : List Nat) {i : Nat} (hi : i < 4) (hb : bitOf (s.skPort p).lanes i = true) :
    (s.skewsShown p skews).rd (K.laneSkew (4 * p + i)) = nth skews i := by
  refine (lanesOf_view (view := fun x => x.rd (K.laneSkew (4 * p + i))) (g := fun _ => nth skews i) (s.skPort p).lanes
    (fun x j hj => ?_) s).trans (if_pos (mem_lanesOf.mpr ⟨hi, hb⟩))
  rw [showSkew, State.rd_wr_lane hp hi hj]
  split
  · next h => rw [h]
  · rfl

/-- The entries of a port that has come UP. -/
def State.upSet (s : State) (p : Nat) (skews : List Nat) : State :=
  ((((s.skewsShown p skews).wr (K.spsRxLanes p) (s.skPort p).lanes).wr (K.spsTxLanes p) (s.skPort p).lanes).wr (K.spsTrainState p) 7).wr
    (K.spsLinkState p) 3

/-- The port comes UP over the lanes that take part. -/
def State.alignedUp (s : State) (p : Nat) (skews : List Nat) : State :=
  (((((s.upSet p skews).wr (K.spsLastTrainTime p) (s.upSet p skews).time).setSkPort p { (s.upSet p skews).skPort p with
    idleAt := (s.upSet p skews).now, txFrom := (s.upSet p skews).now, deaf := false }).arrive 136).raise (Ev.lnkUp p))

theorem sklAlignDone_up {s : State} {skews : List Nat} (ht : s.skTrain p = 6) (hs : skews.any (Nat.blt 64) = false) :
    sklAlignDone p skews false s = s.alignedUp p skews := by
  rw [sklAlignDone, if_neg (by simp [ht]), if_neg (by simp [hs])]
  rfl

theorem sklAlignDone_hunts {s : State} {skews : List Nat} {failed : Bool} (ht : s.skTrain p = 6)
    (h : failed = true ∨ skews.any (Nat.blt 64) = true) : sklAlignDone p skews failed s = s.sklHunt p := by
  rw [sklAlignDone, if_neg (by simp [ht])]
  exact if_pos h

theorem State.upSet_time (p : Nat) (skews : List Nat) : (s.upSet p skews).time = s.time :=
  (((((s.skewsShown_eff p skews).after Eff.refl (ps := [.regs])
    (ks := [.fam (K.laneSkew 0) 8, .fam (K.spsRxLanes 0) 2, .fam (K.spsTxLanes 0) 2, .fam (K.spsTrainState 0) 2, .fam (K.spsLinkState 0) 2])
    rfl).wr rfl (KeySet.any_fam _ rfl)).wr rfl (KeySet.any_fam _ rfl)).wr rfl (KeySet.any_fam _ rfl)).wr rfl (KeySet.any_fam _ rfl) |>.time

theorem State.alignedUp_rd (hp : p < 2) (skews : List Nat) {a : Nat} (ha : a % 256 ≠ K.spsLastTrainTime 0 % 256)
    (hk : ∀ i < 2, sideKeys.any (·.has (instKey a 2 i)) = false) :
    (s.alignedUp p skews).rd (instKey a 2 p) = (s.upSet p skews).rd (instKey a 2 p) := by
  unfold State.alignedUp
  rw [State.raise_rd, (State.arrive_eff ..).rd_inst hp hk, State.rd_setSkPort, State.rd_wr_ne _ _ (instKey_ne _ _ ha)]

theorem State.alignedUp_entries (hp : p < 2) (skews : List Nat) : (s.alignedUp p skews).rd (K.spsLinkState p) = 3 ∧
    (s.alignedUp p skews).rd (K.spsTrainState p) = 7 ∧ (s.alignedUp p skews).rd (K.spsRxLanes p) = (s.skPort p).lanes ∧
    (s.alignedUp p skews).rd (K.spsTxLanes p) = (s.skPort p).lanes ∧ (s.alignedUp p skews).rd (K.spsLastTrainTime p) = s.time := by
  refine ⟨?_, ?_, ?_, ?_, ?_⟩
  · rw [State.alignedUp_rd s hp skews (by decide) (by decide), State.upSet, State.rd_wr_self]
  · rw [State.alignedUp_rd s hp skews (by decide) (by decide), State.upSet, State.rd_wr_ne _ _ (instKey_ne _ _), State.rd_wr_self]
  · rw [State.alignedUp_rd s hp skews (by decide) (by decide), State.upSet, State.rd_wr_ne _ _ (instKey_ne _ _),
      State.rd_wr_ne _ _ (instKey_ne _ _), State.rd_wr_ne _ _ (instKey_ne _ _), State.rd_wr_self]
  · rw [State.alignedUp_rd s hp skews (by decide) (by decide), State.upSet, State.rd_wr_ne _ _ (instKey_ne _ _),
      State.rd_wr_ne _ _ (instKey_ne _ _), State.rd_wr_self]
  · rw [State.alignedUp, State.raise_rd, (State.arrive_eff ..).rd_inst hp, State.rd_setSkPort, State.rd_wr_self, State.upSet_time]

theorem State.alignedUp_skew (hp : p < 2) (skews : List Nat) {i : Nat} (hi : i < 4) (hb : bitOf (s.skPort p).lanes i = true) :
    (s.alignedUp p skews).rd (K.laneSkew (4 * p + i)) = nth skews i := by
  rw [State.alignedUp, State.raise_rd, (State.arrive_eff ..).rd_inst (lane_lt hp hi), State.rd_setSkPort,
    State.rd_wr_ne _ _ (instKey_ne_above _ hp).symm, State.upSet, State.rd_wr_ne _ _ (instKey_ne_above _ hp).symm,
    State.rd_wr_ne _ _ (instKey_ne_above _ hp).symm, State.rd_wr_ne _ _ (instKey_ne_above _ hp).symm,
    State.rd_wr_ne _ _ (instKey_ne_above _ hp).symm, State.skewsShown_skew s hp skews hi hb]

theorem State.alignedUp_skPort (skews : List Nat) {q : Nat} (hq : q ≠ p) : (s.alignedUp p skews).skPort q = s.skPort q := by
  have hset : (s.upSet p skews).skPort q = s.skPort q := by
    unfold State.upSet
    rw [State.skPort_wr, State.skPort_wr, State.skPort_wr, State.skPort_wr, (s.skewsShown_eff p skews).skPort rfl]
  rw [State.alignedUp, (State.raise_eff ..).skPort rfl, (State.arrive_eff ..).skPort rfl, State.skPort_setSkPort, if_neg hq,
    State.skPort_wr, hset]

end

/-- Settles O50: the steps of a port's training, each from the state that it begins in. -/
theorem trainingCommands : Obligations.TrainingCommands := by
  refine ⟨fun a p s hw hp hv hon => ?retrains, fun p u s hp h ht => ?hunted, fun p v c s hp ht hm hv => ?steps,
    fun p c s hp ht hm hv => ?aligns, fun p c s hp ht hm => ?rehunts, fun p s hp ht => ?locked, fun p s hp ht => ?unlocked,
    fun l b s hl ht hb he hr hq => ?waits, fun l eye b s hl ht hb he hlim hr => ?passes, fun l u p s hl hpl h ht => ?unanswered,
    fun l p s hl hpl ht hb hr => ?untuned, fun p errors s hp ht he => ?checked, fun p errors s hp ht he => ?bad,
    fun p skews s hp ht hs => ?up, fun p skews failed s hp ht hs => ?skewed⟩
  case retrains =>
    have heq : retrainWrite a p s = ((s.trainingBegun p).sklHunt p).done a (K.spsRetrain p) 0 :=
      (State.act_ok hw rfl).trans (congrArg (fun x : State => x.done a (K.spsRetrain p) 0) (if_pos ⟨hv, hon⟩))
    have hdone := State.done_ok_eff ((s.trainingBegun p).sklHunt p) a (K.spsRetrain p)
    obtain ⟨hlink, htrain, hspeed, hrx, htx⟩ := (s.trainingBegun p).sklHunt_entries p
    have hport : ∀ q, (((s.trainingBegun p).sklHunt p).done a (K.spsRetrain p) 0).skPort q =
        if q = p then (s.skPort p).hunting else s.skPort q := fun q => by
      rw [hdone.skPort rfl, State.sklHunt_skPort, State.trainingBegun_skPort, State.trainingBegun_skPort]
    refine ⟨_, inst_eq_next hp heq, (hdone.rd_inst hp).trans hlink, (hdone.rd_inst hp).trans htrain, (hdone.rd_inst hp).trans hspeed,
      (hdone.rd_inst hp).trans hrx, (hdone.rd_inst hp).trans htx, ?_, ?_, fun q hq => (hport q).trans (if_neg hq), State.done_ok_status ..,
      (okSide_eq a _ (Eff.done_ok ((s.sklTrain_eff p).after Eff.refl rfl) rfl)).frame⟩
    · rw [hdone.rd_inst hp, (State.sklHunt_eff ..).rd_inst hp, State.trainingBegun_trainings]
    · rw [hport, if_pos rfl]
      rfl
  case hunted =>
    have heq := sklHuntDone_hunted h ht
    have hport := (s.at (u + ms 10)).hunted_skPort p
    have hnow : ((s.at (u + ms 10)).hunted p).now = max s.now (u + ms 10) := (State.dropLanes_eff (s.at (u + ms 10)) ..).part .clock rfl
    refine ⟨_, inst_eq_next hp heq, State.rd_wr_self .., hnow, fun i hi => ?_, fun i hi => State.hunted_state _ hp hi,
      fun q hq => (hport q).trans (if_neg hq), (Eff.to heq.symm (sklHuntDone_eff p s)).frame⟩
    rw [hport, if_pos rfl]
    exact bitOf_laneMask _ hi
  case steps =>
    have heq : sklCapDone p c s = s.capStep p c v := (sklCapDone_goes hp ht hm).trans (by rw [hv])
    have hport := State.capStep_skPort (p := p) (c := c) (s := s) v
    have hown := (hport p).trans (if_pos rfl)
    refine ⟨_, inst_eq_next hp heq, State.rd_wr_self .., congrArg SklPort.lanes hown, congrArg SklPort.peer hown, ?_,
      congrArg SklPort.next hown, fun q hq => (hport q).trans (if_neg hq), (Eff.to heq.symm (sklCapDone_eff p c s)).frame⟩
    exact (congrArg SklPort.prev hown).trans ((s.dropLanes_eff ..).rd_inst hp)
  case aligns =>
    have heq : sklCapDone p c s = s.capAlign p c := (sklCapDone_goes hp ht hm).trans (by rw [hv])
    have hport := State.capAlign_skPort (p := p) (c := c) (s := s)
    exact ⟨_, inst_eq_next hp heq, State.rd_wr_self .., congrArg SklPort.lanes ((hport p).trans (if_pos rfl)),
      fun q hq => (hport q).trans (if_neg hq), (Eff.to heq.symm (sklCapDone_eff p c s)).frame⟩
  case rehunts =>
    obtain ⟨hlink, htrain, hspeed, hrx, htx⟩ := s.sklHunt_entries p
    exact ⟨_, inst_eq_next hp (sklCapDone_hunts ht hm), hlink, htrain, hspeed, hrx, htx, (s.sklHunt_eff p).frame⟩
  case locked =>
    obtain ⟨hspeed, htrain⟩ := s.stepped_entries p
    have hport := s.stepped_skPort p
    refine ⟨_, inst_eq_next hp (sklSwitchDone_locked ht), hspeed, htrain, congrArg SklPort.tuneAt ((hport p).trans (if_pos rfl)),
      fun i hi hb => ?_, fun q hq => (hport q).trans (if_neg hq), (s.stepped_eff p).frame⟩
    have htaps := (s.stepped_taps hp (4 * p + i)).trans (s.tuned_taps hp hi hb)
    exact ⟨congrArg Prod.fst htaps, congrArg (fun x : Nat × Nat × Nat => x.2.1) htaps, congrArg (fun x : Nat × Nat × Nat => x.2.2) htaps⟩
  case unlocked =>
    obtain ⟨hspeed, htrain, hfell, hbit, hport⟩ := (s.tuned p).sklFall_entries hp
    have heq := sklSwitchDone_fails ht
    refine ⟨_, inst_eq_next hp heq, ?_, htrain, hfell, hbit, fun q hq => (hport q hq).trans (s.tuned_skPort p q),
      (Eff.to heq.symm (sklSwitchDone_eff p false s)).frame⟩
    rw [hspeed, State.tuned_skPort]
  case waits =>
    have hlane := s.blockSeen_skLane l (b := b)
    have hown := ((hlane l).trans (if_pos rfl)).trans (s.blockLane_hold l hq)
    have hseen : s.blockSeen l b = (s.setSkLane l { s.skLane l with answer := 0 }).setSkLane l (s.blockLane l b) := by
      rw [State.blockSeen, State.tapRequest_hold hq]
    have heff : Eff [.regs, .link] [.one (K.spsTrainState (l / 4))] s (s.blockSeen l b) := by
      rw [hseen]
      exact (State.setSkLane_eff ..).after ((State.setSkLane_eff ..).after Eff.refl (fits_of_subset (by decide) (List.nil_subset _)))
        (fits_of_subset (by decide) (List.nil_subset _))
    have hidx : 4 * (l / 4) + l % 4 = l := Nat.div_add_mod l 4
    have hwaits : (s.blockSeen l b).tuneDone (l / 4) = s.blockSeen l b := by
      refine State.tuneDone_waits (Nat.mod_lt l (by decide)) ?_ ?_
      · rw [hseen]
        exact hb
      · rw [hidx, hown]
        exact hr
    refine ⟨_, inst_eq_next hl ((trainBlock_waits ht hb he).trans hwaits), congrArg SklLane.answer hown,
      (congrArg SklLane.peerReady hown).trans hr, (congrArg SklLane.asked hown).trans rfl, (congrArg SklLane.resting hown).trans rfl, ?_,
      fun i hi => (hlane i).trans (if_neg hi), heff.frame⟩
    rw [hseen]
    exact ht
  case passes =>
    have heq := trainBlock_passes ht hb he hlim hr
    have hlane : ∀ m, ((s.eyePassed l b eye).tuneDone (l / 4)).skLane m = _ := fun m =>
      ((State.tuneDone_eff ..).skLane rfl m).trans (s.eyePassed_skLane l m eye b)
    have hown := (hlane l).trans (if_pos rfl)
    obtain ⟨-, hpeer⟩ := s.blockLane_ready l b
    exact ⟨_, inst_eq_next hl heq, congrArg SklLane.ready hown, (congrArg SklLane.peerReady hown).trans hpeer, congrArg SklLane.asked hown,
      fun i hi => (hlane i).trans (if_neg hi), (Eff.to heq.symm (trainBlock_eff l b s)).frame⟩
  case unanswered =>
    subst hpl
    have hp : l / 4 < 2 := by omega
    obtain ⟨hspeed, htrain, hfell, hbit, -⟩ := (s.at (u + ms 2)).sklFall_entries hp
    have heq : tapRequestTimeout l s = (s.at (u + ms 2)).sklFall (l / 4) := by
      rw [tapRequestTimeout, h]
      exact if_neg (by simp [ht])
    exact ⟨_, inst_eq_next hl heq, (State.sklFall_eff ..).part .clock rfl, hspeed, htrain, hfell, hbit,
      (Eff.to heq.symm (tapRequestTimeout_eff l s)).frame⟩
  case untuned =>
    subst hpl
    have hp : l / 4 < 2 := by omega
    have hend := (s.at ((s.skPort (l / 4)).tuneAt + ms (s.rd (K.spTuneTimeout (l / 4))))).calEnd_eff (calLane l) 4 0 12
    obtain ⟨hspeed, htrain, hfell, hbit, -⟩ := ((s.at ((s.skPort (l / 4)).tuneAt + ms (s.rd (K.spTuneTimeout (l / 4))))).calEnd
      (calLane l) 4 0 12).sklFall_entries hp
    have heq : tuneTimeout l s = ((s.at ((s.skPort (l / 4)).tuneAt + ms (s.rd (K.spTuneTimeout (l / 4))))).calEnd
        (calLane l) 4 0 12).sklFall (l / 4) := if_neg (by simp [ht, hb, hr])
    refine ⟨_, inst_eq_next hl heq, ((State.sklFall_eff ..).part .clock rfl).trans (hend.part .clock rfl), ?_, htrain, hfell, hbit,
      (Eff.to heq.symm (tuneTimeout_eff l s)).frame⟩
    rw [hspeed, hend.skPort rfl]
    rfl
  case checked =>
    have heq := (sklCheckDone_counts ht).trans (if_pos he)
    have hcounted : Eff [.regs] [.one (K.spsTrainState p), .fam (K.laneHeaderErrors 0) 8] s (s.headersCounted p errors) :=
      (s.headersCounted_eff p errors).after Eff.refl (fits_of_subset (by decide) (List.subset_cons_self ..))
    refine ⟨_, inst_eq_next hp heq, State.rd_wr_self .., fun q _ => ?_, (hcounted.wr rfl (by simp [KeySet.has])).frame⟩
    rw [State.skPort_wr, hcounted.skPort rfl]
  case bad =>
    have heq := (sklCheckDone_counts ht).trans (if_neg (by rw [he]; decide))
    have hcounted := s.headersCounted_eff p errors
    obtain ⟨hspeed, htrain, hfell, hbit, hport⟩ := (s.headersCounted p errors).sklFall_entries hp
    refine ⟨_, inst_eq_next hp heq, fun i hi => ?_, ?_, htrain, hfell, hbit, fun q hq => (hport q hq).trans (hcounted.skPort rfl q),
      (Eff.to heq.symm (sklCheckDone_eff p errors s)).frame⟩
    · rw [(State.sklFall_eff ..).rd_inst (lane_lt hp hi), State.headersCounted_errors s hp errors hi]
    · rw [hspeed, hcounted.skPort rfl]
  case up =>
    have heq := sklAlignDone_up ht hs
    obtain ⟨hlink, htrain, hrx, htx, htime⟩ := s.alignedUp_entries hp skews
    exact ⟨_, inst_eq_next hp heq, hlink, htrain, hrx, htx, htime, fun i hi hb => s.alignedUp_skew hp skews hi hb,
      fun q hq => s.alignedUp_skPort skews hq, (Eff.to heq.symm (sklAlignDone_eff p skews false s)).frame⟩
  case skewed =>
    have heq := sklAlignDone_hunts ht hs
    obtain ⟨hlink, htrain, hspeed, hrx, htx⟩ := s.sklHunt_entries p
    exact ⟨_, inst_eq_next hp heq, hlink, htrain, hspeed, hrx, htx, fun q hq => (s.sklHunt_skPort p q).trans (if_neg hq),
      (Eff.to heq.symm (sklAlignDone_eff p skews failed s)).frame⟩

end Sys2Proof.Machine

/-! SUPPORT. Sending on a Skobaty port (O52): the queues, a message's way out, and the timers of routes, Sequences and BULK messages. -/

namespace Sys2Proof.Machine

-- The proofs of this part are checked one after another, in one thread.
set_option Elab.async false

/-! ### A message offered to a port's queue (R457) -/

/-- A class's queue of a port. -/
def State.skQueue (s : State) (p c : Nat) : List SkMsg := (s.skPort p).queue c

/-- A queue takes a message while it has room. -/
def pushMsg (m : SkMsg) (l : List SkMsg) : List SkMsg := if l.length < classDepth m.cls then l ++ [m] else l

section
variable {s : State} {m : SkMsg} {task : Option Nat} {p : Nat}

/-- A queue that takes a message is all that changes of the link. -/
theorem State.enqueue_port {x : State} (h : s.enqueue p m = some x) : ∃ y, x = s.setSkPort p y := by
  unfold State.enqueue at h
  extract_lets at h
  split at h
  · cases h
  · cases h
    exact ⟨_, rfl⟩

theorem State.sendOn_beatAt (s : State) (m : SkMsg) (task : Option Nat) (p : Nat) : (s.sendOn m task p).skl.beatAt = s.skl.beatAt := by
  unfold State.sendOn
  split
  · next x hx =>
    obtain ⟨y, rfl⟩ := State.enqueue_port hx
    rfl
  · split
    · rfl
    · exact congrArg Skl.beatAt (s.queueDrop_eff p).skl

theorem State.enqueue_full (hc : m.cls ≠ 1) (hl : ¬ (s.skQueue p m.cls).length < classDepth m.cls) : s.enqueue p m = none := by
  have hfull : classDepth m.cls < ((s.skPort p).queue m.cls ++ [m]).length := by
    have hlen : ¬ ((s.skPort p).queue m.cls).length < classDepth m.cls := hl
    rw [List.length_append, List.length_singleton]
    omega
  simp only [State.enqueue, hc, if_false, hfull, if_true]

theorem State.sendOn_room (hc : m.cls ≠ 1) (hl : (s.skQueue p m.cls).length < classDepth m.cls) : s.sendOn m task p = s.queued p m := by
  rw [State.sendOn, State.enqueue_room hc hl]

theorem State.queued_skPort_ne (q : Nat) (h : q ≠ p) : (s.queued p m).skPort q = s.skPort q :=
  (State.skPort_setSkPort s p _ q).trans (if_neg h)

/-- A message without room moves no queue. -/
theorem State.sendOn_full (hc : m.cls ≠ 1) (hl : ¬ (s.skQueue p m.cls).length < classDepth m.cls) (q : Nat) :
    (s.sendOn m task p).skPort q = s.skPort q := by
  have hfull : s.sendOn m task p = if m.cls = 2 ∨ m.cls = 4 ∨ m.cls = 5 then
      s.setSkl { s.skl with waits := s.skl.waits ++ [{ port := p, msg := m, since := s.now, task := task }] } else s.queueDrop p := by
    rw [State.sendOn, State.enqueue_full hc hl]
  rw [hfull]
  split
  · rfl
  · exact (s.queueDrop_eff p).skPort rfl q

theorem State.sendOn_queue (hc : m.cls ≠ 1) (q : Nat) :
    (s.sendOn m task p).skQueue q m.cls = if q = p then pushMsg m (s.skQueue q m.cls) else s.skQueue q m.cls := by
  unfold pushMsg
  by_cases hl : (s.skQueue p m.cls).length < classDepth m.cls
  · rw [State.sendOn_room hc hl]
    split
    · next h =>
      subst h
      rw [if_pos hl]
      exact State.queued_queue ..
    · next h => exact congrArg (SklPort.queue · m.cls) (State.queued_skPort_ne q h)
  · have hsame : (s.sendOn m task p).skQueue q m.cls = s.skQueue q m.cls :=
      congrArg (SklPort.queue · m.cls) (State.sendOn_full hc hl q)
    rw [hsame]
    split
    · next h =>
      subst h
      rw [if_neg hl]
    · rfl

/-- A message of class EVT is never dropped: it waits for room. -/
theorem State.sendOn_evt_eff (hc : m.cls = 2) : Eff [.link] [] s (s.sendOn m task p) := by
  rw [State.sendOn]
  split
  · next hx => exact State.enqueue_eff hx
  · rw [if_pos (.inl hc)]
    exact s.setSkl_eff _

end

/-! ### Broadcasts and unicasts of this device (R453, R455) -/

section
variable {s : State} {cls lineage flags dest : Nat} {payload : List Nat} {task : Option Nat}

theorem upPorts_nodup (s : State) : s.upPorts.Nodup := List.Nodup.filter _ (by decide)

theorem mem_upPorts {p : Nat} (hp : p < 2) (hu : s.skUp p = true) : p ∈ s.upPorts := by
  refine List.mem_filter.mpr ⟨?_, hu⟩
  simp only [List.mem_cons, List.not_mem_nil, or_false]
  omega

theorem lt_of_mem_upPorts {p : Nat} (h : p ∈ s.upPorts) : p < 2 := by
  have := (List.mem_filter.mp h).1
  simp only [List.mem_cons, List.not_mem_nil, or_false] at this
  omega

theorem State.broadcast_foldl (s : State) (cls lineage : Nat) (payload : List Nat) (task : Option Nat) :
    s.broadcast cls lineage payload task = (s.upPorts.foldl
      (State.sendOn (s.newMsg cls 1 0xFFFF lineage payload).1 task) (s.newMsg cls 1 0xFFFF lineage payload).2) := rfl

/-- A broadcast stands in the queue of every port that is UP and has room. -/
theorem State.broadcast_queue (hc : cls ≠ 1) {p : Nat} (hp : p < 2) (hu : s.skUp p = true)
    (hl : (s.skQueue p cls).length < classDepth cls) :
    (s.broadcast cls lineage payload task).skQueue p cls =
      s.skQueue p cls ++ [(s.newMsg cls 1 0xFFFF lineage payload).1] := by
  rw [State.broadcast_foldl]
  have hfold := foldl_view (f := State.sendOn (s.newMsg cls 1 0xFFFF lineage payload).1 task) (view := fun x => x.skQueue p cls)
    (g := pushMsg (s.newMsg cls 1 0xFFFF lineage payload).1) (i := p) (n := 2) (fun x j _ => State.sendOn_queue hc p)
    s.upPorts (s.newMsg cls 1 0xFFFF lineage payload).2 (upPorts_nodup s) fun j hj => lt_of_mem_upPorts hj
  exact (hfold.trans (if_pos (mem_upPorts hp hu))).trans (if_pos hl)

theorem State.broadcast_evt_eff (s : State) (lineage : Nat) (payload : List Nat) (task : Option Nat) :
    Eff [.link] [] s (s.broadcast 2 lineage payload task) := by
  rw [State.broadcast_foldl]
  exact Eff.foldl (fun x j hx => (State.sendOn_evt_eff rfl).after hx rfl) (State.newMsg_eff ..)

theorem State.unicast_on_route {r : Route} (h : s.route dest = some r) :
    (s.unicast cls flags dest lineage payload task).2 =
      (s.newMsg cls flags dest lineage payload).2.sendOn (s.newMsg cls flags dest lineage payload).1 task r.port := by
  rw [State.unicast, h]

theorem State.unicast_no_route (h : s.route dest = none) : (s.unicast cls flags dest lineage payload task).2 = s.noRoute := by
  rw [State.unicast, h]

end

/-! ### A message leaves (R457, R493) -/

/-- Filling the queues sends nothing. -/
theorem fillQueues_out : ∀ (l : List SklWait) (s : State), (fillQueues l s).skl.out = s.skl.out
  | [], _ => rfl
  | w :: l, s => by
    unfold fillQueues
    split
    · next x hx =>
      obtain ⟨y, rfl⟩ := State.enqueue_port hx
      exact fillQueues_out l _
    · exact fillQueues_out l _

section
variable (s : State) (p c : Nat) (m : SkMsg)

/-- The message as it leaves, and the state that has stamped it. -/
def State.stamped (s : State) (p : Nat) (m : SkMsg) : SkMsg × State := (s.at (s.skPort p).txFrom).stampOut m

/-- The message has left its queue, and holds the transmitter for its time. -/
def State.sent (s : State) (p c : Nat) (m : SkMsg) : State :=
  let till := (s.stamped p m).2.now + (s.stamped p m).2.msgTime p (s.stamped p m).1
  ((((s.stamped p m).2.setSkPort p { s.skPort p with
    queues := tput (s.skPort p).queues c (((s.skPort p).queue c).drop 1), txFrom := till, idleAt := till }).wr (K.spsTxState p) 0).skOut
      (.msg p (s.stamped p m).1)).inc 64 (K.spsMsgSent p)

theorem msgTransmit_sends {s : State} (hu : s.skUp p = true) (ht : s.rd (K.spsTxState p) ≠ 2)
    (hm : classOrder.findSome? (fun c => ((s.skPort p).queue c).head?.map fun m => (c, m)) = some (c, m)) :
    msgTransmit p s = (s.sent p c m).fill := by
  rw [msgTransmit, if_neg (by simp [hu, ht]), hm]
  rfl

theorem State.stamped_eff : Eff [.clock, .time] [] s (s.stamped p m).2 :=
  (State.stampOut_eff ..).after ((State.at_eff ..).after Eff.refl rfl) rfl

theorem State.sent_stamped_eff : Eff [.regs, .link] [.one (K.spsTxState p), .one (K.spsMsgSent p)] (s.stamped p m).2 (s.sent p c m) := by
  have hlink : fits [.link] [] [.regs, .link] [.one (K.spsTxState p), .one (K.spsMsgSent p)] = true :=
    fits_of_subset (by decide) (List.nil_subset _)
  exact ((State.skOut_eff ..).after (((State.setSkPort_eff ..).after Eff.refl hlink).wr rfl (by simp [KeySet.has])) hlink).inc rfl
    (by simp [KeySet.has])

theorem State.sent_eff : Eff [.clock, .time, .regs, .link] [.one (K.spsTxState p), .one (K.spsMsgSent p)] s (s.sent p c m) :=
  (s.sent_stamped_eff p c m).after ((s.stamped_eff p m).after Eff.refl (fits_of_subset (by decide) (List.nil_subset _)))
    (fits_of_subset (by decide) (List.Subset.refl _))

theorem State.sent_entries : (s.sent p c m).rd (K.spsTxState p) = 0 ∧ (s.sent p c m).rd (K.spsMsgSent p) = (s.rd (K.spsMsgSent p) + 1) % 2 ^ 64 := by
  unfold State.sent
  refine ⟨?_, ?_⟩
  · rw [State.rd_inc_ne _ _ (instKey_ne _ _), State.rd_skOut, State.rd_wr_self]
  · rw [State.rd_inc_self, State.rd_skOut, State.rd_wr_ne _ _ (instKey_ne _ _), State.rd_setSkPort, (s.stamped_eff p m).rd _ rfl]

theorem State.sent_out : (s.sent p c m).skl.out = s.skl.out ++ [.msg p (s.stamped p m).1] := by
  have hskl : (s.stamped p m).2.skl = s.skl := (s.stamped_eff p m).skl
  show (s.stamped p m).2.skl.out ++ [_] = _
  rw [hskl]

theorem State.sent_now : (s.sent p c m).now = max s.now (s.skPort p).txFrom :=
  ((s.sent_stamped_eff p c m).part .clock rfl).trans ((State.stampOut_eff (s.at (s.skPort p).txFrom) m).part .clock rfl)

end

/-! ### LNK_SEND (R460) -/

theorem State.takeTask_erases {s u : State} {d : Delivery} {i : Nat} (h : s.takeTask i = some (d, u)) :
    u = { s with tasks := s.tasks.erase d } := by
  unfold State.takeTask at h
  split at h
  · cases h
    rfl
  · cases h

/-- The payload of the EVT message that a delivery sends. -/
def State.evtPayload (s : State) (k : Nat) : List Nat := [s.rd (K.srtSendRoute k) % 32, 0, 0, 0, 0, 0, 0, 0] ++ leBytes 8 s.timeNs

section
variable {s u : State} {k : Nat} {d : Delivery} (h : s.takeTask (32 + k) = some (d, u)) (hv : bitOf (s.rd (K.srtSendRoute k)) 30 = true)
  (hf : s.dev ≠ stFenced)
include h hv hf

theorem lnkSend_broadcasts (hb : bitOf (s.rd (K.srtSendRoute k)) 31 = true) :
    lnkSend k s = u.broadcast 2 d.lineage (s.evtPayload k) (some (32 + k)) := by
  rw [lnkSend, h]
  have hu := State.takeTask_erases h
  subst hu
  exact (if_neg (by rw [not_or, not_not]; exact ⟨hv, hf⟩)).trans (if_pos hb)

theorem lnkSend_routes (hb : bitOf (s.rd (K.srtSendRoute k)) 31 = false) :
    lnkSend k s = (u.unicast 2 0 (field (s.rd (K.srtSendRoute k)) 27 16) d.lineage (s.evtPayload k) (some (32 + k))).2 := by
  rw [lnkSend, h]
  have hu := State.takeTask_erases h
  subst hu
  exact (if_neg (by rw [not_or, not_not]; exact ⟨hv, hf⟩)).trans (if_neg (by rw [Bool.not_eq_true]; exact hb))

end

/-! ### HEARTBEAT_SEND (R464, R466) -/

/-- The period has passed, and the next begins. -/
def State.beating (s : State) : State :=
  (s.at (s.skl.beatAt + s.beatPeriod)).setSkl { s.skl with beatAt := (s.at (s.skl.beatAt + s.beatPeriod)).now }

theorem heartbeatSend_beats {s : State} (hr : s.dev ≠ stReset) (hb : s.dev ≠ stBoot) : heartbeatSend s =
    s.beating.broadcast 6 0 ([1, s.dev, 0, 0] ++ leBytes 2 (s.rd K.sklHeartbeatPeriod) ++ [0, 0]) := if_neg (by rw [not_or]; exact ⟨hr, hb⟩)

/-! ### Timers (R455 to R457, R464) -/

theorem routeExpiry_forgets {s : State} {node : Nat} {r : Route} (h : s.route node = some r) :
    routeExpiry node s = (s.at (r.heard + ms (3 * s.rd K.sklHeartbeatPeriod))).setSkl { s.skl with routes := terase s.skl.routes node } := by
  rw [routeExpiry, h]
  rfl

theorem seqExpiry_forgets {s : State} {i : Nat} {e : Nat × Nat} (h : tfind s.skl.last i = some e) :
    seqExpiry i s = (s.at (e.2 + ms (s.rd K.sklSeqExpiry))).setSkl { s.skl with last := terase s.skl.last i } := by
  rw [seqExpiry, h]

/-- The BULK message that waits no longer. -/
def State.bulkGone (s : State) (w : SklWait) : State := (s.at (w.since + ms 1)).setSkl { s.skl with waits := s.skl.waits.erase w }

theorem bulkWaitTimeout_drops {s : State} {w : SklWait} (h : s.skl.waits.find? (fun w => w.msg.cls == 5) = some w) :
    bulkWaitTimeout s = (s.bulkGone w).queueDrop w.port := by
  rw [bulkWaitTimeout, h]
  rfl

/-- A drop is counted at any port. -/
theorem State.queueDrop_count (s : State) (p : Nat) : (s.queueDrop p).rd (K.spsQueueDrops p) = (s.rd (K.spsQueueDrops p) + 1) % 2 ^ 32 := by
  have hkeys : ([.one (K.srcCount 134), .one (K.pendPending (134 / 64))] : List KeySet).any (·.has (K.spsQueueDrops p)) = false := by
    have hcount : K.spsQueueDrops p ≠ K.srcCount 134 := by
      simp only [K.spsQueueDrops, K.srcCount, instKey, runKey]
      omega
    have hpend : K.spsQueueDrops p ≠ K.pendPending (134 / 64) := by
      simp only [K.spsQueueDrops, K.pendPending, instKey, runKey]
      omega
    simp only [List.any_cons, List.any_nil, KeySet.has, Bool.or_false, Bool.or_eq_false_iff, beq_eq_false_iff_ne]
    exact ⟨hcount, hpend⟩
  rw [State.queueDrop, State.flag, (State.arrive_eff_own ..).rd _ hkeys, State.rd_wr_ne _ _ (instKey_ne _ _), State.rd_inc_self]

/-- Settles O52: the head of the queues leaves stamped, deliveries and heartbeats are queued, and what waits too long is forgotten. -/
theorem messageTransmitCommands : Obligations.MessageTransmitCommands := by
  refine ⟨fun p c m s hp hu ht hm => ?leaves, fun k d u s hk h hv hb hf => ?broadcasts, fun k d u r s hk h hv hb hf hr hl => ?routes,
    fun k d u s hk h hv hb hf hr => ?lost, fun s hr hb => ?beats, fun node r s h => ?expires, fun i e s h => ?unheard, fun w s h => ?waits⟩
  case leaves =>
    obtain ⟨hstate, hcount⟩ := s.sent_entries p c m
    have hfill := (s.sent p c m).fill_eff
    refine ⟨_, inst_eq_next hp (msgTransmit_sends p c m hu ht hm), (hfill.part .clock rfl).trans (s.sent_now p c m),
      (hfill.rd _ rfl).trans hstate, (hfill.rd _ rfl).trans hcount, (fillQueues_out ..).trans (s.sent_out p c m),
      (hfill.after (s.sent_eff p c m) (fits_of_subset (by decide) (List.nil_subset _))).frame⟩
  case broadcasts =>
    have heq := lnkSend_broadcasts h hv hf hb
    have htasks : (u.broadcast 2 d.lineage (s.evtPayload k) (some (32 + k))).tasks = u.tasks := by
      obtain ⟨-, htasks⟩ := (u.broadcast_evt_eff d.lineage (s.evtPayload k) (some (32 + k))).part .events rfl
      exact htasks
    refine ⟨_, inst_eq_next hk heq, htasks, fun p hp hu hl => ?_, (Eff.to heq.symm (lnkSend_eff k s)).frame⟩
    have hu' := State.takeTask_erases h
    subst hu'
    exact State.broadcast_queue (by decide) hp hu hl
  case routes =>
    have heq := lnkSend_routes h hv hf hb
    have hu := State.takeTask_erases h
    subst hu
    have hsend := State.unicast_on_route (s := { s with tasks := s.tasks.erase d }) (cls := 2) (flags := 0) (lineage := d.lineage)
      (payload := s.evtPayload k) (task := some (32 + k)) hr
    have hqueued := State.sendOn_room (s := (State.newMsg { s with tasks := s.tasks.erase d } 2 0
      (field (s.rd (K.srtSendRoute k)) 27 16) d.lineage (s.evtPayload k)).2) (m := (State.newMsg { s with tasks := s.tasks.erase d } 2 0
      (field (s.rd (K.srtSendRoute k)) 27 16) d.lineage (s.evtPayload k)).1) (task := some (32 + k)) (p := r.port) (by decide : 2 ≠ 1) hl
    exact ⟨_, inst_eq_next hk ((heq.trans hsend).trans hqueued), rfl, State.queued_queue ..,
      (Eff.to ((heq.trans hsend).trans hqueued).symm (lnkSend_eff k s)).frame⟩
  case lost =>
    have heq := lnkSend_routes h hv hf hb
    have hu := State.takeTask_erases h
    subst hu
    have hsend := State.unicast_no_route (s := { s with tasks := s.tasks.erase d }) (cls := 2) (flags := 0) (lineage := d.lineage)
      (payload := s.evtPayload k) (task := some (32 + k)) hr
    refine ⟨_, inst_eq_next hk (heq.trans hsend), State.noRoute_count .., ?_, (State.noRoute_eff ..).skl,
      (Eff.to (heq.trans hsend).symm (lnkSend_eff k s)).frame⟩
    rw [State.bit, State.noRoute, State.flag_rd]
    exact bitOf_setBits_new _ (by decide)
  case beats =>
    have hnow : (heartbeatSend s).now = max s.now (s.skl.beatAt + s.beatPeriod) := by
      rw [heartbeatSend_beats hr hb]
      exact (State.broadcast_eff ..).part .clock rfl
    refine ⟨_, congrArg Host.Outcome.next rfl, hnow, ?_, fun p hp hu hl => ?_, (heartbeatSend_eff s).frame⟩
    · rw [hnow, heartbeatSend_beats hr hb, State.broadcast_foldl]
      exact foldl_keeps (view := fun x => x.skl.beatAt) (fun x j => x.sendOn_beatAt _ none j) s.beating.upPorts _
    · rw [heartbeatSend_beats hr hb]
      exact State.broadcast_queue (by decide) hp hu hl
  case expires =>
    refine ⟨_, congrArg Host.Outcome.next (routeExpiry_forgets h), rfl, ?_, fun n hn => ?_,
      (Eff.to (routeExpiry_forgets h).symm (routeExpiry_eff node s)).frame⟩
    · exact (tfind_terase ..).trans (if_pos rfl)
    · exact (tfind_terase ..).trans (if_neg hn)
  case unheard =>
    refine ⟨_, congrArg Host.Outcome.next (seqExpiry_forgets h), rfl, ?_, fun n hn => ?_,
      (Eff.to (seqExpiry_forgets h).symm (seqExpiry_eff i s)).frame⟩
    · exact (tfind_terase ..).trans (if_pos rfl)
    · exact (tfind_terase ..).trans (if_neg hn)
  case waits =>
    have hgone : Eff (withSide [.clock, .link]) (sideAnd [.one (K.spsQueueDrops w.port), .one (K.spsPortStatus w.port)]) s (s.bulkGone w) :=
      (State.setSkl_eff ..).after ((State.at_eff ..).after Eff.refl (fits_of_subset (by decide) (List.nil_subset _)))
        (fits_of_subset (by decide) (List.nil_subset _))
    refine ⟨_, congrArg Host.Outcome.next (bulkWaitTimeout_drops h), (State.queueDrop_eff ..).part .clock rfl,
      congrArg Skl.waits (State.queueDrop_eff ..).skl, State.queueDrop_count .., ?_⟩
    exact ((hgone.inc rfl (by simp [sideAnd, KeySet.has])).flag rfl (by simp [sideAnd, KeySet.has])).frame

end Sys2Proof.Machine

/-! SUPPORT. A message received on a Skobaty port (O53). -/

namespace Sys2Proof.Machine

-- The proofs of this part are checked one after another, in one thread.
set_option Elab.async false

/-! ### A good message is counted (R454) -/

section
variable (s : State) (p : Nat)

/-- The port has received a good message. -/
def State.msgCounted (s : State) (p : Nat) : State := (s.wr (K.spsRxState p) 0).inc 64 (K.spsMsgReceived p)

theorem State.msgCounted_eff : Eff [.regs] [.one (K.spsMsgReceived p), .one (K.spsRxState p)] s (s.msgCounted p) :=
  (Eff.refl.wr rfl (by simp [KeySet.has])).inc rfl (by simp [KeySet.has])

theorem State.msgCounted_entries : (s.msgCounted p).rd (K.spsMsgReceived p) = (s.rd (K.spsMsgReceived p) + 1) % 2 ^ 64 ∧
    (s.msgCounted p).rd (K.spsRxState p) = 0 := by
  unfold State.msgCounted
  refine ⟨?_, ?_⟩
  · rw [State.rd_inc_self, State.rd_wr_ne _ _ (instKey_ne _ _)]
  · rw [State.rd_inc_ne _ _ (instKey_ne _ _), State.rd_wr_self]

theorem State.msgCounted_rd {k : Nat} (hrecv : KeySet.has (.fam (K.spsMsgReceived 0) 2) k = false)
    (hstate : KeySet.has (.fam (K.spsRxState 0) 2) k = false) : (s.msgCounted p).rd k = s.rd k := by
  unfold State.msgCounted
  rw [State.rd_inc_ne _ _ (ne_instKey _ hrecv), State.rd_wr_ne _ _ (ne_instKey _ hstate)]

theorem State.msgCounted_dev : (s.msgCounted p).dev = s.dev := s.msgCounted_rd p rfl rfl

theorem State.msgCounted_node : (s.msgCounted p).rd K.sklNodeId = s.rd K.sklNodeId := s.msgCounted_rd p rfl rfl

theorem State.msgCounted_hopLimit : (s.msgCounted p).rd K.sklHopLimit = s.rd K.sklHopLimit := s.msgCounted_rd p rfl rfl

theorem State.msgCounted_skUp (q : Nat) : (s.msgCounted p).skUp q = s.skUp q := by
  unfold State.msgCounted State.skUp State.skLink
  rw [State.rd_inc_ne _ _ (instKey_ne _ _), State.rd_wr_ne _ _ (instKey_ne _ _)]

end

section
variable {p : Nat} {m : Msg} {s : State} (hu : s.skUp p = true) (hd : (s.skPort p).deaf = false)
include hu hd

theorem msgReceived_bad (hg : goodMsg m = false) :
    msgReceived p m s = ((s.wr (K.spsRxState p) 0).inc 32 (K.spsCrcErrors p)).flag (K.spsPortStatus p) 8 134 := by
  rw [msgReceived, if_neg (by simp [hu, hd])]
  exact if_pos (by simp [hg])

theorem msgReceived_stale (hg : goodMsg m = true) (hr : m.role < 4096) (he : m.epoch < s.epochOf m.role) :
    msgReceived p m s = (((s.msgCounted p).inc 32 K.sklStaleDrops).flag K.sklLinkStatus 1 133).sendStale p m.source m.role := by
  rw [msgReceived, if_neg (by simp [hu, hd])]
  exact (if_neg (by simp [hg])).trans (if_pos ⟨by omega, hr, he⟩)

/-- A good message of a sender without a role goes on by its class, its flags and its destination. -/
theorem msgReceived_roleless (hg : goodMsg m = true) (hr : m.role = 0xFFFF) : msgReceived p m s =
    if m.cls = 3 then (s.msgCounted p).deliverMsg p (innerMsg m) m.stamp
    else if bitOf m.flags 0 = true then (s.msgCounted p).takeBroadcast p (innerMsg m) m.stamp
    else if m.dest = (s.msgCounted p).rd K.sklNodeId then (s.msgCounted p).deliverMsg p (innerMsg m) m.stamp
    else match (s.msgCounted p).route m.dest with
      | none => (s.msgCounted p).noRoute
      | some r => if r.port = p then (s.msgCounted p).noRoute else (s.msgCounted p).forwardMsg r.port (innerMsg m) := by
  rw [msgReceived, if_neg (by simp [hu, hd])]
  refine (if_neg (by simp [hg])).trans ((if_neg (by simp [hr])).trans ?_)
  rw [if_pos hr]
  rfl

end

/-! ### Delivery and forwarding (R455, R456, R459) -/

section
variable {s : State} {p : Nat} {m : SkMsg}

/-- The message stands for its unit. -/
def State.inboxed (s : State) (p : Nat) (m : SkMsg) (stamp : Nat) : State :=
  s.setSkl { s.skl with inbox := s.skl.inbox ++ [(p, m, stamp)] }

theorem State.deliverMsg_delivers (h : s.dev ≠ stFenced ∨ m.cls = 4) (stamp : Nat) : s.deliverMsg p m stamp = s.inboxed p m stamp :=
  if_neg (by rw [not_and_or, not_not]; exact h)

/-- A transit message leaves what stands for the units, the Sequences and the routes. -/
theorem State.transit_kept (s : State) (m : SkMsg) (p : Nat) : (s.transit m p).skl.inbox = s.skl.inbox ∧
    (s.transit m p).skl.last = s.skl.last ∧ (s.transit m p).skl.routes = s.skl.routes := by
  unfold State.transit
  extract_lets free
  split
  · next x hx =>
    obtain ⟨y, rfl⟩ := State.enqueue_port hx
    split <;> exact ⟨rfl, rfl, rfl⟩
  · rw [(s.queueDrop_eff p).skl]
    exact ⟨rfl, rfl, rfl⟩

theorem State.forwardMsg_kept (s : State) (m : SkMsg) (p : Nat) : (s.forwardMsg p m).skl.inbox = s.skl.inbox ∧
    (s.forwardMsg p m).skl.last = s.skl.last ∧ (s.forwardMsg p m).skl.routes = s.skl.routes := by
  unfold State.forwardMsg
  split
  · exact ⟨rfl, rfl, rfl⟩
  · exact State.transit_kept ..

/-- A transit message with room is queued, and nothing else of the state moves. -/
theorem State.transit_room (hc : m.cls ≠ 1) (hl : (s.skQueue p m.cls).length < classDepth m.cls) :
    (s.transit m p).skQueue p m.cls = s.skQueue p m.cls ++ [m] ∧ Eff [.link] [] s (s.transit m p) := by
  have hqueue := State.queued_queue s p m
  have hroom : s.transit m p = if (s.skPort p).idle = true then
      (s.queued p m).setSkPort p { (s.queued p m).skPort p with txFrom := max ((s.queued p m).skPort p).txFrom ((s.queued p m).now + 64) }
      else s.queued p m := by
    rw [State.transit, State.enqueue_room hc hl]
  rw [hroom]
  split
  · refine ⟨?_, (State.setSkPort_eff ..).after (State.setSkPort_eff ..) rfl⟩
    rw [State.skQueue, State.skPort_setSkPort_self]
    exact hqueue
  · exact ⟨hqueue, State.setSkPort_eff ..⟩

theorem State.forwardMsg_transits (hh : m.hops < s.rd K.sklHopLimit) (hu : s.skUp p = true) :
    s.forwardMsg p m = s.transit { m with hops := m.hops + 1 } p := if_neg (by simp [hu, Nat.not_le.mpr hh])

/-- The source's Sequence and route are kept. -/
def State.sourceKept (s : State) (p : Nat) (m : SkMsg) : State :=
  s.setSkl { s.skl with last := tput s.skl.last m.source (m.seq, s.now),
                        routes := tput s.skl.routes m.source { port := p, hops := m.hops, heard := s.now } }

theorem State.takeBroadcast_new (hn : m.source ≠ s.rd K.sklNodeId) (hl : tfind s.skl.last m.source = none) (stamp : Nat) :
    s.takeBroadcast p m stamp = ((s.sourceKept p m).deliverMsg p m stamp).forwardMsg (1 - p) m := by
  unfold State.takeBroadcast
  rw [hl]
  exact (if_neg hn).trans (if_pos rfl)

/-- A message under a stale epoch leaves what stands for the units, and the Sequences. -/
theorem State.sendStale_kept (s : State) (p src role : Nat) : (s.sendStale p src role).skl.inbox = s.skl.inbox ∧
    (s.sendStale p src role).skl.last = s.skl.last := by
  have hsend : ∀ (x : State) (m : SkMsg) (q : Nat), (x.sendOn m none q).skl.inbox = x.skl.inbox ∧ (x.sendOn m none q).skl.last = x.skl.last := by
    intro x m q
    unfold State.sendOn
    split
    · next y hy =>
      obtain ⟨z, rfl⟩ := State.enqueue_port hy
      exact ⟨rfl, rfl⟩
    · split
      · exact ⟨rfl, rfl⟩
      · rw [(x.queueDrop_eff q).skl]
        exact ⟨rfl, rfl⟩
  unfold State.sendStale
  extract_lets recent
  split
  · exact ⟨rfl, rfl⟩
  · unfold State.sendPort
    split
    · exact ⟨rfl, rfl⟩
    · exact hsend _ _ p

end

/-- Settles O53: what a port makes of a message, by its checks, its epoch, its flags and its destination. -/
theorem messageReceiveCommand : Obligations.MessageReceiveCommand := by
  refine ⟨fun p m s hp hu hd hg => ?bad, fun p m s hp hu hd hg hr he => ?stale, fun p m s hp hu hd hg hr hc hf hn hv => ?own,
    fun p m s hp hu hd hg hr hc hv => ?timed, fun p m r s hp hu hd hg hr hc hf hn hroute hq hh hup hl hcls => ?forwarded,
    fun p m s hp hu hd hg hr hc hf hn hroute => ?unrouted, fun p m s hp hu hd hg hr hc hf hn hl hv => ?broadcast⟩
  case bad =>
    have heff : Eff sideParts (sideAnd [.one (K.spsCrcErrors p), .one (K.spsPortStatus p), .one (K.spsRxState p)]) s
        (((s.wr (K.spsRxState p) 0).inc 32 (K.spsCrcErrors p)).flag (K.spsPortStatus p) 8 134) :=
      ((Eff.refl.wr rfl (by simp [sideAnd, KeySet.has])).inc rfl (by simp [sideAnd, KeySet.has])).flag rfl (by simp [sideAnd, KeySet.has])
    refine ⟨_, inst_eq_next hp (msgReceived_bad hu hd hg), ?_, ?_, heff.skl, heff.frame⟩
    · rw [State.flag, (State.arrive_eff ..).rd_inst hp, State.rd_wr_ne _ _ (instKey_ne _ _), State.rd_inc_self,
        State.rd_wr_ne _ _ (instKey_ne _ _)]
    · rw [State.bit, State.flag, (State.arrive_eff ..).rd_inst hp, State.rd_wr_self]
      exact bitOf_setBits_new _ (by decide)
  case stale =>
    have heq := msgReceived_stale hu hd hg hr he
    obtain ⟨hcount, hstate⟩ := s.msgCounted_entries p
    have hflag : Eff sideParts (sideAnd [.one K.sklStaleDrops, .one K.sklLinkStatus]) (s.msgCounted p)
        (((s.msgCounted p).inc 32 K.sklStaleDrops).flag K.sklLinkStatus 1 133) := (Eff.refl.inc rfl rfl).flag rfl rfl
    have hsend := State.sendStale_eff (((s.msgCounted p).inc 32 K.sklStaleDrops).flag K.sklLinkStatus 1 133) p m.source m.role
    obtain ⟨hinbox, hlast⟩ := (((s.msgCounted p).inc 32 K.sklStaleDrops).flag K.sklLinkStatus 1 133).sendStale_kept p m.source m.role
    refine ⟨_, inst_eq_next hp heq, ?_, ?_, hinbox.trans (congrArg Skl.inbox hflag.skl), hlast.trans (congrArg Skl.last hflag.skl), ?_, ?_,
      (Eff.to heq.symm (msgReceived_eff p m s)).frame⟩
    · rw [hsend.rd _ rfl, State.flag_rd_ne _ _ _ (by decide), State.rd_inc_self, s.msgCounted_rd p rfl rfl]
    · rw [State.bit, hsend.rd _ rfl, State.flag_rd]
      exact bitOf_setBits_new _ (by decide)
    · rw [hsend.rd_inst hp, hflag.rd_inst hp, hcount]
    · rw [hsend.rd_inst hp, hflag.rd_inst hp, hstate]
  case own =>
    obtain ⟨hcount, hstate⟩ := s.msgCounted_entries p
    have heq : msgReceived p m s = (s.msgCounted p).inboxed p (innerMsg m) m.stamp :=
      (msgReceived_roleless hu hd hg hr).trans ((if_neg hc).trans ((if_neg (by rw [hf]; decide)).trans ((if_pos (by
        rw [State.msgCounted_node]; exact hn)).trans (State.deliverMsg_delivers (by rw [State.msgCounted_dev]; exact hv) m.stamp))))
    exact ⟨_, inst_eq_next hp heq, rfl, rfl, hcount, hstate, ((State.setSkl_eff ..).after ((s.msgCounted_eff p).after Eff.refl
      (fits_of_subset (by decide) (List.Subset.refl _))) (fits_of_subset (by decide) (List.nil_subset _))).frame⟩
  case timed =>
    obtain ⟨hcount, hstate⟩ := s.msgCounted_entries p
    have heq : msgReceived p m s = (s.msgCounted p).inboxed p (innerMsg m) m.stamp :=
      (msgReceived_roleless hu hd hg hr).trans ((if_pos hc).trans (State.deliverMsg_delivers (.inl (by
        rw [State.msgCounted_dev]; exact hv)) m.stamp))
    exact ⟨_, inst_eq_next hp heq, rfl, hcount, hstate, ((State.setSkl_eff ..).after ((s.msgCounted_eff p).after Eff.refl
      (fits_of_subset (by decide) (List.Subset.refl _))) (fits_of_subset (by decide) (List.nil_subset _))).frame⟩
  case forwarded =>
    obtain ⟨hcount, hstate⟩ := s.msgCounted_entries p
    have hlookup : (s.msgCounted p).route m.dest = some r := hroute
    have hmatch : msgReceived p m s = if r.port = p then (s.msgCounted p).noRoute else (s.msgCounted p).forwardMsg r.port (innerMsg m) :=
      (msgReceived_roleless hu hd hg hr).trans ((if_neg hc).trans ((if_neg (by rw [hf]; decide)).trans ((if_neg (by
        rw [State.msgCounted_node]; exact hn)).trans (by rw [hlookup]))))
    have hforward : (s.msgCounted p).forwardMsg r.port (innerMsg m) = (s.msgCounted p).transit { innerMsg m with hops := m.hops + 1 } r.port :=
      State.forwardMsg_transits (by rw [State.msgCounted_hopLimit]; exact hh) (by rw [State.msgCounted_skUp]; exact hup)
    have heq := (hmatch.trans (if_neg hq)).trans hforward
    obtain ⟨hqueue, heff⟩ := State.transit_room (s := s.msgCounted p) (p := r.port) (m := { innerMsg m with hops := m.hops + 1 }) hcls hl
    obtain ⟨hinbox, -, -⟩ := (s.msgCounted p).transit_kept { innerMsg m with hops := m.hops + 1 } r.port
    exact ⟨_, inst_eq_next hp heq, hqueue, hinbox, (heff.rd _ rfl).trans hcount, (heff.rd _ rfl).trans hstate,
      (heff.after ((s.msgCounted_eff p).after Eff.refl (fits_of_subset (by decide) (List.Subset.refl _)))
        (fits_of_subset (by decide) (List.nil_subset _))).frame⟩
  case unrouted =>
    obtain ⟨hcount, hstate⟩ := s.msgCounted_entries p
    have hlookup : (s.msgCounted p).route m.dest = none := hroute
    have heq : msgReceived p m s = (s.msgCounted p).noRoute :=
      (msgReceived_roleless hu hd hg hr).trans ((if_neg hc).trans ((if_neg (by rw [hf]; decide)).trans ((if_neg (by
        rw [State.msgCounted_node]; exact hn)).trans (by rw [hlookup]))))
    have heff := (s.msgCounted p).noRoute_eff
    refine ⟨_, inst_eq_next hp heq, ?_, heff.skl, (heff.rd_inst hp).trans hcount, (heff.rd_inst hp).trans hstate,
      (Eff.to heq.symm (msgReceived_eff p m s)).frame⟩
    rw [State.noRoute_count, s.msgCounted_rd p rfl rfl]
  case broadcast =>
    obtain ⟨hcount, hstate⟩ := s.msgCounted_entries p
    have hdeliver : ((s.msgCounted p).sourceKept p (innerMsg m)).deliverMsg p (innerMsg m) m.stamp =
        ((s.msgCounted p).sourceKept p (innerMsg m)).inboxed p (innerMsg m) m.stamp :=
      State.deliverMsg_delivers (s := (s.msgCounted p).sourceKept p (innerMsg m)) (.inl fun h => hv ((s.msgCounted_dev p).symm.trans h)) m.stamp
    have hnew : (s.msgCounted p).takeBroadcast p (innerMsg m) m.stamp =
        (((s.msgCounted p).sourceKept p (innerMsg m)).inboxed p (innerMsg m) m.stamp).forwardMsg (1 - p) (innerMsg m) := by
      rw [State.takeBroadcast_new (by rw [State.msgCounted_node]; exact hn) hl, hdeliver]
    have heq := (msgReceived_roleless hu hd hg hr).trans ((if_neg hc).trans ((if_pos hf).trans hnew))
    have heff := State.forwardMsg_eff (((s.msgCounted p).sourceKept p (innerMsg m)).inboxed p (innerMsg m) m.stamp) (1 - p) (innerMsg m)
    obtain ⟨hinbox, hlast, hroutes⟩ := (((s.msgCounted p).sourceKept p (innerMsg m)).inboxed p (innerMsg m) m.stamp).forwardMsg_kept
      (innerMsg m) (1 - p)
    refine ⟨_, inst_eq_next hp heq, hinbox, ?_, ?_, (heff.rd_inst hp).trans hcount, (heff.rd_inst hp).trans hstate,
      (Eff.to heq.symm (msgReceived_eff p m s)).frame⟩
    · rw [hlast]
      exact (tfind_tput ..).trans (if_pos rfl)
    · rw [State.route, hroutes]
      exact (tfind_tput ..).trans (if_pos rfl)

end Sys2Proof.Machine

/-! SUPPORT. Numbers kept in a DOMAIN, and the line's heartbeats, roles and epochs (O55). -/

namespace Sys2Proof.Machine

-- The proofs of this part are checked one after another, in one thread.
set_option Elab.async false

/-! ### Little-endian numbers in a DOMAIN -/

theorem ofLe_lt : ∀ l : List Nat, ofLe l < 256 ^ l.length
  | [] => by decide
  | b :: l => by
    have := ofLe_lt l
    rw [ofLe, List.length_cons, Nat.pow_succ]
    omega

theorem leAt_lt (l : List Nat) (o n : Nat) : leAt l o n < 256 ^ n :=
  (ofLe_lt _).trans_le (Nat.pow_le_pow_right (by decide) (List.length_take_le ..))

/-- The bytes of a number read back as the number. -/
theorem ofLe_bytes : ∀ n v : Nat, ofLe ((List.range n).map fun i => (leBytes n v).getD i 0 % 256) = v % 256 ^ n
  | 0, v => (Nat.mod_one v).symm
  | n + 1, v => by
    have htail := ofLe_bytes n (v / 256)
    rw [List.range_succ_eq_map, List.map_cons, List.map_map, ofLe, Nat.pow_succ', Nat.mod_mul]
    refine congr_arg₂ _ ?_ (congrArg (256 * ·) htail)
    simp [leBytes]

theorem domKey_add (k off i : Nat) : domKey k (off + i) = domKey k off + i := by
  unfold domKey
  omega

theorem tfind_putBytes (k j : Nat) : ∀ (l : List Nat) (t : Tab Nat) (off : Nat), tfind (putBytes t k off l) j =
    if domKey k off ≤ j ∧ j < domKey k off + l.length then some (l.getD (j - domKey k off) 0 % 256) else tfind t j
  | [], t, off => (if_neg (by rw [List.length_nil]; omega)).symm
  | b :: l, t, off => by
    rw [putBytes, tfind_putBytes k j l, domKey_add, tfind_tput, List.length_cons]
    generalize domKey k off = d
    by_cases hfirst : j = d
    · rw [if_neg (by omega), if_pos hfirst, if_pos (by omega), hfirst, Nat.sub_self, List.getD_cons_zero]
    · rw [if_neg hfirst]
      by_cases hlater : d + 1 ≤ j ∧ j < d + 1 + l.length
      · rw [if_pos hlater, if_pos (by omega), show j - d = j - (d + 1) + 1 by omega, List.getD_cons_succ]
      · rw [if_neg hlater, if_neg (by omega)]

section
variable (s : State) (k off : Nat)

/-- A number written in a DOMAIN reads back, as many of its bytes as were written. -/
theorem State.domLe_domWrite (n v : Nat) : (s.domWrite k off (leBytes n v)).domLe k off n = v % 256 ^ n := by
  have hbytes : (s.domWrite k off (leBytes n v)).domBytes k off n = (List.range n).map fun i => (leBytes n v).getD i 0 % 256 := by
    refine List.map_congr_left fun i hi => ?_
    have hin := List.mem_range.mp hi
    simp only [State.domByte, State.domWrite, tfind_putBytes]
    rw [domKey_add, leBytes_length, if_pos ⟨Nat.le_add_right .., Nat.add_lt_add_left hin _⟩, Nat.add_sub_cancel_left]
    rfl
  rw [State.domLe, hbytes, ofLe_bytes]

/-- A number in a DOMAIN is kept by a write to other bytes. -/
theorem State.domLe_domWrite_ne (l : List Nat) (j o n : Nat)
    (h : domKey j o + n ≤ domKey k off ∨ domKey k off + l.length ≤ domKey j o) : (s.domWrite k off l).domLe j o n = s.domLe j o n := by
  refine congrArg ofLe (List.map_congr_left fun i hi => ?_)
  have hin := List.mem_range.mp hi
  simp only [State.domByte, State.domWrite, tfind_putBytes]
  rw [domKey_add, if_neg (by omega)]

end

/-! ### Epochs and roles (R465 to R467) -/

section
variable (s : State)

/-- A role's epoch only rises. -/
theorem State.raiseEpoch_epochOf {r e : Nat} (hr : r < 4096) (he : e < 256 ^ 4) : (s.raiseEpoch r e).epochOf r = max (s.epochOf r) e := by
  unfold State.raiseEpoch
  split
  · next h =>
    obtain ⟨-, hlt⟩ := h
    rw [State.epochOf, State.domLe_domWrite, Nat.mod_eq_of_lt he]
    omega
  · next h =>
    have hle : ¬ s.epochOf r < e := fun hlt => h ⟨hr, hlt⟩
    omega

/-- An epoch raised leaves RoleTable as it is. -/
theorem State.raiseEpoch_roleTable (q e o n : Nat) (h : o + n ≤ 2 ^ 32) :
    (s.raiseEpoch q e).domLe K.sklRoleTable o n = s.domLe K.sklRoleTable o n := by
  unfold State.raiseEpoch
  split
  · next hq =>
    obtain ⟨hq, -⟩ := hq
    refine State.domLe_domWrite_ne s _ _ _ _ _ _ ?_
    rw [leBytes_length]
    simp only [domKey, K.sklRoleTable, K.sklEpochTable]
    omega
  · rfl

end

/-! ### A message of the line, taken -/

section
variable {p q stamp : Nat} {m : Msg} {s u : State} (h : s.takeMsg m = some (q, stamp, u)) (hc : m.cls = 6)
include h

/-- A message taken leaves all but the inbox. -/
theorem State.takeMsg_rest : Eff [.link] [] s u ∧ u.skl.beats = s.skl.beats := by
  obtain ⟨l, rfl⟩ := State.takeMsg_inbox h
  exact ⟨State.setSkl_eff .., rfl⟩

include hc

/-- The node's heartbeat is kept. -/
def State.beatKept (u : State) (m : Msg) : State :=
  u.setSkl { u.skl with beats := tput u.skl.beats m.source { at_ := u.now, state := nth m.payload 1, role := m.role, epoch := m.epoch } }

theorem heartbeat_kept (hk : nth m.payload 0 = 1) : heartbeat p m s =
    if (u.beatKept m).lineMaster = true ∧ m.role ≠ 0xFFFF ∧ m.role < 4096 ∧
      ((u.beatKept m).roleNode m.role ≠ m.source ∨ (u.beatKept m).roleEpoch m.role ≠ m.epoch) then
      (u.beatKept m).sendStale p m.source m.role
    else u.beatKept m := by
  rw [heartbeat, h]
  exact if_neg (by simp [hc, hk])

theorem epoch_taken (hk : nth m.payload 0 = 2) : epoch m s =
    if lineNode m.payload = (u.raiseEpoch (lineRole m.payload) (lineEpoch m.payload)).rd K.sklNodeId then
      (u.raiseEpoch (lineRole m.payload) (lineEpoch m.payload)).promoted (lineRole m.payload) (lineEpoch m.payload)
    else if lineRole m.payload = (u.raiseEpoch (lineRole m.payload) (lineEpoch m.payload)).rd K.sklRole ∧
        (u.raiseEpoch (lineRole m.payload) (lineEpoch m.payload)).rd K.sklRoleEpoch < lineEpoch m.payload then
      (u.raiseEpoch (lineRole m.payload) (lineEpoch m.payload)).fenceStop
    else u.raiseEpoch (lineRole m.payload) (lineEpoch m.payload) := by
  rw [epoch, h]
  exact if_neg (by simp [hc, hk])

theorem lineStale_named (hk : nth m.payload 0 = 3) (hn : lineNode m.payload = u.rd K.sklNodeId) :
    lineStale m s = if lineEpoch m.payload ≠ u.rd K.sklRoleEpoch then u.fenceStop else u := by
  rw [lineStale, h]
  exact (if_neg (by simp [hc, hk])).trans (if_pos hn)

end

/-- A message under a stale epoch leaves the heartbeats. -/
theorem State.sendStale_beats (s : State) (p src role : Nat) : (s.sendStale p src role).skl.beats = s.skl.beats := by
  have hsend : ∀ (x : State) (m : SkMsg) (q : Nat), (x.sendOn m none q).skl.beats = x.skl.beats := by
    intro x m q
    unfold State.sendOn
    split
    · next y hy =>
      obtain ⟨z, rfl⟩ := State.enqueue_port hy
      rfl
    · split
      · rfl
      · exact congrArg Skl.beats (x.queueDrop_eff q).skl
  unfold State.sendStale
  extract_lets recent
  split
  · rfl
  · unfold State.sendPort
    split
    · rfl
    · exact hsend _ _ p

theorem State.promoted_entries (s : State) (role epoch : Nat) : (s.promoted role epoch).rd K.sklRole = role ∧
    (s.promoted role epoch).rd K.sklRoleEpoch = epoch ∧ (s.promoted role epoch).bit K.sklLinkStatus 2 = true := by
  unfold State.promoted
  refine ⟨?_, ?_, ?_⟩
  · rw [State.raise_rd, State.flag_rd_ne _ _ _ (by decide), State.rd_wr_ne _ _ (by decide), State.rd_wr_self]
  · rw [State.raise_rd, State.flag_rd_ne _ _ _ (by decide), State.rd_wr_self]
  · rw [State.bit, State.raise_rd, State.flag_rd]
    exact bitOf_setBits_new _ (by decide)

/-- A stale epoch fences the device. -/
theorem State.fenceStop_dev (s : State) (hr : s.dev ≠ stReset) (hf : s.dev ≠ stFault) : s.fenceStop.dev = stFenced := by
  unfold State.fenceStop
  split
  · next h =>
    obtain h | h | h := h
    · exact absurd h hr
    · exact absurd h hf
    · exact h
  · next h =>
    have hfence : s.fence = ((s.wr K.devStopCause 5).enter stFenced).halt := if_neg h
    rw [State.dev, (State.stopUnits_eff _).rd _ rfl, hfence, (State.halt_eff _).rd _ rfl]
    exact (s.wr K.devStopCause 5).enter_dev stFenced false

/-! ### A role passes (R466) -/

section
variable (s : State) (r node e : Nat)

/-- RoleTable names the role's new node and epoch. -/
def State.roleWritten (s : State) (r node e : Nat) : State :=
  (s.domWrite K.sklRoleTable (16 * r) (leBytes 2 node)).domWrite K.sklRoleTable (16 * r + 4) (leBytes 4 e)

/-- A role with no node left is told. -/
def State.roleLostTold (s : State) (node : Nat) : State :=
  if node = 0xFFFF then (s.flag K.sklLinkStatus 2 131).raise Ev.lnkRoleLost else s

/-- The new epoch stands in both tables, and a role left without a node is told. -/
def State.roleTold (s : State) (r node e : Nat) : State := ((s.roleWritten r node e).raiseEpoch r e).roleLostTold node

theorem State.passRole_told : s.passRole r node e =
    (((s.roleTold r node e).broadcast 6 0 (linePayload 2 r node e)).inc 32 K.sklPromotions).raise Ev.lnkEpoch := rfl

theorem State.roleLostTold_eff : Eff sideParts (sideAnd [.one K.sklLinkStatus]) s (s.roleLostTold node) :=
  Eff.ite ((State.raise_eff ..).after (Eff.refl.flag rfl rfl) rfl) Eff.refl

theorem State.roleTold_rd {k : Nat} (hk : k ≠ K.sklLinkStatus) (hs : sideKeys.any (·.has k) = false := by rfl) :
    (s.roleTold r node e).rd k = s.rd k := by
  have hkeys : (sideAnd [.one K.sklLinkStatus]).any (·.has k) = false := by
    rw [sideAnd, List.any_append, hs]
    simpa [KeySet.has] using hk
  rw [State.roleTold, (State.roleLostTold_eff ..).rd _ hkeys, (State.raiseEpoch_eff ..).rd _ rfl]
  rfl

theorem State.passRole_rd {k : Nat} (hk : (sideAnd [.fam (K.spsPortStatus 0) 2, .fam (K.spsQueueDrops 0) 2]).any (·.has k) = false)
    (hp : k ≠ K.sklPromotions) : (s.passRole r node e).rd k = (s.roleTold r node e).rd k := by
  rw [State.passRole_told, State.raise_rd, State.rd_inc_ne _ _ hp, (State.broadcast_eff ..).rd _ hk]

theorem State.passRole_promotions : (s.passRole r node e).rd K.sklPromotions = (s.rd K.sklPromotions + 1) % 2 ^ 32 := by
  rw [State.passRole_told, State.raise_rd, State.rd_inc_self, (State.broadcast_eff ..).rd _ rfl, State.roleTold_rd _ _ _ _ (by decide)]

theorem State.passRole_lost : (s.passRole r 0xFFFF e).bit K.sklLinkStatus 1 = true := by
  rw [State.bit, State.passRole_rd _ _ _ _ rfl (by decide), State.roleTold, State.roleLostTold, if_pos rfl, State.raise_rd, State.flag_rd]
  exact bitOf_setBits_new _ (by decide)

theorem State.passRole_roleTable {o n : Nat} (h : o + n ≤ 2 ^ 32) :
    (s.passRole r node e).domLe K.sklRoleTable o n = (s.roleWritten r node e).domLe K.sklRoleTable o n := by
  have hpass : Eff (withSide [.link]) (sideAnd [.fam (K.spsPortStatus 0) 2, .fam (K.spsQueueDrops 0) 2, .one K.sklPromotions])
      (s.roleTold r node e) (s.passRole r node e) := by
    rw [State.passRole_told]
    exact (State.raise_eff ..).after (((State.broadcast_eff ..).after Eff.refl rfl).inc rfl rfl) rfl
  rw [hpass.domLe _ _ _, State.roleTold, (State.roleLostTold_eff ..).domLe _ _ _, State.raiseEpoch_roleTable _ _ _ _ _ h]

/-- The role's new node and epoch stand in RoleTable. -/
theorem State.passRole_table (hr : r < 4096) :
    (s.passRole r node e).roleNode r = node % 256 ^ 2 ∧ (s.passRole r node e).roleEpoch r = e % 256 ^ 4 := by
  refine ⟨?_, ?_⟩
  · rw [State.roleNode, State.passRole_roleTable _ _ _ _ (by omega), State.roleWritten, State.domLe_domWrite_ne _ _ _ _ _ _ _ (by
      rw [domKey_add]
      omega), State.domLe_domWrite]
  · rw [State.roleEpoch, State.passRole_roleTable _ _ _ _ (by omega), State.roleWritten, State.domLe_domWrite]

theorem State.passRole_now : (s.passRole r node e).now = s.now := (s.passRole_eff r node e).part .clock rfl

end

/-- A spare that qualifies, or none. -/
def State.nextNode (s : State) (r : Nat) : Nat := ((s.roleSpares r).find? s.spareFit).getD 0xFFFF

theorem State.nextNode_lt (s : State) (r : Nat) : s.nextNode r < 2 ^ 16 := by
  unfold State.nextNode
  cases h : (s.roleSpares r).find? s.spareFit with
  | none => decide
  | some n =>
    obtain ⟨i, -, rfl⟩ := List.mem_map.mp (List.mem_of_find?_eq_some h)
    have hlen := ofLe_lt (s.domBytes K.sklRoleTable (16 * r + 8 + 2 * i) 2)
    rw [State.domBytes, List.length_map, List.length_range] at hlen
    exact hlen

theorem nextEpoch_lt (e : Nat) : nextEpoch e < 2 ^ 32 := by
  unfold nextEpoch
  split
  · decide
  · exact Nat.mod_lt _ (by decide)

/-- Settles O55: heartbeats are kept, epochs raised and fenced, and a silent node's role passes on. -/
theorem lineCommands : Obligations.LineCommands := by
  refine ⟨fun p m q stamp u s hp h hc hk hl => ?beats, fun p m q stamp u s hp h hc hk => ?beatsAny,
    fun m q stamp u s h hc hk hr hn hrole => ?raises, fun m q stamp u s h hc hk hn => ?promotes,
    fun m q stamp u s h hc hk hn hrole he hreset hfault => ?fences, fun m q stamp u s h hc hk hn he hreset hfault => ?staleFences,
    fun m q stamp u s h hc hk hn he => ?staleSame, fun r n u s hr hl ho hm hnone hself hu hn => ?dead,
    fun k s hk hl ho hf hnone hself he => ?spare⟩
  case beats =>
    obtain ⟨htake, hbeats⟩ := State.takeMsg_rest h
    have hnow : u.now = s.now := htake.part .clock rfl
    have hmaster : ¬ (u.beatKept m).lineMaster = true := by
      have : (u.beatKept m).lineMaster = s.lineMaster := congrArg (· == 0) (htake.rd K.sklRole rfl)
      rw [this, hl]
      decide
    have heq : heartbeat p m s = u.beatKept m := (heartbeat_kept h hc hk).trans (if_neg fun hx => hmaster hx.1)
    refine ⟨_, inst_eq_next hp heq, ?_, fun n hne => ?_, rfl, ((State.setSkl_eff ..).after htake rfl).frame⟩
    · exact ((tfind_tput ..).trans (if_pos rfl)).trans (by rw [hnow])
    · exact ((tfind_tput ..).trans (if_neg hne)).trans (by rw [hbeats])
  case beatsAny =>
    obtain ⟨htake, -⟩ := State.takeMsg_rest h
    have hnow : u.now = s.now := htake.part .clock rfl
    have hbeats : (heartbeat p m s).skl.beats = (u.beatKept m).skl.beats := by
      rw [heartbeat_kept h hc hk]
      split
      · exact State.sendStale_beats ..
      · rfl
    refine ⟨_, inst_eq_next hp rfl, ?_, (heartbeat_eff p m s).frame⟩
    rw [hbeats]
    exact ((tfind_tput ..).trans (if_pos rfl)).trans (by rw [hnow])
  case raises =>
    obtain ⟨htake, -⟩ := State.takeMsg_rest h
    have hraise := u.raiseEpoch_eff (lineRole m.payload) (lineEpoch m.payload)
    have heff : Eff [.domains, .link] [] s (u.raiseEpoch (lineRole m.payload) (lineEpoch m.payload)) :=
      hraise.after (htake.after Eff.refl rfl) rfl
    have heq : epoch m s = u.raiseEpoch (lineRole m.payload) (lineEpoch m.payload) :=
      (epoch_taken h hc hk).trans ((if_neg (by rw [heff.rd _ rfl]; exact hn)).trans (if_neg (by rw [heff.rd _ rfl]; exact fun hx => hrole hx.1)))
    refine ⟨_, congrArg Host.Outcome.next heq, ?_, heff.rd _ rfl, congrArg Skl.inbox hraise.skl, heff.frame⟩
    have hold : u.epochOf (lineRole m.payload) = s.epochOf (lineRole m.payload) := htake.domLe _ _ _
    rw [State.raiseEpoch_epochOf u hr (e := lineEpoch m.payload) (leAt_lt m.payload 8 4), hold]
  case promotes =>
    obtain ⟨htake, -⟩ := State.takeMsg_rest h
    have hraise := u.raiseEpoch_eff (lineRole m.payload) (lineEpoch m.payload)
    have heff : Eff [.domains, .link] [] s (u.raiseEpoch (lineRole m.payload) (lineEpoch m.payload)) :=
      hraise.after (htake.after Eff.refl rfl) rfl
    have hpromoted := (u.raiseEpoch (lineRole m.payload) (lineEpoch m.payload)).promoted_eff (lineRole m.payload) (lineEpoch m.payload)
    have heq := (epoch_taken h hc hk).trans (if_pos (by rw [heff.rd _ rfl]; exact hn))
    obtain ⟨hrole, hepoch, hbit⟩ := (u.raiseEpoch (lineRole m.payload) (lineEpoch m.payload)).promoted_entries (lineRole m.payload)
      (lineEpoch m.payload)
    exact ⟨_, congrArg Host.Outcome.next heq, hrole, hepoch, hbit, congrArg Skl.inbox (hpromoted.skl.trans hraise.skl),
      (hpromoted.after (heff.after Eff.refl rfl) rfl).frame⟩
  case fences =>
    obtain ⟨htake, -⟩ := State.takeMsg_rest h
    have heff : Eff [.domains, .link] [] s (u.raiseEpoch (lineRole m.payload) (lineEpoch m.payload)) :=
      (State.raiseEpoch_eff ..).after (htake.after Eff.refl rfl) rfl
    have hdev : (u.raiseEpoch (lineRole m.payload) (lineEpoch m.payload)).dev = s.dev := heff.rd _ rfl
    have heq := (epoch_taken h hc hk).trans ((if_neg (by rw [heff.rd _ rfl]; exact hn)).trans (if_pos (by
      rw [heff.rd _ rfl, heff.rd _ rfl]
      exact ⟨hrole, he⟩)))
    exact ⟨_, congrArg Host.Outcome.next heq, State.fenceStop_dev _ (by rw [hdev]; exact hreset) (by rw [hdev]; exact hfault),
      (Eff.to heq.symm (epoch_eff m s)).frame⟩
  case staleFences =>
    obtain ⟨htake, -⟩ := State.takeMsg_rest h
    have hdev : u.dev = s.dev := htake.rd _ rfl
    have heq := (lineStale_named h hc hk (hn.trans (htake.rd _ rfl).symm)).trans (if_pos (by rw [htake.rd _ rfl]; exact he))
    exact ⟨_, congrArg Host.Outcome.next heq, State.fenceStop_dev _ (by rw [hdev]; exact hreset) (by rw [hdev]; exact hfault),
      (Eff.to heq.symm (lineStale_eff m s)).frame⟩
  case staleSame =>
    obtain ⟨htake, -⟩ := State.takeMsg_rest h
    have heq := (lineStale_named h hc hk (hn.trans (htake.rd _ rfl).symm)).trans (if_neg (by
      rw [htake.rd _ rfl, not_not]
      exact he))
    exact ⟨_, congrArg Host.Outcome.next heq, rfl, htake.frame⟩
  case dead =>
    subst hu
    have heq : roleDead r s = (s.at (s.heard (s.roleNode r) + s.beatLimit)).passRole r n (nextEpoch (s.roleEpoch r)) := by
      rw [hn]
      exact if_neg (by simp [hl, ho, hm, hnone, hself])
    obtain ⟨hnode, hepoch⟩ := (s.at (s.heard (s.roleNode r) + s.beatLimit)).passRole_table r n (nextEpoch (s.roleEpoch r)) hr
    have hlt : n < 2 ^ 16 := by
      rw [hn]
      exact State.nextNode_lt _ r
    refine ⟨_, inst_eq_next hr heq, State.passRole_now .., hnode.trans (Nat.mod_eq_of_lt hlt), hepoch, State.passRole_promotions ..,
      fun hlost => ?_, (Eff.to heq.symm (roleDead_eff r s)).frame⟩
    rw [hlost]
    exact State.passRole_lost ..
  case spare =>
    have heq : sparePromote s = ((s.at (s.heard (s.roleNode 0) + s.beatLimit + k * s.beatPeriod)).promoted 0
        (nextEpoch (s.roleEpoch 0))).passRole 0 (s.rd K.sklNodeId) (nextEpoch (s.roleEpoch 0)) := by
      rw [sparePromote, hk]
      exact if_neg (by simp [hl, ho, hf, hnone, hself, Nat.not_lt.mpr he])
    obtain ⟨hrole, hepoch, -⟩ := (s.at (s.heard (s.roleNode 0) + s.beatLimit + k * s.beatPeriod)).promoted_entries 0 (nextEpoch (s.roleEpoch 0))
    have hpromoted := (s.at (s.heard (s.roleNode 0) + s.beatLimit + k * s.beatPeriod)).promoted_eff 0 (nextEpoch (s.roleEpoch 0))
    obtain ⟨hnode, -⟩ := ((s.at (s.heard (s.roleNode 0) + s.beatLimit + k * s.beatPeriod)).promoted 0
      (nextEpoch (s.roleEpoch 0))).passRole_table 0 (s.rd K.sklNodeId) (nextEpoch (s.roleEpoch 0)) (by decide)
    refine ⟨_, congrArg Host.Outcome.next heq, (State.passRole_now ..).trans (hpromoted.part .clock rfl), ?_, ?_, hnode, ?_,
      (Eff.to heq.symm (sparePromote_eff s)).frame⟩
    · rw [State.passRole_rd _ _ _ _ rfl (by decide), State.roleTold_rd _ _ _ _ (by decide), hrole]
    · rw [State.passRole_rd _ _ _ _ rfl (by decide), State.roleTold_rd _ _ _ _ (by decide), hepoch]
    · rw [State.passRole_promotions, hpromoted.rd _ rfl]
      rfl

end Sys2Proof.Machine

/-! SUPPORT. Frames and links of the Ethernet ports (O57). -/

namespace Sys2Proof.Machine

-- The proofs of this part are checked one after another, in one thread.
set_option Elab.async false

/-- More entries contain more with those an event counts in. -/
theorem sideAnd_subset {ks js : List KeySet} (h : ks ⊆ js) : sideAnd ks ⊆ sideAnd js :=
  List.append_subset.mpr ⟨List.subset_append_left _ _, List.Subset.trans h (List.subset_append_right _ _)⟩

/-! ### A frame received (R484, R486, R487) -/

/-- A frame is counted in. -/
def State.frameIn (s : State) (p : Nat) : State := s.inc 64 (K.ethsFramesIn p)

section
variable {s : State} {p : Nat} {frame : List Nat}

theorem ethFrameReceive_retired (h : s.rd (K.ethsLinkState p) = 3) (ok : Bool) : ethFrameReceive p frame ok s = s.rxDiscard p := if_pos h

theorem ethUp_not_retired (hu : s.ethUp p = true) : s.rd (K.ethsLinkState p) ≠ 3 := fun h => by
  rw [State.ethUp, h] at hu
  cases hu

theorem ethFrameReceive_badFcs (hu : s.ethUp p = true) : ethFrameReceive p frame false s = s.inc 32 (K.ethsFcsErrors p) := by
  rw [ethFrameReceive, if_neg (ethUp_not_retired hu), if_neg (by simp [hu])]
  exact if_pos (by decide)

theorem ethFrameReceive_long (hu : s.ethUp p = true) (hl : s.rd (K.ethMaxFrame p) < frame.length + 4) :
    ethFrameReceive p frame true s = s.rxDiscard p := by
  rw [ethFrameReceive, if_neg (ethUp_not_retired hu), if_neg (by simp [hu])]
  exact (if_neg (by decide)).trans (if_pos hl)

theorem ethFrameReceive_good (hu : s.ethUp p = true) (hl : frame.length + 4 ≤ s.rd (K.ethMaxFrame p)) :
    ethFrameReceive p frame true s =
      if beAt (untag frame) 12 2 = 0x88F7 then (s.frameIn p).coreRx p frame
      else if beAt (untag frame) 12 2 = 0x0806 then (s.frameIn p).takeArp p (untag frame)
      else if beAt (untag frame) 12 2 = 0x0800 then (s.frameIn p).takeIp p (untag frame) frame
      else (s.frameIn p).rxDiscard p := by
  rw [ethFrameReceive, if_neg (ethUp_not_retired hu), if_neg (by simp [hu])]
  exact (if_neg (by decide)).trans (if_neg (by omega))

end

section
variable (s : State) (p : Nat)

theorem State.frameIn_eff : Eff [.regs] [.one (K.ethsFramesIn p)] s (s.frameIn p) := Eff.refl.inc rfl (by simp [KeySet.has])

theorem State.frameIn_group_eff : Eff [.regs] [.fam (K.ethsFramesIn 0) 2] s (s.frameIn p) := Eff.refl.inc rfl (KeySet.any_fam _ rfl)

theorem State.frameIn_count : (s.frameIn p).rd (K.ethsFramesIn p) = (s.rd (K.ethsFramesIn p) + 1) % 2 ^ 64 := State.rd_inc_self ..

theorem State.frameIn_time : (s.frameIn p).time = s.time := (s.frameIn_group_eff p).time

theorem State.frameIn_asymmetry {p : Nat} (hp : p < 2) : (s.frameIn p).rdI 32 (K.asymAsymmetry p) = s.rdI 32 (K.asymAsymmetry p) := by
  have hne : K.asymAsymmetry p ≠ K.ethsFramesIn p := by
    simp only [K.asymAsymmetry, K.ethsFramesIn, runKey, instKey]
    omega
  rw [State.rdI, State.frameIn, State.rd_inc_ne _ _ hne]
  rfl

/-- A frame counted in moves no queue. -/
theorem State.frameIn_queue {q : Nat} (hq : q < 64) : (s.frameIn p).queCredits q = s.queCredits q ∧
    (s.frameIn p).rd (K.qItemBytes q) = s.rd (K.qItemBytes q) ∧ (s.frameIn p).bankSlots q = s.bankSlots q := by
  have heff := s.frameIn_group_eff p
  have henable : (s.frameIn p).on (K.qQueueEnable q) = s.on (K.qQueueEnable q) := by
    rw [State.on, heff.rd_inst hq, State.on]
  have hslots : (s.frameIn p).bankSlots q = s.bankSlots q := by
    rw [State.bankSlots, heff.rd_inst hq, heff.rd_inst hq]
    rfl
  refine ⟨?_, heff.rd_inst hq, hslots⟩
  rw [State.queCredits, henable, heff.rd_inst hq, hslots, heff.que q]
  rfl

end

theorem coreItem_length (len p flags seq stamp : Nat) (f : List Nat) : (coreItem len p flags seq stamp f).length = f.length + 32 := by
  simp [coreItem, leBytes_length]
  omega

/-- The item that a received frame makes, with its receive stamp. -/
def State.rxItem (s : State) (p : Nat) (f : List Nat) : List Nat :=
  coreItem f.length p 4 0 (ofI 80 ((s.time : Int) - s.rdI 32 (K.asymAsymmetry p))) f

theorem State.coreRx_written {s : State} {p q : Nat} {f : List Nat} (hq : q = s.rd (K.ethcCoreRxQueue p)) (hlt : q < 64)
    (hb : f.length + 32 ≤ s.rd (K.qItemBytes q)) (hc : s.queCredits q ≠ 0) : s.coreRx p f = s.queueWritten q (s.rxItem p f) := by
  have hoffer : s.offerTo q (s.rxItem p f) = (true, s.queueWritten q (s.rxItem p f)) :=
    State.offerTo_written hlt ((coreItem_length ..).trans_le hb) hc
  unfold State.coreRx
  extract_lets q' stamp
  have hq' : q' = q := hq.symm
  rw [hq', if_neg (by omega), show coreItem f.length p 4 0 stamp f = s.rxItem p f from rfl, hoffer]

/-- An ARP request for the port's address is learned from and answered. -/
theorem State.takeArp_request {s : State} {p : Nat} {f : List Nat} (ha : beAt f 38 4 = s.rd (K.ethIpAddress p)) (ho : beAt f 20 2 = 1) :
    s.takeArp p f = (s.arpLearn p (beAt f 28 4) (beAt f 22 6)).sendFrame p
      ((s.arpLearn p (beAt f 28 4) (beAt f 22 6)).arpFrame p 2 ((f.drop 22).take 6) ((f.drop 22).take 6) (beAt f 28 4)) := by
  unfold State.takeArp
  extract_lets op x
  rw [if_neg (not_not.mpr ha), if_pos ho]

theorem State.sendFrame_eff_own (s : State) (p : Nat) (f : List Nat) : Eff [.regs, .out] [.one (K.ethsFramesOut p)] s (s.sendFrame p f) :=
  Eff.upd_ethOut (Eff.refl.inc rfl (by simp [KeySet.has])) rfl

/-! ### A frame sent (R486) -/

section
variable {s : State} {p q : Nat} {it : QItem} {qu : Que}

/-- The item has left its queue. -/
def State.itemTaken (s : State) (q : Nat) (qu : Que) : State :=
  (({ s with queues := tput s.queues q qu }).wr (K.qsFill q) (queFill qu)).inc 64 (K.qsItemsOut q)

theorem coreTxFrame_sends (hu : s.ethUp p = true) (hq : q = s.rd (K.ethcCoreTxQueue p)) (hlt : q < 64)
    (ht : queTake (s.que q) = some (it, qu)) (hf : bitOf (nth it.bytes 3) 1 = false) :
    coreTxFrame p s = (s.itemTaken q qu).sendFrame p ((it.bytes.drop 32).take (leAt it.bytes 0 2)) := by
  unfold coreTxFrame
  extract_lets q'
  have hq' : q' = q := hq.symm
  rw [hq', if_neg (by simp only [hu, not_true_eq_false, or_false]; omega), ht]
  exact if_pos (by rw [hf]; decide)

theorem State.itemTaken_eff (s : State) (q : Nat) (qu : Que) :
    Eff [.regs, .memory] [.one (K.qsFill q), .one (K.qsItemsOut q)] s (s.itemTaken q qu) :=
  ((Eff.upd_queues Eff.refl (fits_of_subset (by decide) (List.nil_subset _))).wr rfl (by simp [KeySet.has])).inc rfl (by simp [KeySet.has])

/-- A port's entries stand above every queue's. -/
theorem State.itemTaken_rd_port (s : State) (hlt : q < 64) (qu : Que) {b : Nat} (hb : K.qsItemsOut 0 + 256 * 64 ≤ b) (n : Nat) :
    (s.itemTaken q qu).rd (instKey b 2 n) = s.rd (instKey b 2 n) := by
  have hfill : K.qsFill 0 + 256 * 64 ≤ b := Nat.le_trans (by decide) hb
  rw [State.itemTaken, State.rd_inc_ne _ _ (instKey_ne_above n hlt hb).symm, State.rd_wr_ne _ _ (instKey_ne_above n hlt hfill).symm]
  rfl

theorem State.itemTaken_vlanTag (s : State) (hlt : q < 64) (qu : Que) (f : List Nat) : (s.itemTaken q qu).vlanTag p f = s.vlanTag p f := by
  unfold State.vlanTag State.on
  rw [State.itemTaken_rd_port s hlt qu (by decide), State.itemTaken_rd_port s hlt qu (by decide), State.itemTaken_rd_port s hlt qu (by decide)]

theorem State.itemTaken_count (s : State) (q : Nat) (qu : Que) :
    (s.itemTaken q qu).rd (K.qsItemsOut q) = (s.rd (K.qsItemsOut q) + 1) % 2 ^ 64 := by
  rw [State.itemTaken, State.rd_inc_self, State.rd_wr_ne _ _ (instKey_ne _ _)]
  rfl

end

/-! ### A link comes up, fails and is retired (R487, R502, R505, R515) -/

section
variable {s : State} {p : Nat}

/-- A calibration that passes leaves a set, and touches no entry of its own. -/
theorem State.calEnd_pass (s : State) (r margin limit : Nat) : (tget {} (s.calEnd r 0 margin limit).calRecs r).has = true ∧
    Eff (withSide [.boot]) sideKeys s (s.calEnd r 0 margin limit) := by
  unfold State.calEnd
  extract_lets c pass result c' x y z
  have hz : Eff (withSide [.boot]) sideKeys s z :=
    ((State.raise_eff ..).after ((State.witness_eff ..).after (Eff.upd_calRecs Eff.refl rfl) rfl) rfl).arrive rfl
  have hkept : Eff sideParts sideKeys x z := ((State.raise_eff ..).after ((State.witness_eff ..).after Eff.refl rfl) rfl).arrive rfl
  have hrecs : z.calRecs = tput s.calRecs r c' := by
    obtain ⟨-, -, -, -, -, -, hrecs⟩ := hkept.part .boot rfl
    exact hrecs
  rw [if_pos (show pass from rfl)]
  refine ⟨?_, hz⟩
  rw [hrecs, tget_tput_self]
  exact Bool.or_true _

/-- The link is UP, and the event is raised. -/
def State.ethRaised (s : State) (p : Nat) : State := (s.wr (K.ethsLinkState p) 2).raise (Ev.ethLinkUp p)

theorem ethLinkUp_plain (h : s.rd (K.ethsLinkState p) = 1) (hm : s.rd (K.ethMode p) = 1) (eye : Nat) : ethLinkUp p eye s = s.ethRaised p := by
  rw [ethLinkUp, if_neg (by simp [h]), if_pos hm]
  exact if_pos (.inl hm)

theorem ethLinkUp_calibrated (h : s.rd (K.ethsLinkState p) = 1) (hm : s.rd (K.ethMode p) ≠ 1) {eye : Nat} (he : 12 ≤ eye) :
    ethLinkUp p eye s = (s.calEnd (calEth p) 0 eye 12).ethRaised p := by
  obtain ⟨hhas, -⟩ := s.calEnd_pass (calEth p) eye 12
  rw [ethLinkUp, if_neg (by simp [h]), if_neg hm, if_pos he]
  exact if_pos (.inr hhas)

theorem State.ethRaised_eff {x : State} (h : Eff (withSide [.boot]) sideKeys s x) (p : Nat) :
    Eff (withSide [.boot]) (sideAnd [.one (K.ethsLinkState p)]) s (x.ethRaised p) :=
  (State.raise_eff ..).after ((h.after Eff.refl (fits_of_subset (by decide) (List.subset_append_left _ _))).wr rfl (by
    simp [KeySet.has])) (fits_of_subset (by decide) (List.subset_append_left _ _))

/-- The link has gone DOWN, and the event is raised. -/
def State.ethDown (s : State) (p : Nat) : State :=
  ((s.wr (K.ethsLinkState p) 1).flag (K.ethsPortStatus p) 1 160).raise (Ev.ethLinkDown p)

/-- The fault of the link is a transient one of its port. -/
def State.ethFaulted (s : State) (p : Nat) : State := (s.ethDown p).transient (ethUnit p) 0 (s.rd (K.ethRetryWindow p))

/-- The port's link is closed for good. -/
def State.ethClosed (s : State) (p : Nat) : State := (s.wr (K.ethsLinkState p) 3).flag (K.ethsPortStatus p) 2 161

/-- The port is retired. -/
def State.ethRetired (s : State) (p w : Nat) : State :=
  ((s.ethClosed p).retire (ethUnit p) 0 ((s.ethClosed p).faultsIn (ethUnit p) w).length).raise (Ev.ethRetired p)

theorem ethLinkFault_falls (hu : s.ethUp p = true) : ethLinkFault p s =
    if (s.ethFaulted p).breaks (ethUnit p) ((s.ethFaulted p).rd (K.ethRetryCount p)) (s.rd (K.ethRetryWindow p)) = true then
      (s.ethFaulted p).ethRetired p (s.rd (K.ethRetryWindow p))
    else s.ethFaulted p := by
  rw [ethLinkFault, if_neg (by simp [hu])]
  rfl

theorem State.ethDown_group_eff (s : State) (p : Nat) :
    Eff sideParts (sideAnd [.fam (K.ethsLinkState 0) 2, .fam (K.ethsPortStatus 0) 2]) s (s.ethDown p) :=
  (State.raise_eff ..).after ((Eff.refl.wr rfl (KeySet.any_fam _ rfl)).flag rfl (KeySet.any_fam _ rfl)) rfl

theorem State.ethFaulted_eff (s : State) (p : Nat) : Eff sideParts (sideAnd [.one (K.ethsLinkState p), .one (K.ethsPortStatus p),
    .one K.fltFaultStatus, .one K.fltTransientCount]) s (s.ethFaulted p) := by
  have hdown : Eff sideParts (sideAnd [.one (K.ethsLinkState p), .one (K.ethsPortStatus p), .one K.fltFaultStatus,
      .one K.fltTransientCount]) s (s.ethDown p) :=
    (State.raise_eff ..).after ((Eff.refl.wr rfl (by simp [sideAnd, KeySet.has])).flag rfl (by simp [sideAnd, KeySet.has]))
      (fits_of_subset (by decide) (List.subset_append_left _ _))
  exact (State.transient_eff ..).after hdown (fits_of_subset (by decide) (sideAnd_subset (by simp)))

theorem State.ethFaulted_entries (s : State) (hp : p < 2) : (s.ethFaulted p).rd (K.ethsLinkState p) = 1 ∧
    (s.ethFaulted p).bit (K.ethsPortStatus p) 0 = true ∧ (s.ethFaulted p).rd (K.ethRetryCount p) = s.rd (K.ethRetryCount p) := by
  have htransient := (s.ethDown p).transient_eff (ethUnit p) 0 (s.rd (K.ethRetryWindow p))
  refine ⟨?_, ?_, ?_⟩
  · rw [State.ethFaulted, htransient.rd_inst hp, State.ethDown, State.raise_rd, State.flag, (State.arrive_eff ..).rd_inst hp,
      State.rd_wr_ne _ _ (instKey_ne _ _), State.rd_wr_self]
  · rw [State.bit, State.ethFaulted, htransient.rd_inst hp, State.ethDown, State.raise_rd, State.flag, (State.arrive_eff ..).rd_inst hp,
      State.rd_wr_self]
    exact bitOf_setBits_new _ (by decide)
  · rw [State.ethFaulted, htransient.rd_inst hp, (s.ethDown_group_eff p).rd_inst hp]

theorem State.ethFaulted_counts (s : State) (p : Nat) : (s.ethFaulted p).rd K.fltTransientCount = (s.rd K.fltTransientCount + 1) % 2 ^ 32 ∧
    (s.ethFaulted p).rd K.fltRetiredCount = s.rd K.fltRetiredCount := by
  have hdown := s.ethDown_group_eff p
  refine ⟨?_, ?_⟩
  · rw [State.ethFaulted, State.transient_count, hdown.rd _ rfl]
  · rw [State.ethFaulted, (State.transient_eff ..).rd _ rfl, hdown.rd _ rfl]

/-- A link that goes down leaves the times of its unit's faults. -/
theorem State.ethDown_faultsIn (s : State) (p unit w : Nat) : (s.ethDown p).faultsIn unit w = s.faultsIn unit w := by
  have htimes : (s.ethDown p).faultTimes = s.faultTimes := by
    rw [State.ethDown, State.raise_faultTimes, State.flag, State.arrive_faultTimes]
    rfl
  have hnow : (s.ethDown p).now = s.now := (s.ethDown_group_eff p).part .clock rfl
  rw [State.faultsIn, htimes, hnow, State.faultsIn]

theorem State.ethRetired_entries (s : State) (hp : p < 2) (w : Nat) : (s.ethRetired p w).rd (K.ethsLinkState p) = 3 ∧
    (s.ethRetired p w).bit (K.ethsPortStatus p) 1 = true ∧
    (s.ethRetired p w).rd K.fltRetiredCount = (s.rd K.fltRetiredCount + 1) % 2 ^ 16 ∧
    (s.ethRetired p w).rd K.fltLastRetiredUnit = ethUnit p := by
  have hretire := (s.ethClosed p).retire_eff (ethUnit p) 0 ((s.ethClosed p).faultsIn (ethUnit p) w).length
  obtain ⟨hcount, hunit⟩ := (s.ethClosed p).retire_entries (ethUnit p) 0 ((s.ethClosed p).faultsIn (ethUnit p) w).length
  have hclosed : (s.ethClosed p).rd K.fltRetiredCount = s.rd K.fltRetiredCount := by
    rw [State.ethClosed, State.flag_rd_ne _ _ _ (ne_instKey _ rfl), State.rd_wr_ne _ _ (ne_instKey _ rfl)]
  unfold State.ethRetired
  refine ⟨?_, ?_, ?_, ?_⟩
  · rw [State.raise_rd, hretire.rd_inst hp, State.ethClosed, State.flag, (State.arrive_eff ..).rd_inst hp,
      State.rd_wr_ne _ _ (instKey_ne _ _), State.rd_wr_self]
  · rw [State.bit, State.raise_rd, hretire.rd_inst hp, State.ethClosed, State.flag, (State.arrive_eff ..).rd_inst hp, State.rd_wr_self]
    exact bitOf_setBits_new _ (by decide)
  · rw [State.raise_rd, hcount, hclosed]
  · rw [State.raise_rd, hunit]

/-- The entries that a link's retirement moves. -/
def ethRetireKeys (p : Nat) : List KeySet := sideAnd [.one (K.ethsLinkState p), .one (K.ethsPortStatus p), .one K.fltFaultStatus,
  .one K.fltTransientCount, .one K.fltRetiredCount, .one K.fltLastRetiredUnit]

theorem State.ethRetired_eff {x : State} (h : Eff sideParts (ethRetireKeys p) s x) (w : Nat) :
    Eff sideParts (ethRetireKeys p) s (x.ethRetired p w) :=
  (State.raise_eff ..).after ((State.retire_eff ..).after ((h.wr rfl (by simp [ethRetireKeys, sideAnd, KeySet.has])).flag rfl (by
    simp [ethRetireKeys, sideAnd, KeySet.has])) (fits_of_subset (by decide) (sideAnd_subset (by simp))))
    (fits_of_subset (by decide) (List.subset_append_left _ _))

end

/-- A retired port is readmitted. -/
def State.ethReadmitted (s : State) (p : Nat) : State := (s.readmit (ethUnit p)).wr (K.ethsLinkState p) 1

theorem State.readmit_count (s : State) (unit : Nat) : (s.readmit unit).rd K.fltRetiredCount = s.rd K.fltRetiredCount - 1 := by
  rw [State.readmit, (State.witness_eff ..).rd _ rfl, State.rd_wr_self]
  rfl

/-- Settles O57: what becomes of a frame by the port's state and its kind, and what a link's rise, fault and readmission leave. -/
theorem ethernetCommands : Obligations.EthernetCommands := by
  refine ⟨fun p frame ok s hp h => ?retired, fun p frame s hp hu => ?badFcs, fun p frame s hp hu hl => ?long,
    fun p q frame s hp hu hl ht hq hlt hb hc => ?timed, fun p frame s hp hu hl ht ha ho => ?arp, fun p frame s hp hu hl h1 h2 h3 => ?other,
    fun p eye s hp h he => ?rises, fun p s hp hu hn => ?falls, fun p s hp hu hc hw => ?breaks, fun a p s hw hp hv h => ?readmits,
    fun p q it qu s hp hu hq hlt ht hf => ?sends⟩
  case retired =>
    exact ⟨_, inst_eq_next hp (ethFrameReceive_retired h ok), State.rd_inc_self .., (Eff.refl.inc rfl (by simp [KeySet.has])).frame⟩
  case badFcs =>
    exact ⟨_, inst_eq_next hp (ethFrameReceive_badFcs hu), State.rd_inc_self .., (Eff.refl.inc rfl (by simp [KeySet.has])).frame⟩
  case long =>
    exact ⟨_, inst_eq_next hp (ethFrameReceive_long hu hl), State.rd_inc_self .., (Eff.refl.inc rfl (by simp [KeySet.has])).frame⟩
  case timed =>
    obtain ⟨hcredits, hbytes, hslots⟩ := s.frameIn_queue p hlt
    have hrxq : q = (s.frameIn p).rd (K.ethcCoreRxQueue p) := by
      rw [State.frameIn, State.rd_inc_ne _ _ (instKey_ne _ _)]
      exact hq
    have hitem : (s.frameIn p).rxItem p frame = s.rxItem p frame := by
      rw [State.rxItem, State.frameIn_time, State.frameIn_asymmetry s hp, State.rxItem]
    have hrx := State.coreRx_written (f := frame) hrxq hlt (by rw [hbytes]; exact hb) (by rw [hcredits]; exact hc)
    have heq := (ethFrameReceive_good hu hl).trans ((if_pos ht).trans hrx)
    refine ⟨_, inst_eq_next hp heq, ?_, ?_, ?_, ?_⟩
    · rw [State.queueWritten_eff.rd _ (by
        simp only [List.any_cons, List.any_nil, KeySet.has, Bool.or_false, Bool.or_eq_false_iff, beq_eq_false_iff_ne]
        exact ⟨(instKey_ne_above p hlt).symm, (instKey_ne_above p hlt).symm, (instKey_ne_above p hlt).symm⟩), State.frameIn_count]
    · rw [State.queueWritten_itemsIn, (s.frameIn_group_eff p).rd_inst hlt]
    · rw [State.queueWritten_que_self, State.quePutItem, hitem, hbytes, hslots]
      rfl
    · exact (State.queueWritten_eff.after ((s.frameIn_eff p).after Eff.refl (fits_of_subset (by decide) (by simp)))
        (fits_of_subset (by decide) (List.subset_cons_self ..))).frame
  case arp =>
    have heq := (ethFrameReceive_good hu hl).trans ((if_neg (by rw [ht]; decide)).trans ((if_pos ht).trans (State.takeArp_request (p := p) (by
      rw [State.frameIn, State.rd_inc_ne _ _ (instKey_ne _ _)]
      exact ha) ho)))
    refine ⟨_, inst_eq_next hp heq, ?_, ?_, ?_, ?_, ?_⟩
    · exact (State.rd_inc_ne _ _ (instKey_ne _ _)).trans (s.frameIn_count p)
    · exact (tfind_tput ..).trans (if_pos rfl)
    · exact (State.rd_inc_self ..).trans (congrArg (fun v => (v + 1) % 2 ^ 64) (State.rd_inc_ne _ _ (instKey_ne _ _)))
    · exact List.length_append
    · exact ((State.sendFrame_eff_own ..).after (Eff.upd_arp ((s.frameIn_eff p).after Eff.refl (fits_of_subset (by decide) (by simp))) rfl)
        (fits_of_subset (by decide) (by simp))).frame
  case other =>
    have heq := (ethFrameReceive_good hu hl).trans ((if_neg h1).trans ((if_neg h2).trans (if_neg h3)))
    refine ⟨_, inst_eq_next hp heq, ?_, ?_, ?_⟩
    · exact (State.rd_inc_ne _ _ (instKey_ne _ _)).trans (s.frameIn_count p)
    · exact (State.rd_inc_self ..).trans (congrArg (fun v => (v + 1) % 2 ^ 32) (State.rd_inc_ne _ _ (instKey_ne _ _)))
    · exact (((s.frameIn_eff p).after Eff.refl (fits_of_subset (by decide) (by simp))).inc rfl (by simp [KeySet.has])).frame
  case rises =>
    by_cases hm : s.rd (K.ethMode p) = 1
    · exact ⟨_, inst_eq_next hp (ethLinkUp_plain h hm eye), (State.raise_rd ..).trans (State.rd_wr_self ..), (State.ethRaised_eff Eff.refl p).frame⟩
    · obtain ⟨-, hcal⟩ := s.calEnd_pass (calEth p) eye 12
      exact ⟨_, inst_eq_next hp (ethLinkUp_calibrated h hm (he.resolve_left hm)), (State.raise_rd ..).trans (State.rd_wr_self ..),
        (State.ethRaised_eff hcal p).frame⟩
  case falls =>
    obtain ⟨hstate, hbit, hcount⟩ := s.ethFaulted_entries hp
    obtain ⟨htransient, -⟩ := s.ethFaulted_counts p
    have hkeeps : (s.ethFaulted p).breaks (ethUnit p) (s.rd (K.ethRetryCount p)) (s.rd (K.ethRetryWindow p)) = false :=
      State.transient_keeps _ _ _ _ (by rw [State.ethDown_faultsIn]; exact hn)
    have heq := (ethLinkFault_falls hu).trans (if_neg (by rw [hcount, hkeeps]; decide))
    exact ⟨_, inst_eq_next hp heq, hstate, hbit, htransient, (s.ethFaulted_eff p).frame⟩
  case breaks =>
    obtain ⟨-, -, hcount⟩ := s.ethFaulted_entries hp
    obtain ⟨-, hretired⟩ := s.ethFaulted_counts p
    have hbreaks : (s.ethFaulted p).breaks (ethUnit p) 0 (s.rd (K.ethRetryWindow p)) = true := State.transient_breaks _ _ _ _ hw
    have heq := (ethLinkFault_falls hu).trans (if_pos (by rw [hcount, hc, hbreaks]))
    obtain ⟨hstate, hbit, hgone, hunit⟩ := (s.ethFaulted p).ethRetired_entries hp (s.rd (K.ethRetryWindow p))
    have hfaulted : Eff sideParts (ethRetireKeys p) s (s.ethFaulted p) := (s.ethFaulted_eff p).after Eff.refl (fits_of_subset (by decide)
      (sideAnd_subset (by simp)))
    exact ⟨_, inst_eq_next hp heq, hstate, hbit, hgone.trans (by rw [hretired]), hunit, (State.ethRetired_eff hfaulted _).frame⟩
  case readmits =>
    have heq : ethReadmitWrite a p s = (s.ethReadmitted p).done a (K.ethsReadmit p) 0 :=
      (State.act_ok hw rfl).trans (congrArg (fun x : State => x.done a (K.ethsReadmit p) 0) (if_pos ⟨hv, h⟩))
    have hdone := (s.ethReadmitted p).done_ok_eff a (K.ethsReadmit p)
    have heff : Eff sideParts (sideKeys ++ [.one (K.ethsLinkState p), .one K.fltRetiredCount]) s (s.ethReadmitted p) :=
      Eff.wr ((State.readmit_eff ..).after Eff.refl (fits_of_subset (by decide) (sideAnd_subset (by simp)))) rfl (by simp [KeySet.has])
    refine ⟨_, inst_eq_next hp heq, ?_, ?_, State.done_ok_status .., (okSide_eq a _ (heff.done_ok rfl)).frame⟩
    · rw [hdone.rd_inst hp, State.ethReadmitted, State.rd_wr_self]
    · rw [hdone.rd _ rfl, State.ethReadmitted, State.rd_wr_ne _ _ (ne_instKey _ rfl), State.readmit_count]
  case sends =>
    have heq := coreTxFrame_sends hu hq hlt ht hf
    have htaken := s.itemTaken_eff q qu
    refine ⟨_, inst_eq_next hp heq, tget_tput_self .., ?_, ?_, ?_, ?_⟩
    · exact (State.rd_inc_ne _ _ (instKey_ne_above p hlt)).trans (s.itemTaken_count q qu)
    · exact (State.rd_inc_self ..).trans (congrArg (fun v => (v + 1) % 2 ^ 64) (State.itemTaken_rd_port s hlt qu (by decide) p))
    · exact congrArg (fun f => s.ethOut ++ [(p, f)]) (s.itemTaken_vlanTag hlt qu _)
    · exact ((State.sendFrame_eff_own ..).after (htaken.after Eff.refl (fits_of_subset (by decide) (by simp)))
        (fits_of_subset (by decide) (by simp))).frame

end Sys2Proof.Machine

/-! SUPPORT. Fatal faults that stop every unit, the watchdog, the junction sensor, the clock monitor and requested calibrations (O59). -/

namespace Sys2Proof.Machine

-- The proofs of this part are checked one after another, in one thread.
set_option Elab.async false

/-! ### A fatal fault that stops every unit (R508, R509) -/

section
variable (s : State) (code unit data : Nat) (hr : s.dev ≠ stReset) (hf : s.dev ≠ stFault)
include hr hf

theorem State.fatalStop_stops : s.fatalStop code unit data = (s.fatal code unit data).stopUnits :=
  if_neg (by rw [not_or]; exact ⟨hr, hf⟩)

/-- The record of the fault stands once the units have stopped. -/
theorem State.fatalStop_record : (s.fatalStop code unit data).dev = stFault ∧ (s.fatalStop code unit data).rd K.fltFatalCode = code ∧
    (s.fatalStop code unit data).rd K.fltFatalUnit = unit ∧ (s.fatalStop code unit data).rd K.fltFatalData = data := by
  obtain ⟨hdev, hcode, hunit, hdata⟩ := s.fatal_record code unit data hr hf
  have hstop := (s.fatal code unit data).stopUnits_eff
  rw [s.fatalStop_stops code unit data hr hf]
  exact ⟨(hstop.rd _ rfl).trans hdev, (hstop.rd _ rfl).trans hcode, (hstop.rd _ rfl).trans hunit, (hstop.rd _ rfl).trans hdata⟩

theorem State.fatalStop_rootPll : (s.fatalStop code unit data).rd K.clkRootPllLocked = s.rd K.clkRootPllLocked := by
  rw [s.fatalStop_stops code unit data hr hf, (State.stopUnits_eff _).rd _ rfl, (State.fatal_eff ..).rd _ rfl]

end

/-! ### The watchdog (R511) -/

section
variable {s : State}

/-- A watchdog restarted now. -/
def State.wdogKicked (s : State) : State := { s with wdog := { since := s.now } }

theorem watchdogKickWrite_kicks {a : Acc} (hw : s.writeStatus a K.wdogWatchdogKick = 0) (hv : accVal a K.wdogWatchdogKick = 1) :
    watchdogKickWrite a s = s.wdogKicked.done a K.wdogWatchdogKick 0 :=
  (State.act_ok hw rfl).trans (congrArg (fun x : State => x.done a K.wdogWatchdogKick 0) (if_pos hv))

/-- The watchdog has warned at half its period. -/
def State.wdogHalf (s : State) : State :=
  { s.at (s.wdog.since + ms (s.rd K.wdogWatchdogPeriod) / 2) with wdog := { s.wdog with warned := true } }

theorem wdogWarn_warns (hc : s.wdogCounts = true) (hn : s.wdog.warned = false) :
    wdogWarn s = (s.wdogHalf.flag K.fltFaultStatus 16 5).raise Ev.fltWdogWarn := if_neg (by simp [hc, hn])

/-- The watchdog has expired at its period's end. -/
def State.wdogOver (s : State) : State :=
  { s.at (s.wdog.since + ms (s.rd K.wdogWatchdogPeriod)) with wdog := { s.wdog with expired := true } }

theorem wdogExpire_expires (hc : s.wdogCounts = true) (hn : s.wdog.expired = false) : wdogExpire s = s.wdogOver.fatalStop 7 0 0 :=
  if_neg (by simp [hc, hn])

theorem wdogCounts_dev (hc : s.wdogCounts = true) : s.dev ≠ stReset := fun h => by
  rw [State.wdogCounts, h] at hc
  simp at hc

/-! ### The junction sensor (R512) -/

/-- A reading is shown, and whether it trips is kept. -/
def State.junctionShown (s : State) (x : Int) : State :=
  { s.wr K.fltJunctionTemp (ofI 32 x) with hot := some (decide (s.rdI 32 K.fltThermalTrip ≤ x)) }

/-- A reading from ThermalWarn on warns. -/
def State.junctionWarned (s : State) (x : Int) : State :=
  if s.rdI 32 K.fltThermalWarn ≤ x then (s.junctionShown x).flag K.fltFaultStatus 8 4 else s.junctionShown x

theorem State.junctionShown_warn (s : State) (x : Int) : (s.junctionShown x).rdI 32 K.fltThermalWarn = s.rdI 32 K.fltThermalWarn :=
  congrArg (toI 32) (State.rd_wr_ne _ _ (by decide))

theorem junctionRead_shows (hr : s.dev ≠ stReset) (x : Int) : junctionRead x s =
    if s.rdI 32 K.fltThermalTrip ≤ x ∧ s.hot ≠ some true then (s.junctionWarned x).fatalStop 6 0 (ofI 64 x) else s.junctionWarned x := by
  rw [State.junctionWarned, ← s.junctionShown_warn x, junctionRead, if_neg hr]
  simp only [decide_eq_true_eq]
  rfl

theorem State.junctionShown_eff (s : State) (x : Int) : Eff [.regs, .boot] [.one K.fltJunctionTemp] s (s.junctionShown x) :=
  Eff.upd_hot (Eff.refl.wr rfl rfl) rfl

theorem State.junctionWarned_eff (s : State) (x : Int) :
    Eff (withSide [.boot]) (sideAnd [.one K.fltJunctionTemp, .one K.fltFaultStatus]) s (s.junctionWarned x) := by
  have hshown : Eff (withSide [.boot]) (sideAnd [.one K.fltJunctionTemp, .one K.fltFaultStatus]) s (s.junctionShown x) :=
    (s.junctionShown_eff x).after Eff.refl rfl
  exact Eff.ite (hshown.flag rfl rfl) hshown

theorem State.junctionShown_temp (s : State) (x : Int) : (s.junctionShown x).rd K.fltJunctionTemp = ofI 32 x := State.rd_wr_self ..

theorem State.junctionWarned_dev (s : State) (x : Int) : (s.junctionWarned x).dev = s.dev := (s.junctionWarned_eff x).rd _ rfl

/-! ### Requested calibrations (R514 to R518) -/

/-- A run that fails raises its fault. -/
theorem State.calEnd_fails (s : State) {reason : Nat} (r margin limit : Nat) (h : reason ≠ 0) :
    (s.calEnd r reason margin limit).bit K.calCalStatus 0 = true := by
  unfold State.calEnd
  extract_lets c pass result c' x y z
  rw [if_neg (show ¬ pass from h), State.bit, State.raise_rd, State.flag_rd]
  exact bitOf_setBits_new _ (by decide)

theorem State.ddrTrained_entries (s : State) (n : Nat) : (s.ddrTrained n).rd K.calCalRunStatus = s.rd K.calCalRunStatus ∧
    ((s.ddrTrained n).dramCh n).moved = [] := by
  have hmoved : ((s.setDramCh n { s.dramCh n with moved := [] }).dramCh n).moved = [] := congrArg DramCh.moved (tget_tput_self ..)
  unfold State.ddrTrained
  extract_lets x
  split
  · exact ⟨rfl, hmoved⟩
  · exact ⟨State.rd_wr_ne _ _ (by decide), hmoved⟩

section
variable (hs : s.rd K.calCalRunStatus = 1) (hv : s.rd K.calCalRun / 256 = 4) {m : CalMeasure} (ht : m.timedOut = false)
include hs hv ht

/-- A DDR4 run ends: its result is kept, and shown. -/
def State.ddrEnded (s : State) (m : CalMeasure) (reason : Nat) : State :=
  (s.calEnd (calRunRec (s.rd K.calCalRun)) reason m.margin (s.rd K.calDdrWindowMin)).wr K.calCalRunStatus (if reason = 0 then 2 else 3)

theorem calRunDone_trained (hm : s.rd K.calDdrWindowMin ≤ m.margin) :
    calRunDone m s = (s.ddrEnded m 0).ddrTrained (s.rd K.calCalRun % 256) := by
  have hreason : s.calReason (s.rd K.calCalRun / 256) m = 0 := by
    rw [State.calReason, if_neg (by rw [ht]; decide), if_pos hv, if_neg (by omega)]
  unfold calRunDone
  extract_lets v r x y
  have hr : r = 0 := hreason
  have hx : x = s.calEnd (calRunRec v) r m.margin (s.rd K.calDdrWindowMin) := if_pos hv
  have hy : y = s.ddrEnded m 0 := by
    rw [show y = x.wr K.calCalRunStatus (if r = 0 then 2 else 3) from rfl, hx, hr]
    rfl
  rw [if_neg (by simp [hs]), if_pos hv, if_pos hr, hy]

theorem calRunDone_failed (hm : m.margin < s.rd K.calDdrWindowMin) : calRunDone m s = s.ddrEnded m 1 := by
  have hreason : s.calReason (s.rd K.calCalRun / 256) m = 1 := by
    rw [State.calReason, if_neg (by rw [ht]; decide), if_pos hv, if_pos hm]
  unfold calRunDone
  extract_lets v r x y
  have hr : r = 1 := hreason
  have hx : x = s.calEnd (calRunRec v) r m.margin (s.rd K.calDdrWindowMin) := if_pos hv
  have hy : y = s.ddrEnded m 1 := by
    rw [show y = x.wr K.calCalRunStatus (if r = 0 then 2 else 3) from rfl, hx, hr]
    rfl
  rw [if_neg (by simp [hs]), if_pos hv, if_neg (by omega), hy]

end

/-- The chapter's own refusal of a CAL_RUN. -/
def State.calRunOwn (s : State) (v : Nat) : Nat := if ¬ calRunOk v then 8 else if s.rd K.calCalRunStatus = 1 then 13 else 0

/-- What a served CAL_RUN does. -/
def calRunServed (v : Nat) (s : State) : State :=
  if v / 256 = 5 ∧ (s.wr K.calCalRun v).portState (v % 256) ≠ kpActive then
    ((s.wr K.calCalRun v).calEnd (calRunRec v) 6 0 48).wr K.calCalRunStatus 3
  else (s.wr K.calCalRun v).wr K.calCalRunStatus 1

theorem calRunWrite_act (a : Acc) (s : State) :
    calRunWrite a s = s.act a K.calCalRun (s.calRunOwn (accVal a K.calCalRun)) (calRunServed (accVal a K.calCalRun)) := rfl

theorem calRunWrite_starts {a : Acc} (hw : s.writeStatus a K.calCalRun = 0) (ho : calRunOk (accVal a K.calCalRun) = true)
    (hs : s.rd K.calCalRunStatus ≠ 1) (hk : accVal a K.calCalRun / 256 = 4) :
    calRunWrite a s = ((s.wr K.calCalRun (accVal a K.calCalRun)).wr K.calCalRunStatus 1).done a K.calCalRun 0 := by
  have hown : s.calRunOwn (accVal a K.calCalRun) = 0 := (if_neg (by simp [ho])).trans (if_neg hs)
  have hserved : calRunServed (accVal a K.calCalRun) s = (s.wr K.calCalRun (accVal a K.calCalRun)).wr K.calCalRunStatus 1 :=
    if_neg fun h => by omega
  rw [calRunWrite_act, State.act_ok hw hown, hserved]

theorem calRunWrite_refused {a : Acc} (hw : s.writeStatus a K.calCalRun = 0) {st : Nat} (ho : s.calRunOwn (accVal a K.calCalRun) = st)
    (hst : st ≠ 0) : calRunWrite a s = s.done a K.calCalRun st := by
  rw [calRunWrite_act, State.act_own hw (by rw [ho]; exact hst), ho]

end

/-- Settles O59: the watchdog, the sensor, the clocks and the requests, each into its flag, its fatal fault or its run. -/
theorem faultCommands : Obligations.FaultCommands := by
  refine ⟨fun a s hw hv => ?kicks, fun s hc hn => ?warns, fun s hc hn hf => ?expires, fun x s hr ht hw => ?hot, fun x s hr ht hw => ?cool,
    fun x s hr hf ht hh => ?trips, fun a s hw hr hf => ?requests, fun s hr hf => ?unlocks, fun f s hl hh => ?measured, fun s => ?lost,
    fun a s hw ho hs hk => ?starts, fun a s hw ho => ?refused, fun a s hw ho hs => ?busy, fun m s hs hv ht hm => ?passes,
    fun m s hs hv ht hm => ?fails⟩
  case kicks =>
    have hkick : Eff [.regs, .boot] [] s s.wdogKicked := Eff.upd_wdog Eff.refl rfl
    refine ⟨_, congrArg Host.Outcome.next (watchdogKickWrite_kicks hw hv), ?_, State.done_ok_status .., (hkick.done_ok rfl).frame⟩
    obtain ⟨-, -, -, -, hwdog, -, -⟩ := (s.wdogKicked.done_ok_eff a K.wdogWatchdogKick).part .boot rfl
    exact hwdog
  case warns =>
    have hside : Eff sideParts (sideAnd [.one K.fltFaultStatus]) s.wdogHalf ((s.wdogHalf.flag K.fltFaultStatus 16 5).raise Ev.fltWdogWarn) :=
      (State.raise_eff ..).after (Eff.refl.flag rfl rfl) rfl
    have hhalf : Eff (withSide [.clock, .boot]) (sideAnd [.one K.fltFaultStatus]) s s.wdogHalf :=
      Eff.upd_wdog ((State.at_eff ..).after Eff.refl rfl) rfl
    obtain ⟨-, -, -, -, hwdog, -, -⟩ := hside.part .boot rfl
    refine ⟨_, congrArg Host.Outcome.next (wdogWarn_warns hc hn), hside.part .clock rfl, hwdog, ?_, (hside.after hhalf rfl).frame⟩
    rw [State.bit, State.raise_rd, State.flag_rd]
    exact bitOf_setBits_new _ (by decide)
  case expires =>
    have heq := wdogExpire_expires hc hn
    obtain ⟨hdev, hcode, hunit, -⟩ := s.wdogOver.fatalStop_record 7 0 0 (wdogCounts_dev hc) hf
    exact ⟨_, congrArg Host.Outcome.next heq, hdev, hcode, hunit, (State.fatalStop_eff ..).part .clock rfl,
      (Eff.to heq.symm (wdogExpire_eff s)).frame⟩
  case hot =>
    have heq : junctionRead x s = (s.junctionShown x).flag K.fltFaultStatus 8 4 :=
      (junctionRead_shows hr x).trans ((if_neg fun h => by omega).trans (if_pos hw))
    have hflag := (s.junctionShown x).flag_eff K.fltFaultStatus 8 4
    have hdev := s.junctionWarned_dev x
    have heff := s.junctionWarned_eff x
    rw [State.junctionWarned, if_pos hw] at hdev heff
    refine ⟨_, congrArg Host.Outcome.next heq, ?_, ?_, ?_, hdev, heff.frame⟩
    · rw [State.flag_rd_ne _ _ _ (by decide), State.junctionShown_temp]
    · rw [State.bit, State.flag_rd]
      exact bitOf_setBits_new _ (by decide)
    · obtain ⟨-, -, -, -, -, hhot, -⟩ := hflag.part .boot rfl
      rw [hhot]
      exact congrArg some (decide_eq_false (by omega))
  case cool =>
    have heq : junctionRead x s = s.junctionShown x :=
      (junctionRead_shows hr x).trans ((if_neg fun h => by omega).trans (if_neg (by omega)))
    exact ⟨_, congrArg Host.Outcome.next heq, s.junctionShown_temp x, State.rd_wr_ne _ _ (by decide), (s.junctionShown_eff x).frame⟩
  case trips =>
    have heq := (junctionRead_shows hr x).trans (if_pos ⟨ht, hh⟩)
    obtain ⟨hdev, hcode, hunit, hdata⟩ := (s.junctionWarned x).fatalStop_record 6 0 (ofI 64 x) (by rw [State.junctionWarned_dev]; exact hr)
      (by rw [State.junctionWarned_dev]; exact hf)
    exact ⟨_, congrArg Host.Outcome.next heq, hdev, hcode, hunit, hdata, (Eff.to heq.symm (junctionRead_eff x s)).frame⟩
  case requests =>
    obtain ⟨hdev, hcode, hunit, hdata⟩ := s.fatalStop_record 8 (21 * 256 + a.path) (accVal a K.fatalFatalRequest) hr hf
    have heq : fatalRequestWrite a s = (s.fatalStop 8 (21 * 256 + a.path) (accVal a K.fatalFatalRequest)).done a K.fatalFatalRequest 0 :=
      State.act_ok hw rfl
    have hdone := (s.fatalStop 8 (21 * 256 + a.path) (accVal a K.fatalFatalRequest)).done_ok_eff a K.fatalFatalRequest
    exact ⟨_, congrArg Host.Outcome.next heq, (hdone.rd _ rfl).trans hdev, (hdone.rd _ rfl).trans hcode, (hdone.rd _ rfl).trans hunit,
      (hdone.rd _ rfl).trans hdata, State.done_ok_status .., (Eff.to heq.symm (fatalRequestWrite_eff a s)).frame⟩
  case unlocks =>
    have hsame : (s.wr K.clkRootPllLocked 0).dev = s.dev := State.rd_wr_ne _ _ (by decide)
    have heq : pllLockLoss s = (s.wr K.clkRootPllLocked 0).fatalStop 5 (17 * 256) 0 := if_neg hr
    have hr' : (s.wr K.clkRootPllLocked 0).dev ≠ stReset := by rw [hsame]; exact hr
    have hf' : (s.wr K.clkRootPllLocked 0).dev ≠ stFault := by rw [hsame]; exact hf
    obtain ⟨hdev, hcode, hunit, -⟩ := (s.wr K.clkRootPllLocked 0).fatalStop_record 5 (17 * 256) 0 hr' hf'
    exact ⟨_, congrArg Host.Outcome.next heq, hdev, hcode, hunit, (State.fatalStop_rootPll _ _ _ _ hr' hf').trans (State.rd_wr_self ..),
      (Eff.to heq.symm (pllLockLoss_eff s)).frame⟩
  case measured =>
    have heq : refclkBad (some f) s = s.wr K.clkRefclkMeasured f := if_neg (by omega)
    exact ⟨_, congrArg Host.Outcome.next heq, State.rd_wr_self .., (Eff.refl.wr rfl rfl).frame⟩
  case lost =>
    have heff : Eff sideParts (sideAnd [.one K.clkClockStatus]) s ((s.flag K.clkClockStatus 1 12).raise Ev.clkRefclkBad) :=
      (State.raise_eff ..).after (Eff.refl.flag rfl rfl) rfl
    refine ⟨_, rfl, ?_, heff.frame⟩
    rw [State.bit, refclkBad, State.raise_rd, State.flag_rd]
    exact bitOf_setBits_new _ (by decide)
  case starts =>
    have heff : Eff [.regs] [.one K.calCalRun, .one K.calCalRunStatus] s ((s.wr K.calCalRun (accVal a K.calCalRun)).wr K.calCalRunStatus 1) :=
      (Eff.refl.wr rfl rfl).wr rfl rfl
    have hdone := ((s.wr K.calCalRun (accVal a K.calCalRun)).wr K.calCalRunStatus 1).done_ok_eff a K.calCalRun
    refine ⟨_, congrArg Host.Outcome.next (calRunWrite_starts hw ho hs hk), ?_, ?_, State.done_ok_status .., (heff.done_ok rfl).frame⟩
    · rw [hdone.rd _ rfl, State.rd_wr_ne _ _ (by decide), State.rd_wr_self]
    · rw [hdone.rd _ rfl, State.rd_wr_self]
  case refused => exact congrArg Host.Outcome.next (calRunWrite_refused hw (if_pos (by simp [ho])) (by decide))
  case busy => exact congrArg Host.Outcome.next (calRunWrite_refused hw ((if_neg (by simp [ho])).trans (if_pos hs)) (by decide))
  case passes =>
    have heq := calRunDone_trained hs hv ht hm
    obtain ⟨hstatus, hmoved⟩ := (s.ddrEnded m 0).ddrTrained_entries (s.rd K.calCalRun % 256)
    exact ⟨_, congrArg Host.Outcome.next heq, hstatus.trans (State.rd_wr_self ..), hmoved, (Eff.to heq.symm (calRunDone_eff m s)).frame⟩
  case fails =>
    have heq := calRunDone_failed hs hv ht hm
    obtain ⟨-, hdrams, -⟩ := (s.calEnd_eff (calRunRec (s.rd K.calCalRun)) 1 m.margin (s.rd K.calDdrWindowMin)).part .memory rfl
    refine ⟨_, congrArg Host.Outcome.next heq, State.rd_wr_self .., ?_, hdrams, (Eff.to heq.symm (calRunDone_eff m s)).frame⟩
    rw [State.bit, State.ddrEnded, State.rd_wr_ne _ _ (by decide)]
    exact s.calEnd_fails _ _ _ (by decide)

end Sys2Proof.Machine

/-! SUPPORT. The Witness ring (R520 to R526): the buffer and the ring under the operations of the device, an entry's place, the ring frozen and
freed, and what the Witness's commands come to. -/

namespace Sys2Proof.Machine

-- The proofs of this part are checked one after another, in one thread.
set_option Elab.async false

section
variable (s : State)

/-! ### What keeps the buffer and the ring -/

/-- The buffered entries and the ring. -/
def State.ringView (s : State) : List WReq × Tab WEntry := (s.wbuf, s.wring)

/-- An operation that does not touch the Witness. -/
theorem Eff.ringView {s t : State} {ps : List Part} {ks : List KeySet} (h : Eff ps ks s t) (hp : ps.contains .witness = false := by rfl) :
    t.ringView = s.ringView := by
  obtain ⟨hbuf, hring, -, -⟩ := h.part .witness hp
  rw [State.ringView, hbuf, hring]
  rfl

theorem State.countArrival_ringView (src : Nat) : (s.countArrival src).ringView = s.ringView := by
  unfold State.countArrival
  split <;> rfl

theorem State.arrive_ringView (src : Nat) : (s.arrive src).ringView = s.ringView := by
  unfold State.arrive
  split
  · rfl
  · rw [(State.hostSignal_eff _).ringView]
    split
    · exact s.countArrival_ringView src
    · exact s.countArrival_ringView src

theorem State.raise_ringView (ev : Nat) : (s.raise ev).ringView = s.ringView := (s.raise_eff_own ev).ringView

theorem State.witnessHigh_ringView : s.witnessHigh.ringView = s.ringView := by
  unfold State.witnessHigh
  extract_lets n
  split
  · rw [State.raise_ringView, State.flag, State.arrive_ringView]
    rfl
  · rfl

/-- The ring frozen for a cause. -/
def State.ringFrozen (cause : Nat) : State :=
  (((s.wr K.witFrozen 1).wr K.witFreezeCause cause).arrive 10).raise Ev.fltWitFrozen

variable {s} in
theorem State.freezeRing_freezes (h : s.on K.witFrozen = false) (cause : Nat) : s.freezeRing cause = s.ringFrozen cause := if_neg (by simp [h])

theorem State.ringFrozen_ringView (cause : Nat) : (s.ringFrozen cause).ringView = s.ringView := by
  rw [State.ringFrozen, State.raise_ringView, State.arrive_ringView]
  rfl

theorem State.ringFrozen_entries (cause : Nat) : (s.ringFrozen cause).rd K.witFrozen = 1 ∧ (s.ringFrozen cause).rd K.witFreezeCause = cause := by
  constructor
  · rw [State.ringFrozen, State.raise_rd, (State.arrive_eff ..).rd _ rfl, State.rd_wr_ne _ _ (by decide), State.rd_wr_self]
  · rw [State.ringFrozen, State.raise_rd, (State.arrive_eff ..).rd _ rfl, State.rd_wr_self]

/-! ### A queued entry (R524) -/

theorem witnessInsert_length (e : WReq) : ∀ l, (witnessInsert e l).length = l.length + 1
  | [] => rfl
  | x :: l => by
    unfold witnessInsert
    split
    · rfl
    · rw [List.length_cons, witnessInsert_length e l, List.length_cons]

theorem mem_witnessInsert (e : WReq) : ∀ l, e ∈ witnessInsert e l
  | [] => List.mem_cons_self
  | x :: l => by
    unfold witnessInsert
    split
    · exact List.mem_cons_self
    · exact List.mem_cons_of_mem x (mem_witnessInsert e l)

/-- An entry of a kind and unit asked for now. -/
def State.wreq (kind unit d0 d1 : Nat) : WReq :=
  { kind := kind, unit := unit, lineage := 0, d0 := d0 % 2 ^ 32, d1 := d1 % 2 ^ 64, time := s.time, stamp := s.now, last := false }

/-- The entry is in the buffer. -/
def State.buffered (e : WReq) : State := { s with wbuf := witnessInsert e s.wbuf }

theorem State.buffered_eff (e : WReq) : Eff [.witness] [] s (s.buffered e) := Eff.upd_wbuf Eff.refl rfl

theorem State.witness_buffers {s : State} (hf : s.on K.witFrozen = false) (hl : s.wbuf.length < 32) (kind unit d0 d1 : Nat) :
    s.witness kind unit 0 d0 d1 = s.buffered (s.wreq kind unit d0 d1) := (if_neg (by simp [hf])).trans (if_neg (by omega))

theorem State.buffered_length (e : WReq) : (s.buffered e).wbuf.length = s.wbuf.length + 1 := witnessInsert_length e s.wbuf

end

/-! ### WITNESS_WRITE (R520, R525) -/

section
variable {s : State} {e : WReq} {l : List WReq}

/-- The buffer without its front entry. -/
def State.unqueued (s : State) (l : List WReq) : State := { s with wbuf := l }

/-- The ring's entry of a buffered one. -/
def State.ringEntry (s : State) (e : WReq) : WEntry :=
  { seq := s.rd K.witNextSequence, kind := e.kind, unit := e.unit, time := e.time, lineage := e.lineage, gap := s.wgap, d0 := e.d0, d1 := e.d1 }

/-- The front entry in its slot of the ring. -/
def State.slotted (s : State) (e : WReq) (l : List WReq) : State :=
  { s.unqueued l with wring := tput s.wring (s.rd K.witNextSequence % 8192) (s.ringEntry e), wgap := false }

/-- The front entry written. -/
def State.ringWritten (s : State) (e : WReq) (l : List WReq) : State := ((s.slotted e l).inc 32 K.witNextSequence).witnessHigh

theorem State.ringWritten_ringView : (s.ringWritten e l).ringView = (l, tput s.wring (s.rd K.witNextSequence % 8192) (s.ringEntry e)) := by
  rw [State.ringWritten, State.witnessHigh_ringView]
  rfl

theorem State.ringWritten_entries : (s.ringWritten e l).rd K.witNextSequence = (s.rd K.witNextSequence + 1) % 2 ^ 32 ∧
    (s.ringWritten e l).rd K.witFrozen = s.rd K.witFrozen := by
  constructor
  · rw [State.ringWritten, (State.witnessHigh_eff _).rd _ rfl, State.rd_inc_self]
    rfl
  · rw [State.ringWritten, (State.witnessHigh_eff _).rd _ rfl, State.rd_inc_ne _ _ (by decide)]
    rfl

theorem witnessWrite_writes (hb : s.wbuf = e :: l) (hf : s.on K.witFrozen = false) :
    witnessWrite s = if isFaultState e then (s.ringWritten e l).freezeRing 1 else s.ringWritten e l := by
  unfold witnessWrite
  rw [hb]
  exact if_neg (by rw [show State.on { s with wbuf := l } K.witFrozen = s.on K.witFrozen from rfl, hf]; decide)

theorem witnessWrite_drops (hb : s.wbuf = e :: l) (hf : s.on K.witFrozen = true) :
    witnessWrite s = (s.unqueued l).inc 32 K.witFrozenDrops := by
  unfold witnessWrite
  rw [hb]
  exact if_pos hf

/-! ### FREEZE, RELEASE, MARK, READ_SEQUENCE (R523, R525, R526) -/

variable {a : Acc}

theorem freezeWrite_freezes (hw : s.writeStatus a K.witFreeze = 0) (hv : accVal a K.witFreeze = 1) (hf : s.on K.witFrozen = false) :
    freezeWrite a s = (s.ringFrozen 2).done a K.witFreeze 0 :=
  (State.act_ok hw rfl).trans (congrArg (fun x : State => x.done a K.witFreeze 0) ((if_pos hv).trans (State.freezeRing_freezes hf 2)))

/-- The ring free and its count of lost entries cleared. -/
def State.ringFreed (s : State) : State := ((s.wr K.witFrozen 0).wr K.witFreezeCause 0).wr K.witFrozenDrops 0

theorem State.ringFreed_entries (s : State) :
    s.ringFreed.rd K.witFrozen = 0 ∧ s.ringFreed.rd K.witFreezeCause = 0 ∧ s.ringFreed.rd K.witFrozenDrops = 0 := by
  unfold State.ringFreed
  refine ⟨?_, ?_, State.rd_wr_self ..⟩
  · rw [State.rd_wr_ne _ _ (by decide), State.rd_wr_ne _ _ (by decide), State.rd_wr_self]
  · rw [State.rd_wr_ne _ _ (by decide), State.rd_wr_self]

theorem State.ringFreed_eff (s : State) : Eff [.regs] [.one K.witFreezeCause, .one K.witFrozen, .one K.witFrozenDrops] s s.ringFreed :=
  ((Eff.refl.wr rfl rfl).wr rfl rfl).wr rfl rfl

/-- The RELEASE entry is in the buffer of the free ring. -/
def State.ringReleased (s : State) : State := s.ringFreed.buffered (s.ringFreed.wreq 3 0 0 (s.rd K.witFrozenDrops))

theorem releaseWrite_frees (hw : s.writeStatus a K.witRelease = 0) (hv : accVal a K.witRelease = 1) (hf : s.on K.witFrozen = true)
    (hl : s.wbuf.length < 32) : releaseWrite a s = s.ringReleased.done a K.witRelease 0 := by
  obtain ⟨hfree, -, -⟩ := s.ringFreed_entries
  have hon : s.ringFreed.on K.witFrozen = false := by rw [State.on, hfree]; decide
  exact (State.act_ok hw rfl).trans (congrArg (fun x : State => x.done a K.witRelease 0)
    ((if_pos ⟨hv, hf⟩).trans (State.witness_buffers hon hl 3 0 0 (s.rd K.witFrozenDrops))))

theorem markWrite_marks (hw : s.writeStatus a K.witMark = 0) (hf : s.on K.witFrozen = false) (hl : s.wbuf.length < 32) :
    markWrite a s = (s.buffered (s.wreq 4 (21 * 256 + a.path) (accVal a K.witMark) 0)).done a K.witMark 0 :=
  (State.act_ok hw rfl).trans (congrArg (fun x : State => x.done a K.witMark 0) (State.witness_buffers hf hl ..))

theorem readSequenceWrite_stores (hw : s.writeStatus a K.witReadSequence = 0) :
    readSequenceWrite a s = (s.wr K.witReadSequence (accVal a K.witReadSequence)).witnessHigh.done a K.witReadSequence 0 := State.act_ok hw rfl

end

end Sys2Proof.Machine

/-! SUPPORT. The power domains' moments and the wake pin (R547 to R549), and the commands of the Witness and of the power domains (O60). -/

namespace Sys2Proof.Machine

-- The proofs of this part are checked one after another, in one thread.
set_option Elab.async false

/-! ### Cameras that lose power (R547) -/

/-- Whether a camera's lock is found, and its links that are up. -/
def State.camView (s : State) (n : Nat) : Bool × Nat := ((s.cam n).lock, s.rd (K.camstLinksUp n))

theorem Eff.camView {s t : State} {ps : List Part} {ks : List KeySet} (h : Eff ps ks s t) {n : Nat} (hn : n < 12)
    (hp : ps.contains .cameras = false := by rfl) (hk : ∀ i < 12, ks.any (·.has (K.camstLinksUp i)) = false := by decide) :
    t.camView n = s.camView n := by
  rw [State.camView, h.cam hp, h.rd _ (hk n hn)]
  rfl

section
variable (s : State) {i j : Nat}

theorem State.setCam_camView (n : Nat) (c : Cam) :
    (s.setCam n c).camView i = if i = n then (c.lock, s.rd (K.camstLinksUp n)) else s.camView i := by
  rw [State.camView, State.cam_setCam]
  split
  · next h => subst h; rfl
  · rfl

/-- A camera whose lock is lost and whose links are down. -/
def State.camDark (n : Nat) : State := (s.setCam n { s.cam n with lock := false }).wr (K.camstLinksUp n) 0

/-- A camera that waits for its lock with its record `c` given up, but for its bands and their numbering. -/
def State.camGone (n : Nat) (c : Cam) : State :=
  (s.setCam n { lock := false, eager := true, baseK := c.baseK, baseB := c.baseB, baseL := c.baseL, cur := c.cur, bands := c.bands }).setCamState n
    camAbsent

theorem camSleep_cases (n : Nat) : camSleep s n = s.camDark n ∨ camSleep s n = (s.camDark n).camGone n (s.cam n) := by
  unfold camSleep
  extract_lets c x
  split
  · exact .inr rfl
  · exact .inl rfl

variable (hi : i < 12)
include hi

theorem State.camGone_camView (c : Cam) :
    (s.camGone j c).camView i = if i = j then (false, s.rd (K.camstLinksUp j)) else s.camView i := by
  rw [State.camGone, (State.setCamState_eff ..).camView hi, State.setCam_camView]

variable (hj : j < 12)
include hj

theorem linksKey_iff : K.camstLinksUp i = K.camstLinksUp j ↔ i = j := by
  simp only [K.camstLinksUp, instKey, Nat.div_eq_of_lt hi, Nat.div_eq_of_lt hj]
  omega

theorem State.camDark_camView : (s.camDark j).camView i = if i = j then (false, 0) else s.camView i := by
  have hcam : (s.camDark j).cam i = if i = j then { s.cam j with lock := false } else s.cam i := State.cam_setCam ..
  rw [State.camView, hcam, State.camDark, State.rd_wr]
  simp only [linksKey_iff hi hj]
  split <;> rfl

/-- A camera's sleep is its own. -/
theorem camSleep_camView : (camSleep s j).camView i = if i = j then (false, 0) else s.camView i := by
  have hdark := s.camDark_camView hi hj
  obtain h | h := camSleep_cases s j
  · rw [h, hdark]
  · rw [h, State.camGone_camView _ hi, hdark]
    by_cases hij : i = j
    · rw [if_pos hij, if_pos hij]
      exact congrArg (Prod.mk false) (State.rd_wr_self ..)
    · rw [if_neg hij, if_neg hij]

end

/-! ### The moments of the power domains (R547 to R549) -/

section
variable {s : State}

theorem State.powerPhase_rd (s : State) (p : Nat) : (s.powerPhase p).rd K.pwrPowerPhase = p := by
  rw [State.powerPhase, (State.arrive_eff ..).rd _ rfl, State.rd_wr_self]

/-- With no wake source no level wakes the device. -/
theorem State.wakeOnLevel_none (h : s.rd K.pwrWakeSources = 0) : s.wakeOnLevel = s := by
  have hbit : ∀ i, s.bit K.pwrWakeSources i = false := fun i => by simp [State.bit, h, bitOf]
  have hnone : s.wakeLevel = none := by simp [State.wakeLevel, State.wakePinOn, State.wakeMotionOn, hbit]
  rw [State.wakeOnLevel, hnone]

/-- Every masked domain is down. -/
def State.fellAsleep (s : State) : State := ((s.powerPhase 2).inc 32 K.pwrSleeps).raise Ev.pwrStandby

theorem State.fellAsleep_eff (s : State) : Eff sideParts (sideAnd [.one K.pwrPowerPhase, .one K.pwrSleeps]) s s.fellAsleep :=
  (State.raise_eff ..).after (((State.powerPhase_eff s 2).after Eff.refl rfl).inc rfl rfl) rfl

theorem State.asleep_stays (hl : s.power.latched = none) (hw : s.rd K.pwrWakeSources = 0) : s.asleep = s.fellAsleep := by
  obtain ⟨-, hpower, -⟩ := s.fellAsleep_eff.part .boot rfl
  have hnone : s.fellAsleep.power.latched = none := by rw [hpower, hl]
  have hsame : s.asleep = match s.fellAsleep.power.latched with
    | some c => s.fellAsleep.startWaking c
    | none => s.fellAsleep.wakeOnLevel := rfl
  rw [hsame, hnone]
  exact State.wakeOnLevel_none ((s.fellAsleep_eff.rd _ rfl).trans hw)

/-- The domain at the head of the list has lost its power. -/
def State.domainOff (s : State) (d : Nat) : State :=
  if d = 0 then (List.range 12).foldl camSleep (s.at s.power.due) else s.at s.power.due

theorem State.domainOff_eff (s : State) (d : Nat) : Eff (withSide [.cameras]) (sideAnd [.fam (K.camstChannelState 0) 12,
    .fam (K.camstLinksUp 0) 12, .one K.camsPresent, .one K.camsPresentCount, .one K.camsRetired]) (s.at s.power.due) (s.domainOff d) :=
  Eff.ite (Eff.foldl (fun _ _ h => (camSleep_eff ..).after h rfl) Eff.refl) Eff.refl

theorem State.domainOff_camView (s : State) {n : Nat} (hn : n < 12) : (s.domainOff 0).camView n = (false, 0) :=
  range_view (view := (State.camView · n)) (g := fun _ => (false, 0)) hn (fun x _ hj => camSleep_camView x hn hj) (s.at s.power.due)

/-- The domains left, and the moment of the next. -/
def State.domainsLeft (s : State) (l : List Nat) (wait : Nat) : State :=
  { s with power := { s.power with todo := l, due := s.now + us wait } }

theorem State.domainsLeft_dark {l : List Nat} {wait n : Nat} (h : s.camView n = (false, 0)) :
    ((s.domainsLeft l wait).cam n).lock = false ∧ (s.domainsLeft l wait).rd (K.camstLinksUp n) = 0 := Prod.mk.inj h

variable {d : Nat} {l : List Nat} (hs : s.power.todo = d :: l) (hd : s.dev = stStandby)

include hs hd in
theorem domainDown_next (hp : s.rd K.pwrPowerPhase = 1) :
    domainDown s = if l.isEmpty then ((s.domainOff d).domainsLeft l 10).asleep else (s.domainOff d).domainsLeft l 10 := by
  unfold domainDown
  rw [hs]
  exact if_neg (by simp [hd, hp])

include hs hd in
theorem domainUp_next (hp : s.rd K.pwrPowerPhase = 3) :
    domainUp s = if l.isEmpty then ((s.at s.power.due).domainsLeft l 50).awake else (s.at s.power.due).domainsLeft l 50 := by
  unfold domainUp
  rw [hs]
  exact if_neg (by simp [hd, hp])

theorem State.domainOff_power (s : State) (d : Nat) : (s.domainOff d).power = s.power := by
  obtain ⟨-, hpower, -⟩ := (s.domainOff_eff d).part .boot rfl
  exact hpower

theorem State.domainOff_now (s : State) (d : Nat) : (s.domainOff d).now = max s.now s.power.due := (s.domainOff_eff d).part .clock rfl

theorem State.domainOff_dev (s : State) (d : Nat) : (s.domainOff d).dev = s.dev := (s.domainOff_eff d).rd _ rfl

/-- The phase UP with the cause of the wake. -/
def State.upPhase (s : State) : State := (s.wr K.pwrWakeCause (s.power.latched.getD 0)).powerPhase 0

/-- STOPPED, with no domain left to move. -/
def State.enteredUp (s : State) : State := (State.enter { s with power := {} } stStopped).refreshPins.raise Ev.pwrWake

theorem State.enteredUp_eff (s : State) : Eff (withSide [.device, .boot, .pins])
    (sideAnd [.one K.devDeviceState, .one K.devStateChanges, .one K.devStateTime]) s s.enteredUp :=
  (State.raise_eff ..).after ((State.refreshPins_eff _).after ((State.enter_eff ..).after (Eff.upd_power Eff.refl rfl) rfl) rfl) rfl

/-- The last domain is up: STOPPED, with the cause of the first wake (R549). -/
theorem State.awake_entries (s : State) : s.awake.rd K.pwrPowerPhase = 0 ∧ s.awake.rd K.pwrWakeCause = s.power.latched.getD 0 := by
  have hrest := s.upPhase.enteredUp_eff
  exact ⟨(hrest.rd _ rfl).trans (State.powerPhase_rd ..),
    (hrest.rd _ rfl).trans (((State.powerPhase_eff ..).rd _ rfl).trans (State.rd_wr_self ..))⟩

/-! ### The wake pin (R549) -/

variable {level : Bool}

/-- The wake pin at a level. -/
def State.pinAt (s : State) (level : Bool) : State := { s with gpioIn := tput s.gpioIn (s.rd K.pwrWakePin) (b2n level) }

theorem State.pinAt_level (s : State) (level : Bool) : tfind (s.pinAt level).gpioIn (s.rd K.pwrWakePin) = some (b2n level) := by
  rw [State.pinAt, tfind_tput, if_pos rfl]

theorem wakePin_pinAt (hn : s.rd K.pwrWakePin < 32) :
    wakePin level s = if (s.pinAt level).wakePinOn then (s.pinAt level).wake 2 else s.pinAt level :=
  if_neg (by rw [Nat.blt_eq.mpr hn]; decide)

theorem State.pinAt_wakes (hn : s.rd K.pwrWakePin < 32) (hb : s.bit K.pwrWakeSources 0 = true) :
    (s.pinAt (s.on K.pwrWakeLevel)).wakePinOn = true := by
  have hlevel : ∀ b : Bool, ((b2n b == 1) == b) = true := by decide
  have hpin : tget 0 (s.pinAt (s.on K.pwrWakeLevel)).gpioIn (s.rd K.pwrWakePin) = b2n (s.on K.pwrWakeLevel) := tget_tput_self ..
  have hon : (s.pinAt (s.on K.pwrWakeLevel)).wakePinOn = (s.bit K.pwrWakeSources 0 && Nat.blt (s.rd K.pwrWakePin) 32 &&
    ((tget 0 (s.pinAt (s.on K.pwrWakeLevel)).gpioIn (s.rd K.pwrWakePin) == 1) == s.on K.pwrWakeLevel)) := rfl
  rw [hon, hpin, hlevel, hb, Nat.blt_eq.mpr hn]
  rfl

/-- The masked domains come up, from the last, after a wake with its cause. -/
def State.wakes (s : State) (cause : Nat) : State :=
  { s.powerPhase 3 with power := { (s.powerPhase 3).power with
      todo := (s.powerPhase 3).maskedDomains.reverse, due := (s.powerPhase 3).now + us 50, latched := some cause } }

theorem State.wakes_phase (s : State) (cause : Nat) : (s.wakes cause).rd K.pwrPowerPhase = 3 := s.powerPhase_rd 3

theorem State.powerPhase_maskedDomains (s : State) (p : Nat) : (s.powerPhase p).maskedDomains = s.maskedDomains := by
  simp only [State.maskedDomains, State.bit, (s.powerPhase_eff p).rd K.pwrSleepMask rfl]

theorem State.wake_wakes (hd : s.dev = stStandby) (hp : s.rd K.pwrPowerPhase = 2) (hm : s.maskedDomains ≠ []) (cause : Nat) :
    s.wake cause = s.wakes cause := by
  have htodo : ((s.powerPhase 3).maskedDomains.reverse).isEmpty = false := by
    rw [State.powerPhase_maskedDomains, List.isEmpty_eq_false_iff]
    exact fun h => hm (List.reverse_eq_nil_iff.mp h)
  have hstart : s.startWaking cause = if ((s.powerPhase 3).maskedDomains.reverse).isEmpty then (s.wakes cause).awake else s.wakes cause := rfl
  rw [State.wake, if_neg (not_not.mpr hd), if_pos hp, hstart, htodo]
  rfl

end

/-- Settles O60: the ring takes, freezes and frees, the domains go down and come up, and the pin at its level wakes the device. -/
theorem witnessAndPowerCommands : Obligations.WitnessAndPowerCommands := by
  refine ⟨fun e l s hb hf he => ?writes, fun e l s hb hf he => ?faults, fun e l s hb hf => ?drops, fun a s hw hv hf => ?freezes,
    fun a s hw hv hf hl => ?releases, fun a s hw hf hl => ?marks, fun a s hw => ?reads, fun d e l s hs hd hp => ?down,
    fun d s hs hd hp hl hw => ?asleep, fun d s hs hd hp => ?awake, fun d e l s hs hd hp => ?up, fun level s hn hb hlevel hd hp hm => ?wakes,
    fun level s hn hb => ?still⟩
  case writes =>
    have heq : witnessWrite s = s.ringWritten e l := (witnessWrite_writes hb hf).trans (if_neg (by simp [he]))
    have hring : (s.ringWritten e l).ringView = _ := State.ringWritten_ringView
    obtain ⟨hbuf, hslots⟩ := Prod.mk.inj hring
    obtain ⟨hnext, hfrozen⟩ := State.ringWritten_entries (s := s) (e := e) (l := l)
    refine ⟨_, congrArg Host.Outcome.next heq, hbuf, hnext, ?_, hfrozen, (Eff.to heq.symm (witnessWrite_eff s)).frame⟩
    rw [hslots, tfind_tput, if_pos rfl]
    rfl
  case faults =>
    have hon : (s.ringWritten e l).on K.witFrozen = false := (congrArg (· == 1) State.ringWritten_entries.2).trans hf
    have heq : witnessWrite s = (s.ringWritten e l).ringFrozen 1 :=
      (witnessWrite_writes hb hf).trans ((if_pos he).trans (State.freezeRing_freezes hon 1))
    have hring : ((s.ringWritten e l).ringFrozen 1).ringView = _ := (State.ringFrozen_ringView ..).trans State.ringWritten_ringView
    obtain ⟨hfrozen, hcause⟩ := (s.ringWritten e l).ringFrozen_entries 1
    exact ⟨_, congrArg Host.Outcome.next heq, (Prod.mk.inj hring).1, congrArg (· == 1) hfrozen, hcause,
      (Eff.to heq.symm (witnessWrite_eff s)).frame⟩
  case drops =>
    have heff : Eff [.regs, .witness] [.one K.witFrozenDrops] s ((s.unqueued l).inc 32 K.witFrozenDrops) :=
      (Eff.upd_wbuf Eff.refl rfl).inc rfl rfl
    exact ⟨_, congrArg Host.Outcome.next (witnessWrite_drops hb hf), rfl, State.rd_inc_self .., rfl, heff.frame⟩
  case freezes =>
    have heq := freezeWrite_freezes hw hv hf
    have hdone := (s.ringFrozen 2).done_ok_eff a K.witFreeze
    have heff : Eff sideParts (sideAnd [.one K.witFreezeCause, .one K.witFrozen]) s (s.ringFrozen 2) :=
      Eff.to (State.freezeRing_freezes hf 2).symm (s.freezeRing_eff 2)
    obtain ⟨hfrozen, hcause⟩ := s.ringFrozen_entries 2
    obtain ⟨hbuf, hring⟩ := Prod.mk.inj (hdone.ringView.trans (s.ringFrozen_ringView 2))
    exact ⟨_, congrArg Host.Outcome.next heq, (hdone.rd _ rfl).trans hfrozen, (hdone.rd _ rfl).trans hcause, hring, hbuf,
      State.done_ok_status .., (okSide_eq a _ (heff.done_ok rfl)).frame⟩
  case releases =>
    have hdone := s.ringReleased.done_ok_eff a K.witRelease
    have heff : Eff sideParts (sideAnd [.one K.witFreezeCause, .one K.witFrozen, .one K.witFrozenDrops]) s s.ringReleased :=
      (State.buffered_eff ..).after (s.ringFreed_eff.after Eff.refl rfl) rfl
    obtain ⟨hfrozen, hcause, hdrops⟩ := s.ringFreed_entries
    obtain ⟨hbuf, -⟩ := Prod.mk.inj hdone.ringView
    exact ⟨_, congrArg Host.Outcome.next (releaseWrite_frees hw hv hf hl), (hdone.rd _ rfl).trans hfrozen, (hdone.rd _ rfl).trans hcause,
      (hdone.rd _ rfl).trans hdrops, (congrArg List.length hbuf).trans (State.buffered_length ..), State.done_ok_status ..,
      (okSide_eq a _ (heff.done_ok rfl)).frame⟩
  case marks =>
    have hdone := (s.buffered (s.wreq 4 (21 * 256 + a.path) (accVal a K.witMark) 0)).done_ok_eff a K.witMark
    have heff : Eff [.regs, .witness] [] s (s.buffered (s.wreq 4 (21 * 256 + a.path) (accVal a K.witMark) 0)) :=
      (State.buffered_eff ..).after Eff.refl rfl
    obtain ⟨hbuf, -⟩ := Prod.mk.inj hdone.ringView
    refine ⟨_, congrArg Host.Outcome.next (markWrite_marks hw hf hl), (congrArg List.length hbuf).trans (State.buffered_length ..),
      ⟨s.wreq 4 (21 * 256 + a.path) (accVal a K.witMark) 0, ?_, rfl, rfl, rfl, rfl⟩, State.done_ok_status .., (heff.done_ok rfl).frame⟩
    rw [hbuf]
    exact mem_witnessInsert _ s.wbuf
  case reads =>
    have hhigh := (s.wr K.witReadSequence (accVal a K.witReadSequence)).witnessHigh_eff
    have hdone := (s.wr K.witReadSequence (accVal a K.witReadSequence)).witnessHigh.done_ok_eff a K.witReadSequence
    have heff : Eff sideParts (sideAnd [.one K.witReadSequence, .one K.witWitnessStatus]) s
        (s.wr K.witReadSequence (accVal a K.witReadSequence)).witnessHigh := hhigh.after (Eff.refl.wr rfl rfl) rfl
    refine ⟨_, congrArg Host.Outcome.next (readSequenceWrite_stores hw), ?_, (hdone.rd _ rfl).trans (heff.rd _ rfl), State.done_ok_status ..,
      (okSide_eq a _ (heff.done_ok rfl)).frame⟩
    rw [hdone.rd _ rfl, hhigh.rd _ rfl, State.rd_wr_self]
  case down =>
    have heq : domainDown s = (s.domainOff d).domainsLeft (e :: l) 10 := domainDown_next hs hd hp
    refine ⟨_, congrArg Host.Outcome.next heq, s.domainOff_now d, ?_, (s.domainOff_dev d).trans hd,
      ((s.domainOff_eff d).rd K.pwrPowerPhase rfl).trans hp, fun h n hn => ?_, (Eff.to heq.symm (domainDown_eff s)).frame⟩
    · rw [← s.domainOff_power d]
      rfl
    · subst h
      exact State.domainsLeft_dark (s.domainOff_camView hn)
  case asleep =>
    have hlatched : ((s.domainOff d).domainsLeft [] 10).power.latched = none := (congrArg Power.latched (s.domainOff_power d)).trans hl
    have hsources : ((s.domainOff d).domainsLeft [] 10).rd K.pwrWakeSources = 0 := ((s.domainOff_eff d).rd _ rfl).trans hw
    have heq : domainDown s = ((s.domainOff d).domainsLeft [] 10).fellAsleep :=
      (domainDown_next hs hd hp).trans (State.asleep_stays hlatched hsources)
    have hsleeps : (s.domainOff d).rd K.pwrSleeps = s.rd K.pwrSleeps := (s.domainOff_eff d).rd _ rfl
    refine ⟨_, congrArg Host.Outcome.next heq, ?_, ?_, ?_, (Eff.to heq.symm (domainDown_eff s)).frame⟩
    · rw [State.fellAsleep, State.raise_rd, State.rd_inc_ne _ _ (by decide), State.powerPhase_rd]
    · rw [State.fellAsleep, State.raise_rd, State.rd_inc_self, (State.powerPhase_eff ..).rd _ rfl, ← hsleeps]
      rfl
    · exact ((State.fellAsleep_eff _).rd K.devDeviceState rfl).trans ((s.domainOff_dev d).trans hd)
  case awake =>
    have heq : domainUp s = ((s.at s.power.due).domainsLeft [] 50).awake := (domainUp_next hs hd hp).trans (if_pos rfl)
    obtain ⟨hphase, hcause⟩ := ((s.at s.power.due).domainsLeft [] 50).awake_entries
    exact ⟨_, congrArg Host.Outcome.next heq, State.awake_dev _, hphase, hcause, (State.awake_eff _).part .clock rfl,
      (Eff.to heq.symm (domainUp_eff s)).frame⟩
  case up =>
    have heq : domainUp s = (s.at s.power.due).domainsLeft (e :: l) 50 := domainUp_next hs hd hp
    have heff : Eff [.clock, .boot] [] s ((s.at s.power.due).domainsLeft (e :: l) 50) := Eff.upd_power ((State.at_eff ..).after Eff.refl rfl) rfl
    exact ⟨_, congrArg Host.Outcome.next heq, rfl, rfl, heff.frame⟩
  case wakes =>
    subst hlevel
    have heq : wakePin (s.on K.pwrWakeLevel) s = (s.pinAt (s.on K.pwrWakeLevel)).wakes 2 :=
      (wakePin_pinAt hn).trans ((if_pos (State.pinAt_wakes hn hb)).trans (State.wake_wakes (s := s.pinAt (s.on K.pwrWakeLevel)) hd hp hm 2))
    obtain ⟨hin, -⟩ := ((s.pinAt (s.on K.pwrWakeLevel)).powerPhase_eff 3).part .pins rfl
    refine ⟨_, congrArg Host.Outcome.next heq, ?_, State.wakes_phase .., rfl, (Eff.to heq.symm (wakePin_eff _ s)).frame⟩
    exact (congrArg (tfind · (s.rd K.pwrWakePin)) hin).trans (s.pinAt_level _)
  case still =>
    have hoff : (s.pinAt level).wakePinOn = false := by
      have hbit : (s.pinAt level).bit K.pwrWakeSources 0 = false := hb
      simp [State.wakePinOn, hbit]
    have heq : wakePin level s = s.pinAt level := (wakePin_pinAt hn).trans (if_neg (by simp [hoff]))
    have heff : Eff [.pins] [] s (s.pinAt level) := Eff.upd_gpioIn Eff.refl rfl
    exact ⟨_, congrArg Host.Outcome.next heq, s.pinAt_level level, heff.frame⟩

end Sys2Proof.Machine

/-! SUPPORT. DRAM channels (R357 to R366, R516, R551): refresh, temperature, grants, patrol, self-refresh and tracking. The commands behave as
O42 says exactly when the bytes of the Sherd pool's window, which the spec leaves open (R355, R367), do not depend on the moment of the read. -/

namespace Sys2Proof.Machine

-- The proofs of this part are checked one after another, in one thread.
set_option Elab.async false

section
variable {s : State} {c : Nat}

/-! ### Refresh and temperature (R360) -/

/-- A refresh has fallen tREFI after the last. -/
def State.dramRefreshed (s : State) (c : Nat) : State :=
  ((s.at ((s.dramCh c).refreshed + (s.dramCh c).refi)).setDramCh c
    { s.dramCh c with refreshed := (s.dramCh c).refreshed + (s.dramCh c).refi }).inc 64 (K.dcsRefreshes c)

theorem dramRefresh_falls (h : s.dramReady c = true) : dramRefresh c s = s.dramRefreshed c := if_neg (by simp [h])

theorem State.dramRefreshed_eff (s : State) (c : Nat) : Eff [.clock, .regs, .memory] [.one (K.dcsRefreshes c)] s (s.dramRefreshed c) :=
  ((State.setDramCh_eff ..).after ((State.at_eff ..).after Eff.refl rfl) rfl).inc rfl (by simp [KeySet.has])

/-- A flag that is up already is not raised again. -/
theorem State.tempFlags_eff_own (s : State) (c m : Nat) : Eff sideParts (sideAnd [.one (K.dcsChannelStatus c)]) s (s.tempFlags c m) :=
  Eff.ite Eff.refl (Eff.flag Eff.refl rfl (by simp [sideAnd, KeySet.has]))

theorem State.tempFlags_bit (s : State) (hc : c < 4) {m i : Nat} (hm : bitOf m i = true) :
    (s.tempFlags c m).bit (K.dcsChannelStatus c) i = true := by
  unfold State.tempFlags State.bit
  split
  · next h =>
    rw [← h, bitOf_eq_testBit, Nat.testBit_and, Bool.and_eq_true] at hm
    rw [bitOf_eq_testBit]
    exact hm.1
  · rw [State.flag, (State.arrive_eff ..).rd_inst hc, State.rd_wr_self]
    exact bitOf_setBits_new _ hm

theorem State.tempFlags_dramCh (s : State) (c m d : Nat) : (s.tempFlags c m).dramCh d = s.dramCh d := by
  obtain ⟨-, hdrams, -⟩ := (s.tempFlags_eff_own c m).part .memory rfl
  rw [State.dramCh, hdrams]
  rfl

/-- A case temperature is shown, and the channel's record stands at `x`. -/
def State.tempShown (s : State) (c : Nat) (t : Int) (x : DramCh) : State := (s.setDramCh c x).wr (K.dcsCaseTemp c) (ofI 32 t)

theorem State.tempShown_eff (s : State) (c : Nat) (t : Int) (x : DramCh) :
    Eff [.regs, .memory] [.one (K.dcsCaseTemp c)] s (s.tempShown c t x) :=
  ((State.setDramCh_eff ..).after Eff.refl rfl).wr rfl (by simp [KeySet.has])

/-- The record of a channel above 85 °C, and of one below 83 °C. -/
def DramCh.heated (x : DramCh) (hot : Bool) : DramCh := { x with tempFail := false, hot := hot }

theorem dramTempRead_shows (h : s.rd (K.dcsChannelState c) ≠ 0) {t : Int} {b : Bool}
    (hb : (if 85000 < t then true else if t < 83000 then false else (s.dramCh c).hot) = b) :
    dramTempRead c (some t) s = if b then (s.tempShown c t ((s.dramCh c).heated b)).tempFlags c 2
      else (s.tempShown c t ((s.dramCh c).heated b)).unflag (K.dcsChannelStatus c) 2 := by
  subst hb
  exact if_neg h

theorem dramTempRead_fails (h : s.rd (K.dcsChannelState c) ≠ 0) :
    dramTempRead c none s = (s.setDramCh c { s.dramCh c with tempFail := true }).tempFlags c 6 := if_neg h

/-! ### Self-refresh and tracking (R516, R551) -/

theorem selfRefreshEntry_enters (hd : s.dev = stStandby) (hm : s.bit K.pwrSleepMask 6 = true) (hi : s.rd K.pwrSelfRefreshIdle ≠ 0)
    (hr : s.dramReady c = true) (hw : (s.dramCh c).wait = []) :
    selfRefreshEntry c s = (s.at ((s.dramCh c).busy + us (s.rd K.pwrSelfRefreshIdle))).wr (K.dcsChannelState c) 3 :=
  if_neg (by simp [hd, hm, hi, hr, hw])

/-- A byte lane has moved by a tap. -/
def State.laneMoved (s : State) (c : Nat) (d : Int) : State :=
  (s.setDramCh c { s.dramCh c with moved := tput (s.dramCh c).moved 0 (tget 0 (s.dramCh c).moved 0 + clampI (-1) 1 d) }).inc 32 K.calDdrTrackSteps

/-- A byte lane that has moved 8 taps is flagged. -/
def State.laneTracked (s : State) (c : Nat) (d : Int) : State :=
  if 8 ≤ (tget 0 (s.dramCh c).moved 0 + clampI (-1) 1 d).natAbs then (s.laneMoved c d).flag K.calCalStatus 2 9 else s.laneMoved c d

theorem ddrTrack_moves (hp : s.rd K.calDdrTrackPeriod ≠ 0) (hr : s.dramReady c = true) (hl : (tget 0 (s.dramCh c).moved 0).natAbs < 8) {d : Int}
    (hd : clampI (-1) 1 d ≠ 0) : ddrTrack c [d] s = s.laneTracked c d := by
  have hlane : trackLane c s (d, 0) = s.laneTracked c d := if_neg (by rw [not_or]; exact ⟨Nat.not_le.mpr hl, hd⟩)
  exact (if_neg (by simp [hp, hr])).trans hlane

theorem State.laneTracked_after (s : State) (c : Nat) (d : Int) :
    Eff sideParts (sideAnd [.one K.calCalStatus]) (s.laneMoved c d) (s.laneTracked c d) :=
  Eff.ite (Eff.refl.flag rfl rfl) Eff.refl

theorem State.laneMoved_eff (s : State) (c : Nat) (d : Int) : Eff [.regs, .memory] [.one K.calDdrTrackSteps] s (s.laneMoved c d) :=
  ((State.setDramCh_eff ..).after Eff.refl rfl).inc rfl rfl

theorem State.laneTracked_dramCh (s : State) (c : Nat) (d : Int) (e : Nat) : (s.laneTracked c d).dramCh e = (s.laneMoved c d).dramCh e := by
  obtain ⟨-, hdrams, -⟩ := (s.laneTracked_after c d).part .memory rfl
  rw [State.dramCh, hdrams]
  rfl

/-! ### Patrol (R361) -/

/-- The pass counted, at its last block. -/
def State.passCounted (s : State) (c : Nat) (last : Bool) : State := if last then s.inc 32 (K.dcsPatrolPasses c) else s

theorem State.passCounted_eff (s : State) (c : Nat) (last : Bool) : Eff [.regs] [.one (K.dcsPatrolPasses c)] s (s.passCounted c last) :=
  Eff.ite (Eff.refl.inc rfl (by simp [KeySet.has])) Eff.refl

section
variable {a : Nat} (hr : s.dramReady c = true) (hp : s.rd K.dramPatrolPeriod ≠ 0) (hw : (s.dramCh c).wait = []) (hi : s.inDram a 64 = true)
  (ho : s.dramOf a = c) (last : Bool)
include hr hp hw hi ho

theorem patrolRead_corrects : patrolRead c a .corrected last s = (s.passCounted c last).eccCorrected c a := if_neg (by simp [hr, hp, hw, hi, ho])

theorem patrolRead_fatal : patrolRead c a .uncorrectable last s = (s.passCounted c last).fatalStop 1 (8 * 256 + c) a :=
  if_neg (by simp [hr, hp, hw, hi, ho])

end

/-- A corrected error is counted with its address. -/
def State.eccCounted (s : State) (c a : Nat) : State := (s.inc 32 (K.dcsCorrectedErrors c)).wr (K.dcsLastCorrectedAddress c) a

/-- A corrected word is written back where reads scrub. -/
def State.scrubbed (s : State) : State := if s.on K.dramScrubOnRead then s.add 64 (K.portBytesWritten 11) 64 else s

theorem State.eccCorrected_raises (s : State) (c a : Nat) :
    s.eccCorrected c a = ((s.eccCounted c a).scrubbed.flag (K.dcsChannelStatus c) 1 113).raise Ev.memEccCorrected := rfl

theorem State.scrubbed_eff (s : State) : Eff [.regs] [.one (K.portBytesWritten 11)] s s.scrubbed := Eff.ite (Eff.refl.add rfl rfl) Eff.refl

theorem State.eccCorrected_after (s : State) (c a : Nat) : Eff sideParts (sideAnd [.one (K.portBytesWritten 11), .one (K.dcsChannelStatus c)])
    (s.eccCounted c a) (s.eccCorrected c a) :=
  (State.raise_eff ..).after (((s.eccCounted c a).scrubbed_eff.after Eff.refl rfl).flag rfl (by simp [sideAnd, KeySet.has])) rfl

theorem State.passCounted_rd (s : State) {c k : Nat} (last : Bool) (h : k ≠ K.dcsPatrolPasses c) : (s.passCounted c last).rd k = s.rd k := by
  unfold State.passCounted
  split
  · exact State.rd_inc_ne _ _ h
  · rfl

theorem State.passCounted_passes (s : State) (c : Nat) (last : Bool) : (s.passCounted c last).rd (K.dcsPatrolPasses c) =
    if last then (s.rd (K.dcsPatrolPasses c) + 1) % 2 ^ 32 else s.rd (K.dcsPatrolPasses c) := by
  unfold State.passCounted
  split
  · exact State.rd_inc_self ..
  · rfl

theorem State.eccCounted_eff (s : State) (c a : Nat) :
    Eff [.regs] [.one (K.dcsCorrectedErrors c), .one (K.dcsLastCorrectedAddress c)] s (s.eccCounted c a) :=
  (Eff.refl.inc rfl (by simp [KeySet.has])).wr rfl (by simp [KeySet.has])

/-- What the rest of a correction leaves of another of the channel's entries. -/
theorem State.eccCorrected_rd (s : State) {a b : Nat} (hc : c < 4) (hb : ∀ i < 4, (sideAnd [.fam (K.portBytesWritten 0) 12,
    .fam (K.dcsChannelStatus 0) 4]).any (·.has (instKey b 4 i)) = false := by decide) :
    (s.eccCorrected c a).rd (instKey b 4 c) = (s.eccCounted c a).rd (instKey b 4 c) := by
  have hrest : Eff sideParts (sideAnd [.fam (K.portBytesWritten 0) 12, .fam (K.dcsChannelStatus 0) 4]) (s.eccCounted c a) (s.eccCorrected c a) :=
    (State.raise_eff ..).after (Eff.flag (Eff.ite (Eff.refl.add rfl rfl) Eff.refl) rfl (KeySet.any_fam _ rfl)) rfl
  exact hrest.rd_inst hc hb

theorem State.eccCorrected_bit (s : State) (hc : c < 4) (a : Nat) : (s.eccCorrected c a).bit (K.dcsChannelStatus c) 0 = true := by
  rw [State.bit, State.eccCorrected_raises, State.raise_rd, State.flag, (State.arrive_eff ..).rd_inst hc, State.rd_wr_self]
  exact bitOf_setBits_new _ (by decide)

end

end Sys2Proof.Machine

/-! SUPPORT. Grants of a DRAM channel (R363) and the bytes they read: what a served request leaves, and when a read at the grant's moment finds the
bytes of the moment before. -/

namespace Sys2Proof.Machine

-- The proofs of this part are checked one after another, in one thread.
set_option Elab.async false

/-! ### A grant serves a request (R363) -/

section
variable {s : State} {c p : Nat} {r : DramReq} {l : List DramReq}

/-- The moment of a grant: the request waits out tRFC. -/
def State.grantAt (s : State) (c : Nat) : Nat := max s.now ((s.dramCh c).refreshed + s.rfc c)

/-- The channel's record with the request taken. -/
def State.grantedCh (s : State) (c p : Nat) (l : List DramReq) : DramCh :=
  { s.dramCh c with wait := l, last := tput (s.dramCh c).last (s.portPriority p) p, busy := max s.now (s.grantAt c) }

/-- The request is taken, and its wait is kept where it is the port's longest. -/
def State.granted (s : State) (c p : Nat) (r : DramReq) (l : List DramReq) : State :=
  ((s.at (s.grantAt c)).setDramCh c (s.grantedCh c p l)).peak (K.portMaxLatency p) (max s.now (s.grantAt c) - r.stamp)

theorem State.dramWake_ready (h : s.dramReady c = true) : s.dramWake c = s := by
  have hstate : s.rd (K.dcsChannelState c) = 2 := by simpa [State.dramReady] using h
  exact if_neg (by simp [State.dramAsleep, hstate])

theorem dramGrant_serves (hr : s.dramReady c = true) (hg : s.grantPort c = some p) (ht : takeReq p (s.dramCh c).wait = some (r, l))
    (hb : s.grantAt c < (s.dramCh c).refreshed + (s.dramCh c).refi) : dramGrant c s = (s.granted c p r l).dramPerform r := by
  unfold dramGrant
  rw [hg]
  simp only [State.dramWake_ready hr, ht]
  exact if_neg (by rw [not_or, not_le, hr]; exact ⟨by decide, hb⟩)

theorem State.granted_eff (s : State) (c p : Nat) (r : DramReq) (l : List DramReq) :
    Eff [.clock, .regs, .memory] [.one (K.portMaxLatency p)] s (s.granted c p r l) :=
  ((State.setDramCh_eff ..).after ((State.at_eff ..).after Eff.refl rfl) rfl).peak rfl (by simp [KeySet.has])

theorem State.granted_after (s : State) (c p : Nat) (r : DramReq) (l : List DramReq) : Eff [.regs] [.one (K.portMaxLatency p)]
    ((s.at (s.grantAt c)).setDramCh c (s.grantedCh c p l)) (s.granted c p r l) := Eff.refl.peak rfl (by simp [KeySet.has])

theorem State.granted_now (s : State) (c p : Nat) (r : DramReq) (l : List DramReq) : (s.granted c p r l).now = s.grantAt c := by
  have hnow : (s.granted c p r l).now = max s.now (s.grantAt c) := (s.granted_after c p r l).part .clock rfl
  rw [hnow, State.grantAt]
  omega

theorem State.granted_dramCh (s : State) (c p : Nat) (r : DramReq) (l : List DramReq) (d : Nat) :
    (s.granted c p r l).dramCh d = if d = c then s.grantedCh c p l else s.dramCh d := by
  obtain ⟨-, hdrams, -⟩ := (s.granted_after c p r l).part .memory rfl
  have hset : ((s.at (s.grantAt c)).setDramCh c (s.grantedCh c p l)).dramCh d = if d = c then s.grantedCh c p l else s.dramCh d :=
    State.dramCh_setDramCh ..
  rw [← hset, State.dramCh, hdrams]
  rfl

theorem State.granted_inDram (s : State) (c p : Nat) (r : DramReq) (l : List DramReq) (a n : Nat) :
    (s.granted c p r l).inDram a n = s.inDram a n := by
  have hpopulated : (s.granted c p r l).rd K.dramDramPopulated = s.rd K.dramDramPopulated :=
    State.rd_peak_ne _ _ (ne_instKey p rfl)
  rw [State.inDram, hpopulated]
  rfl

end

/-! ### The bytes of a request -/

section
variable {s : State} {r : DramReq}

/-- Bytes written to DRAM, counted for the port. -/
def State.dramWritten (s : State) (r : DramReq) : State :=
  ({ s with mem := memPuts s.mem r.addr r.bytes } : State).add 64 (K.portBytesWritten r.port) r.bytes.length

theorem State.dramPerform_write (hw : r.write = true) (hi : s.inDram r.addr r.bytes.length = true) : s.dramPerform r = s.dramWritten r :=
  (if_pos hw).trans (if_pos hi)

theorem State.dramWritten_eff (s : State) (r : DramReq) : Eff [.regs, .mem] [.one (K.portBytesWritten r.port)] s (s.dramWritten r) :=
  (Eff.upd_mem Eff.refl rfl fun h => Memory.wf_memPuts _ _ h).add rfl (by simp [KeySet.has])

theorem memGet_memPuts {m : List Host.Cell} (a : Nat) (l : List Nat) (h : Memory.wf m = true) (n : Nat) :
    memGet (memPuts m a l) n = if a ≤ n ∧ n < a + l.length then BitVec.ofNat 8 (nth l (n - a)) else memGet m n := by
  split
  · next hn =>
    have hin := memGet_memPuts_in (a := a) (i := n - a) l h (by omega)
    rwa [Nat.add_sub_cancel' hn.1] at hin
  · next hn => exact memGet_memPuts_out l h (by omega)

/-- The number that the bytes of a request make. -/
def State.reqWord (s : State) (r : DramReq) : Nat := ofLe ((List.range r.len).map fun i => s.memByte (r.addr + i))

/-- Bytes kept for the hart that asked, counted for the port. -/
def State.dramReadFor (s : State) (r : DramReq) : State :=
  { s.add 64 (K.portBytesRead r.port) r.len with readData := tput s.readData (8 + r.hart) (s.reqWord r) }

theorem State.dramPerform_read (hw : r.write = false) (hi : s.inDram r.addr r.len = true) : s.dramPerform r = s.dramReadFor r := by
  have hread : s.blockRead r.port r.addr r.len = ((List.range r.len).map fun i => s.memByte (r.addr + i), s.add 64 (K.portBytesRead r.port) r.len) :=
    if_pos (by rw [hi]; rfl)
  unfold State.dramPerform
  rw [if_neg (by simp [hw]), hread]
  rfl

theorem State.dramReadFor_eff (s : State) (r : DramReq) : Eff [.regs, .reads] [.one (K.portBytesRead r.port)] s (s.dramReadFor r) :=
  Eff.upd_readData (Eff.refl.add rfl (by simp [KeySet.has])) rfl

theorem State.dramReadFor_data (s : State) (r : DramReq) :
    tfind (s.dramReadFor r).readData (8 + r.hart) = some (s.reqWord r) :=
  (tfind_tput ..).trans (if_pos rfl)

end

/-! ### Bytes that do not depend on the moment -/

/-- A byte of the Sherd pool's window is the same whenever it is read. The spec leaves the window's bytes open (R355, R367), and the model has
no value for them. -/
def SherdsSteady : Prop :=
  ∀ a t u, 0x4000000000 ≤ a → a < 0x4010000000 → Config.sherdByte a t % 256 = Config.sherdByte a u % 256

theorem ofLe_congr {f g : Nat → Nat} (h : ∀ i, f i % 256 = g i % 256) : ∀ l : List Nat, ofLe (l.map f) = ofLe (l.map g)
  | [] => rfl
  | x :: l => by
    rw [List.map_cons, List.map_cons, ofLe, ofLe, h x, ofLe_congr h l]

/-- With a steady window, a byte changes only with DRAM, the nozzle table and the ring. -/
theorem SherdsSteady.memByte (h : SherdsSteady) {s x : State} (hm : x.mem = s.mem) (hg : x.glaze = s.glaze) (hr : x.wring = s.wring) (a : Nat) :
    x.memByte a % 256 = s.memByte a % 256 := by
  unfold State.memByte State.sramByte State.glazeWord State.witnessByte
  rw [hm, hg, hr]
  split
  · rfl
  · next hdram =>
    split
    · next hpool => exact h a x.now s.now (by omega) hpool
    · rfl

end Sys2Proof.Machine

/-! SUPPORT. The commands of a DRAM channel (O42): all but the read behave as O42 says, and the read does exactly when the bytes of the Sherd pool's
window are steady. -/

namespace Sys2Proof.Machine

-- The proofs of this part are checked one after another, in one thread.
set_option Elab.async false

theorem bitOf_clearBits_two (v : Nat) : bitOf (clearBits v 2) 1 = false := by
  have hand : v &&& 2 = (decide (v / 2 % 2 = 1)).toNat * 2 := (Nat.and_two_pow v 1).trans (by rw [Nat.testBit_eq_decide_div_mod_eq]; rfl)
  rw [clearBits, hand, bitOf, beq_eq_false_iff_ne]
  by_cases h : v / 2 % 2 = 1
  · simp only [h, decide_true, Bool.toNat_true]
    omega
  · simp only [h, decide_false, Bool.toNat_false]
    omega

section
variable {s : State}

theorem dramGrant_write {ch p : Nat} {r : DramReq} {l : List DramReq} (hc : ch < 4) (hr : s.dramReady ch = true) (hg : s.grantPort ch = some p)
    (ht : takeReq p (s.dramCh ch).wait = some (r, l)) (hb : s.grantAt ch < (s.dramCh ch).refreshed + (s.dramCh ch).refi) (hw : r.write = true)
    (hi : s.inDram r.addr r.bytes.length = true) : exec (.dramGrant ch) s = .next ((s.granted ch p r l).dramWritten r) :=
  inst_eq_next hc ((dramGrant_serves hr hg ht hb).trans (State.dramPerform_write hw ((State.granted_inDram ..).trans hi)))

theorem dramGrant_read {ch p : Nat} {r : DramReq} {l : List DramReq} (hc : ch < 4) (hr : s.dramReady ch = true) (hg : s.grantPort ch = some p)
    (ht : takeReq p (s.dramCh ch).wait = some (r, l)) (hb : s.grantAt ch < (s.dramCh ch).refreshed + (s.dramCh ch).refi) (hw : r.write = false)
    (hi : s.inDram r.addr r.len = true) : exec (.dramGrant ch) s = .next ((s.granted ch p r l).dramReadFor r) :=
  inst_eq_next hc ((dramGrant_serves hr hg ht hb).trans (State.dramPerform_read hw ((State.granted_inDram ..).trans hi)))

end

/-- With a steady window every command of a DRAM channel is as O42 says. -/
theorem dramCommands_of_steady (hsteady : SherdsSteady) : Obligations.DramCommands := by
  refine ⟨fun ch s hc hr => ?refresh, fun ch x s hc hs hx => ?hot, fun ch x s hc hs hx => ?cool, fun ch s hc hs => ?fails,
    fun ch p r l s hc hr hg ht hb hw hm hi => ?writes, fun ch p r l s hc hr hg ht hb hw hi => ?reads,
    fun ch a last s hc hr hp hw hi ho => ?corrects, fun ch a last s hc hr hp hw hi ho hd hf => ?fatal,
    fun ch s hc hd hm hi hr hw => ?sleeps, fun ch d s hc hp hr hl hd => ?tracks⟩
  case refresh =>
    refine ⟨_, inst_eq_next hc (dramRefresh_falls hr), rfl, State.rd_inc_self .., State.dramCh_setDramCh_self .., fun d hd => ?_,
      (s.dramRefreshed_eff ch).frame⟩
    exact (State.dramCh_setDramCh ..).trans (if_neg hd)
  case hot =>
    have heq := dramTempRead_shows hs (if_pos hx)
    have hflags := (s.tempShown ch x ((s.dramCh ch).heated true)).tempFlags_eff_own ch 2
    have hself : ((s.tempShown ch x ((s.dramCh ch).heated true)).tempFlags ch 2).dramCh ch = (s.dramCh ch).heated true :=
      (State.tempFlags_dramCh ..).trans (State.dramCh_setDramCh_self ..)
    refine ⟨_, inst_eq_next hc heq, ?_, State.tempFlags_bit _ hc (by decide), congrArg DramCh.hot hself, congrArg DramCh.tempFail hself,
      fun d hd => (State.tempFlags_dramCh ..).trans ((State.dramCh_setDramCh ..).trans (if_neg hd)), ?_⟩
    · exact ((State.tempFlags_eff ..).rd_inst hc).trans (State.rd_wr_self ..)
    · exact (hflags.after ((s.tempShown_eff ch x _).after Eff.refl (fits_of_subset (by decide) (by simp [sideAnd])))
        (fits_of_subset (by decide) (sideAnd_subset (by simp)))).frame
  case cool =>
    have heq := dramTempRead_shows hs ((if_neg (show ¬ 85000 < x by omega)).trans (if_pos hx))
    have hself : ((s.tempShown ch x ((s.dramCh ch).heated false)).unflag (K.dcsChannelStatus ch) 2).dramCh ch = (s.dramCh ch).heated false :=
      State.dramCh_setDramCh_self ..
    refine ⟨_, inst_eq_next hc heq, ?_, ?_, congrArg DramCh.hot hself, fun d hd => (State.dramCh_setDramCh ..).trans (if_neg hd), ?_⟩
    · exact (State.rd_wr_ne _ _ (instKey_ne _ _)).trans (State.rd_wr_self ..)
    · exact (congrArg (bitOf · 1) (State.rd_wr_self ..)).trans (bitOf_clearBits_two _)
    · exact (((State.setDramCh_eff ..).after Eff.refl rfl).wr rfl (by simp [KeySet.has]) |>.unflag rfl (by simp [KeySet.has])).frame
  case fails =>
    have hself : ((s.setDramCh ch { s.dramCh ch with tempFail := true }).tempFlags ch 6).dramCh ch = { s.dramCh ch with tempFail := true } :=
      (State.tempFlags_dramCh ..).trans (State.dramCh_setDramCh_self ..)
    refine ⟨_, inst_eq_next hc (dramTempRead_fails hs), congrArg DramCh.tempFail hself, State.tempFlags_bit _ hc (by decide),
      State.tempFlags_bit _ hc (by decide), ?_, fun d hd => (State.tempFlags_dramCh ..).trans ((State.dramCh_setDramCh ..).trans (if_neg hd)), ?_⟩
    · rw [hself]
      exact if_pos (Bool.or_true _)
    · exact ((State.tempFlags_eff_own ..).after ((State.setDramCh_eff ..).after Eff.refl rfl)
        (fits_of_subset (by decide) (List.Subset.refl _))).frame
  case writes =>
    have hgranted := s.granted_eff ch p r l
    have hwritten := (s.granted ch p r l).dramWritten_eff r
    obtain ⟨-, hdrams, -⟩ := hwritten.part .memory rfl
    have hch : ∀ d, ((s.granted ch p r l).dramWritten r).dramCh d = if d = ch then s.grantedCh ch p l else s.dramCh d := fun d => by
      rw [← State.granted_dramCh s ch p r l d, State.dramCh, hdrams]
      rfl
    refine ⟨_, dramGrant_write hc hr hg ht hb hw hi, ((hwritten.part .clock rfl).trans (State.granted_now ..)), ?_, fun n => ?_,
      fun d hd => (hch d).trans (if_neg hd), ?_⟩
    · rw [hch, if_pos rfl]
      rfl
    · have hmem : (s.granted ch p r l).mem = s.mem := hgranted.part .mem rfl
      have hput : ((s.granted ch p r l).dramWritten r).mem = memPuts s.mem r.addr r.bytes := congrArg (memPuts · r.addr r.bytes) hmem
      rw [hput, memGet_memPuts _ _ hm]
    · exact (hwritten.after (hgranted.after Eff.refl (fits_of_subset (by decide) (by simp [sideAnd])))
        (fits_of_subset (by decide) (by simp [sideAnd]))).frame
  case reads =>
    have hgranted := s.granted_eff ch p r l
    have hread := (s.granted ch p r l).dramReadFor_eff r
    obtain ⟨-, hdrams, -⟩ := hread.part .memory rfl
    have hch : ∀ d, ((s.granted ch p r l).dramReadFor r).dramCh d = if d = ch then s.grantedCh ch p l else s.dramCh d := fun d => by
      rw [← State.granted_dramCh s ch p r l d, State.dramCh, hdrams]
      rfl
    refine ⟨_, dramGrant_read hc hr hg ht hb hw hi, ?_, ?_, fun d hd => (hch d).trans (if_neg hd), ?_⟩
    · rw [hch, if_pos rfl]
      rfl
    · obtain ⟨-, hring, -⟩ := hgranted.part .witness rfl
      have hbyte : ∀ i, (s.granted ch p r l).memByte (r.addr + i) % 256 = s.memByte (r.addr + i) % 256 := fun i =>
        hsteady.memByte (hgranted.part .mem rfl) (hgranted.part .glaze rfl) hring _
      rw [State.dramReadFor_data, State.reqWord, ofLe_congr hbyte]
    · exact (hread.after (hgranted.after Eff.refl (fits_of_subset (by decide) (by simp [sideAnd])))
        (fits_of_subset (by decide) (by simp [sideAnd]))).frame
  case corrects =>
    have hafter := (s.passCounted ch last).eccCorrected_after ch a
    have hpass := s.passCounted_eff ch last
    refine ⟨_, inst_eq_next hc (patrolRead_corrects hr hp hw hi ho last), ?_, ?_, State.eccCorrected_bit _ hc a, ?_, ?_⟩
    · rw [State.eccCorrected_rd _ hc, State.eccCounted, State.rd_wr_ne _ _ (instKey_ne _ _), State.rd_inc_self,
        State.passCounted_rd _ _ (instKey_ne _ _)]
    · rw [State.eccCorrected_rd _ hc, State.eccCounted, State.rd_wr_self]
    · rw [State.eccCorrected_rd _ hc, State.eccCounted, State.rd_wr_ne _ _ (instKey_ne _ _), State.rd_inc_ne _ _ (instKey_ne _ _),
        State.passCounted_passes]
    · exact (hafter.after (((s.passCounted ch last).eccCounted_eff ch a).after (hpass.after Eff.refl
        (fits_of_subset (by decide) (by simp [sideAnd]))) (fits_of_subset (by decide) (by simp [sideAnd])))
        (fits_of_subset (by decide) (sideAnd_subset (by simp)))).frame
  case fatal =>
    have heq := patrolRead_fatal hr hp hw hi ho last
    have hdev : (s.passCounted ch last).dev = s.dev := s.passCounted_rd last (ne_instKey _ rfl)
    obtain ⟨hfault, hcode, -, -⟩ := (s.passCounted ch last).fatalStop_record 1 (8 * 256 + ch) a (by rwa [hdev]) (by rwa [hdev])
    exact ⟨_, inst_eq_next hc heq, hfault, hcode, (Eff.to heq.symm (patrolRead_eff ..)).frame⟩
  case sleeps =>
    have heff : Eff [.clock, .regs] [.one (K.dcsChannelState ch)] s
        ((s.at ((s.dramCh ch).busy + us (s.rd K.pwrSelfRefreshIdle))).wr (K.dcsChannelState ch) 3) :=
      ((State.at_eff ..).after Eff.refl rfl).wr rfl (by simp [KeySet.has])
    exact ⟨_, inst_eq_next hc (selfRefreshEntry_enters hd hm hi hr hw), State.rd_wr_self .., rfl, heff.frame⟩
  case tracks =>
    have hafter := s.laneTracked_after ch d
    have hch : ∀ e, (s.laneTracked ch d).dramCh e = _ := fun e => (s.laneTracked_dramCh ch d e).trans (State.dramCh_setDramCh ..)
    refine ⟨_, inst_eq_next hc (ddrTrack_moves hp hr hl hd), ?_, ?_, fun e he => (hch e).trans (if_neg he),
      (hafter.after ((s.laneMoved_eff ch d).after Eff.refl rfl) rfl).frame⟩
    · rw [hch, if_pos rfl, tget_tput_self]
    · rw [hafter.rd _ rfl, State.laneMoved, State.rd_inc_self]
      rfl

/-! ### The window decides -/

/-- A device whose channel 0 is READY and whose DRAM is configured to end at the pool's window's end. -/
def windowDevice : State := ((State.reset.wr (K.dcsChannelState 0) 2).wr K.dramDramPopulated 0x4010000000).wr (K.dcTrfc 0) 0

/-- A read of a byte at an address, of hart 0. -/
def byteRead (a : Nat) : DramReq := { port := 0, hart := 0, write := false, addr := a, len := 1, bytes := [], stamp := 0 }

/-- At a moment `t` a read waits, and channel 0 serves it at `u`. -/
def windowRead (a t u : Nat) : State := { windowDevice with now := t, drams := [(0, { wait := [byteRead a], refreshed := u })] }

theorem windowRead_rfc (a t u : Nat) : (windowRead a t u).rfc 0 = 0 := show windowDevice.rfc 0 = 0 by decide

theorem windowRead_grantAt {a t u : Nat} (h : t ≤ u) : (windowRead a t u).grantAt 0 = u := by
  rw [State.grantAt, windowRead_rfc]
  exact Nat.max_eq_right h

theorem windowRead_ready (a t u : Nat) : (windowRead a t u).dramReady 0 = true := show windowDevice.dramReady 0 = true by decide

theorem windowRead_port (a t u : Nat) : (windowRead a t u).grantPort 0 = some 0 := by
  have hprio : (windowRead a t u).portPriority 0 ≤ 8 := show windowDevice.portPriority 0 ≤ 8 by decide
  have hports : waitingPorts ((windowRead a t u).dramCh 0).wait = [0] := rfl
  have hlast : ((windowRead a t u).dramCh 0).last = [] := rfl
  simp [State.grantPort, hports, hlast, tfind, hprio]

theorem windowRead_inDram {a t u : Nat} (h : a < 0x4010000000) : (windowRead a t u).inDram a 1 = true := by
  have hpopulated : (windowRead a t u).rd K.dramDramPopulated = 0x4010000000 := show windowDevice.rd K.dramDramPopulated = _ by decide
  rw [State.inDram, hpopulated]
  exact Nat.ble_eq.mpr h

theorem windowByte {s : State} {a : Nat} (ha : 0x4000000000 ≤ a) (hb : a < 0x4010000000) :
    s.reqWord (byteRead a) = Config.sherdByte a s.now % 256 := by
  have hbyte : s.memByte a = Config.sherdByte a s.now := (if_neg (Nat.not_lt.mpr ha)).trans (if_pos hb)
  have hword : s.reqWord (byteRead a) = s.memByte a % 256 + 256 * 0 := rfl
  rw [hword, hbyte, Nat.mul_zero, Nat.add_zero]

/-- The read of a later moment, as O42 says, finds the byte of the earlier one. -/
theorem sherdByte_of_dramCommands (h : Obligations.DramCommands) {a t u : Nat} (ha : 0x4000000000 ≤ a) (hb : a < 0x4010000000) (htu : t ≤ u) :
    Config.sherdByte a t % 256 = Config.sherdByte a u % 256 := by
  obtain ⟨-, -, -, -, -, hreads, -⟩ := h
  have htake : takeReq 0 ((windowRead a t u).dramCh 0).wait = some (byteRead a, []) := rfl
  have hgap : (windowRead a t u).grantAt 0 < ((windowRead a t u).dramCh 0).refreshed + ((windowRead a t u).dramCh 0).refi := by
    rw [windowRead_grantAt htu]
    exact Nat.lt_add_of_pos_right (show 0 < 6240 by decide)
  obtain ⟨x, hx, -, hdata, -⟩ := hreads 0 0 (byteRead a) [] (windowRead a t u) (by decide) (windowRead_ready a t u)
    (windowRead_port a t u) htake hgap rfl (windowRead_inDram hb)
  have hserved := dramGrant_read (show 0 < 4 by decide) (windowRead_ready a t u) (windowRead_port a t u) htake hgap rfl (windowRead_inDram hb)
  obtain rfl := Host.Outcome.next.inj (hserved.symm.trans hx)
  have hword : ((windowRead a t u).granted 0 0 (byteRead a) []).reqWord (byteRead a) = (windowRead a t u).reqWord (byteRead a) :=
    Option.some.inj ((State.dramReadFor_data ..).symm.trans hdata)
  rw [windowByte ha hb, windowByte ha hb, State.granted_now, windowRead_grantAt htu] at hword
  exact hword.symm

/-- O42 holds exactly when the window's bytes are steady. The window is `Config.sherdByte`, which has no body: the model does not say whether it is,
so neither O42 nor its negation follows from the model. -/
theorem dramCommands_iff_sherdsSteady : Obligations.DramCommands ↔ SherdsSteady := by
  refine ⟨fun h a t u ha hb => ?_, dramCommands_of_steady⟩
  rcases Nat.le_total t u with htu | hut
  · exact sherdByte_of_dramCommands h ha hb htu
  · exact (sherdByte_of_dramCommands h ha hb hut).symm

end Sys2Proof.Machine
